-- ==== Sys2Proof/Word.lean ====
section
/-! DEFINITION. The word and byte types and their plainest arithmetic. -/

namespace Sys2Proof

/-- A parameter word: 32 bits (R12). -/
abbrev Word := BitVec 32

/-- A byte of the image, a frame or a record. -/
abbrev Byte := BitVec 8

end Sys2Proof
end

