-- ==== Sys2Proof/Syntax.lean ====
section
/-! DEFINITION. The commands the block takes: one constructor per row of spec/opcode_table.json, with the row's
operands. A command names the event or the request; what an analogue circuit, a cable or another station presents at
that moment (a reading, a frame, a duration) comes with it as an operand. -/

namespace Sys2Proof

/-- The commands. -/
inductive Instr where
  /-- CELL_CHECK_FAILURE (R28): A cell's dual-rail completion check fails. The cell repeats the transfer once and
     counts a retry that passes, or reports a block failure if the retry fails. -/
  | cellCheckFailure (r : Fin 8) (block : Fin 16) (passed : Bool)
  /-- BLOCK_FAILURE (R31): An uncorrectable ECC error or a cell report makes the block abandon its operation, scrub
     its memories, record source 19 and resume; an abandoned invocation is re-issued on another lane. -/
  | blockFailure (r : Fin 8) (block : Fin 16)
  /-- CORRECTABLE_ECC_ERROR (R34): A single-bit ECC error is corrected on read, written back corrected and counted; it
     is not a block failure. -/
  | correctableEccError (r : Fin 8)
  /-- PATROL_SCRUB_PASS (R34): The steward completes a full patrol scrub pass over its region's memories and records
     source 16. -/
  | patrolScrubPass (r : Fin 8) (corrected : BitVec 32)
  /-- UNFENCE (R35): The region block's unfence command is refused, or it starts the self-test of the named fenced
     block. -/
  | unfence (r : Fin 8) (block : Fin 16)
  /-- BLOCK_SELF_TEST_DONE (R35): An unfence self-test ends. A pass returns the block to service at the next cycle
     boundary, or at once if the engine is stopped, and records source 21; a failure leaves the block fenced. -/
  | blockSelfTestDone (r : Fin 8) (ok : Bool)
  /-- RETRAIN (R41): The region block's retrain command starts a training attempt on every link that is down and not
     latched. -/
  | retrain (r : Fin 8)
  /-- REGION_CLEAR_COUNTERS (R54): The clear_counters command clears the link, ECC and retry counts and the failed
     word of the region block. -/
  | regionClearCounters (r : Fin 8)
  /-- FLIT_RECEIVE (R39): A flit arrives on a link. It is accepted if its CRC checks; otherwise replay is requested. -/
  | flitReceive (r : Fin 8) (link : Fin 4) (kind : Fin 3) (number : BitVec 32) (body : List (BitVec 32) × BitVec 16)
  /-- LINK_SILENCE_TIMEOUT (R40): No flit with a valid CRC has arrived on a link for 100 ticks, so the link goes down. -/
  | linkSilenceTimeout (r : Fin 8) (link : Fin 4)
  /-- LINK_CONTROL_FLIT (R40): Every 10 µs each link sends an urgent link-control flit in each direction. -/
  | linkControlFlit (r : Fin 8) (link : Fin 4)
  /-- LINK_RETRAIN_ATTEMPT (R41): 10 ms after going down, and every 10 ms after a failed training, a link that is not
     latched retrains; success restores routes and records source 18. -/
  | linkRetrainAttempt (r : Fin 8) (link : Fin 4) (trained : Bool)
  /-- BEACON (R45): Every 250 ticks from the end of S2, the lead sends a beacon to every region. -/
  | beacon
  /-- BEACON_RECEIVE (R45): A region receives a beacon, restarts its silence count and sends an acknowledgement. -/
  | beaconReceive (r : Fin 8)
  /-- BEACON_ACK_RECEIVE (R45): The lead receives a region's beacon acknowledgement. -/
  | beaconAckReceive (r : Fin 8)
  /-- BEACON_GAP (R46): The lead has missed a region's acknowledgements for 1,000 ticks and records source 23. -/
  | beaconGap (r : Fin 8)
  /-- BEACON_SILENCE_TIMEOUT (R46): A region has received no beacon for 2,000 ticks, and its field guard enters region
     fence with the actions of R47. -/
  | beaconSilenceTimeout (r : Fin 8)
  /-- ACK_TIMEOUT (R46): The lead has received no acknowledgement from a region for 2,000 ticks. It declares the
     region fenced, sends a fence order, and records sources 22 and 27. -/
  | ackTimeout (r : Fin 8)
  /-- FENCE_ORDER (R46): A region receives a fence order from the lead and enters region fence. -/
  | fenceOrder (r : Fin 8)
  /-- JUNCTION_TEMP_UPDATE (R51): Every 10 ms the region updates tj and pace; 105 °C records source 26, and 125 °C or
     more is a module-level fault. -/
  | junctionTempUpdate (r : Fin 8) (tj : BitVec 16) (pace : BitVec 32)
  /-- CLOCK_LOST (R58): Supervision declares a domain clock lost, records source 24, and the domain's units behave as
     Table 2.2 gives. -/
  | clockLost (r : Fin 8) (d : Fin 8) (hz : BitVec 32)
  /-- CLOCK_RETURN (R58): A lost domain clock returns within tolerance for one full window, held data crosses first,
     and source 24 is recorded. -/
  | clockReturn (r : Fin 8) (d : Fin 8) (hz : BitVec 32)
  /-- TB_LOSS_FENCE (R60): TB edges are absent for 8 backup-oscillator periods, and the field guard enters region
     fence. -/
  | tbLossFence
  /-- COUNT_TRANSFER (R66): A count tongs transfers its Gray-coded counter, and the fabric side adds the modulo-2^16
     difference to its running total. -/
  | countTransfer (src : Fin 130) (count : BitVec 16 × Bool)
  /-- COUNT_OVERRUN (R67): The counter advances 32,768 beyond the count last acknowledged. The overrun bit is set,
     source 25 is recorded, and the next difference is flagged. -/
  | countOverrun (src : Fin 130)
  /-- TONGS_RESYNC (R71): After a reset of either side, the tongs resynchronise, discard and count transfers in
     flight, and restart by kind. -/
  | tongsResync (r : Fin 8) (d : Fin 8) (inFlight : BitVec 12) (src : Option (Fin 130))
  /-- CLEAR_CROSSINGS (R74): The clear_crossings command clears the crossing counts of words 0x0011–0x0018. -/
  | clearCrossings (r : Fin 8)
  /-- LS_INPUT_STEP (R77): LS-A or LS-B crosses its absent or present threshold after 100 µs persistence and records
     source 2. -/
  | lsInputStep (b : Bool) (present : Bool) (millivolts : BitVec 16)
  /-- LS_LOW_HIGH_STEP (R77): ORed LS enters or leaves its low or high warning step and records source 3. -/
  | lsLowHighStep (high : Bool) (entered : Bool) (millivolts : BitVec 16)
  /-- POWER_FAIL (R81): ORed LS below 14.0 V declares power fail. The hold-up sequence of Table 3.2 runs to its end,
     and the module then resets. -/
  | powerFail (millivolts : BitVec 16) (lsReturned : Bool)
  /-- GS_STEP (R79): A region's GS crosses a warning, reduced, off or absent threshold. The step is entered or left
     and source 5 is recorded. -/
  | gsStep (r : Fin 8) (step : Fin 4) (entered : Bool) (millivolts : BitVec 16)
  /-- GS_OFF_QUALIFIED (R79): GS has held 18.0 V for 100 ms, so the off step ends and the DOs take their precedence
     values. -/
  | gsOffQualified (r : Fin 8) (millivolts : BitVec 16)
  /-- MS_STEP (R77): A region's MS enters or leaves its low or high step. Both driver stages switch off or may return,
     and source 6 is recorded. -/
  | msStep (r : Fin 8) (what : Fin 3) (millivolts : BitVec 16)
  /-- SUPPLY_MEASUREMENT_UPDATE (R91): Every 10 ms on the tick grid, the supply voltage fields and bp_temp are
     updated. -/
  | supplyMeasurementUpdate (lsA : BitVec 16) (lsB : BitVec 16) (lsOr : BitVec 16) (core : BitVec 16) (scap : BitVec 16) (bpTemp : BitVec 16) (gs : List (BitVec 16)) (ms : List (BitVec 16))
  /-- CORE_VOLTAGE_FAULT (R90): A core voltage outside 0.85–0.95 V is a module-level fault. -/
  | coreVoltageFault (millivolts : BitVec 16)
  /-- COMPARATOR_ASSERT (R86): An always-on comparator asserts. Its stamp is latched and assertions are counted;
     source 7 is recorded if the recorder runs, and a set wake bit starts the module from S0. -/
  | comparatorAssert (k : Fin 4)
  /-- COMPARATOR_CLEAR (R85): An always-on comparator's condition clears. -/
  | comparatorClear (k : Fin 4)
  /-- SCAP_EXHAUSTED (R84): The supercapacitor falls below 1.60 V, and the always-on domain stops, losing the
     calendar. -/
  | scapExhausted
  /-- DORMANT (R87): The dormant command, from the engineer role in a module not holding the lease, makes the module
     de-energise and enter S0 at the next cycle boundary. -/
  | dormant (session : Fin 16)
  /-- S1_QUALIFIED (R92): ORed LS, core, TB and hold-up charge qualify, so S1 ends and S2 begins. ORed LS and core
     voltage, in mV, held for 100 ms; the hold-up capacitors are charged. -/
  | s1Qualified (lsMv : BitVec 16) (coreMv : BitVec 16) (charged : Bool)
  /-- S2_ENUMERATED (R96): Every region has answered and the links are trained, so the station ports come up and S3
     begins, or the module halts. Bit 4r + k of trained: link k of region r; bit r of answered; the pair lengths of
     NA and NB with their fault codes. -/
  | s2Enumerated (trained : BitVec 32) (answered : BitVec 8) (speedA : Fin 4) (speedB : Fin 4) (cables : List (BitVec 32))
  /-- S3_SELF_TEST_DONE (R97): The self-tests of Table 4.3 are complete. Failures fence blocks or halt the module, and
     the recorder mounts the store. Failed tests: region, block (or link, or domain), row of Table 4.3. -/
  | s3SelfTestDone (fails : List (Fin 8 × Fin 16 × Fin 10)) (retainedOk : Bool)
  /-- S4_IMAGE_CHECKED (R138): Slot selection and the image check end; an image is accepted and loaded, or the module
     halts. -/
  | s4ImageChecked
  /-- S5_SURVEY_DONE (R106): Every surveyed target has a result. Expectations are evaluated, routing is compared, and
     axes take their start state. Results: kind, index, quantity, element, value; the hold-up estimate in 0.1 ms. -/
  | s5SurveyDone (results : List (Fin 8 × Fin 256 × Fin 256 × Fin 8 × BitVec 32)) (holdup : BitVec 16)
  /-- S6_NEGOTIATED (R414): Partner negotiation concludes with an outcome of Table 14.2. -/
  | s6Negotiated
  /-- S8_ENTRY (R95): The module enters run, records source 0, stores start_ms and begins the first cycle. -/
  | s8Entry
  /-- SERVICE_RESTART (R93): The restart request runs hold-up steps 2–6 and restarts the module at S1; it is refused
     by a holder with a synchronised shadow. -/
  | serviceRestart (session : Fin 16) (seq : BitVec 32) (rid : BitVec 16) (mac : List Byte)
  /-- SURVEY (R111): The survey command starts an on-demand survey of one target, or is refused. -/
  | survey (kind : Fin 8) (index : Fin 256)
  /-- SURVEY_COMPLETE (R107): An on-demand survey ends. Results are stored, expectations are judged, an out-of-service
     hold may begin, and source 13 is recorded. Results: quantity code of Table 4.4, element, value as the record
     word takes it. -/
  | surveyComplete (results : List (Fin 256 × Fin 8 × BitVec 32))
  /-- TEMPER (R112): The temper command holds the channel and switches its terminals to the reference path, or is
     refused. -/
  | temper (kind : Fin 8) (index : Fin 256)
  /-- TEMPER_ZERO_DONE (R241): The zero step of temper finds the offset. The offset found, a signed number of 0.1 ppm
     of span. -/
  | temperZeroDone (offset : BitVec 32)
  /-- TEMPER_GAIN_DONE (R241): The gain step of temper finds the gain against the reference. -/
  | temperGainDone (gain : BitVec 32)
  /-- TEMPER_COMPLETE (R241): Temper restores the terminals and applies the new calibration whole at the next sample,
     or rejects a correction over 0.5 %, and records source 13. -/
  | temperComplete
  /-- RETURN_TO_SERVICE (R109): The return_to_service command surveys an out-of-service target, which returns at the
     next cycle boundary if every on-demand expectation passes. -/
  | returnToService (kind : Fin 8) (index : Fin 256)
  /-- BEGIN (R141): The begin command opens an image transfer and erases the target slot. -/
  | imageBegin (session : Fin 16)
  /-- ERASE_COMPLETE (R141): The erase of the target slot completes and the transfer accepts chunks. -/
  | eraseComplete
  /-- CHUNK (R452): A chunk message writes contiguous image bytes to the target slot, or is refused. -/
  | chunkWrite (session : Fin 16) (seq : BitVec 32) (rid : BitVec 16) (offset : BitVec 32) (data : List Byte) (mac : List Byte)
  /-- VERIFY (R141): The verify command applies the full image check to the target slot and reports the code. -/
  | imageVerify (session : Fin 16)
  /-- COMMIT (R141): The commit command, after a verify with code 0, writes a slot-select record naming the target
     slot and records source 14. -/
  | imageCommit (session : Fin 16) (fb : Bool)
  /-- SELECT (R141): The select command verifies a slot and writes a slot-select record naming it, or refuses with
     result 6. -/
  | imageSelect (session : Fin 16) (slot : Fin 2) (fb : Bool)
  /-- ABORT (R143): The abort command from the owning session abandons the open transfer. -/
  | imageAbort (session : Fin 16)
  /-- TRANSFER_TIMEOUT (R142): 60 s pass with no chunk or command, so the transfer is aborted. -/
  | transferTimeout
  /-- CYCLE_BOUNDARY (R154): At the cycle boundary, queued online changes are applied, then force edits, and the
     minimum gap elapses. -/
  | cycleBoundary
  /-- INPUT_LATCH (R154): On the lead's cycle-start order, each region records the latch tick and copies channel and
     station images into its input image with forces applied. -/
  | inputLatch
  /-- EXECUTION_COMPLETE (R154): Every region has committed its last invocation, so the execution phase ends. -/
  | executionComplete
  /-- OUTPUT_WRITE (R162): On the lead's write order, each region resolves every output under the precedence of Table
     6.6 and writes all its outputs in one step. -/
  | outputWrite
  /-- WATCHDOG_FIRE (R167): The cycle watchdog reaches wd_limit. Execution is abandoned, outputs go to their safe
     values, the lease is yielded and the engine stops until restart. -/
  | watchdogFire
  /-- ONLINE_CHANGE_ARRIVAL (R176): An online change arrives at the lead and is queued or refused with a reason. -/
  | onlineChangeArrival (addr : BitVec 32) (value : BitVec 32)
  /-- FORCE_SET (R169): A force set message is judged and refused, or takes effect at the next boundary and records
     source 94. -/
  | forceSet (session : Fin 16) (seq : BitVec 32) (rid : BitVec 16) (kind : BitVec 8) (type : BitVec 8) (region : BitVec 8) (sub : BitVec 8) (index : BitVec 32) (valueLo : BitVec 32) (valueHi : BitVec 32) (mac : List Byte)
  /-- FORCE_RELEASE (R541): A force release message frees an entry at the next boundary, or is answered at once. -/
  | forceRelease (session : Fin 16) (seq : BitVec 32) (rid : BitVec 16) (index : BitVec 32) (mac : List Byte)
  /-- RELEASE_ALL (R181): The release_all command releases every force entry at the next boundary; it is refused in a
     shadow. -/
  | releaseAll
  /-- ENGINE_CLEAR_STATS (R180): The clear_stats command resets cycle_max and cycle_min. -/
  | engineClearStats
  /-- AND (R183): An AND invocation sets q when every input is true. -/
  | runAnd (seq : Fin 65536)
  /-- OR (R183): An OR invocation sets q when any input is true. -/
  | runOr (seq : Fin 65536)
  /-- XOR (R183): An XOR invocation sets q when an odd number of inputs are true. -/
  | runXor (seq : Fin 65536)
  /-- NOT (R183): A NOT invocation inverts its input. -/
  | runNot (seq : Fin 65536)
  /-- WAND (R183): A WAND invocation gives the bitwise and of its inputs. -/
  | runWand (seq : Fin 65536)
  /-- WOR (R183): A WOR invocation gives the bitwise or of its inputs. -/
  | runWor (seq : Fin 65536)
  /-- WXOR (R183): A WXOR invocation gives the bitwise exclusive or of its inputs. -/
  | runWxor (seq : Fin 65536)
  /-- WNOT (R183): A WNOT invocation gives the bitwise complement of its input. -/
  | runWnot (seq : Fin 65536)
  /-- SHIFT (R183): A SHIFT invocation shifts a word left or logically right by n. -/
  | runShift (seq : Fin 65536)
  /-- BIT (R183): A BIT invocation extracts bit n, or sets x when n is out of range. -/
  | runBit (seq : Fin 65536)
  /-- PACK (R183): A PACK invocation packs BOOL inputs into a word. -/
  | runPack (seq : Fin 65536)
  /-- UNPACK (R183): An UNPACK invocation unpacks a word into BOOL outputs. -/
  | runUnpack (seq : Fin 65536)
  /-- EQ (R193): An EQ invocation compares two typed values for equality. -/
  | runEq (seq : Fin 65536)
  /-- NE (R193): An NE invocation compares two typed values for inequality. -/
  | runNe (seq : Fin 65536)
  /-- GT (R193): A GT invocation tests in1 > in2. -/
  | runGt (seq : Fin 65536)
  /-- GE (R193): A GE invocation tests in1 ≥ in2. -/
  | runGe (seq : Fin 65536)
  /-- LT (R193): An LT invocation tests in1 < in2. -/
  | runLt (seq : Fin 65536)
  /-- LE (R193): An LE invocation tests in1 ≤ in2. -/
  | runLe (seq : Fin 65536)
  /-- CMPH (R193): A CMPH invocation compares with a threshold and hysteresis band. -/
  | runCmph (seq : Fin 65536)
  /-- ADD (R187): An ADD invocation sums its inputs with saturation. -/
  | runAdd (seq : Fin 65536)
  /-- SUB (R187): A SUB invocation subtracts in2 from in1. -/
  | runSub (seq : Fin 65536)
  /-- MUL (R187): A MUL invocation multiplies its inputs with saturation. -/
  | runMul (seq : Fin 65536)
  /-- DIV (R187): A DIV invocation divides in1 by in2. -/
  | runDiv (seq : Fin 65536)
  /-- MOD (R187): A MOD invocation gives the remainder with the sign of in1. -/
  | runMod (seq : Fin 65536)
  /-- ABS (R187): An ABS invocation gives the absolute value. -/
  | runAbs (seq : Fin 65536)
  /-- NEG (R187): A NEG invocation negates its input. -/
  | runNeg (seq : Fin 65536)
  /-- MIN (R187): A MIN invocation gives the smallest input, ignoring NaN. -/
  | runMin (seq : Fin 65536)
  /-- MAX (R187): A MAX invocation gives the largest input, ignoring NaN. -/
  | runMax (seq : Fin 65536)
  /-- SQRT (R187): A SQRT invocation gives the square root. -/
  | runSqrt (seq : Fin 65536)
  /-- LN (R187): An LN invocation gives the natural logarithm. -/
  | runLn (seq : Fin 65536)
  /-- EXP (R187): An EXP invocation gives the exponential. -/
  | runExp (seq : Fin 65536)
  /-- POW (R187): A POW invocation raises in1 to in2. -/
  | runPow (seq : Fin 65536)
  /-- POLY (R187): A POLY invocation evaluates a fifth-order polynomial by Horner's rule. -/
  | runPoly (seq : Fin 65536)
  /-- SEL (R183): A SEL invocation selects in1 or in0 by g. -/
  | runSel (seq : Fin 65536)
  /-- MUX (R183): A MUX invocation selects input k, clamped. -/
  | runMux (seq : Fin 65536)
  /-- LIMIT (R188): A LIMIT invocation clamps in to lo–hi under rule LW. -/
  | runLimit (seq : Fin 65536)
  /-- MOVE (R183): A MOVE invocation copies in while en is true. -/
  | runMove (seq : Fin 65536)
  /-- LAG (R189): A LAG invocation applies a timed first-order lag. -/
  | runLag (seq : Fin 65536)
  /-- RATE (R189): A RATE invocation gives the rate of change per second. -/
  | runRate (seq : Fin 65536)
  /-- INTEG (R189): An INTEG invocation integrates over time with clamping. -/
  | runInteg (seq : Fin 65536)
  /-- RAMP (R189): A RAMP invocation moves q toward target at the up and down rates. -/
  | runRamp (seq : Fin 65536)
  /-- TON (R159): A TON invocation runs an on-delay timer on the latch tick. -/
  | runTon (seq : Fin 65536)
  /-- TOF (R159): A TOF invocation runs an off-delay timer. -/
  | runTof (seq : Fin 65536)
  /-- TP (R159): A TP invocation runs a non-retriggerable pulse timer. -/
  | runTp (seq : Fin 65536)
  /-- RTO (R159): An RTO invocation runs a retentive timer. -/
  | runRto (seq : Fin 65536)
  /-- PGEN (R159): A PGEN invocation generates an on/off pulse train. -/
  | runPgen (seq : Fin 65536)
  /-- DEBNC (R159): A DEBNC invocation debounces a BOOL input. -/
  | runDebnc (seq : Fin 65536)
  /-- BUMPSW (R189): A BUMPSW invocation switches bumplessly between two values over tt. -/
  | runBumpsw (seq : Fin 65536)
  /-- CTU (R161): A CTU invocation counts rising edges up. -/
  | runCtu (seq : Fin 65536)
  /-- CTD (R161): A CTD invocation counts rising edges down. -/
  | runCtd (seq : Fin 65536)
  /-- CTUD (R161): A CTUD invocation counts up and down within lo–hi. -/
  | runCtud (seq : Fin 65536)
  /-- CNTD (R189): A CNTD invocation gives the difference, total and rate of a CNT count. -/
  | runCntd (seq : Fin 65536)
  /-- R_TRIG (R161): An R_TRIG invocation detects a rising edge between latches. -/
  | runRTrig (seq : Fin 65536)
  /-- F_TRIG (R161): An F_TRIG invocation detects a falling edge between latches. -/
  | runFTrig (seq : Fin 65536)
  /-- SR (R183): An SR invocation is a set-dominant latch. -/
  | runSr (seq : Fin 65536)
  /-- RS (R183): An RS invocation is a reset-dominant latch. -/
  | runRs (seq : Fin 65536)
  /-- ESTAMP (R161): An ESTAMP invocation stamps a rising edge with the latch tick and latch calendar stamp. -/
  | runEstamp (seq : Fin 65536)
  /-- TOGGLE (R161): A TOGGLE invocation inverts q at each rising edge. -/
  | runToggle (seq : Fin 65536)
  /-- SCALE (R196): A SCALE invocation scales linearly between spans. -/
  | runScale (seq : Fin 65536)
  /-- SCALEQ (R196): A SCALEQ invocation scales with status propagation. -/
  | runScaleq (seq : Fin 65536)
  /-- LINTAB (R197): A LINTAB invocation interpolates in a table of points. -/
  | runLintab (seq : Fin 65536)
  /-- CONV (R187): A CONV invocation converts between numeric types. -/
  | runConv (seq : Fin 65536)
  /-- CAST_UR (R183): A CAST_UR invocation reinterprets UINT32 bits as REAL32. -/
  | runCastUr (seq : Fin 65536)
  /-- CAST_RU (R183): A CAST_RU invocation reinterprets REAL32 bits as UINT32. -/
  | runCastRu (seq : Fin 65536)
  /-- CAST_UI (R183): A CAST_UI invocation reinterprets UINT32 as INT32. -/
  | runCastUi (seq : Fin 65536)
  /-- CAST_IU (R183): A CAST_IU invocation reinterprets INT32 as UINT32. -/
  | runCastIu (seq : Fin 65536)
  /-- STSPLIT (R183): An STSPLIT invocation splits STATUS16 into bits. -/
  | runStsplit (seq : Fin 65536)
  /-- STMERGE (R183): An STMERGE invocation merges STATUS16 values. -/
  | runStmerge (seq : Fin 65536)
  /-- CALSPLIT (R183): A CALSPLIT invocation splits a calendar stamp into UTC fields. -/
  | runCalsplit (seq : Fin 65536)
  /-- CHGRP (R198): A CHGRP invocation delivers all 16 channel images of a region from the same latch. -/
  | runChgrp (seq : Fin 65536)
  /-- LOOPSUP (R199): A LOOPSUP invocation passes the mode request, manual value and setpoint to its loop and reads
     back the loop state. -/
  | runLoopsup (seq : Fin 65536)
  /-- ALM (R183): An ALM invocation raises low and high alarms with deadband. -/
  | runAlm (seq : Fin 65536)
  /-- AXMOVE (R312): An AXMOVE invocation requests a move on a rising edge of exec and reports the act's outcome. -/
  | runAxmove (seq : Fin 65536)
  /-- AXHOME (R318): An AXHOME invocation requests homing in mode 1–6. -/
  | runAxhome (seq : Fin 65536)
  /-- AXSTOP (R312): An AXSTOP invocation requests a stop, or a quick stop, and refuses moves while stop is true. -/
  | runAxstop (seq : Fin 65536)
  /-- AXGEAR (R329): An AXGEAR invocation engages gearing on a rising edge of en and disengages it on a falling edge. -/
  | runAxgear (seq : Fin 65536)
  /-- AXSTAT (R190): An AXSTAT invocation reports the latched axis state. -/
  | runAxstat (seq : Fin 65536)
  /-- CANFILT (R201): A CANFILT invocation filters receive-ring frames up to the latched position into an object. -/
  | runCanfilt (seq : Fin 65536)
  /-- CANOBJ (R201): A CANOBJ invocation reads a receive object as latched. -/
  | runCanobj (seq : Fin 65536)
  /-- CANSEND (R202): A CANSEND invocation writes a send object at the output write and requests transmission. -/
  | runCansend (seq : Fin 65536)
  /-- PORTST (R190): A PORTST invocation reports the port's latched state. -/
  | runPortst (seq : Fin 65536)
  /-- PORTRST (R395): A PORTRST invocation restarts a latched-off port on a rising edge of exec. -/
  | runPortrst (seq : Fin 65536)
  /-- PUB (R204): A PUB invocation writes words into a publication slot at the output write. -/
  | runPub (seq : Fin 65536)
  /-- SUB_BLOCK (R204): A SUB invocation reads a latched subscription with its status and age. -/
  | runSubBlock (seq : Fin 65536)
  /-- EVRAISE (R205): An EVRAISE invocation records source 95 on a rising edge of trig. -/
  | runEvraise (seq : Fin 65536)
  /-- PFIELD (R483): A PFIELD invocation writes a panel dynamic field. -/
  | runPfield (seq : Fin 65536)
  /-- PBLINK (R490): A PBLINK invocation enables a blink rectangle with a period. -/
  | runPblink (seq : Fin 65536)
  /-- PPAGE (R489): A PPAGE invocation requests a panel page. -/
  | runPpage (seq : Fin 65536)
  /-- PSTAT (R190): A PSTAT invocation reports the latched panel state. -/
  | runPstat (seq : Fin 65536)
  /-- PAIRST (R190): A PAIRST invocation reports the pair state latched in the holder. -/
  | runPairst (seq : Fin 65536)
  /-- SFST (R206): An SFST invocation reports a safety function's state. -/
  | runSfst (seq : Fin 65536)
  /-- PARWR (R207): A PARWR invocation submits one online change on a rising edge of req. -/
  | runParwr (seq : Fin 65536)
  /-- PARRD (R208): A PARRD invocation reads a parameter word at the input latch. -/
  | runParrd (seq : Fin 65536)
  /-- PERF (R208): A PERF invocation reads a performance counter at the input latch. -/
  | runPerf (seq : Fin 65536)
  /-- FRONT_END_RECONFIGURED (R211): The switch matrix and front end take the new mode, the converter is reset, and
     mode_now changes. -/
  | frontEndReconfigured (g : Fin 128)
  /-- MODE_SETTLED (R211): The first settled result of the new mode is held, and the image is valid from the next
     latch. -/
  | modeSettled (g : Fin 128) (raw : BitVec 24) (x : BitVec 32) (y : BitVec 32)
  /-- CONVERSION_RESULT (R214): A converter delivers a result, which is filtered, calibrated and classified into
     STATUS16, with NE 43 bands and RTD faults judged. -/
  | conversionResult (g : Fin 128) (raw : BitVec 24) (x : BitVec 32) (y : BitVec 32)
  /-- CJ_SENSOR_READ (R224): The cold-junction sensors are read and judged; a failure or recovery records source 37. -/
  | cjSensorRead (r : Fin 8) (ta : BitVec 16) (tb : BitVec 16)
  /-- OPEN_TC_CHECK (R225): Every 1 s a thermocouple channel pulls 1 µA and checks for an open thermocouple. -/
  | openTcCheck (g : Fin 128) (microvolts : BitVec 32)
  /-- BELLOWS_MEASUREMENT (R230): Every 2 ms the channel measures V_t and sets the bellows voltage. V_t in mV and the loop
     current in µA. -/
  | bellowsMeasurement (g : Fin 128) (measured : BitVec 16 × BitVec 32)
  /-- COMPLIANCE_ENTRY (R232): A shortfall at V_max lasts 10 ms. Compliance is set, the achieved current reported, and
     source 35 recorded. -/
  | complianceEntry (g : Fin 128) (microamps : BitVec 32)
  /-- COMPLIANCE_END (R232): The current stays within 0.05 mA of the command, or the comp_alarm judgement clears, for
     100 ms; the end is recorded. -/
  | complianceEnd (g : Fin 128) (microamps : BitVec 32)
  /-- OPEN_LOOP (R236): An AO-I loop current below 0.1 mA near V_max for 10 ms sets open_loop. -/
  | openLoop (g : Fin 128) (termMv : BitVec 16) (microamps : BitVec 32)
  /-- THERMAL_FOLDBACK (R235): The output stage reaches 150 °C and folds back its current, sets therm and fault, and
     records source 36. -/
  | thermalFoldback (g : Fin 128) (stageTj : BitVec 16) (delivered : BitVec 32)
  /-- SPLIT_SOURCE_MEASUREMENT (R238): Every 250 µs both shares of a shared AO-I are measured and the holder trims its
     share. -/
  | splitSourceMeasurement (g : Fin 128) (own : BitVec 32) (partner : BitVec 32) (partnerTempers : Bool)
  /-- DI_SAMPLE (R250): A sampling window ends. The counter filter, monitored classification and axis switch states
     update. -/
  | diSample (g : Fin 128) (reading : BitVec 32)
  /-- CNT_GATE_END (R257): A counting gate ends and the frequency and over-rate condition are computed. -/
  | cntGateEnd (g : Fin 128) (edges : BitVec 32) (span25ns : BitVec 32)
  /-- PWM_PERIOD_END (R260): A PWM period ends and the new duty and period take effect. -/
  | pwmPeriodEnd (g : Fin 128)
  /-- LOAD_CURRENT_MEASUREMENT (R261): Every 1 ms the switch current is measured. -/
  | loadCurrentMeasurement (g : Fin 128) (tenthMa : BitVec 16) (termMv : BitVec 16)
  /-- SWITCH_TRIP (R262): An overload lasts overload_ms or the junction reaches 170 °C. The switch opens, the trip is
     recorded, and a third trip within 60 s latches. -/
  | switchTrip (g : Fin 128) (thermal : Bool) (milliamps : BitVec 16)
  /-- SWITCH_RETRY (R263): retry_ms has passed and the junction is below 150 °C, so the switch closes again if the
     command is on. -/
  | switchRetry (g : Fin 128)
  /-- BACK_FED (R265): An open DO reads 10 V or more for 10 ms; back-fed is declared, the feeder sought, and source 43
     recorded. -/
  | backFed (g : Fin 128) (feeder : Option (Fin 128))
  /-- OPEN_LOAD (R267): A closed switch carries less than open_thr for 100 ms, so open load is set and source 42
     recorded. -/
  | openLoad (g : Fin 128) (tenthMa : BitVec 16) (ended : Bool)
  /-- STUCK_ON (R268): An open switch carries more than 5 mA for 10 ms, so stuck_on is set and source 44 recorded. -/
  | stuckOn (g : Fin 128) (tenthMa : BitVec 16)
  /-- EXT_SRC (R270): An AO-I readback exceeds its command by 1 mA for 10 ms, so the stage turns off and source 45 is
     recorded. -/
  | extSrc (g : Fin 128) (microamps : BitVec 32)
  /-- EXT_SRC_END (R270): The foreign current stays below 0.5 mA for 100 ms, so the stage resumes. -/
  | extSrcEnd (g : Fin 128) (microamps : BitVec 32)
  /-- SHARED_DO_EXCHANGE (R277): Every 1 ms the modules exchange shared DO commands and currents, and share_low is
     judged. -/
  | sharedDoExchange (g : Fin 128) (partnerOn : Bool) (partnerLoad : BitVec 16) (low100ms : Bool)
  /-- LOOP_SAMPLE_DUE (R284): A loop's sample instant arrives; its computation is queued, and an uncommitted previous
     computation is abandoned as a miss. -/
  | loopSampleDue (n : Fin 256)
  /-- LOOP_COMPUTATION_COMMIT (R288): A loop computation completes and commits its states and output, which is written
     to its destination. -/
  | loopComputationCommit (n : Fin 256) (time : BitVec 16)
  /-- RESET_STATES (R296): The reset_states command clears every section state at the loop's next sample. -/
  | resetStates (n : Fin 256)
  /-- LOOP_CLEAR_STATS (R302): The clear_stats command clears comp_max and missed. -/
  | loopClearStats (n : Fin 256)
  /-- CLEAR_SLICE (R303): The clear_slice command clears load_max and misses_total. -/
  | clearSlice (r : Fin 8)
  /-- SLICE_LOAD_WINDOW (R303): A 100 ms load window ends and load_last is computed. -/
  | sliceLoadWindow (r : Fin 8)
  /-- GENERATOR_UPDATE (R310): Every 10 µs the profile generator advances speed and position, moves through segments,
     homing steps, gearing and soft limits, and ends acts. -/
  | generatorUpdate (x : Fin 16) (ia : BitVec 16) (ib : BitVec 16) (tj : BitVec 16)
  /-- HOLD_CURRENT_SWITCH (R322): After hold_delay at standstill the set current changes to i_hold, or the stage
     switches off with idle_off. -/
  | holdCurrentSwitch (x : Fin 16)
  /-- DRIVER_FAULT (R327): Overcurrent, open phase or bridge overtemperature switches the stage off and records source
     51. -/
  | driverFault (x : Fin 16) (phaseB : Bool) (cause : Fin 3)
  /-- CLEAR_FAULT (R327): The clear_fault command clears a driver fault whose cause is gone; it is refused in a
     shadow. -/
  | clearFault (x : Fin 16)
  /-- AXIS_CLEAR_STATS (R335): The clear_stats command clears moves and travel. -/
  | axisClearStats (x : Fin 16)
  /-- ENCODER_Z_EDGE (R332): A Z edge copies the encoder count into z_count. -/
  | encoderZEdge (e : Fin 2)
  /-- SAFETY_CYCLE (R336): Every 500 µs a slice takes its inputs and the partner message, evaluates its functions,
     checks clocks and connections, and forms safety frames. -/
  | safetyCycle (r : Fin 8)
  /-- SAFETY_OUTPUT_SET (R336): At offset 400 µs the slice sets its safe output switches and cut masks. -/
  | safetyOutputSet (r : Fin 8)
  /-- SLICE_MESSAGE_SEND (R336): At offset 450 µs the slice sends its message on the slice link. -/
  | sliceMessageSend (r : Fin 8)
  /-- SLICE_MESSAGE_RECEIVE (R338): A partner slice message arrives and is cross-compared; three disagreements are a
     fault. -/
  | sliceMessageReceive (r : Fin 8)
  /-- SLICE_STOPPED (R340): A slice stops on a cause of Table 12.1, opens its safe outputs, trips every function of
     the pair, and records source 83. -/
  | sliceStopped (r : Fin 8) (cause : Fin 9)
  /-- SAFE_DI_SAMPLE (R344): Every 125 µs the slice samples a Safe-DI and filters level changes over t_f, including
     reset presses. -/
  | safeDiSample (g : Fin 128) (millivolts : BitVec 16)
  /-- DISCREPANCY_TIMEOUT (R351): A channel disagreement lasts t_disc, so the function enters state 5 and records
     source 81. -/
  | discrepancyTimeout (r : Fin 8) (sf : Fin 32)
  /-- OUTPUT_TEST_START (R348): Every t_test a safe output test begins, opening or closing one switch alone for 300
     µs. -/
  | outputTestStart (sf : Fin 32) (sink : Bool)
  /-- OUTPUT_TEST_END (R348): The 300 µs test ends and is judged; a failure sets out_fault and state 6 and records
     source 82. -/
  | outputTestEnd (sf : Fin 32) (tenthMa : BitVec 16)
  /-- START_TEST_DONE (R341): A slice start test ends, and the functions enter state 2 or 3 and source 84 is recorded,
     or the slice stays stopped. -/
  | startTestDone (k : Fin 4) (okEven : Bool) (okOdd : Bool)
  /-- SAFETY_FRAME_RECEIVE (R360): A consuming slice judges an arriving safety frame by the rules of Table 12.7. -/
  | safetyFrameReceive (k : Fin 16) (bytes : List Byte)
  /-- SLICE_RESTART (R373): The safety-engineer restart command stops both slices with cause 8 if running, then runs
     the start test. -/
  | sliceRestart (session : Fin 16) (r : Fin 8)
  /-- CLEAR_COUNTS (R372): The clear_counts command clears the slice's function and connection counts. -/
  | clearCounts (r : Fin 8)
  /-- CAN_FRAME_RECEIVED (R377): A frame completes on the bus and enters the ring, with station matching and pair
     sequence judgement. -/
  | canFrameReceived (r : Fin 8) (id : BitVec 29) (ide : Bool) (fd : Bool) (brs : Bool) (esi : Bool) (rtr : Bool) (data : List Byte)
  /-- TRANSMIT_START (R380): The bus becomes free and the port starts its pending frame of highest priority. -/
  | transmitStart (r : Fin 8)
  /-- TRANSMIT_COMPLETE (R381): A transmission succeeds. sent and tx_ok count, and noack and collision clear. -/
  | transmitComplete (r : Fin 8) (delay : BitVec 16)
  /-- TRANSMIT_ERROR (R393): A transmission ends in an error. Error counters move, states change, and noack, collision
     or single-shot failure are judged. -/
  | transmitError (r : Fin 8) (kind : Fin 6)
  /-- BUS_OFF_RECOVERY (R394): After 128 occurrences of 11 recessive bits, a bus-off port returns to error-active with
     its counters at 0. -/
  | busOffRecovery (r : Fin 8)
  /-- PORT_RESTART (R395): The port restart command resets the counters and history and rejoins the bus. -/
  | portRestart (r : Fin 8)
  /-- PORT_REJOIN (R395): After 11 recessive bits a restarting port rejoins the bus and records source 65 or 71. -/
  | portRejoin (r : Fin 8)
  /-- PORT_CLEAR_COUNTERS (R404): The clear_counters command clears the port's counts. -/
  | portClearCounters (r : Fin 8)
  /-- PERIODIC_SEND_DUE (R379): A send object's period elapses and a transmission is requested. -/
  | periodicSendDue (r : Fin 8) (j : Fin 128)
  /-- INHIBIT_END (R379): An object's inhibit time ends and a waiting request proceeds. -/
  | inhibitEnd (r : Fin 8) (j : Fin 128)
  /-- STATION_OUT_REFRESH (R387): out_refresh passes and the station's output frames are requested again. -/
  | stationOutRefresh (r : Fin 8) (station : Fin 64)
  /-- REFERENCE_MESSAGE (R391): A reference message completes, setting the current master and starting a basic cycle. -/
  | referenceMessage (r : Fin 8) (id : BitVec 11) (byte : BitVec 8)
  /-- REF_TIMEOUT (R391): No reference has begun for ref_timeout, so a potential master sends its own. -/
  | refTimeout (r : Fin 8)
  /-- WINDOW_START (R390): A schedule window begins. An exclusive object is sent, arbitration is allowed, or the
     window is free. -/
  | windowStart (r : Fin 8) (col : Fin 64)
  /-- SCHEDULE_ERROR (R392): No reference arrives within twice the basic cycle, so the port enters schedule error and
     records source 70. -/
  | scheduleError (r : Fin 8)
  /-- OFF_THE_BUS (R398): A fence, clock loss, hold or disabling takes the port off the bus and records source 71. -/
  | offTheBus (r : Fin 8)
  /-- HEARTBEAT (R411): Every 1,000 ticks the module sends a heartbeat on each lane. -/
  | heartbeat
  /-- LANE_FRAME_RECEIVE (R410): A pair-lane frame arrives and is checked by CRC-32C. -/
  | laneFrameReceive (lane : Fin 2) (crc : BitVec 32) (kind : Fin 16) (words : List (BitVec 32))
  /-- LANE_FAULT (R412): No valid frame on a lane for 3 ms while the other lane carries traffic, so lane fault is set
     and source 73 recorded. -/
  | laneFault (lane : Fin 2)
  /-- LANE_RETURN (R412): A lane carries valid frames for 100 ms, so it returns and source 73 is recorded. -/
  | laneReturn (lane : Fin 2)
  /-- PARTNER_LOST (R413): No valid frame on either lane for 5,000 ticks, so the partner is lost and source 74 is
     recorded. -/
  | partnerLost
  /-- OWNED_IMAGE_SEND (R413): Every 250 µs the module sends the images of its owned channels. -/
  | ownedImageSend
  /-- NEGOTIATION_FRAME (R414): Every 10 ms in S6 the module sends its negotiation values. -/
  | negotiationFrame
  /-- NEG_WAIT_TIMEOUT (R414): neg_wait passes without a partner, so the module becomes holder alone. -/
  | negWaitTimeout
  /-- LEASE_RENEWAL (R416): The holder sends a lease renewal on both lanes. -/
  | leaseRenewal
  /-- LEASE_EXPIRY (R416): The shadow's lease count expires, so it takes the lease with epoch + 1 and sets expired. -/
  | leaseExpiry
  /-- YIELD (R417): The holder yields, naming its last completed cycle; the shadow completes that cycle and takes the
     lease. -/
  | yieldLease (cycle : BitVec 32) (swap : Bool)
  /-- DUAL_HOLDING_RESOLVED (R418): Frames return to two holders; the one with the higher epoch stops its axes, yields
     to state 3 and records source 77. -/
  | dualHoldingResolved (partnerEpoch : BitVec 32)
  /-- MIRROR_RECORD (R419): The shadow receives a complete mirror record of a cycle and may begin that cycle. -/
  | mirrorRecord (latched : List (BitVec 32)) (ended : List (BitVec 32))
  /-- RESYNC_COMPLETE (R421): The copy is complete and the shadow applies it at one cycle boundary. -/
  | resyncComplete (cycle : BitVec 32) (words : List (BitVec 32 × BitVec 32)) (seqs : List (Fin 3 × BitVec 16 × BitVec 16)) (loops : List (List (BitVec 32))) (axes : List (List (BitVec 32)))
  /-- SWAP (R427): The swap command makes the holder yield at its next boundary, and the roles exchange. -/
  | swapLease (session : Fin 16)
  /-- HANDOVER (R431): The handover command stops the outgoing holder and passes the lease to the standby module. -/
  | handover (session : Fin 16)
  /-- HANDOVER_ORDER (R431): The incoming module receives the handover order, takes the lease, and starts from
     INSTINIT. -/
  | handoverOrder (epoch : BitVec 32) (outs : List (Fin 256 × BitVec 32)) (objs : List (Fin 8 × BitVec 32 × BitVec 16)) (pubs : List (Fin 256 × BitVec 16))
  /-- RESYNC (R433): The resync command makes a synchronised shadow resynchronise. -/
  | resync (session : Fin 16)
  /-- PAIR_CLEAR_COUNTERS (R433): The clear_counters command clears the pair counts. -/
  | pairClearCounters
  /-- SHARE_RAMP_END (R425): A 20 ms AO-I share ramp completes. -/
  | shareRampEnd (g : Fin 128)
  /-- PLUG_READ (R407): Every 1 s the routing plug is read, and a change records source 79. -/
  | plugRead (position : Fin 3) (words : List (BitVec 32))
  /-- PRESENCE_FRAME (R493): Every 10 ms before negotiation concludes, the module sends a presence frame for panel
     arbitration. -/
  | presenceFrame
  /-- STATION_LINK_LOSS (R437): A station port link goes down or returns and source 28 is recorded. -/
  | stationLinkLoss (port : Fin 2) (speed : Fin 4) (full : Bool)
  /-- PRP_SUPERVISION (R436): Every 2 s the module sends PRP supervision frames. -/
  | prpSupervision
  /-- SYNC (R441): A PTP Sync arrives. The offset is computed and the calendar is stepped or rate-adjusted, with lock
     judged. -/
  | ptpSync (port : Fin 2) (domain : BitVec 8) (sec : BitVec 48) (ns : BitVec 32) (corr : BitVec 64)
  /-- ANNOUNCE_TIMEOUT (R440): Three announce intervals pass without an Announce, so the master is lost. -/
  | announceTimeout (port : Fin 2)
  /-- LEAP_SECOND (R442): At midnight an announced leap second is inserted or deleted. -/
  | leapSecond
  /-- DATAGRAM_RECEIVE (R446): A station datagram arrives and is accepted or discarded, then delivered to
     subscriptions or to the safety slices. -/
  | datagramReceive (lan : Fin 2) (src : BitVec 48) (tag : Option (Fin 4096)) (trailer : Option (BitVec 16 × Fin 2)) (fragment : Bool) (payload : List Byte)
  /-- PUBLICATION_SEND (R445): A publication is sent after a change or at its repetition period. -/
  | publicationSend (pub : Fin 256)
  /-- SESSION_OPEN (R448): An open request is answered with a challenge, or refused. -/
  | sessionOpen (peer : BitVec 32) (port : BitVec 16) (seq : BitVec 32) (rid : BitVec 16) (role : BitVec 8) (nc : List Byte) (nm : List Byte) (sid : BitVec 16)
  /-- PROOF (R448): A proof request is checked and the session accepted, or counted as a failure that may lock out the
     address. -/
  | proofRequest (session : Fin 16) (rid : BitVec 16) (mac : List Byte)
  /-- SESSION_CLOSE (R450): A close request ends the session. -/
  | sessionClose (session : Fin 16) (seq : BitVec 32) (rid : BitVec 16) (mac : List Byte)
  /-- KEEPALIVE (R450): A keepalive request holds a session open. -/
  | keepalive (session : Fin 16) (seq : BitVec 32) (rid : BitVec 16) (mac : List Byte)
  /-- READ (R451): A read request returns the status and value of up to 64 words. -/
  | readWords (session : Fin 16) (seq : BitVec 32) (rid : BitVec 16) (addrs : List (BitVec 32)) (mac : List Byte)
  /-- WRITE (R451): A write request handles up to 16 address-value pairs in order under their access classes. -/
  | writeWords (session : Fin 16) (seq : BitVec 32) (rid : BitVec 16) (pairs : List (BitVec 32 × BitVec 32)) (mac : List Byte)
  /-- SET_KEY (R455): A set key request unmasks and stores a role key. -/
  | setKey (session : Fin 16) (seq : BitVec 32) (rid : BitVec 16) (target : BitVec 8) (masked : List Byte) (mac : List Byte)
  /-- KEY_SLOT (R456): A key slot request writes or revokes an Ed25519 key slot. -/
  | keySlot (session : Fin 16) (seq : BitVec 32) (rid : BitVec 16) (slot : BitVec 8) (op : BitVec 8) (key : List Byte) (mac : List Byte)
  /-- FUSE (R456): A fuse request sets the require-signature fuse for good. -/
  | fuse (session : Fin 16) (seq : BitVec 32) (rid : BitVec 16) (mac : List Byte)
  /-- CALSET (R443): A calset request sets the calendar, or is refused while locked to PTP. -/
  | calset (session : Fin 16) (seq : BitVec 32) (rid : BitVec 16) (stamp : BitVec 64) (mac : List Byte)
  /-- PROOF_TIMEOUT (R449): A session not proved within 5 s is dropped. -/
  | proofTimeout (session : Fin 16)
  /-- SESSION_IDLE_TIMEOUT (R450): 30 s without a valid request closes the session. -/
  | sessionIdleTimeout (session : Fin 16)
  /-- LOCKOUT_EXPIRY (R449): A 60 s address lockout ends. -/
  | lockoutExpiry (peer : BitVec 32)
  /-- STATION_CLEAR_COUNTERS (R459): The clear_counters command clears the station link counts. -/
  | stationClearCounters
  /-- RECORD_ENTRY (R462): An event record enters the recorder buffer and takes a sequence number, or is refused. -/
  | recordEntry (source : Fin 96) (region : BitVec 8) (late : Bool) (severity : Fin 4) (subject : BitVec 32) (payload : List Byte)
  /-- RECORD_WRITE (R465): The recorder writes buffered records into erased stripes, and bands and overflow are
     judged. -/
  | recordWrite (count : Fin 65537) (failedBlocks : Fin 256)
  /-- STRIPE_ERASE_DONE (R465): A stripe erase completes, the tail advances, and the held head may enter the next
     stripe. -/
  | stripeEraseDone (failedBlocks : Fin 256)
  /-- RELEASE (R467): The release command frees one complete band. -/
  | releaseBand (session : Fin 16) (band : BitVec 8)
  /-- RELEASE_ALL_BANDS (R467): The release_all command frees every complete band. -/
  | releaseAllBands (session : Fin 16)
  /-- WINDOW_OPEN (R470): The open command binds a window and latches snap_head and snap_tail. -/
  | windowOpen (session : Fin 16) (window : Fin 4)
  /-- NEXT (R471): The next command fills 16 slots from the cursor, with markers where records are missing. -/
  | windowNext (session : Fin 16) (window : Fin 4) (bad : List (BitVec 64))
  /-- SEEK (R470): The seek command sets the cursor to set_hi:set_lo. -/
  | windowSeek (session : Fin 16) (window : Fin 4) (seq : BitVec 64)
  /-- WINDOW_CLOSE (R470): The close command frees the window. -/
  | windowClose (session : Fin 16) (window : Fin 4)
  /-- WINDOW_IDLE_TIMEOUT (R470): 60 s without a command frees a window. -/
  | windowIdleTimeout (window : Fin 4)
  /-- PAIR_SEQ_REPORT (R473): The holder receives the partner's sequence number for a pair event or waits 10 ms, and
     fills the pair payload. -/
  | pairSeqReport (source : Fin 96) (ownSeq : BitVec 64) (partnerSeq : BitVec 64) (timedOut : Bool)
  /-- PANEL_START (R494): A panel start reads and judges the ID memory. -/
  | panelStart (mem : List Byte)
  /-- PNL_EN_ASSERT (R494): PNL_EN is asserted and the module waits for the rails. -/
  | pnlEnAssert
  /-- RAILS_QUALIFIED (R494): All used rails stay in their windows for 100 ms, so scan-out or clearing begins;
     otherwise, after 1 s, rail_fault is set and a retry follows in 10 s. -/
  | railsQualified (ok : Bool) (rail : Fin 4) (millivolts : BitVec 16)
  /-- CLEAR_WAVEFORM_END (R494): The panel clear ends, the dirty mark is erased, and source 91 is recorded. -/
  | clearWaveformEnd
  /-- FRAME_START (R484): A kind-1 frame begins and composes from the values held at its first active line. -/
  | frameStart
  /-- UPDATE_START (R485): An electrophoretic update starts with composed targets and a band. -/
  | updateStart
  /-- UPDATE_END (R485): An update ends, and the displayed levels become the targets. -/
  | updateEnd
  /-- RAIL_FAULT (R488): A rail stays outside its window for 100 µs, so the quench starts and source 90 is recorded. -/
  | railFault (rail : Fin 4) (millivolts : BitVec 16)
  /-- QUENCH (R495): A quench trigger starts the quench sequence of Table 17.5. -/
  | quench (trigger : Fin 8)
  /-- QUENCH_FRAME_END (R495): Lines are grounded and PNL_EN falls at the quench's step 3. -/
  | quenchFrameEnd
  /-- QUENCH_COMPLETE (R495): Every panel output falls low, state becomes 3, and source 90 is recorded. -/
  | quenchComplete
  /-- PANEL_TEMP_READ (R487): Every 1 s the panel temperature is read and the band judged. -/
  | panelTempRead (ok : Bool) (temp : BitVec 16) (rails : List (BitVec 16))
  /-- BLINK_TOGGLE (R490): A blink half-period ends and the rectangle toggles. -/
  | blinkToggle (b : Fin 8)
  /-- SHOW_CODE (R491): The show_code command draws the acceptance code for 60 s. -/
  | showCode
  /-- SHOW_CODE_EXPIRY (R491): The 60 s acceptance-code overlay ends. -/
  | showCodeExpiry
  /-- CLEAR (R498): The clear command requests a deep clear before the next kind-2 update. -/
  | panelClear
  /-- PANEL_RESTART (R498): The restart command quenches the panel and then starts it. -/
  | panelRestart
  /-- COUNTER_OVERFLOW (R504): A counter at all ones counts again, takes its preload and sets ovf. -/
  | counterOverflow (r : Fin 8) (j : Fin 8)
  /-- COUNTER_SAMPLE (R505): After an overflow the next committing invocation's s, or a 1 ms timeout, is sampled and
     source 92 recorded. -/
  | counterSample (r : Fin 8) (j : Fin 8)
  /-- COUNTER_WINDOW_END (R506): A counter window ends; each win_count is taken and win_index advances. -/
  | counterWindowEnd (r : Fin 8)
  /-- COUNTER_CLEAR (R508): The clear command sets every counter to its preload and clears window counts. -/
  | counterClear (r : Fin 8)
  /-- PARAMETER_WRITE (R14): A write to a register without a row of its own acts under its access class. -/
  | parameterWrite (session : Fin 16) (addr : BitVec 32) (value : BitVec 32)
  /-- VERIFY_COMPLETE (R141): The full check of the target slot, started by verify or select, completes; the check
     code appears, and the transfer state becomes verified or the select is refused with result 6. -/
  | verifyComplete
  /-- THERMAL_FOLDBACK_END (R235): The output stage junction falls below 140 °C, ending the foldback. -/
  | thermalFoldbackEnd (g : Fin 128) (stageTj : BitVec 16)
  /-- BACK_FED_END (R265): The terminal of a back-fed DO has stayed below 8.0 V for 10 ms, so the back-fed condition
     ends. -/
  | backFedEnd (g : Fin 128)
  /-- RECEIVE_ERROR (R393): The port detects a bus error while receiving, sends an error flag, raises its receive
     error counter and may become error-passive. -/
  | receiveError (r : Fin 8) (eight : Bool)
  /-- ANNOUNCE_MESSAGE (R440): A PTP Announce arrives on NA or NB and the data set comparison decides which instance
     the calendar follows. -/
  | announceMessage (port : Fin 2) (domain : BitVec 8) (dataset : List Byte) (utc : BitVec 16) (leap61 : Bool) (leap59 : Bool) (interval : BitVec 32)
  /-- DELAY_RESP_RECEIVE (R440): A Delay_Resp answers the instance's Delay_Req and the mean path delay is updated. -/
  | delayRespReceive (port : Fin 2) (domain : BitVec 8) (sec : BitVec 48) (ns : BitVec 32) (corr : BitVec 64)
  /-- ARP_REQUEST (R438): An ARP request for the module's address arrives and is answered. -/
  | arpRequest (lan : Fin 2) (senderMac : BitVec 48) (senderIp : BitVec 32) (targetIp : BitVec 32)
  /-- ECHO_REQUEST (R438): An ICMP echo request arrives and the module sends an echo reply. -/
  | echoRequest (lan : Fin 2) (peer : BitVec 32) (target : BitVec 32) (ident : BitVec 16) (number : BitVec 16) (fragment : Bool) (data : List Byte)
  /-- RAIL_RETURN (R494): After a rail quench the panel rails return, which triggers a panel start. -/
  | railReturn
  deriving DecidableEq, Repr

end Sys2Proof
end

