-- ==== Sys2Proof/Decode.lean ====
section
/-! DEFINITION. The command a table word spells: no row of the table has bits, since the spec gives the commands of this block
no encoding as words. -/

namespace Sys2Proof

/-- The rows that give bits: none. -/
def decodeTableWord (_nbits _w : Nat) : Option Instr := none

end Sys2Proof
end

