-- ==== Sys2Proof/Machine/Bits.lean ====
section
/-! DEFINITION. Bit fields of words, sign extension, byte order and saturation: the helpers every chapter shares. -/

namespace Sys2Proof.Machine

/-- The value of bits `hi`:`lo` of a word (the spec's high:low notation, 00_scope). -/
def bitsOf (w : Word) (hi lo : Nat) : Nat := (w.toNat >>> lo) % 2 ^ (hi + 1 - lo)

/-- The word `w` with bits `hi`:`lo` replaced by the low bits of `v`. -/
def splice (w : Word) (hi lo v : Nat) : Word :=
  BitVec.ofNat 32
    (w.toNat / 2 ^ (hi + 1) * 2 ^ (hi + 1) + v % 2 ^ (hi + 1 - lo) * 2 ^ lo + w.toNat % 2 ^ lo)

/-- Bit `i` of a number. -/
def bit (v i : Nat) : Bool := v.testBit i

/-- 1 for true, 0 for false. -/
def b2n (b : Bool) : Nat := if b then 1 else 0

/-- `v` with bit `i` set or cleared. -/
def withBit (v i : Nat) (b : Bool) : Nat :=
  if b then (if v.testBit i then v else v + 2 ^ i) else (if v.testBit i then v - 2 ^ i else v)

/-- Two's complement reading of the low `w` bits. -/
def signed (w v : Nat) : Int :=
  let x := v % 2 ^ w
  if x < 2 ^ (w - 1) then (x : Int) else (x : Int) - 2 ^ w

/-- Two's complement writing in `w` bits. -/
def unsigned (w : Nat) (i : Int) : Nat := (i % (2 ^ w : Int)).toNat

/-- Clamp of an integer to an interval: min(max(a, lo), hi). -/
def clampI (lo hi a : Int) : Int := min (max a lo) hi

/-- A count that saturates at its all-ones value of `w` bits. -/
def satAdd (w v k : Nat) : Nat := min (v + k) (2 ^ w - 1)

/-- The bytes of a number, little-endian (R22), `n` of them. -/
def leBytes : Nat → Nat → List Nat
  | 0, _ => []
  | n + 1, v => v % 256 :: leBytes n (v / 256)

/-- The bytes of a number in the order of the published standards, most significant first (R22). -/
def beBytes (n v : Nat) : List Nat := (leBytes n v).reverse

/-- The number that bytes spell, little-endian (R22). -/
def leNat : List Nat → Nat
  | [] => 0
  | b :: bs => b % 256 + 256 * leNat bs

/-- `n` bytes at offset `k` of a byte string; short strings are padded with zero. -/
def bytesAt (bs : List Nat) (k n : Nat) : List Nat :=
  let t := (bs.drop k).take n
  t ++ List.replicate (n - t.length) 0

/-- The little-endian number in `n` bytes at offset `k`. -/
def numAt (bs : List Nat) (k n : Nat) : Nat := leNat (bytesAt bs k n)

/-- Write bytes over a byte string at an offset, inside its length. -/
def putBytes : List Nat → Nat → List Nat → List Nat
  | [], _, _ => []
  | bs, 0, [] => bs
  | _ :: bs, 0, v :: vs => v :: putBytes bs 0 vs
  | b :: bs, k + 1, vs => b :: putBytes bs k vs

/-- The difference of two tick stamps modulo 2^32 (R20). -/
def tickDiff (now last : Nat) : Nat := (now + 2 ^ 32 - last % 2 ^ 32) % 2 ^ 32

/-- Floor division of integers with a positive divisor. -/
def floorDiv (a b : Int) : Int := a.fdiv b

/-- Element `i` of a list, or the given default outside it. -/
def nth {α : Type} (d : α) (l : List α) (i : Nat) : α := l.getD i d

/-- Update element `i` of a list; nothing outside it. -/
def upd {α : Type} : List α → Nat → (α → α) → List α
  | [], _, _ => []
  | a :: l, 0, f => f a :: l
  | a :: l, i + 1, f => a :: upd l i f

/-- Set element `i` of a list; nothing outside it. -/
def setAt {α : Type} (l : List α) (i : Nat) (v : α) : List α := upd l i (fun _ => v)

/-- The first entry of an association list under a key. -/
def assoc {α : Type} (l : List (Nat × α)) (k : Nat) : Option α :=
  match l with
  | [] => none
  | (j, v) :: t => if j = k then some v else assoc t k

/-- Replace the entry under a key, or add one at the end. -/
def assocSet {α : Type} (l : List (Nat × α)) (k : Nat) (v : α) : List (Nat × α) :=
  match l with
  | [] => [(k, v)]
  | (j, w) :: t => if j = k then (k, v) :: t else (j, w) :: assocSet t k v

/-- Remove every entry under a key. -/
def assocDel {α : Type} (l : List (Nat × α)) (k : Nat) : List (Nat × α) :=
  l.filter (fun e => e.1 != k)

end Sys2Proof.Machine
end

