-- ==== Sys2Proof/Machine/Field.lean ====
section
/-! DEFINITION. The form of a field-table row: which words and bits a field occupies, its access class (R14), its value
at reset and the values it permits. -/

namespace Sys2Proof.Machine

/-- The access classes of Table 0.4 (R14). -/
inductive Access where
  | img | onl | run | cmd | w1c | rs
  deriving DecidableEq, Repr

/-- The values an IMG or ONL field permits, as its field table's "Meaning" states them. -/
inductive Range where
  | any
  | upto (lo hi : Nat)
  | zeroOr (lo hi : Nat)
  | signal
  | real (lo hi : Int)
  | int (w : Nat) (lo hi : Int)
  | ccOrNone
  deriving DecidableEq, Repr

/-- One row of a field table. The field stands in `count` groups, `stride` words apart, of `inner` consecutive words,
the first at offset `first`; in each of them it has bits `hi`:`lo`. -/
structure Field where
  first : Nat
  count : Nat
  stride : Nat
  inner : Nat
  hi : Nat
  lo : Nat
  access : Access
  reset : Nat
  range : Range
  deriving DecidableEq, Repr

/-- A field of one word. -/
def Field.one (word hi lo : Nat) (a : Access) (reset : Nat) (rg : Range) : Field :=
  { first := word, count := 1, stride := 1, inner := 1, hi := hi, lo := lo, access := a, reset := reset, range := rg }

/-- A field of several words, `stride` apart. -/
def Field.many (first count stride hi lo : Nat) (a : Access) (reset : Nat) (rg : Range) : Field :=
  { first := first, count := count, stride := stride, inner := 1, hi := hi, lo := lo, access := a, reset := reset,
    range := rg }

/-- A field of several groups of consecutive words. -/
def Field.runs (first count stride inner hi lo : Nat) (a : Access) (reset : Nat) (rg : Range) : Field :=
  { first := first, count := count, stride := stride, inner := inner, hi := hi, lo := lo, access := a,
    reset := reset, range := rg }

/-- Does the field have bits in the word at this offset of its block? -/
def Field.covers (f : Field) (off : Nat) : Bool :=
  f.first ≤ off && (off - f.first) / f.stride < f.count && (off - f.first) % f.stride < f.inner

/-- The mask of the field's bits within its word. -/
def Field.mask (f : Field) : Nat := (2 ^ (f.hi + 1 - f.lo) - 1) * 2 ^ f.lo

/-- The value of the field in a word. -/
def Field.of (f : Field) (w : Word) : Nat := bitsOf w f.hi f.lo

/-- The number a REAL32 pattern stands for, scaled by 2^149, for comparisons; NaN and infinities give none. -/
def realScaled (bits : Nat) : Option Int :=
  let e := bits / 2 ^ 23 % 256
  let m := bits % 2 ^ 23
  if e = 255 then none
  else
    let mag : Nat := if e = 0 then m else (m + 2 ^ 23) * 2 ^ (e - 1)
    some (if bits.testBit 31 then -(mag : Int) else (mag : Int))

/-- Is a value inside the range its field permits? -/
def Range.permits (rg : Range) (v : Nat) : Bool :=
  match rg with
  | .any => true
  | .upto lo hi => lo ≤ v && v ≤ hi
  | .zeroOr lo hi => v = 0 || (lo ≤ v && v ≤ hi)
  | .signal => v.testBit 31 == v.testBit 30
  | .real lo hi =>
    match realScaled v with
    | none => false
    | some x => lo * 2 ^ 149 ≤ x && x ≤ hi * 2 ^ 149
  | .int w lo hi => lo ≤ signed w v && signed w v ≤ hi
  | .ccOrNone => v ≤ 15 || v = 255

end Sys2Proof.Machine
end

