-- ==== Sys2Proof/Machine/Real.lean ====
section
/-! DEFINITION. REAL32 arithmetic (R17: IEEE 754 binary32) as R187 rules it: rounding to nearest, ties to even;
subnormal inputs and results taken as zero. A value is a 32-bit pattern held as a number; the arithmetic is done
exactly on integers and rounded once at the end of each operation. -/

namespace Sys2Proof.Machine

/-- Sign bit of a pattern. -/
def rNeg (x : Nat) : Bool := x.testBit 31

/-- Is the pattern a NaN? -/
def rNaN (x : Nat) : Bool := x / 2 ^ 23 % 256 == 255 && x % 2 ^ 23 != 0

/-- Is the pattern an infinity? -/
def rInf (x : Nat) : Bool := x / 2 ^ 23 % 256 == 255 && x % 2 ^ 23 == 0

/-- Is the pattern a NaN or an infinity? -/
def rBad (x : Nat) : Bool := x / 2 ^ 23 % 256 == 255

/-- The exact value of a finite pattern times 2^149; a subnormal counts as zero (R187). -/
def rVal (x : Nat) : Int :=
  let e := x / 2 ^ 23 % 256
  let mag : Nat := if e = 0 then 0 else (x % 2 ^ 23 + 2 ^ 23) * 2 ^ (e - 1)
  if rNeg x then -(mag : Int) else (mag : Int)

/-- The NaN pattern results take. -/
def rNaNBits : Nat := 0x7FC00000

/-- Infinity with a sign. -/
def rInfBits (neg : Bool) : Nat := if neg then 0xFF800000 else 0x7F800000

/-- Zero with a sign. -/
def rZero (neg : Bool) : Nat := if neg then 0x80000000 else 0

/-- Floor of the base-2 logarithm of num/den, both positive. -/
def ratLog2 (num den : Nat) : Int :=
  let e : Int := (Nat.log2 num : Int) - (Nat.log2 den : Int)
  let fits : Bool := if 0 ≤ e then den * 2 ^ e.toNat ≤ num else den ≤ num * 2 ^ (-e).toNat
  if fits then e else e - 1

/-- num/den rounded to an integer, to nearest, ties to even. -/
def roundDiv (num den : Nat) : Nat :=
  let q := num / den
  let r := num % den
  if 2 * r > den then q + 1 else if 2 * r = den then q + q % 2 else q

/-- The pattern nearest to num/den (ties to even), with the sign given; zero below the normal range (R187). -/
def rRound (neg : Bool) (num den : Nat) : Nat :=
  if num = 0 || den = 0 then rZero neg
  else
    let e := ratLog2 num den
    let sh := 23 - e
    let m := if 0 ≤ sh then roundDiv (num * 2 ^ sh.toNat) den else roundDiv num (den * 2 ^ (-sh).toNat)
    let e' := if m = 2 ^ 24 then e + 1 else e
    let m' := if m = 2 ^ 24 then 2 ^ 23 else m
    if e' > 127 then rInfBits neg
    else if e' < -126 then rZero neg
    else (if neg then 2 ^ 31 else 0) + (e' + 127).toNat * 2 ^ 23 + (m' - 2 ^ 23)

/-- The pattern nearest to an exact rational. -/
def rOfRat (num : Int) (den : Nat) : Nat := rRound (num < 0) num.natAbs den

/-- The pattern nearest to an integer. -/
def rOfInt (i : Int) : Nat := rOfRat i 1

/-- Sum. -/
def rAdd (x y : Nat) : Nat :=
  if rNaN x || rNaN y then rNaNBits
  else if rInf x then (if rInf y && rNeg x != rNeg y then rNaNBits else x)
  else if rInf y then y
  else
    let v := rVal x + rVal y
    if v = 0 then rZero (rNeg x && rNeg y && rVal x == 0) else rOfRat v (2 ^ 149)

/-- Negation. -/
def rNegate (x : Nat) : Nat := if rNeg x then x - 2 ^ 31 else x + 2 ^ 31

/-- Absolute value. -/
def rAbs (x : Nat) : Nat := x % 2 ^ 31

/-- Difference. -/
def rSub (x y : Nat) : Nat := if rNaN y then rNaNBits else rAdd x (rNegate y)

/-- Product. -/
def rMul (x y : Nat) : Nat :=
  let neg := rNeg x != rNeg y
  if rNaN x || rNaN y then rNaNBits
  else if rInf x || rInf y then
    (if (rInf x || rVal x != 0) && (rInf y || rVal y != 0) then rInfBits neg else rNaNBits)
  else rRound neg (rVal x * rVal y).natAbs (2 ^ 298)

/-- Quotient. -/
def rDiv (x y : Nat) : Nat :=
  let neg := rNeg x != rNeg y
  if rNaN x || rNaN y then rNaNBits
  else if rInf x then (if rInf y then rNaNBits else rInfBits neg)
  else if rInf y then rZero neg
  else if rVal y = 0 then (if rVal x = 0 then rNaNBits else rInfBits neg)
  else rRound neg (rVal x).natAbs (rVal y).natAbs

/-- Integer square root by bisection on bits, from bit `n`. -/
def isqrtFrom : Nat → Nat → Nat → Nat
  | 0, _, r => r
  | n + 1, x, r => isqrtFrom n x (if (r + 2 ^ n) * (r + 2 ^ n) ≤ x then r + 2 ^ n else r)

/-- Integer square root of numbers below 2^1024. -/
def isqrt (x : Nat) : Nat := isqrtFrom 512 x 0

/-- Square root of a non-negative value; the quotient is carried to 2^-160 of the scaled value with a sticky bit. -/
def rSqrt (x : Nat) : Nat :=
  if rNaN x then rNaNBits
  else if rInf x then x
  else
    let v := (rVal x).natAbs * 2 ^ 321
    let r := isqrt v
    let sticky := if r * r = v then 0 else 1
    rRound false (2 * r + sticky) (2 ^ 236)

/-- Order of two patterns that are not NaN, infinities at the ends. -/
def rKey (x : Nat) : Int := if rInf x then (if rNeg x then -(2 ^ 300) else 2 ^ 300) else rVal x

/-- x < y; false with a NaN operand (R193). -/
def rLt (x y : Nat) : Bool := !rNaN x && !rNaN y && rKey x < rKey y

/-- x ≤ y; false with a NaN operand (R193). -/
def rLe (x y : Nat) : Bool := !rNaN x && !rNaN y && rKey x ≤ rKey y

/-- x = y; false with a NaN operand (R193). -/
def rEq (x y : Nat) : Bool := !rNaN x && !rNaN y && rKey x == rKey y

/-- The smaller of two values. -/
def rMin (x y : Nat) : Nat := if rLt y x then y else x

/-- The larger of two values. -/
def rMax (x y : Nat) : Nat := if rLt x y then y else x

/-- Clamp into lo–hi. -/
def rClamp (lo hi x : Nat) : Nat := if rLt x lo then lo else if rLt hi x then hi else x

/-- The integer nearest to a finite value, ties to even. -/
def rToIntEven (x : Nat) : Int :=
  let m : Nat := roundDiv (rVal x).natAbs (2 ^ 149)
  if rNeg x then -(m : Int) else (m : Int)

/-- The integer nearest to a finite value times 2^k, ties away from zero (R282). -/
def rToIntAway (x k : Nat) : Int :=
  let m : Nat := (2 * (rVal x).natAbs * 2 ^ k + 2 ^ 149) / 2 ^ 150
  if rNeg x then -(m : Int) else (m : Int)

/-- floor of a finite value. -/
def rFloor (x : Nat) : Int := (rVal x).fdiv (2 ^ 149)

/-- Is a finite value an integer? -/
def rIsInt (x : Nat) : Bool := rVal x % 2 ^ 149 == 0

/-! Fixed-point series for the exponential and the logarithm, with 320 fraction bits; a result is snapped to 200
bits before it is rounded, so that results that are exact are taken as exact. -/

/-- Fraction bits of the fixed-point series. -/
def fxOne : Int := 2 ^ 320

/-- Sum of z^(2k+1)/(2k+1), from the term `t` with denominator `d`. -/
def atanhSum : Nat → Int → Int → Int → Int → Int
  | 0, _, _, _, acc => acc
  | n + 1, t, z2, d, acc => atanhSum n (t * z2 / fxOne) z2 (d + 2) (acc + t / d)

/-- 2·atanh(num/den) in fixed point. -/
def fxAtanh2 (num den : Int) : Int :=
  let z := num * fxOne / den
  2 * atanhSum 110 z (z * z / fxOne) 1 0

/-- ln 2 in fixed point. -/
def fxLn2 : Int := fxAtanh2 1 3

/-- ln of a positive scaled value (value times 2^149) in fixed point. -/
def fxLn (v : Nat) : Int :=
  let l := Nat.log2 v
  fxAtanh2 ((v : Int) - 2 ^ l) ((v : Int) + 2 ^ l) + ((l : Int) - 149) * fxLn2

/-- Taylor sum of the exponential, from term `t` of index `k`. -/
def expSum : Nat → Int → Int → Int → Int → Int
  | 0, _, _, _, acc => acc
  | n + 1, t, x, k, acc => expSum n (t * x / fxOne / k) x (k + 1) (acc + t)

/-- The pattern of e^x, x in fixed point. -/
def rExpFx (x : Int) : Nat :=
  let k := x.fdiv fxLn2
  if k > 200 then rInfBits false
  else if k < -200 then 0
  else
    let m := expSum 90 fxOne (x - k * fxLn2) 1 0
    let snapped : Nat := ((m + 2 ^ 119) / 2 ^ 120).toNat
    if 0 ≤ k then rRound false (snapped * 2 ^ k.toNat) (2 ^ 200)
    else rRound false snapped (2 ^ (200 + (-k).toNat))

/-- Natural exponential. -/
def rExp (x : Nat) : Nat :=
  if rNaN x then rNaNBits
  else if rInf x then (if rNeg x then 0 else x)
  else rExpFx (rVal x * 2 ^ 171)

/-- Natural logarithm of a positive value. -/
def rLn (x : Nat) : Nat :=
  if rNaN x || rNeg x || (!rInf x && rVal x == 0) then rNaNBits
  else if rInf x then x
  else
    let f := fxLn (rVal x).natAbs
    rOfRat f (2 ^ 320)

/-- Integer power of a rational, rounded once. -/
def rPowInt (neg : Bool) (n : Nat) (y : Int) : Nat :=
  let neg' := neg && y % 2 != 0
  if 0 ≤ y then rRound neg' (n ^ y.toNat) (2 ^ (149 * y.toNat))
  else rRound neg' (2 ^ (149 * (-y).toNat)) (n ^ (-y).toNat)

/-- in1 raised to in2; NaN for a negative base with a non-integer exponent (Table 7.3) and for zero to a negative
power as a quotient by zero. -/
def rPow (x y : Nat) : Nat :=
  if rNaN x || rNaN y || rInf x || rInf y then rNaNBits
  else if rVal y = 0 then 0x3F800000
  else if rVal x = 0 then (if rNeg y then rInfBits false else 0)
  else if rIsInt y && (rFloor y).natAbs ≤ 64 then rPowInt (rNeg x) (rVal x).natAbs (rFloor y)
  else if rNeg x && !rIsInt y then rNaNBits
  else
    let e := fxLn (rVal x).natAbs * rVal y / 2 ^ 149
    let m := rExpFx e
    if rNeg x && rFloor y % 2 != 0 then rNegate m else m

end Sys2Proof.Machine
end

