-- ==== Sys2Proof/Machine/Flags.lean ====
section
/-! DEFINITION. The data types of R17 and R128 as operand values, the limits of integer results (R187), and the
STATUS16 word of R18. A value is held as a number: the two's complement or IEEE pattern of its type. -/

namespace Sys2Proof.Machine

/-! Type codes of R128. -/

def tyBool : Nat := 0
def tyInt16 : Nat := 1
def tyInt32 : Nat := 2
def tyUint32 : Nat := 3
def tyReal : Nat := 4
def tyTicks : Nat := 5
def tyCal : Nat := 6
def tyStatus : Nat := 7

/-- Width of a type in bytes (Table 0.5). -/
def tyBytes (t : Nat) : Nat :=
  if t = 0 then 1 else if t = 1 || t = 7 then 2 else if t = 6 then 8 else 4

/-- Words an output of a type takes in its instance (R185). -/
def tyWords (t : Nat) : Nat := if t = 6 then 2 else 1

/-- The value of a type in its low bytes; any BOOL other than 0x00 reads as true (R17). -/
def tyNorm (t v : Nat) : Nat :=
  if t = 0 then (if v % 256 = 0 then 0 else 1) else v % 256 ^ tyBytes t

/-- The integer a pattern of an integer type stands for. -/
def intOf (t v : Nat) : Int :=
  if t = 1 then signed 16 v else if t = 2 then signed 32 v else ((tyNorm t v : Nat) : Int)

/-- Smallest value of an integer type. -/
def tyMin (t : Nat) : Int := if t = 1 then -32768 else if t = 2 then -2147483648 else 0

/-- Largest value of an integer type. -/
def tyMax (t : Nat) : Int :=
  if t = 0 then 1 else if t = 1 then 32767 else if t = 2 then 2147483647
  else if t = 6 then 18446744073709551615 else if t = 7 then 65535 else 4294967295

/-- Does an integer leave the range of its type? -/
def outOfRange (t : Nat) (i : Int) : Bool := i < tyMin t || tyMax t < i

/-- The pattern of an integer result, saturated to its type (R187). -/
def satEnc (t : Nat) (i : Int) : Nat := unsigned (8 * tyBytes t) (clampI (tyMin t) (tyMax t) i)

/-- REAL32 "type minimum" and "type maximum" of Table 7.4: ∓3.402823e38, as the nearest binary32 pattern. -/
def realMax : Nat := rOfRat (3402823 * 10 ^ 32) 1
/-- The negative limit. -/
def realMin : Nat := rNegate realMax

/-- A subnormal pattern taken as zero (R187). -/
def rFlush (x : Nat) : Nat := if x / 2 ^ 23 % 256 = 0 then (if rNeg x then 0x80000000 else 0) else x

/-! STATUS16 (Table 0.6): bit numbers. -/

def stValid : Nat := 0
def stStale : Nat := 1
def stForced : Nat := 2
def stTempering : Nat := 3
def stLow : Nat := 4
def stHigh : Nat := 5
def stCompliance : Nat := 6
def stFault : Nat := 7

/-- R18: valid and fault are never set together; fault wins. -/
def stNorm (s : Nat) : Nat := if s.testBit 7 then withBit (s % 65536) 0 false else s % 65536

/-- A status of the given bits. -/
def stOf (valid stale forced tempering low high compliance fault : Bool) : Nat :=
  stNorm (b2n valid + 2 * b2n stale + 4 * b2n forced + 8 * b2n tempering + 16 * b2n low + 32 * b2n high
    + 64 * b2n compliance + 128 * b2n fault)

end Sys2Proof.Machine
end

