-- ==== Sys2Proof/Machine/Catalogue.lean ====
section
/-! DEFINITION. The block types of the catalogue (R183): their codes, typed families, ports in binding order with the
values unbound inputs take (R186), and the instance layout (R185). -/

namespace Sys2Proof.Machine

/-- The block types. -/
inductive Blk where
  | and | or | xor | not | wand | wor | wxor | wnot | shift | bit | pack | unpack
  | eq | ne | gt | ge | lt | le | cmph
  | add | sub | mul | div | mod | abs | neg | min | max | sqrt | ln | exp | pow | poly
  | sel | mux | limit | move
  | lag | rate | integ | ramp | ton | tof | tp | rto | pgen | debnc | bumpsw
  | ctu | ctd | ctud | cntd | rTrig | fTrig | sr | rs | estamp | toggle
  | scale | scaleq | lintab | conv | castUr | castRu | castUi | castIu | stsplit | stmerge | calsplit
  | chgrp | loopsup | alm
  | axmove | axhome | axstop | axgear | axstat
  | canfilt | canobj | cansend | portst | portrst
  | pub | sub_ | evraise
  | pfield | pblink | ppage | pstat | pairst | sfst
  | parwr | parrd | perf
  deriving DecidableEq, Repr

/-- The logic part of the catalogue: block, code or base, type codes of the family. -/
def catLogic : List (Blk × Nat × List Nat) :=
  [(.and, 0x0001, []), (.or, 0x0002, []), (.xor, 0x0003, []), (.not, 0x0004, []), (.wand, 0x0008, []),
   (.wor, 0x0009, []), (.wxor, 0x000A, []), (.wnot, 0x000B, []), (.shift, 0x000C, []), (.bit, 0x000D, []),
   (.pack, 0x000E, []), (.unpack, 0x000F, [])]

/-- The compare part of the catalogue: block, code or base, type codes of the family. -/
def catCompare : List (Blk × Nat × List Nat) :=
  [(.eq, 0x0040, [1, 2, 3, 4, 6]), (.ne, 0x0048, [1, 2, 3, 4, 6]), (.gt, 0x0050, [1, 2, 3, 4, 6]),
   (.ge, 0x0058, [1, 2, 3, 4, 6]), (.lt, 0x0060, [1, 2, 3, 4, 6]), (.le, 0x0068, [1, 2, 3, 4, 6]),
   (.cmph, 0x0074, [])]

/-- The arith part of the catalogue: block, code or base, type codes of the family. -/
def catArith : List (Blk × Nat × List Nat) :=
  [(.add, 0x0080, [1, 2, 3, 4]), (.sub, 0x0088, [1, 2, 3, 4]), (.mul, 0x0090, [1, 2, 3, 4]),
   (.div, 0x0098, [1, 2, 3, 4]), (.mod, 0x00A0, [1, 2, 3]), (.abs, 0x00A8, [1, 2, 4]), (.neg, 0x00B0, [1, 2, 4]),
   (.min, 0x00B8, [1, 2, 3, 4]), (.max, 0x00C0, [1, 2, 3, 4]), (.sqrt, 0x00D0, []), (.ln, 0x00D1, []),
   (.exp, 0x00D2, []), (.pow, 0x00D3, []), (.poly, 0x00D4, [])]

/-- The select part of the catalogue: block, code or base, type codes of the family. -/
def catSelect : List (Blk × Nat × List Nat) :=
  [(.sel, 0x0100, [0, 1, 2, 3, 4, 5, 6]), (.mux, 0x0108, [0, 1, 2, 3, 4, 5, 6]), (.limit, 0x0110, [1, 2, 3, 4]),
   (.move, 0x0118, [0, 1, 2, 3, 4, 5, 6])]

/-- The timed part of the catalogue: block, code or base, type codes of the family. -/
def catTimed : List (Blk × Nat × List Nat) :=
  [(.lag, 0x0180, []), (.rate, 0x0181, []), (.integ, 0x0182, []), (.ramp, 0x0183, []), (.ton, 0x0200, []),
   (.tof, 0x0201, []), (.tp, 0x0202, []), (.rto, 0x0203, []), (.pgen, 0x0204, []), (.debnc, 0x0246, []),
   (.bumpsw, 0x0510, [])]

/-- The count part of the catalogue: block, code or base, type codes of the family. -/
def catCount : List (Blk × Nat × List Nat) :=
  [(.ctu, 0x0220, []), (.ctd, 0x0221, []), (.ctud, 0x0222, []), (.cntd, 0x0223, []), (.rTrig, 0x0240, []),
   (.fTrig, 0x0241, []), (.sr, 0x0242, []), (.rs, 0x0243, []), (.estamp, 0x0244, []), (.toggle, 0x0245, [])]

/-- The scale part of the catalogue: block, code or base, type codes of the family. -/
def catScale : List (Blk × Nat × List Nat) :=
  [(.scale, 0x0300, []), (.scaleq, 0x0301, []), (.lintab, 0x0302, []), (.castUr, 0x03C0, []), (.castRu, 0x03C1, []),
   (.castUi, 0x03C2, []), (.castIu, 0x03C3, []), (.stsplit, 0x03D0, []), (.stmerge, 0x03D1, []),
   (.calsplit, 0x03D8, [])]

/-- The access part of the catalogue: block, code or base, type codes of the family. -/
def catAccess : List (Blk × Nat × List Nat) :=
  [(.chgrp, 0x0400, []), (.loopsup, 0x0500, []), (.alm, 0x0508, []), (.axmove, 0x0600, []), (.axhome, 0x0601, []),
   (.axstop, 0x0602, []), (.axgear, 0x0603, []), (.axstat, 0x0604, []), (.canfilt, 0x0700, []), (.canobj, 0x0701, []),
   (.cansend, 0x0702, []), (.portst, 0x0703, []), (.portrst, 0x0704, []), (.pub, 0x0800, []), (.sub_, 0x0801, []),
   (.evraise, 0x0900, [])]

/-- The panel part of the catalogue: block, code or base, type codes of the family. -/
def catPanel : List (Blk × Nat × List Nat) :=
  [(.pfield, 0x0A00, []), (.pblink, 0x0A01, []), (.ppage, 0x0A02, []), (.pstat, 0x0A03, []), (.pairst, 0x0B00, []),
   (.sfst, 0x0B01, []), (.parwr, 0x0C00, []), (.parrd, 0x0C01, []), (.perf, 0x0C08, [])]

/-- Every block type with its code, or the base of its family, and the type codes of the family (R183); an empty
list marks a block that is no family. -/
def catalogue : List (Blk × Nat × List Nat) :=
  List.flatten [catLogic, catCompare, catArith, catSelect, catTimed, catCount, catScale, catAccess, catPanel]

/-- The family entry of a list that a code falls under. -/
def findBlk (code : Nat) : List (Blk × Nat × List Nat) → Option (Blk × Nat)
  | [] => none
  | (b, base, ts) :: t =>
    if ts = [] then (if code = base then some (b, 0) else findBlk code t)
    else if base ≤ code && ts.contains (code - base) then some (b, code - base) else findBlk code t

/-- The block type of a code and its type code t; for CONV, t is 8·a + b. A code outside the catalogue has none. -/
def blkOf (code : Nat) : Option (Blk × Nat) :=
  if 0x0380 ≤ code && code < 0x03C0 then
    let k := code - 0x0380
    if 1 ≤ k / 8 && k / 8 ≤ 5 && 1 ≤ k % 8 && k % 8 ≤ 5 && k / 8 ≠ k % 8 then some (.conv, k) else none
  else findBlk code catalogue

/-- The ports and instance layout of an invocation (R184, R185): parameter words, state words, input types with the
values of unbound inputs (R186), output types. -/
structure Sig where
  p : Nat
  s : Nat
  ins : List (Nat × Nat)
  outs : List Nat
  deriving DecidableEq, Repr

/-- An input of a type whose unbound value is the type's default (R186). -/
def inp (t : Nat) : Nat × Nat := (t, if t = 7 then 1 else 0)

/-- `n` inputs of a type. -/
def inps (n t : Nat) : List (Nat × Nat) := List.replicate n (inp t)

/-- The unbound lower and upper limit of a numeric type. -/
def loDflt (t : Nat) : Nat := if t = 4 then realMin else satEnc t (tyMin t)
/-- The unbound upper limit. -/
def hiDflt (t : Nat) : Nat := if t = 4 then realMax else satEnc t (tyMax t)

/-- A fixed signature. -/
def sigFix (p s : Nat) (ins : List (Nat × Nat)) (outs : List Nat) (_ni _no : Nat) : Option Sig := some ⟨p, s, ins, outs⟩

/-- A signature whose number of inputs of one type may vary between `lo` and `hi`, after fixed inputs. -/
def sigVar (p s : Nat) (fixed : List (Nat × Nat)) (t lo hi : Nat) (outs : List Nat) (ni _no : Nat) : Option Sig :=
  let n := ni - fixed.length
  if fixed.length ≤ ni && lo ≤ n && n ≤ hi then some ⟨p, s, fixed ++ inps n t, outs⟩ else none

/-- The signature of a block type before ni and no are compared with it. -/
def rawSig (b : Blk) (t : Nat) : Nat → Nat → Option Sig :=
  match b with
  | .and | .or | .xor => sigVar 0 0 [] 0 2 16 [0]
  | .not => sigFix 0 0 [inp 0] [0]
  | .wand | .wor | .wxor => sigVar 0 0 [] 3 2 8 [3]
  | .wnot => sigFix 0 0 [inp 3] [3]
  | .shift => sigFix 0 0 [inp 3, inp 2] [3]
  | .bit => sigFix 0 0 [inp 3, inp 2] [0, 0]
  | .pack => sigVar 0 0 [] 0 1 32 [3]
  | .unpack => fun _ no => if 1 ≤ no && no ≤ 32 then some ⟨0, 0, [inp 3], List.replicate no 0⟩ else none
  | .eq | .ne | .gt | .ge | .lt | .le => sigFix 0 0 [inp t, inp t] [0]
  | .cmph => sigFix 0 0 (inps 3 4) [0, 0]
  | .add | .mul | .min | .max => sigVar 0 0 [] t 2 8 [t, 0]
  | .sub | .div | .mod => sigFix 0 0 [inp t, inp t] [t, 0]
  | .abs | .neg => sigFix 0 0 [inp t] [t, 0]
  | .sqrt | .ln | .exp => sigFix 0 0 [inp 4] [4, 0]
  | .pow => sigFix 0 0 [inp 4, inp 4] [4, 0]
  | .poly => sigFix 6 0 [inp 4] [4, 0]
  | .sel => sigFix 0 0 [inp 0, inp t, inp t] [t]
  | .mux => sigVar 0 0 [inp 2] t 2 8 [t, 0]
  | .limit => sigFix 0 0 [(t, loDflt t), inp t, (t, hiDflt t)] [t, 0, 0]
  | .move => sigFix 0 0 [(0, 1), inp t] [t]
  | .lag => sigFix 0 1 [inp 4, inp 5] [4]
  | .rate => sigFix 0 2 [inp 4] [4]
  | .integ => sigFix 0 1 [inp 4, inp 4, inp 0, (4, realMin), (4, realMax)] [4, 0, 0]
  | .ramp => sigFix 0 1 [inp 4, inp 4, inp 4, inp 0] [4, 0, 0]
  | .ton | .tof | .tp => sigFix 0 3 [inp 0, inp 5] [0, 5]
  | .rto => sigFix 0 3 [inp 0, inp 0, inp 5] [0, 5]
  | .pgen | .debnc => sigFix 0 3 [inp 0, inp 5, inp 5] [0]
  | .bumpsw => sigFix 0 4 [inp 0, inp 4, inp 4, inp 5] [4, 0]
  | .ctu | .ctd => sigFix 0 1 [inp 0, inp 0, inp 2] [0, 2]
  | .ctud => sigFix 0 2 [inp 0, inp 0, inp 0, inp 0, inp 2, (2, 2 ^ 31), (2, 2 ^ 31 - 1)] [0, 0, 2, 0]
  | .cntd => sigFix 0 3 [inp 3, inp 0] [3, 3, 4]
  | .rTrig | .fTrig | .toggle => sigFix 0 1 [inp 0] [0]
  | .sr | .rs => sigFix 0 0 [inp 0, inp 0] [0]
  | .estamp => sigFix 0 1 [inp 0] [0, 5, 6]
  | .scale => sigFix 0 0 (inps 5 4 ++ [inp 0]) [4, 0, 0, 0]
  | .scaleq => sigFix 0 0 ([inp 4, inp 7] ++ inps 4 4 ++ [inp 0]) [4, 7, 0]
  | .lintab => sigFix 25 0 [inp 4] [4, 0, 0]
  | .conv => sigFix 0 0 [inp (t / 8)] [t % 8, 0]
  | .castUr => sigFix 0 0 [inp 3] [4]
  | .castRu => sigFix 0 0 [inp 4] [3]
  | .castUi => sigFix 0 0 [inp 3] [2]
  | .castIu => sigFix 0 0 [inp 2] [3]
  | .stsplit => sigFix 0 0 [inp 7] (List.replicate 8 0)
  | .stmerge => sigVar 0 0 [] 7 2 8 [7]
  | .calsplit => sigFix 0 0 [inp 6] (List.replicate 7 2)
  | .chgrp => sigFix 0 0 [inp 7] (List.replicate 16 4 ++ List.replicate 16 7)
  | .loopsup => sigFix 1 0 [inp 0, inp 4, inp 4, inp 0] [4, 4, 0, 3, 3]
  | .alm => sigFix 0 0 (inps 4 4) [0, 0, 0]
  | .axmove => sigFix 1 1 [inp 0, inp 2, inp 0] [0, 0, 0, 3]
  | .axhome => sigFix 1 1 [inp 0, inp 2] [0, 0, 0, 3]
  | .axstop => sigFix 1 0 [inp 0, inp 0] [0, 0, 0, 3]
  | .axgear => sigFix 1 1 [inp 0] [0, 2, 0]
  | .axstat => sigFix 1 0 [] [2, 4, 0, 0, 0, 0, 3]
  | .canfilt => sigFix 6 1 [(0, 1)] [0, 3, 3]
  | .canobj => sigFix 2 1 [] ([0, 3, 3, 5] ++ List.replicate 16 3)
  | .cansend => sigVar 2 1 [inp 0, inp 3] 3 0 16 [0, 3, 0]
  | .portst => sigFix 1 0 [] [2, 3, 3, 0, 0]
  | .portrst => sigFix 1 1 [inp 0] [0, 0]
  | .pub => sigVar 2 0 [] 3 1 16 [3]
  | .sub_ => sigFix 5 0 [] (List.replicate 16 3 ++ [7, 5])
  | .evraise => sigVar 2 1 [inp 0] 3 0 4 [3]
  | .pfield => sigFix 2 0 [inp 4, inp 2, (0, 1)] []
  | .pblink => sigFix 1 0 [inp 0, inp 5] [0]
  | .ppage => sigFix 0 0 [inp 2] [2, 0]
  | .pstat => sigFix 0 0 [] [0, 0, 0]
  | .pairst => sigFix 0 0 [] [0, 0, 0, 2, 0]
  | .sfst => sigFix 1 0 [] [2, 0, 0, 0]
  | .parwr => sigFix 1 1 [inp 0, inp 3] [0, 0, 0, 3]
  | .parrd => sigFix 1 0 [] [3, 0]
  | .perf => sigFix 2 1 [] [3, 3, 0]

/-- The signature of a code with the given numbers of bindings; none where R183 or R184 refuses them. -/
def sigOf (code ni no : Nat) : Option Sig :=
  match blkOf code with
  | none => none
  | some (b, t) =>
    match rawSig b t ni no with
    | none => none
    | some g => if g.ins.length = ni && g.outs.length = no then some g else none

/-- Output words of a list of output types. -/
def outWords (ts : List Nat) : Nat := (ts.map tyWords).foldl (· + ·) 0

/-- Instance size in words: P + S + O (R185). -/
def Sig.words (g : Sig) : Nat := g.p + g.s + outWords g.outs

/-- Word offset of output k in its instance. -/
def Sig.outOff (g : Sig) (k : Nat) : Nat := g.p + g.s + outWords (g.outs.take k)

/-- The parameter words marked "fixed" in the catalogue: they may not be set in onl_mask (R185). -/
def fixedParams (b : Blk) : List Nat :=
  match b with
  | .lintab | .loopsup | .axmove | .axhome | .axstop | .axgear | .axstat | .portst | .portrst | .pblink | .sfst
  | .parwr | .parrd => [0]
  | .canfilt => [0, 4]
  | .canobj | .cansend | .pub | .pfield | .perf => [0, 1]
  | .sub_ => [0, 1, 2]
  | _ => []

/-- The range of an integer parameter word k; none where the catalogue states none. -/
def paramRange (b : Blk) (k : Nat) : Option (Nat × Nat) :=
  let tbl : List (Option (Nat × Nat)) :=
    match b with
    | .lintab => [some (2, 12)]
    | .loopsup => [some (0, 255)]
    | .axmove | .axhome | .axstop | .axgear | .axstat => [some (0, 15)]
    | .portst | .portrst => [some (0, 7)]
    | .canfilt => [some (0, 7), some (0, 2 ^ 29 - 1), none, some (0, 15), some (0, 255), some (1, 256)]
    | .canobj | .cansend => [some (0, 7), some (0, 127)]
    | .pub => [some (0, 255), some (0, 15)]
    | .sub_ => [some (0, 255), some (0, 255), some (0, 15)]
    | .evraise => [some (0, 65535), some (0, 3)]
    | .pfield => [some (0, 255), some (0, 255)]
    | .pblink => [some (0, 7)]
    | .sfst => [some (0, 31)]
    | .perf => [some (0, 7), some (0, 9)]
    | _ => []
  tbl.getD k none

end Sys2Proof.Machine
end

