-- ==== Sys2Proof/Machine/BlockFns.lean ====
section
/-! DEFINITION. What each block type computes (Tables 7.1 to 7.9) from its inputs, parameters, state words and previous
outputs. The functions are pure; an invocation applies one of them to its instance and commits the result. -/

namespace Sys2Proof.Machine

/-- What an evaluation sees: the type code t, input values in binding order, parameter and state words, the previous
outputs, the elapsed ticks d of R189, the latch tick and the latch calendar stamp. -/
structure Ctx where
  t : Nat
  ins : List Nat
  par : List Nat
  st : List Nat
  old : List Nat
  d : Nat
  now : Nat
  cal : Nat
  deriving DecidableEq, Repr

/-- What an evaluation leaves: its state words and its outputs. -/
structure Res where
  st : List Nat
  outs : List Nat
  deriving DecidableEq, Repr

/-- Input k. -/
def Ctx.i (c : Ctx) (k : Nat) : Nat := nth 0 c.ins k
/-- BOOL input k. -/
def Ctx.b (c : Ctx) (k : Nat) : Bool := nth 0 c.ins k != 0
/-- REAL32 input k, a subnormal taken as zero (R187). -/
def Ctx.r (c : Ctx) (k : Nat) : Nat := rFlush (nth 0 c.ins k)
/-- State word k. -/
def Ctx.w (c : Ctx) (k : Nat) : Nat := nth 0 c.st k
/-- A state word used as a BOOL. -/
def Ctx.wb (c : Ctx) (k : Nat) : Bool := nth 0 c.st k != 0
/-- Previous output k. -/
def Ctx.o (c : Ctx) (k : Nat) : Nat := nth 0 c.old k
/-- Previous BOOL output k. -/
def Ctx.ob (c : Ctx) (k : Nat) : Bool := nth 0 c.old k != 0
/-- Parameter word k. -/
def Ctx.p (c : Ctx) (k : Nat) : Nat := nth 0 c.par k

/-- A result without state. -/
def outsOnly (l : List Nat) : Res := { st := [], outs := l }

/-- A REAL32 result under R187: NaN or infinite, or computed from a NaN input, it is not written and x is set. -/
def realOut (bad : Bool) (old r : Nat) : Nat × Bool := if bad || rBad r then (old, true) else (rFlush r, false)

/-! ### Logic and words (Table 7.1) -/

/-- AND: true when every input is true. -/
def andFn (c : Ctx) : Res := outsOnly [b2n (c.ins.all (· != 0))]
/-- OR: true when any input is true. -/
def orFn (c : Ctx) : Res := outsOnly [b2n (c.ins.any (· != 0))]
/-- XOR: true when an odd number of inputs are true. -/
def xorFn (c : Ctx) : Res := outsOnly [(c.ins.filter (· != 0)).length % 2]
/-- NOT. -/
def notFn (c : Ctx) : Res := outsOnly [b2n (!c.b 0)]
/-- WAND: bitwise and. -/
def wandFn (c : Ctx) : Res := outsOnly [c.ins.foldl (· &&& ·) 0xFFFFFFFF]
/-- WOR: bitwise or. -/
def worFn (c : Ctx) : Res := outsOnly [c.ins.foldl (· ||| ·) 0]
/-- WXOR: bitwise exclusive or. -/
def wxorFn (c : Ctx) : Res := outsOnly [c.ins.foldl (· ^^^ ·) 0]
/-- WNOT: bitwise complement. -/
def wnotFn (c : Ctx) : Res := outsOnly [c.i 0 ^^^ 0xFFFFFFFF]
/-- SHIFT: left by n, logical right by −n, 0 from 32 places on. -/
def shiftFn (c : Ctx) : Res :=
  let n := intOf 2 (c.i 1)
  outsOnly [if 32 ≤ n.natAbs then 0 else if 0 ≤ n then (c.i 0 <<< n.natAbs) % 2 ^ 32 else c.i 0 >>> n.natAbs]
/-- BIT: bit n, or x when n is outside 0–31. -/
def bitFn (c : Ctx) : Res :=
  let n := intOf 2 (c.i 1)
  if 0 ≤ n && n ≤ 31 then outsOnly [b2n ((c.i 0).testBit n.toNat), 0] else outsOnly [0, 1]
/-- The number whose bit k is the k-th BOOL of a list. -/
def packBits : List Nat → Nat
  | [] => 0
  | b :: bs => (if b != 0 then 1 else 0) + 2 * packBits bs
/-- PACK. -/
def packFn (c : Ctx) : Res := outsOnly [packBits c.ins]
/-- UNPACK, into as many outputs as the invocation has. -/
def unpackFn (c : Ctx) : Res :=
  outsOnly ((List.range c.old.length).map (fun k => b2n ((c.i 0).testBit k)))

/-! ### Comparison (Table 7.2, R193) -/

/-- A comparison of two values of type t; a NaN operand gives false. -/
def cmpFn (onReal : Nat → Nat → Bool) (onInt : Int → Int → Bool) (c : Ctx) : Res :=
  outsOnly [b2n (if c.t = 4 then !rNaN (c.i 0) && !rNaN (c.i 1) && onReal (c.r 0) (c.r 1)
    else onInt (intOf c.t (c.i 0)) (intOf c.t (c.i 1)))]
/-- EQ. -/
def eqFn : Ctx → Res := cmpFn rEq (fun a b => a == b)
/-- NE. -/
def neFn : Ctx → Res := cmpFn (fun a b => !rEq a b) (fun a b => a != b)
/-- GT. -/
def gtFn : Ctx → Res := cmpFn (fun a b => rLt b a) (fun a b => decide (b < a))
/-- GE. -/
def geFn : Ctx → Res := cmpFn (fun a b => rLe b a) (fun a b => decide (b ≤ a))
/-- LT. -/
def ltFn : Ctx → Res := cmpFn rLt (fun a b => decide (a < b))
/-- LE. -/
def leFn : Ctx → Res := cmpFn rLe (fun a b => decide (a ≤ b))

/-- CMPH: a threshold with a hysteresis band, rule NZ on the band; with a NaN operand q is kept. -/
def cmphFn (c : Ctx) : Res :=
  let mm := rLt (c.r 2) 0
  let band := if mm then 0 else c.r 2
  let nan := rNaN (c.r 0) || rNaN (c.r 1) || rNaN (c.r 2)
  let q := if nan then c.ob 0
    else if rLe (c.r 1) (c.r 0) then true
    else if rLt (c.r 0) (rSub (c.r 1) band) then false
    else c.ob 0
  outsOnly [b2n q, b2n mm]

/-! ### Arithmetic (Table 7.3, R187) -/

/-- Fold an integer operation over inputs, each partial result saturated; the flag says one was out of range. -/
def foldInt (t : Nat) (op : Int → Int → Int) : List Int → Int × Bool → Int × Bool
  | [], a => a
  | v :: vs, (a, x) =>
    let r := op a v
    foldInt t op vs (clampI (tyMin t) (tyMax t) r, x || outOfRange t r)

/-- A sum or product of inputs left to right. -/
def foldFn (onReal : Nat → Nat → Nat) (onInt : Int → Int → Int) (c : Ctx) : Res :=
  match c.ins with
  | [] => outsOnly [c.o 0, 1]
  | a :: rest =>
    if c.t = 4 then
      let r := (rest.map rFlush).foldl onReal (rFlush a)
      let (q, x) := realOut (c.ins.any rNaN) (c.o 0) r
      outsOnly [q, b2n x]
    else
      let (r, x) := foldInt c.t onInt (rest.map (intOf c.t)) (intOf c.t a, false)
      outsOnly [satEnc c.t r, b2n x]
/-- ADD. -/
def addFn : Ctx → Res := foldFn rAdd (· + ·)
/-- SUB. -/
def subFn : Ctx → Res := foldFn rSub (· - ·)
/-- MUL. -/
def mulFn : Ctx → Res := foldFn rMul (· * ·)

/-- DIV: integer division truncates toward zero, and by zero keeps the previous value. -/
def divFn (c : Ctx) : Res :=
  if c.t = 4 then
    let (q, x) := realOut (c.ins.any rNaN) (c.o 0) (rDiv (c.r 0) (c.r 1))
    outsOnly [q, b2n x]
  else
    let a := intOf c.t (c.i 0)
    let b := intOf c.t (c.i 1)
    if b = 0 then outsOnly [c.o 0, 1]
    else outsOnly [satEnc c.t (a.tdiv b), b2n (outOfRange c.t (a.tdiv b))]

/-- MOD: remainder with the sign of in1; by zero keeps the previous value. -/
def modFn (c : Ctx) : Res :=
  let a := intOf c.t (c.i 0)
  let b := intOf c.t (c.i 1)
  if b = 0 then outsOnly [c.o 0, 1] else outsOnly [satEnc c.t (a.tmod b), 0]

/-- A function of one value: ABS and NEG. -/
def unaryFn (onReal : Nat → Nat) (onInt : Int → Int) (c : Ctx) : Res :=
  if c.t = 4 then
    let (q, x) := realOut (rNaN (c.i 0)) (c.o 0) (onReal (c.r 0))
    outsOnly [q, b2n x]
  else
    let r := onInt (intOf c.t (c.i 0))
    outsOnly [satEnc c.t r, b2n (outOfRange c.t r)]
/-- ABS. -/
def absFn : Ctx → Res := unaryFn rAbs (fun a => (a.natAbs : Int))
/-- NEG. -/
def negFn : Ctx → Res := unaryFn rNegate (fun a => -a)

/-- MIN and MAX: NaN inputs are ignored; all NaN keeps the value with x. -/
def extremeFn (onReal : Nat → Nat → Nat) (onInt : Int → Int → Int) (c : Ctx) : Res :=
  if c.t = 4 then
    match (c.ins.filter (fun v => !rNaN v)).map rFlush with
    | [] => outsOnly [c.o 0, 1]
    | a :: rest =>
      let (q, x) := realOut false (c.o 0) (rest.foldl onReal a)
      outsOnly [q, b2n x]
  else
    match c.ins.map (intOf c.t) with
    | [] => outsOnly [c.o 0, 1]
    | a :: rest => outsOnly [satEnc c.t (rest.foldl onInt a), 0]
/-- MIN. -/
def minFn : Ctx → Res := extremeFn rMin min
/-- MAX. -/
def maxFn : Ctx → Res := extremeFn rMax max

/-- SQRT: 0 with x below zero. -/
def sqrtFn (c : Ctx) : Res :=
  if rLt (c.r 0) 0 then outsOnly [0, 1]
  else
    let (q, x) := realOut (rNaN (c.i 0)) (c.o 0) (rSqrt (c.r 0))
    outsOnly [q, b2n x]
/-- LN: at or below zero R187 applies. -/
def lnFn (c : Ctx) : Res :=
  if rLe (c.r 0) 0 then outsOnly [c.o 0, 1]
  else
    let (q, x) := realOut (rNaN (c.i 0)) (c.o 0) (rLn (c.r 0))
    outsOnly [q, b2n x]
/-- EXP. -/
def expFn (c : Ctx) : Res :=
  let (q, x) := realOut (rNaN (c.i 0)) (c.o 0) (rExp (c.r 0))
  outsOnly [q, b2n x]
/-- POW. -/
def powFn (c : Ctx) : Res :=
  let (q, x) := realOut (c.ins.any rNaN) (c.o 0) (rPow (c.r 0) (c.r 1))
  outsOnly [q, b2n x]
/-- Horner's rule over coefficients, the constant first. -/
def horner (v : Nat) : List Nat → Nat
  | [] => 0
  | [a] => a
  | a :: t => rAdd a (rMul v (horner v t))
/-- POLY. -/
def polyFn (c : Ctx) : Res :=
  let cs := (c.par.take 6).map rFlush
  let (q, x) := realOut (rNaN (c.i 0) || cs.any rNaN) (c.o 0) (horner (c.r 0) cs)
  outsOnly [q, b2n x]

/-! ### Selection and limiting (Table 7.4) -/

/-- A copied value as an output: a REAL32 that is NaN or infinite is not written (R187). -/
def copyOut (t old v : Nat) : Nat × Bool := if t = 4 then realOut false old v else (v, false)

/-- SEL. -/
def selFn (c : Ctx) : Res := outsOnly [(copyOut c.t (c.o 0) (if c.b 0 then c.i 2 else c.i 1)).1]
/-- MUX: input k, clamped with x. -/
def muxFn (c : Ctx) : Res :=
  let k := intOf 2 (c.i 0)
  let n : Int := (c.ins.length : Int) - 1
  let kk := clampI 0 (n - 1) k
  let (q, x) := copyOut c.t (c.o 0) (c.i (1 + kk.toNat))
  outsOnly [q, b2n (x || kk != k)]
/-- LIMIT: clamp under rule LW. -/
def limitFn (c : Ctx) : Res :=
  if c.t = 4 then
    let mm := rLt (c.r 2) (c.r 0)
    let hi := if mm then c.r 0 else c.r 2
    if c.ins.any rNaN then outsOnly [c.o 0, c.o 1, b2n mm]
    else
      let v := rClamp (c.r 0) hi (c.r 1)
      let (q, _) := realOut false (c.o 0) v
      outsOnly [q, b2n (!rEq v (c.r 1)), b2n mm]
  else
    let lo := intOf c.t (c.i 0)
    let v := intOf c.t (c.i 1)
    let hi0 := intOf c.t (c.i 2)
    let mm := decide (hi0 < lo)
    let hi := if mm then lo else hi0
    let q := clampI lo hi v
    outsOnly [satEnc c.t q, b2n (q != v), b2n mm]
/-- MOVE: in while en is true. -/
def moveFn (c : Ctx) : Res := outsOnly [if c.b 0 then (copyOut c.t (c.o 0) (c.i 1)).1 else c.o 0]

/-! ### Timers, filters and ramps (Table 7.5, R159, R189) -/

/-- Accumulated ticks after d more (R159). -/
def accAdd (acc d : Nat) : Nat := min (acc + d) (2 ^ 32 - 1)
/-- One million, for "per second" (R189). -/
def million : Nat := rOfInt 1000000
/-- d ticks as REAL32. -/
def ticksReal (d : Nat) : Nat := rOfInt d

/-- LAG: q + (in − q)·d / (tc + d). -/
def lagFn (c : Ctx) : Res :=
  let tc := c.i 1
  let q := c.o 0
  let r := if tc = 0 then c.r 0
    else rAdd q (rDiv (rMul (rSub (c.r 0) q) (ticksReal c.d)) (ticksReal (tc + c.d)))
  let out := if tc = 0 && c.d = 0 then q else (realOut (rNaN (c.i 0)) q r).1
  { st := [c.now], outs := [out] }
/-- RATE: (in − prev)·10^6 / d; holds when d = 0. -/
def rateFn (c : Ctx) : Res :=
  let r := rDiv (rMul (rSub (c.r 0) (c.w 1)) million) (ticksReal c.d)
  let out := if c.d = 0 then c.o 0 else (realOut (rNaN (c.i 0)) (c.o 0) r).1
  { st := [c.now, c.i 0], outs := [out] }
/-- INTEG: q + k·in·d·10^−6, clamped under rule LW; rst clamps 0. -/
def integFn (c : Ctx) : Res :=
  let lo := c.r 3
  let mm := rLt (c.r 4) lo
  let hi := if mm then lo else c.r 4
  let v := if c.b 2 then 0
    else rAdd (c.o 0) (rDiv (rMul (rMul (c.r 1) (c.r 0)) (ticksReal c.d)) million)
  let nan := (!c.b 2 && (rNaN (c.i 0) || rNaN (c.i 1))) || rNaN (c.i 3) || rNaN (c.i 4) || rNaN v
  let q := rClamp lo hi v
  if nan then { st := [c.now], outs := [c.o 0, c.o 1, b2n mm] }
  else { st := [c.now], outs := [(realOut false (c.o 0) q).1, b2n (!rEq q v), b2n mm] }
/-- RAMP: toward target at the up and down rates, without overshoot; rule NZ on both. -/
def rampFn (c : Ctx) : Res :=
  let target := c.r 0
  let mm := rLt (c.r 1) 0 || rLt (c.r 2) 0
  let up := if rLt (c.r 1) 0 then 0 else c.r 1
  let down := if rLt (c.r 2) 0 then 0 else c.r 2
  let q := c.o 0
  let step := fun rate => rDiv (rMul rate (ticksReal c.d)) million
  let v := if c.b 3 then target
    else if rLt q target then (if rLe up 0 then q else rMin target (rAdd q (step up)))
    else if rLt target q then (if rLe down 0 then q else rMax target (rSub q (step down)))
    else q
  let nan := rNaN target || (!c.b 3 && ((rLt q target && rNaN (c.i 1)) || (rLt target q && rNaN (c.i 2))))
  let out := (realOut nan q v).1
  { st := [c.now], outs := [out, b2n (!rEq out target), b2n mm] }
/-- TON: on-delay. -/
def tonFn (c : Ctx) : Res :=
  let pt := c.i 1
  let acc := if c.b 0 then (if c.wb 2 then accAdd (c.w 1) c.d else 0) else 0
  { st := [c.now, acc, b2n (c.b 0)], outs := [b2n (c.b 0 && pt ≤ acc), min acc pt] }
/-- TOF: off-delay. -/
def tofFn (c : Ctx) : Res :=
  let pt := c.i 1
  let acc := if c.b 0 then 0 else if c.wb 2 then 0 else accAdd (c.w 1) c.d
  { st := [c.now, acc, b2n (c.b 0)], outs := [b2n (c.b 0 || (c.ob 0 && acc < pt)), min acc pt] }
/-- TP: pulse, not retriggerable; a rising edge at the very evaluation in which q falls starts a new pulse (DESIGN CHOICE, log entry 147). -/
def tpFn (c : Ctx) : Res :=
  let pt := c.i 1
  let acc := if c.ob 0 then accAdd (c.w 1) c.d else c.w 1
  let q := c.ob 0 && acc < pt
  let start := c.b 0 && !c.wb 2 && !q && 0 < pt
  let acc' := if start then 0 else acc
  { st := [c.now, acc', b2n (c.b 0)], outs := [b2n (q || start), min acc' pt] }
/-- RTO: retentive. -/
def rtoFn (c : Ctx) : Res :=
  let pt := c.i 2
  let acc := if c.b 1 then 0 else if c.b 0 && c.wb 2 then accAdd (c.w 1) c.d else c.w 1
  { st := [c.now, acc, b2n (c.b 0)], outs := [b2n (pt ≤ acc), min acc pt] }
/-- PGEN: pulse train, starting with the on phase at a rising edge of en. -/
def pgenFn (c : Ctx) : Res :=
  let ton := c.i 1
  let toff := c.i 2
  let acc := if c.b 0 && c.wb 2 && 0 < ton + toff then min ((c.w 1 + c.d) % (ton + toff)) (2 ^ 32 - 1) else 0
  { st := [c.now, acc, b2n (c.b 0)], outs := [b2n (c.b 0 && 0 < ton && (toff = 0 || acc < ton))] }
/-- DEBNC: the input must have read the new value at consecutive latches spanning ton or toff. -/
def debncFn (c : Ctx) : Res :=
  let v := c.b 0
  let acc := if v == c.wb 2 then accAdd (c.w 1) c.d else 0
  let q := if v && c.i 1 ≤ acc then true else if !v && c.i 2 ≤ acc then false else c.ob 0
  { st := [c.now, acc, b2n v], outs := [b2n q] }
/-- BUMPSW: bumpless switch over tt, recomputed at each evaluation. -/
def bumpswFn (c : Ctx) : Res :=
  let tt := c.i 3
  let change := c.b 0 != c.wb 3
  let q0 := if change then c.o 0 else c.w 2
  let acc := if change then 0 else accAdd (c.w 1) c.d
  let v := if c.b 0 then c.r 2 else c.r 1
  let r := if tt ≤ acc then v
    else rAdd q0 (rMul (rSub v q0) (rDiv (ticksReal acc) (ticksReal tt)))
  { st := [c.now, acc, q0, b2n (c.b 0)], outs := [(realOut (rNaN v) (c.o 0) r).1, b2n (decide (acc < tt))] }

/-! ### Counters, edges and latches (Table 7.6, R161) -/

/-- CTU. -/
def ctuFn (c : Ctx) : Res :=
  let cv := intOf 2 (c.o 1)
  let cv' := if c.b 1 then 0 else if c.b 0 && !c.wb 0 then min (cv + 1) (tyMax 2) else cv
  { st := [b2n (c.b 0)], outs := [b2n (decide (intOf 2 (c.i 2) ≤ cv')), satEnc 2 cv'] }
/-- CTD. -/
def ctdFn (c : Ctx) : Res :=
  let cv := intOf 2 (c.o 1)
  let cv' := if c.b 1 then intOf 2 (c.i 2) else if c.b 0 && !c.wb 0 then max (cv - 1) (tyMin 2) else cv
  { st := [b2n (c.b 0)], outs := [b2n (decide (cv' ≤ 0)), satEnc 2 cv'] }
/-- CTUD: rst before ld before counting; kept in lo–hi, rule LW. -/
def ctudFn (c : Ctx) : Res :=
  let cv := intOf 2 (c.o 2)
  let lo := intOf 2 (c.i 5)
  let mm := decide (intOf 2 (c.i 6) < lo)
  let hi := if mm then lo else intOf 2 (c.i 6)
  let eu := c.b 0 && !c.wb 0
  let ed := c.b 1 && !c.wb 1
  let v := if c.b 2 then 0 else if c.b 3 then intOf 2 (c.i 4)
    else if eu && !ed then cv + 1 else if ed && !eu then cv - 1 else cv
  let cv' := clampI lo hi v
  { st := [b2n (c.b 0), b2n (c.b 1)],
    outs := [b2n (decide (intOf 2 (c.i 4) ≤ cv')), b2n (decide (cv' ≤ lo)), satEnc 2 cv', b2n mm] }
/-- CNTD: difference, total and rate of a count. -/
def cntdFn (c : Ctx) : Res :=
  let dv := tickDiff (c.i 0) (c.w 1)
  let rate := rDiv (rMul (ticksReal dv) million) (ticksReal c.d)
  { st := [c.now, c.i 0, c.w 2],
    outs := [dv, if c.b 1 then 0 else (c.o 1 + dv) % 2 ^ 32, if c.d = 0 then c.o 2 else (realOut false (c.o 2) rate).1] }
/-- R_TRIG. -/
def rTrigFn (c : Ctx) : Res := { st := [b2n (c.b 0)], outs := [b2n (c.b 0 && !c.wb 0)] }
/-- F_TRIG. -/
def fTrigFn (c : Ctx) : Res := { st := [b2n (c.b 0)], outs := [b2n (c.wb 0 && !c.b 0)] }
/-- SR: set dominant. -/
def srFn (c : Ctx) : Res := outsOnly [b2n (c.b 0 || (c.ob 0 && !c.b 1))]
/-- RS: reset dominant. -/
def rsFn (c : Ctx) : Res := outsOnly [b2n (!c.b 1 && (c.b 0 || c.ob 0))]
/-- ESTAMP: the latch tick and stamp at a rising edge. -/
def estampFn (c : Ctx) : Res :=
  let edge := c.b 0 && !c.wb 0
  { st := [b2n (c.b 0)], outs := [b2n edge, if edge then c.now else c.o 1, if edge then c.cal else c.o 2] }
/-- TOGGLE. -/
def toggleFn (c : Ctx) : Res :=
  { st := [b2n (c.b 0)], outs := [b2n (if c.b 0 && !c.wb 0 then !c.ob 0 else c.ob 0)] }

/-! ### Scaling and conversion (Table 7.7) -/

/-- What SCALE computes (R196). -/
structure ScaleOut where
  q : Nat
  lo : Bool
  hi : Bool
  mm : Bool
  deriving DecidableEq, Repr

/-- The line from (i0, o0) to (i1, o1); rule ZS on i1 = i0. -/
def scaleOf (v i0 i1 o0 o1 : Nat) (clamp : Bool) : ScaleOut :=
  if rEq i1 i0 then ⟨o0, true, false, true⟩
  else
    let f := rDiv (rSub v i0) (rSub i1 i0)
    let lo := rLt f 0
    let hi := rLt (rOfInt 1) f
    ⟨if clamp && lo then o0 else if clamp && hi then o1 else rAdd o0 (rMul f (rSub o1 o0)), lo, hi, false⟩

/-- SCALE. -/
def scaleFn (c : Ctx) : Res :=
  let r := scaleOf (c.r 0) (c.r 1) (c.r 2) (c.r 3) (c.r 4) (c.b 5)
  outsOnly [(realOut false (c.o 0) r.q).1, b2n r.lo, b2n r.hi, b2n r.mm]
/-- SCALEQ: as SCALE, with lo and hi in the status; a result R187 does not write sets fault. -/
def scaleqFn (c : Ctx) : Res :=
  let r := scaleOf (c.r 0) (c.r 2) (c.r 3) (c.r 4) (c.r 5) (c.b 6)
  let (q, x) := realOut false (c.o 0) r.q
  let st := withBit (withBit (c.i 1) stLow r.lo) stHigh r.hi
  outsOnly [q, stNorm (if x then withBit st stFault true else st), b2n r.mm]

/-- Points of LINTAB: abscissas from x0 by the widths, negative widths taken as zero. -/
def lintabXs : Nat → List Nat → List Nat
  | x, [] => [x]
  | x, w :: ws => x :: lintabXs (rAdd x (if rLt w 0 then 0 else w)) ws

/-- Interpolation between neighbouring points; of coinciding points the higher-numbered one is taken. The second part says whether the value is
computed from a NaN: the abscissa of either point it lies between, or an ordinate it uses (R187). -/
def lintabSeek (v : Nat) : List Nat → List Nat → Nat × Bool
  | x0 :: x1 :: xs, y0 :: y1 :: ys =>
    if rLe x1 v then lintabSeek v (x1 :: xs) (y1 :: ys)
    else if rEq v x0 then (y0, rNaN y0)
    else (rAdd y0 (rDiv (rMul (rSub y1 y0) (rSub v x0)) (rSub x1 x0)), rNaN x0 || rNaN x1 || rNaN y0 || rNaN y1)
  | _, y :: _ => (y, rNaN y)
  | _, [] => (0, false)

/-- LINTAB (R197). A parameter that is NaN counts where q is computed from it: y0 below x0, and where the input lies on the points, the two
points around it. Above the last point every width is part of the comparison. -/
def lintabFn (c : Ctx) : Res :=
  let n := min (max (c.p 0) 2) 12
  let ws := ((c.par.drop 2).take (n - 1)).map rFlush
  let xs := lintabXs (rFlush (c.p 1)) ws
  let ys := ((c.par.drop 13).take n).map rFlush
  let v := c.r 0
  let mm := ws.any (fun w => rLt w 0)
  let below := rLt v (nth 0 xs 0)
  let above := rLt (nth 0 xs (n - 1)) v
  let (q, bad) := if below then (nth 0 ys 0, false) else if above then (nth 0 ys (n - 1), false) else lintabSeek v xs ys
  if rNaN (c.i 0) || rNaN (nth 0 xs 0) || bad then outsOnly [c.o 0, c.o 1, b2n mm]
  else outsOnly [(realOut false (c.o 0) q).1, b2n (below || above), b2n mm]

/-- CONV from type a to type b; TICKS is converted as UINT32. -/
def convFn (c : Ctx) : Res :=
  let a := c.t / 8
  let b := c.t % 8
  if b = 4 then outsOnly [rOfInt (intOf a (c.i 0)), 0]
  else if a = 4 then
    if rNaN (c.i 0) then outsOnly [0, 1]
    else if rInf (c.i 0) then outsOnly [satEnc b (if rNeg (c.i 0) then tyMin b else tyMax b), 1]
    else
      let r := rToIntEven (c.r 0)
      outsOnly [satEnc b r, b2n (outOfRange b r)]
  else
    let r := intOf a (c.i 0)
    outsOnly [satEnc b r, b2n (outOfRange b r)]
/-- CAST_UR: bit pattern unchanged. -/
def castUrFn (c : Ctx) : Res := outsOnly [c.i 0]
/-- CAST_RU: bit pattern unchanged. -/
def castRuFn (c : Ctx) : Res := outsOnly [c.i 0]
/-- CAST_UI: bit pattern unchanged. -/
def castUiFn (c : Ctx) : Res := outsOnly [c.i 0]
/-- CAST_IU: bit pattern unchanged. -/
def castIuFn (c : Ctx) : Res := outsOnly [c.i 0]
/-- STSPLIT: one output per bit of Table 0.6. -/
def stsplitFn (c : Ctx) : Res := outsOnly ((List.range 8).map (fun k => b2n ((c.i 0).testBit k)))
/-- STMERGE: valid is the and, every other bit the or of the inputs. -/
def stmergeFn (c : Ctx) : Res :=
  let rest := c.ins.foldl (· ||| ·) 0
  outsOnly [stNorm (withBit (rest % 65536) 0 (c.ins.all (fun v => v.testBit 0)))]

/-! Calendar dates of R21: days from 2000-01-01, which begins a cycle of 400 years. -/

/-- Days of the months of a year. -/
def monthDays (leap : Bool) : List Nat := [31, if leap then 29 else 28, 31, 30, 31, 30, 31, 31, 30, 31, 30, 31]

/-- Month and day of a day of the year. -/
def monthOf : List Nat → Nat → Nat → Nat × Nat
  | [], m, d => (m, d + 1)
  | n :: ns, m, d => if d < n then (m, d + 1) else monthOf ns (m + 1) (d - n)

/-- Year, month, day of a day count from 2000-01-01. -/
def dateOf (days : Nat) : Nat × Nat × Nat :=
  let c400 := days / 146097
  let r := days % 146097
  let cent := if r < 36525 then 0 else 1 + (r - 36525) / 36524
  let r1 := if r < 36525 then r else (r - 36525) % 36524
  -- in the first century each block of four years begins with a leap year; in the others the first block has none
  let short := cent != 0
  let first := if short then 1460 else 1461
  let quad := if r1 < first then 0 else 1 + (r1 - first) / 1461
  let r2 := if r1 < first then r1 else (r1 - first) % 1461
  let leap4 := !(short && quad = 0)
  let yr := if leap4 then (if r2 < 366 then 0 else 1 + (r2 - 366) / 365) else r2 / 365
  let r3 := if leap4 then (if r2 < 366 then r2 else (r2 - 366) % 365) else r2 % 365
  let (m, d) := monthOf (monthDays (leap4 && yr = 0)) 1 r3
  (2000 + 400 * c400 + 100 * cent + 4 * quad + yr, m, d)

/-- CALSPLIT: the UTC fields of a calendar stamp. -/
def calsplitFn (c : Ctx) : Res :=
  let secs := c.i 0 / 2 ^ 24
  let (y, m, d) := dateOf (secs / 86400)
  let s := secs % 86400
  outsOnly [y, m, d, s / 3600, s / 60 % 60, s % 60, c.i 0 % 2 ^ 24 * 1000000 / 2 ^ 24]

/-- ALM: low and high alarms with deadband; rule LW on lo and hi, rule NZ on db. A NaN input keeps both outputs (DESIGN CHOICE, log entry
148). -/
def almFn (c : Ctx) : Res :=
  let lo := c.r 1
  let lw := rLt (c.r 2) lo
  let hi := if lw then lo else c.r 2
  let nz := rLt (c.r 3) 0
  let db := if nz then 0 else c.r 3
  let v := c.r 0
  if c.ins.any rNaN then outsOnly [c.o 0, c.o 1, b2n (lw || nz)]
  else
    let qhi := if rLe hi v then true else if rLt v (rSub hi db) then false else c.ob 1
    let qlo := if rLe v lo then true else if rLt (rAdd lo db) v then false else c.ob 0
    outsOnly [b2n qlo, b2n qhi, b2n (lw || nz)]

end Sys2Proof.Machine
end

