-- ==== Sys2Proof/Config.lean ====
section
/-! DEFINITION. What an implementation fixes and the spec leaves open: constants without a body, so that nothing can be
proved of their values. The functions of a counter give a fresh value each time they are used. -/

namespace Sys2Proof

/-- A word whose value the spec leaves open (log entry 3). -/
opaque Config.freeWord : Nat → BitVec 32

/-- The reference function E(T) of IEC 60584-1 for a thermocouple type, in µV, from a REAL32 temperature (R223; the
spec cites the standard and does not print the tables, log entry 4). -/
opaque Config.tcVolts : Nat → BitVec 32 → BitVec 32

/-- Its inverse: the temperature of a thermocouple type at a voltage in µV (R223, log entry 4). -/
opaque Config.tcTemp : Nat → BitVec 32 → BitVec 32

/-- The 19 characters on the module label, as ASCII codes (R455, log entry 26). -/
opaque Config.labelCode : List Nat

/-- The typical offset of a region's junction temperature above its connector, in 1/16 °C (R224 names it and gives no
figure, log entry 7). -/
opaque Config.junctionOffset : BitVec 16

/-- The level 2 command of channel g whose safe_kind stands at 2 in a mode or with an ne43 that gives no alarm current (R229 refuses the
write, R244 keeps the field; log entry 122). -/
opaque Config.noAlarm : Nat → BitVec 32

/-- The delay of a CAN port's own transceiver, round trip, in ns (R105 takes it off and gives no figure, log entry 112). -/
opaque Config.transceiverDelay : BitVec 16

/-- Spare blocks of the recorder's store as delivered (R460 names them and gives no number, log entry 27). -/
opaque Config.spareBlocks : BitVec 16

/-- The panel's built-in font: is the dot of a character (ASCII code) at column and row of its 8 × 16 cell set (R483 names
the font and does not print it, log entry 25)? -/
opaque Config.glyph : Nat → Nat → Nat → Bool

/-- The dots of the status page for what it shows beside the acceptance code, at a column and row (R491 lists the content, not the layout,
log entry 25). -/
opaque Config.statusPixel : List Nat → Nat → Nat → BitVec 32

/-- How the acceptance code is drawn (R131, R491): its scale, the colours of its dots and of their ground, and its corner on the status
page (log entry 25). -/
opaque Config.codeScale : BitVec 3
opaque Config.codeInk : Bool → BitVec 32
opaque Config.codeCorner : BitVec 11 × BitVec 11

/-- Front porch and sync within the blanking of the built-in timing, of a line and of a frame (R478 gives the blanking alone, log entry
126). -/
opaque Config.builtInPorch : Bool → BitVec 8 × BitVec 8

/-- The frames and the frame codes of the waveforms that an electrophoretic panel is driven with while no PANEL section gives any, by band,
entry and frame (R491 shows the status page before the image and without a PANEL section, R497 gives waveforms in that section alone;
log entry 153). -/
opaque Config.builtInFrames : Nat → Nat → BitVec 8
opaque Config.builtInCode : Nat → Nat → Nat → BitVec 2

end Sys2Proof
end

