-- ==== Sys2Proof/Machine/FieldsChip.lean ====
section
/-! DEFINITION. The field tables of the fabric, supplies, start, image and block engine chapters, one definition per field (its words, bits,
access class, value at reset and permitted range as the spec's "At reset" and "Meaning" columns give them). -/

namespace Sys2Proof.Machine

/-! ### Region: R54, Table 1.6 -/

namespace Region
def link_latched : Field := .one 0 15 12 .run 0 .any
def link_up : Field := .one 0 11 8 .run 0 .any
def regionNo : Field := .one 0 7 5 .run 0 .any
def lead : Field := .one 0 2 2 .run 0 .any
def beacon_ok : Field := .one 0 1 1 .run 0 .any
def running : Field := .one 0 0 0 .run 0 .any
def fenced : Field := .one 1 15 0 .run 0 .any
def failed : Field := .one 2 15 0 .w1c 0 .any
def unreached : Field := .one 3 23 16 .run 0 .any
def route : Field := .one 3 15 0 .run 0 .any
def replays : Field := .many 4 4 1 31 16 .run 0 .any
def crc_errors : Field := .many 4 4 1 15 0 .run 0 .any
def ecc_uncorrected : Field := .one 8 31 16 .run 0 .any
def ecc_corrected : Field := .one 8 15 0 .run 0 .any
def retries : Field := .one 9 31 0 .run 0 .any
def tj : Field := .one 0x000A 15 0 .run 0 .any
def pace : Field := .one 0x000B 31 0 .run 0 .any
def w_local : Field := .one 0x000C 19 16 .img 8 (.upto 1 15)
def w_lk3 : Field := .one 0x000C 15 12 .img 8 (.upto 1 15)
def w_lk2 : Field := .one 0x000C 11 8 .img 8 (.upto 1 15)
def w_lk1 : Field := .one 0x000C 7 4 .img 8 (.upto 1 15)
def w_lk0 : Field := .one 0x000C 3 0 .img 8 (.upto 1 15)
def block : Field := .one 0x000E 19 16 .cmd 0 .any
def clear_counters : Field := .one 0x000E 2 2 .cmd 0 .any
def retrain : Field := .one 0x000E 1 1 .cmd 0 .any
def unfence : Field := .one 0x000E 0 0 .cmd 0 .any
def last_cmd : Field := .one 0x000F 15 8 .run 0 .any
def result : Field := .one 0x000F 7 0 .run 0 .any
/-- Every field of the block. -/
def table : List Field :=
  [link_latched, link_up, regionNo, lead, beacon_ok, running, fenced, failed, unreached, route, replays, crc_errors] ++
  [ecc_uncorrected, ecc_corrected, retries, tj, pace, w_local, w_lk3, w_lk2, w_lk1, w_lk0, block, clear_counters] ++
  [retrain, unfence, last_cmd, result]
end Region

/-! ### Cross: R74, Table 2.6 -/

namespace Cross
def overrun : Field := .one 0x0010 23 16 .w1c 0 .any
def clock_lost : Field := .one 0x0010 15 8 .w1c 0 .any
def clock_ok : Field := .one 0x0010 7 0 .run 0 .any
def resyncs : Field := .many 0x0011 8 1 31 24 .run 0 .any
def discarded : Field := .many 0x0011 8 1 23 12 .run 0 .any
def refused : Field := .many 0x0011 8 1 11 0 .run 0 .any
def clear_crossings : Field := .one 0x0019 0 0 .cmd 0 .any
/-- Every field of the block. -/
def table : List Field :=
  [overrun, clock_lost, clock_ok, resyncs, discarded, refused, clear_crossings]
end Cross

/-! ### Supply: R91, Table 3.5 -/

namespace Supply
def dormant_pending : Field := .one 0 8 8 .run 0 .any
def cal_valid : Field := .one 0 7 7 .run 0 .any
def scap_low : Field := .one 0 6 6 .run 0 .any
def holdup_short : Field := .one 0 5 5 .run 0 .any
def holdup_ready : Field := .one 0 4 4 .run 0 .any
def ls_high : Field := .one 0 3 3 .run 0 .any
def ls_low : Field := .one 0 2 2 .run 0 .any
def ls_b : Field := .one 0 1 1 .run 0 .any
def ls_a : Field := .one 0 0 0 .run 0 .any
def ls_b_mv : Field := .one 1 31 16 .run 0 .any
def ls_a_mv : Field := .one 1 15 0 .run 0 .any
def core_mv : Field := .one 2 31 16 .run 0 .any
def ls_or_mv : Field := .one 2 15 0 .run 0 .any
def ms_mv : Field := .many 3 8 1 31 16 .run 0 .any
def gs_mv : Field := .many 3 8 1 15 0 .run 0 .any
def ms_step : Field := .one 0x000B 31 16 .run 0 .any
def gs_step : Field := .one 0x000B 15 0 .run 0 .any
def scap_mv : Field := .one 0x000C 31 16 .run 0 .any
def holdup_est : Field := .one 0x000C 15 0 .run 0 .any
def bp_temp : Field := .one 0x000D 15 0 .run 0 .any
def gs_off_seen : Field := .one 0x000E 31 16 .w1c 0 .any
def cmp_latched : Field := .one 0x000E 7 4 .w1c 0 .any
def cmp_now : Field := .one 0x000E 3 0 .run 0 .any
def wake : Field := .one 0x000F 3 0 .onl 7 .any
def dormant : Field := .one 0x0010 0 0 .cmd 0 .any
def result : Field := .one 0x0011 7 0 .run 0 .any
/-- Every field of the block. -/
def table : List Field :=
  [dormant_pending, cal_valid, scap_low, holdup_short, holdup_ready, ls_high, ls_low, ls_b, ls_a, ls_b_mv, ls_a_mv, core_mv] ++
  [ls_or_mv, ms_mv, gs_mv, ms_step, gs_step, scap_mv, holdup_est, bp_temp, gs_off_seen, cmp_latched, cmp_now, wake] ++
  [dormant, result]
end Supply

/-! ### Survey: R114, Table 4.9 -/

namespace Survey
def reason : Field := .one 0 31 24 .run 0 .any
def phase : Field := .one 0 11 8 .run 0 .any
def halted : Field := .one 0 0 0 .run 0 .any
def start_ms : Field := .one 1 31 0 .run 0 .any
def kind : Field := .one 2 18 16 .cmd 0 .any
def index : Field := .one 2 15 8 .cmd 0 .any
def return_to_service : Field := .one 2 2 2 .cmd 0 .any
def temper : Field := .one 2 1 1 .cmd 0 .any
def survey : Field := .one 2 0 0 .cmd 0 .any
def target : Field := .one 3 18 8 .run 0 .any
def result : Field := .one 3 7 0 .run 0 .any
def mismatch_run : Field := .one 4 31 16 .run 0 .any
def mismatch_start : Field := .one 4 15 0 .run 0 .any
def ch_oos : Field := .many 8 4 1 31 0 .run 0 .any
def station_oos : Field := .one 0x000C 27 26 .run 0 .any
def panel_oos : Field := .one 0x000C 25 25 .run 0 .any
def port_oos : Field := .one 0x000C 23 16 .run 0 .any
def axis_oos : Field := .one 0x000C 15 0 .run 0 .any
def channel_records : Field := .many 0x0100 1024 1 31 0 .run 0 .any
def axis_records : Field := .many 0x0500 128 1 31 0 .run 0 .any
def CAN_records : Field := .many 0x0580 64 1 31 0 .run 0 .any
def station_records : Field := .many 0x05C0 16 1 31 0 .run 0 .any
def panel_record : Field := .many 0x05D0 8 1 31 0 .run 0 .any
def region_records : Field := .many 0x05D8 64 1 31 0 .run 0 .any
def chip_record : Field := .many 0x0618 8 1 31 0 .run 0 .any
/-- Every field of the block. -/
def table : List Field :=
  [reason, phase, halted, start_ms, kind, index, return_to_service, temper, survey, target, result, mismatch_run] ++
  [mismatch_start, ch_oos, station_oos, panel_oos, port_oos, axis_oos, channel_records, axis_records, CAN_records, station_records, panel_record, region_records] ++
  [chip_record]
end Survey

/-! ### SRec: R115, Table 4.10 -/

namespace SRec
def route_mm : Field := .one 0 17 17 .run 0 .any
def oos : Field := .one 0 16 16 .run 0 .any
def mismatch : Field := .one 0 15 8 .run 0 .any
def measured : Field := .one 0 7 0 .run 0 .any
/-- Every field of the block. -/
def table : List Field :=
  [route_mm, oos, mismatch, measured]
end SRec

/-! ### Image: R143, Table 5.9 -/

namespace Image
def check_1 : Field := .one 0 31 24 .run 0 .any
def check_0 : Field := .one 0 23 16 .run 0 .any
def key_slot : Field := .one 0 15 8 .run 0 .any
def signed : Field := .one 0 2 2 .run 0 .any
def fell_back : Field := .one 0 1 1 .run 0 .any
def slot : Field := .one 0 0 0 .run 0 .any
def image_id : Field := .one 1 31 0 .run 0 .any
def image_len : Field := .one 2 31 0 .run 0 .any
def region_mask : Field := .one 3 7 0 .run 0 .any
def image_digest : Field := .many 4 8 1 31 0 .run 0 .any
def structure_digest : Field := .many 0x000C 8 1 31 0 .run 0 .any
def acceptance : Field := .one 0x0014 31 0 .run 0 .any
def safety_crc : Field := .one 0x0015 31 0 .run 0 .any
def steward_version : Field := .one 0x0016 31 0 .run 0 .any
def select_seq : Field := .one 0x0017 31 0 .run 0 .any
def select_valid : Field := .one 0x0018 9 8 .run 0 .any
def select_fb : Field := .one 0x0018 1 1 .run 0 .any
def select_slot : Field := .one 0x0018 0 0 .run 0 .any
def require_sig : Field := .one 0x0019 31 31 .run 0 .any
def key_state : Field := .one 0x0019 7 0 .run 0 .any
def fb : Field := .one 0x0020 18 18 .cmd 0 .any
def sel_slot : Field := .one 0x0020 16 16 .cmd 0 .any
def selectCmd : Field := .one 0x0020 4 4 .cmd 0 .any
def abort : Field := .one 0x0020 3 3 .cmd 0 .any
def commit : Field := .one 0x0020 2 2 .cmd 0 .any
def verify : Field := .one 0x0020 1 1 .cmd 0 .any
def begin : Field := .one 0x0020 0 0 .cmd 0 .any
def check : Field := .one 0x0021 31 24 .run 0 .any
def last_cmd : Field := .one 0x0021 15 8 .run 0 .any
def result : Field := .one 0x0021 7 0 .run 0 .any
def bytes_written : Field := .one 0x0022 31 0 .run 0 .any
def target : Field := .one 0x0023 8 8 .run 0 .any
def state : Field := .one 0x0023 1 0 .run 0 .any
/-- Every field of the block. -/
def table : List Field :=
  [check_1, check_0, key_slot, signed, fell_back, slot, image_id, image_len, region_mask, image_digest, structure_digest, acceptance] ++
  [safety_crc, steward_version, select_seq, select_valid, select_fb, select_slot, require_sig, key_state, fb, sel_slot, selectCmd, abort] ++
  [commit, verify, begin, check, last_cmd, result, bytes_written, target, state]
end Image

/-! ### Engine: R180, Table 6.10 -/

namespace Engine
def state : Field := .one 0 3 0 .run 0 .any
def cycle_count : Field := .one 1 31 0 .run 0 .any
def latch_tick : Field := .one 2 31 0 .run 0 .any
def cycle_last : Field := .one 3 31 0 .run 0 .any
def cycle_max : Field := .one 4 31 0 .run 0 .any
def cycle_min : Field := .one 5 31 0 .run 0xFFFFFFFF .any
def wd_limit : Field := .one 6 18 0 .img 0x186A0 (.upto 1000 500000)
def min_gap : Field := .one 7 16 0 .onl 0 (.upto 0 100000)
def warn_limit : Field := .one 8 18 0 .onl 0 (.zeroOr 1000 500000)
def warn_seen : Field := .one 9 1 1 .w1c 0 .any
def wd_fired : Field := .one 9 0 0 .w1c 0 .any
def clear_stats : Field := .one 0x000A 0 0 .cmd 0 .any
def result : Field := .one 0x000B 7 0 .run 0 .any
def inst_size : Field := .many 0x0010 8 1 31 0 .run 0 .any
def invocations : Field := .many 0x0018 8 1 31 0 .run 0 .any
def exec_last : Field := .many 0x0020 8 1 31 0 .run 0 .any
/-- Every field of the block. -/
def table : List Field :=
  [state, cycle_count, latch_tick, cycle_last, cycle_max, cycle_min, wd_limit, min_gap, warn_limit, warn_seen, wd_fired, clear_stats] ++
  [result, inst_size, invocations, exec_last]
end Engine

/-! ### Force: R181, Table 6.11 -/

namespace Force
def active : Field := .one 0 8 0 .run 0 .any
def release_all : Field := .one 1 0 0 .cmd 0 .any
def result : Field := .one 2 7 0 .run 0 .any
/-- Every field of the block. -/
def table : List Field :=
  [active, release_all, result]
end Force

/-! ### FEntry: R181, Table 6.12 -/

namespace FEntry
def ekind : Field := .many 0x0100 256 4 31 24 .run 0 .any
def etype : Field := .many 0x0100 256 4 23 16 .run 0 .any
def eregion : Field := .many 0x0100 256 4 15 8 .run 0 .any
def esub : Field := .many 0x0100 256 4 7 0 .run 0 .any
def eindex : Field := .many 0x0101 256 4 31 0 .run 0 .any
def value_lo : Field := .many 0x0102 256 4 31 0 .run 0 .any
def value_hi : Field := .many 0x0103 256 4 31 0 .run 0 .any
/-- Every field of the block. -/
def table : List Field :=
  [ekind, etype, eregion, esub, eindex, value_lo, value_hi]
end FEntry

/-! ### Change: R182, Table 6.13 -/

namespace Change
def queued : Field := .one 0 15 8 .run 0 .any
def applied_last : Field := .one 0 7 0 .run 0 .any
def applied : Field := .one 1 31 0 .run 0 .any
def refused : Field := .one 2 31 0 .run 0 .any
def changed_words : Field := .one 3 31 0 .run 0 .any
def last_addr : Field := .one 4 31 0 .run 0 .any
def last_value : Field := .one 5 31 0 .run 0 .any
def last_cycle : Field := .one 6 31 0 .run 0 .any
def last_refusal : Field := .one 7 7 0 .run 0 .any
/-- Every field of the block. -/
def table : List Field :=
  [queued, applied_last, applied, refused, changed_words, last_addr, last_value, last_cycle, last_refusal]
end Change

end Sys2Proof.Machine
end

