-- ==== Sys2Proof/Machine/FieldsComm.lean ====
section
/-! DEFINITION. The field tables of the port, pair, station link, recorder, panel, counter and index chapters, one definition per field (its words, bits,
access class, value at reset and permitted range as the spec's "At reset" and "Meaning" columns give them). -/

namespace Sys2Proof.Machine

/-! ### Port: R404, Table 13.6 -/

namespace Port
def off_reason : Field := .one 0 15 12 .run 1 .any
def sched_err_now : Field := .one 0 5 5 .run 0 .any
def coll_now : Field := .one 0 4 4 .run 0 .any
def noack_now : Field := .one 0 3 3 .run 0 .any
def state : Field := .one 0 2 0 .run 4 .any
def rec : Field := .one 1 23 16 .run 0 .any
def tec : Field := .one 1 8 0 .run 0 .any
def busoff_max : Field := .one 2 11 8 .img 3 (.upto 1 15)
def sched : Field := .one 2 4 4 .img 0 .any
def listen : Field := .one 2 3 3 .img 0 .any
def fd_en : Field := .one 2 2 2 .img 0 .any
def enable : Field := .one 2 0 0 .img 0 .any
def n_sjw : Field := .one 3 31 25 .img 0x001F .any
def n_tseg2 : Field := .one 3 24 18 .img 0x001F .any
def n_tseg1 : Field := .one 3 17 10 .img 0x007E (.upto 1 255)
def n_brp : Field := .one 3 4 0 .img 0 (.upto 0 31)
def d_sjw : Field := .one 4 31 28 .img 9 .any
def d_tseg2 : Field := .one 4 27 24 .img 9 .any
def d_tseg1 : Field := .one 4 23 19 .img 0x001C (.upto 0 31)
def tdco : Field := .one 4 15 9 .img 0x001E .any
def tdc_en : Field := .one 4 8 8 .img 1 .any
def d_brp : Field := .one 4 4 0 .img 0 (.upto 0 31)
def term : Field := .one 5 0 0 .onl 0 .any
def rx_count : Field := .one 6 31 0 .run 0 .any
def tx_ok : Field := .one 7 31 0 .run 0 .any
def busoffs : Field := .one 8 31 16 .run 0 .any
def err_frames : Field := .one 8 15 0 .run 0 .any
def tdc_meas : Field := .one 9 31 16 .run 0 .any
def cycle_jumps : Field := .one 9 15 0 .run 0 .any
def last_coll_id : Field := .one 0x000A 31 0 .run 0 .any
def off_seen : Field := .one 0x000B 8 8 .w1c 0 .any
def incomplete : Field := .one 0x000B 7 7 .w1c 0 .any
def sched_err : Field := .one 0x000B 6 6 .w1c 0 .any
def pseq_div : Field := .one 0x000B 5 5 .w1c 0 .any
def coll : Field := .one 0x000B 4 4 .w1c 0 .any
def noack : Field := .one 0x000B 3 3 .w1c 0 .any
def latched_seen : Field := .one 0x000B 2 2 .w1c 0 .any
def busoff_seen : Field := .one 0x000B 1 1 .w1c 0 .any
def passive_seen : Field := .one 0x000B 0 0 .w1c 0 .any
def clear_counters : Field := .one 0x000C 1 1 .cmd 0 .any
def restart : Field := .one 0x000C 0 0 .cmd 0 .any
def last_cmd : Field := .one 0x000D 15 8 .run 0 .any
def result : Field := .one 0x000D 7 0 .run 0 .any
def pseq_divs : Field := .one 0x000E 31 16 .run 0 .any
def incompletes : Field := .one 0x000E 15 0 .run 0 .any
def sched_cycle : Field := .one 0x000F 31 16 .run 0 .any
def ref_missed : Field := .one 0x000F 15 0 .run 0 .any
/-- Every field of the block. -/
def table : List Field :=
  [off_reason, sched_err_now, coll_now, noack_now, state, rec, tec, busoff_max, sched, listen, fd_en, enable] ++
  [n_sjw, n_tseg2, n_tseg1, n_brp, d_sjw, d_tseg2, d_tseg1, tdco, tdc_en, d_brp, term, rx_count] ++
  [tx_ok, busoffs, err_frames, tdc_meas, cycle_jumps, last_coll_id, off_seen, incomplete, sched_err, pseq_div, coll, noack] ++
  [latched_seen, busoff_seen, passive_seen, clear_counters, restart, last_cmd, result, pseq_divs, incompletes, sched_cycle, ref_missed]
end Port

/-! ### PWord: R405, Table 13.7 -/

namespace PWord
def st_status : Field := .many 0x0800 64 4 15 0 .run 2 .any
def st_age : Field := .many 0x0801 64 4 31 0 .run 0xFFFFFFFF .any
def st_updates : Field := .many 0x0802 64 4 31 0 .run 0 .any
def st_rx_tick : Field := .many 0x0803 64 4 31 0 .run 0 .any
def ob_dir : Field := .many 0x1000 128 32 31 24 .run 0 .any
def ob_mode : Field := .many 0x1000 128 32 23 16 .run 0 .any
def ob_fflags : Field := .many 0x1000 128 32 15 8 .run 0 .any
def ob_len : Field := .many 0x1000 128 32 7 0 .run 0 .any
def ob_id : Field := .many 0x1001 128 32 31 0 .run 0 .any
def ob_pseq : Field := .many 0x1002 128 32 31 16 .run 0 .any
def ob_single_fail : Field := .many 0x1002 128 32 3 3 .run 0 .any
def ob_in_tx : Field := .many 0x1002 128 32 2 2 .run 0 .any
def ob_pending : Field := .many 0x1002 128 32 1 1 .run 0 .any
def ob_new : Field := .many 0x1002 128 32 0 0 .run 0 .any
def ob_tick : Field := .many 0x1003 128 32 31 0 .run 0 .any
def ob_count : Field := .many 0x1004 128 32 31 0 .run 0 .any
def ob_superseded : Field := .many 0x1005 128 32 31 0 .run 0 .any
def ob_spare : Field := .runs 0x1006 128 32 10 31 0 .run 0 .any
def ob_data : Field := .runs 0x1010 128 32 16 31 0 .run 0 .any
def en_tick : Field := .many 0x4000 2048 20 31 0 .run 0 .any
def en_id : Field := .many 0x4001 2048 20 31 0 .run 0 .any
def en_own : Field := .many 0x4002 2048 20 21 21 .run 0 .any
def en_esi : Field := .many 0x4002 2048 20 20 20 .run 0 .any
def en_brs : Field := .many 0x4002 2048 20 19 19 .run 0 .any
def en_fdf : Field := .many 0x4002 2048 20 18 18 .run 0 .any
def en_rtr : Field := .many 0x4002 2048 20 17 17 .run 0 .any
def en_ide : Field := .many 0x4002 2048 20 16 16 .run 0 .any
def en_len : Field := .many 0x4002 2048 20 15 8 .run 0 .any
def en_dlc : Field := .many 0x4002 2048 20 3 0 .run 0 .any
def en_seq : Field := .many 0x4003 2048 20 31 0 .run 0 .any
def en_data : Field := .runs 0x4004 2048 20 16 31 0 .run 0 .any
/-- Every field of the block. -/
def table : List Field :=
  [st_status, st_age, st_updates, st_rx_tick, ob_dir, ob_mode, ob_fflags, ob_len, ob_id, ob_pseq, ob_single_fail, ob_in_tx] ++
  [ob_pending, ob_new, ob_tick, ob_count, ob_superseded, ob_spare, ob_data, en_tick, en_id, en_own, en_esi, en_brs] ++
  [en_fdf, en_rtr, en_ide, en_len, en_dlc, en_seq, en_data]
end PWord

/-! ### Pair: R433, Table 14.8 -/

namespace Pair
def lease_state : Field := .one 0 31 28 .run 0 .any
def partner_state : Field := .one 0 27 24 .run 0 .any
def neg_cause : Field := .one 0 23 16 .run 0 .any
def img_differs : Field := .one 0 9 9 .run 0 .any
def compat : Field := .one 0 8 8 .run 0 .any
def partner : Field := .one 0 6 6 .run 0 .any
def lane_b : Field := .one 0 5 5 .run 0 .any
def lane_a : Field := .one 0 4 4 .run 0 .any
def holder_pos : Field := .one 0 3 2 .run 0 .any
def position : Field := .one 0 1 0 .run 0 .any
def lease_epoch : Field := .one 1 31 0 .run 0 .any
def lease_left : Field := .one 2 31 0 .run 0 .any
def lease_period : Field := .one 3 25 16 .img 0x0032 (.upto 10 1000)
def neg_wait : Field := .one 3 15 0 .img 0x0BB8 (.upto 100 60000)
def lag_max : Field := .one 4 31 16 .run 0 .any
def lag : Field := .one 4 15 0 .run 0 .any
def resyncs : Field := .one 5 31 16 .run 0 .any
def sync_ms : Field := .one 5 15 0 .run 0 .any
def divergences : Field := .one 6 31 16 .run 0 .any
def dual_holdings : Field := .one 6 15 0 .run 0 .any
def code_errors : Field := .many 7 2 1 31 16 .run 0 .any
def lane_faults : Field := .many 7 2 1 15 0 .run 0 .any
def partner_variant : Field := .one 9 31 24 .run 0 .any
def partner_mask : Field := .one 9 23 16 .run 0 .any
def partner_image_id : Field := .one 0x000A 31 0 .run 0 .any
def partner_steward : Field := .one 0x000B 31 0 .run 0 .any
def route_changed : Field := .one 0x000C 7 7 .w1c 0 .any
def dual_holding : Field := .one 0x000C 6 6 .w1c 0 .any
def divergence : Field := .one 0x000C 5 5 .w1c 0 .any
def expired : Field := .one 0x000C 4 4 .w1c 0 .any
def partner_lost : Field := .one 0x000C 3 3 .w1c 0 .any
def lane_fault_b : Field := .one 0x000C 2 2 .w1c 0 .any
def lane_fault_a : Field := .one 0x000C 1 1 .w1c 0 .any
def yielded : Field := .one 0x000C 0 0 .w1c 0 .any
def clear_counters : Field := .one 0x000D 3 3 .cmd 0 .any
def resync : Field := .one 0x000D 2 2 .cmd 0 .any
def handover : Field := .one 0x000D 1 1 .cmd 0 .any
def swap : Field := .one 0x000D 0 0 .cmd 0 .any
def last_cmd : Field := .one 0x000E 15 8 .run 0 .any
def result : Field := .one 0x000E 7 0 .run 0 .any
def route_img : Field := .many 0x0010 8 1 31 0 .img 0 .any
def route_img_ax : Field := .one 0x0018 31 0 .img 0 .any
def route_plug : Field := .many 0x0020 8 1 31 0 .run 0 .any
def route_plug_ax : Field := .one 0x0028 31 0 .run 0 .any
def route_mm : Field := .many 0x0030 4 1 31 0 .run 0 .any
def axis_route_mm : Field := .one 0x0034 15 0 .run 0 .any
/-- Every field of the block. -/
def table : List Field :=
  [lease_state, partner_state, neg_cause, img_differs, compat, partner, lane_b, lane_a, holder_pos, position, lease_epoch, lease_left] ++
  [lease_period, neg_wait, lag_max, lag, resyncs, sync_ms, divergences, dual_holdings, code_errors, lane_faults, partner_variant, partner_mask] ++
  [partner_image_id, partner_steward, route_changed, dual_holding, divergence, expired, partner_lost, lane_fault_b, lane_fault_a, yielded, clear_counters, resync] ++
  [handover, swap, last_cmd, result, route_img, route_img_ax, route_plug, route_plug_ax, route_mm, axis_route_mm]
end Pair

/-! ### Cal: R443, Table 15.1 -/

namespace Cal
def leap_now : Field := .one 0 5 5 .run 0 .any
def leap_pending : Field := .one 0 4 4 .run 0 .any
def source : Field := .one 0 3 2 .run 0 .any
def ptp_port : Field := .one 0 1 0 .run 0 .any
def now_lo : Field := .one 1 31 0 .run 0 .any
def now_hi : Field := .one 2 31 0 .run 0 .any
def offset : Field := .one 3 31 0 .run 0 .any
def path_delay : Field := .one 4 31 0 .run 0 .any
def rate_adj : Field := .one 5 31 0 .run 0 .any
def utc_offset : Field := .one 6 31 16 .run 0 .any
def steps : Field := .one 6 15 0 .run 0 .any
def gm_identity : Field := .many 7 2 1 31 0 .run 0 .any
def domain : Field := .one 9 15 8 .img 0 (.upto 0 127)
def ptp_en : Field := .one 9 0 0 .img 0 .any
def leap_seen : Field := .one 0x000A 2 2 .w1c 0 .any
def step_seen : Field := .one 0x000A 1 1 .w1c 0 .any
def lock_lost : Field := .one 0x000A 0 0 .w1c 0 .any
/-- Every field of the block. -/
def table : List Field :=
  [leap_now, leap_pending, source, ptp_port, now_lo, now_hi, offset, path_delay, rate_adj, utc_offset, steps, gm_identity] ++
  [domain, ptp_en, leap_seen, step_seen, lock_lost]
end Cal

/-! ### SLink: R459, Table 15.7 -/

namespace SLink
def ip_a : Field := .one 0 31 0 .img 0 .any
def ip_b : Field := .one 1 31 0 .img 0 .any
def netmask : Field := .one 2 31 0 .img 0 .any
def gateway : Field := .one 3 31 0 .img 0 .any
def prio : Field := .one 4 15 13 .img 0 .any
def vid : Field := .one 4 11 0 .img 0 (.upto 0 4094)
def locked_out : Field := .one 5 23 16 .run 0 .any
def sessions : Field := .one 5 15 8 .run 0 .any
def nb_speed : Field := .one 5 7 6 .run 0 .any
def na_speed : Field := .one 5 5 4 .run 0 .any
def mac_lo : Field := .one 6 31 0 .run 0 .any
def mac_hi : Field := .one 7 15 0 .run 0 .any
def ip_now : Field := .one 8 31 0 .run 0 .any
def dup_discarded : Field := .one 9 31 0 .run 0 .any
def unique_b : Field := .one 0x000A 31 16 .run 0 .any
def unique_a : Field := .one 0x000A 15 0 .run 0 .any
def wrong_lan_b : Field := .one 0x000B 31 16 .run 0 .any
def wrong_lan_a : Field := .one 0x000B 15 0 .run 0 .any
def auth_fail : Field := .one 0x000C 31 16 .run 0 .any
def bad_mac : Field := .one 0x000C 15 0 .run 0 .any
def bad_datagram : Field := .one 0x000D 31 0 .run 0 .any
def lockout : Field := .one 0x000E 3 3 .w1c 0 .any
def auth_failed : Field := .one 0x000E 2 2 .w1c 0 .any
def nb_lost : Field := .one 0x000E 1 1 .w1c 0 .any
def na_lost : Field := .one 0x000E 0 0 .w1c 0 .any
def clear_counters : Field := .one 0x000F 0 0 .cmd 0 .any
def result : Field := .one 0x0010 7 0 .run 0 .any
/-- Every field of the block. -/
def table : List Field :=
  [ip_a, ip_b, netmask, gateway, prio, vid, locked_out, sessions, nb_speed, na_speed, mac_lo, mac_hi] ++
  [ip_now, dup_discarded, unique_b, unique_a, wrong_lan_b, wrong_lan_a, auth_fail, bad_mac, bad_datagram, lockout, auth_failed, nb_lost] ++
  [na_lost, clear_counters, result]
end SLink

/-! ### Partner: R459, Table 15.8 -/

namespace Partner
def station : Field := .many 0 256 4 31 0 .img 0 .any
def group : Field := .many 1 256 4 31 0 .img 0 .any
def rx : Field := .many 2 256 4 31 0 .run 0 .any
def rx_tick : Field := .many 3 256 4 31 0 .run 0 .any
/-- Every field of the block. -/
def table : List Field :=
  [station, group, rx, rx_tick]
end Partner

/-! ### Pub: R459, Table 15.8 -/

namespace Pub
def dest : Field := .many 0 256 4 31 0 .img 0 .any
def period : Field := .many 1 256 4 31 16 .img 0x03E8 (.zeroOr 10 10000)
def sent : Field := .many 2 256 4 31 0 .run 0 .any
def pseq : Field := .many 3 256 4 15 0 .run 0 .any
/-- Every field of the block. -/
def table : List Field :=
  [dest, period, sent, pseq]
end Pub

/-! ### Sess: R459, Table 15.9 -/

namespace Sess
def state : Field := .many 0 16 4 31 24 .run 0 .any
def role : Field := .many 0 16 4 23 16 .run 0 .any
def sid : Field := .many 0 16 4 15 0 .run 0 .any
def peer : Field := .many 1 16 4 31 0 .run 0 .any
def port : Field := .many 2 16 4 31 16 .run 0 .any
def last_tick : Field := .many 3 16 4 31 0 .run 0 .any
/-- Every field of the block. -/
def table : List Field :=
  [state, role, sid, peer, port, last_tick]
end Sess

/-! ### Recd: R475, Table 16.4 -/

namespace Recd
def bands : Field := .one 0 15 8 .run 0 .any
def state : Field := .one 0 1 0 .run 0 .any
def head : Field := .many 1 2 1 31 0 .run 0 .any
def tail : Field := .many 3 2 1 31 0 .run 0 .any
def buffered : Field := .one 5 31 0 .run 0 .any
def rate : Field := .one 6 31 0 .run 0 .any
def refused : Field := .one 7 31 0 .run 0 .any
def wear : Field := .one 8 31 16 .run 0 .any
def spare_left : Field := .one 8 15 0 .run 0 .any
def prot_stripes : Field := .one 9 31 16 .run 0 .any
def stripes : Field := .one 9 15 0 .run 0x2000 .any
def band_refused : Field := .one 0x000A 3 3 .w1c 0 .any
def spare_low : Field := .one 0x000A 2 2 .w1c 0 .any
def lost_at_start : Field := .one 0x000A 1 1 .w1c 0 .any
def overflow : Field := .one 0x000A 0 0 .w1c 0 .any
def src_mask : Field := .many 0x000C 3 1 31 0 .onl 0xFFFFFFFF .any
def band : Field := .one 0x000F 23 16 .cmd 0 .any
def release_all : Field := .one 0x000F 1 1 .cmd 0 .any
def release : Field := .one 0x000F 0 0 .cmd 0 .any
def last_cmd : Field := .one 0x0010 15 8 .run 0 .any
def result : Field := .one 0x0010 7 0 .run 0 .any
/-- Every field of the block. -/
def table : List Field :=
  [bands, state, head, tail, buffered, rate, refused, wear, spare_left, prot_stripes, stripes, band_refused] ++
  [spare_low, lost_at_start, overflow, src_mask, band, release_all, release, last_cmd, result]
end Recd

/-! ### Win: R475, Table 16.5 -/

namespace Win
def sid : Field := .one 0 31 16 .run 0 .any
def n_valid : Field := .one 0 8 4 .run 0 .any
def state : Field := .one 0 3 0 .run 0 .any
def snap_head : Field := .many 1 2 1 31 0 .run 0 .any
def snap_tail : Field := .many 3 2 1 31 0 .run 0 .any
def tail_now : Field := .many 5 2 1 31 0 .run 0 .any
def cursor : Field := .many 7 2 1 31 0 .run 0 .any
def gone_count : Field := .one 9 31 0 .run 0 .any
def set_lo : Field := .one 0x000B 31 0 .cmd 0 .any
def set_hi : Field := .one 0x000C 31 0 .cmd 0 .any
def closeCmd : Field := .one 0x000D 3 3 .cmd 0 .any
def nextCmd : Field := .one 0x000D 2 2 .cmd 0 .any
def seekCmd : Field := .one 0x000D 1 1 .cmd 0 .any
def openCmd : Field := .one 0x000D 0 0 .cmd 0 .any
def last_cmd : Field := .one 0x000E 15 8 .run 0 .any
def result : Field := .one 0x000E 7 0 .run 0 .any
def slots : Field := .many 0x0100 256 1 31 0 .run 0 .any
/-- Every field of the block. -/
def table : List Field :=
  [sid, n_valid, state, snap_head, snap_tail, tail_now, cursor, gone_count, set_lo, set_hi, closeCmd, nextCmd] ++
  [seekCmd, openCmd, last_cmd, result, slots]
end Win

/-! ### Band: R475, Table 16.6 -/

namespace Band
def trip_lo : Field := .many 0 64 4 31 0 .run 0 .any
def trip_hi : Field := .many 1 64 4 31 0 .run 0 .any
def b_stripes : Field := .many 2 64 4 31 16 .run 0 .any
def b_state : Field := .many 2 64 4 1 0 .run 0 .any
def spare : Field := .many 3 64 4 31 0 .run 0 .any
/-- Every field of the block. -/
def table : List Field :=
  [trip_lo, trip_hi, b_stripes, b_state, spare]
end Band

/-! ### Panel: R498, Table 17.8 -/

namespace Panel
def state : Field := .one 0 31 28 .run 0 .any
def kind_now : Field := .one 0 27 24 .run 0 .any
def page_now : Field := .one 0 23 16 .run 0 .any
def band_now : Field := .one 0 15 12 .run 0 .any
def band_used : Field := .one 0 11 8 .run 0 .any
def ep_busy : Field := .one 0 4 4 .run 0 .any
def dirty : Field := .one 0 3 3 .run 0 .any
def rails_ok : Field := .one 0 2 2 .run 0 .any
def up : Field := .one 0 1 1 .run 0 .any
def identity : Field := .one 1 31 0 .run 0 .any
def rail2_mv : Field := .one 2 31 16 .run 0 .any
def rail1_mv : Field := .one 2 15 0 .run 0 .any
def rail4_mv : Field := .one 3 31 16 .run 0 .any
def rail3_mv : Field := .one 3 15 0 .run 0 .any
def panel_temp : Field := .one 4 15 0 .run 0 .any
def updates : Field := .one 5 31 0 .run 0 .any
def update_ms : Field := .one 6 31 16 .run 0 .any
def quenches : Field := .one 6 15 0 .run 0 .any
def kind : Field := .one 8 21 20 .img 0 (.upto 0 2)
def inv : Field := .one 8 19 18 .img 0 (.upto 0 2)
def pclk : Field := .one 8 16 0 .img 0 (.zeroOr 5000 80000)
def v_active : Field := .one 9 31 16 .img 0 .any
def h_active : Field := .one 9 15 0 .img 0 .any
def h_back : Field := .one 0x000A 23 16 .img 1 (.upto 1 255)
def h_sync : Field := .one 0x000A 15 8 .img 1 (.upto 1 255)
def h_front : Field := .one 0x000A 7 0 .img 1 (.upto 1 255)
def v_back : Field := .one 0x000B 23 16 .img 1 (.upto 1 255)
def v_sync : Field := .one 0x000B 15 8 .img 1 (.upto 1 255)
def v_front : Field := .one 0x000B 7 0 .img 1 (.upto 1 255)
def def_page : Field := .one 0x000C 23 16 .img 0 .any
def bl_hz : Field := .one 0x000C 15 0 .img 0x03E8 (.upto 200 20000)
def dim : Field := .one 0x000D 9 0 .onl 0x03E8 (.upto 0 1000)
def temp_offset : Field := .one 0x000E 15 0 .img 0 (.int 16 (-1600) 1600)
def bound_hi : Field := .many 0x0010 4 1 31 16 .img 0 .any
def bound_lo : Field := .many 0x0010 4 1 15 0 .img 0 .any
def rect_y : Field := .many 0x0020 8 2 31 16 .img 0 .any
def rect_h : Field := .many 0x0021 8 2 27 16 .img 0 .any
def rect_x : Field := .many 0x0020 8 2 15 0 .img 0 .any
def rect_w : Field := .many 0x0021 8 2 15 0 .img 0 .any
def rect_fill : Field := .many 0x0021 8 2 31 28 .img 0 .any
def blink_en : Field := .one 0x0030 15 8 .run 0 .any
def blink_fill : Field := .one 0x0030 7 0 .run 0 .any
def blink_late : Field := .one 0x0040 7 7 .w1c 0 .any
def temp_fallback : Field := .one 0x0040 6 6 .w1c 0 .any
def band_held : Field := .one 0x0040 5 5 .w1c 0 .any
def dirty_cleared : Field := .one 0x0040 4 4 .w1c 0 .any
def quenched : Field := .one 0x0040 3 3 .w1c 0 .any
def rail_fault : Field := .one 0x0040 2 2 .w1c 0 .any
def id_mismatch : Field := .one 0x0040 1 1 .w1c 0 .any
def flags_now : Field := .one 0x0041 7 0 .run 0 .any
def clear : Field := .one 0x0042 2 2 .cmd 0 .any
def show_code : Field := .one 0x0042 1 1 .cmd 0 .any
def restart : Field := .one 0x0042 0 0 .cmd 0 .any
def last_cmd : Field := .one 0x0043 15 8 .run 0 .any
def result : Field := .one 0x0043 7 0 .run 0 .any
/-- Every field of the block. -/
def table : List Field :=
  [state, kind_now, page_now, band_now, band_used, ep_busy, dirty, rails_ok, up, identity, rail2_mv, rail1_mv] ++
  [rail4_mv, rail3_mv, panel_temp, updates, update_ms, quenches, kind, inv, pclk, v_active, h_active, h_back] ++
  [h_sync, h_front, v_back, v_sync, v_front, def_page, bl_hz, dim, temp_offset, bound_hi, bound_lo, rect_y] ++
  [rect_h, rect_x, rect_w, rect_fill, blink_en, blink_fill, blink_late, temp_fallback, band_held, dirty_cleared, quenched, rail_fault] ++
  [id_mismatch, flags_now, clear, show_code, restart, last_cmd, result]
end Panel

/-! ### Ctr: R508, Table 18.3 -/

namespace Ctr
def tick_lo : Field := .one 0 31 0 .run 0 .any
def tick_hi : Field := .one 1 31 0 .run 0 .any
def freeze : Field := .one 2 0 0 .onl 0 .any
def win : Field := .one 3 31 0 .onl 0xF4240 (.upto 1000 10000000)
def win_index : Field := .one 4 31 0 .run 0 .any
def clear : Field := .one 5 0 0 .cmd 0 .any
def result : Field := .one 6 7 0 .run 0 .any
def sel_changed : Field := .one 7 31 24 .w1c 0 .any
def addr_mm : Field := .one 7 23 16 .w1c 0 .any
def win_ovf : Field := .one 7 15 8 .w1c 0 .any
def ovf : Field := .one 7 7 0 .w1c 0 .any
def dropped : Field := .one 8 31 0 .run 0 .any
def enable : Field := .many 0x0010 8 8 31 31 .onl 0 .any
def ovf_event : Field := .many 0x0010 8 8 30 30 .onl 0 .any
def unit : Field := .many 0x0010 8 8 29 29 .onl 0 .any
def addr_en : Field := .many 0x0010 8 8 28 28 .onl 0 .any
def addr_space : Field := .many 0x0010 8 8 27 27 .onl 0 .any
def dir : Field := .many 0x0010 8 8 25 24 .onl 0 (.upto 0 2)
def port : Field := .many 0x0010 8 8 23 20 .onl 0 (.upto 0 8)
def cls : Field := .many 0x0010 8 8 19 16 .onl 0 (.upto 0 6)
def master : Field := .many 0x0010 8 8 15 8 .onl 0x00FF .any
def priv : Field := .many 0x0010 8 8 3 0 .onl 0x000F .any
def addr_lo : Field := .many 0x0011 8 8 31 0 .onl 0 .any
def addr_hi : Field := .many 0x0012 8 8 31 0 .onl 0xFFFFFFFF .any
def preload : Field := .many 0x0013 8 8 31 0 .onl 0 .any
def value : Field := .many 0x0014 8 8 31 0 .run 0 .any
def win_count : Field := .many 0x0015 8 8 31 0 .run 0 .any
def last_sample : Field := .many 0x0016 8 8 31 0 .run 0 .any
def spare : Field := .many 0x0017 8 8 31 0 .run 0 .any
/-- Every field of the block. -/
def table : List Field :=
  [tick_lo, tick_hi, freeze, win, win_index, clear, result, sel_changed, addr_mm, win_ovf, ovf, dropped] ++
  [enable, ovf_event, unit, addr_en, addr_space, dir, port, cls, master, priv, addr_lo, addr_hi] ++
  [preload, value, win_count, last_sample, spare]
end Ctr

/-! ### Ident: R531, Table 20.2 -/

namespace Ident
def part : Field := .one 0 31 16 .run 0x0314 .any
def regions : Field := .one 0 15 8 .run 8 .any
def fitted : Field := .one 0 7 0 .run 0x00FF .any
def serial_lo : Field := .one 1 31 0 .run 0 .any
def serial_hi : Field := .one 2 31 0 .run 0 .any
def board_build : Field := .one 3 31 16 .run 0 .any
def die_build : Field := .one 3 15 0 .run 0 .any
def min_steward : Field := .one 4 31 0 .run 0 .any
def boot_steward : Field := .one 5 31 0 .run 0 .any
def made_lo : Field := .one 6 31 0 .run 0 .any
def made_hi : Field := .one 7 31 0 .run 0 .any
def quiet_drive : Field := .one 8 0 0 .run 1 .any
/-- Every field of the block. -/
def table : List Field :=
  [part, regions, fitted, serial_lo, serial_hi, board_build, die_build, min_steward, boot_steward, made_lo, made_hi, quiet_drive]
end Ident

/-! ### Status: R532, Table 20.3 -/

namespace Status
def phase : Field := .one 0 31 28 .run 0 .any
def lease_state : Field := .one 0 27 24 .run 0 .any
def engine : Field := .one 0 23 20 .run 0 .any
def fault_cause : Field := .one 0 19 16 .run 0 .any
def fenced : Field := .one 0 15 8 .run 0 .any
def running : Field := .one 0 7 0 .run 0 .any
def wake_index : Field := .one 1 11 8 .run 0 .any
def start_cause : Field := .one 1 7 0 .run 0 .any
def starts : Field := .one 2 31 0 .run 0 .any
def uptime : Field := .one 3 31 0 .run 0 .any
def retained_lost : Field := .one 4 3 3 .w1c 0 .any
def block_fence_seen : Field := .one 4 2 2 .w1c 0 .any
def region_fence_seen : Field := .one 4 1 1 .w1c 0 .any
def module_fault_seen : Field := .one 4 0 0 .w1c 0 .any
def attention : Field := .one 5 7 0 .run 0 .any
/-- Every field of the block. -/
def table : List Field :=
  [phase, lease_state, engine, fault_cause, fenced, running, wake_index, start_cause, starts, uptime, retained_lost, block_fence_seen] ++
  [region_fence_seen, module_fault_seen, attention]
end Status

/-! ### Stew: R533, Table 20.4 -/

namespace Stew
def activity : Field := .one 0 7 4 .run 0 .any
def running : Field := .one 0 0 0 .run 0 .any
def version : Field := .one 1 31 0 .run 0 .any
def scrub_passes : Field := .one 2 31 0 .run 0 .any
def scrub_corrected : Field := .one 3 31 0 .run 0 .any
/-- Every field of the block. -/
def table : List Field :=
  [activity, running, version, scrub_passes, scrub_corrected]
end Stew

end Sys2Proof.Machine
end

