-- ==== Sys2Proof/Machine/FieldsRegion.lean ====
section
/-! DEFINITION. The field tables of the channel, loop, axis and safety chapters, one definition per field (its words, bits,
access class, value at reset and permitted range as the spec's "At reset" and "Meaning" columns give them). -/

namespace Sys2Proof.Machine

/-! ### Chan: R244, Table 8.11 -/

namespace Chan
def mode_now : Field := .one 0 15 8 .run 0 .any
def mode : Field := .one 0 7 0 .onl 0 (.upto 0 11)
def rate : Field := .one 1 26 24 .onl 0 .any
def ne43 : Field := .one 1 23 22 .onl 0 (.upto 0 2)
def tx_supply : Field := .one 1 21 21 .onl 0 .any
def comp_alarm : Field := .one 1 20 20 .onl 0 .any
def rtd_ohm : Field := .one 1 19 19 .onl 0 .any
def cj_fixed_en : Field := .one 1 18 18 .onl 0 .any
def wiring : Field := .one 1 17 16 .onl 0 (.upto 0 2)
def sensor : Field := .one 1 15 12 .onl 0 (.upto 0 7)
def range : Field := .one 1 0 0 .onl 0 .any
def filter_tc : Field := .one 2 31 0 .onl 0 (.upto 0 10000000)
def lead_2w : Field := .one 3 31 0 .onl 0 (.upto 0 100000)
def cj_fixed : Field := .one 4 31 0 .onl 0 (.real (-50) 100)
def safe_value : Field := .one 5 31 0 .onl 0 .any
def safe_kind : Field := .one 6 1 0 .onl 0 .any
def span_lo : Field := .one 7 31 0 .onl 0 .any
def span_hi : Field := .one 8 31 0 .onl 0 .any
def value : Field := .one 9 31 0 .run 0 .any
def status : Field := .one 0x000A 15 0 .run 0 .any
def raw : Field := .one 0x000B 31 0 .run 0 .any
def command : Field := .one 0x000C 31 0 .run 0 .any
def bellows_mv : Field := .one 0x000D 31 16 .run 0 .any
def term_mv : Field := .one 0x000D 15 0 .run 0 .any
def stage_tj : Field := .one 0x000E 31 16 .run 0 .any
def cj_t : Field := .one 0x000E 15 0 .run 0 .any
def cj_degraded : Field := .one 0x000F 11 11 .w1c 0 .any
def span_mm : Field := .one 0x000F 10 10 .w1c 0 .any
def cj_fault : Field := .one 0x000F 9 9 .w1c 0 .any
def open_sensor : Field := .one 0x000F 8 8 .w1c 0 .any
def ext_src : Field := .one 0x000F 7 7 .w1c 0 .any
def split_raise : Field := .one 0x000F 6 6 .w1c 0 .any
def open_loop : Field := .one 0x000F 5 5 .w1c 0 .any
def comp_reduced : Field := .one 0x000F 4 4 .w1c 0 .any
def therm : Field := .one 0x000F 3 3 .w1c 0 .any
def comp : Field := .one 0x000F 2 2 .w1c 0 .any
def ne43_high : Field := .one 0x000F 1 1 .w1c 0 .any
def ne43_low : Field := .one 0x000F 0 0 .w1c 0 .any
def flags_now : Field := .one 0x0010 11 0 .run 0 .any
def cal_stamp_lo : Field := .one 0x0011 31 0 .run 0 .any
def cal_stamp_hi : Field := .one 0x0012 31 0 .run 0 .any
def cal_gain : Field := .one 0x0013 31 16 .run 0 .any
def cal_offset : Field := .one 0x0013 15 0 .run 0 .any
def comp_count : Field := .one 0x0014 31 16 .run 0 .any
def fault_count : Field := .one 0x0014 15 0 .run 0 .any
/-- Every field of the block. -/
def table : List Field :=
  [mode_now, mode, rate, ne43, tx_supply, comp_alarm, rtd_ohm, cj_fixed_en, wiring, sensor, range, filter_tc] ++
  [lead_2w, cj_fixed, safe_value, safe_kind, span_lo, span_hi, value, status, raw, command, bellows_mv, term_mv] ++
  [stage_tj, cj_t, cj_degraded, span_mm, cj_fault, open_sensor, ext_src, split_raise, open_loop, comp_reduced, therm, comp] ++
  [ne43_high, ne43_low, flags_now, cal_stamp_lo, cal_stamp_hi, cal_gain, cal_offset, comp_count, fault_count]
end Chan

/-! ### Dig: R279, Table 9.7 -/

namespace Dig
def pulse : Field := .one 0x0018 27 24 .onl 1 (.upto 0 4)
def filt_n : Field := .one 0x0018 23 16 .onl 0x000C (.upto 1 255)
def di_cont : Field := .one 0x0018 15 15 .onl 0 .any
def di_type : Field := .one 0x0018 14 14 .onl 0 .any
def cnt_edge : Field := .one 0x0018 13 12 .onl 0 (.upto 0 2)
def cnt_glitch : Field := .one 0x0018 11 9 .onl 0 (.upto 0 4)
def retry_ms : Field := .one 0x0019 31 16 .onl 0x03E8 (.upto 100 60000)
def overload_ms : Field := .one 0x0019 15 8 .onl 0x0014 (.upto 1 255)
def open_thr : Field := .one 0x0019 7 0 .onl 2 (.upto 0 50)
def mon_class : Field := .one 0x001A 31 28 .run 0 .any
def trips : Field := .one 0x001A 27 24 .run 0 .any
def pwm_period : Field := .one 0x001A 23 0 .onl 0 (.zeroOr 500 10000000)
def cross_src : Field := .one 0x001B 31 24 .run 0x00FF .any
def cnt_gate : Field := .one 0x001B 23 0 .onl 0x186A0 (.upto 1000 10000000)
def count : Field := .one 0x001C 31 0 .run 0 .any
def freq : Field := .one 0x001D 31 0 .run 0 .any
def load : Field := .one 0x001E 31 16 .run 0 .any
def mon_res : Field := .one 0x001E 15 0 .run 0 .any
def dflags_now : Field := .one 0x001F 26 16 .run 0 .any
def cnt_over : Field := .one 0x001F 10 10 .w1c 0 .any
def mon_break : Field := .one 0x001F 9 9 .w1c 0 .any
def mon_short : Field := .one 0x001F 8 8 .w1c 0 .any
def share_low : Field := .one 0x001F 7 7 .w1c 0 .any
def stuck_on : Field := .one 0x001F 6 6 .w1c 0 .any
def trip_latched : Field := .one 0x001F 5 5 .w1c 0 .any
def dtherm : Field := .one 0x001F 4 4 .w1c 0 .any
def overload : Field := .one 0x001F 3 3 .w1c 0 .any
def open_load : Field := .one 0x001F 2 2 .w1c 0 .any
def cross_fed : Field := .one 0x001F 1 1 .w1c 0 .any
def back_fed : Field := .one 0x001F 0 0 .w1c 0 .any
/-- Every field of the block. -/
def table : List Field :=
  [pulse, filt_n, di_cont, di_type, cnt_edge, cnt_glitch, retry_ms, overload_ms, open_thr, mon_class, trips, pwm_period] ++
  [cross_src, cnt_gate, count, freq, load, mon_res, dflags_now, cnt_over, mon_break, mon_short, share_low, stuck_on] ++
  [trip_latched, dtherm, overload, open_load, cross_fed, back_fed]
end Dig

/-! ### Loop: R302, Table 10.5 -/

namespace Loop
def state : Field := .one 0 23 20 .run 0 .any
def enabled : Field := .one 0 16 16 .img 0 .any
def start_auto : Field := .one 0 4 4 .img 0 .any
def auto : Field := .one 0 0 0 .onl 0 .any
def period : Field := .one 1 31 0 .onl 0x186A0 (.upto 250 60000000)
def phase : Field := .one 2 31 0 .img 0 .any
def pv_src : Field := .one 3 31 0 .img 0 .any
def sp_src : Field := .one 4 31 0 .img 0 .any
def out_dst : Field := .one 5 31 0 .img 0 .any
def sp : Field := .one 6 31 0 .onl 0 .signal
def man : Field := .one 7 31 0 .onl 0 .signal
def beta : Field := .one 8 31 0 .onl 0x8000000 .signal
def ki : Field := .one 9 31 0 .onl 0 .signal
def out_lo : Field := .one 0x000A 31 0 .onl 0xC0000000 .signal
def out_hi : Field := .one 0x000B 31 0 .onl 0x3FFFFFFF .signal
def nsec : Field := .one 0x000C 3 0 .onl 0 (.upto 0 8)
def coef : Field := .many 0x0010 40 1 31 0 .onl 0 .signal
def pv : Field := .one 0x0040 31 0 .run 0 .any
def sp_now : Field := .one 0x0041 31 0 .run 0 .any
def err : Field := .one 0x0042 31 0 .run 0 .any
def out : Field := .one 0x0043 31 0 .run 0 .any
def integ_lo : Field := .one 0x0044 31 0 .run 0 .any
def integ_hi : Field := .one 0x0045 31 0 .run 0 .any
def states : Field := .many 0x0046 32 1 31 0 .run 0 .any
def sample_tick : Field := .one 0x0066 31 0 .run 0 .any
def comp_max : Field := .one 0x0067 31 16 .run 0 .any
def comp_last : Field := .one 0x0067 15 0 .run 0 .any
def missed : Field := .one 0x0068 31 0 .run 0 .any
def samples : Field := .one 0x0069 31 0 .run 0 .any
def coef_pending : Field := .one 0x006A 7 0 .run 0 .any
def missed_f : Field := .one 0x0070 11 11 .w1c 0 .any
def lim_mm : Field := .one 0x0070 10 10 .w1c 0 .any
def sp_fault : Field := .one 0x0070 9 9 .w1c 0 .any
def pv_fault : Field := .one 0x0070 8 8 .w1c 0 .any
def conv : Field := .one 0x0070 7 7 .w1c 0 .any
def lim_hi : Field := .one 0x0070 6 6 .w1c 0 .any
def lim_lo : Field := .one 0x0070 5 5 .w1c 0 .any
def int_clamp : Field := .one 0x0070 4 4 .w1c 0 .any
def sat_int : Field := .one 0x0070 3 3 .w1c 0 .any
def sat_state : Field := .one 0x0070 2 2 .w1c 0 .any
def sat_sec : Field := .one 0x0070 1 1 .w1c 0 .any
def sat_err : Field := .one 0x0070 0 0 .w1c 0 .any
def flags_now : Field := .one 0x0071 11 0 .run 0 .any
def reset_states : Field := .one 0x0072 1 1 .cmd 0 .any
def clear_stats : Field := .one 0x0072 0 0 .cmd 0 .any
def result : Field := .one 0x0073 7 0 .run 0 .any
/-- Every field of the block. -/
def table : List Field :=
  [state, enabled, start_auto, auto, period, phase, pv_src, sp_src, out_dst, sp, man, beta] ++
  [ki, out_lo, out_hi, nsec, coef, pv, sp_now, err, out, integ_lo, integ_hi, states] ++
  [sample_tick, comp_max, comp_last, missed, samples, coef_pending, missed_f, lim_mm, sp_fault, pv_fault, conv, lim_hi] ++
  [lim_lo, int_clamp, sat_int, sat_state, sat_sec, sat_err, flags_now, reset_states, clear_stats, result]
end Loop

/-! ### LSlice: R303, Table 10.6 -/

namespace LSlice
def load_max : Field := .one 0x0020 31 16 .run 0 .any
def load_last : Field := .one 0x0020 15 0 .run 0 .any
def misses_total : Field := .one 0x0021 31 0 .run 0 .any
def clear_slice : Field := .one 0x0022 0 0 .cmd 0 .any
/-- Every field of the block. -/
def table : List Field :=
  [load_max, load_last, misses_total, clear_slice]
end LSlice

/-! ### Enc: R332, Table 11.7 -/

namespace Enc
def glitch : Field := .one 0x0030 7 6 .onl 0 .any
def invert : Field := .one 0x0030 5 5 .onl 0 .any
def enc_mode : Field := .one 0x0030 1 0 .onl 0 (.upto 0 2)
def count : Field := .one 0x0031 31 0 .run 0 .any
def z_count : Field := .one 0x0032 31 0 .run 0 .any
def overrun : Field := .one 0x0033 1 1 .w1c 0 .any
def enc_err : Field := .one 0x0033 0 0 .w1c 0 .any
/-- Every field of the block. -/
def table : List Field :=
  [glitch, invert, enc_mode, count, z_count, overrun, enc_err]
end Enc

/-! ### Axis: R335, Table 11.9 -/

namespace Axis
def state : Field := .one 0 31 28 .run 0 .any
def ref_state : Field := .one 0 27 24 .run 0 .any
def quiet_en : Field := .one 0 19 19 .onl 0 .any
def idle_off : Field := .one 0 18 18 .onl 0 .any
def lim_quick : Field := .one 0 17 17 .onl 0 .any
def trust_stored : Field := .one 0 16 16 .img 0 .any
def enabled : Field := .one 0 0 0 .img 0 .any
def vlim : Field := .one 1 31 0 .img 0xC800 (.upto 1 1024000)
def vmax : Field := .one 2 31 0 .onl 0x6400 (.upto 1 1024000)
def vs : Field := .one 3 31 0 .onl 0 (.upto 0 1024000)
def ve : Field := .one 4 31 0 .onl 0 (.upto 0 1024000)
def vb : Field := .one 5 31 0 .onl 0x3200 (.upto 1 1024000)
def accel : Field := .many 6 4 1 31 0 .onl 0xC800 (.upto 1 100000000)
def dstop : Field := .one 0x000A 31 0 .onl 0x19000 (.upto 1 100000000)
def pos_min : Field := .one 0x000B 31 0 .onl 0x80000000 .any
def pos_max : Field := .one 0x000C 31 0 .onl 0x7FFFFFFF .any
def vh1 : Field := .one 0x000D 31 0 .onl 0x3200 (.upto 1 1024000)
def vh2 : Field := .one 0x000E 31 0 .onl 0x0500 (.upto 1 1024000)
def hmargin : Field := .one 0x000F 31 0 .onl 0x0A00 (.upto 0 1000000)
def hmax : Field := .one 0x0010 31 0 .onl 0x4E2000 (.upto 1 2147483647)
def home_pos : Field := .one 0x0011 31 0 .onl 0 .any
def park : Field := .one 0x0012 31 0 .onl 0 .any
def park_en : Field := .one 0x0013 27 27 .onl 0 .any
def home_low : Field := .one 0x0013 26 26 .onl 0 .any
def pos_low : Field := .one 0x0013 25 25 .onl 0 .any
def neg_low : Field := .one 0x0013 24 24 .onl 0 .any
def home_sw : Field := .one 0x0013 23 16 .onl 0x00FF .ccOrNone
def lim_pos : Field := .one 0x0013 15 8 .onl 0x00FF .ccOrNone
def lim_neg : Field := .one 0x0013 7 0 .onl 0x00FF .ccOrNone
def i_hold : Field := .one 0x0014 31 16 .onl 0x01F4 (.upto 0 2000)
def i_run : Field := .one 0x0014 15 0 .onl 0x03E8 (.upto 0 2000)
def blank : Field := .one 0x0015 31 30 .onl 1 .any
def fd : Field := .one 0x0015 27 24 .onl 4 .any
def toff : Field := .one 0x0015 20 16 .onl 9 (.upto 0 29)
def hold_delay : Field := .one 0x0015 15 0 .onl 0x01F4 (.upto 0 60000)
def v_quiet : Field := .one 0x0016 31 0 .onl 0 (.upto 0 1024000)
def hyst : Field := .one 0x0017 31 0 .onl 0 (.upto 0 1024000)
def mkind : Field := .one 0x0018 31 28 .onl 0 (.upto 0 3)
def nstage : Field := .one 0x0018 17 16 .onl 0 .any
def mch : Field := .one 0x0018 6 0 .onl 0 .any
def gear_lag_max : Field := .one 0x0019 31 0 .onl 0x0100 (.upto 1 1000000)
def num : Field := .many 0x0020 4 3 31 0 .onl 1 .any
def den : Field := .many 0x0021 4 3 31 0 .onl 1 (.upto 1 4294967295)
def pos_k : Field := .many 0x0022 4 3 31 0 .onl 0 .any
def pos : Field := .one 0x0030 31 0 .run 0 .any
def vel : Field := .one 0x0031 31 0 .run 0 .any
def target : Field := .one 0x0032 31 0 .run 0 .any
def pref : Field := .one 0x0033 31 0 .run 0 .any
def lag : Field := .one 0x0034 31 0 .run 0 .any
def moff : Field := .one 0x0035 31 0 .run 0 .any
def code : Field := .one 0x0036 31 24 .run 0 .any
def gstage : Field := .one 0x0036 17 16 .run 0 .any
def lim_pos_now : Field := .one 0x0036 7 7 .run 0 .any
def lim_neg_now : Field := .one 0x0036 6 6 .run 0 .any
def home_now : Field := .one 0x0036 5 5 .run 0 .any
def loop_owned : Field := .one 0x0036 4 4 .run 0 .any
def quiet_now : Field := .one 0x0036 3 3 .run 0 .any
def stage_on : Field := .one 0x0036 2 2 .run 0 .any
def still : Field := .one 0x0036 1 1 .run 0 .any
def ib_ma : Field := .one 0x0037 31 16 .run 0 .any
def ia_ma : Field := .one 0x0037 15 0 .run 0 .any
def bridge_tj : Field := .one 0x0038 15 0 .run 0 .any
def quiet_mm : Field := .one 0x0039 11 11 .w1c 0 .any
def soft_mm : Field := .one 0x0039 10 10 .w1c 0 .any
def prof_mm : Field := .one 0x0039 9 9 .w1c 0 .any
def quiet_dev : Field := .one 0x0039 8 8 .w1c 0 .any
def master_fault : Field := .one 0x0039 7 7 .w1c 0 .any
def gear_lag : Field := .one 0x0039 6 6 .w1c 0 .any
def pos_lost : Field := .one 0x0039 5 5 .w1c 0 .any
def drv_therm : Field := .one 0x0039 4 4 .w1c 0 .any
def drv_open : Field := .one 0x0039 3 3 .w1c 0 .any
def drv_oc : Field := .one 0x0039 2 2 .w1c 0 .any
def hfault : Field := .one 0x0039 1 1 .w1c 0 .any
def lim_stop : Field := .one 0x0039 0 0 .w1c 0 .any
def flags_now : Field := .one 0x003A 11 0 .run 0 .any
def clear_stats : Field := .one 0x003B 1 1 .cmd 0 .any
def clear_fault : Field := .one 0x003B 0 0 .cmd 0 .any
def result : Field := .one 0x003C 7 0 .run 0 .any
def moves : Field := .one 0x003D 31 0 .run 0 .any
def travel : Field := .one 0x003E 31 0 .run 0 .any
/-- Every field of the block. -/
def table : List Field :=
  [state, ref_state, quiet_en, idle_off, lim_quick, trust_stored, enabled, vlim, vmax, vs, ve, vb] ++
  [accel, dstop, pos_min, pos_max, vh1, vh2, hmargin, hmax, home_pos, park, park_en, home_low] ++
  [pos_low, neg_low, home_sw, lim_pos, lim_neg, i_hold, i_run, blank, fd, toff, hold_delay, v_quiet] ++
  [hyst, mkind, nstage, mch, gear_lag_max, num, den, pos_k, pos, vel, target, pref] ++
  [lag, moff, code, gstage, lim_pos_now, lim_neg_now, home_now, loop_owned, quiet_now, stage_on, still, ib_ma] ++
  [ia_ma, bridge_tj, quiet_mm, soft_mm, prof_mm, quiet_dev, master_fault, gear_lag, pos_lost, drv_therm, drv_open, drv_oc] ++
  [hfault, lim_stop, flags_now, clear_stats, clear_fault, result, moves, travel]
end Axis

/-! ### Isle: R372, Table 12.11 -/

namespace Isle
def stop_cause : Field := .one 0 31 24 .run 0 .any
def latched : Field := .one 0 3 3 .run 0 .any
def xlink_ok : Field := .one 0 2 2 .run 0 .any
def params_ok : Field := .one 0 1 1 .run 0 .any
def running : Field := .one 0 0 0 .run 0 .any
def cycles : Field := .one 1 31 0 .run 0 .any
def param_crc : Field := .one 2 31 0 .run 0 .any
def acceptance : Field := .one 3 31 0 .run 0 .any
def kind : Field := .many 4 8 1 31 24 .run 0 .any
def state : Field := .many 4 8 1 23 16 .run 0 .any
def owner_here : Field := .many 4 8 1 5 5 .run 0 .any
def cut_active : Field := .many 4 8 1 4 4 .run 0 .any
def rst_wait : Field := .many 4 8 1 3 3 .run 0 .any
def disc : Field := .many 4 8 1 2 2 .run 0 .any
def ok : Field := .many 4 8 1 1 1 .run 0 .any
def trips : Field := .many 0x000C 8 1 31 16 .run 0 .any
def discs : Field := .many 0x000C 8 1 15 0 .run 0 .any
def out_fault : Field := .one 0x0014 15 8 .w1c 0 .any
def disc_seen : Field := .one 0x0014 7 0 .w1c 0 .any
def xcmp_diff : Field := .one 0x0015 31 0 .run 0 .any
def conn_state : Field := .one 0x0016 31 0 .run 0 .any
def crc_errors : Field := .one 0x0017 31 16 .run 0 .any
def seq_errors : Field := .one 0x0017 15 0 .run 0 .any
def timeouts : Field := .one 0x0018 31 16 .run 0 .any
def jitter_errors : Field := .one 0x0018 15 0 .run 0 .any
def clear_counts : Field := .one 0x0019 1 1 .cmd 0 .any
def restart : Field := .one 0x0019 0 0 .cmd 0 .any
def last_cmd : Field := .one 0x001A 15 8 .run 0 .any
def result : Field := .one 0x001A 7 0 .run 0 .any
/-- Every field of the block. -/
def table : List Field :=
  [stop_cause, latched, xlink_ok, params_ok, running, cycles, param_crc, acceptance, kind, state, owner_here, cut_active] ++
  [rst_wait, disc, ok, trips, discs, out_fault, disc_seen, xcmp_diff, conn_state, crc_errors, seq_errors, timeouts] ++
  [jitter_errors, clear_counts, restart, last_cmd, result]
end Isle

end Sys2Proof.Machine
end

