-- ==== Sys2Proof/Machine/Params.lean ====
section
/-! DEFINITION. The map of the parameter space (R12, R13, R529): where each block stands, which field-table rows a word
has, and what each word holds at reset. -/

namespace Sys2Proof.Machine

/-- The address 0xSBBB_0000 (R12). -/
def blockAddr (s b : Nat) : Nat := s * 2 ^ 28 + b * 2 ^ 16

/-- Space of a parameter address. -/
def spaceOf (a : Nat) : Nat := a / 2 ^ 28

/-- Block of a parameter address. -/
def blockOf (a : Nat) : Nat := a / 2 ^ 16 % 2 ^ 12

/-- Offset of a parameter address. -/
def offOf (a : Nat) : Nat := a % 2 ^ 16

/-- The region block; it also holds the crossing, loop slice and encoder words. -/
def regionAt (r : Nat) : Nat := blockAddr r 0x000
/-- The block of channel g = 16·r + cc. -/
def chanAt (g : Nat) : Nat := blockAddr (g / 16) (0x010 + g % 16)
/-- The block of axis x = 2·r + a. -/
def axisAt (x : Nat) : Nat := blockAddr (x / 2) (0x020 + x % 2)
/-- The block of loop n = 32·r + k. -/
def loopAt (n : Nat) : Nat := blockAddr (n / 32) (0x040 + n % 32)
/-- The block of CAN port Pr. -/
def portAt (r : Nat) : Nat := blockAddr r 0x060
/-- The counters of a region. -/
def ctrAt (r : Nat) : Nat := blockAddr r 0x070
/-- The safety slice of a region. -/
def isleAt (r : Nat) : Nat := blockAddr r 0x080
/-- The steward of a region. -/
def stewAt (r : Nat) : Nat := blockAddr r 0x090
/-- The instance memory of a region (R149): word w. -/
def instAt (r w : Nat) : Nat := blockAddr r 0x100 + w
/-- The identity block. -/
def identAt : Nat := 0x80000000
/-- The module status block. -/
def statusAt : Nat := 0x80010000
/-- Supplies and the always-on domain. -/
def supplyAt : Nat := 0x80100000
/-- The calendar block. -/
def calAt : Nat := 0x80200000
/-- The block engine. -/
def engineAt : Nat := 0x80300000
/-- The force table. -/
def forceAt : Nat := 0x80310000
/-- Online change. -/
def changeAt : Nat := 0x80320000
/-- Image information. -/
def imageAt : Nat := 0x80400000
/-- The module survey. -/
def surveyAt : Nat := 0x80500000
/-- Word w of the constant pool (R150). -/
def constAt (w : Nat) : Nat := 0x81000000 + w
/-- The pair block. -/
def pairAt : Nat := 0x90000000
/-- The recorder. -/
def recdAt : Nat := 0xA0000000
/-- Recorder window w, 0–3. -/
def winAt (w : Nat) : Nat := blockAddr 0xA (1 + w)
/-- The band table. -/
def bandAt : Nat := 0xA0080000
/-- The panel. -/
def panelAt : Nat := 0xB0000000
/-- The station link. -/
def slinkAt : Nat := 0xC0000000
/-- The partner table. -/
def partnerAt : Nat := 0xC0010000
/-- The publication table. -/
def pubAt : Nat := 0xC0020000
/-- The session table. -/
def sessAt : Nat := 0xC0030000

/-- A plain word of memory: instance memory and the constant pool have no field table of their own. -/
def plainWord : Field := .one 0 31 0 .onl 0 .any

/-- The field tables of a block (Table 20.1); a block outside the map has none. -/
def blockFields (s b : Nat) : List Field :=
  if s < 8 then
    if b = 0 then Region.table ++ Cross.table ++ LSlice.table ++ (if s < 2 then Enc.table else [])
    else if 0x010 ≤ b && b ≤ 0x01F then Chan.table ++ Dig.table
    else if 0x020 ≤ b && b ≤ 0x021 then Axis.table
    else if 0x040 ≤ b && b ≤ 0x05F then Loop.table
    else if b = 0x060 then Port.table ++ PWord.table
    else if b = 0x070 then Ctr.table
    else if b = 0x080 then Isle.table
    else if b = 0x090 then Stew.table
    else []
  else if s = 8 then
    if b = 0x000 then Ident.table
    else if b = 0x001 then Status.table
    else if b = 0x010 then Supply.table
    else if b = 0x020 then Cal.table
    else if b = 0x030 then Engine.table
    else if b = 0x031 then Force.table ++ FEntry.table
    else if b = 0x032 then Change.table
    else if b = 0x040 then Image.table
    else if b = 0x050 then Survey.table
    else []
  else if s = 9 then (if b = 0 then Pair.table else [])
  else if s = 10 then
    if b = 0 then Recd.table
    else if 1 ≤ b && b ≤ 4 then Win.table
    else if b = 8 then Band.table
    else []
  else if s = 11 then (if b = 0 then Panel.table else [])
  else if s = 12 then
    if b = 0 then SLink.table
    else if b = 1 then Partner.table
    else if b = 2 then Pub.table
    else if b = 3 then Sess.table
    else []
  else []

/-- The field-table rows with bits in the word at an address. -/
def fieldsAt (a : Nat) : List Field := (blockFields (spaceOf a) (blockOf a)).filter (fun f => f.covers (offOf a))

/-- The reset value that a list of fields gives their word. -/
def resetOf : List Field → Nat
  | [] => 0
  | f :: t => f.reset * 2 ^ f.lo + resetOf t

/-- What the word at an address holds at reset: the field tables' "At reset" columns. The region number and the lead
bit of a region block follow the block's place. -/
def resetWord (a : Nat) : Word :=
  let base := resetOf (fieldsAt a)
  if spaceOf a < 8 && a % 2 ^ 28 == 0 then
    BitVec.ofNat 32 (base + spaceOf a * 2 ^ 5 + (if spaceOf a = 0 then 4 else 0))
  else BitVec.ofNat 32 base

end Sys2Proof.Machine
end

