-- ==== Sys2Proof/Machine/Sparse.lean ====
section
/-! DEFINITION. Sparse stores: lists of (address, value) pairs in one canonical form. Addresses strictly rise and no
entry equals what an unlisted address reads as, so that equal stores are equal data. -/

namespace Sys2Proof.Machine

/-- What the store holds at an address; `d` gives what an unlisted address reads as. -/
def Sparse.get {α : Type} (d : Nat → α) : List (Nat × α) → Nat → α
  | [], a => d a
  | (b, v) :: t, a => if a = b then v else Sparse.get d t a

/-- Write one address: any entry of the address goes, and the new one comes where the addresses keep rising, unless the
address then reads as unlisted. -/
def Sparse.set {α : Type} [DecidableEq α] (d : Nat → α) : List (Nat × α) → Nat → α → List (Nat × α)
  | [], a, v => if v = d a then [] else [(a, v)]
  | (b, w) :: t, a, v =>
    if a = b then Sparse.set d t a v
    else if a < b ∧ v ≠ d a then (a, v) :: (b, w) :: t
    else (b, w) :: Sparse.set d t a v

/-- Write consecutive addresses. -/
def Sparse.setRun {α : Type} [DecidableEq α] (d : Nat → α) (l : List (Nat × α)) (a : Nat) : List α → List (Nat × α)
  | [] => l
  | v :: vs => Sparse.setRun d (Sparse.set d l a v) (a + 1) vs

/-- Forget every entry from `lo` up to but not including `hi`: those addresses read as unlisted again. -/
def Sparse.clear {α : Type} (l : List (Nat × α)) (lo hi : Nat) : List (Nat × α) :=
  l.filter (fun e => !(lo ≤ e.1 && e.1 < hi))

/-- Are all addresses of the list above `a`? Only the first needs to be: the rest rise. -/
def Sparse.above {α : Type} (l : List (Nat × α)) (a : Nat) : Bool :=
  match l with
  | [] => true
  | (b, _) :: _ => a < b

/-- The canonical form: addresses strictly rising, no entry equal to the unlisted value. -/
def Sparse.wf {α : Type} [DecidableEq α] (d : Nat → α) : List (Nat × α) → Bool
  | [] => true
  | (a, v) :: t => Sparse.above t a && v != d a && Sparse.wf d t

end Sys2Proof.Machine
end

