-- ==== Sys2Proof/Machine/State.lean ====
section
/-! DEFINITION. The state of the module as plain data, its faults and refusals, and the state at reset. Every parameter
word stands in `Chip.regs` under its own address; the structures beside it hold what the spec gives the machine
without giving it a word: running conditions, images, queues, protocol state and the stores. -/

namespace Sys2Proof.Machine

/-- Reasons to stop with a fault. No command of this part stops: the constructor is reserved for a state the spec
rules out and is raised by nobody (safe). -/
inductive Fault where
  | corruptState
  deriving DecidableEq, Repr

/-- Reasons to refuse. -/
inductive Refusal where
  /-- A command whose meaning is not modelled yet, by its mnemonic; raised by the dispatch alone (safe). -/
  | notModelled (mnemonic : String)
  deriving DecidableEq, Repr

/-- An event record (Table 16.1) as the recorder holds it. A record that entered before the mount has no number yet
(R462). -/
structure EvRec where
  seq : Option Nat
  stamp : Nat
  tick : Nat
  source : Nat
  region : Nat
  cls : Nat
  severity : Nat
  subject : Nat
  payload : List Nat
  deriving DecidableEq, Repr

/-- An operand binding (Table 6.3). -/
structure Bind where
  kind : Nat
  ty : Nat
  region : Nat
  flags : Nat
  ref : Nat
  deriving DecidableEq, Repr

/-- An invocation record (Table 6.2) and the region it is placed in; `off` and `len` count words. -/
structure Inv where
  region : Nat
  code : Nat
  seq : Nat
  off : Nat
  len : Nat
  onl : Nat
  ins : List Bind
  outs : List Bind
  deriving DecidableEq, Repr

/-- A latched channel image: native type (R245), value, STATUS16. -/
structure ChImg where
  ty : Nat
  val : Nat
  st : Nat
  deriving DecidableEq, Repr

/-- A latched remote station image (R156): key 64·region + station, bytes, STATUS16, age. -/
structure StImg where
  key : Nat
  bytes : List Nat
  st : Nat
  age : Nat
  deriving DecidableEq, Repr

/-- A request an invocation issues at the output write (R191): what it asks and its operands. -/
inductive Ask where
  /-- A move of an axis to a position, or by it. -/
  | move (axis pos : Nat) (rel : Bool)
  /-- Homing of an axis in a mode. -/
  | home (axis mode : Nat)
  /-- The stop level of an axis, with the quick level. -/
  | stop (axis : Nat) (on quick : Bool)
  /-- Engage or disengage gearing. -/
  | gear (axis : Nat) (engage : Bool)
  /-- LOOPSUP: mode request, manual value, program setpoint while sp_en. -/
  | loopsup (loop : Nat) (auto : Bool) (man : Nat) (sp : Option Nat)
  /-- A send object's frame bytes, with the program trigger. -/
  | canSend (port obj len : Nat) (data : List Nat) (trig : Bool)
  /-- A port restart. -/
  | portRestart (port : Nat)
  /-- Bytes of a publication. -/
  | publish (pubid byte : Nat) (data : List Nat)
  /-- A panel dynamic field. -/
  | field (page field value state : Nat) (vis : Bool)
  /-- A blink rectangle. -/
  | blink (rect : Nat) (en : Bool) (period : Nat)
  /-- A panel page. -/
  | page (page : Nat)
  /-- One online change. -/
  | change (addr value : Nat)
  deriving DecidableEq, Repr

/-- A request of a service session that waits for its answer: session, request sequence, part of the request. -/
structure AskedBy where
  session : Nat
  seq : Nat
  part : Nat
  deriving DecidableEq, Repr

/-- A queued online change: its address, value, the invocation of PARWR or the session that submitted it, if one did. -/
structure QChange where
  addr : Nat
  value : Nat
  prog : Option Nat
  session : Option AskedBy
  deriving DecidableEq, Repr

/-- A force edit waiting for the boundary: set an entry's four words, or release it. -/
structure FEdit where
  entry : Nat
  words : Option (List Nat)
  session : Option AskedBy
  deriving DecidableEq, Repr

/-- The outcome of a PARWR's change: busy, done, err, code. -/
structure WrOut where
  seq : Nat
  busy : Bool
  ok : Bool
  code : Nat
  deriving DecidableEq, Repr

/-- The state of an act as its block learns it (R200): the requesting s, busy, the reason code. -/
structure ActSt where
  seq : Nat
  busy : Bool
  code : Nat
  deriving DecidableEq, Repr

/-- Conditions at a channel that the spec judges over a time: terminal at 10.0 V or more with the switch open, terminal below 8.0 V
(R265); closed switch below open_thr, at open_thr + 1 mA or more (R267); open switch above 5 mA (R268); current short of the command
at V_max, within 0.05 mA of it (R232), no current (R236); resistance that V_max serves (R233); current above the command, below 0.5 mA
(R270); own share of a shared DO below 10 % (R277). -/
inductive Cond where
  | high | low | unloaded | loaded | stuck | short | good | noLoop | served | above | gone | shareLow
  deriving DecidableEq, Repr

/-- A channel beyond its registers. -/
structure ChanSt where
  /-- Mode change sequence of Table 8.2: 0 none, 1 after step 1, 2 after step 2, 3 after step 3 until step 4. -/
  seq : Nat := 0
  /-- The image, and the native type it was taken in: a mode change keeps the previous value until its step 3 (Table 8.2). -/
  img : Nat := 0
  imgTy : Nat := 4
  /-- Ticks at which each condition was last seen not to hold. -/
  notAt : List (Cond × Nat) := []
  /-- Tick of step 2 of Table 8.2; samples taken since; tick of the last sample; a sampling window stood open when T changed, and the tick
  from which windows lie on the present grid (R249). -/
  stepAt : Nat := 0
  samples : Nat := 0
  sampledAt : Nat := 0
  winOpen : Bool := false
  gridAt : Nat := 0
  /-- Current last measured in the loop of AI-I or AO-I, in µA, on a shared AO-I the sum of both shares; the tick of the last measurement of
  the terminal (R230, R279). -/
  ua : Int := 0
  measAt : Option Nat := none
  /-- Tick of the last conversion result (R214); of the last open-thermocouple check, and of the end of its last 1 ms pull (R225). -/
  convAt : Nat := 0
  tcAt : Nat := 0
  pullAt : Option Nat := none
  /-- Filter state y of R215, and whether it holds a result. -/
  y : Nat := 0
  yOk : Bool := false
  /-- The terminal is driven by an output mode. -/
  driven : Bool := false
  /-- The command held since level 2 or the loss of the AFE clock began, for safe_kind 1 (R229, R540). -/
  held : Option Nat := none
  /-- STATUS16 of the last sample or result, before the causes that act beneath it. -/
  base : Nat := 0
  /-- Tick since when AO-V's readback has differed from its command by more than 50 mV (R228). -/
  devAt : Option Nat := none
  /-- NE 43 band of the last reading: 0 none yet, 1 low failure, 2 below, 3 normal, 4 above, 5 high failure (R219). -/
  band : Nat := 0
  /-- The command was clamped below, above. -/
  clampLo : Bool := false
  clampHi : Bool := false
  /-- The stage drives the low alarm current (R233). -/
  alarm : Bool := false
  /-- The compliance state of R232; a folded-back stage delivers less than its command (R235). -/
  short : Bool := false
  lack : Bool := false
  /-- Fault causes that last: thermocouple open or RTD out of band, cold junction, converter limit. -/
  sensorBad : Bool := false
  cjBad : Bool := false
  /-- Counter filter, state, fault filter, fault and its class (R250, R254). -/
  integ : Nat := 0
  state : Bool := false
  finteg : Nat := 0
  mfault : Bool := false
  /-- Class of the last fault sample (R254). -/
  faultClass : Nat := 0
  /-- The last gate was over the limit rate (R258). -/
  overRate : Bool := false
  /-- Start of the running gate, and its length. -/
  gateAt : Nat := 0
  gateLen : Nat := 100000
  /-- A PWM period is running, the tick it began, its length and its duty. -/
  pwmOn : Bool := false
  pwmAt : Nat := 0
  pwmLen : Nat := 0
  duty : Nat := 0
  /-- The switch is closed, under PWM in each on-phase. -/
  closed : Bool := false
  /-- Overload time (R262): on-time since the current was last seen at 0.6 A or below, and the tick up to which it is summed. -/
  overRun : Nat := 0
  overFrom : Nat := 0
  /-- First high reading of a back-fed condition; the load currents of the last measurements, newest first, with their ticks (R266). -/
  highAt : Option Nat := none
  loads : List (Nat × Nat) := []
  /-- The current at the end of the last on-phase: 0 none seen, 1 below open_thr, 2 at least open_thr + 1 mA, 3 between (R267). -/
  phaseWas : Nat := 0
  /-- Ticks of the trips of the last 60 s; the switch waits for its retry; latched off (R263); off by its own shutdown while the field
  guard drives it (R273). -/
  tripTicks : List Nat := []
  waiting : Bool := false
  latched : Bool := false
  selfOff : Bool := false
  /-- Judgements are suspended until this tick (R271). -/
  judgeAt : Nat := 0
  /-- AO-I turned off by an external source (R270); the partner's ext_src state (R277). -/
  extOff : Bool := false
  partnerExt : Bool := false
  /-- Split source: trim in µA, the share raised to the full command, low measurements in a row, own share in µA
  (R238, R239). -/
  trim : Int := 0
  full : Bool := false
  lowRun : Nat := 0
  share : Int := 0
  /-- The partner's share as it mirrors it, in µA (Table 14.4). -/
  hisShare : Int := 0
  /-- Share ramp (R425): 0 none, 1 own share rising, 2 own share falling, 3 the partner's; the tick it began. -/
  ramp : Nat := 0
  rampAt : Nat := 0
  /-- Tick of the last trip. -/
  tripAt : Nat := 0
  /-- Count last accepted from the count tongs; the next difference carries the flag of R67; how many have carried it. -/
  tongs : Nat := 0
  short67 : Bool := false
  shorts : Nat := 0
  /-- A switch of a safe output: its function is in state 4 in the slice of its region (R346, R347). -/
  safeRun : Bool := false
  /-- A shared DO's partner: its command and its load current in 0.1 mA (R277). -/
  partnerOn : Bool := false
  partnerLoad : Nat := 0
  /-- Held by temper, and the command held (R164); held by a survey burst. -/
  tempering : Bool := false
  temperCmd : Nat := 0
  surveyed : Bool := false
  /-- The out-of-service hold acts (R108). -/
  oos : Bool := false
  /-- The mode the SAFETY section gives the channel, 0 for none (R213). -/
  safeMode : Nat := 0
  /-- A safety function uses the channel (R213); a loop owns the output; it has given an output since S8 (R163). -/
  safety : Bool := false
  loopOut : Option Nat := none
  deriving DecidableEq, Repr

/-- The steps of one GS (R79): warning, reduced, off, absent; the last tick at which it was seen below 18.0 V (R77). -/
structure GsSt where
  warning : Bool := false
  reduced : Bool := false
  off : Bool := false
  absent : Bool := false
  lowAt : Nat := 0
  deriving DecidableEq, Repr

/-- What a loop computation gives (R288), formed when the computation begins and committed whole when it completes. -/
structure LoopRes where
  loop : Nat
  instant : Nat
  /-- Tick at which the computation began. -/
  began : Nat
  state : Nat
  pv : Int
  sp : Int
  err : Int
  out : Int
  integ : Int
  /-- Section states s1, s2 of the eight sections. -/
  sect : List (Int × Int)
  nsec : Nat
  man : Int
  /-- The coefficient word taken from the pending list, with its value. -/
  took : Option (Nat × Nat)
  /-- Flag bits of word 0x0070. -/
  flags : Nat
  pvBad : Bool
  spBad : Bool
  limMm : Bool
  /-- The computation carried out reset_states. -/
  cleared : Bool
  /-- The computation of a shadow: flags are its own (R300). -/
  mirrored : Bool
  deriving DecidableEq, Repr

/-- A loop beyond its registers. -/
structure LoopSt where
  /-- The working set of coefficients (R295): 0 beta, 1 ki, 2 + 5j + i the sections. -/
  coef : List Nat := List.replicate 42 0
  /-- Pending coefficient words in order of application. -/
  pend : List Nat := []
  /-- Automatic requested from the first sample (R298). -/
  startAuto : Bool := false
  /-- What LOOPSUP passed: mode request, manual value, setpoint while sp_en (R199). -/
  sup : Option (Bool × Nat × Option Nat) := none
  /-- The manual value last taken. -/
  man : Int := 0
  /-- reset_states waits for the next sample. -/
  resetAsk : Bool := false
  /-- The next sample instant, and the instant of the computation that is queued or running. -/
  nextAt : Nat := 0
  job : Option Nat := none
  /-- A miss since the last commit; the tick of the last miss. -/
  missed : Bool := false
  missAt : Option Nat := none
  /-- Unusable values and limit disagreement as of the last commit. -/
  pvBad : Bool := false
  spBad : Bool := false
  limMm : Bool := false
  /-- Sections in use at the last commit. -/
  nsec : Nat := 0
  /-- A shadow's mirror of the holder's loop (R300): state, out, integ, section states. -/
  mirror : Option (Nat × Int × Int × List (Int × Int)) := none
  deriving DecidableEq, Repr

/-- A loop slice: stopped, the running computation, busy time of the load window in units of 10 ns, the part of the
running computation counted in earlier windows, and the start of the window. -/
structure SliceSt where
  stopped : Bool := true
  running : Option LoopRes := none
  busy : Nat := 0
  counted : Nat := 0
  windowAt : Nat := 0
  deriving DecidableEq, Repr

/-- The profile fields in use by a motion (R307): speeds in microsteps/s, accelerations in microsteps/s². -/
structure Profile where
  vs : Nat
  ve : Nat
  vb : Nat
  vm : Nat
  a1 : Nat
  a2 : Nat
  d2 : Nat
  d1 : Nat
  deriving DecidableEq, Repr

/-- What the generator is doing. -/
inductive Motion where
  /-- Standstill. -/
  | still
  /-- Toward a target; `dec` once it decelerates; `short` 1 for R309's jump to v0, 2 for acceleration all the way. -/
  | goto (target : Int) (dec : Bool) (short : Nat)
  /-- At a speed in a direction, homing. -/
  | run (speed : Nat) (neg : Bool)
  /-- Stop at dstop; at a soft limit the stop ends there while dstop keeps the value it began with. -/
  | brake (limit : Option (Int × Nat))
  /-- Stop at D2 and D1, then go to a target if one is given. -/
  | ease (target : Option Int)
  /-- Speed mode (R313). -/
  | speed
  /-- Gearing (R329). -/
  | gear
  deriving DecidableEq, Repr

/-- What a bridge does to its coil: nothing, drive it toward the target, fast decay (reversed), slow decay (shorted), or the voltage PWM of
quiet drive (R321, R323). -/
inductive BridgeAct where
  | off
  | drive
  | fast
  | slow
  | pwm
  deriving DecidableEq, Repr

/-- The bridge of a phase: its act, and for how long it lasts already, in ps. -/
structure Bridge where
  act : BridgeAct := .off
  ps : Nat := 0
  deriving DecidableEq, Repr

/-- The homing fields as taken when homing begins (R335). -/
structure HomePar where
  vh1 : Nat := 1
  vh2 : Nat := 1
  margin : Nat := 0
  hmax : Nat := 1
  pos : Int := 0
  park : Int := 0
  parkEn : Bool := false
  deriving DecidableEq, Repr

/-- An axis beyond its registers. -/
structure AxSt where
  /-- Position with 32 fraction bits, signed speed with 16 fraction bits (R310). -/
  p : Int := 0
  v : Int := 0
  /-- State 1 to 6 of Table 11.9, beneath stage and fault. -/
  mode : Nat := 1
  motion : Motion := .still
  /-- The profile of the running motion, and as taken for it before a homing speed caps it. -/
  prof : Profile := ⟨0, 0, 1, 1, 1, 1, 1, 1⟩
  base : Profile := ⟨0, 0, 1, 1, 1, 1, 1, 1⟩
  /-- Causes that keep the stage off: 0 safety cut, 1 fence, 2 level 2 stop, 3 MS step, 4 out of service, 5 idle_off,
  6 power fail, 7 shadow, 8 before S8, 9 DRV clock lost. -/
  causes : Nat := 256
  /-- The driver faults that stand: bits 1 to 3 for the causes of R327. -/
  fault : Nat := 0
  /-- The causes that switch the stage off at the end of the running stop (Table 11.3, R418). -/
  thenOff : Nat := 0
  /-- The running stop is that of a limit switch (R334). -/
  limStop : Bool := false
  /-- The running act and its block; every block's last act. -/
  act : Option Nat := none
  actKind : Nat := 0
  acts : List ActSt := []
  /-- Blocks whose stop is true. -/
  stops : List Nat := []
  /-- Loop-owned, and the demanded speed with 16 fraction bits (R313). -/
  owned : Bool := false
  demand : Int := 0
  /-- Homing: the fields taken, mode, step, edge latched, latches, start of the step, release of step 2; soft limits of the running
  act. -/
  home : HomePar := {}
  hMode : Nat := 0
  hStep : Nat := 0
  hLat : Bool := false
  hRef : Int := 0
  hFrom : Int := 0
  hRel : Int := 0
  softLo : Int := 0
  softHi : Int := 0
  /-- Gearing: master total at engage, anchor, latest stage taken, where the next stage was armed, and the stages taken at
  engage as (num, den, pos). -/
  gTotal : Nat := 0
  gAnchor : Int := 0
  gStage : Nat := 0
  gStages : List (Int × Nat × Int) := []
  gKind : Nat := 0
  gCh : Nat := 0
  /-- How many differences of the master's count had carried the flag of R67 at engage (R331). -/
  gShorts : Nat := 0
  /-- Standstill since; the hold current is in use. -/
  stillAt : Nat := 0
  holding : Bool := true
  /-- Quiet drive: coil values measured; full steps in a row with a deviation; strong until standstill (R323, R324). -/
  coil : Bool := false
  devRun : Nat := 0
  strong : Bool := false
  /-- The bridges; quiet drive's amplitude factor with 16 fraction bits, and its phase voltages in mV. -/
  bridgeA : Bridge := {}
  bridgeB : Bridge := {}
  quietAmp : Nat := 65536
  quietMv : Int × Int := (0, 0)
  /-- When the generator updated last; since when each phase's sensed current lies below 10 % of its target (R327). -/
  genAt : Nat := 0
  openA : Option Nat := none
  openB : Option Nat := none
  /-- Microsteps travelled; the sum by which homings have re-based p. -/
  trip : Nat := 0
  rebased : Int := 0
  /-- lim_neg, lim_pos, home_sw as last looked at: bits 0 to 2 asserted, 3 to 5 the filter's state, 6 to 8 in DI mode. -/
  seen : Nat := 0
  deriving DecidableEq, Repr

/-- A CAN frame: identifier, 29-bit identifier, FD format, bit rate switch, remote frame, data (a remote frame's data
give its length alone). -/
structure CanFrame where
  id : Nat
  ide : Bool
  fd : Bool
  brs : Bool
  rtr : Bool := false
  data : List Nat
  deriving DecidableEq, Repr

/-- A requested transmission: the bytes of the frame, and the content as written, without a pair sequence number. -/
structure SendReq where
  data : List Nat
  content : List Nat
  deriving DecidableEq, Repr

/-- A message object beyond its registers: period and inhibit in ms; the request that waits, the frame whose
transmission has begun and is not over, whether the request waits for the inhibit time; the content last transmitted;
the next periodic request; the start of the last transmission; the data last accepted (R379 to R383). -/
structure PortObj where
  period : Nat := 0
  inhibit : Nat := 0
  pend : Option SendReq := none
  begun : Option SendReq := none
  held : Bool := false
  sent : Option (List Nat) := none
  perAt : Option Nat := none
  beganAt : Option Nat := none
  accepted : Option (List Nat) := none
  deriving DecidableEq, Repr

/-- A frame of a remote station (Table 13.3): its place in the image; the newest copy since the last closing frame; the
sequence and data last accepted; data waiting and in transmission. -/
structure StaFrame where
  id : Nat
  ide : Bool
  off : Nat
  len : Nat
  got : Option (List Nat) := none
  last : Option (Nat × List Nat) := none
  pend : Option (List Nat) := none
  begun : Option (List Nat) := none
  deriving DecidableEq, Repr

/-- A remote station (R384 to R387): its record, the input image, the tick of its last complete update, the output image
last requested, its sequence and the tick of the request. -/
structure PortSta where
  station : Nat
  pseq : Bool
  fd : Bool
  stale : Nat
  timeout : Nat
  refresh : Nat
  ins : List StaFrame
  outs : List StaFrame
  img : List Nat := []
  rxAt : Option Nat := none
  outSent : Option (List Nat) := none
  outSeq : Nat := 0
  sentAt : Nat := 0
  deriving DecidableEq, Repr

/-- A schedule matrix (Table 13.4). -/
structure Matrix where
  rows : Nat
  cols : Nat
  master : Bool
  prio : Nat
  refId : Nat
  lengths : List Nat
  cells : List Nat
  deriving DecidableEq, Repr

/-- A dynamic field of a page (Table 17.7). -/
structure PField where
  field : Nat
  kind : Nat
  x : Nat
  y : Nat
  w : Nat
  h : Nat
  colours : Nat
  fmt : Nat
  sym : Nat
  deriving DecidableEq, Repr

/-- A page: number, palette, background runs, fields. -/
structure PPageRec where
  page : Nat
  palette : List Nat
  runs : List Nat
  fields : List PField
  deriving DecidableEq, Repr

/-- What PFIELD wrote last for a field. -/
structure FieldVal where
  page : Nat
  field : Nat
  value : Nat
  state : Nat
  vis : Bool
  deriving DecidableEq, Repr

/-- A composed picture (R483): the status page with what it shows, or a page with its field values and the rectangles that
show their fill; the acceptance code drawn over it. -/
structure Picture where
  status : Option (List Nat)
  page : Nat
  vals : List FieldVal
  fills : Nat
  code : Bool
  deriving DecidableEq, Repr

/-- A blink rectangle: enabled, period in ticks, the next toggle. -/
structure BlinkSt where
  en : Bool := false
  period : Nat := 0
  nextAt : Nat := 0
  deriving DecidableEq, Repr

/-- The timing a panel is driven with: kind, area, pixel clock, blanking, and in it front porch and sync of a line and of a frame. -/
structure PanelUse where
  kind : Nat
  h : Nat
  v : Nat
  pclk : Nat
  hBlank : Nat
  vBlank : Nat
  hFront : Nat
  hSync : Nat
  vFront : Nat
  vSync : Nat
  inv : Nat
  deriving DecidableEq, Repr

/-- The panel port beyond its registers. -/
structure PanelSt where
  pages : List PPageRec := []
  /-- Symbols: width, height, indices. -/
  symbols : List (Nat × Nat × List Nat) := []
  /-- The waveform block, byte by byte. -/
  wave : List Nat := []
  vals : List FieldVal := []
  blink : List BlinkSt := List.replicate 8 {}
  /-- A panel start has been triggered and waits for its ID memory. -/
  want : Bool := false
  use : Option PanelUse := none
  /-- From the ID memory: nominal rails in mV, a temperature sensor is present, the VCOM column code. -/
  rails : List Int := []
  sensor : Bool := false
  vcom : Nat := 0
  /-- PNL_EN, BL_EN, the tick of PNL_EN, the tick from which a retry may come, frames since the panel start. -/
  pnlEn : Bool := false
  blEn : Bool := false
  pnlAt : Nat := 0
  retryAt : Nat := 0
  frames : Nat := 0
  /-- Tick at which the last frame began, and the backlight duty it took (Table 17.8). -/
  frameAt : Nat := 0
  dim : Nat := 1000
  /-- What the panel shows, none for white or unknown; the target and the start of the running update. -/
  shown : Option Picture := none
  target : Option Picture := none
  updAt : Nat := 0
  /-- A deep clear precedes the next update, and the running one. -/
  deep : Bool := false
  deepNow : Bool := false
  /-- The clearing waveform of the panel start: entry 256 or 257 (R497); the panel is to be treated as dirty (R492). -/
  clearEntry : Nat := 256
  asDirty : Bool := false
  codeUntil : Option Nat := none
  /-- The trigger of the running quench (1 to 7 of R495), and of the last one. -/
  quench : Option Nat := none
  quenchAt : Nat := 0
  lastQuench : Nat := 0
  /-- Failed temperature reads in a row, and the tick of the last read. -/
  tempFails : Nat := 0
  tempAt : Option Nat := none
  /-- End of S2; the last frame of a partner, and the last one of a partner that drives (R493). -/
  s2At : Option Nat := none
  partnerAt : Option Nat := none
  partnerDrivesAt : Option Nat := none
  /-- The partner's last report showed an update in progress. -/
  partnerBusy : Bool := false
  deriving DecidableEq, Repr

/-- A performance counter beyond its registers: what it has counted in the window, whether its select changed in it, the
overflow that waits for a sample with the sample, and the tick of the last recorded event. -/
structure CtrOne where
  acc : Nat := 0
  changed : Bool := false
  overAt : Option Nat := none
  /-- Commits the sampler still lets pass before it takes one (R505: at most 12). -/
  skip : Nat := 0
  sample : Option Nat := none
  recAt : Option Nat := none
  deriving DecidableEq, Repr

/-- The counters of a region: their window's end. -/
structure CtrSt where
  ones : List CtrOne := List.replicate 8 {}
  endAt : Nat := 0
  deriving DecidableEq, Repr

/-- A receive ring entry: tick, identifier word, word 2, data. -/
structure RingEntry where
  tick : Nat
  idw : Nat
  w2 : Nat
  data : List Nat
  deriving DecidableEq, Repr

/-- What a partner sends in negotiation (R414). -/
structure NegInfo where
  position : Nat
  variant : Nat
  mask : Nat
  imageId : Nat
  digest : List Nat
  struct_ : List Nat
  steward : Nat
  plug : List Nat
  lease : Nat
  period : Nat
  halted : Bool
  deriving DecidableEq, Repr

/-- A received publication: partner, pubid, newest data, the tick of its receipt, the sequence and data last accepted,
its class at the last latch (0 none, 1 valid, 2 invalid, 3 stale). -/
structure SubSt where
  partner : Nat
  pub : Nat
  data : List Nat
  rxAt : Nat
  last : Option (Nat × List Nat)
  cls : Nat := 0
  deriving DecidableEq, Repr

/-- The mirror record of a cycle (Table 14.4). -/
structure MirrorRec where
  cycle : Nat
  latchTick : Nat
  latchCal : Nat
  prevTime : Nat
  imgs : List ChImg
  stas : List StImg
  /-- State values latched under R190, by address. -/
  words : List (Nat × Nat)
  /-- Values read through kind 0x08 bindings. -/
  reads : List (Nat × Nat)
  /-- Ring entries since the previous latch: port, frame number, entry. -/
  ring : List (Nat × Nat × RingEntry)
  /-- Words written at the boundary before the cycle: online changes and force edits. -/
  changes : List (Nat × Nat)
  outcomes : List WrOut
  /-- Acts of the axes as latched: axis and act; the blocks that hold each axis stopped; state and disc of every function. -/
  acts : List (Nat × ActSt)
  stops : List (List Nat)
  sfs : List (Nat × Bool)
  /-- Subscriptions received since the previous latch. -/
  subs : List SubSt
  /-- Pair sequence numbers after the output write: kind (0 send object, 1 station, 2 publication), index, number. -/
  seqs : List (Nat × Nat × Nat)
  /-- The instance digest of the cycle (R422). -/
  digest : Nat
  deriving DecidableEq, Repr

/-- The pair beyond its registers. -/
structure PairSt where
  /-- Tick of the last valid frame of each lane, of the start of its run of valid frames, and lane faults. -/
  laneAt : List Nat := [0, 0]
  goodAt : List Nat := [0, 0]
  laneBad : List Bool := [false, false]
  partnerAt : Nat := 0
  /-- Start of negotiation, the partner's values. -/
  negAt : Nat := 0
  neg : Option NegInfo := none
  /-- The last renewal received and the lease period it carries, in ms; the last renewal and heartbeat sent. -/
  renewAt : Nat := 0
  period : Nat := 50
  renewSent : Nat := 0
  beatSent : Nat := 0
  /-- The partner's last cycle count, and its digest of a cycle; the own digest of the last completed cycle. -/
  partnerCycle : Nat := 0
  hisDigest : Option (Nat × Nat) := none
  ownDigest : Option (Nat × Nat) := none
  /-- Mirror records that wait, oldest first; the last one received. -/
  records : List MirrorRec := []
  lastRec : Nat := 0
  /-- The initial copy has been applied; start of the running copy. -/
  copied : Bool := false
  copyAt : Nat := 0
  /-- Words of the own image that the holder's replaced (R423), and whether they are to be put back. -/
  own : List (Nat × Nat) := []
  restore : Bool := false
  /-- swap or handover waits for the boundary; a yield received names this cycle, with swap or not. -/
  swapAsk : Bool := false
  handAsk : Bool := false
  yieldAt : Option (Nat × Bool) := none
  /-- Images of partner-owned channels, with the tick of their arrival. -/
  owned : List (Nat × ChImg × Nat) := []
  /-- Last out of the loops in a handover order; the lag the partner last reported; after a handover order the outputs
  are held until the incoming module's first output write (Table 14.6). -/
  handOuts : List (Nat × Nat) := []
  partnerLag : Nat := 0
  handHold : Bool := false
  /-- The partner is halted; the lane that takes the next mirror frame; the plug as last read and when (R407). -/
  partnerHalted : Bool := false
  laneNext : Nat := 0
  plugSeen : List Nat := []
  plugAt : Nat := 0
  deriving DecidableEq, Repr

/-- A publication beyond its registers: the data as written and as of the last change, a sending that waits, the tick of the
last sending, the pair sequence number. -/
structure PubSt where
  pub : Nat
  data : List Nat
  sent : Option (List Nat) := none
  due : Bool := false
  sentAt : Nat := 0
  seq : Nat := 0
  deriving DecidableEq, Repr

/-- A request of a session whose answer is not complete: its sequence, identity, type, and one answer per part. -/
structure PendReq where
  seq : Nat
  rid : Nat
  typ : Nat
  parts : List (Option (List Nat))
  deriving DecidableEq, Repr

/-- A service session beyond its registers (R447 to R450): session key, start, highest sequence, requests under way,
the answers to the last eight, the last measured round trip in ticks. -/
structure SessSt where
  key : List Nat := []
  openAt : Nat := 0
  lastAt : Nat := 0
  seq : Nat := 0
  pend : List PendReq := []
  cache : List (Nat × List Nat) := []
  rtt : Nat := 0
  deriving DecidableEq, Repr

/-- A PTP port instance (R440): the master it has chosen (its data set as bytes, in order of rank), the tick of the last
Announce, its interval in ticks, the mean path delay in ns. -/
structure PtpSt where
  master : Option (List Nat) := none
  seenAt : Nat := 0
  interval : Nat := 2000000
  delay : Nat := 0
  utc : Nat := 0
  leap61 : Bool := false
  leap59 : Bool := false
  /-- Receipt less origin of the last Sync, and the calendar at the last Delay_Req, in ns. -/
  diff : Int := 0
  reqNs : Option Nat := none
  deriving DecidableEq, Repr

/-- The station link beyond its registers. -/
structure NetSt where
  pubs : List PubSt := []
  subs : List SubSt := []
  sess : List SessSt := List.replicate 16 {}
  /-- Addresses and ticks of the failed proofs of the last 60 s; locked-out addresses and the end of each. -/
  fails : List (Nat × Nat) := []
  locks : List (Nat × Nat) := []
  /-- PRP: sources, sequence numbers, LAN and tick of the frames of the duplicate window; the node table. -/
  window : List (Nat × Nat × Nat × Nat) := []
  nodes : List (Nat × Nat) := []
  prpSeq : Nat := 0
  prpAt : Nat := 0
  /-- Sequence number of the next redundancy control trailer (R436). -/
  rctSeq : Nat := 0
  ptp : List PtpSt := [{}, {}]
  /-- Locked to PTP, Syncs in a row below 10 µs, servo integral in ns. -/
  locked : Bool := false
  goodRun : Nat := 0
  everLocked : Bool := false
  /-- An inserted (1) or deleted (2) leap second is pending for the next midnight. -/
  leap : Nat := 0
  station : Nat := 0
  deriving DecidableEq, Repr

/-- What a port is sending. -/
inductive TxSrc where
  | object (j : Nat)
  | station (k i : Nat)
  | reference
  | safety
  | exclusive (j : Nat)
  deriving DecidableEq, Repr

/-- A CAN port beyond its registers. -/
structure PortSt where
  objs : List PortObj := List.replicate 128 {}
  stas : List PortSta := []
  matrix : Option Matrix := none
  /-- The frame in transmission and where it comes from. -/
  tx : Option (TxSrc × CanFrame) := none
  /-- Frames that have been written into the port's queue tongs and are not over: a retry writes them no second time (R65, R381). -/
  handed : List (TxSrc × CanFrame) := []
  /-- The last own transmission ended in an error and its error flag may still stand; the tick its last own frame ended (R393). -/
  flagUp : Bool := false
  ownEnd : Option Nat := none
  /-- Attempts in a row ended by acknowledge errors; identifier and number of attempts in a row ended by data bit errors;
  the identifier of the collision that stands. -/
  ackRun : Nat := 0
  bitRun : Nat × Nat := (0, 0)
  collId : Option Nat := none
  /-- Ticks of the bus-offs of the last 60 s. -/
  offTicks : List Nat := []
  /-- The own termination is disconnected for a survey since this tick (R105). -/
  termOpen : Option Nat := none
  /-- The rejoin that runs ends a restart (and not an off-the-bus state), when it began; the invocations that asked for it. -/
  restarting : Bool := false
  rejoinAt : Nat := 0
  rstBy : List Nat := []
  /-- Schedule: the running column (the number of columns in the reference window that ends a row); this port sent the last reference;
  the tick at which the last one arrived, or the port joined the bus, and the bits it had lasted then; one has arrived since the port
  joined; the tick at which the last known start of one lies, with the bits passed since that start (R388 to R392). -/
  col : Nat := 0
  /-- The holder's ring entries, in a shadow (Table 14.4). -/
  mirror : List (Nat × RingEntry) := []
  isMaster : Bool := false
  refAt : Nat := 0
  refLen : Nat := 0
  refSeen : Bool := false
  tryAt : Nat := 0
  tryLen : Nat := 0
  deriving DecidableEq, Repr

/-- An entry the module writes for one of its links: it crosses a queue tongs into the link's domain, but for flits, whose links
are part of the fabric. -/
inductive Emit where
  /-- A frame whose transmission on a port has begun. -/
  | can (port : Nat) (frame : CanFrame)
  /-- A frame on pair lane 0 (A) or 1 (B): its kind and content. -/
  | lane (lane kind : Nat) (words : List Nat)
  /-- A frame on the station ports: its kind and bytes. -/
  | net (kind : Nat) (bytes : List Nat)
  /-- A flit on a link of a region: its kind and content. -/
  | flit (region link kind : Nat) (words : List Nat)
  /-- The column data of a frame (kind 1) or of an update (kind 2) of the panel: the picture they are formed from. -/
  | column (kind : Nat) (picture : Picture)
  deriving DecidableEq, Repr

/-- A function record of the SAFETY section (Table 12.8). -/
structure FnCfg where
  sf : Nat
  kind : Nat
  flags : Nat
  owner : Nat
  inA : Nat
  inB : Nat
  rst : Nat
  outCc : Nat
  outHs : Nat
  tF : Nat
  tDisc : Nat
  tClear : Nat
  tTest : Nat
  cutEven : Nat
  cutOdd : Nat
  connSrc : Nat
  srcBit : Nat
  connOut : Nat
  outBit : Nat
  deriving DecidableEq, Repr

/-- A connection record of the SAFETY section (Table 12.9). -/
structure ConnCfg where
  index : Nat
  produce : Bool
  station : Bool
  port : Nat
  connId : Nat
  address : Nat
  n : Nat
  pProd : Nat
  tExp : Nat
  tJit : Nat
  owner : Nat
  deriving DecidableEq, Repr

/-- A Safe-DI in its slice: the filtered level, samples in a row of the other level, the tick of the last recognised
change, the tick of the last sample (R343, R344). -/
structure SafeDi where
  g : Nat
  level : Bool
  count : Nat := 0
  since : Nat := 0
  sampledAt : Nat := 0
  deriving DecidableEq, Repr

/-- A slice link message (R337): input levels with the ticks of their last changes, function states, cycle count. -/
structure SliceMsg where
  ins : List (Nat × Bool × Nat)
  states : List Nat
  cycles : Nat
  stopped : Bool
  deriving DecidableEq, Repr

/-- A slice's view of one function beyond its registers. -/
structure FnSt where
  /-- Tick of entry to states 2 and 3. -/
  at2 : Nat := 0
  at3 : Nat := 0
  /-- The reset input's level and the start of the running press (R352). -/
  rstLevel : Bool := false
  rise : Option Nat := none
  /-- Since when the channels of in_a and in_b disagree; the inputs that led to state 5. -/
  discA : Option Nat := none
  discB : Option Nat := none
  in5 : List Nat := []
  /-- Two-hand control: a later second hand waits for a release (R353). -/
  blocked : Bool := false
  /-- Since when the high-side terminal has read 10.0 V or more (Table 12.4), and since when every input has been healthy (R352). -/
  high : Option Nat := none
  healthyAt : Option Nat := none
  deriving DecidableEq, Repr

/-- A connection as one slice judges it (R360, R361). -/
structure ConnSt where
  /-- 2 fault, 3 restoring, 1 ok. -/
  state : Nat := 2
  passed : Nat := 0
  seq : Nat := 0
  tick : Nat := 0
  rxAt : Nat := 0
  data : List Nat := []
  /-- Has a frame been accepted, whose number and tick the next one is judged by? -/
  heard : Bool := false
  /-- Errors since the last record of source 86: CRC, sequence, timeout, jitter. -/
  errs : List Nat := [0, 0, 0, 0]
  deriving DecidableEq, Repr

/-- A safety slice beyond its registers. -/
structure IsleSt where
  ins : List SafeDi := []
  /-- The partner's last message, whether it is new since the last cycle, cycles without one, disagreements in a row. -/
  msg : Option SliceMsg := none
  fresh : Bool := false
  miss : Nat := 0
  differ : Nat := 0
  /-- Own message on its way to the partner. -/
  out : Option SliceMsg := none
  /-- Own cycle counts at which the difference from the partner's changed, with that difference, latest first, as far back as 1,000
  cycles (R339). -/
  drift : List (Nat × Int) := []
  /-- Start of the running safety cycle; whether its outputs are set and its message is sent (R336). -/
  cycleAt : Nat := 0
  outDone : Bool := true
  msgDone : Bool := true
  fns : List FnSt := List.replicate 8 {}
  conns : List ConnSt := List.replicate 16 {}
  deriving DecidableEq, Repr

/-- What both slices of a function share: output tests (R348) and the changes of state one slice has recorded and the
other has not made yet. -/
structure SfSt where
  testAt : Nat := 0
  /-- The running test: DO-sink or not, test number 2 or 3, its start. -/
  test : Option (Bool × Nat × Nat) := none
  pulseAt : Nat := 0
  sinkDue : Bool := false
  log : List (Nat × Nat × Nat) := []
  /-- The owner's state and disc in a module that does not own the function (R368). -/
  partner : Option (Nat × Bool) := none
  deriving DecidableEq, Repr

/-- What the slices share of a connection: as producers its next number and the cycles to the next frame (R359), as consumers whether its
fault is on record and the tick of the last record of its error counts (R361). -/
structure ProdSt where
  seq : Nat := 0
  left : Nat := 0
  faulted : Bool := true
  countedAt : Option Nat := none
  deriving DecidableEq, Repr

/-- The safety island. -/
structure SafeSt where
  fns : List FnCfg := []
  conns : List ConnCfg := []
  slices : List IsleSt := List.replicate 8 {}
  sfs : List SfSt := List.replicate 32 {}
  prods : List ProdSt := List.replicate 16 {}
  deriving DecidableEq, Repr

/-- The two cold-junction sensors of a field connector (R224): readings in 1/16 °C and whether each has failed. -/
structure CjSt where
  ta : Int := 0
  tb : Int := 0
  badA : Bool := false
  badB : Bool := false
  deriving DecidableEq, Repr

/-- The block engine beyond its registers. -/
structure EngSt where
  /-- Invocation records of every region, as loaded in S4. -/
  prog : List Inv := []
  /-- Type code and online-changeable flag of each constant pool entry (R128). -/
  consts : List (Nat × Bool) := []
  /-- 0 after an output write, 3 with the work of the boundary done, 1 in execution, 2 with every invocation committed. -/
  phase : Nat := 0
  /-- Sequence numbers committed in this cycle. -/
  done : List Nat := []
  /-- Outputs of the previous cycle of the invocations committed in this one (R151). -/
  saved : List (Nat × List Nat) := []
  /-- The first cycle of a module that began from INSTINIT (R189). -/
  first : Bool := true
  /-- Tick of the latch, not wrapped; calendar stamp of the latch. -/
  latchAt : Nat := 0
  latchCal : Nat := 0
  /-- Tick of the latch and previous cycle time as the program sees them: the holder's in a shadow (Table 14.4). -/
  latchNow : Nat := 0
  prevTime : Nat := 0
  /-- Words written at the last boundary: online changes and force edits, for the mirror record. -/
  bound : List (Nat × Nat) := []
  /-- End of the last output write, and the latch stamp of its cycle (Table 15.2). -/
  boundaryAt : Nat := 0
  outCal : Nat := 0
  /-- wd_limit, min_gap and warn_limit in use. -/
  wdLimit : Nat := 100000
  minGap : Nat := 0
  warnLimit : Nat := 0
  /-- The last cycle exceeded warn_limit (R168). -/
  warned : Bool := false
  /-- The latched input images. -/
  imgs : List ChImg := List.replicate 128 ⟨4, 0, 0⟩
  stImgs : List StImg := []
  /-- Every parameter word as latched (R190, R208). -/
  latched : List (Nat × Word) := []
  /-- The program's output image: type and value by channel, and bytes by remote station. -/
  chOut : List (Nat × Nat × Nat) := []
  stOut : List (Nat × List Nat) := []
  /-- The remote output images as they stood at the latch, for the inputs that read them (R153). -/
  stOutLatched : List (Nat × List Nat) := []
  /-- Requests of this cycle by sequence number, for the output write. -/
  reqs : List (Nat × Ask) := []
  /-- Queued online changes, waiting force edits, outcomes of PARWR as now and as latched. -/
  queue : List QChange := []
  edits : List FEdit := []
  wrOuts : List WrOut := []
  wrLatched : List WrOut := []
  /-- Acts of each axis, as latched (R200). -/
  actsLatched : List (List ActSt) := []
  /-- Blocks that hold each axis stopped, as latched. -/
  stopsLatched : List (List Nat) := []
  /-- REAL32 outputs a loop reads, as of the last output write: key 256·s + output (R285). -/
  loopVars : List (Nat × Nat) := []
  /-- State and disc of each function, as latched in the holder (R190, R206). -/
  sfLatched : List (Nat × Bool) := []
  /-- Subscriptions as latched, and the values of kind 0x08 reads mirrored from the holder. -/
  subsLatched : List SubSt := []
  mirReads : List (Nat × Nat) := []
  /-- The first output write since S8 has been made (R95). -/
  wrote : Bool := false
  /-- Addresses changed since S8 (changed_words). -/
  changed : List Nat := []
  /-- Largest region commit time of the running cycle, by region. -/
  commitAt : List Nat := List.replicate 8 0
  deriving DecidableEq, Repr

/-- An expectation (Table 5.6): kind, index, quantity, outcome, when, element, E, TL, TU. -/
structure Expect where
  kind : Nat
  index : Nat
  quantity : Nat
  outcome : Nat
  when_ : Nat
  element : Nat
  e : Int
  tl : Nat
  tu : Nat
  deriving DecidableEq, Repr

/-- Conditions of the module as a whole and of its supplies and clocks. -/
structure SysSt where
  /-- Regions the lead has declared fenced (R46); regions whose field guard has acted; the cause of a module-level fault, and whether the actions of R50 have been taken. -/
  declared : Nat := 0
  fenced : Nat := 0
  faultCause : Nat := 0
  faultActed : Bool := false
  /-- Lost domain clocks of each region, bit d (R58). -/
  clkLost : List Nat := List.replicate 8 0
  /-- Tick of the loss of a clock, by 8·region + domain. -/
  clkAt : List (Nat × Nat) := []
  /-- Tongs that were reset and have not resynchronised yet, by `tongsKey` (R70). -/
  resync : List Nat := []
  gs : List GsSt := List.replicate 8 {}
  /-- The last tick at which the ORed LS was seen below 18.5 V, or the core outside its band (Table 4.1 S1). -/
  lsLowAt : Nat := 0
  /-- Cold-junction sensors of each connector. -/
  cj : List CjSt := List.replicate 8 {}
  /-- The image has a PAIR section. -/
  hasPair : Bool := false
  /-- The running image has a SAFETY section (R131). -/
  hasSafety : Bool := false
  /-- Channels and axes in a tripped cut mask, as bits (level 1 of Table 6.6). -/
  cutCh : Nat := 0
  cutAx : Nat := 0
  /-- Blocks whose self-test has passed and that return at the next cycle boundary: region, block (R35); the block whose
  self-test runs, by region, with whether it has failed meanwhile. -/
  returns : List (Nat × Nat) := []
  testing : List (Option (Nat × Bool)) := List.replicate 8 none
  /-- Holds out of service that begin or end at the next boundary: kind, index, on (R108, R109). -/
  oosNext : List (Nat × Nat × Bool) := []
  /-- The running survey, temper or return: command bit; the corrections a temper has found. -/
  svyCmd : Nat := 0
  svyOff : List Int := []
  svyGain : List Int := []
  /-- Count tongs of E0 and E1: the count last accepted, the next difference carries the flag of R67. -/
  encs : List (Nat × Bool) := [(0, false), (0, false)]
  /-- Expectations and cable constants of the SURVEY section (R132, R133). -/
  expects : List Expect := []
  cables : List (Nat × Nat × Nat) := []
  deriving DecidableEq, Repr

/-- A die-to-die link of one region (R39 to R41): the reception sequence, silence and downs. -/
structure LinkSt where
  /-- Tick of the last flit with a valid CRC; failed checks in a row of the flit that is awaited (R40). -/
  goodAt : Nat := 0
  fails : Nat := 0
  /-- A data flit has not been accepted for lack of room (R43). -/
  held : Bool := false
  /-- A replay has been asked for, and the flit that is awaited has not come (R39). -/
  again : Bool := false
  /-- Next sequence number expected and to send; the numbers and contents of the flits not yet acknowledged, oldest first. -/
  rxSeq : Nat := 0
  txSeq : Nat := 0
  unacked : List (Nat × List Nat) := []
  /-- Down since; a failed training is on record since then; ticks of the downs of the last 60 s. -/
  downAt : Nat := 0
  failRec : Bool := false
  downs : List Nat := []
  deriving DecidableEq, Repr

/-- A region of the fabric beyond its registers. -/
structure FabSt where
  links : List LinkSt := List.replicate 4 {}
  /-- Tick of the last failure of each block (R32). -/
  failAt : List (Option Nat) := List.replicate 16 none
  /-- Tick of the last beacon received, and at the lead of the last acknowledgement; a gap is on record. -/
  beaconAt : Option Nat := none
  ackAt : Option Nat := none
  gap : Bool := false
  /-- The junction temperature has been recorded at 105 °C (R51). -/
  hot : Bool := false
  /-- A junction temperature of 125 °C has been raised as a fault (R49). -/
  scorched : Bool := false
  /-- Flits sent over parallel links, which alternate (R38); the next order number to each region and the next expected from
  each; flits that came ahead of their order; flits delivered here, oldest first; flits that no path carries now (R43). -/
  alt : Nat := 0
  toSeq : List Nat := List.replicate 8 0
  fromSeq : List Nat := List.replicate 8 0
  early : List (List Nat) := []
  inbox : List (List Nat) := []
  waits : List (List Nat) := []
  deriving DecidableEq, Repr

/-- The always-on domain (R84 to R87): the latch of each comparator, with the stamp of the first assertion, their count and
whether a late record is due; the module sleeps in S0; the supercapacitor is exhausted. -/
structure AonSt where
  cmp : List (Option (Nat × Nat × Bool)) := List.replicate 4 none
  dormant : Bool := false
  exhausted : Bool := false
  /-- The back plate is above 70.0 °C (R89). -/
  bpHot : Bool := false
  deriving DecidableEq, Repr

/-- An image transfer (R141, R144): owning session, target slot, tick of the last command. -/
structure XferSt where
  owner : Option Nat := none
  at_ : Nat := 0
  /-- A verification under way: by verify (1) or select (2), and the fall-back bit of the select. -/
  verifying : Nat := 0
  fb : Bool := false
  slot : Nat := 0
  /-- A slot-select record that is being written: copy, sequence, slot, fall-back, by commit (3) or select (4). -/
  writing : Option (Nat × Nat × Nat × Bool × Nat) := none
  deriving DecidableEq, Repr

/-- The recorder's volatile part. -/
structure RecSt where
  /-- Records not yet written, oldest first. -/
  buffer : List EvRec := []
  /-- The next sequence number. -/
  nextSeq : Nat := 0
  /-- The store is mounted. -/
  mounted : Bool := false
  /-- Records refused per severity since the last report (R464). -/
  refusedBy : List Nat := [0, 0, 0, 0]
  /-- Unnumbered records lost before a mount. -/
  unnumbered : Nat := 0
  /-- Numbers of records that wait for the partner's report (R473). -/
  pairWait : List Nat := []
  /-- Tick of the last command of each window (R470). -/
  winAt : List Nat := [0, 0, 0, 0]
  /-- Records written in the running second. -/
  wrote : Nat := 0
  deriving DecidableEq, Repr

/-- The volatile part of the module: the parameter words, time and the state of each subsystem. -/
structure Chip where
  regs : List (Nat × Word) := []
  /-- Ticks since power-up, not wrapped. -/
  now : Nat := 0
  /-- The calendar in femtoseconds since 2000-01-01T00:00:00 UTC. -/
  calFs : Nat := 0
  /-- Counter the free values of Config are applied to. -/
  freeCtr : Nat := 0
  eng : EngSt := {}
  chans : List ChanSt := List.replicate 128 {}
  loops : List LoopSt := List.replicate 256 {}
  slices : List SliceSt := List.replicate 8 {}
  axes : List AxSt := List.replicate 16 {}
  safe : SafeSt := {}
  ports : List PortSt := List.replicate 8 {}
  pair : PairSt := {}
  net : NetSt := {}
  panel : PanelSt := {}
  ctrs : List CtrSt := List.replicate 8 {}
  /-- Tick of S8 entry. -/
  s8At : Nat := 0
  /-- Safety frames waiting for the bus, by port (R362). -/
  safeTx : List (Nat × CanFrame) := []
  /-- What the module has written for its links and its queue tongs have not carried over yet (R65), in order; what they have
  carried over. -/
  emitted : List Emit := []
  crossed : List Emit := []
  recd : RecSt := {}
  sys : SysSt := {}
  fab : List FabSt := List.replicate 8 {}
  xfer : XferSt := {}
  aon : AonSt := {}
  deriving DecidableEq, Repr

/-- The retained record of an axis (R328): p, reference state, moving at capture. -/
structure AxKeep where
  p : Int := 0
  ref : Nat := 0
  moving : Bool := false
  deriving DecidableEq, Repr

/-- The retained store (R80): what the hold-up sequence wrote, and whether it can be read, the axis positions with it; `lastSeq`
is the number after the last one written. -/
structure Retained where
  ok : Bool := true
  axesOk : Bool := true
  axes : List AxKeep := List.replicate 16 {}
  dirty : Bool := false
  lastSeq : Nat := 0
  lost : Nat := 0
  unnumbered : Nat := 0
  failStamp : Nat := 0
  starts : Nat := 0
  /-- Targets that were out of service at the last reset, kind and index (R109). -/
  oos : List (Nat × Nat) := []
  deriving DecidableEq, Repr

/-- A role key: empty, the one on the module label (R455), or one that was set. -/
inductive RoleKey where
  | empty
  | label
  | set (bytes : List Nat)
  deriving DecidableEq, Repr

/-- Non-volatile memory: the NOR, the recorder's store, the retained store and the one-time-programmable memory. -/
structure Flash where
  /-- NOR bytes; unlisted bytes are erased. -/
  nor : List (Nat × Byte) := []
  /-- The slot a transfer has begun to write and no commit has completed (R142). -/
  target : Option Nat := none
  /-- Records written, oldest first. -/
  store : List EvRec := []
  /-- Logical stripes held and the physical stripe of each, oldest first; physical stripes erased ahead; the one being
  erased; ranges of lost numbers. -/
  map : List (Nat × Nat) := []
  erased : List Nat := [0, 1]
  erasing : Option Nat := none
  lost : List (Nat × Nat) := []
  /-- The number after the last one written or marked lost; the first number of the oldest stripe held; spare blocks used;
  stripe erases; the band table as it stands over a restart: trip number, stripes, state, by entry. -/
  next : Nat := 0
  tail : Nat := 0
  spareUsed : Nat := 0
  erases : Nat := 0
  bands : List (Nat × Nat × Nat) := []
  retained : Retained := {}
  /-- Key slots: state (0 empty, 1 active, 2 revoked) and key bytes (R135). -/
  keys : List (Nat × List Nat) := List.replicate 4 (0, [])
  /-- Role keys (R455): observe and operate empty at delivery; the address of the image last accepted (R439). -/
  roleKeys : List RoleKey := [.empty, .empty, .label, .label]
  address : Option (Nat × Nat × Nat × Nat) := none
  /-- The require-signature fuse (R135). -/
  fuse : Bool := false
  deriving DecidableEq, Repr

/-- The state of the module and the commands that wait, first in, first out. -/
structure State where
  pending : List Instr
  flash : Flash
  chip : Chip
  deriving DecidableEq, Repr

/-- The module right after reset. -/
def State.reset : State := { pending := [], flash := {}, chip := {} }

/-- The outcomes of a command. -/
abbrev Out := Host.Outcome State Fault Refusal

end Sys2Proof.Machine
end

