-- ==== Sys2Proof/Machine/Ops.lean ====
section
/-! DEFINITION. The named operations over the state: reading and writing fields of parameter words, time, free values,
and the record operation every event goes through (R461 to R467). -/

namespace Sys2Proof.Machine

/-- Apply a change of the volatile part. -/
def State.onChip (s : State) (f : Chip → Chip) : State := { s with chip := f s.chip }

/-- A next state in which only the volatile part has changed. -/
def chipOnly (s : State) (f : Chip → Chip) : Out := .next (s.onChip f)

/-! ### Words and fields -/

/-- The parameter word at an address. -/
def Chip.word (c : Chip) (a : Nat) : Word := Sparse.get resetWord c.regs a

/-- Write the parameter word at an address. -/
def Chip.setWord (c : Chip) (a : Nat) (v : Word) : Chip := { c with regs := Sparse.set resetWord c.regs a v }

/-- Write a number as a word. -/
def Chip.setNat (c : Chip) (a v : Nat) : Chip := c.setWord a (BitVec.ofNat 32 v)

/-- The number in the word at an address. -/
def Chip.nat (c : Chip) (a : Nat) : Nat := (c.word a).toNat

/-- Address of group i of a field of the block at `b`. -/
def Field.at (f : Field) (b i : Nat) : Nat := b + f.first + i * f.stride

/-- The value of group i of a field. -/
def Chip.getI (c : Chip) (b : Nat) (f : Field) (i : Nat) : Nat := f.of (c.word (f.at b i))

/-- Write group i of a field; the other bits of its word stay. -/
def Chip.putI (c : Chip) (b : Nat) (f : Field) (i v : Nat) : Chip :=
  c.setWord (f.at b i) (splice (c.word (f.at b i)) f.hi f.lo v)

/-- The value of a field. -/
def Chip.get (c : Chip) (b : Nat) (f : Field) : Nat := c.getI b f 0

/-- Write a field. -/
def Chip.put (c : Chip) (b : Nat) (f : Field) (v : Nat) : Chip := c.putI b f 0 v

/-- Is a field non-zero? -/
def Chip.flag (c : Chip) (b : Nat) (f : Field) : Bool := c.get b f != 0

/-- The largest value of a field. -/
def Field.top (f : Field) : Nat := 2 ^ (f.hi + 1 - f.lo) - 1

/-- Add to group i of a count, which saturates at its all-ones value. -/
def Chip.bumpByI (c : Chip) (b : Nat) (f : Field) (i k : Nat) : Chip := c.putI b f i (min (c.getI b f i + k) f.top)

/-- Count one, saturating. -/
def Chip.bump (c : Chip) (b : Nat) (f : Field) : Chip := c.bumpByI b f 0 1

/-- A field read as two's complement. -/
def Chip.getS (c : Chip) (b : Nat) (f : Field) : Int := signed (f.hi + 1 - f.lo) (c.get b f)

/-- A field written in two's complement, saturating. -/
def Chip.putS (c : Chip) (b : Nat) (f : Field) (v : Int) : Chip :=
  let w := f.hi + 1 - f.lo
  c.put b f (unsigned w (clampI (-(2 ^ (w - 1))) (2 ^ (w - 1) - 1) v))

/-- One bit of a field. -/
def Chip.getBit (c : Chip) (b : Nat) (f : Field) (i : Nat) : Bool := (c.get b f).testBit i

/-- Write one bit of a field. -/
def Chip.putBit (c : Chip) (b : Nat) (f : Field) (i : Nat) (v : Bool) : Chip := c.put b f (withBit (c.get b f) i v)

/-- Apply a change to each of a list of things in turn. -/
def Chip.each {α : Type} (c : Chip) (l : List α) (f : Chip → α → Chip) : Chip := l.foldl f c

/-- A change under a condition. -/
def Chip.when (c : Chip) (b : Bool) (f : Chip → Chip) : Chip := if b then f c else c

/-- A free value: one the spec leaves open (log entry 3). -/
def Chip.free (c : Chip) : Nat := (Config.freeWord c.freeCtr).toNat

/-- The next free value will be another. -/
def Chip.fresh (c : Chip) : Chip := { c with freeCtr := c.freeCtr + 1 }

/-! ### Regions, phases, roles of the module -/

/-- Is region r fitted (R6, R531)? -/
def Chip.fitted (c : Chip) (r : Nat) : Bool := c.getBit identAt Ident.fitted r

/-- The fitted regions. -/
def Chip.regions (c : Chip) : List Nat := (List.range 8).filter c.fitted

/-- Is region r fenced? -/
def Chip.regionFenced (c : Chip) (r : Nat) : Bool := c.sys.fenced.testBit r

/-- Is region r closed to the lead: its field guard has fenced it, or the lead has declared it fenced (R46, R48)? -/
def Chip.regionClosed (c : Chip) (r : Nat) : Bool := c.regionFenced r || c.sys.declared.testBit r

/-- Do writes to the space of region r have an effect: it is fitted and not fenced (R8, R48)? -/
def Chip.opens (c : Chip) (r : Nat) : Bool := c.fitted r && !c.regionClosed r

/-- The start phase. -/
def Chip.phase (c : Chip) : Nat := c.get surveyAt Survey.phase

/-- The tick stamp of now (R19). -/
def Chip.tick (c : Chip) : Nat := c.now % 2 ^ 32

/-- Femtoseconds as a calendar stamp (R21). -/
def stampOf (fs : Nat) : Nat := fs * 2 ^ 24 / 10 ^ 15

/-- A calendar stamp as femtoseconds, rounded up, so that reading it back gives the stamp. -/
def fsOf (stamp : Nat) : Nat := (stamp * 10 ^ 15 + 2 ^ 24 - 1) / 2 ^ 24

/-- The calendar stamp the module gives: zero while the calendar is not valid (R84). -/
def Chip.stamp (c : Chip) : Nat := if c.flag supplyAt Supply.cal_valid then stampOf c.calFs % 2 ^ 64 else 0

/-- Does a lease state of Table 14.3 permit the lease-bound acts? -/
def holds (leaseState : Nat) : Bool := leaseState == 0 || leaseState == 2 || leaseState == 5

/-- Is a lease state one of a shadow? -/
def shadows (leaseState : Nat) : Bool := leaseState == 3 || leaseState == 4 || leaseState == 6

/-- May this module act for the pair? -/
def Chip.holder (c : Chip) : Bool := holds (c.get pairAt Pair.lease_state)

/-- Is this module a shadow? -/
def Chip.shadow (c : Chip) : Bool := shadows (c.get pairAt Pair.lease_state)

/-! ### Channels -/

/-- Channel g beyond its registers. -/
def Chip.chan (c : Chip) (g : Nat) : ChanSt := nth {} c.chans g

/-- Change channel g beyond its registers. -/
def Chip.setChan (c : Chip) (g : Nat) (f : ChanSt → ChanSt) : Chip := { c with chans := upd c.chans g f }

/-! ### Records -/

/-- A payload: its first bytes, then words from byte 4 on, zero elsewhere (R534). -/
def payload (bs ws : List Nat) : List Nat := bytesAt (bytesAt bs 0 4 ++ ws.flatMap (leBytes 4)) 0 32

/-- The stripe a number lies in (R460). -/
def stripeOf (n : Nat) : Nat := n / 16384

/-- The band in entry b: trip number, stripes, state. -/
def Chip.bandTrip (c : Chip) (b : Nat) : Nat := c.getI bandAt Band.trip_lo b + 2 ^ 32 * c.getI bandAt Band.trip_hi b

/-- Stripes a band protects, as logical stripes; empty for a free entry. -/
def Chip.bandStripes (c : Chip) (b : Nat) : List Nat :=
  if c.getI bandAt Band.b_state b = 0 then []
  else
    let hi := stripeOf (c.bandTrip b + 65536)
    let n := c.getI bandAt Band.b_stripes b
    (List.range n).map (fun k => hi + 1 - n + k)

/-- Every protected stripe once (R466). -/
def Chip.protectedStripes (c : Chip) : List Nat := ((List.range 64).flatMap c.bandStripes).dedup

/-- The recorder's counts that follow from its lists. -/
def Chip.recSync (c : Chip) : Chip :=
  let held := ((List.range 64).filter (fun b => c.getI bandAt Band.b_state b != 0)).length
  (((c.put recdAt Recd.buffered c.recd.buffer.length).put recdAt Recd.bands held).put recdAt Recd.prot_stripes
    c.protectedStripes.length)

/-- A count pair, low word first. -/
def Chip.put64 (c : Chip) (b : Nat) (f : Field) (v : Nat) : Chip := (c.putI b f 0 (v % 2 ^ 32)).putI b f 1 (v / 2 ^ 32)

/-- A 64-bit value held low word first. -/
def Chip.get64 (c : Chip) (b : Nat) (f : Field) : Nat := c.getI b f 0 + 2 ^ 32 * c.getI b f 1

/-- Does the recorder take a record of this source and severity now? src_mask selects sources; severity 3 is always
recorded (R464); reserved sources are never recorded (R535). -/
def Chip.selects (c : Chip) (source severity : Nat) : Bool :=
  !([47, 62, 63, 78].contains source) &&
    (severity == 3 || (c.getI recdAt Recd.src_mask (source / 32)).testBit (source % 32))

/-- Is there a place in the buffer for this severity (R464)? -/
def Chip.hasPlace (c : Chip) (severity : Nat) : Bool :=
  if severity = 3 then c.recd.buffer.length < 65536 else c.recd.buffer.length < 65536 - 1024

/-- The region a record is made in: the lead makes the records of fences and module-level faults (R46, R50) and those that name
no region, but for the recorder's own, which region 1 makes (R542). -/
def recordMaker (source region : Nat) : Nat :=
  if [22, 23, 27].contains source then 0
  else if region < 8 then region
  else if 88 ≤ source && source ≤ 89 then 1 else 0

/-- Enter a record into the buffer, numbered while the store is mounted, or refuse and count it (R462 to R464, R469);
with no path to region 1 it is lost (R542). The class bits are leap, calendar invalid and late (Table 16.1). -/
def Chip.enter (c : Chip) (source region severity subject : Nat) (pl : List Nat) (late : Bool) : Chip :=
  if !c.selects source severity then c
  else if c.sys.fenced.testBit 1 || (recordMaker source region != 1 &&
      c.getBit (regionAt (recordMaker source region)) Region.unreached 1) then c
  else if c.get recdAt Recd.state = 2 then c.bump recdAt Recd.refused
  else if !c.hasPlace severity then
    { (c.bump recdAt Recd.refused) with
      recd := { c.recd with refusedBy := upd c.recd.refusedBy severity (· + 1) } }
  else
    let valid := c.flag supplyAt Supply.cal_valid
    let numbered := c.recd.mounted
    let cls := b2n (c.flag calAt Cal.leap_now) + 2 * b2n (!valid) + 4 * b2n late
    let e : EvRec :=
      { seq := if numbered then some c.recd.nextSeq else none, stamp := c.stamp, tick := c.tick, source := source,
        region := region, cls := cls, severity := severity, subject := subject % 2 ^ 32, payload := pl }
    let waits := numbered && 72 ≤ source && source ≤ 79 && [2, 5].contains (c.get pairAt Pair.lease_state)
    let c1 := { c with recd := { c.recd with
      buffer := c.recd.buffer ++ [e]
      nextSeq := if numbered then c.recd.nextSeq + 1 else c.recd.nextSeq
      pairWait := if waits then c.recd.pairWait ++ [c.recd.nextSeq] else c.recd.pairWait } }
    (if numbered then c1.put64 recdAt Recd.head c.recd.nextSeq else c1).recSync

/-- Open the band of a trip with number t, or refuse it (R466, R467). -/
def Chip.openBand (c : Chip) (t : Nat) : Chip :=
  let lo := max (t - 65536) (c.get64 recdAt Recd.tail)
  let n := stripeOf (t + 65536) + 1 - stripeOf lo
  let new := (List.range n).map (fun k => stripeOf lo + k)
  let total := (c.protectedStripes ++ new).dedup.length
  let spare := c.get recdAt Recd.spare_left
  match (List.range 64).find? (fun b => c.getI bandAt Band.b_state b == 0) with
  | some b =>
    if total ≤ 2048 then
      let c1 := ((((c.putI bandAt Band.trip_lo b (t % 2 ^ 32)).putI bandAt Band.trip_hi b (t / 2 ^ 32)).putI bandAt
        Band.b_stripes b n).putI bandAt Band.b_state b 1)
      c1.recSync.enter 89 0xFF 0 b (payload [1] [t % 2 ^ 32, t / 2 ^ 32, spare]) false
    else (c.put recdAt Recd.band_refused 1).enter 89 0xFF 1 0xFF (payload [4] [t % 2 ^ 32, t / 2 ^ 32, spare]) false
  | none => (c.put recdAt Recd.band_refused 1).enter 89 0xFF 1 0xFF (payload [4] [t % 2 ^ 32, t / 2 ^ 32, spare]) false

/-- Record an event: the one operation every chapter calls. -/
def Chip.recordAs (c : Chip) (source region severity subject : Nat) (pl : List Nat) (late : Bool) : Chip :=
  let c1 := c.enter source region severity subject pl late
  if severity = 3 && c1.recd.mounted && c1.recd.nextSeq != c.recd.nextSeq then c1.openBand c.recd.nextSeq else c1

/-- Record an event at once. -/
def Chip.record (c : Chip) (source region severity subject : Nat) (bs ws : List Nat) : Chip :=
  c.recordAs source region severity subject (payload bs ws) false

end Sys2Proof.Machine
end

