-- ==== Sys2Proof/Machine/ChannelOps.lean ====
section
/-! DEFINITION. Operations on universal channels that several chapters share: modes, flags, the live status of the
image (R18, R228, R245), the safe value of level 2 (R229, R272), the output precedence of Table 6.6, and driving a
terminal beneath it. -/

namespace Sys2Proof.Machine

/-- A REAL32 constant num/den. -/
def rat (num : Int) (den : Nat) : Nat := rOfRat num den

/-- Thousandths of a REAL32 as an integer, saturated to 32 bits: mA as µA, V as mV. -/
def milli (x : Nat) : Int :=
  if rNaN x then 0
  else if rInf x then (if rNeg x then tyMin 2 else tyMax 2)
  else clampI (tyMin 2) (tyMax 2) (rToIntEven (rMul x (rOfInt 1000)))

/-- Mode in effect. -/
def Chip.mode (c : Chip) (g : Nat) : Nat := c.get (chanAt g) Chan.mode_now

/-- Does the mode drive its terminal? -/
def outMode (m : Nat) : Bool := m == 5 || m == 6 || m == 9 || m == 10

/-- DO or DO-sink. -/
def doMode (m : Nat) : Bool := m == 9 || m == 10

/-- An analogue input. -/
def aiMode (m : Nat) : Bool := 1 ≤ m && m ≤ 4

/-- Native type of the image in a mode (R210, R245). -/
def nativeTy (m : Nat) : Nat :=
  if m == 7 || m == 8 || m == 9 || m == 10 || m == 12 then tyBool else if m == 11 then tyUint32 else tyReal

/-- A native value as REAL32 (R198). -/
def asReal (ty v : Nat) : Nat := if ty == tyReal then v else rOfInt v

/-! ### Flags -/

/-- Set a sticky flag of word 0x000F and its live bit. -/
def Chip.aOn (c : Chip) (g n : Nat) : Chip :=
  let a := chanAt g + 0x000F
  (c.setWord a (BitVec.ofNat 32 (withBit (c.nat a) n true))).putBit (chanAt g) Chan.flags_now n true

/-- Clear a live bit of word 0x0010; the sticky flag stays. -/
def Chip.aOff (c : Chip) (g n : Nat) : Chip := c.putBit (chanAt g) Chan.flags_now n false

/-- The live bit of word 0x0010. -/
def Chip.aNow (c : Chip) (g n : Nat) : Bool := c.getBit (chanAt g) Chan.flags_now n

/-- Set a sticky flag of word 0x001F and its live bit. -/
def Chip.dOn (c : Chip) (g n : Nat) : Chip :=
  let a := chanAt g + 0x001F
  (c.setWord a (BitVec.ofNat 32 (withBit (c.nat a) n true))).putBit (chanAt g) Dig.dflags_now n true

/-- Clear a live bit of word 0x001F; the sticky flag stays. -/
def Chip.dOff (c : Chip) (g n : Nat) : Chip := c.putBit (chanAt g) Dig.dflags_now n false

/-- The live bit of word 0x001F. -/
def Chip.dNow (c : Chip) (g n : Nat) : Bool := c.getBit (chanAt g) Dig.dflags_now n

/-! Bit numbers of the flags (Tables 8.11 and 9.7). -/

def fNe43Low : Nat := 0
def fNe43High : Nat := 1
def fComp : Nat := 2
def fTherm : Nat := 3
def fCompReduced : Nat := 4
def fOpenLoop : Nat := 5
def fSplitRaise : Nat := 6
def fExtSrc : Nat := 7
def fOpenSensor : Nat := 8
def fCjFault : Nat := 9
def fSpanMm : Nat := 10
def fCjDegraded : Nat := 11
def dBackFed : Nat := 0
def dCrossFed : Nat := 1
def dOpenLoad : Nat := 2
def dOverload : Nat := 3
def dTherm : Nat := 4
def dLatched : Nat := 5
def dStuckOn : Nat := 6
def dShareLow : Nat := 7
def dMonShort : Nat := 8
def dMonBreak : Nat := 9
def dCntOver : Nat := 10

/-! ### Causes beneath the sample -/

/-- Does the engine run its cycles (R415): state 1, and a lease state in which it latches? -/
def Chip.engineRuns (c : Chip) : Bool :=
  c.get engineAt Engine.state == 1 && !([1, 3, 7, 8].contains (c.get pairAt Pair.lease_state))

/-- Does the image name region r (R10)? -/
def Chip.named (c : Chip) (r : Nat) : Bool := c.getBit imageAt Image.region_mask r

/-- Is block i of region r fenced (Table 1.6)? -/
def Chip.blockFenced (c : Chip) (r i : Nat) : Bool := c.getBit (regionAt r) Region.fenced i

/-- Is the channel's group, or its region, fenced (Table 1.2)? -/
def Chip.groupFenced (c : Chip) (g : Nat) : Bool := c.regionFenced (g / 16) || c.blockFenced (g / 16) (4 + g % 16 / 4)

/-- Has domain d of region r lost its clock (R58)? -/
def Chip.clkLost (c : Chip) (r d : Nat) : Bool := (nth 0 c.sys.clkLost r).testBit d

/-- Does region r use domain d (R74)? -/
def Chip.usesDomain (c : Chip) (r d : Nat) : Bool :=
  c.fitted r && (d != 1 || r == 0) && (d != 3 || decide (r ≤ 1)) && (d != 6 || r == 0)

/-- Does a write into a queue tongs of domain d of region r end with "domain down" (R69)? -/
def Chip.tongsDown (c : Chip) (r d : Nat) : Bool := c.usesDomain r d && c.clkLost r d

/-- A write into a queue tongs of a domain whose clock is lost is refused; from S8 on it counts (R69, R74). -/
def Chip.tongsRefuse (c : Chip) (r d : Nat) : Chip :=
  if c.tongsDown r d && c.phase == 8 then c.bumpByI (regionAt r) Cross.refused d 1 else c

/-- The tongs that unit u of region r holds in domain d; u is the index of its block (Table 1.2), 1 for the safety slice. -/
def tongsKey (r d u : Nat) : Nat := 128 * r + 16 * d + u

/-- The tongs of channel g in domain d: those of its channel group. -/
def chanTongs (g d : Nat) : Nat := tongsKey (g / 16) d (4 + g % 16 / 4)

/-- Put a frame or message on a link. -/
def Chip.emit (c : Chip) (e : Emit) : Chip := { c with emitted := c.emitted ++ [e] }

/-- The queue tongs an entry crosses: a flit crosses none, a station frame that of its port (Table 2.3). -/
def Emit.tongs : Emit → List Nat
  | .can p _ => [tongsKey p 2 9]
  | .lane l _ _ => [tongsKey l 3 15]
  | .net _ (p :: _) => [tongsKey p 3 14]
  | .net _ [] => []
  | .flit _ _ _ _ => []
  | .column _ _ => [tongsKey 0 6 13]

/-- Have tongs been reset and not resynchronised yet (R70)? -/
def Chip.tongsWait (c : Chip) (k : Nat) : Bool := c.sys.resync.contains k

/-- May an entry cross now: the clock of its domain runs, and the tongs stand (R68, R70)? -/
def Chip.mayCross (c : Chip) (e : Emit) : Bool :=
  e.tongs.isEmpty || e.tongs.any (fun k => !c.clkLost (k / 128) (k / 16 % 8) && !c.tongsWait k)

/-- What waits at the queue tongs crosses where the domain's clock is present and the tongs stand (R65, R68). -/
def Chip.crossNow (c : Chip) : Chip :=
  if c.emitted.isEmpty then c
  else { c with crossed := c.crossed ++ c.emitted.filter c.mayCross, emitted := c.emitted.filter (fun e => !c.mayCross e) }

/-- The entries a queue tongs holds: at most 64, behind which its writers are held back with what they write (Table 2.3, R65). -/
def Chip.queued (c : Chip) (k : Nat) : List Emit := (c.emitted.filter (fun e => e.tongs == [k])).take 64

/-- Entries in order without the first n of queue tongs k. -/
def dropQueued (k : Nat) : Nat → List Emit → List Emit
  | _, [] => []
  | 0, es => es
  | n + 1, e :: es => if e.tongs == [k] then dropQueued k n es else e :: dropQueued k (n + 1) es

/-- Do the switches act through the field guard's own gate path, with every judgement stopped (R273): the group fenced, or
the AFE clock lost (Table 2.2)? -/
def Chip.guarded (c : Chip) (g : Nat) : Bool := c.groupFenced g || c.clkLost (g / 16) 4

/-- The steps of a region's GS. -/
def Chip.gs (c : Chip) (r : Nat) : GsSt := nth {} c.sys.gs r

/-- A cause of Table 1.2, R59, R76 or R108 makes the channel's image unusable; the loss of the AFE clock does not touch
Safe-DI inputs (Table 2.2). -/
def Chip.chanDead (c : Chip) (g : Nat) : Bool :=
  c.groupFenced g || (c.gs (g / 16)).absent || (c.clkLost (g / 16) 4 && c.mode g != 12) || (c.chan g).oos

/-- Does a condition of R261 hold on a DO, or has its PWM stopped with the DRV clock (R59, R260)? -/
def Chip.doFault (c : Chip) (g : Nat) : Bool :=
  [dBackFed, dOverload, dTherm, dLatched, dOpenLoad, dStuckOn, dShareLow].any (c.dNow g)
    || (c.clkLost (g / 16) 5 && c.get (chanAt g) Dig.pwm_period != 0)

/-- The STATUS16 of a channel's image as it stands: stale from step 1 to step 3 of a mode change (Table 8.2), with fault where a cause
beneath the sample makes the image unusable (R228, R245). -/
def Chip.liveStatus (c : Chip) (g : Nat) : Nat :=
  let m := c.mode g
  let h := c.chan g
  let dead := c.chanDead g
  let lacks := h.short || h.lack || h.base.testBit stCompliance
  if h.seq == 1 || h.seq == 2 then stOf false true false false false false false dead
  else if m == 0 || m == 13 then 0
  else if dead && (m == 5 || m == 6) then stOf true false false false h.clampLo h.clampHi lacks true
  else if dead && doMode m then stOf true false false false h.clampLo h.clampHi false true
  else if dead then stNorm (withBit h.base stFault true)
  else if h.tempering then stOf true false false true false false false false
  else if h.surveyed then stOf true true false false false false false false
  else if m == 5 || m == 6 then
    stOf true false false false h.clampLo h.clampHi lacks (c.aNow g fTherm || h.extOff)
  else if doMode m then stOf true false false false h.clampLo h.clampHi false (c.doFault g)
  else if m == 7 then stOf true false false false false false false false
  else if m == 8 && (c.gs (g / 16)).off then stOf false true false false false false false h.mfault
  else if m == 8 then stOf true false false false false false false h.mfault
  else if m == 11 then stOf true false false false false h.overRate false (c.clkLost (g / 16) 5)
  else if aiMode m then stNorm (if h.sensorBad || h.cjBad then withBit h.base stFault true else h.base)
  else stNorm h.base

/-- Write the live status; a rise of fault counts (Table 8.11). -/
def Chip.putStatus (c : Chip) (g : Nat) : Chip :=
  let st := c.liveStatus g
  let old := c.get (chanAt g) Chan.status
  let c1 := c.put (chanAt g) Chan.status st
  if st.testBit stFault && !old.testBit stFault && c.phase = 8 then c1.bump (chanAt g) Chan.fault_count else c1

/-- Take a new image value, in the mode's native type, and write value and status. -/
def Chip.setImage (c : Chip) (g v : Nat) : Chip :=
  let ty := nativeTy (c.mode g)
  ((c.setChan g (fun h => { h with img := v, imgTy := ty })).put (chanAt g) Chan.value (asReal ty v)).putStatus g

/-! ### Conditions judged over a time -/

/-- A condition is seen: where it does not hold, its time begins anew. -/
def Chip.see (c : Chip) (g : Nat) (k : Cond) (holds : Bool) : Chip :=
  if holds then c
  else c.setChan g (fun h => { h with notAt := (k, c.now) :: h.notAt.filter (fun e => e.1 != k) })

/-- Has a condition stood for so many ticks, as far as it has been seen? -/
def Chip.stood (c : Chip) (g : Nat) (k : Cond) (ticks : Nat) : Bool :=
  match (c.chan g).notAt.find? (fun e => e.1 == k) with
  | some (_, t) => decide (t + ticks ≤ c.now)
  | none => true

/-! ### Sampling windows (R249) -/

/-- Sampling period T of a pulse code in ticks (Table 9.7). -/
def samplePeriod (code : Nat) : Nat := nth 250 [125, 250, 500, 1000, 2000] code

/-- Windows of channel cc that have ended by a time in sixteenths of a tick, on the grid of period T: each begins cc·T/16 after a multiple
of T and lasts 20 µs. The AFE clock is taken to run at its nominal frequency from tick 0 on (DESIGN CHOICE, log entry 18). -/
def windowsBy (cc t x : Nat) : Nat := (x + 16 * t - (320 + cc * t)) / (16 * t)

/-- Windows of channel cc that have ended by now. -/
def windowsEnded (cc t now : Nat) : Nat := windowsBy cc t (16 * now)

/-- Is a window of channel cc open now? -/
def windowOpen (cc t now : Nat) : Bool := decide ((16 * now + 16 * t - cc * t) % (16 * t) < 320)

/-- Does the channel sink its sensor's current now: a DI in its window or, with di_cont, always; a counting channel always (R248, R249,
R255)? -/
def Chip.inputSinks (c : Chip) (g : Nat) : Bool :=
  let t := samplePeriod (c.get (chanAt g) Dig.pulse)
  c.mode g == 11 || c.mode g == 12 || (c.mode g == 7 && (c.flag (chanAt g) Dig.di_cont || windowOpen (g % 16) t c.now))

/-! ### Switches -/

/-- On-time of a duty in a PWM period, in units of 25 ns (R260). -/
def onUnits (duty len : Nat) : Nat := ((rVal duty * (40 * len : Nat) + 2 ^ 148).fdiv (2 ^ 149)).toNat

/-- Is the switch on now: closed, and under PWM in the on-phase of the running period (R260)? -/
def Chip.switchOn (c : Chip) (g : Nat) : Bool :=
  let h := c.chan g
  h.closed && (!h.pwmOn || decide (40 * (c.now - h.pwmAt) < onUnits h.duty h.pwmLen))

/-- Ticks since `a` for which the closed switch has been on. -/
def Chip.onTime (c : Chip) (g a : Nat) : Nat :=
  let h := c.chan g
  if !h.closed then 0
  else if h.pwmOn then min c.now (h.pwmAt + onUnits h.duty h.pwmLen / 40) - max a h.pwmAt
  else c.now - a

/-- Overload time up to now (R262). -/
def Chip.overTime (c : Chip) (g : Nat) : Nat := (c.chan g).overRun + c.onTime g (c.chan g).overFrom

/-- Does a switch's terminal read on (R245, Table 9.1)? The terminal voltage measured last stands until the next measurement (DESIGN
CHOICE, log entry 124). -/
def Chip.switchReads (c : Chip) (g : Nat) : Bool :=
  let mv := c.getS (chanAt g) Chan.term_mv
  if c.mode g = 9 then decide (10000 ≤ mv) else decide (mv ≤ 3000)

/-- The image a channel gives at a latch: a switch its readback, CNT and the rest what was delivered last; within a mode change the
previous value in the type it had (Table 8.2). -/
def Chip.ownImage (c : Chip) (g : Nat) : ChImg :=
  let m := c.mode g
  let h := c.chan g
  let st := c.get (chanAt g) Chan.status
  if h.seq == 1 || h.seq == 2 then ⟨h.imgTy, h.img, st⟩
  else if doMode m then ⟨tyBool, b2n (c.switchReads g), st⟩
  else ⟨nativeTy m, h.img, st⟩

/-! ### Commands -/

/-- Upper end of an analogue output's range: 10.0 V or 20.0 mA (R210). -/
def aoTop (m : Nat) : Nat := if m == 5 then rOfInt 10 else rOfInt 20

/-- The accepted interval of an output mode (R226, R227, R247). -/
def outLo (m range : Nat) : Nat := if m == 5 && range == 1 then rat (-21) 2 else 0
/-- Upper end of the accepted interval. -/
def outHi (m : Nat) : Nat := if m == 5 then rat 21 2 else if m == 6 then rOfInt 24 else rOfInt 1

/-- A program or forced value of a type as a command of the channel's mode: volts, milliamperes, or a duty fraction
(R210, R247). -/
def cmdOf (m ty v : Nat) : Nat :=
  if ty == tyReal then v
  else if doMode m then (if v == 0 then 0 else rOfInt 1)
  else if ty == tyBool then (if v == 0 then 0 else aoTop m)
  else rOfInt v

/-- The safe command of a channel at level 2 (R229, R272). -/
def Chip.safeCmd (c : Chip) (g : Nat) : Nat :=
  let m := c.mode g
  let b := chanAt g
  let kind := c.get b Chan.safe_kind
  let v := c.get b Chan.safe_value
  if kind == 1 then ((c.chan g).held).getD (c.get b Chan.command)
  else if kind == 2 then
    (if m == 6 && c.get b Chan.ne43 == 1 then rat 18 5 else if m == 6 && c.get b Chan.ne43 == 2 then rat 43 2
     else (Config.noAlarm g).toNat)
  else if kind == 3 then 0
  else if doMode m && c.get b Dig.pwm_period == 0 then (if rLe (rat 1 2) v then rOfInt 1 else 0)
  else v

/-- A force entry: its kind. -/
def Chip.forceKind (c : Chip) (i : Nat) : Nat := c.getI forceAt FEntry.ekind i

/-- The entry that forces a target, if one does. -/
def Chip.forceOf (c : Chip) (kind region sub index : Nat) : Option Nat :=
  (List.range 256).find? (fun i =>
    c.forceKind i == kind && c.getI forceAt FEntry.eregion i == region && c.getI forceAt FEntry.esub i == sub
      && c.getI forceAt FEntry.eindex i == index)

/-- The value of a force entry. -/
def Chip.forceValue (c : Chip) (i : Nat) : Nat :=
  c.getI forceAt FEntry.value_lo i + 2 ^ 32 * c.getI forceAt FEntry.value_hi i

/-! ### Routing in a pair (R406 to R408) -/

/-- The routing code of channel g (Table 14.1), as route_img gives it; without a PAIR section nothing is routed away. -/
def Chip.routeOf (c : Chip) (g : Nat) : Nat :=
  if c.sys.hasPair then (c.nat (pairAt + 0x10 + g / 16)) / 4 ^ (g % 16) % 4 else 0

/-- Is channel g shared with the partner? -/
def Chip.shared (c : Chip) (g : Nat) : Bool := c.routeOf g == 3

/-- Does channel g have a field connection in this module? -/
def Chip.connected (c : Chip) (g : Nat) : Bool :=
  !c.sys.hasPair || c.routeOf g == 3 || (c.routeOf g != 0 && c.routeOf g == c.get pairAt Pair.position)

/-- Does the partner own channel g? -/
def Chip.partnerOwned (c : Chip) (g : Nat) : Bool :=
  c.sys.hasPair && (c.routeOf g == 1 || c.routeOf g == 2) && c.routeOf g != c.get pairAt Pair.position

/-- R424: beside a present partner the level 2 value of a shared output is off. -/
def Chip.sharedOff (c : Chip) (g : Nat) : Bool :=
  c.shared g && c.flag pairAt Pair.partner && !([5, 6].contains (c.get pairAt Pair.lease_state))

/-- Does a loop of a fenced slice own the channel (Table 1.2, R163)? -/
def Chip.sliceGuards (c : Chip) (g : Nat) : Bool :=
  (List.range 8).any (fun r => c.fitted r && c.blockFenced r 8 && (List.range 32).any (fun k =>
    c.flag (loopAt (32 * r + k)) Loop.enabled && c.get (loopAt (32 * r + k)) Loop.out_dst == 2 ^ 28 + g))

/-- Does level 2 apply to the channel: region fence, group fence, a fence of the slice that owns it, watchdog stop or
module-level fault? -/
def Chip.level2 (c : Chip) (g : Nat) : Bool :=
  let e := c.get engineAt Engine.state
  c.groupFenced g || e == 2 || e == 3 || c.sliceGuards g

/-- Does the field guard drive an analogue output because the AFE clock is lost (R540)? -/
def Chip.afeGuard (c : Chip) (g : Nat) : Bool := (c.mode g == 5 || c.mode g == 6) && c.clkLost (g / 16) 4

/-- The value of a program output in the output image. -/
def lookup3 (l : List (Nat × Nat × Nat)) (k : Nat) : Option (Nat × Nat) :=
  match l with
  | [] => none
  | (j, v) :: t => if j = k then some v else lookup3 t k

/-- The level of Table 6.6 that governs a non-safety output and the command it gives, before clamping (R162, R163,
R424, R540). -/
def Chip.governing (c : Chip) (g : Nat) : Nat × Nat :=
  let m := c.mode g
  if c.sys.cutCh.testBit g then (1, 0)
  else if c.level2 g || c.afeGuard g then (2, if c.sharedOff g then 0 else c.safeCmd g)
  else match c.forceOf 2 (g / 16) (g % 16) 0 with
    | some i => (3, cmdOf m (c.getI forceAt FEntry.etype i) (c.forceValue i))
    | none =>
      match (c.chan g).loopOut with
      | some v => (4, v)
      | none =>
        match lookup3 c.eng.chOut g with
        | some (ty, v) => (5, cmdOf m ty v)
        | none => (5, 0)

/-- V_max of the bellows in mV: 26.0 V; 18.0 V from the reduced step of GS, which the off step lies within, until the reduced step ends
(R234, Table 3.1). -/
def Chip.vMax (c : Chip) (g : Nat) : Nat :=
  if (c.gs (g / 16)).reduced then 18000 else 26000

/-- num/den mV rounded up to the next 0.5 V step. -/
def halfVolt (num : Int) (den : Int := 1) : Int := -((-num).fdiv (500 * den)) * 500

/-- R231: raise the bellows before the stage raises the current. The present current and V_t are the measured ones. -/
def Chip.raiseBellows (c : Chip) (g cmd : Nat) : Chip :=
  let b := chanAt g
  let im := (c.chan g).ua
  let inew := milli cmd
  if inew ≤ im then c
  else
    let vt := c.getS b Chan.term_mv
    let target : Int := if 1000 ≤ im then halfVolt (vt * inew + 2500 * im) im else (c.vMax g : Int)
    let t := max 4000 (min target (c.vMax g : Int))
    c.put b Chan.bellows_mv (max (c.get b Chan.bellows_mv) t.toNat)

/-- Is an output held de-energised at its terminal beneath the precedence: its region's GS absent (R76), its target out of service
(R108), or AO-I turned off by a source outside (R270, R277)? -/
def Chip.terminalOff (c : Chip) (g : Nat) : Bool :=
  let h := c.chan g
  (c.gs (g / 16)).absent || h.oos || h.extOff || h.partnerExt

/-- comp_reduced of an AO-I channel follows the reduced step of its GS, and a bellows above 18.0 V falls at once (R234). -/
def Chip.complianceOf (c : Chip) (g : Nat) : Chip :=
  if c.mode g == 6 && (c.gs (g / 16)).reduced then
    (let c1 := if c.aNow g fCompReduced then c else c.aOn g fCompReduced
     c1.put (chanAt g) Chan.bellows_mv (min (c1.get (chanAt g) Chan.bellows_mv) 18000))
  else c.aOff g fCompReduced

/-- The bellows of AI-I with tx_supply is held at 24.0 V; while GS is absent it has no supply and stands at its lowest level (R76,
R218). -/
def Chip.txHold (c : Chip) (g : Nat) : Chip :=
  if c.mode g == 2 && c.flag (chanAt g) Chan.tx_supply then
    c.put (chanAt g) Chan.bellows_mv (if (c.gs (g / 16)).absent then 4000 else 24000)
  else c

/-- Nothing at the switch itself keeps it open: no retry wait, no latch, not off by its own shutdown, no GS off step, in service, and under
PWM its clock present. -/
def Chip.switchFree (c : Chip) (g : Nat) : Bool :=
  let h := c.chan g
  !h.waiting && !h.latched && !h.selfOff && !(c.gs (g / 16)).off && !(c.gs (g / 16)).absent && !h.oos
    && !(c.clkLost (g / 16) 5 && c.get (chanAt g) Dig.pwm_period != 0)

/-- The switch may close; that of a safe output only while its function is in state 4 (R346, R347). -/
def Chip.mayClose (c : Chip) (g : Nat) : Bool := c.switchFree g && (!(c.chan g).safety || (c.chan g).safeRun)

/-- Is a DO command on? A duty without PWM switches on from 0.5 (R247). -/
def Chip.cmdOn (c : Chip) (g cmd : Nat) : Bool :=
  if c.get (chanAt g) Dig.pwm_period == 0 && !(c.chan g).pwmOn then rLe (rat 1 2) cmd else rLt 0 cmd

/-- The back-fed condition ends, with its record (R265). -/
def Chip.endBackFed (c : Chip) (g : Nat) : Chip :=
  if !c.dNow g dBackFed then c
  else
    let src := c.get (chanAt g) Dig.cross_src
    (((c.dOff g dBackFed).dOff g dCrossFed).put (chanAt g) Dig.cross_src 0xFF).record 43 (g / 16) 0 g [0] [src]

/-- Set a switch. Where it changes, the times of what is judged of it begin anew and the overload time starts (R262, R265 to R268); a
switch that closes ends back-fed (R265). -/
def Chip.setSwitch (c : Chip) (g : Nat) (close : Bool) : Chip :=
  let c1 := if (c.chan g).closed == close then c
    else [Cond.high, .unloaded, .loaded, .stuck, .shareLow].foldl (fun c k => c.see g k false)
      (c.setChan g (fun h => { h with closed := close, overRun := 0, overFrom := c.now }))
  if c1.switchOn g then c1.endBackFed g else c1

/-- The stage of an AO-I drives the low alarm current while the compliance state lasts with comp_alarm set (R233), beneath levels 4
and 5 of Table 6.6 alone (Table 8.10). -/
def Chip.alarmSync (c : Chip) (g : Nat) : Chip :=
  let b := chanAt g
  let on := (c.chan g).short && c.mode g == 6 && c.flag b Chan.comp_alarm && c.get b Chan.ne43 == 1 && decide (4 ≤ (c.governing g).1)
  if (c.chan g).alarm == on then c else c.setChan g (fun h => { h with alarm := on })

/-- How far a current of an AO-I may exceed its command, in µA: more on a shared output, whose sum is judged while the partner is present
(R270, R277). -/
def Chip.extMargin (c : Chip) (g : Nat) : Int := if c.shared g && c.flag pairAt Pair.partner then 2500 else 1000

/-- What is judged of the measured current of an AO-I, in µA: against its command, V_max and the terminal voltage (R232, R233, R236, R270,
R277). -/
def Chip.seeCurrent (c0 : Chip) (g : Nat) (ua : Int) : Chip :=
  let c := c0.setChan g (fun h => { h with ua := ua })
  let b := chanAt g
  let cmd := milli (c.get b Chan.command)
  let vt := c.getS b Chan.term_mv
  let vm : Int := (c.vMax g : Nat)
  let margin := c.extMargin g
  let c1 := (c.see g .short (decide (vm ≤ (c.get b Chan.bellows_mv : Int)) && decide (ua + 100 < cmd))).see g .good
    (decide ((cmd - ua).natAbs ≤ 50))
  let c2 := (c1.see g .noLoop (decide (1000 ≤ cmd) && decide (ua < 100) && decide (vm - 3000 ≤ vt))).see g .served
    (decide (cmd * vt ≤ (vm - 2500) * ua))
  (c2.see g .above (decide (cmd + margin < ua))).see g .gone (decide (ua < 500))

/-- The first PWM period begins, where none runs, PWM is asked for and its clock is present (R260); it drives the switch where that may
close. -/
def Chip.startPwm (c : Chip) (g cmd : Nat) : Chip :=
  let p := c.get (chanAt g) Dig.pwm_period
  (c.setChan g (fun h => { h with pwmOn := true, pwmAt := c.now, pwmLen := p, duty := cmd })).setSwitch g (c.mayClose g)

/-- Drive the terminal of a channel with a command: clamp it, report it, and act beneath the precedence (R226, R227,
R231, R247, R260, R263 to R265, R108). A running PWM period keeps its duty (R260). -/
def Chip.driveWith (c : Chip) (g cmd0 : Nat) : Chip :=
  let m := c.mode g
  let b := chanAt g
  let lo := outLo m (c.get b Chan.range)
  let hi := outHi m
  let cmd := if rNaN cmd0 then 0 else rClamp lo hi cmd0
  let c0 := if m == 6 && cmd != c.get b Chan.command then c.seeCurrent g (c.chan g).ua else c
  let c1 := (c0.setChan g (fun h => { h with
      clampLo := rLt cmd0 lo, clampHi := rLt hi cmd0, driven := !(h.oos || h.extOff || h.partnerExt) })).put b Chan.command cmd
  if doMode m then
    let on := c1.cmdOn g cmd
    -- a latch ends at the first output write at which the effective command is off (R263)
    let c2 := if !on && (c1.chan g).latched then
        (((c1.setChan g (fun h => { h with latched := false, waiting := false, tripTicks := [] })).dOff g dLatched).dOff g
          dOverload).dOff g dTherm
      else c1
    let p := c2.get b Dig.pwm_period
    if (c2.chan g).pwmOn then c2.setSwitch g (c2.mayClose g)
    else if p != 0 && !c2.clkLost (g / 16) 5 then c2.startPwm g cmd
    else c2.setSwitch g (on && c2.mayClose g)
  else if m == 6 then
    (if c1.terminalOff g then c1.put b Chan.bellows_mv 4000 else c1.raiseBellows g cmd).alarmSync g
  else c1

/-- A switch opens at once and its PWM ends, whatever the running period. -/
def Chip.openNow (c : Chip) (g : Nat) : Chip :=
  if doMode (c.mode g) then (c.setChan g (fun h => { h with pwmOn := false })).setSwitch g false else c

/-- De-energise a terminal (R3): switch open, 0 V or 0 mA, bellows at 4.0 V. -/
def Chip.deenergise (c : Chip) (g : Nat) : Chip :=
  let b := chanAt g
  let m := c.mode g
  let c1 := (c.setChan g (fun h => { h with driven := false, pwmOn := false, alarm := false })).setSwitch g false
  let c2 := if outMode m then c1.put b Chan.command 0 else c1
  if m == 6 || (m == 2 && decide (4000 < c.get b Chan.bellows_mv)) then c2.put b Chan.bellows_mv 4000 else c2

/-- Resolve a non-safety output and drive it (R162), none in a region the image does not name (R10): not before the first output write
of its mode, not while temper holds it in place of levels 4 and 5 (R164), and a shared output only in a lease state that drives it
(Table 14.3), while its share falls as R425 gives, and as the outgoing holder of a handover holds it (Table 14.6). A level 1 cut and the
loss of the lease open a switch at once. -/
def Chip.resolve (c : Chip) (g : Nat) : Chip :=
  let h := c.chan g
  if h.safety || !outMode (c.mode g) || h.seq != 0 || !c.connected g || !c.named (g / 16) then c
  else
    let (level, cmd) := c.governing g
    if 4 ≤ level && h.tempering then c.driveWith g h.temperCmd
    else if c.shared g && [1, 3, 7, 8].contains (c.get pairAt Pair.lease_state) then
      (if h.ramp = 2 || c.pair.handHold then c else (c.driveWith g 0).openNow g)
    else if level = 1 then (c.driveWith g cmd).openNow g
    else c.driveWith g cmd

/-- Level 2 begins on a channel: hold the command in effect, then take the safe value. -/
def Chip.beginLevel2 (c : Chip) (g : Nat) : Chip :=
  (c.setChan g (fun h => { h with held := some (h.held.getD (c.get (chanAt g) Chan.command)) })).resolve g

/-- Level 2 ends on a channel; it takes the precedence at the next output write. -/
def Chip.endLevel2 (c : Chip) (g : Nat) : Chip := c.setChan g (fun h => { h with held := none })

/-- The current an AO-I is to give, in µA: the alarm current of R233, else its command. -/
def Chip.loopCmd (c : Chip) (g : Nat) : Int := if (c.chan g).alarm then 3600 else milli (c.get (chanAt g) Chan.command)

/-- What an analogue output stage is given, in µA or mV: nothing while its terminal is held de-energised; its share of a shared AO-I at levels
3 to 5 (R238), at levels 1 and 2 what these give (R424, R540); else the alarm current of R233 or the command. -/
def Chip.stageDrive (c : Chip) (g : Nat) : Int :=
  let h := c.chan g
  if !h.driven || c.terminalOff g then 0
  else if c.mode g == 6 && c.shared g && decide (3 ≤ (c.governing g).1) then h.share
  else c.loopCmd g

/-! ### Reset of tongs (R70 to R72) -/

/-- One side of tongs k is reset: what the queue holds is discarded and, from S8 on, counted; no new transfer is accepted until they
have resynchronised. -/
def Chip.resetTongs (c : Chip) (k : Nat) : Chip :=
  let q := c.queued k
  let c1 : Chip := { c with
    emitted := dropQueued k 64 c.emitted
    ports := if k / 16 % 8 = 2 then upd c.ports (k / 128) (fun p => { p with handed := [] }) else c.ports
    sys := { c.sys with resync := if c.tongsWait k then c.sys.resync else k :: c.sys.resync } }
  if c.phase = 8 && c.usesDomain (k / 128) (k / 16 % 8) then c1.bumpByI (regionAt (k / 128)) Cross.discarded (k / 16 % 8) q.length
  else c1

end Sys2Proof.Machine
end

