-- ==== Sys2Proof/Machine/CounterOps.lean ====
section
/-! DEFINITION. Performance counters (R499 to R508): the select filters, counting with overflow, sampling, windows. -/

namespace Sys2Proof.Machine

/-- The counters of region r beyond their registers. -/
def Chip.ctr (c : Chip) (r : Nat) : CtrSt := nth {} c.ctrs r

/-- Counter j of region r beyond its registers. -/
def Chip.ctrOne (c : Chip) (r j : Nat) : CtrOne := nth {} (c.ctr r).ones j

/-- Change counter j of region r beyond its registers. -/
def Chip.setCtr (c : Chip) (r j : Nat) (f : CtrOne → CtrOne) : Chip :=
  { c with ctrs := upd c.ctrs r (fun h => { h with ones := upd h.ones j f }) }

/-- A countable event: class, port code, outbound, master bit, privilege bit (0 P, 1 S, 2 M, 3 K), its address if the class
has one, how many, and the bytes of each. -/
structure CtrEvent where
  cls : Nat
  port : Nat
  out : Bool
  master : Nat
  priv : Nat
  addr : Nat
  instAddr : Nat
  bytes : Nat
  deriving DecidableEq, Repr

/-- Does an event pass every filter of counter j (R501, R503)? Limits that disagree both take the lower one's value (rule LW, R502). -/
def Chip.counts (c : Chip) (r j : Nat) (e : CtrEvent) : Bool :=
  let b := ctrAt r
  let dir := c.getI b Ctr.dir j
  let port := c.getI b Ctr.port j
  let a := if c.getI b Ctr.addr_space j = 1 then e.instAddr else e.addr
  let lo := c.getI b Ctr.addr_lo j
  let hi := max lo (c.getI b Ctr.addr_hi j)
  c.phase == 8 && !c.flag b Ctr.freeze && c.getI b Ctr.enable j != 0 && c.getI b Ctr.cls j == e.cls
    && (port == 0 || port == e.port) && (dir == 0 || dir == (if e.out then 2 else 1))
    && (c.getI b Ctr.master j).testBit e.master && (c.getI b Ctr.priv j).testBit e.priv
    && (c.getI b Ctr.addr_en j == 0 || 3 < e.cls || (decide (lo ≤ a) && decide (a ≤ hi)))

/-- Count k events from v: the value after them and whether it overflowed (R504). -/
def countUp (preload : Nat) : Nat → Nat → Nat × Bool
  | v, 0 => (v, false)
  | v, k + 1 =>
    if v = 2 ^ 32 - 1 then ((countUp preload preload k).1, true) else countUp preload (v + 1) k

/-- An overflow of counter j: its ovf bit, and with ovf_event a sample to be taken; one that comes while another waits for its sample
is dropped (R504, R505). Between the event and the sample at most 12 invocations commit; how many is a free value. -/
def Chip.counterOver (c : Chip) (r j : Nat) : Chip :=
  let b := ctrAt r
  let c1 := c.putBit b Ctr.ovf j true
  if c.getI b Ctr.ovf_event j = 0 then c1
  else if (c.ctrOne r j).overAt.isSome then c1.bump b Ctr.dropped
  else c1.fresh.setCtr r j (fun h => { h with overAt := some c.now, skip := c.free % 13, sample := none })

/-- Count an event in every counter of region r that selects it. -/
def Chip.countEvent (c : Chip) (r : Nat) (e : CtrEvent) : Chip :=
  c.each ((List.range 8).filter (fun j => c.counts r j e)) (fun c j =>
    let b := ctrAt r
    let n := if c.getI b Ctr.unit j = 1 then e.bytes else 1
    let (v, ov) := countUp (c.getI b Ctr.preload j) (c.getI b Ctr.value j) n
    let c1 := (c.putI b Ctr.value j v).setCtr r j (fun h => { h with acc := h.acc + n })
    if ov then c1.counterOver r j else c1)

/-- A frame, datagram or flit passes a port of region r: class, port code, direction, master, privilege, bytes (Table 18.1). -/
def Chip.countPass (c : Chip) (r cls port : Nat) (out : Bool) (master priv bytes : Nat) : Chip :=
  c.countEvent r { cls := cls, port := port, out := out, master := master, priv := priv, addr := 0, instAddr := 0, bytes := bytes }

/-- A commit in region r gives the sample of the overflows that wait for one. -/
def Chip.sampleCommit (c : Chip) (r s : Nat) : Chip :=
  { c with ctrs := upd c.ctrs r (fun h => { h with ones := h.ones.map (fun o =>
      match o.overAt, o.sample with
      | some _, none => if o.skip = 0 then { o with sample := some s } else { o with skip := o.skip - 1 }
      | _, _ => o) }) }

/-- A change of a select word or an address limit takes effect in the window in progress (R503); addr_mm stands while the limits disagree
(R179, R502). -/
def Chip.selectChanged (c : Chip) (r j : Nat) : Chip :=
  let b := ctrAt r
  (c.setCtr r j (fun h => { h with changed := true })).putBit b Ctr.addr_mm j
    (decide (c.getI b Ctr.addr_hi j < c.getI b Ctr.addr_lo j))

/-- Is a select word refused with reason 2 (R502)? -/
def selectRefused (r w : Nat) : Bool :=
  let cls := w / 2 ^ 16 % 16
  let port := w / 2 ^ 20 % 16
  let unit := w.testBit 29
  let addrEn := w.testBit 28
  let ports : List Nat := match cls with
    | 1 | 2 => [0, 5, 6]
    | 3 => [0]
    | 4 => [0, 6, 7, 8]
    | 5 => [0, 1, 2, 3, 4]
    | _ => [0, 1, 2, 3, 4, 5, 6, 7, 8]
  decide (6 < cls) || !ports.contains port || ((port == 7 || port == 8) && 1 < r) || w / 2 ^ 24 % 4 == 3
    || (unit && (cls == 3 || cls == 6)) || (addrEn && (cls == 4 || cls == 5 || cls == 6))

/-- The clear command of a counter block (R508). -/
def Chip.cmdCounterClear (c : Chip) (r : Nat) : Chip :=
  if !c.opens r then c else
  let b := ctrAt r
  if c.get b Ctr.result = 1 then c
  else
    let c1 := c.each (List.range 8) (fun c j =>
      ((c.putI b Ctr.value j (c.getI b Ctr.preload j)).putI b Ctr.win_count j 0).putI b Ctr.last_sample j 0)
    (c1.put b Ctr.dropped 0).put b Ctr.result 2

/-- At S8 entry every counter takes its preload and the windows begin (R503, R506). -/
def Chip.countersStart (c : Chip) (r : Nat) : Chip :=
  let b := ctrAt r
  let c1 := c.each (List.range 8) (fun c j => (c.putI b Ctr.value j (c.getI b Ctr.preload j)).putBit b Ctr.addr_mm j
    (decide (c.getI b Ctr.addr_hi j < c.getI b Ctr.addr_lo j)))
  { c1 with ctrs := setAt c1.ctrs r { endAt := c.now + c.get b Ctr.win } }

end Sys2Proof.Machine
end

