-- ==== Sys2Proof/Machine/Operands.lean ====
section
/-! DEFINITION. Access to parameter words (R8, R13, R14, R48, R530) and every operand form of an invocation: the binding
kinds of Table 6.4, images by binding type (R246), forces on them (R170, R171), and the commit of an invocation. -/

namespace Sys2Proof.Machine

/-! ### Parameter words -/

/-- Status codes of Table 15.5 that an access can have. -/
def accOk : Nat := 0
def accNone : Nat := 1
def accDenied : Nat := 2
def accAbsent : Nat := 3
def accFenced : Nat := 4

/-- Is the address an instance word (R149)? -/
def isInst (a : Nat) : Bool := spaceOf a < 8 && 0x100 ≤ blockOf a && blockOf a ≤ 0x10B

/-- Is the address a word of the constant pool's space (R150)? -/
def isConst (a : Nat) : Bool := spaceOf a == 8 && (blockOf a == 0x100 || blockOf a == 0x101)

/-- Does a chapter define the word? -/
def Chip.defined (c : Chip) (a : Nat) : Bool :=
  if isInst a then true
  else if isConst a then (a - 0x81000000) / 2 < c.eng.consts.length
  else !(fieldsAt a).isEmpty

/-- The status of an access, before its access class: the first of absent, region fenced, no such parameter (R530). -/
def Chip.accessOf (c : Chip) (a : Nat) : Nat :=
  if spaceOf a < 8 && !c.fitted (spaceOf a) then accAbsent
  else if spaceOf a < 8 && c.regionClosed (spaceOf a) then accFenced
  else if a < 2 ^ 32 && c.defined a then accOk
  else accNone

/-- The live words: the calendar of R443 and the tick counter of R499. -/
def liveWord (now stamp : Nat) (a : Nat) (stored : Nat) : Nat :=
  if a = calAt + 1 then stamp % 2 ^ 32
  else if a = calAt + 2 then stamp / 2 ^ 32 % 2 ^ 32
  else if spaceOf a < 8 && a % 2 ^ 28 = 0x00700000 then 50 * now % 2 ^ 32
  else if spaceOf a < 8 && a % 2 ^ 28 = 0x00700001 then 50 * now / 2 ^ 32 % 2 ^ 32
  else stored

/-- lease_left (Table 14.8): ticks to expiry in a shadow, otherwise 0. -/
def Chip.leaseLeft (c : Chip) : Nat := if c.shadow then c.pair.renewAt + 1000 * c.pair.period - c.now else 0

/-- Read a parameter word: the status of the access, and the word. The bits of CMD fields read as zero (R14). -/
def Chip.readWord (c : Chip) (a : Nat) : Nat × Nat :=
  match c.accessOf a with
  | 0 =>
    let v := if a = pairAt + 2 then c.leaseLeft else liveWord c.now c.stamp a (c.nat a)
    let cmd := ((fieldsAt a).filter (fun f => f.access == .cmd)).foldl (fun m f => m ||| f.mask) 0
    (accOk, v - (v &&& cmd))
  | st => (st, 0)

/-- The chip as its words stood at the input latch of the cycle (R190). -/
def Chip.atLatch (c : Chip) : Chip :=
  { c with regs := c.eng.latched, now := c.eng.latchNow, calFs := fsOf c.eng.latchCal }

/-- Is session i open with one of the roles (Table 15.6)? -/
def Chip.roleIn (c : Chip) (i : Nat) (roles : List Nat) : Bool :=
  c.getI sessAt Sess.state i == 2 && roles.contains (c.getI sessAt Sess.role i)

/-! ### Bindings -/

/-- The invocation with a sequence number. -/
def Chip.inv (c : Chip) (s : Nat) : Option Inv := c.eng.prog.find? (fun i => i.seq == s)

/-- The signature of an invocation. -/
def Inv.sig (i : Inv) : Sig := (sigOf i.code i.ins.length i.outs.length).getD ⟨0, 0, [], []⟩

/-- Word k of an invocation's instance. -/
def Chip.instWord (c : Chip) (i : Inv) (k : Nat) : Nat := c.nat (instAt i.region (i.off + k))

/-- Output k of an invocation as last committed. -/
def Chip.instOut (c : Chip) (i : Inv) (k : Nat) : Nat :=
  let g := i.sig
  let ty := nth 0 g.outs k
  let lo := c.instWord i (g.outOff k)
  tyNorm ty (if ty = tyCal then lo + 2 ^ 32 * c.instWord i (g.outOff k + 1) else lo)

/-- Every output as last committed. -/
def Chip.instOuts (c : Chip) (i : Inv) : List Nat := (List.range i.sig.outs.length).map (c.instOut i)

/-- Output k of a producer as a consumer with number `s` sees it: a producer with a lower number gives its result of
this cycle, any other its result of the previous cycle (R151); a force is substituted (R171). -/
def Chip.producerOut (c : Chip) (s : Nat) (p : Inv) (k : Nat) : Nat :=
  match c.forceOf 3 p.region k p.seq with
  | some i => tyNorm (nth 0 p.sig.outs k) (c.forceValue i)
  | none =>
    if p.seq < s then c.instOut p k
    else match assoc c.eng.saved p.seq with
      | some outs => nth 0 outs k
      | none => c.instOut p k

/-- A channel image delivered to a binding of a type (R246): value and status. -/
def deliver (im : ChImg) (ty : Nat) : Nat × Nat :=
  if ty == tyStatus then (im.st, im.st)
  else if ty == im.ty then (im.val, im.st)
  else if ty == tyReal then (asReal im.ty im.val, im.st)
  else if ty == tyUint32 && im.ty == tyBool then (im.val, im.st)
  else (0, stNorm (withBit im.st stFault true))

/-- The latched image of channel g. -/
def Chip.img (c : Chip) (g : Nat) : ChImg := nth ⟨4, 0, 0⟩ c.eng.imgs g

/-- The latched image of a remote station. -/
def Chip.stImg (c : Chip) (key : Nat) : Option StImg := c.eng.stImgs.find? (fun i => i.key == key)

/-- The value an input binding delivers; `dflt` is what an unbound input takes (R186). -/
def Chip.bindValue (c : Chip) (s : Nat) (b : Bind) (dflt : Nat) : Nat :=
  let v : Nat :=
    if b.kind = 0x00 then dflt
    else if b.kind = 0x01 then tyNorm b.ty (c.nat (constAt (2 * b.ref)) + 2 ^ 32 * c.nat (constAt (2 * b.ref + 1)))
    else if b.kind = 0x02 then tyNorm b.ty b.ref
    else if b.kind = 0x03 then
      match c.inv (b.ref % 2 ^ 16) with
      | some p => c.producerOut s p (b.ref / 2 ^ 16 % 2 ^ 8)
      | none => dflt
    else if b.kind = 0x04 then
      let im := c.img (16 * b.region + b.ref % 16)
      if b.ref.testBit 8 then im.st else (deliver im b.ty).1
    else if b.kind = 0x06 then
      let key := 64 * b.region + b.ref % 64
      let off := b.ref / 256
      let bytes := if b.ref.testBit 7 then (assoc c.eng.stOutLatched key).getD [] else ((c.stImg key).map (·.bytes)).getD []
      tyNorm b.ty (numAt bytes off (tyBytes b.ty))
    else if b.kind = 0x07 then
      match c.stImg (64 * b.region + b.ref % 64) with
      | some i => if b.ty = tyStatus then i.st else i.age
      | none => if b.ty = tyStatus then 2 else 2 ^ 32 - 1
    else if b.kind = 0x08 then
      match if c.shadow then assoc c.eng.mirReads (s * 2 ^ 32 + b.ref) else none with
      | some w => tyNorm b.ty w
      | none =>
        match c.readWord b.ref with
        | (0, w) => tyNorm b.ty w
        | _ => tyNorm b.ty c.free
    else if b.kind = 0x09 then
      if b.ref = 0 then c.get engineAt Engine.latch_tick
      else if b.ref = 1 then c.eng.latchCal
      else if b.ref = 2 then c.get engineAt Engine.cycle_count
      else c.eng.prevTime
    else dflt
  if b.flags.testBit 0 && b.ty = tyBool then (if v = 0 then 1 else 0) else v

/-- Every input of an invocation in binding order. -/
def Chip.inputs (c : Chip) (i : Inv) : List Nat :=
  List.zipWith (fun b p => c.bindValue i.seq b p.2) i.ins i.sig.ins

/-- Have the producers with lower numbers that the invocation reads committed in this cycle (R151)? -/
def Chip.operandsReady (c : Chip) (i : Inv) : Bool :=
  i.ins.all (fun b => b.kind != 0x03 || i.seq ≤ b.ref % 2 ^ 16 || c.eng.done.contains (b.ref % 2 ^ 16))

/-- What the evaluation of an invocation sees. -/
def Chip.ctx (c : Chip) (i : Inv) (t : Nat) : Ctx :=
  let g := i.sig
  let st := (List.range g.s).map (fun k => c.instWord i (g.p + k))
  let now := c.get engineAt Engine.latch_tick
  { t := t
    ins := c.inputs i
    par := (List.range g.p).map (c.instWord i)
    st := st
    old := c.instOuts i
    d := if c.eng.first then 0 else tickDiff now (nth 0 st 0)
    now := now
    cal := c.eng.latchCal }

/-! ### Commit -/

/-- The words of outputs of given types: a CAL takes two (R185). -/
def outsToWords : List Nat → List Nat → List Nat
  | t :: ts, v :: vs =>
    (if t = tyCal then [v % 2 ^ 32, v / 2 ^ 32 % 2 ^ 32] else [tyNorm t v]) ++ outsToWords ts vs
  | _, _ => []

/-- Write consecutive instance words. -/
def Chip.putInst (c : Chip) (i : Inv) : Nat → List Nat → Chip
  | _, [] => c
  | k, v :: vs => Chip.putInst (c.setNat (instAt i.region (i.off + k)) v) i (k + 1) vs

/-- Write bytes into a byte string at an offset, lengthening it with zeros where needed. -/
def patch (bs : List Nat) (off : Nat) (vs : List Nat) : List Nat :=
  putBytes (bs ++ List.replicate (off + vs.length - bs.length) 0) off vs

/-- Put one output on its bound target: a channel output or bytes of a remote output image; a forced instance output
is substituted (R171). -/
def Chip.putTarget (c : Chip) (i : Inv) (k : Nat) (b : Bind) (v0 : Nat) : Chip :=
  let v := match c.forceOf 3 i.region k i.seq with
    | some e => tyNorm b.ty (c.forceValue e)
    | none => v0
  if b.kind = 0x05 then
    let g := 16 * b.region + b.ref % 16
    { c with eng := { c.eng with chOut := assocSet c.eng.chOut g (b.ty, v) } }
  else if b.kind = 0x06 then
    let key := 64 * b.region + b.ref % 64
    let old := (assoc c.eng.stOut key).getD []
    { c with eng := { c.eng with
        stOut := assocSet c.eng.stOut key (patch old (b.ref / 256) (leBytes (tyBytes b.ty) v)) } }
  else c

/-- Put every output on its target, from output k on. -/
def Chip.putTargets (c : Chip) (i : Inv) : Nat → List Bind → List Nat → Chip
  | k, b :: bs, v :: vs => Chip.putTargets (c.putTarget i k b v) i (k + 1) bs vs
  | _, _, _ => c

/-- What an invocation reads through its kind 0x08 bindings, for the mirror record (Table 14.4): key 2^32·s + address. -/
def Chip.liveReads (c : Chip) (i : Inv) : List (Nat × Nat) :=
  (i.ins.filter (fun b => b.kind == 0x08)).map (fun b =>
    (i.seq * 2 ^ 32 + b.ref, match c.readWord b.ref with
      | (0, w) => w
      | _ => c.free))

/-- A 32-bit word of a region's parameter space is read or written: by a master (Table 18.1's bits) with a privilege. A read
goes out of the memory's port, a write goes in. -/
def Chip.countWord (c : Chip) (a : Nat) (write : Bool) (master priv : Nat) : Chip :=
  if 8 ≤ spaceOf a then c
  else
    let r := spaceOf a
    c.countEvent r
      { cls := if write then 2 else 1, port := if isInst a then 5 else if blockOf a = 0x060 then 6 else 0, out := !write
        master := master, priv := priv, addr := a, instAddr := if isInst a then 4 * (a - instAt r 0) else 2 ^ 32, bytes := 4 }

/-- The words of parameter space an invocation reads through its bindings: outputs of producers and parameters. -/
def Chip.boundWordsOf (c : Chip) (i : Inv) : List Nat :=
  i.ins.flatMap (fun b =>
    if b.kind = 0x03 then
      match c.inv (b.ref % 2 ^ 16) with
      | some p =>
        let k := b.ref / 2 ^ 16 % 2 ^ 8
        let a := instAt p.region (p.off + p.sig.outOff k)
        if nth 0 p.sig.outs k = tyCal then [a, a + 1] else [a]
      | none => []
    else if b.kind = 0x08 then [b.ref] else [])

/-- Commit an invocation: its state words and outputs, its bound targets, and the mark that it ran in this cycle
(R31, R151); the counters of its region see the commit (R501, R505). -/
def Chip.commit (c : Chip) (i : Inv) (r : Res) : Chip :=
  let g := i.sig
  let c1 := { c with eng := { c.eng with
    done := i.seq :: c.eng.done
    saved := (i.seq, c.instOuts i) :: c.eng.saved
    mirReads := if c.sys.hasPair && c.holder then c.liveReads i ++ c.eng.mirReads else c.eng.mirReads
    commitAt := setAt c.eng.commitAt i.region c.now } }
  let c2 := (c1.putInst i g.p (r.st.take g.s)).putInst i (g.p + g.s) (outsToWords g.outs r.outs)
  let e : CtrEvent := { cls := 3, port := 0, out := false, master := 0, priv := 0, addr := instAt i.region i.off,
                        instAddr := 4 * i.off, bytes := 0 }
  let wrote := (List.range (g.s + (outsToWords g.outs r.outs).length)).map (fun k => instAt i.region (i.off + g.p + k))
  let c3 := ((c2.each (c.boundWordsOf i) (fun c a => c.countWord a false 0 0)).sampleCommit i.region i.seq).each wrote
    (fun c a => c.countWord a true 0 0)
  (c3.putTargets i 0 i.outs r.outs).countEvent i.region e

/-- Ask for something at the output write (R191). -/
def Chip.ask (c : Chip) (s : Nat) (a : Ask) : Chip := { c with eng := { c.eng with reqs := (s, a) :: c.eng.reqs } }

/-- May invocation i, of the block type b, run now: in the execution phase of a running engine, once per cycle, with its
operands ready (R151, R154)? -/
def Chip.mayRun (c : Chip) (i : Inv) (b : Blk) : Option Nat :=
  match blkOf i.code with
  | some (b', t) =>
    if b' = b && c.get engineAt Engine.state == 1 && c.eng.phase == 1 && !c.eng.done.contains i.seq
      && c.operandsReady i then some t else none
  | none => none

/-- Run invocation s as a block of type b: evaluate, commit, and let `post` issue what the block asks for. An
invocation that is not placed, is of another type or is not ready does not run: nothing changes. -/
def Chip.invokeWith (c : Chip) (b : Blk) (s : Nat) (f : Chip → Inv → Ctx → Res)
    (post : Chip → Inv → Ctx → Chip) : Chip :=
  match c.inv s with
  | none => c
  | some i =>
    match c.mayRun i b with
    | none => c
    | some t =>
      let x := c.ctx i t
      post ((c.commit i (f c i x)).fresh) i x

/-- Run invocation s as a block whose result depends on its instance and inputs alone. -/
def Chip.invoke (c : Chip) (b : Blk) (f : Ctx → Res) (s : Nat) : Chip :=
  c.invokeWith b s (fun _ _ x => f x) (fun c' _ _ => c')

end Sys2Proof.Machine
end

