-- ==== Sys2Proof/Machine/Analogue.lean ====
section
/-! DEFINITION. Universal channels: analogue modes (R209 to R244). A command carries what the front end presents: the
calibrated reading in the mode's electrical unit, the terminal voltage, the loop current. -/

namespace Sys2Proof.Machine

/-- Conversion period of a rate code in ticks (Table 8.3). -/
def convPeriod (rate : Nat) : Nat := nth 250 [100000, 20000, 10000, 5000, 2000, 1000, 500, 250] rate

/-- R215: the first-order filter of a converter result. -/
def filterStep (y x tc t : Nat) : Nat :=
  if tc = 0 then x else rAdd y (rDiv (rMul (rSub x y) (rOfInt t)) (rOfInt (tc + t)))

/-- oor_low and oor_high against a span, with a margin of 1 % of its width (R217, R220): limits in thousandths. -/
def oorBits (x : Nat) (lo hi : Int) : Bool × Bool :=
  let m := (hi - lo) / 100
  (rLt x (rat (lo - m) 1000), rLt (rat (hi + m) 1000) x)

/-- The NE 43 band a reading falls in by Table 8.5. -/
def ne43Table (x : Nat) : Nat :=
  if rLe x (rat 36 10) then 1
  else if rLt x (rat 38 10) then 2
  else if rLe x (rat 205 10) then 3
  else if rLt x (rat 21 1) then 4
  else 5

/-- Lower and upper boundary of a band, in µA. -/
def ne43Bounds (b : Nat) : Int × Int :=
  if b = 1 then (-1000000, 3600) else if b = 2 then (3600, 3800) else if b = 3 then (3800, 20500)
  else if b = 4 then (20500, 21000) else (21000, 1000000)

/-- R219: the band after a reading; a band is left only 0.05 mA beyond its boundary. -/
def ne43Band (old x : Nat) : Nat :=
  if old = 0 then ne43Table x
  else
    let (lo, hi) := ne43Bounds old
    if rLt x (rat (lo - 50) 1000) || rLt (rat (hi + 50) 1000) x then ne43Table x else old

/-- The failure band code of a band: 1 low, 2 high, 0 none. -/
def failBand (b : Nat) : Nat := if b = 1 then 1 else if b = 5 then 2 else 0

/-- Record source 33 and set the flags for a change of failure band. -/
def Chip.ne43Change (c : Chip) (g old new : Nat) (ua : Int) : Chip :=
  if failBand old = failBand new then c
  else
    let w := unsigned 32 ua
    let c1 := if failBand old = 0 then c
      else ((c.aOff g fNe43Low).aOff g fNe43High).record 33 (g / 16) 0 g [0] [w]
    if failBand new = 1 then (c1.aOn g fNe43Low).record 33 (g / 16) 2 g [1] [w]
    else if failBand new = 2 then (c1.aOn g fNe43High).record 33 (g / 16) 2 g [2] [w]
    else c1

/-- End a failure band when ne43 goes to 0 or the range changes; the record carries the reading, unfiltered (R219). -/
def Chip.ne43End (c : Chip) (g : Nat) : Chip :=
  (c.ne43Change g (c.chan g).band 0 (c.chan g).ua).setChan g (fun h => { h with band := 0 })

/-! ### Resistance thermometers -/

/-- R(T)/R0 of IEC 60751 at k m°C, times 10^27. -/
def ptRatio (k : Int) : Int :=
  10 ^ 27 + 39083 * k * 10 ^ 17 - 5775 * k ^ 2 * 10 ^ 11 + (if k < 0 then -4183 * (k - 100000) * k ^ 3 else 0)

/-- R(T)/R0 of Ni1000 at k m°C, times 10^38. -/
def niRatio (k : Int) : Int :=
  10 ^ 38 + 5485 * k * 10 ^ 29 + 6650 * k ^ 2 * 10 ^ 23 + 2805 * k ^ 4 * 10 ^ 12 - 2000 * k ^ 6

/-- The largest k from lo on, in `n` halvings, whose value is at most v. -/
def bisect (f : Int → Int) (v : Int) : Nat → Int → Int → Int
  | 0, lo, _ => lo
  | n + 1, lo, hi =>
    let mid := (lo + hi) / 2
    if f mid ≤ v then bisect f v n mid hi else bisect f v n lo mid

/-- Nominal resistance of a sensor in Ω (Table 8.6). -/
def rtdR0 (sensor : Nat) : Nat := if sensor = 0 then 100 else 1000

/-- The temperature of a resistance, within 0.001 °C: the whole m°C below the root, and a free part of the next one
(R221 gives the iteration's accuracy, not its last digits). -/
def rtdTemp (sensor r free : Nat) : Nat :=
  let num := rVal r
  let den : Int := 2 ^ 149 * rtdR0 sensor
  let k := if sensor = 2 then bisect niRatio (num * 10 ^ 38 / den) 21 (-150000) 400000
    else bisect ptRatio (num * 10 ^ 27 / den) 21 (-250000) 1200000
  rat (k * 65536 + (free % 65536 : Nat)) 65536000

/-- Valid resistance band in Ω. -/
def rtdBand (sensor : Nat) : Nat × Nat :=
  if sensor = 0 then (15, 400) else if sensor = 1 then (150, 4000) else (600, 3000)

/-- Temperature range in °C of a sensor. -/
def rtdRange (sensor : Nat) : Int × Int := if sensor = 2 then (-60, 250) else (-200, 850)

/-- Temperature range of a thermocouple type (Table 8.7). -/
def tcRange (sensor : Nat) : Int × Int :=
  nth (-210, 1200) [(-210, 1200), (-270, 1372), (-270, 400), (-270, 1000), (-270, 1300), (-50, 1768), (-50, 1768),
    (250, 1820)] sensor

/-- The sensor resistance by the wiring (R222): excitation, V_c and the second voltage in V, lead_2w in mΩ. -/
def rtdResistance (sensor wiring lead vc v2 : Nat) : Nat :=
  let i := if sensor = 0 then rat 1 1000 else rat 1 10000
  if wiring = 0 then rSub (rDiv vc i) (rat lead 1000)
  else if wiring = 1 then rSub (rDiv vc i) (rDiv (rMul (rOfInt 2) v2) i)
  else rDiv v2 i

/-! ### Results -/

/-- Deliver an analogue value: filter it, write value and status. -/
def Chip.deliverAi (c : Chip) (g x base : Nat) : Chip :=
  let b := chanAt g
  let h := c.chan g
  let y := if h.yOk then filterStep h.y x (c.get b Chan.filter_tc) (convPeriod (c.get b Chan.rate)) else x
  (c.setChan g (fun h => { h with y := y, yOk := true, base := base })).setImage g y

/-- Cold-junction temperature of channel cc of a connector in 1/240 °C (R224), none with both sensors failed. -/
def cjTemp (j : CjSt) (cc : Nat) : Option Int :=
  if !j.badA && !j.badB then some (15 * j.ta + (j.tb - j.ta) * cc)
  else if !j.badA then some (15 * j.ta)
  else if !j.badB then some (15 * j.tb)
  else none

/-- Length of the part that two spans of ticks share. -/
def overlap (a b a' b' : Nat) : Nat := min b b' - max a a'

/-- Ticks of the filter window of a result delivered now that pulls of the open-thermocouple check occupied: the last one, and the next,
which is under way (R225). The window is the three conversion periods in which a result settles (DESIGN CHOICE, log entry 123). -/
def Chip.pulled (c : Chip) (g : Nat) : Nat :=
  let h := c.chan g
  let rate := c.get (chanAt g) Chan.rate
  let a := c.now - 3 * convPeriod rate
  if rate < 2 then 0
  else (match h.pullAt with
    | some p => overlap a c.now (p - 1000) p
    | none => 0) + overlap a c.now (h.tcAt + 999000) (h.tcAt + 1000000)

/-- What the pull adds to a thermocouple result in mV: 1 µA times the surveyed loop resistance (quantity 0x10, in 0.1 Ω), by its share of
the window (R225). -/
def Chip.pullVolts (c : Chip) (g : Nat) : Nat :=
  rat ((c.nat (surveyAt + 0x100 + 8 * g + 1) * c.pulled g : Nat) : Int) (30000 * convPeriod (c.get (chanAt g) Chan.rate))

/-- A sensor code without a sensor of the mode's table stands: the value and its range bits are free (log entry 122). -/
def Chip.oddSensor (c : Chip) (g : Nat) : Chip :=
  let v := c.free
  let w := c.fresh.free
  c.fresh.fresh.deliverAi g v (stOf true false false false (w.testBit 0) (w.testBit 1) false false)

/-- Take a converter result in the mode of the channel: `x` and `y` are the calibrated readings. -/
def Chip.convert (c : Chip) (g x y : Nat) : Chip :=
  let b := chanAt g
  let m := c.mode g
  let sensor := c.get b Chan.sensor
  if m = 1 then
    let (l, h) := oorBits x (if c.get b Chan.range = 1 then -10000 else 0) 10000
    c.deliverAi g x (stOf true false false false l h false (rLe (rOfInt 12) (rAbs x)))
  else if m = 2 then
    let c := c.setChan g (fun h => { h with ua := milli x })
    let tooHigh := rLe (rOfInt 24) x
    if c.get b Chan.ne43 ≠ 0 && c.get b Chan.range = 1 then
      let band := ne43Band (c.chan g).band x
      let c1 := (c.ne43Change g (c.chan g).band band (milli x)).setChan g (fun h => { h with band := band })
      c1.deliverAi g x (stOf true false false false (band == 1 || band == 2) (band == 4 || band == 5) false
        (band == 1 || band == 5 || tooHigh))
    else
      let (l, h) := oorBits x (if c.get b Chan.range = 1 then 4000 else 0) 20000
      c.deliverAi g x (stOf true false false false l h false tooHigh)
  else if (m = 3 && 2 < sensor) || (m = 4 && 7 < sensor) then c.oddSensor g
  else if m = 3 then
    let r := rtdResistance sensor (c.get b Chan.wiring) (c.get b Chan.lead_2w) x y
    let (lo, hi) := rtdBand sensor
    if rNaN r || rLt r (rOfInt lo) || rLt (rOfInt hi) r then
      let c1 := if (c.chan g).sensorBad then c
        else (c.aOn g fOpenSensor).record 34 (g / 16) 2 g [1] [unsigned 32 (milli r)]
      (c1.setChan g (fun h => { h with sensorBad := true })).putStatus g
    else
      let t := rtdTemp sensor r c.free
      let (tl, th) := rtdRange sensor
      let c1 := (c.fresh.aOff g fOpenSensor).setChan g (fun h => { h with sensorBad := false })
      c1.deliverAi g (if c.flag b Chan.rtd_ohm then r else t)
        (stOf true false false false (rLt t (rOfInt tl)) (rLt (rOfInt th) t) false false)
  else if m = 4 then
    let fixed := c.flag b Chan.cj_fixed_en
    let cj : Option Int := if fixed then some (15 * rToIntEven (rMul (c.get b Chan.cj_fixed) (rOfInt 16)))
      else cjTemp (nth {} c.sys.cj (g / 16)) (g % 16)
    match cj with
    | none => (c.setChan g (fun h => { h with cjBad := true })).putStatus g
    | some t240 =>
      let tcj := if fixed then c.get b Chan.cj_fixed else rat t240 240
      let e := (Config.tcVolts sensor (BitVec.ofNat 32 tcj)).toNat
      let volts := if c.pulled g = 0 then x else rSub x (c.pullVolts g)
      let uv := rAdd (rMul volts (rOfInt 1000)) e
      let t := (Config.tcTemp sensor (BitVec.ofNat 32 uv)).toNat
      let (tl, th) := tcRange sensor
      let c1 := (c.putS b Chan.cj_t (t240.fdiv 15)).setChan g (fun h => { h with cjBad := false })
      if (c1.chan g).sensorBad then c1.putStatus g
      else c1.deliverAi g t (stOf true false false false (rLt t (rOfInt tl)) (rLt (rOfInt th) t) false false)
  else if m = 5 then
    let dev := decide (50 < (milli x - milli (c.get b Chan.command)).natAbs)
    let since := if dev then some (((c.chan g).devAt).getD c.now) else none
    let long := match since with
      | some t => decide (t + 10000 ≤ c.now)
      | none => false
    let c1 := c.setChan g (fun h => { h with devAt := since, lack := c.aNow g fTherm && rLt (rAbs x) (rAbs (c.get b Chan.command)) })
    c1.deliverAi g x (withBit 0 stCompliance long)
  else if m = 6 then
    let c1 := c.setChan g (fun h => { h with lack := c.aNow g fTherm && rLt x (c.get b Chan.command) })
    (if c.shared g then c1 else c1.seeCurrent g (milli x)).deliverAi g x 0
  else c

/-- Take a result: a dead channel and one that temper or a survey holds keep their image (R111, R112). -/
def Chip.takeResult (c : Chip) (g raw x y : Nat) : Chip :=
  let h := c.chan g
  let c1 := (c.put (chanAt g) Chan.raw (unsigned 32 (signed 24 raw))).setChan g (fun h => { h with convAt := c.now })
  if h.tempering || h.surveyed || c1.chanDead g then c1.putStatus g else c1.convert g x y

/-- CONVERSION_RESULT (R214): one in each conversion period. A channel within a mode change takes no result, nor one whose converter's
tongs have been reset (R70). -/
def Chip.conversion (c : Chip) (g raw x y : Nat) : Chip :=
  let m := c.mode g
  let h := c.chan g
  if !(aiMode m || m == 5 || m == 6) || h.seq == 1 || h.seq == 2 || c.tongsWait (chanTongs g 4)
      || decide (c.now < h.convAt + convPeriod (c.get (chanAt g) Chan.rate)) then c
  else c.takeResult g raw x y

/-- CONVERSION_RESULT. -/
def execConversionResult (g : Fin 128) (raw : BitVec 24) (x y : BitVec 32) (s : State) : Out :=
  chipOnly s (fun c => c.conversion g.val raw.toNat x.toNat y.toNat)

/-! ### Mode change (Table 8.2) -/

/-- The mode asked of a channel: the SAFETY section's for a channel a safety function uses (R213), else the register's. -/
def Chip.modeAsked (c : Chip) (g : Nat) : Nat :=
  if (c.chan g).safety then (c.chan g).safeMode else c.get (chanAt g) Chan.mode

/-- The mode a channel is to take; a channel without a field connection stays in mode 0 (R408), and so does one of a region the image
does not name (R10). -/
def Chip.modeWanted (c : Chip) (g : Nat) : Nat :=
  if !c.connected g || !c.named (g / 16) then 0 else c.modeAsked g

/-- Does AI-RTD with three-wire or four-wire wiring on channel g claim the companion (R212)? -/
def Chip.claims (c : Chip) (g : Nat) : Bool :=
  c.modeWanted g == 3 && c.get (chanAt g) Chan.wiring != 0 && g % 2 == 0

/-- Step 1 of Table 8.2: the old mode stops, the output is de-energised, a claim ends, trips, latches and every live condition clear, and
the compliance state and an NE 43 band end with their records. The image keeps the previous value. -/
def Chip.modeStop (c : Chip) (g : Nat) : Chip :=
  let b := chanAt g
  let old := c.mode g
  let im := c.ownImage g
  let c0 := if (c.chan g).short then c.record 35 (g / 16) 0 g [0]
      [unsigned 32 (milli (c.get b Chan.command)), unsigned 32 (c.chan g).ua] else c
  let c2 := (c0.ne43End g).deenergise g
  let c3 := c2.setChan g (fun h => { h with
    seq := 1, img := im.val, imgTy := im.ty, yOk := false, tripTicks := [], waiting := false, latched := false, devAt := none
    sensorBad := false, cjBad := false, clampLo := false, clampHi := false, short := false, lack := false, extOff := false
    highAt := none, winOpen := false, selfOff := false })
  let c5 := (((c3.put b Chan.flags_now 0).put b Dig.dflags_now 0).put b Dig.cross_src 0xFF).put b Dig.trips 0
  let c6 := if old == 3 && g % 2 == 0 && c.mode (g + 1) == 13 && !c.claims g then
      (c5.put (chanAt (g + 1)) Chan.mode_now 0).putStatus (g + 1)
    else c5
  c6.putStatus g

/-- A mode change applied at a boundary: step 1, and the record of a change from one requested mode to another (R211). -/
def Chip.modeChange (c : Chip) (g old : Nat) : Chip :=
  let new := c.get (chanAt g) Chan.mode
  (c.modeStop g).when (old != new) (·.record 32 (g / 16) 0 g [old, new] [])

/-- The live cold-junction flags of an AI-TC channel follow the sensors of its connector (R224). -/
def Chip.cjSync (c : Chip) (g : Nat) : Chip :=
  let j := nth {} c.sys.cj (g / 16)
  let any := j.badA || j.badB
  let both := j.badA && j.badB
  let c1 := if any then c.aOn g fCjFault else c.aOff g fCjFault
  let c2 := if any && !both then c1.aOn g fCjDegraded else c1.aOff g fCjDegraded
  (c2.setChan g (fun h => { h with cjBad := both && !c.flag (chanAt g) Chan.cj_fixed_en })).putStatus g

/-- What the new mode finds at step 2: the bellows of a supplied transmitter (R218), the V_max of AO-I (R234), the cold junctions of
AI-TC (R224), the companion it claims (R212). -/
def Chip.modeBegin (c : Chip) (g : Nat) : Chip :=
  let m := c.mode g
  if m = 2 then c.txHold g
  else if m = 6 then c.complianceOf g
  else if m = 4 then c.cjSync g
  else if c.claims g then
    ((c.put (chanAt (g + 1)) Chan.mode_now 13).setChan (g + 1) (fun h => { h with seq := 0 })).setImage (g + 1) 0
  else c

/-- FRONT_END_RECONFIGURED: step 2 of Table 8.2; the image keeps the previous value. -/
def execFrontEndReconfigured (g : Fin 128) (s : State) : Out :=
  chipOnly s (fun c =>
    if (c.chan g.val).seq != 1 then c
    else
      let c1 := (c.put (chanAt g.val) Chan.mode_now (c.modeWanted g.val)).put (chanAt g.val) Dig.mon_class 0
      let c2 := c1.setChan g.val (fun h => { h with
        seq := 2, yOk := false, integ := 0, state := false, finteg := 0, mfault := false, overRate := false
        band := 0, base := 0, notAt := [], stepAt := c.now, samples := 0, sampledAt := c.now, gridAt := c.now, loads := []
        ua := 0, measAt := none, phaseWas := 0 })
      (c2.modeBegin g.val).putStatus g.val)

/-- Glitch time of a cnt_glitch code in ticks (R255). -/
def glitchTime (code : Nat) : Nat := nth 1 [1, 2, 4, 50, 1000] code

/-- Has the new mode settled (step 3 of Table 8.2): three conversion periods, N samples (R250), one glitch time, or at once? -/
def Chip.settled (c : Chip) (g : Nat) : Bool :=
  let b := chanAt g
  let m := c.mode g
  let h := c.chan g
  if aiMode m || m = 5 || m = 6 then decide (h.stepAt + 3 * convPeriod (c.get b Chan.rate) ≤ c.now)
  else if m = 7 || m = 8 then decide (c.get b Dig.filt_n ≤ h.samples)
  else if m = 11 then decide (h.stepAt + glitchTime (c.get b Dig.cnt_glitch) ≤ c.now)
  else true

/-- MODE_SETTLED: step 3 of Table 8.2; the first settled result is held. A count starts at 0 and its first gate begins. -/
def execModeSettled (g : Fin 128) (raw : BitVec 24) (x y : BitVec 32) (s : State) : Out :=
  chipOnly s (fun c =>
    if (c.chan g.val).seq != 2 || !c.settled g.val then c
    else
      let b := chanAt g.val
      let m := c.mode g.val
      let c1 := c.setChan g.val (fun h => { h with
        seq := if outMode m then 3 else 0
        gateAt := c.now, gateLen := c.get b Dig.cnt_gate, tcAt := c.now, pullAt := none })
      if aiMode m || m = 5 || m = 6 then c1.takeResult g.val raw.toNat x.toNat y.toNat
      else if m = 7 || m = 8 then c1.setImage g.val (b2n (c1.chan g.val).state)
      else if m = 11 then ((c1.put b Dig.count 0).put b Dig.freq 0).setImage g.val 0
      else if doMode m then c1.setImage g.val (b2n (c1.switchReads g.val))
      else c1.setImage g.val 0)

/-! ### Cold junctions and open thermocouples -/

/-- Does a sensor reading fail (R224), `other` being the other sensor's reading and `ref` the region's junction
temperature less its typical offset, all in 1/16 °C? -/
def cjFails (t other ref : Int) : Bool :=
  t < -640 || 2000 < t || (160 < (t - other).natAbs && (other - ref).natAbs ≤ 32)

/-- Record a sensor's failure or recovery. -/
def Chip.cjRecord (c : Chip) (r which : Nat) (old new : Bool) (t : Int) : Chip :=
  if old = new then c
  else c.record 37 r (b2n new) r [which, b2n new] [unsigned 32 t]

/-- CJ_SENSOR_READ: the two sensors of a connector are read and judged. -/
def execCjSensorRead (r : Fin 8) (ta tb : BitVec 16) (s : State) : Out :=
  chipOnly s (fun c =>
    let a := ta.toInt
    let b := tb.toInt
    let ref := signed 16 (c.get (regionAt r.val) Region.tj) - Config.junctionOffset.toInt
    let old := nth {} c.sys.cj r.val
    let new : CjSt := { ta := a, tb := b, badA := cjFails a b ref, badB := cjFails b a ref }
    let c1 := { c with sys := { c.sys with cj := setAt c.sys.cj r.val new } }
    let c2 := (c1.cjRecord r.val 0 old.badA new.badA a).cjRecord r.val 1 old.badB new.badB b
    c2.each ((List.range 16).map (fun k => 16 * r.val + k)) (fun x g => if x.mode g != 4 then x else x.cjSync g))

/-- OPEN_TC_CHECK: the check conversion of a thermocouple channel, every 1 s (R225). At 10 Hz and 50 Hz it takes the place of a
conversion; at the higher rates it ends a pull of 1 ms. -/
def execOpenTcCheck (g : Fin 128) (microvolts : BitVec 32) (s : State) : Out :=
  chipOnly s (fun c =>
    let h := c.chan g.val
    let own := decide (c.get (chanAt g.val) Chan.rate < 2)
    if c.mode g.val != 4 || h.seq != 0 || h.tempering || h.surveyed || c.chanDead g.val || decide (c.now < h.tcAt + 1000000) then c
    else
      let c0 := c.setChan g.val (fun h => { h with
        tcAt := c.now, pullAt := if own then none else some c.now, convAt := if own then c.now else h.convAt })
      if 100000 < microvolts.toInt then
        let c1 := if h.sensorBad then c0
          else (c0.aOn g.val fOpenSensor).record 34 (g.val / 16) 2 g.val [2] [microvolts.toNat]
        (c1.setChan g.val (fun h => { h with sensorBad := true })).putStatus g.val
      else ((c0.aOff g.val fOpenSensor).setChan g.val (fun h => { h with sensorBad := false })).putStatus g.val)

/-! ### Bellows and compliance -/

/-- Is the terminal of a channel not measured yet again: its measurements come `ticks` apart (R230, R279)? -/
def Chip.measuredSince (c : Chip) (g ticks : Nat) : Bool :=
  match (c.chan g).measAt with
  | some t => decide (c.now < t + ticks)
  | none => false

/-- BELLOWS_MEASUREMENT: every 2 ms V_t and the loop current, in µA, are measured; the bellows is set and the loop judged (R230, R232, R233,
R236). A shared AO-I is judged on the sum, by SPLIT_SOURCE_MEASUREMENT. -/
def execBellowsMeasurement (g : Fin 128) (measured : BitVec 16 × BitVec 32) (s : State) : Out :=
  chipOnly s (fun c =>
    let b := chanAt g.val
    if c.mode g.val != 6 || c.measuredSince g.val 2000 then c
    else
      let c1 := (c.put b Chan.term_mv measured.1.toNat).setChan g.val (fun h => { h with measAt := some c.now })
      if !(c1.chan g.val).driven || c1.terminalOff g.val then c1
      else
        let target := max 4000 (min (c1.vMax g.val : Int) (halfVolt (measured.1.toInt + 2500)))
        let now := c1.get b Chan.bellows_mv
        let c2 := c1.put b Chan.bellows_mv (if now ≤ target.toNat then target.toNat else max target.toNat (now - 500))
        if c.shared g.val then c2 else c2.seeCurrent g.val measured.2.toInt)

/-- Enter the compliance state: flags, achieved current, count and record (R232); with comp_alarm the stage drives the
low alarm current (R233). -/
def Chip.enterShort (c : Chip) (g : Nat) (ua : Int) : Chip :=
  let b := chanAt g
  let cmd := milli (c.get b Chan.command)
  let c1 := ((c.aOn g fComp).setChan g (fun h => { h with short := true })).alarmSync g
  let c2 := (c1.when (c1.phase = 8) (fun x => x.bump b Chan.comp_count)).setImage g (rat ua 1000)
  c2.record 35 (g / 16) 1 g [1] [unsigned 32 cmd, unsigned 32 ua]

/-- COMPLIANCE_ENTRY: a shortfall at V_max, on a shared output of the sum of both shares, has lasted 10 ms (R232, R238). -/
def execComplianceEntry (g : Fin 128) (microamps : BitVec 32) (s : State) : Out :=
  chipOnly s (fun c =>
    let b := chanAt g.val
    if c.mode g.val == 6 && (c.chan g.val).driven && !(c.chan g.val).short && c.stood g.val .short 10000
        && decide (c.vMax g.val ≤ c.get b Chan.bellows_mv)
        && decide (microamps.toInt + 100 < milli (c.get b Chan.command)) then
      c.enterShort g.val microamps.toInt
    else c)

/-- COMPLIANCE_END: within 0.05 mA of the command for 100 ms, or, with the alarm current flowing, a loop resistance that
V_max can serve for 100 ms. -/
def execComplianceEnd (g : Fin 128) (microamps : BitVec 32) (s : State) : Out :=
  chipOnly s (fun c =>
    let b := chanAt g.val
    let h := c.chan g.val
    let cmd := milli (c.get b Chan.command)
    let i := microamps.toInt
    let good := if h.alarm then c.stood g.val .served 100000 && decide (cmd * c.getS b Chan.term_mv ≤ ((c.vMax g.val : Int) - 2500) * i)
      else c.stood g.val .good 100000 && decide ((cmd - i).natAbs ≤ 50)
    if h.short && good then
      let c1 := ((c.aOff g.val fComp).aOff g.val fOpenLoop).setChan g.val (fun h => { h with
        short := false, alarm := false })
      let c2 := (c1.setImage g.val (rat i 1000)).record 35 (g.val / 16) 0 g.val [0] [unsigned 32 cmd, unsigned 32 i]
      c2.raiseBellows g.val (c2.get b Chan.command)
    else c)

/-- OPEN_LOOP: the loop of an AO-I is open (R236); the compliance state is set together with it. -/
def execOpenLoop (g : Fin 128) (termMv : BitVec 16) (microamps : BitVec 32) (s : State) : Out :=
  chipOnly s (fun c =>
    let b := chanAt g.val
    if c.mode g.val == 6 && (c.chan g.val).driven && c.stood g.val .noLoop 10000 && decide (1000 ≤ milli (c.get b Chan.command))
        && decide (microamps.toInt < 100) && decide ((c.vMax g.val : Int) - 3000 ≤ termMv.toInt) then
      let c1 := (c.put b Chan.term_mv termMv.toNat).aOn g.val fOpenLoop
      if (c1.chan g.val).short then c1 else c1.enterShort g.val microamps.toInt
    else c)

/-- THERMAL_FOLDBACK: the stage junction has reached 150 °C; `delivered` is the current or voltage that holds it there,
in µA or mV (R235). -/
def execThermalFoldback (g : Fin 128) (stageTj : BitVec 16) (delivered : BitVec 32) (s : State) : Out :=
  chipOnly s (fun c =>
    let b := chanAt g.val
    let m := c.mode g.val
    if (m == 5 || m == 6) && decide (2400 ≤ stageTj.toInt) && !c.aNow g.val fTherm then
      let lack := decide (delivered.toInt.natAbs < (milli (c.get b Chan.command)).natAbs)
      let c1 := ((c.put b Chan.stage_tj stageTj.toNat).aOn g.val fTherm).setChan g.val (fun h => { h with lack := lack })
      (c1.setImage g.val (rat delivered.toInt 1000)).record 36 (g.val / 16) 1 g.val [] [unsigned 32 stageTj.toInt]
    else c)

/-- THERMAL_FOLDBACK_END: the junction has fallen below 140 °C. -/
def execThermalFoldbackEnd (g : Fin 128) (stageTj : BitVec 16) (s : State) : Out :=
  chipOnly s (fun c =>
    if c.aNow g.val fTherm && decide (stageTj.toInt < 2240) then
      (((c.put (chanAt g.val) Chan.stage_tj stageTj.toNat).aOff g.val fTherm).setChan g.val (fun h => { h with
        lack := false })).putStatus g.val
    else c)

end Sys2Proof.Machine
end

