-- ==== Sys2Proof/Machine/AxisOps.lean ====
section
/-! DEFINITION. Operations on axes that several chapters share: the motion arithmetic of R308 to R310, requests
(Table 11.2), stops, the stage (R326), limit and homing switches (R315, R316, R318). Positions have 32 fraction bits and
speeds 16; a product or quotient that leaves lower bits drops them (log entry 20). -/

namespace Sys2Proof.Machine

/-! ### Plain arithmetic -/

/-- 32-bit two's complement of an integer. -/
def s32 (i : Int) : Int := signed 32 (unsigned 32 i)

/-- A speed field with 16 fraction bits. -/
def vFix (v : Nat) : Int := (v : Int) * 65536

/-- A position with 32 fraction bits. -/
def pFix (p : Int) : Int := p * 2 ^ 32

/-- Length of an update in picoseconds: 10 µs. -/
def updatePs : Int := 10000000

/-- Distance, with 32 fraction bits, of a time in picoseconds at the mean of two speeds. -/
def meanDist (u w t : Int) : Int := ((u + w) * t * 65536).fdiv (2 * 10 ^ 12)

/-- The next segment from speed u toward w: its acceleration, and the speed at which it ends (R308). -/
def segment (q : Profile) (u w : Int) : Int × Int :=
  let vb := vFix q.vb
  if u < w then (if u < vb then ((q.a1 : Int), min w vb) else ((q.a2 : Int), w))
  else if vb < u then ((q.d2 : Int), max w vb) else ((q.d1 : Int), w)

/-- Change speed u toward w for t picoseconds, segment by segment; an update that crosses a boundary spends the rest of
its time in the new segment (R310). Gives the new speed and the distance. -/
def ramp (q : Profile) : Nat → Int → Int → Int → Int × Int
  | 0, u, _, t => (u, meanDist u u t)
  | n + 1, u, w, t =>
    if u = w then (u, meanDist u u t)
    else
      let (a, b) := segment q u w
      let need := ((b - u).natAbs * 10 ^ 12 : Int).fdiv (65536 * a)
      if need ≤ t then
        let (u2, d2) := ramp q n b w (t - need)
        (u2, meanDist u b need + d2)
      else
        let du := (a * t * 65536).fdiv (10 ^ 12)
        let u2 := if u < w then u + du else u - du
        (u2, meanDist u u2 t)

/-- Distance, with 32 fraction bits, from speed u down to VE at D2 and D1: d_dec (R308). -/
def decDist (q : Profile) (u : Int) : Int :=
  let ve := vFix q.ve
  let vb := vFix q.vb
  if u ≤ ve then 0
  else if u ≤ vb then (u ^ 2 - ve ^ 2).fdiv (2 * (q.d1 : Int))
  else (u ^ 2 - vb ^ 2).fdiv (2 * (q.d2 : Int)) + (vb ^ 2 - ve ^ 2).fdiv (2 * (q.d1 : Int))

/-- Braking distance at dstop down to VE. -/
def brakeDist (q : Profile) (dstop : Nat) (u : Int) : Int :=
  let ve := vFix q.ve
  if u ≤ ve then 0 else (u ^ 2 - ve ^ 2).fdiv (2 * (max dstop 1 : Int))

/-- R309: how a move of length l microsteps from standstill is shortened: 0 not at all, 1 by a jump to v0 and D1, 2 by
accelerating at A1 for the whole of it. -/
def shortOf (q : Profile) (l : Nat) : Nat :=
  if q.ve ≤ q.vs then (if 2 * q.d1 * l < q.vs ^ 2 - q.ve ^ 2 then 1 else 0)
  else (if 2 * q.a1 * l < q.ve ^ 2 - q.vs ^ 2 then 2 else 0)

/-- Speed of the jump of R309, √(VE² + 2·D1·L). -/
def shortJump (q : Profile) (l : Nat) : Int := (isqrt ((q.ve ^ 2 + 2 * q.d1 * l) * 2 ^ 32) : Nat)

/-- Microsteps issued: those p has crossed in the direction of motion. -/
def AxSt.issued (h : AxSt) : Int := s32 (if h.v < 0 then -((-h.p).fdiv (2 ^ 32)) else h.p.fdiv (2 ^ 32))

/-- Direction of motion: 1, −1, or 0 at standstill. -/
def AxSt.dir (h : AxSt) : Int := if 0 < h.v then 1 else if h.v < 0 then -1 else 0

/-- Speed without its sign. -/
def AxSt.speed (h : AxSt) : Int := (h.v.natAbs : Int)

/-! ### Access -/

/-- Axis x beyond its registers. -/
def Chip.ax (c : Chip) (x : Nat) : AxSt := nth {} c.axes x

/-- Change axis x beyond its registers. -/
def Chip.setAx (c : Chip) (x : Nat) (f : AxSt → AxSt) : Chip := { c with axes := upd c.axes x f }

/-- Set a sticky flag of word 0x0039 and its live bit. -/
def Chip.xOn (c : Chip) (x n : Nat) : Chip :=
  let a := axisAt x + 0x0039
  (c.setWord a (BitVec.ofNat 32 (withBit (c.nat a) n true))).putBit (axisAt x) Axis.flags_now n true

/-- Clear a live bit of word 0x003A. -/
def Chip.xOff (c : Chip) (x n : Nat) : Chip := c.putBit (axisAt x) Axis.flags_now n false

/-- Set or clear a condition. -/
def Chip.xSet (c : Chip) (x n : Nat) (b : Bool) : Chip := if b then c.xOn x n else c.xOff x n

/-! Bit numbers of word 0x0039. -/

def xLimStop : Nat := 0
def xHfault : Nat := 1
def xLost : Nat := 5
def xGearLag : Nat := 6
def xMaster : Nat := 7
def xQuietDev : Nat := 8
def xProf : Nat := 9
def xSoft : Nat := 10
def xQuietMm : Nat := 11

/-- The flag of a driver fault cause: 1 overcurrent, 2 open, 3 thermal. -/
def xDriver (cause : Nat) : Nat := if cause = 1 then 2 else if cause = 2 then 3 else 4

/-- Is the axis in use? -/
def Chip.axUsed (c : Chip) (x : Nat) : Bool := c.flag (axisAt x) Axis.enabled && c.fitted (x / 2)

/-- Is the stage energised? -/
def Chip.stageOn (c : Chip) (x : Nat) : Bool := c.axUsed x && (c.ax x).causes == 0 && (c.ax x).fault == 0

/-- The state of Table 11.9. -/
def Chip.axState (c : Chip) (x : Nat) : Nat :=
  if !c.axUsed x then 0 else if (c.ax x).fault != 0 then 8 else if !c.stageOn x then 7 else (c.ax x).mode

/-- The target the block shows: of the running move, D when geared, else the position. -/
def AxSt.goal (h : AxSt) (lag : Int) : Int :=
  match h.motion with
  | .goto t _ _ => t
  | .ease (some t) => t
  | .gear => h.issued + lag
  | _ => h.issued

/-- Standstill: nothing moves and no motion is under way. -/
def AxSt.atStill (h : AxSt) : Bool := h.v == 0 && (h.motion == .still || h.motion == .speed)

/-- Write the running fields of the axis block; the bridges of a stage that is off are off. quiet_dev stands while the axis may not drive
quietly for want of coil values, or for a deviation until standstill (R323, R324). -/
def Chip.axSync (c0 : Chip) (x : Nat) : Chip :=
  let b := axisAt x
  let c1 := c0.when (!c0.stageOn x) (·.setAx x (fun h => { h with bridgeA := {}, bridgeB := {}, quietMv := (0, 0) }))
  let h := c1.ax x
  let c := c1.putBit b Axis.flags_now xQuietDev (h.strong || (c1.flag b Axis.quiet_en && !h.coil && c1.stageOn x))
  let v := if h.v < 0 then -((-h.v).fdiv 65536) else h.v.fdiv 65536
  (((((((((c.put b Axis.state (c.axState x)).put b Axis.pos (unsigned 32 h.issued)).put b Axis.vel (unsigned 32 v)).put b
    Axis.target (unsigned 32 (h.goal (c.getS b Axis.lag)))).put b Axis.still (b2n h.atStill)).put b
    Axis.stage_on (b2n (c.stageOn x))).put b Axis.loop_owned (b2n h.owned)).put b Axis.gstage h.gStage).put b
    Axis.lim_neg_now (b2n (h.seen.testBit 0))).put b Axis.lim_pos_now (b2n (h.seen.testBit 1)) |>.put b
    Axis.home_now (b2n (h.seen.testBit 2)) |>.put b Axis.travel (min (h.trip / 256) (2 ^ 32 - 1))

/-- Record an axis event. -/
def Chip.xRecord (c : Chip) (source x severity : Nat) (bs ws : List Nat) : Chip :=
  c.record source (x / 2) severity x bs ws

/-- The position as a payload word. -/
def Chip.xPos (c : Chip) (x : Nat) : Nat := unsigned 32 (c.ax x).issued

/-- Change the reference state (R306). -/
def Chip.setRef (c : Chip) (x new : Nat) : Chip :=
  let old := c.get (axisAt x) Axis.ref_state
  if old = new then c
  else (c.put (axisAt x) Axis.ref_state new).xRecord 48 x (if new = 0 then 1 else 0) [old, new] [c.xPos x]

/-- End the running act with a code (R200, R311). -/
def Chip.endAct (c : Chip) (x code : Nat) : Chip :=
  let h := c.ax x
  match h.act with
  | none => c.setAx x (fun h => { h with hStep := 0 })
  | some s =>
    let c1 := c.setAx x (fun h => { h with
      act := none
      hStep := 0
      acts := h.acts.map (fun a => if a.seq = s then { a with busy := false, code := code } else a) })
    let c2 := c1.put (axisAt x) Axis.code code
    if h.actKind = 1 || h.actKind = 2 then c2.bump (axisAt x) Axis.moves else c2

/-- Begin an act of a kind (1 move, 2 homing, 3 stop, 4 gearing) for invocation s; an earlier act ends with 16. -/
def Chip.beginAct (c : Chip) (x kind s : Nat) : Chip :=
  (c.endAct x 16).setAx x (fun h => { h with
    act := some s, actKind := kind, acts := ⟨s, true, 0⟩ :: h.acts.filter (fun a => a.seq != s) })

/-- A refusal reaches its own block alone (R312). -/
def Chip.refuseAct (c : Chip) (x s code : Nat) : Chip :=
  c.setAx x (fun h => { h with acts := ⟨s, false, code⟩ :: h.acts.filter (fun a => a.seq != s) })

/-- Loss in motion (R326): the axis becomes estimated when trust_stored is set, and unreferenced otherwise. -/
def Chip.lossInMotion (c : Chip) (x : Nat) (speed : Int) : Chip :=
  ((c.xOn x xLost).xRecord 52 x 2 [] [c.xPos x, unsigned 32 (speed.fdiv 65536)]).setRef x (c.get (axisAt x) Axis.trust_stored)

/-! ### Profile and limits -/

/-- A profile under a lower speed limit: a homing speed caps every speed of it. -/
def Profile.capped (q : Profile) (top : Nat) : Profile :=
  { q with vs := min q.vs top, ve := min q.ve top, vb := min q.vb top, vm := min q.vm top }

/-- Take the profile and homing fields for a motion (R307, R335): clamp to vlim, then rule LW three times. -/
def Chip.takeProfile (c : Chip) (x : Nat) : Chip :=
  let b := axisAt x
  let lim := c.get b Axis.vlim
  let vs := min (c.get b Axis.vs) lim
  let ve := min (c.get b Axis.ve) lim
  let vb0 := min (c.get b Axis.vb) lim
  let vm0 := min (c.get b Axis.vmax) lim
  let vb1 := max vb0 vs
  let vb2 := max vb1 ve
  let vm := max vm0 vb2
  let mm := vb0 < vs || vb1 < ve || vm0 < vb2
  let q : Profile :=
    { vs := vs, ve := ve, vb := vb2, vm := vm, a1 := c.getI b Axis.accel 0,
      a2 := c.getI b Axis.accel 1, d2 := c.getI b Axis.accel 2, d1 := c.getI b Axis.accel 3 }
  let par : HomePar :=
    { vh1 := min (c.get b Axis.vh1) lim, vh2 := min (c.get b Axis.vh2) lim, margin := c.get b Axis.hmargin
      hmax := c.get b Axis.hmax, pos := c.getS b Axis.home_pos, park := c.getS b Axis.park, parkEn := c.flag b Axis.park_en }
  let lo := c.getS b Axis.pos_min
  let hi := c.getS b Axis.pos_max
  let c1 := (c.xSet x xProf mm).xSet x xSoft (hi < lo)
  c1.setAx x (fun h => { h with prof := q, base := q, home := par, softLo := lo, softHi := if hi < lo then lo else hi })

/-- A switch: its filter's state, is it asserted, and is it a DI channel with a valid image (R315)? -/
structure Switch where
  raw : Bool
  on : Bool
  di : Bool
  ok : Bool
  deriving DecidableEq, Repr

/-- The switch on channel cc of the axis's region. A limit switch that is no DI channel with a valid image counts as asserted. -/
def Chip.switchOf (c : Chip) (x : Nat) (cc : Nat) (low : Bool) : Switch :=
  if 16 ≤ cc then ⟨false, false, false, false⟩
  else
    let g := 16 * (x / 2) + cc
    let di := c.mode g == 7
    let ok := di && (c.liveStatus g).testBit stValid
    ⟨(c.chan g).state, !ok || (c.chan g).state != low, di, ok⟩

/-- The three switches by number: 0 lim_neg, 1 lim_pos, 2 home_sw. -/
def Chip.switchNo (c : Chip) (x n : Nat) : Switch :=
  let b := axisAt x
  if n = 0 then c.switchOf x (c.get b Axis.lim_neg) (c.flag b Axis.neg_low)
  else if n = 1 then c.switchOf x (c.get b Axis.lim_pos) (c.flag b Axis.pos_low)
  else
    -- the home switch is no limit switch: without a valid image it is not asserted
    let s := c.switchOf x (c.get b Axis.home_sw) (c.flag b Axis.home_low)
    { s with on := s.on && s.ok }

/-- The axis takes the switches as they stand. -/
def Chip.axLook (c : Chip) (x : Nat) : Chip :=
  let sw := (List.range 3).map (c.switchNo x)
  let bits (f : Switch → Bool) : Nat := ((sw.zipIdx).map (fun e => b2n (f e.1) * 2 ^ e.2)).sum
  c.setAx x (fun h => { h with seen := bits Switch.on + 8 * bits Switch.raw + 64 * bits Switch.di })

/-- Is a limit switch asserted in a direction? -/
def Chip.limitToward (c : Chip) (x : Nat) (d : Int) : Bool :=
  if 0 < d then (c.switchNo x 1).on else if d < 0 then (c.switchNo x 0).on else false

/-! ### Motion -/

/-- The axis stands still from now on. -/
def Chip.atRest (c : Chip) (x : Nat) : Chip :=
  c.setAx x (fun h => { h with
    p := pFix h.issued, v := 0, motion := .still, stillAt := c.now, holding := false, strong := false, limStop := false })

/-- Set out toward a target from the present speed with the profile taken (R312). A target behind the axis, or too near to stop at, is
reached after a stop through VE. -/
def Chip.setOut (c : Chip) (x : Nat) (target : Int) : Chip :=
  let h := c.ax x
  let rem := pFix target - h.p
  if h.v = 0 then
    c.setAx x (fun h => { h with
      motion := .goto target (shortOf h.prof (target - h.issued).natAbs == 1) (shortOf h.prof (target - h.issued).natAbs)
      holding := false })
  else if decDist h.prof h.speed ≤ h.dir * rem then c.setAx x (fun h => { h with motion := .goto target false 0 })
  else c.setAx x (fun h => { h with motion := .ease (some target) })

/-- Start a move: take the profile, and set out. -/
def Chip.startGoto (c : Chip) (x : Nat) (target : Int) : Chip := (c.takeProfile x).setOut x target

/-- Seek at a homing speed in a direction. -/
def Chip.startRun (c : Chip) (x speed : Nat) (d : Int) : Chip :=
  c.setAx x (fun h => { h with
    prof := h.base.capped speed, motion := .run speed (decide (d < 0)), hFrom := h.issued, hLat := false, holding := false })

/-- Begin a stop at dstop; at standstill there is nothing to stop. -/
def Chip.brake (c : Chip) (x : Nat) (limit : Option (Int × Nat)) : Chip :=
  c.setAx x (fun h => { h with motion := .brake limit })

/-! ### The stage -/

/-- The terms of the cosine's series from term t on, with 60 fraction bits, for the square x2 of the angle. -/
def cosTerms (x2 : Nat) : Nat → Nat → Int → Int
  | 0, _, _ => 0
  | n + 1, k, t => t + cosTerms x2 n (k + 2) (-((t * x2).fdiv (2 ^ 60 * ((k + 1) * (k + 2)))))

/-- cos(π·n/512) for n from 0 to 256, with 60 fraction bits; the constant is π with as many (log entry 127). -/
def cosQuarter (n : Nat) : Int :=
  let x := n * 3622009729038561421 / 512
  cosTerms (x * x / 2 ^ 60) 14 0 (2 ^ 60)

/-- cos(π·p/512) of a microstep p. -/
def cosStep (p : Int) : Int :=
  let n := (p % 1024).toNat
  if n ≤ 256 then cosQuarter n else if n ≤ 512 then -cosQuarter (512 - n)
  else if n ≤ 768 then -cosQuarter (n - 512) else cosQuarter (1024 - n)

/-- The set current in mA rms: i_hold when it is in use, else i_run (R322). -/
def Chip.setCurrent (c : Chip) (x : Nat) : Nat :=
  if (c.ax x).holding then c.get (axisAt x) Axis.i_hold else c.get (axisAt x) Axis.i_run

/-- The phase targets I_pk·cos(π·p/512) and I_pk·sin(π·p/512) in mA, I_pk = √2 times the set current (R304), toward zero. -/
def Chip.phaseTargets (c : Chip) (x : Nat) : Int × Int :=
  let p := (c.ax x).issued
  let pk : Int := (isqrt (2 * c.setCurrent x ^ 2 * 2 ^ 40) : Nat)
  ((pk * cosStep p).tdiv (2 ^ 80), (pk * cosStep (p - 256)).tdiv (2 ^ 80))

/-- The base of the result record of a survey target (Tables 4.9 and 4.11). -/
def recAt (kind idx : Nat) : Nat :=
  surveyAt + (if kind = 0 then 0x100 + 8 * idx else if kind = 1 then 0x500 + 8 * idx else if kind = 2 then 0x580 + 8 * idx
    else if kind = 3 then 0x5C0 + 8 * idx else if kind = 4 then 0x5D0 else if kind = 5 then 0x618 else 0x5D8 + 8 * idx)

/-- The chopper's times in ps (R321): the off-time, its fast-decay part, and the blank time after a switching edge. -/
structure Chopper where
  off : Nat
  fast : Nat
  blank : Nat
  deriving DecidableEq, Repr

/-- The chopper of axis x. -/
def Chip.chopper (c : Chip) (x : Nat) : Chopper :=
  let b := axisAt x
  let off := 500000 * (1 + c.get b Axis.toff)
  ⟨off, off * c.get b Axis.fd / 16, 500000 * (1 + c.get b Axis.blank)⟩

/-- A bridge under the fixed off-time chopper for t ps, in at most n acts (R321): it drives until the sensed current reaches the target,
compared once the blank time is over, then is off for the off-time, first reversed and then shorted. -/
def Bridge.chop (k : Chopper) (reached : Bool) : Nat → Bridge → Nat → Bridge
  | 0, b, _ => b
  | n + 1, b, t =>
    let until_ (len : Nat) (next : BridgeAct) : Bridge :=
      if b.ps + t < len then { b with ps := b.ps + t } else Bridge.chop k reached n ⟨next, 0⟩ (t - (len - b.ps))
    match b.act with
    | .drive => if reached then until_ k.blank .fast else { b with ps := min (b.ps + t) k.blank }
    | .fast => until_ k.fast .slow
    | .slow => until_ (k.off - k.fast) .drive
    | .off => Bridge.chop k reached n ⟨.drive, 0⟩ t
    | .pwm => Bridge.chop k reached n ⟨.drive, 0⟩ t

/-- A phase's voltage in mV in quiet drive (R323): what drives the target current i, in mA, that changes by di mA/s, through a coil of r mΩ and
l µH, times the amplitude factor (log entry 150). -/
def quietVolts (amp : Nat) (r l : Nat) (i di : Int) : Int := (((i * r).tdiv 1000 + (l * di).tdiv 1000000) * amp).tdiv 65536

/-- One update of the bridges: the chopper in strong drive, whose comparators see the sensed currents; the phase voltages in quiet drive. -/
def Chip.driveBridges (c : Chip) (x : Nat) : Chip :=
  let b := axisAt x
  let (ta, tb) := c.phaseTargets x
  if c.flag b Axis.quiet_now then
    let h := c.ax x
    -- the targets turn through π/512 for each microstep: dI_A/dt = -ω·I_B and dI_B/dt = ω·I_A
    let turn (i : Int) : Int := (i * h.v * 3141593).tdiv (512 * 65536 * 1000000)
    -- words 1 and 2 of the axis's survey record hold the resistances, 3 and 4 the inductances (Table 4.11)
    let volts (e : Nat) (i di : Int) : Int := quietVolts h.quietAmp (c.nat (recAt 1 x + 1 + e)) (c.nat (recAt 1 x + 3 + e)) i di
    c.setAx x (fun h => { h with bridgeA := ⟨.pwm, 0⟩, bridgeB := ⟨.pwm, 0⟩, quietMv := (volts 0 ta (-turn tb), volts 1 tb (turn ta)) })
  else
    let k := c.chopper x
    let run (br : Bridge) (sensed : Nat) (target : Int) : Bridge := br.chop k (decide (target.natAbs ≤ sensed)) 64 10000000
    c.setAx x (fun h => { h with
      bridgeA := run h.bridgeA (c.get b Axis.ia_ma) ta, bridgeB := run h.bridgeB (c.get b Axis.ib_ma) tb, quietMv := (0, 0) })

/-- Since when a phase's sensed current lies below 10 % of a target of at least 200 mA; a smaller target judges nothing (R327, log
entry 127). -/
def openSince (since : Option Nat) (target : Int) (sensed now : Nat) : Option Nat :=
  if target.natAbs < 200 then since
  else if target.natAbs ≤ 10 * sensed then none
  else since.or (some now)

/-- Is quiet drive wanted (R323)? -/
def Chip.quietWanted (c : Chip) (x : Nat) : Bool :=
  let b := axisAt x
  let h := c.ax x
  let vq := c.get b Axis.v_quiet
  let hy := c.get b Axis.hyst
  let v := h.speed.toNat
  let band := if c.flag b Axis.quiet_now then decide (v < vq * 65536)
    else if hy < vq then decide (v < (vq - hy) * 65536) else h.atStill
  c.flag b Axis.quiet_en && h.coil && !h.strong && band

/-- Take the wanted drive at a full-step boundary (R323); quiet drive begins with its amplitude uncorrected. -/
def Chip.quietTake (c : Chip) (x : Nat) : Chip :=
  let b := axisAt x
  let c1 := c.xSet x xQuietMm (c.get b Axis.v_quiet < c.get b Axis.hyst)
  let c2 := if c.flag b Axis.quiet_en && !(c.ax x).coil then c1.xOn x xQuietDev else c1
  let want := c.quietWanted x
  (c2.when (want && !c.flag b Axis.quiet_now) (·.setAx x (fun h => { h with quietAmp := 65536 }))).put b Axis.quiet_now (b2n want)

/-- The stage goes off: the act ends with a code, in motion with a loss; a stop under way that was to switch it off for other causes has
its end (R326). -/
def Chip.stageLost (c : Chip) (x code : Nat) : Chip :=
  let h := c.ax x
  let c2 := c.endAct x code
  let c3 := (if h.v = 0 then c2 else c2.lossInMotion x h.speed).atRest x
  c3.setAx x (fun h => { h with mode := if h.owned then 5 else 1, causes := h.causes ||| h.thenOff, thenOff := 0 })

/-- The stage comes back: it energises at p with i_hold (R326). -/
def Chip.stageBack (c : Chip) (x : Nat) : Chip :=
  (c.setAx x (fun h => { h with
    holding := true, stillAt := c.now, mode := if h.owned then 5 else 1
    motion := if h.owned then .speed else .still })).quietTake x

/-- Give the stage its causes to stay off, and carry out what follows (R326). -/
def Chip.stageSet (c : Chip) (x causes : Nat) : Chip :=
  let was := c.stageOn x
  let c1 := c.setAx x (fun h => { h with causes := causes })
  (if was && !c1.stageOn x then c1.stageLost x 11 else if !was && c1.stageOn x then c1.stageBack x else c1).axSync x

/-- Change one cause that keeps a stage off. -/
def Chip.stageCause (c : Chip) (x n : Nat) (on : Bool) : Chip := c.stageSet x (withBit (c.ax x).causes n on)

/-- Does a jump to zero speed lose steps: from above max(VS, VE) (R326)? -/
def AxSt.jumpLoses (h : AxSt) : Bool := decide (vFix (max h.prof.vs h.prof.ve) < h.speed)

/-- A quick stop: a jump to zero speed; from above max(VS, VE) it is a loss in motion, which ends the act with 11 (R316, R326). -/
def Chip.jumpStop (c : Chip) (x : Nat) : Chip :=
  let h := c.ax x
  (if h.jumpLoses then (c.endAct x 11).lossInMotion x h.speed else c).atRest x

/-! ### Homing and the end of motions -/

/-- The homing switch of a mode, and its seek direction (Table 11.5). -/
def homeSwitch (mode : Nat) : Nat := if mode = 1 then 0 else if mode = 2 then 1 else 2
/-- Seek direction. -/
def homeDir (mode : Nat) : Int := if mode = 2 || mode = 4 then 1 else -1

/-- A homing fault (R320): flag, record, end the act with the code, stop at dstop. -/
def Chip.homeFault (c : Chip) (x code : Nat) : Chip :=
  let step := (c.ax x).hStep
  let c1 := ((c.xOn x xHfault).xRecord 49 x 2 [step, code] [c.xPos x]).endAct x code
  (c1.setAx x (fun h => { h with mode := 6 })).brake x none

/-- A homing edge is latched (R318, R319): what each step does at a change of S to `on`. -/
def Chip.homeEdge (c : Chip) (x : Nat) (on : Bool) : Chip :=
  let h := c.ax x
  let p := h.issued
  if h.hLat then c
  else if h.hStep = 1 && on then (c.setAx x (fun h => { h with hLat := true })).brake x none
  else if h.hStep = 2 && !on then c.setAx x (fun h => { h with hLat := true, hRel := p })
  else if h.hStep = 3 && on then (c.setAx x (fun h => { h with hLat := true, hRef := p })).brake x none
  else if h.hStep = 4 && !on then
    if h.hMode = 5 then
      (c.setAx x (fun h => { h with hLat := true, hRef := h.hRef + (p - h.hRef).fdiv 2 })).brake x none
    else c.homeFault x 7
  else c

/-- Begin homing step k from standstill (Table 11.4): a limit switch that is not S and is already met ends homing. A step that waits for what
S already shows has its edge at once (log entry 151). -/
def Chip.homeStep (c : Chip) (x k : Nat) : Chip :=
  let h := c.ax x
  let n := homeSwitch h.hMode
  let d := if k = 2 then -homeDir h.hMode else homeDir h.hMode
  let s := (c.switchNo x n).on
  let c1 := c.setAx x (fun h => { h with hStep := k, hLat := false })
  let other := if 0 < d then 1 else 0
  if other ≠ n && (c.switchNo x other).on then c1.homeFault x 9
  else if k = 4 && h.hMode ≠ 5 then
    if s then (c1.setAx x (fun h => { h with prof := h.base.capped h.home.vh2 })).setOut x (h.hRef + d * h.home.margin)
    else c1.homeFault x 7
  else (c1.startRun x (if 3 ≤ k then h.home.vh2 else h.home.vh1) d).homeEdge x s

/-- End of an act that completed. -/
def Chip.actDone (c : Chip) (x : Nat) : Chip := (c.endAct x 0).setAx x (fun h => { h with mode := 1 })

/-- Homing steps 5 and 6 (R318): re-base p, become referenced, and park if asked to. -/
def Chip.homeDone (c : Chip) (x : Nat) : Chip :=
  let h := c.ax x
  let p := s32 (h.home.pos + (h.issued - h.hRef))
  let c1 := (c.setAx x (fun h' => { h' with
    p := pFix p, hStep := 6, rebased := h.rebased + (p - h.issued) })).put (axisAt x) Axis.pref (unsigned 32 h.hRef)
  let c2 := (c1.setRef x 2).xOff x xLost
  if h.home.parkEn then
    let t := h.home.park
    let code := if t < h.softLo || h.softHi < t then 4 else if c2.limitToward x (t - p) then 5 else 0
    if code ≠ 0 then (c2.endAct x code).setAx x (fun h => { h with mode := 1 })
    else if t = p then c2.actDone x
    else (c2.setAx x (fun h => { h with prof := h.base })).setOut x t
  else c2.actDone x

/-- What follows when a motion has come to rest. -/
def Chip.motionEnd (c : Chip) (x : Nat) : Chip :=
  let h := c.ax x
  let c1 := c.atRest x
  if h.thenOff ≠ 0 then c1.stageSet x (h.causes ||| h.thenOff)
  else if h.mode = 2 then c1.actDone x
  else if h.mode = 3 then
    if h.hStep = 1 || h.hStep = 2 || h.hStep = 3 then c1.homeStep x (h.hStep + 1)
    else if h.hStep = 4 then c1.homeDone x
    else c1.actDone x
  else if h.mode = 5 then c1.setAx x (fun h => { h with motion := .speed })
  else
    let c2 := if h.actKind = 3 || h.actKind = 4 then c1.endAct x 0 else c1
    c2.setAx x (fun h => { h with mode := if h.owned then 5 else 1, motion := if h.owned then .speed else .still })

/-! ### Switches -/

/-- A limit switch stop (R316). -/
def Chip.limitStop (c : Chip) (x n : Nat) : Chip :=
  let c1 := (((c.xOn x xLimStop).xRecord 50 x 1 [n] [c.xPos x]).endAct x 6).setAx x (fun h => { h with mode := 6, limStop := true })
  if c.flag (axisAt x) Axis.lim_quick then (c1.jumpStop x).motionEnd x else c1.brake x none

/-- Does a motion of this mode stop at a limit switch: a move, speed mode, gearing, and homing from step 6 on? -/
def AxSt.limited (h : AxSt) : Bool := h.mode == 2 || h.mode == 4 || h.mode == 5 || (h.mode == 3 && h.hStep == 6)

/-- The axis looks at its switches (R315, R316, R318, R334): in homing a named switch channel that leaves DI mode ends it with 10, a limit
switch that is not S with 9, and a change of S's filter is an edge; a limit switch met in the direction of motion stops the axis. -/
def Chip.axSwitches (c : Chip) (x : Nat) : Chip :=
  if !c.axUsed x then c
  else
    let h := c.ax x
    let c1 := c.axLook x
    let now := (c1.ax x).seen
    let n := homeSwitch h.hMode
    let other := if 0 < h.dir then 1 else 0
    let homing := h.mode == 3 && 1 ≤ h.hStep && h.hStep ≤ 4
    let left := (List.range 3).any (fun k => h.seen.testBit (6 + k) && !now.testBit (6 + k))
    let c2 :=
      if !c.stageOn x then c1
      else if homing && (left || !now.testBit (6 + n)) then c1.homeFault x 10
      else if homing && h.dir != 0 && other != n && now.testBit other then c1.homeFault x 9
      else if homing && h.seen.testBit (3 + n) != now.testBit (3 + n) then
        c1.homeEdge x (now.testBit (3 + n) != c.flag (axisAt x) (if n = 0 then Axis.neg_low else if n = 1 then Axis.pos_low else Axis.home_low))
      else if h.limited && h.dir != 0 && now.testBit other then c1.limitStop x other
      else c1
    c2.axSync x

/-- The axes of channel g's region look at their switches. -/
def Chip.switchesOf (c : Chip) (g : Nat) : Chip := (c.axSwitches (2 * (g / 16))).axSwitches (2 * (g / 16) + 1)

/-! ### Requests (Table 11.2) -/

/-- The code of the rows that hold for any request except stop; a held stop refuses every request (R200). -/
def Chip.axRefusal (c : Chip) (x : Nat) : Nat :=
  let h := c.ax x
  if !c.axUsed x then 2
  else if h.causes.testBit 4 then 14
  else if (withBit h.causes 5 false) != 0 then 11
  else if h.fault != 0 then 15
  else if h.owned then 17
  else if !h.stops.isEmpty then 1
  else 0

/-- Motion restores a stage that idle_off switched off (R322). -/
def Chip.wake (c : Chip) (x : Nat) : Chip := if (c.ax x).causes.testBit 5 then c.stageCause x 5 false else c

/-- A move request. -/
def Chip.reqMove (c : Chip) (s x pos : Nat) (rel : Bool) : Chip :=
  let h := c.ax x
  let b := axisAt x
  let p := h.issued
  let t := if rel then s32 (p + signed 32 pos) else signed 32 pos
  let ref := c.get b Axis.ref_state
  let lo := c.getS b Axis.pos_min
  let hi := max lo (c.getS b Axis.pos_max)
  let r := c.axRefusal x
  let code :=
    if r != 0 then r
    else if h.mode != 1 && h.mode != 2 then 2
    else if !rel && ref == 0 then 3
    else if ref != 0 && (t < lo || hi < t) then 4
    else if c.limitToward x (t - p) then 5
    else 0
  if code ≠ 0 then c.refuseAct x s code
  else
    let c1 := ((((c.wake x).beginAct x 1 s).setAx x (fun h => { h with mode := 2 })).xOff x xLimStop).xOff x xHfault
    (if h.v = 0 && t = p then c1.actDone x else c1.startGoto x t).axSync x

/-- A homing request. -/
def Chip.reqHome (c : Chip) (s x mode : Nat) : Chip :=
  let h := c.ax x
  let m := signed 32 mode
  let r := c.axRefusal x
  let n := homeSwitch mode
  let code :=
    if r != 0 then r
    else if h.mode != 1 || m < 1 || 6 < m then 2
    else if mode != 6 && !(c.switchNo x n).ok then 10
    else 0
  if code ≠ 0 then c.refuseAct x s code
  else
    let c1 := ((((((c.wake x).beginAct x 2 s).takeProfile x).setAx x (fun h => { h with
      mode := 3, hMode := mode, hRef := h.issued })).xOff x xLimStop).xOff x xHfault).axLook x
    (if mode = 6 then c1.homeDone x
      else if (c.switchNo x n).on then c1.homeStep x 2
      else c1.homeStep x 1).axSync x

/-- The running total of a gearing master: E0, E1 or a CNT channel (R329). -/
def Chip.masterTotal (c : Chip) (kind ch : Nat) : Nat :=
  if kind = 1 then c.get (regionAt 0) Enc.count
  else if kind = 2 then c.get (regionAt 1) Enc.count
  else c.get (chanAt ch) Dig.count

/-- A master fault (R331); the flag of R67 counts on a channel's count since engage. -/
def Chip.masterFault (c : Chip) (kind ch short : Nat) : Bool :=
  let enc := fun r => c.clkLost r 5 || c.flag (regionAt r) Enc.overrun || c.flag (regionAt r) Enc.enc_err
  if kind = 1 then enc 0
  else if kind = 2 then enc 1
  else c.clkLost (ch / 16) 5 || (c.chan ch).shorts != short || c.mode ch != 11
    || (c.liveStatus ch).testBit stFault

/-- Fields of gearing stage k: num, den, pos (R329). -/
def Chip.stageFields (c : Chip) (x k : Nat) : Int × Nat × Int :=
  let b := axisAt x
  (signed 32 (c.getI b Axis.num k), c.getI b Axis.den k, if k = 0 then 0 else signed 32 (c.getI b Axis.pos_k k))

/-- A gearing request: a rising edge of en engages (R329), a falling edge disengages at D2 and D1 (R330). -/
def Chip.reqGear (c : Chip) (s x : Nat) (engage : Bool) : Chip :=
  let h := c.ax x
  let b := axisAt x
  if engage then
    let r := c.axRefusal x
    let kind := c.get b Axis.mkind
    let code := if r != 0 then r else if h.mode != 1 then 2 else if kind == 0 then 13 else 0
    if code ≠ 0 then c.refuseAct x s code
    else
      let ch := c.get b Axis.mch
      let c1 := ((((c.wake x).beginAct x 4 s).takeProfile x).xOff x xGearLag).xOff x xMaster
      (c1.setAx x (fun h => { h with
        mode := 4, motion := .gear, holding := false, gTotal := c.masterTotal kind ch, gAnchor := h.issued, gStage := 0,
        gKind := kind, gCh := ch, gShorts := (c.chan ch).shorts,
        gStages := (List.range (c.get b Axis.nstage + 1)).map (c.stageFields x) })).axSync x
  else if h.mode = 4 && h.act = some s then
    (c.setAx x (fun h => { h with mode := 6, motion := .ease none })).axSync x
  else c

/-- A driver fault's cause is gone: the sensed currents and junction no longer show it, and an open phase is judged on an
energised stage alone (R327). -/
def Chip.driverClear (c : Chip) (x cause : Nat) : Bool :=
  let b := axisAt x
  if cause = 1 then c.get b Axis.ia_ma < 3200 && c.get b Axis.ib_ma < 3200
  else if cause = 3 then c.getS b Axis.bridge_tj < 2400
  else true

/-- The causes of the driver fault that stands. -/
def AxSt.faults (h : AxSt) : List Nat := [1, 2, 3].filter h.fault.testBit

/-- Clear a driver fault whose causes have gone. -/
def Chip.clearDriver (c : Chip) (x : Nat) : Chip :=
  let fs := (c.ax x).faults
  if fs.isEmpty || !fs.all (c.driverClear x) then c
  else
    let c1 := (c.setAx x (fun h => { h with fault := 0 })).each fs (fun c f => c.xOff x (xDriver f))
    (if c1.stageOn x then c1.stageBack x else c1).axSync x

/-- Block s holds axis x stopped, or no longer. -/
def Chip.stopLevel (c : Chip) (x s : Nat) (on : Bool) : Chip :=
  c.setAx x (fun h => { h with
    stops := if on then (if h.stops.contains s then h.stops else s :: h.stops) else h.stops.filter (· != s) })

/-- A stop request accepted (R312): it ends the act with 1; the axis decelerates at dstop, or drops to zero speed at once when quick. The
stop of a limit switch continues (R334), and so does one already under way at dstop. -/
def Chip.beginStop (c : Chip) (s x : Nat) (quick : Bool) : Chip :=
  let h := c.ax x
  let jump := quick && h.v != 0 && !h.limStop
  let c1 := (c.endAct x (if jump && h.jumpLoses then 11 else 1)).setAx x (fun h => { h with
    mode := 6, act := some s, actKind := 3, acts := ⟨s, true, 0⟩ :: h.acts.filter (fun a => a.seq != s) })
  let braking := match h.motion with
    | .brake _ => true
    | _ => false
  if h.v = 0 then c1.motionEnd x
  else if jump then (c1.jumpStop x).motionEnd x
  else if h.limStop || braking then c1
  else c1.brake x none

/-- The stop level of an AXSTOP (R200, R312); quick may turn true while its stop decelerates. -/
def Chip.reqStop (c : Chip) (s x : Nat) (on quick : Bool) : Chip :=
  let h := c.ax x
  let c1 := c.stopLevel x s on
  if !on || !c.axUsed x then c1
  else if h.stops.contains s then
    if quick && h.act == some s && h.v != 0 && !h.limStop then ((c1.jumpStop x).motionEnd x).axSync x else c1
  else if h.owned then c1.refuseAct x s 17
  else ((c1.clearDriver x).beginStop s x quick).axSync x

/-- Level 2 on an axis: stop at dstop, then stage off (Table 11.3). -/
def Chip.axLevel2 (c : Chip) (x : Nat) : Chip :=
  if !c.stageOn x then c.stageCause x 2 true
  else
    let h := c.ax x
    let c1 := (c.endAct x 11).setAx x (fun h => { h with mode := 6, thenOff := withBit h.thenOff 2 true })
    (if h.v = 0 then c1.motionEnd x else if h.limStop then c1 else c1.brake x none).axSync x

/-- A loop's output demands a speed (R313): the first demand takes the axis over, and motion restores a stage that idle_off switched
off (R322). -/
def Chip.speedDemand (c : Chip) (x : Nat) (out : Int) : Chip :=
  if !c.axUsed x then c
  else
    let d := (out * (c.get (axisAt x) Axis.vlim : Int) * 65536).fdiv (2 ^ 30)
    let c1 := if (c.ax x).owned then c
      else
        let c2 := ((c.endAct x 16).takeProfile x).setAx x (fun h => { h with owned := true })
        if c.stageOn x && (c.ax x).mode != 6 then c2.setAx x (fun h => { h with mode := 5, motion := .speed }) else c2
    let c3 := c1.setAx x (fun h => { h with demand := d })
    (if d = 0 then c3 else c3.wake x).axSync x

end Sys2Proof.Machine
end

