-- ==== Sys2Proof/Machine/Axes.lean ====
section
/-! DEFINITION. The axes: the generator's update (R310, R313, R317, R329, R330), the stage's own events (R322, R327), the
commands of the axis block and the axis blocks of Table 7.10. -/

namespace Sys2Proof.Machine

/-! ### The generator -/

/-- Has M reached or crossed pos since the stage was armed at `since` (R329)? -/
def stageReached (since pos m : Int) : Bool := since == pos || m == pos || (decide (since < pos) != decide (m < pos))

/-- Take every stage that M has reached: the stage, its anchor (R329). A stage is armed at the position of the one
before it, so that the timing of updates does not change D. -/
def takeStages (st : List (Int × Nat × Int)) (m : Int) : Nat → Nat → Int → Nat × Int
  | 0, k, a => (k, a)
  | n + 1, k, a =>
    match st[k]?, st[k + 1]? with
    | some (num, den, p0), some (_, _, p1) =>
      if stageReached p0 p1 m then takeStages st m n (k + 1) (a + ((p1 - p0) * num).fdiv (den : Int)) else (k, a)
    | _, _ => (k, a)

/-- The demand of stage k (R329). -/
def gearDemand (st : List (Int × Nat × Int)) (m : Int) (k : Nat) (a : Int) : Int :=
  match st[k]? with
  | some (num, den, p0) => a + ((m - p0) * num).fdiv (den : Int)
  | none => a

/-- Remaining distance to the soft limit ahead, and that limit, on an axis that has soft limits (R317). -/
def Chip.softAhead (c : Chip) (x : Nat) : Option (Int × Int) :=
  let h := c.ax x
  if c.get (axisAt x) Axis.ref_state = 0 || h.v = 0 then none
  else
    let lim := if 0 < h.v then h.softHi else h.softLo
    some (h.dir * (pFix lim - h.p), lim)

/-- Move by a speed and distance in a direction. -/
def Chip.moved (c : Chip) (x : Nat) (d u dist : Int) : Chip :=
  c.setAx x (fun h => { h with v := d * u, p := h.p + d * dist })

/-- Update of a motion toward a target. -/
def Chip.updGoto (c : Chip) (x : Nat) (t : Int) (dec : Bool) (short : Nat) : Chip :=
  let h := c.ax x
  let q := h.prof
  let rem := pFix t - h.p
  let d : Int := if h.v = 0 then (if rem < 0 then -1 else 1) else h.dir
  let u0 := if h.v = 0 then (if short = 1 then shortJump q (t - h.issued).natAbs else vFix q.vs) else h.speed
  let (u, dist) := ramp q 3 u0 (if dec then vFix q.ve else vFix q.vm) updatePs
  let left := d * rem - dist
  if left ≤ 0 || (dec && u ≤ vFix q.ve) then (c.setAx x (fun h => { h with p := pFix t, v := 0 })).motionEnd x
  else
    (c.moved x d u dist).setAx x (fun h => { h with
      motion := .goto t (dec || (short != 2 && left ≤ decDist q u)) short })

/-- Update of a homing seek: the speed, the margin after the release of step 2, and the travel limit. -/
def Chip.updRun (c : Chip) (x speed : Nat) (neg : Bool) : Chip :=
  let h := c.ax x
  let q := h.prof
  let d : Int := if neg then -1 else 1
  let w := vFix (min speed q.vm)
  let u0 := if h.v = 0 then min (vFix q.vs) w else h.speed
  let (u, dist) := ramp q 3 u0 w updatePs
  let c1 := c.moved x d u dist
  let gone := d * ((c1.ax x).issued - h.hFrom)
  if (h.home.hmax : Int) < gone then c1.homeFault x 8
  else if h.hStep = 2 && h.hLat && decide ((h.home.margin : Int) ≤ d * ((c1.ax x).issued - h.hRel)) then c1.brake x none
  else c1

/-- Update of a stop at dstop. One at a soft limit ends there, as long as dstop is what it began with; with another dstop it ends where it
ends. -/
def Chip.updBrake (c : Chip) (x : Nat) (limit : Option (Int × Nat)) : Chip :=
  let h := c.ax x
  let ve := vFix h.prof.ve
  let dstop := c.get (axisAt x) Axis.dstop
  let a : Int := max dstop 1
  let u := h.speed - (a * updatePs * 65536).fdiv (10 ^ 12)
  let need := (max (h.speed - ve) 0 * 10 ^ 12).fdiv (65536 * a)
  let c1 := if u ≤ ve then c.moved x h.dir h.speed (meanDist h.speed (min ve h.speed) need)
    else c.moved x h.dir u (meanDist h.speed u updatePs)
  match limit.filter (fun l => l.2 == dstop) with
  | some (l, _) =>
    if u ≤ ve || decide (h.dir * (pFix l - (c1.ax x).p) ≤ 0) then (c1.setAx x (fun h => { h with p := pFix l })).motionEnd x else c1
  | none => if u ≤ ve then c1.motionEnd x else c1.setAx x (fun h => { h with motion := .brake none })

/-- Update of a stop at D2 and D1, and what follows it. -/
def Chip.updEase (c : Chip) (x : Nat) (target : Option Int) : Chip :=
  let h := c.ax x
  let ve := vFix h.prof.ve
  let (u, dist) := ramp h.prof 3 h.speed (min ve h.speed) updatePs
  let c1 := c.moved x h.dir u dist
  if u ≤ ve then
    match target with
    | some t => (c1.atRest x).setOut x t
    | none => c1.motionEnd x
  else c1

/-- Begin the stop at a soft limit if the braking distance reaches it; an axis that lies beyond it already brakes as it can. -/
def Chip.softStop (c : Chip) (x : Nat) (onStop : Chip → Chip) : Chip :=
  match c.softAhead x with
  | none => c
  | some (left, lim) =>
    let h := c.ax x
    let dstop := c.get (axisAt x) Axis.dstop
    if left ≤ brakeDist h.prof dstop h.speed then (onStop c).brake x (if left < 0 then none else some (lim, dstop)) else c

/-- Update of speed mode (R313, R317). -/
def Chip.updSpeed (c : Chip) (x : Nat) : Chip :=
  let h := c.ax x
  let d : Int := if h.demand < 0 then -1 else 1
  let w : Int := h.demand.natAbs
  if h.v = 0 then
    let atSoft := c.get (axisAt x) Axis.ref_state != 0 && (if 0 < d then h.softHi ≤ h.issued else h.issued ≤ h.softLo)
    if h.demand = 0 || atSoft || c.limitToward x d then c
    else
      let c1 := c.takeProfile x
      let q := (c1.ax x).prof
      let (u, dist) := ramp q 3 (min (vFix q.vs) w) w updatePs
      ((c1.moved x d u dist).setAx x (fun h => { h with holding := false })).softStop x id
  else if h.demand ≠ 0 && d = h.dir then
    let (u, dist) := ramp h.prof 3 h.speed w updatePs
    (c.moved x d u dist).softStop x id
  else
    let ve := vFix h.prof.ve
    let (u, dist) := ramp h.prof 3 h.speed (min ve h.speed) updatePs
    let c1 := c.moved x h.dir u dist
    if u ≤ ve then c1.motionEnd x else c1.softStop x id

/-- Gearing ends by lag or master fault: record, code, stop at dstop (R330, R331). -/
def Chip.gearEnd (c : Chip) (x code flag : Nat) (lag : Int) : Chip :=
  let c1 := (((c.xOn x flag).xRecord 53 x 2 [code] [unsigned 32 lag]).endAct x code).setAx x (fun h => { h with mode := 6 })
  c1.brake x none

/-- Update of gearing (R329 to R331). -/
def Chip.updGear (c : Chip) (x : Nat) : Chip :=
  let h := c.ax x
  let b := axisAt x
  let m := s32 ((c.masterTotal h.gKind h.gCh : Int) - (h.gTotal : Int))
  let (k, a) := takeStages h.gStages m 4 h.gStage h.gAnchor
  let dmd := gearDemand h.gStages m k a
  let lag := dmd - h.issued
  let c1 := ((c.put b Axis.moff (unsigned 32 m)).putS b Axis.lag lag).setAx x (fun h => { h with gStage := k, gAnchor := a })
  if c.masterFault h.gKind h.gCh h.gShorts then c1.gearEnd x 13 xMaster lag
  else if c.get b Axis.gear_lag_max < lag.natAbs then c1.gearEnd x 12 xGearLag lag
  else
    let vl := vFix (c.get b Axis.vlim)
    -- the speed that would make the lag good in one update of 10 µs
    let want := clampI (-vl) vl (((pFix dmd - h.p) * 100000).fdiv 65536)
    let dv := ((h.prof.a2 : Int) * updatePs * 65536).fdiv (10 ^ 12)
    let v := h.v + clampI (-dv) dv (want - h.v)
    let c2 := c1.setAx x (fun h' => { h' with v := v, p := h.p + meanDist h.v v updatePs })
    c2.softStop x (fun c => (c.endAct x 4).setAx x (fun h => { h with mode := 6 }))

/-- The full-step boundary a position lies at or has crossed last in a direction. -/
def fullStep (p : Int) (neg : Bool) : Int := if neg then -((-p).fdiv 256) else p.fdiv 256

/-- Quiet drive at a full step (R323, R324): the change of drive, the amplitude's correction from the sensed current (log entry 150), and the
deviation count, whose sixteenth takes the axis to strong drive at the next boundary. -/
def Chip.quietStep (c : Chip) (x : Nat) (before : Int) : Chip :=
  let h := c.ax x
  let b := axisAt x
  let neg := h.v < 0
  let now := fullStep h.issued neg
  if now = fullStep before neg && h.issued % 256 ≠ 0 then c
  else
    let i := c.setCurrent x
    let peak := isqrt (2 * i ^ 2)
    let sensed := c.get b (if now % 2 = 0 then Axis.ia_ma else Axis.ib_ma)
    let fresh := now != fullStep before neg
    let quiet := c.flag b Axis.quiet_now
    let dev := quiet && fresh && (25 * sensed ^ 2 < 32 * i ^ 2 || 72 * i ^ 2 < 25 * sensed ^ 2)
    let run := if !fresh then h.devRun else if dev then h.devRun + 1 else 0
    let c1 := (c.quietTake x).setAx x (fun h => { h with
      devRun := run % 16
      quietAmp := if quiet && fresh && sensed != 0 then h.quietAmp * peak / sensed else h.quietAmp })
    if 16 ≤ run then
      ((c1.xOn x xQuietDev).xRecord 54 x 1 [] [sensed, peak]).setAx x (fun h => { h with strong := true })
    else c1

/-- The sensed currents and the junction are taken, and each phase is judged for R327's open phase while the stage is energised. -/
def Chip.sense (c : Chip) (x ia ib tj : Nat) : Chip :=
  let b := axisAt x
  let (ta, tb) := c.phaseTargets x
  let on := c.stageOn x
  (((c.put b Axis.ia_ma ia).put b Axis.ib_ma ib).put b Axis.bridge_tj tj).setAx x (fun h => { h with
    openA := if on then openSince h.openA ta ia c.now else none
    openB := if on then openSince h.openB tb ib c.now else none })

/-- One update of the generator: take the sensed currents and junction, advance the motion, count the travel. -/
def Chip.generate (c : Chip) (x ia ib tj : Nat) : Chip :=
  let c0 := c.sense x ia ib tj
  if !c.stageOn x then c0.axSync x
  else
    let h := c.ax x
    let c1 := match h.motion with
      | .still => c0
      | .goto t dec short => c0.updGoto x t dec short
      | .run v neg => c0.updRun x v neg
      | .brake l => c0.updBrake x l
      | .ease t => c0.updEase x t
      | .speed => c0.updSpeed x
      | .gear => c0.updGear x
    let went := ((c1.ax x).issued - h.issued - ((c1.ax x).rebased - h.rebased)).natAbs
    let c2 := (c1.setAx x (fun h => { h with trip := h.trip + went })).quietStep x h.issued
    (if c2.stageOn x then c2.driveBridges x else c2).axSwitches x

/-- GENERATOR_UPDATE of axis x: sensed peak currents in mA, bridge junction in 1/16 °C. Updates lie 10 µs apart and need the DRV clock
(R310). -/
def execGeneratorUpdate (x : Fin 16) (ia ib tj : BitVec 16) (s : State) : Out :=
  chipOnly s (fun c =>
    if c.clkLost (x.val / 2) 5 || decide (c.now < (c.ax x.val).genAt + 10) then c
    else (c.setAx x.val (fun h => { h with genAt := c.now })).generate x.val ia.toNat ib.toNat tj.toNat)

/-! ### The stage -/

/-- HOLD_CURRENT_SWITCH (R322): after hold_delay at standstill the current changes to i_hold; with idle_off and no hold
current the stage switches off, on an axis that holds already too. -/
def execHoldCurrentSwitch (x : Fin 16) (s : State) : Out :=
  chipOnly s (fun c =>
    let h := c.ax x.val
    let b := axisAt x.val
    if !c.stageOn x.val || !h.atStill || c.now < h.stillAt + 1000 * c.get b Axis.hold_delay then c
    else
      let c1 := c.setAx x.val (fun h => { h with holding := true })
      if c.flag b Axis.idle_off && c.get b Axis.i_hold = 0 then c1.stageCause x.val 5 true else c1)

/-- Does what the module has sensed bear out a driver fault: an open phase for 10 ms, a bridge junction of 150 °C? The overcurrent acts
within 2 µs on the bridge's own comparator and needs no reading (R327). -/
def Chip.driverShows (c : Chip) (x : Nat) (phaseB : Bool) (cause : Nat) : Bool :=
  if cause = 1 then
    match (if phaseB then (c.ax x).openB else (c.ax x).openA) with
    | some t => decide (t + 10000 ≤ c.now)
    | none => false
  else cause == 0 || decide (2400 ≤ c.getS (axisAt x) Axis.bridge_tj)

/-- DRIVER_FAULT (R327): cause 0 overcurrent, 1 open phase, 2 bridge overtemperature, in a phase. The currents of a stage that is off show
none; its junction may. A further cause joins a fault that stands. -/
def execDriverFault (x : Fin 16) (phaseB : Bool) (cause : Fin 3) (s : State) : Out :=
  chipOnly s (fun c =>
    let n := cause.val + 1
    if !c.axUsed x.val || (cause.val != 2 && !c.stageOn x.val) || (c.ax x.val).fault.testBit n || !c.driverShows x.val phaseB cause.val
    then c
    else
      let was := c.stageOn x.val
      let c1 := ((c.xOn x.val (xDriver n)).xRecord 51 x.val 2 [b2n phaseB, n] []).setAx x.val (fun h => { h with
        fault := withBit h.fault n true })
      (if was then c1.stageLost x.val 11 else c1).axSync x.val)

/-- CLEAR_FAULT (R327): refused in a shadow, and while the cause persists. -/
def Chip.cmdClearFault (c : Chip) (x : Nat) : Chip :=
  if !c.opens (x / 2) then c else
  if c.shadow then c.put (axisAt x) Axis.result 3
  else
    let c1 := c.clearDriver x
    c1.put (axisAt x) Axis.result (if (c1.ax x).fault = 0 then 2 else 3)

/-- CLEAR_FAULT. -/
def execClearFault (x : Fin 16) (s : State) : Out := chipOnly s (fun c => c.cmdClearFault x.val)

/-- clear_stats of an axis (R335): moves and travel. -/
def Chip.cmdAxisStats (c : Chip) (x : Nat) : Chip :=
  if !c.opens (x / 2) then c else
  (((c.setAx x (fun h => { h with trip := 0 })).put (axisAt x) Axis.moves 0).put (axisAt x) Axis.travel 0).put (axisAt x)
    Axis.result 2

/-- AXIS_CLEAR_STATS. -/
def execAxisClearStats (x : Fin 16) (s : State) : Out := chipOnly s (fun c => c.cmdAxisStats x.val)

/-- ENCODER_Z_EDGE (R332): the Z edge copies the count. -/
def execEncoderZEdge (e : Fin 2) (s : State) : Out :=
  chipOnly s (fun c =>
    let b := regionAt e.val
    if c.get b Enc.enc_mode = 0 then c else c.put b Enc.z_count (c.get b Enc.count))

/-! ### Axis blocks (Table 7.10) -/

/-- The act of invocation s on axis x, as latched (R200). -/
def Chip.actLatched (c : Chip) (x s : Nat) : Option ActSt := (nth [] c.eng.actsLatched x).find? (fun a => a.seq == s)

/-- busy, done, err, code of a command block: `fresh` when the request is made in this evaluation, `held` while the
block's input is true. -/
def actOuts (a : Option ActSt) (fresh held : Bool) : List Nat :=
  if fresh then [1, 0, 0, 0]
  else match a with
    | none => [0, 0, 0, 0]
    | some a => [b2n a.busy, b2n (!a.busy && a.code == 0 && held), b2n (!a.busy && a.code != 0 && held), a.code]

/-- The outputs of AXMOVE and AXHOME. -/
def Chip.axCommand (c : Chip) (i : Inv) (x : Ctx) : Res :=
  { st := [b2n (x.b 0)], outs := actOuts (c.actLatched (x.p 0) i.seq) (x.b 0 && !x.wb 0) (x.b 0) }

/-- AXMOVE: a rising edge of exec requests a move to pos, or by pos when rel is true. -/
def execRunAxmove (seq : Fin 65536) (s : State) : Out :=
  chipOnly s (fun c => c.invokeWith .axmove seq.val Chip.axCommand
    (fun c i x => c.when (x.b 0 && !x.wb 0) (·.ask i.seq (.move (x.p 0) (x.i 1) (x.b 2)))))

/-- AXHOME: a rising edge of exec requests homing in a mode. -/
def execRunAxhome (seq : Fin 65536) (s : State) : Out :=
  chipOnly s (fun c => c.invokeWith .axhome seq.val Chip.axCommand
    (fun c i x => c.when (x.b 0 && !x.wb 0) (·.ask i.seq (.home (x.p 0) (x.i 1)))))

/-- AXSTOP: the stop level, passed at every output write. -/
def execRunAxstop (seq : Fin 65536) (s : State) : Out :=
  chipOnly s (fun c => c.invokeWith .axstop seq.val
    (fun c i x =>
      { st := [], outs := actOuts (c.actLatched (x.p 0) i.seq) (x.b 0 && !(nth [] c.eng.stopsLatched (x.p 0)).contains i.seq) (x.b 0) })
    (fun c i x => c.ask i.seq (.stop (x.p 0) (x.b 0) (x.b 1))))

/-- AXGEAR: a rising edge of en engages gearing, a falling edge disengages it. -/
def execRunAxgear (seq : Fin 65536) (s : State) : Out :=
  chipOnly s (fun c => c.invokeWith .axgear seq.val
    (fun c i x =>
      let a := c.actLatched (x.p 0) i.seq
      let on := match a with
        | some a => a.busy
        | none => false
      let bad := match a with
        | some a => !a.busy && a.code != 0
        | none => false
      { st := [b2n (x.b 0)]
        outs := [b2n on, c.atLatch.get (axisAt (x.p 0)) Axis.gstage, b2n (x.b 0 && x.wb 0 && bad)] })
    (fun c i x => c.when (x.b 0 != x.wb 0) (·.ask i.seq (.gear (x.p 0) (x.b 0)))))

/-- AXSTAT: the axis state as latched. -/
def execRunAxstat (seq : Fin 65536) (s : State) : Out :=
  chipOnly s (fun c => c.invokeWith .axstat seq.val
    (fun c _ x =>
      let l := c.atLatch
      let b := axisAt (x.p 0)
      let ref := l.get b Axis.ref_state
      let still := l.flag b Axis.still
      let fault := l.get b Axis.state == 8 || (!l.flag b Axis.stage_on && !(still && l.flag b Axis.idle_off))
      outsOnly [l.get b Axis.pos, rOfInt (l.getS b Axis.vel), b2n (ref == 2), b2n (ref == 1), b2n still, b2n fault,
        l.get b Axis.flags_now])
    (fun c _ _ => c))

end Sys2Proof.Machine
end

