-- ==== Sys2Proof/Machine/BlocksArith.lean ====
section
/-! DEFINITION. The arithmetic, selection and limiting blocks (Tables 7.3 and 7.4). -/

namespace Sys2Proof.Machine

/-- ADD: run invocation seq as a ADD block. -/
def execRunAdd (seq : Fin 65536) (s : State) : Out := chipOnly s (fun c => c.invoke .add addFn seq.val)

/-- SUB: run invocation seq as a SUB block. -/
def execRunSub (seq : Fin 65536) (s : State) : Out := chipOnly s (fun c => c.invoke .sub subFn seq.val)

/-- MUL: run invocation seq as a MUL block. -/
def execRunMul (seq : Fin 65536) (s : State) : Out := chipOnly s (fun c => c.invoke .mul mulFn seq.val)

/-- DIV: run invocation seq as a DIV block. -/
def execRunDiv (seq : Fin 65536) (s : State) : Out := chipOnly s (fun c => c.invoke .div divFn seq.val)

/-- MOD: run invocation seq as a MOD block. -/
def execRunMod (seq : Fin 65536) (s : State) : Out := chipOnly s (fun c => c.invoke .mod modFn seq.val)

/-- ABS: run invocation seq as a ABS block. -/
def execRunAbs (seq : Fin 65536) (s : State) : Out := chipOnly s (fun c => c.invoke .abs absFn seq.val)

/-- NEG: run invocation seq as a NEG block. -/
def execRunNeg (seq : Fin 65536) (s : State) : Out := chipOnly s (fun c => c.invoke .neg negFn seq.val)

/-- MIN: run invocation seq as a MIN block. -/
def execRunMin (seq : Fin 65536) (s : State) : Out := chipOnly s (fun c => c.invoke .min minFn seq.val)

/-- MAX: run invocation seq as a MAX block. -/
def execRunMax (seq : Fin 65536) (s : State) : Out := chipOnly s (fun c => c.invoke .max maxFn seq.val)

/-- SQRT: run invocation seq as a SQRT block. -/
def execRunSqrt (seq : Fin 65536) (s : State) : Out := chipOnly s (fun c => c.invoke .sqrt sqrtFn seq.val)

/-- LN: run invocation seq as a LN block. -/
def execRunLn (seq : Fin 65536) (s : State) : Out := chipOnly s (fun c => c.invoke .ln lnFn seq.val)

/-- EXP: run invocation seq as a EXP block. -/
def execRunExp (seq : Fin 65536) (s : State) : Out := chipOnly s (fun c => c.invoke .exp expFn seq.val)

/-- POW: run invocation seq as a POW block. -/
def execRunPow (seq : Fin 65536) (s : State) : Out := chipOnly s (fun c => c.invoke .pow powFn seq.val)

/-- POLY: run invocation seq as a POLY block. -/
def execRunPoly (seq : Fin 65536) (s : State) : Out := chipOnly s (fun c => c.invoke .poly polyFn seq.val)

/-- SEL: run invocation seq as a SEL block. -/
def execRunSel (seq : Fin 65536) (s : State) : Out := chipOnly s (fun c => c.invoke .sel selFn seq.val)

/-- MUX: run invocation seq as a MUX block. -/
def execRunMux (seq : Fin 65536) (s : State) : Out := chipOnly s (fun c => c.invoke .mux muxFn seq.val)

/-- LIMIT: run invocation seq as a LIMIT block. -/
def execRunLimit (seq : Fin 65536) (s : State) : Out := chipOnly s (fun c => c.invoke .limit limitFn seq.val)

/-- MOVE: run invocation seq as a MOVE block. -/
def execRunMove (seq : Fin 65536) (s : State) : Out := chipOnly s (fun c => c.invoke .move moveFn seq.val)

end Sys2Proof.Machine
end

