-- ==== Sys2Proof/Machine/BlocksConv.lean ====
section
/-! DEFINITION. The scaling and conversion blocks, and the alarm block (Tables 7.7 and 7.9). -/

namespace Sys2Proof.Machine

/-- SCALE: run invocation seq as a SCALE block. -/
def execRunScale (seq : Fin 65536) (s : State) : Out := chipOnly s (fun c => c.invoke .scale scaleFn seq.val)

/-- SCALEQ: run invocation seq as a SCALEQ block. -/
def execRunScaleq (seq : Fin 65536) (s : State) : Out := chipOnly s (fun c => c.invoke .scaleq scaleqFn seq.val)

/-- LINTAB: run invocation seq as a LINTAB block. -/
def execRunLintab (seq : Fin 65536) (s : State) : Out := chipOnly s (fun c => c.invoke .lintab lintabFn seq.val)

/-- CONV: run invocation seq as a CONV block. -/
def execRunConv (seq : Fin 65536) (s : State) : Out := chipOnly s (fun c => c.invoke .conv convFn seq.val)

/-- CAST_UR: run invocation seq as a CAST_UR block. -/
def execRunCastUr (seq : Fin 65536) (s : State) : Out := chipOnly s (fun c => c.invoke .castUr castUrFn seq.val)

/-- CAST_RU: run invocation seq as a CAST_RU block. -/
def execRunCastRu (seq : Fin 65536) (s : State) : Out := chipOnly s (fun c => c.invoke .castRu castRuFn seq.val)

/-- CAST_UI: run invocation seq as a CAST_UI block. -/
def execRunCastUi (seq : Fin 65536) (s : State) : Out := chipOnly s (fun c => c.invoke .castUi castUiFn seq.val)

/-- CAST_IU: run invocation seq as a CAST_IU block. -/
def execRunCastIu (seq : Fin 65536) (s : State) : Out := chipOnly s (fun c => c.invoke .castIu castIuFn seq.val)

/-- STSPLIT: run invocation seq as a STSPLIT block. -/
def execRunStsplit (seq : Fin 65536) (s : State) : Out := chipOnly s (fun c => c.invoke .stsplit stsplitFn seq.val)

/-- STMERGE: run invocation seq as a STMERGE block. -/
def execRunStmerge (seq : Fin 65536) (s : State) : Out := chipOnly s (fun c => c.invoke .stmerge stmergeFn seq.val)

/-- CALSPLIT: run invocation seq as a CALSPLIT block. -/
def execRunCalsplit (seq : Fin 65536) (s : State) : Out := chipOnly s (fun c => c.invoke .calsplit calsplitFn seq.val)

/-- ALM: run invocation seq as a ALM block. -/
def execRunAlm (seq : Fin 65536) (s : State) : Out := chipOnly s (fun c => c.invoke .alm almFn seq.val)

end Sys2Proof.Machine
end

