-- ==== Sys2Proof/Machine/BlocksLogic.lean ====
section
/-! DEFINITION. The logic, word and comparison blocks (Tables 7.1 and 7.2). -/

namespace Sys2Proof.Machine

/-- AND: run invocation seq as a AND block. -/
def execRunAnd (seq : Fin 65536) (s : State) : Out := chipOnly s (fun c => c.invoke .and andFn seq.val)

/-- OR: run invocation seq as a OR block. -/
def execRunOr (seq : Fin 65536) (s : State) : Out := chipOnly s (fun c => c.invoke .or orFn seq.val)

/-- XOR: run invocation seq as a XOR block. -/
def execRunXor (seq : Fin 65536) (s : State) : Out := chipOnly s (fun c => c.invoke .xor xorFn seq.val)

/-- NOT: run invocation seq as a NOT block. -/
def execRunNot (seq : Fin 65536) (s : State) : Out := chipOnly s (fun c => c.invoke .not notFn seq.val)

/-- WAND: run invocation seq as a WAND block. -/
def execRunWand (seq : Fin 65536) (s : State) : Out := chipOnly s (fun c => c.invoke .wand wandFn seq.val)

/-- WOR: run invocation seq as a WOR block. -/
def execRunWor (seq : Fin 65536) (s : State) : Out := chipOnly s (fun c => c.invoke .wor worFn seq.val)

/-- WXOR: run invocation seq as a WXOR block. -/
def execRunWxor (seq : Fin 65536) (s : State) : Out := chipOnly s (fun c => c.invoke .wxor wxorFn seq.val)

/-- WNOT: run invocation seq as a WNOT block. -/
def execRunWnot (seq : Fin 65536) (s : State) : Out := chipOnly s (fun c => c.invoke .wnot wnotFn seq.val)

/-- SHIFT: run invocation seq as a SHIFT block. -/
def execRunShift (seq : Fin 65536) (s : State) : Out := chipOnly s (fun c => c.invoke .shift shiftFn seq.val)

/-- BIT: run invocation seq as a BIT block. -/
def execRunBit (seq : Fin 65536) (s : State) : Out := chipOnly s (fun c => c.invoke .bit bitFn seq.val)

/-- PACK: run invocation seq as a PACK block. -/
def execRunPack (seq : Fin 65536) (s : State) : Out := chipOnly s (fun c => c.invoke .pack packFn seq.val)

/-- UNPACK: run invocation seq as a UNPACK block. -/
def execRunUnpack (seq : Fin 65536) (s : State) : Out := chipOnly s (fun c => c.invoke .unpack unpackFn seq.val)

/-- EQ: run invocation seq as a EQ block. -/
def execRunEq (seq : Fin 65536) (s : State) : Out := chipOnly s (fun c => c.invoke .eq eqFn seq.val)

/-- NE: run invocation seq as a NE block. -/
def execRunNe (seq : Fin 65536) (s : State) : Out := chipOnly s (fun c => c.invoke .ne neFn seq.val)

/-- GT: run invocation seq as a GT block. -/
def execRunGt (seq : Fin 65536) (s : State) : Out := chipOnly s (fun c => c.invoke .gt gtFn seq.val)

/-- GE: run invocation seq as a GE block. -/
def execRunGe (seq : Fin 65536) (s : State) : Out := chipOnly s (fun c => c.invoke .ge geFn seq.val)

/-- LT: run invocation seq as a LT block. -/
def execRunLt (seq : Fin 65536) (s : State) : Out := chipOnly s (fun c => c.invoke .lt ltFn seq.val)

/-- LE: run invocation seq as a LE block. -/
def execRunLe (seq : Fin 65536) (s : State) : Out := chipOnly s (fun c => c.invoke .le leFn seq.val)

/-- CMPH: run invocation seq as a CMPH block. -/
def execRunCmph (seq : Fin 65536) (s : State) : Out := chipOnly s (fun c => c.invoke .cmph cmphFn seq.val)

end Sys2Proof.Machine
end

