-- ==== Sys2Proof/Machine/BlocksTime.lean ====
section
/-! DEFINITION. The timers, filters, ramps, counters, edges and latches (Tables 7.5 and 7.6). -/

namespace Sys2Proof.Machine

/-- LAG: run invocation seq as a LAG block. -/
def execRunLag (seq : Fin 65536) (s : State) : Out := chipOnly s (fun c => c.invoke .lag lagFn seq.val)

/-- RATE: run invocation seq as a RATE block. -/
def execRunRate (seq : Fin 65536) (s : State) : Out := chipOnly s (fun c => c.invoke .rate rateFn seq.val)

/-- INTEG: run invocation seq as a INTEG block. -/
def execRunInteg (seq : Fin 65536) (s : State) : Out := chipOnly s (fun c => c.invoke .integ integFn seq.val)

/-- RAMP: run invocation seq as a RAMP block. -/
def execRunRamp (seq : Fin 65536) (s : State) : Out := chipOnly s (fun c => c.invoke .ramp rampFn seq.val)

/-- TON: run invocation seq as a TON block. -/
def execRunTon (seq : Fin 65536) (s : State) : Out := chipOnly s (fun c => c.invoke .ton tonFn seq.val)

/-- TOF: run invocation seq as a TOF block. -/
def execRunTof (seq : Fin 65536) (s : State) : Out := chipOnly s (fun c => c.invoke .tof tofFn seq.val)

/-- TP: run invocation seq as a TP block. -/
def execRunTp (seq : Fin 65536) (s : State) : Out := chipOnly s (fun c => c.invoke .tp tpFn seq.val)

/-- RTO: run invocation seq as a RTO block. -/
def execRunRto (seq : Fin 65536) (s : State) : Out := chipOnly s (fun c => c.invoke .rto rtoFn seq.val)

/-- PGEN: run invocation seq as a PGEN block. -/
def execRunPgen (seq : Fin 65536) (s : State) : Out := chipOnly s (fun c => c.invoke .pgen pgenFn seq.val)

/-- DEBNC: run invocation seq as a DEBNC block. -/
def execRunDebnc (seq : Fin 65536) (s : State) : Out := chipOnly s (fun c => c.invoke .debnc debncFn seq.val)

/-- BUMPSW: run invocation seq as a BUMPSW block. -/
def execRunBumpsw (seq : Fin 65536) (s : State) : Out := chipOnly s (fun c => c.invoke .bumpsw bumpswFn seq.val)

/-- CTU: run invocation seq as a CTU block. -/
def execRunCtu (seq : Fin 65536) (s : State) : Out := chipOnly s (fun c => c.invoke .ctu ctuFn seq.val)

/-- CTD: run invocation seq as a CTD block. -/
def execRunCtd (seq : Fin 65536) (s : State) : Out := chipOnly s (fun c => c.invoke .ctd ctdFn seq.val)

/-- CTUD: run invocation seq as a CTUD block. -/
def execRunCtud (seq : Fin 65536) (s : State) : Out := chipOnly s (fun c => c.invoke .ctud ctudFn seq.val)

/-- CNTD: run invocation seq as a CNTD block. -/
def execRunCntd (seq : Fin 65536) (s : State) : Out := chipOnly s (fun c => c.invoke .cntd cntdFn seq.val)

/-- R_TRIG: run invocation seq as a R_TRIG block. -/
def execRunRTrig (seq : Fin 65536) (s : State) : Out := chipOnly s (fun c => c.invoke .rTrig rTrigFn seq.val)

/-- F_TRIG: run invocation seq as a F_TRIG block. -/
def execRunFTrig (seq : Fin 65536) (s : State) : Out := chipOnly s (fun c => c.invoke .fTrig fTrigFn seq.val)

/-- SR: run invocation seq as a SR block. -/
def execRunSr (seq : Fin 65536) (s : State) : Out := chipOnly s (fun c => c.invoke .sr srFn seq.val)

/-- RS: run invocation seq as a RS block. -/
def execRunRs (seq : Fin 65536) (s : State) : Out := chipOnly s (fun c => c.invoke .rs rsFn seq.val)

/-- ESTAMP: run invocation seq as a ESTAMP block. -/
def execRunEstamp (seq : Fin 65536) (s : State) : Out := chipOnly s (fun c => c.invoke .estamp estampFn seq.val)

/-- TOGGLE: run invocation seq as a TOGGLE block. -/
def execRunToggle (seq : Fin 65536) (s : State) : Out := chipOnly s (fun c => c.invoke .toggle toggleFn seq.val)

end Sys2Proof.Machine
end

