-- ==== Sys2Proof/Machine/Counters.lean ====
section
/-! DEFINITION. The commands of the performance counters (R499 to R508) and the block PERF. -/

namespace Sys2Proof.Machine

/-- COUNTER_OVERFLOW: an event reaches counter j while it stands at all ones (R504). -/
def execCounterOverflow (r : Fin 8) (j : Fin 8) (s : State) : Out :=
  chipOnly s (fun c =>
    let b := ctrAt r.val
    if c.phase != 8 || c.flag b Ctr.freeze || c.getI b Ctr.enable j.val == 0 || c.getI b Ctr.cls j.val == 0
        || c.getI b Ctr.value j.val != 2 ^ 32 - 1 then c
    else
      ((c.putI b Ctr.value j.val (c.getI b Ctr.preload j.val)).setCtr r.val j.val (fun h => { h with
        acc := h.acc + 1 })).counterOver r.val j.val)

/-- The sample of counter j's overflow is taken: it is recorded, or within 1 ms of the last record counted as dropped (R505). -/
def Chip.sampleEnd (c : Chip) (r j q : Nat) : Chip :=
  let b := ctrAt r
  let h := c.ctrOne r j
  let c1 := (c.putI b Ctr.last_sample j q).setCtr r j (fun h => { h with overAt := none, sample := none })
  if (h.recAt.map (fun u => decide (c.now < u + 1000))).getD false then c1.bump b Ctr.dropped
  else (c1.record 92 r 0 j (leBytes 4 q) [c.get engineAt Engine.cycle_count, c.getI b Ctr.preload j]).setCtr r j (fun h => { h with
    recAt := some c.now })

/-- No invocation has committed within 1 ms of an overflow, or one has: the sample that ends the wait (R505). -/
def Chip.sampleReady (c : Chip) (h : CtrOne) : Option Nat :=
  match h.overAt, h.sample with
  | some _, some q => some q
  | some t, none => if t + 1000 ≤ c.now then some (2 ^ 32 - 1) else none
  | none, _ => none

/-- COUNTER_SAMPLE: the sampler gives the first invocation to commit after an overflow, or all ones when none has within
1 ms (R505). -/
def execCounterSample (r : Fin 8) (j : Fin 8) (s : State) : Out :=
  chipOnly s (fun c =>
    match c.sampleReady (c.ctrOne r.val j.val) with
    | some q => c.sampleEnd r.val j.val q
    | none => c)

/-- COUNTER_WINDOW_END: the window of region r ends (R506). -/
def execCounterWindowEnd (r : Fin 8) (s : State) : Out :=
  chipOnly s (fun c =>
    let b := ctrAt r.val
    let h := c.ctr r.val
    if c.phase != 8 || !c.fitted r.val || c.now < h.endAt then c
    else
      let c1 := c.each (List.range 8) (fun c j =>
        let o := nth {} h.ones j
        let big := decide (2 ^ 32 ≤ o.acc)
        let c2 := (c.putI b Ctr.win_count j (min o.acc (2 ^ 32 - 1))).when big (·.putBit b Ctr.win_ovf j true)
        (c2.when o.changed (·.putBit b Ctr.sel_changed j true)).setCtr r.val j (fun o => { o with acc := 0, changed := false }))
      let win := c.get b Ctr.win
      let next := c.s8At + ((h.endAt - c.s8At) / win + 1) * win
      { c1.put b Ctr.win_index ((c.get b Ctr.win_index + 1) % 2 ^ 32) with
        ctrs := upd c1.ctrs r.val (fun h => { h with endAt := next }) })

/-- COUNTER_CLEAR: the clear command of a counter block. -/
def execCounterClear (r : Fin 8) (s : State) : Out := chipOnly s (fun c => c.cmdCounterClear r.val)

/-- PERF: a counter, or a half of the tick counter, as latched (R208). -/
def execRunPerf (seq : Fin 65536) (s : State) : Out :=
  chipOnly s (fun c => c.invokeWith .perf seq.val
    (fun c _ x =>
      let b := ctrAt (x.p 0)
      let k := x.p 1
      let a := if k < 8 then b + 0x14 + 8 * k else b + (k - 8)
      let (_, v) := c.atLatch.readWord a
      let ovf := decide (k < 8) && (c.atLatch.readWord (b + 7)).2.testBit k
      { st := [v], outs := [v, (v + 2 ^ 32 - nth 0 x.st 0) % 2 ^ 32, b2n ovf] })
    (fun c _ _ => c))

end Sys2Proof.Machine
end

