-- ==== Sys2Proof/Machine/LoopOps.lean ====
section
/-! DEFINITION. The loop engine's arithmetic (R280 to R282, R288), sources and spans (R240, R285, R293), the computation a
loop forms when it begins (R284), and slices that stop and start (R299). -/

namespace Sys2Proof.Machine

/-! ### Saturating arithmetic -/

/-- sat_s (R281). -/
def satS (a : Int) : Int := clampI (-(2 ^ 30)) (2 ^ 30 - 1) a
/-- sat48 (R281). -/
def sat48 (a : Int) : Int := clampI (-(2 ^ 47)) (2 ^ 47 - 1) a
/-- p(c, v): the product of a coefficient and a signal, to nearest with ties toward +∞ (R281). -/
def mulQ (c v : Int) : Int := (c * v + 2 ^ 26).fdiv (2 ^ 27)

/-- REAL32 to Q1.30 (R282): the value, and whether conv is to be set. -/
def toQ (x : Nat) (prev : Int) : Int × Bool :=
  if rNaN x then (prev, true)
  else if rInf x then (satS (if rNeg x then -(2 ^ 31) else 2 ^ 31), true)
  else
    let v := rToIntAway x 30
    (satS v, satS v != v)

/-- Q1.30 to REAL32 (R282). -/
def ofQ (s : Int) : Nat := rOfRat s (2 ^ 30)

/-! Bits of word 0x0070. -/

def lSatErr : Nat := 1
def lSatSec : Nat := 2
def lSatState : Nat := 4
def lSatInt : Nat := 8
def lIntClamp : Nat := 16
def lLimLo : Nat := 32
def lLimHi : Nat := 64
def lConv : Nat := 128
def lPvFault : Nat := 256
def lSpFault : Nat := 512
def lLimMm : Nat := 1024
def lMissed : Nat := 2048

/-- A saturated value and the flag of its saturation point. -/
def satFlag (f : Int → Int) (flag : Nat) (a : Int) : Int × Nat := (f a, if f a = a then 0 else flag)

/-- Or flags together. -/
def orAll (l : List Nat) : Nat := l.foldl (· ||| ·) 0

/-- One section (R288): its new states and output. -/
def sectionStep (b0 b1 b2 a1 a2 : Int) (s : Int × Int) (x : Int) : (Int × Int) × Int × Nat :=
  let (u, f1) := satFlag sat48 lSatState (mulQ b0 x + s.1)
  let (y, f2) := satFlag satS lSatSec u
  let (s1, f3) := satFlag sat48 lSatState (mulQ b1 x - mulQ a1 y + s.2)
  let (s2, f4) := satFlag sat48 lSatState (mulQ b2 x - mulQ a2 y)
  ((s1, s2), y, orAll [f1, f2, f3, f4])

/-- A coefficient of the working set. -/
def coefAt (l : List Nat) (k : Nat) : Int := signed 32 (nth 0 l k)

/-- The cascade: the sections in use, from section j on; the others keep their states. -/
def cascade (coef : List Nat) : Nat → Nat → List (Int × Int) → Int → List (Int × Int) × Int × Nat
  | 0, _, st, x => (st, x, 0)
  | _ + 1, _, [], x => ([], x, 0)
  | n + 1, j, s :: st, x =>
    let k := 2 + 5 * j
    let (s', y, f) := sectionStep (coefAt coef k) (coefAt coef (k + 1)) (coefAt coef (k + 2)) (coefAt coef (k + 3))
      (coefAt coef (k + 4)) s x
    let (st', z, g) := cascade coef n (j + 1) st y
    (s' :: st', z, f ||| g)

/-! ### Access -/

/-- Loop n beyond its registers. -/
def Chip.loop (c : Chip) (n : Nat) : LoopSt := nth {} c.loops n
/-- Change loop n beyond its registers. -/
def Chip.setLoop (c : Chip) (n : Nat) (f : LoopSt → LoopSt) : Chip := { c with loops := upd c.loops n f }
/-- Slice r. -/
def Chip.slice (c : Chip) (r : Nat) : SliceSt := nth {} c.slices r
/-- Change slice r. -/
def Chip.setSlice (c : Chip) (r : Nat) (f : SliceSt → SliceSt) : Chip := { c with slices := upd c.slices r f }

/-- State of a loop. -/
def Chip.loopState (c : Chip) (n : Nat) : Nat := c.get (loopAt n) Loop.state

/-- Is a loop in use? -/
def Chip.loopUsed (c : Chip) (n : Nat) : Bool := c.flag (loopAt n) Loop.enabled && c.fitted (n / 32)

/-- Kind and ref of a source or destination word (Table 10.1). -/
def srcKind (w : Nat) : Nat := w / 2 ^ 28
/-- Its ref. -/
def srcRef (w : Nat) : Nat := w % 2 ^ 28

/-- A 48-bit state in two words, the high one sign-extended. -/
def Chip.get48 (c : Chip) (b : Nat) (f : Field) (i : Nat) : Int :=
  signed 48 (c.getI b f i + 2 ^ 32 * (c.getI b f (i + 1) % 2 ^ 16))

/-- Write a 48-bit state. -/
def Chip.put48 (c : Chip) (b : Nat) (f : Field) (i : Nat) (v : Int) : Chip :=
  (c.putI b f i (unsigned 32 v)).putI b f (i + 1) (unsigned 32 (v.fdiv (2 ^ 32)))

/-- integ. -/
def Chip.integ (c : Chip) (n : Nat) : Int :=
  signed 48 (c.get (loopAt n) Loop.integ_lo + 2 ^ 32 * (c.get (loopAt n) Loop.integ_hi % 2 ^ 16))

/-- Write integ. -/
def Chip.putInteg (c : Chip) (n : Nat) (v : Int) : Chip :=
  (c.put (loopAt n) Loop.integ_lo (unsigned 32 v)).put (loopAt n) Loop.integ_hi (unsigned 32 (v.fdiv (2 ^ 32)))

/-- The section states of a loop. -/
def Chip.sections (c : Chip) (n : Nat) : List (Int × Int) :=
  (List.range 8).map (fun j => (c.get48 (loopAt n) Loop.states (4 * j), c.get48 (loopAt n) Loop.states (4 * j + 2)))

/-- Write the section states from section j on. -/
def Chip.putSections (c : Chip) (n : Nat) : Nat → List (Int × Int) → Chip
  | _, [] => c
  | j, (a, b) :: t =>
    Chip.putSections ((c.put48 (loopAt n) Loop.states (4 * j) a).put48 (loopAt n) Loop.states (4 * j + 2) b) n (j + 1) t

/-- Change a loop's state; each change is recorded (R290). -/
def Chip.setLoopState (c : Chip) (n new : Nat) : Chip :=
  let old := c.loopState n
  if old = new then c else (c.put (loopAt n) Loop.state new).record 58 (n / 32) 0 n [old, new] []

/-! ### Spans and sources -/

/-- The natural span of a mode (R240), in thousandths; none for CNT. -/
def Chip.naturalSpan (c : Chip) (g : Nat) : Option (Int × Int) :=
  let b := chanAt g
  let m := c.mode g
  let range := c.get b Chan.range
  let sensor := c.get b Chan.sensor
  if m = 1 || m = 5 then some (if range = 1 then -10000 else 0, 10000)
  else if m = 2 || m = 6 then some (if range = 1 then 4000 else 0, 20000)
  else if m = 3 then some ((rtdRange sensor).1 * 1000, (rtdRange sensor).2 * 1000)
  else if m = 4 then some ((tcRange sensor).1 * 1000, (tcRange sensor).2 * 1000)
  else if m = 11 then none
  else some (0, 1000)

/-- The span in use, and whether its fields disagree (rule ZS). -/
def Chip.spanOf (c : Chip) (g : Nat) : Nat × Nat × Bool :=
  let lo := c.get (chanAt g) Chan.span_lo
  let hi := c.get (chanAt g) Chan.span_hi
  if rEq lo 0 && rEq hi 0 then
    match c.naturalSpan g with
    | some (a, b) => (rat a 1000, rat b 1000, false)
    | none => (lo, hi, true)
  else (lo, hi, rEq lo hi)

/-- Set or clear span_mm. -/
def Chip.markSpan (c : Chip) (g : Nat) : Chip := if (c.spanOf g).2.2 then c.aOn g fSpanMm else c.aOff g fSpanMm

/-- What a source gives: the value, whether it is usable, whether it is a fault, and conv. -/
structure Source where
  val : Int
  usable : Bool
  bad : Bool
  conv : Bool
  deriving DecidableEq, Repr

/-- Read a source word (R285, R293); `prev` is kept where a NaN is converted. -/
def Chip.readSource (c : Chip) (w sp : Nat) (prev : Int) : Source :=
  let ref := srcRef w
  if srcKind w = 0 then { val := signed 32 sp, usable := true, bad := false, conv := false }
  else if srcKind w = 1 then
    let m := c.mode ref
    let st := c.liveStatus ref
    let bad := m == 0 || m == 13 || st.testBit stFault || (c.chan ref).seq == 1 || (c.chan ref).seq == 2
    let (lo, hi, mm) := c.spanOf ref
    let f := if mm then 0 else rDiv (rSub (c.get (chanAt ref) Chan.value) lo) (rSub hi lo)
    let (q, cv) := toQ f prev
    { val := q, usable := !bad && !st.testBit stTempering, bad := bad, conv := cv }
  else if srcKind w = 2 then
    let stop := c.loopState ref == 4 || c.blockFenced (ref / 32) 8 || c.regionFenced (ref / 32)
    { val := c.getS (loopAt ref) Loop.out, usable := !stop, bad := stop, conv := false }
  else
    let (q, cv) := toQ ((assoc c.eng.loopVars (256 * (ref % 2 ^ 16) + ref / 2 ^ 16 % 2 ^ 8)).getD 0) prev
    { val := q, usable := true, bad := false, conv := cv }

/-- Does a LOOPSUP of the program name the loop (R291)? -/
def Chip.supervised (c : Chip) (n : Nat) : Bool :=
  c.eng.prog.any (fun i => i.code == 0x0500 && c.instWord i 0 == n)

/-- The inner loops of a loop, in order of number (R294). -/
def Chip.inners (c : Chip) (n : Nat) : List Nat :=
  (List.range 256).filter (fun k => c.loopUsed k && c.get (loopAt k) Loop.sp_src == 2 * 2 ^ 28 + n)

/-! ### The computation -/

/-- The coefficient word of a parameter word: 0 beta, 1 ki, 2 on the sections. -/
def coefOfWord (w : Nat) : Option Nat :=
  if w = 8 then some 0 else if w = 9 then some 1 else if 0x10 ≤ w && w ≤ 0x37 then some (w - 0x10 + 2) else none

/-- The parameter word of a coefficient word. -/
def wordOfCoef (k : Nat) : Nat := if k = 0 then 8 else if k = 1 then 9 else 0x10 + (k - 2)

/-- The output stage of R288: out and integ from the cascade's output, and the flags. -/
def loopOutput (auto : Bool) (target lo hi yc integ ki e : Int) : Int × Int × Nat :=
  if auto then
    let (i, f1) := satFlag sat48 lSatInt (integ + mulQ ki e)
    let j := min (max i (lo - yc)) (hi - yc)
    let f2 := if j = i then 0 else lIntClamp ||| (if i < j then lLimLo else lLimHi)
    (yc + j, j, f1 ||| f2)
  else
    let out := min (max target lo) hi
    let f := if out = target then 0 else if target < out then lLimLo else lLimHi
    let (i, f1) := satFlag sat48 lSatInt (out - yc)
    (out, i, f ||| f1)

/-- The result a loop forms when its computation begins: the sources are read once, the oldest pending coefficient word
is taken, and the mode follows from the request, the sources and the inner loops (R285, R288 to R295). -/
def Chip.compute (c : Chip) (n instant : Nat) : LoopRes :=
  let b := loopAt n
  let h := c.loop n
  let lo := c.getS b Loop.out_lo
  let hi0 := c.getS b Loop.out_hi
  let mm := decide (hi0 < lo)
  let hi := if mm then lo else hi0
  let took := match h.pend with
    | [] => none
    | k :: _ => some (k, c.nat (b + wordOfCoef k))
  let coef := match took with
    | some (k, v) => setAt h.coef k v
    | none => h.coef
  let nsec := c.get b Loop.nsec
  let named := c.supervised n
  let pv := c.readSource (c.get b Loop.pv_src) 0 (c.getS b Loop.pv)
  let ownSp := c.readSource (c.get b Loop.sp_src) (c.get b Loop.sp) (c.getS b Loop.sp_now)
  let sp : Source := match h.sup with
    | some (_, _, some v) =>
      if named then { val := (toQ v (c.getS b Loop.sp_now)).1, usable := true, bad := false, conv := (toQ v 0).2 } else ownSp
    | _ => ownSp
  let man : Int × Bool :=
    if named then
      match h.sup with
      | some (_, v, _) => toQ v h.man
      | none => (c.getS b Loop.man, false)
    else (c.getS b Loop.man, false)
  let want := if named then
      match h.sup with
      | some (a, _, _) => a
      | none => false
    else c.flag b Loop.auto || h.startAuto
  let inners := c.inners n
  let state := if !want then 1 else if !(pv.usable && sp.usable) then 3 else if inners.any (fun k => c.loopState k != 2) then 5 else 2
  let out0 := c.getS b Loop.out
  let sect0 := if h.resetAsk then List.replicate 8 ((0 : Int), (0 : Int)) else c.sections n
  let sect1 := (sect0.take h.nsec) ++ ((sect0.drop h.nsec).zipIdx.map (fun e => if e.2 + h.nsec < nsec then (0, 0) else e.1))
  let srcFlags := (if mm then lLimMm else 0) ||| (if pv.conv || sp.conv || man.2 then lConv else 0)
    ||| (if pv.bad then lPvFault else 0) ||| (if sp.bad then lSpFault else 0)
  let base : LoopRes :=
    { loop := n, instant := instant, began := c.now, state := state, pv := pv.val, sp := sp.val, err := c.getS b Loop.err,
      out := out0, integ := c.integ n, sect := sect1, nsec := nsec, man := man.1, took := took, flags := srcFlags,
      pvBad := pv.bad, spBad := sp.bad, limMm := mm, cleared := h.resetAsk, mirrored := false }
  if state = 3 then base
  else
    let (e, f1) := satFlag satS lSatErr (sp.val - pv.val)
    let (ew, f2) := satFlag satS lSatErr (mulQ (coefAt coef 0) sp.val - pv.val)
    let (sect, yc, f3) := cascade coef nsec 0 sect1 ew
    let first := c.loopState n != 2
    let target := if state = 1 then man.1 else if state = 5 then c.getS (loopAt (nth 0 inners 0)) Loop.pv else out0
    let (out, integ, f4) := loopOutput (state == 2 && !first) target lo hi yc (c.integ n) (coefAt coef 1) e
    { base with err := e, out := out, integ := integ, sect := sect, flags := orAll [srcFlags, f1, f2, f3, f4] }

/-- What a shadow takes at a sample: the mirrored state of the holder's loop (R300). -/
def Chip.mirrorSample (c : Chip) (n instant : Nat) : LoopRes :=
  let b := loopAt n
  let m := (c.loop n).mirror.getD (c.loopState n, c.getS b Loop.out, c.integ n, c.sections n)
  { loop := n, instant := instant, began := c.now, state := m.1, pv := c.getS b Loop.pv, sp := c.getS b Loop.sp_now,
    err := c.getS b Loop.err, out := m.2.1, integ := m.2.2.1, sect := m.2.2.2, nsec := c.get b Loop.nsec,
    man := (c.loop n).man, took := none, flags := 0, pvBad := (c.loop n).pvBad, spBad := (c.loop n).spBad,
    limMm := (c.loop n).limMm, cleared := false, mirrored := true }

/-- Do loops take the holder's mirror: in a shadow with a partner (R300, Table 14.5)? -/
def Chip.loopsMirror (c : Chip) : Bool := [3, 4].contains (c.get pairAt Pair.lease_state)

/-- The loop whose queued computation is first: earliest instant, then lowest k (R284). -/
def Chip.headOf (c : Chip) (r : Nat) : Option (Nat × Nat) :=
  (List.range 32).foldl (fun best k =>
    match (c.loop (32 * r + k)).job, best with
    | some t, none => some (t, 32 * r + k)
    | some t, some (t0, n0) => if t < t0 then some (t, 32 * r + k) else some (t0, n0)
    | none, _ => best) none

/-- A free slice begins the computation at the head of its queue. -/
def Chip.kick (c : Chip) (r : Nat) : Chip :=
  let s := c.slice r
  if s.stopped || s.running.isSome then c
  else match c.headOf r with
    | none => c
    | some (t, n) =>
      let res := if c.loopsMirror then c.mirrorSample n t else c.compute n t
      let c1 := c.each ([Loop.pv_src, Loop.sp_src].map (c.get (loopAt n))) (fun c w => c.when (srcKind w == 1) (·.markSpan (srcRef w)))
      c1.setSlice r (fun s => { s with running := some res, counted := 0 })

/-- Busy time of the running computation so far, in units of 10 ns. -/
def Chip.busySince (c : Chip) (res : LoopRes) : Nat := 100 * (c.now - res.began)

/-! ### Stopping and starting (R299) -/

/-- Stop a slice for a cause of source 61: every loop of it goes to state 4. -/
def Chip.stopSlice (c : Chip) (r cause : Nat) : Chip :=
  if (c.slice r).stopped then c
  else
    let c1 := c.setSlice r (fun s => { s with stopped := true, running := none })
    let c2 := c1.each ((List.range 32).map (fun k => 32 * r + k)) (fun x n =>
      if !x.loopUsed n then x else (x.setLoop n (fun h => { h with job := none })).setLoopState n 4)
    c2.record 61 r 2 r [1, cause] []

/-- The loops of a slice whose output a channel or axis takes: the channels they own. -/
def Chip.ownedBy (c : Chip) (r : Nat) : List Nat :=
  ((List.range 32).map (fun k => 32 * r + k)).filterMap (fun n =>
    let w := c.get (loopAt n) Loop.out_dst
    if c.loopUsed n && srcKind w = 1 then some (srcRef w) else none)

/-- A slice fence: the loops stop, the channels they own take their safe values, the axes a demand of zero
(Table 1.2). -/
def Chip.fenceSlice (c : Chip) (r : Nat) : Chip :=
  let c1 := c.stopSlice r 1
  let c2 := c1.each (c1.ownedBy r) (fun x g =>
    if (x.chan g).loopOut.isSome then
      (x.setChan g (fun h => { h with loopOut := some (x.safeCmd g) })).resolve g else x)
  c2.each ((List.range 32).map (fun k => 32 * r + k)) (fun x n =>
    let w := x.get (loopAt n) Loop.out_dst
    if x.loopUsed n && srcKind w = 2 && (x.ax (srcRef w)).owned then x.speedDemand (srcRef w) 0 else x)

/-- The normalised safe value of a loop's output channel (R299). -/
def Chip.safeMan (c : Chip) (n : Nat) : Int :=
  let w := c.get (loopAt n) Loop.out_dst
  if srcKind w ≠ 1 then 0
  else
    let g := srcRef w
    let b := chanAt g
    if c.get b Chan.safe_kind = 3 then 0
    else
      let x := if c.get b Chan.safe_kind = 1 then c.get b Chan.command else c.safeCmd g
      let (lo, hi, mm) := c.spanOf g
      if mm then 0 else (toQ (rDiv (rSub x lo) (rSub hi lo)) 0).1

/-- The first instant of the loop's sequence after now. -/
def nextInstant (start period now : Nat) : Nat :=
  if now < start then start else start + ((now - start) / max period 1 + 1) * period

/-- A loop begins in manual with a manual value (R298, R299). -/
def Chip.loopBegin (c : Chip) (n : Nat) (man : Int) (startAuto : Bool) : Chip :=
  let b := loopAt n
  let lo := c.getS b Loop.out_lo
  let hi := max lo (c.getS b Loop.out_hi)
  let c1 := ((c.put b Loop.out (unsigned 32 (min (max man lo) hi))).putInteg n 0).putSections n 0
    (List.replicate 8 ((0 : Int), (0 : Int)))
  (c1.setLoop n (fun h => { h with man := man, startAuto := startAuto, resetAsk := false, job := none, nsec := 0 })).setLoopState
    n 1

/-- At S8 entry a loop's instants are counted from its phase on, and its working set holds the coefficients of the image (R283, R295). -/
def Chip.loopEntry (c : Chip) (n : Nat) : Chip :=
  let b := loopAt n
  (c.setLoop n (fun h => { h with
    nextAt := c.now + c.get b Loop.phase, coef := (List.range 42).map (fun k => c.nat (b + wordOfCoef k)), pend := [] })).put b
      Loop.coef_pending 0

/-- A slice that returns to service restarts every loop in manual at its safe value (R35, R299). -/
def Chip.startSlice (c : Chip) (r : Nat) : Chip :=
  if !(c.slice r).stopped then c
  else
    let c1 := c.setSlice r (fun s => { s with stopped := false, running := none, busy := 0, counted := 0, windowAt := c.now })
    let c2 := c1.each ((List.range 32).map (fun k => 32 * r + k)) (fun x n =>
      if !x.loopUsed n then x
      else
        let man := x.safeMan n
        let p := x.get (loopAt n) Loop.period
        ((x.put (loopAt n) Loop.man (unsigned 32 man)).loopBegin n man false).setLoop n (fun h => { h with
          nextAt := nextInstant h.nextAt p x.now, sup := none }))
    c2.record 61 r 0 r [0] []

end Sys2Proof.Machine
end

