-- ==== Sys2Proof/Machine/Crc.lean ====
section
/-! DEFINITION. The checksums and the hash the spec names: CRC-32 and CRC-32C (R117), the CRC-16 of link flits (R39),
SHA-256 (R130, R134, R136) and HMAC-SHA-256 (R448). The spec names SHA-256 and HMAC by standard only: their
rules are PRESUMED from FIPS 180-4 and RFC 2104 (log entry 6). -/

namespace Sys2Proof.Machine

/-- Eight shifts of a reflected CRC register. -/
def crcBits (poly : Nat) : Nat → Nat → Nat
  | 0, r => r
  | n + 1, r => crcBits poly n (if r % 2 = 1 then (r / 2) ^^^ poly else r / 2)

/-- A reflected CRC register after a byte string. -/
def crcRun (poly : Nat) : Nat → List Nat → Nat
  | r, [] => r
  | r, b :: bs => crcRun poly (crcBits poly 8 (r ^^^ (b % 256))) bs

/-- CRC-32 of R117: polynomial 0x04C1_1DB7 reflected. -/
def crc32 (bs : List Nat) : Nat := crcRun 0xEDB88320 0xFFFFFFFF bs ^^^ 0xFFFFFFFF

/-- CRC-32C of R117 with a given preset register (R358 seeds it with conn_id). -/
def crc32cFrom (preset : Nat) (bs : List Nat) : Nat := crcRun 0x82F63B78 preset bs ^^^ 0xFFFFFFFF

/-- CRC-32C of R117: polynomial 0x1EDC_6F41 reflected. -/
def crc32c (bs : List Nat) : Nat := crc32cFrom 0xFFFFFFFF bs

/-- Eight shifts of the unreflected CRC-16 register of R39. -/
def crc16Bits : Nat → Nat → Nat
  | 0, r => r
  | n + 1, r => crc16Bits n (if r.testBit 15 then ((2 * r) % 65536) ^^^ 0x1021 else (2 * r) % 65536)

/-- CRC-16 of R39: polynomial 0x1021, initial value 0xFFFF. -/
def crc16 (bs : List Nat) : Nat :=
  bs.foldl (fun r b => crc16Bits 8 (r ^^^ (256 * (b % 256)))) 0xFFFF

/-- The 64 round words of FIPS 180-4 as one number, the first word its most significant 32 bits. -/
def shaTable : Nat :=
  0x428a2f9871374491b5c0fbcfe9b5dba53956c25b59f111f1923f82a4ab1c5ed5d807aa9812835b01243185be550c7dc372be5d7480deb1fe9bdc06a7c19bf174e49b69c1efbe47860fc19dc6240ca1cc2de92c6f4a7484aa5cb0a9dc76f988da983e5152a831c66db00327c8bf597fc7c6e00bf3d5a7914706ca63511429296727b70a852e1b21384d2c6dfc53380d13650a7354766a0abb81c2c92e92722c85a2bfe8a1a81a664bc24b8b70c76c51a3d192e819d6990624f40e3585106aa07019a4c1161e376c082748774c34b0bcb5391c0cb34ed8aa4a5b9cca4f682e6ff3748f82ee78a5636f84c878148cc7020890befffaa4506cebbef9a3f7c67178f2

/-- Round word t. -/
def shaWord (t : Nat) : Nat := shaTable >>> (2016 - 32 * t) % 2 ^ 32

/-- Rotate a 32-bit value right. -/
def ror32 (x n : Nat) : Nat := (x >>> n ||| x <<< (32 - n)) % 2 ^ 32

/-- Sum modulo 2^32. -/
def add32 (a b : Nat) : Nat := (a + b) % 2 ^ 32

/-- One more message word: `w` holds the last sixteen, newest first. -/
def shaNextWord (w : List Nat) : Nat :=
  let x15 := nth 0 w 14
  let x2 := nth 0 w 1
  let s0 := ror32 x15 7 ^^^ ror32 x15 18 ^^^ x15 >>> 3
  let s1 := ror32 x2 17 ^^^ ror32 x2 19 ^^^ x2 >>> 10
  (nth 0 w 15 + s0 + nth 0 w 6 + s1) % 2 ^ 32

/-- The eight working words of a compression. -/
structure Sha where
  a : Nat
  b : Nat
  c : Nat
  d : Nat
  e : Nat
  f : Nat
  g : Nat
  h : Nat

/-- Round t of a compression with message word w. -/
def Sha.round (s : Sha) (t w : Nat) : Sha :=
  let up := s.h + (ror32 s.e 6 ^^^ ror32 s.e 11 ^^^ ror32 s.e 25) + (s.g ^^^ (s.e &&& (s.f ^^^ s.g))) + shaWord t + w
  let low := (ror32 s.a 2 ^^^ ror32 s.a 13 ^^^ ror32 s.a 22) + ((s.a &&& (s.b ||| s.c)) ||| (s.b &&& s.c))
  { a := add32 up low, b := s.a, c := s.b, d := s.c, e := add32 s.d up, f := s.e, g := s.f, h := s.g }

/-- The last `n` of 64 rounds; `fresh` holds the block's words not used yet, `last` up to sixteen used ones, newest first. -/
def Sha.rounds (s : Sha) : Nat → List Nat → List Nat → Sha
  | 0, _, _ => s
  | n + 1, fresh, last =>
    let w := fresh.headD (shaNextWord last)
    (s.round (63 - n) w).rounds n fresh.tail (w :: last.take 15)

/-- The sum of working words and hash, word by word. -/
def Sha.plus (s t : Sha) : Sha :=
  ⟨add32 s.a t.a, add32 s.b t.b, add32 s.c t.c, add32 s.d t.d, add32 s.e t.e, add32 s.f t.f, add32 s.g t.g, add32 s.h t.h⟩

/-- The big-endian words of a byte string. -/
def beWords : List Nat → List Nat
  | a :: b :: c :: d :: t => (((a * 256 + b) * 256 + c) * 256 + d) :: beWords t
  | _ => []

/-- Hash `n` blocks of 64 bytes. -/
def Sha.blocks (s : Sha) : Nat → List Nat → Sha
  | 0, _ => s
  | n + 1, bs => (s.plus (s.rounds 64 (beWords (bs.take 64)) [])).blocks n (bs.drop 64)

/-- The hash before the first block. -/
def Sha.start : Sha :=
  ⟨0x6a09e667, 0xbb67ae85, 0x3c6ef372, 0xa54ff53a, 0x510e527f, 0x9b05688c, 0x1f83d9ab, 0x5be0cd19⟩

/-- SHA-256 of a byte string, 32 bytes: a bit one, zeros, and the length in bits fill the last block. -/
def sha256 (bs : List Nat) : List Nat :=
  let full := bs ++ 0x80 :: (List.replicate ((119 - bs.length % 64) % 64) 0 ++ (leBytes 8 (8 * bs.length)).reverse)
  let s := Sha.start.blocks (full.length / 64) full
  [s.a, s.b, s.c, s.d, s.e, s.f, s.g, s.h].flatMap (fun w => (leBytes 4 w).reverse)

/-- HMAC-SHA-256 (R448). -/
def hmac (key msg : List Nat) : List Nat :=
  let k0 := if key.length > 64 then sha256 key else key
  let k := k0 ++ List.replicate (64 - k0.length) 0
  sha256 (k.map (· ^^^ 0x5c) ++ sha256 (k.map (· ^^^ 0x36) ++ msg))

end Sys2Proof.Machine
end

