-- ==== Sys2Proof/Machine/PanelOps.lean ====
section
/-! DEFINITION. The back-up panel port (R476 to R498): who drives it, the picture and its composition, waveforms, and the
start and quench sequences. -/

namespace Sys2Proof.Machine

/-- The panel port beyond its registers. -/
def Chip.setPanel (c : Chip) (f : PanelSt → PanelSt) : Chip := { c with panel := f c.panel }

/-- Set a sticky flag of word 0x0040 and its live bit. -/
def Chip.nOn (c : Chip) (n : Nat) : Chip :=
  let a := panelAt + 0x0040
  (c.setWord a (BitVec.ofNat 32 (withBit (c.nat a) n true))).putBit panelAt Panel.flags_now n true

/-- Clear a live bit of word 0x0041. -/
def Chip.nOff (c : Chip) (n : Nat) : Chip := c.putBit panelAt Panel.flags_now n false

/-! Bit numbers of word 0x0040. -/
def nMismatch : Nat := 1
def nRail : Nat := 2
def nQuenched : Nat := 3
def nCleared : Nat := 4
def nHeld : Nat := 5
def nFallback : Nat := 6
def nLate : Nat := 7

/-- Set the panel's state; `up` follows it. -/
def Chip.panelState (c : Chip) (st : Nat) : Chip := (c.put panelAt Panel.state st).put panelAt Panel.up (b2n (st == 2))

/-- May this module drive the panel (R492, R493)? -/
def Chip.mayDrive (c : Chip) : Bool :=
  let pos := c.get pairAt Pair.position
  let lease := c.get pairAt Pair.lease_state
  match c.panel.s2At with
  | none => false
  | some t =>
    if pos = 0 then holds lease
    else if 2 ≤ lease then lease == 2 || lease == 5
    else if pos = 1 then
      decide (t + 100000 ≤ c.now) && (match c.panel.partnerDrivesAt with
        | some d => decide (d + 100000 < c.now)
        | none => true)
    else decide (t + 1000000 ≤ c.now) && (match c.panel.partnerAt with
      | some d => decide (d + 1000000 ≤ c.now)
      | none => true)

/-- Is the panel being driven: rails up or coming up, scan-out, updates or clearing? -/
def Chip.driving (c : Chip) : Bool :=
  c.panel.pnlEn && [1, 2, 4, 7].contains (c.get panelAt Panel.state) && c.panel.quench.isNone

/-- A restart command that waits for its panel start is turned away by what keeps the panel from starting (DESIGN CHOICE, log entry 153). -/
def Chip.panelCut (c : Chip) : Chip := if c.get panelAt Panel.result = 1 then c.put panelAt Panel.result 3 else c

/-- The port, its clock and its target are in order: no fence, PNL clock present, in service (R494, R495). -/
def Chip.panelFit (c : Chip) : Bool :=
  !c.regionFenced 0 && !c.blockFenced 0 13 && !c.clkLost 0 6 && !c.flag surveyAt Survey.panel_oos

/-! ### Pictures -/

/-- Is the built-in status page shown (R491)? -/
def Chip.statusPage (c : Chip) : Bool :=
  c.phase != 8 || c.flag surveyAt Survey.halted || c.get panelAt Panel.kind == 0
    || (c.sys.faultCause != 0 && c.get pairAt Pair.lease_state == 0)

/-- What the status page shows beside the acceptance code: phase, halt reason, variant, serial number, slot and its check codes. -/
def Chip.statusInfo (c : Chip) : List Nat :=
  [c.phase, c.get surveyAt Survey.reason, c.get identAt Ident.part, c.get identAt Ident.serial_lo,
    c.get identAt Ident.serial_hi, c.get imageAt Image.slot, c.get imageAt Image.check_0, c.get imageAt Image.check_1]

/-- The acceptance code; none without a SAFETY section. -/
def Chip.acceptCode (c : Chip) : Option Nat := if c.sys.hasSafety then some (c.get imageAt Image.acceptance) else none

/-- The picture as the values stand now (R483, R490, R491). -/
def Chip.picture (c : Chip) : Picture :=
  let status := c.statusPage
  let page := c.get panelAt Panel.page_now
  let code := match c.panel.codeUntil with
    | some _ => !status
    | none => false
  { status := if status then some c.statusInfo else none
    page := page
    vals := if status then [] else c.panel.vals.filter (fun v => v.page == page)
    fills := if status then 0 else c.get panelAt Panel.blink_fill &&& c.get panelAt Panel.blink_en
    code := code }

/-- Decimal digits of a number, at least n of them, as ASCII codes. -/
def digitsOf : Nat → Nat → Nat → List Nat
  | 0, _, _ => []
  | fuel + 1, n, v => if v = 0 && n = 0 then [] else digitsOf fuel (n - 1) (v / 10) ++ [48 + v % 10]

/-- The text of a number field: v rounded to d decimals; "-" for NaN; none for an infinity, which never fits. -/
def numberText (v d : Nat) : Option (List Nat) :=
  if rNaN v then some [45]
  else if rInf v then none
  else
    let n := roundDiv ((rVal v).natAbs * 10 ^ d) (2 ^ 149)
    let sign := if rNeg v && n != 0 then [45] else []
    let whole := digitsOf 60 1 (n / 10 ^ d)
    let frac := if d = 0 then [] else 46 :: digitsOf d d (n % 10 ^ d)
    some (sign ++ whole ++ frac)

/-- Eight hexadecimal digits in two groups, high group first (R131); "----" without a code (R483). -/
def codeText (code : Option Nat) : List Nat :=
  match code with
  | none => [45, 45, 45, 45]
  | some v =>
    let hex (k : Nat) : Nat := let d := v / 16 ^ k % 16; if d < 10 then 48 + d else 55 + d
    [hex 7, hex 6, hex 5, hex 4, 32, hex 3, hex 2, hex 1, hex 0]

/-- The dot of a text drawn right-aligned in a field w wide, at column x and row y: whether it is set. A text that does not
fit fills the field with "#". -/
def textDot (text : Option (List Nat)) (w h scale x y : Nat) : Bool :=
  let cell := 8 * scale
  match text with
  | some t =>
    if cell * t.length ≤ w && 16 * scale ≤ h then
      let start := w - cell * t.length
      if x < start || 16 * scale ≤ y then false
      else Config.glyph (nth 32 t ((x - start) / cell)) ((x - start) % cell / scale) (y / scale)
    else Config.glyph 35 (x % cell / scale) (y % (16 * scale) / scale)
  | none => Config.glyph 35 (x % cell / scale) (y % (16 * scale) / scale)

/-- The colour index of pixel n of a background of runs. -/
def runColour : List Nat → Nat → Nat
  | [], _ => 0
  | b :: t, n => if n ≤ b / 16 then b % 16 else runColour t (n - (b / 16 + 1))

/-- A field's colour index at a column and row of the screen; none where the page shows through. -/
def fieldColour (symbols : List (Nat × Nat × List Nat)) (code : Option Nat) (f : PField) (v : FieldVal) (x y : Nat) : Option Nat :=
  if !v.vis || x < f.x || y < f.y || f.x + f.w ≤ x || f.y + f.h ≤ y then none
  else
    let px := x - f.x
    let py := y - f.y
    let ink (b : Bool) : Option Nat := some (if b then f.colours % 16 else f.colours / 16 % 16)
    if f.kind = 0 then ink (textDot (numberText v.value (f.fmt % 16)) f.w f.h (f.fmt / 16 % 8 + 1) px py)
    else if f.kind = 1 then
      match symbols[f.sym + v.state]? with
      | some (w, h, idx) =>
        if w ≤ px || h ≤ py then none
        else let i := nth 0 idx (py * w + px); if i = 0 then none else some i
      | none => none
    else if f.kind = 2 then
      let part := if rNaN v.value then 0 else rVal (rClamp 0 (rOfInt 1) v.value)
      if f.fmt % 2 = 1 then ink (decide (((f.h - 1 - py : Nat) : Int) * 2 ^ 149 < part * (f.h : Int)))
      else ink (decide ((px : Int) * 2 ^ 149 < part * (f.w : Int)))
    else ink (textDot (some (codeText code)) f.w f.h 1 px py)

/-- The acceptance code drawn with its left upper corner at (x0, y0), none outside it (R131, R491). -/
def codeDots (code : Option Nat) (x0 y0 x y : Nat) : Option Nat :=
  let scale := Config.codeScale.toNat + 1
  let text := codeText code
  let w := 8 * scale * text.length
  if x < x0 || x0 + w ≤ x || y < y0 || y0 + 16 * scale ≤ y then none
  else some (Config.codeInk (textDot (some text) w (16 * scale) scale (x - x0) (y - y0))).toNat

/-- The colour of a pixel of a picture (R483): background, dynamic fields, blink rectangles, the acceptance code over the top right corner;
or the status page with the code (R491). A field that no PFIELD has written yet shows the page, but for the acceptance code, which needs
none (DESIGN CHOICE, log entry 153). -/
def Chip.pixel (c : Chip) (p : Picture) (x y : Nat) : Nat :=
  match p.status with
  | some info =>
    (codeDots c.acceptCode Config.codeCorner.1.toNat Config.codeCorner.2.toNat x y).getD (Config.statusPixel info x y).toNat
  | none =>
    let width := (c.panel.use.map (·.h)).getD 0
    let codeDot := if p.code then
        codeDots c.acceptCode (width - 8 * (Config.codeScale.toNat + 1) * (codeText c.acceptCode).length) 0 x y
      else none
    match codeDot with
    | some v => v
    | none =>
      match c.panel.pages.find? (fun q => q.page == p.page) with
      | none => 0
      | some q =>
        let bg := runColour q.runs (y * c.get panelAt Panel.h_active + x)
        let i1 := q.fields.foldl (fun i f =>
          match p.vals.find? (fun v => v.field == f.field) with
          | some v => (fieldColour c.panel.symbols c.acceptCode f v x y).getD i
          | none => if f.kind = 3 then (fieldColour c.panel.symbols c.acceptCode f ⟨p.page, f.field, 0, 0, true⟩ x y).getD i else i) bg
        let i2 := (List.range 8).foldl (fun i k =>
          let rx := c.getI panelAt Panel.rect_x k
          let ry := c.getI panelAt Panel.rect_y k
          let inside := rx ≤ x && x < rx + c.getI panelAt Panel.rect_w k && ry ≤ y && y < ry + c.getI panelAt Panel.rect_h k
          if p.fills.testBit k && inside then c.getI panelAt Panel.rect_fill k else i) i1
        nth 0 q.palette i2

/-- The grey level a pixel shows, or is to show: white before the first update (R485). -/
def Chip.level (c : Chip) (p : Option Picture) (x y : Nat) : Nat :=
  match p with
  | some q => c.pixel q x y % 16
  | none => 15

/-- Frames of an entry of the waveform block (R497). -/
def waveFrames (wave : List Nat) (band entry : Nat) : Nat := numAt wave (8 + 8 * (258 * band + entry) + 4) 2

/-- The frame code of an entry in a frame; 0 once its waveform has ended (R485, R486). -/
def waveCode (wave : List Nat) (band entry frame : Nat) : Nat :=
  let at_ := numAt wave (8 + 8 * (258 * band + entry)) 4
  if frame < waveFrames wave band entry then
    numAt wave (8 + 8 * 258 * 8 + at_ + frame / 4) 1 / 4 ^ (frame % 4) % 4
  else 0

/-- Frames and frame codes of an entry in a band: those of the PANEL section, or without one the built-in waveforms. -/
def Chip.entryFrames (c : Chip) (band entry : Nat) : Nat :=
  if c.panel.wave.isEmpty then (Config.builtInFrames band entry).toNat else waveFrames c.panel.wave band entry
def Chip.entryCode (c : Chip) (band entry frame : Nat) : Nat :=
  if !c.panel.wave.isEmpty then waveCode c.panel.wave band entry frame
  else if frame < c.entryFrames band entry then (Config.builtInCode band entry frame).toNat % 3 else 0

/-- The band of the running update or clearing. -/
def Chip.band (c : Chip) : Nat := c.get panelAt Panel.band_used

/-- Frames of the deep clear that the running update begins with (R496). -/
def Chip.deepFrames (c : Chip) : Nat := if c.panel.deepNow then c.entryFrames c.band 257 else 0

/-- The entry of a pixel's transition in the running update: displayed and target level (R485, R497). -/
def Chip.transition (c : Chip) (t : Picture) (x y : Nat) : Nat := 16 * c.level c.panel.shown x y + c.level (some t) x y

/-- The frame code that drives a pixel in a frame: that of the clearing of a panel start, or of the running update, a deep clear first
where one was asked for; 0 between updates (R485). -/
def Chip.pixelCode (c : Chip) (frame x y : Nat) : Nat :=
  let p := c.panel
  if c.get panelAt Panel.state = 4 then c.entryCode c.band p.clearEntry frame
  else match p.target with
    | none => 0
    | some t =>
      if frame < c.deepFrames then c.entryCode c.band 257 frame
      else c.entryCode c.band (c.transition t x y) (frame - c.deepFrames)

/-- Frames of the running update: the longest waveform it uses, after the deep clear (R485). -/
def Chip.updateFrames (c : Chip) : Nat :=
  match c.panel.target, c.panel.use with
  | some t, some u =>
    c.deepFrames + (List.range u.v).foldl (fun n y => (List.range u.h).foldl (fun n x =>
      max n (c.entryFrames c.band (c.transition t x y))) n) 0
  | _, _ => 0

/-- The POL level of a line in a frame (R482). -/
def polLevel (inv f y : Nat) : Nat := if inv = 0 then f % 2 else (f + y) % 2

/-! ### Identity and timing -/

/-- Read a panel's ID memory (R477): none when its CRC fails or it does not answer. -/
def panelIdentity (mem : List Nat) : Option Nat :=
  if mem.length < 128 || numAt mem 124 4 != crc32 (mem.take 124) then none else some (numAt mem 0 4)

/-- Does a kind and area lie within Table 17.1? -/
def panelArea (kind h v : Nat) : Bool :=
  (kind == 1 && decide (h ≤ 1280 && v ≤ 800)) || (kind == 2 && decide (h ≤ 1600 && v ≤ 1200) && h % 8 == 0)

/-- The lowest whole kHz that gives at least 60 Hz, capped at the panel's highest clock. -/
def builtInClock (clocks top : Nat) : Nat := min ((60 * clocks + 999) / 1000) top

/-- The timing a panel is driven with, none for an unsupported one (R478). -/
def Chip.judgePanel (c : Chip) (mem : List Nat) : Option PanelUse :=
  match panelIdentity mem with
  | none => none
  | some id =>
    let kind := id / 2 ^ 28
    let h := numAt mem 4 2
    let v := numAt mem 6 2
    let top := numAt mem 8 4
    let b := panelAt
    if !panelArea kind h v then none
    else if c.phase = 8 && c.get b Panel.kind != 0 then
      if kind = c.get b Panel.kind && h = c.get b Panel.h_active && v = c.get b Panel.v_active
          && c.get b Panel.pclk ≤ top then
        some { kind := kind, h := h, v := v, pclk := c.get b Panel.pclk
               hBlank := c.get b Panel.h_front + c.get b Panel.h_sync + c.get b Panel.h_back
               vBlank := c.get b Panel.v_front + c.get b Panel.v_sync + c.get b Panel.v_back
               hFront := c.get b Panel.h_front, hSync := c.get b Panel.h_sync, vFront := c.get b Panel.v_front
               vSync := c.get b Panel.v_sync
               inv := c.get b Panel.inv }
      else none
    else
      let hb := if kind = 1 then 160 else 8
      let vb := if kind = 1 then 23 else 8
      let a := if kind = 1 then h else h / 8
      let porch (line : Bool) (n : Nat) : Nat × Nat :=
        ((Config.builtInPorch line).1.toNat % n, (Config.builtInPorch line).2.toNat % (n - (Config.builtInPorch line).1.toNat % n))
      some { kind := kind, h := h, v := v, pclk := builtInClock ((a + hb) * (v + vb)) top, hBlank := hb, vBlank := vb, inv := 0
             hFront := (porch true hb).1, hSync := (porch true hb).2, vFront := (porch false vb).1, vSync := (porch false vb).2 }

/-- The clocks of a frame (R481). -/
def PanelUse.frameClocks (u : PanelUse) : Nat := ((if u.kind = 1 then u.h else u.h / 8) + u.hBlank) * (u.v + u.vBlank)

/-- Clocks of a line in which data run (R481). -/
def PanelUse.active (u : PanelUse) : Nat := if u.kind = 1 then u.h else u.h / 8

/-- Whole ticks of a frame (R481). -/
def PanelUse.frameTicks (u : PanelUse) : Nat := 1000 * u.frameClocks / u.pclk

/-- Ticks of a frame of the panel that is driven. -/
def Chip.frameTicks (c : Chip) : Nat := (c.panel.use.map PanelUse.frameTicks).getD 0

/-- Rails a panel uses. -/
def PanelSt.usedRails (p : PanelSt) : List Nat := (List.range 4).filter (fun k => nth 0 p.rails k != 0)

/-- Is a rail inside 90 to 110 % of its nominal value (R488)? -/
def inWindow (nominal mv : Int) : Bool := decide (9 * nominal.natAbs ≤ 10 * mv.natAbs && 10 * mv.natAbs ≤ 11 * nominal.natAbs)
  && decide (0 < nominal) == decide (0 < mv)

/-! ### Signals on X2 (R479 to R482) -/

/-- What X2 carries at a pixel clock: the data bits D23:D0, the three or two control bits in slots 3 to 6 of DA3, and the row control
outputs. -/
structure X2Out where
  d : Nat := 0
  ctl : Nat := 0
  gsp : Bool := false
  gck : Bool := false
  goe : Bool := false
  pol : Bool := false
  dot : Bool := false
  gall : Bool := false
  deriving DecidableEq, Repr

/-- Slot j of data pair DAk: D0 to D23 fill DA0, DA1, DA2 and slots 0 to 2 of DA3 in order; the control bits follow (Table 17.2). -/
def X2Out.slot (o : X2Out) (k j : Nat) : Bool :=
  let n := 7 * k + j
  if n < 24 then o.d.testBit n else o.ctl.testBit (n - 24)

/-- The clocks since a frame or an update began. -/
def Chip.clocksSince (c : Chip) (u : PanelUse) (t : Nat) : Nat := (c.now - t) * u.pclk / 1000

/-- D23:D0 of a colour 0x00RRGGBB: red in D7:D0, green in D15:D8, blue in D23:D16 (Table 17.2). -/
def colourWord (v : Nat) : Nat := v / 2 ^ 16 % 2 ^ 8 + 2 ^ 8 * (v / 2 ^ 8 % 2 ^ 8) + 2 ^ 16 * (v % 2 ^ 8)

/-- The signals of a scanned frame f at a line and clock of it: the active area first, then front porch, sync and back porch (R481, R482).
Kind 2 carries the frame codes of eight pixels at a clock. -/
def Chip.x2Scan (c : Chip) (u : PanelUse) (f line clk : Nat) : X2Out :=
  let de := decide (line < u.v && clk < u.active)
  let hs := decide (u.active + u.hFront ≤ clk && clk < u.active + u.hFront + u.hSync)
  let vs := decide (u.v + u.vFront ≤ line && line < u.v + u.vFront + u.vSync)
  let d := if !de then 0
    else if u.kind = 1 then (c.panel.shown.map (fun p => colourWord (c.pixel p clk line))).getD 0
    else ((List.range 8).map (fun i => 4 ^ i * c.pixelCode f (8 * clk + i) line)).sum
  { d := d
    ctl := if u.kind = 1 then b2n de + 2 * b2n hs + 4 * b2n vs else b2n hs + 2 * b2n (decide (line < u.v))
    gsp := line == u.v + u.vBlank - 1, gck := hs, goe := !hs
    pol := u.kind == 1 && polLevel u.inv f line == 1, dot := u.kind == 1 && u.inv == 2, gall := false }

/-- What X2 carries now; none at high impedance, in a module that does not drive the panel (R480, R492). In the quench kind 1 holds every
column at the VCOM code with GALL high and kind 2 finishes its frame; then every output is low (Table 17.5). -/
def Chip.x2 (c : Chip) : Option X2Out :=
  let st := c.get panelAt Panel.state
  match c.panel.use with
  | none => none
  | some u =>
    let scan (t f : Nat) : X2Out :=
      let n := c.clocksSince u t % u.frameClocks
      let per := u.active + u.hBlank
      c.x2Scan u (f + c.clocksSince u t / u.frameClocks) (n / per) (n % per)
    let wave := u.kind == 2 && (c.panel.target.isSome || st == 4)
    if st = 3 then some {}
    else if !([1, 2, 4, 7].contains st) then none
    else if c.panel.quench.isSome then
      if u.kind = 1 then some { d := colourWord (c.panel.vcom * 0x010101), gall := true }
      else if wave && c.panel.pnlEn then some (scan c.panel.updAt 0) else some {}
    else if u.kind = 1 && st = 2 && c.panel.frames != 0 then some (scan c.panel.frameAt (c.panel.frames - 1))
    else if wave then some (scan c.panel.updAt 0)
    else some {}

/-- BL_PWM now: bl_hz with the duty that the last frame took (R484). -/
def Chip.blPwm (c : Chip) : Bool :=
  c.panel.blEn && decide ((c.now * c.get panelAt Panel.bl_hz % 1000000) * 1000 < c.panel.dim * 1000000)

/-! ### Start, quench -/

/-- A panel start is triggered (R494): at once when the panel is not driven, else after what runs. -/
def Chip.wantPanel (c : Chip) : Chip := c.setPanel (fun p => { p with want := true })

/-- Nothing waits for a running update any more. -/
def Chip.updateOver (c : Chip) : Chip := ((c.put panelAt Panel.ep_busy 0).nOff nHeld).nOff nLate

/-- Stop driving without a quench, at a frame boundary (R492, R493): outputs at high impedance. When the module may drive again, a panel
start comes first (R494). -/
def Chip.panelRelease (c : Chip) : Chip :=
  ((((c.panelState 6).updateOver).put panelAt Panel.rails_ok 0).panelCut).setPanel (fun p => { p with
    want := true, pnlEn := false, blEn := false, target := none, deepNow := false, shown := none, frames := 0 })

/-- A module whose lease state drives no panel, and that drives none, reports so (R492). -/
def Chip.panelYield (c : Chip) : Chip :=
  if c.driving || c.panel.quench.isSome || c.panel.s2At.isNone then c else ((c.panelState 6).nOff nQuenched).panelCut

/-- Is a waveform running: an update or a clearing of an electrophoretic panel? -/
def Chip.waveRuns (c : Chip) : Bool :=
  (c.panel.use.map (·.kind)) == some 2 && (c.panel.target.isSome || c.get panelAt Panel.state == 4)

/-- The quench begins (R495); a running waveform leaves the dirty mark in the retained store. -/
def State.startQuench (s : State) (trigger : Nat) : State :=
  if !s.chip.driving then s
  else
    let wave := s.chip.waveRuns
    let c1 := (s.chip.when wave (·.put panelAt Panel.dirty 1)).setPanel (fun p => { p with
      quench := some trigger, quenchAt := s.chip.now, blEn := false })
    { s with chip := c1
             flash := if wave then { s.flash with retained := { s.flash.retained with dirty := true } } else s.flash }

/-- The restart command of the panel block: a quench, then a panel start (R498). -/
def State.panelRestart (s : State) : State :=
  let c := s.chip
  if c.get panelAt Panel.result = 1 then s
  else if !c.mayDrive || c.get panelAt Panel.state = 0 || c.get panelAt Panel.state = 6 then
    s.onChip (·.put panelAt Panel.result 3)
  else
    let s1 := s.onChip (fun c => ((c.put panelAt Panel.last_cmd 0).put panelAt Panel.result 1).resetTongs (tongsKey 0 6 13))
    if c.driving then s1.startQuench 7 else s1.onChip Chip.wantPanel

/-- The show_code command (R491); on the status page the code is shown already (Table 17.6). -/
def Chip.panelShow (c : Chip) : Chip :=
  if c.get panelAt Panel.result = 1 then c
  else if !c.driving then c.put panelAt Panel.result 3
  else ((c.put panelAt Panel.last_cmd 1).put panelAt Panel.result 2).setPanel (fun p => { p with
    codeUntil := if c.statusPage then p.codeUntil else some (c.now + 60000000) })

/-- The clear command: kind 2 only (R496). -/
def Chip.panelClearCmd (c : Chip) : Chip :=
  if c.get panelAt Panel.result = 1 then c
  else if !c.driving || (c.panel.use.map (·.kind)) != some 2 then c.put panelAt Panel.result 3
  else ((c.put panelAt Panel.last_cmd 2).put panelAt Panel.result 2).setPanel (fun p => { p with deep := true })

/-- A restart command that waits for its panel start is done. -/
def Chip.panelDone (c : Chip) : Chip := if c.get panelAt Panel.result = 1 then c.put panelAt Panel.result 2 else c

/-- PFIELD at the output write. -/
def Chip.fieldAsk (c : Chip) (page field value state : Nat) (vis : Bool) : Chip :=
  c.setPanel (fun p => { p with vals := p.vals.filter (fun v => !(v.page == page && v.field == field)) ++
    [{ page := page, field := field, value := value, state := state, vis := vis }] })

/-- The shortest blink period of the panel, in ticks (Table 17.1). -/
def Chip.minBlink (c : Chip) : Nat := if c.get panelAt Panel.kind = 2 then 2000000 else 200000

/-- PBLINK at the output write: a rectangle begins with its composed content (R490). -/
def Chip.blinkAsk (c : Chip) (i : Nat) (en : Bool) (period : Nat) : Chip :=
  let old := nth {} c.panel.blink i
  let new : BlinkSt := { en := en, period := period, nextAt := if en && !old.en then c.now + period / 2 else old.nextAt }
  let c1 := c.setPanel (fun p => { p with blink := setAt p.blink i new })
  let c2 := c1.putBit panelAt Panel.blink_en i en
  if en then c2 else c2.putBit panelAt Panel.blink_fill i false

/-- PPAGE at the output write. -/
def Chip.pageAsk (c : Chip) (page : Nat) : Chip := c.put panelAt Panel.page_now page

/-- The band of a temperature in 1/16 °C: how many boundaries lie at or below it (R487). -/
def Chip.bandOf (c : Chip) (t : Int) : Nat :=
  let bound (k : Nat) : Int :=
    signed 16 (if k % 2 = 0 then c.getI panelAt Panel.bound_lo (k / 2) else c.getI panelAt Panel.bound_hi (k / 2))
  ((List.range 7).filter (fun k => bound k ≤ t)).length

end Sys2Proof.Machine
end

