-- ==== Sys2Proof/Machine/Digital.lean ====
section
/-! DEFINITION. Universal channels: digital modes, protection and faults (R245 to R279), and the split-source measurement
of shared current outputs (R238, R239). -/

namespace Sys2Proof.Machine

/-! ### Inputs -/

/-- One step of an integrator of R250: up, down or neither, limited to 0–n. -/
def filterCount (integ n : Nat) (up down : Bool) : Nat :=
  let i := min integ n
  if up then min (i + 1) n else if down then i - 1 else i

/-- Does the integrator set, keep or clear its state? -/
def filterState (integ n : Nat) (old : Bool) : Bool := if integ = n then true else if integ = 0 then false else old

/-- Class of Table 9.3 of a resistance in Ω. -/
def monClass (r : Nat) : Nat :=
  if r < 500 then 1 else if r < 2500 then 2 else if r < 5000 then 3 else if r ≤ 30000 then 4 else 5

/-- A DI-monitored sample, in Ω: contact filter, fault filter and their consequences (R252 to R254). Before step 3 of Table 8.2 the image
stays. -/
def Chip.monitorSample (c : Chip) (g r : Nat) : Chip :=
  let b := chanAt g
  let h := c.chan g
  let n := c.get b Dig.filt_n
  let k := monClass r
  let fault := k == 1 || k == 5
  let i := filterCount h.integ n (k == 2) (k == 4)
  let f := filterCount h.finteg n fault (k == 2 || k == 4)
  let now := if f = n then true else if f = 0 then false else h.mfault
  let state := filterState i n h.state
  let last := if fault then k else h.faultClass
  let c1 := ((c.put b Dig.mon_class k).put b Dig.mon_res (min (r / 10) 0xFFFF)).setChan g (fun h => { h with
    integ := i, finteg := f, state := state, mfault := now, faultClass := last })
  let c2 :=
    if now && !h.mfault then
      (c1.dOn g (if last = 1 then dMonShort else dMonBreak)).record 39 (g / 16) 2 g [last] [r]
    else if h.mfault && !now then ((c1.dOff g dMonShort).dOff g dMonBreak).record 39 (g / 16) 0 g [0] [r]
    else c1
  if now || h.seq == 2 then c2.putStatus g else c2.setImage g (b2n state)

/-- Is a sample of the channel due: a window that began on its present grid has ended since the last one, or one open when T changed
(R249)? -/
def Chip.sampleDue (c : Chip) (g : Nat) : Bool :=
  let h := c.chan g
  let t := samplePeriod (c.get (chanAt g) Dig.pulse)
  h.winOpen || decide (max (windowsEnded (g % 16) t h.sampledAt) (windowsBy (g % 16) t (16 * (h.gridAt + 20) - 1)) <
    windowsEnded (g % 16) t c.now)

/-- A DI sample, in mV (R248, R250): the filter; the image once step 3 of Table 8.2 is past. -/
def Chip.inputSample (c : Chip) (g : Nat) (mv : Int) : Chip :=
  let b := chanAt g
  let h := c.chan g
  let high := decide ((if c.flag b Dig.di_type then 8000 else 10000) ≤ mv)
  let n := c.get b Dig.filt_n
  let i := filterCount h.integ n high (!high)
  let state := filterState i n h.state
  let c1 := c.setChan g (fun h => { h with integ := i, state := state })
  if h.seq == 2 then c1 else (c1.setImage g (b2n state)).switchesOf g

/-- DI_SAMPLE: the end of a sampling window, one in each period: mV of a DI (R248), Ω of a DI-monitored channel. Filters hold in temper
and survey, and pause for DI-monitored in the GS off step (R271); reset tongs take no sample (R70). -/
def execDiSample (g : Fin 128) (reading : BitVec 32) (s : State) : Out :=
  chipOnly s (fun c =>
    let h := c.chan g.val
    let m := c.mode g.val
    let run := (h.seq == 0 || h.seq == 2) && !h.tempering && !h.surveyed && !c.chanDead g.val && !c.tongsWait (chanTongs g.val 4)
    if !run || !c.sampleDue g.val then c
    else
      let c1 := c.setChan g.val (fun h => { h with samples := h.samples + 1, sampledAt := c.now, winOpen := false })
      if m = 7 then c1.inputSample g.val reading.toInt
      else if m = 8 && !(c.gs (g.val / 16)).off then c1.monitorSample g.val reading.toNat
      else c)

/-- CNT_GATE_END: a gate ends with its qualified edges and the time from the first to the last of them in units of 25 ns
(R257, R258). -/
def execCntGateEnd (g : Fin 128) (edges span25ns : BitVec 32) (s : State) : Out :=
  chipOnly s (fun c =>
    let h := c.chan g.val
    let b := chanAt g.val
    if c.mode g.val != 11 || h.seq != 0 || c.now < h.gateAt + h.gateLen || c.chanDead g.val
        || c.clkLost (g.val / 16) 5 then c
    else
      let k := edges.toNat
      let both := c.get b Dig.cnt_edge == 2
      let f := if k < 2 || span25ns.toNat = 0 then 0
        else rOfRat (((k - 1) * 40000000 : Nat) : Int) (span25ns.toNat * (if both then 2 else 1))
      let lim := if both then 300000 else 150000
      let fast := decide (lim * h.gateLen < k * 1000000) || (h.overRate && decide (lim * h.gateLen = k * 1000000))
      let c1 := c.put b Dig.freq f
      let c2 :=
        if fast && !h.overRate then (c1.dOn g.val dCntOver).record 46 (g.val / 16) 1 g.val [1] [k]
        else if h.overRate && !fast then (c1.dOff g.val dCntOver).record 46 (g.val / 16) 0 g.val [0] [k]
        else c1
      (c2.setChan g.val (fun h => { h with
        overRate := fast, gateAt := h.gateAt + h.gateLen, gateLen := c.get b Dig.cnt_gate })).putStatus g.val)

/-! ### Switches -/

/-- PWM_PERIOD_END (R260): the running period has ended; the next begins without a gap with the present duty and period; a period of 0 ends
PWM. On-time above 0.6 A has been summed (R262). -/
def execPwmPeriodEnd (g : Fin 128) (s : State) : Out :=
  chipOnly s (fun c =>
    let b := chanAt g.val
    let h := c.chan g.val
    if !h.pwmOn || decide (c.now < h.pwmAt + h.pwmLen) then c
    else
      let p := c.get b Dig.pwm_period
      let cmd := c.get b Chan.command
      let c1 := c.setChan g.val (fun h => { h with overRun := c.overTime g.val, overFrom := c.now })
      if p = 0 then (c1.setChan g.val (fun h => { h with pwmOn := false })).when h.driven (·.driveWith g.val cmd)
      else (c1.setChan g.val (fun h => { h with pwmAt := h.pwmAt + h.pwmLen, pwmLen := p, duty := cmd })).setSwitch g.val
        (c.mayClose g.val))

/-- Are the conditions of this chapter judged: group in service, GS not off nor within 100 ms of it (R271, R273)? -/
def Chip.judged (c : Chip) (g : Nat) : Bool :=
  !c.guarded g && !(c.gs (g / 16)).off && (c.chan g).judgeAt ≤ c.now

/-- Current an open load is judged on: the sum of both modules on a shared DO with its partner present (R277). -/
def Chip.loadSum (c : Chip) (g own : Nat) : Nat :=
  if c.shared g && c.flag pairAt Pair.partner then own + (c.chan g).partnerLoad else own

/-- Is this tick the last one of a running on-phase (R260)? -/
def Chip.phaseEnd (c : Chip) (g : Nat) : Bool :=
  let h := c.chan g
  let on := min (onUnits h.duty h.pwmLen) (40 * h.pwmLen)
  h.pwmOn && h.closed && decide (40 * (c.now - h.pwmAt) < on) && decide (on ≤ 40 * (c.now + 1 - h.pwmAt))

/-- The load of a closed switch is seen (R267): without PWM at each measurement; under PWM at the end of each on-phase of at least 1 ms
alone, where the time of a condition counts from the first such end at which it held. -/
def Chip.seeLoad (c : Chip) (g sum : Nat) : Chip :=
  let h := c.chan g
  let thr := c.get (chanAt g) Dig.open_thr
  let lo := decide (sum < 10 * thr)
  let hi := decide (10 * (thr + 1) ≤ sum)
  if !h.pwmOn then (c.see g .unloaded (c.switchOn g && lo)).see g .loaded (c.switchOn g && hi)
  else if !c.phaseEnd g || decide (onUnits h.duty h.pwmLen < 40000) then c
  else ((c.see g .unloaded (lo && h.phaseWas == 1)).see g .loaded (hi && h.phaseWas == 2)).setChan g (fun h => { h with
    phaseWas := if lo then 1 else if hi then 2 else 3 })

/-- What is seen of a switch at a measurement (R265, R267, R268). -/
def Chip.seeSwitch (c : Chip) (g i : Nat) (mv : Int) : Chip :=
  let on := c.switchOn g
  let c1 := ((c.see g .high (!on && decide (10000 ≤ mv))).see g .low (decide (mv < 8000))).see g .stuck (!on && decide (50 < i))
  (c1.seeLoad g (c.loadSum g i)).setChan g (fun h => { h with
    highAt := if on || decide (mv < 10000) then none else some (h.highAt.getD c.now) })

/-- Overload time at a measurement: it starts anew where the current of an on-phase is 0.6 A or less (R262). -/
def Chip.sumOver (c : Chip) (g i : Nat) : Chip :=
  if !c.switchOn g then c
  else
    let t := if i ≤ 6000 then 0 else c.overTime g
    c.setChan g (fun h => { h with overRun := t, overFrom := c.now })

/-- LOAD_CURRENT_MEASUREMENT: every 1 ms, and at the end of an on-phase, the switch current, in 0.1 mA, and in every digital mode the terminal
voltage, which the readback follows (R261, R267, R279). An open switch whose current has gone is stuck on no longer, where that is
judged. -/
def execLoadCurrentMeasurement (g : Fin 128) (tenthMa termMv : BitVec 16) (s : State) : Out :=
  chipOnly s (fun c =>
    let b := chanAt g.val
    let m := c.mode g.val
    let i := tenthMa.toNat
    if !(decide (7 ≤ m) && decide (m ≤ 12)) || c.clkLost (g.val / 16) 4 || c.tongsWait (chanTongs g.val 4)
        || (c.measuredSince g.val 1000 && !c.phaseEnd g.val) then c
    else
      let c0 := (c.put b Chan.term_mv termMv.toNat).setChan g.val (fun h => { h with measAt := some c.now })
      if !doMode m then c0
      else
        let live := (c.chan g.val).tripTicks.filter (fun t => c.now < t + 60000000)
        let c1 := (c0.put b Dig.load i).put b Dig.trips (min live.length 15)
        let c2 := c1.setChan g.val (fun h => { h with tripTicks := live, loads := ((c.now, i) :: h.loads).take 20 })
        let c3 := (c2.seeSwitch g.val i termMv.toInt).sumOver g.val i
        let c4 := if c3.dNow g.val dStuckOn && c3.judged g.val && (c3.switchOn g.val || i ≤ 50) then
            (c3.dOff g.val dStuckOn).record 44 (g.val / 16) 0 g.val [0] [i]
          else c3
        if (c4.chan g.val).seq == 1 || (c4.chan g.val).seq == 2 then c4 else c4.setImage g.val (b2n (c4.switchReads g.val)))

/-- SWITCH_TRIP (R262, R263): a current above 0.6 A for overload_ms of on-time, or the junction at 170 °C; the switch opens, or the third
trip within 60 s latches it off. The overload time counts from the last measurement at 0.6 A or below, or from the closing (log entry
125). -/
def execSwitchTrip (g : Fin 128) (thermal : Bool) (milliamps : BitVec 16) (s : State) : Out :=
  chipOnly s (fun c =>
    let h := c.chan g.val
    let r := g.val / 16
    if !doMode (c.mode g.val) || !c.switchOn g.val then c
    else if c.guarded g.val then
      (if thermal then (c.setChan g.val (fun h => { h with selfOff := true })).setSwitch g.val false else c)
    else if (!thermal && (milliamps.toNat ≤ 600 || decide (c.overTime g.val < 1000 * c.get (chanAt g.val) Dig.overload_ms))) then c
    else
      let ticks := h.tripTicks.filter (fun t => c.now < t + 60000000) ++ [c.now]
      let latch := decide (3 ≤ ticks.length)
      let c1 := (c.dOn g.val (if thermal then dTherm else dOverload)).record 40 r 1 g.val [if thermal then 2 else 1]
        [milliamps.toNat]
      let c2 := ((c1.put (chanAt g.val) Dig.trips (min ticks.length 15)).setChan g.val (fun h => { h with
        tripTicks := ticks, tripAt := c.now, waiting := !latch, latched := latch })).setSwitch g.val false
      (if latch then (c2.dOn g.val dLatched).record 41 r 2 g.val [] [ticks.length] else c2).putStatus g.val)

/-- SWITCH_RETRY (R263): retry_ms have passed and the junction is below 150 °C; the switch closes if the effective
command is still on. One that its own shutdown has opened while the field guard drives it restarts by itself (R273). -/
def execSwitchRetry (g : Fin 128) (s : State) : Out :=
  chipOnly s (fun c =>
    let h := c.chan g.val
    let b := chanAt g.val
    if h.selfOff && c.guarded g.val then
      let c1 := c.setChan g.val (fun h => { h with selfOff := false })
      c1.setSwitch g.val ((h.pwmOn || c1.cmdOn g.val (c.get b Chan.command)) && c1.mayClose g.val)
    else if !h.waiting || c.now < h.tripAt + 1000 * c.get b Dig.retry_ms || c.guarded g.val then c
    else
      let c1 := ((c.setChan g.val (fun h => { h with waiting := false })).dOff g.val dOverload).dOff g.val dTherm
      let on := (c1.chan g.val).pwmOn || c1.cmdOn g.val (c.get b Chan.command)
      (c1.setSwitch g.val (on && c1.mayClose g.val)).putStatus g.val)

/-! ### Foreign voltages, loads -/

/-- The largest rise of the load currents, newest first, that shows within 2 ms of a tick: from a measurement at most 3 ms before the tick
on (R266). -/
def riseAround (t : Nat) : List (Nat × Nat) → Nat
  | [] => 0
  | (tj, lj) :: older =>
    let rest := riseAround t older
    if tj + 2000 < t || t + 2000 < tj then rest
    else ((older.filter (fun e => decide (t ≤ e.1 + 3000))).map (fun e => lj - e.2)).foldl max rest

/-- The feeder of a back-fed DO (R266): the DO of the module whose load current rose by more than 2 mA, and most, around the first high
reading; of several that rose alike the one named, else the first (DESIGN CHOICE, log entry 125). -/
def Chip.feederOf (c : Chip) (g : Nat) (named : Option Nat) : Option Nat :=
  let t := ((c.chan g).highAt).getD c.now
  let rises := ((List.range 128).filter (fun f => f != g && c.fitted (f / 16) && c.mode f == 9)).map (fun f => (f, riseAround t (c.chan f).loads))
  let top := (rises.map (·.2)).foldl max 0
  if top ≤ 20 then none
  else
    let best := (rises.filter (fun e => e.2 == top)).map (·.1)
    match named with
    | some f => if best.contains f then some f else best.head?
    | none => best.head?

/-- BACK_FED (R265, R266): an open DO has read 10.0 V or more for 10 ms; its feeder is looked for. On a shared DO only while both modules
command off (R277). -/
def execBackFed (g : Fin 128) (feeder : Option (Fin 128)) (s : State) : Out :=
  chipOnly s (fun c =>
    if c.mode g.val != 9 || c.switchOn g.val || c.dNow g.val dBackFed || !c.judged g.val || !c.stood g.val .high 10000
        || (c.shared g.val && c.flag pairAt Pair.partner
            && ((c.chan g.val).partnerOn || c.cmdOn g.val (c.get (chanAt g.val) Chan.command))) then c
    else
      let found := c.feederOf g.val (feeder.map (·.val))
      let src := found.getD 0xFF
      let c1 := (c.dOn g.val dBackFed).put (chanAt g.val) Dig.cross_src src
      let c2 := if found.isSome then c1.dOn g.val dCrossFed else c1
      (c2.record 43 (g.val / 16) 1 g.val [1] [src]).putStatus g.val)

/-- BACK_FED_END: the terminal has stayed below 8.0 V for 10 ms. -/
def execBackFedEnd (g : Fin 128) (s : State) : Out :=
  chipOnly s (fun c =>
    if c.dNow g.val dBackFed && c.stood g.val .low 10000 && c.judged g.val then (c.endBackFed g.val).putStatus g.val else c)

/-- OPEN_LOAD (R267): a closed switch has carried less than open_thr for 100 ms, under PWM at the end of an on-phase of at least 1 ms; or,
with `ended`, at least open_thr + 1 mA for 100 ms. -/
def execOpenLoad (g : Fin 128) (tenthMa : BitVec 16) (ended : Bool) (s : State) : Out :=
  chipOnly s (fun c =>
    let b := chanAt g.val
    let i := tenthMa.toNat
    let sum := c.loadSum g.val i
    let thr := c.get b Dig.open_thr
    let h := c.chan g.val
    if !doMode (c.mode g.val) || !c.judged g.val || (h.pwmOn && (!c.phaseEnd g.val || h.phaseWas != (if ended then 2 else 1))) then c
    else if ended then
      if c.dNow g.val dOpenLoad && c.stood g.val .loaded 100000 && decide (10 * (thr + 1) ≤ sum) then
        ((c.dOff g.val dOpenLoad).record 42 (g.val / 16) 0 g.val [0] [i]).putStatus g.val
      else c
    else if c.switchOn g.val && c.stood g.val .unloaded 100000 && thr != 0 && !c.dNow g.val dOpenLoad && decide (sum < 10 * thr) then
      ((c.dOn g.val dOpenLoad).record 42 (g.val / 16) 1 g.val [1] [i]).putStatus g.val
    else c)

/-- STUCK_ON (R268): an open switch has carried more than 5 mA for 10 ms. -/
def execStuckOn (g : Fin 128) (tenthMa : BitVec 16) (s : State) : Out :=
  chipOnly s (fun c =>
    if doMode (c.mode g.val) && !c.switchOn g.val && c.judged g.val && c.stood g.val .stuck 10000 && !c.dNow g.val dStuckOn
        && decide (50 < tenthMa.toNat) then
      ((c.dOn g.val dStuckOn).record 44 (g.val / 16) 2 g.val [1] [tenthMa.toNat]).putStatus g.val
    else c)

/-- EXT_SRC (R270, R277): the readback has exceeded the command by 1.0 mA, on a shared output the command plus 2.5 mA, for
10 ms; the stage turns off. -/
def execExtSrc (g : Fin 128) (microamps : BitVec 32) (s : State) : Out :=
  chipOnly s (fun c =>
    let b := chanAt g.val
    let cmd := milli (c.get b Chan.command)
    let margin := c.extMargin g.val
    if c.mode g.val != 6 || (c.chan g.val).extOff || c.guarded g.val || !c.stood g.val .above 10000 || microamps.toInt ≤ cmd + margin then c
    else
      let c1 := ((c.setChan g.val (fun h => { h with extOff := true, driven := false })).put b Chan.bellows_mv 4000).aOn g.val fExtSrc
      (c1.record 45 (g.val / 16) 2 g.val [1] [unsigned 32 cmd, microamps.toNat]).putStatus g.val)

/-- EXT_SRC_END: the foreign current has stayed below 0.5 mA for 100 ms; the stage resumes at the command. -/
def execExtSrcEnd (g : Fin 128) (microamps : BitVec 32) (s : State) : Out :=
  chipOnly s (fun c =>
    let cmd := c.get (chanAt g.val) Chan.command
    if !(c.chan g.val).extOff || c.guarded g.val || !c.stood g.val .gone 100000 || 500 ≤ microamps.toInt then c
    else
      let c1 := (c.setChan g.val (fun h => { h with extOff := false })).aOff g.val fExtSrc
      let c2 := (c1.record 45 (g.val / 16) 0 g.val [0] [unsigned 32 (milli cmd), microamps.toNat]).setChan g.val (fun h =>
        { h with driven := !(h.oos || h.partnerExt) })
      (if c1.terminalOff g.val then c2 else c2.raiseBellows g.val cmd).putStatus g.val)

/-! ### Shared outputs -/

/-- SHARED_DO_EXCHANGE (R277): the partner's command and load current; `low100ms` says that the own current has stayed
below 10 % of the sum for 100 ms. -/
def execSharedDoExchange (g : Fin 128) (partnerOn : Bool) (partnerLoad : BitVec 16) (low100ms : Bool) (s : State) : Out :=
  chipOnly s (fun c =>
    if !c.shared g.val || c.mode g.val != 9 || !c.flag pairAt Pair.partner then c
    else
      let own := c.get (chanAt g.val) Dig.load
      let both := partnerOn && c.cmdOn g.val (c.get (chanAt g.val) Chan.command)
      let low := both && decide (10 * own < own + partnerLoad.toNat)
      let c1 := (c.setChan g.val (fun h => { h with partnerOn := partnerOn, partnerLoad := partnerLoad.toNat })).see g.val .shareLow low
      if low && low100ms && c1.stood g.val .shareLow 100000 && !c.dNow g.val dShareLow && c.judged g.val then
        ((c1.dOn g.val dShareLow).record 44 (g.val / 16) 2 g.val [2] [own]).putStatus g.val
      else if c.dNow g.val dShareLow && !low && c.judged g.val then
        ((c1.dOff g.val dShareLow).record 44 (g.val / 16) 0 g.val [0] [own]).putStatus g.val
      else c1)

/-- The share this module sources of a shared AO-I, in µA, after a measurement of the partner's (R238, R239, R425). -/
def ChanSt.shareOf (h : ChanSt) (holder : Bool) (cmd partner : Int) (now : Nat) : Int :=
  let part : Int := (min (now - h.rampAt) 20000 : Nat)
  if h.ramp = 3 then max 0 (cmd - partner)
  else if h.full then cmd
  else if h.ramp = 1 then (cmd / 2 * part).fdiv 20000
  else if h.ramp = 2 then (cmd / 2 * (20000 - part)).fdiv 20000
  else if holder then cmd / 2 + h.trim
  else cmd / 2

/-- SPLIT_SOURCE_MEASUREMENT: every 250 µs both shares, in µA, are measured (R238), compliance and external sources judged on their sum (R277). The
holder trims its share within ±2.0 mA; two low readings of the partner raise the own share to the full command (R239). The trim is frozen while either
module tempers the channel, and no share is raised then or for an external source (R242, R277). -/
def execSplitSourceMeasurement (g : Fin 128) (own partner : BitVec 32) (partnerTempers : Bool) (s : State) : Out :=
  chipOnly s (fun c =>
    let h := c.chan g.val
    let b := chanAt g.val
    let lease := c.get pairAt Pair.lease_state
    if !c.shared g.val || c.mode g.val != 6 || !([2, 4, 5, 6].contains lease || h.ramp == 2) then c
    else
      let c := c.seeCurrent g.val (own.toInt + partner.toInt)
      if h.extOff || h.partnerExt || h.tempering then c else
      let cmd := c.loopCmd g.val
      let low := decide (8 * partner.toInt < cmd) && (h.ramp == 0 || h.ramp == 1) && !partnerTempers && !h.full
      let run := if low then h.lowRun + 1 else 0
      let trim := if lease == 2 && h.ramp == 0 && !partnerTempers && !h.full then
          clampI (-2000) 2000 (h.trim + (cmd - (own.toInt + partner.toInt)))
        else h.trim
      let raise := decide (2 ≤ run)
      let c1 := c.setChan g.val (fun h => { h with trim := trim, lowRun := if raise then 0 else run, full := h.full || raise })
      let c2 := if raise then
          ((c1.aOn g.val fSplitRaise).record 38 (g.val / 16) 1 g.val [] [partner.toNat]).raiseBellows g.val (c.get b Chan.command)
        else c1
      c2.setChan g.val (fun h => { h with share := h.shareOf (lease == 2 || lease == 5) cmd partner.toInt c.now }))

end Sys2Proof.Machine
end

