-- ==== Sys2Proof/Machine/SafetyOps.lean ====
section
/-! DEFINITION. The safety island (R336 to R373): what a slice sees, the state machine of a function, cut masks, stops and
starts, and safety connections. A slice's view of a function stands in the safety slice block of its region. -/

namespace Sys2Proof.Machine

/-- Slice r beyond its registers. -/
def Chip.isle (c : Chip) (r : Nat) : IsleSt := nth {} c.safe.slices r

/-- Change slice r beyond its registers. -/
def Chip.setIsle (c : Chip) (r : Nat) (f : IsleSt → IsleSt) : Chip :=
  { c with safe := { c.safe with slices := upd c.safe.slices r f } }

/-- Slice r's view of function j beyond its registers. -/
def Chip.fnSt (c : Chip) (r j : Nat) : FnSt := nth {} (c.isle r).fns j

/-- Change slice r's view of function j. -/
def Chip.setFnSt (c : Chip) (r j : Nat) (f : FnSt → FnSt) : Chip :=
  c.setIsle r (fun h => { h with fns := upd h.fns j f })

/-- What the slices share of function sf. -/
def Chip.sfSt (c : Chip) (sf : Nat) : SfSt := nth {} c.safe.sfs sf

/-- Change what the slices share of function sf. -/
def Chip.setSf (c : Chip) (sf : Nat) (f : SfSt → SfSt) : Chip :=
  { c with safe := { c.safe with sfs := upd c.safe.sfs sf f } }

/-- The other slice of a pair. -/
def mate (r : Nat) : Nat := if r % 2 = 0 then r + 1 else r - 1

/-- Is slice r running? -/
def Chip.isleRuns (c : Chip) (r : Nat) : Bool := c.flag (isleAt r) Isle.running

/-- Does this module own what has this owner field (R367)? -/
def Chip.ownsSafe (c : Chip) (owner : Nat) : Bool := owner == 0 || owner == c.get pairAt Pair.position

/-- The even region of a function's pair. -/
def FnCfg.base (f : FnCfg) : Nat := 2 * (f.sf / 8)

/-- Its place in the slice blocks. -/
def FnCfg.j (f : FnCfg) : Nat := f.sf % 8

/-- The functions this module owns in the pair of region r. -/
def Chip.fnsOf (c : Chip) (r : Nat) : List FnCfg :=
  c.safe.fns.filter (fun f => f.sf / 8 == r / 2 && c.ownsSafe f.owner)

/-- The inputs of a function: cc and whether the pair is antivalent (R345, Table 12.2). -/
def FnCfg.inputs (f : FnCfg) : List (Nat × Bool) :=
  let a := if f.inA = 0xFF then [] else
    [(f.inA, f.kind == 4 || ((f.kind == 2 || f.kind == 3) && f.flags.testBit 0))]
  let b := if f.inB = 0xFF then [] else [(f.inB, f.kind == 4 || f.flags.testBit 1)]
  a ++ b

/-- The reset input as a channel. -/
def FnCfg.rstCh (f : FnCfg) : Option Nat :=
  if f.rst = 0xFF then none else some (16 * (f.base + f.rst / 16 % 2) + f.rst % 16)

/-- The high-side channel, as DO, and the low-side channel, as DO-sink, of the safe output (R346). -/
def FnCfg.hs (f : FnCfg) : Nat := 16 * (f.base + f.outHs % 2) + f.outCc
/-- The low-side channel. -/
def FnCfg.ls (f : FnCfg) : Nat := 16 * (f.base + 1 - f.outHs % 2) + f.outCc

/-- The safe output channel of a function in region r. -/
def FnCfg.outIn (f : FnCfg) (r : Nat) : Option Nat :=
  if f.outCc = 0xFF then none else if f.base + f.outHs % 2 = r then some f.hs else some f.ls

/-- Every Safe-DI of a function. -/
def FnCfg.inCh (f : FnCfg) : List Nat :=
  f.inputs.flatMap (fun i => [16 * f.base + i.1, 16 * (f.base + 1) + i.1]) ++ f.rstCh.toList

/-- A function's state as slice r sees it. -/
def Chip.sfState (c : Chip) (r j : Nat) : Nat := c.getI (isleAt r) Isle.state j

/-! ### Inputs -/

/-- A Safe-DI that is read as demand: its group fenced, its GS absent, or out of service (R344). -/
def Chip.safeDead (c : Chip) (g : Nat) : Bool := c.groupFenced g || (c.gs (g / 16)).absent || (c.chan g).oos

/-- Level and last recognised change of channel g as slice r knows them: its own filter, or the partner's message. -/
def Chip.safeView (c : Chip) (r g : Nat) : Option (Bool × Nat) :=
  if g / 16 = r then ((c.isle r).ins.find? (fun i => i.g == g)).map (fun i => (i.level, i.since))
  else match (c.isle r).msg with
    | some m => (m.ins.find? (fun i => i.1 == g)).map (·.2)
    | none => none

/-- A dual-channel input in the eyes of a slice: is each channel healthy, when did each change, and is it read as demand before the slice
has heard of both channels. -/
structure SafeIn where
  a : Bool
  b : Bool
  ta : Nat
  tb : Nat
  unknown : Bool
  deriving DecidableEq, Repr

/-- Input k of a function as slice r sees it: a channel that is dead is read as demand from now on (R344). -/
def Chip.safeIn (c : Chip) (r : Nat) (f : FnCfg) (i : Nat × Bool) : SafeIn :=
  let ge := 16 * f.base + i.1
  let go := 16 * (f.base + 1) + i.1
  match c.safeView r ge, c.safeView r go with
  | some (a, ta), some (b, tb) =>
    let da := c.safeDead ge
    let db := c.safeDead go
    { a := !da && a, b := !db && b != i.2, ta := if da then c.now else ta, tb := if db then c.now else tb, unknown := false }
  | _, _ => { a := false, b := false, ta := 0, tb := 0, unknown := true }

/-- Healthy in both channels. -/
def SafeIn.ok (i : SafeIn) : Bool := i.a && i.b
/-- Demand in both channels. -/
def SafeIn.down (i : SafeIn) : Bool := !i.a && !i.b
/-- The channels disagree. -/
def SafeIn.split (i : SafeIn) : Bool := i.a != i.b
/-- When the input came to where it stands. -/
def SafeIn.last (i : SafeIn) : Nat := max i.ta i.tb

/-- The connection bit a function reads: healthy when 1, and demand in connection fault (R349). -/
def Chip.connBit (c : Chip) (r : Nat) (f : FnCfg) : Bool :=
  let k := nth {} (c.isle r).conns f.connSrc
  k.state == 1 && (nth 0 k.data (f.srcBit / 8)).testBit (f.srcBit % 8)

/-- Does the connection a function reads fault? -/
def Chip.connDown (c : Chip) (r : Nat) (f : FnCfg) : Bool :=
  f.connSrc != 0xFF && (nth {} (c.isle r).conns f.connSrc).state != 1

/-- Does something at the outputs or inputs hold the function in state 2: a fenced or out-of-service channel (8), a GS off
or absent step in a region of its outputs (7)? An input whose GS is absent reads demand (R344). -/
def Chip.safeBlock (c : Chip) (f : FnCfg) : Nat :=
  let outs := if f.outCc = 0xFF then [] else [f.hs, f.ls]
  let bad (g : Nat) : Bool := c.groupFenced g || (c.chan g).oos
  if outs.any bad || f.inCh.any bad then 8
  else if outs.any (fun g => (c.gs (g / 16)).off || (c.gs (g / 16)).absent) then 7
  else 0

/-! ### Transitions -/

/-- States in which a function's outputs are off and its cut masks act (Table 12.3). -/
def cutState (st : Nat) : Bool := st == 2 || st == 3 || st == 5 || st == 6

/-- Has the partner slice recorded this change already? Then it is struck from the log. -/
def SfSt.strike (h : SfSt) (r old new : Nat) : Option SfSt :=
  if h.log.contains (mate r, old, new) then some { h with log := h.log.erase (mate r, old, new) } else none

/-- Slice r takes function f to a new state (R350). The first slice to make a change records it, with the input that led
to state 5 (R351). -/
def Chip.goFn (c : Chip) (r : Nat) (f : FnCfg) (new cause : Nat) (input : Nat) : Chip :=
  let b := isleAt r
  let j := f.j
  let old := c.sfState r j
  if old = new then c
  else
    let c1 := (((c.putI b Isle.state j new).putI b Isle.ok j (b2n (new == 4))).putI b Isle.rst_wait j
      (b2n (new == 3))).when (new == 5 || old == 5) (·.putI b Isle.disc j (b2n (new == 5)))
    let c2 := (c1.when (old == 4 && new == 2) (·.bumpByI b Isle.trips j 1)).when (new == 5) (fun c =>
      (c.bumpByI b Isle.discs j 1).putBit b Isle.disc_seen j true)
    let mine := (f.outIn r).toList
    let c3 := (c2.each mine (fun c g => c.setChan g (fun h => { h with safeRun := new == 4 }))).setFnSt r j (fun h => { h with
      at2 := if new = 2 then c.now else h.at2
      at3 := if new = 3 then c.now else h.at3
      blocked := if new = 3 then false else h.blocked })
    let agree := c3.sfState (mate r) j == new
    match (c.sfSt f.sf).strike r old new with
    | some h => c3.setSf f.sf (fun _ => if agree then { h with log := [] } else h)
    | none =>
      let c4 := c3.setSf f.sf (fun h => { h with log := if agree then [] else h.log ++ [(r, old, new)] })
      let sev := if new = 5 || new = 6 then 3 else if old = 4 then 2 else 0
      let c5 := c4.record 80 r sev f.sf [old, new, cause] []
      let cc := (nth (0xFF, false) f.inputs input).1
      c5.when (new == 5) (·.record 81 r 2 f.sf [input, cc] [])

/-- What a slice sees of a function in one cycle. -/
structure FnView where
  ins : List SafeIn
  conn : Option Bool
  connDown : Bool
  block : Nat
  reset : Bool
  deriving DecidableEq, Repr

/-- Every input is healthy. -/
def FnView.healthy (v : FnView) : Bool := v.ins.all SafeIn.ok && v.conn.getD true

/-- Cause of a demand: the connection, or the input itself. -/
def FnView.cause (v : FnView) : Nat := if v.connDown then 6 else 1

/-- The next state of a kind 4 function in state 3 (R353): run, or a later hand that waits for a release. -/
def handsRun (ins : List SafeIn) (blocked : Bool) : Bool :=
  match ins with
  | [h1, h2] =>
    h1.ok && h2.ok && !blocked && h1.last ≤ h2.last + 500000 && h2.last ≤ h1.last + 500000
  | _ => false

/-- Is the second hand late? -/
def handsLate (ins : List SafeIn) (now : Nat) : Bool :=
  ins.any (·.ok) && (ins.all (·.ok) || ins.any (fun h => h.ok && decide (h.last + 500000 < now)))

/-- Inputs whose discrepancy has lasted t_disc (R351). -/
def Chip.discLate (c : Chip) (r : Nat) (f : FnCfg) : List Nat :=
  let h := c.fnSt r f.j
  let late (d : Option Nat) : Bool := match d with
    | some t => decide (t + 1000 * f.tDisc ≤ c.now)
    | none => false
  (if late h.discA then [0] else []) ++ (if late h.discB then [1] else [])

/-- The transition of Table 12.3 that is due, with its cause (R350 to R353). -/
def Chip.nextState (c : Chip) (r : Nat) (f : FnCfg) (v : FnView) : Option (Nat × Nat) :=
  let st := c.sfState r f.j
  let h := c.fnSt r f.j
  if (st == 2 || st == 3 || st == 4) && !(c.discLate r f).isEmpty then some (5, 3)
  else if st = 5 then
    if (h.in5.all (fun k => (nth ⟨true, true, 0, 0, false⟩ v.ins k).down)) then some (2, 1) else none
  else if st = 4 then
    if v.block != 0 then some (2, v.block) else if !v.healthy then some (2, v.cause) else none
  else if st = 3 then
    if v.block != 0 then some (2, v.block)
    else if f.kind = 4 then (if handsRun v.ins h.blocked then some (4, 1) else none)
    else if !v.healthy then some (2, v.cause)
    else if f.flags.testBit 2 || v.reset then some (4, 2)
    else none
  else if st = 2 then
    if v.block = 0 && (if f.kind = 4 then v.ins.all SafeIn.down else v.healthy) then some (3, 1) else none
  else none

/-- Take transitions until none is due; a reset is used once. -/
def Chip.settle (c : Chip) (r : Nat) (f : FnCfg) (v : FnView) : Nat → Chip
  | 0 => c
  | n + 1 =>
    match c.nextState r f v with
    | none => c
    | some (new, cause) =>
      let late := c.discLate r f
      let c1 := c.when (new == 5) (·.setFnSt r f.j (fun h => { h with in5 := late }))
      (c1.goFn r f new cause (nth 0 late 0)).settle r f { v with reset := v.reset && new != 4 } n

/-- R352: follow the reset input; true when a press of 100 ms to 5 s began and ends inside state 3. A longer one is recorded in any state
(log entry 130). -/
def Chip.resetPress (c : Chip) (r : Nat) (f : FnCfg) : Chip × Bool :=
  match f.rstCh with
  | none => (c, false)
  | some g =>
    let h := c.fnSt r f.j
    let (lv0, t) := (c.safeView r g).getD (false, c.now)
    let lv := lv0 && !c.safeDead g
    if lv == h.rstLevel then (c, false)
    else if lv then (c.setFnSt r f.j (fun h => { h with rstLevel := true, rise := some t }), false)
    else
      let c1 := c.setFnSt r f.j (fun h => { h with rstLevel := false, rise := none })
      match h.rise with
      | none => (c1, false)
      | some t0 =>
        let high := t - t0
        let within := c.sfState r f.j == 3 && decide (h.at3 ≤ t0)
        if 5000000 < high then (c1.when (g / 16 == r) (·.record 87 r 1 f.sf [] [high / 1000]), false)
        else
          let clear := f.kind != 6 || (match h.healthyAt with
            | some w => decide (w + 1000 * f.tClear ≤ t)
            | none => false)
          (c1, within && decide (100000 ≤ high) && clear)

/-- Follow the start of a discrepancy of one input. -/
def discSince (i : SafeIn) (d : Option Nat) : Option Nat :=
  if i.split then some (d.getD i.last) else none

/-- A test of Table 12.4 has failed: flag, source 82, and state 6 in both slices (R348). -/
def Chip.failTest (c : Chip) (f : FnCfg) (sink : Bool) (test ma : Nat) : Chip :=
  let e := isleAt f.base
  let o := isleAt (f.base + 1)
  let r := (if sink then f.ls else f.hs) / 16
  let c1 := ((c.putBit e Isle.out_fault f.j true).putBit o Isle.out_fault f.j true).record 82 r 2 f.sf
    [b2n sink, test] [ma]
  let c2 := (c1.goFn f.base f 6 5 0).goFn (f.base + 1) f 6 5 0
  c2.setSf f.sf (fun h => { h with test := none })

/-- The continuous test in the slice of the high-side switch: the DO terminal at 10.0 V or more for 10 ms while the
function is not in state 4; a fault that stands is not reported again. -/
def Chip.watchOutput (c : Chip) (r : Nat) (f : FnCfg) : Chip :=
  if f.outCc = 0xFF || f.hs / 16 != r then c
  else
    let b := chanAt f.hs
    let high := c.sfState r f.j != 4 && (c.sfSt f.sf).test.isNone && decide (10000 ≤ c.getS b Chan.term_mv)
    match high, (c.fnSt r f.j).high with
    | false, _ => c.setFnSt r f.j (fun h => { h with high := none })
    | true, none => c.setFnSt r f.j (fun h => { h with high := some c.now })
    | true, some t =>
      if t + 10000 ≤ c.now && !(c.sfState r f.j == 6 && c.getBit (isleAt f.base) Isle.out_fault f.j) then
        c.failTest f false 1 (c.get b Dig.load / 10)
      else c

/-- What a slice sees of a function, a reset aside. -/
def Chip.viewFn (c : Chip) (r : Nat) (f : FnCfg) : FnView :=
  { ins := f.inputs.map (c.safeIn r f), conn := if f.connSrc = 0xFF then none else some (c.connBit r f),
    connDown := c.connDown r f, block := c.safeBlock f, reset := false }

/-- Slice r evaluates a function. -/
def Chip.evalFn (c : Chip) (r : Nat) (f : FnCfg) : Chip :=
  let j := f.j
  let ins := f.inputs.map (c.safeIn r f)
  let h := c.fnSt r j
  let c1 := c.setFnSt r j (fun h => { h with
    discA := discSince (nth ⟨true, true, 0, 0, false⟩ ins 0) h.discA
    discB := discSince (nth ⟨true, true, 0, 0, false⟩ ins 1) h.discB
    healthyAt := if ins.all SafeIn.ok && (f.connSrc == 0xFF || c.connBit r f) then h.healthyAt.or (some c.now) else none })
  let (c2, press) := c1.resetPress r f
  let v : FnView := { c.viewFn r f with reset := press }
  let late := f.kind == 4 && handsLate ins c.now
  let free := f.kind == 4 && ins.all SafeIn.down
  let c3 := (c2.watchOutput r f).settle r f v 4
  let c4 := c3.when (f.kind == 4 && c3.sfState r j == 3) (·.setFnSt r j (fun g => { g with
    blocked := if free then false else h.blocked || late }))
  let split := ins.any SafeIn.split
  c4.putI (isleAt r) Isle.disc j (b2n (split || c4.sfState r j == 5))

/-! ### Cut masks and outputs -/

/-- The cut mask of a function for region r. -/
def FnCfg.cut (f : FnCfg) (r : Nat) : Nat := if r % 2 = 0 then f.cutEven else f.cutOdd

/-- The mask that slice r applies (R355). -/
def Chip.cutMask (c : Chip) (r : Nat) : Nat :=
  (c.fnsOf r).foldl (fun m f => if cutState (c.sfState r f.j) then m ||| f.cut r else m) 0

/-- Slice r applies its cut masks (R355): level 1 begins and ends on channels and axes. -/
def Chip.applyCuts (c : Chip) (r : Nat) : Chip :=
  let m := c.cutMask r
  let ch := m % 2 ^ 16
  let ax := m / 2 ^ 16 % 4
  let oldCh := c.sys.cutCh
  let oldAx := c.sys.cutAx
  let chans := (List.range 16).filter (fun k => ch.testBit k != oldCh.testBit (16 * r + k))
  let axes := (List.range 2).filter (fun k => ax.testBit k != oldAx.testBit (2 * r + k))
  let newCh := chans.foldl (fun v k => withBit v (16 * r + k) (ch.testBit k)) oldCh
  let newAx := axes.foldl (fun v k => withBit v (2 * r + k) (ax.testBit k)) oldAx
  let c1 := { c with sys := { c.sys with cutCh := newCh, cutAx := newAx } }
  let c2 := c1.each (c.fnsOf r) (fun c f =>
    c.putI (isleAt r) Isle.cut_active f.j (b2n (cutState (c.sfState r f.j))))
  let c3 := c2.each chans (fun c k => (c.resolve (16 * r + k)).putStatus (16 * r + k))
  c3.each axes (fun c k => c.stageCause (2 * r + k) 0 (ax.testBit k))

/-- Slice r sets its switch of a safe output (R346): closed in state 4 alone, and only in S8, not before the first output write,
which is the first energisation of any output (R95); a running test keeps its switch. -/
def Chip.setSafeOut (c : Chip) (r : Nat) (f : FnCfg) : Chip :=
  match f.outIn r with
  | none => c
  | some g =>
    let testing := match (c.sfSt f.sf).test with
      | some (sink, _, _) => (if sink then f.ls else f.hs) == g
      | none => false
    if testing then c
    else
      let on := c.isleRuns r && c.sfState r f.j == 4 && c.phase == 8 && (c.eng.wrote || !c.engineRuns)
      (c.driveWith g (if on then rOfInt 1 else 0)).putStatus g

/-- Slice r sets its switches of all its safe outputs. -/
def Chip.setSafeOuts (c : Chip) (r : Nat) : Chip := c.each (c.fnsOf r) (fun c f => c.setSafeOut r f)

/-! ### Stops and starts -/

/-- Slice r stops with a cause of Table 12.1 (R340). -/
def Chip.stopIsle (c : Chip) (r cause : Nat) : Chip :=
  let b := isleAt r
  if !c.isleRuns r then c
  else
    let fs := c.fnsOf r
    let c1 := ((((c.put b Isle.running 0).put b Isle.latched 1).put b Isle.stop_cause cause).put b Isle.xlink_ok 0).when (cause == 4)
      (·.put b Isle.params_ok 0)
    let c2 := c1.setIsle r (fun h => { h with out := none, msg := none, fresh := false })
    let c3 := c2.each fs (fun c f => (c.goFn r f 6 (if cause = 8 then 9 else 4) 0).setSf f.sf (fun h => { h with
      test := none, sinkDue := false }))
    let c4 := (c3.each fs (fun c f => c.setSafeOut r f)).applyCuts r
    c4.record 83 r 3 r [cause] []

/-- Does a cause of Table 12.1 persist in slice r: its clock lost, or its region fenced (R369)? -/
def Chip.isleHeld (c : Chip) (r : Nat) : Bool := c.clkLost r 7 || c.regionFenced r

/-- The Safe-DIs that slice r samples. -/
def Chip.safeInsOf (c : Chip) (r : Nat) : List Nat :=
  (((c.fnsOf r).flatMap FnCfg.inCh).filter (fun g => g / 16 == r)).dedup

/-- The block of slice r names the functions of its pair (R372). -/
def Chip.nameFns (c : Chip) (r : Nat) : Chip :=
  c.each (c.safe.fns.filter (fun f => f.sf / 8 == r / 2)) (fun c f =>
    (c.putI (isleAt r) Isle.kind f.j f.kind).putI (isleAt r) Isle.owner_here f.j (b2n (c.ownsSafe f.owner)))

/-- Slice r is stopped by a cause of Table 12.1, whether it runs yet or not (R340). -/
def Chip.latchIsle (c : Chip) (r cause : Nat) : Chip :=
  if c.isleRuns r then c.stopIsle r cause
  else if c.flag (isleAt r) Isle.latched && c.get (isleAt r) Isle.stop_cause == cause then c
  else ((c.put (isleAt r) Isle.latched 1).put (isleAt r) Isle.stop_cause cause).record 83 r 3 r [cause] []

/-- The functions of a slice that has stopped before it knew them stand in state 6 and cut (R340, R354). -/
def Chip.deadIsle (c : Chip) (r : Nat) : Chip :=
  ((c.nameFns r).each (c.fnsOf r) (fun c f => c.putI (isleAt r) Isle.state f.j 6)).applyCuts r

/-- Producer state of connection k. -/
def Chip.setProd (c : Chip) (k : Nat) (f : ProdSt → ProdSt) : Chip :=
  { c with safe := { c.safe with prods := upd c.safe.prods k f } }

/-- Slice r takes up its functions: its inputs as it has sampled them in its start test, low where it has not; its connections and exchanges
begin afresh. A connection it reads starts in fault, with no record (log entry 131). -/
def Chip.armIsle (c : Chip) (r : Nat) : Chip :=
  let b := isleAt r
  let old := (c.isle r).ins
  let c1 := (c.nameFns r).setIsle r (fun _ => {
    ins := (c.safeInsOf r).map (fun g =>
      ((old.find? (fun d => d.g == g)).filter (fun d => decide (c.now ≤ d.sampledAt + 250))).getD
        { g := g, level := false, since := c.now, sampledAt := c.now }),
    fresh := true, cycleAt := c.now })
  let used := ((c.fnsOf r).map (·.connSrc)).filter (· != 0xFF)
  c1.put b Isle.conn_state (((List.range 16).map (fun k => if used.contains k then 2 * 4 ^ k else 0)).sum)

/-- What slice r tells its partner (R337). -/
def Chip.isleMsg (c : Chip) (r : Nat) : SliceMsg :=
  { ins := (c.isle r).ins.map (fun i => (i.g, i.level, i.since)), states := (List.range 8).map (c.sfState r)
    cycles := c.get (isleAt r) Isle.cycles, stopped := false }

/-- At a slice start a function enters state 2, or state 3 when every input is already healthy, and with automatic restart then state 4 at
once (R354). -/
def Chip.enterFn (c : Chip) (r : Nat) (f : FnCfg) : Chip :=
  let v := c.viewFn r f
  let ready := v.block == 0 && (if f.kind = 4 then v.ins.all SafeIn.down && !v.ins.any (·.unknown) else v.healthy)
  let new := if ready then 3 else 2
  let c1 := if c.sfState r f.j = 0 then c.putI (isleAt r) Isle.state f.j new else c.goFn r f new 9 0
  let c2 := c1.setFnSt r f.j (fun h => { h with at2 := c.now, at3 := c.now })
  c2.when (ready && f.flags.testBit 2) (·.goFn r f 4 2 0)

/-- The slices of a pair begin to run together: each knows what the other has sampled by the loop-back of the slice link in the start test
(R341), and its functions enter their states. -/
def Chip.enterPair (c : Chip) (e : Nat) : Chip :=
  let me := c.isleMsg e
  let mo := c.isleMsg (e + 1)
  let c1 := (c.setIsle e (fun h => { h with msg := some mo })).setIsle (e + 1) (fun h => { h with msg := some me })
  c1.each ([e, e + 1].filter c1.isleRuns) (fun c r => c.each (c.fnsOf r) (fun c f => c.enterFn r f))

/-- The functions that feed a produced connection. -/
def Chip.feeds (c : Chip) (k : Nat) : List FnCfg := c.safe.fns.filter (fun f => f.connOut == k)

/-- A slice starts after its start test (R341); the connections its pair produces start at number 0 (R358). -/
def Chip.startIsle (c : Chip) (r : Nat) : Chip :=
  let b := isleAt r
  let c1 := (((((c.put b Isle.running 1).put b Isle.latched 0).put b Isle.stop_cause 0).put b Isle.xlink_ok 0).put b
    Isle.params_ok 1).put b Isle.cycles 0
  let made := (c.safe.conns.filter (fun k => k.produce && (c.feeds k.index).any (fun f => f.sf / 8 == r / 2))).map (·.index)
  let c2 := c1.each made (fun c k => c.setProd k (fun h => { h with seq := 0, left := 0 }))
  ((c2.resetTongs (tongsKey r 7 1)).armIsle r).record 84 r 0 r [] []

/-! ### Connections -/

/-- The smallest CAN FD data length that holds n bytes. -/
def fdLen (n : Nat) : Nat := (([0, 1, 2, 3, 4, 5, 6, 7, 8, 12, 16, 20, 24, 32, 48, 64]).find? (fun k => n ≤ k)).getD 64

/-- A safety frame (Table 12.6). -/
def safetyFrame (k : ConnCfg) (seq tick : Nat) (passivated : Bool) (data : List Nat) : List Nat :=
  let body := leBytes 4 k.connId ++ leBytes 2 seq ++ leBytes 2 k.tExp ++ leBytes 4 tick ++ [k.n, b2n passivated, 0, 0]
    ++ bytesAt data 0 k.n
  body ++ leBytes 4 (crc32cFrom k.connId body)

/-- The record of connection k. -/
def Chip.conn (c : Chip) (k : Nat) : Option ConnCfg := c.safe.conns.find? (fun x => x.index == k)

/-- Set the state of a connection as slice r judges it. -/
def Chip.putConn (c : Chip) (r k : Nat) (f : ConnSt → ConnSt) : Chip :=
  let c1 := c.setIsle r (fun h => { h with conns := upd h.conns k f })
  let v := c.get (isleAt r) Isle.conn_state
  let st := (nth {} (c1.isle r).conns k).state
  c1.put (isleAt r) Isle.conn_state (v / 4 ^ (k + 1) * 4 ^ (k + 1) + st * 4 ^ k + v % 4 ^ k)

/-- Slices that consume connection k: those of functions that read it. -/
def Chip.consumers (c : Chip) (k : Nat) : List Nat :=
  (List.range 8).filter (fun r => c.isleRuns r && (c.fnsOf r).any (fun f => f.connSrc == k))

/-- A connection fault by a rule of Table 12.7 (R361): zero data, and one record. -/
def Chip.connFault (c : Chip) (r k rule : Nat) : Chip :=
  let c1 := c.putConn r k (fun h => { h with state := 2, passed := 0, data := [] })
  if (nth {} c.safe.prods k).faulted then c1
  else
    { (c1.record 85 0xFF 2 k [1, rule] []) with
      safe := { c1.safe with prods := upd c1.safe.prods k (fun h => { h with faulted := true }) } }

/-- Count one error: CRC, sequence, timeout, jitter. -/
def Chip.connErr (c : Chip) (r k i : Nat) (f : Field) : Chip :=
  (c.bump (isleAt r) f).setIsle r (fun h => { h with
    conns := upd h.conns k (fun x => { x with errs := upd x.errs i (· + 1) }) })

/-- Slice r accepts a frame under rule 5; the third one in a row restores the connection (R361). -/
def Chip.acceptFrame (c : Chip) (r : Nat) (k : ConnCfg) (bs : List Nat) : Chip :=
  let pass := numAt bs 13 1 % 2 = 1
  let data := if pass then List.replicate k.n 0 else bytesAt bs 16 k.n
  let old := nth {} (c.isle r).conns k.index
  let st := if old.state = 1 || 2 ≤ old.passed then 1 else 3
  let c1 := c.putConn r k.index (fun h => { h with
    state := st, passed := h.passed + 1, seq := numAt bs 4 2, tick := numAt bs 8 4, rxAt := c.now, heard := true,
    data := if st = 1 then data else [] })
  let all := (c1.consumers k.index).all (fun q => (nth {} (c1.isle q).conns k.index).state == 1)
  if old.state != 1 && st == 1 && all && (nth {} c1.safe.prods k.index).faulted then
    { (c1.record 85 0xFF 0 k.index [0, 0] []) with
      safe := { c1.safe with prods := upd c1.safe.prods k.index (fun h => { h with faulted := false }) } }
  else c1

/-- Slice r judges a frame by the rules of Table 12.7, in order (R360, R361). In fault the first frame of a row is not judged by rule 3; rules
2 and 4 have no last accepted frame to judge the very first by. -/
def Chip.judgeFrame (c : Chip) (r : Nat) (k : ConnCfg) (bs : List Nat) : Chip :=
  let old := nth {} (c.isle r).conns k.index
  let seq := numAt bs 4 2
  let good := bs.length == 20 + k.n && numAt bs 0 4 == k.connId && numAt bs 12 1 == k.n && numAt bs 6 2 == k.tExp
    && numAt bs (16 + k.n) 4 == crc32cFrom k.connId (bs.take (16 + k.n))
  let sent : Int := tickDiff (numAt bs 8 4) old.tick
  let got : Int := c.now - old.rxAt
  if !good then
    -- a frame that fails rule 1 breaks the row of three that restores a connection
    (c.connErr r k.index 0 Isle.crc_errors).when (old.state == 3) (·.putConn r k.index (fun h => { h with state := 2, passed := 0 }))
  else if !old.heard then c.acceptFrame r k bs
  else if seq = old.seq then c
  else if old.state != 2 && seq != (old.seq + 1) % 65536 then (c.connErr r k.index 1 Isle.seq_errors).connFault r k.index 3
  else if (100 * k.tJit : Int) < (sent - got).natAbs then
    (c.connErr r k.index 3 Isle.jitter_errors).connFault r k.index 4
  else c.acceptFrame r k bs

/-- Every slice that consumes connection k judges a frame of it. -/
def Chip.consume (c : Chip) (k : ConnCfg) (bs : List Nat) : Chip :=
  if !c.ownsSafe k.owner then c else c.each (c.consumers k.index) (fun c r => c.judgeFrame r k bs)

/-- At a cycle start: a connection whose last accepted frame is more than t_exp old faults (R360), and a slice's error counts are
recorded at most once per second per connection (R361). -/
def Chip.connCycle (c : Chip) (r : Nat) (k : ConnCfg) : Chip :=
  let h := nth {} (c.isle r).conns k.index
  let c1 := if h.state != 2 && decide (h.rxAt + 100 * k.tExp < c.now) then
      (c.connErr r k.index 2 Isle.timeouts).connFault r k.index 5
    else c
  let h1 := nth {} (c1.isle r).conns k.index
  let due := match (nth {} c1.safe.prods k.index).countedAt with
    | some t => decide (t + 1000000 ≤ c.now)
    | none => true
  if h1.errs.any (· != 0) && due then
    ((c1.record 86 0xFF 1 k.index [] h1.errs).setIsle r (fun x => { x with
      conns := upd x.conns k.index (fun y => { y with errs := [0, 0, 0, 0] }) })).setProd k.index (fun p => { p with countedAt := some c.now })
  else c1

/-- Passivated flag and data of a produced connection as the slice of the even (h = 0) or odd region forms them: data bit i is the ok of
the function that feeds it; with every feeding function in state 6 the frame is passivated and its data zero (R359). -/
def Chip.produced (c : Chip) (k : ConnCfg) (h : Nat) : Bool × List Nat :=
  let fs := c.feeds k.index
  let st (f : FnCfg) : Nat := c.sfState (f.base + h) f.j
  let on (i : Nat) : Bool := fs.any (fun f => f.outBit == i && st f == 4)
  (fs.all (fun f => st f == 6),
    (List.range k.n).map (fun y => ((List.range 8).map (fun i => if on (8 * y + i) then 2 ^ i else 0)).sum))

/-- A station datagram (Table 15.2): kind, pubid or connection index, pair sequence number, data. -/
def Chip.datagram (c : Chip) (kind id pseq : Nat) (data : List Nat) : List Nat :=
  let head := [0x53, 0x4B, 0x53, 0x44, 1, kind, id % 256, b2n c.sys.hasPair + 2 * b2n c.holder] ++ leBytes 4 c.net.station
    ++ leBytes 2 pseq ++ leBytes 2 data.length ++ leBytes 4 (c.get engineAt Engine.cycle_count) ++ leBytes 8 c.eng.outCal
  head ++ data ++ leBytes 4 (crc32 (head ++ data))

/-- May station port p have a link: its region, block 14, the NET clock, its target in service (Tables 1.2, 2.2 and 4.6)? -/
def Chip.stationReady (c : Chip) (p : Nat) : Bool :=
  c.fitted p && !c.regionFenced p && !c.blockFenced p 14 && !c.clkLost p 3 && !c.getBit surveyAt Survey.station_oos p

/-- Is station port p up (R437)? -/
def Chip.stationUp (c : Chip) (p : Nat) : Bool :=
  c.stationReady p && c.get slinkAt (if p = 0 then SLink.na_speed else SLink.nb_speed) != 0

/-- The VLAN identifier in use: vid, which takes effect on entry to S8 (Table 15.7). -/
def Chip.vidNow (c : Chip) : Nat := if c.phase = 8 then c.get slinkAt SLink.vid else 0

/-- The IEEE 802.1Q tag of every frame sent when vid is not zero (R435): its type, then priority and identifier. -/
def Chip.vlanTag (c : Chip) : List Nat :=
  if c.vidNow = 0 then [] else [0x81, 0] ++ beBytes 2 (c.get slinkAt SLink.prio * 2 ^ 13 + c.vidNow)

/-- The redundancy control trailer of a frame on station port p (R436): sequence number, LAN A or B, size, suffix. IEC 62439-3 gives
its layout (PRESUMED, log entry 134). -/
def prpTrailer (q p len : Nat) : List Nat := beBytes 2 q ++ beBytes 2 ((0xA + p) * 4096 + (len + 6) % 4096) ++ [0x88, 0xFB]

/-- A frame as it leaves station port p under PRP: the port, the tag, the content, the trailer (log entry 134). -/
def Chip.netFrame (c : Chip) (p : Nat) (bs : List Nat) : List Nat :=
  p :: c.vlanTag ++ bs ++ prpTrailer c.net.rctSeq p bs.length

/-- Put a frame on the station ports that are up, both copies with one sequence number (R436): 0 publication (destination first), 1 safety datagram (partner first),
2 service message (address and port first), 3 PTP Delay_Req (port instance), 4 PRP supervision, 5 ARP reply, 6 ICMP echo
reply, 7 IGMP report. -/
def Chip.netSend (c : Chip) (kind : Nat) (bs : List Nat) : Chip :=
  let up := (List.range 2).filter c.stationUp
  let c1 := (c.tongsRefuse 0 3).tongsRefuse 1 3
  if up.isEmpty then c1
  else
    let c2 := c1.each up (fun c p => (c.emit (.net kind (c.netFrame p bs))).countPass p 4 8 true 3 (if kind = 2 then 1 else 0) bs.length)
    { c2 with net := { c2.net with rctSeq := (c2.net.rctSeq + 1) % 65536 } }

/-- A frame of a produced connection goes to its CAN port or partner (R362); with the clock of that domain lost it is refused and counted
(R69). -/
def Chip.release (c : Chip) (k : ConnCfg) (bs : List Nat) : Chip :=
  if k.station then c.netSend 1 (leBytes 4 k.address ++ c.datagram 1 k.index 0 bs)
  else
    let len := fdLen bs.length
    let fr : CanFrame := { id := k.address % 2 ^ 29, ide := k.address.testBit 31, fd := true, brs := true,
                           data := bs ++ List.replicate (len - bs.length) 0 }
    if c.tongsDown k.port 2 then c.tongsRefuse k.port 2 else { c with safeTx := c.safeTx ++ [(k.port, fr)] }

/-- Every p_prod cycles of the even slice a producing pair forms its frame in both slices, compares the two and releases it (R359); none
while one of its slices does not run. On disagreement nothing is released and both slices stop with cause 3 (log entry 100). -/
def Chip.produce (c : Chip) (r : Nat) (k : ConnCfg) : Chip :=
  let h := nth {} c.safe.prods k.index
  if !k.produce || !c.ownsSafe k.owner || !((c.feeds k.index).any (fun f => f.base == r)) || !c.isleRuns r || !c.isleRuns (r + 1) then c
  else if 1 < h.left then c.setProd k.index (fun h => { h with left := h.left - 1 })
  else if c.produced k 0 != c.produced k 1 then (c.stopIsle r 3).stopIsle (r + 1) 3
  else
    let (pass, data) := c.produced k 0
    let bs := safetyFrame k h.seq c.tick pass data
    (c.setProd k.index (fun h => { left := k.pProd, seq := (h.seq + 1) % 65536, faulted := h.faulted, countedAt := h.countedAt })).release k bs

end Sys2Proof.Machine
end

