-- ==== Sys2Proof/Machine/PairOps.lean ====
section
/-! DEFINITION. The redundant pair (R406 to R434): lanes, lease states, taking and yielding the lease, the loss and the
return of the partner, share ramps, negotiation, divergence. The content of a lane frame is the spec's; its layout in words
is the model's own (log entry 30). -/

namespace Sys2Proof.Machine

/-- The lease state (Table 14.3). -/
def Chip.lease (c : Chip) : Nat := c.get pairAt Pair.lease_state

/-- The own position: 0 none, 1 A, 2 B. -/
def Chip.pos (c : Chip) : Nat := c.get pairAt Pair.position

/-- Change the pair beyond its registers. -/
def Chip.setPair (c : Chip) (f : PairSt → PairSt) : Chip := { c with pair := f c.pair }

/-- Does the module take part in a pair: a position on a twin carrier or a PAIR section (R414)? -/
def Chip.paired (c : Chip) : Bool := c.sys.hasPair || c.pos != 0

/-- A holder with a partner that follows or copies: what it mirrors is sent. -/
def Chip.mirrors (c : Chip) : Bool :=
  c.sys.hasPair && (c.lease == 2 || c.lease == 5) && c.flag pairAt Pair.partner
    && (c.get pairAt Pair.partner_state == 3 || c.get pairAt Pair.partner_state == 4)

/-! ### Lanes -/

/-- Is the hardware of lane l in order: region, block 15 and the NET clock (Tables 1.2 and 2.2)? -/
def Chip.laneLive (c : Chip) (l : Nat) : Bool :=
  c.fitted l && !c.regionFenced l && !c.blockFenced l 15 && !c.clkLost l 3

/-- The CRC-32C that every lane frame carries (R410), over its kind and words (log entry 30). -/
def laneCrc (kind : Nat) (ws : List Nat) : Nat := crc32c (kind :: ws.flatMap (leBytes 4))

/-- Put a frame on lane l, its CRC behind its words, and count it. -/
def Chip.laneEmit (c : Chip) (l kind : Nat) (ws : List Nat) : Chip :=
  (c.emit (.lane l kind (ws ++ [laneCrc kind ws]))).countPass l 4 7 true 4 2 (4 * ws.length)

/-- Send a frame on both lanes, as far as they are live. -/
def Chip.laneSend (c : Chip) (kind : Nat) (ws : List Nat) : Chip :=
  ((c.tongsRefuse 0 3).tongsRefuse 1 3).each ((List.range 2).filter c.laneLive) (fun c l =>
    c.laneEmit l kind ws)

/-- Send mirror traffic, frame by frame in turn on the lanes that are up, or on one that is live (R410). -/
def Chip.laneOne (c : Chip) (kind : Nat) (ws : List Nat) : Chip :=
  let good := (List.range 2).filter (fun l => c.laneLive l && !nth false c.pair.laneBad l)
  match good, (List.range 2).filter c.laneLive with
  | [_, _], _ => (c.laneEmit c.pair.laneNext kind ws).setPair (fun p => { p with laneNext := 1 - p.laneNext })
  | l :: _, _ | [], l :: _ => c.laneEmit l kind ws
  | [], [] => (c.tongsRefuse 0 3).tongsRefuse 1 3

/-- lane_a or lane_b. -/
def Chip.putLane (c : Chip) (l : Nat) (up : Bool) : Chip :=
  c.put pairAt (if l = 0 then Pair.lane_a else Pair.lane_b) (b2n up)

/-- A lane falls into lane fault (R412). -/
def Chip.laneFault (c : Chip) (l : Nat) : Chip :=
  if nth false c.pair.laneBad l then c
  else
    let c1 := (c.setPair (fun p => { p with laneBad := setAt p.laneBad l true })).putLane l false
    let c2 := (c1.bumpByI pairAt Pair.lane_faults l 1).put pairAt (if l = 0 then Pair.lane_fault_a else Pair.lane_fault_b) 1
    c2.record 73 0xFF 1 l [1] []

/-- A lane returns from lane fault (R412). -/
def Chip.laneBack (c : Chip) (l : Nat) : Chip :=
  ((c.setPair (fun p => { p with laneBad := setAt p.laneBad l false })).putLane l true).record 73 0xFF 0 l [0] []

/-! ### Shared outputs -/

/-- The shared channels. -/
def Chip.sharedChans (c : Chip) : List Nat := (List.range 128).filter (fun g => c.fitted (g / 16) && c.shared g)

/-- Begin a share ramp on every shared AO-I: 1 own share rising, 2 own share falling, 3 the partner's (R425). -/
def Chip.shareRamp (c : Chip) (kind : Nat) : Chip :=
  c.each (c.sharedChans.filter (fun g => c.mode g == 6)) (fun c g =>
    c.setChan g (fun h => { h with ramp := kind, rampAt := c.now, full := false, lowRun := 0, trim := 0 }))

/-- Every shared output takes what the precedence and the lease state give it now (R162, R424). -/
def Chip.resolveShared (c : Chip) : Chip := c.each c.sharedChans (fun c g => c.resolve g)

/-- Lease states in which shared outputs are driven (Table 14.3). -/
def drives (lease : Nat) : Bool := lease == 0 || lease == 2 || lease == 4 || lease == 5 || lease == 6

/-! ### Lease states -/

/-- holder_pos: the own position, or the partner's while it holds. -/
def Chip.holderSync (c : Chip) : Chip :=
  let p := c.pos
  c.put pairAt Pair.holder_pos
    (if p = 0 then 0 else if c.holder then p else if holds (c.get pairAt Pair.partner_state) && c.get pairAt Pair.partner_state != 0
      then 3 - p else 0)

/-- An axis loses the authority: at standstill its stage switches off, moving it stops at dstop first with its act ended
with code 18 (R333, R418). -/
def Chip.axisYield (c : Chip) (x : Nat) : Chip :=
  let h := c.ax x
  if !c.stageOn x || h.atStill then c.stageCause x 7 true
  else
    let c1 := c.setAx x (fun h => { h with thenOff := withBit h.thenOff 7 true })
    if h.thenOff != 0 then c1
    else
      let c2 := (c1.endAct x 18).setAx x (fun h => { h with mode := 6 })
      (if h.limStop then c2 else c2.brake x none).axSync x

/-- An axis gains the authority: it energises at the mirrored p and stands still; the act that the mirror shows ends with code 18, and a
motion it shows was lost (R333). -/
def Chip.axisTake (c : Chip) (x : Nat) : Chip :=
  let h := c.ax x
  if c.stageOn x then c.setAx x (fun h => { h with thenOff := withBit h.thenOff 7 false })
  else
    let c1 := (c.endAct x 18).setAx x (fun h => { h with
      stops := [], acts := h.acts.map (fun a => if a.busy then { a with busy := false, code := 18 } else a) })
    let c2 := (if h.v = 0 then c1 else c1.lossInMotion x h.speed).atRest x
    (c2.setAx x (fun h => { h with
      mode := if h.owned then 5 else 1, motion := if h.owned then .speed else .still, thenOff := withBit h.thenOff 7 false })).stageCause x 7 false

/-- A change of lease state with the severity of its record and the words changed under R423 (R415). Axes follow the
authority, shared outputs the state, the panel the holder, which is dirty where the partner was updating it (R333, R425, R492). Loops that
no longer follow a holder forget what it mirrored (R300). -/
def Chip.setLease (c : Chip) (new severity changed : Nat) : Chip :=
  let old := c.lease
  if old = new then c
  else
    let c1 := (c.put pairAt Pair.lease_state new).holderSync
    let c2 := c1.record 72 0xFF severity c.pos [old, new] [c.get pairAt Pair.lease_epoch, changed]
    let was := holds old
    let is := holds new
    let axes := (List.range 16).filter c.axUsed
    let c3 := if was && !is then c2.each axes (fun c x => c.axisYield x)
      else if is && !was && old != 1 then c2.each axes (fun c x => c.axisTake x)
      else if is && !was then c2.each axes (fun c x => c.stageCause x 7 false)
      else if shadows new || new = 7 then c2.each axes (fun c x => c.axisYield x) else c2
    let c4 := if new = 4 && !drives old && c.flag pairAt Pair.partner then c3.shareRamp 1
      else if old = 4 && new = 3 then c3.shareRamp 2 else c3
    let c4b := c4.when (!c4.loopsMirror) (fun c => { c with loops := c.loops.map (fun h => { h with mirror := none }) })
    let c5 := if drives new then c4b else c4b.resolveShared
    if !is && new != 1 then c5.panelYield
    else if is && !was then { c5.wantPanel with panel := { c5.wantPanel.panel with asDirty := c5.panel.asDirty || c5.panel.partnerBusy } } else c5

/-- Take the lease with the epoch raised by one (R416, R417); what R423 replaced is put back at the next boundary. -/
def Chip.takeLease (c : Chip) (expired : Bool) : Chip :=
  let new := if c.lease = 6 then 5 else 2
  let changed := (c.pair.own.filter (fun e => c.nat e.1 != e.2)).length
  let c1 := c.put pairAt Pair.lease_epoch ((c.get pairAt Pair.lease_epoch + 1) % 2 ^ 32)
  let c2 := if expired then (c1.put pairAt Pair.expired 1).setPanel (fun p => { p with asDirty := true }) else c1
  let c3 := c2.setPair (fun p => { p with yieldAt := none, restore := !p.own.isEmpty, records := [] })
  c3.setLease new (if expired then 2 else 0) changed

/-- Yield the lease, naming the last completed cycle (R417); `new` is the state entered: 8, 4 after a swap, 3 after dual
holding. -/
def Chip.yieldLease (c : Chip) (new : Nat) : Chip :=
  if c.lease != 2 && c.lease != 5 then c
  else
    let c1 := (c.laneSend 4 [c.get engineAt Engine.cycle_count, b2n (new == 4)]).put pairAt Pair.yielded 1
    c1.setLease new 0 0

/-- What a stop of the module does to its lease: a holder yields, a shadow enters state 8 (R50, R167, Table 14.7). -/
def Chip.pairStop (c : Chip) : Chip :=
  if c.lease = 2 || c.lease = 5 then c.yieldLease 8
  else if c.lease = 3 || c.lease = 4 || c.lease = 6 || c.lease = 7 then c.setLease 8 0 0
  else c

/-- The result of the running swap or handover command. -/
def Chip.pairAbort (c : Chip) : Chip :=
  if c.pair.swapAsk || c.pair.handAsk then
    (c.setPair (fun p => { p with swapAsk := false, handAsk := false })).put pairAt Pair.result 5
  else c

/-- A resynchronisation begins: it is counted from S8 on (Table 14.8), and its time runs (R421). -/
def Chip.beginResync (c : Chip) : Chip :=
  (if c.phase = 8 then c.bump pairAt Pair.resyncs else c).setPair (fun p => { p with copyAt := c.now, records := [] })

/-- A shadow falls out of step: 1 lag, 2 divergence (R420, R422). It keeps its last consistent data and asks for a copy. -/
def Chip.desync (c : Chip) (cause : Nat) : Chip :=
  if c.lease != 4 then c
  else
    let c2 := if cause = 2 then (c.bump pairAt Pair.divergences).put pairAt Pair.divergence 1 else c
    let c3 := c2.beginResync
    let c4 := if cause = 0 then c3 else
      c3.record 75 0xFF 1 c.pos [cause] [c.get engineAt Engine.cycle_count, c.get pairAt Pair.sync_ms]
    c4.setLease 3 0 0

/-- lag and lag_max (R420); a lag beyond 8 takes the shadow out of step. -/
def Chip.lagSync (c : Chip) : Chip :=
  let n := c.pair.records.length
  let c1 := (c.put pairAt Pair.lag n).put pairAt Pair.lag_max (max n (c.get pairAt Pair.lag_max))
  if 8 < n then c1.desync 1 else c1

/-! ### The partner -/

/-- The partner is lost (R413). -/
def Chip.losePartner (c : Chip) : Chip :=
  let c1 := ((((c.put pairAt Pair.partner 0).put pairAt Pair.partner_state 0).put pairAt Pair.partner_lost 1).putLane 0
    false).putLane 1 false
  let fs := c1.safe.sfs.map (fun h => { h with partner := none })
  let c2 := { c1 with safe := { c1.safe with sfs := fs } }
  let c3 : Chip := c2.each c2.sharedChans (fun c g =>
    let c' := c.setChan g (fun h => { h with partnerOn := false, partnerLoad := 0, partnerExt := false })
    if c'.dNow g dShareLow then
      ((c'.dOff g dShareLow).record 44 (g / 16) 0 g [0] [c'.get (chanAt g) Dig.load]).putStatus g else c')
  let c4 := c3.record 74 0xFF 2 (3 - c.pos) [] [c.pair.partnerCycle]
  let c5 : Chip := c4.pairAbort.holderSync
  let c6 := if c5.lease = 2 then c5.setLease 5 0 0 else if c5.lease = 4 then c5.setLease 6 0 0 else c5
  c6.resolveShared

/-- The partner is there: a heartbeat or a negotiation frame has come (R413); a shadow alone resynchronises (Table 14.7). -/
def Chip.findPartner (c : Chip) : Chip :=
  if c.flag pairAt Pair.partner then c
  else
    let c1 := c.put pairAt Pair.partner 1
    let c2 := if c1.lease = 6 then c1.beginResync.setLease 3 0 0 else c1
    c2.resolveShared

/-- The partner reports a lease state (R411): the holder's own state and both modules' shares follow (Tables 14.3, 14.7). -/
def Chip.partnerIs (c : Chip) (new cycles : Nat) : Chip :=
  let old := c.get pairAt Pair.partner_state
  let c1 := (c.put pairAt Pair.partner_state new).holderSync
  let c2 := if c1.lease = 5 && new = 4 then (c1.setLease 2 0 0) else c1
  let c3 := if old != new && (new = 4 || (old = 4 && new = 3)) && (c2.lease = 2 || c2.lease = 5) then c2.shareRamp 3 else c2
  let c4 := if old = 4 && new != 4 && c3.pair.swapAsk then c3.pairAbort else c3
  if c4.pair.handHold && new = 2 && 1 ≤ cycles then
    ((c4.setPair (fun p => { p with handHold := false })).shareRamp 2).resolveShared
  else c4

/-- A valid frame on a lane. -/
def Chip.laneHeard (c : Chip) (l : Nat) : Chip :=
  let gap := decide (nth 0 c.pair.laneAt l + 3000 < c.now)
  let c1 := c.setPair (fun p => { p with
    goodAt := if gap then setAt p.goodAt l c.now else p.goodAt
    laneAt := setAt p.laneAt l c.now
    partnerAt := c.now })
  let c2 := { c1 with panel := { c1.panel with partnerAt := some c.now } }
  if nth false c.pair.laneBad l then c2 else c2.putLane l true

/-! ### Frames -/

/-- Fold bits into words of 32, lowest first. -/
def bitWords (n : Nat) (f : Nat → Bool) : List Nat :=
  (List.range n).map (fun w => ((List.range 32).map (fun i => b2n (f (32 * w + i)) * 2 ^ i)).sum)

/-- Bit i of words of 32. -/
def bitIn (ws : List Nat) (i : Nat) : Bool := (nth 0 ws (i / 32)).testBit (i % 32)

/-- The presence of a module (R493): position, phase, halted, driving the panel, an update in progress. -/
def Chip.presence (c : Chip) : Nat :=
  c.lease + 16 * c.pos + 64 * c.phase + 1024 * b2n (c.flag surveyAt Survey.halted) + 2048 * b2n c.driving
    + 4096 * b2n (c.flag panelAt Panel.ep_busy)

/-- The heartbeat (R411, R368, R277): presence with the lease state, cycle count, digest of a cycle, lag, shared DO
commands and ext_src states, functions, load currents. -/
def Chip.heartbeat (c : Chip) : List Nat :=
  let (dc, dg) := c.pair.ownDigest.getD (0, 0)
  let on := fun g => c.shared g && c.mode g == 9 && c.cmdOn g (c.get (chanAt g) Chan.command)
  let ext := fun g => c.shared g && c.mode g == 6 && (c.chan g).extOff
  let fn := fun sf => match c.safe.fns.find? (fun f => f.sf == sf) with
    | some f => if c.ownsSafe f.owner then
        c.sfState f.base f.j + 8 * b2n (c.getI (isleAt f.base) Isle.disc f.j != 0) + 16 else 0
    | none => 0
  [c.presence, c.get engineAt Engine.cycle_count, dc, dg, c.get pairAt Pair.lag] ++ bitWords 4 on ++ bitWords 4 ext
    ++ (List.range 32).map fn
    ++ (c.sharedChans.filter (fun g => c.mode g == 9)).map (fun g => g * 65536 + c.get (chanAt g) Dig.load)

/-- The panel's view of a partner's presence word (R493), and whether the partner is halted. -/
def Chip.hearPresence (c : Chip) (w : Nat) : Chip :=
  { c with pair := { c.pair with partnerHalted := w.testBit 10 }, panel := { c.panel with
      partnerDrivesAt := if w.testBit 11 then some c.now else c.panel.partnerDrivesAt
      partnerBusy := w.testBit 12 } }

/-- A heartbeat has come. -/
def Chip.hearBeat (c : Chip) (ws : List Nat) : Chip :=
  let w := nth 0 ws 0
  let c1 := (c.hearPresence w).findPartner
  let c2 := c1.setPair (fun p => { p with
    partnerCycle := nth 0 ws 1, hisDigest := some (nth 0 ws 2, nth 0 ws 3), partnerLag := nth 0 ws 4 })
  let ons := (ws.drop 5).take 4
  let exts := (ws.drop 9).take 4
  let fns := (ws.drop 13).take 32
  let c3 := c2.each c2.sharedChans (fun c g => c.setChan g (fun h => { h with
    partnerOn := bitIn ons g, partnerExt := bitIn exts g }))
  let c4 := c3.each (ws.drop 45) (fun c e => c.setChan (e / 65536) (fun h => { h with partnerLoad := e % 65536 }))
  let c5 := c4.each (List.range 32) (fun c sf =>
    let v := nth 0 fns sf
    if v.testBit 4 then c.setSf sf (fun h => { h with partner := some (v % 8, v.testBit 3) }) else c)
  let c6 := c5.partnerIs (w % 16) (nth 0 ws 1)
  match c6.pair.ownDigest with
  | some (k, d) => if k = nth 0 ws 2 && d != nth 0 ws 3 && c6.lease = 4 then c6.desync 2 else c6
  | none => c6

/-- What a module sends in negotiation (R414). -/
def Chip.negWords (c : Chip) : List Nat :=
  let rd (a n : Nat) := (List.range n).map (fun k => c.nat (a + k))
  [c.pos + 4 * c.lease + 64 * b2n (c.flag surveyAt Survey.halted), c.get identAt Ident.regions,
   c.get imageAt Image.region_mask, c.get imageAt Image.image_id, c.get imageAt Image.steward_version,
   c.get pairAt Pair.lease_period]
    ++ rd (imageAt + 4) 8 ++ rd (imageAt + 0xC) 8 ++ rd (pairAt + 0x20) 9

/-- The partner's negotiation values. -/
def negOf (ws : List Nat) : NegInfo :=
  let w := nth 0 ws 0
  { position := w % 4, variant := nth 0 ws 1, mask := nth 0 ws 2, imageId := nth 0 ws 3,
    digest := (ws.drop 6).take 8, struct_ := (ws.drop 14).take 8, steward := nth 0 ws 4, plug := (ws.drop 22).take 9,
    lease := w / 4 % 16, period := nth 0 ws 5, halted := w.testBit 6 }

/-- compat and img_differs follow the partner's digests (R414). -/
def Chip.compatSync (c : Chip) (n : NegInfo) (compat : Bool) : Chip :=
  let same := n.digest == (List.range 8).map (fun k => c.nat (imageAt + 4 + k))
  (c.put pairAt Pair.compat (b2n compat)).put pairAt Pair.img_differs (b2n (compat && !same))

/-- Negotiation values have come: the partner is found, its fields are reported (R413, R414); a module that runs sees by them whether a
partner that comes back is compatible. -/
def Chip.hearNeg (c : Chip) (ws : List Nat) : Chip :=
  let n := negOf ws
  let c0 := if decide (c.phase < 7) then c.findPartner
    else c.findPartner.compatSync n (n.struct_ == (List.range 8).map (fun k => c.nat (imageAt + 0xC + k)))
  let c1 := (((c0.put pairAt Pair.partner_variant n.variant).put pairAt Pair.partner_mask n.mask).put pairAt
    Pair.partner_image_id n.imageId).put pairAt Pair.partner_steward n.steward
  (c1.setPair (fun p => { p with neg := some n, partnerHalted := n.halted })).partnerIs n.lease 0

/-- A lease renewal (R416): the epoch and lease_period of the holder. -/
def Chip.hearRenewal (c : Chip) (ws : List Nat) : Chip :=
  if !shadows c.lease && c.lease != 7 then c
  else (c.put pairAt Pair.lease_epoch (nth 0 ws 0)).setPair (fun p => { p with renewAt := c.now, period := nth 0 ws 1 })

/-- A yield names the last cycle the holder has completed (R417): a shadow that has completed it, or holds no consistent run
of it, takes the lease at once; one that has not completes it first. -/
def Chip.hearYield (c : Chip) (cycle : Nat) (swap : Bool) : Chip :=
  let done := decide (cycle ≤ c.get engineAt Engine.cycle_count)
  if c.lease = 4 && !done then c.setPair (fun p => { p with yieldAt := some (cycle, swap) })
  else if c.lease = 3 || c.lease = 4 then c.takeLease false
  else c

/-- The images of the channels the partner owns (R413): g, type and status, value. -/
def Chip.hearOwned (c : Chip) : List Nat → Chip
  | g :: st :: v :: ws =>
    (c.setPair (fun p => { p with
      owned := (g, ⟨st / 65536, v, st % 65536⟩, c.now) :: p.owned.filter (fun e => e.1 != g) })).hearOwned ws
  | _ => c

/-- A motion in four words. -/
def Motion.words : Motion → List Nat
  | .still => [0, 0, 0, 0]
  | .goto t dec short => [1, unsigned 32 t, b2n dec, short]
  | .run v neg => [2, v, b2n neg, 0]
  | .brake none => [3, 0, 0, 0]
  | .brake (some l) => [4, unsigned 32 l.1, l.2, 0]
  | .ease none => [5, 0, 0, 0]
  | .ease (some t) => [6, unsigned 32 t, 0, 0]
  | .speed => [7, 0, 0, 0]
  | .gear => [8, 0, 0, 0]

/-- The motion of four words. -/
def Motion.ofWords (ws : List Nat) : Motion :=
  let a := nth 0 ws 1
  let b := nth 0 ws 2
  match nth 0 ws 0 with
  | 1 => .goto (signed 32 a) (b != 0) (nth 0 ws 3)
  | 2 => .run a (b != 0)
  | 3 => .brake none
  | 4 => .brake (some (signed 32 a, b))
  | 5 => .ease none
  | 6 => .ease (some (signed 32 a))
  | 7 => .speed
  | 8 => .gear
  | _ => .still

/-- A number of 64 bits, two's complement, in two words. -/
def words64 (i : Int) : List Nat := [unsigned 64 i % 2 ^ 32, unsigned 64 i / 2 ^ 32]

/-- The number of two words. -/
def int64 (ws : List Nat) (k : Nat) : Int := signed 64 (nth 0 ws k + 2 ^ 32 * nth 0 ws (k + 1))

/-- The mirror frame of an axis (Table 14.4): its number and reference state; p, v and the demand in full; travel; mode, homing and
ownership; the running act; the words of its block that report them; the motion; gearing; the last act of every block. -/
def Chip.axisWords (c : Chip) (x : Nat) : List Nat :=
  let h := c.ax x
  let b := axisAt x
  let flag (o : Bool) (k : Nat) : Nat := b2n o * 2 ^ k
  [x + 16 * c.get b Axis.ref_state] ++ words64 h.p ++ words64 h.v ++ words64 h.demand
    ++ [h.trip % 2 ^ 32, h.mode + 16 * h.hMode + 256 * h.hStep + flag h.owned 12 + flag h.act.isSome 13 + flag h.hLat 14, h.act.getD 0,
        h.actKind, unsigned 32 h.hRef, c.get b Axis.pref, c.get b Axis.lag, c.get b Axis.moff, c.get b Axis.code, c.get b Axis.moves]
    ++ h.motion.words ++ [h.gKind + 16 * h.gCh, h.gTotal, unsigned 32 h.gAnchor, h.gStage]
    ++ h.acts.map (fun a => a.seq + flag a.busy 16 + 2 ^ 17 * a.code)

/-- The act of a mirrored word. -/
def ActSt.ofWord (w : Nat) : ActSt := ⟨w % 2 ^ 16, w.testBit 16, w / 2 ^ 17⟩

/-- A shadow's axis follows the holder's (R333): p, the reference state and the generator's state. Its stage stays off. -/
def Chip.hearAxis (c : Chip) (ws : List Nat) : Chip :=
  let w := nth 0 ws 0
  let x := w % 16
  let b := axisAt x
  let m := nth 0 ws 8
  if !shadows c.lease || c.stageOn x then c
  else
    let c1 := c.setAx x (fun h => { h with
      p := int64 ws 1, v := int64 ws 3, demand := int64 ws 5, trip := nth 0 ws 7, mode := m % 16, hMode := m / 16 % 16
      hStep := m / 256 % 16, owned := m.testBit 12, act := if m.testBit 13 then some (nth 0 ws 9) else none, hLat := m.testBit 14
      actKind := nth 0 ws 10, hRef := signed 32 (nth 0 ws 11), motion := Motion.ofWords ((ws.drop 17).take 4)
      gKind := nth 0 ws 21 % 16, gCh := nth 0 ws 21 / 16, gTotal := nth 0 ws 22, gAnchor := signed 32 (nth 0 ws 23)
      gStage := nth 0 ws 24, acts := (ws.drop 25).map ActSt.ofWord })
    let c2 := ((((c1.put b Axis.pref (nth 0 ws 12)).put b Axis.lag (nth 0 ws 13)).put b Axis.moff (nth 0 ws 14)).put b Axis.code
      (nth 0 ws 15)).put b Axis.moves (nth 0 ws 16)
    (c2.setRef x (w / 16 % 4)).axSync x

/-- The mirror frame of a loop (Table 14.4): state, out, integ, s1 and s2 of every section. -/
def Chip.loopWords (c : Chip) (n : Nat) : List Nat :=
  let u48 (i : Int) : List Nat := [unsigned 48 i % 2 ^ 32, unsigned 48 i / 2 ^ 32]
  [n, c.loopState n, c.get (loopAt n) Loop.out] ++ u48 (c.integ n) ++ (c.sections n).flatMap (fun s => u48 s.1 ++ u48 s.2)

/-- 48-bit pairs of words. -/
def pairs48 : List Nat → List Int
  | lo :: hi :: t => signed 48 (lo + 2 ^ 32 * hi) :: pairs48 t
  | _ => []

/-- Every two. -/
def twos : List Int → List (Int × Int)
  | a :: b :: t => (a, b) :: twos t
  | _ => []

/-- A mirrored loop. -/
def Chip.hearLoop (c : Chip) (ws : List Nat) : Chip :=
  match pairs48 (ws.drop 3) with
  | i :: ss => c.when c.loopsMirror (·.setLoop (nth 0 ws 0) (fun h => { h with
      mirror := some (nth 0 ws 1, signed 32 (nth 0 ws 2), i, twos ss) }))
  | [] => c

/-- The partner's shares of shared AO-I channels (Table 14.4): g, share in µA. -/
def Chip.hearShares (c : Chip) : List Nat → Chip
  | g :: v :: ws => (c.setChan g (fun h => { h with hisShare := signed 32 v })).hearShares ws
  | _ => c

/-- A lane frame with a good CRC, by kind: 0 presence, 1 negotiation, 2 heartbeat, 3 renewal, 4 yield, 5 owned images,
7 axis mirror, 8 loop mirror, 11 shares. -/
def Chip.hearFrame (c : Chip) (l kind : Nat) (ws : List Nat) : Chip :=
  let c1 := (c.laneHeard l).countPass l 4 7 false 4 2 (4 * ws.length)
  match kind with
  | 0 => c1.hearPresence (nth 0 ws 0)
  | 1 => c1.hearNeg ws
  | 2 => c1.hearBeat ws
  | 3 => c1.hearRenewal ws
  | 4 => c1.hearYield (nth 0 ws 0) (nth 0 ws 1 != 0)
  | 5 => c1.hearOwned ws
  | 7 => c1.hearAxis ws
  | 8 => c1.hearLoop ws
  | 11 => c1.hearShares ws
  | _ => c1

/-! ### Halts and negotiation -/

/-- The module halts in its phase (R94). -/
def Chip.halt (c : Chip) (reason : Nat) : Chip :=
  if c.flag surveyAt Survey.halted then c
  else ((c.put surveyAt Survey.halted 1).put surveyAt Survey.reason reason).record 1 0xFF 2 c.phase [reason] []

/-- The negotiation outcome (Table 14.2): neg_cause, and the lease state it leads to, none for a halt. -/
def Chip.negotiated (c : Chip) : Nat × Option Nat :=
  let rd (a n : Nat) := (List.range n).map (fun k => c.nat (a + k))
  match c.pair.neg with
  | some n =>
    if (c.pos = 0 && c.sys.hasPair) || (c.pos != 0 && n.position == c.pos) then (2, none)
    else if c.pos != 0 && !c.sys.hasPair then (5, none)
    else if n.plug != rd (pairAt + 0x20) 9 then (3, none)
    else if n.halted then (1, some 5)
    else if n.struct_ != rd (imageAt + 0xC) 8 then
      (4, some (if n.lease = 2 || n.lease = 5 then 7 else if c.pos = 1 then 5 else 7))
    else (0, some (if n.lease = 2 || n.lease = 5 then 3 else if c.pos = 1 then 2 else 3))
  | none =>
    if c.pos = 0 && c.sys.hasPair then (2, none)
    else if c.pos != 0 && !c.sys.hasPair then (5, none)
    else (1, some 5)

/-- Negotiation concludes: the outcome is recorded; phase S7 begins, or the module halts in S6 (R414). -/
def Chip.concludeNeg (c : Chip) : Chip :=
  let (cause, next) := c.negotiated
  let c1 := (c.put pairAt Pair.neg_cause cause).record 76 0xFF (if cause = 2 || cause = 3 || cause = 5 then 2 else 0) c.pos
    [cause] []
  match next with
  | none => c1.halt 6
  | some l =>
    let c2 := match c.pair.neg with
      | some n => c1.compatSync n (cause == 0)
      | none => c1
    let c3 := (c2.put surveyAt Survey.phase 7).setPair (fun p => { p with
      copyAt := c.now, copied := false, renewAt := c.now
      period := (p.neg.map (·.period)).getD (c.get pairAt Pair.lease_period) })
    c3.setLease l 0 0

/-! ### Commands of the pair block (R434) -/

/-- May the sender command a swap or a handover now: every enabled axis at standstill? -/
def Chip.axesStill (c : Chip) : Bool := (List.range 16).all (fun x => !c.axUsed x || (c.ax x).atStill)

/-- A pair command is accepted. -/
def Chip.pairAccept (c : Chip) (bitNo result : Nat) : Chip := (c.put pairAt Pair.last_cmd bitNo).put pairAt Pair.result result

/-- The command word of the pair block; `role` says that the sender is an engineer or safety-engineer session. -/
def Chip.pairCommand (c : Chip) (w : Nat) (role : Bool) : Chip :=
  let n := (List.range 4).filter (fun i => w.testBit i)
  if c.get pairAt Pair.result = 1 then c
  else match n with
  | [] => c
  | [3] => ((((((c.setNat (pairAt + 4) 0).setNat (pairAt + 5) 0).setNat (pairAt + 6) 0).setNat (pairAt + 7) 0).setNat
      (pairAt + 8) 0)).pairAccept 3 2
  | [2] => if !role || c.lease != 4 then c.put pairAt Pair.result 3 else (c.pairAccept 2 2).desync 0
  | [1] =>
    if !role || c.lease != 5 || c.get pairAt Pair.partner_state != 7 || c.pair.partnerHalted || !c.axesStill then c.put pairAt Pair.result 3
    else (c.pairAccept 1 1).setPair (fun p => { p with handAsk := true })
  | [0] =>
    if !role || c.lease != 2 || c.get pairAt Pair.partner_state != 4 || 1 < c.pair.partnerLag
      || !c.flag pairAt Pair.lane_a || !c.flag pairAt Pair.lane_b || !c.axesStill || c.pair.handAsk then
      c.put pairAt Pair.result 3
    else (c.pairAccept 0 1).setPair (fun p => { p with swapAsk := true })
  | _ => c.put pairAt Pair.result 3

end Sys2Proof.Machine
end

