-- ==== Sys2Proof/Machine/PortOps.lean ====
section
/-! DEFINITION. Message ports (R374 to R405): the receive ring, the message memory, pair sequence numbers, remote
stations, the schedule matrix, error states, and leaving and rejoining the bus. -/

namespace Sys2Proof.Machine

/-- Port r beyond its registers. -/
def Chip.port (c : Chip) (r : Nat) : PortSt := nth {} c.ports r

/-- Change port r beyond its registers. -/
def Chip.setPort (c : Chip) (r : Nat) (f : PortSt → PortSt) : Chip := { c with ports := upd c.ports r f }

/-- Object j of port r beyond its registers. -/
def Chip.obj (c : Chip) (r j : Nat) : PortObj := nth {} (c.port r).objs j

/-- Change object j of port r. -/
def Chip.setObj (c : Chip) (r j : Nat) (f : PortObj → PortObj) : Chip :=
  c.setPort r (fun p => { p with objs := upd p.objs j f })

/-- Change a station of port r, by its place in the list. -/
def Chip.setSta (c : Chip) (r k : Nat) (f : PortSta → PortSta) : Chip :=
  c.setPort r (fun p => { p with stas := upd p.stas k f })

/-- Set a sticky flag of word 0x000B. -/
def Chip.pOn (c : Chip) (r n : Nat) : Chip :=
  let a := portAt r + 0x000B
  c.setWord a (BitVec.ofNat 32 (withBit (c.nat a) n true))

/-- An identifier as a parameter word: bit 31 set for 29 bits. -/
def idWord (id : Nat) (ide : Bool) : Nat := id % 2 ^ 29 + (if ide then 2 ^ 31 else 0)

/-- The identifier of a frame as a parameter word. -/
def CanFrame.key (f : CanFrame) : Nat := idWord f.id f.ide

/-- The arbitration field as a number: the smaller one wins the bus. -/
def CanFrame.arb (f : CanFrame) : Nat :=
  if f.ide then f.id / 2 ^ 18 * 2 ^ 21 + 2 ^ 20 + 2 ^ 19 + f.id % 2 ^ 18 * 2 + b2n f.rtr
  else f.id % 2 ^ 11 * 2 ^ 21 + b2n f.rtr * 2 ^ 20

/-- Data lengths by data length code. -/
def dlcLens : List Nat := [0, 1, 2, 3, 4, 5, 6, 7, 8, 12, 16, 20, 24, 32, 48, 64]

/-- The data length code of a length. -/
def dlcOf (n : Nat) : Nat := dlcLens.findIdx (fun k => n ≤ k)

/-- Is the port on the bus, able to send and acknowledge? -/
def Chip.portLive (c : Chip) (r : Nat) : Bool :=
  let b := portAt r
  c.flag b Port.enable && c.get b Port.off_reason == 0 && c.get b Port.state ≤ 1

/-- Have the program's outputs stopped: watchdog stop or module-level fault (R399)? -/
def Chip.sendsStopped (c : Chip) : Bool :=
  c.get engineAt Engine.state == 2 || c.get engineAt Engine.state == 3 || c.get pairAt Pair.lease_state == 8

/-- Does a survey of the port hold its transmissions, its own termination disconnected, for at most 2 ms (R105, Table 13.5)? -/
def Chip.portSurveyed (c : Chip) (r : Nat) : Bool :=
  match (c.port r).termOpen with
  | some t => decide (c.now < t + 2000)
  | none => false

/-- Is the port's own termination connected: term set, and no survey measuring without it? -/
def Chip.terminated (c : Chip) (r : Nat) : Bool := c.flag (portAt r) Port.term && !c.portSurveyed r

/-! ### Object words -/

/-- First word of object j. -/
def objAt (r j : Nat) : Nat := portAt r + 0x1000 + 32 * j

/-- Write bytes into 16 words from an address, zero beyond them. -/
def Chip.putBytes16 (c : Chip) (a : Nat) (bs : List Nat) : Chip :=
  c.each (List.range 16) (fun c k => c.setNat (a + k) (numAt bs (4 * k) 4))

/-- The bytes of 16 words. -/
def Chip.bytes16 (c : Chip) (a n : Nat) : List Nat :=
  ((List.range 16).flatMap (fun k => leBytes 4 (c.nat (a + k)))).take n

/-- A mode bit of object j: 0 trigger, 1 periodic, 2 on change, 3 single-shot, 4 pseq. -/
def Chip.objMode (c : Chip) (r j n : Nat) : Bool := (c.getI (portAt r) PWord.ob_mode j).testBit n

/-- The status bits of word 2 of an object follow its requests. -/
def Chip.objSync (c : Chip) (r j : Nat) : Chip :=
  let o := c.obj r j
  (c.putI (portAt r) PWord.ob_pending j (b2n o.pend.isSome)).putI (portAt r) PWord.ob_in_tx j (b2n o.begun.isSome)

/-- The frame of object j with given data. -/
def Chip.objFrame (c : Chip) (r j : Nat) (data : List Nat) : CanFrame :=
  let b := portAt r
  let fl := c.getI b PWord.ob_fflags j
  { id := c.getI b PWord.ob_id j % 2 ^ 29, ide := fl.testBit 0, fd := fl.testBit 1, brs := fl.testBit 2,
    rtr := fl.testBit 3, data := data }

/-- The bytes an object sends: its content, with the pair sequence number in the last two bytes when pseq is set (R382). -/
def Chip.objBytes (c : Chip) (r j : Nat) (content : List Nat) : List Nat :=
  let n := content.length
  if c.objMode r j 4 && decide (2 ≤ n) then content.take (n - 2) ++ leBytes 2 (c.getI (portAt r) PWord.ob_pseq j)
  else content

/-- Does the inhibit time of an object run: no two of its transmissions begin less than inhibit apart (R379)? -/
def PortObj.inhibited (o : PortObj) (now : Nat) : Bool :=
  match o.beganAt with
  | some t => decide (now < t + 1000 * o.inhibit)
  | none => false

/-- Request a transmission of object j (R379 to R381): a request inside the inhibit time waits for its end. With the CAN clock lost the
request is refused and counted (R69). -/
def Chip.request (c : Chip) (r j : Nat) (content : List Nat) : Chip :=
  let o := c.obj r j
  let busy := o.pend.isSome || o.begun.isSome
  if c.tongsDown r 2 then c.tongsRefuse r 2 else
  let c1 := (c.when busy (·.bumpByI (portAt r) PWord.ob_superseded j 1)).putI (portAt r) PWord.ob_single_fail j 0
  (c1.setObj r j (fun o => { o with pend := some ⟨c.objBytes r j content, content⟩, held := o.inhibited c.now })).objSync r j

/-- The content of object j as last written by CANSEND. -/
def Chip.objContent (c : Chip) (r j : Nat) : List Nat := c.bytes16 (objAt r j + 16) (c.getI (portAt r) PWord.ob_len j)

/-- A CANSEND at the output write (R379, R382): the object takes the data, and the requests its mode gives follow. An object that is no
send object is not written. -/
def Chip.canSend (c : Chip) (r j : Nat) (data : List Nat) (trig : Bool) : Chip :=
  let b := portAt r
  let o := c.obj r j
  if c.getI b PWord.ob_dir j != 2 then c else
  let c1 := (c.putI b PWord.ob_len j data.length).putBytes16 (objAt r j + 16) data
  let ask := (trig && c.objMode r j 0) || (c.objMode r j 2 && o.sent != some data)
  let c2 := c1.when (ask && c.objMode r j 4) (fun c => c.putI b PWord.ob_pseq j ((c.getI b PWord.ob_pseq j + 1) % 65536))
  let c3 := c2.when ask (·.request r j data)
  c3.when (c.objMode r j 1 && o.perAt.isNone) (·.setObj r j (fun o => { o with perAt := some (c.now + 1000 * o.period) }))

/-- A frame is over: no retry follows. -/
def PortSt.done (p : PortSt) (src : TxSrc) : PortSt := { p with handed := p.handed.filter (fun e => e.1 != src) }

/-- End a single-shot request with a failure (R381): the attempt under way, and with `all` one that waits too (R394). -/
def Chip.failShot (c : Chip) (r j : Nat) (all : Bool) : Chip :=
  let o := c.obj r j
  if c.objMode r j 3 && ((all && o.pend.isSome) || o.begun.isSome) then
    (((c.setPort r (·.done (.object j))).setObj r j (fun o => { o with
      pend := if all then none else o.pend, begun := none, held := o.held && !all })).putI (portAt r) PWord.ob_single_fail j 1).objSync r j
  else c

/-- Objects of port r with a request or a frame under way. -/
def Chip.busyObjs (c : Chip) (r : Nat) : List Nat :=
  (List.range 128).filter (fun j => (c.obj r j).pend.isSome || (c.obj r j).begun.isSome)

/-- Is a frame of this source the one in transmission? -/
def PortSt.sends (p : PortSt) (src : TxSrc) : Bool :=
  match p.tx with
  | some (t, _) => t == src
  | none => false

/-- Every request is kept with its newest data, and waits as one that has not begun, but for the frame in transmission. -/
def Chip.rewait (c : Chip) (r : Nat) : Chip :=
  let p := c.port r
  let c1 := c.each ((c.busyObjs r).filter (fun j => !p.sends (.object j))) (fun c j =>
    (c.setObj r j (fun o => { o with pend := o.pend <|> o.begun, begun := none })).objSync r j)
  c1.setPort r (fun q => { q with stas := q.stas.zipIdx.map (fun s => { s.1 with outs := s.1.outs.zipIdx.map (fun f =>
    if p.sends (.station s.2 f.2) then f.1 else { f.1 with pend := f.1.pend <|> f.1.begun, begun := none }) }) })

/-- Every request is kept with its newest data, and no frame is under way. -/
def Chip.requeue (c : Chip) (r : Nat) : Chip := (c.setPort r (fun p => { p with tx := none, flagUp := false })).rewait r

/-- R399: pending requests are cancelled, and those whose attempt has failed; one whose frame is in transmission completes. -/
def Chip.cancelSends (c : Chip) (r : Nat) : Chip :=
  let p := c.port r
  let c1 := c.each (c.busyObjs r) (fun c j =>
    (c.setObj r j (fun o => { o with
      pend := none, begun := if p.sends (.object j) then o.begun else none, held := false })).objSync r j)
  c1.setPort r (fun q => { q with
    handed := q.handed.filter (fun e => p.sends e.1 || e.1 == .safety)
    stas := q.stas.zipIdx.map (fun s => { s.1 with outs := s.1.outs.zipIdx.map (fun f => { f.1 with
      pend := none, begun := if p.sends (.station s.2 f.2) then f.1.begun else none }) }) })

/-! ### Receive ring -/

/-- First word of ring entry i. -/
def ringAt (r i : Nat) : Nat := portAt r + 0x4000 + 20 * i

/-- Write a frame to the ring (R377). -/
def Chip.ringPut (c : Chip) (r : Nat) (f : CanFrame) (own esi : Bool) : Chip :=
  let b := portAt r
  let n := c.get b Port.rx_count
  let i := n % 2048
  let a := ringAt r i
  let w2 := b2n own * 2 ^ 21 + b2n esi * 2 ^ 20 + b2n f.brs * 2 ^ 19 + b2n f.fd * 2 ^ 18 + b2n f.rtr * 2 ^ 17
    + b2n f.ide * 2 ^ 16 + f.data.length * 2 ^ 8 + dlcOf f.data.length
  let c1 := (((c.setNat a c.tick).setNat (a + 1) f.key).setNat (a + 2) w2).setNat (a + 3) n
  let c2 := (c1.putBytes16 (a + 4) (if f.rtr then [] else f.data)).put b Port.rx_count ((n + 1) % 2 ^ 32)
  c2.countPass r 4 6 own 2 0 f.data.length

/-- Ring entry of frame n; the holder's where the cycle's latch took it from the mirror (Table 14.4, R419). -/
def Chip.ringGet (c : Chip) (r n : Nat) : RingEntry :=
  let a := ringAt r (n % 2048)
  let w2 := c.nat (a + 2)
  let own : RingEntry :=
    { tick := c.nat a, idw := c.nat (a + 1), w2 := w2, data := c.bytes16 (a + 4) (w2 / 2 ^ 8 % 2 ^ 8) }
  (assoc (c.port r).mirror n).getD own

/-- What R383 says of a frame with sequence q and data, after the last accepted sequence and data: 0 accept, 1 duplicate,
2 divergence, 3 older. -/
def judgeSeq (last : Option (Nat × List Nat)) (q : Nat) (data : List Nat) : Nat :=
  match last with
  | none => 0
  | some (a, old) =>
    let d := (q + 65536 - a) % 65536
    if d = 0 then (if data = old then 1 else 2) else if d ≤ 32767 then 0 else 3

/-- The sequence number in the last two bytes of a frame. -/
def seqOf (data : List Nat) : Nat := numAt data (data.length - 2) 2

/-- A pair sequence divergence (R383). -/
def Chip.diverge (c : Chip) (r idw q : Nat) : Chip :=
  ((c.bump (portAt r) Port.pseq_divs).pOn r 5).record 69 r 2 r [] [idw, q]

/-- Write a matched frame to receive object j (R201, R383); no other object takes one (R379). -/
def Chip.objTake (c : Chip) (r j : Nat) (e : RingEntry) : Chip :=
  let b := portAt r
  let fl := e.w2 / 2 ^ 16 % 2 + 2 * (e.w2 / 2 ^ 18 % 2) + 4 * (e.w2 / 2 ^ 19 % 2) + 8 * (e.w2 / 2 ^ 17 % 2)
  let write (c : Chip) : Chip :=
    let c1 := ((c.putI b PWord.ob_len j e.data.length).putI b PWord.ob_fflags j fl).putI b PWord.ob_id j e.idw
    let c2 := ((c1.putI b PWord.ob_tick j e.tick).bumpByI b PWord.ob_count j 1).putI b PWord.ob_new j 1
    c2.putBytes16 (objAt r j + 16) e.data
  if c.getI b PWord.ob_dir j != 1 then c
  else if c.objMode r j 4 && decide (2 ≤ e.data.length) then
    let q := seqOf e.data
    match judgeSeq ((c.obj r j).accepted.map (fun d => (c.getI b PWord.ob_pseq j, d))) q e.data with
    | 0 => ((write c).putI b PWord.ob_pseq j q).setObj r j (fun o => { o with accepted := some e.data })
    | 1 => c.putI b PWord.ob_tick j e.tick
    | 2 => c.diverge r e.idw q
    | _ => c
  else write c

/-! ### Safety frames on a port (R362) -/

/-- The connections whose safety frames travel on port r under an identifier word. -/
def Chip.connsOn (c : Chip) (r idw : Nat) : List ConnCfg :=
  c.safe.conns.filter (fun k => !k.station && k.port == r && k.address == idw)

/-- Does a ring entry hold a safety frame, which the filter blocks leave out? -/
def Chip.safetyEntry (c : Chip) (r : Nat) (e : RingEntry) : Bool := e.w2.testBit 18 && !(c.connsOn r e.idw).isEmpty

/-- A frame of port r is judged by the slices that consume it, its padding apart. -/
def Chip.consumeCan (c : Chip) (r : Nat) (f : CanFrame) : Chip :=
  if !f.fd then c
  else c.each ((c.connsOn r f.key).filter (fun k => !k.produce)) (fun c k => c.consume k
    (if f.data.length = fdLen (20 + k.n) then f.data.take (20 + k.n) else f.data))

/-! ### Remote stations -/

/-- An update is incomplete: counted and flagged (R385). -/
def Chip.incompleteUpdate (c : Chip) (r : Nat) : Chip := (c.bump (portAt r) Port.incompletes).pOn r 7

/-- The image that a station's frames give, every run in its place (R385). -/
def assemble (img : List Nat) (fs : List StaFrame) : List Nat :=
  fs.foldl (fun m f => match f.got with
    | some d => patch m f.off (d.take f.len)
    | none => m) img

/-- Bytes of a station's input image. -/
def PortSta.inLen (s : PortSta) : Nat := (s.ins.map (fun f => f.off + f.len)).foldl max 0

/-- A frame for input frame i of the station in place k has arrived (R383, R385). -/
def Chip.stationFrame (c : Chip) (r k i : Nat) (s : PortSta) (f : StaFrame) (data : List Nat) : Chip :=
  let closing := i + 1 == s.ins.length
  let want := f.len + (if s.pseq then 2 else 0)
  if data.length != want then c.incompleteUpdate r
  else
    let q := seqOf data
    let j := if s.pseq then judgeSeq f.last q data else 0
    if j = 2 then c.diverge r (idWord f.id f.ide) q
    else if j = 3 then c
    else if j = 1 then
      if closing && s.rxAt.isSome then
        (c.setSta r k (fun s => { s with rxAt := some c.now })).putI (portAt r) PWord.st_rx_tick s.station c.tick
      else c
    else
      let s1 := { s with ins := upd s.ins i (fun f => { f with
        got := some data, last := if s.pseq then some (q, data) else f.last }) }
      if !closing then c.setSta r k (fun _ => s1)
      else if s1.ins.all (fun f => f.got.isSome) then
        let img := assemble (List.replicate s1.inLen 0) s1.ins
        let c1 := c.setSta r k (fun _ => { s1 with
          img := img, rxAt := some c.now, ins := s1.ins.map (fun f => { f with got := none }) })
        (c1.bumpByI (portAt r) PWord.st_updates s.station 1).putI (portAt r) PWord.st_rx_tick s.station c.tick
      else
        (c.setSta r k (fun _ => { s1 with ins := s1.ins.map (fun f => { f with got := none }) })).incompleteUpdate r

/-- Match a received data frame against the port's station input frames. -/
def Chip.matchStations (c : Chip) (r : Nat) (fr : CanFrame) : Chip :=
  if fr.rtr then c
  else
    c.each ((c.port r).stas.zipIdx) (fun c sk =>
      c.each (sk.1.ins.zipIdx) (fun c fi =>
        if fi.1.id == fr.id && fi.1.ide == fr.ide then c.stationFrame r sk.2 fi.2 sk.1 fi.1 fr.data else c))

/-- Age and STATUS16 of a station at a latch (R158, R386). -/
def PortSta.judge (s : PortSta) (now : Nat) : Nat × Nat :=
  match s.rxAt with
  | none => (2 ^ 32 - 1, 2)
  | some t =>
    let age := now - t
    (min age (2 ^ 32 - 1), if 1000 * s.timeout < age then 2 else if 1000 * s.stale < age then 3 else 1)

/-- Latch the stations of port r: words, records of source 68, and the images the program reads. -/
def Chip.latchStations (c : Chip) (r : Nat) : Chip × List StImg :=
  (c.port r).stas.zipIdx.foldl (fun (acc : Chip × List StImg) sk =>
    let s := sk.1
    let b := portAt r
    let (age, st) := s.judge acc.1.now
    let old := acc.1.getI b PWord.st_status s.station
    let c1 := (acc.1.putI b PWord.st_status s.station st).putI b PWord.st_age s.station age
    let c2 := if st = old then c1
      else if st = 1 then c1.record 68 r 0 (64 * r + s.station) [0] [age]
      else if st = 3 then c1.record 68 r 1 (64 * r + s.station) [1] [age]
      else (c1.setSta r sk.2 (fun s => { s with ins := s.ins.map (fun f => { f with last := none }) })).record 68 r 1
        (64 * r + s.station) [2] [age]
    let img := match s.rxAt with
      | some _ => s.img
      | none => List.replicate s.inLen 0
    (c2, acc.2 ++ [{ key := 64 * r + s.station, bytes := img, st := st, age := age }])) (c, [])

/-- Request a station's output frames, in record order (R387). -/
def PortSta.send (s : PortSta) (img : List Nat) (now : Nat) : PortSta :=
  let q := if s.pseq then leBytes 2 s.outSeq else []
  { s with outSent := some img, sentAt := now,
           outs := s.outs.map (fun f => { f with pend := some (bytesAt img f.off f.len ++ q) }) }

/-- The output write of a station: its frames are requested when the image differs from the one last sent (R387). With the CAN clock lost
each frame's request is refused and counted (R69), and the image is not sent. -/
def Chip.stationOut (c : Chip) (r k : Nat) (bytes : List Nat) : Chip :=
  match (c.port r).stas[k]? with
  | none => c
  | some s =>
    let n := (s.outs.map (fun f => f.off + f.len)).foldl max 0
    let img := bytesAt bytes 0 n
    if s.outs.isEmpty || s.outSent == some img then c
    else if c.tongsDown r 2 then c.each s.outs (fun c _ => c.tongsRefuse r 2)
    else c.setSta r k (fun _ => ({ s with outSeq := (s.outSeq + 1) % 65536 }).send img c.now)

/-! ### Bit timing and frame lengths -/

/-- Nominal bit time in units of 12.5 ns (R376). -/
def Chip.nomBit (c : Chip) (r : Nat) : Nat :=
  let b := portAt r
  (c.get b Port.n_brp + 1) * (3 + c.get b Port.n_tseg1 + c.get b Port.n_tseg2)

/-- Data-phase bit time in units of 12.5 ns. -/
def Chip.dataBit (c : Chip) (r : Nat) : Nat :=
  let b := portAt r
  (c.get b Port.d_brp + 1) * (3 + c.get b Port.d_tseg1 + c.get b Port.d_tseg2)

/-- Greatest length of a frame with stuff bits: bits at the nominal rate and at the data rate (ISO 11898-1, log
entry 24). -/
def CanFrame.maxBits (f : CanFrame) : Nat × Nat :=
  let n := 8 * f.data.length
  if !f.fd then
    let n := if f.rtr then 0 else n
    if f.ide then (64 + n + (53 + n) / 4, 0) else (44 + n + (33 + n) / 4, 0)
  else
    let arb := if f.ide then 36 else 17
    let head := 5 + n
    let tail := if f.data.length ≤ 16 then 21 + 6 else 25 + 7
    let fast := head + (head + arb - 1) / 4 - (arb - 1) / 4 + tail + 1
    if f.brs then (arb + (arb - 1) / 4 + 9, fast) else (arb + (arb - 1) / 4 + 9 + fast, 0)

/-- Greatest duration of a frame in units of 12.5 ns. -/
def Chip.frameTime (c : Chip) (r : Nat) (f : CanFrame) : Nat :=
  f.maxBits.1 * c.nomBit r + f.maxBits.2 * c.dataBit r

/-! ### Schedule matrix -/

/-- Bits of a basic cycle. -/
def Matrix.cycleBits (m : Matrix) : Nat := (m.lengths.take m.cols).sum

/-- Kind of the cell of a row and column, and its object. -/
def Matrix.cell (m : Matrix) (row col : Nat) : Nat × Nat :=
  let w := nth 0 m.cells (row % m.rows * m.cols + col)
  (w / 2 ^ 14, w % 2 ^ 7)

/-- Objects named in an exclusive cell. -/
def Matrix.exclusives (m : Matrix) : List Nat :=
  (m.cells.filter (fun w => w / 2 ^ 14 == 1)).map (fun w => w % 2 ^ 7)

/-- The running matrix of port r. -/
def Chip.sched (c : Chip) (r : Nat) : Option Matrix := if c.flag (portAt r) Port.sched then (c.port r).matrix else none

/-- Has this many nominal bit times passed since a tick? -/
def Chip.bitsPassed (c : Chip) (r since bits : Nat) : Bool := decide (bits * c.nomBit r ≤ 80 * (c.now - since))

/-- The frame of a reference message (R389). -/
def refFrame (id byte : Nat) : CanFrame := { id := id, ide := false, fd := false, brs := false, data := [byte] }

/-- Greatest length of a reference message in bits: a classic base frame with one data byte (R389). -/
def refBits : Nat := (refFrame 0 0).maxBits.1

/-- The CRC of a classic frame over its bits from the start of frame on: generator 0x4599 (ISO 11898-1). -/
def canCrc15 (bs : List Bool) : Nat :=
  bs.foldl (fun x b => if x.testBit 14 != b then (2 * x % 2 ^ 15) ^^^ 0x4599 else 2 * x % 2 ^ 15) 0

/-- Stuff bits of a bit sequence: one after five equal bits, itself the first of the next row (ISO 11898-1). The row so far is `run`
bits of value `last`. -/
def stuffBits (last : Bool) (run : Nat) : List Bool → Nat
  | [] => if run = 5 then 1 else 0
  | b :: bs =>
    if run = 5 then 1 + (if b = !last then stuffBits b 2 bs else stuffBits b 1 bs)
    else if b = last then stuffBits last (run + 1) bs
    else stuffBits b 1 bs

/-- The bits of a number, most significant first. -/
def wireBits (w n : Nat) : List Bool := (List.range w).map (fun i => n.testBit (w - 1 - i))

/-- Bits from the sample point of the start of frame of a reference message to that of the last bit of its end of frame, its stuff bits
included: a classic base frame with one data byte (R388, R389, ISO 11898-1). -/
def refSpan (id byte : Nat) : Nat :=
  let head := [false] ++ wireBits 11 id ++ [false, false, false] ++ wireBits 4 1 ++ wireBits 8 byte
  let bs := head ++ wireBits 15 (canCrc15 head)
  bs.length + stuffBits true 0 bs + 10 - 1

/-- Have this many nominal bit times passed since the sample point of the start of frame of the last reference message (R388)? -/
def Chip.sinceRef (c : Chip) (r bits : Nat) : Bool := c.bitsPassed r (c.port r).refAt (bits - (c.port r).refLen)

/-- Have this many nominal bit times passed since a reference message is known to have begun (R391)? -/
def Chip.sinceTry (c : Chip) (r bits : Nat) : Bool := c.bitsPassed r (c.port r).tryAt (bits - (c.port r).tryLen)

/-- A port joins the bus, or its settings take effect in S8: its schedule knows no reference yet, and its times start to count. -/
def PortSt.joinBus (p : PortSt) (now : Nat) : PortSt :=
  { p with refAt := now, refLen := 0, refSeen := false, tryAt := now, tryLen := 0, col := 0 }

/-- The cycle count the next reference message carries. -/
def Chip.nextCycle (c : Chip) (r : Nat) (m : Matrix) : Nat :=
  if (c.port r).refSeen then (c.get (portAt r) Port.sched_cycle + 1) % m.rows else 0

/-- May this module act as a potential time master (R391)? -/
def Chip.mayMaster (c : Chip) (m : Matrix) : Bool := m.master && c.holder

/-- May a pending frame start now: always without a matrix; with one, in an arbitrating window that it fits (R390)? -/
def Chip.mayStart (c : Chip) (r : Nat) (f : CanFrame) (obj : Option Nat) : Bool :=
  match c.sched r with
  | none => true
  | some m =>
    let p := c.port r
    let named := match obj with
      | some j => m.exclusives.contains j
      | none => false
    let used := 80 * (c.now - p.refAt) + p.refLen * c.nomBit r
    !c.flag (portAt r) Port.sched_err_now && p.refSeen && !named
      && (m.cell (c.get (portAt r) Port.sched_cycle) p.col).1 == 2
      && decide (used + c.frameTime r f ≤ (m.lengths.take (p.col + 1)).sum * c.nomBit r)

/-- Start a frame on the bus. It crosses the port's queue tongs once: an attempt after the first sends what the CAN side holds. -/
def Chip.startTx (c : Chip) (r : Nat) (src : TxSrc) (f : CanFrame) : Chip :=
  let known := (c.port r).handed.contains (src, f)
  let c1 := c.setPort r (fun p => { p with tx := some (src, f), flagUp := false, handed := (src, f) :: (p.done src).handed })
  if known then c1 else c1.emit (.can r f)

/-- May the port start a frame: on the bus and not only monitoring it, nothing in transmission, no survey measuring, and an error-passive
transmitter past the intermission and its suspension of 8 bits (R393)? -/
def Chip.busMine (c : Chip) (r : Nat) : Bool :=
  let p := c.port r
  c.portLive r && !c.flag (portAt r) Port.listen && p.tx.isNone && !c.portSurveyed r
    && (match p.ownEnd with
      | some t => c.get (portAt r) Port.state != 1 || c.bitsPassed r t 11
      | none => true)

/-- The frames that wait for the bus (R380). -/
def Chip.waiting (c : Chip) (r : Nat) : List (TxSrc × CanFrame) :=
  let p := c.port r
  let objs : List (TxSrc × CanFrame) := (c.busyObjs r).filterMap (fun j =>
    let o := c.obj r j
    match o.begun, o.pend with
    | some q, _ => some (.object j, c.objFrame r j q.data)
    | none, some q => if o.held || o.inhibited c.now then none else some (.object j, c.objFrame r j q.data)
    | none, none => none)
  let stas : List (TxSrc × CanFrame) := p.stas.zipIdx.flatMap (fun sk =>
    sk.1.outs.zipIdx.filterMap (fun fi =>
      (fi.1.begun <|> fi.1.pend).map (fun d =>
        (TxSrc.station sk.2 fi.2, { id := fi.1.id, ide := fi.1.ide, fd := sk.1.fd, brs := sk.1.fd, data := d }))))
  let safe : List (TxSrc × CanFrame) := ((c.safeTx.find? (fun e => e.1 == r)).map (fun e => (TxSrc.safety, e.2))).toList
  (objs ++ stas ++ safe).filter (fun e => c.mayStart r e.2 (match e.1 with
    | .object j => some j
    | _ => none))

/-- The waiting frame of highest arbitration priority. -/
def bestFrame : List (TxSrc × CanFrame) → Option (TxSrc × CanFrame)
  | [] => none
  | e :: t =>
    match bestFrame t with
    | some b => if b.2.arb < e.2.arb then some b else some e
    | none => some e

/-- A frame's transmission begins: what waited is now under way. -/
def Chip.beginTx (c : Chip) (r : Nat) (src : TxSrc) (f : CanFrame) : Chip :=
  let c1 := match src with
    | .object j =>
      (c.setObj r j (fun o => match o.begun with
        | some _ => { o with beganAt := some c.now }
        | none => { o with begun := o.pend, pend := none, beganAt := some c.now })).objSync r j
    | .station k i => c.setSta r k (fun s => { s with outs := upd s.outs i (fun f => match f.begun with
        | some _ => f
        | none => { f with begun := f.pend, pend := none }) })
    | _ => c
  c1.startTx r src f

/-- Send a reference message (R391). -/
def Chip.sendReference (c : Chip) (r : Nat) (m : Matrix) : Chip :=
  if !c.busMine r then c
  else (c.setPort r (fun p => { p with tryAt := c.now, tryLen := 0 })).startTx r .reference (refFrame m.refId (c.nextCycle r m))

/-! ### Errors, bus-off, off the bus -/

/-- The port goes bus-off (R394), or latches off (R395). -/
def Chip.busOff (c : Chip) (r : Nat) : Chip :=
  let b := portAt r
  let live := (c.port r).offTicks.filter (fun t => c.now < t + 60000000) ++ [c.now]
  let c1 := ((c.put b Port.tec 256).bump b Port.busoffs).pOn r 1
  let c2 := (c1.each (c1.busyObjs r) (fun c j => c.failShot r j true)).requeue r
  let c3 := c2.setPort r (fun p => { p with offTicks := live })
  if c.get b Port.busoff_max < live.length then
    (((c3.put b Port.state 3).put b Port.off_reason 6).pOn r 2).record 65 r 2 r [1] [c3.get b Port.busoffs]
  else c3

/-- The error state follows the counters (R393). -/
def Chip.errState (c : Chip) (r : Nat) : Chip :=
  let b := portAt r
  let tec := c.get b Port.tec
  let rec_ := c.get b Port.rec
  let old := c.get b Port.state
  let new := if 255 < tec then 2 else if 127 < tec || 127 < rec_ then 1 else 0
  if new = old || 2 ≤ old then c
  else
    let c1 := (c.put b Port.state new).record 64 r new r [new] [tec, rec_]
    if new = 2 then c1.busOff r else if new = 1 then c1.pOn r 0 else c1

/-- What keeps the port off the bus (R398): off_reason 1 to 5, or 0. `enable` takes effect on entry to S8 (R404). -/
def Chip.portCause (c : Chip) (r : Nat) : Nat :=
  let b := portAt r
  if !c.flag b Port.enable || c.phase != 8 then 1
  else if c.blockFenced r 9 then 2
  else if c.clkLost r 2 then 3
  else if c.getBit surveyAt Survey.port_oos r then 4
  else if c.regionFenced r then 5
  else 0

/-- What a restart does first (R395), and a rejoin but for the tongs, which deliver what they hold (R68): counters, history,
single-shot requests; the next frame of each sequence is
accepted with any number (R383). -/
def Chip.beginRestart (c : Chip) (r : Nat) (restart : Bool) : Chip :=
  let b := portAt r
  let c1 := ((c.put b Port.tec 0).put b Port.rec 0).put b Port.off_reason 7
  let c2 := (c1.each (c1.busyObjs r) (fun c j => c.failShot r j true)).requeue r
  (c2.setPort r (fun p => { p with
    offTicks := []
    restarting := restart
    rejoinAt := c.now
    objs := p.objs.map (fun o => { o with accepted := none })
    stas := p.stas.map (fun s => { s with ins := s.ins.map (fun f => { f with last := none }) }) })).when restart (·.resetTongs
      (tongsKey r 2 9))

/-- The port leaves the bus, or starts to rejoin it, as the causes of R398 stand. -/
def Chip.portSync (c : Chip) (r : Nat) : Chip :=
  let b := portAt r
  let cause := c.portCause r
  let was := c.get b Port.off_reason
  if cause != 0 then
    if c.get b Port.state = 4 then c.put b Port.off_reason cause
    else
      ((((c.requeue r).put b Port.off_reason cause).put b Port.state 4).pOn r 8).record 71 r 1 r [cause] []
  else if 1 ≤ was && was ≤ 5 then c.beginRestart r false
  else c

/-- The outcome of a request of invocation s that the engine keeps for it. -/
def Chip.setOutcome (c : Chip) (s : Nat) (busy ok : Bool) (code : Nat) : Chip :=
  let rest := c.eng.wrOuts.filter (fun o => o.seq != s)
  { c with eng := { c.eng with wrOuts := { seq := s, busy := busy, ok := ok, code := code } :: rest } }

/-- PORTRST at the output write: only a latched-off port restarts (R395). -/
def Chip.portRestartAsk (c : Chip) (s r : Nat) : Chip :=
  if c.get (portAt r) Port.state = 3 && c.get (portAt r) Port.off_reason != 7 then
    ((c.beginRestart r true).setPort r (fun p => { p with rstBy := s :: p.rstBy })).setOutcome s true false 0
  else c.setOutcome s false false 0

/-- The restart command of a port block (R395, R404). -/
def Chip.cmdPortRestart (c : Chip) (r : Nat) : Chip :=
  if !c.opens r then c else
  let b := portAt r
  if c.get b Port.result = 1 then c
  else if c.get b Port.state = 4 then c.put b Port.result 3
  else ((c.put b Port.last_cmd 0).put b Port.result 1).beginRestart r true

/-- The clear_counters command of a port block (R404). -/
def Chip.cmdPortClear (c : Chip) (r : Nat) : Chip :=
  if !c.opens r then c else
  let b := portAt r
  if c.get b Port.result = 1 then c
  else
    let c1 := ((((c.setNat (b + 7) 0).setNat (b + 8) 0).setNat (b + 9) 0).setNat (b + 0xE) 0).setNat (b + 0xF) 0
    (c1.put b Port.last_cmd 1).put b Port.result 2

end Sys2Proof.Machine
end

