-- ==== Sys2Proof/Machine/NetOps.lean ====
section
/-! DEFINITION. The station link (R435 to R459): service answers, publications and subscriptions, PRP, the calendar
under PTP. -/

namespace Sys2Proof.Machine

/-- Change the station link beyond its registers. -/
def Chip.setNet (c : Chip) (f : NetSt → NetSt) : Chip := { c with net := f c.net }

/-- Session i beyond its registers. -/
def Chip.sess (c : Chip) (i : Nat) : SessSt := nth {} c.net.sess i

/-- Change session i beyond its registers. -/
def Chip.setSess (c : Chip) (i : Nat) (f : SessSt → SessSt) : Chip :=
  c.setNet (fun n => { n with sess := upd n.sess i f })

/-! ### Service messages -/

/-- Header and body of a service message (Table 15.3). -/
def svcFrame (typ sid seq rid : Nat) (body : List Nat) : List Nat :=
  [1, typ] ++ leBytes 2 sid ++ leBytes 4 seq ++ leBytes 2 body.length ++ leBytes 2 rid ++ [0, 0, 0, 0] ++ body

/-- A service message with its mac: the first 16 bytes of HMAC-SHA-256 under the session key (R448). -/
def svcMessage (key : List Nat) (typ sid seq rid : Nat) (body : List Nat) : List Nat :=
  let m := svcFrame typ sid seq rid body
  m ++ (hmac key m).take 16

/-- Send bytes to a client. -/
def Chip.sendTo (c : Chip) (peer port : Nat) (bs : List Nat) : Chip := c.netSend 2 (leBytes 4 peer ++ beBytes 2 port ++ bs)

/-- Answer a request of session i: the response goes out and into the cache of the last eight (R450). -/
def Chip.reply (c : Chip) (i typ seq rid : Nat) (body : List Nat) : Chip :=
  let m := svcMessage (c.sess i).key typ (c.getI sessAt Sess.sid i) seq rid body
  let c1 := c.setSess i (fun h => { h with cache := ((seq, m) :: h.cache).take 8 })
  c1.sendTo (c.getI sessAt Sess.peer i) (c.getI sessAt Sess.port i) m

/-- Answer every complete request at the head of session i's list, in order of seq (R450). -/
def Chip.flushAnswers (c : Chip) (i : Nat) : Nat → Chip
  | 0 => c
  | n + 1 =>
    match (c.sess i).pend with
    | q :: rest =>
      if q.parts.all (·.isSome) then
        Chip.flushAnswers ((c.setSess i (fun h => { h with pend := rest })).reply i (q.typ + 0x80) q.seq q.rid
          (q.parts.flatMap (·.getD []))) i n
      else c
    | [] => c

/-- Give one part of an answer: that of the request a queued change or force edit came from. -/
def Chip.answer (c : Chip) (a : AskedBy) (bs : List Nat) : Chip :=
  let c1 := c.setSess a.session (fun h => { h with pend := h.pend.map (fun q =>
    if q.seq = a.seq then { q with parts := setAt q.parts a.part (some bs) } else q) })
  c1.flushAnswers a.session 8

/-- Answer one part if a session asked. -/
def Chip.answerTo (c : Chip) (a : Option AskedBy) (bs : List Nat) : Chip :=
  match a with
  | some q => c.answer q bs
  | none => c

/-- A status, then a count: the answer to a write or a force release. -/
def statusWords (l : List Nat) : List Nat := l.flatMap (leBytes 4)

/-- The recorder windows of a session are freed with it (R470). -/
def Chip.freeWindows (c : Chip) (sid : Nat) : Chip :=
  c.each (List.range 4) (fun c w =>
    if c.get (winAt w) Win.state != 0 && c.get (winAt w) Win.sid = sid then
      (c.put (winAt w) Win.state 0).put (winAt w) Win.sid 0 else c)

/-- A session ends: closed, idle or at a restart (R450). -/
def Chip.closeSess (c : Chip) (i : Nat) : Chip :=
  if c.getI sessAt Sess.state i = 0 then c
  else
    let was := c.getI sessAt Sess.state i
    let c1 := if was = 2 then (c.record 29 0xFF 0 i [2, c.getI sessAt Sess.role i] [c.getI sessAt Sess.peer i]).freeWindows
        (c.getI sessAt Sess.sid i) else c
    let c2 := ((c1.setNat (sessAt + 4 * i) 0).setNat (sessAt + 4 * i + 1) 0).setNat (sessAt + 4 * i + 2) 0
    let c3 := if was = 2 then c2.put slinkAt SLink.sessions (c2.get slinkAt SLink.sessions - 1) else c2
    c3.setSess i (fun _ => {})

/-! ### Publications and subscriptions -/

/-- The longest publication: the highest slot a PUB block writes (R445). -/
def Chip.pubLen (c : Chip) (pub : Nat) : Nat :=
  (c.eng.prog.filterMap (fun i =>
    match blkOf i.code with
    | some (.pub, _) => if c.instWord i 0 = pub then some (64 * (c.instWord i 1) + 64) else none
    | _ => none)).foldl max 0

/-- Write bytes of a publication (Table 7.12). -/
def Chip.publish (c : Chip) (pub byte : Nat) (data : List Nat) : Chip :=
  c.setNet (fun n => { n with pubs := n.pubs.map (fun p =>
    if p.pub = pub then { p with data := putBytes p.data byte data } else p) })

/-- After an output write: each publication whose data changed takes the next number and is due (R445). -/
def Chip.pubsDue (c : Chip) : Chip :=
  c.setNet (fun n => { n with pubs := n.pubs.map (fun p =>
    if p.sent == some p.data then p else { p with sent := some p.data, due := true, seq := (p.seq + 1) % 65536 }) })

/-- Send a publication now. -/
def Chip.pubSend (c : Chip) (p : PubSt) : Chip :=
  let c1 := c.netSend 0 (leBytes 4 (c.getI pubAt Pub.dest p.pub) ++ c.datagram 0 p.pub p.seq (p.sent.getD p.data))
  let c2 := (c1.bumpByI pubAt Pub.sent p.pub 1).putI pubAt Pub.pseq p.pub p.seq
  c2.setNet (fun n => { n with pubs := n.pubs.map (fun q =>
    if q.pub = p.pub then { q with due := false, sentAt := c.now } else q) })

/-- Stale and timeout of the first SUB block of a partner's publication. -/
def Chip.subLimits (c : Chip) (k pub : Nat) : Option (Nat × Nat) :=
  (c.eng.prog.filterMap (fun i =>
    match blkOf i.code with
    | some (.sub_, _) =>
      if c.instWord i 0 = k && c.instWord i 1 = pub then some (c.instWord i 3, c.instWord i 4) else none
    | _ => none)).head?

/-- Class of an age: 1 valid, 3 stale, 2 invalid (R158, R204). -/
def ageClass (age stale timeout : Nat) : Nat := if timeout < age then 2 else if stale < age then 3 else 1

/-- Latch every subscription whole, and record its transitions (R204, R446). -/
def Chip.latchSubs (c : Chip) : Chip :=
  let c1 := c.each c.net.subs (fun c h =>
    match c.subLimits h.partner h.pub with
    | none => c
    | some (stale, timeout) =>
      let new := ageClass (c.now - h.rxAt) stale timeout
      let c' := c.setNet (fun n => { n with subs := n.subs.map (fun q =>
        if q.partner = h.partner && q.pub = h.pub then
          { q with cls := new, last := if new = 2 then none else q.last } else q) })
      if new = h.cls || (h.cls = 0 && new = 1) then c'
      else c'.record 31 0xFF (if new = 1 then 0 else 1) h.partner [if new = 3 then 1 else if new = 2 then 2 else 0] [h.pub])
  { c1 with eng := { c1.eng with subsLatched := c1.net.subs } }

/-- The partner record with a station number; the records take effect on entry to S8 (Table 15.8). -/
def Chip.partnerOf (c : Chip) (station : Nat) : Option Nat :=
  if c.phase != 8 then none else (List.range 256).find? (fun k => c.getI partnerAt Partner.station k == station && station != 0)

/-- Is a datagram acceptable (R446): magic, version, CRC, length, kind? -/
def datagramOk (bs : List Nat) : Bool :=
  let len := numAt bs 14 2
  decide (32 ≤ bs.length) && bs.take 5 == [0x53, 0x4B, 0x53, 0x44, 1] && decide (bs.length = 32 + len)
    && numAt bs (28 + len) 4 == crc32 (bs.take (28 + len))
    && (if nth 0 bs 5 = 0 then decide (64 ≤ len && len ≤ 1024) && len % 64 == 0
        else nth 0 bs 5 == 1 && decide (21 ≤ len && len ≤ 36))

/-- An accepted publication of partner k (R446, R383): new data, a duplicate that refreshes the age, a divergence, or old. -/
def Chip.subTake (c : Chip) (k pub q : Nat) (data : List Nat) : Chip :=
  let old := c.net.subs.find? (fun h => h.partner == k && h.pub == pub)
  let j := judgeSeq (old.bind (·.last)) q data
  let put (f : SubSt → SubSt) (c : Chip) : Chip := c.setNet (fun n => { n with subs :=
    match old with
    | some _ => n.subs.map (fun h => if h.partner = k && h.pub = pub then f h else h)
    | none => n.subs ++ [f { partner := k, pub := pub, data := data, rxAt := c.now, last := none }] })
  if j = 0 then put (fun h => { h with data := data, rxAt := c.now, last := some (q, data) }) c
  else if j = 1 then put (fun h => { h with rxAt := c.now }) c
  else c

/-! ### PRP (R436) -/

/-- Window entries are forgotten: those whose frame has come on one LAN only are counted. -/
def Chip.prpUnique (c : Chip) (old : List (Nat × Nat × Nat × Nat)) : Chip :=
  let na := (old.filter (fun e => e.2.2.1 == 0)).length
  let nb := (old.filter (fun e => e.2.2.1 == 1)).length
  (c.bumpByI slinkAt SLink.unique_a 0 na).bumpByI slinkAt SLink.unique_b 0 nb

/-- Forget window entries older than 400 ms, and sources silent for 60 s. -/
def Chip.prpForget (c : Chip) : Chip :=
  let c1 := c.prpUnique (c.net.window.filter (fun e => decide (e.2.2.2 + 400000 < c.now)))
  c1.setNet (fun n => { n with
    window := n.window.filter (fun e => !decide (e.2.2.2 + 400000 < c.now))
    nodes := n.nodes.filter (fun e => !decide (e.2 + 60000000 < c.now)) })

/-- A frame from a source arrives on a LAN with the number and the LAN of its trailer, if it has one; answers whether it is
delivered. A LAN of 2 in the window says that both copies have come. -/
def Chip.prpTake (c : Chip) (lan src : Nat) (trailer : Option (Nat × Nat)) : Chip × Bool :=
  let c1 := c.prpForget
  let c2 := c1.setNet (fun n => { n with nodes :=
    if (assoc n.nodes src).isSome || n.nodes.length < 512 then assocSet n.nodes src c.now else n.nodes })
  match trailer with
  | none => (c2, true)
  | some (q, named) =>
    let c3 := if named = lan then c2
      else c2.bumpByI slinkAt (if lan = 0 then SLink.wrong_lan_a else SLink.wrong_lan_b) 0 1
    match c3.net.window.find? (fun e => e.1 == src && e.2.1 == q) with
    | some _ =>
      ((c3.bump slinkAt SLink.dup_discarded).setNet (fun n => { n with window := n.window.map (fun e =>
        if e.1 = src && e.2.1 = q then (src, q, 2, e.2.2.2) else e) }), false)
    | none =>
      let mine := c3.net.window.filter (fun e => e.1 == src)
      let drop := if 128 ≤ mine.length then mine.head? else none
      ((c3.prpUnique drop.toList).setNet (fun n => { n with window :=
        (match drop with | some d => n.window.filter (· != d) | none => n.window) ++ [(src, q, lan, c.now)] }), true)

/-! ### Calendar (R440 to R443) -/

/-- Nanoseconds from the PTP epoch to the calendar's. -/
def ptpEpoch : Nat := 946684800 * 10 ^ 9

/-- The calendar in ns. -/
def Chip.calNs (c : Chip) : Nat := c.calFs / 10 ^ 6

/-- PTP instance p. -/
def Chip.ptp (c : Chip) (p : Nat) : PtpSt := nth {} c.net.ptp p

/-- Change PTP instance p. -/
def Chip.setPtp (c : Chip) (p : Nat) (f : PtpSt → PtpSt) : Chip := c.setNet (fun n => { n with ptp := upd n.ptp p f })

/-- Does a list of bytes rank strictly before another under the data set comparison? -/
def ranksBefore : List Nat → List Nat → Bool
  | a :: as, b :: bs => if a < b then true else if b < a then false else ranksBefore as bs
  | _, _ => false

/-- A record of source 15 with an offset in ns, saturating. -/
def Chip.calRecord (c : Chip) (what : Nat) (o : Int) : Chip :=
  c.record 15 0xFF 0 0 [what] [unsigned 32 (clampI (-(2 ^ 31)) (2 ^ 31 - 1) o)]

/-- The lock is lost (R441). -/
def Chip.calUnlock (c : Chip) (o : Int) : Chip :=
  if !c.net.locked then c.setNet (fun n => { n with goodRun := 0 })
  else
    (((c.setNet (fun n => { n with locked := false, goodRun := 0 })).put calAt Cal.lock_lost 1).put calAt Cal.source
      1).calRecord 3 o

/-- Follow instance p, or none: its master's identity, UTC offset and leap flags are reported (R440, R442). -/
def Chip.follow (c : Chip) (p : Option Nat) : Chip :=
  match p with
  | none => (c.put calAt Cal.ptp_port 0).calUnlock 0
  | some k =>
    let h := c.ptp k
    let gm := bytesAt (h.master.getD []) 6 8
    let leap := if h.leap61 then 1 else if h.leap59 then 2 else 0
    let c1 := (((c.put calAt Cal.ptp_port (k + 1)).put calAt Cal.utc_offset h.utc).putI calAt Cal.gm_identity 0
      (leNat (gm.take 4))).putI calAt Cal.gm_identity 1 (leNat (gm.drop 4))
    (((c1.put calAt Cal.path_delay h.delay).put calAt Cal.leap_pending (b2n (leap != 0)))).setNet (fun n => { n with
      leap := leap })

/-- Which instance the calendar follows after the masters have changed: the other one only if it ranks strictly better, or
the present one has no master; with none followed, the better, NA when they rank equally (R440). -/
def Chip.chooseMaster (c : Chip) : Chip :=
  let now := c.get calAt Cal.ptp_port
  let a := (c.ptp 0).master
  let b := (c.ptp 1).master
  let best : Option Nat := match a, b with
    | some x, some y => if now = 2 then (if ranksBefore x y then some 0 else some 1)
        else (if ranksBefore y x then some 1 else some 0)
    | some _, none => some 0
    | none, some _ => some 1
    | none, none => none
  match best with
  | some k => c.follow (some k)
  | none => if now = 0 then c else c.follow none

/-- A Sync of the followed instance with offset o in ns: a step beyond 1 ms, the servo otherwise, the lock (R441). The
servo's gains are left open: the correction is a free value within ±200 ppm (log entry 3). -/
def Chip.calSync (c : Chip) (o : Int) : Chip :=
  let c0 := c.put calAt Cal.offset (unsigned 32 (clampI (-(2 ^ 31)) (2 ^ 31 - 1) o))
  if 1000000 < o.natAbs then
    let c1 := c0.calUnlock o
    let c2 := { c1 with calFs := ((c1.calFs : Int) - o * 10 ^ 6).toNat }
    ((c2.bump calAt Cal.steps).put calAt Cal.step_seen 1).calRecord 1 o
  else
    let rate := clampI (-200000) 200000 (signed 32 c0.free)
    let c1 := (c0.put calAt Cal.rate_adj (unsigned 32 rate)).fresh
    if c1.net.locked then (if 100000 < o.natAbs then c1.calUnlock o else c1)
    else
      let n := if o.natAbs < 10000 then c1.net.goodRun + 1 else 0
      if 16 ≤ n then
        let c2 := ((c1.setNet (fun h => { h with locked := true, goodRun := n, everLocked := true })).put calAt Cal.source
          2).put supplyAt Supply.cal_valid (b2n (!c.clkLost 0 1))
        c2.calRecord 2 o
      else c1.setNet (fun h => { h with goodRun := n })

end Sys2Proof.Machine
end

