-- ==== Sys2Proof/Machine/EngineOps.lean ====
section
/-! DEFINITION. The block engine's shared operations: judging, queueing and applying online changes (R175 to R179, R538),
force edits (R169 to R174, R541), the stop of the engine (R167, R176), and the actions at a cycle boundary. -/

namespace Sys2Proof.Machine

/-- Change the engine beyond its registers. -/
def Chip.setEng (c : Chip) (f : EngSt → EngSt) : Chip := { c with eng := f c.eng }

/-! ### Aborting a survey or temper (R113) -/

/-- The target of the running survey command: its kind and index, if one runs (Table 4.9). -/
def Chip.svyTarget (c : Chip) : Option (Nat × Nat) :=
  if c.get surveyAt Survey.result = 1 then
    some (c.get surveyAt Survey.target / 256, c.get surveyAt Survey.target % 256) else none

/-- The subject of a survey record: kind and index (Table 5.6). -/
def svySubject (kind idx : Nat) : Nat := kind * 2 ^ 24 + idx

/-- The region of a survey target. -/
def svyRegion (kind idx : Nat) : Nat :=
  if kind = 0 then idx / 16 else if kind = 1 then idx / 2 else if kind = 2 || kind = 6 then idx
  else if kind = 3 then idx else 0xFF

/-- The region whose steward carries a target's action out, whose fence or supply step aborts it (Table 4.8): that of the target, region 0
for the panel and the chip, which lie in no region (DESIGN CHOICE, log entry 142). -/
def svyHost (kind idx : Nat) : Nat := if svyRegion kind idx < 8 then svyRegion kind idx else 0

/-- Channels a channel action holds: a three-wire or four-wire RTD pair is held together (R112). -/
def Chip.svyChans (c : Chip) (g : Nat) : List Nat := if c.claims g then [g, g + 1] else [g]

/-- Does the running action hold channel g? -/
def Chip.svyHolds (c : Chip) (g : Nat) : Bool := (c.chan g).tempering || (c.chan g).surveyed

/-- The running action ends with a result: every channel it holds is released; source 13 is recorded. -/
def Chip.svyEnd (c : Chip) (result off gain : Nat) : Chip :=
  match c.svyTarget with
  | none => c
  | some (kind, idx) =>
    let c1 := c.put surveyAt Survey.result result
    let c2 : Chip := if kind = 0 then c1.each ((List.range 128).filter c1.svyHolds) (fun c g =>
        (c.setChan g (fun h => { h with
          tempering := false, surveyed := false, rampAt := if h.ramp = 0 then h.rampAt else c.now })).putStatus g)
      else if kind = 2 then c1.setPort idx (fun p => { p with termOpen := none }) else c1
    c2.record 13 (svyRegion kind idx) (if result = 5 || result = 6 then 1 else 0) (svySubject kind idx)
      [c.sys.svyCmd, result] [off, gain]

/-- An event on a target aborts the action that runs on it. -/
def Chip.svyAbort (c : Chip) (kind idx : Nat) : Chip :=
  match c.svyTarget with
  | some (k, i) =>
    if k = kind && (i = idx || (kind = 0 && c.svyHolds idx)) then (c.svyEnd 5 0 0) else c
  | none => c

/-- An event in a region aborts the action that runs on a target of it (R113). -/
def Chip.svyAbortRegion (c : Chip) (r : Nat) : Chip :=
  match c.svyTarget with
  | some (k, i) => if svyHost k i = r then c.svyEnd 5 0 0 else c
  | none => c

/-! ### Judging an online change -/

/-- The invocation whose instance holds the word at an address, and the word's number in it. -/
def Chip.instOf (c : Chip) (a : Nat) : Option (Inv × Nat) :=
  let r := spaceOf a
  let w := a - instAt r 0
  (c.eng.prog.find? (fun i => i.region == r && decide (i.off ≤ w && w < i.off + i.len))).map (fun i => (i, w - i.off))

/-- Is the word online-changeable: an ONL field, a marked instance word, a flagged constant (R149, R150, R538)? -/
def Chip.isOnl (c : Chip) (a : Nat) : Bool :=
  if isInst a then match c.instOf a with
    | some (i, k) => decide (k < 32) && i.onl.testBit k
    | none => false
  else if isConst a then (nth (0, false) c.eng.consts ((a - 0x81000000) / 2)).2
  else (fieldsAt a).any (fun f => f.access == .onl)

/-- The bits of a word that an online change stores. -/
def onlMask (a : Nat) : Nat :=
  if isInst a || isConst a then 2 ^ 32 - 1
  else ((fieldsAt a).filter (fun f => f.access == .onl)).foldl (fun m f => m ||| f.mask) 0

/-- Would the value change an IMG field of the word (R538)? -/
def Chip.imgChanged (c : Chip) (a v : Nat) : Bool :=
  !isInst a && !isConst a &&
    (fieldsAt a).any (fun f => f.access == .img && f.of (BitVec.ofNat 32 v) != f.of (c.word a))

/-- Does the value set a reserved bit (R15)? -/
def reservedSet (a v : Nat) : Bool :=
  !isInst a && !isConst a &&
    (let m := (fieldsAt a).foldl (fun m f => m ||| f.mask) 0
     (v &&& (2 ^ 32 - 1 - m)) != 0)

/-- The requested mode of a channel as it stands once `v` stands in word `off`. -/
def modeWith (c : Chip) (g off v : Nat) : Nat := if off = 0 then v % 256 else c.get (chanAt g) Chan.mode

/-- Analogue and digital modes permitted on shared terminals (Tables 8.8 and 9.5). -/
def sharedMode (m : Nat) (tx : Bool) : Bool :=
  m == 0 || m == 1 || (m == 2 && !tx) || m == 4 || m == 6 || m == 7 || m == 11 || m == 9

/-- The rules of the channel chapters on one field of a word written: whether they refuse the value `v` of word `off`. Fields that other
words hold are kept, whatever the mode (R244): a channel of a safety function (R213), shared terminals (R237, R275), wiring and claims
(R212), sensor codes (R221, R223), NE 43 with range 0 (R219), comp_alarm (R233), safe_kind 2 (R229, R272). -/
def Chip.chanRefuses (c : Chip) (g off v : Nat) : Bool :=
  let b := chanAt g
  let m := modeWith c g off v
  let w1 := if off = 1 then v else c.nat (b + 1)
  let wiring := w1 / 2 ^ 16 % 4
  let sensor := w1 / 2 ^ 12 % 16
  let ne43 := w1 / 2 ^ 22 % 4
  ((c.chan g).safety && off != 0x19)
    || (off == 0 && c.shared g && !sharedMode m false)
    || (off ≤ 1 && c.shared g && m == 2 && w1.testBit 21)
    || (off ≤ 1 && m == 3 && wiring != 0 && (g % 2 == 1 || c.modeAsked (g + 1) != 0))
    || (off == 0 && m != 0 && g % 2 == 1 && c.claims (g - 1))
    || (off == 1 && m == 3 && decide (2 < sensor)) || (off == 1 && m == 4 && decide (7 < sensor))
    || (off == 6 && v % 4 == 2 && !(m == 6 && ne43 != 0))
    || (off == 1 && ne43 != 0 && !w1.testBit 0)
    || (off == 1 && w1.testBit 20 && !(m == 6 && ne43 == 1))

/-- The same rules on the content an image gives a channel: its words stand together (code 11). -/
def Chip.chanContentBad (c : Chip) (g : Nat) : Bool :=
  [0, 1, 6].any (fun off => c.chanRefuses g off (c.nat (chanAt g + off)))

/-- Reason 2 beyond the field tables: channels, axes without quiet drive (R325), counters (R502), parameter ranges of the
block catalogue. -/
def Chip.refusesValue (c : Chip) (a v : Nat) : Bool :=
  let s := spaceOf a
  let b := blockOf a
  let off := offOf a
  if isInst a then match c.instOf a with
    | some (i, k) => match blkOf i.code with
      | some (blk, _) => match paramRange blk k with
        | some (lo, hi) => !decide (lo ≤ v && v ≤ hi)
        | none => false
      | none => false
    | none => false
  else if s < 8 && 0x010 ≤ b && b ≤ 0x01F then c.chanRefuses (16 * s + (b - 0x010)) off v
  else if s < 8 && (b == 0x020 || b == 0x021) then
    c.get identAt Ident.quiet_drive == 0 && ((off == 0 && v.testBit 19) || ((off == 0x16 || off == 0x17) && v != 0))
  else if s < 8 && b == 0x070 && 0x10 ≤ off && off % 8 == 0 then selectRefused s v
  else false

/-- Does a word lie in the space of an absent or fenced region, where writes have no effect (R8, R48)? -/
def Chip.outOfReach (c : Chip) (a : Nat) : Bool :=
  decide (spaceOf a < 8) && (!c.fitted (spaceOf a) || c.regionClosed (spaceOf a))

/-- The reason an online change is refused for, 0 when it is not: the first of R176's list. A word of an absent or fenced region is no
ONL word of the module (DEDUCED, log entry 143). -/
def Chip.changeReason (c : Chip) (a v : Nat) : Nat :=
  if c.outOfReach a || !c.isOnl a || c.imgChanged a v then 1
  else if (!isInst a && !isConst a && (fieldsAt a).any (fun f =>
      f.access == .onl && !f.range.permits (f.of (BitVec.ofNat 32 v)))) || reservedSet a v || c.refusesValue a v then 2
  else if 64 ≤ c.eng.queue.length then 3
  else if c.shadow then 4
  else if c.get engineAt Engine.state != 1 then 5
  else 0

/-- The answers to a change: its PARWR's outcome or its session's status and cycle_count. -/
def Chip.changeDone (c : Chip) (q : QChange) (reason : Nat) : Chip :=
  let c1 := match q.prog with
    | some s => c.setOutcome s false (reason == 0) reason
    | none => c
  c1.answerTo q.session (statusWords (if reason = 0 then [0, c1.get engineAt Engine.cycle_count] else [0x10 + reason, 0]))

/-- Refuse a change (R176): the count, the last reason, the answers. -/
def Chip.refuseChange (c : Chip) (q : QChange) (reason : Nat) : Chip :=
  ((c.bump changeAt Change.refused).put changeAt Change.last_refusal reason).changeDone q reason

/-- A change arrives at the lead (R175, R176). -/
def Chip.submitChange (c : Chip) (q : QChange) : Chip :=
  let r := c.changeReason q.addr q.value
  if r != 0 then c.refuseChange q r
  else
    let c1 := c.setEng (fun e => { e with queue := e.queue ++ [q] })
    let c2 := c1.put changeAt Change.queued c1.eng.queue.length
    match q.prog with
    | some s => c2.setOutcome s true false 0
    | none => c2

/-! ### Applying -/

/-- A word with the bits that an online change may write replaced (R538). -/
def Chip.merged (c : Chip) (a v : Nat) : Nat :=
  let m := onlMask a
  (v &&& m) ||| (c.nat a &&& (2 ^ 32 - 1 - m))

/-- A change of word 0 or 1 of a loop's block: a write of auto is a request of its own, which ends that of start_auto (R291, R298); a new
period counts from the instant of a computation that is still queued (R301). -/
def Chip.loopEffect (c : Chip) (n off : Nat) : Chip :=
  if off = 0 then c.setLoop n (fun h => { h with startAuto := false })
  else if off = 1 then
    match (c.loop n).job with
    | some t =>
      if (c.slice (n / 32)).running.any (fun res => res.loop == n) then c
      else c.setLoop n (fun h => { h with nextAt := t + c.get (loopAt n) Loop.period })
    | none => c
  else c

/-- What a change of an ONL word begins at its boundary, beyond being read from there on (R177): mode changes (R211), loop
coefficients (R295), switch assignments, counter selects (R503), a counter gate (Table 9.6), safe values (R229). -/
def Chip.onlEffect (c : Chip) (a old : Nat) : Chip :=
  let s := spaceOf a
  let b := blockOf a
  let off := offOf a
  let new := c.nat a
  if s < 8 && 0x010 ≤ b && b ≤ 0x01F then
    let g := 16 * s + (b - 0x010)
    let cfg := 0x0723F001
    let oldMode := if off = 0 then old % 256 else c.get (chanAt g) Chan.mode
    if (off = 0 && old % 256 != new % 256) || (off = 1 && (old &&& cfg) != (new &&& cfg)) then
      (c.svyAbort 0 g).modeChange g oldMode
    else if off = 1 then
      (c.when (c.mode g == 2 && c.get (chanAt g) Chan.ne43 == 0) (·.ne43End g)).alarmSync g
    else if (off = 5 || off = 6) && (c.level2 g || c.afeGuard g) then c.resolve g
    else if off = 0x18 && old / 2 ^ 24 % 16 != new / 2 ^ 24 % 16 then
      c.setChan g (fun h => { h with winOpen := windowOpen (g % 16) (samplePeriod (old / 2 ^ 24 % 16)) c.now, gridAt := c.now })
    else if off = 0x1B && old % 2 ^ 24 != new % 2 ^ 24 then
      c.setChan g (fun h => { h with gateAt := c.now, gateLen := c.get (chanAt g) Dig.cnt_gate })
    else c
  else if s < 8 && 0x040 ≤ b && b ≤ 0x05F then
    match coefOfWord off with
    | some k =>
      let n := 32 * s + (b - 0x040)
      let c1 := c.setLoop n (fun h => { h with pend := if h.pend.contains k then h.pend else h.pend ++ [k] })
      c1.put (loopAt n) Loop.coef_pending (c1.loop n).pend.length
    | none => c.loopEffect (32 * s + (b - 0x040)) off
  else if s < 8 && (b = 0x020 || b = 0x021) && (off = 0 || off = 0x14) then
    -- a stage that idle_off holds off comes back once the fields no longer ask for it (R322, R326)
    let x := 2 * s + (b - 0x020)
    if (c.ax x).causes.testBit 5 && !(c.flag (axisAt x) Axis.idle_off && c.get (axisAt x) Axis.i_hold == 0) then
      c.stageCause x 5 false
    else c
  else if s < 8 && (b = 0x020 || b = 0x021) && off = 0x13 then c.axSwitches (2 * s + (b - 0x020))
  else if s < 8 && b = 0x070 && 0x10 ≤ off && off % 8 ≤ 2 then c.selectChanged s ((off - 0x10) / 8)
  else c

/-- Write a word by online change and begin what it begins. -/
def Chip.applyWord (c : Chip) (a v : Nat) : Chip :=
  let old := c.nat a
  let m := c.merged a v
  let c1 := (c.setNat a m).setEng (fun e => { e with changed := if e.changed.contains a then e.changed else a :: e.changed })
  ((c1.put changeAt Change.changed_words c1.eng.changed.length).onlEffect a old)

/-- Region of a parameter address in a record. -/
def regionOf (a : Nat) : Nat := if spaceOf a < 8 then spaceOf a else 0xFF

/-- A word written at a boundary joins what the mirror record carries, in order (R174, R178). -/
def Chip.noteBound (c : Chip) (ws : List (Nat × Nat)) : Chip := c.setEng (fun e => { e with bound := e.bound ++ ws })

/-- Apply one queued change at a boundary (R175, R178); a write of the program counts as program execution (R501). -/
def Chip.applyChange (c : Chip) (q : QChange) : Chip :=
  let c0 := (c.when q.prog.isSome (·.countWord q.addr true 0 0)).applyWord q.addr q.value
  let c1 := c0.noteBound [(q.addr, c0.nat q.addr)]
  let c2 := (((c1.bump changeAt Change.applied).put changeAt Change.last_addr q.addr).put changeAt Change.last_value
    (c1.nat q.addr)).put changeAt Change.last_cycle (c1.get engineAt Engine.cycle_count)
  (c2.record 94 (regionOf q.addr) 0 q.addr [1] [c1.nat q.addr]).changeDone q 0

/-- At most 16 changes at each boundary, in queue order (R175). -/
def Chip.applyQueue (c : Chip) : Chip :=
  let now := c.eng.queue.take 16
  let c1 := c.setEng (fun e => { e with queue := e.queue.drop 16 })
  let c2 := (c1.each now Chip.applyChange).put changeAt Change.applied_last now.length
  c2.put changeAt Change.queued c2.eng.queue.length

/-! ### Forces -/

/-- Entry i's four words. -/
def forceEntry (i : Nat) : Nat := forceAt + 0x100 + 4 * i

/-- The number of entries in force. -/
def Chip.forcesSync (c : Chip) : Chip :=
  c.put forceAt Force.active ((List.range 256).filter (fun i => c.forceKind i != 0)).length

/-- Write an entry. -/
def Chip.putForce (c : Chip) (i : Nat) (ws : List Nat) : Chip :=
  (List.range 4).foldl (fun c k => c.setNat (forceEntry i + k) (nth 0 ws k)) c

/-- The words of a force set as the table holds them: value_hi is 0 but for a CAL (Table 6.12). -/
def forceWordsOf (ws : List Nat) : List Nat :=
  let w := nth 0 ws 0
  [w, nth 0 ws 1, nth 0 ws 2, if w / 2 ^ 16 % 2 ^ 8 = tyCal then nth 0 ws 3 else 0]

/-- The words of entry i as a mirror record carries them: word 0, which tells a set from a release, last. -/
def Chip.noteForce (c : Chip) (i : Nat) : Chip :=
  c.noteBound ([1, 2, 3, 0].map (fun k => (forceEntry i + k, c.nat (forceEntry i + k))))

/-- One force edit takes effect at a boundary (R170, R174). -/
def Chip.applyEdit (c : Chip) (e : FEdit) : Chip :=
  let cyc := c.get engineAt Engine.cycle_count
  match e.words with
  | some ws =>
    (((c.putForce e.entry ws).noteForce e.entry).record 94 (nth 0 ws 0 / 2 ^ 8 % 2 ^ 8) 0 e.entry [2] [nth 0 ws 2, nth 0 ws 3]).answerTo e.session
      (statusWords [0, e.entry, cyc])
  | none =>
    let w := c.nat (forceEntry e.entry)
    let c1 := if w / 2 ^ 24 = 0 then c
      else ((c.putForce e.entry [0, 0, 0, 0]).noteForce e.entry).record 94 (w / 2 ^ 8 % 2 ^ 8) 0 e.entry [3] []
    c1.answerTo e.session (statusWords [0, cyc])

/-- Every waiting edit, in order of arrival; release_all is then done. -/
def Chip.applyEdits (c : Chip) : Chip :=
  let es := c.eng.edits
  let c1 := (c.setEng (fun e => { e with edits := [] })).each es Chip.applyEdit
  (if c1.get forceAt Force.result = 1 then c1.put forceAt Force.result 2 else c1).forcesSync

/-- Entries occupied now or by edits that wait. -/
def Chip.forceTaken (c : Chip) (i : Nat) : Bool :=
  c.forceKind i != 0 || c.eng.edits.any (fun e => e.entry == i && e.words.isSome)

/-- The words of entry i with the waiting edits. -/
def Chip.forceWords (c : Chip) (i : Nat) : List Nat :=
  c.eng.edits.foldl (fun ws e => if e.entry = i then e.words.getD [0, 0, 0, 0] else ws)
    ((List.range 4).map (fun k => c.nat (forceEntry i + k)))

/-- Does a force target exist, and with which type: status 0, or that of R541? Channel images and outputs take any of BOOL,
UINT32, REAL32 (R246, R247); bytes of a remote image any type that fits. A channel target whose index is not 0 (Table 6.12) does not
exist (DESIGN CHOICE, log entry 119). -/
def Chip.forceTarget (c : Chip) (kind ty r sub idx : Nat) : Nat :=
  if 8 ≤ r || !c.fitted r then accAbsent
  else if c.regionClosed r then accFenced
  else if kind = 0 || 5 < kind || 7 < ty then accNone
  else if kind ≤ 2 then
    if 15 < sub || idx != 0 || !([tyBool, tyUint32, tyReal].contains ty) then accNone else 0
  else if kind = 3 then
    match c.inv idx with
    | some i => if i.region = r && decide (sub < i.sig.outs.length) && nth 99 i.sig.outs sub == ty then 0 else accNone
    | none => accNone
  else
    match (c.port r).stas.find? (fun s => s.station == sub) with
    | some s =>
      let n := if kind = 4 then s.inLen else (s.outs.map (fun f => f.off + f.len)).foldl max 0
      if idx + tyBytes ty ≤ n then 0 else accNone
    | none => accNone

/-- The refusal of a force set after its target: already forced, table full, safety channel, not holder (R169). Words of a remote
image that share a byte are one target. -/
def Chip.forceRefusal (c : Chip) (kind ty r sub idx : Nat) : Nat :=
  let same (i : Nat) : Bool :=
    let w := nth 0 (c.forceWords i) 0
    let j := nth 0 (c.forceWords i) 1
    w / 2 ^ 24 == kind && w / 2 ^ 8 % 2 ^ 8 == r && w % 2 ^ 8 == sub
      && (if kind ≤ 3 then j == idx else decide (j < idx + tyBytes ty && idx < j + tyBytes (w / 2 ^ 16 % 2 ^ 8)))
  if (List.range 256).any same then 0x21
  else if (List.range 256).all c.forceTaken then 0x22
  else if kind ≤ 2 && (c.chan (16 * r + sub)).safety then 0x23
  else if !c.holder then 0x24
  else 0

/-- A force set arrives (R169, R541): its status when it is refused, or it waits for the boundary. Where the engine does not run it is
answered as R176 answers one that waited (DESIGN CHOICE, log entry 120). -/
def Chip.forceSet (c : Chip) (ws : List Nat) (asked : Option AskedBy) : Chip :=
  let w := nth 0 ws 0
  let kind := w / 2 ^ 24 % 2 ^ 8
  let ty := w / 2 ^ 16 % 2 ^ 8
  let r := w / 2 ^ 8 % 2 ^ 8
  let sub := w % 2 ^ 8
  let st := c.forceTarget kind ty r sub (nth 0 ws 1)
  let st2 := if st != 0 then st else c.forceRefusal kind ty r sub (nth 0 ws 1)
  let st3 := if st2 != 0 then st2 else if c.get engineAt Engine.state != 1 then 6 else 0
  if st3 != 0 then c.answerTo asked (statusWords [st3, 0, 0])
  else match (List.range 256).find? (fun i => !c.forceTaken i) with
    | some i => c.setEng (fun e => { e with edits := e.edits ++ [{ entry := i, words := some (forceWordsOf ws), session := asked }] })
    | none => c.answerTo asked (statusWords [0x22, 0, 0])

/-- A force release arrives (R541); that the holder alone releases is judged before an empty entry is (DESIGN CHOICE, log entry 121), and
the release of an occupied entry is refused while the engine does not run (DESIGN CHOICE, log entry 120). -/
def Chip.forceRelease (c : Chip) (i : Nat) (asked : Option AskedBy) : Chip :=
  let cyc := c.get engineAt Engine.cycle_count
  if 256 ≤ i then c.answerTo asked (statusWords [accNone, 0])
  else if !c.holder then c.answerTo asked (statusWords [0x24, 0])
  else if !c.forceTaken i then c.answerTo asked (statusWords [0, cyc])
  else if c.get engineAt Engine.state != 1 then c.answerTo asked (statusWords [6, 0])
  else c.setEng (fun e => { e with edits := e.edits ++ [{ entry := i, words := none, session := asked }] })

/-- The release_all command (R181): refused in a shadow, and while the engine does not run (DESIGN CHOICE, log entry 120). -/
def Chip.cmdReleaseAll (c : Chip) : Chip :=
  if c.get forceAt Force.result = 1 then c
  else if !c.holder || c.get engineAt Engine.state != 1 then c.put forceAt Force.result 3
  else
    let more : List FEdit := ((List.range 256).filter c.forceTaken).map (fun i => ⟨i, none, none⟩)
    (c.put forceAt Force.result 1).setEng (fun e => { e with edits := e.edits ++ more })

/-- clear_stats of the engine block (R180). -/
def Chip.cmdClearStats (c : Chip) : Chip :=
  ((c.put engineAt Engine.cycle_max 0).put engineAt Engine.cycle_min 0xFFFFFFFF).put engineAt Engine.result 2

/-! ### Stopping -/

/-- Waiting changes and force edits are dropped when the engine stops (R176). -/
def Chip.dropPending (c : Chip) : Chip :=
  let qs := c.eng.queue
  let es := c.eng.edits
  let c1 := (c.setEng (fun e => { e with queue := [], edits := [] })).put changeAt Change.queued 0
  let c2 := c1.each qs (fun c q => c.refuseChange q 5)
  let c3 := c2.each es (fun c e => c.answerTo e.session (statusWords (if e.words.isSome then [6, 0, 0] else [6, 0])))
  if c3.get forceAt Force.result = 1 then c3.put forceAt Force.result 3 else c3

/-- Waiting changes and force edits of a holder that becomes a shadow: refused as in any shadow (R169, R176; DESIGN CHOICE, log entry
78). -/
def Chip.dropToShadow (c : Chip) : Chip :=
  let qs := c.eng.queue
  let es := c.eng.edits
  let c1 := (c.setEng (fun e => { e with queue := [], edits := [] })).put changeAt Change.queued 0
  let c2 := c1.each qs (fun c q => c.refuseChange q 4)
  let c3 := c2.each es (fun c e => c.answerTo e.session (statusWords (if e.words.isSome then [0x24, 0, 0] else [0x24, 0])))
  if c3.get forceAt Force.result = 1 then c3.put forceAt Force.result 3 else c3

/-- The block engine stops in a state of Table 6.10: execution is abandoned, nothing more is committed or written. Pending
requests to send are cancelled, but not by a power fail
(R167, R399, Table 14.6). -/
def Chip.haltEngine (c : Chip) (state : Nat) : Chip :=
  if c.get engineAt Engine.state != 1 then c
  else
    let c1 := ((c.put engineAt Engine.state state).setEng (fun e => { e with phase := 0, reqs := [] })).dropPending
    if state = 4 then c1 else c1.each (List.range 8) Chip.cancelSends

/-- Level 2 begins at every non-safety output of the module. -/
def Chip.allSafe (c : Chip) : Chip :=
  c.each ((List.range 128).filter (fun g => c.fitted (g / 16))) (fun c g =>
    if (c.chan g).safety || !outMode (c.mode g) then c else c.beginLevel2 g)

/-- Stop the slices of every fitted region for a cause of source 61. -/
def Chip.stopSlices (c : Chip) (cause : Nat) : Chip := c.each c.regions (fun c r => c.stopSlice r cause)

/-- Every axis stops with its stop deceleration, its stage then off (R50, Table 6.7). -/
def Chip.axesStop (c : Chip) : Chip := c.each ((List.range 16).filter c.axUsed) (fun c x => c.axLevel2 x)

end Sys2Proof.Machine
end

