-- ==== Sys2Proof/Machine/Isle.lean ====
section
/-! DEFINITION. The commands of the safety island (R336 to R373) and the block SFST. -/

namespace Sys2Proof.Machine

/-- What a slice does when its partner's messages fail: cause 6 after two cycles without one, cause 7 when the partner
reports itself stopped. -/
def Chip.partnerCheck (c : Chip) (r : Nat) : Chip :=
  let h := c.isle r
  let q := mate r
  if c.flag (isleAt q) Isle.latched && !c.clkLost q 7 then c.stopIsle r 7
  else if h.fresh then c.setIsle r (fun h => { h with fresh := false, miss := 0 })
  else if 1 ≤ h.miss then c.stopIsle r 6
  else (c.setIsle r (fun h => { h with miss := h.miss + 1 })).put (isleAt r) Isle.xlink_ok 0

/-- Has a slice come to a time of its schedule, in µs of its own clock, which may run 1 % fast before R58 declares it lost (log entry
129)? -/
def Chip.isleTime (c : Chip) (r us : Nat) : Bool := decide (99 * us ≤ 100 * (c.now - (c.isle r).cycleAt))

/-- SAFETY_CYCLE: every 500 µs slice r takes its inputs, checks its partner and its connections, evaluates its functions,
and the even slice forms the pair's safety frames (R336, R359). -/
def execSafetyCycle (r : Fin 8) (s : State) : Out :=
  chipOnly s (fun c =>
    if !c.isleRuns r.val || !c.isleTime r.val 500 then c
    else
      let b := isleAt r.val
      let c1 := ((c.put b Isle.cycles ((c.get b Isle.cycles + 1) % 2 ^ 32)).setIsle r.val (fun h => { h with
        cycleAt := c.now, outDone := false, msgDone := false })).partnerCheck r.val
      if !c1.isleRuns r.val then c1
      else
        let mine := c.safe.conns.filter (fun k =>
          !k.produce && c.ownsSafe k.owner && (c.fnsOf r.val).any (fun f => f.connSrc == k.index))
        let c2 := c1.each mine (fun c k => c.connCycle r.val k)
        let c3 := c2.each (c2.fnsOf r.val) (fun c f => c.evalFn r.val f)
        if r.val % 2 = 0 then c3.each c3.safe.conns (fun c k => c.produce r.val k) else c3)

/-- SAFETY_OUTPUT_SET: at offset 400 µs slice r sets its switches and cut masks (R336, R346, R355). -/
def execSafetyOutputSet (r : Fin 8) (s : State) : Out :=
  chipOnly s (fun c =>
    if !c.isleRuns r.val || (c.isle r.val).outDone || !c.isleTime r.val 400 then c
    else ((c.setSafeOuts r.val).applyCuts r.val).setIsle r.val (fun h => { h with outDone := true }))

/-- SLICE_MESSAGE_SEND: at offset 450 µs slice r sends its filtered inputs, its states and its cycle count (R337). -/
def execSliceMessageSend (r : Fin 8) (s : State) : Out :=
  chipOnly s (fun c =>
    if !c.isleRuns r.val || (c.isle r.val).msgDone || !c.isleTime r.val 450 then c
    else
      c.setIsle r.val (fun h => { h with out := some (c.isleMsg r.val), msgDone := true }))

/-- The clock comparison of R339: the slice stops when the two counts have drifted apart by more than one cycle over any 1,000 of its own
cycles. -/
def Chip.clockCompare (c : Chip) (r theirs : Nat) : Chip :=
  let own := c.get (isleAt r) Isle.cycles
  let d := signed 32 (tickDiff theirs own)
  let h := (c.isle r).drift
  let late (e : Nat × Int) : Bool := decide (tickDiff own e.1 < 1000)
  let kept := h.takeWhile late ++ (h.dropWhile late).take 1
  if kept.any (fun e => decide (1 < (d - e.2).natAbs)) then c.stopIsle r 1
  else c.setIsle r (fun h => { h with drift := if kept.head?.map (·.2) = some d then kept else (own, d) :: kept })

/-- SLICE_MESSAGE_RECEIVE: the partner's message reaches slice r, which compares states (R338) and clocks (R339). -/
def execSliceMessageReceive (r : Fin 8) (s : State) : Out :=
  chipOnly s (fun c =>
    let b := isleAt r.val
    match c.isleRuns r.val, (c.isle (mate r.val)).out with
    | true, some m =>
      let c1 := ((c.setIsle (mate r.val) (fun h => { h with out := none })).setIsle r.val (fun h => { h with
        msg := some m, fresh := true })).put b Isle.xlink_ok 1
      let differ := (c.fnsOf r.val).any (fun f => c.sfState r.val f.j != nth 0 m.states f.j)
      let run := if differ then (c.isle r.val).differ + 1 else 0
      let c2 := (c1.when differ (·.bump b Isle.xcmp_diff)).setIsle r.val (fun h => { h with differ := run })
      if 3 ≤ run then c2.stopIsle r.val 3 else c2.clockCompare r.val m.cycles
    | _, _ => c)

/-- SLICE_STOPPED: slice r stops with a cause of Table 12.1 (R340). -/
def execSliceStopped (r : Fin 8) (cause : Fin 9) (s : State) : Out :=
  chipOnly s (fun c => if cause.val = 0 then c else c.stopIsle r.val cause.val)

/-- The function that sets the filter and threshold of a Safe-DI: the first that names it. -/
def Chip.fnOfDi (c : Chip) (g : Nat) : Option FnCfg := (c.fnsOf (g / 16)).find? (fun f => f.inCh.contains g)

/-- Does slice r sample its inputs: while it runs, and in the start test that a restart command began (R341, R343)? -/
def Chip.isleSamples (c : Chip) (r : Nat) : Bool := c.isleRuns r || (c.get (isleAt r) Isle.result == 1 && !c.isleHeld r)

/-- SAFE_DI_SAMPLE: every 125 µs of the slice's clock it samples a Safe-DI, in mV, and passes a change once every sample for t_f has read
the new level (R343, R344; log entry 129). -/
def execSafeDiSample (g : Fin 128) (millivolts : BitVec 16) (s : State) : Out :=
  chipOnly s (fun c =>
    let r := g.val / 16
    match c.isleSamples r, c.fnOfDi g.val, (c.isle r).ins.find? (fun i => i.g == g.val) with
    | true, some f, some d =>
      if 100 * (c.now - d.sampledAt) < 99 * 125 then c
      else
      let level := decide ((if f.flags.testBit 3 then 8000 else 10000) ≤ millivolts.toInt)
      let n := if level == d.level then 0 else d.count + 1
      let pass := decide (f.tF ≤ n)
      let d' : SafeDi := if pass then { d with level := level, count := 0, since := c.now, sampledAt := c.now }
        else { d with count := n, sampledAt := c.now }
      let c1 := c.setIsle r (fun h => { h with ins := h.ins.map (fun i => if i.g = g.val then d' else i) })
      (c1.setChan g.val (fun h => { h with base := 1 })).setImage g.val (b2n d'.level)
    | _, _, _ => c)

/-- DISCREPANCY_TIMEOUT: a disagreement has lasted t_disc in the eyes of slice r, so the function enters state 5 (R351). -/
def execDiscrepancyTimeout (r : Fin 8) (sf : Fin 32) (s : State) : Out :=
  chipOnly s (fun c =>
    match c.isleRuns r.val, (c.fnsOf r.val).find? (fun f => f.sf == sf.val) with
    | true, some f =>
      let st := c.sfState r.val f.j
      let late := c.discLate r.val f
      if (st == 2 || st == 3 || st == 4) && !late.isEmpty then
        (c.setFnSt r.val f.j (fun h => { h with in5 := late })).goFn r.val f 5 3 (nth 0 late 0)
      else c
    | _, _ => c)

/-- OUTPUT_TEST_START: a test of Table 12.4 begins on a safe output. In state 4 each switch opens alone, the DO-sink at
least 10 ms after the high-side switch; else the high-side switch closes alone. -/
def execOutputTestStart (sf : Fin 32) (sink : Bool) (s : State) : Out :=
  chipOnly s (fun c =>
    match c.safe.fns.find? (fun f => f.sf == sf.val) with
    | none => c
    | some f =>
      let h := c.sfSt sf.val
      let r := f.base + f.outHs % 2
      let run := c.sfState r f.j == 4
      let due := if sink then h.sinkDue && decide (h.pulseAt + 10000 ≤ c.now)
        else decide (h.testAt + 100000 * f.tTest ≤ c.now)
      if f.outCc = 0xFF || !c.ownsSafe f.owner || !c.isleRuns f.base || !c.isleRuns (f.base + 1) || c.phase != 8
          || h.test.isSome || !due || (sink && !run) then c
      else
        let g := if sink then f.ls else f.hs
        let test := if run then 3 else 2
        let c1 := c.setSf sf.val (fun h => { h with
          test := some (sink, test, c.now)
          testAt := if sink then h.testAt else c.now
          pulseAt := c.now
          sinkDue := !sink && run })
        c1.setChan g (fun x => { x with closed := !run && c.switchFree g }))

/-- OUTPUT_TEST_END: 300 µs later the test is judged by the current in 0.1 mA (R348). A test of a slice that has stopped is
not judged: it has ended with the stop. -/
def execOutputTestEnd (sf : Fin 32) (tenthMa : BitVec 16) (s : State) : Out :=
  chipOnly s (fun c =>
    match c.safe.fns.find? (fun f => f.sf == sf.val), (c.sfSt sf.val).test with
    | some f, some (sink, test, t0) =>
      if c.now < t0 + 300 then c
      else
        let g := if sink then f.ls else f.hs
        let bad := if test = 2 then decide (50 < tenthMa.toNat) else decide (50 ≤ tenthMa.toNat)
        let c1 := (c.put (chanAt g) Dig.load tenthMa.toNat).setSf sf.val (fun h => { h with test := none })
        let c2 := c1.when bad (·.failTest f (test == 2 || sink) test (tenthMa.toNat / 10))
        c2.setSafeOut (g / 16) f
    | _, _ => c)

/-- START_TEST_DONE: the start test of the pair of regions 2k and 2k + 1 ends (R341): both slices start, or stay stopped
with cause 2. A cause of Table 12.1 that persists fails the test. -/
def execStartTestDone (k : Fin 4) (okEven okOdd : Bool) (s : State) : Out :=
  chipOnly s (fun c =>
    let e := 2 * k.val
    let o := e + 1
    let asked := c.get (isleAt e) Isle.result == 1 || c.get (isleAt o) Isle.result == 1
    let fresh := !c.isleRuns e && !c.isleRuns o && !c.flag (isleAt e) Isle.latched && !c.flag (isleAt o) Isle.latched
    if !c.fitted e || !c.fitted o || c.phase < 3 || !(asked || fresh) then c
    else
      let good (r : Nat) (ok : Bool) : Bool := ok && !c.isleHeld r
      if good e okEven && good o okOdd then
        let c1 := ((c.startIsle e).startIsle o).enterPair e
        c1.when asked (fun c => ((c.put (isleAt e) Isle.result 2).put (isleAt o) Isle.result 2))
      else
        let fail (c : Chip) (r : Nat) (ok : Bool) : Chip :=
          let cause := if good r ok then 7 else 2
          let c1 := c.latchIsle r cause
          if asked then c1.put (isleAt r) Isle.result 4 else c1
        fail (fail c e okEven) o okOdd)

/-- The restart command of a slice block (R373). -/
def Chip.cmdIsleRestart (c : Chip) (r : Nat) : Chip :=
  if !c.opens r then c else
  let e := r / 2 * 2
  let o := e + 1
  let b := isleAt r
  if c.get b Isle.result = 1 then c
  else
    let c1 := if c.isleRuns e && c.isleRuns o then (c.stopIsle e 8).stopIsle o 8 else c
    ((c1.put (isleAt e) Isle.result 1).put (isleAt o) Isle.result 1).put b Isle.last_cmd 0

/-- The clear_counts command of a slice block (R372). -/
def Chip.cmdIsleClear (c : Chip) (r : Nat) : Chip :=
  if !c.opens r then c else
  let b := isleAt r
  if c.get b Isle.result = 1 then c
  else
    let c1 := c.each (List.range 8) (fun c j => (c.putI b Isle.trips j 0).putI b Isle.discs j 0)
    let c2 := ((((c1.put b Isle.xcmp_diff 0).put b Isle.crc_errors 0).put b Isle.seq_errors 0).put b
      Isle.timeouts 0).put b Isle.jitter_errors 0
    (c2.put b Isle.last_cmd 1).put b Isle.result 2

/-- SLICE_RESTART: accepted only from a safety-engineer session (R373). -/
def execSliceRestart (session : Fin 16) (r : Fin 8) (s : State) : Out :=
  chipOnly s (fun c => if c.roleIn session.val [3] then c.cmdIsleRestart r.val else c)

/-- CLEAR_COUNTS: the clear_counts command of a slice block. -/
def execClearCounts (r : Fin 8) (s : State) : Out := chipOnly s (fun c => c.cmdIsleClear r.val)

/-- State and disc of a function as a module reports them (R206, R368): its own slice's, or the owner's as the pair lanes
brought them. -/
def Chip.sfReport (c : Chip) (sf : Nat) : Nat × Bool :=
  match c.safe.fns.find? (fun f => f.sf == sf) with
  | none => (0, false)
  | some f =>
    if c.ownsSafe f.owner then (c.sfState f.base f.j, c.getI (isleAt f.base) Isle.disc f.j != 0)
    else ((nth {} c.safe.sfs sf).partner).getD (1, false)

/-- SFST: a safety function's state as latched. -/
def execRunSfst (seq : Fin 65536) (s : State) : Out :=
  chipOnly s (fun c => c.invokeWith .sfst seq.val
    (fun c _ x =>
      let (st, disc) := nth (0, false) c.eng.sfLatched (x.p 0)
      outsOnly [st, b2n (st == 4), b2n disc, b2n (st == 3)])
    (fun c _ _ => c))

end Sys2Proof.Machine
end

