-- ==== Sys2Proof/Machine/Panel.lean ====
section
/-! DEFINITION. The commands of the panel port (R476 to R498) and the blocks PFIELD, PBLINK, PPAGE and PSTAT. -/

namespace Sys2Proof.Machine

/-- PANEL_START: a triggered start reads the ID memory, empty when the panel does not answer, and judges it (R478,
Table 17.4). A module that may not drive, or whose panel is out of service, does not start; a running waveform ends first (R486; DESIGN
CHOICE, log entry 153). -/
def execPanelStart (mem : List Byte) (s : State) : Out :=
  chipOnly s (fun c =>
    let bs := mem.map (·.toNat)
    if !c.panel.want || c.panel.quench.isSome || c.waveRuns then c
    else if !c.mayDrive then c.panelYield
    else if !c.panelFit then c
    else
      let id := numAt bs 0 4
      let c1 := (c.put panelAt Panel.identity id).put panelAt Panel.kind_now (id / 2 ^ 28)
      match c.judgePanel bs with
      | none =>
        let c2 := ((((c1.panelState 5).nOn nMismatch).nOff nQuenched).put panelAt Panel.rails_ok 0).record 90 0xFF 2 0 [1] [id]
        (c2.setPanel (fun p => { p with want := false, use := none, pnlEn := false, blEn := false })).panelDone
      | some u =>
        (((c1.panelState 1).nOff nMismatch).nOff nQuenched).setPanel (fun p => { p with
          want := false, blEn := false, use := some u, frames := 0, target := none, shown := none, retryAt := 0
          rails := (List.range 4).map (fun k => signed 16 (numAt bs (12 + 2 * k) 2))
          sensor := (numAt bs 20 1).testBit 0, vcom := numAt bs 21 1 }))

/-- PNL_EN_ASSERT: step 2 of Table 17.4, retried after 10 s. On a panel that the module drives already PNL_EN is asserted, and the rails
are awaited as they stand. -/
def execPnlEnAssert (s : State) : Out :=
  chipOnly s (fun c =>
    let p := c.panel
    if p.use.isNone || (p.pnlEn && c.get panelAt Panel.state != 1) || c.now < p.retryAt || !([1, 7].contains (c.get panelAt Panel.state))
        || !c.mayDrive || !c.panelFit then c
    else (c.panelState 7).setPanel (fun p => { p with pnlEn := true, pnlAt := c.now }))

/-- RAILS_QUALIFIED: every used rail has stayed inside its window for 100 ms (`ok`), or has not within 1 s: then the rail
and its mV are recorded and step 2 is retried in 10 s (Table 17.4). -/
def execRailsQualified (ok : Bool) (rail : Fin 4) (millivolts : BitVec 16) (s : State) : Out :=
  chipOnly s (fun c =>
    let p := c.panel
    if c.get panelAt Panel.state != 7 || !p.pnlEn then c
    else if ok then
      if c.now < p.pnlAt + 100000 then c
      else
        let kind := (p.use.map (·.kind)).getD 0
        let c1 := (c.put panelAt Panel.rails_ok 1).nOff nRail
        if kind = 1 then ((c1.panelState 2).panelDone).setPanel (fun p => { p with frames := 0 })
        else (((c1.panelState 4).put panelAt Panel.ep_busy 1).put panelAt Panel.band_used (c.get panelAt Panel.band_now)).setPanel
          (fun p => { p with
            updAt := c.now, frameAt := c.now, clearEntry := if c.flag panelAt Panel.dirty || p.asDirty then 257 else 256 })
    else if c.now < p.pnlAt + 1000000 then c
    else
      (((c.nOn nRail).put panelAt Panel.rails_ok 0).record 90 0xFF 2 0 [2, rail.val + 1] [unsigned 32 millivolts.toInt]).setPanel (fun p => { p with
        pnlEn := false, retryAt := c.now + 10000000 }))

/-- CLEAR_WAVEFORM_END: the frames of the clearing waveform have run; it ends with every level white; a dirty mark is erased (Table 17.4, step 5). -/
def execClearWaveformEnd (s : State) : Out :=
  let c := s.chip
  if c.get panelAt Panel.state != 4 || c.panel.quench.isSome
      || decide (c.now < c.panel.updAt + c.entryFrames c.band c.panel.clearEntry * c.frameTicks) then .next s
  else
    let dirty := c.flag panelAt Panel.dirty
    let c1 := ((c.panelState 2).put panelAt Panel.ep_busy 0).setPanel (fun p => { p with shown := none, asDirty := false })
    let c2 := c1.when dirty (fun c => ((c.put panelAt Panel.dirty 0).nOn nCleared).record 91 0xFF 0 0
      [2, c.get panelAt Panel.band_used, c.get panelAt Panel.band_now] [])
    .next { s with chip := c2.panelDone
                   flash := { s.flash with retained := { s.flash.retained with dirty := false } } }

/-- FRAME_START: a frame begins, a frame's length after the last. A module that must not drive any more stops here; a kind 1 frame shows
the values held at its first active line and takes the backlight duty, and the backlight comes on after two frames (R484, R492). Tongs
that have been reset hand over no new picture (R70). -/
def execFrameStart (s : State) : Out :=
  chipOnly s (fun c =>
    let p := c.panel
    let runs := [2, 4].contains (c.get panelAt Panel.state)
    if !c.driving || (runs && p.frames != 0 && decide (c.now < p.frameAt + c.frameTicks)) then c
    else if !c.mayDrive then c.panelRelease
    else if !runs then c
    else if c.clkLost 0 6 then c.tongsRefuse 0 6
    else
      let lcd := (p.use.map (·.kind)) == some 1
      let pic := c.picture
      (c.when lcd (·.emit (.column 1 pic))).setPanel (fun p => { p with
        frames := p.frames + 1, frameAt := c.now, dim := c.get panelAt Panel.dim
        blEn := p.blEn || (lcd && decide (2 ≤ p.frames))
        shown := if lcd && !c.tongsWait (tongsKey 0 6 13) then some pic else p.shown }))

/-- UPDATE_START: an electrophoretic update starts at a frame boundary when something has changed (R485, R487); a deep clear
asked for comes first. -/
def execUpdateStart (s : State) : Out :=
  chipOnly s (fun c =>
    let p := c.panel
    let pic := c.picture
    if (p.use.map (·.kind)) != some 2 || c.get panelAt Panel.state != 2 || !c.driving || p.target.isSome || c.tongsWait (tongsKey 0 6 13)
        || (p.shown == some pic && !p.deep) then c
    else if !c.mayDrive then c.panelRelease
    else if c.clkLost 0 6 then c.tongsRefuse 0 6
    else
      let c1 := (c.put panelAt Panel.band_used (c.get panelAt Panel.band_now)).put panelAt Panel.ep_busy 1
      (c1.emit (.column 2 pic)).setPanel (fun p => { p with
        target := some pic, updAt := c.now, frameAt := c.now, deep := false, deepNow := p.deep
        shown := if p.deep then none else p.shown }))

/-- UPDATE_END: the longest waveform that the update uses has ended and the displayed levels become the targets (R485). -/
def execUpdateEnd (s : State) : Out :=
  chipOnly s (fun c =>
    match c.panel.target with
    | none => c
    | some t =>
      if c.panel.quench.isSome || c.now < c.panel.updAt + c.updateFrames * c.frameTicks then c
      else
        let c1 := (c.updateOver.when (c.phase == 8) (·.bump panelAt Panel.updates)).put panelAt Panel.update_ms
          (min ((c.now - c.panel.updAt) / 1000) 0xFFFF)
        c1.setPanel (fun p => { p with shown := some t, target := none, deepNow := false }))

/-- RAIL_FAULT: a rail in use has stayed outside its window for 100 µs while the module drives (R488). Before the rails have come up
Table 17.4 judges them (DEDUCED, log entry 153). -/
def execRailFault (rail : Fin 4) (millivolts : BitVec 16) (s : State) : Out :=
  let p := s.chip.panel
  if !s.chip.driving || !s.chip.flag panelAt Panel.rails_ok || !p.usedRails.contains rail.val || inWindow (nth 0 p.rails rail.val) millivolts.toInt then .next s
  else .next ((s.onChip (fun c => ((c.nOn nRail).put panelAt Panel.rails_ok 0).record 90 0xFF 2 0 [2, rail.val + 1]
    [unsigned 32 millivolts.toInt])).startQuench 2)

/-- QUENCH: one of the triggers of R495, numbered in its order. -/
def execQuench (trigger : Fin 8) (s : State) : Out := .next (if trigger.val = 0 then s else s.startQuench trigger.val)

/-- QUENCH_FRAME_END: step 3 of Table 17.5: lines grounded, PNL_EN falls; a running waveform first continues to the end of the frame in
which the quench began. -/
def execQuenchFrameEnd (s : State) : Out :=
  chipOnly s (fun c =>
    let p := c.panel
    let n := max 1 c.frameTicks
    let frameEnd := p.updAt + ((p.quenchAt - p.updAt) / n + 1) * n
    if p.quench.isNone || (c.waveRuns && decide (c.now < frameEnd)) then c
    else
      let epd := (p.use.map (·.kind)) == some 2
      (c.updateOver.put panelAt Panel.rails_ok 0).setPanel (fun p => { p with
        pnlEn := false, target := none, deepNow := false, shown := if epd then p.shown else none }))

/-- QUENCH_COMPLETE: PNL_EN has fallen and every output is low; the restart command goes on to a panel start (R495). -/
def execQuenchComplete (s : State) : Out :=
  chipOnly s (fun c =>
    match c.panel.quench with
    | none => c
    | some t =>
      if c.panel.pnlEn then c
      else
      let c1 := (((c.panelState 3).nOn nQuenched).when (c.phase == 8) (·.bump panelAt Panel.quenches)).record 90 0xFF 2 0 [3, t]
        [c.get panelAt Panel.identity]
      (if t = 7 then c1 else c1.panelCut).setPanel (fun p => { p with quench := none, lastQuench := t, pnlEn := false, target := none, want := t == 7 }))

/-- RAIL_RETURN: the rails are back after a rail quench (R494). -/
def execRailReturn (s : State) : Out :=
  chipOnly s (fun c =>
    if c.get panelAt Panel.state = 3 && c.panel.lastQuench = 2 then (c.nOff nRail).wantPanel else c)

/-- PANEL_TEMP_READ: every 1 s the temperature is read; without a sensor, or after three failed reads, bp_temp serves
(R487). -/
def execPanelTempRead (ok : Bool) (temp : BitVec 16) (rails : List (BitVec 16)) (s : State) : Out :=
  chipOnly s (fun c =>
    let p := c.panel
    if (match p.tempAt with
      | some t => decide (c.now < t + 1000000)
      | none => false) then c
    else
    let fails := if ok && p.sensor then 0 else p.tempFails + 1
    let fall := !p.sensor || decide (3 ≤ fails)
    let t : Int := if fall then c.getS supplyAt Supply.bp_temp + c.getS panelAt Panel.temp_offset
      else if ok then temp.toInt else c.getS panelAt Panel.panel_temp
    let band := c.bandOf t
    let old := c.get panelAt Panel.band_now
    let mv (k : Nat) : Nat := (nth 0 rails k).toNat
    let c1 := (c.putS panelAt Panel.panel_temp t).put panelAt Panel.band_now band
    let c2 := if !ok then c1 else (((c1.put panelAt Panel.rail1_mv (mv 0)).put panelAt Panel.rail2_mv (mv 1)).put panelAt Panel.rail3_mv
      (mv 2)).put panelAt Panel.rail4_mv (mv 3)
    let c3 := (if fall then c2.nOn nFallback else c2.nOff nFallback).setPanel (fun p => { p with tempFails := fails, tempAt := some c.now })
    if p.target.isSome && band != old && band != c.get panelAt Panel.band_used then
      (c3.nOn nHeld).record 91 0xFF 0 0 [1, c.get panelAt Panel.band_used, band] []
    else c3)

/-- BLINK_TOGGLE: a half-period of a rectangle ends (R490). -/
def execBlinkToggle (i : Fin 8) (s : State) : Out :=
  chipOnly s (fun c =>
    let b := nth {} c.panel.blink i.val
    if !b.en || c.now < b.nextAt then c
    else
      let c1 := c.putBit panelAt Panel.blink_fill i.val (!c.getBit panelAt Panel.blink_fill i.val)
      let c2 := c1.setPanel (fun p => { p with blink := upd p.blink i.val (fun b => { b with
        nextAt := b.nextAt + b.period / 2 }) })
      if c.panel.target.isSome then c2.nOn nLate else c2)

/-- SHOW_CODE: the show_code command. -/
def execShowCode (s : State) : Out := chipOnly s Chip.panelShow

/-- SHOW_CODE_EXPIRY: the 60 s of the overlay have passed. -/
def execShowCodeExpiry (s : State) : Out :=
  chipOnly s (fun c =>
    match c.panel.codeUntil with
    | some t => if t ≤ c.now then c.setPanel (fun p => { p with codeUntil := none }) else c
    | none => c)

/-- CLEAR: the clear command of the panel block. -/
def execPanelClear (s : State) : Out := chipOnly s Chip.panelClearCmd

/-- PANEL_RESTART: the restart command of the panel block. -/
def execPanelRestart (s : State) : Out := .next s.panelRestart

/-! ### Blocks -/

/-- PFIELD: write a dynamic field; the state index is clamped to 0–15. -/
def execRunPfield (seq : Fin 65536) (s : State) : Out :=
  chipOnly s (fun c => c.invokeWith .pfield seq.val (fun _ _ _ => outsOnly [])
    (fun c i x => c.ask i.seq (.field (x.p 0) (x.p 1) (x.i 0) (clampI 0 15 (signed 32 (x.i 1))).toNat (x.b 2))))

/-- PBLINK: enable a blink rectangle; a period below the panel's minimum is raised to it. -/
def execRunPblink (seq : Fin 65536) (s : State) : Out :=
  chipOnly s (fun c => c.invokeWith .pblink seq.val
    (fun c _ x => outsOnly [b2n (decide (x.i 1 < c.minBlink))])
    (fun c i x => c.ask i.seq (.blink (x.p 0) (x.b 0) (max (x.i 1) c.minBlink))))

/-- PPAGE: request a page the PANEL section defines. -/
def execRunPpage (seq : Fin 65536) (s : State) : Out :=
  let has (c : Chip) (x : Ctx) : Bool := c.panel.pages.any (fun p => p.page == x.i 0)
  chipOnly s (fun c => c.invokeWith .ppage seq.val
    (fun c _ x => outsOnly [c.atLatch.get panelAt Panel.page_now, b2n (!has c x)])
    (fun c i x => if has c x then c.ask i.seq (.page (x.i 0)) else c))

/-- PSTAT: the panel state as latched. -/
def execRunPstat (seq : Fin 65536) (s : State) : Out :=
  chipOnly s (fun c => c.invokeWith .pstat seq.val
    (fun c _ _ =>
      let l := c.atLatch
      outsOnly [l.get panelAt Panel.up, l.get panelAt Panel.dirty, l.get panelAt Panel.rails_ok])
    (fun c _ _ => c))

end Sys2Proof.Machine
end

