-- ==== Sys2Proof/Machine/Ports.lean ====
section
/-! DEFINITION. The commands of the message ports (R374 to R405) and the blocks CANFILT, CANOBJ, CANSEND, PORTST and
PORTRST. -/

namespace Sys2Proof.Machine

/-- The receive error counter after a frame received without error (ISO 11898-1): one less; from above 127 to a value of
119 to 127 that the standard leaves open. -/
def recAfter (rec_ free : Nat) : Nat := if rec_ = 0 then 0 else if rec_ ≤ 127 then rec_ - 1 else 119 + free % 9

/-- An error of a received frame raises the receive counter by n, and the port sends an error flag (R393). -/
def Chip.recError (c : Chip) (r n : Nat) : Chip :=
  let b := portAt r
  ((c.bump b Port.err_frames).put b Port.rec (min (c.get b Port.rec + n) 255)).errState r

/-- A frame of another node completes without error on port r (R377): it goes to the ring, to the stations it carries an image of (R385),
and to the slices that consume it (R362). With fd_en clear an FD frame is answered with an error frame (R374). -/
def Chip.canArrive (c : Chip) (r : Nat) (f : CanFrame) (esi : Bool) : Chip :=
  let b := portAt r
  if !c.portLive r then c
  else if f.fd && !c.flag b Port.fd_en then (if c.flag b Port.listen then c else c.recError r 1)
  else
    let v := c.get b Port.rec
    let c1 := ((c.put b Port.rec (recAfter v c.free)).when (decide (127 < v)) Chip.fresh).ringPut r f false esi
    (((c1.errState r).setPort r (fun p => { p with flagUp := false })).matchStations r f).consumeCan r f

/-- SAFETY_FRAME_RECEIVE: a frame of a consumed connection arrives, on a CAN port as an FD frame on the identifier of its record (R360,
R362). -/
def execSafetyFrameReceive (k : Fin 16) (bytes : List Byte) (s : State) : Out :=
  chipOnly s (fun c =>
    match c.conn k.val with
    | none => c
    | some x =>
      let bs := bytes.map (·.toNat)
      if x.produce then c
      else if x.station then c.consume x bs
      else c.canArrive x.port { id := x.address % 2 ^ 29, ide := x.address.testBit 31, fd := true, brs := true, data := bs } false)

/-- CAN_FRAME_RECEIVED: a frame of another node completes without error (R377, R385). -/
def execCanFrameReceived (r : Fin 8) (id : BitVec 29) (ide fd brs esi rtr : Bool) (data : List Byte) (s : State) : Out :=
  chipOnly s (fun c => c.canArrive r.val
    { id := id.toNat, ide := ide, fd := fd, brs := brs, rtr := rtr, data := data.map (·.toNat) } esi)

/-- TRANSMIT_START: the bus is free and the port starts its pending frame of highest priority (R380, R390). -/
def execTransmitStart (r : Fin 8) (s : State) : Out :=
  chipOnly s (fun c =>
    if !c.busMine r.val then c
    else match bestFrame (c.waiting r.val) with
      | some (src, f) => c.beginTx r.val src f
      | none => c)

/-- A transmission is over: what was under way is not any more. -/
def Chip.endTx (c : Chip) (r : Nat) : Chip := c.setPort r (fun p => { p with tx := none, ownEnd := some c.now })

/-- TRANSMIT_COMPLETE: the frame in transmission is acknowledged and completes; the measured transmitter delay in quanta
for a frame with the bit rate switch (R376, R377, R381, R396, R397). -/
def execTransmitComplete (r : Fin 8) (delay : BitVec 16) (s : State) : Out :=
  chipOnly s (fun c =>
    match (c.port r.val).tx with
    | none => c
    | some (src, f) =>
      let b := portAt r.val
      let esi := c.get b Port.state == 1
      let c1 := ((c.endTx r.val).bump b Port.tx_ok).ringPut r.val f true (f.fd && esi)
      let c2 := c1.when (f.brs && c.flag b Port.tdc_en) (·.put b Port.tdc_meas delay.toNat)
      let c3 := c2.put b Port.tec (c2.get b Port.tec - 1)
      let c4 := match src with
        | .object j | .exclusive j =>
          let content := match src, (c.obj r.val j).begun with
            | .object _, some q => q.content
            | _, _ => c.objContent r.val j
          let free := match src with
            | .object _ => true
            | _ => false
          (((c3.setObj r.val j (fun o => { o with
              begun := if free then none else o.begun, sent := some content })).putI b PWord.ob_tick j c.tick).bumpByI b
            PWord.ob_count j 1).objSync r.val j
        | .station k i => c3.setSta r.val k (fun s => { s with outs := upd s.outs i (fun f => { f with begun := none }) })
        | .safety => { c3 with safeTx := c3.safeTx.eraseP (fun e => e.1 == r.val) }
        | .reference => c3
      let c5 := c4.setPort r.val (fun p => { p.done src with ackRun := 0, bitRun := (0, 0) })
      let c6 := c5.when (c.flag b Port.noack_now) (fun c =>
        (c.put b Port.noack_now 0).record 66 r.val 0 r.val [0] [f.key])
      let c7 := c6.when ((c.port r.val).collId == some f.key) (fun c =>
        (c.put b Port.coll_now 0).setPort r.val (fun p => { p with collId := none }))
      c7.errState r.val)

/-- TRANSMIT_ERROR: the frame in transmission ends in an error (R381, R393, R396, R397). Kinds: 0 arbitration lost;
1 acknowledge error; 2 data bit error; 3 any other error that raises the transmit counter; 4 an error that ISO 11898-1
excepts from raising it; 5, after a transmission that has ended in an error, a further one that ISO 11898-1 counts with 8: a bit error in
the port's own error flag, or one more row of eight dominant bits behind it. An acknowledge error of an error-passive port does not raise
it. -/
def execTransmitError (r : Fin 8) (kind : Fin 6) (s : State) : Out :=
  chipOnly s (fun c =>
    match (c.port r.val).tx with
    | none =>
      if kind.val = 5 && c.portLive r.val && (c.port r.val).flagUp then
        (c.put (portAt r.val) Port.tec (min (c.get (portAt r.val) Port.tec + 8) 511)).errState r.val
      else c
    | some (src, f) =>
      let b := portAt r.val
      if kind.val = 5 then c else
      let k := kind.val
      let raise := k == 2 || k == 3 || (k == 1 && c.get b Port.state == 0)
      let c1 := (c.endTx r.val).when (k != 0) (·.bump b Port.err_frames)
      let c2 := c1.when raise (fun c => c.put b Port.tec (min (c.get b Port.tec + 8) 511))
      let c3 := match src with
        | .object j => c2.failShot r.val j false
        | .exclusive j => c2.setPort r.val (·.done (.exclusive j))
        | .reference => c2.setPort r.val (·.done .reference)
        | _ => c2
      let ack := if k = 1 then (c.port r.val).ackRun + 1 else if k = 0 then (c.port r.val).ackRun else 0
      let run := if k = 2 then (f.key, if (c.port r.val).bitRun.1 = f.key then (c.port r.val).bitRun.2 + 1 else 1)
        else if k = 0 then (c.port r.val).bitRun else (0, 0)
      let c4 := c3.setPort r.val (fun p => { p with ackRun := ack, bitRun := run, flagUp := k != 0 })
      let c5 := c4.errState r.val
      let c6 := c5.when (ack == 16 && k == 1 && !c.flag b Port.noack_now) (fun c =>
        ((c.put b Port.noack_now 1).pOn r.val 3).record 66 r.val 1 r.val [1] [f.key])
      c6.when (k == 2 && run.2 == 2) (fun c =>
        ((((c.put b Port.coll_now 1).pOn r.val 4).put b Port.last_coll_id f.key).setPort r.val (fun p => { p with
          collId := some f.key })).record 67 r.val 2 r.val [] [f.key]))

/-- RECEIVE_ERROR: an error while receiving; ISO 11898-1 raises the receive counter by 1, or by 8 when a dominant bit
follows the own error flag or the error is a bit error in it (R393). -/
def execReceiveError (r : Fin 8) (eight : Bool) (s : State) : Out :=
  chipOnly s (fun c =>
    if !c.portLive r.val || c.flag (portAt r.val) Port.listen then c else c.recError r.val (if eight then 8 else 1))

/-- BUS_OFF_RECOVERY: 128 occurrences of 11 recessive bits have passed since the bus-off (R394). -/
def execBusOffRecovery (r : Fin 8) (s : State) : Out :=
  chipOnly s (fun c =>
    let b := portAt r.val
    if c.get b Port.state != 2 || c.get b Port.off_reason != 0
        || !c.bitsPassed r.val ((c.port r.val).offTicks.getLastD 0) (128 * 11) then c
    else (((c.put b Port.state 0).put b Port.tec 0).put b Port.rec 0).record 64 r.val 0 r.val [0] [0, 0])

/-- PORT_RESTART: the restart command of the port block. -/
def execPortRestart (r : Fin 8) (s : State) : Out := chipOnly s (fun c => c.cmdPortRestart r.val)

/-- PORT_REJOIN: 11 consecutive recessive bits have passed since the rejoin began (R395, R398). A port that was error-passive or bus-off
is error-active again, which is a change of state (R393). -/
def execPortRejoin (r : Fin 8) (s : State) : Out :=
  chipOnly s (fun c =>
    let b := portAt r.val
    let p := c.port r.val
    if c.get b Port.off_reason != 7 || c.portCause r.val != 0 || !c.bitsPassed r.val p.rejoinAt 11 then c
    else
      let c1 := (c.put b Port.state 0).put b Port.off_reason 0
      let c2 := if p.restarting then c1.record 65 r.val 0 r.val [0] [c.get b Port.busoffs]
        else c1.record 71 r.val 0 r.val [0] []
      let c3 := (c2.when (1 ≤ c.get b Port.state && c.get b Port.state ≤ 3) (·.record 64 r.val 0 r.val [0] [0, 0])).when
        (c.get b Port.result == 1) (·.put b Port.result 2)
      (c3.each p.rstBy (fun c q => c.setOutcome q false true 0)).setPort r.val (fun p => { p.joinBus c.now with
        rstBy := [], restarting := false }))

/-- PORT_CLEAR_COUNTERS: the clear_counters command of the port block. -/
def execPortClearCounters (r : Fin 8) (s : State) : Out := chipOnly s (fun c => c.cmdPortClear r.val)

/-- PERIODIC_SEND_DUE: the period of a send object has passed (R379); a repetition keeps its sequence number (R382). -/
def execPeriodicSendDue (r : Fin 8) (j : Fin 128) (s : State) : Out :=
  chipOnly s (fun c =>
    match (c.obj r.val j.val).perAt with
    | none => c
    | some t =>
      if c.now < t || c.sendsStopped then c
      else
        let c1 := c.setObj r.val j.val (fun o => { o with perAt := some (t + 1000 * o.period) })
        c1.request r.val j.val (c.objContent r.val j.val))

/-- INHIBIT_END: the inhibit time of an object ends and its request proceeds (R379). -/
def execInhibitEnd (r : Fin 8) (j : Fin 128) (s : State) : Out :=
  chipOnly s (fun c =>
    let o := c.obj r.val j.val
    if o.inhibited c.now then c else c.setObj r.val j.val (fun o => { o with held := false }))

/-- Is the station's last output image due again (R387)? -/
def PortSta.dueAgain (s : PortSta) (station now : Nat) : Bool :=
  s.station == station && s.refresh != 0 && s.outSent.isSome && decide (s.sentAt + 1000 * s.refresh ≤ now)

/-- STATION_OUT_REFRESH: out_refresh has passed since a station's frames were last requested (R387); with the CAN clock lost the requests
are refused and counted (R69). -/
def execStationOutRefresh (r : Fin 8) (station : Fin 64) (s : State) : Out :=
  chipOnly s (fun c =>
    if c.sendsStopped then c
    else if c.tongsDown r.val 2 then
      c.each (((c.port r.val).stas.filter (·.dueAgain station.val c.now)).flatMap (·.outs)) (fun c _ => c.tongsRefuse r.val 2)
    else c.setPort r.val (fun p => { p with stas := p.stas.map (fun s =>
      if s.dueAgain station.val c.now then s.send (s.outSent.getD []) c.now else s) }))

/-- REFERENCE_MESSAGE: a reference message completes, setting the master and the cycle count (R389, R391, R392). -/
def execReferenceMessage (r : Fin 8) (id : BitVec 11) (byte : BitVec 8) (s : State) : Out :=
  chipOnly s (fun c =>
    let b := portAt r.val
    match c.sched r.val with
    | none => c
    | some m =>
      if !c.portLive r.val || id.toNat / 8 != m.refId / 8 then c
      else
        let got := byte.toNat % 64
        let want := c.nextCycle r.val m
        let jump := (c.port r.val).refSeen && got != want
        let c1 := (c.put b Port.sched_cycle (got % m.rows)).setPort r.val (fun p => { p with
          refSeen := true, refAt := c.now, refLen := refSpan id.toNat byte.toNat, tryAt := c.now
          tryLen := refSpan id.toNat byte.toNat, col := 0, isMaster := m.master && id.toNat % 8 == m.prio })
        let c2 := c1.when jump (fun c => (c.bump b Port.cycle_jumps).record 70 r.val 1 r.val [2] [want, got])
        c2.when (c.flag b Port.sched_err_now) (fun c =>
          (c.put b Port.sched_err_now 0).record 70 r.val 0 r.val [0] [want, got]))

/-- REF_TIMEOUT: no reference has begun for ref_timeout, so a potential master sends its own (R391). -/
def execRefTimeout (r : Fin 8) (s : State) : Out :=
  chipOnly s (fun c =>
    match c.sched r.val with
    | none => c
    | some m =>
      if c.mayMaster m && c.sinceTry r.val (m.cycleBits + 8 + 8 * m.prio) then
        c.sendReference r.val m
      else c)

/-- May column col of the running row begin now: in order, once a row, and at its offset from the reference message; column 0 is the
reference window of the next row (R388)? -/
def Chip.columnDue (c : Chip) (r : Nat) (m : Matrix) (col : Nat) : Bool :=
  let k := if col = 0 then m.cols else col
  decide (col < m.cols) && (c.port r).refSeen && decide ((c.port r).col < k) && c.sinceRef r (m.lengths.take k).sum

/-- WINDOW_START: column col of the running row begins (R390): the current master's reference, an exclusive object in a
single attempt, or a window for others. An attempt that has failed in the window that ends is not retried; its request waits for the next
arbitrating window as one that has not begun (log entry 132). -/
def execWindowStart (r : Fin 8) (col : Fin 64) (s : State) : Out :=
  chipOnly s (fun c =>
    let b := portAt r.val
    match c.sched r.val with
    | none => c
    | some m =>
      if !c.columnDue r.val m col.val then c
      else
        let c1 := (c.rewait r.val).setPort r.val (fun p => { p with
          col := if col.val = 0 then m.cols else col.val
          handed := p.handed.filter (fun e => p.sends e.1 || e.1 == .safety) })
        let (kind, j) := m.cell (c.get b Port.sched_cycle) col.val
        if kind = 3 then (if (c.port r.val).isMaster && c.mayMaster m then c1.sendReference r.val m else c1)
        else if kind = 1 && c.busMine r.val && !c.flag b Port.sched_err_now && !c.sendsStopped then
          c1.startTx r.val (.exclusive j) (c.objFrame r.val j (c.objBytes r.val j (c.objContent r.val j)))
        else c1)

/-- SCHEDULE_ERROR: no reference has arrived within twice the basic cycle since the last one, or since the port joined the bus (R392). -/
def execScheduleError (r : Fin 8) (s : State) : Out :=
  chipOnly s (fun c =>
    let b := portAt r.val
    match c.sched r.val with
    | none => c
    | some m =>
      if c.flag b Port.sched_err_now || c.phase != 8 || c.get b Port.off_reason != 0 || !c.bitsPassed r.val (c.port r.val).refAt (2 * m.cycleBits) then c
      else
        (((c.put b Port.sched_err_now 1).pOn r.val 6).bump b Port.ref_missed).record 70 r.val 1 r.val [1]
          [c.nextCycle r.val m, 0])

/-- OFF_THE_BUS: the port leaves the bus, or begins to rejoin it, as the causes of R398 stand. -/
def execOffTheBus (r : Fin 8) (s : State) : Out := chipOnly s (fun c => c.portSync r.val)

/-! ### Blocks -/

/-- Does a ring entry match a CANFILT's parameters (R201)? -/
def filterMatch (id mask flags : Nat) (e : RingEntry) : Bool :=
  let x := (e.idw % 2 ^ 29) ^^^ id
  (x &&& mask) % 2 ^ 29 == 0
    && (!flags.testBit 0 || e.w2.testBit 16 == flags.testBit 1)
    && (!flags.testBit 2 || e.w2.testBit 18 == flags.testBit 3)

/-- Where a CANFILT reads: its first frame, the latched write position, the frames skipped (R201). After a take of the lease the read
position stands as mirrored, though the ring's numbers are now this module's own (DESIGN CHOICE, log entry 144). -/
def filterFrom (pos latched : Nat) : Nat × Nat :=
  let behind := tickDiff latched pos
  if 2048 < behind then ((latched + 2 ^ 32 - 2048) % 2 ^ 32, behind - 2048) else (pos, 0)

/-- The frames a CANFILT takes at an evaluation: those that match, safety frames apart (R362), and the new read position. With `en`
false the read position is the latched one at once (DESIGN CHOICE, log entry 144). -/
def Chip.filterTake (c : Chip) (x : Ctx) (latched : Nat) : List RingEntry × Nat × Nat :=
  let (from_, lost) := filterFrom (nth 0 x.st 0) latched
  if !x.b 0 then ([], latched, lost)
  else
    let n := min (tickDiff latched from_) (x.p 5)
    let es := (List.range n).map (fun k => c.ringGet (x.p 0) ((from_ + k) % 2 ^ 32))
    ((es.filter (fun e => !c.safetyEntry (x.p 0) e)).filter (filterMatch (x.p 1) (x.p 2) (x.p 3)), (from_ + n) % 2 ^ 32, lost)

/-- CANFILT: take frames from the receive ring and write the matches to an object. -/
def execRunCanfilt (seq : Fin 65536) (s : State) : Out :=
  chipOnly s (fun c =>
    let latched (c : Chip) (x : Ctx) : Nat := c.atLatch.get (portAt (x.p 0)) Port.rx_count
    c.invokeWith .canfilt seq.val
      (fun c _ x =>
        let (hits, pos, lost) := c.filterTake x (latched c x)
        { st := [pos], outs := [b2n (!hits.isEmpty), hits.length, (nth 0 x.old 2 + lost) % 2 ^ 32] })
      (fun c' _ x =>
        if x.p 4 = 255 then c'
        else c'.each (c.filterTake x (latched c x)).1 (fun d e => d.objTake (x.p 0) (x.p 4) e)))

/-- CANOBJ: a receive object as latched. The age of one that has never been written is the latch tick itself (DESIGN CHOICE, log entry 149). -/
def execRunCanobj (seq : Fin 65536) (s : State) : Out :=
  chipOnly s (fun c => c.invokeWith .canobj seq.val
    (fun c _ x =>
      let l := c.atLatch
      let b := portAt (x.p 0)
      let j := x.p 1
      let n := l.getI b PWord.ob_count j
      { st := [n]
        outs := [b2n (n != nth 0 x.st 0), l.getI b PWord.ob_id j, l.getI b PWord.ob_len j,
          tickDiff x.now (l.getI b PWord.ob_tick j)] ++ (List.range 16).map (fun k => l.nat (objAt (x.p 0) j + 16 + k)) })
    (fun c _ _ => c))

/-- The length a CANSEND sends and whether it was corrected (R202). -/
def sendLen (fd : Bool) (len : Nat) : Nat × Bool :=
  if fd then (if 64 < len then (64, true) else (fdLen len, fdLen len != len)) else (min len 8, decide (8 < len))

/-- CANSEND: give a send object its data at the output write (R202). -/
def execRunCansend (seq : Fin 65536) (s : State) : Out :=
  chipOnly s (fun c => c.invokeWith .cansend seq.val
    (fun c _ x =>
      let l := c.atLatch
      let b := portAt (x.p 0)
      let j := x.p 1
      let (_, bad) := sendLen ((c.getI b PWord.ob_fflags j).testBit 1) (x.i 1)
      let busy := l.getI b PWord.ob_pending j != 0 || l.getI b PWord.ob_in_tx j != 0
      { st := [x.i 0]
        outs := [b2n busy, l.getI b PWord.ob_count j,
          b2n (bad || l.getI b PWord.ob_single_fail j != 0 || decide (2 ≤ l.get b Port.state))] })
    (fun c i x =>
      let b := portAt (x.p 0)
      let (n, _) := sendLen ((c.getI b PWord.ob_fflags (x.p 1)).testBit 1) (x.i 1)
      let bytes := (((x.ins.drop 2).flatMap (leBytes 4)).take (min (x.i 1) n))
      c.ask i.seq (.canSend (x.p 0) (x.p 1) n (bytesAt bytes 0 n) (x.b 0 && nth 0 x.st 0 == 0))))

/-- PORTST: the error state of a port as latched. -/
def execRunPortst (seq : Fin 65536) (s : State) : Out :=
  chipOnly s (fun c => c.invokeWith .portst seq.val
    (fun c _ x =>
      let l := c.atLatch
      let b := portAt (x.p 0)
      outsOnly [l.get b Port.state, l.get b Port.tec, l.get b Port.rec, l.get b Port.noack_now, l.get b Port.coll_now])
    (fun c _ _ => c))

/-- PORTRST: a rising edge of exec restarts a latched-off port; done or err stays while exec is true. -/
def execRunPortrst (seq : Fin 65536) (s : State) : Out :=
  chipOnly s (fun c => c.invokeWith .portrst seq.val
    (fun c i x =>
      let rise := x.b 0 && nth 0 x.st 0 == 0
      let o := c.eng.wrLatched.find? (fun o => o.seq == i.seq)
      let shown (f : WrOut → Bool) : Bool := x.b 0 && !rise && (o.map (fun o => !o.busy && f o)).getD false
      { st := [x.i 0], outs := [b2n (shown (·.ok)), b2n (shown (fun o => !o.ok))] })
    (fun c i x => if x.b 0 && nth 0 x.st 0 == 0 then c.ask i.seq (.portRestart (x.p 0)) else c))

end Sys2Proof.Machine
end

