-- ==== Sys2Proof/Machine/RecOps.lean ====
section
/-! DEFINITION. The event recorder's store (R460 to R475): record bytes, writing, rotation and erases, mounting, bands,
windows. -/

namespace Sys2Proof.Machine

/-- Change the recorder beyond its registers. -/
def Chip.setRec (c : Chip) (f : RecSt → RecSt) : Chip := { c with recd := f c.recd }

/-- Append the CRC of bytes 0 to 59 (R461). -/
def withCrc (bs : List Nat) : List Nat := bytesAt bs 0 60 ++ leBytes 4 (crc32 (bytesAt bs 0 60))

/-- The 64 bytes of a record (Table 16.1). -/
def EvRec.bytes (e : EvRec) : List Nat :=
  withCrc (leBytes 8 (e.seq.getD 0) ++ leBytes 8 e.stamp ++ leBytes 4 e.tick ++ [e.source, e.region, e.cls, e.severity]
    ++ leBytes 4 e.subject ++ bytesAt e.payload 0 32)

/-- A window marker (Table 16.2): the number, the marker's code as its source. -/
def markerBytes (n code : Nat) : List Nat := withCrc (leBytes 8 n ++ List.replicate 12 0 ++ [code])

/-! ### Rotation -/

/-- Is a physical stripe protected: does it hold a stripe of a band (R466)? -/
def State.physProtected (s : State) (p : Nat) : Bool :=
  s.flash.map.any (fun e => e.2 == p && s.chip.protectedStripes.contains e.1)

/-- The stripe after p in rotation, passing over protected ones. -/
def State.nextPhys (s : State) (p : Nat) : Nat :=
  (((List.range 8192).map (fun k => (p + 1 + k) % 8192)).find? (fun q => !s.physProtected q)).getD ((p + 1) % 8192)

/-- The part of a range of numbers outside stripe l. -/
def outsideStripe (l : Nat) (r : Nat × Nat) : List (Nat × Nat) :=
  [(r.1, min r.2 (16384 * l)), (max r.1 (16384 * (l + 1)), r.2)].filter (fun x => decide (x.1 < x.2))

/-- The first number of the oldest stripe held (R465). -/
def Flash.oldest (f : Flash) : Nat :=
  match f.map.map (·.1) with
  | [] => f.tail
  | l :: ls => 16384 * ls.foldl min l

/-- The tail and the wear as the store has them. -/
def State.tailSync (s : State) : State :=
  let s1 : State := { s with flash := { s.flash with tail := s.flash.oldest } }
  s1.onChip (fun c => (c.put64 recdAt Recd.tail s.flash.oldest).put recdAt Recd.wear (min (s1.flash.erases / 81920) 65535))

/-- The erase of physical stripe q begins: its records and its marks of lost numbers are gone, and the tail moves on (R465, R471). -/
def State.eraseStripe (s : State) (q : Nat) : State :=
  let gone := (s.flash.map.filter (fun e => e.2 == q)).map (·.1)
  let s1 : State := { s with flash := { s.flash with
      erasing := some q
      map := s.flash.map.filter (fun e => e.2 != q)
      lost := gone.foldl (fun rs l => rs.flatMap (outsideStripe l)) s.flash.lost
      store := s.flash.store.filter (fun e => !gone.contains (stripeOf (e.seq.getD 0))) } }
  s1.tailSync

/-- Begin the erase of the stripe two places ahead of the head: its records are gone (R465). -/
def State.beginErase (s : State) : State :=
  match s.flash.erasing, s.flash.erased.getLast? with
  | none, some p => s.eraseStripe (s.nextPhys p)
  | _, _ => s

/-- The stripe being erased is erased, and stands ready ahead of the head (R465). -/
def State.endErase (s : State) : State :=
  match s.flash.erasing with
  | none => s
  | some p =>
    let s1 : State := { s with flash := { s.flash with
      erasing := none, erased := s.flash.erased ++ [p], erases := s.flash.erases + 1 } }
    s1.tailSync

/-- How records are written: in run, where the head waits for the erase of the stripe after the next one; by the hold-up flush, which
needs no erase; by the flush of a restart, which has LS and waits for the erases it needs (R465, R93, Table 3.2). -/
inductive WriteHow where
  | run
  | holdup
  | restart
  deriving DecidableEq, Repr

/-- May the head enter a new stripe: it is erased, and in run so is the one after it? -/
def Flash.mayEnter (f : Flash) (how : WriteHow) : Bool :=
  decide (2 ≤ f.erased.length) || (how != .run && !f.erased.isEmpty)

/-- A restart's flush waits for an erase where the next record needs a stripe and none is erased. -/
def State.readyStripe (s : State) (how : WriteHow) : State :=
  if how = .restart && s.flash.erased.isEmpty then
    (match s.flash.erasing with
     | some _ => s
     | none => s.eraseStripe (s.nextPhys ((s.flash.map.getLast?.getD (0, 0)).2))).endErase
  else s

/-- The head enters logical stripe l, if it is not there; none where it must wait (R465). -/
def State.enterStripe (s0 : State) (l : Nat) (how : WriteHow) : Option State :=
  if (s0.flash.map.map (·.1)).contains l then some s0
  else
    let s := s0.readyStripe how
    if !s.flash.mayEnter how then none
    else match s.flash.erased with
      | p :: rest =>
        let s1 : State := { s with flash := { s.flash with erased := rest, map := s.flash.map ++ [(l, p)] } }
        some (if how = .holdup then s1 else s1.beginErase)
      | [] => none

/-- Write one record into its slot; none where the head must wait. -/
def State.writeOne (s : State) (e : EvRec) (how : WriteHow) : Option State :=
  let n := e.seq.getD 0
  (s.enterStripe (stripeOf n) how).map (fun s => { s with
    flash := { s.flash with store := s.flash.store ++ [e], next := n + 1 }
    chip := s.chip.setRec (fun r => { r with wrote := r.wrote + 1 }) })

/-- Bands whose last record has been written are complete (R466). -/
def Chip.completeBands (c : Chip) (next : Nat) : Chip :=
  c.each ((List.range 64).filter (fun b => c.getI bandAt Band.b_state b == 1 && decide (c.bandTrip b + 65536 < next)))
    (fun c b =>
      let t := c.bandTrip b
      (c.putI bandAt Band.b_state b 2).enter 89 0xFF 0 b (payload [2] [t % 2 ^ 32, t / 2 ^ 32,
        c.get recdAt Recd.spare_left]) false)

/-- Write buffered records in sequence order, at most `count`; a pair record waits for the partner's number (R465, R473). -/
def State.writeRecords (s : State) (how : WriteHow) : Nat → State
  | 0 => s
  | k + 1 =>
    match s.chip.recd.buffer with
    | [] => s
    | e :: rest =>
      if how = .run && (e.seq.map (fun n => s.chip.recd.pairWait.contains n)).getD true then s
      else match s.writeOne e how with
        | none => s
        | some s1 => State.writeRecords { s1 with chip := s1.chip.setRec (fun r => { r with buffer := rest }) } how k

/-- Spare blocks replace blocks that failed; as they fall below 64 the shortage is reported (R465). -/
def State.useSpares (s : State) (n : Nat) : State :=
  let used := s.flash.spareUsed + n
  let left := Config.spareBlocks.toNat - used
  let s1 : State := { s with flash := { s.flash with spareUsed := used } }
  s1.onChip (fun c =>
    let c1 := c.put recdAt Recd.spare_left left
    if decide (64 ≤ Config.spareBlocks.toNat - s.flash.spareUsed) && decide (left < 64) then
      (c1.put recdAt Recd.spare_low 1).enter 89 0xFF 1 0xFF (payload [5] [0, 0, left]) false
    else c1)

/-- An overflow is over: the counts are recorded once (R464). -/
def Chip.overflowEnd (c : Chip) : Chip :=
  if c.recd.refusedBy.any (· != 0) && decide (c.recd.buffer.length < 32768) then
    ((c.put recdAt Recd.overflow 1).setRec (fun r => { r with refusedBy := [0, 0, 0, 0] })).record 88 0xFF 2 0 [1] c.recd.refusedBy
  else c

/-! ### Mount and stop -/

/-- Give numbers to the records that entered before the mount, in order (R462). -/
def numberFrom : Nat → List EvRec → List EvRec
  | _, [] => []
  | n, e :: es => { e with seq := some n } :: numberFrom (n + 1) es

/-- The slots of `count` numbers from `first` on are marked lost; the head moves through their stripes (R468). -/
def State.markLost (s : State) (first count : Nat) : State :=
  if count = 0 then s
  else
    let s1 := (List.range (stripeOf (first + count - 1) + 1 - stripeOf first)).foldl
      (fun s k => (s.enterStripe (stripeOf first + k) .restart).getD s) s
    { s1 with flash := { s1.flash with lost := s1.flash.lost ++ [(first, first + count)], next := first + count } }

/-- Source 88 with late set: a count of lost numbers, the first of them, and the records lost before numbering (R468, R469). -/
def Chip.tellLost (c : Chip) (first count told unnumbered : Nat) : Chip :=
  let f := if count = 0 then 2 ^ 64 - 1 else first
  (c.when (told != 0 || unnumbered != 0) (·.put recdAt Recd.lost_at_start 1)).recordAs 88 0xFF 2 0
    (payload [2] [told, f % 2 ^ 32, f / 2 ^ 32, unnumbered]) true

/-- Mark numbers as lost and, when there are any or records were lost before numbering, report them (R468). -/
def State.reportLost (s : State) (first count told unnumbered : Nat) : State :=
  if count = 0 && told = 0 && unnumbered = 0 then s
  else (s.markLost first count).onChip (·.tellLost first count told unnumbered)

/-- Comparator assertions latched while the recorder did not run are recorded late (R86). The latch stands until cmp_latched is
cleared, as the model chooses (DESIGN CHOICE, log entry 109). -/
def Chip.lateComparators (c : Chip) : Chip :=
  let c1 := c.each (List.range 4) (fun c k =>
    match nth none c.aon.cmp k with
    | some (stamp, n, true) => c.recordAs 7 0xFF 1 k (payload [] [stamp % 2 ^ 32, stamp / 2 ^ 32, n]) true
    | _ => c)
  { c1 with aon := { c1.aon with cmp := (c.aon.cmp.zipIdx).map (fun e => match e.1 with
    | some (stamp, n, _) => if c.getBit supplyAt Supply.cmp_latched e.2 then some (stamp, n, false) else none
    | none => none) } }

/-- cmp_latched bits are cleared: their latches are empty, but for those a late record is due for (R86; log entry 109). -/
def Chip.dropLatches (c : Chip) (bits : Nat) : Chip :=
  { c with aon := { c.aon with cmp := (c.aon.cmp.zipIdx).map (fun e => match e.1 with
    | some (_, _, false) => if bits.testBit e.2 then none else e.1
    | x => x) } }

/-- Put the band table back (R466). -/
def Chip.putBands (c : Chip) (bands : List (Nat × Nat × Nat)) : Chip :=
  c.each bands.zipIdx (fun c e =>
    let (t, n, st) := e.1
    (((c.putI bandAt Band.trip_lo e.2 (t % 2 ^ 32)).putI bandAt Band.trip_hi e.2 (t / 2 ^ 32)).putI bandAt Band.b_stripes e.2
      n).putI bandAt Band.b_state e.2 st)

/-- The band table by entry. -/
def Chip.bandList (c : Chip) : List (Nat × Nat × Nat) :=
  (List.range 64).map (fun b => (c.bandTrip b, c.getI bandAt Band.b_stripes b, c.getI bandAt Band.b_state b))

/-- The mount of the store (R468): numbering continues, buffered records take their numbers, losses are reported, trips
among the buffered records open their bands, comparator records follow. -/
def State.mount (s : State) : State :=
  let r := s.flash.retained
  let (first, count) := if r.ok then (r.lastSeq, r.lost) else (s.flash.next, 65536)
  let un := r.unnumbered + s.chip.recd.unnumbered
  let n0 := first + count
  let buf := numberFrom n0 s.chip.recd.buffer
  let c1 := (s.chip.setRec (fun d => { d with
    mounted := true, unnumbered := 0, buffer := buf, nextSeq := n0 + buf.length })).putBands s.flash.bands
  let left := Config.spareBlocks.toNat - s.flash.spareUsed
  let c2 := ((((c1.put recdAt Recd.state 1).put recdAt Recd.spare_left left).put64 recdAt Recd.tail s.flash.tail).put64 recdAt
    Recd.head (n0 + buf.length - 1)).put recdAt Recd.wear (min (s.flash.erases / 81920) 65535)
  let c3 := (c2.each (buf.filter (fun e => e.severity == 3)) (fun c e => c.openBand (e.seq.getD 0))).recSync
  let s1 : State := { s with chip := c3, flash := { s.flash with next := first } }
  let s2 := if r.ok then s1.reportLost first count count un
    else s1.reportLost first count 0xFFFFFFFF 0xFFFFFFFF
  s2.onChip Chip.lateComparators

/-- The recorder stops with its block or the steward of region 1: its buffer is lost (R469). -/
def Chip.stopRecorder (c : Chip) : Chip :=
  if c.get recdAt Recd.state = 2 then c
  else
    let un := if c.recd.mounted then 0 else c.recd.buffer.length
    ((c.put recdAt Recd.state 2).setRec (fun r => { r with
      buffer := [], pairWait := [], unnumbered := r.unnumbered + un })).recSync

/-- The recorder returns with its block (R469): numbers issued and not written are lost. -/
def State.resumeRecorder (s : State) : State :=
  if s.chip.get recdAt Recd.state != 2 || s.chip.blockFenced 1 13 || s.chip.blockFenced 1 11 || s.chip.regionFenced 1 then s
  else if !s.chip.recd.mounted then s.mount
  else
    let n := s.chip.recd.nextSeq - s.flash.next
    let s1 := s.onChip (fun c => c.put recdAt Recd.state 1)
    let first := s1.flash.next
    (s1.markLost first n).onChip (fun c => (c.tellLost first n n 0).lateComparators)

/-- The record with class bit pair, its own number and the partner's (R473). -/
def EvRec.withPair (e : EvRec) (his : Nat) : EvRec :=
  { e with cls := withBit e.cls 3 true, payload := bytesAt e.payload 0 24 ++ leBytes 4 (e.seq.getD 0) ++ leBytes 4 his }

/-- A flush does not wait for the partner's numbers. -/
def Chip.pairGiveUp (c : Chip) : Chip :=
  c.setRec (fun r => { r with
    pairWait := [], buffer := r.buffer.map (fun e =>
      if (e.seq.map (r.pairWait.contains ·)).getD false then e.withPair (2 ^ 32 - 1) else e) })

/-- Flush at power fail or restart (Table 3.2): `count` records, oldest first. What is left is counted in the retained
store, with the records that never took a number; the band table is kept. -/
def State.flush (s : State) (how : WriteHow) (count : Nat) : State :=
  let s1 := if s.chip.recd.mounted && s.chip.get recdAt Recd.state = 1 then (s.onChip Chip.pairGiveUp).writeRecords how count else s
  let un := s1.chip.recd.unnumbered + (if s1.chip.recd.mounted then 0 else s1.chip.recd.buffer.length)
  let lost := if s1.chip.recd.mounted then s1.chip.recd.nextSeq - s1.flash.next else s1.flash.retained.lost
  let last := if s1.chip.recd.mounted then s1.flash.next else s1.flash.retained.lastSeq
  { s1 with flash := { s1.flash with
      bands := if s1.chip.recd.mounted then s1.chip.bandList else s1.flash.bands
      retained := { s1.flash.retained with
        lastSeq := last, lost := lost
        unnumbered := if s1.chip.recd.mounted then 0 else s1.flash.retained.unnumbered + un } } }

/-! ### Bands: release (R467) -/

/-- Free a band. -/
def Chip.freeBand (c : Chip) (b : Nat) : Chip :=
  let t := c.bandTrip b
  let c1 := ((((c.putI bandAt Band.trip_lo b 0).putI bandAt Band.trip_hi b 0).putI bandAt Band.b_stripes b 0).putI bandAt
    Band.b_state b 0).recSync
  c1.record 89 0xFF 0 b [3] [t % 2 ^ 32, t / 2 ^ 32, c.get recdAt Recd.spare_left]

/-- The command word of the recorder block (R467, R475). -/
def Chip.recCommand (c : Chip) (w : Nat) : Chip :=
  if c.get recdAt Recd.result = 1 then c
  else if w.testBit 0 && w.testBit 1 then c.put recdAt Recd.result 3
  else if w.testBit 0 then
    let b := w / 2 ^ 16 % 2 ^ 8
    if 64 ≤ b || c.getI bandAt Band.b_state b != 2 then c.put recdAt Recd.result 3
    else ((c.freeBand b).put recdAt Recd.last_cmd 0).put recdAt Recd.result 2
  else if w.testBit 1 then
    let c1 := c.each ((List.range 64).filter (fun b => c.getI bandAt Band.b_state b == 2)) Chip.freeBand
    (c1.put recdAt Recd.last_cmd 1).put recdAt Recd.result 2
  else c

/-! ### Windows (R470 to R472) -/

/-- What slot n of a window shows: the record from the buffer or the store, or a marker. -/
def State.slotBytes (s : State) (n : Nat) (bad : List Nat) : List Nat × Bool :=
  let here (e : EvRec) : Bool := e.seq == some n
  if n < s.flash.tail then (markerBytes n 0xFF, true)
  else if s.flash.lost.any (fun r => decide (r.1 ≤ n && n < r.2)) then (markerBytes n 0xFE, false)
  else match s.chip.recd.buffer.find? here with
    | some e => (e.bytes, false)
    | none =>
      match s.flash.store.find? here with
      | some e => if bad.contains n then (markerBytes n 0xFD, false) else (e.bytes, false)
      | none => if s.flash.next ≤ n then (markerBytes n 0xFE, false) else (markerBytes n 0xFF, true)

/-- Write 64 bytes as sixteen words. -/
def Chip.putSlot (c : Chip) (a : Nat) (bs : List Nat) : Chip :=
  (List.range 16).foldl (fun c k => c.setNat (a + k) (numAt bs (4 * k) 4)) c

/-- Fill the slots from the cursor (R471). -/
def State.fillWindow (s : State) (w : Nat) (bad : List Nat) : State :=
  let b := winAt w
  let cur := s.chip.get64 b Win.cursor
  let top := s.chip.get64 b Win.snap_head
  let n := if s.chip.recd.nextSeq = 0 then 0 else min 16 (top + 1 - cur)
  let fill := (List.range n).map (fun i => s.slotBytes (cur + i) bad)
  let c1 := s.chip.each fill.zipIdx (fun c e => c.putSlot (b + 0x100 + 16 * e.2) e.1.1)
  let gone := (fill.filter (·.2)).length
  let c2 := ((c1.bumpByI b Win.gone_count 0 gone).put b Win.n_valid n).put64 b Win.cursor (cur + n)
  { s with chip := c2.put64 b Win.tail_now (s.chip.get64 recdAt Recd.tail) }

/-- Is window w bound to session i (R470)? -/
def Chip.ownsWindow (c : Chip) (i w : Nat) : Bool :=
  c.get (winAt w) Win.state != 0 && c.get (winAt w) Win.sid == c.getI sessAt Sess.sid i

/-- The command word of window w, from session i (R470, R471, R475). -/
def State.winCommand (s : State) (i w cmd : Nat) (bad : List Nat) : State :=
  let b := winAt w
  let c := s.chip
  let sid := c.getI sessAt Sess.sid i
  let own := c.ownsWindow i w
  let refuse := s.onChip (·.put b Win.result 3)
  let doneWith (n : Nat) (s : State) : State := { s with
    chip := ((s.chip.put b Win.last_cmd n).put b Win.result 2).setRec (fun r => { r with winAt := setAt r.winAt w c.now }) }
  if cmd = 1 then
    if c.get b Win.state != 0 then refuse
    else doneWith 0 (s.onChip (fun c =>
      let tail := c.get64 recdAt Recd.tail
      ((((((c.put b Win.state 1).put b Win.sid sid).put b Win.n_valid 0).put b Win.gone_count 0).put64 b Win.snap_head
        (c.get64 recdAt Recd.head)).put64 b Win.snap_tail tail).put64 b Win.cursor tail))
  else if !own then refuse
  else if cmd = 2 then doneWith 1 (s.onChip (fun c =>
    (c.setNat (b + 7) (c.nat (b + 0xB))).setNat (b + 8) (c.nat (b + 0xC))))
  else if cmd = 4 then doneWith 2 (s.fillWindow w bad)
  else if cmd = 8 then doneWith 3 (s.onChip (fun c => (c.put b Win.state 0).put b Win.sid 0))
  else refuse

end Sys2Proof.Machine
end

