-- ==== Sys2Proof/Machine/ModuleOps.lean ====
section
/-! DEFINITION. What the module does as a whole: module-level faults (R49, R50), block fences and returns (R30 to R36),
region fences (R46 to R48), holds out of service (R108), and the image transfer's end (R142). -/

namespace Sys2Proof.Machine

/-- Change the conditions of the module. -/
def Chip.setSys (c : Chip) (f : SysSt → SysSt) : Chip := { c with sys := f c.sys }

/-- Change the image transfer. -/
def Chip.setXfer (c : Chip) (f : XferSt → XferSt) : Chip := { c with xfer := f c.xfer }

/-- Region r of the fabric beyond its registers. -/
def Chip.fabr (c : Chip) (r : Nat) : FabSt := nth {} c.fab r

/-- Change region r of the fabric beyond its registers. -/
def Chip.setFab (c : Chip) (r : Nat) (f : FabSt → FabSt) : Chip := { c with fab := upd c.fab r f }

/-! ### Image transfer: abort (R142) -/

/-- Is an image transfer open or a verification under way? -/
def Chip.xferOpen (c : Chip) : Bool := c.get imageAt Image.state != 0 || c.xfer.owner.isSome

/-- The transfer is aborted: the target slot stays invalid, slot-select unchanged (R142); a record that is being written is not part
of it. -/
def Chip.xferAbort (c : Chip) : Chip :=
  if !c.xferOpen then c
  else
    let t := c.get imageAt Image.target
    let c1 := ((c.put imageAt Image.state 0).put imageAt Image.result 5).setXfer (fun x => { writing := x.writing })
    c1.record 30 0xFF 1 t [3, c.get imageAt Image.check] [c.get imageAt Image.bytes_written]

/-! ### Module-level faults -/

/-- The actions of R50 in run: the engine, the slices and the axes stop, every non-safety output takes its safe value, the
lease is yielded. The safety island goes on. -/
def Chip.faultStop (c : Chip) : Chip :=
  (((((c.haltEngine 3).stopSlices 4).axesStop).allSafe).pairStop).xferAbort

/-- A module-level fault (R49, R50): the first cause is kept; in S3 the module halts (Table 4.2), between S4 and S7 the
engine stands in its fault state when S8 begins. -/
def Chip.moduleFault (c : Chip) (cause r : Nat) : Chip :=
  let c1 := (c.put statusAt Status.module_fault_seen 1).when (c.sys.faultCause == 0) (fun c =>
    (c.setSys (fun s => { s with faultCause := cause })).put statusAt Status.fault_cause cause)
  let c2 := c1.record 27 0xFF 3 cause [] [r]
  if c2.phase = 8 then c2.faultStop
  else if c2.phase = 3 then (c2.halt 3).xferAbort
  else (c2.put engineAt Engine.state 3).xferAbort

/-! ### Block fences -/

/-- Is a block of Table 1.2 present in region r? -/
def blockExists (r i : Nat) : Bool := decide (i ≤ 12) || (decide (i ≤ 15) && decide (r ≤ 1))

/-- The channels of group k of region r. -/
def groupChans (r k : Nat) : List Nat := (List.range 4).map (fun j => 16 * r + 4 * k + j)

/-- The link of station port p goes down (R437). -/
def Chip.stationDown (c : Chip) (p : Nat) : Chip :=
  let f := if p = 0 then SLink.na_speed else SLink.nb_speed
  if c.get slinkAt f = 0 then c
  else ((c.put slinkAt f 0).put slinkAt (if p = 0 then SLink.na_lost else SLink.nb_lost) 1).record 28 p 1 p [1] [0]

/-- A channel comes under the field guard: level 2 begins, trip state is discarded (R273, Table 9.6), its image is dead. -/
def Chip.guardChan (c : Chip) (g : Nat) : Chip :=
  let c0 := c.setChan g (fun h => { h with tripTicks := [], waiting := false, latched := false })
  let c1 := (((c0.dOff g dOverload).dOff g dTherm).dOff g dLatched).put (chanAt g) Dig.trips 0
  let c2 := if (c1.chan g).safety || !outMode (c1.mode g) then c1 else c1.beginLevel2 g
  c2.putStatus g

/-- The consequences of a fence of block i of region r (Table 1.2). -/
def State.fenceEffect (s : State) (r i : Nat) : State :=
  if i ≤ 3 then
    (if (List.range 4).all (s.chip.blockFenced r) then s.onChip (·.moduleFault 2 r) else s)
  else if i ≤ 7 then s.onChip (fun c => c.each (groupChans r (i - 4)) Chip.guardChan)
  else if i = 8 then s.onChip (·.fenceSlice r)
  else if i = 9 then s.onChip (·.portSync r)
  else if i = 10 then s.onChip (fun c => (c.stageCause (2 * r) 1 true).stageCause (2 * r + 1) 1 true)
  else if i = 11 then
    let s1 := s.onChip (fun c => c.put (stewAt r) Stew.running 0)
    if r = 0 then s1.onChip (·.moduleFault 4 0) else if r = 1 then s1.onChip Chip.stopRecorder else s1
  else if i = 12 then s.onChip (·.moduleFault 3 r)
  else if i = 13 then (if r = 0 then s.startQuench 3 else s.onChip Chip.stopRecorder)
  else if i = 14 then s.onChip (·.stationDown r)
  else if i = 15 then s.onChip (·.laneFault r)
  else s

/-- A block is fenced (R32, R33). -/
def State.fenceBlock (s : State) (r i : Nat) : State :=
  if s.chip.blockFenced r i then s
  else
    let s1 := s.onChip (fun c => (((c.putBit (regionAt r) Region.fenced i true).put statusAt Status.block_fence_seen 1).record
      20 r 2 i [] []).svyAbortRegion r)
    s1.fenceEffect r i

/-- The panel port abandons the waveform that runs (R31): a clearing begins anew with the deep clear, and an update is dropped; the
next one begins with a deep clear, since what the panel shows is no longer known (DESIGN CHOICE, log entry 139). -/
def Chip.abandonPanel (c : Chip) : Chip :=
  if c.panel.quench.isSome || !c.waveRuns then c
  else if c.get panelAt Panel.state = 4 then
    c.setPanel (fun p => { p with updAt := c.now, frameAt := c.now, clearEntry := 257 })
  else (c.put panelAt Panel.ep_busy 0).setPanel (fun p => { p with target := none, deepNow := false, deep := true, shown := none })

/-- A block abandons the operation in progress (R31): a loop slice its computation, a port the frame in transmission, which stays
requested, a steward the survey or temper it carries out, the panel port the running waveform. Invocations are issued again on
another lane, a conversion or an axis update comes again at its next time, and the recorder begins the erasure of a stripe again,
which leaves that stripe as it stands. -/
def Chip.abandonBlock (c : Chip) (r i : Nat) : Chip :=
  if i = 8 then (c.setSlice r (fun l => { l with running := none })).kick r
  else if i = 9 then c.setPort r (fun p => { p with tx := none })
  else if i = 11 then c.svyAbortRegion r
  else if i = 13 && r = 0 then c.abandonPanel
  else c

/-- A block failure (R30 to R32), cause 1 an uncorrectable ECC error, 2 a cell report; the operation in progress is
abandoned and issued again; a second failure within 10 s fences. -/
def State.blockFailure (s : State) (r i cause : Nat) : State :=
  let c := s.chip
  if !c.fitted r || !blockExists r i || decide (c.phase < 2) || c.regionFenced r then s
  else
    let testing := match nth none c.sys.testing r with
      | some (k, _) => k == i
      | none => false
    if c.blockFenced r i && !testing then s
    else
      let c1 := (c.putBit (regionAt r) Region.failed i true).when (cause == 1) (·.bump (regionAt r) Region.ecc_uncorrected)
      let c2 := c1.record 19 r 1 i [cause] []
      let recent := match nth none (c.fabr r).failAt i with
        | some t => decide (c.now - t ≤ 10000000)
        | none => false
      let c3 := c2.setFab r (fun f => { f with failAt := setAt f.failAt i (some c.now) })
      if testing then
        s.onChip (fun _ => c3.setSys (fun y => { y with testing := setAt y.testing r (some (i, true)) }))
      else
        let c4 := c3.abandonBlock r i
        let s1 := s.onChip (fun _ => c4)
        if recent then s1.fenceBlock r i else s1

/-- A channel of a returned group starts its filters and its frequency measurement afresh, so that a monitored fault and an over-rate end
with their records; a count goes on (R254, R258, R274). -/
def Chip.afresh (c : Chip) (g : Nat) : Chip :=
  let h := c.chan g
  let b := chanAt g
  let c1 := if h.mfault then ((c.dOff g dMonShort).dOff g dMonBreak).record 39 (g / 16) 0 g [0] [10 * c.get b Dig.mon_res] else c
  let c2 := if h.overRate then (c1.dOff g dCntOver).record 46 (g / 16) 0 g [0] [0] else c1
  let c3 := c2.setChan g (fun h => { h with
    integ := 0, state := false, finteg := 0, mfault := false, overRate := false, gateAt := c.now, gateLen := c.get b Dig.cnt_gate
    selfOff := false, sampledAt := c.now, gridAt := c.now, winOpen := false })
  if (c.mode g == 7 || c.mode g == 8) && h.seq == 0 then c3.setImage g 0 else c3

/-- A block returns to service (R35, R36). -/
def State.returnBlock (s : State) (r i : Nat) : State :=
  let s1 := s.onChip (fun c => ((c.putBit (regionAt r) Region.fenced i false).put (regionAt r) Region.result 2).record 21 r 0
    i [] [])
  let e := s1.chip.get engineAt Engine.state
  if 4 ≤ i && i ≤ 7 then
    s1.onChip (fun c => c.each (groupChans r (i - 4)) (fun c g =>
      let c1 := c.afresh g
      (if e = 2 || e = 3 then c1.resolve g else c1).putStatus g))
  else if i = 8 then (if e = 2 || e = 3 then s1 else s1.onChip (·.startSlice r))
  else if i = 9 then s1.onChip (·.portSync r)
  else if i = 10 then s1.onChip (fun c => (c.stageCause (2 * r) 1 false).stageCause (2 * r + 1) 1 false)
  else if i = 11 then
    let s2 := s1.onChip (fun c => c.put (stewAt r) Stew.running 1)
    if r = 1 then s2.resumeRecorder else s2
  else if i = 13 then (if r = 0 then s1.onChip Chip.wantPanel else s1.resumeRecorder)
  else s1

/-- May the unfence command run for a block (R35): in S8 alone, as R97 gives it for a block fenced in S3 (log entry 107)? -/
def Chip.mayUnfence (c : Chip) (r i : Nat) : Bool :=
  c.phase == 8 && blockExists r i && i != 12 && !(r == 0 && i == 11) && !c.regionFenced r && c.blockFenced r i

/-- The tongs a block holds on the fabric side (Tables 1.2, 2.1 and 2.3): its self-test resets them (R70). -/
def blockTongs (r i : Nat) : List Nat :=
  (if 4 ≤ i && i ≤ 7 then [4, 5] else if i = 9 then [2] else if i = 10 then [5] else if i = 13 && r = 0 then [6]
    else if i = 14 || i = 15 then [3] else []).map (fun d => tongsKey r d i)

/-- The command word of the region block (R41, R54, R55). Retraining is left to the attempts it starts. In a fenced region the command
has no effect at all, so result does not change either: R35 gives result 3 there and R48 no effect (DESIGN CHOICE, log entry
140). -/
def Chip.regionCommand (c : Chip) (r w : Nat) : Chip :=
  let b := regionAt r
  let bits := ((List.range 3).filter w.testBit).length
  if c.regionClosed r || c.get b Region.result = 1 then c
  else if 1 < bits then c.put b Region.result 3
  else if w.testBit 0 then
    let i := w / 2 ^ 16 % 16
    if !c.mayUnfence r i then c.put b Region.result 3
    else (((c.put b Region.last_cmd 0).put b Region.result 1).setSys (fun s => { s with
      testing := setAt s.testing r (some (i, false)) })).each (blockTongs r i) (fun c k => c.resetTongs k)
  else if w.testBit 1 then
    let c1 := c.setFab r (fun f => { f with links := f.links.map (fun l => { l with downAt := 0 }) })
    (c1.put b Region.last_cmd 1).put b Region.result 2
  else if w.testBit 2 then
    let c1 := (List.range 6).foldl (fun c k => c.setNat (b + 4 + k) 0) (c.setNat (b + 2) 0)
    (c1.put b Region.last_cmd 2).put b Region.result 2
  else c

/-! ### Region fences -/

/-- The field guard of a region enters region fence (R46, R47): non-safety outputs to their safe values, the loop slice
stopped, both axes' stages off, the port off the bus; the safety slice's functions trip (R47), the region's parameter space is
closed (R48). -/
def State.fenceRegion (s : State) (r : Nat) : State :=
  if s.chip.regionFenced r || !s.chip.fitted r then s
  else
    let c0 := s.chip.setSys (fun y => { y with fenced := withBit y.fenced r true })
    let c1 := ((c0.put statusAt Status.fenced (c0.sys.fenced ||| c0.sys.declared)).put statusAt Status.region_fence_seen 1).putBit statusAt
      Status.running r false
    let c2 := (c1.put (regionAt r) Region.running 0).put (regionAt r) Region.beacon_ok 0
    let c3 := c2.each ((List.range 16).map (fun k => 16 * r + k)) Chip.guardChan
    let c4 := ((c3.stopSlice r 2).stageCause (2 * r) 1 true).stageCause (2 * r + 1) 1 true
    let c5 := ((c4.portSync r).stopIsle r 5).svyAbortRegion r
    let c6 := if r ≤ 1 then (c5.laneFault r).stationDown r else c5
    let s1 := s.onChip (fun _ => if r = 1 then c6.stopRecorder else c6)
    if r = 0 then s1.startQuench 5 else s1

/-- The lead declares a region fenced (R46, Table 1.4): source 22 with the way it came to it, for good. -/
def Chip.declareFence (c : Chip) (r how : Nat) : Chip :=
  let c1 := c.setSys (fun y => { y with declared := withBit y.declared r true })
  ((c1.put statusAt Status.fenced (c1.sys.fenced ||| c1.sys.declared)).put statusAt Status.region_fence_seen 1).record 22 r 3 r
    [how] []

/-! ### Out of service (R108, R109) -/

/-- The out-of-service bit of a target. -/
def Chip.oosBit (c : Chip) (kind idx : Nat) (on : Bool) : Chip :=
  let c1 := c.put (recAt kind idx) SRec.oos (b2n on)
  if kind = 0 then c1.setNat (surveyAt + 8 + idx / 32) (withBit (c1.nat (surveyAt + 8 + idx / 32)) (idx % 32) on)
  else if kind = 1 then c1.putBit surveyAt Survey.axis_oos idx on
  else if kind = 2 then c1.putBit surveyAt Survey.port_oos idx on
  else if kind = 3 then c1.putBit surveyAt Survey.station_oos idx on
  else if kind = 4 then c1.put surveyAt Survey.panel_oos (b2n on)
  else c1

/-- The hold of Table 4.6 begins or ends on a target. -/
def Chip.holdTarget (c : Chip) (kind idx : Nat) (on : Bool) : Chip :=
  let c1 := c.oosBit kind idx on
  if kind = 0 then
    let c2 := c1.setChan idx (fun h => { h with oos := on })
    let c3 := if on && outMode (c2.mode idx) then c2.deenergise idx else c2
    c3.putStatus idx
  else if kind = 1 then c1.stageCause idx 4 on
  else if kind = 2 then c1.portSync idx
  else if kind = 3 then (if on then c1.stationDown idx else c1)
  else if kind = 4 then (if on then c1.panelRelease else c1.wantPanel)
  else c1

/-! ### Module status (R532) -/

/-- What the steward of region r is doing (Table 20.4): a survey or temper it carries out, in region 1 the recorder's writing, in S8 the
patrol scrub. Which of several stands is the model's choice (DESIGN CHOICE, log entry 138). -/
def Chip.activity (c : Chip) (r : Nat) : Nat :=
  if !c.flag (stewAt r) Stew.running then 0
  else if (c.svyTarget.map (fun t => svyHost t.1 t.2 == r)).getD false then (if c.sys.svyCmd = 1 then 2 else 1)
  else if c.phase = 5 then 1
  else if r = 1 && c.get recdAt Recd.state = 1 && !c.recd.buffer.isEmpty then 5
  else if c.phase = 8 then 3 else 0

/-- The live fields of the module status block (R532), as the 10 ms grid refreshes them. -/
def Chip.statusSync (c : Chip) : Chip :=
  let c0 := c.each c.regions (fun c r => c.put (stewAt r) Stew.activity (c.activity r))
  let c1 := ((c0.put statusAt Status.phase c.phase).put statusAt Status.lease_state (c.get pairAt Pair.lease_state)).put
    statusAt Status.engine (c.get engineAt Engine.state)
  let running := (List.range 8).foldl (fun m r => if c.flag (regionAt r) Region.running then m + 2 ^ r else m) 0
  let bit (n : Nat) (b : Bool) : Nat := if b then 2 ^ n else 0
  let chans := (List.range 128).filter (fun g => c.fitted (g / 16))
  let axes := (List.range 16).filter c.axUsed
  let loops := (List.range 256).filter c.loopUsed
  let att := [bit 0 (chans.any (fun g => (c.chan g).oos || (c.get (chanAt g) Chan.status).testBit stFault)),
    bit 1 (axes.any (fun x => c.axState x == 8)),
    bit 2 (loops.any (fun n => c.flag (loopAt n) Loop.missed_f)),
    bit 3 (c.regions.any (fun r => c.flag (portAt r) Port.enable && c.get (portAt r) Port.state != 0)),
    bit 4 (c.sys.hasPair && (c.pair.laneBad.any id || !c.flag pairAt Pair.partner)),
    bit 5 (c.get recdAt Recd.state != 1),
    bit 6 (!c.panel.pages.isEmpty && c.get panelAt Panel.up == 0),
    bit 7 (c.safe.fns.any (fun f => c.ownsSafe f.owner && c.getI (isleAt f.base) Isle.state f.j != 4))].foldl (· + ·) 0
  ((c1.put statusAt Status.running running).put statusAt Status.attention att).put statusAt Status.uptime
    (if c.phase = 8 then (c.now - c.s8At) / 1000000 else 0)

end Sys2Proof.Machine
end

