-- ==== Sys2Proof/Machine/Fabric.lean ====
section
/-! DEFINITION. The self-timed fabric (R26 to R55, R542): block failures, links, routes, beacons and region fences. -/

namespace Sys2Proof.Machine

/-! ### Links and routes -/

/-- The number of regions fitted. -/
def Chip.nRegions (c : Chip) : Nat := c.get identAt Ident.regions

/-- The region that link k of region r leads to (Table 1.3). -/
def linkTo (n r k : Nat) : Nat :=
  if n = 8 then (r + nth 0 [1, 7, 3, 5] k) % 8
  else if n = 4 then (r + nth 0 [1, 3, 2, 2] k) % 4
  else 1 - r

/-- The number the link has at its other end. Between regions that share two links (PSC-784) or four (PSC-782) Table 1.3 names
the neighbour alone; that links of the same number face each other there is the model's choice (DESIGN CHOICE, log entry 106). -/
def linkMate (n k : Nat) : Nat := if n = 8 then nth 0 [1, 0, 3, 2] k else if n = 4 then nth 0 [1, 0, 2, 3] k else k

/-- Link k of region r beyond its registers. -/
def Chip.link (c : Chip) (r k : Nat) : LinkSt := nth {} (c.fabr r).links k

/-- Change link k of region r beyond its registers. -/
def Chip.setLink (c : Chip) (r k : Nat) (f : LinkSt → LinkSt) : Chip :=
  c.setFab r (fun h => { h with links := upd h.links k f })

/-- Does link k of region r carry traffic, up at both of its ends? -/
def Chip.linkUsable (c : Chip) (r k : Nat) : Bool :=
  let n := c.nRegions
  c.fitted r && c.getBit (regionAt r) Region.link_up k
    && c.getBit (regionAt (linkTo n r k)) Region.link_up (linkMate n k)

/-- A shortest path from a region: where it ends, its first link, whether its last hop runs on a ring link, and the regions after
the first. -/
abbrev Route := Nat × Nat × Bool × List Nat

/-- Routes of one more hop: to each region not seen yet over each usable link. -/
def Chip.hop (c : Chip) (seen : List Nat) (layer : List Route) (first : Bool) : List Route :=
  layer.flatMap (fun e => (List.range 4).filterMap (fun k =>
    let d := linkTo c.nRegions e.1 k
    if c.linkUsable e.1 k && !seen.contains d then
      some (d, if first then k else e.2.1, decide (k ≤ 1), e.2.2.2 ++ [d]) else none))

/-- Layers of routes by number of hops; of routes with one end, first link, last hop and regions one is kept. -/
def Chip.layers (c : Chip) : Nat → List Nat → List Route → Bool → List Route
  | 0, _, _, _ => []
  | f + 1, seen, layer, first =>
    let next := (c.hop seen layer first).dedup
    next ++ c.layers f (seen ++ next.map (·.1)) next false

/-- The route from region r to region d (R38): fewest hops, then a last hop on a ring link, then the lower first link. Where
three or more hops leave a choice further on, which R38 does not settle, the links of lower numbers are taken (log entry 62). -/
def Chip.pathTo (c : Chip) (r d : Nat) : Option Route :=
  let paths := (c.layers 7 [r] [(r, 0, false, [])] true).filter (fun e => e.1 == d)
  let ring := paths.filter (fun e => e.2.2.1)
  let best := if ring.isEmpty then paths else ring
  (List.range 4).findSome? (fun k => best.find? (fun e => e.2.1 == k))

/-- The link used from region r to region d (R38). -/
def Chip.routeTo (c : Chip) (r d : Nat) : Option Nat := (c.pathTo r d).map (·.2.1)

/-- The route and unreached fields of every region follow the links. -/
def Chip.routesSync (c : Chip) : Chip :=
  c.each c.regions (fun c r =>
    let others := c.regions.filter (· != r)
    let rt := others.map (fun d => (d, c.routeTo r d))
    let route := rt.foldl (fun m e => m + e.2.getD 0 * 4 ^ e.1) 0
    let un := rt.foldl (fun m e => if e.2.isNone then m + 2 ^ e.1 else m) 0
    (c.put (regionAt r) Region.route route).put (regionAt r) Region.unreached un)

/-- The CRC-16 that a flit carries (R39): over its kind, its number and its content. -/
def flitCrc (kind number : Nat) (ws : List Nat) : Nat := crc16 (kind :: leBytes 4 number ++ ws.flatMap (leBytes 4))

/-- Put a flit on a link, its CRC last, and count it. -/
def Chip.putFlit (c : Chip) (r k kind number : Nat) (ws : List Nat) : Chip :=
  (c.emit (.flit r k kind (number :: ws ++ [flitCrc kind number ws]))).countPass r 5 (k + 1) true 7 3 8

/-- Send a data flit over link k of region r: it enters the replay buffer of 32 flits and goes out while there is room; without
room it waits its turn (R39, R43). -/
def Chip.sendFlit (c : Chip) (r k : Nat) (ws : List Nat) : Chip :=
  let l := c.link r k
  let c1 := c.setLink r k (fun h => { h with unacked := h.unacked ++ [(h.txSeq, ws)], txSeq := h.txSeq + 1 })
  if l.unacked.length < 32 then c1.putFlit r k 0 l.txSeq ws else c1

/-- The usable links of region r to a neighbour. -/
def Chip.linksTo (c : Chip) (r d : Nat) : List Nat :=
  (List.range 4).filter (fun k => c.linkUsable r k && linkTo c.nRegions r k == d)

/-- Send a flit from region r to the neighbour d; over parallel links traffic alternates flit by flit (R38). -/
def Chip.sendNext (c : Chip) (r d : Nat) (ws : List Nat) : Chip :=
  let ks := c.linksTo r d
  let c1 := c.setFab r (fun f => { f with alt := f.alt + 1 })
  match ks with
  | [] => c
  | [k] => c.sendFlit r k ws
  | k :: _ => c1.sendFlit r (nth k ks ((c.fabr r).alt % ks.length)) ws

/-- Send a flit on from region r. Its content names destination, origin, order number and kind, and then the regions still on
its way; where the way is cut or not chosen yet, the region chooses one, and while there is none the flit waits (R41, R43). -/
def Chip.sendOn (c : Chip) (r : Nat) (ws : List Nat) : Chip :=
  match ws with
  | d :: o :: n :: kind :: way =>
    match way with
    | x :: rest => if !(c.linksTo r x).isEmpty then c.sendNext r x (d :: o :: n :: kind :: rest) else
      match c.pathTo r d with
      | some (_, _, _, y :: more) => c.sendNext r y (d :: o :: n :: kind :: more)
      | _ => c.setFab r (fun f => { f with waits := f.waits ++ [[d, o, n, kind]] })
    | [] =>
      match c.pathTo r d with
      | some (_, _, _, y :: more) => c.sendNext r y (d :: o :: n :: kind :: more)
      | _ => c.setFab r (fun f => { f with waits := f.waits ++ [[d, o, n, kind]] })
  | _ => c

/-- Send a flit of a kind from region r to region d: 3 a beacon, 4 an acknowledgement, 5 a fence order. -/
def Chip.sendTowards (c : Chip) (r d kind : Nat) : Chip :=
  let n := nth 0 (c.fabr r).toSeq d
  (c.setFab r (fun f => { f with toSeq := upd f.toSeq d (· + 1) })).sendOn r [d, r, n, kind]

/-- Flits that had no path are sent as soon as there is one. -/
def Chip.sendWaiting (c : Chip) : Chip :=
  c.each c.regions (fun c r =>
    let ws := (c.fabr r).waits
    (c.setFab r (fun f => { f with waits := [] })).each ws (fun c w => c.sendOn r w))

/-- Deliver flits that came ahead, as their turn comes; `n` bounds how many. -/
def FabSt.settle (f : FabSt) (o : Nat) : Nat → FabSt
  | 0 => f
  | n + 1 =>
    match f.early.find? (fun w => nth 0 w 1 == o && nth 0 w 2 == nth 0 f.fromSeq o) with
    | some w => FabSt.settle { f with
        inbox := f.inbox ++ [w], fromSeq := upd f.fromSeq o (· + 1), early := f.early.filter (· != w) } o n
    | none => f

/-- A flit reaches its destination: flits of one origin are delivered in the order sent, each once (R39, R41). -/
def FabSt.deliver (f : FabSt) (ws : List Nat) : FabSt :=
  let o := nth 0 ws 1
  let w := ws.take 4
  if nth 0 ws 2 < nth 0 f.fromSeq o || f.early.contains w then f
  else FabSt.settle { f with early := f.early ++ [w] } o (f.early.length + 1)

/-- Link k of region r goes down (R40, R41, R96): cause 1 replays, 2 silence, 3 a failed training or self-test. Its unacknowledged
flits move to the remaining paths; a third time within 60 s latches it at both ends. -/
def Chip.linkDown (c : Chip) (r k cause : Nat) : Chip :=
  if !c.getBit (regionAt r) Region.link_up k then c
  else
    let l := c.link r k
    let downs := l.downs.filter (fun t => c.now < t + 60000000) ++ [c.now]
    let latch := decide (3 ≤ downs.length)
    let rep := c.getI (regionAt r) Region.replays k
    let c1 := (c.putBit (regionAt r) Region.link_up k false).setLink r k (fun h => { h with
      downAt := c.now, failRec := cause == 3, downs := downs, fails := 0, held := false, again := false, unacked := [] })
    let c2 := c1.routesSync.record 17 r 1 k [cause] [rep]
    let n := c.nRegions
    let c3 := if latch then
        ((c2.putBit (regionAt r) Region.link_latched k true).putBit (regionAt (linkTo n r k)) Region.link_latched
          (linkMate n k) true).record 17 r 1 k [4] [rep]
      else c2
    c3.each l.unacked (fun c f => c.sendOn r (f.2.take 4))

/-- A link has trained: at each of its ends the numbers of flits start at 0 again, and flits that end has not seen acknowledged are
numbered and sent anew (DESIGN CHOICE, log entry 108). -/
def Chip.restartLink (c : Chip) (r k : Nat) : Chip :=
  let n := c.nRegions
  [(r, k), (linkTo n r k, linkMate n k)].foldl (fun c e =>
    let us := (c.link e.1 e.2).unacked.map (·.2)
    let c1 := c.setLink e.1 e.2 (fun h => { h with
      goodAt := c.now, fails := 0, held := false, again := false, failRec := false, rxSeq := 0, txSeq := us.length
      unacked := (List.range us.length).zip us })
    c1.each (((List.range us.length).zip us).take 32) (fun c f => c.putFlit e.1 e.2 0 f.1 f.2)) c

/-- The other end has accepted every flit numbered below n: they leave the replay buffer, and flits that waited go out. A
flit that this region did not accept for lack of room is asked for again, by a replay request on its link, once a place in a replay
buffer is free: R43 holds the sender and does not say how it goes on (DESIGN CHOICE, log entry 108). -/
def Chip.flitsAcked (c : Chip) (r k n : Nat) : Chip :=
  let l := c.link r k
  let rest := l.unacked.filter (fun f => n ≤ f.1)
  let waited := (l.unacked.drop 32).filter (fun f => n ≤ f.1)
  let out := rest.take 32
  let c1 := (c.setLink r k (fun h => { h with unacked := rest })).each (waited.filter (fun f => out.contains f)) (fun c f =>
    c.putFlit r k 0 f.1 f.2)
  if rest.length < l.unacked.length then
    c1.each ((List.range 4).filter (fun j => (c1.link r j).held)) (fun c j =>
      (c.setLink r j (fun h => { h with held := false })).putFlit r j 2 (c.link r j).rxSeq [])
  else c1

/-- The other end requests replay: the replay buffer is repeated from its oldest flit. -/
def Chip.replayFlits (c : Chip) (r k : Nat) : Chip :=
  c.each ((c.link r k).unacked.take 32) (fun c f => c.putFlit r k 0 f.1 f.2)

/-- Has region r room for a flit: it is for r itself, or the link it goes on by has a place in its replay buffer, or no link
leads on now and the flit waits in the region? -/
def Chip.roomFor (c : Chip) (r : Nat) (ws : List Nat) : Bool :=
  nth 0 ws 0 == r ||
    (let x := match ws.drop 4 with
        | x :: _ => if !(c.linksTo r x).isEmpty then some x else none
        | [] => none
     match x <|> (c.pathTo r (nth 0 ws 0)).bind (fun e => e.2.2.2.head?) with
     | some x => (c.linksTo r x).all (fun k => decide ((c.link r k).unacked.length < 32))
     | none => true)

/-- The data flit that region r expects next on link k has arrived: it is taken if there is room, delivered if it is for r
and sent on if not (R38, R39, R43). -/
def Chip.takeFlit (c : Chip) (r k : Nat) (ws : List Nat) : Chip :=
  if !c.roomFor r ws then c.setLink r k (fun h => { h with held := true, fails := 0, again := false })
  else
    let c1 := c.setLink r k (fun h => { h with rxSeq := h.rxSeq + 1, fails := 0, held := false, again := false })
    if nth 0 ws 0 = r then c1.setFab r (fun f => f.deliver ws) else c1.sendOn r ws

/-! ### Meanings: blocks -/

/-- CELL_CHECK_FAILURE (R28): a repeat that passes counts as a retry, one that fails is a block failure. -/
def execCellCheckFailure (r : Fin 8) (block : Fin 16) (passed : Bool) (s : State) : Out :=
  if !s.chip.fitted r.val then .next s
  else if passed then chipOnly s (·.bump (regionAt r.val) Region.retries)
  else .next (s.blockFailure r.val block.val 2)

/-- BLOCK_FAILURE (R31): an uncorrectable ECC error in one of the block's memories. -/
def execBlockFailure (r : Fin 8) (block : Fin 16) (s : State) : Out := .next (s.blockFailure r.val block.val 1)

/-- CORRECTABLE_ECC_ERROR (R34): corrected, written back and counted; no block failure. -/
def execCorrectableEccError (r : Fin 8) (s : State) : Out :=
  chipOnly s (fun c => c.when (c.fitted r.val) (·.bump (regionAt r.val) Region.ecc_corrected))

/-- PATROL_SCRUB_PASS (R34, R533): a full pass of the region's steward is over. -/
def execPatrolScrubPass (r : Fin 8) (corrected : BitVec 32) (s : State) : Out :=
  chipOnly s (fun c =>
    let b := stewAt r.val
    if !c.flag b Stew.running || c.phase != 8 then c
    else ((c.bump b Stew.scrub_passes).put b Stew.scrub_corrected corrected.toNat).record 16 r.val 0 r.val [] [corrected.toNat])

/-- UNFENCE: the unfence command of the region block (R35). -/
def execUnfence (r : Fin 8) (block : Fin 16) (s : State) : Out :=
  chipOnly s (fun c => c.regionCommand r.val (1 + 2 ^ 16 * block.val))

/-- BLOCK_SELF_TEST_DONE (R35): the self-test of the block that is being unfenced is over. While the engine
runs its cycles the block returns at the next boundary, else at once. -/
def execBlockSelfTestDone (r : Fin 8) (ok : Bool) (s : State) : Out :=
  match nth none s.chip.sys.testing r.val with
  | none => .next s
  | some (i, failed) =>
    let s1 := s.onChip (fun c => c.setSys (fun y => { y with testing := setAt y.testing r.val none }))
    if !ok || failed then chipOnly s1 (·.put (regionAt r.val) Region.result 4)
    else if s1.chip.engineRuns then
      chipOnly s1 (fun c => c.setSys (fun y => { y with returns := y.returns ++ [(r.val, i)] }))
    else .next (s1.returnBlock r.val i)

/-- RETRAIN: the retrain command of the region block; every link that is down and not latched may train at once (R41). -/
def execRetrain (r : Fin 8) (s : State) : Out := chipOnly s (fun c => c.regionCommand r.val 2)

/-- REGION_CLEAR_COUNTERS: the clear-counters command of the region block (R54). -/
def execRegionClearCounters (r : Fin 8) (s : State) : Out := chipOnly s (fun c => c.regionCommand r.val 4)

/-! ### Meanings: links -/

/-- FLIT_RECEIVE (R39, R40): a flit as it was sent, its body the content and the CRC that arrived: kind 0 a data flit with its number, 1 a link-control
flit and 2 a replay request, both with the number the other end expects next. A data flit whose first check and eight replays fail
takes the link down; other flits do not count toward that. A flit beyond the one awaited tells that one was lost, and replay is
requested too. -/
def execFlitReceive (r : Fin 8) (link : Fin 4) (kind : Fin 3) (number : BitVec 32) (body : List (BitVec 32) × BitVec 16)
    (s : State) : Out :=
  chipOnly s (fun c =>
    let b := regionAt r.val
    let k := link.val
    let ws := body.1.map (·.toNat)
    if !c.fitted r.val || !c.getBit b Region.link_up k then c
    else if flitCrc kind.val number.toNat ws != body.2.toNat then
      let again := kind = 0 && number.toNat == (c.link r.val k).rxSeq
      let c1 := ((c.bumpByI b Region.crc_errors k 1).bumpByI b Region.replays k 1).setLink r.val k
        (fun h => { h with
          fails := h.fails + b2n again, again := h.again || (kind = 0 && decide (h.rxSeq ≤ number.toNat)) })
      if 9 ≤ (c1.link r.val k).fails then c1.linkDown r.val k 1
      else c1.putFlit r.val k 2 (c1.link r.val k).rxSeq []
    else
      let c1 := (c.setLink r.val k (fun h => { h with goodAt := c.now })).countPass r.val 5 (k + 1) false 7 3 8
      let l := c1.link r.val k
      if kind = 0 then
        (if number.toNat = l.rxSeq then c1.takeFlit r.val k ws
          else if l.rxSeq < number.toNat && !l.held then
            (c1.setLink r.val k (fun h => { h with again := true })).putFlit r.val k 2 l.rxSeq []
          else c1)
      else if kind = 1 then c1.flitsAcked r.val k number.toNat
      else (c1.flitsAcked r.val k number.toNat).replayFlits r.val k)

/-- LINK_SILENCE_TIMEOUT (R40): no flit with a valid CRC for 100 ticks. -/
def execLinkSilenceTimeout (r : Fin 8) (link : Fin 4) (s : State) : Out :=
  chipOnly s (fun c =>
    if c.fitted r.val && decide ((c.link r.val link.val).goodAt + 100 ≤ c.now) then c.linkDown r.val link.val 2 else c)

/-- LINK_CONTROL_FLIT (R40): at every tenth tick, on every link that is up. A replay that was asked for and has not come is asked for
again with it (DESIGN CHOICE, log entry 108). -/
def execLinkControlFlit (r : Fin 8) (link : Fin 4) (s : State) : Out :=
  chipOnly s (fun c =>
    if !c.fitted r.val || !c.getBit (regionAt r.val) Region.link_up link.val || c.now % 10 != 0 then c
    else
      let l := c.link r.val link.val
      (c.putFlit r.val link.val 1 l.rxSeq []).when l.again (·.putFlit r.val link.val 2 l.rxSeq []))

/-- LINK_RETRAIN_ATTEMPT (R41): 10 ms after going down, and every 10 ms after a failure; a latched link is not retried. -/
def execLinkRetrainAttempt (r : Fin 8) (link : Fin 4) (trained : Bool) (s : State) : Out :=
  chipOnly s (fun c =>
    let b := regionAt r.val
    let l := c.link r.val link.val
    if !c.fitted r.val || c.getBit b Region.link_up link.val || c.getBit b Region.link_latched link.val
        || c.panel.s2At.isNone || decide (c.now < l.downAt + 10000) then c
    else if trained then
      let c1 := (c.putBit b Region.link_up link.val true).restartLink r.val link.val
      (c1.routesSync.record 18 r.val 0 link.val [] []).sendWaiting
    else
      let c1 := c.setLink r.val link.val (fun h => { h with downAt := c.now, failRec := true })
      if l.failRec then c1 else c1.record 17 r.val 1 link.val [3] [c.getI b Region.replays link.val])

/-! ### Meanings: beacons and fences -/

/-- BEACON (R45): every 250 ticks from the end of S2 the lead sends a beacon to every region, a fenced one too; missing
acknowledgements are counted from the first one, until a fence is declared. -/
def execBeacon (s : State) : Out :=
  chipOnly s (fun c =>
    match c.panel.s2At with
    | none => c
    | some t =>
      if c.regionFenced 0 || (c.now - t) % 250 != 0 then c
      else c.each c.regions (fun c d =>
        let c1 := c.when (!c.regionClosed d) (·.setFab d (fun f => { f with ackAt := some (f.ackAt.getD c.now) }))
        if d = 0 then c1 else c1.sendTowards 0 d 3))

/-- BEACON_RECEIVE (R45): the region counts its silence anew and acknowledges, in region fence too (R46). -/
def execBeaconReceive (r : Fin 8) (s : State) : Out :=
  chipOnly s (fun c =>
    if !c.fitted r.val || c.panel.s2At.isNone then c
    else
      let c1 := (c.setFab r.val (fun f => { f with beaconAt := some c.now })).put (regionAt r.val) Region.beacon_ok 1
      if r = 0 then c1 else c1.sendTowards r.val 0 4)

/-- BEACON_ACK_RECEIVE (R45, R46): at the lead; a fence declaration stands whatever comes later. -/
def execBeaconAckReceive (r : Fin 8) (s : State) : Out :=
  chipOnly s (fun c =>
    if !c.fitted r.val || c.regionClosed r.val || (c.fabr r.val).ackAt.isNone then c
    else c.setFab r.val (fun f => { f with ackAt := some c.now, gap := false }))

/-- BEACON_GAP (Table 1.4): the lead has missed acknowledgements for 1,000 ticks. -/
def execBeaconGap (r : Fin 8) (s : State) : Out :=
  chipOnly s (fun c =>
    match (c.fabr r.val).ackAt with
    | some t =>
      if c.regionClosed r.val || c.regionFenced 0 || (c.fabr r.val).gap || decide (c.now < t + 1000) then c
      else (c.setFab r.val (fun f => { f with gap := true })).record 23 r.val 1 r.val [] [c.now - t]
    | none => c)

/-- A region enters region fence, which is a module-level fault (R47, R49), raised already where the lead has declared the
fence; without region 0 no lead declares it, and the outcome at the outputs is the same (R50). -/
def State.regionFence (s : State) (r : Nat) : State :=
  if s.chip.regionFenced r || !s.chip.fitted r then s
  else
    let s1 := s.fenceRegion r
    if s.chip.sys.declared.testBit r then s1
    else if s1.chip.regionFenced 0 then s1.onChip (fun c =>
      let c1 := c.put statusAt Status.module_fault_seen 1
      if c1.phase = 8 then c1.faultStop else (c1.put engineAt Engine.state 3).xferAbort)
    else s1.onChip (·.moduleFault 1 r)

/-- BEACON_SILENCE_TIMEOUT (R46): no beacon for 2,000 ticks. -/
def execBeaconSilenceTimeout (r : Fin 8) (s : State) : Out :=
  match (s.chip.fabr r.val).beaconAt with
  | some t => .next (if s.chip.now < t + 2000 then s else s.regionFence r.val)
  | none => .next s

/-- ACK_TIMEOUT (R46, Table 1.4): no acknowledgement for 2,000 ticks; the lead declares the region fenced, once and for good,
records sources 22 and 27 and sends a fence order, on which the region's field guard acts. Without a path no order arrives: the
region fences itself on its own count. -/
def execAckTimeout (r : Fin 8) (s : State) : Out :=
  match (s.chip.fabr r.val).ackAt with
  | some t =>
    if s.chip.regionFenced 0 || s.chip.sys.declared.testBit r.val || decide (s.chip.now < t + 2000) then .next s
    else
      let fenced := s.chip.regionFenced r.val
      let silent := match (s.chip.fabr r.val).beaconAt with
        | some b => decide (b + 2000 ≤ s.chip.now)
        | none => false
      let s1 := s.onChip (fun c => ((c.declareFence r.val (if fenced || silent then 1 else 2)).sendTowards 0 r.val 5).setFab r.val
        (fun f => { f with ackAt := none }))
      let s2 := if fenced then s1 else s1.onChip (·.moduleFault 1 r.val)
      .next (if silent || r = 0 || (s.chip.routeTo 0 r.val).isSome then s2.regionFence r.val else s2)
  | none => .next s

/-- FENCE_ORDER (R46): a fence order of the lead, which has declared the fence, reaches the region. -/
def execFenceOrder (r : Fin 8) (s : State) : Out :=
  let c := s.chip
  if c.regionFenced r.val || !c.fitted r.val || c.panel.s2At.isNone then .next s
  else if c.sys.declared.testBit r.val then .next (s.regionFence r.val)
  else .next (((s.onChip (·.declareFence r.val 2)).onChip (·.moduleFault 1 r.val)).regionFence r.val)

/-- JUNCTION_TEMP_UPDATE (R49, R51, R54): the junction temperature in 1/16 °C and the pace of a region. From the start of S2 on 125 °C
or more is a module-level fault, raised once until the temperature has fallen below. -/
def execJunctionTempUpdate (r : Fin 8) (tj : BitVec 16) (pace : BitVec 32) (s : State) : Out :=
  chipOnly s (fun c =>
    if !c.fitted r.val then c
    else
      let b := regionAt r.val
      let t := signed 16 tj.toNat
      let c1 := (c.put b Region.tj tj.toNat).put b Region.pace pace.toNat
      let hot := (c.fabr r.val).hot
      let c2 := if 1680 ≤ t && !hot then
          (c1.setFab r.val (fun f => { f with hot := true })).record 26 r.val 1 r.val [] [unsigned 32 t]
        else if t < 1600 then c1.setFab r.val (fun f => { f with hot := false })
        else c1
      if t < 2000 then c2.setFab r.val (fun f => { f with scorched := false })
      else if c.phase < 2 || (c.fabr r.val).scorched then c2
      else (c2.setFab r.val (fun f => { f with scorched := true })).moduleFault 5 r.val)

end Sys2Proof.Machine
end

