-- ==== Sys2Proof/Machine/Crossings.lean ====
section
/-! DEFINITION. Timed domains and crossings (R56 to R74): loss and return of domain clocks, the loss of TB, count tongs,
resynchronisation. -/

namespace Sys2Proof.Machine

/-- Mark a domain clock of a region lost, from now on, or present (Table 2.6). -/
def Chip.markClock (c : Chip) (r d : Nat) (lost : Bool) : Chip :=
  let c1 := (c.setSys (fun s => { s with
    clkLost := upd s.clkLost r (withBit · d lost)
    clkAt := if lost then assocSet s.clkAt (8 * r + d) c.now else s.clkAt })).putBit (regionAt r) Cross.clock_ok d (!lost)
  c1.when lost (·.putBit (regionAt r) Cross.clock_lost d true)

/-- Nominal frequency of domain d of region r in Hz (Table 2.1); the pixel clock is the one the panel is driven with. -/
def Chip.nominalHz (c : Chip) (r d : Nat) : Nat :=
  if d = 6 then ((c.panel.use.map (fun u => 1000 * u.pclk)).getD (1000 * c.get panelAt Panel.pclk))
  else if d = 7 then (if r % 2 = 0 then 24000000 else 25000000)
  else nth 0 [50000000, 32768, 80000000, 125000000, 20480000, 40000000] d

/-- Is a frequency within so many thousandths of nominal? -/
def Chip.hzWithin (c : Chip) (r d hz permille : Nat) : Bool :=
  let n := c.nominalHz r d
  decide (1000 * hz ≤ (1000 + permille) * n) && decide ((1000 - permille) * n ≤ 1000 * hz)

/-- The window of clock supervision in ticks (R58). -/
def clockWindow (d : Nat) : Nat := if d = 1 then 1000000 else 1000

/-- The channels of region r. -/
def chansOf (r : Nat) : List Nat := (List.range 16).map (fun k => 16 * r + k)

/-- The consequences of a lost domain clock (Table 2.2). -/
def State.clockEffect (s : State) (r d : Nat) : State :=
  if d = 1 then s.onChip (·.put supplyAt Supply.cal_valid 0)
  else if d = 2 then s.onChip (·.portSync r)
  else if d = 3 then s.onChip (fun c => (c.laneFault r).stationDown r)
  else if d = 4 then s.onChip (fun c => c.each (chansOf r) (fun c g =>
    let c1 := if (c.mode g == 5 || c.mode g == 6) && (c.chan g).driven && !(c.chan g).safety then c.beginLevel2 g else c
    c1.putStatus g))
  else if d = 5 then s.onChip (fun c =>
    let c1 := (c.stageCause (2 * r) 9 true).stageCause (2 * r + 1) 9 true
    c1.each (chansOf r) (fun c g =>
      (c.setChan g (fun h => { h with pwmOn := false, closed := h.closed && !h.pwmOn })).putStatus g))
  else if d = 6 then s.startQuench 4
  else s.onChip (·.stopIsle r 1)

/-- CLOCK_LOST (R58, R59): a domain clock is lost, its edges absent (a frequency of 0) or its frequency measured more than 1 %
from nominal. The loss of TB is the field guards' own case (R60). -/
def execClockLost (r d : Fin 8) (hz : BitVec 32) (s : State) : Out :=
  let c := s.chip
  if !c.usesDomain r.val d.val || d = 0 || c.clkLost r.val d.val || decide (c.phase < 2)
      || (hz != 0 && c.hzWithin r.val d.val hz.toNat 10) then .next s
  else .next ((s.onChip (fun c => (c.markClock r.val d.val true).record 24 r.val 2 d.val [1] [hz.toNat])).clockEffect r.val
    d.val)

/-- The DRV clock of a channel has returned: its tongs carry the newest duty, with which PWM begins again (R69, R260). -/
def Chip.pwmReturn (c : Chip) (g : Nat) : Chip :=
  let h := c.chan g
  if doMode (c.mode g) && h.driven && h.seq == 0 && c.get (chanAt g) Dig.pwm_period != 0 then
    c.startPwm g (c.get (chanAt g) Chan.command)
  else c

/-- CLOCK_RETURN (R58, R68): the clock has been present and within 0.5 % of nominal over a full window; what Table 2.2 gives ends,
and what the tongs held crosses first. Analogue outputs take the value of the precedence at the next output write (R540). -/
def execClockReturn (r d : Fin 8) (hz : BitVec 32) (s : State) : Out :=
  chipOnly s (fun c =>
    let since := (assoc c.sys.clkAt (8 * r.val + d.val)).getD 0
    if !c.clkLost r.val d.val || (d = 0 && c.phase != 1) || !c.hzWithin r.val d.val hz.toNat 5 || decide (c.now < since + clockWindow d.val) then c
    else
      let c1 := (c.markClock r.val d.val false).record 24 r.val 0 d.val [0] [hz.toNat]
      if d = 2 then c1.portSync r.val
      else if d = 4 then c1.each (chansOf r.val) Chip.putStatus
      else if d = 5 then
        ((c1.stageCause (2 * r.val) 9 false).stageCause (2 * r.val + 1) 9 false).each (chansOf r.val) (fun c g =>
          (c.pwmReturn g).putStatus g)
      else if d = 6 then c1.wantPanel
      else c1)

/-- TB_LOSS_FENCE (R60): without TB every field guard fences its region, which is a module-level fault of the chip; in S1 the
module waits for it (Table 4.1). -/
def execTbLossFence (s : State) : Out :=
  if s.chip.phase = 0 || s.chip.regions.all s.chip.regionFenced then .next s
  else if s.chip.phase = 1 then .next (s.onChip (fun c => c.each c.regions (fun c r => c.markClock r 0 true)))
  else
    let s1 := s.chip.regions.foldl (fun s r => (s.onChip (·.markClock r 0 true)).fenceRegion r) s
    .next (s1.onChip (·.moduleFault 1 0xFF))

/-! ### Count tongs -/

/-- The number a 16-bit Gray code stands for. -/
def grayValue (g : Nat) : Nat :=
  let a := g ^^^ (g / 2 ^ 8)
  let b := a ^^^ (a / 2 ^ 4)
  let d := b ^^^ (b / 2 ^ 2)
  (d ^^^ (d / 2)) % 2 ^ 16

/-- The region of a count source: a channel, or E0 and E1 as 128 and 129. -/
def srcRegion (src : Nat) : Nat := if src < 128 then src / 16 else src - 128

/-- The count tongs of a source: those of its channel group, or of the axis block for an encoder. -/
def srcTongs (src : Nat) : Nat := if src < 128 then chanTongs src 5 else tongsKey (src - 128) 5 10

/-- The count last accepted from a source, and whether the next difference carries the flag of R67. -/
def Chip.tongsOf (c : Chip) (src : Nat) : Nat × Bool :=
  if src < 128 then ((c.chan src).tongs, (c.chan src).short67) else nth (0, false) c.sys.encs (src - 128)

/-- Set the reference of a source's tongs. -/
def Chip.setTongs (c : Chip) (src count : Nat) (short : Bool) : Chip :=
  if src < 128 then c.setChan src (fun h => { h with tongs := count, short67 := short })
  else c.setSys (fun s => { s with encs := setAt s.encs (src - 128) (count, short) })

/-- Is a source counted now: its channel in CNT mode past step 3 of Table 8.2, its encoder on, its domain clock present? -/
def Chip.counting (c : Chip) (src : Nat) : Bool :=
  let r := srcRegion src
  c.fitted r && !c.regionFenced r && !c.clkLost r 5 && !c.tongsWait (srcTongs src) &&
    (if src < 128 then c.mode src == 11 && !c.chanDead src && (c.chan src).seq != 1 && (c.chan src).seq != 2
     else c.get (regionAt r) Enc.enc_mode != 0)

/-- COUNT_TRANSFER (R66): a Gray-coded count crosses; its difference modulo 2^16 is added to the total, which the image of a CNT channel
shows (R256). An encoder's difference is signed, as its total is, and `invert` reverses it; with its count comes whether A and B have
changed together, which sets enc_err (R332, log entry 128). -/
def execCountTransfer (src : Fin 130) (count : BitVec 16 × Bool) (s : State) : Out :=
  chipOnly s (fun c =>
    if !c.counting src.val then c
    else
      let (last, short) := c.tongsOf src.val
      let n := grayValue count.1.toNat
      let diff := (n + 2 ^ 16 - last) % 2 ^ 16
      let c1 := c.setTongs src.val n false
      if src.val < 128 then
        let b := chanAt src.val
        let n := (c.get b Dig.count + diff) % 2 ^ 32
        let c2 := (c1.put b Dig.count n).setChan src.val (fun h => { h with shorts := h.shorts + b2n short })
        if (c.chan src.val).surveyed then c2 else c2.setImage src.val n
      else
        let b := regionAt (src.val - 128)
        let step := if c.flag b Enc.invert then -signed 16 diff else signed 16 diff
        ((c1.put b Enc.count ((c.get b Enc.count + unsigned 32 step) % 2 ^ 32)).when short (·.put b Enc.overrun 1)).when count.2
          (·.put b Enc.enc_err 1))

/-- COUNT_OVERRUN (R67): the counter has advanced 32,768 or more beyond the count last acknowledged. -/
def execCountOverrun (src : Fin 130) (s : State) : Out :=
  chipOnly s (fun c =>
    let r := srcRegion src.val
    if !c.fitted r then c
    else ((c.setTongs src.val (c.tongsOf src.val).1 true).putBit (regionAt r) Cross.overrun 5 true).record 25 r 1 5 [] [])

/-- The count sources of region r: its channels, and its encoder. -/
def countSources (r : Nat) : List Nat := chansOf r ++ (if r ≤ 1 then [128 + r] else [])

/-- Tongs resynchronise: count tongs restart at zero, and the first difference they deliver carries the flag of R67 (R71). -/
def Chip.resyncTongs (c : Chip) (r : Nat) (ks : List Nat) (flag : Bool) : Chip :=
  (c.each ((countSources r).filter (fun n => ks.contains (srcTongs n))) (fun c n => c.setTongs n 0 flag)).setSys (fun y => { y with
    resync := y.resync.filter (fun k => !ks.contains k) })

/-- TONGS_RESYNC (R70 to R72): the tongs of a domain have resynchronised after a reset, those the module reset or, where none waits,
those of a source or of the whole domain behind which a unit has restarted (a converter or PHY restart). What was in flight is discarded
and counted: the entries of the queues, and `inFlight` value and count transfers. With the clock stopped resynchronisation waits for
it. -/
def execTongsResync (r d : Fin 8) (inFlight : BitVec 12) (src : Option (Fin 130)) (s : State) : Out :=
  chipOnly s (fun c =>
    if !c.usesDomain r.val d.val then c
    else
      let waits := c.sys.resync.filter (fun k => k / 16 == 8 * r.val + d.val)
      let ks := if !waits.isEmpty then waits else match src with
        | some n => if srcRegion n.val = r.val && d = 5 then [srcTongs n.val] else []
        | none => (List.range 16).map (tongsKey r.val d.val)
      let c1 := if waits.isEmpty then c.each ks Chip.resetTongs else c
      if c.clkLost r.val d.val then c1
      else
        let b := regionAt r.val
        let c2 := if c.phase != 8 then c1 else
          (c1.bumpByI b Cross.resyncs d.val 1).bumpByI b Cross.discarded d.val inFlight.toNat
        c2.resyncTongs r.val ks true)

/-- clear_crossings: words 0x0011 to 0x0018 of a region block are cleared (R74). -/
def Chip.cmdClearCrossings (c : Chip) (r : Nat) : Chip :=
  if !c.opens r then c else (List.range 8).foldl (fun c d => c.setNat (regionAt r + 0x11 + d) 0) c

/-- CLEAR_CROSSINGS: the command of a region block. -/
def execClearCrossings (r : Fin 8) (s : State) : Out := chipOnly s (fun c => c.cmdClearCrossings r.val)

end Sys2Proof.Machine
end

