-- ==== Sys2Proof/Machine/Ed25519.lean ====
section
/-! DEFINITION. Verification of Ed25519 signatures in the pure form (R134). The spec names RFC 8032 and prints none of it: the
curve, the hash SHA-512 and the encodings are PRESUMED from RFC 8032 and FIPS 180-4 (log entry 5). -/

namespace Sys2Proof.Machine

/-! ### SHA-512 -/

/-- The 80 round words of FIPS 180-4 as one number, the first word its most significant 64 bits. -/
def sha512Table : Nat :=
  0x428a2f98d728ae227137449123ef65cdb5c0fbcfec4d3b2fe9b5dba58189dbbc3956c25bf348b53859f111f1b605d019923f82a4af194f9bab1c5ed5da6d8118d807aa98a303024212835b0145706fbe243185be4ee4b28c550c7dc3d5ffb4e272be5d74f27b896f80deb1fe3b1696b19bdc06a725c71235c19bf174cf692694e49b69c19ef14ad2efbe4786384f25e30fc19dc68b8cd5b5240ca1cc77ac9c652de92c6f592b02754a7484aa6ea6e4835cb0a9dcbd41fbd476f988da831153b5983e5152ee66dfaba831c66d2db43210b00327c898fb213fbf597fc7beef0ee4c6e00bf33da88fc2d5a79147930aa72506ca6351e003826f142929670a0e6e7027b70a8546d22ffc2e1b21385c26c9264d2c6dfc5ac42aed53380d139d95b3df650a73548baf63de766a0abb3c77b2a881c2c92e47edaee692722c851482353ba2bfe8a14cf10364a81a664bbc423001c24b8b70d0f89791c76c51a30654be30d192e819d6ef5218d69906245565a910f40e35855771202a106aa07032bbd1b819a4c116b8d2d0c81e376c085141ab532748774cdf8eeb9934b0bcb5e19b48a8391c0cb3c5c95a634ed8aa4ae3418acb5b9cca4f7763e373682e6ff3d6b2b8a3748f82ee5defb2fc78a5636f43172f6084c87814a1f0ab728cc702081a6439ec90befffa23631e28a4506cebde82bde9bef9a3f7b2c67915c67178f2e372532bca273eceea26619cd186b8c721c0c207eada7dd6cde0eb1ef57d4f7fee6ed17806f067aa72176fba0a637dc5a2c898a6113f9804bef90dae1b710b35131c471b28db77f523047d8432caab7b40c724933c9ebe0a15c9bebc431d67c49c100d4c4cc5d4becb3e42b6597f299cfc657e2a5fcb6fab3ad6faec6c44198c4a475817

/-- Rotate a 64-bit value right. -/
def ror64 (x n : Nat) : Nat := (x >>> n ||| x <<< (64 - n)) % 2 ^ 64

/-- Sum modulo 2^64. -/
def add64 (a b : Nat) : Nat := (a + b) % 2 ^ 64

/-- Round t with a message word; the working words are those of a 64-bit hash. -/
def Sha.wideRound (s : Sha) (t w : Nat) : Sha :=
  let k := sha512Table >>> (5056 - 64 * t) % 2 ^ 64
  let up := s.h + (ror64 s.e 14 ^^^ ror64 s.e 18 ^^^ ror64 s.e 41) + (s.g ^^^ (s.e &&& (s.f ^^^ s.g))) + k + w
  let low := (ror64 s.a 28 ^^^ ror64 s.a 34 ^^^ ror64 s.a 39) + ((s.a &&& (s.b ||| s.c)) ||| (s.b &&& s.c))
  { a := add64 up low, b := s.a, c := s.b, d := s.c, e := add64 s.d up, f := s.e, g := s.f, h := s.g }

/-- The next message word after sixteen, newest first. -/
def sha512NextWord (last : List Nat) : Nat :=
  let x := nth 0 last 14
  let y := nth 0 last 1
  (nth 0 last 15 + (ror64 x 1 ^^^ ror64 x 8 ^^^ x >>> 7) + nth 0 last 6 + (ror64 y 19 ^^^ ror64 y 61 ^^^ y >>> 6)) % 2 ^ 64

/-- The last `n` of 80 rounds. -/
def Sha.wideRounds (s : Sha) : Nat → List Nat → List Nat → Sha
  | 0, _, _ => s
  | n + 1, fresh, last =>
    let w := fresh.headD (sha512NextWord last)
    (s.wideRound (79 - n) w).wideRounds n fresh.tail (w :: last.take 15)

/-- Word by word, modulo 2^64. -/
def Sha.widePlus (s t : Sha) : Sha :=
  ⟨add64 s.a t.a, add64 s.b t.b, add64 s.c t.c, add64 s.d t.d, add64 s.e t.e, add64 s.f t.f, add64 s.g t.g, add64 s.h t.h⟩

/-- `n` big-endian words of eight bytes. -/
def beWords8 : Nat → List Nat → List Nat
  | 0, _ => []
  | n + 1, bs => leNat (bs.take 8).reverse :: beWords8 n (bs.drop 8)

/-- Hash `n` blocks of 128 bytes. -/
def Sha.wideBlocks (s : Sha) : Nat → List Nat → Sha
  | 0, _ => s
  | n + 1, bs => (s.widePlus (s.wideRounds 80 (beWords8 16 bs) [])).wideBlocks n (bs.drop 128)

/-- SHA-512 of a byte string, 64 bytes. -/
def sha512 (bs : List Nat) : List Nat :=
  let full := bs ++ 0x80 :: (List.replicate ((239 - bs.length % 128) % 128) 0 ++ (leBytes 16 (8 * bs.length)).reverse)
  let start : Sha := ⟨0x6a09e667f3bcc908, 0xbb67ae8584caa73b, 0x3c6ef372fe94f82b, 0xa54ff53a5f1d36f1, 0x510e527fade682d1, 0x9b05688c2b3e6c1f, 0x1f83d9abfb41bd6b, 0x5be0cd19137e2179⟩
  let s := start.wideBlocks (full.length / 128) full
  [s.a, s.b, s.c, s.d, s.e, s.f, s.g, s.h].flatMap (fun w => (leBytes 8 w).reverse)

/-! ### The curve -/

/-- The field's prime. -/
def edP : Nat := 2 ^ 255 - 19

/-- The order of the base point. -/
def edL : Nat := 2 ^ 252 + 27742317777372353535851937790883648493

/-- b to the power e modulo the prime, over the `n` low bits of e. -/
def edPow : Nat → Nat → Nat → Nat
  | 0, _, _ => 1
  | n + 1, b, e =>
    let r := edPow n (b * b % edP) (e / 2)
    if e % 2 = 1 then b * r % edP else r

/-- The inverse of a field element. -/
def edInv (x : Nat) : Nat := edPow 255 x (edP - 2)

/-- The curve constant −121665/121666. -/
def edD : Nat := (edP - 121665) * edInv 121666 % edP

/-- A point x/z, y/z with t = x·y/z. -/
structure EdPoint where
  x : Nat
  y : Nat
  z : Nat
  t : Nat

/-- The difference of field elements. -/
def edSub (a b : Nat) : Nat := (a + edP - b % edP) % edP

/-- The sum of two points. -/
def EdPoint.add (p q : EdPoint) : EdPoint :=
  let a := edSub p.y p.x * edSub q.y q.x % edP
  let b := (p.y + p.x) * (q.y + q.x) % edP
  let c := 2 * p.t * q.t * edD % edP
  let d := 2 * p.z * q.z % edP
  let e := edSub b a
  let f := edSub d c
  let g := (d + c) % edP
  let h := (b + a) % edP
  { x := e * f % edP, y := g * h % edP, z := f * g % edP, t := e * h % edP }

/-- A multiple of a point, over the `n` low bits of the factor. -/
def EdPoint.mul : Nat → Nat → EdPoint → EdPoint
  | 0, _, _ => ⟨0, 1, 1, 0⟩
  | n + 1, k, p =>
    let r := EdPoint.mul n (k / 2) (p.add p)
    if k % 2 = 1 then p.add r else r

/-- Do two points stand for the same one? -/
def EdPoint.same (p q : EdPoint) : Bool :=
  p.x * q.z % edP == q.x * p.z % edP && p.y * q.z % edP == q.y * p.z % edP

/-- The point that 32 bytes encode: y, and the low bit of x in the topmost bit. -/
def edDecode (bs : List Nat) : Option EdPoint :=
  let n := leNat bs
  let y := n % 2 ^ 255
  let sign := n / 2 ^ 255
  let u := edSub (y * y) 1
  let v := (edD * (y * y % edP) + 1) % edP
  let w := u * edPow 255 v 3 % edP * edPow 255 (u * edPow 255 v 7 % edP) ((edP - 5) / 8) % edP
  let x := if v * (w * w % edP) % edP = u then w else w * edPow 255 2 ((edP - 1) / 4) % edP
  let x1 := if x % 2 = sign then x else (edP - x) % edP
  if bs.length ≠ 32 ∨ edP ≤ y ∨ v * (x * x % edP) % edP ≠ u ∨ (x = 0 ∧ sign = 1) then none
  else some ⟨x1, y, 1, x1 * y % edP⟩

/-- The base point: y is 4/5 and x is even. -/
def edBase : Option EdPoint := edDecode (leBytes 32 (4 * edInv 5 % edP))

/-- Verify a signature of 64 bytes of a message under a public key of 32 bytes. RFC 8032 permits the group equation with the cofactor 8 and
the one without; it is checked with it (PRESUMED, log entry 5). -/
def edVerify (key msg sig : List Nat) : Bool :=
  let rb := sig.take 32
  let s := leNat (sig.drop 32)
  let k := leNat (sha512 (rb ++ key ++ msg)) % edL
  match edDecode key, edDecode rb, edBase with
  | some a, some r, some b =>
    sig.length == 64 && decide (s < edL) &&
      (EdPoint.mul 4 8 (EdPoint.mul 253 s b)).same
        (EdPoint.mul 4 8 ((EdPoint.mul 253 k a).add r))
  | _, _, _ => false

end Sys2Proof.Machine
end

