-- ==== Sys2Proof/Machine/Power.lean ====
section
/-! DEFINITION. Supplies, hold-up and the always-on domain (R75 to R91): supply steps, the hold-up sequence of Table 3.2,
reset, the comparators and the dormant state. -/

namespace Sys2Proof.Machine

/-! ### The hold-up sequence and reset -/

/-- The axes as the retained store takes them (R328): p in whole microsteps as issued, the reference state, whether v was not zero. -/
def Chip.captureAxes (c : Chip) : List AxKeep :=
  (List.range 16).map (fun x => { p := pFix (c.ax x).issued, ref := c.get (axisAt x) Axis.ref_state, moving := (c.ax x).v != 0 })

/-- Change the retained store. -/
def State.setRetained (s : State) (f : Retained → Retained) : State :=
  { s with flash := { s.flash with retained := f s.flash.retained } }

/-- Step 4 of Table 3.2: what the module holds valid goes into the retained store (R82): the axis positions from the end of S5 on, and the
panel's dirty mark from the end of S3 on; a waveform that runs sets it in any phase. What the recorder counts is valid once its store is
mounted. -/
def State.keepRetained (s : State) (axes : List AxKeep) : State :=
  let c := s.chip
  s.setRetained (fun r => { r with
    ok := r.ok || c.recd.mounted
    axesOk := r.axesOk || decide (6 ≤ c.phase)
    axes := if 6 ≤ c.phase then axes else r.axes
    dirty := c.waveRuns || (if 4 ≤ c.phase then c.flag panelAt Panel.dirty else r.dirty) })

/-- Steps 2 to 4 of Table 3.2 in run: engine, slices and axes stop, every output is de-energised, what runs is aborted, the
quench begins, the axes and the dirty mark are written to the retained store. -/
def State.powerDown (s : State) : State :=
  let c := s.chip
  let c1 := ((c.haltEngine 4).stopSlices 5).each ((List.range 16).filter c.axUsed) (fun c x => c.stageCause x 6 true)
  let c2 := c1.each ((List.range 128).filter (fun g => c.fitted (g / 16))) (fun c g => c.deenergise g)
  let c3 := (match c2.svyTarget with
    | some _ => c2.svyEnd 5 0 0
    | none => c2).xferAbort
  let s1 := State.startQuench { s with chip := c3 } 1
  s1.keepRetained c.captureAxes

/-- Words that a reset leaves: the identity and the addresses of the factory, the comparators and wake bits of the always-on
domain, the calibration of each channel (R81, R85, R241, R531; log entry 34). -/
def keptWord (a : Nat) : Bool :=
  (decide (identAt ≤ a) && decide (a < identAt + 9)) || a == supplyAt + 0xE || a == supplyAt + 0xF || a == slinkAt + 6
    || a == slinkAt + 7
    || (decide (spaceOf a < 8) && decide (0x010 ≤ blockOf a && blockOf a ≤ 0x01F) && decide (0x11 ≤ offOf a && offOf a ≤ 0x13))

/-- Every tongs of the module: those of its blocks in their domains, and of the safety slices. -/
def Chip.allTongs (c : Chip) : List Nat :=
  c.regions.flatMap (fun r => ((List.range 16).flatMap (blockTongs r) ++ [tongsKey r 7 1]).filter (fun k => c.usesDomain r (k / 16 % 8)))

/-- What survives a reset (R81, R85, R529): the always-on domain with the calendar, its comparators and wake bits, the factory
words and calibrations; everything else is as after power-up. A back plate that was recorded above 70.0 °C stays so over the
reset, and no further record is made for it (DESIGN CHOICE, log entry 110). The queue tongs deliver what may cross, then every tongs is
reset: what they still hold is discarded (R70 to R72). -/
def Chip.afterReset (c0 : Chip) : Chip :=
  let c := c0.crossNow
  let base : Chip := { regs := c.regs.filter (fun e => keptWord e.1), calFs := c.calFs, freeCtr := c.freeCtr
                       crossed := c.crossed, aon := c.aon, sys := { resync := c.allTongs } }
  (base.put supplyAt Supply.gs_off_seen 0).put supplyAt Supply.cal_valid (c.get supplyAt Supply.cal_valid)

/-- The module enters S1 from reset: ticks count from here; the start and its cause are noted (R532). -/
def State.startS1 (s : State) (cause wake : Nat) : State :=
  let n := (s.flash.retained.starts + 1) % 2 ^ 32
  let s1 := s.setRetained (fun r => { r with starts := n })
  s1.onChip (fun c =>
    let c1 := { c.afterReset with aon := { c.aon with dormant := false } }
    (((c1.put surveyAt Survey.phase 1).put statusAt Status.start_cause cause).put statusAt Status.wake_index wake).put statusAt
      Status.starts n)

/-- The targets out of service, kind and index. -/
def Chip.oosTargets (c : Chip) : List (Nat × Nat) :=
  ((List.range 5).flatMap (fun k => (List.range (nth 0 [128, 16, 8, 2, 1] k)).map (fun i => (k, i)))).filter (fun t =>
    c.flag (recAt t.1 t.2) SRec.oos)

/-- The stamp of the power fail goes into the retained store, and the recorder is flushed (steps 4 to 6 of Table 3.2). What was out of
service from S5 on is noted, since its return at the next start is recorded (R109; log entry 113). -/
def State.stampAndFlush (s : State) (stamp : Nat) (how : WriteHow) (count : Nat) : State :=
  (s.setRetained (fun r => { r with
    failStamp := stamp, oos := if 6 ≤ s.chip.phase then s.chip.oosTargets else r.oos })).flush how count

/-! ### Thresholds -/

/-- Is a voltage below a threshold, whose accuracy is ±1.5 % (R77)? -/
def isBelow (t mv : Nat) : Bool := decide (1000 * mv < 1015 * t)

/-- Is a voltage at or above a threshold, within its accuracy? -/
def isAtLeast (t mv : Nat) : Bool := decide (985 * t ≤ 1000 * mv)

/-- Is a voltage above a threshold, within its accuracy? -/
def isAbove (t mv : Nat) : Bool := decide (985 * t < 1000 * mv)

/-- Is a voltage at or below a threshold, within its accuracy? -/
def isAtMost (t mv : Nat) : Bool := decide (1000 * mv ≤ 1015 * t)

/-- Has a GS crossed the threshold of step n (1 warning, 2 reduced, 3 off, 4 absent) in a direction (Table 3.1)? -/
def gsCrosses (n : Nat) (entered : Bool) (mv : Nat) : Bool :=
  if entered then isBelow (nth 0 [19000, 16000, 13000, 10000] (n - 1)) mv
  else isAtLeast (nth 0 [19500, 16500, 18000, 18000] (n - 1)) mv

/-- Is the always-on domain without supply: the supercapacitor is exhausted and no LS has returned (R84)? -/
def Chip.aonStopped (c : Chip) : Bool := c.aon.exhausted && c.phase == 0 && !c.getBit supplyAt Supply.cmp_now 0

/-- A comparator asserts (R86): cmp_now and cmp_latched, the latch with the stamp of the first assertion and their count, and
source 7 at once while the recorder runs. -/
def Chip.assertCmp (c : Chip) (i : Nat) : Chip :=
  if c.getBit supplyAt Supply.cmp_now i then c
  else
    let c1 := (c.putBit supplyAt Supply.cmp_now i true).putBit supplyAt Supply.cmp_latched i true
    let runs := c.recd.mounted && c.get recdAt Recd.state == 1
    let (stamp, n, due) := (nth none c.aon.cmp i).getD (c.stamp, 0, false)
    let m := min 255 (n + 1)
    let c2 : Chip := { c1 with aon := { c1.aon with cmp := setAt c1.aon.cmp i (some (stamp, m, due || !runs)) } }
    if runs then c2.record 7 0xFF 1 i [] [stamp % 2 ^ 32, stamp / 2 ^ 32, m] else c2

/-- POWER_FAIL (R81, R82, R93, Table 3.2): the ORed LS falls below 14.0 V. The sequence runs to its end, then reset and S0. LS that
came back meanwhile starts the module at once. Before S8 steps 4 to 7 alone are carried out; a dormant module has nothing to
carry out. -/
def execPowerFail (millivolts : BitVec 16) (lsReturned : Bool) (s : State) : Out :=
  if !isBelow 14000 millivolts.toNat then .next s
  else
    let stamp := s.chip.stamp
    let lost (s : State) : State := s.onChip (fun c =>
      { (c.putBit supplyAt Supply.cmp_now 0 false) with aon := { c.aon with dormant := false } })
    let s2 : State := if s.chip.phase = 0 then lost s
      else
        let s1 : State := if s.chip.phase = 8 then
            (s.onChip (fun c => (c.yieldLease 8).record 4 0xFF 3 0 [] [millivolts.toNat, c.get engineAt Engine.cycle_count])).powerDown
          else s.keepRetained s.chip.captureAxes
        lost ((s1.stampAndFlush stamp .holdup 16384).onChip Chip.afterReset)
    if lsReturned then .next ((s2.onChip (·.assertCmp 0)).startS1 1 0) else .next s2

/-- A service restart (R93): a holder yields, steps 2 to 6 without source 4 and with the whole buffer written, then S1. -/
def State.restart (s : State) : State :=
  let stamp := s.flash.retained.failStamp
  let s1 : State := if s.chip.phase = 8 then (s.onChip (·.yieldLease 8)).powerDown
    else (State.startQuench (s.onChip Chip.xferAbort) 1).keepRetained s.chip.captureAxes
  (s1.stampAndFlush stamp .restart s1.chip.recd.buffer.length).startS1 3 0

/-- The module goes dormant (R87): outputs de-energised, the panel quenched, the store written; it rests in S0. -/
def State.goDormant (s : State) : State :=
  let s1 := s.powerDown
  let s2 := s1.stampAndFlush s1.flash.retained.failStamp .restart s1.chip.recd.buffer.length
  s2.onChip (fun c => { c.afterReset with aon := { c.aon with dormant := true } })

/-! ### Meanings: supplies -/

/-- LS_INPUT_STEP (R77, Table 3.1): LS-A or LS-B becomes absent or present. A start finds both inputs absent, their reset value, so
that an input present at the start is recorded as it is found (DESIGN CHOICE, log entry 111). -/
def execLsInputStep (b present : Bool) (millivolts : BitVec 16) (s : State) : Out :=
  chipOnly s (fun c =>
    let f := if b then Supply.ls_b else Supply.ls_a
    let crosses := if present then isAtLeast 17000 millivolts.toNat else isBelow 16000 millivolts.toNat
    if c.phase = 0 || c.flag supplyAt f == present || !crosses then c
    else (c.put supplyAt f (b2n present)).record 2 0xFF (b2n (!present)) (b2n b) [b2n (!present)] [millivolts.toNat])

/-- LS_LOW_HIGH_STEP (R77, Table 3.1): the ORed LS enters or leaves its low or high step; a warning only. -/
def execLsLowHighStep (high entered : Bool) (millivolts : BitVec 16) (s : State) : Out :=
  chipOnly s (fun c =>
    let f := if high then Supply.ls_high else Supply.ls_low
    let mv := millivolts.toNat
    let crosses := if high then (if entered then isAbove 32500 mv else isAtMost 32000 mv)
      else (if entered then isBelow 18000 mv else isAtLeast 18500 mv)
    if c.phase = 0 || c.flag supplyAt f == entered || !crosses then c
    else (((c.put supplyAt f (b2n entered)).when (!high) (·.setSys (fun y => { y with lsLowAt := c.now })))).record 3 0xFF
      (b2n entered) 0 [if entered then (if high then 2 else 1) else 0] [mv])

/-- The deepest step of a GS still held: 0 normal, 1 warning, 2 reduced, 3 off, 4 absent (R79). -/
def GsSt.deepest (g : GsSt) : Nat :=
  if g.absent then 4 else if g.off then 3 else if g.reduced then 2 else if g.warning then 1 else 0

/-- Is a step held? -/
def GsSt.step (g : GsSt) (n : Nat) : Bool := if n = 1 then g.warning else if n = 2 then g.reduced else if n = 3 then g.off else g.absent

/-- Enter or leave a step. -/
def GsSt.setStep (g : GsSt) (n : Nat) (b : Bool) : GsSt :=
  if n = 1 then { g with warning := b } else if n = 2 then { g with reduced := b } else if n = 3 then { g with off := b }
  else { g with absent := b }

/-- Compliance of the AO-I channels of a region follows the reduced step (R234): comp_reduced, and a bellows above 18.0 V falls at
once. -/
def Chip.complianceSync (c : Chip) (r : Nat) : Chip := c.each (chansOf r) Chip.complianceOf

/-- A step of a GS begins or ends, with its record (R79); a voltage below 18.0 V is noted for the end of the off step. -/
def Chip.gsChange (c : Chip) (r n : Nat) (entered : Bool) (mv : Nat) : Chip :=
  let c1 := c.setSys (fun s => { s with gs := upd s.gs r (fun g => { g.setStep n entered with
    lowAt := if isAtLeast 18000 mv then g.lowAt else c.now }) })
  let d := (c1.gs r).deepest
  let old := c1.get supplyAt Supply.gs_step
  let c2 := c1.put supplyAt Supply.gs_step (old - (old / 4 ^ r % 4) * 4 ^ r + min d 3 * 4 ^ r)
  (c2.record 5 r (min d 2) r [d, n, b2n entered] [mv]).complianceSync r

/-- The open-load condition ends, with its record (R267). -/
def Chip.endOpenLoad (c : Chip) (g : Nat) : Chip :=
  if c.dNow g dOpenLoad then (c.dOff g dOpenLoad).record 42 (g / 16) 0 g [0] [c.get (chanAt g) Dig.load] else c

/-- The off step of a GS opens every DO and DO-sink of the region, safe outputs with the rest (R77, R78, R271); back-fed and
open-load conditions end at entry to it (Table 9.6). -/
def Chip.gsOpen (c : Chip) (r : Nat) : Chip :=
  c.each (chansOf r) (fun c g => ((c.endBackFed g).endOpenLoad g).setChan g (fun h => { h with
    closed := h.closed && !doMode (c.mode g), judgeAt := max h.judgeAt (c.now + 100000) }))

/-- In the absent step the region's channels are unpowered (R76): a bellows falls to its lowest level. -/
def Chip.gsUnpower (c : Chip) (r : Nat) : Chip :=
  c.each (chansOf r) (fun c g => c.when (c.get (chanAt g) Chan.bellows_mv != 0) (·.put (chanAt g) Chan.bellows_mv 4000))

/-- The channels of a region are powered again: a transmitter is supplied (R218), and the bellows of a driven AO-I rises to what its
command needs (R231). -/
def Chip.gsPower (c : Chip) (r : Nat) : Chip :=
  c.each (chansOf r) (fun c g =>
    if c.mode g == 6 && (c.chan g).driven && !c.terminalOff g then c.raiseBellows g (c.get (chanAt g) Chan.command) else c.txHold g)

/-- GS_STEP (R79): a threshold of a region's GS is crossed: step 0 warning, 1 reduced, 2 off, 3 absent, entered or left. The
off step ends by GS_OFF_QUALIFIED alone. -/
def execGsStep (r : Fin 8) (step : Fin 4) (entered : Bool) (millivolts : BitVec 16) (s : State) : Out :=
  chipOnly s (fun c =>
    let n := step.val + 1
    if !c.fitted r.val || c.phase = 0 || (c.gs r.val).step n == entered || (n == 3 && !entered)
        || !gsCrosses n entered millivolts.toNat then c
    else
      let c1 := c.gsChange r.val n entered millivolts.toNat
      let c2 := if n = 3 then ((c1.putBit supplyAt Supply.gs_off_seen r.val true).gsOpen r.val).svyAbortRegion r.val
        else if n = 4 then (if entered then c1.gsUnpower r.val else c1.gsPower r.val) else c1
      c2.each (chansOf r.val) Chip.putStatus)

/-- GS_OFF_QUALIFIED (R77, R78): 18.0 V has held for 100 ms; the off step ends and every DO takes what the precedence gives at
this moment; safe outputs return as the safety island permits. -/
def execGsOffQualified (r : Fin 8) (millivolts : BitVec 16) (s : State) : Out :=
  chipOnly s (fun c =>
    let h := c.gs r.val
    if !h.off || h.absent || !gsCrosses 3 false millivolts.toNat || decide (c.now < h.lowAt + 100000) then c
    else
      let c1 := c.gsChange r.val 3 false millivolts.toNat
      c1.each (chansOf r.val) (fun c g =>
        let c2 := c.setChan g (fun h => { h with judgeAt := c.now + 100000 })
        (if doMode (c2.mode g) && (c2.chan g).driven && !(c2.chan g).safety then c2.resolve g else c2).putStatus g))

/-- Has an MS crossed the threshold of what it becomes, 0 normal, 1 low or 2 high, from what it was (Table 3.1)? -/
def msCrosses (old new mv : Nat) : Bool :=
  if new = 1 then isBelow 20000 mv else if new = 2 then isAbove 52000 mv
  else if old = 1 then isAtLeast 21000 mv && isAtMost 52000 mv else isAtMost 50000 mv && isAtLeast 20000 mv

/-- MS_STEP (R77): MS of a region is 0 normal, 1 low or 2 high; outside normal both stages of the region are off. -/
def execMsStep (r : Fin 8) (what : Fin 3) (millivolts : BitVec 16) (s : State) : Out :=
  chipOnly s (fun c =>
    let old := c.get supplyAt Supply.ms_step / 4 ^ r.val % 4
    if !c.fitted r.val || c.phase = 0 || old = what.val || !msCrosses old what.val millivolts.toNat then c
    else
      let m := c.get supplyAt Supply.ms_step
      let c0 := c.when (old != 0 && what != 0) (·.record 6 r.val 0 r.val [0] [millivolts.toNat])
      let c1 := (c0.put supplyAt Supply.ms_step (m - old * 4 ^ r.val + what.val * 4 ^ r.val)).record 6 r.val
        (if what = 0 then 0 else 2) r.val [what.val] [millivolts.toNat]
      let on := what != 0
      let c2 := (c1.stageCause (2 * r.val) 3 on).stageCause (2 * r.val + 1) 3 on
      if on then c2.svyAbortRegion r.val else c2)

/-- The qualification times of the supplies begin again while a measurement stands below what they need: 18.0 V of a GS in its off
step (R77), 18.5 V of the ORed LS in S1 (Table 4.1). -/
def Chip.noteLow (c : Chip) (lsOr : Nat) (gs : List (BitVec 16)) : Chip :=
  c.setSys (fun y => { y with
    gs := y.gs.zipIdx.map (fun e => if isAtLeast 18000 ((gs.getD e.2 0).toNat) then e.1 else { e.1 with lowAt := c.now })
    lsLowAt := if isAtLeast 18500 lsOr then y.lsLowAt else c.now })

/-- SUPPLY_MEASUREMENT_UPDATE (R89, R91): the measured words, on the 10 ms grid from S1 entry. Lists are by region. -/
def execSupplyMeasurementUpdate (lsA lsB lsOr core scap bpTemp : BitVec 16) (gs ms : List (BitVec 16)) (s : State) : Out :=
  chipOnly s (fun c =>
    if c.phase = 0 || c.now % 10000 != 0 then c
    else
      let b := supplyAt
      let c1 := ((((((c.put b Supply.ls_a_mv lsA.toNat).put b Supply.ls_b_mv lsB.toNat).put b Supply.ls_or_mv lsOr.toNat).put b
        Supply.core_mv core.toNat).put b Supply.scap_mv scap.toNat).put b Supply.bp_temp bpTemp.toNat).put b Supply.scap_low
        (b2n (decide (scap.toNat < 2500)))
      let c2 := (c1.each c.regions (fun c r =>
        (c.putI b Supply.gs_mv r ((gs.getD r 0).toNat)).putI b Supply.ms_mv r ((ms.getD r 0).toNat))).noteLow lsOr.toNat gs
      let t := signed 16 bpTemp.toNat
      if 1120 < t && !c.aon.bpHot then
        ({ c2 with aon := { c2.aon with bpHot := true } } : Chip).record 10 0xFF 1 0 [1] [unsigned 32 t]
      else if t < 1088 && c.aon.bpHot then
        ({ c2 with aon := { c2.aon with bpHot := false } } : Chip).record 10 0xFF 0 0 [0] [unsigned 32 t]
      else c2)

/-- CORE_VOLTAGE_FAULT (R90): a core voltage outside 0.85 to 0.95 V is a module-level fault; in S1 the module waits. -/
def execCoreVoltageFault (millivolts : BitVec 16) (s : State) : Out :=
  chipOnly s (fun c =>
    if c.phase < 2 || (850 ≤ millivolts.toNat && millivolts.toNat ≤ 950) then c else c.moduleFault 6 0xFF)

/-- COMPARATOR_ASSERT (R85 to R87): in S0 the return of LS, which follows a power loss, starts the module always, another comparator
when its wake bit is set. Without supply the always-on domain sees the return of LS alone. -/
def execComparatorAssert (i : Fin 4) (s : State) : Out :=
  let c := s.chip
  if c.getBit supplyAt Supply.cmp_now i.val || (c.aonStopped && i != 0) then .next s
  else
    let s1 := s.onChip (·.assertCmp i.val)
    let wakes := i == 0 || c.getBit supplyAt Supply.wake i.val
    if c.phase = 0 && wakes then .next (s1.startS1 (if i = 0 then 1 else 2) (if i = 0 then 0 else i.val)) else .next s1

/-- COMPARATOR_CLEAR (R85). -/
def execComparatorClear (i : Fin 4) (s : State) : Out := chipOnly s (·.putBit supplyAt Supply.cmp_now i.val false)

/-- SCAP_EXHAUSTED (R84): in S0 without LS the supercapacitor falls below 1.60 V; the always-on domain stops and loses what it holds,
the calendar with it. -/
def execScapExhausted (s : State) : Out :=
  chipOnly s (fun c =>
    if c.phase != 0 || c.getBit supplyAt Supply.cmp_now 0 then c
    else
      let c1 := ((c.setNat (supplyAt + 0xE) 0).put supplyAt Supply.wake 7).put supplyAt Supply.cal_valid 0
      { c1 with aon := { c1.aon with cmp := List.replicate 4 none, exhausted := true, dormant := false, bpHot := false } })

/-- The dormant command (R87): from a module that does not hold the lease; it takes effect at the next cycle boundary. -/
def Chip.cmdDormant (c : Chip) : Chip :=
  let b := supplyAt
  if c.get b Supply.result = 1 then c
  else if c.lease = 2 || c.lease = 5 || c.phase != 8 then c.put b Supply.result 3
  else (c.put b Supply.dormant_pending 1).put b Supply.result 1

/-- DORMANT (R87): the command from a session, of the engineer role alone; with the engine stopped no boundary comes and the
module goes dormant at once. -/
def execDormant (session : Fin 16) (s : State) : Out :=
  if !s.chip.roleIn session.val [2] then .next s
  else
    let s1 := s.onChip Chip.cmdDormant
    if s1.chip.flag supplyAt Supply.dormant_pending && s1.chip.get engineAt Engine.state != 1 then .next s1.goDormant
    else .next s1

end Sys2Proof.Machine
end

