-- ==== Sys2Proof/Machine/ImageOps.lean ====
section
/-! DEFINITION. The configuration image (R116 to R140): its layout in the NOR, reading it into the parameter space and the
structures beside it, and slot selection. -/

namespace Sys2Proof.Machine

/-! ### The NOR (R116) -/

/-- An erased byte of the NOR. -/
def norErased (_ : Nat) : Byte := 0xFF

/-- The byte at a NOR address. -/
def Flash.byte (f : Flash) (a : Nat) : Nat := (Sparse.get norErased f.nor a).toNat

/-- Bytes from a NOR address. -/
def Flash.bytes (f : Flash) (a n : Nat) : List Nat := (List.range n).map (fun i => f.byte (a + i))

/-- Program bytes at a NOR address. -/
def Flash.program (f : Flash) (a : Nat) (bs : List Nat) : Flash :=
  { f with nor := Sparse.setRun norErased f.nor a (bs.map (BitVec.ofNat 8)) }

/-- The first address of a slot (Table 5.1). -/
def slotAt (slot : Nat) : Nat := 0x04000000 * slot

/-- The longest image. -/
def slotSize : Nat := 0x04000000

/-- Erase a slot. -/
def Flash.eraseSlot (f : Flash) (slot : Nat) : Flash := { f with nor := Sparse.clear f.nor (slotAt slot) (slotAt slot + slotSize) }

/-! ### Parts of an image (R117 to R120) -/

/-- An entry of the section table. -/
structure SecEntry where
  ty : Nat
  reg : Nat
  off : Nat
  len : Nat
  deriving DecidableEq, Repr

/-- A section: its type, region, header and body bytes. -/
structure Sec where
  ty : Nat
  reg : Nat
  body : List Nat
  deriving DecidableEq, Repr

/-- The entries of the section table. -/
def secEntries (bs : List Nat) : List SecEntry :=
  (List.range (numAt bs 12 2)).map (fun i =>
    let o := 128 + 12 * i
    { ty := numAt bs o 1, reg := numAt bs (o + 1) 1, off := numAt bs (o + 4) 4, len := numAt bs (o + 8) 4 })

/-- The sections of an image. -/
def imgSecs (bs : List Nat) : List Sec :=
  (secEntries bs).map (fun e => { ty := e.ty, reg := e.reg, body := bytesAt bs (e.off + 8) (numAt bs (e.off + 4) 4) })

/-- A section of a type and region. -/
def findSec (ss : List Sec) (ty reg : Nat) : Option Sec := ss.find? (fun s => s.ty == ty && s.reg == reg)

/-- The body of a chip section, empty when absent. -/
def secBody (ss : List Sec) (ty : Nat) : List Nat := ((findSec ss ty 0xFF).map (·.body)).getD []

/-- Round up to a multiple of 16. -/
def up16 (n : Nat) : Nat := (n + 15) / 16 * 16

/-- Is a section's body in assignment form (Table 5.5)? -/
def assignTypes : List Nat := [0x03, 0x04, 0x05, 0x06, 0x0A, 0x0B, 0x0D, 0x0E, 0x0F, 0x11]

/-- The number of assignments that lie inside a body. -/
def assignCount (body : List Nat) : Nat := min (numAt body 0 4) ((body.length - 4) / 8)

/-- The assignments of a body: address and value (R123). -/
def assignments (body : List Nat) : List (Nat × Nat) :=
  (List.range (assignCount body)).map (fun i => (numAt body (4 + 8 * i) 4, numAt body (8 + 8 * i) 4))

/-- The tail of an assignment body. -/
def tailOf (body : List Nat) : List Nat := body.drop (4 + 8 * assignCount body)

/-! ### The program (R145, R146, R128) -/

/-- A binding (Table 6.3). -/
def bindAt (b : List Nat) (o : Nat) : Bind :=
  { kind := numAt b o 1, ty := numAt b (o + 1) 1, region := numAt b (o + 2) 1, flags := numAt b (o + 3) 1, ref := numAt b (o + 4) 4 }

/-- The invocation records of a PROGRAM body, from a byte offset (Table 6.2). -/
def invRecords (r : Nat) (b : List Nat) : Nat → Nat → List Inv
  | 0, _ => []
  | n + 1, o =>
    let ni := numAt b (o + 2) 1
    let no := numAt b (o + 3) 1
    { region := r, code := numAt b o 2, seq := numAt b (o + 4) 4, off := numAt b (o + 8) 4 / 4, len := numAt b (o + 12) 4 / 4
      onl := numAt b (o + 16) 4, ins := (List.range ni).map (fun i => bindAt b (o + 20 + 8 * i))
      outs := (List.range no).map (fun i => bindAt b (o + 20 + 8 * ni + 8 * i)) } ::
      invRecords r b n (o + 20 + 8 * ni + 8 * no)

/-- The bytes of the first n invocation records from an offset. -/
def invBytes (b : List Nat) : Nat → Nat → Nat
  | 0, _ => 0
  | n + 1, o =>
    let k := 20 + 8 * numAt b (o + 2) 1 + 8 * numAt b (o + 3) 1
    k + invBytes b n (o + k)

/-- The program of a section; a count beyond the body is cut to what the body can hold. -/
def secProgram (s : Sec) : List Inv := invRecords s.reg s.body (min (numAt s.body 8 4) (s.body.length / 20)) 16

/-- Constants: type, flags, value. -/
def secConsts (b : List Nat) : List (Nat × Nat × Nat) :=
  (List.range (min (numAt b 0 4) ((b.length - 4) / 12))).map (fun i =>
    let o := 4 + 12 * i
    (numAt b o 1, numAt b (o + 1) 1, numAt b (o + 4) 8))

/-- The runs of an INSTINIT body: offset and bytes (R129). -/
def instRuns (b : List Nat) : Nat → Nat → List (Nat × List Nat)
  | 0, _ => []
  | n + 1, o =>
    if b.length < o + 8 then []
    else
      let len := numAt b (o + 4) 4
      (numAt b o 4, bytesAt b (o + 8) len) :: instRuns b n (o + 8 + (len + 3) / 4 * 4)

/-! ### Port, panel, safety and survey content -/

/-- A CAN identifier word: number and 29-bit mark. -/
def idOf (w : Nat) : Nat × Bool := (w % 2 ^ 29, w.testBit 31)

/-- The frames of a station record with n frames (Table 13.3). -/
def staFrames (b : List Nat) (o n : Nat) : List StaFrame :=
  (List.range n).map (fun i =>
    let p := o + 8 * i
    let (id, ide) := idOf (numAt b p 4)
    { id := id, ide := ide, off := numAt b (p + 4) 2, len := numAt b (p + 6) 1 })

/-- Station records from an offset (Table 13.3), with the offset after them. -/
def staRecords (b : List Nat) : Nat → Nat → List PortSta × Nat
  | 0, o => ([], o)
  | n + 1, o =>
    let ni := numAt b (o + 2) 1
    let no := numAt b (o + 3) 1
    let s : PortSta :=
      { station := numAt b o 1, pseq := (numAt b (o + 1) 1).testBit 0, fd := (numAt b (o + 1) 1).testBit 1
        stale := numAt b (o + 4) 2, timeout := numAt b (o + 6) 2, refresh := numAt b (o + 8) 2
        ins := staFrames b (o + 16) ni, outs := staFrames b (o + 16 + 8 * ni) no }
    let (rest, e) := staRecords b n (o + 16 + 8 * ni + 8 * no)
    (s :: rest, e)

/-- An object record (Table 13.2). -/
structure ObjRec where
  obj : Nat
  dir : Nat
  mode : Nat
  fflags : Nat
  id : Nat
  len : Nat
  period : Nat
  inhibit : Nat
  deriving DecidableEq, Repr

/-- The object records of a PORT tail. -/
def objRecords (t : List Nat) : List ObjRec :=
  (List.range (min (numAt t 0 4) 128)).map (fun i =>
    let o := 4 + 16 * i
    { obj := numAt t o 1, dir := numAt t (o + 1) 1, mode := numAt t (o + 2) 1, fflags := numAt t (o + 3) 1, id := numAt t (o + 4) 4
      len := numAt t (o + 8) 1, period := numAt t (o + 12) 2, inhibit := numAt t (o + 14) 2 })

/-- The schedule matrix at an offset (Table 13.4). -/
def matrixAt (t : List Nat) (o : Nat) : Matrix :=
  let rows := numAt t o 1
  let cols := numAt t (o + 1) 1
  { rows := rows, cols := cols, master := (numAt t (o + 2) 1).testBit 0, prio := numAt t (o + 3) 1, refId := numAt t (o + 4) 4
    lengths := (List.range cols).map (fun k => numAt t (o + 16 + 2 * k) 2)
    cells := (List.range (rows * cols)).map (fun k => numAt t (o + 16 + 2 * cols + 2 * k) 2) }

/-- The parts of a PORT tail (R401): objects, stations, the offset of the matrix length. -/
def portTail (t : List Nat) : List ObjRec × List PortSta × Nat :=
  let o := 4 + 16 * min (numAt t 0 4) 128
  let (st, e) := staRecords t (min (numAt t o 4) 64) (o + 4)
  (objRecords t, st, e)

/-- Function records of a SAFETY body (Table 12.8). -/
def fnRecords (b : List Nat) : List FnCfg :=
  (List.range (min (numAt b 4 4) 32)).map (fun i =>
    let o := 16 + 32 * i
    let n (k w : Nat) := numAt b (o + k) w
    { sf := n 0 1, kind := n 1 1, flags := n 2 1, owner := n 3 1, inA := n 4 1, inB := n 5 1, rst := n 6 1, outCc := n 7 1
      outHs := n 8 1, tF := n 9 1, tDisc := n 10 2, tClear := n 12 2, tTest := n 14 2, cutEven := n 16 4, cutOdd := n 20 4
      connSrc := n 24 1, srcBit := n 25 1, connOut := n 26 1, outBit := n 27 1 })

/-- Connection records of a SAFETY body (Table 12.9). -/
def connRecords (b : List Nat) : List ConnCfg :=
  (List.range (min (numAt b 8 4) 16)).map (fun i =>
    let o := 16 + 32 * min (numAt b 4 4) 32 + 24 * i
    let n (k w : Nat) := numAt b (o + k) w
    { index := n 0 1, produce := n 1 1 == 1, station := n 2 1 == 1, port := n 3 1, connId := n 4 4, address := n 8 4, n := n 12 1
      pProd := n 13 1, tExp := n 14 2, tJit := n 16 2, owner := n 18 1 })

/-- A symbol of a PANEL tail at an offset: width, height, indices; and the offset after it (R497). -/
def symbolAt (t : List Nat) (o : Nat) : (Nat × Nat × List Nat) × Nat :=
  let w := numAt t o 2
  let h := numAt t (o + 2) 2
  let n := w * h
  let bs := bytesAt t (o + 4) ((n + 1) / 2)
  ((w, h, ((bs.flatMap (fun b => [b % 16, b / 16])).take n)), o + 4 + ((n + 1) / 2 + 3) / 4 * 4)

/-- Symbols from an offset. -/
def symbolsAt (t : List Nat) : Nat → Nat → List (Nat × Nat × List Nat) × Nat
  | 0, o => ([], o)
  | n + 1, o =>
    let (s, e) := symbolAt t o
    let (rest, e2) := symbolsAt t n e
    (s :: rest, e2)

/-- A page record at an offset (Table 17.7). -/
def pageAt (t : List Nat) (o : Nat) : PPageRec × Nat :=
  let nf := numAt t (o + 2) 2
  let bg := numAt t (o + 68) 4
  let fo := o + 72 + (bg + 3) / 4 * 4
  let field (i : Nat) : PField :=
    let p := fo + 16 * i
    { field := numAt t p 1, kind := numAt t (p + 1) 1, x := numAt t (p + 2) 2, y := numAt t (p + 4) 2, w := numAt t (p + 6) 2
      h := numAt t (p + 8) 2, colours := numAt t (p + 10) 1, fmt := numAt t (p + 11) 1, sym := numAt t (p + 12) 2 }
  ({ page := numAt t o 1, palette := (List.range 16).map (fun k => numAt t (o + 4 + 4 * k) 4), runs := bytesAt t (o + 72) bg
     fields := (List.range nf).map field }, fo + 16 * nf)

/-- Pages from an offset. -/
def pagesAt (t : List Nat) : Nat → Nat → List PPageRec × Nat
  | 0, o => ([], o)
  | n + 1, o =>
    let (p, e) := pageAt t o
    let (rest, e2) := pagesAt t n e
    (p :: rest, e2)

/-- The parts of a PANEL tail: waveform block, symbols, pages, and where they end. -/
def panelTail (t : List Nat) : List Nat × List (Nat × Nat × List Nat) × List PPageRec × Nat :=
  let wf := numAt t 8 4
  let (sy, e) := symbolsAt t (min (numAt t 4 4) 1024) (16 + wf)
  let (pg, e2) := pagesAt t (min (numAt t 0 4) 256) e
  (bytesAt t 16 wf, sy, pg, e2)

/-- The cable records of a SURVEY body (R132): kind, index, constant. -/
def cableRecords (b : List Nat) : List (Nat × Nat × Nat) :=
  (List.range (min (numAt b 0 4) (b.length / 8))).map (fun i =>
    let o := 4 + 8 * i
    (numAt b o 1, numAt b (o + 1) 1, numAt b (o + 4) 4))

/-- The expectation records of a SURVEY body (Table 5.6). -/
def expectRecords (b : List Nat) : List Expect :=
  let p := 4 + 8 * min (numAt b 0 4) (b.length / 8)
  (List.range (min (numAt b p 4) (b.length / 24))).map (fun i =>
    let o := p + 4 + 24 * i
    { kind := numAt b o 1, index := numAt b (o + 1) 1, quantity := numAt b (o + 2) 1, outcome := numAt b (o + 3) 1 % 4
      when_ := numAt b (o + 3) 1 / 4 % 4, element := numAt b (o + 4) 1, e := signed 32 (numAt b (o + 8) 4), tl := numAt b (o + 12) 4
      tu := numAt b (o + 16) 4 })

/-! ### Loading an accepted image (R122, R125) -/

/-- The mode the SAFETY section gives a channel: Safe-DI for an input, DO-sink or DO for an output (R213, R343, R346). -/
def fnModes (f : FnCfg) : List (Nat × Nat) :=
  f.inCh.map (fun g => (g, 12)) ++ (if f.outCc = 0xFF then [] else [(f.hs, 9), (f.ls, 10)])

/-- Load a PORT tail. -/
def Chip.loadPort (c : Chip) (r : Nat) (t : List Nat) : Chip :=
  let (objs, stas, mo) := portTail t
  let b := portAt r
  let c1 := c.each objs (fun c o =>
    ((((c.putI b PWord.ob_dir o.obj o.dir).putI b PWord.ob_mode o.obj o.mode).putI b PWord.ob_fflags o.obj o.fflags).putI b
      PWord.ob_len o.obj o.len).putI b PWord.ob_id o.obj (o.id % 2 ^ 29 + (if o.fflags.testBit 0 then 2 ^ 31 else 0)))
  c1.setPort r (fun p => { p with
    objs := objs.foldl (fun l o => upd l o.obj (fun h => { h with period := o.period, inhibit := o.inhibit })) p.objs
    stas := stas
    matrix := if numAt t mo 4 = 0 then none else some (matrixAt t (mo + 4)) })

/-- Load the instance data of a region. -/
def Chip.loadInst (c : Chip) (r : Nat) (runs : List (Nat × List Nat)) : Chip :=
  c.each runs (fun c e => c.each e.2.zipIdx (fun c b =>
    let a := instAt r ((e.1 + b.2) / 4)
    let k := (e.1 + b.2) % 4
    let w := c.nat a
    c.setNat a (w - (w / 256 ^ k % 256) * 256 ^ k + b.1 * 256 ^ k)))

/-- Load the content of every section into a chip whose parameter words stand at their reset values; `wake`, which the always-on domain
has kept over the reset (R85), takes its default where no section assigns it (R122, R125). -/
def Chip.loadSecs (c : Chip) (ss : List Sec) : Chip :=
  let c1 := (c.put supplyAt Supply.wake 7).each ss (fun c s =>
    if !assignTypes.contains s.ty then c
    else
      let c' := c.each (assignments s.body) (fun c a => c.setNat a.1 a.2)
      if s.ty = 0x0A then c'.loadPort s.reg (tailOf s.body)
      else if s.ty = 0x0D then c'.setSys (fun y => { y with hasPair := true })
      else if s.ty = 0x0F then
        let (wf, sy, pg, _) := panelTail (tailOf s.body)
        c'.setPanel (fun p => { p with pages := pg, symbols := sy, wave := wf })
      else c')
  let prog := (ss.filter (fun s => s.ty == 0x07)).flatMap secProgram
  let consts := secConsts (secBody ss 0x08)
  let c2 := (c1.setEng (fun e => { e with prog := prog, consts := consts.map (fun k => (k.1, k.2.1.testBit 0)) })).each
    consts.zipIdx (fun c k => (c.setNat (constAt (2 * k.2)) (k.1.2.2 % 2 ^ 32)).setNat (constAt (2 * k.2 + 1)) (k.1.2.2 / 2 ^ 32))
  let c3 := c2.each (ss.filter (fun s => s.ty == 0x09)) (fun c s => c.loadInst s.reg (instRuns s.body s.body.length 0))
  let c4 := c3.each (ss.filter (fun s => s.ty == 0x07)) (fun c s =>
    (c.putI engineAt Engine.inst_size s.reg (numAt s.body 4 4)).putI engineAt Engine.invocations s.reg (numAt s.body 8 4))
  let sb := secBody ss 0x0C
  let fns := fnRecords sb
  let c5 : Chip := { c4 with safe := { c4.safe with fns := fns, conns := connRecords sb } }
  let c6 := c5.each fns (fun c f => c.each (fnModes f) (fun c e => c.setChan e.1 (fun h => { h with
    safety := true, safeMode := if c5.ownsSafe f.owner then e.2 else 0 })))
  let vb := secBody ss 0x10
  let c7 := c6.setSys (fun y => { y with expects := expectRecords vb, cables := cableRecords vb, hasSafety := !sb.isEmpty })
  c7.setNet (fun n => { n with station := numAt (secBody ss 0x01) 32 4 })

/-! ### Slot selection (R137) -/

/-- A slot-select record: sequence, slot, fall-back; none for an invalid copy. -/
def Flash.selectCopy (f : Flash) (copy : Nat) : Option (Nat × Nat × Bool) :=
  let b := f.bytes (0x08000000 + 0x1000 * copy) 16
  if crc32 (bytesAt b 0 12) = numAt b 12 4 && numAt b 4 1 ≤ 1 && numAt b 5 1 ≤ 1 && numAt b 6 6 = 0 then
    some (numAt b 0 4, numAt b 4 1, numAt b 5 1 == 1)
  else none

/-- Does a sequence govern another, modulo 2^32 (R137)? -/
def governs (x y : Nat) : Bool :=
  let d := (x + 2 ^ 32 - y) % 2 ^ 32
  1 ≤ d && d ≤ 2 ^ 31 - 1

/-- The copy that governs, 0 A or 1 B, and its record; none when neither is valid. -/
def Flash.governing (f : Flash) : Option (Nat × Nat × Nat × Bool) :=
  match f.selectCopy 0, f.selectCopy 1 with
  | some a, some b => if governs b.1 a.1 then some (1, b) else some (0, a)
  | some a, none => some (0, a)
  | none, some b => some (1, b)
  | none, none => none

/-- The copy and the sequence of a new slot-select record: the copy that does not govern; with neither valid, copy A and sequence 1
(DESIGN CHOICE, log entry 117). -/
def Flash.nextSelect (f : Flash) : Nat × Nat :=
  match f.governing with
  | some (c, s, _, _) => (1 - c, (s + 1) % 2 ^ 32)
  | none => (0, 1)

/-- The first byte of a slot-select copy (Table 5.1). -/
def selectAt (copy : Nat) : Nat := 0x08000000 + 0x1000 * copy

/-- Erase a slot-select copy: until its record is written it fails its CRC. -/
def Flash.eraseSelect (f : Flash) (copy : Nat) : Flash :=
  { f with nor := Sparse.clear f.nor (selectAt copy) (selectAt copy + 0x1000) }

/-- The bytes of a slot-select record. -/
def selectBytes (seq slot : Nat) (fb : Bool) : List Nat :=
  let head := leBytes 4 seq ++ [slot, b2n fb, 0, 0, 0, 0, 0, 0]
  head ++ leBytes 4 (crc32 head)

/-- The fields of the image information block that follow the NOR and the one-time-programmable memory (Table 5.9). -/
def Chip.selectSync (c : Chip) (f : Flash) : Chip :=
  let valid := b2n (f.selectCopy 0).isSome + 2 * b2n (f.selectCopy 1).isSome
  let (seq, slot, fb) : Nat × Nat × Bool := match f.governing with
    | some (_, s, sl, b) => (s, sl, b)
    | none => (0, 0, true)
  let keys := (f.keys.take 4).zipIdx.foldl (fun m k => m + k.1.1 * 4 ^ k.2) 0
  (((((c.put imageAt Image.select_valid valid).put imageAt Image.select_seq seq).put imageAt Image.select_slot slot).put imageAt
    Image.select_fb (b2n fb)).put imageAt Image.key_state keys).put imageAt Image.require_sig (b2n f.fuse)

end Sys2Proof.Machine
end

