-- ==== Sys2Proof/Machine/ImageCheck.lean ====
section
/-! DEFINITION. The image check (R138, R139, Table 5.7): every check of a code over the whole image before any of the next
code; the first code that fails is reported. -/

namespace Sys2Proof.Machine

/-- Are the bytes all zero? -/
def allZero (bs : List Nat) : Bool := bs.all (· == 0)

/-! ### Codes 1 to 6: layout and digests -/

/-- Code 3: the header (R118). An image_len in range that cannot hold header, table and trailer is out of range too (DESIGN CHOICE,
log entry 115). -/
def headerBad (bs : List Nat) : Bool :=
  let n := numAt bs 12 2
  let len := numAt bs 8 4
  numAt bs 124 4 != crc32 (bytesAt bs 0 124) || numAt bs 6 2 != 128 || len % 16 != 0 || decide (slotSize < len)
    || decide (len < up16 (128 + 12 * n) + 96) || !decide (4 ≤ n && n ≤ 75) || numAt bs 14 1 % 4 != 3
    || !allZero (bytesAt bs 29 3) || !allZero (bytesAt bs 100 24) || numAt bs 15 1 / 2 != 0

/-- Section types of region scope, of chip scope, and REGION, which has either (Table 5.5). -/
def regionTypes : List Nat := [0x04, 0x05, 0x06, 0x07, 0x09, 0x0A, 0x11]
/-- Section types of chip scope. -/
def chipTypes : List Nat := [0x01, 0x02, 0x08, 0x0B, 0x0C, 0x0D, 0x0E, 0x0F, 0x10, 0x7F]

/-- Is an entry's region permitted for its type (R119, R121)? -/
def scopeOk (mask : Nat) (e : SecEntry) : Bool :=
  if e.reg = 0xFF then chipTypes.contains e.ty || e.ty == 0x03
  else decide (e.reg < 8) && mask.testBit e.reg && (regionTypes.contains e.ty || e.ty == 0x03)

/-- Are entries in ascending order of type and region, without duplicates? -/
def entriesAscend : List SecEntry → Bool
  | a :: b :: t => decide (256 * a.ty + a.reg < 256 * b.ty + b.reg) && entriesAscend (b :: t)
  | _ => true

/-- Do the sections follow one another from an offset to the trailer? -/
def entriesFit : Nat → Nat → List SecEntry → Bool
  | o, fin, [] => o == fin
  | o, fin, e :: t => e.off == o && e.len % 16 == 0 && entriesFit (o + e.len) fin t

/-- Code 4: the section table (R117, R119). -/
def tableBad (bs : List Nat) : Bool :=
  let n := numAt bs 12 2
  let es := secEntries bs
  let fin := 128 + 12 * n
  numAt bs 96 4 != crc32 (bytesAt bs 128 (12 * n)) || !entriesAscend es || !es.all (scopeOk (numAt bs 14 1))
    || !(List.range n).all (fun i => numAt bs (128 + 12 * i + 2) 2 == 0) || !allZero (bytesAt bs fin (up16 fin - fin))
    || !entriesFit (up16 fin) (numAt bs 8 4 - 96) es

/-- Code 5: a section's framing (R120). Table 5.7 names no code for a header byte 3 that is not zero, a body_len that is no multiple of
4, and a table length other than the padded section's: the model gives 5 (DESIGN CHOICE, log entry 115). -/
def framingBad (bs : List Nat) (e : SecEntry) : Bool :=
  let o := e.off
  let n := numAt bs (o + 4) 4
  numAt bs o 1 != e.ty || numAt bs (o + 1) 1 != e.reg || numAt bs (o + 2) 1 != 1 || numAt bs (o + 3) 1 != 0 || n % 4 != 0
    || e.len != up16 (n + 12) || numAt bs (o + 8 + n) 4 != crc32 (bytesAt bs o (8 + n))
    || !allZero (bytesAt bs (o + 12 + n) (e.len - 12 - n))

/-- The structure digest (R136). -/
def structDigest (bs : List Nat) : List Nat :=
  let progs := ((secEntries bs).filter (fun e => e.ty == 0x07)).flatMap (fun e => bytesAt bs e.off (8 + numAt bs (e.off + 4) 4))
  let cb := secBody (imgSecs bs) 0x08
  let consts := (List.range (min (numAt cb 0 4) ((cb.length - 4) / 12))).flatMap (fun i => bytesAt cb (4 + 12 * i) 4)
  sha256 (numAt bs 14 1 :: progs ++ consts)

/-- The image digest (R134). -/
def imgDigest (bs : List Nat) : List Nat := sha256 (bytesAt bs 0 (numAt bs 8 4 - 96))

/-- Code 6. -/
def digestBad (bs : List Nat) : Bool :=
  bytesAt bs (numAt bs 8 4 - 96) 32 != imgDigest bs || bytesAt bs 32 32 != structDigest bs

/-- Code 8: the signature (R134, R135). -/
def signatureBad (f : Flash) (bs : List Nat) : Bool :=
  let slot := numAt bs 28 1
  let sig := bytesAt bs (numAt bs 8 4 - 64) 64
  if numAt bs 15 1 % 2 = 0 then slot != 0xFF || !allZero sig
  else
    let k := nth (0, []) f.keys slot
    decide (3 < slot) || k.1 != 1 || !edVerify k.2 (imgDigest bs) sig

/-! ### Codes 10 and 11: assignments -/

/-- May a section assign to an address (Table 5.5, R124)? -/
def blockPermitted (s : Sec) (a : Nat) : Bool :=
  let sp := spaceOf a
  let b := blockOf a
  let here := sp == s.reg
  if s.ty = 0x03 then
    (if s.reg = 0xFF then sp == 8 && (b == 0x010 || b == 0x020 || b == 0x030) else here && b == 0)
  else if s.ty = 0x04 then here && decide (0x010 ≤ b && b ≤ 0x01F)
  else if s.ty = 0x05 then here && (b == 0x020 || b == 0x021)
  else if s.ty = 0x06 then here && decide (0x040 ≤ b && b ≤ 0x05F)
  else if s.ty = 0x0A then here && b == 0x060
  else if s.ty = 0x11 then here && b == 0x070
  else if s.ty = 0x0B then sp == 12
  else if s.ty = 0x0D then sp == 9
  else if s.ty = 0x0E then sp == 10
  else sp == 11

/-- Is a field one that an image may set? -/
def settable (f : Field) : Bool := f.access == .img || f.access == .onl

/-- Are addresses ascending? -/
def ascends : List Nat → Bool
  | a :: b :: t => decide (a < b) && ascends (b :: t)
  | _ => true

/-- Code 10: address, access and order of a section's assignments, its count and tail (R123, R124). -/
def assignBad (s : Sec) : Bool :=
  assignTypes.contains s.ty &&
    (decide (s.body.length < 4) || decide (s.body.length < 4 + 8 * numAt s.body 0 4)
      || (s.ty != 0x0A && s.ty != 0x0F && !(tailOf s.body).isEmpty)
      || !ascends ((assignments s.body).map (·.1))
      || (assignments s.body).any (fun a => !blockPermitted s a.1 || !(fieldsAt a.1).any settable))

/-- Code 11: bits and ranges of an assigned value (R124). -/
def valueBad (a v : Nat) : Bool :=
  reservedSet a v || (fieldsAt a).any (fun f =>
    if settable f then !f.range.permits (f.of (BitVec.ofNat 32 v)) else f.of (BitVec.ofNat 32 v) != 0)

/-! ### Code 11: the program (R145 to R147, R183 to R185) -/

/-- Is the constant at an index of a type? -/
def Chip.constIs (c : Chip) (k ty : Nat) : Bool := decide (k < c.eng.consts.length) && (nth (99, false) c.eng.consts k).1 == ty

/-- Station of a region's port by number. -/
def Chip.station (c : Chip) (r k : Nat) : Option PortSta := (c.port r).stas.find? (fun s => s.station == k)

/-- Bytes of a station's output image. -/
def PortSta.outLen (s : PortSta) : Nat := (s.outs.map (fun f => f.off + f.len)).foldl max 0

/-- Does a kind 0x06 binding lie in its station's image? -/
def Chip.remoteOk (c : Chip) (b : Bind) (out : Bool) : Bool :=
  match c.station b.region (b.ref % 64) with
  | some s => decide (b.ref / 256 + tyBytes b.ty ≤ (if out then s.outLen else s.inLen))
  | none => false

/-- Is an input binding permitted for a port of a type (Tables 6.3 and 6.4)? A producer in a region whose PROGRAM section is missing is
not looked for: `has` holds a bit for each region with one (R138). -/
def Chip.inputOk (c : Chip) (mask has ty : Nat) (b : Bind) : Bool :=
  let named := [3, 4, 6, 7].contains b.kind
  b.ty == ty && (b.flags == 0 || (b.flags == 1 && ty == 0)) && (if named then mask.testBit b.region else b.region == 0) &&
  (match b.kind with
    | 0 => b.ref == 0
    | 1 => c.constIs b.ref ty
    | 2 => ty != 6
    | 3 => match c.inv (b.ref % 65536) with
      | some p => b.ref / 2 ^ 24 == 0 && p.region == b.region && nth 99 p.sig.outs (b.ref / 2 ^ 16 % 256) == ty
      | none => b.ref / 2 ^ 24 == 0 && !has.testBit b.region
    | 4 => (if b.ref / 256 = 1 then ty == 7 else b.ref / 256 == 0 && [tyBool, tyUint32, tyReal].contains ty)
      && decide (b.ref % 256 < 16)
    | 6 => b.ref / 64 % 2 == 0 && c.remoteOk b (b.ref.testBit 7)
    | 7 => decide (b.ref < 64) && (ty == 7 || ty == 5) && (c.station b.region b.ref).isSome
    | 8 => c.accessOf b.ref == accOk
    | 9 => decide (b.ref < 4) && nth 99 [5, 6, 3, 5] b.ref == ty
    | _ => false)

/-- Is an output binding permitted? -/
def Chip.outputOk (c : Chip) (mask ty : Nat) (b : Bind) : Bool :=
  b.ty == ty && b.flags == 0 && (if b.kind = 0 then b.region == 0 else mask.testBit b.region) &&
  (match b.kind with
    | 0 => b.ref == 0
    | 5 => decide (b.ref < 16) && [tyBool, tyUint32, tyReal].contains ty && !(c.chan (16 * b.region + b.ref)).safety
    | 6 => b.ref / 64 % 4 == 2 && c.remoteOk b true
    | _ => false)

/-- The region a block's parameter word 0 names: that of an axis, a port, a safety function or a counter (R9). -/
def paramRegion (blk : Blk) (w0 : Nat) : Option Nat :=
  match blk with
  | .axmove | .axhome | .axstop | .axgear | .axstat => some (w0 / 2)
  | .portst | .portrst | .canfilt | .canobj | .cansend | .perf => some w0
  | .sfst => some (w0 / 8 * 2)
  | .loopsup => some (w0 / 32)
  | _ => none

/-- The rules of an instance's parameters: marks, ranges, a fitted region, and what each block's own section asks. -/
def Chip.paramsOk (c : Chip) (has : Nat) (i : Inv) (blk : Blk) (g : Sig) : Bool :=
  let w (k : Nat) := c.instWord i k
  decide (i.onl < 2 ^ g.p) && !(fixedParams blk).any i.onl.testBit
    && (List.range g.p).all (fun k => match paramRange blk k with
      | some (lo, hi) => decide (lo ≤ w k && w k ≤ hi)
      | none => true)
    && ((paramRegion blk (w 0)).map c.fitted).getD true
    && (match blk with
      | .canfilt => decide (w 4 < 128) || w 4 == 255
      | .chgrp => match i.ins with
        | b :: _ => b.kind == 4 && b.ref == 256
        | [] => false
      | .loopsup => c.flag (loopAt (w 0)) Loop.enabled
          && !(srcKind (c.get (loopAt (w 0)) Loop.sp_src) == 2 && (i.ins.getD 3 ⟨0, 0, 0, 0, 0⟩).kind != 0)
      | .parwr => c.accessOf (w 0) == accOk && (c.isOnl (w 0) || (isInst (w 0) && !has.testBit (spaceOf (w 0))))
      | .pfield => (c.panel.pages.any (fun p => p.page == w 0 && p.fields.any (fun f => f.field == w 1)))
      | _ => true)

/-- Are the bindings and the instance of an invocation in order? -/
def Chip.invOk (c : Chip) (mask has : Nat) (i : Inv) : Bool :=
  match sigOf i.code i.ins.length i.outs.length, blkOf i.code with
  | some g, some (blk, _) =>
    i.len == g.words && decide (i.seq < 65536) && decide (4 * (i.off + i.len) ≤ c.getI engineAt Engine.inst_size i.region)
      && (i.ins.zip g.ins).all (fun e => c.inputOk mask has e.2.1 e.1) && (i.outs.zip g.outs).all (fun e => c.outputOk mask e.2 e.1)
      && c.paramsOk has i blk g
  | _, _ => false

/-- Channel outputs, or byte ranges of remote output images, an invocation writes: key, first, length. -/
def Inv.writes (i : Inv) : List (Nat × Nat × Nat) :=
  i.outs.filterMap (fun b =>
    if b.kind = 5 then some (16 * b.region + b.ref, 0, 1)
    else if b.kind = 6 then some (1024 + 64 * b.region + b.ref % 64, b.ref / 256, tyBytes b.ty)
    else none)

/-- Do two ranges meet? -/
def meet (a b : Nat × Nat × Nat) : Bool := a.1 == b.1 && decide (a.2.1 < b.2.1 + b.2.2) && decide (b.2.1 < a.2.1 + a.2.2)

/-- Do no two elements of a list of ranges meet? -/
def apart : List (Nat × Nat × Nat) → Bool
  | [] => true
  | a :: t => !t.any (meet a) && apart t

/-- Parameter words of the invocations of a block type. -/
def Chip.paramsOf (c : Chip) (blk : Blk) (k : Nat) : List Nat :=
  (c.eng.prog.filter (fun i => (blkOf i.code).map (·.1) == some blk)).map (fun i => c.instWord i k)

/-- Is an instance offset or length of the records no multiple of 4 (R145)? -/
def instUneven (b : List Nat) : Nat → Nat → Bool
  | 0, _ => false
  | n + 1, o => numAt b (o + 8) 4 % 4 != 0 || numAt b (o + 12) 4 % 4 != 0
      || instUneven b n (o + 20 + 8 * numAt b (o + 2) 1 + 8 * numAt b (o + 3) 1)

/-- The regions with a PROGRAM section, as bits. -/
def withProgram (ss : List Sec) : Nat :=
  ((List.range 8).map (fun r => b2n (findSec ss 0x07 r).isSome * 2 ^ r)).sum

/-- The PROGRAM sections' own form: format, counts, lengths and alignment. -/
def progSecBad (s : Sec) : Bool :=
  let b := s.body
  let n := numAt b 8 4
  decide (b.length < 16) || numAt b 0 4 != 1 || numAt b 4 4 % 4 != 0 || decide (0x300000 < numAt b 4 4) || numAt b 12 4 != 0
    || decide (b.length / 20 < n) || decide (b.length != 16 + invBytes b n 16)
    || !ascends ((secProgram s).map (·.seq)) || instUneven b n 16
    || !(invRecords s.reg b n 16).all (fun i => decide (i.ins.length ≤ 255))

/-- Code 11: the program as a whole (R147, R199, R204). -/
def Chip.programBad (c : Chip) (ss : List Sec) (mask : Nat) : Bool :=
  let prog := c.eng.prog
  let seqs := prog.map (·.seq)
  let pubs := (prog.filter (fun i => (blkOf i.code).map (·.1) == some Blk.pub)).map (fun i =>
    (c.instWord i 0, 64 * c.instWord i 1, 4 * i.ins.length))
  ss.any (fun s => s.ty == 0x07 && progSecBad s) || decide (65536 < prog.length) || seqs.dedup.length != seqs.length
    || !apart (prog.map (fun i => (i.region, i.off, i.len))) || !prog.all (c.invOk mask (withProgram ss)) || !apart (prog.flatMap Inv.writes)
    || (c.paramsOf .loopsup 0).dedup.length != (c.paramsOf .loopsup 0).length || !apart pubs

/-! ### Code 11: loops (R286), the pair (R409), counters (R502), axes (R325), channels -/

/-- Is a source word in order? -/
def Chip.sourceOk (c : Chip) (mask has w : Nat) (sp : Bool) : Bool :=
  let ref := srcRef w
  match srcKind w with
  | 0 => sp && ref == 0
  | 1 => decide (ref < 128) && mask.testBit (ref / 16)
  | 2 => decide (ref < 256) && mask.testBit (ref / 32) && c.flag (loopAt ref) Loop.enabled
  | 3 => match c.inv (ref % 65536) with
    | some p => p.region == ref / 2 ^ 24 % 8 && nth 99 p.sig.outs (ref / 2 ^ 16 % 256) == tyReal
    | none => mask.testBit (ref / 2 ^ 24 % 8) && !has.testBit (ref / 2 ^ 24 % 8)
  | _ => false

/-- Is a destination word in order? -/
def Chip.destOk (c : Chip) (mask w : Nat) : Bool :=
  let ref := srcRef w
  match srcKind w with
  | 0 => ref == 0
  | 1 => decide (ref < 128) && mask.testBit (ref / 16) && !(c.chan ref).safety
      && [5, 6, 9, 10].contains (c.get (chanAt ref) Chan.mode)
  | 2 => decide (ref < 16) && mask.testBit (ref / 2) && c.flag (axisAt ref) Axis.enabled
  | _ => false

/-- Does the chain of setpoint sources from a loop come back to it? -/
def Chip.spCycle (c : Chip) (n : Nat) : Nat → Nat → Bool
  | 0, _ => false
  | f + 1, m =>
    let w := c.get (loopAt m) Loop.sp_src
    srcKind w == 2 && (srcRef w == n || c.spCycle n f (srcRef w))

/-- Code 11: loops; phase is 0 to period − 1 (R302). -/
def Chip.loopsBad (c : Chip) (mask has : Nat) : Bool :=
  let on := (List.range 256).filter (fun n => c.flag (loopAt n) Loop.enabled)
  let dsts := (on.map (fun n => c.get (loopAt n) Loop.out_dst)).filter (fun w => srcKind w != 0)
  dsts.dedup.length != dsts.length || (List.range 256).any (fun n => decide (c.get (loopAt n) Loop.period ≤ c.get (loopAt n) Loop.phase))
    || on.any (fun n =>
    !c.sourceOk mask has (c.get (loopAt n) Loop.pv_src) false || !c.sourceOk mask has (c.get (loopAt n) Loop.sp_src) true
      || !c.destOk mask (c.get (loopAt n) Loop.out_dst) || c.spCycle n 256 n)

/-- Channels the image uses: bound by the program, named by loops, axes and safety functions. -/
def Chip.usedChans (c : Chip) : List Nat :=
  let prog := c.eng.prog.flatMap (fun i =>
    (i.ins.filterMap (fun b => if b.kind = 4 then some (16 * b.region + b.ref % 16) else none)) ++
    (i.outs.filterMap (fun b => if b.kind = 5 then some (16 * b.region + b.ref) else none)))
  let loops := ((List.range 256).filter (fun n => c.flag (loopAt n) Loop.enabled)).flatMap (fun n =>
    ([Loop.pv_src, Loop.sp_src, Loop.out_dst].map (fun f => c.get (loopAt n) f)).filterMap (fun w =>
      if srcKind w = 1 then some (srcRef w) else none))
  let axes := ((List.range 16).filter (fun x => c.flag (axisAt x) Axis.enabled)).flatMap (fun x =>
    (([Axis.lim_neg, Axis.lim_pos, Axis.home_sw].map (fun f => c.get (axisAt x) f)).filter (· < 16)).map (fun k => 16 * (x / 2) + k))
  prog ++ loops ++ axes ++ c.safe.fns.flatMap (fun f => (fnModes f).map (·.1))

/-- Code 11: the rules of a pair (R409); axis routing codes stand in route_img_ax. -/
def Chip.pairBad (c : Chip) : Bool :=
  let partners := ((List.range 256).map (fun k => c.getI partnerAt Partner.station k)).filter (· != 0)
  partners.dedup.length != partners.length || (c.sys.hasPair &&
    (c.usedChans.any (fun g => c.routeOf g == 0)
      || (List.range 16).any (fun x => c.flag (axisAt x) Axis.enabled && c.get pairAt Pair.route_img_ax / 4 ^ x % 4 != 3)
      || ((List.range 256).filter (fun n => c.flag (loopAt n) Loop.enabled)).any (fun n =>
        [Loop.pv_src, Loop.out_dst].any (fun f =>
          srcKind (c.get (loopAt n) f) == 1 && c.routeOf (srcRef (c.get (loopAt n) f)) != 3))
      || c.safe.fns.any (fun f => (fnModes f).any (fun e => c.routeOf e.1 != f.owner))))

/-- Code 11: channel words whose content the chapters refuse beyond their ranges, axes without quiet drive, counter selects. -/
def Chip.wordsBad (c : Chip) (as : List (Nat × Nat)) : Bool :=
  as.any (fun a =>
    if spaceOf a.1 < 8 && 0x010 ≤ blockOf a.1 && blockOf a.1 ≤ 0x01F then
      let g := 16 * spaceOf a.1 + (blockOf a.1 - 0x010)
      ((c.chan g).safety && offOf a.1 != 0x19) || (!(c.chan g).safety && c.chanContentBad g)
    else c.refusesValue a.1 a.2)

/-! ### Code 11: ports (R402) -/

/-- Are the runs of a station's frames without overlap or gap, and each within its frame? -/
def runsOk (fs : List StaFrame) (fd pseq : Bool) : Bool :=
  let total := (fs.map (fun f => f.off + f.len)).foldl max 0
  apart (fs.map (fun f => (0, f.off, f.len))) && (fs.map (·.len)).sum == total && decide (total ≤ 256)
    && fs.all (fun f => decide (f.len + (if pseq then 2 else 0) ≤ (if fd then 64 else 8)))

/-- Are the reserved bits of station records zero, and bits 30:29 of their identifiers (Table 13.3)? -/
def staReservedOk (b : List Nat) : Nat → Nat → Bool
  | 0, _ => true
  | n + 1, o =>
    let k := numAt b (o + 2) 1 + numAt b (o + 3) 1
    decide (numAt b (o + 1) 1 < 4) && allZero (bytesAt b (o + 10) 6)
      && (List.range k).all (fun i => numAt b (o + 23 + 8 * i) 1 == 0 && numAt b (o + 16 + 8 * i) 4 / 2 ^ 29 % 4 == 0)
      && staReservedOk b n (o + 16 + 8 * k)

/-- Does a port's bit timing lie outside Table 13.1, beyond the ranges of its fields? Bit times are in units of 12.5 ns. -/
def Chip.timingBad (c : Chip) (r : Nat) : Bool :=
  let b := portAt r
  decide (c.get b Port.n_tseg2 < c.get b Port.n_sjw) || decide (c.get b Port.d_tseg2 < c.get b Port.d_sjw)
    || !decide (80 ≤ c.nomBit r && c.nomBit r ≤ 8000) || !decide (40 ≤ c.dataBit r && c.dataBit r ≤ c.nomBit r)

/-- An object record in order. -/
def ObjRec.ok (o : ObjRec) (fdEn : Bool) : Bool :=
  let fd := o.fflags.testBit 1
  let lens := if fd then dlcLens else [0, 1, 2, 3, 4, 5, 6, 7, 8]
  let pseq := o.mode.testBit 4
  decide (o.obj < 128) && decide (o.dir ≤ 2) && decide (o.mode < 32) && decide (o.fflags < 16) && (!fd || fdEn)
    && (!o.fflags.testBit 2 || fd) && !(o.fflags.testBit 3 && (fd || pseq))
    && (if o.mode.testBit 1 then decide (1 ≤ o.period && o.period ≤ 60000) else o.period == 0) && decide (o.inhibit ≤ 60000)
    && (if o.dir = 2 then
        lens.contains o.len && decide (o.id < (if o.fflags.testBit 0 then 2 ^ 29 else 2 ^ 11)) && (!pseq || decide (2 ≤ o.len))
      else o.mode % 16 == 0 && o.fflags == 0 && o.id == 0)

/-- A schedule matrix in order: its fields, the kinds of its columns, its objects and its windows. -/
def Chip.matrixOk (c : Chip) (r : Nat) (m : Matrix) (objs : List ObjRec) : Bool :=
  let rows := List.range m.rows
  let longest (k : Nat) : Nat := (rows.map (fun i =>
    let cell := m.cell i k
    if cell.1 = 3 then refBits else if cell.1 = 1 then (match objs.find? (fun o => o.obj == cell.2) with
      | some o =>
        let bits := CanFrame.maxBits { id := o.id, ide := o.fflags.testBit 0, fd := o.fflags.testBit 1, brs := o.fflags.testBit 2,
                                       data := List.replicate o.len 0 }
        (bits.1 * c.nomBit r + bits.2 * c.dataBit r + c.nomBit r - 1) / max 1 (c.nomBit r)
      | none => 0)
    else 0)).foldl max 0
  [1, 2, 4, 8, 16].contains m.rows && decide (2 ≤ m.cols && m.cols ≤ 64) && decide (m.prio ≤ 7) && decide (m.refId < 2048)
    && (if m.master then m.refId % 8 == m.prio else m.prio == 0) && m.lengths.all (fun l => decide (32 ≤ l))
    && rows.all (fun i => (List.range m.cols).all (fun k => ((m.cell i k).1 == 3) == (k == 0)))
    && m.cells.all (fun w => w / 2 ^ 7 % 2 ^ 7 == 0 && (w / 2 ^ 14 == 1 || w % 2 ^ 7 == 0))
    && rows.all (fun i => (List.range m.cols).all (fun k => (m.cell i k).1 != 1 || objs.any (fun o =>
        o.obj == (m.cell i k).2 && o.dir == 2)))
    && (List.range m.cols).all (fun k => decide (longest k ≤ nth 0 m.lengths k))

/-- Code 11: a PORT section's tail (R401, R402). -/
def Chip.portBad (c : Chip) (s : Sec) : Bool :=
  let r := s.reg
  let t := tailOf s.body
  let (objs, stas, mo) := portTail t
  let ml := numAt t mo 4
  let fdEn := c.flag (portAt r) Port.fd_en
  let outIds := (objs.filter (fun o => o.dir == 2)).map (fun o => idWord o.id (o.fflags.testBit 0)) ++
    stas.flatMap (fun st => st.outs.map (fun f => idWord f.id f.ide))
  let inIds := stas.flatMap (fun st => st.ins.map (fun f => idWord f.id f.ide))
  if c.timingBad r then true
  else if t.isEmpty then c.flag (portAt r) Port.sched
  else
    decide (128 < numAt t 0 4) || decide (64 < numAt t (4 + 16 * min (numAt t 0 4) 128) 4) || t.length != mo + 4 + ml
      || !ascends (objs.map (·.obj)) || !objs.all (·.ok fdEn)
      || (List.range objs.length).any (fun i => !allZero (bytesAt t (4 + 16 * i + 9) 3))
      || !ascends (stas.map (·.station)) || stas.any (fun st => decide (63 < st.station) || (st.fd && !fdEn)
        || !decide (1 ≤ st.ins.length && st.ins.length ≤ 8) || decide (8 < st.outs.length)
        || !decide (1 ≤ st.stale && st.stale ≤ 60000) || decide (st.timeout < st.stale) || decide (10000 < st.refresh)
        || !runsOk st.ins st.fd st.pseq || st.inLen == 0 || !runsOk st.outs st.fd st.pseq
        || (st.ins ++ st.outs).any (fun f => !f.ide && decide (2048 ≤ f.id)))
      || !staReservedOk t (min (numAt t (4 + 16 * min (numAt t 0 4) 128) 4) 64) (8 + 16 * min (numAt t 0 4) 128)
      || outIds.dedup.length != outIds.length || inIds.dedup.length != inIds.length
      || (c.flag (portAt r) Port.sched != (ml != 0))
      || (ml != 0 && (ml != (16 + 2 * numAt t (mo + 5) 1 + 2 * (numAt t (mo + 4) 1 * numAt t (mo + 5) 1) + 3) / 4 * 4
        || !allZero (bytesAt t (mo + 12) 8) || decide (2 ≤ numAt t (mo + 6) 1)
        || !allZero (bytesAt t (mo + 20 + 2 * numAt t (mo + 5) 1 * (numAt t (mo + 4) 1 + 1)) 4) || !c.matrixOk r (matrixAt t (mo + 4)) objs))

/-! ### Code 11: safety (R363 to R366, R356) -/

/-- A function record in order. -/
def Chip.fnOk (c : Chip) (mask : Nat) (f : FnCfg) : Bool :=
  let two := f.kind == 3 || f.kind == 4
  let auto := f.flags.testBit 2
  let conn := f.connSrc != 0xFF
  let data (k bit : Nat) (produce : Bool) : Bool := match c.conn k with
    | some x => x.produce == produce && decide (bit < 8 * x.n)
    | none => false
  let cutCh (m r : Nat) : List Nat := ((List.range 16).filter m.testBit).map (fun k => 16 * r + k)
  let cuts := cutCh f.cutEven f.base ++ cutCh f.cutOdd (f.base + 1)
  decide (f.sf < 32) && mask.testBit f.base && mask.testBit (f.base + 1) && c.fitted f.base && c.fitted (f.base + 1)
    && decide (1 ≤ f.kind && f.kind ≤ 6) && decide (f.flags < 16) && decide (f.owner ≤ 2)
    && (!f.flags.testBit 0 || f.kind == 2 || f.kind == 3) && (!f.flags.testBit 1 || f.kind == 3)
    && (!auto || f.kind == 2 || f.kind == 3 || f.kind == 5)
    && (if conn then f.inA == 0xFF && [1, 2, 5, 6].contains f.kind && data f.connSrc f.srcBit false else decide (f.inA < 16))
    && (if two then decide (f.inB < 16) else f.inB == 0xFF)
    && (if f.kind = 4 then f.rst == 0xFF else if f.rst = 0xFF then auto else decide (f.rst < 32))
    && (f.outCc == 0xFF || decide (f.outCc < 16)) && decide (f.outHs ≤ 1) && decide (2 ≤ f.tF && f.tF ≤ 160)
    && decide (10 ≤ f.tDisc && f.tDisc ≤ 3000) && (if f.kind = 6 then decide (f.tClear ≤ 10000) else f.tClear == 0)
    && decide (10 ≤ f.tTest && f.tTest ≤ 600) && decide (f.cutEven < 2 ^ 18) && decide (f.cutOdd < 2 ^ 18)
    && decide (f.srcBit < 128) && decide (f.outBit < 128)
    && (f.connOut == 0xFF || data f.connOut f.outBit true) && ((f.owner == 0) == !c.sys.hasPair)
    && cuts.all (fun g => !c.shared g && !(c.chan g).safety)

/-- A connection record in order. -/
def Chip.connOk (c : Chip) (k : ConnCfg) : Bool :=
  decide (k.index < 16) && decide (k.port < 8) && k.connId != 0 && decide (1 ≤ k.n && k.n ≤ 16)
    && (if k.produce then decide (1 ≤ k.pProd && k.pProd ≤ 200) else k.pProd == 0) && decide (10 ≤ k.tExp && k.tExp ≤ 20000)
    && decide (1 ≤ k.tJit && k.tJit ≤ 10000) && decide (k.owner ≤ 2) && ((k.owner == 0) == !c.sys.hasPair)
    && (if k.station then k.port == 0 && decide (k.address < 256)
      else c.flag (portAt k.port) Port.fd_en
        && decide (k.address % 2 ^ 31 < (if k.address.testBit 31 then 2 ^ 29 else 2 ^ 11)))

/-- Code 11: the SAFETY section. -/
def Chip.safetyBad (c : Chip) (b : List Nat) (mask : Nat) : Bool :=
  let fns := c.safe.fns
  let ins := fns.flatMap (fun f => (f.inCh.filter (fun g => f.rstCh != some g)))
  let rsts := (fns.filterMap (·.rstCh)).dedup
  let outs := fns.flatMap (fun f => if f.outCc = 0xFF then [] else [f.hs, f.ls])
  let all := ins ++ rsts ++ outs
  let bits := (fns.filter (fun f => f.connOut != 0xFF)).map (fun f => (f.connOut, f.outBit, 1))
  numAt b 0 4 != 1 || decide (32 < numAt b 4 4) || decide (16 < numAt b 8 4) || numAt b 12 4 != 0
    || b.length != 16 + 32 * numAt b 4 4 + 24 * numAt b 8 4 + 8
    || !ascends (fns.map (·.sf)) || !ascends (c.safe.conns.map (·.index))
    || (c.safe.conns.map (·.connId)).dedup.length != c.safe.conns.length
    || !fns.all (c.fnOk mask) || !c.safe.conns.all c.connOk || all.dedup.length != all.length || !apart bits
    || (List.range fns.length).any (fun i => !allZero (bytesAt b (16 + 32 * i + 28) 4))
    || (List.range c.safe.conns.length).any (fun i =>
        let o := 16 + 32 * fns.length + 24 * i
        !allZero (bytesAt b (o + 19) 5) || decide (1 < numAt b (o + 1) 1) || decide (1 < numAt b (o + 2) 1))

/-! ### Code 11: panel (R481, R486, R487, R497) and the fixed sections -/

/-- Frame codes of a waveform in the pool. -/
def poolCodes (wave : List Nat) (off frames : Nat) : List Nat :=
  (List.range frames).map (fun k => numAt wave (8 + 8 * 2064 + off + k / 4) 1 / 4 ^ (k % 4) % 4)

/-- Is the waveform block in order: lengths, no code 3, as many frames of code 1 as of code 2? -/
def waveOk (wave : List Nat) : Bool :=
  let pool := numAt wave 0 4
  numAt wave 4 4 == 0 && decide (wave.length = 8 + 8 * 2064 + (pool + 3) / 4 * 4) && (List.range 2064).all (fun e =>
    let o := 8 + 8 * e
    let n := numAt wave (o + 4) 2
    let codes := poolCodes wave (numAt wave o 4) n
    decide (n ≤ 255) && numAt wave (o + 6) 2 == 0 && decide (numAt wave o 4 + (n + 3) / 4 ≤ pool) && !codes.contains 3
      && codes.count 1 == codes.count 2)

/-- A page in order. -/
def PPageRec.ok (p : PPageRec) (kind h v syms : Nat) : Bool :=
  (p.runs.map (fun b => b / 16 + 1)).sum == h * v && ascends (p.fields.map (·.field))
    && p.palette.all (fun q => decide (q < (if kind = 2 then 16 else 2 ^ 24)))
    && p.fields.all (fun f => decide (f.kind ≤ 3) && decide (f.x + f.w ≤ h) && decide (f.y + f.h ≤ v)
        && (if f.kind = 0 then decide (f.fmt % 16 ≤ 6) && decide (f.fmt < 128) else if f.kind = 2 then decide (f.fmt ≤ 1) else f.fmt == 0)
        && (if f.kind = 1 then decide (f.sym + 15 < syms) else f.sym == 0))

/-- Code 11: the PANEL section. -/
def Chip.panelBad (c : Chip) (t : List Nat) : Bool :=
  let b := panelAt
  let kind := c.get b Panel.kind
  let h := c.get b Panel.h_active
  let v := c.get b Panel.v_active
  let (wave, syms, pages, e) := panelTail t
  let line := (if kind = 1 then h else h / 8) + c.get b Panel.h_front + c.get b Panel.h_sync + c.get b Panel.h_back
  let clocks := line * (v + c.get b Panel.v_front + c.get b Panel.v_sync + c.get b Panel.v_back)
  let hz := 1000 * c.get b Panel.pclk
  let bounds := (List.range 7).map (fun i => signed 16 (c.getI b (if i % 2 = 0 then Panel.bound_lo else Panel.bound_hi) (i / 2)))
  decide (2 < kind) || (kind != 0 &&
    (!panelArea kind h v || c.get b Panel.pclk == 0 || decide (hz < 50 * clocks)
      || decide ((if kind = 1 then 75 else 85) * clocks < hz)
      || (kind == 2 && (!waveOk wave || (bounds.zip (bounds.drop 1)).any (fun p => decide (p.2 ≤ p.1))))
      || (kind == 1 && !wave.isEmpty)
      || t.length != e || numAt t 12 4 != 0 || !decide (1 ≤ numAt t 0 4 && numAt t 0 4 ≤ 256) || decide (1024 < numAt t 4 4)
      || syms.any (fun s => !decide (1 ≤ s.1 && s.1 ≤ 256 && 1 ≤ s.2.1 && s.2.1 ≤ 256))
      || !ascends (pages.map (·.page)) || !pages.all (·.ok kind h v syms.length)
      || !pages.any (fun p => p.page == c.get b Panel.def_page)
      || (List.range 8).any (fun i => decide (h < c.getI b Panel.rect_x i + c.getI b Panel.rect_w i)
        || decide (v < c.getI b Panel.rect_y i + c.getI b Panel.rect_h i))))

/-- Quantities Table 4.4 gives for a kind of target. -/
def quantitiesOf (kind : Nat) : List Nat :=
  nth [] [[0x10, 0x11, 0x12, 0x13, 0x14, 0x15, 0x60], [0x20, 0x21], [0x30, 0x31, 0x32], [0x40], [0x50, 0x51], [0x03, 0x04],
    [0x01, 0x02]] kind

/-- How many targets a kind has. -/
def targetsOf (kind : Nat) : Nat := nth 0 [128, 16, 8, 2, 1, 1, 8] kind

/-- Elements a kind's expectations may name (Table 5.6). -/
def elementsOf (kind q : Nat) : List Nat :=
  if kind = 1 then [0, 1, 2] else if kind = 3 then [0, 1, 2, 3, 4] else if q = 0x51 then [1, 2, 3, 4] else [0]

/-- Code 11: the SURVEY section (R132, R133), which names targets of fitted regions alone (R9). -/
def Chip.surveyBad (c : Chip) (b : List Nat) : Bool :=
  let es := c.sys.expects
  let keys := es.map (fun e => (e.kind, e.index, e.quantity, e.element))
  let p := 4 + 8 * numAt b 0 4
  b.length != p + 4 + 24 * numAt b p 4
    || (List.range c.sys.cables.length).any (fun i => numAt b (6 + 8 * i) 2 != 0)
    || (c.sys.cables.map (fun k => (k.1, k.2.1)) ++ es.map (fun e => (e.kind, e.index))).any (fun t =>
        decide (svyRegion t.1 t.2 < 8) && !c.fitted (svyRegion t.1 t.2))
    || c.sys.cables.any (fun k => !(if k.1 = 0 then decide (k.2.1 < 128) && decide (20 ≤ k.2.2 && k.2.2 ≤ 500)
        else k.1 == 2 && decide (k.2.1 < 8) && decide (100 ≤ k.2.2 && k.2.2 ≤ 300)))
    || keys.dedup.length != keys.length
    || es.any (fun e => !(quantitiesOf e.kind).contains e.quantity || decide (targetsOf e.kind ≤ e.index) || e.outcome == 3
        || e.when_ == 0 || !(elementsOf e.kind e.quantity).contains e.element
        || ((e.quantity == 0x50 || e.quantity == 0x60) && (e.tl != 0 || e.tu != 0)))
    || (List.range es.length).any (fun i =>
        let o := p + 4 + 24 * i
        numAt b (o + 3) 1 / 16 != 0 || !allZero (bytesAt b (o + 5) 3) || numAt b (o + 20) 4 != 0)

/-- Is the padding after each run of an INSTINIT body zero (R129)? -/
def runPadOk (b : List Nat) : Nat → Nat → Bool
  | 0, _ => true
  | n + 1, o =>
    if b.length < o + 8 then true
    else
      let len := numAt b (o + 4) 4
      let pad := (len + 3) / 4 * 4 - len
      allZero (bytesAt b (o + 8 + len) pad) && runPadOk b n (o + 8 + len + pad)

/-- Code 11: IDENT, STEWARD, CONST and INSTINIT (R126 to R129). The bytes of station_name are not checked, as R126 names no check
of them (DESIGN CHOICE, log entry 115). -/
def Chip.fixedBad (_c : Chip) (ss : List Sec) : Bool :=
  let id := findSec ss 0x01 0xFF
  let st := findSec ss 0x02 0xFF
  let cs := findSec ss 0x08 0xFF
  let idBad := id.any (fun s => s.body.length != 64 || decide (7 < numAt s.body 36 1) || !allZero (bytesAt s.body 37 3)
    || !allZero (bytesAt s.body 52 12))
  let stBad := st.any (fun s => decide (s.body.length < 16) || numAt s.body 8 4 % 4 != 0
    || numAt s.body 8 4 != s.body.length - 16 || decide (numAt s.body 8 4 ≤ numAt s.body 4 4) || numAt s.body 12 4 != 0)
  let csBad := cs.any (fun s => decide (65536 < numAt s.body 0 4) || s.body.length != 4 + 12 * numAt s.body 0 4
    || (List.range (numAt s.body 0 4)).any (fun i =>
        let o := 4 + 12 * i
        let ty := numAt s.body o 1
        decide (7 < ty) || decide (1 < numAt s.body (o + 1) 1) || numAt s.body (o + 2) 2 != 0
          || decide (256 ^ tyBytes ty ≤ numAt s.body (o + 4) 8)))
  let instBad (s : Sec) : Bool :=
    let runs := instRuns s.body s.body.length 0
    let size := match findSec ss 0x07 s.reg with
      | some p => numAt p.body 4 4
      | none => 0x300000
    let total := (runs.map (fun e => 8 + (e.2.length + 3) / 4 * 4)).sum
    s.body.length != total || runs.any (fun e => decide (size < e.1 + e.2.length)) || !apart (runs.map (fun e => (0, e.1, e.2.length)))
      || !ascends (runs.map (·.1)) || !runPadOk s.body s.body.length 0
  idBad || stBad || csBad || (ss.filter (fun s => s.ty == 0x09)).any instBad || (findSec ss 0x7F 0xFF).any (fun s => !s.body.isEmpty)

/-- Assigned words of channels that a safety function uses, but for word 0x0019 (R213). -/
def Chip.safetyWords (c : Chip) (as : List (Nat × Nat)) : Bool :=
  as.any (fun a => decide (spaceOf a.1 < 8) && decide (0x010 ≤ blockOf a.1 && blockOf a.1 ≤ 0x01F)
    && (c.chan (16 * spaceOf a.1 + (blockOf a.1 - 0x010))).safety && offOf a.1 != 0x19)

/-- Every check of code 11 on the chip as the image would load it. -/
def Chip.contentBad (c : Chip) (ss : List Sec) (mask : Nat) : Bool :=
  let as := (ss.filter (fun s => assignTypes.contains s.ty)).flatMap (fun s => assignments s.body)
  as.any (fun a => valueBad a.1 a.2) || c.fixedBad ss || c.wordsBad as || c.safetyWords as || c.programBad ss mask || c.loopsBad mask (withProgram ss)
    || c.pairBad || (ss.filter (fun s => s.ty == 0x0A)).any c.portBad
    || (findSec ss 0x0C 0xFF).any (fun s => c.safetyBad s.body mask) || (findSec ss 0x0F 0xFF).any (fun s => c.panelBad (tailOf s.body))
    || (findSec ss 0x10 0xFF).any (fun s => c.surveyBad s.body)

/-! ### The whole check -/

/-- A four-byte version as a number, major first (R127). -/
def versionNat (b : List Nat) : Nat := ((b.getD 0 0 * 256 + b.getD 1 0) * 256 + b.getD 2 0) * 256 + b.getD 3 0

/-- Code 13: the SAFETY body's own CRC-32C and acceptance code (R130). -/
def safetySumBad (b : List Nat) : Bool :=
  let n := b.length
  numAt b (n - 8) 4 != crc32c (bytesAt b 0 (n - 8)) || bytesAt b (n - 4) 4 != bytesAt (sha256 (bytesAt b 0 (n - 4))) 0 4

/-- Code 14: a required section is missing (R121). -/
def requiredMissing (ss : List Sec) (mask : Nat) : Bool :=
  (findSec ss 0x01 0xFF).isNone || (findSec ss 0x02 0xFF).isNone || (findSec ss 0x7F 0xFF).isNone ||
    ((List.range 8).filter mask.testBit).any (fun r => (findSec ss 0x03 r).isNone || (findSec ss 0x07 r).isNone)

/-- Code 15: IDENT does not accept this variant. -/
def variantRefused (ss : List Sec) (regions : Nat) : Bool :=
  match findSec ss 0x01 0xFF with
  | some s =>
    let v := numAt s.body 36 1
    v != 0 && !v.testBit (if regions = 2 then 0 else if regions = 4 then 1 else 2)
  | none => false

/-- A chip with the factory words, the position and the parameter words at reset, on which an image's content is judged. -/
def Chip.blank (c : Chip) : Chip :=
  let base : Chip := {}
  ((List.range 9).foldl (fun b k => b.setWord (identAt + k) (c.word (identAt + k))) base).put pairAt Pair.position
    (c.get pairAt Pair.position)

/-- The first code of Table 5.7 that fails, 0 when none does. -/
def Chip.checkBytes (c : Chip) (f : Flash) (bs : List Nat) : Nat :=
  let mask := numAt bs 14 1
  let ss := imgSecs bs
  if headerBad bs then 3
  else if tableBad bs then 4
  else if (secEntries bs).any (framingBad bs) then 5
  else if digestBad bs then 6
  else if f.fuse && numAt bs 15 1 % 2 = 0 then 7
  else if signatureBad f bs then 8
  else if (List.range 8).any (fun r => mask.testBit r && !c.fitted r) then 9
  else if ss.any assignBad then 10
  else if (c.blank.loadSecs ss).contentBad ss mask then 11
  else if (findSec ss 0x02 0xFF).any (fun s =>
      decide (versionNat s.body < c.get identAt Ident.min_steward)) then 12
  else if (findSec ss 0x0C 0xFF).any (fun s => safetySumBad s.body) then 13
  else if requiredMissing ss mask then 14
  else if variantRefused ss c.nRegions then 15
  else 0

/-- The check of a slot's bytes (R138): its header first, which gives the image's length. -/
def Chip.checkStored (c : Chip) (f : Flash) (slot : Nat) : Nat :=
  let a := slotAt slot
  if f.bytes a 4 != [0x53, 0x4B, 0x49, 0x4D] then 1
  else if f.byte (a + 4) != 1 then 2
  else if headerBad (f.bytes a 128) then 3
  else c.checkBytes f (f.bytes a (numAt (f.bytes a 128) 8 4))

/-- The check of a slot (R138). The target of a transfer that has not been committed is invalid (R142): it counts as empty (log entry
116). -/
def Chip.checkSlot (c : Chip) (f : Flash) (slot : Nat) : Nat := if f.target = some slot then 1 else c.checkStored f slot

end Sys2Proof.Machine
end

