-- ==== Sys2Proof/Machine/Survey.lean ====
section
/-! DEFINITION. The survey and temper (R100 to R115, R241): results and their expectations, the survey, temper and
return_to_service commands and their ends. A measured value comes with the command that ends the measurement; estimated lengths,
expectations and their outcomes are the module's. -/

namespace Sys2Proof.Machine

/-! ### Results -/

/-- Word of a result in its record (Table 4.11); none for a quantity without one. -/
def resultWord (kind q e : Nat) : Option Nat :=
  if kind = 0 && decide (0x10 ≤ q && q ≤ 0x15) then some (q - 0x0F)
  else if kind = 1 && (q == 0x20 || q == 0x21) && decide (e ≤ 1) then some (1 + 2 * (q - 0x20) + e)
  else if kind = 2 && decide (0x30 ≤ q && q ≤ 0x32) then some (q - 0x2F)
  else if kind = 3 && q == 0x40 && decide (1 ≤ e && e ≤ 4) then some e
  else if kind = 4 && q == 0x50 then some 1
  else if kind = 4 && q == 0x51 && decide (1 ≤ e && e ≤ 4) then some (1 + e)
  else if kind = 5 && (q == 0x03 || q == 0x04) then some (q - 2)
  else if kind = 6 && (q == 0x01 || q == 0x02) then some q
  else none

/-- The base of a kind's quantity bits (R115). -/
def quantityBase (kind : Nat) : Nat := nth 1 [0x10, 0x20, 0x30, 0x40, 0x50] kind

/-- A survey target exists in this module. -/
def Chip.targetExists (c : Chip) (kind idx : Nat) : Bool :=
  if kind = 0 then decide (idx < 128) && c.fitted (idx / 16)
  else if kind = 1 then decide (idx < 16) && c.fitted (idx / 2)
  else if kind = 2 || kind = 6 then decide (idx < 8) && c.fitted idx
  else if kind = 3 then decide (idx < 2)
  else decide (kind < 6) && idx == 0

/-- An input mode. -/
def inMode (m : Nat) : Bool := aiMode m || m == 7 || m == 8 || m == 11 || m == 12

/-- Is an output commanded on: a DO by its command, an analogue output by any value other than zero? -/
def Chip.commandedOn (c : Chip) (g : Nat) : Bool :=
  let v := c.get (chanAt g) Chan.command
  if doMode (c.mode g) then c.cmdOn g v else outMode (c.mode g) && (rLt 0 v || rLt v 0)

/-- Has a channel that is to be AI-RTD three or four wires (R222)? -/
def Chip.leadsKnown (c : Chip) (g : Nat) : Bool := c.modeWanted g == 3 && c.get (chanAt g) Chan.wiring != 0

/-- Is a quantity measured on demand, in the target's present mode (Table 4.4)? -/
def Chip.onDemand (c : Chip) (kind idx q : Nat) : Bool :=
  if q = 0x04 || q = 0x60 then false
  else if kind = 0 && q = 0x11 then c.commandedOn idx
  else if kind = 0 && decide (0x12 ≤ q && q ≤ 0x14) then inMode (c.mode idx)
  else if kind = 0 && q = 0x15 then c.mode idx == 3
  else true

/-- Does the image declare a channel or an axis shared with the partner (R406)? -/
def Chip.declaredShared (c : Chip) (kind idx : Nat) : Bool :=
  (kind == 0 && c.shared idx) || (kind == 1 && c.sys.hasPair && c.nat (pairAt + 0x18) / 4 ^ idx % 4 == 3)

/-- Is a quantity measured in S5 (Table 4.4, R10, R102)? A shared terminal is surveyed passively while the partner's heartbeats are
present; regions the image does not name have their supplies surveyed only. -/
def Chip.inS5 (c : Chip) (kind idx q : Nat) : Bool :=
  if kind = 5 || kind = 6 then true
  else if kind = 3 || q = 0x11 then false
  else if kind ≤ 2 && !c.named (svyRegion kind idx) then false
  else if c.declaredShared kind idx && c.flag pairAt Pair.partner then false
  else if kind = 0 && q = 0x15 then c.leadsKnown idx
  else true

/-- The cable constant of a target (R104, R105, R132). -/
def Chip.cableConst (c : Chip) (kind idx : Nat) : Nat :=
  match c.sys.cables.find? (fun k => k.1 == kind && k.2.1 == idx) with
  | some k => k.2.2
  | none => if kind = 0 then 100 else 200

/-- A measured quantity goes into its target's record: the word and the bit in measured. -/
def Chip.putResult (c : Chip) (kind idx q e v : Nat) : Chip :=
  match resultWord kind q e with
  | some w => (c.setNat (recAt kind idx + w) v).putBit (recAt kind idx) SRec.measured (q - quantityBase kind) true
  | none => c

/-- The estimated lengths follow from the capacitance and the round-trip delay less the own transceiver's (R104, R105), truncated
(log entry 33). -/
def Chip.putLengths (c : Chip) (kind idx : Nat) (qs : List Nat) : Chip :=
  let k := c.cableConst kind idx
  if kind = 0 && qs.contains 0x13 then c.putResult 0 idx 0x14 0 (c.nat (recAt 0 idx + 4) * 10 / k)
  else if kind = 2 && qs.contains 0x31 then
    c.putResult 2 idx 0x32 0 ((c.nat (recAt 2 idx + 2) - Config.transceiverDelay.toNat) * k / 200)
  else c

/-- Do the results of an axis's survey give the resistance and the inductance of both coils (R323)? -/
def coilKnown (rs : List (Nat × Nat × Nat)) : Bool :=
  [(0x20, 0), (0x20, 1), (0x21, 0), (0x21, 1)].all (fun q => rs.any (fun r => (r.1, r.2.1) == q))

/-- The lead resistance of an AI-RTD channel, in mΩ (quantity 0x15, R222): the survey measures V_c (element 0) and the second voltage of
the wiring (element 1) in µV, and the excitation gives V_L / I with three wires, half of V_c / I less the sensor's resistance with four,
the whole loop with two. Truncated (log entry 33). -/
def Chip.leadResult (c : Chip) (g : Nat) (rs : List (Nat × Nat × Nat)) : List (Nat × Nat × Nat) :=
  let b := chanAt g
  let volts (e : Nat) : Option Int := (rs.find? (fun r => r.1 == 0x15 && r.2.1 == e)).map (fun r => signed 32 r.2.2)
  let ohms (v : Int) : Int := if c.get b Chan.sensor = 0 then v else 10 * v
  let lead : Option Int := match c.get b Chan.wiring, volts 0, volts 1 with
    | 1, _, some v => some (ohms v)
    | 2, some v, some w => some ((ohms v - ohms w) / 2)
    | 0, some v, _ => some (ohms v)
    | _, _, _ => none
  rs.filter (fun r => r.1 != 0x15) ++ (lead.map (fun x => (0x15, 0, x.toNat))).toList

/-- The results of one target's survey are stored: quantity, element, value. An axis may drive quietly once its coils are measured. -/
def Chip.putResults (c : Chip) (kind idx : Nat) (rs : List (Nat × Nat × Nat)) : Chip :=
  let a := recAt kind idx
  let c1 := c.put a SRec.measured 0
  let vs := if kind = 0 then c.leadResult idx rs else rs
  let c2 := ((c1.each vs (fun c r => c.putResult kind idx r.1 r.2.1 r.2.2)).putLengths kind idx (rs.map (·.1))).when
    (kind == 1 && coilKnown rs) (·.setAx idx (fun h => { h with coil := true }))
  if rs.isEmpty then c2 else c2.setNat (a + 7) c.tick

/-! ### Expectations (R106, R107) -/

/-- A quantity whose results are signed (Table 4.11; panel quantities are compared as INT32). -/
def signedQuantity (q : Nat) : Bool := q == 0x11 || q == 0x12 || q == 0x50 || q == 0x51

/-- The measured values an expectation judges: one for each element it names; a station port's fault code is no part of them. -/
def Chip.measuredOf (c : Chip) (x : Expect) : List Int :=
  let es := if x.kind = 1 && x.element = 2 then [0, 1] else if x.kind = 3 && x.element = 0 then [1, 2, 3, 4] else [x.element]
  es.filterMap (fun e => (resultWord x.kind x.quantity e).map (fun w =>
    let v := c.nat (recAt x.kind x.index + w)
    if x.kind = 3 then ((v % 2 ^ 16 : Nat) : Int) else if signedQuantity x.quantity then signed 32 v else (v : Int)))

/-- The first measured value outside the band of an expectation, if one is. -/
def Chip.failing (c : Chip) (x : Expect) : Option Int :=
  (c.measuredOf x).find? (fun m => !(decide (x.e - x.tl ≤ m) && decide (m ≤ x.e + x.tu)))

/-- Record an expectation's failure (source 11). -/
def Chip.recordExpect (c : Chip) (kind idx q e : Nat) (m x : Int) : Chip :=
  c.record 11 (svyRegion kind idx) 1 (svySubject kind idx) [q, e] [unsigned 32 m, unsigned 32 x]

/-- Judge the expectations of a target on the quantities just measured; the count of failures and whether one has outcome 2. A
failure sets the quantity's mismatch bit. -/
def Chip.judgeTarget (c : Chip) (kind idx when_ : Nat) : Chip × Nat × Bool :=
  let a := recAt kind idx
  let base := quantityBase kind
  let xs := c.sys.expects.filter (fun x => x.kind == kind && x.index == idx && x.when_.testBit when_ && x.quantity != 0x60
    && c.getBit a SRec.measured (x.quantity - base))
  let c0 := (List.range 8).foldl (fun c q =>
    if c.getBit a SRec.measured q then c.putBit a SRec.mismatch q false else c) c
  xs.foldl (fun r x =>
    match r.1.failing x with
    | none => r
    | some m =>
      let c1 := r.1.putBit a SRec.mismatch (x.quantity - base) true
      let c2 := if x.outcome = 0 then c1 else c1.recordExpect kind idx x.quantity x.element m x.e
      (c2, r.2.1 + 1, r.2.2 || (x.outcome == 2 && decide (kind ≤ 4)))) (c0, 0, false)

/-! ### Commands (R110 to R112) -/

/-- May an action on the target begin at all: in S8, on a target that exists, in a region that the image names where it is a terminal
(R10), by a steward that is not fenced (Table 1.2)? -/
def Chip.actionAllowed (c : Chip) (kind idx : Nat) : Bool :=
  c.phase == 8 && c.targetExists kind idx && (decide (3 ≤ kind) || c.named (svyRegion kind idx))
    && !c.regionClosed (svyHost kind idx) && !c.blockFenced (svyHost kind idx) 11

/-- May a survey of the target begin (R110, R111, Table 12.11)? -/
def Chip.surveyAllowed (c : Chip) (kind idx : Nat) : Bool :=
  c.actionAllowed kind idx
    && (kind != 0 || (!(c.chan idx).safety && !c.groupFenced idx))
    && (kind != 1 || ((c.ax idx).atStill && !c.blockFenced (idx / 2) 10))
    && (kind != 2 || !c.blockFenced idx 9)
    && (kind != 3 || c.stationUp (1 - idx))

/-- May the channel be tempered (R112)? -/
def Chip.temperAllowed (c : Chip) (kind idx : Nat) : Bool :=
  kind == 0 && c.actionAllowed 0 idx && !(c.chan idx).safety && !c.groupFenced idx
    && (decide (1 ≤ c.mode idx && c.mode idx ≤ 6) || c.mode idx == 8)

/-- The command is accepted: busy, its target noted, its holds begin. -/
def Chip.surveyBegin (c : Chip) (bitNo kind idx : Nat) : Chip :=
  let c1 := ((c.put surveyAt Survey.target (256 * kind + idx)).put surveyAt Survey.result 1).setSys (fun s => { s with
    svyCmd := bitNo, svyOff := [], svyGain := [] })
  if kind = 0 && bitNo = 1 then
    c1.each (c1.svyChans idx) (fun c g => (c.setChan g (fun h => { h with
      tempering := true, temperCmd := c.get (chanAt g) Chan.command })).putStatus g)
  else if kind = 0 && !outMode (c.mode idx) then (c1.setChan idx (fun h => { h with surveyed := true })).putStatus idx
  else if kind = 2 then c1.setPort idx (fun p => { p with termOpen := some c.now })
  else if kind = 3 then c1.stationDown idx
  else c1

/-- The command word of the survey block. -/
def Chip.surveyCommand (c : Chip) (w : Nat) : Chip :=
  let kind := w / 2 ^ 16 % 8
  let idx := w / 2 ^ 8 % 256
  if c.get surveyAt Survey.result = 1 then c
  else match (List.range 3).filter w.testBit with
  | [] => c
  | [0] => if c.surveyAllowed kind idx then c.surveyBegin 0 kind idx else c.put surveyAt Survey.result 3
  | [1] => if c.temperAllowed kind idx then c.surveyBegin 1 kind idx else c.put surveyAt Survey.result 3
  | [2] => if decide (kind ≤ 4) && c.surveyAllowed kind idx then c.surveyBegin 2 kind idx else c.put surveyAt Survey.result 3
  | _ => c.put surveyAt Survey.result 3

/-- The word of a survey command. -/
def surveyWord (bitNo kind idx : Nat) : Nat := 2 ^ 16 * kind + 2 ^ 8 * idx + 2 ^ bitNo

/-- SURVEY (R110, R111). -/
def execSurvey (kind : Fin 8) (index : Fin 256) (s : State) : Out :=
  chipOnly s (·.surveyCommand (surveyWord 0 kind.val index.val))

/-- TEMPER (R110, R112). -/
def execTemper (kind : Fin 8) (index : Fin 256) (s : State) : Out :=
  chipOnly s (·.surveyCommand (surveyWord 1 kind.val index.val))

/-- RETURN_TO_SERVICE (R109, R110). -/
def execReturnToService (kind : Fin 8) (index : Fin 256) (s : State) : Out :=
  chipOnly s (·.surveyCommand (surveyWord 2 kind.val index.val))

/-- A hold begins or ends at the next cycle boundary (R108, R109); with the engine stopped no boundary comes and it does so at
once. -/
def Chip.holdLater (c : Chip) (kind idx : Nat) (on : Bool) : Chip :=
  if c.get engineAt Engine.state = 1 then c.setSys (fun s => { s with oosNext := s.oosNext ++ [(kind, idx, on)] })
  else c.holdTarget kind idx on

/-- SURVEY_COMPLETE (R103, R106 to R111): the survey of the survey or return_to_service command ends with its results. An expectation whose
quantity was not measured has no outcome and holds no return back (DESIGN CHOICE, log entry 145). -/
def execSurveyComplete (results : List (Fin 256 × Fin 8 × BitVec 32)) (s : State) : Out :=
  chipOnly s (fun c =>
    match c.svyTarget with
    | none => c
    | some (kind, idx) =>
      if c.sys.svyCmd = 1 then c
      else
        let rs := (results.map (fun r => (r.1.val, r.2.1.val, r.2.2.toNat))).filter (fun r =>
          (quantitiesOf kind).contains r.1 && c.onDemand kind idx r.1)
        let (c1, n, hold) := (c.putResults kind idx rs).judgeTarget kind idx 1
        let c2 := c1.bumpByI surveyAt Survey.mismatch_run 0 n
        let isOos := c2.flag (recAt kind idx) SRec.oos
        let c3 := if c.sys.svyCmd = 2 && n = 0 && isOos then c2.holdLater kind idx false
          else if hold && !isOos then c2.holdLater kind idx true else c2
        c3.svyEnd (if n = 0 then 2 else 6) 0 0)

/-! ### Temper (R241) -/

/-- Channels the running temper calibrates: one, or the two of an RTD pair, one after the other (R112). -/
def Chip.temperChans (c : Chip) : List Nat :=
  match c.svyTarget with
  | some (0, g) => if c.sys.svyCmd = 1 then c.svyChans g else []
  | _ => []

/-- TEMPER_ZERO_DONE (Table 8.9 step 2): the offset of the next channel is found, in 0.1 ppm of span. -/
def execTemperZeroDone (offset : BitVec 32) (s : State) : Out :=
  chipOnly s (fun c =>
    if c.sys.svyOff.length < c.temperChans.length then c.setSys (fun y => { y with svyOff := y.svyOff ++ [offset.toInt] }) else c)

/-- TEMPER_GAIN_DONE (Table 8.9 step 3): the gain of the next channel whose zero is found, in 0.1 ppm of span. -/
def execTemperGainDone (gain : BitVec 32) (s : State) : Out :=
  chipOnly s (fun c =>
    if c.sys.svyGain.length < min c.sys.svyOff.length c.temperChans.length then
      c.setSys (fun y => { y with svyGain := y.svyGain ++ [gain.toInt] })
    else c)

/-- Is a new calibration of channel g within 0.5 % of span of the previous one (R241)? -/
def Chip.calNear (c : Chip) (g : Nat) (off gain : Int) : Bool :=
  decide ((off - c.getS (chanAt g) Chan.cal_offset).natAbs ≤ 50000) && decide ((gain - c.getS (chanAt g) Chan.cal_gain).natAbs ≤ 50000)

/-- TEMPER_COMPLETE (R241, Table 8.9 step 4): corrections within 0.5 % of span of the previous calibration are taken whole; a greater one is
not applied, nor that of its companion, and gives result 6. The calibration words are INT16 and saturate (log entry 33). -/
def execTemperComplete (s : State) : Out :=
  chipOnly s (fun c =>
    let gs := c.temperChans
    if gs.isEmpty || c.sys.svyGain.length < gs.length then c
    else
      let cals := gs.zip (c.sys.svyOff.zip c.sys.svyGain)
      let ok := cals.all (fun k => c.calNear k.1 k.2.1 k.2.2)
      let c1 : Chip := if !ok then c else c.each cals (fun c k =>
        let b := chanAt k.1
        let t := c.stamp
        (((c.putS b Chan.cal_offset k.2.1).putS b Chan.cal_gain k.2.2).put b Chan.cal_stamp_lo (t % 2 ^ 32)).put b
          Chan.cal_stamp_hi (t / 2 ^ 32))
      c1.svyEnd (if ok then 2 else 6) (unsigned 32 (nth 0 c.sys.svyOff 0)) (unsigned 32 (nth 0 c.sys.svyGain 0)))

end Sys2Proof.Machine
end

