-- ==== Sys2Proof/Machine/Start.lean ====
section
/-! DEFINITION. The start phases (R92 to R99): the end of each phase with what it leaves, halts, entry to run, and the service
restart. -/

namespace Sys2Proof.Machine

/-- Is the module in a phase, not halted? -/
def Chip.inPhase (c : Chip) (p : Nat) : Bool := c.phase == p && !c.flag surveyAt Survey.halted

/-- Enter a phase. -/
def Chip.enterPhase (c : Chip) (p : Nat) : Chip := c.put surveyAt Survey.phase p

/-- S1_QUALIFIED (Table 4.1): LS at 18.5 V for 100 ms without a break, core in its band, TB present, the capacitors charged. -/
def execS1Qualified (lsMv coreMv : BitVec 16) (charged : Bool) (s : State) : Out :=
  chipOnly s (fun c =>
    if !c.inPhase 1 || c.now < c.sys.lsLowAt + 100000 || c.flag supplyAt Supply.ls_low || c.clkLost 0 0 || !isAtLeast 18500 lsMv.toNat || coreMv.toNat < 850 || 950 < coreMv.toNat || !charged then c
    else (c.put supplyAt Supply.holdup_ready 1).enterPhase 2)

/-! ### S2 -/

/-- A link has trained at start, or has failed its three attempts (R96). -/
def Chip.startLink (c : Chip) (r k : Nat) (up : Bool) : Chip :=
  if up then (c.putBit (regionAt r) Region.link_up k true).setLink r k (fun h => { h with goodAt := c.now })
  else (c.setLink r k (fun h => { h with downAt := c.now, failRec := true, downs := [c.now] })).record 17 r 1 k [3]
    [c.getI (regionAt r) Region.replays k]

/-- The links after training and the routes they give (R96): a link is up where both of its ends trained. -/
def Chip.trainLinks (c : Chip) (trained : BitVec 32) : Chip :=
  let up (r k : Nat) : Bool := trained.getLsbD (4 * r + k) &&
    trained.getLsbD (4 * linkTo c.nRegions r k + linkMate c.nRegions k)
  let c1 := c.each c.regions (fun c r =>
    ((c.put (regionAt r) Region.regionNo r).put (regionAt r) Region.lead (b2n (r == 0))).each (List.range 4) (fun c k =>
      c.startLink r k (up r k)))
  c1.routesSync

/-- The address the module uses (R439): the one it keeps, or the one of a module that has never accepted an image. -/
def Flash.ownAddress (f : Flash) (pos : Nat) : Nat :=
  match f.address with
  | some (a, b, _, _) => if pos = 2 then b else a
  | none => leNat [192, 168, 250, if pos = 2 then 11 else 10]

/-- The tongs that a restart reset resynchronise where their clock runs: those of NET as the station ports come up, the others in S3, whose
loop-back transfer takes the flagged difference of a count tongs (R70, R71, Table 4.3; DEDUCED, log entry 141). -/
def Chip.resyncStart (c : Chip) (ds : List Nat) : Chip :=
  c.each c.regions (fun c r => c.resyncTongs r (c.sys.resync.filter (fun k =>
    k / 128 == r && ds.contains (k / 16 % 8) && !c.clkLost r (k / 16 % 8))) false)

/-- S2_ENUMERATED (R96, R94): the links that trained, the regions that answered; the station ports come up and the panel may start,
in a module that halts here too. -/
def execS2Enumerated (trained : BitVec 32) (answered : BitVec 8) (speedA speedB : Fin 4) (cables : List (BitVec 32))
    (s : State) : Out :=
  chipOnly s (fun c =>
    if !c.inPhase 2 then c
    else
      let c2 := c.trainLinks trained
      let cut := c2.regions.any (fun r => r != 0 && (c2.routeTo 0 r).isNone)
      let short := ((List.range 8).filter (fun r => answered.getLsbD r)).length != c2.nRegions
      let c3 := c2.each c2.regions (fun c r =>
        let c' := (c.put (stewAt r) Stew.running 1).put (stewAt r) Stew.version (c.get identAt Ident.boot_steward)
        c'.each ((List.range 8).filter (c'.usesDomain r)) (fun c d => c.putBit (regionAt r) Cross.clock_ok d (!c.clkLost r d)))
      let c4 := ((c3.put slinkAt SLink.na_speed speedA.val).put slinkAt SLink.nb_speed speedB.val).put slinkAt SLink.ip_now
        (s.flash.ownAddress c3.pos)
      let ws := (cables.map (·.toNat)).zipIdx
      let c5 := (List.range 2).foldl (fun c p => c.putResults 3 p
        ((ws.filter (fun w => w.2 / 4 == p)).map (fun w => (0x40, w.2 % 4 + 1, w.1)))) c4
      let c6 := ((c5.resyncStart [3]).setPanel (fun p => { p with s2At := some c.now })).wantPanel
      if cut then c6.halt 2 else if short then c6.halt 1 else c6.enterPhase 3)

/-! ### S3 -/

/-- The consequence of a failed self-test (Table 4.3), with its record. -/
def State.selfTestFail (s : State) (r i row : Nat) : State :=
  if !s.chip.fitted r || row = 0 || row = 9 then s
  else
    let s1 := s.onChip (·.record 12 r 2 (256 * r + i) [row] [])
    if row = 1 || row = 2 || row = 6 then s1.fenceBlock r i
    else if row = 3 then s1.onChip (·.linkDown r i 3)
    else if row = 4 then
      (if s1.chip.usesDomain r i && !s1.chip.clkLost r i then (s1.onChip (·.markClock r i true)).clockEffect r i else s1)
    else if row = 5 then s1.onChip (·.halt 3)
    else if row = 7 then s1.fenceBlock r 10
    else s1.onChip (fun c => (c.latchIsle r 2).latchIsle (mate r) 7)

/-- The retained store fails its check: its content is lost (R98). -/
def State.loseRetained (s : State) : State :=
  (s.setRetained (fun r => { ok := false, axesOk := false, oos := r.oos })).onChip (fun c =>
    ((c.put statusAt Status.retained_lost 1).put statusAt Status.starts 0).record 12 0xFF 2 0xFFFFFFFF [9] [])

/-- S3_SELF_TEST_DONE (R97, R98, R468): failures have their consequences, the recorder mounts its store, a lost calendar is
reported (R84). -/
def execS3SelfTestDone (fails : List (Fin 8 × Fin 16 × Fin 10)) (retainedOk : Bool) (s : State) : Out :=
  if !s.chip.inPhase 3 then .next s
  else
    let s1 := fails.foldl (fun s f => s.selfTestFail f.1.val f.2.1.val f.2.2.val) s
    let s2 := if retainedOk then s1 else s1.loseRetained
    let s3 := s2.onChip (fun c0 =>
      let r := s2.flash.retained
      let c := c0.resyncStart (List.range 8)
      let c1 := c.put panelAt Panel.dirty (b2n (r.dirty || !r.ok))
      if c1.aon.exhausted then { (c1.record 9 0xFF 1 0 [] []) with aon := { c1.aon with exhausted := false } } else c1)
    let s4 := if s3.chip.blockFenced 1 13 || s3.chip.blockFenced 1 11 then s3 else s3.mount
    .next (s4.onChip (fun c => if c.inPhase 3 then c.enterPhase 4 else c))

/-! ### S4 -/

/-- Put the check code of a slot, with its record when it failed (R138). -/
def State.putCheck (s : State) (slot code : Nat) : State :=
  s.onChip (fun c =>
    let c1 := c.put imageAt (if slot = 0 then Image.check_0 else Image.check_1) code
    if code = 0 then c1
    else c1.record 14 0xFF 1 slot [1, code] [numAt (s.flash.bytes (slotAt slot) 128) 24 4])

/-- The image of a slot is loaded (R125, R128, R129, R143, R213): its words, its information, the modes of its channels, its
publications, the address kept for later starts. -/
def State.loadImage (s : State) (slot : Nat) : State :=
  let a := slotAt slot
  let bs := s.flash.bytes a (numAt (s.flash.bytes a 128) 8 4)
  let ss := imgSecs bs
  let c1 := s.chip.loadSecs ss
  let sb := secBody ss 0x0C
  let crc := numAt sb (sb.length - 8) 4
  let acc := numAt sb (sb.length - 4) 4
  let c2 := ((((((c1.put imageAt Image.slot slot).put imageAt Image.signed (numAt bs 15 1 % 2)).put imageAt Image.key_slot
    (numAt bs 28 1)).put imageAt Image.image_id (numAt bs 24 4)).put imageAt Image.image_len (numAt bs 8 4)).put imageAt
    Image.region_mask (numAt bs 14 1)).put imageAt Image.steward_version (versionNat (secBody ss 0x02))
  let c3 := c2.each (List.range 8) (fun c k => (c.putI imageAt Image.image_digest k (numAt bs (bs.length - 96 + 4 * k) 4)).putI
    imageAt Image.structure_digest k (numAt bs (32 + 4 * k) 4))
  let c4 : Chip := if sb.isEmpty then c3 else
    ((c3.put imageAt Image.safety_crc crc).put imageAt Image.acceptance acc).each c3.regions (fun c r =>
      ((c.put (isleAt r) Isle.param_crc crc).put (isleAt r) Isle.acceptance acc).put (isleAt r) Isle.params_ok 1)
  let c5 := c4.each c4.regions (fun c r => c.put (stewAt r) Stew.version (c.get imageAt Image.steward_version))
  let pubs := (c5.eng.prog.filterMap (fun i => match blkOf i.code with
    | some (.pub, _) => some (c5.instWord i 0)
    | _ => none)).dedup
  let c6 := c5.setNet (fun n => { n with pubs := pubs.map (fun p => { pub := p, data := List.replicate (c5.pubLen p) 0 }) })
  let c7 := (c6.each c6.regions (fun c r => if c.isleRuns r then c.armIsle r else c.deadIsle r)).each
    (c6.regions.filter (fun r => r % 2 == 0)) Chip.enterPair
  let rd (k : Nat) := c7.nat (slinkAt + k)
  { s with chip := c7, flash := { s.flash with address := some (rd 0, rd 1, rd 2, rd 3) } }

/-- The slot-select records are read, with a record when none is valid (R137). -/
def State.readSelect (s : State) : State :=
  s.onChip (fun c =>
    let c1 := ((c.selectSync s.flash).put imageAt Image.check_0 0xFF).put imageAt Image.check_1 0xFF
    if s.flash.governing.isNone then c1.record 14 0xFF 1 0xFF [5] [] else c1)

/-- S4_IMAGE_CHECKED (R137, R138): slot selection, the check of the slots it permits, the load of the image accepted, or a
halt. -/
def execS4ImageChecked (s : State) : Out :=
  if !s.chip.inPhase 4 then .next s
  else
    let s1 := s.readSelect
    let sel := s1.chip.get imageAt Image.select_slot
    let fb := s1.chip.flag imageAt Image.select_fb
    let code := s1.chip.checkSlot s.flash sel
    let s2 := s1.putCheck sel code
    if code = 0 then .next ((s2.loadImage sel).onChip (·.enterPhase 5))
    else
      let reason := if code = 9 then 5 else 4
      if !fb then .next (s2.onChip (·.halt reason))
      else
        let oth := 1 - sel
        let code2 := s1.chip.checkSlot s.flash oth
        let s3 := s2.putCheck oth code2
        if code2 = 0 then
          .next ((s3.loadImage oth).onChip (fun c => ((c.put imageAt Image.fell_back 1).record 14 0xFF 2 oth [2]
            [c.get imageAt Image.image_id]).enterPhase 5))
        else .next (s3.onChip (·.halt reason))

/-! ### S5 -/

/-- The plug's routing of a channel or an axis. -/
def Chip.plugOf (c : Chip) (kind idx : Nat) : Nat :=
  if kind = 0 then c.nat (pairAt + 0x20 + idx / 16) / 4 ^ (idx % 16) % 4 else c.nat (pairAt + 0x28) / 4 ^ idx % 4

/-- The image's routing of a channel or an axis. -/
def Chip.imgRouteOf (c : Chip) (kind idx : Nat) : Nat :=
  if kind = 0 then c.nat (pairAt + 0x10 + idx / 16) / 4 ^ (idx % 16) % 4 else c.nat (pairAt + 0x18) / 4 ^ idx % 4

/-- The routing comparison of one target (R407): m and E in the unit of quantity 0x60, 1 for shared. -/
def Chip.compareRoute (c : Chip) (kind idx : Nat) : Chip :=
  let p := c.plugOf kind idx
  let i := c.imgRouteOf kind idx
  if p = i then c
  else
    let c1 := (if kind = 0 then c.setNat (pairAt + 0x30 + idx / 32) (withBit (c.nat (pairAt + 0x30 + idx / 32)) (idx % 32) true)
      else c.putBit pairAt Pair.axis_route_mm idx true).put (recAt kind idx) SRec.route_mm 1
    (c1.recordExpect kind idx 0x60 0 (b2n (p == 3)) (b2n (i == 3))).holdTarget kind idx true

/-- An expectation on the routing of a channel (quantity 0x60, R106, R115): its bit is route_mm. -/
def Chip.judgeRoute (c : Chip) (x : Expect) : Chip :=
  let m : Int := b2n (c.plugOf 0 x.index == 3)
  if m = x.e then c
  else
    let c1 := (c.bumpByI surveyAt Survey.mismatch_start 0 1).put (recAt 0 x.index) SRec.route_mm 1
    let c2 := if x.outcome = 0 then c1 else c1.recordExpect 0 x.index 0x60 0 m x.e
    if x.outcome = 2 then c2.holdTarget 0 x.index true else c2

/-- The state an axis starts in (Table 11.6, R328). -/
def Chip.startAxis (c : Chip) (r : Retained) (x : Nat) : Chip :=
  let k := nth {} r.axes x
  let trust := c.flag (axisAt x) Axis.trust_stored
  let row := if !r.ok || !r.axesOk then 6 else if k.ref = 0 then 5 else if k.moving then (if trust then 3 else 4) else if trust then 1 else 2
  let lost := row = 3 || row = 4
  let c1 := (c.setAx x (fun h => { h with p := if row = 6 then 0 else k.p })).setRef x (if row = 1 || row = 3 then 1 else 0)
  let c2 := (if lost then c1.xOn x xLost else c1).axSync x
  c2.xRecord 55 x (b2n lost) [row] [c2.xPos x]

/-- The targets of the survey in S5, kind by kind. -/
def Chip.surveyTargets (c : Chip) : List (Nat × Nat) :=
  ((List.range 7).flatMap (fun k => (List.range (targetsOf k)).map (fun i => (k, i)))).filter (fun t => c.targetExists t.1 t.2)

/-- A target that was out of service before the start returns where its survey in S5 passed; it stays out of service where one of its
expectations failed, whatever its outcome (R109). -/
def Chip.returnAtStart (c : Chip) (kind idx : Nat) : Chip :=
  let a := recAt kind idx
  if c.flag a SRec.oos || !c.targetExists kind idx then c
  else if c.get a SRec.mismatch != 0 || c.flag a SRec.route_mm then c.holdTarget kind idx true
  else c.record 13 (svyRegion kind idx) 0 (svySubject kind idx) [2, 2] [0, 0]

/-- A channel whose mode the image or the SAFETY section sets begins to take it when the survey of S5 has ended (R539): step 2 of Table 8.2
follows, with nothing to stop and no record; until step 3 its image is 0.0, stale. -/
def Chip.modeAtStart (c : Chip) (g : Nat) : Chip :=
  ((c.setChan g (fun h => { h with seq := 1, img := 0, imgTy := tyReal })).put (chanAt g) Chan.value 0).putStatus g

/-- S5_SURVEY_DONE (R83, R100 to R109, R328, R407): results are stored and judged, holds begin, a target that was out of service before
the start and passes has returned, axes take their state. -/
def execS5SurveyDone (results : List (Fin 8 × Fin 256 × Fin 256 × Fin 8 × BitVec 32)) (holdup : BitVec 16) (s : State) : Out :=
  chipOnly s (fun c =>
    if !c.inPhase 5 then c
    else
      let all := (results.map (fun r => (r.1.val, r.2.1.val, r.2.2.1.val, r.2.2.2.1.val, r.2.2.2.2.toNat)))
        ++ [(5, 0, 0x04, 0, holdup.toNat)]
      let c0 := c.put supplyAt Supply.holdup_est holdup.toNat
      let c1 := if holdup.toNat < 300 then (c0.put supplyAt Supply.holdup_short 1).record 8 0xFF 1 0 [] [holdup.toNat] else c0
      let c2 := c1.each c1.surveyTargets (fun c t =>
        let rs := (all.filter (fun r => r.1 == t.1 && r.2.1 == t.2 && (quantitiesOf t.1).contains r.2.2.1
          && c.inS5 t.1 t.2 r.2.2.1)).map (fun r => (r.2.2.1, r.2.2.2.1, r.2.2.2.2))
        let c' := if t.1 = 3 then c else c.putResults t.1 t.2 rs
        let (c3, n, hold) := c'.judgeTarget t.1 t.2 0
        let c4 := c3.bumpByI surveyAt Survey.mismatch_start 0 n
        if hold then c4.holdTarget t.1 t.2 true else c4)
      let c3 := c2.each (c2.sys.expects.filter (fun x => x.kind == 0 && x.quantity == 0x60 && x.when_.testBit 0)) Chip.judgeRoute
      let c4 := if !c3.sys.hasPair then c3 else
        (c3.each ((List.range 128).filter (fun g => c3.fitted (g / 16))) (fun c g => c.compareRoute 0 g)).each
          ((List.range 16).filter (fun x => c3.fitted (x / 2))) (fun c x => c.compareRoute 1 x)
      let c5 := (c4.each s.flash.retained.oos (fun c t => c.returnAtStart t.1 t.2)).each ((List.range 16).filter c4.axUsed) (fun c x => c.startAxis s.flash.retained x)
      let c6 := c5.each ((List.range 128).filter (fun g => c5.modeWanted g != 0)) Chip.modeAtStart
      let c7 := (c6.setPair (fun p => { p with negAt := c.now })).enterPhase 6
      if c7.paired then c7.setLease 1 0 0 else c7)

/-! ### S6 to S8 -/

/-- S6_NEGOTIATED (R414): negotiation concludes with the partner's values; a module without a partner to seek goes on alone. -/
def execS6Negotiated (s : State) : Out :=
  chipOnly s (fun c =>
    if !c.inPhase 6 then c
    else if !c.paired then c.enterPhase 7
    else if c.pair.neg.isNone && c.pos != 0 && c.sys.hasPair then c
    else c.concludeNeg)

/-- May run begin: the module acts alone, holds the lease, or is a synchronised shadow (Table 4.1)? -/
def Chip.mayRun8 (c : Chip) : Bool :=
  if c.paired then [2, 4, 5, 6].contains c.lease else c.lease == 0

/-- The slice of a region starts at S8 entry (R283, R298, R299): its loops are in manual, after a handover
at the last output of the module that handed over (Table 14.6). -/
def Chip.sliceEntry (c : Chip) (r : Nat) : Chip :=
  let c1 := c.setSlice r (fun h => { h with stopped := false, running := none, busy := 0, counted := 0, windowAt := c.now })
  let c2 := c1.each (((List.range 32).map (fun k => 32 * r + k)).filter c1.loopUsed) (fun c n =>
    let b := loopAt n
    let given := assoc c.pair.handOuts n
    c.loopBegin n ((given.map (signed 32)).getD (c.getS b Loop.man)) (c.flag b Loop.start_auto && !c.supervised n && given.isNone))
  c2.record 61 r 0 r [0] []

/-- The loops in use begin at S8 entry; those of a slice that is fenced stand stopped (R299). -/
def Chip.loopsEntry (c : Chip) : Chip :=
  c.each ((List.range 256).filter c.loopUsed) (fun c n =>
    let r := n / 32
    (c.loopEntry n).when (c.regionFenced r || c.blockFenced r 8) (·.setLoopState n 4))

/-- S8_ENTRY (R95 and the fields that act on entry to S8): run begins. Outputs stay de-energised until the first output
write. -/
def execS8Entry (s : State) : Out :=
  chipOnly s (fun c =>
    if !c.inPhase 7 || !c.mayRun8 then c
    else
      let ms := min (c.now / 1000) (2 ^ 32 - 1)
      let c1 := ((({ c with s8At := c.now }.enterPhase 8).put surveyAt Survey.start_ms ms).record 0 0xFF 0 0 [] [ms]).loopsEntry
      let rs := c1.regions.filter (fun r => !c1.regionFenced r)
      let c2 := c1.each rs (fun c r =>
        let c' := (c.put (regionAt r) Region.running 1).countersStart r
        if c'.blockFenced r 8 then c' else c'.sliceEntry r)
      let c3 := (c2.setEng (fun e => { e with
        phase := 3, wdLimit := c2.get engineAt Engine.wd_limit, warnLimit := c2.get engineAt Engine.warn_limit
        minGap := c2.get engineAt Engine.min_gap, boundaryAt := c2.now - c2.get engineAt Engine.min_gap
        first := e.first && c2.lease != 4 })).when (c2.get engineAt Engine.state != 3) (·.put engineAt Engine.state 1)
      let c5 := c3.each rs Chip.portSync
      let groups := ((List.range 256).map (c5.getI partnerAt Partner.group)).filter (· != 0)
      let c6 := ((c5.each groups (fun c g => c.netSend 7 (leBytes 4 g))).put panelAt Panel.page_now
        (c5.get panelAt Panel.def_page)).wantPanel
      (if c6.get engineAt Engine.state = 3 then c6.faultStop else c6).statusSync)

end Sys2Proof.Machine
end

