-- ==== Sys2Proof/Machine/Engine.lean ====
section
/-! DEFINITION. The cycle of the block engine (R154 to R182): boundary, input latch, the end of execution, output write, the
watchdog, online changes and forces, with what a pair mirrors at each (Table 14.4). -/

namespace Sys2Proof.Machine

/-! ### Pair sequence numbers -/

/-- The pair sequence numbers of send objects (128·port + object), stations (64·port + place) and publications (R382, R387,
R445). -/
def Chip.pairSeqs (c : Chip) : List (Nat × Nat × Nat) :=
  let objs := ((List.range 8).filter c.fitted).flatMap (fun r => ((List.range 128).filter (fun j => c.objMode r j 4)).map (fun j =>
    (0, 128 * r + j, c.getI (portAt r) PWord.ob_pseq j)))
  let stas := ((List.range 8).filter c.fitted).flatMap (fun r => (c.port r).stas.zipIdx.map (fun s => (1, 64 * r + s.2, s.1.outSeq)))
  objs ++ stas ++ c.net.pubs.map (fun p => (2, p.pub, p.seq))

/-- Take a pair sequence number. -/
def Chip.putPairSeq (c : Chip) (e : Nat × Nat × Nat) : Chip :=
  if e.1 = 0 then c.putI (portAt (e.2.1 / 128)) PWord.ob_pseq (e.2.1 % 128) e.2.2
  else if e.1 = 1 then c.setSta (e.2.1 / 64) (e.2.1 % 64) (fun s => { s with outSeq := e.2.2 })
  else c.setNet (fun n => { n with pubs := n.pubs.map (fun p => if p.pub = e.2.1 then { p with seq := e.2.2 } else p) })

/-! ### The mirror record as words (log entry 30) -/

/-- A list of lists, each under its length, under their number. -/
def packLists (l : List (List Nat)) : List Nat := l.length :: l.flatMap (fun x => x.length :: x)

/-- `n` lists, each under its length. -/
def unpackN : Nat → List Nat → List (List Nat) × List Nat
  | 0, ws => ([], ws)
  | n + 1, ws =>
    let k := nth 0 ws 0
    let (ls, rest) := unpackN n ((ws.drop 1).drop k)
    ((ws.drop 1).take k :: ls, rest)

/-- The lists under their number, at most one for each word there is. -/
def unpackLists (ws : List Nat) : List (List Nat) × List Nat := unpackN (min (nth 0 ws 0) ws.length) (ws.drop 1)

/-- A number of up to 64 bits as two words. -/
def two (n : Nat) : List Nat := [n % 2 ^ 32, n / 2 ^ 32 % 2 ^ 32]

/-- A subscription as words. -/
def subWords (h : SubSt) : List Nat :=
  let (has, q, d) := match h.last with
    | some (q, d) => (1, q, d)
    | none => (0, 0, [])
  [h.partner, h.pub] ++ two h.rxAt ++ [h.cls, has, q, h.data.length] ++ h.data ++ d

/-- A subscription from words. -/
def subOf (ws : List Nat) : SubSt :=
  let n := nth 0 ws 7
  let d := (ws.drop 8).take n
  { partner := nth 0 ws 0, pub := nth 0 ws 1, rxAt := nth 0 ws 2 + 2 ^ 32 * nth 0 ws 3, cls := nth 0 ws 4
    data := d, last := if nth 0 ws 5 = 1 then some (nth 0 ws 6, (ws.drop 8).drop n) else none }

/-- The part of a mirror record that is sent at the latch. -/
def MirrorRec.latchWords (m : MirrorRec) : List Nat :=
  packLists [[m.cycle] ++ two m.latchTick ++ two m.latchCal ++ [m.prevTime],
    packLists (m.imgs.map (fun i => [i.ty, i.val, i.st])),
    packLists (m.stas.map (fun s => [s.key, s.st, s.age] ++ s.bytes)),
    packLists (m.words.map (fun w => [w.1, w.2])),
    packLists (m.ring.map (fun e => [e.1, e.2.1, e.2.2.tick, e.2.2.idw, e.2.2.w2] ++ e.2.2.data)),
    packLists (m.changes.map (fun w => [w.1, w.2])),
    packLists (m.outcomes.map (fun o => [o.seq, b2n o.busy, b2n o.ok, o.code])),
    packLists (m.acts.map (fun a => [a.1, a.2.seq, b2n a.2.busy, a.2.code])),
    packLists (m.subs.map subWords), packLists m.stops, packLists (m.sfs.map (fun f => [f.1, b2n f.2]))]

/-- The part that is sent at the output write. -/
def MirrorRec.endWords (m : MirrorRec) : List Nat :=
  packLists [packLists (m.reads.map (fun w => two w.1 ++ [w.2])),
    packLists (m.seqs.map (fun e => [e.1, e.2.1, e.2.2])), [m.digest]]

/-- A mirror record from its two parts. -/
def mirrorOf (ls es : List Nat) : MirrorRec :=
  let a := (unpackLists ls).1
  let e := (unpackLists es).1
  let at_ (k : Nat) : List (List Nat) := (unpackLists (nth [] a k)).1
  let h := nth [] a 0
  { cycle := nth 0 h 0, latchTick := nth 0 h 1 + 2 ^ 32 * nth 0 h 2, latchCal := nth 0 h 3 + 2 ^ 32 * nth 0 h 4
    prevTime := nth 0 h 5
    imgs := (at_ 1).map (fun w => ⟨nth 0 w 0, nth 0 w 1, nth 0 w 2⟩)
    stas := (at_ 2).map (fun w => { key := nth 0 w 0, st := nth 0 w 1, age := nth 0 w 2, bytes := w.drop 3 })
    words := (at_ 3).map (fun w => (nth 0 w 0, nth 0 w 1))
    ring := (at_ 4).map (fun w => (nth 0 w 0, nth 0 w 1,
      { tick := nth 0 w 2, idw := nth 0 w 3, w2 := nth 0 w 4, data := w.drop 5 }))
    changes := (at_ 5).map (fun w => (nth 0 w 0, nth 0 w 1))
    outcomes := (at_ 6).map (fun w => ⟨nth 0 w 0, nth 0 w 1 != 0, nth 0 w 2 != 0, nth 0 w 3⟩)
    acts := (at_ 7).map (fun w => (nth 0 w 0, ⟨nth 0 w 1, nth 0 w 2 != 0, nth 0 w 3⟩))
    subs := (at_ 8).map subOf
    stops := at_ 9, sfs := (at_ 10).map (fun w => (nth 0 w 0, nth 0 w 1 != 0))
    reads := ((unpackLists (nth [] e 0)).1).map (fun w => (nth 0 w 0 + 2 ^ 32 * nth 0 w 1, nth 0 w 2))
    seqs := ((unpackLists (nth [] e 1)).1).map (fun w => (nth 0 w 0, nth 0 w 1, nth 0 w 2))
    digest := nth 0 (nth [] e 2) 0 }

/-! ### Cycle boundary -/

/-- The holder's own values return where it ran on another image's as a shadow (R423). -/
def Chip.restoreOwn (c : Chip) : Chip :=
  if !c.pair.restore then c
  else (c.each c.pair.own (fun c e => (c.applyWord e.1 e.2).noteBound [(e.1, e.2)])).setPair (fun p => { p with own := [], restore := false })

/-- Is the address a word of the force table? -/
def isForce (a : Nat) : Bool := decide (forceAt + 0x100 ≤ a) && decide (a < forceAt + 0x500)

/-- One word of the holder's boundary, in a shadow (R174, R178): a force entry, whose word 0 comes last, or an online change; what an
image of another digest held is remembered (R423). -/
def Chip.mirrorChange (c : Chip) (w : Nat × Nat) : Chip :=
  if isForce w.1 then
    let i := (w.1 - forceAt - 0x100) / 4
    let old := c.nat (forceEntry i)
    let c1 := c.setNat w.1 w.2
    if w.1 % 4 != 0 then c1
    else if w.2 / 2 ^ 24 = 0 then (c1.record 94 (old / 2 ^ 8 % 2 ^ 8) 0 i [3] []).forcesSync
    else (c1.record 94 (w.2 / 2 ^ 8 % 2 ^ 8) 0 i [2] [c1.nat (forceEntry i + 2), c1.nat (forceEntry i + 3)]).forcesSync
  else
    let c1 := if c.flag pairAt Pair.img_differs && !c.pair.own.any (fun e => e.1 == w.1) then
        c.setPair (fun p => { p with own := (w.1, c.nat w.1) :: p.own }) else c
    c1.applyChange { addr := w.1, value := w.2, prog := none, session := none }

/-- The holder's boundary in a shadow: its words in order; applied_last counts the changes (R182). -/
def Chip.mirrorBoundary (c : Chip) (ws : List (Nat × Nat)) : Chip :=
  ((c.each ws Chip.mirrorChange).put changeAt Change.applied_last (ws.filter (fun w => !isForce w.1)).length).setEng (fun e =>
    { e with bound := [] })

/-- The words a resynchronisation copies (R421): instance memory, constant pool and force table, whose zero words go without saying;
and every changed word. -/
def Chip.copyWords (c : Chip) : List (Nat × Nat) :=
  (c.regs.map (fun e => (e.1, e.2.toNat))).filter (fun e => isInst e.1 || isConst e.1 || isForce e.1)
    ++ (c.eng.changed.filter (fun a => !isInst a && !isConst a)).map (fun a => (a, c.nat a))

/-- The copy is sent once for a partner that synchronises (R421). -/
def Chip.sendCopy (c : Chip) : Chip :=
  if !c.mirrors || c.get pairAt Pair.partner_state != 3 then c.setPair (fun p => { p with copied := p.copied && !holds c.lease })
  else if c.pair.copied then c
  else
    let c1 := c.laneOne 10 ([c.get engineAt Engine.cycle_count] ++ packLists (c.copyWords.map (fun w => [w.1, w.2]))
      ++ packLists (c.pairSeqs.map (fun e => [e.1, e.2.1, e.2.2]))
      ++ packLists (((List.range 256).filter c.loopUsed).map c.loopWords)
      ++ packLists (((List.range 16).filter c.axUsed).map c.axisWords))
    c1.setPair (fun p => { p with copied := true })

/-- Send the handover order and pass the lease (Table 14.6 steps 1 and 2): the engine stops, loops hold, outputs hold. -/
def Chip.handOver (c : Chip) : Chip :=
  let outs := ((List.range 256).filter c.loopUsed).flatMap (fun n => [n, c.get (loopAt n) Loop.out])
  let pubs := c.net.pubs.flatMap (fun p => [p.pub, p.seq])
  let objs := ((List.range 8).filter c.fitted).flatMap (fun r => ((List.range 128).filter (fun j => c.objMode r j 4)).flatMap (fun j =>
    [r, c.getI (portAt r) PWord.ob_id j, c.getI (portAt r) PWord.ob_pseq j]))
  let stas := ((List.range 8).filter c.fitted).flatMap (fun r => ((c.port r).stas.filter (·.pseq)).flatMap (fun s => s.outs.flatMap (fun f =>
    [r, idWord f.id f.ide, s.outSeq])))
  let c1 := c.laneSend 9 (packLists [[c.get pairAt Pair.lease_epoch], outs, objs ++ stas, pubs])
  let c2 := c1.each c1.regions (fun c r => c.setSlice r (fun h => { h with stopped := true, running := none }))
  let c3 := c2.each ((List.range 256).filter c2.loopUsed) (fun c n => c.setLoopState n 3)
  let c4 := ((c3.haltEngine 0).put pairAt Pair.yielded 1).put pairAt Pair.result 2
  (c4.setPair (fun p => { p with handAsk := false, handHold := true })).setLease 8 0 0

/-- The holder yields with swap at its boundary (R427). Changes and force edits that wait are refused, as in any shadow. -/
def Chip.swapNow (c : Chip) : Chip :=
  let c1 := (c.yieldLease 4).put pairAt Pair.result 2
  (c1.setPair (fun p => { p with swapAsk := false, copied := true, records := [], renewAt := c.now })).dropToShadow

/-- The work of the boundary in a module that applies its own changes (R154, R170, R177). -/
def Chip.ownBoundary (c : Chip) : Chip :=
  (((c.setEng (fun e => { e with bound := [] })).restoreOwn.applyQueue).applyEdits).sendCopy

/-- Blocks whose self-test has passed return, holds out of service begin and end (R35, R108, R109). -/
def State.boundaryReturns (s : State) : State :=
  let rs := s.chip.sys.returns
  let os := s.chip.sys.oosNext
  let s1 := rs.foldl (fun s e => s.returnBlock e.1 e.2) (s.onChip (fun c => c.setSys (fun y => { y with returns := [], oosNext := [] })))
  s1.onChip (fun c => c.each os (fun c e => c.holdTarget e.1 e.2.1 e.2.2))

/-- CYCLE_BOUNDARY (R154): after an output write; in a synchronised shadow when the holder's next record has come. -/
def execCycleBoundary (s : State) : Out :=
  let c := s.chip
  if !c.engineRuns || c.eng.phase != 0 then .next s
  else if c.lease = 2 && c.pair.swapAsk then .next (s.onChip Chip.swapNow)
  else if c.lease = 5 && c.pair.handAsk then
    .next (s.onChip (fun c => if !c.pair.partnerHalted then c.handOver
      else (c.setPair (fun p => { p with handAsk := false })).put pairAt Pair.result 3))
  else if c.lease = 4 && c.pair.records.isEmpty then .next s
  else
    let s1 := s.boundaryReturns.onChip (fun c =>
      let c1 := if c.lease = 4 then match c.pair.records with
          | m :: _ => c.mirrorBoundary m.changes
          | [] => c
        else c.ownBoundary
      c1.setEng (fun e => { e with
        phase := 3, minGap := c1.get engineAt Engine.min_gap, warnLimit := c1.get engineAt Engine.warn_limit }))
    if s1.chip.flag supplyAt Supply.dormant_pending then .next s1.goDormant else .next s1

/-! ### Input latch -/

/-- The image of a channel the partner owns (R413): stale after 5 ms, fault once the partner is lost. -/
def Chip.ownedImage (c : Chip) (g : Nat) : ChImg :=
  let lost := !c.flag pairAt Pair.partner
  match c.pair.owned.find? (fun e => e.1 == g) with
  | none => ⟨tyReal, 0, stOf false true false false false false false lost⟩
  | some (_, im, t) =>
    if lost then { im with st := stNorm (withBit im.st stFault true) }
    else if t + 5000 < c.now then { im with st := withBit im.st stStale true } else im

/-- The image of a channel at a latch, its force applied (R153, R155, R170). -/
def Chip.latchImage (c : Chip) (g : Nat) : ChImg :=
  match c.forceOf 1 (g / 16) (g % 16) 0 with
  | some i => ⟨c.getI forceAt FEntry.etype i, c.forceValue i, stOf true false true false false false false false⟩
  | none =>
    if c.partnerOwned g then c.ownedImage g
    else c.ownImage g

/-- The force entries that force words of a station: 4 its input image, 5 its output image. -/
def Chip.stationForces (c : Chip) (kind r k : Nat) : List Nat :=
  (List.range 256).filter (fun i => c.forceKind i == kind && c.getI forceAt FEntry.eregion i == r && c.getI forceAt FEntry.esub i == k)

/-- Bytes of a station's image with its forces applied. -/
def Chip.forceBytes (c : Chip) (kind r k : Nat) (bytes : List Nat) : List Nat :=
  (c.stationForces kind r k).foldl (fun bs i =>
    putBytes bs (c.getI forceAt FEntry.eindex i) (leBytes (tyBytes (c.getI forceAt FEntry.etype i)) (c.forceValue i))) bytes

/-- Ring entries of a port since frame number n (Table 14.4). -/
def Chip.ringSince (c : Chip) (r n : Nat) : List (Nat × Nat × RingEntry) :=
  let k := min (tickDiff (c.get (portAt r) Port.rx_count) n) 2048
  (List.range k).map (fun i =>
    let f := (c.get (portAt r) Port.rx_count + 2 ^ 32 - k + i) % 2 ^ 32
    (r, f, c.ringGet r f))

/-- The latch of a module that latches its own inputs (R154 to R156, R190). -/
def Chip.latchOwn (c : Chip) : Chip :=
  let old := c.eng.latched
  let c1 : Chip := { (c.put engineAt Engine.latch_tick c.tick) with ports := c.ports.map (fun p => { p with mirror := [] }) }
  let (c2, stas) := (c1.regions.filter (fun r => !c1.regionFenced r)).foldl (fun (a : Chip × List StImg) r =>
    let (c', l) := a.1.latchStations r
    (c', a.2 ++ l)) (c1, [])
  let c3 := c2.latchSubs
  let imgs := (List.range 128).map c3.latchImage
  let stImgs := stas.map (fun i => { i with bytes := c3.forceBytes 4 (i.key / 64) (i.key % 64) i.bytes })
  let c4 := c3.setEng (fun e => { e with
    imgs := imgs, stImgs := stImgs, latched := c3.regs.map (fun w => (w.1, w.2)), latchCal := c3.stamp, latchNow := c3.now
    stOutLatched := e.stOut, prevTime := c3.get engineAt Engine.cycle_last, wrLatched := e.wrOuts, actsLatched := c3.axes.map (·.acts)
    stopsLatched := c3.axes.map (·.stops), sfLatched := (List.range 32).map c3.sfReport, mirReads := [] })
  if !c4.mirrors then c4
  else
    let m : MirrorRec :=
      { cycle := c4.get engineAt Engine.cycle_count, latchTick := c4.now, latchCal := c4.eng.latchCal
        prevTime := c4.eng.prevTime, imgs := imgs, stas := stImgs
        words := c4.eng.latched.map (fun w => (w.1, w.2.toNat)), reads := []
        ring := c4.regions.flatMap (fun r => c4.ringSince r (Sparse.get resetWord old (portAt r + 6)).toNat)
        changes := c4.eng.bound, outcomes := c4.eng.wrLatched
        acts := (c4.eng.actsLatched.zipIdx).flatMap (fun a => a.1.map (fun t => (a.2, t)))
        stops := c4.eng.stopsLatched, sfs := c4.eng.sfLatched
        subs := c4.eng.subsLatched, seqs := [], digest := 0 }
    c4.laneOne 6 (0 :: m.latchWords)

/-- The latch of a synchronised shadow: the holder's mirror record (R157, R419). -/
def Chip.latchMirror (c : Chip) (m : MirrorRec) : Chip :=
  let c1 := (c.put engineAt Engine.latch_tick (m.latchTick % 2 ^ 32)).put engineAt Engine.cycle_count m.cycle
  let c2 := c1.each (List.range 8) (fun c r => c.setPort r (fun p => { p with
    mirror := ((m.ring.filter (fun e => e.1 == r)).map (fun e => (e.2.1, e.2.2)) ++ p.mirror).take 2048 }))
  c2.setEng (fun e => { e with
    imgs := m.imgs, stImgs := m.stas, latched := m.words.map (fun w => (w.1, BitVec.ofNat 32 w.2)), latchCal := m.latchCal
    stOutLatched := e.stOut, latchNow := m.latchTick, prevTime := m.prevTime, wrLatched := m.outcomes
    actsLatched := (List.range 16).map (fun x => (m.acts.filter (fun a => a.1 == x)).map (·.2))
    stopsLatched := m.stops, sfLatched := m.sfs, subsLatched := m.subs, mirReads := m.reads })

/-- INPUT_LATCH (R154): the minimum gap has passed and the work of the boundary is done; execution begins. -/
def execInputLatch (s : State) : Out :=
  chipOnly s (fun c =>
    if !c.engineRuns || c.eng.phase != 3 || c.now < c.eng.boundaryAt + c.eng.minGap then c
    else
      let go (c : Chip) : Chip := c.setEng (fun e => { e with
        phase := 1, done := [], saved := [], reqs := [], latchAt := c.now, commitAt := List.replicate 8 c.now })
      if c.lease = 4 then match c.pair.records with
        | m :: _ => go (c.latchMirror m)
        | [] => c
      else go c.latchOwn)

/-- EXECUTION_COMPLETE (R154): every invocation of the program has run. -/
def execExecutionComplete (s : State) : Out :=
  chipOnly s (fun c =>
    if !c.engineRuns || c.eng.phase != 1 || c.eng.prog.any (fun i => !c.eng.done.contains i.seq) then c
    else c.setEng (fun e => { e with phase := 2 }))

/-! ### Output write -/

/-- Insert a request in ascending order of s, behind those of the same s. -/
def insertAsk (a : Nat × Ask) : List (Nat × Ask) → List (Nat × Ask)
  | [] => [a]
  | b :: t => if a.1 < b.1 then a :: b :: t else b :: insertAsk a t

/-- Is it the level of a stop? -/
def isStop : Ask → Bool
  | .stop _ _ _ => true
  | _ => false

/-- The requests of a cycle in the order in which they are issued: ascending s (R191), stop levels ahead of what else is asked of an
axis (R200). -/
def orderAsks (l : List (Nat × Ask)) : List (Nat × Ask) :=
  let sorted := l.reverse.foldl (fun m a => insertAsk a m) []
  sorted.filter (fun a => isStop a.2) ++ sorted.filter (fun a => !isStop a.2)

/-- Issue one request (R191): those on axes, panel and words in the holder alone; a shadow alone refuses an axis request with code 2
(R415). -/
def Chip.issue (c : Chip) (a : Nat × Ask) : Chip :=
  let s := a.1
  let axis (x : Nat) (f : Chip → Chip) : Chip :=
    if c.holder then f (c.svyAbort 1 x) else if c.lease = 4 then c else c.refuseAct x s 2
  match a.2 with
  | .move x p rel => axis x (fun c => c.reqMove s x p rel)
  | .home x m => axis x (fun c => c.reqHome s x m)
  | .stop x on quick =>
    if c.holder then c.reqStop s x on quick
    else if c.lease = 6 then
      (c.when (on && !(c.ax x).stops.contains s) (·.refuseAct x s 2)).stopLevel x s on
    else c
  | .gear x e => axis x (fun c => c.reqGear s x e)
  | .loopsup n auto man sp => c.setLoop n (fun h => { h with sup := some (auto, man, sp) })
  | .canSend r j _ data trig => c.canSend r j data trig
  | .portRestart r => c.portRestartAsk s r
  | .publish p b d => c.publish p b d
  | .field p f v st vis => if c.holder then c.fieldAsk p f v st vis else c
  | .blink r en p => if c.holder then c.blinkAsk r en p else c
  | .page p => if c.holder then c.pageAsk p else c
  | .change ad v => if c.holder then c.submitChange { addr := ad, value := v, prog := some s, session := none } else c

/-- Every channel output takes what the precedence gives it (R162): a mode change ends with step 4, level 2 ends where its causes
have gone. -/
def Chip.writeChannels (c : Chip) : Chip :=
  c.each ((List.range 128).filter (fun g => c.fitted (g / 16) && !c.regionFenced (g / 16) && outMode (c.mode g))) (fun c g =>
    let c1 := c.setChan g (fun h => { h with seq := if h.seq = 3 then 0 else h.seq })
    let c2 := if c1.level2 g || c1.afeGuard g then c1 else c1.endLevel2 g
    (c2.resolve g).putStatus g)

/-- Every station with an output image is given it, forces applied (R165, R387). -/
def Chip.writeStations (c : Chip) : Chip :=
  c.each (c.regions.filter (fun r => !c.regionFenced r)) (fun c r =>
    (c.port r).stas.zipIdx.foldl (fun c s =>
      let k := s.1.station
      if s.1.outs.isEmpty then c
      else c.stationOut r s.2 (c.forceBytes 5 r k (bytesAt ((assoc c.eng.stOut (64 * r + k)).getD []) 0 s.1.outLen))) c)

/-- The digest of the instances of a cycle (R422). -/
def Chip.instDigest (c : Chip) : Nat :=
  c.eng.prog.foldl (fun d i => d ^^^ crc32c ((List.range i.len).flatMap (fun k => leBytes 4 (c.instWord i k)))) 0

/-- The program outputs that loops read, as of this output write (R285). -/
def Chip.takeLoopVars (c : Chip) : Chip :=
  let refs := (((List.range 256).filter c.loopUsed).flatMap (fun n => [c.get (loopAt n) Loop.pv_src, c.get (loopAt n)
    Loop.sp_src])).filter (fun w => srcKind w == 3)
  let vars := refs.filterMap (fun w =>
    let sq := srcRef w % 2 ^ 16
    let k := srcRef w / 2 ^ 16 % 2 ^ 8
    (c.inv sq).map (fun p => (256 * sq + k, match c.forceOf 3 p.region k sq with
      | some i => c.forceValue i
      | none => c.instOut p k)))
  c.setEng (fun e => { e with loopVars := vars })

/-- The statistics of a completed cycle of t ticks (R168, R180). -/
def Chip.cycleStats (c : Chip) (t : Nat) : Chip :=
  let b := engineAt
  let c1 := (((c.put b Engine.cycle_last t).put b Engine.cycle_max (max t (c.get b Engine.cycle_max))).put b Engine.cycle_min
    (min t (c.get b Engine.cycle_min))).put b Engine.cycle_count ((c.get b Engine.cycle_count + 1) % 2 ^ 32)
  let c2 := c1.each c1.regions (fun c r => c.putI b Engine.exec_last r (nth 0 c.eng.commitAt r - c.eng.latchAt))
  let slow := c.eng.warnLimit != 0 && decide (c.eng.warnLimit < t)
  let c3 := if !slow then c2
    else if c.eng.warned then c2.put b Engine.warn_seen 1
    else (c2.put b Engine.warn_seen 1).record 93 0xFF 1 0 [0] [c2.get b Engine.cycle_count, t]
  c3.setEng (fun e => { e with warned := slow })

/-- The pair's side of a completed cycle: the holder sends the end of its record; a shadow compares digests, takes the pair sequence
numbers, and takes the lease when the yield names this cycle (R382, R417, R419, R422). -/
def Chip.cyclePair (c : Chip) (digest : Nat) : Chip :=
  let n := c.get engineAt Engine.cycle_count
  let c1 := c.setPair (fun p => { p with ownDigest := some (n, digest) })
  if c1.lease = 4 then match c1.pair.records with
    | [] => c1
    | m :: rest =>
      let c2 := (c1.each m.seqs Chip.putPairSeq).setPair (fun p => { p with records := rest })
      let c3 := if m.digest = digest then c2.lagSync else c2.desync 2
      match c3.pair.yieldAt with
      | some (k, _) => if k ≤ n && c3.lease = 4 then c3.takeLease false else c3
      | none => c3
  else if c1.mirrors then
    let m : MirrorRec := { cycle := n, latchTick := 0, latchCal := 0, prevTime := 0, imgs := [], stas := [], words := []
                           reads := c1.eng.mirReads, ring := [], changes := [], outcomes := [], acts := [], stops := [], sfs := [], subs := []
                           seqs := c1.pairSeqs, digest := digest }
    c1.laneOne 6 (1 :: m.endWords)
  else c1

/-- OUTPUT_WRITE (R154, R162): within wd_limit of the latch; every output is resolved and written, requests are issued in ascending
order of s, the cycle is counted. The first one is the first energisation of any output, axis stages included (R95). -/
def execOutputWrite (s : State) : Out :=
  chipOnly s (fun c =>
    let t := c.now - c.eng.latchAt
    if !c.engineRuns || c.eng.phase != 2 || c.eng.wdLimit < t then c
    else
      let c0 := if c.eng.first && c.lease = 2 && c.get pairAt Pair.partner_state = 8 then c.shareRamp 1 else c
      let c1 := ((c0.writeChannels.writeStations).each ((List.range 16).filter c0.axUsed) (fun c x => c.stageCause x 8 false)).each (orderAsks c.eng.reqs) Chip.issue
      let c2 := (c1.pubsDue.takeLoopVars).cycleStats t
      let c3 := c2.cyclePair c2.instDigest
      let c4 := c3.setEng (fun e => { e with phase := 0, reqs := [], boundaryAt := c.now, outCal := e.latchCal, first := false, wrote := true })
      if c.eng.wrote then c4 else c4.each c4.regions Chip.setSafeOuts)

/-! ### Watchdog -/

/-- WATCHDOG_FIRE (R166, R167, Table 6.7): wd_limit has passed since the latch and the output write has not completed. -/
def execWatchdogFire (s : State) : Out :=
  chipOnly s (fun c =>
    if !c.engineRuns || (c.eng.phase != 1 && c.eng.phase != 2) || c.now < c.eng.latchAt + c.eng.wdLimit then c
    else
      let n := c.get engineAt Engine.cycle_count
      let c1 := ((c.haltEngine 2).put engineAt Engine.wd_fired 1).stopSlices 3
      let c2 := (c1.allSafe.pairStop).axesStop
      c2.record 93 0xFF 3 0 [1] [n, c.now - c.eng.latchAt])

/-! ### Online changes, forces, statistics -/

/-- ONLINE_CHANGE_ARRIVAL (R175, R176, R538): queued, or refused with a reason. -/
def execOnlineChangeArrival (addr value : BitVec 32) (s : State) : Out :=
  chipOnly s (·.submitChange { addr := addr.toNat, value := value.toNat, prog := none, session := none })

/-- RELEASE_ALL (R181). -/
def execReleaseAll (s : State) : Out := chipOnly s Chip.cmdReleaseAll

/-- ENGINE_CLEAR_STATS (R180). -/
def execEngineClearStats (s : State) : Out := chipOnly s Chip.cmdClearStats

/-! ### Blocks that stand beside the cycle -/

/-- CHGRP (R198): the 16 images of a region from the latch, as REAL32, with their status. -/
def execRunChgrp (seq : Fin 65536) (s : State) : Out :=
  chipOnly s (fun c => c.invokeWith .chgrp seq.val
    (fun c i _ =>
      let r := (i.ins.head?.map (·.region)).getD 0
      let ims := (List.range 16).map (fun k => c.img (16 * r + k))
      outsOnly (ims.map (fun m => (deliver m tyReal).1) ++ ims.map (·.st)))
    (fun c _ _ => c))

/-- PUB (R204): its words go into the slot of the publication at the output write. -/
def execRunPub (seq : Fin 65536) (s : State) : Out :=
  chipOnly s (fun c => c.invokeWith .pub seq.val
    (fun c _ x => outsOnly [c.atLatch.getI pubAt Pub.sent (x.p 0)])
    (fun c i x => c.ask i.seq (.publish (x.p 0) (64 * x.p 1) (x.ins.flatMap (leBytes 4)))))

/-- SUB (R204): a latched subscription's slot, its status and its age. -/
def execRunSubBlock (seq : Fin 65536) (s : State) : Out :=
  chipOnly s (fun c => c.invokeWith .sub_ seq.val
    (fun c _ x =>
      match c.eng.subsLatched.find? (fun h => h.partner == x.p 0 && h.pub == x.p 1) with
      | none => outsOnly (List.replicate 16 0 ++ [stOf false true false false false false false false, 2 ^ 32 - 1])
      | some h =>
        let age := c.eng.latchNow - h.rxAt
        let cls := ageClass age (x.p 3) (x.p 4)
        let ws := (List.range 16).map (fun k =>
          let o := 64 * x.p 2 + 4 * k
          if o + 4 ≤ h.data.length then numAt h.data o 4 else 0)
        let short := decide (h.data.length < 64 * x.p 2 + 64)
        let st := stOf (cls != 2) (cls != 1) false false false false false short
        outsOnly (ws ++ [st, min age (2 ^ 32 - 1)]))
    (fun c _ _ => c))

/-- EVRAISE (R205): a rising edge of trig records source 95. -/
def execRunEvraise (seq : Fin 65536) (s : State) : Out :=
  chipOnly s (fun c => c.invokeWith .evraise seq.val
    (fun _ _ x =>
      let rise := x.b 0 && nth 0 x.st 0 == 0
      { st := [b2n (x.b 0)], outs := [(nth 0 x.old 0 + b2n rise) % 2 ^ 32] })
    (fun c i x =>
      if x.b 0 && nth 0 x.st 0 == 0 then
        c.recordAs 95 i.region (x.p 1) (x.p 0) (bytesAt (bytesAt ((x.ins.drop 1).flatMap (leBytes 4)) 0 16 ++ leBytes 4 i.seq) 0 32)
          false
      else c))

/-- PAIRST (R190): the pair state as latched in the holder; a module alone gives zeros. -/
def execRunPairst (seq : Fin 65536) (s : State) : Out :=
  chipOnly s (fun c => c.invokeWith .pairst seq.val
    (fun c _ _ =>
      let l := c.atLatch
      let b := pairAt
      if l.get b Pair.lease_state = 0 || l.get b Pair.lease_state = 5 || l.get b Pair.lease_state = 6 then outsOnly [0, 0, 0, 0, 0]
      else outsOnly [b2n (l.get b Pair.partner_state == 4), l.get b Pair.lane_a, l.get b Pair.lane_b, l.get b Pair.holder_pos,
        l.get b Pair.compat])
    (fun c _ _ => c))

/-- PARWR (R207): a rising edge of req submits one online change at the output write. -/
def execRunParwr (seq : Fin 65536) (s : State) : Out :=
  chipOnly s (fun c => c.invokeWith .parwr seq.val
    (fun c i x =>
      let rise := x.b 0 && nth 0 x.st 0 == 0
      let outs := if rise then [1, 0, 0, 0] else match c.eng.wrLatched.find? (fun o => o.seq == i.seq) with
        | some o => [b2n o.busy, b2n (!o.busy && o.ok), b2n (!o.busy && !o.ok), o.code]
        | none => [0, 0, 0, 0]
      { st := [b2n (x.b 0)], outs := outs })
    (fun c i x => if x.b 0 && nth 0 x.st 0 == 0 then c.ask i.seq (.change (x.p 0) (x.i 1)) else c))

/-- PARRD (R208): a word as it stood at the input latch. -/
def execRunParrd (seq : Fin 65536) (s : State) : Out :=
  chipOnly s (fun c => c.invokeWith .parrd seq.val
    (fun c _ x => match c.atLatch.readWord (x.p 0) with
      | (0, v) => outsOnly [v, 1]
      | _ => outsOnly [0, 0])
    (fun c _ _ => c))

end Sys2Proof.Machine
end

