-- ==== Sys2Proof/Machine/Loops.lean ====
section
/-! DEFINITION. The loop engine's commands (R283 to R303) and the LOOPSUP block (R199). -/

namespace Sys2Proof.Machine

/-- DEADLINE_MISS (R297): the computation is abandoned, whether queued or running. -/
def Chip.missSample (c : Chip) (n : Nat) : Chip :=
  let r := n / 32
  let b := loopAt n
  let c1 := match (c.slice r).running with
    | some res =>
      if res.loop = n then
        c.setSlice r (fun s => { s with running := none, busy := s.busy + (c.busySince res - s.counted), counted := 0 })
      else c
    | none => c
  let c2 := ((c1.bump b Loop.missed).put b Loop.missed_f 1).bump (regionAt r) LSlice.misses_total
  let quiet := match (c.loop n).missAt with
    | none => true
    | some t => decide (t + 1000000 ≤ c.now)
  let c3 := if quiet then c2.record 56 r 1 n [] [c2.get b Loop.missed] else c2
  c3.setLoop n (fun h => { h with job := none, missed := true, missAt := some c.now })

/-- LOOP_SAMPLE_DUE: an instant of loop n has come (R283): the last computation is a miss if it has not committed, and the
new one is queued. -/
def execLoopSampleDue (n : Fin 256) (s : State) : Out :=
  chipOnly s (fun c =>
    let h := c.loop n.val
    let r := n.val / 32
    if !c.loopUsed n.val || (c.slice r).stopped || c.phase != 8 || c.now < h.nextAt then c
    else
      let c1 := if h.job.isSome then c.missSample n.val else c
      let c2 := c1.setLoop n.val (fun x => { x with
        job := some h.nextAt, nextAt := h.nextAt + c.get (loopAt n.val) Loop.period })
      c2.kick r)

/-- Write a loop's output to its destination (R287): none to a channel in mode 0 or 13 (R240); an input keeps it for a mode that drives
(R164). -/
def Chip.loopDrive (c : Chip) (n : Nat) (out : Int) : Chip :=
  let w := c.get (loopAt n) Loop.out_dst
  let t := srcRef w
  if srcKind w = 1 then
    if c.mode t == 0 || c.mode t == 13 then c
    else
      let (lo, hi, mm) := c.spanOf t
      let f := ofQ out
      let cmd := if mm then lo else rAdd lo (rMul f (rSub hi lo))
      ((c.markSpan t).setChan t (fun h => { h with loopOut := some cmd })).resolve t
  else if srcKind w = 2 then c.speedDemand t out
  else c

/-- Record source 59 where a value becomes unusable by a fault or usable again (R293). -/
def Chip.unusable (c : Chip) (n code : Nat) (old new : Bool) : Chip :=
  if old = new then c else c.record 59 (n / 32) (b2n new) n [if new then code else 0] []

/-- Commit a computation whole (R284, R288). -/
def Chip.loopCommit (c : Chip) (res : LoopRes) (time : Nat) : Chip :=
  let n := res.loop
  let b := loopAt n
  let h := c.loop n
  let flags := res.flags ||| (if h.missed then lMissed else 0)
  let word := c.nat (b + 0x0070)
  let fresh := (flags &&& 0x8F) &&& (0xFFFFFFFF ^^^ word)
  let c1 := c.setLoopState n res.state
  let c2 := ((((c1.put b Loop.pv (unsigned 32 res.pv)).put b Loop.sp_now (unsigned 32 res.sp)).put b Loop.err
    (unsigned 32 res.err)).put b Loop.out (unsigned 32 res.out)).putInteg n res.integ
  let c3 := (c2.putSections n 0 res.sect).setNat (b + 0x0070) (word ||| flags)
  let c4 := (c3.put b Loop.flags_now flags).when (fresh != 0) (·.record 57 (n / 32) 1 n [] [fresh])
  let c5 := (c4.unusable n 1 h.pvBad res.pvBad).unusable n 2 h.spBad res.spBad
  let c6 := c5.when (res.limMm && !h.limMm) (·.record 60 (n / 32) 1 n [] [c.get b Loop.out_lo, c.get b Loop.out_hi])
  let pend := match res.took with
    | some (k, v) => if h.pend.head? = some k && c.nat (b + wordOfCoef k) = v then h.pend.drop 1 else h.pend
    | none => h.pend
  let coef := match res.took with
    | some (k, v) => setAt h.coef k v
    | none => h.coef
  let c7 := c6.setLoop n (fun h => { h with
    job := none, missed := false, pend := pend, coef := coef, man := res.man, nsec := res.nsec, pvBad := res.pvBad
    spBad := res.spBad, limMm := res.limMm, resetAsk := h.resetAsk && !res.cleared })
  let c8 := (c7.put b Loop.coef_pending pend.length).put b Loop.sample_tick (res.instant % 2 ^ 32)
  let c9 := (c8.put b Loop.samples ((c.get b Loop.samples + 1) % 2 ^ 32)).put b Loop.comp_last time
  (c9.put b Loop.comp_max (max (c.get b Loop.comp_max) time)).loopDrive n res.out

/-- LOOP_COMPUTATION_COMMIT: the running computation of loop n completes after a time in units of 10 ns; the slice begins
the next. -/
def execLoopComputationCommit (n : Fin 256) (time : BitVec 16) (s : State) : Out :=
  chipOnly s (fun c =>
    let r := n.val / 32
    match (c.slice r).running with
    | none => c
    | some res =>
      if res.loop != n.val then c
      else
        let c1 := c.setSlice r (fun s => { s with running := none, busy := s.busy + (time.toNat - s.counted), counted := 0 })
        let c2 := c1.loopCommit res time.toNat
        (if c2.mirrors then c2.laneOne 8 (c2.loopWords n.val) else c2).kick r)

/-- reset_states (R296). -/
def Chip.cmdResetStates (c : Chip) (n : Nat) : Chip :=
  if !c.opens (n / 32) then c else
  (c.setLoop n (fun h => { h with resetAsk := true })).put (loopAt n) Loop.result 2

/-- RESET_STATES. -/
def execResetStates (n : Fin 256) (s : State) : Out := chipOnly s (fun c => c.cmdResetStates n.val)

/-- clear_stats of a loop (R302). -/
def Chip.cmdLoopStats (c : Chip) (n : Nat) : Chip :=
  if !c.opens (n / 32) then c else
  ((c.put (loopAt n) Loop.comp_max 0).put (loopAt n) Loop.missed 0).put (loopAt n) Loop.result 2

/-- LOOP_CLEAR_STATS. -/
def execLoopClearStats (n : Fin 256) (s : State) : Out := chipOnly s (fun c => c.cmdLoopStats n.val)

/-- clear_slice (R303). -/
def Chip.cmdClearSlice (c : Chip) (r : Nat) : Chip :=
  if !c.opens r then c else
  (c.put (regionAt r) LSlice.load_max 0).put (regionAt r) LSlice.misses_total 0

/-- CLEAR_SLICE. -/
def execClearSlice (r : Fin 8) (s : State) : Out := chipOnly s (fun c => c.cmdClearSlice r.val)

/-- SLICE_LOAD_WINDOW (R303): after 100 ms, the busy time in units of 0.01 % of the window. -/
def execSliceLoadWindow (r : Fin 8) (s : State) : Out :=
  chipOnly s (fun c =>
    let sl := c.slice r.val
    if sl.stopped || c.now < sl.windowAt + 100000 then c
    else
      let part := match sl.running with
        | some res => c.busySince res - sl.counted
        | none => 0
      let load := min ((sl.busy + part) / 1000) 0xFFFF
      let b := regionAt r.val
      let c1 := (c.put b LSlice.load_last load).put b LSlice.load_max (max load (c.get b LSlice.load_max))
      c1.setSlice r.val (fun s => { s with busy := 0, counted := s.counted + part, windowAt := s.windowAt + 100000 }))

/-- LOOPSUP (R199): pass the request, manual value and setpoint at the output write; give the loop as latched. -/
def execRunLoopsup (seq : Fin 65536) (s : State) : Out :=
  chipOnly s (fun c => c.invokeWith .loopsup seq.val
    (fun c _ x =>
      let l := c.atLatch
      let b := loopAt (x.p 0)
      outsOnly [ofQ (l.getS b Loop.pv), ofQ (l.getS b Loop.out), b2n (l.get b Loop.state == 2), l.get b Loop.missed,
        l.nat (b + 0x0070)])
    (fun c i x => c.ask i.seq (.loopsup (x.p 0) (x.b 0) (x.i 1) (if x.b 3 then some (x.i 2) else none))))

end Sys2Proof.Machine
end

