-- ==== Sys2Proof/Machine/Pair.lean ====
section
/-! DEFINITION. The commands of the redundant pair (R406 to R434): frames of the lanes and their sending, faults and losses, the
lease, mirroring and resynchronisation, the pair block's commands. -/

namespace Sys2Proof.Machine

/-! ### Lanes and frames -/

/-- LANE_FRAME_RECEIVE (R410): a frame that fails its CRC is discarded and counted; another acts by its kind. -/
def execLaneFrameReceive (lane : Fin 2) (crc : BitVec 32) (kind : Fin 16) (words : List (BitVec 32)) (s : State) : Out :=
  chipOnly s (fun c =>
    if !c.laneLive lane.val || decide (c.phase < 2) then c
    else if crc.toNat != laneCrc kind.val (words.map (·.toNat)) then c.bumpByI pairAt Pair.code_errors lane.val 1
    else c.hearFrame lane.val kind.val (words.map (·.toNat)))

/-- HEARTBEAT (R411, R493): every 1,000 ticks from S6 on. -/
def execHeartbeat (s : State) : Out :=
  chipOnly s (fun c =>
    if !c.paired || decide (c.phase < 6) || c.now < c.pair.beatSent + 1000 then c
    else (c.laneSend 2 c.heartbeat).setPair (fun p => { p with beatSent := c.now }))

/-- PRESENCE_FRAME (R493): every 10 ms from the end of S2, before S6. -/
def execPresenceFrame (s : State) : Out :=
  chipOnly s (fun c =>
    if c.pos = 0 || c.panel.s2At.isNone || decide (6 ≤ c.phase) || c.now % 10000 != 0 then c else c.laneSend 0 [c.presence])

/-- LANE_FAULT (R412): 3 ms without a valid frame while the other lane carries them. -/
def execLaneFault (lane : Fin 2) (s : State) : Out :=
  chipOnly s (fun c =>
    let l := lane.val
    if !c.flag pairAt Pair.partner || c.now < nth 0 c.pair.laneAt l + 3000 || nth 0 c.pair.laneAt (1 - l) + 3000 < c.now then c
    else c.laneFault l)

/-- LANE_RETURN (R412): 100 ms of valid frames after a retraining. -/
def execLaneReturn (lane : Fin 2) (s : State) : Out :=
  chipOnly s (fun c =>
    let l := lane.val
    if !nth false c.pair.laneBad l || !c.laneLive l || c.now < nth 0 c.pair.goodAt l + 100000
      || nth 0 c.pair.laneAt l + 3000 < c.now then c
    else c.laneBack l)

/-- PARTNER_LOST (R413): 5,000 ticks without a valid frame on either lane. -/
def execPartnerLost (s : State) : Out :=
  chipOnly s (fun c => if !c.flag pairAt Pair.partner || c.now < c.pair.partnerAt + 5000 then c else c.losePartner)

/-- OWNED_IMAGE_SEND (R413, Table 14.4): every 250 µs the images of the owned channels, and the shares of shared AO-I. -/
def execOwnedImageSend (s : State) : Out :=
  chipOnly s (fun c =>
    if !c.sys.hasPair || decide (c.phase < 6) || c.now % 250 != 0 then c
    else
      let own := (List.range 128).filter (fun g => c.fitted (g / 16) && c.routeOf g == c.pos && c.routeOf g != 0)
      let ims := own.flatMap (fun g =>
        let im := c.ownImage g
        [g, im.ty * 65536 + im.st, im.val])
      let shares := (c.sharedChans.filter (fun g => c.mode g == 6)).flatMap (fun g => [g, unsigned 32 (c.chan g).share])
      (c.laneSend 5 ims).laneOne 11 shares)

/-! ### Negotiation -/

/-- NEGOTIATION_FRAME (R414): every 10 ms in S6; later, in answer to a partner that negotiates. -/
def execNegotiationFrame (s : State) : Out :=
  chipOnly s (fun c =>
    if !c.paired || decide (c.phase < 6) || (c.phase != 6 && c.get pairAt Pair.partner_state != 1) || c.now % 10000 != 0 then c
    else c.laneSend 1 c.negWords)

/-- NEG_WAIT_TIMEOUT (R414): neg_wait has passed without a partner. -/
def execNegWaitTimeout (s : State) : Out :=
  chipOnly s (fun c =>
    if !c.inPhase 6 || !c.paired || c.pair.neg.isSome || c.now < c.pair.negAt + 1000 * c.get pairAt Pair.neg_wait then c
    else c.concludeNeg)

/-! ### The lease -/

/-- The period of renewals in ticks (R416). -/
def Chip.renewPeriod (c : Chip) : Nat := min 10000 (1000 * c.get pairAt Pair.lease_period / 4)

/-- LEASE_RENEWAL (R416): the holder renews on both lanes. -/
def execLeaseRenewal (s : State) : Out :=
  chipOnly s (fun c =>
    if (c.lease != 2 && c.lease != 5) || c.now < c.pair.renewSent + c.renewPeriod then c
    else (c.laneSend 3 [c.get pairAt Pair.lease_epoch, c.get pairAt Pair.lease_period]).setPair (fun p => { p with
      renewSent := c.now }))

/-- LEASE_EXPIRY (R416): the lease period has passed since the last renewal. -/
def execLeaseExpiry (s : State) : Out :=
  chipOnly s (fun c => if !shadows c.lease || c.now < c.pair.renewAt + 1000 * c.pair.period then c else c.takeLease true)

/-- YIELD (R417): the holder's yield arrives, naming its last completed cycle. -/
def execYieldLease (cycle : BitVec 32) (swap : Bool) (s : State) : Out := chipOnly s (·.hearYield cycle.toNat swap)

/-- DUAL_HOLDING_RESOLVED (R418): frames return to two holders; the one with the higher epoch, at position B with an equal one,
yields to state 3. -/
def execDualHoldingResolved (partnerEpoch : BitVec 32) (s : State) : Out :=
  chipOnly s (fun c =>
    let mine := c.get pairAt Pair.lease_epoch
    let his := partnerEpoch.toNat
    if (c.lease != 2 && c.lease != 5) || mine < his || (mine = his && c.pos = 1) then c
    else
      let c1 := ((c.put pairAt Pair.dual_holding 1).bump pairAt Pair.dual_holdings).record 77 0xFF 2 c.pos [] [mine, his]
      (c1.beginResync.setPair (fun p => { p with renewAt := c.now, yieldAt := none })).yieldLease 3
        |>.dropToShadow)

/-! ### Mirror and copy -/

/-- MIRROR_RECORD (R419, R420): a complete record of a cycle arrives; a synchronised shadow may begin that cycle. -/
def execMirrorRecord (latched ended : List (BitVec 32)) (s : State) : Out :=
  chipOnly s (fun c =>
    if c.lease != 4 then c
    else
      let m := mirrorOf (latched.map (·.toNat)) (ended.map (·.toNat))
      (c.setPair (fun p => { p with records := p.records ++ [m], lastRec := m.cycle })).lagSync)

/-- One word of a copy (R421): the instance memory, the pool and the force table as they are, a changed word with the effect of an
online change. What an image of another digest held is remembered (R423). -/
def Chip.copyWord (c : Chip) (w : Nat × Nat) : Chip :=
  let a := w.1
  let keep := c.flag pairAt Pair.img_differs && !isInst a && !isForce a && c.nat a != w.2
    && !c.pair.own.any (fun e => e.1 == a)
  let c1 := if keep then c.setPair (fun p => { p with own := (a, c.nat a) :: p.own }) else c
  if isInst a || isConst a || isForce a then c1.setNat a w.2
  else if c1.isOnl a then c1.applyWord a w.2 else c1

/-- A whole copy is applied: a word of instance memory, the constant pool or the force table that it does not list is zero. -/
def Chip.takeCopy (c : Chip) (ws : List (Nat × Nat)) : Chip :=
  let named := ws.map (·.1)
  let zeros := (c.regs.filter (fun e => (isInst e.1 || isConst e.1 || isForce e.1) && !named.contains e.1)).map (fun e => (e.1, 0))
  ((c.each (ws ++ zeros) Chip.copyWord).forcesSync).put changeAt Change.queued 0

/-- RESYNC_COMPLETE (R421): the copy is complete and applied whole at a boundary; the shadow is synchronised. -/
def execResyncComplete (cycle : BitVec 32) (words : List (BitVec 32 × BitVec 32)) (seqs : List (Fin 3 × BitVec 16 × BitVec 16))
    (loops axes : List (List (BitVec 32))) (s : State) : Out :=
  chipOnly s (fun c =>
    if c.lease != 3 || !c.flag pairAt Pair.partner then c
    else
      let c1 := c.takeCopy (words.map (fun w => (w.1.toNat, w.2.toNat)))
      let c2 := c1.each (seqs.map (fun e => (e.1.val, e.2.1.toNat, e.2.2.toNat))) Chip.putPairSeq
      let c3 := (c2.each loops (fun c l => c.hearLoop (l.map (·.toNat)))).each axes (fun c l => c.hearAxis (l.map (·.toNat)))
      let ms := min ((c.now - c.pair.copyAt) / 1000) 65535
      let c4 := ((c3.put engineAt Engine.cycle_count cycle.toNat).put pairAt Pair.sync_ms ms).setEng (fun e => { e with
        phase := 0, done := [], saved := [], reqs := [], first := false, queue := [], edits := [] })
      let c5 := (c4.setPair (fun p => { p with copied := true, records := [] })).record 75 0xFF 1 c.pos [3] [cycle.toNat, ms]
      c5.setLease 4 0 0)

/-! ### Commands -/

/-- SWAP (R427). -/
def execSwapLease (session : Fin 16) (s : State) : Out :=
  chipOnly s (fun c => c.pairCommand 1 (c.roleIn session.val [2, 3]))

/-- HANDOVER (R431). -/
def execHandover (session : Fin 16) (s : State) : Out :=
  chipOnly s (fun c => c.pairCommand 2 (c.roleIn session.val [2, 3]))

/-- RESYNC (R433). -/
def execResync (session : Fin 16) (s : State) : Out :=
  chipOnly s (fun c => c.pairCommand 4 (c.roleIn session.val [2, 3]))

/-- PAIR_CLEAR_COUNTERS (R433). -/
def execPairClearCounters (s : State) : Out := chipOnly s (fun c => c.pairCommand 8 true)

/-- The numbers an incoming module continues from (Table 14.6 step 4): those the order names; any other starts at 0. -/
def Chip.orderSeqs (c : Chip) (objs : List (Nat × Nat × Nat)) (pubs : List (Nat × Nat)) : Chip :=
  let given (r id : Nat) : Nat := ((objs.find? (fun o => o.1 == r && o.2.1 == id)).map (·.2.2)).getD 65535
  let c1 := c.each ((List.range 8).filter c.fitted) (fun c r =>
    let c' := c.each ((List.range 128).filter (fun j => c.objMode r j 4)) (fun c j =>
      c.putI (portAt r) PWord.ob_pseq j (given r (c.getI (portAt r) PWord.ob_id j)))
    c'.setPort r (fun p => { p with stas := p.stas.map (fun s => { s with
      outSeq := ((s.outs.head?.map (fun f => given r (idWord f.id f.ide))).getD 65535) }) }))
  c1.setNet (fun n => { n with pubs := n.pubs.map (fun p => { p with seq := (assoc pubs p.pub).getD 65535 }) })

/-- HANDOVER_ORDER (R431, Table 14.6): the standby module takes the lease and starts from INSTINIT. -/
def execHandoverOrder (epoch : BitVec 32) (outs : List (Fin 256 × BitVec 32)) (objs : List (Fin 8 × BitVec 32 × BitVec 16))
    (pubs : List (Fin 256 × BitVec 16)) (s : State) : Out :=
  chipOnly s (fun c =>
    if c.lease != 7 then c
    else
      let c1 := c.orderSeqs (objs.map (fun o => (o.1.val, o.2.1.toNat, o.2.2.toNat))) (pubs.map (fun p => (p.1.val, p.2.toNat)))
      let c2 := c1.setPair (fun p => { p with handOuts := outs.map (fun o => (o.1.val, o.2.toNat)) })
      (c2.put pairAt Pair.lease_epoch epoch.toNat).takeLease false)

/-! ### Shares and the plug -/

/-- SHARE_RAMP_END (R425): 20 ms have passed since the ramp of a shared AO-I began; a temper delays it. -/
def execShareRampEnd (g : Fin 128) (s : State) : Out :=
  chipOnly s (fun c =>
    let h := c.chan g.val
    if h.ramp = 0 || h.tempering || c.now < h.rampAt + 20000 then c
    else
      let c1 := c.setChan g.val (fun h => { h with ramp := 0 })
      if h.ramp = 2 then c1.resolve g.val else c1)

/-- The first channel whose routing code two plug contents give differently; 0xFF when axes alone differ. -/
def firstDiffers (old new : List Nat) : Nat :=
  ((List.range 128).find? (fun g => nth 0 old (g / 16) / 4 ^ (g % 16) % 4 != nth 0 new (g / 16) / 4 ^ (g % 16) % 4)).getD 0xFF

/-- PLUG_READ (R406, R407): in S2 the position and the plug are read; later, every 1 s, a change is recorded and has no effect: route_plug
keeps what S2 read (log entry 133). -/
def execPlugRead (position : Fin 3) (words : List (BitVec 32)) (s : State) : Out :=
  chipOnly s (fun c =>
    let ws := words.map (·.toNat)
    let read (c : Chip) : Chip := c.setPair (fun p => { p with plugSeen := ws, plugAt := c.now })
    if c.phase = 2 then
      (read (c.put pairAt Pair.position position.val)).each (ws.take 9).zipIdx (fun c w => c.setNat (pairAt + 0x20 + w.2) w.1)
    else if decide (c.phase < 2) || c.now < c.pair.plugAt + 1000000 then c
    else if c.pair.plugSeen = ws then read c
    else (read (c.put pairAt Pair.route_changed 1)).record 79 0xFF 1 0 [] [firstDiffers c.pair.plugSeen ws])

end Sys2Proof.Machine
end

