-- ==== Sys2Proof/Machine/Recorder.lean ====
section
/-! DEFINITION. The commands of the event recorder (R460 to R475). -/

namespace Sys2Proof.Machine

/-- RECORD_ENTRY: an event record of a source enters the buffer, or is refused (R462 to R464). -/
def execRecordEntry (source : Fin 96) (region : BitVec 8) (late : Bool) (severity : Fin 4) (subject : BitVec 32)
    (payload : List Byte) (s : State) : Out :=
  chipOnly s (fun c => c.recordAs source.val region.toNat severity.val subject.toNat
    (bytesAt (payload.map (·.toNat)) 0 32) late)

/-- RECORD_WRITE: the recorder writes `count` buffered records into erased stripes, `failedBlocks` blocks having failed to
program; bands complete, an overflow is reported (R464 to R466). -/
def execRecordWrite (count : Fin 65537) (failedBlocks : Fin 256) (s : State) : Out :=
  if s.chip.get recdAt Recd.state != 1 then .next s
  else
    let s1 := (s.writeRecords .run count.val).useSpares failedBlocks.val
    .next (s1.onChip (fun c => (c.completeBands s1.flash.next).overflowEnd.recSync))

/-- STRIPE_ERASE_DONE: the running erase is done, its stripe stands ready; the tail is the first number of the oldest stripe held (R465). -/
def execStripeEraseDone (failedBlocks : Fin 256) (s : State) : Out :=
  if s.flash.erasing.isNone then .next s else .next (s.endErase.useSpares failedBlocks.val)

/-- RELEASE: the release command frees one complete band (R467), from a session that may write commands (Table 15.6). -/
def execReleaseBand (session : Fin 16) (band : BitVec 8) (s : State) : Out :=
  chipOnly s (fun c => if c.roleIn session.val [2, 3] then c.recCommand (1 + 2 ^ 16 * band.toNat) else c)

/-- RELEASE_ALL_BANDS: the release_all command frees every complete band. -/
def execReleaseAllBands (session : Fin 16) (s : State) : Out :=
  chipOnly s (fun c => if c.roleIn session.val [2, 3] then c.recCommand 2 else c)

/-- WINDOW_OPEN: bind a free window and latch its bounds (R470). -/
def execWindowOpen (session : Fin 16) (window : Fin 4) (s : State) : Out :=
  .next (if s.chip.roleIn session.val [2, 3] then s.winCommand session.val window.val 1 [] else s)

/-- NEXT: fill the slots from the cursor; `bad` names records whose CRC fails on the read (R471, R472). -/
def execWindowNext (session : Fin 16) (window : Fin 4) (bad : List (BitVec 64)) (s : State) : Out :=
  .next (if s.chip.roleIn session.val [2, 3] then s.winCommand session.val window.val 4 (bad.map (·.toNat)) else s)

/-- SEEK: the operand goes to set_hi:set_lo and the cursor takes it (R470). -/
def execWindowSeek (session : Fin 16) (window : Fin 4) (seq : BitVec 64) (s : State) : Out :=
  .next (if s.chip.roleIn session.val [2, 3] then
    ((s.onChip (fun c => c.when (c.ownsWindow session.val window.val) (fun c => (c.setNat (winAt window.val + 0xB)
      (seq.toNat % 2 ^ 32)).setNat (winAt window.val + 0xC) (seq.toNat / 2 ^ 32))))).winCommand session.val window.val 2 []
    else s)

/-- WINDOW_CLOSE: free the window. -/
def execWindowClose (session : Fin 16) (window : Fin 4) (s : State) : Out :=
  .next (if s.chip.roleIn session.val [2, 3] then s.winCommand session.val window.val 8 [] else s)

/-- WINDOW_IDLE_TIMEOUT: 60 s without a command free a window (R470). -/
def execWindowIdleTimeout (window : Fin 4) (s : State) : Out :=
  chipOnly s (fun c =>
    let b := winAt window.val
    if c.get b Win.state != 0 && decide (nth 0 c.recd.winAt window.val + 60000000 ≤ c.now) then
      (c.put b Win.state 0).put b Win.sid 0 else c)

/-- PAIR_SEQ_REPORT: the partner's number for a pair event, or 10 ms without it, fills the payload of the own record
(R473). -/
def execPairSeqReport (source : Fin 96) (ownSeq partnerSeq : BitVec 64) (timedOut : Bool) (s : State) : Out :=
  chipOnly s (fun c =>
    match c.recd.buffer.find? (fun e => e.seq == some ownSeq.toNat && e.source == source.val) with
    | none => c
    | some e =>
      let late := decide (10000 ≤ (c.tick + 2 ^ 32 - e.tick) % 2 ^ 32)
      if !c.recd.pairWait.contains ownSeq.toNat || (timedOut && !late) then c
      else
        let his := if late then 2 ^ 32 - 1 else partnerSeq.toNat % 2 ^ 32
        c.setRec (fun r => { r with
          pairWait := r.pairWait.filter (· != ownSeq.toNat)
          buffer := r.buffer.map (fun e => if e.seq = some ownSeq.toNat then e.withPair his else e) }))

end Sys2Proof.Machine
end

