-- ==== Sys2Proof/Machine/Stations.lean ====
section
/-! DEFINITION. The station ports: link loss, PRP supervision, PTP messages and the leap second, station datagrams, ARP and
echo (R435 to R446, R459). -/

namespace Sys2Proof.Machine

/-- Put a frame on one station port; PTP messages stand outside PRP and carry no trailer (R440). -/
def Chip.netOne (c : Chip) (p kind : Nat) (bs : List Nat) : Chip :=
  if !c.stationUp p then c else (c.emit (.net kind (p :: c.vlanTag ++ bs))).countPass p 4 8 true 3 0 bs.length

/-- Is one of the station ports up? -/
def Chip.anyStation (c : Chip) : Bool := c.stationUp 0 || c.stationUp 1

/-- STATION_LINK_LOSS (R437): the link of a port is down (speed 0) or has come up at a speed; a half-duplex link is held
down (R435), and so is a port that is fenced, without its clock, out of service or under the cable test (Tables 1.2, 2.2, 4.6 and 4.7). -/
def execStationLinkLoss (port : Fin 2) (speed : Fin 4) (full : Bool) (s : State) : Out :=
  chipOnly s (fun c =>
    let f := if port.val = 0 then SLink.na_speed else SLink.nb_speed
    let was := c.get slinkAt f
    let new := if full then speed.val else 0
    let held := !c.stationReady port.val || c.svyTarget == some (3, port.val)
    if c.panel.s2At.isNone || !c.fitted port.val || (new != 0 && held) then c
    else if new = 0 then c.stationDown port.val
    else
      let c1 := c.put slinkAt f new
      if was = 0 then c1.record 28 port.val 0 port.val [0] [new] else c1)

/-- PRP_SUPERVISION (R436): a supervision frame every 2 s. -/
def execPrpSupervision (s : State) : Out :=
  chipOnly s (fun c =>
    if c.panel.s2At.isNone || c.now < c.net.prpAt + 2000000 || !c.anyStation then c
    else
      let mac := leBytes 4 (c.get slinkAt SLink.mac_lo) ++ leBytes 2 (c.get slinkAt SLink.mac_hi)
      (c.netSend 4 (mac ++ beBytes 2 c.net.prpSeq)).setNet (fun n => { n with
        prpSeq := (n.prpSeq + 1) % 65536, prpAt := c.now }))

/-! ### PTP (R440 to R442) -/

/-- Does an instance take PTP messages of a domain: PTP on, in S8, its port up? -/
def Chip.ptpOn (c : Chip) (p domain : Nat) : Bool :=
  c.phase == 8 && c.flag calAt Cal.ptp_en && c.get calAt Cal.domain == domain && c.stationUp p

/-- A PTP timestamp less a correction in units of 2^-16 ns, as ns of the calendar: the master's UTC offset taken off. -/
def ptpNs (sec ns utc : Nat) : Int := ((sec * 10 ^ 9 + ns : Nat) : Int) - (ptpEpoch : Int) - ((utc * 10 ^ 9 : Nat) : Int)

/-- The calendar has been stepped by -o: times held against it move with it. -/
def Chip.ptpStepped (c : Chip) (o : Int) : Chip :=
  c.setNet (fun n => { n with ptp := n.ptp.map (fun h => { h with
    diff := h.diff - o, reqNs := h.reqNs.map (fun t => ((t : Int) - o).toNat) }) })

/-- SYNC (R440, R441): a Sync of the instance's master, with its origin time and correction; the offset disciplines the
calendar if this instance is followed, and the instance sends a Delay_Req. -/
def execPtpSync (port : Fin 2) (domain : BitVec 8) (sec : BitVec 48) (ns : BitVec 32) (corr : BitVec 64) (s : State) : Out :=
  chipOnly s (fun c =>
    let p := port.val
    let h := c.ptp p
    if !c.ptpOn p domain.toNat || h.master.isNone then c
    else
      let diff : Int := (c.calNs : Int) - ptpNs sec.toNat ns.toNat h.utc - corr.toInt / 65536
      let c1 := c.setPtp p (fun h => { h with diff := diff })
      let o : Int := diff - h.delay
      let c2 := if c.get calAt Cal.ptp_port != p + 1 then c1
        else
          let d := c1.calSync o
          if 1000000 < o.natAbs then d.ptpStepped o else d
      (c2.netOne p 3 [c2.get calAt Cal.domain]).setPtp p (fun h => { h with reqNs := some c2.calNs }))

/-- DELAY_RESP_RECEIVE (R440): the answer to the instance's Delay_Req with its receive time; the mean path delay. -/
def execDelayRespReceive (port : Fin 2) (domain : BitVec 8) (sec : BitVec 48) (ns : BitVec 32) (corr : BitVec 64) (s : State) :
    Out :=
  chipOnly s (fun c =>
    let p := port.val
    let h := c.ptp p
    if !c.ptpOn p domain.toNat || h.master.isNone then c
    else match h.reqNs with
    | none => c
    | some t3 =>
      let back : Int := ptpNs sec.toNat ns.toNat h.utc - corr.toInt / 65536 - t3
      let d := ((h.diff + back) / 2).toNat
      let c1 := c.setPtp p (fun h => { h with delay := d, reqNs := none })
      if c.get calAt Cal.ptp_port = p + 1 then c1.put calAt Cal.path_delay (min d 0xFFFFFFFF) else c1)

/-- ANNOUNCE_MESSAGE (R440): an instance hears a master: the data set in the order of its comparison (priority 1, class,
accuracy, variance, priority 2, identity, steps removed), UTC offset, leap flags and announce interval in ticks. It takes the
master it has, and one that ranks before it. -/
def execAnnounceMessage (port : Fin 2) (domain : BitVec 8) (dataset : List Byte) (utc : BitVec 16) (leap61 leap59 : Bool)
    (interval : BitVec 32) (s : State) : Out :=
  chipOnly s (fun c =>
    let p := port.val
    let h := c.ptp p
    let new := dataset.map (·.toNat)
    let takes := match h.master with
      | none => true
      | some old => bytesAt old 6 8 == bytesAt new 6 8 || ranksBefore new old
    if !c.ptpOn p domain.toNat || !takes then c
    else (c.setPtp p (fun h => { h with
      master := some new, seenAt := c.now, interval := interval.toNat, utc := utc.toNat, leap61 := leap61
      leap59 := leap59 })).chooseMaster)

/-- ANNOUNCE_TIMEOUT (R440, R441): three announce intervals without an Announce; the master is lost. -/
def execAnnounceTimeout (port : Fin 2) (s : State) : Out :=
  chipOnly s (fun c =>
    let p := port.val
    let h := c.ptp p
    if h.master.isNone || c.now < h.seenAt + 3 * h.interval then c
    else
      let c1 := c.setPtp p (fun h => { h with master := none, reqNs := none })
      (c1.when (c.get calAt Cal.ptp_port == p + 1) (·.calUnlock 0)).chooseMaster)

/-- Seconds of a day and femtoseconds of a second. -/
def dayS : Nat := 86400
def secFs : Nat := 10 ^ 15

/-- The masters' UTC offsets after a leap second. -/
def Chip.leapUtc (c : Chip) (up : Bool) : Chip :=
  let f (u : Nat) : Nat := if up then u + 1 else u - 1
  (c.setNet (fun n => { n with leap := 0, ptp := n.ptp.map (fun h => { h with utc := f h.utc, leap61 := false, leap59 := false
    }) })).put calAt Cal.utc_offset (f (c.get calAt Cal.utc_offset))

/-- LEAP_SECOND (R442): at midnight an announced inserted second repeats 23:59:59 with leap_now set; an announced deleted
second is passed over from 23:59:58 to midnight. -/
def execLeapSecond (s : State) : Out :=
  chipOnly s (fun c =>
    let sec := c.calFs / secFs
    if c.net.leap = 1 && sec % dayS = 0 && secFs ≤ c.calFs then
      let c1 := (({ c with calFs := c.calFs - secFs }).leapUtc true)
      ((c1.put calAt Cal.leap_pending 0).put calAt Cal.leap_now 1).put calAt Cal.leap_seen 1
    else if c.net.leap = 2 && sec % dayS = 86399 then
      let c1 := (({ c with calFs := c.calFs + secFs }).leapUtc false)
      (c1.put calAt Cal.leap_pending 0).put calAt Cal.leap_seen 1
    else c)

/-! ### Station datagrams (R444 to R446) -/

/-- The consuming connections a safety frame of partner k belongs to: those of its conn_id, and with none of that conn_id
every one of the partner. -/
def Chip.safetyConns (c : Chip) (k connId : Nat) : List ConnCfg :=
  let mine := c.safe.conns.filter (fun x => !x.produce && x.station && x.address == k && c.ownsSafe x.owner)
  let same := mine.filter (fun x => x.connId == connId)
  if same.isEmpty then mine else same

/-- A station datagram that PRP has delivered (R446). -/
def Chip.takeDatagram (c : Chip) (bs : List Nat) : Chip :=
  let data := bytesAt bs 28 (numAt bs 14 2)
  let from_ := if datagramOk bs then c.partnerOf (numAt bs 8 4) else none
  match from_ with
  | none => c.bump slinkAt SLink.bad_datagram
  | some k =>
    let c1 := (c.bumpByI partnerAt Partner.rx k 1).putI partnerAt Partner.rx_tick k c.tick
    if nth 0 bs 5 = 0 then c1.subTake k (nth 0 bs 6) (numAt bs 12 2) data
    else c1.each (c.safetyConns k (numAt data 0 4)) (fun c x =>
      c.consume x data)

/-- DATAGRAM_RECEIVE (R435, R436, R438, R446): a frame for UDP port 47,696 arrives on a LAN from a source, with its VLAN tag and
its PRP trailer (sequence number, LAN it names), if it has them. -/
def execDatagramReceive (lan : Fin 2) (src : BitVec 48) (tag : Option (Fin 4096)) (trailer : Option (BitVec 16 × Fin 2))
    (fragment : Bool) (payload : List Byte) (s : State) : Out :=
  chipOnly s (fun c =>
    let vid := c.vidNow
    let bs := payload.map (·.toNat)
    if !c.stationUp lan.val || (match tag with | some t => t.val != vid | none => false) then c
    else
      let c1 := c.countPass lan.val 4 8 false 3 0 bs.length
      let (c2, new) := c1.prpTake lan.val src.toNat (trailer.map (fun t => (t.1.toNat, t.2.val)))
      if !new || fragment then c2 else c2.takeDatagram bs)

/-- PUBLICATION_SEND (R445): a publication is sent after a change, and again when its period has passed. -/
def execPublicationSend (pub : Fin 256) (s : State) : Out :=
  chipOnly s (fun c =>
    match c.net.pubs.find? (fun p => p.pub == pub.val) with
    | none => c
    | some p =>
      let period := c.getI pubAt Pub.period p.pub
      let again := p.sent.isSome && period != 0 && decide (p.sentAt + 1000 * period ≤ c.now)
      if c.phase != 8 || c.sendsStopped || !c.anyStation || !(p.due || again) then c else c.pubSend p)

/-! ### Other traffic -/

/-- ARP_REQUEST (R438): a request for the module's address is answered. -/
def execArpRequest (lan : Fin 2) (senderMac : BitVec 48) (senderIp targetIp : BitVec 32) (s : State) : Out :=
  chipOnly s (fun c =>
    let own := c.get slinkAt SLink.ip_now
    if !c.stationUp lan.val || own = 0 || targetIp.toNat != own then c
    else c.netSend 5 (leBytes 6 senderMac.toNat ++ leBytes 4 senderIp.toNat ++ leBytes 4 own
      ++ leBytes 4 (c.get slinkAt SLink.mac_lo) ++ leBytes 2 (c.get slinkAt SLink.mac_hi)))

/-- ECHO_REQUEST (R438): an ICMP echo request for the module's address is answered with its identifier, number and data; a
fragment is discarded. -/
def execEchoRequest (lan : Fin 2) (peer target : BitVec 32) (ident number : BitVec 16) (fragment : Bool) (data : List Byte)
    (s : State) : Out :=
  chipOnly s (fun c =>
    let own := c.get slinkAt SLink.ip_now
    if !c.stationUp lan.val || own = 0 || target.toNat != own || fragment then c
    else c.netSend 6 (leBytes 4 peer.toNat ++ beBytes 2 ident.toNat ++ beBytes 2 number.toNat ++ data.map (·.toNat)))

/-- STATION_CLEAR_COUNTERS (R459): words 0x0009 to 0x000D are cleared. -/
def Chip.cmdStationClear (c : Chip) : Chip :=
  (((((c.setNat (slinkAt + 9) 0).setNat (slinkAt + 0xA) 0).setNat (slinkAt + 0xB) 0).setNat (slinkAt + 0xC) 0).setNat
    (slinkAt + 0xD) 0).put slinkAt SLink.result 2

/-- STATION_CLEAR_COUNTERS. -/
def execStationClearCounters (s : State) : Out := chipOnly s Chip.cmdStationClear

end Sys2Proof.Machine
end

