-- ==== Sys2Proof/Machine/Transfer.lean ====
section
/-! DEFINITION. Image transfer (R141 to R144): the commands of the image information block, chunks, the end of an erase and
of a verification, and the timeout. -/

namespace Sys2Proof.Machine

/-- Is a session an engineer's or a safety-engineer's (R141)? -/
def Chip.mayTransfer (c : Chip) (session : Nat) : Bool := c.roleIn session [2, 3]

/-- A transfer is permitted in run, and in a module halted in S4. -/
def Chip.transferPhase (c : Chip) : Bool := c.phase == 8 || (c.phase == 4 && c.flag surveyAt Survey.halted)

/-- The transfer, if one is open, belongs to this session. -/
def Chip.ownsTransfer (c : Chip) (session : Nat) : Bool := c.xfer.owner == some session

/-- The acceptance code of the image in a slot, 0 without a SAFETY section or without a sound header (R118). -/
def Flash.acceptanceOf (f : Flash) (slot : Nat) : Nat :=
  let a := slotAt slot
  if headerBad (f.bytes a 128) then 0
  else
  let sb := secBody (imgSecs (f.bytes a (numAt (f.bytes a 128) 8 4))) 0x0C
  if sb.isEmpty then 0 else numAt sb (sb.length - 4) 4

/-- Is a change to the image of a slot permitted to the session (R141)? An image with another acceptance code needs a
safety-engineer. -/
def State.mayAdopt (s : State) (session slot : Nat) : Bool :=
  s.flash.acceptanceOf slot == s.chip.get imageAt Image.acceptance || s.chip.roleIn session [3]

/-- The image_id in a slot's header. -/
def Flash.imageIdOf (f : Flash) (slot : Nat) : Nat := numAt (f.bytes (slotAt slot) 128) 24 4

/-- A command is accepted with a result. -/
def Chip.imageAccept (c : Chip) (bitNo result : Nat) : Chip :=
  ((c.put imageAt Image.last_cmd bitNo).put imageAt Image.result result).setXfer (fun x => { x with at_ := c.now })

/-- Refuse a command. -/
def State.imageRefuse (s : State) : State := s.onChip (·.put imageAt Image.result 3)

/-- Begin (R141): the slot not in use is erased. -/
def State.imageBegin (s : State) (session : Nat) : State :=
  let c := s.chip
  if c.xferOpen then s.imageRefuse
  else
    let t := 1 - c.get imageAt Image.slot
    let c1 := (((c.imageAccept 0 1).put imageAt Image.target t).put imageAt Image.bytes_written 0).setXfer (fun x => { x with
      owner := some session })
    { s with chip := c1.record 30 0xFF 0 t [1, 0] [0], flash := { s.flash.eraseSlot t with target := some t } }

/-- The write of a slot-select record naming a slot begins (R141): the copy that does not govern is erased, and the record follows
within a tick. A power fail between them leaves the copy invalid (Table 5.8). -/
def State.selectSlot (s : State) (slot : Nat) (fb : Bool) (what : Nat) : State :=
  let (copy, seq) := s.flash.nextSelect
  { s with flash := s.flash.eraseSelect copy
           chip := (s.chip.put imageAt Image.result 1).setXfer (fun x => { x with writing := some (copy, seq, slot, fb, what) }) }

/-- The record of a commit or a select is written, and recorded: 3 commit, 4 select. -/
def State.selectTick (s : State) : State :=
  match s.chip.xfer.writing with
  | none => s
  | some (copy, seq, slot, fb, what) =>
    let f0 := s.flash.program (selectAt copy) (selectBytes seq slot fb)
    let f := if what = 3 then { f0 with target := none } else f0
    let c := ((s.chip.selectSync f).put imageAt Image.result 2).setXfer (fun x => { x with writing := none })
    { s with flash := f, chip := c.record 14 0xFF 1 slot [what, 0] [f.imageIdOf slot] }

/-- The command word of the image block, from a session (R141, R144). -/
def State.imageCommand (s : State) (session w : Nat) : State :=
  let c := s.chip
  let fb := w.testBit 18
  if c.get imageAt Image.result = 1 then s
  else match (List.range 5).filter w.testBit with
  | [] => s
  | [n] =>
    if !c.mayTransfer session || !c.transferPhase || (c.xfer.owner.isSome && !c.ownsTransfer session) then s.imageRefuse
    else if n = 0 then s.imageBegin session
    else if n = 1 then
      (if !c.ownsTransfer session || c.get imageAt Image.state = 0 then s.imageRefuse
      else s.onChip (fun c => (c.imageAccept 1 1).setXfer (fun x => { x with verifying := 1 })))
    else if n = 2 then
      (if !c.ownsTransfer session || c.get imageAt Image.state != 2 || !s.mayAdopt session (c.get imageAt Image.target) then
        s.imageRefuse
      else
        let s1 := s.onChip (fun c => ((c.imageAccept 2 1).put imageAt Image.state 0).setXfer (fun _ => {}))
        s1.selectSlot (c.get imageAt Image.target) fb 3)
    else if n = 3 then
      (if !c.ownsTransfer session then s.imageRefuse else s.onChip (fun c => (c.put imageAt Image.last_cmd 3).xferAbort))
    else
      let slot := b2n (w.testBit 16)
      if c.checkSlot s.flash slot = 0 && !s.mayAdopt session slot then s.imageRefuse
      else s.onChip (fun c => (c.imageAccept 4 1).setXfer (fun x => { x with verifying := 2, fb := fb, slot := slot }))
  | _ => s.imageRefuse

/-- BEGIN (R141). -/
def execImageBegin (session : Fin 16) (s : State) : Out := .next (s.imageCommand session.val 1)

/-- VERIFY (R141). -/
def execImageVerify (session : Fin 16) (s : State) : Out := .next (s.imageCommand session.val 2)

/-- COMMIT (R141). -/
def execImageCommit (session : Fin 16) (fb : Bool) (s : State) : Out :=
  .next (s.imageCommand session.val (4 + 2 ^ 18 * b2n fb))

/-- ABORT (R143). -/
def execImageAbort (session : Fin 16) (s : State) : Out := .next (s.imageCommand session.val 8)

/-- SELECT (R141). -/
def execImageSelect (session : Fin 16) (slot : Fin 2) (fb : Bool) (s : State) : Out :=
  .next (s.imageCommand session.val (16 + 2 ^ 16 * slot.val + 2 ^ 18 * b2n fb))

/-- ERASE_COMPLETE (R141): the transfer accepts chunks. -/
def execEraseComplete (s : State) : Out :=
  chipOnly s (fun c =>
    if c.get imageAt Image.result != 1 || c.get imageAt Image.last_cmd != 0 || c.xfer.owner.isNone then c
    else ((c.put imageAt Image.result 2).put imageAt Image.state 1).setXfer (fun x => { x with at_ := c.now }))

/-- Is a chunk accepted (R141, R144, R452)? None while result is 1, as R144 gives for commands (DESIGN CHOICE, log entry 118). -/
def Chip.chunkOk (c : Chip) (session offset len : Nat) : Bool :=
  c.mayTransfer session && c.ownsTransfer session && c.get imageAt Image.state != 0 && c.get imageAt Image.result != 1
    && offset == c.get imageAt Image.bytes_written && decide (1 ≤ len && len ≤ 1024) && decide (offset + len ≤ slotSize)

/-- Write a chunk to the target slot. -/
def State.chunkWrite (s : State) (session offset : Nat) (data : List Nat) : State :=
  if !s.chip.chunkOk session offset data.length then s
  else
    { s with
      flash := s.flash.program (slotAt (s.chip.get imageAt Image.target) + offset) data
      chip := ((s.chip.put imageAt Image.bytes_written (offset + data.length)).put imageAt Image.state 1).setXfer (fun x => { x with
        at_ := s.chip.now }) }

/-- VERIFY_COMPLETE (R141): the full check that verify or select began ends with its code. -/
def execVerifyComplete (s : State) : Out :=
  let c := s.chip
  let x := c.xfer
  if x.verifying = 0 then .next s
  else if x.verifying = 1 then
    let t := c.get imageAt Image.target
    let code := c.checkStored s.flash t
    let c1 := (c.put imageAt Image.check code).setXfer (fun x => { x with verifying := 0, at_ := c.now })
    let c2 := (c1.put imageAt Image.state (if code = 0 then 2 else 1)).put imageAt Image.result (if code = 0 then 2 else 6)
    chipOnly s (fun _ => c2.record 30 0xFF 0 t [2, code] [c.get imageAt Image.bytes_written])
  else
    let code := c.checkSlot s.flash x.slot
    let s1 := s.onChip (fun c => (c.put imageAt Image.check code).setXfer (fun x => { x with verifying := 0 }))
    if code = 0 then .next (s1.selectSlot x.slot x.fb 4) else .next (s1.onChip (·.put imageAt Image.result 6))

/-- TRANSFER_TIMEOUT (R142): 60 s without a chunk or a command. -/
def execTransferTimeout (s : State) : Out :=
  chipOnly s (fun c => if c.xfer.owner.isNone || c.now < c.xfer.at_ + 60000000 then c else c.xferAbort)

end Sys2Proof.Machine
end

