-- ==== Sys2Proof/Machine/Sessions.lean ====
section
/-! DEFINITION. Service sessions (R447 to R458): opening and proof, requests in sequence, reads and writes under the access
classes (R14) and the roles (R453), keys, the fuse and the calendar. -/

namespace Sys2Proof.Machine

/-! ### Sessions -/

/-- A role key's 32 bytes (R455). -/
def RoleKey.bytes : RoleKey → Option (List Nat)
  | .empty => none
  | .label => some (sha256 Config.labelCode)
  | .set b => some b

/-- "SKSK" and "SKKY" in ASCII. -/
def skSK : List Nat := [0x53, 0x4B, 0x53, 0x4B]
def skKY : List Nat := [0x53, 0x4B, 0x4B, 0x59]

/-- The serial number, bytes in order. -/
def Chip.serial (c : Chip) : List Nat := leBytes 4 (c.get identAt Ident.serial_lo) ++ leBytes 4 (c.get identAt Ident.serial_hi)

/-- The session key Ks (R448). -/
def Chip.sessionKey (c : Chip) (roleKey nc nm : List Nat) : List Nat := hmac roleKey (skSK ++ nc ++ nm ++ c.serial)

/-- The mac of a message of session i: the first 16 bytes of HMAC-SHA-256 under Ks (R448). -/
def Chip.macOf (c : Chip) (i typ seq rid : Nat) (body : List Nat) : List Nat :=
  (hmac (c.sess i).key (svcFrame typ (c.getI sessAt Sess.sid i) seq rid body)).take 16

/-- A message without a mac of its own. -/
def openMessage (typ sid seq rid : Nat) (body : List Nat) : List Nat :=
  svcFrame typ sid seq rid body ++ List.replicate 16 0

/-- A service message comes in: it passes each station port that is up. -/
def Chip.netIn (c : Chip) (bytes : Nat) : Chip :=
  c.each ((List.range 2).filter c.stationUp) (fun c p => c.countPass p 4 8 false 3 1 bytes)

/-- A session ends, and with it its image transfer (R142, R450). -/
def Chip.endSession (c : Chip) (i : Nat) : Chip := (c.when (c.xfer.owner == some i) Chip.xferAbort).closeSess i

/-- Why an open request is refused (R449): no free session, no key for the role, the address locked out. -/
def State.openRefused (s : State) (peer role : Nat) : Bool :=
  let c := s.chip
  !(List.range 16).any (fun i => c.getI sessAt Sess.state i == 0)
    || (((nth .empty s.flash.roleKeys role).bytes).isNone) || decide (3 < role)
    || c.net.locks.any (fun l => l.1 == peer && decide (c.now < l.2))

/-- SESSION_OPEN (R448, R449): an open request is answered with a challenge of session `sid` and nonce `nm`, both the module's
choice, or with an error response of status 7. -/
def execSessionOpen (peer : BitVec 32) (port : BitVec 16) (seq : BitVec 32) (rid : BitVec 16) (role : BitVec 8)
    (nc nm : List Byte) (sid : BitVec 16) (s : State) : Out :=
  chipOnly s (fun c =>
    let c0 := c.netIn 52
    let used := (List.range 16).any (fun i => c.getI sessAt Sess.state i != 0 && c.getI sessAt Sess.sid i == sid.toNat)
    if !c.anyStation || sid = 0 || used then c
    else if s.openRefused peer.toNat role.toNat then
      c0.sendTo peer.toNat port.toNat (openMessage 0xFF 0 seq.toNat rid.toNat (leBytes 4 7))
    else match (List.range 16).find? (fun i => c.getI sessAt Sess.state i == 0) with
    | none => c0
    | some i =>
      let n := nm.map (·.toNat)
      let key := c.sessionKey (((nth .empty s.flash.roleKeys role.toNat).bytes).getD []) (nc.map (·.toNat)) n
      let c1 := (((c0.putI sessAt Sess.state i 1).putI sessAt Sess.role i role.toNat).putI sessAt Sess.sid i sid.toNat)
      let c2 := ((c1.putI sessAt Sess.peer i peer.toNat).putI sessAt Sess.port i port.toNat).putI sessAt Sess.last_tick i c.tick
      (c2.setSess i (fun _ => { key := key, openAt := c.now, lastAt := c.now })).sendTo peer.toNat port.toNat
        (openMessage 0x81 sid.toNat seq.toNat rid.toNat (n ++ c.serial)))

/-- The number of addresses locked out (Table 15.7). -/
def Chip.locksSync (c : Chip) : Chip := c.put slinkAt SLink.locked_out (min c.net.locks.length 255)

/-- A failed proof (R449): counted and recorded; the fifth from an address within 60 s locks it out for 60 s. -/
def Chip.proofFailed (c : Chip) (i : Nat) : Chip :=
  let peer := c.getI sessAt Sess.peer i
  let role := c.getI sessAt Sess.role i
  let c1 := ((c.bump slinkAt SLink.auth_fail).put slinkAt SLink.auth_failed 1).record 29 0xFF 1 i [3, role] [peer]
  let fails := (c.net.fails.filter (fun f => decide (c.now < f.2 + 60000000))) ++ [(peer, c.now)]
  if 5 ≤ (fails.filter (fun f => f.1 == peer)).length then
    let c2 := (c1.setNet (fun n => { n with
      fails := fails.filter (fun f => f.1 != peer)
      locks := n.locks.filter (fun l => l.1 != peer) ++ [(peer, c.now + 60000000)] })).locksSync
    (c2.put slinkAt SLink.lockout 1).record 29 0xFF 2 i [4, role] [peer]
  else c1.setNet (fun n => { n with fails := fails })

/-- A request that is not processed is discarded and counted (R450). -/
def Chip.badMac (c : Chip) : Chip := c.bump slinkAt SLink.bad_mac

/-- PROOF (R448, R449): seq 0 and an empty body under the session key; the accept carries the role and the lease state. -/
def execProofRequest (session : Fin 16) (rid : BitVec 16) (mac : List Byte) (s : State) : Out :=
  chipOnly s (fun c =>
    let i := session.val
    let ok := mac.map (·.toNat) == c.macOf i 0x03 0 rid.toNat []
    let c0 := c.netIn 32
    if !c.anyStation then c
    else if c.getI sessAt Sess.state i = 1 then
      (if !ok then c0.proofFailed i
      else
        let c1 := ((c0.putI sessAt Sess.state i 2).putI sessAt Sess.last_tick i c.tick).put slinkAt SLink.sessions
          (c0.get slinkAt SLink.sessions + 1)
        let c2 := (c1.setSess i (fun h => { h with lastAt := c.now, rtt := c.now - h.openAt })).record 29 0xFF 0 i
          [1, c.getI sessAt Sess.role i] [c.getI sessAt Sess.peer i]
        c2.reply i 0x83 0 rid.toNat ([c.getI sessAt Sess.role i, 0, 0, 0] ++ leBytes 4 c.lease))
    else match (if ok && c.getI sessAt Sess.state i == 2 then assoc (c.sess i).cache 0 else none) with
    | some m => c0.sendTo (c.getI sessAt Sess.peer i) (c.getI sessAt Sess.port i) m
    | none => c0.badMac)

/-- PROOF_TIMEOUT (R449): a session not proved within 5 s is dropped. -/
def execProofTimeout (session : Fin 16) (s : State) : Out :=
  chipOnly s (fun c =>
    if c.getI sessAt Sess.state session.val != 1 || c.now < (c.sess session.val).openAt + 5000000 then c
    else c.endSession session.val)

/-- SESSION_IDLE_TIMEOUT (R450): 30 s without a valid request close the session. -/
def execSessionIdleTimeout (session : Fin 16) (s : State) : Out :=
  chipOnly s (fun c =>
    if c.getI sessAt Sess.state session.val != 2 || c.now < (c.sess session.val).lastAt + 30000000 then c
    else c.endSession session.val)

/-- LOCKOUT_EXPIRY (R449): the 60 s of an address have passed. -/
def execLockoutExpiry (peer : BitVec 32) (s : State) : Out :=
  chipOnly s (fun c => (c.setNet (fun n => { n with
    locks := n.locks.filter (fun l => !(l.1 == peer.toNat && decide (l.2 ≤ c.now))) })).locksSync)

/-! ### Requests in sequence (R450) -/

/-- What becomes of a request of session i: processed when its mac checks and its seq is the next; answered from the cache when
it repeats one of the last eight; a ninth outstanding one answered with status 7; any other discarded and counted. -/
inductive Verdict where
  | absent
  | discard
  | repeated (answer : Option (List Nat))
  | full
  | process
  deriving DecidableEq, Repr

/-- The verdict on a request. -/
def Chip.verdict (c : Chip) (i typ seq rid : Nat) (body mac : List Nat) : Verdict :=
  let h := c.sess i
  if !c.anyStation then .absent
  else if c.getI sessAt Sess.state i != 2 || mac != c.macOf i typ seq rid body then .discard
  else match assoc h.cache seq with
  | some m => .repeated (some m)
  | none =>
    if h.pend.any (fun q => q.seq == seq) then .repeated none
    else if seq != h.seq + 1 then .discard
    else if 8 ≤ h.pend.length then .full
    else .process

/-- A request is taken: it is the session's last valid one and waits for as many parts of its answer. -/
def Chip.takeRequest (c : Chip) (i typ seq rid parts : Nat) : Chip :=
  (c.putI sessAt Sess.last_tick i c.tick).setSess i (fun h => { h with
    seq := seq, lastAt := c.now
    pend := h.pend ++ [{ seq := seq, rid := rid, typ := typ, parts := List.replicate parts none }] })

/-- Handle a request: `run` does what it asks for and gives its answers. -/
def State.request (s : State) (i typ seq rid : Nat) (body mac : List Nat) (parts : Nat) (run : State → State) : State :=
  let c := s.chip
  let c0 := c.netIn (32 + body.length)
  match c.verdict i typ seq rid body mac with
  | .absent => s
  | .discard => { s with chip := c0.badMac }
  | .repeated none => { s with chip := c0 }
  | .repeated (some m) => { s with chip := c0.sendTo (c.getI sessAt Sess.peer i) (c.getI sessAt Sess.port i) m }
  | .full =>
    let m := svcMessage (c.sess i).key 0xFF (c.getI sessAt Sess.sid i) seq rid (leBytes 4 7)
    { s with chip := c0.sendTo (c.getI sessAt Sess.peer i) (c.getI sessAt Sess.port i) m }
  | .process => run { s with chip := c0.takeRequest i typ seq rid parts }

/-- Answer a whole request at once. -/
def State.respond (s : State) (i seq : Nat) (bs : List Nat) : State :=
  s.onChip (·.answer { session := i, seq := seq, part := 0 } bs)

/-- Before S8 and in a halted module only some requests are accepted (R454). -/
def Chip.restricted (c : Chip) : Bool := c.phase != 8 || c.flag surveyAt Survey.halted

/-! ### Writes (R14, R451, R453) -/

/-- Does a word hold a field of an access class? -/
def hasAccess (a : Nat) (x : Access) : Bool := (fieldsAt a).any (fun f => f.access == x)

/-- The bits of the fields of an access class. -/
def accessMask (a : Nat) (x : Access) : Nat :=
  ((fieldsAt a).filter (fun f => f.access == x)).foldl (fun m f => m ||| f.mask) 0

/-- The bits of addr_mm of region r's counters whose address limits disagree now: they stand while they do (R179, R502). -/
def Chip.disagree (c : Chip) (r : Nat) : Nat :=
  ((List.range 8).filter (fun j => decide (c.getI (ctrAt r) Ctr.addr_hi j < c.getI (ctrAt r) Ctr.addr_lo j))).foldl
    (fun m j => m ||| 2 ^ (16 + j)) 0

/-- Clear the W1C bits written 1; bits written 0 and other fields stay (R14). -/
def Chip.clearSticky (c : Chip) (a v : Nat) : Chip :=
  let w := c.nat a
  ((c.setNat a (w - (w &&& (v &&& accessMask a .w1c)))).when (a == supplyAt + 0xE) (·.dropLatches (v / 2 ^ 4 % 2 ^ 4))).when
    (spaceOf a < 8 && a == ctrAt (spaceOf a) + 7) (fun c => c.setNat a (c.nat a ||| (w &&& c.disagree (spaceOf a))))

/-- The roles that may write a command word (Table 15.6, R87, R141, R373, R427, R431, R434). -/
def commandRoles (a v : Nat) : List Nat :=
  if a = supplyAt + 0x10 then [2]
  else if spaceOf a < 8 && blockOf a = 0x080 && offOf a = 0x19 && v.testBit 0 then [3]
  else [2, 3]

/-- The result field that reports a command word's outcome, and the bits that start a command. -/
def resultOf (a : Nat) : Option (Nat × Field × Nat) :=
  let s := spaceOf a
  let b := blockOf a
  let o := offOf a
  let base := a - o
  if s < 8 then
    if b = 0 && o = 0x0E then some (base, Region.result, 7)
    else if b = 0x020 || b = 0x021 then some (base, Axis.result, 3)
    else if 0x040 ≤ b && b ≤ 0x05F then some (base, Loop.result, 3)
    else if b = 0x060 then some (base, Port.result, 3)
    else if b = 0x070 then some (base, Ctr.result, 1)
    else if b = 0x080 then some (base, Isle.result, 3)
    else none
  else if a = supplyAt + 0x10 then some (supplyAt, Supply.result, 1)
  else if a = surveyAt + 2 then some (surveyAt, Survey.result, 7)
  else if a = imageAt + 0x20 then some (imageAt, Image.result, 31)
  else if a = engineAt + 0x0A then some (engineAt, Engine.result, 1)
  else if a = forceAt + 1 then some (forceAt, Force.result, 1)
  else if a = pairAt + 0x0D then some (pairAt, Pair.result, 15)
  else if a = slinkAt + 0x0F then some (slinkAt, SLink.result, 1)
  else if a = recdAt + 0x0F then some (recdAt, Recd.result, 3)
  else if s = 0xA && 1 ≤ b && b ≤ 4 && o = 0x0D then some (base, Win.result, 15)
  else if a = panelAt + 0x42 then some (panelAt, Panel.result, 7)
  else none

/-- A word with two command bits: both set are refused, and so is any command while the result is busy. -/
def State.oneOf (s : State) (v b : Nat) (result : Field) (f0 f1 : State → State) : State :=
  if s.chip.get b result = 1 then s
  else if v.testBit 0 && v.testBit 1 then s.onChip (·.put b result 3)
  else if v.testBit 0 then f0 s
  else if v.testBit 1 then f1 s
  else s

/-- Is a window's operand word writable by the session (R470)? -/
def Chip.seekOperand (c : Chip) (i a : Nat) : Bool := c.ownsWindow i (blockOf a - 1)

/-- Start the command a command word asks for; each chapter's own operation does it. -/
def State.runCommand (s : State) (i a v : Nat) : State :=
  let sp := spaceOf a
  let b := blockOf a
  let o := offOf a
  let base := a - o
  if sp < 8 then
    if b = 0 then
      if o = 0x0E then s.onChip (·.regionCommand sp v)
      else if !v.testBit 0 then s
      else if o = 0x19 then s.onChip (·.cmdClearCrossings sp)
      else s.onChip (·.cmdClearSlice sp)
    else if b = 0x020 || b = 0x021 then
      let x := 2 * sp + (b - 0x020)
      s.oneOf v base Axis.result (·.onChip (·.cmdClearFault x)) (·.onChip (·.cmdAxisStats x))
    else if 0x040 ≤ b && b ≤ 0x05F then
      let n := 32 * sp + (b - 0x040)
      s.oneOf v base Loop.result (·.onChip (·.cmdLoopStats n)) (·.onChip (·.cmdResetStates n))
    else if b = 0x060 then
      s.oneOf v base Port.result (·.onChip (·.cmdPortRestart sp)) (·.onChip (·.cmdPortClear sp))
    else if b = 0x070 then (if v.testBit 0 then s.onChip (·.cmdCounterClear sp) else s)
    else if b = 0x080 then
      s.oneOf v base Isle.result (·.onChip (·.cmdIsleRestart sp)) (·.onChip (·.cmdIsleClear sp))
    else s
  else if a = supplyAt + 0x10 then (if v.testBit 0 then s.onChip Chip.cmdDormant else s)
  else if a = surveyAt + 2 then s.onChip (·.surveyCommand v)
  else if a = imageAt + 0x20 then s.imageCommand i v
  else if a = engineAt + 0x0A then (if v.testBit 0 then s.onChip Chip.cmdClearStats else s)
  else if a = forceAt + 1 then (if v.testBit 0 then s.onChip Chip.cmdReleaseAll else s)
  else if a = pairAt + 0x0D then s.onChip (·.pairCommand v true)
  else if a = slinkAt + 0x0F then (if v.testBit 0 then s.onChip Chip.cmdStationClear else s)
  else if a = recdAt + 0x0F then s.onChip (·.recCommand v)
  else if sp = 0xA && 1 ≤ b && b ≤ 4 then
    if o = 0x0D then (if v % 16 = 0 then s else s.winCommand i (b - 1) (v % 16) [])
    else s.onChip (fun c => c.when (c.seekOperand i a) (·.setNat a v))
  else if a = panelAt + 0x42 then
    if s.chip.get panelAt Panel.result = 1 then s
    else match (List.range 3).filter v.testBit with
    | [] => s
    | [0] => s.panelRestart
    | [1] => s.onChip Chip.panelShow
    | [2] => s.onChip Chip.panelClearCmd
    | _ => s.onChip (·.put panelAt Panel.result 3)
  else s

/-- The status a command write is answered with: done when the command was accepted (R451), otherwise refused. -/
def commandStatus (before after : Chip) (i a v : Nat) : Nat :=
  let no := if a = imageAt + 0x20 then 0x30 else 6
  match resultOf a with
  | some (b, f, bits) =>
    if v &&& bits = 0 then 0
    else if before.get b f = 1 then no
    else if after.get b f = 3 then no else 0
  | none => if spaceOf a = 0xA && !before.seekOperand i a then no else 0

/-- Give one part of an answer to a write: a status, and the cycle count when it is done. -/
def State.wrote (s : State) (asked : Option AskedBy) (status : Nat) : State :=
  s.onChip (fun c => c.answerTo asked (statusWords [status, if status = 0 then c.get engineAt Engine.cycle_count else 0]))

/-- A dormant command with the engine stopped acts at once: no boundary comes. -/
def State.dormantNow (s : State) : State :=
  if s.chip.flag supplyAt Supply.dormant_pending && s.chip.get engineAt Engine.state != 1 then s.goDormant else s

/-- Write a value to a parameter word from session i under its access class (R14, R451, R453, R454, R530). -/
def State.writeWord (s : State) (i a v : Nat) (asked : Option AskedBy) : State :=
  let c := s.chip
  if c.restricted && a != imageAt + 0x20 then s.wrote asked 6
  else match c.accessOf a with
  | 0 =>
    let s1 := s.onChip (·.countWord a true 3 1)
    if isInst a && !(c.isOnl a) || isConst a && !(c.isOnl a) then s1.wrote asked accDenied
    else if isInst a || isConst a || hasAccess a .onl then
      if !c.roleIn i (if isInst a || isConst a then [1, 2, 3] else [2, 3]) then s1.wrote asked 5
      else s1.onChip (·.submitChange { addr := a, value := v, prog := none, session := asked })
    else if hasAccess a .cmd then
      if !c.roleIn i (commandRoles a v) then s1.wrote asked 5
      else
        let s2 := s1.runCommand i a v
        (s2.wrote asked (commandStatus c s2.chip i a v)).dormantNow
    else if hasAccess a .w1c then
      if !c.roleIn i [1, 2, 3] then s1.wrote asked 5
      -- what the write itself counts comes after the clear, so that an overflow it causes stands (R16)
      else ((s.onChip (·.clearSticky a v)).onChip (·.countWord a true 3 1)).wrote asked 0
    else s1.wrote asked accDenied
  | st => s.wrote asked st

/-- PARAMETER_WRITE (R14): a session's write to one register, without the message around it. -/
def execParameterWrite (session : Fin 16) (addr value : BitVec 32) (s : State) : Out :=
  .next (if s.chip.getI sessAt Sess.state session.val = 2 then s.writeWord session.val addr.toNat value.toNat none else s)

/-! ### The requests of Table 15.4 -/

/-- Bytes as numbers. -/
def nums (bs : List Byte) : List Nat := bs.map (·.toNat)

/-- SESSION_CLOSE (R450): answered, then the session ends. -/
def execSessionClose (session : Fin 16) (seq : BitVec 32) (rid : BitVec 16) (mac : List Byte) (s : State) : Out :=
  let i := session.val
  .next (s.request i 0x05 seq.toNat rid.toNat [] (nums mac) 1 (fun s => s.onChip (fun c =>
    (c.reply i 0x85 seq.toNat rid.toNat []).endSession i)))

/-- KEEPALIVE (R450). -/
def execKeepalive (session : Fin 16) (seq : BitVec 32) (rid : BitVec 16) (mac : List Byte) (s : State) : Out :=
  .next (s.request session.val 0x06 seq.toNat rid.toNat [] (nums mac) 1 (fun s => s.respond session.val seq.toNat []))

/-- The answer to a read: status and value of each word, each taken whole (R62, R451). -/
def Chip.readAnswer (c : Chip) (addrs : List Nat) : List Nat :=
  addrs.flatMap (fun a => leBytes 4 (c.readWord a).1 ++ leBytes 4 (c.readWord a).2)

/-- READ (R451): up to 64 words. -/
def execReadWords (session : Fin 16) (seq : BitVec 32) (rid : BitVec 16) (addrs : List (BitVec 32)) (mac : List Byte)
    (s : State) : Out :=
  let as := addrs.map (·.toNat)
  .next (s.request session.val 0x10 seq.toNat rid.toNat (leBytes 4 as.length ++ as.flatMap (leBytes 4)) (nums mac) 1 (fun s =>
    (s.onChip (fun c => c.each (as.filter (fun a => (c.readWord a).1 == 0)) (fun c a => c.countWord a false 3 1))).respond
      session.val seq.toNat (s.chip.readAnswer as)))

/-- WRITE (R451): up to 16 pairs of address and value, in order and independently. -/
def execWriteWords (session : Fin 16) (seq : BitVec 32) (rid : BitVec 16) (pairs : List (BitVec 32 × BitVec 32))
    (mac : List Byte) (s : State) : Out :=
  let i := session.val
  let ps := pairs.map (fun p => (p.1.toNat, p.2.toNat))
  let body := leBytes 4 ps.length ++ ps.flatMap (fun p => leBytes 4 p.1 ++ leBytes 4 p.2)
  .next (s.request i 0x12 seq.toNat rid.toNat body (nums mac) ps.length (fun s =>
    ps.zipIdx.foldl (fun s p => s.writeWord i p.1.1 p.1.2 (some { session := i, seq := seq.toNat, part := p.2 })) s))

/-- FORCE_SET (R169, R451, R541): an entry's words; answered with status, entry index and cycle count at the boundary, or at
once when it is refused. -/
def execForceSet (session : Fin 16) (seq : BitVec 32) (rid : BitVec 16) (kind type region sub : BitVec 8)
    (index valueLo valueHi : BitVec 32) (mac : List Byte) (s : State) : Out :=
  let i := session.val
  let ws := [kind.toNat * 2 ^ 24 + type.toNat * 2 ^ 16 + region.toNat * 2 ^ 8 + sub.toNat, index.toNat, valueLo.toNat,
    valueHi.toNat]
  .next (s.request i 0x20 seq.toNat rid.toNat (ws.flatMap (leBytes 4)) (nums mac) 1 (fun s =>
    if s.chip.restricted then s.respond i seq.toNat (statusWords [6, 0, 0])
    else if !s.chip.roleIn i [2, 3] then s.respond i seq.toNat (statusWords [5, 0, 0])
    else s.onChip (·.forceSet ws (some { session := i, seq := seq.toNat, part := 0 }))))

/-- FORCE_RELEASE (R451, R541): answered with status and cycle count. -/
def execForceRelease (session : Fin 16) (seq : BitVec 32) (rid : BitVec 16) (index : BitVec 32) (mac : List Byte) (s : State) :
    Out :=
  let i := session.val
  .next (s.request i 0x21 seq.toNat rid.toNat (leBytes 4 index.toNat) (nums mac) 1 (fun s =>
    if s.chip.restricted then s.respond i seq.toNat (statusWords [6, 0])
    else if !s.chip.roleIn i [2, 3] then s.respond i seq.toNat (statusWords [5, 0])
    else s.onChip (·.forceRelease index.toNat (some { session := i, seq := seq.toNat, part := 0 }))))

/-- CHUNK (R452): image bytes at an offset; answered with status and bytes_written. -/
def execChunkWrite (session : Fin 16) (seq : BitVec 32) (rid : BitVec 16) (offset : BitVec 32) (data mac : List Byte)
    (s : State) : Out :=
  let i := session.val
  let body := leBytes 4 offset.toNat ++ leBytes 2 data.length ++ [0, 0] ++ nums data
  .next (s.request i 0x30 seq.toNat rid.toNat body (nums mac) 1 (fun s =>
    let st := if !s.chip.roleIn i [2, 3] then 5 else if s.chip.chunkOk i offset.toNat data.length then 0 else 0x30
    let s1 := if st = 0 then s.chunkWrite i offset.toNat (nums data) else s
    s1.respond i seq.toNat (statusWords [st, s1.chip.get imageAt Image.bytes_written])))

/-- The role keys a session may set (Table 15.6). -/
def keyTargets (role : Nat) : List Nat :=
  if role = 1 then [1] else if role = 2 then [0, 1, 2] else if role = 3 then [0, 1, 2, 3] else []

/-- SET_KEY (R455): the masked key is unmasked under the session key and the request's seq; all zeros empty the key, but the
safety-engineer's cannot be emptied. -/
def execSetKey (session : Fin 16) (seq : BitVec 32) (rid : BitVec 16) (target : BitVec 8) (masked mac : List Byte)
    (s : State) : Out :=
  let i := session.val
  let t := target.toNat
  .next (s.request i 0x50 seq.toNat rid.toNat ([t, 0, 0, 0] ++ nums masked) (nums mac) 1 (fun s =>
    let mask := hmac (s.chip.sess i).key (skKY ++ leBytes 4 seq.toNat)
    let key := List.zipWith (· ^^^ ·) (nums masked) mask
    let zero := key.all (· == 0)
    if !(keyTargets (s.chip.getI sessAt Sess.role i)).contains t then s.respond i seq.toNat (leBytes 4 5)
    else if zero && t = 3 then s.respond i seq.toNat (leBytes 4 6)
    else ({ s with flash := { s.flash with
      roleKeys := setAt s.flash.roleKeys t (if zero then .empty else .set key) } }).respond i seq.toNat (leBytes 4 0)))

/-- KEY_SLOT (R135, R456): write an empty slot or revoke an active one, for good; recorded as source 14. -/
def execKeySlot (session : Fin 16) (seq : BitVec 32) (rid : BitVec 16) (slot op : BitVec 8) (key mac : List Byte)
    (s : State) : Out :=
  let i := session.val
  let k := slot.toNat
  .next (s.request i 0x51 seq.toNat rid.toNat ([k, op.toNat, 0, 0] ++ nums key) (nums mac) 1 (fun s =>
    let old := nth (9, []) s.flash.keys k
    let change (new : Nat × List Nat) (what : Nat) : State :=
      let f := { s.flash with keys := setAt s.flash.keys k new }
      ({ s with flash := f, chip := (s.chip.selectSync f).record 14 0xFF 1 0xFF [what, 0] [k] }).respond i seq.toNat
        (leBytes 4 0)
    if !s.chip.roleIn i [3] then s.respond i seq.toNat (leBytes 4 5)
    else if op = 1 && old.1 = 0 then change (1, nums key) 6
    else if op = 2 && old.1 = 1 then change (2, old.2) 7
    else s.respond i seq.toNat (leBytes 4 6)))

/-- FUSE (R456): the require-signature fuse is set for good; recorded as source 14. -/
def execFuse (session : Fin 16) (seq : BitVec 32) (rid : BitVec 16) (mac : List Byte) (s : State) : Out :=
  let i := session.val
  .next (s.request i 0x52 seq.toNat rid.toNat [0x46, 0x55, 0x53, 0x45] (nums mac) 1 (fun s =>
    if !s.chip.roleIn i [3] then s.respond i seq.toNat (leBytes 4 5)
    else
      let f := { s.flash with fuse := true }
      ({ s with flash := f, chip := (s.chip.selectSync f).record 14 0xFF 1 0xFF [8, 0] [0] }).respond i seq.toNat (leBytes 4 0)))

/-- Set the calendar to a stamp plus half a round trip in ticks (R443); a calendar so set knows no leap seconds (R442). -/
def Chip.setCalendar (c : Chip) (stamp rtt : Nat) : Chip :=
  let new : Nat := fsOf stamp + rtt * 10 ^ 9 / 2
  let o : Int := ((c.calFs : Int) - (new : Int)) / 10 ^ 6
  let c1 := ({ c with calFs := new }).setNet (fun n => { n with leap := 0 })
  ((((c1.put calAt Cal.leap_pending 0).put calAt Cal.leap_now 0).put calAt Cal.source 3).put supplyAt Supply.cal_valid
    (b2n (!c.clkLost 0 1))).calRecord 4 o

/-- CALSET (R443): refused with status 6 while the calendar is locked to PTP. -/
def execCalset (session : Fin 16) (seq : BitVec 32) (rid : BitVec 16) (stamp : BitVec 64) (mac : List Byte) (s : State) : Out :=
  let i := session.val
  .next (s.request i 0x53 seq.toNat rid.toNat (leBytes 8 stamp.toNat) (nums mac) 1 (fun s =>
    if !s.chip.roleIn i [2, 3] then s.respond i seq.toNat (leBytes 4 5)
    else if s.chip.net.locked then s.respond i seq.toNat (leBytes 4 6)
    else (s.onChip (fun c => c.setCalendar stamp.toNat (c.sess i).rtt)).respond i seq.toNat (leBytes 4 0)))

/-- SERVICE_RESTART (R93, R457): refused with status 6 by a holder whose partner is a synchronised shadow; otherwise answered,
the sessions close, and the module enters reset. -/
def execServiceRestart (session : Fin 16) (seq : BitVec 32) (rid : BitVec 16) (mac : List Byte) (s : State) : Out :=
  let i := session.val
  .next (s.request i 0x54 seq.toNat rid.toNat [0x52, 0x53, 0x54, 0x52] (nums mac) 1 (fun s =>
    if !s.chip.roleIn i [2, 3] then s.respond i seq.toNat (leBytes 4 5)
    else if s.chip.lease == 2 && s.chip.get pairAt Pair.partner_state == 4 then s.respond i seq.toNat (leBytes 4 6)
    else ((s.respond i seq.toNat (leBytes 4 0)).onChip (fun c => c.each (List.range 16) Chip.endSession)).restart))

end Sys2Proof.Machine
end

