-- ==== Sys2Proof/Machine/Dispatch.lean ====
section
/-! DEFINITION. The dispatch: one arm per command, one direct call of its meaning. -/

namespace Sys2Proof.Machine

/-- The effect of a command on everything but the queue. -/
def exec (i : Instr) (s : State) : Host.Outcome State Fault Refusal :=
  match i with
  | .cellCheckFailure r block passed => Sys2Proof.Machine.execCellCheckFailure r block passed s
  | .blockFailure r block => Sys2Proof.Machine.execBlockFailure r block s
  | .correctableEccError r => Sys2Proof.Machine.execCorrectableEccError r s
  | .patrolScrubPass r corrected => Sys2Proof.Machine.execPatrolScrubPass r corrected s
  | .unfence r block => Sys2Proof.Machine.execUnfence r block s
  | .blockSelfTestDone r ok => Sys2Proof.Machine.execBlockSelfTestDone r ok s
  | .retrain r => Sys2Proof.Machine.execRetrain r s
  | .regionClearCounters r => Sys2Proof.Machine.execRegionClearCounters r s
  | .flitReceive r link kind number body => Sys2Proof.Machine.execFlitReceive r link kind number body s
  | .linkSilenceTimeout r link => Sys2Proof.Machine.execLinkSilenceTimeout r link s
  | .linkControlFlit r link => Sys2Proof.Machine.execLinkControlFlit r link s
  | .linkRetrainAttempt r link trained => Sys2Proof.Machine.execLinkRetrainAttempt r link trained s
  | .beacon => Sys2Proof.Machine.execBeacon s
  | .beaconReceive r => Sys2Proof.Machine.execBeaconReceive r s
  | .beaconAckReceive r => Sys2Proof.Machine.execBeaconAckReceive r s
  | .beaconGap r => Sys2Proof.Machine.execBeaconGap r s
  | .beaconSilenceTimeout r => Sys2Proof.Machine.execBeaconSilenceTimeout r s
  | .ackTimeout r => Sys2Proof.Machine.execAckTimeout r s
  | .fenceOrder r => Sys2Proof.Machine.execFenceOrder r s
  | .junctionTempUpdate r tj pace => Sys2Proof.Machine.execJunctionTempUpdate r tj pace s
  | .clockLost r d hz => Sys2Proof.Machine.execClockLost r d hz s
  | .clockReturn r d hz => Sys2Proof.Machine.execClockReturn r d hz s
  | .tbLossFence => Sys2Proof.Machine.execTbLossFence s
  | .countTransfer src gray => Sys2Proof.Machine.execCountTransfer src gray s
  | .countOverrun src => Sys2Proof.Machine.execCountOverrun src s
  | .tongsResync r d inFlight src => Sys2Proof.Machine.execTongsResync r d inFlight src s
  | .clearCrossings r => Sys2Proof.Machine.execClearCrossings r s
  | .lsInputStep b present millivolts => Sys2Proof.Machine.execLsInputStep b present millivolts s
  | .lsLowHighStep high entered millivolts => Sys2Proof.Machine.execLsLowHighStep high entered millivolts s
  | .powerFail millivolts lsReturned => Sys2Proof.Machine.execPowerFail millivolts lsReturned s
  | .gsStep r step entered millivolts => Sys2Proof.Machine.execGsStep r step entered millivolts s
  | .gsOffQualified r millivolts => Sys2Proof.Machine.execGsOffQualified r millivolts s
  | .msStep r what millivolts => Sys2Proof.Machine.execMsStep r what millivolts s
  | .supplyMeasurementUpdate lsA lsB lsOr core scap bpTemp gs ms => Sys2Proof.Machine.execSupplyMeasurementUpdate lsA lsB lsOr core scap bpTemp gs ms s
  | .coreVoltageFault millivolts => Sys2Proof.Machine.execCoreVoltageFault millivolts s
  | .comparatorAssert k => Sys2Proof.Machine.execComparatorAssert k s
  | .comparatorClear k => Sys2Proof.Machine.execComparatorClear k s
  | .scapExhausted => Sys2Proof.Machine.execScapExhausted s
  | .dormant session => Sys2Proof.Machine.execDormant session s
  | .s1Qualified lsMv coreMv charged => Sys2Proof.Machine.execS1Qualified lsMv coreMv charged s
  | .s2Enumerated trained answered speedA speedB cables => Sys2Proof.Machine.execS2Enumerated trained answered speedA speedB cables s
  | .s3SelfTestDone fails retainedOk => Sys2Proof.Machine.execS3SelfTestDone fails retainedOk s
  | .s4ImageChecked => Sys2Proof.Machine.execS4ImageChecked s
  | .s5SurveyDone results holdup => Sys2Proof.Machine.execS5SurveyDone results holdup s
  | .s6Negotiated => Sys2Proof.Machine.execS6Negotiated s
  | .s8Entry => Sys2Proof.Machine.execS8Entry s
  | .serviceRestart session seq rid mac => Sys2Proof.Machine.execServiceRestart session seq rid mac s
  | .survey kind index => Sys2Proof.Machine.execSurvey kind index s
  | .surveyComplete results => Sys2Proof.Machine.execSurveyComplete results s
  | .temper kind index => Sys2Proof.Machine.execTemper kind index s
  | .temperZeroDone offset => Sys2Proof.Machine.execTemperZeroDone offset s
  | .temperGainDone gain => Sys2Proof.Machine.execTemperGainDone gain s
  | .temperComplete => Sys2Proof.Machine.execTemperComplete s
  | .returnToService kind index => Sys2Proof.Machine.execReturnToService kind index s
  | .imageBegin session => Sys2Proof.Machine.execImageBegin session s
  | .eraseComplete => Sys2Proof.Machine.execEraseComplete s
  | .chunkWrite session seq rid offset data mac => Sys2Proof.Machine.execChunkWrite session seq rid offset data mac s
  | .imageVerify session => Sys2Proof.Machine.execImageVerify session s
  | .imageCommit session fb => Sys2Proof.Machine.execImageCommit session fb s
  | .imageSelect session slot fb => Sys2Proof.Machine.execImageSelect session slot fb s
  | .imageAbort session => Sys2Proof.Machine.execImageAbort session s
  | .transferTimeout => Sys2Proof.Machine.execTransferTimeout s
  | .cycleBoundary => Sys2Proof.Machine.execCycleBoundary s
  | .inputLatch => Sys2Proof.Machine.execInputLatch s
  | .executionComplete => Sys2Proof.Machine.execExecutionComplete s
  | .outputWrite => Sys2Proof.Machine.execOutputWrite s
  | .watchdogFire => Sys2Proof.Machine.execWatchdogFire s
  | .onlineChangeArrival addr value => Sys2Proof.Machine.execOnlineChangeArrival addr value s
  | .forceSet session seq rid kind type region sub index valueLo valueHi mac => Sys2Proof.Machine.execForceSet session seq rid kind type region sub index valueLo valueHi mac s
  | .forceRelease session seq rid index mac => Sys2Proof.Machine.execForceRelease session seq rid index mac s
  | .releaseAll => Sys2Proof.Machine.execReleaseAll s
  | .engineClearStats => Sys2Proof.Machine.execEngineClearStats s
  | .runAnd seq => Sys2Proof.Machine.execRunAnd seq s
  | .runOr seq => Sys2Proof.Machine.execRunOr seq s
  | .runXor seq => Sys2Proof.Machine.execRunXor seq s
  | .runNot seq => Sys2Proof.Machine.execRunNot seq s
  | .runWand seq => Sys2Proof.Machine.execRunWand seq s
  | .runWor seq => Sys2Proof.Machine.execRunWor seq s
  | .runWxor seq => Sys2Proof.Machine.execRunWxor seq s
  | .runWnot seq => Sys2Proof.Machine.execRunWnot seq s
  | .runShift seq => Sys2Proof.Machine.execRunShift seq s
  | .runBit seq => Sys2Proof.Machine.execRunBit seq s
  | .runPack seq => Sys2Proof.Machine.execRunPack seq s
  | .runUnpack seq => Sys2Proof.Machine.execRunUnpack seq s
  | .runEq seq => Sys2Proof.Machine.execRunEq seq s
  | .runNe seq => Sys2Proof.Machine.execRunNe seq s
  | .runGt seq => Sys2Proof.Machine.execRunGt seq s
  | .runGe seq => Sys2Proof.Machine.execRunGe seq s
  | .runLt seq => Sys2Proof.Machine.execRunLt seq s
  | .runLe seq => Sys2Proof.Machine.execRunLe seq s
  | .runCmph seq => Sys2Proof.Machine.execRunCmph seq s
  | .runAdd seq => Sys2Proof.Machine.execRunAdd seq s
  | .runSub seq => Sys2Proof.Machine.execRunSub seq s
  | .runMul seq => Sys2Proof.Machine.execRunMul seq s
  | .runDiv seq => Sys2Proof.Machine.execRunDiv seq s
  | .runMod seq => Sys2Proof.Machine.execRunMod seq s
  | .runAbs seq => Sys2Proof.Machine.execRunAbs seq s
  | .runNeg seq => Sys2Proof.Machine.execRunNeg seq s
  | .runMin seq => Sys2Proof.Machine.execRunMin seq s
  | .runMax seq => Sys2Proof.Machine.execRunMax seq s
  | .runSqrt seq => Sys2Proof.Machine.execRunSqrt seq s
  | .runLn seq => Sys2Proof.Machine.execRunLn seq s
  | .runExp seq => Sys2Proof.Machine.execRunExp seq s
  | .runPow seq => Sys2Proof.Machine.execRunPow seq s
  | .runPoly seq => Sys2Proof.Machine.execRunPoly seq s
  | .runSel seq => Sys2Proof.Machine.execRunSel seq s
  | .runMux seq => Sys2Proof.Machine.execRunMux seq s
  | .runLimit seq => Sys2Proof.Machine.execRunLimit seq s
  | .runMove seq => Sys2Proof.Machine.execRunMove seq s
  | .runLag seq => Sys2Proof.Machine.execRunLag seq s
  | .runRate seq => Sys2Proof.Machine.execRunRate seq s
  | .runInteg seq => Sys2Proof.Machine.execRunInteg seq s
  | .runRamp seq => Sys2Proof.Machine.execRunRamp seq s
  | .runTon seq => Sys2Proof.Machine.execRunTon seq s
  | .runTof seq => Sys2Proof.Machine.execRunTof seq s
  | .runTp seq => Sys2Proof.Machine.execRunTp seq s
  | .runRto seq => Sys2Proof.Machine.execRunRto seq s
  | .runPgen seq => Sys2Proof.Machine.execRunPgen seq s
  | .runDebnc seq => Sys2Proof.Machine.execRunDebnc seq s
  | .runBumpsw seq => Sys2Proof.Machine.execRunBumpsw seq s
  | .runCtu seq => Sys2Proof.Machine.execRunCtu seq s
  | .runCtd seq => Sys2Proof.Machine.execRunCtd seq s
  | .runCtud seq => Sys2Proof.Machine.execRunCtud seq s
  | .runCntd seq => Sys2Proof.Machine.execRunCntd seq s
  | .runRTrig seq => Sys2Proof.Machine.execRunRTrig seq s
  | .runFTrig seq => Sys2Proof.Machine.execRunFTrig seq s
  | .runSr seq => Sys2Proof.Machine.execRunSr seq s
  | .runRs seq => Sys2Proof.Machine.execRunRs seq s
  | .runEstamp seq => Sys2Proof.Machine.execRunEstamp seq s
  | .runToggle seq => Sys2Proof.Machine.execRunToggle seq s
  | .runScale seq => Sys2Proof.Machine.execRunScale seq s
  | .runScaleq seq => Sys2Proof.Machine.execRunScaleq seq s
  | .runLintab seq => Sys2Proof.Machine.execRunLintab seq s
  | .runConv seq => Sys2Proof.Machine.execRunConv seq s
  | .runCastUr seq => Sys2Proof.Machine.execRunCastUr seq s
  | .runCastRu seq => Sys2Proof.Machine.execRunCastRu seq s
  | .runCastUi seq => Sys2Proof.Machine.execRunCastUi seq s
  | .runCastIu seq => Sys2Proof.Machine.execRunCastIu seq s
  | .runStsplit seq => Sys2Proof.Machine.execRunStsplit seq s
  | .runStmerge seq => Sys2Proof.Machine.execRunStmerge seq s
  | .runCalsplit seq => Sys2Proof.Machine.execRunCalsplit seq s
  | .runChgrp seq => Sys2Proof.Machine.execRunChgrp seq s
  | .runLoopsup seq => Sys2Proof.Machine.execRunLoopsup seq s
  | .runAlm seq => Sys2Proof.Machine.execRunAlm seq s
  | .runAxmove seq => Sys2Proof.Machine.execRunAxmove seq s
  | .runAxhome seq => Sys2Proof.Machine.execRunAxhome seq s
  | .runAxstop seq => Sys2Proof.Machine.execRunAxstop seq s
  | .runAxgear seq => Sys2Proof.Machine.execRunAxgear seq s
  | .runAxstat seq => Sys2Proof.Machine.execRunAxstat seq s
  | .runCanfilt seq => Sys2Proof.Machine.execRunCanfilt seq s
  | .runCanobj seq => Sys2Proof.Machine.execRunCanobj seq s
  | .runCansend seq => Sys2Proof.Machine.execRunCansend seq s
  | .runPortst seq => Sys2Proof.Machine.execRunPortst seq s
  | .runPortrst seq => Sys2Proof.Machine.execRunPortrst seq s
  | .runPub seq => Sys2Proof.Machine.execRunPub seq s
  | .runSubBlock seq => Sys2Proof.Machine.execRunSubBlock seq s
  | .runEvraise seq => Sys2Proof.Machine.execRunEvraise seq s
  | .runPfield seq => Sys2Proof.Machine.execRunPfield seq s
  | .runPblink seq => Sys2Proof.Machine.execRunPblink seq s
  | .runPpage seq => Sys2Proof.Machine.execRunPpage seq s
  | .runPstat seq => Sys2Proof.Machine.execRunPstat seq s
  | .runPairst seq => Sys2Proof.Machine.execRunPairst seq s
  | .runSfst seq => Sys2Proof.Machine.execRunSfst seq s
  | .runParwr seq => Sys2Proof.Machine.execRunParwr seq s
  | .runParrd seq => Sys2Proof.Machine.execRunParrd seq s
  | .runPerf seq => Sys2Proof.Machine.execRunPerf seq s
  | .frontEndReconfigured g => Sys2Proof.Machine.execFrontEndReconfigured g s
  | .modeSettled g raw x y => Sys2Proof.Machine.execModeSettled g raw x y s
  | .conversionResult g raw x y => Sys2Proof.Machine.execConversionResult g raw x y s
  | .cjSensorRead r ta tb => Sys2Proof.Machine.execCjSensorRead r ta tb s
  | .openTcCheck g microvolts => Sys2Proof.Machine.execOpenTcCheck g microvolts s
  | .bellowsMeasurement g measured => Sys2Proof.Machine.execBellowsMeasurement g measured s
  | .complianceEntry g microamps => Sys2Proof.Machine.execComplianceEntry g microamps s
  | .complianceEnd g microamps => Sys2Proof.Machine.execComplianceEnd g microamps s
  | .openLoop g termMv microamps => Sys2Proof.Machine.execOpenLoop g termMv microamps s
  | .thermalFoldback g stageTj delivered => Sys2Proof.Machine.execThermalFoldback g stageTj delivered s
  | .splitSourceMeasurement g own partner partnerTempers => Sys2Proof.Machine.execSplitSourceMeasurement g own partner partnerTempers s
  | .diSample g reading => Sys2Proof.Machine.execDiSample g reading s
  | .cntGateEnd g edges span25ns => Sys2Proof.Machine.execCntGateEnd g edges span25ns s
  | .pwmPeriodEnd g => Sys2Proof.Machine.execPwmPeriodEnd g s
  | .loadCurrentMeasurement g tenthMa termMv => Sys2Proof.Machine.execLoadCurrentMeasurement g tenthMa termMv s
  | .switchTrip g thermal milliamps => Sys2Proof.Machine.execSwitchTrip g thermal milliamps s
  | .switchRetry g => Sys2Proof.Machine.execSwitchRetry g s
  | .backFed g feeder => Sys2Proof.Machine.execBackFed g feeder s
  | .openLoad g tenthMa ended => Sys2Proof.Machine.execOpenLoad g tenthMa ended s
  | .stuckOn g tenthMa => Sys2Proof.Machine.execStuckOn g tenthMa s
  | .extSrc g microamps => Sys2Proof.Machine.execExtSrc g microamps s
  | .extSrcEnd g microamps => Sys2Proof.Machine.execExtSrcEnd g microamps s
  | .sharedDoExchange g partnerOn partnerLoad low100ms => Sys2Proof.Machine.execSharedDoExchange g partnerOn partnerLoad low100ms s
  | .loopSampleDue n => Sys2Proof.Machine.execLoopSampleDue n s
  | .loopComputationCommit n time => Sys2Proof.Machine.execLoopComputationCommit n time s
  | .resetStates n => Sys2Proof.Machine.execResetStates n s
  | .loopClearStats n => Sys2Proof.Machine.execLoopClearStats n s
  | .clearSlice r => Sys2Proof.Machine.execClearSlice r s
  | .sliceLoadWindow r => Sys2Proof.Machine.execSliceLoadWindow r s
  | .generatorUpdate x ia ib tj => Sys2Proof.Machine.execGeneratorUpdate x ia ib tj s
  | .holdCurrentSwitch x => Sys2Proof.Machine.execHoldCurrentSwitch x s
  | .driverFault x phaseB cause => Sys2Proof.Machine.execDriverFault x phaseB cause s
  | .clearFault x => Sys2Proof.Machine.execClearFault x s
  | .axisClearStats x => Sys2Proof.Machine.execAxisClearStats x s
  | .encoderZEdge e => Sys2Proof.Machine.execEncoderZEdge e s
  | .safetyCycle r => Sys2Proof.Machine.execSafetyCycle r s
  | .safetyOutputSet r => Sys2Proof.Machine.execSafetyOutputSet r s
  | .sliceMessageSend r => Sys2Proof.Machine.execSliceMessageSend r s
  | .sliceMessageReceive r => Sys2Proof.Machine.execSliceMessageReceive r s
  | .sliceStopped r cause => Sys2Proof.Machine.execSliceStopped r cause s
  | .safeDiSample g millivolts => Sys2Proof.Machine.execSafeDiSample g millivolts s
  | .discrepancyTimeout r sf => Sys2Proof.Machine.execDiscrepancyTimeout r sf s
  | .outputTestStart sf sink => Sys2Proof.Machine.execOutputTestStart sf sink s
  | .outputTestEnd sf tenthMa => Sys2Proof.Machine.execOutputTestEnd sf tenthMa s
  | .startTestDone k okEven okOdd => Sys2Proof.Machine.execStartTestDone k okEven okOdd s
  | .safetyFrameReceive k bytes => Sys2Proof.Machine.execSafetyFrameReceive k bytes s
  | .sliceRestart session r => Sys2Proof.Machine.execSliceRestart session r s
  | .clearCounts r => Sys2Proof.Machine.execClearCounts r s
  | .canFrameReceived r id ide fd brs esi rtr data => Sys2Proof.Machine.execCanFrameReceived r id ide fd brs esi rtr data s
  | .transmitStart r => Sys2Proof.Machine.execTransmitStart r s
  | .transmitComplete r delay => Sys2Proof.Machine.execTransmitComplete r delay s
  | .transmitError r kind => Sys2Proof.Machine.execTransmitError r kind s
  | .busOffRecovery r => Sys2Proof.Machine.execBusOffRecovery r s
  | .portRestart r => Sys2Proof.Machine.execPortRestart r s
  | .portRejoin r => Sys2Proof.Machine.execPortRejoin r s
  | .portClearCounters r => Sys2Proof.Machine.execPortClearCounters r s
  | .periodicSendDue r j => Sys2Proof.Machine.execPeriodicSendDue r j s
  | .inhibitEnd r j => Sys2Proof.Machine.execInhibitEnd r j s
  | .stationOutRefresh r station => Sys2Proof.Machine.execStationOutRefresh r station s
  | .referenceMessage r id byte => Sys2Proof.Machine.execReferenceMessage r id byte s
  | .refTimeout r => Sys2Proof.Machine.execRefTimeout r s
  | .windowStart r col => Sys2Proof.Machine.execWindowStart r col s
  | .scheduleError r => Sys2Proof.Machine.execScheduleError r s
  | .offTheBus r => Sys2Proof.Machine.execOffTheBus r s
  | .heartbeat => Sys2Proof.Machine.execHeartbeat s
  | .laneFrameReceive lane crcOk kind words => Sys2Proof.Machine.execLaneFrameReceive lane crcOk kind words s
  | .laneFault lane => Sys2Proof.Machine.execLaneFault lane s
  | .laneReturn lane => Sys2Proof.Machine.execLaneReturn lane s
  | .partnerLost => Sys2Proof.Machine.execPartnerLost s
  | .ownedImageSend => Sys2Proof.Machine.execOwnedImageSend s
  | .negotiationFrame => Sys2Proof.Machine.execNegotiationFrame s
  | .negWaitTimeout => Sys2Proof.Machine.execNegWaitTimeout s
  | .leaseRenewal => Sys2Proof.Machine.execLeaseRenewal s
  | .leaseExpiry => Sys2Proof.Machine.execLeaseExpiry s
  | .yieldLease cycle swap => Sys2Proof.Machine.execYieldLease cycle swap s
  | .dualHoldingResolved partnerEpoch => Sys2Proof.Machine.execDualHoldingResolved partnerEpoch s
  | .mirrorRecord latched ended => Sys2Proof.Machine.execMirrorRecord latched ended s
  | .resyncComplete cycle words seqs loops axes => Sys2Proof.Machine.execResyncComplete cycle words seqs loops axes s
  | .swapLease session => Sys2Proof.Machine.execSwapLease session s
  | .handover session => Sys2Proof.Machine.execHandover session s
  | .handoverOrder epoch outs objs pubs => Sys2Proof.Machine.execHandoverOrder epoch outs objs pubs s
  | .resync session => Sys2Proof.Machine.execResync session s
  | .pairClearCounters => Sys2Proof.Machine.execPairClearCounters s
  | .shareRampEnd g => Sys2Proof.Machine.execShareRampEnd g s
  | .plugRead position words => Sys2Proof.Machine.execPlugRead position words s
  | .presenceFrame => Sys2Proof.Machine.execPresenceFrame s
  | .stationLinkLoss port speed full => Sys2Proof.Machine.execStationLinkLoss port speed full s
  | .prpSupervision => Sys2Proof.Machine.execPrpSupervision s
  | .ptpSync port domain sec ns corr => Sys2Proof.Machine.execPtpSync port domain sec ns corr s
  | .announceTimeout port => Sys2Proof.Machine.execAnnounceTimeout port s
  | .leapSecond => Sys2Proof.Machine.execLeapSecond s
  | .datagramReceive lan src tag trailer fragment payload => Sys2Proof.Machine.execDatagramReceive lan src tag trailer fragment payload s
  | .publicationSend pub => Sys2Proof.Machine.execPublicationSend pub s
  | .sessionOpen peer port seq rid role nc nm sid => Sys2Proof.Machine.execSessionOpen peer port seq rid role nc nm sid s
  | .proofRequest session rid mac => Sys2Proof.Machine.execProofRequest session rid mac s
  | .sessionClose session seq rid mac => Sys2Proof.Machine.execSessionClose session seq rid mac s
  | .keepalive session seq rid mac => Sys2Proof.Machine.execKeepalive session seq rid mac s
  | .readWords session seq rid addrs mac => Sys2Proof.Machine.execReadWords session seq rid addrs mac s
  | .writeWords session seq rid pairs mac => Sys2Proof.Machine.execWriteWords session seq rid pairs mac s
  | .setKey session seq rid target masked mac => Sys2Proof.Machine.execSetKey session seq rid target masked mac s
  | .keySlot session seq rid slot op key mac => Sys2Proof.Machine.execKeySlot session seq rid slot op key mac s
  | .fuse session seq rid mac => Sys2Proof.Machine.execFuse session seq rid mac s
  | .calset session seq rid stamp mac => Sys2Proof.Machine.execCalset session seq rid stamp mac s
  | .proofTimeout session => Sys2Proof.Machine.execProofTimeout session s
  | .sessionIdleTimeout session => Sys2Proof.Machine.execSessionIdleTimeout session s
  | .lockoutExpiry peer => Sys2Proof.Machine.execLockoutExpiry peer s
  | .stationClearCounters => Sys2Proof.Machine.execStationClearCounters s
  | .recordEntry source region late severity subject payload => Sys2Proof.Machine.execRecordEntry source region late severity subject payload s
  | .recordWrite count failedBlocks => Sys2Proof.Machine.execRecordWrite count failedBlocks s
  | .stripeEraseDone failedBlocks => Sys2Proof.Machine.execStripeEraseDone failedBlocks s
  | .releaseBand session band => Sys2Proof.Machine.execReleaseBand session band s
  | .releaseAllBands session => Sys2Proof.Machine.execReleaseAllBands session s
  | .windowOpen session window => Sys2Proof.Machine.execWindowOpen session window s
  | .windowNext session window bad => Sys2Proof.Machine.execWindowNext session window bad s
  | .windowSeek session window seq => Sys2Proof.Machine.execWindowSeek session window seq s
  | .windowClose session window => Sys2Proof.Machine.execWindowClose session window s
  | .windowIdleTimeout window => Sys2Proof.Machine.execWindowIdleTimeout window s
  | .pairSeqReport source ownSeq partnerSeq timedOut => Sys2Proof.Machine.execPairSeqReport source ownSeq partnerSeq timedOut s
  | .panelStart mem => Sys2Proof.Machine.execPanelStart mem s
  | .pnlEnAssert => Sys2Proof.Machine.execPnlEnAssert s
  | .railsQualified ok rail millivolts => Sys2Proof.Machine.execRailsQualified ok rail millivolts s
  | .clearWaveformEnd => Sys2Proof.Machine.execClearWaveformEnd s
  | .frameStart => Sys2Proof.Machine.execFrameStart s
  | .updateStart => Sys2Proof.Machine.execUpdateStart s
  | .updateEnd => Sys2Proof.Machine.execUpdateEnd s
  | .railFault rail millivolts => Sys2Proof.Machine.execRailFault rail millivolts s
  | .quench trigger => Sys2Proof.Machine.execQuench trigger s
  | .quenchFrameEnd => Sys2Proof.Machine.execQuenchFrameEnd s
  | .quenchComplete => Sys2Proof.Machine.execQuenchComplete s
  | .panelTempRead ok temp rails => Sys2Proof.Machine.execPanelTempRead ok temp rails s
  | .blinkToggle b => Sys2Proof.Machine.execBlinkToggle b s
  | .showCode => Sys2Proof.Machine.execShowCode s
  | .showCodeExpiry => Sys2Proof.Machine.execShowCodeExpiry s
  | .panelClear => Sys2Proof.Machine.execPanelClear s
  | .panelRestart => Sys2Proof.Machine.execPanelRestart s
  | .counterOverflow r j => Sys2Proof.Machine.execCounterOverflow r j s
  | .counterSample r j => Sys2Proof.Machine.execCounterSample r j s
  | .counterWindowEnd r => Sys2Proof.Machine.execCounterWindowEnd r s
  | .counterClear r => Sys2Proof.Machine.execCounterClear r s
  | .parameterWrite session addr value => Sys2Proof.Machine.execParameterWrite session addr value s
  | .verifyComplete => Sys2Proof.Machine.execVerifyComplete s
  | .thermalFoldbackEnd g stageTj => Sys2Proof.Machine.execThermalFoldbackEnd g stageTj s
  | .backFedEnd g => Sys2Proof.Machine.execBackFedEnd g s
  | .receiveError r eight => Sys2Proof.Machine.execReceiveError r eight s
  | .announceMessage port domain dataset utc leap61 leap59 interval => Sys2Proof.Machine.execAnnounceMessage port domain dataset utc leap61 leap59 interval s
  | .delayRespReceive port domain sec ns corr => Sys2Proof.Machine.execDelayRespReceive port domain sec ns corr s
  | .arpRequest lan senderMac senderIp targetIp => Sys2Proof.Machine.execArpRequest lan senderMac senderIp targetIp s
  | .echoRequest lan peer target ident number fragment data => Sys2Proof.Machine.execEchoRequest lan peer target ident number fragment data s
  | .railReturn => Sys2Proof.Machine.execRailReturn s

end Sys2Proof.Machine
end

