-- ==== Sys2Proof/Machine/Tick.lean ====
section
/-! DEFINITION. What time alone does: one tick of 1 µs, which the module takes when no command waits. Every event a chapter names
has a command of its own; a tick does what the spec gives at fixed times without one. -/

namespace Sys2Proof.Machine

/-- The calendar after one tick, while its clock runs (Table 2.2, R84): 1 µs corrected by rate_adj, whose unit of 0.001 ppm is 1 fs in 1 µs; an inserted leap second
ends with its second (R441, R442). -/
def Chip.calendarTick (c : Chip) : Chip :=
  if c.clkLost 0 1 || c.aonStopped then c else
  let fs := ((c.calFs : Int) + 10 ^ 9 + c.getS calAt Cal.rate_adj).toNat
  ({ c with calFs := fs }).when (c.flag calAt Cal.leap_now && fs / secFs % dayS == 0) (·.put calAt Cal.leap_now 0)

/-- beacon_ok holds while a beacon has arrived within the last 1,000 ticks (Table 1.6). -/
def Chip.beaconTick (c : Chip) : Chip :=
  c.each (c.regions.filter (fun r => c.flag (regionAt r) Region.beacon_ok
    && ((c.fabr r).beaconAt.map (fun t => decide (t + 1000 < c.now))).getD true)) (fun c r =>
      c.put (regionAt r) Region.beacon_ok 0)

/-- Every second the recorder reports the records written in it (Table 16.4). -/
def Chip.recorderTick (c : Chip) : Chip :=
  c.when (c.now % 1000000 == 0) (fun c => (c.put recdAt Recd.rate c.recd.wrote).setRec (fun r => { r with wrote := 0 }))

/-- Every 100 µs the holder mirrors its axes (Table 14.4). -/
def Chip.axisTick (c : Chip) : Chip :=
  c.when (c.now % 100 == 0 && c.mirrors) (fun c => c.each ((List.range 16).filter c.axUsed) (fun c x =>
    c.laneOne 7 (c.axisWords x)))

/-- One tick of the volatile part. In S0 the calendar alone runs. -/
def Chip.tickOnce (c : Chip) : Chip :=
  let c1 := ({ c with now := c.now + 1 }).calendarTick
  if c1.phase = 0 then c1
  else ((c1.crossNow.beaconTick.recorderTick).axisTick).when (c1.now % 10000 == 0) Chip.statusSync

/-- Blocks that wait for a cycle boundary return without one once the engine has stopped (R35). -/
def State.returnsTick (s : State) : State :=
  if s.chip.engineRuns then s
  else s.chip.sys.returns.foldl (fun s e => s.returnBlock e.1 e.2) (s.onChip (fun c => c.setSys (fun y => { y with returns := [] })))

/-- The step of a module no command waits for. -/
def State.idle (s : State) : State := ((s.onChip Chip.tickOnce).returnsTick).selectTick

end Sys2Proof.Machine
end

