-- ==== Sys2Proof/WellFormed.lean ====
section
/-! DEFINITION. What makes a command well-formed: the lengths of the lists it carries and the ranges of those numbers
whose types do not bound them. -/

namespace Sys2Proof

/-- Well-formedness of a command. -/
def Instr.wf (i : Instr) : Bool :=
  match i with
  | .cellCheckFailure _ _ _ => true
  | .blockFailure _ _ => true
  | .correctableEccError _ => true
  | .patrolScrubPass _ _ => true
  | .unfence _ _ => true
  | .blockSelfTestDone _ _ => true
  | .retrain _ => true
  | .regionClearCounters _ => true
  | .flitReceive _ _ kind _ body => kind != 0 || 4 ≤ body.1.length
  | .linkSilenceTimeout _ _ => true
  | .linkControlFlit _ _ => true
  | .linkRetrainAttempt _ _ _ => true
  | .beacon => true
  | .beaconReceive _ => true
  | .beaconAckReceive _ => true
  | .beaconGap _ => true
  | .beaconSilenceTimeout _ => true
  | .ackTimeout _ => true
  | .fenceOrder _ => true
  | .junctionTempUpdate _ _ _ => true
  | .clockLost _ _ _ => true
  | .clockReturn _ _ _ => true
  | .tbLossFence => true
  | .countTransfer _ _ => true
  | .countOverrun _ => true
  | .tongsResync _ _ _ _ => true
  | .clearCrossings _ => true
  | .lsInputStep _ _ _ => true
  | .lsLowHighStep _ _ _ => true
  | .powerFail _ _ => true
  | .gsStep _ _ _ _ => true
  | .gsOffQualified _ _ => true
  | .msStep _ _ _ => true
  | .supplyMeasurementUpdate _ _ _ _ _ _ gs ms => gs.length = 8 && ms.length = 8
  | .coreVoltageFault _ => true
  | .comparatorAssert _ => true
  | .comparatorClear _ => true
  | .scapExhausted => true
  | .dormant _ => true
  | .s1Qualified _ _ _ => true
  | .s2Enumerated _ _ _ _ cables => cables.length = 8
  | .s3SelfTestDone _ _ => true
  | .s4ImageChecked => true
  | .s5SurveyDone _ _ => true
  | .s6Negotiated => true
  | .s8Entry => true
  | .serviceRestart _ _ _ mac => mac.length = 16
  | .survey _ _ => true
  | .surveyComplete _ => true
  | .temper _ _ => true
  | .temperZeroDone _ => true
  | .temperGainDone _ => true
  | .temperComplete => true
  | .returnToService _ _ => true
  | .imageBegin _ => true
  | .eraseComplete => true
  | .chunkWrite _ _ _ _ data mac => mac.length = 16 && 1 ≤ data.length && data.length ≤ 1024
  | .imageVerify _ => true
  | .imageCommit _ _ => true
  | .imageSelect _ _ _ => true
  | .imageAbort _ => true
  | .transferTimeout => true
  | .cycleBoundary => true
  | .inputLatch => true
  | .executionComplete => true
  | .outputWrite => true
  | .watchdogFire => true
  | .onlineChangeArrival _ _ => true
  | .forceSet _ _ _ _ _ _ _ _ _ _ mac => mac.length = 16
  | .forceRelease _ _ _ _ mac => mac.length = 16
  | .releaseAll => true
  | .engineClearStats => true
  | .runAnd _ => true
  | .runOr _ => true
  | .runXor _ => true
  | .runNot _ => true
  | .runWand _ => true
  | .runWor _ => true
  | .runWxor _ => true
  | .runWnot _ => true
  | .runShift _ => true
  | .runBit _ => true
  | .runPack _ => true
  | .runUnpack _ => true
  | .runEq _ => true
  | .runNe _ => true
  | .runGt _ => true
  | .runGe _ => true
  | .runLt _ => true
  | .runLe _ => true
  | .runCmph _ => true
  | .runAdd _ => true
  | .runSub _ => true
  | .runMul _ => true
  | .runDiv _ => true
  | .runMod _ => true
  | .runAbs _ => true
  | .runNeg _ => true
  | .runMin _ => true
  | .runMax _ => true
  | .runSqrt _ => true
  | .runLn _ => true
  | .runExp _ => true
  | .runPow _ => true
  | .runPoly _ => true
  | .runSel _ => true
  | .runMux _ => true
  | .runLimit _ => true
  | .runMove _ => true
  | .runLag _ => true
  | .runRate _ => true
  | .runInteg _ => true
  | .runRamp _ => true
  | .runTon _ => true
  | .runTof _ => true
  | .runTp _ => true
  | .runRto _ => true
  | .runPgen _ => true
  | .runDebnc _ => true
  | .runBumpsw _ => true
  | .runCtu _ => true
  | .runCtd _ => true
  | .runCtud _ => true
  | .runCntd _ => true
  | .runRTrig _ => true
  | .runFTrig _ => true
  | .runSr _ => true
  | .runRs _ => true
  | .runEstamp _ => true
  | .runToggle _ => true
  | .runScale _ => true
  | .runScaleq _ => true
  | .runLintab _ => true
  | .runConv _ => true
  | .runCastUr _ => true
  | .runCastRu _ => true
  | .runCastUi _ => true
  | .runCastIu _ => true
  | .runStsplit _ => true
  | .runStmerge _ => true
  | .runCalsplit _ => true
  | .runChgrp _ => true
  | .runLoopsup _ => true
  | .runAlm _ => true
  | .runAxmove _ => true
  | .runAxhome _ => true
  | .runAxstop _ => true
  | .runAxgear _ => true
  | .runAxstat _ => true
  | .runCanfilt _ => true
  | .runCanobj _ => true
  | .runCansend _ => true
  | .runPortst _ => true
  | .runPortrst _ => true
  | .runPub _ => true
  | .runSubBlock _ => true
  | .runEvraise _ => true
  | .runPfield _ => true
  | .runPblink _ => true
  | .runPpage _ => true
  | .runPstat _ => true
  | .runPairst _ => true
  | .runSfst _ => true
  | .runParwr _ => true
  | .runParrd _ => true
  | .runPerf _ => true
  | .frontEndReconfigured _ => true
  | .modeSettled _ _ _ _ => true
  | .conversionResult _ _ _ _ => true
  | .cjSensorRead _ _ _ => true
  | .openTcCheck _ _ => true
  | .bellowsMeasurement _ _ => true
  | .complianceEntry _ _ => true
  | .complianceEnd _ _ => true
  | .openLoop _ _ _ => true
  | .thermalFoldback _ _ _ => true
  | .splitSourceMeasurement _ _ _ _ => true
  | .diSample _ _ => true
  | .cntGateEnd _ _ _ => true
  | .pwmPeriodEnd _ => true
  | .loadCurrentMeasurement _ _ _ => true
  | .switchTrip _ _ _ => true
  | .switchRetry _ => true
  | .backFed _ _ => true
  | .openLoad _ _ _ => true
  | .stuckOn _ _ => true
  | .extSrc _ _ => true
  | .extSrcEnd _ _ => true
  | .sharedDoExchange _ _ _ _ => true
  | .loopSampleDue _ => true
  | .loopComputationCommit _ _ => true
  | .resetStates _ => true
  | .loopClearStats _ => true
  | .clearSlice _ => true
  | .sliceLoadWindow _ => true
  | .generatorUpdate _ _ _ _ => true
  | .holdCurrentSwitch _ => true
  | .driverFault _ _ _ => true
  | .clearFault _ => true
  | .axisClearStats _ => true
  | .encoderZEdge _ => true
  | .safetyCycle _ => true
  | .safetyOutputSet _ => true
  | .sliceMessageSend _ => true
  | .sliceMessageReceive _ => true
  | .sliceStopped _ cause => cause.val != 0
  | .safeDiSample _ _ => true
  | .discrepancyTimeout _ _ => true
  | .outputTestStart _ _ => true
  | .outputTestEnd _ _ => true
  | .startTestDone _ _ _ => true
  | .safetyFrameReceive _ bytes => bytes.length ≤ 1500
  | .sliceRestart _ _ => true
  | .clearCounts _ => true
  | .canFrameReceived _ id ide fd brs _ rtr data => (if fd then [0, 1, 2, 3, 4, 5, 6, 7, 8, 12, 16, 20, 24, 32, 48, 64].contains data.length else decide (data.length ≤ 8)) && (!brs || fd) && !(rtr && fd) && (ide || decide (id.toNat < 2048))
  | .transmitStart _ => true
  | .transmitComplete _ _ => true
  | .transmitError _ _ => true
  | .busOffRecovery _ => true
  | .portRestart _ => true
  | .portRejoin _ => true
  | .portClearCounters _ => true
  | .periodicSendDue _ _ => true
  | .inhibitEnd _ _ => true
  | .stationOutRefresh _ _ => true
  | .referenceMessage _ _ _ => true
  | .refTimeout _ => true
  | .windowStart _ _ => true
  | .scheduleError _ => true
  | .offTheBus _ => true
  | .heartbeat => true
  | .laneFrameReceive _ _ _ _ => true
  | .laneFault _ => true
  | .laneReturn _ => true
  | .partnerLost => true
  | .ownedImageSend => true
  | .negotiationFrame => true
  | .negWaitTimeout => true
  | .leaseRenewal => true
  | .leaseExpiry => true
  | .yieldLease _ _ => true
  | .dualHoldingResolved _ => true
  | .mirrorRecord _ _ => true
  | .resyncComplete _ _ _ _ _ => true
  | .swapLease _ => true
  | .handover _ => true
  | .handoverOrder _ _ _ _ => true
  | .resync _ => true
  | .pairClearCounters => true
  | .shareRampEnd _ => true
  | .plugRead _ words => words.length = 9
  | .presenceFrame => true
  | .stationLinkLoss _ _ _ => true
  | .prpSupervision => true
  | .ptpSync _ _ _ _ _ => true
  | .announceTimeout _ => true
  | .leapSecond => true
  | .datagramReceive _ _ _ _ _ payload => payload.length ≤ 1472
  | .publicationSend _ => true
  | .sessionOpen _ _ _ _ _ nc nm _ => nc.length = 16 && nm.length = 16
  | .proofRequest _ _ mac => mac.length = 16
  | .sessionClose _ _ _ mac => mac.length = 16
  | .keepalive _ _ _ mac => mac.length = 16
  | .readWords _ _ _ addrs mac => mac.length = 16 && 1 ≤ addrs.length && addrs.length ≤ 64
  | .writeWords _ _ _ pairs mac => mac.length = 16 && 1 ≤ pairs.length && pairs.length ≤ 16
  | .setKey _ _ _ _ masked mac => mac.length = 16 && masked.length = 32
  | .keySlot _ _ _ _ _ key mac => mac.length = 16 && key.length = 32
  | .fuse _ _ _ mac => mac.length = 16
  | .calset _ _ _ _ mac => mac.length = 16
  | .proofTimeout _ => true
  | .sessionIdleTimeout _ => true
  | .lockoutExpiry _ => true
  | .stationClearCounters => true
  | .recordEntry _ _ _ _ _ payload => payload.length ≤ 32
  | .recordWrite _ _ => true
  | .stripeEraseDone _ => true
  | .releaseBand _ _ => true
  | .releaseAllBands _ => true
  | .windowOpen _ _ => true
  | .windowNext _ _ _ => true
  | .windowSeek _ _ _ => true
  | .windowClose _ _ => true
  | .windowIdleTimeout _ => true
  | .pairSeqReport _ _ _ _ => true
  | .panelStart mem => mem.length = 0 || mem.length = 128
  | .pnlEnAssert => true
  | .railsQualified _ _ _ => true
  | .clearWaveformEnd => true
  | .frameStart => true
  | .updateStart => true
  | .updateEnd => true
  | .railFault _ _ => true
  | .quench trigger => trigger.val != 0
  | .quenchFrameEnd => true
  | .quenchComplete => true
  | .panelTempRead _ _ rails => rails.length = 4
  | .blinkToggle _ => true
  | .showCode => true
  | .showCodeExpiry => true
  | .panelClear => true
  | .panelRestart => true
  | .counterOverflow _ _ => true
  | .counterSample _ _ => true
  | .counterWindowEnd _ => true
  | .counterClear _ => true
  | .parameterWrite _ _ _ => true
  | .verifyComplete => true
  | .thermalFoldbackEnd _ _ => true
  | .backFedEnd _ => true
  | .receiveError _ _ => true
  | .announceMessage _ _ dataset _ _ _ _ => dataset.length = 16
  | .delayRespReceive _ _ _ _ _ => true
  | .arpRequest _ _ _ _ => true
  | .echoRequest _ _ _ _ _ _ data => data.length ≤ 1472
  | .railReturn => true

end Sys2Proof
end

