-- ==== Sys2Proof/Safety.lean ====
section
/-! DEFINITION. What counts as a safe run, in the terms the statements use: a command that completes, a NOR in canonical form,
and the changes of one-time-programmable memory that the spec allows. -/

namespace Sys2Proof.Machine

/-- Does an outcome go on? -/
def Completes (o : Out) : Prop := ∃ t : State, o = .next t

/-- Every parameter word outside a set of addresses reads as before. -/
def WordsKept (touched : Nat → Prop) (s t : State) : Prop := ∀ a, ¬ touched a → t.chip.word a = s.chip.word a

/-- Nothing but the volatile part changes: the queue and every non-volatile store are as before. -/
def StoresKept (s t : State) : Prop := t.pending = s.pending ∧ t.flash = s.flash

/-- The words a record may change: the recorder's counts and its band table, all in space 0xA (R529). -/
def recorderWord (a : Nat) : Prop := spaceOf a = 10

/-- The words of the counter blocks, which may count a frame, flit or access that passes (R501). -/
def counterWord (a : Nat) : Prop := spaceOf a < 8 ∧ blockOf a = 0x070

/-- The words of channel g. -/
def chanWord (g a : Nat) : Prop := spaceOf a = g / 16 ∧ blockOf a = 0x010 + g % 16

/-- The frames that carry some content on the network: one for each station port that is up, with its tag and its trailer (R435, R436). -/
def Chip.onStations (c : Chip) (kind : Nat) (content : List Nat) : List Emit :=
  ((List.range 2).filter c.stationUp).map (fun p => .net kind (c.netFrame p content))

/-- The sizes of the machine's fixed stores: channels, loops, slices, axes, ports, counter blocks, regions of the fabric and the
links of each, isles, safety functions, producers, sessions, PTP ports and the per-region lists of the module's conditions. -/
def Chip.shape (c : Chip) : List Nat :=
  [c.chans.length, c.loops.length, c.slices.length, c.axes.length, c.ports.length, c.ctrs.length, c.fab.length,
    c.safe.slices.length, c.safe.sfs.length, c.safe.prods.length, c.net.sess.length, c.net.ptp.length, c.sys.testing.length,
    c.sys.gs.length, c.sys.cj.length, c.sys.clkLost.length, c.panel.blink.length, c.aon.cmp.length,
    c.recd.winAt.length, c.sys.encs.length]

/-- The sizes a part of this kind has: they are those of the machine at reset. -/
abbrev Shaped (s : State) : Prop := s.chip.shape = State.reset.chip.shape

/-- What a step puts out is the answer to a request of session i: its type, sequence, identity and body, under the session's key, to
the session's client (R448, R450). -/
def Answered (s t : State) (i typ seq rid : Nat) (body : List Nat) : Prop :=
  t.chip.emitted = s.chip.emitted ++ s.chip.onStations 2 (leBytes 4 (s.chip.getI sessAt Sess.peer i) ++
    beBytes 2 (s.chip.getI sessAt Sess.port i) ++
    svcMessage (s.chip.sess i).key typ (s.chip.getI sessAt Sess.sid i) seq rid body)

/-- The invocation with number q, of the block type b with type code t, is placed and may run: the engine is in its execution
phase, the invocation has not run in this cycle, and what it reads from lower numbers has (R151, R154). Its instance lies in the
instance words of one of the eight regions (R149). -/
structure Ready (s : State) (b : Blk) (q : Nat) (i : Inv) (t : Nat) : Prop where
  placed : s.chip.inv q = some i
  runs : s.chip.mayRun i b = some t
  known : sigOf i.code i.ins.length i.outs.length = some i.sig
  region : i.region < 8
  fits : i.off + i.sig.words ≤ 12 * 2 ^ 16

/-- The words that a commit may change: the state words and outputs of the instance, and the words of counter blocks, which may
count the accesses of the invocation (R501). -/
def commitWord (i : Inv) (a : Nat) : Prop :=
  (instAt i.region (i.off + i.sig.p) ≤ a ∧ a < instAt i.region (i.off + i.sig.words)) ∨ counterWord a

/-- The invocation i ran from s to t: its outputs and state words take the given values, each as its type keeps it; it is marked
as run in this cycle and its previous outputs are held for consumers with lower numbers; it asks the output write for the
given acts; an unforced channel output bound to it takes the value. Nothing else changes. -/
structure Ran (s t : State) (i : Inv) (st outs : List Nat) (asks : List Ask) : Prop where
  outputs : t.chip.instOuts i = List.zipWith tyNorm i.sig.outs outs
  count : outs.length = i.sig.outs.length
  state : (List.range i.sig.s).map (fun k => t.chip.instWord i (i.sig.p + k)) = (st.take i.sig.s).map (· % 2 ^ 32)
  done : t.chip.eng.done = i.seq :: s.chip.eng.done
  saved : t.chip.eng.saved = (i.seq, s.chip.instOuts i) :: s.chip.eng.saved
  asked : t.chip.eng.reqs = asks.map (fun a => (i.seq, a)) ++ s.chip.eng.reqs
  bound : ∀ (k v : Nat) (b : Bind), i.outs[k]? = some b → outs[k]? = some v → b.kind = 0x05 →
    s.chip.forceOf 3 i.region k i.seq = none →
    (∀ (j : Nat) (b' : Bind), i.outs[j]? = some b' → b'.kind = 0x05 → 16 * b'.region + b'.ref % 16 = 16 * b.region + b.ref % 16 →
      j = k) → assoc t.chip.eng.chOut (16 * b.region + b.ref % 16) = some (b.ty, v)
  words : WordsKept (commitWord i) s t
  frame : t = { s with chip := { s.chip with
    regs := t.chip.regs, ctrs := t.chip.ctrs, freeCtr := t.chip.freeCtr, eng := { s.chip.eng with
      done := t.chip.eng.done, saved := t.chip.eng.saved, mirReads := t.chip.eng.mirReads, commitAt := t.chip.eng.commitAt
      chOut := t.chip.eng.chOut, stOut := t.chip.eng.stOut, reqs := t.chip.eng.reqs } } }

/-- A command that runs invocations of block type b completes on every ready one whose parameters meet `ok`, with the state words,
the outputs and the requests that three functions of what the evaluation sees give. -/
def RunsWith (b : Blk) (cmd : Fin 65536 → Instr) (ok : Ctx → Prop) (st outs : Chip → Inv → Ctx → List Nat)
    (asks : Chip → Inv → Ctx → List Ask) : Prop :=
  ∀ (s : State) (q : Fin 65536) (i : Inv) (ty : Nat), Ready s b q.val i ty → ok (s.chip.ctx i ty) →
    ∃ t, exec (cmd q) s = .next t ∧ Ran s t i (st s.chip i (s.chip.ctx i ty)) (outs s.chip i (s.chip.ctx i ty))
      (asks s.chip i (s.chip.ctx i ty))

/-- A block whose state words and outputs are functions of its instance and its inputs, and that asks for nothing. -/
def Runs (b : Blk) (cmd : Fin 65536 → Instr) (st outs : Ctx → List Nat) : Prop :=
  RunsWith b cmd (fun _ => True) (fun _ _ x => st x) (fun _ _ x => outs x) (fun _ _ _ => [])

/-- Such a block without state words. -/
def Gives (b : Blk) (cmd : Fin 65536 → Instr) (outs : Ctx → List Nat) : Prop := Runs b cmd (fun _ => []) outs

/-- A block without state words whose outputs are what the module showed at the input latch (R190). -/
def Shows (b : Blk) (cmd : Fin 65536 → Instr) (outs : Chip → Inv → Ctx → List Nat) : Prop :=
  RunsWith b cmd (fun _ => True) (fun _ _ _ => []) outs (fun _ _ _ => [])

/-- A block of REAL32 or integer operands with outputs q and x: over REAL32 the result under R187, over integers a pair of a
pattern and whether it is out of range (Table 7.3). -/
def Computes (b : Blk) (cmd : Fin 65536 → Instr) (nan : Ctx → Bool) (onReal : Ctx → Nat) (onInt : Ctx → Int × Bool) : Prop :=
  Gives b cmd (fun x =>
    if x.t = 4 then
      (if nan x = true ∨ rBad (onReal x) = true then [x.o 0, 1] else [rFlush (onReal x), 0])
    else [satEnc x.t (onInt x).1, if (onInt x).2 = true then 1 else 0])

/-- A comparison: over REAL32 false with a NaN operand (R193), over other types on the values themselves. -/
def Compares (b : Blk) (cmd : Fin 65536 → Instr) (onReal : Nat → Nat → Bool) (onInt : Int → Int → Prop)
    [∀ a b, Decidable (onInt a b)] : Prop :=
  Gives b cmd (fun x =>
    if x.t = 4 then (if rNaN (x.i 0) = true ∨ rNaN (x.i 1) = true then [0] else [if onReal (x.r 0) (x.r 1) = true then 1 else 0])
    else [if onInt (intOf x.t (x.i 0)) (intOf x.t (x.i 1)) then 1 else 0])

/-- Is there a rising edge of BOOL input k against the state word w that holds its previous value? -/
abbrev Ctx.rise (x : Ctx) (k w : Nat) : Prop := x.i k ≠ 0 ∧ x.w w = 0

/-- A REAL32 value output under R187: NaN or an infinity, or a result of NaN inputs, leaves the previous value. -/
def keepBad (nan : Bool) (old r : Nat) : Nat := if nan = true ∨ rBad r = true then old else rFlush r

/-- The NOR is a list of (address, byte) pairs in canonical form: addresses strictly rise, no byte is an erased one. -/
def Memory.wf (m : List Host.Cell) : Bool := Sparse.wf norErased m

/-- A key slot may stay as it is, be written when empty, or be revoked when active with its key kept (R135). -/
def slotMoves (old new : Nat × List Nat) : Bool :=
  old == new || (old.1 == 0 && new.1 == 1) || (old.1 == 1 && new.1 == 2 && new.2 == old.2)

/-- Every key slot moves as R135 allows, and none comes or goes. -/
def slotsMove : List (Nat × List Nat) → List (Nat × List Nat) → Bool
  | [], [] => true
  | a :: as, b :: bs => slotMoves a b && slotsMove as bs
  | _, _ => false

/-- From one state to the next the one-time-programmable memory changes as R135 and R456 allow: key slots only move on, and a
fuse once set stays set. -/
def Flash.oneWay (f g : Flash) : Bool := slotsMove f.keys g.keys && (!f.fuse || g.fuse)

end Sys2Proof.Machine
end

