-- ==== Sys2Proof/Certificates/Slice0/Obligations.lean ====
section
/-! DEFINITION. The statements: what each command of the block does, what it leaves, and the invariants of the machine. -/

open Sys2Proof Sys2Proof.Machine

/-- The commands of a region's command word (R35, R41, R54, R70, Table 1.6), in a region that is not closed by a fence: clear-counters
sets the fields of words 2 and 4 to 9 to zero, retrain lets every down link train at once, unfence begins the self-test of a fenced
block and resets the tongs the block holds; each answers in last_cmd and result. That unfence runs in S8 alone is the model's
choice (log entry 107). -/
def Obligations.RegionCommandWord : Prop :=
  ∀ (r : Fin 8) (s : State), s.chip.get (regionAt r) Region.result ≠ 1 → s.chip.regionClosed r = false →
    (∃ t, exec (.regionClearCounters r) s = .next t ∧
      t.chip.nat (regionAt r + 2) = 0 ∧ (∀ k < 6, t.chip.nat (regionAt r + 4 + k) = 0) ∧
      t.chip.get (regionAt r) Region.last_cmd = 2 ∧ t.chip.get (regionAt r) Region.result = 2 ∧
      t = { s with chip := { s.chip with regs := t.chip.regs } } ∧
      WordsKept (fun a => a = regionAt r + 2 ∨ (regionAt r + 4 ≤ a ∧ a < regionAt r + 10) ∨ a = regionAt r + 15) s t) ∧
    (∃ t, exec (.retrain r) s = .next t ∧
      (∀ k, (t.chip.link r k).downAt = 0 ∧ (t.chip.link r k).rxSeq = (s.chip.link r k).rxSeq) ∧
      t.chip.get (regionAt r) Region.last_cmd = 1 ∧ t.chip.get (regionAt r) Region.result = 2 ∧
      t = { s with chip := { s.chip with regs := t.chip.regs, fab := t.chip.fab } } ∧
      WordsKept (fun a => a = regionAt r + 15) s t) ∧
    (∀ block : Fin 16, s.chip.getBit (regionAt r) Region.fenced block = true → (block.val ≤ 12 ∨ r.val ≤ 1) →
      block ≠ 12 → (r ≠ 0 ∨ block ≠ 11) → s.chip.phase = 8 → Shaped s →
      ∃ t, exec (.unfence r block) s = .next t ∧
        t.chip.get (regionAt r) Region.last_cmd = 0 ∧ t.chip.get (regionAt r) Region.result = 1 ∧
        nth none t.chip.sys.testing r = some (block.val, false) ∧
        (∀ k ∈ blockTongs r block, t.chip.tongsWait k = true) ∧
        StoresKept s t ∧ WordsKept (fun a => a = regionAt r + 15 ∨ (regionAt r + 17 ≤ a ∧ a < regionAt r + 25)) s t)

/-- Memory errors and cell reports of a region (R28, R30 to R32, R34, R35, R533): a cell check that passes on repetition counts one
retry, a correctable error counts one in ecc_corrected, a patrol pass is counted and reported; a report that fails again and an
uncorrectable error are block failures, which set the block's failed bit and are kept for the rule of 10 s; a second one within
10 s fences the block. A self-test that fails leaves the block fenced with result 4; one that passes returns the block, at the
next cycle boundary while the engine runs its cycles. -/
def Obligations.RegionMemoryErrors : Prop :=
  ∀ (r : Fin 8) (s : State), s.chip.fitted r = true →
    (∀ block, ∃ t, exec (.cellCheckFailure r block true) s = .next t ∧
      t.chip.get (regionAt r) Region.retries = min (s.chip.get (regionAt r) Region.retries + 1) (2 ^ 32 - 1) ∧
      t = { s with chip := { s.chip with regs := t.chip.regs } } ∧ WordsKept (fun a => a = regionAt r + 9) s t) ∧
    (∃ t, exec (.correctableEccError r) s = .next t ∧
      t.chip.get (regionAt r) Region.ecc_corrected = min (s.chip.get (regionAt r) Region.ecc_corrected + 1) 65535 ∧
      t.chip.get (regionAt r) Region.ecc_uncorrected = s.chip.get (regionAt r) Region.ecc_uncorrected ∧
      t = { s with chip := { s.chip with regs := t.chip.regs } } ∧ WordsKept (fun a => a = regionAt r + 8) s t) ∧
    (∀ corrected, s.chip.flag (stewAt r) Stew.running = true → s.chip.phase = 8 →
      ∃ t, exec (.patrolScrubPass r corrected) s = .next t ∧
        t.chip.get (stewAt r) Stew.scrub_passes = min (s.chip.get (stewAt r) Stew.scrub_passes + 1) Stew.scrub_passes.top ∧
        t.chip.get (stewAt r) Stew.scrub_corrected = corrected.toNat ∧
        t = { s with chip := { s.chip with regs := t.chip.regs, recd := t.chip.recd } } ∧
        WordsKept (fun a => (stewAt r ≤ a ∧ a < stewAt r + 65536) ∨ recorderWord a) s t) ∧
    (∀ block : Fin 16, blockExists r block = true → 2 ≤ s.chip.phase → s.chip.regionFenced r = false →
      s.chip.blockFenced r block = false → nth none s.chip.sys.testing r = none → (s.chip.fabr r).failAt.length = 16 → Shaped s →
      (nth none (s.chip.fabr r).failAt block = none →
        (∃ t, exec (.blockFailure r block) s = .next t ∧
          t.chip.getBit (regionAt r) Region.failed block = true ∧ t.chip.blockFenced r block = false ∧
          t.chip.get (regionAt r) Region.ecc_uncorrected = min (s.chip.get (regionAt r) Region.ecc_uncorrected + 1) 65535 ∧
          nth none (t.chip.fabr r).failAt block = some s.chip.now ∧ StoresKept s t) ∧
        (∃ t, exec (.cellCheckFailure r block false) s = .next t ∧
          t.chip.getBit (regionAt r) Region.failed block = true ∧ t.chip.blockFenced r block = false ∧
          nth none (t.chip.fabr r).failAt block = some s.chip.now ∧ StoresKept s t)) ∧
      (∀ t0, nth none (s.chip.fabr r).failAt block = some t0 → s.chip.now - t0 ≤ 10000000 →
        ∃ t, exec (.blockFailure r block) s = .next t ∧ t.chip.blockFenced r block = true ∧
          t.chip.get statusAt Status.block_fence_seen = 1)) ∧
    (∀ i, nth none s.chip.sys.testing r = some (i, false) → Shaped s →
      (∃ t, exec (.blockSelfTestDone r false) s = .next t ∧ t.chip.get (regionAt r) Region.result = 4 ∧
        nth none t.chip.sys.testing r = none ∧ WordsKept (fun a => a = regionAt r + 15) s t) ∧
      (s.chip.engineRuns = true → ∃ t, exec (.blockSelfTestDone r true) s = .next t ∧
        t.chip.sys.returns = s.chip.sys.returns ++ [(r.val, i)] ∧ nth none t.chip.sys.testing r = none ∧
        WordsKept (fun _ => False) s t) ∧
      (s.chip.engineRuns = false → i < 16 → ∃ t, exec (.blockSelfTestDone r true) s = .next t ∧
        t.chip.blockFenced r i = false ∧ t.chip.get (regionAt r) Region.result = 2 ∧ nth none t.chip.sys.testing r = none))

/-- Flits on the die-to-die links (R38 to R41, R43): a flit that fails its CRC-16 counts and asks for replay, and where it is the flit
expected next, its ninth failure takes the link down; a good one restarts the silence time; a data flit out of sequence is not
taken, one in sequence is taken where there is room and, at its destination, delivered in order; a control flit acknowledges;
silence takes the link down; every tenth tick sends a control flit; a training that succeeds brings the link up. What the CRC is
taken over, that a replay is asked for again with each control flit until its flit comes, and that the numbers of a link start at 0
again when it trains are the model's choices (log entry 108). -/
def Obligations.LinkFlits : Prop :=
  ∀ (r : Fin 8) (k : Fin 4) (s : State), s.chip.fitted r = true → Shaped s → (s.chip.fabr r).links.length = 4 →
    (s.chip.getBit (regionAt r) Region.link_up k = true →
      (∀ (kind : Fin 3) (number : BitVec 32) (ws : List (BitVec 32)) (crc : BitVec 16),
        flitCrc kind number.toNat (ws.map (·.toNat)) ≠ crc.toNat →
        (∀ n, n = (s.chip.link r k).fails + (if kind = 0 ∧ number.toNat = (s.chip.link r k).rxSeq then 1 else 0) →
          (n < 9 → ∃ t, exec (.flitReceive r k kind number (ws, crc)) s = .next t ∧
            t.chip.getI (regionAt r) Region.crc_errors k = min (s.chip.getI (regionAt r) Region.crc_errors k + 1) 65535 ∧
            t.chip.getI (regionAt r) Region.replays k = min (s.chip.getI (regionAt r) Region.replays k + 1) 65535 ∧
            (t.chip.link r k).fails = n ∧ (t.chip.link r k).rxSeq = (s.chip.link r k).rxSeq ∧
            t.chip.emitted = s.chip.emitted ++
              [.flit r k 2 [(s.chip.link r k).rxSeq, flitCrc 2 (s.chip.link r k).rxSeq []]] ∧
            WordsKept (fun a => a = regionAt r + 4 + k ∨ counterWord a) s t) ∧
          (9 ≤ n → ∃ t, exec (.flitReceive r k kind number (ws, crc)) s = .next t ∧
            (t.chip.link r k).downAt = s.chip.now ∧ t.chip.getBit (regionAt r) Region.link_up k = false ∧ StoresKept s t))) ∧
      (∀ (number : BitVec 32) (ws : List (BitVec 32)) (crc : BitVec 16),
        flitCrc 0 number.toNat (ws.map (·.toNat)) = crc.toNat →
        (number.toNat ≠ (s.chip.link r k).rxSeq → ∃ t, exec (.flitReceive r k 0 number (ws, crc)) s = .next t ∧
          (t.chip.link r k).goodAt = s.chip.now ∧ (t.chip.link r k).rxSeq = (s.chip.link r k).rxSeq ∧
          (t.chip.fabr r).inbox = (s.chip.fabr r).inbox) ∧
        (number.toNat = (s.chip.link r k).rxSeq → (ws.map (·.toNat)).head? = some r.val →
          ∃ t, exec (.flitReceive r k 0 number (ws, crc)) s = .next t ∧ (t.chip.link r k).goodAt = s.chip.now ∧
            (t.chip.link r k).fails = 0 ∧ (t.chip.link r k).rxSeq = (s.chip.link r k).rxSeq + 1 ∧
            (t.chip.fabr r).inbox = ((s.chip.fabr r).deliver (ws.map (·.toNat))).inbox ∧ t.chip.emitted = s.chip.emitted)) ∧
      (∀ (number : BitVec 32) (crc : BitVec 16), flitCrc 1 number.toNat [] = crc.toNat →
        ∃ t, exec (.flitReceive r k 1 number ([], crc)) s = .next t ∧ (t.chip.link r k).goodAt = s.chip.now ∧
          (t.chip.link r k).unacked = (s.chip.link r k).unacked.filter (fun f => number.toNat ≤ f.1)) ∧
      ((s.chip.link r k).goodAt + 100 ≤ s.chip.now → ∃ t, exec (.linkSilenceTimeout r k) s = .next t ∧
        (t.chip.link r k).downAt = s.chip.now ∧ (t.chip.link r k).fails = 0 ∧
        t.chip.getBit (regionAt r) Region.link_up k = false ∧ StoresKept s t) ∧
      (s.chip.now % 10 = 0 → ∃ t, exec (.linkControlFlit r k) s = .next t ∧
        t.chip.emitted = s.chip.emitted ++ [.flit r k 1 [(s.chip.link r k).rxSeq, flitCrc 1 (s.chip.link r k).rxSeq []]] ++
          (if (s.chip.link r k).again = true then [.flit r k 2 [(s.chip.link r k).rxSeq, flitCrc 2 (s.chip.link r k).rxSeq []]]
            else []) ∧
        t.chip.fab = s.chip.fab ∧ WordsKept counterWord s t)) ∧
    (s.chip.getBit (regionAt r) Region.link_up k = false → s.chip.getBit (regionAt r) Region.link_latched k = false →
      s.chip.panel.s2At ≠ none → (s.chip.link r k).downAt + 10000 ≤ s.chip.now →
      (∃ t, exec (.linkRetrainAttempt r k true) s = .next t ∧ (t.chip.link r k).rxSeq = 0 ∧
        (t.chip.link r k).goodAt = s.chip.now ∧ t.chip.getBit (regionAt r) Region.link_up k = true ∧ StoresKept s t) ∧
      (∃ t, exec (.linkRetrainAttempt r k false) s = .next t ∧ (t.chip.link r k).downAt = s.chip.now ∧
        (t.chip.link r k).failRec = true ∧ WordsKept recorderWord s t))

/-- Beacons and the regions' reports (R45, R46, R51, R54): every 250 ticks from the end of S2 the lead sends a beacon and starts to
count the region's silence; a beacon received restarts the region's silence time and sets beacon_ok; an acknowledgement restarts the
lead's; 1,000 ticks without one are a gap; the junction temperature and pace are reported as given, and 125 °C is a module-level
fault, raised once until it has fallen below. -/
def Obligations.BeaconsAndReports : Prop :=
  ∀ (r : Fin 8) (s : State), s.chip.fitted r = true → Shaped s → s.chip.regionClosed r = false →
    (∀ t0, s.chip.panel.s2At = some t0 → s.chip.regionFenced 0 = false → (s.chip.now - t0) % 250 = 0 →
      ∃ t, exec .beacon s = .next t ∧
        (t.chip.fabr r).ackAt = some ((s.chip.fabr r).ackAt.getD s.chip.now) ∧ StoresKept s t) ∧
    (s.chip.panel.s2At ≠ none → ∃ t, exec (.beaconReceive r) s = .next t ∧
      (t.chip.fabr r).beaconAt = some s.chip.now ∧ t.chip.get (regionAt r) Region.beacon_ok = 1 ∧ StoresKept s t) ∧
    ((s.chip.fabr r).ackAt ≠ none → ∃ t, exec (.beaconAckReceive r) s = .next t ∧
      (t.chip.fabr r).ackAt = some s.chip.now ∧ (t.chip.fabr r).gap = false ∧
      t = { s with chip := { s.chip with fab := t.chip.fab } } ∧ ∀ q, q ≠ r.val → t.chip.fabr q = s.chip.fabr q) ∧
    (∀ t0, (s.chip.fabr r).ackAt = some t0 → t0 + 1000 ≤ s.chip.now → s.chip.regionFenced 0 = false →
      (s.chip.fabr r).gap = false → ∃ t, exec (.beaconGap r) s = .next t ∧ (t.chip.fabr r).gap = true ∧
        (t.chip.fabr r).ackAt = some t0 ∧ WordsKept recorderWord s t) ∧
    (∀ (tj : BitVec 16) (pace : BitVec 32), signed 16 tj.toNat < 1680 → ∃ t, exec (.junctionTempUpdate r tj pace) s = .next t ∧
      t.chip.get (regionAt r) Region.tj = tj.toNat ∧ t.chip.get (regionAt r) Region.pace = pace.toNat ∧
      WordsKept (fun a => a = regionAt r + 10 ∨ a = regionAt r + 11) s t) ∧
    (∀ (tj : BitVec 16) (pace : BitVec 32), 2000 ≤ signed 16 tj.toNat → 2 ≤ s.chip.phase → (s.chip.fabr r).scorched = false →
      ∃ t, exec (.junctionTempUpdate r tj pace) s = .next t ∧
        t.chip.sys.faultCause = if s.chip.sys.faultCause = 0 then 5 else s.chip.sys.faultCause)

/-- Region fences (R46 to R50, Table 1.4): 2,000 ticks without a beacon put the region into region fence; after 2,000 ticks without an
acknowledgement the lead declares it fenced, and the region is where the order has a path to it; a fence order fences it. None of
the three undoes a fence. -/
def Obligations.RegionFences : Prop :=
  ∀ (r : Fin 8) (s : State), s.chip.fitted r = true →
    (∀ t0, (s.chip.fabr r).beaconAt = some t0 → t0 + 2000 ≤ s.chip.now →
      ∃ t, exec (.beaconSilenceTimeout r) s = .next t ∧ t.chip.regionFenced r = true ∧
        ∀ q, s.chip.regionFenced q = true → t.chip.regionFenced q = true) ∧
    (∀ t0, (s.chip.fabr r).ackAt = some t0 → t0 + 2000 ≤ s.chip.now → s.chip.regionFenced 0 = false →
      s.chip.sys.declared.testBit r = false →
      ∃ t, exec (.ackTimeout r) s = .next t ∧ t.chip.sys.declared.testBit r = true ∧
        (r = 0 ∨ s.chip.routeTo 0 r ≠ none → t.chip.regionFenced r = true) ∧
        ∀ q, s.chip.regionFenced q = true → t.chip.regionFenced q = true) ∧
    (s.chip.panel.s2At ≠ none → ∃ t, exec (.fenceOrder r) s = .next t ∧ t.chip.regionFenced r = true ∧
      ∀ q, s.chip.regionFenced q = true → t.chip.regionFenced q = true)

/-- Domain clocks and count tongs (R58, R66, R67, R70, R71, R74, R332): losing a domain clock and its return mark exactly that domain of
that region; a Gray count that crosses adds its difference modulo 2^16 to the channel's total, a signed difference to an encoder's;
an overrun is latched for the next difference; a resynchronisation counts itself and what it discards and restarts a count tongs at
zero. That the news of an illegal transition comes with the encoder's count is the model's choice (log entry 128). -/
def Obligations.ClocksAndCountTongs : Prop :=
  ∀ s : State, Shaped s →
    (∀ (r d : Fin 8) (hz : BitVec 32), s.chip.usesDomain r d = true → d ≠ 0 → s.chip.clkLost r d = false → 2 ≤ s.chip.phase →
      (hz = 0 ∨ s.chip.hzWithin r d hz.toNat 10 = false) →
      ∃ t, exec (.clockLost r d hz) s = .next t ∧ t.chip.clkLost r d = true ∧
        t.chip.getBit (regionAt r) Cross.clock_lost d = true ∧
        ∀ r' d', (r' ≠ r.val ∨ d' ≠ d.val) → t.chip.clkLost r' d' = s.chip.clkLost r' d') ∧
    (∀ (r d : Fin 8) (hz : BitVec 32), s.chip.clkLost r d = true → d ≠ 0 → s.chip.hzWithin r d hz.toNat 5 = true →
      (assoc s.chip.sys.clkAt (8 * r + d)).getD 0 + clockWindow d ≤ s.chip.now →
      ∃ t, exec (.clockReturn r d hz) s = .next t ∧ t.chip.clkLost r d = false ∧
        (∀ r' d', (r' ≠ r.val ∨ d' ≠ d.val) → t.chip.clkLost r' d' = s.chip.clkLost r' d') ∧ StoresKept s t) ∧
    (∀ (src : Fin 130) (gray : BitVec 16) (bad : Bool), s.chip.counting src = true → src.val < 128 →
      ∃ t, exec (.countTransfer src (gray, bad)) s = .next t ∧
        t.chip.get (chanAt src) Dig.count =
          (s.chip.get (chanAt src) Dig.count + (grayValue gray.toNat + 2 ^ 16 - (s.chip.chan src).tongs) % 2 ^ 16) % 2 ^ 32 ∧
        (t.chip.chan src).tongs = grayValue gray.toNat ∧
        t = { s with chip := { s.chip with regs := t.chip.regs, chans := t.chip.chans } } ∧ WordsKept (chanWord src) s t) ∧
    (∀ (e : Fin 2) (gray : BitVec 16) (bad : Bool), s.chip.counting (128 + e) = true →
      ∀ diff, diff = signed 16 ((grayValue gray.toNat + 2 ^ 16 - (s.chip.tongsOf (128 + e)).1) % 2 ^ 16) →
      ∃ t, exec (.countTransfer ⟨128 + e, by omega⟩ (gray, bad)) s = .next t ∧
        t.chip.get (regionAt e) Enc.count = (s.chip.get (regionAt e) Enc.count + unsigned 32
          (if s.chip.flag (regionAt e) Enc.invert = true then -diff else diff)) % 2 ^ 32 ∧
        t.chip.flag (regionAt e) Enc.enc_err = (bad || s.chip.flag (regionAt e) Enc.enc_err) ∧
        t.chip.tongsOf (128 + e) = (grayValue gray.toNat, false)) ∧
    (∀ src : Fin 130, s.chip.fitted (srcRegion src) = true →
      ∃ t, exec (.countOverrun src) s = .next t ∧
        t.chip.getBit (regionAt (srcRegion src)) Cross.overrun 5 = true ∧
        t.chip.tongsOf src = ((s.chip.tongsOf src).1, true) ∧
        WordsKept (fun a => a = regionAt (srcRegion src) + 16 ∨ recorderWord a) s t) ∧
    (∀ (r d : Fin 8) (inFlight : BitVec 12) (src : Option (Fin 130)), s.chip.usesDomain r d = true →
      s.chip.clkLost r d = false → s.chip.phase = 8 →
      (∀ waits, waits = s.chip.sys.resync.filter (fun k => k / 16 == 8 * r.val + d.val) → waits ≠ [] →
        ∃ t, exec (.tongsResync r d inFlight src) s = .next t ∧
          t.chip.getI (regionAt r) Cross.resyncs d = min (s.chip.getI (regionAt r) Cross.resyncs d + 1) 255 ∧
          t.chip.getI (regionAt r) Cross.discarded d = min (s.chip.getI (regionAt r) Cross.discarded d + inFlight.toNat) 4095 ∧
          t.chip.getI (regionAt r) Cross.refused d = s.chip.getI (regionAt r) Cross.refused d ∧
          (∀ k ∈ waits, t.chip.tongsWait k = false) ∧
          (∀ n : Fin 130, srcRegion n = r → waits.contains (srcTongs n) = true → (n.val < 128 ∨ srcRegion n ≤ 1) →
            t.chip.tongsOf n = (0, true)) ∧
          StoresKept s t ∧ WordsKept (fun a => a = regionAt r + 17 + d) s t) ∧
      (s.chip.sys.resync.filter (fun k => k / 16 == 8 * r.val + d.val) = [] →
        ∃ t, exec (.tongsResync r d inFlight none) s = .next t ∧
          t.chip.getI (regionAt r) Cross.resyncs d = min (s.chip.getI (regionAt r) Cross.resyncs d + 1) 255 ∧
          t.chip.getI (regionAt r) Cross.discarded d = min (s.chip.getI (regionAt r) Cross.discarded d +
            ((List.range 16).map (fun u => (s.chip.queued (tongsKey r d u)).length)).sum + inFlight.toNat) 4095 ∧
          t.chip.getI (regionAt r) Cross.refused d = s.chip.getI (regionAt r) Cross.refused d ∧
          (∀ n : Fin 130, srcRegion n = r → d = 5 → t.chip.tongsOf n = (0, true)) ∧
          StoresKept s t ∧ WordsKept (fun a => a = regionAt r + 17 + d) s t)) ∧
    (∀ r : Fin 8, (s.chip.opens r = false → exec (.clearCrossings r) s = .next s) ∧
      (s.chip.opens r = true → ∃ t, exec (.clearCrossings r) s = .next t ∧
        (∀ d < 8, t.chip.nat (regionAt r + 0x11 + d) = 0) ∧
        t = { s with chip := { s.chip with regs := t.chip.regs } } ∧
        WordsKept (fun a => regionAt r + 0x11 ≤ a ∧ a < regionAt r + 0x19) s t))

/-- Supply steps and measurements (R77 to R79, R89, R91, Table 3.1): a crossing of the thresholds of LS, of a GS or of MS shows in the
supply words; the off step of a GS ends by its qualified return alone, after 18.0 V for 100 ms; outside normal MS both axis stages of
the region are held off; on the 10 ms grid the measured words take what was measured. -/
def Obligations.SupplySteps : Prop :=
  ∀ s : State, Shaped s → s.chip.phase ≠ 0 →
    (∀ (b present : Bool) (mv : BitVec 16), s.chip.flag supplyAt (if b then Supply.ls_b else Supply.ls_a) = !present →
      (if present then 17000 ≤ mv.toNat else mv.toNat < 16000) →
      ∃ t, exec (.lsInputStep b present mv) s = .next t ∧
        t.chip.flag supplyAt (if b then Supply.ls_b else Supply.ls_a) = present ∧
        t.chip.flag supplyAt (if b then Supply.ls_a else Supply.ls_b) =
          s.chip.flag supplyAt (if b then Supply.ls_a else Supply.ls_b) ∧
        StoresKept s t ∧ WordsKept (fun a => a = supplyAt ∨ recorderWord a) s t) ∧
    (∀ (high entered : Bool) (mv : BitVec 16), s.chip.flag supplyAt (if high then Supply.ls_high else Supply.ls_low) = !entered →
      (match high, entered with
        | false, true => mv.toNat < 18000
        | false, false => 18500 ≤ mv.toNat
        | true, true => 32500 < mv.toNat
        | true, false => mv.toNat ≤ 32000) →
      ∃ t, exec (.lsLowHighStep high entered mv) s = .next t ∧
        t.chip.flag supplyAt (if high then Supply.ls_high else Supply.ls_low) = entered ∧
        StoresKept s t ∧ WordsKept (fun a => a = supplyAt ∨ recorderWord a) s t) ∧
    (∀ (r : Fin 8) (step : Fin 4) (entered : Bool) (mv : BitVec 16), s.chip.fitted r = true →
      (s.chip.gs r).step (step + 1) = !entered → (step ≠ 2 ∨ entered = true) →
      (if entered then mv.toNat < [19000, 16000, 13000, 10000].getD step 0
        else [19500, 16500, 18000, 18000].getD step 0 ≤ mv.toNat) →
      ∃ t, exec (.gsStep r step entered mv) s = .next t ∧ (t.chip.gs r).step (step + 1) = entered ∧
        (∀ n, n ≠ step.val + 1 → 1 ≤ n → n ≤ 4 → (t.chip.gs r).step n = (s.chip.gs r).step n) ∧
        t.chip.get supplyAt Supply.gs_step / 4 ^ r.val % 4 = min (t.chip.gs r).deepest 3 ∧
        (∀ q, q ≠ r.val → t.chip.gs q = s.chip.gs q) ∧ StoresKept s t) ∧
    (∀ (r : Fin 8) (mv : BitVec 16), (s.chip.gs r).off = true → (s.chip.gs r).absent = false → 18000 ≤ mv.toNat →
      (s.chip.gs r).lowAt + 100000 ≤ s.chip.now → ∃ t, exec (.gsOffQualified r mv) s = .next t ∧
      (t.chip.gs r).off = false ∧ (t.chip.gs r).warning = (s.chip.gs r).warning ∧
      (t.chip.gs r).reduced = (s.chip.gs r).reduced ∧ (∀ q, q ≠ r.val → t.chip.gs q = s.chip.gs q) ∧ StoresKept s t) ∧
    (∀ (r : Fin 8) (what : Fin 3) (mv : BitVec 16), s.chip.fitted r = true →
      s.chip.get supplyAt Supply.ms_step / 4 ^ r.val % 4 ≠ what →
      (if what = 0 then 21000 ≤ mv.toNat ∧ mv.toNat ≤ 50000 else if what = 1 then mv.toNat < 20000 else 52000 < mv.toNat) →
      ∃ t, exec (.msStep r what mv) s = .next t ∧ t.chip.get supplyAt Supply.ms_step / 4 ^ r.val % 4 = what ∧
        (t.chip.ax (2 * r)).causes.testBit 3 = (what != 0) ∧ (t.chip.ax (2 * r + 1)).causes.testBit 3 = (what != 0) ∧
        StoresKept s t) ∧
    (∀ (lsA lsB lsOr core scap bpTemp : BitVec 16) (gs ms : List (BitVec 16)), s.chip.now % 10000 = 0 →
      ∃ t, exec (.supplyMeasurementUpdate lsA lsB lsOr core scap bpTemp gs ms) s = .next t ∧
        t.chip.get supplyAt Supply.ls_a_mv = lsA.toNat ∧ t.chip.get supplyAt Supply.ls_b_mv = lsB.toNat ∧
        t.chip.get supplyAt Supply.ls_or_mv = lsOr.toNat ∧ t.chip.get supplyAt Supply.core_mv = core.toNat ∧
        t.chip.get supplyAt Supply.scap_mv = scap.toNat ∧ t.chip.get supplyAt Supply.bp_temp = bpTemp.toNat ∧
        t.chip.get supplyAt Supply.scap_low = b2n (decide (scap.toNat < 2500)) ∧
        (∀ r : Fin 8, s.chip.fitted r = true → t.chip.getI supplyAt Supply.gs_mv r = (gs.getD r 0).toNat ∧
          t.chip.getI supplyAt Supply.ms_mv r = (ms.getD r 0).toNat) ∧
        StoresKept s t ∧ WordsKept (fun a => (supplyAt ≤ a ∧ a < supplyAt + 14) ∨ recorderWord a) s t)

/-- The always-on domain (R81, R82, R84 to R87, R90, R60, Table 3.2): a comparator that asserts is shown and latched, and in S0 the return
of LS, or another comparator whose wake bit is set, starts the module; clearing shows it clear and keeps the latch; an exhausted
supercapacitor loses the calendar; a power fail ends in S0, or in S1 where LS came back, with its stamp in the retained store;
dormant waits for the boundary, and is refused to a holder; a core voltage outside its limits is module-level fault 6, the loss of
TB fault 1, unless one stands. -/
def Obligations.AlwaysOnDomain : Prop :=
  ∀ s : State,
    (∀ k : Fin 4, s.chip.getBit supplyAt Supply.cmp_now k = false → s.chip.phase ≠ 0 →
      ∃ t, exec (.comparatorAssert k) s = .next t ∧ t.chip.getBit supplyAt Supply.cmp_now k = true ∧
        t.chip.getBit supplyAt Supply.cmp_latched k = true ∧ StoresKept s t ∧
        WordsKept (fun a => a = supplyAt + 0xE ∨ recorderWord a) s t) ∧
    (∀ k : Fin 4, s.chip.getBit supplyAt Supply.cmp_now k = false → s.chip.phase = 0 →
      (k = 0 ∨ (s.chip.aonStopped = false ∧ s.chip.getBit supplyAt Supply.wake k = true)) →
      ∃ t, exec (.comparatorAssert k) s = .next t ∧ t.chip.phase = 1 ∧
        t.chip.get statusAt Status.start_cause = (if k = 0 then 1 else 2) ∧
        t.flash.retained.starts = (s.flash.retained.starts + 1) % 2 ^ 32) ∧
    (∀ k : Fin 4, ∃ t, exec (.comparatorClear k) s = .next t ∧ t.chip.getBit supplyAt Supply.cmp_now k = false ∧
      t.chip.get supplyAt Supply.cmp_latched = s.chip.get supplyAt Supply.cmp_latched ∧
      t = { s with chip := { s.chip with regs := t.chip.regs } } ∧ WordsKept (fun a => a = supplyAt + 0xE) s t) ∧
    (s.chip.phase = 0 → s.chip.getBit supplyAt Supply.cmp_now 0 = false → ∃ t, exec .scapExhausted s = .next t ∧
      t.chip.get supplyAt Supply.cal_valid = 0 ∧ t.chip.stamp = 0 ∧ t.chip.aon.exhausted = true ∧
      StoresKept s t ∧ WordsKept (fun a => a = supplyAt ∨ a = supplyAt + 0xE ∨ a = supplyAt + 0xF) s t) ∧
    (∀ mv : BitVec 16, mv.toNat < 14000 → s.chip.phase ≠ 0 → ∃ t, exec (.powerFail mv false) s = .next t ∧ t.chip.phase = 0 ∧
      t.flash.retained.failStamp = s.chip.stamp ∧ t.flash.nor = s.flash.nor) ∧
    (∀ mv : BitVec 16, mv.toNat < 14000 → ∃ t, exec (.powerFail mv true) s = .next t ∧ t.chip.phase = 1 ∧
      t.chip.get statusAt Status.start_cause = 1 ∧ t.flash.nor = s.flash.nor) ∧
    (∀ session : Fin 16, s.chip.roleIn session [2] = true → s.chip.get supplyAt Supply.result ≠ 1 → s.chip.phase = 8 →
      (s.chip.get pairAt Pair.lease_state ≠ 2 → s.chip.get pairAt Pair.lease_state ≠ 5 →
        s.chip.get engineAt Engine.state = 1 → ∃ t, exec (.dormant session) s = .next t ∧
          t.chip.get supplyAt Supply.dormant_pending = 1 ∧ t.chip.get supplyAt Supply.result = 1 ∧ StoresKept s t ∧
          WordsKept (fun a => a = supplyAt ∨ a = supplyAt + 0x11) s t) ∧
      ((s.chip.get pairAt Pair.lease_state = 2 ∨ s.chip.get pairAt Pair.lease_state = 5) →
        s.chip.get supplyAt Supply.dormant_pending = 0 → ∃ t, exec (.dormant session) s = .next t ∧
          t.chip.get supplyAt Supply.result = 3 ∧ WordsKept (fun a => a = supplyAt + 0x11) s t)) ∧
    (∀ mv : BitVec 16, 2 ≤ s.chip.phase → (mv.toNat < 850 ∨ 950 < mv.toNat) →
      ∃ t, exec (.coreVoltageFault mv) s = .next t ∧
        t.chip.sys.faultCause = if s.chip.sys.faultCause = 0 then 6 else s.chip.sys.faultCause) ∧
    (2 ≤ s.chip.phase → s.chip.regions.all s.chip.regionFenced = false → ∃ t, exec .tbLossFence s = .next t ∧
      (t.chip.sys.faultCause = if s.chip.sys.faultCause = 0 then 1 else s.chip.sys.faultCause) ∧
      (∀ q, s.chip.regionFenced q = true → t.chip.regionFenced q = true) ∧
      ∀ r : Fin 8, s.chip.fitted r = true → t.chip.regionFenced r = true)

/-- The start phases (R92 to R99, Table 4.1): each phase ends as the spec gives it. S1 with its supplies held for 100 ms and TB present
leads to S2; S2 with every region reached and answering leads to S3 with the measured station speeds, and otherwise to a halt; S3
without failures leads to S4, the recorder mounted, the retained store reported lost where its check failed (R98), and with
failures to S4 or a halt (R97); S4 leads to S5 with the image of the selected slot where it passes its check, with the other slot's
where it fails, a fall-back is permitted and the other passes, and otherwise to a halt; S5 stores the hold-up, leads to S6 and begins
the wait of negotiation; S6 of a module without a partner to seek leads to S7, one that seeks a partner waits until it has heard it,
and then it leads to S7 or, on an outcome that Table 14.2 does not let run, to a halt; entry to S8 notes its tick. -/
def Obligations.StartPhases : Prop :=
  ∀ s : State,
    (s.chip.inPhase 1 = true → s.chip.sys.lsLowAt + 100000 ≤ s.chip.now → s.chip.flag supplyAt Supply.ls_low = false →
      s.chip.clkLost 0 0 = false → ∀ lsMv coreMv : BitVec 16, 18500 ≤ lsMv.toNat → 850 ≤ coreMv.toNat →
      coreMv.toNat ≤ 950 → ∃ t, exec (.s1Qualified lsMv coreMv true) s = .next t ∧ t.chip.phase = 2 ∧
        t.chip.get supplyAt Supply.holdup_ready = 1 ∧ t = { s with chip := { s.chip with regs := t.chip.regs } } ∧
        WordsKept (fun a => a = supplyAt ∨ a = surveyAt) s t) ∧
    (s.chip.inPhase 2 = true →
      ∀ (trained : BitVec 32) (answered : BitVec 8) (speedA speedB : Fin 4) (cables : List (BitVec 32)),
      ((∀ r ∈ (s.chip.trainLinks trained).regions, r = 0 ∨ (s.chip.trainLinks trained).routeTo 0 r ≠ none) →
        ((List.range 8).filter (fun r => answered.getLsbD r)).length = (s.chip.trainLinks trained).nRegions →
        ∃ t, exec (.s2Enumerated trained answered speedA speedB cables) s = .next t ∧ t.chip.phase = 3 ∧
          t.chip.panel.s2At = some s.chip.now ∧ t.chip.get slinkAt SLink.na_speed = speedA ∧
          t.chip.get slinkAt SLink.nb_speed = speedB) ∧
      (((List.range 8).filter (fun r => answered.getLsbD r)).length ≠ (s.chip.trainLinks trained).nRegions →
        (s.chip.trainLinks trained).flag surveyAt Survey.halted = false →
        ∃ t, exec (.s2Enumerated trained answered speedA speedB cables) s = .next t ∧
          t.chip.get surveyAt Survey.halted = 1 ∧
          (t.chip.get surveyAt Survey.reason = 1 ∨ t.chip.get surveyAt Survey.reason = 2))) ∧
    (s.chip.inPhase 3 = true →
      (s.chip.blockFenced 1 13 = false → s.chip.blockFenced 1 11 = false → ∀ retainedOk : Bool,
        ∃ t, exec (.s3SelfTestDone [] retainedOk) s = .next t ∧ t.chip.phase = 4 ∧ t.chip.recd.mounted = true ∧
          t.flash.nor = s.flash.nor ∧ (retainedOk = true → t.flash.retained = s.flash.retained) ∧
          (retainedOk = false → t.chip.get statusAt Status.retained_lost = 1)) ∧
      ∀ fails retainedOk, ∃ t, exec (.s3SelfTestDone fails retainedOk) s = .next t ∧
        (t.chip.phase = 4 ∨ t.chip.flag surveyAt Survey.halted = true)) ∧
    (s.chip.inPhase 4 = true →
      (s.readSelect.chip.checkSlot s.flash (s.readSelect.chip.get imageAt Image.select_slot) = 0 →
        ∃ t, exec .s4ImageChecked s = .next t ∧ t.chip.phase = 5 ∧ t.flash.address ≠ none ∧ t.flash.nor = s.flash.nor) ∧
      (s.readSelect.chip.checkSlot s.flash (s.readSelect.chip.get imageAt Image.select_slot) ≠ 0 →
        s.readSelect.chip.get imageAt Image.select_fb = 1 →
        s.readSelect.chip.checkSlot s.flash (1 - s.readSelect.chip.get imageAt Image.select_slot) = 0 →
        ∃ t, exec .s4ImageChecked s = .next t ∧ t.chip.phase = 5 ∧ t.chip.get imageAt Image.fell_back = 1 ∧
          t.flash.address ≠ none ∧ t.flash.nor = s.flash.nor) ∧
      (s.readSelect.chip.checkSlot s.flash (s.readSelect.chip.get imageAt Image.select_slot) ≠ 0 →
        (s.readSelect.chip.get imageAt Image.select_fb = 0 ∨
          s.readSelect.chip.checkSlot s.flash (1 - s.readSelect.chip.get imageAt Image.select_slot) ≠ 0) →
        ∃ t, exec .s4ImageChecked s = .next t ∧ t.chip.get surveyAt Survey.halted = 1 ∧ t.chip.phase = 4 ∧
          t.chip.get surveyAt Survey.reason =
            (if s.readSelect.chip.checkSlot s.flash (s.readSelect.chip.get imageAt Image.select_slot) = 9 then 5 else 4) ∧
          t.flash = s.flash)) ∧
    (s.chip.inPhase 5 = true → ∀ results holdup, ∃ t, exec (.s5SurveyDone results holdup) s = .next t ∧
      t.chip.pair.negAt = s.chip.now ∧ t.chip.phase = 6 ∧ t.chip.get supplyAt Supply.holdup_est = holdup.toNat ∧
      (holdup.toNat < 300 → t.chip.get supplyAt Supply.holdup_short = 1) ∧ StoresKept s t) ∧
    (s.chip.inPhase 6 = true → s.chip.paired = false → ∃ t, exec .s6Negotiated s = .next t ∧ t.chip.phase = 7 ∧
      t = { s with chip := { s.chip with regs := t.chip.regs } } ∧ WordsKept (fun a => a = surveyAt) s t) ∧
    (s.chip.inPhase 6 = true → s.chip.paired = true →
      (s.chip.pair.neg = none ∧ s.chip.pos ≠ 0 ∧ s.chip.sys.hasPair = true → exec .s6Negotiated s = .next s) ∧
      (¬ (s.chip.pair.neg = none ∧ s.chip.pos ≠ 0 ∧ s.chip.sys.hasPair = true) → ∃ t, exec .s6Negotiated s = .next t ∧
        (t.chip.phase = 7 ∨ (t.chip.phase = 6 ∧ t.chip.get surveyAt Survey.halted = 1 ∧
          t.chip.get surveyAt Survey.reason = 6)))) ∧
    (s.chip.inPhase 7 = true → s.chip.mayRun8 = true → ∃ t, exec .s8Entry s = .next t ∧ t.chip.phase = 8 ∧
      t.chip.s8At = s.chip.now ∧ t.chip.now = s.chip.now ∧ StoresKept s t)

/-- The commands of the survey block (R109 to R113, R241, Table 4.9): an allowed command begins, with its target and result 1, a
command that is not allowed answers 3 and begins nothing; a running survey ends with result 2 or 6; temper takes the zero and then the
gain of each channel it calibrates, applies the corrections where all lie within 0.5 % of span of the previous calibration and ends
with result 2, and applies none where one lies beyond and ends with result 6. -/
def Obligations.SurveyAndTemper : Prop :=
  ∀ s : State,
    (∀ (kind : Fin 8) (index : Fin 256), s.chip.get surveyAt Survey.result ≠ 1 →
      (s.chip.surveyAllowed kind index = true →
        (∃ t, exec (.survey kind index) s = .next t ∧ t.chip.svyTarget = some (kind.val, index.val) ∧
          t.chip.sys.svyCmd = 0 ∧ StoresKept s t) ∧
        (kind.val ≤ 4 → ∃ t, exec (.returnToService kind index) s = .next t ∧
          t.chip.svyTarget = some (kind.val, index.val) ∧ t.chip.sys.svyCmd = 2 ∧ StoresKept s t)) ∧
      (s.chip.temperAllowed kind index = true → ∃ t, exec (.temper kind index) s = .next t ∧
        t.chip.svyTarget = some (0, index.val) ∧ t.chip.sys.svyCmd = 1 ∧ t.chip.sys.svyOff = [] ∧
        t.chip.sys.svyGain = [] ∧ StoresKept s t) ∧
      (s.chip.surveyAllowed kind index = false → ∃ t, exec (.survey kind index) s = .next t ∧
        t.chip.get surveyAt Survey.result = 3 ∧ t = { s with chip := { s.chip with regs := t.chip.regs } } ∧
        WordsKept (fun a => a = surveyAt + 3) s t)) ∧
    (∀ results, s.chip.svyTarget ≠ none → s.chip.sys.svyCmd ≠ 1 → ∃ t, exec (.surveyComplete results) s = .next t ∧
      t.chip.svyTarget = none ∧ (t.chip.get surveyAt Survey.result = 2 ∨ t.chip.get surveyAt Survey.result = 6) ∧
      StoresKept s t) ∧
    (∀ offset : BitVec 32, s.chip.sys.svyOff.length < s.chip.temperChans.length → ∃ t, exec (.temperZeroDone offset) s = .next t ∧
      t.chip.sys.svyOff = s.chip.sys.svyOff ++ [offset.toInt] ∧ t.chip.sys.svyGain = s.chip.sys.svyGain ∧
      t = { s with chip := { s.chip with sys := { s.chip.sys with svyOff := t.chip.sys.svyOff } } }) ∧
    (∀ gain : BitVec 32, s.chip.sys.svyGain.length < s.chip.sys.svyOff.length →
      s.chip.sys.svyGain.length < s.chip.temperChans.length → ∃ t, exec (.temperGainDone gain) s = .next t ∧
      t.chip.sys.svyGain = s.chip.sys.svyGain ++ [gain.toInt] ∧ t.chip.sys.svyOff = s.chip.sys.svyOff ∧
      t = { s with chip := { s.chip with sys := { s.chip.sys with svyGain := t.chip.sys.svyGain } } }) ∧
    (s.chip.temperChans ≠ [] → (∀ g ∈ s.chip.temperChans, g < 128) → s.chip.temperChans.length ≤ s.chip.sys.svyGain.length →
      s.chip.temperChans.length ≤ s.chip.sys.svyOff.length →
      ∀ near : Prop, (near ↔ ∀ (i g : Nat) (off gain : Int), s.chip.temperChans[i]? = some g → s.chip.sys.svyOff[i]? = some off →
        s.chip.sys.svyGain[i]? = some gain → (off - s.chip.getS (chanAt g) Chan.cal_offset).natAbs ≤ 50000 ∧
          (gain - s.chip.getS (chanAt g) Chan.cal_gain).natAbs ≤ 50000) →
      ∃ t, exec .temperComplete s = .next t ∧ StoresKept s t ∧
        (near → t.chip.get surveyAt Survey.result = 2 ∧
          ∀ (i g : Nat) (off gain : Int), s.chip.temperChans[i]? = some g → s.chip.sys.svyOff[i]? = some off →
            s.chip.sys.svyGain[i]? = some gain → t.chip.getS (chanAt g) Chan.cal_offset = clampI (-32768) 32767 off ∧
              t.chip.getS (chanAt g) Chan.cal_gain = clampI (-32768) 32767 gain) ∧
        (¬ near → t.chip.get surveyAt Survey.result = 6 ∧
          ∀ g : Fin 128, t.chip.getS (chanAt g) Chan.cal_offset = s.chip.getS (chanAt g) Chan.cal_offset ∧
            t.chip.getS (chanAt g) Chan.cal_gain = s.chip.getS (chanAt g) Chan.cal_gain))

/-- Image transfer (R141 to R144, R452): begin erases the slot not in use and makes the session the owner; verify and select begin the
full check; its end gives state 2 or result 6; commit, and a select whose check passes, erase the slot-select copy that does not
govern, and its new record follows with the next tick; abort and 60 s of silence end the transfer with result 5 and leave the NOR
as it is. That the record takes a tick is the model's choice (log entry 116). -/
def Obligations.ImageTransfer : Prop :=
  (∀ (session : Fin 16) (s : State), s.chip.mayTransfer session = true → s.chip.transferPhase = true →
    s.chip.get imageAt Image.result ≠ 1 →
    (s.chip.xferOpen = false → s.chip.xfer.owner = none → ∃ t, exec (.imageBegin session) s = .next t ∧
      t.chip.xfer.owner = some session.val ∧ t.chip.get imageAt Image.result = 1 ∧
      t.chip.get imageAt Image.target = 1 - s.chip.get imageAt Image.slot ∧ t.chip.get imageAt Image.bytes_written = 0 ∧
      t.flash = { s.flash.eraseSlot (1 - s.chip.get imageAt Image.slot) with
        target := some (1 - s.chip.get imageAt Image.slot) } ∧ t.pending = s.pending) ∧
    (s.chip.xfer.owner = some session.val → s.chip.get imageAt Image.state ≠ 0 →
      (∃ t, exec (.imageVerify session) s = .next t ∧ t.chip.xfer.verifying = 1 ∧ t.chip.get imageAt Image.result = 1 ∧
        t.chip.get imageAt Image.last_cmd = 1 ∧ StoresKept s t) ∧
      (s.chip.get imageAt Image.state = 2 → ∀ fb, s.mayAdopt session (s.chip.get imageAt Image.target) = true →
        ∃ t, exec (.imageCommit session fb) s = .next t ∧ t.chip.get imageAt Image.state = 0 ∧
          t.chip.xfer.owner = none ∧ t.chip.get imageAt Image.result = 1 ∧
          t.chip.xfer.writing = some (s.flash.nextSelect.1, s.flash.nextSelect.2, s.chip.get imageAt Image.target, fb, 3) ∧
          t.flash = s.flash.eraseSelect s.flash.nextSelect.1 ∧ t.pending = s.pending) ∧
      (∃ t, exec (.imageAbort session) s = .next t ∧ t.chip.get imageAt Image.state = 0 ∧
        t.chip.get imageAt Image.result = 5 ∧ t.chip.xfer.owner = none ∧ StoresKept s t) ∧
      (s.chip.xfer.at_ + 60000000 ≤ s.chip.now → ∃ t, exec .transferTimeout s = .next t ∧
        t.chip.get imageAt Image.state = 0 ∧ t.chip.get imageAt Image.result = 5 ∧ t.chip.xfer.owner = none ∧
        StoresKept s t)) ∧
    (s.chip.xfer.owner = none → ∀ (slot : Fin 2) (fb : Bool), s.mayAdopt session slot = true →
      ∃ t, exec (.imageSelect session slot fb) s = .next t ∧ t.chip.xfer.verifying = 2 ∧ t.chip.xfer.slot = slot ∧
        t.chip.xfer.fb = fb ∧ t.chip.get imageAt Image.result = 1 ∧ StoresKept s t)) ∧
  (∀ s : State,
    (s.chip.get imageAt Image.result = 1 → s.chip.get imageAt Image.last_cmd = 0 → s.chip.xfer.owner ≠ none →
      ∃ t, exec .eraseComplete s = .next t ∧ t.chip.get imageAt Image.result = 2 ∧ t.chip.get imageAt Image.state = 1 ∧
        t.chip.xfer = { s.chip.xfer with at_ := s.chip.now } ∧ StoresKept s t) ∧
    (s.chip.xfer.verifying = 1 → ∀ code, code = s.chip.checkStored s.flash (s.chip.get imageAt Image.target) →
      ∃ t, exec .verifyComplete s = .next t ∧ t.chip.xfer.verifying = 0 ∧
      t.chip.get imageAt Image.check = code % 256 ∧
      t.chip.get imageAt Image.state = (if code = 0 then 2 else 1) ∧
      t.chip.get imageAt Image.result = (if code = 0 then 2 else 6) ∧ StoresKept s t) ∧
    (s.chip.xfer.verifying = 2 →
      (s.chip.checkSlot s.flash s.chip.xfer.slot = 0 → ∃ t, exec .verifyComplete s = .next t ∧
        t.flash = s.flash.eraseSelect s.flash.nextSelect.1 ∧ t.chip.get imageAt Image.result = 1 ∧
        t.chip.xfer.writing = some (s.flash.nextSelect.1, s.flash.nextSelect.2, s.chip.xfer.slot, s.chip.xfer.fb, 4)) ∧
      (s.chip.checkSlot s.flash s.chip.xfer.slot ≠ 0 → ∃ t, exec .verifyComplete s = .next t ∧
        t.chip.get imageAt Image.result = 6 ∧ StoresKept s t)) ∧
    (∀ copy seq slot fb what, s.chip.xfer.writing = some (copy, seq, slot, fb, what) → s.pending = [] →
      s.chip.sys.returns = [] → ∃ t, step s = .next t ∧ t.chip.get imageAt Image.result = 2 ∧ t.chip.xfer.writing = none ∧
        t.flash.nor = (s.flash.program (selectAt copy) (selectBytes seq slot fb)).nor ∧
        t.flash.target = (if what = 3 then none else s.flash.target)))

/-- The cycle of the block engine (R154, R157, R162, R166, R167, R175, R182): the boundary applies at most 16 queued changes and every
force edit and lets the latch come; the latch begins execution with nothing committed; execution ends when every invocation has run;
the output write within wd_limit ends the cycle; past wd_limit the watchdog stops the engine. -/
def Obligations.EngineCycle : Prop :=
  ∀ s : State, s.chip.engineRuns = true →
    (s.chip.eng.phase = 0 → ¬ (s.chip.lease = 2 ∧ s.chip.pair.swapAsk = true) →
      ¬ (s.chip.lease = 5 ∧ s.chip.pair.handAsk = true) → s.chip.lease ≠ 4 →
      ∃ t, exec .cycleBoundary s = .next t ∧ ((t.chip.eng.phase = 3 ∧ t.chip.eng.queue = s.chip.eng.queue.drop 16 ∧
        t.chip.eng.edits = []) ∨ t.chip.aon.dormant = true)) ∧
    (∀ m rest, s.chip.eng.phase = 0 → s.chip.lease = 4 → s.chip.pair.records = m :: rest →
      s.chip.flag supplyAt Supply.dormant_pending = false → ∃ t, exec .cycleBoundary s = .next t ∧ t.chip.eng.phase = 3) ∧
    (s.chip.eng.phase = 3 → s.chip.eng.boundaryAt + s.chip.eng.minGap ≤ s.chip.now → s.chip.lease ≠ 4 →
      ∃ t, exec .inputLatch s = .next t ∧ t.chip.eng.phase = 1 ∧ t.chip.eng.done = [] ∧ t.chip.eng.reqs = [] ∧
        t.chip.eng.latchAt = s.chip.now ∧ t.chip.eng.latchNow = s.chip.now ∧ t.chip.eng.imgs.length = 128 ∧ StoresKept s t) ∧
    (∀ m rest, s.chip.eng.phase = 3 → s.chip.eng.boundaryAt + s.chip.eng.minGap ≤ s.chip.now → s.chip.lease = 4 →
      s.chip.pair.records = m :: rest → ∃ t, exec .inputLatch s = .next t ∧ t.chip.eng.phase = 1 ∧
        t.chip.eng.imgs = m.imgs ∧ t.chip.eng.latchNow = m.latchTick ∧
        t.chip.get engineAt Engine.cycle_count = m.cycle % 2 ^ 32 ∧ StoresKept s t) ∧
    (s.chip.eng.phase = 1 → (∀ i ∈ s.chip.eng.prog, i.seq ∈ s.chip.eng.done) →
      ∃ t, exec .executionComplete s = .next t ∧
        t = { s with chip := { s.chip with eng := { s.chip.eng with phase := 2 } } }) ∧
    (s.chip.eng.phase = 2 → s.chip.now - s.chip.eng.latchAt ≤ s.chip.eng.wdLimit →
      ∃ t, exec .outputWrite s = .next t ∧ t.chip.eng.phase = 0 ∧ t.chip.eng.reqs = [] ∧ t.chip.eng.first = false ∧
        t.chip.eng.boundaryAt = s.chip.now ∧ t.chip.eng.outCal = s.chip.eng.latchCal ∧ StoresKept s t) ∧
    ((s.chip.eng.phase = 1 ∨ s.chip.eng.phase = 2) → s.chip.eng.latchAt + s.chip.eng.wdLimit ≤ s.chip.now →
      ∃ t, exec .watchdogFire s = .next t ∧ t.chip.get engineAt Engine.state = 2 ∧ t.chip.eng.phase = 0 ∧ t.chip.eng.reqs = [] ∧ t.chip.eng.queue = [] ∧
        t.chip.eng.edits = [] ∧ StoresKept s t)

/-- Online changes, release_all and clear_stats (R175, R176, R180, R181): a change with no reason against it waits in the queue,
one with a reason is counted and refused with that reason and changes nothing that it names; release_all of a holder with the
engine in run waits for the boundary and is refused in a shadow, and with the engine stopped, which is the model's choice (log entry
120); clear_stats resets the longest and shortest cycle. -/
def Obligations.OnlineChangesAndForces : Prop :=
  ∀ s : State,
    (∀ addr value : BitVec 32,
      (s.chip.changeReason addr.toNat value.toNat = 0 → ∃ t, exec (.onlineChangeArrival addr value) s = .next t ∧
        t.chip.eng.queue = s.chip.eng.queue ++ [⟨addr.toNat, value.toNat, none, none⟩] ∧
        t.chip.get changeAt Change.queued = (s.chip.eng.queue.length + 1) % 2 ^ (Change.queued.hi + 1 - Change.queued.lo) ∧
        StoresKept s t ∧ WordsKept (fun a => a = Change.queued.at changeAt 0) s t) ∧
      (s.chip.changeReason addr.toNat value.toNat ≠ 0 → ∃ t, exec (.onlineChangeArrival addr value) s = .next t ∧
        t.chip.eng = s.chip.eng ∧ t.chip.get changeAt Change.last_refusal = s.chip.changeReason addr.toNat value.toNat ∧
        t.chip.get changeAt Change.refused = min (s.chip.get changeAt Change.refused + 1) Change.refused.top ∧
        t = { s with chip := { s.chip with regs := t.chip.regs } } ∧
        WordsKept (fun a => a = Change.refused.at changeAt 0 ∨ a = Change.last_refusal.at changeAt 0) s t)) ∧
    (s.chip.get forceAt Force.result ≠ 1 →
      (s.chip.holder = true → s.chip.get engineAt Engine.state = 1 → ∃ t, exec .releaseAll s = .next t ∧
        t.chip.get forceAt Force.result = 1 ∧
        t.chip.eng.edits = s.chip.eng.edits ++ ((List.range 256).filter s.chip.forceTaken).map (fun i => ⟨i, none, none⟩) ∧
        StoresKept s t ∧ WordsKept (fun a => a = Force.result.at forceAt 0) s t) ∧
      (s.chip.holder = false ∨ s.chip.get engineAt Engine.state ≠ 1 → ∃ t, exec .releaseAll s = .next t ∧ t.chip.get forceAt Force.result = 3 ∧
        t = { s with chip := { s.chip with regs := t.chip.regs } } ∧
        WordsKept (fun a => a = Force.result.at forceAt 0) s t)) ∧
    (∃ t, exec .engineClearStats s = .next t ∧ t.chip.get engineAt Engine.cycle_max = 0 ∧
      t.chip.get engineAt Engine.cycle_min = 0xFFFFFFFF ∧ t.chip.get engineAt Engine.result = 2 ∧
      t.chip.get engineAt Engine.cycle_count = s.chip.get engineAt Engine.cycle_count ∧
      t = { s with chip := { s.chip with regs := t.chip.regs } })

/-- The mode change and the results of a channel (R211, R214, R215, R224, R225, Table 8.2): step 2 takes the mode wanted, step 3 follows
where the mode has settled, a conversion in AI-V writes its raw result and the filtered value and leaves every word outside the
channel, an unusable channel keeps its value; the cold-junction sensors are read together; an open thermocouple is one above
100 mV in the check. -/
def Obligations.ChannelResults : Prop :=
  ∀ (g : Fin 128) (s : State), Shaped s →
    ((s.chip.chan g).seq = 1 → ∃ t, exec (.frontEndReconfigured g) s = .next t ∧ (t.chip.chan g).seq = 2 ∧
      t.chip.mode g = s.chip.modeWanted g % 256 ∧ StoresKept s t ∧
      WordsKept (fun a => (chanAt g ≤ a ∧ a < chanAt g + 65536) ∨ (chanAt (g + 1) ≤ a ∧ a < chanAt (g + 1) + 65536)) s t) ∧
    (∀ raw x y, (s.chip.chan g).seq = 2 → s.chip.settled g = true → ∃ t, exec (.modeSettled g raw x y) s = .next t ∧
      (t.chip.chan g).seq = (if outMode (s.chip.mode g) then 3 else 0) ∧ StoresKept s t ∧
      ∀ q, q ≠ g.val → t.chip.chan q = s.chip.chan q) ∧
    (∀ (raw : BitVec 24) (x y : BitVec 32), s.chip.mode g = 1 → (s.chip.chan g).seq = 0 →
      (s.chip.chan g).tempering = false → (s.chip.chan g).surveyed = false → s.chip.tongsWait (chanTongs g 4) = false →
      (s.chip.chan g).convAt + convPeriod (s.chip.get (chanAt g) Chan.rate) ≤ s.chip.now →
      (s.chip.chanDead g = false → ∃ t, exec (.conversionResult g raw x y) s = .next t ∧
        t.chip.get (chanAt g) Chan.raw = unsigned 32 (signed 24 raw.toNat) ∧
        t.chip.get (chanAt g) Chan.value = (if (s.chip.chan g).yOk then filterStep (s.chip.chan g).y x.toNat
          (s.chip.get (chanAt g) Chan.filter_tc) (convPeriod (s.chip.get (chanAt g) Chan.rate)) else x.toNat) % 2 ^ 32 ∧
        (t.chip.chan g).yOk = true ∧ StoresKept s t ∧
        WordsKept (chanWord g) s t ∧ ∀ q, q ≠ g.val → t.chip.chan q = s.chip.chan q) ∧
      (s.chip.chanDead g = true → ∃ t, exec (.conversionResult g raw x y) s = .next t ∧
        t.chip.get (chanAt g) Chan.value = s.chip.get (chanAt g) Chan.value ∧ (t.chip.chan g).img = (s.chip.chan g).img ∧
        StoresKept s t ∧ WordsKept (chanWord g) s t)) ∧
    (∀ (r : Fin 8) (ta tb : BitVec 16), ∃ t, exec (.cjSensorRead r ta tb) s = .next t ∧
      (nth {} t.chip.sys.cj r).ta = ta.toInt ∧ (nth {} t.chip.sys.cj r).tb = tb.toInt ∧ StoresKept s t ∧
      ∀ q, q ≠ r.val → nth {} t.chip.sys.cj q = nth {} s.chip.sys.cj q) ∧
    (∀ uv : BitVec 32, s.chip.mode g = 4 → (s.chip.chan g).seq = 0 → (s.chip.chan g).tempering = false →
      (s.chip.chan g).surveyed = false → s.chip.chanDead g = false → (s.chip.chan g).tcAt + 1000000 ≤ s.chip.now → ∃ t, exec (.openTcCheck g uv) s = .next t ∧
      (t.chip.chan g).sensorBad = decide (100000 < uv.toInt) ∧
      t.chip.aNow g fOpenSensor = (decide (100000 < uv.toInt) && (!(s.chip.chan g).sensorBad || s.chip.aNow g fOpenSensor)) ∧
      ∀ q, q ≠ g.val → t.chip.chan q = s.chip.chan q)

/-- The current output's bellows and conditions (R230, R232 to R236): the bellows follows the terminal voltage, measured every 2 ms, by
2.5 V in steps of 0.5 V, up at once and down 0.5 V at a time; the compliance state begins with its flag and ends; an open loop sets both; thermal
foldback begins at 150 °C and ends below 140 °C. A condition that must have lasted is one that has stood for that time. -/
def Obligations.CurrentOutputs : Prop :=
  ∀ (g : Fin 128) (s : State), Shaped s →
    (s.chip.mode g = 6 → (s.chip.chan g).driven = true →
      (∀ (termMv : BitVec 16) (ua : BitVec 32), s.chip.measuredSince g 2000 = false → s.chip.terminalOff g = false →
        ∃ t, exec (.bellowsMeasurement g (termMv, ua)) s = .next t ∧
        t.chip.get (chanAt g) Chan.term_mv = termMv.toNat ∧
        (let target := (max 4000 (min (s.chip.vMax g : Int) (halfVolt (termMv.toInt + 2500)))).toNat
         let old := s.chip.get (chanAt g) Chan.bellows_mv
         t.chip.get (chanAt g) Chan.bellows_mv = if old ≤ target then target else max target (old - 500)) ∧
        t = { s with chip := { s.chip with regs := t.chip.regs, chans := t.chip.chans } } ∧
        WordsKept (fun a => a = chanAt g + 0xD) s t) ∧
      (∀ ua : BitVec 32, (s.chip.chan g).short = false → s.chip.stood g .short 10000 = true → s.chip.vMax g ≤ s.chip.get (chanAt g) Chan.bellows_mv →
        ua.toInt + 100 < milli (s.chip.get (chanAt g) Chan.command) → ∃ t, exec (.complianceEntry g ua) s = .next t ∧
          (t.chip.chan g).short = true ∧ t.chip.aNow g fComp = true ∧ StoresKept s t ∧
          ∀ q, q ≠ g.val → t.chip.chan q = s.chip.chan q) ∧
      (∀ (termMv : BitVec 16) (ua : BitVec 32), s.chip.stood g .noLoop 10000 = true → 1000 ≤ milli (s.chip.get (chanAt g) Chan.command) → ua.toInt < 100 →
        (s.chip.vMax g : Int) - 3000 ≤ termMv.toInt → ∃ t, exec (.openLoop g termMv ua) s = .next t ∧
          t.chip.aNow g fOpenLoop = true ∧ (t.chip.chan g).short = true ∧
          t.chip.get (chanAt g) Chan.term_mv = termMv.toNat ∧ StoresKept s t)) ∧
    (∀ ua : BitVec 32, (s.chip.chan g).short = true → (s.chip.chan g).alarm = false → s.chip.stood g .good 100000 = true →
      (milli (s.chip.get (chanAt g) Chan.command) - ua.toInt).natAbs ≤ 50 → ∃ t, exec (.complianceEnd g ua) s = .next t ∧
        (t.chip.chan g).short = false ∧ t.chip.aNow g fComp = false ∧ t.chip.aNow g fOpenLoop = false ∧ StoresKept s t) ∧
    (∀ (tj : BitVec 16) (delivered : BitVec 32), (s.chip.mode g = 5 ∨ s.chip.mode g = 6) → 2400 ≤ tj.toInt →
      s.chip.aNow g fTherm = false → ∃ t, exec (.thermalFoldback g tj delivered) s = .next t ∧
        t.chip.aNow g fTherm = true ∧ t.chip.get (chanAt g) Chan.stage_tj = tj.toNat ∧
        t.chip.get (chanAt g) Chan.therm = 1 ∧ StoresKept s t) ∧
    (∀ tj : BitVec 16, s.chip.aNow g fTherm = true → tj.toInt < 2240 → ∃ t, exec (.thermalFoldbackEnd g tj) s = .next t ∧
      t.chip.aNow g fTherm = false ∧ t.chip.get (chanAt g) Chan.stage_tj = tj.toNat ∧
      t.chip.get (chanAt g) Chan.therm = s.chip.get (chanAt g) Chan.therm ∧ StoresKept s t)

/-- Digital inputs and counters (R248 to R258): where a window of the channel's grid has ended since its last sample, a DI sample moves
the integrator one step toward what it reads, and the state follows only at its ends; a DI-monitored sample is classed by its
resistance; a gate that ends gives 0 for fewer than two edges and the next gate begins where it ended, with the gate time now set. -/
def Obligations.DigitalInputs : Prop :=
  ∀ (g : Fin 128) (s : State), Shaped s → (s.chip.chan g).seq = 0 → s.chip.chanDead g = false →
    ((s.chip.chan g).tempering = false → (s.chip.chan g).surveyed = false → s.chip.tongsWait (chanTongs g 4) = false →
      s.chip.sampleDue g = true →
      (∀ reading : BitVec 32, s.chip.mode g = 7 → ∃ t, exec (.diSample g reading) s = .next t ∧
        (let high := if s.chip.flag (chanAt g) Dig.di_type then decide (8000 ≤ reading.toInt) else decide (10000 ≤ reading.toInt)
         let n := s.chip.get (chanAt g) Dig.filt_n
         let i := filterCount (s.chip.chan g).integ n high (!high)
         (t.chip.chan g).integ = i ∧ (t.chip.chan g).state = filterState i n (s.chip.chan g).state ∧
         (t.chip.chan g).img = b2n (filterState i n (s.chip.chan g).state)) ∧ StoresKept s t ∧
        ∀ q, q ≠ g.val → t.chip.chan q = s.chip.chan q) ∧
      (∀ reading : BitVec 32, s.chip.mode g = 8 → (s.chip.gs (g / 16)).off = false →
        ∃ t, exec (.diSample g reading) s = .next t ∧
          t.chip.get (chanAt g) Dig.mon_class = monClass reading.toNat ∧
          t.chip.get (chanAt g) Dig.mon_res = min (reading.toNat / 10) 0xFFFF ∧ StoresKept s t ∧
          ∀ q, q ≠ g.val → t.chip.chan q = s.chip.chan q)) ∧
    (∀ edges span : BitVec 32, s.chip.mode g = 11 → (s.chip.chan g).gateAt + (s.chip.chan g).gateLen ≤ s.chip.now →
      s.chip.clkLost (g / 16) 5 = false → ∃ t, exec (.cntGateEnd g edges span) s = .next t ∧
        (t.chip.chan g).gateAt = (s.chip.chan g).gateAt + (s.chip.chan g).gateLen ∧
        (t.chip.chan g).gateLen = s.chip.get (chanAt g) Dig.cnt_gate ∧
        (edges.toNat < 2 → t.chip.get (chanAt g) Dig.freq = 0) ∧
        (2 ≤ edges.toNat → 0 < span.toNat → s.chip.get (chanAt g) Dig.cnt_edge ≠ 2 →
          t.chip.get (chanAt g) Dig.freq = rOfRat (((edges.toNat - 1) * 40000000 : Nat) : Int) span.toNat) ∧ StoresKept s t ∧
        ∀ q, q ≠ g.val → t.chip.chan q = s.chip.chan q)

/-- Switches and their protection (R260 to R263, R265 to R268, R279): the end of a running PWM period begins the next with the present
duty and period; a measurement gives load current and terminal voltage; an overload that has lasted, or a junction at its limit, opens
the switch and the third trip within 60 s latches it off; a retry ends the wait; foreign voltage, open load and a switch stuck on set
their conditions once they have stood for their time, and a terminal that is free again ends the first. -/
def Obligations.SwitchesAndLoads : Prop :=
  ∀ (g : Fin 128) (s : State), Shaped s →
    ((s.chip.chan g).pwmOn = true → (s.chip.chan g).pwmAt + (s.chip.chan g).pwmLen ≤ s.chip.now →
      s.chip.get (chanAt g) Dig.pwm_period ≠ 0 → ∃ t, exec (.pwmPeriodEnd g) s = .next t ∧
        (t.chip.chan g).pwmAt = (s.chip.chan g).pwmAt + (s.chip.chan g).pwmLen ∧
        (t.chip.chan g).pwmLen = s.chip.get (chanAt g) Dig.pwm_period ∧ (t.chip.chan g).pwmOn = true ∧
        (t.chip.chan g).duty = s.chip.get (chanAt g) Chan.command ∧ (t.chip.chan g).closed = s.chip.mayClose g ∧
        StoresKept s t ∧ ∀ q, q ≠ g.val → t.chip.chan q = s.chip.chan q) ∧
    (∀ tenthMa termMv : BitVec 16, doMode (s.chip.mode g) = true → s.chip.clkLost (g / 16) 4 = false →
      s.chip.tongsWait (chanTongs g 4) = false → (s.chip.measuredSince g 1000 = false ∨ s.chip.phaseEnd g = true) →
      ∃ t, exec (.loadCurrentMeasurement g tenthMa termMv) s = .next t ∧
        t.chip.get (chanAt g) Dig.load = tenthMa.toNat ∧ t.chip.get (chanAt g) Chan.term_mv = termMv.toNat ∧
        (t.chip.chan g).tripTicks = (s.chip.chan g).tripTicks.filter (fun k => s.chip.now < k + 60000000) ∧
        (s.chip.switchOn g = true → tenthMa.toNat ≤ 6000 → (t.chip.chan g).overRun = 0 ∧ (t.chip.chan g).overFrom = s.chip.now) ∧
        StoresKept s t ∧ ∀ q, q ≠ g.val → t.chip.chan q = s.chip.chan q) ∧
    (∀ (thermal : Bool) (ma : BitVec 16), doMode (s.chip.mode g) = true → s.chip.switchOn g = true → s.chip.guarded g = false →
      (thermal = true ∨ (600 < ma.toNat ∧ 1000 * s.chip.get (chanAt g) Dig.overload_ms ≤ s.chip.overTime g)) →
      ∃ t, exec (.switchTrip g thermal ma) s = .next t ∧ (t.chip.chan g).closed = false ∧
        (let n := ((s.chip.chan g).tripTicks.filter (fun k => s.chip.now < k + 60000000)).length + 1
         (t.chip.chan g).latched = decide (3 ≤ n) ∧ (t.chip.chan g).waiting = decide (n < 3)) ∧
        t.chip.dNow g (if thermal then dTherm else dOverload) = true ∧ StoresKept s t ∧
        ∀ q, q ≠ g.val → t.chip.chan q = s.chip.chan q) ∧
    ((s.chip.chan g).waiting = true → (s.chip.chan g).tripAt + 1000 * s.chip.get (chanAt g) Dig.retry_ms ≤ s.chip.now →
      s.chip.guarded g = false → ∃ t, exec (.switchRetry g) s = .next t ∧ (t.chip.chan g).waiting = false ∧
        t.chip.dNow g dOverload = false ∧ t.chip.dNow g dTherm = false ∧
        (t.chip.chan g).closed = (((s.chip.chan g).pwmOn || s.chip.cmdOn g (s.chip.get (chanAt g) Chan.command)) &&
          t.chip.mayClose g) ∧ StoresKept s t ∧ ∀ q, q ≠ g.val → t.chip.chan q = s.chip.chan q) ∧
    (∀ feeder : Option (Fin 128), s.chip.mode g = 9 → s.chip.switchOn g = false → s.chip.dNow g dBackFed = false →
      s.chip.judged g = true → s.chip.stood g .high 10000 = true →
      (s.chip.shared g = true → s.chip.flag pairAt Pair.partner = true → (s.chip.chan g).partnerOn = false ∧
        s.chip.cmdOn g (s.chip.get (chanAt g) Chan.command) = false) →
      ∃ t, exec (.backFed g feeder) s = .next t ∧ t.chip.dNow g dBackFed = true ∧
        t.chip.get (chanAt g) Dig.cross_src = (s.chip.feederOf g (feeder.map (·.val))).getD 0xFF ∧
        ((s.chip.feederOf g (feeder.map (·.val))).isSome = true → t.chip.dNow g dCrossFed = true) ∧
        t.chip.chans = s.chip.chans ∧ StoresKept s t) ∧
    (s.chip.dNow g dBackFed = true → s.chip.stood g .low 10000 = true → s.chip.judged g = true →
      ∃ t, exec (.backFedEnd g) s = .next t ∧ t.chip.dNow g dBackFed = false ∧
        t.chip.dNow g dCrossFed = false ∧ t.chip.get (chanAt g) Dig.cross_src = 0xFF ∧ t.chip.chans = s.chip.chans ∧
        StoresKept s t) ∧
    (∀ tenthMa : BitVec 16, doMode (s.chip.mode g) = true → s.chip.judged g = true → (s.chip.chan g).pwmOn = false →
      (s.chip.dNow g dOpenLoad = true → s.chip.stood g .loaded 100000 = true →
        10 * (s.chip.get (chanAt g) Dig.open_thr + 1) ≤ s.chip.loadSum g tenthMa.toNat →
        ∃ t, exec (.openLoad g tenthMa true) s = .next t ∧ t.chip.dNow g dOpenLoad = false ∧ t.chip.chans = s.chip.chans ∧
          StoresKept s t) ∧
      (s.chip.dNow g dOpenLoad = false → s.chip.switchOn g = true → s.chip.stood g .unloaded 100000 = true →
        s.chip.loadSum g tenthMa.toNat < 10 * s.chip.get (chanAt g) Dig.open_thr →
        ∃ t, exec (.openLoad g tenthMa false) s = .next t ∧ t.chip.dNow g dOpenLoad = true ∧ t.chip.chans = s.chip.chans ∧
          StoresKept s t) ∧
      (s.chip.dNow g dStuckOn = false → s.chip.switchOn g = false → s.chip.stood g .stuck 10000 = true → 50 < tenthMa.toNat →
        ∃ t, exec (.stuckOn g tenthMa) s = .next t ∧ t.chip.dNow g dStuckOn = true ∧
          t.chip.get (chanAt g) Dig.stuck_on = 1 ∧ t.chip.chans = s.chip.chans ∧ StoresKept s t))

/-- Shared outputs and foreign current (R238, R239, R270, R277, R425): a foreign current that has stood for 10 ms turns the stage of an
AO-I off until it has been gone for 100 ms; the modules of a pair exchange what they command and carry; the trim of a shared current
stays within 2.0 mA; a share ramp lasts 20 ms and ends. -/
def Obligations.SharedOutputs : Prop :=
  ∀ (g : Fin 128) (s : State), Shaped s →
    (s.chip.guarded g = false →
      (∀ ua : BitVec 32, s.chip.mode g = 6 → (s.chip.chan g).extOff = false → s.chip.stood g .above 10000 = true →
        milli (s.chip.get (chanAt g) Chan.command) + (if s.chip.shared g = true ∧ s.chip.flag pairAt Pair.partner = true then 2500 else 1000) < ua.toInt →
        ∃ t, exec (.extSrc g ua) s = .next t ∧ (t.chip.chan g).extOff = true ∧ t.chip.get (chanAt g) Chan.bellows_mv = 4000 ∧
          t.chip.aNow g fExtSrc = true ∧ StoresKept s t ∧ ∀ q, q ≠ g.val → t.chip.chan q = s.chip.chan q) ∧
      (∀ ua : BitVec 32, (s.chip.chan g).extOff = true → s.chip.stood g .gone 100000 = true → ua.toInt < 500 →
        ∃ t, exec (.extSrcEnd g ua) s = .next t ∧
          (t.chip.chan g).extOff = false ∧ t.chip.aNow g fExtSrc = false ∧ StoresKept s t ∧
          ∀ q, q ≠ g.val → t.chip.chan q = s.chip.chan q)) ∧
    (∀ (on : Bool) (load : BitVec 16) (low : Bool), s.chip.shared g = true → s.chip.mode g = 9 →
      s.chip.flag pairAt Pair.partner = true → ∃ t, exec (.sharedDoExchange g on load low) s = .next t ∧
        (t.chip.chan g).partnerOn = on ∧ (t.chip.chan g).partnerLoad = load.toNat ∧ StoresKept s t ∧
        ∀ q, q ≠ g.val → t.chip.chan q = s.chip.chan q) ∧
    (∀ own partner : BitVec 32, s.chip.shared g = true → s.chip.mode g = 6 → (s.chip.chan g).extOff = false →
      (s.chip.chan g).partnerExt = false → (s.chip.chan g).tempering = false → s.chip.get pairAt Pair.lease_state = 2 →
      (s.chip.chan g).ramp = 0 → (s.chip.chan g).full = false →
      s.chip.loopCmd g ≤ 8 * partner.toInt →
      ∃ t, exec (.splitSourceMeasurement g own partner false) s = .next t ∧
        (t.chip.chan g).trim = clampI (-2000) 2000 ((s.chip.chan g).trim +
          (s.chip.loopCmd g - (own.toInt + partner.toInt))) ∧
        (t.chip.chan g).share = s.chip.loopCmd g / 2 + (t.chip.chan g).trim ∧
        (t.chip.chan g).lowRun = 0 ∧ t = { s with chip := { s.chip with chans := t.chip.chans } } ∧
        ∀ q, q ≠ g.val → t.chip.chan q = s.chip.chan q) ∧
    ((s.chip.chan g).ramp ≠ 0 → (s.chip.chan g).tempering = false → (s.chip.chan g).rampAt + 20000 ≤ s.chip.now →
      ∃ t, exec (.shareRampEnd g) s = .next t ∧ (t.chip.chan g).ramp = 0 ∧ StoresKept s t ∧
        ∀ q, q ≠ g.val → t.chip.chan q = s.chip.chan q)

/-- The loop engine's instants (R283, R284, R297): an instant of a loop in use queues its computation and sets the next instant
one period on; a free slice begins it; an instant that finds the last computation still waiting counts a miss. -/
def Obligations.LoopInstants : Prop :=
  ∀ (n : Fin 256) (s : State), Shaped s → s.chip.loopUsed n = true → (s.chip.slice (n / 32)).stopped = false →
    s.chip.phase = 8 → (s.chip.loop n).nextAt ≤ s.chip.now →
    ((s.chip.loop n).job = none → (s.chip.slice (n / 32)).running ≠ none → ∃ t, exec (.loopSampleDue n) s = .next t ∧
      (t.chip.loop n).job = some (s.chip.loop n).nextAt ∧
      (t.chip.loop n).nextAt = (s.chip.loop n).nextAt + s.chip.get (loopAt n) Loop.period ∧
      t = { s with chip := { s.chip with loops := t.chip.loops } } ∧
      ∀ k, k ≠ n.val → t.chip.loop k = s.chip.loop k) ∧
    ((∀ k < 32, (s.chip.loop (32 * (n / 32) + k)).job = none) → (s.chip.slice (n / 32)).running = none →
      ∃ t res, exec (.loopSampleDue n) s = .next t ∧ (t.chip.slice (n / 32)).running = some res ∧ res.loop = n.val ∧
        res.instant = (s.chip.loop n).nextAt ∧ res.began = s.chip.now ∧ (t.chip.loop n).job = some (s.chip.loop n).nextAt ∧
        StoresKept s t ∧ ∀ k, k ≠ n.val → t.chip.loop k = s.chip.loop k) ∧
    (∀ res, (s.chip.loop n).job ≠ none → (s.chip.slice (n / 32)).running = some res → res.loop ≠ n.val →
      ∃ t, exec (.loopSampleDue n) s = .next t ∧ (t.chip.loop n).missed = true ∧
        (t.chip.loop n).job = some (s.chip.loop n).nextAt ∧ (t.chip.loop n).missAt = some s.chip.now ∧
        t.chip.get (loopAt n) Loop.missed = min (s.chip.get (loopAt n) Loop.missed + 1) Loop.missed.top ∧
        t.chip.get (loopAt n) Loop.missed_f = 1 ∧ StoresKept s t ∧
        WordsKept (fun a => a = Loop.missed.at (loopAt n) 0 ∨ a = Loop.missed_f.at (loopAt n) 0 ∨
          a = LSlice.misses_total.at (regionAt (n / 32)) 0 ∨ recorderWord a) s t)

/-- The commit of a loop computation (R284, R288): the values it formed are written whole, wherever its output goes, and stamped with
their instant; that of a loop whose output stays in its own words writes nothing beyond them and counts the sample; and the loop's
and slice's commands and load window (R296, R302, R303). -/
def Obligations.LoopResults : Prop :=
  ∀ (n : Fin 256) (s : State), Shaped s →
    (∀ res (time : BitVec 16), (s.chip.slice (n / 32)).running = some res → res.loop = n.val →
      res.sect.length = 8 → srcKind (s.chip.get (loopAt n) Loop.out_dst) = 0 → s.chip.mirrors = false →
      (∀ k, k ≠ n.val → (s.chip.loop k).job = none) →
      ∃ t, exec (.loopComputationCommit n time) s = .next t ∧ (t.chip.slice (n / 32)).running = none ∧
        (t.chip.loop n).job = none ∧ (t.chip.loop n).missed = false ∧ (t.chip.loop n).man = res.man ∧
        t.chip.get (loopAt n) Loop.pv = unsigned 32 res.pv ∧ t.chip.get (loopAt n) Loop.sp_now = unsigned 32 res.sp ∧
        t.chip.get (loopAt n) Loop.err = unsigned 32 res.err ∧ t.chip.get (loopAt n) Loop.out = unsigned 32 res.out ∧
        t.chip.get (loopAt n) Loop.sample_tick = res.instant % 2 ^ 32 ∧
        t.chip.get (loopAt n) Loop.samples = (s.chip.get (loopAt n) Loop.samples + 1) % 2 ^ 32 ∧
        t.chip.get (loopAt n) Loop.comp_last = time.toNat ∧ StoresKept s t ∧
        WordsKept (fun a => (loopAt n ≤ a ∧ a < loopAt n + 256) ∨ recorderWord a) s t ∧
        ∀ k, k ≠ n.val → t.chip.loop k = s.chip.loop k) ∧
    (∀ res (time : BitVec 16), (s.chip.slice (n / 32)).running = some res → res.loop = n.val → res.sect.length = 8 →
      s.chip.mirrors = false → ∃ t, exec (.loopComputationCommit n time) s = .next t ∧
        t.chip.get (loopAt n) Loop.pv = unsigned 32 res.pv ∧ t.chip.get (loopAt n) Loop.sp_now = unsigned 32 res.sp ∧
        t.chip.get (loopAt n) Loop.err = unsigned 32 res.err ∧ t.chip.get (loopAt n) Loop.out = unsigned 32 res.out ∧
        t.chip.get (loopAt n) Loop.sample_tick = res.instant % 2 ^ 32 ∧ StoresKept s t) ∧
    (s.chip.opens (n / 32) = false → exec (.resetStates n) s = .next s ∧ exec (.loopClearStats n) s = .next s) ∧
    (s.chip.opens (n / 32) = true → ∃ t, exec (.resetStates n) s = .next t ∧ (t.chip.loop n).resetAsk = true ∧ t.chip.get (loopAt n) Loop.result = 2 ∧
      t = { s with chip := { s.chip with regs := t.chip.regs, loops := t.chip.loops } } ∧
      WordsKept (fun a => a = Loop.result.at (loopAt n) 0) s t ∧ ∀ k, k ≠ n.val → t.chip.loop k = s.chip.loop k) ∧
    (s.chip.opens (n / 32) = true → ∃ t, exec (.loopClearStats n) s = .next t ∧ t.chip.get (loopAt n) Loop.comp_max = 0 ∧
      t.chip.get (loopAt n) Loop.missed = 0 ∧ t.chip.get (loopAt n) Loop.result = 2 ∧
      t.chip.get (loopAt n) Loop.samples = s.chip.get (loopAt n) Loop.samples ∧
      t = { s with chip := { s.chip with regs := t.chip.regs } }) ∧
    (∀ r : Fin 8, s.chip.opens r = false → exec (.clearSlice r) s = .next s) ∧
    (∀ r : Fin 8, s.chip.opens r = true → ∃ t, exec (.clearSlice r) s = .next t ∧ t.chip.get (regionAt r) LSlice.load_max = 0 ∧
      t.chip.get (regionAt r) LSlice.misses_total = 0 ∧
      t.chip.get (regionAt r) LSlice.load_last = s.chip.get (regionAt r) LSlice.load_last ∧
      t = { s with chip := { s.chip with regs := t.chip.regs } }) ∧
    (∀ r : Fin 8, (s.chip.slice r).stopped = false → (s.chip.slice r).windowAt + 100000 ≤ s.chip.now →
      (s.chip.slice r).running = none → ∃ t, exec (.sliceLoadWindow r) s = .next t ∧
        t.chip.get (regionAt r) LSlice.load_last = min ((s.chip.slice r).busy / 1000) 0xFFFF ∧
        t.chip.get (regionAt r) LSlice.load_max =
          max (min ((s.chip.slice r).busy / 1000) 0xFFFF) (s.chip.get (regionAt r) LSlice.load_max) ∧
        (t.chip.slice r).busy = 0 ∧ (t.chip.slice r).windowAt = (s.chip.slice r).windowAt + 100000 ∧
        t = { s with chip := { s.chip with regs := t.chip.regs, slices := t.chip.slices } } ∧
        ∀ q, q ≠ r.val → t.chip.slice q = s.chip.slice q)

/-- Axes in motion and at standstill (R308 to R310, R322): an update, 10 µs or more after the last, takes the sensed currents and the junction; an axis on its
way to a target moves by the speed the profile gives, an energised axis at rest stays where it is; after hold_delay at standstill
the current changes to i_hold. -/
def Obligations.AxisMotion : Prop :=
  ∀ (x : Fin 16) (s : State), Shaped s →
    (∀ ia ib tj : BitVec 16, s.chip.clkLost (x / 2) 5 = false → (s.chip.ax x).genAt + 10 ≤ s.chip.now →
      ∃ t, exec (.generatorUpdate x ia ib tj) s = .next t ∧
      t.chip.get (axisAt x) Axis.ia_ma = ia.toNat ∧ t.chip.get (axisAt x) Axis.ib_ma = ib.toNat ∧
      t.chip.get (axisAt x) Axis.bridge_tj = tj.toNat ∧ (t.chip.ax x).genAt = s.chip.now ∧ StoresKept s t ∧
      (∀ y, y ≠ x.val → t.chip.ax y = s.chip.ax y) ∧
      (s.chip.stageOn x = false → t = { s with chip := { s.chip with regs := t.chip.regs, axes := t.chip.axes } } ∧
        (t.chip.ax x).p = (s.chip.ax x).p ∧ (t.chip.ax x).v = (s.chip.ax x).v) ∧
      ((s.chip.ax x).motion = .still → (s.chip.ax x).v = 0 → (s.chip.ax x).mode ≠ 3 → (t.chip.ax x).p = (s.chip.ax x).p ∧ (t.chip.ax x).v = (s.chip.ax x).v) ∧
      (∀ target : Int, s.chip.stageOn x = true → (s.chip.ax x).motion = .goto target false 0 → (s.chip.ax x).mode = 2 →
        0 < (s.chip.ax x).v → 16 ≤ s.chip.get (axisAt x) Axis.lim_pos → 16 ≤ s.chip.get (axisAt x) Axis.lim_neg →
        (let h := s.chip.ax x
         let (u, dist) := ramp h.prof 3 h.speed (vFix h.prof.vm) updatePs
         0 < u → 0 < pFix target - h.p - dist → (t.chip.ax x).v = u ∧ (t.chip.ax x).p = h.p + dist ∧
           (t.chip.ax x).motion = .goto target (decide (pFix target - h.p - dist ≤ decDist h.prof u)) 0))) ∧
    (s.chip.stageOn x = true → (s.chip.ax x).atStill = true → (s.chip.ax x).holding = false →
      (s.chip.ax x).stillAt + 1000 * s.chip.get (axisAt x) Axis.hold_delay ≤ s.chip.now →
      ¬ (s.chip.flag (axisAt x) Axis.idle_off = true ∧ s.chip.get (axisAt x) Axis.i_hold = 0) →
      ∃ t, exec (.holdCurrentSwitch x) s = .next t ∧ (t.chip.ax x).holding = true ∧
        t = { s with chip := { s.chip with axes := t.chip.axes } } ∧ ∀ y, y ≠ x.val → t.chip.ax y = s.chip.ax y)

/-- Driver faults and the commands of an axis (R327, R332, R335): a fault of an energised stage, where what was sensed bears it out,
stops it and latches its cause; a bridge found too hot while the stage is off joins what is latched; clear_fault ends the fault where
every cause has gone, and answers 3 in a shadow or while one lasts; clear_stats ends the statistics; the Z edge of an encoder copies
its count. -/
def Obligations.AxisFaultsAndCommands : Prop :=
  ∀ (x : Fin 16) (s : State), Shaped s →
    (∀ (phaseB : Bool) (cause : Fin 3), s.chip.stageOn x = true → s.chip.driverShows x phaseB cause.val = true → ∃ t, exec (.driverFault x phaseB cause) s = .next t ∧
      (t.chip.ax x).fault = 2 ^ (cause.val + 1) ∧ (t.chip.ax x).v = 0 ∧ (t.chip.ax x).act = none ∧ t.chip.stageOn x = false ∧
      StoresKept s t ∧ ∀ y, y ≠ x.val → t.chip.ax y = s.chip.ax y) ∧
    (∀ phaseB : Bool, s.chip.axUsed x = true → s.chip.stageOn x = false → s.chip.driverShows x phaseB 2 = true →
      (s.chip.ax x).fault.testBit 3 = false → ∃ t, exec (.driverFault x phaseB 2) s = .next t ∧
        (t.chip.ax x).fault = (s.chip.ax x).fault + 8 ∧ (t.chip.ax x).v = (s.chip.ax x).v ∧ (t.chip.ax x).act = (s.chip.ax x).act ∧
        StoresKept s t ∧ ∀ y, y ≠ x.val → t.chip.ax y = s.chip.ax y) ∧
    (s.chip.opens (x / 2) = false → exec (.clearFault x) s = .next s ∧ exec (.axisClearStats x) s = .next s) ∧
    (s.chip.opens (x / 2) = true → s.chip.shadow = true ∨ (∃ cause ∈ (s.chip.ax x).faults, s.chip.driverClear x cause = false) →
      ∃ t, exec (.clearFault x) s = .next t ∧ t.chip.get (axisAt x) Axis.result = 3 ∧
        t = { s with chip := { s.chip with regs := t.chip.regs } } ∧
        WordsKept (fun a => a = Axis.result.at (axisAt x) 0) s t) ∧
    (s.chip.opens (x / 2) = true → s.chip.shadow = false → ((s.chip.ax x).fault = 0 ∨ (s.chip.ax x).faults ≠ []) →
      (∀ cause ∈ (s.chip.ax x).faults, s.chip.driverClear x cause = true) → ∃ t, exec (.clearFault x) s = .next t ∧
      t.chip.get (axisAt x) Axis.result = 2 ∧ (t.chip.ax x).fault = 0 ∧ StoresKept s t ∧
      ∀ y, y ≠ x.val → t.chip.ax y = s.chip.ax y) ∧
    (s.chip.opens (x / 2) = true → ∃ t, exec (.axisClearStats x) s = .next t ∧ t.chip.get (axisAt x) Axis.moves = 0 ∧
      t.chip.get (axisAt x) Axis.travel = 0 ∧ t.chip.get (axisAt x) Axis.result = 2 ∧ (t.chip.ax x).trip = 0 ∧
      (t.chip.ax x).p = (s.chip.ax x).p ∧
      t = { s with chip := { s.chip with regs := t.chip.regs, axes := t.chip.axes } } ∧
      ∀ y, y ≠ x.val → t.chip.ax y = s.chip.ax y) ∧
    (∀ e : Fin 2, s.chip.get (regionAt e) Enc.enc_mode ≠ 0 → ∃ t, exec (.encoderZEdge e) s = .next t ∧
      t.chip.get (regionAt e) Enc.z_count = s.chip.get (regionAt e) Enc.count ∧
      t = { s with chip := { s.chip with regs := t.chip.regs } } ∧
      WordsKept (fun a => a = Enc.z_count.at (regionAt e) 0) s t)

/-- The cycle of a safety slice (R336 to R339, R355): when the time for it has come, a running slice counts its cycle and, with its
partner's message there, goes on; once in the cycle it sets its cut masks, and once it sends its inputs, states and count; it takes its
partner's message, stops with cause 1 where the two counts lie more than one cycle further apart than when their difference changed last,
and with cause 3 at the third disagreement in a row. The times are those of log
entry 129. -/
def Obligations.SliceCycle : Prop :=
  ∀ (r : Fin 8) (s : State), Shaped s → s.chip.isleRuns r = true → (∀ f ∈ s.chip.fnsOf r, f.outCc < 16 ∨ f.outCc = 0xFF) →
    ((s.chip.isle r).fresh = true → s.chip.isleTime r 500 = true → s.chip.flag (isleAt (mate r)) Isle.latched = false → ∃ t, exec (.safetyCycle r) s = .next t ∧
      t.chip.get (isleAt r) Isle.cycles = (s.chip.get (isleAt r) Isle.cycles + 1) % 2 ^ 32 ∧
      (t.chip.isle r).fresh = false ∧ (t.chip.isle r).miss = 0 ∧ (t.chip.isle r).cycleAt = s.chip.now ∧
      (t.chip.isle r).outDone = false ∧ (t.chip.isle r).msgDone = false ∧ StoresKept s t) ∧
    ((s.chip.isle r).outDone = false → s.chip.isleTime r 400 = true → ∃ t, exec (.safetyOutputSet r) s = .next t ∧
      (∀ k < 16, t.chip.sys.cutCh.testBit (16 * r + k) = (s.chip.cutMask r).testBit k) ∧
      (∀ k < 2, t.chip.sys.cutAx.testBit (2 * r + k) = (s.chip.cutMask r).testBit (16 + k)) ∧ StoresKept s t ∧
      (t.chip.isle r).outDone = true ∧ t.chip.safe.sfs = s.chip.safe.sfs ∧ ∀ q, q ≠ r.val → t.chip.isle q = s.chip.isle q) ∧
    ((s.chip.isle r).msgDone = false → s.chip.isleTime r 450 = true → ∃ t, exec (.sliceMessageSend r) s = .next t ∧
      (t.chip.isle r).out = some ⟨(s.chip.isle r).ins.map (fun i => (i.g, i.level, i.since)),
        (List.range 8).map (s.chip.sfState r), s.chip.get (isleAt r) Isle.cycles, false⟩ ∧
      (t.chip.isle r).msgDone = true ∧ t = { s with chip := { s.chip with safe := t.chip.safe } } ∧ ∀ q, q ≠ r.val → t.chip.isle q = s.chip.isle q) ∧
    (∀ m, (s.chip.isle (mate r)).out = some m →
      (∀ d : Int, d = signed 32 (tickDiff m.cycles (s.chip.get (isleAt r) Isle.cycles)) →
        ((∀ f ∈ s.chip.fnsOf r, s.chip.sfState r f.j = nth 0 m.states f.j) →
          (∀ e ∈ (s.chip.isle r).drift, (d - e.2).natAbs ≤ 1) →
          ∃ t, exec (.sliceMessageReceive r) s = .next t ∧ (t.chip.isle r).msg = some m ∧ (t.chip.isle r).fresh = true ∧
            (t.chip.isle r).differ = 0 ∧ (t.chip.isle r).drift.head?.map (·.2) = some d ∧
            (t.chip.isle (mate r)).out = none ∧ t.chip.get (isleAt r) Isle.xlink_ok = 1 ∧
            t = { s with chip := { s.chip with regs := t.chip.regs, safe := t.chip.safe } }) ∧
        ((s.chip.isle r).differ = 0 → (∃ e ∈ (s.chip.isle r).drift.take 1, 1 < (d - e.2).natAbs) →
          ∃ t, exec (.sliceMessageReceive r) s = .next t ∧ t.chip.isleRuns r = false ∧
            t.chip.get (isleAt r) Isle.stop_cause = 1 ∧ StoresKept s t)) ∧
      ((∃ f ∈ s.chip.fnsOf r, s.chip.sfState r f.j ≠ nth 0 m.states f.j) → 2 ≤ (s.chip.isle r).differ →
        ∃ t, exec (.sliceMessageReceive r) s = .next t ∧ t.chip.isleRuns r = false ∧
          t.chip.get (isleAt r) Isle.stop_cause = 3 ∧ t.chip.flag (isleAt r) Isle.latched = true ∧ StoresKept s t))

/-- Stops, starts and commands of a safety slice (R340, R341, R372, R373): a stop clears running and holds its cause; a start
test that passes starts both slices of the pair, one that fails leaves both stopped with cause 2; the restart command is accepted
from a safety engineer alone; clear_counts clears the counts. -/
def Obligations.SliceStopsAndStarts : Prop :=
  ∀ s : State, Shaped s →
    (∀ (r : Fin 8) (cause : Fin 9), s.chip.isleRuns r = true → (∀ f ∈ s.chip.fnsOf r, f.outCc < 16 ∨ f.outCc = 0xFF) →
      cause ≠ 0 → ∃ t, exec (.sliceStopped r cause) s = .next t ∧ t.chip.isleRuns r = false ∧
        t.chip.get (isleAt r) Isle.stop_cause = cause.val ∧ t.chip.flag (isleAt r) Isle.latched = true ∧
        t.chip.flag (isleAt r) Isle.xlink_ok = false ∧ (t.chip.isle r).out = none ∧ StoresKept s t) ∧
    (∀ k : Fin 4, s.chip.fitted (2 * k) = true → s.chip.fitted (2 * k + 1) = true →
      3 ≤ s.chip.phase →
      s.chip.get (isleAt (2 * k)) Isle.result = 1 → s.chip.get (isleAt (2 * k + 1)) Isle.result = 1 →
      s.chip.isleRuns (2 * k) = false → s.chip.isleRuns (2 * k + 1) = false →
      (s.chip.isleHeld (2 * k) = false → s.chip.isleHeld (2 * k + 1) = false →
        ∃ t, exec (.startTestDone k true true) s = .next t ∧ t.chip.isleRuns (2 * k) = true ∧
          t.chip.isleRuns (2 * k + 1) = true ∧ t.chip.get (isleAt (2 * k)) Isle.result = 2 ∧
          t.chip.get (isleAt (2 * k + 1)) Isle.result = 2 ∧ t.chip.get (isleAt (2 * k)) Isle.cycles = 0 ∧ StoresKept s t) ∧
      (∀ okEven okOdd, (okEven = false ∨ s.chip.isleHeld (2 * k) = true) → ∃ t, exec (.startTestDone k okEven okOdd) s = .next t ∧
        t.chip.get (isleAt (2 * k)) Isle.stop_cause = 2 ∧ t.chip.get (isleAt (2 * k)) Isle.result = 4 ∧
        t.chip.get (isleAt (2 * k + 1)) Isle.result = 4 ∧ t.chip.isleRuns (2 * k) = false ∧
        t.chip.isleRuns (2 * k + 1) = false ∧ t.chip.safe = s.chip.safe ∧ StoresKept s t)) ∧
    (∀ (session : Fin 16) (r : Fin 8), (s.chip.roleIn session [3] = false →
        exec (.sliceRestart session r) s = .next s) ∧
      (s.chip.opens r = false → exec (.sliceRestart session r) s = .next s ∧ exec (.clearCounts r) s = .next s) ∧
      (s.chip.roleIn session [3] = true → s.chip.opens r = true → s.chip.get (isleAt r) Isle.result ≠ 1 →
        (∀ f ∈ s.chip.fnsOf r, f.outCc < 16 ∨ f.outCc = 0xFF) → ∃ t, exec (.sliceRestart session r) s = .next t ∧
          t.chip.get (isleAt r) Isle.result = 1 ∧ t.chip.get (isleAt (mate r)) Isle.result = 1 ∧
          t.chip.get (isleAt r) Isle.last_cmd = 0 ∧ StoresKept s t)) ∧
    (∀ r : Fin 8, s.chip.opens r = true → s.chip.get (isleAt r) Isle.result ≠ 1 → ∃ t, exec (.clearCounts r) s = .next t ∧
      (∀ j < 8, t.chip.getI (isleAt r) Isle.trips j = 0 ∧ t.chip.getI (isleAt r) Isle.discs j = 0) ∧
      t.chip.get (isleAt r) Isle.crc_errors = 0 ∧ t.chip.get (isleAt r) Isle.seq_errors = 0 ∧
      t.chip.get (isleAt r) Isle.timeouts = 0 ∧ t.chip.get (isleAt r) Isle.jitter_errors = 0 ∧
      t.chip.get (isleAt r) Isle.xcmp_diff = 0 ∧ t.chip.get (isleAt r) Isle.result = 2 ∧
      t = { s with chip := { s.chip with regs := t.chip.regs } })

/-- Inputs and output tests of the island (R343, R344, R348, R351): a Safe-DI takes a new level only after t_f of samples that
read it; a disagreement of t_disc takes its function to state 5; a due test opens or closes its switch alone, and a test whose
current is wrong takes the function to state 6 in both slices. -/
def Obligations.SafetyInputsAndTests : Prop :=
  ∀ s : State, Shaped s →
    (∀ (g : Fin 128) (mv : BitVec 16) (f : FnCfg) (d : SafeDi), s.chip.isleRuns (g / 16) = true →
      s.chip.fnOfDi g = some f → (s.chip.isle (g / 16)).ins.find? (fun i => i.g == g.val) = some d →
      99 * 125 ≤ 100 * (s.chip.now - d.sampledAt) → ∃ t, exec (.safeDiSample g mv) s = .next t ∧
        (let level := decide ((if f.flags.testBit 3 then 8000 else 10000) ≤ mv.toInt)
         (t.chip.isle (g / 16)).ins.find? (fun i => i.g == g.val) = some
           (if level = d.level then
              (if f.tF = 0 then { d with count := 0, since := s.chip.now, sampledAt := s.chip.now }
               else { d with count := 0, sampledAt := s.chip.now })
            else if f.tF ≤ d.count + 1 then
              { d with level := level, count := 0, since := s.chip.now, sampledAt := s.chip.now }
            else { d with count := d.count + 1, sampledAt := s.chip.now })) ∧ StoresKept s t ∧
        ∀ q, q ≠ g.val / 16 → t.chip.isle q = s.chip.isle q) ∧
    (∀ (r : Fin 8) (sf : Fin 32) (f : FnCfg), s.chip.isleRuns r = true →
      (s.chip.fnsOf r).find? (fun f => f.sf == sf.val) = some f → [2, 3, 4].contains (s.chip.sfState r f.j) = true →
      s.chip.discLate r f ≠ [] → (s.chip.isle r).fns.length = 8 → ∃ t, exec (.discrepancyTimeout r sf) s = .next t ∧
        t.chip.sfState r f.j = 5 ∧ t.chip.getI (isleAt r) Isle.disc f.j = 1 ∧
        (t.chip.fnSt r f.j).in5 = s.chip.discLate r f ∧ StoresKept s t) ∧
    (∀ (sf : Fin 32) (f : FnCfg), s.chip.safe.fns.find? (fun f => f.sf == sf.val) = some f → f.outCc < 16 →
      s.chip.ownsSafe f.owner = true → s.chip.isleRuns f.base = true → s.chip.isleRuns (f.base + 1) = true →
      (s.chip.phase = 8 → (s.chip.sfSt sf).test = none →
        ((s.chip.sfSt sf).testAt + 100000 * f.tTest ≤ s.chip.now → ∃ t, exec (.outputTestStart sf false) s = .next t ∧
          (let run := s.chip.sfState (f.base + f.outHs % 2) f.j == 4
           (t.chip.sfSt sf).test = some (false, if run then 3 else 2, s.chip.now) ∧ (t.chip.sfSt sf).sinkDue = run ∧
           (t.chip.chan f.hs).closed = (!run && s.chip.switchFree f.hs)) ∧
          t = { s with chip := { s.chip with safe := t.chip.safe, chans := t.chip.chans } } ∧
          ∀ g, g ≠ f.hs → t.chip.chan g = s.chip.chan g) ∧
        ((s.chip.sfSt sf).sinkDue = true → (s.chip.sfSt sf).pulseAt + 10000 ≤ s.chip.now →
          s.chip.sfState (f.base + f.outHs % 2) f.j = 4 → ∃ t, exec (.outputTestStart sf true) s = .next t ∧
          (t.chip.sfSt sf).test = some (true, 3, s.chip.now) ∧ (t.chip.sfSt sf).sinkDue = false ∧
          (t.chip.chan f.ls).closed = false ∧
          t = { s with chip := { s.chip with safe := t.chip.safe, chans := t.chip.chans } })) ∧
      (∀ (sink : Bool) (test t0 : Nat) (tenthMa : BitVec 16), (s.chip.sfSt sf).test = some (sink, test, t0) →
        t0 + 300 ≤ s.chip.now → ∃ t, exec (.outputTestEnd sf tenthMa) s = .next t ∧ (t.chip.sfSt sf).test = none ∧
          (if test = 2 ∧ 50 < tenthMa.toNat ∨ test ≠ 2 ∧ 50 ≤ tenthMa.toNat then
            t.chip.sfState f.base f.j = 6 ∧ t.chip.sfState (f.base + 1) f.j = 6
           else t.chip.sfState f.base f.j = s.chip.sfState f.base f.j ∧
            t.chip.sfState (f.base + 1) f.j = s.chip.sfState (f.base + 1) f.j) ∧ StoresKept s t))

/-- Safety frames (R359, R360, Table 12.6): a frame of the connection that every field and the CRC confirm, that the last accepted one
neither equals in number nor contradicts in time, restores a connection in fault as the third of a row and gives its data; one of
another length counts a CRC error, breaks such a row, and leaves a connection that stands as it is. -/
def Obligations.SafetyFrames : Prop :=
  ∀ (k : Fin 16) (x : ConnCfg) (r : Fin 8) (s : State), Shaped s → s.chip.conn k = some x → x.produce = false →
    x.station = true → s.chip.ownsSafe x.owner = true → r.val ∈ s.chip.consumers k → (s.chip.isle r).conns.length = 16 →
    (∀ (seq tick : Nat) (data : List Byte), (nth {} (s.chip.isle r).conns k).state = 2 →
      2 ≤ (nth {} (s.chip.isle r).conns k).passed →
      ((nth {} (s.chip.isle r).conns k).heard = true → seq ≠ (nth {} (s.chip.isle r).conns k).seq ∧
        (tickDiff tick (nth {} (s.chip.isle r).conns k).tick - (s.chip.now - (nth {} (s.chip.isle r).conns k).rxAt : Int)).natAbs
          ≤ 100 * x.tJit) → x.connId < 2 ^ 32 → x.tExp < 2 ^ 16 → x.n < 256 → data.length = x.n →
      seq < 2 ^ 16 → tick < 2 ^ 32 → ∃ t,
        exec (.safetyFrameReceive k ((safetyFrame x seq tick false (data.map (·.toNat))).map (BitVec.ofNat 8))) s = .next t ∧
        (nth {} (t.chip.isle r).conns k).state = 1 ∧ (nth {} (t.chip.isle r).conns k).seq = seq ∧
        (nth {} (t.chip.isle r).conns k).tick = tick ∧ (nth {} (t.chip.isle r).conns k).rxAt = s.chip.now ∧
        (nth {} (t.chip.isle r).conns k).data = data.map (·.toNat) ∧ StoresKept s t) ∧
    (∀ bytes : List Byte, bytes.length ≠ 20 + x.n → ∃ t, exec (.safetyFrameReceive k bytes) s = .next t ∧
      t.chip.get (isleAt r) Isle.crc_errors = min (s.chip.get (isleAt r) Isle.crc_errors + 1) Isle.crc_errors.top ∧
      (nth {} (t.chip.isle r).conns k).state =
        (if (nth {} (s.chip.isle r).conns k).state = 3 then 2 else (nth {} (s.chip.isle r).conns k).state) ∧
      (nth {} (t.chip.isle r).conns k).data = (nth {} (s.chip.isle r).conns k).data ∧
      t = { s with chip := { s.chip with regs := t.chip.regs, safe := t.chip.safe } })

/-- Frames on a CAN port (R377, R380, R390, R393, R394): a frame received goes into the ring with its tick, identifier and number;
the port starts the waiting frame of highest priority, which crosses to the bus once; a receive error raises the receive counter by 1
or 8, and a bit error in the port's own error flag the transmit counter by 8; recovery from bus-off, 128 times 11 bits after it,
clears both counters. A port that is not on the bus receives nothing. -/
def Obligations.PortReceiveAndStart : Prop :=
  ∀ (r : Fin 8) (s : State), Shaped s →
    (∀ (id : BitVec 29) (ide fd brs esi rtr : Bool) (data : List Byte),
      (s.chip.portLive r = false → exec (.canFrameReceived r id ide fd brs esi rtr data) s = .next s) ∧
      (s.chip.portLive r = true → (fd = true → s.chip.flag (portAt r) Port.fd_en = true) →
        (∀ k ∈ (s.chip.port r).stas, k.station < 64) → ∃ t,
        exec (.canFrameReceived r id ide fd brs esi rtr data) s = .next t ∧
        (let n := s.chip.get (portAt r) Port.rx_count
         let a := ringAt r (n % 2048)
         t.chip.get (portAt r) Port.rx_count = (n + 1) % 2 ^ 32 ∧ t.chip.nat a = s.chip.now % 2 ^ 32 ∧
         t.chip.nat (a + 1) = id.toNat + (if ide then 2 ^ 31 else 0) ∧ t.chip.nat (a + 3) = n ∧
         (rtr = false → data.length ≤ 64 → 4 ≤ data.length → t.chip.nat (a + 4) = numAt (data.map (·.toNat)) 0 4)) ∧
        (s.chip.get (portAt r) Port.rec ≤ 127 → t.chip.get (portAt r) Port.rec = s.chip.get (portAt r) Port.rec - 1) ∧
        (t.chip.port r).tx = (s.chip.port r).tx ∧ StoresKept s t)) ∧
    (s.chip.busMine r = true →
      (∀ src f, bestFrame (s.chip.waiting r) = some (src, f) → ∃ t, exec (.transmitStart r) s = .next t ∧
        (t.chip.port r).tx = some (src, f) ∧
        t.chip.emitted = s.chip.emitted ++ (if (s.chip.port r).handed.contains (src, f) = true then [] else [.can r f]) ∧
        t = { s with chip := { s.chip with regs := t.chip.regs, ports := t.chip.ports, emitted := t.chip.emitted } } ∧
        ∀ q, q ≠ r.val → t.chip.port q = s.chip.port q) ∧
      (bestFrame (s.chip.waiting r) = none → exec (.transmitStart r) s = .next s)) ∧
    (∀ eight : Bool, s.chip.portLive r = true → s.chip.flag (portAt r) Port.listen = false → ∃ t,
      exec (.receiveError r eight) s = .next t ∧
      t.chip.get (portAt r) Port.rec = min (s.chip.get (portAt r) Port.rec + (if eight then 8 else 1)) 255 ∧
      t.chip.get (portAt r) Port.err_frames =
        min (s.chip.get (portAt r) Port.err_frames + 1) Port.err_frames.top ∧ StoresKept s t) ∧
    ((s.chip.port r).tx = none → s.chip.portLive r = true → (s.chip.port r).flagUp = true →
      s.chip.get (portAt r) Port.tec ≤ 247 → ∃ t, exec (.transmitError r 5) s = .next t ∧
        t.chip.get (portAt r) Port.tec = s.chip.get (portAt r) Port.tec + 8 ∧ t.chip.ports = s.chip.ports ∧ StoresKept s t) ∧
    (s.chip.get (portAt r) Port.state = 2 → s.chip.get (portAt r) Port.off_reason = 0 →
      s.chip.bitsPassed r ((s.chip.port r).offTicks.getLastD 0) (128 * 11) = true → ∃ t,
      exec (.busOffRecovery r) s = .next t ∧ t.chip.get (portAt r) Port.state = 0 ∧ t.chip.get (portAt r) Port.tec = 0 ∧
      t.chip.get (portAt r) Port.rec = 0 ∧ t.chip.ports = s.chip.ports ∧ StoresKept s t ∧
      WordsKept (fun a => a = Port.state.at (portAt r) 0 ∨ a = Port.rec.at (portAt r) 0 ∨ recorderWord a) s t)

/-- The end of a transmission (R376, R381, R393 to R397): an acknowledged frame is counted, lowers the transmit counter and
frees its object; an error ends it and, where ISO 11898-1 counts it, raises the transmit counter by 8, beyond 255 to bus-off. -/
def Obligations.TransmissionEnds : Prop :=
  ∀ (r : Fin 8) (src : TxSrc) (f : CanFrame) (s : State), Shaped s → (s.chip.port r).tx = some (src, f) →
    (∀ j, src = .object j ∨ src = .exclusive j → j < 128) → (s.chip.port r).objs.length = 128 →
    (∀ delay : BitVec 16, s.chip.get (portAt r) Port.tec ≤ 256 → ∃ t, exec (.transmitComplete r delay) s = .next t ∧
      (t.chip.port r).tx = none ∧ t.chip.get (portAt r) Port.tec = s.chip.get (portAt r) Port.tec - 1 ∧
      t.chip.get (portAt r) Port.tx_ok = min (s.chip.get (portAt r) Port.tx_ok + 1) Port.tx_ok.top ∧
      t.chip.get (portAt r) Port.rx_count = (s.chip.get (portAt r) Port.rx_count + 1) % 2 ^ 32 ∧
      (∀ j q, src = .object j → (s.chip.obj r j).begun = some q → (t.chip.obj r j).begun = none ∧
        (t.chip.obj r j).sent = some q.content ∧ (t.chip.obj r j).pend = (s.chip.obj r j).pend ∧
        t.chip.getI (portAt r) PWord.ob_count j = min (s.chip.getI (portAt r) PWord.ob_count j + 1) (2 ^ 32 - 1)) ∧
      StoresKept s t) ∧
    exec (.transmitError r 5) s = .next s ∧
    (∀ kind : Fin 6, kind ≠ 5 → s.chip.get (portAt r) Port.state ≤ 1 → s.chip.get (portAt r) Port.tec ≤ 255 → ∃ t,
      exec (.transmitError r kind) s = .next t ∧ (t.chip.port r).tx = none ∧
      (let raise := kind = 2 ∨ kind = 3 ∨ (kind = 1 ∧ s.chip.get (portAt r) Port.state = 0)
       (¬ raise → t.chip.get (portAt r) Port.tec = s.chip.get (portAt r) Port.tec) ∧
       (raise → s.chip.get (portAt r) Port.tec ≤ 247 → t.chip.get (portAt r) Port.tec = s.chip.get (portAt r) Port.tec + 8 ∧
         t.chip.get (portAt r) Port.state ≤ 1) ∧
       (raise → 247 < s.chip.get (portAt r) Port.tec → t.chip.get (portAt r) Port.tec = 256 ∧
         2 ≤ t.chip.get (portAt r) Port.state ∧ t.chip.get (portAt r) Port.state ≤ 3)) ∧
      t.chip.get (portAt r) Port.err_frames = min (s.chip.get (portAt r) Port.err_frames + (if kind = 0 then 0 else 1))
        Port.err_frames.top ∧ StoresKept s t)

/-- A port leaves the bus and comes back (R395, R398, R404): a cause takes it off with its reason; without one it begins to rejoin;
restart clears the counters and resets its tongs, and the end of the rejoin, 11 bits after it began, puts the port into state 0; clear_counters ends the counts. -/
def Obligations.PortRestarts : Prop :=
  ∀ (r : Fin 8) (s : State), Shaped s →
    (s.chip.portCause r ≠ 0 → s.chip.get (portAt r) Port.state ≠ 4 → ∃ t, exec (.offTheBus r) s = .next t ∧
      t.chip.get (portAt r) Port.state = 4 ∧ t.chip.get (portAt r) Port.off_reason = s.chip.portCause r ∧
      (t.chip.port r).tx = none ∧ StoresKept s t ∧ ∀ q, q ≠ r.val → t.chip.port q = s.chip.port q) ∧
    (s.chip.portCause r = 0 → (1 ≤ s.chip.get (portAt r) Port.off_reason → s.chip.get (portAt r) Port.off_reason ≤ 5 →
        ∃ t, exec (.offTheBus r) s = .next t ∧ t.chip.get (portAt r) Port.off_reason = 7 ∧
          t.chip.get (portAt r) Port.tec = 0 ∧ t.chip.get (portAt r) Port.rec = 0 ∧ (t.chip.port r).restarting = false ∧
          StoresKept s t) ∧
      (s.chip.get (portAt r) Port.off_reason = 0 ∨ 5 < s.chip.get (portAt r) Port.off_reason →
        exec (.offTheBus r) s = .next s)) ∧
    (s.chip.opens r = false → exec (.portRestart r) s = .next s ∧ exec (.portClearCounters r) s = .next s) ∧
    (s.chip.opens r = true → s.chip.get (portAt r) Port.result ≠ 1 →
      (s.chip.get (portAt r) Port.state ≠ 4 → ∃ t, exec (.portRestart r) s = .next t ∧
        t.chip.get (portAt r) Port.result = 1 ∧ t.chip.get (portAt r) Port.last_cmd = 0 ∧
        t.chip.get (portAt r) Port.tec = 0 ∧ t.chip.get (portAt r) Port.rec = 0 ∧
        t.chip.get (portAt r) Port.off_reason = 7 ∧ (t.chip.port r).offTicks = [] ∧ (t.chip.port r).restarting = true ∧
        t.chip.tongsWait (tongsKey r 2 9) = true ∧ t = { s with chip := { s.chip with
          regs := t.chip.regs, ports := t.chip.ports, emitted := t.chip.emitted, sys := t.chip.sys } } ∧
        ∀ q, q ≠ r.val → t.chip.port q = s.chip.port q) ∧
      (s.chip.get (portAt r) Port.state = 4 → ∃ t, exec (.portRestart r) s = .next t ∧
        t.chip.get (portAt r) Port.result = 3 ∧ t = { s with chip := { s.chip with regs := t.chip.regs } } ∧
        WordsKept (fun a => a = Port.result.at (portAt r) 0) s t) ∧
      (∃ t, exec (.portClearCounters r) s = .next t ∧ t.chip.get (portAt r) Port.tx_ok = 0 ∧
        t.chip.get (portAt r) Port.busoffs = 0 ∧ t.chip.get (portAt r) Port.err_frames = 0 ∧
        t.chip.get (portAt r) Port.ref_missed = 0 ∧ t.chip.get (portAt r) Port.result = 2 ∧
        t.chip.get (portAt r) Port.rx_count = s.chip.get (portAt r) Port.rx_count ∧
        t = { s with chip := { s.chip with regs := t.chip.regs } })) ∧
    (s.chip.get (portAt r) Port.off_reason = 7 → s.chip.portCause r = 0 →
      s.chip.bitsPassed r (s.chip.port r).rejoinAt 11 = true → ∃ t, exec (.portRejoin r) s = .next t ∧
      t.chip.get (portAt r) Port.state = 0 ∧ t.chip.get (portAt r) Port.off_reason = 0 ∧
      (s.chip.get (portAt r) Port.result = 1 → t.chip.get (portAt r) Port.result = 2) ∧
      (t.chip.port r).rstBy = [] ∧ (t.chip.port r).restarting = false ∧ StoresKept s t ∧
      WordsKept (fun a => a = Port.state.at (portAt r) 0 ∨ a = Port.result.at (portAt r) 0 ∨ recorderWord a) s t ∧
      ∀ q, q ≠ r.val → t.chip.port q = s.chip.port q)

/-- Requests in time and the schedule of a port (R379, R387 to R392): a periodic object requests its content and waits one period
more; an inhibit time ends; a station's outputs are sent again after out_refresh; a reference message sets the cycle count, its
absence is an error after two basic cycles, and a potential master sends its own; a window begins when its column is due. -/
def Obligations.PortTimers : Prop :=
  ∀ (r : Fin 8) (s : State), Shaped s →
    (∀ (j : Fin 128) t0, (s.chip.obj r j).perAt = some t0 → t0 ≤ s.chip.now → s.chip.sendsStopped = false →
      s.chip.tongsDown r 2 = false → (s.chip.port r).objs.length = 128 → ∃ t, exec (.periodicSendDue r j) s = .next t ∧
        (t.chip.obj r j).perAt = some (t0 + 1000 * (s.chip.obj r j).period) ∧
        (t.chip.obj r j).pend = some ⟨s.chip.objBytes r j (s.chip.objContent r j), s.chip.objContent r j⟩ ∧
        (∀ k, k ≠ j.val → t.chip.obj r k = s.chip.obj r k) ∧
        t = { s with chip := { s.chip with regs := t.chip.regs, ports := t.chip.ports } }) ∧
    (∀ j : Fin 128, (∀ t0, (s.chip.obj r j).beganAt = some t0 → t0 + 1000 * (s.chip.obj r j).inhibit ≤ s.chip.now) →
      (s.chip.port r).objs.length = 128 → ∃ t, exec (.inhibitEnd r j) s = .next t ∧ (t.chip.obj r j).held = false ∧
        (t.chip.obj r j).pend = (s.chip.obj r j).pend ∧ (∀ k, k ≠ j.val → t.chip.obj r k = s.chip.obj r k) ∧
        t = { s with chip := { s.chip with ports := t.chip.ports } }) ∧
    (∀ station : Fin 64, s.chip.sendsStopped = false → s.chip.tongsDown r 2 = false → ∃ t, exec (.stationOutRefresh r station) s = .next t ∧
      (t.chip.port r).stas.length = (s.chip.port r).stas.length ∧
      (∀ (k : Nat) (st : PortSta) img, (s.chip.port r).stas[k]? = some st → st.station = station.val → st.refresh ≠ 0 →
        st.sentAt + 1000 * st.refresh ≤ s.chip.now → st.outSent = some img →
        (t.chip.port r).stas[k]? = some (st.send img s.chip.now)) ∧
      (∀ (k : Nat) (st : PortSta), (s.chip.port r).stas[k]? = some st → st.station ≠ station.val → (t.chip.port r).stas[k]? = some st) ∧
      t = { s with chip := { s.chip with ports := t.chip.ports } }) ∧
    (∀ m, s.chip.sched r = some m →
      (∀ (id : BitVec 11) (byte : BitVec 8), s.chip.portLive r = true → id.toNat / 8 = m.refId / 8 → ∃ t,
        exec (.referenceMessage r id byte) s = .next t ∧
        t.chip.get (portAt r) Port.sched_cycle = byte.toNat % 64 % m.rows ∧ (t.chip.port r).refSeen = true ∧
        (t.chip.port r).refAt = s.chip.now ∧ (t.chip.port r).col = 0 ∧
        (t.chip.port r).isMaster = (m.master && id.toNat % 8 == m.prio) ∧
        t.chip.flag (portAt r) Port.sched_err_now = false ∧ StoresKept s t) ∧
      (s.chip.mayMaster m = true → s.chip.busMine r = true → s.chip.sinceTry r (m.cycleBits + 8 + 8 * m.prio) = true →
        ∀ f : CanFrame, f = { id := m.refId, ide := false, fd := false, brs := false, data := [s.chip.nextCycle r m] } → ∃ t,
        exec (.refTimeout r) s = .next t ∧ (t.chip.port r).tx = some (.reference, f) ∧ (t.chip.port r).tryAt = s.chip.now ∧
        t.chip.emitted = s.chip.emitted ++ (if (s.chip.port r).handed.contains (.reference, f) = true then [] else [.can r f]) ∧
        t = { s with chip := { s.chip with ports := t.chip.ports, emitted := t.chip.emitted } }) ∧
      (∀ col : Fin 64, s.chip.columnDue r m col = true → ∃ t, exec (.windowStart r col) s = .next t ∧
        (t.chip.port r).col = (if col.val = 0 then m.cols else col.val) ∧
        t = { s with chip := { s.chip with regs := t.chip.regs, ports := t.chip.ports, emitted := t.chip.emitted } }) ∧
      (s.chip.phase = 8 → s.chip.get (portAt r) Port.off_reason = 0 → s.chip.flag (portAt r) Port.sched_err_now = false →
        s.chip.bitsPassed r (s.chip.port r).refAt (2 * m.cycleBits) = true →
        ∃ t, exec (.scheduleError r) s = .next t ∧ t.chip.flag (portAt r) Port.sched_err_now = true ∧
          t.chip.get (portAt r) Port.ref_missed =
            min (s.chip.get (portAt r) Port.ref_missed + 1) Port.ref_missed.top ∧
          t.chip.ports = s.chip.ports ∧ StoresKept s t))

/-- The pair lanes (R410 to R414, R493): a frame that fails its CRC (over kind and words, log entry 30) is counted, a valid one restarts the lane's and the partner's
time; heartbeats, presence and negotiation frames go out on every live lane in their periods; 3 ms of silence while the other lane
carries frames is a lane fault, which ends 100 ms after the lane carries frames again. -/
def Obligations.PairLanes : Prop :=
  ∀ s : State, Shaped s → s.chip.pair.laneAt.length = 2 → s.chip.pair.laneBad.length = 2 →
    (∀ (lane : Fin 2) (kind : Fin 16) (words : List (BitVec 32)), s.chip.laneLive lane = true → 2 ≤ s.chip.phase →
      (∀ crc : BitVec 32, crc.toNat ≠ laneCrc kind (words.map (·.toNat)) → ∃ t, exec (.laneFrameReceive lane crc kind words) s = .next t ∧
        t.chip.getI pairAt Pair.code_errors lane = min (s.chip.getI pairAt Pair.code_errors lane + 1) Pair.code_errors.top ∧
        t = { s with chip := { s.chip with regs := t.chip.regs } } ∧
        WordsKept (fun a => a = Pair.code_errors.at pairAt lane) s t) ∧
      (∀ crc : BitVec 32, crc.toNat = laneCrc kind (words.map (·.toNat)) → ∃ t, exec (.laneFrameReceive lane crc kind words) s = .next t ∧ nth 0 t.chip.pair.laneAt lane = s.chip.now ∧
        t.chip.pair.partnerAt = s.chip.now ∧ StoresKept s t)) ∧
    (s.chip.paired = true → 6 ≤ s.chip.phase → s.chip.pair.beatSent + 1000 ≤ s.chip.now → ∃ t,
      exec .heartbeat s = .next t ∧ t.chip.pair.beatSent = s.chip.now ∧ t.chip.emitted = s.chip.emitted ++
        ((List.range 2).filter s.chip.laneLive).map (fun l => .lane l 2 (s.chip.heartbeat ++ [laneCrc 2 s.chip.heartbeat])) ∧ StoresKept s t) ∧
    (s.chip.pos ≠ 0 → s.chip.panel.s2At ≠ none → s.chip.phase < 6 → s.chip.now % 10000 = 0 → ∃ t,
      exec .presenceFrame s = .next t ∧ t.chip.emitted = s.chip.emitted ++
        ((List.range 2).filter s.chip.laneLive).map (fun l => .lane l 0 [s.chip.presence, laneCrc 0 [s.chip.presence]]) ∧ StoresKept s t) ∧
    (s.chip.paired = true → s.chip.phase = 6 → s.chip.now % 10000 = 0 → ∃ t, exec .negotiationFrame s = .next t ∧
      t.chip.emitted = s.chip.emitted ++
        ((List.range 2).filter s.chip.laneLive).map (fun l => .lane l 1 (s.chip.negWords ++ [laneCrc 1 s.chip.negWords])) ∧ StoresKept s t) ∧
    (s.chip.sys.hasPair = true → 6 ≤ s.chip.phase → s.chip.now % 250 = 0 → ∃ t, exec .ownedImageSend s = .next t ∧
      (∀ l < 2, s.chip.laneLive l = true → ∃ ws, Emit.lane l 5 ws ∈ t.chip.emitted.drop s.chip.emitted.length) ∧
      t.chip.pair = { s.chip.pair with laneNext := t.chip.pair.laneNext } ∧ StoresKept s t) ∧
    (∀ lane : Fin 2, (s.chip.flag pairAt Pair.partner = true → nth 0 s.chip.pair.laneAt lane + 3000 ≤ s.chip.now →
        s.chip.now ≤ nth 0 s.chip.pair.laneAt (1 - lane) + 3000 → nth false s.chip.pair.laneBad lane = false → ∃ t,
        exec (.laneFault lane) s = .next t ∧ nth false t.chip.pair.laneBad lane = true ∧
        t.chip.get pairAt (if lane = 0 then Pair.lane_a else Pair.lane_b) = 0 ∧
        t.chip.getI pairAt Pair.lane_faults lane = min (s.chip.getI pairAt Pair.lane_faults lane + 1) Pair.lane_faults.top ∧
        StoresKept s t) ∧
      (nth false s.chip.pair.laneBad lane = true → s.chip.laneLive lane = true →
        nth 0 s.chip.pair.goodAt lane + 100000 ≤ s.chip.now → s.chip.now ≤ nth 0 s.chip.pair.laneAt lane + 3000 → ∃ t,
        exec (.laneReturn lane) s = .next t ∧ nth false t.chip.pair.laneBad lane = false ∧
        t.chip.get pairAt (if lane = 0 then Pair.lane_a else Pair.lane_b) = 1 ∧ StoresKept s t)) ∧
    (s.chip.phase = 6 → s.chip.flag surveyAt Survey.halted = false → s.chip.paired = true → s.chip.pair.neg = none →
      s.chip.pair.negAt + 1000 * s.chip.get pairAt Pair.neg_wait ≤ s.chip.now →
      (s.chip.pos ≠ 0 → s.chip.sys.hasPair = true → ∃ t, exec .negWaitTimeout s = .next t ∧ t.chip.phase = 7 ∧
        t.chip.lease = 5 ∧ t.chip.get pairAt Pair.neg_cause = 1 ∧ StoresKept s t) ∧
      (s.chip.pos = 0 ∨ s.chip.sys.hasPair = false → ∃ t, exec .negWaitTimeout s = .next t ∧ t.chip.phase = 6 ∧
        t.chip.flag surveyAt Survey.halted = true ∧ t.chip.get surveyAt Survey.reason = 6 ∧
        t.chip.get pairAt Pair.neg_cause = (if s.chip.pos = 0 then 2 else 5) ∧ t.chip.lease = s.chip.lease ∧
        StoresKept s t))

/-- The lease (R416 to R418, R427, R431): the holder renews; an expired lease and a yield whose cycle is complete are taken with
the epoch raised by one; two holders resolve by epoch, then by position; a handover order gives a standby module the lease; a
partner that is lost leaves the module alone in its role. -/
def Obligations.LeaseChanges : Prop :=
  ∀ s : State, Shaped s →
    (s.chip.lease = 2 ∨ s.chip.lease = 5 →
      (s.chip.pair.renewSent + s.chip.renewPeriod ≤ s.chip.now → ∃ t, exec .leaseRenewal s = .next t ∧
        t.chip.pair.renewSent = s.chip.now ∧ t.chip.lease = s.chip.lease ∧ t.chip.emitted = s.chip.emitted ++
        ((List.range 2).filter s.chip.laneLive).map
          (fun l => .lane l 3 [s.chip.get pairAt Pair.lease_epoch, s.chip.get pairAt Pair.lease_period,
            laneCrc 3 [s.chip.get pairAt Pair.lease_epoch, s.chip.get pairAt Pair.lease_period]]) ∧ StoresKept s t) ∧
      (∀ partnerEpoch : BitVec 32, partnerEpoch.toNat < s.chip.get pairAt Pair.lease_epoch ∨
          (partnerEpoch.toNat = s.chip.get pairAt Pair.lease_epoch ∧ s.chip.pos ≠ 1) → ∃ t,
        exec (.dualHoldingResolved partnerEpoch) s = .next t ∧ t.chip.lease = 3 ∧
        t.chip.get pairAt Pair.dual_holding = 1 ∧
        t.chip.get pairAt Pair.dual_holdings = min (s.chip.get pairAt Pair.dual_holdings + 1) Pair.dual_holdings.top ∧
        StoresKept s t) ∧
      (∀ partnerEpoch : BitVec 32, s.chip.get pairAt Pair.lease_epoch < partnerEpoch.toNat ∨
          (partnerEpoch.toNat = s.chip.get pairAt Pair.lease_epoch ∧ s.chip.pos = 1) →
        exec (.dualHoldingResolved partnerEpoch) s = .next s)) ∧
    (shadows s.chip.lease = true → s.chip.pair.renewAt + 1000 * s.chip.pair.period ≤ s.chip.now → ∃ t,
      exec .leaseExpiry s = .next t ∧ t.chip.lease = (if s.chip.lease = 6 then 5 else 2) ∧
      t.chip.get pairAt Pair.lease_epoch = (s.chip.get pairAt Pair.lease_epoch + 1) % 2 ^ 32 ∧
      t.chip.get pairAt Pair.expired = 1 ∧ StoresKept s t) ∧
    (∀ (cycle : BitVec 32) (swap : Bool),
      (s.chip.lease = 3 ∨ (s.chip.lease = 4 ∧ cycle.toNat ≤ s.chip.get engineAt Engine.cycle_count) → ∃ t,
        exec (.yieldLease cycle swap) s = .next t ∧ t.chip.lease = 2 ∧
        t.chip.get pairAt Pair.lease_epoch = (s.chip.get pairAt Pair.lease_epoch + 1) % 2 ^ 32 ∧ StoresKept s t) ∧
      (s.chip.lease = 4 → s.chip.get engineAt Engine.cycle_count < cycle.toNat → ∃ t,
        exec (.yieldLease cycle swap) s = .next t ∧ t = { s with chip := { s.chip with
          pair := { s.chip.pair with yieldAt := some (cycle.toNat, swap) } } })) ∧
    (∀ (epoch : BitVec 32) outs objs pubs, s.chip.lease = 7 → ∃ t, exec (.handoverOrder epoch outs objs pubs) s = .next t ∧
      t.chip.lease = 2 ∧ t.chip.get pairAt Pair.lease_epoch = (epoch.toNat + 1) % 2 ^ 32 ∧
      t.chip.pair.handOuts = outs.map (fun o => (o.1.val, o.2.toNat)) ∧ StoresKept s t) ∧
    (s.chip.flag pairAt Pair.partner = true → s.chip.pair.partnerAt + 5000 ≤ s.chip.now → ∃ t,
      exec .partnerLost s = .next t ∧ t.chip.flag pairAt Pair.partner = false ∧ t.chip.get pairAt Pair.partner_state = 0 ∧
      t.chip.lease = (if s.chip.lease = 2 then 5 else if s.chip.lease = 4 then 6 else s.chip.lease) ∧ StoresKept s t)

/-- Mirroring, the copy and the pair's commands (R406, R407, R419 to R421, R427, R431, R433, R434): records wait in order and a
ninth takes the shadow out of step; a complete copy makes it synchronised; swap and handover wait for the boundary where their
conditions hold and answer 3 where the sender may not ask; clear_counters ends the counts; the plug is read in S2, and a
later reading that differs is reported and changes no route (log entry 133). -/
def Obligations.MirrorAndPairCommands : Prop :=
  ∀ s : State, Shaped s →
    (∀ latched ended : List (BitVec 32), s.chip.lease = 4 →
      (let m := mirrorOf (latched.map (·.toNat)) (ended.map (·.toNat))
       (s.chip.pair.records.length < 8 → ∃ t, exec (.mirrorRecord latched ended) s = .next t ∧
         t.chip.pair.records = s.chip.pair.records ++ [m] ∧ t.chip.pair.lastRec = m.cycle ∧ t.chip.lease = 4 ∧
         t.chip.get pairAt Pair.lag = s.chip.pair.records.length + 1 ∧
         t = { s with chip := { s.chip with regs := t.chip.regs, pair := t.chip.pair } }) ∧
       (s.chip.pair.records.length = 8 → ∃ t, exec (.mirrorRecord latched ended) s = .next t ∧
         t.chip.pair.records = [] ∧ t.chip.lease = 3 ∧ StoresKept s t))) ∧
    (∀ cycle words seqs loops axes, s.chip.lease = 3 → s.chip.flag pairAt Pair.partner = true → ∃ t,
      exec (.resyncComplete cycle words seqs loops axes) s = .next t ∧ t.chip.lease = 4 ∧ t.chip.eng.phase = 0 ∧
      t.chip.eng.queue = [] ∧ t.chip.eng.edits = [] ∧ t.chip.pair.copied = true ∧ t.chip.pair.records = [] ∧
      t.chip.get engineAt Engine.cycle_count = cycle.toNat ∧ StoresKept s t) ∧
    (s.chip.get pairAt Pair.result ≠ 1 →
      (∀ session : Fin 16,
        (s.chip.roleIn session [2, 3] = true → s.chip.axesStill = true →
          (s.chip.lease = 2 → s.chip.get pairAt Pair.partner_state = 4 → s.chip.pair.partnerLag ≤ 1 →
            s.chip.flag pairAt Pair.lane_a = true → s.chip.flag pairAt Pair.lane_b = true → s.chip.pair.handAsk = false →
            ∃ t, exec (.swapLease session) s = .next t ∧ t.chip.get pairAt Pair.result = 1 ∧
              t.chip.get pairAt Pair.last_cmd = 0 ∧ t.chip.pair.swapAsk = true ∧
              t = { s with chip := { s.chip with regs := t.chip.regs, pair := t.chip.pair } } ∧
              WordsKept (fun a => a = Pair.result.at pairAt 0) s t) ∧
          (s.chip.lease = 5 → s.chip.get pairAt Pair.partner_state = 7 → s.chip.pair.partnerHalted = false → ∃ t, exec (.handover session) s = .next t ∧
            t.chip.get pairAt Pair.result = 1 ∧ t.chip.get pairAt Pair.last_cmd = 1 ∧ t.chip.pair.handAsk = true ∧
            t = { s with chip := { s.chip with regs := t.chip.regs, pair := t.chip.pair } } ∧
            WordsKept (fun a => a = Pair.result.at pairAt 0) s t)) ∧
        (s.chip.roleIn session [2, 3] = true → s.chip.lease = 4 → ∃ t, exec (.resync session) s = .next t ∧
          t.chip.get pairAt Pair.result = 2 ∧ t.chip.get pairAt Pair.last_cmd = 2 ∧ t.chip.lease = 3 ∧
          t.chip.pair.records = [] ∧ StoresKept s t) ∧
        (s.chip.roleIn session [2, 3] = false → ∀ c ∈ [Instr.swapLease session, .handover session, .resync session],
          ∃ t, exec c s = .next t ∧ t.chip.get pairAt Pair.result = 3 ∧
            t = { s with chip := { s.chip with regs := t.chip.regs } } ∧
            WordsKept (fun a => a = Pair.result.at pairAt 0) s t)) ∧
      (∃ t, exec .pairClearCounters s = .next t ∧ (∀ k < 5, t.chip.nat (pairAt + 4 + k) = 0) ∧
        t.chip.get pairAt Pair.result = 2 ∧ t.chip.get pairAt Pair.last_cmd = 3 ∧
        t = { s with chip := { s.chip with regs := t.chip.regs } } ∧
        WordsKept (fun a => (pairAt + 4 ≤ a ∧ a < pairAt + 9) ∨ a = Pair.result.at pairAt 0) s t)) ∧
    (∀ (position : Fin 3) (words : List (BitVec 32)), words.length = 9 →
      (s.chip.phase = 2 → ∃ t, exec (.plugRead position words) s = .next t ∧ t.chip.pos = position.val ∧
        (∀ k (h : k < words.length), t.chip.nat (pairAt + 0x20 + k) = (words[k]).toNat) ∧
        t = { s with chip := { s.chip with regs := t.chip.regs, pair := t.chip.pair } }) ∧
      (2 < s.chip.phase → s.chip.pair.plugAt + 1000000 ≤ s.chip.now →
        s.chip.pair.plugSeen ≠ words.map (·.toNat) → ∃ t,
        exec (.plugRead position words) s = .next t ∧ t.chip.get pairAt Pair.route_changed = 1 ∧
        t.chip.pos = s.chip.pos ∧ t.chip.pair.plugSeen = words.map (·.toNat) ∧ StoresKept s t ∧
        WordsKept (fun a => a = Pair.route_changed.at pairAt 0 ∨ recorderWord a) s t))

/-- The station ports (R435 to R438, R444 to R446, R459): link changes are reported, supervision frames go out every 2 s,
requests for the module's address are answered, a publication that is due is sent whole, each on every station port that is up; a datagram that fails a check is counted,
a second copy of a frame is discarded, and a partner's publication reaches its subscription. -/
def Obligations.StationPorts : Prop :=
  ∀ s : State, Shaped s →
    (∀ (port : Fin 2) (speed : Fin 4) (full : Bool), s.chip.panel.s2At ≠ none → s.chip.stationReady port = true →
      s.chip.svyTarget ≠ some (3, port.val) →
      (let f := if port = 0 then SLink.na_speed else SLink.nb_speed
       ∃ t, exec (.stationLinkLoss port speed full) s = .next t ∧
         t.chip.get slinkAt f = (if full then speed.val else 0) ∧
         (s.chip.get slinkAt f ≠ 0 → (full = false ∨ speed = 0) →
           t.chip.get slinkAt (if port = 0 then SLink.na_lost else SLink.nb_lost) = 1) ∧ StoresKept s t ∧
         WordsKept (fun a => a = f.at slinkAt 0 ∨ a = SLink.na_lost.at slinkAt 0 ∨ recorderWord a) s t)) ∧
    (s.chip.panel.s2At ≠ none → s.chip.net.prpAt + 2000000 ≤ s.chip.now → s.chip.anyStation = true → ∃ t,
      exec .prpSupervision s = .next t ∧ t.chip.net.prpSeq = (s.chip.net.prpSeq + 1) % 65536 ∧
      t.chip.net.prpAt = s.chip.now ∧ t.chip.emitted = s.chip.emitted ++ s.chip.onStations 4
        (leBytes 4 (s.chip.get slinkAt SLink.mac_lo) ++ leBytes 2 (s.chip.get slinkAt SLink.mac_hi)
          ++ beBytes 2 s.chip.net.prpSeq) ∧ StoresKept s t) ∧
    (∀ (lan : Fin 2) (mac : BitVec 48) (ip peer : BitVec 32) (ident number : BitVec 16) (data : List Byte),
      s.chip.stationUp lan = true → s.chip.get slinkAt SLink.ip_now ≠ 0 →
      (∀ target : BitVec 32, target.toNat ≠ s.chip.get slinkAt SLink.ip_now →
        exec (.arpRequest lan mac ip target) s = .next s ∧
        exec (.echoRequest lan peer target ident number false data) s = .next s) ∧
      (∀ target : BitVec 32, target.toNat = s.chip.get slinkAt SLink.ip_now →
        (∃ t, exec (.arpRequest lan mac ip target) s = .next t ∧ t.chip.emitted = s.chip.emitted ++ s.chip.onStations 5
          (leBytes 6 mac.toNat ++ leBytes 4 ip.toNat ++ leBytes 4 (s.chip.get slinkAt SLink.ip_now)
            ++ leBytes 4 (s.chip.get slinkAt SLink.mac_lo) ++ leBytes 2 (s.chip.get slinkAt SLink.mac_hi)) ∧
          StoresKept s t) ∧
        (∃ t, exec (.echoRequest lan peer target ident number false data) s = .next t ∧
          t.chip.emitted = s.chip.emitted ++ s.chip.onStations 6
            (leBytes 4 peer.toNat ++ beBytes 2 ident.toNat ++ beBytes 2 number.toNat ++ data.map (·.toNat)) ∧
          StoresKept s t) ∧
        exec (.echoRequest lan peer target ident number true data) s = .next s)) ∧
    (∀ (pub : Fin 256) (p : PubSt), s.chip.net.pubs.find? (fun p => p.pub == pub.val) = some p → s.chip.phase = 8 →
      s.chip.sendsStopped = false → s.chip.anyStation = true → p.due = true → ∃ t,
      exec (.publicationSend pub) s = .next t ∧ t.chip.emitted = s.chip.emitted ++ s.chip.onStations 0
        (leBytes 4 (s.chip.getI pubAt Pub.dest pub) ++ s.chip.datagram 0 pub p.seq (p.sent.getD p.data)) ∧
      t.chip.net.pubs.find? (fun p => p.pub == pub.val) = some { p with due := false, sentAt := s.chip.now } ∧
      t.chip.getI pubAt Pub.sent pub = min (s.chip.getI pubAt Pub.sent pub + 1) Pub.sent.top ∧ StoresKept s t) ∧
    (∀ (lan : Fin 2) (src : BitVec 48) (payload : List Byte), s.chip.stationUp lan = true →
      (datagramOk (payload.map (·.toNat)) = false → ∃ t,
        exec (.datagramReceive lan src none none false payload) s = .next t ∧
        t.chip.get slinkAt SLink.bad_datagram =
          min (s.chip.get slinkAt SLink.bad_datagram + 1) SLink.bad_datagram.top ∧
        t.chip.net.subs = s.chip.net.subs ∧ t.chip.safe = s.chip.safe ∧ StoresKept s t) ∧
      (∀ (number : BitVec 16) (named : Fin 2) (first at_ : Nat), (src.toNat, number.toNat, first, at_) ∈ s.chip.net.window →
        s.chip.now ≤ at_ + 400000 → ∃ t,
        exec (.datagramReceive lan src none (some (number, named)) false payload) s = .next t ∧
        t.chip.get slinkAt SLink.dup_discarded =
          min (s.chip.get slinkAt SLink.dup_discarded + 1) SLink.dup_discarded.top ∧
        t.chip.net.subs = s.chip.net.subs ∧ t.chip.safe = s.chip.safe ∧ StoresKept s t) ∧
      (∀ k, datagramOk (payload.map (·.toNat)) = true → nth 0 (payload.map (·.toNat)) 5 = 0 →
        s.chip.partnerOf (numAt (payload.map (·.toNat)) 8 4) = some k →
        (let bs := payload.map (·.toNat)
         let data := bytesAt bs 28 (numAt bs 14 2)
         s.chip.net.subs.find? (fun h => h.partner == k && h.pub == nth 0 bs 6) = none → ∃ t,
          exec (.datagramReceive lan src none none false payload) s = .next t ∧
          t.chip.net.subs.length = s.chip.net.subs.length + 1 ∧
          (t.chip.net.subs.find? (fun h => h.partner == k && h.pub == nth 0 bs 6)).map
            (fun h => (h.data, h.rxAt, h.last)) = some (data, s.chip.now, some (numAt bs 12 2, data)) ∧
          t.chip.getI partnerAt Partner.rx k = min (s.chip.getI partnerAt Partner.rx k + 1) Partner.rx.top ∧
          StoresKept s t))) ∧
    (∃ t, exec .stationClearCounters s = .next t ∧ (∀ k < 5, t.chip.nat (slinkAt + 9 + k) = 0) ∧
      t.chip.get slinkAt SLink.result = 2 ∧ t = { s with chip := { s.chip with regs := t.chip.regs } } ∧
      WordsKept (fun a => (slinkAt + 9 ≤ a ∧ a < slinkAt + 14) ∨ a = SLink.result.at slinkAt 0) s t)

/-- The calendar under PTP (R440 to R442): a Sync of an instance's master gives its difference, and that of the followed instance
steps the calendar when it is off by more than 1 ms and adjusts its rate within 200 ppm otherwise; the answer to a delay request
gives the mean path delay; an Announce of a first master is taken, silence loses it; an announced leap second repeats or passes
over a second at midnight. -/
def Obligations.Calendar : Prop :=
  ∀ s : State, Shaped s →
    (∀ (port : Fin 2) (domain : BitVec 8) (sec : BitVec 48) (ns : BitVec 32) (corr : BitVec 64),
      s.chip.ptpOn port domain.toNat = true → (s.chip.ptp port).master ≠ none →
      (let h := s.chip.ptp port
       let diff : Int := (s.chip.calNs : Int) - ptpNs sec.toNat ns.toNat h.utc - corr.toInt / 65536
       let o : Int := diff - h.delay
       (s.chip.get calAt Cal.ptp_port ≠ port.val + 1 → ∃ t, exec (.ptpSync port domain sec ns corr) s = .next t ∧
         (t.chip.ptp port).diff = diff ∧ (t.chip.ptp port).reqNs = some s.chip.calNs ∧ t.chip.calFs = s.chip.calFs ∧
         (∀ q, q ≠ port.val → t.chip.ptp q = s.chip.ptp q) ∧ StoresKept s t) ∧
       (s.chip.get calAt Cal.ptp_port = port.val + 1 → o.natAbs ≤ 1000000 → ∃ t,
         exec (.ptpSync port domain sec ns corr) s = .next t ∧ (t.chip.ptp port).diff = diff ∧
         t.chip.calFs = s.chip.calFs ∧ t.chip.getS calAt Cal.offset = o ∧ -200000 ≤ t.chip.getS calAt Cal.rate_adj ∧
         t.chip.getS calAt Cal.rate_adj ≤ 200000 ∧ StoresKept s t) ∧
       (s.chip.get calAt Cal.ptp_port = port.val + 1 → 1000000 < o.natAbs → ∃ t,
         exec (.ptpSync port domain sec ns corr) s = .next t ∧
         t.chip.calFs = ((s.chip.calFs : Int) - o * 10 ^ 6).toNat ∧ t.chip.get calAt Cal.step_seen = 1 ∧
         t.chip.get calAt Cal.steps = min (s.chip.get calAt Cal.steps + 1) Cal.steps.top ∧ t.chip.net.locked = false ∧
         StoresKept s t) ∧
       (∀ t3, h.reqNs = some t3 → ∃ t, exec (.delayRespReceive port domain sec ns corr) s = .next t ∧
         (t.chip.ptp port).delay = ((h.diff + (ptpNs sec.toNat ns.toNat h.utc - corr.toInt / 65536 - t3)) / 2).toNat ∧
         (t.chip.ptp port).reqNs = none ∧ t.chip.calFs = s.chip.calFs ∧
         t = { s with chip := { s.chip with regs := t.chip.regs, net := t.chip.net } } ∧
         WordsKept (fun a => a = Cal.path_delay.at calAt 0) s t))) ∧
    (∀ (port : Fin 2) (domain : BitVec 8) (dataset : List Byte) (utc : BitVec 16) (leap61 leap59 : Bool)
      (interval : BitVec 32), s.chip.ptpOn port domain.toNat = true →
      ((s.chip.ptp port).master = none → ∃ t,
        exec (.announceMessage port domain dataset utc leap61 leap59 interval) s = .next t ∧
        (t.chip.ptp port).master = some (dataset.map (·.toNat)) ∧ (t.chip.ptp port).seenAt = s.chip.now ∧
        (t.chip.ptp port).utc = utc.toNat ∧ (t.chip.ptp port).interval = interval.toNat ∧
        ((s.chip.ptp (1 - port)).master = none → t.chip.get calAt Cal.ptp_port = port.val + 1 ∧
          t.chip.get calAt Cal.utc_offset = utc.toNat % (Cal.utc_offset.top + 1)) ∧ StoresKept s t) ∧
      (∀ old, (s.chip.ptp port).master = some old → bytesAt old 6 8 ≠ bytesAt (dataset.map (·.toNat)) 6 8 →
        ranksBefore (dataset.map (·.toNat)) old = false →
        exec (.announceMessage port domain dataset utc leap61 leap59 interval) s = .next s)) ∧
    (∀ port : Fin 2, (s.chip.ptp port).master ≠ none →
      (s.chip.ptp port).seenAt + 3 * (s.chip.ptp port).interval ≤ s.chip.now → ∃ t,
      exec (.announceTimeout port) s = .next t ∧ (t.chip.ptp port).master = none ∧ (t.chip.ptp port).reqNs = none ∧
      StoresKept s t) ∧
    (s.chip.net.leap = 1 → s.chip.calFs / 10 ^ 15 % 86400 = 0 → 10 ^ 15 ≤ s.chip.calFs → ∃ t,
      exec .leapSecond s = .next t ∧ t.chip.calFs = s.chip.calFs - 10 ^ 15 ∧ t.chip.get calAt Cal.leap_now = 1 ∧
      t.chip.get calAt Cal.leap_pending = 0 ∧ t.chip.net.leap = 0 ∧ StoresKept s t) ∧
    (s.chip.net.leap = 2 → s.chip.calFs / 10 ^ 15 % 86400 = 86399 → ∃ t, exec .leapSecond s = .next t ∧
      t.chip.calFs = s.chip.calFs + 10 ^ 15 ∧ t.chip.get calAt Cal.leap_pending = 0 ∧ t.chip.net.leap = 0 ∧ StoresKept s t)

/-- Sessions open and close (R448 to R450): an open request of an acceptable role is answered with a challenge and one that is not
with status 7; a proof under the session key opens the session, a failed one is counted; a session not proved in 5 s, one idle
for 30 s and a lockout of 60 s end. -/
def Obligations.SessionsOpenAndClose : Prop :=
  ∀ s : State, Shaped s →
    (∀ (peer : BitVec 32) (port : BitVec 16) (seq : BitVec 32) (rid : BitVec 16) (role : BitVec 8) (nc nm : List Byte)
      (sid : BitVec 16), s.chip.anyStation = true → sid ≠ 0 →
      (∀ i < 16, s.chip.getI sessAt Sess.state i ≠ 0 → s.chip.getI sessAt Sess.sid i ≠ sid.toNat) →
      (s.openRefused peer.toNat role.toNat = true → ∃ t, exec (.sessionOpen peer port seq rid role nc nm sid) s = .next t ∧
        t.chip.emitted = s.chip.emitted ++ s.chip.onStations 2 (leBytes 4 peer.toNat ++ beBytes 2 port.toNat ++
          openMessage 0xFF 0 seq.toNat rid.toNat (leBytes 4 7)) ∧ t.chip.net.sess = s.chip.net.sess ∧ StoresKept s t ∧
        ∀ i < 16, t.chip.getI sessAt Sess.state i = s.chip.getI sessAt Sess.state i) ∧
      (s.openRefused peer.toNat role.toNat = false → ∃ t i, exec (.sessionOpen peer port seq rid role nc nm sid) s = .next t ∧
        i < 16 ∧ s.chip.getI sessAt Sess.state i = 0 ∧ t.chip.getI sessAt Sess.state i = 1 ∧
        t.chip.getI sessAt Sess.role i = role.toNat ∧ t.chip.getI sessAt Sess.sid i = sid.toNat ∧
        t.chip.getI sessAt Sess.peer i = peer.toNat ∧ (t.chip.sess i).openAt = s.chip.now ∧ (t.chip.sess i).seq = 0 ∧
        t.chip.emitted = s.chip.emitted ++ s.chip.onStations 2 (leBytes 4 peer.toNat ++ beBytes 2 port.toNat ++
          openMessage 0x81 sid.toNat seq.toNat rid.toNat (nm.map (·.toNat) ++ s.chip.serial)) ∧
        (∀ j, j ≠ i → t.chip.sess j = s.chip.sess j) ∧ StoresKept s t)) ∧
    (∀ (session : Fin 16) (rid : BitVec 16) (mac : List Byte), s.chip.anyStation = true →
      s.chip.getI sessAt Sess.state session = 1 →
      (mac.map (·.toNat) = s.chip.macOf session 0x03 0 rid.toNat [] → ∃ t, exec (.proofRequest session rid mac) s = .next t ∧
        t.chip.getI sessAt Sess.state session = 2 ∧ (t.chip.sess session).lastAt = s.chip.now ∧
        Answered s t session 0x83 0 rid.toNat ([s.chip.getI sessAt Sess.role session, 0, 0, 0] ++ leBytes 4 s.chip.lease) ∧
        StoresKept s t) ∧
      (mac.map (·.toNat) ≠ s.chip.macOf session 0x03 0 rid.toNat [] → ∃ t, exec (.proofRequest session rid mac) s = .next t ∧
        t.chip.getI sessAt Sess.state session = 1 ∧ t.chip.emitted = s.chip.emitted ∧
        t.chip.get slinkAt SLink.auth_fail = min (s.chip.get slinkAt SLink.auth_fail + 1) SLink.auth_fail.top ∧
        t.chip.get slinkAt SLink.auth_failed = 1 ∧ StoresKept s t)) ∧
    (∀ session : Fin 16,
      (s.chip.getI sessAt Sess.state session = 1 → (s.chip.sess session).openAt + 5000000 ≤ s.chip.now → ∃ t,
        exec (.proofTimeout session) s = .next t ∧ t.chip.getI sessAt Sess.state session = 0 ∧
        t.chip.sess session = {} ∧ (∀ j, j ≠ session.val → t.chip.sess j = s.chip.sess j) ∧ StoresKept s t) ∧
      (s.chip.getI sessAt Sess.state session = 2 → (s.chip.sess session).lastAt + 30000000 ≤ s.chip.now → ∃ t,
        exec (.sessionIdleTimeout session) s = .next t ∧ t.chip.getI sessAt Sess.state session = 0 ∧
        t.chip.sess session = {} ∧ (∀ j, j ≠ session.val → t.chip.sess j = s.chip.sess j) ∧
        t.chip.xfer.owner ≠ some session.val ∧ StoresKept s t)) ∧
    (∀ peer : BitVec 32, ∃ t, exec (.lockoutExpiry peer) s = .next t ∧
      (∀ l, l ∈ t.chip.net.locks ↔ l ∈ s.chip.net.locks ∧ ¬ (l.1 = peer.toNat ∧ l.2 ≤ s.chip.now)) ∧
      t.chip.get slinkAt SLink.locked_out = min t.chip.net.locks.length 255 ∧
      t = { s with chip := { s.chip with regs := t.chip.regs, net := t.chip.net } } ∧
      WordsKept (fun a => a = SLink.locked_out.at slinkAt 0) s t)

/-- Requests in sequence (R450): one whose mac or number is wrong is counted and changes no session; a repeat of an answered
one gets the same answer; a ninth outstanding one gets status 7; the next in sequence is processed and answered, and closing ends
the session. -/
def Obligations.RequestSequence : Prop :=
  ∀ (session : Fin 16) (seq : BitVec 32) (rid : BitVec 16) (mac : List Byte) (s : State), Shaped s →
    (s.chip.verdict session 0x06 seq.toNat rid.toNat [] (nums mac) = .discard → ∃ t,
      exec (.keepalive session seq rid mac) s = .next t ∧
      t.chip.get slinkAt SLink.bad_mac = min (s.chip.get slinkAt SLink.bad_mac + 1) SLink.bad_mac.top ∧
      t.chip.net = s.chip.net ∧ t.chip.emitted = s.chip.emitted ∧ StoresKept s t) ∧
    (∀ m, s.chip.verdict session 0x06 seq.toNat rid.toNat [] (nums mac) = .repeated (some m) → ∃ t,
      exec (.keepalive session seq rid mac) s = .next t ∧
      t.chip.net = { s.chip.net with rctSeq := (s.chip.net.rctSeq + 1) % 65536 } ∧
      t.chip.emitted = s.chip.emitted ++ s.chip.onStations 2 (leBytes 4 (s.chip.getI sessAt Sess.peer session) ++
        beBytes 2 (s.chip.getI sessAt Sess.port session) ++ m) ∧ StoresKept s t) ∧
    (s.chip.verdict session 0x06 seq.toNat rid.toNat [] (nums mac) = .full → ∃ t,
      exec (.keepalive session seq rid mac) s = .next t ∧
      t.chip.net = { s.chip.net with rctSeq := (s.chip.net.rctSeq + 1) % 65536 } ∧
      Answered s t session 0xFF seq.toNat rid.toNat (leBytes 4 7) ∧ StoresKept s t) ∧
    ((s.chip.sess session).pend = [] →
      (s.chip.verdict session 0x06 seq.toNat rid.toNat [] (nums mac) = .process → ∃ t,
        exec (.keepalive session seq rid mac) s = .next t ∧ Answered s t session 0x86 seq.toNat rid.toNat [] ∧
        (t.chip.sess session).seq = seq.toNat ∧ (t.chip.sess session).lastAt = s.chip.now ∧
        (t.chip.sess session).pend = [] ∧ (∀ j, j ≠ session.val → t.chip.sess j = s.chip.sess j) ∧ StoresKept s t) ∧
      (s.chip.verdict session 0x05 seq.toNat rid.toNat [] (nums mac) = .process → ∃ t,
        exec (.sessionClose session seq rid mac) s = .next t ∧ Answered s t session 0x85 seq.toNat rid.toNat [] ∧
        t.chip.getI sessAt Sess.state session = 0 ∧ t.chip.sess session = {} ∧
        (∀ j, j ≠ session.val → t.chip.sess j = s.chip.sess j) ∧ StoresKept s t))

/-- Reads, writes and forces of a session (R14, R169, R451, R453, R454, R541): a read is answered with the words it names; before
S8 a write changes nothing but the image command and is answered with status 6; a role that may not force is answered with
status 5, a release of an entry beyond the table with status 1, one of a free entry with status 0 and the cycle count, and one of
a taken entry waits for the boundary; a W1C write clears the W1C bits written 1 and no other bit. -/
def Obligations.ReadsWritesAndForces : Prop :=
  ∀ (session : Fin 16) (seq : BitVec 32) (rid : BitVec 16) (mac : List Byte) (s : State), Shaped s →
    (s.chip.sess session).pend = [] →
    (∀ addrs : List (BitVec 32),
      (let as := addrs.map (·.toNat)
       let body := leBytes 4 as.length ++ as.flatMap (leBytes 4)
       s.chip.verdict session 0x10 seq.toNat rid.toNat body (nums mac) = .process → ∃ t,
         exec (.readWords session seq rid addrs mac) s = .next t ∧ Answered s t session 0x90 seq.toNat rid.toNat
           (Chip.readAnswer ((s.chip.netIn (32 + body.length)).takeRequest session 0x10 seq.toNat rid.toNat 1) as) ∧
         StoresKept s t)) ∧
    (∀ pairs : List (BitVec 32 × BitVec 32), pairs ≠ [] → s.chip.restricted = true →
      pairs.all (fun p => p.1.toNat != imageAt + 0x20) = true →
      (let ps := pairs.map (fun p => (p.1.toNat, p.2.toNat))
       let body := leBytes 4 ps.length ++ ps.flatMap (fun p => leBytes 4 p.1 ++ leBytes 4 p.2)
       s.chip.verdict session 0x12 seq.toNat rid.toNat body (nums mac) = .process → ∃ t,
         exec (.writeWords session seq rid pairs mac) s = .next t ∧
         Answered s t session 0x92 seq.toNat rid.toNat (pairs.flatMap (fun _ => statusWords [6, 0])) ∧ StoresKept s t)) ∧
    (∀ addr value : BitVec 32, s.chip.getI sessAt Sess.state session ≠ 2 ∨
        (s.chip.restricted = true ∧ addr.toNat ≠ imageAt + 0x20) → exec (.parameterWrite session addr value) s = .next s) ∧
    (∀ addr value : BitVec 32, s.chip.roleIn session [1, 2, 3] = true → s.chip.restricted = false →
      s.chip.accessOf addr.toNat = 0 → isInst addr.toNat = false → isConst addr.toNat = false →
      hasAccess addr.toNat .onl = false → hasAccess addr.toNat .cmd = false → hasAccess addr.toNat .w1c = true →
      8 ≤ spaceOf addr.toNat → ∃ t, exec (.parameterWrite session addr value) s = .next t ∧
      (∀ k < 32, (t.chip.nat addr.toNat).testBit k = ((s.chip.nat addr.toNat).testBit k &&
        !((value.toNat).testBit k && (accessMask addr.toNat .w1c).testBit k))) ∧
      t = { s with chip := { s.chip with regs := t.chip.regs, aon := t.chip.aon } } ∧
      (addr.toNat ≠ supplyAt + 0xE → t.chip.aon = s.chip.aon) ∧ WordsKept (fun a => a = addr.toNat) s t) ∧
    (∀ (kind type region sub : BitVec 8) (index lo hi : BitVec 32),
      (let ws := [kind.toNat * 2 ^ 24 + type.toNat * 2 ^ 16 + region.toNat * 2 ^ 8 + sub.toNat, index.toNat, lo.toNat, hi.toNat]
       s.chip.verdict session 0x20 seq.toNat rid.toNat (ws.flatMap (leBytes 4)) (nums mac) = .process →
       (s.chip.restricted = true → ∃ t, exec (.forceSet session seq rid kind type region sub index lo hi mac) s = .next t ∧
         Answered s t session 0xA0 seq.toNat rid.toNat (statusWords [6, 0, 0]) ∧ t.chip.eng = s.chip.eng ∧ StoresKept s t) ∧
       (s.chip.restricted = false → s.chip.roleIn session [2, 3] = false → ∃ t,
         exec (.forceSet session seq rid kind type region sub index lo hi mac) s = .next t ∧
         Answered s t session 0xA0 seq.toNat rid.toNat (statusWords [5, 0, 0]) ∧ t.chip.eng = s.chip.eng ∧ StoresKept s t) ∧
       (s.chip.restricted = false → s.chip.roleIn session [2, 3] = true →
         s.chip.forceTarget kind.toNat type.toNat region.toNat sub.toNat index.toNat = 0 →
         s.chip.forceRefusal kind.toNat type.toNat region.toNat sub.toNat index.toNat = 0 → s.chip.get engineAt Engine.state = 1 →
         ∀ e, (List.range 256).find? (fun i => !s.chip.forceTaken i) = some e → ∃ t,
         exec (.forceSet session seq rid kind type region sub index lo hi mac) s = .next t ∧
         t.chip.eng.edits = s.chip.eng.edits ++
           [⟨e, some (ws.take 3 ++ [if type.toNat = tyCal then hi.toNat else 0]), some ⟨session.val, seq.toNat, 0⟩⟩] ∧
         t.chip.emitted = s.chip.emitted ∧ StoresKept s t))) ∧
    (∀ index : BitVec 32, s.chip.verdict session 0x21 seq.toNat rid.toNat (leBytes 4 index.toNat) (nums mac) = .process →
      s.chip.restricted = false → s.chip.roleIn session [2, 3] = true →
      (256 ≤ index.toNat → ∃ t, exec (.forceRelease session seq rid index mac) s = .next t ∧
        Answered s t session 0xA1 seq.toNat rid.toNat (statusWords [1, 0]) ∧ t.chip.eng = s.chip.eng ∧ StoresKept s t) ∧
      (index.toNat < 256 → s.chip.holder = true →
        (s.chip.forceTaken index.toNat = false → ∃ t, exec (.forceRelease session seq rid index mac) s = .next t ∧
          Answered s t session 0xA1 seq.toNat rid.toNat (statusWords [0, s.chip.get engineAt Engine.cycle_count]) ∧
          t.chip.eng = s.chip.eng ∧ StoresKept s t) ∧
        (s.chip.forceTaken index.toNat = true → s.chip.get engineAt Engine.state = 1 → ∃ t,
          exec (.forceRelease session seq rid index mac) s = .next t ∧
          t.chip.eng.edits = s.chip.eng.edits ++ [⟨index.toNat, none, some ⟨session.val, seq.toNat, 0⟩⟩] ∧
          t.chip.emitted = s.chip.emitted ∧ StoresKept s t)))

/-- Keys, the fuse, the calendar, chunks and the restart by a session (R135, R442, R443, R452, R455 to R457): each is answered with
its status; a role key changes only as the role may set it; a key slot is written when empty and revoked when active, for good;
the fuse is set for good; a chunk in order is programmed; the calendar takes the stamp unless it is locked; the restart ends in
S1. -/
def Obligations.KeysFuseAndCalendar : Prop :=
  ∀ (session : Fin 16) (seq : BitVec 32) (rid : BitVec 16) (mac : List Byte) (s : State), Shaped s →
    (s.chip.sess session).pend = [] →
    (∀ (target : BitVec 8) (masked : List Byte), s.chip.verdict session 0x50 seq.toNat rid.toNat
        ([target.toNat, 0, 0, 0] ++ nums masked) (nums mac) = .process →
      (let key := List.zipWith (· ^^^ ·) (nums masked) (hmac (s.chip.sess session).key (skKY ++ leBytes 4 seq.toNat))
       let may := (keyTargets (s.chip.getI sessAt Sess.role session)).contains target.toNat
       let new : RoleKey := if key.all (· == 0) then .empty else .set key
       (may = true → (key.all (· == 0) = false ∨ target ≠ 3) → ∃ t, exec (.setKey session seq rid target masked mac) s = .next t ∧
         t.flash = { s.flash with roleKeys := setAt s.flash.roleKeys target.toNat new } ∧
         Answered s t session 0xD0 seq.toNat rid.toNat (leBytes 4 0) ∧ t.pending = s.pending) ∧
       ((may = false ∨ (key.all (· == 0) = true ∧ target = 3)) → ∃ t,
         exec (.setKey session seq rid target masked mac) s = .next t ∧
         Answered s t session 0xD0 seq.toNat rid.toNat (leBytes 4 (if may then 6 else 5)) ∧ StoresKept s t))) ∧
    (∀ (slot op : BitVec 8) (key : List Byte), s.chip.verdict session 0x51 seq.toNat rid.toNat
        ([slot.toNat, op.toNat, 0, 0] ++ nums key) (nums mac) = .process → s.chip.roleIn session [3] = true →
      (op = 1 → (nth (9, []) s.flash.keys slot.toNat).1 = 0 → ∃ t, exec (.keySlot session seq rid slot op key mac) s = .next t ∧
        t.flash = { s.flash with keys := setAt s.flash.keys slot.toNat (1, nums key) } ∧
        Answered s t session 0xD1 seq.toNat rid.toNat (leBytes 4 0) ∧ t.pending = s.pending) ∧
      (op = 2 → (nth (9, []) s.flash.keys slot.toNat).1 = 1 → ∃ t, exec (.keySlot session seq rid slot op key mac) s = .next t ∧
        t.flash = { s.flash with keys := setAt s.flash.keys slot.toNat (2, (nth (9, []) s.flash.keys slot.toNat).2) } ∧
        Answered s t session 0xD1 seq.toNat rid.toNat (leBytes 4 0) ∧ t.pending = s.pending) ∧
      (((op = 1 ∧ (nth (9, []) s.flash.keys slot.toNat).1 ≠ 0) ∨ (op = 2 ∧ (nth (9, []) s.flash.keys slot.toNat).1 ≠ 1)) →
        ∃ t, exec (.keySlot session seq rid slot op key mac) s = .next t ∧
          Answered s t session 0xD1 seq.toNat rid.toNat (leBytes 4 6) ∧ StoresKept s t)) ∧
    (s.chip.verdict session 0x52 seq.toNat rid.toNat [0x46, 0x55, 0x53, 0x45] (nums mac) = .process →
      (s.chip.roleIn session [3] = true → ∃ t, exec (.fuse session seq rid mac) s = .next t ∧
        t.flash = { s.flash with fuse := true } ∧ t.chip.get imageAt Image.require_sig = 1 ∧
        Answered s t session 0xD2 seq.toNat rid.toNat (leBytes 4 0) ∧ t.pending = s.pending) ∧
      (s.chip.roleIn session [3] = false → ∃ t, exec (.fuse session seq rid mac) s = .next t ∧
        Answered s t session 0xD2 seq.toNat rid.toNat (leBytes 4 5) ∧ StoresKept s t)) ∧
    (∀ stamp : BitVec 64, s.chip.verdict session 0x53 seq.toNat rid.toNat (leBytes 8 stamp.toNat) (nums mac) = .process →
      s.chip.roleIn session [2, 3] = true →
      (s.chip.net.locked = false → ∃ t, exec (.calset session seq rid stamp mac) s = .next t ∧
        t.chip.calFs = fsOf stamp.toNat + (s.chip.sess session).rtt * 10 ^ 9 / 2 ∧
        t.chip.get supplyAt Supply.cal_valid = 1 ∧ t.chip.get calAt Cal.source = 3 ∧ t.chip.net.leap = 0 ∧
        Answered s t session 0xD3 seq.toNat rid.toNat (leBytes 4 0) ∧ StoresKept s t) ∧
      (s.chip.net.locked = true → ∃ t, exec (.calset session seq rid stamp mac) s = .next t ∧
        t.chip.calFs = s.chip.calFs ∧ Answered s t session 0xD3 seq.toNat rid.toNat (leBytes 4 6) ∧ StoresKept s t)) ∧
    (∀ (offset : BitVec 32) (data : List Byte), s.chip.verdict session 0x30 seq.toNat rid.toNat
        (leBytes 4 offset.toNat ++ leBytes 2 data.length ++ [0, 0] ++ nums data) (nums mac) = .process →
      (s.chip.roleIn session [2, 3] = true → s.chip.chunkOk session offset.toNat data.length = true → ∃ t,
        exec (.chunkWrite session seq rid offset data mac) s = .next t ∧
        t.flash = s.flash.program (slotAt (s.chip.get imageAt Image.target) + offset.toNat) (nums data) ∧
        t.chip.get imageAt Image.bytes_written = offset.toNat + data.length ∧ t.chip.get imageAt Image.state = 1 ∧
        t.chip.xfer.at_ = s.chip.now ∧
        Answered s t session 0xB0 seq.toNat rid.toNat (statusWords [0, offset.toNat + data.length]) ∧ t.pending = s.pending) ∧
      (s.chip.roleIn session [2, 3] = true → s.chip.chunkOk session offset.toNat data.length = false → ∃ t,
        exec (.chunkWrite session seq rid offset data mac) s = .next t ∧
        Answered s t session 0xB0 seq.toNat rid.toNat (statusWords [0x30, s.chip.get imageAt Image.bytes_written]) ∧
        StoresKept s t)) ∧
    (s.chip.verdict session 0x54 seq.toNat rid.toNat [0x52, 0x53, 0x54, 0x52] (nums mac) = .process →
      s.chip.roleIn session [2, 3] = true →
      (¬ (s.chip.lease = 2 ∧ s.chip.get pairAt Pair.partner_state = 4) → ∃ t,
        exec (.serviceRestart session seq rid mac) s = .next t ∧ t.chip.phase = 1 ∧
        t.chip.get statusAt Status.start_cause = 3 ∧ t.flash.nor = s.flash.nor ∧
        t.flash.retained.starts = (s.flash.retained.starts + 1) % 2 ^ 32 ∧ t.pending = s.pending) ∧
      (s.chip.lease = 2 → s.chip.get pairAt Pair.partner_state = 4 → ∃ t,
        exec (.serviceRestart session seq rid mac) s = .next t ∧
        Answered s t session 0xD4 seq.toNat rid.toNat (leBytes 4 6) ∧ StoresKept s t))

/-- Records and their store (R460 to R465, R473): a selected record enters the buffer with its number, stamp, class and payload; a
source that is masked gives none, a full buffer counts a refusal; a buffered record is written to its stripe in order; a stripe
that has been erased joins the erased ones; the partner's number, or all ones once 10 ms have passed, fills the payload of the own
record. -/
def Obligations.RecordsAndStore : Prop :=
  ∀ s : State, Shaped s →
    (∀ (source : Fin 96) (region : BitVec 8) (late : Bool) (severity : Fin 4) (subject : BitVec 32) (payload : List Byte),
      (s.chip.selects source severity = false →
        exec (.recordEntry source region late severity subject payload) s = .next s) ∧
      (s.chip.selects source severity = true → s.chip.sys.fenced.testBit 1 = false → s.chip.get recdAt Recd.state ≠ 2 →
        (recordMaker source region.toNat ≠ 1 →
          s.chip.getBit (regionAt (recordMaker source region.toNat)) Region.unreached 1 = false) →
        (s.chip.hasPlace severity = true →
          (let number := if s.chip.recd.mounted then some s.chip.recd.nextSeq else none
           let cls := b2n (s.chip.flag calAt Cal.leap_now) + 2 * b2n (!s.chip.flag supplyAt Supply.cal_valid) + 4 * b2n late
           let e : EvRec := ⟨number, s.chip.stamp, s.chip.now % 2 ^ 32, source, region.toNat, cls, severity, subject.toNat,
             bytesAt (payload.map (·.toNat)) 0 32⟩
           ∃ t, exec (.recordEntry source region late severity subject payload) s = .next t ∧
             t.chip.recd.buffer.take (s.chip.recd.buffer.length + 1) = s.chip.recd.buffer ++ [e] ∧
             (severity ≠ 3 → t.chip.recd.buffer = s.chip.recd.buffer ++ [e] ∧
               t.chip.recd.nextSeq = s.chip.recd.nextSeq + b2n s.chip.recd.mounted) ∧
             t = { s with chip := { s.chip with regs := t.chip.regs, recd := t.chip.recd } } ∧ WordsKept recorderWord s t)) ∧
        (s.chip.hasPlace severity = false → ∃ t, exec (.recordEntry source region late severity subject payload) s = .next t ∧
          t.chip.recd.buffer = s.chip.recd.buffer ∧
          t.chip.get recdAt Recd.refused = min (s.chip.get recdAt Recd.refused + 1) Recd.refused.top ∧
          t = { s with chip := { s.chip with regs := t.chip.regs, recd := t.chip.recd } } ∧
          WordsKept (fun a => a = Recd.refused.at recdAt 0) s t))) ∧
    (s.chip.get recdAt Recd.state = 1 → ∀ (e : EvRec) rest n, s.chip.recd.buffer = e :: rest → e.seq = some n →
      s.chip.recd.pairWait.contains n = false → (s.flash.map.map (·.1)).contains (stripeOf n) = true → ∃ t,
      exec (.recordWrite 1 0) s = .next t ∧ t.flash = { s.flash with store := s.flash.store ++ [e], next := n + 1 } ∧
      t.chip.recd.buffer.take rest.length = rest ∧ t.chip.recd.wrote = s.chip.recd.wrote + 1 ∧ t.pending = s.pending ∧
      t = { s with flash := t.flash, chip := { s.chip with regs := t.chip.regs, recd := t.chip.recd } } ∧
      WordsKept recorderWord s t) ∧
    (s.chip.get recdAt Recd.state ≠ 1 → ∀ count failed, exec (.recordWrite count failed) s = .next s) ∧
    (∀ failed : Fin 256, (s.flash.erasing = none → exec (.stripeEraseDone failed) s = .next s) ∧
      (∀ p, s.flash.erasing = some p → ∃ t, exec (.stripeEraseDone failed) s = .next t ∧ t.flash.erasing = none ∧
        t.flash.erased = s.flash.erased ++ [p] ∧ t.flash.erases = s.flash.erases + 1 ∧ t.flash.map = s.flash.map ∧
        t.flash.store = s.flash.store ∧ t.flash.nor = s.flash.nor ∧ t.flash.spareUsed = s.flash.spareUsed + failed.val ∧
        (∀ m ∈ s.flash.map, t.flash.tail ≤ 16384 * m.1) ∧ (s.flash.map = [] → t.flash.tail = s.flash.tail) ∧
        t.pending = s.pending ∧ WordsKept recorderWord s t)) ∧
    (∀ (source : Fin 96) (own partner : BitVec 64) (timedOut : Bool),
      (s.chip.recd.pairWait.contains own.toNat = false → exec (.pairSeqReport source own partner timedOut) s = .next s) ∧
      (∀ e, s.chip.recd.pairWait.contains own.toNat = true →
        s.chip.recd.buffer.find? (fun e => e.seq == some own.toNat && e.source == source.val) = some e →
        ∀ late, late = decide (10000 ≤ (s.chip.tick + 2 ^ 32 - e.tick) % 2 ^ 32) →
        (timedOut = true → late = false → exec (.pairSeqReport source own partner timedOut) s = .next s) ∧
        (timedOut = false ∨ late = true → ∃ t, exec (.pairSeqReport source own partner timedOut) s = .next t ∧
          t.chip.recd.pairWait.contains own.toNat = false ∧ t.chip.recd.buffer.length = s.chip.recd.buffer.length ∧
          (∀ (k : Nat) (e : EvRec), s.chip.recd.buffer[k]? = some e → e.seq = some own.toNat →
            (t.chip.recd.buffer[k]?).map (fun e => (e.seq, e.payload)) = some (e.seq, bytesAt e.payload 0 24 ++
              leBytes 4 own.toNat ++ leBytes 4 (if late then 2 ^ 32 - 1 else partner.toNat % 2 ^ 32))) ∧
          (∀ (k : Nat) (e : EvRec), s.chip.recd.buffer[k]? = some e → e.seq ≠ some own.toNat → t.chip.recd.buffer[k]? = some e) ∧
          t = { s with chip := { s.chip with recd := t.chip.recd } })))

/-- Bands and windows of the recorder (R466, R467, R470, R471, R475): a complete band is released by its number, every complete one
at once, and no other; a window opens at the tail, fills its slots from its cursor, seeks, closes, and is freed after 60 s without
a command; a window that the session does not own answers 3. -/
def Obligations.BandsAndWindows : Prop :=
  ∀ (session : Fin 16) (s : State), Shaped s →
    (s.chip.roleIn session [2, 3] = false → ∀ (band : BitVec 8) (window : Fin 4) (seq : BitVec 64) (bad : List (BitVec 64)),
      ∀ c ∈ [Instr.releaseBand session band, .releaseAllBands session, .windowOpen session window, .windowNext session window bad,
        .windowSeek session window seq, .windowClose session window], exec c s = .next s) ∧
    (s.chip.roleIn session [2, 3] = true → s.chip.get recdAt Recd.result ≠ 1 →
      (∀ band : BitVec 8,
        (band.toNat < 64 → s.chip.getI bandAt Band.b_state band.toNat = 2 → ∃ t, exec (.releaseBand session band) s = .next t ∧
          t.chip.getI bandAt Band.b_state band.toNat = 0 ∧ t.chip.bandTrip band.toNat = 0 ∧
          t.chip.get recdAt Recd.result = 2 ∧ t.chip.get recdAt Recd.last_cmd = 0 ∧
          (∀ b < 64, b ≠ band.toNat → t.chip.getI bandAt Band.b_state b = s.chip.getI bandAt Band.b_state b ∧
            t.chip.bandTrip b = s.chip.bandTrip b) ∧
          t = { s with chip := { s.chip with regs := t.chip.regs, recd := t.chip.recd } } ∧ WordsKept recorderWord s t) ∧
        ((64 ≤ band.toNat ∨ s.chip.getI bandAt Band.b_state band.toNat ≠ 2) → ∃ t,
          exec (.releaseBand session band) s = .next t ∧ t.chip.get recdAt Recd.result = 3 ∧
          t = { s with chip := { s.chip with regs := t.chip.regs } } ∧
          WordsKept (fun a => a = Recd.result.at recdAt 0) s t)) ∧
      (∃ t, exec (.releaseAllBands session) s = .next t ∧ t.chip.get recdAt Recd.result = 2 ∧
        (∀ b < 64, t.chip.getI bandAt Band.b_state b =
          (if s.chip.getI bandAt Band.b_state b = 2 then 0 else s.chip.getI bandAt Band.b_state b)) ∧
        t = { s with chip := { s.chip with regs := t.chip.regs, recd := t.chip.recd } } ∧ WordsKept recorderWord s t)) ∧
    (∀ window : Fin 4, s.chip.roleIn session [2, 3] = true →
      (s.chip.get (winAt window) Win.state = 0 → ∃ t, exec (.windowOpen session window) s = .next t ∧
        t.chip.get (winAt window) Win.state = 1 ∧ t.chip.get (winAt window) Win.sid = s.chip.getI sessAt Sess.sid session ∧
        t.chip.get64 (winAt window) Win.cursor = s.chip.get64 recdAt Recd.tail ∧
        t.chip.get64 (winAt window) Win.snap_head = s.chip.get64 recdAt Recd.head ∧
        t.chip.get (winAt window) Win.result = 2 ∧ nth 0 t.chip.recd.winAt window = s.chip.now ∧
        t = { s with chip := { s.chip with regs := t.chip.regs, recd := t.chip.recd } } ∧
        WordsKept (fun a => winAt window ≤ a ∧ a < winAt window + 0x10) s t) ∧
      (s.chip.ownsWindow session window = false → ∀ bad : List (BitVec 64),
        ∀ c ∈ [Instr.windowNext session window bad, .windowClose session window], ∃ t,
        exec c s = .next t ∧ t.chip.get (winAt window) Win.result = 3 ∧
        t = { s with chip := { s.chip with regs := t.chip.regs } } ∧
        WordsKept (fun a => a = Win.result.at (winAt window) 0) s t) ∧
      (s.chip.ownsWindow session window = true →
        (∀ bad : List (BitVec 64), s.chip.get64 (winAt window) Win.cursor + 16 < 2 ^ 64 →
          (let cur := s.chip.get64 (winAt window) Win.cursor
           let n := if s.chip.recd.nextSeq = 0 then 0 else min 16 (s.chip.get64 (winAt window) Win.snap_head + 1 - cur)
           ∃ t, exec (.windowNext session window bad) s = .next t ∧ t.chip.get (winAt window) Win.n_valid = n ∧
             t.chip.get64 (winAt window) Win.cursor = cur + n ∧ t.chip.get (winAt window) Win.result = 2 ∧
             (∀ i < n, ∀ k < 16, t.chip.nat (winAt window + 0x100 + 16 * i + k) =
               numAt (s.slotBytes (cur + i) (bad.map (·.toNat))).1 (4 * k) 4) ∧
             t = { s with chip := { s.chip with regs := t.chip.regs, recd := t.chip.recd } })) ∧
        (∀ seq : BitVec 64, ∃ t, exec (.windowSeek session window seq) s = .next t ∧
          t.chip.get64 (winAt window) Win.cursor = seq.toNat ∧ t.chip.get (winAt window) Win.result = 2 ∧
          t = { s with chip := { s.chip with regs := t.chip.regs, recd := t.chip.recd } } ∧
          WordsKept (fun a => winAt window ≤ a ∧ a < winAt window + 0x10) s t) ∧
        (∃ t, exec (.windowClose session window) s = .next t ∧ t.chip.get (winAt window) Win.state = 0 ∧
          t.chip.get (winAt window) Win.sid = 0 ∧ t.chip.get (winAt window) Win.result = 2 ∧
          t = { s with chip := { s.chip with regs := t.chip.regs, recd := t.chip.recd } } ∧
          WordsKept (fun a => winAt window ≤ a ∧ a < winAt window + 0x10) s t))) ∧
    (∀ window : Fin 4, s.chip.get (winAt window) Win.state ≠ 0 → nth 0 s.chip.recd.winAt window + 60000000 ≤ s.chip.now →
      ∃ t, exec (.windowIdleTimeout window) s = .next t ∧ t.chip.get (winAt window) Win.state = 0 ∧
        t.chip.get (winAt window) Win.sid = 0 ∧ t = { s with chip := { s.chip with regs := t.chip.regs } } ∧
        WordsKept (fun a => a = Win.state.at (winAt window) 0) s t)

/-- The start of a panel (R478, R488, R492, R494, Table 17.4): a start judges the ID memory, PNL_EN comes on, and rails that hold
for 100 ms put a display on and begin the clearing of an electrophoretic panel; the end of its frames puts it on and ends the dirty mark;
rails that do not come within 1 s are tried again 10 s later. -/
def Obligations.PanelStart : Prop :=
  ∀ s : State,
    (∀ mem : List Byte, (s.chip.waveRuns = true → exec (.panelStart mem) s = .next s) ∧
      (s.chip.driving = true → s.chip.mayDrive = false → exec (.panelStart mem) s = .next s)) ∧
    (∀ mem : List Byte, s.chip.panel.want = true → s.chip.panel.quench = none → s.chip.waveRuns = false →
      (s.chip.mayDrive = false → s.chip.driving = false → s.chip.panel.s2At ≠ none → ∃ t, exec (.panelStart mem) s = .next t ∧
        t.chip.get panelAt Panel.state = 6 ∧
        t.chip.get panelAt Panel.up = 0 ∧ t = { s with chip := { s.chip with regs := t.chip.regs } } ∧
        WordsKept (fun a => a = panelAt ∨ a = panelAt + 0x41 ∨ a = panelAt + 0x43) s t) ∧
      (s.chip.mayDrive = true → s.chip.panelFit = true →
        (s.chip.judgePanel (mem.map (·.toNat)) = none → ∃ t, exec (.panelStart mem) s = .next t ∧
          t.chip.get panelAt Panel.state = 5 ∧ t.chip.getBit panelAt Panel.flags_now nMismatch = true ∧
          t.chip.panel.use = none ∧ t.chip.panel.want = false ∧ t.chip.panel.pnlEn = false ∧ StoresKept s t) ∧
        (∀ u, s.chip.judgePanel (mem.map (·.toNat)) = some u → ∃ t, exec (.panelStart mem) s = .next t ∧
          t.chip.get panelAt Panel.state = 1 ∧ t.chip.panel.use = some u ∧ t.chip.panel.want = false ∧
          t.chip.get panelAt Panel.identity = numAt (mem.map (·.toNat)) 0 4 % 2 ^ 32 ∧
          t.chip.panel.frames = 0 ∧ t.chip.panel.shown = none ∧
          t = { s with chip := { s.chip with regs := t.chip.regs, panel := t.chip.panel } } ∧
          WordsKept (fun a => a = panelAt ∨ a = panelAt + 1 ∨ a = panelAt + 0x41) s t))) ∧
    (s.chip.panel.use ≠ none → s.chip.panel.retryAt ≤ s.chip.now →
      (s.chip.get panelAt Panel.state = 1 ∨ (s.chip.get panelAt Panel.state = 7 ∧ s.chip.panel.pnlEn = false)) → s.chip.mayDrive = true →
      s.chip.panelFit = true → ∃ t, exec .pnlEnAssert s = .next t ∧ t.chip.panel.pnlEn = true ∧
        t.chip.panel.pnlAt = s.chip.now ∧ t.chip.get panelAt Panel.state = 7 ∧
        t = { s with chip := { s.chip with regs := t.chip.regs, panel := t.chip.panel } } ∧
        WordsKept (fun a => a = panelAt) s t) ∧
    (∀ (rail : Fin 4) (mv : BitVec 16), s.chip.get panelAt Panel.state = 7 → s.chip.panel.pnlEn = true →
      (s.chip.panel.pnlAt + 100000 ≤ s.chip.now → ∃ t, exec (.railsQualified true rail mv) s = .next t ∧
        t.chip.get panelAt Panel.rails_ok = 1 ∧
        t.chip.get panelAt Panel.state = (if (s.chip.panel.use.map (·.kind)).getD 0 = 1 then 2 else 4) ∧
        t = { s with chip := { s.chip with regs := t.chip.regs, panel := t.chip.panel } }) ∧
      (s.chip.panel.pnlAt + 1000000 ≤ s.chip.now → ∃ t, exec (.railsQualified false rail mv) s = .next t ∧
        t.chip.panel.pnlEn = false ∧ t.chip.panel.retryAt = s.chip.now + 10000000 ∧ t.chip.get panelAt Panel.rails_ok = 0 ∧
        t.chip.getBit panelAt Panel.flags_now nRail = true ∧ t.chip.get panelAt Panel.state = 7 ∧ StoresKept s t)) ∧
    (s.chip.get panelAt Panel.state = 4 → s.chip.panel.quench = none →
      s.chip.panel.updAt + s.chip.entryFrames s.chip.band s.chip.panel.clearEntry * s.chip.frameTicks ≤ s.chip.now →
      ∃ t, exec .clearWaveformEnd s = .next t ∧
      t.chip.get panelAt Panel.state = 2 ∧ t.chip.get panelAt Panel.up = 1 ∧ t.chip.get panelAt Panel.ep_busy = 0 ∧
      t.chip.get panelAt Panel.dirty = 0 ∧ t.chip.panel.shown = none ∧ t.flash.retained.dirty = false ∧
      t.flash.nor = s.flash.nor ∧ t.pending = s.pending) ∧
    (s.chip.get panelAt Panel.state = 3 → s.chip.panel.lastQuench = 2 → ∃ t, exec .railReturn s = .next t ∧
      t.chip.panel.want = true ∧ t.chip.getBit panelAt Panel.flags_now nRail = false ∧
      t = { s with chip := { s.chip with regs := t.chip.regs, panel := t.chip.panel } } ∧
      WordsKept (fun a => a = panelAt + 0x41) s t)

/-- What a panel shows (R484 to R487, R490 to R493, R496, R498): a frame of a display, a frame's length after the last, shows the values
held at its start; an update takes the picture as its target and the end of its frames displays it; a module that must not drive any more releases its outputs; rectangles
toggle; the temperature chooses the band; the commands act on a panel that is driven and answer 3 otherwise. -/
def Obligations.PanelPictures : Prop :=
  ∀ s : State, Shaped s →
    (s.chip.driving = true → (s.chip.panel.frames = 0 ∨ s.chip.panel.frameAt + s.chip.frameTicks ≤ s.chip.now) →
      (s.chip.mayDrive = true → [2, 4].contains (s.chip.get panelAt Panel.state) = true → s.chip.clkLost 0 6 = false →
        s.chip.tongsWait (tongsKey 0 6 13) = false → ∃ t, exec .frameStart s = .next t ∧ t.chip.panel.frames = s.chip.panel.frames + 1 ∧
        t.chip.panel.frameAt = s.chip.now ∧ t.chip.panel.dim = s.chip.get panelAt Panel.dim ∧
        t.chip.panel.shown = (if (s.chip.panel.use.map (·.kind)) = some 1 then some s.chip.picture else s.chip.panel.shown) ∧
        t.chip.emitted = s.chip.emitted ++ (if (s.chip.panel.use.map (·.kind)) = some 1 then [.column 1 s.chip.picture] else []) ∧
        t = { s with chip := { s.chip with panel := t.chip.panel, emitted := t.chip.emitted } }) ∧
      (s.chip.mayDrive = false → ∃ t, exec .frameStart s = .next t ∧ t.chip.get panelAt Panel.state = 6 ∧
        t.chip.panel.pnlEn = false ∧ t.chip.panel.blEn = false ∧ t.chip.panel.target = none ∧ t.chip.get panelAt Panel.rails_ok = 0 ∧
        t = { s with chip := { s.chip with regs := t.chip.regs, panel := t.chip.panel } } ∧
        WordsKept (fun a => a = panelAt ∨ a = panelAt + 0x41 ∨ a = panelAt + 0x43) s t)) ∧
    (s.chip.driving = true → s.chip.mayDrive = true → (s.chip.panel.use.map (·.kind)) = some 2 →
      s.chip.get panelAt Panel.state = 2 → s.chip.panel.target = none → s.chip.panel.shown ≠ some s.chip.picture →
      s.chip.clkLost 0 6 = false → s.chip.tongsWait (tongsKey 0 6 13) = false → ∃ t,
      exec .updateStart s = .next t ∧ t.chip.panel.target = some s.chip.picture ∧ t.chip.panel.updAt = s.chip.now ∧
      t.chip.get panelAt Panel.ep_busy = 1 ∧ t.chip.get panelAt Panel.band_used = s.chip.get panelAt Panel.band_now ∧
      t.chip.emitted = s.chip.emitted ++ [.column 2 s.chip.picture] ∧
      t = { s with chip := { s.chip with regs := t.chip.regs, panel := t.chip.panel, emitted := t.chip.emitted } } ∧
      WordsKept (fun a => a = panelAt) s t) ∧
    (∀ pic, s.chip.panel.target = some pic → s.chip.panel.quench = none →
      s.chip.panel.updAt + s.chip.updateFrames * s.chip.frameTicks ≤ s.chip.now → ∃ t, exec .updateEnd s = .next t ∧ t.chip.panel.shown = some pic ∧
      t.chip.panel.target = none ∧ t.chip.get panelAt Panel.ep_busy = 0 ∧
      (s.chip.phase = 8 → t.chip.get panelAt Panel.updates = min (s.chip.get panelAt Panel.updates + 1) Panel.updates.top) ∧
      t = { s with chip := { s.chip with regs := t.chip.regs, panel := t.chip.panel } }) ∧
    (∀ i : Fin 8, (nth {} s.chip.panel.blink i).en = true → (nth {} s.chip.panel.blink i).nextAt ≤ s.chip.now → ∃ t,
      exec (.blinkToggle i) s = .next t ∧
      t.chip.getBit panelAt Panel.blink_fill i = !s.chip.getBit panelAt Panel.blink_fill i ∧
      (nth {} t.chip.panel.blink i).nextAt =
        (nth {} s.chip.panel.blink i).nextAt + (nth {} s.chip.panel.blink i).period / 2 ∧
      t = { s with chip := { s.chip with regs := t.chip.regs, panel := t.chip.panel } }) ∧
    (∀ (temp : BitVec 16) (rails : List (BitVec 16)), s.chip.panel.sensor = true →
      (∀ t0, s.chip.panel.tempAt = some t0 → t0 + 1000000 ≤ s.chip.now) → ∃ t,
      exec (.panelTempRead true temp rails) s = .next t ∧ t.chip.get panelAt Panel.panel_temp = temp.toNat ∧
      t.chip.get panelAt Panel.band_now = s.chip.bandOf temp.toInt ∧ t.chip.panel.tempFails = 0 ∧
      t.chip.get panelAt Panel.rail1_mv = (nth 0 rails 0).toNat ∧ t.chip.get panelAt Panel.rail4_mv = (nth 0 rails 3).toNat ∧
      StoresKept s t) ∧
    (s.chip.get panelAt Panel.result ≠ 1 →
      (s.chip.driving = true → (∃ t, exec .showCode s = .next t ∧ t.chip.panel.codeUntil =
            (if s.chip.statusPage then s.chip.panel.codeUntil else some (s.chip.now + 60000000)) ∧
          t.chip.get panelAt Panel.result = 2 ∧ t.chip.get panelAt Panel.last_cmd = 1 ∧
          t = { s with chip := { s.chip with regs := t.chip.regs, panel := t.chip.panel } } ∧
          WordsKept (fun a => a = Panel.result.at panelAt 0) s t) ∧
        ((s.chip.panel.use.map (·.kind)) = some 2 → ∃ t, exec .panelClear s = .next t ∧ t.chip.panel.deep = true ∧
          t.chip.get panelAt Panel.result = 2 ∧
          t = { s with chip := { s.chip with regs := t.chip.regs, panel := t.chip.panel } } ∧
          WordsKept (fun a => a = Panel.result.at panelAt 0) s t)) ∧
      (s.chip.driving = false → ∀ c ∈ [Instr.showCode, .panelClear], ∃ t, exec c s = .next t ∧
        t.chip.get panelAt Panel.result = 3 ∧ t = { s with chip := { s.chip with regs := t.chip.regs } } ∧
        WordsKept (fun a => a = Panel.result.at panelAt 0) s t)) ∧
    (∀ t0, s.chip.panel.codeUntil = some t0 → t0 ≤ s.chip.now → ∃ t, exec .showCodeExpiry s = .next t ∧
      t = { s with chip := { s.chip with panel := { s.chip.panel with codeUntil := none } } })

/-- The quench (R488, R489, R495, Table 17.5): a trigger, a rail outside its window and the restart command begin it on a panel that
is driven, a running waveform leaving the dirty mark; the end of the frame
in which it began grounds the lines, and its end counts it and notes its trigger. -/
def Obligations.PanelQuench : Prop :=
  ∀ s : State,
    (∀ trigger : Fin 8, trigger ≠ 0 →
      (s.chip.driving = false → exec (.quench trigger) s = .next s) ∧
      (s.chip.driving = true → ∃ t, exec (.quench trigger) s = .next t ∧ t.chip.panel.quench = some trigger.val ∧
        t.chip.panel.blEn = false ∧
        (s.chip.waveRuns = true → t.chip.get panelAt Panel.dirty = 1 ∧ t.flash.retained.dirty = true) ∧
        (s.chip.waveRuns = false → t.flash = s.flash) ∧ t.flash.nor = s.flash.nor ∧ t.pending = s.pending ∧
        t = { s with flash := t.flash, chip := { s.chip with regs := t.chip.regs, panel := t.chip.panel } } ∧
        WordsKept (fun a => a = panelAt) s t)) ∧
    (∀ (rail : Fin 4) (mv : BitVec 16), s.chip.driving = true → s.chip.flag panelAt Panel.rails_ok = true → s.chip.panel.usedRails.contains rail.val = true →
      inWindow (nth 0 s.chip.panel.rails rail.val) mv.toInt = false → ∃ t, exec (.railFault rail mv) s = .next t ∧
      t.chip.panel.quench = some 2 ∧ t.chip.getBit panelAt Panel.flags_now nRail = true ∧
      t.chip.get panelAt Panel.rails_ok = 0 ∧ t.flash.nor = s.flash.nor ∧ t.pending = s.pending) ∧
    (s.chip.panel.quench ≠ none → (s.chip.waveRuns = true → s.chip.panel.updAt +
        ((s.chip.panel.quenchAt - s.chip.panel.updAt) / max 1 s.chip.frameTicks + 1) * max 1 s.chip.frameTicks ≤ s.chip.now) →
      ∃ t, exec .quenchFrameEnd s = .next t ∧ t.chip.panel.pnlEn = false ∧
      t.chip.panel.target = none ∧ t.chip.get panelAt Panel.ep_busy = 0 ∧ t.chip.get panelAt Panel.rails_ok = 0 ∧
      t = { s with chip := { s.chip with regs := t.chip.regs, panel := t.chip.panel } } ∧
      WordsKept (fun a => a = panelAt ∨ a = panelAt + 0x41) s t) ∧
    (∀ trigger, s.chip.panel.quench = some trigger → s.chip.panel.pnlEn = false → ∃ t, exec .quenchComplete s = .next t ∧ t.chip.panel.quench = none ∧
      t.chip.panel.lastQuench = trigger ∧ t.chip.get panelAt Panel.state = 3 ∧
      t.chip.getBit panelAt Panel.flags_now nQuenched = true ∧ t.chip.panel.want = (trigger == 7) ∧
      (s.chip.phase = 8 → t.chip.get panelAt Panel.quenches = min (s.chip.get panelAt Panel.quenches + 1) Panel.quenches.top) ∧ StoresKept s t) ∧
    (s.chip.get panelAt Panel.result ≠ 1 →
      (s.chip.mayDrive = true → s.chip.get panelAt Panel.state ≠ 0 → s.chip.get panelAt Panel.state ≠ 6 → ∃ t,
        exec .panelRestart s = .next t ∧ t.chip.get panelAt Panel.result = 1 ∧ t.chip.get panelAt Panel.last_cmd = 0 ∧
        (s.chip.driving = true → t.chip.panel.quench = some 7) ∧ (s.chip.driving = false → t.chip.panel.want = true) ∧
        t.flash.nor = s.flash.nor ∧ t.pending = s.pending) ∧
      (s.chip.mayDrive = false → ∃ t, exec .panelRestart s = .next t ∧ t.chip.get panelAt Panel.result = 3 ∧
        t = { s with chip := { s.chip with regs := t.chip.regs } } ∧
        WordsKept (fun a => a = Panel.result.at panelAt 0) s t))

/-- Performance counters (R503 to R506, R508): an event at all ones reloads the preload and sets ovf; with ovf_event it
awaits its sample, or is dropped where another waits; the sample is shown and recorded, or dropped within 1 ms of the last record; the end of a window shows its counts and begins the next; clear
reloads every counter. -/
def Obligations.Counters : Prop :=
  ∀ (r : Fin 8) (s : State), Shaped s → (s.chip.ctr r).ones.length = 8 →
    (∀ j : Fin 8, s.chip.phase = 8 → s.chip.flag (ctrAt r) Ctr.freeze = false → s.chip.getI (ctrAt r) Ctr.enable j ≠ 0 →
      s.chip.getI (ctrAt r) Ctr.cls j ≠ 0 → s.chip.getI (ctrAt r) Ctr.value j = 2 ^ 32 - 1 → ∃ t,
      exec (.counterOverflow r j) s = .next t ∧ t.chip.getI (ctrAt r) Ctr.value j = s.chip.getI (ctrAt r) Ctr.preload j ∧
      t.chip.getBit (ctrAt r) Ctr.ovf j = true ∧
      (s.chip.getI (ctrAt r) Ctr.ovf_event j ≠ 0 →
        ((nth {} (s.chip.ctr r).ones j).overAt = none → (nth {} (t.chip.ctr r).ones j).overAt = some s.chip.now) ∧
        ((nth {} (s.chip.ctr r).ones j).overAt ≠ none →
          t.chip.get (ctrAt r) Ctr.dropped = min (s.chip.get (ctrAt r) Ctr.dropped + 1) Ctr.dropped.top)) ∧
      t = { s with chip := { s.chip with regs := t.chip.regs, ctrs := t.chip.ctrs, freeCtr := t.chip.freeCtr } } ∧
      WordsKept (fun a => a = Ctr.value.at (ctrAt r) j ∨ a = Ctr.ovf.at (ctrAt r) 0 ∨ a = Ctr.dropped.at (ctrAt r) 0) s t ∧
      ∀ q, q ≠ r.val → t.chip.ctr q = s.chip.ctr q) ∧
    (∀ (j : Fin 8) q, s.chip.sampleReady (nth {} (s.chip.ctr r).ones j) = some q → q < 2 ^ 32 →
      ((nth {} (s.chip.ctr r).ones j).recAt = none → ∃ t, exec (.counterSample r j) s = .next t ∧
        t.chip.getI (ctrAt r) Ctr.last_sample j = q ∧ (nth {} (t.chip.ctr r).ones j).overAt = none ∧
        (nth {} (t.chip.ctr r).ones j).recAt = some s.chip.now ∧ StoresKept s t ∧
        WordsKept (fun a => a = Ctr.last_sample.at (ctrAt r) j ∨ recorderWord a) s t) ∧
      (∀ u, (nth {} (s.chip.ctr r).ones j).recAt = some u → s.chip.now < u + 1000 → ∃ t,
        exec (.counterSample r j) s = .next t ∧ t.chip.getI (ctrAt r) Ctr.last_sample j = q ∧
        t.chip.get (ctrAt r) Ctr.dropped = min (s.chip.get (ctrAt r) Ctr.dropped + 1) Ctr.dropped.top ∧
        t = { s with chip := { s.chip with regs := t.chip.regs, ctrs := t.chip.ctrs } })) ∧
    (s.chip.phase = 8 → s.chip.fitted r = true → (s.chip.ctr r).endAt ≤ s.chip.now → ∃ t, exec (.counterWindowEnd r) s = .next t ∧
      (∀ j < 8, t.chip.getI (ctrAt r) Ctr.win_count j = min (nth {} (s.chip.ctr r).ones j).acc (2 ^ 32 - 1) ∧
        (nth {} (t.chip.ctr r).ones j).acc = 0) ∧
      t.chip.get (ctrAt r) Ctr.win_index = (s.chip.get (ctrAt r) Ctr.win_index + 1) % 2 ^ 32 ∧
      t = { s with chip := { s.chip with regs := t.chip.regs, ctrs := t.chip.ctrs } } ∧
      (∀ j < 8, t.chip.getI (ctrAt r) Ctr.value j = s.chip.getI (ctrAt r) Ctr.value j) ∧
      ∀ q, q ≠ r.val → t.chip.ctr q = s.chip.ctr q) ∧
    (s.chip.opens r = false → exec (.counterClear r) s = .next s) ∧
    (s.chip.opens r = true → s.chip.get (ctrAt r) Ctr.result ≠ 1 → ∃ t, exec (.counterClear r) s = .next t ∧
      (∀ j < 8, t.chip.getI (ctrAt r) Ctr.value j = s.chip.getI (ctrAt r) Ctr.preload j ∧
        t.chip.getI (ctrAt r) Ctr.win_count j = 0 ∧ t.chip.getI (ctrAt r) Ctr.last_sample j = 0) ∧
      t.chip.get (ctrAt r) Ctr.dropped = 0 ∧ t.chip.get (ctrAt r) Ctr.result = 2 ∧
      t = { s with chip := { s.chip with regs := t.chip.regs } })

/-- What an input binding delivers (R147, R150, R151, R170, R171, R186, R246), before the invert flag of a BOOL: nothing bound gives the
unbound value; a literal and a constant give their bits; a producer with a lower number gives its output of this cycle and any
other one that ran in this cycle its output of the previous one, unless the output is forced; a channel gives its latched image
in the type of the binding, or its status. -/
def Obligations.InputBindings : Prop :=
  ∀ (c : Chip) (n : Nat) (b : Bind) (dflt : Nat), ¬ (b.flags.testBit 0 = true ∧ b.ty = tyBool) →
    (b.kind = 0x00 → c.bindValue n b dflt = dflt) ∧
    (b.kind = 0x02 → c.bindValue n b dflt = tyNorm b.ty b.ref) ∧
    (b.kind = 0x01 → c.bindValue n b dflt =
      tyNorm b.ty (c.nat (constAt (2 * b.ref)) + 2 ^ 32 * c.nat (constAt (2 * b.ref + 1)))) ∧
    (∀ p : Inv, b.kind = 0x03 → c.inv (b.ref % 2 ^ 16) = some p →
      (c.forceOf 3 p.region (b.ref / 2 ^ 16 % 2 ^ 8) p.seq = none →
        (p.seq < n → c.bindValue n b dflt = c.instOut p (b.ref / 2 ^ 16 % 2 ^ 8)) ∧
        (∀ outs, n ≤ p.seq → assoc c.eng.saved p.seq = some outs →
          c.bindValue n b dflt = nth 0 outs (b.ref / 2 ^ 16 % 2 ^ 8)) ∧
        (n ≤ p.seq → assoc c.eng.saved p.seq = none → c.bindValue n b dflt = c.instOut p (b.ref / 2 ^ 16 % 2 ^ 8))) ∧
      (∀ e : Nat, c.forceOf 3 p.region (b.ref / 2 ^ 16 % 2 ^ 8) p.seq = some e →
        c.bindValue n b dflt = tyNorm (nth 0 p.sig.outs (b.ref / 2 ^ 16 % 2 ^ 8)) (c.forceValue e))) ∧
    (b.kind = 0x04 →
      let im := c.img (16 * b.region + b.ref % 16)
      (b.ref.testBit 8 = true → c.bindValue n b dflt = im.st) ∧
      (b.ref.testBit 8 = false → b.ty = tyReal → im.ty = tyBool → c.bindValue n b dflt = asReal tyBool im.val) ∧
      (b.ref.testBit 8 = false → b.ty = im.ty → b.ty ≠ tyStatus → c.bindValue n b dflt = im.val)) ∧
    (b.kind = 0x09 → (b.ref = 0 → c.bindValue n b dflt = c.get engineAt Engine.latch_tick) ∧
      (b.ref = 1 → c.bindValue n b dflt = c.eng.latchCal) ∧
      (b.ref = 2 → c.bindValue n b dflt = c.get engineAt Engine.cycle_count) ∧
      (b.ref = 3 → c.bindValue n b dflt = c.eng.prevTime))

/-- Logic, word and comparison blocks (Tables 7.1 and 7.2, R193): what each gives of its inputs; CMPH holds between its two
thresholds and with a NaN operand. -/
def Obligations.LogicAndComparisonBlocks : Prop :=
  Gives .and Instr.runAnd (fun x => [if ∀ v ∈ x.ins, v ≠ 0 then 1 else 0]) ∧
  Gives .or Instr.runOr (fun x => [if ∃ v ∈ x.ins, v ≠ 0 then 1 else 0]) ∧
  Gives .xor Instr.runXor (fun x => [x.ins.countP (· != 0) % 2]) ∧
  Gives .not Instr.runNot (fun x => [if x.i 0 = 0 then 1 else 0]) ∧
  Gives .wand Instr.runWand (fun x => [x.ins.foldr (· &&& ·) 0xFFFFFFFF]) ∧
  Gives .wor Instr.runWor (fun x => [x.ins.foldr (· ||| ·) 0]) ∧
  Gives .wxor Instr.runWxor (fun x => [x.ins.foldr (· ^^^ ·) 0]) ∧
  Gives .wnot Instr.runWnot (fun x => [x.i 0 ^^^ 0xFFFFFFFF]) ∧
  Gives .shift Instr.runShift (fun x =>
    [if 32 ≤ (signed 32 (x.i 1)).natAbs then 0
      else if 0 ≤ signed 32 (x.i 1) then x.i 0 * 2 ^ (signed 32 (x.i 1)).toNat % 2 ^ 32
      else x.i 0 / 2 ^ (-signed 32 (x.i 1)).toNat]) ∧
  Gives .bit Instr.runBit (fun x =>
    if 0 ≤ signed 32 (x.i 1) ∧ signed 32 (x.i 1) ≤ 31 then [x.i 0 / 2 ^ (signed 32 (x.i 1)).toNat % 2, 0] else [0, 1]) ∧
  Gives .pack Instr.runPack (fun x => [x.ins.foldr (fun v n => (if v = 0 then 0 else 1) + 2 * n) 0]) ∧
  Gives .unpack Instr.runUnpack (fun x => (List.range x.old.length).map (fun k => x.i 0 / 2 ^ k % 2)) ∧
  Compares .eq Instr.runEq rEq (· = ·) ∧
  Compares .ne Instr.runNe (fun a b => !rEq a b) (· ≠ ·) ∧
  Compares .gt Instr.runGt (fun a b => rLt b a) (fun a b => b < a) ∧
  Compares .ge Instr.runGe (fun a b => rLe b a) (fun a b => b ≤ a) ∧
  Compares .lt Instr.runLt rLt (· < ·) ∧
  Compares .le Instr.runLe rLe (· ≤ ·) ∧
  Gives .cmph Instr.runCmph (fun x =>
    [if rNaN (x.r 0) = true ∨ rNaN (x.r 1) = true ∨ rNaN (x.r 2) = true then (if x.o 0 = 0 then 0 else 1)
      else if rLe (x.r 1) (x.r 0) = true then 1
      else if rLt (x.r 0) (rSub (x.r 1) (if rLt (x.r 2) 0 = true then 0 else x.r 2)) = true then 0
      else if x.o 0 = 0 then 0 else 1,
    if rLt (x.r 2) 0 = true then 1 else 0])

/-- Arithmetic blocks (Table 7.3, R187): integer results saturate with x, every partial sum and product too; REAL32 results that
are NaN or infinite, or of NaN inputs, are not written; a division by zero keeps the previous value with x. -/
def Obligations.ArithmeticBlocks : Prop :=
  (∀ (b : Blk) (cmd : Fin 65536 → Instr) (onReal : Nat → Nat → Nat) (onInt : Int → Int → Int),
    (b, cmd, onReal, onInt) ∈ ([(Blk.add, Instr.runAdd, rAdd, (· + ·)), (Blk.sub, Instr.runSub, rSub, (· - ·)),
      (Blk.mul, Instr.runMul, rMul, (· * ·))] : List (Blk × (Fin 65536 → Instr) × (Nat → Nat → Nat) × (Int → Int → Int))) →
    Computes b cmd (fun x => x.ins.any rNaN) (fun x => (x.ins.tail.map rFlush).foldl onReal (x.r 0))
      (fun x => (x.ins.tail.map (intOf x.t)).foldl
        (fun (a : Int × Bool) v => (clampI (tyMin x.t) (tyMax x.t) (onInt a.1 v), a.2 || outOfRange x.t (onInt a.1 v)))
        (intOf x.t (x.i 0), false))) ∧
  Gives .div Instr.runDiv (fun x =>
    if x.t = 4 then
      (if x.ins.any rNaN = true ∨ rBad (rDiv (x.r 0) (x.r 1)) = true then [x.o 0, 1] else [rFlush (rDiv (x.r 0) (x.r 1)), 0])
    else if intOf x.t (x.i 1) = 0 then [x.o 0, 1]
    else [satEnc x.t ((intOf x.t (x.i 0)).tdiv (intOf x.t (x.i 1))),
      if outOfRange x.t ((intOf x.t (x.i 0)).tdiv (intOf x.t (x.i 1))) = true then 1 else 0]) ∧
  Gives .mod Instr.runMod (fun x =>
    if intOf x.t (x.i 1) = 0 then [x.o 0, 1] else [satEnc x.t ((intOf x.t (x.i 0)).tmod (intOf x.t (x.i 1))), 0]) ∧
  Computes .abs Instr.runAbs (fun x => rNaN (x.i 0)) (fun x => rAbs (x.r 0))
    (fun x => (((intOf x.t (x.i 0)).natAbs : Int), outOfRange x.t ((intOf x.t (x.i 0)).natAbs : Int))) ∧
  Computes .neg Instr.runNeg (fun x => rNaN (x.i 0)) (fun x => rNegate (x.r 0))
    (fun x => (-intOf x.t (x.i 0), outOfRange x.t (-intOf x.t (x.i 0)))) ∧
  (∀ (b : Blk) (cmd : Fin 65536 → Instr) (onReal : Nat → Nat → Nat) (onInt : Int → Int → Int),
    (b, cmd, onReal, onInt) ∈ ([(Blk.min, Instr.runMin, rMin, min), (Blk.max, Instr.runMax, rMax, max)] :
      List (Blk × (Fin 65536 → Instr) × (Nat → Nat → Nat) × (Int → Int → Int))) →
    Gives b cmd (fun x =>
      if x.t = 4 then
        (match (x.ins.filter (fun v => !rNaN v)).map rFlush with
          | [] => [x.o 0, 1]
          | a :: rest => if rBad (rest.foldl onReal a) = true then [x.o 0, 1] else [rFlush (rest.foldl onReal a), 0])
      else (match x.ins.map (intOf x.t) with
        | [] => [x.o 0, 1]
        | a :: rest => [satEnc x.t (rest.foldl onInt a), 0]))) ∧
  Gives .sqrt Instr.runSqrt (fun x =>
    if rLt (x.r 0) 0 = true then [0, 1]
    else if rNaN (x.i 0) = true ∨ rBad (rSqrt (x.r 0)) = true then [x.o 0, 1] else [rFlush (rSqrt (x.r 0)), 0]) ∧
  Gives .ln Instr.runLn (fun x =>
    if rLe (x.r 0) 0 = true ∨ rNaN (x.i 0) = true ∨ rBad (rLn (x.r 0)) = true then [x.o 0, 1] else [rFlush (rLn (x.r 0)), 0]) ∧
  Gives .exp Instr.runExp (fun x =>
    if rNaN (x.i 0) = true ∨ rBad (rExp (x.r 0)) = true then [x.o 0, 1] else [rFlush (rExp (x.r 0)), 0]) ∧
  Gives .pow Instr.runPow (fun x =>
    if x.ins.any rNaN = true ∨ rBad (rPow (x.r 0) (x.r 1)) = true then [x.o 0, 1] else [rFlush (rPow (x.r 0) (x.r 1)), 0]) ∧
  (∀ (s : State) (q : Fin 65536) (i : Inv) (ty : Nat), Ready s .poly q.val i ty →
    let x := s.chip.ctx i ty
    let v := x.r 0
    let k := fun j => rFlush (x.p j)
    let r := rAdd (k 0) (rMul v (rAdd (k 1) (rMul v (rAdd (k 2) (rMul v (rAdd (k 3) (rMul v (rAdd (k 4) (rMul v (k 5))))))))))
    ∃ t, exec (.runPoly q) s = .next t ∧ Ran s t i []
      (if rNaN (x.i 0) = true ∨ (List.range 6).any (fun j => rNaN (k j)) = true ∨ rBad r = true then [x.o 0, 1] else [rFlush r, 0]) [])

/-- Selection, scaling, conversion and alarm blocks (Tables 7.4, 7.7 and 7.9, R187, R196, R197): a copied value, a clamped one,
a scaled value with its status, the points of a table, the changes of type, the bits of a status, the fields of a
calendar stamp, and alarms with a dead band. -/
def Obligations.SelectionAndConversionBlocks : Prop :=
  Gives .sel Instr.runSel (fun x =>
    [let v := if x.i 0 = 0 then x.i 1 else x.i 2
     if x.t = 4 then keepBad false (x.o 0) v else v]) ∧
  Gives .mux Instr.runMux (fun x =>
    let k := signed 32 (x.i 0)
    let n : Int := (x.ins.length : Int) - 1
    let kk := clampI 0 (n - 1) k
    let v := x.i (1 + kk.toNat)
    [if x.t = 4 then keepBad false (x.o 0) v else v, if k ≠ kk ∨ (x.t = 4 ∧ rBad v = true) then 1 else 0]) ∧
  Gives .limit Instr.runLimit (fun x =>
    if x.t = 4 then
      (let hi := if rLt (x.r 2) (x.r 0) = true then x.r 0 else x.r 2
       let mm := if rLt (x.r 2) (x.r 0) = true then 1 else 0
       let v := rClamp (x.r 0) hi (x.r 1)
       if x.ins.any rNaN = true then [x.o 0, x.o 1, mm]
       else [keepBad false (x.o 0) v, if rEq v (x.r 1) = true then 0 else 1, mm])
    else
      (let lo := intOf x.t (x.i 0)
       let hi := max lo (intOf x.t (x.i 2))
       let v := min (max (intOf x.t (x.i 1)) lo) hi
       [satEnc x.t v, if v = intOf x.t (x.i 1) then 0 else 1, if intOf x.t (x.i 2) < lo then 1 else 0])) ∧
  Gives .move Instr.runMove (fun x =>
    [if x.i 0 = 0 then x.o 0 else if x.t = 4 then keepBad false (x.o 0) (x.i 1) else x.i 1]) ∧
  (∀ (s : State) (q : Fin 65536) (i : Inv) (ty : Nat), Ready s .scaleq q.val i ty →
    let x := s.chip.ctx i ty
    let f := rDiv (rSub (x.r 0) (x.r 2)) (rSub (x.r 3) (x.r 2))
    let zs := rEq (x.r 3) (x.r 2) = true
    let lo := zs ∨ rLt f 0 = true
    let hi := ¬ zs ∧ rLt (rOfInt 1) f = true
    let v := if zs ∨ (x.i 6 ≠ 0 ∧ lo) then x.r 4 else if x.i 6 ≠ 0 ∧ hi then x.r 5 else rAdd (x.r 4) (rMul f (rSub (x.r 5) (x.r 4)))
    let bad := rBad v
    ∃ t, exec (.runScaleq q) s = .next t ∧ ∃ st : Nat,
      Ran s t i [] [if bad then x.o 0 else rFlush v, st, if zs then 1 else 0] [] ∧
      (st.testBit 4 = true ↔ lo) ∧ (st.testBit 5 = true ↔ hi) ∧ (st.testBit 7 = (bad || (x.i 1).testBit 7)) ∧
      (∀ k, k < 16 → k ≠ 0 → k ≠ 4 → k ≠ 5 → k ≠ 7 → st.testBit k = (x.i 1).testBit k)) ∧
  (∀ (s : State) (q : Fin 65536) (i : Inv) (ty : Nat), Ready s .lintab q.val i ty →
    let x := s.chip.ctx i ty
    2 ≤ x.p 0 → x.p 0 ≤ 12 →
    let ws := ((x.par.drop 2).take (x.p 0 - 1)).map rFlush
    let xs := lintabXs (rFlush (x.p 1)) ws
    let ys := ((x.par.drop 13).take (x.p 0)).map rFlush
    let mm := if ws.any (fun w => rLt w 0) = true then 1 else 0
    ∃ t, exec (.runLintab q) s = .next t ∧
      (rNaN (x.i 0) = true ∨ rNaN (nth 0 xs 0) = true → Ran s t i [] [x.o 0, x.o 1, mm] []) ∧
      (rNaN (x.i 0) = false → rNaN (nth 0 xs 0) = false →
        (rLt (x.r 0) (nth 0 xs 0) = true → Ran s t i [] [keepBad false (x.o 0) (nth 0 ys 0), 1, mm] []) ∧
        (rLt (x.r 0) (nth 0 xs 0) = false → rLt (nth 0 xs (x.p 0 - 1)) (x.r 0) = true →
          Ran s t i [] [keepBad false (x.o 0) (nth 0 ys (x.p 0 - 1)), 1, mm] []) ∧
        (rLt (x.r 0) (nth 0 xs 0) = false → rLt (nth 0 xs (x.p 0 - 1)) (x.r 0) = false →
          Ran s t i [] (if (lintabSeek (x.r 0) xs ys).2 = true then [x.o 0, x.o 1, mm]
            else [keepBad false (x.o 0) (lintabSeek (x.r 0) xs ys).1, 0, mm]) []))) ∧
  Gives .conv Instr.runConv (fun x =>
    if x.t % 8 = 4 then [rOfInt (intOf (x.t / 8) (x.i 0)), 0]
    else if x.t / 8 = 4 then
      (if rNaN (x.i 0) = true then [0, 1]
       else if rInf (x.i 0) = true then [satEnc (x.t % 8) (if rNeg (x.i 0) = true then tyMin (x.t % 8) else tyMax (x.t % 8)), 1]
       else [satEnc (x.t % 8) (rToIntEven (x.r 0)), if outOfRange (x.t % 8) (rToIntEven (x.r 0)) = true then 1 else 0])
    else [satEnc (x.t % 8) (intOf (x.t / 8) (x.i 0)), if outOfRange (x.t % 8) (intOf (x.t / 8) (x.i 0)) = true then 1 else 0]) ∧
  Gives .castUr Instr.runCastUr (fun x => [x.i 0]) ∧ Gives .castRu Instr.runCastRu (fun x => [x.i 0]) ∧
  Gives .castUi Instr.runCastUi (fun x => [x.i 0]) ∧ Gives .castIu Instr.runCastIu (fun x => [x.i 0]) ∧
  Gives .stsplit Instr.runStsplit (fun x => (List.range 8).map (fun k => x.i 0 / 2 ^ k % 2)) ∧
  (∀ (s : State) (q : Fin 65536) (i : Inv) (ty : Nat), Ready s .stmerge q.val i ty →
    ∃ t, exec (.runStmerge q) s = .next t ∧ ∃ st : Nat, Ran s t i [] [st] [] ∧
      (∀ k, k < 16 → k ≠ 0 → (st.testBit k = true ↔ ∃ v ∈ (s.chip.ctx i ty).ins, v.testBit k = true)) ∧
      (st.testBit 7 = false → (st.testBit 0 = true ↔ ∀ v ∈ (s.chip.ctx i ty).ins, v.testBit 0 = true)) ∧
      (st.testBit 7 = true → st.testBit 0 = false)) ∧
  Gives .calsplit Instr.runCalsplit (fun x =>
    let secs := x.i 0 / 2 ^ 24
    [(dateOf (secs / 86400)).1, (dateOf (secs / 86400)).2.1, (dateOf (secs / 86400)).2.2, secs / 3600 % 24, secs / 60 % 60, secs % 60,
      x.i 0 % 2 ^ 24 * 1000000 / 2 ^ 24]) ∧
  Gives .alm Instr.runAlm (fun x =>
    let lw := rLt (x.r 2) (x.r 1) = true
    let nz := rLt (x.r 3) 0 = true
    let hi := if lw then x.r 1 else x.r 2
    let db := if nz then 0 else x.r 3
    if x.ins.any rNaN = true then [x.o 0, x.o 1, if lw ∨ nz then 1 else 0]
    else
      [if rLe (x.r 0) (x.r 1) = true then 1 else if rLt (rAdd (x.r 1) db) (x.r 0) = true ∨ x.o 0 = 0 then 0 else 1,
       if rLe hi (x.r 0) = true then 1 else if rLt (x.r 0) (rSub hi db) = true ∨ x.o 1 = 0 then 0 else 1,
       if lw ∨ nz then 1 else 0])

/-- Timed blocks (Table 7.5, R159, R189): state word 0 keeps the latch tick, the accumulated ticks saturate, and each block's output
follows its accumulator and its previous input; a filter or ramp moves by the ticks d since the last evaluation. -/
def Obligations.TimedBlocks : Prop :=
  let cap := fun n : Nat => min n (2 ^ 32 - 1)
  let on := fun (x : Ctx) k => if x.i k = 0 then 0 else 1
  Runs .ton Instr.runTon
    (fun x => [x.now, if x.i 0 = 0 ∨ x.w 2 = 0 then 0 else cap (x.w 1 + x.d), on x 0])
    (fun x => let acc := if x.i 0 = 0 ∨ x.w 2 = 0 then 0 else cap (x.w 1 + x.d)
      [if x.i 0 ≠ 0 ∧ x.i 1 ≤ acc then 1 else 0, min acc (x.i 1)]) ∧
  Runs .tof Instr.runTof
    (fun x => [x.now, if x.i 0 ≠ 0 ∨ x.w 2 ≠ 0 then 0 else cap (x.w 1 + x.d), on x 0])
    (fun x => let acc := if x.i 0 ≠ 0 ∨ x.w 2 ≠ 0 then 0 else cap (x.w 1 + x.d)
      [if x.i 0 ≠ 0 ∨ (x.o 0 ≠ 0 ∧ acc < x.i 1) then 1 else 0, min acc (x.i 1)]) ∧
  (∀ (s : State) (q : Fin 65536) (i : Inv) (ty : Nat), Ready s .tp q.val i ty →
    let x := s.chip.ctx i ty
    ∃ t, exec (.runTp q) s = .next t ∧
      (let acc := if x.o 0 = 0 then x.w 1 else cap (x.w 1 + x.d)
       (x.rise 0 2 ∧ x.i 1 ≠ 0 ∧ (x.o 0 = 0 ∨ x.i 1 ≤ acc) → Ran s t i [x.now, 0, on x 0] [1, 0] []) ∧
       (¬ (x.rise 0 2 ∧ x.i 1 ≠ 0 ∧ (x.o 0 = 0 ∨ x.i 1 ≤ acc)) →
         Ran s t i [x.now, acc, on x 0] [if x.o 0 ≠ 0 ∧ acc < x.i 1 then 1 else 0, min acc (x.i 1)] []))) ∧
  Runs .rto Instr.runRto
    (fun x => [x.now, if x.i 1 ≠ 0 then 0 else if x.i 0 ≠ 0 ∧ x.w 2 ≠ 0 then cap (x.w 1 + x.d) else x.w 1, on x 0])
    (fun x => let acc := if x.i 1 ≠ 0 then 0 else if x.i 0 ≠ 0 ∧ x.w 2 ≠ 0 then cap (x.w 1 + x.d) else x.w 1
      [if x.i 2 ≤ acc then 1 else 0, min acc (x.i 2)]) ∧
  (∀ (s : State) (q : Fin 65536) (i : Inv) (ty : Nat), Ready s .pgen q.val i ty →
    let x := s.chip.ctx i ty
    ∃ t, exec (.runPgen q) s = .next t ∧ ∃ acc : Nat,
      Ran s t i [x.now, acc, on x 0] [if x.i 0 ≠ 0 ∧ x.i 1 ≠ 0 ∧ (x.i 2 = 0 ∨ acc < x.i 1) then 1 else 0] [] ∧
      (x.rise 0 2 → acc = 0) ∧
      (x.i 0 ≠ 0 → x.w 2 ≠ 0 → 0 < x.i 1 + x.i 2 → x.i 1 + x.i 2 ≤ 2 ^ 32 → acc = (x.w 1 + x.d) % (x.i 1 + x.i 2))) ∧
  Runs .debnc Instr.runDebnc
    (fun x => [x.now, if x.i 0 = 0 ↔ x.w 2 = 0 then cap (x.w 1 + x.d) else 0, on x 0])
    (fun x => let acc := if x.i 0 = 0 ↔ x.w 2 = 0 then cap (x.w 1 + x.d) else 0
      [if x.i 0 ≠ 0 ∧ x.i 1 ≤ acc then 1 else if x.i 0 = 0 ∧ x.i 2 ≤ acc then 0 else if x.o 0 = 0 then 0 else 1]) ∧
  (∀ (s : State) (q : Fin 65536) (i : Inv) (ty : Nat), Ready s .bumpsw q.val i ty →
    let x := s.chip.ctx i ty
    let v := if x.i 0 = 0 then x.r 1 else x.r 2
    ∃ t, exec (.runBumpsw q) s = .next t ∧
      ((x.i 0 = 0 ↔ x.w 3 = 0) → cap (x.w 1 + x.d) < x.i 3 →
        Ran s t i [x.now, cap (x.w 1 + x.d), x.w 2, on x 0]
          [keepBad (rNaN v) (x.o 0) (rAdd (x.w 2) (rMul (rSub v (x.w 2)) (rDiv (rOfInt (cap (x.w 1 + x.d) : Nat))
            (rOfInt (x.i 3 : Nat))))), 1] []) ∧
      ((x.i 0 = 0 ↔ x.w 3 = 0) → x.i 3 ≤ cap (x.w 1 + x.d) →
        Ran s t i [x.now, cap (x.w 1 + x.d), x.w 2, on x 0] [keepBad (rNaN v) (x.o 0) v, 0] []) ∧
      (¬ (x.i 0 = 0 ↔ x.w 3 = 0) → x.i 3 = 0 → Ran s t i [x.now, 0, x.o 0, on x 0] [keepBad (rNaN v) (x.o 0) v, 0] []) ∧
      (¬ (x.i 0 = 0 ↔ x.w 3 = 0) → x.i 3 ≠ 0 → ∃ r : Nat, Ran s t i [x.now, 0, x.o 0, on x 0] [r, 1] [])) ∧
  Runs .lag Instr.runLag (fun x => [x.now])
    (fun x => [if x.i 1 = 0 then (if x.d = 0 then x.o 0 else keepBad (rNaN (x.i 0)) (x.o 0) (x.r 0))
      else keepBad (rNaN (x.i 0)) (x.o 0) (rAdd (x.o 0) (rDiv (rMul (rSub (x.r 0) (x.o 0)) (rOfInt (x.d : Nat)))
        (rOfInt ((x.i 1 + x.d : Nat) : Int))))]) ∧
  Runs .rate Instr.runRate (fun x => [x.now, x.i 0])
    (fun x => [if x.d = 0 then x.o 0
      else keepBad (rNaN (x.i 0)) (x.o 0) (rDiv (rMul (rSub (x.r 0) (x.w 1)) (rOfInt 1000000)) (rOfInt (x.d : Nat)))]) ∧
  (∀ (s : State) (q : Fin 65536) (i : Inv) (ty : Nat), Ready s .integ q.val i ty →
    let x := s.chip.ctx i ty
    let mm := if rLt (x.r 4) (x.r 3) = true then 1 else 0
    let hi := if rLt (x.r 4) (x.r 3) = true then x.r 3 else x.r 4
    let v := if x.i 2 ≠ 0 then 0 else rAdd (x.o 0) (rDiv (rMul (rMul (x.r 1) (x.r 0)) (rOfInt (x.d : Nat))) (rOfInt 1000000))
    ∃ t, exec (.runInteg q) s = .next t ∧ (rNaN (x.i 0) = false → rNaN (x.i 1) = false → rNaN (x.i 3) = false →
      rNaN (x.i 4) = false → rNaN v = false →
      Ran s t i [x.now] [keepBad false (x.o 0) (rClamp (x.r 3) hi v), if rEq (rClamp (x.r 3) hi v) v = true then 0 else 1, mm] []) ∧
      (rNaN (x.i 3) = true ∨ rNaN (x.i 4) = true ∨ (x.i 2 = 0 ∧ (rNaN (x.i 0) = true ∨ rNaN (x.i 1) = true)) →
        Ran s t i [x.now] [x.o 0, x.o 1, mm] [])) ∧
  (∀ (s : State) (q : Fin 65536) (i : Inv) (ty : Nat), Ready s .ramp q.val i ty →
    let x := s.chip.ctx i ty
    let target := x.r 0
    let up := if rLt (x.r 1) 0 = true then 0 else x.r 1
    let down := if rLt (x.r 2) 0 = true then 0 else x.r 2
    let move := fun rate => rDiv (rMul rate (rOfInt (x.d : Nat))) (rOfInt 1000000)
    let mm := if rLt (x.r 1) 0 = true ∨ rLt (x.r 2) 0 = true then 1 else 0
    let gives := fun (t : State) (nan : Bool) (v : Nat) =>
      let q := keepBad (rNaN target || nan) (x.o 0) v
      Ran s t i [x.now] [q, if rEq q target = true then 0 else 1, mm] []
    ∃ t, exec (.runRamp q) s = .next t ∧
      (x.i 3 ≠ 0 → gives t false target) ∧
      (x.i 3 = 0 → rLt (x.o 0) target = true →
        gives t (rNaN (x.i 1)) (if rLe up 0 = true then x.o 0 else rMin target (rAdd (x.o 0) (move up)))) ∧
      (x.i 3 = 0 → rLt target (x.o 0) = true →
        gives t (rNaN (x.i 2)) (if rLe down 0 = true then x.o 0 else rMax target (rSub (x.o 0) (move down)))))

/-- Counters, edges and latches (Table 7.6, R161): counting at rising edges with saturation, the difference and total of a count, edge
detection against the previous input, the dominant side of a latch, and the stamp of an edge. -/
def Obligations.CountingBlocks : Prop :=
  let on := fun (x : Ctx) k => if x.i k = 0 then 0 else 1
  Runs .ctu Instr.runCtu (fun x => [on x 0])
    (fun x => let cv := if x.i 1 ≠ 0 then 0 else if x.rise 0 0 then min (signed 32 (x.o 1) + 1) (2 ^ 31 - 1) else signed 32 (x.o 1)
      [if signed 32 (x.i 2) ≤ cv then 1 else 0, satEnc 2 cv]) ∧
  Runs .ctd Instr.runCtd (fun x => [on x 0])
    (fun x => let cv := if x.i 1 ≠ 0 then signed 32 (x.i 2)
        else if x.rise 0 0 then max (signed 32 (x.o 1) - 1) (-2 ^ 31) else signed 32 (x.o 1)
      [if cv ≤ 0 then 1 else 0, satEnc 2 cv]) ∧
  Runs .ctud Instr.runCtud (fun x => [on x 0, on x 1])
    (fun x =>
      let lo := signed 32 (x.i 5)
      let v := if x.i 2 ≠ 0 then 0 else if x.i 3 ≠ 0 then signed 32 (x.i 4)
        else if x.rise 0 0 ∧ ¬ x.rise 1 1 then signed 32 (x.o 2) + 1
        else if x.rise 1 1 ∧ ¬ x.rise 0 0 then signed 32 (x.o 2) - 1 else signed 32 (x.o 2)
      let cv := min (max v lo) (max lo (signed 32 (x.i 6)))
      [if signed 32 (x.i 4) ≤ cv then 1 else 0, if cv ≤ lo then 1 else 0, satEnc 2 cv, if signed 32 (x.i 6) < lo then 1 else 0]) ∧
  Runs .cntd Instr.runCntd (fun x => [x.now, x.i 0, x.w 2])
    (fun x => let dv := tickDiff (x.i 0) (x.w 1)
      [dv, if x.i 1 ≠ 0 then 0 else (x.o 1 + dv) % 2 ^ 32,
        if x.d = 0 then x.o 2 else keepBad false (x.o 2) (rDiv (rMul (rOfInt (dv : Nat)) (rOfInt 1000000)) (rOfInt (x.d : Nat)))]) ∧
  Runs .rTrig Instr.runRTrig (fun x => [on x 0]) (fun x => [if x.rise 0 0 then 1 else 0]) ∧
  Runs .fTrig Instr.runFTrig (fun x => [on x 0]) (fun x => [if x.i 0 = 0 ∧ x.w 0 ≠ 0 then 1 else 0]) ∧
  Gives .sr Instr.runSr (fun x => [if x.i 0 ≠ 0 ∨ (x.o 0 ≠ 0 ∧ x.i 1 = 0) then 1 else 0]) ∧
  Gives .rs Instr.runRs (fun x => [if x.i 1 = 0 ∧ (x.i 0 ≠ 0 ∨ x.o 0 ≠ 0) then 1 else 0]) ∧
  Runs .estamp Instr.runEstamp (fun x => [on x 0])
    (fun x => if x.rise 0 0 then [1, x.now, x.cal] else [0, x.o 1, x.o 2]) ∧
  Runs .toggle Instr.runToggle (fun x => [on x 0])
    (fun x => [if x.rise 0 0 ↔ x.o 0 = 0 then 1 else 0])

/-- Blocks of axes, ports and loops (Tables 7.9 to 7.11, R190, R191, R199 to R202): what each asks of the output write and what it shows
of the latched state; a filter takes the frames of the ring that match and are no safety frames (R362), and writes them to its
object. -/
def Obligations.AxisLoopAndPortBlocks : Prop :=
  let on := fun (x : Ctx) k => if x.i k = 0 then 0 else 1
  let act := fun (c : Chip) (i : Inv) (x : Ctx) (new held : Prop) [Decidable new] [Decidable held] =>
    if new then [1, 0, 0, 0]
    else match c.actLatched (x.p 0) i.seq with
      | none => [0, 0, 0, 0]
      | some a => [b2n a.busy, if a.busy = false ∧ a.code = 0 ∧ held then 1 else 0,
          if a.busy = false ∧ a.code ≠ 0 ∧ held then 1 else 0, a.code]
  RunsWith .axmove Instr.runAxmove (fun _ => True) (fun _ _ x => [on x 0]) (fun c i x => act c i x (x.rise 0 0) (x.i 0 ≠ 0))
    (fun _ _ x => if x.rise 0 0 then [.move (x.p 0) (x.i 1) (x.i 2 != 0)] else []) ∧
  RunsWith .axhome Instr.runAxhome (fun _ => True) (fun _ _ x => [on x 0]) (fun c i x => act c i x (x.rise 0 0) (x.i 0 ≠ 0))
    (fun _ _ x => if x.rise 0 0 then [.home (x.p 0) (x.i 1)] else []) ∧
  RunsWith .axstop Instr.runAxstop (fun _ => True) (fun _ _ _ => [])
    (fun c i x => act c i x (x.i 0 ≠ 0 ∧ i.seq ∉ nth [] c.eng.stopsLatched (x.p 0)) (x.i 0 ≠ 0))
    (fun _ _ x => [.stop (x.p 0) (x.i 0 != 0) (x.i 1 != 0)]) ∧
  RunsWith .axgear Instr.runAxgear (fun _ => True) (fun _ _ x => [on x 0])
    (fun c i x =>
      let a := c.actLatched (x.p 0) i.seq
      [if (a.map (·.busy)) = some true then 1 else 0, c.atLatch.get (axisAt (x.p 0)) Axis.gstage,
        if x.i 0 ≠ 0 ∧ x.w 0 ≠ 0 ∧ (a.map (fun a => !a.busy && a.code != 0)) = some true then 1 else 0])
    (fun _ _ x => if x.i 0 = 0 ↔ x.w 0 = 0 then [] else [.gear (x.p 0) (x.i 0 != 0)]) ∧
  Shows .axstat Instr.runAxstat (fun c _ x =>
    let l := c.atLatch
    let b := axisAt (x.p 0)
    [l.get b Axis.pos, rOfInt (l.getS b Axis.vel), if l.get b Axis.ref_state = 2 then 1 else 0,
      if l.get b Axis.ref_state = 1 then 1 else 0, b2n (l.flag b Axis.still),
      if l.get b Axis.state = 8 ∨ (l.flag b Axis.stage_on = false ∧ ¬ (l.flag b Axis.still = true ∧ l.flag b Axis.idle_off = true))
        then 1 else 0, l.get b Axis.flags_now]) ∧
  RunsWith .loopsup Instr.runLoopsup (fun _ => True) (fun _ _ _ => [])
    (fun c _ x => [ofQ (c.atLatch.getS (loopAt (x.p 0)) Loop.pv), ofQ (c.atLatch.getS (loopAt (x.p 0)) Loop.out),
      if c.atLatch.get (loopAt (x.p 0)) Loop.state = 2 then 1 else 0, c.atLatch.get (loopAt (x.p 0)) Loop.missed,
      c.atLatch.nat (loopAt (x.p 0) + 0x0070)])
    (fun _ _ x => [.loopsup (x.p 0) (x.i 0 != 0) (x.i 1) (if x.i 3 = 0 then none else some (x.i 2))]) ∧
  (∀ (s : State) (q : Fin 65536) (i : Inv) (ty : Nat), Ready s .canfilt q.val i ty →
    let x := s.chip.ctx i ty
    let top := s.chip.atLatch.get (portAt (x.p 0)) Port.rx_count
    let behind := tickDiff top (x.w 0)
    let skip := behind - 2048
    let first := if 2048 < behind then (top + 2 ^ 32 - 2048) % 2 ^ 32 else x.w 0
    let n := if x.i 0 = 0 then 0 else min (tickDiff top first) (x.p 5)
    let hits := (((List.range n).map (fun k => s.chip.ringGet (x.p 0) ((first + k) % 2 ^ 32))).filter
      (fun e => !s.chip.safetyEntry (x.p 0) e)).filter (filterMatch (x.p 1) (x.p 2) (x.p 3))
    ∃ t u, exec (.runCanfilt q) s = .next t ∧
      Ran s u i [if x.i 0 = 0 then top else (first + n) % 2 ^ 32]
        [if hits = [] then 0 else 1, hits.length, (x.o 2 + skip) % 2 ^ 32] [] ∧
      t = { u with chip := if x.p 4 = 255 then u.chip else hits.foldl (fun c e => c.objTake (x.p 0) (x.p 4) e) u.chip }) ∧
  RunsWith .canobj Instr.runCanobj (fun _ => True)
    (fun c _ x => [c.atLatch.getI (portAt (x.p 0)) PWord.ob_count (x.p 1)])
    (fun c _ x =>
      let l := c.atLatch
      let b := portAt (x.p 0)
      [if l.getI b PWord.ob_count (x.p 1) = x.w 0 then 0 else 1, l.getI b PWord.ob_id (x.p 1), l.getI b PWord.ob_len (x.p 1),
        tickDiff x.now (l.getI b PWord.ob_tick (x.p 1))] ++ (List.range 16).map (fun k => l.nat (objAt (x.p 0) (x.p 1) + 16 + k)))
    (fun _ _ _ => []) ∧
  RunsWith .cansend Instr.runCansend (fun x => x.p 0 < 8 ∧ x.p 1 < 128)
    (fun _ _ x => [x.i 0])
    (fun c _ x =>
      let l := c.atLatch
      let b := portAt (x.p 0)
      let fd := (c.getI b PWord.ob_fflags (x.p 1)).testBit 1
      let n := if fd then (if 64 < x.i 1 then 64 else fdLen (x.i 1)) else min (x.i 1) 8
      [if l.getI b PWord.ob_pending (x.p 1) = 0 ∧ l.getI b PWord.ob_in_tx (x.p 1) = 0 then 0 else 1,
        l.getI b PWord.ob_count (x.p 1),
        if n ≠ x.i 1 ∨ l.getI b PWord.ob_single_fail (x.p 1) ≠ 0 ∨ 2 ≤ l.get b Port.state then 1 else 0])
    (fun c _ x =>
      let fd := (c.getI (portAt (x.p 0)) PWord.ob_fflags (x.p 1)).testBit 1
      let n := if fd then (if 64 < x.i 1 then 64 else fdLen (x.i 1)) else min (x.i 1) 8
      [.canSend (x.p 0) (x.p 1) n (bytesAt (((x.ins.drop 2).flatMap (leBytes 4)).take (min (x.i 1) n)) 0 n) (decide (x.rise 0 0))]) ∧
  Shows .portst Instr.runPortst (fun c _ x =>
    let l := c.atLatch
    let b := portAt (x.p 0)
    [l.get b Port.state, l.get b Port.tec, l.get b Port.rec, l.get b Port.noack_now, l.get b Port.coll_now]) ∧
  RunsWith .portrst Instr.runPortrst (fun _ => True) (fun _ _ x => [x.i 0])
    (fun c i x =>
      match c.eng.wrLatched.find? (fun o => o.seq == i.seq) with
      | none => [0, 0]
      | some o => if x.i 0 ≠ 0 ∧ x.w 0 ≠ 0 ∧ o.busy = false then (if o.ok then [1, 0] else [0, 1]) else [0, 0])
    (fun _ _ x => if x.rise 0 0 then [.portRestart (x.p 0)] else [])

/-- Blocks of the station link, the panel, the pair, parameters, events and counters (Tables 7.8 and 7.12 to 7.16, R190, R198, R204 to
R208): what each asks of the output write and what it shows of the latched state; EVRAISE records source 95 at a rising edge with
its code, its severity and its values. -/
def Obligations.ModuleBlocks : Prop :=
  let on := fun (x : Ctx) k => if x.i k = 0 then 0 else 1
  Shows .chgrp Instr.runChgrp (fun c i _ =>
    let r := (i.ins.head?.map (·.region)).getD 0
    (List.range 16).map (fun k => (deliver (c.img (16 * r + k)) tyReal).1) ++ (List.range 16).map (fun k => (c.img (16 * r + k)).st)) ∧
  RunsWith .pub Instr.runPub (fun _ => True) (fun _ _ _ => []) (fun c _ x => [c.atLatch.getI pubAt Pub.sent (x.p 0)])
    (fun _ _ x => [.publish (x.p 0) (64 * x.p 1) (x.ins.flatMap (leBytes 4))]) ∧
  Shows .sub_ Instr.runSubBlock (fun c _ x =>
    match c.eng.subsLatched.find? (fun h => h.partner == x.p 0 && h.pub == x.p 1) with
    | none => List.replicate 16 0 ++ [2, 2 ^ 32 - 1]
    | some h =>
      let age := c.eng.latchNow - h.rxAt
      let short := decide (h.data.length < 64 * x.p 2 + 64)
      let cls := ageClass age (x.p 3) (x.p 4)
      (List.range 16).map (fun k => if 64 * x.p 2 + 4 * k + 4 ≤ h.data.length then numAt h.data (64 * x.p 2 + 4 * k) 4 else 0) ++
        [(if short = false ∧ cls ≠ 2 then 1 else 0) + (if cls ≠ 1 then 2 else 0) + (if short then 128 else 0),
          min age (2 ^ 32 - 1)]) ∧
  (∀ (s : State) (q : Fin 65536) (i : Inv) (ty : Nat), Ready s .evraise q.val i ty →
    let x := s.chip.ctx i ty
    let payload := bytesAt (bytesAt ((x.ins.drop 1).flatMap (leBytes 4)) 0 16 ++ leBytes 4 i.seq) 0 32
    ∃ t u, exec (.runEvraise q) s = .next t ∧
      Ran s u i [on x 0] [(x.o 0 + if x.rise 0 0 then 1 else 0) % 2 ^ 32] [] ∧
      (x.rise 0 0 → t = { u with chip := u.chip.recordAs 95 i.region (x.p 1) (x.p 0) payload false }) ∧
      (¬ x.rise 0 0 → t = u)) ∧
  RunsWith .pfield Instr.runPfield (fun _ => True) (fun _ _ _ => []) (fun _ _ _ => [])
    (fun _ _ x => [.field (x.p 0) (x.p 1) (x.i 0) (min (max (signed 32 (x.i 1)) 0) 15).toNat (x.i 2 != 0)]) ∧
  RunsWith .pblink Instr.runPblink (fun _ => True) (fun _ _ _ => []) (fun c _ x => [if x.i 1 < c.minBlink then 1 else 0])
    (fun c _ x => [.blink (x.p 0) (x.i 0 != 0) (max (x.i 1) c.minBlink)]) ∧
  RunsWith .ppage Instr.runPpage (fun _ => True) (fun _ _ _ => [])
    (fun c _ x => [c.atLatch.get panelAt Panel.page_now, if ∃ p ∈ c.panel.pages, p.page = x.i 0 then 0 else 1])
    (fun c _ x => if ∃ p ∈ c.panel.pages, p.page = x.i 0 then [.page (x.i 0)] else []) ∧
  Shows .pstat Instr.runPstat (fun c _ _ =>
    let l := c.atLatch
    [l.get panelAt Panel.up, l.get panelAt Panel.dirty, l.get panelAt Panel.rails_ok]) ∧
  Shows .pairst Instr.runPairst (fun c _ _ =>
    let l := c.atLatch
    if l.get pairAt Pair.lease_state ∈ [0, 5, 6] then [0, 0, 0, 0, 0]
    else [if l.get pairAt Pair.partner_state = 4 then 1 else 0, l.get pairAt Pair.lane_a, l.get pairAt Pair.lane_b,
      l.get pairAt Pair.holder_pos, l.get pairAt Pair.compat]) ∧
  Shows .sfst Instr.runSfst (fun c _ x =>
    let r := nth (0, false) c.eng.sfLatched (x.p 0)
    [r.1, if r.1 = 4 then 1 else 0, b2n r.2, if r.1 = 3 then 1 else 0]) ∧
  RunsWith .parwr Instr.runParwr (fun _ => True) (fun _ _ x => [on x 0])
    (fun c i x =>
      if x.rise 0 0 then [1, 0, 0, 0]
      else match c.eng.wrLatched.find? (fun o => o.seq == i.seq) with
        | none => [0, 0, 0, 0]
        | some o => if o.busy then [1, 0, 0, o.code] else if o.ok then [0, 1, 0, o.code] else [0, 0, 1, o.code])
    (fun _ _ x => if x.rise 0 0 then [.change (x.p 0) (x.i 1)] else []) ∧
  Shows .parrd Instr.runParrd (fun c _ x =>
    if (c.atLatch.readWord (x.p 0)).1 = 0 then [(c.atLatch.readWord (x.p 0)).2, 1] else [0, 0]) ∧
  (∀ (s : State) (q : Fin 65536) (i : Inv) (ty : Nat), Ready s .perf q.val i ty →
    let x := s.chip.ctx i ty
    x.p 0 < 8 →
    let word := fun k => (s.chip.atLatch.readWord (ctrAt (x.p 0) + k)).2
    ∃ t, exec (.runPerf q) s = .next t ∧
      (x.p 1 < 8 → Ran s t i [word (0x14 + 8 * x.p 1)]
        [word (0x14 + 8 * x.p 1), (word (0x14 + 8 * x.p 1) + 2 ^ 32 - x.w 0) % 2 ^ 32, word 7 / 2 ^ x.p 1 % 2] []) ∧
      (x.p 1 = 8 ∨ x.p 1 = 9 → Ran s t i [word (x.p 1 - 8)] [word (x.p 1 - 8), (word (x.p 1 - 8) + 2 ^ 32 - x.w 0) % 2 ^ 32, 0] []))

/-- R196: SCALE computes f and q on the line from (i0, o0) to (i1, o1), says where f lies, clamps with clamp true, and under rule ZS
gives o0 with lo. A value R187 does not let it write is the one it had. -/
def Obligations.ScaleBlock : Prop :=
  ∀ (s : State) (q : Fin 65536) (i : Inv) (ty : Nat), Ready s .scale q.val i ty →
  let x := s.chip.ctx i ty
  let f := rDiv (rSub (x.r 0) (x.r 1)) (rSub (x.r 2) (x.r 1))
  let zs := rEq (x.r 2) (x.r 1) = true
  let lo := zs ∨ rLt f 0 = true
  let hi := ¬ zs ∧ rLt (rOfInt 1) f = true
  let v := if zs ∨ (x.i 5 ≠ 0 ∧ lo) then x.r 3 else if x.i 5 ≠ 0 ∧ hi then x.r 4 else rAdd (x.r 3) (rMul f (rSub (x.r 4) (x.r 3)))
  ∃ t, exec (.runScale q) s = .next t ∧ Ran s t i []
    [keepBad false (x.o 0) v, if lo then 1 else 0, if hi then 1 else 0, if zs then 1 else 0] []

/-- A step runs the command at the front of the queue, with the queue's rest; with no command waiting a tick passes, which is the
model's choice (log entry 13): the tick counter moves by one, and nothing non-volatile changes but where a slot-select record is being
written or a block returns to service. -/
def Obligations.StepRunsTheFront : Prop :=
  ∀ s : State,
    (∀ (c : Instr) (rest : List Instr), step { s with pending := c :: rest } = exec c { s with pending := rest }) ∧
    (s.pending = [] → ∃ t, step s = .next t ∧ t.pending = [] ∧ t.chip.now = s.chip.now + 1 ∧
      (s.chip.xfer.writing = none → s.chip.sys.returns = [] → t.flash = s.flash))

/-- Every command completes, whatever the state, and leaves the queue as it is: no operand and no state stops the machine. -/
def Obligations.EveryCommandCompletes : Prop :=
  ∀ (c : Instr) (s : State), ∃ t, exec c s = .next t ∧ t.pending = s.pending

/-- R8 and R13: in the space of an absent region a word reads as "absent" without data and a write has no effect; so does an address
of a reserved space or one that no chapter defines, which reads as "no such parameter". A region that is fenced answers before
its words do (R530), so it is left out of the second clause. -/
def Obligations.AbsentAndUndefinedAddresses : Prop :=
  ∀ (s : State) (session : Fin 16) (addr value : BitVec 32),
    (spaceOf addr.toNat < 8 → s.chip.fitted (spaceOf addr.toNat) = false →
      s.chip.readWord addr.toNat = (accAbsent, 0) ∧ exec (.parameterWrite session addr value) s = .next s) ∧
    (13 ≤ spaceOf addr.toNat ∨ s.chip.defined addr.toNat = false →
      (spaceOf addr.toNat < 8 → s.chip.fitted (spaceOf addr.toNat) = true ∧ s.chip.regionClosed (spaceOf addr.toNat) = false) →
      s.chip.readWord addr.toNat = (accNone, 0) ∧ exec (.parameterWrite session addr value) s = .next s)

/-- What no step undoes: the NOR stays in canonical form, its addresses rising and no erased byte listed, and the
one-time-programmable memory moves one way only: an empty key slot may be written once, an active one revoked with its key
kept, and a set fuse stays set (R135, R456). -/
def Obligations.NonVolatileInvariants : Prop :=
  ∀ s t : State, step s = .next t →
    (Memory.wf s.flash.nor = true → Memory.wf t.flash.nor = true) ∧ Flash.oneWay s.flash t.flash = true

/-- Every step keeps the sizes of the machine's fixed stores: its channels, loops, slices, axes, ports, counter blocks, regions,
sessions and the rest are never more or fewer (Table 0.1). -/
def Obligations.ShapeInvariant : Prop := ∀ s t : State, Shaped s → step s = .next t → Shaped t

/-- The machine after reset: no command waits, the NOR is in canonical form, the stores have their sizes; the module is in S0 with
no lease and no fault; every word holds the value of its field table (R122), so the port words of Table 13.7 read 0x3E7D_F800
and 0x99E0_3D00, cycle_min is all ones and wd_limit is 100,000. -/
def Obligations.ResetState : Prop :=
  State.reset.pending = [] ∧ Memory.wf State.reset.flash.nor = true ∧ Shaped State.reset ∧ State.reset.chip.phase = 0 ∧
  State.reset.chip.get statusAt Status.lease_state = 0 ∧ State.reset.chip.get statusAt Status.fault_cause = 0 ∧
  (∀ a, State.reset.chip.word a = resetWord a) ∧
  (∀ r : Fin 8, State.reset.chip.nat (portAt r + 3) = 0x3E7DF800 ∧ State.reset.chip.nat (portAt r + 4) = 0x99E03D00) ∧
  State.reset.chip.get engineAt Engine.cycle_min = 0xFFFFFFFF ∧ State.reset.chip.get engineAt Engine.wd_limit = 100000
end

