-- ==== Sys2Proof/Laws/Bits.lean ====
section
/-! SUPPORT. Bit fields: reading a field after writing it, and after writing one that shares no bit with it. -/

namespace Sys2Proof.Machine

/-- A number cut into three parts stays within its size. -/
theorem parts_lt {a v l b c d : Nat} (ha : a < d) (hv : v < b) (hl : l < c) : (a * b + v) * c + l < d * (b * c) := by
  have h1 : a * b + v + 1 ≤ d * b :=
    calc a * b + v + 1 ≤ a * b + b := by omega
      _ = (a + 1) * b := by ring
      _ ≤ d * b := Nat.mul_le_mul_right b ha
  calc (a * b + v) * c + l < (a * b + v) * c + c := by omega
    _ = (a * b + v + 1) * c := by ring
    _ ≤ d * b * c := Nat.mul_le_mul_right c h1
    _ = d * (b * c) := by ring

/-- A splice as one number: above, in and below the field. -/
theorem splice_toNat (w : Word) {hi lo : Nat} (v : Nat) (hl : lo ≤ hi) (hh : hi < 32) :
    (splice w hi lo v).toNat =
      (w.toNat / 2 ^ (hi + 1) * 2 ^ (hi + 1 - lo) + v % 2 ^ (hi + 1 - lo)) * 2 ^ lo + w.toNat % 2 ^ lo := by
  have e : (2 : Nat) ^ (hi + 1) = 2 ^ (hi + 1 - lo) * 2 ^ lo := by rw [← pow_add]; congr 1; omega
  have e32 : (2 : Nat) ^ 32 = 2 ^ (31 - hi) * (2 ^ (hi + 1 - lo) * 2 ^ lo) := by
    rw [← e, ← pow_add]; congr 1; omega
  have ha : w.toNat / 2 ^ (hi + 1) < 2 ^ (31 - hi) := by
    rw [Nat.div_lt_iff_lt_mul (by positivity), e, ← e32]; exact w.isLt
  have hv : v % 2 ^ (hi + 1 - lo) < 2 ^ (hi + 1 - lo) := Nat.mod_lt _ (by positivity)
  have hw : w.toNat % 2 ^ lo < 2 ^ lo := Nat.mod_lt _ (by positivity)
  have key := parts_lt ha hv hw
  rw [← e32] at key
  rw [splice, BitVec.toNat_ofNat]
  have ring1 : w.toNat / 2 ^ (hi + 1) * 2 ^ (hi + 1) + v % 2 ^ (hi + 1 - lo) * 2 ^ lo + w.toNat % 2 ^ lo =
      (w.toNat / 2 ^ (hi + 1) * 2 ^ (hi + 1 - lo) + v % 2 ^ (hi + 1 - lo)) * 2 ^ lo + w.toNat % 2 ^ lo := by
    conv_lhs => rw [show w.toNat / 2 ^ (hi + 1) * 2 ^ (hi + 1) =
      w.toNat / 2 ^ (hi + 1) * (2 ^ (hi + 1 - lo) * 2 ^ lo) by rw [← e]]
    ring
  rw [ring1, Nat.mod_eq_of_lt key]

/-- A field read after it is written. -/
theorem bitsOf_splice_same (w : Word) {hi lo : Nat} (v : Nat) (hl : lo ≤ hi) (hh : hi < 32) :
    bitsOf (splice w hi lo v) hi lo = v % 2 ^ (hi + 1 - lo) := by
  have hw : w.toNat % 2 ^ lo < 2 ^ lo := Nat.mod_lt _ (by positivity)
  rw [bitsOf, splice_toNat w v hl hh, Nat.shiftRight_eq_div_pow, Nat.mul_comm _ (2 ^ lo),
    Nat.mul_add_div (by positivity), Nat.div_eq_of_lt hw, Nat.add_zero, Nat.mul_comm _ (2 ^ (hi + 1 - lo)),
    Nat.mul_add_mod, Nat.mod_mod]

/-- A field below the one written. -/
theorem bitsOf_splice_below (w : Word) {hi lo hi' lo' : Nat} (v : Nat) (hl : lo ≤ hi) (hh : hi < 32) (hd : hi' < lo) :
    bitsOf (splice w hi lo v) hi' lo' = bitsOf w hi' lo' := by
  rw [bitsOf, bitsOf, splice_toNat w v hl hh]
  simp only [Nat.shiftRight_eq_div_pow]
  by_cases h' : hi' + 1 ≤ lo'
  · have : hi' + 1 - lo' = 0 := by omega
    simp [this, Nat.mod_one]
  · have e : ∀ x : Nat, x / 2 ^ lo' % 2 ^ (hi' + 1 - lo') = x % 2 ^ (hi' + 1) / 2 ^ lo' := by
      intro x
      have : (2 : Nat) ^ (hi' + 1) = 2 ^ lo' * 2 ^ (hi' + 1 - lo') := by rw [← pow_add]; congr 1; omega
      rw [this, Nat.mod_mul_right_div_self]
    rw [e, e]
    congr 1
    have : (2 : Nat) ^ lo = 2 ^ (hi' + 1) * 2 ^ (lo - (hi' + 1)) := by rw [← pow_add]; congr 1; omega
    rw [Nat.add_mod, this, ← Nat.mul_assoc, Nat.mul_comm _ (2 ^ (hi' + 1)), Nat.mul_assoc, Nat.mul_mod_right,
      Nat.zero_add, Nat.mod_mod, Nat.mod_mul_right_mod]

/-- A field above the one written. -/
theorem bitsOf_splice_above (w : Word) {hi lo hi' lo' : Nat} (v : Nat) (hl : lo ≤ hi) (hh : hi < 32) (hd : hi < lo') :
    bitsOf (splice w hi lo v) hi' lo' = bitsOf w hi' lo' := by
  rw [bitsOf, bitsOf, splice_toNat w v hl hh]
  simp only [Nat.shiftRight_eq_div_pow]
  have e : ∀ x : Nat, x / 2 ^ lo' = x / 2 ^ (hi + 1) / 2 ^ (lo' - (hi + 1)) := by
    intro x
    rw [Nat.div_div_eq_div_mul, ← pow_add]; congr 2; omega
  rw [e, e w.toNat]
  have e2 : (2 : Nat) ^ (hi + 1) = 2 ^ lo * 2 ^ (hi + 1 - lo) := by rw [← pow_add]; congr 1; omega
  have hw : w.toNat % 2 ^ lo < 2 ^ lo := Nat.mod_lt _ (by positivity)
  have hv : v % 2 ^ (hi + 1 - lo) < 2 ^ (hi + 1 - lo) := Nat.mod_lt _ (by positivity)
  congr 2
  generalize w.toNat / 2 ^ (hi + 1) = A
  rw [e2, ← Nat.div_div_eq_div_mul, Nat.mul_comm _ (2 ^ lo), Nat.mul_add_div (by positivity), Nat.div_eq_of_lt hw,
    Nat.add_zero, Nat.mul_comm A, Nat.mul_add_div (by positivity), Nat.div_eq_of_lt hv, Nat.add_zero]

/-- A field that shares no bit with the one written. -/
theorem bitsOf_splice_other (w : Word) {hi lo hi' lo' : Nat} (v : Nat) (hl : lo ≤ hi) (hh : hi < 32)
    (hd : hi' < lo ∨ hi < lo') : bitsOf (splice w hi lo v) hi' lo' = bitsOf w hi' lo' :=
  hd.elim (bitsOf_splice_below w v hl hh) (bitsOf_splice_above w v hl hh)

theorem bitsOf_lt (w : Word) (hi lo : Nat) : bitsOf w hi lo < 2 ^ (hi + 1 - lo) := Nat.mod_lt _ (by positivity)

/-- A whole word as its one field. -/
theorem bitsOf_ofNat_whole (v : Nat) : bitsOf (BitVec.ofNat 32 v) 31 0 = v % 2 ^ 32 := by
  simp [bitsOf]

@[simp] theorem nth_nil {α : Type} (d : α) (i : Nat) : nth d [] i = d := by simp [nth]

theorem upd_length {α : Type} (l : List α) (i : Nat) (f : α → α) : (upd l i f).length = l.length := by
  induction l generalizing i with
  | nil => rfl
  | cons a t ih => cases i <;> simp [upd, ih]

/-- Element `j` after an update of element `i`. -/
theorem nth_upd {α : Type} (d : α) (l : List α) (i j : Nat) (f : α → α) :
    nth d (upd l i f) j = if j = i ∧ i < l.length then f (nth d l i) else nth d l j := by
  induction l generalizing i j with
  | nil => simp [upd, nth]
  | cons a t ih =>
    cases i with
    | zero => cases j <;> simp [upd, nth]
    | succ i =>
      cases j with
      | zero => simp [upd, nth]
      | succ j =>
        have := ih i j
        simp only [nth, List.getD_cons_succ] at this ⊢
        simp only [upd, List.getD_cons_succ, List.length_cons, Nat.add_right_cancel_iff, Nat.add_lt_add_iff_right]
        exact this

theorem nth_upd_same {α : Type} (d : α) (l : List α) (i : Nat) (f : α → α) (h : i < l.length) :
    nth d (upd l i f) i = f (nth d l i) := by simp [nth_upd, h]

theorem nth_upd_other {α : Type} (d : α) (l : List α) {i j : Nat} (f : α → α) (h : j ≠ i) :
    nth d (upd l i f) j = nth d l j := by simp [nth_upd, h]

end Sys2Proof.Machine
end

