-- ==== Sys2Proof/Laws/Sparse.lean ====
section
/-! SUPPORT. Sparse stores: read after write, and the canonical form kept by every write. -/

namespace Sys2Proof.Machine

variable {α : Type} [DecidableEq α] (d : Nat → α)

/-- Read after write, of any list. -/
theorem Sparse.get_set (l : List (Nat × α)) (a b : Nat) (v : α) :
    Sparse.get d (Sparse.set d l a v) b = if b = a then v else Sparse.get d l b := by
  induction l with
  | nil =>
    simp only [Sparse.set]
    split
    · next h => by_cases hb : b = a <;> simp [Sparse.get, hb, h]
    · simp [Sparse.get]
  | cons e t ih =>
    obtain ⟨k, w⟩ := e
    simp only [Sparse.set]
    split
    · next h => rw [ih]; by_cases hb : b = a <;> simp [Sparse.get, hb, ← h]
    · next h =>
      split
      · simp [Sparse.get]
      · simp only [Sparse.get, ih]
        by_cases hk : b = k <;> by_cases hb : b = a
        · exact absurd (hb.symm.trans hk) h
        · simp [hk, Ne.symm h]
        · simp [hb, h]
        · simp [hk, hb]

theorem Sparse.get_set_same (l : List (Nat × α)) (a : Nat) (v : α) : Sparse.get d (Sparse.set d l a v) a = v := by
  simp [Sparse.get_set]

theorem Sparse.get_set_other (l : List (Nat × α)) {a b : Nat} (v : α) (h : b ≠ a) :
    Sparse.get d (Sparse.set d l a v) b = Sparse.get d l b := by
  simp [Sparse.get_set, h]

/-- A write to a list above `a` at an address above `a` stays above `a`. -/
theorem Sparse.above_set (l : List (Nat × α)) (a b : Nat) (v : α) (h : Sparse.above l b = true)
    (hw : Sparse.wf d l = true) (hb : b < a) : Sparse.above (Sparse.set d l a v) b = true := by
  induction l generalizing b with
  | nil => simp only [Sparse.set]; split <;> simp [Sparse.above, hb]
  | cons e t ih =>
    obtain ⟨k, w⟩ := e
    simp only [Sparse.wf, Bool.and_eq_true] at hw
    have hk : b < k := by simpa [Sparse.above] using h
    simp only [Sparse.set]
    split
    · next he =>
      refine ih b ?_ hw.2 hb
      cases t with
      | nil => rfl
      | cons e' t' =>
        have := hw.1.1
        simp only [Sparse.above, decide_eq_true_eq] at this ⊢
        omega
    · split <;> simp [Sparse.above, hb, hk]

/-- A write keeps the canonical form. -/
theorem Sparse.wf_set (l : List (Nat × α)) (a : Nat) (v : α) (h : Sparse.wf d l = true) :
    Sparse.wf d (Sparse.set d l a v) = true := by
  induction l with
  | nil => simp only [Sparse.set]; split <;> simp_all [Sparse.wf, Sparse.above]
  | cons e t ih =>
    obtain ⟨k, w⟩ := e
    simp only [Sparse.wf, Bool.and_eq_true] at h
    simp only [Sparse.set]
    split
    · exact ih h.2
    · next hne =>
      split
      · next hc =>
        simp only [Sparse.wf, Bool.and_eq_true]
        exact ⟨⟨by simpa [Sparse.above] using hc.1, by simpa using hc.2⟩, h⟩
      · next hc =>
        simp only [Sparse.wf, Bool.and_eq_true, ih h.2, h.1.2, and_true]
        by_cases hlt : k < a
        · exact Sparse.above_set d t a k v h.1.1 h.2 hlt
        · have hv : v = d a := by
            by_contra hv
            exact hc ⟨by omega, hv⟩
          -- nothing at or below `a` is in `t`: the write only erases, and nothing goes
          have key : ∀ (u : List (Nat × α)) (m : Nat), a ≤ m → Sparse.above u m = true → Sparse.wf d u = true →
              Sparse.above (Sparse.set d u a v) m = true := by
            intro u
            induction u with
            | nil => intro m _ _ _; simp [Sparse.set, hv, Sparse.above]
            | cons e' u' ihu =>
              intro m hm hab hwf
              obtain ⟨k', w'⟩ := e'
              have hk' : m < k' := by simpa [Sparse.above] using hab
              simp only [Sparse.set]
              rw [if_neg (by omega), if_neg (by simp [hv])]
              simpa [Sparse.above] using hk'
          exact key t k (by omega) h.1.1 h.2

theorem Sparse.wf_setRun (l : List (Nat × α)) (a : Nat) (vs : List α) (h : Sparse.wf d l = true) :
    Sparse.wf d (Sparse.setRun d l a vs) = true := by
  induction vs generalizing l a with
  | nil => exact h
  | cons v vs ih => exact ih _ _ (Sparse.wf_set d l a v h)

/-- Forgetting a range keeps the canonical form. -/
theorem Sparse.wf_filter (p : Nat × α → Bool) (l : List (Nat × α)) (h : Sparse.wf d l = true) :
    Sparse.wf d (l.filter p) = true ∧ ∀ m, Sparse.above l m = true → Sparse.above (l.filter p) m = true := by
  induction l with
  | nil => exact ⟨rfl, fun _ h => h⟩
  | cons e t ih =>
    obtain ⟨k, w⟩ := e
    simp only [Sparse.wf, Bool.and_eq_true] at h
    obtain ⟨ihw, iha⟩ := ih h.2
    simp only [List.filter_cons]
    split
    · refine ⟨?_, fun m hm => by simpa [Sparse.above] using hm⟩
      simp [Sparse.wf, ihw, h.1.2, iha k h.1.1]
    · refine ⟨ihw, fun m hm => iha m ?_⟩
      have hk : m < k := by simpa [Sparse.above] using hm
      have := h.1.1
      cases t with
      | nil => rfl
      | cons e' t' => simp only [Sparse.above, decide_eq_true_eq] at this ⊢; omega

theorem Sparse.wf_clear (l : List (Nat × α)) (lo hi : Nat) (h : Sparse.wf d l = true) :
    Sparse.wf d (Sparse.clear l lo hi) = true := (Sparse.wf_filter d _ l h).1

end Sys2Proof.Machine
end

