-- ==== Sys2Proof/Laws/State.lean ====
section
/-! SUPPORT. The small lemmas of the state: one for each field and each primitive update, true by rfl, and the read-after-write
laws of words and fields. -/

namespace Sys2Proof.Machine

/-! ### State -/

@[simp] theorem State.onChip_chip (s : State) (f : Chip → Chip) : (s.onChip f).chip = f s.chip := rfl
@[simp] theorem State.onChip_flash (s : State) (f : Chip → Chip) : (s.onChip f).flash = s.flash := rfl
@[simp] theorem State.onChip_pending (s : State) (f : Chip → Chip) : (s.onChip f).pending = s.pending := rfl

/-- A change of the volatile part alone completes, with that change. -/
theorem chipOnly_next (s : State) (f : Chip → Chip) : chipOnly s f = .next (s.onChip f) := rfl

/-! ### Words: a write touches no other field -/

@[simp] theorem Chip.setWord_now (c : Chip) (a : Nat) (v : Word) : (c.setWord a v).now = c.now := rfl
@[simp] theorem Chip.setWord_calFs (c : Chip) (a : Nat) (v : Word) : (c.setWord a v).calFs = c.calFs := rfl
@[simp] theorem Chip.setWord_freeCtr (c : Chip) (a : Nat) (v : Word) : (c.setWord a v).freeCtr = c.freeCtr := rfl
@[simp] theorem Chip.setWord_eng (c : Chip) (a : Nat) (v : Word) : (c.setWord a v).eng = c.eng := rfl
@[simp] theorem Chip.setWord_chans (c : Chip) (a : Nat) (v : Word) : (c.setWord a v).chans = c.chans := rfl
@[simp] theorem Chip.setWord_loops (c : Chip) (a : Nat) (v : Word) : (c.setWord a v).loops = c.loops := rfl
@[simp] theorem Chip.setWord_slices (c : Chip) (a : Nat) (v : Word) : (c.setWord a v).slices = c.slices := rfl
@[simp] theorem Chip.setWord_axes (c : Chip) (a : Nat) (v : Word) : (c.setWord a v).axes = c.axes := rfl
@[simp] theorem Chip.setWord_safe (c : Chip) (a : Nat) (v : Word) : (c.setWord a v).safe = c.safe := rfl
@[simp] theorem Chip.setWord_ports (c : Chip) (a : Nat) (v : Word) : (c.setWord a v).ports = c.ports := rfl
@[simp] theorem Chip.setWord_pair (c : Chip) (a : Nat) (v : Word) : (c.setWord a v).pair = c.pair := rfl
@[simp] theorem Chip.setWord_net (c : Chip) (a : Nat) (v : Word) : (c.setWord a v).net = c.net := rfl
@[simp] theorem Chip.setWord_panel (c : Chip) (a : Nat) (v : Word) : (c.setWord a v).panel = c.panel := rfl
@[simp] theorem Chip.setWord_ctrs (c : Chip) (a : Nat) (v : Word) : (c.setWord a v).ctrs = c.ctrs := rfl
@[simp] theorem Chip.setWord_s8At (c : Chip) (a : Nat) (v : Word) : (c.setWord a v).s8At = c.s8At := rfl
@[simp] theorem Chip.setWord_safeTx (c : Chip) (a : Nat) (v : Word) : (c.setWord a v).safeTx = c.safeTx := rfl
@[simp] theorem Chip.setWord_emitted (c : Chip) (a : Nat) (v : Word) : (c.setWord a v).emitted = c.emitted := rfl
@[simp] theorem Chip.setWord_crossed (c : Chip) (a : Nat) (v : Word) : (c.setWord a v).crossed = c.crossed := rfl
@[simp] theorem Chip.setWord_recd (c : Chip) (a : Nat) (v : Word) : (c.setWord a v).recd = c.recd := rfl
@[simp] theorem Chip.setWord_sys (c : Chip) (a : Nat) (v : Word) : (c.setWord a v).sys = c.sys := rfl
@[simp] theorem Chip.setWord_fab (c : Chip) (a : Nat) (v : Word) : (c.setWord a v).fab = c.fab := rfl
@[simp] theorem Chip.setWord_xfer (c : Chip) (a : Nat) (v : Word) : (c.setWord a v).xfer = c.xfer := rfl
@[simp] theorem Chip.setWord_aon (c : Chip) (a : Nat) (v : Word) : (c.setWord a v).aon = c.aon := rfl

@[simp] theorem Chip.setNat_now (c : Chip) (a v : Nat) : (c.setNat a v).now = c.now := rfl
@[simp] theorem Chip.setNat_calFs (c : Chip) (a v : Nat) : (c.setNat a v).calFs = c.calFs := rfl
@[simp] theorem Chip.setNat_freeCtr (c : Chip) (a v : Nat) : (c.setNat a v).freeCtr = c.freeCtr := rfl
@[simp] theorem Chip.setNat_eng (c : Chip) (a v : Nat) : (c.setNat a v).eng = c.eng := rfl
@[simp] theorem Chip.setNat_chans (c : Chip) (a v : Nat) : (c.setNat a v).chans = c.chans := rfl
@[simp] theorem Chip.setNat_loops (c : Chip) (a v : Nat) : (c.setNat a v).loops = c.loops := rfl
@[simp] theorem Chip.setNat_slices (c : Chip) (a v : Nat) : (c.setNat a v).slices = c.slices := rfl
@[simp] theorem Chip.setNat_axes (c : Chip) (a v : Nat) : (c.setNat a v).axes = c.axes := rfl
@[simp] theorem Chip.setNat_safe (c : Chip) (a v : Nat) : (c.setNat a v).safe = c.safe := rfl
@[simp] theorem Chip.setNat_ports (c : Chip) (a v : Nat) : (c.setNat a v).ports = c.ports := rfl
@[simp] theorem Chip.setNat_pair (c : Chip) (a v : Nat) : (c.setNat a v).pair = c.pair := rfl
@[simp] theorem Chip.setNat_net (c : Chip) (a v : Nat) : (c.setNat a v).net = c.net := rfl
@[simp] theorem Chip.setNat_panel (c : Chip) (a v : Nat) : (c.setNat a v).panel = c.panel := rfl
@[simp] theorem Chip.setNat_ctrs (c : Chip) (a v : Nat) : (c.setNat a v).ctrs = c.ctrs := rfl
@[simp] theorem Chip.setNat_s8At (c : Chip) (a v : Nat) : (c.setNat a v).s8At = c.s8At := rfl
@[simp] theorem Chip.setNat_safeTx (c : Chip) (a v : Nat) : (c.setNat a v).safeTx = c.safeTx := rfl
@[simp] theorem Chip.setNat_emitted (c : Chip) (a v : Nat) : (c.setNat a v).emitted = c.emitted := rfl
@[simp] theorem Chip.setNat_crossed (c : Chip) (a v : Nat) : (c.setNat a v).crossed = c.crossed := rfl
@[simp] theorem Chip.setNat_recd (c : Chip) (a v : Nat) : (c.setNat a v).recd = c.recd := rfl
@[simp] theorem Chip.setNat_sys (c : Chip) (a v : Nat) : (c.setNat a v).sys = c.sys := rfl
@[simp] theorem Chip.setNat_fab (c : Chip) (a v : Nat) : (c.setNat a v).fab = c.fab := rfl
@[simp] theorem Chip.setNat_xfer (c : Chip) (a v : Nat) : (c.setNat a v).xfer = c.xfer := rfl
@[simp] theorem Chip.setNat_aon (c : Chip) (a v : Nat) : (c.setNat a v).aon = c.aon := rfl

@[simp] theorem Chip.putI_now (c : Chip) (b : Nat) (f : Field) (i v : Nat) : (c.putI b f i v).now = c.now := rfl
@[simp] theorem Chip.putI_calFs (c : Chip) (b : Nat) (f : Field) (i v : Nat) : (c.putI b f i v).calFs = c.calFs := rfl
@[simp] theorem Chip.putI_freeCtr (c : Chip) (b : Nat) (f : Field) (i v : Nat) : (c.putI b f i v).freeCtr = c.freeCtr := rfl
@[simp] theorem Chip.putI_eng (c : Chip) (b : Nat) (f : Field) (i v : Nat) : (c.putI b f i v).eng = c.eng := rfl
@[simp] theorem Chip.putI_chans (c : Chip) (b : Nat) (f : Field) (i v : Nat) : (c.putI b f i v).chans = c.chans := rfl
@[simp] theorem Chip.putI_loops (c : Chip) (b : Nat) (f : Field) (i v : Nat) : (c.putI b f i v).loops = c.loops := rfl
@[simp] theorem Chip.putI_slices (c : Chip) (b : Nat) (f : Field) (i v : Nat) : (c.putI b f i v).slices = c.slices := rfl
@[simp] theorem Chip.putI_axes (c : Chip) (b : Nat) (f : Field) (i v : Nat) : (c.putI b f i v).axes = c.axes := rfl
@[simp] theorem Chip.putI_safe (c : Chip) (b : Nat) (f : Field) (i v : Nat) : (c.putI b f i v).safe = c.safe := rfl
@[simp] theorem Chip.putI_ports (c : Chip) (b : Nat) (f : Field) (i v : Nat) : (c.putI b f i v).ports = c.ports := rfl
@[simp] theorem Chip.putI_pair (c : Chip) (b : Nat) (f : Field) (i v : Nat) : (c.putI b f i v).pair = c.pair := rfl
@[simp] theorem Chip.putI_net (c : Chip) (b : Nat) (f : Field) (i v : Nat) : (c.putI b f i v).net = c.net := rfl
@[simp] theorem Chip.putI_panel (c : Chip) (b : Nat) (f : Field) (i v : Nat) : (c.putI b f i v).panel = c.panel := rfl
@[simp] theorem Chip.putI_ctrs (c : Chip) (b : Nat) (f : Field) (i v : Nat) : (c.putI b f i v).ctrs = c.ctrs := rfl
@[simp] theorem Chip.putI_s8At (c : Chip) (b : Nat) (f : Field) (i v : Nat) : (c.putI b f i v).s8At = c.s8At := rfl
@[simp] theorem Chip.putI_safeTx (c : Chip) (b : Nat) (f : Field) (i v : Nat) : (c.putI b f i v).safeTx = c.safeTx := rfl
@[simp] theorem Chip.putI_emitted (c : Chip) (b : Nat) (f : Field) (i v : Nat) : (c.putI b f i v).emitted = c.emitted := rfl
@[simp] theorem Chip.putI_crossed (c : Chip) (b : Nat) (f : Field) (i v : Nat) : (c.putI b f i v).crossed = c.crossed := rfl
@[simp] theorem Chip.putI_recd (c : Chip) (b : Nat) (f : Field) (i v : Nat) : (c.putI b f i v).recd = c.recd := rfl
@[simp] theorem Chip.putI_sys (c : Chip) (b : Nat) (f : Field) (i v : Nat) : (c.putI b f i v).sys = c.sys := rfl
@[simp] theorem Chip.putI_fab (c : Chip) (b : Nat) (f : Field) (i v : Nat) : (c.putI b f i v).fab = c.fab := rfl
@[simp] theorem Chip.putI_xfer (c : Chip) (b : Nat) (f : Field) (i v : Nat) : (c.putI b f i v).xfer = c.xfer := rfl
@[simp] theorem Chip.putI_aon (c : Chip) (b : Nat) (f : Field) (i v : Nat) : (c.putI b f i v).aon = c.aon := rfl

@[simp] theorem Chip.put_now (c : Chip) (b : Nat) (f : Field) (v : Nat) : (c.put b f v).now = c.now := rfl
@[simp] theorem Chip.put_calFs (c : Chip) (b : Nat) (f : Field) (v : Nat) : (c.put b f v).calFs = c.calFs := rfl
@[simp] theorem Chip.put_freeCtr (c : Chip) (b : Nat) (f : Field) (v : Nat) : (c.put b f v).freeCtr = c.freeCtr := rfl
@[simp] theorem Chip.put_eng (c : Chip) (b : Nat) (f : Field) (v : Nat) : (c.put b f v).eng = c.eng := rfl
@[simp] theorem Chip.put_chans (c : Chip) (b : Nat) (f : Field) (v : Nat) : (c.put b f v).chans = c.chans := rfl
@[simp] theorem Chip.put_loops (c : Chip) (b : Nat) (f : Field) (v : Nat) : (c.put b f v).loops = c.loops := rfl
@[simp] theorem Chip.put_slices (c : Chip) (b : Nat) (f : Field) (v : Nat) : (c.put b f v).slices = c.slices := rfl
@[simp] theorem Chip.put_axes (c : Chip) (b : Nat) (f : Field) (v : Nat) : (c.put b f v).axes = c.axes := rfl
@[simp] theorem Chip.put_safe (c : Chip) (b : Nat) (f : Field) (v : Nat) : (c.put b f v).safe = c.safe := rfl
@[simp] theorem Chip.put_ports (c : Chip) (b : Nat) (f : Field) (v : Nat) : (c.put b f v).ports = c.ports := rfl
@[simp] theorem Chip.put_pair (c : Chip) (b : Nat) (f : Field) (v : Nat) : (c.put b f v).pair = c.pair := rfl
@[simp] theorem Chip.put_net (c : Chip) (b : Nat) (f : Field) (v : Nat) : (c.put b f v).net = c.net := rfl
@[simp] theorem Chip.put_panel (c : Chip) (b : Nat) (f : Field) (v : Nat) : (c.put b f v).panel = c.panel := rfl
@[simp] theorem Chip.put_ctrs (c : Chip) (b : Nat) (f : Field) (v : Nat) : (c.put b f v).ctrs = c.ctrs := rfl
@[simp] theorem Chip.put_s8At (c : Chip) (b : Nat) (f : Field) (v : Nat) : (c.put b f v).s8At = c.s8At := rfl
@[simp] theorem Chip.put_safeTx (c : Chip) (b : Nat) (f : Field) (v : Nat) : (c.put b f v).safeTx = c.safeTx := rfl
@[simp] theorem Chip.put_emitted (c : Chip) (b : Nat) (f : Field) (v : Nat) : (c.put b f v).emitted = c.emitted := rfl
@[simp] theorem Chip.put_crossed (c : Chip) (b : Nat) (f : Field) (v : Nat) : (c.put b f v).crossed = c.crossed := rfl
@[simp] theorem Chip.put_recd (c : Chip) (b : Nat) (f : Field) (v : Nat) : (c.put b f v).recd = c.recd := rfl
@[simp] theorem Chip.put_sys (c : Chip) (b : Nat) (f : Field) (v : Nat) : (c.put b f v).sys = c.sys := rfl
@[simp] theorem Chip.put_fab (c : Chip) (b : Nat) (f : Field) (v : Nat) : (c.put b f v).fab = c.fab := rfl
@[simp] theorem Chip.put_xfer (c : Chip) (b : Nat) (f : Field) (v : Nat) : (c.put b f v).xfer = c.xfer := rfl
@[simp] theorem Chip.put_aon (c : Chip) (b : Nat) (f : Field) (v : Nat) : (c.put b f v).aon = c.aon := rfl

@[simp] theorem Chip.bump_now (c : Chip) (b : Nat) (f : Field) : (c.bump b f).now = c.now := rfl
@[simp] theorem Chip.bump_calFs (c : Chip) (b : Nat) (f : Field) : (c.bump b f).calFs = c.calFs := rfl
@[simp] theorem Chip.bump_freeCtr (c : Chip) (b : Nat) (f : Field) : (c.bump b f).freeCtr = c.freeCtr := rfl
@[simp] theorem Chip.bump_eng (c : Chip) (b : Nat) (f : Field) : (c.bump b f).eng = c.eng := rfl
@[simp] theorem Chip.bump_chans (c : Chip) (b : Nat) (f : Field) : (c.bump b f).chans = c.chans := rfl
@[simp] theorem Chip.bump_loops (c : Chip) (b : Nat) (f : Field) : (c.bump b f).loops = c.loops := rfl
@[simp] theorem Chip.bump_slices (c : Chip) (b : Nat) (f : Field) : (c.bump b f).slices = c.slices := rfl
@[simp] theorem Chip.bump_axes (c : Chip) (b : Nat) (f : Field) : (c.bump b f).axes = c.axes := rfl
@[simp] theorem Chip.bump_safe (c : Chip) (b : Nat) (f : Field) : (c.bump b f).safe = c.safe := rfl
@[simp] theorem Chip.bump_ports (c : Chip) (b : Nat) (f : Field) : (c.bump b f).ports = c.ports := rfl
@[simp] theorem Chip.bump_pair (c : Chip) (b : Nat) (f : Field) : (c.bump b f).pair = c.pair := rfl
@[simp] theorem Chip.bump_net (c : Chip) (b : Nat) (f : Field) : (c.bump b f).net = c.net := rfl
@[simp] theorem Chip.bump_panel (c : Chip) (b : Nat) (f : Field) : (c.bump b f).panel = c.panel := rfl
@[simp] theorem Chip.bump_ctrs (c : Chip) (b : Nat) (f : Field) : (c.bump b f).ctrs = c.ctrs := rfl
@[simp] theorem Chip.bump_s8At (c : Chip) (b : Nat) (f : Field) : (c.bump b f).s8At = c.s8At := rfl
@[simp] theorem Chip.bump_safeTx (c : Chip) (b : Nat) (f : Field) : (c.bump b f).safeTx = c.safeTx := rfl
@[simp] theorem Chip.bump_emitted (c : Chip) (b : Nat) (f : Field) : (c.bump b f).emitted = c.emitted := rfl
@[simp] theorem Chip.bump_crossed (c : Chip) (b : Nat) (f : Field) : (c.bump b f).crossed = c.crossed := rfl
@[simp] theorem Chip.bump_recd (c : Chip) (b : Nat) (f : Field) : (c.bump b f).recd = c.recd := rfl
@[simp] theorem Chip.bump_sys (c : Chip) (b : Nat) (f : Field) : (c.bump b f).sys = c.sys := rfl
@[simp] theorem Chip.bump_fab (c : Chip) (b : Nat) (f : Field) : (c.bump b f).fab = c.fab := rfl
@[simp] theorem Chip.bump_xfer (c : Chip) (b : Nat) (f : Field) : (c.bump b f).xfer = c.xfer := rfl
@[simp] theorem Chip.bump_aon (c : Chip) (b : Nat) (f : Field) : (c.bump b f).aon = c.aon := rfl

/-! ### Other updates: a word and the fields beside are as before -/

@[simp] theorem Chip.fresh_word (c : Chip)  (w : Nat) : (c.fresh).word w = c.word w := rfl
@[simp] theorem Chip.fresh_regs (c : Chip)  : (c.fresh).regs = c.regs := rfl
@[simp] theorem Chip.fresh_now (c : Chip)  : (c.fresh).now = c.now := rfl
@[simp] theorem Chip.fresh_calFs (c : Chip)  : (c.fresh).calFs = c.calFs := rfl
@[simp] theorem Chip.fresh_eng (c : Chip)  : (c.fresh).eng = c.eng := rfl
@[simp] theorem Chip.fresh_chans (c : Chip)  : (c.fresh).chans = c.chans := rfl
@[simp] theorem Chip.fresh_loops (c : Chip)  : (c.fresh).loops = c.loops := rfl
@[simp] theorem Chip.fresh_slices (c : Chip)  : (c.fresh).slices = c.slices := rfl
@[simp] theorem Chip.fresh_axes (c : Chip)  : (c.fresh).axes = c.axes := rfl
@[simp] theorem Chip.fresh_safe (c : Chip)  : (c.fresh).safe = c.safe := rfl
@[simp] theorem Chip.fresh_ports (c : Chip)  : (c.fresh).ports = c.ports := rfl
@[simp] theorem Chip.fresh_pair (c : Chip)  : (c.fresh).pair = c.pair := rfl
@[simp] theorem Chip.fresh_net (c : Chip)  : (c.fresh).net = c.net := rfl
@[simp] theorem Chip.fresh_panel (c : Chip)  : (c.fresh).panel = c.panel := rfl
@[simp] theorem Chip.fresh_ctrs (c : Chip)  : (c.fresh).ctrs = c.ctrs := rfl
@[simp] theorem Chip.fresh_s8At (c : Chip)  : (c.fresh).s8At = c.s8At := rfl
@[simp] theorem Chip.fresh_safeTx (c : Chip)  : (c.fresh).safeTx = c.safeTx := rfl
@[simp] theorem Chip.fresh_emitted (c : Chip)  : (c.fresh).emitted = c.emitted := rfl
@[simp] theorem Chip.fresh_crossed (c : Chip)  : (c.fresh).crossed = c.crossed := rfl
@[simp] theorem Chip.fresh_recd (c : Chip)  : (c.fresh).recd = c.recd := rfl
@[simp] theorem Chip.fresh_sys (c : Chip)  : (c.fresh).sys = c.sys := rfl
@[simp] theorem Chip.fresh_fab (c : Chip)  : (c.fresh).fab = c.fab := rfl
@[simp] theorem Chip.fresh_xfer (c : Chip)  : (c.fresh).xfer = c.xfer := rfl
@[simp] theorem Chip.fresh_aon (c : Chip)  : (c.fresh).aon = c.aon := rfl

@[simp] theorem Chip.setChan_word (c : Chip) (g : Nat) (f : ChanSt → ChanSt) (w : Nat) : (c.setChan g f).word w = c.word w := rfl
@[simp] theorem Chip.setChan_regs (c : Chip) (g : Nat) (f : ChanSt → ChanSt) : (c.setChan g f).regs = c.regs := rfl
@[simp] theorem Chip.setChan_now (c : Chip) (g : Nat) (f : ChanSt → ChanSt) : (c.setChan g f).now = c.now := rfl
@[simp] theorem Chip.setChan_calFs (c : Chip) (g : Nat) (f : ChanSt → ChanSt) : (c.setChan g f).calFs = c.calFs := rfl
@[simp] theorem Chip.setChan_freeCtr (c : Chip) (g : Nat) (f : ChanSt → ChanSt) : (c.setChan g f).freeCtr = c.freeCtr := rfl
@[simp] theorem Chip.setChan_eng (c : Chip) (g : Nat) (f : ChanSt → ChanSt) : (c.setChan g f).eng = c.eng := rfl
@[simp] theorem Chip.setChan_loops (c : Chip) (g : Nat) (f : ChanSt → ChanSt) : (c.setChan g f).loops = c.loops := rfl
@[simp] theorem Chip.setChan_slices (c : Chip) (g : Nat) (f : ChanSt → ChanSt) : (c.setChan g f).slices = c.slices := rfl
@[simp] theorem Chip.setChan_axes (c : Chip) (g : Nat) (f : ChanSt → ChanSt) : (c.setChan g f).axes = c.axes := rfl
@[simp] theorem Chip.setChan_safe (c : Chip) (g : Nat) (f : ChanSt → ChanSt) : (c.setChan g f).safe = c.safe := rfl
@[simp] theorem Chip.setChan_ports (c : Chip) (g : Nat) (f : ChanSt → ChanSt) : (c.setChan g f).ports = c.ports := rfl
@[simp] theorem Chip.setChan_pair (c : Chip) (g : Nat) (f : ChanSt → ChanSt) : (c.setChan g f).pair = c.pair := rfl
@[simp] theorem Chip.setChan_net (c : Chip) (g : Nat) (f : ChanSt → ChanSt) : (c.setChan g f).net = c.net := rfl
@[simp] theorem Chip.setChan_panel (c : Chip) (g : Nat) (f : ChanSt → ChanSt) : (c.setChan g f).panel = c.panel := rfl
@[simp] theorem Chip.setChan_ctrs (c : Chip) (g : Nat) (f : ChanSt → ChanSt) : (c.setChan g f).ctrs = c.ctrs := rfl
@[simp] theorem Chip.setChan_s8At (c : Chip) (g : Nat) (f : ChanSt → ChanSt) : (c.setChan g f).s8At = c.s8At := rfl
@[simp] theorem Chip.setChan_safeTx (c : Chip) (g : Nat) (f : ChanSt → ChanSt) : (c.setChan g f).safeTx = c.safeTx := rfl
@[simp] theorem Chip.setChan_emitted (c : Chip) (g : Nat) (f : ChanSt → ChanSt) : (c.setChan g f).emitted = c.emitted := rfl
@[simp] theorem Chip.setChan_crossed (c : Chip) (g : Nat) (f : ChanSt → ChanSt) : (c.setChan g f).crossed = c.crossed := rfl
@[simp] theorem Chip.setChan_recd (c : Chip) (g : Nat) (f : ChanSt → ChanSt) : (c.setChan g f).recd = c.recd := rfl
@[simp] theorem Chip.setChan_sys (c : Chip) (g : Nat) (f : ChanSt → ChanSt) : (c.setChan g f).sys = c.sys := rfl
@[simp] theorem Chip.setChan_fab (c : Chip) (g : Nat) (f : ChanSt → ChanSt) : (c.setChan g f).fab = c.fab := rfl
@[simp] theorem Chip.setChan_xfer (c : Chip) (g : Nat) (f : ChanSt → ChanSt) : (c.setChan g f).xfer = c.xfer := rfl
@[simp] theorem Chip.setChan_aon (c : Chip) (g : Nat) (f : ChanSt → ChanSt) : (c.setChan g f).aon = c.aon := rfl

@[simp] theorem Chip.setAx_word (c : Chip) (x : Nat) (f : AxSt → AxSt) (w : Nat) : (c.setAx x f).word w = c.word w := rfl
@[simp] theorem Chip.setAx_regs (c : Chip) (x : Nat) (f : AxSt → AxSt) : (c.setAx x f).regs = c.regs := rfl
@[simp] theorem Chip.setAx_now (c : Chip) (x : Nat) (f : AxSt → AxSt) : (c.setAx x f).now = c.now := rfl
@[simp] theorem Chip.setAx_calFs (c : Chip) (x : Nat) (f : AxSt → AxSt) : (c.setAx x f).calFs = c.calFs := rfl
@[simp] theorem Chip.setAx_freeCtr (c : Chip) (x : Nat) (f : AxSt → AxSt) : (c.setAx x f).freeCtr = c.freeCtr := rfl
@[simp] theorem Chip.setAx_eng (c : Chip) (x : Nat) (f : AxSt → AxSt) : (c.setAx x f).eng = c.eng := rfl
@[simp] theorem Chip.setAx_chans (c : Chip) (x : Nat) (f : AxSt → AxSt) : (c.setAx x f).chans = c.chans := rfl
@[simp] theorem Chip.setAx_loops (c : Chip) (x : Nat) (f : AxSt → AxSt) : (c.setAx x f).loops = c.loops := rfl
@[simp] theorem Chip.setAx_slices (c : Chip) (x : Nat) (f : AxSt → AxSt) : (c.setAx x f).slices = c.slices := rfl
@[simp] theorem Chip.setAx_safe (c : Chip) (x : Nat) (f : AxSt → AxSt) : (c.setAx x f).safe = c.safe := rfl
@[simp] theorem Chip.setAx_ports (c : Chip) (x : Nat) (f : AxSt → AxSt) : (c.setAx x f).ports = c.ports := rfl
@[simp] theorem Chip.setAx_pair (c : Chip) (x : Nat) (f : AxSt → AxSt) : (c.setAx x f).pair = c.pair := rfl
@[simp] theorem Chip.setAx_net (c : Chip) (x : Nat) (f : AxSt → AxSt) : (c.setAx x f).net = c.net := rfl
@[simp] theorem Chip.setAx_panel (c : Chip) (x : Nat) (f : AxSt → AxSt) : (c.setAx x f).panel = c.panel := rfl
@[simp] theorem Chip.setAx_ctrs (c : Chip) (x : Nat) (f : AxSt → AxSt) : (c.setAx x f).ctrs = c.ctrs := rfl
@[simp] theorem Chip.setAx_s8At (c : Chip) (x : Nat) (f : AxSt → AxSt) : (c.setAx x f).s8At = c.s8At := rfl
@[simp] theorem Chip.setAx_safeTx (c : Chip) (x : Nat) (f : AxSt → AxSt) : (c.setAx x f).safeTx = c.safeTx := rfl
@[simp] theorem Chip.setAx_emitted (c : Chip) (x : Nat) (f : AxSt → AxSt) : (c.setAx x f).emitted = c.emitted := rfl
@[simp] theorem Chip.setAx_crossed (c : Chip) (x : Nat) (f : AxSt → AxSt) : (c.setAx x f).crossed = c.crossed := rfl
@[simp] theorem Chip.setAx_recd (c : Chip) (x : Nat) (f : AxSt → AxSt) : (c.setAx x f).recd = c.recd := rfl
@[simp] theorem Chip.setAx_sys (c : Chip) (x : Nat) (f : AxSt → AxSt) : (c.setAx x f).sys = c.sys := rfl
@[simp] theorem Chip.setAx_fab (c : Chip) (x : Nat) (f : AxSt → AxSt) : (c.setAx x f).fab = c.fab := rfl
@[simp] theorem Chip.setAx_xfer (c : Chip) (x : Nat) (f : AxSt → AxSt) : (c.setAx x f).xfer = c.xfer := rfl
@[simp] theorem Chip.setAx_aon (c : Chip) (x : Nat) (f : AxSt → AxSt) : (c.setAx x f).aon = c.aon := rfl

@[simp] theorem Chip.setSys_word (c : Chip) (f : SysSt → SysSt) (w : Nat) : (c.setSys f).word w = c.word w := rfl
@[simp] theorem Chip.setSys_regs (c : Chip) (f : SysSt → SysSt) : (c.setSys f).regs = c.regs := rfl
@[simp] theorem Chip.setSys_now (c : Chip) (f : SysSt → SysSt) : (c.setSys f).now = c.now := rfl
@[simp] theorem Chip.setSys_calFs (c : Chip) (f : SysSt → SysSt) : (c.setSys f).calFs = c.calFs := rfl
@[simp] theorem Chip.setSys_freeCtr (c : Chip) (f : SysSt → SysSt) : (c.setSys f).freeCtr = c.freeCtr := rfl
@[simp] theorem Chip.setSys_eng (c : Chip) (f : SysSt → SysSt) : (c.setSys f).eng = c.eng := rfl
@[simp] theorem Chip.setSys_chans (c : Chip) (f : SysSt → SysSt) : (c.setSys f).chans = c.chans := rfl
@[simp] theorem Chip.setSys_loops (c : Chip) (f : SysSt → SysSt) : (c.setSys f).loops = c.loops := rfl
@[simp] theorem Chip.setSys_slices (c : Chip) (f : SysSt → SysSt) : (c.setSys f).slices = c.slices := rfl
@[simp] theorem Chip.setSys_axes (c : Chip) (f : SysSt → SysSt) : (c.setSys f).axes = c.axes := rfl
@[simp] theorem Chip.setSys_safe (c : Chip) (f : SysSt → SysSt) : (c.setSys f).safe = c.safe := rfl
@[simp] theorem Chip.setSys_ports (c : Chip) (f : SysSt → SysSt) : (c.setSys f).ports = c.ports := rfl
@[simp] theorem Chip.setSys_pair (c : Chip) (f : SysSt → SysSt) : (c.setSys f).pair = c.pair := rfl
@[simp] theorem Chip.setSys_net (c : Chip) (f : SysSt → SysSt) : (c.setSys f).net = c.net := rfl
@[simp] theorem Chip.setSys_panel (c : Chip) (f : SysSt → SysSt) : (c.setSys f).panel = c.panel := rfl
@[simp] theorem Chip.setSys_ctrs (c : Chip) (f : SysSt → SysSt) : (c.setSys f).ctrs = c.ctrs := rfl
@[simp] theorem Chip.setSys_s8At (c : Chip) (f : SysSt → SysSt) : (c.setSys f).s8At = c.s8At := rfl
@[simp] theorem Chip.setSys_safeTx (c : Chip) (f : SysSt → SysSt) : (c.setSys f).safeTx = c.safeTx := rfl
@[simp] theorem Chip.setSys_emitted (c : Chip) (f : SysSt → SysSt) : (c.setSys f).emitted = c.emitted := rfl
@[simp] theorem Chip.setSys_crossed (c : Chip) (f : SysSt → SysSt) : (c.setSys f).crossed = c.crossed := rfl
@[simp] theorem Chip.setSys_recd (c : Chip) (f : SysSt → SysSt) : (c.setSys f).recd = c.recd := rfl
@[simp] theorem Chip.setSys_fab (c : Chip) (f : SysSt → SysSt) : (c.setSys f).fab = c.fab := rfl
@[simp] theorem Chip.setSys_xfer (c : Chip) (f : SysSt → SysSt) : (c.setSys f).xfer = c.xfer := rfl
@[simp] theorem Chip.setSys_aon (c : Chip) (f : SysSt → SysSt) : (c.setSys f).aon = c.aon := rfl

@[simp] theorem Chip.setXfer_word (c : Chip) (f : XferSt → XferSt) (w : Nat) : (c.setXfer f).word w = c.word w := rfl
@[simp] theorem Chip.setXfer_regs (c : Chip) (f : XferSt → XferSt) : (c.setXfer f).regs = c.regs := rfl
@[simp] theorem Chip.setXfer_now (c : Chip) (f : XferSt → XferSt) : (c.setXfer f).now = c.now := rfl
@[simp] theorem Chip.setXfer_calFs (c : Chip) (f : XferSt → XferSt) : (c.setXfer f).calFs = c.calFs := rfl
@[simp] theorem Chip.setXfer_freeCtr (c : Chip) (f : XferSt → XferSt) : (c.setXfer f).freeCtr = c.freeCtr := rfl
@[simp] theorem Chip.setXfer_eng (c : Chip) (f : XferSt → XferSt) : (c.setXfer f).eng = c.eng := rfl
@[simp] theorem Chip.setXfer_chans (c : Chip) (f : XferSt → XferSt) : (c.setXfer f).chans = c.chans := rfl
@[simp] theorem Chip.setXfer_loops (c : Chip) (f : XferSt → XferSt) : (c.setXfer f).loops = c.loops := rfl
@[simp] theorem Chip.setXfer_slices (c : Chip) (f : XferSt → XferSt) : (c.setXfer f).slices = c.slices := rfl
@[simp] theorem Chip.setXfer_axes (c : Chip) (f : XferSt → XferSt) : (c.setXfer f).axes = c.axes := rfl
@[simp] theorem Chip.setXfer_safe (c : Chip) (f : XferSt → XferSt) : (c.setXfer f).safe = c.safe := rfl
@[simp] theorem Chip.setXfer_ports (c : Chip) (f : XferSt → XferSt) : (c.setXfer f).ports = c.ports := rfl
@[simp] theorem Chip.setXfer_pair (c : Chip) (f : XferSt → XferSt) : (c.setXfer f).pair = c.pair := rfl
@[simp] theorem Chip.setXfer_net (c : Chip) (f : XferSt → XferSt) : (c.setXfer f).net = c.net := rfl
@[simp] theorem Chip.setXfer_panel (c : Chip) (f : XferSt → XferSt) : (c.setXfer f).panel = c.panel := rfl
@[simp] theorem Chip.setXfer_ctrs (c : Chip) (f : XferSt → XferSt) : (c.setXfer f).ctrs = c.ctrs := rfl
@[simp] theorem Chip.setXfer_s8At (c : Chip) (f : XferSt → XferSt) : (c.setXfer f).s8At = c.s8At := rfl
@[simp] theorem Chip.setXfer_safeTx (c : Chip) (f : XferSt → XferSt) : (c.setXfer f).safeTx = c.safeTx := rfl
@[simp] theorem Chip.setXfer_emitted (c : Chip) (f : XferSt → XferSt) : (c.setXfer f).emitted = c.emitted := rfl
@[simp] theorem Chip.setXfer_crossed (c : Chip) (f : XferSt → XferSt) : (c.setXfer f).crossed = c.crossed := rfl
@[simp] theorem Chip.setXfer_recd (c : Chip) (f : XferSt → XferSt) : (c.setXfer f).recd = c.recd := rfl
@[simp] theorem Chip.setXfer_sys (c : Chip) (f : XferSt → XferSt) : (c.setXfer f).sys = c.sys := rfl
@[simp] theorem Chip.setXfer_fab (c : Chip) (f : XferSt → XferSt) : (c.setXfer f).fab = c.fab := rfl
@[simp] theorem Chip.setXfer_aon (c : Chip) (f : XferSt → XferSt) : (c.setXfer f).aon = c.aon := rfl

@[simp] theorem Chip.setFab_word (c : Chip) (r : Nat) (f : FabSt → FabSt) (w : Nat) : (c.setFab r f).word w = c.word w := rfl
@[simp] theorem Chip.setFab_regs (c : Chip) (r : Nat) (f : FabSt → FabSt) : (c.setFab r f).regs = c.regs := rfl
@[simp] theorem Chip.setFab_now (c : Chip) (r : Nat) (f : FabSt → FabSt) : (c.setFab r f).now = c.now := rfl
@[simp] theorem Chip.setFab_calFs (c : Chip) (r : Nat) (f : FabSt → FabSt) : (c.setFab r f).calFs = c.calFs := rfl
@[simp] theorem Chip.setFab_freeCtr (c : Chip) (r : Nat) (f : FabSt → FabSt) : (c.setFab r f).freeCtr = c.freeCtr := rfl
@[simp] theorem Chip.setFab_eng (c : Chip) (r : Nat) (f : FabSt → FabSt) : (c.setFab r f).eng = c.eng := rfl
@[simp] theorem Chip.setFab_chans (c : Chip) (r : Nat) (f : FabSt → FabSt) : (c.setFab r f).chans = c.chans := rfl
@[simp] theorem Chip.setFab_loops (c : Chip) (r : Nat) (f : FabSt → FabSt) : (c.setFab r f).loops = c.loops := rfl
@[simp] theorem Chip.setFab_slices (c : Chip) (r : Nat) (f : FabSt → FabSt) : (c.setFab r f).slices = c.slices := rfl
@[simp] theorem Chip.setFab_axes (c : Chip) (r : Nat) (f : FabSt → FabSt) : (c.setFab r f).axes = c.axes := rfl
@[simp] theorem Chip.setFab_safe (c : Chip) (r : Nat) (f : FabSt → FabSt) : (c.setFab r f).safe = c.safe := rfl
@[simp] theorem Chip.setFab_ports (c : Chip) (r : Nat) (f : FabSt → FabSt) : (c.setFab r f).ports = c.ports := rfl
@[simp] theorem Chip.setFab_pair (c : Chip) (r : Nat) (f : FabSt → FabSt) : (c.setFab r f).pair = c.pair := rfl
@[simp] theorem Chip.setFab_net (c : Chip) (r : Nat) (f : FabSt → FabSt) : (c.setFab r f).net = c.net := rfl
@[simp] theorem Chip.setFab_panel (c : Chip) (r : Nat) (f : FabSt → FabSt) : (c.setFab r f).panel = c.panel := rfl
@[simp] theorem Chip.setFab_ctrs (c : Chip) (r : Nat) (f : FabSt → FabSt) : (c.setFab r f).ctrs = c.ctrs := rfl
@[simp] theorem Chip.setFab_s8At (c : Chip) (r : Nat) (f : FabSt → FabSt) : (c.setFab r f).s8At = c.s8At := rfl
@[simp] theorem Chip.setFab_safeTx (c : Chip) (r : Nat) (f : FabSt → FabSt) : (c.setFab r f).safeTx = c.safeTx := rfl
@[simp] theorem Chip.setFab_emitted (c : Chip) (r : Nat) (f : FabSt → FabSt) : (c.setFab r f).emitted = c.emitted := rfl
@[simp] theorem Chip.setFab_crossed (c : Chip) (r : Nat) (f : FabSt → FabSt) : (c.setFab r f).crossed = c.crossed := rfl
@[simp] theorem Chip.setFab_recd (c : Chip) (r : Nat) (f : FabSt → FabSt) : (c.setFab r f).recd = c.recd := rfl
@[simp] theorem Chip.setFab_sys (c : Chip) (r : Nat) (f : FabSt → FabSt) : (c.setFab r f).sys = c.sys := rfl
@[simp] theorem Chip.setFab_xfer (c : Chip) (r : Nat) (f : FabSt → FabSt) : (c.setFab r f).xfer = c.xfer := rfl
@[simp] theorem Chip.setFab_aon (c : Chip) (r : Nat) (f : FabSt → FabSt) : (c.setFab r f).aon = c.aon := rfl

@[simp] theorem Chip.setLink_word (c : Chip) (r k : Nat) (f : LinkSt → LinkSt) (w : Nat) : (c.setLink r k f).word w = c.word w := rfl
@[simp] theorem Chip.setLink_regs (c : Chip) (r k : Nat) (f : LinkSt → LinkSt) : (c.setLink r k f).regs = c.regs := rfl
@[simp] theorem Chip.setLink_now (c : Chip) (r k : Nat) (f : LinkSt → LinkSt) : (c.setLink r k f).now = c.now := rfl
@[simp] theorem Chip.setLink_calFs (c : Chip) (r k : Nat) (f : LinkSt → LinkSt) : (c.setLink r k f).calFs = c.calFs := rfl
@[simp] theorem Chip.setLink_freeCtr (c : Chip) (r k : Nat) (f : LinkSt → LinkSt) : (c.setLink r k f).freeCtr = c.freeCtr := rfl
@[simp] theorem Chip.setLink_eng (c : Chip) (r k : Nat) (f : LinkSt → LinkSt) : (c.setLink r k f).eng = c.eng := rfl
@[simp] theorem Chip.setLink_chans (c : Chip) (r k : Nat) (f : LinkSt → LinkSt) : (c.setLink r k f).chans = c.chans := rfl
@[simp] theorem Chip.setLink_loops (c : Chip) (r k : Nat) (f : LinkSt → LinkSt) : (c.setLink r k f).loops = c.loops := rfl
@[simp] theorem Chip.setLink_slices (c : Chip) (r k : Nat) (f : LinkSt → LinkSt) : (c.setLink r k f).slices = c.slices := rfl
@[simp] theorem Chip.setLink_axes (c : Chip) (r k : Nat) (f : LinkSt → LinkSt) : (c.setLink r k f).axes = c.axes := rfl
@[simp] theorem Chip.setLink_safe (c : Chip) (r k : Nat) (f : LinkSt → LinkSt) : (c.setLink r k f).safe = c.safe := rfl
@[simp] theorem Chip.setLink_ports (c : Chip) (r k : Nat) (f : LinkSt → LinkSt) : (c.setLink r k f).ports = c.ports := rfl
@[simp] theorem Chip.setLink_pair (c : Chip) (r k : Nat) (f : LinkSt → LinkSt) : (c.setLink r k f).pair = c.pair := rfl
@[simp] theorem Chip.setLink_net (c : Chip) (r k : Nat) (f : LinkSt → LinkSt) : (c.setLink r k f).net = c.net := rfl
@[simp] theorem Chip.setLink_panel (c : Chip) (r k : Nat) (f : LinkSt → LinkSt) : (c.setLink r k f).panel = c.panel := rfl
@[simp] theorem Chip.setLink_ctrs (c : Chip) (r k : Nat) (f : LinkSt → LinkSt) : (c.setLink r k f).ctrs = c.ctrs := rfl
@[simp] theorem Chip.setLink_s8At (c : Chip) (r k : Nat) (f : LinkSt → LinkSt) : (c.setLink r k f).s8At = c.s8At := rfl
@[simp] theorem Chip.setLink_safeTx (c : Chip) (r k : Nat) (f : LinkSt → LinkSt) : (c.setLink r k f).safeTx = c.safeTx := rfl
@[simp] theorem Chip.setLink_emitted (c : Chip) (r k : Nat) (f : LinkSt → LinkSt) : (c.setLink r k f).emitted = c.emitted := rfl
@[simp] theorem Chip.setLink_crossed (c : Chip) (r k : Nat) (f : LinkSt → LinkSt) : (c.setLink r k f).crossed = c.crossed := rfl
@[simp] theorem Chip.setLink_recd (c : Chip) (r k : Nat) (f : LinkSt → LinkSt) : (c.setLink r k f).recd = c.recd := rfl
@[simp] theorem Chip.setLink_sys (c : Chip) (r k : Nat) (f : LinkSt → LinkSt) : (c.setLink r k f).sys = c.sys := rfl
@[simp] theorem Chip.setLink_xfer (c : Chip) (r k : Nat) (f : LinkSt → LinkSt) : (c.setLink r k f).xfer = c.xfer := rfl
@[simp] theorem Chip.setLink_aon (c : Chip) (r k : Nat) (f : LinkSt → LinkSt) : (c.setLink r k f).aon = c.aon := rfl

@[simp] theorem Chip.setPanel_word (c : Chip) (f : PanelSt → PanelSt) (w : Nat) : (c.setPanel f).word w = c.word w := rfl
@[simp] theorem Chip.setPanel_regs (c : Chip) (f : PanelSt → PanelSt) : (c.setPanel f).regs = c.regs := rfl
@[simp] theorem Chip.setPanel_now (c : Chip) (f : PanelSt → PanelSt) : (c.setPanel f).now = c.now := rfl
@[simp] theorem Chip.setPanel_calFs (c : Chip) (f : PanelSt → PanelSt) : (c.setPanel f).calFs = c.calFs := rfl
@[simp] theorem Chip.setPanel_freeCtr (c : Chip) (f : PanelSt → PanelSt) : (c.setPanel f).freeCtr = c.freeCtr := rfl
@[simp] theorem Chip.setPanel_eng (c : Chip) (f : PanelSt → PanelSt) : (c.setPanel f).eng = c.eng := rfl
@[simp] theorem Chip.setPanel_chans (c : Chip) (f : PanelSt → PanelSt) : (c.setPanel f).chans = c.chans := rfl
@[simp] theorem Chip.setPanel_loops (c : Chip) (f : PanelSt → PanelSt) : (c.setPanel f).loops = c.loops := rfl
@[simp] theorem Chip.setPanel_slices (c : Chip) (f : PanelSt → PanelSt) : (c.setPanel f).slices = c.slices := rfl
@[simp] theorem Chip.setPanel_axes (c : Chip) (f : PanelSt → PanelSt) : (c.setPanel f).axes = c.axes := rfl
@[simp] theorem Chip.setPanel_safe (c : Chip) (f : PanelSt → PanelSt) : (c.setPanel f).safe = c.safe := rfl
@[simp] theorem Chip.setPanel_ports (c : Chip) (f : PanelSt → PanelSt) : (c.setPanel f).ports = c.ports := rfl
@[simp] theorem Chip.setPanel_pair (c : Chip) (f : PanelSt → PanelSt) : (c.setPanel f).pair = c.pair := rfl
@[simp] theorem Chip.setPanel_net (c : Chip) (f : PanelSt → PanelSt) : (c.setPanel f).net = c.net := rfl
@[simp] theorem Chip.setPanel_ctrs (c : Chip) (f : PanelSt → PanelSt) : (c.setPanel f).ctrs = c.ctrs := rfl
@[simp] theorem Chip.setPanel_s8At (c : Chip) (f : PanelSt → PanelSt) : (c.setPanel f).s8At = c.s8At := rfl
@[simp] theorem Chip.setPanel_safeTx (c : Chip) (f : PanelSt → PanelSt) : (c.setPanel f).safeTx = c.safeTx := rfl
@[simp] theorem Chip.setPanel_emitted (c : Chip) (f : PanelSt → PanelSt) : (c.setPanel f).emitted = c.emitted := rfl
@[simp] theorem Chip.setPanel_crossed (c : Chip) (f : PanelSt → PanelSt) : (c.setPanel f).crossed = c.crossed := rfl
@[simp] theorem Chip.setPanel_recd (c : Chip) (f : PanelSt → PanelSt) : (c.setPanel f).recd = c.recd := rfl
@[simp] theorem Chip.setPanel_sys (c : Chip) (f : PanelSt → PanelSt) : (c.setPanel f).sys = c.sys := rfl
@[simp] theorem Chip.setPanel_fab (c : Chip) (f : PanelSt → PanelSt) : (c.setPanel f).fab = c.fab := rfl
@[simp] theorem Chip.setPanel_xfer (c : Chip) (f : PanelSt → PanelSt) : (c.setPanel f).xfer = c.xfer := rfl
@[simp] theorem Chip.setPanel_aon (c : Chip) (f : PanelSt → PanelSt) : (c.setPanel f).aon = c.aon := rfl

@[simp] theorem Chip.setNet_word (c : Chip) (f : NetSt → NetSt) (w : Nat) : (c.setNet f).word w = c.word w := rfl
@[simp] theorem Chip.setNet_regs (c : Chip) (f : NetSt → NetSt) : (c.setNet f).regs = c.regs := rfl
@[simp] theorem Chip.setNet_now (c : Chip) (f : NetSt → NetSt) : (c.setNet f).now = c.now := rfl
@[simp] theorem Chip.setNet_calFs (c : Chip) (f : NetSt → NetSt) : (c.setNet f).calFs = c.calFs := rfl
@[simp] theorem Chip.setNet_freeCtr (c : Chip) (f : NetSt → NetSt) : (c.setNet f).freeCtr = c.freeCtr := rfl
@[simp] theorem Chip.setNet_eng (c : Chip) (f : NetSt → NetSt) : (c.setNet f).eng = c.eng := rfl
@[simp] theorem Chip.setNet_chans (c : Chip) (f : NetSt → NetSt) : (c.setNet f).chans = c.chans := rfl
@[simp] theorem Chip.setNet_loops (c : Chip) (f : NetSt → NetSt) : (c.setNet f).loops = c.loops := rfl
@[simp] theorem Chip.setNet_slices (c : Chip) (f : NetSt → NetSt) : (c.setNet f).slices = c.slices := rfl
@[simp] theorem Chip.setNet_axes (c : Chip) (f : NetSt → NetSt) : (c.setNet f).axes = c.axes := rfl
@[simp] theorem Chip.setNet_safe (c : Chip) (f : NetSt → NetSt) : (c.setNet f).safe = c.safe := rfl
@[simp] theorem Chip.setNet_ports (c : Chip) (f : NetSt → NetSt) : (c.setNet f).ports = c.ports := rfl
@[simp] theorem Chip.setNet_pair (c : Chip) (f : NetSt → NetSt) : (c.setNet f).pair = c.pair := rfl
@[simp] theorem Chip.setNet_panel (c : Chip) (f : NetSt → NetSt) : (c.setNet f).panel = c.panel := rfl
@[simp] theorem Chip.setNet_ctrs (c : Chip) (f : NetSt → NetSt) : (c.setNet f).ctrs = c.ctrs := rfl
@[simp] theorem Chip.setNet_s8At (c : Chip) (f : NetSt → NetSt) : (c.setNet f).s8At = c.s8At := rfl
@[simp] theorem Chip.setNet_safeTx (c : Chip) (f : NetSt → NetSt) : (c.setNet f).safeTx = c.safeTx := rfl
@[simp] theorem Chip.setNet_emitted (c : Chip) (f : NetSt → NetSt) : (c.setNet f).emitted = c.emitted := rfl
@[simp] theorem Chip.setNet_crossed (c : Chip) (f : NetSt → NetSt) : (c.setNet f).crossed = c.crossed := rfl
@[simp] theorem Chip.setNet_recd (c : Chip) (f : NetSt → NetSt) : (c.setNet f).recd = c.recd := rfl
@[simp] theorem Chip.setNet_sys (c : Chip) (f : NetSt → NetSt) : (c.setNet f).sys = c.sys := rfl
@[simp] theorem Chip.setNet_fab (c : Chip) (f : NetSt → NetSt) : (c.setNet f).fab = c.fab := rfl
@[simp] theorem Chip.setNet_xfer (c : Chip) (f : NetSt → NetSt) : (c.setNet f).xfer = c.xfer := rfl
@[simp] theorem Chip.setNet_aon (c : Chip) (f : NetSt → NetSt) : (c.setNet f).aon = c.aon := rfl

@[simp] theorem Chip.setSess_word (c : Chip) (i : Nat) (f : SessSt → SessSt) (w : Nat) : (c.setSess i f).word w = c.word w := rfl
@[simp] theorem Chip.setSess_regs (c : Chip) (i : Nat) (f : SessSt → SessSt) : (c.setSess i f).regs = c.regs := rfl
@[simp] theorem Chip.setSess_now (c : Chip) (i : Nat) (f : SessSt → SessSt) : (c.setSess i f).now = c.now := rfl
@[simp] theorem Chip.setSess_calFs (c : Chip) (i : Nat) (f : SessSt → SessSt) : (c.setSess i f).calFs = c.calFs := rfl
@[simp] theorem Chip.setSess_freeCtr (c : Chip) (i : Nat) (f : SessSt → SessSt) : (c.setSess i f).freeCtr = c.freeCtr := rfl
@[simp] theorem Chip.setSess_eng (c : Chip) (i : Nat) (f : SessSt → SessSt) : (c.setSess i f).eng = c.eng := rfl
@[simp] theorem Chip.setSess_chans (c : Chip) (i : Nat) (f : SessSt → SessSt) : (c.setSess i f).chans = c.chans := rfl
@[simp] theorem Chip.setSess_loops (c : Chip) (i : Nat) (f : SessSt → SessSt) : (c.setSess i f).loops = c.loops := rfl
@[simp] theorem Chip.setSess_slices (c : Chip) (i : Nat) (f : SessSt → SessSt) : (c.setSess i f).slices = c.slices := rfl
@[simp] theorem Chip.setSess_axes (c : Chip) (i : Nat) (f : SessSt → SessSt) : (c.setSess i f).axes = c.axes := rfl
@[simp] theorem Chip.setSess_safe (c : Chip) (i : Nat) (f : SessSt → SessSt) : (c.setSess i f).safe = c.safe := rfl
@[simp] theorem Chip.setSess_ports (c : Chip) (i : Nat) (f : SessSt → SessSt) : (c.setSess i f).ports = c.ports := rfl
@[simp] theorem Chip.setSess_pair (c : Chip) (i : Nat) (f : SessSt → SessSt) : (c.setSess i f).pair = c.pair := rfl
@[simp] theorem Chip.setSess_panel (c : Chip) (i : Nat) (f : SessSt → SessSt) : (c.setSess i f).panel = c.panel := rfl
@[simp] theorem Chip.setSess_ctrs (c : Chip) (i : Nat) (f : SessSt → SessSt) : (c.setSess i f).ctrs = c.ctrs := rfl
@[simp] theorem Chip.setSess_s8At (c : Chip) (i : Nat) (f : SessSt → SessSt) : (c.setSess i f).s8At = c.s8At := rfl
@[simp] theorem Chip.setSess_safeTx (c : Chip) (i : Nat) (f : SessSt → SessSt) : (c.setSess i f).safeTx = c.safeTx := rfl
@[simp] theorem Chip.setSess_emitted (c : Chip) (i : Nat) (f : SessSt → SessSt) : (c.setSess i f).emitted = c.emitted := rfl
@[simp] theorem Chip.setSess_crossed (c : Chip) (i : Nat) (f : SessSt → SessSt) : (c.setSess i f).crossed = c.crossed := rfl
@[simp] theorem Chip.setSess_recd (c : Chip) (i : Nat) (f : SessSt → SessSt) : (c.setSess i f).recd = c.recd := rfl
@[simp] theorem Chip.setSess_sys (c : Chip) (i : Nat) (f : SessSt → SessSt) : (c.setSess i f).sys = c.sys := rfl
@[simp] theorem Chip.setSess_fab (c : Chip) (i : Nat) (f : SessSt → SessSt) : (c.setSess i f).fab = c.fab := rfl
@[simp] theorem Chip.setSess_xfer (c : Chip) (i : Nat) (f : SessSt → SessSt) : (c.setSess i f).xfer = c.xfer := rfl
@[simp] theorem Chip.setSess_aon (c : Chip) (i : Nat) (f : SessSt → SessSt) : (c.setSess i f).aon = c.aon := rfl

@[simp] theorem Chip.setPtp_word (c : Chip) (p : Nat) (f : PtpSt → PtpSt) (w : Nat) : (c.setPtp p f).word w = c.word w := rfl
@[simp] theorem Chip.setPtp_regs (c : Chip) (p : Nat) (f : PtpSt → PtpSt) : (c.setPtp p f).regs = c.regs := rfl
@[simp] theorem Chip.setPtp_now (c : Chip) (p : Nat) (f : PtpSt → PtpSt) : (c.setPtp p f).now = c.now := rfl
@[simp] theorem Chip.setPtp_calFs (c : Chip) (p : Nat) (f : PtpSt → PtpSt) : (c.setPtp p f).calFs = c.calFs := rfl
@[simp] theorem Chip.setPtp_freeCtr (c : Chip) (p : Nat) (f : PtpSt → PtpSt) : (c.setPtp p f).freeCtr = c.freeCtr := rfl
@[simp] theorem Chip.setPtp_eng (c : Chip) (p : Nat) (f : PtpSt → PtpSt) : (c.setPtp p f).eng = c.eng := rfl
@[simp] theorem Chip.setPtp_chans (c : Chip) (p : Nat) (f : PtpSt → PtpSt) : (c.setPtp p f).chans = c.chans := rfl
@[simp] theorem Chip.setPtp_loops (c : Chip) (p : Nat) (f : PtpSt → PtpSt) : (c.setPtp p f).loops = c.loops := rfl
@[simp] theorem Chip.setPtp_slices (c : Chip) (p : Nat) (f : PtpSt → PtpSt) : (c.setPtp p f).slices = c.slices := rfl
@[simp] theorem Chip.setPtp_axes (c : Chip) (p : Nat) (f : PtpSt → PtpSt) : (c.setPtp p f).axes = c.axes := rfl
@[simp] theorem Chip.setPtp_safe (c : Chip) (p : Nat) (f : PtpSt → PtpSt) : (c.setPtp p f).safe = c.safe := rfl
@[simp] theorem Chip.setPtp_ports (c : Chip) (p : Nat) (f : PtpSt → PtpSt) : (c.setPtp p f).ports = c.ports := rfl
@[simp] theorem Chip.setPtp_pair (c : Chip) (p : Nat) (f : PtpSt → PtpSt) : (c.setPtp p f).pair = c.pair := rfl
@[simp] theorem Chip.setPtp_panel (c : Chip) (p : Nat) (f : PtpSt → PtpSt) : (c.setPtp p f).panel = c.panel := rfl
@[simp] theorem Chip.setPtp_ctrs (c : Chip) (p : Nat) (f : PtpSt → PtpSt) : (c.setPtp p f).ctrs = c.ctrs := rfl
@[simp] theorem Chip.setPtp_s8At (c : Chip) (p : Nat) (f : PtpSt → PtpSt) : (c.setPtp p f).s8At = c.s8At := rfl
@[simp] theorem Chip.setPtp_safeTx (c : Chip) (p : Nat) (f : PtpSt → PtpSt) : (c.setPtp p f).safeTx = c.safeTx := rfl
@[simp] theorem Chip.setPtp_emitted (c : Chip) (p : Nat) (f : PtpSt → PtpSt) : (c.setPtp p f).emitted = c.emitted := rfl
@[simp] theorem Chip.setPtp_crossed (c : Chip) (p : Nat) (f : PtpSt → PtpSt) : (c.setPtp p f).crossed = c.crossed := rfl
@[simp] theorem Chip.setPtp_recd (c : Chip) (p : Nat) (f : PtpSt → PtpSt) : (c.setPtp p f).recd = c.recd := rfl
@[simp] theorem Chip.setPtp_sys (c : Chip) (p : Nat) (f : PtpSt → PtpSt) : (c.setPtp p f).sys = c.sys := rfl
@[simp] theorem Chip.setPtp_fab (c : Chip) (p : Nat) (f : PtpSt → PtpSt) : (c.setPtp p f).fab = c.fab := rfl
@[simp] theorem Chip.setPtp_xfer (c : Chip) (p : Nat) (f : PtpSt → PtpSt) : (c.setPtp p f).xfer = c.xfer := rfl
@[simp] theorem Chip.setPtp_aon (c : Chip) (p : Nat) (f : PtpSt → PtpSt) : (c.setPtp p f).aon = c.aon := rfl

@[simp] theorem Chip.setEng_word (c : Chip) (f : EngSt → EngSt) (w : Nat) : (c.setEng f).word w = c.word w := rfl
@[simp] theorem Chip.setEng_regs (c : Chip) (f : EngSt → EngSt) : (c.setEng f).regs = c.regs := rfl
@[simp] theorem Chip.setEng_now (c : Chip) (f : EngSt → EngSt) : (c.setEng f).now = c.now := rfl
@[simp] theorem Chip.setEng_calFs (c : Chip) (f : EngSt → EngSt) : (c.setEng f).calFs = c.calFs := rfl
@[simp] theorem Chip.setEng_freeCtr (c : Chip) (f : EngSt → EngSt) : (c.setEng f).freeCtr = c.freeCtr := rfl
@[simp] theorem Chip.setEng_chans (c : Chip) (f : EngSt → EngSt) : (c.setEng f).chans = c.chans := rfl
@[simp] theorem Chip.setEng_loops (c : Chip) (f : EngSt → EngSt) : (c.setEng f).loops = c.loops := rfl
@[simp] theorem Chip.setEng_slices (c : Chip) (f : EngSt → EngSt) : (c.setEng f).slices = c.slices := rfl
@[simp] theorem Chip.setEng_axes (c : Chip) (f : EngSt → EngSt) : (c.setEng f).axes = c.axes := rfl
@[simp] theorem Chip.setEng_safe (c : Chip) (f : EngSt → EngSt) : (c.setEng f).safe = c.safe := rfl
@[simp] theorem Chip.setEng_ports (c : Chip) (f : EngSt → EngSt) : (c.setEng f).ports = c.ports := rfl
@[simp] theorem Chip.setEng_pair (c : Chip) (f : EngSt → EngSt) : (c.setEng f).pair = c.pair := rfl
@[simp] theorem Chip.setEng_net (c : Chip) (f : EngSt → EngSt) : (c.setEng f).net = c.net := rfl
@[simp] theorem Chip.setEng_panel (c : Chip) (f : EngSt → EngSt) : (c.setEng f).panel = c.panel := rfl
@[simp] theorem Chip.setEng_ctrs (c : Chip) (f : EngSt → EngSt) : (c.setEng f).ctrs = c.ctrs := rfl
@[simp] theorem Chip.setEng_s8At (c : Chip) (f : EngSt → EngSt) : (c.setEng f).s8At = c.s8At := rfl
@[simp] theorem Chip.setEng_safeTx (c : Chip) (f : EngSt → EngSt) : (c.setEng f).safeTx = c.safeTx := rfl
@[simp] theorem Chip.setEng_emitted (c : Chip) (f : EngSt → EngSt) : (c.setEng f).emitted = c.emitted := rfl
@[simp] theorem Chip.setEng_crossed (c : Chip) (f : EngSt → EngSt) : (c.setEng f).crossed = c.crossed := rfl
@[simp] theorem Chip.setEng_recd (c : Chip) (f : EngSt → EngSt) : (c.setEng f).recd = c.recd := rfl
@[simp] theorem Chip.setEng_sys (c : Chip) (f : EngSt → EngSt) : (c.setEng f).sys = c.sys := rfl
@[simp] theorem Chip.setEng_fab (c : Chip) (f : EngSt → EngSt) : (c.setEng f).fab = c.fab := rfl
@[simp] theorem Chip.setEng_xfer (c : Chip) (f : EngSt → EngSt) : (c.setEng f).xfer = c.xfer := rfl
@[simp] theorem Chip.setEng_aon (c : Chip) (f : EngSt → EngSt) : (c.setEng f).aon = c.aon := rfl

@[simp] theorem Chip.setLoop_word (c : Chip) (n : Nat) (f : LoopSt → LoopSt) (w : Nat) : (c.setLoop n f).word w = c.word w := rfl
@[simp] theorem Chip.setLoop_regs (c : Chip) (n : Nat) (f : LoopSt → LoopSt) : (c.setLoop n f).regs = c.regs := rfl
@[simp] theorem Chip.setLoop_now (c : Chip) (n : Nat) (f : LoopSt → LoopSt) : (c.setLoop n f).now = c.now := rfl
@[simp] theorem Chip.setLoop_calFs (c : Chip) (n : Nat) (f : LoopSt → LoopSt) : (c.setLoop n f).calFs = c.calFs := rfl
@[simp] theorem Chip.setLoop_freeCtr (c : Chip) (n : Nat) (f : LoopSt → LoopSt) : (c.setLoop n f).freeCtr = c.freeCtr := rfl
@[simp] theorem Chip.setLoop_eng (c : Chip) (n : Nat) (f : LoopSt → LoopSt) : (c.setLoop n f).eng = c.eng := rfl
@[simp] theorem Chip.setLoop_chans (c : Chip) (n : Nat) (f : LoopSt → LoopSt) : (c.setLoop n f).chans = c.chans := rfl
@[simp] theorem Chip.setLoop_slices (c : Chip) (n : Nat) (f : LoopSt → LoopSt) : (c.setLoop n f).slices = c.slices := rfl
@[simp] theorem Chip.setLoop_axes (c : Chip) (n : Nat) (f : LoopSt → LoopSt) : (c.setLoop n f).axes = c.axes := rfl
@[simp] theorem Chip.setLoop_safe (c : Chip) (n : Nat) (f : LoopSt → LoopSt) : (c.setLoop n f).safe = c.safe := rfl
@[simp] theorem Chip.setLoop_ports (c : Chip) (n : Nat) (f : LoopSt → LoopSt) : (c.setLoop n f).ports = c.ports := rfl
@[simp] theorem Chip.setLoop_pair (c : Chip) (n : Nat) (f : LoopSt → LoopSt) : (c.setLoop n f).pair = c.pair := rfl
@[simp] theorem Chip.setLoop_net (c : Chip) (n : Nat) (f : LoopSt → LoopSt) : (c.setLoop n f).net = c.net := rfl
@[simp] theorem Chip.setLoop_panel (c : Chip) (n : Nat) (f : LoopSt → LoopSt) : (c.setLoop n f).panel = c.panel := rfl
@[simp] theorem Chip.setLoop_ctrs (c : Chip) (n : Nat) (f : LoopSt → LoopSt) : (c.setLoop n f).ctrs = c.ctrs := rfl
@[simp] theorem Chip.setLoop_s8At (c : Chip) (n : Nat) (f : LoopSt → LoopSt) : (c.setLoop n f).s8At = c.s8At := rfl
@[simp] theorem Chip.setLoop_safeTx (c : Chip) (n : Nat) (f : LoopSt → LoopSt) : (c.setLoop n f).safeTx = c.safeTx := rfl
@[simp] theorem Chip.setLoop_emitted (c : Chip) (n : Nat) (f : LoopSt → LoopSt) : (c.setLoop n f).emitted = c.emitted := rfl
@[simp] theorem Chip.setLoop_crossed (c : Chip) (n : Nat) (f : LoopSt → LoopSt) : (c.setLoop n f).crossed = c.crossed := rfl
@[simp] theorem Chip.setLoop_recd (c : Chip) (n : Nat) (f : LoopSt → LoopSt) : (c.setLoop n f).recd = c.recd := rfl
@[simp] theorem Chip.setLoop_sys (c : Chip) (n : Nat) (f : LoopSt → LoopSt) : (c.setLoop n f).sys = c.sys := rfl
@[simp] theorem Chip.setLoop_fab (c : Chip) (n : Nat) (f : LoopSt → LoopSt) : (c.setLoop n f).fab = c.fab := rfl
@[simp] theorem Chip.setLoop_xfer (c : Chip) (n : Nat) (f : LoopSt → LoopSt) : (c.setLoop n f).xfer = c.xfer := rfl
@[simp] theorem Chip.setLoop_aon (c : Chip) (n : Nat) (f : LoopSt → LoopSt) : (c.setLoop n f).aon = c.aon := rfl

@[simp] theorem Chip.setSlice_word (c : Chip) (r : Nat) (f : SliceSt → SliceSt) (w : Nat) : (c.setSlice r f).word w = c.word w := rfl
@[simp] theorem Chip.setSlice_regs (c : Chip) (r : Nat) (f : SliceSt → SliceSt) : (c.setSlice r f).regs = c.regs := rfl
@[simp] theorem Chip.setSlice_now (c : Chip) (r : Nat) (f : SliceSt → SliceSt) : (c.setSlice r f).now = c.now := rfl
@[simp] theorem Chip.setSlice_calFs (c : Chip) (r : Nat) (f : SliceSt → SliceSt) : (c.setSlice r f).calFs = c.calFs := rfl
@[simp] theorem Chip.setSlice_freeCtr (c : Chip) (r : Nat) (f : SliceSt → SliceSt) : (c.setSlice r f).freeCtr = c.freeCtr := rfl
@[simp] theorem Chip.setSlice_eng (c : Chip) (r : Nat) (f : SliceSt → SliceSt) : (c.setSlice r f).eng = c.eng := rfl
@[simp] theorem Chip.setSlice_chans (c : Chip) (r : Nat) (f : SliceSt → SliceSt) : (c.setSlice r f).chans = c.chans := rfl
@[simp] theorem Chip.setSlice_loops (c : Chip) (r : Nat) (f : SliceSt → SliceSt) : (c.setSlice r f).loops = c.loops := rfl
@[simp] theorem Chip.setSlice_axes (c : Chip) (r : Nat) (f : SliceSt → SliceSt) : (c.setSlice r f).axes = c.axes := rfl
@[simp] theorem Chip.setSlice_safe (c : Chip) (r : Nat) (f : SliceSt → SliceSt) : (c.setSlice r f).safe = c.safe := rfl
@[simp] theorem Chip.setSlice_ports (c : Chip) (r : Nat) (f : SliceSt → SliceSt) : (c.setSlice r f).ports = c.ports := rfl
@[simp] theorem Chip.setSlice_pair (c : Chip) (r : Nat) (f : SliceSt → SliceSt) : (c.setSlice r f).pair = c.pair := rfl
@[simp] theorem Chip.setSlice_net (c : Chip) (r : Nat) (f : SliceSt → SliceSt) : (c.setSlice r f).net = c.net := rfl
@[simp] theorem Chip.setSlice_panel (c : Chip) (r : Nat) (f : SliceSt → SliceSt) : (c.setSlice r f).panel = c.panel := rfl
@[simp] theorem Chip.setSlice_ctrs (c : Chip) (r : Nat) (f : SliceSt → SliceSt) : (c.setSlice r f).ctrs = c.ctrs := rfl
@[simp] theorem Chip.setSlice_s8At (c : Chip) (r : Nat) (f : SliceSt → SliceSt) : (c.setSlice r f).s8At = c.s8At := rfl
@[simp] theorem Chip.setSlice_safeTx (c : Chip) (r : Nat) (f : SliceSt → SliceSt) : (c.setSlice r f).safeTx = c.safeTx := rfl
@[simp] theorem Chip.setSlice_emitted (c : Chip) (r : Nat) (f : SliceSt → SliceSt) : (c.setSlice r f).emitted = c.emitted := rfl
@[simp] theorem Chip.setSlice_crossed (c : Chip) (r : Nat) (f : SliceSt → SliceSt) : (c.setSlice r f).crossed = c.crossed := rfl
@[simp] theorem Chip.setSlice_recd (c : Chip) (r : Nat) (f : SliceSt → SliceSt) : (c.setSlice r f).recd = c.recd := rfl
@[simp] theorem Chip.setSlice_sys (c : Chip) (r : Nat) (f : SliceSt → SliceSt) : (c.setSlice r f).sys = c.sys := rfl
@[simp] theorem Chip.setSlice_fab (c : Chip) (r : Nat) (f : SliceSt → SliceSt) : (c.setSlice r f).fab = c.fab := rfl
@[simp] theorem Chip.setSlice_xfer (c : Chip) (r : Nat) (f : SliceSt → SliceSt) : (c.setSlice r f).xfer = c.xfer := rfl
@[simp] theorem Chip.setSlice_aon (c : Chip) (r : Nat) (f : SliceSt → SliceSt) : (c.setSlice r f).aon = c.aon := rfl

@[simp] theorem Chip.setPort_word (c : Chip) (r : Nat) (f : PortSt → PortSt) (w : Nat) : (c.setPort r f).word w = c.word w := rfl
@[simp] theorem Chip.setPort_regs (c : Chip) (r : Nat) (f : PortSt → PortSt) : (c.setPort r f).regs = c.regs := rfl
@[simp] theorem Chip.setPort_now (c : Chip) (r : Nat) (f : PortSt → PortSt) : (c.setPort r f).now = c.now := rfl
@[simp] theorem Chip.setPort_calFs (c : Chip) (r : Nat) (f : PortSt → PortSt) : (c.setPort r f).calFs = c.calFs := rfl
@[simp] theorem Chip.setPort_freeCtr (c : Chip) (r : Nat) (f : PortSt → PortSt) : (c.setPort r f).freeCtr = c.freeCtr := rfl
@[simp] theorem Chip.setPort_eng (c : Chip) (r : Nat) (f : PortSt → PortSt) : (c.setPort r f).eng = c.eng := rfl
@[simp] theorem Chip.setPort_chans (c : Chip) (r : Nat) (f : PortSt → PortSt) : (c.setPort r f).chans = c.chans := rfl
@[simp] theorem Chip.setPort_loops (c : Chip) (r : Nat) (f : PortSt → PortSt) : (c.setPort r f).loops = c.loops := rfl
@[simp] theorem Chip.setPort_slices (c : Chip) (r : Nat) (f : PortSt → PortSt) : (c.setPort r f).slices = c.slices := rfl
@[simp] theorem Chip.setPort_axes (c : Chip) (r : Nat) (f : PortSt → PortSt) : (c.setPort r f).axes = c.axes := rfl
@[simp] theorem Chip.setPort_safe (c : Chip) (r : Nat) (f : PortSt → PortSt) : (c.setPort r f).safe = c.safe := rfl
@[simp] theorem Chip.setPort_pair (c : Chip) (r : Nat) (f : PortSt → PortSt) : (c.setPort r f).pair = c.pair := rfl
@[simp] theorem Chip.setPort_net (c : Chip) (r : Nat) (f : PortSt → PortSt) : (c.setPort r f).net = c.net := rfl
@[simp] theorem Chip.setPort_panel (c : Chip) (r : Nat) (f : PortSt → PortSt) : (c.setPort r f).panel = c.panel := rfl
@[simp] theorem Chip.setPort_ctrs (c : Chip) (r : Nat) (f : PortSt → PortSt) : (c.setPort r f).ctrs = c.ctrs := rfl
@[simp] theorem Chip.setPort_s8At (c : Chip) (r : Nat) (f : PortSt → PortSt) : (c.setPort r f).s8At = c.s8At := rfl
@[simp] theorem Chip.setPort_safeTx (c : Chip) (r : Nat) (f : PortSt → PortSt) : (c.setPort r f).safeTx = c.safeTx := rfl
@[simp] theorem Chip.setPort_emitted (c : Chip) (r : Nat) (f : PortSt → PortSt) : (c.setPort r f).emitted = c.emitted := rfl
@[simp] theorem Chip.setPort_crossed (c : Chip) (r : Nat) (f : PortSt → PortSt) : (c.setPort r f).crossed = c.crossed := rfl
@[simp] theorem Chip.setPort_recd (c : Chip) (r : Nat) (f : PortSt → PortSt) : (c.setPort r f).recd = c.recd := rfl
@[simp] theorem Chip.setPort_sys (c : Chip) (r : Nat) (f : PortSt → PortSt) : (c.setPort r f).sys = c.sys := rfl
@[simp] theorem Chip.setPort_fab (c : Chip) (r : Nat) (f : PortSt → PortSt) : (c.setPort r f).fab = c.fab := rfl
@[simp] theorem Chip.setPort_xfer (c : Chip) (r : Nat) (f : PortSt → PortSt) : (c.setPort r f).xfer = c.xfer := rfl
@[simp] theorem Chip.setPort_aon (c : Chip) (r : Nat) (f : PortSt → PortSt) : (c.setPort r f).aon = c.aon := rfl

@[simp] theorem Chip.setObj_word (c : Chip) (r j : Nat) (f : PortObj → PortObj) (w : Nat) : (c.setObj r j f).word w = c.word w := rfl
@[simp] theorem Chip.setObj_regs (c : Chip) (r j : Nat) (f : PortObj → PortObj) : (c.setObj r j f).regs = c.regs := rfl
@[simp] theorem Chip.setObj_now (c : Chip) (r j : Nat) (f : PortObj → PortObj) : (c.setObj r j f).now = c.now := rfl
@[simp] theorem Chip.setObj_calFs (c : Chip) (r j : Nat) (f : PortObj → PortObj) : (c.setObj r j f).calFs = c.calFs := rfl
@[simp] theorem Chip.setObj_freeCtr (c : Chip) (r j : Nat) (f : PortObj → PortObj) : (c.setObj r j f).freeCtr = c.freeCtr := rfl
@[simp] theorem Chip.setObj_eng (c : Chip) (r j : Nat) (f : PortObj → PortObj) : (c.setObj r j f).eng = c.eng := rfl
@[simp] theorem Chip.setObj_chans (c : Chip) (r j : Nat) (f : PortObj → PortObj) : (c.setObj r j f).chans = c.chans := rfl
@[simp] theorem Chip.setObj_loops (c : Chip) (r j : Nat) (f : PortObj → PortObj) : (c.setObj r j f).loops = c.loops := rfl
@[simp] theorem Chip.setObj_slices (c : Chip) (r j : Nat) (f : PortObj → PortObj) : (c.setObj r j f).slices = c.slices := rfl
@[simp] theorem Chip.setObj_axes (c : Chip) (r j : Nat) (f : PortObj → PortObj) : (c.setObj r j f).axes = c.axes := rfl
@[simp] theorem Chip.setObj_safe (c : Chip) (r j : Nat) (f : PortObj → PortObj) : (c.setObj r j f).safe = c.safe := rfl
@[simp] theorem Chip.setObj_pair (c : Chip) (r j : Nat) (f : PortObj → PortObj) : (c.setObj r j f).pair = c.pair := rfl
@[simp] theorem Chip.setObj_net (c : Chip) (r j : Nat) (f : PortObj → PortObj) : (c.setObj r j f).net = c.net := rfl
@[simp] theorem Chip.setObj_panel (c : Chip) (r j : Nat) (f : PortObj → PortObj) : (c.setObj r j f).panel = c.panel := rfl
@[simp] theorem Chip.setObj_ctrs (c : Chip) (r j : Nat) (f : PortObj → PortObj) : (c.setObj r j f).ctrs = c.ctrs := rfl
@[simp] theorem Chip.setObj_s8At (c : Chip) (r j : Nat) (f : PortObj → PortObj) : (c.setObj r j f).s8At = c.s8At := rfl
@[simp] theorem Chip.setObj_safeTx (c : Chip) (r j : Nat) (f : PortObj → PortObj) : (c.setObj r j f).safeTx = c.safeTx := rfl
@[simp] theorem Chip.setObj_emitted (c : Chip) (r j : Nat) (f : PortObj → PortObj) : (c.setObj r j f).emitted = c.emitted := rfl
@[simp] theorem Chip.setObj_crossed (c : Chip) (r j : Nat) (f : PortObj → PortObj) : (c.setObj r j f).crossed = c.crossed := rfl
@[simp] theorem Chip.setObj_recd (c : Chip) (r j : Nat) (f : PortObj → PortObj) : (c.setObj r j f).recd = c.recd := rfl
@[simp] theorem Chip.setObj_sys (c : Chip) (r j : Nat) (f : PortObj → PortObj) : (c.setObj r j f).sys = c.sys := rfl
@[simp] theorem Chip.setObj_fab (c : Chip) (r j : Nat) (f : PortObj → PortObj) : (c.setObj r j f).fab = c.fab := rfl
@[simp] theorem Chip.setObj_xfer (c : Chip) (r j : Nat) (f : PortObj → PortObj) : (c.setObj r j f).xfer = c.xfer := rfl
@[simp] theorem Chip.setObj_aon (c : Chip) (r j : Nat) (f : PortObj → PortObj) : (c.setObj r j f).aon = c.aon := rfl

@[simp] theorem Chip.setSta_word (c : Chip) (r k : Nat) (f : PortSta → PortSta) (w : Nat) : (c.setSta r k f).word w = c.word w := rfl
@[simp] theorem Chip.setSta_regs (c : Chip) (r k : Nat) (f : PortSta → PortSta) : (c.setSta r k f).regs = c.regs := rfl
@[simp] theorem Chip.setSta_now (c : Chip) (r k : Nat) (f : PortSta → PortSta) : (c.setSta r k f).now = c.now := rfl
@[simp] theorem Chip.setSta_calFs (c : Chip) (r k : Nat) (f : PortSta → PortSta) : (c.setSta r k f).calFs = c.calFs := rfl
@[simp] theorem Chip.setSta_freeCtr (c : Chip) (r k : Nat) (f : PortSta → PortSta) : (c.setSta r k f).freeCtr = c.freeCtr := rfl
@[simp] theorem Chip.setSta_eng (c : Chip) (r k : Nat) (f : PortSta → PortSta) : (c.setSta r k f).eng = c.eng := rfl
@[simp] theorem Chip.setSta_chans (c : Chip) (r k : Nat) (f : PortSta → PortSta) : (c.setSta r k f).chans = c.chans := rfl
@[simp] theorem Chip.setSta_loops (c : Chip) (r k : Nat) (f : PortSta → PortSta) : (c.setSta r k f).loops = c.loops := rfl
@[simp] theorem Chip.setSta_slices (c : Chip) (r k : Nat) (f : PortSta → PortSta) : (c.setSta r k f).slices = c.slices := rfl
@[simp] theorem Chip.setSta_axes (c : Chip) (r k : Nat) (f : PortSta → PortSta) : (c.setSta r k f).axes = c.axes := rfl
@[simp] theorem Chip.setSta_safe (c : Chip) (r k : Nat) (f : PortSta → PortSta) : (c.setSta r k f).safe = c.safe := rfl
@[simp] theorem Chip.setSta_pair (c : Chip) (r k : Nat) (f : PortSta → PortSta) : (c.setSta r k f).pair = c.pair := rfl
@[simp] theorem Chip.setSta_net (c : Chip) (r k : Nat) (f : PortSta → PortSta) : (c.setSta r k f).net = c.net := rfl
@[simp] theorem Chip.setSta_panel (c : Chip) (r k : Nat) (f : PortSta → PortSta) : (c.setSta r k f).panel = c.panel := rfl
@[simp] theorem Chip.setSta_ctrs (c : Chip) (r k : Nat) (f : PortSta → PortSta) : (c.setSta r k f).ctrs = c.ctrs := rfl
@[simp] theorem Chip.setSta_s8At (c : Chip) (r k : Nat) (f : PortSta → PortSta) : (c.setSta r k f).s8At = c.s8At := rfl
@[simp] theorem Chip.setSta_safeTx (c : Chip) (r k : Nat) (f : PortSta → PortSta) : (c.setSta r k f).safeTx = c.safeTx := rfl
@[simp] theorem Chip.setSta_emitted (c : Chip) (r k : Nat) (f : PortSta → PortSta) : (c.setSta r k f).emitted = c.emitted := rfl
@[simp] theorem Chip.setSta_crossed (c : Chip) (r k : Nat) (f : PortSta → PortSta) : (c.setSta r k f).crossed = c.crossed := rfl
@[simp] theorem Chip.setSta_recd (c : Chip) (r k : Nat) (f : PortSta → PortSta) : (c.setSta r k f).recd = c.recd := rfl
@[simp] theorem Chip.setSta_sys (c : Chip) (r k : Nat) (f : PortSta → PortSta) : (c.setSta r k f).sys = c.sys := rfl
@[simp] theorem Chip.setSta_fab (c : Chip) (r k : Nat) (f : PortSta → PortSta) : (c.setSta r k f).fab = c.fab := rfl
@[simp] theorem Chip.setSta_xfer (c : Chip) (r k : Nat) (f : PortSta → PortSta) : (c.setSta r k f).xfer = c.xfer := rfl
@[simp] theorem Chip.setSta_aon (c : Chip) (r k : Nat) (f : PortSta → PortSta) : (c.setSta r k f).aon = c.aon := rfl

@[simp] theorem Chip.setPair_word (c : Chip) (f : PairSt → PairSt) (w : Nat) : (c.setPair f).word w = c.word w := rfl
@[simp] theorem Chip.setPair_regs (c : Chip) (f : PairSt → PairSt) : (c.setPair f).regs = c.regs := rfl
@[simp] theorem Chip.setPair_now (c : Chip) (f : PairSt → PairSt) : (c.setPair f).now = c.now := rfl
@[simp] theorem Chip.setPair_calFs (c : Chip) (f : PairSt → PairSt) : (c.setPair f).calFs = c.calFs := rfl
@[simp] theorem Chip.setPair_freeCtr (c : Chip) (f : PairSt → PairSt) : (c.setPair f).freeCtr = c.freeCtr := rfl
@[simp] theorem Chip.setPair_eng (c : Chip) (f : PairSt → PairSt) : (c.setPair f).eng = c.eng := rfl
@[simp] theorem Chip.setPair_chans (c : Chip) (f : PairSt → PairSt) : (c.setPair f).chans = c.chans := rfl
@[simp] theorem Chip.setPair_loops (c : Chip) (f : PairSt → PairSt) : (c.setPair f).loops = c.loops := rfl
@[simp] theorem Chip.setPair_slices (c : Chip) (f : PairSt → PairSt) : (c.setPair f).slices = c.slices := rfl
@[simp] theorem Chip.setPair_axes (c : Chip) (f : PairSt → PairSt) : (c.setPair f).axes = c.axes := rfl
@[simp] theorem Chip.setPair_safe (c : Chip) (f : PairSt → PairSt) : (c.setPair f).safe = c.safe := rfl
@[simp] theorem Chip.setPair_ports (c : Chip) (f : PairSt → PairSt) : (c.setPair f).ports = c.ports := rfl
@[simp] theorem Chip.setPair_net (c : Chip) (f : PairSt → PairSt) : (c.setPair f).net = c.net := rfl
@[simp] theorem Chip.setPair_panel (c : Chip) (f : PairSt → PairSt) : (c.setPair f).panel = c.panel := rfl
@[simp] theorem Chip.setPair_ctrs (c : Chip) (f : PairSt → PairSt) : (c.setPair f).ctrs = c.ctrs := rfl
@[simp] theorem Chip.setPair_s8At (c : Chip) (f : PairSt → PairSt) : (c.setPair f).s8At = c.s8At := rfl
@[simp] theorem Chip.setPair_safeTx (c : Chip) (f : PairSt → PairSt) : (c.setPair f).safeTx = c.safeTx := rfl
@[simp] theorem Chip.setPair_emitted (c : Chip) (f : PairSt → PairSt) : (c.setPair f).emitted = c.emitted := rfl
@[simp] theorem Chip.setPair_crossed (c : Chip) (f : PairSt → PairSt) : (c.setPair f).crossed = c.crossed := rfl
@[simp] theorem Chip.setPair_recd (c : Chip) (f : PairSt → PairSt) : (c.setPair f).recd = c.recd := rfl
@[simp] theorem Chip.setPair_sys (c : Chip) (f : PairSt → PairSt) : (c.setPair f).sys = c.sys := rfl
@[simp] theorem Chip.setPair_fab (c : Chip) (f : PairSt → PairSt) : (c.setPair f).fab = c.fab := rfl
@[simp] theorem Chip.setPair_xfer (c : Chip) (f : PairSt → PairSt) : (c.setPair f).xfer = c.xfer := rfl
@[simp] theorem Chip.setPair_aon (c : Chip) (f : PairSt → PairSt) : (c.setPair f).aon = c.aon := rfl

@[simp] theorem Chip.setRec_word (c : Chip) (f : RecSt → RecSt) (w : Nat) : (c.setRec f).word w = c.word w := rfl
@[simp] theorem Chip.setRec_regs (c : Chip) (f : RecSt → RecSt) : (c.setRec f).regs = c.regs := rfl
@[simp] theorem Chip.setRec_now (c : Chip) (f : RecSt → RecSt) : (c.setRec f).now = c.now := rfl
@[simp] theorem Chip.setRec_calFs (c : Chip) (f : RecSt → RecSt) : (c.setRec f).calFs = c.calFs := rfl
@[simp] theorem Chip.setRec_freeCtr (c : Chip) (f : RecSt → RecSt) : (c.setRec f).freeCtr = c.freeCtr := rfl
@[simp] theorem Chip.setRec_eng (c : Chip) (f : RecSt → RecSt) : (c.setRec f).eng = c.eng := rfl
@[simp] theorem Chip.setRec_chans (c : Chip) (f : RecSt → RecSt) : (c.setRec f).chans = c.chans := rfl
@[simp] theorem Chip.setRec_loops (c : Chip) (f : RecSt → RecSt) : (c.setRec f).loops = c.loops := rfl
@[simp] theorem Chip.setRec_slices (c : Chip) (f : RecSt → RecSt) : (c.setRec f).slices = c.slices := rfl
@[simp] theorem Chip.setRec_axes (c : Chip) (f : RecSt → RecSt) : (c.setRec f).axes = c.axes := rfl
@[simp] theorem Chip.setRec_safe (c : Chip) (f : RecSt → RecSt) : (c.setRec f).safe = c.safe := rfl
@[simp] theorem Chip.setRec_ports (c : Chip) (f : RecSt → RecSt) : (c.setRec f).ports = c.ports := rfl
@[simp] theorem Chip.setRec_pair (c : Chip) (f : RecSt → RecSt) : (c.setRec f).pair = c.pair := rfl
@[simp] theorem Chip.setRec_net (c : Chip) (f : RecSt → RecSt) : (c.setRec f).net = c.net := rfl
@[simp] theorem Chip.setRec_panel (c : Chip) (f : RecSt → RecSt) : (c.setRec f).panel = c.panel := rfl
@[simp] theorem Chip.setRec_ctrs (c : Chip) (f : RecSt → RecSt) : (c.setRec f).ctrs = c.ctrs := rfl
@[simp] theorem Chip.setRec_s8At (c : Chip) (f : RecSt → RecSt) : (c.setRec f).s8At = c.s8At := rfl
@[simp] theorem Chip.setRec_safeTx (c : Chip) (f : RecSt → RecSt) : (c.setRec f).safeTx = c.safeTx := rfl
@[simp] theorem Chip.setRec_emitted (c : Chip) (f : RecSt → RecSt) : (c.setRec f).emitted = c.emitted := rfl
@[simp] theorem Chip.setRec_crossed (c : Chip) (f : RecSt → RecSt) : (c.setRec f).crossed = c.crossed := rfl
@[simp] theorem Chip.setRec_sys (c : Chip) (f : RecSt → RecSt) : (c.setRec f).sys = c.sys := rfl
@[simp] theorem Chip.setRec_fab (c : Chip) (f : RecSt → RecSt) : (c.setRec f).fab = c.fab := rfl
@[simp] theorem Chip.setRec_xfer (c : Chip) (f : RecSt → RecSt) : (c.setRec f).xfer = c.xfer := rfl
@[simp] theorem Chip.setRec_aon (c : Chip) (f : RecSt → RecSt) : (c.setRec f).aon = c.aon := rfl

@[simp] theorem Chip.setIsle_word (c : Chip) (r : Nat) (f : IsleSt → IsleSt) (w : Nat) : (c.setIsle r f).word w = c.word w := rfl
@[simp] theorem Chip.setIsle_regs (c : Chip) (r : Nat) (f : IsleSt → IsleSt) : (c.setIsle r f).regs = c.regs := rfl
@[simp] theorem Chip.setIsle_now (c : Chip) (r : Nat) (f : IsleSt → IsleSt) : (c.setIsle r f).now = c.now := rfl
@[simp] theorem Chip.setIsle_calFs (c : Chip) (r : Nat) (f : IsleSt → IsleSt) : (c.setIsle r f).calFs = c.calFs := rfl
@[simp] theorem Chip.setIsle_freeCtr (c : Chip) (r : Nat) (f : IsleSt → IsleSt) : (c.setIsle r f).freeCtr = c.freeCtr := rfl
@[simp] theorem Chip.setIsle_eng (c : Chip) (r : Nat) (f : IsleSt → IsleSt) : (c.setIsle r f).eng = c.eng := rfl
@[simp] theorem Chip.setIsle_chans (c : Chip) (r : Nat) (f : IsleSt → IsleSt) : (c.setIsle r f).chans = c.chans := rfl
@[simp] theorem Chip.setIsle_loops (c : Chip) (r : Nat) (f : IsleSt → IsleSt) : (c.setIsle r f).loops = c.loops := rfl
@[simp] theorem Chip.setIsle_slices (c : Chip) (r : Nat) (f : IsleSt → IsleSt) : (c.setIsle r f).slices = c.slices := rfl
@[simp] theorem Chip.setIsle_axes (c : Chip) (r : Nat) (f : IsleSt → IsleSt) : (c.setIsle r f).axes = c.axes := rfl
@[simp] theorem Chip.setIsle_ports (c : Chip) (r : Nat) (f : IsleSt → IsleSt) : (c.setIsle r f).ports = c.ports := rfl
@[simp] theorem Chip.setIsle_pair (c : Chip) (r : Nat) (f : IsleSt → IsleSt) : (c.setIsle r f).pair = c.pair := rfl
@[simp] theorem Chip.setIsle_net (c : Chip) (r : Nat) (f : IsleSt → IsleSt) : (c.setIsle r f).net = c.net := rfl
@[simp] theorem Chip.setIsle_panel (c : Chip) (r : Nat) (f : IsleSt → IsleSt) : (c.setIsle r f).panel = c.panel := rfl
@[simp] theorem Chip.setIsle_ctrs (c : Chip) (r : Nat) (f : IsleSt → IsleSt) : (c.setIsle r f).ctrs = c.ctrs := rfl
@[simp] theorem Chip.setIsle_s8At (c : Chip) (r : Nat) (f : IsleSt → IsleSt) : (c.setIsle r f).s8At = c.s8At := rfl
@[simp] theorem Chip.setIsle_safeTx (c : Chip) (r : Nat) (f : IsleSt → IsleSt) : (c.setIsle r f).safeTx = c.safeTx := rfl
@[simp] theorem Chip.setIsle_emitted (c : Chip) (r : Nat) (f : IsleSt → IsleSt) : (c.setIsle r f).emitted = c.emitted := rfl
@[simp] theorem Chip.setIsle_crossed (c : Chip) (r : Nat) (f : IsleSt → IsleSt) : (c.setIsle r f).crossed = c.crossed := rfl
@[simp] theorem Chip.setIsle_recd (c : Chip) (r : Nat) (f : IsleSt → IsleSt) : (c.setIsle r f).recd = c.recd := rfl
@[simp] theorem Chip.setIsle_sys (c : Chip) (r : Nat) (f : IsleSt → IsleSt) : (c.setIsle r f).sys = c.sys := rfl
@[simp] theorem Chip.setIsle_fab (c : Chip) (r : Nat) (f : IsleSt → IsleSt) : (c.setIsle r f).fab = c.fab := rfl
@[simp] theorem Chip.setIsle_xfer (c : Chip) (r : Nat) (f : IsleSt → IsleSt) : (c.setIsle r f).xfer = c.xfer := rfl
@[simp] theorem Chip.setIsle_aon (c : Chip) (r : Nat) (f : IsleSt → IsleSt) : (c.setIsle r f).aon = c.aon := rfl

@[simp] theorem Chip.setProd_word (c : Chip) (k : Nat) (f : ProdSt → ProdSt) (w : Nat) : (c.setProd k f).word w = c.word w := rfl
@[simp] theorem Chip.setProd_regs (c : Chip) (k : Nat) (f : ProdSt → ProdSt) : (c.setProd k f).regs = c.regs := rfl
@[simp] theorem Chip.setProd_now (c : Chip) (k : Nat) (f : ProdSt → ProdSt) : (c.setProd k f).now = c.now := rfl
@[simp] theorem Chip.setProd_calFs (c : Chip) (k : Nat) (f : ProdSt → ProdSt) : (c.setProd k f).calFs = c.calFs := rfl
@[simp] theorem Chip.setProd_freeCtr (c : Chip) (k : Nat) (f : ProdSt → ProdSt) : (c.setProd k f).freeCtr = c.freeCtr := rfl
@[simp] theorem Chip.setProd_eng (c : Chip) (k : Nat) (f : ProdSt → ProdSt) : (c.setProd k f).eng = c.eng := rfl
@[simp] theorem Chip.setProd_chans (c : Chip) (k : Nat) (f : ProdSt → ProdSt) : (c.setProd k f).chans = c.chans := rfl
@[simp] theorem Chip.setProd_loops (c : Chip) (k : Nat) (f : ProdSt → ProdSt) : (c.setProd k f).loops = c.loops := rfl
@[simp] theorem Chip.setProd_slices (c : Chip) (k : Nat) (f : ProdSt → ProdSt) : (c.setProd k f).slices = c.slices := rfl
@[simp] theorem Chip.setProd_axes (c : Chip) (k : Nat) (f : ProdSt → ProdSt) : (c.setProd k f).axes = c.axes := rfl
@[simp] theorem Chip.setProd_ports (c : Chip) (k : Nat) (f : ProdSt → ProdSt) : (c.setProd k f).ports = c.ports := rfl
@[simp] theorem Chip.setProd_pair (c : Chip) (k : Nat) (f : ProdSt → ProdSt) : (c.setProd k f).pair = c.pair := rfl
@[simp] theorem Chip.setProd_net (c : Chip) (k : Nat) (f : ProdSt → ProdSt) : (c.setProd k f).net = c.net := rfl
@[simp] theorem Chip.setProd_panel (c : Chip) (k : Nat) (f : ProdSt → ProdSt) : (c.setProd k f).panel = c.panel := rfl
@[simp] theorem Chip.setProd_ctrs (c : Chip) (k : Nat) (f : ProdSt → ProdSt) : (c.setProd k f).ctrs = c.ctrs := rfl
@[simp] theorem Chip.setProd_s8At (c : Chip) (k : Nat) (f : ProdSt → ProdSt) : (c.setProd k f).s8At = c.s8At := rfl
@[simp] theorem Chip.setProd_safeTx (c : Chip) (k : Nat) (f : ProdSt → ProdSt) : (c.setProd k f).safeTx = c.safeTx := rfl
@[simp] theorem Chip.setProd_emitted (c : Chip) (k : Nat) (f : ProdSt → ProdSt) : (c.setProd k f).emitted = c.emitted := rfl
@[simp] theorem Chip.setProd_crossed (c : Chip) (k : Nat) (f : ProdSt → ProdSt) : (c.setProd k f).crossed = c.crossed := rfl
@[simp] theorem Chip.setProd_recd (c : Chip) (k : Nat) (f : ProdSt → ProdSt) : (c.setProd k f).recd = c.recd := rfl
@[simp] theorem Chip.setProd_sys (c : Chip) (k : Nat) (f : ProdSt → ProdSt) : (c.setProd k f).sys = c.sys := rfl
@[simp] theorem Chip.setProd_fab (c : Chip) (k : Nat) (f : ProdSt → ProdSt) : (c.setProd k f).fab = c.fab := rfl
@[simp] theorem Chip.setProd_xfer (c : Chip) (k : Nat) (f : ProdSt → ProdSt) : (c.setProd k f).xfer = c.xfer := rfl
@[simp] theorem Chip.setProd_aon (c : Chip) (k : Nat) (f : ProdSt → ProdSt) : (c.setProd k f).aon = c.aon := rfl

@[simp] theorem Chip.setSf_word (c : Chip) (n : Nat) (f : SfSt → SfSt) (w : Nat) : (c.setSf n f).word w = c.word w := rfl
@[simp] theorem Chip.setSf_regs (c : Chip) (n : Nat) (f : SfSt → SfSt) : (c.setSf n f).regs = c.regs := rfl
@[simp] theorem Chip.setSf_now (c : Chip) (n : Nat) (f : SfSt → SfSt) : (c.setSf n f).now = c.now := rfl
@[simp] theorem Chip.setSf_calFs (c : Chip) (n : Nat) (f : SfSt → SfSt) : (c.setSf n f).calFs = c.calFs := rfl
@[simp] theorem Chip.setSf_freeCtr (c : Chip) (n : Nat) (f : SfSt → SfSt) : (c.setSf n f).freeCtr = c.freeCtr := rfl
@[simp] theorem Chip.setSf_eng (c : Chip) (n : Nat) (f : SfSt → SfSt) : (c.setSf n f).eng = c.eng := rfl
@[simp] theorem Chip.setSf_chans (c : Chip) (n : Nat) (f : SfSt → SfSt) : (c.setSf n f).chans = c.chans := rfl
@[simp] theorem Chip.setSf_loops (c : Chip) (n : Nat) (f : SfSt → SfSt) : (c.setSf n f).loops = c.loops := rfl
@[simp] theorem Chip.setSf_slices (c : Chip) (n : Nat) (f : SfSt → SfSt) : (c.setSf n f).slices = c.slices := rfl
@[simp] theorem Chip.setSf_axes (c : Chip) (n : Nat) (f : SfSt → SfSt) : (c.setSf n f).axes = c.axes := rfl
@[simp] theorem Chip.setSf_ports (c : Chip) (n : Nat) (f : SfSt → SfSt) : (c.setSf n f).ports = c.ports := rfl
@[simp] theorem Chip.setSf_pair (c : Chip) (n : Nat) (f : SfSt → SfSt) : (c.setSf n f).pair = c.pair := rfl
@[simp] theorem Chip.setSf_net (c : Chip) (n : Nat) (f : SfSt → SfSt) : (c.setSf n f).net = c.net := rfl
@[simp] theorem Chip.setSf_panel (c : Chip) (n : Nat) (f : SfSt → SfSt) : (c.setSf n f).panel = c.panel := rfl
@[simp] theorem Chip.setSf_ctrs (c : Chip) (n : Nat) (f : SfSt → SfSt) : (c.setSf n f).ctrs = c.ctrs := rfl
@[simp] theorem Chip.setSf_s8At (c : Chip) (n : Nat) (f : SfSt → SfSt) : (c.setSf n f).s8At = c.s8At := rfl
@[simp] theorem Chip.setSf_safeTx (c : Chip) (n : Nat) (f : SfSt → SfSt) : (c.setSf n f).safeTx = c.safeTx := rfl
@[simp] theorem Chip.setSf_emitted (c : Chip) (n : Nat) (f : SfSt → SfSt) : (c.setSf n f).emitted = c.emitted := rfl
@[simp] theorem Chip.setSf_crossed (c : Chip) (n : Nat) (f : SfSt → SfSt) : (c.setSf n f).crossed = c.crossed := rfl
@[simp] theorem Chip.setSf_recd (c : Chip) (n : Nat) (f : SfSt → SfSt) : (c.setSf n f).recd = c.recd := rfl
@[simp] theorem Chip.setSf_sys (c : Chip) (n : Nat) (f : SfSt → SfSt) : (c.setSf n f).sys = c.sys := rfl
@[simp] theorem Chip.setSf_fab (c : Chip) (n : Nat) (f : SfSt → SfSt) : (c.setSf n f).fab = c.fab := rfl
@[simp] theorem Chip.setSf_xfer (c : Chip) (n : Nat) (f : SfSt → SfSt) : (c.setSf n f).xfer = c.xfer := rfl
@[simp] theorem Chip.setSf_aon (c : Chip) (n : Nat) (f : SfSt → SfSt) : (c.setSf n f).aon = c.aon := rfl

@[simp] theorem Chip.setCtr_word (c : Chip) (r j : Nat) (f : CtrOne → CtrOne) (w : Nat) : (c.setCtr r j f).word w = c.word w := rfl
@[simp] theorem Chip.setCtr_regs (c : Chip) (r j : Nat) (f : CtrOne → CtrOne) : (c.setCtr r j f).regs = c.regs := rfl
@[simp] theorem Chip.setCtr_now (c : Chip) (r j : Nat) (f : CtrOne → CtrOne) : (c.setCtr r j f).now = c.now := rfl
@[simp] theorem Chip.setCtr_calFs (c : Chip) (r j : Nat) (f : CtrOne → CtrOne) : (c.setCtr r j f).calFs = c.calFs := rfl
@[simp] theorem Chip.setCtr_freeCtr (c : Chip) (r j : Nat) (f : CtrOne → CtrOne) : (c.setCtr r j f).freeCtr = c.freeCtr := rfl
@[simp] theorem Chip.setCtr_eng (c : Chip) (r j : Nat) (f : CtrOne → CtrOne) : (c.setCtr r j f).eng = c.eng := rfl
@[simp] theorem Chip.setCtr_chans (c : Chip) (r j : Nat) (f : CtrOne → CtrOne) : (c.setCtr r j f).chans = c.chans := rfl
@[simp] theorem Chip.setCtr_loops (c : Chip) (r j : Nat) (f : CtrOne → CtrOne) : (c.setCtr r j f).loops = c.loops := rfl
@[simp] theorem Chip.setCtr_slices (c : Chip) (r j : Nat) (f : CtrOne → CtrOne) : (c.setCtr r j f).slices = c.slices := rfl
@[simp] theorem Chip.setCtr_axes (c : Chip) (r j : Nat) (f : CtrOne → CtrOne) : (c.setCtr r j f).axes = c.axes := rfl
@[simp] theorem Chip.setCtr_safe (c : Chip) (r j : Nat) (f : CtrOne → CtrOne) : (c.setCtr r j f).safe = c.safe := rfl
@[simp] theorem Chip.setCtr_ports (c : Chip) (r j : Nat) (f : CtrOne → CtrOne) : (c.setCtr r j f).ports = c.ports := rfl
@[simp] theorem Chip.setCtr_pair (c : Chip) (r j : Nat) (f : CtrOne → CtrOne) : (c.setCtr r j f).pair = c.pair := rfl
@[simp] theorem Chip.setCtr_net (c : Chip) (r j : Nat) (f : CtrOne → CtrOne) : (c.setCtr r j f).net = c.net := rfl
@[simp] theorem Chip.setCtr_panel (c : Chip) (r j : Nat) (f : CtrOne → CtrOne) : (c.setCtr r j f).panel = c.panel := rfl
@[simp] theorem Chip.setCtr_s8At (c : Chip) (r j : Nat) (f : CtrOne → CtrOne) : (c.setCtr r j f).s8At = c.s8At := rfl
@[simp] theorem Chip.setCtr_safeTx (c : Chip) (r j : Nat) (f : CtrOne → CtrOne) : (c.setCtr r j f).safeTx = c.safeTx := rfl
@[simp] theorem Chip.setCtr_emitted (c : Chip) (r j : Nat) (f : CtrOne → CtrOne) : (c.setCtr r j f).emitted = c.emitted := rfl
@[simp] theorem Chip.setCtr_crossed (c : Chip) (r j : Nat) (f : CtrOne → CtrOne) : (c.setCtr r j f).crossed = c.crossed := rfl
@[simp] theorem Chip.setCtr_recd (c : Chip) (r j : Nat) (f : CtrOne → CtrOne) : (c.setCtr r j f).recd = c.recd := rfl
@[simp] theorem Chip.setCtr_sys (c : Chip) (r j : Nat) (f : CtrOne → CtrOne) : (c.setCtr r j f).sys = c.sys := rfl
@[simp] theorem Chip.setCtr_fab (c : Chip) (r j : Nat) (f : CtrOne → CtrOne) : (c.setCtr r j f).fab = c.fab := rfl
@[simp] theorem Chip.setCtr_xfer (c : Chip) (r j : Nat) (f : CtrOne → CtrOne) : (c.setCtr r j f).xfer = c.xfer := rfl
@[simp] theorem Chip.setCtr_aon (c : Chip) (r j : Nat) (f : CtrOne → CtrOne) : (c.setCtr r j f).aon = c.aon := rfl

/-! ### Read after write -/

/-- Read a word after a write. -/
theorem Chip.word_setWord (c : Chip) (a b : Nat) (v : Word) :
    (c.setWord a v).word b = if b = a then v else c.word b := Sparse.get_set resetWord c.regs a b v

@[simp] theorem Chip.word_setWord_same (c : Chip) (a : Nat) (v : Word) : (c.setWord a v).word a = v := by
  simp [Chip.word_setWord]

theorem Chip.word_setWord_other (c : Chip) {a b : Nat} (v : Word) (h : b ≠ a) : (c.setWord a v).word b = c.word b := by
  simp [Chip.word_setWord, h]

theorem Chip.word_setNat_other (c : Chip) {a b : Nat} (v : Nat) (h : b ≠ a) : (c.setNat a v).word b = c.word b :=
  Chip.word_setWord_other c _ h

theorem Chip.word_putI_other (c : Chip) {a b : Nat} {f : Field} {i : Nat} (v : Nat) (h : a ≠ f.at b i) :
    (c.putI b f i v).word a = c.word a := Chip.word_setWord_other c _ h

theorem Chip.word_put_other (c : Chip) {a b : Nat} {f : Field} (v : Nat) (h : a ≠ f.at b 0) :
    (c.put b f v).word a = c.word a := Chip.word_setWord_other c _ h

/-- Do two fields share no bit, in two groups of two blocks? -/
def Field.apart (f : Field) (b i : Nat) (g : Field) (b' j : Nat) : Prop :=
  g.at b' j ≠ f.at b i ∨ g.hi < f.lo ∨ f.hi < g.lo

/-- A field written reads as the low bits of what was written. -/
theorem Chip.getI_putI_same (c : Chip) (b : Nat) (f : Field) (i v : Nat) (hl : f.lo ≤ f.hi) (hh : f.hi < 32) :
    (c.putI b f i v).getI b f i = v % 2 ^ (f.hi + 1 - f.lo) := by
  simp [Chip.getI, Chip.putI, Field.of, bitsOf_splice_same _ _ hl hh]

/-- A field that shares no bit with the one written is as before. -/
theorem Chip.getI_putI_apart (c : Chip) (b : Nat) (f : Field) (i v b' : Nat) (g : Field) (j : Nat) (hl : f.lo ≤ f.hi)
    (hh : f.hi < 32) (hd : f.apart b i g b' j) : (c.putI b f i v).getI b' g j = c.getI b' g j := by
  simp only [Chip.getI, Chip.putI, Field.of, Chip.word_setWord]
  split
  · next h =>
    rw [bitsOf_splice_other _ _ hl hh (hd.resolve_left (fun n => n h)), h]
  · rfl

theorem Chip.get_put_same (c : Chip) (b : Nat) (f : Field) (v : Nat) (hl : f.lo ≤ f.hi) (hh : f.hi < 32) :
    (c.put b f v).get b f = v % 2 ^ (f.hi + 1 - f.lo) := Chip.getI_putI_same c b f 0 v hl hh

theorem Chip.get_put_apart (c : Chip) (b : Nat) (f : Field) (v b' : Nat) (g : Field) (hl : f.lo ≤ f.hi) (hh : f.hi < 32)
    (hd : f.apart b 0 g b' 0) : (c.put b f v).get b' g = c.get b' g := Chip.getI_putI_apart c b f 0 v b' g 0 hl hh hd

/-- A value that a field holds is below its size. -/
theorem Chip.getI_lt (c : Chip) (b : Nat) (f : Field) (i : Nat) : c.getI b f i < 2 ^ (f.hi + 1 - f.lo) := bitsOf_lt _ _ _

theorem Chip.get_lt (c : Chip) (b : Nat) (f : Field) : c.get b f < 2 ^ (f.hi + 1 - f.lo) := bitsOf_lt _ _ _

/-- Two chips with the same words read every field alike. -/
theorem Chip.getI_congr {c d : Chip} {b : Nat} {f : Field} {i : Nat} (h : d.word (f.at b i) = c.word (f.at b i)) :
    d.getI b f i = c.getI b f i := by simp [Chip.getI, h]

theorem Chip.get_congr {c d : Chip} {b : Nat} {f : Field} (h : d.word (f.at b 0) = c.word (f.at b 0)) :
    d.get b f = c.get b f := Chip.getI_congr h

/-- A clear bit set by adding its weight. -/
theorem testBit_add_two_pow (i : Nat) : ∀ (v j : Nat), v.testBit i = false → (v + 2 ^ i).testBit j = if j = i then true else v.testBit j := by
  induction i with
  | zero =>
    intro v j h
    have h0 : v % 2 = 0 := by simpa using h
    cases j with
    | zero => simp; omega
    | succ j =>
      have : (v + 2 ^ 0) / 2 = v / 2 := by simp; omega
      rw [Nat.testBit_succ, this]; simp [Nat.testBit_succ]
  | succ i ih =>
    intro v j h
    rw [Nat.testBit_succ] at h
    cases j with
    | zero =>
      have : (v + 2 ^ (i + 1)) % 2 = v % 2 := by rw [pow_succ]; omega
      simp [Nat.testBit_zero, this]
    | succ j =>
      have : (v + 2 ^ (i + 1)) / 2 = v / 2 + 2 ^ i := by rw [pow_succ]; omega
      rw [Nat.testBit_succ, this, ih _ _ h]; simp [Nat.testBit_succ]

/-- A set bit cleared by taking its weight away. -/
theorem testBit_sub_two_pow (i : Nat) : ∀ (v j : Nat), v.testBit i = true → (v - 2 ^ i).testBit j = if j = i then false else v.testBit j := by
  induction i with
  | zero =>
    intro v j h
    have h0 : v % 2 = 1 := by simpa using h
    cases j with
    | zero => simp; omega
    | succ j =>
      have : (v - 2 ^ 0) / 2 = v / 2 := by simp; omega
      rw [Nat.testBit_succ, this]; simp [Nat.testBit_succ]
  | succ i ih =>
    intro v j h
    rw [Nat.testBit_succ] at h
    have hge : 2 ^ i ≤ v / 2 := Nat.ge_two_pow_of_testBit h
    cases j with
    | zero =>
      have : (v - 2 ^ (i + 1)) % 2 = v % 2 := by rw [pow_succ]; omega
      simp [Nat.testBit_zero, this]
    | succ j =>
      have : (v - 2 ^ (i + 1)) / 2 = v / 2 - 2 ^ i := by rw [pow_succ]; omega
      rw [Nat.testBit_succ, this, ih _ _ h]; simp [Nat.testBit_succ]

/-- A bit written. -/
theorem testBit_withBit (v i j : Nat) (x : Bool) : (withBit v i x).testBit j = if j = i then x else v.testBit j := by
  unfold withBit
  cases x <;> cases hv : v.testBit i <;> simp only [if_true, if_false, Bool.false_eq_true]
  · split <;> simp_all
  · rw [testBit_sub_two_pow i v j hv]
  · rw [testBit_add_two_pow i v j hv]
  · split <;> simp_all

/-- A bit of a field after it is written. -/
theorem Chip.getBit_putBit (c : Chip) (b : Nat) (f : Field) (i j : Nat) (x : Bool) (hl : f.lo ≤ f.hi) (hh : f.hi < 32)
    (hj : j < f.hi + 1 - f.lo) : (c.putBit b f i x).getBit b f j = if j = i then x else c.getBit b f j := by
  simp only [Chip.getBit, Chip.putBit, Chip.get_put_same c b f _ hl hh, Nat.testBit_mod_two_pow, hj, decide_true,
    Bool.true_and, testBit_withBit]

theorem Chip.putBit_word_other (c : Chip) {a b : Nat} {f : Field} {i : Nat} (x : Bool) (h : a ≠ f.at b 0) :
    (c.putBit b f i x).word a = c.word a := Chip.word_put_other c _ h

end Sys2Proof.Machine
end

