-- ==== Sys2Proof/Laws/Ops.lean ====
section
/-! SUPPORT. The record operation, said once: it changes the recorder's words and the recorder, nothing else. -/

namespace Sys2Proof.Machine

/-- `d` is `c` but for the words of space 0xA and the recorder's volatile part. -/
def Chip.RecOnly (c d : Chip) : Prop :=
  (∃ rg rc, d = { c with regs := rg, recd := rc }) ∧ ∀ a, spaceOf a ≠ 10 → d.word a = c.word a

theorem Chip.RecOnly.rfl (c : Chip) : c.RecOnly c := ⟨⟨c.regs, c.recd, Eq.refl c⟩, fun _ _ => Eq.refl _⟩

theorem Chip.RecOnly.trans {c d e : Chip} (h : c.RecOnly d) (k : d.RecOnly e) : c.RecOnly e := by
  obtain ⟨⟨rg, rc, hd⟩, hw⟩ := h
  obtain ⟨⟨rg', rc', he⟩, hw'⟩ := k
  exact ⟨⟨rg', rc', by rw [he, hd]⟩, fun a ha => (hw' a ha).trans (hw a ha)⟩

/-- A write of a word of space 0xA. -/
theorem Chip.RecOnly.setWord (c : Chip) (a : Nat) (v : Word) (h : spaceOf a = 10) : c.RecOnly (c.setWord a v) :=
  ⟨⟨(c.setWord a v).regs, c.recd, Eq.refl _⟩, fun _ hb => Chip.word_setWord_other c v (fun e => hb (e ▸ h))⟩

theorem Chip.RecOnly.putI (c : Chip) (b : Nat) (f : Field) (i v : Nat) (h : spaceOf (f.at b i) = 10) :
    c.RecOnly (c.putI b f i v) := Chip.RecOnly.setWord c _ _ h

theorem Chip.RecOnly.setRecd (c : Chip) (rc : RecSt) : c.RecOnly { c with recd := rc } :=
  ⟨⟨c.regs, rc, Eq.refl _⟩, fun _ _ => Eq.refl _⟩

theorem Chip.recSync_recOnly (c : Chip) : c.RecOnly c.recSync := by
  unfold Chip.recSync Chip.put
  exact ((Chip.RecOnly.putI _ _ _ _ _ (by decide)).trans (Chip.RecOnly.putI _ _ _ _ _ (by decide))).trans
    (Chip.RecOnly.putI _ _ _ _ _ (by decide))

theorem Chip.enter_recOnly (c : Chip) (source region severity subject : Nat) (pl : List Nat) (late : Bool) :
    c.RecOnly (c.enter source region severity subject pl late) := by
  unfold Chip.enter
  split
  · exact .rfl c
  split
  · exact .rfl c
  split
  · exact Chip.RecOnly.putI _ _ _ _ _ (by decide)
  split
  · exact (Chip.RecOnly.putI c _ _ _ _ (by decide)).trans (Chip.RecOnly.setRecd _ _)
  · simp only []
    refine Chip.RecOnly.trans ?_ (Chip.recSync_recOnly _)
    split
    · unfold Chip.put64
      exact ((Chip.RecOnly.setRecd c _).trans (Chip.RecOnly.putI _ _ _ _ _ (by decide))).trans
        (Chip.RecOnly.putI _ _ _ _ _ (by decide))
    · exact Chip.RecOnly.setRecd c _

/-- A group of a field of the band table stands in space 0xA. -/
theorem band_space (f : Field) (b : Nat) (hb : b < 64) (h1 : f.first < 4096) (h2 : f.stride ≤ 64) :
    spaceOf (f.at bandAt b) = 10 := by
  have : b * f.stride ≤ 63 * 64 := Nat.mul_le_mul (by omega) h2
  simp only [spaceOf, Field.at, bandAt]
  omega

theorem Chip.openBand_recOnly (c : Chip) (t : Nat) : c.RecOnly (c.openBand t) := by
  unfold Chip.openBand
  simp only []
  split
  · next b hb =>
    have hb64 : b < 64 := by
      have := List.mem_of_find?_eq_some hb
      simpa using this
    split
    · refine Chip.RecOnly.trans ?_ (Chip.enter_recOnly _ _ _ _ _ _ _)
      refine Chip.RecOnly.trans ?_ (Chip.recSync_recOnly _)
      exact (((Chip.RecOnly.putI _ _ _ _ _ (band_space _ b hb64 (by decide) (by decide))).trans
        (Chip.RecOnly.putI _ _ _ _ _ (band_space _ b hb64 (by decide) (by decide)))).trans
        (Chip.RecOnly.putI _ _ _ _ _ (band_space _ b hb64 (by decide) (by decide)))).trans
        (Chip.RecOnly.putI _ _ _ _ _ (band_space _ b hb64 (by decide) (by decide)))
    · exact (Chip.RecOnly.putI c _ _ _ _ (by decide)).trans (Chip.enter_recOnly _ _ _ _ _ _ _)
  · exact (Chip.RecOnly.putI c _ _ _ _ (by decide)).trans (Chip.enter_recOnly _ _ _ _ _ _ _)

/-- Everything a record can change. -/
theorem Chip.recordAs_recOnly (c : Chip) (source region severity subject : Nat) (pl : List Nat) (late : Bool) :
    c.RecOnly (c.recordAs source region severity subject pl late) := by
  unfold Chip.recordAs
  simp only []
  split
  · exact (Chip.enter_recOnly _ _ _ _ _ _ _).trans (Chip.openBand_recOnly _ _)
  · exact Chip.enter_recOnly _ _ _ _ _ _ _

theorem Chip.record_recOnly (c : Chip) (source region severity subject : Nat) (bs ws : List Nat) :
    c.RecOnly (c.record source region severity subject bs ws) := Chip.recordAs_recOnly _ _ _ _ _ _ _

/-- A record leaves every word outside space 0xA. -/
theorem Chip.record_word (c : Chip) (source region severity subject : Nat) (bs ws : List Nat) {a : Nat}
    (h : spaceOf a ≠ 10) : (c.record source region severity subject bs ws).word a = c.word a :=
  (Chip.record_recOnly c source region severity subject bs ws).2 a h

theorem Chip.record_getI (c : Chip) (source region severity subject : Nat) (bs ws : List Nat) {b i : Nat} {f : Field}
    (h : spaceOf (f.at b i) ≠ 10) : (c.record source region severity subject bs ws).getI b f i = c.getI b f i :=
  Chip.getI_congr (Chip.record_word c _ _ _ _ _ _ h)

theorem Chip.record_get (c : Chip) (source region severity subject : Nat) (bs ws : List Nat) {b : Nat} {f : Field}
    (h : spaceOf (f.at b 0) ≠ 10) : (c.record source region severity subject bs ws).get b f = c.get b f :=
  Chip.record_getI c _ _ _ _ _ _ h

/-! A record leaves every field beside the recorder and the words. -/

@[simp] theorem Chip.record_now (c : Chip) (source region severity subject : Nat) (bs ws : List Nat) :
    (c.record source region severity subject bs ws).now = c.now := by
  obtain ⟨⟨rg, rc, h⟩, _⟩ := Chip.record_recOnly c source region severity subject bs ws; rw [h]
@[simp] theorem Chip.record_calFs (c : Chip) (source region severity subject : Nat) (bs ws : List Nat) :
    (c.record source region severity subject bs ws).calFs = c.calFs := by
  obtain ⟨⟨rg, rc, h⟩, _⟩ := Chip.record_recOnly c source region severity subject bs ws; rw [h]
@[simp] theorem Chip.record_freeCtr (c : Chip) (source region severity subject : Nat) (bs ws : List Nat) :
    (c.record source region severity subject bs ws).freeCtr = c.freeCtr := by
  obtain ⟨⟨rg, rc, h⟩, _⟩ := Chip.record_recOnly c source region severity subject bs ws; rw [h]
@[simp] theorem Chip.record_eng (c : Chip) (source region severity subject : Nat) (bs ws : List Nat) :
    (c.record source region severity subject bs ws).eng = c.eng := by
  obtain ⟨⟨rg, rc, h⟩, _⟩ := Chip.record_recOnly c source region severity subject bs ws; rw [h]
@[simp] theorem Chip.record_chans (c : Chip) (source region severity subject : Nat) (bs ws : List Nat) :
    (c.record source region severity subject bs ws).chans = c.chans := by
  obtain ⟨⟨rg, rc, h⟩, _⟩ := Chip.record_recOnly c source region severity subject bs ws; rw [h]
@[simp] theorem Chip.record_loops (c : Chip) (source region severity subject : Nat) (bs ws : List Nat) :
    (c.record source region severity subject bs ws).loops = c.loops := by
  obtain ⟨⟨rg, rc, h⟩, _⟩ := Chip.record_recOnly c source region severity subject bs ws; rw [h]
@[simp] theorem Chip.record_slices (c : Chip) (source region severity subject : Nat) (bs ws : List Nat) :
    (c.record source region severity subject bs ws).slices = c.slices := by
  obtain ⟨⟨rg, rc, h⟩, _⟩ := Chip.record_recOnly c source region severity subject bs ws; rw [h]
@[simp] theorem Chip.record_axes (c : Chip) (source region severity subject : Nat) (bs ws : List Nat) :
    (c.record source region severity subject bs ws).axes = c.axes := by
  obtain ⟨⟨rg, rc, h⟩, _⟩ := Chip.record_recOnly c source region severity subject bs ws; rw [h]
@[simp] theorem Chip.record_safe (c : Chip) (source region severity subject : Nat) (bs ws : List Nat) :
    (c.record source region severity subject bs ws).safe = c.safe := by
  obtain ⟨⟨rg, rc, h⟩, _⟩ := Chip.record_recOnly c source region severity subject bs ws; rw [h]
@[simp] theorem Chip.record_ports (c : Chip) (source region severity subject : Nat) (bs ws : List Nat) :
    (c.record source region severity subject bs ws).ports = c.ports := by
  obtain ⟨⟨rg, rc, h⟩, _⟩ := Chip.record_recOnly c source region severity subject bs ws; rw [h]
@[simp] theorem Chip.record_pair (c : Chip) (source region severity subject : Nat) (bs ws : List Nat) :
    (c.record source region severity subject bs ws).pair = c.pair := by
  obtain ⟨⟨rg, rc, h⟩, _⟩ := Chip.record_recOnly c source region severity subject bs ws; rw [h]
@[simp] theorem Chip.record_net (c : Chip) (source region severity subject : Nat) (bs ws : List Nat) :
    (c.record source region severity subject bs ws).net = c.net := by
  obtain ⟨⟨rg, rc, h⟩, _⟩ := Chip.record_recOnly c source region severity subject bs ws; rw [h]
@[simp] theorem Chip.record_panel (c : Chip) (source region severity subject : Nat) (bs ws : List Nat) :
    (c.record source region severity subject bs ws).panel = c.panel := by
  obtain ⟨⟨rg, rc, h⟩, _⟩ := Chip.record_recOnly c source region severity subject bs ws; rw [h]
@[simp] theorem Chip.record_ctrs (c : Chip) (source region severity subject : Nat) (bs ws : List Nat) :
    (c.record source region severity subject bs ws).ctrs = c.ctrs := by
  obtain ⟨⟨rg, rc, h⟩, _⟩ := Chip.record_recOnly c source region severity subject bs ws; rw [h]
@[simp] theorem Chip.record_s8At (c : Chip) (source region severity subject : Nat) (bs ws : List Nat) :
    (c.record source region severity subject bs ws).s8At = c.s8At := by
  obtain ⟨⟨rg, rc, h⟩, _⟩ := Chip.record_recOnly c source region severity subject bs ws; rw [h]
@[simp] theorem Chip.record_safeTx (c : Chip) (source region severity subject : Nat) (bs ws : List Nat) :
    (c.record source region severity subject bs ws).safeTx = c.safeTx := by
  obtain ⟨⟨rg, rc, h⟩, _⟩ := Chip.record_recOnly c source region severity subject bs ws; rw [h]
@[simp] theorem Chip.record_emitted (c : Chip) (source region severity subject : Nat) (bs ws : List Nat) :
    (c.record source region severity subject bs ws).emitted = c.emitted := by
  obtain ⟨⟨rg, rc, h⟩, _⟩ := Chip.record_recOnly c source region severity subject bs ws; rw [h]
@[simp] theorem Chip.record_sys (c : Chip) (source region severity subject : Nat) (bs ws : List Nat) :
    (c.record source region severity subject bs ws).sys = c.sys := by
  obtain ⟨⟨rg, rc, h⟩, _⟩ := Chip.record_recOnly c source region severity subject bs ws; rw [h]
@[simp] theorem Chip.record_fab (c : Chip) (source region severity subject : Nat) (bs ws : List Nat) :
    (c.record source region severity subject bs ws).fab = c.fab := by
  obtain ⟨⟨rg, rc, h⟩, _⟩ := Chip.record_recOnly c source region severity subject bs ws; rw [h]
@[simp] theorem Chip.record_xfer (c : Chip) (source region severity subject : Nat) (bs ws : List Nat) :
    (c.record source region severity subject bs ws).xfer = c.xfer := by
  obtain ⟨⟨rg, rc, h⟩, _⟩ := Chip.record_recOnly c source region severity subject bs ws; rw [h]
@[simp] theorem Chip.record_aon (c : Chip) (source region severity subject : Nat) (bs ws : List Nat) :
    (c.record source region severity subject bs ws).aon = c.aon := by
  obtain ⟨⟨rg, rc, h⟩, _⟩ := Chip.record_recOnly c source region severity subject bs ws; rw [h]

end Sys2Proof.Machine
end

