-- ==== Sys2Proof/Tests/Witness.lean ====
section
/-! SUPPORT. States that meet the hypotheses of the statements: small changes of the state after reset. -/

namespace Sys2Proof.Tests
open Sys2Proof Sys2Proof.Machine

/-- A chip with no commands waiting and no change to what is non-volatile. -/
def ofChip (c : Chip) : State := { State.reset with chip := c }

/-- After reset, 20 s later, in phase p. -/
def inPhase (p : Nat) : Chip := ({ ({} : Chip) with now := 20000000 }).put surveyAt Survey.phase p

/-- In S8 with an image that names every region and a running engine that executes a cycle, alone. -/
def run8 : Chip := (((inPhase 8).put imageAt Image.region_mask 255).put engineAt Engine.state 1).setEng (fun e => { e with phase := 1 })

def wIdle : State := ofChip (inPhase 0)
def wRun : State := ofChip run8

/-- A part of four regions, session 2 open. -/
def wSmall : State := ofChip (((run8.put identAt Ident.fitted 15).putI sessAt Sess.state 2 2).putI sessAt Sess.role 2 2)

/-! ### Fabric -/

def wLinkUp : State := ofChip (((run8.putBit (regionAt 1) Region.link_up 0 true).setPanel (fun p => { p with s2At := some 0 })))
def wLinkFails : State := ofChip (((run8.putBit (regionAt 1) Region.link_up 0 true).setLink 1 0 (fun l => { l with fails := 8 })))
def wBeacons : State := ofChip ((run8.setPanel (fun p => { p with s2At := some 0 })).setFab 1 (fun f =>
  { f with beaconAt := some 100, ackAt := some 200 }))
def wSteward : State := ofChip (((run8.put (stewAt 2) Stew.running 1).setSys (fun y =>
  { y with testing := upd y.testing 3 (fun _ => some (4, false)) })).putBit (regionAt 2) Region.fenced 5 true)

/-- Block 4 of region 2 has failed 10 ms ago. -/
def wFailed : State := ofChip (run8.setFab 2 (fun f => { f with failAt := upd f.failAt 4 (fun _ => some 19990000) }))
def wStewardHalted : State := { wSteward with chip := wSteward.chip.put engineAt Engine.state 0 }
/-- Every link trained. -/
def wRouted : State := ofChip (wBeacons.chip.trainLinks (-1))
/-- Region 3 is in region fence; the others have beacons. -/
def wFenced : State := ofChip (wBeacons.chip.setSys (fun y => { y with fenced := 8 }))

/-! ### Clocks, supplies -/

def wClocks : State := ofChip (((((run8.put (chanAt 17) Chan.mode_now 11).put (chanAt 17) Chan.mode 11).put (regionAt 0) Enc.enc_mode 1).put
  (regionAt 1) Enc.enc_mode 2).setSys (fun y => { y with clkLost := upd (upd y.clkLost 2 (fun _ => 32)) 3 (fun _ => 4) }))
def wSupply : State := ofChip (((run8.put supplyAt Supply.ls_a 1).put supplyAt Supply.ls_high 1).setSys (fun y => { y with
  gs := upd y.gs 2 (fun g => { g with off := true, warning := true }) }))
def wWake : State := ofChip (((inPhase 0).put supplyAt Supply.wake 6).putBit supplyAt Supply.cmp_now 3 true)
/-- The tongs of port 2 are being resynchronised. -/
def wResync : State := ofChip (run8.setSys (fun y => { y with resync := [tongsKey 2 2 9] }))
def wEngineer : State := ofChip ((run8.putI sessAt Sess.state 2 2).putI sessAt Sess.role 2 2)
def wEngineerHolder : State := ofChip (((run8.putI sessAt Sess.state 2 2).putI sessAt Sess.role 2 2).put pairAt Pair.lease_state 2)

/-! ### Start and image -/

/-- n zero bytes. -/
def zeros (n : Nat) : List Nat := List.replicate n 0

/-- The smallest image of two regions, laid out by chapter 05: IDENT, STEWARD with a microcode of one word, an empty REGION
and an empty PROGRAM for each region, and END; unsigned. -/
def testImage : List Nat :=
  [83, 75, 73, 77, 1, 0, 128, 0, 32, 2, 0, 0, 7, 0, 3] ++ zeros 13 ++ [255, 0, 0, 0, 60, 255, 79, 216, 200, 230, 118,
  47, 38, 230, 240, 118, 141, 135, 129, 66, 253, 112, 203, 10, 209, 215, 1, 173, 14, 237, 187, 55, 204, 20, 143, 88]
  ++ zeros 32 ++ [120, 135, 208, 138] ++ zeros 24 ++ [86, 99, 192, 1, 1, 255, 0, 0, 224, 0, 0, 0, 80, 0, 0, 0, 2, 255,
  0, 0, 48, 1, 0, 0, 32, 0, 0, 0, 3, 0, 0, 0, 80, 1, 0, 0, 16, 0, 0, 0, 3, 1, 0, 0, 96, 1, 0, 0, 16, 0, 0, 0, 7, 0, 0,
  0, 112, 1, 0, 0, 32, 0, 0, 0, 7, 1, 0, 0, 144, 1, 0, 0, 32, 0, 0, 0, 127, 255, 0, 0, 176, 1, 0, 0, 16] ++ zeros 15
  ++ [1, 255, 1, 0, 64] ++ zeros 67 ++ [5, 246, 229, 19, 0, 0, 0, 0, 2, 255, 1, 0, 20] ++ zeros 11 ++ [4] ++ zeros 11
  ++ [212, 103, 50, 191, 3, 0, 1, 0, 4] ++ zeros 7 ++ [91, 113, 195, 103, 3, 1, 1, 0, 4] ++ zeros 7 ++ [155, 174, 77,
  166, 7, 0, 1, 0, 16, 0, 0, 0, 1] ++ zeros 15 ++ [35, 163, 95, 203, 0, 0, 0, 0, 7, 1, 1, 0, 16, 0, 0, 0, 1] ++ zeros
  15 ++ [247, 73, 44, 80, 0, 0, 0, 0, 127, 255, 1, 0, 0, 0, 0, 0, 192, 197, 56, 73, 0, 0, 0, 0, 219, 5, 184, 150, 84,
  140, 42, 33, 33, 167, 88, 213, 110, 10, 5, 151, 52, 99, 58, 73, 56, 144, 173, 37, 90, 190, 52, 80, 16, 29, 172, 140]
  ++ zeros 64

/-- A NOR that holds that image in slot 0. -/
def imageFlash : Flash :=
  { State.reset.flash with nor := (testImage.zipIdx.filter (fun e => e.1 != 255)).map (fun e => (e.2, BitVec.ofNat 8 e.1)) }

def wS1 : State := ofChip (inPhase 1)
def wS2 : State := ofChip (inPhase 2)
def wS3 : State := ofChip (inPhase 3)
def wS4 : State := ofChip (inPhase 4)
/-- A slot-select record for slot 0 without fall-back, both slots empty. -/
def wNoImage : State := { wS4 with flash := State.reset.flash.program (selectAt 0) (selectBytes 1 0 false) }
/-- Slot 0 holds an image, and a selection of it is being checked. -/
def wImage : State := { ofChip ((inPhase 4).setXfer (fun x => { x with verifying := 2 })) with flash := imageFlash }
/-- The selection names the empty slot 1 and permits a fall-back to the image in slot 0. -/
def wFallBack : State := { wImage with flash := imageFlash.program (selectAt 0) (selectBytes 1 1 true) }
def wS5 : State := ofChip (inPhase 5)
def wS6 : State := ofChip (inPhase 6)
/-- A module at a pair's position that has not heard its partner, and one in no position with a partner to seek. -/
def wS6Waits : State := ofChip (((inPhase 6).put pairAt Pair.position 1).setSys (fun y => { y with hasPair := true }))
def wS6Ends : State := ofChip ((inPhase 6).setSys (fun y => { y with hasPair := true }))
def wS7 : State := ofChip (inPhase 7)
/-- Channel 3 at 20 mA with a survey or temper that runs on it. -/
def wSurvey : State := ofChip (((run8.put surveyAt Survey.result 1).put surveyAt Survey.target 3).put (chanAt 3) Chan.mode_now 2)
def wTemper : State := { wSurvey with chip := wSurvey.chip.setSys (fun y => { y with svyCmd := 1, svyOff := [40], svyGain := [-30] }) }
/-- The temper before its zero, and between its zero and its gain. -/
def wTemperZero : State := { wSurvey with chip := wSurvey.chip.setSys (fun y => { y with svyCmd := 1 }) }
def wTemperGain : State := { wSurvey with chip := wSurvey.chip.setSys (fun y => { y with svyCmd := 1, svyOff := [40] }) }
def wTemperFar : State := { wSurvey with chip := wSurvey.chip.setSys (fun y => { y with svyCmd := 1, svyOff := [60000], svyGain := [0] }) }
def wSurveyFree : State := ofChip (run8.put (chanAt 3) Chan.mode_now 2)
/-- Session 2 holds a transfer whose chunks are open. -/
def wTransfer : State := ofChip ((((run8.putI sessAt Sess.state 2 2).putI sessAt Sess.role 2 2).put imageAt Image.state 1).setXfer (fun x =>
  { x with owner := some 2 }))
def wTransferOld : State := { wTransfer with chip := { wTransfer.chip with now := 90000000 } }
def wVerified : State := { wTransfer with chip := wTransfer.chip.put imageAt Image.state 2 }
def wErasing : State := { wTransfer with chip := ((wTransfer.chip.put imageAt Image.result 1).put imageAt Image.state 0) }
def wVerifying : State := { wTransfer with chip := wTransfer.chip.setXfer (fun x => { x with verifying := 1 }) }
def wSelecting : State := wImage.readSelect
/-- The slot selected holds no image. -/
def wSelectingNone : State := { wImage with flash := State.reset.flash }
def wWriting : State := { wTransfer with chip := wTransfer.chip.setXfer (fun x => { x with writing := some (0, 1, 1, false, 3) }) }

/-! ### Engine -/

def eng8 (f : EngSt → EngSt) : State := ofChip (run8.setEng f)
/-- One invocation of type code 1 in region 0 at sequence 5. -/
def inv5 : Inv := ⟨0, 1, 5, 0, 1, 0, [⟨0, 0, 0, 0, 0⟩, ⟨0, 0, 0, 0, 0⟩], [⟨0, 0, 0, 0, 0⟩]⟩
def wBoundary : State := eng8 (fun e => { e with phase := 0, queue := [⟨0x130002, 5000, none, none⟩] })
def wLatch : State := eng8 (fun e => { e with phase := 3 })
def mirror0 : MirrorRec :=
  { cycle := 7, latchTick := 19990000, latchCal := 0, prevTime := 1000, imgs := List.replicate 128 ⟨2, 0x3F800000, 1⟩
    stas := [], words := [], reads := [], ring := [], changes := [], outcomes := [], acts := [], stops := [], sfs := [], subs := [], seqs := [], digest := 0 }
def wShadow : State := ofChip (((run8.put pairAt Pair.lease_state 4).put pairAt Pair.position 2).setEng (fun e => { e with phase := 0 }))
def wShadowBoundary : State := { wShadow with chip := wShadow.chip.setPair (fun q => { q with records := [mirror0] }) }
def wShadowLatch : State := { wShadow with chip := (wShadow.chip.setEng (fun e => { e with phase := 3 })).setPair (fun q =>
  { q with records := [mirror0] }) }
def wExecuted : State := eng8 (fun e => { e with prog := [inv5], done := [5] })
def wWrite : State := eng8 (fun e => { e with phase := 2, latchAt := 19990000 })

/-! ### Channels -/

/-- Channel 3 in a mode, otherwise as in run8. -/
def chanIn (m : Nat) (f : ChanSt → ChanSt) : Chip := (((run8.put (chanAt 3) Chan.mode_now m).put (chanAt 3) Chan.mode m).setChan 3 f)
def wSeq1 : State := ofChip ((run8.put (chanAt 3) Chan.mode 1).setChan 3 (fun h => { h with seq := 1 }))
def wSeq2 : State := ofChip (chanIn 1 (fun h => { h with seq := 2 }))
def wSeq2Out : State := ofChip (chanIn 6 (fun h => { h with seq := 2 }))
def wVolts : State := ofChip (chanIn 1 (fun h => { h with yOk := true, y := 0x40000000 }))
def wVoltsDead : State := ofChip (chanIn 1 (fun h => { h with oos := true }))
def wTc : State := ofChip (chanIn 4 (fun h => h))
def wTcBad : State := ofChip (((chanIn 4 (fun h => { h with sensorBad := true })).aOn 3 fOpenSensor))
/-- An AO-I at 10 mA, its bellows at V_max. -/
def aoI (f : ChanSt → ChanSt) : Chip := ((chanIn 6 (fun h => f { h with driven := true })).put (chanAt 3) Chan.command 0x41200000).put
  (chanAt 3) Chan.bellows_mv 26000
def wAoI : State := ofChip (aoI (fun h => h))
def wAoIShort : State := ofChip ((aoI (fun h => { h with short := true })).aOn 3 fComp)
def wAoITherm : State := ofChip ((aoI (fun h => h)).aOn 3 fTherm)
def wAoIExt : State := ofChip ((aoI (fun h => { h with extOff := true })).aOn 3 fExtSrc)
def wDi : State := ofChip (chanIn 7 (fun h => { h with integ := 1 }))
def wMonitored : State := ofChip (chanIn 8 (fun h => h))
def wCnt : State := ofChip ((chanIn 11 (fun h => h)).put (chanAt 3) Dig.cnt_gate 50000)
def wPwm : State := ofChip (((chanIn 9 (fun h => { h with pwmOn := true })).put (chanAt 3) Dig.pwm_period 2000).put (chanAt 3) Chan.command 700)
def wDo : State := ofChip ((chanIn 9 (fun h => { h with closed := true, tripTicks := [1, 19000000, 19500000] })).put (chanAt 3) Dig.open_thr 20)
def wDoOff : State := ofChip (chanIn 9 (fun h => h))
def wDoWait : State := ofChip ((((chanIn 9 (fun h => { h with waiting := true, tripAt := 1000000 })).dOn 3 dOverload).dOn 3 dTherm).put (chanAt 3)
  Dig.retry_ms 500)
def wDoFed : State := ofChip ((chanIn 9 (fun h => h)).dOn 3 dBackFed)
/-- Channel 3 reads a voltage that no switch of it gives since 5 ms ago; the load of channel 5 rose then. -/
def wDoCross : State := ofChip ((wDoOff.chip.setChan 3 (fun h => { h with highAt := some 19995000, notAt := [(.high, 19980000)] })).setChan 5 (fun h =>
  { h with closed := true, loads := [(19995500, 500), (19994000, 0)] }) |>.put (chanAt 5) Chan.mode_now 9)
def wDoOpen : State := ofChip (((chanIn 9 (fun h => { h with closed := true })).dOn 3 dOpenLoad).put (chanAt 3) Dig.open_thr 20)
/-- The module as one of a pair with the partner present, channel 3 shared. -/
def sharedOf (c : Chip) : Chip := ((((c.setSys (fun y => { y with hasPair := true })).setWord (pairAt + 0x10) 0xC0).put pairAt Pair.position 1).put pairAt
  Pair.partner 1).put pairAt Pair.lease_state 2
def wDoShared : State := ofChip (sharedOf wDoOff.chip)
def wAoIShared : State := ofChip (sharedOf wAoI.chip)
def wAoIRamp : State := ofChip (sharedOf (aoI (fun h => { h with ramp := 1 })))

/-! ### Loops -/

/-- Loop 5 in use with a period of 1 ms. -/
def loops8 : Chip := ((run8.put (loopAt 5) Loop.enabled 1).put (loopAt 5) Loop.period 1000).setSlice 0 (fun h => { h with stopped := false })
def res5 (n : Nat) : LoopRes :=
  { loop := n, instant := 19000000, began := 19000010, state := 2, pv := 100, sp := 200, err := 100, out := 300, integ := 0
    sect := List.replicate 8 (0, 0), nsec := 0, man := 0, took := none, flags := 0, pvBad := false, spBad := false, limMm := false
    cleared := false, mirrored := false }
def wLoop : State := ofChip loops8
def wLoopBusy : State := ofChip (loops8.setSlice 0 (fun h => { h with running := some (res5 6) }))
def wLoopMiss : State := ofChip (((loops8.setSlice 0 (fun h => { h with running := some (res5 6) }))).setLoop 5 (fun h => { h with job := some 19000000 }))
def wLoopDone : State := ofChip ((loops8.setSlice 0 (fun h => { h with running := some (res5 5) })).setLoop 5 (fun h => { h with job := some 19000000 }))

/-! ### Axes -/

/-- Axis 3 energised at standstill. -/
def axis8 (f : AxSt → AxSt) : Chip := (run8.put (axisAt 3) Axis.enabled 1).setAx 3 (fun h => f { h with causes := 0, holding := false })
def wAxis : State := ofChip ((axis8 (fun h => h)).put (axisAt 3) Axis.i_hold 500)
def wAxisMoves : State := ofChip (((axis8 (fun h => { h with motion := .goto 100000 false 0, mode := 2, v := 65536000, prof :=
  ⟨100, 100, 500, 20000, 50000, 50000, 50000, 50000⟩ })).put (axisAt 3) Axis.lim_pos 16).put (axisAt 3) Axis.lim_neg 16)
def wAxisFault : State := ofChip ((axis8 (fun h => { h with fault := 2 })).put (axisAt 3) Axis.ia_ma 4000)
def wAxisFaultGone : State := ofChip (axis8 (fun h => { h with fault := 2 }))
/-- Its stage is off by a command, and its bridge is hot. -/
def wAxisHot : State := ofChip ((axis8 (fun h => { h with fault := 2 })).put (axisAt 3) Axis.bridge_tj 2500)

/-! ### Safety -/

/-- A two-channel function of regions 0 and 1 with inputs 0 and 1, reset at 2, its output at 3 of the even region. -/
def fn1 : FnCfg :=
  { sf := 1, kind := 3, flags := 0, owner := 0, inA := 0, inB := 1, rst := 2, outCc := 3, outHs := 0, tF := 2, tDisc := 50
    tClear := 0, tTest := 10, cutEven := 0x10030, cutOdd := 0x21, connSrc := 5, srcBit := 0, connOut := 0xFF, outBit := 0 }
def conn5 : ConnCfg := ⟨5, false, true, 0, 77, 9, 4, 0, 100, 50, 0⟩
/-- Both slices of the pair run that function, in a state. -/
def isles (st : Nat) (f : SafeSt → SafeSt) : Chip :=
  let c := ((((run8.put (isleAt 0) Isle.running 1).put (isleAt 1) Isle.running 1).putI (isleAt 0) Isle.state 1 st).putI (isleAt 1) Isle.state 1 st)
  { c with safe := f { c.safe with fns := [fn1], conns := [conn5], slices := upd c.safe.slices 0 (fun h =>
    { h with ins := [{ g := 0, level := true, count := 1, sampledAt := 19999875 }, { g := 1, level := false }] }) } }
def slice0 (f : IsleSt → IsleSt) (y : SafeSt) : SafeSt := { y with slices := upd y.slices 0 f }
def msg1 (st : Nat) : SliceMsg := ⟨[], [0, st, 0, 0, 0, 0, 0, 0], 40, false⟩
def mateMsg (st d : Nat) (y : SafeSt) : SafeSt := { y with slices := upd (upd y.slices 0 (fun h => { h with differ := d })) 1 (fun h =>
  { h with out := some (msg1 st) }) }
def wIsle : State := ofChip (isles 4 id)
def wIsleFresh : State := ofChip (isles 4 (slice0 (fun h => { h with fresh := true, msg := some (msg1 4) })))
def wIsleAgrees : State := ofChip (isles 4 (mateMsg 4 0))
def wIsleDiffers : State := ofChip (isles 4 (mateMsg 2 2))
/-- Slice 1's message, its count, and what slice 0 has noted of their difference. -/
def wIsleClock (cycles : Nat) (d : Int) : State :=
  ofChip (isles 4 (fun y =>
    slice0 (fun h => { h with drift := [(0, d)] }) { y with slices := upd y.slices 1 (fun h => { h with
      out := some ⟨[], [0, 4, 0, 0, 0, 0, 0, 0], cycles, false⟩ }) }))
def wIsleBehind : State := wIsleClock (2 ^ 32 - 1) 0
def wIsleDrifts : State := wIsleClock 2 0
/-- 500 µs after the start of slice 0's cycle, whose outputs are not set and whose message is not sent. -/
def wIsleDue : State := ofChip (isles 4 (slice0 (fun h => { h with cycleAt := 19999500, outDone := false, msgDone := false, fresh := true })))
def wIsleTrips : State := ofChip (isles 2 (slice0 (fun h => { h with fns := upd h.fns 1 (fun x => { x with discA := some 0 }) })))
def wIsleTest : State := ofChip (isles 4 (fun y => { y with sfs := upd y.sfs 1 (fun h => { h with test := some (false, 3, 0) }) }))
def wIsleTest2 : State := ofChip (isles 3 (fun y => { y with sfs := upd y.sfs 1 (fun h => { h with test := some (true, 2, 0) }) }))
def wIsleSink : State := ofChip (isles 4 (fun y => { y with sfs := upd y.sfs 1 (fun h => { h with sinkDue := true }) }))
def wIsleStart : State := ofChip ((((run8.put (isleAt 0) Isle.result 1).put (isleAt 1) Isle.result 1).setSys (fun y => { y with fenced := 4 })).put
  (isleAt 2) Isle.result 1 |>.put (isleAt 3) Isle.result 1)
def wSafetyEngineer : State := ofChip (((isles 4 id).putI sessAt Sess.state 2 2).putI sessAt Sess.role 2 3)
def wConnFault : State := ofChip (isles 4 (slice0 (fun h => { h with conns := upd h.conns 5 (fun x => { x with passed := 2 }) })))

/-! ### Ports -/

/-- Port 3 on the bus. -/
def port8 (f : PortSt → PortSt) : Chip := (((run8.put (portAt 3) Port.enable 1).put (portAt 3) Port.off_reason 0).put (portAt 3) Port.state 0).setPort 3 f
def frame7 : CanFrame := { id := 0x120, ide := false, fd := false, brs := false, data := [1, 2, 3, 4] }
def req7 : SendReq := ⟨[1, 2, 3, 4], [1, 2, 3, 4]⟩
def matrix2 : Matrix := ⟨2, 3, true, 1, 0x101, [200, 500, 500], [3, 0, 1, 7, 2, 0, 3, 0, 2, 0, 2, 0]⟩
def sta9 : PortSta := { station := 9, pseq := false, fd := false, stale := 100, timeout := 200, refresh := 50, ins := [⟨0x200, false, 0, 4, none, none, none, none⟩]
                        outs := [⟨0x210, false, 0, 4, none, none, none, none⟩], outSent := some [] }
def wPort : State := ofChip (port8 (fun p => { p with stas := [sta9] }))
def wPortFd : State := ofChip (((port8 id).put (portAt 3) Port.fd_en 1).put (portAt 3) Port.rec 40)
def wPortWaits : State := ofChip (port8 (fun p => { p with objs := upd p.objs 7 (fun o => { o with pend := some req7 }) }))
/-- The frame that waits in wPortWaits is under way. -/
def wPortUnderWay : State := ofChip (port8 (fun p => { p with tx := some (.object 7, { id := 0, ide := false, fd := false, brs := false, data := [1, 2, 3, 4] }) }))
def wPortSends : State := ofChip ((port8 (fun p => { p with tx := some (.object 7, frame7), objs := upd p.objs 7 (fun o =>
  { o with begun := some req7 }) })).put (portAt 3) Port.tec 9)
/-- Port 3 has ended an attempt and sends its error flag. -/
def wPortFlag : State := ofChip (port8 (fun p => { p with flagUp := true }))
def wPortPassive : State := { wPortSends with chip := (wPortSends.chip.put (portAt 3) Port.tec 250).put (portAt 3) Port.state 1 }
def wPortOff : State := ofChip (((port8 id).put (portAt 3) Port.state 2))
def wPortCaused : State := ofChip ((port8 id).put (portAt 3) Port.enable 0)
def wPortLeft : State := ofChip ((run8.put (portAt 3) Port.enable 1).put (portAt 3) Port.off_reason 2)
def wPortRejoins : State := ofChip (((run8.put (portAt 3) Port.enable 1).put (portAt 3) Port.off_reason 7).put (portAt 3) Port.result 1)
def wPortTimed : State := ofChip (port8 (fun p => { p with stas := [sta9], objs := upd p.objs 7 (fun o => { o with perAt := some 5, period := 20 }) }))
def wPortSched : State := ofChip ((port8 (fun p => { p with matrix := some matrix2 })).put (portAt 3) Port.sched 1)
def wPortSeen : State := ofChip ((port8 (fun p => { p with matrix := some matrix2, refSeen := true })).put (portAt 3) Port.sched 1)

/-! ### The pair -/

/-- The module as position 1 of a pair whose partner is present, in a lease state; both lanes carry frames. -/
def pair8 (lease : Nat) (f : PairSt → PairSt) : Chip :=
  (((((run8.setSys (fun y => { y with hasPair := true })).put pairAt Pair.position 1).put pairAt Pair.partner 1).put pairAt
    Pair.lease_state lease).putI sessAt Sess.state 2 2 |>.putI sessAt Sess.role 2 2).setPair (fun q =>
    f { q with laneAt := [19999000, 19999000], partnerAt := 19999000 })
def wPair : State := ofChip (pair8 2 id)
def wPairObserver : State := { wPair with chip := wPair.chip.putI sessAt Sess.role 2 0 }
def wPairRole (role : Nat) : State := { wPair with chip := wPair.chip.putI sessAt Sess.role 2 role }
def wPair2 : State := ofChip (((pair8 2 id).put pairAt Pair.position 2).put pairAt Pair.lease_epoch 5)
def wPairSync : State := ofChip (((((pair8 2 id).put pairAt Pair.partner_state 4).put pairAt Pair.lane_a 1).put pairAt Pair.lane_b 1))
def wPairAlone : State := ofChip ((pair8 5 id).put pairAt Pair.partner_state 7)
def wPairLost : State := ofChip (pair8 2 (fun q => { q with laneAt := [0, 0], partnerAt := 0 }))
def wPairShadow : State := ofChip (pair8 4 (fun q => { q with records := [mirror0] }))
def wPairFull : State := ofChip (pair8 4 (fun q => { q with records := List.replicate 8 mirror0 }))
def wPairRejoins : State := ofChip (pair8 3 id)
def wPairStandby : State := ofChip (pair8 7 id)
def wPairExpired : State := ofChip ((pair8 6 id).put pairAt Pair.partner 0)
def wLaneSilent : State := ofChip (pair8 2 (fun q => { q with laneAt := [0, 19999000] }))
def wLaneBack : State := ofChip (pair8 2 (fun q => { q with laneBad := [true, false] }))
def inPhasePair (p : Nat) (f : Chip → Chip) : State := ofChip (f ((((inPhase p).setSys (fun y => { y with hasPair := true })).put pairAt Pair.position 1).setPair
  (fun q => { q with laneAt := [19999000, 19999000] })))
def wPresence : State := inPhasePair 4 (fun c => c.setPanel (fun p => { p with s2At := some 0 }))
def wNegotiates : State := inPhasePair 6 id
def wMisplaced : State := inPhasePair 6 (fun c => c.put pairAt Pair.position 0)
def wPlug2 : State := inPhasePair 2 id
def wPlug : State := ofChip (pair8 2 (fun q => { q with plugAt := 1000, plugSeen := [1] }))
/-- A halted partner stands by. -/
def wPairAloneHalted : State := { wPairAlone with chip := wPairAlone.chip.setPair (fun q => { q with partnerHalted := true }) }

/-! ### Stations, calendar, sessions -/

/-- Station port NA up with address 7; session 2 open with a role. -/
def net8 (role : Nat) (f : NetSt → NetSt) : Chip :=
  let c := (((((run8.put slinkAt SLink.na_speed 2).put slinkAt SLink.ip_now 7).putI sessAt Sess.state 2 2).putI sessAt Sess.role 2 role).putI
    sessAt Sess.sid 2 300)
  { c with net := f c.net, panel := { c.panel with s2At := some 0 } }
/-- A publication of partner 9, station number 9, publication 4, sequence 1: the layout of R446. -/
def pubBytes : List Nat :=
  let b := [0x53, 0x4B, 0x53, 0x44, 1, 0, 4, 0] ++ leBytes 4 9 ++ leBytes 2 1 ++ leBytes 2 64 ++ zeros 12 ++ List.replicate 64 5
  b ++ leBytes 4 (crc32 b)
/-- The mac a request of session 2 carries. -/
def goodMac (typ seq rid : Nat) (body : List Nat) : List Byte := ((net8 2 id).macOf 2 typ seq rid body).map (BitVec.ofNat 8)
def wNet : State := ofChip ((net8 2 (fun n => { n with window := [(5, 100, 0, 19900000)], pubs := [{ pub := 4, data := [1, 2], due := true }] })).putI
  partnerAt Partner.station 3 9)
def wNetDown : State := ofChip run8
def wPtp : State := ofChip (((net8 2 (fun n => { n with ptp := [{ master := some [0, 0, 0, 0, 0, 0, 1, 2], reqNs := some 4000, utc := 37 }, {}] })).put
  calAt Cal.ptp_en 1).put calAt Cal.ptp_port 1)
def wPtpOther : State := { wPtp with chip := wPtp.chip.put calAt Cal.ptp_port 2 }
/-- The calendar at the second that a Sync of the tests names. -/
def wPtpNear : State := { wPtp with chip := { wPtp.chip with calFs := 1000 * 10 ^ 15 } }
def wPtpNone : State := ofChip ((net8 2 id).put calAt Cal.ptp_en 1)
def wLeap61 : State := ofChip { net8 2 (fun n => { n with leap := 1 }) with calFs := 86400 * 10 ^ 15 }
def wLeap59 : State := ofChip { net8 2 (fun n => { n with leap := 2 }) with calFs := 86399 * 10 ^ 15 }
def wKeyed : State := { ofChip (net8 2 id) with flash := { State.reset.flash with roleKeys := List.replicate 4 (.set (zeros 32)) } }
def wUnproved : State := ofChip ((net8 2 id).putI sessAt Sess.state 2 1)
def wProved : State := ofChip (net8 2 (fun n => { n with locks := [(5, 1000), (6, 30000000)] }))
def wAnswered : State := ofChip (net8 2 (fun n => { n with sess := upd n.sess 2 (fun h => { h with seq := 1, cache := [(1, [1, 2, 3])] }) }))
def wNinth : State := ofChip (net8 2 (fun n => { n with sess := upd n.sess 2 (fun h => { h with pend := List.replicate 8 ⟨0, 0, 0, []⟩ }) }))
def wOldSession : State := { ofChip (net8 2 id) with chip := { net8 2 id with now := 40000000 } }
def wObserver : State := ofChip (net8 0 id)
def wOfficer : State := ofChip (net8 3 id)
def wOfficerKeys : State := { wOfficer with flash := { State.reset.flash with keys := [(1, [7]), (0, []), (2, [7]), (0, [])] } }
/-- Its session has sent a request, and slot 2 is active. -/
def wOfficerNext (n : Nat) : State := { ofChip (net8 3 (fun t => { t with sess := upd t.sess 2 (fun h => { h with seq := n - 1 }) })) with
  flash := { State.reset.flash with keys := [(1, [7]), (0, []), (1, [7]), (2, [7])] } }
def wOfficer2 : State := wOfficerNext 2
def wOfficer3 : State := wOfficerNext 3
def wOfficerRevoked : State := { wOfficer2 with flash := wOfficerKeys.flash }
/-- The module before S8. -/
def wRestricted : State := ofChip ((net8 2 id).put surveyAt Survey.phase 7)
def wForced : State := ofChip ((net8 2 (fun n => { n with sess := upd n.sess 2 (fun h => { h with seq := 4 }) })).setNat (forceEntry 5) 0x01000000)
/-- Session 2 has sent 299 requests. -/
def wSeq300 : State := ofChip (net8 2 (fun n => { n with sess := upd n.sess 2 (fun h => { h with seq := 299 }) }))
/-- Port 4 has a remote station 4 with 8 bytes in; session 2 has sent three requests. -/
def wForceable : State := ofChip ((net8 2 (fun n => { n with sess := upd n.sess 2 (fun h => { h with seq := 3 }) })).setPort 4 (fun p => { p with
  stas := [{ sta9 with station := 4, ins := [⟨0x200, false, 0, 8, none, none, none, none⟩] }] }))
def wChunks : State := ofChip (((net8 2 id).put imageAt Image.state 1).setXfer (fun x => { x with owner := some 2 }))
def wChunks1 : State := { wChunks with chip := wChunks.chip.put imageAt Image.bytes_written 1 }
def wLocked : State := ofChip (net8 2 (fun n => { n with locked := true }))
def wPairHolder : State := ofChip (((net8 2 id).put pairAt Pair.lease_state 2).put pairAt Pair.partner_state 4)

/-! ### Recorder, panel, counters -/

def rec5 (n : Nat) : EvRec := ⟨some n, 0, 7, 5, 1, 2, 1, 3, zeros 32⟩
/-- A mounted recorder with two records in its buffer and a stripe for them. -/
def rec8 (f : RecSt → RecSt) : Chip :=
  let c := (net8 2 id).put recdAt Recd.state 1
  { c with recd := f { c.recd with mounted := true, nextSeq := 42, buffer := [rec5 40, rec5 41] } }
def wRec : State := { ofChip (rec8 id) with flash := { State.reset.flash with map := [(0, 2)], next := 40 } }
def wRec1 : State := { wRec with chip := rec8 (fun r => { r with buffer := [rec5 40] }) }
def wRecMasked : State := { wRec with chip := ((rec8 id).putI recdAt Recd.src_mask 0 0).putI recdAt Recd.src_mask 1 0 }
def wRecFull : State := { wRec with chip := rec8 (fun r => { r with buffer := List.replicate 65536 (rec5 0) }) }
def wRecWaits : State := ofChip (rec8 (fun r => { r with pairWait := [41] }))
/-- The own record is 1 ms old. -/
def wRecWaitsNew : State := ofChip (rec8 (fun r => { r with buffer := [{ rec5 41 with tick := 19999000 }], pairWait := [41] }))
def wErasingStripe : State := { wRec with flash := { wRec.flash with erasing := some 5 } }
def wErasingEmpty : State := { wRec with flash := { State.reset.flash with erasing := some 5 } }
def wBand : State := ofChip (((net8 2 id).putI bandAt Band.b_state 3 2).putI bandAt Band.trip_lo 3 70000)
def wWindow : State := { wRec with chip := ((rec8 id).put (winAt 1) Win.state 1).put (winAt 1) Win.sid 300 }
def wWindowIdle : State := { wWindow with chip := { wWindow.chip with now := 70000000 } }
def use1 : PanelUse := ⟨1, 320, 240, 6000, 80, 20, 10, 40, 4, 6, 0⟩
def use2 : PanelUse := { use1 with kind := 2 }
def pic1 : Picture := ⟨none, 1, [], 0, false⟩
/-- A panel of a kind in a state, PNL_EN on, the status page due since S2 ended. -/
def panel8 (u : PanelUse) (st : Nat) (f : PanelSt → PanelSt) : Chip :=
  (((run8.put panelAt Panel.state st).put panelAt Panel.up (b2n (st = 2))).put panelAt Panel.rails_ok 1).setPanel (fun p => f { p with
    use := some u, pnlEn := true, s2At := some 0, wave := [0] })
/-- The ID memory of a display of 320 × 240 dots with a clock of up to 20 MHz (R477). -/
def panelMem : List Byte :=
  let b := leBytes 4 0x10000005 ++ leBytes 2 320 ++ leBytes 2 240 ++ leBytes 4 20000 ++ zeros 112
  (b ++ leBytes 4 (crc32 b)).map (BitVec.ofNat 8)
/-- The running image gives the timing of the display. -/
def wPanelUsed : State :=
  let put (c : Chip) (e : Field × Nat) : Chip := c.put panelAt e.1 e.2
  ofChip (([(Panel.kind, 1), (Panel.h_active, 320), (Panel.v_active, 240), (Panel.pclk, 6000), (Panel.h_front, 10), (Panel.h_sync, 40),
    (Panel.h_back, 30), (Panel.v_front, 4), (Panel.v_sync, 6), (Panel.v_back, 10)].foldl put run8).setPanel (fun p =>
    { p with want := true, s2At := some 0, use := some use1 }))
def wPanelWant : State := ofChip (run8.setPanel (fun p => { p with want := true, s2At := some 0 }))
def wPanelWantLoser : State := ofChip ((run8.setPanel (fun p => { p with want := true, s2At := some 0 })).put pairAt Pair.lease_state 4)
def wPanelOff : State := ofChip (panel8 use1 1 (fun p => { p with pnlEn := false }))
def wPanelRails : State := ofChip (panel8 use2 7 id)
def wPanelClears : State := ofChip ((panel8 use2 4 id).put panelAt Panel.dirty 1)
def wPanelQuenched : State := ofChip (panel8 use1 3 (fun p => { p with lastQuench := 2 }))
def wDisplay : State := ofChip (panel8 use1 2 (fun p => { p with sensor := true, codeUntil := some 5, blink := upd p.blink 2 (fun _ => ⟨true, 1000, 50⟩) }))
def wPaper : State := ofChip (panel8 use2 2 id)
def wPaperUpdates : State := ofChip (panel8 { use2 with h := 8, v := 2 } 2 (fun p => { p with target := some pic1 }))
def wPanelLoser : State := ofChip ((panel8 use1 2 id).put pairAt Pair.lease_state 4)
/-- Rail 1 is nominally 15 V. -/
def wPaperRails : State := ofChip (panel8 use2 2 (fun p => { p with rails := [15000, -15000] }))
def wPanelGrounded : State := ofChip (panel8 use2 2 (fun p => { p with quench := some 7, pnlEn := false }))
def wPanelQuenches : State := ofChip (panel8 use2 2 (fun p => { p with quench := some 7 }))
/-- Counter 2 of region 1 counts class 3 and stands at all ones. -/
def ctr8 (f : CtrOne → CtrOne) : Chip :=
  let c := ((((run8.putI (ctrAt 1) Ctr.enable 2 1).putI (ctrAt 1) Ctr.cls 2 3).putI (ctrAt 1) Ctr.value 2 (2 ^ 32 - 1)).putI (ctrAt 1) Ctr.ovf_event 2 1).putI
    (ctrAt 1) Ctr.preload 2 77
  { c with ctrs := upd c.ctrs 1 (fun h => { h with ones := upd h.ones 2 f }) }
def wCtr : State := ofChip (ctr8 (fun o => { o with acc := 9 }))
def wCtrOver : State := ofChip (ctr8 (fun o => { o with overAt := some 5, sample := some 100 }))
def wCtrAgain : State := ofChip (ctr8 (fun o => { o with overAt := some 5, sample := some 100, recAt := some 19999500 }))

end Sys2Proof.Tests
end

