-- ==== Sys2Proof/Tests/Meets.lean ====
section
/-! SUPPORT. For every statement with hypotheses, a theorem that shows a concrete state and operands that meet them: of each clause, all
its hypotheses together, at the state its line names (Tests/Witness.lean). -/

namespace Sys2Proof.Tests
open Sys2Proof Sys2Proof.Machine
set_option Elab.async false

/-! ### The blocks: every block type has an invocation that is ready -/

/-- An invocation of a type code in region 0 at sequence 5 with unbound inputs and outputs. -/
def blkInv (code ni no : Nat) : Inv :=
  let i : Inv := ⟨0, code, 5, 0, 0, 0, List.replicate ni ⟨0, 0, 0, 0, 0⟩, List.replicate no ⟨0, 0, 0, 0, 0⟩⟩
  { i with len := i.sig.words }

/-- In S8, an executing engine with that invocation, its first parameter words given. -/
def blkState (code ni no : Nat) (ps : List Nat) : State :=
  ofChip ((ps.zipIdx.foldl (fun c e => c.setNat (instAt 0 e.2) e.1) run8).setEng (fun e => { e with prog := [blkInv code ni no] }))

/-- What a block's evaluation sees of that invocation. -/
def blkCtx (code ni no : Nat) (ps : List Nat) : Ctx := (blkState code ni no ps).chip.ctx (blkInv code ni no) ((blkOf code).elim 0 (·.2))

/-- Is that invocation, of the block type b, ready? -/
def readyNow (b : Blk) (code ni no : Nat) (ps : List Nat) : Bool :=
  let s := (blkState code ni no ps).chip
  let i := blkInv code ni no
  s.inv 5 == some i && s.mayRun i b == some ((blkOf code).elim 0 (·.2)) && sigOf code ni no == some i.sig && decide (i.sig.words ≤ 1000)

theorem ready_of_readyNow {b : Blk} {code ni no : Nat} {ps : List Nat} (h : readyNow b code ni no ps = true) :
    Ready (blkState code ni no ps) b 5 (blkInv code ni no) ((blkOf code).elim 0 (·.2)) := by
  simp only [readyNow, Bool.and_eq_true, beq_iff_eq, decide_eq_true_eq] at h
  obtain ⟨⟨⟨h1, h2⟩, h3⟩, h4⟩ := h
  exact ⟨h1, h2, by simpa [blkInv] using h3, by simp [blkInv], by simp [blkInv] at *; omega⟩

/-- Every block type with one of its codes and its least numbers of inputs and outputs. -/
def blocks : List (Blk × Nat × Nat × Nat) :=
   [(.and, 1, 2, 1), (.or, 2, 2, 1), (.xor, 3, 2, 1), (.not, 4, 1, 1), (.wand, 8, 2, 1), (.wor, 9, 2, 1), (.wxor, 10, 2, 1), (.wnot, 11, 1, 1),
    (.shift, 12, 2, 1), (.bit, 13, 2, 2), (.pack, 14, 1, 1), (.unpack, 15, 1, 1), (.eq, 65, 2, 1), (.ne, 73, 2, 1), (.gt, 81, 2, 1),
    (.ge, 89, 2, 1), (.lt, 97, 2, 1), (.le, 105, 2, 1), (.cmph, 116, 3, 2), (.add, 129, 2, 2), (.sub, 137, 2, 2), (.mul, 145, 2, 2),
    (.div, 153, 2, 2), (.mod, 161, 2, 2), (.abs, 169, 1, 2), (.neg, 177, 1, 2), (.min, 185, 2, 2), (.max, 193, 2, 2), (.sqrt, 208, 1, 2),
    (.ln, 209, 1, 2), (.exp, 210, 1, 2), (.pow, 211, 2, 2), (.poly, 212, 1, 2), (.sel, 256, 3, 1), (.mux, 264, 3, 2), (.limit, 273, 3, 3),
    (.move, 280, 2, 1), (.lag, 384, 2, 1), (.rate, 385, 1, 1), (.integ, 386, 5, 3), (.ramp, 387, 4, 3), (.ton, 512, 2, 2), (.tof, 513, 2, 2),
    (.tp, 514, 2, 2), (.rto, 515, 3, 2), (.pgen, 516, 3, 1), (.ctu, 544, 3, 2), (.ctd, 545, 3, 2), (.ctud, 546, 7, 4), (.cntd, 547, 2, 3),
    (.rTrig, 576, 1, 1), (.fTrig, 577, 1, 1), (.sr, 578, 2, 1), (.rs, 579, 2, 1), (.estamp, 580, 1, 3), (.toggle, 581, 1, 1),
    (.debnc, 582, 3, 1), (.scale, 768, 6, 4), (.scaleq, 769, 7, 3), (.lintab, 770, 1, 3), (.conv, 906, 1, 2), (.castUr, 960, 1, 1),
    (.castRu, 961, 1, 1), (.castUi, 962, 1, 1), (.castIu, 963, 1, 1), (.stsplit, 976, 1, 8), (.stmerge, 977, 2, 1), (.calsplit, 984, 1, 7),
    (.chgrp, 1024, 1, 32), (.loopsup, 1280, 4, 5), (.alm, 1288, 4, 3), (.bumpsw, 1296, 4, 2), (.axmove, 1536, 3, 4), (.axhome, 1537, 2, 4),
    (.axstop, 1538, 2, 4), (.axgear, 1539, 1, 3), (.axstat, 1540, 0, 7), (.canfilt, 1792, 1, 3), (.canobj, 1793, 0, 20), (.cansend, 1794, 2, 3),
    (.portst, 1795, 0, 5), (.portrst, 1796, 1, 2), (.pub, 2048, 1, 1), (.sub_, 2049, 0, 18), (.evraise, 2304, 1, 1), (.pfield, 2560, 3, 0),
    (.pblink, 2561, 2, 1), (.ppage, 2562, 1, 2), (.pstat, 2563, 0, 3), (.pairst, 2816, 0, 5), (.sfst, 2817, 0, 4), (.parwr, 3072, 2, 4),
    (.parrd, 3073, 0, 2), (.perf, 3080, 0, 3)]

/-- Every block type has a ready invocation: the hypothesis of each statement about blocks. -/
theorem meets_blocks : ∀ b : Blk, ∃ code ni no t, Ready (blkState code ni no []) b 5 (blkInv code ni no) t := by
  have h : ∀ x ∈ blocks, readyNow x.1 x.2.1 x.2.2.1 x.2.2.2 [] = true := by decide +kernel
  have hb : ∀ b : Blk, b ∈ blocks.map (·.1) := by intro b; cases b <;> decide
  intro b
  obtain ⟨⟨b', code, ni, no⟩, hx, rfl⟩ := List.mem_map.1 (hb b)
  exact ⟨code, ni, no, _, ready_of_readyNow (h _ hx)⟩

/-- LINTAB with two points, PERF of region 0 at index 0 and at index 8, CANSEND at port 0: their further conditions. -/
theorem meets_blocks_with_parameters :
    (readyNow .lintab 770 1 3 [2] = true ∧ 2 ≤ (blkCtx 770 1 3 [2]).p 0 ∧ (blkCtx 770 1 3 [2]).p 0 ≤ 12 ∧
      rNaN ((blkCtx 770 1 3 [2]).i 0) = false ∧
      (lintabXs (rFlush ((blkCtx 770 1 3 [2]).p 1)) ((((blkCtx 770 1 3 [2]).par.drop 2).take 1).map rFlush)).any rNaN = false ∧
      ((((blkCtx 770 1 3 [2]).par.drop 13).take 2).map rFlush).any rNaN = false) ∧
    (readyNow .perf 3080 0 3 [] = true ∧ (blkCtx 3080 0 3 []).p 0 < 8 ∧ (blkCtx 3080 0 3 []).p 1 < 8) ∧
    (readyNow .perf 3080 0 3 [0, 8] = true ∧ (blkCtx 3080 0 3 [0, 8]).p 0 < 8 ∧ (blkCtx 3080 0 3 [0, 8]).p 1 = 8) ∧
    (readyNow .cansend 1794 2 3 [] = true ∧ (blkCtx 1794 2 3 []).p 0 < 8 ∧ (blkCtx 1794 2 3 []).p 1 < 128) := by decide +kernel

/-- The engine of `inv5`, its previous outputs held; and with a force on its output 0. -/
def wSaved : Chip := run8.setEng (fun e => { e with prog := [inv5], saved := [(5, [7])], imgs := List.replicate 128 ⟨0, 1, 1⟩ })
def wBindForced : Chip := (wSaved.setNat (forceEntry 5) 0x03040000).setNat (forceEntry 5 + 1) 5
theorem meets_InputBindings :
    (¬ ((⟨0, 0, 0, 0, 0⟩ : Bind).flags.testBit 0 = true ∧ (⟨0, 0, 0, 0, 0⟩ : Bind).ty = tyBool)) ∧
    (wSaved.inv (5 % 2 ^ 16) = some inv5 ∧ wSaved.forceOf 3 inv5.region 0 inv5.seq = none ∧ inv5.seq < 6 ∧ 4 ≤ inv5.seq ∧
      assoc wSaved.eng.saved inv5.seq = some [7]) ∧
    (wExecuted.chip.inv (5 % 2 ^ 16) = some inv5 ∧ wExecuted.chip.forceOf 3 inv5.region 0 inv5.seq = none ∧ 4 ≤ inv5.seq ∧
      assoc wExecuted.chip.eng.saved inv5.seq = none) ∧
    (wBindForced.inv (5 % 2 ^ 16) = some inv5 ∧ wBindForced.forceOf 3 inv5.region 0 inv5.seq = some 5) ∧
    (Nat.testBit 259 8 = true ∧ Nat.testBit 3 8 = false ∧ (wSaved.img 3).ty = tyBool ∧ tyBool ≠ tyStatus) := by decide +kernel

/-! ### The machine -/

theorem meets_StepRunsTheFront : wIdle.pending = [] ∧ wIdle.chip.xfer.writing = none ∧ wIdle.chip.sys.returns = [] := by decide +kernel
theorem meets_NonVolatileInvariants : (∃ t, step wIdle = .next t) ∧ Memory.wf wIdle.flash.nor = true := ⟨⟨_, rfl⟩, by decide +kernel⟩
theorem meets_ShapeInvariant : Shaped wIdle ∧ ∃ t, step wIdle = .next t := ⟨by decide +kernel, ⟨_, rfl⟩⟩

/-- A bound that two statements ask for beside what their theorems below show: only loop 5 has a job, and an object has a number. -/
theorem meets_LoopResults_others (k : Nat) (hk : k ≠ 5) : (wLoopDone.chip.loop k).job = none := by
  by_cases h : k < 256
  · exact (by decide +kernel : ∀ k < 256, k ≠ 5 → (wLoopDone.chip.loop k).job = none) k h hk
  · have : wLoopDone.chip.loops.length ≤ k := by
      have : wLoopDone.chip.loops.length = 256 := by decide +kernel
      omega
    simp [Chip.loop, nth, List.getElem?_eq_none this]
theorem meets_TransmissionEnds_object (j : Nat) (h : TxSrc.object 7 = .object j ∨ TxSrc.object 7 = .exclusive j) : j < 128 := by
  rcases h with h | h <;> cases h; decide

/-- The image of `testImage` passes the whole check of its slot (R118 to R138). -/
theorem image_passes : wImage.readSelect.chip.checkSlot wImage.flash 0 = 0 := by decide +kernel
theorem meets_StartPhases_image : wImage.chip.inPhase 4 = true ∧
    wImage.readSelect.chip.checkSlot wImage.flash (wImage.readSelect.chip.get imageAt Image.select_slot) = 0 := by
  have h : wImage.readSelect.chip.get imageAt Image.select_slot = 0 := by decide +kernel
  exact ⟨by decide +kernel, by simpa only [h] using image_passes⟩
theorem image_passes_fallback : wFallBack.readSelect.chip.checkSlot wFallBack.flash 0 = 0 := by decide +kernel
theorem meets_StartPhases_fallback : wFallBack.chip.inPhase 4 = true ∧
    wFallBack.readSelect.chip.checkSlot wFallBack.flash (wFallBack.readSelect.chip.get imageAt Image.select_slot) ≠ 0 ∧
    wFallBack.readSelect.chip.get imageAt Image.select_fb = 1 ∧
    wFallBack.readSelect.chip.checkSlot wFallBack.flash (1 - wFallBack.readSelect.chip.get imageAt Image.select_slot) = 0 := by
  have h : wFallBack.readSelect.chip.get imageAt Image.select_slot = 1 := by decide +kernel
  exact ⟨by decide +kernel, by rw [h]; decide +kernel, by decide +kernel, by rw [h]; exact image_passes_fallback⟩
theorem meets_ImageTransfer_select : wSelecting.chip.xfer.verifying = 2 ∧
    wSelecting.chip.checkSlot wSelecting.flash wSelecting.chip.xfer.slot = 0 := by
  have h : wSelecting.chip.xfer.slot = 0 := by decide +kernel
  exact ⟨by decide +kernel, by rw [h]; exact image_passes⟩

/-! ### The chapters' statements -/

theorem meets_RegionCommandWord :
    (wIdle.chip.get (regionAt 0) Region.result ≠ 1 ∧ wIdle.chip.regionClosed 0 = false) ∧
    (wSteward.chip.get (regionAt 2) Region.result ≠ 1 ∧ wSteward.chip.regionClosed 2 = false ∧
      wSteward.chip.getBit (regionAt 2) Region.fenced 5 = true ∧ (5 ≤ 12 ∨ 2 ≤ 1) ∧ (5 : Fin 16) ≠ (12 : Fin 16) ∧
      ((2 : Fin 8) ≠ (0 : Fin 8) ∨ (5 : Fin 16) ≠ (11 : Fin 16)) ∧ wSteward.chip.phase = 8 ∧ Shaped wSteward) := by decide +kernel

theorem meets_RegionMemoryErrors :
    (wIdle.chip.fitted 0 = true) ∧
    (wSteward.chip.fitted 2 = true ∧ wSteward.chip.flag (stewAt 2) Stew.running = true ∧ wSteward.chip.phase = 8) ∧
    (wSteward.chip.fitted 0 = true ∧ blockExists 0 10 = true ∧ 2 ≤ wSteward.chip.phase ∧ wSteward.chip.regionFenced 0 = false ∧
      wSteward.chip.blockFenced 0 10 = false ∧ nth none wSteward.chip.sys.testing 0 = none ∧ (wSteward.chip.fabr 0).failAt.length = 16 ∧
      Shaped wSteward ∧ nth none (wSteward.chip.fabr 0).failAt 10 = none) ∧
    (wFailed.chip.fitted 2 = true ∧ blockExists 2 4 = true ∧ 2 ≤ wFailed.chip.phase ∧ wFailed.chip.regionFenced 2 = false ∧
      wFailed.chip.blockFenced 2 4 = false ∧ nth none wFailed.chip.sys.testing 2 = none ∧ (wFailed.chip.fabr 2).failAt.length = 16 ∧
      Shaped wFailed ∧ nth none (wFailed.chip.fabr 2).failAt 4 = some 19990000 ∧ wFailed.chip.now - 19990000 ≤ 10000000) ∧
    (wSteward.chip.fitted 3 = true ∧ nth none wSteward.chip.sys.testing 3 = some (4, false) ∧ Shaped wSteward) := by decide +kernel

theorem meets_RegionMemoryErrors_2 :
    (wSteward.chip.fitted 3 = true ∧ nth none wSteward.chip.sys.testing 3 = some (4, false) ∧ Shaped wSteward ∧
      wSteward.chip.engineRuns = true) ∧
    (wStewardHalted.chip.fitted 3 = true ∧ nth none wStewardHalted.chip.sys.testing 3 = some (4, false) ∧ Shaped wStewardHalted ∧
      wStewardHalted.chip.engineRuns = false ∧ 4 < 16) := by decide +kernel

theorem meets_LinkFlits :
    (wLinkUp.chip.fitted 1 = true ∧ Shaped wLinkUp ∧ (wLinkUp.chip.fabr 1).links.length = 4 ∧
      wLinkUp.chip.getBit (regionAt 1) Region.link_up 0 = true ∧ flitCrc 0 0 [] ≠ 0 ∧ (((wLinkUp.chip.link 1 0).fails + if (0 : Fin 3) = 0 ∧
      0 = (wLinkUp.chip.link 1 0).rxSeq then 1 else 0) < 9)) ∧
    (wLinkFails.chip.fitted 1 = true ∧ Shaped wLinkFails ∧ (wLinkFails.chip.fabr 1).links.length = 4 ∧
      wLinkFails.chip.getBit (regionAt 1) Region.link_up 0 = true ∧ flitCrc 0 0 [] ≠ 0 ∧
      (9 ≤ (wLinkFails.chip.link 1 0).fails + if (0 : Fin 3) = 0 ∧ 0 = (wLinkFails.chip.link 1 0).rxSeq then 1 else 0)) ∧
    (wLinkUp.chip.fitted 1 = true ∧ Shaped wLinkUp ∧ (wLinkUp.chip.fabr 1).links.length = 4 ∧
      wLinkUp.chip.getBit (regionAt 1) Region.link_up 0 = true ∧ flitCrc 0 1 [] = 26552 ∧ 1 ≠ (wLinkUp.chip.link 1 0).rxSeq) ∧
    (wLinkUp.chip.fitted 1 = true ∧ Shaped wLinkUp ∧ (wLinkUp.chip.fabr 1).links.length = 4 ∧
      wLinkUp.chip.getBit (regionAt 1) Region.link_up 0 = true ∧ flitCrc 0 0 (List.map (fun x => x.toNat) [(1 : BitVec 32)]) = 28358 ∧
      0 = (wLinkUp.chip.link 1 0).rxSeq ∧ (List.map (fun x => x.toNat) [(1 : BitVec 32)]).head? = some 1) := by decide +kernel

theorem meets_LinkFlits_2 :
    (wLinkUp.chip.fitted 1 = true ∧ Shaped wLinkUp ∧ (wLinkUp.chip.fabr 1).links.length = 4 ∧
      wLinkUp.chip.getBit (regionAt 1) Region.link_up 0 = true ∧ flitCrc 1 0 [] = 47965) ∧
    (wLinkUp.chip.fitted 1 = true ∧ Shaped wLinkUp ∧ (wLinkUp.chip.fabr 1).links.length = 4 ∧
      wLinkUp.chip.getBit (regionAt 1) Region.link_up 0 = true ∧ (wLinkUp.chip.link 1 0).goodAt + 100 ≤ wLinkUp.chip.now) ∧
    (wLinkUp.chip.fitted 1 = true ∧ Shaped wLinkUp ∧ (wLinkUp.chip.fabr 1).links.length = 4 ∧
      wLinkUp.chip.getBit (regionAt 1) Region.link_up 0 = true ∧ wLinkUp.chip.now % 10 = 0) ∧
    (wLinkUp.chip.fitted 0 = true ∧ Shaped wLinkUp ∧ (wLinkUp.chip.fabr 0).links.length = 4 ∧
      wLinkUp.chip.getBit (regionAt 0) Region.link_up 0 = false ∧ wLinkUp.chip.getBit (regionAt 0) Region.link_latched 0 = false ∧
      wLinkUp.chip.panel.s2At ≠ none ∧ (wLinkUp.chip.link 0 0).downAt + 10000 ≤ wLinkUp.chip.now) := by decide +kernel

theorem meets_BeaconsAndReports :
    (wLinkUp.chip.fitted 0 = true ∧ Shaped wLinkUp ∧ wLinkUp.chip.regionClosed 0 = false ∧ wLinkUp.chip.panel.s2At = some 0 ∧
      wLinkUp.chip.regionFenced 0 = false ∧ (wLinkUp.chip.now - 0) % 250 = 0) ∧
    (wLinkUp.chip.fitted 0 = true ∧ Shaped wLinkUp ∧ wLinkUp.chip.regionClosed 0 = false ∧ wLinkUp.chip.panel.s2At ≠ none) ∧
    (wBeacons.chip.fitted 1 = true ∧ Shaped wBeacons ∧ wBeacons.chip.regionClosed 1 = false ∧ (wBeacons.chip.fabr 1).ackAt ≠ none) ∧
    (wBeacons.chip.fitted 1 = true ∧ Shaped wBeacons ∧ wBeacons.chip.regionClosed 1 = false ∧ (wBeacons.chip.fabr 1).ackAt = some 200 ∧
      200 + 1000 ≤ wBeacons.chip.now ∧ wBeacons.chip.regionFenced 0 = false ∧ (wBeacons.chip.fabr 1).gap = false) ∧
    (wIdle.chip.fitted 0 = true ∧ Shaped wIdle ∧ wIdle.chip.regionClosed 0 = false ∧ signed 16 100 < 1680) ∧
    (wRun.chip.fitted 0 = true ∧ Shaped wRun ∧ wRun.chip.regionClosed 0 = false ∧ 2000 ≤ signed 16 2000 ∧ 2 ≤ wRun.chip.phase ∧
      (wRun.chip.fabr 0).scorched = false) := by decide +kernel

theorem meets_RegionFences :
    (wRouted.chip.fitted 1 = true ∧ (wRouted.chip.fabr 1).beaconAt = some 100 ∧ 100 + 2000 ≤ wRouted.chip.now) ∧
    (wRouted.chip.fitted 1 = true ∧ (wRouted.chip.fabr 1).ackAt = some 200 ∧ 200 + 2000 ≤ wRouted.chip.now ∧
      wRouted.chip.regionFenced 0 = false ∧ wRouted.chip.sys.declared.testBit 1 = false) ∧
    (wRouted.chip.fitted 0 = true ∧ wRouted.chip.panel.s2At ≠ none) := by decide +kernel

theorem meets_ClocksAndCountTongs :
    (Shaped wClocks ∧ wClocks.chip.usesDomain 0 1 = true ∧ (1 : Fin 8) ≠ (0 : Fin 8) ∧ wClocks.chip.clkLost 0 1 = false ∧
      2 ≤ wClocks.chip.phase ∧ ((0 : BitVec 32) = (0 : BitVec 32) ∨ wClocks.chip.hzWithin 0 1 0 10 = false)) ∧
    (Shaped wClocks ∧ wClocks.chip.clkLost 2 5 = true ∧ (5 : Fin 8) ≠ (0 : Fin 8) ∧ wClocks.chip.hzWithin 2 5 40000000 5 = true ∧
      (assoc wClocks.chip.sys.clkAt (8 * 2 + 5)).getD 0 + clockWindow 5 ≤ wClocks.chip.now) ∧
    (Shaped wClocks ∧ wClocks.chip.counting 17 = true ∧ 17 < 128) ∧
    (Shaped wClocks ∧ wClocks.chip.counting (128 + 0) = true) ∧
    (Shaped wClocks ∧ wClocks.chip.fitted (srcRegion 15) = true) ∧
    (Shaped wResync ∧ wResync.chip.usesDomain 2 2 = true ∧ wResync.chip.clkLost 2 2 = false ∧ wResync.chip.phase = 8 ∧
      wResync.chip.sys.resync.filter (fun k => k / 16 == 8 * 2 + 2) ≠ []) ∧
    (Shaped wClocks ∧ wClocks.chip.usesDomain 0 0 = true ∧ wClocks.chip.clkLost 0 0 = false ∧ wClocks.chip.phase = 8 ∧
      wClocks.chip.sys.resync.filter (fun k => k / 16 == 8 * 0 + 0) = []) ∧
    (Shaped wClocks ∧ wClocks.chip.opens 0 = true) ∧
    (Shaped wFenced ∧ wFenced.chip.opens 3 = false) := by decide +kernel

theorem meets_SupplySteps :
    (Shaped wRun ∧ wRun.chip.phase ≠ 0 ∧ wRun.chip.flag supplyAt (if false = true then Supply.ls_b else Supply.ls_a) = !true ∧
      if true = true then 17000 ≤ 52001 else 52001 < 16000) ∧
    (Shaped wRun ∧ wRun.chip.phase ≠ 0 ∧ wRun.chip.flag supplyAt (if false = true then Supply.ls_high else Supply.ls_low) = !true ∧
      match false, true with | false, true => 15999 < 18000 | false, false => 18500 ≤ 15999 | true, true => 32500 < 15999 | true, false => 15999 ≤ 32000) ∧
    (Shaped wRun ∧ wRun.chip.phase ≠ 0 ∧ wRun.chip.fitted 0 = true ∧ (wRun.chip.gs 0).step (0 + 1) = !true ∧
      ((0 : Fin 4) ≠ (2 : Fin 4) ∨ true = true) ∧
      if true = true then 15999 < [19000, 16000, 13000, 10000].getD 0 0 else [19500, 16500, 18000, 18000].getD 0 0 ≤ 15999) ∧
    (Shaped wSupply ∧ wSupply.chip.phase ≠ 0 ∧ (wSupply.chip.gs 2).off = true ∧ (wSupply.chip.gs 2).absent = false ∧ 18000 ≤ 52001 ∧
      (wSupply.chip.gs 2).lowAt + 100000 ≤ wSupply.chip.now) ∧
    (Shaped wRun ∧ wRun.chip.phase ≠ 0 ∧ wRun.chip.fitted 0 = true ∧ wRun.chip.get supplyAt Supply.ms_step / 4 ^ 0 % 4 ≠ 1 ∧
      (if (1 : Fin 3) = (0 : Fin 3) then 21000 ≤ 15999 ∧
      15999 ≤ 50000 else if (1 : Fin 3) = (1 : Fin 3) then 15999 < 20000 else 52000 < 15999)) := by decide +kernel

theorem meets_SupplySteps_2 :
    Shaped wRun ∧ wRun.chip.phase ≠ 0 ∧ wRun.chip.now % 10000 = 0 := by decide +kernel

theorem meets_AlwaysOnDomain :
    (wRun.chip.getBit supplyAt Supply.cmp_now 0 = false ∧ wRun.chip.phase ≠ 0) ∧
    (wIdle.chip.getBit supplyAt Supply.cmp_now 0 = false ∧ wIdle.chip.phase = 0 ∧
      ((0 : Fin 4) = (0 : Fin 4) ∨ wIdle.chip.aonStopped = false ∧ wIdle.chip.getBit supplyAt Supply.wake 0 = true)) ∧
    (wIdle.chip.phase = 0 ∧ wIdle.chip.getBit supplyAt Supply.cmp_now 0 = false) ∧
    (1000 < 14000 ∧ wRun.chip.phase ≠ 0) ∧
    (1 < 14000) ∧
    (wEngineer.chip.roleIn 2 [2] = true ∧ wEngineer.chip.get supplyAt Supply.result ≠ 1 ∧ wEngineer.chip.phase = 8 ∧
      wEngineer.chip.get pairAt Pair.lease_state ≠ 2 ∧ wEngineer.chip.get pairAt Pair.lease_state ≠ 5 ∧
      wEngineer.chip.get engineAt Engine.state = 1) ∧
    (wEngineerHolder.chip.roleIn 2 [2] = true ∧ wEngineerHolder.chip.get supplyAt Supply.result ≠ 1 ∧ wEngineerHolder.chip.phase = 8 ∧
      (wEngineerHolder.chip.get pairAt Pair.lease_state = 2 ∨ wEngineerHolder.chip.get pairAt Pair.lease_state = 5) ∧
      wEngineerHolder.chip.get supplyAt Supply.dormant_pending = 0) ∧
    (2 ≤ wRun.chip.phase ∧ (9000 < 850 ∨ 950 < 9000)) ∧
    (2 ≤ wRun.chip.phase ∧ wRun.chip.regions.all wRun.chip.regionFenced = false) := by decide +kernel

theorem meets_StartPhases :
    (wS1.chip.inPhase 1 = true ∧ wS1.chip.sys.lsLowAt + 100000 ≤ wS1.chip.now ∧ wS1.chip.flag supplyAt Supply.ls_low = false ∧
      wS1.chip.clkLost 0 0 = false ∧ 18500 ≤ 18500 ∧ 850 ≤ 900 ∧ 900 ≤ 950) ∧
    (wS2.chip.inPhase 2 = true ∧
      (List.filter (fun r => BitVec.getLsbD (68 : BitVec 8) r) (List.range 8)).length ≠ (wS2.chip.trainLinks (18500 : BitVec 32)).nRegions ∧
      (wS2.chip.trainLinks 18500).flag surveyAt Survey.halted = false) ∧
    (wS3.chip.inPhase 3 = true ∧ wS3.chip.blockFenced 1 13 = false ∧ wS3.chip.blockFenced 1 11 = false) ∧
    (wNoImage.chip.inPhase 4 = true ∧
      wNoImage.readSelect.chip.checkSlot wNoImage.flash (wNoImage.readSelect.chip.get imageAt Image.select_slot) ≠ 0 ∧
      (wNoImage.readSelect.chip.get imageAt Image.select_fb = 0 ∨
        wNoImage.readSelect.chip.checkSlot wNoImage.flash (1 - wNoImage.readSelect.chip.get imageAt Image.select_slot) ≠ 0)) ∧
    (wS5.chip.inPhase 5 = true) ∧
    (wS6.chip.inPhase 6 = true ∧ wS6.chip.paired = false) ∧
    (wS6Waits.chip.inPhase 6 = true ∧ wS6Waits.chip.paired = true ∧ wS6Waits.chip.pair.neg = none ∧ wS6Waits.chip.pos ≠ 0 ∧
      wS6Waits.chip.sys.hasPair = true) ∧
    (wS6Ends.chip.inPhase 6 = true ∧ wS6Ends.chip.paired = true ∧
      ¬ (wS6Ends.chip.pair.neg = none ∧ wS6Ends.chip.pos ≠ 0 ∧ wS6Ends.chip.sys.hasPair = true)) ∧
    (wS7.chip.inPhase 7 = true ∧ wS7.chip.mayRun8 = true) ∧
    (wS2.chip.inPhase 2 = true ∧
      (∀ r ∈ (wS2.chip.trainLinks 4294967295).regions, r = 0 ∨ (wS2.chip.trainLinks 4294967295).routeTo 0 r ≠ none) ∧
      (List.filter (fun r => BitVec.getLsbD (255 : BitVec 8) r) (List.range 8)).length = (wS2.chip.trainLinks (4294967295 : BitVec 32)).nRegions) := by decide +kernel

theorem meets_SurveyAndTemper :
    (wSurveyFree.chip.get surveyAt Survey.result ≠ 1 ∧ wSurveyFree.chip.surveyAllowed 0 7 = true) ∧
    (wSurveyFree.chip.get surveyAt Survey.result ≠ 1 ∧ wSurveyFree.chip.surveyAllowed 0 7 = true ∧ 0 ≤ 4) ∧
    (wSurveyFree.chip.get surveyAt Survey.result ≠ 1 ∧ wSurveyFree.chip.temperAllowed 0 3 = true) ∧
    (wSurveyFree.chip.get surveyAt Survey.result ≠ 1 ∧ wSurveyFree.chip.surveyAllowed 2 9 = false) ∧
    (wSurvey.chip.svyTarget ≠ none ∧ wSurvey.chip.sys.svyCmd ≠ 1) ∧
    (wTemperZero.chip.sys.svyOff.length < wTemperZero.chip.temperChans.length) ∧
    (wTemperGain.chip.sys.svyGain.length < wTemperGain.chip.sys.svyOff.length ∧
      wTemperGain.chip.sys.svyGain.length < wTemperGain.chip.temperChans.length) ∧
    (wTemper.chip.temperChans = [3] ∧ wTemper.chip.sys.svyGain = [-30] ∧ wTemper.chip.sys.svyOff = [40] ∧
      (40 - wTemper.chip.getS (chanAt 3) Chan.cal_offset).natAbs ≤ 50000 ∧
      (-30 - wTemper.chip.getS (chanAt 3) Chan.cal_gain).natAbs ≤ 50000) ∧
    (wTemperFar.chip.temperChans = [3] ∧ wTemperFar.chip.sys.svyGain = [0] ∧ wTemperFar.chip.sys.svyOff = [60000] ∧
      50000 < (60000 - wTemperFar.chip.getS (chanAt 3) Chan.cal_offset).natAbs) := by decide +kernel

theorem meets_ImageTransfer :
    (wEngineer.chip.mayTransfer 2 = true ∧ wEngineer.chip.transferPhase = true ∧ wEngineer.chip.get imageAt Image.result ≠ 1 ∧
      wEngineer.chip.xferOpen = false ∧ wEngineer.chip.xfer.owner = none) ∧
    (wTransfer.chip.mayTransfer 2 = true ∧ wTransfer.chip.transferPhase = true ∧ wTransfer.chip.get imageAt Image.result ≠ 1 ∧
      wTransfer.chip.xfer.owner = some 2 ∧ wTransfer.chip.get imageAt Image.state ≠ 0) ∧
    (wVerified.chip.mayTransfer 2 = true ∧ wVerified.chip.transferPhase = true ∧ wVerified.chip.get imageAt Image.result ≠ 1 ∧
      wVerified.chip.xfer.owner = some 2 ∧ wVerified.chip.get imageAt Image.state ≠ 0 ∧ wVerified.chip.get imageAt Image.state = 2 ∧
      wVerified.mayAdopt 2 (wVerified.chip.get imageAt Image.target) = true) ∧
    (wTransferOld.chip.mayTransfer 2 = true ∧ wTransferOld.chip.transferPhase = true ∧ wTransferOld.chip.get imageAt Image.result ≠ 1 ∧
      wTransferOld.chip.xfer.owner = some 2 ∧ wTransferOld.chip.get imageAt Image.state ≠ 0 ∧
      wTransferOld.chip.xfer.at_ + 60000000 ≤ wTransferOld.chip.now) ∧
    (wEngineer.chip.mayTransfer 2 = true ∧ wEngineer.chip.transferPhase = true ∧ wEngineer.chip.get imageAt Image.result ≠ 1 ∧
      wEngineer.chip.xfer.owner = none ∧ wEngineer.mayAdopt 2 0 = true) := by decide +kernel

theorem meets_ImageTransfer_2 :
    (wErasing.chip.get imageAt Image.result = 1 ∧ wErasing.chip.get imageAt Image.last_cmd = 0 ∧ wErasing.chip.xfer.owner ≠ none) ∧
    (wVerifying.chip.xfer.verifying = 1) ∧
    (wSelectingNone.chip.xfer.verifying = 2 ∧ wSelectingNone.chip.checkSlot wSelectingNone.flash wSelectingNone.chip.xfer.slot ≠ 0) ∧
    (wWriting.chip.xfer.writing = some (0, 1, 1, false, 3) ∧ wWriting.pending = [] ∧ wWriting.chip.sys.returns = []) := by decide +kernel

theorem meets_EngineCycle :
    (wBoundary.chip.engineRuns = true ∧ wBoundary.chip.eng.phase = 0 ∧ (¬(wBoundary.chip.lease = 2 ∧ wBoundary.chip.pair.swapAsk = true)) ∧
      (¬(wBoundary.chip.lease = 5 ∧ wBoundary.chip.pair.handAsk = true)) ∧ wBoundary.chip.lease ≠ 4) ∧
    (wShadowBoundary.chip.engineRuns = true ∧ wShadowBoundary.chip.eng.phase = 0 ∧ wShadowBoundary.chip.lease = 4 ∧
      wShadowBoundary.chip.pair.records = [mirror0] ∧ wShadowBoundary.chip.flag supplyAt Supply.dormant_pending = false) ∧
    (wLatch.chip.engineRuns = true ∧ wLatch.chip.eng.phase = 3 ∧ wLatch.chip.eng.boundaryAt + wLatch.chip.eng.minGap ≤ wLatch.chip.now ∧
      wLatch.chip.lease ≠ 4) ∧
    (wShadowLatch.chip.engineRuns = true ∧ wShadowLatch.chip.eng.phase = 3 ∧
      wShadowLatch.chip.eng.boundaryAt + wShadowLatch.chip.eng.minGap ≤ wShadowLatch.chip.now ∧ wShadowLatch.chip.lease = 4 ∧
      wShadowLatch.chip.pair.records = [mirror0]) ∧
    (wExecuted.chip.engineRuns = true ∧ wExecuted.chip.eng.phase = 1 ∧ (∀ i ∈ wExecuted.chip.eng.prog, i.seq ∈ wExecuted.chip.eng.done)) ∧
    (wWrite.chip.engineRuns = true ∧ wWrite.chip.eng.phase = 2 ∧
      wWrite.chip.now - wWrite.chip.eng.latchAt ≤ wWrite.chip.eng.wdLimit) := by decide +kernel

theorem meets_EngineCycle_2 :
    wExecuted.chip.engineRuns = true ∧ (wExecuted.chip.eng.phase = 1 ∨ wExecuted.chip.eng.phase = 2) ∧
      wExecuted.chip.eng.latchAt + wExecuted.chip.eng.wdLimit ≤ wExecuted.chip.now := by decide +kernel

theorem meets_OnlineChangesAndForces :
    (wRun.chip.changeReason 1245186 0 = 0) ∧
    (wRun.chip.changeReason 0 0 ≠ 0) ∧
    (wRun.chip.get forceAt Force.result ≠ 1 ∧ wRun.chip.holder = true ∧ wRun.chip.get engineAt Engine.state = 1) ∧
    (wShadow.chip.get forceAt Force.result ≠ 1 ∧
      (wShadow.chip.holder = false ∨ wShadow.chip.get engineAt Engine.state ≠ 1)) := by decide +kernel

theorem meets_ChannelResults :
    (Shaped wSeq1 ∧ (wSeq1.chip.chan 3).seq = 1) ∧
    (Shaped wSeq2 ∧ (wSeq2.chip.chan 3).seq = 2 ∧ wSeq2.chip.settled 3 = true) ∧
    (Shaped wVolts ∧ wVolts.chip.mode 3 = 1 ∧ (wVolts.chip.chan 3).seq = 0 ∧ (wVolts.chip.chan 3).tempering = false ∧
      (wVolts.chip.chan 3).surveyed = false ∧ wVolts.chip.tongsWait (chanTongs 3 4) = false ∧
      (wVolts.chip.chan 3).convAt + convPeriod (wVolts.chip.get (chanAt 3) Chan.rate) ≤ wVolts.chip.now ∧ wVolts.chip.chanDead 3 = false) ∧
    (Shaped wVoltsDead ∧ wVoltsDead.chip.mode 3 = 1 ∧ (wVoltsDead.chip.chan 3).seq = 0 ∧ (wVoltsDead.chip.chan 3).tempering = false ∧
      (wVoltsDead.chip.chan 3).surveyed = false ∧ wVoltsDead.chip.tongsWait (chanTongs 3 4) = false ∧
      (wVoltsDead.chip.chan 3).convAt + convPeriod (wVoltsDead.chip.get (chanAt 3) Chan.rate) ≤ wVoltsDead.chip.now ∧
      wVoltsDead.chip.chanDead 3 = true) ∧
    (Shaped wRun) := by decide +kernel

theorem meets_ChannelResults_2 :
    Shaped wTc ∧ wTc.chip.mode 3 = 4 ∧ (wTc.chip.chan 3).seq = 0 ∧ (wTc.chip.chan 3).tempering = false ∧ (wTc.chip.chan 3).surveyed = false ∧
      wTc.chip.chanDead 3 = false ∧ (wTc.chip.chan 3).tcAt + 1000000 ≤ wTc.chip.now := by decide +kernel

theorem meets_CurrentOutputs :
    (Shaped wAoI ∧ wAoI.chip.mode 3 = 6 ∧ (wAoI.chip.chan 3).driven = true ∧ wAoI.chip.measuredSince 3 2000 = false ∧
      wAoI.chip.terminalOff 3 = false) ∧
    (Shaped wAoI ∧ wAoI.chip.mode 3 = 6 ∧ (wAoI.chip.chan 3).driven = true ∧ (wAoI.chip.chan 3).short = false ∧
      wAoI.chip.stood 3 Cond.short 10000 = true ∧ wAoI.chip.vMax 3 ≤ wAoI.chip.get (chanAt 3) Chan.bellows_mv ∧
      BitVec.toInt (0 : BitVec 32) + (100 : ℤ) < milli (wAoI.chip.get (chanAt 3) Chan.command)) ∧
    (Shaped wAoI ∧ wAoI.chip.mode 3 = 6 ∧ (wAoI.chip.chan 3).driven = true ∧ wAoI.chip.stood 3 Cond.noLoop 10000 = true ∧
      1000 ≤ milli (wAoI.chip.get (chanAt 3) Chan.command) ∧ BitVec.toInt (0 : BitVec 32) < (100 : ℤ) ∧
      ↑(wAoI.chip.vMax 3) - (3000 : ℤ) ≤ BitVec.toInt (24000 : BitVec 16)) ∧
    (Shaped wAoIShort ∧ (wAoIShort.chip.chan 3).short = true ∧ (wAoIShort.chip.chan 3).alarm = false ∧
      wAoIShort.chip.stood 3 Cond.good 100000 = true ∧
      (milli (wAoIShort.chip.get (chanAt 3) Chan.command) - BitVec.toInt (9950 : BitVec 32)).natAbs ≤ 50) ∧
    (Shaped wAoI ∧ (wAoI.chip.mode 3 = 5 ∨ wAoI.chip.mode 3 = 6) ∧ (2400 : ℤ) ≤ BitVec.toInt (2500 : BitVec 16) ∧
      wAoI.chip.aNow 3 fTherm = false) := by decide +kernel

theorem meets_CurrentOutputs_2 :
    Shaped wAoITherm ∧ wAoITherm.chip.aNow 3 fTherm = true ∧ BitVec.toInt (0 : BitVec 16) < (2240 : ℤ) := by decide +kernel

theorem meets_DigitalInputs :
    (Shaped wDi ∧ (wDi.chip.chan 3).seq = 0 ∧ wDi.chip.chanDead 3 = false ∧ (wDi.chip.chan 3).tempering = false ∧
      (wDi.chip.chan 3).surveyed = false ∧ wDi.chip.tongsWait (chanTongs 3 4) = false ∧ wDi.chip.sampleDue 3 = true ∧
      wDi.chip.mode 3 = 7) ∧
    (Shaped wMonitored ∧ (wMonitored.chip.chan 3).seq = 0 ∧ wMonitored.chip.chanDead 3 = false ∧ (wMonitored.chip.chan 3).tempering = false ∧
      (wMonitored.chip.chan 3).surveyed = false ∧ wMonitored.chip.tongsWait (chanTongs 3 4) = false ∧ wMonitored.chip.sampleDue 3 = true ∧
      wMonitored.chip.mode 3 = 8 ∧ (wMonitored.chip.gs (3 / 16)).off = false) ∧
    (Shaped wCnt ∧ (wCnt.chip.chan 3).seq = 0 ∧ wCnt.chip.chanDead 3 = false ∧ wCnt.chip.mode 3 = 11 ∧
      (wCnt.chip.chan 3).gateAt + (wCnt.chip.chan 3).gateLen ≤ wCnt.chip.now ∧ wCnt.chip.clkLost (3 / 16) 5 = false) := by decide +kernel

theorem meets_SwitchesAndLoads :
    (Shaped wPwm ∧ (wPwm.chip.chan 3).pwmOn = true ∧ (wPwm.chip.chan 3).pwmAt + (wPwm.chip.chan 3).pwmLen ≤ wPwm.chip.now ∧
      wPwm.chip.get (chanAt 3) Dig.pwm_period ≠ 0) ∧
    (Shaped wDoCross ∧ doMode (wDoCross.chip.mode 5) = true ∧ wDoCross.chip.clkLost (5 / 16) 4 = false ∧
      wDoCross.chip.tongsWait (chanTongs 5 4) = false ∧
      (wDoCross.chip.measuredSince 5 1000 = false ∨ wDoCross.chip.phaseEnd 5 = true)) ∧
    (Shaped wDoCross ∧ doMode (wDoCross.chip.mode 5) = true ∧ wDoCross.chip.switchOn 5 = true ∧ wDoCross.chip.guarded 5 = false ∧
      (false = true ∨ 600 < 6000 ∧ 1000 * wDoCross.chip.get (chanAt 5) Dig.overload_ms ≤ wDoCross.chip.overTime 5)) ∧
    (Shaped wDoWait ∧ (wDoWait.chip.chan 3).waiting = true ∧
      (wDoWait.chip.chan 3).tripAt + 1000 * wDoWait.chip.get (chanAt 3) Dig.retry_ms ≤ wDoWait.chip.now ∧ wDoWait.chip.guarded 3 = false) ∧
    (Shaped wPwm ∧ wPwm.chip.mode 3 = 9 ∧ wPwm.chip.switchOn 3 = false ∧ wPwm.chip.dNow 3 dBackFed = false ∧ wPwm.chip.judged 3 = true ∧
      wPwm.chip.stood 3 Cond.high 10000 = true ∧
      (wPwm.chip.shared 3 = true → wPwm.chip.flag pairAt Pair.partner = true → (wPwm.chip.chan 3).partnerOn = false ∧
      wPwm.chip.cmdOn 3 (wPwm.chip.get (chanAt 3) Chan.command) = false)) := by decide +kernel

theorem meets_SwitchesAndLoads_2 :
    (Shaped wDoFed ∧ wDoFed.chip.dNow 3 dBackFed = true ∧ wDoFed.chip.stood 3 Cond.low 10000 = true ∧ wDoFed.chip.judged 3 = true) ∧
    (Shaped wDoOpen ∧ doMode (wDoOpen.chip.mode 3) = true ∧ wDoOpen.chip.judged 3 = true ∧ (wDoOpen.chip.chan 3).pwmOn = false ∧
      wDoOpen.chip.dNow 3 dOpenLoad = true ∧ wDoOpen.chip.stood 3 Cond.loaded 100000 = true ∧
      10 * (wDoOpen.chip.get (chanAt 3) Dig.open_thr + 1) ≤ wDoOpen.chip.loadSum 3 6000) ∧
    (Shaped wDoCross ∧ doMode (wDoCross.chip.mode 5) = true ∧ wDoCross.chip.judged 5 = true ∧ (wDoCross.chip.chan 5).pwmOn = false ∧
      wDoCross.chip.dNow 5 dOpenLoad = false ∧ wDoCross.chip.switchOn 5 = true ∧ wDoCross.chip.stood 5 Cond.unloaded 100000 = true ∧
      wDoCross.chip.loadSum 5 0 < 10 * wDoCross.chip.get (chanAt 5) Dig.open_thr) ∧
    (Shaped wDoOff ∧ doMode (wDoOff.chip.mode 3) = true ∧ wDoOff.chip.judged 3 = true ∧ (wDoOff.chip.chan 3).pwmOn = false ∧
      wDoOff.chip.dNow 3 dStuckOn = false ∧ wDoOff.chip.switchOn 3 = false ∧ wDoOff.chip.stood 3 Cond.stuck 10000 = true ∧
      50 < 100) := by decide +kernel

theorem meets_SharedOutputs :
    (Shaped wAoI ∧ wAoI.chip.guarded 3 = false ∧ wAoI.chip.mode 3 = 6 ∧ (wAoI.chip.chan 3).extOff = false ∧
      wAoI.chip.stood 3 Cond.above 10000 = true ∧
      (milli (wAoI.chip.get (chanAt 3) Chan.command) + if wAoI.chip.shared 3 = true ∧ wAoI.chip.flag pairAt Pair.partner = true then (2500 : ℤ)
        else (1000 : ℤ)) < BitVec.toInt (20000 : BitVec 32)) ∧
    (Shaped wAoIExt ∧ wAoIExt.chip.guarded 3 = false ∧ (wAoIExt.chip.chan 3).extOff = true ∧ wAoIExt.chip.stood 3 Cond.gone 100000 = true ∧
      BitVec.toInt (0 : BitVec 32) < (500 : ℤ)) ∧
    (Shaped wDoShared ∧ wDoShared.chip.shared 3 = true ∧ wDoShared.chip.mode 3 = 9 ∧ wDoShared.chip.flag pairAt Pair.partner = true) ∧
    (Shaped wAoIShared ∧ wAoIShared.chip.shared 3 = true ∧ wAoIShared.chip.mode 3 = 6 ∧ (wAoIShared.chip.chan 3).extOff = false ∧
      (wAoIShared.chip.chan 3).partnerExt = false ∧ (wAoIShared.chip.chan 3).tempering = false ∧
      wAoIShared.chip.get pairAt Pair.lease_state = 2 ∧ (wAoIShared.chip.chan 3).ramp = 0 ∧ (wAoIShared.chip.chan 3).full = false ∧
      wAoIShared.chip.loopCmd 3 ≤ (8 : ℤ) * BitVec.toInt (5000 : BitVec 32)) := by decide +kernel

theorem meets_SharedOutputs_2 :
    Shaped wAoIRamp ∧ (wAoIRamp.chip.chan 3).ramp ≠ 0 ∧ (wAoIRamp.chip.chan 3).tempering = false ∧
      (wAoIRamp.chip.chan 3).rampAt + 20000 ≤ wAoIRamp.chip.now := by decide +kernel

theorem meets_LoopInstants :
    (Shaped wLoopBusy ∧ wLoopBusy.chip.loopUsed 5 = true ∧ (wLoopBusy.chip.slice (5 / 32)).stopped = false ∧ wLoopBusy.chip.phase = 8 ∧
      (wLoopBusy.chip.loop 5).nextAt ≤ wLoopBusy.chip.now ∧ (wLoopBusy.chip.loop 5).job = none ∧
      (wLoopBusy.chip.slice (5 / 32)).running ≠ none) ∧
    (Shaped wLoop ∧ wLoop.chip.loopUsed 5 = true ∧ (wLoop.chip.slice (5 / 32)).stopped = false ∧ wLoop.chip.phase = 8 ∧
      (wLoop.chip.loop 5).nextAt ≤ wLoop.chip.now ∧ (∀ k < 32, (wLoop.chip.loop (32 * (5 / 32) + k)).job = none) ∧
      (wLoop.chip.slice (5 / 32)).running = none) ∧
    (Shaped wLoopMiss ∧ wLoopMiss.chip.loopUsed 5 = true ∧ (wLoopMiss.chip.slice (5 / 32)).stopped = false ∧ wLoopMiss.chip.phase = 8 ∧
      (wLoopMiss.chip.loop 5).nextAt ≤ wLoopMiss.chip.now ∧ (wLoopMiss.chip.loop 5).job ≠ none ∧
      (wLoopMiss.chip.slice (5 / 32)).running = some (res5 6) ∧ (res5 6).loop ≠ 5) := by decide +kernel

theorem meets_LoopResults :
    (Shaped wLoopDone ∧ (wLoopDone.chip.slice (5 / 32)).running = some (res5 5) ∧ (res5 5).loop = 5 ∧ (res5 5).sect.length = 8 ∧
      srcKind (wLoopDone.chip.get (loopAt 5) Loop.out_dst) = 0 ∧ wLoopDone.chip.mirrors = false) ∧
    (Shaped wLoopDone ∧ (wLoopDone.chip.slice (5 / 32)).running = some (res5 5) ∧ (res5 5).loop = 5 ∧ (res5 5).sect.length = 8 ∧
      wLoopDone.chip.mirrors = false) ∧
    (Shaped wLoop ∧ wLoop.chip.opens (5 / 32) = true) ∧
    (Shaped wFenced ∧ wFenced.chip.opens (96 / 32) = false ∧ wFenced.chip.opens 3 = false) ∧
    (Shaped wLoop ∧ wLoop.chip.opens 0 = true) ∧
    (Shaped wLoop ∧ (wLoop.chip.slice 0).stopped = false ∧ (wLoop.chip.slice 0).windowAt + 100000 ≤ wLoop.chip.now ∧
      (wLoop.chip.slice 0).running = none) := by decide +kernel

theorem meets_AxisMotion :
    (Shaped wAxis ∧ wAxis.chip.clkLost (11 / 2) 5 = false ∧ (wAxis.chip.ax 11).genAt + 10 ≤ wAxis.chip.now) ∧
    (wAxis.chip.stageOn 11 = false) ∧
    ((wAxis.chip.ax 3).motion = .still ∧ (wAxis.chip.ax 3).v = 0 ∧ (wAxis.chip.ax 3).mode ≠ 3) ∧
    (Shaped wAxisMoves ∧ wAxisMoves.chip.clkLost (3 / 2) 5 = false ∧ (wAxisMoves.chip.ax 3).genAt + 10 ≤ wAxisMoves.chip.now ∧
      wAxisMoves.chip.stageOn 3 = true ∧ (wAxisMoves.chip.ax 3).motion = .goto 100000 false 0 ∧ (wAxisMoves.chip.ax 3).mode = 2 ∧
      0 < (wAxisMoves.chip.ax 3).v ∧ 16 ≤ wAxisMoves.chip.get (axisAt 3) Axis.lim_pos ∧ 16 ≤ wAxisMoves.chip.get (axisAt 3) Axis.lim_neg ∧
      (let h := wAxisMoves.chip.ax 3
       let q := ramp h.prof 3 h.speed (vFix h.prof.vm) updatePs
       0 < q.1 ∧ 0 < pFix 100000 - h.p - q.2)) ∧
    (Shaped wAxis ∧ wAxis.chip.stageOn 3 = true ∧ (wAxis.chip.ax 3).atStill = true ∧ (wAxis.chip.ax 3).holding = false ∧
      (wAxis.chip.ax 3).stillAt + 1000 * wAxis.chip.get (axisAt 3) Axis.hold_delay ≤ wAxis.chip.now ∧
      (¬(wAxis.chip.flag (axisAt 3) Axis.idle_off = true ∧ wAxis.chip.get (axisAt 3) Axis.i_hold = 0))) := by decide +kernel

theorem meets_AxisFaultsAndCommands :
    (Shaped wAxis ∧ wAxis.chip.stageOn 3 = true ∧ wAxis.chip.driverShows 3 false 0 = true) ∧
    (Shaped wAxisHot ∧ wAxisHot.chip.axUsed 3 = true ∧ wAxisHot.chip.stageOn 3 = false ∧ wAxisHot.chip.driverShows 3 false 2 = true ∧
      (wAxisHot.chip.ax 3).fault.testBit 3 = false) ∧
    (Shaped wFenced ∧ wFenced.chip.opens (6 / 2) = false) ∧
    (Shaped wShadow ∧ wShadow.chip.opens (7 / 2) = true ∧ wShadow.chip.shadow = true) ∧
    (Shaped wAxisFault ∧ wAxisFault.chip.opens (3 / 2) = true ∧
      (∃ cause ∈ (wAxisFault.chip.ax 3).faults, wAxisFault.chip.driverClear 3 cause = false)) ∧
    (Shaped wAxis ∧ wAxis.chip.opens (3 / 2) = true ∧ wAxis.chip.shadow = false ∧ (wAxis.chip.ax 3).fault = 0 ∧
      (∀ cause ∈ (wAxis.chip.ax 3).faults, wAxis.chip.driverClear 3 cause = true)) ∧
    (Shaped wAxisFaultGone ∧ wAxisFaultGone.chip.opens (3 / 2) = true ∧ wAxisFaultGone.chip.shadow = false ∧
      (wAxisFaultGone.chip.ax 3).faults ≠ [] ∧
      (∀ cause ∈ (wAxisFaultGone.chip.ax 3).faults, wAxisFaultGone.chip.driverClear 3 cause = true)) ∧
    (Shaped wAxis ∧ wAxis.chip.opens (3 / 2) = true) ∧
    (Shaped wClocks ∧ wClocks.chip.get (regionAt 0) Enc.enc_mode ≠ 0) := by decide +kernel

theorem meets_SliceCycle :
    (Shaped wIsleFresh ∧ wIsleFresh.chip.isleRuns 0 = true ∧ (∀ f ∈ wIsleFresh.chip.fnsOf 0, f.outCc < 16 ∨ f.outCc = 255) ∧
      (wIsleFresh.chip.isle 0).fresh = true ∧ wIsleFresh.chip.isleTime 0 500 = true ∧
      wIsleFresh.chip.flag (isleAt (mate 0)) Isle.latched = false) ∧
    (Shaped wIsleDue ∧ wIsleDue.chip.isleRuns 0 = true ∧ (∀ f ∈ wIsleDue.chip.fnsOf 0, f.outCc < 16 ∨ f.outCc = 255) ∧
      (wIsleDue.chip.isle 0).outDone = false ∧ wIsleDue.chip.isleTime 0 400 = true) ∧
    (Shaped wIsleDue ∧ wIsleDue.chip.isleRuns 0 = true ∧ (∀ f ∈ wIsleDue.chip.fnsOf 0, f.outCc < 16 ∨ f.outCc = 255) ∧
      (wIsleDue.chip.isle 0).msgDone = false ∧ wIsleDue.chip.isleTime 0 450 = true) ∧
    (Shaped wIsleAgrees ∧ wIsleAgrees.chip.isleRuns 0 = true ∧ (∀ f ∈ wIsleAgrees.chip.fnsOf 0, f.outCc < 16 ∨ f.outCc = 255) ∧
      (wIsleAgrees.chip.isle (mate 0)).out = some { ins := [], states := [0, 4, 0, 0, 0, 0, 0, 0], cycles := 40, stopped := false } ∧
      (∀ f ∈ wIsleAgrees.chip.fnsOf 0, wIsleAgrees.chip.sfState 0 f.j = nth 0 (SliceMsg.mk [] [0, 4, 0, 0, 0, 0, 0, 0] 40 false).states f.j) ∧
      (∀ e ∈ (wIsleAgrees.chip.isle 0).drift, (signed 32 (tickDiff (SliceMsg.mk [] [0, 4, 0, 0, 0, 0, 0, 0] 40 false).cycles (wIsleAgrees.chip.get (isleAt 0) Isle.cycles)) - e.2).natAbs ≤ 1)) ∧
    (Shaped wIsleDrifts ∧ wIsleDrifts.chip.isleRuns 0 = true ∧ (∀ f ∈ wIsleDrifts.chip.fnsOf 0, f.outCc < 16 ∨ f.outCc = 255) ∧
      (wIsleDrifts.chip.isle (mate 0)).out = some { ins := [], states := [0, 4, 0, 0, 0, 0, 0, 0], cycles := 2, stopped := false } ∧
      (wIsleDrifts.chip.isle 0).differ = 0 ∧
      (∃ e ∈ List.take 1 (wIsleDrifts.chip.isle 0).drift, 1 < (signed 32 (tickDiff (SliceMsg.mk [] [0, 4, 0, 0, 0, 0, 0, 0] 2 false).cycles (wIsleDrifts.chip.get (isleAt 0) Isle.cycles)) - e.2).natAbs)) := by decide +kernel

theorem meets_SliceCycle_2 :
    Shaped wIsleDiffers ∧ wIsleDiffers.chip.isleRuns 0 = true ∧ (∀ f ∈ wIsleDiffers.chip.fnsOf 0, f.outCc < 16 ∨ f.outCc = 255) ∧
      (wIsleDiffers.chip.isle (mate 0)).out = some { ins := [], states := [0, 2, 0, 0, 0, 0, 0, 0], cycles := 40, stopped := false } ∧
      (∃ f ∈ wIsleDiffers.chip.fnsOf 0, wIsleDiffers.chip.sfState 0 f.j ≠ nth 0 (SliceMsg.mk [] [0, 2, 0, 0, 0, 0, 0, 0] 40 false).states f.j) ∧
      2 ≤ (wIsleDiffers.chip.isle 0).differ := by decide +kernel

theorem meets_SliceStopsAndStarts :
    (Shaped wIsle ∧ wIsle.chip.isleRuns 0 = true ∧ (∀ f ∈ wIsle.chip.fnsOf 0, f.outCc < 16 ∨ f.outCc = 255) ∧ (1 : Fin 9) ≠ (0 : Fin 9)) ∧
    (Shaped wIsleStart ∧ wIsleStart.chip.fitted (2 * 0) = true ∧ wIsleStart.chip.fitted (2 * 0 + 1) = true ∧ 3 ≤ wIsleStart.chip.phase ∧
      wIsleStart.chip.get (isleAt (2 * 0)) Isle.result = 1 ∧ wIsleStart.chip.get (isleAt (2 * 0 + 1)) Isle.result = 1 ∧
      wIsleStart.chip.isleRuns (2 * 0) = false ∧ wIsleStart.chip.isleRuns (2 * 0 + 1) = false ∧ wIsleStart.chip.isleHeld (2 * 0) = false ∧
      wIsleStart.chip.isleHeld (2 * 0 + 1) = false) ∧
    (Shaped wIsleStart ∧ wIsleStart.chip.fitted (2 * 0) = true ∧ wIsleStart.chip.fitted (2 * 0 + 1) = true ∧ 3 ≤ wIsleStart.chip.phase ∧
      wIsleStart.chip.get (isleAt (2 * 0)) Isle.result = 1 ∧ wIsleStart.chip.get (isleAt (2 * 0 + 1)) Isle.result = 1 ∧
      wIsleStart.chip.isleRuns (2 * 0) = false ∧ wIsleStart.chip.isleRuns (2 * 0 + 1) = false ∧
      (false = false ∨ wIsleStart.chip.isleHeld (2 * 0) = true)) ∧
    (Shaped wIsle ∧ wIsle.chip.roleIn 5 [3] = false) := by decide +kernel

theorem meets_SliceStopsAndStarts_2 :
    (Shaped wSafetyEngineer ∧ wSafetyEngineer.chip.roleIn 2 [3] = true ∧ wSafetyEngineer.chip.opens 0 = true ∧ wSafetyEngineer.chip.get (isleAt 0) Isle.result ≠ 1 ∧
      (∀ f ∈ wSafetyEngineer.chip.fnsOf 0, f.outCc < 16 ∨ f.outCc = 255)) ∧
    (Shaped wFenced ∧ wFenced.chip.opens 3 = false) ∧
    (Shaped wIsle ∧ wIsle.chip.opens 0 = true ∧ wIsle.chip.get (isleAt 0) Isle.result ≠ 1) := by decide +kernel

theorem meets_SafetyInputsAndTests :
    (Shaped wIsle ∧ wIsle.chip.isleRuns (0 / 16) = true ∧ wIsle.chip.fnOfDi 0 = some fn1 ∧
      List.find? (fun i => i.g == 0) (wIsle.chip.isle (0 / 16)).ins = some { g := 0, level := true, count := 1, sampledAt := 19999875 } ∧
      99 * 125 ≤ 100 * (wIsle.chip.now - (SafeDi.mk 0 true 1 0 19999875).sampledAt)) ∧
    (Shaped wIsleTrips ∧ wIsleTrips.chip.isleRuns 0 = true ∧ List.find? (fun f => f.sf == 1) (wIsleTrips.chip.fnsOf 0) = some fn1 ∧
      [2, 3, 4].contains (wIsleTrips.chip.sfState 0 fn1.j) = true ∧ wIsleTrips.chip.discLate 0 fn1 ≠ [] ∧
      (wIsleTrips.chip.isle 0).fns.length = 8) ∧
    (Shaped wIsle ∧ List.find? (fun f => f.sf == 1) wIsle.chip.safe.fns = some fn1 ∧ fn1.outCc < 16 ∧ wIsle.chip.ownsSafe fn1.owner = true ∧
      wIsle.chip.isleRuns fn1.base = true ∧ wIsle.chip.isleRuns (fn1.base + 1) = true ∧ wIsle.chip.phase = 8 ∧
      (wIsle.chip.sfSt 1).test = none ∧
      (wIsle.chip.sfSt 1).testAt + 100000 * fn1.tTest ≤ wIsle.chip.now) := by decide +kernel

theorem meets_SafetyInputsAndTests_2 :
    (Shaped wIsleSink ∧ List.find? (fun f => f.sf == 1) wIsleSink.chip.safe.fns = some fn1 ∧ fn1.outCc < 16 ∧
      wIsleSink.chip.ownsSafe fn1.owner = true ∧ wIsleSink.chip.isleRuns fn1.base = true ∧ wIsleSink.chip.isleRuns (fn1.base + 1) = true ∧
      wIsleSink.chip.phase = 8 ∧ (wIsleSink.chip.sfSt 1).test = none ∧
      (wIsleSink.chip.sfSt 1).sinkDue = true ∧ (wIsleSink.chip.sfSt 1).pulseAt + 10000 ≤ wIsleSink.chip.now ∧
      wIsleSink.chip.sfState (fn1.base + fn1.outHs % 2) fn1.j = 4) ∧
    (Shaped wIsleTest ∧ List.find? (fun f => f.sf == 1) wIsleTest.chip.safe.fns = some fn1 ∧ fn1.outCc < 16 ∧
      wIsleTest.chip.ownsSafe fn1.owner = true ∧ wIsleTest.chip.isleRuns fn1.base = true ∧ wIsleTest.chip.isleRuns (fn1.base + 1) = true ∧
      (wIsleTest.chip.sfSt 1).test = some (false, 3, 0) ∧ 0 + 300 ≤ wIsleTest.chip.now) := by decide +kernel

theorem meets_SafetyFrames :
    (Shaped wConnFault ∧ wConnFault.chip.conn 5 = some conn5 ∧ conn5.produce = false ∧ conn5.station = true ∧
      wConnFault.chip.ownsSafe conn5.owner = true ∧ 0 ∈ wConnFault.chip.consumers 5 ∧ (wConnFault.chip.isle 0).conns.length = 16 ∧
      (nth { } (wConnFault.chip.isle 0).conns 5).state = 2 ∧ 2 ≤ (nth { } (wConnFault.chip.isle 0).conns 5).passed ∧
      (nth { } (wConnFault.chip.isle 0).conns 5).heard = false ∧ conn5.connId < 2 ^ 32 ∧
      conn5.tExp < 2 ^ 16 ∧ conn5.n < 256 ∧ [1, 2, 3, 4].length = conn5.n ∧ 0 < 2 ^ 16 ∧ 5 < 2 ^ 32) ∧
    (Shaped wIsle ∧ wIsle.chip.conn 5 = some conn5 ∧ conn5.produce = false ∧ conn5.station = true ∧ wIsle.chip.ownsSafe conn5.owner = true ∧
      0 ∈ wIsle.chip.consumers 5 ∧ (wIsle.chip.isle 0).conns.length = 16 ∧ 0 ≠ 20 + conn5.n) := by decide +kernel

theorem meets_PortReceiveAndStart :
    (Shaped wPort ∧ wPort.chip.portLive 0 = false) ∧
    (Shaped wPort ∧ wPort.chip.portLive 3 = true ∧ (false = true → wPort.chip.flag (portAt 3) Port.fd_en = true) ∧
      (∀ k ∈ (wPort.chip.port 3).stas, k.station < 64)) ∧
    (Shaped wPortWaits ∧ wPortWaits.chip.busMine 3 = true ∧
      bestFrame (wPortWaits.chip.waiting 3) = some (TxSrc.object 7, { id := 0, ide := false, fd := false, brs := false, data := [1, 2, 3, 4] })) ∧
    (Shaped wPort ∧ wPort.chip.busMine 3 = true ∧ bestFrame (wPort.chip.waiting 3) = none) ∧
    (Shaped wPort ∧ wPort.chip.portLive 3 = true ∧ wPort.chip.flag (portAt 3) Port.listen = false) ∧
    (Shaped wPortFlag ∧ (wPortFlag.chip.port 3).tx = none ∧ wPortFlag.chip.portLive 3 = true ∧ (wPortFlag.chip.port 3).flagUp = true ∧
      wPortFlag.chip.get (portAt 3) Port.tec ≤ 247) ∧
    (Shaped wPortOff ∧ wPortOff.chip.get (portAt 3) Port.state = 2 ∧ wPortOff.chip.get (portAt 3) Port.off_reason = 0 ∧
      wPortOff.chip.bitsPassed 3 ((wPortOff.chip.port 3).offTicks.getLastD 0) (128 * 11) = true) := by decide +kernel

theorem meets_TransmissionEnds :
    (Shaped wPortSends ∧
      (wPortSends.chip.port 3).tx = some (TxSrc.object 7, { id := 288, ide := false, fd := false, brs := false, data := [1, 2, 3, 4] }) ∧
      (wPortSends.chip.port 3).objs.length = 128 ∧ wPortSends.chip.get (portAt 3) Port.tec ≤ 256) ∧
    (Shaped wPortSends ∧
      (wPortSends.chip.port 3).tx = some (TxSrc.object 7, { id := 288, ide := false, fd := false, brs := false, data := [1, 2, 3, 4] }) ∧
      (wPortSends.chip.port 3).objs.length = 128 ∧ (0 : Fin 6) ≠ (5 : Fin 6) ∧ wPortSends.chip.get (portAt 3) Port.state ≤ 1 ∧
      wPortSends.chip.get (portAt 3) Port.tec ≤ 255) := by decide +kernel

theorem meets_PortRestarts :
    (Shaped wPortCaused ∧ wPortCaused.chip.portCause 3 ≠ 0 ∧ wPortCaused.chip.get (portAt 3) Port.state ≠ 4) ∧
    (Shaped wPortLeft ∧ wPortLeft.chip.portCause 3 = 0 ∧ 1 ≤ wPortLeft.chip.get (portAt 3) Port.off_reason ∧
      wPortLeft.chip.get (portAt 3) Port.off_reason ≤ 5) ∧
    (Shaped wPort ∧ wPort.chip.portCause 3 = 0 ∧
      (wPort.chip.get (portAt 3) Port.off_reason = 0 ∨ 5 < wPort.chip.get (portAt 3) Port.off_reason)) ∧
    (Shaped wPort ∧ wPort.chip.opens 3 = true ∧ wPort.chip.get (portAt 3) Port.result ≠ 1 ∧ wPort.chip.get (portAt 3) Port.state ≠ 4) ∧
    (Shaped wPort ∧ wPort.chip.opens 0 = true ∧ wPort.chip.get (portAt 0) Port.result ≠ 1 ∧ wPort.chip.get (portAt 0) Port.state = 4) ∧
    (Shaped wPort ∧ wPort.chip.opens 0 = true ∧ wPort.chip.get (portAt 0) Port.result ≠ 1) ∧
    (Shaped wPortRejoins ∧ wPortRejoins.chip.get (portAt 3) Port.off_reason = 7 ∧ wPortRejoins.chip.portCause 3 = 0 ∧
      wPortRejoins.chip.bitsPassed 3 (wPortRejoins.chip.port 3).rejoinAt 11 = true) := by decide +kernel

theorem meets_PortTimers :
    (Shaped wPortTimed ∧ (wPortTimed.chip.obj 3 7).perAt = some 5 ∧ 5 ≤ wPortTimed.chip.now ∧ wPortTimed.chip.sendsStopped = false ∧
      wPortTimed.chip.tongsDown 3 2 = false ∧
      (wPortTimed.chip.port 3).objs.length = 128) ∧
    (Shaped wPort ∧ (∀ (t0 : Nat), (wPort.chip.obj 0 0).beganAt = some t0 → t0 + 1000 * (wPort.chip.obj 0 0).inhibit ≤ wPort.chip.now) ∧
      (wPort.chip.port 0).objs.length = 128) ∧
    (Shaped wPort ∧ wPort.chip.sendsStopped = false ∧ wPort.chip.tongsDown 3 2 = false) ∧
    (Shaped wPortSched ∧ wPortSched.chip.sched 3 = some matrix2 ∧ wPortSched.chip.portLive 3 = true ∧ 256 / 8 = matrix2.refId / 8) ∧
    (Shaped wPortSched ∧ wPortSched.chip.sched 3 = some matrix2 ∧ wPortSched.chip.mayMaster matrix2 = true ∧
      wPortSched.chip.busMine 3 = true ∧ wPortSched.chip.sinceTry 3 (matrix2.cycleBits + 8 + 8 * matrix2.prio) = true) ∧
    (Shaped wPortSeen ∧ wPortSeen.chip.sched 3 = some matrix2 ∧ wPortSeen.chip.columnDue 3 matrix2 1 = true) := by decide +kernel

theorem meets_PortTimers_2 :
    Shaped wPortSched ∧ wPortSched.chip.sched 3 = some matrix2 ∧ wPortSched.chip.phase = 8 ∧ wPortSched.chip.get (portAt 3) Port.off_reason = 0 ∧
      wPortSched.chip.flag (portAt 3) Port.sched_err_now = false ∧
      wPortSched.chip.bitsPassed 3 (wPortSched.chip.port 3).refAt (2 * matrix2.cycleBits) = true := by decide +kernel

theorem meets_PairLanes :
    (Shaped wPair ∧ wPair.chip.pair.laneAt.length = 2 ∧ wPair.chip.pair.laneBad.length = 2 ∧ wPair.chip.laneLive 0 = true ∧
      2 ≤ wPair.chip.phase ∧ 0 ≠ laneCrc 14 []) ∧
    (Shaped wPair ∧ wPair.chip.pair.laneAt.length = 2 ∧ wPair.chip.pair.laneBad.length = 2 ∧ wPair.chip.laneLive 0 = true ∧
      2 ≤ wPair.chip.phase ∧ 2685849682 = laneCrc 1 []) ∧
    (Shaped wPair ∧ wPair.chip.pair.laneAt.length = 2 ∧ wPair.chip.pair.laneBad.length = 2 ∧ wPair.chip.paired = true ∧
      6 ≤ wPair.chip.phase ∧ wPair.chip.pair.beatSent + 1000 ≤ wPair.chip.now) ∧
    (Shaped wPresence ∧ wPresence.chip.pair.laneAt.length = 2 ∧ wPresence.chip.pair.laneBad.length = 2 ∧ wPresence.chip.pos ≠ 0 ∧
      wPresence.chip.panel.s2At ≠ none ∧ wPresence.chip.phase < 6 ∧ wPresence.chip.now % 10000 = 0) := by decide +kernel

theorem meets_PairLanes_2 :
    (Shaped wNegotiates ∧ wNegotiates.chip.pair.laneAt.length = 2 ∧ wNegotiates.chip.pair.laneBad.length = 2 ∧
      wNegotiates.chip.paired = true ∧ wNegotiates.chip.phase = 6 ∧ wNegotiates.chip.now % 10000 = 0) ∧
    (Shaped wPair ∧ wPair.chip.pair.laneAt.length = 2 ∧ wPair.chip.pair.laneBad.length = 2 ∧ wPair.chip.sys.hasPair = true ∧
      6 ≤ wPair.chip.phase ∧ wPair.chip.now % 250 = 0) ∧
    (Shaped wLaneSilent ∧ wLaneSilent.chip.pair.laneAt.length = 2 ∧ wLaneSilent.chip.pair.laneBad.length = 2 ∧
      wLaneSilent.chip.flag pairAt Pair.partner = true ∧ nth 0 wLaneSilent.chip.pair.laneAt 0 + 3000 ≤ wLaneSilent.chip.now ∧
      wLaneSilent.chip.now ≤ nth 0 wLaneSilent.chip.pair.laneAt (1 - 0) + 3000 ∧ nth false wLaneSilent.chip.pair.laneBad 0 = false) ∧
    (Shaped wLaneBack ∧ wLaneBack.chip.pair.laneAt.length = 2 ∧ wLaneBack.chip.pair.laneBad.length = 2 ∧
      nth false wLaneBack.chip.pair.laneBad 0 = true ∧ wLaneBack.chip.laneLive 0 = true ∧
      nth 0 wLaneBack.chip.pair.goodAt 0 + 100000 ≤ wLaneBack.chip.now ∧
      wLaneBack.chip.now ≤ nth 0 wLaneBack.chip.pair.laneAt 0 + 3000) := by decide +kernel

theorem meets_PairLanes_3 :
    (Shaped wNegotiates ∧ wNegotiates.chip.pair.laneAt.length = 2 ∧ wNegotiates.chip.pair.laneBad.length = 2 ∧ wNegotiates.chip.phase = 6 ∧
      wNegotiates.chip.flag surveyAt Survey.halted = false ∧ wNegotiates.chip.paired = true ∧ wNegotiates.chip.pair.neg = none ∧
      wNegotiates.chip.pair.negAt + 1000 * wNegotiates.chip.get pairAt Pair.neg_wait ≤ wNegotiates.chip.now ∧ wNegotiates.chip.pos ≠ 0 ∧
      wNegotiates.chip.sys.hasPair = true) ∧
    (Shaped wMisplaced ∧ wMisplaced.chip.pair.laneAt.length = 2 ∧ wMisplaced.chip.pair.laneBad.length = 2 ∧ wMisplaced.chip.phase = 6 ∧
      wMisplaced.chip.flag surveyAt Survey.halted = false ∧ wMisplaced.chip.paired = true ∧ wMisplaced.chip.pair.neg = none ∧
      wMisplaced.chip.pair.negAt + 1000 * wMisplaced.chip.get pairAt Pair.neg_wait ≤ wMisplaced.chip.now ∧
      (wMisplaced.chip.pos = 0 ∨ wMisplaced.chip.sys.hasPair = false)) := by decide +kernel

theorem meets_LeaseChanges :
    (Shaped wPair ∧ (wPair.chip.lease = 2 ∨ wPair.chip.lease = 5) ∧ wPair.chip.pair.renewSent + wPair.chip.renewPeriod ≤ wPair.chip.now) ∧
    (Shaped wPair2 ∧ (wPair2.chip.lease = 2 ∨ wPair2.chip.lease = 5) ∧
      (2 < wPair2.chip.get pairAt Pair.lease_epoch ∨ 2 = wPair2.chip.get pairAt Pair.lease_epoch ∧ wPair2.chip.pos ≠ 1)) ∧
    (Shaped wPair ∧ (wPair.chip.lease = 2 ∨ wPair.chip.lease = 5) ∧
      (wPair.chip.get pairAt Pair.lease_epoch < 1000 ∨ 1000 = wPair.chip.get pairAt Pair.lease_epoch ∧ wPair.chip.pos = 1)) ∧
    (Shaped wPairShadow ∧ shadows wPairShadow.chip.lease = true ∧
      wPairShadow.chip.pair.renewAt + 1000 * wPairShadow.chip.pair.period ≤ wPairShadow.chip.now) ∧
    (Shaped wPairRejoins ∧ (wPairRejoins.chip.lease = 3 ∨ wPairRejoins.chip.lease = 4 ∧
      20000 ≤ wPairRejoins.chip.get engineAt Engine.cycle_count)) ∧
    (Shaped wPairShadow ∧ wPairShadow.chip.lease = 4 ∧ wPairShadow.chip.get engineAt Engine.cycle_count < 2147483648) ∧
    (Shaped wPairStandby ∧ wPairStandby.chip.lease = 7) ∧
    (Shaped wPairLost ∧ wPairLost.chip.flag pairAt Pair.partner = true ∧
      wPairLost.chip.pair.partnerAt + 5000 ≤ wPairLost.chip.now) := by decide +kernel

theorem meets_MirrorAndPairCommands :
    (Shaped wPairShadow ∧ wPairShadow.chip.lease = 4 ∧ wPairShadow.chip.pair.records.length < 8) ∧
    (Shaped wPairFull ∧ wPairFull.chip.lease = 4 ∧ wPairFull.chip.pair.records.length = 8) ∧
    (Shaped wPairRejoins ∧ wPairRejoins.chip.lease = 3 ∧ wPairRejoins.chip.flag pairAt Pair.partner = true) ∧
    (Shaped wPairSync ∧ wPairSync.chip.get pairAt Pair.result ≠ 1 ∧ wPairSync.chip.roleIn 2 [2, 3] = true ∧ wPairSync.chip.axesStill = true ∧
      wPairSync.chip.lease = 2 ∧ wPairSync.chip.get pairAt Pair.partner_state = 4 ∧ wPairSync.chip.pair.partnerLag ≤ 1 ∧
      wPairSync.chip.flag pairAt Pair.lane_a = true ∧ wPairSync.chip.flag pairAt Pair.lane_b = true ∧ wPairSync.chip.pair.handAsk = false) ∧
    (Shaped wPairAlone ∧ wPairAlone.chip.get pairAt Pair.result ≠ 1 ∧ wPairAlone.chip.roleIn 2 [2, 3] = true ∧
      wPairAlone.chip.axesStill = true ∧ wPairAlone.chip.lease = 5 ∧ wPairAlone.chip.get pairAt Pair.partner_state = 7 ∧
      wPairAlone.chip.pair.partnerHalted = false) := by decide +kernel

theorem meets_MirrorAndPairCommands_2 :
    (Shaped wPairShadow ∧ wPairShadow.chip.get pairAt Pair.result ≠ 1 ∧ wPairShadow.chip.roleIn 2 [2, 3] = true ∧
      wPairShadow.chip.lease = 4) ∧
    (Shaped wPair ∧ wPair.chip.get pairAt Pair.result ≠ 1 ∧ wPair.chip.roleIn 1 [2, 3] = false) ∧
    (Shaped wPair ∧ wPair.chip.get pairAt Pair.result ≠ 1) ∧
    (Shaped wPlug2 ∧ [1, 2, 3, 4, 5, 6, 7, 8, 9].length = 9 ∧ wPlug2.chip.phase = 2) ∧
    (Shaped wPair ∧ [1, 2, 3, 4, 5, 6, 7, 8, 9].length = 9 ∧ 2 < wPair.chip.phase ∧ wPair.chip.pair.plugAt + 1000000 ≤ wPair.chip.now ∧
      wPair.chip.pair.plugSeen ≠ List.map (fun x => x.toNat) [(1 : BitVec 32), (2 : BitVec 32), (3 : BitVec 32), (4 : BitVec 32), (5 : BitVec 32), (6 : BitVec 32), (7 : BitVec 32), (8 : BitVec 32), (9 : BitVec 32)]) := by decide +kernel

theorem meets_StationPorts :
    (Shaped wNet ∧ wNet.chip.panel.s2At ≠ none ∧ wNet.chip.stationReady 0 = true ∧
      wNet.chip.svyTarget ≠ some (3, 0)) ∧
    (Shaped wNet ∧ wNet.chip.panel.s2At ≠ none ∧ wNet.chip.net.prpAt + 2000000 ≤ wNet.chip.now ∧ wNet.chip.anyStation = true) ∧
    (Shaped wNet ∧ wNet.chip.stationUp 0 = true ∧ wNet.chip.get slinkAt SLink.ip_now ≠ 0 ∧ 0 ≠ wNet.chip.get slinkAt SLink.ip_now) ∧
    (Shaped wNet ∧ wNet.chip.stationUp 0 = true ∧ wNet.chip.get slinkAt SLink.ip_now ≠ 0 ∧ 7 = wNet.chip.get slinkAt SLink.ip_now) ∧
    (Shaped wNet ∧ List.find? (fun p => p.pub == 4) wNet.chip.net.pubs = some { pub := 4, data := [1, 2], due := true } ∧
      wNet.chip.phase = 8 ∧ wNet.chip.sendsStopped = false ∧ wNet.chip.anyStation = true ∧ (PubSt.mk 4 [1, 2] none true 0 0).due = true) ∧
    (Shaped wNet ∧ wNet.chip.stationUp 0 = true ∧ datagramOk [] = false) := by decide +kernel

theorem meets_StationPorts_2 :
    (Shaped wNet ∧ wNet.chip.stationUp 0 = true ∧ (5, 100, 0, 19900000) ∈ wNet.chip.net.window ∧ wNet.chip.now ≤ 19900000 + 400000) ∧
    (Shaped wNet ∧ wNet.chip.stationUp 0 = true ∧
      datagramOk (List.map (fun x => BitVec.toNat x) (List.map (BitVec.ofNat 8) pubBytes)) = true ∧
      nth 0 (List.map (fun x => BitVec.toNat x) (List.map (BitVec.ofNat 8) pubBytes)) 5 = 0 ∧
      wNet.chip.partnerOf (numAt (List.map (fun x => BitVec.toNat x) (List.map (BitVec.ofNat 8) pubBytes)) 8 4) = some 3 ∧
      List.find? (fun h => h.partner == 3 && h.pub == nth 0 (List.map (fun x => BitVec.toNat x) (List.map (BitVec.ofNat 8) pubBytes)) 6) wNet.chip.net.subs = none) ∧
    (Shaped wNet) := by decide +kernel

theorem meets_Calendar :
    (Shaped wPtpOther ∧ wPtpOther.chip.ptpOn 0 0 = true ∧ (wPtpOther.chip.ptp 0).master ≠ none ∧
      wPtpOther.chip.get calAt Cal.ptp_port ≠ 0 + 1) ∧
    (Shaped wPtpNear ∧ wPtpNear.chip.ptpOn 0 0 = true ∧ (wPtpNear.chip.ptp 0).master ≠ none ∧ wPtpNear.chip.get calAt Cal.ptp_port = 0 + 1 ∧
      (↑wPtpNear.chip.calNs - ptpNs 946685837 0 (wPtpNear.chip.ptp 0).utc - BitVec.toInt (0 : BitVec 64) / (65536 : ℤ) - ↑(wPtpNear.chip.ptp 0).delay).natAbs ≤ 1000000) ∧
    (Shaped wPtp ∧ wPtp.chip.ptpOn 0 0 = true ∧ (wPtp.chip.ptp 0).master ≠ none ∧ wPtp.chip.get calAt Cal.ptp_port = 0 + 1 ∧
      1000000 < (↑wPtp.chip.calNs - ptpNs 0 0 (wPtp.chip.ptp 0).utc - BitVec.toInt (0 : BitVec 64) / (65536 : ℤ) - ↑(wPtp.chip.ptp 0).delay).natAbs) ∧
    (Shaped wPtp ∧ wPtp.chip.ptpOn 0 0 = true ∧ (wPtp.chip.ptp 0).master ≠ none ∧ (wPtp.chip.ptp 0).reqNs = some 4000) ∧
    (Shaped wPtpNone ∧ wPtpNone.chip.ptpOn 0 0 = true ∧ (wPtpNone.chip.ptp 0).master = none) ∧
    (Shaped wPtp ∧ wPtp.chip.ptpOn 0 0 = true ∧ (wPtp.chip.ptp 0).master = some [0, 0, 0, 0, 0, 0, 1, 2] ∧
      bytesAt [0, 0, 0, 0, 0, 0, 1, 2] 6 8 ≠ bytesAt [] 6 8 ∧ ranksBefore [] [0, 0, 0, 0, 0, 0, 1, 2] = false) := by decide +kernel

theorem meets_Calendar_2 :
    (Shaped wPtp ∧ (wPtp.chip.ptp 0).master ≠ none ∧ (wPtp.chip.ptp 0).seenAt + 3 * (wPtp.chip.ptp 0).interval ≤ wPtp.chip.now) ∧
    (Shaped wLeap61 ∧ wLeap61.chip.net.leap = 1 ∧ wLeap61.chip.calFs / 10 ^ 15 % 86400 = 0 ∧ 10 ^ 15 ≤ wLeap61.chip.calFs) ∧
    (Shaped wLeap59 ∧ wLeap59.chip.net.leap = 2 ∧ wLeap59.chip.calFs / 10 ^ 15 % 86400 = 86399) := by decide +kernel

theorem meets_SessionsOpenAndClose :
    (Shaped wKeyed ∧ wKeyed.chip.anyStation = true ∧ (9 : BitVec 16) ≠ (0 : BitVec 16) ∧
      (∀ i < 16, wKeyed.chip.getI sessAt Sess.state i ≠ 0 → wKeyed.chip.getI sessAt Sess.sid i ≠ 9) ∧ wKeyed.openRefused 9 9 = true) ∧
    (Shaped wKeyed) ∧
    (Shaped wUnproved ∧ wUnproved.chip.anyStation = true ∧ wUnproved.chip.getI sessAt Sess.state 2 = 1 ∧
      List.map (fun x => BitVec.toNat x) (goodMac 3 0 1 []) = wUnproved.chip.macOf 2 3 0 1 []) ∧
    (Shaped wUnproved ∧ wUnproved.chip.anyStation = true ∧ wUnproved.chip.getI sessAt Sess.state 2 = 1 ∧
      ([] : List Nat) ≠ wUnproved.chip.macOf 2 3 0 1 []) ∧
    (Shaped wUnproved ∧ wUnproved.chip.getI sessAt Sess.state 2 = 1 ∧ (wUnproved.chip.sess 2).openAt + 5000000 ≤ wUnproved.chip.now) ∧
    (Shaped wNet ∧ wNet.chip.anyStation = true ∧ (2 : BitVec 16) ≠ (0 : BitVec 16) ∧
      (∀ i < 16, wNet.chip.getI sessAt Sess.state i ≠ 0 → wNet.chip.getI sessAt Sess.sid i ≠ 2) ∧ wNet.openRefused 2 2 = false) ∧
    (Shaped wOldSession ∧ wOldSession.chip.getI sessAt Sess.state 2 = 2 ∧
      (wOldSession.chip.sess 2).lastAt + 30000000 ≤ wOldSession.chip.now) := by decide +kernel

theorem meets_RequestSequence :
    (Shaped wNet ∧ wNet.chip.verdict 5 6 1 1 [] (nums []) = Verdict.discard) ∧
    (Shaped wAnswered ∧ wAnswered.chip.verdict 2 6 1 1 [] (nums (goodMac 6 1 1 [])) = Verdict.repeated (some [1, 2, 3])) ∧
    (Shaped wNinth ∧ wNinth.chip.verdict 2 6 1 1 [] (nums (goodMac 6 1 1 [])) = Verdict.full) ∧
    (Shaped wNet ∧ (wNet.chip.sess 2).pend = [] ∧ wNet.chip.verdict 2 6 1 1 [] (nums (goodMac 6 1 1 [])) = Verdict.process) ∧
    (Shaped wNet ∧ (wNet.chip.sess 2).pend = [] ∧
      wNet.chip.verdict 2 5 1 1 [] (nums (goodMac 5 1 1 [])) = Verdict.process) := by decide +kernel

theorem meets_ReadsWritesAndForces :
    (Shaped wNet ∧ (wNet.chip.sess 5).pend = [] ∧ (wNet.chip.getI sessAt Sess.state 5 ≠ 2 ∨ wNet.chip.restricted = true ∧
      1 ≠ imageAt + 32)) ∧
    (Shaped wRestricted ∧ (wRestricted.chip.sess 2).pend = [] ∧
      wRestricted.chip.verdict 2 32 1 1 (List.flatMap (leBytes 4) [1 * 2 ^ 24 + 1 * 2 ^ 16 + 1 * 2 ^ 8 + 1, 1, 1, 1]) (nums (goodMac 32 1 1 (List.flatMap (leBytes 4) [1 * 2 ^ 24 + 1 * 2 ^ 16 + 1 * 2 ^ 8 + 1, 1, 1, 1]))) = Verdict.process ∧
      wRestricted.chip.restricted = true) ∧
    (Shaped wObserver ∧ (wObserver.chip.sess 2).pend = [] ∧
      wObserver.chip.verdict 2 32 1 1 (List.flatMap (leBytes 4) [1 * 2 ^ 24 + 1 * 2 ^ 16 + 1 * 2 ^ 8 + 1, 1, 1, 1]) (nums (goodMac 32 1 1 (List.flatMap (leBytes 4) [1 * 2 ^ 24 + 1 * 2 ^ 16 + 1 * 2 ^ 8 + 1, 1, 1, 1]))) = Verdict.process ∧
      wObserver.chip.restricted = false ∧ wObserver.chip.roleIn 2 [2, 3] = false) ∧
    (Shaped wNet ∧ (wNet.chip.sess 2).pend = [] ∧ wNet.chip.roleIn 2 [1, 2, 3] = true ∧ wNet.chip.restricted = false ∧
      wNet.chip.accessOf 2684354570 = 0 ∧ isInst 2684354570 = false ∧ isConst 2684354570 = false ∧ hasAccess 2684354570 Access.onl = false ∧
      hasAccess 2684354570 Access.cmd = false ∧ hasAccess 2684354570 Access.w1c = true ∧ 8 ≤ spaceOf 2684354570) := by decide +kernel

theorem meets_ReadsWritesAndForces_2 :
    (Shaped wNet ∧ (wNet.chip.sess 2).pend = [] ∧
      wNet.chip.verdict 2 33 1 1 (leBytes 4 1) (nums (goodMac 33 1 1 (leBytes 4 1))) = Verdict.process ∧ wNet.chip.restricted = false ∧
      wNet.chip.roleIn 2 [2, 3] = true ∧ 1 < 256 ∧ wNet.chip.holder = true ∧ wNet.chip.forceTaken 1 = false) ∧
    (Shaped wForceable ∧ (wForceable.chip.sess 2).pend = [] ∧
      wForceable.chip.verdict 2 32 4 4 (List.flatMap (leBytes 4) [4 * 2 ^ 24 + 4 * 2 ^ 16 + 4 * 2 ^ 8 + 4, 4, 4, 4]) (nums (goodMac 32 4 4 (List.flatMap (leBytes 4) [4 * 2 ^ 24 + 4 * 2 ^ 16 + 4 * 2 ^ 8 + 4, 4, 4, 4]))) = Verdict.process ∧
      wForceable.chip.restricted = false ∧ wForceable.chip.roleIn 2 [2, 3] = true ∧ wForceable.chip.forceTarget 4 4 4 4 4 = 0 ∧
      wForceable.chip.forceRefusal 4 4 4 4 4 = 0 ∧ wForceable.chip.get engineAt Engine.state = 1 ∧
      List.find? (fun i => !wForceable.chip.forceTaken i) (List.range 256) = some 0) ∧
    (Shaped wSeq300 ∧ (wSeq300.chip.sess 2).pend = [] ∧
      wSeq300.chip.verdict 2 33 300 300 (leBytes 4 300) (nums (goodMac 33 300 300 (leBytes 4 300))) = Verdict.process ∧
      wSeq300.chip.restricted = false ∧ wSeq300.chip.roleIn 2 [2, 3] = true ∧ 256 ≤ 300) ∧
    (Shaped wNet ∧ (wNet.chip.sess 2).pend = [] ∧
      wNet.chip.verdict 2 16 1 1 (leBytes 4 (List.map (fun x => x.toNat) [(1 : BitVec 32)]).length ++ List.flatMap (leBytes 4) (List.map (fun x => x.toNat) [(1 : BitVec 32)])) (nums (goodMac 16 1 1 (leBytes 4 1 ++ leBytes 4 1))) = Verdict.process) := by decide +kernel

theorem meets_ReadsWritesAndForces_3 :
    (Shaped wForced ∧ (wForced.chip.sess 2).pend = [] ∧
      wForced.chip.verdict 2 33 5 5 (leBytes 4 5) (nums (goodMac 33 5 5 (leBytes 4 5))) = Verdict.process ∧ wForced.chip.restricted = false ∧
      wForced.chip.roleIn 2 [2, 3] = true ∧ 5 < 256 ∧ wForced.chip.holder = true ∧ wForced.chip.forceTaken 5 = true ∧
      wForced.chip.get engineAt Engine.state = 1) ∧
    (Shaped wRestricted ∧ (wRestricted.chip.sess 2).pend = [] ∧ [((1 : BitVec 32), (1 : BitVec 32))] ≠ [] ∧
      wRestricted.chip.restricted = true ∧ ([((1 : BitVec 32), (1 : BitVec 32))].all fun p => p.1.toNat != imageAt + 32) = true ∧
      wRestricted.chip.verdict 2 18 1 1 (leBytes 4 (List.map (fun p => (p.1.toNat, p.2.toNat)) [((1 : BitVec 32), (1 : BitVec 32))]).length ++ List.flatMap (fun p => leBytes 4 p.1 ++ leBytes 4 p.2) (List.map (fun p => (p.1.toNat, p.2.toNat)) [((1 : BitVec 32), (1 : BitVec 32))])) (nums (goodMac 18 1 1 (leBytes 4 1 ++ leBytes 4 1 ++ leBytes 4 1))) = Verdict.process) := by decide +kernel

theorem meets_KeysFuseAndCalendar :
    (Shaped wOfficer2 ∧ (wOfficer2.chip.sess 2).pend = [] ∧
      wOfficer2.chip.verdict 2 81 2 2 ([2, 2, 0, 0] ++ nums (List.replicate 32 9)) (nums (goodMac 81 2 2 ([2, 2, 0, 0] ++ List.replicate 32 9))) = Verdict.process ∧
      wOfficer2.chip.roleIn 2 [3] = true ∧ (2 : BitVec 8) = (2 : BitVec 8) ∧ (nth (9, []) wOfficer2.flash.keys 2).1 = 1) ∧
    (Shaped wOfficerRevoked ∧ (wOfficerRevoked.chip.sess 2).pend = [] ∧
      wOfficerRevoked.chip.verdict 2 81 2 2 ([2, 2, 0, 0] ++ nums (List.replicate 32 9)) (nums (goodMac 81 2 2 ([2, 2, 0, 0] ++ List.replicate 32 9))) = Verdict.process ∧
      wOfficerRevoked.chip.roleIn 2 [3] = true ∧ ((2 : BitVec 8) = (1 : BitVec 8) ∧
      (nth (9, []) wOfficerRevoked.flash.keys 2).1 ≠ 0 ∨ (2 : BitVec 8) = (2 : BitVec 8) ∧
      (nth (9, []) wOfficerRevoked.flash.keys 2).1 ≠ 1)) ∧
    (Shaped wChunks1 ∧ (wChunks1.chip.sess 2).pend = [] ∧
      wChunks1.chip.verdict 2 48 1 1 (leBytes 4 1 ++ leBytes 2 [1, 2, 3, 4].length ++ [0, 0] ++ nums [1, 2, 3, 4]) (nums (goodMac 48 1 1 (leBytes 4 1 ++ leBytes 2 4 ++ [0, 0, 1, 2, 3, 4]))) = Verdict.process ∧
      wChunks1.chip.roleIn 2 [2, 3] = true ∧ wChunks1.chip.chunkOk 2 1 [1, 2, 3, 4].length = true) ∧
    (Shaped wNet ∧ (wNet.chip.sess 2).pend = [] ∧
      wNet.chip.verdict 2 48 1 1 (leBytes 4 1 ++ leBytes 2 [1, 2, 3, 4].length ++ [0, 0] ++ nums [1, 2, 3, 4]) (nums (goodMac 48 1 1 (leBytes 4 1 ++ leBytes 2 4 ++ [0, 0, 1, 2, 3, 4]))) = Verdict.process ∧
      wNet.chip.roleIn 2 [2, 3] = true ∧ wNet.chip.chunkOk 2 1 [1, 2, 3, 4].length = false) := by decide +kernel

theorem meets_KeysFuseAndCalendar_2 :
    (Shaped wOfficer ∧ (wOfficer.chip.sess 2).pend = [] ∧
      wOfficer.chip.verdict 2 81 1 1 ([1, 1, 0, 0] ++ nums (List.replicate 32 9)) (nums (goodMac 81 1 1 ([1, 1, 0, 0] ++ List.replicate 32 9))) = Verdict.process ∧
      wOfficer.chip.roleIn 2 [3] = true ∧ (1 : BitVec 8) = (1 : BitVec 8) ∧ (nth (9, []) wOfficer.flash.keys 1).1 = 0) ∧
    (Shaped wOfficer ∧ (wOfficer.chip.sess 2).pend = [] ∧
      wOfficer.chip.verdict 2 82 1 1 [70, 85, 83, 69] (nums (goodMac 82 1 1 [70, 85, 83, 69])) = Verdict.process ∧
      wOfficer.chip.roleIn 2 [3] = true) ∧
    (Shaped wOfficer ∧ (wOfficer.chip.sess 2).pend = [] ∧
      wOfficer.chip.verdict 2 83 1 1 (leBytes 8 1) (nums (goodMac 83 1 1 (leBytes 8 1))) = Verdict.process ∧
      wOfficer.chip.roleIn 2 [2, 3] = true ∧ wOfficer.chip.net.locked = false) ∧
    (Shaped wOfficer ∧ (wOfficer.chip.sess 2).pend = [] ∧
      wOfficer.chip.verdict 2 84 1 1 [82, 83, 84, 82] (nums (goodMac 84 1 1 [82, 83, 84, 82])) = Verdict.process ∧
      wOfficer.chip.roleIn 2 [2, 3] = true ∧ (¬(wOfficer.chip.lease = 2 ∧ wOfficer.chip.get pairAt Pair.partner_state = 4))) ∧
    (Shaped wNet ∧ (wNet.chip.sess 2).pend = [] ∧
      wNet.chip.verdict 2 82 1 1 [70, 85, 83, 69] (nums (goodMac 82 1 1 [70, 85, 83, 69])) = Verdict.process ∧
      wNet.chip.roleIn 2 [3] = false) := by decide +kernel

theorem meets_KeysFuseAndCalendar_3 :
    (Shaped wLocked ∧ (wLocked.chip.sess 2).pend = [] ∧
      wLocked.chip.verdict 2 83 1 1 (leBytes 8 1) (nums (goodMac 83 1 1 (leBytes 8 1))) = Verdict.process ∧
      wLocked.chip.roleIn 2 [2, 3] = true ∧ wLocked.chip.net.locked = true) ∧
    (Shaped wPairHolder ∧ (wPairHolder.chip.sess 2).pend = [] ∧
      wPairHolder.chip.verdict 2 84 1 1 [82, 83, 84, 82] (nums (goodMac 84 1 1 [82, 83, 84, 82])) = Verdict.process ∧
      wPairHolder.chip.roleIn 2 [2, 3] = true ∧ wPairHolder.chip.lease = 2 ∧ wPairHolder.chip.get pairAt Pair.partner_state = 4) ∧
    (Shaped wNet ∧ (wNet.chip.sess 2).pend = [] ∧
      wNet.chip.verdict 2 80 1 1 ([3, 0, 0, 0] ++ nums [1, 2, 3, 4]) (nums (goodMac 80 1 1 [3, 0, 0, 0, 1, 2, 3, 4])) = Verdict.process ∧
      ((keyTargets (wNet.chip.getI sessAt Sess.role 2)).contains 3 = false ∨ ((List.zipWith (fun x1 x2 => x1 ^^^ x2) (nums [(1 : Byte), (2 : Byte), (3 : Byte), (4 : Byte)]) (hmac (wNet.chip.sess 2).key (skKY ++ leBytes 4 1))).all fun x => x == 0) = true ∧
      (3 : BitVec 8) = (3 : BitVec 8))) ∧
    (Shaped wNet ∧ (wNet.chip.sess 2).pend = [] ∧
      wNet.chip.verdict 2 80 1 1 ([1, 0, 0, 0] ++ nums [1, 2, 3, 4]) (nums (goodMac 80 1 1 [1, 0, 0, 0, 1, 2, 3, 4])) = Verdict.process ∧
      (keyTargets (wNet.chip.getI sessAt Sess.role 2)).contains 1 = true ∧
      (((List.zipWith (fun x1 x2 => x1 ^^^ x2) (nums [(1 : Byte), (2 : Byte), (3 : Byte), (4 : Byte)]) (hmac (wNet.chip.sess 2).key (skKY ++ leBytes 4 1))).all fun x => x == 0) = false ∨ (1 : BitVec 8) ≠ (3 : BitVec 8))) := by decide +kernel

theorem meets_RecordsAndStore :
    (Shaped wRecMasked ∧ wRecMasked.chip.selects 4 0 = false) ∧
    (Shaped wRec ∧ wRec.chip.selects 4 0 = true ∧ wRec.chip.sys.fenced.testBit 1 = false ∧ wRec.chip.get recdAt Recd.state ≠ 2 ∧
      (recordMaker 4 0 ≠ 1 → wRec.chip.getBit (regionAt (recordMaker 4 0)) Region.unreached 1 = false) ∧ wRec.chip.hasPlace 0 = true) ∧
    (Shaped wRec1 ∧ wRec1.chip.get recdAt Recd.state = 1 ∧ wRec1.chip.recd.buffer = [rec5 40] ∧ (rec5 40).seq = some 40 ∧
      wRec1.chip.recd.pairWait.contains 40 = false ∧ (List.map (fun x => x.1) wRec1.flash.map).contains (stripeOf 40) = true) ∧
    (Shaped wNetDown ∧ wNetDown.chip.get recdAt Recd.state ≠ 1) ∧
    (Shaped wRec ∧ wRec.flash.erasing = none) ∧
    (Shaped wErasingStripe ∧ wErasingStripe.flash.erasing = some 5) ∧
    (Shaped wRec ∧ wRec.chip.recd.pairWait.contains 1 = false) ∧
    (Shaped wRecFull ∧ wRecFull.chip.selects 5 0 = true ∧ wRecFull.chip.sys.fenced.testBit 1 = false ∧
      wRecFull.chip.get recdAt Recd.state ≠ 2 ∧
      (recordMaker 5 0 ≠ 1 → wRecFull.chip.getBit (regionAt (recordMaker 5 0)) Region.unreached 1 = false) ∧
      wRecFull.chip.hasPlace 0 = false) := by decide +kernel

theorem meets_RecordsAndStore_2 :
    (Shaped wRecWaitsNew ∧ wRecWaitsNew.chip.recd.pairWait.contains 41 = true ∧
      List.find? (fun e => e.seq == some 41 && e.source == 5) wRecWaitsNew.chip.recd.buffer = some { seq := some 41, stamp := 0, tick := 19999000, source := 5, region := 1, cls := 2, severity := 1, subject := 3, payload := [0, 0, 0, 0, 0, 0, 0, 0, 0, 0, 0, 0, 0, 0, 0, 0, 0, 0, 0, 0, 0, 0, 0, 0, 0, 0, 0, 0, 0, 0, 0, 0] } ∧
      true = true ∧
      decide (10000 ≤ (wRecWaitsNew.chip.tick + 2 ^ 32 - (EvRec.mk (some 41) 0 19999000 5 1 2 1 3 [0, 0, 0, 0, 0, 0, 0, 0, 0, 0, 0, 0, 0, 0, 0, 0, 0, 0, 0, 0, 0, 0, 0, 0, 0, 0, 0, 0, 0, 0, 0, 0]).tick) % 2 ^ 32) = false) ∧
    (Shaped wRecWaits ∧ wRecWaits.chip.recd.pairWait.contains 41 = true ∧
      List.find? (fun e => e.seq == some 41 && e.source == 5) wRecWaits.chip.recd.buffer = some (rec5 41) ∧
      (false = false ∨ decide (10000 ≤ (wRecWaits.chip.tick + 2 ^ 32 - (rec5 41).tick) % 2 ^ 32) = true)) := by decide +kernel

theorem meets_BandsAndWindows :
    (Shaped wRec ∧ wRec.chip.roleIn 9 [2, 3] = false) ∧
    (Shaped wBand ∧ wBand.chip.roleIn 2 [2, 3] = true ∧ wBand.chip.get recdAt Recd.result ≠ 1 ∧ 3 < 64 ∧
      wBand.chip.getI bandAt Band.b_state 3 = 2) ∧
    (Shaped wRec ∧ wRec.chip.roleIn 2 [2, 3] = true ∧ wRec.chip.get recdAt Recd.result ≠ 1 ∧
      (64 ≤ 0 ∨ wRec.chip.getI bandAt Band.b_state 0 ≠ 2)) ∧
    (Shaped wRec ∧ wRec.chip.roleIn 2 [2, 3] = true ∧ wRec.chip.get recdAt Recd.result ≠ 1) ∧
    (Shaped wRec ∧ wRec.chip.roleIn 2 [2, 3] = true ∧ wRec.chip.get (winAt 0) Win.state = 0) ∧
    (Shaped wRec ∧ wRec.chip.roleIn 2 [2, 3] = true ∧ wRec.chip.ownsWindow 2 0 = false) ∧
    (Shaped wWindow ∧ wWindow.chip.roleIn 2 [2, 3] = true ∧ wWindow.chip.ownsWindow 2 1 = true ∧
      wWindow.chip.get64 (winAt 1) Win.cursor + 16 < 2 ^ 64) ∧
    (Shaped wWindow ∧ wWindow.chip.roleIn 2 [2, 3] = true ∧ wWindow.chip.ownsWindow 2 1 = true) := by decide +kernel

theorem meets_BandsAndWindows_2 :
    Shaped wWindowIdle ∧ wWindowIdle.chip.get (winAt 1) Win.state ≠ 0 ∧
      nth 0 wWindowIdle.chip.recd.winAt 1 + 60000000 ≤ wWindowIdle.chip.now := by decide +kernel

theorem meets_PanelStart :
    (wPaperUpdates.chip.waveRuns = true ∧ wPanelLoser.chip.driving = true ∧ wPanelLoser.chip.mayDrive = false) ∧
    (wPanelWantLoser.chip.panel.want = true ∧ wPanelWantLoser.chip.panel.quench = none ∧ wPanelWantLoser.chip.waveRuns = false ∧
      wPanelWantLoser.chip.mayDrive = false ∧ wPanelWantLoser.chip.driving = false ∧ wPanelWantLoser.chip.panel.s2At ≠ none) ∧
    (wPanelWant.chip.panel.want = true ∧ wPanelWant.chip.panel.quench = none ∧ wPanelWant.chip.waveRuns = false ∧ wPanelWant.chip.mayDrive = true ∧
      wPanelWant.chip.panelFit = true ∧ wPanelWant.chip.judgePanel [] = none) ∧
    (wPanelUsed.chip.panel.want = true ∧ wPanelUsed.chip.panel.quench = none ∧ wPanelUsed.chip.waveRuns = false ∧ wPanelUsed.chip.mayDrive = true ∧
      wPanelUsed.chip.panelFit = true ∧
      wPanelUsed.chip.judgePanel (List.map (fun x => BitVec.toNat x) panelMem) = some { kind := 1, h := 320, v := 240, pclk := 6000, hBlank := 80, vBlank := 20, hFront := 10, hSync := 40, vFront := 4, vSync := 6, inv := 0 }) ∧
    (wPanelOff.chip.panel.use ≠ none ∧ wPanelOff.chip.panel.retryAt ≤ wPanelOff.chip.now ∧
      (wPanelOff.chip.get panelAt Panel.state = 1 ∨ (wPanelOff.chip.get panelAt Panel.state = 7 ∧ wPanelOff.chip.panel.pnlEn = false)) ∧ wPanelOff.chip.mayDrive = true ∧
      wPanelOff.chip.panelFit = true) ∧
    (wPanelRails.chip.get panelAt Panel.state = 7 ∧ wPanelRails.chip.panel.pnlEn = true ∧
      wPanelRails.chip.panel.pnlAt + 100000 ≤ wPanelRails.chip.now) ∧
    (wPanelRails.chip.get panelAt Panel.state = 7 ∧ wPanelRails.chip.panel.pnlEn = true ∧
      wPanelRails.chip.panel.pnlAt + 1000000 ≤ wPanelRails.chip.now) ∧
    (wPanelClears.chip.get panelAt Panel.state = 4 ∧ wPanelClears.chip.panel.quench = none ∧
      wPanelClears.chip.panel.updAt + wPanelClears.chip.entryFrames wPanelClears.chip.band wPanelClears.chip.panel.clearEntry * wPanelClears.chip.frameTicks ≤ wPanelClears.chip.now) := by decide +kernel

theorem meets_PanelStart_2 :
    wPanelQuenched.chip.get panelAt Panel.state = 3 ∧ wPanelQuenched.chip.panel.lastQuench = 2 := by decide +kernel

theorem meets_PanelPictures :
    (Shaped wDisplay ∧ wDisplay.chip.driving = true ∧
      (wDisplay.chip.panel.frames = 0 ∨ wDisplay.chip.panel.frameAt + wDisplay.chip.frameTicks ≤ wDisplay.chip.now) ∧
      wDisplay.chip.mayDrive = true ∧ [2, 4].contains (wDisplay.chip.get panelAt Panel.state) = true ∧ wDisplay.chip.clkLost 0 6 = false ∧
      wDisplay.chip.tongsWait (tongsKey 0 6 13) = false) ∧
    (Shaped wPanelLoser ∧ wPanelLoser.chip.driving = true ∧
      (wPanelLoser.chip.panel.frames = 0 ∨ wPanelLoser.chip.panel.frameAt + wPanelLoser.chip.frameTicks ≤ wPanelLoser.chip.now) ∧
      wPanelLoser.chip.mayDrive = false) ∧
    (Shaped wPaper ∧ wPaper.chip.driving = true ∧ wPaper.chip.mayDrive = true ∧ Option.map (fun x => x.kind) wPaper.chip.panel.use = some 2 ∧
      wPaper.chip.get panelAt Panel.state = 2 ∧ wPaper.chip.panel.target = none ∧ wPaper.chip.panel.shown ≠ some wPaper.chip.picture ∧
      wPaper.chip.clkLost 0 6 = false ∧ wPaper.chip.tongsWait (tongsKey 0 6 13) = false) ∧
    (Shaped wPaperUpdates ∧ wPaperUpdates.chip.panel.target = some { status := none, page := 1, vals := [], fills := 0, code := false } ∧
      wPaperUpdates.chip.panel.quench = none ∧
      wPaperUpdates.chip.panel.updAt + wPaperUpdates.chip.updateFrames * wPaperUpdates.chip.frameTicks ≤ wPaperUpdates.chip.now) ∧
    (Shaped wDisplay ∧ (nth { } wDisplay.chip.panel.blink 2).en = true ∧
      (nth { } wDisplay.chip.panel.blink 2).nextAt ≤ wDisplay.chip.now) := by decide +kernel

theorem meets_PanelPictures_2 :
    (Shaped wDisplay ∧ wDisplay.chip.panel.sensor = true ∧
      (∀ (t0 : Nat), wDisplay.chip.panel.tempAt = some t0 → t0 + 1000000 ≤ wDisplay.chip.now)) ∧
    (Shaped wDisplay ∧ wDisplay.chip.get panelAt Panel.result ≠ 1 ∧ wDisplay.chip.driving = true) ∧
    (Shaped wPaper ∧ wPaper.chip.get panelAt Panel.result ≠ 1 ∧ wPaper.chip.driving = true ∧
      Option.map (fun x => x.kind) wPaper.chip.panel.use = some 2) ∧
    (Shaped wPanelOff ∧ wPanelOff.chip.get panelAt Panel.result ≠ 1 ∧ wPanelOff.chip.driving = false) ∧
    (Shaped wDisplay ∧ wDisplay.chip.panel.codeUntil = some 5 ∧ 5 ≤ wDisplay.chip.now) := by decide +kernel

theorem meets_PanelQuench :
    ((1 : Fin 8) ≠ (0 : Fin 8) ∧ wPanelOff.chip.driving = false) ∧
    ((1 : Fin 8) ≠ (0 : Fin 8) ∧ wDisplay.chip.driving = true) ∧
    (wPaperRails.chip.driving = true ∧ wPaperRails.chip.flag panelAt Panel.rails_ok = true ∧ wPaperRails.chip.panel.usedRails.contains 0 = true ∧
      inWindow (nth (0 : ℤ) wPaperRails.chip.panel.rails 0) (BitVec.toInt (50001 : BitVec 16)) = false) ∧
    (wPanelQuenches.chip.panel.quench ≠ none ∧
      (wPanelQuenches.chip.waveRuns = true → wPanelQuenches.chip.panel.updAt + ((wPanelQuenches.chip.panel.quenchAt - wPanelQuenches.chip.panel.updAt) / max 1 wPanelQuenches.chip.frameTicks + 1) * max 1 wPanelQuenches.chip.frameTicks ≤ wPanelQuenches.chip.now)) ∧
    (wPanelGrounded.chip.panel.quench = some 7 ∧ wPanelGrounded.chip.panel.pnlEn = false) ∧
    (wDisplay.chip.get panelAt Panel.result ≠ 1 ∧ wDisplay.chip.mayDrive = true ∧ wDisplay.chip.get panelAt Panel.state ≠ 0 ∧
      wDisplay.chip.get panelAt Panel.state ≠ 6) ∧
    (wPanelLoser.chip.get panelAt Panel.result ≠ 1 ∧ wPanelLoser.chip.mayDrive = false) := by decide +kernel

theorem meets_Counters :
    (Shaped wCtr ∧ (wCtr.chip.ctr 1).ones.length = 8 ∧ wCtr.chip.phase = 8 ∧ wCtr.chip.flag (ctrAt 1) Ctr.freeze = false ∧
      wCtr.chip.getI (ctrAt 1) Ctr.enable 2 ≠ 0 ∧ wCtr.chip.getI (ctrAt 1) Ctr.cls 2 ≠ 0 ∧
      wCtr.chip.getI (ctrAt 1) Ctr.value 2 = 2 ^ 32 - 1) ∧
    (Shaped wCtrOver ∧ (wCtrOver.chip.ctr 1).ones.length = 8 ∧ wCtrOver.chip.sampleReady (nth { } (wCtrOver.chip.ctr 1).ones 2) = some 100 ∧
      100 < 2 ^ 32 ∧ (nth { } (wCtrOver.chip.ctr 1).ones 2).recAt = none) ∧
    (Shaped wCtrAgain ∧ (wCtrAgain.chip.ctr 1).ones.length = 8 ∧
      wCtrAgain.chip.sampleReady (nth { } (wCtrAgain.chip.ctr 1).ones 2) = some 100 ∧ 100 < 2 ^ 32 ∧
      (nth { } (wCtrAgain.chip.ctr 1).ones 2).recAt = some 19999500 ∧ wCtrAgain.chip.now < 19999500 + 1000) ∧
    (Shaped wCtr ∧ (wCtr.chip.ctr 0).ones.length = 8 ∧ wCtr.chip.phase = 8 ∧ wCtr.chip.fitted 0 = true ∧ (wCtr.chip.ctr 0).endAt ≤ wCtr.chip.now) ∧
    (Shaped wCtr ∧ (wCtr.chip.ctr 0).ones.length = 8 ∧ wCtr.chip.opens 0 = true ∧ wCtr.chip.get (ctrAt 0) Ctr.result ≠ 1) := by decide +kernel

theorem meets_AbsentAndUndefinedAddresses :
    (spaceOf 1073741824 < 8 ∧ wSmall.chip.fitted (spaceOf 1073741824) = false) ∧
    ((13 ≤ spaceOf 4026531840 ∨ wNet.chip.defined 4026531840 = false) ∧
      (spaceOf 4026531840 < 8 → wNet.chip.fitted (spaceOf 4026531840) = true ∧
      wNet.chip.regionClosed (spaceOf 4026531840) = false)) := by decide +kernel

end Sys2Proof.Tests
end

