-- ==== Sys2Proof/Tests/Slice0.lean ====
section
/-! SUPPORT. Tests: an ill-formed command for each check of WellFormed.lean, which refuses it, and small facts worked out by
hand from the spec's examples and from the standards it cites. -/

namespace Sys2Proof.Tests
open Sys2Proof Sys2Proof.Machine

/-! ### Well-formedness: a term for each check, which refuses it -/

/-- Sixteen bytes, a mac's length. -/
def m16 : List Byte := List.replicate 16 0

theorem test_wf_supply : (Instr.supplyMeasurementUpdate 0 0 0 0 0 0 (List.replicate 7 0) (List.replicate 8 0)).wf = false ∧
    (Instr.supplyMeasurementUpdate 0 0 0 0 0 0 (List.replicate 8 0) (List.replicate 9 0)).wf = false ∧
    (Instr.supplyMeasurementUpdate 0 0 0 0 0 0 (List.replicate 8 0) (List.replicate 8 0)).wf = true := by decide
theorem test_wf_enumerated : (Instr.s2Enumerated 0 0 0 0 []).wf = false := by decide
theorem test_wf_restart : (Instr.serviceRestart 2 1 1 []).wf = false ∧ (Instr.serviceRestart 2 1 1 m16).wf = true := by decide
theorem test_wf_chunk : (Instr.chunkWrite 2 1 1 0 [1] []).wf = false ∧ (Instr.chunkWrite 2 1 1 0 [] m16).wf = false ∧
    (Instr.chunkWrite 2 1 1 0 (List.replicate 1025 0) m16).wf = false := by decide +kernel
theorem test_wf_force : (Instr.forceSet 2 1 1 1 0 0 0 0 0 0 []).wf = false ∧ (Instr.forceRelease 2 1 1 5 []).wf = false := by decide
theorem test_wf_slice : (Instr.sliceStopped 1 0).wf = false ∧ (Instr.sliceStopped 1 8).wf = true := by decide
theorem test_wf_safety_frame : (Instr.safetyFrameReceive 1 (List.replicate 1501 0)).wf = false := by decide +kernel
/-- 9 bytes fit no classic frame, FD frames have no length 9 and no remote frame, and 2048 is no 11-bit identifier. -/
theorem test_wf_can : (Instr.canFrameReceived 1 5 false false false false false (List.replicate 9 0)).wf = false ∧
    (Instr.canFrameReceived 1 5 false true false false false (List.replicate 9 0)).wf = false ∧
    (Instr.canFrameReceived 1 5 false false true false false []).wf = false ∧
    (Instr.canFrameReceived 1 5 false true false false true []).wf = false ∧
    (Instr.canFrameReceived 1 2048 false false false false false []).wf = false ∧
    (Instr.canFrameReceived 1 2048 true true true false false (List.replicate 64 0)).wf = true := by decide
theorem test_wf_plug : (Instr.plugRead 1 []).wf = false := by decide
theorem test_wf_datagram : (Instr.datagramReceive 0 0 none none false (List.replicate 1473 0)).wf = false := by decide +kernel
theorem test_wf_open : (Instr.sessionOpen 0 0 0 0 0 [] m16 1).wf = false ∧ (Instr.sessionOpen 0 0 0 0 0 m16 [] 1).wf = false := by decide
theorem test_wf_session : (Instr.proofRequest 2 1 []).wf = false ∧ (Instr.sessionClose 2 1 1 []).wf = false ∧
    (Instr.keepalive 2 1 1 []).wf = false := by decide
theorem test_wf_read : (Instr.readWords 2 1 1 [0] []).wf = false ∧ (Instr.readWords 2 1 1 [] m16).wf = false ∧
    (Instr.readWords 2 1 1 (List.replicate 65 0) m16).wf = false := by decide
theorem test_wf_write : (Instr.writeWords 2 1 1 [(0, 0)] []).wf = false ∧ (Instr.writeWords 2 1 1 [] m16).wf = false ∧
    (Instr.writeWords 2 1 1 (List.replicate 17 (0, 0)) m16).wf = false := by decide
theorem test_wf_keys : (Instr.setKey 2 1 1 0 (List.replicate 32 0) []).wf = false ∧ (Instr.setKey 2 1 1 0 [] m16).wf = false ∧
    (Instr.keySlot 2 1 1 0 1 (List.replicate 32 0) []).wf = false ∧ (Instr.keySlot 2 1 1 0 1 [] m16).wf = false ∧
    (Instr.fuse 2 1 1 []).wf = false ∧ (Instr.calset 2 1 1 0 []).wf = false := by decide
theorem test_wf_panel : (Instr.panelStart [0]).wf = false ∧ (Instr.quench 0).wf = false ∧ (Instr.panelStart []).wf = true := by decide
theorem test_wf_announce : (Instr.announceMessage 0 0 [] 0 false false 0).wf = false := by decide
theorem test_wf_echo : (Instr.echoRequest 0 0 0 0 0 false (List.replicate 1473 0)).wf = false := by decide +kernel

/-! ### No row of the table has bits -/

theorem test_no_word (n w : Nat) : decodeTableWord n w = none := rfl

/-! ### Checksums: the check values of their standards -/

/-- The ASCII digits 1 to 9. -/
def digits : List Nat := [0x31, 0x32, 0x33, 0x34, 0x35, 0x36, 0x37, 0x38, 0x39]

/-- CRC-32 of IEEE 802.3, CRC-32C and CRC-16/CCITT-FALSE, as their catalogues give them. -/
theorem test_crc : crc32 digits = 0xCBF43926 ∧ crc32c digits = 0xE3069283 ∧ crc16 digits = 0x29B1 := by decide +kernel

/-- FIPS 180-4, "abc". -/
theorem test_sha256 : (sha256 [0x61, 0x62, 0x63]).take 4 = [0xBA, 0x78, 0x16, 0xBF] := by decide +kernel

/-! ### Examples of the spec -/

/-- R125: the weight word 0x000C_8888 passes, 0x001C_8888 sets a reserved bit, 0x000C_8880 has a weight of 0. -/
theorem test_weight_word : valueBad 0x3000000C 0x000C8888 = false ∧ valueBad 0x3000000C 0x001C8888 = true ∧
    valueBad 0x3000000C 0x000C8880 = true := by decide +kernel

/-- R196's example: 12.0 mA on 4.0 to 20.0 and 0.0 to 12.5 is 6.25. -/
theorem test_scale_example : rAdd 0 (rMul (rDiv (rSub (rat 12 1) (rat 4 1)) (rSub (rat 20 1) (rat 4 1))) (rSub (rat 125 10) 0)) =
    rat 625 100 := by decide +kernel

end Sys2Proof.Tests
end

section
/-! SUPPORT. What a parameter access that reaches no word returns and does (R8, R13): the status of an absent region, and of an
address that no chapter defines. -/

namespace Sys2Proof.Machine

/-- The reserved spaces 13 to 15 hold no block of Table 20.1 (R13). -/
theorem Chip.defined_of_reserved (c : Chip) {a : Nat} (h : 13 ≤ spaceOf a) : c.defined a = false := by
  have hinst : isInst a = false := by simp [isInst]; omega
  have hconst : isConst a = false := by simp [isConst]; omega
  have hblock : blockFields (spaceOf a) (blockOf a) = [] := by
    unfold blockFields
    rw [if_neg, if_neg, if_neg, if_neg, if_neg, if_neg] <;> omega
  simp [Chip.defined, hinst, hconst, fieldsAt, hblock]

theorem Chip.accessOf_absent (c : Chip) {a : Nat} (hs : spaceOf a < 8) (hf : c.fitted (spaceOf a) = false) :
    c.accessOf a = accAbsent := by
  simp [Chip.accessOf, hs, hf]

/-- An undefined word has no status before "no such parameter", unless its region is absent or fenced (R530). -/
theorem Chip.accessOf_undefined (c : Chip) {a : Nat} (hd : c.defined a = false)
    (hr : spaceOf a < 8 → c.fitted (spaceOf a) = true ∧ c.regionClosed (spaceOf a) = false) : c.accessOf a = accNone := by
  by_cases hs : spaceOf a < 8
  · obtain ⟨hf, hc⟩ := hr hs
    simp [Chip.accessOf, hf, hc, hd]
  · simp [Chip.accessOf, hs, hd]

/-- An access that is not served returns its status and no data. -/
theorem Chip.readWord_of_refused (c : Chip) {a : Nat} (h : c.accessOf a ≠ accOk) : c.readWord a = (c.accessOf a, 0) := by
  unfold Chip.readWord
  split
  next h0 => exact absurd h0 h
  next => rfl

/-- A status for which no message waits changes nothing. -/
@[simp] theorem State.wrote_none (s : State) (status : Nat) : s.wrote none status = s := rfl

/-- A write that is not served has no effect, in the restricted module as in any other. -/
theorem State.writeWord_none_of_refused (s : State) (i v : Nat) {a : Nat} (h : s.chip.accessOf a ≠ accOk) :
    s.writeWord i a v none = s := by
  unfold State.writeWord
  refine ite_eq_iff'.2 ⟨fun _ => s.wrote_none 6, fun _ => ?_⟩
  generalize s.chip.accessOf a = status at h ⊢
  cases status with
  | zero => exact absurd rfl h
  | succ n => exact s.wrote_none (n + 1)

theorem exec_parameterWrite_of_refused (s : State) (session : Fin 16) (addr value : BitVec 32)
    (h : s.chip.accessOf addr.toNat ≠ accOk) : exec (.parameterWrite session addr value) s = .next s := by
  change execParameterWrite session addr value s = .next s
  rw [execParameterWrite, s.writeWord_none_of_refused _ _ h, ite_self]

/-- What a session sees of an access that is not served, read and write together. -/
theorem access_of_refused (s : State) (session : Fin 16) (addr value : BitVec 32) {status : Nat}
    (h : s.chip.accessOf addr.toNat = status) (hne : status ≠ accOk) :
    s.chip.readWord addr.toNat = (status, 0) ∧ exec (.parameterWrite session addr value) s = .next s := by
  subst h
  exact ⟨s.chip.readWord_of_refused hne, exec_parameterWrite_of_refused s session addr value hne⟩

/-- Settles O57: an absent region and an undefined word each have a status of their own, and an access with any status but
"done" returns no data and changes nothing. -/
theorem absentAndUndefinedAddresses : Obligations.AbsentAndUndefinedAddresses := by
  intro s session addr value
  constructor
  · intro hs hf
    exact access_of_refused s session addr value (s.chip.accessOf_absent hs hf) (by decide)
  · intro hundef hr
    have hd : s.chip.defined addr.toNat = false := hundef.elim s.chip.defined_of_reserved id
    exact access_of_refused s session addr value (s.chip.accessOf_undefined hd hr) (by decide)

end Sys2Proof.Machine
end

section
/-! SUPPORT. Counting, said once: an event that the performance counters see (R501 to R505) changes the words of counter blocks
and what the counters hold beside them, nothing else. -/

namespace Sys2Proof.Machine

/-- `d` is `c` but for the words of counter blocks, the counters' volatile part and the free values drawn. -/
def Chip.CountOnly (c d : Chip) : Prop :=
  (∃ rg cs n, d = { c with regs := rg, ctrs := cs, freeCtr := n }) ∧ ∀ a, ¬ counterWord a → d.word a = c.word a

theorem Chip.CountOnly.rfl (c : Chip) : c.CountOnly c := ⟨⟨c.regs, c.ctrs, c.freeCtr, Eq.refl c⟩, fun _ _ => Eq.refl _⟩

theorem Chip.CountOnly.trans {c d e : Chip} (h : c.CountOnly d) (k : d.CountOnly e) : c.CountOnly e := by
  obtain ⟨⟨rg, cs, n, hd⟩, hw⟩ := h
  obtain ⟨⟨rg', cs', n', he⟩, hw'⟩ := k
  exact ⟨⟨rg', cs', n', by rw [he, hd]⟩, fun a ha => (hw' a ha).trans (hw a ha)⟩

/-- Changes made in turn for the elements of a list. -/
theorem Chip.CountOnly.each {α : Type} {f : Chip → α → Chip} (l : List α)
    (h : ∀ (c : Chip) (x : α), x ∈ l → c.CountOnly (f c x)) (c : Chip) : c.CountOnly (c.each l f) := by
  induction l generalizing c with
  | nil => exact .rfl c
  | cons x xs ih =>
    exact (h c x List.mem_cons_self).trans (ih (fun c y hy => h c y (List.mem_cons_of_mem _ hy)) (f c x))

/-- A group of a field of a counter block stands in that block. -/
theorem counterWord_at (f : Field) {r j : Nat} (hr : r < 8) (hj : j < 8) (h1 : f.first < 4096) (h2 : f.stride ≤ 64) :
    counterWord (f.at (ctrAt r) j) := by
  have : j * f.stride ≤ 7 * 64 := Nat.mul_le_mul (by omega) h2
  simp only [counterWord, spaceOf, blockOf, Field.at, ctrAt, blockAddr]
  omega

theorem Chip.CountOnly.putI (c : Chip) {b : Nat} {f : Field} {i : Nat} (v : Nat) (h : counterWord (f.at b i)) :
    c.CountOnly (c.putI b f i v) :=
  ⟨⟨(c.putI b f i v).regs, c.ctrs, c.freeCtr, Eq.refl _⟩, fun _ ha => Chip.word_putI_other c v (fun e => ha (e ▸ h))⟩

theorem Chip.CountOnly.setCtrs (c : Chip) (cs : List CtrSt) : c.CountOnly { c with ctrs := cs } :=
  ⟨⟨c.regs, cs, c.freeCtr, Eq.refl _⟩, fun _ _ => Eq.refl _⟩

theorem Chip.CountOnly.fresh (c : Chip) : c.CountOnly c.fresh :=
  ⟨⟨c.regs, c.ctrs, c.freeCtr + 1, Eq.refl _⟩, fun _ _ => Eq.refl _⟩

theorem Chip.counterOver_countOnly (c : Chip) {r : Nat} (j : Nat) (hr : r < 8) : c.CountOnly (c.counterOver r j) := by
  have hovf : c.CountOnly (c.putBit (ctrAt r) Ctr.ovf j true) :=
    .putI c _ (counterWord_at _ hr (by decide) (by decide) (by decide))
  unfold Chip.counterOver
  simp only []
  split
  · exact hovf
  split
  · exact hovf.trans (.putI _ _ (counterWord_at _ hr (by decide) (by decide) (by decide)))
  · exact hovf.trans ((Chip.CountOnly.fresh _).trans (.setCtrs _ _))

theorem Chip.countEvent_countOnly (c : Chip) {r : Nat} (e : CtrEvent) (hr : r < 8) : c.CountOnly (c.countEvent r e) := by
  refine Chip.CountOnly.each _ (fun c j hj => ?_) c
  have hj8 : j < 8 := List.mem_range.1 (List.mem_filter.1 hj).1
  have hcount : ∀ v f, c.CountOnly ((c.putI (ctrAt r) Ctr.value j v).setCtr r j f) := fun v _ =>
    (Chip.CountOnly.putI c v (counterWord_at _ hr hj8 (by decide) (by decide))).trans (.setCtrs _ _)
  simp only []
  generalize (if c.getI (ctrAt r) Ctr.unit j = 1 then e.bytes else 1) = n
  split
  · exact (hcount _ _).trans (Chip.counterOver_countOnly _ j hr)
  · exact hcount _ _

theorem Chip.countWord_countOnly (c : Chip) (a : Nat) (write : Bool) (master priv : Nat) :
    c.CountOnly (c.countWord a write master priv) := by
  unfold Chip.countWord
  split
  · exact .rfl c
  · exact c.countEvent_countOnly _ (by omega)

theorem Chip.sampleCommit_countOnly (c : Chip) (r s : Nat) : c.CountOnly (c.sampleCommit r s) := .setCtrs c _

end Sys2Proof.Machine
end

section
/-! SUPPORT. The commit of an invocation, said once (R31, R151, R185): what a later read of its state words and outputs gives, what
its bound channel outputs take, and what it leaves. A block that only evaluates then runs as `Ran` says. -/

namespace Sys2Proof.Machine

/-! ### Association lists -/

theorem assoc_assocSet {α : Type} (l : List (Nat × α)) (k j : Nat) (v : α) :
    assoc (assocSet l k v) j = if j = k then some v else assoc l j := by
  induction l with
  | nil => simp [assocSet, assoc, eq_comm]
  | cons e t ih =>
    obtain ⟨m, w⟩ := e
    by_cases hm : m = k
    · subst hm
      by_cases hj : m = j
      · simp [assocSet, assoc, hj]
      · simp [assocSet, assoc, hj, Ne.symm hj]
    · by_cases hj : m = j
      · subst hj
        simp [assocSet, assoc, hm]
      · simp [assocSet, assoc, hm, hj, ih]

/-! ### Types and the words of outputs -/

/-- The words one output takes (R185). -/
def outputWords (t v : Nat) : List Nat := if t = tyCal then [v % 2 ^ 32, v / 2 ^ 32 % 2 ^ 32] else [tyNorm t v]

theorem outputWords_length (t v : Nat) : (outputWords t v).length = tyWords t := by
  unfold outputWords tyWords
  split
  · next h => rw [if_pos (show t = 6 from h)]; rfl
  · next h => rw [if_neg (show ¬ t = 6 from h)]; rfl

theorem outsToWords_cons (t v : Nat) (ts vs : List Nat) :
    outsToWords (t :: ts) (v :: vs) = outputWords t v ++ outsToWords ts vs := rfl

theorem outWords_cons (t : Nat) (ts : List Nat) : outWords (t :: ts) = tyWords t + outWords ts := by
  simp only [outWords, ← List.sum_eq_foldl, List.map_cons, List.sum_cons]

theorem outsToWords_length_le (ts vs : List Nat) : (outsToWords ts vs).length ≤ outWords ts := by
  induction ts generalizing vs with
  | nil => exact Nat.le_refl 0
  | cons t ts ih =>
    cases vs with
    | nil => exact Nat.zero_le _
    | cons v vs =>
      rw [outsToWords_cons, List.length_append, outputWords_length, outWords_cons]
      exact Nat.add_le_add_left (ih vs) _

/-- Where the words of output k stand among the words of all outputs. -/
theorem outsToWords_drop {ts vs : List Nat} {k t v : Nat} (ht : ts[k]? = some t) (hv : vs[k]? = some v) :
    ∃ rest, (outsToWords ts vs).drop (outWords (ts.take k)) = outputWords t v ++ rest := by
  induction ts generalizing vs k with
  | nil => simp at ht
  | cons t' ts ih =>
    cases vs with
    | nil => simp at hv
    | cons v' vs =>
      rw [outsToWords_cons]
      cases k with
      | zero =>
        obtain rfl : t' = t := by simpa using ht
        obtain rfl : v' = v := by simpa using hv
        exact ⟨outsToWords ts vs, rfl⟩
      | succ k =>
        rw [List.take_succ_cons, outWords_cons, ← outputWords_length t' v', List.drop_append,
          List.drop_eq_nil_of_le (Nat.le_add_right _ _), Nat.add_sub_cancel_left]
        exact ih (by simpa using ht) (by simpa using hv)

theorem tyNorm_lt_of_ne_cal {t : Nat} (v : Nat) (h : t ≠ tyCal) : tyNorm t v < 2 ^ 32 := by
  unfold tyNorm
  split
  · split <;> decide
  · have hbytes : tyBytes t ≤ 4 := by
      unfold tyBytes
      rw [if_neg (show ¬ t = 6 from h)]
      split
      · decide
      · split <;> decide
    calc v % 256 ^ tyBytes t < 256 ^ tyBytes t := Nat.mod_lt _ (by positivity)
      _ ≤ 256 ^ 4 := Nat.pow_le_pow_right (by decide) hbytes
      _ = 2 ^ 32 := by decide

@[simp] theorem tyNorm_tyNorm (t v : Nat) : tyNorm t (tyNorm t v) = tyNorm t v := by
  unfold tyNorm
  split
  · split <;> rfl
  · exact Nat.mod_mod _ _

/-- A calendar stamp put together from its two words. -/
theorem tyNorm_cal_words (v : Nat) : tyNorm tyCal (v % 2 ^ 32 + 2 ^ 32 * (v / 2 ^ 32 % 2 ^ 32)) = tyNorm tyCal v := by
  have h : ∀ x, tyNorm tyCal x = x % 2 ^ 64 := fun _ => rfl
  rw [h, h]
  omega

/-! ### Instance words -/

theorem instAt_inj {r v w : Nat} : instAt r v = instAt r w ↔ v = w := Nat.add_left_cancel_iff

theorem Chip.nat_setNat_same (c : Chip) (a v : Nat) : (c.setNat a v).nat a = v % 2 ^ 32 := by
  simp [Chip.nat, Chip.setNat]

/-- Instance words written change no store beside the words. -/
theorem Chip.putInst_frame (c : Chip) (i : Inv) (k : Nat) (vs : List Nat) : ∃ rg, c.putInst i k vs = { c with regs := rg } := by
  induction vs generalizing c k with
  | nil => exact ⟨c.regs, rfl⟩
  | cons v vs ih => exact ih (c.setNat (instAt i.region (i.off + k)) v) (k + 1)

theorem Chip.putInst_word_other (c : Chip) (i : Inv) (k : Nat) (vs : List Nat) {a : Nat}
    (h : ∀ j < vs.length, a ≠ instAt i.region (i.off + (k + j))) : (c.putInst i k vs).word a = c.word a := by
  induction vs generalizing c k with
  | nil => rfl
  | cons v vs ih =>
    have hrest : ∀ j < vs.length, a ≠ instAt i.region (i.off + (k + 1 + j)) := fun j hj => by
      have := h (j + 1) (by simpa using hj)
      rwa [show k + 1 + j = k + (j + 1) by omega]
    rw [Chip.putInst, ih _ _ hrest]
    exact Chip.word_setNat_other c v (h 0 (Nat.succ_pos _))

theorem Chip.instWord_putInst_below (c : Chip) (i : Inv) {k m : Nat} (vs : List Nat) (h : m < k) :
    (c.putInst i k vs).instWord i m = c.instWord i m := by
  unfold Chip.instWord Chip.nat
  rw [Chip.putInst_word_other c i k vs (fun j _ => by rw [Ne, instAt_inj]; omega)]

theorem Chip.instWord_putInst (c : Chip) (i : Inv) (k : Nat) {vs : List Nat} {j v : Nat} (h : vs[j]? = some v) :
    (c.putInst i k vs).instWord i (k + j) = v % 2 ^ 32 := by
  induction vs generalizing c k j with
  | nil => simp at h
  | cons w vs ih =>
    cases j with
    | zero =>
      obtain rfl : w = v := by simpa using h
      exact (Chip.instWord_putInst_below _ i vs (Nat.lt_add_one k)).trans (c.nat_setNat_same _ w)
    | succ j =>
      rw [show k + (j + 1) = k + 1 + j by omega]
      exact ih _ (k + 1) (by simpa using h)

/-- Output k read where the words of the outputs stand at their place. -/
theorem Chip.instOut_of_words (c : Chip) (i : Inv) {k t v : Nat} {vs : List Nat} (ht : i.sig.outs[k]? = some t)
    (hv : vs[k]? = some v)
    (hw : ∀ j w, (outsToWords i.sig.outs vs)[j]? = some w → c.instWord i (i.sig.p + i.sig.s + j) = w % 2 ^ 32) :
    c.instOut i k = tyNorm t v := by
  obtain ⟨rest, hrest⟩ := outsToWords_drop ht hv
  have hword : ∀ j w, (outputWords t v)[j]? = some w → c.instWord i (i.sig.outOff k + j) = w % 2 ^ 32 := fun j w hj => by
    rw [Sig.outOff, Nat.add_assoc]
    refine hw _ w ?_
    rw [← List.getElem?_drop, hrest, List.getElem?_append_left (List.getElem?_eq_some_iff.1 hj).1, hj]
  have hty : nth 0 i.sig.outs k = t := by simp [nth, ht]
  simp only [Chip.instOut, hty]
  by_cases hcal : t = tyCal
  · subst hcal
    have hlo := hword 0 (v % 2 ^ 32) rfl
    have hhi := hword 1 (v / 2 ^ 32 % 2 ^ 32) rfl
    rw [Nat.add_zero] at hlo
    rw [if_pos rfl, hlo, hhi, Nat.mod_mod, Nat.mod_mod, tyNorm_cal_words]
  · have hlo := hword 0 (tyNorm t v) (by simp [outputWords, hcal])
    rw [Nat.add_zero] at hlo
    rw [if_neg hcal, hlo, Nat.mod_eq_of_lt (tyNorm_lt_of_ne_cal v hcal), tyNorm_tyNorm]

/-! ### Bound targets -/

/-- Targets put change the output images alone. -/
theorem Chip.putTarget_frame (c : Chip) (i : Inv) (k : Nat) (b : Bind) (v : Nat) :
    ∃ co so, c.putTarget i k b v = { c with eng := { c.eng with chOut := co, stOut := so } } := by
  unfold Chip.putTarget
  simp only []
  split
  · exact ⟨_, c.eng.stOut, rfl⟩
  split
  · exact ⟨c.eng.chOut, _, rfl⟩
  · exact ⟨c.eng.chOut, c.eng.stOut, rfl⟩

theorem Chip.putTargets_frame (c : Chip) (i : Inv) (k : Nat) (bs : List Bind) (vs : List Nat) :
    ∃ co so, c.putTargets i k bs vs = { c with eng := { c.eng with chOut := co, stOut := so } } := by
  induction bs generalizing c k vs with
  | nil => exact ⟨c.eng.chOut, c.eng.stOut, rfl⟩
  | cons b bs ih =>
    cases vs with
    | nil => exact ⟨c.eng.chOut, c.eng.stOut, rfl⟩
    | cons v vs =>
      obtain ⟨co, so, h⟩ := c.putTarget_frame i k b v
      obtain ⟨co', so', h'⟩ := ih (c.putTarget i k b v) (k + 1) vs
      exact ⟨co', so', by rw [Chip.putTargets, h', h]⟩

theorem Chip.putTarget_forceOf (c : Chip) (i : Inv) (k : Nat) (b : Bind) (v : Nat) :
    (c.putTarget i k b v).forceOf = c.forceOf := by
  obtain ⟨co, so, h⟩ := c.putTarget_frame i k b v
  rw [h]
  rfl

/-- The force table is as before in any chip whose words are. -/
theorem Chip.forceOf_congr {c d : Chip} (h : ∀ a, spaceOf a = 8 → d.word a = c.word a) (kind region sub index : Nat) :
    d.forceOf kind region sub index = c.forceOf kind region sub index := by
  have hget : ∀ (f : Field) (n : Nat), n ∈ List.range 256 → f.first < 4096 → f.stride ≤ 64 →
      d.getI forceAt f n = c.getI forceAt f n := fun f n hn h1 h2 => by
    have hn' : n * f.stride ≤ 255 * 64 := Nat.mul_le_mul (by have := List.mem_range.1 hn; omega) h2
    refine Chip.getI_congr (h _ ?_)
    simp only [spaceOf, Field.at, forceAt]
    omega
  refine List.find?_congr fun n hn => ?_
  rw [Chip.forceKind, Chip.forceKind, hget FEntry.ekind n hn (by decide) (by decide),
    hget FEntry.eregion n hn (by decide) (by decide), hget FEntry.esub n hn (by decide) (by decide),
    hget FEntry.eindex n hn (by decide) (by decide)]

/-- The channel a binding of kind 0x05 names. -/
def Bind.chan (b : Bind) : Nat := 16 * b.region + b.ref % 16

theorem Chip.putTarget_chOut_same (c : Chip) (i : Inv) (k : Nat) {b : Bind} (v : Nat) (hb : b.kind = 0x05)
    (hf : c.forceOf 3 i.region k i.seq = none) : assoc (c.putTarget i k b v).eng.chOut b.chan = some (b.ty, v) := by
  simp [Chip.putTarget, hb, hf, assoc_assocSet, Bind.chan]

theorem Chip.putTarget_chOut_other (c : Chip) (i : Inv) (k : Nat) {b : Bind} (v : Nat) {g : Nat}
    (h : b.kind = 0x05 → b.chan ≠ g) : assoc (c.putTarget i k b v).eng.chOut g = assoc c.eng.chOut g := by
  by_cases hb : b.kind = 0x05
  · simp only [Chip.putTarget, hb, if_true, assoc_assocSet]
    exact if_neg (h hb).symm
  · simp only [Chip.putTarget, if_neg hb]
    split <;> rfl

theorem Chip.putTargets_chOut_other (c : Chip) (i : Inv) (k : Nat) (bs : List Bind) (vs : List Nat) {g : Nat}
    (h : ∀ b ∈ bs, b.kind = 0x05 → b.chan ≠ g) : assoc (c.putTargets i k bs vs).eng.chOut g = assoc c.eng.chOut g := by
  induction bs generalizing c k vs with
  | nil => rfl
  | cons b bs ih =>
    cases vs with
    | nil => rfl
    | cons v vs =>
      rw [Chip.putTargets, ih _ _ _ (fun b' hb' => h b' (List.mem_cons_of_mem _ hb')),
        Chip.putTarget_chOut_other _ _ _ _ (h b List.mem_cons_self)]

/-- A channel that one output alone is bound to takes that output where no force replaces it. -/
theorem Chip.putTargets_chOut (c : Chip) (i : Inv) (k : Nat) {bs : List Bind} {vs : List Nat} {j v : Nat} {b : Bind}
    (hb : bs[j]? = some b) (hv : vs[j]? = some v) (hk : b.kind = 0x05) (hf : c.forceOf 3 i.region (k + j) i.seq = none)
    (hu : ∀ (m : Nat) (b' : Bind), bs[m]? = some b' → b'.kind = 0x05 → b'.chan = b.chan → m = j) :
    assoc (c.putTargets i k bs vs).eng.chOut b.chan = some (b.ty, v) := by
  induction bs generalizing c k vs j with
  | nil => simp at hb
  | cons b0 bs ih =>
    obtain ⟨v0, vs, rfl⟩ := List.exists_cons_of_ne_nil (by rintro rfl; simp at hv : vs ≠ [])
    rw [Chip.putTargets]
    cases j with
    | zero =>
      obtain rfl : b0 = b := by simpa using hb
      obtain rfl : v0 = v := by simpa using hv
      have hrest : ∀ b' ∈ bs, b'.kind = 0x05 → b'.chan ≠ b0.chan := fun b' hb' hk' hc => by
        obtain ⟨m, hm⟩ := List.mem_iff_getElem?.1 hb'
        exact absurd (hu (m + 1) b' (by simpa using hm) hk' hc) (Nat.succ_ne_zero m)
      rw [Chip.putTargets_chOut_other _ _ _ _ _ hrest]
      exact c.putTarget_chOut_same i k _ hk hf
    | succ j =>
      refine ih _ (k + 1) (by simpa using hb) (by simpa using hv) ?_ (fun m b' hm hk' hc => ?_)
      · rw [Chip.putTarget_forceOf, show k + 1 + j = k + (j + 1) by omega, hf]
      · exact Nat.succ_injective (hu (m + 1) b' (by simpa using hm) hk' hc)

/-! ### The commit -/

/-- The chip with invocation i marked as run in this cycle and its previous outputs held. -/
def Chip.marked (c : Chip) (i : Inv) : Chip :=
  { c with eng := { c.eng with
    done := i.seq :: c.eng.done
    saved := (i.seq, c.instOuts i) :: c.eng.saved
    mirReads := if c.sys.hasPair && c.holder then c.liveReads i ++ c.eng.mirReads else c.eng.mirReads
    commitAt := setAt c.eng.commitAt i.region c.now } }

/-- The marked chip with the result in the words of the invocation: what a commit has done before the counters see it. -/
def Chip.written (c : Chip) (i : Inv) (r : Res) : Chip :=
  ((c.marked i).putInst i i.sig.p (r.st.take i.sig.s)).putInst i (i.sig.p + i.sig.s) (outsToWords i.sig.outs r.outs)

/-- A commit writes the words of the invocation, lets the counters see its accesses, puts the targets and counts itself. -/
theorem Chip.commit_stages (c : Chip) {i : Inv} (r : Res) (hr : i.region < 8) :
    ∃ d, (c.written i r).CountOnly d ∧ (d.putTargets i 0 i.outs r.outs).CountOnly (c.commit i r) :=
  ⟨_, (Chip.CountOnly.each _ (fun c a _ => c.countWord_countOnly a false 0 0) _).trans
      ((Chip.sampleCommit_countOnly _ _ _).trans (Chip.CountOnly.each _ (fun c a _ => c.countWord_countOnly a true 0 0) _)),
    Chip.countEvent_countOnly _ _ hr⟩

/-- What a commit leaves beside the words: everything but the counters and the engine's marks and images. -/
theorem Chip.commit_frame (c : Chip) {i : Inv} (r : Res) (hr : i.region < 8) :
    ∃ rg cs n co so, c.commit i r =
      { c with regs := rg, ctrs := cs, freeCtr := n, eng := { (c.marked i).eng with chOut := co, stOut := so } } := by
  obtain ⟨d, ⟨⟨_, cs, n, hd⟩, -⟩, ⟨rg, cs', n', he⟩, -⟩ := c.commit_stages r hr
  obtain ⟨co, so, ht⟩ := d.putTargets_frame i 0 i.outs r.outs
  obtain ⟨_, h1⟩ := (c.marked i).putInst_frame i i.sig.p (r.st.take i.sig.s)
  obtain ⟨_, h2⟩ := ((c.marked i).putInst i i.sig.p (r.st.take i.sig.s)).putInst_frame i (i.sig.p + i.sig.s)
    (outsToWords i.sig.outs r.outs)
  refine ⟨rg, cs', n', co, so, ?_⟩
  rw [he, ht, hd, Chip.written, h2, h1]
  rfl

/-- The targets and the counters change no word outside counter blocks. -/
theorem Chip.commit_word_of_written (c : Chip) {i : Inv} (r : Res) (hr : i.region < 8) {a : Nat} (ha : ¬ counterWord a) :
    (c.commit i r).word a = (c.written i r).word a := by
  obtain ⟨d, ⟨-, hd⟩, -, he⟩ := c.commit_stages r hr
  obtain ⟨co, so, ht⟩ := d.putTargets_frame i 0 i.outs r.outs
  rw [he a ha, ht]
  exact hd a ha

theorem Chip.written_word_other (c : Chip) (i : Inv) (r : Res) {a : Nat}
    (ha : ¬ (instAt i.region (i.off + i.sig.p) ≤ a ∧ a < instAt i.region (i.off + i.sig.words))) :
    (c.written i r).word a = c.word a := by
  have hst : (r.st.take i.sig.s).length ≤ i.sig.s := List.length_take_le _ _
  have houts := outsToWords_length_le i.sig.outs r.outs
  simp only [instAt, Sig.words] at ha
  rw [Chip.written, Chip.putInst_word_other, Chip.putInst_word_other]
  · rfl
  · intro j hj
    simp only [instAt]
    omega
  · intro j hj
    simp only [instAt]
    omega

/-- A commit keeps every word outside those of the invocation and of the counter blocks. -/
theorem Chip.commit_word_other (c : Chip) {i : Inv} (r : Res) (hr : i.region < 8) {a : Nat} (ha : ¬ commitWord i a) :
    (c.commit i r).word a = c.word a := by
  obtain ⟨hinst, hctr⟩ := not_or.1 ha
  rw [c.commit_word_of_written r hr hctr, c.written_word_other i r hinst]

/-- A word of an invocation is no word of a counter block (R149). -/
theorem not_counterWord_instAt {r w : Nat} (hw : w < 12 * 2 ^ 16) : ¬ counterWord (instAt r w) := by
  simp only [counterWord, spaceOf, blockOf, instAt, blockAddr]
  omega

section
variable {s : State} {b : Blk} {q : Nat} {i : Inv} {ty : Nat}

/-- The words that a commit may change lie in the spaces of regions. -/
theorem Ready.commitWord_space (h : Ready s b q i ty) {a : Nat} (ha : commitWord i a) : spaceOf a < 8 := by
  have hr := h.region
  have hfits := h.fits
  rcases ha with ⟨-, hlt⟩ | ⟨hs, -⟩
  · simp only [instAt, blockAddr, spaceOf] at hlt ⊢
    omega
  · exact hs

theorem Ready.instWord_commit (h : Ready s b q i ty) (r : Res) {k : Nat} (hk : k < i.sig.words) :
    (s.chip.commit i r).instWord i k = (s.chip.written i r).instWord i k := by
  have hfits := h.fits
  unfold Chip.instWord Chip.nat
  rw [s.chip.commit_word_of_written r h.region (not_counterWord_instAt (by omega))]

/-- A state word read after a commit. -/
theorem Ready.stateWord_commit (h : Ready s b q i ty) {r : Res} {k v : Nat} (hk : k < i.sig.s) (hv : r.st[k]? = some v) :
    (s.chip.commit i r).instWord i (i.sig.p + k) = v % 2 ^ 32 := by
  rw [h.instWord_commit r (by simp only [Sig.words]; omega), Chip.written,
    Chip.instWord_putInst_below _ _ _ (Nat.add_lt_add_left hk _)]
  exact Chip.instWord_putInst _ _ _ (by rw [List.getElem?_take_of_lt hk, hv])

/-- An output read after a commit. -/
theorem Ready.instOut_commit (h : Ready s b q i ty) {r : Res} {k t v : Nat} (ht : i.sig.outs[k]? = some t)
    (hv : r.outs[k]? = some v) : (s.chip.commit i r).instOut i k = tyNorm t v := by
  refine Chip.instOut_of_words _ i ht hv fun j w hj => ?_
  have hj' := (List.getElem?_eq_some_iff.1 hj).1
  have hlen := outsToWords_length_le i.sig.outs r.outs
  rw [h.instWord_commit r (by simp only [Sig.words]; omega), Chip.written, Chip.instWord_putInst _ _ _ hj]

/-- A bound channel output after a commit (R171). -/
theorem Ready.chOut_commit (h : Ready s b q i ty) {r : Res} {k v : Nat} {o : Bind} (ho : i.outs[k]? = some o)
    (hv : r.outs[k]? = some v) (hk : o.kind = 0x05) (hf : s.chip.forceOf 3 i.region k i.seq = none)
    (hu : ∀ (j : Nat) (o' : Bind), i.outs[j]? = some o' → o'.kind = 0x05 → o'.chan = o.chan → j = k) :
    assoc (s.chip.commit i r).eng.chOut o.chan = some (o.ty, v) := by
  obtain ⟨d, ⟨-, hd⟩, ⟨rg, cs, n, he⟩, -⟩ := s.chip.commit_stages r h.region
  have hforce : d.forceOf 3 i.region (0 + k) i.seq = none := by
    rw [Nat.zero_add, ← hf]
    refine Chip.forceOf_congr (fun a ha => ?_) _ _ _ _
    obtain ⟨hinst, hctr⟩ := not_or.1 (fun hw : commitWord i a => absurd (h.commitWord_space hw) (by omega))
    rw [hd a hctr, s.chip.written_word_other i r hinst]
  rw [he]
  exact d.putTargets_chOut i 0 ho hv hk hforce hu

/-- A ready invocation of a block that only evaluates commits its result. -/
theorem Ready.invoke (h : Ready s b q i ty) (f : Ctx → Res) :
    s.chip.invoke b f q = (s.chip.commit i (f (s.chip.ctx i ty))).fresh := by
  simp only [Chip.invoke, Chip.invokeWith, h.placed, h.runs]

/-- A ready invocation that commits a result with every state word and output of its signature has run with that result. -/
theorem Ready.ran_commit (h : Ready s b q i ty) {r : Res} (hst : i.sig.s ≤ r.st.length)
    (houts : r.outs.length = i.sig.outs.length) :
    Ran s (s.onChip fun c => (c.commit i r).fresh) i r.st r.outs [] := by
  obtain ⟨rg, cs, n, co, so, hc⟩ := s.chip.commit_frame r h.region
  have heng : (s.chip.commit i r).eng = { (s.chip.marked i).eng with chOut := co, stOut := so } := by rw [hc]
  have hreqs : (s.chip.commit i r).eng.reqs = s.chip.eng.reqs := by rw [heng]; rfl
  exact {
    outputs := by
      refine List.ext_getElem (by simp [Chip.instOuts, houts]) fun k hk hk' => ?_
      have hk1 : k < i.sig.outs.length := by simpa [Chip.instOuts] using hk
      simp only [Chip.instOuts, List.getElem_map, List.getElem_range, List.getElem_zipWith]
      exact h.instOut_commit (List.getElem?_eq_getElem hk1) (List.getElem?_eq_getElem (houts ▸ hk1))
    count := houts
    state := by
      refine List.ext_getElem (by simp [hst]) fun k hk hk' => ?_
      have hk1 : k < i.sig.s := by simpa using hk
      simp only [List.getElem_map, List.getElem_range, List.getElem_take]
      exact h.stateWord_commit hk1 (List.getElem?_eq_getElem (by omega))
    done := congrArg EngSt.done heng
    saved := congrArg EngSt.saved heng
    asked := hreqs
    bound := fun k v o ho hv hk hf hu => h.chOut_commit ho hv hk hf hu
    words := fun a ha => s.chip.commit_word_other r h.region ha
    frame := by
      simp only [State.onChip, hc]
      rfl }

/-- The same of a command that runs such a block. -/
theorem Ready.ran_invoke (h : Ready s b q i ty) {f : Ctx → Res} {st outs : List Nat}
    (hf : f (s.chip.ctx i ty) = { st := st, outs := outs }) (hst : i.sig.s ≤ st.length)
    (houts : outs.length = i.sig.outs.length) :
    ∃ t, chipOnly s (fun c => c.invoke b f q) = .next t ∧ Ran s t i st outs [] := by
  refine ⟨_, chipOnly_next s _, ?_⟩
  have hran := h.ran_commit (r := f (s.chip.ctx i ty)) (by rwa [hf]) (by rwa [hf])
  rw [hf] at hran
  have hon : s.onChip (fun c => c.invoke b f q) = s.onChip (fun c => (c.commit i { st := st, outs := outs }).fresh) := by
    simp only [State.onChip, h.invoke, hf]
  rwa [hon]

end

end Sys2Proof.Machine
end

section
/-! SUPPORT and certificate of O54: SCALE (R196). -/

namespace Sys2Proof.Machine

/-- A REAL32 result that R187 lets be written, or the value before. -/
theorem realOut_fst (bad : Bool) (old r : Nat) : (realOut bad old r).1 = keepBad bad old r := by
  unfold realOut keepBad
  cases bad <;> cases rBad r <;> rfl

theorem Ctx.b_eq_true_iff (x : Ctx) (k : Nat) : x.b k = true ↔ x.i k ≠ 0 := bne_iff_ne

/-- SCALE under rule ZS, on equal ends of the input span (R196). -/
theorem scaleFn_of_zero_span (x : Ctx) (h : rEq (x.r 2) (x.r 1) = true) :
    scaleFn x = outsOnly [keepBad false (x.o 0) (x.r 3), 1, 0, 1] := by
  simp only [scaleFn, scaleOf, if_pos h, realOut_fst]
  rfl

/-- SCALE on distinct ends: the line with its clamps, and where f lies (R196). -/
theorem scaleFn_of_span (x : Ctx) (h : ¬ rEq (x.r 2) (x.r 1) = true) :
    scaleFn x =
      let f := rDiv (rSub (x.r 0) (x.r 1)) (rSub (x.r 2) (x.r 1))
      outsOnly [keepBad false (x.o 0)
          (if x.i 5 ≠ 0 ∧ rLt f 0 = true then x.r 3 else if x.i 5 ≠ 0 ∧ rLt (rOfInt 1) f = true then x.r 4
            else rAdd (x.r 3) (rMul f (rSub (x.r 4) (x.r 3)))),
        if rLt f 0 = true then 1 else 0, if rLt (rOfInt 1) f = true then 1 else 0, 0] := by
  simp only [scaleFn, scaleOf, if_neg h, realOut_fst, Bool.and_eq_true, x.b_eq_true_iff]
  rfl

theorem sigOf_of_blkOf {code ni no t : Nat} {b : Blk} {g : Sig} (hb : blkOf code = some (b, t)) (hg : sigOf code ni no = some g) :
    rawSig b t ni no = some g := by
  unfold sigOf at hg
  simp only [hb] at hg
  split at hg
  · cases hg
  · next g' hg' =>
    split at hg
    · rw [hg', hg]
    · cases hg

theorem Chip.blkOf_of_mayRun {c : Chip} {i : Inv} {b : Blk} {t : Nat} (h : c.mayRun i b = some t) : blkOf i.code = some (b, t) := by
  unfold Chip.mayRun at h
  split at h
  · next b' t' hb =>
    split at h
    · next hc =>
      simp only [Bool.and_eq_true, decide_eq_true_eq] at hc
      obtain ⟨⟨⟨⟨rfl, -⟩, -⟩, -⟩, -⟩ := hc
      rw [hb, Option.some.inj h]
    · cases h
  · cases h

/-- A ready invocation has the signature of its block type. -/
theorem Ready.rawSig_eq {s : State} {b : Blk} {q : Nat} {i : Inv} {ty : Nat} (h : Ready s b q i ty) :
    rawSig b ty i.ins.length i.outs.length = some i.sig :=
  sigOf_of_blkOf (Chip.blkOf_of_mayRun h.runs) h.known

theorem Ready.sig_scale {s : State} {q : Nat} {i : Inv} {ty : Nat} (h : Ready s .scale q i ty) :
    i.sig = ⟨0, 0, inps 5 4 ++ [inp 0], [4, 0, 0, 0]⟩ := (Option.some.inj h.rawSig_eq).symm

/-- Settles O54: the run of a ready invocation, with what SCALE gives under rule ZS and on the line. -/
theorem scaleBlock : Obligations.ScaleBlock := by
  intro s q i ty hready x f zs lo hi v
  refine hready.ran_invoke (f := scaleFn) (?_ : scaleFn x = _) (by simp [hready.sig_scale]) (by simp [hready.sig_scale])
  by_cases hz : zs
  · have hlo : lo := .inl hz
    have hhi : ¬ hi := fun h => h.1 hz
    have hv : v = x.r 3 := if_pos (.inl hz)
    rw [scaleFn_of_zero_span x hz, hv, if_pos hlo, if_neg hhi, if_pos hz]
    rfl
  · have hlo : lo ↔ rLt f 0 = true := or_iff_right hz
    have hhi : hi ↔ rLt (rOfInt 1) f = true := and_iff_right hz
    rw [scaleFn_of_span x hz]
    simp only [v, hlo, hhi, hz, false_or, if_false]
    rfl

end Sys2Proof.Machine
end

section
/-! SUPPORT. What every operation of the module leaves of its fixed stores: their sizes (Table 0.1), operation by operation.
O59 rests on these lemmas, and so does every proof that counts the members of a store. -/

namespace Sys2Proof.Machine
/-- A change made in turn for the elements of a list keeps the sizes where each one does. -/
@[simp] theorem Chip.each_shape {α : Type} {f : Chip → α → Chip} (h : ∀ c x, (f c x).shape = c.shape) (c : Chip) (l : List α) :
    (c.each l f).shape = c.shape := by
  unfold Chip.each
  induction l generalizing c with
  | nil => rfl
  | cons x xs ih => exact (ih (f c x)).trans (h c x)

@[simp] theorem Chip.foldl_shape {α : Type} {f : Chip → α → Chip} (h : ∀ c x, (f c x).shape = c.shape) (c : Chip) (l : List α) :
    (l.foldl f c).shape = c.shape := Chip.each_shape h c l

@[simp] theorem Chip.when_shape {f : Chip → Chip} (h : ∀ c, (f c).shape = c.shape) (c : Chip) (b : Bool) :
    (c.when b f).shape = c.shape := by
  cases b
  · rfl
  · exact h c

@[simp] theorem Chip.shape_ite {p : Prop} [Decidable p] (c d : Chip) :
    (if p then c else d).shape = if p then c.shape else d.shape := apply_ite _ _ _ _

@[simp] theorem upd_size {α : Type} (l : List α) (i : Nat) (f : α → α) : (upd l i f).length = l.length := upd_length l i f
@[simp] theorem setAt_length {α : Type} (l : List α) (i : Nat) (v : α) : (setAt l i v).length = l.length := upd_length _ _ _

@[simp] theorem Chip.shape_with_sys (c : Chip) (y : SysSt) (h1 : y.testing.length = c.sys.testing.length) (h2 : y.gs.length = c.sys.gs.length) (h3 : y.cj.length = c.sys.cj.length) (h4 : y.clkLost.length = c.sys.clkLost.length) (h5 : y.encs.length = c.sys.encs.length) : Chip.shape { c with sys := y } = c.shape := by
  simp_all [Chip.shape]
@[simp] theorem Chip.shape_with_net (c : Chip) (y : NetSt) (h1 : y.sess.length = c.net.sess.length) (h2 : y.ptp.length = c.net.ptp.length) : Chip.shape { c with net := y } = c.shape := by
  simp_all [Chip.shape]
@[simp] theorem Chip.shape_with_safe (c : Chip) (y : SafeSt) (h1 : y.slices.length = c.safe.slices.length) (h2 : y.sfs.length = c.safe.sfs.length) (h3 : y.prods.length = c.safe.prods.length) : Chip.shape { c with safe := y } = c.shape := by
  simp_all [Chip.shape]
@[simp] theorem Chip.shape_with_panel (c : Chip) (y : PanelSt) (h : y.blink.length = c.panel.blink.length) :
    Chip.shape { c with panel := y } = c.shape := by
  simp_all [Chip.shape]
@[simp] theorem Chip.shape_with_recd (c : Chip) (y : RecSt) (h : y.winAt.length = c.recd.winAt.length) :
    Chip.shape { c with recd := y } = c.shape := by
  simp_all [Chip.shape]
@[simp] theorem Chip.shape_with_aon (c : Chip) (y : AonSt) (h : y.cmp.length = c.aon.cmp.length) :
    Chip.shape { c with aon := y } = c.shape := by
  simp_all [Chip.shape]
@[simp] theorem Chip.shape_with_loops (c : Chip) (y : List LoopSt) (h : y.length = c.loops.length) :
    Chip.shape { c with loops := y } = c.shape := by
  simp_all [Chip.shape]
@[simp] theorem Chip.shape_with_ports (c : Chip) (y : List PortSt) (h : y.length = c.ports.length) :
    Chip.shape { c with ports := y } = c.shape := by
  simp_all [Chip.shape]
@[simp] theorem Chip.shape_with_ctrs (c : Chip) (y : List CtrSt) (h : y.length = c.ctrs.length) :
    Chip.shape { c with ctrs := y } = c.shape := by
  simp_all [Chip.shape]
@[simp] theorem Chip.shape_with_axes (c : Chip) (y : List AxSt) (h : y.length = c.axes.length) :
    Chip.shape { c with axes := y } = c.shape := by
  simp_all [Chip.shape]
@[simp] theorem Chip.shape_with_chans (c : Chip) (y : List ChanSt) (h : y.length = c.chans.length) :
    Chip.shape { c with chans := y } = c.shape := by
  simp_all [Chip.shape]
@[simp] theorem Chip.shape_with_fab (c : Chip) (y : List FabSt) (h : y.length = c.fab.length) :
    Chip.shape { c with fab := y } = c.shape := by
  simp_all [Chip.shape]
@[simp] theorem Chip.shape_with_eng (c : Chip) (y : EngSt) : Chip.shape { c with eng := y } = c.shape := (rfl)
@[simp] theorem Chip.shape_with_calFs (c : Chip) (y : Nat) : Chip.shape { c with calFs := y } = c.shape := (rfl)
@[simp] theorem Chip.shape_with_now (c : Chip) (y : Nat) : Chip.shape { c with now := y } = c.shape := (rfl)
@[simp] theorem Chip.shape_with_s8At (c : Chip) (y : Nat) : Chip.shape { c with s8At := y } = c.shape := (rfl)
@[simp] theorem Chip.shape_with_safeTx (c : Chip) (y) : Chip.shape { c with safeTx := y } = c.shape := (rfl)
@[simp] theorem Chip.setSys_shape (c : Chip) (f : SysSt → SysSt) (h1 : ∀ y, (f y).testing.length = y.testing.length)
    (h2 : ∀ y, (f y).gs.length = y.gs.length) (h3 : ∀ y, (f y).cj.length = y.cj.length)
    (h4 : ∀ y, (f y).clkLost.length = y.clkLost.length) (h5 : ∀ y, (f y).encs.length = y.encs.length) :
    (c.setSys f).shape = c.shape := Chip.shape_with_sys c _ (h1 _) (h2 _) (h3 _) (h4 _) (h5 _)
@[simp] theorem Chip.setNet_shape (c : Chip) (f : NetSt → NetSt) (h1 : ∀ y, (f y).sess.length = y.sess.length)
    (h2 : ∀ y, (f y).ptp.length = y.ptp.length) : (c.setNet f).shape = c.shape := Chip.shape_with_net c _ (h1 _) (h2 _)
@[simp] theorem Chip.setPanel_shape (c : Chip) (f : PanelSt → PanelSt) (h : ∀ y, (f y).blink.length = y.blink.length) :
    (c.setPanel f).shape = c.shape := Chip.shape_with_panel c _ (h _)
@[simp] theorem Chip.setRec_shape (c : Chip) (f : RecSt → RecSt) (h : ∀ y, (f y).winAt.length = y.winAt.length) :
    (c.setRec f).shape = c.shape := Chip.shape_with_recd c _ (h _)

theorem Chip.shape_with_aon_of {c d : Chip} {y : AonSt} (hd : d.shape = c.shape) (h : y.cmp.length = c.aon.cmp.length) :
    Chip.shape { d with aon := y } = c.shape := by
  simp_all [Chip.shape]
theorem Chip.foldl_fst_shape {α β : Type} {f : Chip × β → α → Chip × β} (h : ∀ a x, (f a x).1.shape = a.1.shape) (l : List α)
    (a : Chip × β) : (l.foldl f a).1.shape = a.1.shape := by
  induction l generalizing a with
  | nil => rfl
  | cons x xs ih => exact (ih (f a x)).trans (h a x)
theorem Chip.shape_with_prods_of {c d : Chip} (k : Nat) (f : ProdSt → ProdSt) (hd : d.shape = c.shape) :
    Chip.shape { d with safe := { c.safe with prods := upd c.safe.prods k f } } = c.shape := by
  simp_all [Chip.shape]

@[simp] theorem Chip.setWord_shape (c : Chip) (a : Nat) (v : Word) : (c.setWord a v).shape = c.shape := (rfl)
@[simp] theorem Chip.setNat_shape (c : Chip) (a v : Nat) : (c.setNat a v).shape = c.shape := by
  simp [Chip.setNat]

@[simp] theorem Chip.putI_shape (c : Chip) (b : Nat) (f : Field) (i v : Nat) : (c.putI b f i v).shape = c.shape := by
  simp [Chip.putI]

@[simp] theorem Chip.put_shape (c : Chip) (b : Nat) (f : Field) (v : Nat) : (c.put b f v).shape = c.shape := by
  simp [Chip.put]

@[simp] theorem Chip.bumpByI_shape (c : Chip) (b : Nat) (f : Field) (i k : Nat) : (c.bumpByI b f i k).shape = c.shape := by
  simp [Chip.bumpByI]

@[simp] theorem Chip.bump_shape (c : Chip) (b : Nat) (f : Field) : (c.bump b f).shape = c.shape := by
  simp [Chip.bump]

@[simp] theorem Chip.putS_shape (c : Chip) (b : Nat) (f : Field) (v : Int) : (c.putS b f v).shape = c.shape := by
  simp [Chip.putS]

@[simp] theorem Chip.putBit_shape (c : Chip) (b : Nat) (f : Field) (i : Nat) (v : Bool) :
    (c.putBit b f i v).shape = c.shape := by
  simp [Chip.putBit]

@[simp] theorem Chip.fresh_shape (c : Chip) : c.fresh.shape = c.shape := (rfl)
@[simp] theorem Chip.setChan_shape (c : Chip) (g : Nat) (f : ChanSt → ChanSt) : (c.setChan g f).shape = c.shape := by
  simp [Chip.setChan, Chip.shape]

@[simp] theorem Chip.recSync_shape (c : Chip) : c.recSync.shape = c.shape := by
  simp [Chip.recSync]

@[simp] theorem Chip.put64_shape (c : Chip) (b : Nat) (f : Field) (v : Nat) : (c.put64 b f v).shape = c.shape := by
  simp [Chip.put64]

@[simp] theorem Chip.enter_shape (c : Chip) (source region severity subject : Nat) (pl : List Nat) (late : Bool) :
    (c.enter source region severity subject pl late).shape = c.shape := by
  have hsync : ∀ d : Chip, d.shape = c.shape → d.recSync.shape = c.shape := fun d h => (Chip.recSync_shape d).trans h
  unfold Chip.enter
  split
  · rfl
  split
  · rfl
  split
  · simp
  split
  · exact Chip.shape_with_recd (c.bump recdAt Recd.refused) _ rfl
  · refine hsync _ ?_
    split
    · exact (Chip.put64_shape _ _ _ _).trans (Chip.shape_with_recd c _ rfl)
    · exact Chip.shape_with_recd c _ rfl

@[simp] theorem Chip.openBand_shape (c : Chip) (t : Nat) : (c.openBand t).shape = c.shape := by
  unfold Chip.openBand
  (repeat' split) <;> simp

@[simp] theorem Chip.recordAs_shape (c : Chip) (source region severity subject : Nat) (pl : List Nat) (late : Bool) :
    (c.recordAs source region severity subject pl late).shape = c.shape := by
  simp [Chip.recordAs]

@[simp] theorem Chip.record_shape (c : Chip) (source region severity subject : Nat) (bs ws : List Nat) :
    (c.record source region severity subject bs ws).shape = c.shape := by
  simp [Chip.record]

@[simp] theorem Chip.aOn_shape (c : Chip) (g n : Nat) : (c.aOn g n).shape = c.shape := by
  simp [Chip.aOn]

@[simp] theorem Chip.aOff_shape (c : Chip) (g n : Nat) : (c.aOff g n).shape = c.shape := by
  simp [Chip.aOff]

@[simp] theorem Chip.dOn_shape (c : Chip) (g n : Nat) : (c.dOn g n).shape = c.shape := by
  simp [Chip.dOn]

@[simp] theorem Chip.dOff_shape (c : Chip) (g n : Nat) : (c.dOff g n).shape = c.shape := by
  simp [Chip.dOff]

@[simp] theorem Chip.tongsRefuse_shape (c : Chip) (r d : Nat) : (c.tongsRefuse r d).shape = c.shape := by
  simp [Chip.tongsRefuse]

@[simp] theorem Chip.emit_shape (c : Chip) (e : Emit) : (c.emit e).shape = c.shape := (rfl)
@[simp] theorem Chip.crossNow_shape (c : Chip) : c.crossNow.shape = c.shape := by
  unfold Chip.crossNow
  split <;> rfl

@[simp] theorem Chip.putStatus_shape (c : Chip) (g : Nat) : (c.putStatus g).shape = c.shape := by
  simp [Chip.putStatus]

@[simp] theorem Chip.setImage_shape (c : Chip) (g v : Nat) : (c.setImage g v).shape = c.shape := by
  simp [Chip.setImage]

@[simp] theorem Chip.see_shape (c : Chip) (g : Nat) (k : Cond) (holds : Bool) : (c.see g k holds).shape = c.shape := by
  simp [Chip.see]

@[simp] theorem Chip.raiseBellows_shape (c : Chip) (g cmd : Nat) : (c.raiseBellows g cmd).shape = c.shape := by
  simp [Chip.raiseBellows]

@[simp] theorem Chip.complianceOf_shape (c : Chip) (g : Nat) : (c.complianceOf g).shape = c.shape := by
  simp [Chip.complianceOf]

@[simp] theorem Chip.txHold_shape (c : Chip) (g : Nat) : (c.txHold g).shape = c.shape := by
  simp [Chip.txHold]

@[simp] theorem Chip.endBackFed_shape (c : Chip) (g : Nat) : (c.endBackFed g).shape = c.shape := by
  simp [Chip.endBackFed]

@[simp] theorem Chip.setSwitch_shape (c : Chip) (g : Nat) (close : Bool) : (c.setSwitch g close).shape = c.shape := by
  simp [Chip.setSwitch]

@[simp] theorem Chip.alarmSync_shape (c : Chip) (g : Nat) : (c.alarmSync g).shape = c.shape := by
  simp [Chip.alarmSync]

@[simp] theorem Chip.seeCurrent_shape (c0 : Chip) (g : Nat) (ua : Int) : (c0.seeCurrent g ua).shape = c0.shape := by
  simp [Chip.seeCurrent]

@[simp] theorem Chip.startPwm_shape (c : Chip) (g cmd : Nat) : (c.startPwm g cmd).shape = c.shape := by
  simp [Chip.startPwm]

@[simp] theorem Chip.driveWith_shape (c : Chip) (g cmd0 : Nat) : (c.driveWith g cmd0).shape = c.shape := by
  simp [Chip.driveWith]

@[simp] theorem Chip.openNow_shape (c : Chip) (g : Nat) : (c.openNow g).shape = c.shape := by
  simp [Chip.openNow]

@[simp] theorem Chip.deenergise_shape (c : Chip) (g : Nat) : (c.deenergise g).shape = c.shape := by
  simp [Chip.deenergise]

@[simp] theorem Chip.resolve_shape (c : Chip) (g : Nat) : (c.resolve g).shape = c.shape := by
  simp [Chip.resolve]

@[simp] theorem Chip.beginLevel2_shape (c : Chip) (g : Nat) : (c.beginLevel2 g).shape = c.shape := by
  simp [Chip.beginLevel2]

@[simp] theorem Chip.endLevel2_shape (c : Chip) (g : Nat) : (c.endLevel2 g).shape = c.shape := by
  simp [Chip.endLevel2]

@[simp] theorem Chip.resetTongs_shape (c : Chip) (k : Nat) : (c.resetTongs k).shape = c.shape := by
  unfold Chip.resetTongs
  simp only [Chip.shape_ite, Chip.bumpByI_shape, ite_self]
  simp only [Chip.shape]
  split <;> simp

@[simp] theorem Chip.setCtr_shape (c : Chip) (r j : Nat) (f : CtrOne → CtrOne) : (c.setCtr r j f).shape = c.shape := by
  simp [Chip.setCtr, Chip.shape]

@[simp] theorem Chip.counterOver_shape (c : Chip) (r j : Nat) : (c.counterOver r j).shape = c.shape := by
  simp [Chip.counterOver]

@[simp] theorem Chip.countEvent_shape (c : Chip) (r : Nat) (e : CtrEvent) : (c.countEvent r e).shape = c.shape := by
  simp [Chip.countEvent]

@[simp] theorem Chip.countPass_shape (c : Chip) (r cls port : Nat) (out : Bool) (master priv bytes : Nat) :
    (c.countPass r cls port out master priv bytes).shape = c.shape := by
  simp [Chip.countPass]

@[simp] theorem Chip.sampleCommit_shape (c : Chip) (r s : Nat) : (c.sampleCommit r s).shape = c.shape := by
  simp [Chip.sampleCommit]

@[simp] theorem Chip.selectChanged_shape (c : Chip) (r j : Nat) : (c.selectChanged r j).shape = c.shape := by
  simp [Chip.selectChanged]

@[simp] theorem Chip.cmdCounterClear_shape (c : Chip) (r : Nat) : (c.cmdCounterClear r).shape = c.shape := by
  simp [Chip.cmdCounterClear]

@[simp] theorem Chip.countersStart_shape (c : Chip) (r : Nat) : (c.countersStart r).shape = c.shape := by
  simp [Chip.countersStart]

@[simp] theorem Chip.atLatch_shape (c : Chip) : c.atLatch.shape = c.shape := (rfl)
@[simp] theorem Chip.putInst_shape (c : Chip) (i : Inv) (k : Nat) (vs : List Nat) : (c.putInst i k vs).shape = c.shape := by
  induction vs generalizing c k with
  | nil => rfl
  | cons v vs ih => exact (ih _ _).trans (Chip.setNat_shape _ _ _)

@[simp] theorem Chip.putTarget_shape (c : Chip) (i : Inv) (k : Nat) (b : Bind) (v0 : Nat) :
    (c.putTarget i k b v0).shape = c.shape := by
  simp [Chip.putTarget]

@[simp] theorem Chip.putTargets_shape (c : Chip) (i : Inv) (k : Nat) (bs : List Bind) (vs : List Nat) :
    (c.putTargets i k bs vs).shape = c.shape := by
  obtain ⟨co, so, h⟩ := c.putTargets_frame i k bs vs
  rw [h]
  rfl

@[simp] theorem Chip.countWord_shape (c : Chip) (a : Nat) (write : Bool) (master priv : Nat) :
    (c.countWord a write master priv).shape = c.shape := by
  simp [Chip.countWord]

@[simp] theorem Chip.commit_shape (c : Chip) (i : Inv) (r : Res) : (c.commit i r).shape = c.shape := by
  simp [Chip.commit]

@[simp] theorem Chip.ask_shape (c : Chip) (s : Nat) (a : Ask) : (c.ask s a).shape = c.shape := by
  simp [Chip.ask]

@[simp] theorem Chip.invokeWith_shape {post : Chip → Inv → Ctx → Chip} (h : ∀ c i x, (post c i x).shape = c.shape) (c : Chip) (b : Blk)
    (s : Nat) (f : Chip → Inv → Ctx → Res) : (c.invokeWith b s f post).shape = c.shape := by
  unfold Chip.invokeWith
  split
  · rfl
  split <;> simp [h]

@[simp] theorem Chip.invoke_shape (c : Chip) (b : Blk) (f : Ctx → Res) (s : Nat) : (c.invoke b f s).shape = c.shape := by
  simp [Chip.invoke]

@[simp] theorem Chip.ne43Change_shape (c : Chip) (g old new : Nat) (ua : Int) :
    (c.ne43Change g old new ua).shape = c.shape := by
  simp [Chip.ne43Change]

@[simp] theorem Chip.ne43End_shape (c : Chip) (g : Nat) : (c.ne43End g).shape = c.shape := by
  simp [Chip.ne43End]

@[simp] theorem Chip.deliverAi_shape (c : Chip) (g x base : Nat) : (c.deliverAi g x base).shape = c.shape := by
  simp [Chip.deliverAi]

@[simp] theorem Chip.oddSensor_shape (c : Chip) (g : Nat) : (c.oddSensor g).shape = c.shape := by
  simp [Chip.oddSensor]

@[simp] theorem Chip.convert_shape (c : Chip) (g x y : Nat) : (c.convert g x y).shape = c.shape := by
  unfold Chip.convert
  simp only []
  cases (if c.flag (chanAt g) Chan.cj_fixed_en = true then _ else _ : Option Int)
  all_goals simp

@[simp] theorem Chip.takeResult_shape (c : Chip) (g raw x y : Nat) : (c.takeResult g raw x y).shape = c.shape := by
  simp [Chip.takeResult]

@[simp] theorem Chip.conversion_shape (c : Chip) (g raw x y : Nat) : (c.conversion g raw x y).shape = c.shape := by
  simp [Chip.conversion]

@[simp] theorem Chip.modeStop_shape (c : Chip) (g : Nat) : (c.modeStop g).shape = c.shape := by
  simp [Chip.modeStop]

@[simp] theorem Chip.modeChange_shape (c : Chip) (g old : Nat) : (c.modeChange g old).shape = c.shape := by
  simp [Chip.modeChange]

@[simp] theorem Chip.cjSync_shape (c : Chip) (g : Nat) : (c.cjSync g).shape = c.shape := by
  simp [Chip.cjSync]

@[simp] theorem Chip.modeBegin_shape (c : Chip) (g : Nat) : (c.modeBegin g).shape = c.shape := by
  simp [Chip.modeBegin]

@[simp] theorem Chip.cjRecord_shape (c : Chip) (r which : Nat) (old new : Bool) (t : Int) :
    (c.cjRecord r which old new t).shape = c.shape := by
  simp [Chip.cjRecord]

@[simp] theorem Chip.enterShort_shape (c : Chip) (g : Nat) (ua : Int) : (c.enterShort g ua).shape = c.shape := by
  simp [Chip.enterShort]

@[simp] theorem Chip.setAx_shape (c : Chip) (x : Nat) (f : AxSt → AxSt) : (c.setAx x f).shape = c.shape := by
  simp [Chip.setAx, Chip.shape]

@[simp] theorem Chip.xOn_shape (c : Chip) (x n : Nat) : (c.xOn x n).shape = c.shape := by
  simp [Chip.xOn]

@[simp] theorem Chip.xOff_shape (c : Chip) (x n : Nat) : (c.xOff x n).shape = c.shape := by
  simp [Chip.xOff]

@[simp] theorem Chip.xSet_shape (c : Chip) (x n : Nat) (b : Bool) : (c.xSet x n b).shape = c.shape := by
  simp [Chip.xSet]

@[simp] theorem Chip.axSync_shape (c0 : Chip) (x : Nat) : (c0.axSync x).shape = c0.shape := by
  simp [Chip.axSync]

@[simp] theorem Chip.xRecord_shape (c : Chip) (source x severity : Nat) (bs ws : List Nat) :
    (c.xRecord source x severity bs ws).shape = c.shape := by
  simp [Chip.xRecord]

@[simp] theorem Chip.setRef_shape (c : Chip) (x new : Nat) : (c.setRef x new).shape = c.shape := by
  simp [Chip.setRef]

@[simp] theorem Chip.endAct_shape (c : Chip) (x code : Nat) : (c.endAct x code).shape = c.shape := by
  simp only [Chip.endAct]
  (repeat' split) <;> simp

@[simp] theorem Chip.beginAct_shape (c : Chip) (x kind s : Nat) : (c.beginAct x kind s).shape = c.shape := by
  simp [Chip.beginAct]

@[simp] theorem Chip.refuseAct_shape (c : Chip) (x s code : Nat) : (c.refuseAct x s code).shape = c.shape := by
  simp [Chip.refuseAct]

@[simp] theorem Chip.lossInMotion_shape (c : Chip) (x : Nat) (speed : Int) : (c.lossInMotion x speed).shape = c.shape := by
  simp [Chip.lossInMotion]

@[simp] theorem Chip.takeProfile_shape (c : Chip) (x : Nat) : (c.takeProfile x).shape = c.shape := by
  simp [Chip.takeProfile]

@[simp] theorem Chip.axLook_shape (c : Chip) (x : Nat) : (c.axLook x).shape = c.shape := by
  simp [Chip.axLook]

@[simp] theorem Chip.atRest_shape (c : Chip) (x : Nat) : (c.atRest x).shape = c.shape := by
  simp [Chip.atRest]

@[simp] theorem Chip.setOut_shape (c : Chip) (x : Nat) (target : Int) : (c.setOut x target).shape = c.shape := by
  simp [Chip.setOut]

@[simp] theorem Chip.startGoto_shape (c : Chip) (x : Nat) (target : Int) : (c.startGoto x target).shape = c.shape := by
  simp [Chip.startGoto]

@[simp] theorem Chip.startRun_shape (c : Chip) (x speed : Nat) (d : Int) : (c.startRun x speed d).shape = c.shape := by
  simp [Chip.startRun]

@[simp] theorem Chip.brake_shape (c : Chip) (x : Nat) (limit : Option (Int × Nat)) : (c.brake x limit).shape = c.shape := by
  simp [Chip.brake]

@[simp] theorem Chip.driveBridges_shape (c : Chip) (x : Nat) : (c.driveBridges x).shape = c.shape := by
  simp [Chip.driveBridges]

@[simp] theorem Chip.quietTake_shape (c : Chip) (x : Nat) : (c.quietTake x).shape = c.shape := by
  simp [Chip.quietTake]

@[simp] theorem Chip.stageLost_shape (c : Chip) (x code : Nat) : (c.stageLost x code).shape = c.shape := by
  simp [Chip.stageLost]

@[simp] theorem Chip.stageBack_shape (c : Chip) (x : Nat) : (c.stageBack x).shape = c.shape := by
  simp [Chip.stageBack]

@[simp] theorem Chip.stageSet_shape (c : Chip) (x causes : Nat) : (c.stageSet x causes).shape = c.shape := by
  simp [Chip.stageSet]

@[simp] theorem Chip.stageCause_shape (c : Chip) (x n : Nat) (on : Bool) : (c.stageCause x n on).shape = c.shape := by
  simp [Chip.stageCause]

@[simp] theorem Chip.jumpStop_shape (c : Chip) (x : Nat) : (c.jumpStop x).shape = c.shape := by
  simp [Chip.jumpStop]

@[simp] theorem Chip.homeFault_shape (c : Chip) (x code : Nat) : (c.homeFault x code).shape = c.shape := by
  simp [Chip.homeFault]

@[simp] theorem Chip.homeEdge_shape (c : Chip) (x : Nat) (on : Bool) : (c.homeEdge x on).shape = c.shape := by
  simp [Chip.homeEdge]

@[simp] theorem Chip.homeStep_shape (c : Chip) (x k : Nat) : (c.homeStep x k).shape = c.shape := by
  simp [Chip.homeStep]

@[simp] theorem Chip.actDone_shape (c : Chip) (x : Nat) : (c.actDone x).shape = c.shape := by
  simp [Chip.actDone]

@[simp] theorem Chip.homeDone_shape (c : Chip) (x : Nat) : (c.homeDone x).shape = c.shape := by
  simp [Chip.homeDone]

@[simp] theorem Chip.motionEnd_shape (c : Chip) (x : Nat) : (c.motionEnd x).shape = c.shape := by
  simp [Chip.motionEnd]

@[simp] theorem Chip.limitStop_shape (c : Chip) (x n : Nat) : (c.limitStop x n).shape = c.shape := by
  simp [Chip.limitStop]

@[simp] theorem Chip.axSwitches_shape (c : Chip) (x : Nat) : (c.axSwitches x).shape = c.shape := by
  simp [Chip.axSwitches]

@[simp] theorem Chip.switchesOf_shape (c : Chip) (g : Nat) : (c.switchesOf g).shape = c.shape := by
  simp [Chip.switchesOf]

@[simp] theorem Chip.wake_shape (c : Chip) (x : Nat) : (c.wake x).shape = c.shape := by
  simp [Chip.wake]

@[simp] theorem Chip.reqMove_shape (c : Chip) (s x pos : Nat) (rel : Bool) : (c.reqMove s x pos rel).shape = c.shape := by
  simp [Chip.reqMove]

@[simp] theorem Chip.reqHome_shape (c : Chip) (s x mode : Nat) : (c.reqHome s x mode).shape = c.shape := by
  simp [Chip.reqHome]

@[simp] theorem Chip.reqGear_shape (c : Chip) (s x : Nat) (engage : Bool) : (c.reqGear s x engage).shape = c.shape := by
  simp [Chip.reqGear]

@[simp] theorem Chip.clearDriver_shape (c : Chip) (x : Nat) : (c.clearDriver x).shape = c.shape := by
  simp [Chip.clearDriver]

@[simp] theorem Chip.stopLevel_shape (c : Chip) (x s : Nat) (on : Bool) : (c.stopLevel x s on).shape = c.shape := by
  simp [Chip.stopLevel]

@[simp] theorem Chip.beginStop_shape (c : Chip) (s x : Nat) (quick : Bool) : (c.beginStop s x quick).shape = c.shape := by
  simp [Chip.beginStop]

@[simp] theorem Chip.reqStop_shape (c : Chip) (s x : Nat) (on quick : Bool) : (c.reqStop s x on quick).shape = c.shape := by
  simp [Chip.reqStop]

@[simp] theorem Chip.axLevel2_shape (c : Chip) (x : Nat) : (c.axLevel2 x).shape = c.shape := by
  simp [Chip.axLevel2]

@[simp] theorem Chip.speedDemand_shape (c : Chip) (x : Nat) (out : Int) : (c.speedDemand x out).shape = c.shape := by
  simp [Chip.speedDemand]

@[simp] theorem Chip.moved_shape (c : Chip) (x : Nat) (d u dist : Int) : (c.moved x d u dist).shape = c.shape := by
  simp [Chip.moved]

@[simp] theorem Chip.updGoto_shape (c : Chip) (x : Nat) (t : Int) (dec : Bool) (short : Nat) :
    (c.updGoto x t dec short).shape = c.shape := by
  simp [Chip.updGoto]

@[simp] theorem Chip.updRun_shape (c : Chip) (x speed : Nat) (neg : Bool) : (c.updRun x speed neg).shape = c.shape := by
  simp [Chip.updRun]

@[simp] theorem Chip.updBrake_shape (c : Chip) (x : Nat) (limit : Option (Int × Nat)) :
    (c.updBrake x limit).shape = c.shape := by
  simp only [Chip.updBrake]
  (repeat' split) <;> simp

@[simp] theorem Chip.updEase_shape (c : Chip) (x : Nat) (target : Option Int) : (c.updEase x target).shape = c.shape := by
  unfold Chip.updEase
  (repeat' split) <;> simp

@[simp] theorem Chip.softStop_shape {onStop : Chip → Chip} (h : ∀ c, (onStop c).shape = c.shape) (c : Chip) (x : Nat) :
    (c.softStop x onStop).shape = c.shape := by
  unfold Chip.softStop
  split <;> simp [h]

@[simp] theorem Chip.updSpeed_shape (c : Chip) (x : Nat) : (c.updSpeed x).shape = c.shape := by
  simp [Chip.updSpeed]

@[simp] theorem Chip.gearEnd_shape (c : Chip) (x code flag : Nat) (lag : Int) :
    (c.gearEnd x code flag lag).shape = c.shape := by
  simp [Chip.gearEnd]

@[simp] theorem Chip.updGear_shape (c : Chip) (x : Nat) : (c.updGear x).shape = c.shape := by
  simp [Chip.updGear]

@[simp] theorem Chip.quietStep_shape (c : Chip) (x : Nat) (before : Int) : (c.quietStep x before).shape = c.shape := by
  simp [Chip.quietStep]

@[simp] theorem Chip.sense_shape (c : Chip) (x ia ib tj : Nat) : (c.sense x ia ib tj).shape = c.shape := by
  simp [Chip.sense]

@[simp] theorem Chip.generate_shape (c : Chip) (x ia ib tj : Nat) : (c.generate x ia ib tj).shape = c.shape := by
  simp only [Chip.generate]
  (repeat' split) <;> simp

@[simp] theorem Chip.cmdClearFault_shape (c : Chip) (x : Nat) : (c.cmdClearFault x).shape = c.shape := by
  simp [Chip.cmdClearFault]

@[simp] theorem Chip.cmdAxisStats_shape (c : Chip) (x : Nat) : (c.cmdAxisStats x).shape = c.shape := by
  simp [Chip.cmdAxisStats]

@[simp] theorem Chip.sampleEnd_shape (c : Chip) (r j q : Nat) : (c.sampleEnd r j q).shape = c.shape := by
  simp [Chip.sampleEnd]

@[simp] theorem Chip.setLoop_shape (c : Chip) (n : Nat) (f : LoopSt → LoopSt) : (c.setLoop n f).shape = c.shape := by
  simp [Chip.setLoop, Chip.shape]

@[simp] theorem Chip.setSlice_shape (c : Chip) (r : Nat) (f : SliceSt → SliceSt) : (c.setSlice r f).shape = c.shape := by
  simp [Chip.setSlice, Chip.shape]

@[simp] theorem Chip.put48_shape (c : Chip) (b : Nat) (f : Field) (i : Nat) (v : Int) :
    (c.put48 b f i v).shape = c.shape := by
  simp [Chip.put48]

@[simp] theorem Chip.putInteg_shape (c : Chip) (n : Nat) (v : Int) : (c.putInteg n v).shape = c.shape := by
  simp [Chip.putInteg]

@[simp] theorem Chip.putSections_shape (c : Chip) (n j : Nat) (l : List (Int × Int)) : (c.putSections n j l).shape = c.shape := by
  induction l generalizing c j with
  | nil => rfl
  | cons e t ih => simp [Chip.putSections, ih]

@[simp] theorem Chip.setLoopState_shape (c : Chip) (n new : Nat) : (c.setLoopState n new).shape = c.shape := by
  simp [Chip.setLoopState]

@[simp] theorem Chip.markSpan_shape (c : Chip) (g : Nat) : (c.markSpan g).shape = c.shape := by
  simp [Chip.markSpan]

@[simp] theorem Chip.kick_shape (c : Chip) (r : Nat) : (c.kick r).shape = c.shape := by
  unfold Chip.kick
  (repeat' split) <;> simp

@[simp] theorem Chip.stopSlice_shape (c : Chip) (r cause : Nat) : (c.stopSlice r cause).shape = c.shape := by
  simp [Chip.stopSlice]

@[simp] theorem Chip.fenceSlice_shape (c : Chip) (r : Nat) : (c.fenceSlice r).shape = c.shape := by
  simp [Chip.fenceSlice]

@[simp] theorem Chip.loopBegin_shape (c : Chip) (n : Nat) (man : Int) (startAuto : Bool) : (c.loopBegin n man startAuto).shape = c.shape := by
  simp [Chip.loopBegin]

@[simp] theorem Chip.loopEntry_shape (c : Chip) (n : Nat) : (c.loopEntry n).shape = c.shape := by
  simp [Chip.loopEntry]

@[simp] theorem Chip.startSlice_shape (c : Chip) (r : Nat) : (c.startSlice r).shape = c.shape := by
  simp [Chip.startSlice]

@[simp] theorem Chip.nOn_shape (c : Chip) (n : Nat) : (c.nOn n).shape = c.shape := by
  simp [Chip.nOn]

@[simp] theorem Chip.nOff_shape (c : Chip) (n : Nat) : (c.nOff n).shape = c.shape := by
  simp [Chip.nOff]

@[simp] theorem Chip.panelState_shape (c : Chip) (st : Nat) : (c.panelState st).shape = c.shape := by
  simp [Chip.panelState]

@[simp] theorem Chip.panelCut_shape (c : Chip) : c.panelCut.shape = c.shape := by
  simp [Chip.panelCut]

@[simp] theorem Chip.wantPanel_shape (c : Chip) : c.wantPanel.shape = c.shape := by
  simp [Chip.wantPanel]

@[simp] theorem Chip.updateOver_shape (c : Chip) : c.updateOver.shape = c.shape := by
  simp [Chip.updateOver]

@[simp] theorem Chip.panelRelease_shape (c : Chip) : c.panelRelease.shape = c.shape := by
  simp [Chip.panelRelease]

@[simp] theorem Chip.panelYield_shape (c : Chip) : c.panelYield.shape = c.shape := by
  simp [Chip.panelYield]

@[simp] theorem Chip.panelShow_shape (c : Chip) : c.panelShow.shape = c.shape := by
  simp [Chip.panelShow]

@[simp] theorem Chip.panelClearCmd_shape (c : Chip) : c.panelClearCmd.shape = c.shape := by
  simp [Chip.panelClearCmd]

@[simp] theorem Chip.panelDone_shape (c : Chip) : c.panelDone.shape = c.shape := by
  simp [Chip.panelDone]

@[simp] theorem Chip.fieldAsk_shape (c : Chip) (page field value state : Nat) (vis : Bool) :
    (c.fieldAsk page field value state vis).shape = c.shape := by
  simp [Chip.fieldAsk]

@[simp] theorem Chip.blinkAsk_shape (c : Chip) (i : Nat) (en : Bool) (period : Nat) :
    (c.blinkAsk i en period).shape = c.shape := by
  simp [Chip.blinkAsk]

@[simp] theorem Chip.pageAsk_shape (c : Chip) (page : Nat) : (c.pageAsk page).shape = c.shape := by
  simp [Chip.pageAsk]

@[simp] theorem Chip.monitorSample_shape (c : Chip) (g r : Nat) : (c.monitorSample g r).shape = c.shape := by
  simp [Chip.monitorSample]

@[simp] theorem Chip.inputSample_shape (c : Chip) (g : Nat) (mv : Int) : (c.inputSample g mv).shape = c.shape := by
  simp [Chip.inputSample]

@[simp] theorem Chip.seeLoad_shape (c : Chip) (g sum : Nat) : (c.seeLoad g sum).shape = c.shape := by
  simp [Chip.seeLoad]

@[simp] theorem Chip.seeSwitch_shape (c : Chip) (g i : Nat) (mv : Int) : (c.seeSwitch g i mv).shape = c.shape := by
  simp [Chip.seeSwitch]

@[simp] theorem Chip.sumOver_shape (c : Chip) (g i : Nat) : (c.sumOver g i).shape = c.shape := by
  simp [Chip.sumOver]

@[simp] theorem Chip.setIsle_shape (c : Chip) (r : Nat) (f : IsleSt → IsleSt) : (c.setIsle r f).shape = c.shape := by
  simp [Chip.setIsle, Chip.shape]

@[simp] theorem Chip.setFnSt_shape (c : Chip) (r j : Nat) (f : FnSt → FnSt) : (c.setFnSt r j f).shape = c.shape := by
  simp [Chip.setFnSt]

@[simp] theorem Chip.setSf_shape (c : Chip) (sf : Nat) (f : SfSt → SfSt) : (c.setSf sf f).shape = c.shape := by
  simp [Chip.setSf, Chip.shape]

@[simp] theorem Chip.goFn_shape (c : Chip) (r : Nat) (f : FnCfg) (new cause : Nat) (input : Nat) :
    (c.goFn r f new cause input).shape = c.shape := by
  simp only [Chip.goFn]
  (repeat' split) <;> simp

@[simp] theorem Chip.settle_shape (c : Chip) (r : Nat) (f : FnCfg) (v : FnView) (n : Nat) : (c.settle r f v n).shape = c.shape := by
  induction n generalizing c v with
  | zero => rfl
  | succ n ih =>
    unfold Chip.settle
    split <;> simp [ih]

@[simp] theorem Chip.resetPress_shape (c : Chip) (r : Nat) (f : FnCfg) : (c.resetPress r f).1.shape = c.shape := by
  unfold Chip.resetPress
  simp only []
  repeat' split
  all_goals simp

@[simp] theorem Chip.failTest_shape (c : Chip) (f : FnCfg) (sink : Bool) (test ma : Nat) :
    (c.failTest f sink test ma).shape = c.shape := by
  simp [Chip.failTest]

@[simp] theorem Chip.watchOutput_shape (c : Chip) (r : Nat) (f : FnCfg) : (c.watchOutput r f).shape = c.shape := by
  simp only [Chip.watchOutput]
  (repeat' split) <;> simp

@[simp] theorem Chip.evalFn_shape (c : Chip) (r : Nat) (f : FnCfg) : (c.evalFn r f).shape = c.shape := by
  simp [Chip.evalFn]

@[simp] theorem Chip.applyCuts_shape (c : Chip) (r : Nat) : (c.applyCuts r).shape = c.shape := by
  simp [Chip.applyCuts]

@[simp] theorem Chip.setSafeOut_shape (c : Chip) (r : Nat) (f : FnCfg) : (c.setSafeOut r f).shape = c.shape := by
  unfold Chip.setSafeOut
  (repeat' split) <;> simp

@[simp] theorem Chip.setSafeOuts_shape (c : Chip) (r : Nat) : (c.setSafeOuts r).shape = c.shape := by
  simp [Chip.setSafeOuts]

@[simp] theorem Chip.stopIsle_shape (c : Chip) (r cause : Nat) : (c.stopIsle r cause).shape = c.shape := by
  simp [Chip.stopIsle]

@[simp] theorem Chip.nameFns_shape (c : Chip) (r : Nat) : (c.nameFns r).shape = c.shape := by
  simp [Chip.nameFns]

@[simp] theorem Chip.latchIsle_shape (c : Chip) (r cause : Nat) : (c.latchIsle r cause).shape = c.shape := by
  simp [Chip.latchIsle]

@[simp] theorem Chip.deadIsle_shape (c : Chip) (r : Nat) : (c.deadIsle r).shape = c.shape := by
  simp [Chip.deadIsle]

@[simp] theorem Chip.setProd_shape (c : Chip) (k : Nat) (f : ProdSt → ProdSt) : (c.setProd k f).shape = c.shape := by
  simp [Chip.setProd, Chip.shape]

@[simp] theorem Chip.armIsle_shape (c : Chip) (r : Nat) : (c.armIsle r).shape = c.shape := by
  simp [Chip.armIsle]

@[simp] theorem Chip.enterFn_shape (c : Chip) (r : Nat) (f : FnCfg) : (c.enterFn r f).shape = c.shape := by
  simp [Chip.enterFn]

@[simp] theorem Chip.enterPair_shape (c : Chip) (e : Nat) : (c.enterPair e).shape = c.shape := by
  simp [Chip.enterPair]

@[simp] theorem Chip.startIsle_shape (c : Chip) (r : Nat) : (c.startIsle r).shape = c.shape := by
  simp [Chip.startIsle]

@[simp] theorem Chip.putConn_shape (c : Chip) (r k : Nat) (f : ConnSt → ConnSt) : (c.putConn r k f).shape = c.shape := by
  simp [Chip.putConn]

@[simp] theorem Chip.connFault_shape (c : Chip) (r k rule : Nat) : (c.connFault r k rule).shape = c.shape := by
  unfold Chip.connFault
  simp only []
  split
  · simp
  · exact (Chip.shape_with_prods_of k _ (Chip.record_shape _ _ _ _ _ _ _)).trans (Chip.putConn_shape _ _ _ _)

@[simp] theorem Chip.connErr_shape (c : Chip) (r k i : Nat) (f : Field) : (c.connErr r k i f).shape = c.shape := by
  simp [Chip.connErr]

@[simp] theorem Chip.acceptFrame_shape (c : Chip) (r : Nat) (k : ConnCfg) (bs : List Nat) : (c.acceptFrame r k bs).shape = c.shape := by
  unfold Chip.acceptFrame
  simp only [Chip.shape_ite, Chip.putConn_shape]
  refine (if_congr Iff.rfl ((Chip.shape_with_prods_of k.index _ (Chip.record_shape _ _ _ _ _ _ _)).trans
    (Chip.putConn_shape _ _ _ _)) rfl).trans (ite_self _)

@[simp] theorem Chip.judgeFrame_shape (c : Chip) (r : Nat) (k : ConnCfg) (bs : List Nat) :
    (c.judgeFrame r k bs).shape = c.shape := by
  simp [Chip.judgeFrame]

@[simp] theorem Chip.consume_shape (c : Chip) (k : ConnCfg) (bs : List Nat) : (c.consume k bs).shape = c.shape := by
  simp [Chip.consume]

@[simp] theorem Chip.connCycle_shape (c : Chip) (r : Nat) (k : ConnCfg) : (c.connCycle r k).shape = c.shape := by
  simp [Chip.connCycle]

@[simp] theorem Chip.netSend_shape (c : Chip) (kind : Nat) (bs : List Nat) : (c.netSend kind bs).shape = c.shape := by
  simp [Chip.netSend]

@[simp] theorem Chip.release_shape (c : Chip) (k : ConnCfg) (bs : List Nat) : (c.release k bs).shape = c.shape := by
  simp [Chip.release]

@[simp] theorem Chip.produce_shape (c : Chip) (r : Nat) (k : ConnCfg) : (c.produce r k).shape = c.shape := by
  simp [Chip.produce]

@[simp] theorem Chip.setPair_shape (c : Chip) (f : PairSt → PairSt) : (c.setPair f).shape = c.shape := (rfl)
@[simp] theorem Chip.laneEmit_shape (c : Chip) (l kind : Nat) (ws : List Nat) : (c.laneEmit l kind ws).shape = c.shape := by
  simp [Chip.laneEmit]

@[simp] theorem Chip.laneSend_shape (c : Chip) (kind : Nat) (ws : List Nat) : (c.laneSend kind ws).shape = c.shape := by
  simp [Chip.laneSend]

@[simp] theorem Chip.laneOne_shape (c : Chip) (kind : Nat) (ws : List Nat) : (c.laneOne kind ws).shape = c.shape := by
  simp only [Chip.laneOne]
  (repeat' split) <;> simp

@[simp] theorem Chip.putLane_shape (c : Chip) (l : Nat) (up : Bool) : (c.putLane l up).shape = c.shape := by
  simp [Chip.putLane]

@[simp] theorem Chip.laneFault_shape (c : Chip) (l : Nat) : (c.laneFault l).shape = c.shape := by
  simp [Chip.laneFault]

@[simp] theorem Chip.laneBack_shape (c : Chip) (l : Nat) : (c.laneBack l).shape = c.shape := by
  simp [Chip.laneBack]

@[simp] theorem Chip.shareRamp_shape (c : Chip) (kind : Nat) : (c.shareRamp kind).shape = c.shape := by
  simp [Chip.shareRamp]

@[simp] theorem Chip.resolveShared_shape (c : Chip) : c.resolveShared.shape = c.shape := by
  simp [Chip.resolveShared]

@[simp] theorem Chip.holderSync_shape (c : Chip) : c.holderSync.shape = c.shape := by
  simp [Chip.holderSync]

@[simp] theorem Chip.axisYield_shape (c : Chip) (x : Nat) : (c.axisYield x).shape = c.shape := by
  simp [Chip.axisYield]

@[simp] theorem Chip.axisTake_shape (c : Chip) (x : Nat) : (c.axisTake x).shape = c.shape := by
  simp [Chip.axisTake]

@[simp] theorem Chip.setLease_shape (c : Chip) (new severity changed : Nat) :
    (c.setLease new severity changed).shape = c.shape := by
  simp [Chip.setLease]

@[simp] theorem Chip.takeLease_shape (c : Chip) (expired : Bool) : (c.takeLease expired).shape = c.shape := by
  simp [Chip.takeLease]

@[simp] theorem Chip.yieldLease_shape (c : Chip) (new : Nat) : (c.yieldLease new).shape = c.shape := by
  simp [Chip.yieldLease]

@[simp] theorem Chip.pairStop_shape (c : Chip) : c.pairStop.shape = c.shape := by
  simp [Chip.pairStop]

@[simp] theorem Chip.pairAbort_shape (c : Chip) : c.pairAbort.shape = c.shape := by
  simp [Chip.pairAbort]

@[simp] theorem Chip.beginResync_shape (c : Chip) : c.beginResync.shape = c.shape := by
  simp [Chip.beginResync]

@[simp] theorem Chip.desync_shape (c : Chip) (cause : Nat) : (c.desync cause).shape = c.shape := by
  simp [Chip.desync]

@[simp] theorem Chip.lagSync_shape (c : Chip) : c.lagSync.shape = c.shape := by
  simp [Chip.lagSync]

@[simp] theorem Chip.losePartner_shape (c : Chip) : c.losePartner.shape = c.shape := by
  simp [Chip.losePartner]

@[simp] theorem Chip.findPartner_shape (c : Chip) : c.findPartner.shape = c.shape := by
  simp [Chip.findPartner]

@[simp] theorem Chip.partnerIs_shape (c : Chip) (new cycles : Nat) : (c.partnerIs new cycles).shape = c.shape := by
  simp [Chip.partnerIs]

@[simp] theorem Chip.laneHeard_shape (c : Chip) (l : Nat) : (c.laneHeard l).shape = c.shape := by
  have heard : ∀ d : Chip, Chip.shape { d with panel := { d.panel with partnerAt := some c.now } } = d.shape := fun _ => rfl
  unfold Chip.laneHeard
  simp only []
  split
  · exact (heard _).trans (Chip.setPair_shape _ _)
  · exact (Chip.putLane_shape _ _ _).trans ((heard _).trans (Chip.setPair_shape _ _))

@[simp] theorem Chip.hearPresence_shape (c : Chip) (w : Nat) : (c.hearPresence w).shape = c.shape := (rfl)
@[simp] theorem Chip.hearBeat_shape (c : Chip) (ws : List Nat) : (c.hearBeat ws).shape = c.shape := by
  simp only [Chip.hearBeat]
  (repeat' split) <;> simp

@[simp] theorem Chip.compatSync_shape (c : Chip) (n : NegInfo) (compat : Bool) :
    (c.compatSync n compat).shape = c.shape := by
  simp [Chip.compatSync]

@[simp] theorem Chip.hearNeg_shape (c : Chip) (ws : List Nat) : (c.hearNeg ws).shape = c.shape := by
  unfold Chip.hearNeg
  simp only [Chip.partnerIs_shape, Chip.setPair_shape, Chip.put_shape, Chip.shape_ite, Chip.compatSync_shape, Chip.findPartner_shape,
    ite_self]

@[simp] theorem Chip.hearRenewal_shape (c : Chip) (ws : List Nat) : (c.hearRenewal ws).shape = c.shape := by
  simp [Chip.hearRenewal]

@[simp] theorem Chip.hearYield_shape (c : Chip) (cycle : Nat) (swap : Bool) : (c.hearYield cycle swap).shape = c.shape := by
  simp [Chip.hearYield]

@[simp] theorem Chip.hearOwned_shape (c : Chip) (ws : List Nat) : (c.hearOwned ws).shape = c.shape := by
  fun_induction Chip.hearOwned c ws with
  | case1 c g st v ws ih => exact ih.trans (Chip.setPair_shape _ _)
  | case2 => rfl

@[simp] theorem Chip.hearAxis_shape (c : Chip) (ws : List Nat) : (c.hearAxis ws).shape = c.shape := by
  simp [Chip.hearAxis]

@[simp] theorem Chip.hearLoop_shape (c : Chip) (ws : List Nat) : (c.hearLoop ws).shape = c.shape := by
  unfold Chip.hearLoop
  (repeat' split) <;> simp

@[simp] theorem Chip.hearShares_shape (c : Chip) (ws : List Nat) : (c.hearShares ws).shape = c.shape := by
  fun_induction Chip.hearShares c ws with
  | case1 c g v ws ih => exact ih.trans (Chip.setChan_shape _ _ _)
  | case2 => rfl

@[simp] theorem Chip.hearFrame_shape (c : Chip) (l kind : Nat) (ws : List Nat) : (c.hearFrame l kind ws).shape = c.shape := by
  unfold Chip.hearFrame
  split <;> simp

@[simp] theorem Chip.halt_shape (c : Chip) (reason : Nat) : (c.halt reason).shape = c.shape := by
  simp [Chip.halt]

@[simp] theorem Chip.concludeNeg_shape (c : Chip) : c.concludeNeg.shape = c.shape := by
  unfold Chip.concludeNeg
  (repeat' split) <;> simp

@[simp] theorem Chip.pairAccept_shape (c : Chip) (bitNo result : Nat) : (c.pairAccept bitNo result).shape = c.shape := by
  simp [Chip.pairAccept]

@[simp] theorem Chip.pairCommand_shape (c : Chip) (w : Nat) (role : Bool) : (c.pairCommand w role).shape = c.shape := by
  simp only [Chip.pairCommand]
  (repeat' split) <;> simp

@[simp] theorem Chip.setPort_shape (c : Chip) (r : Nat) (f : PortSt → PortSt) : (c.setPort r f).shape = c.shape := by
  simp [Chip.setPort, Chip.shape]

@[simp] theorem Chip.setObj_shape (c : Chip) (r j : Nat) (f : PortObj → PortObj) : (c.setObj r j f).shape = c.shape := by
  simp [Chip.setObj]

@[simp] theorem Chip.setSta_shape (c : Chip) (r k : Nat) (f : PortSta → PortSta) : (c.setSta r k f).shape = c.shape := by
  simp [Chip.setSta]

@[simp] theorem Chip.pOn_shape (c : Chip) (r n : Nat) : (c.pOn r n).shape = c.shape := by
  simp [Chip.pOn]

@[simp] theorem Chip.putBytes16_shape (c : Chip) (a : Nat) (bs : List Nat) : (c.putBytes16 a bs).shape = c.shape := by
  simp [Chip.putBytes16]

@[simp] theorem Chip.objSync_shape (c : Chip) (r j : Nat) : (c.objSync r j).shape = c.shape := by
  simp [Chip.objSync]

@[simp] theorem Chip.request_shape (c : Chip) (r j : Nat) (content : List Nat) :
    (c.request r j content).shape = c.shape := by
  simp [Chip.request]

@[simp] theorem Chip.canSend_shape (c : Chip) (r j : Nat) (data : List Nat) (trig : Bool) :
    (c.canSend r j data trig).shape = c.shape := by
  simp [Chip.canSend]

@[simp] theorem Chip.failShot_shape (c : Chip) (r j : Nat) (all : Bool) : (c.failShot r j all).shape = c.shape := by
  simp [Chip.failShot]

@[simp] theorem Chip.rewait_shape (c : Chip) (r : Nat) : (c.rewait r).shape = c.shape := by
  simp [Chip.rewait]

@[simp] theorem Chip.requeue_shape (c : Chip) (r : Nat) : (c.requeue r).shape = c.shape := by
  simp [Chip.requeue]

@[simp] theorem Chip.cancelSends_shape (c : Chip) (r : Nat) : (c.cancelSends r).shape = c.shape := by
  simp [Chip.cancelSends]

@[simp] theorem Chip.ringPut_shape (c : Chip) (r : Nat) (f : CanFrame) (own esi : Bool) :
    (c.ringPut r f own esi).shape = c.shape := by
  simp [Chip.ringPut]

@[simp] theorem Chip.diverge_shape (c : Chip) (r idw q : Nat) : (c.diverge r idw q).shape = c.shape := by
  simp [Chip.diverge]

@[simp] theorem Chip.objTake_shape (c : Chip) (r j : Nat) (e : RingEntry) : (c.objTake r j e).shape = c.shape := by
  simp only [Chip.objTake]
  (repeat' split) <;> simp

@[simp] theorem Chip.consumeCan_shape (c : Chip) (r : Nat) (f : CanFrame) : (c.consumeCan r f).shape = c.shape := by
  simp [Chip.consumeCan]

@[simp] theorem Chip.incompleteUpdate_shape (c : Chip) (r : Nat) : (c.incompleteUpdate r).shape = c.shape := by
  simp [Chip.incompleteUpdate]

@[simp] theorem Chip.stationFrame_shape (c : Chip) (r k i : Nat) (s : PortSta) (f : StaFrame) (data : List Nat) :
    (c.stationFrame r k i s f data).shape = c.shape := by
  simp [Chip.stationFrame]

@[simp] theorem Chip.matchStations_shape (c : Chip) (r : Nat) (fr : CanFrame) : (c.matchStations r fr).shape = c.shape := by
  simp [Chip.matchStations]

@[simp] theorem Chip.latchStations_shape (c : Chip) (r : Nat) : (c.latchStations r).1.shape = c.shape := by
  unfold Chip.latchStations
  refine Chip.foldl_fst_shape (fun acc sk => ?_) _ _
  simp only []
  repeat' split
  all_goals simp

@[simp] theorem Chip.stationOut_shape (c : Chip) (r k : Nat) (bytes : List Nat) :
    (c.stationOut r k bytes).shape = c.shape := by
  unfold Chip.stationOut
  (repeat' split) <;> simp

@[simp] theorem Chip.startTx_shape (c : Chip) (r : Nat) (src : TxSrc) (f : CanFrame) :
    (c.startTx r src f).shape = c.shape := by
  simp [Chip.startTx]

@[simp] theorem Chip.beginTx_shape (c : Chip) (r : Nat) (src : TxSrc) (f : CanFrame) :
    (c.beginTx r src f).shape = c.shape := by
  unfold Chip.beginTx
  (repeat' split) <;> simp

@[simp] theorem Chip.sendReference_shape (c : Chip) (r : Nat) (m : Matrix) : (c.sendReference r m).shape = c.shape := by
  simp [Chip.sendReference]

@[simp] theorem Chip.busOff_shape (c : Chip) (r : Nat) : (c.busOff r).shape = c.shape := by
  simp [Chip.busOff]

@[simp] theorem Chip.errState_shape (c : Chip) (r : Nat) : (c.errState r).shape = c.shape := by
  simp [Chip.errState]

@[simp] theorem Chip.beginRestart_shape (c : Chip) (r : Nat) (restart : Bool) :
    (c.beginRestart r restart).shape = c.shape := by
  simp [Chip.beginRestart]

@[simp] theorem Chip.portSync_shape (c : Chip) (r : Nat) : (c.portSync r).shape = c.shape := by
  simp [Chip.portSync]

@[simp] theorem Chip.setOutcome_shape (c : Chip) (s : Nat) (busy ok : Bool) (code : Nat) :
    (c.setOutcome s busy ok code).shape = c.shape := by
  simp [Chip.setOutcome]

@[simp] theorem Chip.portRestartAsk_shape (c : Chip) (s r : Nat) : (c.portRestartAsk s r).shape = c.shape := by
  simp [Chip.portRestartAsk]

@[simp] theorem Chip.cmdPortRestart_shape (c : Chip) (r : Nat) : (c.cmdPortRestart r).shape = c.shape := by
  simp [Chip.cmdPortRestart]

@[simp] theorem Chip.cmdPortClear_shape (c : Chip) (r : Nat) : (c.cmdPortClear r).shape = c.shape := by
  simp [Chip.cmdPortClear]

@[simp] theorem Chip.setSess_shape (c : Chip) (i : Nat) (f : SessSt → SessSt) : (c.setSess i f).shape = c.shape := by
  simp [Chip.setSess]

@[simp] theorem Chip.sendTo_shape (c : Chip) (peer port : Nat) (bs : List Nat) :
    (c.sendTo peer port bs).shape = c.shape := by
  simp [Chip.sendTo]

@[simp] theorem Chip.reply_shape (c : Chip) (i typ seq rid : Nat) (body : List Nat) :
    (c.reply i typ seq rid body).shape = c.shape := by
  simp [Chip.reply]

@[simp] theorem Chip.flushAnswers_shape (c : Chip) (i n : Nat) : (c.flushAnswers i n).shape = c.shape := by
  induction n generalizing c with
  | zero => rfl
  | succ n ih =>
    unfold Chip.flushAnswers
    split
    · split <;> simp [ih]
    · rfl

@[simp] theorem Chip.answer_shape (c : Chip) (a : AskedBy) (bs : List Nat) : (c.answer a bs).shape = c.shape := by
  simp [Chip.answer]

@[simp] theorem Chip.answerTo_shape (c : Chip) (a : Option AskedBy) (bs : List Nat) : (c.answerTo a bs).shape = c.shape := by
  unfold Chip.answerTo
  (repeat' split) <;> simp

@[simp] theorem Chip.freeWindows_shape (c : Chip) (sid : Nat) : (c.freeWindows sid).shape = c.shape := by
  simp [Chip.freeWindows]

@[simp] theorem Chip.closeSess_shape (c : Chip) (i : Nat) : (c.closeSess i).shape = c.shape := by
  simp [Chip.closeSess]

@[simp] theorem Chip.publish_shape (c : Chip) (pub byte : Nat) (data : List Nat) :
    (c.publish pub byte data).shape = c.shape := by
  simp [Chip.publish]

@[simp] theorem Chip.pubsDue_shape (c : Chip) : c.pubsDue.shape = c.shape := by
  simp [Chip.pubsDue]

@[simp] theorem Chip.pubSend_shape (c : Chip) (p : PubSt) : (c.pubSend p).shape = c.shape := by
  simp [Chip.pubSend]

@[simp] theorem Chip.latchSubs_shape (c : Chip) : c.latchSubs.shape = c.shape := by
  unfold Chip.latchSubs
  refine (Chip.shape_with_eng _ _).trans (Chip.each_shape (fun c h => ?_) c _)
  split
  · rfl
  · simp only []
    split <;> simp

@[simp] theorem Chip.subTake_shape (c : Chip) (k pub q : Nat) (data : List Nat) :
    (c.subTake k pub q data).shape = c.shape := by
  simp [Chip.subTake]

@[simp] theorem Chip.prpUnique_shape (c : Chip) (old : List (Nat × Nat × Nat × Nat)) :
    (c.prpUnique old).shape = c.shape := by
  simp [Chip.prpUnique]

@[simp] theorem Chip.prpForget_shape (c : Chip) : c.prpForget.shape = c.shape := by
  simp [Chip.prpForget]

@[simp] theorem Chip.prpTake_shape (c : Chip) (lan src : Nat) (trailer : Option (Nat × Nat)) :
    (c.prpTake lan src trailer).1.shape = c.shape := by
  unfold Chip.prpTake
  simp only []
  repeat' split
  all_goals simp

@[simp] theorem Chip.setPtp_shape (c : Chip) (p : Nat) (f : PtpSt → PtpSt) : (c.setPtp p f).shape = c.shape := by
  simp [Chip.setPtp]

@[simp] theorem Chip.calRecord_shape (c : Chip) (what : Nat) (o : Int) : (c.calRecord what o).shape = c.shape := by
  simp [Chip.calRecord]

@[simp] theorem Chip.calUnlock_shape (c : Chip) (o : Int) : (c.calUnlock o).shape = c.shape := by
  simp [Chip.calUnlock]

@[simp] theorem Chip.follow_shape (c : Chip) (p : Option Nat) : (c.follow p).shape = c.shape := by
  unfold Chip.follow
  (repeat' split) <;> simp

@[simp] theorem Chip.chooseMaster_shape (c : Chip) : c.chooseMaster.shape = c.shape := by
  simp only [Chip.chooseMaster]
  (repeat' split) <;> simp

@[simp] theorem Chip.calSync_shape (c : Chip) (o : Int) : (c.calSync o).shape = c.shape := by
  unfold Chip.calSync
  simp only [Chip.shape_ite, Chip.calRecord_shape, Chip.put_shape, Chip.bump_shape, Chip.shape_with_calFs, Chip.calUnlock_shape,
    Chip.setNet_shape, Chip.fresh_shape, ite_self, implies_true]

@[simp] theorem Chip.setEng_shape (c : Chip) (f : EngSt → EngSt) : (c.setEng f).shape = c.shape := by
  simp [Chip.setEng]

@[simp] theorem Chip.svyEnd_shape (c : Chip) (result off gain : Nat) : (c.svyEnd result off gain).shape = c.shape := by
  unfold Chip.svyEnd
  (repeat' split) <;> simp

@[simp] theorem Chip.svyAbort_shape (c : Chip) (kind idx : Nat) : (c.svyAbort kind idx).shape = c.shape := by
  unfold Chip.svyAbort
  (repeat' split) <;> simp

@[simp] theorem Chip.svyAbortRegion_shape (c : Chip) (r : Nat) : (c.svyAbortRegion r).shape = c.shape := by
  unfold Chip.svyAbortRegion
  (repeat' split) <;> simp

@[simp] theorem Chip.changeDone_shape (c : Chip) (q : QChange) (reason : Nat) : (c.changeDone q reason).shape = c.shape := by
  unfold Chip.changeDone
  (repeat' split) <;> simp

@[simp] theorem Chip.refuseChange_shape (c : Chip) (q : QChange) (reason : Nat) :
    (c.refuseChange q reason).shape = c.shape := by
  simp [Chip.refuseChange]

@[simp] theorem Chip.submitChange_shape (c : Chip) (q : QChange) : (c.submitChange q).shape = c.shape := by
  unfold Chip.submitChange
  (repeat' split) <;> simp

@[simp] theorem Chip.loopEffect_shape (c : Chip) (n off : Nat) : (c.loopEffect n off).shape = c.shape := by
  unfold Chip.loopEffect
  (repeat' split) <;> simp

@[simp] theorem Chip.onlEffect_shape (c : Chip) (a old : Nat) : (c.onlEffect a old).shape = c.shape := by
  simp only [Chip.onlEffect]
  (repeat' split) <;> simp

@[simp] theorem Chip.applyWord_shape (c : Chip) (a v : Nat) : (c.applyWord a v).shape = c.shape := by
  simp [Chip.applyWord]

@[simp] theorem Chip.noteBound_shape (c : Chip) (ws : List (Nat × Nat)) : (c.noteBound ws).shape = c.shape := by
  simp [Chip.noteBound]

@[simp] theorem Chip.applyChange_shape (c : Chip) (q : QChange) : (c.applyChange q).shape = c.shape := by
  simp [Chip.applyChange]

@[simp] theorem Chip.applyQueue_shape (c : Chip) : c.applyQueue.shape = c.shape := by
  simp [Chip.applyQueue]

@[simp] theorem Chip.forcesSync_shape (c : Chip) : c.forcesSync.shape = c.shape := by
  simp [Chip.forcesSync]

@[simp] theorem Chip.putForce_shape (c : Chip) (i : Nat) (ws : List Nat) : (c.putForce i ws).shape = c.shape := by
  simp [Chip.putForce]

@[simp] theorem Chip.noteForce_shape (c : Chip) (i : Nat) : (c.noteForce i).shape = c.shape := by
  simp [Chip.noteForce]

@[simp] theorem Chip.applyEdit_shape (c : Chip) (e : FEdit) : (c.applyEdit e).shape = c.shape := by
  unfold Chip.applyEdit
  (repeat' split) <;> simp

@[simp] theorem Chip.applyEdits_shape (c : Chip) : c.applyEdits.shape = c.shape := by
  simp [Chip.applyEdits]

@[simp] theorem Chip.forceSet_shape (c : Chip) (ws : List Nat) (asked : Option AskedBy) :
    (c.forceSet ws asked).shape = c.shape := by
  unfold Chip.forceSet
  (repeat' split) <;> simp

@[simp] theorem Chip.forceRelease_shape (c : Chip) (i : Nat) (asked : Option AskedBy) :
    (c.forceRelease i asked).shape = c.shape := by
  simp [Chip.forceRelease]

@[simp] theorem Chip.cmdReleaseAll_shape (c : Chip) : c.cmdReleaseAll.shape = c.shape := by
  simp [Chip.cmdReleaseAll]

@[simp] theorem Chip.cmdClearStats_shape (c : Chip) : c.cmdClearStats.shape = c.shape := by
  simp [Chip.cmdClearStats]

@[simp] theorem Chip.dropPending_shape (c : Chip) : c.dropPending.shape = c.shape := by
  simp [Chip.dropPending]

@[simp] theorem Chip.dropToShadow_shape (c : Chip) : c.dropToShadow.shape = c.shape := by
  simp [Chip.dropToShadow]

@[simp] theorem Chip.haltEngine_shape (c : Chip) (state : Nat) : (c.haltEngine state).shape = c.shape := by
  simp [Chip.haltEngine]

@[simp] theorem Chip.allSafe_shape (c : Chip) : c.allSafe.shape = c.shape := by
  simp [Chip.allSafe]

@[simp] theorem Chip.stopSlices_shape (c : Chip) (cause : Nat) : (c.stopSlices cause).shape = c.shape := by
  simp [Chip.stopSlices]

@[simp] theorem Chip.axesStop_shape (c : Chip) : c.axesStop.shape = c.shape := by
  simp [Chip.axesStop]

@[simp] theorem Chip.partnerCheck_shape (c : Chip) (r : Nat) : (c.partnerCheck r).shape = c.shape := by
  simp [Chip.partnerCheck]

@[simp] theorem Chip.clockCompare_shape (c : Chip) (r theirs : Nat) : (c.clockCompare r theirs).shape = c.shape := by
  simp [Chip.clockCompare]

@[simp] theorem Chip.cmdIsleRestart_shape (c : Chip) (r : Nat) : (c.cmdIsleRestart r).shape = c.shape := by
  simp [Chip.cmdIsleRestart]

@[simp] theorem Chip.cmdIsleClear_shape (c : Chip) (r : Nat) : (c.cmdIsleClear r).shape = c.shape := by
  simp [Chip.cmdIsleClear]

@[simp] theorem Chip.recError_shape (c : Chip) (r n : Nat) : (c.recError r n).shape = c.shape := by
  simp [Chip.recError]

@[simp] theorem Chip.canArrive_shape (c : Chip) (r : Nat) (f : CanFrame) (esi : Bool) :
    (c.canArrive r f esi).shape = c.shape := by
  simp [Chip.canArrive]

@[simp] theorem Chip.endTx_shape (c : Chip) (r : Nat) : (c.endTx r).shape = c.shape := by
  simp [Chip.endTx]

@[simp] theorem Chip.completeBands_shape (c : Chip) (next : Nat) : (c.completeBands next).shape = c.shape := by
  simp [Chip.completeBands]

@[simp] theorem Chip.overflowEnd_shape (c : Chip) : c.overflowEnd.shape = c.shape := by
  simp [Chip.overflowEnd]

@[simp] theorem Chip.tellLost_shape (c : Chip) (first count told unnumbered : Nat) :
    (c.tellLost first count told unnumbered).shape = c.shape := by
  simp [Chip.tellLost]

@[simp] theorem Chip.lateComparators_shape (c : Chip) : c.lateComparators.shape = c.shape := by
  unfold Chip.lateComparators
  refine Chip.shape_with_aon_of (Chip.each_shape (fun c k => ?_) c _) (by simp)
  split <;> simp

@[simp] theorem Chip.dropLatches_shape (c : Chip) (bits : Nat) : (c.dropLatches bits).shape = c.shape := by
  simp [Chip.dropLatches]

@[simp] theorem Chip.putBands_shape (c : Chip) (bands : List (Nat × Nat × Nat)) : (c.putBands bands).shape = c.shape := by
  simp [Chip.putBands]

@[simp] theorem Chip.stopRecorder_shape (c : Chip) : c.stopRecorder.shape = c.shape := by
  simp [Chip.stopRecorder]

@[simp] theorem Chip.pairGiveUp_shape (c : Chip) : c.pairGiveUp.shape = c.shape := by
  simp [Chip.pairGiveUp]

@[simp] theorem Chip.freeBand_shape (c : Chip) (b : Nat) : (c.freeBand b).shape = c.shape := by
  simp [Chip.freeBand]

@[simp] theorem Chip.recCommand_shape (c : Chip) (w : Nat) : (c.recCommand w).shape = c.shape := by
  simp [Chip.recCommand]

@[simp] theorem Chip.putSlot_shape (c : Chip) (a : Nat) (bs : List Nat) : (c.putSlot a bs).shape = c.shape := by
  simp [Chip.putSlot]

@[simp] theorem Chip.setXfer_shape (c : Chip) (f : XferSt → XferSt) : (c.setXfer f).shape = c.shape := (rfl)
@[simp] theorem Chip.setFab_shape (c : Chip) (r : Nat) (f : FabSt → FabSt) : (c.setFab r f).shape = c.shape := by
  simp [Chip.setFab, Chip.shape]

@[simp] theorem Chip.xferAbort_shape (c : Chip) : c.xferAbort.shape = c.shape := by
  simp [Chip.xferAbort]

@[simp] theorem Chip.faultStop_shape (c : Chip) : c.faultStop.shape = c.shape := by
  simp [Chip.faultStop]

@[simp] theorem Chip.moduleFault_shape (c : Chip) (cause r : Nat) : (c.moduleFault cause r).shape = c.shape := by
  simp [Chip.moduleFault]

@[simp] theorem Chip.stationDown_shape (c : Chip) (p : Nat) : (c.stationDown p).shape = c.shape := by
  simp [Chip.stationDown]

@[simp] theorem Chip.guardChan_shape (c : Chip) (g : Nat) : (c.guardChan g).shape = c.shape := by
  simp [Chip.guardChan]

@[simp] theorem Chip.abandonPanel_shape (c : Chip) : c.abandonPanel.shape = c.shape := by
  simp [Chip.abandonPanel]

@[simp] theorem Chip.abandonBlock_shape (c : Chip) (r i : Nat) : (c.abandonBlock r i).shape = c.shape := by
  simp [Chip.abandonBlock]

@[simp] theorem Chip.afresh_shape (c : Chip) (g : Nat) : (c.afresh g).shape = c.shape := by
  simp [Chip.afresh]

@[simp] theorem Chip.regionCommand_shape (c : Chip) (r w : Nat) : (c.regionCommand r w).shape = c.shape := by
  simp [Chip.regionCommand]

@[simp] theorem Chip.declareFence_shape (c : Chip) (r how : Nat) : (c.declareFence r how).shape = c.shape := by
  simp [Chip.declareFence]

@[simp] theorem Chip.oosBit_shape (c : Chip) (kind idx : Nat) (on : Bool) : (c.oosBit kind idx on).shape = c.shape := by
  simp [Chip.oosBit]

@[simp] theorem Chip.holdTarget_shape (c : Chip) (kind idx : Nat) (on : Bool) :
    (c.holdTarget kind idx on).shape = c.shape := by
  simp [Chip.holdTarget]

@[simp] theorem Chip.statusSync_shape (c : Chip) : c.statusSync.shape = c.shape := by
  simp [Chip.statusSync]

@[simp] theorem Chip.setLink_shape (c : Chip) (r k : Nat) (f : LinkSt → LinkSt) : (c.setLink r k f).shape = c.shape := by
  simp [Chip.setLink]

@[simp] theorem Chip.routesSync_shape (c : Chip) : c.routesSync.shape = c.shape := by
  simp [Chip.routesSync]

@[simp] theorem Chip.putFlit_shape (c : Chip) (r k kind number : Nat) (ws : List Nat) :
    (c.putFlit r k kind number ws).shape = c.shape := by
  simp [Chip.putFlit]

@[simp] theorem Chip.sendFlit_shape (c : Chip) (r k : Nat) (ws : List Nat) : (c.sendFlit r k ws).shape = c.shape := by
  simp [Chip.sendFlit]

@[simp] theorem Chip.sendNext_shape (c : Chip) (r d : Nat) (ws : List Nat) : (c.sendNext r d ws).shape = c.shape := by
  simp only [Chip.sendNext]
  (repeat' split) <;> simp

@[simp] theorem Chip.sendOn_shape (c : Chip) (r : Nat) (ws : List Nat) : (c.sendOn r ws).shape = c.shape := by
  unfold Chip.sendOn
  (repeat' split) <;> simp

@[simp] theorem Chip.sendTowards_shape (c : Chip) (r d kind : Nat) : (c.sendTowards r d kind).shape = c.shape := by
  simp [Chip.sendTowards]

@[simp] theorem Chip.sendWaiting_shape (c : Chip) : c.sendWaiting.shape = c.shape := by
  simp [Chip.sendWaiting]

@[simp] theorem Chip.linkDown_shape (c : Chip) (r k cause : Nat) : (c.linkDown r k cause).shape = c.shape := by
  simp [Chip.linkDown]

@[simp] theorem Chip.restartLink_shape (c : Chip) (r k : Nat) : (c.restartLink r k).shape = c.shape := by
  simp [Chip.restartLink]

@[simp] theorem Chip.flitsAcked_shape (c : Chip) (r k n : Nat) : (c.flitsAcked r k n).shape = c.shape := by
  simp [Chip.flitsAcked]

@[simp] theorem Chip.replayFlits_shape (c : Chip) (r k : Nat) : (c.replayFlits r k).shape = c.shape := by
  simp [Chip.replayFlits]

@[simp] theorem Chip.takeFlit_shape (c : Chip) (r k : Nat) (ws : List Nat) : (c.takeFlit r k ws).shape = c.shape := by
  simp [Chip.takeFlit]

@[simp] theorem Chip.markClock_shape (c : Chip) (r d : Nat) (lost : Bool) : (c.markClock r d lost).shape = c.shape := by
  simp [Chip.markClock]

@[simp] theorem Chip.pwmReturn_shape (c : Chip) (g : Nat) : (c.pwmReturn g).shape = c.shape := by
  simp [Chip.pwmReturn]

@[simp] theorem Chip.setTongs_shape (c : Chip) (src count : Nat) (short : Bool) :
    (c.setTongs src count short).shape = c.shape := by
  simp [Chip.setTongs]

@[simp] theorem Chip.resyncTongs_shape (c : Chip) (r : Nat) (ks : List Nat) (flag : Bool) :
    (c.resyncTongs r ks flag).shape = c.shape := by
  simp [Chip.resyncTongs]

@[simp] theorem Chip.cmdClearCrossings_shape (c : Chip) (r : Nat) : (c.cmdClearCrossings r).shape = c.shape := by
  simp [Chip.cmdClearCrossings]

@[simp] theorem Chip.assertCmp_shape (c : Chip) (i : Nat) : (c.assertCmp i).shape = c.shape := by
  simp [Chip.assertCmp]

@[simp] theorem Chip.complianceSync_shape (c : Chip) (r : Nat) : (c.complianceSync r).shape = c.shape := by
  simp [Chip.complianceSync]

@[simp] theorem Chip.gsChange_shape (c : Chip) (r n : Nat) (entered : Bool) (mv : Nat) :
    (c.gsChange r n entered mv).shape = c.shape := by
  simp [Chip.gsChange]

@[simp] theorem Chip.endOpenLoad_shape (c : Chip) (g : Nat) : (c.endOpenLoad g).shape = c.shape := by
  simp [Chip.endOpenLoad]

@[simp] theorem Chip.gsOpen_shape (c : Chip) (r : Nat) : (c.gsOpen r).shape = c.shape := by
  simp [Chip.gsOpen]

@[simp] theorem Chip.gsUnpower_shape (c : Chip) (r : Nat) : (c.gsUnpower r).shape = c.shape := by
  simp [Chip.gsUnpower]

@[simp] theorem Chip.gsPower_shape (c : Chip) (r : Nat) : (c.gsPower r).shape = c.shape := by
  simp [Chip.gsPower]

@[simp] theorem Chip.noteLow_shape (c : Chip) (lsOr : Nat) (gs : List (BitVec 16)) :
    (c.noteLow lsOr gs).shape = c.shape := by
  simp [Chip.noteLow]

@[simp] theorem Chip.cmdDormant_shape (c : Chip) : c.cmdDormant.shape = c.shape := by
  simp [Chip.cmdDormant]

@[simp] theorem Chip.loadPort_shape (c : Chip) (r : Nat) (t : List Nat) : (c.loadPort r t).shape = c.shape := by
  simp [Chip.loadPort]

@[simp] theorem Chip.loadInst_shape (c : Chip) (r : Nat) (runs : List (Nat × List Nat)) :
    (c.loadInst r runs).shape = c.shape := by
  simp [Chip.loadInst]

@[simp] theorem Chip.loadSecs_shape (c : Chip) (ss : List Sec) : (c.loadSecs ss).shape = c.shape := by
  simp [Chip.loadSecs]

@[simp] theorem Chip.selectSync_shape (c : Chip) (f : Flash) : (c.selectSync f).shape = c.shape := by
  simp [Chip.selectSync]

@[simp] theorem Chip.putResult_shape (c : Chip) (kind idx q e v : Nat) : (c.putResult kind idx q e v).shape = c.shape := by
  unfold Chip.putResult
  (repeat' split) <;> simp

@[simp] theorem Chip.putLengths_shape (c : Chip) (kind idx : Nat) (qs : List Nat) :
    (c.putLengths kind idx qs).shape = c.shape := by
  simp [Chip.putLengths]

@[simp] theorem Chip.putResults_shape (c : Chip) (kind idx : Nat) (rs : List (Nat × Nat × Nat)) :
    (c.putResults kind idx rs).shape = c.shape := by
  simp [Chip.putResults]

@[simp] theorem Chip.recordExpect_shape (c : Chip) (kind idx q e : Nat) (m x : Int) :
    (c.recordExpect kind idx q e m x).shape = c.shape := by
  simp [Chip.recordExpect]

@[simp] theorem Chip.judgeTarget_shape (c : Chip) (kind idx when_ : Nat) : (c.judgeTarget kind idx when_).1.shape = c.shape := by
  unfold Chip.judgeTarget
  refine (Chip.foldl_fst_shape (fun r x => ?_) _ _).trans (Chip.foldl_shape (fun c q => by simp) _ _)
  split
  · rfl
  · simp only []
    split <;> simp

@[simp] theorem Chip.surveyBegin_shape (c : Chip) (bitNo kind idx : Nat) :
    (c.surveyBegin bitNo kind idx).shape = c.shape := by
  simp [Chip.surveyBegin]

@[simp] theorem Chip.surveyCommand_shape (c : Chip) (w : Nat) : (c.surveyCommand w).shape = c.shape := by
  unfold Chip.surveyCommand
  (repeat' split) <;> simp

@[simp] theorem Chip.holdLater_shape (c : Chip) (kind idx : Nat) (on : Bool) :
    (c.holdLater kind idx on).shape = c.shape := by
  simp [Chip.holdLater]

@[simp] theorem Chip.enterPhase_shape (c : Chip) (p : Nat) : (c.enterPhase p).shape = c.shape := by
  simp [Chip.enterPhase]

@[simp] theorem Chip.startLink_shape (c : Chip) (r k : Nat) (up : Bool) : (c.startLink r k up).shape = c.shape := by
  simp [Chip.startLink]

@[simp] theorem Chip.trainLinks_shape (c : Chip) (trained : BitVec 32) : (c.trainLinks trained).shape = c.shape := by
  simp [Chip.trainLinks]

@[simp] theorem Chip.resyncStart_shape (c : Chip) (ds : List Nat) : (c.resyncStart ds).shape = c.shape := by
  simp [Chip.resyncStart]

@[simp] theorem Chip.compareRoute_shape (c : Chip) (kind idx : Nat) : (c.compareRoute kind idx).shape = c.shape := by
  simp [Chip.compareRoute]

@[simp] theorem Chip.judgeRoute_shape (c : Chip) (x : Expect) : (c.judgeRoute x).shape = c.shape := by
  simp [Chip.judgeRoute]

@[simp] theorem Chip.startAxis_shape (c : Chip) (r : Retained) (x : Nat) : (c.startAxis r x).shape = c.shape := by
  simp [Chip.startAxis]

@[simp] theorem Chip.returnAtStart_shape (c : Chip) (kind idx : Nat) : (c.returnAtStart kind idx).shape = c.shape := by
  simp [Chip.returnAtStart]

@[simp] theorem Chip.modeAtStart_shape (c : Chip) (g : Nat) : (c.modeAtStart g).shape = c.shape := by
  simp [Chip.modeAtStart]

@[simp] theorem Chip.sliceEntry_shape (c : Chip) (r : Nat) : (c.sliceEntry r).shape = c.shape := by
  simp [Chip.sliceEntry]

@[simp] theorem Chip.loopsEntry_shape (c : Chip) : c.loopsEntry.shape = c.shape := by
  simp [Chip.loopsEntry]

@[simp] theorem Chip.putPairSeq_shape (c : Chip) (e : Nat × Nat × Nat) : (c.putPairSeq e).shape = c.shape := by
  simp [Chip.putPairSeq]

@[simp] theorem Chip.restoreOwn_shape (c : Chip) : c.restoreOwn.shape = c.shape := by
  simp [Chip.restoreOwn]

@[simp] theorem Chip.mirrorChange_shape (c : Chip) (w : Nat × Nat) : (c.mirrorChange w).shape = c.shape := by
  simp [Chip.mirrorChange]

@[simp] theorem Chip.mirrorBoundary_shape (c : Chip) (ws : List (Nat × Nat)) : (c.mirrorBoundary ws).shape = c.shape := by
  simp [Chip.mirrorBoundary]

@[simp] theorem Chip.sendCopy_shape (c : Chip) : c.sendCopy.shape = c.shape := by
  simp [Chip.sendCopy]

@[simp] theorem Chip.handOver_shape (c : Chip) : c.handOver.shape = c.shape := by
  simp [Chip.handOver]

@[simp] theorem Chip.swapNow_shape (c : Chip) : c.swapNow.shape = c.shape := by
  simp [Chip.swapNow]

@[simp] theorem Chip.ownBoundary_shape (c : Chip) : c.ownBoundary.shape = c.shape := by
  simp [Chip.ownBoundary]

@[simp] theorem Chip.latchOwn_shape (c : Chip) : c.latchOwn.shape = c.shape := by
  unfold Chip.latchOwn
  simp only [Chip.shape_ite, Chip.laneOne_shape, Chip.setEng_shape, Chip.latchSubs_shape, ite_self]
  refine (Chip.foldl_fst_shape (fun a r => ?_) _ _).trans ?_
  · exact Chip.latchStations_shape a.1 r
  · exact (Chip.shape_with_ports (c.put engineAt Engine.latch_tick c.tick) _ (by simp)).trans (Chip.put_shape _ _ _ _)

@[simp] theorem Chip.latchMirror_shape (c : Chip) (m : MirrorRec) : (c.latchMirror m).shape = c.shape := by
  simp [Chip.latchMirror]

@[simp] theorem Chip.issue_shape (c : Chip) (a : Nat × Ask) : (c.issue a).shape = c.shape := by
  unfold Chip.issue
  (repeat' split) <;> simp

@[simp] theorem Chip.writeChannels_shape (c : Chip) : c.writeChannels.shape = c.shape := by
  simp [Chip.writeChannels]

@[simp] theorem Chip.writeStations_shape (c : Chip) : c.writeStations.shape = c.shape := by
  simp [Chip.writeStations]

@[simp] theorem Chip.takeLoopVars_shape (c : Chip) : c.takeLoopVars.shape = c.shape := by
  simp [Chip.takeLoopVars]

@[simp] theorem Chip.cycleStats_shape (c : Chip) (t : Nat) : (c.cycleStats t).shape = c.shape := by
  simp [Chip.cycleStats]

@[simp] theorem Chip.cyclePair_shape (c : Chip) (digest : Nat) : (c.cyclePair digest).shape = c.shape := by
  simp only [Chip.cyclePair]
  (repeat' split) <;> simp

@[simp] theorem Chip.missSample_shape (c : Chip) (n : Nat) : (c.missSample n).shape = c.shape := by
  simp only [Chip.missSample]
  (repeat' split) <;> simp

@[simp] theorem Chip.loopDrive_shape (c : Chip) (n : Nat) (out : Int) : (c.loopDrive n out).shape = c.shape := by
  simp [Chip.loopDrive]

@[simp] theorem Chip.unusable_shape (c : Chip) (n code : Nat) (old new : Bool) :
    (c.unusable n code old new).shape = c.shape := by
  simp [Chip.unusable]

@[simp] theorem Chip.loopCommit_shape (c : Chip) (res : LoopRes) (time : Nat) : (c.loopCommit res time).shape = c.shape := by
  simp [Chip.loopCommit]

@[simp] theorem Chip.cmdResetStates_shape (c : Chip) (n : Nat) : (c.cmdResetStates n).shape = c.shape := by
  simp [Chip.cmdResetStates]

@[simp] theorem Chip.cmdLoopStats_shape (c : Chip) (n : Nat) : (c.cmdLoopStats n).shape = c.shape := by
  simp [Chip.cmdLoopStats]

@[simp] theorem Chip.cmdClearSlice_shape (c : Chip) (r : Nat) : (c.cmdClearSlice r).shape = c.shape := by
  simp [Chip.cmdClearSlice]

@[simp] theorem Chip.copyWord_shape (c : Chip) (w : Nat × Nat) : (c.copyWord w).shape = c.shape := by
  simp [Chip.copyWord]

@[simp] theorem Chip.takeCopy_shape (c : Chip) (ws : List (Nat × Nat)) : (c.takeCopy ws).shape = c.shape := by
  simp [Chip.takeCopy]

@[simp] theorem Chip.orderSeqs_shape (c : Chip) (objs : List (Nat × Nat × Nat)) (pubs : List (Nat × Nat)) :
    (c.orderSeqs objs pubs).shape = c.shape := by
  simp [Chip.orderSeqs]

@[simp] theorem Chip.netOne_shape (c : Chip) (p kind : Nat) (bs : List Nat) : (c.netOne p kind bs).shape = c.shape := by
  simp [Chip.netOne]

@[simp] theorem Chip.ptpStepped_shape (c : Chip) (o : Int) : (c.ptpStepped o).shape = c.shape := by
  simp [Chip.ptpStepped]

@[simp] theorem Chip.leapUtc_shape (c : Chip) (up : Bool) : (c.leapUtc up).shape = c.shape := by
  simp [Chip.leapUtc]

@[simp] theorem Chip.takeDatagram_shape (c : Chip) (bs : List Nat) : (c.takeDatagram bs).shape = c.shape := by
  simp only [Chip.takeDatagram]
  (repeat' split) <;> simp

@[simp] theorem Chip.cmdStationClear_shape (c : Chip) : c.cmdStationClear.shape = c.shape := by
  simp [Chip.cmdStationClear]

@[simp] theorem Chip.imageAccept_shape (c : Chip) (bitNo result : Nat) : (c.imageAccept bitNo result).shape = c.shape := by
  simp [Chip.imageAccept]

@[simp] theorem Chip.netIn_shape (c : Chip) (bytes : Nat) : (c.netIn bytes).shape = c.shape := by
  simp [Chip.netIn]

@[simp] theorem Chip.endSession_shape (c : Chip) (i : Nat) : (c.endSession i).shape = c.shape := by
  simp [Chip.endSession]

@[simp] theorem Chip.locksSync_shape (c : Chip) : c.locksSync.shape = c.shape := by
  simp [Chip.locksSync]

@[simp] theorem Chip.proofFailed_shape (c : Chip) (i : Nat) : (c.proofFailed i).shape = c.shape := by
  simp [Chip.proofFailed]

@[simp] theorem Chip.badMac_shape (c : Chip) : c.badMac.shape = c.shape := by
  simp [Chip.badMac]

@[simp] theorem Chip.takeRequest_shape (c : Chip) (i typ seq rid parts : Nat) :
    (c.takeRequest i typ seq rid parts).shape = c.shape := by
  simp [Chip.takeRequest]

@[simp] theorem Chip.clearSticky_shape (c : Chip) (a v : Nat) : (c.clearSticky a v).shape = c.shape := by
  simp [Chip.clearSticky]

@[simp] theorem Chip.setCalendar_shape (c : Chip) (stamp rtt : Nat) : (c.setCalendar stamp rtt).shape = c.shape := by
  unfold Chip.setCalendar
  generalize fsOf stamp + rtt * 10 ^ 9 / 2 = new
  simp only [Chip.calRecord_shape, Chip.put_shape]
  exact (Chip.setNet_shape _ _ (fun _ => rfl) (fun _ => rfl)).trans (Chip.shape_with_calFs c new)

@[simp] theorem Chip.calendarTick_shape (c : Chip) : c.calendarTick.shape = c.shape := by
  simp [Chip.calendarTick]

@[simp] theorem Chip.beaconTick_shape (c : Chip) : c.beaconTick.shape = c.shape := by
  simp [Chip.beaconTick]

@[simp] theorem Chip.recorderTick_shape (c : Chip) : c.recorderTick.shape = c.shape := by
  simp [Chip.recorderTick]

@[simp] theorem Chip.axisTick_shape (c : Chip) : c.axisTick.shape = c.shape := by
  simp [Chip.axisTick]

@[simp] theorem Chip.tickOnce_shape (c : Chip) : c.tickOnce.shape = c.shape := by
  simp [Chip.tickOnce]

end Sys2Proof.Machine
end

section
/-! SUPPORT. What every operation of the machine but the key commands keeps: the queue, the sizes of the fixed stores, the
canonical form of the NOR and the one-time-programmable memory (R135, R456). -/

namespace Sys2Proof.Machine

/-- What every operation but the key commands keeps from s to t: the queue, the sizes of the fixed stores, the canonical form of the
NOR and the one-time-programmable memory. -/
structure State.Keeps (s t : State) : Prop where
  pending : t.pending = s.pending
  shaped : Shaped s → Shaped t
  nor : Memory.wf s.flash.nor = true → Memory.wf t.flash.nor = true
  keys : t.flash.keys = s.flash.keys
  fuse : t.flash.fuse = s.flash.fuse

/-- The sizes after a reset: every store but the always-on domain's is made anew. -/
theorem Chip.afterReset_shape_of {c : Chip} (h : c.shape = State.reset.chip.shape) : c.afterReset.shape = State.reset.chip.shape := by
  have hx : c.crossNow.aon.cmp.length = State.reset.chip.aon.cmp.length := by
    have hs := (Chip.crossNow_shape c).trans h
    simp only [Chip.shape, List.cons.injEq] at hs
    tauto
  unfold Chip.afterReset
  simp only [Chip.put_shape]
  simp only [Chip.shape, hx]
  rfl

@[simp] theorem Chip.afterReset_aon (c : Chip) : c.afterReset.aon = c.aon := by
  unfold Chip.afterReset Chip.crossNow
  split <;> rfl

namespace State.Keeps
variable {s t : State}

@[simp] theorem refl (s : State) : s.Keeps s := ⟨rfl, id, id, rfl, rfl⟩

theorem trans {u : State} (h : s.Keeps t) (k : t.Keeps u) : s.Keeps u :=
  ⟨k.pending.trans h.pending, k.shaped ∘ h.shaped, k.nor ∘ h.nor, k.keys.trans h.keys, k.fuse.trans h.fuse⟩

@[simp] theorem with_chip (h : s.Keeps t) {c : Chip} (hc : c.shape = t.chip.shape) : s.Keeps { t with chip := c } :=
  ⟨h.pending, fun hs => hc.trans (h.shaped hs), h.nor, h.keys, h.fuse⟩

@[simp] theorem with_flash (h : s.Keeps t) {f : Flash} (hn : f.nor = t.flash.nor) (hk : f.keys = t.flash.keys)
    (hf : f.fuse = t.flash.fuse) : s.Keeps { t with flash := f } :=
  ⟨h.pending, h.shaped, fun hw => (congrArg _ hn).trans (h.nor hw), hk.trans h.keys, hf.trans h.fuse⟩

@[simp] theorem with_both (h : s.Keeps t) {f : Flash} {c : Chip} (hn : f.nor = t.flash.nor) (hk : f.keys = t.flash.keys)
    (hf : f.fuse = t.flash.fuse) (hc : c.shape = t.chip.shape) : s.Keeps { t with flash := f, chip := c } :=
  (h.with_flash hn hk hf).with_chip hc

@[simp] theorem onChip (h : s.Keeps t) {f : Chip → Chip} (hf : ∀ c, (f c).shape = c.shape) : s.Keeps (t.onChip f) :=
  h.with_chip (hf _)

@[simp] theorem ite {p : Prop} [Decidable p] {u : State} : s.Keeps (if p then t else u) ↔ (p → s.Keeps t) ∧ (¬ p → s.Keeps u) := by
  split <;> simp_all

theorem foldl {α : Type} {f : State → α → State} (h : s.Keeps t) (hf : ∀ u x, s.Keeps u → s.Keeps (f u x)) (l : List α) :
    s.Keeps (l.foldl f t) := by
  induction l generalizing t with
  | nil => exact h
  | cons x xs ih => exact ih (hf t x h)


@[simp] theorem startQuench (h : s.Keeps t) (trigger : Nat) : s.Keeps (t.startQuench trigger) := by
  unfold State.startQuench
  split
  · exact h
  · exact h.with_both (by split <;> rfl) (by split <;> rfl) (by split <;> rfl) (by simp)

@[simp] theorem panelRestart (h : s.Keeps t) : s.Keeps t.panelRestart := by
  unfold State.panelRestart
  simp [h]

@[simp] theorem tailSync (h : s.Keeps t) : s.Keeps t.tailSync := by
  unfold State.tailSync
  simp [h]

@[simp] theorem eraseStripe (h : s.Keeps t) (q : Nat) : s.Keeps (t.eraseStripe q) := by
  unfold State.eraseStripe
  exact tailSync (h.with_flash rfl rfl rfl)

@[simp] theorem beginErase (h : s.Keeps t) : s.Keeps t.beginErase := by
  unfold State.beginErase
  split <;> simp [h]

@[simp] theorem endErase (h : s.Keeps t) : s.Keeps t.endErase := by
  unfold State.endErase
  split
  · exact h
  · exact tailSync (h.with_flash rfl rfl rfl)

@[simp] theorem readyStripe (h : s.Keeps t) (how : WriteHow) : s.Keeps (t.readyStripe how) := by
  unfold State.readyStripe
  split
  · split <;> simp [h]
  · exact h

theorem enterStripe (h : s.Keeps t) {l : Nat} {how : WriteHow} {u : State} (hu : t.enterStripe l how = some u) : s.Keeps u := by
  unfold State.enterStripe at hu
  split at hu
  · obtain rfl := Option.some.inj hu
    exact h
  · simp only [] at hu
    split at hu
    · cases hu
    split at hu
    · obtain rfl := Option.some.inj hu
      have hr := h.readyStripe how
      split <;> simp [hr]
    · cases hu

theorem writeOne (h : s.Keeps t) {e : EvRec} {how : WriteHow} {u : State} (hu : t.writeOne e how = some u) : s.Keeps u := by
  obtain ⟨v, hv, rfl⟩ := Option.map_eq_some_iff.1 hu
  exact (h.enterStripe hv).with_both rfl rfl rfl (by simp)

theorem writeRecords (h : s.Keeps t) (how : WriteHow) (n : Nat) : s.Keeps (t.writeRecords how n) := by
  induction n generalizing t with
  | zero => exact h
  | succ n ih =>
    unfold State.writeRecords
    split
    · exact h
    split
    · exact h
    split
    · exact h
    · next hw => exact ih ((h.writeOne hw).with_chip (by simp))

@[simp] theorem useSpares (h : s.Keeps t) (n : Nat) : s.Keeps (t.useSpares n) := by
  unfold State.useSpares
  simp only []
  refine onChip ?_ (fun c => ?_)
  · exact h.with_flash rfl rfl rfl
  · split <;> simp

@[simp] theorem markLost (h : s.Keeps t) (first count : Nat) : s.Keeps (t.markLost first count) := by
  unfold State.markLost
  split
  · exact h
  · refine (h.foldl (fun u k hu => ?_) _).with_flash rfl rfl rfl
    cases he : u.enterStripe (stripeOf first + k) .restart with
    | none => exact hu
    | some v => exact hu.enterStripe he

@[simp] theorem reportLost (h : s.Keeps t) (first count told unnumbered : Nat) :
    s.Keeps (t.reportLost first count told unnumbered) := by
  unfold State.reportLost
  simp [h]

@[simp] theorem mount (h : s.Keeps t) : s.Keeps t.mount := by
  unfold State.mount
  simp only []
  refine onChip (ite.2 ⟨fun _ => reportLost ?_ _ _ _ _, fun _ => reportLost ?_ _ _ _ _⟩) (by simp) <;>
    exact h.with_both rfl rfl rfl (by simp)

@[simp] theorem resumeRecorder (h : s.Keeps t) : s.Keeps t.resumeRecorder := by
  unfold State.resumeRecorder
  refine ite.2 ⟨fun _ => h, fun _ => ite.2 ⟨fun _ => h.mount, fun _ => ?_⟩⟩
  exact ((h.onChip (by simp)).markLost _ _).onChip (by simp)

@[simp] theorem flush (h : s.Keeps t) (how : WriteHow) (count : Nat) : s.Keeps (t.flush how count) := by
  unfold State.flush
  refine with_flash (ite.2 ⟨fun _ => writeRecords (h.onChip (by simp)) _ _, fun _ => h⟩) rfl rfl rfl

@[simp] theorem fillWindow (h : s.Keeps t) (w : Nat) (bad : List Nat) : s.Keeps (t.fillWindow w bad) := by
  unfold State.fillWindow
  simp [h]

@[simp] theorem winCommand (h : s.Keeps t) (i w cmd : Nat) (bad : List Nat) : s.Keeps (t.winCommand i w cmd bad) := by
  unfold State.winCommand
  simp [h]

@[simp] theorem fenceEffect (h : s.Keeps t) (r i : Nat) : s.Keeps (t.fenceEffect r i) := by
  unfold State.fenceEffect
  simp [h]

@[simp] theorem fenceBlock (h : s.Keeps t) (r i : Nat) : s.Keeps (t.fenceBlock r i) := by
  unfold State.fenceBlock
  simp [h]

@[simp] theorem blockFailure (h : s.Keeps t) (r i cause : Nat) : s.Keeps (t.blockFailure r i cause) := by
  unfold State.blockFailure
  simp only []
  refine ite.2 ⟨fun _ => h, fun _ => ?_⟩
  generalize (match nth none t.chip.sys.testing r with | some (k, _) => k == i | none => false : Bool) = testing
  refine ite.2 ⟨fun _ => h, fun _ => ite.2 ⟨fun _ => h.with_chip ?_, fun _ =>
    ite.2 ⟨fun _ => fenceBlock (h.with_chip ?_) r i, fun _ => h.with_chip ?_⟩⟩⟩ <;> simp

@[simp] theorem returnBlock (h : s.Keeps t) (r i : Nat) : s.Keeps (t.returnBlock r i) := by
  unfold State.returnBlock
  simp [h]

@[simp] theorem fenceRegion (h : s.Keeps t) (r : Nat) : s.Keeps (t.fenceRegion r) := by
  unfold State.fenceRegion
  simp only []
  refine ite.2 ⟨fun _ => h, fun _ => ite.2 ⟨fun _ => startQuench (h.with_chip ?_) 5, fun _ => h.with_chip ?_⟩⟩ <;> simp

@[simp] theorem regionFence (h : s.Keeps t) (r : Nat) : s.Keeps (t.regionFence r) := by
  unfold State.regionFence
  simp [h]

@[simp] theorem clockEffect (h : s.Keeps t) (r d : Nat) : s.Keeps (t.clockEffect r d) := by
  unfold State.clockEffect
  simp [h]

@[simp] theorem setRetained (h : s.Keeps t) (f : Retained → Retained) : s.Keeps (t.setRetained f) := h.with_flash rfl rfl rfl

@[simp] theorem keepRetained (h : s.Keeps t) (axes : List AxKeep) : s.Keeps (t.keepRetained axes) := by
  unfold State.keepRetained
  exact h.setRetained _

@[simp] theorem powerDown (h : s.Keeps t) : s.Keeps t.powerDown := by
  unfold State.powerDown
  refine keepRetained (startQuench (h.with_chip ?_) 1) _
  split <;> simp

theorem afterReset (h : s.Keeps t) {d : Chip} (hd : d.shape = t.chip.afterReset.shape) : s.Keeps { t with chip := d } :=
  ⟨h.pending, fun hs => hd.trans (Chip.afterReset_shape_of (h.shaped hs)), h.nor, h.keys, h.fuse⟩

@[simp] theorem startS1 (h : s.Keeps t) (cause wake : Nat) : s.Keeps (t.startS1 cause wake) := by
  unfold State.startS1
  refine afterReset (h.setRetained _) ?_
  simp only [Chip.put_shape]
  exact Chip.shape_with_aon _ _ (by simp)

@[simp] theorem stampAndFlush (h : s.Keeps t) (stamp : Nat) (how : WriteHow) (count : Nat) :
    s.Keeps (t.stampAndFlush stamp how count) := (h.setRetained _).flush how count

@[simp] theorem restart (h : s.Keeps t) : s.Keeps t.restart := by
  unfold State.restart
  refine startS1 (stampAndFlush (ite.2 ⟨fun _ => ?_, fun _ => ?_⟩) _ _ _) 3 0
  · exact powerDown (h.onChip (by simp))
  · exact keepRetained (startQuench (h.onChip (by simp)) 1) _

@[simp] theorem goDormant (h : s.Keeps t) : s.Keeps t.goDormant := by
  unfold State.goDormant
  exact afterReset (h.powerDown.stampAndFlush _ _ _) (Chip.shape_with_aon _ _ (by simp))

@[simp] theorem selfTestFail (h : s.Keeps t) (r i row : Nat) : s.Keeps (t.selfTestFail r i row) := by
  unfold State.selfTestFail
  have h1 : s.Keeps (t.onChip (·.record 12 r 2 (256 * r + i) [row] [])) := h.onChip (by simp)
  have h2 : s.Keeps (((t.onChip (·.record 12 r 2 (256 * r + i) [row] [])).onChip (·.markClock r i true)).clockEffect r i) :=
    clockEffect (h1.onChip (by simp)) r i
  simp [h, h1, h2]

@[simp] theorem loseRetained (h : s.Keeps t) : s.Keeps t.loseRetained := by
  unfold State.loseRetained
  simp [h]

@[simp] theorem putCheck (h : s.Keeps t) (slot code : Nat) : s.Keeps (t.putCheck slot code) := by
  unfold State.putCheck
  simp [h]

@[simp] theorem loadImage (h : s.Keeps t) (slot : Nat) : s.Keeps (t.loadImage slot) := by
  unfold State.loadImage
  refine h.with_both rfl rfl rfl ?_
  simp

@[simp] theorem readSelect (h : s.Keeps t) : s.Keeps t.readSelect := by
  unfold State.readSelect
  simp [h]

@[simp] theorem boundaryReturns (h : s.Keeps t) : s.Keeps t.boundaryReturns := by
  unfold State.boundaryReturns
  exact (foldl (h.onChip (by simp)) (fun u e hu => hu.returnBlock _ _) _).onChip (by simp)

@[simp] theorem imageRefuse (h : s.Keeps t) : s.Keeps t.imageRefuse := h.onChip (by simp)

theorem with_nor (h : s.Keeps t) {f : Flash} {c : Chip} (hn : Memory.wf t.flash.nor = true → Memory.wf f.nor = true)
    (hk : f.keys = t.flash.keys) (hf : f.fuse = t.flash.fuse) (hc : c.shape = t.chip.shape) :
    s.Keeps { t with flash := f, chip := c } :=
  ⟨h.pending, fun hs => hc.trans (h.shaped hs), hn ∘ h.nor, hk.trans h.keys, hf.trans h.fuse⟩

@[simp] theorem imageBegin (h : s.Keeps t) (session : Nat) : s.Keeps (t.imageBegin session) := by
  unfold State.imageBegin
  simp only []
  split
  · exact h.imageRefuse
  · exact h.with_nor (Sparse.wf_clear _ _ _ _) rfl rfl (by simp)

@[simp] theorem selectSlot (h : s.Keeps t) (slot : Nat) (fb : Bool) (what : Nat) : s.Keeps (t.selectSlot slot fb what) := by
  unfold State.selectSlot
  exact h.with_nor (Sparse.wf_clear _ _ _ _) rfl rfl (by simp)

theorem program_keeps (h : s.Keeps t) (a : Nat) (bs : List Nat) (p : Prop) [Decidable p] {c : Chip} (hc : c.shape = t.chip.shape) :
    s.Keeps { t with flash := if p then { t.flash.program a bs with target := none } else t.flash.program a bs, chip := c } := by
  split <;> exact h.with_nor (Sparse.wf_setRun _ _ _ _) rfl rfl hc

@[simp] theorem selectTick (h : s.Keeps t) : s.Keeps t.selectTick := by
  unfold State.selectTick
  split
  · exact h
  · exact h.program_keeps _ _ _ (by simp)

@[simp] theorem imageCommand (h : s.Keeps t) (session w : Nat) : s.Keeps (t.imageCommand session w) := by
  unfold State.imageCommand
  simp only []
  generalize (List.range 5).filter w.testBit = bits
  refine ite.2 ⟨fun _ => h, fun _ => ?_⟩
  split <;> simp [h]

@[simp] theorem chunkWrite (h : s.Keeps t) (session offset : Nat) (data : List Nat) : s.Keeps (t.chunkWrite session offset data) := by
  unfold State.chunkWrite
  split
  · exact h
  · exact h.with_nor (Sparse.wf_setRun _ _ _ _) rfl rfl (by simp)

theorem request (h : s.Keeps t) (i typ seq rid : Nat) (body mac : List Nat) (parts : Nat) {run : State → State}
    (hr : ∀ u, s.Keeps u → s.Keeps (run u)) : s.Keeps (t.request i typ seq rid body mac parts run) := by
  unfold State.request
  simp only []
  split
  case h_6 => exact hr _ (h.with_chip (by simp))
  all_goals simp [h]

@[simp] theorem respond (h : s.Keeps t) (i seq : Nat) (bs : List Nat) : s.Keeps (t.respond i seq bs) := h.onChip (by simp)

theorem oneOf (h : s.Keeps t) (v b : Nat) (result : Field) {f0 f1 : State → State} (h0 : s.Keeps (f0 t)) (h1 : s.Keeps (f1 t)) :
    s.Keeps (t.oneOf v b result f0 f1) := by
  unfold State.oneOf
  simp [h, h0, h1]

@[simp] theorem runCommand (h : s.Keeps t) (i a v : Nat) : s.Keeps (t.runCommand i a v) := by
  unfold State.runCommand
  simp only []
  generalize (List.range 3).filter v.testBit = bits
  have or_else {p : Prop} [Decidable p] {u v : State} (hu : s.Keeps u) (hv : s.Keeps v) : s.Keeps (if p then u else v) :=
    ite.2 ⟨fun _ => hu, fun _ => hv⟩
  refine or_else ?_ (or_else ?_ (or_else ?_ (or_else ?_ (or_else ?_ (or_else ?_ (or_else ?_ (or_else ?_ (or_else ?_
    (or_else ?_ (or_else (or_else h ?_) h))))))))))
  case refine_11 => split <;> simp [h]
  all_goals simp [h, oneOf]

@[simp] theorem wrote (h : s.Keeps t) (asked : Option AskedBy) (status : Nat) : s.Keeps (t.wrote asked status) := h.onChip (by simp)

@[simp] theorem dormantNow (h : s.Keeps t) : s.Keeps t.dormantNow := by
  unfold State.dormantNow
  simp [h]

@[simp] theorem writeWord (h : s.Keeps t) (i a v : Nat) (asked : Option AskedBy) : s.Keeps (t.writeWord i a v asked) := by
  unfold State.writeWord
  simp only []
  have h1 : s.Keeps (t.onChip (·.countWord a true 3 1)) := h.onChip (by simp)
  have h2 : ∀ status, s.Keeps ((((t.onChip (·.countWord a true 3 1)).runCommand i a v).wrote asked status).dormantNow) :=
    fun status => ((h1.runCommand i a v).wrote asked status).dormantNow
  have h3 : s.Keeps (((t.onChip (·.clearSticky a v)).onChip (·.countWord a true 3 1)).wrote asked 0) :=
    ((h.onChip (by simp)).onChip (by simp)).wrote asked 0
  split
  · exact h.wrote _ _
  split <;> simp [h, h1, h2, h3]

@[simp] theorem returnsTick (h : s.Keeps t) : s.Keeps t.returnsTick := by
  unfold State.returnsTick
  split
  · exact h
  · exact foldl (h.onChip (by simp)) (fun u e hu => hu.returnBlock _ _) _

@[simp] theorem idle (h : s.Keeps t) : s.Keeps t.idle := ((h.onChip Chip.tickOnce_shape).returnsTick).selectTick

end State.Keeps
end Sys2Proof.Machine
end

section
/-! SUPPORT. What each command keeps, and with it O56 (every command completes), O58 (the non-volatile stores) and O59 (the
sizes of the stores). -/

namespace Sys2Proof.Machine

/-- The outcome o of a command taken in s goes on, to a state that keeps what every operation keeps. -/
def State.Goes (s : State) (o : Out) : Prop := ∃ t, o = .next t ∧ s.Keeps t

@[simp] theorem State.goes_next {s t : State} (h : s.Keeps t) : s.Goes (.next t) := ⟨t, rfl, h⟩

@[simp] theorem State.goes_chipOnly (s : State) {f : Chip → Chip} (h : ∀ c, (f c).shape = c.shape) : s.Goes (chipOnly s f) :=
  State.goes_next (.onChip (.refl s) h)

@[simp] theorem State.goes_ite {s : State} {p : Prop} [Decidable p] {o u : Out} :
    s.Goes (if p then o else u) ↔ (p → s.Goes o) ∧ (¬ p → s.Goes u) := by
  split <;> simp_all

theorem Chip.cmp_length_of_shape {c : Chip} (h : c.shape = State.reset.chip.shape) : c.aon.cmp.length = 4 := by
  simp only [Chip.shape, List.cons.injEq] at h
  obtain ⟨-, -, -, -, -, -, -, -, -, -, -, -, -, -, -, -, -, hcmp, -⟩ := h
  exact hcmp

@[simp] theorem execConversionResult_goes (g : Fin 128) (raw : BitVec 24) (x y : BitVec 32) (s : State) :
    s.Goes (execConversionResult g raw x y s) := by
  simp [execConversionResult]

@[simp] theorem execFrontEndReconfigured_goes (g : Fin 128) (s : State) : s.Goes (execFrontEndReconfigured g s) := by
  simp [execFrontEndReconfigured]

@[simp] theorem execModeSettled_goes (g : Fin 128) (raw : BitVec 24) (x y : BitVec 32) (s : State) :
    s.Goes (execModeSettled g raw x y s) := by
  simp [execModeSettled]

@[simp] theorem execCjSensorRead_goes (r : Fin 8) (ta tb : BitVec 16) (s : State) :
    s.Goes (execCjSensorRead r ta tb s) := by
  simp [execCjSensorRead]

@[simp] theorem execOpenTcCheck_goes (g : Fin 128) (microvolts : BitVec 32) (s : State) :
    s.Goes (execOpenTcCheck g microvolts s) := by
  simp [execOpenTcCheck]

@[simp] theorem execBellowsMeasurement_goes (g : Fin 128) (measured : BitVec 16 × BitVec 32) (s : State) :
    s.Goes (execBellowsMeasurement g measured s) := by
  refine State.goes_chipOnly s (fun c => ?_)
  simp only [Chip.shape_ite, Chip.seeCurrent_shape, Chip.put_shape, Chip.setChan_shape, ite_self]

@[simp] theorem execComplianceEntry_goes (g : Fin 128) (microamps : BitVec 32) (s : State) :
    s.Goes (execComplianceEntry g microamps s) := by
  simp [execComplianceEntry]

@[simp] theorem execComplianceEnd_goes (g : Fin 128) (microamps : BitVec 32) (s : State) :
    s.Goes (execComplianceEnd g microamps s) := by
  simp [execComplianceEnd]

@[simp] theorem execOpenLoop_goes (g : Fin 128) (termMv : BitVec 16) (microamps : BitVec 32) (s : State) :
    s.Goes (execOpenLoop g termMv microamps s) := by
  simp [execOpenLoop]

@[simp] theorem execThermalFoldback_goes (g : Fin 128) (stageTj : BitVec 16) (delivered : BitVec 32) (s : State) :
    s.Goes (execThermalFoldback g stageTj delivered s) := by
  simp [execThermalFoldback]

@[simp] theorem execThermalFoldbackEnd_goes (g : Fin 128) (stageTj : BitVec 16) (s : State) :
    s.Goes (execThermalFoldbackEnd g stageTj s) := by
  simp [execThermalFoldbackEnd]

@[simp] theorem execGeneratorUpdate_goes (x : Fin 16) (ia ib tj : BitVec 16) (s : State) :
    s.Goes (execGeneratorUpdate x ia ib tj s) := by
  simp [execGeneratorUpdate]

@[simp] theorem execHoldCurrentSwitch_goes (x : Fin 16) (s : State) : s.Goes (execHoldCurrentSwitch x s) := by
  simp [execHoldCurrentSwitch]

@[simp] theorem execDriverFault_goes (x : Fin 16) (phaseB : Bool) (cause : Fin 3) (s : State) :
    s.Goes (execDriverFault x phaseB cause s) := by
  simp [execDriverFault]

@[simp] theorem execClearFault_goes (x : Fin 16) (s : State) : s.Goes (execClearFault x s) := by
  simp [execClearFault]

@[simp] theorem execAxisClearStats_goes (x : Fin 16) (s : State) : s.Goes (execAxisClearStats x s) := by
  simp [execAxisClearStats]

@[simp] theorem execEncoderZEdge_goes (e : Fin 2) (s : State) : s.Goes (execEncoderZEdge e s) := by
  simp [execEncoderZEdge]

@[simp] theorem execRunAxmove_goes (seq : Fin 65536) (s : State) : s.Goes (execRunAxmove seq s) :=
  State.goes_chipOnly s (fun c => Chip.invokeWith_shape (fun c i x => by simp) c _ _ _)

@[simp] theorem execRunAxhome_goes (seq : Fin 65536) (s : State) : s.Goes (execRunAxhome seq s) :=
  State.goes_chipOnly s (fun c => Chip.invokeWith_shape (fun c i x => by simp) c _ _ _)

@[simp] theorem execRunAxstop_goes (seq : Fin 65536) (s : State) : s.Goes (execRunAxstop seq s) := by
  simp [execRunAxstop]

@[simp] theorem execRunAxgear_goes (seq : Fin 65536) (s : State) : s.Goes (execRunAxgear seq s) := by
  unfold execRunAxgear
  refine State.goes_chipOnly s (fun c => ?_)
  simp only []
  (repeat' split) <;> simp

@[simp] theorem execRunAxstat_goes (seq : Fin 65536) (s : State) : s.Goes (execRunAxstat seq s) := by
  simp [execRunAxstat]

@[simp] theorem execRunAdd_goes (seq : Fin 65536) (s : State) : s.Goes (execRunAdd seq s) := by
  simp [execRunAdd]

@[simp] theorem execRunSub_goes (seq : Fin 65536) (s : State) : s.Goes (execRunSub seq s) := by
  simp [execRunSub]

@[simp] theorem execRunMul_goes (seq : Fin 65536) (s : State) : s.Goes (execRunMul seq s) := by
  simp [execRunMul]

@[simp] theorem execRunDiv_goes (seq : Fin 65536) (s : State) : s.Goes (execRunDiv seq s) := by
  simp [execRunDiv]

@[simp] theorem execRunMod_goes (seq : Fin 65536) (s : State) : s.Goes (execRunMod seq s) := by
  simp [execRunMod]

@[simp] theorem execRunAbs_goes (seq : Fin 65536) (s : State) : s.Goes (execRunAbs seq s) := by
  simp [execRunAbs]

@[simp] theorem execRunNeg_goes (seq : Fin 65536) (s : State) : s.Goes (execRunNeg seq s) := by
  simp [execRunNeg]

@[simp] theorem execRunMin_goes (seq : Fin 65536) (s : State) : s.Goes (execRunMin seq s) := by
  simp [execRunMin]

@[simp] theorem execRunMax_goes (seq : Fin 65536) (s : State) : s.Goes (execRunMax seq s) := by
  simp [execRunMax]

@[simp] theorem execRunSqrt_goes (seq : Fin 65536) (s : State) : s.Goes (execRunSqrt seq s) := by
  simp [execRunSqrt]

@[simp] theorem execRunLn_goes (seq : Fin 65536) (s : State) : s.Goes (execRunLn seq s) := by
  simp [execRunLn]

@[simp] theorem execRunExp_goes (seq : Fin 65536) (s : State) : s.Goes (execRunExp seq s) := by
  simp [execRunExp]

@[simp] theorem execRunPow_goes (seq : Fin 65536) (s : State) : s.Goes (execRunPow seq s) := by
  simp [execRunPow]

@[simp] theorem execRunPoly_goes (seq : Fin 65536) (s : State) : s.Goes (execRunPoly seq s) := by
  simp [execRunPoly]

@[simp] theorem execRunSel_goes (seq : Fin 65536) (s : State) : s.Goes (execRunSel seq s) := by
  simp [execRunSel]

@[simp] theorem execRunMux_goes (seq : Fin 65536) (s : State) : s.Goes (execRunMux seq s) := by
  simp [execRunMux]

@[simp] theorem execRunLimit_goes (seq : Fin 65536) (s : State) : s.Goes (execRunLimit seq s) := by
  simp [execRunLimit]

@[simp] theorem execRunMove_goes (seq : Fin 65536) (s : State) : s.Goes (execRunMove seq s) := by
  simp [execRunMove]

@[simp] theorem execRunScale_goes (seq : Fin 65536) (s : State) : s.Goes (execRunScale seq s) := by
  simp [execRunScale]

@[simp] theorem execRunScaleq_goes (seq : Fin 65536) (s : State) : s.Goes (execRunScaleq seq s) := by
  simp [execRunScaleq]

@[simp] theorem execRunLintab_goes (seq : Fin 65536) (s : State) : s.Goes (execRunLintab seq s) := by
  simp [execRunLintab]

@[simp] theorem execRunConv_goes (seq : Fin 65536) (s : State) : s.Goes (execRunConv seq s) := by
  simp [execRunConv]

@[simp] theorem execRunCastUr_goes (seq : Fin 65536) (s : State) : s.Goes (execRunCastUr seq s) := by
  simp [execRunCastUr]

@[simp] theorem execRunCastRu_goes (seq : Fin 65536) (s : State) : s.Goes (execRunCastRu seq s) := by
  simp [execRunCastRu]

@[simp] theorem execRunCastUi_goes (seq : Fin 65536) (s : State) : s.Goes (execRunCastUi seq s) := by
  simp [execRunCastUi]

@[simp] theorem execRunCastIu_goes (seq : Fin 65536) (s : State) : s.Goes (execRunCastIu seq s) := by
  simp [execRunCastIu]

@[simp] theorem execRunStsplit_goes (seq : Fin 65536) (s : State) : s.Goes (execRunStsplit seq s) := by
  simp [execRunStsplit]

@[simp] theorem execRunStmerge_goes (seq : Fin 65536) (s : State) : s.Goes (execRunStmerge seq s) := by
  simp [execRunStmerge]

@[simp] theorem execRunCalsplit_goes (seq : Fin 65536) (s : State) : s.Goes (execRunCalsplit seq s) := by
  simp [execRunCalsplit]

@[simp] theorem execRunAlm_goes (seq : Fin 65536) (s : State) : s.Goes (execRunAlm seq s) := by
  simp [execRunAlm]

@[simp] theorem execRunAnd_goes (seq : Fin 65536) (s : State) : s.Goes (execRunAnd seq s) := by
  simp [execRunAnd]

@[simp] theorem execRunOr_goes (seq : Fin 65536) (s : State) : s.Goes (execRunOr seq s) := by
  simp [execRunOr]

@[simp] theorem execRunXor_goes (seq : Fin 65536) (s : State) : s.Goes (execRunXor seq s) := by
  simp [execRunXor]

@[simp] theorem execRunNot_goes (seq : Fin 65536) (s : State) : s.Goes (execRunNot seq s) := by
  simp [execRunNot]

@[simp] theorem execRunWand_goes (seq : Fin 65536) (s : State) : s.Goes (execRunWand seq s) := by
  simp [execRunWand]

@[simp] theorem execRunWor_goes (seq : Fin 65536) (s : State) : s.Goes (execRunWor seq s) := by
  simp [execRunWor]

@[simp] theorem execRunWxor_goes (seq : Fin 65536) (s : State) : s.Goes (execRunWxor seq s) := by
  simp [execRunWxor]

@[simp] theorem execRunWnot_goes (seq : Fin 65536) (s : State) : s.Goes (execRunWnot seq s) := by
  simp [execRunWnot]

@[simp] theorem execRunShift_goes (seq : Fin 65536) (s : State) : s.Goes (execRunShift seq s) := by
  simp [execRunShift]

@[simp] theorem execRunBit_goes (seq : Fin 65536) (s : State) : s.Goes (execRunBit seq s) := by
  simp [execRunBit]

@[simp] theorem execRunPack_goes (seq : Fin 65536) (s : State) : s.Goes (execRunPack seq s) := by
  simp [execRunPack]

@[simp] theorem execRunUnpack_goes (seq : Fin 65536) (s : State) : s.Goes (execRunUnpack seq s) := by
  simp [execRunUnpack]

@[simp] theorem execRunEq_goes (seq : Fin 65536) (s : State) : s.Goes (execRunEq seq s) := by
  simp [execRunEq]

@[simp] theorem execRunNe_goes (seq : Fin 65536) (s : State) : s.Goes (execRunNe seq s) := by
  simp [execRunNe]

@[simp] theorem execRunGt_goes (seq : Fin 65536) (s : State) : s.Goes (execRunGt seq s) := by
  simp [execRunGt]

@[simp] theorem execRunGe_goes (seq : Fin 65536) (s : State) : s.Goes (execRunGe seq s) := by
  simp [execRunGe]

@[simp] theorem execRunLt_goes (seq : Fin 65536) (s : State) : s.Goes (execRunLt seq s) := by
  simp [execRunLt]

@[simp] theorem execRunLe_goes (seq : Fin 65536) (s : State) : s.Goes (execRunLe seq s) := by
  simp [execRunLe]

@[simp] theorem execRunCmph_goes (seq : Fin 65536) (s : State) : s.Goes (execRunCmph seq s) := by
  simp [execRunCmph]

@[simp] theorem execRunLag_goes (seq : Fin 65536) (s : State) : s.Goes (execRunLag seq s) := by
  simp [execRunLag]

@[simp] theorem execRunRate_goes (seq : Fin 65536) (s : State) : s.Goes (execRunRate seq s) := by
  simp [execRunRate]

@[simp] theorem execRunInteg_goes (seq : Fin 65536) (s : State) : s.Goes (execRunInteg seq s) := by
  simp [execRunInteg]

@[simp] theorem execRunRamp_goes (seq : Fin 65536) (s : State) : s.Goes (execRunRamp seq s) := by
  simp [execRunRamp]

@[simp] theorem execRunTon_goes (seq : Fin 65536) (s : State) : s.Goes (execRunTon seq s) := by
  simp [execRunTon]

@[simp] theorem execRunTof_goes (seq : Fin 65536) (s : State) : s.Goes (execRunTof seq s) := by
  simp [execRunTof]

@[simp] theorem execRunTp_goes (seq : Fin 65536) (s : State) : s.Goes (execRunTp seq s) := by
  simp [execRunTp]

@[simp] theorem execRunRto_goes (seq : Fin 65536) (s : State) : s.Goes (execRunRto seq s) := by
  simp [execRunRto]

@[simp] theorem execRunPgen_goes (seq : Fin 65536) (s : State) : s.Goes (execRunPgen seq s) := by
  simp [execRunPgen]

@[simp] theorem execRunDebnc_goes (seq : Fin 65536) (s : State) : s.Goes (execRunDebnc seq s) := by
  simp [execRunDebnc]

@[simp] theorem execRunBumpsw_goes (seq : Fin 65536) (s : State) : s.Goes (execRunBumpsw seq s) := by
  simp [execRunBumpsw]

@[simp] theorem execRunCtu_goes (seq : Fin 65536) (s : State) : s.Goes (execRunCtu seq s) := by
  simp [execRunCtu]

@[simp] theorem execRunCtd_goes (seq : Fin 65536) (s : State) : s.Goes (execRunCtd seq s) := by
  simp [execRunCtd]

@[simp] theorem execRunCtud_goes (seq : Fin 65536) (s : State) : s.Goes (execRunCtud seq s) := by
  simp [execRunCtud]

@[simp] theorem execRunCntd_goes (seq : Fin 65536) (s : State) : s.Goes (execRunCntd seq s) := by
  simp [execRunCntd]

@[simp] theorem execRunRTrig_goes (seq : Fin 65536) (s : State) : s.Goes (execRunRTrig seq s) := by
  simp [execRunRTrig]

@[simp] theorem execRunFTrig_goes (seq : Fin 65536) (s : State) : s.Goes (execRunFTrig seq s) := by
  simp [execRunFTrig]

@[simp] theorem execRunSr_goes (seq : Fin 65536) (s : State) : s.Goes (execRunSr seq s) := by
  simp [execRunSr]

@[simp] theorem execRunRs_goes (seq : Fin 65536) (s : State) : s.Goes (execRunRs seq s) := by
  simp [execRunRs]

@[simp] theorem execRunEstamp_goes (seq : Fin 65536) (s : State) : s.Goes (execRunEstamp seq s) := by
  simp [execRunEstamp]

@[simp] theorem execRunToggle_goes (seq : Fin 65536) (s : State) : s.Goes (execRunToggle seq s) := by
  simp [execRunToggle]

@[simp] theorem execCounterOverflow_goes (r : Fin 8) (j : Fin 8) (s : State) : s.Goes (execCounterOverflow r j s) := by
  simp [execCounterOverflow]

@[simp] theorem execCounterSample_goes (r j : Fin 8) (s : State) : s.Goes (execCounterSample r j s) :=
  State.goes_chipOnly s (fun c => by split <;> simp)

@[simp] theorem execCounterWindowEnd_goes (r : Fin 8) (s : State) : s.Goes (execCounterWindowEnd r s) := by
  refine State.goes_chipOnly s (fun c => ?_)
  simp only []
  split
  · rfl
  · refine (Chip.shape_with_ctrs _ _ (upd_size _ _ _)).trans ((Chip.put_shape _ _ _ _).trans (Chip.each_shape (fun c j => ?_) _ _))
    simp

@[simp] theorem execCounterClear_goes (r : Fin 8) (s : State) : s.Goes (execCounterClear r s) := by
  simp [execCounterClear]

@[simp] theorem execRunPerf_goes (seq : Fin 65536) (s : State) : s.Goes (execRunPerf seq s) := by
  simp [execRunPerf]

@[simp] theorem execDiSample_goes (g : Fin 128) (reading : BitVec 32) (s : State) :
    s.Goes (execDiSample g reading s) := by
  simp [execDiSample]

@[simp] theorem execCntGateEnd_goes (g : Fin 128) (edges span25ns : BitVec 32) (s : State) :
    s.Goes (execCntGateEnd g edges span25ns s) := by
  simp [execCntGateEnd]

@[simp] theorem execPwmPeriodEnd_goes (g : Fin 128) (s : State) : s.Goes (execPwmPeriodEnd g s) := by
  simp [execPwmPeriodEnd]

@[simp] theorem execLoadCurrentMeasurement_goes (g : Fin 128) (tenthMa termMv : BitVec 16) (s : State) :
    s.Goes (execLoadCurrentMeasurement g tenthMa termMv s) := by
  simp [execLoadCurrentMeasurement]

@[simp] theorem execSwitchTrip_goes (g : Fin 128) (thermal : Bool) (milliamps : BitVec 16) (s : State) :
    s.Goes (execSwitchTrip g thermal milliamps s) := by
  simp [execSwitchTrip]

@[simp] theorem execSwitchRetry_goes (g : Fin 128) (s : State) : s.Goes (execSwitchRetry g s) := by
  simp [execSwitchRetry]

@[simp] theorem execBackFed_goes (g : Fin 128) (feeder : Option (Fin 128)) (s : State) :
    s.Goes (execBackFed g feeder s) := by
  simp [execBackFed]

@[simp] theorem execBackFedEnd_goes (g : Fin 128) (s : State) : s.Goes (execBackFedEnd g s) := by
  simp [execBackFedEnd]

@[simp] theorem execOpenLoad_goes (g : Fin 128) (tenthMa : BitVec 16) (ended : Bool) (s : State) :
    s.Goes (execOpenLoad g tenthMa ended s) := by
  simp [execOpenLoad]

@[simp] theorem execStuckOn_goes (g : Fin 128) (tenthMa : BitVec 16) (s : State) : s.Goes (execStuckOn g tenthMa s) := by
  simp [execStuckOn]

@[simp] theorem execExtSrc_goes (g : Fin 128) (microamps : BitVec 32) (s : State) :
    s.Goes (execExtSrc g microamps s) := by
  simp [execExtSrc]

@[simp] theorem execExtSrcEnd_goes (g : Fin 128) (microamps : BitVec 32) (s : State) :
    s.Goes (execExtSrcEnd g microamps s) := by
  simp [execExtSrcEnd]

@[simp] theorem execSharedDoExchange_goes (g : Fin 128) (partnerOn : Bool) (partnerLoad : BitVec 16) (low100ms : Bool) (s : State) :
    s.Goes (execSharedDoExchange g partnerOn partnerLoad low100ms s) := by
  simp [execSharedDoExchange]

@[simp] theorem execSplitSourceMeasurement_goes (g : Fin 128) (own partner : BitVec 32) (partnerTempers : Bool) (s : State) :
    s.Goes (execSplitSourceMeasurement g own partner partnerTempers s) := by
  simp [execSplitSourceMeasurement]

@[simp] theorem execSafetyCycle_goes (r : Fin 8) (s : State) : s.Goes (execSafetyCycle r s) := by
  simp [execSafetyCycle]

@[simp] theorem execSafetyOutputSet_goes (r : Fin 8) (s : State) : s.Goes (execSafetyOutputSet r s) := by
  simp [execSafetyOutputSet]

@[simp] theorem execSliceMessageSend_goes (r : Fin 8) (s : State) : s.Goes (execSliceMessageSend r s) := by
  simp [execSliceMessageSend]

@[simp] theorem execSliceMessageReceive_goes (r : Fin 8) (s : State) : s.Goes (execSliceMessageReceive r s) := by
  unfold execSliceMessageReceive
  refine State.goes_chipOnly s (fun c => ?_)
  simp only []
  (repeat' split) <;> simp

@[simp] theorem execSliceStopped_goes (r : Fin 8) (cause : Fin 9) (s : State) : s.Goes (execSliceStopped r cause s) := by
  simp [execSliceStopped]

@[simp] theorem execSafeDiSample_goes (g : Fin 128) (millivolts : BitVec 16) (s : State) :
    s.Goes (execSafeDiSample g millivolts s) := by
  unfold execSafeDiSample
  refine State.goes_chipOnly s (fun c => ?_)
  simp only []
  (repeat' split) <;> simp

@[simp] theorem execDiscrepancyTimeout_goes (r : Fin 8) (sf : Fin 32) (s : State) :
    s.Goes (execDiscrepancyTimeout r sf s) := by
  unfold execDiscrepancyTimeout
  refine State.goes_chipOnly s (fun c => ?_)
  simp only []
  (repeat' split) <;> simp

@[simp] theorem execOutputTestStart_goes (sf : Fin 32) (sink : Bool) (s : State) :
    s.Goes (execOutputTestStart sf sink s) := by
  unfold execOutputTestStart
  refine State.goes_chipOnly s (fun c => ?_)
  simp only []
  (repeat' split) <;> simp

@[simp] theorem execOutputTestEnd_goes (sf : Fin 32) (tenthMa : BitVec 16) (s : State) :
    s.Goes (execOutputTestEnd sf tenthMa s) := by
  unfold execOutputTestEnd
  refine State.goes_chipOnly s (fun c => ?_)
  simp only []
  (repeat' split) <;> simp

@[simp] theorem execStartTestDone_goes (k : Fin 4) (okEven okOdd : Bool) (s : State) :
    s.Goes (execStartTestDone k okEven okOdd s) := by
  simp [execStartTestDone]

@[simp] theorem execSliceRestart_goes (session : Fin 16) (r : Fin 8) (s : State) :
    s.Goes (execSliceRestart session r s) := by
  simp [execSliceRestart]

@[simp] theorem execClearCounts_goes (r : Fin 8) (s : State) : s.Goes (execClearCounts r s) := by
  simp [execClearCounts]

@[simp] theorem execRunSfst_goes (seq : Fin 65536) (s : State) : s.Goes (execRunSfst seq s) := by
  simp [execRunSfst]

@[simp] theorem execPanelStart_goes (mem : List Byte) (s : State) : s.Goes (execPanelStart mem s) := by
  unfold execPanelStart
  refine State.goes_chipOnly s (fun c => ?_)
  simp only []
  (repeat' split) <;> simp

@[simp] theorem execPnlEnAssert_goes (s : State) : s.Goes (execPnlEnAssert s) := by
  simp [execPnlEnAssert]

@[simp] theorem execRailsQualified_goes (ok : Bool) (rail : Fin 4) (millivolts : BitVec 16) (s : State) :
    s.Goes (execRailsQualified ok rail millivolts s) := by
  simp [execRailsQualified]

@[simp] theorem execClearWaveformEnd_goes (s : State) : s.Goes (execClearWaveformEnd s) := by
  unfold execClearWaveformEnd
  simp only []
  split
  · simp
  · exact State.goes_next (.with_both (.refl s) rfl rfl rfl (by simp))

@[simp] theorem execFrameStart_goes (s : State) : s.Goes (execFrameStart s) := by
  simp [execFrameStart]

@[simp] theorem execUpdateStart_goes (s : State) : s.Goes (execUpdateStart s) := by
  simp [execUpdateStart]

@[simp] theorem execUpdateEnd_goes (s : State) : s.Goes (execUpdateEnd s) := by
  unfold execUpdateEnd
  refine State.goes_chipOnly s (fun c => ?_)
  simp only []
  (repeat' split) <;> simp

@[simp] theorem execRailFault_goes (rail : Fin 4) (millivolts : BitVec 16) (s : State) : s.Goes (execRailFault rail millivolts s) := by
  unfold execRailFault
  simp only []
  split
  · simp
  · exact State.goes_next (.startQuench (.onChip (.refl s) (by simp)) 2)

@[simp] theorem execQuench_goes (trigger : Fin 8) (s : State) : s.Goes (execQuench trigger s) := by
  simp [execQuench]

@[simp] theorem execQuenchFrameEnd_goes (s : State) : s.Goes (execQuenchFrameEnd s) := by
  simp [execQuenchFrameEnd]

@[simp] theorem execQuenchComplete_goes (s : State) : s.Goes (execQuenchComplete s) := by
  unfold execQuenchComplete
  refine State.goes_chipOnly s (fun c => ?_)
  simp only []
  (repeat' split) <;> simp

@[simp] theorem execRailReturn_goes (s : State) : s.Goes (execRailReturn s) := by
  simp [execRailReturn]

@[simp] theorem execPanelTempRead_goes (ok : Bool) (temp : BitVec 16) (rails : List (BitVec 16)) (s : State) :
    s.Goes (execPanelTempRead ok temp rails s) := by
  simp [execPanelTempRead]

@[simp] theorem execBlinkToggle_goes (i : Fin 8) (s : State) : s.Goes (execBlinkToggle i s) := by
  simp [execBlinkToggle]

@[simp] theorem execShowCode_goes (s : State) : s.Goes (execShowCode s) := by
  simp [execShowCode]

@[simp] theorem execShowCodeExpiry_goes (s : State) : s.Goes (execShowCodeExpiry s) := by
  refine State.goes_chipOnly s (fun c => ?_)
  split <;> simp

@[simp] theorem execPanelClear_goes (s : State) : s.Goes (execPanelClear s) := by
  simp [execPanelClear]

@[simp] theorem execPanelRestart_goes (s : State) : s.Goes (execPanelRestart s) := by
  simp [execPanelRestart]

@[simp] theorem execRunPfield_goes (seq : Fin 65536) (s : State) : s.Goes (execRunPfield seq s) := by
  simp [execRunPfield]

@[simp] theorem execRunPblink_goes (seq : Fin 65536) (s : State) : s.Goes (execRunPblink seq s) := by
  simp [execRunPblink]

@[simp] theorem execRunPpage_goes (seq : Fin 65536) (s : State) : s.Goes (execRunPpage seq s) := by
  simp [execRunPpage]

@[simp] theorem execRunPstat_goes (seq : Fin 65536) (s : State) : s.Goes (execRunPstat seq s) := by
  simp [execRunPstat]

@[simp] theorem execSafetyFrameReceive_goes (k : Fin 16) (bytes : List Byte) (s : State) :
    s.Goes (execSafetyFrameReceive k bytes s) := by
  unfold execSafetyFrameReceive
  refine State.goes_chipOnly s (fun c => ?_)
  simp only []
  (repeat' split) <;> simp

@[simp] theorem execCanFrameReceived_goes (r : Fin 8) (id : BitVec 29) (ide fd brs esi rtr : Bool) (data : List Byte) (s : State) :
    s.Goes (execCanFrameReceived r id ide fd brs esi rtr data s) := by
  simp [execCanFrameReceived]

@[simp] theorem execTransmitStart_goes (r : Fin 8) (s : State) : s.Goes (execTransmitStart r s) := by
  refine State.goes_chipOnly s (fun c => ?_)
  split
  · rfl
  · split <;> simp

@[simp] theorem execTransmitComplete_goes (r : Fin 8) (delay : BitVec 16) (s : State) : s.Goes (execTransmitComplete r delay s) := by
  refine State.goes_chipOnly s (fun c => ?_)
  simp only []
  split
  · rfl
  · next src f _ =>
    simp only [Chip.errState_shape]
    cases src <;> simp only [Chip.when_shape, Chip.put_shape, Chip.setPort_shape, Chip.record_shape, Chip.objSync_shape,
      Chip.bumpByI_shape, Chip.putI_shape, Chip.setObj_shape, Chip.setSta_shape, Chip.shape_with_safeTx, Chip.ringPut_shape,
      Chip.bump_shape, Chip.endTx_shape, implies_true]

@[simp] theorem execTransmitError_goes (r : Fin 8) (kind : Fin 6) (s : State) : s.Goes (execTransmitError r kind s) := by
  unfold execTransmitError
  refine State.goes_chipOnly s (fun c => ?_)
  simp only []
  (repeat' split) <;> simp

@[simp] theorem execReceiveError_goes (r : Fin 8) (eight : Bool) (s : State) : s.Goes (execReceiveError r eight s) := by
  simp [execReceiveError]

@[simp] theorem execBusOffRecovery_goes (r : Fin 8) (s : State) : s.Goes (execBusOffRecovery r s) := by
  simp [execBusOffRecovery]

@[simp] theorem execPortRestart_goes (r : Fin 8) (s : State) : s.Goes (execPortRestart r s) := by
  simp [execPortRestart]

@[simp] theorem execPortRejoin_goes (r : Fin 8) (s : State) : s.Goes (execPortRejoin r s) := by
  simp [execPortRejoin]

@[simp] theorem execPortClearCounters_goes (r : Fin 8) (s : State) : s.Goes (execPortClearCounters r s) := by
  simp [execPortClearCounters]

@[simp] theorem execPeriodicSendDue_goes (r : Fin 8) (j : Fin 128) (s : State) : s.Goes (execPeriodicSendDue r j s) := by
  unfold execPeriodicSendDue
  refine State.goes_chipOnly s (fun c => ?_)
  simp only []
  (repeat' split) <;> simp

@[simp] theorem execInhibitEnd_goes (r : Fin 8) (j : Fin 128) (s : State) : s.Goes (execInhibitEnd r j s) := by
  simp [execInhibitEnd]

@[simp] theorem execStationOutRefresh_goes (r : Fin 8) (station : Fin 64) (s : State) :
    s.Goes (execStationOutRefresh r station s) := by
  simp [execStationOutRefresh]

@[simp] theorem execReferenceMessage_goes (r : Fin 8) (id : BitVec 11) (byte : BitVec 8) (s : State) :
    s.Goes (execReferenceMessage r id byte s) := by
  unfold execReferenceMessage
  refine State.goes_chipOnly s (fun c => ?_)
  simp only []
  (repeat' split) <;> simp

@[simp] theorem execRefTimeout_goes (r : Fin 8) (s : State) : s.Goes (execRefTimeout r s) := by
  refine State.goes_chipOnly s (fun c => ?_)
  split <;> simp

@[simp] theorem execWindowStart_goes (r : Fin 8) (col : Fin 64) (s : State) : s.Goes (execWindowStart r col s) := by
  unfold execWindowStart
  refine State.goes_chipOnly s (fun c => ?_)
  simp only []
  (repeat' split) <;> simp

@[simp] theorem execScheduleError_goes (r : Fin 8) (s : State) : s.Goes (execScheduleError r s) := by
  unfold execScheduleError
  refine State.goes_chipOnly s (fun c => ?_)
  simp only []
  (repeat' split) <;> simp

@[simp] theorem execOffTheBus_goes (r : Fin 8) (s : State) : s.Goes (execOffTheBus r s) := by
  simp [execOffTheBus]

@[simp] theorem execRunCanfilt_goes (seq : Fin 65536) (s : State) : s.Goes (execRunCanfilt seq s) := by
  refine State.goes_chipOnly s (fun c => Chip.invokeWith_shape (fun c i x => ?_) c _ _ _)
  split
  · rfl
  · exact Chip.each_shape (fun d e => Chip.objTake_shape _ _ _ _) _ _

@[simp] theorem execRunCanobj_goes (seq : Fin 65536) (s : State) : s.Goes (execRunCanobj seq s) := by
  simp [execRunCanobj]

@[simp] theorem execRunCansend_goes (seq : Fin 65536) (s : State) : s.Goes (execRunCansend seq s) := by
  simp [execRunCansend]

@[simp] theorem execRunPortst_goes (seq : Fin 65536) (s : State) : s.Goes (execRunPortst seq s) := by
  simp [execRunPortst]

@[simp] theorem execRunPortrst_goes (seq : Fin 65536) (s : State) : s.Goes (execRunPortrst seq s) := by
  simp [execRunPortrst]

@[simp] theorem execCellCheckFailure_goes (r : Fin 8) (block : Fin 16) (passed : Bool) (s : State) :
    s.Goes (execCellCheckFailure r block passed s) := by
  simp [execCellCheckFailure]

@[simp] theorem execBlockFailure_goes (r : Fin 8) (block : Fin 16) (s : State) :
    s.Goes (execBlockFailure r block s) := by
  simp [execBlockFailure]

@[simp] theorem execCorrectableEccError_goes (r : Fin 8) (s : State) : s.Goes (execCorrectableEccError r s) := by
  simp [execCorrectableEccError]

@[simp] theorem execPatrolScrubPass_goes (r : Fin 8) (corrected : BitVec 32) (s : State) :
    s.Goes (execPatrolScrubPass r corrected s) := by
  simp [execPatrolScrubPass]

@[simp] theorem execUnfence_goes (r : Fin 8) (block : Fin 16) (s : State) : s.Goes (execUnfence r block s) := by
  simp [execUnfence]

@[simp] theorem execBlockSelfTestDone_goes (r : Fin 8) (ok : Bool) (s : State) : s.Goes (execBlockSelfTestDone r ok s) := by
  unfold execBlockSelfTestDone
  split
  · simp
  · next i failed _ =>
    have h1 : s.Keeps (s.onChip (fun c => c.setSys (fun y => { y with testing := setAt y.testing r.val none }))) :=
      .onChip (.refl s) (by simp)
    simp only []
    split
    · exact State.goes_next (h1.onChip (by simp))
    split
    · exact State.goes_next (h1.onChip (by simp))
    · exact State.goes_next (h1.returnBlock _ _)

@[simp] theorem execRetrain_goes (r : Fin 8) (s : State) : s.Goes (execRetrain r s) := by
  simp [execRetrain]

@[simp] theorem execRegionClearCounters_goes (r : Fin 8) (s : State) : s.Goes (execRegionClearCounters r s) := by
  simp [execRegionClearCounters]

@[simp] theorem execFlitReceive_goes (r : Fin 8) (link : Fin 4) (kind : Fin 3) (number : BitVec 32) (body : List (BitVec 32) × BitVec 16) (s : State) :
    s.Goes (execFlitReceive r link kind number body s) := by
  simp [execFlitReceive]

@[simp] theorem execLinkSilenceTimeout_goes (r : Fin 8) (link : Fin 4) (s : State) :
    s.Goes (execLinkSilenceTimeout r link s) := by
  simp [execLinkSilenceTimeout]

@[simp] theorem execLinkControlFlit_goes (r : Fin 8) (link : Fin 4) (s : State) :
    s.Goes (execLinkControlFlit r link s) := by
  simp [execLinkControlFlit]

@[simp] theorem execLinkRetrainAttempt_goes (r : Fin 8) (link : Fin 4) (trained : Bool) (s : State) :
    s.Goes (execLinkRetrainAttempt r link trained s) := by
  simp [execLinkRetrainAttempt]

@[simp] theorem execBeacon_goes (s : State) : s.Goes (execBeacon s) := by
  unfold execBeacon
  refine State.goes_chipOnly s (fun c => ?_)
  simp only []
  (repeat' split) <;> simp

@[simp] theorem execBeaconReceive_goes (r : Fin 8) (s : State) : s.Goes (execBeaconReceive r s) := by
  simp [execBeaconReceive]

@[simp] theorem execBeaconAckReceive_goes (r : Fin 8) (s : State) : s.Goes (execBeaconAckReceive r s) := by
  simp [execBeaconAckReceive]

@[simp] theorem execBeaconGap_goes (r : Fin 8) (s : State) : s.Goes (execBeaconGap r s) := by
  refine State.goes_chipOnly s (fun c => ?_)
  split <;> simp

@[simp] theorem execBeaconSilenceTimeout_goes (r : Fin 8) (s : State) : s.Goes (execBeaconSilenceTimeout r s) := by
  unfold execBeaconSilenceTimeout
  (repeat' split) <;> simp

@[simp] theorem execAckTimeout_goes (r : Fin 8) (s : State) : s.Goes (execAckTimeout r s) := by
  have h1 : ∀ how, s.Keeps (s.onChip (fun c => ((c.declareFence r.val how).sendTowards 0 r.val 5).setFab r.val
      (fun f => { f with ackAt := none }))) := fun how => .onChip (.refl s) (by simp)
  unfold execAckTimeout
  split
  · refine State.goes_ite.2 ⟨fun _ => by simp, fun _ => State.goes_next (State.Keeps.ite.2 ⟨fun _ => .regionFence ?_ _, fun _ => ?_⟩)⟩ <;>
      exact State.Keeps.ite.2 ⟨fun _ => h1 _, fun _ => (h1 _).onChip (by simp)⟩
  · simp

@[simp] theorem execFenceOrder_goes (r : Fin 8) (s : State) : s.Goes (execFenceOrder r s) := by
  unfold execFenceOrder
  simp only []
  split
  · simp
  split
  · simp
  · exact State.goes_next (.regionFence (.onChip (.onChip (.refl s) (by simp)) (by simp)) _)

@[simp] theorem execJunctionTempUpdate_goes (r : Fin 8) (tj : BitVec 16) (pace : BitVec 32) (s : State) :
    s.Goes (execJunctionTempUpdate r tj pace s) := by
  simp [execJunctionTempUpdate]

@[simp] theorem execClockLost_goes (r d : Fin 8) (hz : BitVec 32) (s : State) : s.Goes (execClockLost r d hz s) := by
  unfold execClockLost
  simp only []
  split
  · simp
  · exact State.goes_next (.clockEffect (.onChip (.refl s) (by simp)) _ _)

@[simp] theorem execClockReturn_goes (r d : Fin 8) (hz : BitVec 32) (s : State) : s.Goes (execClockReturn r d hz s) := by
  simp [execClockReturn]

@[simp] theorem execTbLossFence_goes (s : State) : s.Goes (execTbLossFence s) := by
  have fenced : s.Keeps (s.chip.regions.foldl (fun s r => (s.onChip (·.markClock r 0 true)).fenceRegion r) s) :=
    .foldl (.refl s) (fun u r hu => .fenceRegion (hu.onChip (by simp)) r) _
  unfold execTbLossFence
  split
  · simp
  split
  · exact State.goes_next (.onChip (.refl s) (by simp))
  · exact State.goes_next (fenced.onChip (by simp))

@[simp] theorem execCountTransfer_goes (src : Fin 130) (count : BitVec 16 × Bool) (s : State) :
    s.Goes (execCountTransfer src count s) := by
  simp [execCountTransfer]

@[simp] theorem execCountOverrun_goes (src : Fin 130) (s : State) : s.Goes (execCountOverrun src s) := by
  simp [execCountOverrun]

@[simp] theorem execTongsResync_goes (r d : Fin 8) (inFlight : BitVec 12) (src : Option (Fin 130)) (s : State) :
    s.Goes (execTongsResync r d inFlight src s) := by
  simp [execTongsResync]

@[simp] theorem execClearCrossings_goes (r : Fin 8) (s : State) : s.Goes (execClearCrossings r s) := by
  simp [execClearCrossings]

@[simp] theorem execPowerFail_goes (millivolts : BitVec 16) (lsReturned : Bool) (s : State) : s.Goes (execPowerFail millivolts lsReturned s) := by
  have lost : ∀ t, s.Keeps t → s.Keeps (t.onChip (fun c =>
      { (c.putBit supplyAt Supply.cmp_now 0 false) with aon := { c.aon with dormant := false } })) := fun t h =>
    .onChip h (fun c => (Chip.shape_with_aon (c.putBit supplyAt Supply.cmp_now 0 false) _ rfl).trans (Chip.putBit_shape _ _ _ _ _))
  have down : s.Keeps (State.powerDown (s.onChip (fun c =>
      (c.yieldLease 8).record 4 0xFF 3 0 [] [millivolts.toNat, c.get engineAt Engine.cycle_count]))) :=
    .powerDown (.onChip (.refl s) (by simp))
  unfold execPowerFail
  simp only []
  refine State.goes_ite.2 ⟨fun _ => by simp, fun _ => State.goes_ite.2 ⟨fun _ => State.goes_next (.startS1 (.onChip ?_ (by simp)) 1 0),
    fun _ => State.goes_next ?_⟩⟩ <;>
  exact State.Keeps.ite.2 ⟨fun _ => lost s (.refl s), fun _ => lost _ (.afterReset (.stampAndFlush
    (State.Keeps.ite.2 ⟨fun _ => down, fun _ => .keepRetained (.refl s) _⟩) s.chip.stamp .holdup 16384) rfl)⟩

@[simp] theorem execLsInputStep_goes (b present : Bool) (millivolts : BitVec 16) (s : State) :
    s.Goes (execLsInputStep b present millivolts s) := by
  simp [execLsInputStep]

@[simp] theorem execLsLowHighStep_goes (high entered : Bool) (millivolts : BitVec 16) (s : State) :
    s.Goes (execLsLowHighStep high entered millivolts s) := by
  unfold execLsLowHighStep
  refine State.goes_chipOnly s (fun c => ?_)
  simp only []
  (repeat' split) <;> simp

@[simp] theorem execGsStep_goes (r : Fin 8) (step : Fin 4) (entered : Bool) (millivolts : BitVec 16) (s : State) :
    s.Goes (execGsStep r step entered millivolts s) := by
  simp [execGsStep]

@[simp] theorem execGsOffQualified_goes (r : Fin 8) (millivolts : BitVec 16) (s : State) :
    s.Goes (execGsOffQualified r millivolts s) := by
  simp [execGsOffQualified]

@[simp] theorem execMsStep_goes (r : Fin 8) (what : Fin 3) (millivolts : BitVec 16) (s : State) :
    s.Goes (execMsStep r what millivolts s) := by
  simp [execMsStep]

@[simp] theorem execSupplyMeasurementUpdate_goes (lsA lsB lsOr core scap bpTemp : BitVec 16) (gs ms : List (BitVec 16)) (s : State) :
    s.Goes (execSupplyMeasurementUpdate lsA lsB lsOr core scap bpTemp gs ms s) := by
  simp [execSupplyMeasurementUpdate]

@[simp] theorem execCoreVoltageFault_goes (millivolts : BitVec 16) (s : State) :
    s.Goes (execCoreVoltageFault millivolts s) := by
  simp [execCoreVoltageFault]

@[simp] theorem execComparatorAssert_goes (i : Fin 4) (s : State) : s.Goes (execComparatorAssert i s) := by
  have h1 : s.Keeps (s.onChip (·.assertCmp i.val)) := .onChip (.refl s) (by simp)
  unfold execComparatorAssert
  simp [h1]

@[simp] theorem execComparatorClear_goes (i : Fin 4) (s : State) : s.Goes (execComparatorClear i s) := by
  simp [execComparatorClear]

@[simp] theorem execScapExhausted_goes (s : State) : s.Goes (execScapExhausted s) := by
  refine State.goes_next ⟨rfl, fun hs => ?_, id, rfl, rfl⟩
  have hcmp : s.chip.aon.cmp.length = 4 := Chip.cmp_length_of_shape hs
  show Chip.shape (if _ then _ else _) = _
  refine (Chip.shape_ite _ _).trans (ite_eq_iff'.2 ⟨fun _ => hs, fun _ => ?_⟩)
  refine (Chip.shape_with_aon _ _ (by simp [hcmp])).trans ?_
  simpa using hs

@[simp] theorem execDormant_goes (session : Fin 16) (s : State) : s.Goes (execDormant session s) := by
  have h1 : s.Keeps (s.onChip Chip.cmdDormant) := .onChip (.refl s) (by simp)
  unfold execDormant
  simp [h1]

@[simp] theorem execSurvey_goes (kind : Fin 8) (index : Fin 256) (s : State) : s.Goes (execSurvey kind index s) := by
  simp [execSurvey]

@[simp] theorem execTemper_goes (kind : Fin 8) (index : Fin 256) (s : State) : s.Goes (execTemper kind index s) := by
  simp [execTemper]

@[simp] theorem execReturnToService_goes (kind : Fin 8) (index : Fin 256) (s : State) :
    s.Goes (execReturnToService kind index s) := by
  simp [execReturnToService]

@[simp] theorem execSurveyComplete_goes (results : List (Fin 256 × Fin 8 × BitVec 32)) (s : State) :
    s.Goes (execSurveyComplete results s) := by
  unfold execSurveyComplete
  refine State.goes_chipOnly s (fun c => ?_)
  simp only []
  (repeat' split) <;> simp

@[simp] theorem execTemperZeroDone_goes (offset : BitVec 32) (s : State) : s.Goes (execTemperZeroDone offset s) := by
  simp [execTemperZeroDone]

@[simp] theorem execTemperGainDone_goes (gain : BitVec 32) (s : State) : s.Goes (execTemperGainDone gain s) := by
  simp [execTemperGainDone]

@[simp] theorem execTemperComplete_goes (s : State) : s.Goes (execTemperComplete s) := by
  simp [execTemperComplete]

@[simp] theorem execS1Qualified_goes (lsMv coreMv : BitVec 16) (charged : Bool) (s : State) :
    s.Goes (execS1Qualified lsMv coreMv charged s) := by
  simp [execS1Qualified]

@[simp] theorem execS2Enumerated_goes (trained : BitVec 32) (answered : BitVec 8) (speedA speedB : Fin 4) (cables : List (BitVec 32)) (s : State) :
    s.Goes (execS2Enumerated trained answered speedA speedB cables s) := by
  unfold execS2Enumerated
  refine State.goes_chipOnly s (fun c => ?_)
  simp only []
  (repeat' split) <;> simp

@[simp] theorem execS3SelfTestDone_goes (fails : List (Fin 8 × Fin 16 × Fin 10)) (retainedOk : Bool) (s : State) :
    s.Goes (execS3SelfTestDone fails retainedOk s) := by
  have h1 : s.Keeps (fails.foldl (fun s f => s.selfTestFail f.1.val f.2.1.val f.2.2.val) s) :=
    .foldl (.refl s) (fun u f hu => hu.selfTestFail _ _ _) fails
  have ready : ∀ (r : Retained) (c : Chip), (let c1 := (c.resyncStart (List.range 8)).put panelAt Panel.dirty (b2n (r.dirty || !r.ok))
      if c1.aon.exhausted then { (c1.record 9 0xFF 1 0 [] []) with aon := { c1.aon with exhausted := false } } else c1).shape = c.shape := by
    intro r c
    simp only []
    split
    · exact (Chip.shape_with_aon _ _ (by simp)).trans (by simp)
    · simp
  unfold execS3SelfTestDone
  simp only []
  split
  · simp
  refine State.goes_next (.onChip (State.Keeps.ite.2 ⟨fun _ => ?_, fun _ => .mount ?_⟩) (by simp)) <;>
    exact .onChip (State.Keeps.ite.2 ⟨fun _ => h1, fun _ => h1.loseRetained⟩) (ready _)

@[simp] theorem execS4ImageChecked_goes (s : State) : s.Goes (execS4ImageChecked s) := by
  have h2 : ∀ slot code, s.Keeps (s.readSelect.putCheck slot code) := fun slot code => .putCheck (.readSelect (.refl s)) slot code
  unfold execS4ImageChecked
  simp only []
  split
  · simp
  split
  · exact State.goes_next (((h2 _ _).loadImage _).onChip (by simp))
  split
  · exact State.goes_next ((h2 _ _).onChip (by simp))
  split
  · exact State.goes_next ((((h2 _ _).putCheck _ _).loadImage _).onChip (by simp))
  · exact State.goes_next (((h2 _ _).putCheck _ _).onChip (by simp))

@[simp] theorem execS5SurveyDone_goes (results : List (Fin 8 × Fin 256 × Fin 256 × Fin 8 × BitVec 32)) (holdup : BitVec 16) (s : State) :
    s.Goes (execS5SurveyDone results holdup s) := by
  simp [execS5SurveyDone]

@[simp] theorem execS6Negotiated_goes (s : State) : s.Goes (execS6Negotiated s) := by
  simp [execS6Negotiated]

@[simp] theorem execS8Entry_goes (s : State) : s.Goes (execS8Entry s) := by
  refine State.goes_chipOnly s (fun c => ?_)
  simp only []
  split
  · rfl
  · simp

@[simp] theorem execCycleBoundary_goes (s : State) : s.Goes (execCycleBoundary s) := by
  unfold execCycleBoundary
  simp only []
  split
  · simp
  split
  · simp
  split
  · simp
  split
  · simp
  refine State.goes_ite.2 ⟨fun _ => State.goes_next (.goDormant (.onChip (.boundaryReturns (.refl s)) (fun c => ?_))),
    fun _ => State.goes_next (.onChip (.boundaryReturns (.refl s)) (fun c => ?_))⟩ <;>
  · simp only [Chip.setEng_shape]
    split
    · split <;> simp
    · simp

@[simp] theorem execInputLatch_goes (s : State) : s.Goes (execInputLatch s) := by
  unfold execInputLatch
  refine State.goes_chipOnly s (fun c => ?_)
  simp only []
  (repeat' split) <;> simp

@[simp] theorem execExecutionComplete_goes (s : State) : s.Goes (execExecutionComplete s) := by
  simp [execExecutionComplete]

@[simp] theorem execOutputWrite_goes (s : State) : s.Goes (execOutputWrite s) := by
  simp [execOutputWrite]

@[simp] theorem execWatchdogFire_goes (s : State) : s.Goes (execWatchdogFire s) := by
  simp [execWatchdogFire]

@[simp] theorem execOnlineChangeArrival_goes (addr value : BitVec 32) (s : State) :
    s.Goes (execOnlineChangeArrival addr value s) := by
  simp [execOnlineChangeArrival]

@[simp] theorem execReleaseAll_goes (s : State) : s.Goes (execReleaseAll s) := by
  simp [execReleaseAll]

@[simp] theorem execEngineClearStats_goes (s : State) : s.Goes (execEngineClearStats s) := by
  simp [execEngineClearStats]

@[simp] theorem execRunChgrp_goes (seq : Fin 65536) (s : State) : s.Goes (execRunChgrp seq s) := by
  simp [execRunChgrp]

@[simp] theorem execRunPub_goes (seq : Fin 65536) (s : State) : s.Goes (execRunPub seq s) := by
  simp [execRunPub]

@[simp] theorem execRunSubBlock_goes (seq : Fin 65536) (s : State) : s.Goes (execRunSubBlock seq s) := by
  simp [execRunSubBlock]

@[simp] theorem execRunEvraise_goes (seq : Fin 65536) (s : State) : s.Goes (execRunEvraise seq s) := by
  simp [execRunEvraise]

@[simp] theorem execRunPairst_goes (seq : Fin 65536) (s : State) : s.Goes (execRunPairst seq s) := by
  simp [execRunPairst]

@[simp] theorem execRunParwr_goes (seq : Fin 65536) (s : State) : s.Goes (execRunParwr seq s) := by
  simp [execRunParwr]

@[simp] theorem execRunParrd_goes (seq : Fin 65536) (s : State) : s.Goes (execRunParrd seq s) := by
  simp [execRunParrd]

@[simp] theorem execLoopSampleDue_goes (n : Fin 256) (s : State) : s.Goes (execLoopSampleDue n s) := by
  simp [execLoopSampleDue]

@[simp] theorem execLoopComputationCommit_goes (n : Fin 256) (time : BitVec 16) (s : State) :
    s.Goes (execLoopComputationCommit n time s) := by
  unfold execLoopComputationCommit
  refine State.goes_chipOnly s (fun c => ?_)
  simp only []
  (repeat' split) <;> simp

@[simp] theorem execResetStates_goes (n : Fin 256) (s : State) : s.Goes (execResetStates n s) := by
  simp [execResetStates]

@[simp] theorem execLoopClearStats_goes (n : Fin 256) (s : State) : s.Goes (execLoopClearStats n s) := by
  simp [execLoopClearStats]

@[simp] theorem execClearSlice_goes (r : Fin 8) (s : State) : s.Goes (execClearSlice r s) := by
  simp [execClearSlice]

@[simp] theorem execSliceLoadWindow_goes (r : Fin 8) (s : State) : s.Goes (execSliceLoadWindow r s) := by
  simp [execSliceLoadWindow]

@[simp] theorem execRunLoopsup_goes (seq : Fin 65536) (s : State) : s.Goes (execRunLoopsup seq s) := by
  simp [execRunLoopsup]

@[simp] theorem execLaneFrameReceive_goes (lane : Fin 2) (crc : BitVec 32) (kind : Fin 16) (words : List (BitVec 32)) (s : State) :
    s.Goes (execLaneFrameReceive lane crc kind words s) := by
  simp [execLaneFrameReceive]

@[simp] theorem execHeartbeat_goes (s : State) : s.Goes (execHeartbeat s) := by
  simp [execHeartbeat]

@[simp] theorem execPresenceFrame_goes (s : State) : s.Goes (execPresenceFrame s) := by
  simp [execPresenceFrame]

@[simp] theorem execLaneFault_goes (lane : Fin 2) (s : State) : s.Goes (execLaneFault lane s) := by
  simp [execLaneFault]

@[simp] theorem execLaneReturn_goes (lane : Fin 2) (s : State) : s.Goes (execLaneReturn lane s) := by
  simp [execLaneReturn]

@[simp] theorem execPartnerLost_goes (s : State) : s.Goes (execPartnerLost s) := by
  simp [execPartnerLost]

@[simp] theorem execOwnedImageSend_goes (s : State) : s.Goes (execOwnedImageSend s) := by
  simp [execOwnedImageSend]

@[simp] theorem execNegotiationFrame_goes (s : State) : s.Goes (execNegotiationFrame s) := by
  simp [execNegotiationFrame]

@[simp] theorem execNegWaitTimeout_goes (s : State) : s.Goes (execNegWaitTimeout s) := by
  simp [execNegWaitTimeout]

@[simp] theorem execLeaseRenewal_goes (s : State) : s.Goes (execLeaseRenewal s) := by
  simp [execLeaseRenewal]

@[simp] theorem execLeaseExpiry_goes (s : State) : s.Goes (execLeaseExpiry s) := by
  simp [execLeaseExpiry]

@[simp] theorem execYieldLease_goes (cycle : BitVec 32) (swap : Bool) (s : State) :
    s.Goes (execYieldLease cycle swap s) := by
  simp [execYieldLease]

@[simp] theorem execDualHoldingResolved_goes (partnerEpoch : BitVec 32) (s : State) :
    s.Goes (execDualHoldingResolved partnerEpoch s) := by
  simp [execDualHoldingResolved]

@[simp] theorem execMirrorRecord_goes (latched ended : List (BitVec 32)) (s : State) :
    s.Goes (execMirrorRecord latched ended s) := by
  simp [execMirrorRecord]

@[simp] theorem execResyncComplete_goes (cycle : BitVec 32) (words : List (BitVec 32 × BitVec 32)) (seqs : List (Fin 3 × BitVec 16 × BitVec 16)) (loops axes : List (List (BitVec 32))) (s : State) :
    s.Goes (execResyncComplete cycle words seqs loops axes s) := by
  simp [execResyncComplete]

@[simp] theorem execSwapLease_goes (session : Fin 16) (s : State) : s.Goes (execSwapLease session s) := by
  simp [execSwapLease]

@[simp] theorem execHandover_goes (session : Fin 16) (s : State) : s.Goes (execHandover session s) := by
  simp [execHandover]

@[simp] theorem execResync_goes (session : Fin 16) (s : State) : s.Goes (execResync session s) := by
  simp [execResync]

@[simp] theorem execPairClearCounters_goes (s : State) : s.Goes (execPairClearCounters s) := by
  simp [execPairClearCounters]

@[simp] theorem execHandoverOrder_goes (epoch : BitVec 32) (outs : List (Fin 256 × BitVec 32)) (objs : List (Fin 8 × BitVec 32 × BitVec 16)) (pubs : List (Fin 256 × BitVec 16)) (s : State) :
    s.Goes (execHandoverOrder epoch outs objs pubs s) := by
  simp [execHandoverOrder]

@[simp] theorem execShareRampEnd_goes (g : Fin 128) (s : State) : s.Goes (execShareRampEnd g s) := by
  simp [execShareRampEnd]

@[simp] theorem execPlugRead_goes (position : Fin 3) (words : List (BitVec 32)) (s : State) :
    s.Goes (execPlugRead position words s) := by
  simp [execPlugRead]

@[simp] theorem execRecordEntry_goes (source : Fin 96) (region : BitVec 8) (late : Bool) (severity : Fin 4) (subject : BitVec 32) (payload : List Byte) (s : State) :
    s.Goes (execRecordEntry source region late severity subject payload s) := by
  simp [execRecordEntry]

@[simp] theorem execRecordWrite_goes (count : Fin 65537) (failedBlocks : Fin 256) (s : State) : s.Goes (execRecordWrite count failedBlocks s) := by
  unfold execRecordWrite
  split
  · simp
  · exact State.goes_next (.onChip (.useSpares (.writeRecords (.refl s) _ _) _) (by simp))

@[simp] theorem execStripeEraseDone_goes (failedBlocks : Fin 256) (s : State) : s.Goes (execStripeEraseDone failedBlocks s) := by
  have h1 : s.Keeps (s.endErase.useSpares failedBlocks.val) := .useSpares (.endErase (.refl s)) _
  unfold execStripeEraseDone
  simp [h1]

@[simp] theorem execReleaseBand_goes (session : Fin 16) (band : BitVec 8) (s : State) :
    s.Goes (execReleaseBand session band s) := by
  simp [execReleaseBand]

@[simp] theorem execReleaseAllBands_goes (session : Fin 16) (s : State) : s.Goes (execReleaseAllBands session s) := by
  simp [execReleaseAllBands]

@[simp] theorem execWindowOpen_goes (session : Fin 16) (window : Fin 4) (s : State) :
    s.Goes (execWindowOpen session window s) := by
  simp [execWindowOpen]

@[simp] theorem execWindowNext_goes (session : Fin 16) (window : Fin 4) (bad : List (BitVec 64)) (s : State) :
    s.Goes (execWindowNext session window bad s) := by
  simp [execWindowNext]

@[simp] theorem execWindowSeek_goes (session : Fin 16) (window : Fin 4) (seq : BitVec 64) (s : State) :
    s.Goes (execWindowSeek session window seq s) := by
  refine State.goes_next (State.Keeps.ite.2 ⟨fun _ => .winCommand (.onChip (.refl s) ?_) _ _ _ _, fun _ => .refl s⟩)
  simp

@[simp] theorem execWindowClose_goes (session : Fin 16) (window : Fin 4) (s : State) :
    s.Goes (execWindowClose session window s) := by
  simp [execWindowClose]

@[simp] theorem execWindowIdleTimeout_goes (window : Fin 4) (s : State) : s.Goes (execWindowIdleTimeout window s) := by
  simp [execWindowIdleTimeout]

@[simp] theorem execPairSeqReport_goes (source : Fin 96) (ownSeq partnerSeq : BitVec 64) (timedOut : Bool) (s : State) :
    s.Goes (execPairSeqReport source ownSeq partnerSeq timedOut s) := by
  unfold execPairSeqReport
  refine State.goes_chipOnly s (fun c => ?_)
  simp only []
  (repeat' split) <;> simp

@[simp] theorem execStationLinkLoss_goes (port : Fin 2) (speed : Fin 4) (full : Bool) (s : State) :
    s.Goes (execStationLinkLoss port speed full s) := by
  simp [execStationLinkLoss]

@[simp] theorem execPrpSupervision_goes (s : State) : s.Goes (execPrpSupervision s) := by
  simp [execPrpSupervision]

@[simp] theorem execPtpSync_goes (port : Fin 2) (domain : BitVec 8) (sec : BitVec 48) (ns : BitVec 32) (corr : BitVec 64) (s : State) :
    s.Goes (execPtpSync port domain sec ns corr s) := by
  simp [execPtpSync]

@[simp] theorem execDelayRespReceive_goes (port : Fin 2) (domain : BitVec 8) (sec : BitVec 48) (ns : BitVec 32) (corr : BitVec 64) (s : State) :
    s.Goes (execDelayRespReceive port domain sec ns corr s) := by
  unfold execDelayRespReceive
  refine State.goes_chipOnly s (fun c => ?_)
  simp only []
  (repeat' split) <;> simp

@[simp] theorem execAnnounceMessage_goes (port : Fin 2) (domain : BitVec 8) (dataset : List Byte) (utc : BitVec 16) (leap61 leap59 : Bool) (interval : BitVec 32) (s : State) :
    s.Goes (execAnnounceMessage port domain dataset utc leap61 leap59 interval s) := by
  simp [execAnnounceMessage]

@[simp] theorem execAnnounceTimeout_goes (port : Fin 2) (s : State) : s.Goes (execAnnounceTimeout port s) := by
  simp [execAnnounceTimeout]

@[simp] theorem execLeapSecond_goes (s : State) : s.Goes (execLeapSecond s) := by
  simp [execLeapSecond]

@[simp] theorem execDatagramReceive_goes (lan : Fin 2) (src : BitVec 48) (tag : Option (Fin 4096)) (trailer : Option (BitVec 16 × Fin 2)) (fragment : Bool) (payload : List Byte) (s : State) :
    s.Goes (execDatagramReceive lan src tag trailer fragment payload s) := by
  simp [execDatagramReceive]

@[simp] theorem execPublicationSend_goes (pub : Fin 256) (s : State) : s.Goes (execPublicationSend pub s) := by
  unfold execPublicationSend
  refine State.goes_chipOnly s (fun c => ?_)
  simp only []
  (repeat' split) <;> simp

@[simp] theorem execArpRequest_goes (lan : Fin 2) (senderMac : BitVec 48) (senderIp targetIp : BitVec 32) (s : State) :
    s.Goes (execArpRequest lan senderMac senderIp targetIp s) := by
  simp [execArpRequest]

@[simp] theorem execEchoRequest_goes (lan : Fin 2) (peer target : BitVec 32) (ident number : BitVec 16) (fragment : Bool) (data : List Byte) (s : State) :
    s.Goes (execEchoRequest lan peer target ident number fragment data s) := by
  simp [execEchoRequest]

@[simp] theorem execStationClearCounters_goes (s : State) : s.Goes (execStationClearCounters s) := by
  simp [execStationClearCounters]

@[simp] theorem execImageBegin_goes (session : Fin 16) (s : State) : s.Goes (execImageBegin session s) := by
  simp [execImageBegin]

@[simp] theorem execImageVerify_goes (session : Fin 16) (s : State) : s.Goes (execImageVerify session s) := by
  simp [execImageVerify]

@[simp] theorem execImageCommit_goes (session : Fin 16) (fb : Bool) (s : State) :
    s.Goes (execImageCommit session fb s) := by
  simp [execImageCommit]

@[simp] theorem execImageAbort_goes (session : Fin 16) (s : State) : s.Goes (execImageAbort session s) := by
  simp [execImageAbort]

@[simp] theorem execImageSelect_goes (session : Fin 16) (slot : Fin 2) (fb : Bool) (s : State) :
    s.Goes (execImageSelect session slot fb s) := by
  simp [execImageSelect]

@[simp] theorem execEraseComplete_goes (s : State) : s.Goes (execEraseComplete s) := by
  simp [execEraseComplete]

@[simp] theorem execVerifyComplete_goes (s : State) : s.Goes (execVerifyComplete s) := by
  have h1 : ∀ code, s.Keeps (s.onChip (fun c => (c.put imageAt Image.check code).setXfer (fun x => { x with verifying := 0 }))) :=
    fun code => .onChip (.refl s) (by simp)
  unfold execVerifyComplete
  simp only []
  split
  · simp
  split
  · exact State.goes_next (.with_chip (.refl s) (by simp))
  split
  · exact State.goes_next ((h1 _).selectSlot _ _ _)
  · exact State.goes_next ((h1 _).onChip (by simp))

@[simp] theorem execTransferTimeout_goes (s : State) : s.Goes (execTransferTimeout s) := by
  simp [execTransferTimeout]

@[simp] theorem execSessionOpen_goes (peer : BitVec 32) (port : BitVec 16) (seq : BitVec 32) (rid : BitVec 16) (role : BitVec 8) (nc nm : List Byte) (sid : BitVec 16) (s : State) :
    s.Goes (execSessionOpen peer port seq rid role nc nm sid s) := by
  unfold execSessionOpen
  refine State.goes_chipOnly s (fun c => ?_)
  simp only []
  (repeat' split) <;> simp

@[simp] theorem execProofRequest_goes (session : Fin 16) (rid : BitVec 16) (mac : List Byte) (s : State) :
    s.Goes (execProofRequest session rid mac s) := by
  unfold execProofRequest
  refine State.goes_chipOnly s (fun c => ?_)
  simp only []
  (repeat' split) <;> simp

@[simp] theorem execProofTimeout_goes (session : Fin 16) (s : State) : s.Goes (execProofTimeout session s) := by
  simp [execProofTimeout]

@[simp] theorem execSessionIdleTimeout_goes (session : Fin 16) (s : State) :
    s.Goes (execSessionIdleTimeout session s) := by
  simp [execSessionIdleTimeout]

@[simp] theorem execLockoutExpiry_goes (peer : BitVec 32) (s : State) : s.Goes (execLockoutExpiry peer s) := by
  simp [execLockoutExpiry]

@[simp] theorem execParameterWrite_goes (session : Fin 16) (addr value : BitVec 32) (s : State) :
    s.Goes (execParameterWrite session addr value s) := by
  simp [execParameterWrite]

@[simp] theorem execSessionClose_goes (session : Fin 16) (seq : BitVec 32) (rid : BitVec 16) (mac : List Byte) (s : State) :
    s.Goes (execSessionClose session seq rid mac s) :=
  State.goes_next (.request (.refl s) _ _ _ _ _ _ _ (fun u hu => hu.onChip (by simp)))

@[simp] theorem execKeepalive_goes (session : Fin 16) (seq : BitVec 32) (rid : BitVec 16) (mac : List Byte) (s : State) :
    s.Goes (execKeepalive session seq rid mac s) :=
  State.goes_next (.request (.refl s) _ _ _ _ _ _ _ (fun u hu => hu.respond _ _ _))

@[simp] theorem execReadWords_goes (session : Fin 16) (seq : BitVec 32) (rid : BitVec 16) (addrs : List (BitVec 32)) (mac : List Byte)
    (s : State) : s.Goes (execReadWords session seq rid addrs mac s) :=
  State.goes_next (.request (.refl s) _ _ _ _ _ _ _ (fun u hu => .respond (hu.onChip (by simp)) _ _ _))

@[simp] theorem execWriteWords_goes (session : Fin 16) (seq : BitVec 32) (rid : BitVec 16) (pairs : List (BitVec 32 × BitVec 32))
    (mac : List Byte) (s : State) : s.Goes (execWriteWords session seq rid pairs mac s) :=
  State.goes_next (.request (.refl s) _ _ _ _ _ _ _ (fun u hu => .foldl hu (fun v p hv => hv.writeWord _ _ _ _) _))

@[simp] theorem execForceSet_goes (session : Fin 16) (seq : BitVec 32) (rid : BitVec 16) (kind type region sub : BitVec 8)
    (index valueLo valueHi : BitVec 32) (mac : List Byte) (s : State) :
    s.Goes (execForceSet session seq rid kind type region sub index valueLo valueHi mac s) :=
  State.goes_next (.request (.refl s) _ _ _ _ _ _ _ (fun u hu => by simp [hu]))

@[simp] theorem execForceRelease_goes (session : Fin 16) (seq : BitVec 32) (rid : BitVec 16) (index : BitVec 32) (mac : List Byte)
    (s : State) : s.Goes (execForceRelease session seq rid index mac s) :=
  State.goes_next (.request (.refl s) _ _ _ _ _ _ _ (fun u hu => by simp [hu]))

@[simp] theorem execChunkWrite_goes (session : Fin 16) (seq : BitVec 32) (rid : BitVec 16) (offset : BitVec 32) (data mac : List Byte)
    (s : State) : s.Goes (execChunkWrite session seq rid offset data mac s) := by
  refine State.goes_next (.request (.refl s) _ _ _ _ _ _ _ (fun u hu => .respond ?_ _ _ _))
  exact State.Keeps.ite.2 ⟨fun _ => hu.chunkWrite _ _ _, fun _ => hu⟩

@[simp] theorem execSetKey_goes (session : Fin 16) (seq : BitVec 32) (rid : BitVec 16) (target : BitVec 8) (masked mac : List Byte)
    (s : State) : s.Goes (execSetKey session seq rid target masked mac s) := by
  refine State.goes_next (.request (.refl s) _ _ _ _ _ _ _ (fun u hu => ?_))
  simp only []
  split
  · exact hu.respond _ _ _
  split
  · exact hu.respond _ _ _
  · refine .respond ?_ _ _ _
    exact hu.with_flash rfl rfl rfl

@[simp] theorem execCalset_goes (session : Fin 16) (seq : BitVec 32) (rid : BitVec 16) (stamp : BitVec 64) (mac : List Byte) (s : State) :
    s.Goes (execCalset session seq rid stamp mac s) := by
  refine State.goes_next (.request (.refl s) _ _ _ _ _ _ _ (fun u hu => ?_))
  split
  · exact hu.respond _ _ _
  split
  · exact hu.respond _ _ _
  · exact .respond (hu.onChip (by simp)) _ _ _

@[simp] theorem execServiceRestart_goes (session : Fin 16) (seq : BitVec 32) (rid : BitVec 16) (mac : List Byte) (s : State) :
    s.Goes (execServiceRestart session seq rid mac s) := by
  refine State.goes_next (.request (.refl s) _ _ _ _ _ _ _ (fun u hu => ?_))
  split
  · exact hu.respond _ _ _
  split
  · exact hu.respond _ _ _
  · exact .restart (.onChip (hu.respond _ _ _) (by simp))

/-- What every operation keeps from s to t, the key commands among them: the queue, the sizes of the fixed stores, the canonical form of
the NOR, and the one way of the one-time-programmable memory (R135, R456). -/
structure State.Moves (s t : State) : Prop where
  pending : t.pending = s.pending
  shaped : Shaped s → Shaped t
  nor : Memory.wf s.flash.nor = true → Memory.wf t.flash.nor = true
  oneWay : Flash.oneWay s.flash t.flash = true

theorem slotsMove_refl (l : List (Nat × List Nat)) : slotsMove l l = true := by
  induction l with
  | nil => rfl
  | cons a as ih => simp [slotsMove, slotMoves, ih]

/-- One slot written, by a move that R135 allows. -/
theorem slotsMove_setAt {l : List (Nat × List Nat)} {k : Nat} {new : Nat × List Nat} (h : slotMoves (nth (9, []) l k) new = true) :
    slotsMove l (setAt l k new) = true := by
  induction l generalizing k with
  | nil => rfl
  | cons a as ih =>
    cases k with
    | zero => exact Bool.and_eq_true_iff.2 ⟨h, slotsMove_refl as⟩
    | succ k => exact Bool.and_eq_true_iff.2 ⟨by simp [slotMoves], ih h⟩

theorem State.Keeps.moves {s t : State} (h : s.Keeps t) : s.Moves t :=
  ⟨h.pending, h.shaped, h.nor, by simp [Flash.oneWay, h.keys, h.fuse, slotsMove_refl]⟩

/-- A request either leaves all but the volatile part, or runs with nothing but that part changed. -/
theorem State.request_cases (s : State) (i typ seq rid : Nat) (body mac : List Nat) (parts : Nat) (run : State → State) :
    ∃ c : Chip, c.shape = s.chip.shape ∧
      (s.request i typ seq rid body mac parts run = { s with chip := c } ∨
        s.request i typ seq rid body mac parts run = run { s with chip := c }) := by
  unfold State.request
  simp only []
  split
  · exact ⟨s.chip, rfl, .inl rfl⟩
  · exact ⟨_, by simp, .inl rfl⟩
  · exact ⟨_, by simp, .inl rfl⟩
  · exact ⟨_, by simp, .inl rfl⟩
  · exact ⟨_, by simp, .inl rfl⟩
  · exact ⟨_, by simp, .inr rfl⟩

/-- A command goes on where its run moves as it may. -/
theorem State.moves_request {s : State} (i typ seq rid : Nat) (body mac : List Nat) (parts : Nat) {run : State → State}
    (h : ∀ c : Chip, c.shape = s.chip.shape → s.Moves (run { s with chip := c })) :
    s.Moves (s.request i typ seq rid body mac parts run) := by
  obtain ⟨c, hc, hr | hr⟩ := s.request_cases i typ seq rid body mac parts run
  · exact hr ▸ (State.Keeps.with_chip (.refl s) hc).moves
  · exact hr ▸ h c hc

/-- The one-time-programmable memory takes a new value, with its record and its answer. -/
theorem State.moves_otp (s : State) {f : Flash} {c d : Chip} (hd : d.shape = c.shape) (hc : c.shape = s.chip.shape)
    (hn : f.nor = s.flash.nor) (ho : Flash.oneWay s.flash f = true) (i seq : Nat) (bs : List Nat) :
    s.Moves (State.respond { s with flash := f, chip := d } i seq bs) :=
  ⟨rfl, fun hs => (Chip.answer_shape _ _ _).trans (hd.trans (hc.trans hs)), fun hw => (congrArg _ hn).trans hw, ho⟩

theorem execKeySlot_moves (session : Fin 16) (seq : BitVec 32) (rid : BitVec 16) (slot op : BitVec 8) (key mac : List Byte) (s : State) :
    ∃ t, execKeySlot session seq rid slot op key mac s = .next t ∧ s.Moves t := by
  refine ⟨_, rfl, State.moves_request _ _ _ _ _ _ _ (fun c hc => ?_)⟩
  have refused : ∀ status, s.Moves (State.respond { s with chip := c } session.val seq.toNat (leBytes 4 status)) := fun status =>
    (State.Keeps.respond (.with_chip (.refl s) hc) _ _ _).moves
  have written : ∀ new what, slotMoves (nth (9, []) s.flash.keys slot.toNat) new = true →
      s.Moves (State.respond { s with
        flash := { s.flash with keys := setAt s.flash.keys slot.toNat new }
        chip := (c.selectSync { s.flash with keys := setAt s.flash.keys slot.toNat new }).record 14 0xFF 1 0xFF [what, 0] [slot.toNat] }
        session.val seq.toNat (leBytes 4 0)) := fun new what hm => by
    refine s.moves_otp ?_ hc ?_ ?_ _ _ _
    · simp
    · rfl
    · simp [Flash.oneWay, slotsMove_setAt hm]
  simp only []
  split
  · exact refused 5
  split
  · next h => exact written _ 6 (by simp_all [slotMoves])
  split
  · next h => exact written _ 7 (by simp_all [slotMoves])
  · exact refused 6

theorem execFuse_moves (session : Fin 16) (seq : BitVec 32) (rid : BitVec 16) (mac : List Byte) (s : State) :
    ∃ t, execFuse session seq rid mac s = .next t ∧ s.Moves t := by
  refine ⟨_, rfl, State.moves_request _ _ _ _ _ _ _ (fun c hc => ?_)⟩
  split
  · exact (State.Keeps.respond (.with_chip (.refl s) hc) _ _ _).moves
  · refine s.moves_otp ?_ hc ?_ ?_ _ _ _
    · simp
    · rfl
    · simp [Flash.oneWay, slotsMove_refl]

theorem State.Goes.moves {s : State} {o : Out} (h : s.Goes o) : ∃ t, o = .next t ∧ s.Moves t := by
  obtain ⟨t, ht, hk⟩ := h
  exact ⟨t, ht, hk.moves⟩

/-- Every command completes, and moves the machine as a command may. -/
theorem exec_moves (c : Instr) (s : State) : ∃ t, exec c s = .next t ∧ s.Moves t := by
  cases c
  case keySlot => exact execKeySlot_moves ..
  case fuse => exact execFuse_moves ..
  all_goals exact State.Goes.moves (by delta exec; simp)

theorem step_moves {s t : State} (h : step s = .next t) : (Shaped s → Shaped t) ∧
    (Memory.wf s.flash.nor = true → Memory.wf t.flash.nor = true) ∧ Flash.oneWay s.flash t.flash = true := by
  unfold step at h
  split at h
  · next c rest _ =>
    obtain ⟨u, hu, hm⟩ := exec_moves c { s with pending := rest }
    obtain rfl : u = t := by simpa [hu] using h
    exact ⟨hm.shaped, hm.nor, hm.oneWay⟩
  · obtain rfl : s.idle = t := by simpa using h
    have hm := (State.Keeps.idle (.refl s)).moves
    exact ⟨hm.shaped, hm.nor, hm.oneWay⟩

/-- Settles O58: what a command and a tick each may do to the non-volatile stores. -/
theorem nonVolatileInvariants : Obligations.NonVolatileInvariants := fun _ _ h => (step_moves h).2

/-- Settles O59: no operation of the machine changes the length of a fixed store. -/
theorem shapeInvariant : Obligations.ShapeInvariant := fun _ _ hs h => (step_moves h).1 hs

/-- Settles O56: every command's meaning ends in a next state with the same queue. -/
theorem everyCommandCompletes : Obligations.EveryCommandCompletes := fun c s =>
  have ⟨t, ht, hm⟩ := exec_moves c s
  ⟨t, ht, hm.pending⟩
end Sys2Proof.Machine
end

section
/-! SUPPORT. What the operations of a tick leave of the time: `now` moves with the tick alone. -/

namespace Sys2Proof.Machine
/-- A change made in turn for the elements of a list takes no time where each one takes none. -/
@[simp] theorem Chip.each_now {α : Type} {f : Chip → α → Chip} (h : ∀ c x, (f c x).now = c.now) (c : Chip) (l : List α) :
    (c.each l f).now = c.now := by
  unfold Chip.each
  induction l generalizing c with
  | nil => rfl
  | cons x xs ih => exact (ih (f c x)).trans (h c x)

@[simp] theorem Chip.when_now {f : Chip → Chip} (h : ∀ c, (f c).now = c.now) (c : Chip) (b : Bool) : (c.when b f).now = c.now := by
  cases b
  · rfl
  · exact h c

@[simp] theorem Chip.now_ite {p : Prop} [Decidable p] (c d : Chip) : (if p then c else d).now = if p then c.now else d.now :=
  apply_ite _ _ _ _


@[simp] theorem Chip.bumpByI_now (c : Chip) (b : Nat) (f : Field) (i k : Nat) : (c.bumpByI b f i k).now = c.now := by
  simp [Chip.bumpByI]

@[simp] theorem Chip.putBit_now (c : Chip) (b : Nat) (f : Field) (i : Nat) (v : Bool) : (c.putBit b f i v).now = c.now := by
  simp [Chip.putBit]

@[simp] theorem Chip.recSync_now (c : Chip) : c.recSync.now = c.now := by
  simp [Chip.recSync]

@[simp] theorem Chip.put64_now (c : Chip) (b : Nat) (f : Field) (v : Nat) : (c.put64 b f v).now = c.now := by
  simp [Chip.put64]

@[simp] theorem Chip.enter_now (c : Chip) (source region severity subject : Nat) (pl : List Nat) (late : Bool) :
    (c.enter source region severity subject pl late).now = c.now := by
  simp [Chip.enter]

@[simp] theorem Chip.openBand_now (c : Chip) (t : Nat) : (c.openBand t).now = c.now := by
  unfold Chip.openBand
  (repeat' split) <;> simp -implicitDefEqProofs

@[simp] theorem Chip.recordAs_now (c : Chip) (source region severity subject : Nat) (pl : List Nat) (late : Bool) :
    (c.recordAs source region severity subject pl late).now = c.now := by
  simp [Chip.recordAs]

@[simp] theorem Chip.dOff_now (c : Chip) (g n : Nat) : (c.dOff g n).now = c.now := by
  simp [Chip.dOff]

@[simp] theorem Chip.tongsRefuse_now (c : Chip) (r d : Nat) : (c.tongsRefuse r d).now = c.now := by
  simp [Chip.tongsRefuse]

@[simp] theorem Chip.emit_now (c : Chip) (e : Emit) : (c.emit e).now = c.now := by
  simp [Chip.emit]

@[simp] theorem Chip.crossNow_now (c : Chip) : c.crossNow.now = c.now := by
  simp [Chip.crossNow]

@[simp] theorem Chip.putStatus_now (c : Chip) (g : Nat) : (c.putStatus g).now = c.now := by
  simp [Chip.putStatus]

@[simp] theorem Chip.setImage_now (c : Chip) (g v : Nat) : (c.setImage g v).now = c.now := by
  simp [Chip.setImage]

@[simp] theorem Chip.see_now (c : Chip) (g : Nat) (k : Cond) (holds : Bool) : (c.see g k holds).now = c.now := by
  simp [Chip.see]

@[simp] theorem Chip.raiseBellows_now (c : Chip) (g cmd : Nat) : (c.raiseBellows g cmd).now = c.now := by
  simp [Chip.raiseBellows]

@[simp] theorem Chip.endBackFed_now (c : Chip) (g : Nat) : (c.endBackFed g).now = c.now := by
  simp -implicitDefEqProofs [Chip.endBackFed]

@[simp] theorem Chip.setSwitch_now (c : Chip) (g : Nat) (close : Bool) : (c.setSwitch g close).now = c.now := by
  simp [Chip.setSwitch]

@[simp] theorem Chip.alarmSync_now (c : Chip) (g : Nat) : (c.alarmSync g).now = c.now := by
  simp [Chip.alarmSync]

@[simp] theorem Chip.seeCurrent_now (c0 : Chip) (g : Nat) (ua : Int) : (c0.seeCurrent g ua).now = c0.now := by
  simp [Chip.seeCurrent]

@[simp] theorem Chip.startPwm_now (c : Chip) (g cmd : Nat) : (c.startPwm g cmd).now = c.now := by
  simp [Chip.startPwm]

@[simp] theorem Chip.driveWith_now (c : Chip) (g cmd0 : Nat) : (c.driveWith g cmd0).now = c.now := by
  simp [Chip.driveWith]

@[simp] theorem Chip.openNow_now (c : Chip) (g : Nat) : (c.openNow g).now = c.now := by
  simp [Chip.openNow]

@[simp] theorem Chip.resolve_now (c : Chip) (g : Nat) : (c.resolve g).now = c.now := by
  simp [Chip.resolve]

@[simp] theorem Chip.resetTongs_now (c : Chip) (k : Nat) : (c.resetTongs k).now = c.now := by
  simp [Chip.resetTongs]

@[simp] theorem Chip.counterOver_now (c : Chip) (r j : Nat) : (c.counterOver r j).now = c.now := by
  simp -implicitDefEqProofs [Chip.counterOver]

@[simp] theorem Chip.countEvent_now (c : Chip) (r : Nat) (e : CtrEvent) : (c.countEvent r e).now = c.now := by
  simp [Chip.countEvent]

@[simp] theorem Chip.countPass_now (c : Chip) (r cls port : Nat) (out : Bool) (master priv bytes : Nat) :
    (c.countPass r cls port out master priv bytes).now = c.now := by
  simp [Chip.countPass]

@[simp] theorem Chip.xOn_now (c : Chip) (x n : Nat) : (c.xOn x n).now = c.now := by
  simp [Chip.xOn]

@[simp] theorem Chip.xOff_now (c : Chip) (x n : Nat) : (c.xOff x n).now = c.now := by
  simp [Chip.xOff]

@[simp] theorem Chip.xSet_now (c : Chip) (x n : Nat) (b : Bool) : (c.xSet x n b).now = c.now := by
  simp [Chip.xSet]

@[simp] theorem Chip.axSync_now (c0 : Chip) (x : Nat) : (c0.axSync x).now = c0.now := by
  simp -implicitDefEqProofs [Chip.axSync]

@[simp] theorem Chip.xRecord_now (c : Chip) (source x severity : Nat) (bs ws : List Nat) :
    (c.xRecord source x severity bs ws).now = c.now := by
  simp [Chip.xRecord]

@[simp] theorem Chip.setRef_now (c : Chip) (x new : Nat) : (c.setRef x new).now = c.now := by
  simp [Chip.setRef]

@[simp] theorem Chip.endAct_now (c : Chip) (x code : Nat) : (c.endAct x code).now = c.now := by
  simp only [Chip.endAct]
  (repeat' split) <;> simp

@[simp] theorem Chip.lossInMotion_now (c : Chip) (x : Nat) (speed : Int) : (c.lossInMotion x speed).now = c.now := by
  simp [Chip.lossInMotion]

@[simp] theorem Chip.atRest_now (c : Chip) (x : Nat) : (c.atRest x).now = c.now := by
  simp [Chip.atRest]

@[simp] theorem Chip.quietTake_now (c : Chip) (x : Nat) : (c.quietTake x).now = c.now := by
  simp -implicitDefEqProofs [Chip.quietTake]

@[simp] theorem Chip.stageLost_now (c : Chip) (x code : Nat) : (c.stageLost x code).now = c.now := by
  simp [Chip.stageLost]

@[simp] theorem Chip.stageBack_now (c : Chip) (x : Nat) : (c.stageBack x).now = c.now := by
  simp [Chip.stageBack]

@[simp] theorem Chip.stageSet_now (c : Chip) (x causes : Nat) : (c.stageSet x causes).now = c.now := by
  simp [Chip.stageSet]

@[simp] theorem Chip.stageCause_now (c : Chip) (x n : Nat) (on : Bool) : (c.stageCause x n on).now = c.now := by
  simp [Chip.stageCause]

@[simp] theorem Chip.putInteg_now (c : Chip) (n : Nat) (v : Int) : (c.putInteg n v).now = c.now := by
  simp [Chip.putInteg]

@[simp] theorem Chip.setLoopState_now (c : Chip) (n new : Nat) : (c.setLoopState n new).now = c.now := by
  simp [Chip.setLoopState]

@[simp] theorem Chip.putSections_now (c : Chip) (n j : Nat) (l : List (Int × Int)) : (c.putSections n j l).now = c.now := by
  induction l generalizing c j with
  | nil => rfl
  | cons e t ih => simp [Chip.putSections, Chip.put48, ih]

@[simp] theorem Chip.loopBegin_now (c : Chip) (n : Nat) (man : Int) (startAuto : Bool) : (c.loopBegin n man startAuto).now = c.now := by
  simp -implicitDefEqProofs only [Chip.loopBegin, Chip.setLoopState_now, Chip.setLoop_now, Chip.putSections_now, Chip.putInteg_now,
    Chip.put_now]

@[simp] theorem Chip.startSlice_now (c : Chip) (r : Nat) : (c.startSlice r).now = c.now := by
  simp [Chip.startSlice]

@[simp] theorem Chip.wantPanel_now (c : Chip) : c.wantPanel.now = c.now := by
  simp [Chip.wantPanel]

@[simp] theorem Chip.laneEmit_now (c : Chip) (l kind : Nat) (ws : List Nat) : (c.laneEmit l kind ws).now = c.now := by
  simp [Chip.laneEmit]

@[simp] theorem Chip.laneOne_now (c : Chip) (kind : Nat) (ws : List Nat) : (c.laneOne kind ws).now = c.now := by
  simp only [Chip.laneOne]
  (repeat' split) <;> simp

@[simp] theorem Chip.pOn_now (c : Chip) (r n : Nat) : (c.pOn r n).now = c.now := by
  simp [Chip.pOn]

@[simp] theorem Chip.objSync_now (c : Chip) (r j : Nat) : (c.objSync r j).now = c.now := by
  simp [Chip.objSync]

@[simp] theorem Chip.failShot_now (c : Chip) (r j : Nat) (all : Bool) : (c.failShot r j all).now = c.now := by
  simp [Chip.failShot]

@[simp] theorem Chip.rewait_now (c : Chip) (r : Nat) : (c.rewait r).now = c.now := by
  simp [Chip.rewait]

@[simp] theorem Chip.requeue_now (c : Chip) (r : Nat) : (c.requeue r).now = c.now := by
  simp [Chip.requeue]

@[simp] theorem Chip.beginRestart_now (c : Chip) (r : Nat) (restart : Bool) : (c.beginRestart r restart).now = c.now := by
  simp [Chip.beginRestart]

@[simp] theorem Chip.portSync_now (c : Chip) (r : Nat) : (c.portSync r).now = c.now := by
  simp [Chip.portSync]

@[simp] theorem Chip.tellLost_now (c : Chip) (first count told unnumbered : Nat) :
    (c.tellLost first count told unnumbered).now = c.now := by
  simp -implicitDefEqProofs [Chip.tellLost]

@[simp] theorem Chip.lateComparators_now (c : Chip) : c.lateComparators.now = c.now := by
  refine Chip.each_now (fun d k => ?_) c (List.range 4)
  split <;> simp

@[simp] theorem Chip.putBands_now (c : Chip) (bands : List (Nat × Nat × Nat)) : (c.putBands bands).now = c.now := by
  simp -implicitDefEqProofs [Chip.putBands]

@[simp] theorem Chip.afresh_now (c : Chip) (g : Nat) : (c.afresh g).now = c.now := by
  simp [Chip.afresh]

@[simp] theorem Chip.statusSync_now (c : Chip) : c.statusSync.now = c.now := by
  simp -implicitDefEqProofs [Chip.statusSync]

@[simp] theorem Chip.selectSync_now (c : Chip) (f : Flash) : (c.selectSync f).now = c.now := by
  simp [Chip.selectSync]

@[simp] theorem Chip.beaconTick_now (c : Chip) : c.beaconTick.now = c.now := by
  simp -implicitDefEqProofs [Chip.beaconTick]

@[simp] theorem Chip.recorderTick_now (c : Chip) : c.recorderTick.now = c.now := by
  simp -implicitDefEqProofs [Chip.recorderTick]

@[simp] theorem Chip.axisTick_now (c : Chip) : c.axisTick.now = c.now := by
  simp [Chip.axisTick]

end Sys2Proof.Machine
end

section
/-! SUPPORT. What a tick leaves of the image transfer. -/

namespace Sys2Proof.Machine
/-- A change made in turn for the elements of a list leaves the transfer where each one does. -/
@[simp] theorem Chip.each_xfer {α : Type} {f : Chip → α → Chip} (h : ∀ c x, (f c x).xfer = c.xfer) (c : Chip) (l : List α) :
    (c.each l f).xfer = c.xfer := by
  unfold Chip.each
  induction l generalizing c with
  | nil => rfl
  | cons x xs ih => exact (ih (f c x)).trans (h c x)

@[simp] theorem Chip.when_xfer {f : Chip → Chip} (h : ∀ c, (f c).xfer = c.xfer) (c : Chip) (b : Bool) : (c.when b f).xfer = c.xfer := by
  cases b
  · rfl
  · exact h c

@[simp] theorem Chip.xfer_ite {p : Prop} [Decidable p] (c d : Chip) : (if p then c else d).xfer = if p then c.xfer else d.xfer :=
  apply_ite _ _ _ _


@[simp] theorem Chip.bumpByI_xfer (c : Chip) (b : Nat) (f : Field) (i k : Nat) : (c.bumpByI b f i k).xfer = c.xfer := by
  simp [Chip.bumpByI]

@[simp] theorem Chip.putBit_xfer (c : Chip) (b : Nat) (f : Field) (i : Nat) (v : Bool) : (c.putBit b f i v).xfer = c.xfer := by
  simp [Chip.putBit]

@[simp] theorem Chip.tongsRefuse_xfer (c : Chip) (r d : Nat) : (c.tongsRefuse r d).xfer = c.xfer := by
  simp [Chip.tongsRefuse]

@[simp] theorem Chip.emit_xfer (c : Chip) (e : Emit) : (c.emit e).xfer = c.xfer := by
  simp [Chip.emit]

@[simp] theorem Chip.crossNow_xfer (c : Chip) : c.crossNow.xfer = c.xfer := by
  simp [Chip.crossNow]

@[simp] theorem Chip.counterOver_xfer (c : Chip) (r j : Nat) : (c.counterOver r j).xfer = c.xfer := by
  simp -implicitDefEqProofs [Chip.counterOver]

@[simp] theorem Chip.countEvent_xfer (c : Chip) (r : Nat) (e : CtrEvent) : (c.countEvent r e).xfer = c.xfer := by
  simp [Chip.countEvent]

@[simp] theorem Chip.countPass_xfer (c : Chip) (r cls port : Nat) (out : Bool) (master priv bytes : Nat) :
    (c.countPass r cls port out master priv bytes).xfer = c.xfer := by
  simp [Chip.countPass]

@[simp] theorem Chip.laneEmit_xfer (c : Chip) (l kind : Nat) (ws : List Nat) : (c.laneEmit l kind ws).xfer = c.xfer := by
  simp [Chip.laneEmit]

@[simp] theorem Chip.laneOne_xfer (c : Chip) (kind : Nat) (ws : List Nat) : (c.laneOne kind ws).xfer = c.xfer := by
  simp only [Chip.laneOne]
  (repeat' split) <;> simp

@[simp] theorem Chip.statusSync_xfer (c : Chip) : c.statusSync.xfer = c.xfer := by
  simp -implicitDefEqProofs [Chip.statusSync]

@[simp] theorem Chip.beaconTick_xfer (c : Chip) : c.beaconTick.xfer = c.xfer := by
  simp -implicitDefEqProofs [Chip.beaconTick]

@[simp] theorem Chip.recorderTick_xfer (c : Chip) : c.recorderTick.xfer = c.xfer := by
  simp -implicitDefEqProofs [Chip.recorderTick]

@[simp] theorem Chip.axisTick_xfer (c : Chip) : c.axisTick.xfer = c.xfer := by
  simp [Chip.axisTick]

end Sys2Proof.Machine
end

section
/-! SUPPORT. What a tick leaves of the module's conditions. -/

namespace Sys2Proof.Machine
/-- A change made in turn for the elements of a list leaves the module conditions where each one does. -/
@[simp] theorem Chip.each_sys {α : Type} {f : Chip → α → Chip} (h : ∀ c x, (f c x).sys = c.sys) (c : Chip) (l : List α) :
    (c.each l f).sys = c.sys := by
  unfold Chip.each
  induction l generalizing c with
  | nil => rfl
  | cons x xs ih => exact (ih (f c x)).trans (h c x)

@[simp] theorem Chip.when_sys {f : Chip → Chip} (h : ∀ c, (f c).sys = c.sys) (c : Chip) (b : Bool) : (c.when b f).sys = c.sys := by
  cases b
  · rfl
  · exact h c

@[simp] theorem Chip.sys_ite {p : Prop} [Decidable p] (c d : Chip) : (if p then c else d).sys = if p then c.sys else d.sys :=
  apply_ite _ _ _ _


@[simp] theorem Chip.bumpByI_sys (c : Chip) (b : Nat) (f : Field) (i k : Nat) : (c.bumpByI b f i k).sys = c.sys := by
  simp [Chip.bumpByI]

@[simp] theorem Chip.putBit_sys (c : Chip) (b : Nat) (f : Field) (i : Nat) (v : Bool) : (c.putBit b f i v).sys = c.sys := by
  simp [Chip.putBit]

@[simp] theorem Chip.tongsRefuse_sys (c : Chip) (r d : Nat) : (c.tongsRefuse r d).sys = c.sys := by
  simp [Chip.tongsRefuse]

@[simp] theorem Chip.emit_sys (c : Chip) (e : Emit) : (c.emit e).sys = c.sys := by
  simp [Chip.emit]

@[simp] theorem Chip.crossNow_sys (c : Chip) : c.crossNow.sys = c.sys := by
  simp [Chip.crossNow]

@[simp] theorem Chip.counterOver_sys (c : Chip) (r j : Nat) : (c.counterOver r j).sys = c.sys := by
  simp -implicitDefEqProofs [Chip.counterOver]

@[simp] theorem Chip.countEvent_sys (c : Chip) (r : Nat) (e : CtrEvent) : (c.countEvent r e).sys = c.sys := by
  simp [Chip.countEvent]

@[simp] theorem Chip.countPass_sys (c : Chip) (r cls port : Nat) (out : Bool) (master priv bytes : Nat) :
    (c.countPass r cls port out master priv bytes).sys = c.sys := by
  simp [Chip.countPass]

@[simp] theorem Chip.laneEmit_sys (c : Chip) (l kind : Nat) (ws : List Nat) : (c.laneEmit l kind ws).sys = c.sys := by
  simp [Chip.laneEmit]

@[simp] theorem Chip.laneOne_sys (c : Chip) (kind : Nat) (ws : List Nat) : (c.laneOne kind ws).sys = c.sys := by
  simp only [Chip.laneOne]
  (repeat' split) <;> simp

@[simp] theorem Chip.statusSync_sys (c : Chip) : c.statusSync.sys = c.sys := by
  simp -implicitDefEqProofs [Chip.statusSync]

@[simp] theorem Chip.beaconTick_sys (c : Chip) : c.beaconTick.sys = c.sys := by
  simp -implicitDefEqProofs [Chip.beaconTick]

@[simp] theorem Chip.recorderTick_sys (c : Chip) : c.recorderTick.sys = c.sys := by
  simp -implicitDefEqProofs [Chip.recorderTick]

@[simp] theorem Chip.axisTick_sys (c : Chip) : c.axisTick.sys = c.sys := by
  simp [Chip.axisTick]

end Sys2Proof.Machine
end

section
/-! SUPPORT. One tick of a module no command waits for, and with it O55. -/

namespace Sys2Proof.Machine

@[simp] theorem Chip.calendarTick_now (c : Chip) : c.calendarTick.now = c.now := by
  have hleap : ∀ d : Chip, (d.put calAt Cal.leap_now 0).now = d.now := fun _ => rfl
  unfold Chip.calendarTick
  split
  · rfl
  · exact Chip.when_now hleap _ _

/-- A tick counts. -/
@[simp] theorem Chip.tickOnce_now (c : Chip) : c.tickOnce.now = c.now + 1 := by
  simp -implicitDefEqProofs [Chip.tickOnce]

/-! The recorder's mount and the return of a block change stores of the flash and the module, and take no time. -/

@[simp] theorem State.eraseStripe_now (s : State) (q : Nat) : (s.eraseStripe q).chip.now = s.chip.now := by
  simp -implicitDefEqProofs [State.eraseStripe, State.tailSync]

@[simp] theorem State.endErase_now (s : State) : s.endErase.chip.now = s.chip.now := by
  unfold State.endErase
  split <;> simp -implicitDefEqProofs [State.tailSync]

@[simp] theorem State.beginErase_now (s : State) : s.beginErase.chip.now = s.chip.now := by
  unfold State.beginErase
  split <;> simp -implicitDefEqProofs

@[simp] theorem State.readyStripe_now (s : State) (how : WriteHow) : (s.readyStripe how).chip.now = s.chip.now := by
  unfold State.readyStripe
  split
  · split <;> simp -implicitDefEqProofs
  · rfl

theorem State.enterStripe_now {s u : State} {l : Nat} {how : WriteHow} (hu : s.enterStripe l how = some u) :
    u.chip.now = s.chip.now := by
  unfold State.enterStripe at hu
  split at hu
  · rw [Option.some.inj hu]
  · simp only [] at hu
    split at hu
    · cases hu
    split at hu
    · rw [← Option.some.inj hu]
      split <;> simp -implicitDefEqProofs
    · cases hu

theorem State.foldl_now {α : Type} {f : State → α → State} (h : ∀ s x, (f s x).chip.now = s.chip.now) (l : List α) (s : State) :
    (l.foldl f s).chip.now = s.chip.now := by
  induction l generalizing s with
  | nil => rfl
  | cons x xs ih => exact (ih (f s x)).trans (h s x)

@[simp] theorem State.markLost_now (s : State) (first count : Nat) : (s.markLost first count).chip.now = s.chip.now := by
  unfold State.markLost
  split
  · rfl
  · refine State.foldl_now (fun u k => ?_) _ s
    cases h : u.enterStripe (stripeOf first + k) .restart with
    | none => rfl
    | some v => exact State.enterStripe_now h

@[simp] theorem State.reportLost_now (s : State) (first count told unnumbered : Nat) :
    (s.reportLost first count told unnumbered).chip.now = s.chip.now := by
  unfold State.reportLost
  split <;> simp -implicitDefEqProofs

@[simp] theorem State.mount_now (s : State) : s.mount.chip.now = s.chip.now := by
  unfold State.mount
  simp only [State.onChip_chip, Chip.lateComparators_now]
  split <;> simp -implicitDefEqProofs

@[simp] theorem State.resumeRecorder_now (s : State) : s.resumeRecorder.chip.now = s.chip.now := by
  unfold State.resumeRecorder
  split
  · rfl
  split <;> simp -implicitDefEqProofs

theorem State.now_ite {p : Prop} [Decidable p] (s t : State) :
    (if p then s else t).chip.now = if p then s.chip.now else t.chip.now := apply_ite (fun u : State => u.chip.now) _ _ _

@[simp] theorem State.returnBlock_now (s : State) (r i : Nat) : (s.returnBlock r i).chip.now = s.chip.now := by
  unfold State.returnBlock
  simp -implicitDefEqProofs [State.now_ite, Chip.wantPanel_now]

@[simp] theorem State.returnsTick_now (s : State) : s.returnsTick.chip.now = s.chip.now := by
  unfold State.returnsTick
  split
  · rfl
  · exact State.foldl_now (fun u (e : Nat × Nat) => u.returnBlock_now e.1 e.2) _ _

@[simp] theorem State.selectTick_now (s : State) : s.selectTick.chip.now = s.chip.now := by
  unfold State.selectTick
  split <;> simp -implicitDefEqProofs

theorem State.idle_now (s : State) : s.idle.chip.now = s.chip.now + 1 := by
  simp -implicitDefEqProofs [State.idle]

@[simp] theorem Chip.calendarTick_xfer (c : Chip) : c.calendarTick.xfer = c.xfer := by
  have hleap : ∀ d : Chip, (d.put calAt Cal.leap_now 0).xfer = d.xfer := fun _ => rfl
  unfold Chip.calendarTick
  split
  · rfl
  · exact Chip.when_xfer hleap _ _

@[simp] theorem Chip.calendarTick_sys (c : Chip) : c.calendarTick.sys = c.sys := by
  have hleap : ∀ d : Chip, (d.put calAt Cal.leap_now 0).sys = d.sys := fun _ => rfl
  unfold Chip.calendarTick
  split
  · rfl
  · exact Chip.when_sys hleap _ _

@[simp] theorem Chip.tickOnce_xfer (c : Chip) : c.tickOnce.xfer = c.xfer := by
  simp -implicitDefEqProofs [Chip.tickOnce]

@[simp] theorem Chip.tickOnce_sys (c : Chip) : c.tickOnce.sys = c.sys := by
  simp -implicitDefEqProofs [Chip.tickOnce]

theorem State.returnsTick_of_nil {s : State} (h : s.chip.sys.returns = []) :
    s.returnsTick = s ∨ s.returnsTick = s.onChip (fun c => c.setSys (fun y => { y with returns := [] })) := by
  unfold State.returnsTick
  split
  · exact .inl rfl
  · exact .inr (by rw [h]; rfl)

/-- With no record of a slot selection under way and no block to return, a tick leaves the flash alone. -/
theorem State.idle_flash {s : State} (hw : s.chip.xfer.writing = none) (hr : s.chip.sys.returns = []) : s.idle.flash = s.flash := by
  have hselect : ∀ t : State, t.chip.xfer.writing = none → t.selectTick.flash = t.flash := fun t h => by
    rw [State.selectTick, h]
  have hreturns : (s.onChip Chip.tickOnce).chip.sys.returns = [] := by simp [hr]
  unfold State.idle
  obtain h | h := State.returnsTick_of_nil hreturns <;> rw [h]
  · exact hselect _ (by simp [hw])
  · exact hselect _ (by simp [hw])

/-- Settles O55: the two cases of the step; a tick's time and stores are those of its three parts. -/
theorem stepRunsTheFront : Obligations.StepRunsTheFront := fun s =>
  ⟨fun _ _ => rfl, fun h => ⟨s.idle, by rw [step, h], (State.Keeps.idle (.refl s)).pending.trans h, s.idle_now, State.idle_flash⟩⟩

end Sys2Proof.Machine
end

section
/-! SUPPORT. O60: the state after reset. -/

namespace Sys2Proof.Machine
/-- Settles O60: the state after reset is a literal, so its stores and words evaluate. -/
theorem resetState : Obligations.ResetState := by
  refine ⟨rfl, rfl, rfl, rfl, ?_, ?_, fun a => ?_, ?_, ?_, ?_⟩
  · decide +kernel
  · decide +kernel
  · rfl
  · decide +kernel
  · decide +kernel
  · decide +kernel
end Sys2Proof.Machine
end

section
/-! SUPPORT. Blocks that only evaluate: the shape of a ready invocation and the run it makes; with it O47, the logic and
comparison blocks (Tables 7.1 and 7.2). -/

namespace Sys2Proof.Machine

/-! ### The shape of a ready invocation -/

section
variable {s : State} {b : Blk} {q : Nat} {i : Inv} {ty p n : Nat} {ins : List (Nat × Nat)} {os : List Nat}

theorem Ready.sig_of_fix (h : Ready s b q i ty) (hraw : rawSig b ty = sigFix p n ins os) : i.sig = ⟨p, n, ins, os⟩ := by
  have hsig := h.rawSig_eq
  rw [hraw] at hsig
  exact (Option.some.inj hsig).symm

theorem Ready.sig_of_var {t lo hi : Nat} (h : Ready s b q i ty) (hraw : rawSig b ty = sigVar p n ins t lo hi os) :
    ∃ m, lo ≤ m ∧ i.sig = ⟨p, n, ins ++ inps m t, os⟩ := by
  have hsig := h.rawSig_eq
  rw [hraw, sigVar] at hsig
  split at hsig
  · next hc =>
    simp only [Bool.and_eq_true, decide_eq_true_eq] at hc
    exact ⟨_, hc.1.2, (Option.some.inj hsig).symm⟩
  · cases hsig

end

/-- A ready invocation of a block that only evaluates has run with what the evaluation gives. -/
theorem Ready.ran_of {s : State} {b : Blk} {q : Nat} {i : Inv} {ty : Nat} (h : Ready s b q i ty) {f : Ctx → Res} {st outs : List Nat}
    (hf : f (s.chip.ctx i ty) = { st := st, outs := outs }) (hst : i.sig.s ≤ st.length) (houts : outs.length = i.sig.outs.length) :
    Ran s (s.onChip fun c => c.invoke b f q) i st outs [] := by
  obtain ⟨t, ht, hran⟩ := h.ran_invoke hf hst houts
  obtain rfl := Host.Outcome.next.inj ht
  exact hran

/-- A block whose evaluation gives the stated state words and outputs, as many as its signature has, runs as stated. -/
theorem runs_of {b : Blk} {cmd : Fin 65536 → Instr} {f : Ctx → Res} {st outs : Ctx → List Nat}
    (hexec : ∀ q s, exec (cmd q) s = chipOnly s (fun c => c.invoke b f q.val))
    (hf : ∀ {s : State} {q : Nat} {i : Inv} {ty : Nat}, Ready s b q i ty →
      f (s.chip.ctx i ty) = { st := st (s.chip.ctx i ty), outs := outs (s.chip.ctx i ty) } ∧
        i.sig.s ≤ (st (s.chip.ctx i ty)).length ∧ (outs (s.chip.ctx i ty)).length = i.sig.outs.length) : Runs b cmd st outs := by
  intro s q i ty h _
  obtain ⟨hres, hst, houts⟩ := hf h
  rw [hexec]
  exact h.ran_invoke hres hst houts

section
variable {b : Blk} {cmd : Fin 65536 → Instr} {f : Ctx → Res} {st outs : Ctx → List Nat} {p n : Nat}
  {ins : Nat → List (Nat × Nat)} {os : Nat → List Nat}

theorem runs_of_fix (hexec : ∀ q s, exec (cmd q) s = chipOnly s (fun c => c.invoke b f q.val))
    (hraw : ∀ ty, rawSig b ty = sigFix p n (ins ty) (os ty)) (hf : ∀ x, f x = { st := st x, outs := outs x })
    (hst : ∀ x, (st x).length = n) (houts : ∀ x ty, (outs x).length = (os ty).length) : Runs b cmd st outs :=
  runs_of hexec fun h => ⟨hf _, by rw [h.sig_of_fix (hraw _), hst], by rw [h.sig_of_fix (hraw _), houts]⟩

/-- The same of a block without state words. -/
theorem gives_of_fix (hexec : ∀ q s, exec (cmd q) s = chipOnly s (fun c => c.invoke b f q.val))
    (hraw : ∀ ty, rawSig b ty = sigFix p 0 (ins ty) (os ty)) (hf : ∀ x, f x = outsOnly (outs x))
    (houts : ∀ x ty, (outs x).length = (os ty).length) : Gives b cmd outs := runs_of_fix hexec hraw hf (fun _ => rfl) houts

/-- The same of a block with a variable number of inputs. -/
theorem gives_of_var {t : Nat → Nat} {lo hi : Nat} (hexec : ∀ q s, exec (cmd q) s = chipOnly s (fun c => c.invoke b f q.val))
    (hraw : ∀ ty, rawSig b ty = sigVar p 0 (ins ty) (t ty) lo hi (os ty)) (hf : ∀ x, f x = outsOnly (outs x))
    (houts : ∀ x ty, (outs x).length = (os ty).length) : Gives b cmd outs :=
  runs_of hexec fun h => by
    obtain ⟨m, -, hsig⟩ := h.sig_of_var (hraw _)
    exact ⟨hf _, by simp [hsig], by rw [hsig, houts]⟩

end

theorem length_ite {α : Type} {p : Prop} [Decidable p] {l m : List α} {n : Nat} (hl : l.length = n) (hm : m.length = n) :
    (if p then l else m).length = n := by
  split
  · exact hl
  · exact hm

theorem b2n_eq_ite (p : Prop) [Decidable p] {b : Bool} (h : b = true ↔ p) : b2n b = if p then 1 else 0 := by
  simp [b2n, h]

theorem b2n_testBit (v k : Nat) : b2n (v.testBit k) = v / 2 ^ k % 2 := by
  rw [Nat.testBit_eq_decide_div_mod_eq]
  have := Nat.mod_two_eq_zero_or_one (v / 2 ^ k)
  rcases this with h | h <;> simp [b2n, h]

theorem packBits_eq_foldr (l : List Nat) : packBits l = l.foldr (fun v n => (if v = 0 then 0 else 1) + 2 * n) 0 := by
  induction l with
  | nil => rfl
  | cons v vs ih => simp [packBits, ih]

theorem intOf_two (v : Nat) : intOf 2 v = signed 32 v := (rfl)

/-! ### Comparisons -/

theorem cmpFn_eq {onReal : Nat → Nat → Bool} {onInt : Int → Int → Bool} {holds : Int → Int → Prop} [∀ a b, Decidable (holds a b)]
    (h : ∀ a b, onInt a b = true ↔ holds a b) (x : Ctx) :
    cmpFn onReal onInt x = outsOnly
      (if x.t = 4 then (if rNaN (x.i 0) = true ∨ rNaN (x.i 1) = true then [0] else [if onReal (x.r 0) (x.r 1) = true then 1 else 0])
      else [if holds (intOf x.t (x.i 0)) (intOf x.t (x.i 1)) then 1 else 0]) := by
  unfold cmpFn
  by_cases ht : x.t = 4
  · cases h0 : rNaN (x.i 0) <;> cases h1 : rNaN (x.i 1) <;> simp_all [b2n]
  · simp [ht, b2n, h]

theorem compares_of {b : Blk} {cmd : Fin 65536 → Instr} {onReal : Nat → Nat → Bool} {onInt : Int → Int → Bool}
    {holds : Int → Int → Prop} [∀ a b, Decidable (holds a b)]
    (hexec : ∀ q s, exec (cmd q) s = chipOnly s (fun c => c.invoke b (cmpFn onReal onInt) q.val))
    (hraw : ∀ ty, rawSig b ty = sigFix 0 0 [inp ty, inp ty] [0]) (h : ∀ a b, onInt a b = true ↔ holds a b) :
    Compares b cmd onReal holds :=
  gives_of_fix hexec hraw (cmpFn_eq h) fun _ _ => length_ite (length_ite rfl rfl) rfl

theorem cmphFn_eq (x : Ctx) : cmphFn x = outsOnly
    [if rNaN (x.r 0) = true ∨ rNaN (x.r 1) = true ∨ rNaN (x.r 2) = true then (if x.o 0 = 0 then 0 else 1)
      else if rLe (x.r 1) (x.r 0) = true then 1
      else if rLt (x.r 0) (rSub (x.r 1) (if rLt (x.r 2) 0 = true then 0 else x.r 2)) = true then 0
      else if x.o 0 = 0 then 0 else 1,
    if rLt (x.r 2) 0 = true then 1 else 0] := by
  have hob : b2n (x.ob 0) = if x.o 0 = 0 then 0 else 1 := by
    by_cases h : x.o 0 = 0 <;> simp_all [Ctx.ob, Ctx.o, b2n]
  simp only [cmphFn, Bool.or_eq_true, or_assoc, apply_ite b2n, hob]
  rfl

theorem shiftFn_eq (x : Ctx) : shiftFn x = outsOnly
    [if 32 ≤ (signed 32 (x.i 1)).natAbs then 0
      else if 0 ≤ signed 32 (x.i 1) then x.i 0 * 2 ^ (signed 32 (x.i 1)).toNat % 2 ^ 32
      else x.i 0 / 2 ^ (-signed 32 (x.i 1)).toNat] := by
  simp only [shiftFn, intOf_two, Nat.shiftLeft_eq, Nat.shiftRight_eq_div_pow]
  split
  · rfl
  split
  · next h => rw [show (signed 32 (x.i 1)).natAbs = (signed 32 (x.i 1)).toNat by omega]
  · next h => rw [show (signed 32 (x.i 1)).natAbs = (-signed 32 (x.i 1)).toNat by omega]

theorem bitFn_eq (x : Ctx) : bitFn x = outsOnly
    (if 0 ≤ signed 32 (x.i 1) ∧ signed 32 (x.i 1) ≤ 31 then [x.i 0 / 2 ^ (signed 32 (x.i 1)).toNat % 2, 0] else [0, 1]) := by
  by_cases h : 0 ≤ signed 32 (x.i 1) ∧ signed 32 (x.i 1) ≤ 31 <;> simp [bitFn, intOf_two, b2n_testBit, h]

/-- UNPACK has as many outputs as the invocation binds. -/
theorem Ready.outs_unpack {s : State} {q : Nat} {i : Inv} {ty : Nat} (h : Ready s .unpack q i ty) :
    i.sig.s = 0 ∧ (s.chip.ctx i ty).old.length = i.sig.outs.length := by
  have hsig := h.rawSig_eq
  unfold rawSig at hsig
  simp only [] at hsig
  split at hsig
  · exact ⟨by rw [← Option.some.inj hsig], by simp [Chip.ctx, Chip.instOuts]⟩
  · cases hsig

theorem runs_unpack : Gives .unpack Instr.runUnpack (fun x => (List.range x.old.length).map (fun k => x.i 0 / 2 ^ k % 2)) :=
  runs_of (f := unpackFn) (fun _ _ => rfl) fun h => by
    obtain ⟨hs, hlen⟩ := h.outs_unpack
    exact ⟨by simp only [unpackFn, b2n_testBit]; rfl, by simp [hs], by simp [hlen]⟩

/-- Settles O47: each block's function, from the model's to the table's terms. -/
theorem logicAndComparisonBlocks : Obligations.LogicAndComparisonBlocks := by
  refine ⟨gives_of_var (f := andFn) (fun _ _ => rfl) (fun _ => rfl) (fun x => ?_) (fun _ _ => rfl),
    gives_of_var (f := orFn) (fun _ _ => rfl) (fun _ => rfl) (fun x => ?_) (fun _ _ => rfl),
    gives_of_var (f := xorFn) (fun _ _ => rfl) (fun _ => rfl) (fun x => ?_) (fun _ _ => rfl),
    gives_of_fix (f := notFn) (fun _ _ => rfl) (fun _ => rfl) (fun x => ?_) (fun _ _ => rfl),
    gives_of_var (f := wandFn) (fun _ _ => rfl) (fun _ => rfl) (fun x => ?_) (fun _ _ => rfl),
    gives_of_var (f := worFn) (fun _ _ => rfl) (fun _ => rfl) (fun x => ?_) (fun _ _ => rfl),
    gives_of_var (f := wxorFn) (fun _ _ => rfl) (fun _ => rfl) (fun x => ?_) (fun _ _ => rfl),
    gives_of_fix (f := wnotFn) (fun _ _ => rfl) (fun _ => rfl) (fun _ => rfl) (fun _ _ => rfl),
    gives_of_fix (f := shiftFn) (fun _ _ => rfl) (fun _ => rfl) shiftFn_eq (fun _ _ => rfl),
    gives_of_fix (f := bitFn) (fun _ _ => rfl) (fun _ => rfl) bitFn_eq (fun _ _ => length_ite rfl rfl),
    gives_of_var (f := packFn) (fun _ _ => rfl) (fun _ => rfl) (fun x => ?_) (fun _ _ => rfl), runs_unpack,
    compares_of (fun _ _ => rfl) (fun _ => rfl) (fun _ _ => beq_iff_eq),
    compares_of (fun _ _ => rfl) (fun _ => rfl) (fun _ _ => bne_iff_ne),
    compares_of (fun _ _ => rfl) (fun _ => rfl) (fun _ _ => decide_eq_true_iff),
    compares_of (fun _ _ => rfl) (fun _ => rfl) (fun _ _ => decide_eq_true_iff),
    compares_of (fun _ _ => rfl) (fun _ => rfl) (fun _ _ => decide_eq_true_iff),
    compares_of (fun _ _ => rfl) (fun _ => rfl) (fun _ _ => decide_eq_true_iff),
    gives_of_fix (f := cmphFn) (fun _ _ => rfl) (fun _ => rfl) cmphFn_eq (fun _ _ => rfl)⟩
  · rw [andFn, b2n_eq_ite (∀ v ∈ x.ins, v ≠ 0) (by simp)]
  · rw [orFn, b2n_eq_ite (∃ v ∈ x.ins, v ≠ 0) (by simp)]
  · rw [xorFn, List.countP_eq_length_filter]
  · rw [notFn, b2n_eq_ite (x.i 0 = 0) (by simp [Ctx.b, Ctx.i])]
  · rw [wandFn, List.foldl_eq_foldr]
  · rw [worFn, List.foldl_eq_foldr]
  · rw [wxorFn, List.foldl_eq_foldr]
  · rw [packFn, packBits_eq_foldr]

end Sys2Proof.Machine
end

section
/-! SUPPORT. O48: the arithmetic blocks (Table 7.3). -/

namespace Sys2Proof.Machine

/-! ### What an evaluation sees -/

section
variable {s : State} {b : Blk} {q : Nat} {i : Inv} {ty : Nat}

/-- An evaluation sees one value for each input of its signature. -/
theorem Ready.ins_length (h : Ready s b q i ty) : (s.chip.ctx i ty).ins.length = i.sig.ins.length := by
  have hknown := h.known
  have hlen : i.sig.ins.length = i.ins.length := by
    unfold sigOf at hknown
    simp only [Chip.blkOf_of_mayRun h.runs, h.rawSig_eq] at hknown
    split at hknown
    · next hc =>
      simp only [Bool.and_eq_true, decide_eq_true_eq] at hc
      exact hc.1
    · cases hknown
  simp [Chip.ctx, Chip.inputs, hlen]

theorem Ready.ins_ne_nil (h : Ready s b q i ty) (hins : i.sig.ins ≠ []) : (s.chip.ctx i ty).ins ≠ [] :=
  fun hnil => hins (List.length_eq_zero_iff.1 (by rw [← h.ins_length, hnil]; rfl))

theorem Ready.par_length (_ : Ready s b q i ty) : (s.chip.ctx i ty).par.length = i.sig.p := by simp [Chip.ctx]

end

/-- A REAL32 result and its x, as outputs. -/
theorem realOut_eq (nan : Bool) (old r : Nat) : [(realOut nan old r).1, b2n (realOut nan old r).2] =
    if nan = true ∨ rBad r = true then [old, 1] else [rFlush r, 0] := by
  cases nan <;> cases h : rBad r <;> simp [realOut, h, b2n]

theorem b2n_eq (b : Bool) : b2n b = if b = true then 1 else 0 := rfl

/-- A sum or product over integers, each partial result saturated, as a fold over the list. -/
theorem foldInt_eq_foldl (t : Nat) (op : Int → Int → Int) (vs : List Int) (a : Int × Bool) :
    foldInt t op vs a = vs.foldl (fun (a : Int × Bool) v => (clampI (tyMin t) (tyMax t) (op a.1 v), a.2 || outOfRange t (op a.1 v))) a := by
  induction vs generalizing a with
  | nil => rfl
  | cons v vs ih => exact ih _

theorem foldFn_eq {onReal : Nat → Nat → Nat} {onInt : Int → Int → Int} {x : Ctx} (h : x.ins ≠ []) :
    foldFn onReal onInt x = outsOnly (if x.t = 4 then
      (if x.ins.any rNaN = true ∨ rBad ((x.ins.tail.map rFlush).foldl onReal (x.r 0)) = true then [x.o 0, 1]
        else [rFlush ((x.ins.tail.map rFlush).foldl onReal (x.r 0)), 0])
      else
        let r := (x.ins.tail.map (intOf x.t)).foldl
          (fun (a : Int × Bool) v => (clampI (tyMin x.t) (tyMax x.t) (onInt a.1 v), a.2 || outOfRange x.t (onInt a.1 v)))
          (intOf x.t (x.i 0), false)
        [satEnc x.t r.1, if r.2 = true then 1 else 0]) := by
  obtain ⟨a, rest, hins⟩ := List.exists_cons_of_ne_nil h
  have hr : x.r 0 = rFlush a := by simp [Ctx.r, nth, hins]
  have hi : x.i 0 = a := by simp [Ctx.i, nth, hins]
  unfold foldFn
  rw [hins]
  by_cases ht : x.t = 4
  · simp only [if_pos ht, List.tail_cons, hr, realOut_eq]
  · simp only [if_neg ht, List.tail_cons, hi, foldInt_eq_foldl, b2n_eq]

theorem computes_fold {b : Blk} {cmd : Fin 65536 → Instr} {onReal : Nat → Nat → Nat} {onInt : Int → Int → Int}
    (hexec : ∀ q s, exec (cmd q) s = chipOnly s (fun c => c.invoke b (foldFn onReal onInt) q.val))
    (hsig : ∀ {s : State} {q : Nat} {i : Inv} {ty : Nat}, Ready s b q i ty → i.sig.s = 0 ∧ i.sig.ins ≠ [] ∧ i.sig.outs = [ty, 0]) :
    Computes b cmd (fun x => x.ins.any rNaN) (fun x => (x.ins.tail.map rFlush).foldl onReal (x.r 0))
      (fun x => (x.ins.tail.map (intOf x.t)).foldl
        (fun (a : Int × Bool) v => (clampI (tyMin x.t) (tyMax x.t) (onInt a.1 v), a.2 || outOfRange x.t (onInt a.1 v)))
        (intOf x.t (x.i 0), false)) := by
  unfold Computes Gives
  refine runs_of hexec fun h => ?_
  obtain ⟨hs, hins, houts⟩ := hsig h
  refine ⟨foldFn_eq (h.ins_ne_nil hins), by simp [hs], ?_⟩
  rw [houts]
  exact length_ite (length_ite rfl rfl) rfl

theorem Ready.sig_sumVar {s : State} {b : Blk} {q : Nat} {i : Inv} {ty : Nat} (h : Ready s b q i ty)
    (hraw : rawSig b ty = sigVar 0 0 [] ty 2 8 [ty, 0]) : i.sig.s = 0 ∧ i.sig.ins ≠ [] ∧ i.sig.outs = [ty, 0] := by
  obtain ⟨m, hm, hsig⟩ := h.sig_of_var hraw
  rw [hsig]
  refine ⟨rfl, fun hnil => ?_, rfl⟩
  have hlen := congrArg List.length hnil
  simp [inps] at hlen
  omega

/-- A function of one value. -/
theorem unaryFn_eq (onReal : Nat → Nat) (onInt : Int → Int) (x : Ctx) : unaryFn onReal onInt x = outsOnly (if x.t = 4 then
    (if rNaN (x.i 0) = true ∨ rBad (onReal (x.r 0)) = true then [x.o 0, 1] else [rFlush (onReal (x.r 0)), 0])
    else [satEnc x.t (onInt (intOf x.t (x.i 0))), if outOfRange x.t (onInt (intOf x.t (x.i 0))) = true then 1 else 0]) := by
  by_cases ht : x.t = 4
  · simp only [unaryFn, if_pos ht, realOut_eq]
  · simp only [unaryFn, if_neg ht, b2n_eq]

theorem divFn_eq (x : Ctx) : divFn x = outsOnly (if x.t = 4 then
    (if x.ins.any rNaN = true ∨ rBad (rDiv (x.r 0) (x.r 1)) = true then [x.o 0, 1] else [rFlush (rDiv (x.r 0) (x.r 1)), 0])
    else if intOf x.t (x.i 1) = 0 then [x.o 0, 1]
    else [satEnc x.t ((intOf x.t (x.i 0)).tdiv (intOf x.t (x.i 1))),
      if outOfRange x.t ((intOf x.t (x.i 0)).tdiv (intOf x.t (x.i 1))) = true then 1 else 0]) := by
  by_cases ht : x.t = 4
  · simp only [divFn, if_pos ht, realOut_eq]
  · simp only [divFn, if_neg ht, b2n_eq]
    split <;> rfl

theorem modFn_eq (x : Ctx) : modFn x = outsOnly
    (if intOf x.t (x.i 1) = 0 then [x.o 0, 1] else [satEnc x.t ((intOf x.t (x.i 0)).tmod (intOf x.t (x.i 1))), 0]) := by
  simp only [modFn]
  split <;> rfl

theorem extremeFn_eq (onReal : Nat → Nat → Nat) (onInt : Int → Int → Int) (x : Ctx) : extremeFn onReal onInt x = outsOnly
    (if x.t = 4 then
      (match (x.ins.filter (fun v => !rNaN v)).map rFlush with
        | [] => [x.o 0, 1]
        | a :: rest => if rBad (rest.foldl onReal a) = true then [x.o 0, 1] else [rFlush (rest.foldl onReal a), 0])
    else (match x.ins.map (intOf x.t) with
      | [] => [x.o 0, 1]
      | a :: rest => [satEnc x.t (rest.foldl onInt a), 0])) := by
  unfold extremeFn
  by_cases ht : x.t = 4
  · simp only [if_pos ht, realOut_eq]
    cases (x.ins.filter (fun v => !rNaN v)).map rFlush <;> simp
  · simp only [if_neg ht]
    cases x.ins.map (intOf x.t) <;> rfl

theorem gives_extreme {b : Blk} {cmd : Fin 65536 → Instr} {onReal : Nat → Nat → Nat} {onInt : Int → Int → Int}
    (hexec : ∀ q s, exec (cmd q) s = chipOnly s (fun c => c.invoke b (extremeFn onReal onInt) q.val))
    (hraw : ∀ ty, rawSig b ty = sigVar 0 0 [] ty 2 8 [ty, 0]) :
    Gives b cmd (fun x =>
      if x.t = 4 then
        (match (x.ins.filter (fun v => !rNaN v)).map rFlush with
          | [] => [x.o 0, 1]
          | a :: rest => if rBad (rest.foldl onReal a) = true then [x.o 0, 1] else [rFlush (rest.foldl onReal a), 0])
      else (match x.ins.map (intOf x.t) with
        | [] => [x.o 0, 1]
        | a :: rest => [satEnc x.t (rest.foldl onInt a), 0])) :=
  gives_of_var hexec hraw (extremeFn_eq onReal onInt) fun x _ => by
    refine length_ite ?_ ?_
    · split
      · rfl
      · exact length_ite rfl rfl
    · split <;> rfl

theorem sqrtFn_eq (x : Ctx) : sqrtFn x = outsOnly (if rLt (x.r 0) 0 = true then [0, 1]
    else if rNaN (x.i 0) = true ∨ rBad (rSqrt (x.r 0)) = true then [x.o 0, 1] else [rFlush (rSqrt (x.r 0)), 0]) := by
  simp only [sqrtFn, realOut_eq]
  split <;> rfl

theorem lnFn_eq (x : Ctx) : lnFn x = outsOnly (if rLe (x.r 0) 0 = true ∨ rNaN (x.i 0) = true ∨ rBad (rLn (x.r 0)) = true
    then [x.o 0, 1] else [rFlush (rLn (x.r 0)), 0]) := by
  simp only [lnFn, realOut_eq]
  by_cases h : rLe (x.r 0) 0 = true <;> simp [h]

/-- POLY is Horner's rule on its six coefficients. -/
theorem polyFn_eq {x : Ctx} (h : x.par.length = 6) :
    let k := fun j => rFlush (x.p j)
    let r := rAdd (k 0) (rMul (x.r 0) (rAdd (k 1) (rMul (x.r 0) (rAdd (k 2) (rMul (x.r 0) (rAdd (k 3)
      (rMul (x.r 0) (rAdd (k 4) (rMul (x.r 0) (k 5))))))))))
    polyFn x = outsOnly
      (if rNaN (x.i 0) = true ∨ (List.range 6).any (fun j => rNaN (k j)) = true ∨ rBad r = true then [x.o 0, 1]
        else [rFlush r, 0]) := by
  have hpar : (x.par.take 6).map rFlush = (List.range 6).map (fun j => rFlush (x.p j)) := by
    rw [List.take_of_length_le h.le, ← h]
    refine List.ext_getElem (by simp) fun j hj _ => ?_
    simp at hj
    simp [Ctx.p, nth, hj]
  simp only [polyFn, hpar, realOut_eq, Bool.or_eq_true, or_assoc]
  rfl

/-- Settles O48: each block's function; sums and products as folds, POLY by Horner's rule. -/
theorem arithmeticBlocks : Obligations.ArithmeticBlocks := by
  refine ⟨fun b cmd onReal onInt h => ?_, gives_of_fix (f := divFn) (fun _ _ => rfl) (fun _ => rfl) divFn_eq
      (fun _ _ => length_ite (length_ite rfl rfl) (length_ite rfl rfl)),
    gives_of_fix (f := modFn) (fun _ _ => rfl) (fun _ => rfl) modFn_eq (fun _ _ => length_ite rfl rfl),
    gives_of_fix (f := absFn) (fun _ _ => rfl) (fun _ => rfl) (unaryFn_eq _ _)
      (fun _ _ => length_ite (length_ite rfl rfl) rfl),
    gives_of_fix (f := negFn) (fun _ _ => rfl) (fun _ => rfl) (unaryFn_eq _ _)
      (fun _ _ => length_ite (length_ite rfl rfl) rfl), fun b cmd onReal onInt h => ?_,
    gives_of_fix (f := sqrtFn) (fun _ _ => rfl) (fun _ => rfl) sqrtFn_eq
      (fun _ _ => length_ite rfl (length_ite rfl rfl)),
    gives_of_fix (f := lnFn) (fun _ _ => rfl) (fun _ => rfl) lnFn_eq (fun _ _ => length_ite rfl rfl),
    gives_of_fix (f := expFn) (fun _ _ => rfl) (fun _ => rfl) (fun x => congrArg outsOnly (realOut_eq _ _ _)) (fun _ _ => length_ite rfl rfl),
    gives_of_fix (f := powFn) (fun _ _ => rfl) (fun _ => rfl) (fun x => congrArg outsOnly (realOut_eq _ _ _)) (fun _ _ => length_ite rfl rfl),
    fun s q i ty h => ?_⟩
  · simp only [List.mem_cons, Prod.mk.injEq, List.not_mem_nil, or_false] at h
    obtain ⟨rfl, rfl, rfl, rfl⟩ | ⟨rfl, rfl, rfl, rfl⟩ | ⟨rfl, rfl, rfl, rfl⟩ := h
    · exact computes_fold (fun _ _ => rfl) fun h => h.sig_sumVar rfl
    · exact computes_fold (fun _ _ => rfl) fun h => by rw [h.sig_of_fix rfl]; simp
    · exact computes_fold (fun _ _ => rfl) fun h => h.sig_sumVar rfl
  · simp only [List.mem_cons, Prod.mk.injEq, List.not_mem_nil, or_false] at h
    obtain ⟨rfl, rfl, rfl, rfl⟩ | ⟨rfl, rfl, rfl, rfl⟩ := h
    · exact gives_extreme (fun _ _ => rfl) (fun _ => rfl)
    · exact gives_extreme (fun _ _ => rfl) (fun _ => rfl)
  · have hsig := h.sig_of_fix (p := 6) (n := 0) (ins := [inp 4]) (os := [4, 0]) rfl
    exact h.ran_invoke (f := polyFn) (polyFn_eq (by rw [h.par_length, hsig])) (by simp [hsig]) (by rw [hsig]; exact length_ite rfl rfl)

end Sys2Proof.Machine
end

section
/-! SUPPORT. O49: selection, scaling, conversion and alarm blocks (Tables 7.4, 7.7 and 7.9). -/

namespace Sys2Proof.Machine

/-! ### Copies, clamps and scaling -/

theorem copyOut_fst (t old v : Nat) : (copyOut t old v).1 = if t = 4 then keepBad false old v else v := by
  unfold copyOut
  split
  · exact realOut_fst false old v
  · rfl

theorem copyOut_snd (t old v : Nat) : (copyOut t old v).2 = (decide (t = 4) && rBad v) := by
  unfold copyOut realOut
  by_cases ht : t = 4 <;> cases hv : rBad v <;> simp_all

theorem selFn_eq (x : Ctx) : selFn x = outsOnly
    [let v := if x.i 0 = 0 then x.i 1 else x.i 2
     if x.t = 4 then keepBad false (x.o 0) v else v] := by
  have hsel : (if x.b 0 = true then x.i 2 else x.i 1) = if x.i 0 = 0 then x.i 1 else x.i 2 := by
    by_cases h : x.i 0 = 0 <;> simp [x.b_eq_true_iff, h]
  simp only [selFn, copyOut_fst, hsel]

theorem muxFn_eq (x : Ctx) : muxFn x = outsOnly
    (let k := signed 32 (x.i 0)
     let n : Int := (x.ins.length : Int) - 1
     let kk := clampI 0 (n - 1) k
     let v := x.i (1 + kk.toNat)
     [if x.t = 4 then keepBad false (x.o 0) v else v, if k ≠ kk ∨ (x.t = 4 ∧ rBad v = true) then 1 else 0]) := by
  have hx : ∀ (t old v : Nat) (k kk : Int), b2n ((copyOut t old v).2 || kk != k) = if k ≠ kk ∨ (t = 4 ∧ rBad v = true) then 1 else 0 :=
    fun t old v k kk => b2n_eq_ite _ (by
      rw [Bool.or_eq_true, copyOut_snd, bne_iff_ne, Bool.and_eq_true, decide_eq_true_eq, or_comm, ne_comm])
  simp only [muxFn, intOf_two, copyOut_fst, hx]

theorem limitFn_eq (x : Ctx) : limitFn x = outsOnly
    (if x.t = 4 then
      (let hi := if rLt (x.r 2) (x.r 0) = true then x.r 0 else x.r 2
       let mm := if rLt (x.r 2) (x.r 0) = true then 1 else 0
       let v := rClamp (x.r 0) hi (x.r 1)
       if x.ins.any rNaN = true then [x.o 0, x.o 1, mm]
       else [keepBad false (x.o 0) v, if rEq v (x.r 1) = true then 0 else 1, mm])
    else
      (let lo := intOf x.t (x.i 0)
       let hi := max lo (intOf x.t (x.i 2))
       let v := min (max (intOf x.t (x.i 1)) lo) hi
       [satEnc x.t v, if v = intOf x.t (x.i 1) then 0 else 1, if intOf x.t (x.i 2) < lo then 1 else 0])) := by
  have hnot : ∀ b : Bool, b2n (!b) = if b = true then 0 else 1 := fun b => by cases b <;> rfl
  by_cases ht : x.t = 4
  · simp only [limitFn, if_pos ht, realOut_fst, hnot, b2n_eq]
    split <;> rfl
  · have hhi : (if intOf x.t (x.i 2) < intOf x.t (x.i 0) then intOf x.t (x.i 0) else intOf x.t (x.i 2)) =
        max (intOf x.t (x.i 0)) (intOf x.t (x.i 2)) := by
      split <;> omega
    simp only [limitFn, if_neg ht, clampI, bne, hnot, beq_iff_eq, b2n_eq, decide_eq_true_eq, hhi]

theorem moveFn_eq (x : Ctx) : moveFn x = outsOnly
    [if x.i 0 = 0 then x.o 0 else if x.t = 4 then keepBad false (x.o 0) (x.i 1) else x.i 1] := by
  simp only [moveFn, copyOut_fst]
  by_cases h : x.i 0 = 0 <;> simp [x.b_eq_true_iff, h]

/-! ### Status words -/

theorem testBit_mod_word {v k : Nat} (hk : k < 16) : (v % 65536).testBit k = v.testBit k := by
  have h := Nat.testBit_mod_two_pow v 16 k
  simpa [hk] using h

theorem testBit_stNorm {v k : Nat} (hk : k < 16) : (stNorm v).testBit k = (v.testBit k && !(decide (k = 0) && v.testBit 7)) := by
  unfold stNorm
  cases h7 : v.testBit 7
  · simp [testBit_mod_word hk]
  · by_cases h0 : k = 0
    · simp only [h0, if_true, testBit_withBit]
      simp
    · simp [testBit_withBit, testBit_mod_word hk, h0]

theorem stNorm_bits {v k : Nat} (hk : k < 16) (h0 : k ≠ 0) : (stNorm v).testBit k = v.testBit k := by
  simp [testBit_stNorm hk, h0]

/-- A status with its bits low and high set anew, and fault set where R187 does not write the result. -/
def scaleqStatus (w : Nat) (lo hi bad : Bool) : Nat :=
  let st := withBit (withBit w stLow lo) stHigh hi
  stNorm (if bad then withBit st stFault true else st)

theorem testBit_scaleqStatus (w : Nat) (lo hi bad : Bool) {k : Nat} (hk : k < 16) (h0 : k ≠ 0) :
    (scaleqStatus w lo hi bad).testBit k =
      if k = 7 then bad || w.testBit 7 else if k = 5 then hi else if k = 4 then lo else w.testBit k := by
  rw [scaleqStatus, stNorm_bits hk h0]
  cases bad <;> simp [testBit_withBit, stLow, stHigh, stFault]
  by_cases h7 : k = 7 <;> simp [h7]

/-- SCALEQ under rule ZS and on the line, as SCALE, with where f lies and R187's refusal in the status. -/
theorem scaleqFn_eq (x : Ctx) :
    let f := rDiv (rSub (x.r 0) (x.r 2)) (rSub (x.r 3) (x.r 2))
    let zs := rEq (x.r 3) (x.r 2) = true
    let lo := zs ∨ rLt f 0 = true
    let hi := ¬ zs ∧ rLt (rOfInt 1) f = true
    let v := if zs ∨ (x.i 6 ≠ 0 ∧ lo) then x.r 4 else if x.i 6 ≠ 0 ∧ hi then x.r 5 else rAdd (x.r 4) (rMul f (rSub (x.r 5) (x.r 4)))
    scaleqFn x = outsOnly [if rBad v then x.o 0 else rFlush v, scaleqStatus (x.i 1) (decide lo) (decide hi) (rBad v),
      if zs then 1 else 0] := by
  intro f zs lo hi v
  have hscale : scaleOf (x.r 0) (x.r 2) (x.r 3) (x.r 4) (x.r 5) (x.b 6) = ⟨v, decide lo, decide hi, decide zs⟩ := by
    by_cases hz : zs
    · have hlo : lo := .inl hz
      have hhi : ¬ hi := fun h => h.1 hz
      have hv : v = x.r 4 := if_pos (.inl hz)
      rw [scaleOf, if_pos hz, hv]
      simp [hlo, hhi, hz]
    · have hlo : lo ↔ rLt f 0 = true := or_iff_right hz
      have hhi : hi ↔ rLt (rOfInt 1) f = true := and_iff_right hz
      rw [scaleOf, if_neg hz]
      simp only [v, hlo, hhi, hz, false_or, Bool.and_eq_true, x.b_eq_true_iff, Bool.decide_eq_true, decide_false]
      rfl
  have hout : ∀ w, realOut false (x.o 0) w = (if rBad w then x.o 0 else rFlush w, rBad w) := fun w => by
    cases h : rBad w <;> simp [realOut, h]
  simp only [scaleqFn, hscale, hout, b2n, decide_eq_true_eq]
  rfl

theorem runs_scaleq (s : State) (q : Fin 65536) (i : Inv) (ty : Nat) (h : Ready s .scaleq q.val i ty) :
    let x := s.chip.ctx i ty
    let f := rDiv (rSub (x.r 0) (x.r 2)) (rSub (x.r 3) (x.r 2))
    let zs := rEq (x.r 3) (x.r 2) = true
    let lo := zs ∨ rLt f 0 = true
    let hi := ¬ zs ∧ rLt (rOfInt 1) f = true
    let v := if zs ∨ (x.i 6 ≠ 0 ∧ lo) then x.r 4 else if x.i 6 ≠ 0 ∧ hi then x.r 5 else rAdd (x.r 4) (rMul f (rSub (x.r 5) (x.r 4)))
    let bad := rBad v
    ∃ t, exec (.runScaleq q) s = .next t ∧ ∃ st : Nat,
      Ran s t i [] [if bad then x.o 0 else rFlush v, st, if zs then 1 else 0] [] ∧
      (st.testBit 4 = true ↔ lo) ∧ (st.testBit 5 = true ↔ hi) ∧ (st.testBit 7 = (bad || (x.i 1).testBit 7)) ∧
      (∀ k, k < 16 → k ≠ 0 → k ≠ 4 → k ≠ 5 → k ≠ 7 → st.testBit k = (x.i 1).testBit k) := by
  intro x f zs lo hi v bad
  have hsig := h.sig_of_fix (p := 0) (n := 0) (ins := [inp 4, inp 7] ++ inps 4 4 ++ [inp 0]) (os := [4, 7, 0]) rfl
  obtain ⟨t, ht, hran⟩ := h.ran_invoke (f := scaleqFn) (scaleqFn_eq x) (by simp [hsig]) (by simp [hsig])
  refine ⟨t, ht, scaleqStatus (x.i 1) (decide lo) (decide hi) bad, hran, ?_, ?_, ?_, fun k hk h0 h4 h5 h7 => ?_⟩
  · simp [testBit_scaleqStatus]
  · simp [testBit_scaleqStatus]
  · simp [testBit_scaleqStatus]
  · simp [testBit_scaleqStatus, hk, h0, h4, h5, h7]

theorem testBit_foldl_or (l : List Nat) (k a : Nat) :
    (l.foldl (· ||| ·) a).testBit k = true ↔ a.testBit k = true ∨ ∃ v ∈ l, v.testBit k = true := by
  induction l generalizing a with
  | nil => simp
  | cons v vs ih => simp [ih, or_assoc]

theorem runs_stmerge (s : State) (q : Fin 65536) (i : Inv) (ty : Nat) (h : Ready s .stmerge q.val i ty) :
    ∃ t, exec (.runStmerge q) s = .next t ∧ ∃ st : Nat, Ran s t i [] [st] [] ∧
      (∀ k, k < 16 → k ≠ 0 → (st.testBit k = true ↔ ∃ v ∈ (s.chip.ctx i ty).ins, v.testBit k = true)) ∧
      (st.testBit 7 = false → (st.testBit 0 = true ↔ ∀ v ∈ (s.chip.ctx i ty).ins, v.testBit 0 = true)) ∧
      (st.testBit 7 = true → st.testBit 0 = false) := by
  obtain ⟨m, -, hsig⟩ := h.sig_of_var (p := 0) (n := 0) (ins := []) (t := 7) (lo := 2) (hi := 8) (os := [7]) rfl
  obtain ⟨t, ht, hran⟩ := h.ran_invoke (f := stmergeFn) rfl (by simp [hsig]) (by simp [hsig])
  refine ⟨t, ht, _, hran, fun k hk h0 => ?_, fun h7 => ?_, fun h7 => ?_⟩
  · rw [stNorm_bits hk h0, testBit_withBit, if_neg h0, show (65536 : Nat) = 2 ^ 16 from rfl, Nat.testBit_mod_two_pow]
    simp [hk, testBit_foldl_or]
  · rw [stNorm_bits (by omega) (by omega)] at h7
    rw [testBit_stNorm (by omega), h7, testBit_withBit, if_pos rfl, Bool.and_false, Bool.not_false, Bool.and_true, List.all_eq_true]
  · rw [stNorm_bits (by omega) (by omega)] at h7
    simp only [testBit_stNorm (show 0 < 16 by omega), h7, decide_true, Bool.and_true, Bool.not_true, Bool.and_false]

/-! ### Tables, conversions, stamps and alarms -/

/-- LINTAB with its widths, abscissas and ordinates named: the value at the point, unless it comes of a NaN (R197). -/
theorem lintabFn_eq {x : Ctx} (h2 : 2 ≤ x.p 0) (h12 : x.p 0 ≤ 12) {ws xs ys : List Nat}
    (hws : ws = ((x.par.drop 2).take (x.p 0 - 1)).map rFlush) (hxs : xs = lintabXs (rFlush (x.p 1)) ws)
    (hys : ys = ((x.par.drop 13).take (x.p 0)).map rFlush) {below above : Bool} (hb : rLt (x.r 0) (nth 0 xs 0) = below)
    (ha : rLt (nth 0 xs (x.p 0 - 1)) (x.r 0) = above) {v : Nat} {bad : Bool}
    (hv : (if below then (nth 0 ys 0, false) else if above then (nth 0 ys (x.p 0 - 1), false) else lintabSeek (x.r 0) xs ys) =
      (v, bad)) :
    lintabFn x = outsOnly (
      let mm := if ws.any (fun w => rLt w 0) = true then 1 else 0
      if rNaN (x.i 0) = true ∨ rNaN (nth 0 xs 0) = true ∨ bad = true then [x.o 0, x.o 1, mm]
      else [keepBad false (x.o 0) v, b2n (below || above), mm]) := by
  have hn : min (max (x.p 0) 2) 12 = x.p 0 := by omega
  simp only [lintabFn, hn, realOut_fst, Bool.or_eq_true, or_assoc, ← apply_ite outsOnly, ← hws, ← hxs, ← hys, hb, ha, hv]
  rfl

theorem runs_lintab (s : State) (q : Fin 65536) (i : Inv) (ty : Nat) (h : Ready s .lintab q.val i ty) :
    let x := s.chip.ctx i ty
    2 ≤ x.p 0 → x.p 0 ≤ 12 →
    let ws := ((x.par.drop 2).take (x.p 0 - 1)).map rFlush
    let xs := lintabXs (rFlush (x.p 1)) ws
    let ys := ((x.par.drop 13).take (x.p 0)).map rFlush
    let mm := if ws.any (fun w => rLt w 0) = true then 1 else 0
    ∃ t, exec (.runLintab q) s = .next t ∧
      (rNaN (x.i 0) = true ∨ rNaN (nth 0 xs 0) = true → Ran s t i [] [x.o 0, x.o 1, mm] []) ∧
      (rNaN (x.i 0) = false → rNaN (nth 0 xs 0) = false →
        (rLt (x.r 0) (nth 0 xs 0) = true → Ran s t i [] [keepBad false (x.o 0) (nth 0 ys 0), 1, mm] []) ∧
        (rLt (x.r 0) (nth 0 xs 0) = false → rLt (nth 0 xs (x.p 0 - 1)) (x.r 0) = true →
          Ran s t i [] [keepBad false (x.o 0) (nth 0 ys (x.p 0 - 1)), 1, mm] []) ∧
        (rLt (x.r 0) (nth 0 xs 0) = false → rLt (nth 0 xs (x.p 0 - 1)) (x.r 0) = false →
          Ran s t i [] (if (lintabSeek (x.r 0) xs ys).2 = true then [x.o 0, x.o 1, mm]
            else [keepBad false (x.o 0) (lintabSeek (x.r 0) xs ys).1, 0, mm]) [])) := by
  intro x h2 h12 ws xs ys mm
  have hsig := h.sig_of_fix (p := 25) (n := 0) (ins := [inp 4]) (os := [4, 0, 0]) rfl
  have hran : ∀ outs, lintabFn x = outsOnly outs → outs.length = 3 → Ran s _ i [] outs [] := fun outs hf hlen =>
    h.ran_of hf (by simp [hsig]) (by rw [hsig, hlen]; rfl)
  refine ⟨_, chipOnly_next s _, fun hnan => ?_, fun hi hx => ⟨fun hb => ?_, fun hb ha => ?_, fun hb ha => ?_⟩⟩
  · refine hran _ ((lintabFn_eq h2 h12 (ws := ws) (xs := xs) (ys := ys) rfl rfl rfl rfl rfl rfl).trans ?_) rfl
    exact congrArg outsOnly (if_pos (hnan.imp_right .inl))
  · refine hran _ ((lintabFn_eq h2 h12 (ws := ws) (xs := xs) (ys := ys) rfl rfl rfl hb rfl rfl).trans ?_) rfl
    exact congrArg outsOnly (if_neg (by simp [hi, hx]))
  · refine hran _ ((lintabFn_eq h2 h12 (ws := ws) (xs := xs) (ys := ys) rfl rfl rfl hb ha rfl).trans ?_) rfl
    exact congrArg outsOnly (if_neg (by simp [hi, hx]))
  · refine hran _ ((lintabFn_eq h2 h12 (ws := ws) (xs := xs) (ys := ys) rfl rfl rfl hb ha rfl).trans ?_) (length_ite rfl rfl)
    exact congrArg outsOnly (if_congr (by simp [hi, hx]) rfl rfl)

theorem convFn_eq (x : Ctx) : convFn x = outsOnly
    (if x.t % 8 = 4 then [rOfInt (intOf (x.t / 8) (x.i 0)), 0]
    else if x.t / 8 = 4 then
      (if rNaN (x.i 0) = true then [0, 1]
       else if rInf (x.i 0) = true then [satEnc (x.t % 8) (if rNeg (x.i 0) = true then tyMin (x.t % 8) else tyMax (x.t % 8)), 1]
       else [satEnc (x.t % 8) (rToIntEven (x.r 0)), if outOfRange (x.t % 8) (rToIntEven (x.r 0)) = true then 1 else 0])
    else [satEnc (x.t % 8) (intOf (x.t / 8) (x.i 0)), if outOfRange (x.t % 8) (intOf (x.t / 8) (x.i 0)) = true then 1 else 0]) := by
  simp only [convFn, b2n_eq, ← apply_ite outsOnly]

theorem calsplitFn_eq (x : Ctx) : calsplitFn x = outsOnly
    (let secs := x.i 0 / 2 ^ 24
     [(dateOf (secs / 86400)).1, (dateOf (secs / 86400)).2.1, (dateOf (secs / 86400)).2.2, secs / 3600 % 24, secs / 60 % 60, secs % 60,
      x.i 0 % 2 ^ 24 * 1000000 / 2 ^ 24]) := by
  have hh : ∀ n : Nat, n % 86400 / 3600 = n / 3600 % 24 := fun n => by omega
  have hm : ∀ n : Nat, n % 86400 / 60 % 60 = n / 60 % 60 := fun n => by omega
  have hs : ∀ n : Nat, n % 86400 % 60 = n % 60 := fun n => by omega
  simp only [calsplitFn, hh, hm, hs]

theorem almFn_eq (x : Ctx) : almFn x = outsOnly
    (let lw := rLt (x.r 2) (x.r 1) = true
     let nz := rLt (x.r 3) 0 = true
     let hi := if lw then x.r 1 else x.r 2
     let db := if nz then 0 else x.r 3
     if x.ins.any rNaN = true then [x.o 0, x.o 1, if lw ∨ nz then 1 else 0]
     else
      [if rLe (x.r 0) (x.r 1) = true then 1 else if rLt (rAdd (x.r 1) db) (x.r 0) = true ∨ x.o 0 = 0 then 0 else 1,
       if rLe hi (x.r 0) = true then 1 else if rLt (x.r 0) (rSub hi db) = true ∨ x.o 1 = 0 then 0 else 1,
       if lw ∨ nz then 1 else 0]) := by
  have hkeep : ∀ (a b : Bool) (k : Nat), b2n (if a = true then true else if b = true then false else x.ob k) =
      if a = true then 1 else if b = true ∨ x.o k = 0 then 0 else 1 := fun a b k => by
    by_cases h : x.o k = 0 <;> cases a <;> cases b <;> simp_all [Ctx.ob, Ctx.o, b2n]
  simp only [almFn, hkeep, ← apply_ite outsOnly, b2n_eq, Bool.or_eq_true]

/-- Settles O49: each block's function, from the model's to the table's terms. -/
theorem selectionAndConversionBlocks : Obligations.SelectionAndConversionBlocks :=
  ⟨gives_of_fix (f := selFn) (fun _ _ => rfl) (fun _ => rfl) selFn_eq (fun _ _ => rfl),
    gives_of_var (f := muxFn) (fun _ _ => rfl) (fun _ => rfl) muxFn_eq (fun _ _ => rfl),
    gives_of_fix (f := limitFn) (fun _ _ => rfl) (fun _ => rfl) limitFn_eq
      (fun _ _ => length_ite (length_ite rfl rfl) rfl),
    gives_of_fix (f := moveFn) (fun _ _ => rfl) (fun _ => rfl) moveFn_eq (fun _ _ => rfl), runs_scaleq, runs_lintab,
    gives_of_fix (f := convFn) (fun _ _ => rfl) (fun _ => rfl) convFn_eq
      (fun _ _ => length_ite rfl (length_ite (length_ite rfl (length_ite rfl rfl)) rfl)),
    gives_of_fix (f := castUrFn) (fun _ _ => rfl) (fun _ => rfl) (fun _ => rfl) (fun _ _ => rfl),
    gives_of_fix (f := castRuFn) (fun _ _ => rfl) (fun _ => rfl) (fun _ => rfl) (fun _ _ => rfl),
    gives_of_fix (f := castUiFn) (fun _ _ => rfl) (fun _ => rfl) (fun _ => rfl) (fun _ _ => rfl),
    gives_of_fix (f := castIuFn) (fun _ _ => rfl) (fun _ => rfl) (fun _ => rfl) (fun _ _ => rfl),
    gives_of_fix (f := stsplitFn) (fun _ _ => rfl) (fun _ => rfl) (fun x => by simp only [stsplitFn, b2n_testBit]) (fun _ _ => by simp),
    runs_stmerge, gives_of_fix (f := calsplitFn) (fun _ _ => rfl) (fun _ => rfl) calsplitFn_eq (fun _ _ => rfl),
    gives_of_fix (f := almFn) (fun _ _ => rfl) (fun _ => rfl) almFn_eq (fun _ _ => length_ite rfl rfl)⟩

end Sys2Proof.Machine
end

section
/-! SUPPORT. O51: counters, edges and latches (Table 7.6). -/

namespace Sys2Proof.Machine

/-! ### BOOLs of an evaluation -/

theorem Ctx.b_eq (x : Ctx) (k : Nat) : x.b k = decide (x.i k ≠ 0) := by
  by_cases h : x.i k = 0 <;> simp_all [Ctx.b, Ctx.i]

theorem Ctx.wb_eq (x : Ctx) (k : Nat) : x.wb k = decide (x.w k ≠ 0) := by
  by_cases h : x.w k = 0 <;> simp_all [Ctx.wb, Ctx.w]

theorem Ctx.ob_eq (x : Ctx) (k : Nat) : x.ob k = decide (x.o k ≠ 0) := by
  by_cases h : x.o k = 0 <;> simp_all [Ctx.ob, Ctx.o]

theorem b2n_decide (p : Prop) [Decidable p] : b2n (decide p) = if p then 1 else 0 := by simp [b2n]

/-- A BOOL input as a state word. -/
theorem Ctx.b2n_b (x : Ctx) (k : Nat) : b2n (x.b k) = if x.i k = 0 then 0 else 1 := by
  by_cases h : x.i k = 0 <;> simp [x.b_eq, b2n, h]

theorem Ctx.b2n_ob (x : Ctx) (k : Nat) : b2n (x.ob k) = if x.o k = 0 then 0 else 1 := by
  by_cases h : x.o k = 0 <;> simp [x.ob_eq, b2n, h]

/-- A rising edge as the model finds it. -/
theorem Ctx.rise_iff (x : Ctx) (k w : Nat) : (x.b k && !x.wb w) = true ↔ x.rise k w := by
  simp [x.b_eq, x.wb_eq, Ctx.rise]

/-! ### Counters, edges and latches -/

theorem tyMax_two : tyMax 2 = 2 ^ 31 - 1 := by decide

theorem tyMin_two : tyMin 2 = -2 ^ 31 := by decide

theorem ctuFn_eq (x : Ctx) :
    let cv := if x.i 1 ≠ 0 then 0 else if x.rise 0 0 then min (signed 32 (x.o 1) + 1) (2 ^ 31 - 1) else signed 32 (x.o 1)
    ctuFn x = { st := [if x.i 0 = 0 then 0 else 1], outs := [if signed 32 (x.i 2) ≤ cv then 1 else 0, satEnc 2 cv] } := by
  simp only [ctuFn, intOf_two, x.b2n_b, x.rise_iff, x.b_eq_true_iff, b2n_decide, tyMax_two]

theorem ctdFn_eq (x : Ctx) :
    let cv := if x.i 1 ≠ 0 then signed 32 (x.i 2) else if x.rise 0 0 then max (signed 32 (x.o 1) - 1) (-2 ^ 31) else signed 32 (x.o 1)
    ctdFn x = { st := [if x.i 0 = 0 then 0 else 1], outs := [if cv ≤ 0 then 1 else 0, satEnc 2 cv] } := by
  simp only [ctdFn, intOf_two, x.b2n_b, x.rise_iff, x.b_eq_true_iff, b2n_decide, tyMin_two]

theorem ctudFn_eq (x : Ctx) :
    let lo := signed 32 (x.i 5)
    let v := if x.i 2 ≠ 0 then 0 else if x.i 3 ≠ 0 then signed 32 (x.i 4)
      else if x.rise 0 0 ∧ ¬ x.rise 1 1 then signed 32 (x.o 2) + 1
      else if x.rise 1 1 ∧ ¬ x.rise 0 0 then signed 32 (x.o 2) - 1 else signed 32 (x.o 2)
    let cv := min (max v lo) (max lo (signed 32 (x.i 6)))
    ctudFn x = {
      st := [if x.i 0 = 0 then 0 else 1, if x.i 1 = 0 then 0 else 1]
      outs := [if signed 32 (x.i 4) ≤ cv then 1 else 0, if cv ≤ lo then 1 else 0, satEnc 2 cv,
        if signed 32 (x.i 6) < lo then 1 else 0] } := by
  have hhi : (if signed 32 (x.i 6) < signed 32 (x.i 5) then signed 32 (x.i 5) else signed 32 (x.i 6)) =
      max (signed 32 (x.i 5)) (signed 32 (x.i 6)) := by
    split <;> omega
  have hand : ∀ a b : Bool, (a && !b) = true ↔ a = true ∧ ¬ b = true := fun a b => by cases a <;> cases b <;> simp
  simp only [ctudFn, intOf_two, x.b2n_b, hand (x.b 0 && !x.wb 0), hand (x.b 1 && !x.wb 1), x.rise_iff, x.b_eq_true_iff, b2n_decide,
    decide_eq_true_eq, hhi, clampI]

theorem cntdFn_eq (x : Ctx) :
    let dv := tickDiff (x.i 0) (x.w 1)
    cntdFn x = { st := [x.now, x.i 0, x.w 2], outs := [dv, if x.i 1 ≠ 0 then 0 else (x.o 1 + dv) % 2 ^ 32,
      if x.d = 0 then x.o 2 else keepBad false (x.o 2) (rDiv (rMul (rOfInt (dv : Nat)) (rOfInt 1000000)) (rOfInt (x.d : Nat)))] } := by
  simp only [cntdFn, realOut_fst, x.b_eq_true_iff]
  rfl

theorem estampFn_eq (x : Ctx) : estampFn x =
    { st := [if x.i 0 = 0 then 0 else 1], outs := if x.rise 0 0 then [1, x.now, x.cal] else [0, x.o 1, x.o 2] } := by
  by_cases h : (x.b 0 && !x.wb 0) = true
  · simp only [estampFn, x.b2n_b, if_pos ((x.rise_iff 0 0).1 h), h]
    rfl
  · simp only [estampFn, x.b2n_b, if_neg (mt (x.rise_iff 0 0).2 h), Bool.eq_false_of_not_eq_true h]
    rfl

theorem toggleFn_eq (x : Ctx) : toggleFn x =
    { st := [if x.i 0 = 0 then 0 else 1], outs := [if x.rise 0 0 ↔ x.o 0 = 0 then 1 else 0] } := by
  have hob : b2n (!x.ob 0) = if x.o 0 = 0 then 1 else 0 := by
    by_cases h : x.o 0 = 0 <;> simp [x.ob_eq, b2n, h]
  have hiff : ∀ (a b : Prop) [Decidable a] [Decidable b],
      (if a then if b then 1 else 0 else if b then 0 else 1) = if a ↔ b then 1 else 0 := fun a b _ _ => by
    by_cases ha : a <;> by_cases hb : b <;> simp [ha, hb]
  simp only [toggleFn, x.b2n_b, x.rise_iff, apply_ite b2n, hob, x.b2n_ob, hiff]

/-- Settles O51: each block's function, from the model's to the table's terms. -/
theorem countingBlocks : Obligations.CountingBlocks := by
  refine ⟨runs_of_fix (f := ctuFn) (fun _ _ => rfl) (fun _ => rfl) ctuFn_eq (fun _ => rfl) (fun _ _ => rfl),
    runs_of_fix (f := ctdFn) (fun _ _ => rfl) (fun _ => rfl) ctdFn_eq (fun _ => rfl) (fun _ _ => rfl),
    runs_of_fix (f := ctudFn) (fun _ _ => rfl) (fun _ => rfl) ctudFn_eq (fun _ => rfl) (fun _ _ => rfl),
    runs_of_fix (f := cntdFn) (fun _ _ => rfl) (fun _ => rfl) cntdFn_eq (fun _ => rfl) (fun _ _ => Eq.refl 3),
    runs_of_fix (f := rTrigFn) (fun _ _ => rfl) (fun _ => rfl) (fun x => ?_) (fun _ => rfl) (fun _ _ => rfl),
    runs_of_fix (f := fTrigFn) (fun _ _ => rfl) (fun _ => rfl) (fun x => ?_) (fun _ => rfl) (fun _ _ => rfl),
    gives_of_fix (f := srFn) (fun _ _ => rfl) (fun _ => rfl) (fun x => ?_) (fun _ _ => rfl),
    gives_of_fix (f := rsFn) (fun _ _ => rfl) (fun _ => rfl) (fun x => ?_) (fun _ _ => rfl),
    runs_of_fix (f := estampFn) (fun _ _ => rfl) (fun _ => rfl) estampFn_eq (fun _ => rfl) (fun _ _ => length_ite rfl rfl),
    runs_of_fix (f := toggleFn) (fun _ _ => rfl) (fun _ => rfl) toggleFn_eq (fun _ => rfl) (fun _ _ => rfl)⟩
  · rw [rTrigFn, x.b2n_b, b2n_eq_ite _ (x.rise_iff 0 0)]
  · rw [fTrigFn, x.b2n_b, b2n_eq_ite (x.i 0 = 0 ∧ x.w 0 ≠ 0) (by simp [x.b_eq, x.wb_eq, and_comm])]
  · rw [srFn, b2n_eq_ite (x.i 0 ≠ 0 ∨ (x.o 0 ≠ 0 ∧ x.i 1 = 0)) (by simp [x.b_eq, x.ob_eq])]
  · rw [rsFn, b2n_eq_ite (x.i 1 = 0 ∧ (x.i 0 ≠ 0 ∨ x.o 0 ≠ 0)) (by simp [x.b_eq, x.ob_eq])]

end Sys2Proof.Machine
end

section
/-! SUPPORT. O50: the timed blocks (Table 7.5). -/

namespace Sys2Proof.Machine

/-! ### Timed blocks -/

theorem rLt_asymm {a b : Nat} (h : rLt a b = true) : rLt b a = false := by
  simp only [rLt, Bool.and_eq_true, decide_eq_true_eq] at h ⊢
  simp [h.1]
  omega

theorem Ctx.wb_eq_true_iff (x : Ctx) (k : Nat) : x.wb k = true ↔ x.w k ≠ 0 := bne_iff_ne

theorem tonFn_eq (x : Ctx) :
    let acc := if x.i 0 = 0 ∨ x.w 2 = 0 then 0 else min (x.w 1 + x.d) (2 ^ 32 - 1)
    tonFn x = {
      st := [x.now, acc, if x.i 0 = 0 then 0 else 1]
      outs := [if x.i 0 ≠ 0 ∧ x.i 1 ≤ acc then 1 else 0, min acc (x.i 1)] } := by
  by_cases hi : x.i 0 = 0 <;> by_cases hw : x.w 2 = 0 <;> simp [tonFn, x.b_eq, x.wb_eq, hi, hw, b2n, accAdd]

theorem tofFn_eq (x : Ctx) :
    let acc := if x.i 0 ≠ 0 ∨ x.w 2 ≠ 0 then 0 else min (x.w 1 + x.d) (2 ^ 32 - 1)
    tofFn x = {
      st := [x.now, acc, if x.i 0 = 0 then 0 else 1]
      outs := [if x.i 0 ≠ 0 ∨ (x.o 0 ≠ 0 ∧ acc < x.i 1) then 1 else 0, min acc (x.i 1)] } := by
  by_cases hi : x.i 0 = 0 <;> by_cases hw : x.w 2 = 0 <;> simp [tofFn, x.b_eq, x.wb_eq, x.ob_eq, hi, hw, b2n, accAdd]

theorem rtoFn_eq (x : Ctx) :
    let acc := if x.i 1 ≠ 0 then 0 else if x.i 0 ≠ 0 ∧ x.w 2 ≠ 0 then min (x.w 1 + x.d) (2 ^ 32 - 1) else x.w 1
    rtoFn x = {
      st := [x.now, acc, if x.i 0 = 0 then 0 else 1]
      outs := [if x.i 2 ≤ acc then 1 else 0, min acc (x.i 2)] } := by
  simp only [rtoFn, x.b2n_b, b2n_decide, Bool.and_eq_true, x.b_eq_true_iff, x.wb_eq_true_iff, accAdd]

theorem debncFn_eq (x : Ctx) :
    let acc := if x.i 0 = 0 ↔ x.w 2 = 0 then min (x.w 1 + x.d) (2 ^ 32 - 1) else 0
    debncFn x = {
      st := [x.now, acc, if x.i 0 = 0 then 0 else 1]
      outs := [if x.i 0 ≠ 0 ∧ x.i 1 ≤ acc then 1 else if x.i 0 = 0 ∧ x.i 2 ≤ acc then 0 else if x.o 0 = 0 then 0 else 1] } := by
  have hsame : (x.b 0 == x.wb 2) = true ↔ (x.i 0 = 0 ↔ x.w 2 = 0) := by
    by_cases hi : x.i 0 = 0 <;> by_cases hw : x.w 2 = 0 <;> simp [x.b_eq, x.wb_eq, hi, hw]
  have hoff : (!x.b 0) = true ↔ x.i 0 = 0 := by simp [x.b_eq]
  simp only [debncFn, hsame, Bool.and_eq_true, hoff, x.b_eq_true_iff, decide_eq_true_eq, apply_ite b2n, x.b2n_b, x.b2n_ob, accAdd]
  rfl

theorem lagFn_eq (x : Ctx) : lagFn x = {
    st := [x.now]
    outs := [if x.i 1 = 0 then (if x.d = 0 then x.o 0 else keepBad (rNaN (x.i 0)) (x.o 0) (x.r 0))
      else keepBad (rNaN (x.i 0)) (x.o 0) (rAdd (x.o 0) (rDiv (rMul (rSub (x.r 0) (x.o 0)) (rOfInt (x.d : Nat)))
        (rOfInt ((x.i 1 + x.d : Nat) : Int))))] } := by
  by_cases ht : x.i 1 = 0 <;> by_cases hd : x.d = 0 <;> simp [lagFn, realOut_fst, ht, hd, ticksReal]

theorem rateFn_eq (x : Ctx) : rateFn x = {
    st := [x.now, x.i 0]
    outs := [if x.d = 0 then x.o 0
      else keepBad (rNaN (x.i 0)) (x.o 0) (rDiv (rMul (rSub (x.r 0) (x.w 1)) (rOfInt 1000000)) (rOfInt (x.d : Nat)))] } := by
  simp only [rateFn, realOut_fst, million, ticksReal]

/-- TP: a start at a rising edge, with no pulse running or the last one over (R189). -/
theorem tpFn_eq (x : Ctx) :
    let acc := if x.o 0 = 0 then x.w 1 else min (x.w 1 + x.d) (2 ^ 32 - 1)
    let start := x.rise 0 2 ∧ x.i 1 ≠ 0 ∧ (x.o 0 = 0 ∨ x.i 1 ≤ acc)
    tpFn x = if start then { st := [x.now, 0, if x.i 0 = 0 then 0 else 1], outs := [1, 0] }
      else { st := [x.now, acc, if x.i 0 = 0 then 0 else 1]
             outs := [if x.o 0 ≠ 0 ∧ acc < x.i 1 then 1 else 0, min acc (x.i 1)] } := by
  intro acc start
  have hacc : (if x.ob 0 = true then accAdd (x.w 1) x.d else x.w 1) = acc := by
    by_cases ho : x.o 0 = 0 <;> simp [acc, x.ob_eq, ho, accAdd]
  have hq : (x.ob 0 && decide (acc < x.i 1)) = decide (x.o 0 ≠ 0 ∧ acc < x.i 1) := by simp [x.ob_eq]
  have hstart : (x.b 0 && !x.wb 2 && !decide (x.o 0 ≠ 0 ∧ acc < x.i 1) && decide (0 < x.i 1)) = decide start := by
    rw [Bool.eq_iff_iff, Bool.and_eq_true, Bool.and_eq_true, x.rise_iff]
    simp only [start, Bool.not_eq_true', decide_eq_false_iff_not, decide_eq_true_eq, Nat.pos_iff_ne_zero]
    by_cases ho : x.o 0 = 0 <;> simp [ho, and_assoc, and_comm]
  simp only [tpFn, hacc, hq, hstart, x.b2n_b, decide_eq_true_eq]
  by_cases hs : start <;> simp [hs, b2n]

theorem pgenFn_eq (x : Ctx) :
    let acc := if x.i 0 ≠ 0 ∧ x.w 2 ≠ 0 ∧ 0 < x.i 1 + x.i 2 then min ((x.w 1 + x.d) % (x.i 1 + x.i 2)) (2 ^ 32 - 1) else 0
    pgenFn x = {
      st := [x.now, acc, if x.i 0 = 0 then 0 else 1]
      outs := [if x.i 0 ≠ 0 ∧ x.i 1 ≠ 0 ∧ (x.i 2 = 0 ∨ acc < x.i 1) then 1 else 0] } := by
  intro acc
  have hacc : (if (x.b 0 && x.wb 2 && decide (0 < x.i 1 + x.i 2)) = true then min ((x.w 1 + x.d) % (x.i 1 + x.i 2)) (2 ^ 32 - 1)
      else 0) = acc := if_congr (by simp [x.b_eq, x.wb_eq, and_assoc]) rfl rfl
  simp only [pgenFn, hacc, x.b2n_b]
  rw [b2n_eq_ite (x.i 0 ≠ 0 ∧ x.i 1 ≠ 0 ∧ (x.i 2 = 0 ∨ acc < x.i 1)) (by simp [x.b_eq, Nat.pos_iff_ne_zero, and_assoc])]

/-- BUMPSW: the switched value once tt has passed since the change, and the line to it before. -/
theorem bumpswFn_eq (x : Ctx) {acc q0 v : Nat} (hv : v = if x.i 0 = 0 then x.r 1 else x.r 2)
    (hc : (x.i 0 = 0 ↔ x.w 3 = 0) ∧ acc = min (x.w 1 + x.d) (2 ^ 32 - 1) ∧ q0 = x.w 2 ∨
      ¬ (x.i 0 = 0 ↔ x.w 3 = 0) ∧ acc = 0 ∧ q0 = x.o 0) :
    bumpswFn x = {
      st := [x.now, acc, q0, if x.i 0 = 0 then 0 else 1]
      outs := [keepBad (rNaN v) (x.o 0)
          (if x.i 3 ≤ acc then v else rAdd q0 (rMul (rSub v q0) (rDiv (rOfInt (acc : Nat)) (rOfInt (x.i 3 : Nat))))),
        if acc < x.i 3 then 1 else 0] } := by
  have hchange : (x.b 0 != x.wb 3) = decide (¬ (x.i 0 = 0 ↔ x.w 3 = 0)) := by
    by_cases hi : x.i 0 = 0 <;> by_cases hw : x.w 3 = 0 <;> simp [x.b_eq, x.wb_eq, hi, hw]
  have hsel : (if x.b 0 = true then x.r 2 else x.r 1) = v := by
    rw [hv]
    by_cases hi : x.i 0 = 0 <;> simp [x.b_eq, hi]
  obtain ⟨h, rfl, rfl⟩ | ⟨h, rfl, rfl⟩ := hc
  · simp only [bumpswFn, hchange, hsel, realOut_fst, b2n_decide, x.b2n_b, not_true, h, decide_false, Bool.false_eq_true, if_false]
    rfl
  · simp only [bumpswFn, hchange, hsel, realOut_fst, b2n_decide, x.b2n_b, h, not_false_eq_true, decide_true, if_true]
    rfl

/-- INTEG, with its next value and its upper limit named (R189). -/
theorem integFn_eq (x : Ctx) {mm hi v : Nat} (hmm : mm = if rLt (x.r 4) (x.r 3) = true then 1 else 0)
    (hhi : hi = if rLt (x.r 4) (x.r 3) = true then x.r 3 else x.r 4)
    (hv : v = if x.i 2 ≠ 0 then 0 else rAdd (x.o 0) (rDiv (rMul (rMul (x.r 1) (x.r 0)) (rOfInt (x.d : Nat))) (rOfInt 1000000))) :
    integFn x = {
      st := [x.now]
      outs := if (x.i 2 = 0 ∧ (rNaN (x.i 0) = true ∨ rNaN (x.i 1) = true)) ∨ rNaN (x.i 3) = true ∨ rNaN (x.i 4) = true ∨ rNaN v = true
        then [x.o 0, x.o 1, mm]
        else [keepBad false (x.o 0) (rClamp (x.r 3) hi v), if rEq (rClamp (x.r 3) hi v) v = true then 0 else 1, mm] } := by
  have hnot : ∀ b : Bool, b2n (!b) = if b = true then 0 else 1 := fun b => by cases b <;> rfl
  have hoff : (!x.b 2) = true ↔ x.i 2 = 0 := by simp [x.b_eq]
  simp only [integFn, realOut_fst, hnot, Bool.or_eq_true, Bool.and_eq_true, hoff, or_assoc, x.b_eq_true_iff, b2n_eq, ticksReal, million,
    ← hmm, ← hhi, ← hv]
  split <;> rfl

/-- RAMP, with its next value and whether it comes of a NaN named (R189). -/
theorem rampFn_eq (x : Ctx) {v : Nat} {nan : Bool}
    (hv : v = if x.i 3 ≠ 0 then x.r 0
      else if rLt (x.o 0) (x.r 0) = true then
        (let up := if rLt (x.r 1) 0 = true then 0 else x.r 1
         if rLe up 0 = true then x.o 0 else rMin (x.r 0) (rAdd (x.o 0) (rDiv (rMul up (rOfInt (x.d : Nat))) (rOfInt 1000000))))
      else if rLt (x.r 0) (x.o 0) = true then
        (let down := if rLt (x.r 2) 0 = true then 0 else x.r 2
         if rLe down 0 = true then x.o 0 else rMax (x.r 0) (rSub (x.o 0) (rDiv (rMul down (rOfInt (x.d : Nat))) (rOfInt 1000000))))
      else x.o 0)
    (hnan : nan = (decide (x.i 3 = 0) && ((rLt (x.o 0) (x.r 0) && rNaN (x.i 1)) || (rLt (x.r 0) (x.o 0) && rNaN (x.i 2))))) :
    rampFn x = {
      st := [x.now]
      outs := [keepBad (rNaN (x.r 0) || nan) (x.o 0) v, if rEq (keepBad (rNaN (x.r 0) || nan) (x.o 0) v) (x.r 0) = true then 0 else 1,
        if rLt (x.r 1) 0 = true ∨ rLt (x.r 2) 0 = true then 1 else 0] } := by
  have hnot : ∀ b : Bool, b2n (!b) = if b = true then 0 else 1 := fun b => by cases b <;> rfl
  have hoff : (!x.b 3) = decide (x.i 3 = 0) := by simp [x.b_eq]
  rw [hv, hnan]
  simp only [rampFn, realOut_fst, hnot, hoff, b2n_eq, Bool.or_eq_true, x.b_eq_true_iff, ticksReal, million]

theorem min_le_word (n : Nat) {k : Nat} (hk : 0 < k) (h : k ≤ 2 ^ 32) : min (n % k) (2 ^ 32 - 1) = n % k := by
  have := Nat.mod_lt n hk
  omega

/-- Settles O50: each block's function, with the cases of the pulse, the switch, the integrator and the ramp. -/
theorem timedBlocks : Obligations.TimedBlocks := by
  refine ⟨runs_of_fix (f := tonFn) (fun _ _ => rfl) (fun _ => rfl) tonFn_eq (fun _ => rfl) (fun _ _ => rfl),
    runs_of_fix (f := tofFn) (fun _ _ => rfl) (fun _ => rfl) tofFn_eq (fun _ => rfl) (fun _ _ => rfl),
    fun s q i ty h => ?tp,
    runs_of_fix (f := rtoFn) (fun _ _ => rfl) (fun _ => rfl) rtoFn_eq (fun _ => rfl) (fun _ _ => rfl),
    fun s q i ty h => ?pgen,
    runs_of_fix (f := debncFn) (fun _ _ => rfl) (fun _ => rfl) debncFn_eq (fun _ => rfl) (fun _ _ => rfl),
    fun s q i ty h => ?bumpsw,
    runs_of_fix (f := lagFn) (fun _ _ => rfl) (fun _ => rfl) lagFn_eq (fun _ => rfl) (fun _ _ => rfl),
    runs_of_fix (f := rateFn) (fun _ _ => rfl) (fun _ => rfl) rateFn_eq (fun _ => rfl) (fun _ _ => rfl),
    fun s q i ty h => ?integ, fun s q i ty h => ?ramp⟩
  case tp =>
    have hsig := h.sig_of_fix (p := 0) (n := 3) (ins := [inp 0, inp 5]) (os := [0, 5]) rfl
    refine ⟨_, chipOnly_next s _, fun hs => ?_, fun hs => ?_⟩
    · exact h.ran_of (f := tpFn) ((tpFn_eq _).trans (if_pos hs)) (by simp [hsig]) (by simp [hsig])
    · exact h.ran_of (f := tpFn) ((tpFn_eq _).trans (if_neg hs)) (by simp [hsig]) (by simp [hsig])
  case pgen =>
    intro x
    have hsig := h.sig_of_fix (p := 0) (n := 3) (ins := [inp 0, inp 5, inp 5]) (os := [0]) rfl
    refine ⟨_, chipOnly_next s _, _, h.ran_of (f := pgenFn) (pgenFn_eq _) (by simp [hsig]) (by simp [hsig]),
      fun hr => if_neg fun hc => hc.2.1 hr.2, fun hi hw hpos hle => ?_⟩
    rw [if_pos ⟨hi, hw, hpos⟩]
    exact min_le_word _ hpos hle
  case bumpsw =>
    intro x v
    have hsig := h.sig_of_fix (p := 0) (n := 4) (ins := [inp 0, inp 4, inp 4, inp 5]) (os := [4, 0]) rfl
    have hran : ∀ st outs, bumpswFn x = { st := st, outs := outs } → st.length = 4 → outs.length = 2 →
        Ran s _ i st outs [] := fun st outs hf hst houts => h.ran_of hf (by simp [hsig, hst]) (by simp [hsig, houts])
    refine ⟨_, chipOnly_next s _, fun hc ht => ?_, fun hc ht => ?_, fun hc ht => ?_, fun hc ht => ⟨keepBad (rNaN v) (x.o 0)
      (if x.i 3 ≤ 0 then v else rAdd (x.o 0) (rMul (rSub v (x.o 0)) (rDiv (rOfInt (0 : Nat)) (rOfInt (x.i 3 : Nat))))), ?_⟩⟩
    · refine hran _ _ ?_ rfl rfl
      rw [bumpswFn_eq x rfl (.inl ⟨hc, rfl, rfl⟩), if_neg (Nat.not_le.2 ht), if_pos (show min _ _ < x.i 3 from ht)]
    · refine hran _ _ ?_ rfl rfl
      rw [bumpswFn_eq x rfl (.inl ⟨hc, rfl, rfl⟩), if_pos (show x.i 3 ≤ min _ _ from ht), if_neg (Nat.not_lt.2 ht)]
    · refine hran _ _ ?_ rfl rfl
      rw [bumpswFn_eq x rfl (.inr ⟨hc, rfl, rfl⟩), if_pos ht.le, if_neg (by omega : ¬ 0 < x.i 3)]
    · refine hran _ _ ?_ rfl rfl
      rw [bumpswFn_eq x rfl (.inr ⟨hc, rfl, rfl⟩), if_pos (by omega : 0 < x.i 3)]
  case integ =>
    intro x mm hi v
    have hsig := h.sig_of_fix (p := 0) (n := 1) (ins := [inp 4, inp 4, inp 0, (4, realMin), (4, realMax)]) (os := [4, 0, 0]) rfl
    have hran : ∀ outs, integFn x = { st := [x.now], outs := outs } → outs.length = 3 → Ran s _ i [x.now] outs [] :=
      fun outs hf houts => h.ran_of hf (by simp [hsig]) (by simp [hsig, houts])
    refine ⟨_, chipOnly_next s _, fun h0 h1 h3 h4 hv => ?_, fun hnan => ?_⟩
    · refine hran _ ?_ rfl
      rw [integFn_eq x rfl rfl rfl, if_neg]
      have hno : ∀ {b : Bool}, b = false → ¬ b = true := Bool.eq_false_iff.1
      rintro (⟨-, h | h⟩ | h | h | h)
      exacts [hno h0 h, hno h1 h, hno h3 h, hno h4 h, hno hv h]
    · refine hran _ ?_ rfl
      rw [integFn_eq x rfl rfl rfl, if_pos (by tauto)]
  case ramp =>
    intro x target up down move mm gives
    have hsig := h.sig_of_fix (p := 0) (n := 1) (ins := [inp 4, inp 4, inp 4, inp 0]) (os := [4, 0, 0]) rfl
    have hran : ∀ (v : Nat) (nan : Bool), rampFn x = { st := [x.now], outs := [keepBad (rNaN target || nan) (x.o 0) v,
          if rEq (keepBad (rNaN target || nan) (x.o 0) v) target = true then 0 else 1, mm] } →
        gives (s.onChip fun c => c.invoke .ramp rampFn q) nan v :=
      fun v nan hf => h.ran_of hf (by simp [hsig]) (by simp [hsig])
    refine ⟨_, chipOnly_next s _, fun h3 => hran _ _ (rampFn_eq x ?_ ?_), fun h3 hlt => hran _ _ (rampFn_eq x ?_ ?_),
      fun h3 hlt => hran _ _ (rampFn_eq x ?_ ?_)⟩
    · rw [if_pos h3]
    · simp [h3]
    · rw [if_neg (not_not.2 h3), if_pos hlt]
    · simp [h3, hlt, target, rLt_asymm hlt]
    · rw [if_neg (not_not.2 h3), if_neg (Bool.eq_false_iff.1 (rLt_asymm hlt)), if_pos hlt]
    · simp [h3, hlt, target, rLt_asymm hlt]

end Sys2Proof.Machine
end

section
/-! SUPPORT. O46: what an input binding delivers. -/

namespace Sys2Proof.Machine

/-- What a binding gives before the invert flag of a BOOL. -/
theorem Chip.bindValue_of_plain (c : Chip) (n : Nat) {b : Bind} (dflt : Nat) (h : ¬ (b.flags.testBit 0 = true ∧ b.ty = tyBool)) :
    (b.kind = 0x00 → c.bindValue n b dflt = dflt) ∧
    (b.kind = 0x02 → c.bindValue n b dflt = tyNorm b.ty b.ref) ∧
    (b.kind = 0x01 → c.bindValue n b dflt =
      tyNorm b.ty (c.nat (constAt (2 * b.ref)) + 2 ^ 32 * c.nat (constAt (2 * b.ref + 1)))) ∧
    (∀ p, b.kind = 0x03 → c.inv (b.ref % 2 ^ 16) = some p → c.bindValue n b dflt = c.producerOut n p (b.ref / 2 ^ 16 % 2 ^ 8)) ∧
    (b.kind = 0x04 → c.bindValue n b dflt = if b.ref.testBit 8 then (c.img (16 * b.region + b.ref % 16)).st
      else (deliver (c.img (16 * b.region + b.ref % 16)) b.ty).1) ∧
    (b.kind = 0x09 → c.bindValue n b dflt = if b.ref = 0 then c.get engineAt Engine.latch_tick
      else if b.ref = 1 then c.eng.latchCal else if b.ref = 2 then c.get engineAt Engine.cycle_count else c.eng.prevTime) := by
  have hplain : ¬ ((b.flags.testBit 0 && decide (b.ty = tyBool)) = true) := by simpa using h
  unfold Chip.bindValue
  simp only [if_neg hplain]
  refine ⟨fun hk => ?_, fun hk => ?_, fun hk => ?_, fun p hk hp => ?_, fun hk => ?_, fun hk => ?_⟩ <;> simp only [hk]
  case refine_4 => simp only [hp]; rfl
  all_goals rfl

theorem Chip.producerOut_of_forced {c : Chip} {n k e : Nat} {p : Inv} (h : c.forceOf 3 p.region k p.seq = some e) :
    c.producerOut n p k = tyNorm (nth 0 p.sig.outs k) (c.forceValue e) := by
  simp [Chip.producerOut, h]

theorem Chip.producerOut_of_unforced {c : Chip} {n k : Nat} {p : Inv} (h : c.forceOf 3 p.region k p.seq = none) :
    c.producerOut n p k = if p.seq < n then c.instOut p k else ((assoc c.eng.saved p.seq).map (nth 0 · k)).getD (c.instOut p k) := by
  simp only [Chip.producerOut, h]
  split
  · rfl
  · cases assoc c.eng.saved p.seq <;> rfl

/-- Settles O46: by the kind of the binding. -/
theorem inputBindings : Obligations.InputBindings := by
  intro c n b dflt hplain
  obtain ⟨hnone, hlit, hconst, hprod, hchan, hsys⟩ := c.bindValue_of_plain n dflt hplain
  refine ⟨hnone, hlit, hconst, fun p hk hp => ⟨fun hf => ?_, fun e he => ?_⟩, fun hk => ?_, fun hk => ?_⟩
  · rw [hprod p hk hp, Chip.producerOut_of_unforced hf]
    refine ⟨fun hlt => if_pos hlt, fun outs hle hs => ?_, fun hle hs => ?_⟩
    · rw [if_neg (Nat.not_lt.2 hle), hs]
      rfl
    · rw [if_neg (Nat.not_lt.2 hle), hs]
      rfl
  · rw [hprod p hk hp, Chip.producerOut_of_forced he]
  · rw [hchan hk]
    refine ⟨fun h8 => if_pos h8, fun h8 hr hb => ?_, fun h8 ht hs => ?_⟩
    · simp [h8, deliver, hr, hb, tyReal, tyStatus, tyBool]
    · have him : (c.img (16 * b.region + b.ref % 16)).ty ≠ tyStatus := ht ▸ hs
      simp [h8, deliver, ht, him]
  · rw [hsys hk]
    refine ⟨?_, ?_, ?_, ?_⟩ <;> intro h <;> simp [h]

end Sys2Proof.Machine
end

section
/-! SUPPORT. Blocks that ask the output write for acts, and O52: the blocks of axes, loops and ports (Tables 7.9 to 7.11). -/

namespace Sys2Proof.Machine

/-! ### Blocks that ask the output write for acts -/

/-- An invocation that has run may ask for one act more. -/
theorem Ran.ask {s t : State} {i : Inv} {st outs : List Nat} {asks : List Ask} (h : Ran s t i st outs asks) (a : Ask) :
    Ran s (t.onChip (·.ask i.seq a)) i st outs (a :: asks) where
  outputs := h.outputs
  count := h.count
  state := h.state
  done := h.done
  saved := h.saved
  asked := congrArg (List.cons (i.seq, a)) h.asked
  bound := h.bound
  words := h.words
  frame := congrArg (State.onChip · (·.ask i.seq a)) h.frame

section
variable {s : State} {b : Blk} {q : Nat} {i : Inv} {ty : Nat}

/-- A ready invocation of any block commits its result and does what follows the commit. -/
theorem Ready.invokeWith (h : Ready s b q i ty) (f : Chip → Inv → Ctx → Res) (post : Chip → Inv → Ctx → Chip) :
    s.chip.invokeWith b q f post = post ((s.chip.commit i (f s.chip i (s.chip.ctx i ty))).fresh) i (s.chip.ctx i ty) := by
  simp only [Chip.invokeWith, h.placed, h.runs]

/-- A ready invocation that commits a result and asks for acts has run with that result and those acts. -/
theorem Ready.ran_asks (h : Ready s b q i ty) {r : Res} (hst : i.sig.s ≤ r.st.length) (houts : r.outs.length = i.sig.outs.length)
    (asks : List Ask) :
    Ran s (s.onChip fun c => asks.foldr (fun a d => d.ask i.seq a) (c.commit i r).fresh) i r.st r.outs asks := by
  induction asks with
  | nil => exact h.ran_commit hst houts
  | cons a asks ih => exact ih.ask a

end

/-- What a command needs to run a block as stated: the result of its evaluation, as many state words and outputs as its signature has,
and its acts after the commit. -/
theorem runsWith_of {b : Blk} {cmd : Fin 65536 → Instr} {ok : Ctx → Prop} {f : Chip → Inv → Ctx → Res}
    {post : Chip → Inv → Ctx → Chip} {st outs : Chip → Inv → Ctx → List Nat} {asks : Chip → Inv → Ctx → List Ask}
    (hexec : ∀ q s, exec (cmd q) s = chipOnly s (fun c => c.invokeWith b q.val f post))
    (hf : ∀ {s : State} {q : Nat} {i : Inv} {ty : Nat}, Ready s b q i ty → ok (s.chip.ctx i ty) →
      f s.chip i (s.chip.ctx i ty) = { st := st s.chip i (s.chip.ctx i ty), outs := outs s.chip i (s.chip.ctx i ty) } ∧
        i.sig.s ≤ (st s.chip i (s.chip.ctx i ty)).length ∧
        (outs s.chip i (s.chip.ctx i ty)).length = i.sig.outs.length)
    (hpost : ∀ {s : State} {q : Nat} {i : Inv} {ty : Nat} (r : Res), Ready s b q i ty → ok (s.chip.ctx i ty) →
      post ((s.chip.commit i r).fresh) i (s.chip.ctx i ty) =
        (asks s.chip i (s.chip.ctx i ty)).foldr (fun a d => d.ask i.seq a) (s.chip.commit i r).fresh) :
    RunsWith b cmd ok st outs asks := by
  intro s q i ty h hok
  obtain ⟨hres, hst, houts⟩ := hf h hok
  refine ⟨_, (hexec q s).trans (chipOnly_next s _), ?_⟩
  have hon : s.onChip (fun c => c.invokeWith b q.val f post) = s.onChip fun c => (asks s.chip i (s.chip.ctx i ty)).foldr
      (fun a d => d.ask i.seq a) (c.commit i (f s.chip i (s.chip.ctx i ty))).fresh := by
    simp only [State.onChip, h.invokeWith, hpost _ h hok]
  rw [hon, hres]
  exact h.ran_asks hst houts _

section
variable {b : Blk} {cmd : Fin 65536 → Instr} {f : Chip → Inv → Ctx → Res} {post : Chip → Inv → Ctx → Chip}
  {st outs : Chip → Inv → Ctx → List Nat} {asks : Chip → Inv → Ctx → List Ask} {p n : Nat} {ins : Nat → List (Nat × Nat)}
  {os : Nat → List Nat}

/-- The same of a block of a fixed signature whose acts do not depend on the state after the commit. -/
theorem runsWith_of_fix (hexec : ∀ q s, exec (cmd q) s = chipOnly s (fun c => c.invokeWith b q.val f post))
    (hraw : ∀ ty, rawSig b ty = sigFix p n (ins ty) (os ty)) (hf : ∀ c i x, f c i x = { st := st c i x, outs := outs c i x })
    (hst : ∀ c i x, (st c i x).length = n) (houts : ∀ c i x ty, (outs c i x).length = (os ty).length)
    (hpost : ∀ c d i x, post d i x = (asks c i x).foldr (fun a d => d.ask i.seq a) d) : RunsWith b cmd (fun _ => True) st outs asks :=
  runsWith_of hexec (fun h _ => ⟨hf _ _ _, by rw [h.sig_of_fix (hraw _), hst], by rw [h.sig_of_fix (hraw _), houts]⟩)
    (fun _ _ _ => hpost _ _ _ _)

/-- The same of a block that shows latched state. -/
theorem shows_of_fix (hexec : ∀ q s, exec (cmd q) s = chipOnly s (fun c => c.invokeWith b q.val f (fun d _ _ => d)))
    (hraw : ∀ ty, rawSig b ty = sigFix p 0 (ins ty) (os ty)) (hf : ∀ c i x, f c i x = outsOnly (outs c i x))
    (houts : ∀ c i x ty, (outs c i x).length = (os ty).length) : Shows b cmd outs :=
  runsWith_of_fix hexec hraw hf (fun _ _ _ => rfl) houts (fun _ _ _ _ => rfl)

end

/-- An act asked for on a condition. -/
theorem foldr_ask_ite (p : Prop) [Decidable p] (a : Ask) (q : Nat) (c : Chip) :
    (if p then [a] else []).foldr (fun a d => d.ask q a) c = if p then c.ask q a else c := by
  split <;> rfl

/-! ### Axes and loops -/

/-- The outputs of an act, by the model's terms and by the table's. -/
theorem actOuts_eq (a : Option ActSt) {fresh held : Bool} {new on : Prop} [Decidable new] [Decidable on] (hnew : fresh = true ↔ new)
    (hon : held = true ↔ on) : actOuts a fresh held =
      if new then [1, 0, 0, 0]
      else match a with
        | none => [0, 0, 0, 0]
        | some a => [b2n a.busy, if a.busy = false ∧ a.code = 0 ∧ on then 1 else 0, if a.busy = false ∧ a.code ≠ 0 ∧ on then 1 else 0,
            a.code] := by
  unfold actOuts
  refine if_congr hnew rfl ?_
  cases a with
  | none => rfl
  | some a =>
    have hdone : b2n (!a.busy && a.code == 0 && held) = if a.busy = false ∧ a.code = 0 ∧ on then 1 else 0 :=
      b2n_eq_ite _ (by simp [hon, and_assoc])
    have herr : b2n (!a.busy && a.code != 0 && held) = if a.busy = false ∧ a.code ≠ 0 ∧ on then 1 else 0 :=
      b2n_eq_ite _ (by simp [hon, and_assoc])
    simp only [hdone, herr]

theorem length_act (a : Option ActSt) {new on : Prop} [Decidable new] [Decidable on] : (if new then [1, 0, 0, 0]
    else match a with
      | none => [0, 0, 0, 0]
      | some a => [b2n a.busy, if a.busy = false ∧ a.code = 0 ∧ on then 1 else 0, if a.busy = false ∧ a.code ≠ 0 ∧ on then 1 else 0,
          a.code]).length = 4 :=
  length_ite rfl (by cases a <;> rfl)

theorem Ctx.bne_zero (x : Ctx) (k : Nat) : (x.i k != 0) = x.b k := rfl

/-- A condition of the model on an act after the commit, by the table's terms. -/
theorem Chip.ask_of_iff {p : Prop} [Decidable p] {v : Bool} (h : v = true ↔ p) (c : Chip) (q : Nat) (a : Ask) :
    (if v then c.ask q a else c) = (if p then [a] else []).foldr (fun a d => d.ask q a) c := by
  rw [foldr_ask_ite]
  exact if_congr h rfl rfl

theorem Chip.when_eq_ite (c : Chip) (v : Bool) (f : Chip → Chip) : c.when v f = if v then f c else c := rfl

theorem runs_axmove : RunsWith .axmove Instr.runAxmove (fun _ => True) (fun _ _ x => [if x.i 0 = 0 then 0 else 1])
    (fun c i x => if x.rise 0 0 then [1, 0, 0, 0]
      else match c.actLatched (x.p 0) i.seq with
        | none => [0, 0, 0, 0]
        | some a => [b2n a.busy, if a.busy = false ∧ a.code = 0 ∧ x.i 0 ≠ 0 then 1 else 0,
            if a.busy = false ∧ a.code ≠ 0 ∧ x.i 0 ≠ 0 then 1 else 0, a.code])
    (fun _ _ x => if x.rise 0 0 then [.move (x.p 0) (x.i 1) (x.i 2 != 0)] else []) :=
  runsWith_of_fix (p := 1) (n := 1) (fun _ _ => rfl) (fun _ => rfl)
    (fun c i x => by rw [Chip.axCommand, x.b2n_b, actOuts_eq _ (x.rise_iff 0 0) (x.b_eq_true_iff 0)]) (fun _ _ _ => rfl)
    (fun _ _ _ _ => length_act _) (fun _ d i x => Chip.ask_of_iff (x.rise_iff 0 0) d i.seq _)

theorem runs_axhome : RunsWith .axhome Instr.runAxhome (fun _ => True) (fun _ _ x => [if x.i 0 = 0 then 0 else 1])
    (fun c i x => if x.rise 0 0 then [1, 0, 0, 0]
      else match c.actLatched (x.p 0) i.seq with
        | none => [0, 0, 0, 0]
        | some a => [b2n a.busy, if a.busy = false ∧ a.code = 0 ∧ x.i 0 ≠ 0 then 1 else 0,
            if a.busy = false ∧ a.code ≠ 0 ∧ x.i 0 ≠ 0 then 1 else 0, a.code])
    (fun _ _ x => if x.rise 0 0 then [.home (x.p 0) (x.i 1)] else []) :=
  runsWith_of_fix (p := 1) (n := 1) (fun _ _ => rfl) (fun _ => rfl)
    (fun c i x => by rw [Chip.axCommand, x.b2n_b, actOuts_eq _ (x.rise_iff 0 0) (x.b_eq_true_iff 0)]) (fun _ _ _ => rfl)
    (fun _ _ _ _ => length_act _) (fun _ d i x => Chip.ask_of_iff (x.rise_iff 0 0) d i.seq _)

theorem runs_axstop : RunsWith .axstop Instr.runAxstop (fun _ => True) (fun _ _ _ => [])
    (fun c i x => if x.i 0 ≠ 0 ∧ i.seq ∉ nth [] c.eng.stopsLatched (x.p 0) then [1, 0, 0, 0]
      else match c.actLatched (x.p 0) i.seq with
        | none => [0, 0, 0, 0]
        | some a => [b2n a.busy, if a.busy = false ∧ a.code = 0 ∧ x.i 0 ≠ 0 then 1 else 0,
            if a.busy = false ∧ a.code ≠ 0 ∧ x.i 0 ≠ 0 then 1 else 0, a.code])
    (fun _ _ x => [.stop (x.p 0) (x.i 0 != 0) (x.i 1 != 0)]) :=
  runsWith_of_fix (p := 1) (n := 0) (fun _ _ => rfl) (fun _ => rfl)
    (fun c i x => by
      rw [actOuts_eq (new := x.i 0 ≠ 0 ∧ i.seq ∉ nth [] c.eng.stopsLatched (x.p 0)) _ (by simp [x.b_eq]) (x.b_eq_true_iff 0)]) (fun _ _ _ => rfl)
    (fun _ _ _ _ => length_act _) (fun _ _ _ _ => rfl)

theorem runs_axgear : RunsWith .axgear Instr.runAxgear (fun _ => True) (fun _ _ x => [if x.i 0 = 0 then 0 else 1])
    (fun c i x =>
      let a := c.actLatched (x.p 0) i.seq
      [if (a.map (·.busy)) = some true then 1 else 0, c.atLatch.get (axisAt (x.p 0)) Axis.gstage,
        if x.i 0 ≠ 0 ∧ x.w 0 ≠ 0 ∧ (a.map (fun a => !a.busy && a.code != 0)) = some true then 1 else 0])
    (fun _ _ x => if x.i 0 = 0 ↔ x.w 0 = 0 then [] else [.gear (x.p 0) (x.i 0 != 0)]) := by
  refine runsWith_of_fix (p := 1) (n := 1) (fun _ _ => rfl) (fun _ => rfl) (fun c i x => ?_) (fun _ _ _ => rfl) (fun _ _ _ _ => rfl)
    (fun c d i x => ?_)
  · simp only [x.b2n_b]
    cases c.actLatched (x.p 0) i.seq with
    | none => simp [b2n]
    | some a =>
      have herr : b2n (x.b 0 && x.wb 0 && (!a.busy && a.code != 0)) =
          if x.i 0 ≠ 0 ∧ x.w 0 ≠ 0 ∧ (!a.busy && a.code != 0) = true then 1 else 0 :=
        b2n_eq_ite _ (by simp [x.b_eq, x.wb_eq, and_assoc])
      simp only [Option.map_some, Option.some.injEq, herr]
      rfl
  · have hchange : (x.b 0 != x.wb 0) = decide (¬ (x.i 0 = 0 ↔ x.w 0 = 0)) := by
      by_cases hi : x.i 0 = 0 <;> by_cases hw : x.w 0 = 0 <;> simp [x.b_eq, x.wb_eq, hi, hw]
    by_cases h : x.i 0 = 0 ↔ x.w 0 = 0
    · simp only [hchange, h, if_true, not_true, decide_false]
      rfl
    · simp only [hchange, h, if_false, not_false_eq_true, decide_true]
      rfl

theorem shows_axstat : Shows .axstat Instr.runAxstat (fun c _ x =>
    let l := c.atLatch
    let b := axisAt (x.p 0)
    [l.get b Axis.pos, rOfInt (l.getS b Axis.vel), if l.get b Axis.ref_state = 2 then 1 else 0,
      if l.get b Axis.ref_state = 1 then 1 else 0, b2n (l.flag b Axis.still),
      if l.get b Axis.state = 8 ∨ (l.flag b Axis.stage_on = false ∧ ¬ (l.flag b Axis.still = true ∧ l.flag b Axis.idle_off = true))
        then 1 else 0, l.get b Axis.flags_now]) := by
  refine shows_of_fix (p := 1) (fun _ _ => rfl) (fun _ => rfl) (fun c i x => ?_) (fun _ _ _ _ => rfl)
  have hfault : ∀ (n : Nat) (on still idle : Bool), b2n (n == 8 || (!on && !(still && idle))) =
      if n = 8 ∨ (on = false ∧ ¬ (still = true ∧ idle = true)) then 1 else 0 := fun n on still idle =>
    b2n_eq_ite _ (by cases on <;> cases still <;> cases idle <;> simp)
  simp only [hfault]
  simp only [b2n, beq_iff_eq]

theorem runs_loopsup : RunsWith .loopsup Instr.runLoopsup (fun _ => True) (fun _ _ _ => [])
    (fun c _ x => [ofQ (c.atLatch.getS (loopAt (x.p 0)) Loop.pv), ofQ (c.atLatch.getS (loopAt (x.p 0)) Loop.out),
      if c.atLatch.get (loopAt (x.p 0)) Loop.state = 2 then 1 else 0, c.atLatch.get (loopAt (x.p 0)) Loop.missed,
      c.atLatch.nat (loopAt (x.p 0) + 0x0070)])
    (fun _ _ x => [.loopsup (x.p 0) (x.i 0 != 0) (x.i 1) (if x.i 3 = 0 then none else some (x.i 2))]) := by
  refine runsWith_of_fix (p := 1) (n := 0) (fun _ _ => rfl) (fun _ => rfl) (fun c i x => ?_) (fun _ _ _ => rfl) (fun _ _ _ _ => rfl)
    (fun _ _ _ x => ?_)
  · simp only [b2n, beq_iff_eq]
    rfl
  · have hvar : (if x.b 3 = true then some (x.i 2) else none) = if x.i 3 = 0 then none else some (x.i 2) := by
      by_cases h : x.i 3 = 0 <;> simp [x.b_eq, h]
    rw [hvar]
    rfl

/-! ### Ports -/

theorem shows_portst : Shows .portst Instr.runPortst (fun c _ x =>
    let l := c.atLatch
    let b := portAt (x.p 0)
    [l.get b Port.state, l.get b Port.tec, l.get b Port.rec, l.get b Port.noack_now, l.get b Port.coll_now]) :=
  shows_of_fix (p := 1) (fun _ _ => rfl) (fun _ => rfl) (fun _ _ _ => rfl) (fun _ _ _ _ => rfl)

theorem runs_canobj : RunsWith .canobj Instr.runCanobj (fun _ => True)
    (fun c _ x => [c.atLatch.getI (portAt (x.p 0)) PWord.ob_count (x.p 1)])
    (fun c _ x =>
      let l := c.atLatch
      let b := portAt (x.p 0)
      [if l.getI b PWord.ob_count (x.p 1) = x.w 0 then 0 else 1, l.getI b PWord.ob_id (x.p 1), l.getI b PWord.ob_len (x.p 1),
        tickDiff x.now (l.getI b PWord.ob_tick (x.p 1))] ++ (List.range 16).map (fun k => l.nat (objAt (x.p 0) (x.p 1) + 16 + k)))
    (fun _ _ _ => []) := by
  refine runsWith_of_fix (p := 2) (n := 1) (fun _ _ => rfl) (fun _ => rfl) (fun c i x => ?_) (fun _ _ _ => rfl)
    (fun _ _ _ _ => by simp) (fun _ _ _ _ => rfl)
  have hnew : ∀ n : Nat, b2n (n != nth 0 x.st 0) = if n = x.w 0 then 0 else 1 := fun n => by
    by_cases h : n = x.w 0 <;> simp_all [b2n, Ctx.w]
  simp only [hnew]

/-- A rising edge as the blocks with one state word find it. -/
theorem Ctx.rise_iff_st (x : Ctx) : (x.b 0 && nth 0 x.st 0 == 0) = true ↔ x.rise 0 0 := by
  simp [x.b_eq, Ctx.rise, Ctx.w]

theorem runs_portrst : RunsWith .portrst Instr.runPortrst (fun _ => True) (fun _ _ x => [x.i 0])
    (fun c i x =>
      match c.eng.wrLatched.find? (fun o => o.seq == i.seq) with
      | none => [0, 0]
      | some o => if x.i 0 ≠ 0 ∧ x.w 0 ≠ 0 ∧ o.busy = false then (if o.ok then [1, 0] else [0, 1]) else [0, 0])
    (fun _ _ x => if x.rise 0 0 then [.portRestart (x.p 0)] else []) := by
  refine runsWith_of_fix (p := 1) (n := 1) (fun _ _ => rfl) (fun _ => rfl) (fun c i x => ?_) (fun _ _ _ => rfl)
    (fun c i _ _ => ?_) (fun _ d i x => Chip.ask_of_iff x.rise_iff_st d i.seq _)
  · cases c.eng.wrLatched.find? (fun o => o.seq == i.seq) with
    | none => simp [b2n]
    | some o =>
      simp only [Option.map_some, Option.getD_some]
      have hshown : (x.b 0 && !(x.b 0 && nth 0 x.st 0 == 0)) = decide (x.i 0 ≠ 0 ∧ x.w 0 ≠ 0) := by
        by_cases hi : x.i 0 = 0 <;> by_cases hw : nth 0 x.st 0 = 0 <;> simp [x.b_eq, hi, Ctx.w, hw]
      by_cases hs : x.i 0 ≠ 0 ∧ x.w 0 ≠ 0
      · simp only [hshown, hs, ne_eq, not_false_eq_true, and_self, decide_true, true_and]
        cases o.busy <;> cases o.ok <;> rfl
      · have hno : ¬ (x.i 0 ≠ 0 ∧ x.w 0 ≠ 0 ∧ o.busy = false) := fun h => hs ⟨h.1, h.2.1⟩
        simp only [hshown, hs, decide_false, if_neg hno]
        rfl
  · cases c.eng.wrLatched.find? (fun o => o.seq == i.seq) with
    | none => rfl
    | some o => exact length_ite (length_ite rfl rfl) rfl

/-- A word of a block that is neither instance memory nor a counter block is none that a commit may change. -/
theorem Ready.not_commitWord {s : State} {b : Blk} {q : Nat} {i : Inv} {ty : Nat} (h : Ready s b q i ty) {a : Nat}
    (hb : blockOf a < 0x100) (hc : blockOf a ≠ 0x070) : ¬ commitWord i a := by
  have hfits := h.fits
  rintro (⟨hlo, hhi⟩ | ⟨-, hctr⟩)
  · simp only [instAt, blockAddr, blockOf] at hlo hhi hb
    omega
  · exact hc hctr

theorem blockOf_obj {r j : Nat} (hj : j < 128) : blockOf (PWord.ob_fflags.at (portAt r) j) = 0x060 := by
  simp only [blockOf, Field.at, portAt, blockAddr, PWord.ob_fflags, Field.many]
  omega

theorem Ready.obj_flags_commit {s : State} {b : Blk} {q : Nat} {i : Inv} {ty r j : Nat} (h : Ready s b q i ty) (res : Res)
    (hj : j < 128) : ((s.chip.commit i res).fresh).getI (portAt r) PWord.ob_fflags j = s.chip.getI (portAt r) PWord.ob_fflags j := by
  refine Chip.getI_congr ((Chip.fresh_word _ _).trans (Chip.commit_word_other _ _ h.region (h.not_commitWord ?_ ?_))) <;>
    rw [blockOf_obj hj] <;> omega

/-- The length sent, and whether it is not the one asked for (R201). -/
theorem sendLen_eq (fd : Bool) (len : Nat) :
    let n := if fd then (if 64 < len then 64 else fdLen len) else min len 8
    sendLen fd len = (n, decide (n ≠ len)) := by
  cases fd
  · simp only [sendLen, Bool.false_eq_true, if_false, Prod.mk.injEq, decide_eq_decide, true_and]
    omega
  · by_cases h : 64 < len
    · simp only [sendLen, h, if_true, Prod.mk.injEq, true_and]
      exact (decide_eq_true (by omega)).symm
    · simp only [sendLen, h, if_true, if_false, Prod.mk.injEq, true_and]
      by_cases hn : fdLen len = len <;> simp [hn]

theorem runs_cansend : RunsWith .cansend Instr.runCansend (fun x => x.p 0 < 8 ∧ x.p 1 < 128)
    (fun _ _ x => [x.i 0])
    (fun c _ x =>
      let l := c.atLatch
      let b := portAt (x.p 0)
      let fd := (c.getI b PWord.ob_fflags (x.p 1)).testBit 1
      let n := if fd then (if 64 < x.i 1 then 64 else fdLen (x.i 1)) else min (x.i 1) 8
      [if l.getI b PWord.ob_pending (x.p 1) = 0 ∧ l.getI b PWord.ob_in_tx (x.p 1) = 0 then 0 else 1,
        l.getI b PWord.ob_count (x.p 1),
        if n ≠ x.i 1 ∨ l.getI b PWord.ob_single_fail (x.p 1) ≠ 0 ∨ 2 ≤ l.get b Port.state then 1 else 0])
    (fun c _ x =>
      let fd := (c.getI (portAt (x.p 0)) PWord.ob_fflags (x.p 1)).testBit 1
      let n := if fd then (if 64 < x.i 1 then 64 else fdLen (x.i 1)) else min (x.i 1) 8
      [.canSend (x.p 0) (x.p 1) n (bytesAt (((x.ins.drop 2).flatMap (leBytes 4)).take (min (x.i 1) n)) 0 n) (decide (x.rise 0 0))]) := by
  have hbusy : ∀ m n : Nat, b2n (m != 0 || n != 0) = if m = 0 ∧ n = 0 then 0 else 1 := fun m n => by
    by_cases hm : m = 0 <;> by_cases hn : n = 0 <;> simp [hm, hn, b2n]
  have hbad : ∀ n len single state : Nat, b2n (decide (n ≠ len) || single != 0 || decide (2 ≤ state)) =
      if n ≠ len ∨ single ≠ 0 ∨ 2 ≤ state then 1 else 0 := fun n len single state => b2n_eq_ite _ (by simp [or_assoc])
  refine runsWith_of (fun _ _ => rfl) (fun h _ => ⟨?_, ?_, ?_⟩) (fun {s q i ty} r h hok => ?_)
  · simp only [sendLen_eq, hbusy, hbad]
  · obtain ⟨m, -, hsig⟩ := h.sig_of_var (p := 2) (n := 1) (ins := [inp 0, inp 3]) (t := 3) (lo := 0) (hi := 16) (os := [0, 3, 0]) rfl
    rw [hsig]
    rfl
  · obtain ⟨m, -, hsig⟩ := h.sig_of_var (p := 2) (n := 1) (ins := [inp 0, inp 3]) (t := 3) (lo := 0) (hi := 16) (os := [0, 3, 0]) rfl
    rw [hsig]
    rfl
  · have hrise : ((s.chip.ctx i ty).b 0 && nth 0 (s.chip.ctx i ty).st 0 == 0) = decide ((s.chip.ctx i ty).rise 0 0) :=
      Bool.eq_iff_iff.2 ((Ctx.rise_iff_st _).trans decide_eq_true_iff.symm)
    simp only [sendLen_eq, h.obj_flags_commit r hok.2, hrise]
    rfl

theorem filterFrom_eq (pos top : Nat) : filterFrom pos top =
    (if 2048 < tickDiff top pos then (top + 2 ^ 32 - 2048) % 2 ^ 32 else pos, tickDiff top pos - 2048) := by
  rw [filterFrom]
  generalize tickDiff top pos = behind
  generalize (top + 2 ^ 32 - 2048) % 2 ^ 32 = next
  by_cases h : 2048 < behind
  · rw [if_pos h, if_pos h]
  · rw [if_neg h, if_neg h, Nat.sub_eq_zero_of_le (Nat.le_of_not_lt h)]

/-- What a filter takes of the ring: the entries since its position that match and are no safety frames, where it is then, and how many
it lost (R200, R362). -/
theorem Chip.filterTake_eq (c : Chip) (x : Ctx) {top first skip n : Nat} (hfrom : filterFrom (x.w 0) top = (first, skip))
    (hn : n = if x.i 0 = 0 then 0 else min (tickDiff top first) (x.p 5)) :
    c.filterTake x top = ((((List.range n).map (fun k => c.ringGet (x.p 0) ((first + k) % 2 ^ 32))).filter
      (fun e => !c.safetyEntry (x.p 0) e)).filter (filterMatch (x.p 1) (x.p 2) (x.p 3)),
      if x.i 0 = 0 then top else (first + n) % 2 ^ 32, skip) := by
  have hst : nth 0 x.st 0 = x.w 0 := rfl
  -- unfolded as a constant: the kernel must not evaluate the tick difference the match is on
  have hdef : Chip.filterTake = Chip.filterTake := rfl
  conv at hdef => rhs; delta Chip.filterTake
  rw [hdef]
  beta_reduce
  rw [hst, hfrom, hn]
  by_cases hi : x.i 0 = 0
  · have hb : x.b 0 = false := by simp [x.b_eq, hi]
    rw [if_pos hi, if_pos hi]
    simp only [hb]
    rfl
  · have hb : x.b 0 = true := by simp [x.b_eq, hi]
    rw [if_neg hi, if_neg hi]
    simp only [hb]
    rfl

/-- A command that runs a ready invocation, with the result of its evaluation and what follows its commit named. -/
theorem Ready.exec_invokeWith {s : State} {b : Blk} {q : Nat} {i : Inv} {ty : Nat} (h : Ready s b q i ty) {cmd : Instr}
    {f : Chip → Chip → Inv → Ctx → Res} {post : Chip → Chip → Inv → Ctx → Chip} {r : Res} {after : Chip → Chip}
    (hexec : exec cmd s = chipOnly s (fun c => c.invokeWith b q (f c) (post c))) (hf : f s.chip s.chip i (s.chip.ctx i ty) = r)
    (hpost : post s.chip (s.chip.commit i r).fresh i (s.chip.ctx i ty) = after (s.chip.commit i r).fresh) :
    exec cmd s = .next { s with chip := after (s.chip.commit i r).fresh } := by
  rw [hexec, chipOnly_next, State.onChip, h.invokeWith, hf, hpost]

/-- A filter's run, with what it takes of the ring named. The ring's reading is kept as an unknown function here: to evaluate it would
be to compare numbers of 2 ^ 32. -/
theorem Ready.ran_canfilt {s : State} {q : Fin 65536} {i : Inv} {ty : Nat} (h : Ready s .canfilt q.val i ty) {x : Ctx}
    (hx : s.chip.ctx i ty = x) {top pos skip : Nat} (htop : s.chip.atLatch.get (portAt (x.p 0)) Port.rx_count = top)
    {hits : List RingEntry} (htake : s.chip.filterTake x top = (hits, pos, skip)) :
    ∃ t u, exec (.runCanfilt q) s = .next t ∧
      Ran s u i [pos] [if hits = [] then 0 else 1, hits.length, (x.o 2 + skip) % 2 ^ 32] [] ∧
      t = { u with chip := if x.p 4 = 255 then u.chip else hits.foldl (fun c e => c.objTake (x.p 0) (x.p 4) e) u.chip } := by
  have hany : b2n (!hits.isEmpty) = if hits = [] then 0 else 1 := by cases hits <;> rfl
  have hsig := h.sig_of_fix (p := 6) (n := 1) (ins := [(0, 1)]) (os := [0, 3, 3]) rfl
  have hran := h.ran_commit (r := { st := [pos], outs := [b2n (!hits.isEmpty), hits.length, (x.o 2 + skip) % 2 ^ 32] })
    (by rw [hsig]; exact le_refl 1) (by rw [hsig]; exact Eq.refl 3)
  have hdef : execRunCanfilt = execRunCanfilt := rfl
  conv at hdef => rhs; delta execRunCanfilt
  obtain ⟨take, hfun⟩ : ∃ take, take = Chip.filterTake := ⟨_, rfl⟩
  rw [← hfun] at htake hdef
  have hexec : exec (.runCanfilt q) s = _ := congrFun (congrFun hdef q) s
  have hnext := h.exec_invokeWith
    (r := { st := [pos], outs := [b2n (!hits.isEmpty), hits.length, (x.o 2 + skip) % 2 ^ 32] })
    (after := fun c => if x.p 4 = 255 then c else hits.foldl (fun c e => c.objTake (x.p 0) (x.p 4) e) c) hexec
    (by simp only [hx, htop, htake]; rfl) (by simp only [hx, htop, htake]; rfl)
  rw [hany] at hran hnext
  exact ⟨_, _, hnext, hran, rfl⟩

theorem runs_canfilt (s : State) (q : Fin 65536) (i : Inv) (ty : Nat) (h : Ready s .canfilt q.val i ty) :
    let x := s.chip.ctx i ty
    let top := s.chip.atLatch.get (portAt (x.p 0)) Port.rx_count
    let behind := tickDiff top (x.w 0)
    let skip := behind - 2048
    let first := if 2048 < behind then (top + 2 ^ 32 - 2048) % 2 ^ 32 else x.w 0
    let n := if x.i 0 = 0 then 0 else min (tickDiff top first) (x.p 5)
    let hits := (((List.range n).map (fun k => s.chip.ringGet (x.p 0) ((first + k) % 2 ^ 32))).filter
      (fun e => !s.chip.safetyEntry (x.p 0) e)).filter (filterMatch (x.p 1) (x.p 2) (x.p 3))
    ∃ t u, exec (.runCanfilt q) s = .next t ∧
      Ran s u i [if x.i 0 = 0 then top else (first + n) % 2 ^ 32]
        [if hits = [] then 0 else 1, hits.length, (x.o 2 + skip) % 2 ^ 32] [] ∧
      t = { u with chip := if x.p 4 = 255 then u.chip else hits.foldl (fun c e => c.objTake (x.p 0) (x.p 4) e) u.chip } :=
  h.ran_canfilt rfl rfl (s.chip.filterTake_eq _ (filterFrom_eq _ _) rfl)

/-- Settles O52: each block's result and acts, by what its command evaluates. -/
theorem axisLoopAndPortBlocks : Obligations.AxisLoopAndPortBlocks :=
  ⟨runs_axmove, runs_axhome, runs_axstop, runs_axgear, shows_axstat, runs_loopsup, runs_canfilt, runs_canobj, runs_cansend, shows_portst,
    runs_portrst⟩

end Sys2Proof.Machine
end

section
/-! SUPPORT. O53: the blocks of the station link, the panel, the pair, parameters, events and counters (Tables 7.8 and 7.12 to
7.16). -/

namespace Sys2Proof.Machine

theorem shows_chgrp : Shows .chgrp Instr.runChgrp (fun c i _ =>
    let r := (i.ins.head?.map (·.region)).getD 0
    (List.range 16).map (fun k => (deliver (c.img (16 * r + k)) tyReal).1) ++ (List.range 16).map (fun k => (c.img (16 * r + k)).st)) := by
  refine shows_of_fix (p := 0) (fun _ _ => rfl) (fun _ => rfl) (fun c i x => ?_) (fun _ _ _ _ => by simp)
  simp only [List.map_map]
  rfl

theorem runs_pub : RunsWith .pub Instr.runPub (fun _ => True) (fun _ _ _ => []) (fun c _ x => [c.atLatch.getI pubAt Pub.sent (x.p 0)])
    (fun _ _ x => [.publish (x.p 0) (64 * x.p 1) (x.ins.flatMap (leBytes 4))]) := by
  refine runsWith_of (fun _ _ => rfl) (fun h _ => ⟨rfl, ?_, ?_⟩) (fun _ _ _ => rfl)
  all_goals
    obtain ⟨m, -, hsig⟩ := h.sig_of_var (p := 2) (n := 0) (ins := []) (t := 3) (lo := 1) (hi := 16) (os := [3]) rfl
    rw [hsig]
    rfl

/-- The status of a subscription: valid, stale and fault of what was received (R198). -/
theorem stOf_sub (valid stale short : Bool) : stOf valid stale false false false false false short =
    (if short = false ∧ valid = true then 1 else 0) + (if stale = true then 2 else 0) + (if short then 128 else 0) := by
  cases valid <;> cases stale <;> cases short <;> decide

theorem shows_sub : Shows .sub_ Instr.runSubBlock (fun c _ x =>
    match c.eng.subsLatched.find? (fun h => h.partner == x.p 0 && h.pub == x.p 1) with
    | none => List.replicate 16 0 ++ [2, 2 ^ 32 - 1]
    | some h =>
      let age := c.eng.latchNow - h.rxAt
      let short := decide (h.data.length < 64 * x.p 2 + 64)
      let cls := ageClass age (x.p 3) (x.p 4)
      (List.range 16).map (fun k => if 64 * x.p 2 + 4 * k + 4 ≤ h.data.length then numAt h.data (64 * x.p 2 + 4 * k) 4 else 0) ++
        [(if short = false ∧ cls ≠ 2 then 1 else 0) + (if cls ≠ 1 then 2 else 0) + (if short then 128 else 0),
          min age (2 ^ 32 - 1)]) := by
  have hnone : stOf false true false false false false false false = 2 := by decide
  refine shows_of_fix (p := 5) (fun _ _ => rfl) (fun _ => rfl) (fun c i x => ?_) (fun c i x _ => ?_)
  · cases c.eng.subsLatched.find? (fun h => h.partner == x.p 0 && h.pub == x.p 1) with
    | none => simp only [hnone]
    | some h => simp only [stOf_sub, bne_iff_ne]
  · cases c.eng.subsLatched.find? (fun h => h.partner == x.p 0 && h.pub == x.p 1) <;> simp

theorem runs_evraise (s : State) (q : Fin 65536) (i : Inv) (ty : Nat) (h : Ready s .evraise q.val i ty) :
    let x := s.chip.ctx i ty
    let payload := bytesAt (bytesAt ((x.ins.drop 1).flatMap (leBytes 4)) 0 16 ++ leBytes 4 i.seq) 0 32
    ∃ t u, exec (.runEvraise q) s = .next t ∧
      Ran s u i [if x.i 0 = 0 then 0 else 1] [(x.o 0 + if x.rise 0 0 then 1 else 0) % 2 ^ 32] [] ∧
      (x.rise 0 0 → t = { u with chip := u.chip.recordAs 95 i.region (x.p 1) (x.p 0) payload false }) ∧
      (¬ x.rise 0 0 → t = u) := by
  intro x payload
  obtain ⟨m, -, hsig⟩ := h.sig_of_var (p := 2) (n := 1) (ins := [inp 0]) (t := 3) (lo := 0) (hi := 4) (os := [3]) rfl
  have hres : b2n (x.b 0 && nth 0 x.st 0 == 0) = if x.rise 0 0 then 1 else 0 := b2n_eq_ite _ x.rise_iff_st
  have hran := h.ran_commit
    (r := { st := [if x.i 0 = 0 then 0 else 1], outs := [(x.o 0 + if x.rise 0 0 then 1 else 0) % 2 ^ 32] })
    (by rw [hsig]; exact le_refl 1) (by rw [hsig]; exact Eq.refl 1)
  have hexec := h.exec_invokeWith (cmd := .runEvraise q)
    (r := { st := [if x.i 0 = 0 then 0 else 1], outs := [(x.o 0 + if x.rise 0 0 then 1 else 0) % 2 ^ 32] })
    (after := fun c => if x.rise 0 0 then c.recordAs 95 i.region (x.p 1) (x.p 0) payload false else c) rfl
    (by simp only [← hres, ← x.b2n_b]; rfl) (if_congr x.rise_iff_st rfl rfl)
  refine ⟨_, _, hexec, hran, fun hr => ?_, fun hr => ?_⟩
  · rw [if_pos hr]
    rfl
  · rw [if_neg hr]
    rfl

theorem runs_pfield : RunsWith .pfield Instr.runPfield (fun _ => True) (fun _ _ _ => []) (fun _ _ _ => [])
    (fun _ _ x => [.field (x.p 0) (x.p 1) (x.i 0) (min (max (signed 32 (x.i 1)) 0) 15).toNat (x.i 2 != 0)]) :=
  runsWith_of_fix (p := 2) (n := 0) (fun _ _ => rfl) (fun _ => rfl) (fun _ _ _ => rfl) (fun _ _ _ => rfl) (fun _ _ _ _ => rfl)
    (fun _ _ _ _ => rfl)

/-- A commit changes no word outside the spaces of regions. -/
theorem Ready.word_commit_module {s : State} {b : Blk} {q : Nat} {i : Inv} {ty : Nat} (h : Ready s b q i ty) (r : Res) {a : Nat}
    (ha : 8 ≤ spaceOf a) : ((s.chip.commit i r).fresh).word a = s.chip.word a :=
  (Chip.fresh_word _ _).trans (Chip.commit_word_other _ _ h.region fun hw => absurd (h.commitWord_space hw) (by omega))

theorem Ready.minBlink_commit {s : State} {b : Blk} {q : Nat} {i : Inv} {ty : Nat} (h : Ready s b q i ty) (r : Res) :
    ((s.chip.commit i r).fresh).minBlink = s.chip.minBlink := by
  have hkind : ((s.chip.commit i r).fresh).get panelAt Panel.kind = s.chip.get panelAt Panel.kind :=
    Chip.get_congr (h.word_commit_module r (by decide))
  simp only [Chip.minBlink, hkind]

theorem runs_pblink : RunsWith .pblink Instr.runPblink (fun _ => True) (fun _ _ _ => [])
    (fun c _ x => [if x.i 1 < c.minBlink then 1 else 0])
    (fun c _ x => [.blink (x.p 0) (x.i 0 != 0) (max (x.i 1) c.minBlink)]) := by
  refine runsWith_of (fun _ _ => rfl) (fun h _ => ⟨?_, ?_, ?_⟩) (fun r h _ => ?_)
  · simp only [b2n_decide]
    rfl
  · rw [h.sig_of_fix (p := 1) (n := 0) (ins := [inp 0, inp 5]) (os := [0]) rfl]
    rfl
  · rw [h.sig_of_fix (p := 1) (n := 0) (ins := [inp 0, inp 5]) (os := [0]) rfl]
    rfl
  · simp only [h.minBlink_commit]
    rfl

theorem Ready.panel_commit {s : State} {b : Blk} {q : Nat} {i : Inv} {ty : Nat} (h : Ready s b q i ty) (r : Res) :
    ((s.chip.commit i r).fresh).panel = s.chip.panel := by
  obtain ⟨rg, cs, n, co, so, hc⟩ := s.chip.commit_frame r h.region
  rw [Chip.fresh_panel, hc]

theorem runs_ppage : RunsWith .ppage Instr.runPpage (fun _ => True) (fun _ _ _ => [])
    (fun c _ x => [c.atLatch.get panelAt Panel.page_now, if ∃ p ∈ c.panel.pages, p.page = x.i 0 then 0 else 1])
    (fun c _ x => if ∃ p ∈ c.panel.pages, p.page = x.i 0 then [.page (x.i 0)] else []) := by
  have hhas : ∀ (c : Chip) (n : Nat), c.panel.pages.any (fun p => p.page == n) = true ↔ ∃ p ∈ c.panel.pages, p.page = n :=
    fun c n => by simp
  have hno : ∀ (c : Chip) (n : Nat), b2n (!c.panel.pages.any (fun p => p.page == n)) =
      if ∃ p ∈ c.panel.pages, p.page = n then 0 else 1 := fun c n => by
    by_cases hp : ∃ p ∈ c.panel.pages, p.page = n
    · rw [if_pos hp, (hhas c n).2 hp]
      rfl
    · rw [if_neg hp, Bool.eq_false_of_not_eq_true (mt (hhas c n).1 hp)]
      rfl
  refine runsWith_of (fun _ _ => rfl) (fun h _ => ⟨?_, ?_, ?_⟩) (fun r h _ => ?_)
  · simp only [hno]
    rfl
  · rw [h.sig_of_fix (p := 0) (n := 0) (ins := [inp 2]) (os := [2, 0]) rfl]
    rfl
  · rw [h.sig_of_fix (p := 0) (n := 0) (ins := [inp 2]) (os := [2, 0]) rfl]
    rfl
  · simp only [h.panel_commit]
    exact Chip.ask_of_iff (hhas _ _) _ _ _

theorem shows_pstat : Shows .pstat Instr.runPstat (fun c _ _ =>
    let l := c.atLatch
    [l.get panelAt Panel.up, l.get panelAt Panel.dirty, l.get panelAt Panel.rails_ok]) :=
  shows_of_fix (p := 0) (fun _ _ => rfl) (fun _ => rfl) (fun _ _ _ => rfl) (fun _ _ _ _ => rfl)

theorem shows_pairst : Shows .pairst Instr.runPairst (fun c _ _ =>
    let l := c.atLatch
    if l.get pairAt Pair.lease_state ∈ [0, 5, 6] then [0, 0, 0, 0, 0]
    else [if l.get pairAt Pair.partner_state = 4 then 1 else 0, l.get pairAt Pair.lane_a, l.get pairAt Pair.lane_b,
      l.get pairAt Pair.holder_pos, l.get pairAt Pair.compat]) := by
  refine shows_of_fix (p := 0) (fun _ _ => rfl) (fun _ => rfl) (fun c i x => ?_) (fun _ _ _ _ => length_ite rfl rfl)
  simp only [← apply_ite outsOnly, b2n, beq_iff_eq]
  exact congrArg outsOnly (if_congr (by simp [or_assoc]) rfl rfl)

theorem shows_sfst : Shows .sfst Instr.runSfst (fun c _ x =>
    let r := nth (0, false) c.eng.sfLatched (x.p 0)
    [r.1, if r.1 = 4 then 1 else 0, b2n r.2, if r.1 = 3 then 1 else 0]) :=
  shows_of_fix (p := 1) (fun _ _ => rfl) (fun _ => rfl) (fun c i x => by simp only [b2n, beq_iff_eq]) (fun _ _ _ _ => rfl)

theorem runs_parwr : RunsWith .parwr Instr.runParwr (fun _ => True) (fun _ _ x => [if x.i 0 = 0 then 0 else 1])
    (fun c i x =>
      if x.rise 0 0 then [1, 0, 0, 0]
      else match c.eng.wrLatched.find? (fun o => o.seq == i.seq) with
        | none => [0, 0, 0, 0]
        | some o => if o.busy then [1, 0, 0, o.code] else if o.ok then [0, 1, 0, o.code] else [0, 0, 1, o.code])
    (fun _ _ x => if x.rise 0 0 then [.change (x.p 0) (x.i 1)] else []) := by
  refine runsWith_of_fix (p := 1) (n := 1) (fun _ _ => rfl) (fun _ => rfl) (fun c i x => ?_) (fun _ _ _ => rfl) (fun c i x _ => ?_)
    (fun _ d i x => Chip.ask_of_iff x.rise_iff_st d i.seq _)
  · simp only [x.b2n_b, x.rise_iff_st]
    cases c.eng.wrLatched.find? (fun o => o.seq == i.seq) with
    | none => rfl
    | some o => cases hb : o.busy <;> cases ho : o.ok <;> simp [hb, ho, b2n]
  · refine length_ite rfl ?_
    cases c.eng.wrLatched.find? (fun o => o.seq == i.seq) with
    | none => rfl
    | some o => exact length_ite rfl (length_ite rfl rfl)

theorem shows_parrd : Shows .parrd Instr.runParrd (fun c _ x =>
    if (c.atLatch.readWord (x.p 0)).1 = 0 then [(c.atLatch.readWord (x.p 0)).2, 1] else [0, 0]) := by
  refine shows_of_fix (p := 1) (fun _ _ => rfl) (fun _ => rfl) (fun c i x => ?_) (fun _ _ _ _ => length_ite rfl rfl)
  generalize c.atLatch.readWord (x.p 0) = r
  obtain ⟨st, v⟩ := r
  cases st <;> rfl

/-- The word a PERF invocation reads: the window of an event counter, or one of the two of the block (R208). -/
def perfAddr (x : Ctx) : Nat := if x.p 1 < 8 then ctrAt (x.p 0) + 0x14 + 8 * x.p 1 else ctrAt (x.p 0) + (x.p 1 - 8)

theorem Ready.exec_perf {s : State} {q : Fin 65536} {i : Inv} {ty : Nat} (h : Ready s .perf q.val i ty) {v flags : Nat}
    (hv : (s.chip.atLatch.readWord (perfAddr (s.chip.ctx i ty))).2 = v)
    (hflags : (s.chip.atLatch.readWord (ctrAt ((s.chip.ctx i ty).p 0) + 7)).2 = flags) :
    ∃ t, exec (.runPerf q) s = .next t ∧ Ran s t i [v] [v, (v + 2 ^ 32 - (s.chip.ctx i ty).w 0) % 2 ^ 32,
      b2n (decide ((s.chip.ctx i ty).p 1 < 8) && flags.testBit ((s.chip.ctx i ty).p 1))] [] := by
  have hsig := h.sig_of_fix (p := 2) (n := 1) (ins := []) (os := [3, 3, 0]) rfl
  refine ⟨_, h.exec_invokeWith (cmd := .runPerf q) (r := { st := [v], outs := [v, (v + 2 ^ 32 - (s.chip.ctx i ty).w 0) % 2 ^ 32,
    b2n (decide ((s.chip.ctx i ty).p 1 < 8) && flags.testBit ((s.chip.ctx i ty).p 1))] }) (after := id) rfl ?_ rfl,
    h.ran_commit (r := { st := _, outs := _ }) (by rw [hsig]; exact le_refl 1) (by rw [hsig]; exact Eq.refl 3)⟩
  rw [← hv, ← hflags]
  rfl

theorem runs_perf (s : State) (q : Fin 65536) (i : Inv) (ty : Nat) (h : Ready s .perf q.val i ty) :
    let x := s.chip.ctx i ty
    x.p 0 < 8 →
    let word := fun k => (s.chip.atLatch.readWord (ctrAt (x.p 0) + k)).2
    ∃ t, exec (.runPerf q) s = .next t ∧
      (x.p 1 < 8 → Ran s t i [word (0x14 + 8 * x.p 1)]
        [word (0x14 + 8 * x.p 1), (word (0x14 + 8 * x.p 1) + 2 ^ 32 - x.w 0) % 2 ^ 32, word 7 / 2 ^ x.p 1 % 2] []) ∧
      (x.p 1 = 8 ∨ x.p 1 = 9 → Ran s t i [word (x.p 1 - 8)] [word (x.p 1 - 8), (word (x.p 1 - 8) + 2 ^ 32 - x.w 0) % 2 ^ 32, 0] []) := by
  intro x _ word
  obtain ⟨t, ht, hran⟩ := h.exec_perf rfl rfl
  refine ⟨t, ht, fun hk => ?_, fun hk => ?_⟩
  · have hword : (s.chip.atLatch.readWord (perfAddr x)).2 = word (0x14 + 8 * x.p 1) := by
      rw [perfAddr, if_pos hk, Nat.add_assoc]
    rw [hword, decide_eq_true hk, Bool.true_and, b2n_testBit] at hran
    exact hran
  · have hno : ¬ x.p 1 < 8 := by omega
    have hword : (s.chip.atLatch.readWord (perfAddr x)).2 = word (x.p 1 - 8) := by
      rw [perfAddr, if_neg hno]
    rw [hword, decide_eq_false hno, Bool.false_and] at hran
    exact hran

/-- Settles O53: each block's result and acts, by what its command evaluates. -/
theorem moduleBlocks : Obligations.ModuleBlocks :=
  ⟨shows_chgrp, runs_pub, shows_sub, runs_evraise, runs_pfield, runs_pblink, runs_ppage, shows_pstat, shows_pairst, shows_sfst,
    runs_parwr, shows_parrd, runs_perf⟩

end Sys2Proof.Machine
end

section
/-! SUPPORT. The sizes of the fixed stores, one by one (Table 0.1). -/

namespace Sys2Proof.Machine

/-! ### The sizes of the fixed stores (Table 0.1) -/

theorem reset_shape : State.reset.chip.shape = [128, 256, 8, 16, 8, 8, 8, 8, 32, 16, 16, 2, 8, 8, 8, 8, 8, 4, 4, 2] := by
  simp -implicitDefEqProofs [Chip.shape, State.reset, -List.reduceReplicate]

/-- A machine of this kind has as many members in each store as at reset. -/
structure Chip.Sized (c : Chip) : Prop where
  chans : c.chans.length = 128
  loops : c.loops.length = 256
  slices : c.slices.length = 8
  axes : c.axes.length = 16
  ports : c.ports.length = 8
  ctrs : c.ctrs.length = 8
  fab : c.fab.length = 8
  isles : c.safe.slices.length = 8
  sfs : c.safe.sfs.length = 32
  prods : c.safe.prods.length = 16
  sess : c.net.sess.length = 16
  ptp : c.net.ptp.length = 2
  testing : c.sys.testing.length = 8
  gs : c.sys.gs.length = 8
  cj : c.sys.cj.length = 8
  clkLost : c.sys.clkLost.length = 8
  blink : c.panel.blink.length = 8
  cmp : c.aon.cmp.length = 4
  winAt : c.recd.winAt.length = 4
  encs : c.sys.encs.length = 2

theorem Shaped.sized {s : State} (h : Shaped s) : s.chip.Sized := by
  have hs : s.chip.shape = [128, 256, 8, 16, 8, 8, 8, 8, 32, 16, 16, 2, 8, 8, 8, 8, 8, 4, 4, 2] := Eq.trans h reset_shape
  simp only [Chip.shape, List.cons.injEq] at hs
  obtain ⟨h1, h2, h3, h4, h5, h6, h7, h8, h9, h10, h11, h12, h13, h14, h15, h16, h17, h18, h19, h20, -⟩ := hs
  exact ⟨h1, h2, h3, h4, h5, h6, h7, h8, h9, h10, h11, h12, h13, h14, h15, h16, h17, h18, h19, h20⟩

theorem Shaped.chans {s : State} (h : Shaped s) : s.chip.chans.length = 128 := h.sized.chans
theorem Shaped.loops {s : State} (h : Shaped s) : s.chip.loops.length = 256 := h.sized.loops
theorem Shaped.slices {s : State} (h : Shaped s) : s.chip.slices.length = 8 := h.sized.slices
theorem Shaped.axes {s : State} (h : Shaped s) : s.chip.axes.length = 16 := h.sized.axes
theorem Shaped.ports {s : State} (h : Shaped s) : s.chip.ports.length = 8 := h.sized.ports
theorem Shaped.ctrs {s : State} (h : Shaped s) : s.chip.ctrs.length = 8 := h.sized.ctrs
theorem Shaped.fab {s : State} (h : Shaped s) : s.chip.fab.length = 8 := h.sized.fab
theorem Shaped.isles {s : State} (h : Shaped s) : s.chip.safe.slices.length = 8 := h.sized.isles
theorem Shaped.sess {s : State} (h : Shaped s) : s.chip.net.sess.length = 16 := h.sized.sess

end Sys2Proof.Machine
end

section
/-! SUPPORT. Fields and words: what a write of a field leaves of the others, and the words an operation may change. -/

namespace Sys2Proof.Machine

/-! ### Fields of one block -/

/-- Two fields of a block of which a write of the first leaves the second: they stand in different words, or in different bits. -/
def Field.clear (f g : Field) : Bool :=
  (f.first != g.first || decide (f.hi < g.lo) || decide (g.hi < f.lo)) && decide (f.lo ≤ f.hi) && decide (f.hi < 32)

/-- The bits of a field lie in a word. -/
def Field.sound (f : Field) : Bool := decide (f.lo ≤ f.hi) && decide (f.hi < 32)

theorem Field.sound_iff {f : Field} : f.sound = true ↔ f.lo ≤ f.hi ∧ f.hi < 32 := by simp [Field.sound]

theorem Field.apart_of_clear {f g : Field} (b : Nat) (h : f.clear g = true) : f.apart b 0 g b 0 := by
  simp only [Field.clear, Bool.and_eq_true, Bool.or_eq_true, bne_iff_ne, ne_eq, decide_eq_true_eq] at h
  simp only [Field.apart, Field.at]
  omega

theorem Field.sound_of_clear {f g : Field} (h : f.clear g = true) : f.sound = true := by
  simp only [Field.clear, Bool.and_eq_true] at h
  simp [Field.sound, h]

@[simp] theorem Chip.get_put_clear (c : Chip) (b v : Nat) {f g : Field} (h : f.clear g = true) :
    (c.put b f v).get b g = c.get b g := by
  obtain ⟨hl, hh⟩ := Field.sound_iff.1 (Field.sound_of_clear h)
  exact Chip.get_put_apart c b f v b g hl hh (Field.apart_of_clear b h)

theorem Chip.get_put_self (c : Chip) (b v : Nat) {f : Field} (h : f.sound = true) :
    (c.put b f v).get b f = v % 2 ^ (f.hi + 1 - f.lo) := by
  obtain ⟨hl, hh⟩ := Field.sound_iff.1 h
  exact Chip.get_put_same c b f v hl hh

/-- A value that fits its field is read back as it was written. -/
theorem Chip.get_put_of_lt (c : Chip) (b : Nat) {v : Nat} {f : Field} (h : f.sound = true) (hv : v < 2 ^ (f.hi + 1 - f.lo)) :
    (c.put b f v).get b f = v := by
  rw [Chip.get_put_self c b v h, Nat.mod_eq_of_lt hv]

/-- A field of another block is as before. -/
theorem Chip.get_put_other (c : Chip) {b b' v : Nat} {f g : Field} (h : g.at b' 0 ≠ f.at b 0) :
    (c.put b f v).get b' g = c.get b' g := Chip.get_congr (Chip.word_put_other c v h)

theorem Chip.getI_put_other (c : Chip) {b b' v k : Nat} {f g : Field} (h : g.at b' k ≠ f.at b 0) :
    (c.put b f v).getI b' g k = c.getI b' g k := Chip.getI_congr (Chip.word_put_other c v h)

theorem Chip.getI_putI_other (c : Chip) {b b' v k j : Nat} {f g : Field} (h : g.at b' k ≠ f.at b j) :
    (c.putI b f j v).getI b' g k = c.getI b' g k := Chip.getI_congr (Chip.word_putI_other c v h)

theorem Chip.get_putI_other (c : Chip) {b b' v j : Nat} {f g : Field} (h : g.at b' 0 ≠ f.at b j) :
    (c.putI b f j v).get b' g = c.get b' g := Chip.getI_putI_other c h

/-! ### The words an operation may change -/

/-- Every word outside a set reads in `d` as in `c`. -/
def Chip.WordsBut (P : Nat → Prop) (c d : Chip) : Prop := ∀ a, ¬ P a → d.word a = c.word a

namespace Chip.WordsBut

variable {P Q : Nat → Prop} {c d e : Chip}

theorem refl (P : Nat → Prop) (c : Chip) : c.WordsBut P c := fun _ _ => rfl

theorem trans (h : c.WordsBut P d) (k : d.WordsBut P e) : c.WordsBut P e := fun a ha => (k a ha).trans (h a ha)

theorem mono (h : c.WordsBut P d) (hsub : ∀ a, P a → Q a) : c.WordsBut Q d := fun a ha => h a (fun hp => ha (hsub a hp))

theorem of_regs (h : d.regs = c.regs) : c.WordsBut P d := fun a _ => by rw [Chip.word, h, Chip.word]

theorem setWord (c : Chip) {a : Nat} (v : Word) (h : P a) : c.WordsBut P (c.setWord a v) :=
  fun _ hb => Chip.word_setWord_other c v (fun e => hb (e ▸ h))

theorem putI (c : Chip) {b i : Nat} {f : Field} (v : Nat) (h : P (f.at b i)) : c.WordsBut P (c.putI b f i v) :=
  fun _ hb => Chip.word_putI_other c v (fun e => hb (e ▸ h))

theorem put (c : Chip) {b : Nat} {f : Field} (v : Nat) (h : P (f.at b 0)) : c.WordsBut P (c.put b f v) := putI c v h

theorem record (c : Chip) (source region severity subject : Nat) (bs ws : List Nat) (h : ∀ a, spaceOf a = 10 → P a) :
    c.WordsBut P (c.record source region severity subject bs ws) :=
  fun _ ha => Chip.record_word c _ _ _ _ _ _ (fun e => ha (h _ e))

theorem ite {b : Prop} [Decidable b] (h : b → c.WordsBut P d) (k : ¬ b → c.WordsBut P e) : c.WordsBut P (if b then d else e) := by
  split
  · next hb => exact h hb
  · next hb => exact k hb

theorem get (h : c.WordsBut P d) {b : Nat} {f : Field} (hn : ¬ P (f.at b 0)) : d.get b f = c.get b f := Chip.get_congr (h _ hn)

end Chip.WordsBut

/-- A relation that each step of a list keeps holds from its start to its end. -/
theorem Chip.each_rel {α : Type} {R : Chip → Chip → Prop} (hrefl : ∀ c, R c c) (htrans : ∀ c d e, R c d → R d e → R c e)
    {f : Chip → α → Chip} (l : List α) (hstep : ∀ c, ∀ x ∈ l, R c (f c x)) (c : Chip) : R c (c.each l f) := by
  unfold Chip.each
  induction l generalizing c with
  | nil => exact hrefl c
  | cons x xs ih =>
    exact htrans _ _ _ (hstep c x List.mem_cons_self) (ih (fun d y hy => hstep d y (List.mem_cons_of_mem x hy)) (f c x))

/-! ### Updates beside the words leave every field -/

@[simp] theorem Chip.fresh_getI (c : Chip)  (w : Nat) (fd : Field) (m : Nat) : (c.fresh).getI w fd m = c.getI w fd m := (rfl)
@[simp] theorem Chip.fresh_get (c : Chip)  (w : Nat) (fd : Field) : (c.fresh).get w fd = c.get w fd := (rfl)
@[simp] theorem Chip.setChan_getI (c : Chip) (g : Nat) (f : ChanSt → ChanSt) (w : Nat) (fd : Field) (m : Nat) : (c.setChan g f).getI w fd m = c.getI w fd m := (rfl)
@[simp] theorem Chip.setChan_get (c : Chip) (g : Nat) (f : ChanSt → ChanSt) (w : Nat) (fd : Field) : (c.setChan g f).get w fd = c.get w fd := (rfl)
@[simp] theorem Chip.setAx_getI (c : Chip) (x : Nat) (f : AxSt → AxSt) (w : Nat) (fd : Field) (m : Nat) : (c.setAx x f).getI w fd m = c.getI w fd m := (rfl)
@[simp] theorem Chip.setAx_get (c : Chip) (x : Nat) (f : AxSt → AxSt) (w : Nat) (fd : Field) : (c.setAx x f).get w fd = c.get w fd := (rfl)
@[simp] theorem Chip.setSys_getI (c : Chip) (f : SysSt → SysSt) (w : Nat) (fd : Field) (m : Nat) : (c.setSys f).getI w fd m = c.getI w fd m := (rfl)
@[simp] theorem Chip.setSys_get (c : Chip) (f : SysSt → SysSt) (w : Nat) (fd : Field) : (c.setSys f).get w fd = c.get w fd := (rfl)
@[simp] theorem Chip.setXfer_getI (c : Chip) (f : XferSt → XferSt) (w : Nat) (fd : Field) (m : Nat) : (c.setXfer f).getI w fd m = c.getI w fd m := (rfl)
@[simp] theorem Chip.setXfer_get (c : Chip) (f : XferSt → XferSt) (w : Nat) (fd : Field) : (c.setXfer f).get w fd = c.get w fd := (rfl)
@[simp] theorem Chip.setFab_getI (c : Chip) (r : Nat) (f : FabSt → FabSt) (w : Nat) (fd : Field) (m : Nat) : (c.setFab r f).getI w fd m = c.getI w fd m := (rfl)
@[simp] theorem Chip.setFab_get (c : Chip) (r : Nat) (f : FabSt → FabSt) (w : Nat) (fd : Field) : (c.setFab r f).get w fd = c.get w fd := (rfl)
@[simp] theorem Chip.setLink_getI (c : Chip) (r k : Nat) (f : LinkSt → LinkSt) (w : Nat) (fd : Field) (m : Nat) : (c.setLink r k f).getI w fd m = c.getI w fd m := (rfl)
@[simp] theorem Chip.setLink_get (c : Chip) (r k : Nat) (f : LinkSt → LinkSt) (w : Nat) (fd : Field) : (c.setLink r k f).get w fd = c.get w fd := (rfl)
@[simp] theorem Chip.setPanel_getI (c : Chip) (f : PanelSt → PanelSt) (w : Nat) (fd : Field) (m : Nat) : (c.setPanel f).getI w fd m = c.getI w fd m := (rfl)
@[simp] theorem Chip.setPanel_get (c : Chip) (f : PanelSt → PanelSt) (w : Nat) (fd : Field) : (c.setPanel f).get w fd = c.get w fd := (rfl)
@[simp] theorem Chip.setNet_getI (c : Chip) (f : NetSt → NetSt) (w : Nat) (fd : Field) (m : Nat) : (c.setNet f).getI w fd m = c.getI w fd m := (rfl)
@[simp] theorem Chip.setNet_get (c : Chip) (f : NetSt → NetSt) (w : Nat) (fd : Field) : (c.setNet f).get w fd = c.get w fd := (rfl)
@[simp] theorem Chip.setSess_getI (c : Chip) (i : Nat) (f : SessSt → SessSt) (w : Nat) (fd : Field) (m : Nat) : (c.setSess i f).getI w fd m = c.getI w fd m := (rfl)
@[simp] theorem Chip.setSess_get (c : Chip) (i : Nat) (f : SessSt → SessSt) (w : Nat) (fd : Field) : (c.setSess i f).get w fd = c.get w fd := (rfl)
@[simp] theorem Chip.setPtp_getI (c : Chip) (p : Nat) (f : PtpSt → PtpSt) (w : Nat) (fd : Field) (m : Nat) : (c.setPtp p f).getI w fd m = c.getI w fd m := (rfl)
@[simp] theorem Chip.setPtp_get (c : Chip) (p : Nat) (f : PtpSt → PtpSt) (w : Nat) (fd : Field) : (c.setPtp p f).get w fd = c.get w fd := (rfl)
@[simp] theorem Chip.setEng_getI (c : Chip) (f : EngSt → EngSt) (w : Nat) (fd : Field) (m : Nat) : (c.setEng f).getI w fd m = c.getI w fd m := (rfl)
@[simp] theorem Chip.setEng_get (c : Chip) (f : EngSt → EngSt) (w : Nat) (fd : Field) : (c.setEng f).get w fd = c.get w fd := (rfl)
@[simp] theorem Chip.setLoop_getI (c : Chip) (n : Nat) (f : LoopSt → LoopSt) (w : Nat) (fd : Field) (m : Nat) : (c.setLoop n f).getI w fd m = c.getI w fd m := (rfl)
@[simp] theorem Chip.setLoop_get (c : Chip) (n : Nat) (f : LoopSt → LoopSt) (w : Nat) (fd : Field) : (c.setLoop n f).get w fd = c.get w fd := (rfl)
@[simp] theorem Chip.setSlice_getI (c : Chip) (r : Nat) (f : SliceSt → SliceSt) (w : Nat) (fd : Field) (m : Nat) : (c.setSlice r f).getI w fd m = c.getI w fd m := (rfl)
@[simp] theorem Chip.setSlice_get (c : Chip) (r : Nat) (f : SliceSt → SliceSt) (w : Nat) (fd : Field) : (c.setSlice r f).get w fd = c.get w fd := (rfl)
@[simp] theorem Chip.setPort_getI (c : Chip) (r : Nat) (f : PortSt → PortSt) (w : Nat) (fd : Field) (m : Nat) : (c.setPort r f).getI w fd m = c.getI w fd m := (rfl)
@[simp] theorem Chip.setPort_get (c : Chip) (r : Nat) (f : PortSt → PortSt) (w : Nat) (fd : Field) : (c.setPort r f).get w fd = c.get w fd := (rfl)
@[simp] theorem Chip.setObj_getI (c : Chip) (r j : Nat) (f : PortObj → PortObj) (w : Nat) (fd : Field) (m : Nat) : (c.setObj r j f).getI w fd m = c.getI w fd m := (rfl)
@[simp] theorem Chip.setObj_get (c : Chip) (r j : Nat) (f : PortObj → PortObj) (w : Nat) (fd : Field) : (c.setObj r j f).get w fd = c.get w fd := (rfl)
@[simp] theorem Chip.setSta_getI (c : Chip) (r k : Nat) (f : PortSta → PortSta) (w : Nat) (fd : Field) (m : Nat) : (c.setSta r k f).getI w fd m = c.getI w fd m := (rfl)
@[simp] theorem Chip.setSta_get (c : Chip) (r k : Nat) (f : PortSta → PortSta) (w : Nat) (fd : Field) : (c.setSta r k f).get w fd = c.get w fd := (rfl)
@[simp] theorem Chip.setPair_getI (c : Chip) (f : PairSt → PairSt) (w : Nat) (fd : Field) (m : Nat) : (c.setPair f).getI w fd m = c.getI w fd m := (rfl)
@[simp] theorem Chip.setPair_get (c : Chip) (f : PairSt → PairSt) (w : Nat) (fd : Field) : (c.setPair f).get w fd = c.get w fd := (rfl)
@[simp] theorem Chip.setRec_getI (c : Chip) (f : RecSt → RecSt) (w : Nat) (fd : Field) (m : Nat) : (c.setRec f).getI w fd m = c.getI w fd m := (rfl)
@[simp] theorem Chip.setRec_get (c : Chip) (f : RecSt → RecSt) (w : Nat) (fd : Field) : (c.setRec f).get w fd = c.get w fd := (rfl)
@[simp] theorem Chip.setIsle_getI (c : Chip) (r : Nat) (f : IsleSt → IsleSt) (w : Nat) (fd : Field) (m : Nat) : (c.setIsle r f).getI w fd m = c.getI w fd m := (rfl)
@[simp] theorem Chip.setIsle_get (c : Chip) (r : Nat) (f : IsleSt → IsleSt) (w : Nat) (fd : Field) : (c.setIsle r f).get w fd = c.get w fd := (rfl)
@[simp] theorem Chip.setProd_getI (c : Chip) (k : Nat) (f : ProdSt → ProdSt) (w : Nat) (fd : Field) (m : Nat) : (c.setProd k f).getI w fd m = c.getI w fd m := (rfl)
@[simp] theorem Chip.setProd_get (c : Chip) (k : Nat) (f : ProdSt → ProdSt) (w : Nat) (fd : Field) : (c.setProd k f).get w fd = c.get w fd := (rfl)
@[simp] theorem Chip.setSf_getI (c : Chip) (n : Nat) (f : SfSt → SfSt) (w : Nat) (fd : Field) (m : Nat) : (c.setSf n f).getI w fd m = c.getI w fd m := (rfl)
@[simp] theorem Chip.setSf_get (c : Chip) (n : Nat) (f : SfSt → SfSt) (w : Nat) (fd : Field) : (c.setSf n f).get w fd = c.get w fd := (rfl)
@[simp] theorem Chip.setCtr_getI (c : Chip) (r j : Nat) (f : CtrOne → CtrOne) (w : Nat) (fd : Field) (m : Nat) : (c.setCtr r j f).getI w fd m = c.getI w fd m := (rfl)
@[simp] theorem Chip.setCtr_get (c : Chip) (r j : Nat) (f : CtrOne → CtrOne) (w : Nat) (fd : Field) : (c.setCtr r j f).get w fd = c.get w fd := (rfl)

/-! ### The members of the stores -/

theorem Chip.chan_setChan_self (c : Chip) {g : Nat} (f : ChanSt → ChanSt) (h : g < c.chans.length) :
    (c.setChan g f).chan g = f (c.chan g) := nth_upd_same _ _ _ _ h

@[simp] theorem Chip.setChan_chans_length (c : Chip) (g : Nat) (f : ChanSt → ChanSt) :
    (c.setChan g f).chans.length = c.chans.length := upd_length _ _ _

@[simp] theorem Chip.chan_setChan_other (c : Chip) {g q : Nat} (f : ChanSt → ChanSt) (h : q ≠ g) : (c.setChan g f).chan q = c.chan q :=
  nth_upd_other _ _ _ h

theorem Chip.chan_congr {c d : Chip} (h : d.chans = c.chans) (q : Nat) : d.chan q = c.chan q := by rw [Chip.chan, h, Chip.chan]

end Sys2Proof.Machine
end

section
/-! SUPPORT. A REAL32 pattern fits its word: the rounding of an exact rational (R187). -/

namespace Sys2Proof.Machine

/-! ### A REAL32 pattern fits its word -/

/-- The power of two above num/den that its logarithm names. -/
theorem lt_of_ratLog2 {num den p q : Nat} (hn : num ≠ 0) (hd : den ≠ 0) (h : (p : Int) - q = ratLog2 num den + 1) :
    num * 2 ^ q < den * 2 ^ p := by
  unfold ratLog2 at h
  simp only [] at h
  generalize he : (Nat.log2 num : Int) - (Nat.log2 den : Int) = e at h
  generalize hf : (if 0 ≤ e then decide (den * 2 ^ e.toNat ≤ num) else decide (den ≤ num * 2 ^ (-e).toNat)) = fits at h
  cases fits with
  | true =>
    have hexp : Nat.log2 num + 1 + q = Nat.log2 den + p := by
      rw [if_pos rfl] at h
      omega
    calc num * 2 ^ q < 2 ^ (Nat.log2 num + 1) * 2 ^ q := Nat.mul_lt_mul_of_pos_right Nat.lt_log2_self (by positivity)
      _ = 2 ^ Nat.log2 den * 2 ^ p := by rw [← pow_add, ← pow_add, hexp]
      _ ≤ den * 2 ^ p := Nat.mul_le_mul_right _ (Nat.log2_self_le hd)
  | false =>
    rw [if_neg (by decide)] at h
    by_cases h0 : 0 ≤ e
    · have hlt : num < den * 2 ^ e.toNat := by simpa [h0] using hf
      have hexp : p = e.toNat + q := by omega
      calc num * 2 ^ q < den * 2 ^ e.toNat * 2 ^ q := Nat.mul_lt_mul_of_pos_right hlt (by positivity)
        _ = den * 2 ^ p := by rw [Nat.mul_assoc, ← pow_add, hexp]
    · have hlt : num * 2 ^ (-e).toNat < den := by simpa [h0] using hf
      have hexp : q = (-e).toNat + p := by omega
      calc num * 2 ^ q = num * 2 ^ (-e).toNat * 2 ^ p := by rw [Nat.mul_assoc, ← pow_add, hexp]
        _ < den * 2 ^ p := Nat.mul_lt_mul_of_pos_right hlt (by positivity)

theorem roundDiv_le {num den n : Nat} (h : num < den * n) : roundDiv num den ≤ n := by
  have hq : num / den < n := Nat.div_lt_of_lt_mul h
  unfold roundDiv
  simp only []
  split
  · omega
  split <;> omega

theorem rZero_lt (neg : Bool) : rZero neg < 2 ^ 32 := by cases neg <;> decide

theorem rRound_lt (neg : Bool) (num den : Nat) : rRound neg num den < 2 ^ 32 := by
  unfold rRound
  split
  · exact rZero_lt neg
  · next h0 =>
    obtain ⟨hn, hd⟩ : num ≠ 0 ∧ den ≠ 0 := by simpa using h0
    simp only []
    generalize he : ratLog2 num den = e
    have hm : (if 0 ≤ 23 - e then roundDiv (num * 2 ^ (23 - e).toNat) den
        else roundDiv num (den * 2 ^ (-(23 - e)).toNat)) ≤ 2 ^ 24 := by
      split
      · exact roundDiv_le (lt_of_ratLog2 hn hd (by rw [he]; omega))
      · have := lt_of_ratLog2 (p := (-(23 - e)).toNat + 24) (q := 0) hn hd (by rw [he]; omega)
        rw [pow_zero, Nat.mul_one, pow_add, ← Nat.mul_assoc] at this
        exact roundDiv_le this
    generalize (if 0 ≤ 23 - e then roundDiv (num * 2 ^ (23 - e).toNat) den
        else roundDiv num (den * 2 ^ (-(23 - e)).toNat)) = m at hm ⊢
    have hm' : (if m = 2 ^ 24 then 2 ^ 23 else m) < 2 ^ 24 := by split <;> omega
    generalize (if m = 2 ^ 24 then 2 ^ 23 else m) = m' at hm' ⊢
    generalize (if m = 2 ^ 24 then e + 1 else e) = e'
    split
    · cases neg <;> decide
    split
    · exact rZero_lt neg
    · have hs : (if neg = true then 2 ^ 31 else 0) ≤ 2 ^ 31 := by split <;> omega
      have he' : (e' + 127).toNat ≤ 254 := by omega
      omega

theorem rOfRat_lt (num : Int) (den : Nat) : rOfRat num den < 2 ^ 32 := rRound_lt _ _ _

end Sys2Proof.Machine
end

section
/-! SUPPORT. What each operation of a channel can change: the state of its own channel, the words of its block it names, and
the recorder. -/

namespace Sys2Proof.Machine

/-! ### What an operation of a channel can change -/

/-- `d` is `c` but for the state of channel g, the words of its block at the offsets ws, and what a record changes. -/
structure Chip.ChanMoves (g : Nat) (ws : List Nat) (c d : Chip) : Prop where
  frame : ∃ rg cs rc, d = { c with regs := rg, chans := cs, recd := rc }
  size : d.chans.length = c.chans.length
  others : ∀ q, q ≠ g → d.chan q = c.chan q
  words : ∀ a, spaceOf a ≠ 10 → (∀ w ∈ ws, a ≠ chanAt g + w) → d.word a = c.word a

namespace Chip.ChanMoves

variable {g : Nat} {ws vs : List Nat} {c d e : Chip}

theorem refl (g : Nat) (ws : List Nat) (c : Chip) : c.ChanMoves g ws c :=
  ⟨⟨c.regs, c.chans, c.recd, rfl⟩, rfl, fun _ _ => rfl, fun _ _ _ => rfl⟩

theorem trans (h : c.ChanMoves g ws d) (k : d.ChanMoves g ws e) : c.ChanMoves g ws e := by
  obtain ⟨⟨rg, cs, rc, hd⟩, hs, ho, hw⟩ := h
  obtain ⟨⟨rg', cs', rc', he⟩, hs', ho', hw'⟩ := k
  exact ⟨⟨rg', cs', rc', by rw [he, hd]⟩, hs'.trans hs, fun q hq => (ho' q hq).trans (ho q hq),
    fun a ha hn => (hw' a ha hn).trans (hw a ha hn)⟩

/-- More words may be named than change. -/
theorem mono (h : c.ChanMoves g ws d) (hsub : ws ⊆ vs) : c.ChanMoves g vs d :=
  { h with words := fun a ha hn => h.words a ha (fun w hw => hn w (hsub hw)) }

theorem setChan (c : Chip) (g : Nat) (ws : List Nat) (f : ChanSt → ChanSt) : c.ChanMoves g ws (c.setChan g f) :=
  ⟨⟨c.regs, (c.setChan g f).chans, c.recd, rfl⟩, Chip.setChan_chans_length c g f, fun _ hq => Chip.chan_setChan_other c f hq,
    fun _ _ _ => rfl⟩

theorem setWord (c : Chip) (g : Nat) {ws : List Nat} {w : Nat} (v : Word) (h : w ∈ ws) :
    c.ChanMoves g ws (c.setWord (chanAt g + w) v) :=
  ⟨⟨(c.setWord (chanAt g + w) v).regs, c.chans, c.recd, rfl⟩, rfl, fun _ _ => rfl,
    fun a _ hn => Chip.word_setWord_other c v (hn w h)⟩

theorem put (c : Chip) (g : Nat) {ws : List Nat} {f : Field} (v : Nat) (h : f.first ∈ ws) :
    c.ChanMoves g ws (c.put (chanAt g) f v) :=
  ⟨⟨(c.put (chanAt g) f v).regs, c.chans, c.recd, rfl⟩, rfl, fun _ _ => rfl,
    fun a _ hn => Chip.word_put_other c v (by simpa [Field.at] using hn f.first h)⟩

theorem putBit (c : Chip) (g : Nat) {ws : List Nat} {f : Field} (i : Nat) (v : Bool) (h : f.first ∈ ws) :
    c.ChanMoves g ws (c.putBit (chanAt g) f i v) := put c g _ h

theorem record (c : Chip) (g : Nat) (ws : List Nat) (source region severity subject : Nat) (bs xs : List Nat) :
    c.ChanMoves g ws (c.record source region severity subject bs xs) := by
  obtain ⟨⟨rg, rc, h⟩, hw⟩ := c.record_recOnly source region severity subject bs xs
  exact ⟨⟨rg, c.chans, rc, h⟩, by rw [h], fun q _ => by rw [h]; rfl, fun a ha _ => hw a ha⟩

theorem ite {b : Prop} [Decidable b] (h : b → c.ChanMoves g ws d) (k : ¬ b → c.ChanMoves g ws e) :
    c.ChanMoves g ws (if b then d else e) := by
  split
  · next hb => exact h hb
  · next hb => exact k hb

theorem when {b : Bool} {f : Chip → Chip} (h : c.ChanMoves g ws (f c)) : c.ChanMoves g ws (c.when b f) := ite (fun _ => h) (fun _ => refl g ws c)

/-- Words of other blocks are as before. -/
theorem word_of_not_chan (h : c.ChanMoves g ws d) (hg : g < 128) (hws : ∀ w ∈ ws, w < 65536) {a : Nat} (ha : spaceOf a ≠ 10)
    (hn : ¬ chanWord g a) : d.word a = c.word a := by
  refine h.words a ha (fun w hw he => hn ?_)
  have := hws w hw
  subst he
  simp only [chanWord, spaceOf, blockOf, chanAt, blockAddr]
  omega

theorem get (h : c.ChanMoves g ws d) (hg : g < 128) {f : Field} (hf : f.first ∉ ws) (hlt : f.first < 65536) :
    d.get (chanAt g) f = c.get (chanAt g) f := by
  refine Chip.get_congr (h.words _ ?_ (fun w hw he => hf ?_))
  · simp only [spaceOf, Field.at, chanAt, blockAddr]
    omega
  · have : f.first = w := by simpa [Field.at] using he
    exact this ▸ hw

end Chip.ChanMoves

/-! ### The operations -/

/-- The words of a channel's block that its status, its image and its flags stand in. -/
def statusOffs : List Nat := [0x0A, 0x14]
def imageOffs : List Nat := [0x09, 0x0A, 0x14]
def flagOffs : List Nat := [0x0F, 0x10]
def dFlagOffs : List Nat := [0x1F]

theorem Chip.bump_eq_put (c : Chip) (b : Nat) (f : Field) : ∃ v, c.bump b f = c.put b f v := ⟨_, rfl⟩

theorem Chip.putStatus_moves (c : Chip) (g : Nat) : c.ChanMoves g statusOffs (c.putStatus g) := by
  unfold Chip.putStatus
  refine .ite (fun _ => ?_) (fun _ => .put c g _ (by decide))
  exact (Chip.ChanMoves.put c g _ (by decide)).trans (.put _ g _ (by decide))

theorem Chip.setImage_moves (c : Chip) (g v : Nat) : c.ChanMoves g imageOffs (c.setImage g v) := by
  unfold Chip.setImage
  exact ((Chip.ChanMoves.setChan c g _ _).trans (.put _ g _ (by decide))).trans ((Chip.putStatus_moves _ g).mono (by decide))

theorem Chip.aOn_moves (c : Chip) (g n : Nat) : c.ChanMoves g flagOffs (c.aOn g n) :=
  (Chip.ChanMoves.setWord c g _ (by decide)).trans (.putBit _ g n true (by decide))

theorem Chip.aOff_moves (c : Chip) (g n : Nat) : c.ChanMoves g flagOffs (c.aOff g n) := .putBit c g n false (by decide)

theorem Chip.dOn_moves (c : Chip) (g n : Nat) : c.ChanMoves g dFlagOffs (c.dOn g n) :=
  (Chip.ChanMoves.setWord c g _ (by decide)).trans (.putBit _ g n true (by decide))

theorem Chip.dOff_moves (c : Chip) (g n : Nat) : c.ChanMoves g dFlagOffs (c.dOff g n) := .putBit c g n false (by decide)

theorem Chip.see_moves (c : Chip) (g : Nat) (k : Cond) (holds : Bool) : c.ChanMoves g [] (c.see g k holds) :=
  .ite (fun _ => .refl g _ c) (fun _ => .setChan c g _ _)

theorem Chip.seeCurrent_moves (c : Chip) (g : Nat) (ua : Int) : c.ChanMoves g [] (c.seeCurrent g ua) :=
  ((((((Chip.ChanMoves.setChan c g _ _).trans (Chip.see_moves _ g _ _)).trans (Chip.see_moves _ g _ _)).trans
    (Chip.see_moves _ g _ _)).trans (Chip.see_moves _ g _ _)).trans (Chip.see_moves _ g _ _)).trans (Chip.see_moves _ g _ _)

theorem Chip.raiseBellows_moves (c : Chip) (g cmd : Nat) : c.ChanMoves g [0x0D] (c.raiseBellows g cmd) :=
  .ite (fun _ => .refl g _ c) (fun _ => .put c g _ (by decide))

theorem Chip.alarmSync_moves (c : Chip) (g : Nat) : c.ChanMoves g [] (c.alarmSync g) :=
  .ite (fun _ => .refl g _ c) (fun _ => .setChan c g _ _)

theorem Chip.endBackFed_moves (c : Chip) (g : Nat) : c.ChanMoves g [0x1B, 0x1F] (c.endBackFed g) := by
  refine .ite (fun _ => .refl g _ c) (fun _ => ?_)
  exact ((((Chip.dOff_moves c g _).mono (by decide)).trans ((Chip.dOff_moves _ g _).mono (by decide))).trans
    (.put _ g _ (by decide))).trans (.record _ g _ _ _ _ _ _ _)

theorem Chip.seeAll_moves (g : Nat) (ks : List Cond) (c : Chip) :
    c.ChanMoves g [] (ks.foldl (fun c k => c.see g k false) c) := by
  induction ks generalizing c with
  | nil => exact .refl g _ c
  | cons k ks ih => exact (Chip.see_moves c g k false).trans (ih _)

/-- The first step of a change of the switch: its new position, and with it no condition of the load has stood. -/
def Chip.moveSwitch (c : Chip) (g : Nat) (close : Bool) : Chip :=
  if (c.chan g).closed == close then c
  else [Cond.high, .unloaded, .loaded, .stuck, .shareLow].foldl (fun c k => c.see g k false)
    (c.setChan g (fun h => { h with closed := close, overRun := 0, overFrom := c.now }))

theorem Chip.setSwitch_eq (c : Chip) (g : Nat) (close : Bool) : c.setSwitch g close =
    if (c.moveSwitch g close).switchOn g then (c.moveSwitch g close).endBackFed g else c.moveSwitch g close := rfl

theorem Chip.moveSwitch_moves (c : Chip) (g : Nat) (close : Bool) : c.ChanMoves g [] (c.moveSwitch g close) :=
  .ite (fun _ => .refl g _ c) (fun _ => (Chip.ChanMoves.setChan c g _ _).trans (Chip.seeAll_moves g _ _))

theorem Chip.setSwitch_moves (c : Chip) (g : Nat) (close : Bool) : c.ChanMoves g [0x1B, 0x1F] (c.setSwitch g close) := by
  have hmove := (c.moveSwitch_moves g close).mono (vs := [0x1B, 0x1F]) (by decide)
  rw [Chip.setSwitch_eq]
  exact .ite (fun _ => hmove.trans (Chip.endBackFed_moves _ g)) (fun _ => hmove)

theorem Chip.startPwm_moves (c : Chip) (g cmd : Nat) : c.ChanMoves g [0x1B, 0x1F] (c.startPwm g cmd) :=
  (Chip.ChanMoves.setChan c g _ _).trans (Chip.setSwitch_moves _ g _)

theorem Chip.openNow_moves (c : Chip) (g : Nat) : c.ChanMoves g [0x1B, 0x1F] (c.openNow g) :=
  .ite (fun _ => (Chip.ChanMoves.setChan c g _ _).trans (Chip.setSwitch_moves _ g _)) (fun _ => .refl g _ c)

/-- The words an output drive may change: the command, the bellows, the source of a foreign feed and the switch's flags. -/
def driveOffs : List Nat := [0x0C, 0x0D, 0x1B, 0x1F]

end Sys2Proof.Machine
end

section
/-! SUPPORT. The flags of a channel and their latches, read after they come on or go (Tables 8.11 and 9.7). -/

namespace Sys2Proof.Machine

/-! ### Bits of words -/

theorem Field.of_testBit (f : Field) (w : Word) (k : Nat) :
    (f.of w).testBit k = (decide (k < f.hi + 1 - f.lo) && w.toNat.testBit (f.lo + k)) := by
  simp [Field.of, bitsOf, Nat.testBit_mod_two_pow, Nat.testBit_shiftRight]

/-- A bit set in a word, read in any field of the word. -/
theorem Field.of_withBit (f : Field) (w : Word) (n k : Nat) (hn : n < 32) :
    (f.of (BitVec.ofNat 32 (withBit w.toNat n true))).testBit k =
      (decide (k < f.hi + 1 - f.lo) && (decide (f.lo + k = n) || w.toNat.testBit (f.lo + k))) := by
  rw [Field.of_testBit]
  congr 1
  rw [BitVec.toNat_ofNat, Nat.testBit_mod_two_pow, testBit_withBit]
  by_cases h : f.lo + k = n
  · simp [h, hn]
  · by_cases h32 : f.lo + k < 32
    · simp [h, h32]
    · have : w.toNat.testBit (f.lo + k) = false :=
        Nat.testBit_lt_two_pow (lt_of_lt_of_le w.isLt (Nat.pow_le_pow_right (by decide) (by omega)))
      simp [h, h32, this]

theorem withBit_mod (v n k : Nat) (x : Bool) (hn : n < k) : withBit (v % 2 ^ k) n x % 2 ^ k = withBit v n x % 2 ^ k := by
  refine Nat.eq_of_testBit_eq fun i => ?_
  simp only [Nat.testBit_mod_two_pow, testBit_withBit]
  by_cases hi : i < k <;> simp [hi]

/-! ### The flags of a channel -/

namespace Chip

variable {c : Chip} {g : Nat}

theorem get_flags_aOn (c : Chip) (g : Nat) {n : Nat} : (c.aOn g n).get (chanAt g) Chan.flags_now =
    withBit (c.get (chanAt g) Chan.flags_now) n true % 2 ^ 12 := by
  have hw : (c.setWord (chanAt g + 0x000F) (BitVec.ofNat 32 (withBit (c.nat (chanAt g + 0x000F)) n true))).get (chanAt g)
      Chan.flags_now = c.get (chanAt g) Chan.flags_now :=
    Chip.get_congr (Chip.word_setWord_other c _ (by simp [Field.at, Chan.flags_now, Field.one]))
  rw [Chip.aOn, Chip.putBit, Chip.get_put_self _ _ _ (by decide), hw]
  rfl

theorem get_flags_aOff (c : Chip) (g n : Nat) : (c.aOff g n).get (chanAt g) Chan.flags_now =
    withBit (c.get (chanAt g) Chan.flags_now) n false % 2 ^ 12 := Chip.get_put_self _ _ _ (by decide)

@[simp] theorem aNow_aOn (c : Chip) (g n m : Nat) : (c.aOn g n).aNow g m = ((decide (m = n) && decide (m < 12)) || c.aNow g m) := by
  have hlt : ∀ m, ¬ m < 12 → c.aNow g m = false := fun m h =>
    Nat.testBit_lt_two_pow (lt_of_lt_of_le (c.get_lt (chanAt g) Chan.flags_now) (Nat.pow_le_pow_right (by decide) (by
      simp [Chan.flags_now, Field.one]; omega)))
  rw [aNow, getBit, get_flags_aOn, Nat.testBit_mod_two_pow, testBit_withBit]
  by_cases h : m = n
  · subst h; by_cases h12 : m < 12 <;> simp [h12, hlt]
  · by_cases h12 : m < 12
    · simp [h, h12, aNow, getBit]
    · simp [h, h12, hlt m h12]

@[simp] theorem aNow_aOff (c : Chip) (g n m : Nat) : (c.aOff g n).aNow g m = (decide (m ≠ n) && c.aNow g m) := by
  have hlt : ∀ m, ¬ m < 12 → c.aNow g m = false := fun m h =>
    Nat.testBit_lt_two_pow (lt_of_lt_of_le (c.get_lt (chanAt g) Chan.flags_now) (Nat.pow_le_pow_right (by decide) (by
      simp [Chan.flags_now, Field.one]; omega)))
  rw [aNow, getBit, get_flags_aOff, Nat.testBit_mod_two_pow, testBit_withBit]
  by_cases h : m = n
  · simp [h]
  · by_cases h12 : m < 12
    · simp [h, h12, aNow, getBit]
    · simp [h, h12, hlt m h12]

/-- The flags of a channel are as before where their word is. -/
theorem aNow_congr {d : Chip} (h : d.get (chanAt g) Chan.flags_now = c.get (chanAt g) Chan.flags_now) (n : Nat) :
    d.aNow g n = c.aNow g n := by simp only [aNow, getBit, h]

theorem dNow_congr {d : Chip} (h : d.get (chanAt g) Dig.dflags_now = c.get (chanAt g) Dig.dflags_now) (n : Nat) :
    d.dNow g n = c.dNow g n := by simp only [dNow, getBit, h]

theorem dNow_of_ge (c : Chip) (g : Nat) {m : Nat} (h : ¬ m < 11) : c.dNow g m = false :=
  Nat.testBit_lt_two_pow (lt_of_lt_of_le (c.get_lt (chanAt g) Dig.dflags_now) (Nat.pow_le_pow_right (by decide) (by
      simp [Dig.dflags_now, Field.one]; omega)))

@[simp] theorem dNow_dOff (c : Chip) (g n m : Nat) : (c.dOff g n).dNow g m = (decide (m ≠ n) && c.dNow g m) := by
  rw [dNow, dOff, getBit, putBit, Chip.get_put_self _ _ _ (by decide)]
  have : Dig.dflags_now.hi + 1 - Dig.dflags_now.lo = 11 := rfl
  rw [this, Nat.testBit_mod_two_pow, testBit_withBit]
  by_cases h11 : m < 11
  · by_cases h : m = n <;> simp [h, h11, dNow, getBit]
  · simp [h11, dNow_of_ge c g h11]

/-- A flag that comes on shows at once; its latch stands in the same word (Table 9.7). -/
theorem dNow_dOn (c : Chip) (g m : Nat) {n : Nat} (hn : n < 11) : (c.dOn g n).dNow g m = (decide (m = n) || c.dNow g m) := by
  have hlatch : ∀ k, ((c.setWord (chanAt g + 0x001F) (BitVec.ofNat 32 (withBit (c.nat (chanAt g + 0x001F)) n true))).get
      (chanAt g) Dig.dflags_now).testBit k = c.dNow g k := fun k => by
    have hat : Dig.dflags_now.at (chanAt g) 0 = chanAt g + 0x001F := by simp [Field.at, Dig.dflags_now, Field.one]
    rw [dNow, getBit, get, getI, get, getI, hat, Chip.word_setWord_same, nat, Field.of_withBit _ _ _ _ (by omega),
      Field.of_testBit]
    have : Dig.dflags_now.lo = 16 := rfl
    rw [this, decide_eq_false (show ¬ 16 + k = n by omega), Bool.false_or]
  rw [dNow, dOn, getBit, putBit, Chip.get_put_self _ _ _ (by decide)]
  have : Dig.dflags_now.hi + 1 - Dig.dflags_now.lo = 11 := rfl
  rw [this, Nat.testBit_mod_two_pow, testBit_withBit, hlatch]
  by_cases h11 : m < 11
  · by_cases h : m = n <;> simp [h, h11, hn]
  · simp [h11, dNow_of_ge c g h11, show ¬ m = n by omega]

/-- A field of one bit. -/
theorem get_eq_b2n (c : Chip) (b : Nat) {f : Field} (h : f.hi = f.lo) :
    c.get b f = b2n ((c.nat (f.at b 0)).testBit f.lo) := by
  refine Nat.eq_of_testBit_eq fun i => ?_
  rw [get, getI, Field.of_testBit, h, nat]
  cases i with
  | zero => cases ((c.word (f.at b 0)).toNat.testBit f.lo) <;> simp [b2n]
  | succ i => cases ((c.word (f.at b 0)).toNat.testBit f.lo) <;> simp [b2n, Nat.testBit_succ]

theorem nat_aOn_latch (c : Chip) (g n : Nat) : (c.aOn g n).nat (chanAt g + 0x000F) = withBit (c.nat (chanAt g + 0x000F)) n true % 2 ^ 32 := by
  rw [nat, aOn, Chip.putBit_word_other _ _ (by simp [Field.at, Chan.flags_now, Field.one]), Chip.word_setWord_same]
  rfl

/-- The latch of a flag that came on is set. -/
theorem get_latch_aOn (c : Chip) (g : Nat) {f : Field} (hf : f.first = 0x000F) (hl : f.hi = f.lo) (h32 : f.hi < 32) :
    (c.aOn g f.lo).get (chanAt g) f = 1 := by
  have hat : f.at (chanAt g) 0 = chanAt g + 0x000F := by simp [Field.at, hf]
  rw [get_eq_b2n _ _ hl, hat, nat_aOn_latch, Nat.testBit_mod_two_pow, testBit_withBit]
  simp [← hl, h32, b2n]

theorem get_latch_dOn (c : Chip) (g : Nat) {f : Field} (hf : f.first = 0x001F) (hl : f.hi = f.lo) (h16 : f.hi < 16) :
    (c.dOn g f.lo).get (chanAt g) f = 1 := by
  have hat : f.at (chanAt g) 0 = chanAt g + 0x001F := by simp [Field.at, hf]
  have hapart : Dig.dflags_now.clear f = true := by
    simp [Field.clear, Dig.dflags_now, Field.one, hf]
    exact .inr (decide_eq_true h16)
  rw [dOn, putBit, Chip.get_put_clear _ _ _ hapart, get_eq_b2n _ _ hl, hat, nat, Chip.word_setWord_same, BitVec.toNat_ofNat,
    Nat.testBit_mod_two_pow, testBit_withBit]
  simp [← hl, b2n]
  omega

end Chip

end Sys2Proof.Machine
end

section
/-! SUPPORT. A field of a channel's block and the state of a channel, read after each operation of a channel. -/

namespace Sys2Proof.Machine

/-- The field stands in a word of its block outside these. -/
def Field.off (f : Field) (ws : List Nat) : Bool := !ws.contains f.first && decide (f.first < 65536)

namespace Chip

theorem ChanMoves.get_off {g : Nat} {ws : List Nat} {c d : Chip} (h : c.ChanMoves g ws d) (hg : g < 128) {f : Field}
    (hf : f.off ws = true) : d.get (chanAt g) f = c.get (chanAt g) f := by
  simp only [Field.off, Bool.and_eq_true, Bool.not_eq_true', decide_eq_true_eq, List.contains_eq_mem, decide_eq_false_iff_not] at hf
  exact h.get hg hf.1 hf.2

/-! A field of the block of the channel that the operation does not touch. -/

@[simp] theorem get_record_chan (c : Chip) (g : Fin 128) (source region severity subject : Nat) (bs xs : List Nat)
    {f : Field} (hf : f.off [] = true) :
    (c.record source region severity subject bs xs).get (chanAt g) f = c.get (chanAt g) f :=
  (ChanMoves.record c g [] _ _ _ _ _ _).get_off g.isLt hf

@[simp] theorem get_putStatus (c : Chip) (g : Fin 128)  {f : Field} (hf : f.off statusOffs = true) :
    (c.putStatus g).get (chanAt g) f = c.get (chanAt g) f := (c.putStatus_moves g).get_off g.isLt hf
@[simp] theorem get_setImage (c : Chip) (g : Fin 128) (v : Nat) {f : Field} (hf : f.off imageOffs = true) :
    (c.setImage g v).get (chanAt g) f = c.get (chanAt g) f := (c.setImage_moves g _).get_off g.isLt hf
@[simp] theorem get_aOn (c : Chip) (g : Fin 128) (n : Nat) {f : Field} (hf : f.off flagOffs = true) :
    (c.aOn g n).get (chanAt g) f = c.get (chanAt g) f := (c.aOn_moves g _).get_off g.isLt hf
@[simp] theorem get_aOff (c : Chip) (g : Fin 128) (n : Nat) {f : Field} (hf : f.off flagOffs = true) :
    (c.aOff g n).get (chanAt g) f = c.get (chanAt g) f := (c.aOff_moves g _).get_off g.isLt hf
@[simp] theorem get_dOn (c : Chip) (g : Fin 128) (n : Nat) {f : Field} (hf : f.off dFlagOffs = true) :
    (c.dOn g n).get (chanAt g) f = c.get (chanAt g) f := (c.dOn_moves g _).get_off g.isLt hf
@[simp] theorem get_dOff (c : Chip) (g : Fin 128) (n : Nat) {f : Field} (hf : f.off dFlagOffs = true) :
    (c.dOff g n).get (chanAt g) f = c.get (chanAt g) f := (c.dOff_moves g _).get_off g.isLt hf
@[simp] theorem get_see (c : Chip) (g : Fin 128) (k : Cond) (x : Bool) {f : Field} (hf : f.off [] = true) :
    (c.see g k x).get (chanAt g) f = c.get (chanAt g) f := (c.see_moves g _ _).get_off g.isLt hf
@[simp] theorem get_seeCurrent (c : Chip) (g : Fin 128) (ua : Int) {f : Field} (hf : f.off [] = true) :
    (c.seeCurrent g ua).get (chanAt g) f = c.get (chanAt g) f := (c.seeCurrent_moves g _).get_off g.isLt hf
@[simp] theorem get_raiseBellows (c : Chip) (g : Fin 128) (cmd : Nat) {f : Field} (hf : f.off [0x0D] = true) :
    (c.raiseBellows g cmd).get (chanAt g) f = c.get (chanAt g) f := (c.raiseBellows_moves g _).get_off g.isLt hf
@[simp] theorem get_alarmSync (c : Chip) (g : Fin 128)  {f : Field} (hf : f.off [] = true) :
    (c.alarmSync g).get (chanAt g) f = c.get (chanAt g) f := (c.alarmSync_moves g).get_off g.isLt hf
@[simp] theorem get_endBackFed (c : Chip) (g : Fin 128)  {f : Field} (hf : f.off [0x1B, 0x1F] = true) :
    (c.endBackFed g).get (chanAt g) f = c.get (chanAt g) f := (c.endBackFed_moves g).get_off g.isLt hf
@[simp] theorem get_moveSwitch (c : Chip) (g : Fin 128) (x : Bool) {f : Field} (hf : f.off [] = true) :
    (c.moveSwitch g x).get (chanAt g) f = c.get (chanAt g) f := (c.moveSwitch_moves g _).get_off g.isLt hf
@[simp] theorem get_setSwitch (c : Chip) (g : Fin 128) (x : Bool) {f : Field} (hf : f.off [0x1B, 0x1F] = true) :
    (c.setSwitch g x).get (chanAt g) f = c.get (chanAt g) f := (c.setSwitch_moves g _).get_off g.isLt hf
@[simp] theorem get_startPwm (c : Chip) (g : Fin 128) (cmd : Nat) {f : Field} (hf : f.off [0x1B, 0x1F] = true) :
    (c.startPwm g cmd).get (chanAt g) f = c.get (chanAt g) f := (c.startPwm_moves g _).get_off g.isLt hf
@[simp] theorem get_openNow (c : Chip) (g : Fin 128)  {f : Field} (hf : f.off [0x1B, 0x1F] = true) :
    (c.openNow g).get (chanAt g) f = c.get (chanAt g) f := (c.openNow_moves g).get_off g.isLt hf

/-! The state of a channel after an operation on words or on the recorder. -/

@[simp] theorem chan_put (c : Chip) (b : Nat) (f : Field) (v : Nat) (q : Nat) : (c.put b f v).chan q = c.chan q := (rfl)
@[simp] theorem chan_putI (c : Chip) (b : Nat) (f : Field) (i v : Nat) (q : Nat) : (c.putI b f i v).chan q = c.chan q := (rfl)
@[simp] theorem chan_putBit (c : Chip) (b : Nat) (f : Field) (i : Nat) (v : Bool) (q : Nat) : (c.putBit b f i v).chan q = c.chan q := (rfl)
@[simp] theorem chan_bump (c : Chip) (b : Nat) (f : Field) (q : Nat) : (c.bump b f).chan q = c.chan q := (rfl)
@[simp] theorem chan_setWord (c : Chip) (a : Nat) (v : Word) (q : Nat) : (c.setWord a v).chan q = c.chan q := (rfl)
@[simp] theorem chan_record (c : Chip) (source region severity subject : Nat) (bs xs : List Nat) (q : Nat) :
    (c.record source region severity subject bs xs).chan q = c.chan q := Chip.chan_congr (by simp) q
@[simp] theorem aOn_chans (c : Chip) (g n : Nat) : (c.aOn g n).chans = c.chans := (rfl)
@[simp] theorem aOff_chans (c : Chip) (g n : Nat) : (c.aOff g n).chans = c.chans := (rfl)
@[simp] theorem dOn_chans (c : Chip) (g n : Nat) : (c.dOn g n).chans = c.chans := (rfl)
@[simp] theorem dOff_chans (c : Chip) (g n : Nat) : (c.dOff g n).chans = c.chans := (rfl)
@[simp] theorem putStatus_chans (c : Chip) (g : Nat) : (c.putStatus g).chans = c.chans := by
  unfold putStatus; simp only []; split <;> rfl
@[simp] theorem raiseBellows_chans (c : Chip) (g cmd : Nat) : (c.raiseBellows g cmd).chans = c.chans := by
  unfold raiseBellows; simp only []; split <;> rfl
@[simp] theorem endBackFed_chans (c : Chip) (g : Nat) : (c.endBackFed g).chans = c.chans := by
  unfold endBackFed
  split
  · rfl
  · exact (Chip.record_chans _ _ _ _ _ _ _).trans rfl

@[simp] theorem chan_aOn (c : Chip) (g : Nat) (n : Nat) (q : Nat) : (c.aOn g n).chan q = c.chan q := Chip.chan_congr (by simp) q
@[simp] theorem chan_aOff (c : Chip) (g : Nat) (n : Nat) (q : Nat) : (c.aOff g n).chan q = c.chan q := Chip.chan_congr (by simp) q
@[simp] theorem chan_dOn (c : Chip) (g : Nat) (n : Nat) (q : Nat) : (c.dOn g n).chan q = c.chan q := Chip.chan_congr (by simp) q
@[simp] theorem chan_dOff (c : Chip) (g : Nat) (n : Nat) (q : Nat) : (c.dOff g n).chan q = c.chan q := Chip.chan_congr (by simp) q
@[simp] theorem chan_putStatus (c : Chip) (g : Nat)  (q : Nat) : (c.putStatus g).chan q = c.chan q := Chip.chan_congr (by simp) q
@[simp] theorem chan_raiseBellows (c : Chip) (g : Nat) (cmd : Nat) (q : Nat) : (c.raiseBellows g cmd).chan q = c.chan q := Chip.chan_congr (by simp) q
@[simp] theorem chan_endBackFed (c : Chip) (g : Nat)  (q : Nat) : (c.endBackFed g).chan q = c.chan q := Chip.chan_congr (by simp) q

/-! Fields written and read in the block of a channel. -/

/-! The flags of a channel after an operation that leaves their words. -/

@[simp] theorem aNow_put (c : Chip) (g n v : Nat) {f : Field} (h : f.clear Chan.flags_now = true) :
    (c.put (chanAt g) f v).aNow g n = c.aNow g n := aNow_congr (Chip.get_put_clear _ _ _ h) n
@[simp] theorem dNow_put (c : Chip) (g n v : Nat) {f : Field} (h : f.clear Dig.dflags_now = true) :
    (c.put (chanAt g) f v).dNow g n = c.dNow g n := dNow_congr (Chip.get_put_clear _ _ _ h) n
@[simp] theorem get_bump_clear (c : Chip) (b : Nat) {f g : Field} (h : f.clear g = true) : (c.bump b f).get b g = c.get b g :=
  Chip.get_put_clear c b _ h
@[simp] theorem aNow_bump (c : Chip) (g n : Nat) {f : Field} (h : f.clear Chan.flags_now = true) :
    (c.bump (chanAt g) f).aNow g n = c.aNow g n := aNow_congr (get_bump_clear _ _ h) n
@[simp] theorem dNow_bump (c : Chip) (g n : Nat) {f : Field} (h : f.clear Dig.dflags_now = true) :
    (c.bump (chanAt g) f).dNow g n = c.dNow g n := dNow_congr (get_bump_clear _ _ h) n
@[simp] theorem aNow_setChan (c : Chip) (g n : Nat) (f : ChanSt → ChanSt) : (c.setChan g f).aNow g n = c.aNow g n := aNow_congr (by simp) n
@[simp] theorem dNow_setChan (c : Chip) (g n : Nat) (f : ChanSt → ChanSt) : (c.setChan g f).dNow g n = c.dNow g n := dNow_congr (by simp) n
@[simp] theorem aNow_record (c : Chip) (g : Fin 128) (n source region severity subject : Nat) (bs xs : List Nat) :
    (c.record source region severity subject bs xs).aNow g n = c.aNow g n := aNow_congr (get_record_chan _ g _ _ _ _ _ _ (by decide)) n
@[simp] theorem dNow_record (c : Chip) (g : Fin 128) (n source region severity subject : Nat) (bs xs : List Nat) :
    (c.record source region severity subject bs xs).dNow g n = c.dNow g n := dNow_congr (get_record_chan _ g _ _ _ _ _ _ (by decide)) n
@[simp] theorem aNow_putStatus (c : Chip) (g : Fin 128)  (m : Nat) : (c.putStatus g).aNow g m = c.aNow g m := aNow_congr (get_putStatus _ g (by decide)) m
@[simp] theorem dNow_putStatus (c : Chip) (g : Fin 128)  (m : Nat) : (c.putStatus g).dNow g m = c.dNow g m := dNow_congr (get_putStatus _ g (by decide)) m
@[simp] theorem aNow_setImage (c : Chip) (g : Fin 128) (v : Nat) (m : Nat) : (c.setImage g v).aNow g m = c.aNow g m := aNow_congr (get_setImage _ g _ (by decide)) m
@[simp] theorem dNow_setImage (c : Chip) (g : Fin 128) (v : Nat) (m : Nat) : (c.setImage g v).dNow g m = c.dNow g m := dNow_congr (get_setImage _ g _ (by decide)) m
@[simp] theorem dNow_aOn (c : Chip) (g : Fin 128) (n : Nat) (m : Nat) : (c.aOn g n).dNow g m = c.dNow g m := dNow_congr (get_aOn _ g _ (by decide)) m
@[simp] theorem dNow_aOff (c : Chip) (g : Fin 128) (n : Nat) (m : Nat) : (c.aOff g n).dNow g m = c.dNow g m := dNow_congr (get_aOff _ g _ (by decide)) m
@[simp] theorem aNow_dOn (c : Chip) (g : Fin 128) (n : Nat) (m : Nat) : (c.dOn g n).aNow g m = c.aNow g m := aNow_congr (get_dOn _ g _ (by decide)) m
@[simp] theorem aNow_dOff (c : Chip) (g : Fin 128) (n : Nat) (m : Nat) : (c.dOff g n).aNow g m = c.aNow g m := aNow_congr (get_dOff _ g _ (by decide)) m
@[simp] theorem aNow_see (c : Chip) (g : Fin 128) (k : Cond) (x : Bool) (m : Nat) : (c.see g k x).aNow g m = c.aNow g m := aNow_congr (get_see _ g _ _ (by decide)) m
@[simp] theorem dNow_see (c : Chip) (g : Fin 128) (k : Cond) (x : Bool) (m : Nat) : (c.see g k x).dNow g m = c.dNow g m := dNow_congr (get_see _ g _ _ (by decide)) m
@[simp] theorem aNow_seeCurrent (c : Chip) (g : Fin 128) (ua : Int) (m : Nat) : (c.seeCurrent g ua).aNow g m = c.aNow g m := aNow_congr (get_seeCurrent _ g _ (by decide)) m
@[simp] theorem dNow_seeCurrent (c : Chip) (g : Fin 128) (ua : Int) (m : Nat) : (c.seeCurrent g ua).dNow g m = c.dNow g m := dNow_congr (get_seeCurrent _ g _ (by decide)) m
@[simp] theorem aNow_raiseBellows (c : Chip) (g : Fin 128) (cmd : Nat) (m : Nat) : (c.raiseBellows g cmd).aNow g m = c.aNow g m := aNow_congr (get_raiseBellows _ g _ (by decide)) m
@[simp] theorem dNow_raiseBellows (c : Chip) (g : Fin 128) (cmd : Nat) (m : Nat) : (c.raiseBellows g cmd).dNow g m = c.dNow g m := dNow_congr (get_raiseBellows _ g _ (by decide)) m
@[simp] theorem aNow_alarmSync (c : Chip) (g : Fin 128)  (m : Nat) : (c.alarmSync g).aNow g m = c.aNow g m := aNow_congr (get_alarmSync _ g (by decide)) m
@[simp] theorem dNow_alarmSync (c : Chip) (g : Fin 128)  (m : Nat) : (c.alarmSync g).dNow g m = c.dNow g m := dNow_congr (get_alarmSync _ g (by decide)) m
@[simp] theorem aNow_endBackFed (c : Chip) (g : Fin 128)  (m : Nat) : (c.endBackFed g).aNow g m = c.aNow g m := aNow_congr (get_endBackFed _ g (by decide)) m
@[simp] theorem aNow_moveSwitch (c : Chip) (g : Fin 128) (x : Bool) (m : Nat) : (c.moveSwitch g x).aNow g m = c.aNow g m := aNow_congr (get_moveSwitch _ g _ (by decide)) m
@[simp] theorem dNow_moveSwitch (c : Chip) (g : Fin 128) (x : Bool) (m : Nat) : (c.moveSwitch g x).dNow g m = c.dNow g m := dNow_congr (get_moveSwitch _ g _ (by decide)) m
@[simp] theorem aNow_setSwitch (c : Chip) (g : Fin 128) (x : Bool) (m : Nat) : (c.setSwitch g x).aNow g m = c.aNow g m := aNow_congr (get_setSwitch _ g _ (by decide)) m
@[simp] theorem aNow_startPwm (c : Chip) (g : Fin 128) (cmd : Nat) (m : Nat) : (c.startPwm g cmd).aNow g m = c.aNow g m := aNow_congr (get_startPwm _ g _ (by decide)) m
@[simp] theorem aNow_openNow (c : Chip) (g : Fin 128)  (m : Nat) : (c.openNow g).aNow g m = c.aNow g m := aNow_congr (get_openNow _ g (by decide)) m

/-! Another channel's state. -/

@[simp] theorem chan_setImage_other (c : Chip) {g q : Nat} (v : Nat) (hq : q ≠ g) : (c.setImage g v).chan q = c.chan q := (c.setImage_moves g _).others q hq
@[simp] theorem chan_see_other (c : Chip) {g q : Nat} (k : Cond) (x : Bool) (hq : q ≠ g) : (c.see g k x).chan q = c.chan q := (c.see_moves g _ _).others q hq
@[simp] theorem chan_seeCurrent_other (c : Chip) {g q : Nat} (ua : Int) (hq : q ≠ g) : (c.seeCurrent g ua).chan q = c.chan q := (c.seeCurrent_moves g _).others q hq
@[simp] theorem chan_alarmSync_other (c : Chip) {g q : Nat}  (hq : q ≠ g) : (c.alarmSync g).chan q = c.chan q := (c.alarmSync_moves g).others q hq
@[simp] theorem chan_moveSwitch_other (c : Chip) {g q : Nat} (x : Bool) (hq : q ≠ g) : (c.moveSwitch g x).chan q = c.chan q := (c.moveSwitch_moves g _).others q hq
@[simp] theorem chan_setSwitch_other (c : Chip) {g q : Nat} (x : Bool) (hq : q ≠ g) : (c.setSwitch g x).chan q = c.chan q := (c.setSwitch_moves g _).others q hq
@[simp] theorem chan_startPwm_other (c : Chip) {g q : Nat} (cmd : Nat) (hq : q ≠ g) : (c.startPwm g cmd).chan q = c.chan q := (c.startPwm_moves g _).others q hq
@[simp] theorem chan_openNow_other (c : Chip) {g q : Nat}  (hq : q ≠ g) : (c.openNow g).chan q = c.chan q := (c.openNow_moves g).others q hq

/-! The state of the channel itself. -/

@[simp] theorem chan_setChan (c : Chip) {g : Nat} (f : ChanSt → ChanSt) (hc : c.chans.length = 128) (hg : g < 128) :
    (c.setChan g f).chan g = f (c.chan g) := Chip.chan_setChan_self c f (by omega)

theorem ChanMoves.length {g : Nat} {ws : List Nat} {c d : Chip} (h : c.ChanMoves g ws d) (hc : c.chans.length = 128) :
    d.chans.length = 128 := h.size.trans hc

@[simp] theorem chan_setImage (c : Chip) {g : Nat} (v : Nat) (hc : c.chans.length = 128) (hg : g < 128) :
    (c.setImage g v).chan g = { c.chan g with img := v, imgTy := nativeTy (c.mode g) } := by
  simp [setImage, hc, hg]

@[simp] theorem setImage_chans_length (c : Chip) (g : Nat) (v : Nat) :
    (c.setImage g v).chans.length = c.chans.length := (c.setImage_moves g _).size
@[simp] theorem see_chans_length (c : Chip) (g : Nat) (k : Cond) (x : Bool) :
    (c.see g k x).chans.length = c.chans.length := (c.see_moves g _ _).size
@[simp] theorem seeCurrent_chans_length (c : Chip) (g : Nat) (ua : Int) :
    (c.seeCurrent g ua).chans.length = c.chans.length := (c.seeCurrent_moves g _).size
@[simp] theorem alarmSync_chans_length (c : Chip) (g : Nat)  :
    (c.alarmSync g).chans.length = c.chans.length := (c.alarmSync_moves g).size
@[simp] theorem moveSwitch_chans_length (c : Chip) (g : Nat) (x : Bool) :
    (c.moveSwitch g x).chans.length = c.chans.length := (c.moveSwitch_moves g _).size
@[simp] theorem setSwitch_chans_length (c : Chip) (g : Nat) (x : Bool) :
    (c.setSwitch g x).chans.length = c.chans.length := (c.setSwitch_moves g _).size
@[simp] theorem startPwm_chans_length (c : Chip) (g : Nat) (cmd : Nat) :
    (c.startPwm g cmd).chans.length = c.chans.length := (c.startPwm_moves g _).size
@[simp] theorem openNow_chans_length (c : Chip) (g : Nat)  :
    (c.openNow g).chans.length = c.chans.length := (c.openNow_moves g).size

@[simp] theorem record_chans_length (c : Chip) (source region severity subject : Nat) (bs xs : List Nat) :
    (c.record source region severity subject bs xs).chans.length = c.chans.length := by simp

/-- Since when each condition of channel g has not held, once condition k is judged. -/
def seenNot (c : Chip) (g : Nat) (k : Cond) (x : Bool) : List (Cond × Nat) :=
  if x then (c.chan g).notAt else (k, c.now) :: (c.chan g).notAt.filter (fun e => e.1 != k)

/-- What is said of a condition changes when it was last seen not to hold, nothing else. -/
@[simp] theorem chan_see (c : Chip) {g : Nat} (k : Cond) (x : Bool) (hc : c.chans.length = 128) (hg : g < 128) :
    (c.see g k x).chan g = { c.chan g with notAt := c.seenNot g k x } := by
  unfold see seenNot
  split
  · rfl
  · exact chan_setChan c _ hc hg

theorem chan_seeAll (g : Nat) (hg : g < 128) (ks : List Cond) (c : Chip) (hc : c.chans.length = 128) :
    ∃ l, (ks.foldl (fun c k => c.see g k false) c).chan g = { c.chan g with notAt := l } := by
  induction ks generalizing c with
  | nil => exact ⟨_, rfl⟩
  | cons k ks ih =>
    obtain ⟨l', hl'⟩ := ih (c.see g k false) (by rw [see_chans_length, hc])
    exact ⟨l', by rw [List.foldl_cons, hl', c.chan_see k false hc hg]⟩

/-- Since when each condition of channel g has not held, once its current is seen. -/
def seenCurrent (c : Chip) (g : Nat) (ua : Int) : List (Cond × Nat) := ((c.seeCurrent g ua).chan g).notAt

@[simp] theorem chan_seeCurrent (c : Chip) {g : Nat} (ua : Int) (hc : c.chans.length = 128) (hg : g < 128) :
    (c.seeCurrent g ua).chan g = { c.chan g with ua := ua, notAt := c.seenCurrent g ua } := by
  have h : ∃ l, (c.seeCurrent g ua).chan g = { c.chan g with ua := ua, notAt := l } := by
    unfold seeCurrent
    simp only []
    simp only [chan_see, chan_setChan, see_chans_length, Chip.setChan_chans_length, hc, hg]
    exact ⟨_, rfl⟩
  obtain ⟨l, hl⟩ := h
  rw [seenCurrent, hl]

/-- `d` is `c` but for the states of the channels. -/
def ChansOnly (c d : Chip) : Prop := ∃ cs, d = { c with chans := cs }

theorem ChansOnly.trans {c d e : Chip} (h : c.ChansOnly d) (k : d.ChansOnly e) : c.ChansOnly e := by
  obtain ⟨cs, rfl⟩ := h
  obtain ⟨cs', rfl⟩ := k
  exact ⟨cs', rfl⟩

theorem ChansOnly.setChan (c : Chip) (g : Nat) (f : ChanSt → ChanSt) : c.ChansOnly (c.setChan g f) := ⟨_, rfl⟩

theorem ChansOnly.see (c : Chip) (g : Nat) (k : Cond) (x : Bool) : c.ChansOnly (c.see g k x) := by
  unfold Chip.see
  split
  · exact ⟨c.chans, rfl⟩
  · exact .setChan c g _

theorem ChansOnly.seeCurrent (c : Chip) (g : Nat) (ua : Int) : c.ChansOnly (c.seeCurrent g ua) :=
  ((((((ChansOnly.setChan c g _).trans (.see _ g _ _)).trans (.see _ g _ _)).trans (.see _ g _ _)).trans
    (.see _ g _ _)).trans (.see _ g _ _)).trans (.see _ g _ _)

theorem ChansOnly.eq {c d : Chip} (h : c.ChansOnly d) : d = { c with chans := d.chans } := by
  obtain ⟨cs, rfl⟩ := h
  rfl

/-- A switch in its new position; where it moves, its overload time and its conditions begin again. -/
theorem chan_setSwitch_move (c : Chip) {g : Nat} (close : Bool) :
    (c.setSwitch g close).chan g = (c.moveSwitch g close).chan g := by
  rw [setSwitch_eq]
  split
  · exact chan_endBackFed _ g g
  · rfl

theorem chan_moveSwitch_same (c : Chip) {g : Nat} {close : Bool} (h : (c.chan g).closed = close) : c.moveSwitch g close = c := by
  simp [moveSwitch, h]

/-- The overload time and the conditions of channel g once its switch is set. -/
def setRun (c : Chip) (g : Nat) (close : Bool) : Nat := ((c.setSwitch g close).chan g).overRun
def setFrom (c : Chip) (g : Nat) (close : Bool) : Nat := ((c.setSwitch g close).chan g).overFrom
def setSeen (c : Chip) (g : Nat) (close : Bool) : List (Cond × Nat) := ((c.setSwitch g close).chan g).notAt

@[simp] theorem chan_setSwitch (c : Chip) {g : Nat} (close : Bool) (hc : c.chans.length = 128) (hg : g < 128) :
    (c.setSwitch g close).chan g = { c.chan g with
      closed := close, overRun := c.setRun g close, overFrom := c.setFrom g close, notAt := c.setSeen g close } := by
  have h : ∃ a b l, (c.setSwitch g close).chan g = { c.chan g with closed := close, overRun := a, overFrom := b, notAt := l } := by
    rw [chan_setSwitch_move c close, moveSwitch]
    split
    · next h => exact ⟨_, _, _, by rw [← beq_iff_eq.1 h]⟩
    · obtain ⟨l, hl⟩ := chan_seeAll g hg [.high, .unloaded, .loaded, .stuck, .shareLow]
        (c.setChan g (fun h => { h with closed := close, overRun := 0, overFrom := c.now })) (by simpa using hc)
      exact ⟨0, c.now, l, by rw [hl, chan_setChan c _ hc hg]⟩
  obtain ⟨a, b, l, hl⟩ := h
  rw [setRun, setFrom, setSeen, hl]

/-- Is the alarm value driven, once that is judged anew (R234)? -/
def alarmAfter (c : Chip) (g : Nat) : Bool := ((c.alarmSync g).chan g).alarm

@[simp] theorem chan_alarmSync (c : Chip) {g : Nat} (hc : c.chans.length = 128) (hg : g < 128) :
    (c.alarmSync g).chan g = { c.chan g with alarm := c.alarmAfter g } := by
  have h : ∃ a, (c.alarmSync g).chan g = { c.chan g with alarm := a } := by
    unfold alarmSync
    simp only []
    split
    · exact ⟨_, rfl⟩
    · exact ⟨_, chan_setChan c _ hc hg⟩
  obtain ⟨a, ha⟩ := h
  rw [alarmAfter, ha]

end Chip

/-- What a change of the volatile part alone is at its end. -/
theorem chipOnly_to (s : State) {f : Chip → Chip} {d : Chip} (h : f s.chip = d) : chipOnly s f = .next { s with chip := d } := by
  subst h; rfl

theorem StoresKept.chip (s : State) (d : Chip) : StoresKept s { s with chip := d } := ⟨rfl, rfl⟩

end Sys2Proof.Machine
end

section
/-! SUPPORT. Driving an output, in its steps (R231, R260, R263), and what a drive leaves. -/

namespace Sys2Proof.Machine
namespace Chip

/-! ### Driving an output, in its steps (R231, R260, R263) -/

/-- The command held between its limits. -/
def driveCmd (c : Chip) (g cmd : Nat) : Nat :=
  if rNaN cmd then 0 else rClamp (outLo (c.mode g) (c.get (chanAt g) Chan.range)) (outHi (c.mode g)) cmd

/-- The command taken: a current output's conditions are judged against it from now on. -/
def driveSeen (c : Chip) (g cmd : Nat) : Chip :=
  if c.mode g == 6 && c.driveCmd g cmd != c.get (chanAt g) Chan.command then c.seeCurrent g (c.chan g).ua else c

/-- The command written, with what it was held to. -/
def driveStart (c : Chip) (g cmd : Nat) : Chip :=
  ((c.driveSeen g cmd).setChan g (fun h => { h with
    clampLo := rLt cmd (outLo (c.mode g) (c.get (chanAt g) Chan.range)), clampHi := rLt (outHi (c.mode g)) cmd
    driven := !(h.oos || h.extOff || h.partnerExt) })).put (chanAt g) Chan.command (c.driveCmd g cmd)

/-- The latch ended where the command is off. -/
def driveUnlatch (c : Chip) (g : Nat) (on : Bool) : Chip :=
  if !on && (c.chan g).latched then
    (((c.setChan g (fun h => { h with latched := false, waiting := false, tripTicks := [] })).dOff g dLatched).dOff g
      dOverload).dOff g dTherm
  else c

theorem driveWith_eq (c : Chip) (g cmd : Nat) : c.driveWith g cmd =
    let x := c.driveStart g cmd
    if doMode (c.mode g) then
      let on := x.cmdOn g (c.driveCmd g cmd)
      let y := x.driveUnlatch g on
      if (y.chan g).pwmOn then y.setSwitch g (y.mayClose g)
      else if y.get (chanAt g) Dig.pwm_period != 0 && !y.clkLost (g / 16) 5 then y.startPwm g (c.driveCmd g cmd)
      else y.setSwitch g (on && y.mayClose g)
    else if c.mode g == 6 then
      (if x.terminalOff g then x.put (chanAt g) Chan.bellows_mv 4000 else x.raiseBellows g (c.driveCmd g cmd)).alarmSync g
    else x := rfl

theorem driveSeen_moves (c : Chip) (g cmd : Nat) : c.ChanMoves g [] (c.driveSeen g cmd) :=
  .ite (fun _ => seeCurrent_moves c g _) (fun _ => .refl g _ c)

theorem driveStart_moves (c : Chip) (g cmd : Nat) : c.ChanMoves g [0x0C] (c.driveStart g cmd) :=
  (((driveSeen_moves c g cmd).mono (by decide)).trans (.setChan _ g _ _)).trans (.put _ g _ (by decide))

theorem driveUnlatch_moves (c : Chip) (g : Nat) (on : Bool) : c.ChanMoves g dFlagOffs (c.driveUnlatch g on) :=
  .ite (fun _ => (((ChanMoves.setChan c g _ _).trans (dOff_moves _ g _)).trans (dOff_moves _ g _)).trans (dOff_moves _ g _))
    (fun _ => .refl g _ c)

theorem driveWith_moves (c : Chip) (g cmd : Nat) : c.ChanMoves g driveOffs (c.driveWith g cmd) := by
  rw [driveWith_eq]
  refine ((driveStart_moves c g cmd).mono (by decide)).trans ?_
  generalize c.driveStart g cmd = x
  simp only []
  split
  · refine ((driveUnlatch_moves x g (x.cmdOn g (c.driveCmd g cmd))).mono (by decide)).trans ?_
    generalize x.driveUnlatch g (x.cmdOn g (c.driveCmd g cmd)) = y
    split
    · exact (setSwitch_moves y g _).mono (by decide)
    split
    · exact (startPwm_moves y g _).mono (by decide)
    · exact (setSwitch_moves y g _).mono (by decide)
  split
  · refine ChanMoves.trans ?_ ((alarmSync_moves _ g).mono (by decide))
    exact .ite (fun _ => .put x g _ (by decide)) (fun _ => (raiseBellows_moves x g _).mono (by decide))
  · exact .refl g _ x

theorem resolve_moves (c : Chip) (g : Nat) : c.ChanMoves g driveOffs (c.resolve g) := by
  refine .ite (fun _ => .refl g _ c) (fun _ => .ite (fun _ => driveWith_moves c g _) (fun _ => .ite (fun _ => ?_) (fun _ => ?_)))
  · exact .ite (fun _ => .refl g _ c) (fun _ => (driveWith_moves c g _).trans ((openNow_moves _ g).mono (by decide)))
  · exact .ite (fun _ => (driveWith_moves c g _).trans ((openNow_moves _ g).mono (by decide))) (fun _ => driveWith_moves c g _)

/-! ### What a drive leaves of the state of its channel -/

/-- A drive leaves where the share ramp of its channel stands. -/
theorem ramp_driveStart (c : Chip) {g : Nat} (cmd : Nat) (hc : c.chans.length = 128) (hg : g < 128) :
    ((c.driveStart g cmd).chan g).ramp = (c.chan g).ramp := by
  have hseen : ((c.driveSeen g cmd).chan g).ramp = (c.chan g).ramp := by
    unfold driveSeen
    split <;> simp [hc, hg]
  simp [driveStart, (driveSeen_moves c g cmd).size, hc, hg, hseen]

theorem ramp_driveWith (c : Chip) {g : Nat} (cmd : Nat) (hc : c.chans.length = 128) (hg : g < 128) :
    ((c.driveWith g cmd).chan g).ramp = (c.chan g).ramp := by
  rw [driveWith_eq, ← ramp_driveStart c cmd hc hg]
  have hlen := (driveStart_moves c g cmd).length hc
  generalize c.driveStart g cmd = x at hlen ⊢
  simp only []
  split
  · have hy : ((x.driveUnlatch g (x.cmdOn g (c.driveCmd g cmd))).chan g).ramp = (x.chan g).ramp := by
      unfold driveUnlatch
      split <;> simp [hlen, hg]
    rw [← hy]
    have hlen' := (driveUnlatch_moves x g (x.cmdOn g (c.driveCmd g cmd))).length hlen
    generalize x.driveUnlatch g (x.cmdOn g (c.driveCmd g cmd)) = y at hlen' ⊢
    split
    · simp [hlen', hg]
    split
    · simp [startPwm, hlen', hg]
    · simp [hlen', hg]
  · split
    · split <;> simp [hlen, hg]
    · rfl

theorem ramp_openNow (c : Chip) {g : Nat} (hc : c.chans.length = 128) (hg : g < 128) :
    ((c.openNow g).chan g).ramp = (c.chan g).ramp := by
  unfold openNow
  split <;> simp [hc, hg]

theorem ramp_resolve (c : Chip) {g : Nat} (hc : c.chans.length = 128) (hg : g < 128) :
    ((c.resolve g).chan g).ramp = (c.chan g).ramp := by
  have hdrive : ∀ cmd, (((c.driveWith g cmd).openNow g).chan g).ramp = (c.chan g).ramp := fun cmd => by
    rw [ramp_openNow _ ((driveWith_moves c g cmd).length hc) hg, ramp_driveWith c cmd hc hg]
  unfold resolve
  simp only []
  split
  · rfl
  split
  · exact ramp_driveWith c _ hc hg
  split
  · split
    · rfl
    · exact hdrive 0
  split
  · exact hdrive _
  · exact ramp_driveWith c _ hc hg

end Chip
end Sys2Proof.Machine
end

section
/-! SUPPORT. What the operations of an axis leave of the channels. -/

namespace Sys2Proof.Machine
/-- A change made in turn for the elements of a list takes no time where each one takes none. -/
@[simp] theorem Chip.each_chans {α : Type} {f : Chip → α → Chip} (h : ∀ c x, (f c x).chans = c.chans) (c : Chip) (l : List α) :
    (c.each l f).chans = c.chans := by
  unfold Chip.each
  induction l generalizing c with
  | nil => rfl
  | cons x xs ih => exact (ih (f c x)).trans (h c x)

@[simp] theorem Chip.when_chans {f : Chip → Chip} (h : ∀ c, (f c).chans = c.chans) (c : Chip) (b : Bool) : (c.when b f).chans = c.chans := by
  cases b
  · rfl
  · exact h c

@[simp] theorem Chip.chans_ite {p : Prop} [Decidable p] (c d : Chip) : (if p then c else d).chans = if p then c.chans else d.chans :=
  apply_ite _ _ _ _


@[simp] theorem Chip.putBit_chans (c : Chip) (b : Nat) (f : Field) (i : Nat) (v : Bool) :
    (c.putBit b f i v).chans = c.chans := by
  simp [Chip.putBit]

@[simp] theorem Chip.xOn_chans (c : Chip) (x n : Nat) : (c.xOn x n).chans = c.chans := by
  simp [Chip.xOn]

@[simp] theorem Chip.xOff_chans (c : Chip) (x n : Nat) : (c.xOff x n).chans = c.chans := by
  simp [Chip.xOff]

@[simp] theorem Chip.xSet_chans (c : Chip) (x n : Nat) (b : Bool) : (c.xSet x n b).chans = c.chans := by
  simp [Chip.xSet]

@[simp] theorem Chip.axSync_chans (c0 : Chip) (x : Nat) : (c0.axSync x).chans = c0.chans := by
  simp -implicitDefEqProofs [Chip.axSync]

@[simp] theorem Chip.xRecord_chans (c : Chip) (source x severity : Nat) (bs ws : List Nat) :
    (c.xRecord source x severity bs ws).chans = c.chans := by
  simp [Chip.xRecord]

@[simp] theorem Chip.setRef_chans (c : Chip) (x new : Nat) : (c.setRef x new).chans = c.chans := by
  simp [Chip.setRef]

@[simp] theorem Chip.endAct_chans (c : Chip) (x code : Nat) : (c.endAct x code).chans = c.chans := by
  simp only [Chip.endAct]
  (repeat' split) <;> simp

@[simp] theorem Chip.lossInMotion_chans (c : Chip) (x : Nat) (speed : Int) : (c.lossInMotion x speed).chans = c.chans := by
  simp [Chip.lossInMotion]

@[simp] theorem Chip.axLook_chans (c : Chip) (x : Nat) : (c.axLook x).chans = c.chans := by
  simp [Chip.axLook]

@[simp] theorem Chip.atRest_chans (c : Chip) (x : Nat) : (c.atRest x).chans = c.chans := by
  simp [Chip.atRest]

@[simp] theorem Chip.setOut_chans (c : Chip) (x : Nat) (target : Int) : (c.setOut x target).chans = c.chans := by
  simp [Chip.setOut]

@[simp] theorem Chip.startRun_chans (c : Chip) (x speed : Nat) (d : Int) : (c.startRun x speed d).chans = c.chans := by
  simp [Chip.startRun]

@[simp] theorem Chip.brake_chans (c : Chip) (x : Nat) (limit : Option (Int × Nat)) : (c.brake x limit).chans = c.chans := by
  simp [Chip.brake]

@[simp] theorem Chip.quietTake_chans (c : Chip) (x : Nat) : (c.quietTake x).chans = c.chans := by
  simp -implicitDefEqProofs [Chip.quietTake]

@[simp] theorem Chip.stageLost_chans (c : Chip) (x code : Nat) : (c.stageLost x code).chans = c.chans := by
  simp [Chip.stageLost]

@[simp] theorem Chip.stageBack_chans (c : Chip) (x : Nat) : (c.stageBack x).chans = c.chans := by
  simp [Chip.stageBack]

@[simp] theorem Chip.stageSet_chans (c : Chip) (x causes : Nat) : (c.stageSet x causes).chans = c.chans := by
  simp [Chip.stageSet]

@[simp] theorem Chip.jumpStop_chans (c : Chip) (x : Nat) : (c.jumpStop x).chans = c.chans := by
  simp [Chip.jumpStop]

@[simp] theorem Chip.homeFault_chans (c : Chip) (x code : Nat) : (c.homeFault x code).chans = c.chans := by
  simp [Chip.homeFault]

@[simp] theorem Chip.homeEdge_chans (c : Chip) (x : Nat) (on : Bool) : (c.homeEdge x on).chans = c.chans := by
  simp [Chip.homeEdge]

@[simp] theorem Chip.homeStep_chans (c : Chip) (x k : Nat) : (c.homeStep x k).chans = c.chans := by
  simp [Chip.homeStep]

@[simp] theorem Chip.actDone_chans (c : Chip) (x : Nat) : (c.actDone x).chans = c.chans := by
  simp [Chip.actDone]

@[simp] theorem Chip.homeDone_chans (c : Chip) (x : Nat) : (c.homeDone x).chans = c.chans := by
  simp [Chip.homeDone]

@[simp] theorem Chip.motionEnd_chans (c : Chip) (x : Nat) : (c.motionEnd x).chans = c.chans := by
  simp [Chip.motionEnd]

@[simp] theorem Chip.limitStop_chans (c : Chip) (x n : Nat) : (c.limitStop x n).chans = c.chans := by
  simp [Chip.limitStop]

@[simp] theorem Chip.axSwitches_chans (c : Chip) (x : Nat) : (c.axSwitches x).chans = c.chans := by
  simp [Chip.axSwitches]

@[simp] theorem Chip.switchesOf_chans (c : Chip) (g : Nat) : (c.switchesOf g).chans = c.chans := by
  simp [Chip.switchesOf]

end Sys2Proof.Machine
end

section
/-! SUPPORT. O18: shared outputs and foreign current. -/

namespace Sys2Proof.Machine

theorem extSrc_begins (g : Fin 128) (s : State) (hs : Shaped s) (hguard : s.chip.guarded g = false) (ua : BitVec 32)
    (hmode : s.chip.mode g = 6) (hext : (s.chip.chan g).extOff = false) (hstood : s.chip.stood g .above 10000 = true)
    (hua : milli (s.chip.get (chanAt g) Chan.command) +
      (if s.chip.shared g = true ∧ s.chip.flag pairAt Pair.partner = true then 2500 else 1000) < ua.toInt) :
    ∃ t, exec (.extSrc g ua) s = .next t ∧ (t.chip.chan g).extOff = true ∧ t.chip.get (chanAt g) Chan.bellows_mv = 4000 ∧
      t.chip.aNow g fExtSrc = true ∧ StoresKept s t ∧ ∀ q, q ≠ g.val → t.chip.chan q = s.chip.chan q := by
  have hlen := hs.chans
  have hrun : ¬ ua.toInt ≤ milli (s.chip.get (chanAt g) Chan.command) + s.chip.extMargin g := by
    have : s.chip.extMargin g = if s.chip.shared g = true ∧ s.chip.flag pairAt Pair.partner = true then 2500 else 1000 := by
      simp [Chip.extMargin]
    omega
  refine ⟨_, chipOnly_to s (by simp [hmode, hext, hguard, hstood, hrun]; rfl), ?_, ?_, ?_, .chip s _, ?_⟩
  · simp [hlen]
  · simp +decide [Chip.get_put_of_lt]
  · simp +decide
  · intro q hq
    simp [hq]

theorem extSrc_ends (g : Fin 128) (s : State) (hs : Shaped s) (hguard : s.chip.guarded g = false) (ua : BitVec 32)
    (hext : (s.chip.chan g).extOff = true) (hstood : s.chip.stood g .gone 100000 = true) (hua : ua.toInt < 500) :
    ∃ t, exec (.extSrcEnd g ua) s = .next t ∧ (t.chip.chan g).extOff = false ∧ t.chip.aNow g fExtSrc = false ∧ StoresKept s t ∧
      ∀ q, q ≠ g.val → t.chip.chan q = s.chip.chan q := by
  have hlen := hs.chans
  have hrun : ¬ 500 ≤ ua.toInt := by omega
  refine ⟨_, chipOnly_to s (by simp [hext, hguard, hstood, hrun]; rfl), ?_, ?_, .chip s _, ?_⟩
  · split <;> simp [hlen]
  · split <;> simp +decide
  · intro q hq
    split <;> simp [hq]

theorem sharedDoExchange_takes (g : Fin 128) (s : State) (hs : Shaped s) (on : Bool) (load : BitVec 16) (low : Bool)
    (hshared : s.chip.shared g = true) (hmode : s.chip.mode g = 9) (hpartner : s.chip.flag pairAt Pair.partner = true) :
    ∃ t, exec (.sharedDoExchange g on load low) s = .next t ∧ (t.chip.chan g).partnerOn = on ∧
      (t.chip.chan g).partnerLoad = load.toNat ∧ StoresKept s t ∧ ∀ q, q ≠ g.val → t.chip.chan q = s.chip.chan q := by
  have hlen := hs.chans
  rw [Chip.flag] at hpartner
  refine ⟨_, chipOnly_to s (if_neg (by simp [hshared, hmode, Chip.flag, hpartner])), ?_, ?_, .chip s _, ?_⟩
  · simp only []
    split
    · simp [hlen]
    split
    · simp [hlen]
    · simp [hlen]
  · simp only []
    split
    · simp [hlen]
    split
    · simp [hlen]
    · simp [hlen]
  · intro q hq
    simp only []
    split
    · simp [hq]
    split
    · simp [hq]
    · simp [hq]

theorem splitSource_trims (g : Fin 128) (s : State) (hs : Shaped s) (own partner : BitVec 32) (hshared : s.chip.shared g = true)
    (hmode : s.chip.mode g = 6) (hext : (s.chip.chan g).extOff = false) (hhis : (s.chip.chan g).partnerExt = false)
    (htemper : (s.chip.chan g).tempering = false) (hlease : s.chip.get pairAt Pair.lease_state = 2) (hramp : (s.chip.chan g).ramp = 0)
    (hfull : (s.chip.chan g).full = false) (hlow : s.chip.loopCmd g ≤ 8 * partner.toInt) :
    ∃ t, exec (.splitSourceMeasurement g own partner false) s = .next t ∧
      (t.chip.chan g).trim = clampI (-2000) 2000 ((s.chip.chan g).trim + (s.chip.loopCmd g - (own.toInt + partner.toInt))) ∧
      (t.chip.chan g).share = s.chip.loopCmd g / 2 + (t.chip.chan g).trim ∧
      (t.chip.chan g).lowRun = 0 ∧ t = { s with chip := { s.chip with chans := t.chip.chans } } ∧
      ∀ q, q ≠ g.val → t.chip.chan q = s.chip.chan q := by
  have hlen := hs.chans
  have hcmd : (s.chip.seeCurrent g (own.toInt + partner.toInt)).loopCmd g = s.chip.loopCmd g := by
    simp +decide [Chip.loopCmd, hlen]
  have hlow' : ¬ 8 * partner.toInt < s.chip.loopCmd g := by omega
  refine ⟨_, chipOnly_to s (by
    simp [hshared, hmode, hlease, hext, hhis, htemper, hramp, hcmd, hfull, hlow', hlen, ChanSt.shareOf]; rfl), ?_, ?_, ?_, ?_, ?_⟩
  · simp [hlen]
  · simp [hlen, hramp, hfull]
  · simp [hlen]
  · exact congrArg (fun d => ({ s with chip := d } : State))
      (((Chip.ChansOnly.seeCurrent _ _ _).trans (.setChan _ _ _)).trans (.setChan _ _ _)).eq
  · intro q hq
    simp [hq]

theorem shareRamp_ends (g : Fin 128) (s : State) (hs : Shaped s) (hramp : (s.chip.chan g).ramp ≠ 0)
    (htemper : (s.chip.chan g).tempering = false) (hdue : (s.chip.chan g).rampAt + 20000 ≤ s.chip.now) :
    ∃ t, exec (.shareRampEnd g) s = .next t ∧ (t.chip.chan g).ramp = 0 ∧ StoresKept s t ∧
      ∀ q, q ≠ g.val → t.chip.chan q = s.chip.chan q := by
  have hlen := hs.chans
  refine ⟨_, chipOnly_to s (if_neg (by simp [hramp, htemper, hdue])), ?_, .chip s _, ?_⟩
  · simp only []
    split
    · rw [Chip.ramp_resolve _ (by simpa using hlen) g.isLt]
      simp [hlen]
    · simp [hlen]
  · intro q hq
    simp only []
    split
    · rw [(Chip.resolve_moves _ g).others q hq]
      simp [hq]
    · simp [hq]

/-- Settles O18. -/
theorem sharedOutputs : Obligations.SharedOutputs := by
  intro g s hs
  refine ⟨fun hguard => ⟨?_, ?_⟩, ?_, ?_, ?_⟩
  · exact extSrc_begins g s hs hguard
  · exact extSrc_ends g s hs hguard
  · exact sharedDoExchange_takes g s hs
  · exact splitSource_trims g s hs
  · exact shareRamp_ends g s hs

end Sys2Proof.Machine
end

section
/-! SUPPORT. O16: digital inputs and counters. -/

namespace Sys2Proof.Machine

theorem monClass_lt (r : Nat) : monClass r < 16 := by
  unfold monClass
  split_ifs <;> decide

/-- What follows the class and the resistance of a monitored sample: the fault's begin or end, then status or image. -/
theorem Chip.monitorRest_moves (x : Chip) (g : Nat) (begins ends held : Bool) (n last r v : Nat) (f : ChanSt → ChanSt) :
    x.ChanMoves g [0x09, 0x0A, 0x14, 0x1F] (
      let y := if begins then ((x.setChan g f).dOn g n).record 39 (g / 16) 2 g [last] [r]
        else if ends then (((x.setChan g f).dOff g dMonShort).dOff g dMonBreak).record 39 (g / 16) 0 g [0] [r]
        else x.setChan g f
      if held then y.putStatus g else y.setImage g v) := by
  have hflags : (x.setChan g f).ChanMoves g [0x09, 0x0A, 0x14, 0x1F] (
      if begins then ((x.setChan g f).dOn g n).record 39 (g / 16) 2 g [last] [r]
      else if ends then (((x.setChan g f).dOff g dMonShort).dOff g dMonBreak).record 39 (g / 16) 0 g [0] [r]
      else x.setChan g f) := by
    refine .ite (fun _ => ?_) (fun _ => .ite (fun _ => ?_) (fun _ => .refl g _ _))
    · exact ((Chip.dOn_moves _ g _).mono (by decide)).trans (.record _ g _ _ _ _ _ _ _)
    · exact (((Chip.dOff_moves _ g _).mono (by decide)).trans ((Chip.dOff_moves _ g _).mono (by decide))).trans
        (.record _ g _ _ _ _ _ _ _)
  refine (Chip.ChanMoves.setChan x g _ f).trans (hflags.trans ?_)
  exact .ite (fun _ => (Chip.putStatus_moves _ g).mono (by decide)) (fun _ => (Chip.setImage_moves _ g v).mono (by decide))

theorem Chip.monitorSample_moves (c : Chip) (g r : Nat) :
    ((c.put (chanAt g) Dig.mon_class (monClass r)).put (chanAt g) Dig.mon_res (min (r / 10) 0xFFFF)).ChanMoves g
      [0x09, 0x0A, 0x14, 0x1F] (c.monitorSample g r) := Chip.monitorRest_moves _ g _ _ _ _ _ r _ _

theorem diSample_filters (g : Fin 128) (s : State) (hs : Shaped s) (hseq : (s.chip.chan g).seq = 0) (hdead : s.chip.chanDead g = false)
    (htemper : (s.chip.chan g).tempering = false) (hsurvey : (s.chip.chan g).surveyed = false)
    (htongs : s.chip.tongsWait (chanTongs g 4) = false) (hdue : s.chip.sampleDue g = true) (reading : BitVec 32)
    (hmode : s.chip.mode g = 7) : ∃ t, exec (.diSample g reading) s = .next t ∧
        (let high := if s.chip.flag (chanAt g) Dig.di_type then decide (8000 ≤ reading.toInt) else decide (10000 ≤ reading.toInt)
         let n := s.chip.get (chanAt g) Dig.filt_n
         let i := filterCount (s.chip.chan g).integ n high (!high)
         (t.chip.chan g).integ = i ∧ (t.chip.chan g).state = filterState i n (s.chip.chan g).state ∧
         (t.chip.chan g).img = b2n (filterState i n (s.chip.chan g).state)) ∧ StoresKept s t ∧
        ∀ q, q ≠ g.val → t.chip.chan q = s.chip.chan q := by
  have hlen := hs.chans
  have hhigh : (if s.chip.flag (chanAt g) Dig.di_type then decide (8000 ≤ reading.toInt) else decide (10000 ≤ reading.toInt)) =
      decide ((if s.chip.flag (chanAt g) Dig.di_type then 8000 else 10000) ≤ reading.toInt) := by
    split <;> rfl
  refine ⟨_, chipOnly_to s (by simp [hseq, hdead, htemper, hsurvey, htongs, hdue, hmode]; rfl), ?_, .chip s _, ?_⟩
  · rw [hhigh]
    simp [Chip.inputSample, Chip.chan_congr (Chip.switchesOf_chans _ _), hlen, hseq, Chip.flag]
  · intro q hq
    simp [Chip.inputSample, Chip.chan_congr (Chip.switchesOf_chans _ _), hlen, hseq, hq]

theorem diSample_classes (g : Fin 128) (s : State) (hs : Shaped s) (hseq : (s.chip.chan g).seq = 0) (hdead : s.chip.chanDead g = false)
    (htemper : (s.chip.chan g).tempering = false) (hsurvey : (s.chip.chan g).surveyed = false)
    (htongs : s.chip.tongsWait (chanTongs g 4) = false) (hdue : s.chip.sampleDue g = true) (reading : BitVec 32)
    (hmode : s.chip.mode g = 8) (hgs : (s.chip.gs (g / 16)).off = false) :
    ∃ t, exec (.diSample g reading) s = .next t ∧
          t.chip.get (chanAt g) Dig.mon_class = monClass reading.toNat ∧
          t.chip.get (chanAt g) Dig.mon_res = min (reading.toNat / 10) 0xFFFF ∧ StoresKept s t ∧
          ∀ q, q ≠ g.val → t.chip.chan q = s.chip.chan q := by
  have hlen := hs.chans
  have hclass := monClass_lt reading.toNat
  have hres : min (reading.toNat / 10) 65535 < 2 ^ 16 := by omega
  refine ⟨_, chipOnly_to s (by simp [hseq, hdead, htemper, hsurvey, htongs, hdue, hmode, hgs]; rfl), ?_, ?_, .chip s _, ?_⟩
  · rw [(Chip.monitorSample_moves _ g _).get_off g.isLt (by decide), Chip.get_put_clear _ _ _ (by decide)]
    exact Chip.get_put_of_lt _ _ (by decide) hclass
  · rw [(Chip.monitorSample_moves _ g _).get_off g.isLt (by decide)]
    exact Chip.get_put_of_lt _ _ (by decide) hres
  · intro q hq
    rw [(Chip.monitorSample_moves _ g _).others q hq]
    simp [hq]

/-- The frequency is written first; the rest of a gate's end leaves it. -/
theorem Chip.gateEnd_moves (c : Chip) (g : Nat) (fast was : Bool) (k : Nat) (f : ChanSt → ChanSt) :
    c.ChanMoves g [0x0A, 0x14, 0x1F] (((
        if fast && !was then (c.dOn g dCntOver).record 46 (g / 16) 1 g [1] [k]
        else if was && !fast then (c.dOff g dCntOver).record 46 (g / 16) 0 g [0] [k]
        else c).setChan g f).putStatus g) := by
  refine Chip.ChanMoves.trans (.trans ?_ (.setChan _ g _ f)) ((Chip.putStatus_moves _ g).mono (by decide))
  refine .ite (fun _ => ?_) (fun _ => .ite (fun _ => ?_) (fun _ => .refl g _ c))
  · exact ((Chip.dOn_moves c g _).mono (by decide)).trans (.record _ g _ _ _ _ _ _ _)
  · exact ((Chip.dOff_moves c g _).mono (by decide)).trans (.record _ g _ _ _ _ _ _ _)

theorem cntGate_ends (g : Fin 128) (s : State) (hs : Shaped s) (hseq : (s.chip.chan g).seq = 0) (hdead : s.chip.chanDead g = false)
    (edges span : BitVec 32) (hmode : s.chip.mode g = 11) (hdue : (s.chip.chan g).gateAt + (s.chip.chan g).gateLen ≤ s.chip.now)
    (hclk : s.chip.clkLost (g / 16) 5 = false) : ∃ t, exec (.cntGateEnd g edges span) s = .next t ∧
        (t.chip.chan g).gateAt = (s.chip.chan g).gateAt + (s.chip.chan g).gateLen ∧
        (t.chip.chan g).gateLen = s.chip.get (chanAt g) Dig.cnt_gate ∧
        (edges.toNat < 2 → t.chip.get (chanAt g) Dig.freq = 0) ∧
        (2 ≤ edges.toNat → 0 < span.toNat → s.chip.get (chanAt g) Dig.cnt_edge ≠ 2 →
          t.chip.get (chanAt g) Dig.freq = rOfRat (((edges.toNat - 1) * 40000000 : Nat) : Int) span.toNat) ∧ StoresKept s t ∧
        ∀ q, q ≠ g.val → t.chip.chan q = s.chip.chan q := by
  have hlen := hs.chans
  refine ⟨_, chipOnly_to s (if_neg (by simp [hseq, hdead, hmode, hclk, hdue])), ?_, ?_, ?_, ?_, .chip s _, ?_⟩
  · simp only []
    split_ifs <;> simp [hlen]
  · simp only []
    split_ifs <;> simp [hlen]
  · intro hk
    rw [(Chip.gateEnd_moves _ g _ _ _ _).get_off g.isLt (by decide), if_pos (by simp [hk])]
    exact Chip.get_put_of_lt _ _ (by decide) (by decide)
  · intro hk hspan hedge
    have hlt := rOfRat_lt (((edges.toNat - 1) * 40000000 : Nat) : Int) span.toNat
    rw [(Chip.gateEnd_moves _ g _ _ _ _).get_off g.isLt (by decide), if_neg (by simp; omega), if_neg (by simpa using hedge), Nat.mul_one]
    exact Chip.get_put_of_lt _ _ (by decide) hlt
  · intro q hq
    exact (Chip.gateEnd_moves _ g _ _ _ _).others q hq

/-- Settles O16. -/
theorem digitalInputs : Obligations.DigitalInputs := by
  intro g s hs hseq hdead
  refine ⟨fun htemper hsurvey htongs hdue => ⟨?_, ?_⟩, ?_⟩
  · exact diSample_filters g s hs hseq hdead htemper hsurvey htongs hdue
  · exact diSample_classes g s hs hseq hdead htemper hsurvey htongs hdue
  · exact cntGate_ends g s hs hseq hdead

end Sys2Proof.Machine
end

section
/-! SUPPORT. O15: the current output's bellows and conditions. -/

namespace Sys2Proof.Machine

theorem Chip.ChansOnly.word {c d : Chip} (h : c.ChansOnly d) (a : Nat) : d.word a = c.word a := by
  obtain ⟨cs, rfl⟩ := h
  rfl

theorem Chip.ChansOnly.refl (c : Chip) : c.ChansOnly c := ⟨c.chans, rfl⟩

theorem Chip.vMax_le (c : Chip) (g : Nat) : c.vMax g ≤ 26000 := by
  unfold Chip.vMax
  split <;> decide

/-- The bellows one measurement of the terminal voltage on (R230). -/
def Chip.nextBellows (c : Chip) (g : Nat) (mv : Int) : Nat :=
  let target := (max 4000 (min (c.vMax g : Int) (halfVolt (mv + 2500)))).toNat
  let old := c.get (chanAt g) Chan.bellows_mv
  if old ≤ target then target else max target (old - 500)

/-- A measurement of the terminal voltage taken, without and with the bellows that follows it. -/
def Chip.takeVolts (c : Chip) (g : Nat) (mv : BitVec 16) : Chip :=
  (c.put (chanAt g) Chan.term_mv mv.toNat).setChan g (fun h => { h with measAt := some c.now })

def Chip.followVolts (c : Chip) (g : Nat) (mv : BitVec 16) : Chip :=
  (c.takeVolts g mv).put (chanAt g) Chan.bellows_mv (c.nextBellows g mv.toInt)

def Chip.measureVolts (c : Chip) (g : Nat) (mv : BitVec 16) (ua : Int) : Chip :=
  if c.shared g then c.followVolts g mv else (c.followVolts g mv).seeCurrent g ua

theorem Chip.nextBellows_lt (c : Chip) (g : Nat) (mv : Int) : c.nextBellows g mv < 2 ^ 16 := by
  have hold := c.get_lt (chanAt g) Chan.bellows_mv
  have hmax := c.vMax_le g
  unfold Chip.nextBellows
  simp only []
  generalize ht : (max 4000 (min (c.vMax g : Int) (halfVolt (mv + 2500)))).toNat = target
  have htarget : target ≤ 26000 := by omega
  have hold' : c.get (chanAt g) Chan.bellows_mv < 2 ^ 16 := hold
  split <;> omega

theorem Chip.nextBellows_takeVolts (c : Chip) (g : Nat) (mv : BitVec 16) :
    (c.takeVolts g mv).nextBellows g mv.toInt = c.nextBellows g mv.toInt := by
  have hget : (c.takeVolts g mv).get (chanAt g) Chan.bellows_mv = c.get (chanAt g) Chan.bellows_mv := by
    simp (disch := decide) [Chip.takeVolts]
  have hmax : (c.takeVolts g mv).vMax g = c.vMax g := rfl
  rw [Chip.nextBellows, Chip.nextBellows, hget, hmax]

/-- The words of a measurement: the terminal voltage and the bellows stand in one. -/
theorem Chip.followVolts_frame {c d : Chip} {g : Nat} {mv : BitVec 16} (h : (c.followVolts g mv).ChansOnly d) :
    d = { c with regs := d.regs, chans := d.chans } ∧ ∀ a, a ≠ chanAt g + 0xD → d.word a = c.word a := by
  refine ⟨?_, fun a ha => ?_⟩
  · obtain ⟨cs, rfl⟩ := h
    rfl
  · rw [h.word, Chip.followVolts, Chip.word_put_other _ _ (by simpa [Field.at, Chan.bellows_mv, Field.one] using ha),
      Chip.takeVolts, Chip.setChan_word, Chip.word_put_other _ _ (by simpa [Field.at, Chan.term_mv, Field.one] using ha)]

theorem exec_bellowsMeasurement (g : Fin 128) (s : State) (hs : Shaped s) (hmode : s.chip.mode g = 6)
    (hdriven : (s.chip.chan g).driven = true) (mv : BitVec 16) (ua : BitVec 32) (hdue : s.chip.measuredSince g 2000 = false)
    (hoff : s.chip.terminalOff g = false) : exec (.bellowsMeasurement g (mv, ua)) s = .next { s with chip := s.chip.measureVolts g mv ua.toInt } := by
  have hchan : (s.chip.takeVolts g mv).chan g = { s.chip.chan g with measAt := some s.chip.now } := by
    simp [Chip.takeVolts, hs.chans]
  have hoff' : (s.chip.takeVolts g mv).terminalOff g = false := by
    rw [Chip.terminalOff, hchan]
    exact hoff
  have hgo : ¬ (!((s.chip.takeVolts g mv).chan g).driven || (s.chip.takeVolts g mv).terminalOff g) = true := by
    simp [hchan, hdriven, hoff']
  rw [Chip.measureVolts, Chip.followVolts, ← Chip.nextBellows_takeVolts]
  exact chipOnly_to s ((if_neg (by simp [hmode, hdue])).trans (if_neg hgo))

theorem bellows_measured (g : Fin 128) (s : State) (hs : Shaped s) (hmode : s.chip.mode g = 6) (hdriven : (s.chip.chan g).driven = true)
    (termMv : BitVec 16) (ua : BitVec 32) (hdue : s.chip.measuredSince g 2000 = false) (hoff : s.chip.terminalOff g = false) :
        ∃ t, exec (.bellowsMeasurement g (termMv, ua)) s = .next t ∧
        t.chip.get (chanAt g) Chan.term_mv = termMv.toNat ∧
        (let target := (max 4000 (min (s.chip.vMax g : Int) (halfVolt (termMv.toInt + 2500)))).toNat
         let old := s.chip.get (chanAt g) Chan.bellows_mv
         t.chip.get (chanAt g) Chan.bellows_mv = if old ≤ target then target else max target (old - 500)) ∧
        t = { s with chip := { s.chip with regs := t.chip.regs, chans := t.chip.chans } } ∧
        WordsKept (fun a => a = chanAt g + 0xD) s t := by
  have honly : (s.chip.followVolts g termMv).ChansOnly (s.chip.measureVolts g termMv ua.toInt) := by
    unfold Chip.measureVolts
    split
    · exact .refl _
    · exact .seeCurrent _ g _
  refine ⟨_, exec_bellowsMeasurement g s hs hmode hdriven termMv ua hdue hoff, ?_, ?_, ?_, ?_⟩
  · rw [Chip.get_congr (honly.word _), Chip.followVolts, Chip.get_put_clear _ _ _ (by decide)]
    exact Chip.get_put_of_lt _ _ (by decide) termMv.isLt
  · exact (Chip.get_congr (honly.word _)).trans (Chip.get_put_of_lt _ _ (by decide) (s.chip.nextBellows_lt g _))
  · exact congrArg (fun d => ({ s with chip := d } : State)) (Chip.followVolts_frame honly).1
  · exact (Chip.followVolts_frame honly).2

/-! ### Compliance, an open loop and foldback -/

/-- The compliance state taken up, with its flag and its alarm value. -/
def Chip.toShort (c : Chip) (g : Nat) : Chip := ((c.aOn g fComp).setChan g (fun h => { h with short := true })).alarmSync g

theorem Chip.enterShort_eq (c : Chip) (g : Nat) (ua : Int) : c.enterShort g ua =
    ((if (c.toShort g).phase = 8 then (c.toShort g).bump (chanAt g) Chan.comp_count else c.toShort g).setImage g
      (rat ua 1000)).record 35 (g / 16) 1 g [1] [unsigned 32 (milli (c.get (chanAt g) Chan.command)), unsigned 32 ua] := by
  have hwhen : ∀ (d : Chip) (f : Chip → Chip), d.when (d.phase = 8) f = if d.phase = 8 then f d else d := fun d f => by
    by_cases h : d.phase = 8 <;> simp [Chip.when, h]
  rw [Chip.enterShort, hwhen]
  rfl

theorem Chip.toShort_moves (c : Chip) (g : Nat) : c.ChanMoves g flagOffs (c.toShort g) :=
  ((Chip.aOn_moves c g _).trans (.setChan _ g _ _)).trans ((Chip.alarmSync_moves _ g).mono (by decide))

/-- The words that the compliance state changes as it begins (R232). -/
theorem Chip.enterShort_moves (c : Chip) (g : Nat) (ua : Int) :
    c.ChanMoves g [0x09, 0x0A, 0x0F, 0x10, 0x14] (c.enterShort g ua) := by
  rw [Chip.enterShort_eq]
  refine ((Chip.toShort_moves c g).mono (by decide)).trans ?_
  generalize c.toShort g = x
  have hcount : x.ChanMoves g [0x09, 0x0A, 0x0F, 0x10, 0x14] (if x.phase = 8 then x.bump (chanAt g) Chan.comp_count else x) :=
    .ite (fun _ => .put x g _ (by decide)) (fun _ => .refl g _ x)
  exact (hcount.trans ((Chip.setImage_moves _ g _).mono (by decide))).trans (.record _ g _ _ _ _ _ _ _)

theorem Chip.short_enterShort (c : Chip) {g : Nat} (ua : Int) (hc : c.chans.length = 128) (hg : g < 128) :
    ((c.enterShort g ua).chan g).short = true := by
  have hlen := (Chip.toShort_moves c g).length hc
  have hshort : ((c.toShort g).chan g).short = true := by simp [Chip.toShort, hc, hg]
  rw [Chip.enterShort_eq]
  split <;> simp [hlen, hg, hshort]

theorem Chip.aNow_enterShort (c : Chip) (g : Fin 128) (ua : Int) (n : Nat) :
    (c.enterShort g ua).aNow g n = (decide (n = fComp) || c.aNow g n) := by
  have hon : (c.toShort g).aNow g n = (decide (n = fComp) || c.aNow g n) := by
    rw [Chip.toShort, Chip.aNow_alarmSync, Chip.aNow_setChan, Chip.aNow_aOn]
    by_cases h : n = fComp
    · subst h; rfl
    · simp [h]
  rw [Chip.enterShort_eq]
  split <;> simp (disch := decide) [hon]

theorem compliance_begins (g : Fin 128) (s : State) (hs : Shaped s) (hmode : s.chip.mode g = 6) (hdriven : (s.chip.chan g).driven = true)
    (ua : BitVec 32) (hshort : (s.chip.chan g).short = false) (hstood : s.chip.stood g .short 10000 = true)
    (hmax : s.chip.vMax g ≤ s.chip.get (chanAt g) Chan.bellows_mv)
    (hua : ua.toInt + 100 < milli (s.chip.get (chanAt g) Chan.command)) : ∃ t, exec (.complianceEntry g ua) s = .next t ∧
          (t.chip.chan g).short = true ∧ t.chip.aNow g fComp = true ∧ StoresKept s t ∧
          ∀ q, q ≠ g.val → t.chip.chan q = s.chip.chan q := by
  refine ⟨_, chipOnly_to s (if_pos (by simp [hmode, hdriven, hshort, hstood, hmax, hua])), ?_, ?_, .chip s _, ?_⟩
  · exact s.chip.short_enterShort _ hs.chans g.isLt
  · rw [Chip.aNow_enterShort]
    rfl
  · exact (s.chip.enterShort_moves g _).others

theorem openLoop_begins (g : Fin 128) (s : State) (hs : Shaped s) (hmode : s.chip.mode g = 6) (hdriven : (s.chip.chan g).driven = true)
    (termMv : BitVec 16) (ua : BitVec 32) (hstood : s.chip.stood g .noLoop 10000 = true)
    (hcmd : 1000 ≤ milli (s.chip.get (chanAt g) Chan.command)) (hua : ua.toInt < 100)
    (hvolt : (s.chip.vMax g : Int) - 3000 ≤ termMv.toInt) : ∃ t, exec (.openLoop g termMv ua) s = .next t ∧
          t.chip.aNow g fOpenLoop = true ∧ (t.chip.chan g).short = true ∧
          t.chip.get (chanAt g) Chan.term_mv = termMv.toNat ∧ StoresKept s t := by
  have hlen := hs.chans
  have hvolt' : ((s.chip.put (chanAt g) Chan.term_mv termMv.toNat).aOn g fOpenLoop).get (chanAt g) Chan.term_mv = termMv.toNat := by
    rw [Chip.get_aOn _ _ _ (by decide)]
    exact Chip.get_put_of_lt _ _ (by decide) termMv.isLt
  refine ⟨_, chipOnly_to s (if_pos (by simp [hmode, hdriven, hstood, hcmd, hua, hvolt])), ?_, ?_, ?_, .chip s _⟩
  · simp only []
    split
    · simp +decide
    · rw [Chip.aNow_enterShort]
      simp +decide
  · simp only []
    split
    · next h => exact h
    · exact Chip.short_enterShort _ _ (by simpa using hlen) g.isLt
  · simp only []
    split
    · exact hvolt'
    · rw [(Chip.enterShort_moves _ g _).get_off g.isLt (by decide), hvolt']

theorem compliance_ends (g : Fin 128) (s : State) (hs : Shaped s) (ua : BitVec 32) (hshort : (s.chip.chan g).short = true)
    (halarm : (s.chip.chan g).alarm = false) (hstood : s.chip.stood g .good 100000 = true)
    (hua : (milli (s.chip.get (chanAt g) Chan.command) - ua.toInt).natAbs ≤ 50) : ∃ t, exec (.complianceEnd g ua) s = .next t ∧
        (t.chip.chan g).short = false ∧ t.chip.aNow g fComp = false ∧ t.chip.aNow g fOpenLoop = false ∧ StoresKept s t := by
  have hlen := hs.chans
  refine ⟨_, chipOnly_to s (if_pos (by simp [hshort, halarm, hstood, hua])), ?_, ?_, ?_, .chip s _⟩
  · simp [hlen]
  · simp +decide
  · simp +decide

theorem foldback_begins (g : Fin 128) (s : State) (hs : Shaped s) (tj : BitVec 16) (delivered : BitVec 32)
    (hmode : s.chip.mode g = 5 ∨ s.chip.mode g = 6) (htj : 2400 ≤ tj.toInt) (hoff : s.chip.aNow g fTherm = false) :
    ∃ t, exec (.thermalFoldback g tj delivered) s = .next t ∧
        t.chip.aNow g fTherm = true ∧ t.chip.get (chanAt g) Chan.stage_tj = tj.toNat ∧
        t.chip.get (chanAt g) Chan.therm = 1 ∧ StoresKept s t := by
  refine ⟨_, chipOnly_to s (if_pos (by simpa [htj, hoff] using hmode)), ?_, ?_, ?_, .chip s _⟩
  · simp +decide
  · simp (disch := decide)
    exact Chip.get_put_of_lt _ _ (by decide) tj.isLt
  · simp (disch := decide)
    exact Chip.get_latch_aOn _ g (f := Chan.therm) rfl rfl (by decide)

theorem foldback_ends (g : Fin 128) (s : State) (tj : BitVec 16) (hon : s.chip.aNow g fTherm = true) (htj : tj.toInt < 2240) :
    ∃ t, exec (.thermalFoldbackEnd g tj) s = .next t ∧
      t.chip.aNow g fTherm = false ∧ t.chip.get (chanAt g) Chan.stage_tj = tj.toNat ∧
      t.chip.get (chanAt g) Chan.therm = s.chip.get (chanAt g) Chan.therm ∧ StoresKept s t := by
  refine ⟨_, chipOnly_to s (if_pos (by simp [hon, htj])), ?_, ?_, ?_, .chip s _⟩
  · simp +decide
  · simp (disch := decide)
    exact Chip.get_put_of_lt _ _ (by decide) tj.isLt
  · have haOff : ∀ c : Chip, (c.aOff g fTherm).get (chanAt g) Chan.therm = c.get (chanAt g) Chan.therm := fun c =>
      Chip.get_put_clear c _ _ (by decide)
    simp (disch := decide) [haOff]

/-- Settles O15. -/
theorem currentOutputs : Obligations.CurrentOutputs := by
  intro g s hs
  refine ⟨fun hmode hdriven => ⟨?_, ?_, ?_⟩, ?_, ?_, ?_⟩
  · exact bellows_measured g s hs hmode hdriven
  · exact compliance_begins g s hs hmode hdriven
  · exact openLoop_begins g s hs hmode hdriven
  · exact compliance_ends g s hs
  · exact foldback_begins g s hs
  · exact foldback_ends g s

end Sys2Proof.Machine
end

section
/-! SUPPORT. O17: switches and their protection. -/

namespace Sys2Proof.Machine

namespace Chip

/-! ### A switch and its conditions -/

/-- The foreign feed ends with its two flags; the others are as before. -/
theorem dNow_endBackFed_other (c : Chip) (g : Fin 128) {n : Nat} (h0 : n ≠ dBackFed) (h1 : n ≠ dCrossFed) :
    (c.endBackFed g).dNow g n = c.dNow g n := by
  unfold endBackFed
  simp only []
  split
  · rfl
  · simp (disch := decide) [h0, h1]

theorem dNow_setSwitch_other (c : Chip) (g : Fin 128) (x : Bool) {n : Nat} (h0 : n ≠ dBackFed) (h1 : n ≠ dCrossFed) :
    (c.setSwitch g x).dNow g n = c.dNow g n := by
  have hmove := dNow_moveSwitch c g x n
  rw [setSwitch_eq]
  split
  · rw [dNow_endBackFed_other _ _ h0 h1, hmove]
  · exact hmove

/-- Whether the switch carries current depends on its position and its PWM alone. -/
theorem switchOn_congr {c d : Chip} {g : Nat} (hnow : d.now = c.now) (hclosed : (d.chan g).closed = (c.chan g).closed)
    (hpwm : (d.chan g).pwmOn = (c.chan g).pwmOn) (hat : (d.chan g).pwmAt = (c.chan g).pwmAt)
    (hlen : (d.chan g).pwmLen = (c.chan g).pwmLen) (hduty : (d.chan g).duty = (c.chan g).duty) : d.switchOn g = c.switchOn g := by
  simp only [switchOn, hnow, hclosed, hpwm, hat, hlen, hduty]

theorem ChanMoves.now {g : Nat} {ws : List Nat} {c d : Chip} (h : c.ChanMoves g ws d) : d.now = c.now := by
  obtain ⟨rg, cs, rc, hd⟩ := h.frame
  rw [hd]

theorem ChanMoves.sys {g : Nat} {ws : List Nat} {c d : Chip} (h : c.ChanMoves g ws d) : d.sys = c.sys := by
  obtain ⟨rg, cs, rc, hd⟩ := h.frame
  rw [hd]

/-- Whether a switch may close depends on its channel's state, the region's supplies and clocks, and whether a PWM is set. -/
theorem mayClose_congr {c d : Chip} {g : Nat} (hsys : d.sys = c.sys) (hw : (d.chan g).waiting = (c.chan g).waiting)
    (hl : (d.chan g).latched = (c.chan g).latched) (hself : (d.chan g).selfOff = (c.chan g).selfOff)
    (hoos : (d.chan g).oos = (c.chan g).oos) (hsafe : (d.chan g).safety = (c.chan g).safety)
    (hrun : (d.chan g).safeRun = (c.chan g).safeRun)
    (hperiod : d.get (chanAt g) Dig.pwm_period = c.get (chanAt g) Dig.pwm_period) : d.mayClose g = c.mayClose g := by
  simp only [mayClose, switchFree, gs, clkLost, hsys, hw, hl, hself, hoos, hsafe, hrun, hperiod]

theorem seeLoad_moves (c : Chip) (g sum : Nat) : c.ChanMoves g [] (c.seeLoad g sum) := by
  refine .ite (fun _ => (see_moves c g _ _).trans (see_moves _ g _ _)) (fun _ => .ite (fun _ => .refl g _ c) (fun _ => ?_))
  exact ((see_moves c g _ _).trans (see_moves _ g _ _)).trans (.setChan _ g _ _)

theorem seeSwitch_moves (c : Chip) (g i : Nat) (mv : Int) : c.ChanMoves g [] (c.seeSwitch g i mv) :=
  ((((see_moves c g _ _).trans (see_moves _ g _ _)).trans (see_moves _ g _ _)).trans (seeLoad_moves _ g _)).trans (.setChan _ g _ _)

theorem chan_seeLoad (c : Chip) {g : Nat} (sum : Nat) (hc : c.chans.length = 128) (hg : g < 128) :
    ∃ l p, (c.seeLoad g sum).chan g = { c.chan g with notAt := l, phaseWas := p } := by
  have hsee : ∀ k k' x x', ((c.see g k x).see g k' x').chan g = { c.chan g with notAt := (c.see g k x).seenNot g k' x' } :=
    fun k k' x x' => by rw [chan_see _ k' x' (by simpa using hc) hg, chan_see c k x hc hg]
  unfold seeLoad
  simp only []
  split
  · exact ⟨_, (c.chan g).phaseWas, hsee _ _ _ _⟩
  split
  · exact ⟨(c.chan g).notAt, (c.chan g).phaseWas, rfl⟩
  · exact ⟨_, _, (chan_setChan _ _ (by simpa using hc) hg).trans (by rw [hsee])⟩

/-- A measurement of a switch changes what is known of its conditions alone. -/
theorem chan_seeSwitch (c : Chip) {g : Nat} (i : Nat) (mv : Int) (hc : c.chans.length = 128) (hg : g < 128) :
    ∃ l p a, (c.seeSwitch g i mv).chan g = { c.chan g with notAt := l, phaseWas := p, highAt := a } := by
  have hsee : ∀ k k' k'' x x' x'', ∃ l, (((c.see g k x).see g k' x').see g k'' x'').chan g = { c.chan g with notAt := l } :=
    fun k k' k'' x x' x'' => ⟨_, by
      rw [chan_see _ k'' x'' (by simpa using hc) hg, chan_see _ k' x' (by simpa using hc) hg, chan_see c k x hc hg]⟩
  obtain ⟨l, hl⟩ := hsee .high .low .stuck (!c.switchOn g && decide (10000 ≤ mv)) (decide (mv < 8000)) (!c.switchOn g && decide (50 < i))
  unfold seeSwitch
  simp only []
  have hlen : (((c.see g .high (!c.switchOn g && decide (10000 ≤ mv))).see g .low (decide (mv < 8000))).see g .stuck
      (!c.switchOn g && decide (50 < i))).chans.length = 128 := by simpa using hc
  generalize ((c.see g .high (!c.switchOn g && decide (10000 ≤ mv))).see g .low (decide (mv < 8000))).see g .stuck
      (!c.switchOn g && decide (50 < i)) = x at hl hlen ⊢
  obtain ⟨l', p, hp⟩ := x.chan_seeLoad (c.loadSum g i) hlen hg
  exact ⟨l', p, _, (chan_setChan _ _ ((seeLoad_moves x g _).length hlen) hg).trans (by rw [hp, hl])⟩

theorem sumOver_moves (c : Chip) (g i : Nat) : c.ChanMoves g [] (c.sumOver g i) :=
  .ite (fun _ => .refl g _ c) (fun _ => .setChan c g _ _)

theorem chan_sumOver (c : Chip) {g : Nat} (i : Nat) (hc : c.chans.length = 128) (hg : g < 128) :
    ∃ r f, (c.sumOver g i).chan g = { c.chan g with overRun := r, overFrom := f } ∧
      (c.switchOn g = true → i ≤ 6000 → r = 0 ∧ f = c.now) := by
  unfold sumOver
  simp only []
  split
  · next h => exact ⟨_, _, rfl, fun hon => absurd hon (by simpa using h)⟩
  · exact ⟨_, _, chan_setChan c _ hc hg, fun _ hi => ⟨if_pos hi, rfl⟩⟩

/-- A foreign feed that ends is recorded with its source. -/
theorem endBackFed_eq {c : Chip} {g : Nat} (h : c.dNow g dBackFed = true) : c.endBackFed g =
    (((c.dOff g dBackFed).dOff g dCrossFed).put (chanAt g) Dig.cross_src 0xFF).record 43 (g / 16) 0 g [0]
      [c.get (chanAt g) Dig.cross_src] := if_neg (by simp [h])

theorem feederOf_lt (c : Chip) (g : Nat) (named : Option Nat) {f : Nat} (h : c.feederOf g named = some f) : f < 128 := by
  have hbest : ∀ (p : Nat → Bool) (v : Nat → Nat) (top : Nat),
      f ∈ ((((List.range 128).filter p).map (fun x => (x, v x))).filter (fun e => e.2 == top)).map (·.1) → f < 128 :=
    fun p v top hf => by
      simp only [List.mem_map, List.mem_filter, List.mem_range] at hf
      obtain ⟨e, ⟨⟨x, ⟨hx, _⟩, rfl⟩, _⟩, rfl⟩ := hf
      exact hx
  unfold feederOf at h
  simp only [] at h
  split at h
  · exact absurd h (by simp)
  · cases named with
    | none => exact hbest _ _ _ (List.mem_of_mem_head? h)
    | some n =>
      simp only [] at h
      split at h
      · next hc =>
        obtain rfl : n = f := by simpa using h
        exact hbest _ _ _ (List.contains_iff_mem.1 hc)
      · exact hbest _ _ _ (List.mem_of_mem_head? h)

end Chip

theorem pwmPeriod_ends (g : Fin 128) (s : State) (hs : Shaped s) (hon : (s.chip.chan g).pwmOn = true)
    (hdue : (s.chip.chan g).pwmAt + (s.chip.chan g).pwmLen ≤ s.chip.now) (hperiod : s.chip.get (chanAt g) Dig.pwm_period ≠ 0) :
    ∃ t, exec (.pwmPeriodEnd g) s = .next t ∧
        (t.chip.chan g).pwmAt = (s.chip.chan g).pwmAt + (s.chip.chan g).pwmLen ∧
        (t.chip.chan g).pwmLen = s.chip.get (chanAt g) Dig.pwm_period ∧ (t.chip.chan g).pwmOn = true ∧
        (t.chip.chan g).duty = s.chip.get (chanAt g) Chan.command ∧ (t.chip.chan g).closed = s.chip.mayClose g ∧
        StoresKept s t ∧ ∀ q, q ≠ g.val → t.chip.chan q = s.chip.chan q := by
  have hlen := hs.chans
  refine ⟨_, chipOnly_to s ((if_neg (by simp [hon, hdue])).trans (if_neg hperiod)), ?_, ?_, ?_, ?_, ?_, .chip s _, ?_⟩
  · simp [hlen]
  · simp [hlen]
  · simp [hlen, hon]
  · simp [hlen]
  · simp [hlen]
  · intro q hq
    simp [hq]

/-- A measurement written, with the trips of the last 60 s and the loads kept. -/
def Chip.loadTaken (c : Chip) (g i mv : Nat) : Chip :=
  let live := (c.chan g).tripTicks.filter (fun t => c.now < t + 60000000)
  ((((c.put (chanAt g) Chan.term_mv mv).setChan g (fun h => { h with measAt := some c.now })).put (chanAt g) Dig.load i).put
    (chanAt g) Dig.trips (min live.length 15)).setChan g (fun h => { h with tripTicks := live, loads := ((c.now, i) :: h.loads).take 20 })

/-- What is judged on a measurement, and the image of the switch that follows it. -/
def Chip.loadJudged (c : Chip) (g i : Nat) : Chip :=
  let d := if c.dNow g dStuckOn && c.judged g && (c.switchOn g || i ≤ 50) then
      (c.dOff g dStuckOn).record 44 (g / 16) 0 g [0] [i]
    else c
  if (d.chan g).seq == 1 || (d.chan g).seq == 2 then d else d.setImage g (b2n (d.switchReads g))

theorem Chip.loadJudged_moves (c : Chip) (g i : Nat) : c.ChanMoves g [0x09, 0x0A, 0x14, 0x1F] (c.loadJudged g i) := by
  unfold Chip.loadJudged
  simp only []
  generalize hd : (if (c.dNow g dStuckOn && c.judged g && (c.switchOn g || i ≤ 50)) = true then
    (c.dOff g dStuckOn).record 44 (g / 16) 0 g [0] [i] else c) = d
  have hflag : c.ChanMoves g [0x09, 0x0A, 0x14, 0x1F] d := by
    subst hd
    exact .ite (fun _ => ((Chip.dOff_moves c g _).mono (by decide)).trans (.record _ g _ _ _ _ _ _ _)) (fun _ => .refl g _ c)
  exact hflag.trans (.ite (fun _ => .refl g _ d) (fun _ => (Chip.setImage_moves d g _).mono (by decide)))

/-- The judgement of a load leaves the state of its channel but for the image. -/
theorem Chip.chan_loadJudged (c : Chip) {g : Nat} (i : Nat) (hc : c.chans.length = 128) (hg : g < 128) :
    ∃ v ty, (c.loadJudged g i).chan g = { c.chan g with img := v, imgTy := ty } := by
  unfold Chip.loadJudged
  simp only []
  generalize hd : (if (c.dNow g dStuckOn && c.judged g && (c.switchOn g || i ≤ 50)) = true then
    (c.dOff g dStuckOn).record 44 (g / 16) 0 g [0] [i] else c) = d
  have hchans : d.chans = c.chans := by
    subst hd
    split
    · rw [Chip.record_chans, Chip.dOff_chans]
    · rfl
  have hchan := Chip.chan_congr hchans g
  split
  · exact ⟨_, _, hchan⟩
  · exact ⟨_, _, (Chip.chan_setImage d _ (by rw [hchans, hc]) hg).trans (by rw [hchan])⟩

theorem exec_loadCurrentMeasurement (g : Fin 128) (s : State) (tenthMa termMv : BitVec 16) (hmode : doMode (s.chip.mode g) = true)
    (hclk : s.chip.clkLost (g / 16) 4 = false) (htongs : s.chip.tongsWait (chanTongs g 4) = false)
    (hdue : s.chip.measuredSince g 1000 = false ∨ s.chip.phaseEnd g = true) :
    exec (.loadCurrentMeasurement g tenthMa termMv) s = .next { s with chip :=
      ((((s.chip.loadTaken g tenthMa.toNat termMv.toNat).seeSwitch g tenthMa.toNat termMv.toInt).sumOver g tenthMa.toNat).loadJudged g
        tenthMa.toNat) } := by
  have hrange : 7 ≤ s.chip.mode g ∧ s.chip.mode g ≤ 12 := by
    simp only [doMode, Bool.or_eq_true, beq_iff_eq] at hmode
    omega
  have hdue' : s.chip.measuredSince g 1000 = true → s.chip.phaseEnd g = true := fun h => by
    rw [h] at hdue
    simpa using hdue
  exact chipOnly_to s ((if_neg (by simpa [hrange, hclk, htongs] using hdue')).trans (if_neg (by simp [hmode])))

theorem load_measured (g : Fin 128) (s : State) (hs : Shaped s) (tenthMa termMv : BitVec 16) (hmode : doMode (s.chip.mode g) = true)
    (hclk : s.chip.clkLost (g / 16) 4 = false) (htongs : s.chip.tongsWait (chanTongs g 4) = false)
    (hdue : s.chip.measuredSince g 1000 = false ∨ s.chip.phaseEnd g = true) :
      ∃ t, exec (.loadCurrentMeasurement g tenthMa termMv) s = .next t ∧
        t.chip.get (chanAt g) Dig.load = tenthMa.toNat ∧ t.chip.get (chanAt g) Chan.term_mv = termMv.toNat ∧
        (t.chip.chan g).tripTicks = (s.chip.chan g).tripTicks.filter (fun k => s.chip.now < k + 60000000) ∧
        (s.chip.switchOn g = true → tenthMa.toNat ≤ 6000 → (t.chip.chan g).overRun = 0 ∧ (t.chip.chan g).overFrom = s.chip.now) ∧
        StoresKept s t ∧ ∀ q, q ≠ g.val → t.chip.chan q = s.chip.chan q := by
  have hlen := hs.chans
  generalize hx : s.chip.loadTaken g tenthMa.toNat termMv.toNat = x
  have hxlen : x.chans.length = 128 := by
    rw [← hx]
    simpa [Chip.loadTaken] using hlen
  have hchan : x.chan g = { s.chip.chan g with
      measAt := some s.chip.now, tripTicks := (s.chip.chan g).tripTicks.filter (fun k => s.chip.now < k + 60000000)
      loads := ((s.chip.now, tenthMa.toNat) :: (s.chip.chan g).loads).take 20 } := by
    rw [← hx]
    simp [Chip.loadTaken, hlen]
  have hnow : x.now = s.chip.now := by
    rw [← hx]
    simp [Chip.loadTaken]
  obtain ⟨l, p, a, hsee⟩ := x.chan_seeSwitch tenthMa.toNat termMv.toInt hxlen g.isLt
  have hseemoves := x.seeSwitch_moves g tenthMa.toNat termMv.toInt
  generalize hy : x.seeSwitch g tenthMa.toNat termMv.toInt = y at hsee hseemoves
  have hon : y.switchOn g = s.chip.switchOn g := by
    refine Chip.switchOn_congr (hseemoves.now.trans hnow) ?_ ?_ ?_ ?_ ?_ <;> rw [hsee, hchan]
  obtain ⟨r, f, hsum, hover⟩ := y.chan_sumOver tenthMa.toNat (hseemoves.length hxlen) g.isLt
  have hsummoves := y.sumOver_moves g tenthMa.toNat
  generalize hz : y.sumOver g tenthMa.toNat = z at hsum hsummoves
  obtain ⟨v, ty, hjudge⟩ := z.chan_loadJudged tenthMa.toNat (hsummoves.length (hseemoves.length hxlen)) g.isLt
  have hmoves := ((hseemoves.mono (List.nil_subset _)).trans (hsummoves.mono (List.nil_subset _))).trans
    (z.loadJudged_moves g tenthMa.toNat)
  refine ⟨_, exec_loadCurrentMeasurement g s tenthMa termMv hmode hclk htongs hdue, ?_⟩
  simp only [hx, hy, hz]
  refine ⟨?_, ?_, ?_, ?_, .chip s _, ?_⟩
  · rw [hmoves.get_off g.isLt (by decide), ← hx, Chip.loadTaken, Chip.setChan_get, Chip.get_put_clear _ _ _ (by decide)]
    exact Chip.get_put_of_lt _ _ (by decide) tenthMa.isLt
  · rw [hmoves.get_off g.isLt (by decide), ← hx, Chip.loadTaken, Chip.setChan_get, Chip.get_put_clear _ _ _ (by decide),
      Chip.get_put_clear _ _ _ (by decide), Chip.setChan_get]
    exact Chip.get_put_of_lt _ _ (by decide) termMv.isLt
  · rw [hjudge, hsum, hsee, hchan]
  · intro hson hi
    obtain ⟨hr, hf⟩ := hover (hon.trans hson) hi
    rw [hjudge, hsum]
    exact ⟨hr, hf.trans (hseemoves.now.trans hnow)⟩
  · intro q hq
    rw [hmoves.others q hq, ← hx]
    simp [Chip.loadTaken, hq]

theorem switch_trips (g : Fin 128) (s : State) (hs : Shaped s) (thermal : Bool) (ma : BitVec 16) (hmode : doMode (s.chip.mode g) = true)
    (hon : s.chip.switchOn g = true) (hguard : s.chip.guarded g = false)
    (hcause : thermal = true ∨ (600 < ma.toNat ∧ 1000 * s.chip.get (chanAt g) Dig.overload_ms ≤ s.chip.overTime g)) :
    ∃ t, exec (.switchTrip g thermal ma) s = .next t ∧ (t.chip.chan g).closed = false ∧
        (let n := ((s.chip.chan g).tripTicks.filter (fun k => s.chip.now < k + 60000000)).length + 1
         (t.chip.chan g).latched = decide (3 ≤ n) ∧ (t.chip.chan g).waiting = decide (n < 3)) ∧
        t.chip.dNow g (if thermal then dTherm else dOverload) = true ∧ StoresKept s t ∧
        ∀ q, q ≠ g.val → t.chip.chan q = s.chip.chan q := by
  have hlen := hs.chans
  refine ⟨_, chipOnly_to s ((if_neg (by simp [hmode, hon])).trans ((if_neg (by simp [hguard])).trans (if_neg ?_))), ?_, ?_, ?_,
    .chip s _, ?_⟩
  · rcases hcause with rfl | ⟨hma, hover⟩
    · simp
    · simp; omega
  · simp only []
    split <;> simp [hlen]
  · have hn : ∀ n : Nat, decide (2 ≤ n) = !decide (n + 1 < 3) := fun n => by
      rw [← decide_not]
      exact decide_eq_decide.2 (by omega)
    simp only []
    split <;> simp [hlen, hn]
  · have hset : ∀ x : Chip, x.dNow g (if thermal then dTherm else dOverload) = true →
        (x.setSwitch g false).dNow g (if thermal then dTherm else dOverload) = true := fun x h => by
      rw [Chip.dNow_setSwitch_other _ _ _ (by cases thermal <;> decide) (by cases thermal <;> decide), h]
    have hon : (s.chip.dOn g (if thermal then dTherm else dOverload)).dNow g (if thermal then dTherm else dOverload) = true := by
      rw [Chip.dNow_dOn _ _ _ (by cases thermal <;> decide)]
      simp
    have htrip := fun v f => hset ((((s.chip.dOn g (if thermal then dTherm else dOverload)).record 40 (g / 16) 1 g
      [if thermal then 2 else 1] [ma.toNat]).put (chanAt g) Dig.trips v).setChan g f) (by simp (disch := decide) [hon])
    simp only []
    split
    · rw [Chip.dNow_putStatus, Chip.dNow_record, Chip.dNow_dOn _ _ _ (by decide), htrip, Bool.or_true]
    · rw [Chip.dNow_putStatus, htrip]
  · intro q hq
    simp only []
    split <;> simp [hq]

theorem switch_retries (g : Fin 128) (s : State) (hs : Shaped s) (hwait : (s.chip.chan g).waiting = true)
    (hdue : (s.chip.chan g).tripAt + 1000 * s.chip.get (chanAt g) Dig.retry_ms ≤ s.chip.now)
    (hguard : s.chip.guarded g = false) : ∃ t, exec (.switchRetry g) s = .next t ∧ (t.chip.chan g).waiting = false ∧
        t.chip.dNow g dOverload = false ∧ t.chip.dNow g dTherm = false ∧
        (t.chip.chan g).closed = (((s.chip.chan g).pwmOn || s.chip.cmdOn g (s.chip.get (chanAt g) Chan.command)) &&
          t.chip.mayClose g) ∧ StoresKept s t ∧ ∀ q, q ≠ g.val → t.chip.chan q = s.chip.chan q := by
  have hlen := hs.chans
  refine ⟨_, chipOnly_to s ((if_neg (by simp [hguard])).trans (if_neg (by simp [hwait, hdue, hguard]))), ?_, ?_, ?_, ?_,
    .chip s _, ?_⟩
  · simp [hlen]
  · rw [Chip.dNow_putStatus, Chip.dNow_setSwitch_other _ _ _ (by decide) (by decide)]
    simp
  · rw [Chip.dNow_putStatus, Chip.dNow_setSwitch_other _ _ _ (by decide) (by decide)]
    simp
  · generalize hx : ((s.chip.setChan g (fun h => { h with waiting := false })).dOff g dOverload).dOff g dTherm = x
    have hmoves : s.chip.ChanMoves g dFlagOffs x :=
      hx ▸ ((Chip.ChanMoves.setChan _ g _ _).trans (Chip.dOff_moves _ g _)).trans (Chip.dOff_moves _ g _)
    have hxlen := hmoves.length hlen
    have hchan : x.chan g = { s.chip.chan g with waiting := false } := by
      rw [← hx]
      simp [hlen]
    have hcmd : ∀ v, x.cmdOn g v = s.chip.cmdOn g v := fun v => by
      rw [Chip.cmdOn, Chip.cmdOn, hchan, hmoves.get_off g.isLt (by decide)]
    have hmay : ∀ v, ((x.setSwitch g v).putStatus g).mayClose g = x.mayClose g := fun v => by
      have hafter := ((Chip.setSwitch_moves x g v).mono (vs := [0x0A, 0x14, 0x1B, 0x1F]) (by decide)).trans
        ((Chip.putStatus_moves _ g).mono (by decide))
      refine Chip.mayClose_congr hafter.sys ?_ ?_ ?_ ?_ ?_ ?_ (hafter.get_off g.isLt (by decide)) <;> simp [hxlen]
    simp only [hmay, hcmd]
    simp [hxlen, hchan]
  · intro q hq
    simp [hq]

theorem backFed_begins (g : Fin 128) (s : State) (feeder : Option (Fin 128)) (hmode : s.chip.mode g = 9) (hoff : s.chip.switchOn g = false)
    (hnot : s.chip.dNow g dBackFed = false) (hjudged : s.chip.judged g = true) (hstood : s.chip.stood g .high 10000 = true)
    (hshared : s.chip.shared g = true → s.chip.flag pairAt Pair.partner = true → (s.chip.chan g).partnerOn = false ∧
        s.chip.cmdOn g (s.chip.get (chanAt g) Chan.command) = false) :
      ∃ t, exec (.backFed g feeder) s = .next t ∧ t.chip.dNow g dBackFed = true ∧
        t.chip.get (chanAt g) Dig.cross_src = (s.chip.feederOf g (feeder.map (·.val))).getD 0xFF ∧
        ((s.chip.feederOf g (feeder.map (·.val))).isSome = true → t.chip.dNow g dCrossFed = true) ∧
        t.chip.chans = s.chip.chans ∧ StoresKept s t := by
  have hsrc : (s.chip.feederOf g (feeder.map (·.val))).getD 0xFF < 2 ^ 8 := by
    cases h : s.chip.feederOf g (feeder.map (·.val)) with
    | none => decide
    | some f => exact lt_trans (s.chip.feederOf_lt g _ h) (by decide)
  refine ⟨_, chipOnly_to s (if_neg ?_), ?_, ?_, ?_, ?_, .chip s _⟩
  · have hfree : ¬ ((s.chip.shared g = true ∧ s.chip.flag pairAt Pair.partner = true) ∧
        ((s.chip.chan g).partnerOn = true ∨ s.chip.cmdOn g (s.chip.get (chanAt g) Chan.command) = true)) := by
      rintro ⟨⟨h1, h2⟩, h3⟩
      obtain ⟨h4, h5⟩ := hshared h1 h2
      simp [h4, h5] at h3
    simpa [hmode, hoff, hnot, hjudged, hstood] using hfree
  · simp only []
    split
    · simp (disch := decide) [Chip.dNow_dOn]
    · simp (disch := decide) [Chip.dNow_dOn]
  · simp only []
    split
    · simp (disch := decide)
      exact Chip.get_put_of_lt _ _ (by decide) hsrc
    · simp (disch := decide)
      exact Chip.get_put_of_lt _ _ (by decide) hsrc
  · intro hfound
    simp only []
    rw [if_pos hfound]
    simp (disch := decide) [Chip.dNow_dOn]
  · simp only []
    split <;> simp -implicitDefEqProofs

theorem backFed_ends (g : Fin 128) (s : State) (hfed : s.chip.dNow g dBackFed = true) (hstood : s.chip.stood g .low 10000 = true)
    (hjudged : s.chip.judged g = true) : ∃ t, exec (.backFedEnd g) s = .next t ∧ t.chip.dNow g dBackFed = false ∧
        t.chip.dNow g dCrossFed = false ∧ t.chip.get (chanAt g) Dig.cross_src = 0xFF ∧ t.chip.chans = s.chip.chans ∧
        StoresKept s t := by
  refine ⟨_, chipOnly_to s (if_pos (by simp [hfed, hstood, hjudged])), ?_, ?_, ?_, ?_, .chip s _⟩
  · rw [Chip.dNow_putStatus, Chip.endBackFed_eq hfed]
    simp +decide
  · rw [Chip.dNow_putStatus, Chip.endBackFed_eq hfed]
    simp +decide
  · rw [Chip.get_putStatus _ _ (by decide), Chip.endBackFed_eq hfed, Chip.get_record_chan _ _ _ _ _ _ _ _ (by decide)]
    exact Chip.get_put_of_lt _ _ (by decide) (by decide)
  · simp

theorem openLoad_ends (g : Fin 128) (s : State) (tenthMa : BitVec 16) (hmode : doMode (s.chip.mode g) = true)
    (hjudged : s.chip.judged g = true) (hpwm : (s.chip.chan g).pwmOn = false) (hopen : s.chip.dNow g dOpenLoad = true)
    (hstood : s.chip.stood g .loaded 100000 = true)
    (hsum : 10 * (s.chip.get (chanAt g) Dig.open_thr + 1) ≤ s.chip.loadSum g tenthMa.toNat) :
    ∃ t, exec (.openLoad g tenthMa true) s = .next t ∧ t.chip.dNow g dOpenLoad = false ∧ t.chip.chans = s.chip.chans ∧
      StoresKept s t := by
  refine ⟨_, chipOnly_to s ((if_neg (by simp [hmode, hjudged, hpwm])).trans ((if_pos rfl).trans
    (if_pos (by simp [hopen, hstood, hsum])))), ?_, ?_, .chip s _⟩
  · simp
  · simp

theorem openLoad_begins (g : Fin 128) (s : State) (tenthMa : BitVec 16) (hmode : doMode (s.chip.mode g) = true)
    (hjudged : s.chip.judged g = true) (hpwm : (s.chip.chan g).pwmOn = false) (hopen : s.chip.dNow g dOpenLoad = false)
    (hon : s.chip.switchOn g = true) (hstood : s.chip.stood g .unloaded 100000 = true)
    (hsum : s.chip.loadSum g tenthMa.toNat < 10 * s.chip.get (chanAt g) Dig.open_thr) :
    ∃ t, exec (.openLoad g tenthMa false) s = .next t ∧ t.chip.dNow g dOpenLoad = true ∧ t.chip.chans = s.chip.chans ∧
      StoresKept s t := by
  have hthr : s.chip.get (chanAt g) Dig.open_thr ≠ 0 := by omega
  refine ⟨_, chipOnly_to s ((if_neg (by simp [hmode, hjudged, hpwm])).trans ((if_neg (by decide)).trans
    (if_pos (by simp [hopen, hstood, hsum, hon, hthr])))), ?_, ?_, .chip s _⟩
  · simp (disch := decide) [Chip.dNow_dOn]
  · simp

theorem stuckOn_begins (g : Fin 128) (s : State) (tenthMa : BitVec 16) (hmode : doMode (s.chip.mode g) = true)
    (hjudged : s.chip.judged g = true) (hstuck : s.chip.dNow g dStuckOn = false) (hoff : s.chip.switchOn g = false)
    (hstood : s.chip.stood g .stuck 10000 = true) (hma : 50 < tenthMa.toNat) :
    ∃ t, exec (.stuckOn g tenthMa) s = .next t ∧ t.chip.dNow g dStuckOn = true ∧
          t.chip.get (chanAt g) Dig.stuck_on = 1 ∧ t.chip.chans = s.chip.chans ∧ StoresKept s t := by
  refine ⟨_, chipOnly_to s (if_pos (by simp [hmode, hjudged, hstuck, hoff, hstood, hma])), ?_, ?_, ?_, .chip s _⟩
  · simp (disch := decide) [Chip.dNow_dOn]
  · simp (disch := decide)
    exact Chip.get_latch_dOn _ g (f := Dig.stuck_on) rfl rfl (by decide)
  · simp

/-- Settles O17. -/
theorem switchesAndLoads : Obligations.SwitchesAndLoads := by
  intro g s hs
  refine ⟨?_, ?_, ?_, ?_, ?_, ?_, fun tenthMa hmode hjudged hpwm => ⟨?_, ?_, ?_⟩⟩
  · exact pwmPeriod_ends g s hs
  · exact load_measured g s hs
  · exact switch_trips g s hs
  · exact switch_retries g s hs
  · exact backFed_begins g s
  · exact backFed_ends g s
  · exact openLoad_ends g s tenthMa hmode hjudged hpwm
  · exact openLoad_begins g s tenthMa hmode hjudged hpwm
  · exact stuckOn_begins g s tenthMa hmode hjudged

end Sys2Proof.Machine
end

section
/-! SUPPORT. O14: the mode change and the results of a channel. -/

namespace Sys2Proof.Machine

/-! ### Results and the image of the channel alone -/

/-- A step that leaves the other channels, and whether the channel is within a mode change. -/
structure Chip.KeepsSeq (g : Nat) (c d : Chip) : Prop where
  others : ∀ q, q ≠ g → d.chan q = c.chan q
  seq : (d.chan g).seq = (c.chan g).seq

namespace Chip.KeepsSeq

variable {g : Nat} {c d e : Chip}

theorem of_chans (h : d.chans = c.chans) : c.KeepsSeq g d :=
  ⟨fun q _ => Chip.chan_congr h q, by rw [Chip.chan_congr h]⟩

theorem refl (g : Nat) (c : Chip) : c.KeepsSeq g c := of_chans rfl

theorem trans (h : c.KeepsSeq g d) (k : d.KeepsSeq g e) : c.KeepsSeq g e :=
  ⟨fun q hq => (k.others q hq).trans (h.others q hq), k.seq.trans h.seq⟩

theorem setChan (c : Chip) (g : Nat) {f : ChanSt → ChanSt} (hf : ∀ h, (f h).seq = h.seq) : c.KeepsSeq g (c.setChan g f) := by
  refine ⟨fun q hq => Chip.chan_setChan_other c f hq, ?_⟩
  simp only [Chip.chan, Chip.setChan, nth_upd]
  split
  · exact hf _
  · rfl

theorem ite {b : Prop} [Decidable b] (h : c.KeepsSeq g d) (k : c.KeepsSeq g e) : c.KeepsSeq g (if b then d else e) := by
  split
  · exact h
  · exact k

theorem put (c : Chip) (g b : Nat) (f : Field) (v : Nat) : c.KeepsSeq g (c.put b f v) := of_chans (c.put_chans b f v)

theorem putStatus (c : Chip) (g : Nat) : c.KeepsSeq g (c.putStatus g) := of_chans (Chip.putStatus_chans c g)

theorem flagOn (c : Chip) (g n source severity : Nat) (bs xs : List Nat) :
    c.KeepsSeq g ((c.aOn g n).record source (g / 16) severity g bs xs) :=
  of_chans ((Chip.record_chans _ _ _ _ _ _ _).trans (Chip.aOn_chans c g n))

theorem see (c : Chip) (g : Nat) (k : Cond) (x : Bool) : c.KeepsSeq g (c.see g k x) := by
  unfold Chip.see
  exact ite (refl g c) (setChan c g (by intro; rfl))

theorem seeCurrent (c : Chip) (g : Nat) (ua : Int) : c.KeepsSeq g (c.seeCurrent g ua) := by
  unfold Chip.seeCurrent
  exact ((((((setChan c g (by intro; rfl)).trans (see _ g _ _)).trans (see _ g _ _)).trans (see _ g _ _)).trans
    (see _ g _ _)).trans (see _ g _ _)).trans (see _ g _ _)

theorem setImage (c : Chip) (g v : Nat) : c.KeepsSeq g (c.setImage g v) := by
  unfold Chip.setImage
  exact ((setChan c g (by intro; rfl)).trans (put _ g _ _ _)).trans (putStatus _ g)

theorem deliverAi (c : Chip) (g x base : Nat) : c.KeepsSeq g (c.deliverAi g x base) := by
  unfold Chip.deliverAi
  exact (setChan c g (by intro; rfl)).trans (setImage _ g _)

theorem ne43Change (c : Chip) (g old new : Nat) (ua : Int) : c.KeepsSeq g (c.ne43Change g old new ua) := by
  unfold Chip.ne43Change
  refine ite (refl g c) (trans (ite (refl g c) ?_) (ite (flagOn _ g _ _ _ _ _) (ite (flagOn _ g _ _ _ _ _) (refl g _))))
  exact of_chans (((Chip.record_chans _ _ _ _ _ _ _).trans (Chip.aOff_chans _ g _)).trans (Chip.aOff_chans c g _))

theorem oddSensor (c : Chip) (g : Nat) : c.KeepsSeq g (c.oddSensor g) := by
  unfold Chip.oddSensor
  exact (of_chans (c := c) (d := c.fresh.fresh) rfl).trans (deliverAi _ g _ _)

theorem sensorGood (c : Chip) (g : Nat) :
    c.KeepsSeq g ((c.fresh.aOff g fOpenSensor).setChan g (fun h => { h with sensorBad := false })) :=
  (of_chans (c := c) (d := c.fresh.aOff g fOpenSensor) rfl).trans (setChan _ g (by intro; rfl))

end Chip.KeepsSeq

/-- A result taken leaves where the mode change of its channel stands, in every mode. -/
theorem Chip.convert_keeps (c : Chip) (g x y : Nat) : c.KeepsSeq g (c.convert g x y) := by
  unfold Chip.convert
  simp only []
  refine .ite (.deliverAi c g _ _) (.ite (.ite ?_ ?_) (.ite (.oddSensor c g) (.ite (.ite ?_ ?_) (.ite ?_ (.ite ?_ (.ite ?_ (.refl g c)))))))
  · exact ((((Chip.KeepsSeq.setChan c g (by intro; rfl)).trans (.ne43Change _ g _ _ _)).trans
      (.setChan _ g (by intro; rfl))).trans (.deliverAi _ g _ _))
  · exact (Chip.KeepsSeq.setChan c g (by intro; rfl)).trans (.deliverAi _ g _ _)
  · exact ((Chip.KeepsSeq.ite (.refl g c) (.flagOn c g _ _ _ _ _)).trans (.setChan _ g (by intro; rfl))).trans (.putStatus _ g)
  · exact (Chip.KeepsSeq.sensorGood c g).trans (.deliverAi _ g _ _)
  · split
    · exact (Chip.KeepsSeq.setChan c g (by intro; rfl)).trans (.putStatus _ g)
    · exact ((Chip.KeepsSeq.put c g _ _ _).trans (.setChan _ g (by intro; rfl))).trans (.ite (.putStatus _ g) (.deliverAi _ g _ _))
  · exact (Chip.KeepsSeq.setChan c g (by intro; rfl)).trans (.deliverAi _ g _ _)
  · exact ((Chip.KeepsSeq.setChan c g (by intro; rfl)).trans (.ite (.refl g _) (.seeCurrent _ g _))).trans (.deliverAi _ g _ _)

theorem Chip.takeResult_keeps (c : Chip) (g raw x y : Nat) : c.KeepsSeq g (c.takeResult g raw x y) := by
  unfold Chip.takeResult
  exact ((Chip.KeepsSeq.put c g _ _ _).trans (.setChan _ g (by intro; rfl))).trans
    (.ite (.putStatus _ g) (Chip.convert_keeps _ g x y))

theorem mode_settles (g : Fin 128) (s : State) (hs : Shaped s) (raw : BitVec 24) (x y : BitVec 32) (hseq : (s.chip.chan g).seq = 2)
    (hsettled : s.chip.settled g = true) : ∃ t, exec (.modeSettled g raw x y) s = .next t ∧
      (t.chip.chan g).seq = (if outMode (s.chip.mode g) then 3 else 0) ∧ StoresKept s t ∧
      ∀ q, q ≠ g.val → t.chip.chan q = s.chip.chan q := by
  have hbegun : ∀ f : ChanSt → ChanSt, (∀ h, (f h).seq = if outMode (s.chip.mode g) then 3 else 0) → ∀ d,
      (s.chip.setChan g f).KeepsSeq g d →
      (d.chan g).seq = (if outMode (s.chip.mode g) then 3 else 0) ∧ ∀ q, q ≠ g.val → d.chan q = s.chip.chan q := fun f hf d h => by
    refine ⟨?_, fun q hq => (h.others q hq).trans (Chip.chan_setChan_other _ _ hq)⟩
    rw [h.seq, Chip.chan_setChan _ _ hs.chans g.isLt, hf]
  have hmain := hbegun (fun h => { h with
        seq := if outMode (s.chip.mode g) then 3 else 0
        gateAt := s.chip.now, gateLen := s.chip.get (chanAt g) Dig.cnt_gate, tcAt := s.chip.now, pullAt := none }) (fun _ => rfl)
  refine ⟨_, chipOnly_to s (if_neg (by simp [hseq, hsettled])), (hmain _ ?_).1, .chip s _, (hmain _ ?_).2⟩ <;>
  · refine .ite (Chip.takeResult_keeps _ g _ _ _) (.ite (.setImage _ g _) (.ite ?_ (.ite (.setImage _ g _) (.setImage _ g _))))
    exact ((Chip.KeepsSeq.put _ g _ _ _).trans (.put _ g _ _ _)).trans (.setImage _ g _)

/-! ### The words of a result -/

theorem chanWord_at {g w : Nat} (hg : g < 128) (hw : w < 65536) : chanWord g (chanAt g + w) := by
  simp only [chanWord, spaceOf, blockOf, chanAt, blockAddr]
  omega

/-- A field of channel g's block. -/
theorem chanWord_field {g : Nat} {f : Field} (hg : g < 128) (hf : f.off [] = true) : chanWord g (f.at (chanAt g) 0) := by
  have hw : f.first < 65536 := by simpa [Field.off] using hf
  simpa [Field.at] using chanWord_at hg hw

section
variable {P : Nat → Prop} {g : Nat} (hP : ∀ f : Field, f.off [] = true → P (f.at (chanAt g) 0))
include hP

theorem Chip.putStatus_words (c : Chip) : c.WordsBut P (c.putStatus g) := by
  unfold Chip.putStatus
  simp only []
  exact .ite (fun _ => (Chip.WordsBut.put c _ (hP _ (by decide))).trans (.put _ _ (hP _ (by decide)))) (fun _ => .put c _ (hP _ (by decide)))

omit hP in
theorem Chip.WordsBut.setChan (c : Chip) (P : Nat → Prop) (g : Nat) (f : ChanSt → ChanSt) : c.WordsBut P (c.setChan g f) := .of_regs rfl

theorem Chip.setImage_words (c : Chip) (v : Nat) : c.WordsBut P (c.setImage g v) := by
  unfold Chip.setImage
  exact ((Chip.WordsBut.setChan c P g _).trans (.put _ _ (hP _ (by decide)))).trans (Chip.putStatus_words hP _)

theorem Chip.aOff_words (c : Chip) (n : Nat) : c.WordsBut P (c.aOff g n) := .put c _ (hP _ (by decide))

theorem Chip.aOn_words (c : Chip) (n : Nat) : c.WordsBut P (c.aOn g n) := by
  have hlatch : P (chanAt g + 0x000F) := by simpa [Field.at, Chan.therm, Field.one] using hP Chan.therm (by decide)
  exact (Chip.WordsBut.setWord c _ hlatch).trans (.put _ _ (hP _ (by decide)))

theorem Chip.flag_words (c : Chip) (n : Nat) (on : Bool) : c.WordsBut P (if on then c.aOn g n else c.aOff g n) :=
  .ite (fun _ => Chip.aOn_words hP c n) (fun _ => Chip.aOff_words hP c n)

theorem Chip.cjSync_words (c : Chip) : c.WordsBut P (c.cjSync g) := by
  unfold Chip.cjSync
  exact (((Chip.flag_words hP c _ _).trans (Chip.flag_words hP _ _ _)).trans (.setChan _ P g _)).trans (Chip.putStatus_words hP _)

theorem Chip.txHold_words (c : Chip) : c.WordsBut P (c.txHold g) :=
  .ite (fun _ => .put c _ (hP _ (by decide))) (fun _ => .refl P c)

theorem Chip.complianceOf_words (c : Chip) : c.WordsBut P (c.complianceOf g) := by
  unfold Chip.complianceOf
  refine .ite (fun _ => ?_) (fun _ => Chip.aOff_words hP c _)
  exact (Chip.WordsBut.ite (fun _ => .refl P c) (fun _ => Chip.aOn_words hP c _)).trans (.put _ _ (hP _ (by decide)))

theorem Chip.deliverAi_words (c : Chip) (x base : Nat) : c.WordsBut P (c.deliverAi g x base) := by
  unfold Chip.deliverAi
  exact (Chip.WordsBut.setChan c P g _).trans (Chip.setImage_words hP _ _)

end

/-! ### Step 2 of a mode change -/

/-- The words of the block at b. -/
def blockWords (b a : Nat) : Prop := b ≤ a ∧ a < b + 65536

theorem blockWords_field {b : Nat} {f : Field} (hf : f.off [] = true) : blockWords b (f.at b 0) := by
  have hw : f.first < 65536 := by simpa [Field.off] using hf
  simp only [blockWords, Field.at]
  omega

theorem not_blockWords_next (g : Nat) {f : Field} (hf : f.off [] = true) : ¬ blockWords (chanAt (g + 1)) (f.at (chanAt g) 0) := by
  have hw : f.first < 65536 := by simpa [Field.off] using hf
  simp only [blockWords, Field.at, chanAt, blockAddr]
  omega

/-- The companion that a resistance thermometer claims (R212). -/
theorem Chip.claim_words (c : Chip) (g : Nat) : c.WordsBut (blockWords (chanAt (g + 1)))
    (((c.put (chanAt (g + 1)) Chan.mode_now 13).setChan (g + 1) (fun h => { h with seq := 0 })).setImage (g + 1) 0) :=
  ((Chip.WordsBut.put c _ (blockWords_field (by decide))).trans (.setChan _ _ _ _)).trans
    (Chip.setImage_words (fun _ hf => blockWords_field hf) _ 0)

theorem Chip.modeBegin_words (c : Chip) (g : Nat) :
    c.WordsBut (fun a => blockWords (chanAt g) a ∨ blockWords (chanAt (g + 1)) a) (c.modeBegin g) := by
  have hown : ∀ f : Field, f.off [] = true →
      blockWords (chanAt g) (f.at (chanAt g) 0) ∨ blockWords (chanAt (g + 1)) (f.at (chanAt g) 0) := fun f hf =>
    .inl (blockWords_field hf)
  unfold Chip.modeBegin
  refine .ite (fun _ => Chip.txHold_words hown c) (fun _ => .ite (fun _ => Chip.complianceOf_words hown c) (fun _ =>
    .ite (fun _ => Chip.cjSync_words hown c) (fun _ => .ite (fun _ => ?_) (fun _ => .refl _ c))))
  exact (c.claim_words g).mono (fun _ h => .inr h)

/-- What the new mode finds leaves the mode itself and the step of the change. -/
theorem Chip.modeBegin_keeps (c : Chip) (g : Fin 128) (hc : c.chans.length = 128) :
    ((c.modeBegin g).chan g).seq = (c.chan g).seq ∧ (c.modeBegin g).get (chanAt g) Chan.mode_now = c.get (chanAt g) Chan.mode_now := by
  have hown : ∀ f : Field, f.off [] = true → chanWord g (f.at (chanAt g) 0) := fun f hf => chanWord_field g.isLt hf
  unfold Chip.modeBegin
  simp only []
  split
  · unfold Chip.txHold
    split
    · simp (disch := decide)
    · exact ⟨rfl, rfl⟩
  split
  · unfold Chip.complianceOf
    simp only []
    split
    · split <;> simp (disch := decide)
    · simp (disch := decide)
  split
  · unfold Chip.cjSync
    simp only []
    constructor
    · split <;> split <;> simp [hc]
    · split <;> split <;> simp (disch := decide)
  split
  · constructor
    · simp
    · exact (c.claim_words g).get (not_blockWords_next g (by decide))
  · exact ⟨rfl, rfl⟩

theorem frontEnd_reconfigured (g : Fin 128) (s : State) (hs : Shaped s) (hseq : (s.chip.chan g).seq = 1) :
    ∃ t, exec (.frontEndReconfigured g) s = .next t ∧ (t.chip.chan g).seq = 2 ∧
      t.chip.mode g = s.chip.modeWanted g % 256 ∧ StoresKept s t ∧
      WordsKept (fun a => (chanAt g ≤ a ∧ a < chanAt g + 65536) ∨ (chanAt (g + 1) ≤ a ∧ a < chanAt (g + 1) + 65536)) s t := by
  have hlen := hs.chans
  refine ⟨_, chipOnly_to s (if_neg (by simp [hseq])), ?_, ?_, .chip s _, ?_⟩
  · simp only []
    rw [Chip.chan_putStatus, (Chip.modeBegin_keeps _ g (by simpa using hlen)).1]
    simp [hlen]
  · rw [Chip.mode, Chip.get_putStatus _ _ (by decide), (Chip.modeBegin_keeps _ g (by simpa using hlen)).2, Chip.setChan_get,
      Chip.get_put_clear _ _ _ (by decide), Chip.get_put_self _ _ _ (by decide)]
    rfl
  · have hown : ∀ f : Field, f.off [] = true →
        blockWords (chanAt g) (f.at (chanAt g) 0) ∨ blockWords (chanAt (g + 1)) (f.at (chanAt g) 0) := fun f hf =>
      .inl (blockWords_field hf)
    exact ((((Chip.WordsBut.put s.chip _ (hown _ (by decide))).trans (.put _ _ (hown _ (by decide)))).trans
      (.setChan _ _ _ _)).trans (Chip.modeBegin_words _ g)).trans (Chip.putStatus_words hown _)

/-! ### Conversions -/

theorem unsigned_lt (w : Nat) (i : Int) : unsigned w i < 2 ^ w := by
  have h0 : (0 : Int) < 2 ^ w := by positivity
  have h1 := Int.emod_lt_of_pos i h0
  have h2 := Int.emod_nonneg i (ne_of_gt h0)
  unfold unsigned
  zify
  rw [Int.toNat_of_nonneg h2]
  exact h1

/-- Whether a channel is usable depends on its region's words, its supplies and clocks, its mode and whether it is out of service. -/
theorem Chip.chanDead_congr {c d : Chip} {g : Nat} (hg : g < 128) (hwords : c.WordsBut (chanWord g) d) (hsys : d.sys = c.sys)
    (hmode : d.mode g = c.mode g) (hoos : (d.chan g).oos = (c.chan g).oos) : d.chanDead g = c.chanDead g := by
  have hfenced : d.get (regionAt (g / 16)) Region.fenced = c.get (regionAt (g / 16)) Region.fenced := by
    refine hwords.get ?_
    simp [chanWord, blockOf, Field.at, regionAt, blockAddr, Region.fenced, Field.one]
    omega
  simp only [Chip.chanDead, Chip.groupFenced, Chip.regionFenced, Chip.blockFenced, Chip.getBit, Chip.gs, Chip.clkLost, hfenced, hsys,
    hmode, hoos]

/-- A raw result written, and its time noted. -/
def Chip.rawTaken (c : Chip) (g raw : Nat) : Chip :=
  (c.put (chanAt g) Chan.raw (unsigned 32 (signed 24 raw))).setChan g (fun h => { h with convAt := c.now })

theorem Chip.rawTaken_words (c : Chip) {g : Nat} (raw : Nat) (hg : g < 128) : c.WordsBut (chanWord g) (c.rawTaken g raw) :=
  (Chip.WordsBut.put c _ (chanWord_field hg (by decide))).trans (.setChan _ _ _ _)

theorem Chip.rawTaken_chanDead (c : Chip) (g : Fin 128) (raw : Nat) (hc : c.chans.length = 128) :
    (c.rawTaken g raw).chanDead g = c.chanDead g := by
  refine Chip.chanDead_congr g.isLt (c.rawTaken_words raw g.isLt) rfl ?_ ?_
  · simp (disch := decide) [Chip.mode, Chip.rawTaken]
  · simp [Chip.rawTaken, hc]

theorem Chip.takeResult_eq (c : Chip) (g raw x y : Nat) : c.takeResult g raw x y =
    if (c.chan g).tempering || (c.chan g).surveyed || (c.rawTaken g raw).chanDead g then (c.rawTaken g raw).putStatus g
    else (c.rawTaken g raw).convert g x y := rfl

/-- A conversion whose time has come is taken. -/
theorem exec_conversionResult (g : Fin 128) (s : State) (raw : BitVec 24) (x y : BitVec 32) (hmode : s.chip.mode g = 1)
    (hseq : (s.chip.chan g).seq = 0) (htongs : s.chip.tongsWait (chanTongs g 4) = false)
    (hdue : (s.chip.chan g).convAt + convPeriod (s.chip.get (chanAt g) Chan.rate) ≤ s.chip.now) :
    exec (.conversionResult g raw x y) s = .next { s with chip := s.chip.takeResult g raw.toNat x.toNat y.toNat } :=
  chipOnly_to s (if_neg (by simp [hmode, hseq, htongs, hdue, aiMode]))

theorem conversion_taken (g : Fin 128) (s : State) (hs : Shaped s) (raw : BitVec 24) (x y : BitVec 32) (hmode : s.chip.mode g = 1)
    (hseq : (s.chip.chan g).seq = 0) (htemper : (s.chip.chan g).tempering = false) (hsurvey : (s.chip.chan g).surveyed = false)
    (htongs : s.chip.tongsWait (chanTongs g 4) = false)
    (hdue : (s.chip.chan g).convAt + convPeriod (s.chip.get (chanAt g) Chan.rate) ≤ s.chip.now) (hdead : s.chip.chanDead g = false) :
    ∃ t, exec (.conversionResult g raw x y) s = .next t ∧
        t.chip.get (chanAt g) Chan.raw = unsigned 32 (signed 24 raw.toNat) ∧
        t.chip.get (chanAt g) Chan.value = (if (s.chip.chan g).yOk then filterStep (s.chip.chan g).y x.toNat
          (s.chip.get (chanAt g) Chan.filter_tc) (convPeriod (s.chip.get (chanAt g) Chan.rate)) else x.toNat) % 2 ^ 32 ∧
        (t.chip.chan g).yOk = true ∧ StoresKept s t ∧
        WordsKept (chanWord g) s t ∧ ∀ q, q ≠ g.val → t.chip.chan q = s.chip.chan q := by
  have hlen := hs.chans
  have hclear := s.chip.rawTaken_chanDead g raw.toNat hlen
  have hwords := s.chip.rawTaken_words raw.toNat g.isLt
  have hmode' : (s.chip.rawTaken g raw.toNat).mode g = 1 := by
    rw [← hmode]
    simp (disch := decide) [Chip.mode, Chip.rawTaken]
  obtain ⟨base, hconv⟩ : ∃ base, s.chip.takeResult g raw.toNat x.toNat y.toNat =
      (s.chip.rawTaken g raw.toNat).deliverAi g x.toNat base := by
    rw [Chip.takeResult_eq, htemper, hsurvey, hclear, hdead]
    exact ⟨_, if_pos hmode'⟩
  have hown : ∀ f : Field, f.off [] = true → chanWord g (f.at (chanAt g) 0) := fun f hf => chanWord_field g.isLt hf
  refine ⟨_, exec_conversionResult g s raw x y hmode hseq htongs hdue, ?_⟩
  rw [hconv]
  have hchan : (s.chip.rawTaken g raw.toNat).chan g = { s.chip.chan g with convAt := s.chip.now } := by
    simp [Chip.rawTaken, hlen]
  refine ⟨?_, ?_, ?_, .chip s _, hwords.trans (Chip.deliverAi_words hown _ _ _), ?_⟩
  · have hraw : (s.chip.rawTaken g raw.toNat).get (chanAt g) Chan.raw = unsigned 32 (signed 24 raw.toNat) :=
      Chip.get_put_of_lt _ _ (by decide) (unsigned_lt 32 _)
    unfold Chip.deliverAi
    simp (disch := decide) [hraw]
  · have hty : nativeTy 1 = tyReal := rfl
    have hfilter : ∀ f : Field, f.first ≠ 0x0B → f.off [] = true →
        (s.chip.rawTaken g raw.toNat).get (chanAt g) f = s.chip.get (chanAt g) f := fun f hf hoff => by
      have hne : Chan.raw.clear f = true := by simp [Field.clear, Chan.raw, Field.one, Ne.symm hf]
      simp [Chip.rawTaken, Chip.get_put_clear _ _ _ hne]
    have hmode2 : ∀ f, ((s.chip.rawTaken g raw.toNat).setChan g f).mode g = 1 := fun f => hmode'
    unfold Chip.deliverAi Chip.setImage
    simp (disch := decide) only [Chip.get_putStatus, hchan, hmode2, hty, hfilter]
    rw [Chip.get_put_self _ _ _ (by decide)]
    rfl
  · unfold Chip.deliverAi
    simp [hlen, Chip.rawTaken]
  · intro q hq
    rw [(Chip.KeepsSeq.deliverAi _ g _ _).others q hq]
    simp [Chip.rawTaken, hq]

theorem conversion_unusable (g : Fin 128) (s : State) (hs : Shaped s) (raw : BitVec 24) (x y : BitVec 32) (hmode : s.chip.mode g = 1)
    (hseq : (s.chip.chan g).seq = 0) (htongs : s.chip.tongsWait (chanTongs g 4) = false)
    (hdue : (s.chip.chan g).convAt + convPeriod (s.chip.get (chanAt g) Chan.rate) ≤ s.chip.now) (hdead : s.chip.chanDead g = true) :
    ∃ t, exec (.conversionResult g raw x y) s = .next t ∧
        t.chip.get (chanAt g) Chan.value = s.chip.get (chanAt g) Chan.value ∧ (t.chip.chan g).img = (s.chip.chan g).img ∧
        StoresKept s t ∧ WordsKept (chanWord g) s t := by
  have hlen := hs.chans
  have hclear := s.chip.rawTaken_chanDead g raw.toNat hlen
  have hkept : s.chip.takeResult g raw.toNat x.toNat y.toNat = (s.chip.rawTaken g raw.toNat).putStatus g := by
    rw [Chip.takeResult_eq, hclear, hdead, Bool.or_true, if_pos rfl]
  refine ⟨_, exec_conversionResult g s raw x y hmode hseq htongs hdue, ?_⟩
  rw [hkept]
  refine ⟨?_, ?_, .chip s _, ?_⟩
  · simp (disch := decide) [Chip.rawTaken]
  · simp [Chip.rawTaken, hlen]
  · exact (s.chip.rawTaken_words _ g.isLt).trans (Chip.putStatus_words (fun _ hf => chanWord_field g.isLt hf) _)

/-! ### Cold junctions and the open-thermocouple check -/

theorem Chip.cjSync_moves (c : Chip) (g : Nat) : c.ChanMoves g [0x0A, 0x0F, 0x10, 0x14] (c.cjSync g) := by
  have hflag : ∀ (d : Chip) (n : Nat) (on : Bool), d.ChanMoves g [0x0A, 0x0F, 0x10, 0x14] (if on then d.aOn g n else d.aOff g n) :=
    fun d n _ => .ite (fun _ => (Chip.aOn_moves d g n).mono (by decide)) (fun _ => (Chip.aOff_moves d g n).mono (by decide))
  unfold Chip.cjSync
  exact (((hflag c _ _).trans (hflag _ _ _)).trans (.setChan _ g _ _)).trans ((Chip.putStatus_moves _ g).mono (by decide))

/-- The channels of a region judged in turn. -/
theorem Chip.eachCj_sys (l : List Nat) (c : Chip) :
    (c.each l (fun x g => if x.mode g != 4 then x else x.cjSync g)).sys = c.sys := by
  refine Chip.each_sys (fun x g => ?_) c l
  split
  · rfl
  · obtain ⟨rg, cs, rc, h⟩ := (x.cjSync_moves g).frame
    rw [h]

@[simp] theorem Chip.cjRecord_sys (c : Chip) (r which : Nat) (old new : Bool) (t : Int) : (c.cjRecord r which old new t).sys = c.sys := by
  unfold Chip.cjRecord
  split
  · rfl
  · exact Chip.record_sys _ _ _ _ _ _ _

theorem cjSensor_read (r : Fin 8) (s : State) (hs : Shaped s) (ta tb : BitVec 16) :
    ∃ t, exec (.cjSensorRead r ta tb) s = .next t ∧
      (nth {} t.chip.sys.cj r).ta = ta.toInt ∧ (nth {} t.chip.sys.cj r).tb = tb.toInt ∧ StoresKept s t ∧
      ∀ q, q ≠ r.val → nth {} t.chip.sys.cj q = nth {} s.chip.sys.cj q := by
  have hlen := hs.sized.cj
  have hcj : ∀ v : CjSt, nth {} (setAt s.chip.sys.cj r v) r = v := fun v => nth_upd_same _ _ _ _ (by omega)
  refine ⟨_, chipOnly_to s rfl, ?_, ?_, .chip s _, ?_⟩
  · simp only [Chip.eachCj_sys, Chip.cjRecord_sys, hcj]
  · simp only [Chip.eachCj_sys, Chip.cjRecord_sys, hcj]
  · intro q hq
    simp only [Chip.eachCj_sys, Chip.cjRecord_sys]
    exact nth_upd_other _ _ _ hq

theorem openTc_checked (g : Fin 128) (s : State) (hs : Shaped s) (uv : BitVec 32) (hmode : s.chip.mode g = 4)
    (hseq : (s.chip.chan g).seq = 0) (htemper : (s.chip.chan g).tempering = false) (hsurvey : (s.chip.chan g).surveyed = false)
    (hdead : s.chip.chanDead g = false) (hdue : (s.chip.chan g).tcAt + 1000000 ≤ s.chip.now) :
    ∃ t, exec (.openTcCheck g uv) s = .next t ∧
      (t.chip.chan g).sensorBad = decide (100000 < uv.toInt) ∧
      t.chip.aNow g fOpenSensor = (decide (100000 < uv.toInt) && (!(s.chip.chan g).sensorBad || s.chip.aNow g fOpenSensor)) ∧
      ∀ q, q ≠ g.val → t.chip.chan q = s.chip.chan q := by
  have hlen := hs.chans
  refine ⟨_, chipOnly_to s (if_neg (by simp [hmode, hseq, htemper, hsurvey, hdead, hdue])), ?_⟩
  simp only []
  split
  · next hhigh =>
    split
    · next hbad => simp +contextual [hlen, hhigh, hbad]
    · next hbad => simp +contextual [hlen, hhigh, hbad, fOpenSensor]
  · next hlow => simp +contextual [hlen, hlow]

/-- Settles O14. -/
theorem channelResults : Obligations.ChannelResults := by
  intro g s hs
  refine ⟨?_, ?_, fun raw x y hmode hseq htemper hsurvey htongs hdue => ⟨?_, ?_⟩, ?_, ?_⟩
  · exact frontEnd_reconfigured g s hs
  · exact mode_settles g s hs
  · exact conversion_taken g s hs raw x y hmode hseq htemper hsurvey htongs hdue
  · exact conversion_unusable g s hs raw x y hmode hseq htongs hdue
  · exact fun r => cjSensor_read r s hs
  · exact openTc_checked g s hs

end Sys2Proof.Machine
end

section
/-! SUPPORT. The space and the block of an address, and counts. -/

namespace Sys2Proof.Machine

/-! ### The space and the block of an address -/

theorem spaceOf_blockAddr {r b o : Nat} (hb : b < 4096) (ho : o < 65536) : spaceOf (blockAddr r b + o) = r := by
  simp only [spaceOf, blockAddr]
  omega

theorem blockOf_blockAddr {r b o : Nat} (hb : b < 4096) (ho : o < 65536) : blockOf (blockAddr r b + o) = b := by
  simp only [blockOf, blockAddr]
  omega

/-- Offset of a field's word in its block, group `i`. -/
theorem Field.at_eq (f : Field) (b i : Nat) : f.at b i = b + (f.first + i * f.stride) := Nat.add_assoc _ _ _

theorem Field.space_at (f : Field) {r b i : Nat} (hb : b < 4096) (ho : f.first + i * f.stride < 65536) :
    spaceOf (f.at (blockAddr r b) i) = r := by
  rw [Field.at_eq, spaceOf_blockAddr hb ho]

theorem Field.block_at (f : Field) {r b i : Nat} (hb : b < 4096) (ho : f.first + i * f.stride < 65536) :
    blockOf (f.at (blockAddr r b) i) = b := by
  rw [Field.at_eq, blockOf_blockAddr hb ho]

/-- Fields of two blocks stand in different words. -/
theorem Field.at_ne_of_block (f g : Field) {r q b d i j : Nat} (hb : b < 4096) (hd : d < 4096) (ho : f.first + i * f.stride < 65536)
    (hp : g.first + j * g.stride < 65536) (h : r ≠ q ∨ b ≠ d) : f.at (blockAddr r b) i ≠ g.at (blockAddr q d) j := by
  intro e
  have hs : r = q := by rw [← f.space_at (r := r) hb ho, e, g.space_at hd hp]
  have hk : b = d := by rw [← f.block_at (r := r) hb ho, e, g.block_at hd hp]
  exact h.elim (fun k => k hs) (fun k => k hk)

/-- Words of one block at two offsets. -/
theorem Field.at_ne {f g : Field} {b i j : Nat} (h : f.first + i * f.stride ≠ g.first + j * g.stride) : f.at b i ≠ g.at b j := by
  rw [Field.at_eq, Field.at_eq]
  omega

theorem Chip.getI_putI_of_lt (c : Chip) (b i : Nat) {v : Nat} {f : Field} (h : f.sound = true) (hv : v < 2 ^ (f.hi + 1 - f.lo)) :
    (c.putI b f i v).getI b f i = v := by
  obtain ⟨hl, hh⟩ := Field.sound_iff.1 h
  rw [Chip.getI_putI_same c b f i v hl hh, Nat.mod_eq_of_lt hv]

/-! ### Counts -/

theorem Chip.bump_get_self (c : Chip) (b : Nat) {f : Field} (hs : f.sound = true) :
    (c.bump b f).get b f = min (c.get b f + 1) f.top :=
  Chip.get_put_of_lt c b hs (Nat.lt_of_le_of_lt (Nat.min_le_right _ _) (Nat.sub_lt (Nat.two_pow_pos _) (by decide)))

theorem Chip.WordsBut.bump {P : Nat → Prop} (c : Chip) {b : Nat} {f : Field} (h : P (f.at b 0)) : c.WordsBut P (c.bump b f) :=
  .put c _ h

theorem Chip.WordsBut.kept {P : Nat → Prop} {s : State} {d : Chip} (h : s.chip.WordsBut P d) : WordsKept P s { s with chip := d } := h

end Sys2Proof.Machine
end

section
/-! SUPPORT. O19: the loop engine's instants. -/

namespace Sys2Proof.Machine

/-! ### Loops and slices, read after a change of one of them -/

namespace Chip

@[simp] theorem setLoop_loops_length (c : Chip) (n : Nat) (f : LoopSt → LoopSt) : (c.setLoop n f).loops.length = c.loops.length :=
  upd_length _ _ _

@[simp] theorem setSlice_slices_length (c : Chip) (r : Nat) (f : SliceSt → SliceSt) :
    (c.setSlice r f).slices.length = c.slices.length := upd_length _ _ _

@[simp] theorem loop_setLoop (c : Chip) {n : Nat} (f : LoopSt → LoopSt) (hc : c.loops.length = 256) (hn : n < 256) :
    (c.setLoop n f).loop n = f (c.loop n) := nth_upd_same _ _ _ _ (by omega)

@[simp] theorem loop_setLoop_other (c : Chip) {n k : Nat} (f : LoopSt → LoopSt) (hk : k ≠ n) : (c.setLoop n f).loop k = c.loop k :=
  nth_upd_other _ _ _ hk

@[simp] theorem slice_setSlice (c : Chip) {r : Nat} (f : SliceSt → SliceSt) (hc : c.slices.length = 8) (hr : r < 8) :
    (c.setSlice r f).slice r = f (c.slice r) := nth_upd_same _ _ _ _ (by omega)

@[simp] theorem slice_setSlice_other (c : Chip) {r q : Nat} (f : SliceSt → SliceSt) (hq : q ≠ r) :
    (c.setSlice r f).slice q = c.slice q := nth_upd_other _ _ _ hq

theorem loop_congr {c d : Chip} (h : d.loops = c.loops) (n : Nat) : d.loop n = c.loop n := by rw [loop, h, loop]

theorem slice_congr {c d : Chip} (h : d.slices = c.slices) (r : Nat) : d.slice r = c.slice r := by rw [slice, h, slice]

@[simp] theorem slice_setLoop (c : Chip) (n r : Nat) (f : LoopSt → LoopSt) : (c.setLoop n f).slice r = c.slice r := slice_congr (by simp) r
@[simp] theorem loop_setSlice (c : Chip) (n r : Nat) (f : SliceSt → SliceSt) : (c.setSlice r f).loop n = c.loop n := loop_congr (by simp) n

/-! ### The computation at the head of a slice (R284) -/

/-- One loop looked at on the way to the slice's head. -/
def headStep (c : Chip) (r : Nat) (best : Option (Nat × Nat)) (k : Nat) : Option (Nat × Nat) :=
  match (c.loop (32 * r + k)).job, best with
  | some t, none => some (t, 32 * r + k)
  | some t, some (t0, n0) => if t < t0 then some (t, 32 * r + k) else some (t0, n0)
  | none, _ => best

theorem headOf_eq (c : Chip) (r : Nat) : c.headOf r = (List.range 32).foldl (c.headStep r) none := rfl

theorem headStep_none {c : Chip} {r k : Nat} (best : Option (Nat × Nat)) (h : (c.loop (32 * r + k)).job = none) :
    c.headStep r best k = best := by
  simp [headStep, h]

/-- Where no computation waits, the slice has no head. -/
theorem headOf_none {c : Chip} {r : Nat} (h : ∀ k < 32, (c.loop (32 * r + k)).job = none) : c.headOf r = none := by
  have hall : ∀ m ≤ 32, (List.range m).foldl (c.headStep r) none = none := fun m hm => by
    induction m with
    | zero => rfl
    | succ m ih => rw [List.range_succ, List.foldl_append, ih (by omega), List.foldl_cons, headStep_none _ (h m (by omega)), List.foldl_nil]
  exact (headOf_eq c r).trans (hall 32 (Nat.le_refl _))

/-- The one computation that waits is the head. -/
theorem headOf_one {c : Chip} {r m t : Nat} (hm : m < 32) (h : (c.loop (32 * r + m)).job = some t)
    (ho : ∀ k < 32, k ≠ m → (c.loop (32 * r + k)).job = none) : c.headOf r = some (t, 32 * r + m) := by
  have hall : ∀ j ≤ 32, (List.range j).foldl (c.headStep r) none = if m < j then some (t, 32 * r + m) else none := fun j hj => by
    induction j with
    | zero => rfl
    | succ j ih =>
      rw [List.range_succ, List.foldl_append, ih (by omega), List.foldl_cons, List.foldl_nil]
      by_cases hjm : j = m
      · subst hjm
        simp [headStep, h]
      · rw [headStep_none _ (ho j (by omega) hjm)]
        have : (m < j + 1) ↔ m < j := by omega
        simp [this]
  rw [headOf_eq, hall 32 (Nat.le_refl _), if_pos hm]

theorem kick_running {c : Chip} {r : Nat} (h : (c.slice r).running ≠ none) : c.kick r = c := by
  have hs : (c.slice r).running.isSome = true := Option.isSome_iff_ne_none.2 h
  simp [kick, hs]

theorem kick_idle {c : Chip} {r : Nat} (h : c.headOf r = none) : c.kick r = c := by
  unfold kick
  simp [h]

/-- What a computation is of, and when it began. -/
theorem compute_of (c : Chip) (n t : Nat) : (c.compute n t).loop = n ∧ (c.compute n t).instant = t ∧ (c.compute n t).began = c.now := by
  unfold compute
  simp only []
  generalize (if (!_ : Bool) = true then 1 else _) = state
  split <;> exact ⟨rfl, rfl, rfl⟩

theorem mirrorSample_of (c : Chip) (n t : Nat) :
    (c.mirrorSample n t).loop = n ∧ (c.mirrorSample n t).instant = t ∧ (c.mirrorSample n t).began = c.now := ⟨rfl, rfl, rfl⟩

/-- The sources of a computation marked for a span that differs: flags alone. -/
theorem markSpan_moves (c : Chip) (g : Nat) : c.ChanMoves g flagOffs (c.markSpan g) :=
  .ite (fun _ => aOn_moves c g _) (fun _ => aOff_moves c g _)

theorem marks_keep (c : Chip) (ws : List Nat) :
    (c.each ws (fun c w => c.when (srcKind w == 1) (·.markSpan (srcRef w)))).loops = c.loops ∧
      (c.each ws (fun c w => c.when (srcKind w == 1) (·.markSpan (srcRef w)))).slices = c.slices := by
  refine each_rel (R := fun c d => d.loops = c.loops ∧ d.slices = c.slices) (fun _ => ⟨rfl, rfl⟩)
    (fun _ _ _ h k => ⟨k.1.trans h.1, k.2.trans h.2⟩) ws (fun c w _ => ?_) c
  obtain ⟨rg, cs, rc, h⟩ := (ChanMoves.when (c := c) (b := srcKind w == 1) (f := (·.markSpan (srcRef w))) (markSpan_moves c (srcRef w))).frame
  rw [h]
  exact ⟨rfl, rfl⟩

/-- A free slice begins the computation at its head. -/
theorem kick_begins {c : Chip} {r t n : Nat} (hstop : (c.slice r).stopped = false) (hidle : (c.slice r).running = none)
    (hhead : c.headOf r = some (t, n)) (hlen : c.slices.length = 8) (hr : r < 8) :
    ∃ res, ((c.kick r).slice r).running = some res ∧ res.loop = n ∧ res.instant = t ∧ res.began = c.now ∧
      (c.kick r).loops = c.loops := by
  obtain ⟨hloops, hslices⟩ := c.marks_keep ([Loop.pv_src, Loop.sp_src].map (c.get (loopAt n)))
  have hres : ∃ res, res = (if c.loopsMirror then c.mirrorSample n t else c.compute n t) ∧ res.loop = n ∧ res.instant = t ∧
      res.began = c.now := by
    refine ⟨_, rfl, ?_⟩
    split
    · exact c.mirrorSample_of n t
    · exact c.compute_of n t
  obtain ⟨res, hdef, hof⟩ := hres
  have hkick : c.kick r = (c.each ([Loop.pv_src, Loop.sp_src].map (c.get (loopAt n)))
      (fun c w => c.when (srcKind w == 1) (·.markSpan (srcRef w)))).setSlice r (fun s => { s with running := some res, counted := 0 }) := by
    unfold kick
    simp only [hhead, hdef]
    rw [if_neg (by simp [hstop, hidle])]
  refine ⟨res, ?_, hof.1, hof.2.1, hof.2.2, ?_⟩
  · rw [hkick, slice_setSlice _ _ (by rw [hslices, hlen]) hr]
  · rw [hkick, setSlice_loops, hloops]

/-! ### A missed sample -/

/-- The counts of a sample that finds its predecessor waiting. -/
def missCounts (c : Chip) (n : Nat) : Chip :=
  ((c.bump (loopAt n) Loop.missed).put (loopAt n) Loop.missed_f 1).bump (regionAt (n / 32)) LSlice.misses_total

/-- The record of a miss, at most one in a second (R297). -/
def missRecord (c : Chip) (n : Nat) (quiet : Bool) : Chip :=
  if quiet then c.record 56 (n / 32) 1 n [] [c.get (loopAt n) Loop.missed] else c

theorem missSample_eq {c : Chip} {n : Nat} {res : LoopRes} (hrun : (c.slice (n / 32)).running = some res) (hne : res.loop ≠ n) :
    ∃ quiet, c.missSample n = ((c.missCounts n).missRecord n quiet).setLoop n
      (fun h => { h with job := none, missed := true, missAt := some c.now }) := by
  unfold missSample
  simp only [hrun, if_neg hne]
  exact ⟨_, rfl⟩

/-- The addresses a miss counts in. -/
def missWord (n a : Nat) : Prop :=
  a = Loop.missed.at (loopAt n) 0 ∨ a = Loop.missed_f.at (loopAt n) 0 ∨ a = LSlice.misses_total.at (regionAt (n / 32)) 0 ∨ recorderWord a

theorem missCounts_words (c : Chip) (n : Nat) : c.WordsBut (missWord n) (c.missCounts n) :=
  ((WordsBut.bump c (.inl rfl)).trans (.put _ _ (.inr (.inl rfl)))).trans (.bump _ (.inr (.inr (.inl rfl))))

theorem missRecord_words (c : Chip) (n : Nat) (quiet : Bool) : c.WordsBut (missWord n) (c.missRecord n quiet) :=
  .ite (fun _ => .record c _ _ _ _ _ _ (fun _ h => .inr (.inr (.inr h)))) (fun _ => .refl _ c)

theorem missRecord_stores (c : Chip) (n : Nat) (quiet : Bool) :
    (c.missRecord n quiet).loops = c.loops ∧ (c.missRecord n quiet).slices = c.slices := by
  unfold missRecord
  split
  · exact ⟨record_loops _ _ _ _ _ _ _, record_slices _ _ _ _ _ _ _⟩
  · exact ⟨rfl, rfl⟩

/-- A record leaves what a loop shows. -/
theorem missRecord_get (c : Chip) {n : Nat} (quiet : Bool) (hn : n < 256) (f : Field) (hf : f.first < 65536) :
    (c.missRecord n quiet).get (loopAt n) f = c.get (loopAt n) f := by
  unfold missRecord
  refine (WordsBut.ite (P := recorderWord) (fun _ => .record c _ _ _ _ _ _ (fun _ h => h)) (fun _ => .refl _ c)).get ?_
  rw [recorderWord, loopAt, Field.space_at f (by omega) (by omega)]
  omega

theorem missCounts_get (c : Chip) {n : Nat} (hn : n < 256) :
    (c.missCounts n).get (loopAt n) Loop.missed = min (c.get (loopAt n) Loop.missed + 1) Loop.missed.top ∧
      (c.missCounts n).get (loopAt n) Loop.missed_f = 1 := by
  have hother : ∀ f : Field, f.first < 65536 → (c.missCounts n).get (loopAt n) f =
      ((c.bump (loopAt n) Loop.missed).put (loopAt n) Loop.missed_f 1).get (loopAt n) f := fun f hf =>
    get_put_other _ (Field.at_ne_of_block f _ (by omega) (by decide) (by omega) (by decide) (.inr (by omega)))
  refine ⟨?_, ?_⟩
  · rw [hother _ (by decide), get_put_clear _ _ _ (by decide), bump_get_self _ _ (by decide)]
  · rw [hother _ (by decide), get_put_of_lt _ _ (by decide) (by decide)]

/-- Loop `n` with its computation of `t` waiting and its next instant at `next` (R283). -/
def queueJob (c : Chip) (n t next : Nat) : Chip := c.setLoop n (fun x => { x with job := some t, nextAt := next })

theorem loop_queueJob (c : Chip) {n : Nat} (t next : Nat) (hc : c.loops.length = 256) (hn : n < 256) :
    (c.queueJob n t next).loop n = { c.loop n with job := some t, nextAt := next } := loop_setLoop c _ hc hn

@[simp] theorem loop_queueJob_other (c : Chip) {n k : Nat} (t next : Nat) (hk : k ≠ n) : (c.queueJob n t next).loop k = c.loop k :=
  loop_setLoop_other c _ hk

@[simp] theorem slice_queueJob (c : Chip) (n r t next : Nat) : (c.queueJob n t next).slice r = c.slice r := slice_setLoop c _ _ _

end Chip

/-- The step of an instant that is due. -/
theorem loopSampleDue_to {n : Fin 256} {s : State} (hused : s.chip.loopUsed n = true) (hstop : (s.chip.slice (n / 32)).stopped = false)
    (hphase : s.chip.phase = 8) (hdue : (s.chip.loop n).nextAt ≤ s.chip.now) :
    exec (.loopSampleDue n) s = .next { s with chip :=
      ((if (s.chip.loop n).job.isSome then s.chip.missSample n else s.chip).queueJob n (s.chip.loop n).nextAt
        ((s.chip.loop n).nextAt + s.chip.get (loopAt n) Loop.period)).kick (n / 32) } :=
  chipOnly_to s (if_neg (by simp [hused, hstop, hphase, Nat.not_lt.2 hdue]))

/-- An instant that finds the last computation still waiting counts a miss. -/
theorem loopSampleDue_misses {n : Fin 256} {s : State} (hs : Shaped s) (hused : s.chip.loopUsed n = true)
    (hstop : (s.chip.slice (n / 32)).stopped = false) (hphase : s.chip.phase = 8) (hdue : (s.chip.loop n).nextAt ≤ s.chip.now)
    {res : LoopRes} (hjob : (s.chip.loop n).job ≠ none) (hrun : (s.chip.slice (n / 32)).running = some res) (hne : res.loop ≠ n.val) :
    ∃ t, exec (.loopSampleDue n) s = .next t ∧ (t.chip.loop n).missed = true ∧
      (t.chip.loop n).job = some (s.chip.loop n).nextAt ∧ (t.chip.loop n).missAt = some s.chip.now ∧
      t.chip.get (loopAt n) Loop.missed = min (s.chip.get (loopAt n) Loop.missed + 1) Loop.missed.top ∧
      t.chip.get (loopAt n) Loop.missed_f = 1 ∧ StoresKept s t ∧ WordsKept (Chip.missWord n) s t := by
  obtain ⟨quiet, hmiss⟩ := Chip.missSample_eq hrun hne
  obtain ⟨hloops, hslices⟩ := (s.chip.missCounts n).missRecord_stores n quiet
  have hlen : s.chip.loops.length = 256 := hs.loops
  have hstep := loopSampleDue_to hused hstop hphase hdue
  rw [if_pos (Option.isSome_iff_ne_none.2 hjob), hmiss, Chip.kick_running] at hstep
  · have hl : ((s.chip.missCounts n).missRecord n quiet).loops.length = 256 := by rw [hloops]; exact hlen
    have hl' := (Chip.setLoop_loops_length _ n.val (fun h => { h with job := none, missed := true, missAt := some s.chip.now })).trans hl
    refine ⟨_, hstep, ?_, ?_, ?_, ?_, ?_, .chip s _, ?_⟩
    · rw [Chip.loop_queueJob _ _ _ hl' n.isLt]
      simp [hl]
    · rw [Chip.loop_queueJob _ _ _ hl' n.isLt]
    · rw [Chip.loop_queueJob _ _ _ hl' n.isLt]
      simp [hl]
    · simp only [Chip.queueJob, Chip.setLoop_get]
      rw [Chip.missRecord_get _ _ n.isLt _ (by decide), (s.chip.missCounts_get n.isLt).1]
    · simp only [Chip.queueJob, Chip.setLoop_get]
      rw [Chip.missRecord_get _ _ n.isLt _ (by decide), (s.chip.missCounts_get n.isLt).2]
    · exact ((s.chip.missCounts_words n).trans (Chip.missRecord_words _ n quiet)).trans (.of_regs rfl)
  · rw [Chip.slice_queueJob, Chip.slice_setLoop, Chip.slice_congr (hslices.trans (rfl : _ = s.chip.slices)), hrun]
    exact fun h => nomatch h

/-- A free slice begins a computation that alone waits, at once. -/
theorem loopSampleDue_begins {n : Fin 256} {s : State} (hs : Shaped s) (hused : s.chip.loopUsed n = true)
    (hstop : (s.chip.slice (n / 32)).stopped = false) (hphase : s.chip.phase = 8) (hdue : (s.chip.loop n).nextAt ≤ s.chip.now)
    (hjobs : ∀ k < 32, (s.chip.loop (32 * (n / 32) + k)).job = none) (hidle : (s.chip.slice (n / 32)).running = none) :
    ∃ t res, exec (.loopSampleDue n) s = .next t ∧ (t.chip.slice (n / 32)).running = some res ∧ res.loop = n.val ∧
      res.instant = (s.chip.loop n).nextAt ∧ res.began = s.chip.now ∧ (t.chip.loop n).job = some (s.chip.loop n).nextAt ∧
      StoresKept s t ∧ ∀ k, k ≠ n.val → t.chip.loop k = s.chip.loop k := by
  have hn : 32 * (n.val / 32) + n.val % 32 = n.val := Nat.div_add_mod _ _
  have hlen : s.chip.loops.length = 256 := hs.loops
  have hjob : (s.chip.loop n).job = none := by
    have := hjobs (n.val % 32) (by omega)
    rwa [hn] at this
  have hstep := loopSampleDue_to hused hstop hphase hdue
  rw [hjob, Option.isSome_none, if_neg (by decide)] at hstep
  obtain ⟨res, hrun, hloop, hinst, hbegan, hloops⟩ := Chip.kick_begins (c := s.chip.queueJob n (s.chip.loop n).nextAt ((s.chip.loop n).nextAt + s.chip.get (loopAt n) Loop.period)) (r := n.val / 32) (t := (s.chip.loop n).nextAt) (n := n.val)
    hstop hidle
    (by
      have h := Chip.headOf_one (c := s.chip.queueJob n (s.chip.loop n).nextAt ((s.chip.loop n).nextAt + s.chip.get (loopAt n) Loop.period)) (r := n.val / 32) (m := n.val % 32)
        (t := (s.chip.loop n).nextAt) (by omega) (by rw [hn, Chip.loop_queueJob _ _ _ hlen n.isLt]) (fun k hk hkm => by
          rw [Chip.loop_queueJob_other _ _ _ (by omega)]
          exact hjobs k hk)
      rwa [hn] at h)
    hs.slices (by omega)
  refine ⟨_, res, hstep, hrun, hloop, hinst, hbegan, ?_, .chip s _, fun k hk => ?_⟩
  · rw [Chip.loop_congr hloops, Chip.loop_queueJob _ _ _ hlen n.isLt]
  · rw [Chip.loop_congr hloops, Chip.loop_queueJob_other _ _ _ hk]

/-- Settles O19: an instant of a loop queues its computation, which a free slice begins. -/
theorem loopInstants : Obligations.LoopInstants := by
  intro n s hs hused hstop hphase hdue
  refine ⟨fun hjob hrun => ?_, fun hjobs hidle => loopSampleDue_begins hs hused hstop hphase hdue hjobs hidle,
    fun res hjob hrun hne => loopSampleDue_misses hs hused hstop hphase hdue hjob hrun hne⟩
  have hstep := loopSampleDue_to hused hstop hphase hdue
  rw [hjob, Option.isSome_none, if_neg (by decide), Chip.kick_running (by simpa using hrun)] at hstep
  have hlen : s.chip.loops.length = 256 := hs.loops
  exact ⟨_, hstep, by simp [Chip.loop_queueJob, hlen], by simp [Chip.loop_queueJob, hlen], rfl, fun k hk => by simp [hk]⟩

end Sys2Proof.Machine
end

section
/-! SUPPORT. What an operation of an axis can change: its own state, the fields of its block that are named, and the recorder.
-/

namespace Sys2Proof.Machine

@[simp] theorem Chip.ax_setAx (c : Chip) {x : Nat} (f : AxSt → AxSt) (hc : c.axes.length = 16) (hx : x < 16) :
    (c.setAx x f).ax x = f (c.ax x) := nth_upd_same _ _ _ _ (by omega)

@[simp] theorem Chip.ax_setAx_other (c : Chip) {x y : Nat} (f : AxSt → AxSt) (hy : y ≠ x) : (c.setAx x f).ax y = c.ax y :=
  nth_upd_other _ _ _ hy

@[simp] theorem Chip.setAx_axes_length (c : Chip) (x : Nat) (f : AxSt → AxSt) : (c.setAx x f).axes.length = c.axes.length := upd_length _ _ _

theorem Chip.ax_congr {c d : Chip} (h : d.axes = c.axes) (x : Nat) : d.ax x = c.ax x := by rw [Chip.ax, h, Chip.ax]

/-! ### What an operation of an axis can change -/

/-- The words of axis `x` (Table 11.13). -/
def axisWord (x a : Nat) : Prop := spaceOf a = x / 2 ∧ blockOf a = 0x20 + x % 2

/-- The fields of an axis that its operations write. -/
def axFields : List Field :=
  [Axis.state, Axis.ref_state, Axis.pos, Axis.vel, Axis.target, Axis.pref, Axis.lag, Axis.moff, Axis.code, Axis.gstage, Axis.lim_pos_now,
    Axis.lim_neg_now, Axis.home_now, Axis.loop_owned, Axis.quiet_now, Axis.stage_on, Axis.still, Axis.flags_now, Axis.moves, Axis.travel]

/-- A field that the operations of an axis leave. -/
def axKept (f : Field) : Bool := decide (f.first < 65536) && decide (f.first ≠ 0x39) && axFields.all (·.clear f)

/-- `d` is `c` but for the state of axis `x`, the fields of its block that its operations write, and what a record changes. -/
structure Chip.AxMoves (x : Nat) (c d : Chip) : Prop where
  frame : ∃ rg ax rc, d = { c with regs := rg, axes := ax, recd := rc }
  size : d.axes.length = c.axes.length
  others : ∀ y, y ≠ x → d.ax y = c.ax y
  words : ∀ a, spaceOf a ≠ 10 → ¬ axisWord x a → d.word a = c.word a
  fields : ∀ f, axKept f = true → x < 16 → d.get (axisAt x) f = c.get (axisAt x) f

theorem axisWord_at (x : Nat) {w : Nat} (h : w < 65536) : axisWord x (axisAt x + w) :=
  ⟨spaceOf_blockAddr (by omega) h, blockOf_blockAddr (by omega) h⟩

namespace Chip.AxMoves

variable {x : Nat} {c d e : Chip}

theorem refl (x : Nat) (c : Chip) : c.AxMoves x c :=
  ⟨⟨c.regs, c.axes, c.recd, rfl⟩, rfl, fun _ _ => rfl, fun _ _ _ => rfl, fun _ _ _ => rfl⟩

theorem trans (h : c.AxMoves x d) (k : d.AxMoves x e) : c.AxMoves x e := by
  obtain ⟨⟨rg, ax, rc, hd⟩, hs, ho, hw, hf⟩ := h
  obtain ⟨⟨rg', ax', rc', he⟩, hs', ho', hw', hf'⟩ := k
  exact ⟨⟨rg', ax', rc', by rw [he, hd]⟩, hs'.trans hs, fun y hy => (ho' y hy).trans (ho y hy),
    fun a ha hn => (hw' a ha hn).trans (hw a ha hn), fun f hf1 hx => (hf' f hf1 hx).trans (hf f hf1 hx)⟩

theorem setAx (h : c.AxMoves x d) (f : AxSt → AxSt) : c.AxMoves x (d.setAx x f) :=
  h.trans ⟨⟨d.regs, (d.setAx x f).axes, d.recd, rfl⟩, setAx_axes_length d x f, fun _ hy => ax_setAx_other d f hy, fun _ _ _ => rfl,
    fun _ _ _ => rfl⟩

theorem put (h : c.AxMoves x d) {f : Field} (v : Nat) (hf : f ∈ axFields) (hlt : f.first < 65536) : c.AxMoves x (d.put (axisAt x) f v) :=
  h.trans ⟨⟨(d.put (axisAt x) f v).regs, d.axes, d.recd, rfl⟩, rfl, fun _ _ => rfl,
    fun a _ hn => word_put_other d v (fun e => hn (by
      rw [e, Field.at_eq]
      exact axisWord_at x (by simpa using hlt))),
    fun g hg _ => get_put_clear d _ _ (by
      simp only [axKept, Bool.and_eq_true, List.all_eq_true] at hg
      exact hg.2 f hf)⟩

theorem putBit (h : c.AxMoves x d) {f : Field} (i : Nat) (v : Bool) (hf : f ∈ axFields) (hlt : f.first < 65536) :
    c.AxMoves x (d.putBit (axisAt x) f i v) := h.put _ hf hlt

theorem setFlags (h : c.AxMoves x d) (v : Word) : c.AxMoves x (d.setWord (axisAt x + 0x39) v) :=
  h.trans ⟨⟨(d.setWord (axisAt x + 0x39) v).regs, d.axes, d.recd, rfl⟩, rfl, fun _ _ => rfl,
    fun a _ hn => word_setWord_other d v (fun e => hn (e ▸ axisWord_at x (by decide))),
    fun g hg _ => get_congr (word_setWord_other d v (by
      simp only [axKept, Bool.and_eq_true, decide_eq_true_eq] at hg
      simp only [Field.at]
      omega))⟩

theorem record (h : c.AxMoves x d) (source region severity subject : Nat) (bs ws : List Nat) :
    c.AxMoves x (d.record source region severity subject bs ws) := by
  obtain ⟨⟨rg, rc, hd⟩, hw⟩ := d.record_recOnly source region severity subject bs ws
  exact h.trans ⟨⟨rg, d.axes, rc, hd⟩, by rw [hd], fun q _ => by rw [hd]; rfl, fun a ha _ => hw a ha,
    fun f hf hx => get_congr (hw _ (by
      simp only [axKept, Bool.and_eq_true, decide_eq_true_eq] at hf
      rw [axisAt, Field.space_at f (by omega) (by omega)]
      omega))⟩

theorem ite {b : Prop} [Decidable b] (h : b → c.AxMoves x d) (k : ¬ b → c.AxMoves x e) : c.AxMoves x (if b then d else e) := by
  split
  · next hb => exact h hb
  · next hb => exact k hb

theorem when (h : c.AxMoves x d) {b : Bool} {f : Chip → Chip} (k : d.AxMoves x (f d)) : c.AxMoves x (d.when b f) :=
  ite (fun _ => h.trans k) (fun _ => h)

end Chip.AxMoves

end Sys2Proof.Machine
end

section
/-! SUPPORT. The operations of an axis, each with what it leaves. -/

namespace Sys2Proof.Machine

namespace Chip.AxMoves

variable {x : Nat} {c d : Chip}

/-! ### The operations of an axis, in the order of the model -/

theorem bump (h : c.AxMoves x d) {f : Field} (hf : f ∈ axFields) (hlt : f.first < 65536) : c.AxMoves x (d.bump (axisAt x) f) :=
  h.put _ hf hlt

theorem xOn (h : c.AxMoves x d) (n : Nat) : c.AxMoves x (d.xOn x n) := (h.setFlags _).putBit _ _ (by decide) (by decide)

theorem xOff (h : c.AxMoves x d) (n : Nat) : c.AxMoves x (d.xOff x n) := h.putBit _ _ (by decide) (by decide)

theorem xSet (h : c.AxMoves x d) (n : Nat) (b : Bool) : c.AxMoves x (d.xSet x n b) := .ite (fun _ => h.xOn n) (fun _ => h.xOff n)

theorem xRecord (h : c.AxMoves x d) (source severity : Nat) (bs ws : List Nat) : c.AxMoves x (d.xRecord source x severity bs ws) :=
  h.record _ _ _ _ _ _

theorem axSync (h : c.AxMoves x d) : c.AxMoves x (d.axSync x) := by
  have hw : c.AxMoves x (d.when (!d.stageOn x) (·.setAx x (fun h => { h with bridgeA := {}, bridgeB := {}, quietMv := (0, 0) }))) :=
    h.when ((refl x d).setAx _)
  unfold Chip.axSync
  exact ((((((((((((hw.putBit _ _ (by decide) (by decide)).put _ (by decide) (by decide)).put _ (by decide) (by decide)).put _ (by decide)
    (by decide)).put _ (by decide) (by decide)).put _ (by decide) (by decide)).put _ (by decide) (by decide)).put _ (by decide)
    (by decide)).put _ (by decide) (by decide)).put _ (by decide) (by decide)).put _ (by decide) (by decide)).put _ (by decide)
    (by decide)).put _ (by decide) (by decide)

theorem endAct (h : c.AxMoves x d) (code : Nat) : c.AxMoves x (d.endAct x code) := by
  unfold Chip.endAct
  simp only []
  split
  · exact h.setAx _
  · exact .ite (fun _ => ((h.setAx _).put _ (by decide) (by decide)).bump (by decide) (by decide))
      (fun _ => (h.setAx _).put _ (by decide) (by decide))

theorem takeProfile (h : c.AxMoves x d) : c.AxMoves x (d.takeProfile x) := ((h.xSet _ _).xSet _ _).setAx _

theorem atRest (h : c.AxMoves x d) : c.AxMoves x (d.atRest x) := h.setAx _

theorem setRef (h : c.AxMoves x d) (new : Nat) : c.AxMoves x (d.setRef x new) :=
  .ite (fun _ => h) (fun _ => (h.put _ (by decide) (by decide)).xRecord _ _ _ _)

theorem lossInMotion (h : c.AxMoves x d) (speed : Int) : c.AxMoves x (d.lossInMotion x speed) :=
  ((h.xOn _).xRecord _ _ _ _).setRef _

theorem quietTake (h : c.AxMoves x d) : c.AxMoves x (d.quietTake x) := by
  have h1 : c.AxMoves x (d.xSet x xQuietMm (d.get (axisAt x) Axis.v_quiet < d.get (axisAt x) Axis.hyst)) := h.xSet _ _
  have h2 : c.AxMoves x (if d.flag (axisAt x) Axis.quiet_en && !(d.ax x).coil then
      (d.xSet x xQuietMm (d.get (axisAt x) Axis.v_quiet < d.get (axisAt x) Axis.hyst)).xOn x xQuietDev
    else d.xSet x xQuietMm (d.get (axisAt x) Axis.v_quiet < d.get (axisAt x) Axis.hyst)) := .ite (fun _ => h1.xOn _) (fun _ => h1)
  exact (h2.when ((refl x _).setAx _)).put _ (by decide) (by decide)

theorem stageLost (h : c.AxMoves x d) (code : Nat) : c.AxMoves x (d.stageLost x code) :=
  (AxMoves.ite (fun _ => h.endAct code) (fun _ => (h.endAct code).lossInMotion _)).atRest.setAx _

theorem stageBack (h : c.AxMoves x d) : c.AxMoves x (d.stageBack x) := (h.setAx _).quietTake

theorem stageSet (h : c.AxMoves x d) (causes : Nat) : c.AxMoves x (d.stageSet x causes) :=
  (AxMoves.ite (fun _ => (h.setAx _).stageLost _) (fun _ => .ite (fun _ => (h.setAx _).stageBack) (fun _ => h.setAx _))).axSync

theorem stageCause (h : c.AxMoves x d) (n : Nat) (on : Bool) : c.AxMoves x (d.stageCause x n on) := h.stageSet _

theorem wake (h : c.AxMoves x d) : c.AxMoves x (d.wake x) := .ite (fun _ => h.stageCause _ _) (fun _ => h)

theorem speedDemand (h : c.AxMoves x d) (out : Int) : c.AxMoves x (d.speedDemand x out) := by
  refine .ite (fun _ => h) (fun _ => ?_)
  have howned : c.AxMoves x (if (d.ax x).owned then d else
      if d.stageOn x && (d.ax x).mode != 6 then
        (((d.endAct x 16).takeProfile x).setAx x (fun h => { h with owned := true })).setAx x (fun h => { h with mode := 5, motion := .speed })
      else ((d.endAct x 16).takeProfile x).setAx x (fun h => { h with owned := true })) :=
    .ite (fun _ => h) (fun _ => .ite (fun _ => ((h.endAct 16).takeProfile.setAx _).setAx _) (fun _ => (h.endAct 16).takeProfile.setAx _))
  exact (AxMoves.ite (fun _ => howned.setAx _) (fun _ => (howned.setAx _).wake)).axSync

theorem clearDriver (h : c.AxMoves x d) : c.AxMoves x (d.clearDriver x) := by
  refine .ite (fun _ => h) (fun _ => ?_)
  have hoff : c.AxMoves x ((d.setAx x (fun h => { h with fault := 0 })).each (d.ax x).faults (fun c f => c.xOff x (xDriver f))) :=
    (h.setAx _).trans (each_rel (refl x) (fun _ _ _ => trans) _ (fun c _ _ => (refl x c).xOff _) _)
  exact (AxMoves.ite (fun _ => hoff.stageBack) (fun _ => hoff)).axSync

/-! ### The end of a motion and homing -/

theorem brake (h : c.AxMoves x d) (limit : Option (Int × Nat)) : c.AxMoves x (d.brake x limit) := h.setAx _

theorem moved (h : c.AxMoves x d) (v u dist : Int) : c.AxMoves x (d.moved x v u dist) := h.setAx _

theorem homeFault (h : c.AxMoves x d) (code : Nat) : c.AxMoves x (d.homeFault x code) :=
  ((((h.xOn _).xRecord _ _ _ _).endAct _).setAx _).brake _

theorem homeEdge (h : c.AxMoves x d) (on : Bool) : c.AxMoves x (d.homeEdge x on) :=
  .ite (fun _ => h) fun _ => .ite (fun _ => (h.setAx _).brake _) fun _ => .ite (fun _ => h.setAx _) fun _ =>
    .ite (fun _ => (h.setAx _).brake _) fun _ => .ite (fun _ => .ite (fun _ => (h.setAx _).brake _) (fun _ => h.homeFault _)) (fun _ => h)

theorem startRun (h : c.AxMoves x d) (speed : Nat) (v : Int) : c.AxMoves x (d.startRun x speed v) := h.setAx _

theorem setOut (h : c.AxMoves x d) (target : Int) : c.AxMoves x (d.setOut x target) :=
  .ite (fun _ => h.setAx _) fun _ => .ite (fun _ => h.setAx _) (fun _ => h.setAx _)

theorem homeStep (h : c.AxMoves x d) (k : Nat) : c.AxMoves x (d.homeStep x k) :=
  .ite (fun _ => (h.setAx _).homeFault _) fun _ => .ite
    (fun _ => .ite (fun _ => ((h.setAx _).setAx _).setOut _) (fun _ => (h.setAx _).homeFault _))
    (fun _ => ((h.setAx _).startRun _ _).homeEdge _)

theorem actDone (h : c.AxMoves x d) : c.AxMoves x (d.actDone x) := (h.endAct _).setAx _

theorem homeDone (h : c.AxMoves x d) : c.AxMoves x (d.homeDone x) := by
  have hdone : ∀ k, c.AxMoves x ((((d.setAx x k).put (axisAt x) Axis.pref (unsigned 32 (d.ax x).hRef)).setRef x 2).xOff x xLost) :=
    fun k => (((h.setAx k).put _ (by decide) (by decide)).setRef _).xOff _
  exact .ite (fun _ => .ite (fun _ => ((hdone _).endAct _).setAx _) fun _ => .ite
    (fun _ => (hdone _).actDone)
    (fun _ => ((hdone _).setAx _).setOut _)) (fun _ => (hdone _).actDone)

theorem motionEnd (h : c.AxMoves x d) : c.AxMoves x (d.motionEnd x) :=
  .ite (fun _ => h.atRest.stageSet _) fun _ => .ite (fun _ => h.atRest.actDone) fun _ => .ite
    (fun _ => .ite (fun _ => h.atRest.homeStep _) fun _ => .ite (fun _ => h.atRest.homeDone) (fun _ => h.atRest.actDone)) fun _ =>
    .ite (fun _ => h.atRest.setAx _) (fun _ => (AxMoves.ite (fun _ => h.atRest.endAct _)
      (fun _ => h.atRest)).setAx _)

theorem jumpStop (h : c.AxMoves x d) : c.AxMoves x (d.jumpStop x) :=
  (AxMoves.ite (fun _ => (h.endAct _).lossInMotion _) (fun _ => h)).atRest

theorem limitStop (h : c.AxMoves x d) (n : Nat) : c.AxMoves x (d.limitStop x n) :=
  have hs := (((h.xOn xLimStop).xRecord 50 1 [n] [d.xPos x]).endAct 6).setAx (fun h => { h with mode := 6, limStop :=
    true })
  .ite (fun _ => hs.jumpStop.motionEnd) (fun _ => hs.brake _)

theorem gearEnd (h : c.AxMoves x d) (code flag : Nat) (lag : Int) : c.AxMoves x (d.gearEnd x code flag lag) :=
  ((((h.xOn _).xRecord _ _ _ _).endAct _).setAx _).brake _

theorem softStop (h : c.AxMoves x d) {onStop : Chip → Chip} (hs : ∀ e : Chip, c.AxMoves x e → c.AxMoves x (onStop e)) :
    c.AxMoves x (d.softStop x onStop) := by
  unfold Chip.softStop
  split
  · exact h
  · exact .ite (fun _ => (hs d h).brake _) (fun _ => h)

/-! ### One update of the generator (R309) -/

theorem axLook (h : c.AxMoves x d) : c.AxMoves x (d.axLook x) := h.setAx _

theorem axSwitches (h : c.AxMoves x d) : c.AxMoves x (d.axSwitches x) := by
  refine .ite (fun _ => h) (fun _ => (AxMoves.ite (fun _ => h.axLook) fun _ => ?_).axSync)
  exact .ite (fun _ => h.axLook.homeFault _) fun _ => .ite (fun _ => h.axLook.homeFault _) fun _ =>
    .ite (fun _ => h.axLook.homeEdge _) fun _ => .ite (fun _ => h.axLook.limitStop _) (fun _ => h.axLook)

theorem quietStep (h : c.AxMoves x d) (before : Int) : c.AxMoves x (d.quietStep x before) :=
  .ite (fun _ => h) (fun _ => .ite (fun _ => (((h.quietTake.setAx _).xOn _).xRecord _ _ _ _).setAx _) (fun _ => h.quietTake.setAx _))

theorem driveBridges (h : c.AxMoves x d) : c.AxMoves x (d.driveBridges x) :=
  .ite (fun _ => h.setAx _) (fun _ => h.setAx _)

theorem updGoto (h : c.AxMoves x d) (t : Int) (dec : Bool) (short : Nat) : c.AxMoves x (d.updGoto x t dec short) :=
  .ite (fun _ => (h.setAx _).motionEnd) (fun _ => (h.moved _ _ _).setAx _)

theorem updRun (h : c.AxMoves x d) (speed : Nat) (neg : Bool) : c.AxMoves x (d.updRun x speed neg) :=
  .ite (fun _ => (h.moved _ _ _).homeFault _) fun _ => .ite (fun _ => (h.moved _ _ _).brake _) (fun _ => h.moved _ _ _)

theorem updEase (h : c.AxMoves x d) (target : Option Int) : c.AxMoves x (d.updEase x target) := by
  refine .ite (fun _ => ?_) (fun _ => h.moved _ _ _)
  split
  · exact (h.moved _ _ _).atRest.setOut _
  · exact (h.moved _ _ _).motionEnd

theorem updBrake (h : c.AxMoves x d) (limit : Option (Int × Nat)) : c.AxMoves x (d.updBrake x limit) := by
  unfold Chip.updBrake
  simp only []
  split
  · exact .ite (fun _ => ((AxMoves.ite (fun _ => h.moved _ _ _) (fun _ => h.moved _ _ _)).setAx _).motionEnd)
      (fun _ => .ite (fun _ => h.moved _ _ _) (fun _ => h.moved _ _ _))
  · exact .ite (fun _ => (AxMoves.ite (fun _ => h.moved _ _ _) (fun _ => h.moved _ _ _)).motionEnd)
      (fun _ => (AxMoves.ite (fun _ => h.moved _ _ _) (fun _ => h.moved _ _ _)).setAx _)

theorem updSpeed (h : c.AxMoves x d) : c.AxMoves x (d.updSpeed x) := by
  refine .ite (fun _ => .ite (fun _ => h) (fun _ => ?_)) fun _ => .ite
    (fun _ => (h.moved _ _ _).softStop (fun _ k => k)) (fun _ => ?_)
  · exact ((h.takeProfile.moved _ _ _).setAx _).softStop (fun _ k => k)
  · exact .ite (fun _ => (h.moved _ _ _).motionEnd) (fun _ => (h.moved _ _ _).softStop (fun _ k => k))

theorem putS (h : c.AxMoves x d) {f : Field} (v : Int) (hf : f ∈ axFields) (hlt : f.first < 65536) : c.AxMoves x (d.putS (axisAt x) f v) :=
  h.put _ hf hlt

theorem updGear (h : c.AxMoves x d) : c.AxMoves x (d.updGear x) :=
  have hm : ∀ v w k, c.AxMoves x (((d.put (axisAt x) Axis.moff v).putS (axisAt x) Axis.lag w).setAx x k) := fun _ _ k =>
    ((h.put _ (by decide) (by decide)).putS _ (by decide) (by decide)).setAx k
  .ite (fun _ => (hm _ _ _).gearEnd _ _ _) fun _ => .ite (fun _ => (hm _ _ _).gearEnd _ _ _) fun _ =>
    ((hm _ _ _).setAx _).softStop (fun _ k => (k.endAct _).setAx _)

end Chip.AxMoves

end Sys2Proof.Machine
end

section
/-! SUPPORT. The state of an axis, read after its operations. -/

namespace Sys2Proof.Machine

namespace Chip

/-! ### The state of an axis, read after operations that leave it -/

@[simp] theorem ax_put (c : Chip) (b : Nat) (f : Field) (v y : Nat) : (c.put b f v).ax y = c.ax y := ax_congr (put_axes c b f v) y
@[simp] theorem ax_putBit (c : Chip) (b : Nat) (f : Field) (i : Nat) (v : Bool) (y : Nat) : (c.putBit b f i v).ax y = c.ax y := ax_put c b f _ y
@[simp] theorem ax_bump (c : Chip) (b : Nat) (f : Field) (y : Nat) : (c.bump b f).ax y = c.ax y := ax_put c b f _ y
@[simp] theorem ax_record (c : Chip) (source region severity subject : Nat) (bs ws : List Nat) (y : Nat) :
    (c.record source region severity subject bs ws).ax y = c.ax y := ax_congr (record_axes c _ _ _ _ _ _) y
@[simp] theorem ax_xOn (c : Chip) (x n y : Nat) : (c.xOn x n).ax y = c.ax y := ax_congr rfl y
@[simp] theorem ax_xOff (c : Chip) (x n y : Nat) : (c.xOff x n).ax y = c.ax y := ax_congr rfl y
@[simp] theorem ax_xSet (c : Chip) (x n : Nat) (b : Bool) (y : Nat) : (c.xSet x n b).ax y = c.ax y := by
  unfold xSet
  split
  · exact ax_xOn c x n y
  · exact ax_xOff c x n y
@[simp] theorem ax_xRecord (c : Chip) (source x severity : Nat) (bs ws : List Nat) (y : Nat) :
    (c.xRecord source x severity bs ws).ax y = c.ax y := ax_record c _ _ _ _ _ _ y
@[simp] theorem ax_setRef (c : Chip) (x new y : Nat) : (c.setRef x new).ax y = c.ax y := by
  unfold setRef
  simp only []
  split
  · rfl
  · rw [ax_xRecord, ax_put]
@[simp] theorem ax_lossInMotion (c : Chip) (x : Nat) (speed : Int) (y : Nat) : (c.lossInMotion x speed).ax y = c.ax y := by
  rw [lossInMotion, ax_setRef, ax_xRecord, ax_xOn]

/-! ### What an operation leaves of its own axis -/

/-- What the drive of the coils, the switches and the travel note aside, the axis is as before. -/
def SameMotion (h k : AxSt) : Prop :=
  ∃ ba bb qa qm dr st oa ob tr sn, k = { h with
    bridgeA := ba, bridgeB := bb, quietAmp := qa, quietMv := qm, devRun := dr, strong := st
    openA := oa, openB := ob, trip := tr, seen := sn }

theorem SameMotion.rfl (h : AxSt) : SameMotion h h :=
  ⟨h.bridgeA, h.bridgeB, h.quietAmp, h.quietMv, h.devRun, h.strong, h.openA, h.openB, h.trip, h.seen, Eq.refl _⟩

theorem SameMotion.trans {h k l : AxSt} (a : SameMotion h k) (b : SameMotion k l) : SameMotion h l := by
  obtain ⟨a1, a2, a3, a4, a5, a6, a7, a8, a9, a0, rfl⟩ := a
  obtain ⟨b1, b2, b3, b4, b5, b6, b7, b8, b9, b0, rfl⟩ := b
  exact ⟨b1, b2, b3, b4, b5, b6, b7, b8, b9, b0, Eq.refl _⟩

theorem SameMotion.p {h k : AxSt} (a : SameMotion h k) : k.p = h.p := by obtain ⟨_, _, _, _, _, _, _, _, _, _, rfl⟩ := a; exact Eq.refl _
theorem SameMotion.v {h k : AxSt} (a : SameMotion h k) : k.v = h.v := by obtain ⟨_, _, _, _, _, _, _, _, _, _, rfl⟩ := a; exact Eq.refl _
theorem SameMotion.genAt {h k : AxSt} (a : SameMotion h k) : k.genAt = h.genAt := by obtain ⟨_, _, _, _, _, _, _, _, _, _, rfl⟩ := a; exact Eq.refl _
theorem SameMotion.mode {h k : AxSt} (a : SameMotion h k) : k.mode = h.mode := by obtain ⟨_, _, _, _, _, _, _, _, _, _, rfl⟩ := a; exact Eq.refl _
theorem SameMotion.motion {h k : AxSt} (a : SameMotion h k) : k.motion = h.motion := by obtain ⟨_, _, _, _, _, _, _, _, _, _, rfl⟩ := a; exact Eq.refl _
theorem SameMotion.prof {h k : AxSt} (a : SameMotion h k) : k.prof = h.prof := by obtain ⟨_, _, _, _, _, _, _, _, _, _, rfl⟩ := a; exact Eq.refl _
theorem SameMotion.causes {h k : AxSt} (a : SameMotion h k) : k.causes = h.causes := by obtain ⟨_, _, _, _, _, _, _, _, _, _, rfl⟩ := a; exact Eq.refl _
theorem SameMotion.fault {h k : AxSt} (a : SameMotion h k) : k.fault = h.fault := by obtain ⟨_, _, _, _, _, _, _, _, _, _, rfl⟩ := a; exact Eq.refl _
theorem SameMotion.act {h k : AxSt} (a : SameMotion h k) : k.act = h.act := by obtain ⟨_, _, _, _, _, _, _, _, _, _, rfl⟩ := a; exact Eq.refl _
theorem SameMotion.thenOff {h k : AxSt} (a : SameMotion h k) : k.thenOff = h.thenOff := by obtain ⟨_, _, _, _, _, _, _, _, _, _, rfl⟩ := a; exact Eq.refl _
theorem SameMotion.hStep {h k : AxSt} (a : SameMotion h k) : k.hStep = h.hStep := by obtain ⟨_, _, _, _, _, _, _, _, _, _, rfl⟩ := a; exact Eq.refl _
theorem SameMotion.holding {h k : AxSt} (a : SameMotion h k) : k.holding = h.holding := by obtain ⟨_, _, _, _, _, _, _, _, _, _, rfl⟩ := a; exact Eq.refl _

theorem axSync_same (c : Chip) {x : Nat} (hc : c.axes.length = 16) (hx : x < 16) : SameMotion (c.ax x) ((c.axSync x).ax x) := by
  have hstep : ((c.axSync x).ax x) = (c.when (!c.stageOn x) (·.setAx x (fun h => { h with bridgeA := {}, bridgeB := {}, quietMv := (0, 0) }))).ax x := by
    unfold axSync
    simp only [ax_put, ax_putBit]
  rw [hstep, when]
  split
  · rw [ax_setAx _ _ hc hx]
    exact ⟨_, _, _, _, _, _, _, _, _, _, Eq.refl _⟩
  · exact .rfl _

theorem quietTake_same (c : Chip) {x : Nat} (hc : c.axes.length = 16) (hx : x < 16) : SameMotion (c.ax x) ((c.quietTake x).ax x) := by
  have h1 : ∀ d : Chip, d.axes = c.axes → ∀ b : Bool,
      SameMotion (c.ax x) ((d.when b (·.setAx x (fun h => { h with quietAmp := 65536 }))).ax x) := fun d hd b => by
    unfold when
    split
    · rw [ax_setAx _ _ (by rw [hd, hc]) hx, ax_congr hd]
      exact ⟨_, _, _, _, _, _, _, _, _, _, Eq.refl _⟩
    · rw [ax_congr hd]
      exact .rfl _
  unfold quietTake
  simp only [ax_put]
  refine h1 _ ?_ _
  have hset : ∀ b, (c.xSet x xQuietMm b).axes = c.axes := fun b => by
    unfold xSet
    split <;> rfl
  split
  · exact hset _
  · exact hset _

/-- The end of an act leaves the motion. -/
theorem endAct_ax (c : Chip) {x : Nat} (code : Nat) (hc : c.axes.length = 16) (hx : x < 16) :
    ∃ acts, (c.endAct x code).ax x = { c.ax x with act := none, hStep := 0, acts := acts } := by
  unfold endAct
  simp only []
  split
  · next hact =>
    refine ⟨(c.ax x).acts, ?_⟩
    rw [ax_setAx _ _ hc hx, ← hact]
  · split
    · rw [ax_bump, ax_put, ax_setAx _ _ hc hx]
      exact ⟨_, Eq.refl _⟩
    · rw [ax_put, ax_setAx _ _ hc hx]
      exact ⟨_, Eq.refl _⟩

/-- A stage that goes off stands still with its act ended. -/
theorem stageLost_ax (c : Chip) {x : Nat} (code : Nat) (hc : c.axes.length = 16) (hx : x < 16) :
    ((c.stageLost x code).ax x).v = 0 ∧ ((c.stageLost x code).ax x).act = none ∧ ((c.stageLost x code).ax x).fault = (c.ax x).fault ∧
      ((c.stageLost x code).ax x).causes = (c.ax x).causes ||| (c.ax x).thenOff := by
  obtain ⟨acts, hacts⟩ := c.endAct_ax code hc hx
  have hmoves : ((if (c.ax x).v = 0 then c.endAct x code else (c.endAct x code).lossInMotion x (c.ax x).speed).ax x) =
      { c.ax x with act := none, hStep := 0, acts := acts } := by
    split
    · exact hacts
    · rw [ax_lossInMotion, hacts]
  have hlen : (if (c.ax x).v = 0 then c.endAct x code else (c.endAct x code).lossInMotion x (c.ax x).speed).axes.length = 16 :=
    (AxMoves.ite (fun _ => (AxMoves.refl x c).endAct code) (fun _ => ((AxMoves.refl x c).endAct code).lossInMotion _)).size.trans hc
  unfold stageLost atRest
  simp only []
  rw [ax_setAx _ _ (by rw [setAx_axes_length, hlen]) hx, ax_setAx _ _ hlen hx, hmoves]
  exact ⟨Eq.refl _, Eq.refl _, Eq.refl _, Eq.refl _⟩

/-- A stage is off where a fault stands. -/
theorem stageOn_of_fault {c : Chip} {x : Nat} (h : (c.ax x).fault ≠ 0) : c.stageOn x = false := by
  simp [stageOn, h]

end Chip

/-- `d` is `c` but for its words and its axes. -/
def Chip.RegsAxes (c d : Chip) : Prop := ∃ rg ax, d = { c with regs := rg, axes := ax }

namespace Chip.RegsAxes

theorem refl (c : Chip) : c.RegsAxes c := ⟨c.regs, c.axes, rfl⟩

theorem setAx {c d : Chip} (h : c.RegsAxes d) (x : Nat) (f : AxSt → AxSt) : c.RegsAxes (d.setAx x f) := by
  obtain ⟨rg, ax, rfl⟩ := h
  exact ⟨_, _, rfl⟩

theorem put {c d : Chip} (h : c.RegsAxes d) (b : Nat) (f : Field) (v : Nat) : c.RegsAxes (d.put b f v) := by
  obtain ⟨rg, ax, rfl⟩ := h
  exact ⟨_, _, rfl⟩

theorem putBit {c d : Chip} (h : c.RegsAxes d) (b : Nat) (f : Field) (i : Nat) (v : Bool) : c.RegsAxes (d.putBit b f i v) := h.put b f _

theorem axSync {c d : Chip} (h : c.RegsAxes d) (x : Nat) : c.RegsAxes (d.axSync x) := by
  have hw : c.RegsAxes (d.when (!d.stageOn x) (·.setAx x (fun h => { h with bridgeA := {}, bridgeB := {}, quietMv := (0, 0) }))) := by
    unfold Chip.when
    split
    · exact h.setAx x _
    · exact h
  unfold Chip.axSync
  exact ((((((((((((hw.putBit _ _ _ _).put _ _ _).put _ _ _).put _ _ _).put _ _ _).put _ _ _).put _ _ _).put _ _ _).put _ _ _).put _ _ _).put
    _ _ _).put _ _ _).put _ _ _

theorem sense {c d : Chip} (h : c.RegsAxes d) (x ia ib tj : Nat) : c.RegsAxes (d.sense x ia ib tj) :=
  (((h.put _ _ _).put _ _ _).put _ _ _).setAx _ _

theorem state {s : State} {d : Chip} (h : s.chip.RegsAxes d) :
    ({ s with chip := d } : State) = { s with chip := { s.chip with regs := d.regs, axes := d.axes } } := by
  obtain ⟨rg, ax, rfl⟩ := h
  rfl

end Chip.RegsAxes

end Sys2Proof.Machine
end

section
/-! SUPPORT. Operations that write words and the recorder alone. -/

namespace Sys2Proof.Machine

/-! ### Operations that write words and the recorder alone -/

/-- `d` is `c` but for words in a set and what the recorder holds. -/
structure Chip.Writes (P : Nat → Prop) (c d : Chip) : Prop where
  frame : ∃ rg rc, d = { c with regs := rg, recd := rc }
  words : c.WordsBut P d

namespace Chip.Writes

variable {P Q : Nat → Prop} {c d e : Chip}

theorem refl (P : Nat → Prop) (c : Chip) : c.Writes P c := ⟨⟨c.regs, c.recd, rfl⟩, .refl P c⟩

theorem trans (h : c.Writes P d) (k : d.Writes P e) : c.Writes P e := by
  obtain ⟨⟨rg, rc, hd⟩, hw⟩ := h
  obtain ⟨⟨rg', rc', he⟩, hw'⟩ := k
  exact ⟨⟨rg', rc', by rw [he, hd]⟩, hw.trans hw'⟩

theorem mono (h : c.Writes P d) (hsub : ∀ a, P a → Q a) : c.Writes Q d := ⟨h.frame, h.words.mono hsub⟩

theorem setWord (h : c.Writes P d) {a : Nat} (v : Word) (hp : P a) : c.Writes P (d.setWord a v) :=
  h.trans ⟨⟨(d.setWord a v).regs, d.recd, rfl⟩, .setWord d v hp⟩

theorem putI (h : c.Writes P d) {b i : Nat} {f : Field} (v : Nat) (hp : P (f.at b i)) : c.Writes P (d.putI b f i v) := h.setWord _ hp

theorem put (h : c.Writes P d) {b : Nat} {f : Field} (v : Nat) (hp : P (f.at b 0)) : c.Writes P (d.put b f v) := h.putI v hp

theorem putBit (h : c.Writes P d) {b : Nat} {f : Field} (i : Nat) (v : Bool) (hp : P (f.at b 0)) : c.Writes P (d.putBit b f i v) := h.put _ hp

theorem bump (h : c.Writes P d) {b : Nat} {f : Field} (hp : P (f.at b 0)) : c.Writes P (d.bump b f) := h.put _ hp

theorem record (h : c.Writes P d) (source region severity subject : Nat) (bs ws : List Nat) (hp : ∀ a, spaceOf a = 10 → P a) :
    c.Writes P (d.record source region severity subject bs ws) := by
  obtain ⟨⟨rg, rc, hd⟩, -⟩ := d.record_recOnly source region severity subject bs ws
  exact h.trans ⟨⟨rg, rc, hd⟩, .record d _ _ _ _ _ _ hp⟩

theorem ite {b : Prop} [Decidable b] (h : b → c.Writes P d) (k : ¬ b → c.Writes P e) : c.Writes P (if b then d else e) := by
  split
  · next hb => exact h hb
  · next hb => exact k hb

theorem when (h : c.Writes P d) {b : Bool} {f : Chip → Chip} (k : d.Writes P (f d)) : c.Writes P (d.when b f) :=
  ite (fun _ => h.trans k) (fun _ => h)

theorem each {α : Type} (h : c.Writes P d) {f : Chip → α → Chip} (l : List α) (k : ∀ e : Chip, ∀ x ∈ l, e.Writes P (f e x)) :
    c.Writes P (d.each l f) :=
  h.trans (each_rel (refl P) (fun _ _ _ => trans) l k d)

theorem get (h : c.Writes P d) {b : Nat} {f : Field} (hn : ¬ P (f.at b 0)) : d.get b f = c.get b f := h.words.get hn

/-- What is no word and not the recorder's is as before. -/
theorem same (h : c.Writes P d) {α : Type} (p : Chip → α) (hp : ∀ rg rc, p { c with regs := rg, recd := rc } = p c) : p d = p c := by
  obtain ⟨rg, rc, hd⟩ := h.frame
  rw [hd, hp]

theorem sys (h : c.Writes P d) : d.sys = c.sys := h.same (·.sys) (fun _ _ => rfl)
theorem now (h : c.Writes P d) : d.now = c.now := h.same (·.now) (fun _ _ => rfl)
theorem loops (h : c.Writes P d) : d.loops = c.loops := h.same (·.loops) (fun _ _ => rfl)
theorem slices (h : c.Writes P d) : d.slices = c.slices := h.same (·.slices) (fun _ _ => rfl)
theorem chans (h : c.Writes P d) : d.chans = c.chans := h.same (·.chans) (fun _ _ => rfl)
theorem axes (h : c.Writes P d) : d.axes = c.axes := h.same (·.axes) (fun _ _ => rfl)
theorem eng (h : c.Writes P d) : d.eng = c.eng := h.same (·.eng) (fun _ _ => rfl)
theorem fab (h : c.Writes P d) : d.fab = c.fab := h.same (·.fab) (fun _ _ => rfl)
theorem ports (h : c.Writes P d) : d.ports = c.ports := h.same (·.ports) (fun _ _ => rfl)
theorem safe (h : c.Writes P d) : d.safe = c.safe := h.same (·.safe) (fun _ _ => rfl)
theorem pair (h : c.Writes P d) : d.pair = c.pair := h.same (·.pair) (fun _ _ => rfl)
theorem net (h : c.Writes P d) : d.net = c.net := h.same (·.net) (fun _ _ => rfl)
theorem panel (h : c.Writes P d) : d.panel = c.panel := h.same (·.panel) (fun _ _ => rfl)
theorem ctrs (h : c.Writes P d) : d.ctrs = c.ctrs := h.same (·.ctrs) (fun _ _ => rfl)
theorem emitted (h : c.Writes P d) : d.emitted = c.emitted := h.same (·.emitted) (fun _ _ => rfl)

end Chip.Writes

/-- A chip that differs in its words alone. -/
def Chip.RegsOnly (c d : Chip) : Prop := ∃ rg, d = { c with regs := rg }

namespace Chip.RegsOnly

theorem refl (c : Chip) : c.RegsOnly c := ⟨c.regs, rfl⟩

theorem setWord {c d : Chip} (h : c.RegsOnly d) (a : Nat) (v : Word) : c.RegsOnly (d.setWord a v) := by
  obtain ⟨rg, rfl⟩ := h
  exact ⟨_, rfl⟩

theorem putI {c d : Chip} (h : c.RegsOnly d) (b : Nat) (f : Field) (i v : Nat) : c.RegsOnly (d.putI b f i v) := h.setWord _ _

theorem put {c d : Chip} (h : c.RegsOnly d) (b : Nat) (f : Field) (v : Nat) : c.RegsOnly (d.put b f v) := h.setWord _ _

theorem state {s : State} {d : Chip} (h : s.chip.RegsOnly d) : ({ s with chip := d } : State) = { s with chip := { s.chip with regs := d.regs } } := by
  obtain ⟨rg, rfl⟩ := h
  rfl

end Chip.RegsOnly

end Sys2Proof.Machine
end

section
/-! SUPPORT. O20: the commit of a loop computation. -/

namespace Sys2Proof.Machine

/-! ### The commit of a computation in its parts (R288) -/

/-- The words of loop `n`'s block. -/
def loopBlock (n a : Nat) : Prop := loopAt n ≤ a ∧ a < loopAt n + 256

/-- The words of channels and axes, and the recorder's: what a loop's output can move. -/
def driveWord (a : Nat) : Prop := spaceOf a = 10 ∨ (0x10 ≤ blockOf a ∧ blockOf a < 0x22)

theorem loopBlock_at {n : Nat} {f : Field} {i : Nat} (h : f.first + i * f.stride < 256) : loopBlock n (f.at (loopAt n) i) := by
  rw [Field.at_eq, loopBlock]
  omega

/-- No output moves a word of a loop. -/
theorem not_driveWord_loop {n : Nat} (hn : n < 256) {f : Field} (hf : f.first < 65536) : ¬ driveWord (f.at (loopAt n) 0) := by
  rw [driveWord, loopAt, Field.space_at f (by omega) (by omega), Field.block_at f (by omega) (by omega)]
  omega

theorem not_driveWord_pair {f : Field} (hf : f.first < 65536) : ¬ driveWord (f.at pairAt 0) := by
  rw [driveWord, show pairAt = blockAddr 9 0 from rfl, Field.space_at f (by omega) (by omega), Field.block_at f (by omega) (by omega)]
  omega

/-- An operation of a channel moves the words of its block and the recorder's. -/
theorem Chip.ChanMoves.drives {g : Nat} {ws : List Nat} {c d : Chip} (h : c.ChanMoves g ws d) (hws : ∀ w ∈ ws, w < 65536) :
    c.WordsBut driveWord d := by
  intro a ha
  refine h.words a (fun e => ha (.inl e)) (fun w hw e => ha (.inr ?_))
  rw [e, chanAt, blockOf_blockAddr (by omega) (hws w hw)]
  omega

theorem Chip.AxMoves.drives {x : Nat} {c d : Chip} (h : c.AxMoves x d) : c.WordsBut driveWord d := fun a ha =>
  h.words a (fun e => ha (.inl e)) (fun e => ha (.inr (by rw [e.2]; omega)))

namespace Chip

/-- Mirroring hangs on the pair block alone. -/
theorem mirrors_congr {P : Nat → Prop} {c d : Chip} (h : c.WordsBut P d) (hs : d.sys = c.sys)
    (hp : ∀ f : Field, f.first < 65536 → ¬ P (f.at pairAt 0)) : d.mirrors = c.mirrors := by
  simp only [mirrors, lease, flag, hs, h.get (hp Pair.lease_state (by decide)), h.get (hp Pair.partner (by decide)),
    h.get (hp Pair.partner_state (by decide))]

/-- The values of a computation in the words that show them. -/
def loopShow (c : Chip) (n : Nat) (res : LoopRes) : Chip :=
  (((c.put (loopAt n) Loop.pv (unsigned 32 res.pv)).put (loopAt n) Loop.sp_now (unsigned 32 res.sp)).put (loopAt n) Loop.err
    (unsigned 32 res.err)).put (loopAt n) Loop.out (unsigned 32 res.out)

/-- Its states and flags, and the records they ask for. -/
def loopMarks (c : Chip) (n : Nat) (res : LoopRes) (h : LoopSt) (word flags fresh lo hi : Nat) : Chip :=
  (((((((c.putInteg n res.integ).putSections n 0 res.sect).setNat (loopAt n + 0x0070) (word ||| flags)).put (loopAt n) Loop.flags_now
    flags).when (fresh != 0) (·.record 57 (n / 32) 1 n [] [fresh])).unusable n 1 h.pvBad res.pvBad).unusable n 2 h.spBad res.spBad).when
    (res.limMm && !h.limMm) (·.record 60 (n / 32) 1 n [] [lo, hi])

/-- What the loop keeps, its counts and its times. -/
def loopKeep (c : Chip) (n : Nat) (res : LoopRes) (pend : List Nat) (coef : List Nat) (samples most time : Nat) : Chip :=
  (((((c.setLoop n (fun h => { h with
    job := none, missed := false, pend := pend, coef := coef, man := res.man, nsec := res.nsec, pvBad := res.pvBad
    spBad := res.spBad, limMm := res.limMm, resetAsk := h.resetAsk && !res.cleared })).put (loopAt n) Loop.coef_pending pend.length).put (loopAt n)
    Loop.sample_tick (res.instant % 2 ^ 32)).put (loopAt n) Loop.samples samples).put (loopAt n) Loop.comp_last time).put (loopAt n)
    Loop.comp_max most

/-- The flags of a computation with those of a miss. -/
def loopFlags (c : Chip) (res : LoopRes) : Nat := res.flags ||| (if (c.loop res.loop).missed then lMissed else 0)

/-- The coefficients still pending: one that was taken as it stands is pending no more (R291). -/
def loopPend (c : Chip) (res : LoopRes) : List Nat :=
  match res.took with
  | some (k, v) =>
    if (c.loop res.loop).pend.head? = some k && c.nat (loopAt res.loop + wordOfCoef k) = v then (c.loop res.loop).pend.drop 1
    else (c.loop res.loop).pend
  | none => (c.loop res.loop).pend

/-- The coefficients with the one that was taken. -/
def loopCoef (c : Chip) (res : LoopRes) : List Nat :=
  match res.took with
  | some (k, v) => setAt (c.loop res.loop).coef k v
  | none => (c.loop res.loop).coef

/-- The commit but for the output. -/
def loopBody (c : Chip) (res : LoopRes) (time : Nat) : Chip :=
  let n := res.loop
  let b := loopAt n
  let fresh := (c.loopFlags res &&& 0x8F) &&& (0xFFFFFFFF ^^^ c.nat (b + 0x0070))
  (((c.setLoopState n res.state).loopShow n res).loopMarks n res (c.loop n) (c.nat (b + 0x0070)) (c.loopFlags res) fresh (c.get b Loop.out_lo)
    (c.get b Loop.out_hi)).loopKeep n res (c.loopPend res) (c.loopCoef res) ((c.get b Loop.samples + 1) % 2 ^ 32) (max (c.get b Loop.comp_max) time) time

theorem loopCommit_eq (c : Chip) (res : LoopRes) (time : Nat) :
    c.loopCommit res time = (c.loopBody res time).loopDrive res.loop res.out := rfl

/-! ### What each part writes -/

/-- Words from offset `lo` of loop `n`'s block on, and the recorder's. -/
def loopFrom (n lo a : Nat) : Prop := (loopAt n + lo ≤ a ∧ a < loopAt n + 256) ∨ spaceOf a = 10

theorem loopFrom_at {n lo i : Nat} {f : Field} (h : lo ≤ f.first + i * f.stride ∧ f.first + i * f.stride < 256) :
    loopFrom n lo (f.at (loopAt n) i) := by
  rw [Field.at_eq, loopFrom]
  omega

theorem putSections_writes {c d : Chip} (n : Nat) : ∀ (j : Nat) (l : List (Int × Int)), j + l.length ≤ 8 → c.Writes (loopFrom n 0x44) d →
    c.Writes (loopFrom n 0x44) (d.putSections n j l)
  | _, [], _, h => h
  | j, (a, b) :: t, hj, h => by
    have hat : ∀ i < 32, loopFrom n 0x44 (Loop.states.at (loopAt n) i) := fun i hi => loopFrom_at (by
      simp only [Loop.states, Field.many]
      omega)
    simp only [List.length_cons] at hj
    exact putSections_writes n (j + 1) t (by omega)
      ((((h.putI _ (hat _ (by omega))).putI _ (hat _ (by omega))).putI _ (hat _ (by omega))).putI _ (hat _ (by omega)))

theorem unusable_writes {P : Nat → Prop} {c d : Chip} (h : c.Writes P d) (hp : ∀ a, spaceOf a = 10 → P a) (n code : Nat) (old new : Bool) :
    c.Writes P (d.unusable n code old new) := .ite (fun _ => h) (fun _ => h.record _ _ _ _ _ _ hp)

theorem loopMarks_writes (c : Chip) (n : Nat) {res : LoopRes} (hres : res.sect.length = 8) (h : LoopSt) (word flags fresh lo hi : Nat) :
    c.Writes (loopFrom n 0x44) (c.loopMarks n res h word flags fresh lo hi) := by
  have hrec : ∀ a, spaceOf a = 10 → loopFrom n 0x44 a := fun _ => .inr
  have hinteg : c.Writes (loopFrom n 0x44) (c.putInteg n res.integ) :=
    ((Writes.refl _ c).put _ (loopFrom_at (by decide))).put _ (loopFrom_at (by decide))
  have hsect := putSections_writes n 0 res.sect (by omega) hinteg
  have hflags := (hsect.setWord (a := loopAt n + 0x0070) (BitVec.ofNat 32 (word ||| flags)) (.inl (by omega))).put (f := Loop.flags_now) flags
    (loopFrom_at (by decide))
  have hfresh := Writes.ite (b := (fresh != 0) = true) (fun _ => hflags.record 57 (n / 32) 1 n [] [fresh] hrec) (fun _ => hflags)
  have husable := unusable_writes (unusable_writes hfresh hrec n 1 h.pvBad res.pvBad) hrec n 2 h.spBad res.spBad
  exact .ite (fun _ => husable.record _ _ _ _ _ _ hrec) (fun _ => husable)

/-- Words that a commit writes: the loop's state, its words of results, and the recorder's. -/
def loopRun (n a : Nat) : Prop := a = loopAt n ∨ loopFrom n 0x40 a

theorem loopRun_of {n lo a : Nat} (hlo : 0x40 ≤ lo) (h : loopFrom n lo a) : loopRun n a := by
  simp only [loopRun, loopFrom] at h ⊢
  omega

theorem setLoopState_writes (c : Chip) (n new : Nat) : c.Writes (loopRun n) (c.setLoopState n new) :=
  .ite (fun _ => .refl _ c) (fun _ => ((Writes.refl _ c).put _ (.inl (by simp [Field.at, Loop.state, Field.one]))).record _ _ _ _ _ _ (fun _ h => .inr (.inr h)))

/-! ### What the output and the slice's next computation leave -/

theorem kick_leaves (c : Chip) (r : Nat) :
    c.WordsBut driveWord (c.kick r) ∧ (c.kick r).loops = c.loops := by
  have hmarks : ∀ (ws : List Nat) (d : Chip), d.WordsBut driveWord (d.each ws (fun c w => c.when (srcKind w == 1) (·.markSpan (srcRef w)))) ∧
      (d.each ws (fun c w => c.when (srcKind w == 1) (·.markSpan (srcRef w)))).loops = d.loops := fun ws d =>
    ⟨each_rel (WordsBut.refl driveWord) (fun _ _ _ => .trans) ws
      (fun c w _ => (ChanMoves.when (c := c) (b := srcKind w == 1) (f := (·.markSpan (srcRef w))) (markSpan_moves c (srcRef w))).drives (by decide)) d,
      (d.marks_keep ws).1⟩
  unfold kick
  simp only []
  split
  · exact ⟨.refl _ c, rfl⟩
  · split
    · exact ⟨.refl _ c, rfl⟩
    · exact ⟨(hmarks _ c).1.trans (.of_regs rfl), (hmarks _ c).2⟩

theorem loopDrive_leaves (c : Chip) (n : Nat) (out : Int) :
    c.WordsBut driveWord (c.loopDrive n out) ∧ (c.loopDrive n out).sys = c.sys := by
  unfold loopDrive
  simp only []
  split
  · split
    · exact ⟨.refl _ c, rfl⟩
    · have h : ∀ k, c.ChanMoves _ _ (((c.markSpan (srcRef (c.get (loopAt n) Loop.out_dst))).setChan _ k).resolve _) := fun k =>
        (((markSpan_moves c (srcRef (c.get (loopAt n) Loop.out_dst))).mono (vs := flagOffs ++ driveOffs) (by decide)).trans
          (.setChan _ _ _ k)).trans ((resolve_moves _ _).mono (by decide))
      exact ⟨(h _).drives (by decide), (h _).sys⟩
  · split
    · have h := (AxMoves.refl (srcRef (c.get (loopAt n) Loop.out_dst)) c).speedDemand out
      obtain ⟨rg, ax, rc, hf⟩ := h.frame
      exact ⟨h.drives, by rw [hf]⟩
    · exact ⟨.refl _ c, rfl⟩

/-- A loop whose output stays in its own words drives nothing. -/
theorem loopDrive_none {c : Chip} {n : Nat} (h : srcKind (c.get (loopAt n) Loop.out_dst) = 0) (out : Int) : c.loopDrive n out = c := by
  unfold loopDrive
  simp [h]

theorem loopKeep_words {P : Nat → Prop} {c : Chip} {n : Nat} (hp : ∀ a, loopFrom n 0x66 a → P a) (res : LoopRes) (pend coef : List Nat)
    (samples most time : Nat) : c.WordsBut P (c.loopKeep n res pend coef samples most time) := by
  have hat : ∀ f : Field, f.first < 256 → 0x66 ≤ f.first → P (f.at (loopAt n) 0) := fun f h k => hp _ (loopFrom_at (by omega))
  exact (((((WordsBut.of_regs rfl).trans (.put _ _ (hat _ (by decide) (by decide)))).trans (.put _ _ (hat _ (by decide) (by decide)))).trans
    (.put _ _ (hat _ (by decide) (by decide)))).trans (.put _ _ (hat _ (by decide) (by decide)))).trans
    (.put _ _ (hat _ (by decide) (by decide)))

/-- A commit writes its loop's state, its loop's results and the recorder's words. -/
theorem loopBody_words (c : Chip) {res : LoopRes} (hres : res.sect.length = 8) (time : Nat) :
    c.WordsBut (loopRun res.loop) (c.loopBody res time) := by
  have hat : ∀ f : Field, 0x40 ≤ f.first ∧ f.first < 0x44 → loopRun res.loop (f.at (loopAt res.loop) 0) := fun f hf =>
    loopRun_of (Nat.le_refl _) (loopFrom_at (by omega))
  have hshow : ∀ d : Chip, d.WordsBut (loopRun res.loop) (d.loopShow res.loop res) := fun d =>
    (((WordsBut.put d _ (hat _ (by decide))).trans (.put _ _ (hat _ (by decide)))).trans (.put _ _ (hat _ (by decide)))).trans
      (.put _ _ (hat _ (by decide)))
  have hmarks := (((c.setLoopState res.loop res.state).loopShow res.loop res).loopMarks_writes res.loop hres (c.loop res.loop)
    (c.nat (loopAt res.loop + 0x0070)) (c.loopFlags res) ((c.loopFlags res &&& 0x8F) &&& (0xFFFFFFFF ^^^ c.nat (loopAt res.loop + 0x0070)))
    (c.get (loopAt res.loop) Loop.out_lo) (c.get (loopAt res.loop) Loop.out_hi)).words
  exact (((c.setLoopState_writes _ _).words.trans (hshow _)).trans (hmarks.mono (fun _ => loopRun_of (by decide)))).trans
    (loopKeep_words (fun _ => loopRun_of (by decide)) _ _ _ _ _ _)

theorem loopBody_stores (c : Chip) {res : LoopRes} (hres : res.sect.length = 8) (time : Nat) :
    (c.loopBody res time).sys = c.sys ∧ (c.loopBody res time).slices = c.slices ∧ (c.loopBody res time).loops =
      (c.setLoop res.loop (fun h => { h with
        job := none, missed := false, pend := c.loopPend res, coef := c.loopCoef res, man := res.man, nsec := res.nsec, pvBad := res.pvBad
        spBad := res.spBad, limMm := res.limMm, resetAsk := h.resetAsk && !res.cleared })).loops := by
  have hstate := c.setLoopState_writes res.loop res.state
  have hmarks := ((c.setLoopState res.loop res.state).loopShow res.loop res).loopMarks_writes res.loop hres (c.loop res.loop)
    (c.nat (loopAt res.loop + 0x0070)) (c.loopFlags res) ((c.loopFlags res &&& 0x8F) &&& (0xFFFFFFFF ^^^ c.nat (loopAt res.loop + 0x0070)))
    (c.get (loopAt res.loop) Loop.out_lo) (c.get (loopAt res.loop) Loop.out_hi)
  exact ⟨hmarks.sys.trans hstate.sys, hmarks.slices.trans hstate.slices, congrArg (upd · res.loop _) (hmarks.loops.trans hstate.loops)⟩

/-- What the words of a loop show after its commit. -/
theorem loopBody_get (c : Chip) {res : LoopRes} (hres : res.sect.length = 8) (hn : res.loop < 256) {time : Nat} (ht : time < 2 ^ 16) :
    (c.loopBody res time).get (loopAt res.loop) Loop.pv = unsigned 32 res.pv ∧
    (c.loopBody res time).get (loopAt res.loop) Loop.sp_now = unsigned 32 res.sp ∧
    (c.loopBody res time).get (loopAt res.loop) Loop.err = unsigned 32 res.err ∧
    (c.loopBody res time).get (loopAt res.loop) Loop.out = unsigned 32 res.out ∧
    (c.loopBody res time).get (loopAt res.loop) Loop.sample_tick = res.instant % 2 ^ 32 ∧
    (c.loopBody res time).get (loopAt res.loop) Loop.samples = (c.get (loopAt res.loop) Loop.samples + 1) % 2 ^ 32 ∧
    (c.loopBody res time).get (loopAt res.loop) Loop.comp_last = time := by
  have hshow : ∀ f : Field, 0x40 ≤ f.first ∧ f.first < 0x44 →
      (c.loopBody res time).get (loopAt res.loop) f = ((c.setLoopState res.loop res.state).loopShow res.loop res).get (loopAt res.loop) f := by
    intro f hf
    have hnot : ¬ loopFrom res.loop 0x44 (f.at (loopAt res.loop) 0) := by
      have hs : spaceOf (f.at (loopAt res.loop) 0) ≠ 10 := by
        rw [loopAt, Field.space_at f (by omega) (by omega)]
        omega
      simp only [loopFrom, Field.at] at hs ⊢
      omega
    refine WordsBut.get (((loopMarks_writes _ _ hres _ _ _ _ _ _).words).trans (loopKeep_words (fun a ha => ?_) _ _ _ _ _ _)) hnot
    simp only [loopFrom] at ha ⊢
    omega
  have hlt : ∀ v : Int, unsigned 32 v < 2 ^ 32 := unsigned_lt 32
  refine ⟨?_, ?_, ?_, ?_, ?_, ?_, ?_⟩
  · rw [hshow _ (by decide), loopShow]
    simp (disch := decide) only [get_put_clear]
    exact get_put_of_lt _ _ (by decide) (hlt _)
  · rw [hshow _ (by decide), loopShow]
    simp (disch := decide) only [get_put_clear]
    exact get_put_of_lt _ _ (by decide) (hlt _)
  · rw [hshow _ (by decide), loopShow]
    simp (disch := decide) only [get_put_clear]
    exact get_put_of_lt _ _ (by decide) (hlt _)
  · rw [hshow _ (by decide), loopShow]
    exact get_put_of_lt _ _ (by decide) (hlt _)
  all_goals
    rw [loopBody, loopKeep]
    simp (disch := decide) only [get_put_clear]
  · exact get_put_of_lt _ _ (by decide) (Nat.mod_lt _ (by decide))
  · exact get_put_of_lt _ _ (by decide) (Nat.mod_lt _ (by decide))
  · exact get_put_of_lt _ _ (by decide) ht

end Chip

/-! ### The command of a commit -/

/-- The chip as a slice gives its computation back. -/
def Chip.freed (c : Chip) (r time : Nat) : Chip :=
  c.setSlice r (fun s => { s with running := none, busy := s.busy + (time - s.counted), counted := 0 })

/-- A commit where nothing is mirrored. -/
theorem loopComputationCommit_to {n : Fin 256} {s : State} {res : LoopRes} (time : BitVec 16)
    (hrun : (s.chip.slice (n / 32)).running = some res) (hn : res.loop = n.val) (hsect : res.sect.length = 8) (hmir : s.chip.mirrors = false) :
    exec (.loopComputationCommit n time) s = .next { s with chip :=
      ((((s.chip.freed (n / 32) time.toNat).loopBody res time.toNat).loopDrive n res.out).kick (n / 32)) } := by
  obtain ⟨hsys, -, -⟩ := (s.chip.freed (n / 32) time.toNat).loopBody_stores hsect time.toNat
  have hbody : ((s.chip.freed (n / 32) time.toNat).loopBody res time.toNat).mirrors = s.chip.mirrors :=
    Chip.mirrors_congr ((Chip.WordsBut.of_regs rfl : s.chip.WordsBut (Chip.loopRun res.loop) (s.chip.freed (n / 32) time.toNat)).trans
      (Chip.loopBody_words _ hsect _)) hsys (fun f hf => by
        have hs : spaceOf (f.at pairAt 0) = 9 := by
          rw [show pairAt = blockAddr 9 0 from rfl, Field.space_at f (by omega) (by omega)]
        have hb : res.loop / 32 < 8 := by omega
        simp only [Chip.loopRun, Chip.loopFrom, loopAt, blockAddr, hs]
        simp only [spaceOf] at hs
        omega)
  obtain ⟨hwords, hsysd⟩ := ((s.chip.freed (n / 32) time.toNat).loopBody res time.toNat).loopDrive_leaves n.val res.out
  have hdrive : (((s.chip.freed (n / 32) time.toNat).loopBody res time.toNat).loopDrive n res.out).mirrors = false := by
    rw [Chip.mirrors_congr hwords hsysd (fun f hf => not_driveWord_pair hf), hbody, hmir]
  refine chipOnly_to s ?_
  simp only [hrun]
  rw [if_neg (by simp [hn])]
  have hcommit : (s.chip.freed (n / 32) time.toNat).loopCommit res time.toNat =
      ((s.chip.freed (n / 32) time.toNat).loopBody res time.toNat).loopDrive n res.out := by
    rw [Chip.loopCommit_eq, hn]
  rw [show (s.chip.setSlice _ _) = s.chip.freed (n / 32) time.toNat from rfl, hcommit, hdrive, if_neg (by decide)]

/-- The values stand in the loop's words, wherever its output went (R288). -/
theorem commit_shows (n : Fin 256) (s : State) (res : LoopRes) (time : BitVec 16) (hrun : (s.chip.slice (n / 32)).running = some res)
    (hn : res.loop = n.val) (hsect : res.sect.length = 8) (hmir : s.chip.mirrors = false) :
    ∃ t, exec (.loopComputationCommit n time) s = .next t ∧
      t.chip.get (loopAt n) Loop.pv = unsigned 32 res.pv ∧ t.chip.get (loopAt n) Loop.sp_now = unsigned 32 res.sp ∧
      t.chip.get (loopAt n) Loop.err = unsigned 32 res.err ∧ t.chip.get (loopAt n) Loop.out = unsigned 32 res.out ∧
      t.chip.get (loopAt n) Loop.sample_tick = res.instant % 2 ^ 32 ∧ StoresKept s t := by
  obtain ⟨hpv, hsp, herr, hout, htick, -, -⟩ :=
    (s.chip.freed (n / 32) time.toNat).loopBody_get hsect (by omega : res.loop < 256) time.isLt
  rw [hn] at hpv hsp herr hout htick
  have hkeep := (Chip.loopDrive_leaves ((s.chip.freed (n / 32) time.toNat).loopBody res time.toNat) n.val res.out).1.trans
    (Chip.kick_leaves _ (n.val / 32)).1
  have hget : ∀ f : Field, f.first < 65536 → _ := fun f hf => hkeep.get (not_driveWord_loop n.isLt hf)
  exact ⟨_, loopComputationCommit_to time hrun hn hsect hmir, (hget _ (by decide)).trans hpv, (hget _ (by decide)).trans hsp,
    (hget _ (by decide)).trans herr, (hget _ (by decide)).trans hout, (hget _ (by decide)).trans htick, .chip s _⟩

/-- A loop whose output stays in its own words writes nothing beyond them. -/
theorem commit_stays (n : Fin 256) (s : State) (hs : Shaped s) (res : LoopRes) (time : BitVec 16)
    (hrun : (s.chip.slice (n / 32)).running = some res) (hn : res.loop = n.val) (hsect : res.sect.length = 8)
    (hown : srcKind (s.chip.get (loopAt n) Loop.out_dst) = 0) (hmir : s.chip.mirrors = false)
    (hjobs : ∀ k, k ≠ n.val → (s.chip.loop k).job = none) :
    ∃ t, exec (.loopComputationCommit n time) s = .next t ∧ (t.chip.slice (n / 32)).running = none ∧
      (t.chip.loop n).job = none ∧ (t.chip.loop n).missed = false ∧ (t.chip.loop n).man = res.man ∧
      t.chip.get (loopAt n) Loop.pv = unsigned 32 res.pv ∧ t.chip.get (loopAt n) Loop.sp_now = unsigned 32 res.sp ∧
      t.chip.get (loopAt n) Loop.err = unsigned 32 res.err ∧ t.chip.get (loopAt n) Loop.out = unsigned 32 res.out ∧
      t.chip.get (loopAt n) Loop.sample_tick = res.instant % 2 ^ 32 ∧
      t.chip.get (loopAt n) Loop.samples = (s.chip.get (loopAt n) Loop.samples + 1) % 2 ^ 32 ∧
      t.chip.get (loopAt n) Loop.comp_last = time.toNat ∧ StoresKept s t ∧
      WordsKept (fun a => (loopAt n ≤ a ∧ a < loopAt n + 256) ∨ recorderWord a) s t ∧
      ∀ k, k ≠ n.val → t.chip.loop k = s.chip.loop k := by
  have hwords := (s.chip.freed (n / 32) time.toNat).loopBody_words hsect time.toNat
  obtain ⟨-, hslices, hloops⟩ := (s.chip.freed (n / 32) time.toNat).loopBody_stores hsect time.toNat
  obtain ⟨hpv, hsp, herr, hout, htick, hcount, hlast⟩ :=
    (s.chip.freed (n / 32) time.toNat).loopBody_get hsect (by omega : res.loop < 256) time.isLt
  rw [hn] at hpv hsp herr hout htick hcount hlast hloops hwords
  have hlen : (s.chip.freed (n / 32) time.toNat).loops.length = 256 := hs.loops
  have hloop : ∀ k, ((s.chip.freed (n / 32) time.toNat).loopBody res time.toNat).loop k = _ := fun k => Chip.loop_congr hloops k
  have hnone : ∀ k, (((s.chip.freed (n / 32) time.toNat).loopBody res time.toNat).loop k).job = none := fun k => by
    by_cases hk : k = n.val
    · rw [hk, hloop, Chip.loop_setLoop _ _ hlen n.isLt]
    · rw [hloop, Chip.loop_setLoop_other _ _ hk]
      exact hjobs k hk
  have hdst : srcKind (((s.chip.freed (n / 32) time.toNat).loopBody res time.toNat).get (loopAt n) Loop.out_dst) = 0 := by
    rw [hwords.get (by
      have hspace : spaceOf (Loop.out_dst.at (loopAt n) 0) ≠ 10 := by
        rw [loopAt, Field.space_at _ (by omega) (by decide)]
        omega
      simp only [Chip.loopRun, Chip.loopFrom, Field.at_eq, Loop.out_dst, Field.one] at hspace ⊢
      omega)]
    exact hown
  have hstep := loopComputationCommit_to time hrun hn hsect hmir
  rw [Chip.loopDrive_none hdst, Chip.kick_idle (Chip.headOf_none (fun k _ => hnone _))] at hstep
  refine ⟨_, hstep, ?_, ?_, ?_, ?_, hpv, hsp, herr, hout, htick, hcount, hlast, .chip s _, ?_, fun k hk => ?_⟩
  · rw [Chip.slice_congr hslices]
    simp [Chip.freed, hs.slices, show n.val / 32 < 8 by omega]
  · exact hnone _
  · rw [hloop, Chip.loop_setLoop _ _ hlen n.isLt]
  · rw [hloop, Chip.loop_setLoop _ _ hlen n.isLt]
  · refine Chip.WordsBut.kept (((Chip.WordsBut.of_regs rfl).trans hwords).mono (fun a ha => ?_))
    simp only [Chip.loopRun, Chip.loopFrom, recorderWord] at ha ⊢
    omega
  · rw [hloop, Chip.loop_setLoop_other _ _ hk]
    rfl

/-! ### The commands and the window -/

theorem resetStates_to {n : Fin 256} {s : State} (hopen : s.chip.opens (n / 32) = true) :
    exec (.resetStates n) s = .next { s with chip :=
      (s.chip.setLoop n (fun h => { h with resetAsk := true })).put (loopAt n) Loop.result 2 } :=
  chipOnly_to s (if_neg (by simp [hopen]))

theorem loopClearStats_to {n : Fin 256} {s : State} (hopen : s.chip.opens (n / 32) = true) :
    exec (.loopClearStats n) s = .next { s with chip :=
      ((s.chip.put (loopAt n) Loop.comp_max 0).put (loopAt n) Loop.missed 0).put (loopAt n) Loop.result 2 } :=
  chipOnly_to s (if_neg (by simp [hopen]))

theorem clearSlice_to {r : Fin 8} {s : State} (hopen : s.chip.opens r = true) :
    exec (.clearSlice r) s = .next { s with chip :=
      (s.chip.put (regionAt r) LSlice.load_max 0).put (regionAt r) LSlice.misses_total 0 } :=
  chipOnly_to s (if_neg (by simp [hopen]))

/-- Slice `r` at the end of a window of `span` microseconds (R303). -/
def Chip.windowEnded (c : Chip) (r load most span : Nat) : Chip :=
  ((c.put (regionAt r) LSlice.load_last load).put (regionAt r) LSlice.load_max most).setSlice r
    (fun s => { s with busy := 0, windowAt := s.windowAt + span })

theorem Chip.slice_windowEnded (c : Chip) {r : Nat} (load most span : Nat) (hc : c.slices.length = 8) (hr : r < 8) :
    (c.windowEnded r load most span).slice r = { c.slice r with busy := 0, windowAt := (c.slice r).windowAt + span } :=
  Chip.slice_setSlice _ _ hc hr

theorem Chip.windowEnded_get (c : Chip) (r span : Nat) {load most : Nat} (hload : load < 2 ^ 16) (hmost : most < 2 ^ 16) :
    (c.windowEnded r load most span).get (regionAt r) LSlice.load_last = load ∧
      (c.windowEnded r load most span).get (regionAt r) LSlice.load_max = most := by
  rw [Chip.windowEnded, Chip.setSlice_get, Chip.setSlice_get, Chip.get_put_clear _ _ _ (by decide)]
  exact ⟨Chip.get_put_of_lt _ _ (by decide) hload, Chip.get_put_of_lt _ _ (by decide) hmost⟩

/-- A window ends on an idle slice. -/
theorem sliceLoadWindow_to {r : Fin 8} {s : State} (hstop : (s.chip.slice r).stopped = false)
    (hdue : (s.chip.slice r).windowAt + 100000 ≤ s.chip.now) (hidle : (s.chip.slice r).running = none) :
    exec (.sliceLoadWindow r) s = .next { s with chip :=
      (s.chip.windowEnded r (min ((s.chip.slice r).busy / 1000) 0xFFFF)
        (max (min ((s.chip.slice r).busy / 1000) 0xFFFF) (s.chip.get (regionAt r) LSlice.load_max)) 100000) } := by
  refine chipOnly_to s ?_
  simp only [hidle, Nat.add_zero]
  rw [if_neg (by simp [hstop, Nat.not_lt.2 hdue]), Chip.windowEnded]

/-- Settles O20: what the commit of a loop computation writes, and the commands of a loop and of its slice. -/
theorem loopResults : Obligations.LoopResults := by
  intro n s hs
  refine ⟨fun res time hrun hn hsect hown hmir hjobs => commit_stays n s hs res time hrun hn hsect hown hmir hjobs,
    fun res time hrun hn hsect hmir => commit_shows n s res time hrun hn hsect hmir, ?_, ?_, ?_, ?_, ?_, ?_⟩
  · intro hopen
    exact ⟨chipOnly_to s (if_pos (by simp [hopen])), chipOnly_to s (if_pos (by simp [hopen]))⟩
  · intro hopen
    have hlen : s.chip.loops.length = 256 := hs.loops
    exact ⟨_, resetStates_to hopen, by simp [Chip.loop_congr (Chip.put_loops _ _ _ _), hlen], Chip.get_put_of_lt _ _ (by decide) (by decide), rfl,
      Chip.WordsBut.kept ((Chip.WordsBut.of_regs rfl).trans (.put _ _ rfl)), fun k hk => Chip.loop_setLoop_other _ _ hk⟩
  · intro hopen
    refine ⟨_, loopClearStats_to hopen, ?_, ?_, Chip.get_put_of_lt _ _ (by decide) (by decide), ?_, rfl⟩ <;>
      simp (disch := decide) only [Chip.get_put_clear]
    · exact Chip.get_put_of_lt _ _ (by decide) (by decide)
    · exact Chip.get_put_of_lt _ _ (by decide) (by decide)
  · intro r hopen
    exact chipOnly_to s (if_pos (by simp [hopen]))
  · intro r hopen
    refine ⟨_, clearSlice_to hopen, ?_, Chip.get_put_of_lt _ _ (by decide) (by decide), ?_, rfl⟩ <;>
      simp (disch := decide) only [Chip.get_put_clear]
    exact Chip.get_put_of_lt _ _ (by decide) (by decide)
  · intro r hstop hdue hidle
    have hlen : s.chip.slices.length = 8 := hs.slices
    have hmax : s.chip.get (regionAt r) LSlice.load_max < 2 ^ 16 := Chip.get_lt _ _ _
    have hload : min ((s.chip.slice r).busy / 1000) 0xFFFF < 2 ^ 16 := Nat.lt_of_le_of_lt (Nat.min_le_right _ _) (by decide)
    obtain ⟨hlast, hmost⟩ := s.chip.windowEnded_get r 100000 hload (Nat.max_lt.2 ⟨hload, hmax⟩)
    have hslice := s.chip.slice_windowEnded (min ((s.chip.slice r).busy / 1000) 0xFFFF)
      (max (min ((s.chip.slice r).busy / 1000) 0xFFFF) (s.chip.get (regionAt r) LSlice.load_max)) 100000 hlen r.isLt
    exact ⟨_, sliceLoadWindow_to hstop hdue hidle, hlast, hmost, by rw [hslice], by rw [hslice], rfl,
      fun q hq => Chip.slice_setSlice_other _ _ hq⟩

end Sys2Proof.Machine
end

section
/-! SUPPORT. O22: driver faults, the commands of an axis and the Z edge. -/

namespace Sys2Proof.Machine

/-! ### Driver faults (R327) -/

/-- The cause of a driver fault taken down: its flag, its record and the fault it latches. -/
def Chip.faultTaken (c : Chip) (x : Nat) (phaseB : Bool) (cause : Nat) : Chip :=
  ((c.xOn x (xDriver (cause + 1))).xRecord 51 x 2 [b2n phaseB, cause + 1] []).setAx x (fun h => { h with
    fault := withBit h.fault (cause + 1) true })

theorem driverFault_to {x : Fin 16} {s : State} {phaseB : Bool} {cause : Fin 3} (hused : s.chip.axUsed x = true)
    (hstage : cause.val = 2 ∨ s.chip.stageOn x = true) (hnew : (s.chip.ax x).fault.testBit (cause.val + 1) = false)
    (hshow : s.chip.driverShows x phaseB cause.val = true) :
    exec (.driverFault x phaseB cause) s = .next { s with chip :=
      (if s.chip.stageOn x then (s.chip.faultTaken x phaseB cause.val).stageLost x 11 else s.chip.faultTaken x phaseB cause.val).axSync x } :=
  chipOnly_to s (if_neg (by
    rcases hstage with h | h
    · rw [h] at hnew hshow
      simp [hused, hnew, hshow, h]
    · simp [hused, hnew, hshow, h]))

namespace Chip

theorem faultTaken_moves (c : Chip) (x : Nat) (phaseB : Bool) (cause : Nat) : c.AxMoves x (c.faultTaken x phaseB cause) :=
  (((AxMoves.refl x c).xOn _).xRecord _ _ _ _).setAx _

theorem faultTaken_ax (c : Chip) {x : Nat} (phaseB : Bool) (cause : Nat) (hc : c.axes.length = 16) (hx : x < 16) :
    (c.faultTaken x phaseB cause).ax x = { c.ax x with fault := withBit (c.ax x).fault (cause + 1) true } := by
  have hlen : ((c.xOn x (xDriver (cause + 1))).xRecord 51 x 2 [b2n phaseB, cause + 1] []).axes.length = 16 :=
    (((AxMoves.refl x c).xOn _).xRecord _ _ _ _).size.trans hc
  rw [faultTaken, ax_setAx _ _ hlen hx, ax_xRecord, ax_xOn]

end Chip

theorem stageOn_iff {c : Chip} {x : Nat} :
    c.stageOn x = true ↔ c.axUsed x = true ∧ (c.ax x).causes = 0 ∧ (c.ax x).fault = 0 := by
  simp [Chip.stageOn, and_assoc]

/-- The fault of an energised stage stops it. -/
theorem driverFault_stops {x : Fin 16} {s : State} (hs : Shaped s) {phaseB : Bool} {cause : Fin 3} (hon : s.chip.stageOn x = true)
    (hshow : s.chip.driverShows x phaseB cause.val = true) :
    ∃ t, exec (.driverFault x phaseB cause) s = .next t ∧ (t.chip.ax x).fault = 2 ^ (cause.val + 1) ∧ (t.chip.ax x).v = 0 ∧
      (t.chip.ax x).act = none ∧ t.chip.stageOn x = false ∧ StoresKept s t ∧ ∀ y, y ≠ x.val → t.chip.ax y = s.chip.ax y := by
  obtain ⟨hused, -, hfault⟩ := stageOn_iff.1 hon
  have hstep := driverFault_to hused (.inr hon) (by rw [hfault]; exact Nat.zero_testBit _) hshow
  rw [if_pos hon] at hstep
  have hm := s.chip.faultTaken_moves x phaseB cause.val
  have hlen : (s.chip.faultTaken x phaseB cause.val).axes.length = 16 := hm.size.trans hs.axes
  obtain ⟨hv, hact, hkeep, -⟩ := (s.chip.faultTaken x phaseB cause.val).stageLost_ax 11 hlen x.isLt
  have hsync := Chip.axSync_same _ ((hm.stageLost 11).size.trans hs.axes) x.isLt
  have hbit : withBit (s.chip.ax x).fault (cause.val + 1) true = 2 ^ (cause.val + 1) := by simp [withBit, hfault]
  rw [s.chip.faultTaken_ax phaseB cause.val hs.axes x.isLt, hbit] at hkeep
  have hnow : ((((s.chip.faultTaken x phaseB cause.val).stageLost x 11).axSync x).ax x).fault = 2 ^ (cause.val + 1) := hsync.fault.trans hkeep
  exact ⟨_, hstep, hnow, hsync.v.trans hv, hsync.act.trans hact,
    Chip.stageOn_of_fault (by rw [hnow]; exact (Nat.two_pow_pos _).ne'), .chip s _, ((hm.stageLost 11).axSync).others⟩

/-- A bridge found too hot while the stage is off joins what is latched. -/
theorem driverFault_joins {x : Fin 16} {s : State} (hs : Shaped s) {phaseB : Bool} (hused : s.chip.axUsed x = true)
    (hoff : s.chip.stageOn x = false) (hshow : s.chip.driverShows x phaseB 2 = true) (hnew : (s.chip.ax x).fault.testBit 3 = false) :
    ∃ t, exec (.driverFault x phaseB 2) s = .next t ∧ (t.chip.ax x).fault = (s.chip.ax x).fault + 8 ∧
      (t.chip.ax x).v = (s.chip.ax x).v ∧ (t.chip.ax x).act = (s.chip.ax x).act ∧ StoresKept s t ∧
      ∀ y, y ≠ x.val → t.chip.ax y = s.chip.ax y := by
  have hstep := driverFault_to (cause := 2) hused (.inl rfl) hnew hshow
  rw [if_neg (by simp [hoff])] at hstep
  have hm := s.chip.faultTaken_moves x phaseB 2
  have hsync := Chip.axSync_same _ (hm.size.trans hs.axes) x.isLt
  have hax := s.chip.faultTaken_ax phaseB 2 hs.axes x.isLt
  have hbit : withBit (s.chip.ax x).fault (2 + 1) true = (s.chip.ax x).fault + 8 := by simp [withBit, hnew]
  exact ⟨_, hstep, hsync.fault.trans ((congrArg AxSt.fault hax).trans hbit), hsync.v.trans (by rw [hax]),
    hsync.act.trans (by rw [hax]), .chip s _, hm.axSync.others⟩

/-! ### The commands of an axis (R335) -/

theorem faults_nil_of_fault {h : AxSt} (hf : h.fault = 0) : h.faults = [] := by
  simp [AxSt.faults, hf]

theorem Chip.clearDriver_refused {c : Chip} {x : Nat} {cause : Nat} (hc : cause ∈ (c.ax x).faults) (hs : c.driverClear x cause = false) :
    c.clearDriver x = c ∧ (c.ax x).fault ≠ 0 := by
  have hall : (c.ax x).faults.all (c.driverClear x) = false :=
    List.all_eq_false.2 ⟨cause, hc, by simp [hs]⟩
  refine ⟨if_pos (by simp [hall]), fun h0 => ?_⟩
  rw [faults_nil_of_fault h0] at hc
  exact absurd hc (List.not_mem_nil)

/-- A cleared driver has no fault. -/
theorem Chip.clearDriver_fault {c : Chip} {x : Nat} (hc : c.axes.length = 16) (hx : x < 16) (hf : (c.ax x).fault = 0 ∨ (c.ax x).faults ≠ [])
    (hall : ∀ cause ∈ (c.ax x).faults, c.driverClear x cause = true) : ((c.clearDriver x).ax x).fault = 0 := by
  by_cases hnil : (c.ax x).faults = []
  · rw [show c.clearDriver x = c from if_pos (by simp [hnil])]
    exact hf.resolve_right (fun h => h hnil)
  · have hclear : (c.ax x).faults.all (c.driverClear x) = true := List.all_eq_true.2 hall
    have hne : (c.ax x).faults.isEmpty = false := by simpa using hnil
    unfold clearDriver
    simp only []
    rw [if_neg (by simp [hclear, hne])]
    have hoffs : ∀ (l : List Nat) (d : Chip), (d.each l (fun c f => c.xOff x (xDriver f))).axes = d.axes := fun l d =>
      each_rel (R := fun c d => d.axes = c.axes) (fun _ => rfl) (fun _ _ _ a b => b.trans a) (f := fun c f => c.xOff x (xDriver f)) l
        (fun _ _ _ => rfl) d
    have hlen : ((c.setAx x (fun h => { h with fault := 0 })).each (c.ax x).faults (fun c f => c.xOff x (xDriver f))).axes.length = 16 := by
      rw [hoffs, setAx_axes_length, hc]
    have hzero : (((c.setAx x (fun h => { h with fault := 0 })).each (c.ax x).faults (fun c f => c.xOff x (xDriver f))).ax x).fault = 0 := by
      rw [ax_congr (hoffs _ _), ax_setAx _ _ hc hx]
    split
    · rw [(axSync_same _ ((AxMoves.refl x _).stageBack.size.trans hlen) hx).fault]
      unfold stageBack
      rw [(quietTake_same _ ((setAx_axes_length _ _ _).trans hlen) hx).fault, ax_setAx _ _ hlen hx]
      exact hzero
    · rw [(axSync_same _ hlen hx).fault]
      exact hzero

theorem clearFault_to {x : Fin 16} {s : State} (hopen : s.chip.opens (x / 2) = true) (hsh : s.chip.shadow = false) :
    exec (.clearFault x) s = .next { s with chip :=
      ((s.chip.clearDriver x).put (axisAt x) Axis.result (if ((s.chip.clearDriver x).ax x).fault = 0 then 2 else 3)) } :=
  chipOnly_to s ((if_neg (by simp [hopen])).trans (if_neg (by simp [hsh])))

theorem clearFault_refused {x : Fin 16} {s : State} (hopen : s.chip.opens (x / 2) = true)
    (h : s.chip.shadow = true ∨ (∃ cause ∈ (s.chip.ax x).faults, s.chip.driverClear x cause = false)) :
    exec (.clearFault x) s = .next { s with chip := s.chip.put (axisAt x) Axis.result 3 } := by
  by_cases hsh : s.chip.shadow = true
  · exact chipOnly_to s ((if_neg (by simp [hopen])).trans (if_pos hsh))
  · obtain ⟨cause, hc, hstands⟩ := h.resolve_left hsh
    obtain ⟨hsame, hne⟩ := Chip.clearDriver_refused hc hstands
    rw [clearFault_to hopen (by simpa using hsh), hsame, if_neg hne]

theorem axisClearStats_to {x : Fin 16} {s : State} (hopen : s.chip.opens (x / 2) = true) :
    exec (.axisClearStats x) s = .next { s with chip :=
      ((((s.chip.setAx x (fun h => { h with trip := 0 })).put (axisAt x) Axis.moves 0).put (axisAt x) Axis.travel 0).put (axisAt x)
        Axis.result 2) } :=
  chipOnly_to s (if_neg (by simp [hopen]))

/-- clear_stats ends the statistics alone. -/
theorem axisClearStats_ends {x : Fin 16} {s : State} (hs : Shaped s) (hopen : s.chip.opens (x / 2) = true) :
    ∃ t, exec (.axisClearStats x) s = .next t ∧ t.chip.get (axisAt x) Axis.moves = 0 ∧ t.chip.get (axisAt x) Axis.travel = 0 ∧
      t.chip.get (axisAt x) Axis.result = 2 ∧ (t.chip.ax x).trip = 0 ∧ (t.chip.ax x).p = (s.chip.ax x).p ∧
      t = { s with chip := { s.chip with regs := t.chip.regs, axes := t.chip.axes } } ∧ ∀ y, y ≠ x.val → t.chip.ax y = s.chip.ax y := by
  have hax : ∀ y, ((((s.chip.setAx x (fun h => { h with trip := 0 })).put (axisAt x) Axis.moves 0).put (axisAt x) Axis.travel 0).put (axisAt x)
      Axis.result 2).ax y = (s.chip.setAx x (fun h => { h with trip := 0 })).ax y := fun y => by simp only [Chip.ax_put]
  refine ⟨_, axisClearStats_to hopen, ?_, ?_, Chip.get_put_of_lt _ _ (by decide) (by decide), ?_, ?_, (((((Chip.RegsAxes.refl s.chip).setAx _ _).put _ _ _).put _ _ _).put _ _ _).state, fun y hy => ?_⟩
  · simp (disch := decide) only [Chip.get_put_clear]
    exact Chip.get_put_of_lt _ _ (by decide) (by decide)
  · simp (disch := decide) only [Chip.get_put_clear]
    exact Chip.get_put_of_lt _ _ (by decide) (by decide)
  · rw [hax, Chip.ax_setAx _ _ hs.axes x.isLt]
  · rw [hax, Chip.ax_setAx _ _ hs.axes x.isLt]
  · rw [hax, Chip.ax_setAx_other _ _ hy]

/-- clear_fault ends the fault where every cause has gone. -/
theorem clearFault_ends {x : Fin 16} {s : State} (hs : Shaped s) (hopen : s.chip.opens (x / 2) = true) (hsh : s.chip.shadow = false)
    (hf : (s.chip.ax x).fault = 0 ∨ (s.chip.ax x).faults ≠ []) (hall : ∀ cause ∈ (s.chip.ax x).faults, s.chip.driverClear x cause = true) :
    ∃ t, exec (.clearFault x) s = .next t ∧ t.chip.get (axisAt x) Axis.result = 2 ∧ (t.chip.ax x).fault = 0 ∧ StoresKept s t ∧
      ∀ y, y ≠ x.val → t.chip.ax y = s.chip.ax y := by
  have hzero := Chip.clearDriver_fault hs.axes x.isLt hf hall
  have hstep := clearFault_to hopen hsh
  rw [if_pos hzero] at hstep
  refine ⟨_, hstep, Chip.get_put_of_lt _ _ (by decide) (by decide), ?_, .chip s _, fun y hy => ?_⟩
  · rw [Chip.ax_put]
    exact hzero
  · rw [Chip.ax_put]
    exact (Chip.AxMoves.refl x.val s.chip).clearDriver.others y hy

theorem encoderZEdge_copies {e : Fin 2} {s : State} (hmode : s.chip.get (regionAt e) Enc.enc_mode ≠ 0) :
    ∃ t, exec (.encoderZEdge e) s = .next t ∧ t.chip.get (regionAt e) Enc.z_count = s.chip.get (regionAt e) Enc.count ∧
      t = { s with chip := { s.chip with regs := t.chip.regs } } ∧ WordsKept (fun a => a = Enc.z_count.at (regionAt e) 0) s t := by
  refine ⟨_, chipOnly_to s (if_neg hmode), ?_, rfl, Chip.WordsBut.kept (.put _ _ rfl)⟩
  exact Chip.get_put_of_lt _ _ (by decide) (Chip.get_lt _ _ _)

/-- Settles O22: driver faults, the commands of an axis, and the Z edge of an encoder. -/
theorem axisFaultsAndCommands : Obligations.AxisFaultsAndCommands := by
  intro x s hs
  refine ⟨fun phaseB cause hon hshow => driverFault_stops hs hon hshow,
    fun phaseB hused hoff hshow hnew => driverFault_joins hs hused hoff hshow hnew, fun hopen => ?_, fun hopen h => ?_,
    fun hopen hsh hf hall => clearFault_ends hs hopen hsh hf hall, fun hopen => axisClearStats_ends hs hopen,
    fun e hmode => encoderZEdge_copies hmode⟩
  · exact ⟨chipOnly_to s (if_pos (by simp [hopen])), chipOnly_to s (if_pos (by simp [hopen]))⟩
  · exact ⟨_, clearFault_refused hopen h, Chip.get_put_of_lt _ _ (by decide) (by decide), rfl, Chip.WordsBut.kept (.put _ _ rfl)⟩

end Sys2Proof.Machine
end

section
/-! SUPPORT. What the operations of an axis leave of the times at which it was updated. -/

namespace Sys2Proof.Machine

/-! ### What leaves the times at which the axes were updated -/

/-- When each axis was last updated, axis by axis. -/
def Chip.gens (c : Chip) : List Nat := c.axes.map (·.genAt)

theorem Chip.gens_congr {c d : Chip} (h : d.axes = c.axes) : d.gens = c.gens := by rw [Chip.gens, h, Chip.gens]

theorem map_upd {α β : Type} {g : α → β} {f : α → α} (h : ∀ a, g (f a) = g a) (l : List α) (i : Nat) : (upd l i f).map g = l.map g := by
  induction l generalizing i with
  | nil => rfl
  | cons a l ih =>
    cases i with
    | zero => simp [upd, h]
    | succ i => simp [upd, ih]

@[simp] theorem Chip.setAx_gens (c : Chip) (x : Nat) {f : AxSt → AxSt} (h : ∀ a, (f a).genAt = a.genAt) : (c.setAx x f).gens = c.gens :=
  map_upd h _ _

@[simp] theorem Chip.setWord_gens (c : Chip) (a : Nat) (v : Word) : (c.setWord a v).gens = c.gens := rfl
@[simp] theorem Chip.putI_gens (c : Chip) (b : Nat) (f : Field) (i v : Nat) : (c.putI b f i v).gens = c.gens := rfl
@[simp] theorem Chip.put_gens (c : Chip) (b : Nat) (f : Field) (v : Nat) : (c.put b f v).gens = c.gens := rfl
@[simp] theorem Chip.record_gens (c : Chip) (source region severity subject : Nat) (bs ws : List Nat) :
    (c.record source region severity subject bs ws).gens = c.gens := Chip.gens_congr (Chip.record_axes c _ _ _ _ _ _)

/-- A change made in turn for the elements of a list leaves the times of the axes where each one does. -/
@[simp] theorem Chip.each_gens {α : Type} {f : Chip → α → Chip} (h : ∀ c x, (f c x).gens = c.gens) (c : Chip) (l : List α) :
    (c.each l f).gens = c.gens := by
  unfold Chip.each
  induction l generalizing c with
  | nil => rfl
  | cons x xs ih => exact (ih (f c x)).trans (h c x)

@[simp] theorem Chip.when_gens {f : Chip → Chip} (h : ∀ c, (f c).gens = c.gens) (c : Chip) (b : Bool) : (c.when b f).gens = c.gens := by
  cases b
  · rfl
  · exact h c

@[simp] theorem Chip.gens_ite {p : Prop} [Decidable p] (c d : Chip) : (if p then c else d).gens = if p then c.gens else d.gens :=
  apply_ite _ _ _ _


@[simp] theorem Chip.bumpByI_gens (c : Chip) (b : Nat) (f : Field) (i k : Nat) : (c.bumpByI b f i k).gens = c.gens := by
  simp [Chip.bumpByI]

@[simp] theorem Chip.bump_gens (c : Chip) (b : Nat) (f : Field) : (c.bump b f).gens = c.gens := by
  simp [Chip.bump]

@[simp] theorem Chip.putS_gens (c : Chip) (b : Nat) (f : Field) (v : Int) : (c.putS b f v).gens = c.gens := by
  simp [Chip.putS]

@[simp] theorem Chip.putBit_gens (c : Chip) (b : Nat) (f : Field) (i : Nat) (v : Bool) : (c.putBit b f i v).gens = c.gens := by
  simp [Chip.putBit]

@[simp] theorem Chip.xOn_gens (c : Chip) (x n : Nat) : (c.xOn x n).gens = c.gens := by
  simp [Chip.xOn]

@[simp] theorem Chip.xOff_gens (c : Chip) (x n : Nat) : (c.xOff x n).gens = c.gens := by
  simp [Chip.xOff]

@[simp] theorem Chip.xSet_gens (c : Chip) (x n : Nat) (b : Bool) : (c.xSet x n b).gens = c.gens := by
  simp [Chip.xSet]

@[simp] theorem Chip.axSync_gens (c0 : Chip) (x : Nat) : (c0.axSync x).gens = c0.gens := by
  simp -implicitDefEqProofs [Chip.axSync]

@[simp] theorem Chip.xRecord_gens (c : Chip) (source x severity : Nat) (bs ws : List Nat) :
    (c.xRecord source x severity bs ws).gens = c.gens := by
  simp [Chip.xRecord]

@[simp] theorem Chip.setRef_gens (c : Chip) (x new : Nat) : (c.setRef x new).gens = c.gens := by
  simp [Chip.setRef]

@[simp] theorem Chip.endAct_gens (c : Chip) (x code : Nat) : (c.endAct x code).gens = c.gens := by
  simp only [Chip.endAct]
  (repeat' split) <;> simp

@[simp] theorem Chip.lossInMotion_gens (c : Chip) (x : Nat) (speed : Int) : (c.lossInMotion x speed).gens = c.gens := by
  simp [Chip.lossInMotion]

@[simp] theorem Chip.takeProfile_gens (c : Chip) (x : Nat) : (c.takeProfile x).gens = c.gens := by
  simp [Chip.takeProfile]

@[simp] theorem Chip.axLook_gens (c : Chip) (x : Nat) : (c.axLook x).gens = c.gens := by
  simp [Chip.axLook]

@[simp] theorem Chip.atRest_gens (c : Chip) (x : Nat) : (c.atRest x).gens = c.gens := by
  simp [Chip.atRest]

@[simp] theorem Chip.setOut_gens (c : Chip) (x : Nat) (target : Int) : (c.setOut x target).gens = c.gens := by
  simp [Chip.setOut]

@[simp] theorem Chip.startRun_gens (c : Chip) (x speed : Nat) (d : Int) : (c.startRun x speed d).gens = c.gens := by
  simp [Chip.startRun]

@[simp] theorem Chip.brake_gens (c : Chip) (x : Nat) (limit : Option (Int × Nat)) : (c.brake x limit).gens = c.gens := by
  simp [Chip.brake]

@[simp] theorem Chip.driveBridges_gens (c : Chip) (x : Nat) : (c.driveBridges x).gens = c.gens := by
  simp [Chip.driveBridges]

@[simp] theorem Chip.quietTake_gens (c : Chip) (x : Nat) : (c.quietTake x).gens = c.gens := by
  simp [Chip.quietTake]

@[simp] theorem Chip.stageLost_gens (c : Chip) (x code : Nat) : (c.stageLost x code).gens = c.gens := by
  simp [Chip.stageLost]

@[simp] theorem Chip.stageBack_gens (c : Chip) (x : Nat) : (c.stageBack x).gens = c.gens := by
  simp [Chip.stageBack]

@[simp] theorem Chip.stageSet_gens (c : Chip) (x causes : Nat) : (c.stageSet x causes).gens = c.gens := by
  simp [Chip.stageSet]

@[simp] theorem Chip.jumpStop_gens (c : Chip) (x : Nat) : (c.jumpStop x).gens = c.gens := by
  simp [Chip.jumpStop]

@[simp] theorem Chip.homeFault_gens (c : Chip) (x code : Nat) : (c.homeFault x code).gens = c.gens := by
  simp [Chip.homeFault]

@[simp] theorem Chip.homeEdge_gens (c : Chip) (x : Nat) (on : Bool) : (c.homeEdge x on).gens = c.gens := by
  simp [Chip.homeEdge]

@[simp] theorem Chip.homeStep_gens (c : Chip) (x k : Nat) : (c.homeStep x k).gens = c.gens := by
  simp [Chip.homeStep]

@[simp] theorem Chip.actDone_gens (c : Chip) (x : Nat) : (c.actDone x).gens = c.gens := by
  simp [Chip.actDone]

@[simp] theorem Chip.homeDone_gens (c : Chip) (x : Nat) : (c.homeDone x).gens = c.gens := by
  simp [Chip.homeDone]

@[simp] theorem Chip.motionEnd_gens (c : Chip) (x : Nat) : (c.motionEnd x).gens = c.gens := by
  simp [Chip.motionEnd]

@[simp] theorem Chip.limitStop_gens (c : Chip) (x n : Nat) : (c.limitStop x n).gens = c.gens := by
  simp [Chip.limitStop]

@[simp] theorem Chip.axSwitches_gens (c : Chip) (x : Nat) : (c.axSwitches x).gens = c.gens := by
  simp [Chip.axSwitches]

@[simp] theorem Chip.moved_gens (c : Chip) (x : Nat) (d u dist : Int) : (c.moved x d u dist).gens = c.gens := by
  simp [Chip.moved]

@[simp] theorem Chip.updGoto_gens (c : Chip) (x : Nat) (t : Int) (dec : Bool) (short : Nat) :
    (c.updGoto x t dec short).gens = c.gens := by
  simp [Chip.updGoto]

@[simp] theorem Chip.updRun_gens (c : Chip) (x speed : Nat) (neg : Bool) : (c.updRun x speed neg).gens = c.gens := by
  simp [Chip.updRun]

@[simp] theorem Chip.updBrake_gens (c : Chip) (x : Nat) (limit : Option (Int × Nat)) : (c.updBrake x limit).gens = c.gens := by
  simp only [Chip.updBrake]
  (repeat' split) <;> simp

@[simp] theorem Chip.updEase_gens (c : Chip) (x : Nat) (target : Option Int) : (c.updEase x target).gens = c.gens := by
  unfold Chip.updEase
  (repeat' split) <;> simp -implicitDefEqProofs

@[simp] theorem Chip.softStop_gens {onStop : Chip → Chip} (h : ∀ c, (onStop c).gens = c.gens) (c : Chip) (x : Nat) :
    (c.softStop x onStop).gens = c.gens := by
  unfold Chip.softStop
  split <;> simp [h]

@[simp] theorem Chip.updSpeed_gens (c : Chip) (x : Nat) : (c.updSpeed x).gens = c.gens := by
  simp [Chip.updSpeed]

@[simp] theorem Chip.gearEnd_gens (c : Chip) (x code flag : Nat) (lag : Int) : (c.gearEnd x code flag lag).gens = c.gens := by
  simp [Chip.gearEnd]

@[simp] theorem Chip.updGear_gens (c : Chip) (x : Nat) : (c.updGear x).gens = c.gens := by
  simp [Chip.updGear]

@[simp] theorem Chip.quietStep_gens (c : Chip) (x : Nat) (before : Int) : (c.quietStep x before).gens = c.gens := by
  simp [Chip.quietStep]

@[simp] theorem Chip.sense_gens (c : Chip) (x ia ib tj : Nat) : (c.sense x ia ib tj).gens = c.gens := by
  simp [Chip.sense]

@[simp] theorem Chip.generate_gens (c : Chip) (x ia ib tj : Nat) : (c.generate x ia ib tj).gens = c.gens := by
  simp only [Chip.generate]
  (repeat' split) <;> simp

theorem Chip.genAt_of_gens {c d : Chip} (h : d.gens = c.gens) (x : Nat) : (d.ax x).genAt = (c.ax x).genAt := by
  have hn : ∀ l : List AxSt, (nth {} l x).genAt = nth 0 (l.map (·.genAt)) x := fun l => by
    induction l generalizing x with
    | nil => rfl
    | cons a l ih =>
      cases x with
      | zero => rfl
      | succ x => exact ih x
  rw [Chip.ax, hn, ← Chip.gens, h, Chip.gens, ← hn, Chip.ax]

end Sys2Proof.Machine
end

section
/-! SUPPORT. O21: an update of the step generator and the hold current. -/

namespace Sys2Proof.Machine

namespace Chip

/-! ### One update of the generator (R309) -/

theorem ax_setAx_same {c : Chip} {x : Nat} (f : AxSt → AxSt) (hf : ∀ h, SameMotion h (f h)) (hc : c.axes.length = 16) (hx : x < 16) :
    SameMotion (c.ax x) ((c.setAx x f).ax x) := by
  rw [ax_setAx _ _ hc hx]
  exact hf _

/-- What was sensed, in the words that show it. -/
theorem sense_get (c : Chip) (x : Nat) {ia ib tj : Nat} (ha : ia < 2 ^ 16) (hb : ib < 2 ^ 16) (ht : tj < 2 ^ 16) :
    (c.sense x ia ib tj).get (axisAt x) Axis.ia_ma = ia ∧ (c.sense x ia ib tj).get (axisAt x) Axis.ib_ma = ib ∧
      (c.sense x ia ib tj).get (axisAt x) Axis.bridge_tj = tj := by
  simp (disch := decide) only [sense, setAx_get, get_put_clear]
  exact ⟨get_put_of_lt _ _ (by decide) ha, get_put_of_lt _ _ (by decide) hb, get_put_of_lt _ _ (by decide) ht⟩

theorem sense_others (c : Chip) {x y : Nat} (ia ib tj : Nat) (hy : y ≠ x) : (c.sense x ia ib tj).ax y = c.ax y := by
  simp only [sense, ax_setAx_other _ _ hy, ax_put]

theorem sense_length (c : Chip) (x ia ib tj : Nat) : (c.sense x ia ib tj).axes.length = c.axes.length := by
  simp only [sense, setAx_axes_length, put_axes]

theorem sense_same (c : Chip) {x : Nat} (ia ib tj : Nat) (hc : c.axes.length = 16) (hx : x < 16) :
    SameMotion (c.ax x) ((c.sense x ia ib tj).ax x) := by
  have hlen : (((c.put (axisAt x) Axis.ia_ma ia).put (axisAt x) Axis.ib_ma ib).put (axisAt x) Axis.bridge_tj tj).axes.length = 16 := hc
  simp only [sense]
  rw [ax_setAx _ _ hlen hx]
  simp only [ax_put]
  exact ⟨_, _, _, _, _, _, _, _, _, _, Eq.refl _⟩

/-- The axis on its way, by the form of its motion. -/
def advance (c : Chip) (x : Nat) (m : Motion) : Chip :=
  match m with
  | .still => c
  | .goto t dec short => c.updGoto x t dec short
  | .run v neg => c.updRun x v neg
  | .brake l => c.updBrake x l
  | .ease t => c.updEase x t
  | .speed => c.updSpeed x
  | .gear => c.updGear x

/-- The coils of a stage that is on follow the position. -/
def coils (c : Chip) (x : Nat) : Chip := if c.stageOn x then c.driveBridges x else c

/-- The travel noted, quiet drive judged and the coils driven. -/
def moveNoted (c : Chip) (x went : Nat) (before : Int) : Chip :=
  ((c.setAx x (fun h => { h with trip := h.trip + went })).quietStep x before).coils x

/-- The coils and the switches after the axis has moved. -/
def afterMove (c : Chip) (x went : Nat) (before : Int) : Chip := (c.moveNoted x went before).axSwitches x

theorem generate_off {c : Chip} {x : Nat} (h : c.stageOn x = false) (ia ib tj : Nat) :
    c.generate x ia ib tj = (c.sense x ia ib tj).axSync x := if_pos (by simp [h])

theorem generate_on {c : Chip} {x : Nat} (h : c.stageOn x = true) (ia ib tj : Nat) :
    ∃ went, c.generate x ia ib tj = ((c.sense x ia ib tj).advance x (c.ax x).motion).afterMove x went (c.ax x).issued :=
  ⟨_, if_neg (by simp [h])⟩

theorem advance_moves (c : Chip) (x : Nat) (m : Motion) : c.AxMoves x (c.advance x m) := by
  have hr := AxMoves.refl x c
  cases m with
  | still => exact hr
  | goto t dec short => exact hr.updGoto t dec short
  | run v neg => exact hr.updRun v neg
  | brake l => exact hr.updBrake l
  | ease t => exact hr.updEase t
  | speed => exact hr.updSpeed
  | gear => exact hr.updGear

theorem moveNoted_moves (c : Chip) (x went : Nat) (before : Int) : c.AxMoves x (c.moveNoted x went before) :=
  have hq := ((AxMoves.refl x c).setAx (fun h => { h with trip := h.trip + went })).quietStep before
  AxMoves.ite (fun _ => hq.driveBridges) (fun _ => hq)

theorem afterMove_moves (c : Chip) (x went : Nat) (before : Int) : c.AxMoves x (c.afterMove x went before) :=
  (c.moveNoted_moves x went before).axSwitches

/-- An update moves nothing of the axis that its operations leave, after what was sensed is taken. -/
theorem generate_moves (c : Chip) (x ia ib tj : Nat) : (c.sense x ia ib tj).AxMoves x (c.generate x ia ib tj) := by
  by_cases h : c.stageOn x = true
  · obtain ⟨went, hg⟩ := generate_on h ia ib tj
    rw [hg]
    exact (advance_moves _ x _).trans (afterMove_moves _ x _ _)
  · rw [generate_off (by simpa using h)]
    exact (AxMoves.refl x _).axSync

/-! ### What the coils and the switches leave -/

theorem same_ite {b : Prop} [Decidable b] {h : AxSt} {d e : Chip} {x : Nat} (hd : b → SameMotion h (d.ax x))
    (he : ¬ b → SameMotion h (e.ax x)) : SameMotion h ((if b then d else e).ax x) := by
  split
  · next hb => exact hd hb
  · next hb => exact he hb

theorem quietStep_same (c : Chip) {x : Nat} (before : Int) (hc : c.axes.length = 16) (hx : x < 16) :
    SameMotion (c.ax x) ((c.quietStep x before).ax x) := by
  have htake := c.quietTake_same hc hx
  have hlen : (c.quietTake x).axes.length = 16 := (AxMoves.refl x c).quietTake.size.trans hc
  have hset : ∀ f : AxSt → AxSt, ((c.quietTake x).setAx x f).axes.length = 16 := fun f => (setAx_axes_length _ _ _).trans hlen
  refine same_ite (fun _ => .rfl _) (fun _ => same_ite (fun _ => ?_) (fun _ => ?_))
  · rw [ax_setAx _ _ (((AxMoves.refl x _).xOn _).xRecord _ _ _ _ |>.size.trans (hset _)) hx, ax_xRecord, ax_xOn, ax_setAx _ _ hlen hx]
    exact htake.trans ⟨_, _, _, _, _, _, _, _, _, _, Eq.refl _⟩
  · rw [ax_setAx _ _ hlen hx]
    exact htake.trans ⟨_, _, _, _, _, _, _, _, _, _, Eq.refl _⟩

theorem driveBridges_same (c : Chip) {x : Nat} (hc : c.axes.length = 16) (hx : x < 16) : SameMotion (c.ax x) ((c.driveBridges x).ax x) := by
  unfold driveBridges
  simp only []
  split
  · exact ax_setAx_same _ (fun _ => ⟨_, _, _, _, _, _, _, _, _, _, Eq.refl _⟩) hc hx
  · exact ax_setAx_same _ (fun _ => ⟨_, _, _, _, _, _, _, _, _, _, Eq.refl _⟩) hc hx

theorem axLook_same (c : Chip) {x : Nat} (hc : c.axes.length = 16) (hx : x < 16) : SameMotion (c.ax x) ((c.axLook x).ax x) :=
  ax_setAx_same _ (fun _ => ⟨_, _, _, _, _, _, _, _, _, _, Eq.refl _⟩) hc hx

/-- An axis that is not homing and meets no limit switch goes on as it was. -/
theorem axSwitches_same {c : Chip} {x : Nat} (hc : c.axes.length = 16) (hx : x < 16) (hmode : (c.ax x).mode ≠ 3)
    (hlim : (c.ax x).dir = 0 ∨ ((c.axLook x).ax x).seen.testBit (if 0 < (c.ax x).dir then 1 else 0) = false) :
    SameMotion (c.ax x) ((c.axSwitches x).ax x) := by
  have hlook : (c.axLook x).axes.length = 16 := (setAx_axes_length _ _ _).trans hc
  have hstop : ((c.ax x).limited && (c.ax x).dir != 0 && ((c.axLook x).ax x).seen.testBit (if 0 < (c.ax x).dir then 1 else 0)) = false := by
    rcases hlim with h | h
    · simp [h]
    · simp [h]
  unfold axSwitches
  simp only []
  split
  · exact .rfl _
  · have hhome : ((c.ax x).mode == 3) = false := by simpa using hmode
    simp only [hhome, Bool.false_and, Bool.false_eq_true, if_false, hstop, ite_self]
    exact (axLook_same c hc hx).trans (axSync_same _ hlook hx)

theorem SameMotion.dir {h k : AxSt} (a : SameMotion h k) : k.dir = h.dir := by rw [AxSt.dir, a.v, AxSt.dir]

theorem SameMotion.speed {h k : AxSt} (a : SameMotion h k) : k.speed = h.speed := by rw [AxSt.speed, a.v, AxSt.speed]

theorem switchOf_none (c : Chip) (x : Nat) {cc : Nat} (low : Bool) (h : 16 ≤ cc) : c.switchOf x cc low = ⟨false, false, false, false⟩ :=
  if_pos h

/-- Where no positive limit switch is named, none is seen. -/
theorem axLook_no_limit {c : Chip} {x : Nat} (hc : c.axes.length = 16) (hx : x < 16) (h : 16 ≤ c.get (axisAt x) Axis.lim_pos) :
    ((c.axLook x).ax x).seen.testBit 1 = false := by
  have hsw : c.switchNo x 1 = ⟨false, false, false, false⟩ := switchOf_none c x _ h
  have hbit : ∀ (a b : Bool) (m n : Nat), (b2n a + b2n b * 4 + 8 * m + 64 * n).testBit 1 = false := fun a b m n => by
    rw [Nat.testBit_eq_decide_div_mod_eq, decide_eq_false_iff_not]
    cases a <;> cases b <;> simp only [b2n, if_true, Bool.false_eq_true, if_false] <;> omega
  rw [axLook, ax_setAx _ _ hc hx]
  have hsum := hbit (c.switchNo x 0).on (c.switchNo x 2).on
  simp only [List.range, List.range.loop, List.map_cons, List.map_nil, List.zipIdx_cons, List.zipIdx_nil, List.sum_cons, List.sum_nil, hsw]
  simpa [b2n, Nat.add_assoc] using hsum _ _

theorem moveNoted_same {c : Chip} {x went : Nat} {before : Int} (hc : c.axes.length = 16) (hx : x < 16) :
    SameMotion (c.ax x) ((c.moveNoted x went before).ax x) := by
  have htrip := ax_setAx_same (c := c) (x := x) (fun h => { h with trip := h.trip + went })
    (fun _ => ⟨_, _, _, _, _, _, _, _, _, _, Eq.refl _⟩) hc hx
  have hquiet := htrip.trans (quietStep_same _ before ((setAx_axes_length _ _ _).trans hc) hx)
  have hmoves := ((AxMoves.refl x c).setAx (fun h => { h with trip := h.trip + went })).quietStep before
  exact same_ite (fun _ => hquiet.trans (driveBridges_same _ (hmoves.size.trans hc) hx)) (fun _ => hquiet)

theorem afterMove_same {c : Chip} {x went : Nat} {before : Int} (hc : c.axes.length = 16) (hx : x < 16) (hmode : (c.ax x).mode ≠ 3)
    (hlim : (c.ax x).dir = 0 ∨ (0 < (c.ax x).v ∧ 16 ≤ c.get (axisAt x) Axis.lim_pos)) :
    SameMotion (c.ax x) ((c.afterMove x went before).ax x) := by
  have hm := c.moveNoted_moves x went before
  have hn : SameMotion (c.ax x) ((c.moveNoted x went before).ax x) := moveNoted_same hc hx
  refine hn.trans (axSwitches_same (hm.size.trans hc) hx (by rw [hn.mode]; exact hmode) ?_)
  rw [SameMotion.dir hn]
  refine hlim.imp id (fun h => ?_)
  have hdir : (c.ax x).dir = 1 := if_pos h.1
  rw [hdir, if_pos (by decide)]
  exact axLook_no_limit (hm.size.trans hc) hx (by rw [hm.fields Axis.lim_pos (by decide) hx]; exact h.2)

/-- On its way to a target, not there yet: the axis moves by the speed the profile gives. -/
theorem updGoto_ax {c : Chip} {x : Nat} {t u dist : Int} (hc : c.axes.length = 16) (hx : x < 16) (hv : 0 < (c.ax x).v)
    (hramp : ramp (c.ax x).prof 3 (c.ax x).speed (vFix (c.ax x).prof.vm) updatePs = (u, dist))
    (hleft : 0 < pFix t - (c.ax x).p - dist) :
    (c.updGoto x t false 0).ax x = { c.ax x with
      v := u, p := (c.ax x).p + dist, motion := .goto t (decide (pFix t - (c.ax x).p - dist ≤ decDist (c.ax x).prof u)) 0 } := by
  have hdir : (c.ax x).dir = 1 := if_pos hv
  have hv0 : (c.ax x).v ≠ 0 := hv.ne'
  unfold updGoto
  simp only [hv0, if_false, hdir, hramp, one_mul, Bool.false_and, Bool.or_false, Bool.false_or, decide_eq_true_eq, Bool.false_eq_true]
  rw [if_neg (by omega), ax_setAx _ _ (by rw [moved, setAx_axes_length, hc]) hx, moved, ax_setAx _ _ hc hx]
  simp

theorem stageOn_setAx {c : Chip} {x : Nat} {f : AxSt → AxSt} (hc : c.axes.length = 16) (hx : x < 16)
    (hcause : (f (c.ax x)).causes = (c.ax x).causes) (hfault : (f (c.ax x)).fault = (c.ax x).fault) :
    (c.setAx x f).stageOn x = c.stageOn x := by
  rw [stageOn, ax_setAx _ _ hc hx, hcause, hfault, stageOn]
  rfl

/-- The axis as an update begins. -/
def updateBegun (c : Chip) (x : Nat) : Chip := c.setAx x (fun h => { h with genAt := c.now })

theorem updateBegun_ax (c : Chip) {x : Nat} (hc : c.axes.length = 16) (hx : x < 16) :
    (c.updateBegun x).ax x = { c.ax x with genAt := c.now } := ax_setAx _ _ hc hx

end Chip

theorem generatorUpdate_to {x : Fin 16} {s : State} {ia ib tj : BitVec 16} (hclk : s.chip.clkLost (x / 2) 5 = false)
    (hdue : (s.chip.ax x).genAt + 10 ≤ s.chip.now) :
    exec (.generatorUpdate x ia ib tj) s = .next { s with chip := (s.chip.updateBegun x).generate x ia.toNat ib.toNat tj.toNat } :=
  chipOnly_to s (if_neg (by simp [hclk, Nat.not_lt.2 hdue]))

section Update

variable {x : Fin 16} {s : State} (hs : Shaped s) (ia ib tj : Nat)
include hs

theorem updateBegun_length : (s.chip.updateBegun x).axes.length = 16 := (Chip.setAx_axes_length _ _ _).trans hs.axes

/-- What an update that drives the axis leaves, where the advance left it neither homing nor toward a limit switch. -/
theorem generate_same (hon : s.chip.stageOn x = true)
    (hmode : ((((s.chip.updateBegun x).sense x ia ib tj).advance x (s.chip.ax x).motion).ax x).mode ≠ 3)
    (hlim : ((((s.chip.updateBegun x).sense x ia ib tj).advance x (s.chip.ax x).motion).ax x).dir = 0 ∨
      (0 < ((((s.chip.updateBegun x).sense x ia ib tj).advance x (s.chip.ax x).motion).ax x).v ∧
        16 ≤ (((s.chip.updateBegun x).sense x ia ib tj).advance x (s.chip.ax x).motion).get (axisAt x) Axis.lim_pos)) :
    Chip.SameMotion ((((s.chip.updateBegun x).sense x ia ib tj).advance x (s.chip.ax x).motion).ax x)
      (((s.chip.updateBegun x).generate x ia ib tj).ax x) := by
  have hon' : (s.chip.updateBegun x).stageOn x = true := (Chip.stageOn_setAx hs.axes x.isLt rfl rfl).trans hon
  have hlen : (((s.chip.updateBegun x).sense x ia ib tj).advance x (s.chip.ax x).motion).axes.length = 16 :=
    (Chip.advance_moves _ _ _).size.trans ((Chip.sense_length _ _ _ _ _).trans (updateBegun_length hs))
  obtain ⟨went, hg⟩ := Chip.generate_on hon' ia ib tj
  rw [hg, Chip.updateBegun_ax _ hs.axes x.isLt]
  exact Chip.afterMove_same hlen x.isLt hmode hlim

theorem sensed_same : Chip.SameMotion { s.chip.ax x with genAt := s.chip.now } (((s.chip.updateBegun x).sense x ia ib tj).ax x) := by
  rw [← Chip.updateBegun_ax _ hs.axes x.isLt]
  exact Chip.sense_same _ ia ib tj (updateBegun_length hs) x.isLt

/-- An axis at rest stays where it is. -/
theorem generate_still (hstill : (s.chip.ax x).motion = .still) (hv : (s.chip.ax x).v = 0) (hmode : (s.chip.ax x).mode ≠ 3) :
    (((s.chip.updateBegun x).generate x ia ib tj).ax x).p = (s.chip.ax x).p ∧
      (((s.chip.updateBegun x).generate x ia ib tj).ax x).v = (s.chip.ax x).v := by
  have hsense := sensed_same (x := x) hs ia ib tj
  by_cases hon : s.chip.stageOn x = true
  · have hsame := generate_same (x := x) hs ia ib tj hon
    rw [hstill] at hsame
    have hkeep := hsame (by rw [Chip.advance, hsense.mode]; exact hmode) (.inl (by
      rw [Chip.advance, AxSt.dir, hsense.v, hv]
      rfl))
    exact ⟨hkeep.p.trans hsense.p, hkeep.v.trans hsense.v⟩
  · have hoff : (s.chip.updateBegun x).stageOn x = false := (Chip.stageOn_setAx hs.axes x.isLt rfl rfl).trans (by simpa using hon)
    rw [Chip.generate_off hoff]
    have hsync := Chip.axSync_same ((s.chip.updateBegun x).sense x ia ib tj)
      ((Chip.sense_length _ _ _ _ _).trans (updateBegun_length hs)) x.isLt
    exact ⟨hsync.p.trans hsense.p, hsync.v.trans hsense.v⟩

/-- An axis on its way to a target moves by the speed the profile gives. -/
theorem generate_goto {target u dist : Int} (hon : s.chip.stageOn x = true) (hm : (s.chip.ax x).motion = .goto target false 0)
    (hmode : (s.chip.ax x).mode = 2) (hv : 0 < (s.chip.ax x).v) (hpos : 16 ≤ s.chip.get (axisAt x) Axis.lim_pos)
    (hramp : ramp (s.chip.ax x).prof 3 (s.chip.ax x).speed (vFix (s.chip.ax x).prof.vm) updatePs = (u, dist)) (hu : 0 < u)
    (hleft : 0 < pFix target - (s.chip.ax x).p - dist) :
    (((s.chip.updateBegun x).generate x ia ib tj).ax x).v = u ∧
      (((s.chip.updateBegun x).generate x ia ib tj).ax x).p = (s.chip.ax x).p + dist ∧
      (((s.chip.updateBegun x).generate x ia ib tj).ax x).motion =
        .goto target (decide (pFix target - (s.chip.ax x).p - dist ≤ decDist (s.chip.ax x).prof u)) 0 := by
  have hsense := sensed_same (x := x) hs ia ib tj
  have hlen := (Chip.sense_length (s.chip.updateBegun x) x ia ib tj).trans (updateBegun_length hs)
  have hgo := Chip.updGoto_ax (c := (s.chip.updateBegun x).sense x ia ib tj) (t := target) (u := u) (dist := dist) hlen x.isLt
    (by rw [hsense.v]; exact hv) (by rw [Chip.SameMotion.speed hsense, hsense.prof]; exact hramp) (by rw [hsense.p]; exact hleft)
  have hsame := generate_same (x := x) hs ia ib tj hon
  rw [hm] at hsame
  have hkeep := hsame (by
      rw [Chip.advance, hgo]
      exact fun h => absurd (hsense.mode.symm.trans h) (by rw [hmode]; decide)) (.inr ⟨by
      rw [Chip.advance, hgo]
      exact hu, by
      rw [(Chip.advance_moves _ _ _).fields Axis.lim_pos (by decide) x.isLt]
      simp (disch := decide) only [Chip.sense, Chip.setAx_get, Chip.get_put_clear]
      exact hpos⟩)
  rw [Chip.advance, hgo] at hkeep
  refine ⟨hkeep.v, hkeep.p.trans ?_, hkeep.motion.trans ?_⟩
  · rw [hsense.p]
  · rw [hsense.p, hsense.prof]

end Update

/-- Settles O21: an update of the step generator, and the change to the hold current. -/
theorem axisMotion : Obligations.AxisMotion := by
  intro x s hs
  refine ⟨fun ia ib tj hclk hdue => ?_, fun hon hstill hhold hdue hidle => ?_⟩
  · obtain ⟨hia, hib, htj⟩ := (s.chip.updateBegun x).sense_get x ia.isLt ib.isLt tj.isLt
    have hm := (s.chip.updateBegun x).generate_moves x ia.toNat ib.toNat tj.toNat
    have hget : ∀ f : Field, axKept f = true → _ := fun f hf => hm.fields f hf x.isLt
    refine ⟨_, generatorUpdate_to hclk hdue, (hget _ (by decide)).trans hia, (hget _ (by decide)).trans hib, (hget _ (by decide)).trans htj,
      ?_, .chip s _, fun y hy => ?_, fun hoff => ?_, generate_still hs _ _ _, fun target hon hmot hmode hv hpos hneg hu hleft =>
        generate_goto hs _ _ _ hon hmot hmode hv hpos rfl hu hleft⟩
    · rw [Chip.genAt_of_gens (Chip.generate_gens (s.chip.updateBegun x) x ia.toNat ib.toNat tj.toNat), Chip.updateBegun_ax _ hs.axes x.isLt]
    · exact (hm.others y hy).trans ((Chip.sense_others _ _ _ _ hy).trans (Chip.ax_setAx_other _ _ hy))
    · have hoff' : (s.chip.updateBegun x).stageOn x = false := (Chip.stageOn_setAx hs.axes x.isLt rfl rfl).trans hoff
      have hsense := sensed_same (x := x) hs ia.toNat ib.toNat tj.toNat
      have hsync := Chip.axSync_same _ ((Chip.sense_length (s.chip.updateBegun x) x ia.toNat ib.toNat tj.toNat).trans (updateBegun_length hs)) x.isLt
      rw [Chip.generate_off hoff']
      exact ⟨((((Chip.RegsAxes.refl s.chip).setAx _ _).sense _ _ _ _).axSync _).state, hsync.p.trans hsense.p, hsync.v.trans hsense.v⟩
  · have hstep : exec (.holdCurrentSwitch x) s = .next { s with chip := s.chip.setAx x (fun h => { h with holding := true }) } :=
      chipOnly_to s ((if_neg (by simp [hon, hstill, Nat.not_lt.2 hdue])).trans (if_neg (by simpa using hidle)))
    exact ⟨_, hstep, by rw [Chip.ax_setAx _ _ hs.axes x.isLt], rfl, fun y hy => Chip.ax_setAx_other _ _ hy⟩

end Sys2Proof.Machine
end

section
/-! SUPPORT. O13: online changes, release_all and clear_stats. -/

namespace Sys2Proof.Machine

/-- The reasons against a change are numbered 0 to 5 (R176). -/
theorem changeReason_lt (c : Chip) (a v : Nat) : c.changeReason a v < 6 := by
  unfold Chip.changeReason
  split_ifs <;> decide

theorem onlineChange_taken {s : State} {addr value : BitVec 32} (h : s.chip.changeReason addr.toNat value.toNat = 0) :
    exec (.onlineChangeArrival addr value) s = .next { s with chip :=
      ((s.chip.setEng (fun e => { e with queue := e.queue ++ [(⟨addr.toNat, value.toNat, none, none⟩ : QChange)] })).put changeAt
        Change.queued (s.chip.eng.queue ++ [(⟨addr.toNat, value.toNat, none, none⟩ : QChange)]).length) } :=
  chipOnly_to s (if_neg (by simp [h]))

theorem onlineChange_refused {s : State} {addr value : BitVec 32} (h : s.chip.changeReason addr.toNat value.toNat ≠ 0) :
    exec (.onlineChangeArrival addr value) s = .next { s with chip :=
      ((s.chip.bump changeAt Change.refused).put changeAt Change.last_refusal (s.chip.changeReason addr.toNat value.toNat)) } :=
  chipOnly_to s (if_pos (by simpa using h))

theorem releaseAll_waits {s : State} (hr : s.chip.get forceAt Force.result ≠ 1) (hh : s.chip.holder = true)
    (he : s.chip.get engineAt Engine.state = 1) :
    exec .releaseAll s = .next { s with chip := (s.chip.put forceAt Force.result 1).setEng (fun e =>
      { e with edits := e.edits ++ ((List.range 256).filter s.chip.forceTaken).map (fun i => ⟨i, none, none⟩) }) } :=
  chipOnly_to s ((if_neg hr).trans (if_neg (by simp [hh, he])))

theorem releaseAll_refused {s : State} (hr : s.chip.get forceAt Force.result ≠ 1)
    (h : s.chip.holder = false ∨ s.chip.get engineAt Engine.state ≠ 1) :
    exec .releaseAll s = .next { s with chip := s.chip.put forceAt Force.result 3 } :=
  chipOnly_to s ((if_neg hr).trans (if_pos (by simpa using h)))

theorem engineClearStats_to {s : State} : exec .engineClearStats s = .next { s with chip :=
    (((s.chip.put engineAt Engine.cycle_max 0).put engineAt Engine.cycle_min 0xFFFFFFFF).put engineAt Engine.result 2) } := chipOnly_to s rfl

/-- Settles O13: online changes, release_all and clear_stats. -/
theorem onlineChangesAndForces : Obligations.OnlineChangesAndForces := by
  intro s
  refine ⟨fun addr value => ⟨fun h => ?_, fun h => ?_⟩, fun hr => ⟨fun hh he => ?_, fun h => ?_⟩, ?_⟩
  · refine ⟨_, onlineChange_taken h, rfl, ?_, .chip s _, Chip.WordsBut.kept ((Chip.WordsBut.of_regs rfl).trans (.put _ _ rfl))⟩
    rw [Chip.get_put_self _ _ _ (by decide), List.length_append, List.length_singleton]
  · have hlt : s.chip.changeReason addr.toNat value.toNat < 2 ^ 8 := Nat.lt_trans (changeReason_lt _ _ _) (by decide)
    refine ⟨_, onlineChange_refused h, rfl, Chip.get_put_of_lt _ _ (by decide) hlt, ?_,
      (((Chip.RegsOnly.refl s.chip).put _ _ _).put _ _ _).state, Chip.WordsBut.kept ((Chip.WordsBut.bump _ (.inl rfl)).trans (.put _ _ (.inr rfl)))⟩
    rw [Chip.get_put_clear _ _ _ (by decide), Chip.bump_get_self _ _ (by decide)]
  · exact ⟨_, releaseAll_waits hr hh he, Chip.get_put_of_lt _ _ (by decide) (by decide), rfl, .chip s _,
      Chip.WordsBut.kept ((Chip.WordsBut.put (P := fun a => a = Force.result.at forceAt 0) _ _ rfl).trans (.of_regs rfl))⟩
  · exact ⟨_, releaseAll_refused hr h, Chip.get_put_of_lt _ _ (by decide) (by decide), rfl, Chip.WordsBut.kept (.put _ _ rfl)⟩
  · refine ⟨_, engineClearStats_to, ?_, ?_, Chip.get_put_of_lt _ _ (by decide) (by decide), ?_,
      ((((Chip.RegsOnly.refl s.chip).put _ _ _).put _ _ _).put _ _ _).state⟩
    · rw [Chip.get_put_clear _ _ _ (by decide), Chip.get_put_clear _ _ _ (by decide), Chip.get_put_of_lt _ _ (by decide) (by decide)]
    · rw [Chip.get_put_clear _ _ _ (by decide), Chip.get_put_of_lt _ _ (by decide) (by decide)]
    · rw [Chip.get_put_clear _ _ _ (by decide), Chip.get_put_clear _ _ _ (by decide), Chip.get_put_clear _ _ _ (by decide)]

end Sys2Proof.Machine
end

section
/-! SUPPORT. O45: the performance counters. -/

namespace Sys2Proof.Machine

/-! ### The counters of a region -/

/-- Words of two group fields of a counter block. -/
theorem ctr_group_ne {f g : Field} {b i j : Nat} (hf : f.stride = 8) (hg : g.stride = 8) (h : f.first % 8 ≠ g.first % 8) :
    f.at b i ≠ g.at b j := Field.at_ne (by rw [hf, hg]; omega)

theorem ctr_same_ne {f : Field} {b i j : Nat} (hf : f.stride = 8) (h : i ≠ j) : f.at b i ≠ f.at b j := Field.at_ne (by rw [hf]; omega)

/-- A group field and one of the head of the block. -/
theorem ctr_head_ne {f g : Field} {b i : Nat} (hg : 0x10 ≤ g.first) (hf : f.first < 0x10) : g.at b i ≠ f.at b 0 := Field.at_ne (by omega)

namespace Chip

variable (c : Chip) {r j : Nat}

@[simp] theorem setCtr_ctrs_length (r j : Nat) (f : CtrOne → CtrOne) : (c.setCtr r j f).ctrs.length = c.ctrs.length := upd_length _ _ _

theorem ctr_congr {c d : Chip} (h : d.ctrs = c.ctrs) (q : Nat) : d.ctr q = c.ctr q := by rw [ctr, h, ctr]

theorem ctr_setCtr (f : CtrOne → CtrOne) (hc : c.ctrs.length = 8) (hr : r < 8) :
    (c.setCtr r j f).ctr r = { c.ctr r with ones := upd (c.ctr r).ones j f } := nth_upd_same _ _ _ _ (by omega)

theorem ctr_setCtr_other (f : CtrOne → CtrOne) {q : Nat} (hq : q ≠ r) : (c.setCtr r j f).ctr q = c.ctr q := nth_upd_other _ _ _ hq

theorem ones_setCtr (f : CtrOne → CtrOne) (hc : c.ctrs.length = 8) (hr : r < 8) (ho : (c.ctr r).ones.length = 8) (hj : j < 8) :
    nth {} ((c.setCtr r j f).ctr r).ones j = f (nth {} (c.ctr r).ones j) := by
  rw [ctr_setCtr c f hc hr]
  exact nth_upd_same _ _ _ _ (by omega)

theorem ones_setCtr_other (f : CtrOne → CtrOne) (hc : c.ctrs.length = 8) (hr : r < 8) {k : Nat} (hk : k ≠ j) :
    nth {} ((c.setCtr r j f).ctr r).ones k = nth {} (c.ctr r).ones k := by
  rw [ctr_setCtr c f hc hr]
  exact nth_upd_other _ _ _ hk

theorem ones_setCtr_length (f : CtrOne → CtrOne) (hc : c.ctrs.length = 8) (hr : r < 8) :
    ((c.setCtr r j f).ctr r).ones.length = (c.ctr r).ones.length := by
  rw [ctr_setCtr c f hc hr]
  exact upd_length _ _ _

end Chip

/-! ### An event at all ones (R503) -/

/-- The words an overflow writes. -/
def overWord (r j a : Nat) : Prop := a = Ctr.value.at (ctrAt r) j ∨ a = Ctr.ovf.at (ctrAt r) 0 ∨ a = Ctr.dropped.at (ctrAt r) 0

/-- `d` is `c` but for words of an overflow, the counters of the region and the free word that is next. -/
structure Chip.OverMoves (r j : Nat) (c d : Chip) : Prop where
  frame : ∃ rg ct fr, d = { c with regs := rg, ctrs := ct, freeCtr := fr }
  words : c.WordsBut (overWord r j) d
  others : ∀ q, q ≠ r → d.ctr q = c.ctr q

namespace Chip.OverMoves

variable {r j : Nat} {c d : Chip}

theorem refl (r j : Nat) (c : Chip) : c.OverMoves r j c := ⟨⟨c.regs, c.ctrs, c.freeCtr, rfl⟩, .refl _ c, fun _ _ => rfl⟩

theorem putI (h : c.OverMoves r j d) {b i : Nat} {f : Field} (v : Nat) (hp : overWord r j (f.at b i)) : c.OverMoves r j (d.putI b f i v) := by
  obtain ⟨⟨rg, ct, fr, rfl⟩, hw, ho⟩ := h
  exact ⟨⟨_, ct, fr, rfl⟩, hw.trans (.putI _ v hp), ho⟩

theorem setCtr (h : c.OverMoves r j d) (k : Nat) (f : CtrOne → CtrOne) : c.OverMoves r j (d.setCtr r k f) := by
  have hn := fun q (hq : q ≠ r) => ctr_setCtr_other d (j := k) f hq
  obtain ⟨⟨rg, ct, fr, rfl⟩, hw, ho⟩ := h
  exact ⟨⟨rg, _, fr, rfl⟩, hw, fun q hq => (hn q hq).trans (ho q hq)⟩

theorem fresh (h : c.OverMoves r j d) : c.OverMoves r j d.fresh := by
  obtain ⟨⟨rg, ct, fr, rfl⟩, hw, ho⟩ := h
  exact ⟨⟨rg, ct, _, rfl⟩, hw, ho⟩

end Chip.OverMoves

/-- The counter reloaded and counted on, before its overflow is judged. -/
def Chip.reloaded (c : Chip) (r j : Nat) : Chip :=
  (c.putI (ctrAt r) Ctr.value j (c.getI (ctrAt r) Ctr.preload j)).setCtr r j (fun h => { h with acc := h.acc + 1 })

theorem counterOverflow_to {r j : Fin 8} {s : State} (hph : s.chip.phase = 8) (hfr : s.chip.flag (ctrAt r) Ctr.freeze = false)
    (hen : s.chip.getI (ctrAt r) Ctr.enable j ≠ 0) (hcl : s.chip.getI (ctrAt r) Ctr.cls j ≠ 0)
    (hv : s.chip.getI (ctrAt r) Ctr.value j = 2 ^ 32 - 1) :
    exec (.counterOverflow r j) s = .next { s with chip := (s.chip.reloaded r j).counterOver r j } :=
  chipOnly_to s (if_neg (by simp -implicitDefEqProofs [hph, hfr, hen, hcl, hv]))

namespace Chip

theorem counterOver_moves {c d : Chip} {r j : Nat} (h : c.OverMoves r j d) : c.OverMoves r j (d.counterOver r j) := by
  have hov : c.OverMoves r j (d.putBit (ctrAt r) Ctr.ovf j true) := h.putI _ (.inr (.inl rfl))
  unfold counterOver
  simp only []
  split
  · exact hov
  · split
    · exact hov.putI _ (.inr (.inr rfl))
    · exact hov.fresh.setCtr _ _

theorem reloaded_moves (c : Chip) (r j : Nat) : c.OverMoves r j (c.reloaded r j) := ((OverMoves.refl r j c).putI _ (.inl rfl)).setCtr _ _

/-- An overflow leaves the group fields of the counters and sets ovf. -/
theorem counterOver_get (c : Chip) {r j : Nat} (hj : j < 8) :
    (∀ (g : Field) (i : Nat), 0x10 ≤ g.first → (c.counterOver r j).getI (ctrAt r) g i = c.getI (ctrAt r) g i) ∧
      (c.counterOver r j).getBit (ctrAt r) Ctr.ovf j = true := by
  have hbit : (c.putBit (ctrAt r) Ctr.ovf j true).getBit (ctrAt r) Ctr.ovf j = true := by
    rw [getBit_putBit c _ _ _ _ _ (by decide) (by decide) hj, if_pos rfl]
  have hget : ∀ (g : Field) (i : Nat), 0x10 ≤ g.first → (c.putBit (ctrAt r) Ctr.ovf j true).getI (ctrAt r) g i = c.getI (ctrAt r) g i :=
    fun g i hg => getI_put_other c (ctr_head_ne hg (by decide))
  unfold counterOver
  simp only []
  split
  · exact ⟨hget, hbit⟩
  · split
    · refine ⟨fun g i hg => (getI_put_other _ (ctr_head_ne hg (by decide))).trans (hget g i hg), ?_⟩
      rw [getBit, bump, bumpByI, ← put, get_put_clear _ _ _ (by decide)]
      exact hbit
    · exact ⟨hget, hbit⟩

end Chip

namespace Chip

theorem reloaded_getI (c : Chip) (r j : Nat) : (c.reloaded r j).getI (ctrAt r) Ctr.value j = c.getI (ctrAt r) Ctr.preload j ∧
    (c.reloaded r j).getI (ctrAt r) Ctr.ovf_event j = c.getI (ctrAt r) Ctr.ovf_event j ∧
    (c.reloaded r j).get (ctrAt r) Ctr.dropped = c.get (ctrAt r) Ctr.dropped := by
  have hlt : c.getI (ctrAt r) Ctr.preload j < 2 ^ (Ctr.value.hi + 1 - Ctr.value.lo) := getI_lt c _ Ctr.preload _
  have hother : (c.putI (ctrAt r) Ctr.value j (c.getI (ctrAt r) Ctr.preload j)).getI (ctrAt r) Ctr.ovf_event j =
      c.getI (ctrAt r) Ctr.ovf_event j := getI_putI_other _ (ctr_group_ne rfl rfl (by decide))
  rw [reloaded, setCtr_getI, setCtr_getI, setCtr_get, hother, getI_putI_of_lt _ _ _ (by decide) hlt,
    get_putI_other _ (ctr_head_ne (by decide) (by decide)).symm]
  exact ⟨rfl, rfl, rfl⟩

variable {c : Chip} {r j : Nat}

/-- An overflow whose event is asked for awaits its sample where none waits. -/
theorem counterOver_awaits (hc : c.ctrs.length = 8) (hr : r < 8) (ho : (c.ctr r).ones.length = 8) (hj : j < 8)
    (hev : c.getI (ctrAt r) Ctr.ovf_event j ≠ 0) (hnone : (nth {} (c.ctr r).ones j).overAt = none) :
    (nth {} ((c.counterOver r j).ctr r).ones j).overAt = some c.now := by
  have hover : c.counterOver r j = (c.putBit (ctrAt r) Ctr.ovf j true).fresh.setCtr r j (fun h =>
      { h with overAt := some c.now, skip := c.free % 13, sample := none }) := (if_neg hev).trans (if_neg (by simp [ctrOne, hnone]))
  have hlen : (c.putBit (ctrAt r) Ctr.ovf j true).fresh.ctrs.length = 8 := hc
  rw [hover, ones_setCtr _ _ hlen hr ho hj]

/-- Where another waits, it is dropped. -/
theorem counterOver_drops (hev : c.getI (ctrAt r) Ctr.ovf_event j ≠ 0) (hsome : (nth {} (c.ctr r).ones j).overAt ≠ none) :
    (c.counterOver r j).get (ctrAt r) Ctr.dropped = min (c.get (ctrAt r) Ctr.dropped + 1) Ctr.dropped.top := by
  have hover : c.counterOver r j = (c.putBit (ctrAt r) Ctr.ovf j true).bump (ctrAt r) Ctr.dropped :=
    (if_neg hev).trans (if_pos (by simp [ctrOne, Option.isSome_iff_ne_none, hsome]))
  rw [hover, bump_get_self _ _ (by decide), putBit, get_put_clear _ _ _ (by decide)]

end Chip

/-- An event at all ones reloads the preload and sets ovf; what awaits its sample, and what is dropped (R503, R504). -/
theorem counterOverflow_reloads {r j : Fin 8} {s : State} (hs : Shaped s) (ho : (s.chip.ctr r).ones.length = 8) (hph : s.chip.phase = 8)
    (hfr : s.chip.flag (ctrAt r) Ctr.freeze = false) (hen : s.chip.getI (ctrAt r) Ctr.enable j ≠ 0)
    (hcl : s.chip.getI (ctrAt r) Ctr.cls j ≠ 0) (hv : s.chip.getI (ctrAt r) Ctr.value j = 2 ^ 32 - 1) : ∃ t,
    exec (.counterOverflow r j) s = .next t ∧ t.chip.getI (ctrAt r) Ctr.value j = s.chip.getI (ctrAt r) Ctr.preload j ∧
      t.chip.getBit (ctrAt r) Ctr.ovf j = true ∧
      (s.chip.getI (ctrAt r) Ctr.ovf_event j ≠ 0 →
        ((nth {} (s.chip.ctr r).ones j).overAt = none → (nth {} (t.chip.ctr r).ones j).overAt = some s.chip.now) ∧
        ((nth {} (s.chip.ctr r).ones j).overAt ≠ none →
          t.chip.get (ctrAt r) Ctr.dropped = min (s.chip.get (ctrAt r) Ctr.dropped + 1) Ctr.dropped.top)) ∧
      t = { s with chip := { s.chip with regs := t.chip.regs, ctrs := t.chip.ctrs, freeCtr := t.chip.freeCtr } } ∧
      WordsKept (overWord r j) s t ∧ ∀ q, q ≠ r.val → t.chip.ctr q = s.chip.ctr q := by
  have hm := Chip.counterOver_moves (s.chip.reloaded_moves r j)
  obtain ⟨hget, hovf⟩ := (s.chip.reloaded r j).counterOver_get (r := r) j.isLt
  obtain ⟨hvalue, hevent, hdropped⟩ := s.chip.reloaded_getI r j
  have hones : nth {} ((s.chip.reloaded r j).ctr r).ones j = { nth {} (s.chip.ctr r).ones j with acc := (nth {} (s.chip.ctr r).ones j).acc + 1 } :=
    Chip.ones_setCtr _ _ hs.ctrs r.isLt ho j.isLt
  have hsize : (s.chip.reloaded r j).ctrs.length = 8 := (Chip.setCtr_ctrs_length _ _ _ _).trans hs.ctrs
  have hlen : ((s.chip.reloaded r j).ctr r).ones.length = 8 := (Chip.ones_setCtr_length _ _ hs.ctrs r.isLt).trans ho
  have hover : (nth {} ((s.chip.reloaded r j).ctr r).ones j).overAt = (nth {} (s.chip.ctr r).ones j).overAt := by rw [hones]
  refine ⟨_, counterOverflow_to hph hfr hen hcl hv, (hget _ _ (by decide)).trans hvalue, hovf, fun hev => ⟨fun hnone => ?_, fun hsome => ?_⟩,
    ?_, Chip.WordsBut.kept hm.words, hm.others⟩
  · exact Chip.counterOver_awaits hsize r.isLt hlen j.isLt (by rw [hevent]; exact hev) (hover.trans hnone)
  · rw [← hdropped]
    exact Chip.counterOver_drops (by rw [hevent]; exact hev) (by rw [hover]; exact hsome)
  · obtain ⟨rg, ct, fr, hf⟩ := hm.frame
    rw [hf]

/-! ### The sample of a counter (R505) -/

/-- The counter with its sample shown. -/
def Chip.sampleShown (c : Chip) (r j q : Nat) : Chip :=
  (c.putI (ctrAt r) Ctr.last_sample j q).setCtr r j (fun h => { h with overAt := none, sample := none })

theorem counterSample_to {r j : Fin 8} {s : State} {q : Nat} (h : s.chip.sampleReady (nth {} (s.chip.ctr r).ones j) = some q) :
    exec (.counterSample r j) s = .next { s with chip := s.chip.sampleEnd r j q } :=
  chipOnly_to s (by
    have hq : s.chip.sampleReady (s.chip.ctrOne r.val j.val) = some q := h
    simp only [hq])

theorem sampleEnd_recorded {c : Chip} {r j q : Nat} (h : (nth {} (c.ctr r).ones j).recAt = none) :
    c.sampleEnd r j q = ((c.sampleShown r j q).record 92 r 0 j (leBytes 4 q)
      [c.get engineAt Engine.cycle_count, c.getI (ctrAt r) Ctr.preload j]).setCtr r j (fun h => { h with recAt := some c.now }) :=
  if_neg (by simp [Chip.ctrOne, h])

theorem sampleEnd_dropped {c : Chip} {r j q u : Nat} (h : (nth {} (c.ctr r).ones j).recAt = some u) (hu : c.now < u + 1000) :
    c.sampleEnd r j q = (c.sampleShown r j q).bump (ctrAt r) Ctr.dropped :=
  if_pos (by simp [Chip.ctrOne, h, hu])

theorem Chip.sampleShown_get (c : Chip) (r j : Nat) {q : Nat} (hq : q < 2 ^ 32) :
    (c.sampleShown r j q).getI (ctrAt r) Ctr.last_sample j = q := Chip.getI_putI_of_lt _ _ _ (by decide) hq

/-- A sample is recorded where none was within 1 ms (R505). -/
theorem counterSample_records {r j : Fin 8} {s : State} (hs : Shaped s) (ho : (s.chip.ctr r).ones.length = 8) {q : Nat}
    (hready : s.chip.sampleReady (nth {} (s.chip.ctr r).ones j) = some q) (hq : q < 2 ^ 32)
    (hrec : (nth {} (s.chip.ctr r).ones j).recAt = none) : ∃ t, exec (.counterSample r j) s = .next t ∧
      t.chip.getI (ctrAt r) Ctr.last_sample j = q ∧ (nth {} (t.chip.ctr r).ones j).overAt = none ∧
      (nth {} (t.chip.ctr r).ones j).recAt = some s.chip.now ∧ StoresKept s t ∧
      WordsKept (fun a => a = Ctr.last_sample.at (ctrAt r) j ∨ recorderWord a) s t := by
  have hstep := counterSample_to hready
  rw [sampleEnd_recorded hrec] at hstep
  have hshown : (s.chip.sampleShown r j q).ctrs.length = 8 := (Chip.setCtr_ctrs_length _ _ _ _).trans hs.ctrs
  have hctrs : ((s.chip.sampleShown r j q).record 92 r 0 j (leBytes 4 q)
      [s.chip.get engineAt Engine.cycle_count, s.chip.getI (ctrAt r) Ctr.preload j]).ctrs = (s.chip.sampleShown r j q).ctrs :=
    Chip.record_ctrs _ _ _ _ _ _ _
  have hones : (nth {} ((s.chip.sampleShown r j q).ctr r).ones j) = { nth {} (s.chip.ctr r).ones j with overAt := none, sample := none } :=
    Chip.ones_setCtr _ _ hs.ctrs r.isLt ho j.isLt
  have hlen : ((s.chip.sampleShown r j q).ctr r).ones.length = 8 := (Chip.ones_setCtr_length _ _ hs.ctrs r.isLt).trans ho
  have hend := Chip.ones_setCtr _ (fun h => { h with recAt := some s.chip.now }) (hctrs ▸ hshown) r.isLt
    (by rw [Chip.ctr_congr hctrs]; exact hlen) j.isLt
  rw [Chip.ctr_congr hctrs, hones] at hend
  have hspace : spaceOf (Ctr.last_sample.at (ctrAt r) j) ≠ 10 := by
    rw [ctrAt, Field.space_at _ (by omega) (by simp only [Ctr.last_sample, Field.many]; omega)]
    omega
  refine ⟨_, hstep, ?_, by rw [hend], by rw [hend], .chip s _, ?_⟩
  · exact (Chip.getI_congr (Chip.record_word _ _ _ _ _ _ _ hspace)).trans (Chip.sampleShown_get _ _ _ hq)
  · have hshow : s.chip.WordsBut (fun a => a = Ctr.last_sample.at (ctrAt r) j ∨ recorderWord a) (s.chip.sampleShown r j q) :=
      .putI _ _ (.inl rfl)
    exact Chip.WordsBut.kept ((hshow.trans (.record _ _ _ _ _ _ _ (fun _ h => .inr h))).trans (.of_regs rfl))

/-- Within 1 ms of the last record the sample is shown and its record dropped. -/
theorem counterSample_drops {r j : Fin 8} {s : State} {q u : Nat} (hready : s.chip.sampleReady (nth {} (s.chip.ctr r).ones j) = some q)
    (hq : q < 2 ^ 32) (hrec : (nth {} (s.chip.ctr r).ones j).recAt = some u) (hu : s.chip.now < u + 1000) :
    ∃ t, exec (.counterSample r j) s = .next t ∧ t.chip.getI (ctrAt r) Ctr.last_sample j = q ∧
      t.chip.get (ctrAt r) Ctr.dropped = min (s.chip.get (ctrAt r) Ctr.dropped + 1) Ctr.dropped.top ∧
      t = { s with chip := { s.chip with regs := t.chip.regs, ctrs := t.chip.ctrs } } := by
  have hstep := counterSample_to hready
  rw [sampleEnd_dropped hrec hu] at hstep
  have hm : (s.chip.sampleShown r j q).get (ctrAt r) Ctr.dropped = s.chip.get (ctrAt r) Ctr.dropped :=
    Chip.get_putI_other _ (ctr_head_ne (by decide) (by decide)).symm
  refine ⟨_, hstep, ?_, ?_, rfl⟩
  · exact (Chip.getI_put_other _ (ctr_head_ne (by decide) (by decide))).trans (Chip.sampleShown_get _ _ _ hq)
  · rw [Chip.bump_get_self _ _ (by decide), hm]

/-! ### The end of a window (R506) -/

/-- One counter of the region as its window ends. -/
def Chip.winStep (ones : List CtrOne) (r : Nat) (c : Chip) (j : Nat) : Chip :=
  (((c.putI (ctrAt r) Ctr.win_count j (min (nth {} ones j).acc (2 ^ 32 - 1))).when (decide (2 ^ 32 ≤ (nth {} ones j).acc))
    (·.putBit (ctrAt r) Ctr.win_ovf j true)).when (nth {} ones j).changed (·.putBit (ctrAt r) Ctr.sel_changed j true)).setCtr r j
    (fun o => { o with acc := 0, changed := false })

/-- Every counter shown, and the number of the window. -/
def Chip.winShown (c : Chip) (r : Nat) : Chip :=
  (c.each (List.range 8) (Chip.winStep (c.ctr r).ones r)).put (ctrAt r) Ctr.win_index ((c.get (ctrAt r) Ctr.win_index + 1) % 2 ^ 32)

/-- The window of region `r` that ends at `next`. -/
def Chip.setEnd (c : Chip) (r next : Nat) : Chip := { c with ctrs := upd c.ctrs r (fun h => { h with endAt := next }) }

theorem Chip.setEnd_get (c : Chip) (r next b : Nat) (f : Field) : (c.setEnd r next).get b f = c.get b f := (rfl)

theorem Chip.setEnd_getI (c : Chip) (r next b i : Nat) (f : Field) : (c.setEnd r next).getI b f i = c.getI b f i := (rfl)

theorem Chip.ctr_setEnd (c : Chip) {r : Nat} (next : Nat) (hc : c.ctrs.length = 8) (hr : r < 8) :
    (c.setEnd r next).ctr r = { c.ctr r with endAt := next } := nth_upd_same _ _ _ _ (by omega)

theorem Chip.ctr_setEnd_other (c : Chip) {r q : Nat} (next : Nat) (hq : q ≠ r) : (c.setEnd r next).ctr q = c.ctr q := nth_upd_other _ _ _ hq

theorem counterWindowEnd_to {r : Fin 8} {s : State} (hph : s.chip.phase = 8) (hfit : s.chip.fitted r = true)
    (hdue : (s.chip.ctr r).endAt ≤ s.chip.now) : ∃ next,
    exec (.counterWindowEnd r) s = .next { s with chip := (s.chip.winShown r).setEnd r next } :=
  ⟨_, chipOnly_to s (if_neg (by simp [hph, hfit, Nat.not_lt.2 hdue]))⟩

/-- The words a window's end writes before its number. -/
def winWord (r a : Nat) : Prop := (∃ j, a = Ctr.win_count.at (ctrAt r) j) ∨ a = Ctr.win_ovf.at (ctrAt r) 0

/-- The first `m` counters are shown. -/
structure WinDone (r m : Nat) (c d : Chip) : Prop where
  frame : ∃ rg ct, d = { c with regs := rg, ctrs := ct }
  words : c.WordsBut (winWord r) d
  size : d.ctrs.length = 8
  ones : (d.ctr r).ones.length = 8
  others : ∀ q, q ≠ r → d.ctr q = c.ctr q
  shown : ∀ k < m, d.getI (ctrAt r) Ctr.win_count k = min (nth {} (c.ctr r).ones k).acc (2 ^ 32 - 1) ∧ (nth {} (d.ctr r).ones k).acc = 0

namespace Chip

/-- What the end of a window writes for one counter. -/
def winWrites (ones : List CtrOne) (r : Nat) (c : Chip) (j : Nat) : Chip :=
  ((c.putI (ctrAt r) Ctr.win_count j (min (nth {} ones j).acc (2 ^ 32 - 1))).when (decide (2 ^ 32 ≤ (nth {} ones j).acc))
    (·.putBit (ctrAt r) Ctr.win_ovf j true)).when (nth {} ones j).changed (·.putBit (ctrAt r) Ctr.sel_changed j true)

theorem winStep_eq (ones : List CtrOne) (r : Nat) (c : Chip) (j : Nat) :
    winStep ones r c j = (winWrites ones r c j).setCtr r j (fun o => { o with acc := 0, changed := false }) := rfl

/-- A flag of the head of the block, set or not, leaves the group fields. -/
theorem when_putBit_getI (c : Chip) (r j : Nat) (b : Bool) {f g : Field} (i : Nat) (hf : f.first < 0x10) (hg : 0x10 ≤ g.first) :
    (c.when b (·.putBit (ctrAt r) f j true)).getI (ctrAt r) g i = c.getI (ctrAt r) g i := by
  cases b
  · rfl
  · exact getI_put_other c (ctr_head_ne hg hf)

theorem when_putBit_regs (c : Chip) (b j : Nat) (w : Bool) (f : Field) : c.RegsOnly (c.when w (·.putBit b f j true)) := by
  cases w
  · exact .refl c
  · exact (RegsOnly.refl c).put _ _ _

theorem RegsOnly.trans {c d e : Chip} (h : c.RegsOnly d) (k : d.RegsOnly e) : c.RegsOnly e := by
  obtain ⟨rg, rfl⟩ := h
  obtain ⟨rg', rfl⟩ := k
  exact ⟨rg', rfl⟩

theorem RegsOnly.ctrs {c d : Chip} (h : c.RegsOnly d) : d.ctrs = c.ctrs := by
  obtain ⟨rg, rfl⟩ := h
  rfl

theorem winWrites_regs (ones : List CtrOne) (r : Nat) (c : Chip) (j : Nat) : c.RegsOnly (winWrites ones r c j) :=
  (((RegsOnly.refl c).putI _ _ _ _).trans (when_putBit_regs _ _ _ _ _)).trans (when_putBit_regs _ _ _ _ _)

theorem when_putBit_words {P : Nat → Prop} (c : Chip) {b : Nat} (j : Nat) (w : Bool) {f : Field} (h : P (f.at b 0)) :
    c.WordsBut P (c.when w (·.putBit b f j true)) := .ite (fun _ => .put c _ h) (fun _ => .refl P c)

theorem winWrites_words (ones : List CtrOne) (r : Nat) (c : Chip) (j : Nat) : c.WordsBut (winWord r) (winWrites ones r c j) :=
  ((WordsBut.putI c _ (.inl ⟨j, rfl⟩)).trans (when_putBit_words _ _ _ (.inr rfl))).trans (when_putBit_words _ _ _ (.inr rfl))

theorem winWrites_get (ones : List CtrOne) (r : Nat) (c : Chip) (j : Nat) :
    (winWrites ones r c j).getI (ctrAt r) Ctr.win_count j = min (nth {} ones j).acc (2 ^ 32 - 1) := by
  have hlt : min (nth {} ones j).acc (2 ^ 32 - 1) < 2 ^ (Ctr.win_count.hi + 1 - Ctr.win_count.lo) :=
    Nat.lt_of_le_of_lt (Nat.min_le_right _ _) (by decide)
  rw [winWrites, when_putBit_getI _ _ _ _ _ (by decide) (by decide), when_putBit_getI _ _ _ _ _ (by decide) (by decide),
    getI_putI_of_lt _ _ _ (by decide) hlt]

theorem winWrites_get_other (ones : List CtrOne) (r : Nat) (c : Chip) {j k : Nat} (h : k ≠ j) :
    (winWrites ones r c j).getI (ctrAt r) Ctr.win_count k = c.getI (ctrAt r) Ctr.win_count k := by
  rw [winWrites, when_putBit_getI _ _ _ _ _ (by decide) (by decide), when_putBit_getI _ _ _ _ _ (by decide) (by decide),
    getI_putI_other _ (ctr_same_ne rfl h)]

end Chip

theorem winStep_done {r m : Nat} {c d : Chip} (hr : r < 8) (hm : m < 8) (h : WinDone r m c d) :
    WinDone r (m + 1) c (Chip.winStep (c.ctr r).ones r d m) := by
  obtain ⟨⟨rg, ct, hd⟩, hwords, hsize, hones, hothers, hshown⟩ := h
  have hregs := Chip.winWrites_regs (c.ctr r).ones r d m
  have hsize' : (Chip.winWrites (c.ctr r).ones r d m).ctrs.length = 8 := by rw [hregs.ctrs, hsize]
  have hones' : ((Chip.winWrites (c.ctr r).ones r d m).ctr r).ones.length = 8 := by rw [Chip.ctr_congr hregs.ctrs, hones]
  rw [Chip.winStep_eq]
  refine ⟨?_, (hwords.trans (Chip.winWrites_words _ _ _ _)).trans (.of_regs rfl), (Chip.setCtr_ctrs_length _ _ _ _).trans hsize',
    (Chip.ones_setCtr_length _ _ hsize' hr).trans hones', fun q hq => ?_, fun k hk => ?_⟩
  · obtain ⟨rg', hw⟩ := hregs
    rw [hw, hd]
    exact ⟨_, _, rfl⟩
  · rw [Chip.ctr_setCtr_other _ _ hq, Chip.ctr_congr hregs.ctrs, hothers q hq]
  · rw [Chip.setCtr_getI]
    by_cases hkm : k = m
    · subst hkm
      rw [Chip.ones_setCtr _ _ hsize' hr hones' hm]
      exact ⟨Chip.winWrites_get _ _ _ _, rfl⟩
    · rw [Chip.ones_setCtr_other _ _ hsize' hr hkm, Chip.ctr_congr hregs.ctrs, Chip.winWrites_get_other _ _ _ hkm]
      exact hshown k (by omega)

/-- After `m` steps the first `m` counters are shown. -/
theorem winSteps_done {r : Nat} {c : Chip} (hr : r < 8) (hc : c.ctrs.length = 8) (ho : (c.ctr r).ones.length = 8) :
    ∀ m ≤ 8, WinDone r m c (c.each (List.range m) (Chip.winStep (c.ctr r).ones r)) := by
  intro m hm
  induction m with
  | zero => exact ⟨⟨c.regs, c.ctrs, rfl⟩, .refl _ c, hc, ho, fun _ _ => rfl, fun k hk => absurd hk (Nat.not_lt_zero k)⟩
  | succ m ih =>
    have hstep := winStep_done hr (by omega) (ih (by omega))
    rwa [Chip.each, List.range_succ, List.foldl_append, ← Chip.each]

/-- The end of a window shows every count and begins the next (R506). -/
theorem counterWindowEnd_shows {r : Fin 8} {s : State} (hs : Shaped s) (ho : (s.chip.ctr r).ones.length = 8) (hph : s.chip.phase = 8)
    (hfit : s.chip.fitted r = true) (hdue : (s.chip.ctr r).endAt ≤ s.chip.now) : ∃ t, exec (.counterWindowEnd r) s = .next t ∧
      (∀ j < 8, t.chip.getI (ctrAt r) Ctr.win_count j = min (nth {} (s.chip.ctr r).ones j).acc (2 ^ 32 - 1) ∧
        (nth {} (t.chip.ctr r).ones j).acc = 0) ∧
      t.chip.get (ctrAt r) Ctr.win_index = (s.chip.get (ctrAt r) Ctr.win_index + 1) % 2 ^ 32 ∧
      t = { s with chip := { s.chip with regs := t.chip.regs, ctrs := t.chip.ctrs } } ∧
      (∀ j < 8, t.chip.getI (ctrAt r) Ctr.value j = s.chip.getI (ctrAt r) Ctr.value j) ∧
      ∀ q, q ≠ r.val → t.chip.ctr q = s.chip.ctr q := by
  obtain ⟨next, hstep⟩ := counterWindowEnd_to hph hfit hdue
  obtain ⟨hframe, hwords, hsize, hones, hothers, hshown⟩ := winSteps_done r.isLt hs.ctrs ho 8 (Nat.le_refl 8)
  have hctr : ∀ q, (s.chip.winShown r).ctr q = (s.chip.each (List.range 8) (Chip.winStep (s.chip.ctr r).ones r)).ctr q :=
    fun q => Chip.ctr_congr (Chip.put_ctrs _ _ _ _) q
  have hput : ∀ (g : Field) (i : Nat), 0x10 ≤ g.first → (s.chip.winShown r).getI (ctrAt r) g i =
      (s.chip.each (List.range 8) (Chip.winStep (s.chip.ctr r).ones r)).getI (ctrAt r) g i := fun g i hg =>
    Chip.getI_put_other _ (ctr_head_ne hg (by decide))
  have hlen : (s.chip.winShown r).ctrs.length = 8 := hsize
  refine ⟨_, hstep, fun j hj => ⟨?_, ?_⟩, ?_, ?_, fun j hj => ?_, fun q hq => ?_⟩
  · rw [Chip.setEnd_getI, hput _ _ (by decide)]
    exact (hshown j hj).1
  · rw [Chip.ctr_setEnd _ _ hlen r.isLt, hctr]
    exact (hshown j hj).2
  · rw [Chip.setEnd_get, Chip.winShown]
    exact Chip.get_put_of_lt _ _ (by decide) (Nat.mod_lt _ (by decide))
  · obtain ⟨rg, ct, hf⟩ := hframe
    rw [Chip.winShown, hf]
    rfl
  · rw [Chip.setEnd_getI, hput _ _ (by decide)]
    refine Chip.getI_congr (hwords _ (fun h => ?_))
    rcases h with ⟨k, hk⟩ | hk
    · exact ctr_group_ne rfl rfl (by decide) hk
    · exact ctr_head_ne (by decide) (by decide) hk
  · rw [Chip.ctr_setEnd_other _ _ hq, hctr, hothers q hq]

/-! ### clear -/

/-- One counter cleared: its value is the preload, its counts are zero. -/
def Chip.clearStep (r : Nat) (c : Chip) (j : Nat) : Chip :=
  ((c.putI (ctrAt r) Ctr.value j (c.getI (ctrAt r) Ctr.preload j)).putI (ctrAt r) Ctr.win_count j 0).putI (ctrAt r) Ctr.last_sample j 0

theorem counterClear_to {r : Fin 8} {s : State} (hopen : s.chip.opens r = true) (hres : s.chip.get (ctrAt r) Ctr.result ≠ 1) :
    exec (.counterClear r) s = .next { s with chip :=
      (((s.chip.each (List.range 8) (Chip.clearStep r)).put (ctrAt r) Ctr.dropped 0).put (ctrAt r) Ctr.result 2) } :=
  chipOnly_to s ((if_neg (by simp [hopen])).trans (if_neg hres))

/-- The first `m` counters are cleared. -/
structure ClearDone (r m : Nat) (c d : Chip) : Prop where
  regs : c.RegsOnly d
  preload : ∀ j, d.getI (ctrAt r) Ctr.preload j = c.getI (ctrAt r) Ctr.preload j
  cleared : ∀ k < m, d.getI (ctrAt r) Ctr.value k = c.getI (ctrAt r) Ctr.preload k ∧ d.getI (ctrAt r) Ctr.win_count k = 0 ∧
    d.getI (ctrAt r) Ctr.last_sample k = 0

/-- Counter `k`'s fields stand apart from those of another counter. -/
theorem ctr_other_ne {f g : Field} {b j k : Nat} (hf : f.stride = 8) (hg : g.stride = 8) (hf' : 0x10 ≤ f.first ∧ f.first < 0x18)
    (hg' : 0x10 ≤ g.first ∧ g.first < 0x18) (h : k ≠ j) : g.at b k ≠ f.at b j := Field.at_ne (by rw [hf, hg]; omega)

namespace Chip

theorem clearStep_getI_other (c : Chip) (r : Nat) {j k : Nat} {g : Field} (hk : k ≠ j) (hg : g.stride = 8) (hg' : 0x10 ≤ g.first ∧ g.first < 0x18) :
    (clearStep r c j).getI (ctrAt r) g k = c.getI (ctrAt r) g k := by
  rw [clearStep, getI_putI_other _ (ctr_other_ne rfl hg (by decide) hg' hk), getI_putI_other _ (ctr_other_ne rfl hg (by decide) hg' hk),
    getI_putI_other _ (ctr_other_ne rfl hg (by decide) hg' hk)]

theorem clearStep_preload (c : Chip) (r j k : Nat) : (clearStep r c j).getI (ctrAt r) Ctr.preload k = c.getI (ctrAt r) Ctr.preload k := by
  rw [clearStep, getI_putI_other _ (ctr_group_ne rfl rfl (by decide)), getI_putI_other _ (ctr_group_ne rfl rfl (by decide)),
    getI_putI_other _ (ctr_group_ne rfl rfl (by decide))]

theorem clearStep_getI (c : Chip) (r j : Nat) : (clearStep r c j).getI (ctrAt r) Ctr.value j = c.getI (ctrAt r) Ctr.preload j ∧
    (clearStep r c j).getI (ctrAt r) Ctr.win_count j = 0 ∧ (clearStep r c j).getI (ctrAt r) Ctr.last_sample j = 0 := by
  have hlt : c.getI (ctrAt r) Ctr.preload j < 2 ^ (Ctr.value.hi + 1 - Ctr.value.lo) := getI_lt c _ Ctr.preload _
  refine ⟨?_, ?_, getI_putI_of_lt _ _ _ (by decide) (by decide)⟩
  · rw [clearStep, getI_putI_other _ (ctr_group_ne rfl rfl (by decide)), getI_putI_other _ (ctr_group_ne rfl rfl (by decide)),
      getI_putI_of_lt _ _ _ (by decide) hlt]
  · rw [clearStep, getI_putI_other _ (ctr_group_ne rfl rfl (by decide)), getI_putI_of_lt _ _ _ (by decide) (by decide)]

end Chip

theorem clearStep_done {r m : Nat} {c d : Chip} (h : ClearDone r m c d) : ClearDone r (m + 1) c (Chip.clearStep r d m) := by
  obtain ⟨hregs, hpre, hcleared⟩ := h
  refine ⟨((hregs.putI _ _ _ _).putI _ _ _ _).putI _ _ _ _, fun j => (Chip.clearStep_preload _ _ _ _).trans (hpre j), fun k hk => ?_⟩
  by_cases hkm : k = m
  · subst hkm
    obtain ⟨hv, hw, hl⟩ := Chip.clearStep_getI d r k
    exact ⟨hv.trans (hpre k), hw, hl⟩
  · obtain ⟨hv, hw, hl⟩ := hcleared k (by omega)
    exact ⟨(Chip.clearStep_getI_other _ _ hkm rfl (by decide)).trans hv, (Chip.clearStep_getI_other _ _ hkm rfl (by decide)).trans hw,
      (Chip.clearStep_getI_other _ _ hkm rfl (by decide)).trans hl⟩

theorem clearSteps_done (r : Nat) (c : Chip) (m : Nat) : ClearDone r m c (c.each (List.range m) (Chip.clearStep r)) := by
  induction m with
  | zero => exact ⟨.refl c, fun _ => rfl, fun k hk => absurd hk (Nat.not_lt_zero k)⟩
  | succ m ih =>
    rw [Chip.each, List.range_succ, List.foldl_append, ← Chip.each]
    exact clearStep_done ih

/-- clear reloads every counter. -/
theorem counterClear_reloads {r : Fin 8} {s : State} (hopen : s.chip.opens r = true) (hres : s.chip.get (ctrAt r) Ctr.result ≠ 1) :
    ∃ t, exec (.counterClear r) s = .next t ∧
      (∀ j < 8, t.chip.getI (ctrAt r) Ctr.value j = s.chip.getI (ctrAt r) Ctr.preload j ∧
        t.chip.getI (ctrAt r) Ctr.win_count j = 0 ∧ t.chip.getI (ctrAt r) Ctr.last_sample j = 0) ∧
      t.chip.get (ctrAt r) Ctr.dropped = 0 ∧ t.chip.get (ctrAt r) Ctr.result = 2 ∧
      t = { s with chip := { s.chip with regs := t.chip.regs } } := by
  obtain ⟨hregs, -, hcleared⟩ := clearSteps_done r s.chip 8
  have hput : ∀ (g : Field) (i : Nat), 0x10 ≤ g.first → (((s.chip.each (List.range 8) (Chip.clearStep r)).put (ctrAt r) Ctr.dropped 0).put
      (ctrAt r) Ctr.result 2).getI (ctrAt r) g i = (s.chip.each (List.range 8) (Chip.clearStep r)).getI (ctrAt r) g i := fun g i hg =>
    (Chip.getI_put_other _ (ctr_head_ne hg (by decide))).trans (Chip.getI_put_other _ (ctr_head_ne hg (by decide)))
  refine ⟨_, counterClear_to hopen hres, fun j hj => ?_, ?_, Chip.get_put_of_lt _ _ (by decide) (by decide),
    ((hregs.put _ _ _).put _ _ _).state⟩
  · rw [hput _ _ (by decide), hput _ _ (by decide), hput _ _ (by decide)]
    exact hcleared j hj
  · rw [Chip.get_put_clear _ _ _ (by decide), Chip.get_put_of_lt _ _ (by decide) (by decide)]

/-- Settles O45: overflow, sample, window and clear of the performance counters. -/
theorem counters : Obligations.Counters := by
  intro r s hs ho
  exact ⟨fun j hph hfr hen hcl hv => counterOverflow_reloads hs ho hph hfr hen hcl hv, fun j q hready hq =>
    ⟨fun hrec => counterSample_records hs ho hready hq hrec, fun u hrec hu => counterSample_drops hready hq hrec hu⟩,
    fun hph hfit hdue => counterWindowEnd_shows hs ho hph hfit hdue, fun hopen => chipOnly_to s (if_pos (by simp [hopen])),
    fun hopen hres => counterClear_reloads hopen hres⟩

end Sys2Proof.Machine
end

section
/-! SUPPORT. What a record leaves of the words beside the recorder's head, and values of 64 bits in two words. -/

namespace Sys2Proof.Machine

/-! ### What a record and the counts that follow from it change beside the buffer -/

/-- The words of the recorder's head: its counts and its numbers. -/
def headWord (a : Nat) : Prop := recdAt ≤ a ∧ a < recdAt + 0x0A

theorem headWord_recorder {a : Nat} (h : headWord a) : recorderWord a := by
  obtain ⟨hl, hh⟩ := h
  simp only [recdAt] at hl hh
  simp only [recorderWord, spaceOf]
  omega

theorem not_headWord {a : Nat} (h : recdAt + 0x0A ≤ a) : ¬ headWord a := fun k => absurd k.2 (by omega)

namespace Chip

theorem recSync_writes (c : Chip) : c.Writes headWord c.recSync :=
  (((Writes.refl headWord c).put _ ⟨by decide, by decide⟩).put _ ⟨by decide, by decide⟩).put _ ⟨by decide, by decide⟩

/-- What the recorder holds, changed. -/
theorem Writes.setRec {P : Nat → Prop} {c d : Chip} (h : c.Writes P d) (f : RecSt → RecSt) : c.Writes P (d.setRec f) :=
  h.trans ⟨⟨d.regs, f d.recd, rfl⟩, .of_regs rfl⟩

theorem Writes.setRecd {P : Nat → Prop} {c d : Chip} (h : c.Writes P d) (rc : RecSt) : c.Writes P { d with recd := rc } := h.setRec (fun _ => rc)

theorem Writes.put64 {P : Nat → Prop} {c d : Chip} (h : c.Writes P d) {b : Nat} {f : Field} (v : Nat) (h0 : P (f.at b 0)) (h1 : P (f.at b 1)) :
    c.Writes P (d.put64 b f v) := (h.putI _ h0).putI _ h1

theorem Writes.setNat {P : Nat → Prop} {c d : Chip} (h : c.Writes P d) {a : Nat} (v : Nat) (hp : P a) : c.Writes P (d.setNat a v) :=
  h.setWord _ hp

theorem enter_writes (c : Chip) (source region severity subject : Nat) (pl : List Nat) (late : Bool) :
    c.Writes headWord (c.enter source region severity subject pl late) := by
  have hrefused : c.Writes headWord (c.bump recdAt Recd.refused) := (Writes.refl _ c).bump ⟨by decide, by decide⟩
  unfold enter
  split
  · exact .refl _ c
  split
  · exact .refl _ c
  split
  · exact hrefused
  split
  · exact hrefused.setRecd _
  · refine Writes.trans ?_ (recSync_writes _)
    split
    · exact ((Writes.refl _ c).setRecd _).put64 _ ⟨by decide, by decide⟩ ⟨by decide, by decide⟩
    · exact (Writes.refl _ c).setRecd _

/-- A record that opens no band leaves every word but those of the recorder's head. -/
theorem record_writes (c : Chip) (source region subject : Nat) {severity : Nat} (bs ws : List Nat) (h : severity ≠ 3) :
    c.Writes headWord (c.record source region severity subject bs ws) := by
  rw [record, recordAs, if_neg (by simp [h])]
  exact enter_writes _ _ _ _ _ _ _

end Chip

theorem next_congr {s t : State} (h : s = t) : (.next s : Out) = .next t := by rw [h]

/-- A write of one word. -/
theorem put_kept (s : State) (b v : Nat) (f : Field) : WordsKept (fun a => a = f.at b 0) s { s with chip := s.chip.put b f v } :=
  Chip.WordsBut.put s.chip v rfl

/-! ### Values of 64 bits -/

/-- A field that is the whole word. -/
theorem Field.of_full {f : Field} (hh : f.hi = 31) (hl : f.lo = 0) (w : Word) : f.of w = w.toNat := by
  rw [Field.of, bitsOf, hh, hl, Nat.shiftRight_zero]
  exact Nat.mod_eq_of_lt w.isLt

/-- The first two words of a field, where it has two, are not those of another. -/
def Field.twoApart (f g : Field) : Bool :=
  decide (f.first ≠ g.first) && decide (f.first ≠ g.first + g.stride) && decide (f.first + f.stride ≠ g.first) &&
    decide (f.first + f.stride ≠ g.first + g.stride)

/-- The first two words of a field are not the first of another. -/
def Field.pairOff (f g : Field) : Bool := decide (f.first ≠ g.first) && decide (f.first + f.stride ≠ g.first)

theorem Field.pairOff_iff {f g : Field} : f.pairOff g = true ↔ f.first ≠ g.first ∧ f.first + f.stride ≠ g.first := by simp [pairOff]

theorem Field.twoApart_iff {f g : Field} : f.twoApart g = true ↔ f.first ≠ g.first ∧ f.first ≠ g.first + g.stride ∧
    f.first + f.stride ≠ g.first ∧ f.first + f.stride ≠ g.first + g.stride := by simp [twoApart, and_assoc]

namespace Chip

theorem Writes.state {P : Nat → Prop} {s : State} {d : Chip} (h : s.chip.Writes P d) :
    ({ s with chip := d } : State) = { s with chip := { s.chip with regs := d.regs, recd := d.recd } } := by
  obtain ⟨rg, rc, hd⟩ := h.frame
  rw [hd]

theorem get64_congr {c d : Chip} {b : Nat} {f : Field} (h : ∀ i, d.word (f.at b i) = c.word (f.at b i)) : d.get64 b f = c.get64 b f := by
  rw [get64, getI_congr (h 0), getI_congr (h 1), get64]

/-- A field of two full words, written, reads as what was written. -/
theorem get64_put64 (c : Chip) (b : Nat) {f : Field} {v : Nat} (hl : f.lo = 0) (hh : f.hi = 31) (hs : f.stride ≠ 0) (hv : v < 2 ^ 64) :
    (c.put64 b f v).get64 b f = v := by
  have hsound : f.sound = true := Field.sound_iff.2 (by omega)
  have hlow : v % 2 ^ 32 < 2 ^ (f.hi + 1 - f.lo) := by rw [hl, hh]; exact Nat.mod_lt _ (by decide)
  have hhigh : v / 2 ^ 32 < 2 ^ (f.hi + 1 - f.lo) := by rw [hl, hh]; exact Nat.div_lt_of_lt_mul hv
  have hne : f.at b 0 ≠ f.at b 1 := Field.at_ne (by omega)
  rw [get64, put64, getI_putI_other _ hne, getI_putI_of_lt _ _ _ hsound hlow, getI_putI_of_lt _ _ _ hsound hhigh]
  exact Nat.mod_add_div _ _

@[simp] theorem get64_put_clear (c : Chip) (b v : Nat) {f g : Field} (h : f.pairOff g = true) : (c.put b g v).get64 b f = c.get64 b f := by
  obtain ⟨h0, h1⟩ := Field.pairOff_iff.1 h
  rw [get64, getI_put_other c (Field.at_ne (by omega)), getI_put_other c (Field.at_ne (by omega)), get64]

theorem getI_put64_clear (c : Chip) (b v : Nat) {f g : Field} (h : f.pairOff g = true) : (c.put64 b f v).getI b g 0 = c.getI b g 0 := by
  obtain ⟨h0, h1⟩ := Field.pairOff_iff.1 h
  rw [put64, getI_putI_other _ (Field.at_ne (by omega)), getI_putI_other _ (Field.at_ne (by omega))]

@[simp] theorem get_put64_clear (c : Chip) (b v : Nat) {f g : Field} (h : f.pairOff g = true) : (c.put64 b f v).get b g = c.get b g :=
  getI_put64_clear c b v h

@[simp] theorem get64_put64_clear (c : Chip) (b v : Nat) {f g : Field} (h : f.twoApart g = true) : (c.put64 b f v).get64 b g = c.get64 b g := by
  obtain ⟨h00, h01, h10, h11⟩ := Field.twoApart_iff.1 h
  have hsecond : (c.put64 b f v).getI b g 1 = c.getI b g 1 := by
    rw [put64, getI_putI_other _ (Field.at_ne (by omega)), getI_putI_other _ (Field.at_ne (by omega))]
  rw [get64, getI_put64_clear c b v (Field.pairOff_iff.2 ⟨h00, h10⟩), hsecond, get64]

end Chip

end Sys2Proof.Machine
end

section
/-! SUPPORT. O41: bands and windows of the recorder. -/

namespace Sys2Proof.Machine

/-! ### Bands (R466, R467) -/

/-- The four words of a band, free. -/
def Chip.bandWords (c : Chip) (b : Nat) : Chip :=
  (((c.putI bandAt Band.trip_lo b 0).putI bandAt Band.trip_hi b 0).putI bandAt Band.b_stripes b 0).putI bandAt Band.b_state b 0

namespace Chip

variable (c : Chip)

theorem bandWords_writes {b : Nat} (hb : b < 64) : c.Writes recorderWord (c.bandWords b) :=
  ((((Writes.refl _ c).putI _ (band_space _ b hb (by decide) (by decide))).putI _ (band_space _ b hb (by decide) (by decide))).putI _
    (band_space _ b hb (by decide) (by decide))).putI _ (band_space _ b hb (by decide) (by decide))

theorem freeBand_head (b : Nat) : (c.bandWords b).Writes headWord (c.freeBand b) :=
  (recSync_writes _).trans (record_writes _ _ _ _ _ _ (by decide))

theorem freeBand_writes {b : Nat} (hb : b < 64) : c.Writes recorderWord (c.freeBand b) :=
  (c.bandWords_writes hb).trans ((c.freeBand_head b).mono (fun _ => headWord_recorder))

theorem not_headWord_band (f : Field) (k : Nat) : ¬ headWord (f.at bandAt k) :=
  not_headWord (by simp only [Field.at_eq, recdAt, bandAt]; omega)

theorem freeBand_getI (b k : Nat) (f : Field) : (c.freeBand b).getI bandAt f k = (c.bandWords b).getI bandAt f k :=
  getI_congr ((c.freeBand_head b).words _ (not_headWord_band f k))

/-- Another band keeps its words. -/
theorem freeBand_getI_other {b k : Nat} {f : Field} (hk : k ≠ b) (hf : f.stride = 4) (hf' : f.first < 4) :
    (c.freeBand b).getI bandAt f k = c.getI bandAt f k := by
  have hne : ∀ g : Field, g.stride = 4 → g.first < 4 → f.at bandAt k ≠ g.at bandAt b := fun g hg hg' => Field.at_ne (by rw [hf, hg]; omega)
  rw [freeBand_getI, bandWords, getI_putI_other _ (hne _ rfl (by decide)), getI_putI_other _ (hne _ rfl (by decide)),
    getI_putI_other _ (hne _ rfl (by decide)), getI_putI_other _ (hne _ rfl (by decide))]

theorem freeBand_state (b : Nat) : (c.freeBand b).getI bandAt Band.b_state b = 0 := by
  rw [freeBand_getI, bandWords, getI_putI_of_lt _ _ _ (by decide) (by decide)]

theorem freeBand_trip (b : Nat) : (c.freeBand b).bandTrip b = 0 := by
  have hne : ∀ f g : Field, f.stride = 4 → g.stride = 4 → f.first ≠ g.first → f.at bandAt b ≠ g.at bandAt b :=
    fun f g hf hg h => Field.at_ne (by rw [hf, hg]; omega)
  have hlo : (c.freeBand b).getI bandAt Band.trip_lo b = 0 := by
    rw [freeBand_getI, bandWords, getI_putI_other _ (hne _ _ rfl rfl (by decide)), getI_putI_other _ (hne _ _ rfl rfl (by decide)),
      getI_putI_other _ (hne _ _ rfl rfl (by decide)), getI_putI_of_lt _ _ _ (by decide) (by decide)]
  have hhi : (c.freeBand b).getI bandAt Band.trip_hi b = 0 := by
    rw [freeBand_getI, bandWords, getI_putI_other _ (hne _ _ rfl rfl (by decide)), getI_putI_other _ (hne _ _ rfl rfl (by decide)),
      getI_putI_of_lt _ _ _ (by decide) (by decide)]
  rw [bandTrip, hlo, hhi, Nat.mul_zero]

theorem freeBand_trip_other {b k : Nat} (hk : k ≠ b) : (c.freeBand b).bandTrip k = c.bandTrip k := by
  rw [bandTrip, freeBand_getI_other c hk rfl (by decide), freeBand_getI_other c hk rfl (by decide), bandTrip]

/-- The command's result, in words beside the bands. -/
def recDone (c : Chip) (n : Nat) : Chip := (c.put recdAt Recd.last_cmd n).put recdAt Recd.result 2

theorem recDone_writes (n : Nat) : c.Writes recorderWord (c.recDone n) :=
  ((Writes.refl _ c).put _ (show spaceOf _ = 10 by decide)).put _ (show spaceOf _ = 10 by decide)

theorem recDone_band (n : Nat) {f : Field} {k : Nat} : (c.recDone n).getI bandAt f k = c.getI bandAt f k := by
  have hne : ∀ g : Field, g.first < 0x80000 → f.at bandAt k ≠ g.at recdAt 0 := fun g hg => by
    simp only [Field.at_eq, recdAt, bandAt]
    omega
  rw [recDone, getI_put_other _ (hne _ (by decide)), getI_put_other _ (hne _ (by decide))]

theorem recDone_trip (n k : Nat) : (c.recDone n).bandTrip k = c.bandTrip k := by
  rw [bandTrip, recDone_band, recDone_band, bandTrip]

theorem recDone_get (n : Nat) (hn : n < 2 ^ 8) : (c.recDone n).get recdAt Recd.result = 2 ∧ (c.recDone n).get recdAt Recd.last_cmd = n := by
  refine ⟨get_put_of_lt _ _ (by decide) (by decide), ?_⟩
  rw [recDone, get_put_clear _ _ _ (by decide)]
  exact get_put_of_lt _ _ (by decide) hn

variable {c}

/-- release with a band's number in it, at the word the command is written to. -/
theorem recCommand_release (hres : c.get recdAt Recd.result ≠ 1) {b : Nat} (hb : b < 2 ^ 8) : c.recCommand (1 + 2 ^ 16 * b) =
    if 64 ≤ b || c.getI bandAt Band.b_state b != 2 then c.put recdAt Recd.result 3 else (c.freeBand b).recDone 0 := by
  have hbit0 : (1 + 2 ^ 16 * b).testBit 0 = true := by
    rw [Nat.testBit_zero, decide_eq_true_iff]
    omega
  have hbit1 : (1 + 2 ^ 16 * b).testBit 1 = false := by
    rw [Nat.testBit_succ, Nat.testBit_zero, decide_eq_false_iff_not]
    omega
  have hband : (1 + 2 ^ 16 * b) / 2 ^ 16 % 2 ^ 8 = b := by omega
  rw [recCommand, if_neg hres, hbit0, hbit1, hband]
  rfl

theorem recCommand_all (hres : c.get recdAt Recd.result ≠ 1) : c.recCommand 2 =
    (c.each ((List.range 64).filter (fun b => c.getI bandAt Band.b_state b == 2)) freeBand).recDone 1 := by
  rw [recCommand, if_neg hres]
  rfl

theorem freeBands_writes (l : List Nat) (hl : ∀ b ∈ l, b < 64) : c.Writes recorderWord (c.each l freeBand) :=
  (Writes.refl _ c).each l (fun e b hb => e.freeBand_writes (hl b hb))

/-- The bands of a list are freed, and no other. -/
theorem freeBands_state (l : List Nat) (k : Nat) : (c.each l freeBand).getI bandAt Band.b_state k =
    if k ∈ l then 0 else c.getI bandAt Band.b_state k := by
  induction l generalizing c with
  | nil => rfl
  | cons b l ih =>
    have hrest : ((c.freeBand b).each l freeBand).getI bandAt Band.b_state k = _ := ih
    have hcons : c.each (b :: l) freeBand = (c.freeBand b).each l freeBand := rfl
    rw [hcons, hrest]
    by_cases hk : k = b
    · subst hk
      simp [freeBand_state]
    · simp [hk, freeBand_getI_other c hk (f := Band.b_state) rfl (by decide)]

end Chip

/-! ### The words of a window -/

/-- The head of a window's block. -/
def winHead (w a : Nat) : Prop := winAt w ≤ a ∧ a < winAt w + 0x10

theorem winHead_at {w : Nat} {f : Field} {i : Nat} (h : f.first + i * f.stride < 0x10) : winHead w (f.at (winAt w) i) := by
  rw [Field.at_eq]
  exact ⟨by omega, by omega⟩

namespace Chip

/-- A window's command has been carried out. -/
def winDone (c : Chip) (w n now : Nat) : Chip :=
  ((c.put (winAt w) Win.last_cmd n).put (winAt w) Win.result 2).setRec (fun r => { r with winAt := setAt r.winAt w now })

theorem winDone_writes (c : Chip) (w n now : Nat) : c.Writes (winHead w) (c.winDone w n now) :=
  (((Writes.refl _ c).put _ (winHead_at (by decide))).put _ (winHead_at (by decide))).setRec _

theorem winDone_result (c : Chip) (w n now : Nat) : (c.winDone w n now).get (winAt w) Win.result = 2 := by
  rw [winDone, setRec_get]
  exact get_put_of_lt _ _ (by decide) (by decide)

theorem winDone_get (c : Chip) (w n now : Nat) {f : Field} (h1 : Win.last_cmd.clear f = true) (h2 : Win.result.clear f = true) :
    (c.winDone w n now).get (winAt w) f = c.get (winAt w) f := by
  rw [winDone, setRec_get, get_put_clear _ _ _ h2, get_put_clear _ _ _ h1]

theorem winDone_get64 (c : Chip) (w n now : Nat) {f : Field} (h1 : f.pairOff Win.last_cmd = true) (h2 : f.pairOff Win.result = true) :
    (c.winDone w n now).get64 (winAt w) f = c.get64 (winAt w) f := by
  have hrec : (c.winDone w n now).get64 (winAt w) f = ((c.put (winAt w) Win.last_cmd n).put (winAt w) Win.result 2).get64 (winAt w) f := by
    simp only [winDone, Chip.get64, setRec_getI]
  rw [hrec, get64_put_clear _ _ _ h2, get64_put_clear _ _ _ h1]

/-- The window opened for session `sid` at the tail. -/
def winOpened (c : Chip) (w sid : Nat) : Chip :=
  (((((((c.put (winAt w) Win.state 1).put (winAt w) Win.sid sid).put (winAt w) Win.n_valid 0).put (winAt w) Win.gone_count 0).put64 (winAt w)
    Win.snap_head (c.get64 recdAt Recd.head)).put64 (winAt w) Win.snap_tail (c.get64 recdAt Recd.tail)).put64 (winAt w) Win.cursor
    (c.get64 recdAt Recd.tail))

theorem winOpened_writes (c : Chip) (w sid : Nat) : c.Writes (winHead w) (c.winOpened w sid) :=
  (((((((Writes.refl _ c).put _ (winHead_at (by decide))).put _ (winHead_at (by decide))).put _ (winHead_at (by decide))).put _
    (winHead_at (by decide))).put64 _ (winHead_at (by decide)) (winHead_at (by decide))).put64 _ (winHead_at (by decide))
    (winHead_at (by decide))).put64 _ (winHead_at (by decide)) (winHead_at (by decide))

theorem get64_lt (c : Chip) (b : Nat) {f : Field} (hl : f.lo = 0) (hh : f.hi = 31) : c.get64 b f < 2 ^ 64 := by
  have h0 := c.getI_lt b f 0
  have h1 := c.getI_lt b f 1
  rw [hl, hh] at h0 h1
  rw [get64]
  omega

theorem winOpened_get (c : Chip) (w sid : Nat) (hsid : sid < 2 ^ 16) : (c.winOpened w sid).get (winAt w) Win.state = 1 ∧
    (c.winOpened w sid).get (winAt w) Win.sid = sid ∧ (c.winOpened w sid).get64 (winAt w) Win.cursor = c.get64 recdAt Recd.tail ∧
    (c.winOpened w sid).get64 (winAt w) Win.snap_head = c.get64 recdAt Recd.head := by
  refine ⟨?_, ?_, get64_put64 _ _ rfl rfl (by decide) (get64_lt _ _ rfl rfl), ?_⟩
  · rw [winOpened, get_put64_clear _ _ _ (by decide), get_put64_clear _ _ _ (by decide), get_put64_clear _ _ _ (by decide),
      get_put_clear _ _ _ (by decide), get_put_clear _ _ _ (by decide), get_put_clear _ _ _ (by decide)]
    exact get_put_of_lt _ _ (by decide) (by decide)
  · rw [winOpened, get_put64_clear _ _ _ (by decide), get_put64_clear _ _ _ (by decide), get_put64_clear _ _ _ (by decide),
      get_put_clear _ _ _ (by decide), get_put_clear _ _ _ (by decide)]
    exact get_put_of_lt _ _ (by decide) hsid
  · rw [winOpened, get64_put64_clear _ _ _ (by decide), get64_put64_clear _ _ _ (by decide)]
    exact get64_put64 _ _ rfl rfl (by decide) (get64_lt _ _ rfl rfl)

/-- The window's cursor set to what the two words beside it hold. -/
def winSought (c : Chip) (w : Nat) : Chip :=
  (c.setNat (winAt w + 7) (c.nat (winAt w + 0xB))).setNat (winAt w + 8) (c.nat (winAt w + 0xC))

/-- The number a seek asks for. -/
def winAsked (c : Chip) (w seq : Nat) : Chip :=
  (c.setNat (winAt w + 0xB) (seq % 2 ^ 32)).setNat (winAt w + 0xC) (seq / 2 ^ 32)

/-- The window closed. -/
def winClosed (c : Chip) (w : Nat) : Chip := (c.put (winAt w) Win.state 0).put (winAt w) Win.sid 0

theorem winClosed_get (c : Chip) (w : Nat) : (c.winClosed w).get (winAt w) Win.state = 0 ∧ (c.winClosed w).get (winAt w) Win.sid = 0 := by
  refine ⟨?_, get_put_of_lt _ _ (by decide) (by decide)⟩
  rw [winClosed, get_put_clear _ _ _ (by decide)]
  exact get_put_of_lt _ _ (by decide) (by decide)

end Chip

/-! ### The commands of a window (R470, R471) -/

theorem winCommand_open {s : State} {i w : Nat} (hfree : s.chip.get (winAt w) Win.state = 0) : s.winCommand i w 1 [] =
    { s with chip := (s.chip.winOpened w (s.chip.getI sessAt Sess.sid i)).winDone w 0 s.chip.now } := by
  rw [State.winCommand]
  simp only [hfree, ↓reduceIte, bne_self_eq_false, Bool.false_eq_true]
  rfl

/-- A command to a window that is not the session's. -/
theorem winCommand_foreign {s : State} {i w cmd : Nat} (hown : s.chip.ownsWindow i w = false) (hcmd : cmd ≠ 1) (bad : List Nat) :
    s.winCommand i w cmd bad = { s with chip := s.chip.put (winAt w) Win.result 3 } :=
  (if_neg hcmd).trans (if_pos (by simp [hown]))

/-- The machine after a window's command. -/
def State.winAfter (s : State) (w n now : Nat) : State := { s with chip := s.chip.winDone w n now }

/-- What a command does to a window the session holds. -/
theorem winCommand_own {s : State} {i w cmd : Nat} (hown : s.chip.ownsWindow i w = true) (hcmd : cmd ≠ 1) (bad : List Nat) :
    s.winCommand i w cmd bad = if cmd = 2 then (s.onChip (·.winSought w)).winAfter w 1 s.chip.now
      else if cmd = 4 then (s.fillWindow w bad).winAfter w 2 s.chip.now
      else if cmd = 8 then (s.onChip (·.winClosed w)).winAfter w 3 s.chip.now else s.onChip (·.put (winAt w) Win.result 3) :=
  (if_neg hcmd).trans (if_neg (by simp [hown]))

/-! ### The slots of a window -/

theorem leNat_lt (bs : List Nat) : leNat bs < 256 ^ bs.length := by
  induction bs with
  | nil => exact Nat.one_pos
  | cons b bs ih =>
    rw [leNat, List.length_cons, Nat.pow_succ]
    have := Nat.mod_lt b (show 256 > 0 by decide)
    omega

theorem bytesAt_length (bs : List Nat) (k n : Nat) : (bytesAt bs k n).length = n := by
  simp only [bytesAt, List.length_append, List.length_take, List.length_drop, List.length_replicate]
  omega

theorem numAt_lt (bs : List Nat) (k : Nat) : numAt bs k 4 < 2 ^ 32 := by
  have h := leNat_lt (bytesAt bs k 4)
  rwa [bytesAt_length] at h

namespace Chip

theorem setNats_word (c : Chip) (a n : Nat) (bs : List Nat) :
    (∀ x, (x < a ∨ a + n ≤ x) → ((List.range n).foldl (fun c k => c.setNat (a + k) (numAt bs (4 * k) 4)) c).word x = c.word x) ∧
      ∀ k < n, ((List.range n).foldl (fun c k => c.setNat (a + k) (numAt bs (4 * k) 4)) c).nat (a + k) = numAt bs (4 * k) 4 := by
  induction n with
  | zero => exact ⟨fun _ _ => rfl, fun k hk => absurd hk (Nat.not_lt_zero k)⟩
  | succ n ih =>
    obtain ⟨hword, hnat⟩ := ih
    rw [List.range_succ, List.foldl_append]
    refine ⟨fun x hx => (word_setNat_other _ _ (by omega)).trans (hword x (by omega)), fun k hk => ?_⟩
    by_cases hkn : k = n
    · subst hkn
      exact (nat_setNat_same _ _ _).trans (Nat.mod_eq_of_lt (numAt_lt _ _))
    · exact (congrArg BitVec.toNat (word_setNat_other _ _ (by omega))).trans (hnat k (by omega))

theorem putSlot_word (c : Chip) {a x : Nat} (bs : List Nat) (h : x < a ∨ a + 16 ≤ x) : (c.putSlot a bs).word x = c.word x :=
  (c.setNats_word a 16 bs).1 x h

theorem putSlot_nat (c : Chip) (a : Nat) (bs : List Nat) {k : Nat} (hk : k < 16) : (c.putSlot a bs).nat (a + k) = numAt bs (4 * k) 4 :=
  (c.setNats_word a 16 bs).2 k hk

/-- Slots from slot `j` on, at `a`. -/
def putSlots (a : Nat) (c : Chip) (l : List (List Nat × Bool)) (j : Nat) : Chip :=
  c.each (l.zipIdx j) (fun c e => c.putSlot (a + 16 * e.2) e.1.1)

theorem putSlots_cons (a : Nat) (c : Chip) (e : List Nat × Bool) (l : List (List Nat × Bool)) (j : Nat) :
    putSlots a c (e :: l) j = putSlots a (c.putSlot (a + 16 * j) e.1) l (j + 1) := by
  rw [putSlots, List.zipIdx_cons, each, List.foldl_cons, ← each, ← putSlots]

theorem putSlots_word (a : Nat) (c : Chip) (l : List (List Nat × Bool)) (j : Nat) {x : Nat} (h : x < a + 16 * j ∨ a + 16 * (j + l.length) ≤ x) :
    (putSlots a c l j).word x = c.word x := by
  induction l generalizing c j with
  | nil => rfl
  | cons e l ih =>
    rw [List.length_cons] at h
    rw [putSlots_cons, ih _ (j + 1) (by omega)]
    exact putSlot_word _ _ (by omega)

/-- A slot holds the bytes it was given. -/
theorem putSlots_nat (a : Nat) (c : Chip) (l : List (List Nat × Bool)) (j : Nat) {i : Nat} (hi : i < l.length) {k : Nat} (hk : k < 16) :
    (putSlots a c l j).nat (a + 16 * (j + i) + k) = numAt (l[i]).1 (4 * k) 4 := by
  induction l generalizing c j i with
  | nil => exact absurd hi (Nat.not_lt_zero i)
  | cons e l ih =>
    rw [putSlots_cons]
    cases i with
    | zero =>
      rw [nat, Nat.add_zero, putSlots_word a _ l (j + 1) (by omega)]
      exact putSlot_nat _ _ _ hk
    | succ i =>
      rw [← Nat.add_assoc j i 1, Nat.add_right_comm j i 1]
      exact ih _ (j + 1) (by simpa using hi)

theorem putSlots_writes (a : Nat) (c : Chip) (l : List (List Nat × Bool)) (j : Nat) : c.Writes (fun _ => True) (putSlots a c l j) :=
  (Writes.refl _ c).each _ (fun e x _ => by
    rw [putSlot]
    exact each_rel (R := Writes (fun _ => True)) (Writes.refl _) (fun _ _ _ => Writes.trans) (List.range 16)
      (fun d k _ => (Writes.refl _ d).setNat _ trivial) e)

/-- The counts of a window after its slots are filled. -/
def winCounted (c : Chip) (w gone n next tail : Nat) : Chip :=
  (((c.bumpByI (winAt w) Win.gone_count 0 gone).put (winAt w) Win.n_valid n).put64 (winAt w) Win.cursor next).put64 (winAt w) Win.tail_now tail

theorem winCounted_writes (c : Chip) (w gone n next tail : Nat) : c.Writes (winHead w) (c.winCounted w gone n next tail) :=
  ((((Writes.refl _ c).putI _ (winHead_at (by decide))).put _ (winHead_at (by decide))).put64 _ (winHead_at (by decide))
    (winHead_at (by decide))).put64 _ (winHead_at (by decide)) (winHead_at (by decide))

theorem winCounted_get (c : Chip) (w gone tail : Nat) {n next : Nat} (hn : n < 2 ^ 5) (hnext : next < 2 ^ 64) :
    (c.winCounted w gone n next tail).get (winAt w) Win.n_valid = n ∧ (c.winCounted w gone n next tail).get64 (winAt w) Win.cursor = next := by
  refine ⟨?_, ?_⟩
  · rw [winCounted, get_put64_clear _ _ _ (by decide), get_put64_clear _ _ _ (by decide)]
    exact get_put_of_lt _ _ (by decide) hn
  · rw [winCounted, get64_put64_clear _ _ _ (by decide)]
    exact get64_put64 _ _ rfl rfl (by decide) hnext

end Chip

/-- How many slots a window fills. -/
def Chip.winCount (c : Chip) (w : Nat) : Nat :=
  if c.recd.nextSeq = 0 then 0 else min 16 (c.get64 (winAt w) Win.snap_head + 1 - c.get64 (winAt w) Win.cursor)

theorem Chip.winCount_le (c : Chip) (w : Nat) : c.winCount w ≤ 16 := by
  rw [winCount]
  split
  · exact Nat.zero_le _
  · exact Nat.min_le_left _ _

/-- The slots of a window, from its cursor on. -/
def State.winSlots (s : State) (w : Nat) (bad : List Nat) : List (List Nat × Bool) :=
  (List.range (s.chip.winCount w)).map (fun i => s.slotBytes (s.chip.get64 (winAt w) Win.cursor + i) bad)

/-- The slots of a window filled. -/
def State.winFilled (s : State) (w : Nat) (bad : List Nat) : Chip := Chip.putSlots (winAt w + 0x100) s.chip (s.winSlots w bad) 0

/-- The window after its command next. -/
def State.winNexted (s : State) (w : Nat) (bad : List Nat) : Chip :=
  ((s.winFilled w bad).winCounted w ((s.winSlots w bad).filter (·.2)).length (s.chip.winCount w)
    (s.chip.get64 (winAt w) Win.cursor + s.chip.winCount w) (s.chip.get64 recdAt Recd.tail)).winDone w 2 s.chip.now

theorem fillWindow_done (s : State) (w : Nat) (bad : List Nat) :
    (s.fillWindow w bad).winAfter w 2 s.chip.now = { s with chip := s.winNexted w bad } := rfl

theorem winNexted_head (s : State) (w : Nat) (bad : List Nat) : (s.winFilled w bad).Writes (winHead w) (s.winNexted w bad) :=
  (Chip.winCounted_writes _ _ _ _ _ _).trans (Chip.winDone_writes _ _ _ _)

theorem winNexted_writes (s : State) (w : Nat) (bad : List Nat) : s.chip.Writes (fun _ => True) (s.winNexted w bad) :=
  (Chip.putSlots_writes _ _ _ _).trans ((winNexted_head s w bad).mono (fun _ _ => trivial))

theorem winNexted_get (s : State) (w : Nat) (bad : List Nat) (hcur : s.chip.get64 (winAt w) Win.cursor + 16 < 2 ^ 64) :
    (s.winNexted w bad).get (winAt w) Win.n_valid = s.chip.winCount w ∧
      (s.winNexted w bad).get64 (winAt w) Win.cursor = s.chip.get64 (winAt w) Win.cursor + s.chip.winCount w := by
  have hle := s.chip.winCount_le w
  rw [State.winNexted, Chip.winDone_get _ _ _ _ (by decide) (by decide), Chip.winDone_get64 _ _ _ _ (by decide) (by decide)]
  exact Chip.winCounted_get _ _ _ _ (by omega) (by omega)

/-- A slot's word is beside the head of the window's block. -/
theorem not_winHead_slot (w i k : Nat) : ¬ winHead w (winAt w + 0x100 + 16 * i + k) := fun h => absurd h.2 (by omega)

theorem winNexted_slot (s : State) (w : Nat) (bad : List Nat) {i k : Nat} (hi : i < s.chip.winCount w) (hk : k < 16) :
    (s.winNexted w bad).nat (winAt w + 0x100 + 16 * i + k) =
      numAt (s.slotBytes (s.chip.get64 (winAt w) Win.cursor + i) bad).1 (4 * k) 4 := by
  have hlen : i < (s.winSlots w bad).length := by simpa [State.winSlots] using hi
  have hslot := Chip.putSlots_nat (winAt w + 0x100) s.chip (s.winSlots w bad) 0 hlen hk
  rw [Nat.zero_add] at hslot
  rw [Chip.nat, (winNexted_head s w bad).words _ (not_winHead_slot w i k)]
  refine hslot.trans ?_
  simp [State.winSlots]

/-! ### The commands' steps -/

theorem releaseBand_to {session : Fin 16} {s : State} {d : Chip} (hrole : s.chip.roleIn session [2, 3] = true) (band : BitVec 8)
    (h : s.chip.recCommand (1 + 2 ^ 16 * band.toNat) = d) : exec (.releaseBand session band) s = .next { s with chip := d } :=
  chipOnly_to s ((if_pos hrole).trans h)

/-- A band that is complete is released. -/
theorem releaseBand_frees {session : Fin 16} {s : State} (hrole : s.chip.roleIn session [2, 3] = true)
    (hres : s.chip.get recdAt Recd.result ≠ 1) {band : BitVec 8} (hb : band.toNat < 64)
    (hstate : s.chip.getI bandAt Band.b_state band.toNat = 2) : ∃ t, exec (.releaseBand session band) s = .next t ∧
      t.chip.getI bandAt Band.b_state band.toNat = 0 ∧ t.chip.bandTrip band.toNat = 0 ∧
      t.chip.get recdAt Recd.result = 2 ∧ t.chip.get recdAt Recd.last_cmd = 0 ∧
      (∀ b < 64, b ≠ band.toNat → t.chip.getI bandAt Band.b_state b = s.chip.getI bandAt Band.b_state b ∧
        t.chip.bandTrip b = s.chip.bandTrip b) ∧
      t = { s with chip := { s.chip with regs := t.chip.regs, recd := t.chip.recd } } ∧ WordsKept recorderWord s t := by
  have hstep := (Chip.recCommand_release hres band.isLt).trans (if_neg (by simp [hstate, Nat.not_le.2 hb]))
  obtain ⟨hresult, hlast⟩ := (s.chip.freeBand band.toNat).recDone_get 0 (by decide)
  have hw := (s.chip.freeBand_writes hb).trans ((s.chip.freeBand band.toNat).recDone_writes 0)
  refine ⟨_, releaseBand_to hrole band hstep, ?_, ?_, hresult, hlast, fun b _ hne => ⟨?_, ?_⟩, hw.state, hw.words.kept⟩
  · rw [Chip.recDone_band, Chip.freeBand_state]
  · rw [Chip.recDone_trip, Chip.freeBand_trip]
  · rw [Chip.recDone_band, Chip.freeBand_getI_other _ hne rfl (by decide)]
  · rw [Chip.recDone_trip, Chip.freeBand_trip_other _ hne]

theorem releaseBand_refused {session : Fin 16} {s : State} (hrole : s.chip.roleIn session [2, 3] = true)
    (hres : s.chip.get recdAt Recd.result ≠ 1) {band : BitVec 8}
    (h : 64 ≤ band.toNat ∨ s.chip.getI bandAt Band.b_state band.toNat ≠ 2) : ∃ t, exec (.releaseBand session band) s = .next t ∧
      t.chip.get recdAt Recd.result = 3 ∧ t = { s with chip := { s.chip with regs := t.chip.regs } } ∧
      WordsKept (fun a => a = Recd.result.at recdAt 0) s t :=
  ⟨_, releaseBand_to hrole band ((Chip.recCommand_release hres band.isLt).trans (if_pos (by simpa using h))),
    Chip.get_put_of_lt _ _ (by decide) (by decide), rfl, put_kept _ _ _ _⟩

theorem releaseAll_frees {session : Fin 16} {s : State} (hrole : s.chip.roleIn session [2, 3] = true)
    (hres : s.chip.get recdAt Recd.result ≠ 1) : ∃ t, exec (.releaseAllBands session) s = .next t ∧ t.chip.get recdAt Recd.result = 2 ∧
      (∀ b < 64, t.chip.getI bandAt Band.b_state b =
        (if s.chip.getI bandAt Band.b_state b = 2 then 0 else s.chip.getI bandAt Band.b_state b)) ∧
      t = { s with chip := { s.chip with regs := t.chip.regs, recd := t.chip.recd } } ∧ WordsKept recorderWord s t := by
  have hw := (Chip.freeBands_writes (c := s.chip) ((List.range 64).filter (fun b => s.chip.getI bandAt Band.b_state b == 2))
    (fun b hb => List.mem_range.1 (List.mem_filter.1 hb).1)).trans (Chip.recDone_writes _ 1)
  refine ⟨_, chipOnly_to s ((if_pos hrole).trans (Chip.recCommand_all hres)), (Chip.recDone_get _ 1 (by decide)).1, fun b hb => ?_,
    hw.state, hw.words.kept⟩
  rw [Chip.recDone_band, Chip.freeBands_state]
  simp [hb]

theorem windowOpen_opens {session : Fin 16} {window : Fin 4} {s : State} (hs : Shaped s) (hrole : s.chip.roleIn session [2, 3] = true)
    (hfree : s.chip.get (winAt window) Win.state = 0) : ∃ t, exec (.windowOpen session window) s = .next t ∧
      t.chip.get (winAt window) Win.state = 1 ∧ t.chip.get (winAt window) Win.sid = s.chip.getI sessAt Sess.sid session ∧
      t.chip.get64 (winAt window) Win.cursor = s.chip.get64 recdAt Recd.tail ∧
      t.chip.get64 (winAt window) Win.snap_head = s.chip.get64 recdAt Recd.head ∧
      t.chip.get (winAt window) Win.result = 2 ∧ nth 0 t.chip.recd.winAt window = s.chip.now ∧
      t = { s with chip := { s.chip with regs := t.chip.regs, recd := t.chip.recd } } ∧
      WordsKept (fun a => winAt window ≤ a ∧ a < winAt window + 0x10) s t := by
  obtain ⟨hstate, hsid, hcursor, hhead⟩ := s.chip.winOpened_get window (s.chip.getI sessAt Sess.sid session) (s.chip.getI_lt _ Sess.sid _)
  have hw := (s.chip.winOpened_writes window (s.chip.getI sessAt Sess.sid session)).trans (Chip.winDone_writes _ window 0 s.chip.now)
  refine ⟨_, next_congr ((if_pos hrole).trans (winCommand_open hfree)), ?_, ?_, ?_, ?_, Chip.winDone_result _ _ _ _, ?_, hw.state,
    hw.words.kept⟩
  · rw [Chip.winDone_get _ _ _ _ (by decide) (by decide), hstate]
  · rw [Chip.winDone_get _ _ _ _ (by decide) (by decide), hsid]
  · rw [Chip.winDone_get64 _ _ _ _ (by decide) (by decide), hcursor]
  · rw [Chip.winDone_get64 _ _ _ _ (by decide) (by decide), hhead]
  · exact nth_upd_same _ _ _ _ (lt_of_lt_of_eq window.isLt hs.sized.winAt.symm)

/-- A window that the session does not own. -/
theorem window_foreign {session : Fin 16} {window : Fin 4} {s : State} (hrole : s.chip.roleIn session [2, 3] = true)
    (hown : s.chip.ownsWindow session window = false) (bad : List (BitVec 64)) :
    ∀ c ∈ [Instr.windowNext session window bad, .windowClose session window], ∃ t, exec c s = .next t ∧
      t.chip.get (winAt window) Win.result = 3 ∧ t = { s with chip := { s.chip with regs := t.chip.regs } } ∧
      WordsKept (fun a => a = Win.result.at (winAt window) 0) s t := by
  have hstep : ∀ c ∈ [Instr.windowNext session window bad, .windowClose session window],
      exec c s = .next { s with chip := s.chip.put (winAt window) Win.result 3 } := by
    simp only [List.mem_cons, List.not_mem_nil, or_false]
    rintro c (rfl | rfl)
    · exact next_congr ((if_pos hrole).trans (winCommand_foreign hown (by decide) _))
    · exact next_congr ((if_pos hrole).trans (winCommand_foreign hown (by decide) _))
  exact fun c hc => ⟨_, hstep c hc, Chip.get_put_of_lt _ _ (by decide) (by decide), rfl, put_kept _ _ _ _⟩

theorem windowNext_fills {session : Fin 16} {window : Fin 4} {s : State} (hrole : s.chip.roleIn session [2, 3] = true)
    (hown : s.chip.ownsWindow session window = true) (bad : List (BitVec 64))
    (hcur : s.chip.get64 (winAt window) Win.cursor + 16 < 2 ^ 64) : ∃ t, exec (.windowNext session window bad) s = .next t ∧
      t.chip.get (winAt window) Win.n_valid = s.chip.winCount window ∧
      t.chip.get64 (winAt window) Win.cursor = s.chip.get64 (winAt window) Win.cursor + s.chip.winCount window ∧
      t.chip.get (winAt window) Win.result = 2 ∧
      (∀ i < s.chip.winCount window, ∀ k < 16, t.chip.nat (winAt window + 0x100 + 16 * i + k) =
        numAt (s.slotBytes (s.chip.get64 (winAt window) Win.cursor + i) (bad.map (·.toNat))).1 (4 * k) 4) ∧
      t = { s with chip := { s.chip with regs := t.chip.regs, recd := t.chip.recd } } := by
  have hstep := (winCommand_own hown (by decide) (bad.map (·.toNat))).trans ((if_neg (by decide : ¬ 4 = 2)).trans (if_pos rfl))
  obtain ⟨hvalid, hcursor⟩ := winNexted_get s window (bad.map (·.toNat)) hcur
  exact ⟨_, next_congr ((if_pos hrole).trans (hstep.trans (fillWindow_done _ _ _))), hvalid, hcursor, Chip.winDone_result _ _ _ _,
    fun i hi k hk => winNexted_slot _ _ _ hi hk, (winNexted_writes _ _ _).state⟩

/-- The cursor of a window, sought. -/
theorem winSought_cursor (c : Chip) (w : Nat) {seq : Nat} (hseq : seq < 2 ^ 64) :
    ((c.winAsked w seq).winSought w).get64 (winAt w) Win.cursor = seq := by
  have hlo : (c.winAsked w seq).nat (winAt w + 0xB) = seq % 2 ^ 32 := by
    rw [Chip.winAsked, Chip.nat, Chip.word_setNat_other _ _ (by omega), ← Chip.nat, Chip.nat_setNat_same, Nat.mod_mod]
  have hhi : (c.winAsked w seq).nat (winAt w + 0xC) = seq / 2 ^ 32 := by
    rw [Chip.winAsked, Chip.nat_setNat_same]
    exact Nat.mod_eq_of_lt (Nat.div_lt_of_lt_mul hseq)
  have hfull : ∀ (d : Chip) (i : Nat), d.getI (winAt w) Win.cursor i = d.nat (winAt w + 7 + i) := fun d i => by
    rw [Chip.getI, Field.of_full rfl rfl, Field.at_eq, Chip.nat, ← Nat.add_assoc]
    simp [Win.cursor, Field.many]
  rw [Chip.get64, hfull, hfull, Chip.winSought, hlo, hhi, Nat.add_zero, Chip.nat_setNat_same, Chip.nat, Chip.word_setNat_other _ _ (by omega),
    ← Chip.nat, Chip.nat_setNat_same]
  omega

theorem winAsked_writes (c : Chip) (w seq : Nat) : c.Writes (winHead w) (c.winAsked w seq) :=
  ((Chip.Writes.refl _ c).setNat _ ⟨by omega, by omega⟩).setNat _ ⟨by omega, by omega⟩

theorem winSought_writes (c : Chip) (w : Nat) : c.Writes (winHead w) (c.winSought w) :=
  ((Chip.Writes.refl _ c).setNat _ ⟨by omega, by omega⟩).setNat _ ⟨by omega, by omega⟩

theorem winClosed_writes (c : Chip) (w : Nat) : c.Writes (winHead w) (c.winClosed w) :=
  ((Chip.Writes.refl _ c).put _ (winHead_at (by decide))).put _ (winHead_at (by decide))

/-- The number asked for leaves who owns the window. -/
theorem winAsked_owns (c : Chip) (i : Fin 16) (w : Fin 4) (seq : Nat) : (c.winAsked w seq).ownsWindow i w = c.ownsWindow i w := by
  have hsess : Sess.sid.at sessAt i ≠ winAt w + 0xB ∧ Sess.sid.at sessAt i ≠ winAt w + 0xC := by
    simp only [Field.at, Sess.sid, Field.many, sessAt, winAt, blockAddr]
    omega
  have hhead : ∀ {f : Field}, f.first = 0 → (c.winAsked w seq).get (winAt w) f = c.get (winAt w) f := fun {f} hf => by
    refine Chip.get_congr ?_
    rw [Chip.winAsked, Chip.word_setNat_other _ _ (by rw [Field.at_eq]; omega), Chip.word_setNat_other _ _ (by rw [Field.at_eq]; omega)]
  have hsid : (c.winAsked w seq).getI sessAt Sess.sid i = c.getI sessAt Sess.sid i := by
    refine Chip.getI_congr ?_
    rw [Chip.winAsked, Chip.word_setNat_other _ _ hsess.2, Chip.word_setNat_other _ _ hsess.1]
  rw [Chip.ownsWindow, hhead rfl, hhead rfl, hsid, Chip.ownsWindow]

/-- The machine with the number of a seek in its words. -/
def State.winAskedAfter (s : State) (w seq : Nat) : State := { s with chip := s.chip.winAsked w seq }

theorem windowSeek_step {session : Fin 16} {window : Fin 4} {s : State} (hrole : s.chip.roleIn session [2, 3] = true) (seq : BitVec 64) :
    exec (.windowSeek session window seq) s = .next ((s.onChip (fun c => c.when (c.ownsWindow session window)
      (fun c => c.winAsked window seq.toNat))).winCommand session window 2 []) := next_congr (if_pos hrole)

theorem windowSeek_seeks {session : Fin 16} {window : Fin 4} {s : State} (hrole : s.chip.roleIn session [2, 3] = true)
    (hown : s.chip.ownsWindow session window = true) (seq : BitVec 64) : ∃ t, exec (.windowSeek session window seq) s = .next t ∧
      t.chip.get64 (winAt window) Win.cursor = seq.toNat ∧ t.chip.get (winAt window) Win.result = 2 ∧
      t = { s with chip := { s.chip with regs := t.chip.regs, recd := t.chip.recd } } ∧
      WordsKept (fun a => winAt window ≤ a ∧ a < winAt window + 0x10) s t := by
  have hasked : s.onChip (fun c => c.when (c.ownsWindow session window) (fun c => c.winAsked window seq.toNat)) = s.winAskedAfter window seq.toNat :=
    congrArg (fun d => ({ s with chip := d } : State)) (if_pos hown)
  have hstep := windowSeek_step (window := window) hrole seq
  rw [hasked, winCommand_own (s := s.winAskedAfter window seq.toNat) ((winAsked_owns _ _ _ _).trans hown) (by decide), if_pos rfl] at hstep
  have hw := ((winAsked_writes s.chip window seq.toNat).trans (winSought_writes _ _)).trans (Chip.winDone_writes _ window 1 s.chip.now)
  exact ⟨_, hstep, (Chip.winDone_get64 _ _ _ _ (by decide) (by decide)).trans (winSought_cursor _ _ seq.isLt), Chip.winDone_result _ _ _ _,
    hw.state, hw.words.kept⟩

theorem windowClose_closes {session : Fin 16} {window : Fin 4} {s : State} (hrole : s.chip.roleIn session [2, 3] = true)
    (hown : s.chip.ownsWindow session window = true) : ∃ t, exec (.windowClose session window) s = .next t ∧
      t.chip.get (winAt window) Win.state = 0 ∧ t.chip.get (winAt window) Win.sid = 0 ∧ t.chip.get (winAt window) Win.result = 2 ∧
      t = { s with chip := { s.chip with regs := t.chip.regs, recd := t.chip.recd } } ∧
      WordsKept (fun a => winAt window ≤ a ∧ a < winAt window + 0x10) s t := by
  have hstep := (winCommand_own hown (by decide) []).trans ((if_neg (by decide : ¬ 8 = 2)).trans ((if_neg (by decide : ¬ 8 = 4)).trans (if_pos rfl)))
  have hw := (winClosed_writes s.chip window).trans (Chip.winDone_writes _ window 3 s.chip.now)
  obtain ⟨hstate, hsid⟩ := s.chip.winClosed_get window
  exact ⟨_, next_congr ((if_pos hrole).trans hstep), (Chip.winDone_get _ _ _ _ (by decide) (by decide)).trans hstate,
    (Chip.winDone_get _ _ _ _ (by decide) (by decide)).trans hsid, Chip.winDone_result _ _ _ _, hw.state, hw.words.kept⟩

/-- A session of another role commands nothing. -/
theorem recorder_roleless {session : Fin 16} {s : State} (hrole : s.chip.roleIn session [2, 3] = false) (band : BitVec 8) (window : Fin 4)
    (seq : BitVec 64) (bad : List (BitVec 64)) :
    ∀ c ∈ [Instr.releaseBand session band, .releaseAllBands session, .windowOpen session window, .windowNext session window bad,
      .windowSeek session window seq, .windowClose session window], exec c s = .next s := by
  have hno : ¬ s.chip.roleIn session [2, 3] = true := by simp [hrole]
  simp only [List.mem_cons, List.not_mem_nil, or_false]
  rintro c (rfl | rfl | rfl | rfl | rfl | rfl)
  · exact chipOnly_to s (if_neg hno)
  · exact chipOnly_to s (if_neg hno)
  · exact next_congr (if_neg hno)
  · exact next_congr (if_neg hno)
  · exact next_congr (if_neg hno)
  · exact next_congr (if_neg hno)

theorem windowIdle_frees {window : Fin 4} {s : State} (hstate : s.chip.get (winAt window) Win.state ≠ 0)
    (hidle : nth 0 s.chip.recd.winAt window + 60000000 ≤ s.chip.now) : ∃ t, exec (.windowIdleTimeout window) s = .next t ∧
      t.chip.get (winAt window) Win.state = 0 ∧ t.chip.get (winAt window) Win.sid = 0 ∧
      t = { s with chip := { s.chip with regs := t.chip.regs } } ∧ WordsKept (fun a => a = Win.state.at (winAt window) 0) s t := by
  obtain ⟨hfree, hsid⟩ := s.chip.winClosed_get window
  have hclosed : s.chip.WordsBut (fun a => a = Win.state.at (winAt window) 0) (s.chip.winClosed window) :=
    fun a ha => (Chip.word_put_other (f := Win.sid) _ _ ha).trans (Chip.word_put_other _ _ ha)
  exact ⟨_, chipOnly_to s (if_pos (by simp [hstate, hidle])), hfree, hsid, rfl, hclosed.kept⟩

/-- Settles O41: bands and windows of the recorder. -/
theorem bandsAndWindows : Obligations.BandsAndWindows := by
  intro session s hs
  refine ⟨fun hrole band window seq bad => recorder_roleless hrole band window seq bad, fun hrole hres => ⟨fun band =>
    ⟨fun hb hstate => releaseBand_frees hrole hres hb hstate, fun h => releaseBand_refused hrole hres h⟩, releaseAll_frees hrole hres⟩,
    fun window hrole => ⟨fun hfree => windowOpen_opens hs hrole hfree, fun hown bad => window_foreign hrole hown bad, fun hown =>
      ⟨fun bad hcur => windowNext_fills hrole hown bad hcur, fun seq => windowSeek_seeks hrole hown seq, windowClose_closes hrole hown⟩⟩,
    fun window hstate hidle => windowIdle_frees hstate hidle⟩

end Sys2Proof.Machine
end

section
/-! SUPPORT. What the operations of a fault or a fence leave of the module's conditions. -/

namespace Sys2Proof.Machine

/-- The module's conditions but for the tongs that wait, the counts last accepted and the cuts in force. -/
def Chip.steady (c : Chip) : SysSt := { c.sys with resync := [], encs := [], cutCh := 0, cutAx := 0 }

theorem Chip.steady_congr {c d : Chip} (h : d.sys = c.sys) : d.steady = c.steady := by rw [Chip.steady, h, Chip.steady]

theorem Chip.setSys_steady (c : Chip) {f : SysSt → SysSt} (h : ({ f c.sys with resync := [], encs := [], cutCh := 0, cutAx := 0 } : SysSt) =
    { c.sys with resync := [], encs := [], cutCh := 0, cutAx := 0 }) : (c.setSys f).steady = c.steady := h

@[simp] theorem Chip.setWord_steady (c : Chip) (a : Nat) (v : Word) : (c.setWord a v).steady = c.steady := rfl
@[simp] theorem Chip.setNat_steady (c : Chip) (a v : Nat) : (c.setNat a v).steady = c.steady := rfl
@[simp] theorem Chip.putI_steady (c : Chip) (b : Nat) (f : Field) (i v : Nat) : (c.putI b f i v).steady = c.steady := rfl
@[simp] theorem Chip.put_steady (c : Chip) (b : Nat) (f : Field) (v : Nat) : (c.put b f v).steady = c.steady := rfl
@[simp] theorem Chip.record_steady (c : Chip) (source region severity subject : Nat) (bs ws : List Nat) :
    (c.record source region severity subject bs ws).steady = c.steady := Chip.steady_congr (Chip.record_sys c _ _ _ _ _ _)

/-- A change made in turn for the elements of a list leaves the module's conditions where each one does. -/
@[simp] theorem Chip.each_steady {α : Type} {f : Chip → α → Chip} (h : ∀ c x, (f c x).steady = c.steady) (c : Chip) (l : List α) :
    (c.each l f).steady = c.steady := by
  unfold Chip.each
  induction l generalizing c with
  | nil => rfl
  | cons x xs ih => exact (ih (f c x)).trans (h c x)

@[simp] theorem Chip.when_steady {f : Chip → Chip} (h : ∀ c, (f c).steady = c.steady) (c : Chip) (b : Bool) :
    (c.when b f).steady = c.steady := by
  cases b
  · rfl
  · exact h c

@[simp] theorem Chip.steady_ite {p : Prop} [Decidable p] (c d : Chip) : (if p then c else d).steady = if p then c.steady else d.steady :=
  apply_ite _ _ _ _

@[simp] theorem Chip.bumpByI_steady (c : Chip) (b : Nat) (f : Field) (i k : Nat) : (c.bumpByI b f i k).steady = c.steady := by
  simp [Chip.bumpByI]

@[simp] theorem Chip.bump_steady (c : Chip) (b : Nat) (f : Field) :
    (c.bump b f).steady = c.steady := Chip.steady_congr (by simp)

@[simp] theorem Chip.putBit_steady (c : Chip) (b : Nat) (f : Field) (i : Nat) (v : Bool) :
    (c.putBit b f i v).steady = c.steady := by
  simp [Chip.putBit]

@[simp] theorem Chip.fresh_steady (c : Chip) :
    c.fresh.steady = c.steady := Chip.steady_congr (by simp)

@[simp] theorem Chip.setChan_steady (c : Chip) (g : Nat) (f : ChanSt → ChanSt) :
    (c.setChan g f).steady = c.steady := Chip.steady_congr (by simp)

@[simp] theorem Chip.recSync_steady (c : Chip) : c.recSync.steady = c.steady := by
  simp [Chip.recSync]

@[simp] theorem Chip.aOn_steady (c : Chip) (g n : Nat) : (c.aOn g n).steady = c.steady := by
  simp [Chip.aOn]

@[simp] theorem Chip.aOff_steady (c : Chip) (g n : Nat) : (c.aOff g n).steady = c.steady := by
  simp [Chip.aOff]

@[simp] theorem Chip.dOff_steady (c : Chip) (g n : Nat) : (c.dOff g n).steady = c.steady := by
  simp [Chip.dOff]

@[simp] theorem Chip.tongsRefuse_steady (c : Chip) (r d : Nat) : (c.tongsRefuse r d).steady = c.steady := by
  simp [Chip.tongsRefuse]

@[simp] theorem Chip.emit_steady (c : Chip) (e : Emit) : (c.emit e).steady = c.steady := rfl

@[simp] theorem Chip.putStatus_steady (c : Chip) (g : Nat) : (c.putStatus g).steady = c.steady := by
  simp [Chip.putStatus]

@[simp] theorem Chip.setImage_steady (c : Chip) (g v : Nat) : (c.setImage g v).steady = c.steady := by
  simp [Chip.setImage]

@[simp] theorem Chip.see_steady (c : Chip) (g : Nat) (k : Cond) (holds : Bool) : (c.see g k holds).steady = c.steady := by
  simp [Chip.see]

@[simp] theorem Chip.raiseBellows_steady (c : Chip) (g cmd : Nat) : (c.raiseBellows g cmd).steady = c.steady := by
  simp [Chip.raiseBellows]

@[simp] theorem Chip.endBackFed_steady (c : Chip) (g : Nat) : (c.endBackFed g).steady = c.steady := by
  simp -implicitDefEqProofs [Chip.endBackFed]

@[simp] theorem Chip.setSwitch_steady (c : Chip) (g : Nat) (close : Bool) : (c.setSwitch g close).steady = c.steady := by
  simp [Chip.setSwitch]

@[simp] theorem Chip.alarmSync_steady (c : Chip) (g : Nat) : (c.alarmSync g).steady = c.steady := by
  simp [Chip.alarmSync]

@[simp] theorem Chip.seeCurrent_steady (c0 : Chip) (g : Nat) (ua : Int) : (c0.seeCurrent g ua).steady = c0.steady := by
  simp [Chip.seeCurrent]

@[simp] theorem Chip.startPwm_steady (c : Chip) (g cmd : Nat) : (c.startPwm g cmd).steady = c.steady := by
  simp [Chip.startPwm]

@[simp] theorem Chip.driveWith_steady (c : Chip) (g cmd0 : Nat) : (c.driveWith g cmd0).steady = c.steady := by
  simp [Chip.driveWith]

@[simp] theorem Chip.openNow_steady (c : Chip) (g : Nat) : (c.openNow g).steady = c.steady := by
  simp [Chip.openNow]

@[simp] theorem Chip.resolve_steady (c : Chip) (g : Nat) : (c.resolve g).steady = c.steady := by
  simp [Chip.resolve]

@[simp] theorem Chip.beginLevel2_steady (c : Chip) (g : Nat) : (c.beginLevel2 g).steady = c.steady := by
  simp [Chip.beginLevel2]

@[simp] theorem Chip.resetTongs_steady (c : Chip) (k : Nat) : (c.resetTongs k).steady = c.steady := by
  unfold Chip.resetTongs
  simp only [Chip.steady_ite, Chip.bumpByI_steady, ite_self]
  rfl

@[simp] theorem Chip.setCtr_steady (c : Chip) (r j : Nat) (f : CtrOne → CtrOne) :
    (c.setCtr r j f).steady = c.steady := Chip.steady_congr (by simp)

@[simp] theorem Chip.counterOver_steady (c : Chip) (r j : Nat) : (c.counterOver r j).steady = c.steady := by
  simp [Chip.counterOver]

@[simp] theorem Chip.countEvent_steady (c : Chip) (r : Nat) (e : CtrEvent) : (c.countEvent r e).steady = c.steady := by
  simp [Chip.countEvent]

@[simp] theorem Chip.countPass_steady (c : Chip) (r cls port : Nat) (out : Bool) (master priv bytes : Nat) :
    (c.countPass r cls port out master priv bytes).steady = c.steady := by
  simp [Chip.countPass]

@[simp] theorem Chip.setAx_steady (c : Chip) (x : Nat) (f : AxSt → AxSt) :
    (c.setAx x f).steady = c.steady := Chip.steady_congr (by simp)

@[simp] theorem Chip.xOn_steady (c : Chip) (x n : Nat) : (c.xOn x n).steady = c.steady := by
  simp [Chip.xOn]

@[simp] theorem Chip.xOff_steady (c : Chip) (x n : Nat) : (c.xOff x n).steady = c.steady := by
  simp [Chip.xOff]

@[simp] theorem Chip.xSet_steady (c : Chip) (x n : Nat) (b : Bool) : (c.xSet x n b).steady = c.steady := by
  simp [Chip.xSet]

@[simp] theorem Chip.axSync_steady (c0 : Chip) (x : Nat) : (c0.axSync x).steady = c0.steady := by
  simp -implicitDefEqProofs [Chip.axSync]

@[simp] theorem Chip.xRecord_steady (c : Chip) (source x severity : Nat) (bs ws : List Nat) :
    (c.xRecord source x severity bs ws).steady = c.steady := by
  simp [Chip.xRecord]

@[simp] theorem Chip.setRef_steady (c : Chip) (x new : Nat) : (c.setRef x new).steady = c.steady := by
  simp [Chip.setRef]

@[simp] theorem Chip.endAct_steady (c : Chip) (x code : Nat) : (c.endAct x code).steady = c.steady := by
  simp only [Chip.endAct]
  (repeat' split) <;> simp

@[simp] theorem Chip.lossInMotion_steady (c : Chip) (x : Nat) (speed : Int) : (c.lossInMotion x speed).steady = c.steady := by
  simp [Chip.lossInMotion]

@[simp] theorem Chip.takeProfile_steady (c : Chip) (x : Nat) : (c.takeProfile x).steady = c.steady := by
  simp [Chip.takeProfile]

@[simp] theorem Chip.atRest_steady (c : Chip) (x : Nat) : (c.atRest x).steady = c.steady := by
  simp [Chip.atRest]

@[simp] theorem Chip.setOut_steady (c : Chip) (x : Nat) (target : Int) : (c.setOut x target).steady = c.steady := by
  simp [Chip.setOut]

@[simp] theorem Chip.startRun_steady (c : Chip) (x speed : Nat) (d : Int) : (c.startRun x speed d).steady = c.steady := by
  simp [Chip.startRun]

@[simp] theorem Chip.brake_steady (c : Chip) (x : Nat) (limit : Option (Int × Nat)) : (c.brake x limit).steady = c.steady := by
  simp [Chip.brake]

@[simp] theorem Chip.quietTake_steady (c : Chip) (x : Nat) : (c.quietTake x).steady = c.steady := by
  simp [Chip.quietTake]

@[simp] theorem Chip.stageLost_steady (c : Chip) (x code : Nat) : (c.stageLost x code).steady = c.steady := by
  simp [Chip.stageLost]

@[simp] theorem Chip.stageBack_steady (c : Chip) (x : Nat) : (c.stageBack x).steady = c.steady := by
  simp [Chip.stageBack]

@[simp] theorem Chip.stageSet_steady (c : Chip) (x causes : Nat) : (c.stageSet x causes).steady = c.steady := by
  simp [Chip.stageSet]

@[simp] theorem Chip.stageCause_steady (c : Chip) (x n : Nat) (on : Bool) : (c.stageCause x n on).steady = c.steady := by
  simp [Chip.stageCause]

@[simp] theorem Chip.homeFault_steady (c : Chip) (x code : Nat) : (c.homeFault x code).steady = c.steady := by
  simp [Chip.homeFault]

@[simp] theorem Chip.homeEdge_steady (c : Chip) (x : Nat) (on : Bool) : (c.homeEdge x on).steady = c.steady := by
  simp [Chip.homeEdge]

@[simp] theorem Chip.homeStep_steady (c : Chip) (x k : Nat) : (c.homeStep x k).steady = c.steady := by
  simp [Chip.homeStep]

@[simp] theorem Chip.actDone_steady (c : Chip) (x : Nat) : (c.actDone x).steady = c.steady := by
  simp [Chip.actDone]

@[simp] theorem Chip.homeDone_steady (c : Chip) (x : Nat) : (c.homeDone x).steady = c.steady := by
  simp [Chip.homeDone]

@[simp] theorem Chip.motionEnd_steady (c : Chip) (x : Nat) : (c.motionEnd x).steady = c.steady := by
  simp [Chip.motionEnd]

@[simp] theorem Chip.wake_steady (c : Chip) (x : Nat) : (c.wake x).steady = c.steady := by
  simp [Chip.wake]

@[simp] theorem Chip.axLevel2_steady (c : Chip) (x : Nat) : (c.axLevel2 x).steady = c.steady := by
  simp [Chip.axLevel2]

@[simp] theorem Chip.speedDemand_steady (c : Chip) (x : Nat) (out : Int) : (c.speedDemand x out).steady = c.steady := by
  simp [Chip.speedDemand]

@[simp] theorem Chip.setLoop_steady (c : Chip) (n : Nat) (f : LoopSt → LoopSt) :
    (c.setLoop n f).steady = c.steady := Chip.steady_congr (by simp)

@[simp] theorem Chip.setSlice_steady (c : Chip) (r : Nat) (f : SliceSt → SliceSt) :
    (c.setSlice r f).steady = c.steady := Chip.steady_congr (by simp)

@[simp] theorem Chip.putInteg_steady (c : Chip) (n : Nat) (v : Int) : (c.putInteg n v).steady = c.steady := by
  simp [Chip.putInteg]

@[simp] theorem Chip.setLoopState_steady (c : Chip) (n new : Nat) : (c.setLoopState n new).steady = c.steady := by
  simp [Chip.setLoopState]

@[simp] theorem Chip.markSpan_steady (c : Chip) (g : Nat) : (c.markSpan g).steady = c.steady := by
  simp [Chip.markSpan]

@[simp] theorem Chip.kick_steady (c : Chip) (r : Nat) : (c.kick r).steady = c.steady := by
  unfold Chip.kick
  (repeat' split) <;> simp -implicitDefEqProofs

@[simp] theorem Chip.stopSlice_steady (c : Chip) (r cause : Nat) : (c.stopSlice r cause).steady = c.steady := by
  simp [Chip.stopSlice]

@[simp] theorem Chip.fenceSlice_steady (c : Chip) (r : Nat) : (c.fenceSlice r).steady = c.steady := by
  simp [Chip.fenceSlice]

@[simp] theorem Chip.put48_steady (c : Chip) (b : Nat) (f : Field) (i : Nat) (v : Int) : (c.put48 b f i v).steady = c.steady := by
  simp [Chip.put48]

@[simp] theorem Chip.putSections_steady (c : Chip) (n j : Nat) (l : List (Int × Int)) : (c.putSections n j l).steady = c.steady := by
  induction l generalizing c j with
  | nil => rfl
  | cons e t ih => simp [Chip.putSections, ih]

@[simp] theorem Chip.loopBegin_steady (c : Chip) (n : Nat) (man : Int) (startAuto : Bool) : (c.loopBegin n man startAuto).steady = c.steady := by
  simp [Chip.loopBegin, Chip.putInteg]

@[simp] theorem Chip.startSlice_steady (c : Chip) (r : Nat) : (c.startSlice r).steady = c.steady := by
  simp [Chip.startSlice]

@[simp] theorem Chip.setPanel_steady (c : Chip) (f : PanelSt → PanelSt) :
    (c.setPanel f).steady = c.steady := Chip.steady_congr (by simp)

@[simp] theorem Chip.nOff_steady (c : Chip) (n : Nat) : (c.nOff n).steady = c.steady := by
  simp [Chip.nOff]

@[simp] theorem Chip.panelState_steady (c : Chip) (st : Nat) : (c.panelState st).steady = c.steady := by
  simp [Chip.panelState]

@[simp] theorem Chip.panelCut_steady (c : Chip) : c.panelCut.steady = c.steady := by
  simp [Chip.panelCut]

@[simp] theorem Chip.wantPanel_steady (c : Chip) : c.wantPanel.steady = c.steady := by
  simp [Chip.wantPanel]

@[simp] theorem Chip.panelYield_steady (c : Chip) : c.panelYield.steady = c.steady := by
  simp [Chip.panelYield]

@[simp] theorem Chip.setIsle_steady (c : Chip) (r : Nat) (f : IsleSt → IsleSt) :
    (c.setIsle r f).steady = c.steady := Chip.steady_congr (by simp)

@[simp] theorem Chip.setFnSt_steady (c : Chip) (r j : Nat) (f : FnSt → FnSt) : (c.setFnSt r j f).steady = c.steady := by
  simp [Chip.setFnSt]

@[simp] theorem Chip.setSf_steady (c : Chip) (sf : Nat) (f : SfSt → SfSt) :
    (c.setSf sf f).steady = c.steady := Chip.steady_congr (by simp)

@[simp] theorem Chip.goFn_steady (c : Chip) (r : Nat) (f : FnCfg) (new cause : Nat) (input : Nat) :
    (c.goFn r f new cause input).steady = c.steady := by
  simp only [Chip.goFn]
  split
  · rfl
  · have hlast : ∀ d : Chip, (d.when (new == 5 || c.sfState r f.j == 5) (·.putI (isleAt r) Isle.disc f.j (b2n (new == 5)))).steady = d.steady :=
      fun d => Chip.when_steady (fun e => e.putI_steady _ _ _ _) d _
    split <;> simp [hlast]

@[simp] theorem Chip.applyCuts_steady (c : Chip) (r : Nat) : (c.applyCuts r).steady = c.steady := by
  simp only [Chip.applyCuts]
  rw [Chip.each_steady (fun _ _ => by simp), Chip.each_steady (fun _ _ => by simp), Chip.each_steady (fun _ _ => by simp)]
  rfl

@[simp] theorem Chip.setSafeOut_steady (c : Chip) (r : Nat) (f : FnCfg) : (c.setSafeOut r f).steady = c.steady := by
  unfold Chip.setSafeOut
  (repeat' split) <;> simp -implicitDefEqProofs

@[simp] theorem Chip.stopIsle_steady (c : Chip) (r cause : Nat) : (c.stopIsle r cause).steady = c.steady := by
  simp -implicitDefEqProofs [Chip.stopIsle]

@[simp] theorem Chip.netSend_steady (c : Chip) (kind : Nat) (bs : List Nat) : (c.netSend kind bs).steady = c.steady := by
  unfold Chip.netSend
  simp only []
  split
  · simp
  · exact (Chip.steady_congr (c := Chip.each _ _ _) rfl).trans (by simp)

@[simp] theorem Chip.setPair_steady (c : Chip) (f : PairSt → PairSt) :
    (c.setPair f).steady = c.steady := Chip.steady_congr (by simp)

@[simp] theorem Chip.laneEmit_steady (c : Chip) (l kind : Nat) (ws : List Nat) : (c.laneEmit l kind ws).steady = c.steady := by
  simp [Chip.laneEmit]

@[simp] theorem Chip.laneSend_steady (c : Chip) (kind : Nat) (ws : List Nat) : (c.laneSend kind ws).steady = c.steady := by
  simp [Chip.laneSend]

@[simp] theorem Chip.putLane_steady (c : Chip) (l : Nat) (up : Bool) : (c.putLane l up).steady = c.steady := by
  simp [Chip.putLane]

@[simp] theorem Chip.laneFault_steady (c : Chip) (l : Nat) : (c.laneFault l).steady = c.steady := by
  simp [Chip.laneFault]

@[simp] theorem Chip.shareRamp_steady (c : Chip) (kind : Nat) : (c.shareRamp kind).steady = c.steady := by
  simp [Chip.shareRamp]

@[simp] theorem Chip.resolveShared_steady (c : Chip) : c.resolveShared.steady = c.steady := by
  simp [Chip.resolveShared]

@[simp] theorem Chip.holderSync_steady (c : Chip) : c.holderSync.steady = c.steady := by
  simp [Chip.holderSync]

@[simp] theorem Chip.axisYield_steady (c : Chip) (x : Nat) : (c.axisYield x).steady = c.steady := by
  simp [Chip.axisYield]

@[simp] theorem Chip.axisTake_steady (c : Chip) (x : Nat) : (c.axisTake x).steady = c.steady := by
  simp [Chip.axisTake]

@[simp] theorem Chip.setLease_steady (c : Chip) (new severity changed : Nat) : (c.setLease new severity changed).steady = c.steady := by
  have hyield : ∀ (d : Chip) (l : List Nat), (d.each l (fun c x => c.axisYield x)).steady = d.steady := fun d l =>
    Chip.each_steady (fun e x => e.axisYield_steady x) d l
  have htake : ∀ (d : Chip) (l : List Nat), (d.each l (fun c x => c.axisTake x)).steady = d.steady := fun d l =>
    Chip.each_steady (fun e x => e.axisTake_steady x) d l
  have hcause : ∀ (d : Chip) (l : List Nat), (d.each l (fun c x => c.stageCause x 7 false)).steady = d.steady := fun d l =>
    Chip.each_steady (fun e x => e.stageCause_steady x 7 false) d l
  unfold Chip.setLease
  extract_lets old c1 c2 was is axes c3 c4 c4b c5
  have h2 : c2.steady = c.steady := by
    exact (Chip.record_steady _ _ _ _ _ _ _).trans ((Chip.holderSync_steady _).trans (Chip.put_steady _ _ _ _))
  have h3 : c3.steady = c2.steady := by
    simp only [c3, Chip.steady_ite, hyield, htake, hcause, ite_self]
  have h4 : c4.steady = c3.steady := by
    simp only [c4, Chip.steady_ite, Chip.shareRamp_steady, ite_self]
  have h4b : c4b.steady = c4.steady := by
    refine Chip.when_steady (fun d => ?_) c4 _
    exact Chip.steady_congr (c := d) rfl
  have h5 : c5.steady = c4b.steady := by
    simp only [c5, Chip.steady_ite, Chip.resolveShared_steady, ite_self]
  have hwant : ∀ p : PanelSt, ({ c5.wantPanel with panel := p } : Chip).steady = c5.steady := fun _ => Chip.steady_congr rfl
  rw [apply_ite Chip.steady, apply_ite Chip.steady, apply_ite Chip.steady, hwant, Chip.panelYield_steady, ite_self, ite_self, h5, h4b, h4, h3, h2, ite_self]

@[simp] theorem Chip.yieldLease_steady (c : Chip) (new : Nat) : (c.yieldLease new).steady = c.steady := by
  simp [Chip.yieldLease]

@[simp] theorem Chip.pairStop_steady (c : Chip) : c.pairStop.steady = c.steady := by
  simp [Chip.pairStop]

@[simp] theorem Chip.halt_steady (c : Chip) (reason : Nat) : (c.halt reason).steady = c.steady := by
  simp [Chip.halt]

@[simp] theorem Chip.setPort_steady (c : Chip) (r : Nat) (f : PortSt → PortSt) :
    (c.setPort r f).steady = c.steady := Chip.steady_congr (by simp)

@[simp] theorem Chip.setObj_steady (c : Chip) (r j : Nat) (f : PortObj → PortObj) :
    (c.setObj r j f).steady = c.steady := Chip.steady_congr (by simp)

@[simp] theorem Chip.pOn_steady (c : Chip) (r n : Nat) : (c.pOn r n).steady = c.steady := by
  simp [Chip.pOn]

@[simp] theorem Chip.objSync_steady (c : Chip) (r j : Nat) : (c.objSync r j).steady = c.steady := by
  simp [Chip.objSync]

@[simp] theorem Chip.failShot_steady (c : Chip) (r j : Nat) (all : Bool) : (c.failShot r j all).steady = c.steady := by
  simp [Chip.failShot]

@[simp] theorem Chip.rewait_steady (c : Chip) (r : Nat) : (c.rewait r).steady = c.steady := by
  simp [Chip.rewait]

@[simp] theorem Chip.requeue_steady (c : Chip) (r : Nat) : (c.requeue r).steady = c.steady := by
  simp [Chip.requeue]

@[simp] theorem Chip.cancelSends_steady (c : Chip) (r : Nat) : (c.cancelSends r).steady = c.steady := by
  simp [Chip.cancelSends]

@[simp] theorem Chip.beginRestart_steady (c : Chip) (r : Nat) (restart : Bool) :
    (c.beginRestart r restart).steady = c.steady := by
  simp [Chip.beginRestart]

@[simp] theorem Chip.portSync_steady (c : Chip) (r : Nat) : (c.portSync r).steady = c.steady := by
  simp [Chip.portSync]

@[simp] theorem Chip.setOutcome_steady (c : Chip) (s : Nat) (busy ok : Bool) (code : Nat) :
    (c.setOutcome s busy ok code).steady = c.steady := rfl

@[simp] theorem Chip.setNet_steady (c : Chip) (f : NetSt → NetSt) :
    (c.setNet f).steady = c.steady := Chip.steady_congr (by simp)

@[simp] theorem Chip.setSess_steady (c : Chip) (i : Nat) (f : SessSt → SessSt) :
    (c.setSess i f).steady = c.steady := Chip.steady_congr (by simp)

@[simp] theorem Chip.sendTo_steady (c : Chip) (peer port : Nat) (bs : List Nat) :
    (c.sendTo peer port bs).steady = c.steady := by
  simp [Chip.sendTo]

@[simp] theorem Chip.reply_steady (c : Chip) (i typ seq rid : Nat) (body : List Nat) :
    (c.reply i typ seq rid body).steady = c.steady := by
  simp [Chip.reply]

@[simp] theorem Chip.flushAnswers_steady (c : Chip) (i n : Nat) : (c.flushAnswers i n).steady = c.steady := by
  induction n generalizing c with
  | zero => rfl
  | succ n ih =>
    unfold Chip.flushAnswers
    split
    · split <;> simp [ih]
    · rfl

@[simp] theorem Chip.answer_steady (c : Chip) (a : AskedBy) (bs : List Nat) : (c.answer a bs).steady = c.steady := by
  simp [Chip.answer]

@[simp] theorem Chip.answerTo_steady (c : Chip) (a : Option AskedBy) (bs : List Nat) : (c.answerTo a bs).steady = c.steady := by
  unfold Chip.answerTo
  (repeat' split) <;> simp -implicitDefEqProofs

@[simp] theorem Chip.setEng_steady (c : Chip) (f : EngSt → EngSt) :
    (c.setEng f).steady = c.steady := Chip.steady_congr (by simp)

@[simp] theorem Chip.svyEnd_steady (c : Chip) (result off gain : Nat) : (c.svyEnd result off gain).steady = c.steady := by
  unfold Chip.svyEnd
  (repeat' split) <;> simp -implicitDefEqProofs

@[simp] theorem Chip.svyAbortRegion_steady (c : Chip) (r : Nat) : (c.svyAbortRegion r).steady = c.steady := by
  unfold Chip.svyAbortRegion
  (repeat' split) <;> simp -implicitDefEqProofs

@[simp] theorem Chip.changeDone_steady (c : Chip) (q : QChange) (reason : Nat) : (c.changeDone q reason).steady = c.steady := by
  unfold Chip.changeDone
  (repeat' split) <;> simp -implicitDefEqProofs

@[simp] theorem Chip.refuseChange_steady (c : Chip) (q : QChange) (reason : Nat) :
    (c.refuseChange q reason).steady = c.steady := by
  simp -implicitDefEqProofs [Chip.refuseChange]

@[simp] theorem Chip.dropPending_steady (c : Chip) : c.dropPending.steady = c.steady := by
  simp [Chip.dropPending]

@[simp] theorem Chip.haltEngine_steady (c : Chip) (state : Nat) : (c.haltEngine state).steady = c.steady := by
  simp [Chip.haltEngine]

@[simp] theorem Chip.allSafe_steady (c : Chip) : c.allSafe.steady = c.steady := by
  simp [Chip.allSafe]

@[simp] theorem Chip.stopSlices_steady (c : Chip) (cause : Nat) : (c.stopSlices cause).steady = c.steady := by
  simp [Chip.stopSlices]

@[simp] theorem Chip.axesStop_steady (c : Chip) : c.axesStop.steady = c.steady := by
  simp [Chip.axesStop]

@[simp] theorem Chip.setRec_steady (c : Chip) (f : RecSt → RecSt) :
    (c.setRec f).steady = c.steady := Chip.steady_congr (by simp)

@[simp] theorem Chip.stopRecorder_steady (c : Chip) : c.stopRecorder.steady = c.steady := by
  simp [Chip.stopRecorder]

@[simp] theorem Chip.setXfer_steady (c : Chip) (f : XferSt → XferSt) :
    (c.setXfer f).steady = c.steady := Chip.steady_congr (by simp)

@[simp] theorem Chip.setFab_steady (c : Chip) (r : Nat) (f : FabSt → FabSt) :
    (c.setFab r f).steady = c.steady := Chip.steady_congr (by simp)

@[simp] theorem Chip.xferAbort_steady (c : Chip) : c.xferAbort.steady = c.steady := by
  simp [Chip.xferAbort]

@[simp] theorem Chip.faultStop_steady (c : Chip) : c.faultStop.steady = c.steady := by
  simp [Chip.faultStop]

@[simp] theorem Chip.stationDown_steady (c : Chip) (p : Nat) : (c.stationDown p).steady = c.steady := by
  simp [Chip.stationDown]

@[simp] theorem Chip.guardChan_steady (c : Chip) (g : Nat) : (c.guardChan g).steady = c.steady := by
  simp -implicitDefEqProofs [Chip.guardChan]

@[simp] theorem Chip.abandonPanel_steady (c : Chip) : c.abandonPanel.steady = c.steady := by
  simp [Chip.abandonPanel]

@[simp] theorem Chip.abandonBlock_steady (c : Chip) (r i : Nat) : (c.abandonBlock r i).steady = c.steady := by
  simp [Chip.abandonBlock]

@[simp] theorem Chip.afresh_steady (c : Chip) (g : Nat) : (c.afresh g).steady = c.steady := by
  simp [Chip.afresh]

@[simp] theorem Chip.setLink_steady (c : Chip) (r k : Nat) (f : LinkSt → LinkSt) :
    (c.setLink r k f).steady = c.steady := Chip.steady_congr (by simp)

@[simp] theorem Chip.putFlit_steady (c : Chip) (r k kind number : Nat) (ws : List Nat) :
    (c.putFlit r k kind number ws).steady = c.steady := by
  simp [Chip.putFlit]

@[simp] theorem Chip.sendFlit_steady (c : Chip) (r k : Nat) (ws : List Nat) : (c.sendFlit r k ws).steady = c.steady := by
  simp [Chip.sendFlit]

@[simp] theorem Chip.sendNext_steady (c : Chip) (r d : Nat) (ws : List Nat) : (c.sendNext r d ws).steady = c.steady := by
  simp only [Chip.sendNext]
  (repeat' split) <;> simp

@[simp] theorem Chip.sendOn_steady (c : Chip) (r : Nat) (ws : List Nat) : (c.sendOn r ws).steady = c.steady := by
  unfold Chip.sendOn
  (repeat' split) <;> simp -implicitDefEqProofs

@[simp] theorem Chip.sendTowards_steady (c : Chip) (r d kind : Nat) : (c.sendTowards r d kind).steady = c.steady := by
  simp [Chip.sendTowards]

end Sys2Proof.Machine
end

section
/-! SUPPORT. What they leave of the words that say which regions are fitted and which blocks are fenced. -/

namespace Sys2Proof.Machine

/-- Which regions are fitted, which blocks of each region are fenced and how its last command ended, and that a block was fenced. -/
def Chip.posted (c : Chip) : Nat × Nat × (Fin 8 → Nat × Nat) :=
  (c.get identAt Ident.fitted, c.get statusAt Status.block_fence_seen, fun r => (c.get (regionAt r) Region.fenced, c.get (regionAt r) Region.result))

theorem Chip.posted_ext {c d : Chip} (hfit : d.get identAt Ident.fitted = c.get identAt Ident.fitted)
    (hseen : d.get statusAt Status.block_fence_seen = c.get statusAt Status.block_fence_seen)
    (hfenced : ∀ r : Fin 8, d.get (regionAt r) Region.fenced = c.get (regionAt r) Region.fenced)
    (hresult : ∀ r : Fin 8, d.get (regionAt r) Region.result = c.get (regionAt r) Region.result) : d.posted = c.posted := by
  simp only [Chip.posted, hfit, hseen, hfenced, hresult]

/-- An address of another word than these. -/
def unposted (a : Nat) : Prop := a ≠ identAt ∧ a ≠ statusAt + 4 ∧ a % 2 ^ 28 ≠ 1 ∧ a % 2 ^ 28 ≠ 15

theorem Chip.posted_congr {c d : Chip} (h : d.regs = c.regs) : d.posted = c.posted := by
  have hw : ∀ a, d.word a = c.word a := fun a => by rw [Chip.word, h, Chip.word]
  simp only [Chip.posted, Chip.get_congr (hw _)]

theorem Chip.setWord_posted (c : Chip) {a : Nat} (v : Word) (h : unposted a) : (c.setWord a v).posted = c.posted := by
  obtain ⟨hi, hs, hr, hres⟩ := h
  have hident : (c.setWord a v).word (Ident.fitted.at identAt 0) = c.word (Ident.fitted.at identAt 0) :=
    Chip.word_setWord_other c v (fun e => hi e.symm)
  have hstatus : (c.setWord a v).word (Status.block_fence_seen.at statusAt 0) = c.word (Status.block_fence_seen.at statusAt 0) :=
    Chip.word_setWord_other c v (fun e => hs e.symm)
  have hfenced : ∀ r, (c.setWord a v).word (Region.fenced.at (regionAt r) 0) = c.word (Region.fenced.at (regionAt r) 0) := fun r =>
    Chip.word_setWord_other c v (fun e => hr (by
      rw [← e]
      simp only [Field.at, Region.fenced, Field.one, regionAt, blockAddr]
      omega))
  have hresult : ∀ r, (c.setWord a v).word (Region.result.at (regionAt r) 0) = c.word (Region.result.at (regionAt r) 0) := fun r =>
    Chip.word_setWord_other c v (fun e => hres (by
      rw [← e]
      simp only [Field.at, Region.result, Field.one, regionAt, blockAddr]
      omega))
  exact Chip.posted_ext (Chip.get_congr hident) (Chip.get_congr hstatus) (fun r => Chip.get_congr (hfenced r)) (fun r => Chip.get_congr (hresult r))

theorem Chip.putI_posted (c : Chip) {b i : Nat} {f : Field} (v : Nat) (h : unposted (f.at b i)) : (c.putI b f i v).posted = c.posted :=
  Chip.setWord_posted c _ h

/-- A word of a block that is none of the first two of its space. -/
theorem unposted_word (r : Nat) {b o : Nat} (hb : 2 ≤ b ∧ b < 4096) (ho : o < 65536) : unposted (blockAddr r b + o) := by
  have hblock := blockOf_blockAddr (r := r) hb.2 ho
  have hident : blockOf identAt = 0 := by decide
  have hstatus : blockOf (statusAt + 4) = 1 := by decide
  refine ⟨fun e => ?_, fun e => ?_, fun e => ?_, fun e => ?_⟩
  · rw [e, hident] at hblock; omega
  · rw [e, hstatus] at hblock; omega
  · simp only [blockOf] at hblock; omega
  · simp only [blockOf] at hblock; omega

theorem unposted_block (r : Nat) {b : Nat} {f : Field} {i : Nat} (hb : 2 ≤ b ∧ b < 4096) (ho : f.first + i * f.stride < 65536) :
    unposted (f.at (blockAddr r b) i) := by
  rw [Field.at_eq]
  exact unposted_word r hb ho

/-- A field of the region's own block behind its first sixteen words. -/
theorem unposted_region (r : Nat) {f : Field} {i : Nat} (ho : 16 ≤ f.first + i * f.stride) (ho' : f.first + i * f.stride < 65536) :
    unposted (f.at (regionAt r) i) := by
  simp only [unposted, Field.at_eq, regionAt, blockAddr, identAt, statusAt]
  omega

/-- Does the field lie within its block? -/
def Field.short (f : Field) : Bool := decide (f.first < 65536)

theorem Field.short_iff {f : Field} : f.short = true ↔ f.first + 0 * f.stride < 65536 := by simp [Field.short]



/-- A write at an address that is known. -/
@[simp] theorem Chip.put_posted (c : Chip) (v : Nat) {f : Field} {b : Nat} (h : (decide (f.at b 0 ≠ identAt) && decide (f.at b 0 ≠ statusAt + 4) && decide (f.at b 0 % 2 ^ 28 ≠ 1) && decide (f.at b 0 % 2 ^ 28 ≠ 15)) = true) :
    (c.put b f v).posted = c.posted :=
  Chip.putI_posted c v (by simpa [unposted, and_assoc] using h)

@[simp] theorem Chip.put_chan_posted (c : Chip) (v : Nat) {f : Field} (g : Nat) (h : f.short = true) : (c.put (chanAt g) f v).posted = c.posted :=
  Chip.putI_posted c v (unposted_block _ (by omega) (Field.short_iff.1 h))

@[simp] theorem Chip.put_axis_posted (c : Chip) (v : Nat) {f : Field} (x : Nat) (h : f.short = true) : (c.put (axisAt x) f v).posted = c.posted :=
  Chip.putI_posted c v (unposted_block _ (by omega) (Field.short_iff.1 h))

@[simp] theorem Chip.put_loop_posted (c : Chip) (v : Nat) {f : Field} (n : Nat) (h : f.short = true) : (c.put (loopAt n) f v).posted = c.posted :=
  Chip.putI_posted c v (unposted_block _ (by omega) (Field.short_iff.1 h))

@[simp] theorem Chip.put_port_posted (c : Chip) (v : Nat) {f : Field} (r : Nat) (h : f.short = true) : (c.put (portAt r) f v).posted = c.posted :=
  Chip.putI_posted c v (unposted_block _ (by omega) (Field.short_iff.1 h))

@[simp] theorem Chip.put_ctr_posted (c : Chip) (v : Nat) {f : Field} (r : Nat) (h : f.short = true) : (c.put (ctrAt r) f v).posted = c.posted :=
  Chip.putI_posted c v (unposted_block _ (by omega) (Field.short_iff.1 h))

@[simp] theorem Chip.put_isle_posted (c : Chip) (v : Nat) {f : Field} (r : Nat) (h : f.short = true) : (c.put (isleAt r) f v).posted = c.posted :=
  Chip.putI_posted c v (unposted_block _ (by omega) (Field.short_iff.1 h))

@[simp] theorem Chip.put_stew_posted (c : Chip) (v : Nat) {f : Field} (r : Nat) (h : f.short = true) : (c.put (stewAt r) f v).posted = c.posted :=
  Chip.putI_posted c v (unposted_block _ (by omega) (Field.short_iff.1 h))

/-- A bit of the last status word beside the one that says a block was fenced. -/
theorem Chip.put_status_posted (c : Chip) (v : Nat) {f : Field} (h : f.clear Status.block_fence_seen = true) (hat : f.at statusAt 0 = statusAt + 4) :
    (c.put statusAt f v).posted = c.posted := by
  have hident : (c.put statusAt f v).word (Ident.fitted.at identAt 0) = c.word (Ident.fitted.at identAt 0) :=
    Chip.word_put_other c v (by rw [hat]; decide)
  have hfenced : ∀ r, (c.put statusAt f v).word (Region.fenced.at (regionAt r) 0) = c.word (Region.fenced.at (regionAt r) 0) := fun r =>
    Chip.word_put_other c v (by
      rw [hat]
      simp only [Field.at, Region.fenced, Field.one, regionAt, blockAddr, statusAt]
      omega)
  have hresult : ∀ r, (c.put statusAt f v).word (Region.result.at (regionAt r) 0) = c.word (Region.result.at (regionAt r) 0) := fun r =>
    Chip.word_put_other c v (by
      rw [hat]
      simp only [Field.at, Region.result, Field.one, regionAt, blockAddr, statusAt]
      omega)
  exact Chip.posted_ext (Chip.get_congr hident) (Chip.get_put_clear _ _ _ h) (fun r => Chip.get_congr (hfenced r))
    (fun r => Chip.get_congr (hresult r))

@[simp] theorem Chip.putBit_posted (c : Chip) {f : Field} (b : Nat) (i : Nat) (x : Bool) (h : ∀ w, (c.put b f w).posted = c.posted) :
    (c.putBit b f i x).posted = c.posted := h _

@[simp] theorem Chip.bump_posted (c : Chip) {f : Field} (b : Nat) (h : ∀ w, (c.put b f w).posted = c.posted) : (c.bump b f).posted = c.posted := h _

@[simp] theorem Chip.record_posted (c : Chip) (source region severity subject : Nat) (bs ws : List Nat) :
    (c.record source region severity subject bs ws).posted = c.posted := by
  have hregion : ∀ (f : Field) (r : Fin 8), f.first < 65536 → f.stride = 1 →
      (c.record source region severity subject bs ws).get (regionAt r) f = c.get (regionAt r) f := fun f r hf hs =>
    Chip.record_get c _ _ _ _ _ _ (by rw [regionAt, Field.space_at _ (by decide) (by omega)]; omega)
  exact Chip.posted_ext (Chip.record_get c _ _ _ _ _ _ (by decide)) (Chip.record_get c _ _ _ _ _ _ (by decide))
    (fun r => hregion Region.fenced r (by decide) rfl) (fun r => hregion Region.result r (by decide) rfl)

/-- A change made in turn for the elements of a list leaves these words where each one does. -/
@[simp] theorem Chip.each_posted {α : Type} {f : Chip → α → Chip} (h : ∀ c x, (f c x).posted = c.posted) (c : Chip) (l : List α) :
    (c.each l f).posted = c.posted := by
  unfold Chip.each
  induction l generalizing c with
  | nil => rfl
  | cons x xs ih => exact (ih (f c x)).trans (h c x)

@[simp] theorem Chip.when_posted {f : Chip → Chip} (h : ∀ c, (f c).posted = c.posted) (c : Chip) (b : Bool) :
    (c.when b f).posted = c.posted := by
  cases b
  · rfl
  · exact h c

@[simp] theorem Chip.posted_ite {p : Prop} [Decidable p] (c d : Chip) : (if p then c else d).posted = if p then c.posted else d.posted :=
  apply_ite _ _ _ _

theorem Chip.bumpByI_posted (c : Chip) {b i : Nat} {f : Field} (k : Nat) (h : unposted (f.at b i)) : (c.bumpByI b f i k).posted = c.posted :=
  Chip.putI_posted c _ h

/-- A member of a list of changes that each leave these words. -/
theorem Chip.each_posted_mem {α : Type} {f : Chip → α → Chip} (l : List α) (h : ∀ c, ∀ x ∈ l, (f c x).posted = c.posted) (c : Chip) :
    (c.each l f).posted = c.posted :=
  Chip.each_rel (R := fun c d => d.posted = c.posted) (fun _ => rfl) (fun _ _ _ h k => k.trans h) l h c

/-- The words of a port's objects that hold their state. -/
theorem unposted_port (r j : Nat) {f : Field} (hf : f.first = 0x1002) (hs : f.stride = 32) : unposted (f.at (portAt r) j) := by
  simp only [unposted, Field.at_eq, hf, hs, portAt, blockAddr, identAt, statusAt]
  omega


@[simp] theorem Chip.fresh_posted (c : Chip) :
    c.fresh.posted = c.posted := Chip.posted_congr (by simp)

@[simp] theorem Chip.setChan_posted (c : Chip) (g : Nat) (f : ChanSt → ChanSt) :
    (c.setChan g f).posted = c.posted := Chip.posted_congr (by simp)



@[simp] theorem Chip.aOn_posted (c : Chip) (g n : Nat) : (c.aOn g n).posted = c.posted :=
  (Chip.put_chan_posted _ _ g (by decide)).trans (Chip.setWord_posted c _ (unposted_word _ (by omega) (by decide)))

@[simp] theorem Chip.aOff_posted (c : Chip) (g n : Nat) : (c.aOff g n).posted = c.posted := by
  simp +decide [Chip.aOff]

@[simp] theorem Chip.dOff_posted (c : Chip) (g n : Nat) : (c.dOff g n).posted = c.posted := by
  simp +decide [Chip.dOff]

@[simp] theorem Chip.tongsRefuse_posted (c : Chip) (r : Nat) {d : Nat} (h : d < 8) : (c.tongsRefuse r d).posted = c.posted := by
  rw [Chip.tongsRefuse, Chip.posted_ite, Chip.bumpByI_posted c _ (unposted_region _ (by simp only [Cross.refused, Field.many]; omega)
    (by simp only [Cross.refused, Field.many]; omega)), ite_self]

@[simp] theorem Chip.emit_posted (c : Chip) (e : Emit) : (c.emit e).posted = c.posted := rfl

@[simp] theorem Chip.putStatus_posted (c : Chip) (g : Nat) : (c.putStatus g).posted = c.posted := by
  simp +decide [Chip.putStatus]

@[simp] theorem Chip.setImage_posted (c : Chip) (g v : Nat) : (c.setImage g v).posted = c.posted := by
  simp +decide [Chip.setImage]

@[simp] theorem Chip.see_posted (c : Chip) (g : Nat) (k : Cond) (holds : Bool) : (c.see g k holds).posted = c.posted := by
  simp +decide [Chip.see]

@[simp] theorem Chip.raiseBellows_posted (c : Chip) (g cmd : Nat) : (c.raiseBellows g cmd).posted = c.posted := by
  simp +decide [Chip.raiseBellows]

@[simp] theorem Chip.endBackFed_posted (c : Chip) (g : Nat) : (c.endBackFed g).posted = c.posted := by
  simp +decide [Chip.endBackFed]

@[simp] theorem Chip.setSwitch_posted (c : Chip) (g : Nat) (close : Bool) : (c.setSwitch g close).posted = c.posted := by
  simp +decide [Chip.setSwitch]

@[simp] theorem Chip.alarmSync_posted (c : Chip) (g : Nat) : (c.alarmSync g).posted = c.posted := by
  simp +decide [Chip.alarmSync]

@[simp] theorem Chip.seeCurrent_posted (c0 : Chip) (g : Nat) (ua : Int) : (c0.seeCurrent g ua).posted = c0.posted := by
  simp +decide [Chip.seeCurrent]

@[simp] theorem Chip.startPwm_posted (c : Chip) (g cmd : Nat) : (c.startPwm g cmd).posted = c.posted := by
  simp +decide [Chip.startPwm]

@[simp] theorem Chip.driveWith_posted (c : Chip) (g cmd0 : Nat) : (c.driveWith g cmd0).posted = c.posted := by
  simp +decide [Chip.driveWith]

@[simp] theorem Chip.openNow_posted (c : Chip) (g : Nat) : (c.openNow g).posted = c.posted := by
  simp +decide [Chip.openNow]

@[simp] theorem Chip.resolve_posted (c : Chip) (g : Nat) : (c.resolve g).posted = c.posted := by
  simp +decide [Chip.resolve]

@[simp] theorem Chip.beginLevel2_posted (c : Chip) (g : Nat) : (c.beginLevel2 g).posted = c.posted := by
  simp +decide [Chip.beginLevel2]

@[simp] theorem Chip.resetTongs_posted (c : Chip) (k : Nat) : (c.resetTongs k).posted = c.posted := by
  unfold Chip.resetTongs
  simp only []
  split
  · exact (Chip.bumpByI_posted _ _ (unposted_region _ (by simp only [Cross.discarded, Field.many]; omega)
      (by simp only [Cross.discarded, Field.many]; omega))).trans (Chip.posted_congr rfl)
  · exact Chip.posted_congr rfl

@[simp] theorem Chip.setCtr_posted (c : Chip) (r j : Nat) (f : CtrOne → CtrOne) :
    (c.setCtr r j f).posted = c.posted := Chip.posted_congr (by simp)

@[simp] theorem Chip.counterOver_posted (c : Chip) (r j : Nat) : (c.counterOver r j).posted = c.posted := by
  simp +decide [Chip.counterOver]

@[simp] theorem Chip.countEvent_posted (c : Chip) (r : Nat) (e : CtrEvent) : (c.countEvent r e).posted = c.posted := by
  refine Chip.each_posted_mem _ (fun d j hj => ?_) c
  have hj8 : j < 8 := List.mem_range.1 (List.mem_filter.1 hj).1
  have hvalue : ∀ v, (d.putI (ctrAt r) Ctr.value j v).posted = d.posted := fun v =>
    Chip.putI_posted d v (unposted_block _ (by omega) (by simp only [Ctr.value, Field.many]; omega))
  simp only []
  split
  · simp [hvalue]
  · simp [hvalue]

@[simp] theorem Chip.countPass_posted (c : Chip) (r cls port : Nat) (out : Bool) (master priv bytes : Nat) :
    (c.countPass r cls port out master priv bytes).posted = c.posted := by
  simp +decide [Chip.countPass]

@[simp] theorem Chip.setAx_posted (c : Chip) (x : Nat) (f : AxSt → AxSt) :
    (c.setAx x f).posted = c.posted := Chip.posted_congr (by simp)

@[simp] theorem Chip.xOn_posted (c : Chip) (x n : Nat) : (c.xOn x n).posted = c.posted :=
  (Chip.put_axis_posted _ _ x (by decide)).trans (Chip.setWord_posted c _ (unposted_word _ (by omega) (by decide)))

@[simp] theorem Chip.xOff_posted (c : Chip) (x n : Nat) : (c.xOff x n).posted = c.posted := by
  simp +decide [Chip.xOff]

@[simp] theorem Chip.xSet_posted (c : Chip) (x n : Nat) (b : Bool) : (c.xSet x n b).posted = c.posted := by
  simp +decide [Chip.xSet]

@[simp] theorem Chip.axSync_posted (c0 : Chip) (x : Nat) : (c0.axSync x).posted = c0.posted := by
  simp +decide [Chip.axSync]

@[simp] theorem Chip.xRecord_posted (c : Chip) (source x severity : Nat) (bs ws : List Nat) :
    (c.xRecord source x severity bs ws).posted = c.posted := by
  simp +decide [Chip.xRecord]

@[simp] theorem Chip.setRef_posted (c : Chip) (x new : Nat) : (c.setRef x new).posted = c.posted := by
  simp +decide [Chip.setRef]

@[simp] theorem Chip.endAct_posted (c : Chip) (x code : Nat) : (c.endAct x code).posted = c.posted := by
  unfold Chip.endAct
  simp only []
  split
  · exact Chip.posted_congr rfl
  · split
    · exact (Chip.bump_posted _ _ (fun _ => Chip.put_axis_posted _ _ x (by decide))).trans ((Chip.put_axis_posted _ _ x (by decide)).trans
        (Chip.posted_congr rfl))
    · exact (Chip.put_axis_posted _ _ x (by decide)).trans (Chip.posted_congr rfl)

@[simp] theorem Chip.lossInMotion_posted (c : Chip) (x : Nat) (speed : Int) : (c.lossInMotion x speed).posted = c.posted := by
  simp +decide [Chip.lossInMotion]

@[simp] theorem Chip.takeProfile_posted (c : Chip) (x : Nat) : (c.takeProfile x).posted = c.posted := by
  simp +decide [Chip.takeProfile]

@[simp] theorem Chip.atRest_posted (c : Chip) (x : Nat) : (c.atRest x).posted = c.posted := by
  simp +decide [Chip.atRest]

@[simp] theorem Chip.setOut_posted (c : Chip) (x : Nat) (target : Int) : (c.setOut x target).posted = c.posted := by
  simp +decide [Chip.setOut]

@[simp] theorem Chip.startRun_posted (c : Chip) (x speed : Nat) (d : Int) : (c.startRun x speed d).posted = c.posted := by
  simp +decide [Chip.startRun]

@[simp] theorem Chip.brake_posted (c : Chip) (x : Nat) (limit : Option (Int × Nat)) : (c.brake x limit).posted = c.posted := by
  simp +decide [Chip.brake]

@[simp] theorem Chip.quietTake_posted (c : Chip) (x : Nat) : (c.quietTake x).posted = c.posted := by
  simp +decide [Chip.quietTake]

@[simp] theorem Chip.stageLost_posted (c : Chip) (x code : Nat) : (c.stageLost x code).posted = c.posted := by
  simp +decide [Chip.stageLost]

@[simp] theorem Chip.stageBack_posted (c : Chip) (x : Nat) : (c.stageBack x).posted = c.posted := by
  simp +decide [Chip.stageBack]

@[simp] theorem Chip.stageSet_posted (c : Chip) (x causes : Nat) : (c.stageSet x causes).posted = c.posted := by
  simp +decide [Chip.stageSet]

@[simp] theorem Chip.stageCause_posted (c : Chip) (x n : Nat) (on : Bool) : (c.stageCause x n on).posted = c.posted := by
  simp +decide [Chip.stageCause]

@[simp] theorem Chip.homeFault_posted (c : Chip) (x code : Nat) : (c.homeFault x code).posted = c.posted := by
  simp +decide [Chip.homeFault]

@[simp] theorem Chip.homeEdge_posted (c : Chip) (x : Nat) (on : Bool) : (c.homeEdge x on).posted = c.posted := by
  simp +decide [Chip.homeEdge]

@[simp] theorem Chip.homeStep_posted (c : Chip) (x k : Nat) : (c.homeStep x k).posted = c.posted := by
  simp +decide [Chip.homeStep]

@[simp] theorem Chip.actDone_posted (c : Chip) (x : Nat) : (c.actDone x).posted = c.posted := by
  simp +decide [Chip.actDone]

@[simp] theorem Chip.homeDone_posted (c : Chip) (x : Nat) : (c.homeDone x).posted = c.posted := by
  simp +decide [Chip.homeDone]

@[simp] theorem Chip.motionEnd_posted (c : Chip) (x : Nat) : (c.motionEnd x).posted = c.posted := by
  simp +decide [Chip.motionEnd]

@[simp] theorem Chip.wake_posted (c : Chip) (x : Nat) : (c.wake x).posted = c.posted := by
  simp +decide [Chip.wake]

@[simp] theorem Chip.axLevel2_posted (c : Chip) (x : Nat) : (c.axLevel2 x).posted = c.posted := by
  simp +decide [Chip.axLevel2]

@[simp] theorem Chip.speedDemand_posted (c : Chip) (x : Nat) (out : Int) : (c.speedDemand x out).posted = c.posted := by
  simp +decide [Chip.speedDemand]

@[simp] theorem Chip.setLoop_posted (c : Chip) (n : Nat) (f : LoopSt → LoopSt) :
    (c.setLoop n f).posted = c.posted := Chip.posted_congr (by simp)

@[simp] theorem Chip.setSlice_posted (c : Chip) (r : Nat) (f : SliceSt → SliceSt) :
    (c.setSlice r f).posted = c.posted := Chip.posted_congr (by simp)

@[simp] theorem Chip.putInteg_posted (c : Chip) (n : Nat) (v : Int) : (c.putInteg n v).posted = c.posted := by
  simp +decide [Chip.putInteg]

@[simp] theorem Chip.setLoopState_posted (c : Chip) (n new : Nat) : (c.setLoopState n new).posted = c.posted := by
  simp +decide [Chip.setLoopState]

@[simp] theorem Chip.markSpan_posted (c : Chip) (g : Nat) : (c.markSpan g).posted = c.posted := by
  simp +decide [Chip.markSpan]

@[simp] theorem Chip.kick_posted (c : Chip) (r : Nat) : (c.kick r).posted = c.posted := by
  unfold Chip.kick
  (repeat' split) <;> simp +decide

@[simp] theorem Chip.stopSlice_posted (c : Chip) (r cause : Nat) : (c.stopSlice r cause).posted = c.posted := by
  simp +decide [Chip.stopSlice]

@[simp] theorem Chip.fenceSlice_posted (c : Chip) (r : Nat) : (c.fenceSlice r).posted = c.posted := by
  simp +decide [Chip.fenceSlice]

theorem Chip.put48_posted (c : Chip) (n : Nat) {i : Nat} (v : Int) (h : i < 31) : (c.put48 (loopAt n) Loop.states i v).posted = c.posted := by
  have hput : ∀ (d : Chip) (k w : Nat), k ≤ 31 → (d.putI (loopAt n) Loop.states k w).posted = d.posted := fun d k w hk =>
    Chip.putI_posted d w (unposted_block _ (by omega) (by simp only [Loop.states, Field.many]; omega))
  rw [Chip.put48, hput _ _ _ (by omega), hput _ _ _ (by omega)]

theorem Chip.putSections_posted (c : Chip) (n j : Nat) (l : List (Int × Int)) (h : 4 * (j + l.length) ≤ 32) :
    (c.putSections n j l).posted = c.posted := by
  induction l generalizing c j with
  | nil => rfl
  | cons e t ih =>
    rw [List.length_cons] at h
    rw [Chip.putSections, ih _ _ (by omega), Chip.put48_posted _ _ _ (by omega), Chip.put48_posted _ _ _ (by omega)]

@[simp] theorem Chip.loopBegin_posted (c : Chip) (n : Nat) (man : Int) (startAuto : Bool) : (c.loopBegin n man startAuto).posted = c.posted := by
  have hput : ∀ (d : Chip) (f : Field) (v : Nat), f.short = true → (d.put (loopAt n) f v).posted = d.posted := fun d f v hf =>
    Chip.put_loop_posted d v n hf
  simp only [Chip.loopBegin, Chip.setLoopState_posted]
  rw [Chip.posted_congr (Chip.setLoop_regs _ _ _), Chip.putSections_posted _ _ _ _ (by simp), Chip.putInteg, hput _ _ _ (by decide),
    hput _ _ _ (by decide), hput _ _ _ (by decide)]

@[simp] theorem Chip.startSlice_posted (c : Chip) (r : Nat) : (c.startSlice r).posted = c.posted := by
  simp +decide [Chip.startSlice]

@[simp] theorem Chip.setPanel_posted (c : Chip) (f : PanelSt → PanelSt) :
    (c.setPanel f).posted = c.posted := Chip.posted_congr (by simp)

@[simp] theorem Chip.nOff_posted (c : Chip) (n : Nat) : (c.nOff n).posted = c.posted := by
  simp +decide [Chip.nOff]

@[simp] theorem Chip.panelState_posted (c : Chip) (st : Nat) : (c.panelState st).posted = c.posted := by
  simp +decide [Chip.panelState]

@[simp] theorem Chip.panelCut_posted (c : Chip) : c.panelCut.posted = c.posted := by
  simp +decide [Chip.panelCut]

@[simp] theorem Chip.wantPanel_posted (c : Chip) : c.wantPanel.posted = c.posted := by
  simp +decide [Chip.wantPanel]

@[simp] theorem Chip.panelYield_posted (c : Chip) : c.panelYield.posted = c.posted := by
  simp +decide [Chip.panelYield]

@[simp] theorem Chip.setIsle_posted (c : Chip) (r : Nat) (f : IsleSt → IsleSt) :
    (c.setIsle r f).posted = c.posted := Chip.posted_congr (by simp)

@[simp] theorem Chip.setFnSt_posted (c : Chip) (r j : Nat) (f : FnSt → FnSt) : (c.setFnSt r j f).posted = c.posted := by
  simp +decide [Chip.setFnSt]

@[simp] theorem Chip.setSf_posted (c : Chip) (sf : Nat) (f : SfSt → SfSt) :
    (c.setSf sf f).posted = c.posted := Chip.posted_congr (by simp)

@[simp] theorem Chip.goFn_posted (c : Chip) (r : Nat) (f : FnCfg) (new cause : Nat) (input : Nat) :
    (c.goFn r f new cause input).posted = c.posted := by
  have hj : f.j < 8 := Nat.mod_lt _ (by decide)
  have hput : ∀ (d : Chip) (g : Field) (v : Nat), g.first + 7 * g.stride < 65536 → (d.putI (isleAt r) g f.j v).posted = d.posted := fun d g v hg =>
    Chip.putI_posted d v (unposted_block _ (by omega) (Nat.lt_of_le_of_lt (Nat.add_le_add_left (Nat.mul_le_mul_right _ (by omega)) _) hg))
  simp only [Chip.goFn]
  split
  · rfl
  · have hbump : ∀ (d : Chip) (g : Field), g.first + 7 * g.stride < 65536 → (d.bumpByI (isleAt r) g f.j 1).posted = d.posted :=
      fun d g hg => hput d g _ hg
    have hlast : ∀ d : Chip, (d.when (new == 5 || c.sfState r f.j == 5) (·.putI (isleAt r) Isle.disc f.j (b2n (new == 5)))).posted = d.posted :=
      fun d => Chip.when_posted (fun e => hput e _ _ (by decide)) d _
    have htrip : ∀ d : Chip, (d.when (c.sfState r f.j == 4 && new == 2) (·.bumpByI (isleAt r) Isle.trips f.j 1)).posted = d.posted :=
      fun d => Chip.when_posted (fun e => hbump e _ (by decide)) d _
    have hdisc : ∀ d : Chip, (d.when (new == 5) (fun c => (c.bumpByI (isleAt r) Isle.discs f.j 1).putBit (isleAt r) Isle.disc_seen f.j
        true)).posted = d.posted := fun d => Chip.when_posted (fun e => (Chip.put_isle_posted _ _ _ (by decide)).trans (hbump e _ (by decide))) d _
    have hflags : (((c.putI (isleAt r) Isle.state f.j new).putI (isleAt r) Isle.ok f.j (b2n (new == 4))).putI (isleAt r) Isle.rst_wait f.j
        (b2n (new == 3))).posted = c.posted := by rw [hput _ _ _ (by decide), hput _ _ _ (by decide), hput _ _ _ (by decide)]
    split <;> simp [hlast, htrip, hdisc, hflags]

@[simp] theorem Chip.applyCuts_posted (c : Chip) (r : Nat) : (c.applyCuts r).posted = c.posted := by
  have hcut : ∀ (d : Chip) (f : FnCfg) (v : Nat), (d.putI (isleAt r) Isle.cut_active f.j v).posted = d.posted := fun d f v =>
    Chip.putI_posted d v (unposted_block _ (by omega) (by
      have hj : f.j < 8 := Nat.mod_lt _ (by decide)
      simp only [Isle.cut_active, Field.many]
      omega))
  simp only [Chip.applyCuts]
  rw [Chip.each_posted (fun _ _ => by simp), Chip.each_posted (fun _ _ => by simp), Chip.each_posted (fun _ _ => hcut _ _ _)]
  rfl

@[simp] theorem Chip.setSafeOut_posted (c : Chip) (r : Nat) (f : FnCfg) : (c.setSafeOut r f).posted = c.posted := by
  unfold Chip.setSafeOut
  (repeat' split) <;> simp +decide

@[simp] theorem Chip.stopIsle_posted (c : Chip) (r cause : Nat) : (c.stopIsle r cause).posted = c.posted := by
  simp +decide [Chip.stopIsle]

@[simp] theorem Chip.netSend_posted (c : Chip) (kind : Nat) (bs : List Nat) : (c.netSend kind bs).posted = c.posted := by
  unfold Chip.netSend
  simp only []
  split
  · simp
  · exact (Chip.posted_congr (c := Chip.each _ _ _) rfl).trans (by simp)

@[simp] theorem Chip.setPair_posted (c : Chip) (f : PairSt → PairSt) :
    (c.setPair f).posted = c.posted := Chip.posted_congr (by simp)

@[simp] theorem Chip.laneEmit_posted (c : Chip) (l kind : Nat) (ws : List Nat) : (c.laneEmit l kind ws).posted = c.posted := by
  simp +decide [Chip.laneEmit]

@[simp] theorem Chip.laneSend_posted (c : Chip) (kind : Nat) (ws : List Nat) : (c.laneSend kind ws).posted = c.posted := by
  simp +decide [Chip.laneSend]

@[simp] theorem Chip.putLane_posted (c : Chip) (l : Nat) (up : Bool) : (c.putLane l up).posted = c.posted := by
  unfold Chip.putLane
  split <;> simp +decide

@[simp] theorem Chip.laneFault_posted (c : Chip) {l : Nat} (h : l < 8) : (c.laneFault l).posted = c.posted := by
  have hcount : ∀ (d : Chip) (k : Nat), k < 8 → (d.bumpByI pairAt Pair.lane_faults k 1).posted = d.posted := fun d k h =>
    Chip.bumpByI_posted d _ (by
      simp only [unposted, Field.at, Pair.lane_faults, Field.many, pairAt, identAt, statusAt]
      omega)
  unfold Chip.laneFault
  split
  · rfl
  · simp only [Chip.record_posted]
    by_cases hl : l = 0 <;> simp +decide [hcount, hl, h]

@[simp] theorem Chip.shareRamp_posted (c : Chip) (kind : Nat) : (c.shareRamp kind).posted = c.posted := by
  simp +decide [Chip.shareRamp]

@[simp] theorem Chip.resolveShared_posted (c : Chip) : c.resolveShared.posted = c.posted := by
  simp +decide [Chip.resolveShared]

@[simp] theorem Chip.holderSync_posted (c : Chip) : c.holderSync.posted = c.posted := by
  simp +decide [Chip.holderSync]

@[simp] theorem Chip.axisYield_posted (c : Chip) (x : Nat) : (c.axisYield x).posted = c.posted := by
  simp +decide [Chip.axisYield]

@[simp] theorem Chip.axisTake_posted (c : Chip) (x : Nat) : (c.axisTake x).posted = c.posted := by
  simp +decide [Chip.axisTake]

@[simp] theorem Chip.setLease_posted (c : Chip) (new severity changed : Nat) : (c.setLease new severity changed).posted = c.posted := by
  have hyield : ∀ (d : Chip) (l : List Nat), (d.each l (fun c x => c.axisYield x)).posted = d.posted := fun d l =>
    Chip.each_posted (fun e x => e.axisYield_posted x) d l
  have htake : ∀ (d : Chip) (l : List Nat), (d.each l (fun c x => c.axisTake x)).posted = d.posted := fun d l =>
    Chip.each_posted (fun e x => e.axisTake_posted x) d l
  have hcause : ∀ (d : Chip) (l : List Nat), (d.each l (fun c x => c.stageCause x 7 false)).posted = d.posted := fun d l =>
    Chip.each_posted (fun e x => e.stageCause_posted x 7 false) d l
  unfold Chip.setLease
  extract_lets old c1 c2 was is axes c3 c4 c4b c5
  have h2 : c2.posted = c.posted := by
    exact (Chip.record_posted _ _ _ _ _ _ _).trans ((Chip.holderSync_posted _).trans (Chip.put_posted c _ (by decide)))
  have h3 : c3.posted = c2.posted := by
    simp only [c3, Chip.posted_ite, hyield, htake, hcause, ite_self]
  have h4 : c4.posted = c3.posted := by
    simp only [c4, Chip.posted_ite, Chip.shareRamp_posted, ite_self]
  have h4b : c4b.posted = c4.posted := by
    refine Chip.when_posted (fun d => ?_) c4 _
    exact Chip.posted_congr (c := d) rfl
  have h5 : c5.posted = c4b.posted := by
    simp only [c5, Chip.posted_ite, Chip.resolveShared_posted, ite_self]
  have hwant : ∀ p : PanelSt, ({ c5.wantPanel with panel := p } : Chip).posted = c5.posted := fun _ => Chip.posted_congr rfl
  rw [apply_ite Chip.posted, apply_ite Chip.posted, apply_ite Chip.posted, hwant, Chip.panelYield_posted, ite_self, ite_self, h5, h4b, h4, h3, h2, ite_self]

@[simp] theorem Chip.yieldLease_posted (c : Chip) (new : Nat) : (c.yieldLease new).posted = c.posted := by
  simp +decide [Chip.yieldLease]

@[simp] theorem Chip.pairStop_posted (c : Chip) : c.pairStop.posted = c.posted := by
  simp +decide [Chip.pairStop]

@[simp] theorem Chip.halt_posted (c : Chip) (reason : Nat) : (c.halt reason).posted = c.posted := by
  simp +decide [Chip.halt]

@[simp] theorem Chip.setPort_posted (c : Chip) (r : Nat) (f : PortSt → PortSt) :
    (c.setPort r f).posted = c.posted := Chip.posted_congr (by simp)

@[simp] theorem Chip.setObj_posted (c : Chip) (r j : Nat) (f : PortObj → PortObj) :
    (c.setObj r j f).posted = c.posted := Chip.posted_congr (by simp)

@[simp] theorem Chip.pOn_posted (c : Chip) (r n : Nat) : (c.pOn r n).posted = c.posted :=
  Chip.setWord_posted c _ (unposted_word _ (by omega) (by decide))

@[simp] theorem Chip.objSync_posted (c : Chip) (r j : Nat) : (c.objSync r j).posted = c.posted := by
  rw [Chip.objSync, Chip.putI_posted _ _ (unposted_port r j (by decide) (by decide)), Chip.putI_posted _ _ (unposted_port r j (by decide) (by decide))]

@[simp] theorem Chip.failShot_posted (c : Chip) (r j : Nat) (all : Bool) : (c.failShot r j all).posted = c.posted := by
  unfold Chip.failShot
  simp only []
  split
  · rw [Chip.objSync_posted, Chip.putI_posted _ _ (unposted_port r j (by decide) (by decide))]
    exact Chip.posted_congr rfl
  · rfl

@[simp] theorem Chip.rewait_posted (c : Chip) (r : Nat) : (c.rewait r).posted = c.posted := by
  simp +decide [Chip.rewait]

@[simp] theorem Chip.requeue_posted (c : Chip) (r : Nat) : (c.requeue r).posted = c.posted := by
  simp +decide [Chip.requeue]

@[simp] theorem Chip.cancelSends_posted (c : Chip) (r : Nat) : (c.cancelSends r).posted = c.posted := by
  simp +decide [Chip.cancelSends]

@[simp] theorem Chip.beginRestart_posted (c : Chip) (r : Nat) (restart : Bool) :
    (c.beginRestart r restart).posted = c.posted := by
  simp +decide [Chip.beginRestart]

@[simp] theorem Chip.portSync_posted (c : Chip) (r : Nat) : (c.portSync r).posted = c.posted := by
  simp +decide [Chip.portSync]

@[simp] theorem Chip.setOutcome_posted (c : Chip) (s : Nat) (busy ok : Bool) (code : Nat) :
    (c.setOutcome s busy ok code).posted = c.posted := rfl

@[simp] theorem Chip.setNet_posted (c : Chip) (f : NetSt → NetSt) :
    (c.setNet f).posted = c.posted := Chip.posted_congr (by simp)

@[simp] theorem Chip.setSess_posted (c : Chip) (i : Nat) (f : SessSt → SessSt) :
    (c.setSess i f).posted = c.posted := Chip.posted_congr (by simp)

@[simp] theorem Chip.sendTo_posted (c : Chip) (peer port : Nat) (bs : List Nat) :
    (c.sendTo peer port bs).posted = c.posted := by
  simp +decide [Chip.sendTo]

@[simp] theorem Chip.reply_posted (c : Chip) (i typ seq rid : Nat) (body : List Nat) :
    (c.reply i typ seq rid body).posted = c.posted := by
  simp +decide [Chip.reply]

@[simp] theorem Chip.flushAnswers_posted (c : Chip) (i n : Nat) : (c.flushAnswers i n).posted = c.posted := by
  induction n generalizing c with
  | zero => rfl
  | succ n ih =>
    unfold Chip.flushAnswers
    split
    · split <;> simp [ih]
    · rfl

@[simp] theorem Chip.answer_posted (c : Chip) (a : AskedBy) (bs : List Nat) : (c.answer a bs).posted = c.posted := by
  simp [Chip.answer]

@[simp] theorem Chip.answerTo_posted (c : Chip) (a : Option AskedBy) (bs : List Nat) : (c.answerTo a bs).posted = c.posted := by
  unfold Chip.answerTo
  (repeat' split) <;> simp +decide

@[simp] theorem Chip.setEng_posted (c : Chip) (f : EngSt → EngSt) :
    (c.setEng f).posted = c.posted := Chip.posted_congr (by simp)

@[simp] theorem Chip.svyEnd_posted (c : Chip) (result off gain : Nat) : (c.svyEnd result off gain).posted = c.posted := by
  unfold Chip.svyEnd
  (repeat' split) <;> simp +decide

@[simp] theorem Chip.svyAbortRegion_posted (c : Chip) (r : Nat) : (c.svyAbortRegion r).posted = c.posted := by
  unfold Chip.svyAbortRegion
  (repeat' split) <;> simp +decide

@[simp] theorem Chip.changeDone_posted (c : Chip) (q : QChange) (reason : Nat) : (c.changeDone q reason).posted = c.posted := by
  unfold Chip.changeDone
  (repeat' split) <;> simp +decide

@[simp] theorem Chip.refuseChange_posted (c : Chip) (q : QChange) (reason : Nat) :
    (c.refuseChange q reason).posted = c.posted := by
  simp +decide [Chip.refuseChange]

@[simp] theorem Chip.dropPending_posted (c : Chip) : c.dropPending.posted = c.posted := by
  simp +decide [Chip.dropPending]

@[simp] theorem Chip.haltEngine_posted (c : Chip) (state : Nat) : (c.haltEngine state).posted = c.posted := by
  simp +decide [Chip.haltEngine]

@[simp] theorem Chip.allSafe_posted (c : Chip) : c.allSafe.posted = c.posted := by
  simp +decide [Chip.allSafe]

@[simp] theorem Chip.stopSlices_posted (c : Chip) (cause : Nat) : (c.stopSlices cause).posted = c.posted := by
  simp +decide [Chip.stopSlices]

@[simp] theorem Chip.axesStop_posted (c : Chip) : c.axesStop.posted = c.posted := by
  simp +decide [Chip.axesStop]

@[simp] theorem Chip.setRec_posted (c : Chip) (f : RecSt → RecSt) :
    (c.setRec f).posted = c.posted := Chip.posted_congr (by simp)

@[simp] theorem Chip.recSync_posted (c : Chip) : c.recSync.posted = c.posted := by
  simp +decide [Chip.recSync]

@[simp] theorem Chip.stopRecorder_posted (c : Chip) : c.stopRecorder.posted = c.posted := by
  unfold Chip.stopRecorder
  split
  · rfl
  · exact (Chip.recSync_posted _).trans ((Chip.posted_congr rfl).trans (Chip.put_posted c _ (by decide)))

@[simp] theorem Chip.setXfer_posted (c : Chip) (f : XferSt → XferSt) :
    (c.setXfer f).posted = c.posted := Chip.posted_congr (by simp)

@[simp] theorem Chip.setFab_posted (c : Chip) (r : Nat) (f : FabSt → FabSt) :
    (c.setFab r f).posted = c.posted := Chip.posted_congr (by simp)

@[simp] theorem Chip.xferAbort_posted (c : Chip) : c.xferAbort.posted = c.posted := by
  simp +decide [Chip.xferAbort]

@[simp] theorem Chip.faultStop_posted (c : Chip) : c.faultStop.posted = c.posted := by
  simp +decide [Chip.faultStop]

@[simp] theorem Chip.stationDown_posted (c : Chip) (p : Nat) : (c.stationDown p).posted = c.posted := by
  unfold Chip.stationDown
  (repeat' split) <;> simp +decide

@[simp] theorem Chip.guardChan_posted (c : Chip) (g : Nat) : (c.guardChan g).posted = c.posted := by
  simp +decide [Chip.guardChan]

@[simp] theorem Chip.abandonPanel_posted (c : Chip) : c.abandonPanel.posted = c.posted := by
  simp +decide [Chip.abandonPanel]

@[simp] theorem Chip.abandonBlock_posted (c : Chip) (r i : Nat) : (c.abandonBlock r i).posted = c.posted := by
  simp +decide [Chip.abandonBlock]

@[simp] theorem Chip.afresh_posted (c : Chip) (g : Nat) : (c.afresh g).posted = c.posted := by
  simp +decide [Chip.afresh]

@[simp] theorem Chip.setLink_posted (c : Chip) (r k : Nat) (f : LinkSt → LinkSt) :
    (c.setLink r k f).posted = c.posted := Chip.posted_congr (by simp)

@[simp] theorem Chip.putFlit_posted (c : Chip) (r k kind number : Nat) (ws : List Nat) :
    (c.putFlit r k kind number ws).posted = c.posted := by
  simp +decide [Chip.putFlit]

@[simp] theorem Chip.sendFlit_posted (c : Chip) (r k : Nat) (ws : List Nat) : (c.sendFlit r k ws).posted = c.posted := by
  simp +decide [Chip.sendFlit]

@[simp] theorem Chip.sendNext_posted (c : Chip) (r d : Nat) (ws : List Nat) : (c.sendNext r d ws).posted = c.posted := by
  simp only [Chip.sendNext]
  (repeat' split) <;> simp

@[simp] theorem Chip.sendOn_posted (c : Chip) (r : Nat) (ws : List Nat) : (c.sendOn r ws).posted = c.posted := by
  unfold Chip.sendOn
  (repeat' split) <;> simp +decide

@[simp] theorem Chip.sendTowards_posted (c : Chip) (r d kind : Nat) : (c.sendTowards r d kind).posted = c.posted := by
  simp +decide [Chip.sendTowards]

end Sys2Proof.Machine
end

section
/-! SUPPORT. Module-level faults and fences: what they change of the module's conditions (R46 to R50). -/

namespace Sys2Proof.Machine

/-! ### What faults and fences do to the module's conditions -/

namespace Chip

/-- A module-level fault names its cause, unless one stands, and changes no other condition. -/
theorem moduleFault_steady (c : Chip) (cause r : Nat) : (c.moduleFault cause r).steady =
    { c.steady with faultCause := if c.sys.faultCause = 0 then cause else c.sys.faultCause } := by
  have hnamed : ((c.put statusAt Status.module_fault_seen 1).when (c.sys.faultCause == 0) (fun c =>
      (c.setSys (fun s => { s with faultCause := cause })).put statusAt Status.fault_cause cause)).steady =
      { c.steady with faultCause := if c.sys.faultCause = 0 then cause else c.sys.faultCause } := by
    by_cases h : c.sys.faultCause = 0
    · rw [if_pos h, when, if_pos (by simp [h])]
      rfl
    · rw [if_neg h, when, if_neg (by simp [h])]
      rfl
  simp only [moduleFault]
  split
  · rw [faultStop_steady, record_steady, hnamed]
  · split
    · rw [xferAbort_steady, halt_steady, record_steady, hnamed]
    · rw [xferAbort_steady, put_steady, record_steady, hnamed]

theorem declareFence_steady (c : Chip) (r how : Nat) :
    (c.declareFence r how).steady = { c.steady with declared := withBit c.sys.declared r true } := by
  simp only [declareFence, record_steady, put_steady]
  rfl

end Chip

/-- The quench leaves the module's conditions. -/
theorem startQuench_steady (s : State) (trigger : Nat) : (s.startQuench trigger).chip.steady = s.chip.steady := by
  simp only [State.startQuench]
  split
  · rfl
  · exact (Chip.steady_congr rfl).trans (Chip.when_steady (fun d => d.put_steady _ _ _) _ _)

/-- The field guard of region `r` acts: the region is fenced and no other condition changes. -/
theorem fenceRegion_steady {s : State} {r : Nat} (hfenced : s.chip.regionFenced r = false) (hfit : s.chip.fitted r = true) :
    (s.fenceRegion r).chip.steady = { s.chip.steady with fenced := withBit s.chip.sys.fenced r true } := by
  have hset : (s.chip.setSys (fun y => { y with fenced := withBit y.fenced r true })).steady =
      { s.chip.steady with fenced := withBit s.chip.sys.fenced r true } := rfl
  simp only [State.fenceRegion, hfenced, hfit, Bool.not_true, Bool.or_self, Bool.false_eq_true, if_false, apply_ite State.chip,
    startQuench_steady, apply_ite Chip.steady, ite_self, State.onChip]
  simp [hset]

namespace Chip

theorem moduleFault_posted (c : Chip) (cause r : Nat) : (c.moduleFault cause r).posted = c.posted := by
  have hnamed : ((c.put statusAt Status.module_fault_seen 1).when (c.sys.faultCause == 0) (fun c =>
      (c.setSys (fun s => { s with faultCause := cause })).put statusAt Status.fault_cause cause)).posted = c.posted := by
    rw [when_posted (fun d => by rw [put_posted _ _ (by decide), posted_congr (setSys_regs _ _)]), put_status_posted c 1 (by decide) (by decide)]
  simp only [moduleFault]
  split
  · rw [faultStop_posted, record_posted, hnamed]
  · split
    · rw [xferAbort_posted, halt_posted, record_posted, hnamed]
    · rw [xferAbort_posted, Chip.put_posted _ _ (by decide), record_posted, hnamed]

theorem declareFence_posted (c : Chip) (r how : Nat) : (c.declareFence r how).posted = c.posted := by
  simp only [declareFence, record_posted]
  rw [put_status_posted _ 1 (by decide) (by decide), put_posted _ _ (by decide), posted_congr (setSys_regs _ _)]

end Chip

theorem fitted_of_posted {c d : Chip} (h : d.posted = c.posted) (q : Nat) : d.fitted q = c.fitted q :=
  congrArg (fun p => p.1.testBit q) h

/-! ### Fences that stand (R46 to R50) -/

/-- What is fenced in `s` is fenced in `t`. -/
def FencesStand (s t : State) : Prop := ∀ q, s.chip.regionFenced q = true → t.chip.regionFenced q = true

theorem Chip.regionFenced_eq (c : Chip) (q : Nat) : c.regionFenced q = c.steady.fenced.testBit q := rfl

theorem FencesStand.trans {s t u : State} (h : FencesStand s t) (k : FencesStand t u) : FencesStand s u := fun q hq => k q (h q hq)

theorem FencesStand.of_eq {s t : State} (h : t.chip.steady.fenced = s.chip.steady.fenced) : FencesStand s t := fun q hq => by
  rwa [Chip.regionFenced_eq, h, ← Chip.regionFenced_eq]

theorem moduleFault_fenced (c : Chip) (cause r : Nat) : (c.moduleFault cause r).steady.fenced = c.steady.fenced := by
  rw [Chip.moduleFault_steady]

theorem declareFence_fenced (c : Chip) (r how : Nat) : (c.declareFence r how).steady.fenced = c.steady.fenced := by
  rw [Chip.declareFence_steady]

theorem fenceRegion_fences {s : State} {r : Nat} (hfenced : s.chip.regionFenced r = false) (hfit : s.chip.fitted r = true) :
    (s.fenceRegion r).chip.regionFenced r = true ∧ FencesStand s (s.fenceRegion r) := by
  have hbit : ∀ q, (s.fenceRegion r).chip.regionFenced q = if q = r then true else s.chip.regionFenced q := fun q => by
    rw [Chip.regionFenced_eq, fenceRegion_steady hfenced hfit, testBit_withBit]
    rfl
  refine ⟨by rw [hbit, if_pos rfl], fun q hq => ?_⟩
  rw [hbit]
  split
  · rfl
  · exact hq

/-- What the fence of a region brings about beyond it. -/
def State.fenceTail (s : State) (r : Nat) (declared : Bool) : State :=
  if declared then s
  else if s.chip.regionFenced 0 then s.onChip (fun c =>
    if (c.put statusAt Status.module_fault_seen 1).phase = 8 then (c.put statusAt Status.module_fault_seen 1).faultStop
    else ((c.put statusAt Status.module_fault_seen 1).put engineAt Engine.state 3).xferAbort)
  else s.onChip (·.moduleFault 1 r)

theorem fenceTail_fenced (s : State) (r : Nat) (declared : Bool) : (s.fenceTail r declared).chip.steady.fenced = s.chip.steady.fenced := by
  unfold State.fenceTail
  split
  · rfl
  split
  · simp only [State.onChip]
    split <;> simp
  · exact moduleFault_fenced _ _ _

theorem regionFence_to {s : State} {r : Nat} (hfenced : s.chip.regionFenced r = false) (hfit : s.chip.fitted r = true) :
    s.regionFence r = (s.fenceRegion r).fenceTail r (s.chip.sys.declared.testBit r) := by
  rw [State.regionFence, if_neg (by simp [hfenced, hfit])]
  rfl

/-- A region that is fitted is fenced, and no fence is undone. -/
theorem regionFence_fences {s : State} {r : Nat} (hfit : s.chip.fitted r = true) :
    (s.regionFence r).chip.regionFenced r = true ∧ FencesStand s (s.regionFence r) := by
  cases hfenced : s.chip.regionFenced r with
  | true =>
    have hsame : s.regionFence r = s := if_pos (by simp [hfenced])
    rw [hsame]
    exact ⟨hfenced, fun q hq => hq⟩
  | false =>
    obtain ⟨hr, hstand⟩ := fenceRegion_fences hfenced hfit
    have htail : FencesStand (s.fenceRegion r) ((s.fenceRegion r).fenceTail r (s.chip.sys.declared.testBit r)) := .of_eq (fenceTail_fenced _ _ _)
    rw [regionFence_to hfenced hfit]
    exact ⟨htail r hr, hstand.trans htail⟩

end Sys2Proof.Machine
end

section
/-! SUPPORT. O5: region fences. -/

namespace Sys2Proof.Machine

/-! ### The three ways into a fence -/

theorem beaconSilence_fences {r : Fin 8} {s : State} (hfit : s.chip.fitted r = true) {t0 : Nat} (hat : (s.chip.fabr r).beaconAt = some t0)
    (hdue : t0 + 2000 ≤ s.chip.now) : ∃ t, exec (.beaconSilenceTimeout r) s = .next t ∧ t.chip.regionFenced r = true ∧ FencesStand s t := by
  have hstep : exec (.beaconSilenceTimeout r) s = .next (s.regionFence r) := by
    show execBeaconSilenceTimeout r s = _
    simp only [execBeaconSilenceTimeout, hat, if_neg (Nat.not_lt.2 hdue)]
  obtain ⟨hr, hstand⟩ := regionFence_fences hfit
  exact ⟨_, hstep, hr, hstand⟩

/-- A fence the lead has declared, and the module-level fault of it. -/
def State.fenceDeclared (s : State) (r : Nat) : State := (s.onChip (·.declareFence r 2)).onChip (·.moduleFault 1 r)

theorem fenceDeclared_fenced (s : State) (r : Nat) : (s.fenceDeclared r).chip.steady.fenced = s.chip.steady.fenced :=
  (moduleFault_fenced _ _ _).trans (declareFence_fenced _ _ _)

theorem fenceDeclared_fitted (s : State) (r q : Nat) : (s.fenceDeclared r).chip.fitted q = s.chip.fitted q :=
  fitted_of_posted ((Chip.moduleFault_posted _ _ _).trans (Chip.declareFence_posted _ _ _)) q

theorem fenceOrder_fences {r : Fin 8} {s : State} (hfit : s.chip.fitted r = true) (hs2 : s.chip.panel.s2At ≠ none) :
    ∃ t, exec (.fenceOrder r) s = .next t ∧ t.chip.regionFenced r = true ∧ FencesStand s t := by
  show ∃ t, execFenceOrder r s = .next t ∧ t.chip.regionFenced r = true ∧ FencesStand s t
  cases hfenced : s.chip.regionFenced r with
  | true => exact ⟨s, by simp [execFenceOrder, hfenced], hfenced, fun q hq => hq⟩
  | false =>
    cases hdecl : s.chip.sys.declared.testBit r.val with
    | true =>
      obtain ⟨hr, hstand⟩ := regionFence_fences hfit
      exact ⟨_, by simp [execFenceOrder, hfenced, hfit, hs2, hdecl], hr, hstand⟩
    | false =>
      obtain ⟨hr, hstand⟩ := regionFence_fences (s := s.fenceDeclared r) (r := r) ((fenceDeclared_fitted s r r).trans hfit)
      exact ⟨_, by simp [execFenceOrder, hfenced, hfit, hs2, hdecl, State.fenceDeclared], hr,
        (FencesStand.of_eq (fenceDeclared_fenced s r)).trans hstand⟩

/-! ### The lead's declaration (R46) -/

/-- The region declared fenced after a silence, its order on its way. -/
def Chip.silenceDeclared (c : Chip) (r how : Nat) : Chip :=
  ((c.declareFence r how).sendTowards 0 r 5).setFab r (fun f => { f with ackAt := none })

/-- The machine once the lead has declared region `r`, with the module-level fault that follows where the region was not fenced. -/
def State.ackDeclared (s : State) (r how : Nat) (fenced : Bool) : State :=
  if fenced then s.onChip (·.silenceDeclared r how) else (s.onChip (·.silenceDeclared r how)).onChip (·.moduleFault 1 r)

theorem silenceDeclared_steady (c : Chip) (r how : Nat) :
    (c.silenceDeclared r how).steady = { c.steady with declared := withBit c.sys.declared r true } := by
  rw [Chip.silenceDeclared, Chip.steady_congr (Chip.setFab_sys _ _ _), Chip.sendTowards_steady, Chip.declareFence_steady]

theorem silenceDeclared_posted (c : Chip) (r how : Nat) : (c.silenceDeclared r how).posted = c.posted := by
  rw [Chip.silenceDeclared, Chip.posted_congr (Chip.setFab_regs _ _ _), Chip.sendTowards_posted, Chip.declareFence_posted]

theorem ackDeclared_spec (s : State) (r how : Nat) (fenced : Bool) :
    (s.ackDeclared r how fenced).chip.steady.declared = withBit s.chip.sys.declared r true ∧
      (s.ackDeclared r how fenced).chip.steady.fenced = s.chip.steady.fenced ∧
      (s.ackDeclared r how fenced).chip.posted = s.chip.posted := by
  cases fenced
  · simp only [State.ackDeclared, State.onChip, Bool.false_eq_true, if_false, Chip.moduleFault_steady, Chip.moduleFault_posted,
      silenceDeclared_steady, silenceDeclared_posted, and_self]
  · simp only [State.ackDeclared, State.onChip, if_true, silenceDeclared_steady, silenceDeclared_posted, and_self]

theorem fenceTail_declared (s : State) (r : Nat) (declared : Bool) : (s.fenceTail r declared).chip.steady.declared = s.chip.steady.declared := by
  unfold State.fenceTail
  split
  · rfl
  split
  · simp only [State.onChip]
    split <;> simp
  · simp only [State.onChip, Chip.moduleFault_steady]

theorem regionFence_declared {s : State} {r : Nat} (hfit : s.chip.fitted r = true) :
    (s.regionFence r).chip.steady.declared = s.chip.steady.declared := by
  cases hfenced : s.chip.regionFenced r with
  | true =>
    have hsame : s.regionFence r = s := if_pos (by simp [hfenced])
    rw [hsame]
  | false => rw [regionFence_to hfenced hfit, fenceTail_declared, fenceRegion_steady hfenced hfit]

/-- Does the region's own watch of the beacons agree. -/
def Chip.beaconsSilent (c : Chip) (r : Nat) : Bool :=
  match (c.fabr r).beaconAt with
  | some b => decide (b + 2000 ≤ c.now)
  | none => false

theorem ackTimeout_to {r : Fin 8} {s : State} {t0 : Nat} (hat : (s.chip.fabr r).ackAt = some t0) (hdue : t0 + 2000 ≤ s.chip.now)
    (hlead : s.chip.regionFenced 0 = false) (hdecl : s.chip.sys.declared.testBit r = false) :
    ∃ how, exec (.ackTimeout r) s = .next (if s.chip.beaconsSilent r || r = 0 || (s.chip.routeTo 0 r).isSome then
      (s.ackDeclared r how (s.chip.regionFenced r)).regionFence r else s.ackDeclared r how (s.chip.regionFenced r)) := by
  refine ⟨if s.chip.regionFenced r || s.chip.beaconsSilent r then 1 else 2, ?_⟩
  show execAckTimeout r s = _
  simp only [execAckTimeout, hat, hlead, hdecl, decide_eq_false (Nat.not_lt.2 hdue), Bool.or_self, Bool.false_eq_true, if_false]
  rfl

theorem ackTimeout_declares {r : Fin 8} {s : State} (hfit : s.chip.fitted r = true) {t0 : Nat} (hat : (s.chip.fabr r).ackAt = some t0)
    (hdue : t0 + 2000 ≤ s.chip.now) (hlead : s.chip.regionFenced 0 = false) (hdecl : s.chip.sys.declared.testBit r = false) :
    ∃ t, exec (.ackTimeout r) s = .next t ∧ t.chip.sys.declared.testBit r = true ∧
      (r = 0 ∨ s.chip.routeTo 0 r ≠ none → t.chip.regionFenced r = true) ∧ FencesStand s t := by
  obtain ⟨how, hstep⟩ := ackTimeout_to hat hdue hlead hdecl
  obtain ⟨hdeclared, hfenced, hposted⟩ := ackDeclared_spec s r how (s.chip.regionFenced r)
  have hbit : (s.ackDeclared r how (s.chip.regionFenced r)).chip.steady.declared.testBit r = true := by
    rw [hdeclared, testBit_withBit, if_pos rfl]
  have hfit' := (fitted_of_posted hposted r).trans hfit
  obtain ⟨hr, hstand⟩ := regionFence_fences hfit'
  split at hstep
  · exact ⟨_, hstep, (congrArg (·.testBit r.val) (regionFence_declared hfit')).trans hbit, fun _ => hr, (FencesStand.of_eq hfenced).trans hstand⟩
  · next hnot =>
    refine ⟨_, hstep, hbit, fun hway => absurd ?_ hnot, .of_eq hfenced⟩
    rcases hway with rfl | hroute
    · simp
    · simp [Option.isSome_iff_ne_none.2 hroute]

/-- Settles O5: a fence of a region by silence, by the lead's declaration and by an order. -/
theorem regionFences : Obligations.RegionFences := by
  intro r s hfit
  exact ⟨fun t0 hat hdue => beaconSilence_fences hfit hat hdue, fun t0 hat hdue hlead hdecl => ackTimeout_declares hfit hat hdue hlead hdecl,
    fun hs2 => fenceOrder_fences hfit hs2⟩

end Sys2Proof.Machine
end

section
/-! SUPPORT. What the store of the recorder changes of the chip. -/

namespace Sys2Proof.Machine

/-! ### What the store of the recorder changes of the chip: the recorder's words, what it holds and the comparators told of -/

/-- `d` is `c` but for words from space 0xA on, what the recorder holds and the always-on domain. -/
structure Chip.RecSide (c d : Chip) : Prop where
  frame : ∃ rg rc ao, d = { c with regs := rg, recd := rc, aon := ao }
  words : ∀ a, spaceOf a < 10 → d.word a = c.word a

namespace Chip.RecSide

variable {c d e : Chip}

theorem refl (c : Chip) : c.RecSide c := ⟨⟨c.regs, c.recd, c.aon, rfl⟩, fun _ _ => rfl⟩

theorem trans (h : c.RecSide d) (k : d.RecSide e) : c.RecSide e := by
  obtain ⟨⟨rg, rc, ao, hd⟩, hw⟩ := h
  obtain ⟨⟨rg', rc', ao', he⟩, hw'⟩ := k
  exact ⟨⟨rg', rc', ao', by rw [he, hd]⟩, fun a ha => (hw' a ha).trans (hw a ha)⟩

theorem of_recOnly (h : c.RecOnly d) : c.RecSide d := by
  obtain ⟨⟨rg, rc, hd⟩, hw⟩ := h
  exact ⟨⟨rg, rc, c.aon, by rw [hd]⟩, fun a ha => hw a (by omega)⟩

theorem putI (h : c.RecSide d) {b i : Nat} {f : Field} (v : Nat) (hp : recdAt ≤ f.at b i) : c.RecSide (d.putI b f i v) := by
  refine h.trans ⟨⟨_, d.recd, d.aon, rfl⟩, fun a ha => word_setWord_other d _ (fun e => ?_)⟩
  rw [← e] at hp
  simp only [spaceOf] at ha
  simp only [recdAt] at hp
  omega

theorem put (h : c.RecSide d) {b : Nat} {f : Field} (v : Nat) (hp : recdAt ≤ f.at b 0) : c.RecSide (d.put b f v) := h.putI v hp

theorem put64 (h : c.RecSide d) {b : Nat} {f : Field} (v : Nat) (hp : recdAt ≤ f.at b 0) : c.RecSide (d.put64 b f v) :=
  (h.putI _ hp).putI _ (Nat.le_trans hp (by simp only [Field.at_eq]; omega))

theorem setRec (h : c.RecSide d) (f : RecSt → RecSt) : c.RecSide (d.setRec f) :=
  h.trans ⟨⟨d.regs, f d.recd, d.aon, rfl⟩, fun _ _ => rfl⟩

theorem setAon (h : c.RecSide d) (ao : AonSt) : c.RecSide { d with aon := ao } :=
  h.trans ⟨⟨d.regs, d.recd, ao, rfl⟩, fun _ _ => rfl⟩

theorem each {α : Type} (h : c.RecSide d) {f : Chip → α → Chip} (l : List α) (k : ∀ e : Chip, ∀ x ∈ l, e.RecSide (f e x)) :
    c.RecSide (d.each l f) := h.trans (each_rel refl (fun _ _ _ => trans) l k d)

theorem ite {b : Prop} [Decidable b] (h : b → c.RecSide d) (k : ¬ b → c.RecSide e) : c.RecSide (if b then d else e) := by
  split
  · next hb => exact h hb
  · next hb => exact k hb

theorem sys (h : c.RecSide d) : d.sys = c.sys := by
  obtain ⟨rg, rc, ao, hd⟩ := h.frame
  rw [hd]

theorem get (h : c.RecSide d) {b : Nat} {f : Field} (hf : spaceOf (f.at b 0) < 10) : d.get b f = c.get b f := get_congr (h.words _ hf)

end Chip.RecSide

namespace Chip

theorem putBands_side (c : Chip) (bands : List (Nat × Nat × Nat)) : c.RecSide (c.putBands bands) := by
  have hat : ∀ (f : Field) (k : Nat), recdAt ≤ f.at bandAt k := fun f k => by
    simp only [Field.at_eq, recdAt, bandAt]
    omega
  exact (RecSide.refl c).each _ (fun d e _ => ((((RecSide.refl d).putI _ (hat _ _)).putI _ (hat _ _)).putI _ (hat _ _)).putI _ (hat _ _))

theorem recSync_side (c : Chip) : c.RecSide c.recSync := .of_recOnly (recSync_recOnly c)

theorem recordAs_side (c : Chip) (source region severity subject : Nat) (pl : List Nat) (late : Bool) :
    c.RecSide (c.recordAs source region severity subject pl late) := .of_recOnly (recordAs_recOnly c _ _ _ _ _ _)

theorem tellLost_side (c : Chip) (first count told unnumbered : Nat) : c.RecSide (c.tellLost first count told unnumbered) := by
  have htold : c.RecSide (c.when (told != 0 || unnumbered != 0) (·.put recdAt Recd.lost_at_start 1)) :=
    .ite (fun _ => (RecSide.refl c).put (f := Recd.lost_at_start) 1 (by decide)) (fun _ => .refl c)
  unfold tellLost
  exact htold.trans (recordAs_side _ _ _ _ _ _ _)

theorem lateComparators_side (c : Chip) : c.RecSide c.lateComparators := by
  refine RecSide.setAon ((RecSide.refl c).each _ (fun d k _ => ?_)) _
  split
  · exact recordAs_side d _ _ _ _ _ _
  · exact .refl d

end Chip

namespace Chip.RecSide

variable {c : Chip} {t : State}

theorem tailSync (h : c.RecSide t.chip) : c.RecSide t.tailSync.chip :=
  (h.put64 _ (by decide)).put _ (by decide)

theorem eraseStripe (h : c.RecSide t.chip) (q : Nat) : c.RecSide (t.eraseStripe q).chip := by
  unfold State.eraseStripe
  exact tailSync h

theorem beginErase (h : c.RecSide t.chip) : c.RecSide t.beginErase.chip := by
  unfold State.beginErase
  split
  · exact h.eraseStripe _
  · exact h

theorem endErase (h : c.RecSide t.chip) : c.RecSide t.endErase.chip := by
  unfold State.endErase
  split
  · exact h
  · exact tailSync h

theorem readyStripe (h : c.RecSide t.chip) (how : WriteHow) : c.RecSide (t.readyStripe how).chip := by
  unfold State.readyStripe
  split
  · refine endErase ?_
    split
    · exact h
    · exact h.eraseStripe _
  · exact h

theorem enterStripe (h : c.RecSide t.chip) {l : Nat} {how : WriteHow} {u : State} (hu : t.enterStripe l how = some u) : c.RecSide u.chip := by
  unfold State.enterStripe at hu
  split at hu
  · obtain rfl := Option.some.inj hu
    exact h
  · simp only [] at hu
    split at hu
    · cases hu
    split at hu
    · obtain rfl := Option.some.inj hu
      have hr := h.readyStripe how
      split
      · exact hr
      · exact beginErase hr
    · cases hu

theorem enterOr (h : c.RecSide t.chip) (l : Nat) (how : WriteHow) : c.RecSide ((t.enterStripe l how).getD t).chip := by
  cases he : t.enterStripe l how with
  | none => exact h
  | some v => exact h.enterStripe he

theorem markLost (h : c.RecSide t.chip) (first count : Nat) : c.RecSide (t.markLost first count).chip := by
  have hfold : ∀ (l : List Nat) (u : State), c.RecSide u.chip →
      c.RecSide (l.foldl (fun s k => (s.enterStripe (stripeOf first + k) .restart).getD s) u).chip := by
    intro l
    induction l with
    | nil => exact fun u hu => hu
    | cons k l ih => exact fun u hu => ih _ (hu.enterOr _ _)
  unfold State.markLost
  split
  · exact h
  · exact hfold _ t h

theorem reportLost (h : c.RecSide t.chip) (first count told unnumbered : Nat) : c.RecSide (t.reportLost first count told unnumbered).chip := by
  unfold State.reportLost
  split
  · exact h
  · exact (h.markLost _ _).trans (tellLost_side _ _ _ _ _)

end Chip.RecSide

/-- The chip of a recorder that mounts, before what was lost is reported. -/
def State.mounting (s : State) (n0 left : Nat) (buf : List EvRec) : Chip :=
  (((((((s.chip.setRec (fun d => { d with
    mounted := true, unnumbered := 0, buffer := buf, nextSeq := n0 + buf.length })).putBands s.flash.bands).put recdAt Recd.state 1).put recdAt
    Recd.spare_left left).put64 recdAt Recd.tail s.flash.tail).put64 recdAt Recd.head (n0 + buf.length - 1)).put recdAt Recd.wear
    (min (s.flash.erases / 81920) 65535))

theorem mounting_side (s : State) (n0 left : Nat) (buf : List EvRec) : s.chip.RecSide (s.mounting n0 left buf) := by
  have hbands : s.chip.RecSide ((s.chip.setRec (fun d => { d with
      mounted := true, unnumbered := 0, buffer := buf, nextSeq := n0 + buf.length })).putBands s.flash.bands) :=
    ((Chip.RecSide.refl s.chip).setRec _).trans (Chip.putBands_side _ _)
  exact ((((hbands.put _ (by decide)).put _ (by decide)).put64 _ (by decide)).put64 _ (by decide)).put _ (by decide)

theorem openBands_side (d : Chip) (l : List EvRec) : d.RecSide ((d.each l (fun c e => c.openBand (e.seq.getD 0))).recSync) :=
  ((Chip.RecSide.refl d).each l (fun e x _ => .of_recOnly (Chip.openBand_recOnly e _))).trans (Chip.recSync_side _)

theorem mount_side (s : State) : s.chip.RecSide s.mount.chip := by
  unfold State.mount
  simp only []
  refine Chip.RecSide.trans ?_ (Chip.lateComparators_side _)
  split
  · exact Chip.RecSide.reportLost ((mounting_side s _ _ _).trans (openBands_side _ _)) _ _ _ _
  · exact Chip.RecSide.reportLost ((mounting_side s _ _ _).trans (openBands_side _ _)) _ _ _ _

theorem resumeRecorder_side (s : State) : s.chip.RecSide s.resumeRecorder.chip := by
  unfold State.resumeRecorder
  split
  · exact .refl _
  split
  · exact mount_side s
  · exact ((Chip.RecSide.markLost (t := s.onChip (·.put recdAt Recd.state 1)) ((Chip.RecSide.refl s.chip).put 1 (by decide)) _ _).trans
      (Chip.tellLost_side _ _ _ _ _)).trans (Chip.lateComparators_side _)

end Sys2Proof.Machine
end

section
/-! SUPPORT. O2: memory errors, cell reports, block failures and the end of a self-test. -/

namespace Sys2Proof.Machine

/-! ### The words of a region's own block -/

/-- A word of the own block of a region: what is fenced, what failed, the counts and the result of its commands. -/
def regionOwn (a : Nat) : Prop := spaceOf a < 8 ∧ blockOf a = 0

theorem regionOwn_at (r : Fin 8) {f : Field} (hf : f.first < 65536) : regionOwn (f.at (regionAt r) 0) := by
  have hr : r.val < 8 := r.isLt
  rw [regionOwn, regionAt, Field.space_at _ (by decide) (by omega), Field.block_at _ (by decide) (by omega)]
  exact ⟨hr, rfl⟩

/-- `d` is `c` in the own block of every region, in the conditions of the module and in the fabric. -/
structure Chip.OwnKept (c d : Chip) : Prop where
  words : ∀ a, regionOwn a → d.word a = c.word a
  sys : d.sys = c.sys
  fab : d.fab = c.fab

namespace Chip.OwnKept

variable {c d e : Chip}

theorem refl (c : Chip) : c.OwnKept c := ⟨fun _ _ => rfl, rfl, rfl⟩

theorem trans (h : c.OwnKept d) (k : d.OwnKept e) : c.OwnKept e :=
  ⟨fun a ha => (k.words a ha).trans (h.words a ha), k.sys.trans h.sys, k.fab.trans h.fab⟩

theorem put (h : c.OwnKept d) {b : Nat} {f : Field} (v : Nat) (hp : ¬ regionOwn (f.at b 0)) : c.OwnKept (d.put b f v) :=
  h.trans ⟨fun a ha => word_put_other d v (fun e => hp (e ▸ ha)), rfl, rfl⟩

theorem of_regs (h : c.OwnKept d) (hr : e.regs = d.regs) (hs : e.sys = d.sys) (hf : e.fab = d.fab) : c.OwnKept e :=
  h.trans ⟨fun a _ => by rw [word, hr, word], hs, hf⟩

theorem setChan (h : c.OwnKept d) (g : Nat) (f : ChanSt → ChanSt) : c.OwnKept (d.setChan g f) := h.of_regs rfl rfl rfl

theorem setSlice (h : c.OwnKept d) (r : Nat) (f : SliceSt → SliceSt) : c.OwnKept (d.setSlice r f) := h.of_regs rfl rfl rfl

theorem record (h : c.OwnKept d) (source region severity subject : Nat) (bs ws : List Nat) :
    c.OwnKept (d.record source region severity subject bs ws) :=
  h.trans ⟨fun a ha => record_word d _ _ _ _ _ _ (by have := ha.1; omega), record_sys d _ _ _ _ _ _, record_fab d _ _ _ _ _ _⟩

theorem each {α : Type} (h : c.OwnKept d) {f : Chip → α → Chip} (l : List α) (k : ∀ e : Chip, ∀ x ∈ l, e.OwnKept (f e x)) :
    c.OwnKept (d.each l f) := h.trans (each_rel refl (fun _ _ _ => trans) l k d)

/-- What an operation of a channel changes stands in the channel's block. -/
theorem moves (h : c.OwnKept d) {g : Nat} {ws : List Nat} (hm : d.ChanMoves g ws e) (hws : ∀ w ∈ ws, w < 65536) : c.OwnKept e := by
  obtain ⟨⟨rg, cs, rc, hd⟩, -, -, hw⟩ := hm
  refine h.trans ⟨fun a ha => hw a (by have := ha.1; omega) (fun w hmem heq => ?_), by rw [hd], by rw [hd]⟩
  have hblock : blockOf a = 0x010 + g % 16 := by
    rw [heq, chanAt, blockOf_blockAddr (by omega) (hws w hmem)]
  have := ha.2
  omega

theorem get (h : c.OwnKept d) (r : Fin 8) {f : Field} (hf : f.first < 65536) : d.get (regionAt r) f = c.get (regionAt r) f :=
  get_congr (h.words _ (regionOwn_at r hf))

end Chip.OwnKept

namespace Chip

theorem kick_own (c : Chip) (r : Nat) : c.OwnKept (c.kick r) := by
  have hoffs : ∀ w ∈ flagOffs, w < 65536 := by decide
  unfold kick
  simp only []
  split
  · exact .refl c
  · split
    · exact .refl c
    · refine OwnKept.of_regs ((OwnKept.refl c).each _ (fun d w _ => ?_)) (setSlice_regs _ _ _) (setSlice_sys _ _ _) (setSlice_fab _ _ _)
      exact (OwnKept.refl d).moves (ChanMoves.when (c := d) (b := srcKind w == 1) (f := (·.markSpan (srcRef w))) (markSpan_moves d (srcRef w))) hoffs

theorem svyEnd_own (c : Chip) (result off gain : Nat) : c.OwnKept (c.svyEnd result off gain) := by
  have hoffs : ∀ w ∈ statusOffs, w < 65536 := by decide
  have hresult : c.OwnKept (c.put surveyAt Survey.result result) := (OwnKept.refl c).put _ (fun h => absurd h.1 (by decide))
  unfold svyEnd
  split
  · exact .refl c
  · simp only []
    refine OwnKept.record ?_ _ _ _ _ _ _
    split
    · exact hresult.each _ (fun d g _ => ((OwnKept.refl d).setChan g _).moves (g := g) (putStatus_moves _ g) hoffs)
    · split
      · exact hresult.of_regs rfl rfl rfl
      · exact hresult

theorem abandonBlock_own (c : Chip) (r i : Nat) : c.OwnKept (c.abandonBlock r i) := by
  unfold abandonBlock
  split
  · exact ((OwnKept.refl c).setSlice r _).trans (kick_own _ r)
  split
  · exact (OwnKept.refl c).of_regs rfl rfl rfl
  split
  · unfold svyAbortRegion
    split
    · split
      · exact svyEnd_own c 5 0 0
      · exact .refl c
    · exact .refl c
  split
  · unfold abandonPanel
    split
    · exact .refl c
    split
    · exact (OwnKept.refl c).of_regs rfl rfl rfl
    · exact OwnKept.of_regs ((OwnKept.refl c).put 0 (fun h => absurd h.1 (by decide))) rfl rfl rfl
  · exact .refl c

end Chip

/-! ### Counts and reports (R28, R34, R533) -/

theorem bump_kept (s : State) {b x : Nat} {f : Field} (hat : f.at b 0 = x) : WordsKept (fun a => a = x) s { s with chip := s.chip.bump b f } := by
  rw [← hat]
  exact put_kept _ _ _ _


theorem cellCheck_retries {r : Fin 8} {s : State} (hfit : s.chip.fitted r = true) (block : Fin 16) :
    ∃ t, exec (.cellCheckFailure r block true) s = .next t ∧
      t.chip.get (regionAt r) Region.retries = min (s.chip.get (regionAt r) Region.retries + 1) (2 ^ 32 - 1) ∧
      t = { s with chip := { s.chip with regs := t.chip.regs } } ∧ WordsKept (fun a => a = regionAt r + 9) s t := by
  have hstep : exec (.cellCheckFailure r block true) s = .next { s with chip := s.chip.bump (regionAt r) Region.retries } :=
    (if_neg (by simp [hfit])).trans (if_pos rfl)
  have htop : Region.retries.top = 2 ^ 32 - 1 := by decide
  have hcount := s.chip.bump_get_self (regionAt r) (f := Region.retries) (by decide)
  rw [htop] at hcount
  have hat : Region.retries.at (regionAt r) 0 = regionAt r + 9 := by simp [Field.at, Region.retries, Field.one]
  exact ⟨_, hstep, hcount, rfl, bump_kept s hat⟩

theorem correctable_counts {r : Fin 8} {s : State} (hfit : s.chip.fitted r = true) :
    ∃ t, exec (.correctableEccError r) s = .next t ∧
      t.chip.get (regionAt r) Region.ecc_corrected = min (s.chip.get (regionAt r) Region.ecc_corrected + 1) 65535 ∧
      t.chip.get (regionAt r) Region.ecc_uncorrected = s.chip.get (regionAt r) Region.ecc_uncorrected ∧
      t = { s with chip := { s.chip with regs := t.chip.regs } } ∧ WordsKept (fun a => a = regionAt r + 8) s t := by
  have hstep : exec (.correctableEccError r) s = .next { s with chip := s.chip.bump (regionAt r) Region.ecc_corrected } :=
    chipOnly_to s (if_pos hfit)
  have hat : Region.ecc_corrected.at (regionAt r) 0 = regionAt r + 8 := by simp [Field.at, Region.ecc_corrected, Field.one]
  exact ⟨_, hstep, Chip.bump_get_self _ _ (by decide), Chip.get_bump_clear _ _ (by decide), rfl, bump_kept s hat⟩

/-- A word of the steward's block. -/
def stewWord (r a : Nat) : Prop := (stewAt r ≤ a ∧ a < stewAt r + 65536) ∨ recorderWord a

theorem stewWord_at (r : Nat) {f : Field} (hf : f.first < 65536) : stewWord r (f.at (stewAt r) 0) := by
  refine .inl ?_
  rw [Field.at_eq]
  omega

theorem patrol_counts {r : Fin 8} {s : State} (corrected : BitVec 32) (hrun : s.chip.flag (stewAt r) Stew.running = true)
    (hph : s.chip.phase = 8) : ∃ t, exec (.patrolScrubPass r corrected) s = .next t ∧
      t.chip.get (stewAt r) Stew.scrub_passes = min (s.chip.get (stewAt r) Stew.scrub_passes + 1) Stew.scrub_passes.top ∧
      t.chip.get (stewAt r) Stew.scrub_corrected = corrected.toNat ∧
      t = { s with chip := { s.chip with regs := t.chip.regs, recd := t.chip.recd } } ∧
      WordsKept (fun a => (stewAt r ≤ a ∧ a < stewAt r + 65536) ∨ recorderWord a) s t := by
  have hw := ((((Chip.Writes.refl (stewWord r) s.chip).bump (f := Stew.scrub_passes) (stewWord_at r (by decide))).put
    (f := Stew.scrub_corrected) corrected.toNat (stewWord_at r (by decide))).record 16 r 0 r [] [corrected.toNat] (fun _ h => .inr h))
  have hspace : ∀ f : Field, f.first < 65536 → spaceOf (f.at (stewAt r) 0) ≠ 10 := fun f hf => by
    rw [stewAt, Field.space_at _ (by decide) (by omega)]
    omega
  refine ⟨_, chipOnly_to s (if_neg (by simp [hrun, hph])), ?_, ?_, hw.state, hw.words.kept⟩
  · rw [Chip.record_get _ _ _ _ _ _ _ (hspace _ (by decide)), Chip.get_put_clear _ _ _ (by decide), Chip.bump_get_self _ _ (by decide)]
  · rw [Chip.record_get _ _ _ _ _ _ _ (hspace _ (by decide))]
    exact Chip.get_put_of_lt _ _ (by decide) corrected.isLt

/-! ### Block failures (R30 to R32) -/

/-- The block's failure noted, reported and kept for the rule of 10 s. -/
def Chip.failNoted (c : Chip) (r i cause : Nat) : Chip :=
  (((c.putBit (regionAt r) Region.failed i true).when (cause == 1) (·.bump (regionAt r) Region.ecc_uncorrected)).record 19 r 1 i
    [cause] []).setFab r (fun f => { f with failAt := setAt f.failAt i (some c.now) })

/-- Did the block fail within the last 10 s. -/
def Chip.failedLately (c : Chip) (r i : Nat) : Bool :=
  match nth none (c.fabr r).failAt i with
  | some t => decide (c.now - t ≤ 10000000)
  | none => false

/-- The machine with a block's operation in progress abandoned. -/
def State.failAbandoned (s : State) (r i cause : Nat) : State := { s with chip := (s.chip.failNoted r i cause).abandonBlock r i }

theorem blockFailure_to {s : State} {r i : Nat} (hfit : s.chip.fitted r = true) (hex : blockExists r i = true) (hph : 2 ≤ s.chip.phase)
    (hopen : s.chip.regionFenced r = false) (hfree : s.chip.blockFenced r i = false) (htest : nth none s.chip.sys.testing r = none)
    (cause : Nat) : s.blockFailure r i cause =
      if s.chip.failedLately r i then (s.failAbandoned r i cause).fenceBlock r i else s.failAbandoned r i cause := by
  rw [State.blockFailure]
  simp only [hfit, hex, hopen, hfree, htest, decide_eq_false (Nat.not_lt.2 hph), Bool.not_true, Bool.or_self, Bool.false_eq_true, if_false,
    Bool.false_and]
  rfl

/-! ### The state of a region in the fabric -/

namespace Chip

theorem fabr_setFab (c : Chip) {r : Nat} (f : FabSt → FabSt) (hc : c.fab.length = 8) (hr : r < 8) : (c.setFab r f).fabr r = f (c.fabr r) :=
  nth_upd_same _ _ _ _ (by omega)

theorem fabr_setFab_other (c : Chip) {r q : Nat} (f : FabSt → FabSt) (hq : q ≠ r) : (c.setFab r f).fabr q = c.fabr q := nth_upd_other _ _ _ hq

theorem fabr_congr {c d : Chip} (h : d.fab = c.fab) (r : Nat) : d.fabr r = c.fabr r := by rw [fabr, h, fabr]

variable (c : Chip) {r i : Nat} (cause : Nat)

/-- The words of a block failure. -/
def failWords (c : Chip) (r i cause : Nat) : Chip :=
  (c.putBit (regionAt r) Region.failed i true).when (cause == 1) (·.bump (regionAt r) Region.ecc_uncorrected)

theorem failWords_fab (r i : Nat) : (c.failWords r i cause).fab = c.fab := by
  unfold failWords when
  split
  · rfl
  · rfl

theorem failNoted_eq (r i : Nat) : c.failNoted r i cause = ((c.failWords r i cause).record 19 r 1 i [cause] []).setFab r
    (fun f => { f with failAt := setAt f.failAt i (some c.now) }) := rfl

theorem failNoted_fab (hlen : c.fab.length = 8) (hr : r < 8) :
    (c.failNoted r i cause).fabr r = { c.fabr r with failAt := setAt (c.fabr r).failAt i (some c.now) } := by
  have hfab : ((c.failWords r i cause).record 19 r 1 i [cause] []).fab = c.fab := (record_fab _ _ _ _ _ _ _).trans (failWords_fab c cause r i)
  rw [failNoted_eq, fabr_setFab _ _ (by rw [hfab, hlen]) hr, fabr_congr hfab]

theorem failAt_noted (hlen : c.fab.length = 8) (hr : r < 8) (hi : i < (c.fabr r).failAt.length) :
    nth none ((c.failNoted r i cause).fabr r).failAt i = some c.now := by
  rw [failNoted_fab c cause hlen hr]
  exact nth_upd_same _ _ _ _ hi

/-- Words of the own block are those of the failure's words. -/
theorem failNoted_get (r : Fin 8) (i : Nat) {f : Field} (hf : f.first < 65536) :
    (c.failNoted r i cause).get (regionAt r) f = (c.failWords r i cause).get (regionAt r) f := by
  rw [failNoted_eq, setFab_get, record_get _ _ _ _ _ _ _ (by rw [regionAt, Field.space_at _ (by decide) (by omega)]; omega)]

theorem failWords_bit (r : Nat) (hi : i < 16) : (c.failWords r i cause).getBit (regionAt r) Region.failed i = true := by
  have hbit : (c.putBit (regionAt r) Region.failed i true).getBit (regionAt r) Region.failed i = true := by
    rw [getBit_putBit c _ _ _ _ _ (by decide) (by decide) hi, if_pos rfl]
  unfold failWords when
  split
  · exact (congrArg (·.testBit i) (get_bump_clear (f := Region.ecc_uncorrected) _ _ (by decide))).trans hbit
  · exact hbit

theorem failWords_count (r i : Nat) : (c.failWords r i 1).get (regionAt r) Region.ecc_uncorrected =
    min (c.get (regionAt r) Region.ecc_uncorrected + 1) 65535 := by
  have hcount : c.failWords r i 1 = (c.putBit (regionAt r) Region.failed i true).bump (regionAt r) Region.ecc_uncorrected := rfl
  rw [hcount, bump_get_self _ _ (by decide), putBit, get_put_clear _ _ _ (by decide)]
  rfl

/-- A block failure fences nothing. -/
theorem failWords_fenced (r i : Nat) : (c.failWords r i cause).get (regionAt r) Region.fenced = c.get (regionAt r) Region.fenced := by
  unfold failWords when
  split
  · exact (get_bump_clear _ _ (by decide)).trans (get_put_clear _ _ _ (by decide))
  · rw [putBit, get_put_clear _ _ _ (by decide)]

end Chip

section

variable {s : State} {r : Fin 8} {i : Nat} (cause : Nat)

theorem failAbandoned_get {f : Field} (hf : f.first < 65536) (i : Nat) :
    (s.failAbandoned r i cause).chip.get (regionAt r) f = (s.chip.failWords r i cause).get (regionAt r) f :=
  ((Chip.abandonBlock_own _ r i).get r hf).trans (s.chip.failNoted_get cause r i hf)

theorem failAbandoned_free (h : s.chip.blockFenced r i = false) : (s.failAbandoned r i cause).chip.blockFenced r i = false := by
  rw [Chip.blockFenced, Chip.getBit, failAbandoned_get cause (by decide), Chip.failWords_fenced]
  exact h

theorem failAbandoned_at (hs : Shaped s) (hi : i < (s.chip.fabr r).failAt.length) :
    nth none ((s.failAbandoned r i cause).chip.fabr r).failAt i = some s.chip.now :=
  (congrArg (fun f => nth none f.failAt i) (Chip.fabr_congr (Chip.abandonBlock_own _ r i).fab r)).trans
    (s.chip.failAt_noted cause hs.fab r.isLt hi)

end

/-! ### The fence of a block (R32, R33) -/

theorem startQuench_posted (s : State) (trigger : Nat) : (s.startQuench trigger).chip.posted = s.chip.posted := by
  simp only [State.startQuench]
  split
  · rfl
  · exact (Chip.posted_congr rfl).trans (Chip.when_posted (fun d => d.put_posted _ (by decide)) _ _)

/-- What follows a fence of a block undoes none and unsets no note of it. -/
theorem fenceEffect_posted (s : State) {r : Nat} (hr : r < 8) (i : Nat) : (s.fenceEffect r i).chip.posted = s.chip.posted := by
  simp only [State.fenceEffect, State.onChip, apply_ite State.chip, apply_ite Chip.posted, startQuench_posted, Chip.moduleFault_posted,
    Chip.fenceSlice_posted, Chip.portSync_posted, Chip.stageCause_posted, Chip.stopRecorder_posted, Chip.stationDown_posted,
    Chip.laneFault_posted _ hr, Chip.each_posted (fun d g => Chip.guardChan_posted d g), Chip.put_stew_posted _ _ _ (by decide : Stew.running.short = true),
    ite_self]

/-- The block marked fenced, before what follows. -/
def Chip.fenceMarked (c : Chip) (r i : Nat) : Chip := (c.putBit (regionAt r) Region.fenced i true).put statusAt Status.block_fence_seen 1

theorem fenceMarked_get (c : Chip) (r : Fin 8) {i : Nat} (hi : i < 16) :
    (c.fenceMarked r i).blockFenced r i = true ∧ (c.fenceMarked r i).get statusAt Status.block_fence_seen = 1 := by
  have hne : Region.fenced.at (regionAt r) 0 ≠ Status.block_fence_seen.at statusAt 0 :=
    Field.at_ne_of_block (r := r) (q := 8) (b := 0) (d := 1) _ _ (by decide) (by decide) (by decide) (by decide) (.inr (by decide))
  refine ⟨?_, Chip.get_put_of_lt _ _ (by decide) (by decide)⟩
  rw [Chip.blockFenced, Chip.getBit, Chip.fenceMarked, Chip.get_put_other _ hne, ← Chip.getBit,
    Chip.getBit_putBit c _ _ _ _ _ (by decide) (by decide) hi, if_pos rfl]

theorem blockFenced_of_posted {c d : Chip} (h : d.posted = c.posted) (r : Fin 8) (i : Nat) : d.blockFenced r i = c.blockFenced r i :=
  congrArg (fun p => (p.2.2 r).1.testBit i) h

theorem fenceSeen_of_posted {c d : Chip} (h : d.posted = c.posted) :
    d.get statusAt Status.block_fence_seen = c.get statusAt Status.block_fence_seen := congrArg (fun p => p.2.1) h

theorem result_of_posted {c d : Chip} (h : d.posted = c.posted) (r : Fin 8) :
    d.get (regionAt r) Region.result = c.get (regionAt r) Region.result := congrArg (fun p => (p.2.2 r).2) h

theorem fenceBlock_fences {s : State} (r : Fin 8) {i : Nat} (hi : i < 16) (hfree : s.chip.blockFenced r i = false) :
    (s.fenceBlock r i).chip.blockFenced r i = true ∧ (s.fenceBlock r i).chip.get statusAt Status.block_fence_seen = 1 := by
  have hposted : (s.fenceBlock r i).chip.posted = (s.chip.fenceMarked r i).posted := by
    rw [State.fenceBlock, if_neg (by simp [hfree])]
    exact (fenceEffect_posted _ r.isLt i).trans ((Chip.svyAbortRegion_posted _ _).trans (Chip.record_posted _ _ _ _ _ _ _))
  obtain ⟨hfenced, hseen⟩ := fenceMarked_get s.chip r hi
  rw [blockFenced_of_posted hposted, fenceSeen_of_posted hposted]
  exact ⟨hfenced, hseen⟩

/-- The premises of a block failure that takes effect. -/
structure FailsNow (s : State) (r : Fin 8) (i : Nat) : Prop where
  fitted : s.chip.fitted r = true
  some : blockExists r i = true
  begun : 2 ≤ s.chip.phase
  regionOpen : s.chip.regionFenced r = false
  free : s.chip.blockFenced r i = false
  untested : nth none s.chip.sys.testing r = none

/-- A failure that is not the second within 10 s is kept for the rule. -/
theorem blockFailure_kept {s : State} {r : Fin 8} {i : Nat} (h : FailsNow s r i) (hi : i < 16) (hs : Shaped s)
    (hlen : (s.chip.fabr r).failAt.length = 16) (hnone : nth none (s.chip.fabr r).failAt i = none) (cause : Nat) :
    s.blockFailure r i cause = s.failAbandoned r i cause ∧
      (s.failAbandoned r i cause).chip.getBit (regionAt r) Region.failed i = true ∧
      (s.failAbandoned r i cause).chip.blockFenced r i = false ∧
      nth none ((s.failAbandoned r i cause).chip.fabr r).failAt i = Option.some s.chip.now := by
  have hlate : s.chip.failedLately r i = false := by
    rw [Chip.failedLately, hnone]
  refine ⟨?_, ?_, failAbandoned_free cause h.free, failAbandoned_at cause hs (by omega)⟩
  · rw [blockFailure_to h.fitted h.some h.begun h.regionOpen h.free h.untested, hlate]
    rfl
  · rw [Chip.getBit, failAbandoned_get cause (by decide), ← Chip.getBit, Chip.failWords_bit _ _ _ hi]

/-- A second failure within 10 s fences the block. -/
theorem blockFailure_fences {s : State} {r : Fin 8} {i : Nat} (h : FailsNow s r i) (hi : i < 16) {t0 : Nat}
    (hat : nth none (s.chip.fabr r).failAt i = Option.some t0) (hlate : s.chip.now - t0 ≤ 10000000) (cause : Nat) :
    (s.blockFailure r i cause).chip.blockFenced r i = true ∧ (s.blockFailure r i cause).chip.get statusAt Status.block_fence_seen = 1 := by
  have hrule : s.chip.failedLately r i = true := by
    rw [Chip.failedLately, hat]
    exact decide_eq_true hlate
  rw [blockFailure_to h.fitted h.some h.begun h.regionOpen h.free h.untested, hrule]
  exact fenceBlock_fences r hi (failAbandoned_free cause h.free)

/-! ### The self-test of a block that is unfenced (R35) -/

/-- The test over, whatever it found. -/
def Chip.testOver (c : Chip) (r : Nat) : Chip := c.setSys (fun y => { y with testing := setAt y.testing r none })

theorem testOver_testing {c : Chip} {r : Nat} (hlen : c.sys.testing.length = 8) (hr : r < 8) : nth none (c.testOver r).sys.testing r = none :=
  nth_upd_same _ _ _ _ (by omega)

theorem selfTest_fails {r : Fin 8} {s : State} {i : Nat} (hs : Shaped s) (htest : nth none s.chip.sys.testing r = some (i, false)) :
    ∃ t, exec (.blockSelfTestDone r false) s = .next t ∧ t.chip.get (regionAt r) Region.result = 4 ∧
      nth none t.chip.sys.testing r = none ∧ WordsKept (fun a => a = regionAt r + 15) s t := by
  have hstep : exec (.blockSelfTestDone r false) s = .next { s with chip := (s.chip.testOver r).put (regionAt r) Region.result 4 } := by
    change execBlockSelfTestDone r _ s = _
    simp only [execBlockSelfTestDone, htest]
    rfl
  have hat : Region.result.at (regionAt r) 0 = regionAt r + 15 := by simp [Field.at, Region.result, Field.one]
  refine ⟨_, hstep, Chip.get_put_of_lt _ _ (by decide) (by decide), testOver_testing hs.sized.testing r.isLt, ?_⟩
  rw [← hat]
  exact Chip.WordsBut.kept ((Chip.WordsBut.of_regs rfl).trans (.put (s.chip.testOver r) 4 rfl))

theorem selfTest_waits {r : Fin 8} {s : State} {i : Nat} (hs : Shaped s) (htest : nth none s.chip.sys.testing r = some (i, false))
    (hrun : s.chip.engineRuns = true) : ∃ t, exec (.blockSelfTestDone r true) s = .next t ∧
      t.chip.sys.returns = s.chip.sys.returns ++ [(r.val, i)] ∧ nth none t.chip.sys.testing r = none ∧
      WordsKept (fun _ => False) s t := by
  have hstep : exec (.blockSelfTestDone r true) s =
      .next { s with chip := (s.chip.testOver r).setSys (fun y => { y with returns := y.returns ++ [(r.val, i)] }) } := by
    change execBlockSelfTestDone r _ s = _
    simp only [execBlockSelfTestDone, htest]
    exact if_pos hrun
  exact ⟨_, hstep, rfl, testOver_testing hs.sized.testing r.isLt, fun a _ => rfl⟩

/-- A block's return in the words of its region. -/
def Chip.returnMarked (c : Chip) (r i : Nat) : Chip := (c.putBit (regionAt r) Region.fenced i false).put (regionAt r) Region.result 2

theorem returnMarked_get (c : Chip) (r : Fin 8) {i : Nat} (hi : i < 16) :
    (c.returnMarked r i).blockFenced r i = false ∧ (c.returnMarked r i).get (regionAt r) Region.result = 2 := by
  refine ⟨?_, Chip.get_put_of_lt _ _ (by decide) (by decide)⟩
  rw [Chip.blockFenced, Chip.getBit, Chip.returnMarked, Chip.get_put_clear _ _ _ (by decide), ← Chip.getBit,
    Chip.getBit_putBit c _ _ _ _ _ (by decide) (by decide) hi, if_pos rfl]

theorem posted_of_side {c d : Chip} (h : c.RecSide d) : d.posted = c.posted := by
  have hregion : ∀ (f : Field) (r : Fin 8), f.first < 65536 → d.get (regionAt r) f = c.get (regionAt r) f := fun f r hf =>
    h.get (by rw [regionAt, Field.space_at _ (by decide) (by omega)]; omega)
  exact Chip.posted_ext (h.get (by decide)) (h.get (by decide)) (fun r => hregion _ r (by decide)) (fun r => hregion _ r (by decide))

/-- What is neither of the kept words nor of the module's conditions. -/
def Chip.QuietTo (c d : Chip) : Prop := d.posted = c.posted ∧ d.steady = c.steady

theorem Chip.QuietTo.trans {c d e : Chip} (h : c.QuietTo d) (k : d.QuietTo e) : c.QuietTo e := ⟨k.1.trans h.1, k.2.trans h.2⟩

theorem resumeRecorder_quiet (s : State) : s.chip.QuietTo s.resumeRecorder.chip :=
  ⟨posted_of_side (resumeRecorder_side s), Chip.steady_congr (resumeRecorder_side s).sys⟩

theorem stewRuns_quiet (c : Chip) (r : Nat) : c.QuietTo (c.put (stewAt r) Stew.running 1) :=
  ⟨Chip.put_stew_posted c 1 r (by decide), Chip.put_steady _ _ _ _⟩

/-- A channel of a group that returned, begun afresh. -/
theorem afresh_quiet (c : Chip) (gs : List Nat) (e : Nat) : c.QuietTo (c.each gs (fun c g =>
    (if e = 2 || e = 3 then (c.afresh g).resolve g else c.afresh g).putStatus g)) :=
  ⟨Chip.each_posted (fun d g => by
      rw [Chip.putStatus_posted, Chip.posted_ite, Chip.resolve_posted, ite_self, Chip.afresh_posted]) c gs,
    Chip.each_steady (fun d g => by
      rw [Chip.putStatus_steady, Chip.steady_ite, Chip.resolve_steady, ite_self, Chip.afresh_steady]) c gs⟩

/-- The return marked and reported. -/
def State.returnReported (s : State) (r i : Nat) : State := s.onChip (fun c => (c.returnMarked r i).record 21 r 0 i [] [])

theorem returnReported_kept (s : State) (r i : Nat) : (s.returnReported r i).chip.posted = (s.chip.returnMarked r i).posted ∧
    (s.returnReported r i).chip.steady = s.chip.steady :=
  ⟨Chip.record_posted _ _ _ _ _ _ _, (Chip.record_steady _ _ _ _ _ _ _).trans rfl⟩

theorem returnBlock_quiet (s : State) (r i : Nat) : (s.returnReported r i).chip.QuietTo (s.returnBlock r i).chip := by
  have hrefl : ∀ c : Chip, c.QuietTo c := fun _ => ⟨rfl, rfl⟩
  have hslice : ∀ c : Chip, c.QuietTo (c.startSlice r) := fun c => ⟨Chip.startSlice_posted c r, Chip.startSlice_steady c r⟩
  have hport : ∀ c : Chip, c.QuietTo (c.portSync r) := fun c => ⟨Chip.portSync_posted c r, Chip.portSync_steady c r⟩
  have hstage : ∀ c : Chip, c.QuietTo ((c.stageCause (2 * r) 1 false).stageCause (2 * r + 1) 1 false) := fun c =>
    ⟨by rw [Chip.stageCause_posted, Chip.stageCause_posted], by rw [Chip.stageCause_steady, Chip.stageCause_steady]⟩
  unfold State.returnBlock
  simp only []
  split
  · exact afresh_quiet _ _ _
  split
  · split
    · exact hrefl _
    · exact hslice _
  split
  · exact hport _
  split
  · exact hstage _
  split
  · split
    · exact (stewRuns_quiet _ r).trans (resumeRecorder_quiet _)
    · exact stewRuns_quiet _ r
  split
  · split
    · exact hrefl _
    · exact resumeRecorder_quiet _
  · exact hrefl _

theorem selfTest_returns {r : Fin 8} {s : State} {i : Nat} (hs : Shaped s) (htest : nth none s.chip.sys.testing r = some (i, false))
    (hrun : s.chip.engineRuns = false) (hi : i < 16) : ∃ t, exec (.blockSelfTestDone r true) s = .next t ∧
      t.chip.blockFenced r i = false ∧ t.chip.get (regionAt r) Region.result = 2 ∧ nth none t.chip.sys.testing r = none := by
  have hidle : ¬ s.chip.engineRuns = true := by simp [hrun]
  have hstep : exec (.blockSelfTestDone r true) s = .next (({ s with chip := s.chip.testOver r } : State).returnBlock r i) := by
    change execBlockSelfTestDone r _ s = _
    simp only [execBlockSelfTestDone, htest]
    exact if_neg hidle
  obtain ⟨hposted, hsteady⟩ := (returnReported_kept { s with chip := s.chip.testOver r } r i)
  obtain ⟨hquiet, hquiet'⟩ := returnBlock_quiet { s with chip := s.chip.testOver r } r i
  obtain ⟨hfree, hresult⟩ := returnMarked_get (s.chip.testOver r) r hi
  have htesting := congrArg (fun y => nth none y.testing r.val) (hquiet'.trans hsteady)
  refine ⟨_, hstep, ?_, ?_, htesting.trans (testOver_testing hs.sized.testing r.isLt)⟩
  · rw [blockFenced_of_posted (hquiet.trans hposted), hfree]
  · rw [result_of_posted (hquiet.trans hposted), hresult]

/-- Settles O2: memory errors, cell reports, block failures and the end of a self-test. -/
theorem regionMemoryErrors : Obligations.RegionMemoryErrors := by
  intro r s hfit
  refine ⟨fun block => cellCheck_retries hfit block, correctable_counts hfit, fun corrected hrun hph => patrol_counts corrected hrun hph,
    fun block hex hph hopen hfree htest hlen hs => ?_, fun i htest hs => ⟨selfTest_fails hs htest, fun hrun => selfTest_waits hs htest hrun,
      fun hrun hi => selfTest_returns hs htest hrun hi⟩⟩
  have hnow : FailsNow s r block := ⟨hfit, hex, hph, hopen, hfree, htest⟩
  refine ⟨fun hnone => ⟨?_, ?_⟩, fun t0 hat hlate => ?_⟩
  · obtain ⟨hstep, hfailed, hfree', hat⟩ := blockFailure_kept hnow block.isLt hs hlen hnone 1
    refine ⟨_, next_congr hstep, hfailed, hfree', ?_, hat, .chip s _⟩
    rw [failAbandoned_get 1 (by decide), Chip.failWords_count]
  · obtain ⟨hstep, hfailed, hfree', hat⟩ := blockFailure_kept hnow block.isLt hs hlen hnone 2
    have hexec : exec (.cellCheckFailure r block false) s = .next (s.blockFailure r block 2) :=
      (if_neg (by simp [hfit])).trans (if_neg (by decide))
    exact ⟨_, hexec.trans (next_congr hstep), hfailed, hfree', hat, .chip s _⟩
  · exact ⟨_, rfl, blockFailure_fences hnow block.isLt hat hlate 1⟩

end Sys2Proof.Machine
end

section
/-! SUPPORT. O1: the three commands of a region's command word. -/

namespace Sys2Proof.Machine

/-! ### The region's command word (Table 1.6) -/

/-- One command bit alone is set in the word. -/
theorem regionCommand_one {c : Chip} {r w : Nat} (hres : c.get (regionAt r) Region.result ≠ 1) (hopen : c.regionClosed r = false)
    (hone : ((List.range 3).filter w.testBit).length = 1) : c.regionCommand r w =
      if w.testBit 0 then (if !c.mayUnfence r (w / 2 ^ 16 % 16) then c.put (regionAt r) Region.result 3
        else (((c.put (regionAt r) Region.last_cmd 0).put (regionAt r) Region.result 1).setSys (fun s => { s with
          testing := setAt s.testing r (some (w / 2 ^ 16 % 16, false)) })).each (blockTongs r (w / 2 ^ 16 % 16)) (fun c k => c.resetTongs k))
      else if w.testBit 1 then
        ((c.setFab r (fun f => { f with links := f.links.map (fun l => { l with downAt := 0 }) })).put (regionAt r) Region.last_cmd 1).put
          (regionAt r) Region.result 2
      else if w.testBit 2 then
        (((List.range 6).foldl (fun c k => c.setNat (regionAt r + 4 + k) 0) (c.setNat (regionAt r + 2) 0)).put (regionAt r)
          Region.last_cmd 2).put (regionAt r) Region.result 2
      else c := by
  rw [Chip.regionCommand]
  simp only [hopen, hone, Bool.false_or, decide_eq_false hres, Bool.false_eq_true, if_false, Nat.lt_irrefl]

/-- A command's answer. -/
def Chip.regionDone (c : Chip) (r n res : Nat) : Chip := (c.put (regionAt r) Region.last_cmd n).put (regionAt r) Region.result res

namespace Chip

theorem regionDone_get (c : Chip) (r : Nat) {n res : Nat} (hn : n < 2 ^ 8) (hres : res < 2 ^ 8) :
    (c.regionDone r n res).get (regionAt r) Region.last_cmd = n ∧ (c.regionDone r n res).get (regionAt r) Region.result = res := by
  refine ⟨?_, get_put_of_lt _ _ (by decide) hres⟩
  rw [regionDone, get_put_clear _ _ _ (by decide)]
  exact get_put_of_lt _ _ (by decide) hn

theorem regionAt_field (f : Field) (r : Nat) : f.at (regionAt r) 0 = regionAt r + f.first := by
  rw [Field.at_eq, Nat.zero_mul, Nat.add_zero]

theorem regionDone_word (c : Chip) (r n res : Nat) {a : Nat} (ha : a ≠ regionAt r + 15) : (c.regionDone r n res).word a = c.word a := by
  have hlast : Region.last_cmd.at (regionAt r) 0 = regionAt r + 15 := regionAt_field _ _
  have hresult : Region.result.at (regionAt r) 0 = regionAt r + 15 := regionAt_field _ _
  rw [regionDone, word_put_other _ _ (by rwa [hresult]), word_put_other _ _ (by rwa [hlast])]

theorem regionDone_regs {c d : Chip} (h : c.RegsOnly d) (r n res : Nat) : c.RegsOnly (d.regionDone r n res) := (h.put _ _ _).put _ _ _

/-! #### clear-counters -/

/-- Words 4 on of the block at `b`, set to zero. -/
def zeroed (c : Chip) (b n : Nat) : Chip := (List.range n).foldl (fun c k => c.setNat (b + k) 0) c

theorem zeroed_spec (c : Chip) (b n : Nat) : c.RegsOnly (c.zeroed b n) ∧ (∀ a, (a < b ∨ b + n ≤ a) → (c.zeroed b n).word a = c.word a) ∧
    ∀ k < n, (c.zeroed b n).nat (b + k) = 0 := by
  induction n with
  | zero => exact ⟨.refl c, fun _ _ => rfl, fun k hk => absurd hk (Nat.not_lt_zero k)⟩
  | succ n ih =>
    obtain ⟨hregs, hword, hnat⟩ := ih
    have hstep : c.zeroed b (n + 1) = (c.zeroed b n).setNat (b + n) 0 := by
      rw [zeroed, List.range_succ, List.foldl_append]
      rfl
    rw [hstep]
    refine ⟨hregs.setWord _ _, fun a ha => (word_setNat_other _ _ (by omega)).trans (hword a (by omega)), fun k hk => ?_⟩
    by_cases hkn : k = n
    · subst hkn
      exact nat_setNat_same _ _ _
    · exact (congrArg BitVec.toNat (word_setNat_other _ _ (by omega))).trans (hnat k (by omega))

end Chip

theorem clearCounters_to {r : Fin 8} {s : State} (hres : s.chip.get (regionAt r) Region.result ≠ 1) (hopen : s.chip.regionClosed r = false) :
    exec (.regionClearCounters r) s =
      .next { s with chip := ((s.chip.setNat (regionAt r + 2) 0).zeroed (regionAt r + 4) 6).regionDone r 2 2 } :=
  chipOnly_to s ((regionCommand_one hres hopen (by decide)).trans ((if_neg (by decide)).trans ((if_neg (by decide)).trans (if_pos (by decide)))))

theorem clearCounters_clears {r : Fin 8} {s : State} (hres : s.chip.get (regionAt r) Region.result ≠ 1)
    (hopen : s.chip.regionClosed r = false) : ∃ t, exec (.regionClearCounters r) s = .next t ∧
      t.chip.nat (regionAt r + 2) = 0 ∧ (∀ k < 6, t.chip.nat (regionAt r + 4 + k) = 0) ∧
      t.chip.get (regionAt r) Region.last_cmd = 2 ∧ t.chip.get (regionAt r) Region.result = 2 ∧
      t = { s with chip := { s.chip with regs := t.chip.regs } } ∧
      WordsKept (fun a => a = regionAt r + 2 ∨ (regionAt r + 4 ≤ a ∧ a < regionAt r + 10) ∨ a = regionAt r + 15) s t := by
  obtain ⟨hregs, hword, hnat⟩ := (s.chip.setNat (regionAt r + 2) 0).zeroed_spec (regionAt r + 4) 6
  obtain ⟨hlast, hresult⟩ := ((s.chip.setNat (regionAt r + 2) 0).zeroed (regionAt r + 4) 6).regionDone_get r (n := 2) (res := 2)
    (by decide) (by decide)
  have hset : s.chip.RegsOnly (s.chip.setNat (regionAt r + 2) 0) := (Chip.RegsOnly.refl _).setWord _ _
  refine ⟨_, clearCounters_to hres hopen, ?_, fun k hk => ?_, hlast, hresult, (Chip.regionDone_regs (Chip.RegsOnly.trans hset hregs) _ _ _).state, fun a ha => ?_⟩
  · rw [Chip.nat, Chip.regionDone_word _ _ _ _ (by omega), hword _ (by omega)]
    exact Chip.nat_setNat_same _ _ _
  · rw [Chip.nat, Chip.regionDone_word _ _ _ _ (by omega)]
    exact hnat k hk
  · simp only [not_or, not_and, Nat.not_lt] at ha
    obtain ⟨h2, h4, h15⟩ := ha
    change (Chip.regionDone _ _ _ _).word a = _
    rw [Chip.regionDone_word _ _ _ _ h15, hword a (by omega), Chip.word_setNat_other _ _ h2]

/-! ### retrain -/

/-- Every link of the region may train at once. -/
def Chip.linksRaised (c : Chip) (r : Nat) : Chip :=
  c.setFab r (fun f => { f with links := f.links.map (fun l => { l with downAt := 0 }) })

theorem retrain_to {r : Fin 8} {s : State} (hres : s.chip.get (regionAt r) Region.result ≠ 1) (hopen : s.chip.regionClosed r = false) :
    exec (.retrain r) s = .next { s with chip := (s.chip.linksRaised r).regionDone r 1 2 } :=
  chipOnly_to s ((regionCommand_one hres hopen (by decide)).trans ((if_neg (by decide)).trans (if_pos (by decide))))

theorem linksRaised_fabr (c : Chip) (r : Nat) :
    (c.linksRaised r).fabr r = { c.fabr r with links := (c.fabr r).links.map (fun l => { l with downAt := 0 }) } := by
  by_cases hr : r < c.fab.length
  · exact nth_upd_same _ _ _ _ hr
  · have hnone : ∀ l : List FabSt, l.length = c.fab.length → nth {} l r = ({} : FabSt) := fun l hl => by
      rw [nth, List.getD_eq_default _ _ (by omega)]
    have hlen : (c.linksRaised r).fab.length = c.fab.length := upd_length _ _ _
    rw [Chip.fabr, hnone _ hlen, Chip.fabr, hnone _ rfl]
    rfl

theorem nth_map_downAt (l : List LinkSt) (k : Nat) :
    nth ({} : LinkSt) (l.map (fun l => { l with downAt := 0 })) k = { nth ({} : LinkSt) l k with downAt := 0 } := by
  induction l generalizing k with
  | nil => rfl
  | cons a l ih =>
    cases k with
    | zero => rfl
    | succ k => exact ih k

/-- A link of any number: one that is not fitted reads as its default. -/
theorem linksRaised_link (c : Chip) (r k : Nat) : (c.linksRaised r).link r k = { c.link r k with downAt := 0 } := by
  rw [Chip.link, linksRaised_fabr, nth_map_downAt, Chip.link]

theorem retrain_raises {r : Fin 8} {s : State} (hres : s.chip.get (regionAt r) Region.result ≠ 1)
    (hopen : s.chip.regionClosed r = false) : ∃ t, exec (.retrain r) s = .next t ∧
      (∀ k, (t.chip.link r k).downAt = 0 ∧ (t.chip.link r k).rxSeq = (s.chip.link r k).rxSeq) ∧
      t.chip.get (regionAt r) Region.last_cmd = 1 ∧ t.chip.get (regionAt r) Region.result = 2 ∧
      t = { s with chip := { s.chip with regs := t.chip.regs, fab := t.chip.fab } } ∧
      WordsKept (fun a => a = regionAt r + 15) s t := by
  obtain ⟨hlast, hresult⟩ := (s.chip.linksRaised r).regionDone_get r (n := 1) (res := 2) (by decide) (by decide)
  refine ⟨_, retrain_to hres hopen, fun k => ?_, hlast, hresult, rfl,
    fun a ha => (Chip.regionDone_word _ _ _ _ ha).trans rfl⟩
  have hlink : ((s.chip.linksRaised r).regionDone r 1 2).link r k = { s.chip.link r k with downAt := 0 } := linksRaised_link s.chip r k
  rw [hlink]
  exact ⟨rfl, rfl⟩

/-! ### unfence -/

/-- The block's self-test begun. -/
def Chip.testBegun (c : Chip) (r i : Nat) : Chip :=
  (c.regionDone r 0 1).setSys (fun s => { s with testing := setAt s.testing r (some (i, false)) })

theorem unfence_to {r : Fin 8} {block : Fin 16} {s : State} (hres : s.chip.get (regionAt r) Region.result ≠ 1)
    (hopen : s.chip.regionClosed r = false) (hmay : s.chip.mayUnfence r block = true) :
    exec (.unfence r block) s = .next { s with chip := (s.chip.testBegun r block).each (blockTongs r block) Chip.resetTongs } := by
  have hblock : (1 + 2 ^ 16 * block.val) / 2 ^ 16 % 16 = block := by omega
  have hbit0 : (1 + 2 ^ 16 * block.val).testBit 0 = true := by
    rw [Nat.testBit_zero, decide_eq_true_iff]
    omega
  have hbit : ∀ k < 2, (1 + 2 ^ 16 * block.val).testBit (k + 1) = false := fun k hk => by
    rw [Nat.testBit_succ, Nat.testBit_eq_decide_div_mod_eq, decide_eq_false_iff_not]
    interval_cases k <;> omega
  have hone : ((List.range 3).filter (1 + 2 ^ 16 * block.val).testBit).length = 1 := by
    rw [show List.range 3 = [0, 1, 2] from rfl, List.filter_cons_of_pos hbit0, List.filter_cons_of_neg (by rw [hbit 0 (by decide)]; decide),
      List.filter_cons_of_neg (by rw [hbit 1 (by decide)]; decide)]
    rfl
  refine chipOnly_to s ((regionCommand_one hres hopen hone).trans ((if_pos hbit0).trans ?_))
  rw [hblock, if_neg (by simp [hmay])]
  rfl

namespace Chip

/-- What a reset of tongs changes: a count of discarded transfers, the queues and the tongs that wait. -/
theorem resetTongs_words (c : Chip) {r d u : Nat} (hd : d < 8) (hu : u < 16) :
    c.WordsBut (fun a => regionAt r + 17 ≤ a ∧ a < regionAt r + 25) (c.resetTongs (tongsKey r d u)) := by
  have hr : tongsKey r d u / 128 = r := by simp only [tongsKey]; omega
  have hdom : tongsKey r d u / 16 % 8 = d := by simp only [tongsKey]; omega
  unfold resetTongs
  rw [hr, hdom]
  refine .ite (fun _ => ?_) (fun _ => .of_regs rfl)
  refine WordsBut.trans (d := { c with
    emitted := _, ports := _, sys := _ }) (.of_regs rfl) (.putI _ _ ?_)
  rw [Field.at_eq]
  simp only [Cross.discarded, Field.many]
  omega

theorem resetTongs_waits (c : Chip) (k : Nat) : (c.resetTongs k).tongsWait k = true ∧
    (∀ j, c.tongsWait j = true → (c.resetTongs k).tongsWait j = true) ∧ (c.resetTongs k).sys.testing = c.sys.testing := by
  have hsys : (c.resetTongs k).sys = { c.sys with resync := if c.tongsWait k then c.sys.resync else k :: c.sys.resync } := by
    unfold resetTongs
    simp only []
    split
    · rfl
    · rfl
  refine ⟨?_, fun j hj => ?_, by rw [hsys]⟩
  · rw [tongsWait, hsys]
    by_cases hk : c.tongsWait k = true
    · rw [if_pos hk]
      exact hk
    · rw [if_neg hk]
      exact List.contains_cons.trans (by simp)
  · rw [tongsWait, hsys]
    split
    · exact hj
    · rw [List.contains_cons, Bool.or_eq_true]
      exact .inr hj

/-- Tongs reset one after the other all wait. -/
theorem resetAll_wait (l : List Nat) : ∀ c : Chip, (∀ j, c.tongsWait j = true → (c.each l resetTongs).tongsWait j = true) ∧
    (∀ k ∈ l, (c.each l resetTongs).tongsWait k = true) ∧ (c.each l resetTongs).sys.testing = c.sys.testing := by
  induction l with
  | nil => exact fun c => ⟨fun _ h => h, fun k hk => absurd hk List.not_mem_nil, rfl⟩
  | cons k l ih =>
    intro c
    obtain ⟨hself, hstand, htest⟩ := c.resetTongs_waits k
    obtain ⟨hold, hall, htest'⟩ := ih (c.resetTongs k)
    refine ⟨fun j hj => hold j (hstand j hj), fun j hj => ?_, htest'.trans htest⟩
    rcases List.mem_cons.1 hj with rfl | hj
    · exact hold j hself
    · exact hall j hj


end Chip

/-- The tongs of a block are those of a domain of its region. -/
theorem blockTongs_key {r i k : Nat} (h : k ∈ blockTongs r i) : ∃ d < 8, k = tongsKey r d i := by
  obtain ⟨d, hd, rfl⟩ := List.mem_map.1 h
  refine ⟨d, ?_, rfl⟩
  split_ifs at hd <;> simp at hd <;> omega

theorem unfence_begins {r : Fin 8} {block : Fin 16} {s : State} (hres : s.chip.get (regionAt r) Region.result ≠ 1)
    (hopen : s.chip.regionClosed r = false) (hfenced : s.chip.getBit (regionAt r) Region.fenced block = true)
    (hex : block.val ≤ 12 ∨ r.val ≤ 1) (hne : block ≠ 12) (hlead : r ≠ 0 ∨ block ≠ 11) (hph : s.chip.phase = 8) (hs : Shaped s) :
    ∃ t, exec (.unfence r block) s = .next t ∧ t.chip.get (regionAt r) Region.last_cmd = 0 ∧
      t.chip.get (regionAt r) Region.result = 1 ∧ nth none t.chip.sys.testing r = some (block.val, false) ∧
      (∀ k ∈ blockTongs r block, t.chip.tongsWait k = true) ∧ StoresKept s t ∧
      WordsKept (fun a => a = regionAt r + 15 ∨ (regionAt r + 17 ≤ a ∧ a < regionAt r + 25)) s t := by
  have hlive : s.chip.regionFenced r = false := by
    rw [Chip.regionClosed, Bool.or_eq_false_iff] at hopen
    exact hopen.1
  have hthere : blockExists r block = true := by
    have := block.isLt
    simp only [blockExists, Bool.or_eq_true, Bool.and_eq_true, decide_eq_true_iff]
    omega
  have hne' : block.val ≠ 12 := fun h => hne (Fin.ext h)
  have hlead' : ¬ r = 0 ∨ ¬ block.val = 11 := hlead.imp id (fun h k => h (Fin.ext k))
  have hmay : s.chip.mayUnfence r block = true := by
    simp [Chip.mayUnfence, hph, hthere, hne', hlead', hlive, Chip.blockFenced, hfenced]
  obtain ⟨hlast, hresult⟩ := s.chip.regionDone_get r (n := 0) (res := 1) (by decide) (by decide)
  obtain ⟨-, hwait, htest⟩ := Chip.resetAll_wait (blockTongs r block) (s.chip.testBegun r block)
  have hwords : (s.chip.testBegun r block).WordsBut (fun a => regionAt r + 17 ≤ a ∧ a < regionAt r + 25)
      ((s.chip.testBegun r block).each (blockTongs r block) Chip.resetTongs) :=
    Chip.each_rel (Chip.WordsBut.refl _) (fun _ _ _ => .trans) _ (fun c k hk => by
      obtain ⟨d, hd, rfl⟩ := blockTongs_key hk
      exact c.resetTongs_words hd block.isLt) _
  have hown : ∀ f : Field, f.first < 17 → ((s.chip.testBegun r block).each (blockTongs r block) Chip.resetTongs).get (regionAt r) f =
      (s.chip.regionDone r 0 1).get (regionAt r) f := fun f hf =>
    (hwords.get (by rw [Chip.regionAt_field]; omega)).trans (Chip.setSys_get _ _ _ _)
  refine ⟨_, unfence_to hres hopen hmay, (hown _ (by decide)).trans hlast, (hown _ (by decide)).trans hresult, ?_, hwait, .chip s _, fun a ha => ?_⟩
  · rw [htest]
    exact nth_upd_same _ _ _ _ (lt_of_lt_of_eq r.isLt hs.sized.testing.symm)
  · simp only [not_or] at ha
    exact (hwords a ha.2).trans (Chip.regionDone_word _ _ _ _ ha.1)

/-- Settles O1: the three commands of a region's command word. -/
theorem regionCommandWord : Obligations.RegionCommandWord := by
  intro r s hres hopen
  exact ⟨clearCounters_clears hres hopen, retrain_raises hres hopen, fun block hfenced hex hne hlead hph hs =>
    unfence_begins hres hopen hfenced hex hne hlead hph hs⟩

end Sys2Proof.Machine
end

section
/-! SUPPORT. What the operations of the panel port change of the panel and of its block. -/

namespace Sys2Proof.Machine

/-! ### What the operations of the panel port change -/

/-- Besides the words of a set and the panel itself nothing changes. -/
structure Chip.PanelMoves (P : Nat → Prop) (c d : Chip) : Prop where
  frame : ∃ rg p, d = { c with regs := rg, panel := p }
  words : c.WordsBut P d

namespace Chip.PanelMoves

variable {P : Nat → Prop} {c d e : Chip}

theorem refl (P : Nat → Prop) (c : Chip) : c.PanelMoves P c := ⟨⟨c.regs, c.panel, rfl⟩, .refl P c⟩

theorem trans (h : c.PanelMoves P d) (k : d.PanelMoves P e) : c.PanelMoves P e := by
  obtain ⟨⟨rg, p, hd⟩, hw⟩ := h
  obtain ⟨⟨rg', p', he⟩, hw'⟩ := k
  exact ⟨⟨rg', p', by rw [he, hd]⟩, hw.trans hw'⟩

theorem setWord (h : c.PanelMoves P d) {a : Nat} (v : Word) (hp : P a) : c.PanelMoves P (d.setWord a v) :=
  h.trans ⟨⟨(d.setWord a v).regs, d.panel, rfl⟩, .setWord d v hp⟩

theorem put (h : c.PanelMoves P d) {b : Nat} {f : Field} (v : Nat) (hp : P (f.at b 0)) : c.PanelMoves P (d.put b f v) := h.setWord _ hp

theorem setPanel (h : c.PanelMoves P d) (f : PanelSt → PanelSt) : c.PanelMoves P (d.setPanel f) :=
  h.trans ⟨⟨d.regs, f d.panel, rfl⟩, .of_regs rfl⟩

theorem when (h : c.PanelMoves P d) (b : Bool) {f : Chip → Chip} (k : c.PanelMoves P (f d)) : c.PanelMoves P (d.when b f) := by
  cases b
  · exact h
  · exact k

theorem panelState (h : c.PanelMoves P d) (st : Nat) (hp : P panelAt) : c.PanelMoves P (d.panelState st) :=
  (h.put (b := panelAt) (f := Panel.state) _ hp).put (b := panelAt) (f := Panel.up) _ hp

theorem nOff (h : c.PanelMoves P d) (n : Nat) (hp : P (panelAt + 0x41)) : c.PanelMoves P (d.nOff n) := h.put _ hp

theorem nOn (h : c.PanelMoves P d) (n : Nat) (hl : P (panelAt + 0x40)) (hp : P (panelAt + 0x41)) : c.PanelMoves P (d.nOn n) :=
  (h.setWord _ hl).put _ hp

theorem panelCut (h : c.PanelMoves P d) (hp : P (panelAt + 0x43)) : c.PanelMoves P d.panelCut := by
  unfold Chip.panelCut
  split
  · exact h.put _ hp
  · exact h

theorem panelDone (h : c.PanelMoves P d) (hp : P (panelAt + 0x43)) : c.PanelMoves P d.panelDone := by
  unfold Chip.panelDone
  split
  · exact h.put _ hp
  · exact h

theorem updateOver (h : c.PanelMoves P d) (hp : P panelAt) (hf : P (panelAt + 0x41)) : c.PanelMoves P d.updateOver :=
  ((h.put (b := panelAt) (f := Panel.ep_busy) _ hp).nOff _ hf).nOff _ hf

theorem state {s : State} (h : s.chip.PanelMoves P d) :
    ({ s with chip := d } : State) = { s with chip := { s.chip with regs := d.regs, panel := d.panel } } := by
  obtain ⟨⟨rg, p, hd⟩, -⟩ := h
  rw [hd]

theorem kept {s : State} (h : s.chip.PanelMoves P d) : WordsKept P s { s with chip := d } := h.words.kept

end Chip.PanelMoves

/-! ### What they leave of a field of the panel block -/

theorem Chip.get_putBit_clear (c : Chip) (b i : Nat) (v : Bool) {f g : Field} (h : f.clear g = true) :
    (c.putBit b f i v).get b g = c.get b g := Chip.get_put_clear c b _ h

theorem Chip.getBit_put_clear (c : Chip) (b i v : Nat) {f g : Field} (h : f.clear g = true) :
    (c.put b f v).getBit b g i = c.getBit b g i := by rw [getBit, Chip.get_put_clear c b v h, getBit]

theorem Chip.get_bump_clear' (c : Chip) (b : Nat) {f g : Field} (h : f.clear g = true) : (c.bump b f).get b g = c.get b g :=
  Chip.get_put_clear c b _ h

theorem Chip.get_when (c : Chip) (w : Bool) (F : Chip → Chip) {b : Nat} {g : Field} (h : (F c).get b g = c.get b g) :
    (c.when w F).get b g = c.get b g := by
  cases w
  · rfl
  · exact h

theorem Chip.panelState_state (c : Chip) {st : Nat} (h : st < 16) : (c.panelState st).get panelAt Panel.state = st := by
  rw [panelState, Chip.get_put_clear _ _ _ (by decide), Chip.get_put_of_lt _ _ (by decide) h]

theorem Chip.panelState_up (c : Chip) (st : Nat) : (c.panelState st).get panelAt Panel.up = b2n (st == 2) := by
  rw [panelState, Chip.get_put_of_lt _ _ (by decide) (by cases st == 2 <;> decide)]

theorem Chip.panelState_get (c : Chip) (st : Nat) {g : Field} (h : (Panel.state.clear g && Panel.up.clear g) = true) :
    (c.panelState st).get panelAt g = c.get panelAt g := by
  obtain ⟨hs, hu⟩ := Bool.and_eq_true_iff.1 h
  rw [panelState, Chip.get_put_clear _ _ _ hu, Chip.get_put_clear _ _ _ hs]

theorem Chip.nOff_get (c : Chip) (n : Nat) {g : Field} (h : Panel.flags_now.clear g = true) : (c.nOff n).get panelAt g = c.get panelAt g :=
  Chip.get_put_clear c _ _ h

theorem Chip.nOff_bit (c : Chip) {n k : Nat} (hk : k < 8) :
    (c.nOff n).getBit panelAt Panel.flags_now k = if k = n then false else c.getBit panelAt Panel.flags_now k :=
  Chip.getBit_putBit c _ _ _ _ _ (by decide) (by decide) hk

/-- The latches of the panel's flags stand in a word of their own. -/
theorem Chip.nOn_get (c : Chip) (n : Nat) {g : Field} (h : Panel.flags_now.clear g = true) (h' : g.first ≠ 0x40) :
    (c.nOn n).get panelAt g = c.get panelAt g := by
  refine (Chip.get_put_clear _ _ _ h).trans (Chip.get_congr (Chip.word_setWord_other c _ ?_))
  rw [Field.at_eq]
  omega

theorem Chip.nOn_bit (c : Chip) {n k : Nat} (hk : k < 8) :
    (c.nOn n).getBit panelAt Panel.flags_now k = if k = n then true else c.getBit panelAt Panel.flags_now k := by
  refine (Chip.getBit_putBit _ _ _ _ _ _ (by decide) (by decide) hk).trans (if_congr Iff.rfl rfl ?_)
  exact congrArg (·.testBit k) (Chip.get_congr (b := panelAt) (f := Panel.flags_now) (Chip.word_setWord_other (a := panelAt + 0x40) c _ (by decide)))

theorem Chip.panelCut_get (c : Chip) {g : Field} (h : Panel.result.clear g = true) : c.panelCut.get panelAt g = c.get panelAt g := by
  unfold panelCut
  split
  · exact Chip.get_put_clear c _ _ h
  · rfl

theorem Chip.panelDone_get (c : Chip) {g : Field} (h : Panel.result.clear g = true) : c.panelDone.get panelAt g = c.get panelAt g := by
  unfold panelDone
  split
  · exact Chip.get_put_clear c _ _ h
  · rfl

theorem Chip.panelDone_bit (c : Chip) (k : Nat) : c.panelDone.getBit panelAt Panel.flags_now k = c.getBit panelAt Panel.flags_now k :=
  congrArg (·.testBit k) (c.panelDone_get (by decide))

@[simp] theorem Chip.panelDone_panel (c : Chip) : c.panelDone.panel = c.panel := by
  unfold panelDone
  split <;> rfl

@[simp] theorem Chip.panelCut_panel (c : Chip) : c.panelCut.panel = c.panel := by
  unfold panelCut
  split <;> rfl

theorem Chip.updateOver_get (c : Chip) {g : Field} (h : (Panel.ep_busy.clear g && Panel.flags_now.clear g) = true) :
    c.updateOver.get panelAt g = c.get panelAt g := by
  obtain ⟨he, hf⟩ := Bool.and_eq_true_iff.1 h
  rw [updateOver, Chip.nOff_get _ _ hf, Chip.nOff_get _ _ hf, Chip.get_put_clear _ _ _ he]

theorem Chip.updateOver_busy (c : Chip) : c.updateOver.get panelAt Panel.ep_busy = 0 := by
  rw [updateOver, Chip.nOff_get _ _ (by decide), Chip.nOff_get _ _ (by decide), Chip.get_put_of_lt _ _ (by decide) (by decide)]

theorem panel_space {f : Field} (h : f.first < 65536) : spaceOf (f.at panelAt 0) = 11 := by
  rw [Field.at_eq, Nat.zero_mul, Nat.add_zero]
  unfold spaceOf panelAt
  omega

theorem Chip.record_panelGet (c : Chip) (source region severity subject : Nat) (bs ws : List Nat) {f : Field} (h : f.first < 65536) :
    (c.record source region severity subject bs ws).get panelAt f = c.get panelAt f :=
  Chip.record_get c _ _ _ _ _ _ (by rw [panel_space h]; decide)

theorem Chip.record_panelBit (c : Chip) (source region severity subject : Nat) (bs ws : List Nat) (k : Nat) :
    (c.record source region severity subject bs ws).getBit panelAt Panel.flags_now k = c.getBit panelAt Panel.flags_now k :=
  congrArg (·.testBit k) (c.record_panelGet _ _ _ _ _ _ (by decide))

end Sys2Proof.Machine
end

section
/-! SUPPORT. O44: the quench. -/

namespace Sys2Proof.Machine

/-! ### The start of a quench -/

theorem startQuench_idle (s : State) (n : Nat) (h : s.chip.driving = false) : s.startQuench n = s := by
  rw [State.startQuench, if_pos (by simp [h])]

/-- The chip in which a quench has begun. -/
def Chip.quenching (c : Chip) (n : Nat) : Chip := (c.when c.waveRuns (·.put panelAt Panel.dirty 1)).setPanel (fun p => { p with
  quench := some n, quenchAt := c.now, blEn := false })

/-- The flash in which a running waveform has left its mark. -/
def Flash.marked (f : Flash) (b : Bool) : Flash := if b then { f with retained := { f.retained with dirty := true } } else f

theorem startQuench_begins (s : State) (n : Nat) (h : s.chip.driving = true) :
    s.startQuench n = { s with chip := s.chip.quenching n, flash := s.flash.marked s.chip.waveRuns } := by
  rw [State.startQuench, if_neg (by simp [h])]
  rfl

theorem marked_nor (f : Flash) (b : Bool) : (f.marked b).nor = f.nor := by cases b <;> rfl

theorem quenching_moves {P : Nat → Prop} (c : Chip) (n : Nat) (hp : P panelAt) : c.PanelMoves P (c.quenching n) :=
  ((Chip.PanelMoves.refl P c).when _ ((Chip.PanelMoves.refl P c).put (b := panelAt) (f := Panel.dirty) 1 hp)).setPanel _

theorem quenching_get (c : Chip) (n : Nat) {f : Field} (h : Panel.dirty.clear f = true) : (c.quenching n).get panelAt f = c.get panelAt f :=
  Chip.get_when c _ _ (Chip.get_put_clear c panelAt 1 h)

theorem quenching_quench (c : Chip) (n : Nat) : (c.quenching n).panel.quench = some n ∧ (c.quenching n).panel.blEn = false := ⟨rfl, rfl⟩

theorem quenching_dirty (c : Chip) (n : Nat) (h : c.waveRuns = true) : (c.quenching n).get panelAt Panel.dirty = 1 := by
  rw [Chip.quenching, Chip.setPanel_get, h]
  exact Chip.get_put_of_lt c _ (by decide) (by decide)

/-- Whether the panel is driven hangs on the panel and on the state its block shows. -/
theorem driving_congr {c d : Chip} (hp : d.panel = c.panel) (hs : d.get panelAt Panel.state = c.get panelAt Panel.state) :
    d.driving = c.driving := by rw [Chip.driving, Chip.driving, hp, hs]

/-! ### A rail outside its window (R488) -/

def Chip.railLost (c : Chip) (rail : Fin 4) (mv : BitVec 16) : Chip :=
  ((c.nOn nRail).put panelAt Panel.rails_ok 0).record 90 0xFF 2 0 [2, rail.val + 1] [unsigned 32 mv.toInt]

theorem railFault_to {s : State} {rail : Fin 4} {mv : BitVec 16} (hd : s.chip.driving = true)
    (hr : s.chip.flag panelAt Panel.rails_ok = true) (hu : s.chip.panel.usedRails.contains rail.val = true)
    (hw : inWindow (nth 0 s.chip.panel.rails rail.val) mv.toInt = false) :
    exec (.railFault rail mv) s = .next (({ s with chip := s.chip.railLost rail mv } : State).startQuench 2) :=
  if_neg (by rw [hd, hr, hu, hw]; decide)

theorem railLost_get (c : Chip) (rail : Fin 4) (mv : BitVec 16) {f : Field} (h : Panel.rails_ok.clear f = true)
    (h' : Panel.flags_now.clear f = true) (h'' : f.first ≠ 0x40 ∧ f.first < 65536) :
    (c.railLost rail mv).get panelAt f = c.get panelAt f := by
  rw [Chip.railLost, Chip.record_panelGet _ _ _ _ _ _ _ h''.2, Chip.get_put_clear _ _ _ h, Chip.nOn_get _ _ h' h''.1]

theorem railLost_driving (c : Chip) (rail : Fin 4) (mv : BitVec 16) : (c.railLost rail mv).driving = c.driving :=
  driving_congr (Chip.record_panel _ _ _ _ _ _ _) (railLost_get c rail mv (by decide) (by decide) (by decide))

/-! ### The end of a quench -/

def Chip.grounded (c : Chip) : Chip :=
  (c.updateOver.put panelAt Panel.rails_ok 0).setPanel (fun p => { p with
    pnlEn := false, target := none, deepNow := false, shown := if (c.panel.use.map (·.kind)) == some 2 then p.shown else none })

theorem quenchFrameEnd_to {s : State} (hq : s.chip.panel.quench ≠ none) (hw : s.chip.waveRuns = true → s.chip.panel.updAt +
    ((s.chip.panel.quenchAt - s.chip.panel.updAt) / max 1 s.chip.frameTicks + 1) * max 1 s.chip.frameTicks ≤ s.chip.now) :
    exec .quenchFrameEnd s = .next { s with chip := s.chip.grounded } := by
  refine chipOnly_to s (if_neg ?_)
  rw [Bool.or_eq_true, Bool.and_eq_true, Option.isNone_iff_eq_none, decide_eq_true_eq]
  rintro (h | ⟨h, hlt⟩)
  · exact hq h
  · exact absurd (hw h) (Nat.not_le_of_lt hlt)

def Chip.quenched (c : Chip) (trigger : Nat) : Chip :=
  (((c.panelState 3).nOn nQuenched).when (c.phase == 8) (·.bump panelAt Panel.quenches)).record 90 0xFF 2 0 [3, trigger]
    [c.get panelAt Panel.identity]

def Chip.quenchOver (c : Chip) (trigger : Nat) : Chip :=
  (if trigger = 7 then c.quenched trigger else (c.quenched trigger).panelCut).setPanel (fun p =>
    { p with quench := none, lastQuench := trigger, pnlEn := false, target := none, want := trigger == 7 })

theorem quenchComplete_to {s : State} {trigger : Nat} (hq : s.chip.panel.quench = some trigger) (hp : s.chip.panel.pnlEn = false) :
    exec .quenchComplete s = .next { s with chip := s.chip.quenchOver trigger } := by
  refine chipOnly_to s ?_
  rw [hq]
  exact if_neg (by simp [hp])

theorem quenchOver_get (c : Chip) (n : Nat) {f : Field} (h : Panel.result.clear f = true) :
    (c.quenchOver n).get panelAt f = (c.quenched n).get panelAt f := by
  rw [Chip.quenchOver, Chip.setPanel_get]
  split
  · rfl
  · exact Chip.panelCut_get _ h

theorem quenched_get (c : Chip) (n : Nat) {f : Field} (h : Panel.quenches.clear f = true) (hf : f.first < 65536) :
    (c.quenched n).get panelAt f = ((c.panelState 3).nOn nQuenched).get panelAt f := by
  rw [Chip.quenched, Chip.record_panelGet _ _ _ _ _ _ _ hf]
  exact Chip.get_when _ _ _ (Chip.get_bump_clear' _ _ h)

theorem quenchOver_state (c : Chip) (n : Nat) : (c.quenchOver n).get panelAt Panel.state = 3 := by
  rw [quenchOver_get c n (by decide), quenched_get c n (by decide) (by decide), Chip.nOn_get _ _ (by decide) (by decide),
    Chip.panelState_state _ (by decide)]

theorem quenchOver_bit (c : Chip) (n : Nat) : (c.quenchOver n).getBit panelAt Panel.flags_now nQuenched = true := by
  rw [Chip.getBit, quenchOver_get c n (by decide), quenched_get c n (by decide) (by decide)]
  exact (Chip.nOn_bit _ (by decide)).trans (if_pos rfl)

/-- A quench that ends in S8 is counted. -/
theorem quenchOver_count (c : Chip) (n : Nat) (h : c.phase = 8) :
    (c.quenchOver n).get panelAt Panel.quenches = min (c.get panelAt Panel.quenches + 1) Panel.quenches.top := by
  rw [quenchOver_get c n (by decide), Chip.quenched, Chip.record_panelGet _ _ _ _ _ _ _ (by decide), h]
  refine (Chip.bump_get_self _ _ (by decide)).trans ?_
  rw [Chip.nOn_get _ _ (by decide) (by decide), Chip.panelState_get _ _ (by decide)]

/-! ### The restart command (R498) -/

def Chip.restartTaken (c : Chip) : Chip := ((c.put panelAt Panel.last_cmd 0).put panelAt Panel.result 1).resetTongs (tongsKey 0 6 13)

theorem panelRestart_refused {s : State} (hr : s.chip.get panelAt Panel.result ≠ 1) (hm : s.chip.mayDrive = false) :
    exec .panelRestart s = .next { s with chip := s.chip.put panelAt Panel.result 3 } := by
  refine next_congr ((if_neg hr).trans (if_pos ?_))
  rw [hm]
  rfl

theorem panelRestart_taken {s : State} (hr : s.chip.get panelAt Panel.result ≠ 1) (hm : s.chip.mayDrive = true)
    (h0 : s.chip.get panelAt Panel.state ≠ 0) (h6 : s.chip.get panelAt Panel.state ≠ 6) :
    exec .panelRestart s = .next (if s.chip.driving = true then ({ s with chip := s.chip.restartTaken } : State).startQuench 7
      else { s with chip := s.chip.restartTaken.wantPanel }) :=
  next_congr ((if_neg hr).trans (if_neg (by simp [hm, h0, h6])))

theorem resetTongs_panel (c : Chip) (k : Nat) : (c.resetTongs k).panel = c.panel := by
  unfold Chip.resetTongs
  extract_lets q c1
  split <;> rfl

/-- Tongs that are reset leave the panel's words. -/
theorem resetTongs_panelGet (c : Chip) (f : Field) (h : f.first < 65536) :
    (c.resetTongs (tongsKey 0 6 13)).get panelAt f = c.get panelAt f := by
  unfold Chip.resetTongs
  extract_lets q c1
  split
  · refine (Chip.getI_putI_other _ (fun e => ?_)).trans rfl
    have hs := panel_space (f := f) h
    rw [e] at hs
    exact absurd hs (by decide)
  · rfl

theorem restartTaken_get (c : Chip) {f : Field} (h : (Panel.last_cmd.clear f && Panel.result.clear f) = true) (hf : f.first < 65536) :
    c.restartTaken.get panelAt f = c.get panelAt f := by
  obtain ⟨hl, hr⟩ := Bool.and_eq_true_iff.1 h
  rw [Chip.restartTaken, resetTongs_panelGet _ _ hf, Chip.get_put_clear _ _ _ hr, Chip.get_put_clear _ _ _ hl]

theorem restartTaken_answer (c : Chip) :
    c.restartTaken.get panelAt Panel.result = 1 ∧ c.restartTaken.get panelAt Panel.last_cmd = 0 := by
  rw [Chip.restartTaken, resetTongs_panelGet _ _ (by decide), resetTongs_panelGet _ _ (by decide)]
  refine ⟨Chip.get_put_of_lt _ _ (by decide) (by decide), ?_⟩
  rw [Chip.get_put_clear _ _ _ (by decide), Chip.get_put_of_lt _ _ (by decide) (by decide)]

theorem restartTaken_driving (c : Chip) : c.restartTaken.driving = c.driving :=
  driving_congr (resetTongs_panel _ _) (restartTaken_get c (by decide) (by decide))

/-- Settles O44: the quench. -/
theorem panelQuench : Obligations.PanelQuench := by
  intro s
  refine ⟨fun trigger h0 => ⟨fun hd => ?_, fun hd => ?_⟩, fun rail mv hd hr hu hw => ?_, fun hq hw => ?_, fun trigger hq hp => ?_,
    fun hr => ⟨fun hm hs0 hs6 => ?_, fun hm => ?_⟩⟩
  · refine next_congr ?_
    split
    · rfl
    · exact startQuench_idle s _ hd
  · have hto : exec (.quench trigger) s = .next { s with chip := s.chip.quenching trigger.val, flash := s.flash.marked s.chip.waveRuns } :=
      next_congr ((if_neg (fun e => h0 (Fin.ext e))).trans (startQuench_begins s _ hd))
    have hmoves : s.chip.PanelMoves (fun a => a = panelAt) (s.chip.quenching trigger.val) := quenching_moves _ _ rfl
    refine ⟨_, hto, rfl, rfl, fun hw => ⟨quenching_dirty _ _ hw, ?_⟩, fun hw => ?_, marked_nor _ _, rfl, ?_, hmoves.words⟩
    · rw [hw]
      rfl
    · rw [hw]
      rfl
    · obtain ⟨rg, p, he⟩ := hmoves.frame
      rw [he]
  · have hto := (railFault_to hd hr hu hw).trans (next_congr (startQuench_begins _ 2 ((railLost_driving s.chip rail mv).trans hd)))
    refine ⟨_, hto, rfl, ?_, ?_, marked_nor _ _, rfl⟩
    · rw [Chip.getBit, quenching_get _ _ (by decide), Chip.railLost, Chip.record_panelGet _ _ _ _ _ _ _ (by decide),
        Chip.get_put_clear _ _ _ (by decide)]
      exact (Chip.nOn_bit _ (by decide)).trans (if_pos rfl)
    · rw [quenching_get _ _ (by decide), Chip.railLost, Chip.record_panelGet _ _ _ _ _ _ _ (by decide),
        Chip.get_put_of_lt _ _ (by decide) (by decide)]
  · have hmoves : s.chip.PanelMoves (fun a => a = panelAt ∨ a = panelAt + 0x41) s.chip.grounded :=
      (((Chip.PanelMoves.refl _ _).updateOver (.inl rfl) (.inr rfl)).put _ (.inl rfl)).setPanel _
    refine ⟨_, quenchFrameEnd_to hq hw, rfl, rfl, ?_, ?_, hmoves.state, hmoves.kept⟩
    · rw [Chip.grounded, Chip.setPanel_get, Chip.get_put_clear _ _ _ (by decide), Chip.updateOver_busy]
    · rw [Chip.grounded, Chip.setPanel_get, Chip.get_put_of_lt _ _ (by decide) (by decide)]
  · exact ⟨_, quenchComplete_to hq hp, rfl, rfl, quenchOver_state _ _, quenchOver_bit _ _, rfl, quenchOver_count _ _, .chip s _⟩
  · have hto := panelRestart_taken hr hm hs0 hs6
    obtain ⟨hres, hlast⟩ := restartTaken_answer s.chip
    by_cases hd : s.chip.driving = true
    · rw [if_pos hd, startQuench_begins _ 7 ((restartTaken_driving s.chip).trans hd)] at hto
      exact ⟨_, hto, (quenching_get _ _ (by decide)).trans hres, (quenching_get _ _ (by decide)).trans hlast, fun _ => rfl,
        fun hn => absurd (hd.symm.trans hn) (by decide), marked_nor _ _, rfl⟩
    · rw [if_neg hd] at hto
      exact ⟨_, hto, hres, hlast, fun hn => absurd hn hd, fun _ => rfl, rfl, rfl⟩
  · exact ⟨_, panelRestart_refused hr hm, Chip.get_put_of_lt _ _ (by decide) (by decide), rfl, put_kept s _ _ _⟩

end Sys2Proof.Machine
end

section
/-! SUPPORT. O42: the start of a panel. -/

namespace Sys2Proof.Machine

/-! ### A panel start (R478, Table 17.4) -/

theorem panelStart_held {s : State} {mem : List Byte} (h : s.chip.waveRuns = true) : exec (.panelStart mem) s = .next s :=
  chipOnly_to s (if_pos (by simp [h]))

theorem panelYield_driving {c : Chip} (h : c.driving = true) : c.panelYield = c := if_pos (by simp [h])

theorem panelStart_driven {s : State} {mem : List Byte} (hd : s.chip.driving = true) (hm : s.chip.mayDrive = false) :
    exec (.panelStart mem) s = .next s := by
  refine chipOnly_to s ?_
  by_cases h : (!s.chip.panel.want || s.chip.panel.quench.isSome || s.chip.waveRuns) = true
  · exact if_pos h
  · exact (if_neg h).trans ((if_pos (by simp [hm])).trans (panelYield_driving hd))

/-- A panel start that nothing holds up. -/
def Chip.startFree (c : Chip) : Prop := c.panel.want = true ∧ c.panel.quench = none ∧ c.waveRuns = false

theorem startFree_iff {c : Chip} : c.startFree ↔ ¬ (!c.panel.want || c.panel.quench.isSome || c.waveRuns) = true := by
  simp [Chip.startFree, and_assoc]

def Chip.yielded (c : Chip) : Chip := ((c.panelState 6).nOff nQuenched).panelCut

theorem panelStart_yields {s : State} {mem : List Byte} (h : s.chip.startFree) (hm : s.chip.mayDrive = false) (hd : s.chip.driving = false)
    (h2 : s.chip.panel.s2At ≠ none) : exec (.panelStart mem) s = .next { s with chip := s.chip.yielded } :=
  chipOnly_to s ((if_neg (startFree_iff.1 h)).trans ((if_pos (by simp [hm])).trans (if_neg (by simpa [hd, h.2.1] using h2))))

/-- The identity that the ID memory gives is shown. -/
def Chip.identified (c : Chip) (bs : List Nat) : Chip :=
  (c.put panelAt Panel.identity (numAt bs 0 4)).put panelAt Panel.kind_now (numAt bs 0 4 / 2 ^ 28)

def Chip.startRefused (c : Chip) (bs : List Nat) : Chip :=
  ((((((((c.identified bs).panelState 5).nOn nMismatch).nOff nQuenched).put panelAt Panel.rails_ok 0).record 90 0xFF 2 0 [1]
    [numAt bs 0 4]).setPanel (fun p => { p with want := false, use := none, pnlEn := false, blEn := false })).panelDone)

def Chip.startJudged (c : Chip) (bs : List Nat) (u : PanelUse) : Chip :=
  ((((c.identified bs).panelState 1).nOff nMismatch).nOff nQuenched).setPanel (fun p => { p with
    want := false, blEn := false, use := some u, frames := 0, target := none, shown := none, retryAt := 0
    rails := (List.range 4).map (fun k => signed 16 (numAt bs (12 + 2 * k) 2))
    sensor := (numAt bs 20 1).testBit 0, vcom := numAt bs 21 1 })

theorem panelStart_refused {s : State} {mem : List Byte} (h : s.chip.startFree) (hm : s.chip.mayDrive = true) (hf : s.chip.panelFit = true)
    (hj : s.chip.judgePanel (mem.map (·.toNat)) = none) :
    exec (.panelStart mem) s = .next { s with chip := s.chip.startRefused (mem.map (·.toNat)) } := by
  refine chipOnly_to s ((if_neg (startFree_iff.1 h)).trans ((if_neg (by simp [hm])).trans ((if_neg (by simp [hf])).trans ?_)))
  rw [hj]
  rfl

theorem panelStart_judged {s : State} {mem : List Byte} {u : PanelUse} (h : s.chip.startFree) (hm : s.chip.mayDrive = true)
    (hf : s.chip.panelFit = true) (hj : s.chip.judgePanel (mem.map (·.toNat)) = some u) :
    exec (.panelStart mem) s = .next { s with chip := s.chip.startJudged (mem.map (·.toNat)) u } := by
  refine chipOnly_to s ((if_neg (startFree_iff.1 h)).trans ((if_neg (by simp [hm])).trans ((if_neg (by simp [hf])).trans ?_)))
  rw [hj]
  rfl

theorem startRefused_state (c : Chip) (bs : List Nat) : (c.startRefused bs).get panelAt Panel.state = 5 := by
  rw [Chip.startRefused, Chip.panelDone_get _ (by decide), Chip.setPanel_get, Chip.record_panelGet _ _ _ _ _ _ _ (by decide),
    Chip.get_put_clear _ _ _ (by decide), Chip.nOff_get _ _ (by decide), Chip.nOn_get _ _ (by decide) (by decide),
    Chip.panelState_state _ (by decide)]

theorem startRefused_bit (c : Chip) (bs : List Nat) : (c.startRefused bs).getBit panelAt Panel.flags_now nMismatch = true := by
  rw [Chip.startRefused, Chip.panelDone_bit, Chip.getBit, Chip.setPanel_get, Chip.record_panelGet _ _ _ _ _ _ _ (by decide),
    Chip.get_put_clear _ _ _ (by decide)]
  exact (Chip.nOff_bit _ (by decide)).trans ((if_neg (by decide)).trans ((Chip.nOn_bit _ (by decide)).trans (if_pos rfl)))

theorem startRefused_panel (c : Chip) (bs : List Nat) : (c.startRefused bs).panel.use = none ∧ (c.startRefused bs).panel.want = false ∧
    (c.startRefused bs).panel.pnlEn = false := by
  rw [Chip.startRefused, Chip.panelDone_panel]
  exact ⟨rfl, rfl, rfl⟩

theorem startJudged_state (c : Chip) (bs : List Nat) (u : PanelUse) : (c.startJudged bs u).get panelAt Panel.state = 1 := by
  rw [Chip.startJudged, Chip.setPanel_get, Chip.nOff_get _ _ (by decide), Chip.nOff_get _ _ (by decide), Chip.panelState_state _ (by decide)]

theorem startJudged_identity (c : Chip) (bs : List Nat) (u : PanelUse) :
    (c.startJudged bs u).get panelAt Panel.identity = numAt bs 0 4 % 2 ^ 32 := by
  rw [Chip.startJudged, Chip.setPanel_get, Chip.nOff_get _ _ (by decide), Chip.nOff_get _ _ (by decide), Chip.panelState_get _ _ (by decide),
    Chip.identified, Chip.get_put_clear _ _ _ (by decide), Chip.get_put_self _ _ _ (by decide)]
  rfl

theorem startJudged_moves (c : Chip) (bs : List Nat) (u : PanelUse) :
    c.PanelMoves (fun a => a = panelAt ∨ a = panelAt + 1 ∨ a = panelAt + 0x41) (c.startJudged bs u) :=
  ((((((Chip.PanelMoves.refl _ c).put (b := panelAt) (f := Panel.identity) _ (.inr (.inl rfl))).put (b := panelAt) (f := Panel.kind_now) _
    (.inl rfl)).panelState _ (.inl rfl)).nOff _ (.inr (.inr rfl))).nOff _ (.inr (.inr rfl))).setPanel _

/-! ### Supplying the panel -/

def Chip.pnlOn (c : Chip) : Chip := (c.panelState 7).setPanel (fun p => { p with pnlEn := true, pnlAt := c.now })

theorem pnlEnAssert_to {s : State} (hu : s.chip.panel.use ≠ none) (ht : s.chip.panel.retryAt ≤ s.chip.now)
    (hs : s.chip.get panelAt Panel.state = 1 ∨ (s.chip.get panelAt Panel.state = 7 ∧ s.chip.panel.pnlEn = false)) (hm : s.chip.mayDrive = true)
    (hf : s.chip.panelFit = true) : exec .pnlEnAssert s = .next { s with chip := s.chip.pnlOn } := by
  refine chipOnly_to s (if_neg ?_)
  rcases hs with h | ⟨h, hp⟩
  · simp [hu, h, ht, hm, hf]
  · simp [hu, h, hp, ht, hm, hf]

def Chip.railsUp (c : Chip) : Chip := (c.put panelAt Panel.rails_ok 1).nOff nRail

def Chip.railsShow (c : Chip) : Chip := ((c.railsUp.panelState 2).panelDone).setPanel (fun p => { p with frames := 0 })

def Chip.railsClear (c : Chip) : Chip :=
  (((c.railsUp.panelState 4).put panelAt Panel.ep_busy 1).put panelAt Panel.band_used (c.get panelAt Panel.band_now)).setPanel (fun p => { p with
    updAt := c.now, frameAt := c.now, clearEntry := if c.flag panelAt Panel.dirty || c.panel.asDirty then 257 else 256 })

theorem railsQualified_to {s : State} {rail : Fin 4} {mv : BitVec 16} (hs : s.chip.get panelAt Panel.state = 7)
    (hp : s.chip.panel.pnlEn = true) (ht : s.chip.panel.pnlAt + 100000 ≤ s.chip.now) :
    exec (.railsQualified true rail mv) s = .next { s with chip :=
      (if (s.chip.panel.use.map (·.kind)).getD 0 = 1 then s.chip.railsShow else s.chip.railsClear) } :=
  chipOnly_to s ((if_neg (by simp [hs, hp])).trans ((if_pos rfl).trans (if_neg (Nat.not_lt.2 ht))))

theorem railsUp_ok (c : Chip) : c.railsUp.get panelAt Panel.rails_ok = 1 := by
  rw [Chip.railsUp, Chip.nOff_get _ _ (by decide), Chip.get_put_of_lt _ _ (by decide) (by decide)]

theorem railsShow_spec (c : Chip) : c.railsShow.get panelAt Panel.rails_ok = 1 ∧ c.railsShow.get panelAt Panel.state = 2 := by
  rw [Chip.railsShow, Chip.setPanel_get, Chip.setPanel_get, Chip.panelDone_get _ (by decide), Chip.panelDone_get _ (by decide),
    Chip.panelState_get _ _ (by decide), Chip.panelState_state _ (by decide)]
  exact ⟨railsUp_ok c, rfl⟩

theorem railsClear_spec (c : Chip) : c.railsClear.get panelAt Panel.rails_ok = 1 ∧ c.railsClear.get panelAt Panel.state = 4 := by
  rw [Chip.railsClear, Chip.setPanel_get, Chip.setPanel_get]
  refine ⟨?_, ?_⟩
  · rw [Chip.get_put_clear _ _ _ (by decide), Chip.get_put_clear _ _ _ (by decide), Chip.panelState_get _ _ (by decide), railsUp_ok]
  · rw [Chip.get_put_clear _ _ _ (by decide), Chip.get_put_clear _ _ _ (by decide), Chip.panelState_state _ (by decide)]

theorem railsUp_moves (c : Chip) : c.PanelMoves (fun _ => True) c.railsUp := ((Chip.PanelMoves.refl _ c).put _ trivial).nOff _ trivial

theorem railsShow_moves (c : Chip) : c.PanelMoves (fun _ => True) c.railsShow :=
  (((railsUp_moves c).panelState _ trivial).panelDone trivial).setPanel _

theorem railsClear_moves (c : Chip) : c.PanelMoves (fun _ => True) c.railsClear :=
  ((((railsUp_moves c).panelState _ trivial).put _ trivial).put _ trivial).setPanel _

def Chip.railsLate (c : Chip) (rail : Fin 4) (mv : BitVec 16) : Chip :=
  (((c.nOn nRail).put panelAt Panel.rails_ok 0).record 90 0xFF 2 0 [2, rail.val + 1] [unsigned 32 mv.toInt]).setPanel (fun p =>
    { p with pnlEn := false, retryAt := c.now + 10000000 })

theorem railsQualified_late {s : State} {rail : Fin 4} {mv : BitVec 16} (hs : s.chip.get panelAt Panel.state = 7)
    (hp : s.chip.panel.pnlEn = true) (ht : s.chip.panel.pnlAt + 1000000 ≤ s.chip.now) :
    exec (.railsQualified false rail mv) s = .next { s with chip := s.chip.railsLate rail mv } :=
  chipOnly_to s ((if_neg (by simp [hs, hp])).trans ((if_neg (by decide)).trans (if_neg (Nat.not_lt.2 ht))))

/-! ### The end of the clearing waveform -/

/-- The dirty mark, where one stands, is taken away and recorded. -/
def Chip.cleaned (c : Chip) : Chip := ((c.put panelAt Panel.dirty 0).nOn nCleared).record 91 0xFF 0 0
  [2, c.get panelAt Panel.band_used, c.get panelAt Panel.band_now] []

def Chip.cleared (c : Chip) : Chip := ((((c.panelState 2).put panelAt Panel.ep_busy 0).setPanel (fun p =>
  { p with shown := none, asDirty := false })).when (c.flag panelAt Panel.dirty) Chip.cleaned).panelDone

theorem waveform_over {c : Chip} {n : Nat} (hs : c.get panelAt Panel.state = 4) (hq : c.panel.quench = none) (ht : n ≤ c.now) :
    ¬ (c.get panelAt Panel.state != 4 || c.panel.quench.isSome || decide (c.now < n)) = true := by
  simp [hs, hq, ht]

theorem clearWaveformEnd_to {s : State} (hs : s.chip.get panelAt Panel.state = 4) (hq : s.chip.panel.quench = none)
    (ht : s.chip.panel.updAt + s.chip.entryFrames s.chip.band s.chip.panel.clearEntry * s.chip.frameTicks ≤ s.chip.now) :
    exec .clearWaveformEnd s = .next { s with chip := s.chip.cleared, flash := { s.flash with
      retained := { s.flash.retained with dirty := false } } } := by
  change execClearWaveformEnd s = _
  rw [execClearWaveformEnd, if_neg (waveform_over hs hq ht)]
  rfl

theorem cleaned_get (c : Chip) {f : Field} (h : Panel.dirty.clear f = true) (hf : Panel.flags_now.clear f = true)
    (h' : f.first ≠ 0x40 ∧ f.first < 65536) : c.cleaned.get panelAt f = c.get panelAt f := by
  rw [Chip.cleaned, Chip.record_panelGet _ _ _ _ _ _ _ h'.2, Chip.nOn_get _ _ hf h'.1, Chip.get_put_clear _ _ _ h]

theorem cleared_get (c : Chip) {f : Field} (h : Panel.dirty.clear f = true) (hf : Panel.flags_now.clear f = true)
    (hr : Panel.result.clear f = true) (h' : f.first ≠ 0x40 ∧ f.first < 65536) :
    c.cleared.get panelAt f = ((c.panelState 2).put panelAt Panel.ep_busy 0).get panelAt f := by
  rw [Chip.cleared, Chip.panelDone_get _ hr]
  exact (Chip.get_when _ _ _ (cleaned_get _ h hf h')).trans (Chip.setPanel_get _ _ _ _)

theorem cleared_dirty (c : Chip) : c.cleared.get panelAt Panel.dirty = 0 := by
  rw [Chip.cleared, Chip.panelDone_get _ (by decide)]
  cases h : c.flag panelAt Panel.dirty with
  | true =>
    rw [Chip.when, if_pos rfl, Chip.cleaned, Chip.record_panelGet _ _ _ _ _ _ _ (by decide), Chip.nOn_get _ _ (by decide) (by decide), Chip.get_put_of_lt _ _ (by decide) (by decide)]
  | false =>
    have hlt : c.get panelAt Panel.dirty = 0 := by simpa [Chip.flag] using h
    refine Eq.trans ?_ hlt
    rw [Chip.when, if_neg (by decide), Chip.setPanel_get, Chip.get_put_clear _ _ _ (by decide), Chip.panelState_get _ _ (by decide)]

theorem cleared_shown (c : Chip) : c.cleared.panel.shown = none := by
  rw [Chip.cleared, Chip.panelDone_panel]
  cases c.flag panelAt Panel.dirty with
  | true =>
    rw [Chip.when, if_pos rfl, Chip.cleaned, Chip.record_panel]
    rfl
  | false => rfl

/-! ### The rails come back -/

def Chip.railBack (c : Chip) : Chip := (c.nOff nRail).wantPanel

theorem railReturn_to {s : State} (hs : s.chip.get panelAt Panel.state = 3) (hq : s.chip.panel.lastQuench = 2) :
    exec .railReturn s = .next { s with chip := s.chip.railBack } := chipOnly_to s (if_pos (by simp [hs, hq]))

/-- Settles O42: the start of a panel. -/
theorem panelStart : Obligations.PanelStart := by
  intro s
  refine ⟨fun mem => ⟨panelStart_held, panelStart_driven⟩, fun mem hw hq hr => ⟨fun hm hd h2 => ?_, fun hm hf => ⟨fun hj => ?_, fun u hj => ?_⟩⟩,
    fun hu ht hs hm hf => ?_, fun rail mv hs hp => ⟨fun ht => ?_, fun ht => ?_⟩, fun hs hq ht => ?_, fun hs hq => ?_⟩
  · have hmoves : s.chip.PanelMoves (fun a => a = panelAt ∨ a = panelAt + 0x41 ∨ a = panelAt + 0x43) s.chip.yielded :=
      (((Chip.PanelMoves.refl _ _).panelState _ (.inl rfl)).nOff _ (.inr (.inl rfl))).panelCut (.inr (.inr rfl))
    have hregs : s.chip.yielded.panel = s.chip.panel := Chip.panelCut_panel _
    refine ⟨_, panelStart_yields ⟨hw, hq, hr⟩ hm hd h2, ?_, ?_, ?_, hmoves.kept⟩
    · rw [Chip.yielded, Chip.panelCut_get _ (by decide), Chip.nOff_get _ _ (by decide), Chip.panelState_state _ (by decide)]
    · rw [Chip.yielded, Chip.panelCut_get _ (by decide), Chip.nOff_get _ _ (by decide), Chip.panelState_up]
      rfl
    · refine hmoves.state.trans ?_
      rw [hregs]
  · obtain ⟨hu, hwant, hp⟩ := startRefused_panel s.chip (mem.map (·.toNat))
    exact ⟨_, panelStart_refused ⟨hw, hq, hr⟩ hm hf hj, startRefused_state _ _, startRefused_bit _ _, hu, hwant, hp, .chip s _⟩
  · have hmoves := startJudged_moves s.chip (mem.map (·.toNat)) u
    exact ⟨_, panelStart_judged ⟨hw, hq, hr⟩ hm hf hj, startJudged_state _ _ _, rfl, rfl, startJudged_identity _ _ _, rfl, rfl,
      hmoves.state, hmoves.kept⟩
  · have hmoves : s.chip.PanelMoves (fun a => a = panelAt) s.chip.pnlOn := ((Chip.PanelMoves.refl (fun a => a = panelAt) _).panelState _ rfl).setPanel _
    exact ⟨_, pnlEnAssert_to hu ht hs hm hf, rfl, rfl, (Chip.setPanel_get _ _ _ _).trans (Chip.panelState_state _ (by decide)),
      hmoves.state, hmoves.kept⟩
  · refine ⟨_, railsQualified_to hs hp ht, ?_⟩
    by_cases hk : (s.chip.panel.use.map (·.kind)).getD 0 = 1
    · obtain ⟨hok, hst⟩ := railsShow_spec s.chip
      rw [if_pos hk, if_pos hk]
      exact ⟨hok, hst, (railsShow_moves s.chip).state⟩
    · obtain ⟨hok, hst⟩ := railsClear_spec s.chip
      rw [if_neg hk, if_neg hk]
      exact ⟨hok, hst, (railsClear_moves s.chip).state⟩
  · refine ⟨_, railsQualified_late hs hp ht, rfl, rfl, ?_, ?_, ?_, .chip s _⟩
    · rw [Chip.railsLate, Chip.setPanel_get, Chip.record_panelGet _ _ _ _ _ _ _ (by decide), Chip.get_put_of_lt _ _ (by decide) (by decide)]
    · rw [Chip.getBit, Chip.railsLate, Chip.setPanel_get, Chip.record_panelGet _ _ _ _ _ _ _ (by decide),
        Chip.get_put_clear _ _ _ (by decide)]
      exact (Chip.nOn_bit _ (by decide)).trans (if_pos rfl)
    · rw [Chip.railsLate, Chip.setPanel_get, Chip.record_panelGet _ _ _ _ _ _ _ (by decide), Chip.get_put_clear _ _ _ (by decide),
        Chip.nOn_get _ _ (by decide) (by decide), hs]
  · refine ⟨_, clearWaveformEnd_to hs hq ht, ?_, ?_, ?_, cleared_dirty _, cleared_shown _, rfl, rfl, rfl⟩
    · rw [cleared_get _ (by decide) (by decide) (by decide) (by decide), Chip.get_put_clear _ _ _ (by decide),
        Chip.panelState_state _ (by decide)]
    · rw [cleared_get _ (by decide) (by decide) (by decide) (by decide), Chip.get_put_clear _ _ _ (by decide), Chip.panelState_up]
      rfl
    · rw [cleared_get _ (by decide) (by decide) (by decide) (by decide), Chip.get_put_of_lt _ _ (by decide) (by decide)]
  · have hmoves : s.chip.PanelMoves (fun a => a = panelAt + 0x41) s.chip.railBack := 
      ((Chip.PanelMoves.refl (fun a => a = panelAt + 0x41) s.chip).nOff nRail rfl).setPanel (fun p => { p with want := true })
    exact ⟨_, railReturn_to hs hq, rfl, (Chip.nOff_bit _ (by decide)).trans (if_pos rfl), hmoves.state, hmoves.kept⟩

end Sys2Proof.Machine
end

section
/-! SUPPORT. O43: what a panel shows. -/

namespace Sys2Proof.Machine

/-! ### Frames and updates (R484, R485, R492) -/

def Chip.kindIs (c : Chip) (k : Nat) : Bool := (c.panel.use.map (·.kind)) == some k

theorem kindIs_iff {c : Chip} {k : Nat} : c.kindIs k = true ↔ c.panel.use.map (·.kind) = some k := beq_iff_eq

/-- The chip in which a frame has begun. -/
def Chip.framed (c : Chip) : Chip :=
  (c.when (c.kindIs 1) (·.emit (.column 1 c.picture))).setPanel (fun p => { p with
    frames := p.frames + 1, frameAt := c.now, dim := c.get panelAt Panel.dim
    blEn := p.blEn || (c.kindIs 1 && decide (2 ≤ p.frames))
    shown := if c.kindIs 1 && !c.tongsWait (tongsKey 0 6 13) then some c.picture else p.shown })

/-- Neither a frame that runs still nor a panel at rest holds the next frame up. -/
theorem frameDue {c : Chip} (hd : c.driving = true) (ht : c.panel.frames = 0 ∨ c.panel.frameAt + c.frameTicks ≤ c.now) :
    ¬ (!c.driving || ([2, 4].contains (c.get panelAt Panel.state) && c.panel.frames != 0 &&
      decide (c.now < c.panel.frameAt + c.frameTicks))) = true := by
  rcases ht with h | h
  · simp [hd, h]
  · simp [hd, h]

theorem frameStart_to {s : State} (hd : s.chip.driving = true)
    (ht : s.chip.panel.frames = 0 ∨ s.chip.panel.frameAt + s.chip.frameTicks ≤ s.chip.now) (hm : s.chip.mayDrive = true)
    (hs : [2, 4].contains (s.chip.get panelAt Panel.state) = true) (hc : s.chip.clkLost 0 6 = false) :
    exec .frameStart s = .next { s with chip := s.chip.framed } :=
  chipOnly_to s ((if_neg (frameDue hd ht)).trans ((if_neg (by rw [hm]; decide)).trans ((if_neg (by rw [hs]; decide)).trans
    (if_neg (fun e => Bool.false_ne_true (hc.symm.trans e))))))

theorem frameStart_release {s : State} (hd : s.chip.driving = true)
    (ht : s.chip.panel.frames = 0 ∨ s.chip.panel.frameAt + s.chip.frameTicks ≤ s.chip.now) (hm : s.chip.mayDrive = false) :
    exec .frameStart s = .next { s with chip := s.chip.panelRelease } :=
  chipOnly_to s ((if_neg (frameDue hd ht)).trans (if_pos (by rw [hm]; decide)))

theorem framed_spec (c : Chip) (hw : c.tongsWait (tongsKey 0 6 13) = false) :
    c.framed.panel.shown = (if c.panel.use.map (·.kind) = some 1 then some c.picture else c.panel.shown) ∧
    c.framed.emitted = c.emitted ++ (if c.panel.use.map (·.kind) = some 1 then [.column 1 c.picture] else []) ∧
    c.framed.panel.frames = c.panel.frames + 1 ∧ c.framed = { c with panel := c.framed.panel, emitted := c.framed.emitted } := by
  unfold Chip.framed
  cases h : c.kindIs 1 with
  | true =>
    rw [if_pos (kindIs_iff.1 h), if_pos (kindIs_iff.1 h), hw]
    exact ⟨rfl, rfl, rfl, rfl⟩
  | false =>
    have hk : c.panel.use.map (·.kind) ≠ some 1 := fun e => absurd ((kindIs_iff.2 e).symm.trans h) (by decide)
    rw [if_neg hk, if_neg hk, List.append_nil]
    exact ⟨rfl, rfl, rfl, rfl⟩

theorem panelRelease_moves (c : Chip) :
    c.PanelMoves (fun a => a = panelAt ∨ a = panelAt + 0x41 ∨ a = panelAt + 0x43) c.panelRelease :=
  (((((Chip.PanelMoves.refl _ c).panelState 6 (.inl rfl)).updateOver (.inl rfl) (.inr (.inl rfl))).put (b := panelAt) (f := Panel.rails_ok) 0
    (.inl rfl)).panelCut (.inr (.inr rfl))).setPanel _

theorem panelRelease_spec (c : Chip) : c.panelRelease.get panelAt Panel.state = 6 ∧ c.panelRelease.get panelAt Panel.rails_ok = 0 := by
  rw [Chip.panelRelease, Chip.setPanel_get, Chip.setPanel_get, Chip.panelCut_get _ (by decide), Chip.panelCut_get _ (by decide)]
  refine ⟨?_, Chip.get_put_of_lt _ _ (by decide) (by decide)⟩
  rw [Chip.get_put_clear _ _ _ (by decide), Chip.updateOver_get _ (by decide), Chip.panelState_state _ (by decide)]

/-- The chip in which an update has begun. -/
def Chip.updating (c : Chip) : Chip :=
  (((c.put panelAt Panel.band_used (c.get panelAt Panel.band_now)).put panelAt Panel.ep_busy 1).emit (.column 2 c.picture)).setPanel (fun p =>
    { p with target := some c.picture, updAt := c.now, frameAt := c.now, deep := false, deepNow := c.panel.deep
             shown := if c.panel.deep then none else p.shown })

theorem updateStart_to {s : State} (hd : s.chip.driving = true) (hm : s.chip.mayDrive = true) (hk : s.chip.panel.use.map (·.kind) = some 2)
    (hs : s.chip.get panelAt Panel.state = 2) (ht : s.chip.panel.target = none) (hp : s.chip.panel.shown ≠ some s.chip.picture)
    (hc : s.chip.clkLost 0 6 = false) (hw : s.chip.tongsWait (tongsKey 0 6 13) = false) :
    exec .updateStart s = .next { s with chip := s.chip.updating } := by
  have hpic : (s.chip.panel.shown == some s.chip.picture) = false := by simpa using hp
  exact chipOnly_to s ((if_neg (by simp [hk, hs, hd, ht, hw, hpic])).trans ((if_neg (by rw [hm]; decide)).trans
    (if_neg (fun e => Bool.false_ne_true (hc.symm.trans e)))))

theorem updating_get (c : Chip) (f : Field) : c.updating.get panelAt f =
    ((c.put panelAt Panel.band_used (c.get panelAt Panel.band_now)).put panelAt Panel.ep_busy 1).get panelAt f := Chip.setPanel_get _ _ _ _

theorem updating_busy (c : Chip) : c.updating.get panelAt Panel.ep_busy = 1 := by
  rw [updating_get, Chip.get_put_of_lt _ _ (by decide) (by decide)]

theorem updating_band (c : Chip) : c.updating.get panelAt Panel.band_used = c.get panelAt Panel.band_now := by
  rw [updating_get, Chip.get_put_clear _ _ _ (by decide)]
  exact Chip.get_put_of_lt _ _ (by decide) (Chip.get_lt c panelAt Panel.band_now)

theorem updating_words (c : Chip) : c.WordsBut (fun a => a = panelAt) c.updating :=
  ((Chip.WordsBut.put (P := fun a => a = panelAt) (b := panelAt) (f := Panel.band_used) c _ rfl).trans
    (.put (b := panelAt) (f := Panel.ep_busy) _ _ rfl)).trans (.of_regs rfl)

/-- The chip in which an update has ended. -/
def Chip.updated (c : Chip) (pic : Picture) : Chip :=
  ((c.updateOver.when (c.phase == 8) (·.bump panelAt Panel.updates)).put panelAt Panel.update_ms
    (min ((c.now - c.panel.updAt) / 1000) 0xFFFF)).setPanel (fun p => { p with shown := some pic, target := none, deepNow := false })

theorem updateEnd_to {s : State} {pic : Picture} (ht : s.chip.panel.target = some pic) (hq : s.chip.panel.quench = none)
    (hn : s.chip.panel.updAt + s.chip.updateFrames * s.chip.frameTicks ≤ s.chip.now) :
    exec .updateEnd s = .next { s with chip := s.chip.updated pic } := by
  refine chipOnly_to s ?_
  rw [ht]
  refine if_neg ?_
  rw [hq]
  simpa using hn

theorem updated_busy (c : Chip) (pic : Picture) : (c.updated pic).get panelAt Panel.ep_busy = 0 := by
  rw [Chip.updated, Chip.setPanel_get, Chip.get_put_clear _ _ _ (by decide), Chip.get_when _ _ _ (Chip.get_bump_clear' _ _ (by decide)),
    Chip.updateOver_busy]

/-- An update that ends in S8 is counted. -/
theorem updated_count (c : Chip) (pic : Picture) (h : c.phase = 8) :
    (c.updated pic).get panelAt Panel.updates = min (c.get panelAt Panel.updates + 1) Panel.updates.top := by
  rw [Chip.updated, Chip.setPanel_get, Chip.get_put_clear _ _ _ (by decide), h, Chip.when, if_pos (by decide),
    Chip.bump_get_self _ _ (by decide), Chip.updateOver_get _ (by decide)]

theorem updated_moves (c : Chip) (pic : Picture) : c.PanelMoves (fun _ => True) (c.updated pic) := by
  have ho : c.PanelMoves (fun _ => True) c.updateOver := (Chip.PanelMoves.refl _ c).updateOver trivial trivial
  exact ((ho.when _ (ho.put (b := panelAt) (f := Panel.updates) _ trivial)).put _ trivial).setPanel _

/-! ### Rectangles and temperature (R487, R490) -/

/-- The chip in which a rectangle has toggled. -/
def Chip.toggled (c : Chip) (i : Nat) : Chip :=
  ((c.putBit panelAt Panel.blink_fill i (!c.getBit panelAt Panel.blink_fill i)).setPanel (fun p => { p with
    blink := upd p.blink i (fun b => { b with nextAt := b.nextAt + b.period / 2 }) })).when c.panel.target.isSome (·.nOn nLate)

theorem blinkToggle_to {s : State} {i : Fin 8} (he : (nth {} s.chip.panel.blink i).en = true) (ht : (nth {} s.chip.panel.blink i).nextAt ≤ s.chip.now) :
    exec (.blinkToggle i) s = .next { s with chip := s.chip.toggled i } :=
  chipOnly_to s (if_neg (by rw [he]; simpa using ht))

theorem toggled_fill (c : Chip) {i : Nat} (h : i < 8) :
    (c.toggled i).getBit panelAt Panel.blink_fill i = !c.getBit panelAt Panel.blink_fill i := by
  have hput : (c.putBit panelAt Panel.blink_fill i (!c.getBit panelAt Panel.blink_fill i)).getBit panelAt Panel.blink_fill i =
      !c.getBit panelAt Panel.blink_fill i := (Chip.getBit_putBit c _ _ _ _ _ (by decide) (by decide) h).trans (if_pos rfl)
  refine (congrArg (fun n : Nat => n.testBit i) ?_).trans hput
  rw [Chip.toggled, Chip.get_when _ _ _ (Chip.nOn_get _ _ (by decide) (by decide)), Chip.setPanel_get]

theorem toggled_blink (c : Chip) {i : Nat} (h : (nth {} c.panel.blink i).en = true) : (nth {} (c.toggled i).panel.blink i).nextAt =
    (nth {} c.panel.blink i).nextAt + (nth {} c.panel.blink i).period / 2 := by
  have hlen : i < c.panel.blink.length := by
    by_contra hge
    rw [nth, List.getD_eq_default _ _ (Nat.le_of_not_lt hge)] at h
    exact absurd h (by decide)
  have hp : (c.toggled i).panel.blink = upd c.panel.blink i (fun b => { b with nextAt := b.nextAt + b.period / 2 }) := by
    unfold Chip.toggled
    cases c.panel.target.isSome <;> rfl
  rw [hp, nth_upd_same _ _ _ _ hlen]

theorem toggled_moves (c : Chip) (i : Nat) : c.PanelMoves (fun _ => True) (c.toggled i) := by
  have h : c.PanelMoves (fun _ => True) ((c.putBit panelAt Panel.blink_fill i (!c.getBit panelAt Panel.blink_fill i)).setPanel (fun p =>
      { p with blink := upd p.blink i (fun b => { b with nextAt := b.nextAt + b.period / 2 }) })) :=
    ((Chip.PanelMoves.refl _ c).put _ trivial).setPanel _
  exact h.when _ (h.nOn _ trivial trivial)

/-- The words of a read of the panel's sensor. -/
def Chip.tempShown (c : Chip) (temp : BitVec 16) (rails : List (BitVec 16)) : Chip :=
  ((((((c.putS panelAt Panel.panel_temp temp.toInt).put panelAt Panel.band_now (c.bandOf temp.toInt)).put panelAt Panel.rail1_mv
    (nth 0 rails 0).toNat).put panelAt Panel.rail2_mv (nth 0 rails 1).toNat).put panelAt Panel.rail3_mv (nth 0 rails 2).toNat).put panelAt
    Panel.rail4_mv (nth 0 rails 3).toNat)

def Chip.tempTaken (c : Chip) (temp : BitVec 16) (rails : List (BitVec 16)) : Chip :=
  ((c.tempShown temp rails).nOff nFallback).setPanel (fun p => { p with tempFails := 0, tempAt := some c.now })

/-- An update that runs on in the band it began with is recorded (R487). -/
def Chip.tempHeld (c : Chip) (temp : BitVec 16) (rails : List (BitVec 16)) : Chip :=
  if c.panel.target.isSome && c.bandOf temp.toInt != c.get panelAt Panel.band_now && c.bandOf temp.toInt != c.get panelAt Panel.band_used then
    ((c.tempTaken temp rails).nOn nHeld).record 91 0xFF 0 0 [1, c.get panelAt Panel.band_used, c.bandOf temp.toInt] []
  else c.tempTaken temp rails

theorem panelTempRead_to {s : State} {temp : BitVec 16} {rails : List (BitVec 16)} (hs : s.chip.panel.sensor = true)
    (ht : ∀ t0, s.chip.panel.tempAt = some t0 → t0 + 1000000 ≤ s.chip.now) :
    exec (.panelTempRead true temp rails) s = .next { s with chip := s.chip.tempHeld temp rails } := by
  refine chipOnly_to s ((if_neg ?_).trans ?_)
  · cases h : s.chip.panel.tempAt with
    | none => exact Bool.false_ne_true
    | some t0 => simpa using ht t0 h
  · rw [hs]
    rfl

theorem tempHeld_get (c : Chip) (temp : BitVec 16) (rails : List (BitVec 16)) {f : Field} (h : Panel.flags_now.clear f = true)
    (h' : f.first ≠ 0x40 ∧ f.first < 65536) : (c.tempHeld temp rails).get panelAt f = (c.tempShown temp rails).get panelAt f := by
  have htaken : (c.tempTaken temp rails).get panelAt f = (c.tempShown temp rails).get panelAt f := by
    rw [Chip.tempTaken, Chip.setPanel_get, Chip.nOff_get _ _ h]
  unfold Chip.tempHeld
  split
  · rw [Chip.record_panelGet _ _ _ _ _ _ _ h'.2, Chip.nOn_get _ _ h h'.1, htaken]
  · exact htaken

theorem tempHeld_fails (c : Chip) (temp : BitVec 16) (rails : List (BitVec 16)) : (c.tempHeld temp rails).panel.tempFails = 0 := by
  unfold Chip.tempHeld
  split
  · rw [Chip.record_panel]
    rfl
  · rfl

theorem unsigned_toInt {w : Nat} (v : BitVec w) : unsigned w v.toInt = v.toNat := by
  have h : (BitVec.ofInt w v.toInt).toNat = v.toNat := by rw [BitVec.ofInt_toInt]
  rwa [BitVec.toNat_ofInt] at h

/-- A signed reading that fits its field is shown as it is. -/
theorem clampI_toInt {w : Nat} (v : BitVec w) (hw : 0 < w) : clampI (-(2 ^ (w - 1))) (2 ^ (w - 1) - 1) v.toInt = v.toInt := by
  have hlo := BitVec.le_toInt v
  have hhi := BitVec.toInt_lt (x := v)
  rw [clampI, max_eq_left hlo, min_eq_left (by omega)]

theorem bandOf_lt (c : Chip) (t : Int) : c.bandOf t < 8 :=
  Nat.lt_succ_of_le ((List.length_filter_le _ _).trans (List.length_range).le)

theorem tempShown_temp (c : Chip) (temp : BitVec 16) (rails : List (BitVec 16)) :
    (c.tempShown temp rails).get panelAt Panel.panel_temp = temp.toNat := by
  rw [Chip.tempShown, Chip.get_put_clear _ _ _ (by decide), Chip.get_put_clear _ _ _ (by decide), Chip.get_put_clear _ _ _ (by decide),
    Chip.get_put_clear _ _ _ (by decide), Chip.get_put_clear _ _ _ (by decide), Chip.putS, Chip.get_put_self _ _ _ (by decide)]
  have h : unsigned 16 (clampI (-(2 ^ (16 - 1))) (2 ^ (16 - 1) - 1) temp.toInt) = temp.toNat := by
    rw [clampI_toInt temp (by decide), unsigned_toInt]
  exact (congrArg (· % 2 ^ 16) h).trans (Nat.mod_eq_of_lt temp.isLt)

theorem tempShown_band (c : Chip) (temp : BitVec 16) (rails : List (BitVec 16)) :
    (c.tempShown temp rails).get panelAt Panel.band_now = c.bandOf temp.toInt := by
  rw [Chip.tempShown, Chip.get_put_clear _ _ _ (by decide), Chip.get_put_clear _ _ _ (by decide), Chip.get_put_clear _ _ _ (by decide),
    Chip.get_put_clear _ _ _ (by decide), Chip.get_put_of_lt _ _ (by decide) (Nat.lt_of_lt_of_le (bandOf_lt c _) (by decide))]

theorem tempShown_rails (c : Chip) (temp : BitVec 16) (rails : List (BitVec 16)) :
    (c.tempShown temp rails).get panelAt Panel.rail1_mv = (nth 0 rails 0).toNat ∧
    (c.tempShown temp rails).get panelAt Panel.rail4_mv = (nth 0 rails 3).toNat := by
  refine ⟨?_, Chip.get_put_of_lt _ _ (by decide) (nth 0 rails 3).isLt⟩
  rw [Chip.tempShown, Chip.get_put_clear _ _ _ (by decide), Chip.get_put_clear _ _ _ (by decide), Chip.get_put_clear _ _ _ (by decide),
    Chip.get_put_of_lt _ _ (by decide) (nth 0 rails 0).isLt]

/-! ### The commands show_code and clear (R491, R496) -/

def Chip.coded (c : Chip) : Chip :=
  ((c.put panelAt Panel.last_cmd 1).put panelAt Panel.result 2).setPanel (fun p => { p with
    codeUntil := if c.statusPage then p.codeUntil else some (c.now + 60000000) })

theorem showCode_to {s : State} (hr : s.chip.get panelAt Panel.result ≠ 1) (hd : s.chip.driving = true) :
    exec .showCode s = .next { s with chip := s.chip.coded } := chipOnly_to s ((if_neg hr).trans (if_neg (by rw [hd]; decide)))

theorem coded_moves (c : Chip) : c.PanelMoves (fun a => a = Panel.result.at panelAt 0) c.coded :=
  (((Chip.PanelMoves.refl (fun a => a = Panel.result.at panelAt 0) c).put (b := panelAt) (f := Panel.last_cmd) 1 rfl).put (b := panelAt) (f := Panel.result) 2 rfl).setPanel _

theorem coded_answer (c : Chip) : c.coded.get panelAt Panel.result = 2 ∧ c.coded.get panelAt Panel.last_cmd = 1 := by
  rw [Chip.coded, Chip.setPanel_get, Chip.setPanel_get]
  refine ⟨Chip.get_put_of_lt _ _ (by decide) (by decide), ?_⟩
  rw [Chip.get_put_clear _ _ _ (by decide), Chip.get_put_of_lt _ _ (by decide) (by decide)]

def Chip.deepAsked (c : Chip) : Chip :=
  ((c.put panelAt Panel.last_cmd 2).put panelAt Panel.result 2).setPanel (fun p => { p with deep := true })

theorem panelClear_to {s : State} (hr : s.chip.get panelAt Panel.result ≠ 1) (hd : s.chip.driving = true)
    (hk : s.chip.panel.use.map (·.kind) = some 2) : exec .panelClear s = .next { s with chip := s.chip.deepAsked } :=
  chipOnly_to s ((if_neg hr).trans (if_neg (by rw [hd, hk]; decide)))

theorem deepAsked_moves (c : Chip) : c.PanelMoves (fun a => a = Panel.result.at panelAt 0) c.deepAsked :=
  (((Chip.PanelMoves.refl (fun a => a = Panel.result.at panelAt 0) c).put (b := panelAt) (f := Panel.last_cmd) 2 rfl).put (b := panelAt) (f := Panel.result) 2 rfl).setPanel _

theorem deepAsked_answer (c : Chip) : c.deepAsked.get panelAt Panel.result = 2 := by
  rw [Chip.deepAsked, Chip.setPanel_get, Chip.get_put_of_lt _ _ (by decide) (by decide)]

/-- Neither command acts on a panel that is not driven. -/
theorem panelCommand_refused {s : State} {i : Instr} (hi : i ∈ [Instr.showCode, .panelClear]) (hr : s.chip.get panelAt Panel.result ≠ 1)
    (hd : s.chip.driving = false) : exec i s = .next { s with chip := s.chip.put panelAt Panel.result 3 } := by
  rcases List.mem_pair.1 hi with rfl | rfl
  · exact chipOnly_to s ((if_neg hr).trans (if_pos (by rw [hd]; rfl)))
  · exact chipOnly_to s ((if_neg hr).trans (if_pos (by rw [hd]; rfl)))

theorem showCodeExpiry_to {s : State} {t0 : Nat} (h : s.chip.panel.codeUntil = some t0) (ht : t0 ≤ s.chip.now) :
    exec .showCodeExpiry s = .next { s with chip := { s.chip with panel := { s.chip.panel with codeUntil := none } } } := by
  refine chipOnly_to s ?_
  rw [h]
  exact if_pos ht

/-- Settles O43: what a panel shows. -/
theorem panelPictures : Obligations.PanelPictures := by
  intro s _
  refine ⟨fun hd ht => ⟨fun hm hs hc hw => ?_, fun hm => ?_⟩, fun hd hm hk hs ht hp hc hw => ?_, fun pic ht hq hn => ?_, fun i he ht => ?_,
    fun temp rails hs ht => ?_, fun hr => ⟨fun hd => ⟨?_, fun hk => ?_⟩, fun hd i hi => ?_⟩, fun t0 h ht => ⟨_, showCodeExpiry_to h ht, rfl⟩⟩
  · obtain ⟨hshown, hemit, hframes, hframe⟩ := framed_spec s.chip hw
    refine ⟨_, frameStart_to hd ht hm hs hc, hframes, rfl, rfl, hshown, hemit, ?_⟩
    exact congrArg (fun c => ({ s with chip := c } : State)) hframe
  · obtain ⟨hs6, hrails⟩ := panelRelease_spec s.chip
    exact ⟨_, frameStart_release hd ht hm, hs6, rfl, rfl, rfl, hrails, (panelRelease_moves s.chip).state, (panelRelease_moves s.chip).kept⟩
  · exact ⟨_, updateStart_to hd hm hk hs ht hp hc hw, rfl, rfl, updating_busy _, updating_band _, rfl, rfl, (updating_words s.chip).kept⟩
  · exact ⟨_, updateEnd_to ht hq hn, rfl, rfl, updated_busy _ _, updated_count _ _, (updated_moves s.chip pic).state⟩
  · exact ⟨_, blinkToggle_to he ht, toggled_fill _ i.isLt, toggled_blink _ he, (toggled_moves s.chip i).state⟩
  · obtain ⟨h1, h4⟩ := tempShown_rails s.chip temp rails
    exact ⟨_, panelTempRead_to hs ht, (tempHeld_get _ _ _ (by decide) (by decide)).trans (tempShown_temp _ _ _),
      (tempHeld_get _ _ _ (by decide) (by decide)).trans (tempShown_band _ _ _), tempHeld_fails _ _ _,
      (tempHeld_get _ _ _ (by decide) (by decide)).trans h1, (tempHeld_get _ _ _ (by decide) (by decide)).trans h4, .chip s _⟩
  · obtain ⟨hres, hlast⟩ := coded_answer s.chip
    exact ⟨_, showCode_to hr hd, rfl, hres, hlast, (coded_moves s.chip).state, (coded_moves s.chip).kept⟩
  · exact ⟨_, panelClear_to hr hd hk, rfl, deepAsked_answer _, (deepAsked_moves s.chip).state, (deepAsked_moves s.chip).kept⟩
  · exact ⟨_, panelCommand_refused hi hr hd, Chip.get_put_of_lt _ _ (by decide) (by decide), rfl, put_kept s _ _ _⟩

end Sys2Proof.Machine
end

section
/-! SUPPORT. What the flits a region sends change of the chip (R38, R39, R43). -/

namespace Sys2Proof.Machine

/-! ### Reading a region of the fabric and its links -/

/-- A change of one region's state leaves a region as it is or is that change. -/
theorem fabr_setFab_cases (c : Chip) (r q : Nat) (f : FabSt → FabSt) :
    (c.setFab r f).fabr q = c.fabr q ∨ (q = r ∧ (c.setFab r f).fabr q = f (c.fabr q)) := by
  by_cases h : q = r
  · subst h
    by_cases hq : q < c.fab.length
    · exact .inr ⟨rfl, nth_upd_same _ _ _ _ hq⟩
    · refine .inl ((nth_upd _ _ _ _ _).trans (if_neg ?_))
      exact fun e => hq e.2
  · exact .inl (Chip.fabr_setFab_other c f h)

theorem link_congr {c d : Chip} {q k : Nat} (h : (d.fabr q).links = (c.fabr q).links) : d.link q k = c.link q k := by
  rw [Chip.link, h, Chip.link]

theorem link_setFab (c : Chip) (r q k : Nat) {f : FabSt → FabSt} (h : ∀ g, (f g).links = g.links) : (c.setFab r f).link q k = c.link q k := by
  refine link_congr ?_
  rcases fabr_setFab_cases c r q f with he | ⟨-, he⟩ <;> rw [he]
  exact h _

theorem link_setLink_other (c : Chip) {r k q j : Nat} (f : LinkSt → LinkSt) (h : q ≠ r ∨ j ≠ k) : (c.setLink r k f).link q j = c.link q j := by
  rw [Chip.link, Chip.link]
  rcases fabr_setFab_cases c r q (fun g => { g with links := upd g.links k f }) with he | ⟨hq, he⟩
  · rw [Chip.setLink, he]
  · rw [Chip.setLink, he]
    exact nth_upd_other _ _ _ (h.resolve_left (fun n => n hq))

/-- A change of one link leaves a link as it is or is that change. -/
theorem link_setLink_cases (c : Chip) (r k q j : Nat) (f : LinkSt → LinkSt) :
    (c.setLink r k f).link q j = c.link q j ∨ ((q = r ∧ j = k) ∧ (c.setLink r k f).link q j = f (c.link q j)) := by
  rw [Chip.link, Chip.link]
  rcases fabr_setFab_cases c r q (fun g => { g with links := upd g.links k f }) with he | ⟨hq, he⟩
  · exact .inl (by rw [Chip.setLink, he])
  · rw [Chip.setLink, he]
    by_cases hj : j = k ∧ k < (c.fabr q).links.length
    · obtain ⟨rfl, hlt⟩ := hj
      exact .inr ⟨⟨hq, rfl⟩, nth_upd_same _ _ _ _ hlt⟩
    · exact .inl ((nth_upd _ _ _ _ _).trans (if_neg hj))

theorem link_setLink (c : Chip) {r k : Nat} (f : LinkSt → LinkSt) (hc : c.fab.length = 8) (hr : r < 8) (hk : k < (c.fabr r).links.length) :
    (c.setLink r k f).link r k = f (c.link r k) := by
  rw [Chip.link, Chip.setLink, Chip.fabr_setFab c _ hc hr]
  exact nth_upd_same _ _ _ _ hk

/-! ### What the flits that a region sends change (R38, R39, R43) -/

/-- A flit that waits or is sent takes a number and a place in a replay buffer. -/
def LinkSt.Sent (l m : LinkSt) : Prop := m = { l with txSeq := m.txSeq, unacked := m.unacked }

/-- What sending changes of a region's state. -/
def FabSt.Sent (f g : FabSt) : Prop := g = { f with links := g.links, alt := g.alt, toSeq := g.toSeq, waits := g.waits }

theorem FabSt.Sent.refl (f : FabSt) : f.Sent f := rfl

theorem FabSt.Sent.trans {f g h : FabSt} (i : f.Sent g) (j : g.Sent h) : f.Sent h := by
  rw [FabSt.Sent] at *
  rw [j, i]

theorem LinkSt.Sent.trans {l m n : LinkSt} (i : l.Sent m) (j : m.Sent n) : l.Sent n := by
  rw [LinkSt.Sent] at *
  rw [j, i]

/-- Flits go out: beside the counters, what has been emitted and the state of the fabric nothing changes, and only links that can be
used. -/
structure Chip.FlitMoves (c d : Chip) : Prop where
  frame : ∃ rg cs n em fb, d = { c with regs := rg, ctrs := cs, freeCtr := n, emitted := em, fab := fb }
  words : c.WordsBut counterWord d
  fabr : ∀ q, (c.fabr q).Sent (d.fabr q)
  link : ∀ q k, (c.link q k).Sent (d.link q k)
  unused : ∀ q k, c.linkUsable q k = false → d.link q k = c.link q k

theorem region_not_counter {f : Field} (r i : Nat) (h : f.first + i * f.stride < 65536) : ¬ counterWord (f.at (regionAt r) i) := by
  rintro ⟨-, hb⟩
  rw [regionAt, Field.block_at f (by decide) h] at hb
  exact absurd hb (by decide)

theorem ident_not_counter {f : Field} (h : f.first < 65536) : ¬ counterWord (f.at identAt 0) := by
  rintro ⟨hs, -⟩
  rw [Field.at_eq, spaceOf, identAt] at hs
  omega

theorem fitted_congr_words {P : Nat → Prop} {c d : Chip} (h : c.WordsBut P d) (hp : ¬ P (Ident.fitted.at identAt 0)) (q : Nat) :
    d.fitted q = c.fitted q := congrArg (fun n : Nat => n.testBit q) (h.get hp)

namespace Chip.FlitMoves

variable {c d e : Chip}

/-- Whether a link can be used hangs on words that no flit changes. -/
theorem usable (h : c.WordsBut counterWord d) (q k : Nat) : d.linkUsable q k = c.linkUsable q k := by
  have hn : d.nRegions = c.nRegions := h.get (ident_not_counter (by decide))
  have hb : ∀ r j, d.getBit (regionAt r) Region.link_up j = c.getBit (regionAt r) Region.link_up j := fun r j =>
    congrArg (fun n : Nat => n.testBit j) (h.get (region_not_counter r 0 (by decide)))
  rw [linkUsable, linkUsable, hn, hb, hb, fitted_congr_words h (ident_not_counter (by decide))]

theorem refl (c : Chip) : c.FlitMoves c :=
  ⟨⟨c.regs, c.ctrs, c.freeCtr, c.emitted, c.fab, rfl⟩, .refl _ c, fun q => .refl _, fun q k => rfl, fun q k _ => rfl⟩

theorem trans (h : c.FlitMoves d) (k : d.FlitMoves e) : c.FlitMoves e := by
  obtain ⟨⟨rg, cs, n, em, fb, hd⟩, hw, hf, hl, hu⟩ := h
  obtain ⟨⟨rg', cs', n', em', fb', he⟩, hw', hf', hl', hu'⟩ := k
  refine ⟨⟨rg', cs', n', em', fb', by rw [he, hd]⟩, hw.trans hw', fun q => (hf q).trans (hf' q), fun q k => (hl q k).trans (hl' q k),
    fun q k hn => ?_⟩
  exact (hu' q k ((usable hw q k).trans hn)).trans (hu q k hn)

theorem each {α : Type} {f : Chip → α → Chip} (l : List α) (h : ∀ c : Chip, ∀ x ∈ l, c.FlitMoves (f c x)) (c : Chip) : c.FlitMoves (c.each l f) :=
  Chip.each_rel .refl (fun _ _ _ h k => h.trans k) l h c

/-- A change of a region's state that links do not show. -/
theorem setFab (c : Chip) (r : Nat) {f : FabSt → FabSt} (h : ∀ g : FabSt, g.Sent (f g)) (hl : ∀ g, (f g).links = g.links) : c.FlitMoves (c.setFab r f) := by
  refine ⟨⟨c.regs, c.ctrs, c.freeCtr, c.emitted, (c.setFab r f).fab, rfl⟩, .of_regs rfl, fun q => ?_, fun q k => ?_,
    fun q k _ => link_setFab c r q k hl⟩
  · rcases fabr_setFab_cases c r q f with he | ⟨-, he⟩ <;> rw [he]
    · exact .refl _
    · exact h _
  · rw [link_setFab c r q k hl]
    rfl

theorem emit (c : Chip) (x : Emit) : c.FlitMoves (c.emit x) :=
  ⟨⟨c.regs, c.ctrs, c.freeCtr, (c.emit x).emitted, c.fab, rfl⟩, .of_regs rfl, fun q => .refl _, fun q k => rfl, fun q k _ => rfl⟩

theorem of_count (h : c.CountOnly d) : c.FlitMoves d := by
  obtain ⟨⟨rg, cs, n, hd⟩, hw⟩ := h
  refine ⟨⟨rg, cs, n, c.emitted, c.fab, hd⟩, hw, fun q => ?_, fun q k => ?_, fun q k _ => ?_⟩ <;> rw [hd]
  · exact .refl _
  · rfl
  · rfl

theorem putFlit (c : Chip) {r : Nat} (k kind number : Nat) (ws : List Nat) (hr : r < 8) : c.FlitMoves (c.putFlit r k kind number ws) :=
  (emit c _).trans (of_count (Chip.countEvent_countOnly _ _ hr))

end Chip.FlitMoves

/-- A flit takes its number and its place in the replay buffer. -/
def Chip.enqueue (c : Chip) (r k : Nat) (ws : List Nat) : Chip :=
  c.setLink r k (fun h => { h with unacked := h.unacked ++ [(h.txSeq, ws)], txSeq := h.txSeq + 1 })

theorem sendFlit_eq (c : Chip) (r k : Nat) (ws : List Nat) : c.sendFlit r k ws = if (c.link r k).unacked.length < 32 then
    (c.enqueue r k ws).putFlit r k 0 (c.link r k).txSeq ws else c.enqueue r k ws := rfl

theorem sendNext_eq (c : Chip) (r d : Nat) (ws : List Nat) : c.sendNext r d ws = match c.linksTo r d with
    | [] => c
    | [k] => c.sendFlit r k ws
    | k :: _ => (c.setFab r (fun f => { f with alt := f.alt + 1 })).sendFlit r (nth k (c.linksTo r d)
        ((c.fabr r).alt % (c.linksTo r d).length)) ws := rfl

namespace Chip.FlitMoves

variable {c d e : Chip}

/-- The link a flit is sent on is one that can be used. -/
theorem enqueue (c : Chip) {r k : Nat} (ws : List Nat) (hk : c.linkUsable r k = true) : c.FlitMoves (c.enqueue r k ws) := by
  refine ⟨⟨c.regs, c.ctrs, c.freeCtr, c.emitted, (c.enqueue r k ws).fab, rfl⟩, .of_regs rfl, fun q => ?_, fun q j => ?_, fun q j hn => ?_⟩
  · rcases fabr_setFab_cases c r q (fun g => { g with links := upd g.links k (fun h =>
      { h with unacked := h.unacked ++ [(h.txSeq, ws)], txSeq := h.txSeq + 1 }) }) with he | ⟨-, he⟩
    · exact he ▸ .refl _
    · rw [Chip.enqueue, Chip.setLink, he]
      rfl
  · rcases link_setLink_cases c r k q j (fun h => { h with unacked := h.unacked ++ [(h.txSeq, ws)], txSeq := h.txSeq + 1 })
      with he | ⟨-, he⟩ <;> rw [Chip.enqueue, he] <;> rfl
  · refine link_setLink_other c _ ?_
    by_contra hb
    rw [not_or, not_not, not_not] at hb
    rw [hb.1, hb.2, hk] at hn
    exact absurd hn (by decide)

theorem sendFlit (c : Chip) {r k : Nat} (ws : List Nat) (hr : r < 8) (hk : c.linkUsable r k = true) : c.FlitMoves (c.sendFlit r k ws) := by
  rw [sendFlit_eq]
  split
  · exact (enqueue c ws hk).trans (putFlit _ _ _ _ _ hr)
  · exact enqueue c ws hk

theorem mem_linksTo {c : Chip} {r x k : Nat} (h : k ∈ c.linksTo r x) : c.linkUsable r k = true := by
  rw [Chip.linksTo, List.mem_filter, Bool.and_eq_true] at h
  exact h.2.1

theorem sendNext (c : Chip) {r : Nat} (x : Nat) (ws : List Nat) (hr : r < 8) : c.FlitMoves (c.sendNext r x ws) := by
  have halt : c.FlitMoves (c.setFab r (fun f => { f with alt := f.alt + 1 })) := setFab c r (f := fun f => { f with alt := f.alt + 1 }) (fun _ => rfl) (fun _ => rfl)
  have hmem : ∀ k ∈ c.linksTo r x, c.linkUsable r k = true := fun k hk => mem_linksTo hk
  rw [sendNext_eq]
  split
  · exact .refl c
  · next k hks => exact sendFlit c ws hr (hmem k (hks ▸ List.mem_singleton_self k))
  · next k tail hne hks =>
    have hlen : 0 < (c.linksTo r x).length := by
      rw [hks]
      exact Nat.succ_pos _
    refine halt.trans (sendFlit _ ws hr ((usable halt.words _ _).trans (hmem _ ?_)))
    rw [nth, List.getD_eq_getElem _ _ (Nat.mod_lt _ hlen)]
    exact List.getElem_mem _

theorem toWait (c : Chip) (r : Nat) (w : List Nat) : c.FlitMoves (c.setFab r (fun f => { f with waits := f.waits ++ [w] })) :=
  setFab c r (f := fun f => { f with waits := f.waits ++ [w] }) (fun _ => rfl) (fun _ => rfl)

theorem sendOn (c : Chip) {r : Nat} (ws : List Nat) (hr : r < 8) : c.FlitMoves (c.sendOn r ws) := by
  unfold Chip.sendOn
  split
  · split
    · split
      · exact sendNext c _ _ hr
      · split
        · exact sendNext c _ _ hr
        · exact toWait c _ _
    · split
      · exact sendNext c _ _ hr
      · exact toWait c _ _
  · exact .refl c

theorem sendTowards (c : Chip) {r : Nat} (x kind : Nat) (hr : r < 8) : c.FlitMoves (c.sendTowards r x kind) := by
  have hset : c.FlitMoves (c.setFab r (fun f => { f with toSeq := upd f.toSeq x (· + 1) })) :=
    setFab c r (f := fun f => { f with toSeq := upd f.toSeq x (· + 1) }) (fun _ => rfl) (fun _ => rfl)
  exact hset.trans (sendOn _ [x, r, nth 0 (c.fabr r).toSeq x, kind] hr)

theorem sendWaiting (c : Chip) : c.FlitMoves c.sendWaiting := by
  refine each _ (fun d r hr => ?_) c
  have hr8 : r < 8 := List.mem_range.1 (List.mem_filter.1 hr).1
  exact (setFab d r (f := fun f => { f with waits := [] }) (fun _ => rfl) (fun _ => rfl)).trans (each _ (fun e w _ => sendOn e w hr8) _)

end Chip.FlitMoves

end Sys2Proof.Machine
end

section
/-! SUPPORT. O4: beacons and the regions' reports. -/

namespace Sys2Proof.Machine

/-! ### What the lead and a region keep while flits go out -/

theorem fab_length_of_shape {c d : Chip} (h : d.shape = c.shape) : d.fab.length = c.fab.length := congrArg (fun l => l.getD 6 0) h

namespace Chip.FlitMoves

variable {c d : Chip}

theorem ackAt (h : c.FlitMoves d) (q : Nat) : (d.fabr q).ackAt = (c.fabr q).ackAt := by rw [h.fabr q]

theorem beaconAt (h : c.FlitMoves d) (q : Nat) : (d.fabr q).beaconAt = (c.fabr q).beaconAt := by rw [h.fabr q]

theorem now (h : c.FlitMoves d) : d.now = c.now := by
  obtain ⟨rg, cs, n, em, fb, he⟩ := h.frame
  rw [he]

theorem sys (h : c.FlitMoves d) : d.sys = c.sys := by
  obtain ⟨rg, cs, n, em, fb, he⟩ := h.frame
  rw [he]

end Chip.FlitMoves

theorem regionClosed_congr {c d : Chip} (h : d.sys = c.sys) (r : Nat) : d.regionClosed r = c.regionClosed r := by
  rw [Chip.regionClosed, Chip.regionClosed, Chip.regionFenced, Chip.regionFenced, h]

/-! ### Beacons (R45, R46) -/

/-- The lead begins to count the silence of a region that no fence closes. -/
def Chip.awaitAck (c : Chip) (d : Nat) : Chip :=
  c.when (!c.regionClosed d) (·.setFab d (fun f => { f with ackAt := some (f.ackAt.getD c.now) }))

def Chip.beaconTo (c : Chip) (d : Nat) : Chip := if d = 0 then c.awaitAck d else (c.awaitAck d).sendTowards 0 d 3

theorem beacon_to {s : State} {t0 : Nat} (h2 : s.chip.panel.s2At = some t0) (hf : s.chip.regionFenced 0 = false)
    (ht : (s.chip.now - t0) % 250 = 0) : exec .beacon s = .next { s with chip := s.chip.each s.chip.regions Chip.beaconTo } := by
  refine chipOnly_to s ?_
  rw [h2]
  exact if_neg (by simp [hf, ht])

/-- What the beacon to a region keeps. -/
structure Chip.Awaits (c d : Chip) : Prop where
  fab : d.fab.length = c.fab.length
  now : d.now = c.now
  sys : d.sys = c.sys

theorem awaitAck_awaits (c : Chip) (q : Nat) : c.Awaits (c.awaitAck q) := by
  unfold Chip.awaitAck
  cases c.regionClosed q
  · exact ⟨upd_length _ _ _, rfl, rfl⟩
  · exact ⟨rfl, rfl, rfl⟩

theorem beaconTo_awaits (c : Chip) (q : Nat) : c.Awaits (c.beaconTo q) := by
  obtain ⟨hfab, hnow, hsys⟩ := awaitAck_awaits c q
  unfold Chip.beaconTo
  split
  · exact ⟨hfab, hnow, hsys⟩
  · have hm := Chip.FlitMoves.sendTowards (c.awaitAck q) q 3 (r := 0) (by decide)
    exact ⟨(fab_length_of_shape (Chip.sendTowards_shape _ _ _ _)).trans hfab, hm.now.trans hnow, hm.sys.trans hsys⟩

theorem beaconTo_ackAt (c : Chip) (q r : Nat) : ((c.beaconTo q).fabr r).ackAt = ((c.awaitAck q).fabr r).ackAt := by
  unfold Chip.beaconTo
  split
  · rfl
  · exact (Chip.FlitMoves.sendTowards _ _ _ (by decide)).ackAt r

theorem awaitAck_ackAt (c : Chip) {r : Nat} (hc : c.fab.length = 8) (hr : r < 8) (hopen : c.regionClosed r = false) (q : Nat) :
    ((c.awaitAck q).fabr r).ackAt = if q = r then some ((c.fabr r).ackAt.getD c.now) else (c.fabr r).ackAt := by
  by_cases hq : q = r
  · subst hq
    rw [if_pos rfl, Chip.awaitAck, hopen, Chip.when, if_pos (by decide), Chip.fabr_setFab c _ hc hr]
  · rw [if_neg hq, Chip.awaitAck]
    cases c.regionClosed q
    · exact congrArg (·.ackAt) (Chip.fabr_setFab_other c _ (Ne.symm hq))
    · rfl

/-- Once the beacons are sent the lead counts the silence of each region among those it sent one to. -/
theorem beacons_ackAt {r : Nat} (hr : r < 8) (l : List Nat) (c : Chip) (hc : c.fab.length = 8) (hopen : c.regionClosed r = false) :
    ((c.each l Chip.beaconTo).fabr r).ackAt = if r ∈ l then some ((c.fabr r).ackAt.getD c.now) else (c.fabr r).ackAt := by
  induction l generalizing c with
  | nil => rfl
  | cons q l ih =>
    obtain ⟨hfab, hnow, hsys⟩ := beaconTo_awaits c q
    refine (ih (c.beaconTo q) (hfab.trans hc) ((regionClosed_congr hsys r).trans hopen)).trans ?_
    rw [beaconTo_ackAt, awaitAck_ackAt c hc hr hopen, hnow]
    by_cases hq : q = r
    · rw [if_pos hq, if_pos (List.mem_cons.2 (.inl hq.symm))]
      split <;> rfl
    · rw [if_neg hq]
      exact if_congr (by rw [List.mem_cons, or_iff_right (Ne.symm hq)]) rfl rfl

theorem mem_regions {c : Chip} {r : Nat} (hr : r < 8) (h : c.fitted r = true) : r ∈ c.regions :=
  List.mem_filter.2 ⟨List.mem_range.2 hr, h⟩

/-- The region hears a beacon. -/
def Chip.beaconHeard (c : Chip) (r : Nat) : Chip :=
  (c.setFab r (fun f => { f with beaconAt := some c.now })).put (regionAt r) Region.beacon_ok 1

theorem beaconReceive_to {r : Fin 8} {s : State} (hf : s.chip.fitted r = true) (h2 : s.chip.panel.s2At ≠ none) :
    exec (.beaconReceive r) s = .next { s with chip :=
      (if r = 0 then s.chip.beaconHeard r else (s.chip.beaconHeard r).sendTowards r 0 4) } :=
  chipOnly_to s (if_neg (by simp [hf, h2]))

theorem beaconHeard_at (c : Chip) {r : Nat} (hc : c.fab.length = 8) (hr : r < 8) : ((c.beaconHeard r).fabr r).beaconAt = some c.now :=
  congrArg (·.beaconAt) (Chip.fabr_setFab c _ hc hr)

theorem beaconHeard_ok (c : Chip) (r : Nat) : (c.beaconHeard r).get (regionAt r) Region.beacon_ok = 1 :=
  Chip.get_put_of_lt _ _ (by decide) (by decide)

theorem beaconAckReceive_to {r : Fin 8} {s : State} (hf : s.chip.fitted r = true) (hopen : s.chip.regionClosed r = false)
    (ha : (s.chip.fabr r).ackAt ≠ none) : exec (.beaconAckReceive r) s = .next { s with chip :=
      (s.chip.setFab r (fun f => { f with ackAt := some s.chip.now, gap := false })) } :=
  chipOnly_to s (if_neg (by simp [hf, hopen, ha]))

def Chip.gapFound (c : Chip) (r t0 : Nat) : Chip := (c.setFab r (fun f => { f with gap := true })).record 23 r 1 r [] [c.now - t0]

theorem beaconGap_to {r : Fin 8} {s : State} {t0 : Nat} (ha : (s.chip.fabr r).ackAt = some t0) (ht : t0 + 1000 ≤ s.chip.now)
    (hopen : s.chip.regionClosed r = false) (hf : s.chip.regionFenced 0 = false) (hg : (s.chip.fabr r).gap = false) :
    exec (.beaconGap r) s = .next { s with chip := s.chip.gapFound r t0 } := by
  refine chipOnly_to s ?_
  rw [ha]
  exact if_neg (by simp [hopen, hf, hg, ht])

theorem gapFound_fabr (c : Chip) {r : Nat} (t0 : Nat) (hc : c.fab.length = 8) (hr : r < 8) :
    (c.gapFound r t0).fabr r = { c.fabr r with gap := true } :=
  (Chip.fabr_congr (Chip.record_fab _ _ _ _ _ _ _) r).trans (Chip.fabr_setFab c _ hc hr)

theorem gapFound_words (c : Chip) (r t0 : Nat) : c.WordsBut recorderWord (c.gapFound r t0) :=
  Chip.WordsBut.trans (d := c.setFab r (fun f => { f with gap := true })) (.of_regs rfl) (.record _ _ _ _ _ _ _ (fun _ h => h))

/-! ### The junction temperature (R49, R51, R54) -/

def Chip.tjShown (c : Chip) (r : Nat) (tj : BitVec 16) (pace : BitVec 32) : Chip :=
  (c.put (regionAt r) Region.tj tj.toNat).put (regionAt r) Region.pace pace.toNat

/-- A junction below 105 °C is noted as neither hot nor scorched, but for the hysteresis of 5 °C. -/
def Chip.tjCool (c : Chip) (r : Nat) (tj : BitVec 16) (pace : BitVec 32) : Chip :=
  (if signed 16 tj.toNat < 1600 then (c.tjShown r tj pace).setFab r (fun f => { f with hot := false }) else c.tjShown r tj pace).setFab r
    (fun f => { f with scorched := false })

theorem junctionTemp_cool {r : Fin 8} {s : State} {tj : BitVec 16} {pace : BitVec 32} (hf : s.chip.fitted r = true)
    (ht : signed 16 tj.toNat < 1680) : exec (.junctionTempUpdate r tj pace) s = .next { s with chip := s.chip.tjCool r tj pace } := by
  refine chipOnly_to s ((if_neg (by simp [hf])).trans ((if_pos (by omega)).trans ?_))
  have hlow : ¬ (decide (1680 ≤ signed 16 tj.toNat) && !(s.chip.fabr r).hot) = true := by
    rw [decide_eq_false (by omega)]
    exact Bool.false_ne_true
  rw [if_neg hlow]
  rfl

theorem tjCool_regs (c : Chip) (r : Nat) (tj : BitVec 16) (pace : BitVec 32) : (c.tjCool r tj pace).regs = (c.tjShown r tj pace).regs := by
  unfold Chip.tjCool
  split <;> rfl

/-- The chip in which a junction of 105 °C or more has been noted. -/
def Chip.tjHot (c : Chip) (r : Nat) (tj : BitVec 16) (pace : BitVec 32) : Chip :=
  if (decide (1680 ≤ signed 16 tj.toNat) && !(c.fabr r).hot) = true then ((c.tjShown r tj pace).setFab r (fun f => { f with hot := true })).record
    26 r 1 r [] [unsigned 32 (signed 16 tj.toNat)]
  else if signed 16 tj.toNat < 1600 then (c.tjShown r tj pace).setFab r (fun f => { f with hot := false })
  else c.tjShown r tj pace

theorem junctionTemp_scorch {r : Fin 8} {s : State} {tj : BitVec 16} {pace : BitVec 32} (hf : s.chip.fitted r = true)
    (ht : 2000 ≤ signed 16 tj.toNat) (hp : 2 ≤ s.chip.phase) (hs : (s.chip.fabr r).scorched = false) :
    exec (.junctionTempUpdate r tj pace) s = .next { s with chip :=
      ((s.chip.tjHot r tj pace).setFab r (fun f => { f with scorched := true })).moduleFault 5 r } :=
  chipOnly_to s ((if_neg (by simp [hf])).trans ((if_neg (by omega)).trans (if_neg (by simpa [hs] using Nat.lt_of_succ_le hp))))

theorem tjHot_sys (c : Chip) (r : Nat) (tj : BitVec 16) (pace : BitVec 32) : (c.tjHot r tj pace).sys = c.sys := by
  unfold Chip.tjHot
  split
  · exact Chip.record_sys _ _ _ _ _ _ _
  · split <;> rfl

/-- Settles O4: beacons and the regions' reports. -/
theorem beaconsAndReports : Obligations.BeaconsAndReports := by
  intro r s hf hs hopen
  have hfab : s.chip.fab.length = 8 := hs.fab
  refine ⟨fun t0 h2 hf0 ht => ?_, fun h2 => ?_, fun ha => ?_, fun t0 ha ht hf0 hg => ?_, fun tj pace ht => ?_, fun tj pace ht hp hsc => ?_⟩
  · exact ⟨_, beacon_to h2 hf0 ht, (beacons_ackAt r.isLt _ _ hfab hopen).trans (if_pos (mem_regions r.isLt hf)), .chip s _⟩
  · refine ⟨_, beaconReceive_to hf h2, ?_, ?_, .chip s _⟩
    · split
      · exact beaconHeard_at _ hfab r.isLt
      · exact ((Chip.FlitMoves.sendTowards _ _ _ r.isLt).beaconAt r).trans (beaconHeard_at _ hfab r.isLt)
    · split
      · exact beaconHeard_ok _ r
      · exact ((Chip.FlitMoves.sendTowards _ _ _ r.isLt).words.get (region_not_counter r 0 (by decide))).trans (beaconHeard_ok _ r)
  · exact ⟨_, beaconAckReceive_to hf hopen ha, congrArg (·.ackAt) (Chip.fabr_setFab _ _ hfab r.isLt),
      congrArg (·.gap) (Chip.fabr_setFab _ _ hfab r.isLt), rfl, fun q hq => Chip.fabr_setFab_other _ _ hq⟩
  · exact ⟨_, beaconGap_to ha ht hopen hf0 hg, congrArg (·.gap) (gapFound_fabr _ _ hfab r.isLt),
      (congrArg (·.ackAt) (gapFound_fabr _ _ hfab r.isLt)).trans ha,
      (gapFound_words _ _ _).kept⟩
  · have hget : ∀ f, (s.chip.tjCool r tj pace).get (regionAt r) f = (s.chip.tjShown r tj pace).get (regionAt r) f := fun f =>
      Chip.get_congr (by rw [Chip.word, tjCool_regs, Chip.word])
    refine ⟨_, junctionTemp_cool hf ht, (hget _).trans ?_, (hget _).trans (Chip.get_put_of_lt _ _ (by decide) pace.isLt), ?_⟩
    · rw [Chip.tjShown, Chip.get_put_clear _ _ _ (by decide)]
      exact Chip.get_put_of_lt _ _ (by decide) tj.isLt
    · refine Chip.WordsBut.kept (Chip.WordsBut.trans (d := s.chip.tjShown r tj pace) ?_ (.of_regs (tjCool_regs _ _ _ _)))
      exact (Chip.WordsBut.put (f := Region.tj) (b := regionAt r) _ _ (.inl (Chip.regionAt_field _ _))).trans
        (.put (f := Region.pace) (b := regionAt r) _ _ (.inr (Chip.regionAt_field _ _)))
  · refine ⟨_, junctionTemp_scorch hf ht hp hsc, ?_⟩
    refine (congrArg (·.faultCause) (Chip.moduleFault_steady _ 5 r)).trans ?_
    have hsys : ((s.chip.tjHot r tj pace).setFab r (fun f => { f with scorched := true })).sys = s.chip.sys := tjHot_sys _ _ _ _
    rw [hsys]

end Sys2Proof.Machine
end

section
/-! SUPPORT. O3: flits on the die-to-die links. -/

namespace Sys2Proof.Machine

/-! ### A flit put on a link -/

theorem putFlit_fab (c : Chip) {r : Nat} (k kind number : Nat) (ws : List Nat) (hr : r < 8) : (c.putFlit r k kind number ws).fab = c.fab := by
  obtain ⟨⟨rg, cs, n, he⟩, -⟩ := (c.emit (.flit r k kind (number :: ws ++ [flitCrc kind number ws]))).countEvent_countOnly
    { cls := 5, port := k + 1, out := true, master := 7, priv := 3, addr := 0, instAddr := 0, bytes := 8 } hr
  exact congrArg (·.fab) he

theorem putFlit_emitted (c : Chip) {r : Nat} (k kind number : Nat) (ws : List Nat) (hr : r < 8) :
    (c.putFlit r k kind number ws).emitted = c.emitted ++ [.flit r k kind (number :: ws ++ [flitCrc kind number ws])] := by
  obtain ⟨⟨rg, cs, n, he⟩, -⟩ := (c.emit (.flit r k kind (number :: ws ++ [flitCrc kind number ws]))).countEvent_countOnly
    { cls := 5, port := k + 1, out := true, master := 7, priv := 3, addr := 0, instAddr := 0, bytes := 8 } hr
  exact congrArg (·.emitted) he

theorem putFlit_link (c : Chip) {r : Nat} (k kind number : Nat) (ws : List Nat) (hr : r < 8) (q j : Nat) :
    (c.putFlit r k kind number ws).link q j = c.link q j :=
  link_congr (congrArg (·.links) (Chip.fabr_congr (putFlit_fab c k kind number ws hr) q))

theorem putFlit_words (c : Chip) {r : Nat} (k kind number : Nat) (ws : List Nat) (hr : r < 8) :
    c.WordsBut counterWord (c.putFlit r k kind number ws) := (Chip.FlitMoves.putFlit c k kind number ws hr).words

/-! ### Fields of two regions -/

theorem region_offset (r o : Nat) (ho : o < 65536) : (regionAt r + o) % 65536 = o := by
  rw [regionAt, blockAddr]
  omega

theorem region_words_ne {f g : Field} (r q : Nat) (h : f.first ≠ g.first) (hf : f.first < 65536) (hg : g.first < 65536) :
    f.at (regionAt r) 0 ≠ g.at (regionAt q) 0 := by
  intro e
  rw [Chip.regionAt_field, Chip.regionAt_field] at e
  have h1 := region_offset r f.first hf
  have h2 := region_offset q g.first hg
  omega

/-- A write of bits that a field does not hold leaves the field, in whichever block. -/
theorem get_put_bits (c : Chip) (b b' v : Nat) {f g : Field} (h : (decide (f.hi < g.lo) || decide (g.hi < f.lo)) = true)
    (hs : f.sound = true) : (c.put b f v).get b' g = c.get b' g := by
  obtain ⟨hl, hh⟩ := Field.sound_iff.1 hs
  refine Chip.get_put_apart c b f v b' g hl hh ?_
  rw [Bool.or_eq_true, decide_eq_true_eq, decide_eq_true_eq] at h
  simp only [Field.apart]
  omega

/-! ### A link that is down stays as it is (R40, R41) -/

/-- A step that leaves a link which is down as it is. -/
def Chip.DownKept (r k : Nat) (c d : Chip) : Prop :=
  c.getBit (regionAt r) Region.link_up k = false → d.getBit (regionAt r) Region.link_up k = false ∧ d.link r k = c.link r k

namespace Chip.DownKept

variable {r k : Nat} {c d e : Chip}

theorem refl (c : Chip) : c.DownKept r k c := fun h => ⟨h, rfl⟩

theorem trans (h : c.DownKept r k d) (i : d.DownKept r k e) : c.DownKept r k e := fun hc =>
  have ⟨hd, hl⟩ := h hc
  have ⟨he, hl'⟩ := i hd
  ⟨he, hl'.trans hl⟩

theorem of_word (hw : d.get (regionAt r) Region.link_up = c.get (regionAt r) Region.link_up) (hf : d.fab = c.fab) : c.DownKept r k d :=
  fun h => ⟨(congrArg (fun n : Nat => n.testBit k) hw).trans h, link_congr (congrArg (·.links) (fabr_congr hf r))⟩

theorem of_flits (h : c.FlitMoves d) : c.DownKept r k d := fun hc =>
  ⟨(congrArg (fun n : Nat => n.testBit k) (h.words.get (region_not_counter r 0 (by decide)))).trans hc,
    h.unused r k (by rw [linkUsable, hc, Bool.and_false, Bool.false_and])⟩

theorem each {α : Type} {f : Chip → α → Chip} (l : List α) (h : ∀ c : Chip, ∀ x ∈ l, c.DownKept r k (f c x)) (c : Chip) :
    c.DownKept r k (c.each l f) := Chip.each_rel .refl (fun _ _ _ h i => h.trans i) l h c

end Chip.DownKept

/-- The fields of one region that its routes take. -/
def Chip.routeWords (c : Chip) (r : Nat) : Chip :=
  (c.put (regionAt r) Region.route (((c.regions.filter (· != r)).map (fun d => (d, c.routeTo r d))).foldl (fun m e => m + e.2.getD 0 * 4 ^ e.1) 0)).put
    (regionAt r) Region.unreached (((c.regions.filter (· != r)).map (fun d => (d, c.routeTo r d))).foldl
      (fun m e => if e.2.isNone then m + 2 ^ e.1 else m) 0)

theorem routesSync_eq (c : Chip) : c.routesSync = c.each c.regions Chip.routeWords := rfl

theorem routeWords_up (c : Chip) (q r : Nat) : (c.routeWords q).get (regionAt r) Region.link_up = c.get (regionAt r) Region.link_up :=
  (Chip.get_put_other _ (region_words_ne r q (by decide) (by decide) (by decide))).trans
    (Chip.get_put_other _ (region_words_ne r q (by decide) (by decide) (by decide)))

/-- Routes that follow the links change words alone. -/
theorem routesSync_spec (c : Chip) (r : Nat) :
    c.routesSync.fab = c.fab ∧ c.routesSync.now = c.now ∧ c.routesSync.get (regionAt r) Region.link_up = c.get (regionAt r) Region.link_up := by
  rw [routesSync_eq]
  exact Chip.each_rel (R := fun c d => d.fab = c.fab ∧ d.now = c.now ∧ d.get (regionAt r) Region.link_up = c.get (regionAt r) Region.link_up)
    (f := Chip.routeWords) (fun _ => ⟨rfl, rfl, rfl⟩) (fun _ _ _ h k => ⟨k.1.trans h.1, k.2.1.trans h.2.1, k.2.2.trans h.2.2⟩) _
    (fun d q _ => ⟨rfl, rfl, routeWords_up d q r⟩) c

theorem record_up (c : Chip) (source region severity subject : Nat) (bs ws : List Nat) {r : Nat} (hr : r < 8) :
    (c.record source region severity subject bs ws).get (regionAt r) Region.link_up = c.get (regionAt r) Region.link_up := by
  refine Chip.record_get c _ _ _ _ _ _ ?_
  rw [regionAt, Field.space_at _ (by decide) (by decide)]
  omega

/-- The link goes down: its bit and what it holds. -/
def Chip.cutLink (c : Chip) (r k cause : Nat) : Chip :=
  (c.putBit (regionAt r) Region.link_up k false).setLink r k (fun h => { h with
    downAt := c.now, failRec := cause == 3, downs := (c.link r k).downs.filter (fun t => c.now < t + 60000000) ++ [c.now],
    fails := 0, held := false, again := false, unacked := [] })

/-- The latch of a link that went down a third time, at both ends. -/
def Chip.latchLink (c : Chip) (r k n rep : Nat) : Chip :=
  ((c.putBit (regionAt r) Region.link_latched k true).putBit (regionAt (linkTo n r k)) Region.link_latched (linkMate n k) true).record
    17 r 1 k [4] [rep]

def Chip.linkLost (c : Chip) (r k cause : Nat) : Chip :=
  (if decide (3 ≤ ((c.link r k).downs.filter (fun t => c.now < t + 60000000) ++ [c.now]).length) = true then
      ((c.cutLink r k cause).routesSync.record 17 r 1 k [cause] [c.getI (regionAt r) Region.replays k]).latchLink r k c.nRegions
        (c.getI (regionAt r) Region.replays k)
    else (c.cutLink r k cause).routesSync.record 17 r 1 k [cause] [c.getI (regionAt r) Region.replays k]).each (c.link r k).unacked
    (fun c f => c.sendOn r (f.2.take 4))

theorem linkDown_up {c : Chip} {r k : Nat} (cause : Nat) (h : c.getBit (regionAt r) Region.link_up k = true) :
    c.linkDown r k cause = c.linkLost r k cause := if_neg (by rw [h]; decide)

theorem latchLink_kept (c : Chip) {r : Nat} (k n rep : Nat) (hr : r < 8) : c.DownKept r k (c.latchLink r k n rep) := by
  refine .of_word ?_ (Chip.record_fab _ _ _ _ _ _ _)
  rw [Chip.latchLink, record_up _ _ _ _ _ _ _ hr, Chip.putBit, get_put_bits _ _ _ _ (by decide) (by decide), Chip.putBit,
    get_put_bits _ _ _ _ (by decide) (by decide)]

theorem cutLink_spec (c : Chip) {r k : Nat} (cause : Nat) (hc : c.fab.length = 8) (hr : r < 8) (hk : k < 4)
    (hl : (c.fabr r).links.length = 4) : (c.cutLink r k cause).getBit (regionAt r) Region.link_up k = false ∧
    ((c.cutLink r k cause).link r k).downAt = c.now ∧ ((c.cutLink r k cause).link r k).fails = 0 := by
  have hlink := link_setLink (c.putBit (regionAt r) Region.link_up k false) (r := r) (k := k) (fun h => { h with
    downAt := c.now, failRec := cause == 3, downs := (c.link r k).downs.filter (fun t => c.now < t + 60000000) ++ [c.now],
    fails := 0, held := false, again := false, unacked := [] }) hc hr (Nat.lt_of_lt_of_eq hk hl.symm)
  refine ⟨?_, congrArg (·.downAt) hlink, congrArg (·.fails) hlink⟩
  exact (Chip.getBit_putBit c _ _ _ _ _ (by decide) (by decide) hk).trans (if_pos rfl)

/-- A link that goes down is down, since now and with no failure counted. -/
theorem linkLost_spec (c : Chip) {r k : Nat} (cause : Nat) (hc : c.fab.length = 8) (hr : r < 8) (hk : k < 4)
    (hl : (c.fabr r).links.length = 4) : (c.linkLost r k cause).getBit (regionAt r) Region.link_up k = false ∧
    ((c.linkLost r k cause).link r k).downAt = c.now ∧ ((c.linkLost r k cause).link r k).fails = 0 := by
  obtain ⟨hdown, hat, hfails⟩ := cutLink_spec c cause hc hr hk hl
  have hrec : (c.cutLink r k cause).DownKept r k ((c.cutLink r k cause).routesSync.record 17 r 1 k [cause]
      [c.getI (regionAt r) Region.replays k]) := by
    obtain ⟨hf, -, hw⟩ := routesSync_spec (c.cutLink r k cause) r
    exact .of_word ((record_up _ _ _ _ _ _ _ hr).trans hw) ((Chip.record_fab _ _ _ _ _ _ _).trans hf)
  have hsend : ∀ d : Chip, d.DownKept r k (d.each (c.link r k).unacked (fun c f => c.sendOn r (f.2.take 4))) := fun d =>
    .each _ (fun e f _ => .of_flits (.sendOn e _ hr)) d
  have hall : (c.cutLink r k cause).DownKept r k (c.linkLost r k cause) := by
    unfold Chip.linkLost
    split
    · exact (hrec.trans (latchLink_kept _ _ _ _ hr)).trans (hsend _)
    · exact hrec.trans (hsend _)
  obtain ⟨hup, hlink⟩ := hall hdown
  rw [hlink]
  exact ⟨hup, hat, hfails⟩

/-! ### A flit arrives (R39, R40) -/

/-- A failed check is counted, and a replay of what it may have been is due. -/
def Chip.flitFailed (c : Chip) (r k : Nat) (kind : Fin 3) (number : Nat) : Chip :=
  ((c.bumpByI (regionAt r) Region.crc_errors k 1).bumpByI (regionAt r) Region.replays k 1).setLink r k (fun h => { h with
    fails := h.fails + b2n (decide (kind = 0) && number == (c.link r k).rxSeq)
    again := h.again || (decide (kind = 0) && decide (h.rxSeq ≤ number)) })

/-- A good flit restarts the silence time and is counted as it passes. -/
def Chip.flitGood (c : Chip) (r k : Nat) : Chip := (c.setLink r k (fun h => { h with goodAt := c.now })).countPass r 5 (k + 1) false 7 3 8

theorem flitReceive_bad {r : Fin 8} {k : Fin 4} {s : State} {kind : Fin 3} {number : BitVec 32} {ws : List (BitVec 32)} {crc : BitVec 16}
    (hf : s.chip.fitted r = true) (hup : s.chip.getBit (regionAt r) Region.link_up k = true)
    (hcrc : flitCrc kind number.toNat (ws.map (·.toNat)) ≠ crc.toNat) :
    exec (.flitReceive r k kind number (ws, crc)) s = .next { s with chip :=
      (if 9 ≤ ((s.chip.flitFailed r k kind number.toNat).link r k).fails then (s.chip.flitFailed r k kind number.toNat).linkDown r k 1
       else (s.chip.flitFailed r k kind number.toNat).putFlit r k 2 ((s.chip.flitFailed r k kind number.toNat).link r k).rxSeq []) } :=
  chipOnly_to s ((if_neg (by rw [hf, hup]; decide)).trans (if_pos (bne_iff_ne.2 hcrc)))

theorem flitReceive_good {r : Fin 8} {k : Fin 4} {s : State} {kind : Fin 3} {number : BitVec 32} {ws : List (BitVec 32)} {crc : BitVec 16}
    (hf : s.chip.fitted r = true) (hup : s.chip.getBit (regionAt r) Region.link_up k = true)
    (hcrc : flitCrc kind number.toNat (ws.map (·.toNat)) = crc.toNat) :
    exec (.flitReceive r k kind number (ws, crc)) s = .next { s with chip :=
      (if kind = 0 then
        (if number.toNat = ((s.chip.flitGood r k).link r k).rxSeq then (s.chip.flitGood r k).takeFlit r k (ws.map (·.toNat))
          else if (decide (((s.chip.flitGood r k).link r k).rxSeq < number.toNat) && !((s.chip.flitGood r k).link r k).held) = true then
            ((s.chip.flitGood r k).setLink r k (fun h => { h with again := true })).putFlit r k 2 ((s.chip.flitGood r k).link r k).rxSeq []
          else s.chip.flitGood r k)
      else if kind = 1 then (s.chip.flitGood r k).flitsAcked r k number.toNat
      else ((s.chip.flitGood r k).flitsAcked r k number.toNat).replayFlits r k) } :=
  chipOnly_to s ((if_neg (by rw [hf, hup]; decide)).trans (if_neg (fun h => bne_iff_ne.1 h hcrc)))

section
variable {c : Chip} {r k : Nat} (hc : c.fab.length = 8) (hr : r < 8) (hk : k < 4) (hl : (c.fabr r).links.length = 4)
include hc hr hk hl

theorem flitFailed_link (kind : Fin 3) (number : Nat) : (c.flitFailed r k kind number).link r k = { c.link r k with
    fails := (c.link r k).fails + b2n (decide (kind = 0) && number == (c.link r k).rxSeq)
    again := (c.link r k).again || (decide (kind = 0) && decide ((c.link r k).rxSeq ≤ number)) } :=
  link_setLink ((c.bumpByI (regionAt r) Region.crc_errors k 1).bumpByI (regionAt r) Region.replays k 1) _ hc hr (Nat.lt_of_lt_of_eq hk hl.symm)

theorem flitGood_link : (c.flitGood r k).link r k = { c.link r k with goodAt := c.now } := by
  obtain ⟨⟨rg, cs, n, he⟩, -⟩ := (c.setLink r k (fun h => { h with goodAt := c.now })).countEvent_countOnly
    { cls := 5, port := k + 1, out := false, master := 7, priv := 3, addr := 0, instAddr := 0, bytes := 8 } hr
  refine Eq.trans (link_congr (congrArg (·.links) (Chip.fabr_congr (congrArg (·.fab) he) r))) ?_
  exact link_setLink c _ hc hr (Nat.lt_of_lt_of_eq hk hl.symm)

theorem flitGood_fabr : (c.flitGood r k).fabr r = { c.fabr r with links := upd (c.fabr r).links k (fun h => { h with goodAt := c.now }) } := by
  obtain ⟨⟨rg, cs, n, he⟩, -⟩ := (c.setLink r k (fun h => { h with goodAt := c.now })).countEvent_countOnly
    { cls := 5, port := k + 1, out := false, master := 7, priv := 3, addr := 0, instAddr := 0, bytes := 8 } hr
  exact (Chip.fabr_congr (congrArg (·.fab) he) r).trans (Chip.fabr_setFab c _ hc hr)

end

theorem flitGood_emitted (c : Chip) {r k : Nat} (hr : r < 8) : (c.flitGood r k).emitted = c.emitted := by
  obtain ⟨⟨rg, cs, n, he⟩, -⟩ := (c.setLink r k (fun h => { h with goodAt := c.now })).countEvent_countOnly
    { cls := 5, port := k + 1, out := false, master := 7, priv := 3, addr := 0, instAddr := 0, bytes := 8 } hr
  exact congrArg (·.emitted) he

theorem flitGood_fab_length (c : Chip) {r k : Nat} (hc : c.fab.length = 8) (hr : r < 8) : (c.flitGood r k).fab.length = 8 := by
  obtain ⟨⟨rg, cs, n, he⟩, -⟩ := (c.setLink r k (fun h => { h with goodAt := c.now })).countEvent_countOnly
    { cls := 5, port := k + 1, out := false, master := 7, priv := 3, addr := 0, instAddr := 0, bytes := 8 } hr
  exact (congrArg (fun d : Chip => d.fab.length) he).trans ((upd_length _ _ _).trans hc)

/-- The counts of a failed check, and the words it may change. -/
theorem flitFailed_words (c : Chip) (r k : Nat) (kind : Fin 3) (number : Nat) :
    c.WordsBut (fun a => a = regionAt r + 4 + k) (c.flitFailed r k kind number) := by
  have hat : ∀ f, f = Region.crc_errors ∨ f = Region.replays → f.at (regionAt r) k = regionAt r + 4 + k := by
    rintro f (rfl | rfl) <;> simp [Field.at, Region.crc_errors, Region.replays, Field.many]
  exact ((Chip.WordsBut.putI (b := regionAt r) (f := Region.crc_errors) c _ (hat _ (.inl rfl))).trans
    (.putI (b := regionAt r) (f := Region.replays) _ _ (hat _ (.inr rfl)))).trans (.of_regs rfl)

theorem flitFailed_counts (c : Chip) (r k : Nat) (kind : Fin 3) (number : Nat) :
    (c.flitFailed r k kind number).getI (regionAt r) Region.crc_errors k = min (c.getI (regionAt r) Region.crc_errors k + 1) 65535 ∧
    (c.flitFailed r k kind number).getI (regionAt r) Region.replays k = min (c.getI (regionAt r) Region.replays k + 1) 65535 := by
  have htop : Region.crc_errors.top = 65535 ∧ Region.replays.top = 65535 := by decide
  have hcrc : ∀ v, (c.putI (regionAt r) Region.crc_errors k v).getI (regionAt r) Region.replays k = c.getI (regionAt r) Region.replays k :=
    fun v => Chip.getI_putI_apart c _ _ _ _ _ _ _ (by decide) (by decide) (.inr (.inr (by decide)))
  have hrep : ∀ (d : Chip) v, (d.putI (regionAt r) Region.replays k v).getI (regionAt r) Region.crc_errors k =
      d.getI (regionAt r) Region.crc_errors k :=
    fun d v => Chip.getI_putI_apart d _ _ _ _ _ _ _ (by decide) (by decide) (.inr (.inl (by decide)))
  rw [Chip.flitFailed, Chip.setLink_getI, Chip.setLink_getI, Chip.bumpByI, Chip.bumpByI, htop.1, htop.2, hrep, hcrc]
  exact ⟨Chip.getI_putI_of_lt _ _ _ (by decide) (Nat.lt_of_le_of_lt (Nat.min_le_right _ _) (by decide)),
    Chip.getI_putI_of_lt _ _ _ (by decide) (Nat.lt_of_le_of_lt (Nat.min_le_right _ _) (by decide))⟩

/-! ### A flit is delivered (R39, R41) -/

theorem settle_links (f : FabSt) (ls : List LinkSt) (o n : Nat) : FabSt.settle { f with links := ls } o n = { FabSt.settle f o n with links := ls } := by
  induction n generalizing f with
  | zero => rfl
  | succ n ih =>
    unfold FabSt.settle
    cases f.early.find? (fun w => nth 0 w 1 == o && nth 0 w 2 == nth 0 f.fromSeq o) with
    | none => rfl
    | some w => exact ih { f with inbox := f.inbox ++ [w], fromSeq := upd f.fromSeq o (· + 1), early := f.early.filter (· != w) }

/-- What is delivered does not hang on the links. -/
theorem deliver_links (f : FabSt) (ls : List LinkSt) (ws : List Nat) : FabSt.deliver { f with links := ls } ws = { f.deliver ws with links := ls } := by
  unfold FabSt.deliver
  simp only []
  split
  · rfl
  · exact settle_links { f with early := f.early ++ [ws.take 4] } ls _ _

/-- The flit that is awaited is taken and delivered. -/
def Chip.flitHome (c : Chip) (r k : Nat) (ws : List Nat) : Chip :=
  (c.setLink r k (fun h => { h with rxSeq := h.rxSeq + 1, fails := 0, held := false, again := false })).setFab r (fun f => f.deliver ws)

theorem takeFlit_home {c : Chip} {r : Nat} (k : Nat) {ws : List Nat} (h : ws.head? = some r) : c.takeFlit r k ws = c.flitHome r k ws := by
  obtain ⟨tail, rfl⟩ : ∃ tail, ws = r :: tail := by
    cases ws with
    | nil => exact absurd h (by simp)
    | cons x tail => exact ⟨tail, by rw [Option.some.inj h]⟩
  have hroom : c.roomFor r (r :: tail) = true := by
    rw [Chip.roomFor, nth, List.getD_cons_zero, beq_self_eq_true, Bool.true_or]
  exact (if_neg (by rw [hroom]; decide)).trans (if_pos rfl)

theorem flitHome_fabr (c : Chip) {r k : Nat} (ws : List Nat) (hc : c.fab.length = 8) (hr : r < 8) :
    (c.flitHome r k ws).fabr r = { (c.fabr r).deliver ws with
      links := upd (c.fabr r).links k (fun h => { h with rxSeq := h.rxSeq + 1, fails := 0, held := false, again := false }) } := by
  rw [Chip.flitHome, Chip.fabr_setFab _ _ ((upd_length _ _ _).trans hc) hr, Chip.setLink, Chip.fabr_setFab c _ hc hr]
  exact deliver_links _ _ _

theorem flitHome_link (c : Chip) {r k : Nat} (ws : List Nat) (hc : c.fab.length = 8) (hr : r < 8) (hk : k < (c.fabr r).links.length) :
    (c.flitHome r k ws).link r k = { c.link r k with rxSeq := (c.link r k).rxSeq + 1, fails := 0, held := false, again := false } := by
  rw [Chip.link, flitHome_fabr c ws hc hr]
  exact nth_upd_same _ _ _ _ hk

theorem flitHome_inbox (c : Chip) {r k : Nat} (ws : List Nat) (hc : c.fab.length = 8) (hr : r < 8) :
    ((c.flitHome r k ws).fabr r).inbox = ((c.fabr r).deliver ws).inbox := by rw [flitHome_fabr c ws hc hr]

/-! ### An acknowledgement (R39, R43) -/

/-- A step that leaves what a link has sent and when it last heard a good flit. -/
def Chip.AckKept (r k : Nat) (c d : Chip) : Prop := (d.link r k).unacked = (c.link r k).unacked ∧ (d.link r k).goodAt = (c.link r k).goodAt

theorem Chip.AckKept.of_link {r k : Nat} {c d : Chip} (h : d.link r k = c.link r k) : c.AckKept r k d := by
  rw [Chip.AckKept, h]
  exact ⟨rfl, rfl⟩

theorem Chip.AckKept.each {α : Type} {r k : Nat} {f : Chip → α → Chip} (l : List α) (h : ∀ c : Chip, ∀ x ∈ l, c.AckKept r k (f c x)) (c : Chip) :
    c.AckKept r k (c.each l f) :=
  Chip.each_rel (R := fun c d => c.AckKept r k d) (fun _ => ⟨rfl, rfl⟩) (fun _ _ _ h i => ⟨i.1.trans h.1, i.2.trans h.2⟩) l h c

theorem putFlit_acks (c : Chip) {r q : Nat} (k j kind number : Nat) (ws : List Nat) (hq : q < 8) : c.AckKept r k (c.putFlit q j kind number ws) :=
  .of_link (putFlit_link c j kind number ws hq r k)

/-- A flit of this link that was held is asked for again. -/
def Chip.askHeld (r : Nat) (c : Chip) (j : Nat) : Chip :=
  (c.setLink r j (fun h => { h with held := false })).putFlit r j 2 (c.link r j).rxSeq []

theorem askHeld_acks (c : Chip) {r : Nat} (k j : Nat) (hr : r < 8) : c.AckKept r k (Chip.askHeld r c j) := by
  refine ⟨?_, ?_⟩
  all_goals
    refine (congrArg _ (putFlit_link _ _ _ _ _ hr r k)).trans ?_
    rcases link_setLink_cases c r j r k (fun h => { h with held := false }) with he | ⟨-, he⟩ <;> rw [he]

/-- The flits that the other end has accepted leave the replay buffer. -/
def Chip.released (c : Chip) (r k n : Nat) : Chip :=
  c.setLink r k (fun h => { h with unacked := (c.link r k).unacked.filter (fun f => n ≤ f.1) })

def Chip.sendReleased (c : Chip) (r k n : Nat) : Chip :=
  (c.released r k n).each ((((c.link r k).unacked.drop 32).filter (fun f => n ≤ f.1)).filter (fun f =>
    (((c.link r k).unacked.filter (fun f => n ≤ f.1)).take 32).contains f)) (fun c f => c.putFlit r k 0 f.1 f.2)

theorem flitsAcked_eq (c : Chip) (r k n : Nat) : c.flitsAcked r k n =
    if ((c.link r k).unacked.filter (fun f => n ≤ f.1)).length < (c.link r k).unacked.length then
      (c.sendReleased r k n).each ((List.range 4).filter (fun j => ((c.sendReleased r k n).link r j).held)) (Chip.askHeld r)
    else c.sendReleased r k n := rfl

theorem flitsAcked_spec (c : Chip) {r k : Nat} (n : Nat) (hc : c.fab.length = 8) (hr : r < 8) (hk : k < (c.fabr r).links.length) :
    ((c.flitsAcked r k n).link r k).unacked = (c.link r k).unacked.filter (fun f => n ≤ f.1) ∧
    ((c.flitsAcked r k n).link r k).goodAt = (c.link r k).goodAt := by
  have hset : (c.released r k n).link r k = { c.link r k with unacked := (c.link r k).unacked.filter (fun f => n ≤ f.1) } :=
    link_setLink c _ hc hr hk
  have hsend : (c.released r k n).AckKept r k (c.sendReleased r k n) := Chip.AckKept.each _ (fun d f _ => putFlit_acks d _ _ _ _ _ hr) _
  have hall : (c.released r k n).AckKept r k (c.flitsAcked r k n) := by
    rw [flitsAcked_eq]
    split
    · obtain ⟨hu, hg⟩ := Chip.AckKept.each (r := r) (k := k) ((List.range 4).filter (fun j => ((c.sendReleased r k n).link r j).held))
        (fun d j _ => askHeld_acks d k j hr) (c.sendReleased r k n)
      exact ⟨hu.trans hsend.1, hg.trans hsend.2⟩
    · exact hsend
  rw [Chip.AckKept, hset] at hall
  exact hall

/-! ### The link-control flits of a link that is up (R40) -/

def Chip.controlFlits (c : Chip) (r k : Nat) : Chip :=
  (c.putFlit r k 1 (c.link r k).rxSeq []).when (c.link r k).again (·.putFlit r k 2 (c.link r k).rxSeq [])

theorem linkControlFlit_to {r : Fin 8} {k : Fin 4} {s : State} (hf : s.chip.fitted r = true)
    (hup : s.chip.getBit (regionAt r) Region.link_up k = true) (ht : s.chip.now % 10 = 0) :
    exec (.linkControlFlit r k) s = .next { s with chip := s.chip.controlFlits r k } :=
  chipOnly_to s (if_neg (by rw [hf, hup, ht]; decide))

theorem controlFlits_spec (c : Chip) {r : Nat} (k : Nat) (hr : r < 8) : (c.controlFlits r k).fab = c.fab ∧
    c.WordsBut counterWord (c.controlFlits r k) ∧ (c.controlFlits r k).emitted = c.emitted ++
      [.flit r k 1 [(c.link r k).rxSeq, flitCrc 1 (c.link r k).rxSeq []]] ++
      (if (c.link r k).again = true then [.flit r k 2 [(c.link r k).rxSeq, flitCrc 2 (c.link r k).rxSeq []]] else []) := by
  unfold Chip.controlFlits
  cases (c.link r k).again with
  | true =>
    refine ⟨(putFlit_fab _ _ _ _ _ hr).trans (putFlit_fab _ _ _ _ _ hr), (putFlit_words _ _ _ _ _ hr).trans (putFlit_words _ _ _ _ _ hr), ?_⟩
    rw [if_pos rfl, Chip.when, if_pos rfl, putFlit_emitted _ _ _ _ _ hr, putFlit_emitted _ _ _ _ _ hr]
    rfl
  | false =>
    refine ⟨putFlit_fab _ _ _ _ _ hr, putFlit_words _ _ _ _ _ hr, ?_⟩
    rw [if_neg (by decide), List.append_nil, Chip.when, if_neg (by decide), putFlit_emitted _ _ _ _ _ hr]
    rfl

/-! ### Training (R41) -/

/-- One end of a link that has trained starts its numbers anew. -/
def Chip.trainEnd (c : Chip) (e : Nat × Nat) : Chip :=
  (c.setLink e.1 e.2 (fun h => { h with
      goodAt := c.now, fails := 0, held := false, again := false, failRec := false, rxSeq := 0
      txSeq := ((c.link e.1 e.2).unacked.map (·.2)).length
      unacked := (List.range ((c.link e.1 e.2).unacked.map (·.2)).length).zip ((c.link e.1 e.2).unacked.map (·.2)) })).each
    (((List.range ((c.link e.1 e.2).unacked.map (·.2)).length).zip ((c.link e.1 e.2).unacked.map (·.2))).take 32)
    (fun c f => c.putFlit e.1 e.2 0 f.1 f.2)

theorem restartLink_eq (c : Chip) (r k : Nat) :
    c.restartLink r k = (c.trainEnd (r, k)).trainEnd (linkTo c.nRegions r k, linkMate c.nRegions k) := by
  unfold Chip.restartLink Chip.trainEnd
  simp only [List.foldl_cons, List.foldl_nil]

/-- The link has its numbers anew, since the tick that its chip shows. -/
def Chip.Trained (c : Chip) (r k : Nat) : Prop := (c.link r k).rxSeq = 0 ∧ (c.link r k).goodAt = c.now

theorem Trained.of_flits {c d : Chip} {r k : Nat} (h : c.FlitMoves d) (hc : c.Trained r k) : d.Trained r k := by
  have hl := h.link r k
  rw [LinkSt.Sent] at hl
  rw [Chip.Trained, h.now, hl]
  exact hc

theorem eachPut_moves (c : Chip) {r : Nat} (k : Nat) (hr : r < 8) (l : List (Nat × List Nat)) :
    c.FlitMoves (c.each l (fun c f => c.putFlit r k 0 f.1 f.2)) := .each _ (fun d f _ => .putFlit d _ _ _ _ hr) c

theorem trainEnd_trains (c : Chip) {r k : Nat} (hc : c.fab.length = 8) (hr : r < 8) (hk : k < (c.fabr r).links.length) :
    (c.trainEnd (r, k)).Trained r k := by
  refine Trained.of_flits (eachPut_moves _ k hr _) ?_
  rw [Chip.Trained, link_setLink c _ hc hr hk]
  exact ⟨rfl, rfl⟩

/-- The training of another end leaves a link that has trained so. -/
theorem trainEnd_kept (c : Chip) {r k : Nat} {e : Nat × Nat} (he : e.1 < 8) (h : c.Trained r k) : (c.trainEnd e).Trained r k := by
  refine Trained.of_flits (eachPut_moves _ e.2 he _) ?_
  rw [Chip.Trained]
  rcases link_setLink_cases c e.1 e.2 r k (fun h => { h with
      goodAt := c.now, fails := 0, held := false, again := false, failRec := false, rxSeq := 0
      txSeq := ((c.link e.1 e.2).unacked.map (·.2)).length
      unacked := (List.range ((c.link e.1 e.2).unacked.map (·.2)).length).zip ((c.link e.1 e.2).unacked.map (·.2)) }) with hs | ⟨-, hs⟩
  · rw [hs]
    exact h
  · rw [hs]
    exact ⟨rfl, rfl⟩

theorem trainEnd_up (c : Chip) {e : Nat × Nat} (he : e.1 < 8) (r : Nat) :
    (c.trainEnd e).get (regionAt r) Region.link_up = c.get (regionAt r) Region.link_up :=
  (eachPut_moves _ e.2 he _).words.get (region_not_counter r 0 (by decide))

theorem linkTo_lt (n r k : Nat) : linkTo n r k < 8 := by
  unfold linkTo
  split
  · exact Nat.mod_lt _ (by decide)
  · split
    · exact Nat.lt_of_lt_of_le (Nat.mod_lt _ (by decide)) (by decide)
    · omega

/-- The chip in which a link has trained. -/
def Chip.linkTrained (c : Chip) (r k : Nat) : Chip :=
  ((((c.putBit (regionAt r) Region.link_up k true).restartLink r k).routesSync.record 18 r 0 k [] []).sendWaiting)

theorem linkTrained_spec (c : Chip) {r k : Nat} (hc : c.fab.length = 8) (hr : r < 8) (hk : k < 4) (hl : (c.fabr r).links.length = 4) :
    (c.linkTrained r k).Trained r k ∧ (c.linkTrained r k).now = c.now ∧ (c.linkTrained r k).getBit (regionAt r) Region.link_up k = true := by
  have hk4 : k < (c.fabr r).links.length := Nat.lt_of_lt_of_eq hk hl.symm
  have hrestart := trainEnd_kept _ (linkTo_lt (c.putBit (regionAt r) Region.link_up k true).nRegions r k)
    (e := (linkTo (c.putBit (regionAt r) Region.link_up k true).nRegions r k, linkMate (c.putBit (regionAt r) Region.link_up k true).nRegions k))
    (trainEnd_trains (c.putBit (regionAt r) Region.link_up k true) hc hr hk4)
  rw [← restartLink_eq] at hrestart
  obtain ⟨hfab, hnow, hup⟩ := routesSync_spec ((c.putBit (regionAt r) Region.link_up k true).restartLink r k) r
  have hrec : (((c.putBit (regionAt r) Region.link_up k true).restartLink r k).routesSync.record 18 r 0 k [] []).Trained r k := by
    have hlink : (((c.putBit (regionAt r) Region.link_up k true).restartLink r k).routesSync.record 18 r 0 k [] []).link r k =
        ((c.putBit (regionAt r) Region.link_up k true).restartLink r k).link r k :=
      link_congr (congrArg (·.links) (Chip.fabr_congr ((Chip.record_fab _ _ _ _ _ _ _).trans hfab) r))
    rw [Chip.Trained, hlink, Chip.record_now, hnow]
    exact hrestart
  have hsend := Chip.FlitMoves.sendWaiting (((c.putBit (regionAt r) Region.link_up k true).restartLink r k).routesSync.record 18 r 0 k [] [])
  refine ⟨Trained.of_flits hsend hrec, hsend.now.trans ?_, ?_⟩
  · rw [Chip.record_now, hnow, restartLink_eq]
    exact (eachPut_moves _ _ (linkTo_lt _ _ _) _).now.trans (eachPut_moves _ k hr _).now
  · have hget : (c.linkTrained r k).get (regionAt r) Region.link_up = (c.putBit (regionAt r) Region.link_up k true).get (regionAt r) Region.link_up := by
      refine (hsend.words.get (region_not_counter r 0 (by decide))).trans ((record_up _ _ _ _ _ _ _ hr).trans (hup.trans ?_))
      rw [restartLink_eq, trainEnd_up _ (linkTo_lt _ _ _), trainEnd_up _ hr]
    exact (congrArg (fun n : Nat => n.testBit k) hget).trans ((Chip.getBit_putBit c _ _ _ _ _ (by decide) (by decide) hk).trans (if_pos rfl))

/-- A training that fails. -/
def Chip.linkUntrained (c : Chip) (r k : Nat) : Chip :=
  if (c.link r k).failRec then c.setLink r k (fun h => { h with downAt := c.now, failRec := true })
  else (c.setLink r k (fun h => { h with downAt := c.now, failRec := true })).record 17 r 1 k [3] [c.getI (regionAt r) Region.replays k]

theorem retrainDue {c : Chip} {r k : Nat} (hf : c.fitted r = true) (hup : c.getBit (regionAt r) Region.link_up k = false)
    (hlat : c.getBit (regionAt r) Region.link_latched k = false) (h2 : c.panel.s2At ≠ none) (ht : (c.link r k).downAt + 10000 ≤ c.now) :
    ¬ (!c.fitted r || c.getBit (regionAt r) Region.link_up k || c.getBit (regionAt r) Region.link_latched k || c.panel.s2At.isNone ||
      decide (c.now < (c.link r k).downAt + 10000)) = true := by
  simp [hf, hup, hlat, h2, ht]

theorem linkRetrain_to {r : Fin 8} {k : Fin 4} {s : State} (hf : s.chip.fitted r = true)
    (hup : s.chip.getBit (regionAt r) Region.link_up k = false) (hlat : s.chip.getBit (regionAt r) Region.link_latched k = false)
    (h2 : s.chip.panel.s2At ≠ none) (ht : (s.chip.link r k).downAt + 10000 ≤ s.chip.now) (trained : Bool) :
    exec (.linkRetrainAttempt r k trained) s = .next { s with chip :=
      (if trained then s.chip.linkTrained r k else s.chip.linkUntrained r k) } := by
  refine chipOnly_to s ((if_neg (retrainDue hf hup hlat h2 ht)).trans ?_)
  cases trained <;> rfl

theorem linkUntrained_words (c : Chip) (r k : Nat) : c.WordsBut recorderWord (c.linkUntrained r k) := by
  unfold Chip.linkUntrained
  split
  · exact .of_regs rfl
  · exact Chip.WordsBut.trans (d := c.setLink r k (fun h => { h with downAt := c.now, failRec := true })) (.of_regs rfl)
      (.record _ _ _ _ _ _ _ (fun _ h => h))

theorem linkUntrained_link (c : Chip) {r k : Nat} (hc : c.fab.length = 8) (hr : r < 8) (hk : k < (c.fabr r).links.length) :
    (c.linkUntrained r k).link r k = { c.link r k with downAt := c.now, failRec := true } := by
  have hset := link_setLink c (fun h => { h with downAt := c.now, failRec := true }) hc hr hk
  unfold Chip.linkUntrained
  split
  · exact hset
  · exact (link_congr (congrArg (·.links) (Chip.fabr_congr (Chip.record_fab _ _ _ _ _ _ _) r))).trans hset

/-! ### The clauses of O3 -/

/-- What a region whose links are as Table 1.3 numbers them gives a proof about one of its links. -/
structure LinkOf (s : State) (r : Fin 8) : Prop where
  fitted : s.chip.fitted r = true
  fab : s.chip.fab.length = 8
  links : (s.chip.fabr r).links.length = 4

theorem LinkOf.lt {s : State} {r : Fin 8} (h : LinkOf s r) (k : Fin 4) : k.val < (s.chip.fabr r).links.length := Nat.lt_of_lt_of_eq k.isLt h.links.symm

theorem fails_count (kind : Fin 3) (a b : Nat) : b2n (decide (kind = 0) && a == b) = if kind = 0 ∧ a = b then 1 else 0 := by
  by_cases hk : kind = 0 <;> by_cases ha : a = b <;> simp [hk, ha, b2n]

theorem flitReceive_counts {r : Fin 8} {k : Fin 4} {s : State} (h : LinkOf s r) (hup : s.chip.getBit (regionAt r) Region.link_up k = true)
    {kind : Fin 3} {number : BitVec 32} {ws : List (BitVec 32)} {crc : BitVec 16} (hcrc : flitCrc kind number.toNat (ws.map (·.toNat)) ≠ crc.toNat)
    {n : Nat} (hn : n = (s.chip.link r k).fails + (if kind = 0 ∧ number.toNat = (s.chip.link r k).rxSeq then 1 else 0)) :
    (n < 9 → ∃ t, exec (.flitReceive r k kind number (ws, crc)) s = .next t ∧
      t.chip.getI (regionAt r) Region.crc_errors k = min (s.chip.getI (regionAt r) Region.crc_errors k + 1) 65535 ∧
      t.chip.getI (regionAt r) Region.replays k = min (s.chip.getI (regionAt r) Region.replays k + 1) 65535 ∧
      (t.chip.link r k).fails = n ∧ (t.chip.link r k).rxSeq = (s.chip.link r k).rxSeq ∧
      t.chip.emitted = s.chip.emitted ++ [.flit r k 2 [(s.chip.link r k).rxSeq, flitCrc 2 (s.chip.link r k).rxSeq []]] ∧
      WordsKept (fun a => a = regionAt r + 4 + k ∨ counterWord a) s t) ∧
    (9 ≤ n → ∃ t, exec (.flitReceive r k kind number (ws, crc)) s = .next t ∧
      (t.chip.link r k).downAt = s.chip.now ∧ t.chip.getBit (regionAt r) Region.link_up k = false ∧ StoresKept s t) := by
  have hlink := flitFailed_link h.fab r.isLt k.isLt h.links kind number.toNat
  have hwords := flitFailed_words s.chip r k kind number.toNat
  have hfails : ((s.chip.flitFailed r k kind number.toNat).link r k).fails = n := by
    rw [hlink, hn, ← fails_count]
  have hrx : ((s.chip.flitFailed r k kind number.toNat).link r k).rxSeq = (s.chip.link r k).rxSeq := by rw [hlink]
  have hto := flitReceive_bad h.fitted hup hcrc
  rw [hfails, hrx] at hto
  refine ⟨fun hlt => ?_, fun hge => ?_⟩
  · rw [if_neg (Nat.not_le_of_lt hlt)] at hto
    obtain ⟨hc, hp⟩ := flitFailed_counts s.chip r k kind number.toNat
    have hput := putFlit_words (s.chip.flitFailed r k kind number.toNat) k 2 (s.chip.link r k).rxSeq [] r.isLt
    have hpl := putFlit_link (s.chip.flitFailed r k kind number.toNat) k 2 (s.chip.link r k).rxSeq [] r.isLt r k
    refine ⟨_, hto, (Chip.getI_congr (hput _ (region_not_counter r k (by change 4 + k.val * 1 < 65536; omega)))).trans hc,
      (Chip.getI_congr (hput _ (region_not_counter r k (by change 4 + k.val * 1 < 65536; omega)))).trans hp, (congrArg (·.fails) hpl).trans hfails,
      (congrArg (·.rxSeq) hpl).trans hrx, putFlit_emitted _ _ _ _ _ r.isLt, Chip.WordsBut.kept ((hwords.mono fun _ h => .inl h).trans
        (hput.mono fun _ h => .inr h))⟩
  · have hup' : (s.chip.flitFailed r k kind number.toNat).getBit (regionAt r) Region.link_up k = true := by
      refine (congrArg (fun n : Nat => n.testBit k) (hwords.get ?_)).trans hup
      rw [Chip.regionAt_field]
      change ¬ regionAt r + 0 = regionAt r + 4 + k
      omega
    rw [if_pos hge, linkDown_up 1 hup'] at hto
    have hlen : ((s.chip.flitFailed r k kind number.toNat).fabr r).links.length = 4 := by
      refine Eq.trans (congrArg (fun f : FabSt => f.links.length) (Chip.fabr_setFab _ _ h.fab r.isLt)) ?_
      exact (upd_length _ _ _).trans h.links
    obtain ⟨hdown, hat, -⟩ := linkLost_spec (s.chip.flitFailed r k kind number.toNat) 1 ((upd_length _ _ _).trans h.fab) r.isLt k.isLt hlen
    exact ⟨_, hto, hat, hdown, .chip s _⟩

theorem flitReceive_data {r : Fin 8} {k : Fin 4} {s : State} (h : LinkOf s r) (hup : s.chip.getBit (regionAt r) Region.link_up k = true)
    {number : BitVec 32} {ws : List (BitVec 32)} {crc : BitVec 16} (hcrc : flitCrc 0 number.toNat (ws.map (·.toNat)) = crc.toNat) :
    (number.toNat ≠ (s.chip.link r k).rxSeq → ∃ t, exec (.flitReceive r k 0 number (ws, crc)) s = .next t ∧
      (t.chip.link r k).goodAt = s.chip.now ∧ (t.chip.link r k).rxSeq = (s.chip.link r k).rxSeq ∧
      (t.chip.fabr r).inbox = (s.chip.fabr r).inbox) ∧
    (number.toNat = (s.chip.link r k).rxSeq → (ws.map (·.toNat)).head? = some r.val →
      ∃ t, exec (.flitReceive r k 0 number (ws, crc)) s = .next t ∧ (t.chip.link r k).goodAt = s.chip.now ∧
        (t.chip.link r k).fails = 0 ∧ (t.chip.link r k).rxSeq = (s.chip.link r k).rxSeq + 1 ∧
        (t.chip.fabr r).inbox = ((s.chip.fabr r).deliver (ws.map (·.toNat))).inbox ∧ t.chip.emitted = s.chip.emitted) := by
  have hlink := flitGood_link h.fab r.isLt k.isLt h.links
  have hfabr := flitGood_fabr h.fab r.isLt k.isLt h.links
  have hlen := flitGood_fab_length s.chip (k := k) h.fab r.isLt
  have hk : k.val < ((s.chip.flitGood r k).fabr r).links.length := by
    rw [hfabr]
    exact Nat.lt_of_lt_of_eq (h.lt k) (upd_length _ _ _).symm
  have hrx : ((s.chip.flitGood r k).link r k).rxSeq = (s.chip.link r k).rxSeq := by rw [hlink]
  have hgood : ((s.chip.flitGood r k).link r k).goodAt = s.chip.now := by rw [hlink]
  have hinbox : ((s.chip.flitGood r k).fabr r).inbox = (s.chip.fabr r).inbox := by rw [hfabr]
  have hto := flitReceive_good (kind := 0) h.fitted hup hcrc
  rw [if_pos rfl, hrx] at hto
  refine ⟨fun hne => ?_, fun heq hhead => ?_⟩
  · rw [if_neg hne] at hto
    split at hto
    · have hset := link_setLink (s.chip.flitGood r k) (fun h => { h with again := true }) hlen r.isLt hk
      have hput := putFlit_link ((s.chip.flitGood r k).setLink r k (fun h => { h with again := true })) k 2 (s.chip.link r k).rxSeq [] r.isLt r k
      refine ⟨_, hto, ?_, ?_, ?_⟩
      · exact (congrArg (·.goodAt) (hput.trans hset)).trans hgood
      · exact (congrArg (·.rxSeq) (hput.trans hset)).trans hrx
      · have hfab := Chip.fabr_setFab (s.chip.flitGood r k) (fun g => { g with links := upd g.links k (fun h => { h with again := true }) })
          hlen r.isLt
        exact (congrArg (·.inbox) ((Chip.fabr_congr (putFlit_fab _ _ _ _ _ r.isLt) r).trans hfab)).trans hinbox
    · exact ⟨_, hto, hgood, hrx, hinbox⟩
  · rw [if_pos heq, takeFlit_home k hhead] at hto
    have hhome := flitHome_link (s.chip.flitGood r k) (ws.map (·.toNat)) hlen r.isLt hk
    refine ⟨_, hto, ?_, ?_, ?_, ?_, flitGood_emitted _ r.isLt⟩
    · rw [hhome]
      exact hgood
    · rw [hhome]
    · rw [hhome, hrx]
    · rw [flitHome_inbox _ _ hlen r.isLt, hfabr, deliver_links]

theorem flitReceive_ack {r : Fin 8} {k : Fin 4} {s : State} (h : LinkOf s r) (hup : s.chip.getBit (regionAt r) Region.link_up k = true)
    {number : BitVec 32} {crc : BitVec 16} (hcrc : flitCrc 1 number.toNat [] = crc.toNat) :
    ∃ t, exec (.flitReceive r k 1 number ([], crc)) s = .next t ∧ (t.chip.link r k).goodAt = s.chip.now ∧
      (t.chip.link r k).unacked = (s.chip.link r k).unacked.filter (fun f => number.toNat ≤ f.1) := by
  have hlink := flitGood_link h.fab r.isLt k.isLt h.links
  have hk : k.val < ((s.chip.flitGood r k).fabr r).links.length := by
    rw [flitGood_fabr h.fab r.isLt k.isLt h.links]
    exact Nat.lt_of_lt_of_eq (h.lt k) (upd_length _ _ _).symm
  obtain ⟨hu, hg⟩ := flitsAcked_spec (s.chip.flitGood r k) number.toNat (flitGood_fab_length s.chip h.fab r.isLt) r.isLt hk
  have hto := flitReceive_good (kind := 1) (ws := []) h.fitted hup hcrc
  rw [if_neg (by decide), if_pos rfl] at hto
  rw [hlink] at hu hg
  exact ⟨_, hto, hg, hu⟩

theorem linkSilence_to {r : Fin 8} {k : Fin 4} {s : State} (hf : s.chip.fitted r = true)
    (hup : s.chip.getBit (regionAt r) Region.link_up k = true) (ht : (s.chip.link r k).goodAt + 100 ≤ s.chip.now) :
    exec (.linkSilenceTimeout r k) s = .next { s with chip := s.chip.linkLost r k 2 } :=
  chipOnly_to s ((if_pos (by simp [hf, ht])).trans (linkDown_up 2 hup))

/-- Settles O3: flits on the die-to-die links. -/
theorem linkFlits : Obligations.LinkFlits := by
  intro r k s hf hs hl
  have h : LinkOf s r := ⟨hf, hs.fab, hl⟩
  refine ⟨fun hup => ⟨fun kind number ws crc hcrc n hn => flitReceive_counts h hup hcrc hn, fun number ws crc hcrc => flitReceive_data h hup hcrc,
    fun number crc hcrc => flitReceive_ack h hup hcrc, fun ht => ?_, fun ht => ?_⟩, fun hup hlat h2 ht => ⟨?_, ?_⟩⟩
  · obtain ⟨hdown, hat, hfails⟩ := linkLost_spec s.chip 2 h.fab r.isLt k.isLt hl
    exact ⟨_, linkSilence_to hf hup ht, hat, hfails, hdown, .chip s _⟩
  · obtain ⟨hfab, hwords, hemit⟩ := controlFlits_spec s.chip k r.isLt
    exact ⟨_, linkControlFlit_to hf hup ht, hemit, hfab, hwords.kept⟩
  · obtain ⟨⟨hrx, hgood⟩, hnow, hbit⟩ := linkTrained_spec s.chip h.fab r.isLt k.isLt hl
    exact ⟨_, linkRetrain_to hf hup hlat h2 ht true, hrx, hgood.trans hnow, hbit, .chip s _⟩
  · have hlink := linkUntrained_link s.chip h.fab r.isLt (h.lt k)
    exact ⟨_, linkRetrain_to hf hup hlat h2 ht false, congrArg (·.downAt) hlink, congrArg (·.failRec) hlink, (linkUntrained_words _ _ _).kept⟩

end Sys2Proof.Machine
end

section
/-! SUPPORT. O7: supply steps and measurements. -/

namespace Sys2Proof.Machine

/-! ### What the operations on channels and axes leave of the supply words -/

/-- The words of the supply block. -/
def supplyWord (a : Nat) : Prop := supplyAt ≤ a ∧ a < supplyAt + 18

/-- The module's conditions and its supply words are as before. -/
structure Chip.SupplyKept (c d : Chip) : Prop where
  sys : d.sys = c.sys
  words : ∀ a, supplyWord a → d.word a = c.word a

theorem supplyWord_space {a : Nat} (h : supplyWord a) : spaceOf a = 8 := by
  rw [supplyWord, supplyAt] at h
  rw [spaceOf]
  omega

theorem supplyWord_at {f : Field} {i : Nat} (h : f.first + i * f.stride < 18) : supplyWord (f.at supplyAt i) := by
  rw [supplyWord, Field.at_eq]
  omega

namespace Chip.SupplyKept

variable {c d e : Chip}

theorem refl (c : Chip) : c.SupplyKept c := ⟨rfl, fun _ _ => rfl⟩

theorem trans (h : c.SupplyKept d) (k : d.SupplyKept e) : c.SupplyKept e :=
  ⟨k.sys.trans h.sys, fun a ha => (k.words a ha).trans (h.words a ha)⟩

theorem get (h : c.SupplyKept d) {f : Field} (hf : f.first < 18) : d.get supplyAt f = c.get supplyAt f :=
  Chip.get_congr (h.words _ (supplyWord_at (by omega)))

theorem gs (h : c.SupplyKept d) (q : Nat) : d.gs q = c.gs q := by rw [Chip.gs, h.sys, Chip.gs]

theorem each {α : Type} {f : Chip → α → Chip} (l : List α) (h : ∀ c : Chip, ∀ x ∈ l, c.SupplyKept (f c x)) (c : Chip) : c.SupplyKept (c.each l f) :=
  Chip.each_rel .refl (fun _ _ _ h k => h.trans k) l h c

theorem of_chan {g : Nat} {ws : List Nat} (h : c.ChanMoves g ws d) (hg : g < 128) (hws : ∀ w ∈ ws, w < 65536) : c.SupplyKept d := by
  refine ⟨?_, fun a ha => h.word_of_not_chan hg hws ?_ ?_⟩
  · obtain ⟨rg, cs, rc, he⟩ := h.frame
    rw [he]
  · rw [supplyWord_space ha]
    decide
  · rintro ⟨hs, -⟩
    rw [supplyWord_space ha] at hs
    omega

theorem of_axis {x : Nat} (h : c.AxMoves x d) (hx : x < 16) : c.SupplyKept d := by
  refine ⟨?_, fun a ha => h.words a ?_ ?_⟩
  · obtain ⟨rg, ax, rc, he⟩ := h.frame
    rw [he]
  · rw [supplyWord_space ha]
    decide
  · rintro ⟨hs, -⟩
    rw [supplyWord_space ha] at hs
    omega

theorem record (c : Chip) (source region severity subject : Nat) (bs ws : List Nat) :
    c.SupplyKept (c.record source region severity subject bs ws) := by
  refine ⟨Chip.record_sys _ _ _ _ _ _ _, fun a ha => Chip.record_word _ _ _ _ _ _ _ ?_⟩
  rw [supplyWord_space ha]
  decide

end Chip.SupplyKept

theorem chansOf_lt {r : Nat} (hr : r < 8) {g : Nat} (h : g ∈ chansOf r) : g < 128 := by
  simp only [chansOf, List.mem_map, List.mem_range] at h
  obtain ⟨k, hk, rfl⟩ := h
  omega

theorem complianceOf_supply (c : Chip) {g : Nat} (hg : g < 128) : c.SupplyKept (c.complianceOf g) := by
  have hon : c.SupplyKept (if c.aNow g fCompReduced then c else c.aOn g fCompReduced) := by
    split
    · exact .refl c
    · exact .of_chan (c.aOn_moves g _) hg (by decide)
  unfold Chip.complianceOf
  split
  · exact hon.trans (.of_chan (.put (ws := [0x0D]) _ g _ (by decide)) hg (by decide))
  · exact .of_chan (c.aOff_moves g _) hg (by decide)

theorem complianceSync_supply (c : Chip) {r : Nat} (hr : r < 8) : c.SupplyKept (c.complianceSync r) :=
  .each _ (fun d _ hg => complianceOf_supply d (chansOf_lt hr hg)) c

theorem endOpenLoad_supply (c : Chip) {g : Nat} (hg : g < 128) : c.SupplyKept (c.endOpenLoad g) := by
  unfold Chip.endOpenLoad
  split
  · exact (Chip.SupplyKept.of_chan (c.dOff_moves g _) hg (by decide)).trans (.record _ _ _ _ _ _ _)
  · exact .refl c

theorem gsOpen_supply (c : Chip) {r : Nat} (hr : r < 8) : c.SupplyKept (c.gsOpen r) := by
  refine .each _ (fun d g hm => ?_) c
  have hg := chansOf_lt hr hm
  exact ((Chip.SupplyKept.of_chan (d.endBackFed_moves g) hg (by decide)).trans (endOpenLoad_supply _ hg)).trans
    (.of_chan (.setChan _ g [] _) hg (by simp))

theorem gsUnpower_supply (c : Chip) {r : Nat} (hr : r < 8) : c.SupplyKept (c.gsUnpower r) := by
  refine .each _ (fun d g hm => ?_) c
  exact .of_chan (.when (.put (ws := [0x0D]) d g _ (by decide))) (chansOf_lt hr hm) (by decide)

theorem txHold_supply (c : Chip) {g : Nat} (hg : g < 128) : c.SupplyKept (c.txHold g) := by
  unfold Chip.txHold
  split
  · exact .of_chan (.put (ws := [0x0D]) c g _ (by decide)) hg (by decide)
  · exact .refl c

theorem gsPower_supply (c : Chip) {r : Nat} (hr : r < 8) : c.SupplyKept (c.gsPower r) := by
  refine .each _ (fun d g hm => ?_) c
  have hg := chansOf_lt hr hm
  split
  · exact .of_chan (d.raiseBellows_moves g _) hg (by decide)
  · exact txHold_supply d hg

theorem putStatus_supply (c : Chip) {g : Nat} (hg : g < 128) : c.SupplyKept (c.putStatus g) := .of_chan (c.putStatus_moves g) hg (by decide)

theorem resolve_supply (c : Chip) {g : Nat} (hg : g < 128) : c.SupplyKept (c.resolve g) := .of_chan (c.resolve_moves g) hg (by decide)

theorem survey_put_supply (c : Chip) {f : Field} (v : Nat) (hf : f.first < 65536) : c.SupplyKept (c.put surveyAt f v) := by
  refine ⟨rfl, fun a ha => Chip.word_put_other c v (fun e => ?_)⟩
  rw [supplyWord, supplyAt] at ha
  rw [Field.at_eq, surveyAt] at e
  omega

/-- A survey that is over gives its channels back and leaves the axes and the supplies. -/
theorem svyEnd_supply (c : Chip) (result off gain : Nat) : c.SupplyKept (c.svyEnd result off gain) ∧ (c.svyEnd result off gain).axes = c.axes := by
  unfold Chip.svyEnd
  split
  · exact ⟨.refl c, rfl⟩
  · next kind idx _ =>
    simp only []
    have hput := survey_put_supply c (f := Survey.result) result (by decide)
    refine ⟨.trans ?_ (.record _ _ _ _ _ _ _), (Chip.record_axes _ _ _ _ _ _ _).trans ?_⟩
    · split
      · refine hput.trans (.each _ (fun d g hm => ?_) _)
        have hg : g < 128 := List.mem_range.1 (List.mem_filter.1 hm).1
        exact (Chip.SupplyKept.of_chan (.setChan d g [] _) hg (by simp)).trans (putStatus_supply _ hg)
      · split
        · exact hput.trans ⟨rfl, fun _ _ => rfl⟩
        · exact hput
    · split
      · refine Chip.each_rel (R := fun c d => d.axes = c.axes) (fun _ => rfl) (fun _ _ _ h k => k.trans h) _ (fun d g hm => ?_) _
        obtain ⟨rg, cs, rc, he⟩ := ((Chip.ChanMoves.setChan d g statusOffs _).trans (Chip.putStatus_moves _ g)).frame
        exact congrArg (·.axes) he
      · split <;> rfl

theorem svyAbortRegion_supply (c : Chip) (r : Nat) : c.SupplyKept (c.svyAbortRegion r) ∧ (c.svyAbortRegion r).axes = c.axes := by
  unfold Chip.svyAbortRegion
  split
  · split
    · exact svyEnd_supply c 5 0 0
    · exact ⟨.refl c, rfl⟩
  · exact ⟨.refl c, rfl⟩

/-! ### LS (R77) -/

def Chip.lsStep (c : Chip) (b present : Bool) (mv : Nat) : Chip :=
  (c.put supplyAt (if b then Supply.ls_b else Supply.ls_a) (b2n present)).record 2 0xFF (b2n (!present)) (b2n b) [b2n (!present)] [mv]

theorem isBelow_of_lt {t mv : Nat} (h : mv < t) : isBelow t mv = true := decide_eq_true (by omega)

theorem isAtLeast_of_le {t mv : Nat} (h : t ≤ mv) : isAtLeast t mv = true := decide_eq_true (by omega)

theorem isAbove_of_lt {t mv : Nat} (h : t < mv) : isAbove t mv = true := decide_eq_true (by omega)

theorem isAtMost_of_le {t mv : Nat} (h : mv ≤ t) : isAtMost t mv = true := decide_eq_true (by omega)

theorem lsInputStep_to {s : State} {b present : Bool} {mv : BitVec 16} (hp : s.chip.phase ≠ 0)
    (hf : s.chip.flag supplyAt (if b then Supply.ls_b else Supply.ls_a) = !present)
    (hmv : if present then 17000 ≤ mv.toNat else mv.toNat < 16000) :
    exec (.lsInputStep b present mv) s = .next { s with chip := s.chip.lsStep b present mv.toNat } := by
  have hcross : (if present then isAtLeast 17000 mv.toNat else isBelow 16000 mv.toNat) = true := by
    cases present
    · exact isBelow_of_lt hmv
    · exact isAtLeast_of_le hmv
  refine chipOnly_to s (if_neg ?_)
  rw [hf, hcross, decide_eq_false hp]
  cases present <;> decide

theorem flag_put_bit (c : Chip) (b : Bool) {f : Field} (hs : f.sound = true) (h1 : f.hi = f.lo) : (c.put supplyAt f (b2n b)).flag supplyAt f = b := by
  have hw : f.hi + 1 - f.lo = 1 := by omega
  rw [Chip.flag, Chip.get_put_self _ _ _ hs, hw]
  cases b <;> rfl

theorem flag_of_get {c d : Chip} {f : Field} (h : d.get supplyAt f = c.get supplyAt f) : d.flag supplyAt f = c.flag supplyAt f := by
  rw [Chip.flag, h, Chip.flag]

theorem lsStep_flags (c : Chip) (b present : Bool) (mv : Nat) :
    (c.lsStep b present mv).flag supplyAt (if b then Supply.ls_b else Supply.ls_a) = present ∧
    (c.lsStep b present mv).flag supplyAt (if b then Supply.ls_a else Supply.ls_b) = c.flag supplyAt (if b then Supply.ls_a else Supply.ls_b) := by
  have hrec : ∀ f : Field, f.first < 18 → (c.lsStep b present mv).flag supplyAt f =
      (c.put supplyAt (if b then Supply.ls_b else Supply.ls_a) (b2n present)).flag supplyAt f := fun f hf =>
    flag_of_get ((Chip.SupplyKept.record _ _ _ _ _ _ _).get hf)
  cases b with
  | true => exact ⟨(hrec _ (by decide)).trans (flag_put_bit _ _ (by decide) rfl), (hrec _ (by decide)).trans
      (flag_of_get (Chip.get_put_clear _ _ _ (by decide)))⟩
  | false => exact ⟨(hrec _ (by decide)).trans (flag_put_bit _ _ (by decide) rfl), (hrec _ (by decide)).trans
      (flag_of_get (Chip.get_put_clear _ _ _ (by decide)))⟩

theorem lsStep_words (c : Chip) (b present : Bool) (mv : Nat) : c.WordsBut (fun a => a = supplyAt ∨ recorderWord a) (c.lsStep b present mv) := by
  have hat : (if b then Supply.ls_b else Supply.ls_a).at supplyAt 0 = supplyAt := by cases b <;> rfl
  exact (Chip.WordsBut.put c _ (.inl hat)).trans (.record _ _ _ _ _ _ _ (fun _ h => .inr h))

def Chip.lsBand (c : Chip) (high entered : Bool) (mv : Nat) : Chip :=
  ((c.put supplyAt (if high then Supply.ls_high else Supply.ls_low) (b2n entered)).when (!high) (·.setSys (fun y => { y with lsLowAt := c.now }))).record
    3 0xFF (b2n entered) 0 [if entered then (if high then 2 else 1) else 0] [mv]

theorem lsLowHighStep_to {s : State} {high entered : Bool} {mv : BitVec 16} (hp : s.chip.phase ≠ 0)
    (hmv : match high, entered with
        | false, true => mv.toNat < 18000
        | false, false => 18500 ≤ mv.toNat
        | true, true => 32500 < mv.toNat
        | true, false => mv.toNat ≤ 32000)
    (hf : s.chip.flag supplyAt (if high then Supply.ls_high else Supply.ls_low) = !entered) :
    exec (.lsLowHighStep high entered mv) s = .next { s with chip := s.chip.lsBand high entered mv.toNat } := by
  have hcross : (if high then (if entered then isAbove 32500 mv.toNat else isAtMost 32000 mv.toNat)
      else (if entered then isBelow 18000 mv.toNat else isAtLeast 18500 mv.toNat)) = true := by
    cases high <;> cases entered
    · exact isAtLeast_of_le hmv
    · exact isBelow_of_lt hmv
    · exact isAtMost_of_le hmv
    · exact isAbove_of_lt hmv
  refine chipOnly_to s (if_neg ?_)
  rw [hf, hcross, decide_eq_false hp]
  cases entered <;> decide

theorem lsBand_flag (c : Chip) (high entered : Bool) (mv : Nat) :
    (c.lsBand high entered mv).flag supplyAt (if high then Supply.ls_high else Supply.ls_low) = entered := by
  refine (flag_of_get ((Chip.SupplyKept.record _ _ _ _ _ _ _).get (by cases high <;> decide))).trans ?_
  cases high <;> exact flag_put_bit c entered (by decide) rfl

theorem lsBand_words (c : Chip) (high entered : Bool) (mv : Nat) :
    c.WordsBut (fun a => a = supplyAt ∨ recorderWord a) (c.lsBand high entered mv) := by
  have hat : (if high then Supply.ls_high else Supply.ls_low).at supplyAt 0 = supplyAt := by cases high <;> rfl
  have hwhen : (c.put supplyAt (if high then Supply.ls_high else Supply.ls_low) (b2n entered)).WordsBut (fun a => a = supplyAt ∨ recorderWord a)
      ((c.put supplyAt (if high then Supply.ls_high else Supply.ls_low) (b2n entered)).when (!high) (·.setSys (fun y => { y with lsLowAt := c.now }))) := by
    cases high <;> exact .of_regs rfl
  exact ((Chip.WordsBut.put c _ (.inl hat)).trans hwhen).trans (.record _ _ _ _ _ _ _ (fun _ h => .inr h))

/-! ### The steps of a GS (R78, R79) -/

/-- A digit of two bits among the digits of a word of 16 bits is replaced. -/
theorem twoBits_set {old v r : Nat} (hold : old < 2 ^ 16) (hv : v < 4) (hr : r < 8) :
    old - old / 4 ^ r % 4 * 4 ^ r + v * 4 ^ r < 2 ^ 16 ∧ (old - old / 4 ^ r % 4 * 4 ^ r + v * 4 ^ r) / 4 ^ r % 4 = v := by
  interval_cases r <;> simp only [Nat.reducePow] at * <;> omega

theorem setStep_step (g : GsSt) {n : Nat} (b : Bool) (h1 : 1 ≤ n) (h4 : n ≤ 4) {m : Nat} (hm : 1 ≤ m) (hm4 : m ≤ 4) :
    (g.setStep n b).step m = if m = n then b else g.step m := by
  interval_cases n <;> interval_cases m <;> rfl

/-- The conditions with one GS changed. -/
def Chip.gsTurned (c : Chip) (r n : Nat) (entered : Bool) (mv : Nat) : Chip :=
  c.setSys (fun s => { s with gs := upd s.gs r (fun g => { g.setStep n entered with lowAt := if isAtLeast 18000 mv then g.lowAt else c.now }) })

theorem gsTurned_gs (c : Chip) {r : Nat} (n : Nat) (entered : Bool) (mv : Nat) (hc : c.sys.gs.length = 8) (hr : r < 8) :
    (c.gsTurned r n entered mv).gs r = { (c.gs r).setStep n entered with lowAt := if isAtLeast 18000 mv then (c.gs r).lowAt else c.now } :=
  nth_upd_same _ _ _ _ (by omega)

theorem gsTurned_other (c : Chip) {r q : Nat} (n : Nat) (entered : Bool) (mv : Nat) (h : q ≠ r) : (c.gsTurned r n entered mv).gs q = c.gs q :=
  nth_upd_other _ _ _ h

/-- The word of the steps follows the deepest step of the region's GS. -/
def Chip.gsShown (c : Chip) (r : Nat) : Chip :=
  c.put supplyAt Supply.gs_step (c.get supplyAt Supply.gs_step - (c.get supplyAt Supply.gs_step / 4 ^ r % 4) * 4 ^ r + min (c.gs r).deepest 3 * 4 ^ r)

theorem gsShown_digit (c : Chip) {r : Nat} (hr : r < 8) : (c.gsShown r).get supplyAt Supply.gs_step / 4 ^ r % 4 = min (c.gs r).deepest 3 := by
  obtain ⟨hlt, hdigit⟩ := twoBits_set (Chip.get_lt c supplyAt Supply.gs_step) (Nat.lt_succ_of_le (Nat.min_le_right (c.gs r).deepest 3)) hr
  rw [Chip.gsShown, Chip.get_put_of_lt _ _ (by decide) hlt, hdigit]

theorem gsChange_eq (c : Chip) (r n : Nat) (entered : Bool) (mv : Nat) : c.gsChange r n entered mv =
    (((c.gsTurned r n entered mv).gsShown r).record 5 r (min ((c.gsTurned r n entered mv).gs r).deepest 2) r
      [((c.gsTurned r n entered mv).gs r).deepest, n, b2n entered] [mv]).complianceSync r := rfl

/-- What a step of a GS comes to: its own bits, the word of the steps, and nothing of any other GS. -/
structure Chip.GsStepped (r n : Nat) (entered : Bool) (c d : Chip) : Prop where
  now : (d.gs r).step n = entered
  rest : ∀ m, m ≠ n → 1 ≤ m → m ≤ 4 → (d.gs r).step m = (c.gs r).step m
  shown : d.get supplyAt Supply.gs_step / 4 ^ r % 4 = min (d.gs r).deepest 3
  others : ∀ q, q ≠ r → d.gs q = c.gs q

theorem Chip.GsStepped.of_kept {r n : Nat} {entered : Bool} {c d e : Chip} (h : c.GsStepped r n entered d) (k : d.SupplyKept e) :
    c.GsStepped r n entered e := by
  obtain ⟨hnow, hrest, hshown, hothers⟩ := h
  refine ⟨by rw [k.gs, hnow], fun m hm h1 h4 => by rw [k.gs, hrest m hm h1 h4], ?_, fun q hq => by rw [k.gs, hothers q hq]⟩
  rw [k.get (by decide), k.gs, hshown]

theorem gsChange_steps (c : Chip) {r n : Nat} (entered : Bool) (mv : Nat) (hc : c.sys.gs.length = 8) (hr : r < 8) (h1 : 1 ≤ n) (h4 : n ≤ 4) :
    c.GsStepped r n entered (c.gsChange r n entered mv) := by
  have hgs := gsTurned_gs c n entered mv hc hr
  have hshown : c.GsStepped r n entered ((c.gsTurned r n entered mv).gsShown r) := by
    refine ⟨?_, fun m hm hm1 hm4 => ?_, gsShown_digit _ hr, fun q hq => gsTurned_other c n entered mv hq⟩
    · refine (congrArg (fun g : GsSt => g.step n) hgs).trans ?_
      exact (setStep_step (c.gs r) entered h1 h4 h1 h4).trans (if_pos rfl)
    · refine (congrArg (fun g : GsSt => g.step m) hgs).trans ?_
      exact (setStep_step (c.gs r) entered h1 h4 hm1 hm4).trans (if_neg hm)
  rw [gsChange_eq]
  exact (hshown.of_kept (.record _ _ _ _ _ _ _)).of_kept (complianceSync_supply _ hr)

/-- What entry to a step, or its end, does to the region's channels. -/
def Chip.gsActs (c : Chip) (r n : Nat) (entered : Bool) : Chip :=
  if n = 3 then ((c.putBit supplyAt Supply.gs_off_seen r true).gsOpen r).svyAbortRegion r
  else if n = 4 then (if entered then c.gsUnpower r else c.gsPower r) else c

theorem gsStep_to {r : Fin 8} {step : Fin 4} {entered : Bool} {mv : BitVec 16} {s : State} (hp : s.chip.phase ≠ 0)
    (hf : s.chip.fitted r = true) (hs : (s.chip.gs r).step (step.val + 1) = !entered) (hoff : step ≠ 2 ∨ entered = true)
    (hmv : if entered then mv.toNat < [19000, 16000, 13000, 10000].getD step 0 else [19500, 16500, 18000, 18000].getD step 0 ≤ mv.toNat) :
    exec (.gsStep r step entered mv) s = .next { s with chip :=
      ((s.chip.gsChange r (step.val + 1) entered mv.toNat).gsActs r (step.val + 1) entered).each (chansOf r) Chip.putStatus } := by
  have hcross : gsCrosses (step.val + 1) entered mv.toNat = true := by
    cases entered
    · exact isAtLeast_of_le hmv
    · exact isBelow_of_lt hmv
  have hend : (step.val + 1 == 3 && !entered) = false := by
    rcases hoff with h | rfl
    · rw [beq_eq_false_iff_ne.2 (fun e => h (Fin.ext (by simpa using e))), Bool.false_and]
    · exact Bool.and_false _
  refine chipOnly_to s (if_neg ?_)
  rw [hf, hs, hcross, hend, decide_eq_false hp]
  cases entered <;> decide

theorem gsActs_steps {r n : Nat} {entered : Bool} {c d : Chip} (h : c.GsStepped r n entered d) (hr : r < 8) :
    c.GsStepped r n entered (d.gsActs r n entered) := by
  unfold Chip.gsActs
  split
  · have hseen : c.GsStepped r n entered (d.putBit supplyAt Supply.gs_off_seen r true) :=
      ⟨h.now, h.rest, by rw [Chip.putBit, Chip.get_put_clear _ _ _ (by decide)]; exact h.shown, h.others⟩
    exact (hseen.of_kept (gsOpen_supply _ hr)).of_kept (svyAbortRegion_supply _ r).1
  split
  · split
    · exact h.of_kept (gsUnpower_supply _ hr)
    · exact h.of_kept (gsPower_supply _ hr)
  · exact h

/-- A DO takes what the precedence gives once its supply is back. -/
def Chip.gsResume (c : Chip) (g : Nat) : Chip :=
  (if doMode ((c.setChan g (fun h => { h with judgeAt := c.now + 100000 })).mode g) &&
      ((c.setChan g (fun h => { h with judgeAt := c.now + 100000 })).chan g).driven &&
      !((c.setChan g (fun h => { h with judgeAt := c.now + 100000 })).chan g).safety then
    (c.setChan g (fun h => { h with judgeAt := c.now + 100000 })).resolve g
  else c.setChan g (fun h => { h with judgeAt := c.now + 100000 })).putStatus g

theorem gsResume_supply (c : Chip) {g : Nat} (hg : g < 128) : c.SupplyKept (c.gsResume g) := by
  have hset : c.SupplyKept (c.setChan g (fun h => { h with judgeAt := c.now + 100000 })) := .of_chan (.setChan c g [] _) hg (by simp)
  unfold Chip.gsResume
  split
  · exact (hset.trans (resolve_supply _ hg)).trans (putStatus_supply _ hg)
  · exact hset.trans (putStatus_supply _ hg)

theorem gsOffQualified_to {r : Fin 8} {mv : BitVec 16} {s : State} (hoff : (s.chip.gs r).off = true) (habs : (s.chip.gs r).absent = false)
    (hmv : 18000 ≤ mv.toNat) (ht : (s.chip.gs r).lowAt + 100000 ≤ s.chip.now) :
    exec (.gsOffQualified r mv) s = .next { s with chip := (s.chip.gsChange r 3 false mv.toNat).each (chansOf r) Chip.gsResume } := by
  have hcross : gsCrosses 3 false mv.toNat = true := isAtLeast_of_le hmv
  exact chipOnly_to s (if_neg (by rw [hoff, habs, hcross, decide_eq_false (Nat.not_lt.2 ht)]; decide))

/-! ### MS (R77) -/

/-- The chip whose axis has its causes anew. -/
def Chip.caused (c : Chip) (x causes : Nat) : Chip := c.setAx x (fun h => { h with causes := causes })

theorem stageSet_eq (c : Chip) (x causes : Nat) : c.stageSet x causes =
    (if (c.stageOn x && !(c.caused x causes).stageOn x) = true then (c.caused x causes).stageLost x 11
     else if (!c.stageOn x && (c.caused x causes).stageOn x) = true then (c.caused x causes).stageBack x
     else c.caused x causes).axSync x := rfl

/-- A stage that was on has no cause against it, so that taking one away leaves it on. -/
theorem caused_on {c : Chip} {x n : Nat} (hc : c.axes.length = 16) (hx : x < 16) (h : c.stageOn x = true) :
    (c.caused x (withBit (c.ax x).causes n false)).stageOn x = true := by
  rw [Chip.stageOn, Bool.and_eq_true, Bool.and_eq_true] at h
  obtain ⟨⟨hu, hz⟩, hf⟩ := h
  have hax : (c.caused x (withBit (c.ax x).causes n false)).ax x = { c.ax x with causes := withBit (c.ax x).causes n false } :=
    Chip.ax_setAx _ _ hc hx
  have h0 : withBit (c.ax x).causes n false = 0 := by
    refine Nat.eq_of_testBit_eq (fun j => ?_)
    rw [eq_of_beq hz, testBit_withBit, Nat.zero_testBit]
    exact ite_self false
  rw [Chip.stageOn, hax, h0]
  exact Bool.and_eq_true_iff.2 ⟨Bool.and_eq_true_iff.2 ⟨hu, rfl⟩, hf⟩

/-- A cause that is set or taken away stands so, whatever the stage does with it. -/
theorem stageCause_bit (c : Chip) {x n : Nat} (on : Bool) (hc : c.axes.length = 16) (hx : x < 16) :
    ((c.stageCause x n on).ax x).causes.testBit n = on := by
  have hax : (c.caused x (withBit (c.ax x).causes n on)).ax x = { c.ax x with causes := withBit (c.ax x).causes n on } :=
    Chip.ax_setAx _ _ hc hx
  have hlen : (c.caused x (withBit (c.ax x).causes n on)).axes.length = 16 := (upd_length _ _ _).trans hc
  have hbit : ((c.caused x (withBit (c.ax x).causes n on)).ax x).causes.testBit n = on := by
    rw [hax]
    exact (testBit_withBit _ _ _ _).trans (if_pos rfl)
  rw [Chip.stageCause, stageSet_eq]
  split
  · next hlost =>
    have hon : on = true := by
      by_contra hoff
      rw [Bool.not_eq_true] at hoff
      rw [Bool.and_eq_true, hoff] at hlost
      rw [caused_on hc hx hlost.1] at hlost
      exact absurd hlost.2 (by decide)
    have hcauses := (Chip.stageLost_ax _ 11 hlen hx).2.2.2
    have hl2 := (((Chip.AxMoves.refl x _).stageLost (d := c.caused x (withBit (c.ax x).causes n on)) 11).size).trans hlen
    rw [(Chip.axSync_same _ hl2 hx).causes, hcauses, Nat.testBit_or, hbit, hon, Bool.true_or]
  split
  · have hb := Chip.ax_setAx (c.caused x (withBit (c.ax x).causes n on)) (fun h => { h with
      holding := true, stillAt := (c.caused x (withBit (c.ax x).causes n on)).now, mode := if h.owned then 5 else 1
      motion := if h.owned then .speed else .still }) hlen hx
    have hl3 := (((Chip.AxMoves.refl x _).stageBack (d := c.caused x (withBit (c.ax x).causes n on))).size).trans hlen
    rw [(Chip.axSync_same _ hl3 hx).causes, Chip.stageBack, (Chip.quietTake_same _ ((upd_length _ _ _).trans hlen) hx).causes, hb]
    exact hbit
  · rw [(Chip.axSync_same _ hlen hx).causes]
    exact hbit

/-- The word of the steps of MS with one region's digit replaced. -/
def Chip.msShown (c : Chip) (m r what : Nat) : Chip :=
  c.put supplyAt Supply.ms_step (m - m / 4 ^ r % 4 * 4 ^ r + what * 4 ^ r)

/-- A change of MS as it is recorded, one of high to low or back as two. -/
def Chip.msNoted (c : Chip) (r : Nat) (what : Fin 3) (mv : Nat) : Chip :=
  (((c.when (c.get supplyAt Supply.ms_step / 4 ^ r % 4 != 0 && what != 0) (·.record 6 r 0 r [0] [mv])).msShown
    (c.get supplyAt Supply.ms_step) r what.val).record 6 r (if what = 0 then 0 else 2) r [what.val] [mv])

/-- Both stages of the region follow. -/
def Chip.msActs (c : Chip) (r : Nat) (on : Bool) : Chip :=
  if on then ((c.stageCause (2 * r) 3 on).stageCause (2 * r + 1) 3 on).svyAbortRegion r
  else (c.stageCause (2 * r) 3 on).stageCause (2 * r + 1) 3 on

theorem msStep_to {r : Fin 8} {what : Fin 3} {mv : BitVec 16} {s : State} (hp : s.chip.phase ≠ 0) (hf : s.chip.fitted r = true)
    (hold : s.chip.get supplyAt Supply.ms_step / 4 ^ r.val % 4 ≠ what)
    (hmv : if what = 0 then 21000 ≤ mv.toNat ∧ mv.toNat ≤ 50000 else if what = 1 then mv.toNat < 20000 else 52000 < mv.toNat) :
    exec (.msStep r what mv) s = .next { s with chip := (s.chip.msNoted r what mv.toNat).msActs r (what != 0) } := by
  have hcross : msCrosses (s.chip.get supplyAt Supply.ms_step / 4 ^ r.val % 4) what.val mv.toNat = true := by
    fin_cases what
    · obtain ⟨hlo, hhi⟩ : 21000 ≤ mv.toNat ∧ mv.toNat ≤ 50000 := hmv
      have h1 : (isAtLeast 21000 mv.toNat && isAtMost 52000 mv.toNat) = true := by
        rw [isAtLeast_of_le hlo, isAtMost_of_le (by omega)]
        rfl
      have h2 : (isAtMost 50000 mv.toNat && isAtLeast 20000 mv.toNat) = true := by
        rw [isAtMost_of_le hhi, isAtLeast_of_le (by omega)]
        rfl
      refine (if_neg (by decide)).trans ((if_neg (by decide)).trans ?_)
      split
      · exact h1
      · exact h2
    · exact (if_pos rfl).trans (isBelow_of_lt hmv)
    · exact (if_neg (by decide)).trans ((if_pos rfl).trans (isAbove_of_lt hmv))
  exact chipOnly_to s (if_neg (by rw [hf, hcross, decide_eq_false hp, decide_eq_false hold]; decide))

theorem msNoted_digit (c : Chip) {r : Nat} (what : Fin 3) (mv : Nat) (hr : r < 8) :
    (c.msNoted r what mv).get supplyAt Supply.ms_step / 4 ^ r % 4 = what := by
  obtain ⟨hlt, hdigit⟩ := twoBits_set (Chip.get_lt c supplyAt Supply.ms_step) (Nat.lt_trans what.isLt (by decide)) hr
  rw [Chip.msNoted, (Chip.SupplyKept.record _ _ _ _ _ _ _).get (by decide), Chip.msShown, Chip.get_put_of_lt _ _ (by decide) hlt, hdigit]

theorem msNoted_axes (c : Chip) (r : Nat) (what : Fin 3) (mv : Nat) : (c.msNoted r what mv).axes = c.axes := by
  refine (Chip.record_axes _ _ _ _ _ _ _).trans ?_
  unfold Chip.msShown Chip.when
  split
  · exact Chip.record_axes _ _ _ _ _ _ _
  · rfl

theorem msActs_stages (c : Chip) {r : Nat} (on : Bool) (hr : r < 8) :
    c.SupplyKept (c.msActs r on) ∧ (c.msActs r on).axes = ((c.stageCause (2 * r) 3 on).stageCause (2 * r + 1) 3 on).axes := by
  have hboth : c.SupplyKept ((c.stageCause (2 * r) 3 on).stageCause (2 * r + 1) 3 on) :=
    (Chip.SupplyKept.of_axis ((Chip.AxMoves.refl _ c).stageCause 3 on) (by omega)).trans
      (.of_axis ((Chip.AxMoves.refl _ _).stageCause 3 on) (by omega))
  unfold Chip.msActs
  split
  · obtain ⟨hs, ha⟩ := svyAbortRegion_supply ((c.stageCause (2 * r) 3 on).stageCause (2 * r + 1) 3 on) r
    exact ⟨hboth.trans hs, ha⟩
  · exact ⟨hboth, rfl⟩

/-- Outside normal MS both stages of the region are held off, and only there. -/
theorem msActs_causes (c : Chip) {r : Nat} (on : Bool) (hc : c.axes.length = 16) (hr : r < 8) :
    ((c.msActs r on).ax (2 * r)).causes.testBit 3 = on ∧ ((c.msActs r on).ax (2 * r + 1)).causes.testBit 3 = on := by
  have hm := (Chip.AxMoves.refl (2 * r) c).stageCause 3 on
  have hm' := (Chip.AxMoves.refl (2 * r + 1) (c.stageCause (2 * r) 3 on)).stageCause 3 on
  have hax : ∀ y, (c.msActs r on).ax y = ((c.stageCause (2 * r) 3 on).stageCause (2 * r + 1) 3 on).ax y :=
    fun y => Chip.ax_congr (msActs_stages c on hr).2 y
  rw [hax, hax, hm'.others _ (by omega)]
  exact ⟨stageCause_bit c on hc (by omega), stageCause_bit _ on (hm.size.trans hc) (by omega)⟩

/-! ### Measurements (R89, R91) -/

/-- The measured words of the module. -/
def Chip.measured (c : Chip) (lsA lsB lsOr core scap bpTemp : BitVec 16) : Chip :=
  ((((((c.put supplyAt Supply.ls_a_mv lsA.toNat).put supplyAt Supply.ls_b_mv lsB.toNat).put supplyAt Supply.ls_or_mv lsOr.toNat).put
    supplyAt Supply.core_mv core.toNat).put supplyAt Supply.scap_mv scap.toNat).put supplyAt Supply.bp_temp bpTemp.toNat).put supplyAt
    Supply.scap_low (b2n (decide (scap.toNat < 2500)))

/-- The measured words of a region. -/
def Chip.regionMeasured (gs ms : List (BitVec 16)) (c : Chip) (r : Nat) : Chip :=
  (c.putI supplyAt Supply.gs_mv r ((gs.getD r 0).toNat)).putI supplyAt Supply.ms_mv r ((ms.getD r 0).toNat)

/-- A back plate that grows too hot, or cools, is noted and recorded. -/
def Chip.plateNoted (c : Chip) (hot : Bool) (t : Int) : Chip :=
  if 1120 < t && !hot then ({ c with aon := { c.aon with bpHot := true } } : Chip).record 10 0xFF 1 0 [1] [unsigned 32 t]
  else if t < 1088 && hot then ({ c with aon := { c.aon with bpHot := false } } : Chip).record 10 0xFF 0 0 [0] [unsigned 32 t]
  else c

theorem measurement_to {lsA lsB lsOr core scap bpTemp : BitVec 16} {gs ms : List (BitVec 16)} {s : State} (hp : s.chip.phase ≠ 0)
    (ht : s.chip.now % 10000 = 0) : exec (.supplyMeasurementUpdate lsA lsB lsOr core scap bpTemp gs ms) s = .next { s with chip :=
      ((((s.chip.measured lsA lsB lsOr core scap bpTemp).each s.chip.regions (Chip.regionMeasured gs ms)).noteLow lsOr.toNat gs).plateNoted
        s.chip.aon.bpHot (signed 16 bpTemp.toNat)) } :=
  chipOnly_to s (if_neg (by rw [ht, decide_eq_false hp]; decide))

theorem plateNoted_words (c : Chip) (hot : Bool) (t : Int) : c.WordsBut recorderWord (c.plateNoted hot t) := by
  have hrec : ∀ (h : Bool) severity bs ws, c.WordsBut recorderWord
      (({ c with aon := { c.aon with bpHot := h } } : Chip).record 10 0xFF severity 0 bs ws) := fun h _ _ _ =>
    Chip.WordsBut.trans (d := ({ c with aon := { c.aon with bpHot := h } } : Chip)) (.of_regs rfl) (.record _ _ _ _ _ _ _ (fun _ k => k))
  unfold Chip.plateNoted
  split
  · exact hrec true _ _ _
  split
  · exact hrec false _ _ _
  · exact .refl _ c

/-- The words of the supply block that a measurement takes. -/
def measuredWord (a : Nat) : Prop := supplyAt ≤ a ∧ a < supplyAt + 14

theorem measuredWord_at {f : Field} {i : Nat} (h : f.first + i * f.stride < 14) : measuredWord (f.at supplyAt i) := by
  rw [measuredWord, Field.at_eq]
  omega

theorem measured_words (c : Chip) (lsA lsB lsOr core scap bpTemp : BitVec 16) :
    c.WordsBut measuredWord (c.measured lsA lsB lsOr core scap bpTemp) := by
  have hput : ∀ (d : Chip) (f : Field) v, f.first < 14 → d.WordsBut measuredWord (d.put supplyAt f v) := fun d f v hf =>
    .put d v (measuredWord_at (by omega))
  exact ((((((hput _ _ _ (by decide)).trans (hput _ _ _ (by decide))).trans (hput _ _ _ (by decide))).trans (hput _ _ _ (by decide))).trans
    (hput _ _ _ (by decide))).trans (hput _ _ _ (by decide))).trans (hput _ _ _ (by decide))

theorem regionMeasured_words (gs ms : List (BitVec 16)) (c : Chip) {r : Nat} (hr : r < 8) :
    c.WordsBut (fun a => a = supplyAt + 3 + r) (Chip.regionMeasured gs ms c r) := by
  have hat : ∀ f, f = Supply.gs_mv ∨ f = Supply.ms_mv → f.at supplyAt r = supplyAt + 3 + r := by
    rintro f (rfl | rfl) <;> simp [Field.at, Supply.gs_mv, Supply.ms_mv, Field.many]
  exact (Chip.WordsBut.putI (b := supplyAt) (f := Supply.gs_mv) c _ (hat _ (.inl rfl))).trans
    (.putI (b := supplyAt) (f := Supply.ms_mv) _ _ (hat _ (.inr rfl)))

theorem regionMeasured_own (gs ms : List (BitVec 16)) (c : Chip) (r : Nat) :
    (Chip.regionMeasured gs ms c r).getI supplyAt Supply.gs_mv r = (gs.getD r 0).toNat ∧
    (Chip.regionMeasured gs ms c r).getI supplyAt Supply.ms_mv r = (ms.getD r 0).toNat := by
  refine ⟨?_, Chip.getI_putI_of_lt _ _ _ (by decide) (ms.getD r 0).isLt⟩
  refine (Chip.getI_putI_apart _ _ _ _ _ _ _ _ (by decide) (by decide) (.inr (.inl (by decide)))).trans ?_
  exact Chip.getI_putI_of_lt _ _ _ (by decide) (gs.getD r 0).isLt

/-- Each region of a list has its own measurements, whatever the others take. -/
theorem regionsMeasured {gs ms : List (BitVec 16)} {r : Nat} (hr : r < 8) (l : List Nat) (hl : ∀ q ∈ l, q < 8) (c : Chip) (hm : r ∈ l) :
    (c.each l (Chip.regionMeasured gs ms)).getI supplyAt Supply.gs_mv r = (gs.getD r 0).toNat ∧
    (c.each l (Chip.regionMeasured gs ms)).getI supplyAt Supply.ms_mv r = (ms.getD r 0).toNat := by
  induction l using List.reverseRecOn generalizing c with
  | nil => exact absurd hm (by simp)
  | append_singleton l q ih =>
    have hsnoc : c.each (l ++ [q]) (Chip.regionMeasured gs ms) = Chip.regionMeasured gs ms (c.each l (Chip.regionMeasured gs ms)) q := by
      rw [Chip.each, List.foldl_append]
      rfl
    rw [hsnoc]
    by_cases hq : r = q
    · rw [hq]
      exact regionMeasured_own gs ms _ q
    · have hkeep : ∀ f, f = Supply.gs_mv ∨ f = Supply.ms_mv → (Chip.regionMeasured gs ms (c.each l (Chip.regionMeasured gs ms)) q).getI supplyAt f r =
          (c.each l (Chip.regionMeasured gs ms)).getI supplyAt f r := by
        intro f hf
        refine Chip.getI_congr (regionMeasured_words gs ms _ (hl q (by simp)) _ ?_)
        have hat : f.at supplyAt r = supplyAt + 3 + r := by rcases hf with rfl | rfl <;> simp [Field.at, Supply.gs_mv, Supply.ms_mv, Field.many]
        rw [hat]
        omega
      have hmem : r ∈ l := (List.mem_append.1 hm).resolve_right (fun h => hq (List.mem_singleton.1 h))
      obtain ⟨hg, hms⟩ := ih (fun x hx => hl x (List.mem_append_left _ hx)) c hmem
      exact ⟨(hkeep _ (.inl rfl)).trans hg, (hkeep _ (.inr rfl)).trans hms⟩

theorem regions_lt (c : Chip) : ∀ q ∈ c.regions, q < 8 := fun _ h => List.mem_range.1 (List.mem_filter.1 h).1

/-- A word of the block that no region's measurement takes. -/
theorem regionsMeasured_get (gs ms : List (BitVec 16)) (c d : Chip) {f : Field} (hf : f.first < 3 ∨ 11 ≤ f.first) :
    (d.each c.regions (Chip.regionMeasured gs ms)).get supplyAt f = d.get supplyAt f := by
  refine Chip.each_rel (R := fun c d => d.get supplyAt f = c.get supplyAt f) (fun _ => rfl) (fun _ _ _ h k => k.trans h) _ (fun e q hq => ?_) d
  have hq8 := regions_lt c q hq
  refine (regionMeasured_words gs ms e hq8).get ?_
  rw [Field.at_eq]
  omega

theorem regionsMeasured_words (gs ms : List (BitVec 16)) (c d : Chip) :
    d.WordsBut measuredWord (d.each c.regions (Chip.regionMeasured gs ms)) := by
  refine Chip.each_rel (R := fun c d => c.WordsBut measuredWord d) (.refl _) (fun _ _ _ h k => h.trans k) _ (fun e q hq => ?_) d
  have hq8 := regions_lt c q hq
  refine (regionMeasured_words gs ms e hq8).mono (fun a ha => ?_)
  rw [measuredWord]
  omega

section
variable (c : Chip) (lsA lsB lsOr core scap bpTemp : BitVec 16)

theorem measured_lsA : (c.measured lsA lsB lsOr core scap bpTemp).get supplyAt Supply.ls_a_mv = lsA.toNat := by
  rw [Chip.measured, Chip.get_put_clear _ _ _ (by decide), Chip.get_put_clear _ _ _ (by decide), Chip.get_put_clear _ _ _ (by decide),
    Chip.get_put_clear _ _ _ (by decide), Chip.get_put_clear _ _ _ (by decide), Chip.get_put_clear _ _ _ (by decide)]
  exact Chip.get_put_of_lt _ _ (by decide) lsA.isLt

theorem measured_lsB : (c.measured lsA lsB lsOr core scap bpTemp).get supplyAt Supply.ls_b_mv = lsB.toNat := by
  rw [Chip.measured, Chip.get_put_clear _ _ _ (by decide), Chip.get_put_clear _ _ _ (by decide), Chip.get_put_clear _ _ _ (by decide),
    Chip.get_put_clear _ _ _ (by decide), Chip.get_put_clear _ _ _ (by decide)]
  exact Chip.get_put_of_lt _ _ (by decide) lsB.isLt

theorem measured_lsOr : (c.measured lsA lsB lsOr core scap bpTemp).get supplyAt Supply.ls_or_mv = lsOr.toNat := by
  rw [Chip.measured, Chip.get_put_clear _ _ _ (by decide), Chip.get_put_clear _ _ _ (by decide), Chip.get_put_clear _ _ _ (by decide),
    Chip.get_put_clear _ _ _ (by decide)]
  exact Chip.get_put_of_lt _ _ (by decide) lsOr.isLt

theorem measured_core : (c.measured lsA lsB lsOr core scap bpTemp).get supplyAt Supply.core_mv = core.toNat := by
  rw [Chip.measured, Chip.get_put_clear _ _ _ (by decide), Chip.get_put_clear _ _ _ (by decide), Chip.get_put_clear _ _ _ (by decide)]
  exact Chip.get_put_of_lt _ _ (by decide) core.isLt

theorem measured_scap : (c.measured lsA lsB lsOr core scap bpTemp).get supplyAt Supply.scap_mv = scap.toNat := by
  rw [Chip.measured, Chip.get_put_clear _ _ _ (by decide), Chip.get_put_clear _ _ _ (by decide)]
  exact Chip.get_put_of_lt _ _ (by decide) scap.isLt

theorem measured_plate : (c.measured lsA lsB lsOr core scap bpTemp).get supplyAt Supply.bp_temp = bpTemp.toNat := by
  rw [Chip.measured, Chip.get_put_clear _ _ _ (by decide)]
  exact Chip.get_put_of_lt _ _ (by decide) bpTemp.isLt

theorem measured_low : (c.measured lsA lsB lsOr core scap bpTemp).get supplyAt Supply.scap_low = b2n (decide (scap.toNat < 2500)) :=
  Chip.get_put_of_lt _ _ (by decide) (by cases decide (scap.toNat < 2500) <;> decide)

end

/-- Settles O7: supply steps and measurements. -/
theorem supplySteps : Obligations.SupplySteps := by
  intro s hs hp
  refine ⟨fun b present mv hf hmv => ?_, fun high entered mv hf hmv => ?_, fun r step entered mv hf hst hoff hmv => ?_,
    fun r mv hoff habs hmv ht => ?_, fun r what mv hf hold hmv => ?_, fun lsA lsB lsOr core scap bpTemp gs ms ht => ?_⟩
  · obtain ⟨hown, hother⟩ := lsStep_flags s.chip b present mv.toNat
    exact ⟨_, lsInputStep_to hp hf hmv, hown, hother, .chip s _, (lsStep_words _ _ _ _).kept⟩
  · exact ⟨_, lsLowHighStep_to hp hmv hf, lsBand_flag _ _ _ _, .chip s _, (lsBand_words _ _ _ _).kept⟩
  · have hstep := gsActs_steps (gsChange_steps s.chip entered mv.toNat hs.sized.gs r.isLt (Nat.succ_pos _) (Nat.succ_le_of_lt step.isLt)) r.isLt
    obtain ⟨hnow, hrest, hshown, hothers⟩ := hstep.of_kept (.each (chansOf r) (fun d g hg => putStatus_supply d (chansOf_lt r.isLt hg)) _)
    exact ⟨_, gsStep_to hp hf hst hoff hmv, hnow, hrest, hshown, hothers, .chip s _⟩
  · have hstep := gsChange_steps s.chip false mv.toNat hs.sized.gs r.isLt (n := 3) (by decide) (by decide)
    obtain ⟨hnow, hrest, -, hothers⟩ := hstep.of_kept (.each (chansOf r) (fun d g hg => gsResume_supply d (chansOf_lt r.isLt hg)) _)
    exact ⟨_, gsOffQualified_to hoff habs hmv ht, hnow, hrest 1 (by decide) (by decide) (by decide), hrest 2 (by decide) (by decide) (by decide),
      hothers, .chip s _⟩
  · obtain ⟨hlow, hhigh⟩ := msActs_causes (s.chip.msNoted r what mv.toNat) (what != 0) ((congrArg List.length (msNoted_axes _ _ _ _)).trans hs.axes)
      r.isLt
    have hkept := (msActs_stages (s.chip.msNoted r what mv.toNat) (what != 0) r.isLt).1
    refine ⟨_, msStep_to hp hf hold hmv, ?_, hlow, hhigh, .chip s _⟩
    rw [hkept.get (by decide)]
    exact msNoted_digit _ _ _ r.isLt
  · have hplate := plateNoted_words (((s.chip.measured lsA lsB lsOr core scap bpTemp).each s.chip.regions (Chip.regionMeasured gs ms)).noteLow
      lsOr.toNat gs) s.chip.aon.bpHot (signed 16 bpTemp.toNat)
    have hword : ∀ a, supplyWord a → _ = ((s.chip.measured lsA lsB lsOr core scap bpTemp).each s.chip.regions (Chip.regionMeasured gs ms)).word a :=
      fun a ha => hplate a (fun hr => absurd ((supplyWord_space ha).symm.trans hr) (by decide))
    have hget : ∀ f : Field, f.first < 3 ∨ 11 ≤ f.first ∧ f.first < 18 → _ = (s.chip.measured lsA lsB lsOr core scap bpTemp).get supplyAt f :=
      fun f hf => (Chip.get_congr (hword _ (supplyWord_at (by omega)))).trans (regionsMeasured_get gs ms s.chip _ (by omega))
    refine ⟨_, measurement_to hp ht, (hget _ (by decide)).trans (measured_lsA _ _ _ _ _ _ _), (hget _ (by decide)).trans (measured_lsB _ _ _ _ _ _ _),
      (hget _ (by decide)).trans (measured_lsOr _ _ _ _ _ _ _), (hget _ (by decide)).trans (measured_core _ _ _ _ _ _ _),
      (hget _ (by decide)).trans (measured_scap _ _ _ _ _ _ _), (hget _ (by decide)).trans (measured_plate _ _ _ _ _ _ _),
      (hget _ (by decide)).trans (measured_low _ _ _ _ _ _ _), fun r hf => ?_, .chip s _, ?_⟩
    · obtain ⟨hg, hm⟩ := regionsMeasured (gs := gs) (ms := ms) r.isLt s.chip.regions (regions_lt _) (s.chip.measured lsA lsB lsOr core scap bpTemp)
        (List.mem_filter.2 ⟨List.mem_range.2 r.isLt, hf⟩)
      have hlt : ∀ f, f = Supply.gs_mv ∨ f = Supply.ms_mv → f.first + r.val * f.stride < 18 := by
        rintro f (rfl | rfl)
        · change 3 + r.val * 1 < 18
          omega
        · change 3 + r.val * 1 < 18
          omega
      exact ⟨(Chip.getI_congr (hword _ (supplyWord_at (hlt _ (.inl rfl))))).trans hg,
        (Chip.getI_congr (hword _ (supplyWord_at (hlt _ (.inr rfl))))).trans hm⟩
    · exact Chip.WordsBut.kept ((((measured_words s.chip lsA lsB lsOr core scap bpTemp).trans (regionsMeasured_words gs ms s.chip _)).mono
        (fun _ h => .inl h)).trans (hplate.mono (fun _ h => .inr h)))

end Sys2Proof.Machine
end

section
/-! SUPPORT. What a frame on the station ports hangs on and changes (R435, R436). -/

namespace Sys2Proof.Machine

/-! ### What a frame on the station ports hangs on -/

/-- The fields that decide which station ports are up and what stands before a frame. -/
def stationFields : List (Nat × Field) :=
  [(identAt, Ident.fitted), (regionAt 0, Region.fenced), (regionAt 1, Region.fenced), (surveyAt, Survey.station_oos),
    (surveyAt, Survey.phase), (slinkAt, SLink.na_speed), (slinkAt, SLink.nb_speed), (slinkAt, SLink.vid), (slinkAt, SLink.prio)]

/-- The words they stand in. -/
def stationWords : List Nat := stationFields.map (fun p => p.2.at p.1 0)

/-- `d` sends its frames as `c` would. -/
structure Chip.StationsAs (c d : Chip) : Prop where
  fields : ∀ p ∈ stationFields, d.get p.1 p.2 = c.get p.1 p.2
  sys : d.sys = c.sys
  seq : d.net.rctSeq = c.net.rctSeq

namespace Chip.StationsAs

variable {c d e : Chip}

theorem refl (c : Chip) : c.StationsAs c := ⟨fun _ _ => rfl, rfl, rfl⟩

theorem trans (h : c.StationsAs d) (k : d.StationsAs e) : c.StationsAs e :=
  ⟨fun p hp => (k.fields p hp).trans (h.fields p hp), k.sys.trans h.sys, k.seq.trans h.seq⟩

theorem of_words {P : Nat → Prop} (h : c.WordsBut P d) (hP : ∀ a ∈ stationWords, ¬ P a) (hs : d.sys = c.sys)
    (hq : d.net.rctSeq = c.net.rctSeq) : c.StationsAs d := 
  ⟨fun _ hp => h.get (hP _ (List.mem_map_of_mem hp)), hs, hq⟩

/-- A field that shares no bit with theirs. -/
theorem put (c : Chip) {b : Nat} {f : Field} (v : Nat) (h : ∀ p ∈ stationFields, f.apart b 0 p.2 p.1 0) (hf : f.sound = true) :
    c.StationsAs (c.put b f v) := by
  obtain ⟨hl, hh⟩ := Field.sound_iff.1 hf
  exact ⟨fun p hp => Chip.get_put_apart c b f v p.1 p.2 hl hh (h p hp), rfl, rfl⟩

theorem get (h : c.StationsAs d) {b : Nat} {f : Field} (hm : (b, f) ∈ stationFields) : d.get b f = c.get b f := h.fields _ hm

theorem up (h : c.StationsAs d) {p : Nat} (hp : p < 2) : d.stationUp p = c.stationUp p := by
  have hbit : ∀ {b : Nat} {f : Field}, (b, f) ∈ stationFields → ∀ i, d.getBit b f i = c.getBit b f i := fun hm i =>
    congrArg (fun n : Nat => n.testBit i) (h.get hm)
  have hready : d.stationReady p = c.stationReady p := by
    have hfence : d.blockFenced p 14 = c.blockFenced p 14 := by
      interval_cases p
      · exact hbit (by decide) 14
      · exact hbit (by decide) 14
    have hfit : d.fitted p = c.fitted p := hbit (by decide) p
    rw [stationReady, stationReady, hfence, hfit, Chip.regionFenced, Chip.regionFenced, Chip.clkLost, Chip.clkLost, h.sys, hbit (by decide) p]
  have hspeed : d.get slinkAt (if p = 0 then SLink.na_speed else SLink.nb_speed) = c.get slinkAt (if p = 0 then SLink.na_speed else SLink.nb_speed) := by
    split
    · exact h.get (by decide)
    · exact h.get (by decide)
  rw [stationUp, stationUp, hready, hspeed]

theorem ports (h : c.StationsAs d) : (List.range 2).filter d.stationUp = (List.range 2).filter c.stationUp :=
  List.filter_congr (fun _ hp => h.up (List.mem_range.1 hp))

theorem any (h : c.StationsAs d) : d.anyStation = c.anyStation := by
  rw [anyStation, anyStation, h.up (by decide), h.up (by decide)]

theorem frame (h : c.StationsAs d) (p : Nat) (bs : List Nat) : d.netFrame p bs = c.netFrame p bs := by
  have hvid : d.vidNow = c.vidNow := by
    rw [vidNow, vidNow, phase, phase, h.get (by decide), h.get (by decide)]
  have htag : d.vlanTag = c.vlanTag := by
    rw [vlanTag, vlanTag, hvid, h.get (by decide)]
  rw [netFrame, netFrame, htag, h.seq]

theorem onStations (h : c.StationsAs d) (kind : Nat) (bs : List Nat) : d.onStations kind bs = c.onStations kind bs := by
  rw [Chip.onStations, Chip.onStations, h.ports]
  exact List.map_congr_left (fun p _ => congrArg (Emit.net kind) (h.frame p bs))

end Chip.StationsAs

/-- The words that a frame on a station port may change: those of counter blocks, and the count of what the tongs of a station region
refuse (R58). -/
def netWord (a : Nat) : Prop := counterWord a ∨ a = Cross.refused.at (regionAt 0) 3 ∨ a = Cross.refused.at (regionAt 1) 3

theorem netWord_space {a : Nat} (h : netWord a) : spaceOf a < 8 := by
  rcases h with ⟨h, -⟩ | rfl | rfl
  · exact h
  · decide
  · decide

theorem not_netWord {a : Nat} (h : 8 ≤ spaceOf a) : ¬ netWord a := fun hn => absurd (netWord_space hn) (Nat.not_lt.2 h)

theorem stationWords_not_netWord : ∀ a ∈ stationWords, ¬ netWord a := by
  intro a ha
  simp only [stationWords, stationFields, List.map_cons, List.map_nil, List.mem_cons, List.not_mem_nil, or_false] at ha
  rcases ha with rfl | rfl | rfl | rfl | rfl | rfl | rfl | rfl | rfl
  · exact not_netWord (by decide)
  · rintro (⟨-, h⟩ | h | h)
    · exact absurd h (by decide)
    · exact absurd h (by decide)
    · exact absurd h (by decide)
  · rintro (⟨-, h⟩ | h | h)
    · exact absurd h (by decide)
    · exact absurd h (by decide)
    · exact absurd h (by decide)
  all_goals exact not_netWord (by decide)

/-! ### Frames that pass a station port -/

/-- What passing frames change: the words above, the counters' volatile part, what has been emitted. -/
structure Chip.Passes (c d : Chip) : Prop where
  frame : ∃ rg cs n em, d = { c with regs := rg, ctrs := cs, freeCtr := n, emitted := em }
  words : c.WordsBut netWord d

namespace Chip.Passes

variable {c d e : Chip}

theorem refl (c : Chip) : c.Passes c := ⟨⟨c.regs, c.ctrs, c.freeCtr, c.emitted, rfl⟩, .refl _ c⟩

theorem trans (h : c.Passes d) (k : d.Passes e) : c.Passes e := by
  obtain ⟨⟨rg, cs, n, em, hd⟩, hw⟩ := h
  obtain ⟨⟨rg', cs', n', em', he⟩, hw'⟩ := k
  exact ⟨⟨rg', cs', n', em', by rw [he, hd]⟩, hw.trans hw'⟩

theorem of_count (h : c.CountOnly d) : c.Passes d := by
  obtain ⟨⟨rg, cs, n, hd⟩, hw⟩ := h
  exact ⟨⟨rg, cs, n, c.emitted, hd⟩, fun a ha => hw a (fun hc => ha (.inl hc))⟩

theorem emit (c : Chip) (x : Emit) : c.Passes (c.emit x) := ⟨⟨c.regs, c.ctrs, c.freeCtr, (c.emit x).emitted, rfl⟩, .of_regs rfl⟩

theorem sys (h : c.Passes d) : d.sys = c.sys := by
  obtain ⟨⟨rg, cs, n, em, hd⟩, -⟩ := h
  rw [hd]

theorem net (h : c.Passes d) : d.net = c.net := by
  obtain ⟨⟨rg, cs, n, em, hd⟩, -⟩ := h
  rw [hd]

theorem now (h : c.Passes d) : d.now = c.now := by
  obtain ⟨⟨rg, cs, n, em, hd⟩, -⟩ := h
  rw [hd]

theorem getI (h : c.Passes d) {b i : Nat} {f : Field} (hs : 8 ≤ spaceOf (f.at b i)) : d.getI b f i = c.getI b f i :=
  Chip.getI_congr (h.words _ (not_netWord hs))

theorem stations (h : c.Passes d) : c.StationsAs d := .of_words h.words stationWords_not_netWord h.sys (by rw [h.net])

end Chip.Passes

theorem tongsRefuse_passes (c : Chip) {r : Nat} (hr : r < 2) : c.Passes (c.tongsRefuse r 3) := by
  rw [Chip.tongsRefuse]
  split
  · refine ⟨⟨_, c.ctrs, c.freeCtr, c.emitted, rfl⟩, .putI _ _ ?_⟩
    interval_cases r
    · exact .inr (.inl rfl)
    · exact .inr (.inr rfl)
  · exact .refl c

theorem tongsRefuse_emitted (c : Chip) (r d : Nat) : (c.tongsRefuse r d).emitted = c.emitted := by
  rw [Chip.tongsRefuse]
  split
  · rfl
  · rfl

theorem countPass_only (c : Chip) {r : Nat} (cls port : Nat) (out : Bool) (master priv bytes : Nat) (hr : r < 8) :
    c.CountOnly (c.countPass r cls port out master priv bytes) := c.countEvent_countOnly _ hr

theorem countOnly_emitted {c d : Chip} (h : c.CountOnly d) : d.emitted = c.emitted := by
  obtain ⟨⟨rg, cs, n, hd⟩, -⟩ := h
  rw [hd]

/-- One frame leaves at a port. -/
def Chip.portSend (kind : Nat) (bs : List Nat) (c : Chip) (p : Nat) : Chip :=
  (c.emit (.net kind (c.netFrame p bs))).countPass p 4 8 true 3 (if kind = 2 then 1 else 0) bs.length

theorem portSend_passes (kind : Nat) (bs : List Nat) (c : Chip) {p : Nat} (hp : p < 2) : c.Passes (c.portSend kind bs p) :=
  (Chip.Passes.emit c _).trans (.of_count (countPass_only _ _ _ _ _ _ _ (by omega)))

theorem portSend_emitted (kind : Nat) (bs : List Nat) (c : Chip) {p : Nat} (hp : p < 2) :
    (c.portSend kind bs p).emitted = c.emitted ++ [.net kind (c.netFrame p bs)] :=
  countOnly_emitted (countPass_only _ _ _ _ _ _ _ (by omega))

theorem portsSend (kind : Nat) (bs : List Nat) {c₀ : Chip} (l : List Nat) (hl : ∀ p ∈ l, p < 2) (c : Chip) (h : c₀.StationsAs c) :
    c.Passes (c.each l (Chip.portSend kind bs)) ∧
      (c.each l (Chip.portSend kind bs)).emitted = c.emitted ++ l.map (fun p => .net kind (c₀.netFrame p bs)) := by
  induction l generalizing c with
  | nil => exact ⟨.refl c, (List.append_nil _).symm⟩
  | cons p ps ih =>
    have hp := hl p List.mem_cons_self
    have hone := portSend_passes kind bs c hp
    obtain ⟨hpass, hem⟩ := ih (fun q hq => hl q (List.mem_cons_of_mem p hq)) (c.portSend kind bs p) (h.trans hone.stations)
    refine ⟨hone.trans hpass, hem.trans ?_⟩
    rw [portSend_emitted kind bs c hp, h.frame, List.map_cons, List.append_assoc]
    rfl

/-! ### Content sent on every station port that is up (R435, R436) -/

/-- `d` is `c` once it has sent a frame with this content on every station port that is up. -/
structure Chip.Sends (kind : Nat) (bs : List Nat) (c d : Chip) : Prop where
  frame : ∃ rg cs n q, d = { c with regs := rg, ctrs := cs, freeCtr := n, emitted := c.emitted ++ c.onStations kind bs, net := { c.net with rctSeq := q } }
  seq : c.anyStation = true → d.net.rctSeq = (c.net.rctSeq + 1) % 65536
  words : c.WordsBut netWord d

theorem onStations_nil {c : Chip} (kind : Nat) (bs : List Nat) (h : ((List.range 2).filter c.stationUp).isEmpty = true) :
    c.onStations kind bs = [] := by
  rw [Chip.onStations, List.isEmpty_iff.1 h]
  rfl

theorem anyStation_of_nil {c : Chip} (h : ((List.range 2).filter c.stationUp).isEmpty = true) : c.anyStation = false := by
  have hall := List.filter_eq_nil_iff.1 (List.isEmpty_iff.1 h)
  rw [Chip.anyStation, Bool.eq_false_of_not_eq_true (hall 0 (by decide)), Bool.eq_false_of_not_eq_true (hall 1 (by decide))]
  rfl

theorem netSend_sends (c : Chip) (kind : Nat) (bs : List Nat) : c.Sends kind bs (c.netSend kind bs) := by
  have htongs : c.Passes ((c.tongsRefuse 0 3).tongsRefuse 1 3) := (tongsRefuse_passes c (by decide)).trans (tongsRefuse_passes _ (by decide))
  have hquiet : ((c.tongsRefuse 0 3).tongsRefuse 1 3).emitted = c.emitted := (tongsRefuse_emitted _ _ _).trans (tongsRefuse_emitted _ _ _)
  cases hup : ((List.range 2).filter c.stationUp).isEmpty with
  | true =>
    have he : c.netSend kind bs = (c.tongsRefuse 0 3).tongsRefuse 1 3 := if_pos hup
    rw [he]
    obtain ⟨⟨rg, cs, n, em, hd⟩, hw⟩ := htongs
    refine ⟨⟨rg, cs, n, c.net.rctSeq, ?_⟩, fun h => absurd ((anyStation_of_nil hup).symm.trans h) (by decide), hw⟩
    rw [onStations_nil kind bs hup, List.append_nil, ← hquiet, hd]
  | false =>
    obtain ⟨hsent, hem⟩ := portsSend kind bs ((List.range 2).filter c.stationUp) (fun p hp => List.mem_range.1 (List.mem_filter.1 hp).1) _ htongs.stations
    have he : c.netSend kind bs =
        { ((c.tongsRefuse 0 3).tongsRefuse 1 3).each ((List.range 2).filter c.stationUp) (Chip.portSend kind bs) with
          net := { c.net with rctSeq := (c.net.rctSeq + 1) % 65536 } } := by
      rw [← (htongs.trans hsent).net]
      exact if_neg (fun h => Bool.false_ne_true (hup.symm.trans h))
    rw [he]
    have hwords := htongs.trans hsent
    rw [hquiet] at hem
    obtain ⟨⟨rg, cs, n, em, hd⟩, hw⟩ := hwords
    refine ⟨⟨rg, cs, n, (c.net.rctSeq + 1) % 65536, ?_⟩, fun _ => rfl, hw⟩
    rw [Chip.onStations, ← hem, hd]

namespace Chip.Sends

variable {c d : Chip} {kind : Nat} {bs : List Nat}

theorem emitted (h : c.Sends kind bs d) : d.emitted = c.emitted ++ c.onStations kind bs := by
  obtain ⟨⟨rg, cs, n, q, hd⟩, -, -⟩ := h
  rw [hd]

theorem net (h : c.Sends kind bs d) (ha : c.anyStation = true) : d.net = { c.net with rctSeq := (c.net.rctSeq + 1) % 65536 } := by
  rw [← h.seq ha]
  obtain ⟨⟨rg, cs, n, q, hd⟩, -, -⟩ := h
  rw [hd]

theorem sys (h : c.Sends kind bs d) : d.sys = c.sys := by
  obtain ⟨⟨rg, cs, n, q, hd⟩, -, -⟩ := h
  rw [hd]

theorem eng (h : c.Sends kind bs d) : d.eng = c.eng := by
  obtain ⟨⟨rg, cs, n, q, hd⟩, -, -⟩ := h
  rw [hd]

theorem now (h : c.Sends kind bs d) : d.now = c.now := by
  obtain ⟨⟨rg, cs, n, q, hd⟩, -, -⟩ := h
  rw [hd]

theorem netSess (h : c.Sends kind bs d) : d.net.sess = c.net.sess := by
  obtain ⟨⟨rg, cs, n, q, hd⟩, -, -⟩ := h
  rw [hd]

theorem sess (h : c.Sends kind bs d) (j : Nat) : d.sess j = c.sess j := by rw [Chip.sess, Chip.sess, h.netSess]

theorem getI (h : c.Sends kind bs d) {b i : Nat} {f : Field} (hs : 8 ≤ spaceOf (f.at b i)) : d.getI b f i = c.getI b f i :=
  Chip.getI_congr (h.words _ (not_netWord hs))

end Chip.Sends

/-- A service message that comes in is counted where it passes. -/
theorem netIn_only (c : Chip) (n : Nat) : c.CountOnly (c.netIn n) :=
  .each _ (fun c p hp => countPass_only c _ _ _ _ _ _ (by have := List.mem_range.1 (List.mem_filter.1 hp).1; omega)) c

theorem netIn_passes (c : Chip) (n : Nat) : c.Passes (c.netIn n) := .of_count (netIn_only c n)

theorem netIn_emitted (c : Chip) (n : Nat) : (c.netIn n).emitted = c.emitted := countOnly_emitted (netIn_only c n)

end Sys2Proof.Machine
end

section
/-! SUPPORT. Requests of a session and their answers (R448, R450). -/

namespace Sys2Proof.Machine

/-! ### A session beyond its registers -/

theorem sess_setSess_same (c : Chip) {i : Nat} (f : SessSt → SessSt) (h : i < c.net.sess.length) : (c.setSess i f).sess i = f (c.sess i) :=
  nth_upd_same _ _ _ _ h

theorem sess_setSess_other (c : Chip) {i j : Nat} (f : SessSt → SessSt) (h : j ≠ i) : (c.setSess i f).sess j = c.sess j :=
  nth_upd_other _ _ _ h

theorem setSess_length (c : Chip) (i : Nat) (f : SessSt → SessSt) : (c.setSess i f).net.sess.length = c.net.sess.length := upd_length _ _ _

/-- A word of the table of sessions. -/
theorem sess_space (f : Field) (i : Nat) (h : f.first + i * f.stride < 2 ^ 28 - 0x30000) : spaceOf (f.at sessAt i) = 12 := by
  rw [Field.at, spaceOf, sessAt]
  omega

theorem stations_putSess (c : Chip) (f : Field) (i v : Nat) : c.StationsAs (c.putI sessAt f i v) := by
  refine .of_words (.putI c v (P := fun a => a = f.at sessAt i) rfl) (fun a ha e => ?_) rfl rfl
  have hall : ∀ x ∈ stationWords, x < 0xC0030000 := by decide
  have h1 := hall a ha
  rw [e, Field.at, sessAt] at h1
  omega

theorem stations_setSess (c : Chip) (i : Nat) (f : SessSt → SessSt) : c.StationsAs (c.setSess i f) := ⟨fun _ _ => rfl, rfl, rfl⟩

/-- Two fields of a session that share no bit. -/
theorem getI_putSess_clear (c : Chip) (i v : Nat) {f g : Field} (h : f.clear g = true) (hs : g.stride = f.stride) :
    (c.putI sessAt f i v).getI sessAt g i = c.getI sessAt g i := by
  obtain ⟨hl, hh⟩ := Field.sound_iff.1 (Field.sound_of_clear h)
  refine Chip.getI_putI_apart c sessAt f i v sessAt g i hl hh ?_
  have h0 := Field.apart_of_clear sessAt h
  simp only [Field.apart, Field.at] at h0 ⊢
  rw [hs]
  omega

theorem getI_putSlink (c : Chip) (i v : Nat) {f g : Field} (h : f.at slinkAt 0 < 0xC0030000) :
    (c.put slinkAt f v).getI sessAt g i = c.getI sessAt g i := by
  refine Chip.getI_put_other c (fun e => ?_)
  rw [← e, Field.at, sessAt] at h
  omega

/-! ### Answers (R448, R450) -/

/-- The frames that answer a request of session i. -/
def Chip.answerFrames (c : Chip) (i typ seq rid : Nat) (body : List Nat) : List Emit :=
  c.onStations 2 (leBytes 4 (c.getI sessAt Sess.peer i) ++ beBytes 2 (c.getI sessAt Sess.port i) ++
    svcMessage (c.sess i).key typ (c.getI sessAt Sess.sid i) seq rid body)

/-- `d` would answer a request of session i as `c` would, and has sent nothing since. -/
structure Chip.AnswersAs (i : Nat) (c d : Chip) : Prop where
  stations : c.StationsAs d
  emitted : d.emitted = c.emitted
  peer : d.getI sessAt Sess.peer i = c.getI sessAt Sess.peer i
  port : d.getI sessAt Sess.port i = c.getI sessAt Sess.port i
  sid : d.getI sessAt Sess.sid i = c.getI sessAt Sess.sid i
  key : (d.sess i).key = (c.sess i).key

namespace Chip.AnswersAs

variable {c d e : Chip} {i : Nat}

theorem refl (i : Nat) (c : Chip) : c.AnswersAs i c := ⟨.refl c, rfl, rfl, rfl, rfl, rfl⟩

theorem trans (h : c.AnswersAs i d) (k : d.AnswersAs i e) : c.AnswersAs i e :=
  ⟨h.stations.trans k.stations, k.emitted.trans h.emitted, k.peer.trans h.peer, k.port.trans h.port, k.sid.trans h.sid, k.key.trans h.key⟩

theorem frames (h : c.AnswersAs i d) (typ seq rid : Nat) (body : List Nat) : d.answerFrames i typ seq rid body = c.answerFrames i typ seq rid body := by
  rw [answerFrames, answerFrames, h.stations.onStations, h.peer, h.port, h.sid, h.key]

theorem of_only (h : c.CountOnly d) (hi : i < 16) : c.AnswersAs i d := by
  have hp := Chip.Passes.of_count h
  exact ⟨hp.stations, countOnly_emitted h, hp.getI (by rw [sess_space _ _ (by change 1 + i * 4 < _; omega)]; decide),
    hp.getI (by rw [sess_space _ _ (by change 2 + i * 4 < _; omega)]; decide), hp.getI (by rw [sess_space _ _ (by change 0 + i * 4 < _; omega)]; decide),
    by rw [Chip.sess, Chip.sess, hp.net]⟩

theorem setSess (c : Chip) (i j : Nat) {f : SessSt → SessSt} (h : ∀ x, (f x).key = x.key) : c.AnswersAs i (c.setSess j f) := by
  refine ⟨⟨fun _ _ => rfl, rfl, rfl⟩, rfl, rfl, rfl, rfl, ?_⟩
  change (nth {} (upd c.net.sess j f) i).key = (nth {} c.net.sess i).key
  rw [nth_upd]
  split
  · next hj =>
    rw [hj.1]
    exact h _
  · rfl

/-- The tick of the last request is no part of an answer. -/
theorem lastTick (c : Chip) (i v : Nat) : c.AnswersAs i (c.putI sessAt Sess.last_tick i v) :=
  ⟨stations_putSess c _ i v, rfl, getI_putSess_clear c i v (by decide) rfl, getI_putSess_clear c i v (by decide) rfl,
    getI_putSess_clear c i v (by decide) rfl, rfl⟩

theorem state (c : Chip) (i v : Nat) : c.AnswersAs i (c.putI sessAt Sess.state i v) :=
  ⟨stations_putSess c _ i v, rfl, getI_putSess_clear c i v (by decide) rfl, getI_putSess_clear c i v (by decide) rfl,
    getI_putSess_clear c i v (by decide) rfl, rfl⟩

/-- The number of sessions is no part of an answer. -/
theorem sessions (c : Chip) (i v : Nat) : c.AnswersAs i (c.put slinkAt SLink.sessions v) :=
  ⟨.put c v (by simp only [Field.apart]; decide) (by decide), rfl, getI_putSlink c i v (by decide), getI_putSlink c i v (by decide),
    getI_putSlink c i v (by decide), rfl⟩

theorem record (c : Chip) {i : Nat} (hi : i < 16) (source region severity subject : Nat) (bs ws : List Nat) :
    c.AnswersAs i (c.record source region severity subject bs ws) := by
  have hget : ∀ {f : Field}, f.first < 4 → f.stride = 4 →
      (c.record source region severity subject bs ws).getI sessAt f i = c.getI sessAt f i := fun hf hs =>
    Chip.record_getI _ _ _ _ _ _ _ (by rw [sess_space _ _ (by rw [hs]; omega)]; decide)
  refine ⟨.of_words (.record c _ _ _ _ _ _ (P := fun a => spaceOf a = 10) (fun _ h => h)) (by decide) (Chip.record_sys _ _ _ _ _ _ _)
    (by rw [Chip.record_net]), Chip.record_emitted _ _ _ _ _ _ _, hget (by decide) rfl, hget (by decide) rfl, hget (by decide) rfl, ?_⟩
  rw [Chip.sess, Chip.record_net, Chip.sess]

end Chip.AnswersAs

/-- A reply keeps what it sent in the session's cache. -/
theorem reply_eq (c : Chip) (i typ seq rid : Nat) (body : List Nat) :
    ∃ f : SessSt → SessSt, (∀ x, f x = { x with cache := (f x).cache }) ∧
      (c.setSess i f).Sends 2 (leBytes 4 (c.getI sessAt Sess.peer i) ++ beBytes 2 (c.getI sessAt Sess.port i) ++
        svcMessage (c.sess i).key typ (c.getI sessAt Sess.sid i) seq rid body) (c.reply i typ seq rid body) :=
  ⟨_, fun _ => rfl, netSend_sends _ _ _⟩

theorem reply_emitted (c : Chip) (i typ seq rid : Nat) (body : List Nat) :
    (c.reply i typ seq rid body).emitted = c.emitted ++ c.answerFrames i typ seq rid body := by
  obtain ⟨f, hf, hs⟩ := reply_eq c i typ seq rid body
  rw [hs.emitted]
  rfl

/-- What a reply leaves: all but the cache of a session, what passing frames change and the number of the trailer. -/
theorem reply_sess_other (c : Chip) {i j : Nat} (typ seq rid : Nat) (body : List Nat) (h : j ≠ i) : (c.reply i typ seq rid body).sess j = c.sess j := by
  obtain ⟨f, hf, hs⟩ := reply_eq c i typ seq rid body
  rw [hs.sess, sess_setSess_other _ _ h]

theorem reply_sess_same (c : Chip) {i : Nat} (typ seq rid : Nat) (body : List Nat) (h : i < c.net.sess.length) :
    (c.reply i typ seq rid body).sess i = { c.sess i with cache := ((c.reply i typ seq rid body).sess i).cache } := by
  obtain ⟨f, hf, hs⟩ := reply_eq c i typ seq rid body
  rw [hs.sess, sess_setSess_same _ _ h]
  exact hf _

theorem reply_length (c : Chip) (i typ seq rid : Nat) (body : List Nat) : (c.reply i typ seq rid body).net.sess.length = c.net.sess.length := by
  obtain ⟨f, hf, hs⟩ := reply_eq c i typ seq rid body
  rw [hs.netSess, setSess_length]

theorem reply_getI (c : Chip) (i typ seq rid : Nat) (body : List Nat) {b k : Nat} {f : Field} (h : 8 ≤ spaceOf (f.at b k)) :
    (c.reply i typ seq rid body).getI b f k = c.getI b f k := by
  obtain ⟨g, hg, hs⟩ := reply_eq c i typ seq rid body
  rw [hs.getI h, Chip.setSess_getI]

theorem reply_eng (c : Chip) (i typ seq rid : Nat) (body : List Nat) : (c.reply i typ seq rid body).eng = c.eng := by
  obtain ⟨g, hg, hs⟩ := reply_eq c i typ seq rid body
  rw [hs.eng, Chip.setSess_eng]

/-! ### The requests that wait for their answers (R450) -/

theorem flushAnswers_none {c : Chip} {i : Nat} (n : Nat) (h : (c.sess i).pend = []) : c.flushAnswers i n = c := by
  cases n with
  | zero => rfl
  | succ n => rw [Chip.flushAnswers, h]

theorem flushAnswers_wait {c : Chip} {i : Nat} (n : Nat) {q : PendReq} {l : List PendReq} (h : (c.sess i).pend = q :: l)
    (hq : q.parts.all (·.isSome) = false) : c.flushAnswers i n = c := by
  cases n with
  | zero => rfl
  | succ n =>
    rw [Chip.flushAnswers, h]
    exact if_neg (fun e => Bool.false_ne_true (hq.symm.trans e))

/-- The one request that waits, with every part of its answer there: it is answered. -/
theorem flushAnswers_one {c : Chip} {i n : Nat} {q : PendReq} (hi : i < c.net.sess.length) (h : (c.sess i).pend = [q])
    (hq : q.parts.all (·.isSome) = true) :
    c.flushAnswers i (n + 1) = (c.setSess i (fun x => { x with pend := [] })).reply i (q.typ + 0x80) q.seq q.rid (q.parts.flatMap (·.getD [])) := by
  rw [Chip.flushAnswers, h]
  refine (if_pos hq).trans (flushAnswers_none n ?_)
  rw [reply_sess_same _ _ _ _ _ (by rw [setSess_length]; exact hi), sess_setSess_same _ _ hi]

/-- One part of the answer to the one request that waits. -/
def PendReq.withPart (q : PendReq) (k : Nat) (bs : List Nat) : PendReq := { q with parts := setAt q.parts k (some bs) }

/-- The chip once a part of the answer to session i's request is there. -/
def Chip.partGiven (c : Chip) (a : AskedBy) (bs : List Nat) : Chip :=
  c.setSess a.session (fun h => { h with pend := h.pend.map (fun q => if q.seq = a.seq then q.withPart a.part bs else q) })

theorem partGiven_pend {c : Chip} {a : AskedBy} {q : PendReq} (bs : List Nat) (hi : a.session < c.net.sess.length)
    (h : (c.sess a.session).pend = [q]) (hs : q.seq = a.seq) : ((c.partGiven a bs).sess a.session).pend = [q.withPart a.part bs] := by
  rw [Chip.partGiven, sess_setSess_same _ _ hi]
  change (c.sess a.session).pend.map _ = _
  rw [h]
  exact congrArg (· :: []) (if_pos hs)

theorem answer_waits {c : Chip} {a : AskedBy} {q : PendReq} {bs : List Nat} (hi : a.session < c.net.sess.length)
    (h : (c.sess a.session).pend = [q]) (hs : q.seq = a.seq) (hq : (q.withPart a.part bs).parts.all (·.isSome) = false) :
    c.answer a bs = c.partGiven a bs := flushAnswers_wait 8 (partGiven_pend bs hi h hs) hq

theorem answer_ends {c : Chip} {a : AskedBy} {q : PendReq} {bs : List Nat} (hi : a.session < c.net.sess.length)
    (h : (c.sess a.session).pend = [q]) (hs : q.seq = a.seq) (hq : (q.withPart a.part bs).parts.all (·.isSome) = true) :
    c.answer a bs = ((c.partGiven a bs).setSess a.session (fun x => { x with pend := [] })).reply a.session (q.typ + 0x80) q.seq q.rid
      ((q.withPart a.part bs).parts.flatMap (·.getD [])) := by
  have hlen : a.session < (c.partGiven a bs).net.sess.length := by
    rw [Chip.partGiven, setSess_length]
    exact hi
  have h8 : c.answer a bs = (c.partGiven a bs).flushAnswers a.session (7 + 1) := rfl
  rw [h8, flushAnswers_one hlen (partGiven_pend bs hi h hs) hq]
  rfl

/-! ### A request taken (R450) -/

section
variable (c : Chip) {i : Nat} (typ seq rid parts : Nat)

theorem takeRequest_pend (hi : i < c.net.sess.length) (h : (c.sess i).pend = []) :
    ((c.takeRequest i typ seq rid parts).sess i).pend = [{ seq := seq, rid := rid, typ := typ, parts := List.replicate parts none }] := by
  rw [Chip.takeRequest, sess_setSess_same (c.putI sessAt Sess.last_tick i c.tick) _ hi]
  change (c.sess i).pend ++ _ = _
  rw [h]
  rfl

theorem takeRequest_other {j : Nat} (h : j ≠ i) : (c.takeRequest i typ seq rid parts).sess j = c.sess j := sess_setSess_other _ _ h

theorem takeRequest_seq (hi : i < c.net.sess.length) :
    ((c.takeRequest i typ seq rid parts).sess i).seq = seq ∧ ((c.takeRequest i typ seq rid parts).sess i).lastAt = c.now := by
  rw [Chip.takeRequest, sess_setSess_same (c.putI sessAt Sess.last_tick i c.tick) _ hi]
  exact ⟨rfl, rfl⟩

theorem takeRequest_length : (c.takeRequest i typ seq rid parts).net.sess.length = c.net.sess.length := setSess_length _ _ _

theorem takeRequest_answersAs (hi : i < 16) : c.AnswersAs i (c.takeRequest i typ seq rid parts) :=
  (Chip.AnswersAs.lastTick c i c.tick).trans (.setSess _ i i (fun _ => rfl))

end

/-- The chip that processes a request: it has come in and been taken. -/
def Chip.requested (c : Chip) (i typ seq rid : Nat) (body : List Nat) (parts : Nat) : Chip := (c.netIn (32 + body.length)).takeRequest i typ seq rid parts

section
variable (c : Chip) {i : Nat} (typ seq rid : Nat) (body : List Nat) (parts : Nat)

theorem requested_answersAs (hi : i < 16) : c.AnswersAs i (c.requested i typ seq rid body parts) :=
  (Chip.AnswersAs.of_only (netIn_only c _) hi).trans (takeRequest_answersAs _ _ _ _ _ hi)

theorem requested_length : (c.requested i typ seq rid body parts).net.sess.length = c.net.sess.length := by
  rw [Chip.requested, takeRequest_length, (netIn_passes c _).net]

theorem requested_pend (hi : i < c.net.sess.length) (h : (c.sess i).pend = []) :
    ((c.requested i typ seq rid body parts).sess i).pend = [{ seq := seq, rid := rid, typ := typ, parts := List.replicate parts none }] := by
  have hn := (netIn_passes c (32 + body.length)).net
  refine takeRequest_pend _ _ _ _ _ (by rw [hn]; exact hi) ?_
  rw [Chip.sess, hn]
  exact h

theorem requested_other {j : Nat} (h : j ≠ i) : (c.requested i typ seq rid body parts).sess j = c.sess j := by
  rw [Chip.requested, takeRequest_other _ _ _ _ _ h, Chip.sess, (netIn_passes c _).net, Chip.sess]

theorem requested_seq (hi : i < c.net.sess.length) :
    ((c.requested i typ seq rid body parts).sess i).seq = seq ∧ ((c.requested i typ seq rid body parts).sess i).lastAt = c.now := by
  obtain ⟨h1, h2⟩ := takeRequest_seq (c.netIn (32 + body.length)) typ seq rid parts (i := i) (by rw [(netIn_passes c _).net]; exact hi)
  exact ⟨h1, h2.trans (netIn_passes c _).now⟩

/-- A field of a word beyond the regions, other than a session's last tick, is as before. -/
theorem requested_getI (hi : i < 16) {b k : Nat} {f : Field} (h : 8 ≤ spaceOf (f.at b k)) (hl : f.at b k ≠ Sess.last_tick.at sessAt i) :
    (c.requested i typ seq rid body parts).getI b f k = c.getI b f k := by
  rw [Chip.requested, Chip.takeRequest, Chip.setSess_getI, Chip.getI_putI_other _ hl, (netIn_passes c _).getI h]

theorem requested_eng : (c.requested i typ seq rid body parts).eng = c.eng := by
  obtain ⟨⟨rg, cs, n, hd⟩, -⟩ := netIn_only c (32 + body.length)
  rw [Chip.requested, hd]
  rfl

end

section
variable {s : State} {i typ seq rid : Nat} {body mac : List Nat} {parts : Nat} {run : State → State}

/-- What becomes of a request is the verdict's. -/
theorem request_process (h : s.chip.verdict i typ seq rid body mac = .process) :
    s.request i typ seq rid body mac parts run = run { s with chip := s.chip.requested i typ seq rid body parts } := by
  rw [State.request, h]
  rfl

theorem request_discard (h : s.chip.verdict i typ seq rid body mac = .discard) :
    s.request i typ seq rid body mac parts run = { s with chip := (s.chip.netIn (32 + body.length)).badMac } := by
  rw [State.request, h]

theorem request_repeated {m : List Nat} (h : s.chip.verdict i typ seq rid body mac = .repeated (some m)) :
    s.request i typ seq rid body mac parts run = { s with chip := ((s.chip.netIn (32 + body.length)).sendTo
      (s.chip.getI sessAt Sess.peer i) (s.chip.getI sessAt Sess.port i) m) } := by
  rw [State.request, h]

theorem request_full (h : s.chip.verdict i typ seq rid body mac = .full) :
    s.request i typ seq rid body mac parts run = { s with chip := ((s.chip.netIn (32 + body.length)).sendTo
      (s.chip.getI sessAt Sess.peer i) (s.chip.getI sessAt Sess.port i)
      (svcMessage (s.chip.sess i).key 0xFF (s.chip.getI sessAt Sess.sid i) seq rid (leBytes 4 7))) } := by
  rw [State.request, h]

end

/-- What the verdict on a request says of the session. -/
theorem verdict_process {c : Chip} {i typ seq rid : Nat} {body mac : List Nat} (h : c.verdict i typ seq rid body mac = .process) :
    c.anyStation = true ∧ c.getI sessAt Sess.state i = 2 := by
  rw [Chip.verdict] at h
  cases ha : c.anyStation with
  | false =>
    rw [ha] at h
    exact nomatch (show Verdict.absent = .process from h)
  | true =>
    rw [ha] at h
    refine ⟨rfl, ?_⟩
    by_contra hn
    have hc : (c.getI sessAt Sess.state i != 2 || mac != c.macOf i typ seq rid body) = true := by
      rw [(bne_iff_ne).2 hn]
      rfl
    exact nomatch (show Verdict.discard = .process from (if_pos hc).symm.trans h)

theorem anyStation_of_verdict {c : Chip} {i typ seq rid : Nat} {body mac : List Nat} (h : c.verdict i typ seq rid body mac ≠ .absent) :
    c.anyStation = true := by
  cases ha : c.anyStation with
  | true => rfl
  | false =>
    rw [Chip.verdict, ha] at h
    exact absurd rfl h

/-- The answer, at once, to the one request that waits. -/
theorem respond_one {s : State} {i seq rid typ : Nat} {bs : List Nat} (hi : i < s.chip.net.sess.length)
    (h : (s.chip.sess i).pend = [{ seq := seq, rid := rid, typ := typ, parts := [none] }]) :
    s.respond i seq bs = { s with chip := ((s.chip.partGiven ⟨i, seq, 0⟩ bs).setSess i (fun x => { x with pend := [] })).reply i (typ + 0x80) seq rid bs } := by
  rw [State.respond, State.onChip, answer_ends (a := ⟨i, seq, 0⟩) hi h rfl rfl]
  have : ((({ seq := seq, rid := rid, typ := typ, parts := [none] } : PendReq).withPart 0 bs).parts.flatMap (·.getD [])) = bs := List.append_nil bs
  rw [this]

/-! ### The end of a session (R142, R450) -/

theorem getI_of_word_zero {c : Chip} {b i : Nat} {f : Field} (h : c.word (f.at b i) = 0) : c.getI b f i = 0 := by
  rw [Chip.getI, h, Field.of, bitsOf]
  simp

/-- An open session that ends leaves its registers at 0 and nothing beyond them. -/
theorem closeSess_ends {c : Chip} {i : Nat} (h : c.getI sessAt Sess.state i ≠ 0) :
    ∃ d, c.Writes (fun _ => True) d ∧ d.getI sessAt Sess.state i = 0 ∧ c.closeSess i = d.setSess i (fun _ => {}) := by
  refine ⟨_, ?_, ?_, if_neg h⟩
  · refine Chip.Writes.ite (fun _ => .put ?_ _ trivial) (fun _ => ?_)
    all_goals
      refine .setNat (.setNat (.setNat ?_ _ trivial) _ trivial) _ trivial
      exact .ite (fun _ => .each (.record (.refl _ c) _ _ _ _ _ _ (fun _ _ => trivial)) _
        (fun e w _ => .ite (fun _ => .put (.put (.refl _ e) _ trivial) _ trivial) (fun _ => .refl _ e))) (fun _ => .refl _ c)
  · refine getI_of_word_zero ?_
    have hat : Sess.state.at sessAt i = sessAt + 4 * i := by
      change sessAt + 0 + i * 4 = _
      omega
    have hne : sessAt + 4 * i ≠ SLink.sessions.at slinkAt 0 := by
      change 0xC0030000 + 4 * i ≠ 0xC0000000 + 5 + 0 * 0
      omega
    rw [hat]
    generalize (if c.getI sessAt Sess.state i = 2 then _ else c : Chip) = c1
    have hzero : (((c1.setNat (sessAt + 4 * i) 0).setNat (sessAt + 4 * i + 1) 0).setNat (sessAt + 4 * i + 2) 0).word (sessAt + 4 * i) = 0 := by
      rw [Chip.word_setNat_other _ _ (by omega), Chip.word_setNat_other _ _ (by omega)]
      exact Chip.word_setWord_same _ _ _
    split
    · exact (Chip.word_put_other _ _ hne).trans hzero
    · exact hzero

/-- A transfer that is aborted leaves the sessions and what is sent. -/
theorem xferAbort_net (c : Chip) : c.xferAbort.net = c.net ∧ c.xferAbort.emitted = c.emitted ∧
    ∀ {f : Field} {i : Nat}, spaceOf (f.at sessAt i) = 12 → c.xferAbort.getI sessAt f i = c.getI sessAt f i := by
  rw [Chip.xferAbort]
  split
  · exact ⟨rfl, rfl, fun _ => rfl⟩
  · refine ⟨Chip.record_net _ _ _ _ _ _ _, Chip.record_emitted _ _ _ _ _ _ _, fun {f i} h => ?_⟩
    refine (Chip.record_getI _ _ _ _ _ _ _ (by rw [h]; decide)).trans ?_
    have hne : ∀ g : Field, spaceOf (g.at imageAt 0) = 8 → f.at sessAt i ≠ g.at imageAt 0 := fun g hg e =>
      absurd (h.symm.trans ((congrArg spaceOf e).trans hg)) (by decide)
    exact (Chip.getI_put_other _ (hne _ (by decide))).trans (Chip.getI_put_other _ (hne _ (by decide)))

/-- A session that ends, with its transfer, is closed; the others are as they were. -/
theorem endSession_ends {c : Chip} {i : Nat} (hi : i < 16) (hl : c.net.sess.length = 16) (h : c.getI sessAt Sess.state i ≠ 0) :
    (c.endSession i).getI sessAt Sess.state i = 0 ∧ (c.endSession i).sess i = {} ∧ (∀ j, j ≠ i → (c.endSession i).sess j = c.sess j) ∧
      (c.endSession i).emitted = c.emitted := by
  obtain ⟨hnet, hem, hget⟩ : (c.when (c.xfer.owner == some i) Chip.xferAbort).net = c.net ∧
      (c.when (c.xfer.owner == some i) Chip.xferAbort).emitted = c.emitted ∧
      (c.when (c.xfer.owner == some i) Chip.xferAbort).getI sessAt Sess.state i = c.getI sessAt Sess.state i := by
    rw [Chip.when]
    split
    · obtain ⟨h1, h2, h3⟩ := xferAbort_net c
      exact ⟨h1, h2, h3 (sess_space _ _ (by change 0 + i * 4 < _; omega))⟩
    · exact ⟨rfl, rfl, rfl⟩
  obtain ⟨d, hw, hz, he⟩ := closeSess_ends (c := c.when (c.xfer.owner == some i) Chip.xferAbort) (i := i) (by rw [hget]; exact h)
  have hdnet : d.net = c.net := hw.net.trans hnet
  rw [Chip.endSession, he]
  refine ⟨by rw [Chip.setSess_getI]; exact hz, sess_setSess_same _ _ (by rw [hdnet, hl]; exact hi), fun j hj => ?_, hw.emitted.trans hem⟩
  rw [sess_setSess_other _ _ hj, Chip.sess, hdnet, Chip.sess]

end Sys2Proof.Machine
end

section
/-! SUPPORT. O37: requests in sequence. -/

namespace Sys2Proof.Machine

theorem badMac_bump (c : Chip) (n : Nat) : (c.netIn n).badMac.get slinkAt SLink.bad_mac = min (c.get slinkAt SLink.bad_mac + 1) SLink.bad_mac.top := by
  rw [Chip.badMac, Chip.bump_get_self _ _ (by decide)]
  exact congrArg (fun m => min (m + 1) SLink.bad_mac.top) ((netIn_passes c n).getI (by decide))

theorem sendTo_sends (c : Chip) (n peer port : Nat) (bs : List Nat) (h : c.anyStation = true) :
    ((c.netIn n).sendTo peer port bs).net = { c.net with rctSeq := (c.net.rctSeq + 1) % 65536 } ∧
      ((c.netIn n).sendTo peer port bs).emitted = c.emitted ++ c.onStations 2 (leBytes 4 peer ++ beBytes 2 port ++ bs) := by
  have hin := netIn_passes c n
  have hs := netSend_sends (c.netIn n) 2 (leBytes 4 peer ++ beBytes 2 port ++ bs)
  refine ⟨?_, ?_⟩
  · rw [Chip.sendTo, hs.net (hin.stations.any.trans h), hin.net]
  · rw [Chip.sendTo, hs.emitted, netIn_emitted, hin.stations.onStations]

/-- The chip that has answered a request at once. -/
def Chip.respondedAs (c : Chip) (i typ seq rid : Nat) (body bs : List Nat) : Chip :=
  (((c.requested i typ seq rid body 1).partGiven ⟨i, seq, 0⟩ bs).setSess i (fun x => { x with pend := [] })).reply i (typ + 0x80) seq rid bs

theorem respond_requested {s : State} {i typ seq rid : Nat} {body : List Nat} (bs : List Nat) (hi : i < 16) (hl : s.chip.net.sess.length = 16)
    (hp : (s.chip.sess i).pend = []) :
    ({ s with chip := s.chip.requested i typ seq rid body 1 } : State).respond i seq bs = { s with chip := s.chip.respondedAs i typ seq rid body bs } :=
  respond_one (by rw [requested_length, hl]; exact hi) (requested_pend _ _ _ _ _ _ (by rw [hl]; exact hi) hp)

section
variable {c : Chip} {i : Nat} (typ seq rid : Nat) (body bs : List Nat)

theorem partGiven_answersAs (c : Chip) (a : AskedBy) (bs : List Nat) (i : Nat) : c.AnswersAs i (c.partGiven a bs) := .setSess c i _ (fun _ => rfl)

theorem respondedAs_emitted (hi : i < 16) :
    (c.respondedAs i typ seq rid body bs).emitted = c.emitted ++ c.answerFrames i (typ + 0x80) seq rid bs := by
  have h := ((requested_answersAs c typ seq rid body 1 hi).trans (partGiven_answersAs _ ⟨i, seq, 0⟩ bs i)).trans
    (.setSess _ i i (f := fun x => { x with pend := [] }) (fun _ => rfl))
  rw [Chip.respondedAs, reply_emitted, h.emitted, h.frames]

theorem respondedAs_sess (hi : i < 16) (hl : c.net.sess.length = 16) :
    ((c.respondedAs i typ seq rid body bs).sess i).seq = seq ∧ ((c.respondedAs i typ seq rid body bs).sess i).lastAt = c.now ∧
      ((c.respondedAs i typ seq rid body bs).sess i).pend = [] := by
  have hlen : i < (c.requested i typ seq rid body 1).net.sess.length := by
    rw [requested_length, hl]
    exact hi
  have hlen' : i < ((c.requested i typ seq rid body 1).partGiven ⟨i, seq, 0⟩ bs).net.sess.length := by
    rw [Chip.partGiven, setSess_length]
    exact hlen
  obtain ⟨h1, h2⟩ := requested_seq c typ seq rid body 1 (i := i) (by rw [hl]; exact hi)
  rw [Chip.respondedAs, reply_sess_same _ _ _ _ _ (by rw [setSess_length]; exact hlen'), sess_setSess_same _ _ hlen', Chip.partGiven,
    sess_setSess_same _ _ hlen]
  exact ⟨h1, h2, rfl⟩

theorem respondedAs_other {j : Nat} (h : j ≠ i) : (c.respondedAs i typ seq rid body bs).sess j = c.sess j := by
  rw [Chip.respondedAs, reply_sess_other _ _ _ _ _ h, sess_setSess_other _ _ h, Chip.partGiven, sess_setSess_other _ _ h, requested_other _ _ _ _ _ _ h]

end

/-- Settles O37: requests in sequence. -/
theorem requestSequence : Obligations.RequestSequence := by
  intro i seq rid mac s hs
  have hi := i.isLt
  have hl := hs.sess
  refine ⟨fun h => ?_, fun m h => ?_, fun h => ?_, fun hp => ⟨fun h => ?_, fun h => ?_⟩⟩
  · exact ⟨_, next_congr (request_discard h), badMac_bump _ _, (netIn_passes s.chip _).net, netIn_emitted s.chip _, .chip s _⟩
  · obtain ⟨hnet, hem⟩ := sendTo_sends s.chip (32 + ([] : List Nat).length) (s.chip.getI sessAt Sess.peer i) (s.chip.getI sessAt Sess.port i) m
      (anyStation_of_verdict (by rw [h]; exact Verdict.noConfusion))
    exact ⟨_, next_congr (request_repeated h), hnet, hem, .chip s _⟩
  · obtain ⟨hnet, hem⟩ := sendTo_sends s.chip (32 + ([] : List Nat).length) (s.chip.getI sessAt Sess.peer i) (s.chip.getI sessAt Sess.port i)
      (svcMessage (s.chip.sess i).key 0xFF (s.chip.getI sessAt Sess.sid i) seq.toNat rid.toNat (leBytes 4 7))
      (anyStation_of_verdict (by rw [h]; exact Verdict.noConfusion))
    exact ⟨_, next_congr (request_full h), hnet, hem, .chip s _⟩
  · obtain ⟨h1, h2, h3⟩ := respondedAs_sess 0x06 seq.toNat rid.toNat [] [] hi hl
    exact ⟨_, next_congr ((request_process h).trans (respond_requested [] hi hl hp)), respondedAs_emitted _ _ _ _ _ hi, h1, h2, h3,
      fun j hj => respondedAs_other _ _ _ _ _ hj, .chip s _⟩
  · have hst := (verdict_process h).2
    have hreq := requested_answersAs s.chip 0x05 seq.toNat rid.toNat [] 1 hi
    have hlen : ((s.chip.requested i 0x05 seq.toNat rid.toNat [] 1).reply i 0x85 seq.toNat rid.toNat []).net.sess.length = 16 := by
      rw [reply_length, requested_length, hl]
    have hspace : spaceOf (Sess.state.at sessAt i) = 12 := sess_space _ _ (by change 0 + i.val * 4 < _; omega)
    have hopen : ((s.chip.requested i 0x05 seq.toNat rid.toNat [] 1).reply i 0x85 seq.toNat rid.toNat []).getI sessAt Sess.state i ≠ 0 := by
      have hne : Sess.state.at sessAt i ≠ Sess.last_tick.at sessAt i := by
        change sessAt + 0 + i.val * 4 ≠ sessAt + 3 + i.val * 4
        omega
      rw [reply_getI _ _ _ _ _ _ (by rw [hspace]; decide), requested_getI _ _ _ _ _ _ hi (by rw [hspace]; decide) hne, hst]
      decide
    obtain ⟨hclosed, hfresh, hothers, hem⟩ := endSession_ends hi hlen hopen
    refine ⟨_, next_congr (request_process h), ?_, hclosed, hfresh, fun j hj => ?_, .chip s _⟩
    · refine hem.trans ?_
      rw [reply_emitted, hreq.emitted, hreq.frames]
      rfl
    · exact (hothers j hj).trans ((reply_sess_other _ _ _ _ _ hj).trans (requested_other _ _ _ _ _ _ hj))

end Sys2Proof.Machine
end

section
/-! SUPPORT. O36: sessions open and close. -/

namespace Sys2Proof.Machine

/-! ### An open request (R448, R449) -/

/-- The registers of a session that has been opened. -/
def Chip.opened (c : Chip) (i role sid peer port tick : Nat) : Chip :=
  (((((c.putI sessAt Sess.state i 1).putI sessAt Sess.role i role).putI sessAt Sess.sid i sid).putI sessAt Sess.peer i peer).putI sessAt
    Sess.port i port).putI sessAt Sess.last_tick i tick

theorem opened_stations (c : Chip) (i role sid peer port tick : Nat) : c.StationsAs (c.opened i role sid peer port tick) :=
  (stations_putSess _ _ _ _).trans ((stations_putSess _ _ _ _).trans ((stations_putSess _ _ _ _).trans ((stations_putSess _ _ _ _).trans
    ((stations_putSess _ _ _ _).trans (stations_putSess _ _ _ _)))))

theorem opened_words (c : Chip) (i : Nat) {role sid peer tick : Nat} (port : Nat) (hr : role < 256) (hs : sid < 65536) (hp : peer < 2 ^ 32) :
    (c.opened i role sid peer port tick).getI sessAt Sess.state i = 1 ∧ (c.opened i role sid peer port tick).getI sessAt Sess.role i = role ∧
      (c.opened i role sid peer port tick).getI sessAt Sess.sid i = sid ∧ (c.opened i role sid peer port tick).getI sessAt Sess.peer i = peer := by
  rw [Chip.opened]
  refine ⟨?_, ?_, ?_, ?_⟩
  · rw [getI_putSess_clear _ _ _ (by decide) (by rfl), getI_putSess_clear _ _ _ (by decide) (by rfl), getI_putSess_clear _ _ _ (by decide) (by rfl),
      getI_putSess_clear _ _ _ (by decide) (by rfl), getI_putSess_clear _ _ _ (by decide) (by rfl)]
    exact Chip.getI_putI_of_lt _ _ _ (by decide) (by decide)
  · rw [getI_putSess_clear _ _ _ (by decide) (by rfl), getI_putSess_clear _ _ _ (by decide) (by rfl), getI_putSess_clear _ _ _ (by decide) (by rfl),
      getI_putSess_clear _ _ _ (by decide) (by rfl)]
    exact Chip.getI_putI_of_lt _ _ _ (by decide) hr
  · rw [getI_putSess_clear _ _ _ (by decide) (by rfl), getI_putSess_clear _ _ _ (by decide) (by rfl), getI_putSess_clear _ _ _ (by decide) (by rfl)]
    exact Chip.getI_putI_of_lt _ _ _ (by decide) hs
  · rw [getI_putSess_clear _ _ _ (by decide) (by rfl), getI_putSess_clear _ _ _ (by decide) (by rfl)]
    exact Chip.getI_putI_of_lt _ _ _ (by decide) hp

section
variable {s : State} {peer : BitVec 32} {port : BitVec 16} {seq : BitVec 32} {rid : BitVec 16} {role : BitVec 8} {nc nm : List Byte} {sid : BitVec 16}

/-- No open session has the number. -/
theorem sid_unused (h : ∀ i < 16, s.chip.getI sessAt Sess.state i ≠ 0 → s.chip.getI sessAt Sess.sid i ≠ sid.toNat) :
    (List.range 16).any (fun i => s.chip.getI sessAt Sess.state i != 0 && s.chip.getI sessAt Sess.sid i == sid.toNat) = false := by
  refine List.any_eq_false.2 (fun i hi => ?_)
  simp only [Bool.and_eq_true, bne_iff_ne, beq_iff_eq, not_and]
  exact h i (List.mem_range.1 hi)

theorem sessionOpen_goes (ha : s.chip.anyStation = true) (hs : sid ≠ 0)
    (hu : ∀ i < 16, s.chip.getI sessAt Sess.state i ≠ 0 → s.chip.getI sessAt Sess.sid i ≠ sid.toNat) :
    (!s.chip.anyStation || sid = 0 ||
      (List.range 16).any (fun i => s.chip.getI sessAt Sess.state i != 0 && s.chip.getI sessAt Sess.sid i == sid.toNat)) = false := by
  rw [sid_unused hu, ha, decide_eq_false hs]
  rfl

/-- The error response to an open request. -/
def Chip.openDenied (c : Chip) (peer port seq rid : Nat) : Chip := (c.netIn 52).sendTo peer port (openMessage 0xFF 0 seq rid (leBytes 4 7))

theorem sessionOpen_denied (ha : s.chip.anyStation = true) (hs : sid ≠ 0)
    (hu : ∀ i < 16, s.chip.getI sessAt Sess.state i ≠ 0 → s.chip.getI sessAt Sess.sid i ≠ sid.toNat)
    (hr : s.openRefused peer.toNat role.toNat = true) :
    exec (.sessionOpen peer port seq rid role nc nm sid) s = .next { s with chip := s.chip.openDenied peer.toNat port.toNat seq.toNat rid.toNat } := by
  refine chipOnly_to s ((if_neg (fun e => Bool.false_ne_true ((sessionOpen_goes ha hs hu).symm.trans ?_))).trans (if_pos hr))
  simpa using e

/-- The key of the session that an open request begins. -/
def State.openKey (s : State) (role : Nat) (nc nm : List Nat) : List Nat :=
  s.chip.sessionKey (((nth .empty s.flash.roleKeys role).bytes).getD []) nc nm

/-- The session that an open request begins, beyond its registers. -/
def State.freshSess (s : State) (role : Nat) (nc nm : List Nat) : SessSt :=
  { key := s.openKey role nc nm, openAt := s.chip.now, lastAt := s.chip.now }

/-- The chip that has answered an open request with a challenge. -/
def State.challenged (s : State) (i role sid peer port seq rid : Nat) (nc nm : List Nat) : Chip :=
  (((s.chip.netIn 52).opened i role sid peer port s.chip.tick).setSess i (fun _ => s.freshSess role nc nm)).sendTo peer port
    (openMessage 0x81 sid seq rid (nm ++ s.chip.serial))

theorem sessionOpen_challenged {i : Nat} (ha : s.chip.anyStation = true) (hs : sid ≠ 0)
    (hu : ∀ i < 16, s.chip.getI sessAt Sess.state i ≠ 0 → s.chip.getI sessAt Sess.sid i ≠ sid.toNat)
    (hr : s.openRefused peer.toNat role.toNat = false) (hi : (List.range 16).find? (fun i => s.chip.getI sessAt Sess.state i == 0) = some i) :
    exec (.sessionOpen peer port seq rid role nc nm sid) s = .next { s with chip :=
      (s.challenged i role.toNat sid.toNat peer.toNat port.toNat seq.toNat rid.toNat (nums nc) (nums nm)) } := by
  refine chipOnly_to s ((if_neg (fun e => Bool.false_ne_true ((sessionOpen_goes ha hs hu).symm.trans ?_))).trans
    ((if_neg (fun e => Bool.false_ne_true (hr.symm.trans e))).trans ?_))
  · simpa using e
  · rw [hi]
    rfl

end

/-- An open request that is not refused finds a free session, and its role is one of four. -/
theorem openRefused_false {s : State} {peer role : Nat} (h : s.openRefused peer role = false) :
    (∃ i, (List.range 16).find? (fun i => s.chip.getI sessAt Sess.state i == 0) = some i ∧ i < 16 ∧ s.chip.getI sessAt Sess.state i = 0) ∧ role ≤ 3 := by
  simp only [State.openRefused, Bool.or_eq_false_iff, Bool.not_eq_false', decide_eq_false_iff_not, Nat.not_lt] at h
  obtain ⟨⟨⟨hany, -⟩, hrole⟩, -⟩ := h
  refine ⟨?_, hrole⟩
  obtain ⟨i, hi⟩ := Option.isSome_iff_exists.1 ((List.find?_isSome (p := fun i => s.chip.getI sessAt Sess.state i == 0)).2 (List.any_eq_true.1 hany))
  exact ⟨i, hi, List.mem_range.1 (List.mem_of_find?_eq_some hi), 
    beq_iff_eq.1 (List.find?_some (p := fun i => s.chip.getI sessAt Sess.state i == 0) hi)⟩

/-! ### A proof (R448, R449) -/

/-- The registers of the session that has been proved. -/
def Chip.provedRegs (c : Chip) (i tick : Nat) : Chip :=
  ((c.putI sessAt Sess.state i 2).putI sessAt Sess.last_tick i tick).put slinkAt SLink.sessions (c.get slinkAt SLink.sessions + 1)

theorem provedRegs_answersAs (c : Chip) (i tick : Nat) : c.AnswersAs i (c.provedRegs i tick) :=
  (Chip.AnswersAs.state c i 2).trans ((Chip.AnswersAs.lastTick _ i tick).trans (.sessions _ i _))

/-- What a proof notes of the session beyond its registers. -/
def SessSt.provedAt (h : SessSt) (now : Nat) : SessSt := { h with lastAt := now, rtt := now - h.openAt }

/-- The session that has been proved. -/
def Chip.proved (c : Chip) (i : Nat) (c0 : Chip) : Chip :=
  ((c0.provedRegs i c.tick).setSess i (·.provedAt c.now)).record 29 0xFF 0 i [1, c.getI sessAt Sess.role i] [c.getI sessAt Sess.peer i]

theorem proved_answersAs (c : Chip) {i : Nat} (hi : i < 16) : c.AnswersAs i (c.proved i (c.netIn 32)) := by
  have hin := Chip.AnswersAs.of_only (netIn_only c 32) hi
  have hregs := provedRegs_answersAs (c.netIn 32) i c.tick
  have hsess := Chip.AnswersAs.setSess ((c.netIn 32).provedRegs i c.tick) i i (f := (·.provedAt c.now)) (fun _ => rfl)
  exact hin.trans (hregs.trans (hsess.trans (.record _ hi _ _ _ _ _ _)))

theorem proved_net (c c0 : Chip) (i : Nat) : (c.proved i c0).net =
    { c0.net with sess := upd c0.net.sess i (·.provedAt c.now) } := Chip.record_net _ _ _ _ _ _ _

theorem proved_state (c c0 : Chip) {i : Nat} (hi : i < 16) : (c.proved i c0).getI sessAt Sess.state i = 2 := by
  rw [Chip.proved, Chip.record_getI _ _ _ _ _ _ _ (by rw [sess_space _ _ (by change 0 + i * 4 < _; omega)]; decide), Chip.setSess_getI,
    Chip.provedRegs, getI_putSlink _ _ _ (by decide), getI_putSess_clear _ _ _ (by decide) (by rfl)]
  exact Chip.getI_putI_of_lt _ _ _ (by decide) (by decide)

/-- The answer to a proof that checks. -/
def Chip.accepted (c : Chip) (i rid : Nat) : Chip :=
  (c.proved i (c.netIn 32)).reply i 0x83 0 rid ([c.getI sessAt Sess.role i, 0, 0, 0] ++ leBytes 4 c.lease)

theorem proofRequest_accepted {s : State} {i : Fin 16} {rid : BitVec 16} {mac : List Byte} (ha : s.chip.anyStation = true)
    (hst : s.chip.getI sessAt Sess.state i = 1) (hm : mac.map (·.toNat) = s.chip.macOf i 0x03 0 rid.toNat []) :
    exec (.proofRequest i rid mac) s = .next { s with chip := s.chip.accepted i rid.toNat } := by
  have hok : (!(mac.map (·.toNat) == s.chip.macOf i 0x03 0 rid.toNat [])) = false := by
    rw [hm, beq_self_eq_true]
    rfl
  refine chipOnly_to s ((if_neg ?_).trans ((if_pos hst).trans ?_))
  · rw [ha]
    decide
  · exact if_neg (fun e => Bool.false_ne_true (hok.symm.trans e))

theorem proofRequest_failed {s : State} {i : Fin 16} {rid : BitVec 16} {mac : List Byte} (ha : s.chip.anyStation = true)
    (hst : s.chip.getI sessAt Sess.state i = 1) (hm : mac.map (·.toNat) ≠ s.chip.macOf i 0x03 0 rid.toNat []) :
    exec (.proofRequest i rid mac) s = .next { s with chip := (s.chip.netIn 32).proofFailed i } := by
  have hok : (!(mac.map (·.toNat) == s.chip.macOf i 0x03 0 rid.toNat [])) = true := by
    rw [beq_eq_false_iff_ne.2 hm]
    rfl
  refine chipOnly_to s ((if_neg ?_).trans ((if_pos hst).trans (if_pos hok)))
  rw [ha]
  decide

/-- A failed proof counted. -/
theorem proofFailed_counts (c : Chip) {i : Nat} (hi : i < 16) :
    (c.proofFailed i).get slinkAt SLink.auth_fail = min (c.get slinkAt SLink.auth_fail + 1) SLink.auth_fail.top ∧
      (c.proofFailed i).get slinkAt SLink.auth_failed = 1 ∧ (c.proofFailed i).emitted = c.emitted ∧
      (c.proofFailed i).getI sessAt Sess.state i = c.getI sessAt Sess.state i := by
  have hspace : spaceOf (Sess.state.at sessAt i) ≠ 10 := by
    rw [sess_space _ _ (by change 0 + i * 4 < _; omega)]
    decide
  have hcount : ∀ c1 : Chip, c1 = ((c.bump slinkAt SLink.auth_fail).put slinkAt SLink.auth_failed 1).record 29 0xFF 1 i
        [3, c.getI sessAt Sess.role i] [c.getI sessAt Sess.peer i] →
      c1.get slinkAt SLink.auth_fail = min (c.get slinkAt SLink.auth_fail + 1) SLink.auth_fail.top ∧ c1.get slinkAt SLink.auth_failed = 1 ∧
      c1.emitted = c.emitted ∧ c1.getI sessAt Sess.state i = c.getI sessAt Sess.state i := by
    rintro c1 rfl
    refine ⟨?_, ?_, Chip.record_emitted _ _ _ _ _ _ _, ?_⟩
    · rw [Chip.record_get _ _ _ _ _ _ _ (by decide), Chip.get_put_clear _ _ _ (by decide), Chip.bump_get_self _ _ (by decide)]
    · rw [Chip.record_get _ _ _ _ _ _ _ (by decide)]
      exact Chip.get_put_of_lt _ _ (by decide) (by decide)
    · rw [Chip.record_getI _ _ _ _ _ _ _ hspace, getI_putSlink _ _ _ (by decide)]
      exact getI_putSlink _ _ _ (by decide)
  rw [Chip.proofFailed]
  obtain ⟨h1, h2, h3, h4⟩ := hcount _ rfl
  dsimp only
  split
  · refine ⟨?_, ?_, ?_, ?_⟩
    · rw [Chip.record_get _ _ _ _ _ _ _ (by decide), Chip.get_put_clear _ _ _ (by decide), Chip.locksSync, Chip.get_put_clear _ _ _ (by decide)]
      exact h1
    · rw [Chip.record_get _ _ _ _ _ _ _ (by decide), Chip.get_put_clear _ _ _ (by decide), Chip.locksSync, Chip.get_put_clear _ _ _ (by decide)]
      exact h2
    · exact (Chip.record_emitted _ _ _ _ _ _ _).trans h3
    · rw [Chip.record_getI _ _ _ _ _ _ _ hspace, getI_putSlink _ _ _ (by decide), Chip.locksSync, getI_putSlink _ _ _ (by decide)]
      exact h4
  · exact ⟨h1, h2, h3, h4⟩

/-! ### Times of a session (R449, R450) -/

theorem sessionEnds_to {s : State} {i : Fin 16} {n : Nat} {cond : Prop} [Decidable cond] (h : ¬ cond) :
    chipOnly s (fun c => if cond then c else c.endSession i.val) = .next { s with chip := s.chip.endSession i } := chipOnly_to s (if_neg h)

theorem sessionTimed {k st since now n : Nat} (hst : st = k) (ht : since + n ≤ now) : ¬ ((st != k || decide (now < since + n)) = true) := by
  rw [hst, bne_self_eq_false, decide_eq_false (Nat.not_lt.2 ht)]
  decide

/-- A transfer that is aborted is nobody's. -/
theorem xferAbort_owner (c : Chip) : c.xferAbort.xfer.owner = none := by
  rw [Chip.xferAbort]
  split
  · next h =>
    simp only [Chip.xferOpen, Bool.not_eq_true', Bool.or_eq_false_iff, Option.isSome_eq_false_iff, Option.isNone_iff_eq_none] at h
    exact h.2
  · rw [Chip.record_xfer]
    rfl

theorem endSession_owner {c : Chip} {i : Nat} (h : c.getI sessAt Sess.state i ≠ 0) (hi : i < 16) : (c.endSession i).xfer.owner ≠ some i := by
  have hown : (c.when (c.xfer.owner == some i) Chip.xferAbort).xfer.owner ≠ some i := by
    rw [Chip.when]
    split
    · rw [xferAbort_owner]
      exact nofun
    · next hn => exact fun e => hn (by rw [e]; exact beq_self_eq_true _)
  have hstill : (c.when (c.xfer.owner == some i) Chip.xferAbort).getI sessAt Sess.state i ≠ 0 := by
    rw [Chip.when]
    split
    · rw [(xferAbort_net c).2.2 (sess_space _ _ (by change 0 + i * 4 < _; omega))]
      exact h
    · exact h
  obtain ⟨d, hw, -, he⟩ := closeSess_ends hstill
  rw [Chip.endSession, he, Chip.setSess_xfer, hw.same (·.xfer) (fun _ _ => rfl)]
  exact hown

/-! ### An address that is free again (R449) -/

/-- The chip once the lockout of an address has ended. -/
def Chip.unlocked (c : Chip) (peer : Nat) : Chip :=
  (c.setNet (fun n => { n with locks := n.locks.filter (fun l => !(l.1 == peer && decide (l.2 ≤ c.now))) })).locksSync

theorem unlocked_locks (c : Chip) (peer : Nat) (l : Nat × Nat) :
    l ∈ (c.unlocked peer).net.locks ↔ l ∈ c.net.locks ∧ ¬ (l.1 = peer ∧ l.2 ≤ c.now) := by
  change l ∈ c.net.locks.filter _ ↔ _
  simp [imp_iff_not_or]

theorem unlocked_count (c : Chip) (peer : Nat) : (c.unlocked peer).get slinkAt SLink.locked_out = min (c.unlocked peer).net.locks.length 255 := by
  rw [Chip.unlocked, Chip.locksSync, Chip.get_put_of_lt _ _ (by decide) (Nat.lt_of_le_of_lt (Nat.min_le_right _ _) (by decide))]
  rfl

theorem unlocked_words (c : Chip) (peer : Nat) : c.WordsBut (fun a => a = SLink.locked_out.at slinkAt 0) (c.unlocked peer) := by
  rw [Chip.unlocked, Chip.locksSync]
  exact fun a ha => Chip.word_put_other _ _ ha

theorem unlocked_frame (c : Chip) (peer : Nat) : c.unlocked peer = { c with regs := (c.unlocked peer).regs, net := (c.unlocked peer).net } := rfl

/-- Settles O36: sessions open and close. -/
theorem sessionsOpenAndClose : Obligations.SessionsOpenAndClose := by
  intro s hs
  have hl := hs.sess
  refine ⟨fun peer port seq rid role nc nm sid ha hsid hu => ⟨fun hr => ?_, fun hr => ?_⟩, fun i rid mac ha hst => ⟨fun hm => ?_, fun hm => ?_⟩,
    fun i => ⟨fun hst ht => ?_, fun hst ht => ?_⟩, fun peer => ?_⟩
  · obtain ⟨hnet, hem⟩ := sendTo_sends s.chip 52 peer.toNat port.toNat (openMessage 0xFF 0 seq.toNat rid.toNat (leBytes 4 7)) ha
    refine ⟨_, sessionOpen_denied ha hsid hu hr, hem, congrArg (·.sess) hnet, .chip s _, fun i hi => ?_⟩
    have hspace : 8 ≤ spaceOf (Sess.state.at sessAt i) := by
      rw [sess_space _ _ (by change 0 + i * 4 < _; omega)]
      decide
    exact ((netSend_sends _ _ _).getI hspace).trans ((netIn_passes _ _).getI hspace)
  · obtain ⟨⟨i, hfind, hi, hfree⟩, hrole⟩ := openRefused_false hr
    have hin := netIn_passes s.chip 52
    obtain ⟨h1, h2, h3, h4⟩ := opened_words (s.chip.netIn 52) i port.toNat (Nat.lt_of_le_of_lt hrole (by decide) : role.toNat < 256) sid.isLt peer.isLt
      (tick := s.chip.tick)
    have hsent := netSend_sends (((s.chip.netIn 52).opened i role.toNat sid.toNat peer.toNat port.toNat s.chip.tick).setSess i
      (fun _ => s.freshSess role.toNat (nums nc) (nums nm))) 2 (leBytes 4 peer.toNat ++ beBytes 2 port.toNat ++
      openMessage 0x81 sid.toNat seq.toNat rid.toNat (nums nm ++ s.chip.serial))
    have hnet : ((s.chip.netIn 52).opened i role.toNat sid.toNat peer.toNat port.toNat s.chip.tick).net = s.chip.net := hin.net
    have hstations := hin.stations.trans (opened_stations (s.chip.netIn 52) i role.toNat sid.toNat peer.toNat port.toNat s.chip.tick)
    have hget : ∀ {f : Field}, f.first = 0 ∨ f.first = 1 → f.stride = 4 →
        (s.challenged i role.toNat sid.toNat peer.toNat port.toNat seq.toNat rid.toNat (nums nc) (nums nm)).getI sessAt f i =
          ((s.chip.netIn 52).opened i role.toNat sid.toNat peer.toNat port.toNat s.chip.tick).getI sessAt f i := fun hf hst =>
      (hsent.getI (by rw [sess_space _ _ (by rw [hst]; omega)]; decide)).trans (Chip.setSess_getI _ _ _ _ _ _)
    have hsess := sess_setSess_same ((s.chip.netIn 52).opened i role.toNat sid.toNat peer.toNat port.toNat s.chip.tick) (i := i)
      (fun _ => s.freshSess role.toNat (nums nc) (nums nm)) (by rw [hnet, hl]; exact hi)
    refine ⟨_, i, sessionOpen_challenged ha hsid hu hr hfind, hi, hfree, (hget (.inl rfl) rfl).trans h1, (hget (.inl rfl) rfl).trans h2,
      (hget (.inl rfl) rfl).trans h3, (hget (.inr rfl) rfl).trans h4,
      (congrArg (·.openAt) ((hsent.sess i).trans hsess)), (congrArg (·.seq) ((hsent.sess i).trans hsess)), ?_, fun j hj => ?_, .chip s _⟩
    · refine hsent.emitted.trans ?_
      rw [(hstations.trans (stations_setSess _ i _)).onStations]
      exact congrArg (· ++ _) (netIn_emitted s.chip 52)
    · refine (hsent.sess j).trans ?_
      rw [sess_setSess_other _ _ hj, Chip.sess, hnet, Chip.sess]
  · have hlen : i.val < (s.chip.proved i (s.chip.netIn 32)).net.sess.length := by
      rw [proved_net, (netIn_passes s.chip 32).net, upd_length, hl]
      exact i.isLt
    have has := proved_answersAs s.chip i.isLt
    refine ⟨_, proofRequest_accepted ha hst hm, ?_, ?_, ?_, .chip s _⟩
    · exact (reply_getI _ _ _ _ _ _ (by rw [sess_space _ _ (by change 0 + i.val * 4 < _; omega)]; decide)).trans (proved_state _ _ i.isLt)
    · refine (congrArg (·.lastAt) (reply_sess_same _ _ _ _ _ hlen)).trans ?_
      change (Chip.sess _ _).lastAt = _
      rw [Chip.sess, proved_net, (netIn_passes s.chip 32).net, nth_upd_same _ _ _ _ (by rw [hl]; exact i.isLt)]
      rfl
    · refine (reply_emitted _ _ _ _ _ _).trans ?_
      rw [has.emitted, has.frames]
      rfl
  · obtain ⟨h1, h2, h3, h4⟩ := proofFailed_counts (s.chip.netIn 32) i.isLt
    refine ⟨_, proofRequest_failed ha hst hm, ?_, h3.trans (netIn_emitted _ _), ?_, h2, .chip s _⟩
    · rw [h4, (netIn_passes _ _).getI (by rw [sess_space _ _ (by change 0 + i.val * 4 < _; omega)]; decide), hst]
    · rw [h1]
      exact congrArg (fun m => min (m + 1) SLink.auth_fail.top) ((netIn_passes s.chip 32).getI (by decide))
  · obtain ⟨h1, h2, h3, -⟩ := endSession_ends i.isLt hl (by rw [hst]; decide)
    exact ⟨_, chipOnly_to s (if_neg (sessionTimed hst ht)), h1, h2, h3, .chip s _⟩
  · obtain ⟨h1, h2, h3, -⟩ := endSession_ends i.isLt hl (by rw [hst]; decide)
    exact ⟨_, chipOnly_to s (if_neg (sessionTimed hst ht)), h1, h2, h3, endSession_owner (by rw [hst]; decide) i.isLt, .chip s _⟩
  · exact ⟨_, chipOnly_to s (d := s.chip.unlocked peer.toNat) rfl, unlocked_locks _ _, unlocked_count _ _,
      congrArg (fun c => { s with chip := c }) (unlocked_frame s.chip peer.toNat), (unlocked_words s.chip peer.toNat).kept⟩

end Sys2Proof.Machine
end

section
/-! SUPPORT. O38: reads, writes and forces of a session. -/

namespace Sys2Proof.Machine

/-! ### What taking a request leaves to be read -/

section
variable (c : Chip) {i : Nat} (typ seq rid : Nat) (body : List Nat) (parts : Nat)

/-- A request taken changes words, the counters beside them and the sessions. -/
theorem requested_frame : ∃ rg cs n nt, c.requested i typ seq rid body parts = { c with regs := rg, ctrs := cs, freeCtr := n, net := nt } := by
  obtain ⟨⟨rg, cs, n, hd⟩, -⟩ := netIn_only c (32 + body.length)
  rw [Chip.requested, hd]
  exact ⟨_, cs, n, _, rfl⟩

theorem requested_word {a : Nat} (h : 8 ≤ spaceOf a) (ha : a < sessAt) : (c.requested i typ seq rid body parts).word a = c.word a := by
  rw [Chip.requested, Chip.takeRequest, Chip.setSess_word, Chip.word_putI_other _ _ (fun e => ?_), (netIn_passes c _).words a (not_netWord h)]
  rw [e, Field.at] at ha
  omega

theorem requested_get {b : Nat} {f : Field} (h : 8 ≤ spaceOf (f.at b 0)) (ha : f.at b 0 < sessAt) :
    (c.requested i typ seq rid body parts).get b f = c.get b f := Chip.get_congr (requested_word c typ seq rid body parts h ha)

theorem requested_restricted : (c.requested i typ seq rid body parts).restricted = c.restricted := by
  rw [Chip.restricted, Chip.restricted, Chip.phase, Chip.phase, Chip.flag, Chip.flag, requested_get _ _ _ _ _ _ (by decide) (by decide),
    requested_get _ _ _ _ _ _ (by decide) (by decide)]

theorem requested_roleIn (hi : i < 16) (roles : List Nat) : (c.requested i typ seq rid body parts).roleIn i roles = c.roleIn i roles := by
  have hget : ∀ {f : Field}, f.first = 0 → f.stride = 4 → (c.requested i typ seq rid body parts).getI sessAt f i = c.getI sessAt f i := fun hf hs =>
    requested_getI _ _ _ _ _ _ hi (by rw [sess_space _ _ (by rw [hf, hs]; omega)]; decide)
      (by rw [Field.at, Field.at, hf, hs]; change _ ≠ sessAt + 3 + i * 4; omega)
  rw [Chip.roleIn, Chip.roleIn, hget rfl rfl, hget rfl rfl]

theorem requested_holder : (c.requested i typ seq rid body parts).holder = c.holder := by
  rw [Chip.holder, Chip.holder, requested_get _ _ _ _ _ _ (by decide) (by decide)]

theorem forceEntry_space {q k : Nat} (hq : q < 256) (hk : k < 4) : 8 ≤ spaceOf (forceEntry q + k) ∧ forceEntry q + k < sessAt := by
  rw [forceEntry, forceAt, spaceOf, sessAt]
  omega

theorem requested_forceWords {q : Nat} (hq : q < 256) : (c.requested i typ seq rid body parts).forceWords q = c.forceWords q := by
  have hold : (List.range 4).map (fun k => (c.requested i typ seq rid body parts).nat (forceEntry q + k)) =
      (List.range 4).map (fun k => c.nat (forceEntry q + k)) := by
    refine List.map_congr_left (fun k hk => ?_)
    obtain ⟨h1, h2⟩ := forceEntry_space hq (List.mem_range.1 hk)
    exact congrArg BitVec.toNat (requested_word c typ seq rid body parts h1 h2)
  rw [Chip.forceWords, Chip.forceWords, requested_eng, hold]

theorem requested_forceTaken {q : Nat} (hq : q < 256) : (c.requested i typ seq rid body parts).forceTaken q = c.forceTaken q := by
  have hat : FEntry.ekind.at forceAt q = forceEntry q + 0 := by
    change forceAt + 0x100 + q * 4 = forceAt + 0x100 + 4 * q + 0
    omega
  obtain ⟨h1, h2⟩ := forceEntry_space hq (k := 0) (by decide)
  have hk : (c.requested i typ seq rid body parts).forceKind q = c.forceKind q :=
    Chip.getI_congr (by rw [hat]; exact requested_word c typ seq rid body parts h1 h2)
  rw [Chip.forceTaken, Chip.forceTaken, requested_eng, hk]

theorem requested_forceTarget (kind ty r sub idx : Nat) :
    (c.requested i typ seq rid body parts).forceTarget kind ty r sub idx = c.forceTarget kind ty r sub idx := by
  have hfit : (c.requested i typ seq rid body parts).fitted r = c.fitted r :=
    congrArg (fun n : Nat => n.testBit r) (requested_get c typ seq rid body parts (by decide) (by decide))
  obtain ⟨rg, cs, n, nt, he⟩ := requested_frame c typ seq rid body parts (i := i)
  have hclosed := regionClosed_congr (c := c) (d := c.requested i typ seq rid body parts) (by rw [he]) r
  have hinv : (c.requested i typ seq rid body parts).inv idx = c.inv idx := by rw [Chip.inv, Chip.inv, requested_eng]
  have hport : (c.requested i typ seq rid body parts).port r = c.port r := by rw [he]; rfl
  rw [Chip.forceTarget, Chip.forceTarget, hfit, hclosed, hinv, hport]

/-- Two predicates that agree on a list. -/
theorem any_congr_mem {α : Type} {p q : α → Bool} {l : List α} (h : ∀ x ∈ l, p x = q x) : l.any p = l.any q := by
  rw [Bool.eq_iff_iff, List.any_eq_true, List.any_eq_true]
  exact exists_congr (fun x => and_congr_right (fun hx => by rw [h x hx]))

theorem all_congr_mem {α : Type} {p q : α → Bool} {l : List α} (h : ∀ x ∈ l, p x = q x) : l.all p = l.all q := by
  rw [Bool.eq_iff_iff, List.all_eq_true, List.all_eq_true]
  exact forall_congr' (fun x => forall_congr' (fun hx => by rw [h x hx]))

theorem requested_forceRefusal (kind ty r sub idx : Nat) :
    (c.requested i typ seq rid body parts).forceRefusal kind ty r sub idx = c.forceRefusal kind ty r sub idx := by
  obtain ⟨rg, cs, n, nt, he⟩ := requested_frame c typ seq rid body parts (i := i)
  have hchan : ∀ g, (c.requested i typ seq rid body parts).chan g = c.chan g := fun g => by rw [he]; rfl
  have hsame : ∀ p : List Nat → Bool, (List.range 256).any (fun q => p ((c.requested i typ seq rid body parts).forceWords q)) =
      (List.range 256).any (fun q => p (c.forceWords q)) := fun p =>
    any_congr_mem (fun q hq => by rw [requested_forceWords c typ seq rid body parts (List.mem_range.1 hq)])
  have htaken : (List.range 256).all (c.requested i typ seq rid body parts).forceTaken = (List.range 256).all c.forceTaken :=
    all_congr_mem (fun q hq => requested_forceTaken c typ seq rid body parts (List.mem_range.1 hq))
  rw [Chip.forceRefusal, Chip.forceRefusal, htaken, hchan, requested_holder]
  have hany := hsame (fun ws => let w := nth 0 ws 0
    let j := nth 0 ws 1
    w / 2 ^ 24 == kind && w / 2 ^ 8 % 2 ^ 8 == r && w % 2 ^ 8 == sub
      && (if kind ≤ 3 then j == idx else decide (j < idx + tyBytes ty && idx < j + tyBytes (w / 2 ^ 16 % 2 ^ 8))))
  exact congrArg (fun b : Bool => if b = true then 0x21 else _) hany

theorem requested_freeEntry : (List.range 256).find? (fun q => !(c.requested i typ seq rid body parts).forceTaken q) =
    (List.range 256).find? (fun q => !c.forceTaken q) :=
  List.find?_congr (fun q hq => congrArg (!·) (requested_forceTaken c typ seq rid body parts (List.mem_range.1 hq)))

end

/-! ### Answers given at once -/

/-- The answer, at once, from a chip that answers as the one that took the request. -/
theorem respond_answers {s : State} {d : Chip} {i typ seq rid : Nat} (bs : List Nat) (hi : i < 16) (ha : s.chip.AnswersAs i d) (hl : d.net.sess.length = 16)
    (hp : (d.sess i).pend = [{ seq := seq, rid := rid, typ := typ, parts := [none] }]) :
    ∃ e, ({ s with chip := d } : State).respond i seq bs = { s with chip := e } ∧
      e.emitted = s.chip.emitted ++ s.chip.answerFrames i (typ + 0x80) seq rid bs ∧ e.eng = d.eng := by
  have h := (ha.trans (partGiven_answersAs _ ⟨i, seq, 0⟩ bs i)).trans (.setSess _ i i (f := fun x => { x with pend := [] }) (fun _ => rfl))
  refine ⟨_, respond_one (by rw [hl]; exact hi) hp, ?_, ?_⟩
  · rw [reply_emitted, h.emitted, h.frames]
  · rw [reply_eng]
    rfl

/-- The answer at once to a request that has just been taken. -/
theorem respond_taken {s : State} {i typ seq rid : Nat} {body : List Nat} (bs : List Nat) (hs : Shaped s) (hi : i < 16) (hp : (s.chip.sess i).pend = []) :
    ∃ e, ({ s with chip := s.chip.requested i typ seq rid body 1 } : State).respond i seq bs = { s with chip := e } ∧
      e.emitted = s.chip.emitted ++ s.chip.answerFrames i (typ + 0x80) seq rid bs ∧ e.eng = s.chip.eng := by
  obtain ⟨e, h1, h2, h3⟩ := respond_answers (s := s) bs hi (requested_answersAs s.chip typ seq rid body 1 hi) (by rw [requested_length, hs.sess])
    (requested_pend s.chip typ seq rid body 1 (by rw [hs.sess]; exact hi) hp)
  exact ⟨e, h1, h2, h3.trans (requested_eng _ _ _ _ _ _)⟩

/-! ### Writes that are refused (R454) -/

/-- The write of a word that is refused before S8. -/
theorem writeWord_restricted {s : State} (i v : Nat) {a : Nat} (asked : Option AskedBy) (hr : s.chip.restricted = true) (ha : a ≠ imageAt + 0x20) :
    s.writeWord i a v asked = { s with chip := s.chip.answerTo asked (statusWords [6, 0]) } := by
  rw [State.writeWord]
  refine (if_pos ?_).trans rfl
  rw [hr, Bool.true_and, bne_iff_ne]
  exact ha

/-- Parts 0 to k − 1 of an answer are there, n more are not. -/
def partsFrom (b : List Nat) (k n : Nat) : List (Option (List Nat)) := List.replicate k (some b) ++ List.replicate n none

theorem setAt_partsFrom (b : List Nat) (k n : Nat) : setAt (partsFrom b k (n + 1)) k (some b) = partsFrom b (k + 1) n := by
  induction k with
  | zero => rfl
  | succ k ih =>
    have hc : partsFrom b (k + 1) (n + 1) = some b :: partsFrom b k (n + 1) := rfl
    have hc' : partsFrom b (k + 1 + 1) n = some b :: partsFrom b (k + 1) n := rfl
    rw [hc, hc', ← ih]
    rfl

theorem partsFrom_all (b : List Nat) (k n : Nat) : (partsFrom b k n).all (·.isSome) = decide (n = 0) := by
  rw [partsFrom, List.all_append, List.all_replicate, List.all_replicate]
  cases n with
  | zero => simp
  | succ n => simp

theorem partsFrom_whole (b : List Nat) (k : Nat) : (partsFrom b k 0).flatMap (·.getD []) = (List.range k).flatMap (fun _ => b) := by
  rw [partsFrom, List.replicate_zero, List.append_nil]
  induction k with
  | zero => rfl
  | succ k ih => rw [List.replicate_succ', List.range_succ, List.flatMap_append, List.flatMap_append, ih]; rfl

/-- Every pair of a write refused: the last one sends the answer. -/
theorem writes_restricted {s : State} {i seq rid typ : Nat} (hi : i < 16) (ps : List (Nat × Nat)) :
    ∀ (k : Nat) (d : Chip), ps ≠ [] → (∀ p ∈ ps, p.1 ≠ imageAt + 0x20) → d.restricted = true → s.chip.AnswersAs i d → d.net.sess.length = 16 →
      (d.sess i).pend = [{ seq := seq, rid := rid, typ := typ, parts := partsFrom (statusWords [6, 0]) k ps.length }] →
      ∃ e, (ps.zipIdx k).foldl (fun s p => s.writeWord i p.1.1 p.1.2 (some { session := i, seq := seq, part := p.2 })) { s with chip := d } =
          { s with chip := e } ∧
        e.emitted = s.chip.emitted ++ s.chip.answerFrames i (typ + 0x80) seq rid ((List.range (k + ps.length)).flatMap (fun _ => statusWords [6, 0])) := by
  induction ps with
  | nil => exact fun _ _ h => absurd rfl h
  | cons p ps ih =>
    intro k d _ hps hr ha hl hp
    have hone : ({ s with chip := d } : State).writeWord i p.1 p.2 (some ⟨i, seq, k⟩) = { s with chip := d.answer ⟨i, seq, k⟩ (statusWords [6, 0]) } :=
      writeWord_restricted i p.2 _ hr (hps p List.mem_cons_self)
    have hgiven := ha.trans (partGiven_answersAs d ⟨i, seq, k⟩ (statusWords [6, 0]) i)
    have hpart : ∀ n, ({ seq := seq, rid := rid, typ := typ, parts := partsFrom (statusWords [6, 0]) k (n + 1) } : PendReq).withPart k (statusWords [6, 0]) =
        { seq := seq, rid := rid, typ := typ, parts := partsFrom (statusWords [6, 0]) (k + 1) n } := fun n =>
      congrArg (fun l => ({ seq := seq, rid := rid, typ := typ, parts := l } : PendReq)) (setAt_partsFrom _ _ _)
    have hlen : i < d.net.sess.length := by
      rw [hl]
      exact hi
    rw [List.zipIdx_cons, List.foldl_cons, hone]
    cases ps with
    | nil =>
      have hall : (partsFrom (statusWords [6, 0]) (k + 1) 0).all (·.isSome) = true := by
        rw [partsFrom_all]
        rfl
      refine ⟨_, rfl, ?_⟩
      have h2 := hgiven.trans (.setSess _ i i (f := fun x => { x with pend := [] }) (fun _ => rfl))
      rw [answer_ends (a := ⟨i, seq, k⟩) hlen hp rfl ((congrArg (fun q : PendReq => q.parts.all (·.isSome)) (hpart 0)).trans hall), reply_emitted, h2.emitted,
        h2.frames]
      exact congrArg (fun b => s.chip.emitted ++ s.chip.answerFrames i (typ + 0x80) seq rid b)
        ((congrArg (fun q : PendReq => q.parts.flatMap (·.getD [])) (hpart 0)).trans (partsFrom_whole _ _))
    | cons q qs =>
      have hwait : (partsFrom (statusWords [6, 0]) (k + 1) (qs.length + 1)).all (·.isSome) = false := by
        rw [partsFrom_all]
        rfl
      rw [answer_waits (a := ⟨i, seq, k⟩) hlen hp rfl
        ((congrArg (fun q : PendReq => q.parts.all (·.isSome)) (hpart (qs.length + 1))).trans hwait)]
      obtain ⟨e, h1, h2⟩ := ih (k + 1) (d.partGiven ⟨i, seq, k⟩ (statusWords [6, 0])) (List.cons_ne_nil _ _)
        (fun x hx => hps x (List.mem_cons_of_mem _ hx)) hr hgiven (by rw [Chip.partGiven, setSess_length, hl])
        ((partGiven_pend (a := ⟨i, seq, k⟩) _ hlen hp rfl).trans (congrArg (· :: []) (hpart _)))
      refine ⟨e, h1, h2.trans ?_⟩
      have hk : k + 1 + (q :: qs).length = k + (p :: q :: qs).length := by
        simp only [List.length_cons]
        omega
      rw [hk]

/-! ### The bits that a write clears (R14) -/
theorem and_mod_two (w x : Nat) : (w &&& x) % 2 = 1 ↔ w % 2 = 1 ∧ x % 2 = 1 := by
  have h := Nat.testBit_and w x 0
  simp only [Nat.testBit_zero, ← Bool.decide_and, decide_eq_decide] at h
  exact h

/-- Taking from a number bits that it has clears them. -/
theorem testBit_sub_and (w x j : Nat) : (w - (w &&& x)).testBit j = (w.testBit j && !x.testBit j) := by
  induction j generalizing w x with
  | zero =>
    have h0 := and_mod_two w x
    have h1 : w &&& x ≤ w := Nat.and_le_left
    have h2 : (w - (w &&& x)) % 2 = 1 ↔ w % 2 = 1 ∧ ¬ x % 2 = 1 := by omega
    rw [Nat.testBit_zero, Nat.testBit_zero, Nat.testBit_zero, ← decide_not, ← Bool.decide_and]
    exact decide_eq_decide.2 h2
  | succ j ih =>
    have h0 := and_mod_two w x
    have h1 : w &&& x ≤ w := Nat.and_le_left
    have hhalf : (w - (w &&& x)) / 2 = w / 2 - (w / 2 &&& x / 2) := by
      rw [← Nat.and_div_two]
      omega
    rw [Nat.testBit_succ, Nat.testBit_succ, Nat.testBit_succ, hhalf, ih]

theorem clearSticky_word {c : Chip} {a : Nat} (v : Nat) (hs : 8 ≤ spaceOf a) : ∃ cmp, c.clearSticky a v =
    { c.setNat a (c.nat a - (c.nat a &&& (v &&& accessMask a .w1c))) with aon := { c.aon with cmp := cmp } } ∧
    (a ≠ supplyAt + 0xE → cmp = c.aon.cmp) := by
  have hno : (spaceOf a < 8 && a == ctrAt (spaceOf a) + 7) = false := by
    rw [decide_eq_false (Nat.not_lt.2 hs)]
    rfl
  rw [Chip.clearSticky, hno]
  by_cases he : a = supplyAt + 0xE
  · have ht : (a == supplyAt + 0xE) = true := beq_iff_eq.2 he
    rw [ht]
    exact ⟨_, rfl, fun h => absurd he h⟩
  · have hf : (a == supplyAt + 0xE) = false := beq_eq_false_iff_ne.2 he
    rw [hf]
    exact ⟨_, rfl, fun _ => rfl⟩

theorem clearSticky_bits {c : Chip} {a : Nat} (v : Nat) (hs : 8 ≤ spaceOf a) (k : Nat) :
    ((c.clearSticky a v).nat a).testBit k = ((c.nat a).testBit k && !(v.testBit k && (accessMask a .w1c).testBit k)) := by
  obtain ⟨cmp, he, -⟩ := clearSticky_word (c := c) v hs
  have hnat : (c.clearSticky a v).nat a = c.nat a - (c.nat a &&& (v &&& accessMask a .w1c)) := by
    rw [he]
    refine (Chip.nat_setNat_same c a _).trans (Nat.mod_eq_of_lt ?_)
    exact Nat.lt_of_le_of_lt (Nat.sub_le _ _) (c.word a).isLt
  rw [hnat, testBit_sub_and, Nat.testBit_and]

/-- A write to a word of W1C fields beyond the regions. -/
theorem parameterWrite_sticky {s : State} {i : Fin 16} {addr value : BitVec 32} (hrole : s.chip.roleIn i [1, 2, 3] = true)
    (hr : s.chip.restricted = false) (hacc : s.chip.accessOf addr.toNat = 0) (hinst : isInst addr.toNat = false) (hconst : isConst addr.toNat = false)
    (honl : hasAccess addr.toNat .onl = false) (hcmd : hasAccess addr.toNat .cmd = false) (hw1c : hasAccess addr.toNat .w1c = true)
    (hs : 8 ≤ spaceOf addr.toNat) :
    exec (.parameterWrite i addr value) s = .next { s with chip := s.chip.clearSticky addr.toNat value.toNat } := by
  have hopen : s.chip.getI sessAt Sess.state i = 2 := by
    rw [Chip.roleIn, Bool.and_eq_true, beq_iff_eq] at hrole
    exact hrole.1
  refine next_congr ((if_pos hopen).trans ?_)
  rw [State.writeWord]
  simp only [hr, hacc, hinst, hconst, honl, hcmd, hw1c, hrole, Bool.false_and, Bool.or_false, Bool.false_eq_true, if_false, if_true, Bool.not_true]
  have hcount : (s.chip.clearSticky addr.toNat value.toNat).countWord addr.toNat true 3 1 = s.chip.clearSticky addr.toNat value.toNat := if_pos hs
  exact congrArg (fun c => ({ s with chip := c } : State)) hcount

/-! ### Forces (R169, R541) -/

theorem forceWord_fields {k t r b : Nat} (hk : k < 256) (ht : t < 256) (hr : r < 256) (hb : b < 256) :
    (k * 2 ^ 24 + t * 2 ^ 16 + r * 2 ^ 8 + b) / 2 ^ 24 % 2 ^ 8 = k ∧ (k * 2 ^ 24 + t * 2 ^ 16 + r * 2 ^ 8 + b) / 2 ^ 16 % 2 ^ 8 = t ∧
      (k * 2 ^ 24 + t * 2 ^ 16 + r * 2 ^ 8 + b) / 2 ^ 8 % 2 ^ 8 = r ∧ (k * 2 ^ 24 + t * 2 ^ 16 + r * 2 ^ 8 + b) % 2 ^ 8 = b := by omega

/-- A force that is accepted waits with the boundary's edits. -/
theorem forceSet_accepted {c : Chip} {k t r b index lo hi e : Nat} (asked : Option AskedBy) (hk : k < 256) (ht : t < 256) (hr : r < 256) (hb : b < 256)
    (h1 : c.forceTarget k t r b index = 0) (h2 : c.forceRefusal k t r b index = 0) (h3 : c.get engineAt Engine.state = 1)
    (he : (List.range 256).find? (fun i => !c.forceTaken i) = some e) :
    c.forceSet [k * 2 ^ 24 + t * 2 ^ 16 + r * 2 ^ 8 + b, index, lo, hi] asked = c.setEng (fun g => { g with edits := g.edits ++
      [⟨e, some ([k * 2 ^ 24 + t * 2 ^ 16 + r * 2 ^ 8 + b, index, lo] ++ [if t = tyCal then hi else 0]), asked⟩] }) := by
  obtain ⟨w1, w2, w3, w4⟩ := forceWord_fields hk ht hr hb
  have hn : ∀ w : Nat, nth 0 [w, index, lo, hi] 0 = w ∧ nth 0 [w, index, lo, hi] 1 = index ∧ nth 0 [w, index, lo, hi] 2 = lo ∧ nth 0 [w, index, lo, hi] 3 = hi :=
    fun _ => ⟨rfl, rfl, rfl, rfl⟩
  obtain ⟨n0, n1, n2, n3⟩ := hn (k * 2 ^ 24 + t * 2 ^ 16 + r * 2 ^ 8 + b)
  rw [Chip.forceSet, forceWordsOf]
  simp only [n0, n1, n2, n3, w1, w2, w3, w4, h1, h2, h3, he, bne_self_eq_false, Bool.false_eq_true, if_false]
  rfl

/-- The release of an entry that is none, or a free one, is answered at once; that of a taken one waits. -/
theorem forceRelease_none {c : Chip} {q : Nat} (asked : Option AskedBy) (h : 256 ≤ q) : c.forceRelease q asked = c.answerTo asked (statusWords [1, 0]) :=
  if_pos h

theorem forceRelease_free {c : Chip} {q : Nat} (asked : Option AskedBy) (h : q < 256) (hh : c.holder = true) (ht : c.forceTaken q = false) :
    c.forceRelease q asked = c.answerTo asked (statusWords [0, c.get engineAt Engine.cycle_count]) := by
  refine (if_neg (by omega)).trans ((if_neg ?_).trans (if_pos ?_))
  · rw [hh]
    decide
  · rw [ht]
    rfl

theorem forceRelease_taken {c : Chip} {q : Nat} (asked : Option AskedBy) (h : q < 256) (hh : c.holder = true) (ht : c.forceTaken q = true)
    (hr : c.get engineAt Engine.state = 1) :
    c.forceRelease q asked = c.setEng (fun e => { e with edits := e.edits ++ [{ entry := q, words := none, session := asked }] }) := by
  refine (if_neg (by omega)).trans ((if_neg ?_).trans ((if_neg ?_).trans (if_neg ?_)))
  · rw [hh]
    decide
  · rw [ht]
    decide
  · rw [hr]
    decide

/-- Settles O38: reads, writes and forces of a session. -/
theorem readsWritesAndForces : Obligations.ReadsWritesAndForces := by
  intro i seq rid mac s hs hp
  have hi := i.isLt
  have hl := hs.sess
  refine ⟨fun addrs h => ?_, fun pairs hne hr hall h => ?_, fun addr value h => ?_,
    fun addr value hrole hr hacc hinst hconst honl hcmd hw1c hspace => ?_, fun kind type region sub index lo up h => ⟨fun hr => ?_, fun hr hrole => ?_,
      fun hr hrole htgt href hrun e he => ?_⟩, fun index h hr hrole => ⟨fun hq => ?_, fun hq hhold => ⟨fun htaken => ?_, fun htaken hrun => ?_⟩⟩⟩
  · set as := addrs.map (·.toNat) with has
    have hcount : (s.chip.requested i 0x10 seq.toNat rid.toNat (leBytes 4 as.length ++ as.flatMap (leBytes 4)) 1).CountOnly
        ((s.chip.requested i 0x10 seq.toNat rid.toNat (leBytes 4 as.length ++ as.flatMap (leBytes 4)) 1).each
          (as.filter (fun a => ((s.chip.requested i 0x10 seq.toNat rid.toNat (leBytes 4 as.length ++ as.flatMap (leBytes 4)) 1).readWord a).1 == 0))
          (fun c a => c.countWord a false 3 1)) := .each _ (fun c a _ => c.countWord_countOnly a false 3 1) _
    have hnet := (Chip.Passes.of_count hcount).net
    obtain ⟨e, h1, h2, -⟩ := respond_answers (s := s) (typ := 0x10) (seq := seq.toNat) (rid := rid.toNat)
      (Chip.readAnswer (s.chip.requested i 0x10 seq.toNat rid.toNat (leBytes 4 as.length ++ as.flatMap (leBytes 4)) 1) as) hi
      ((requested_answersAs s.chip 0x10 seq.toNat rid.toNat _ 1 hi).trans (.of_only hcount hi)) (by rw [hnet, requested_length, hl])
      (by rw [Chip.sess, hnet]; exact requested_pend s.chip _ _ _ _ _ (by rw [hl]; exact hi) hp)
    exact ⟨_, next_congr ((request_process h).trans h1), h2, .chip s _⟩
  · set ps := pairs.map (fun p => (p.1.toNat, p.2.toNat)) with hps
    have hlen : ps.length = pairs.length := List.length_map _
    have haddr : ∀ p ∈ ps, p.1 ≠ imageAt + 0x20 := fun p hpm => by
      obtain ⟨q, hq, rfl⟩ := List.mem_map.1 hpm
      exact bne_iff_ne.1 (List.all_eq_true.1 hall q hq)
    obtain ⟨e, h1, h2⟩ := writes_restricted (s := s) (seq := seq.toNat) (rid := rid.toNat) (typ := 0x12) hi ps 0
      (s.chip.requested i 0x12 seq.toNat rid.toNat (leBytes 4 ps.length ++ ps.flatMap (fun p => leBytes 4 p.1 ++ leBytes 4 p.2)) ps.length)
      (fun hnil => hne (List.map_eq_nil_iff.1 hnil)) haddr ((requested_restricted _ _ _ _ _ _).trans hr)
      (requested_answersAs _ _ _ _ _ _ hi) (by rw [requested_length, hl]) (requested_pend _ _ _ _ _ _ (by rw [hl]; exact hi) hp)
    refine ⟨_, next_congr ((request_process h).trans h1), h2.trans ?_, .chip s _⟩
    have hbody : (List.range (0 + ps.length)).flatMap (fun _ => statusWords [6, 0]) = pairs.flatMap (fun _ => statusWords [6, 0]) := by
      rw [Nat.zero_add, hlen]
      simp only [List.flatMap_def, List.map_const', List.length_range]
    rw [hbody]
    rfl
  · by_cases hst : s.chip.getI sessAt Sess.state i = 2
    · obtain ⟨hr, ha⟩ := h.resolve_left (fun hn => hn hst)
      exact next_congr ((if_pos hst).trans (writeWord_restricted i value.toNat none hr ha))
    · exact next_congr (if_neg hst)
  · obtain ⟨cmp, he, hcmp⟩ := clearSticky_word (c := s.chip) value.toNat hspace
    refine ⟨_, parameterWrite_sticky hrole hr hacc hinst hconst honl hcmd hw1c hspace, fun k _ => clearSticky_bits _ hspace k, ?_, fun hne => ?_, ?_⟩
    · rw [he]
      rfl
    · rw [he, hcmp hne]
    · refine Chip.WordsBut.kept (fun a ha => ?_)
      rw [he]
      exact Chip.word_setNat_other s.chip _ ha
  · obtain ⟨e, h1, h2, h3⟩ := respond_taken (statusWords [6, 0, 0]) hs hi hp
    exact ⟨_, next_congr ((request_process h).trans ((if_pos ((requested_restricted _ _ _ _ _ _).trans hr)).trans h1)), h2, h3, .chip s _⟩
  · obtain ⟨e, h1, h2, h3⟩ := respond_taken (statusWords [5, 0, 0]) hs hi hp
    refine ⟨_, next_congr ((request_process h).trans ((if_neg (by rw [requested_restricted, hr]; decide)).trans ((if_pos ?_).trans h1))), h2, h3, .chip s _⟩
    rw [requested_roleIn _ _ _ _ _ _ hi, hrole]
    rfl
  · have hset := forceSet_accepted (c := s.chip.requested i 0x20 seq.toNat rid.toNat (List.flatMap (leBytes 4)
      [kind.toNat * 2 ^ 24 + type.toNat * 2 ^ 16 + region.toNat * 2 ^ 8 + sub.toNat, index.toNat, lo.toNat, up.toNat]) 1) (lo := lo.toNat) (hi := up.toNat) (e := e)
      (some ⟨i, seq.toNat, 0⟩) kind.isLt type.isLt region.isLt sub.isLt ((requested_forceTarget _ _ _ _ _ _ _ _ _ _ _).trans htgt)
      ((requested_forceRefusal _ _ _ _ _ _ _ _ _ _ _).trans href) ((requested_get _ _ _ _ _ _ (by decide) (by decide)).trans hrun)
      ((requested_freeEntry _ _ _ _ _ _).trans he)
    refine ⟨_, next_congr ((request_process h).trans ((if_neg (by rw [requested_restricted, hr]; decide)).trans ((if_neg ?_).trans
      (congrArg (fun c => ({ s with chip := c } : State)) hset)))), ?_, (requested_answersAs _ 0x20 seq.toNat rid.toNat _ 1 hi).emitted, .chip s _⟩
    · rw [requested_roleIn _ _ _ _ _ _ hi, hrole]
      decide
    · change (s.chip.requested i 0x20 seq.toNat rid.toNat _ 1).eng.edits ++ _ = _
      rw [requested_eng]
      rfl
  · obtain ⟨e, h1, h2, h3⟩ := respond_taken (typ := 0x21) (seq := seq.toNat) (rid := rid.toNat) (body := leBytes 4 index.toNat) (statusWords [1, 0]) hs hi hp
    refine ⟨{ s with chip := e }, next_congr ((request_process h).trans ((if_neg (by rw [requested_restricted, hr]; decide)).trans ((if_neg ?_).trans ?_))), h2, h3, .chip s _⟩
    · rw [requested_roleIn _ _ _ _ _ _ hi, hrole]
      decide
    · exact (congrArg (fun c => ({ s with chip := c } : State)) (forceRelease_none _ hq)).trans h1
  · obtain ⟨e, h1, h2, h3⟩ := respond_taken (typ := 0x21) (seq := seq.toNat) (rid := rid.toNat) (body := leBytes 4 index.toNat)
      (statusWords [0, s.chip.get engineAt Engine.cycle_count]) hs hi hp
    refine ⟨{ s with chip := e }, next_congr ((request_process h).trans ((if_neg (by rw [requested_restricted, hr]; decide)).trans ((if_neg ?_).trans ?_))), h2, h3, .chip s _⟩
    · rw [requested_roleIn _ _ _ _ _ _ hi, hrole]
      decide
    · refine (congrArg (fun c => ({ s with chip := c } : State)) ((forceRelease_free _ hq ((requested_holder _ _ _ _ _ _).trans hhold)
        ((requested_forceTaken _ _ _ _ _ _ hq).trans htaken)).trans ?_)).trans h1
      rw [requested_get _ _ _ _ _ _ (by decide) (by decide)]
      rfl
  · refine ⟨_, next_congr ((request_process h).trans ((if_neg (by rw [requested_restricted, hr]; decide)).trans ((if_neg ?_).trans
      (congrArg (fun c => ({ s with chip := c } : State)) (forceRelease_taken _ hq ((requested_holder _ _ _ _ _ _).trans hhold)
        ((requested_forceTaken _ _ _ _ _ _ hq).trans htaken) ((requested_get _ _ _ _ _ _ (by decide) (by decide)).trans hrun)))))), ?_,
      (requested_answersAs _ 0x21 seq.toNat rid.toNat _ 1 hi).emitted, .chip s _⟩
    · rw [requested_roleIn _ _ _ _ _ _ hi, hrole]
      decide
    · change (s.chip.requested i 0x21 seq.toNat rid.toNat _ 1).eng.edits ++ _ = _
      rw [requested_eng]

end Sys2Proof.Machine
end

section
/-! SUPPORT. O27, refuted: a receiving port whose transmit counter is past bus-off. -/

namespace Sys2Proof.Machine

/-- A data frame without data. -/
def emptyFrame : CanFrame := { id := 0, ide := false, fd := false, brs := false, data := [] }

/-- Port 0 on the bus, in state 0 with a transmit counter of 256, and in transmission. -/
def overCounted : State :=
  let c := State.reset.chip
  let c1 := ((((c.put (portAt 0) Port.enable 1).put (portAt 0) Port.off_reason 0).put (portAt 0) Port.state 0).put (portAt 0) Port.tec 256).setPort 0
    (fun p => { p with tx := some (.reference, emptyFrame) })
  { State.reset with chip := c1 }

/-- The frame in transmission at port 0 after a step. -/
def txAfter : Out → Option (TxSrc × CanFrame)
  | .next t => (t.chip.port 0).tx
  | _ => none

theorem overCounted_shaped : Shaped overCounted := by
  rw [Shaped, overCounted, Chip.setPort_shape, Chip.put_shape, Chip.put_shape, Chip.put_shape, Chip.put_shape]

set_option maxRecDepth 100000 in
theorem overCounted_loses : txAfter (exec (.canFrameReceived 0 0 false false false false false []) overCounted) = none := by decide

/-- Refutes O27: a port whose transmit counter stands above 255 while its state is still 0 is live; the frame it receives lets the error
state follow the counter (R393), the port goes bus-off and its frame in transmission is taken back, so `tx` is not as before. -/
theorem not_portReceiveAndStart : ¬ Obligations.PortReceiveAndStart := by
  intro h
  obtain ⟨hframes, -⟩ := h 0 overCounted overCounted_shaped
  obtain ⟨t, he, -, -, htx, -⟩ := (hframes 0 false false false false false []).2 (by decide) (fun e => nomatch e) (fun k hk => nomatch hk)
  have hstill : txAfter (exec (.canFrameReceived 0 0 false false false false false []) overCounted) = some (.reference, emptyFrame) :=
    (congrArg txAfter he).trans htx
  exact nomatch overCounted_loses.symm.trans hstill

end Sys2Proof.Machine
end

section
/-! SUPPORT. What requests of a port change of it (R379 to R381). -/

namespace Sys2Proof.Machine

/-! ### A port beyond its registers -/

theorem port_setPort_same (c : Chip) {r : Nat} (f : PortSt → PortSt) (h : r < c.ports.length) : (c.setPort r f).port r = f (c.port r) :=
  nth_upd_same _ _ _ _ h

theorem port_setPort_other (c : Chip) {r q : Nat} (f : PortSt → PortSt) (h : q ≠ r) : (c.setPort r f).port q = c.port q := nth_upd_other _ _ _ h

/-- A change that every port's part of some kind is free of. -/
theorem port_setPort_kept {α : Type} (c : Chip) (r q : Nat) {f : PortSt → PortSt} (p : PortSt → α) (h : ∀ x, p (f x) = p x) :
    p ((c.setPort r f).port q) = p (c.port q) := by
  change p (nth {} (upd c.ports r f) q) = p (nth {} c.ports q)
  rw [nth_upd]
  split
  · next hq =>
    rw [hq.1]
    exact h _
  · rfl

/-! ### The words of a port -/

/-- The words of port r's objects. -/
def objWord (r a : Nat) : Prop := portAt r + 0x1000 ≤ a ∧ a < portAt r + 0x2000

theorem objWord_at {r j : Nat} {f : Field} (hj : j < 128) (hs : f.stride = 32) (h1 : 0x1000 ≤ f.first) (h2 : f.first < 0x1020) : objWord r (f.at (portAt r) j) := by
  rw [objWord, Field.at, hs]
  omega

/-- A field of the port's own words. -/
theorem not_objWord {r : Nat} {f : Field} (h : f.first < 0x1000) : ¬ objWord r (f.at (portAt r) 0) := by
  rw [objWord, Field.at]
  omega

theorem port_space {r : Nat} {f : Field} (hr : r < 8) (i : Nat) (h : f.first + i * f.stride < 65536) : spaceOf (f.at (portAt r) i) = r := by
  rw [spaceOf, Field.at, portAt, blockAddr]
  omega

theorem port_record {r : Nat} (c : Chip) {f : Field} (hr : r < 8) (i : Nat) (h : f.first + i * f.stride < 65536) (source region severity subject : Nat)
    (bs ws : List Nat) : (c.record source region severity subject bs ws).getI (portAt r) f i = c.getI (portAt r) f i :=
  Chip.record_getI _ _ _ _ _ _ _ (by rw [port_space hr i h]; omega)

theorem pOn_getI (c : Chip) (r n : Nat) {f : Field} (i : Nat) (h : f.first + i * f.stride ≠ 11) : (c.pOn r n).getI (portAt r) f i = c.getI (portAt r) f i :=
  Chip.getI_congr (Chip.word_setWord_other c _ (by rw [Field.at]; omega))

/-! ### Requests of objects and stations -/

/-- What the requests of a port leave of it: all but objects, stations and the frames handed to the tongs. -/
def PortSt.core (p : PortSt) : PortSt := { p with objs := [], stas := [], handed := [] }

/-- A request that waits as one that has not begun. -/
def Chip.objAgain (c : Chip) (r j : Nat) : Chip := (c.setObj r j (fun o => { o with pend := o.pend <|> o.begun, begun := none })).objSync r j

/-- The stations of a port, their requests waiting as ones that have not begun. -/
def PortSt.stasAgain (p q : PortSt) : PortSt :=
  { q with stas := q.stas.zipIdx.map (fun s => { s.1 with outs := s.1.outs.zipIdx.map (fun f =>
    if p.sends (.station s.2 f.2) then f.1 else { f.1 with pend := f.1.pend <|> f.1.begun, begun := none }) }) }

/-- `d` is `c` but for the objects and stations of port r: words of objects, requests. -/
structure Chip.ObjMoves (r : Nat) (c d : Chip) : Prop where
  frame : ∃ rg pt, d = { c with regs := rg, ports := pt }
  words : c.WordsBut (objWord r) d
  others : ∀ q, q ≠ r → d.port q = c.port q
  core : (d.port r).core = (c.port r).core
  size : d.ports.length = c.ports.length

namespace Chip.ObjMoves

variable {c d e : Chip} {r : Nat}

theorem refl (r : Nat) (c : Chip) : c.ObjMoves r c := ⟨⟨c.regs, c.ports, rfl⟩, .refl _ c, fun _ _ => rfl, rfl, rfl⟩

theorem trans (h : c.ObjMoves r d) (k : d.ObjMoves r e) : c.ObjMoves r e := by
  obtain ⟨⟨rg, pt, hd⟩, hw, ho, hc, hs⟩ := h
  obtain ⟨⟨rg', pt', he⟩, hw', ho', hc', hs'⟩ := k
  exact ⟨⟨rg', pt', by rw [he, hd]⟩, hw.trans hw', fun q hq => (ho' q hq).trans (ho q hq), hc'.trans hc, hs'.trans hs⟩

theorem setPort (c : Chip) (r : Nat) {f : PortSt → PortSt} (h : ∀ p, (f p).core = p.core) : c.ObjMoves r (c.setPort r f) :=
  ⟨⟨c.regs, (c.setPort r f).ports, rfl⟩, .of_regs rfl, fun _ hq => port_setPort_other c f hq, port_setPort_kept c r r PortSt.core h, upd_length _ _ _⟩

theorem putI (c : Chip) {r j : Nat} {f : Field} (v : Nat) (hj : j < 128) (hs : f.stride = 32) (h1 : 0x1000 ≤ f.first) (h2 : f.first < 0x1020) :
    c.ObjMoves r (c.putI (portAt r) f j v) :=
  ⟨⟨_, c.ports, rfl⟩, .putI c v (objWord_at hj hs h1 h2), fun _ _ => rfl, rfl, rfl⟩

theorem objSync (c : Chip) (r : Nat) {j : Nat} (hj : j < 128) : c.ObjMoves r (c.objSync r j) :=
  (putI c _ hj rfl (by decide) (by decide)).trans (putI _ _ hj rfl (by decide) (by decide))

theorem setObj (c : Chip) (r j : Nat) (f : PortObj → PortObj) : c.ObjMoves r (c.setObj r j f) := setPort c r (fun _ => rfl)

theorem each {α : Type} {f : Chip → α → Chip} (l : List α) (h : ∀ c : Chip, ∀ x ∈ l, c.ObjMoves r (f c x)) (c : Chip) : c.ObjMoves r (c.each l f) :=
  Chip.each_rel (R := Chip.ObjMoves r) (f := f) (refl r) (fun _ _ _ h k => h.trans k) l h c

theorem failShot (c : Chip) (r : Nat) {j : Nat} (all : Bool) (hj : j < 128) : c.ObjMoves r (c.failShot r j all) := by
  rw [Chip.failShot]
  split
  · have hdone := setPort c r (f := (·.done (.object j))) (fun _ => rfl)
    have hobj := setObj (c.setPort r (·.done (.object j))) r j (fun o => { o with
      pend := if all then none else o.pend, begun := none, held := o.held && !all })
    have hword := putI (f := PWord.ob_single_fail) (((c.setPort r (·.done (.object j))).setObj r j (fun o => { o with
      pend := if all then none else o.pend, begun := none, held := o.held && !all }))) (r := r) 1 hj rfl (by decide) (by decide)
    exact (hdone.trans hobj).trans (hword.trans (objSync _ r hj))
  · exact refl r c

theorem busyObjs_lt {j : Nat} (h : j ∈ c.busyObjs r) : j < 128 := List.mem_range.1 (List.mem_filter.1 h).1

theorem objAgain (c : Chip) (r : Nat) {j : Nat} (hj : j < 128) : c.ObjMoves r (c.objAgain r j) := by
  rw [Chip.objAgain]
  exact (setObj c r j _).trans (objSync _ r hj)

theorem rewait (c : Chip) (r : Nat) : c.ObjMoves r (c.rewait r) := by
  have hobjs : c.ObjMoves r (c.each ((c.busyObjs r).filter (fun j => !(c.port r).sends (.object j))) (fun c j => c.objAgain r j)) :=
    each _ (fun e j hj => objAgain e r (busyObjs_lt (List.mem_filter.1 hj).1)) c
  exact hobjs.trans (setPort (f := (c.port r).stasAgain) _ r (fun _ => rfl))

theorem get (h : c.ObjMoves r d) {f : Field} (hf : f.first < 0x1000) : d.get (portAt r) f = c.get (portAt r) f := h.words.get (not_objWord hf)

theorem same (h : c.ObjMoves r d) {α : Type} (p : PortSt → α) (hp : ∀ x, p x = p x.core) : p (d.port r) = p (c.port r) := by
  rw [hp, h.core, ← hp]

end Chip.ObjMoves

/-- No frame is under way once every request waits again. -/
theorem requeue_tx (c : Chip) {r : Nat} (h : r < c.ports.length) : ((c.requeue r).port r).tx = none := by
  rw [Chip.requeue, (Chip.ObjMoves.rewait (c.setPort r (fun p => { p with tx := none, flagUp := false })) r).same (·.tx) (fun _ => rfl), port_setPort_same _ _ h]

/-- What a requeue leaves: all but objects, stations and the frame in transmission. -/
structure Chip.Requeues (r : Nat) (c d : Chip) : Prop where
  frame : ∃ rg pt, d = { c with regs := rg, ports := pt }
  words : c.WordsBut (objWord r) d
  others : ∀ q, q ≠ r → d.port q = c.port q
  size : d.ports.length = c.ports.length

namespace Chip.Requeues

variable {c d e : Chip} {r : Nat}

theorem of_objs (h : c.ObjMoves r d) : c.Requeues r d := ⟨h.frame, h.words, h.others, h.size⟩

theorem trans (h : c.Requeues r d) (k : d.Requeues r e) : c.Requeues r e := by
  obtain ⟨⟨rg, pt, hd⟩, hw, ho, hs⟩ := h
  obtain ⟨⟨rg', pt', he⟩, hw', ho', hs'⟩ := k
  exact ⟨⟨rg', pt', by rw [he, hd]⟩, hw.trans hw', fun q hq => (ho' q hq).trans (ho q hq), hs'.trans hs⟩

theorem setPort (c : Chip) (r : Nat) (f : PortSt → PortSt) : c.Requeues r (c.setPort r f) :=
  ⟨⟨c.regs, (c.setPort r f).ports, rfl⟩, .of_regs rfl, fun _ hq => port_setPort_other c f hq, upd_length _ _ _⟩

theorem requeue (c : Chip) (r : Nat) : c.Requeues r (c.requeue r) := (setPort c r _).trans (of_objs (.rewait _ r))

theorem get (h : c.Requeues r d) {f : Field} (hf : f.first < 0x1000) : d.get (portAt r) f = c.get (portAt r) f := h.words.get (not_objWord hf)

end Chip.Requeues

end Sys2Proof.Machine
end

section
/-! SUPPORT. O29: a port leaves the bus and comes back. -/

namespace Sys2Proof.Machine

/-! ### A cause takes a port off the bus (R398) -/

/-- The chip once a cause has taken port r off the bus. -/
def Chip.takenOff (c : Chip) (r cause : Nat) : Chip :=
  ((((c.requeue r).put (portAt r) Port.off_reason cause).put (portAt r) Port.state 4).pOn r 8).record 71 r 1 r [cause] []

theorem offTheBus_takes {s : State} {r : Fin 8} (hc : s.chip.portCause r ≠ 0) (h4 : s.chip.get (portAt r) Port.state ≠ 4) :
    exec (.offTheBus r) s = .next { s with chip := s.chip.takenOff r (s.chip.portCause r) } :=
  chipOnly_to s ((if_pos (bne_iff_ne.2 hc)).trans (if_neg h4))

theorem portCause_lt (c : Chip) (r : Nat) : c.portCause r < 16 := by
  rw [Chip.portCause]
  split_ifs <;> decide

theorem takenOff_words (c : Chip) {r cause : Nat} (hr : r < 8) (hc : cause < 16) :
    (c.takenOff r cause).get (portAt r) Port.state = 4 ∧ (c.takenOff r cause).get (portAt r) Port.off_reason = cause := by
  rw [Chip.takenOff]
  refine ⟨?_, ?_⟩
  · refine (port_record _ hr 0 (by decide) _ _ _ _ _ _).trans ((pOn_getI _ _ _ 0 (by decide)).trans ?_)
    exact Chip.get_put_of_lt _ _ (by decide) (by decide)
  · refine (port_record _ hr 0 (by decide) _ _ _ _ _ _).trans ((pOn_getI _ _ _ 0 (by decide)).trans ?_)
    exact (Chip.get_put_clear _ _ _ (by decide)).trans (Chip.get_put_of_lt _ _ (by decide) hc)

theorem takenOff_ports (c : Chip) (r cause : Nat) : (c.takenOff r cause).ports = (c.requeue r).ports := by
  rw [Chip.takenOff, Chip.record_ports]
  rfl

theorem takenOff_port (c : Chip) (r cause q : Nat) : (c.takenOff r cause).port q = (c.requeue r).port q := by
  rw [Chip.port, takenOff_ports, Chip.port]

/-! ### A restart, and a rejoin, begin (R395, R398) -/

/-- The registers a restart sets first. -/
def Chip.restartRegs (c : Chip) (r : Nat) : Chip :=
  ((c.put (portAt r) Port.tec 0).put (portAt r) Port.rec 0).put (portAt r) Port.off_reason 7

/-- The chip once the single-shot requests of port r have failed and the others wait again. -/
def Chip.shotsFailed (c : Chip) (r : Nat) : Chip := (c.each (c.busyObjs r) (fun c j => c.failShot r j true)).requeue r

theorem shotsFailed_requeues (c : Chip) (r : Nat) : c.Requeues r (c.shotsFailed r) :=
  (Chip.Requeues.of_objs (.each _ (fun e _ hj => .failShot e r true (Chip.ObjMoves.busyObjs_lt hj)) c)).trans (.requeue _ r)

/-- What a restart notes of the port beyond its registers. -/
def PortSt.restartNoted (p : PortSt) (restart : Bool) (now : Nat) : PortSt :=
  { p with offTicks := [], restarting := restart, rejoinAt := now, objs := p.objs.map (fun o => { o with accepted := none }),
           stas := p.stas.map (fun s => { s with ins := s.ins.map (fun f => { f with last := none }) }) }

/-- The chip in which port r begins to rejoin. -/
def Chip.rejoining (c : Chip) (r : Nat) (restart : Bool) : Chip := ((c.restartRegs r).shotsFailed r).setPort r (·.restartNoted restart c.now)

theorem beginRestart_eq (c : Chip) (r : Nat) (restart : Bool) :
    c.beginRestart r restart = (c.rejoining r restart).when restart (·.resetTongs (tongsKey r 2 9)) := rfl

theorem rejoining_requeues (c : Chip) (r : Nat) (restart : Bool) : (c.restartRegs r).Requeues r (c.rejoining r restart) :=
  (shotsFailed_requeues _ r).trans (.setPort _ r _)

theorem rejoining_words (c : Chip) (r : Nat) (restart : Bool) :
    (c.rejoining r restart).get (portAt r) Port.tec = 0 ∧ (c.rejoining r restart).get (portAt r) Port.rec = 0 ∧
      (c.rejoining r restart).get (portAt r) Port.off_reason = 7 := by
  have hq := rejoining_requeues c r restart
  rw [hq.get (by decide), hq.get (by decide), hq.get (by decide), Chip.restartRegs]
  refine ⟨?_, ?_, Chip.get_put_of_lt _ _ (by decide) (by decide)⟩
  · rw [Chip.get_put_clear _ _ _ (by decide), Chip.get_put_clear _ _ _ (by decide)]
    exact Chip.get_put_of_lt _ _ (by decide) (by decide)
  · rw [Chip.get_put_clear _ _ _ (by decide)]
    exact Chip.get_put_of_lt _ _ (by decide) (by decide)

theorem rejoining_clear (c : Chip) (r : Nat) (restart : Bool) {f : Field} (hf : f.first < 0x1000) (h1 : Port.tec.clear f = true)
    (h2 : Port.rec.clear f = true) (h3 : Port.off_reason.clear f = true) : (c.rejoining r restart).get (portAt r) f = c.get (portAt r) f := by
  rw [(rejoining_requeues c r restart).get hf, Chip.restartRegs, Chip.get_put_clear _ _ _ h3, Chip.get_put_clear _ _ _ h2, Chip.get_put_clear _ _ _ h1]

theorem rejoining_port (c : Chip) {r : Nat} (restart : Bool) (h : r < c.ports.length) :
    ((c.rejoining r restart).port r).offTicks = [] ∧ ((c.rejoining r restart).port r).restarting = restart := by
  have hlen : r < ((c.restartRegs r).shotsFailed r).ports.length := by
    rw [(shotsFailed_requeues _ r).size]
    exact h
  rw [Chip.rejoining, port_setPort_same _ _ hlen]
  exact ⟨rfl, rfl⟩

/-! ### The tongs of a port reset (R65) -/

theorem resetTongs_port (c : Chip) (r : Nat) : ∃ rg em sy, c.resetTongs (tongsKey r 2 9) =
    { c with regs := rg, emitted := em, ports := upd c.ports r (fun p => { p with handed := [] }), sys := sy } := by
  have hr : tongsKey r 2 9 / 128 = r := by simp only [tongsKey]; omega
  have hd : tongsKey r 2 9 / 16 % 8 = 2 := by simp only [tongsKey]; omega
  unfold Chip.resetTongs
  rw [hr, hd]
  extract_lets q c1
  split
  · exact ⟨_, _, _, rfl⟩
  · exact ⟨_, _, _, rfl⟩

theorem resetTongs_portGet (c : Chip) {r : Nat} (hr : r < 8) {f : Field} (hf : f.first < 65536) :
    (c.resetTongs (tongsKey r 2 9)).get (portAt r) f = c.get (portAt r) f := by
  refine (Chip.resetTongs_words c (r := r) (d := 2) (u := 9) (by decide) (by decide)).get ?_
  rw [Field.at, regionAt, portAt, blockAddr, blockAddr]
  omega

theorem resetTongs_portKept (c : Chip) (r q : Nat) {α : Type} (p : PortSt → α) (h : ∀ x : PortSt, p { x with handed := [] } = p x) :
    p ((c.resetTongs (tongsKey r 2 9)).port q) = p (c.port q) := by
  obtain ⟨rg, em, sy, he⟩ := resetTongs_port c r
  rw [he]
  exact port_setPort_kept c r q p h

theorem resetTongs_portOther (c : Chip) {r q : Nat} (h : q ≠ r) : (c.resetTongs (tongsKey r 2 9)).port q = c.port q := by
  obtain ⟨rg, em, sy, he⟩ := resetTongs_port c r
  rw [he]
  exact nth_upd_other _ _ _ h

/-- The chip once the restart command of port r has begun. -/
def Chip.portRestarting (c : Chip) (r : Nat) : Chip :=
  (((c.put (portAt r) Port.last_cmd 0).put (portAt r) Port.result 1).rejoining r true).resetTongs (tongsKey r 2 9)

theorem opens_not {c : Chip} {r : Nat} (h : c.opens r = true) : ¬ (!c.opens r) = true := by
  rw [h]
  decide

theorem portRestart_begins {s : State} {r : Fin 8} (ho : s.chip.opens r = true) (h1 : s.chip.get (portAt r) Port.result ≠ 1)
    (h4 : s.chip.get (portAt r) Port.state ≠ 4) : exec (.portRestart r) s = .next { s with chip := s.chip.portRestarting r } :=
  chipOnly_to s ((if_neg (opens_not ho)).trans ((if_neg h1).trans ((if_neg h4).trans (beginRestart_eq _ _ _))))

theorem portRestarting_frame (c : Chip) (r : Nat) : ∃ rg pt em sy, c.portRestarting r = { c with regs := rg, ports := pt, emitted := em, sys := sy } := by
  obtain ⟨rg, pt, he⟩ := (rejoining_requeues ((c.put (portAt r) Port.last_cmd 0).put (portAt r) Port.result 1) r true).frame
  obtain ⟨rg', em, sy, he'⟩ := resetTongs_port (((c.put (portAt r) Port.last_cmd 0).put (portAt r) Port.result 1).rejoining r true) r
  exact ⟨rg', _, em, sy, by rw [Chip.portRestarting, he', he]; rfl⟩

theorem portRestarting_words (c : Chip) {r : Nat} (hr : r < 8) :
    (c.portRestarting r).get (portAt r) Port.result = 1 ∧ (c.portRestarting r).get (portAt r) Port.last_cmd = 0 ∧
      (c.portRestarting r).get (portAt r) Port.tec = 0 ∧ (c.portRestarting r).get (portAt r) Port.rec = 0 ∧
      (c.portRestarting r).get (portAt r) Port.off_reason = 7 := by
  obtain ⟨h1, h2, h3⟩ := rejoining_words ((c.put (portAt r) Port.last_cmd 0).put (portAt r) Port.result 1) r true
  have hget : ∀ {f : Field}, f.first < 65536 → (c.portRestarting r).get (portAt r) f = _ := fun hf => resetTongs_portGet _ hr hf
  refine ⟨(hget (by decide)).trans ?_, (hget (by decide)).trans ?_, (hget (by decide)).trans h1, (hget (by decide)).trans h2, (hget (by decide)).trans h3⟩
  · rw [rejoining_clear _ _ _ (by decide) (by decide) (by decide) (by decide)]
    exact Chip.get_put_of_lt _ _ (by decide) (by decide)
  · rw [rejoining_clear _ _ _ (by decide) (by decide) (by decide) (by decide), Chip.get_put_clear _ _ _ (by decide)]
    exact Chip.get_put_of_lt _ _ (by decide) (by decide)

theorem portRestarting_port (c : Chip) {r : Nat} (h : r < c.ports.length) :
    ((c.portRestarting r).port r).offTicks = [] ∧ ((c.portRestarting r).port r).restarting = true := by
  obtain ⟨h1, h2⟩ := rejoining_port ((c.put (portAt r) Port.last_cmd 0).put (portAt r) Port.result 1) true h
  rw [Chip.portRestarting, resetTongs_portKept _ r r (·.offTicks) (fun _ => rfl), resetTongs_portKept _ r r (·.restarting) (fun _ => rfl)]
  exact ⟨h1, h2⟩

theorem portRestarting_other (c : Chip) {r q : Nat} (h : q ≠ r) : (c.portRestarting r).port q = c.port q := by
  rw [Chip.portRestarting, resetTongs_portOther _ h, (rejoining_requeues _ r true).others q h]
  rfl

/-! ### The counters of a port (R404) -/

/-- The chip once clear_counters has acted. -/
def Chip.portCleared (c : Chip) (r : Nat) : Chip :=
  ((((((c.setNat (portAt r + 7) 0).setNat (portAt r + 8) 0).setNat (portAt r + 9) 0).setNat (portAt r + 0xE) 0).setNat (portAt r + 0xF) 0).put
    (portAt r) Port.last_cmd 1).put (portAt r) Port.result 2

theorem portClear_to {s : State} {r : Fin 8} (ho : s.chip.opens r = true) (h1 : s.chip.get (portAt r) Port.result ≠ 1) :
    exec (.portClearCounters r) s = .next { s with chip := s.chip.portCleared r } :=
  chipOnly_to s ((if_neg (opens_not ho)).trans (if_neg h1))

/-- A field of a word that is cleared, and one of a word that is not. -/
theorem portCleared_zero (c : Chip) (r : Nat) {f : Field} (hf : f.first ∈ [7, 8, 9, 0xE, 0xF]) :
    (c.portCleared r).get (portAt r) f = 0 := by
  refine getI_of_word_zero ?_
  have hat : f.at (portAt r) 0 = portAt r + f.first := by rw [Field.at]; omega
  have hne : ∀ g : Field, g.first = 0xD → portAt r + f.first ≠ g.at (portAt r) 0 := fun g hg e => by
    rw [Field.at, hg] at e
    have : f.first = 0xD := by omega
    rw [this] at hf
    exact absurd hf (by decide)
  rw [hat, Chip.portCleared, Chip.word_put_other _ _ (hne _ rfl), Chip.word_put_other _ _ (hne _ rfl)]
  simp only [List.mem_cons, List.not_mem_nil, or_false] at hf
  have hset : ∀ (d : Chip) (a b : Nat), d.word a = 0 → (d.setNat b 0).word a = 0 := fun d a b h => by
    by_cases hab : a = b
    · rw [hab]
      exact Chip.word_setWord_same _ _ _
    · rw [Chip.word_setNat_other _ _ hab, h]
  have hown : ∀ (d : Chip) (a : Nat), (d.setNat a 0).word a = 0 := fun d a => Chip.word_setWord_same _ _ _
  rcases hf with h | h | h | h | h <;> rw [h]
  · exact hset _ _ _ (hset _ _ _ (hset _ _ _ (hset _ _ _ (hown _ _))))
  · exact hset _ _ _ (hset _ _ _ (hset _ _ _ (hown _ _)))
  · exact hset _ _ _ (hset _ _ _ (hown _ _))
  · exact hset _ _ _ (hown _ _)
  · exact hown _ _

theorem portCleared_rx (c : Chip) (r : Nat) : (c.portCleared r).get (portAt r) Port.rx_count = c.get (portAt r) Port.rx_count := by
  have hat : Port.rx_count.at (portAt r) 0 = portAt r + 6 := by
    change portAt r + 6 + 0 * Port.rx_count.stride = _
    omega
  rw [Chip.portCleared, Chip.get_put_clear _ _ _ (by decide), Chip.get_put_clear _ _ _ (by decide)]
  refine Chip.get_congr ?_
  rw [hat, Chip.word_setNat_other _ _ (by omega), Chip.word_setNat_other _ _ (by omega), Chip.word_setNat_other _ _ (by omega),
    Chip.word_setNat_other _ _ (by omega), Chip.word_setNat_other _ _ (by omega)]

/-! ### The end of a rejoin (R395) -/

/-- The registers and records of a port that is back on the bus. -/
def Chip.rejoinRegs (c : Chip) (r : Nat) : Chip :=
  let c1 := (c.put (portAt r) Port.state 0).put (portAt r) Port.off_reason 0
  let c2 := if (c.port r).restarting then c1.record 65 r 0 r [0] [c.get (portAt r) Port.busoffs] else c1.record 71 r 0 r [0] []
  (c2.when (1 ≤ c.get (portAt r) Port.state && c.get (portAt r) Port.state ≤ 3) (·.record 64 r 0 r [0] [0, 0])).when
    (c.get (portAt r) Port.result == 1) (·.put (portAt r) Port.result 2)

/-- What the invocations that asked for the restart are told, and the port that has joined the bus. -/
def Chip.rejoined (c : Chip) (r : Nat) : Chip :=
  ((c.rejoinRegs r).each (c.port r).rstBy (fun c q => c.setOutcome q false true 0)).setPort r (fun p => { p.joinBus c.now with
    rstBy := [], restarting := false })

theorem portRejoin_to {s : State} {r : Fin 8} (h7 : s.chip.get (portAt r) Port.off_reason = 7) (h0 : s.chip.portCause r = 0)
    (hb : s.chip.bitsPassed r (s.chip.port r).rejoinAt 11 = true) : exec (.portRejoin r) s = .next { s with chip := s.chip.rejoined r } := by
  refine chipOnly_to s (if_neg ?_)
  rw [h7, h0, hb]
  decide

/-- The words a rejoin changes. -/
def rejoinWord (r a : Nat) : Prop := a = Port.state.at (portAt r) 0 ∨ a = Port.result.at (portAt r) 0 ∨ recorderWord a

theorem rejoinRegs_writes (c : Chip) (r : Nat) : c.Writes (rejoinWord r) (c.rejoinRegs r) := by
  have hrec : ∀ a, spaceOf a = 10 → rejoinWord r a := fun _ h => .inr (.inr h)
  have hregs : c.Writes (rejoinWord r) ((c.put (portAt r) Port.state 0).put (portAt r) Port.off_reason 0) :=
    .put (.put (.refl _ c) _ (.inl rfl)) _ (.inl rfl)
  rw [Chip.rejoinRegs]
  refine .when (.when (.ite (fun _ => .record hregs _ _ _ _ _ _ hrec) (fun _ => .record hregs _ _ _ _ _ _ hrec)) ?_) ?_
  · exact .record (.refl _ _) _ _ _ _ _ _ hrec
  · exact .put (.refl _ _) _ (.inr (.inl rfl))

theorem outcomes_frame (l : List Nat) (c : Chip) : ∃ e, c.each l (fun c q => c.setOutcome q false true 0) = { c with eng := e } :=
  Chip.each_rel (R := fun c d => ∃ e, d = { c with eng := e }) (f := fun c q => c.setOutcome q false true 0) (fun c => ⟨c.eng, rfl⟩)
    (fun _ _ _ ⟨e, h⟩ ⟨e', k⟩ => ⟨e', by rw [k, h]⟩) l (fun c q _ => ⟨_, rfl⟩) c

/-- Everything but the engine's outcomes and the port's own state is as the registers' change leaves it. -/
theorem rejoined_word (c : Chip) (r a : Nat) : (c.rejoined r).word a = (c.rejoinRegs r).word a := by
  obtain ⟨e, he⟩ := outcomes_frame (c.port r).rstBy (c.rejoinRegs r)
  rw [Chip.rejoined, he]
  rfl

theorem rejoined_ports (c : Chip) (r : Nat) : (c.rejoined r).ports = upd c.ports r (fun p => { p.joinBus c.now with rstBy := [], restarting := false }) := by
  obtain ⟨e, he⟩ := outcomes_frame (c.port r).rstBy (c.rejoinRegs r)
  rw [Chip.rejoined, he]
  exact congrArg (fun l => upd l r _) (rejoinRegs_writes c r).ports

theorem rejoinRegs_words (c : Chip) {r : Nat} (hr : r < 8) :
    (c.rejoinRegs r).get (portAt r) Port.state = 0 ∧ (c.rejoinRegs r).get (portAt r) Port.off_reason = 0 ∧
      (c.get (portAt r) Port.result = 1 → (c.rejoinRegs r).get (portAt r) Port.result = 2) := by
  have hrec : ∀ (d : Chip) {f : Field} (source region severity subject : Nat) (bs ws : List Nat), f.first + 0 * f.stride < 65536 →
      (d.record source region severity subject bs ws).get (portAt r) f = d.get (portAt r) f := fun d f _ _ _ _ _ _ h => port_record d hr 0 h _ _ _ _ _ _
  have hkept : ∀ {f : Field}, f.first + 0 * f.stride < 65536 → Port.result.clear f = true →
      (c.rejoinRegs r).get (portAt r) f = ((c.put (portAt r) Port.state 0).put (portAt r) Port.off_reason 0).get (portAt r) f := fun hf hcl => by
    rw [Chip.rejoinRegs, Chip.get_when _ _ _ (Chip.get_put_clear _ _ _ hcl), Chip.get_when _ _ _ (hrec _ _ _ _ _ _ _ hf)]
    split
    · exact hrec _ _ _ _ _ _ _ hf
    · exact hrec _ _ _ _ _ _ _ hf
  refine ⟨(hkept (by decide) (by decide)).trans ?_, (hkept (by decide) (by decide)).trans ?_, fun h => ?_⟩
  · exact (Chip.get_put_clear _ _ _ (by decide)).trans (Chip.get_put_of_lt _ _ (by decide) (by decide))
  · exact Chip.get_put_of_lt _ _ (by decide) (by decide)
  · rw [Chip.rejoinRegs, beq_iff_eq.2 h]
    exact Chip.get_put_of_lt _ _ (by decide) (by decide)

/-- Settles O29: a port leaves the bus and comes back. -/
theorem portRestarts : Obligations.PortRestarts := by
  intro r s hs
  have hr := r.isLt
  have hlen : r.val < s.chip.ports.length := by
    rw [hs.sized.ports]
    exact hr
  refine ⟨fun hc h4 => ?_, fun hc => ⟨fun h1 h5 => ?_, fun hno => ?_⟩, fun ho => ⟨?_, ?_⟩, fun ho h1 => ⟨fun h4 => ?_, fun h4 => ?_, ?_⟩, fun h7 h0 hb => ?_⟩
  · obtain ⟨hst, hof⟩ := takenOff_words s.chip hr (portCause_lt s.chip r)
    exact ⟨_, offTheBus_takes hc h4, hst, hof, by rw [takenOff_port, requeue_tx _ hlen], .chip s _, fun q hq => by
      rw [takenOff_port, (Chip.Requeues.requeue s.chip r).others q hq]⟩
  · obtain ⟨ht, hre, hof⟩ := rejoining_words s.chip r false
    have hgo : exec (.offTheBus r) s = .next { s with chip := s.chip.rejoining r false } := by
      refine chipOnly_to s ((if_neg (by rw [hc]; decide)).trans ((if_pos ?_).trans (beginRestart_eq _ _ _)))
      rw [decide_eq_true h1, decide_eq_true h5]
      rfl
    exact ⟨_, hgo, hof, ht, hre, (rejoining_port s.chip false hlen).2, .chip s _⟩
  · have hstay : s.chip.portSync r = s.chip := by
      refine (if_neg (by rw [hc]; decide)).trans (if_neg ?_)
      rw [Bool.and_eq_true, decide_eq_true_eq, decide_eq_true_eq]
      omega
    exact chipOnly_to s hstay
  · exact chipOnly_to s (if_pos (by rw [ho]; rfl))
  · exact chipOnly_to s (if_pos (by rw [ho]; rfl))
  · obtain ⟨hres, hcmd, ht, hre, hof⟩ := portRestarting_words s.chip hr
    obtain ⟨hticks, hrst⟩ := portRestarting_port s.chip hlen
    obtain ⟨rg, pt, em, sy, he⟩ := portRestarting_frame s.chip r
    exact ⟨_, portRestart_begins ho h1 h4, hres, hcmd, ht, hre, hof, hticks, hrst, (Chip.resetTongs_waits _ _).1,
      congrArg (fun c => { s with chip := c }) (by rw [he]), fun q hq => portRestarting_other s.chip hq⟩
  · exact ⟨_, chipOnly_to s ((if_neg (opens_not ho)).trans ((if_neg h1).trans (if_pos h4))), Chip.get_put_of_lt _ _ (by decide) (by decide), rfl,
      fun a ha => Chip.word_put_other _ _ ha⟩
  · exact ⟨_, portClear_to ho h1, portCleared_zero _ _ (by decide), portCleared_zero _ _ (by decide), portCleared_zero _ _ (by decide),
      portCleared_zero _ _ (by decide), Chip.get_put_of_lt _ _ (by decide) (by decide), portCleared_rx _ _, rfl⟩
  · obtain ⟨hst, hof, hres⟩ := rejoinRegs_words s.chip hr
    have hget : ∀ {f : Field}, (s.chip.rejoined r).get (portAt r) f = (s.chip.rejoinRegs r).get (portAt r) f := Chip.get_congr (rejoined_word _ _ _)
    have hport : (s.chip.rejoined r).port r = { (s.chip.port r).joinBus s.chip.now with rstBy := [], restarting := false } := by
      rw [Chip.port, rejoined_ports, nth_upd_same _ _ _ _ hlen, Chip.port]
    refine ⟨_, portRejoin_to h7 h0 hb, hget.trans hst, hget.trans hof, fun h => hget.trans (hres h), by rw [hport], by rw [hport], .chip s _,
      fun a ha => (rejoined_word _ _ _).trans ((rejoinRegs_writes s.chip r).words a ha), fun q hq => ?_⟩
    rw [Chip.port, rejoined_ports, nth_upd_other _ _ _ hq, Chip.port]

end Sys2Proof.Machine
end

section
/-! SUPPORT. O28: the end of a transmission. -/

namespace Sys2Proof.Machine

/-! ### The error state of a port (R393 to R395) -/

/-- The words of port r that follow its error state, and the recorder's. -/
def errWord (r a : Nat) : Prop := a = portAt r ∨ a = portAt r + 0xB ∨ recorderWord a

theorem errWord_first {r : Nat} {f : Field} (hr : r < 8) (h : f.first < 65536) (h0 : f.first ≠ 0) (hb : f.first ≠ 0xB) : ¬ errWord r (f.at (portAt r) 0) := by
  rintro (he | he | he)
  · rw [Field.at] at he
    omega
  · rw [Field.at] at he
    omega
  · rw [recorderWord, port_space hr 0 (by omega)] at he
    omega

/-- A field of a port's own word, from word 0 on. -/
theorem port_at (f : Field) (r : Nat) : f.at (portAt r) 0 = portAt r + f.first := by
  rw [Field.at]
  omega

/-- The chip once the error state of port r is n. -/
def Chip.errTo (c : Chip) (r n : Nat) : Chip :=
  if n = c.get (portAt r) Port.state || 2 ≤ c.get (portAt r) Port.state then c
  else
    let c1 := (c.put (portAt r) Port.state n).record 64 r n r [n] [c.get (portAt r) Port.tec, c.get (portAt r) Port.rec]
    if n = 2 then c1.busOff r else if n = 1 then c1.pOn r 0 else c1

theorem errState_eq (c : Chip) (r : Nat) : c.errState r = c.errTo r (if 255 < c.get (portAt r) Port.tec then 2
    else if 127 < c.get (portAt r) Port.tec || 127 < c.get (portAt r) Port.rec then 1 else 0) := rfl

theorem errTo_calm (c : Chip) {r n : Nat} (hr : r < 8) (hn : n ≤ 1) : c.Writes (errWord r) (c.errTo r n) ∧
    (c.get (portAt r) Port.state ≤ 1 → (c.errTo r n).get (portAt r) Port.state ≤ 1) := by
  have hput : c.Writes (errWord r) ((c.put (portAt r) Port.state n).record 64 r n r [n] [c.get (portAt r) Port.tec, c.get (portAt r) Port.rec]) := by
    refine .record (.put (.refl _ c) _ (.inl ?_)) _ _ _ _ _ _ (fun _ ha => .inr (.inr ha))
    rw [port_at]
    exact Nat.add_zero _
  have hstate : ((c.put (portAt r) Port.state n).record 64 r n r [n] [c.get (portAt r) Port.tec, c.get (portAt r) Port.rec]).get (portAt r)
      Port.state ≤ 1 := by
    refine ((port_record _ hr 0 (by decide) _ _ _ _ _ _).trans (Chip.get_put_of_lt _ _ (by decide) ?_)).trans_le hn
    change n < 8
    omega
  rw [Chip.errTo]
  split
  · exact ⟨.refl _ c, fun h => h⟩
  · dsimp only
    rw [if_neg (show ¬ n = 2 by omega)]
    split
    · exact ⟨.setWord hput _ (.inr (.inl rfl)), fun _ => (pOn_getI _ _ _ 0 (by decide)).trans_le hstate⟩
    · exact ⟨hput, fun _ => hstate⟩

/-- A state that the counters give short of bus-off. -/
theorem errState_calm (c : Chip) {r : Nat} (hr : r < 8) (h : c.get (portAt r) Port.tec ≤ 255) : c.Writes (errWord r) (c.errState r) ∧
    (c.get (portAt r) Port.state ≤ 1 → (c.errState r).get (portAt r) Port.state ≤ 1) := by
  rw [errState_eq, if_neg (Nat.not_lt.2 h)]
  refine errTo_calm c hr ?_
  split
  · exact Nat.le_refl 1
  · exact Nat.zero_le 1

/-- A port that goes bus-off, its requests waiting again. -/
def Chip.busOffRegs (c : Chip) (r : Nat) : Chip := ((c.put (portAt r) Port.tec 256).bump (portAt r) Port.busoffs).pOn r 1

/-- What a port notes of its bus-offs. -/
def Chip.busOffNoted (c : Chip) (r : Nat) (live : List Nat) : Chip := ((c.busOffRegs r).shotsFailed r).setPort r (fun p => { p with offTicks := live })

/-- The bus-offs of the last 60 s, with this one. -/
def Chip.liveOffs (c : Chip) (r : Nat) : List Nat := (c.port r).offTicks.filter (fun t => c.now < t + 60000000) ++ [c.now]

theorem busOff_eq (c : Chip) (r : Nat) : c.busOff r = if c.get (portAt r) Port.busoff_max < (c.liveOffs r).length then
    ((((c.busOffNoted r (c.liveOffs r)).put (portAt r) Port.state 3).put (portAt r) Port.off_reason 6).pOn r 2).record 65 r 2 r [1]
      [(c.busOffNoted r (c.liveOffs r)).get (portAt r) Port.busoffs]
    else c.busOffNoted r (c.liveOffs r) := rfl

theorem busOffNoted_requeues (c : Chip) (r : Nat) (live : List Nat) : (c.busOffRegs r).Requeues r (c.busOffNoted r live) :=
  (shotsFailed_requeues _ r).trans (.setPort _ r _)

theorem busOffNoted_get (c : Chip) {r : Nat} (live : List Nat) {f : Field} (hf : f.first < 0x1000) (hb : f.first ≠ 0xB) :
    (c.busOffNoted r live).get (portAt r) f = ((c.put (portAt r) Port.tec 256).bump (portAt r) Port.busoffs).get (portAt r) f := by
  rw [(busOffNoted_requeues c r live).get hf]
  exact pOn_getI _ _ _ 0 (by omega)

/-- Bus-off: the counter stands at 256, the port in state 2, or latched off in state 3, and no frame is under way. -/
theorem busOff_ends (c : Chip) {r : Nat} (hr : r < 8) (hl : r < c.ports.length) (h2 : c.get (portAt r) Port.state = 2) :
    (c.busOff r).get (portAt r) Port.tec = 256 ∧
      (2 ≤ (c.busOff r).get (portAt r) Port.state ∧ (c.busOff r).get (portAt r) Port.state ≤ 3) ∧
      (c.busOff r).get (portAt r) Port.err_frames = c.get (portAt r) Port.err_frames ∧ ((c.busOff r).port r).tx = none := by
  have htec : (c.busOffNoted r (c.liveOffs r)).get (portAt r) Port.tec = 256 := by
    rw [busOffNoted_get _ _ (by decide) (by decide), Chip.get_bump_clear' _ _ (by decide)]
    exact Chip.get_put_of_lt _ _ (by decide) (by decide)
  have herr : (c.busOffNoted r (c.liveOffs r)).get (portAt r) Port.err_frames = c.get (portAt r) Port.err_frames := by
    rw [busOffNoted_get _ _ (by decide) (by decide), Chip.get_bump_clear' _ _ (by decide), Chip.get_put_clear _ _ _ (by decide)]
  have hstate : (c.busOffNoted r (c.liveOffs r)).get (portAt r) Port.state = 2 := by
    rw [busOffNoted_get _ _ (by decide) (by decide), Chip.get_bump_clear' _ _ (by decide), Chip.get_put_clear _ _ _ (by decide), h2]
  have htx : ((c.busOffNoted r (c.liveOffs r)).port r).tx = none := by
    refine (port_setPort_kept _ r r (f := fun p => { p with offTicks := c.liveOffs r }) (·.tx) (fun _ => rfl)).trans ?_
    refine requeue_tx _ ?_
    rw [(Chip.ObjMoves.each (r := r) ((c.busOffRegs r).busyObjs r) (fun e _ hj => .failShot e r true (Chip.ObjMoves.busyObjs_lt hj)) (c.busOffRegs r)).size]
    exact hl
  rw [busOff_eq]
  split
  · have hget : ∀ {f : Field}, f.first < 65536 → f.first ≠ 0xB → ∀ d : Chip, ((d.pOn r 2).record 65 r 2 r [1]
        [(c.busOffNoted r (c.liveOffs r)).get (portAt r) Port.busoffs]).get (portAt r) f = d.get (portAt r) f := fun hf hb d =>
      (port_record _ hr 0 (by omega) _ _ _ _ _ _).trans (pOn_getI _ _ _ 0 (by omega))
    refine ⟨?_, ?_, ?_, ?_⟩
    · rw [hget (by decide) (by decide), Chip.get_put_clear _ _ _ (by decide), Chip.get_put_clear _ _ _ (by decide), htec]
    · have h3 : ((c.busOffNoted r (c.liveOffs r)).put (portAt r) Port.state 3).get (portAt r) Port.state = 3 := Chip.get_put_of_lt _ _ (by decide) (by decide)
      rw [hget (by decide) (by decide), Chip.get_put_clear _ _ _ (by decide), h3]
      decide
    · rw [hget (by decide) (by decide), Chip.get_put_clear _ _ _ (by decide), Chip.get_put_clear _ _ _ (by decide), herr]
    · rw [Chip.port, Chip.record_ports]
      exact htx
  · exact ⟨htec, by rw [hstate]; decide, herr, htx⟩

/-- A counter beyond 255 takes a port that is on the bus to bus-off. -/
theorem errState_over (c : Chip) {r : Nat} (hr : r < 8) (hl : r < c.ports.length) (h : 255 < c.get (portAt r) Port.tec)
    (h1 : c.get (portAt r) Port.state ≤ 1) :
    (c.errState r).get (portAt r) Port.tec = 256 ∧
      (2 ≤ (c.errState r).get (portAt r) Port.state ∧ (c.errState r).get (portAt r) Port.state ≤ 3) ∧
      (c.errState r).get (portAt r) Port.err_frames = c.get (portAt r) Port.err_frames ∧ ((c.errState r).port r).tx = none := by
  have he : c.errState r = ((c.put (portAt r) Port.state 2).record 64 r 2 r [2] [c.get (portAt r) Port.tec, c.get (portAt r) Port.rec]).busOff r := by
    rw [Chip.errState, if_pos h]
    refine (if_neg ?_).trans (if_pos rfl)
    rw [Bool.or_eq_true, decide_eq_true_eq, decide_eq_true_eq]
    omega
  rw [he]
  have hkept : ∀ {f : Field}, f.first < 65536 → ((c.put (portAt r) Port.state 2).record 64 r 2 r [2]
      [c.get (portAt r) Port.tec, c.get (portAt r) Port.rec]).get (portAt r) f = (c.put (portAt r) Port.state 2).get (portAt r) f := fun hf =>
    port_record _ hr 0 (by omega) _ _ _ _ _ _
  obtain ⟨a, b, d, e⟩ := busOff_ends _ hr (by rw [Chip.record_ports]; exact hl) ((hkept (by decide)).trans (Chip.get_put_of_lt _ _ (by decide) (by decide)))
  exact ⟨a, b, d.trans ((hkept (by decide)).trans (Chip.get_put_clear _ _ _ (by decide))), e⟩

/-! ### A frame of the ring (R377) -/

/-- The words of port r that a frame in the ring takes. -/
def ringWord (r a : Nat) : Prop := (portAt r + 0x4000 ≤ a ∧ a < portAt r + 0xE000) ∨ a = portAt r + 6 ∨ counterWord a

theorem putBytes16_words (c : Chip) (a : Nat) (bs : List Nat) : c.WordsBut (fun x => a ≤ x ∧ x < a + 16) (c.putBytes16 a bs) := by
  refine Chip.each_rel (R := fun c d => c.WordsBut (fun x => a ≤ x ∧ x < a + 16) d) (f := fun c k => c.setNat (a + k) (numAt bs (4 * k) 4))
    (fun c => .refl _ c) (fun _ _ _ h k => h.trans k) (List.range 16) (fun e k hk => ?_) c
  have := List.mem_range.1 hk
  exact .setWord e _ ⟨by omega, by omega⟩

theorem putBytes16_frame (c : Chip) (a : Nat) (bs : List Nat) : ∃ rg, c.putBytes16 a bs = { c with regs := rg } :=
  Chip.each_rel (R := fun c d => ∃ rg, d = { c with regs := rg }) (f := fun c k => c.setNat (a + k) (numAt bs (4 * k) 4))
    (fun c => ⟨c.regs, rfl⟩) (fun _ _ _ ⟨x, h⟩ ⟨y, k⟩ => ⟨y, by rw [k, h]⟩) (List.range 16) (fun e k _ => ⟨_, rfl⟩) c

theorem ringPut_moves (c : Chip) {r : Nat} (f : CanFrame) (own esi : Bool) (hr : r < 8) :
    (∃ rg cs n, c.ringPut r f own esi = { c with regs := rg, ctrs := cs, freeCtr := n }) ∧ c.WordsBut (ringWord r) (c.ringPut r f own esi) ∧
      (c.ringPut r f own esi).get (portAt r) Port.rx_count = (c.get (portAt r) Port.rx_count + 1) % 2 ^ 32 := by
  have hi : c.get (portAt r) Port.rx_count % 2048 < 2048 := Nat.mod_lt _ (by decide)
  rw [Chip.ringPut]
  generalize hx : c.get (portAt r) Port.rx_count = x at hi ⊢
  generalize b2n own * 2 ^ 21 + b2n esi * 2 ^ 20 + b2n f.brs * 2 ^ 19 + b2n f.fd * 2 ^ 18 + b2n f.rtr * 2 ^ 17 + b2n f.ide * 2 ^ 16 +
    f.data.length * 2 ^ 8 + dlcOf f.data.length = w2
  generalize (if f.rtr = true then [] else f.data) = bs
  have ha : portAt r + 0x4000 ≤ ringAt r (x % 2048) ∧ ringAt r (x % 2048) + 20 ≤ portAt r + 0xE000 := by
    rw [ringAt]
    omega
  generalize ringAt r (x % 2048) = a at ha
  obtain ⟨h1, h2⟩ := ha
  have hset : ∀ (d : Chip) (k v : Nat), k < 20 → d.WordsBut (ringWord r) (d.setNat (a + k) v) := fun d k v hk =>
    .setWord d _ (.inl ⟨by omega, by omega⟩)
  have hwords : c.WordsBut (ringWord r) ((((c.setNat a c.tick).setNat (a + 1) f.key).setNat (a + 2) w2).setNat (a + 3) x) :=
    ((hset c 0 _ (by decide)).trans (hset _ 1 _ (by decide))).trans ((hset _ 2 _ (by decide)).trans (hset _ 3 _ (by decide)))
  generalize hd : (((c.setNat a c.tick).setNat (a + 1) f.key).setNat (a + 2) w2).setNat (a + 3) x = d at hwords ⊢
  have hdf : ∃ rg, d = { c with regs := rg } := ⟨d.regs, by rw [← hd]; rfl⟩
  obtain ⟨rg, hdf⟩ := hdf
  obtain ⟨rg', hbytes⟩ := putBytes16_frame d (a + 4) bs
  have hbw : d.WordsBut (ringWord r) (d.putBytes16 (a + 4) bs) := (putBytes16_words d (a + 4) bs).mono (fun _ h => .inl ⟨by omega, by omega⟩)
  have hcount := countPass_only ((d.putBytes16 (a + 4) bs).put (portAt r) Port.rx_count ((x + 1) % 2 ^ 32)) (r := r) 4 6 own 2 0 f.data.length hr
  have hcw : ((d.putBytes16 (a + 4) bs).put (portAt r) Port.rx_count ((x + 1) % 2 ^ 32)).WordsBut (ringWord r) _ := fun z hz =>
    hcount.2 z (fun hc => hz (.inr (.inr hc)))
  refine ⟨?_, (hwords.trans hbw).trans ((Chip.WordsBut.put _ _ (.inr (.inl (port_at _ _)))).trans hcw), ?_⟩
  · obtain ⟨⟨rg2, cs, n, he⟩, -⟩ := hcount
    exact ⟨rg2, cs, n, by rw [he, hbytes, hdf]; rfl⟩
  · have hno : ¬ counterWord (Port.rx_count.at (portAt r) 0) := fun hc => by
      rw [counterWord, portAt, Field.block_at _ (by decide) (by decide)] at hc
      exact absurd hc.2 (by decide)
    refine (Chip.get_congr (hcount.2 _ hno)).trans ?_
    exact Chip.get_put_of_lt _ _ (by decide) (Nat.mod_lt _ (by decide))

theorem not_ringWord {r i : Nat} {f : Field} (hr : r < 8) (h6 : f.first + i * f.stride ≠ 6) (h : f.first + i * f.stride < 0x4000) :
    ¬ ringWord r (f.at (portAt r) i) := by
  rintro (⟨ha, -⟩ | ha | ha)
  · rw [Field.at] at ha
    omega
  · rw [Field.at] at ha
    omega
  · rw [counterWord, portAt, Field.block_at _ (by decide) (by omega)] at ha
    exact absurd ha.2 (by decide)

/-! ### An acknowledged frame (R377, R381, R393) -/

/-- The counts and the ring entry of an acknowledged frame. -/
def Chip.ackCounted (c : Chip) (r : Nat) (f : CanFrame) (delay : Nat) : Chip :=
  let esi := c.get (portAt r) Port.state == 1
  let c1 := ((c.endTx r).bump (portAt r) Port.tx_ok).ringPut r f true (f.fd && esi)
  let c2 := c1.when (f.brs && c.flag (portAt r) Port.tdc_en) (·.put (portAt r) Port.tdc_meas delay)
  c2.put (portAt r) Port.tec (c2.get (portAt r) Port.tec - 1)

/-- What an acknowledged frame of object j carried. -/
def Chip.carried (c : Chip) (r : Nat) (src : TxSrc) (j : Nat) : List Nat :=
  match src, (c.obj r j).begun with
  | .object _, some q => q.content
  | _, _ => c.objContent r j

/-- The object of an acknowledged frame, freed and counted. -/
def Chip.objFreed (c3 : Chip) (r j : Nat) (free : Bool) (content : List Nat) (tick : Nat) : Chip :=
  (((c3.setObj r j (fun o => { o with begun := if free then none else o.begun, sent := some content })).putI (portAt r) PWord.ob_tick j tick).bumpByI
    (portAt r) PWord.ob_count j 1).objSync r j

/-- The source of an acknowledged frame, freed. -/
def Chip.srcFreed (c3 c : Chip) (r : Nat) (src : TxSrc) : Chip :=
  match src with
  | .object j => c3.objFreed r j true (c.carried r src j) c.tick
  | .exclusive j => c3.objFreed r j false (c.carried r src j) c.tick
  | .station k i => c3.setSta r k (fun s => { s with outs := upd s.outs i (fun f => { f with begun := none }) })
  | .safety => { c3 with safeTx := c3.safeTx.eraseP (fun e => e.1 == r) }
  | .reference => c3

/-- What a port notes of its last frame. -/
def PortSt.acked (p : PortSt) (src : TxSrc) : PortSt := { p.done src with ackRun := 0, bitRun := (0, 0) }

/-- The conditions of the bus that an acknowledged frame ends, and the error state. -/
def Chip.ackNoted (c4 c : Chip) (r : Nat) (src : TxSrc) (f : CanFrame) : Chip :=
  (((c4.setPort r (·.acked src)).when (c.flag (portAt r) Port.noack_now) (fun c => (c.put (portAt r) Port.noack_now 0).record 66 r 0 r [0] [f.key])).when
    ((c.port r).collId == some f.key) (fun c => (c.put (portAt r) Port.coll_now 0).setPort r (fun p => { p with collId := none }))).errState r

/-- The chip once the frame in transmission is acknowledged. -/
def Chip.completed (c : Chip) (r : Nat) (src : TxSrc) (f : CanFrame) (delay : Nat) : Chip :=
  ((c.ackCounted r f delay).srcFreed c r src).ackNoted c r src f

theorem transmitComplete_to {s : State} {r : Fin 8} {src : TxSrc} {f : CanFrame} (delay : BitVec 16) (h : (s.chip.port r).tx = some (src, f)) :
    exec (.transmitComplete r delay) s = .next { s with chip := s.chip.completed r src f delay.toNat } := by
  refine chipOnly_to s ?_
  rw [h]
  cases src <;> rfl

theorem when_words {P : Nat → Prop} (c : Chip) (b : Bool) {f : Chip → Chip} (h : c.WordsBut P (f c)) : c.WordsBut P (c.when b f) := by
  cases b
  · exact .refl P c
  · exact h

theorem when_kept {α : Type} (p : Chip → α) (c : Chip) (b : Bool) {f : Chip → Chip} (h : p (f c) = p c) : p (c.when b f) = p c := by
  cases b
  · rfl
  · exact h

theorem ackCounted_words (c : Chip) {r : Nat} (f : CanFrame) (delay : Nat) (hr : r < 8) (ht : c.get (portAt r) Port.tec ≤ 256) :
    (c.ackCounted r f delay).get (portAt r) Port.tec = c.get (portAt r) Port.tec - 1 ∧
      (c.ackCounted r f delay).get (portAt r) Port.tx_ok = min (c.get (portAt r) Port.tx_ok + 1) Port.tx_ok.top ∧
      (c.ackCounted r f delay).get (portAt r) Port.rx_count = (c.get (portAt r) Port.rx_count + 1) % 2 ^ 32 ∧
      (∀ j < 128, (c.ackCounted r f delay).getI (portAt r) PWord.ob_count j = c.getI (portAt r) PWord.ob_count j) := by
  obtain ⟨-, hw, hrx⟩ := ringPut_moves ((c.endTx r).bump (portAt r) Port.tx_ok) f true (f.fd && c.get (portAt r) Port.state == 1) hr
  have hdelay : ∀ (d : Chip) {g : Field}, Port.tdc_meas.clear g = true →
      (d.when (f.brs && c.flag (portAt r) Port.tdc_en) (·.put (portAt r) Port.tdc_meas delay)).get (portAt r) g = d.get (portAt r) g := fun d g hg =>
    Chip.get_when _ _ _ (Chip.get_put_clear _ _ _ hg)
  have htec : ((((c.endTx r).bump (portAt r) Port.tx_ok).ringPut r f true (f.fd && c.get (portAt r) Port.state == 1)).when
      (f.brs && c.flag (portAt r) Port.tdc_en) (·.put (portAt r) Port.tdc_meas delay)).get (portAt r) Port.tec = c.get (portAt r) Port.tec := by
    rw [hdelay _ (by decide), hw.get (not_ringWord hr (by decide) (by decide)), Chip.get_bump_clear' _ _ (by decide)]
    rfl
  rw [Chip.ackCounted]
  refine ⟨?_, ?_, ?_, fun j hj => ?_⟩
  · rw [htec]
    refine Chip.get_put_of_lt _ _ (by decide) ?_
    change _ < 512
    omega
  · rw [Chip.get_put_clear _ _ _ (by decide), hdelay _ (by decide), hw.get (not_ringWord hr (by decide) (by decide)), Chip.bump_get_self _ _ (by decide)]
    rfl
  · rw [Chip.get_put_clear _ _ _ (by decide), hdelay _ (by decide), hrx, Chip.get_bump_clear' _ _ (by decide)]
    rfl
  · have hat : PWord.ob_count.at (portAt r) j = portAt r + (0x1004 + j * 32) := Field.at_eq _ _ _
    have hne : ∀ g : Field, g.first < 0x1000 → PWord.ob_count.at (portAt r) j ≠ g.at (portAt r) 0 := fun g hg e => by
      rw [hat, port_at] at e
      omega
    rw [Chip.getI_put_other _ (hne _ (by decide))]
    have hmeas : ∀ d : Chip, d.WordsBut (fun a => a = Port.tdc_meas.at (portAt r) 0)
        (d.when (f.brs && c.flag (portAt r) Port.tdc_en) (·.put (portAt r) Port.tdc_meas delay)) := fun d =>
      when_words d _ (fun a ha => Chip.word_put_other d _ ha)
    refine (Chip.getI_congr (hmeas _ _ (hne Port.tdc_meas (by decide)))).trans ?_
    refine (Chip.getI_congr (hw _ (not_ringWord hr (by change 0x1004 + j * 32 ≠ 6; omega) (by change 0x1004 + j * 32 < _; omega)))).trans ?_
    exact (Chip.getI_put_other _ (hne _ (by decide))).trans rfl

theorem ackCounted_ports (c : Chip) {r : Nat} (f : CanFrame) (delay : Nat) (hr : r < 8) : (c.ackCounted r f delay).ports = (c.endTx r).ports := by
  obtain ⟨⟨rg, cs, n, he⟩, -, -⟩ := ringPut_moves ((c.endTx r).bump (portAt r) Port.tx_ok) f true (f.fd && c.get (portAt r) Port.state == 1) hr
  have hring : (((c.endTx r).bump (portAt r) Port.tx_ok).ringPut r f true (f.fd && c.get (portAt r) Port.state == 1)).ports = (c.endTx r).ports := by
    rw [he]
    rfl
  exact (when_kept (·.ports) _ (f.brs && c.flag (portAt r) Port.tdc_en) (f := (·.put (portAt r) Port.tdc_meas delay)) rfl).trans hring

/-- An object that is freed: its requests, and its count. -/
theorem objFreed_moves (c3 : Chip) {r j : Nat} (free : Bool) (content : List Nat) (tick : Nat) (hj : j < 128) :
    c3.ObjMoves r (c3.objFreed r j free content tick) ∧
      (c3.objFreed r j free content tick).getI (portAt r) PWord.ob_count j = min (c3.getI (portAt r) PWord.ob_count j + 1) (2 ^ 32 - 1) := by
  have hobj := Chip.ObjMoves.setObj c3 r j (fun o => { o with begun := if free then none else o.begun, sent := some content })
  rw [Chip.objFreed]
  generalize hd : c3.setObj r j (fun o => { o with begun := if free then none else o.begun, sent := some content }) = d at hobj ⊢
  have htick := Chip.ObjMoves.putI (f := PWord.ob_tick) d (r := r) tick hj rfl (by decide) (by decide)
  have hcount := Chip.ObjMoves.putI (f := PWord.ob_count) (d.putI (portAt r) PWord.ob_tick j tick) (r := r)
    (min ((d.putI (portAt r) PWord.ob_tick j tick).getI (portAt r) PWord.ob_count j + 1) PWord.ob_count.top) hj rfl (by decide) (by decide)
  refine ⟨hobj.trans (htick.trans (hcount.trans (.objSync _ r hj))), ?_⟩
  have hsync : ∀ e : Chip, (e.objSync r j).getI (portAt r) PWord.ob_count j = e.getI (portAt r) PWord.ob_count j := fun e =>
    (Chip.getI_putI_other _ (Field.at_ne (by change 0x1004 + j * 32 ≠ 0x1002 + j * 32; omega))).trans
      (Chip.getI_putI_other _ (Field.at_ne (by change 0x1004 + j * 32 ≠ 0x1002 + j * 32; omega)))
  rw [hsync]
  refine (Chip.getI_putI_of_lt _ _ _ (by decide) (Nat.lt_of_le_of_lt (Nat.min_le_right _ _) (by decide))).trans ?_
  have hkept : (d.putI (portAt r) PWord.ob_tick j tick).getI (portAt r) PWord.ob_count j = c3.getI (portAt r) PWord.ob_count j := by
    rw [Chip.getI_putI_other _ (Field.at_ne (by change 0x1004 + j * 32 ≠ 0x1003 + j * 32; omega)), ← hd]
    rfl
  rw [hkept]
  rfl

theorem srcFreed_moves (c3 c : Chip) (r : Nat) (src : TxSrc) (hj : ∀ j, src = .object j ∨ src = .exclusive j → j < 128) :
    c3.WordsBut (objWord r) (c3.srcFreed c r src) ∧ ((c3.srcFreed c r src).port r).tx = (c3.port r).tx ∧
      (c3.srcFreed c r src).ports.length = c3.ports.length := by
  cases src with
  | object j =>
    have h := (objFreed_moves c3 (r := r) true (c.carried r (.object j) j) c.tick (hj j (.inl rfl))).1
    exact ⟨h.words, h.same (·.tx) (fun _ => rfl), h.size⟩
  | exclusive j =>
    have h := (objFreed_moves c3 (r := r) false (c.carried r (.exclusive j) j) c.tick (hj j (.inr rfl))).1
    exact ⟨h.words, h.same (·.tx) (fun _ => rfl), h.size⟩
  | station k i => exact ⟨.of_regs rfl, port_setPort_kept c3 r r (·.tx) (fun _ => rfl), upd_length _ _ _⟩
  | safety => exact ⟨.of_regs rfl, rfl, rfl⟩
  | reference => exact ⟨.refl _ _, rfl, rfl⟩

/-- An object freed is free, with what it sent; what waits in it is as before. -/
theorem objFreed_obj (c3 : Chip) {r j : Nat} (content : List Nat) (tick : Nat) (hr : r < c3.ports.length) (hj : j < (c3.port r).objs.length) :
    ((c3.objFreed r j true content tick).obj r j).begun = none ∧ ((c3.objFreed r j true content tick).obj r j).sent = some content ∧
      ((c3.objFreed r j true content tick).obj r j).pend = (c3.obj r j).pend := by
  have hobj : (c3.objFreed r j true content tick).obj r j = { c3.obj r j with begun := none, sent := some content } := by
    change nth {} ((c3.setObj r j (fun o => { o with begun := if true then none else o.begun, sent := some content })).port r).objs j = _
    rw [Chip.setObj, port_setPort_same _ _ hr]
    exact nth_upd_same _ _ _ _ hj
  rw [hobj]
  exact ⟨rfl, rfl, rfl⟩

/-- What a port notes of its last frame leaves its objects and the frame in transmission. -/
theorem ackNoted_moves (c4 c : Chip) {r : Nat} (src : TxSrc) (f : CanFrame) (hr : r < 8) (ht : c4.get (portAt r) Port.tec ≤ 255) :
    c4.WordsBut (errWord r) (c4.ackNoted c r src f) ∧ ((c4.ackNoted c r src f).port r).tx = (c4.port r).tx ∧
      ((c4.ackNoted c r src f).port r).objs = (c4.port r).objs := by
  have hzero : ∀ g : Field, g.first = 0 → errWord r (g.at (portAt r) 0) := fun g hg => .inl (by rw [port_at, hg, Nat.add_zero])
  have hnoack : ∀ d : Chip, d.Writes (errWord r) (d.when (c.flag (portAt r) Port.noack_now) (fun c =>
      (c.put (portAt r) Port.noack_now 0).record 66 r 0 r [0] [f.key])) := fun d =>
    .when (.refl _ d) (.record (.put (.refl _ d) _ (hzero _ rfl)) _ _ _ _ _ _ (fun _ h => .inr (.inr h)))
  rw [Chip.ackNoted]
  generalize hc5 : c4.setPort r (·.acked src) = c5
  have h5 : c4.WordsBut (errWord r) c5 ∧ (c5.port r).tx = (c4.port r).tx ∧ (c5.port r).objs = (c4.port r).objs := by
    rw [← hc5]
    exact ⟨.of_regs rfl, port_setPort_kept c4 r r (·.tx) (fun _ => rfl), port_setPort_kept c4 r r (·.objs) (fun _ => rfl)⟩
  have h6 := hnoack c5
  generalize c5.when (c.flag (portAt r) Port.noack_now) (fun c => (c.put (portAt r) Port.noack_now 0).record 66 r 0 r [0] [f.key]) = c6 at h6 ⊢
  have hp6 : c6.port r = c5.port r := by rw [Chip.port, h6.ports, Chip.port]
  have h7 : ∀ b : Bool, c6.WordsBut (errWord r) (c6.when b (fun c => (c.put (portAt r) Port.coll_now 0).setPort r (fun p => { p with collId := none }))) ∧
      ((c6.when b (fun c => (c.put (portAt r) Port.coll_now 0).setPort r (fun p => { p with collId := none }))).port r).tx = (c6.port r).tx ∧
      ((c6.when b (fun c => (c.put (portAt r) Port.coll_now 0).setPort r (fun p => { p with collId := none }))).port r).objs = (c6.port r).objs := fun b => by
    cases b
    · exact ⟨.refl _ _, rfl, rfl⟩
    · exact ⟨.put _ _ (hzero _ rfl), port_setPort_kept (c6.put (portAt r) Port.coll_now 0) r r (·.tx) (fun _ => rfl),
        port_setPort_kept (c6.put (portAt r) Port.coll_now 0) r r (·.objs) (fun _ => rfl)⟩
  obtain ⟨w7, t7, o7⟩ := h7 ((c.port r).collId == some f.key)
  generalize c6.when ((c.port r).collId == some f.key) (fun c => (c.put (portAt r) Port.coll_now 0).setPort r (fun p => { p with collId := none })) = c7
    at w7 t7 o7 ⊢
  have hw : c4.WordsBut (errWord r) c7 := (h5.1.trans h6.words).trans w7
  have h8 := (errState_calm c7 hr (by rw [hw.get (errWord_first hr (by decide) (by decide) (by decide))]; exact ht)).1
  have hp8 : (c7.errState r).port r = c7.port r := by rw [Chip.port, h8.ports, Chip.port]
  exact ⟨hw.trans h8.words, by rw [hp8, t7, hp6, h5.2.1], by rw [hp8, o7, hp6, h5.2.2]⟩

theorem errWord_obj {r j : Nat} (hr : r < 8) (hj : j < 128) : ¬ errWord r (PWord.ob_count.at (portAt r) j) := by
  have hat : PWord.ob_count.at (portAt r) j = portAt r + (0x1004 + j * 32) := Field.at_eq _ _ _
  rintro (he | he | he)
  · omega
  · omega
  · rw [recorderWord, port_space hr j (by change 0x1004 + j * 32 < 65536; omega)] at he
    omega

theorem endTx_tx (c : Chip) {r : Nat} (h : r < c.ports.length) : ((c.endTx r).port r).tx = none := by
  rw [Chip.endTx, port_setPort_same _ _ h]

theorem endTx_objs (c : Chip) (r : Nat) : ((c.endTx r).port r).objs = (c.port r).objs := port_setPort_kept c r r (·.objs) (fun _ => rfl)

/-! ### A frame that ends in an error (R381, R393, R396, R397) -/

/-- The counts of a frame that ends in an error. -/
def Chip.txErrCounted (c : Chip) (r : Nat) (bumped raise : Bool) : Chip :=
  ((c.endTx r).when bumped (·.bump (portAt r) Port.err_frames)).when raise (fun c =>
    c.put (portAt r) Port.tec (min (c.get (portAt r) Port.tec + 8) 511))

/-- The source of a frame that ends in an error. -/
def Chip.srcFailed (c : Chip) (r : Nat) (src : TxSrc) : Chip :=
  match src with
  | .object j => c.failShot r j false
  | .exclusive j => c.setPort r (·.done (.exclusive j))
  | .reference => c.setPort r (·.done .reference)
  | _ => c

/-- What a port notes of its errors in a row. -/
def PortSt.erred (p : PortSt) (ack : Nat) (run : Nat × Nat) (flag : Bool) : PortSt := { p with ackRun := ack, bitRun := run, flagUp := flag }

/-- The conditions of the bus that errors in a row begin. -/
def Chip.errNoted (c : Chip) (r key : Nat) (noack coll : Bool) : Chip :=
  (c.when noack (fun c => ((c.put (portAt r) Port.noack_now 1).pOn r 3).record 66 r 1 r [1] [key])).when coll (fun c =>
    ((((c.put (portAt r) Port.coll_now 1).pOn r 4).put (portAt r) Port.last_coll_id key).setPort r (fun p => { p with
      collId := some key })).record 67 r 2 r [] [key])

theorem when_false (c : Chip) (f : Chip → Chip) : c.when false f = c := rfl

theorem when_true (c : Chip) (f : Chip → Chip) : c.when true f = f c := rfl

theorem txErrCounted_words (c : Chip) {r : Nat} (bumped raise : Bool) (ht : c.get (portAt r) Port.tec ≤ 255) :
    (c.txErrCounted r bumped raise).get (portAt r) Port.tec = c.get (portAt r) Port.tec + (if raise then 8 else 0) ∧
      (c.txErrCounted r bumped raise).get (portAt r) Port.err_frames = min (c.get (portAt r) Port.err_frames + (if bumped then 1 else 0)) Port.err_frames.top ∧
      (c.txErrCounted r bumped raise).get (portAt r) Port.state = c.get (portAt r) Port.state := by
  have hcap : min (c.get (portAt r) Port.err_frames) Port.err_frames.top = c.get (portAt r) Port.err_frames :=
    Nat.min_eq_left (Nat.le_sub_one_of_lt (Chip.get_lt c _ _))
  have hb : ∀ {g : Field}, Port.err_frames.clear g = true → ((c.endTx r).when bumped (·.bump (portAt r) Port.err_frames)).get (portAt r) g = c.get (portAt r) g :=
    fun hg => (Chip.get_when _ _ _ (Chip.get_bump_clear' _ _ hg)).trans (Chip.setPort_get _ _ _ _ _)
  have he : ((c.endTx r).when bumped (·.bump (portAt r) Port.err_frames)).get (portAt r) Port.err_frames =
      min (c.get (portAt r) Port.err_frames + (if bumped then 1 else 0)) Port.err_frames.top := by
    cases bumped
    · rw [if_neg Bool.false_ne_true, Nat.add_zero, hcap]
      exact Chip.setPort_get c r _ _ _
    · refine (Chip.bump_get_self (c.endTx r) _ (by decide)).trans ?_
      rw [Chip.endTx, Chip.setPort_get, if_pos rfl]
  rw [Chip.txErrCounted]
  generalize hd : (c.endTx r).when bumped (·.bump (portAt r) Port.err_frames) = d at hb he
  refine ⟨?_, ?_, ?_⟩
  · cases raise
    · rw [when_false, if_neg Bool.false_ne_true, Nat.add_zero]
      exact hb (by decide)
    · rw [when_true]
      refine (Chip.get_put_of_lt _ _ (by decide) (Nat.lt_of_le_of_lt (Nat.min_le_right _ _) (by decide))).trans ?_
      rw [hb (by decide), if_pos rfl]
      omega
  · exact (Chip.get_when _ _ _ (Chip.get_put_clear _ _ _ (by decide))).trans he
  · exact (Chip.get_when _ _ _ (Chip.get_put_clear _ _ _ (by decide))).trans (hb (by decide))

/-- Errors in a row: what a port counts of them. -/
def PortSt.ackErrs (p : PortSt) (k : Nat) : Nat := if k = 1 then p.ackRun + 1 else if k = 0 then p.ackRun else 0

def PortSt.bitErrs (p : PortSt) (k key : Nat) : Nat × Nat :=
  if k = 2 then (key, if p.bitRun.1 = key then p.bitRun.2 + 1 else 1) else if k = 0 then p.bitRun else (0, 0)

/-- Does an error of this kind raise the transmit counter (ISO 11898-1, R393)? -/
def Chip.raises (c : Chip) (r k : Nat) : Bool := k == 2 || k == 3 || (k == 1 && c.get (portAt r) Port.state == 0)

/-- The chip of a frame that has ended in an error, before the error state follows. -/
def Chip.txFailed (c : Chip) (r : Nat) (src : TxSrc) (key k : Nat) : Chip :=
  ((c.txErrCounted r (k != 0) (c.raises r k)).srcFailed r src).setPort r (·.erred ((c.port r).ackErrs k) ((c.port r).bitErrs k key) (k != 0))

/-- The chip once the frame in transmission has ended in an error. -/
def Chip.txErred (c : Chip) (r : Nat) (src : TxSrc) (key k : Nat) : Chip :=
  ((c.txFailed r src key k).errState r).errNoted r key
    ((c.port r).ackErrs k == 16 && k == 1 && !c.flag (portAt r) Port.noack_now) (k == 2 && ((c.port r).bitErrs k key).2 == 2)

theorem transmitError_to {s : State} {r : Fin 8} {src : TxSrc} {f : CanFrame} {k : Fin 6} (h : (s.chip.port r).tx = some (src, f)) (hk : k ≠ 5) :
    exec (.transmitError r k) s = .next { s with chip := s.chip.txErred r src f.key k } := by
  refine chipOnly_to s ?_
  rw [h]
  refine (if_neg (fun e => hk (Fin.ext e))).trans ?_
  cases src <;> rfl

theorem transmitError_stays {s : State} {r : Fin 8} {src : TxSrc} {f : CanFrame} (h : (s.chip.port r).tx = some (src, f)) :
    exec (.transmitError r 5) s = .next s := by
  refine chipOnly_to s (d := s.chip) ?_
  rw [h]
  exact if_pos rfl

theorem srcFailed_moves (c : Chip) (r : Nat) (src : TxSrc) (hj : ∀ j, src = .object j ∨ src = .exclusive j → j < 128) : c.ObjMoves r (c.srcFailed r src) := by
  cases src with
  | object j => exact .failShot c r false (hj j (.inl rfl))
  | exclusive j => exact .setPort c r (fun _ => rfl)
  | station k i => exact .refl r c
  | safety => exact .refl r c
  | reference => exact .setPort c r (fun _ => rfl)

/-- Before the error state follows: the counts, and no frame under way. -/
theorem txFailed_words (c : Chip) {r : Nat} (src : TxSrc) (key k : Nat) (hl : r < c.ports.length)
    (hj : ∀ j, src = .object j ∨ src = .exclusive j → j < 128) (ht : c.get (portAt r) Port.tec ≤ 255) :
    (c.txFailed r src key k).get (portAt r) Port.tec = c.get (portAt r) Port.tec + (if c.raises r k then 8 else 0) ∧
      (c.txFailed r src key k).get (portAt r) Port.err_frames =
        min (c.get (portAt r) Port.err_frames + (if k != 0 then 1 else 0)) Port.err_frames.top ∧
      (c.txFailed r src key k).get (portAt r) Port.state = c.get (portAt r) Port.state ∧
      ((c.txFailed r src key k).port r).tx = none ∧ (c.txFailed r src key k).ports.length = c.ports.length := by
  obtain ⟨h1, h2, h3⟩ := txErrCounted_words c (r := r) (k != 0) (c.raises r k) ht
  have hm := srcFailed_moves (c.txErrCounted r (k != 0) (c.raises r k)) r src hj
  have hports : (c.txErrCounted r (k != 0) (c.raises r k)).ports = (c.endTx r).ports :=
    (when_kept (·.ports) _ (c.raises r k) (f := fun c => c.put (portAt r) Port.tec (min (c.get (portAt r) Port.tec + 8) 511)) rfl).trans
      (when_kept (·.ports) (c.endTx r) (k != 0) (f := (·.bump (portAt r) Port.err_frames)) rfl)
  rw [Chip.txFailed]
  refine ⟨?_, ?_, ?_, ?_, ?_⟩
  · rw [Chip.setPort_get, hm.get (by decide), h1]
  · rw [Chip.setPort_get, hm.get (by decide), h2]
  · rw [Chip.setPort_get, hm.get (by decide), h3]
  · refine (port_setPort_kept _ r r (f := (·.erred ((c.port r).ackErrs k) ((c.port r).bitErrs k key) (k != 0))) (·.tx) (fun _ => rfl)).trans ?_
    refine (hm.same (·.tx) (fun _ => rfl)).trans ?_
    rw [Chip.port, hports]
    exact endTx_tx c hl
  · refine (upd_length _ _ _).trans (hm.size.trans ?_)
    rw [hports]
    exact upd_length _ _ _

/-- The conditions that errors in a row begin leave the counters and the frame in transmission. -/
theorem errNoted_kept (c : Chip) {r : Nat} (key : Nat) (noack coll : Bool) (hr : r < 8) :
    (c.errNoted r key noack coll).get (portAt r) Port.tec = c.get (portAt r) Port.tec ∧
      (c.errNoted r key noack coll).get (portAt r) Port.err_frames = c.get (portAt r) Port.err_frames ∧
      (c.errNoted r key noack coll).get (portAt r) Port.state = c.get (portAt r) Port.state ∧
      ((c.errNoted r key noack coll).port r).tx = (c.port r).tx := by
  have hget : ∀ {g : Field}, g.first < 65536 → g.first ≠ 0xB → Port.noack_now.clear g = true → Port.coll_now.clear g = true →
      Port.last_coll_id.clear g = true → (c.errNoted r key noack coll).get (portAt r) g = c.get (portAt r) g := fun {g} hf hb h1 h2 h3 => by
    have hna : ∀ d : Chip, (((d.put (portAt r) Port.noack_now 1).pOn r 3).record 66 r 1 r [1] [key]).get (portAt r) g = d.get (portAt r) g := fun d => by
      refine (port_record _ hr 0 (by omega) _ _ _ _ _ _).trans ((pOn_getI _ _ _ 0 (by omega)).trans ?_)
      exact Chip.get_put_clear _ _ _ h1
    have hco : ∀ d : Chip, (((((d.put (portAt r) Port.coll_now 1).pOn r 4).put (portAt r) Port.last_coll_id key).setPort r (fun p => { p with
        collId := some key })).record 67 r 2 r [] [key]).get (portAt r) g = d.get (portAt r) g := fun d => by
      refine (port_record _ hr 0 (by omega) _ _ _ _ _ _).trans ?_
      refine (Chip.setPort_getI _ _ _ _ _ _).trans ((Chip.get_put_clear _ _ _ h3).trans ((pOn_getI _ _ _ 0 (by omega)).trans ?_))
      exact Chip.get_put_clear _ _ _ h2
    rw [Chip.errNoted, Chip.get_when _ _ _ (hco _), Chip.get_when _ _ _ (hna _)]
  refine ⟨hget (by decide) (by decide) (by decide) (by decide) (by decide), hget (by decide) (by decide) (by decide) (by decide) (by decide),
    hget (by decide) (by decide) (by decide) (by decide) (by decide), ?_⟩
  have hna : (c.when noack (fun c => ((c.put (portAt r) Port.noack_now 1).pOn r 3).record 66 r 1 r [1] [key])).ports = c.ports :=
    when_kept (·.ports) c noack (f := fun c => ((c.put (portAt r) Port.noack_now 1).pOn r 3).record 66 r 1 r [1] [key]) (Chip.record_ports _ _ _ _ _ _ _)
  rw [Chip.errNoted]
  generalize c.when noack (fun c => ((c.put (portAt r) Port.noack_now 1).pOn r 3).record 66 r 1 r [1] [key]) = d at hna ⊢
  have hd : d.port r = c.port r := by rw [Chip.port, hna, Chip.port]
  cases coll
  · rw [when_false, hd]
  · rw [when_true, Chip.port, Chip.record_ports]
    exact (port_setPort_kept d r r (f := fun p => { p with collId := some key }) (·.tx) (fun _ => rfl)).trans (congrArg (·.tx) hd)

/-- Settles O28: the end of a transmission. -/
theorem transmissionEnds : Obligations.TransmissionEnds := by
  intro r src f s hs htx hj hobjs
  have hr := r.isLt
  have hlen : r.val < s.chip.ports.length := by
    rw [hs.sized.ports]
    exact hr
  refine ⟨fun delay ht => ?_, transmitError_stays htx, fun k hk h1 ht => ?_⟩
  · obtain ⟨htec, hok, hrx, hcount⟩ := ackCounted_words s.chip f delay.toNat hr ht
    have hports := ackCounted_ports s.chip f delay.toNat hr
    obtain ⟨hw, hsrc, hsize⟩ := srcFreed_moves (s.chip.ackCounted r f delay.toNat) s.chip r src hj
    have hfree : ∀ {g : Field}, g.first < 0x1000 → ((s.chip.ackCounted r f delay.toNat).srcFreed s.chip r src).get (portAt r) g =
        (s.chip.ackCounted r f delay.toNat).get (portAt r) g := fun hg => hw.get (not_objWord hg)
    obtain ⟨hlate, hltx, hlobjs⟩ := ackNoted_moves ((s.chip.ackCounted r f delay.toNat).srcFreed s.chip r src) s.chip src f hr (by
      rw [hfree (by decide), htec]
      omega)
    have hget : ∀ {g : Field}, g.first < 0x1000 → g.first ≠ 0 → g.first ≠ 0xB → (s.chip.completed r src f delay.toNat).get (portAt r) g =
        (s.chip.ackCounted r f delay.toNat).get (portAt r) g := fun hg h0 hb => (hlate.get (errWord_first hr (by omega) h0 hb)).trans (hfree hg)
    have hport : (s.chip.ackCounted r f delay.toNat).port r = (s.chip.endTx r).port r := by rw [Chip.port, hports, Chip.port]
    refine ⟨_, transmitComplete_to delay htx, ?_, (hget (by decide) (by decide) (by decide)).trans htec, (hget (by decide) (by decide) (by decide)).trans hok,
      (hget (by decide) (by decide) (by decide)).trans hrx, fun j q hsj hq => ?_, .chip s _⟩
    · exact hltx.trans (hsrc.trans ((congrArg (·.tx) hport).trans (endTx_tx s.chip hlen)))
    · subst hsj
      have hj128 := hj j (.inl rfl)
      have hc : s.chip.carried r (.object j) j = q.content := by
        unfold Chip.carried
        rw [hq]
      have hobj : ∀ i, (s.chip.completed r (.object j) f delay.toNat).obj r i =
          ((s.chip.ackCounted r f delay.toNat).objFreed r j true q.content s.chip.tick).obj r i := fun i => by
        rw [Chip.obj, Chip.obj, ← hc]
        exact congrArg (fun l => nth {} l i) hlobjs
      have hold : (s.chip.ackCounted r f delay.toNat).obj r j = s.chip.obj r j := by
        rw [Chip.obj, hport, endTx_objs, Chip.obj]
      obtain ⟨hb, hsent, hpend⟩ := objFreed_obj (s.chip.ackCounted r f delay.toNat) (r := r) (j := j) q.content s.chip.tick
        (by rw [hports]; exact (upd_length _ _ _).symm ▸ hlen) (by rw [hport, endTx_objs, hobjs]; exact hj128)
      rw [hobj]
      refine ⟨hb, hsent, hpend.trans (congrArg (·.pend) hold), ?_⟩
      refine (Chip.getI_congr (hlate _ (errWord_obj hr hj128))).trans ?_
      rw [← hcount j hj128]
      exact (objFreed_moves _ true _ _ hj128).2
  · obtain ⟨h1', h2', h3', h4', h5'⟩ := txFailed_words s.chip src f.key k hlen hj ht
    have hkept := errNoted_kept ((s.chip.txFailed r src f.key k).errState r) f.key
      ((s.chip.port r).ackErrs k == 16 && k.val == 1 && !s.chip.flag (portAt r) Port.noack_now) (k.val == 2 && ((s.chip.port r).bitErrs k f.key).2 == 2) hr
    obtain ⟨e1, e2, e3, e4⟩ := hkept
    have hraise : (k = 2 ∨ k = 3 ∨ (k = 1 ∧ s.chip.get (portAt r) Port.state = 0)) ↔ s.chip.raises r k = true := by
      have hval : ∀ n : Fin 6, k = n ↔ k.val = n.val := fun n => Fin.ext_iff
      rw [Chip.raises, hval, hval, hval]
      simp [or_assoc]
    have herr : (if k.val != 0 then 1 else 0) = if k = 0 then 0 else 1 := by
      by_cases h0 : k = 0
      · rw [h0]
        rfl
      · have : k.val ≠ 0 := fun e => h0 (Fin.ext e)
        rw [if_neg h0, if_pos (bne_iff_ne.2 this)]
    have hcalm : (s.chip.txFailed r src f.key k).get (portAt r) Port.tec ≤ 255 →
        ((s.chip.txFailed r src f.key k).errState r).get (portAt r) Port.tec = (s.chip.txFailed r src f.key k).get (portAt r) Port.tec ∧
        ((s.chip.txFailed r src f.key k).errState r).get (portAt r) Port.err_frames = (s.chip.txFailed r src f.key k).get (portAt r) Port.err_frames ∧
        ((s.chip.txFailed r src f.key k).errState r).get (portAt r) Port.state ≤ 1 ∧
        (((s.chip.txFailed r src f.key k).errState r).port r).tx = none := fun h => by
      obtain ⟨hw, hst⟩ := errState_calm (s.chip.txFailed r src f.key k) hr h
      refine ⟨hw.get (errWord_first hr (by decide) (by decide) (by decide)), hw.get (errWord_first hr (by decide) (by decide) (by decide)), hst (h3'.trans_le h1), ?_⟩
      rw [Chip.port, hw.ports]
      exact h4'
    have hover := errState_over (s.chip.txFailed r src f.key k) hr (by rw [h5']; exact hlen)
    refine ⟨_, transmitError_to htx hk, ?_, ⟨fun hn => ?_, fun hy h247 => ?_, fun hy h247 => ?_⟩, ?_, .chip s _⟩
    · rcases Nat.lt_or_ge 255 ((s.chip.txFailed r src f.key k).get (portAt r) Port.tec) with h | h
      · exact e4.trans (hover h (h3'.trans_le h1)).2.2.2
      · exact e4.trans (hcalm h).2.2.2
    · rw [if_neg (fun e => hn (hraise.2 e)), Nat.add_zero] at h1'
      exact e1.trans ((hcalm (h1'.trans_le ht)).1.trans h1')
    · rw [if_pos (hraise.1 hy)] at h1'
      obtain ⟨c1, -, c3, -⟩ := hcalm (by rw [h1']; omega)
      exact ⟨e1.trans (c1.trans h1'), e3.trans_le c3⟩
    · rw [if_pos (hraise.1 hy)] at h1'
      obtain ⟨c1, ⟨c2, c3⟩, -, -⟩ := hover (by rw [h1']; omega) (h3'.trans_le h1)
      exact ⟨e1.trans c1, by rw [Chip.txErred, e3]; exact c2, by rw [Chip.txErred, e3]; exact c3⟩
    · rw [herr] at h2'
      rcases Nat.lt_or_ge 255 ((s.chip.txFailed r src f.key k).get (portAt r) Port.tec) with h | h
      · exact e2.trans ((hover h (h3'.trans_le h1)).2.2.1.trans h2')
      · exact e2.trans ((hcalm h).2.1.trans h2')

end Sys2Proof.Machine
end

section
/-! SUPPORT. O30: requests in time and the schedule of a port. -/

namespace Sys2Proof.Machine

/-! ### Requests in time (R379, R387) -/

theorem setObj_regs (c : Chip) (r j : Nat) (f : PortObj → PortObj) : (c.setObj r j f).regs = c.regs := rfl

theorem obj_setObj_same (c : Chip) {r j : Nat} (f : PortObj → PortObj) (hr : r < c.ports.length) (hj : j < (c.port r).objs.length) :
    (c.setObj r j f).obj r j = f (c.obj r j) := by
  rw [Chip.obj, Chip.setObj, port_setPort_same _ _ hr]
  exact nth_upd_same _ _ _ _ hj

theorem obj_setObj_other (c : Chip) {r j k : Nat} (f : PortObj → PortObj) (h : k ≠ j) : (c.setObj r j f).obj r k = c.obj r k :=
  port_setPort_kept c r r (f := fun p => { p with objs := upd p.objs j f }) (fun p => nth ({} : PortObj) p.objs k) (fun p => nth_upd_other _ _ _ h)

theorem objBytes_congr {c d : Chip} (h : d.regs = c.regs) (r j : Nat) (bs : List Nat) : d.objBytes r j bs = c.objBytes r j bs := by
  have hget : ∀ f : Field, d.getI (portAt r) f j = c.getI (portAt r) f j := fun f => Chip.getI_congr (by rw [Chip.word, h, Chip.word])
  rw [Chip.objBytes, Chip.objBytes, Chip.objMode, Chip.objMode, hget, hget]

/-- The words that a request of an object takes. -/
def Chip.requestRegs (c : Chip) (r j : Nat) : Chip :=
  (c.when ((c.obj r j).pend.isSome || (c.obj r j).begun.isSome) (·.bumpByI (portAt r) PWord.ob_superseded j 1)).putI (portAt r) PWord.ob_single_fail j 0

theorem requestRegs_frame (c : Chip) (r j : Nat) : ∃ rg, c.requestRegs r j = { c with regs := rg } := by
  rw [Chip.requestRegs]
  cases (c.obj r j).pend.isSome || (c.obj r j).begun.isSome
  · exact ⟨_, rfl⟩
  · exact ⟨_, rfl⟩

theorem tongsDown_congr {c d : Chip} (hw : d.regs = c.regs) (hs : d.sys = c.sys) (r k : Nat) (h : d.usesDomain r k = c.usesDomain r k) :
    d.tongsDown r k = c.tongsDown r k := by
  rw [Chip.tongsDown, Chip.tongsDown, h, Chip.clkLost, Chip.clkLost, hs]

/-- A request that the CAN clock takes: it waits with its bytes. -/
theorem request_to (c : Chip) (r j : Nat) (content : List Nat) (h : c.tongsDown r 2 = false) :
    c.request r j content = ((c.requestRegs r j).setObj r j (fun o => { o with pend := some ⟨c.objBytes r j content, content⟩, held := o.inhibited c.now })).objSync r j :=
  if_neg (fun e => Bool.false_ne_true (h.symm.trans e))

theorem objSync_ports (c : Chip) (r j : Nat) : (c.objSync r j).ports = c.ports := rfl

/-- The chip once a periodic object has requested its content. -/
def Chip.periodicAsked (c : Chip) (r j t0 : Nat) : Chip :=
  (c.setObj r j (fun o => { o with perAt := some (t0 + 1000 * o.period) })).request r j (c.objContent r j)

/-- What a request leaves of an object but its bytes. -/
def PortObj.asked (o : PortObj) (q : SendReq) (now : Nat) : PortObj := { o with pend := some q, held := o.inhibited now }

theorem periodicAsked_obj (c : Chip) {r j : Nat} (t0 : Nat) (hd : c.tongsDown r 2 = false) (hr : r < c.ports.length) (hj : j < (c.port r).objs.length) :
    ((c.periodicAsked r j t0).obj r j).perAt = some (t0 + 1000 * (c.obj r j).period) ∧
      ((c.periodicAsked r j t0).obj r j).pend = some ⟨c.objBytes r j (c.objContent r j), c.objContent r j⟩ ∧
      ∀ k, k ≠ j → (c.periodicAsked r j t0).obj r k = c.obj r k := by
  have hsame := obj_setObj_same c (fun o => { o with perAt := some (t0 + 1000 * o.period) }) hr hj
  have hlen : j < ((c.setObj r j (fun o => { o with perAt := some (t0 + 1000 * o.period) })).port r).objs.length := by
    rw [Chip.setObj, port_setPort_same _ _ hr]
    exact (upd_length _ _ _).symm ▸ hj
  have hports : r < (c.setObj r j (fun o => { o with perAt := some (t0 + 1000 * o.period) })).ports.length := (upd_length _ _ _).symm ▸ hr
  have hother : ∀ k, k ≠ j → (c.setObj r j (fun o => { o with perAt := some (t0 + 1000 * o.period) })).obj r k = c.obj r k := fun k hk =>
    obj_setObj_other c _ hk
  have hbytes := objBytes_congr (c := c) (setObj_regs c r j (fun o => { o with perAt := some (t0 + 1000 * o.period) })) r j (c.objContent r j)
  rw [Chip.periodicAsked, request_to (c.setObj r j (fun o => { o with perAt := some (t0 + 1000 * o.period) })) r j _ hd]
  generalize c.setObj r j (fun o => { o with perAt := some (t0 + 1000 * o.period) }) = d at hsame hlen hports hother hbytes ⊢
  rw [hbytes]
  obtain ⟨rg, he⟩ := requestRegs_frame d r j
  have hobj : ∀ k, (((d.requestRegs r j).setObj r j (·.asked ⟨c.objBytes r j (c.objContent r j), c.objContent r j⟩ d.now)).objSync r j).obj r k =
      ((d.requestRegs r j).setObj r j (·.asked ⟨c.objBytes r j (c.objContent r j), c.objContent r j⟩ d.now)).obj r k := fun _ => rfl
  have hreq : ∀ k, (d.requestRegs r j).obj r k = d.obj r k := fun k => by
    rw [he]
    rfl
  have hown : ((d.requestRegs r j).setObj r j (·.asked ⟨c.objBytes r j (c.objContent r j), c.objContent r j⟩ d.now)).obj r j =
      (d.obj r j).asked ⟨c.objBytes r j (c.objContent r j), c.objContent r j⟩ d.now := by
    rw [obj_setObj_same _ _ (by rw [he]; exact hports) (by rw [he]; exact hlen), hreq]
  refine ⟨?_, ?_, fun k hk => ?_⟩
  · exact (congrArg (·.perAt) ((hobj j).trans hown)).trans (congrArg (·.perAt) hsame)
  · exact congrArg (·.pend) ((hobj j).trans hown)
  · exact (hobj k).trans ((obj_setObj_other _ _ hk).trans ((hreq k).trans (hother k hk)))

theorem periodicAsked_frame (c : Chip) (r j t0 : Nat) (hd : c.tongsDown r 2 = false) :
    ∃ rg pt, c.periodicAsked r j t0 = { c with regs := rg, ports := pt } := by
  rw [Chip.periodicAsked, request_to (c.setObj r j (fun o => { o with perAt := some (t0 + 1000 * o.period) })) r j _ hd]
  obtain ⟨rg, he⟩ := requestRegs_frame (c.setObj r j (fun o => { o with perAt := some (t0 + 1000 * o.period) })) r j
  rw [he]
  exact ⟨_, _, rfl⟩

theorem not_inhibited {o : PortObj} {now : Nat} (h : ∀ t0, o.beganAt = some t0 → t0 + 1000 * o.inhibit ≤ now) : o.inhibited now = false := by
  rw [PortObj.inhibited]
  split
  · next t ht => exact decide_eq_false (Nat.not_lt.2 (h t ht))
  · rfl

/-- A station whose last image is due again is sent it; the others are as they were. -/
def PortSta.refreshed (s : PortSta) (station now : Nat) : PortSta := if s.dueAgain station now then s.send (s.outSent.getD []) now else s

theorem refreshed_due {s : PortSta} {station now : Nat} {img : List Nat} (h : s.station = station) (hr : s.refresh ≠ 0)
    (ht : s.sentAt + 1000 * s.refresh ≤ now) (hi : s.outSent = some img) : s.refreshed station now = s.send img now := by
  have hdue : s.dueAgain station now = true := by
    rw [PortSta.dueAgain, h, hi, bne_iff_ne.2 hr, decide_eq_true ht, beq_self_eq_true]
    rfl
  rw [PortSta.refreshed, if_pos hdue, hi]
  rfl

theorem refreshed_other {s : PortSta} {station : Nat} (now : Nat) (h : s.station ≠ station) : s.refreshed station now = s := by
  refine if_neg ?_
  rw [PortSta.dueAgain, beq_eq_false_iff_ne.2 h, Bool.false_and, Bool.false_and, Bool.false_and]
  decide

/-! ### The schedule (R388 to R392) -/

/-- What a port notes of a reference message. -/
def PortSt.referred (p : PortSt) (now span : Nat) (master : Bool) : PortSt :=
  { p with refSeen := true, refAt := now, refLen := span, tryAt := now, tryLen := span, col := 0, isMaster := master }

/-- The chip that has taken a reference message. -/
def Chip.referred (c : Chip) (r : Nat) (m : Matrix) (id byte : Nat) : Chip :=
  ((((c.put (portAt r) Port.sched_cycle (byte % 64 % m.rows)).setPort r (·.referred c.now (refSpan id byte) (m.master && id % 8 == m.prio))).when
    ((c.port r).refSeen && byte % 64 != c.nextCycle r m) (fun d => (d.bump (portAt r) Port.cycle_jumps).record 70 r 1 r [2] [c.nextCycle r m, byte % 64])).when
    (c.flag (portAt r) Port.sched_err_now) (fun d => (d.put (portAt r) Port.sched_err_now 0).record 70 r 0 r [0] [c.nextCycle r m, byte % 64]))

theorem referenceMessage_to {s : State} {r : Fin 8} {m : Matrix} {id : BitVec 11} {byte : BitVec 8} (hm : s.chip.sched r = some m)
    (hl : s.chip.portLive r = true) (hid : id.toNat / 8 = m.refId / 8) :
    exec (.referenceMessage r id byte) s = .next { s with chip := s.chip.referred r m id.toNat byte.toNat } := by
  refine chipOnly_to s ?_
  rw [hm]
  refine if_neg ?_
  rw [hl, hid, bne_self_eq_false]
  decide

theorem referred_port (c : Chip) {r : Nat} (m : Matrix) (id byte : Nat) (h : r < c.ports.length) :
    (c.referred r m id byte).port r = (c.port r).referred c.now (refSpan id byte) (m.master && id % 8 == m.prio) := by
  have hports : (c.referred r m id byte).ports = upd c.ports r (·.referred c.now (refSpan id byte) (m.master && id % 8 == m.prio)) :=
    (when_kept (·.ports) _ (c.flag (portAt r) Port.sched_err_now) (f := fun d => (d.put (portAt r) Port.sched_err_now 0).record 70 r 0 r [0]
        [c.nextCycle r m, byte % 64]) (Chip.record_ports _ _ _ _ _ _ _)).trans
      (when_kept (·.ports) _ ((c.port r).refSeen && byte % 64 != c.nextCycle r m) (f := fun d => (d.bump (portAt r) Port.cycle_jumps).record 70 r 1 r [2]
        [c.nextCycle r m, byte % 64]) (Chip.record_ports _ _ _ _ _ _ _))
  rw [Chip.port, hports, nth_upd_same _ _ _ _ h, Chip.port]

theorem referred_words (c : Chip) {r : Nat} (m : Matrix) (id byte : Nat) (hr : r < 8) :
    (c.referred r m id byte).get (portAt r) Port.sched_cycle = byte % 64 % m.rows ∧ (c.referred r m id byte).flag (portAt r) Port.sched_err_now = false := by
  have hjump : ∀ (d : Chip) (b : Bool) {g : Field}, g.first < 65536 → Port.cycle_jumps.clear g = true → (d.when b (fun d =>
      (d.bump (portAt r) Port.cycle_jumps).record 70 r 1 r [2] [c.nextCycle r m, byte % 64])).get (portAt r) g = d.get (portAt r) g := fun d b g hg hc =>
    Chip.get_when _ _ _ ((port_record _ hr 0 (by omega) _ _ _ _ _ _).trans (Chip.get_bump_clear' _ _ hc))
  have hlt : byte % 64 % m.rows < 65536 := Nat.lt_of_le_of_lt (Nat.mod_le _ _) (Nat.lt_of_lt_of_le (Nat.mod_lt _ (by decide)) (by decide))
  have hend : ∀ (d : Chip) (b : Bool), (d.when b (fun d => (d.put (portAt r) Port.sched_err_now 0).record 70 r 0 r [0]
      [c.nextCycle r m, byte % 64])).get (portAt r) Port.sched_cycle = d.get (portAt r) Port.sched_cycle := fun d b =>
    Chip.get_when _ _ _ ((port_record _ hr 0 (by decide) _ _ _ _ _ _).trans (Chip.get_put_clear _ _ _ (by decide)))
  rw [Chip.referred]
  refine ⟨?_, ?_⟩
  · rw [hend, hjump _ _ (by decide) (by decide),
      Chip.setPort_get]
    exact Chip.get_put_of_lt _ _ (by decide) hlt
  · cases hf : c.flag (portAt r) Port.sched_err_now with
    | false =>
      have hnow : c.get (portAt r) Port.sched_err_now = (((c.put (portAt r) Port.sched_cycle (byte % 64 % m.rows)).setPort r
          (·.referred c.now (refSpan id byte) (m.master && id % 8 == m.prio))).when ((c.port r).refSeen && byte % 64 != c.nextCycle r m)
          (fun d => (d.bump (portAt r) Port.cycle_jumps).record 70 r 1 r [2] [c.nextCycle r m, byte % 64])).get (portAt r) Port.sched_err_now := by
        rw [hjump _ _ (by decide) (by decide), Chip.setPort_get, Chip.get_put_clear _ _ _ (by decide)]
      rw [when_false, Chip.flag, ← hnow]
      exact hf
    | true =>
      rw [when_true, Chip.flag]
      have hz : ∀ d : Chip, ((d.put (portAt r) Port.sched_err_now 0).record 70 r 0 r [0] [c.nextCycle r m, byte % 64]).get (portAt r) Port.sched_err_now = 0 :=
        fun d => (port_record _ hr 0 (by decide) _ _ _ _ _ _).trans (Chip.get_put_of_lt _ _ (by decide) (by decide))
      rw [hz]
      rfl

/-- A port whose frame has begun. -/
def PortSt.began (p : PortSt) (src : TxSrc) (f : CanFrame) : PortSt := { p with tx := some (src, f), flagUp := false, handed := (src, f) :: (p.done src).handed }

/-- A frame begins at port r. -/
theorem startTx_spec (c : Chip) {r : Nat} (src : TxSrc) (f : CanFrame) : (∃ pt em, c.startTx r src f = { c with ports := pt, emitted := em }) ∧
    (c.startTx r src f).emitted = c.emitted ++ (if (c.port r).handed.contains (src, f) = true then [] else [.can r f]) ∧
    (c.startTx r src f).ports = upd c.ports r (·.began src f) := by
  rw [Chip.startTx]
  split
  · exact ⟨⟨_, c.emitted, rfl⟩, (List.append_nil _).symm, rfl⟩
  · exact ⟨⟨_, _, rfl⟩, rfl, rfl⟩

/-- What a port notes of a reference message of its own. -/
def PortSt.tried (p : PortSt) (now : Nat) : PortSt := { p with tryAt := now, tryLen := 0 }

theorem sendReference_eq (c : Chip) (r : Nat) (m : Matrix) (h : c.busMine r = true) :
    c.sendReference r m = (c.setPort r (·.tried c.now)).startTx r .reference (refFrame m.refId (c.nextCycle r m)) := by
  refine if_neg ?_
  rw [h]
  decide

/-- The chip in which a window has begun: what has failed waits again. -/
def Chip.windowed (c : Chip) (r k : Nat) : Chip :=
  (c.rewait r).setPort r (fun p => { p with col := k, handed := p.handed.filter (fun e => p.sends e.1 || e.1 == .safety) })

theorem windowed_spec (c : Chip) {r : Nat} (k : Nat) (h : r < c.ports.length) :
    (∃ rg pt, c.windowed r k = { c with regs := rg, ports := pt }) ∧ ((c.windowed r k).port r).col = k ∧ (c.windowed r k).ports.length = c.ports.length := by
  have hm := Chip.ObjMoves.rewait c r
  obtain ⟨rg, pt, he⟩ := hm.frame
  refine ⟨⟨rg, _, by rw [Chip.windowed, he]; rfl⟩, ?_, (upd_length _ _ _).trans hm.size⟩
  rw [Chip.windowed, port_setPort_same _ _ (by rw [hm.size]; exact h)]

/-- A frame that begins in a window leaves its column. -/
theorem startTx_col (c : Chip) (r : Nat) (src : TxSrc) (f : CanFrame) : ((c.startTx r src f).port r).col = (c.port r).col := by
  obtain ⟨-, -, hp⟩ := startTx_spec c (r := r) src f
  rw [Chip.port, hp]
  exact port_setPort_kept c r r (f := (·.began src f)) (·.col) (fun _ => rfl)

theorem sendReference_col (c : Chip) (r : Nat) (m : Matrix) : ((c.sendReference r m).port r).col = (c.port r).col ∧
    ∃ pt em, c.sendReference r m = { c with ports := pt, emitted := em } := by
  cases hb : c.busMine r with
  | false =>
    have he : c.sendReference r m = c := if_pos (by rw [hb]; rfl)
    rw [he]
    exact ⟨rfl, c.ports, c.emitted, rfl⟩
  | true =>
    rw [sendReference_eq c r m hb]
    refine ⟨(startTx_col _ r _ _).trans (port_setPort_kept c r r (f := (·.tried c.now)) (·.col) (fun _ => rfl)), ?_⟩
    obtain ⟨⟨pt, em, he⟩, -, -⟩ := startTx_spec (c.setPort r (·.tried c.now)) (r := r) .reference (refFrame m.refId (c.nextCycle r m))
    exact ⟨pt, em, by rw [he]; rfl⟩

/-- The frame that begins with a window, where one does (R390). -/
def Chip.windowFrame (d c : Chip) (r : Nat) (m : Matrix) (cell : Nat × Nat) : Chip :=
  if cell.1 = 3 then (if (c.port r).isMaster && c.mayMaster m then d.sendReference r m else d)
  else if cell.1 = 1 && c.busMine r && !c.flag (portAt r) Port.sched_err_now && !c.sendsStopped then
    d.startTx r (.exclusive cell.2) (c.objFrame r cell.2 (c.objBytes r cell.2 (c.objContent r cell.2)))
  else d

theorem windowFrame_kept (d c : Chip) (r : Nat) (m : Matrix) (cell : Nat × Nat) : ((d.windowFrame c r m cell).port r).col = (d.port r).col ∧
    ∃ pt em, d.windowFrame c r m cell = { d with ports := pt, emitted := em } := by
  rw [Chip.windowFrame]
  split
  · split
    · exact sendReference_col d r m
    · exact ⟨rfl, d.ports, d.emitted, rfl⟩
  · split
    · exact ⟨startTx_col _ _ _ _, (startTx_spec d _ _).1⟩
    · exact ⟨rfl, d.ports, d.emitted, rfl⟩

theorem windowStart_to {s : State} {r : Fin 8} {m : Matrix} {col : Fin 64} (hm : s.chip.sched r = some m) (hd : s.chip.columnDue r m col = true) :
    exec (.windowStart r col) s = .next { s with chip := ((s.chip.windowed r (if col.val = 0 then m.cols else col.val)).windowFrame s.chip r m
      (m.cell (s.chip.get (portAt r) Port.sched_cycle) col)) } := by
  refine chipOnly_to s ?_
  rw [hm]
  exact if_neg (fun e => Bool.false_ne_true (((congrArg (!·) hd).symm.trans e)))

/-- The chip once the reference messages have stayed away. -/
def Chip.schedFailed (c : Chip) (r next : Nat) : Chip :=
  (((c.put (portAt r) Port.sched_err_now 1).pOn r 6).bump (portAt r) Port.ref_missed).record 70 r 1 r [1] [next, 0]

theorem scheduleError_to {s : State} {r : Fin 8} {m : Matrix} (hm : s.chip.sched r = some m) (h8 : s.chip.phase = 8)
    (hof : s.chip.get (portAt r) Port.off_reason = 0) (hf : s.chip.flag (portAt r) Port.sched_err_now = false)
    (hb : s.chip.bitsPassed r (s.chip.port r).refAt (2 * m.cycleBits) = true) :
    exec (.scheduleError r) s = .next { s with chip := s.chip.schedFailed r (s.chip.nextCycle r m) } := by
  refine chipOnly_to s ?_
  rw [hm]
  refine if_neg ?_
  rw [hf, h8, hof, hb]
  decide

theorem schedFailed_words (c : Chip) {r : Nat} (next : Nat) (hr : r < 8) : (c.schedFailed r next).flag (portAt r) Port.sched_err_now = true ∧
    (c.schedFailed r next).get (portAt r) Port.ref_missed = min (c.get (portAt r) Port.ref_missed + 1) Port.ref_missed.top := by
  have hrec : ∀ {g : Field}, g.first < 65536 → (c.schedFailed r next).get (portAt r) g =
      (((c.put (portAt r) Port.sched_err_now 1).pOn r 6).bump (portAt r) Port.ref_missed).get (portAt r) g := fun hg =>
    port_record _ hr 0 (by omega) _ _ _ _ _ _
  refine ⟨?_, ?_⟩
  · have h1 : (c.schedFailed r next).get (portAt r) Port.sched_err_now = 1 := by
      rw [hrec (by decide), Chip.get_bump_clear' _ _ (by decide)]
      exact (pOn_getI _ _ _ 0 (by decide)).trans (Chip.get_put_of_lt _ _ (by decide) (by decide))
    rw [Chip.flag, h1]
    rfl
  · have h2 : ((c.put (portAt r) Port.sched_err_now 1).pOn r 6).get (portAt r) Port.ref_missed = c.get (portAt r) Port.ref_missed :=
      (pOn_getI _ _ _ 0 (by decide)).trans (Chip.get_put_clear _ _ _ (by decide))
    rw [hrec (by decide), Chip.bump_get_self _ _ (by decide), h2]

/-- Settles O30: requests in time and the schedule of a port. -/
theorem portTimers : Obligations.PortTimers := by
  intro r s hs
  have hr := r.isLt
  have hlen : r.val < s.chip.ports.length := by
    rw [hs.sized.ports]
    exact hr
  refine ⟨fun j t0 hp ht hstop hd hobjs => ?_, fun j hin hobjs => ?_, fun station hstop hd => ?_, fun m hm => ⟨fun id byte hl hid => ?_,
    fun hma hb htry f hf => ?_, fun col hdue => ?_, fun h8 hof hf hb => ?_⟩⟩
  · obtain ⟨h1, h2, h3⟩ := periodicAsked_obj s.chip t0 hd hlen (by rw [hobjs]; exact j.isLt)
    obtain ⟨rg, pt, he⟩ := periodicAsked_frame s.chip r j t0 hd
    have hgo : exec (.periodicSendDue r j) s = .next { s with chip := s.chip.periodicAsked r j t0 } := by
      refine chipOnly_to s ?_
      rw [hp]
      refine if_neg ?_
      rw [decide_eq_false (Nat.not_lt.2 ht), hstop]
      decide
    exact ⟨_, hgo, h1, h2, h3, congrArg (fun c => { s with chip := c }) (by rw [he])⟩
  · have hgo : exec (.inhibitEnd r j) s = .next { s with chip := s.chip.setObj r j (fun o => { o with held := false }) } :=
      chipOnly_to s (if_neg (by rw [not_inhibited hin]; decide))
    have hobj := obj_setObj_same s.chip (fun o => { o with held := false }) hlen (j := j) (by rw [hobjs]; exact j.isLt)
    exact ⟨_, hgo, congrArg (·.held) hobj, congrArg (·.pend) hobj, fun k hk => obj_setObj_other s.chip _ hk, rfl⟩
  · have hgo : exec (.stationOutRefresh r station) s = .next { s with chip := s.chip.setPort r (fun p => { p with
        stas := p.stas.map (fun x => x.refreshed station.val s.chip.now) }) } :=
      chipOnly_to s ((if_neg (by rw [hstop]; decide)).trans (if_neg (by rw [hd]; decide)))
    have hstas : ((s.chip.setPort r (fun p => { p with stas := p.stas.map (fun x => x.refreshed station.val s.chip.now) })).port r).stas =
        (s.chip.port r).stas.map (fun x => x.refreshed station.val s.chip.now) := by
      rw [port_setPort_same _ _ hlen]
    refine ⟨_, hgo, by rw [hstas, List.length_map], fun k st img hk hst hre htime himg => ?_, fun k st hk hst => ?_, rfl⟩
    · rw [hstas, List.getElem?_map, hk]
      exact congrArg some (refreshed_due hst hre htime himg)
    · rw [hstas, List.getElem?_map, hk]
      exact congrArg some (refreshed_other _ hst)
  · obtain ⟨h1, h2⟩ := referred_words s.chip m id.toNat byte.toNat hr
    have hp := referred_port s.chip m id.toNat byte.toNat hlen
    exact ⟨_, referenceMessage_to hm hl hid, h1, congrArg (·.refSeen) hp, congrArg (·.refAt) hp, congrArg (·.col) hp, congrArg (·.isMaster) hp, h2, .chip s _⟩
  · have hgo : exec (.refTimeout r) s = .next { s with chip := (s.chip.setPort r (·.tried s.chip.now)).startTx r .reference f } := by
      refine chipOnly_to s ?_
      rw [hm]
      refine (if_pos (by rw [hma, htry]; rfl)).trans ((sendReference_eq _ _ _ hb).trans ?_)
      rw [hf]
      rfl
    obtain ⟨⟨pt, em, he⟩, hem, hports⟩ := startTx_spec (s.chip.setPort r (·.tried s.chip.now)) (r := r) .reference f
    have hown : (s.chip.setPort r (·.tried s.chip.now)).port r = (s.chip.port r).tried s.chip.now := port_setPort_same _ _ hlen
    have hport : ((s.chip.setPort r (·.tried s.chip.now)).startTx r .reference f).port r =
        ((s.chip.port r).tried s.chip.now).began .reference f := by
      rw [Chip.port, hports, nth_upd_same _ _ _ _ ((upd_length _ _ _).symm ▸ hlen)]
      rw [← hown]
      rfl
    refine ⟨_, hgo, congrArg (·.tx) hport, congrArg (·.tryAt) hport, ?_, congrArg (fun c => { s with chip := c }) (by rw [he]; rfl)⟩
    rw [hem, hown]
    rfl
  · obtain ⟨⟨rg, pt, hw⟩, hcol, -⟩ := windowed_spec s.chip (r := r) (if col.val = 0 then m.cols else col.val) hlen
    obtain ⟨hkept, pt', em, hf⟩ := windowFrame_kept (s.chip.windowed r (if col.val = 0 then m.cols else col.val)) s.chip r m
      (m.cell (s.chip.get (portAt r) Port.sched_cycle) col)
    exact ⟨_, windowStart_to hm hdue, hkept.trans hcol, congrArg (fun c => { s with chip := c }) (by rw [hf, hw])⟩
  · obtain ⟨h1, h2⟩ := schedFailed_words s.chip (s.chip.nextCycle r m) hr
    exact ⟨_, scheduleError_to hm h8 hof hf hb, h1, h2, Chip.record_ports _ _ _ _ _ _ _, .chip s _⟩

end Sys2Proof.Machine
end

section
/-! SUPPORT. O40: records and their store. -/

namespace Sys2Proof.Machine

/-! ### What a record adds to the buffer (R462 to R464) -/

/-- Records enter behind those that wait, and no other thing of the recorder's store moves. -/
structure Chip.Enters (c d : Chip) : Prop where
  writes : c.Writes recorderWord d
  buffer : ∃ l, d.recd.buffer = c.recd.buffer ++ l
  wrote : d.recd.wrote = c.recd.wrote

/-- The record that an event gives now. -/
def Chip.entryOf (c : Chip) (source region severity subject : Nat) (pl : List Nat) (late : Bool) : EvRec :=
  ⟨if c.recd.mounted then some c.recd.nextSeq else none, c.stamp, c.tick, source, region,
    b2n (c.flag calAt Cal.leap_now) + 2 * b2n (!c.flag supplyAt Supply.cal_valid) + 4 * b2n late, severity, subject % 2 ^ 32, pl⟩

namespace Chip

/-- What only the recorder's operations change, as words it writes. -/
theorem RecOnly.writes {c d : Chip} (h : c.RecOnly d) : c.Writes recorderWord d := ⟨h.1, h.2⟩

namespace Enters

variable {c d e : Chip}

theorem refl (c : Chip) : c.Enters c := ⟨.refl _ c, ⟨[], (List.append_nil _).symm⟩, rfl⟩

theorem trans (h : c.Enters d) (k : d.Enters e) : c.Enters e := by
  obtain ⟨hw, ⟨l, hl⟩, hn⟩ := h
  obtain ⟨hw', ⟨l', hl'⟩, hn'⟩ := k
  exact ⟨hw.trans hw', ⟨l ++ l', by rw [hl', hl, List.append_assoc]⟩, hn'.trans hn⟩

/-- Words of the recorder, written. -/
theorem of_writes (h : c.Writes recorderWord d) (hr : d.recd = c.recd) : c.Enters d :=
  ⟨h, ⟨[], by rw [hr, List.append_nil]⟩, by rw [hr]⟩

theorem putI (c : Chip) (b i v : Nat) (f : Field) (h : spaceOf (f.at b i) = 10) : c.Enters (c.putI b f i v) :=
  of_writes ((Writes.refl _ c).putI v h) rfl

theorem each {α : Type} {f : Chip → α → Chip} (l : List α) (k : ∀ e : Chip, ∀ x ∈ l, e.Enters (f e x)) (c : Chip) :
    c.Enters (c.each l f) := each_rel refl (fun _ _ _ => trans) l k c

/-- The front of the buffer stays. -/
theorem take (h : c.Enters d) : d.recd.buffer.take c.recd.buffer.length = c.recd.buffer := by
  obtain ⟨l, hl⟩ := h.buffer
  rw [hl, List.take_left]

end Enters

theorem recSync_recd (c : Chip) : c.recSync.recd = c.recd := rfl

/-- A record that is selected, with a path to the recorder and a place, joins the buffer. -/
theorem enter_taken {c : Chip} {source region severity : Nat} (hsel : c.selects source severity = true)
    (hopen : (c.sys.fenced.testBit 1 || (recordMaker source region != 1 &&
      c.getBit (regionAt (recordMaker source region)) Region.unreached 1)) = false)
    (hstate : c.get recdAt Recd.state ≠ 2) (hplace : c.hasPlace severity = true) (subject : Nat) (pl : List Nat) (late : Bool) :
    (c.enter source region severity subject pl late).recd.buffer = c.recd.buffer ++ [c.entryOf source region severity subject pl late] ∧
    (c.enter source region severity subject pl late).recd.nextSeq = c.recd.nextSeq + b2n c.recd.mounted ∧
    (c.enter source region severity subject pl late).recd.mounted = c.recd.mounted := by
  have hnot : ¬ (c.sys.fenced.testBit 1 || (recordMaker source region != 1 &&
      c.getBit (regionAt (recordMaker source region)) Region.unreached 1)) = true := by simp [hopen]
  unfold enter
  rw [if_neg (by simp [hsel]), if_neg hnot, if_neg hstate, if_neg (by simp [hplace])]
  cases hm : c.recd.mounted
  · simp [recSync_recd, entryOf, hm, b2n]
  · simp [recSync_recd, put64, entryOf, hm, b2n]

theorem enter_enters (c : Chip) (source region severity subject : Nat) (pl : List Nat) (late : Bool) :
    c.Enters (c.enter source region severity subject pl late) := by
  suffices h : (∃ l, (c.enter source region severity subject pl late).recd.buffer = c.recd.buffer ++ l) ∧
      (c.enter source region severity subject pl late).recd.wrote = c.recd.wrote from
    ⟨(enter_recOnly c _ _ _ _ _ _).writes, h.1, h.2⟩
  have hsame : ∀ {d : Chip}, d.recd.buffer = c.recd.buffer → d.recd.wrote = c.recd.wrote →
      (∃ l, d.recd.buffer = c.recd.buffer ++ l) ∧ d.recd.wrote = c.recd.wrote := fun hb hw => ⟨⟨[], by rw [hb, List.append_nil]⟩, hw⟩
  unfold enter
  split
  · exact hsame rfl rfl
  split
  · exact hsame rfl rfl
  split
  · exact hsame rfl rfl
  split
  · exact hsame rfl rfl
  · simp only [recSync_recd]
    split
    · exact ⟨⟨_, rfl⟩, rfl⟩
    · exact ⟨⟨_, rfl⟩, rfl⟩

theorem recSync_enters (c : Chip) : c.Enters c.recSync := .of_writes (recSync_recOnly c).writes rfl

theorem openBand_enters (c : Chip) (t : Nat) : c.Enters (c.openBand t) := by
  have hfull : c.Enters ((c.put recdAt Recd.band_refused 1).enter 89 0xFF 1 0xFF
      (payload [4] [t % 2 ^ 32, t / 2 ^ 32, c.get recdAt Recd.spare_left]) false) :=
    (Enters.putI c recdAt 0 1 Recd.band_refused (by decide)).trans (enter_enters _ _ _ _ _ _ _)
  unfold openBand
  simp only []
  split
  · next b hb =>
    have hb64 : b < 64 := by simpa using List.mem_of_find?_eq_some hb
    have hat : ∀ f : Field, f.first < 4096 → f.stride ≤ 64 → spaceOf (f.at bandAt b) = 10 := fun f h1 h2 => band_space f b hb64 h1 h2
    split
    · exact (((((Enters.putI c _ _ _ _ (hat _ (by decide) (by decide))).trans (.putI _ _ _ _ _ (hat _ (by decide) (by decide)))).trans
        (.putI _ _ _ _ _ (hat _ (by decide) (by decide)))).trans (.putI _ _ _ _ _ (hat _ (by decide) (by decide)))).trans
        (recSync_enters _)).trans (enter_enters _ _ _ _ _ _ _)
    · exact hfull
  · exact hfull

theorem recordAs_enters (c : Chip) (source region severity subject : Nat) (pl : List Nat) (late : Bool) :
    c.Enters (c.recordAs source region severity subject pl late) := by
  have he := enter_enters c source region severity subject pl late
  unfold recordAs
  simp only []
  split
  · exact he.trans (openBand_enters _ _)
  · exact he

end Chip

section Entry

variable {c : Chip} {source region severity : Nat}

/-- A record that opens no band is its entry. -/
theorem Chip.recordAs_enter {pl : List Nat} {subject : Nat} {late : Bool}
    (h : severity ≠ 3 ∨ (c.enter source region severity subject pl late).recd.nextSeq = c.recd.nextSeq) :
    c.recordAs source region severity subject pl late = c.enter source region severity subject pl late := by
  rw [Chip.recordAs]
  exact if_neg (by rcases h with h | h <;> simp [h])

theorem Chip.enter_unselected (hsel : c.selects source severity = false) (subject : Nat) (pl : List Nat) (late : Bool) :
    c.enter source region severity subject pl late = c := by
  rw [Chip.enter]
  exact if_pos (by simp [hsel])

/-- The chip after a refusal for want of a place (R464). -/
def Chip.entryRefused (c : Chip) (severity : Nat) : Chip :=
  { (c.bump recdAt Recd.refused) with recd := { c.recd with refusedBy := upd c.recd.refusedBy severity (· + 1) } }

theorem Chip.enter_full (hsel : c.selects source severity = true)
    (hopen : (c.sys.fenced.testBit 1 || (recordMaker source region != 1 &&
      c.getBit (regionAt (recordMaker source region)) Region.unreached 1)) = false)
    (hstate : c.get recdAt Recd.state ≠ 2) (hplace : c.hasPlace severity = false) (subject : Nat) (pl : List Nat) (late : Bool) :
    c.enter source region severity subject pl late = c.entryRefused severity := by
  rw [Chip.enter, if_neg (by simp [hsel]), if_neg (by rw [hopen]; decide), if_neg hstate, if_pos (by simp [hplace])]
  rfl

end Entry

section Settled

variable {s : State} {source : Fin 96} {region : BitVec 8} {severity : Fin 4}

theorem recordEntry_to {late : Bool} {subject : BitVec 32} {payload : List Byte} {d : Chip}
    (h : s.chip.recordAs source region.toNat severity subject.toNat (bytesAt (payload.map BitVec.toNat) 0 32) late = d) :
    exec (.recordEntry source region late severity subject payload) s = .next { s with chip := d } := chipOnly_to s h

/-- A source that is masked gives no record (R464). -/
theorem recordEntry_masked (h : s.chip.selects source severity = false) (late : Bool) (subject : BitVec 32) (payload : List Byte) :
    exec (.recordEntry source region late severity subject payload) s = .next s := by
  have hc := Chip.enter_unselected (region := region.toNat) h subject.toNat (bytesAt (payload.map BitVec.toNat) 0 32) late
  exact recordEntry_to ((Chip.recordAs_enter (.inr (by rw [hc]))).trans hc)

theorem pathOpen (hf : s.chip.sys.fenced.testBit 1 = false) (hreach : recordMaker source region.toNat ≠ 1 →
    s.chip.getBit (regionAt (recordMaker source region.toNat)) Region.unreached 1 = false) :
    (s.chip.sys.fenced.testBit 1 || (recordMaker source region.toNat != 1 &&
      s.chip.getBit (regionAt (recordMaker source region.toNat)) Region.unreached 1)) = false := by
  by_cases h : recordMaker source region.toNat = 1
  · simp [hf, h]
  · simp [hf, hreach h]

/-- A selected record with a place enters the buffer (R462, R463). -/
theorem recordEntry_enters (hsel : s.chip.selects source severity = true) (hf : s.chip.sys.fenced.testBit 1 = false)
    (hstate : s.chip.get recdAt Recd.state ≠ 2) (hreach : recordMaker source region.toNat ≠ 1 →
      s.chip.getBit (regionAt (recordMaker source region.toNat)) Region.unreached 1 = false)
    (hplace : s.chip.hasPlace severity = true) (late : Bool) (subject : BitVec 32) (payload : List Byte) {e : EvRec}
    (he : s.chip.entryOf source region.toNat severity subject.toNat (bytesAt (payload.map BitVec.toNat) 0 32) late = e) :
    ∃ t, exec (.recordEntry source region late severity subject payload) s = .next t ∧
      t.chip.recd.buffer.take (s.chip.recd.buffer.length + 1) = s.chip.recd.buffer ++ [e] ∧
      (severity ≠ 3 → t.chip.recd.buffer = s.chip.recd.buffer ++ [e] ∧
        t.chip.recd.nextSeq = s.chip.recd.nextSeq + b2n s.chip.recd.mounted) ∧
      t = { s with chip := { s.chip with regs := t.chip.regs, recd := t.chip.recd } } ∧ WordsKept recorderWord s t := by
  obtain ⟨hbuf, hnext, -⟩ := Chip.enter_taken hsel (pathOpen hf hreach) hstate hplace subject.toNat
    (bytesAt (payload.map BitVec.toNat) 0 32) late
  rw [he] at hbuf
  have hall := Chip.recordAs_enters s.chip source region.toNat severity subject.toNat (bytesAt (payload.map BitVec.toNat) 0 32) late
  have htake : (s.chip.enter source region.toNat severity subject.toNat (bytesAt (payload.map BitVec.toNat) 0 32) late).Enters
      (s.chip.recordAs source region.toNat severity subject.toNat (bytesAt (payload.map BitVec.toNat) 0 32) late) := by
    unfold Chip.recordAs
    simp only []
    split
    · exact Chip.openBand_enters _ _
    · exact .refl _
  have hfront := htake.take
  rw [hbuf, List.length_append] at hfront
  refine ⟨_, recordEntry_to rfl, hfront, fun h => ?_, hall.writes.state, hall.writes.words⟩
  have hne : severity.val ≠ 3 := fun hv => h (Fin.ext hv)
  rw [Chip.recordAs_enter (.inl hne)]
  exact ⟨hbuf, hnext⟩

/-- A selected record without a place is counted as refused (R464). -/
theorem recordEntry_refused (hsel : s.chip.selects source severity = true) (hf : s.chip.sys.fenced.testBit 1 = false)
    (hstate : s.chip.get recdAt Recd.state ≠ 2) (hreach : recordMaker source region.toNat ≠ 1 →
      s.chip.getBit (regionAt (recordMaker source region.toNat)) Region.unreached 1 = false)
    (hplace : s.chip.hasPlace severity = false) (late : Bool) (subject : BitVec 32) (payload : List Byte) :
    ∃ t, exec (.recordEntry source region late severity subject payload) s = .next t ∧
      t.chip.recd.buffer = s.chip.recd.buffer ∧
      t.chip.get recdAt Recd.refused = min (s.chip.get recdAt Recd.refused + 1) Recd.refused.top ∧
      t = { s with chip := { s.chip with regs := t.chip.regs, recd := t.chip.recd } } ∧
      WordsKept (fun a => a = Recd.refused.at recdAt 0) s t := by
  have hfull := Chip.enter_full hsel (pathOpen hf hreach) hstate hplace subject.toNat (bytesAt (payload.map BitVec.toNat) 0 32) late
  have hsame := (Chip.recordAs_enter (.inr (by rw [hfull]; rfl))).trans hfull
  refine ⟨_, recordEntry_to hsame, rfl, ?_, rfl, fun a ha => Chip.word_put_other s.chip _ ha⟩
  exact Chip.bump_get_self s.chip recdAt (by decide)

/-! ### Writing (R465) -/

/-- The chip once the front record of the buffer has been written, before the counts follow. -/
def Chip.frontWritten (c : Chip) (rest : List EvRec) : Chip :=
  c.setRec (fun r => { r with wrote := r.wrote + 1, buffer := rest })

/-- The state once the front record of the buffer has been written to its stripe. -/
def State.frontWritten (s : State) (e : EvRec) (rest : List EvRec) (n : Nat) : State :=
  { s with flash := { s.flash with store := s.flash.store ++ [e], next := n + 1 }, chip := s.chip.frontWritten rest }

theorem writeRecords_front {e : EvRec} {rest : List EvRec} {n : Nat} (hbuf : s.chip.recd.buffer = e :: rest) (hseq : e.seq = some n)
    (hwait : s.chip.recd.pairWait.contains n = false) (hmap : (s.flash.map.map (·.1)).contains (stripeOf n) = true) :
    s.writeRecords .run 1 = s.frontWritten e rest n := by
  have hone : s.writeOne e .run = some { s with
      flash := { s.flash with store := s.flash.store ++ [e], next := n + 1 }
      chip := s.chip.setRec (fun r => { r with wrote := r.wrote + 1 }) } := by
    have henter : s.enterStripe (stripeOf n) .run = some s := if_pos hmap
    simp only [State.writeOne, hseq, Option.getD_some, henter, Option.map_some]
  have hgo : ¬ (decide (WriteHow.run = .run) && (e.seq.map (fun n => s.chip.recd.pairWait.contains n)).getD true) = true := by
    simp only [hseq, Option.map_some, Option.getD_some, hwait]
    decide
  rw [State.writeRecords, hbuf]
  refine (if_neg hgo).trans ?_
  rw [hone]
  rfl

theorem useSpares_none (t : State) : t.useSpares 0 = t.onChip (·.put recdAt Recd.spare_left (Config.spareBlocks.toNat - t.flash.spareUsed)) := by
  have hkept : ¬ (decide (64 ≤ Config.spareBlocks.toNat - t.flash.spareUsed) &&
      decide (Config.spareBlocks.toNat - (t.flash.spareUsed + 0) < 64)) = true := by
    rw [Nat.add_zero]
    simp only [Bool.and_eq_true, decide_eq_true_eq]
    omega
  unfold State.useSpares State.onChip
  simp only [Nat.add_zero] at hkept ⊢
  rw [if_neg hkept]

namespace Chip

theorem completeBands_enters (c : Chip) (next : Nat) : c.Enters (c.completeBands next) := by
  refine Enters.each _ (fun d b hb => ?_) c
  have hb64 : b < 64 := by simpa using (List.mem_filter.1 hb).1
  exact (Enters.putI d _ _ _ _ (band_space _ b hb64 (by decide) (by decide))).trans (enter_enters _ _ _ _ _ _ _)

theorem overflowEnd_enters (c : Chip) : c.Enters c.overflowEnd := by
  unfold overflowEnd
  split
  · have hover : c.Enters ((c.put recdAt Recd.overflow 1).setRec (fun r => { r with refusedBy := [0, 0, 0, 0] })) :=
      ⟨((Writes.refl _ c).putI (f := Recd.overflow) 1 (by show spaceOf _ = 10; decide)).setRec _, ⟨[], (List.append_nil _).symm⟩, rfl⟩
    exact hover.trans (recordAs_enters _ _ _ _ _ _ _)
  · exact .refl c

/-- The chip once the recorder's counts have followed a write up to number `next`. -/
def recWritten (c : Chip) (left next : Nat) : Chip := (((c.put recdAt Recd.spare_left left).completeBands next).overflowEnd).recSync

theorem recWritten_enters (c : Chip) (left next : Nat) : c.Enters (c.recWritten left next) :=
  (((Enters.putI c recdAt 0 left Recd.spare_left (by decide)).trans (completeBands_enters _ _)).trans (overflowEnd_enters _)).trans (recSync_enters _)

end Chip

/-- A buffered record is written to its stripe (R465). -/
theorem recordWrite_front (hstate : s.chip.get recdAt Recd.state = 1) {e : EvRec} {rest : List EvRec} {n : Nat}
    (hbuf : s.chip.recd.buffer = e :: rest) (hseq : e.seq = some n) (hwait : s.chip.recd.pairWait.contains n = false)
    (hmap : (s.flash.map.map (·.1)).contains (stripeOf n) = true) : ∃ t,
    exec (.recordWrite 1 0) s = .next t ∧ t.flash = { s.flash with store := s.flash.store ++ [e], next := n + 1 } ∧
    t.chip.recd.buffer.take rest.length = rest ∧ t.chip.recd.wrote = s.chip.recd.wrote + 1 ∧ t.pending = s.pending ∧
    t = { s with flash := t.flash, chip := { s.chip with regs := t.chip.regs, recd := t.chip.recd } } ∧
    WordsKept recorderWord s t := by
  have hwritten := (s.chip.frontWritten rest).recWritten_enters (Config.spareBlocks.toNat - s.flash.spareUsed) (n + 1)
  have hstep : exec (.recordWrite 1 0) s = .next { s.frontWritten e rest n with
      chip := (s.chip.frontWritten rest).recWritten (Config.spareBlocks.toNat - s.flash.spareUsed) (n + 1) } := by
    show (if s.chip.get recdAt Recd.state != 1 then (.next s : Out) else .next (((s.writeRecords .run 1).useSpares 0).onChip
      (fun c => (c.completeBands ((s.writeRecords .run 1).useSpares 0).flash.next).overflowEnd.recSync))) = _
    rw [if_neg (by simp [hstate]), writeRecords_front hbuf hseq hwait hmap, useSpares_none]
    rfl
  have hw : s.chip.Writes recorderWord ((s.chip.frontWritten rest).recWritten (Config.spareBlocks.toNat - s.flash.spareUsed) (n + 1)) :=
    ((Chip.Writes.refl _ s.chip).setRec _).trans hwritten.writes
  obtain ⟨rg, rc, hd⟩ := hw.frame
  exact ⟨_, hstep, rfl, hwritten.take, hwritten.wrote, rfl, by rw [hd]; rfl, hw.words⟩

theorem recordWrite_unready (h : s.chip.get recdAt Recd.state ≠ 1) (count : Fin 65537) (failed : Fin 256) :
    exec (.recordWrite count failed) s = .next s := if_pos (by simp [h])

/-! ### The erased stripes (R465) -/

theorem oldest_le (f : Flash) : ∀ m ∈ f.map, f.oldest ≤ 16384 * m.1 := by
  have hmin : ∀ (ls : List Nat) (l : Nat), ls.foldl min l ≤ l ∧ ∀ x ∈ ls, ls.foldl min l ≤ x := by
    intro ls
    induction ls with
    | nil => exact fun l => ⟨Nat.le_refl l, nofun⟩
    | cons y ls ih =>
      intro l
      obtain ⟨h0, h1⟩ := ih (min l y)
      refine ⟨h0.trans (Nat.min_le_left _ _), fun x hx => ?_⟩
      rcases List.mem_cons.1 hx with rfl | hx
      · exact h0.trans (Nat.min_le_right _ _)
      · exact h1 x hx
  intro m hm
  have hmem : m.1 ∈ f.map.map (·.1) := List.mem_map_of_mem hm
  unfold Flash.oldest
  split
  · next hnil => rw [hnil] at hmem; cases hmem
  · next l ls hcons =>
    rw [hcons] at hmem
    refine Nat.mul_le_mul_left _ ?_
    rcases List.mem_cons.1 hmem with h | h
    · exact h ▸ (hmin ls l).1
    · exact (hmin ls l).2 _ h

theorem oldest_none {f : Flash} (h : f.map = []) : f.oldest = f.tail := by
  rw [Flash.oldest, h]
  rfl

/-- The store once the running erase of stripe `p` is done. -/
def Flash.eraseEnded (f : Flash) (p : Nat) : Flash :=
  { f with erasing := none, erased := f.erased ++ [p], erases := f.erases + 1, tail := f.oldest }

theorem endErase_flash {p : Nat} (h : s.flash.erasing = some p) : s.endErase.flash = s.flash.eraseEnded p := by
  rw [State.endErase, h]
  rfl

theorem endErase_pending {p : Nat} (h : s.flash.erasing = some p) : s.endErase.pending = s.pending := by
  rw [State.endErase, h]
  rfl

theorem endErase_writes {p : Nat} (h : s.flash.erasing = some p) : s.chip.Writes recorderWord s.endErase.chip := by
  rw [State.endErase, h]
  exact ((Chip.Writes.refl _ s.chip).put64 (f := Recd.tail) _ (by show spaceOf _ = 10; decide) (by show spaceOf _ = 10; decide)).put
    (f := Recd.wear) _ (by show spaceOf _ = 10; decide)

theorem useSpares_writes (t : State) (n : Nat) : t.chip.Writes recorderWord (t.useSpares n).chip := by
  have hput : ∀ (d : Chip) (f : Field) (v : Nat), spaceOf (f.at recdAt 0) = 10 → d.Writes recorderWord (d.put recdAt f v) :=
    fun d f v h => (Chip.Writes.refl _ d).put v h
  unfold State.useSpares State.onChip
  simp only []
  split
  · exact ((hput _ _ _ (by decide)).trans (hput _ _ _ (by decide))).trans (Chip.enter_recOnly _ _ _ _ _ _ _).writes
  · exact hput _ _ _ (by decide)

/-- A stripe that has been erased joins the erased ones (R465). -/
theorem stripeEraseDone_joins {p : Nat} (h : s.flash.erasing = some p) (failed : Fin 256) :
    ∃ t, exec (.stripeEraseDone failed) s = .next t ∧ t.flash.erasing = none ∧
      t.flash.erased = s.flash.erased ++ [p] ∧ t.flash.erases = s.flash.erases + 1 ∧ t.flash.map = s.flash.map ∧
      t.flash.store = s.flash.store ∧ t.flash.nor = s.flash.nor ∧ t.flash.spareUsed = s.flash.spareUsed + failed.val ∧
      (∀ m ∈ s.flash.map, t.flash.tail ≤ 16384 * m.1) ∧ (s.flash.map = [] → t.flash.tail = s.flash.tail) ∧
      t.pending = s.pending ∧ WordsKept recorderWord s t := by
  have hflash : (s.endErase.useSpares failed.val).flash =
      { s.flash.eraseEnded p with spareUsed := s.flash.spareUsed + failed.val } := by
    show ({ s.endErase.flash with spareUsed := s.endErase.flash.spareUsed + failed.val } : Flash) = _
    rw [endErase_flash h]
    rfl
  have hstep : exec (.stripeEraseDone failed) s = .next (s.endErase.useSpares failed.val) :=
    if_neg (by rw [h]; nofun)
  refine ⟨_, hstep, ?_, ?_, ?_, ?_, ?_, ?_, ?_, ?_, ?_, endErase_pending h, ((endErase_writes h).trans (useSpares_writes _ _)).words⟩
  · rw [hflash]; rfl
  · rw [hflash]; rfl
  · rw [hflash]; rfl
  · rw [hflash]; rfl
  · rw [hflash]; rfl
  · rw [hflash]; rfl
  · rw [hflash]
  · rw [hflash]
    exact oldest_le s.flash
  · rw [hflash]
    exact oldest_none

theorem stripeEraseDone_none (h : s.flash.erasing = none) (failed : Fin 256) : exec (.stripeEraseDone failed) s = .next s :=
  if_pos (by rw [h]; rfl)

end Settled

/-! ### The partner's numbers (R473) -/

/-- The record store once the payload of the own record carries the partner's number. -/
def RecSt.paired (r : RecSt) (own his : Nat) : RecSt :=
  { r with
    pairWait := r.pairWait.filter (· != own)
    buffer := r.buffer.map (fun e => if e.seq = some own then e.withPair his else e) }

theorem paired_waits (r : RecSt) (own his : Nat) : (r.paired own his).pairWait.contains own = false := by
  simp [RecSt.paired]

theorem paired_own {r : RecSt} {own k : Nat} {e : EvRec} (his : Nat) (hk : r.buffer[k]? = some e) (hseq : e.seq = some own) :
    (r.paired own his).buffer[k]? = some (e.withPair his) := by
  simp [RecSt.paired, hk, hseq]

theorem paired_other {r : RecSt} {own k : Nat} {e : EvRec} (his : Nat) (hk : r.buffer[k]? = some e) (hseq : e.seq ≠ some own) :
    (r.paired own his).buffer[k]? = some e := by
  simp [RecSt.paired, hk, hseq]

section Pair

variable {s : State} {source : Fin 96} {own partner : BitVec 64} {timedOut : Bool}

/-- A number that no record waits for changes nothing. -/
theorem pairSeqReport_unasked (h : s.chip.recd.pairWait.contains own.toNat = false) :
    exec (.pairSeqReport source own partner timedOut) s = .next s := by
  refine chipOnly_to s (d := s.chip) ?_
  split
  · rfl
  · exact if_pos (by rw [h]; rfl)

variable {e : EvRec} {late : Bool} (hfind : s.chip.recd.buffer.find? (fun e => e.seq == some own.toNat && e.source == source.val) = some e)
  (hlate : late = decide (10000 ≤ (s.chip.tick + 2 ^ 32 - e.tick) % 2 ^ 32))
include hfind hlate

/-- A report of silence before its time changes nothing. -/
theorem pairSeqReport_early (hto : timedOut = true) (hl : late = false) :
    exec (.pairSeqReport source own partner timedOut) s = .next s := by
  refine chipOnly_to s (d := s.chip) ?_
  rw [hfind]
  simp only []
  rw [← hlate]
  exact if_pos (by simp [hto, hl])

theorem pairSeqReport_to (hwait : s.chip.recd.pairWait.contains own.toNat = true) (h : timedOut = false ∨ late = true) :
    exec (.pairSeqReport source own partner timedOut) s =
      .next { s with chip := s.chip.setRec (·.paired own.toNat (if late then 2 ^ 32 - 1 else partner.toNat % 2 ^ 32)) } := by
  refine chipOnly_to s ?_
  rw [hfind]
  simp only []
  rw [← hlate]
  have hgo : ¬ (!s.chip.recd.pairWait.contains own.toNat || (timedOut && !late)) = true := by
    rw [hwait]
    rcases h with rfl | rfl <;> simp
  exact if_neg hgo

end Pair

/-- Settles O40: records and their store. -/
theorem recordsAndStore : Obligations.RecordsAndStore := by
  intro s hs
  refine ⟨fun source region late severity subject payload => ⟨fun h => recordEntry_masked h late subject payload,
    fun hsel hf hstate hreach => ⟨fun hplace => ?_, fun hplace => recordEntry_refused hsel hf hstate hreach hplace late subject payload⟩⟩,
    fun hstate e rest n hbuf hseq hwait hmap => recordWrite_front hstate hbuf hseq hwait hmap,
    fun h count failed => recordWrite_unready h count failed,
    fun failed => ⟨fun h => stripeEraseDone_none h failed, fun p h => stripeEraseDone_joins h failed⟩,
    fun source own partner timedOut => ⟨pairSeqReport_unasked, fun e hwait hfind late hlate =>
      ⟨pairSeqReport_early hfind hlate, fun h => ?_⟩⟩⟩
  · refine recordEntry_enters hsel hf hstate hreach hplace late subject payload ?_
    rw [Chip.entryOf, Nat.mod_eq_of_lt subject.isLt]
    rfl
  · refine ⟨_, pairSeqReport_to hfind hlate hwait h, paired_waits _ _ _, List.length_map _, fun k e hk hseq => ?_,
      fun k e hk hseq => paired_other _ hk hseq, rfl⟩
    have hpaired := paired_own (if late then 2 ^ 32 - 1 else partner.toNat % 2 ^ 32) hk hseq
    exact (congrArg (Option.map _) hpaired).trans (by simp only [Option.map_some, EvRec.withPair, hseq, Option.getD_some])

end Sys2Proof.Machine
end

section
/-! SUPPORT. What driving outputs and the cuts of a slice change (R355). -/

namespace Sys2Proof.Machine

/-! ### The state of a slice -/

namespace Chip

theorem isle_setIsle_same (c : Chip) {r : Nat} (f : IsleSt → IsleSt) (hc : c.safe.slices.length = 8) (hr : r < 8) :
    (c.setIsle r f).isle r = f (c.isle r) := nth_upd_same _ _ _ _ (by omega)

theorem isle_setIsle_other (c : Chip) {r q : Nat} (f : IsleSt → IsleSt) (hq : q ≠ r) : (c.setIsle r f).isle q = c.isle q :=
  nth_upd_other _ _ _ hq

theorem setIsle_size (c : Chip) (r : Nat) (f : IsleSt → IsleSt) : (c.setIsle r f).safe.slices.length = c.safe.slices.length :=
  upd_length _ _ _

/-- What a change of a slice leaves of every slice. -/
theorem isle_setIsle_kept (c : Chip) (r q : Nat) {f : IsleSt → IsleSt} {α : Type} (p : IsleSt → α) (h : ∀ x, p (f x) = p x) :
    p ((c.setIsle r f).isle q) = p (c.isle q) := by
  show p (nth {} (upd c.safe.slices r f) q) = p (nth {} c.safe.slices q)
  rw [nth_upd]
  split
  · next hq => exact hq.1 ▸ h _
  · rfl

theorem isle_congr {c d : Chip} (h : d.safe = c.safe) (q : Nat) : d.isle q = c.isle q := by rw [isle, h, isle]

end Chip

/-! ### What driving outputs changes -/

/-- The words of channels, axes and the recorder. -/
def outWord (a : Nat) : Prop := spaceOf a = 10 ∨ (spaceOf a < 8 ∧ 0x10 ≤ blockOf a ∧ blockOf a < 0x22)

/-- The words that a slice keeps of its functions (Table 12.13). -/
def fnWord (r a : Nat) : Prop := isleAt r + 4 ≤ a ∧ a < isleAt r + 0x15

/-- The words of outputs and of the functions of slice `r`. -/
def isleOut (r a : Nat) : Prop := outWord a ∨ fnWord r a

theorem not_outWord_block {r b o : Nat} (hr : r < 8) (hb : 0x22 ≤ b) (hb' : b < 4096) (ho : o < 65536) : ¬ outWord (blockAddr r b + o) := by
  rw [outWord, spaceOf_blockAddr hb' ho, blockOf_blockAddr hb' ho]
  omega

/-- The words of a slice block beside those of its functions. -/
theorem not_isleOut_head {r q : Nat} (hq : q < 8) {f : Field} (hf : f.first < 4 ∨ 0x15 ≤ f.first) (hlt : f.first < 65536) :
    ¬ isleOut r (f.at (isleAt q) 0) := by
  rw [Field.at_eq, Nat.zero_mul, Nat.add_zero]
  rintro (h | ⟨h1, h2⟩)
  · exact not_outWord_block hq (by decide) (by decide) hlt h
  · simp only [isleAt, blockAddr] at h1 h2
    omega

/-- `d` is `c` once outputs have been driven. -/
structure Chip.SetsOut (c d : Chip) : Prop where
  frame : ∃ rg cs ax rc, d = { c with regs := rg, chans := cs, axes := ax, recd := rc }
  words : c.WordsBut outWord d

namespace Chip.SetsOut

variable {c d e : Chip}

theorem refl (c : Chip) : c.SetsOut c := ⟨⟨c.regs, c.chans, c.axes, c.recd, rfl⟩, .refl _ c⟩

theorem trans (h : c.SetsOut d) (k : d.SetsOut e) : c.SetsOut e := by
  obtain ⟨⟨rg, cs, ax, rc, hd⟩, hw⟩ := h
  obtain ⟨⟨rg', cs', ax', rc', he⟩, hw'⟩ := k
  exact ⟨⟨rg', cs', ax', rc', by rw [he, hd]⟩, hw.trans hw'⟩

theorem of_chan {g : Nat} {ws : List Nat} (h : c.ChanMoves g ws d) (hg : g < 128) (hws : ∀ w ∈ ws, w < 65536) : c.SetsOut d := by
  obtain ⟨rg, cs, rc, hd⟩ := h.frame
  refine ⟨⟨rg, cs, c.axes, rc, hd⟩, fun a ha => h.word_of_not_chan hg hws (fun hs => ha (.inl hs)) (fun hs => ha (.inr ?_))⟩
  obtain ⟨hs, hb⟩ := hs
  omega

theorem of_axis {x : Nat} (h : c.AxMoves x d) (hx : x < 16) : c.SetsOut d := by
  obtain ⟨rg, ax, rc, hd⟩ := h.frame
  refine ⟨⟨rg, c.chans, ax, rc, hd⟩, fun a ha => h.words a (fun hs => ha (.inl hs)) (fun hs => ha (.inr ?_))⟩
  obtain ⟨hs, hb⟩ := hs
  omega

theorem each {α : Type} {f : Chip → α → Chip} (l : List α) (k : ∀ e : Chip, ∀ x ∈ l, e.SetsOut (f e x)) (c : Chip) :
    c.SetsOut (c.each l f) := each_rel refl (fun _ _ _ => trans) l k c

theorem ite {b : Prop} [Decidable b] (h : b → c.SetsOut d) (k : ¬ b → c.SetsOut e) : c.SetsOut (if b then d else e) := by
  split
  · next hb => exact h hb
  · next hb => exact k hb

theorem safe (h : c.SetsOut d) : d.safe = c.safe := by
  obtain ⟨rg, cs, ax, rc, hd⟩ := h.frame
  rw [hd]

theorem sys (h : c.SetsOut d) : d.sys = c.sys := by
  obtain ⟨rg, cs, ax, rc, hd⟩ := h.frame
  rw [hd]

theorem getI (h : c.SetsOut d) {b i : Nat} {f : Field} (hn : ¬ outWord (f.at b i)) : d.getI b f i = c.getI b f i :=
  getI_congr (h.words _ hn)

end Chip.SetsOut

namespace Chip

theorem driveWith_sets (c : Chip) {g : Nat} (cmd : Nat) (hg : g < 128) : c.SetsOut (c.driveWith g cmd) :=
  .of_chan (driveWith_moves c g cmd) hg (by decide)

theorem resolve_sets (c : Chip) {g : Nat} (hg : g < 128) : c.SetsOut (c.resolve g) := .of_chan (resolve_moves c g) hg (by decide)

theorem putStatus_sets (c : Chip) {g : Nat} (hg : g < 128) : c.SetsOut (c.putStatus g) := .of_chan (putStatus_moves c g) hg (by decide)

theorem stageCause_sets (c : Chip) {x : Nat} (n : Nat) (on : Bool) (hx : x < 16) : c.SetsOut (c.stageCause x n on) :=
  .of_axis ((AxMoves.refl x c).stageCause n on) hx

end Chip

/-! ### Functions of a pair and their outputs -/

theorem FnCfg.j_lt (f : FnCfg) : f.j < 8 := Nat.mod_lt _ (by decide)

namespace Chip

variable {c d : Chip} {r : Nat} {f : FnCfg}

theorem fnsOf_pair (h : f ∈ c.fnsOf r) : f.sf / 8 = r / 2 := by
  have := (List.mem_filter.1 h).2
  simp only [Bool.and_eq_true, beq_iff_eq] at this
  exact this.1

/-- The functions of a slice hang on the configuration and on the position in the pair. -/
theorem fnsOf_congr (hs : d.safe.fns = c.safe.fns) (hp : d.get pairAt Pair.position = c.get pairAt Pair.position) (q : Nat) :
    d.fnsOf q = c.fnsOf q := by
  have howns : ∀ o, d.ownsSafe o = c.ownsSafe o := fun o => by rw [ownsSafe, hp, ownsSafe]
  simp only [fnsOf, hs, howns]

/-- A safe output of a pair is one of its channels. -/
theorem outIn_lt (hr : r < 8) (hf : f.sf / 8 = r / 2) (hcc : f.outCc < 16 ∨ f.outCc = 0xFF) {q g : Nat} (hg : f.outIn q = some g) : g < 128 := by
  have hbase : f.base ≤ 6 := by
    rw [FnCfg.base, hf]
    omega
  unfold FnCfg.outIn at hg
  split at hg
  · cases hg
  · next hne =>
    have hlt : f.outCc < 16 := hcc.resolve_right hne
    split at hg
    · obtain rfl := Option.some.inj hg
      rw [FnCfg.hs]
      omega
    · obtain rfl := Option.some.inj hg
      rw [FnCfg.ls]
      omega

theorem setSafeOut_sets (c : Chip) (hr : r < 8) (hf : f.sf / 8 = r / 2) (hcc : f.outCc < 16 ∨ f.outCc = 0xFF) (q : Nat) :
    c.SetsOut (c.setSafeOut q f) := by
  unfold setSafeOut
  split
  · exact .refl c
  · next g hg =>
    have hlt := outIn_lt hr hf hcc hg
    have hset : ∀ v, c.SetsOut ((c.driveWith g v).putStatus g) := fun v => (driveWith_sets c v hlt).trans (putStatus_sets _ hlt)
    exact .ite (fun _ => .refl c) (fun _ => hset _)

/-- Setting the switches of a slice's outputs drives them. -/
theorem eachOut_sets (hr : r < 8) {l : List FnCfg} (hl : ∀ f ∈ l, f.sf / 8 = r / 2 ∧ (f.outCc < 16 ∨ f.outCc = 0xFF)) (q : Nat) (c : Chip) :
    c.SetsOut (c.each l (fun c f => c.setSafeOut q f)) :=
  .each l (fun e f hf => setSafeOut_sets e hr (hl f hf).1 (hl f hf).2 q) c

end Chip

/-! ### The cut masks (R355) -/

/-- Bits of a mask from one place on, where they differ, taken over. -/
def cutBits (old new base n : Nat) : Nat :=
  ((List.range n).filter (fun k => new.testBit k != old.testBit (base + k))).foldl (fun v k => withBit v (base + k) (new.testBit k)) old

theorem testBit_foldl_withBit (new base : Nat) (l : List Nat) : ∀ (old k : Nat),
    (l.foldl (fun v k => withBit v (base + k) (new.testBit k)) old).testBit (base + k) =
      if k ∈ l then new.testBit k else old.testBit (base + k) := by
  induction l with
  | nil => exact fun old k => rfl
  | cons x l ih =>
    intro old k
    rw [List.foldl_cons, ih, testBit_withBit]
    by_cases hk : k ∈ l
    · rw [if_pos hk, if_pos (List.mem_cons_of_mem x hk)]
    · by_cases hx : k = x
      · rw [if_neg hk, if_pos (by rw [hx]), if_pos (hx ▸ List.mem_cons_self), hx]
      · rw [if_neg hk, if_neg (by omega), if_neg (by simp [hk, hx])]

/-- Within their range the bits are the new ones. -/
theorem testBit_cutBits (old new base : Nat) {n k : Nat} (hk : k < n) : (cutBits old new base n).testBit (base + k) = new.testBit k := by
  rw [cutBits, testBit_foldl_withBit]
  split
  · rfl
  · next h =>
    by_contra hne
    exact h (List.mem_filter.2 ⟨List.mem_range.2 hk, by simpa using fun e => hne e.symm⟩)

/-- The system state once slice `r` has taken its cut masks over. -/
def Chip.cutSys (c : Chip) (r : Nat) : SysSt :=
  { c.sys with
    cutCh := cutBits c.sys.cutCh (c.cutMask r % 2 ^ 16) (16 * r) 16
    cutAx := cutBits c.sys.cutAx (c.cutMask r / 2 ^ 16 % 4) (2 * r) 2 }

/-- The chip once the block of slice `r` shows which functions cut. -/
def Chip.cutShown (c : Chip) (r : Nat) : Chip :=
  ({ c with sys := c.cutSys r }).each (c.fnsOf r) (fun c f => c.putI (isleAt r) Isle.cut_active f.j (b2n (cutState (c.sfState r f.j))))

namespace Chip

theorem fnWord_at {r i : Nat} {f : Field} (h1 : 4 ≤ f.first + i * f.stride) (h2 : f.first + i * f.stride < 0x15) : fnWord r (f.at (isleAt r) i) := by
  rw [Field.at_eq]
  exact ⟨by omega, by omega⟩

/-- Writes of the words of functions, one after the other. -/
theorem each_regs {α : Type} {P : Nat → Prop} {f : Chip → α → Chip} {l : List α} (h : ∀ c : Chip, ∀ x ∈ l, c.Writes P (f c x)) (c : Chip) :
    c.Writes P (c.each l f) := (Writes.refl P c).each l h

theorem cutShown_writes (c : Chip) (r : Nat) : ({ c with sys := c.cutSys r } : Chip).Writes (fnWord r) (c.cutShown r) :=
  each_regs (fun e f _ => (Writes.refl _ e).putI _ (fnWord_at (by have := f.j_lt; simp only [Isle.cut_active, Field.many]; omega)
    (by have := f.j_lt; simp only [Isle.cut_active, Field.many]; omega))) _

/-- Applying the cut masks shows them, and drives outputs. -/
theorem applyCuts_sets (c : Chip) {r : Nat} (hr : r < 8) : (c.cutShown r).SetsOut (c.applyCuts r) := by
  have hch : ∀ (l : List Nat) (e : Chip), (∀ k ∈ l, k < 16) →
      e.SetsOut (e.each l (fun c k => (c.resolve (16 * r + k)).putStatus (16 * r + k))) := fun l e hl =>
    .each l (fun e k hk => (resolve_sets e (by have := hl k hk; omega)).trans (putStatus_sets _ (by have := hl k hk; omega))) e
  have hax : ∀ (l : List Nat) (e : Chip) (on : Nat → Bool), (∀ k ∈ l, k < 2) →
      e.SetsOut (e.each l (fun c k => c.stageCause (2 * r + k) 0 (on k))) := fun l e on hl =>
    .each l (fun e k hk => stageCause_sets e _ _ (by have := hl k hk; omega)) e
  exact (hch _ _ (fun k hk => List.mem_range.1 (List.mem_filter.1 hk).1)).trans
    (hax _ _ _ (fun k hk => List.mem_range.1 (List.mem_filter.1 hk).1))

end Chip

/-! ### What changes of functions change -/

/-- `d` is `c` but for words in a set, channels, axes, cut masks, and what the slices know and share of their functions. -/
structure Chip.FnMoves (P : Nat → Prop) (c d : Chip) : Prop where
  frame : ∃ rg cs ax rc cc ca sl sf, d = { c with
    regs := rg, chans := cs, axes := ax, recd := rc, sys := { c.sys with cutCh := cc, cutAx := ca }
    safe := { c.safe with slices := sl, sfs := sf } }
  size : d.safe.slices.length = c.safe.slices.length
  isles : ∀ q, d.isle q = { c.isle q with fns := (d.isle q).fns }
  words : c.WordsBut P d

namespace Chip.FnMoves

variable {P Q : Nat → Prop} {c d e : Chip}

theorem refl (P : Nat → Prop) (c : Chip) : c.FnMoves P c :=
  ⟨⟨c.regs, c.chans, c.axes, c.recd, c.sys.cutCh, c.sys.cutAx, c.safe.slices, c.safe.sfs, rfl⟩, rfl, fun _ => rfl, .refl _ c⟩

theorem trans (h : c.FnMoves P d) (k : d.FnMoves P e) : c.FnMoves P e := by
  obtain ⟨⟨rg, cs, ax, rc, cc, ca, sl, sf, hd⟩, hz, hi, hw⟩ := h
  obtain ⟨⟨rg', cs', ax', rc', cc', ca', sl', sf', he⟩, hz', hi', hw'⟩ := k
  refine ⟨⟨rg', cs', ax', rc', cc', ca', sl', sf', by rw [he, hd]⟩, hz'.trans hz, fun q => ?_, hw.trans hw'⟩
  have hq' := hi' q
  rw [hi q] at hq'
  exact hq'

theorem mono (h : c.FnMoves P d) (hsub : ∀ a, P a → Q a) : c.FnMoves Q d := { h with words := h.words.mono hsub }

theorem of_writes (h : c.Writes P d) : c.FnMoves P d := by
  obtain ⟨⟨rg, rc, hd⟩, hw⟩ := h
  exact ⟨⟨rg, c.chans, c.axes, rc, c.sys.cutCh, c.sys.cutAx, c.safe.slices, c.safe.sfs, hd⟩, by rw [hd], fun q => by rw [hd]; rfl, hw⟩

theorem of_out (h : c.SetsOut d) (hP : ∀ a, outWord a → P a) : c.FnMoves P d := by
  obtain ⟨⟨rg, cs, ax, rc, hd⟩, hw⟩ := h
  exact ⟨⟨rg, cs, ax, rc, c.sys.cutCh, c.sys.cutAx, c.safe.slices, c.safe.sfs, hd⟩, by rw [hd], fun q => by rw [hd]; rfl, hw.mono hP⟩

theorem setChan (h : c.FnMoves P d) (g : Nat) (f : ChanSt → ChanSt) : c.FnMoves P (d.setChan g f) :=
  h.trans ⟨⟨d.regs, (d.setChan g f).chans, d.axes, d.recd, d.sys.cutCh, d.sys.cutAx, d.safe.slices, d.safe.sfs, rfl⟩, rfl, fun _ => rfl,
    .of_regs rfl⟩

theorem setSf (h : c.FnMoves P d) (sf : Nat) (f : SfSt → SfSt) : c.FnMoves P (d.setSf sf f) :=
  h.trans ⟨⟨d.regs, d.chans, d.axes, d.recd, d.sys.cutCh, d.sys.cutAx, d.safe.slices, (d.setSf sf f).safe.sfs, rfl⟩, rfl, fun _ => rfl,
    .of_regs rfl⟩

theorem setFnSt (h : c.FnMoves P d) (r j : Nat) (f : FnSt → FnSt) : c.FnMoves P (d.setFnSt r j f) := by
  refine h.trans ⟨⟨d.regs, d.chans, d.axes, d.recd, d.sys.cutCh, d.sys.cutAx, (d.setFnSt r j f).safe.slices, d.safe.sfs, rfl⟩,
    setIsle_size d r _, fun q => ?_, .of_regs rfl⟩
  have hq : (d.setFnSt r j f).isle q = if q = r ∧ r < d.safe.slices.length then { d.isle r with fns := upd (d.isle r).fns j f } else d.isle q :=
    nth_upd _ _ _ _ _
  rw [hq]
  split
  · next hq => rw [hq.1]
  · rfl

theorem record (h : c.FnMoves P d) (source region severity subject : Nat) (bs ws : List Nat) (hP : ∀ a, spaceOf a = 10 → P a) :
    c.FnMoves P (d.record source region severity subject bs ws) := h.trans (of_writes ((Writes.refl P d).record _ _ _ _ _ _ hP))

theorem putI (h : c.FnMoves P d) {b i : Nat} {f : Field} (v : Nat) (hp : P (f.at b i)) : c.FnMoves P (d.putI b f i v) :=
  h.trans (of_writes ((Writes.refl P d).putI v hp))

theorem ite {b : Prop} [Decidable b] (h : b → c.FnMoves P d) (k : ¬ b → c.FnMoves P e) : c.FnMoves P (if b then d else e) := by
  split
  · next hb => exact h hb
  · next hb => exact k hb

theorem when (h : c.FnMoves P d) {b : Bool} {f : Chip → Chip} (k : d.FnMoves P (f d)) : c.FnMoves P (d.when b f) :=
  ite (fun _ => h.trans k) (fun _ => h)

theorem each {α : Type} (h : c.FnMoves P d) {f : Chip → α → Chip} (l : List α) (k : ∀ e : Chip, ∀ x ∈ l, e.FnMoves P (f e x)) :
    c.FnMoves P (d.each l f) := h.trans (each_rel (refl P) (fun _ _ _ => trans) l k d)

theorem fns (h : c.FnMoves P d) : d.safe.fns = c.safe.fns ∧ d.safe.conns = c.safe.conns ∧ d.safe.prods = c.safe.prods ∧ d.now = c.now := by
  obtain ⟨rg, cs, ax, rc, cc, ca, sl, sf, hd⟩ := h.frame
  rw [hd]
  exact ⟨rfl, rfl, rfl, rfl⟩

/-- What a slice holds beside its functions stays. -/
theorem isle_kept (h : c.FnMoves P d) (q : Nat) {α : Type} (p : IsleSt → α) (hp : ∀ (x : IsleSt) l, p { x with fns := l } = p x) :
    p (d.isle q) = p (c.isle q) := by rw [h.isles q, hp]

theorem getI (h : c.FnMoves P d) {b i : Nat} {f : Field} (hn : ¬ P (f.at b i)) : d.getI b f i = c.getI b f i := getI_congr (h.words _ hn)

end Chip.FnMoves

end Sys2Proof.Machine
end

section
/-! SUPPORT. What a function that goes to a state and a slice that stops change (R340, R350). -/

namespace Sys2Proof.Machine

/-! ### A function takes a new state (R350) -/

/-- The words of function `f` in the block of slice `r`, and its switch, once it has gone to a new state. -/
def Chip.fnGone (c : Chip) (r : Nat) (f : FnCfg) (new : Nat) : Chip :=
  (((((c.putI (isleAt r) Isle.state f.j new).putI (isleAt r) Isle.ok f.j (b2n (new == 4))).putI (isleAt r) Isle.rst_wait f.j
    (b2n (new == 3))).when (new == 5 || c.sfState r f.j == 5) (·.putI (isleAt r) Isle.disc f.j (b2n (new == 5)))).when
    (c.sfState r f.j == 4 && new == 2) (·.bumpByI (isleAt r) Isle.trips f.j 1)).when (new == 5)
    (fun c => (c.bumpByI (isleAt r) Isle.discs f.j 1).putBit (isleAt r) Isle.disc_seen f.j true)

/-- What a slice holds of a function that has gone to a new state. -/
def FnSt.gone (h : FnSt) (now new : Nat) : FnSt :=
  { h with
    at2 := if new = 2 then now else h.at2
    at3 := if new = 3 then now else h.at3
    blocked := if new = 3 then false else h.blocked }

/-- What the slices hold of function `f` once it has gone to a new state. -/
def Chip.fnNoted (c : Chip) (now r : Nat) (f : FnCfg) (new : Nat) : Chip :=
  (c.each (f.outIn r).toList (fun c g => c.setChan g (fun h => { h with safeRun := new == 4 }))).setFnSt r f.j (·.gone now new)

/-- The log of the change, kept or struck, and its records. -/
def Chip.fnTold (d c : Chip) (r : Nat) (f : FnCfg) (new cause input : Nat) : Chip :=
  let old := c.sfState r f.j
  let agree := d.sfState (mate r) f.j == new
  match (c.sfSt f.sf).strike r old new with
  | some h => d.setSf f.sf (fun _ => if agree then { h with log := [] } else h)
  | none =>
    ((d.setSf f.sf (fun h => { h with log := if agree then [] else h.log ++ [(r, old, new)] })).record 80 r
      (if new = 5 || new = 6 then 3 else if old = 4 then 2 else 0) f.sf [old, new, cause] []).when (new == 5)
      (·.record 81 r 2 f.sf [input, (nth (0xFF, false) f.inputs input).1] [])

namespace Chip

theorem goFn_eq (c : Chip) (r : Nat) (f : FnCfg) (new cause input : Nat) : c.goFn r f new cause input =
    if c.sfState r f.j = new then c else ((c.fnGone r f new).fnNoted c.now r f new).fnTold c r f new cause input := by
  rfl

section Words

variable {r i : Nat} {f : Field}

theorem fnWord_many (h1 : 4 ≤ f.first) (h2 : f.first ≤ 0x0C) (hs : f.stride = 1) (hi : i < 8) : fnWord r (f.at (isleAt r) i) :=
  fnWord_at (by rw [hs]; omega) (by rw [hs]; omega)

theorem recorder_isleOut {a : Nat} (h : spaceOf a = 10) : isleOut r a := .inl (.inl h)

end Words

theorem fnGone_writes (c : Chip) (r : Nat) (f : FnCfg) (new : Nat) : c.Writes (fnWord r) (c.fnGone r f new) := by
  have hput : ∀ (e : Chip) (g : Field) (v : Nat), 4 ≤ g.first → g.first ≤ 0x0C → g.stride = 1 → e.Writes (fnWord r) (e.putI (isleAt r) g f.j v) :=
    fun e g v h1 h2 hs => (Writes.refl _ e).putI v (fnWord_many h1 h2 hs f.j_lt)
  have hseen : ∀ e : Chip, e.Writes (fnWord r) ((e.bumpByI (isleAt r) Isle.discs f.j 1).putBit (isleAt r) Isle.disc_seen f.j true) := fun e =>
    (hput e Isle.discs _ (by decide) (by decide) rfl).trans ((Writes.refl _ _).putBit _ _ (fnWord_at (by decide) (by decide)))
  unfold fnGone
  exact ((((hput _ _ _ (by decide) (by decide) rfl).trans (hput _ _ _ (by decide) (by decide) rfl)).trans
    (hput _ _ _ (by decide) (by decide) rfl)).when (hput _ _ _ (by decide) (by decide) rfl)).when
    (hput _ _ _ (by decide) (by decide) rfl) |>.when (hseen _)

theorem fnNoted_moves (c : Chip) (now r : Nat) (f : FnCfg) (new : Nat) (P : Nat → Prop) : c.FnMoves P (c.fnNoted now r f new) :=
  ((FnMoves.refl P c).each _ (fun e g _ => (FnMoves.refl P e).setChan g _)).setFnSt _ _ _

theorem fnNoted_regs (c : Chip) (now r : Nat) (f : FnCfg) (new : Nat) : (c.fnNoted now r f new).regs = c.regs :=
  each_rel (R := fun a b => b.regs = a.regs) (fun _ => rfl) (fun _ _ _ h k => k.trans h)
    (f := fun c g => c.setChan g (fun h => { h with safeRun := new == 4 })) _ (fun _ _ _ => rfl) c

theorem fnTold_moves (d c : Chip) (r : Nat) (f : FnCfg) (new cause input : Nat) {P : Nat → Prop} (hP : ∀ a, spaceOf a = 10 → P a) :
    d.FnMoves P (d.fnTold c r f new cause input) := by
  unfold fnTold
  simp only []
  split
  · exact (FnMoves.refl P d).setSf _ _
  · exact (((FnMoves.refl P d).setSf _ _).record _ _ _ _ _ _ hP).when ((FnMoves.refl P _).record _ _ _ _ _ _ hP)

theorem goFn_moves (c : Chip) (r : Nat) (f : FnCfg) (new cause input : Nat) : c.FnMoves (isleOut r) (c.goFn r f new cause input) := by
  rw [goFn_eq]
  refine .ite (fun _ => .refl _ c) (fun _ => ?_)
  exact ((FnMoves.of_writes ((fnGone_writes c r f new).mono (fun _ h => .inr h))).trans (fnNoted_moves _ _ _ _ _ _)).trans
    (fnTold_moves _ _ _ _ _ _ _ (fun _ h => recorder_isleOut h))

/-- A field of a function, written, leaves another of the same function. -/
theorem getI_putI_bits (c : Chip) (b i v : Nat) {f g : Field} (h : f.clear g = true) (hs : f.stride = g.stride) :
    (c.putI b f i v).getI b g i = c.getI b g i := by
  refine getI_putI_apart c b f i v b g i (Field.sound_iff.1 (Field.sound_of_clear h)).1 (Field.sound_iff.1 (Field.sound_of_clear h)).2 ?_
  simp only [Field.clear, Bool.and_eq_true, Bool.or_eq_true, bne_iff_ne, ne_eq, decide_eq_true_eq] at h
  simp only [Field.apart, Field.at_eq, hs]
  omega

/-- A function that goes to a state stands in it. -/
theorem fnGone_state (c : Chip) (r : Nat) (f : FnCfg) {new : Nat} (hnew : new < 2 ^ 8) : (c.fnGone r f new).sfState r f.j = new := by
  have hput : ∀ (e : Chip) (b : Bool) (g : Field) (v : Nat), g.clear Isle.state = true → g.stride = 1 →
      (e.when b (·.putI (isleAt r) g f.j v)).sfState r f.j = e.sfState r f.j := fun e b g v h hs => by
    cases b
    · rfl
    · exact getI_putI_bits e _ _ _ h hs
  have hbump : ∀ (e : Chip) (b : Bool), (e.when b (·.bumpByI (isleAt r) Isle.trips f.j 1)).sfState r f.j = e.sfState r f.j := fun e b => by
    cases b
    · rfl
    · exact getI_putI_other e (Field.at_ne (by have := f.j_lt; simp only [Isle.state, Isle.trips, Field.many]; omega))
  have hseen : ∀ (e : Chip) (b : Bool), (e.when b (fun c => (c.bumpByI (isleAt r) Isle.discs f.j 1).putBit (isleAt r) Isle.disc_seen f.j
      true)).sfState r f.j = e.sfState r f.j := fun e b => by
    cases b
    · rfl
    · exact (getI_put_other _ (Field.at_ne (by have := f.j_lt; simp only [Isle.state, Isle.disc_seen, Field.many, Field.one]; omega))).trans
        (getI_putI_other e (Field.at_ne (by have := f.j_lt; simp only [Isle.state, Isle.discs, Field.many]; omega)))
  have hset : (c.putI (isleAt r) Isle.state f.j new).sfState r f.j = new := getI_putI_of_lt c _ _ (by decide) hnew
  unfold fnGone
  rw [hseen, hbump, hput _ _ _ _ (by decide) rfl]
  exact (getI_putI_bits _ _ _ _ (f := Isle.rst_wait) (g := Isle.state) (by decide) rfl).trans ((getI_putI_bits _ _ _ _ (f := Isle.ok) (g := Isle.state) (by decide) rfl).trans hset)

/-- The words of a slice's functions after a function has gone to a new state are those of `fnGone`. -/
theorem goFn_words {c : Chip} {r : Nat} {f : FnCfg} {new : Nat} (h : c.sfState r f.j ≠ new) (cause input : Nat) :
    (c.fnGone r f new).WordsBut recorderWord (c.goFn r f new cause input) := by
  rw [goFn_eq, if_neg h]
  exact (WordsBut.of_regs (fnNoted_regs _ _ _ _ _)).trans (fnTold_moves _ _ _ _ _ _ _ (fun _ h => h)).words

theorem not_recorder_isle {r i : Nat} {f : Field} (hr : r ≠ 10) (h : f.first + i * f.stride < 65536) : ¬ recorderWord (f.at (isleAt r) i) := by
  rw [recorderWord, isleAt, Field.space_at f (by decide) h]
  exact hr

theorem goFn_state (c : Chip) {r : Nat} (hr : r < 8) (f : FnCfg) {new : Nat} (hnew : new < 2 ^ 8) (cause input : Nat) :
    (c.goFn r f new cause input).sfState r f.j = new := by
  by_cases h : c.sfState r f.j = new
  · rw [goFn_eq, if_pos h, h]
  · have hlt : Isle.state.first + f.j * Isle.state.stride < 65536 := by have := f.j_lt; simp only [Isle.state, Field.many]; omega
    exact (getI_congr (goFn_words h cause input _ (not_recorder_isle (by omega) hlt))).trans (fnGone_state c r f hnew)

/-- The state of a function as another slice sees it stands in another word. -/
theorem not_isleOut_other {r q i : Nat} {f : Field} (hq : q < 8) (hqr : q ≠ r) (h : f.first + i * f.stride < 65536) :
    ¬ isleOut r (f.at (isleAt q) i) := by
  rw [Field.at_eq]
  rintro (hout | ⟨h1, h2⟩)
  · exact not_outWord_block hq (by decide) (by decide) h hout
  · simp only [isleAt, blockAddr] at h1 h2
    omega

theorem goFn_state_other (c : Chip) {r q j : Nat} (hq : q < 8) (hqr : q ≠ r) (hj : j < 8) (f : FnCfg) (new cause input : Nat) :
    (c.goFn r f new cause input).sfState q j = c.sfState q j :=
  (goFn_moves c r f new cause input).getI (not_isleOut_other hq hqr (by simp only [Isle.state, Field.many]; omega))

end Chip

/-! ### A slice stops (R340) -/

/-- The words of a slice that has stopped with a cause, and its messages gone. -/
def Chip.stopHead (c : Chip) (r cause : Nat) : Chip :=
  (((((c.put (isleAt r) Isle.running 0).put (isleAt r) Isle.latched 1).put (isleAt r) Isle.stop_cause cause).put (isleAt r) Isle.xlink_ok
    0).when (cause == 4) (·.put (isleAt r) Isle.params_ok 0)).setIsle r (fun h => { h with out := none, msg := none, fresh := false })

/-- The functions of a stopped slice in state 6, their tests ended. -/
def Chip.fnsStopped (c : Chip) (fs : List FnCfg) (r cause : Nat) : Chip :=
  c.each fs (fun c f => (c.goFn r f 6 (if cause = 8 then 9 else 4) 0).setSf f.sf (fun h => { h with test := none, sinkDue := false }))

namespace Chip

variable {c : Chip} {r cause : Nat}

theorem stopIsle_eq (h : c.isleRuns r = true) (cause : Nat) : c.stopIsle r cause =
    (((((c.stopHead r cause).fnsStopped (c.fnsOf r) r cause).each (c.fnsOf r) (fun c f => c.setSafeOut r f)).applyCuts r).record 83 r 3 r
      [cause] []) := by
  unfold stopIsle
  exact if_neg (by rw [h]; decide)

theorem cuts_moves (c : Chip) {r : Nat} (hr : r < 8) : c.FnMoves (isleOut r) (c.applyCuts r) := by
  have hsys : c.FnMoves (isleOut r) { c with sys := c.cutSys r } :=
    ⟨⟨c.regs, c.chans, c.axes, c.recd, (c.cutSys r).cutCh, (c.cutSys r).cutAx, c.safe.slices, c.safe.sfs, rfl⟩, rfl, fun _ => rfl, .of_regs rfl⟩
  exact (hsys.trans (.of_writes ((cutShown_writes c r).mono (fun _ h => .inr h)))).trans (.of_out (applyCuts_sets c hr) (fun _ h => .inl h))

theorem fnsStopped_moves (c : Chip) (fs : List FnCfg) (r cause : Nat) : c.FnMoves (isleOut r) (c.fnsStopped fs r cause) :=
  (FnMoves.refl _ c).each fs (fun e f _ => (goFn_moves e r f _ _ _).setSf _ _)

/-- What a stop changes beside the head of its slice's block. -/
theorem stopIsle_moves (hrun : c.isleRuns r = true) (hr : r < 8) (hcc : ∀ f ∈ c.fnsOf r, f.outCc < 16 ∨ f.outCc = 0xFF) (cause : Nat) :
    (c.stopHead r cause).FnMoves (isleOut r) (c.stopIsle r cause) := by
  rw [stopIsle_eq hrun]
  have hout : ∀ e : Chip, e.FnMoves (isleOut r) (e.each (c.fnsOf r) (fun c f => c.setSafeOut r f)) := fun e =>
    .of_out (eachOut_sets hr (fun f hf => ⟨fnsOf_pair hf, hcc f hf⟩) r e) (fun _ h => .inl h)
  exact ((((fnsStopped_moves _ _ _ _).trans (hout _)).trans (cuts_moves _ hr)).record _ _ _ _ _ _ (fun _ h => recorder_isleOut h))

theorem stopIsle_not (h : c.isleRuns r = false) (cause : Nat) : c.stopIsle r cause = c := by
  unfold stopIsle
  exact if_pos (by rw [h]; rfl)

end Chip

end Sys2Proof.Machine
end

section
/-! SUPPORT. O25: inputs and output tests of the island. -/

namespace Sys2Proof.Machine

/-! ### Safe-DI samples (R343, R344) -/

/-- A Safe-DI once it has been sampled with a level. -/
def SafeDi.sampled (d : SafeDi) (tF now : Nat) (level : Bool) : SafeDi :=
  let n := if level == d.level then 0 else d.count + 1
  if tF ≤ n then { d with level := level, count := 0, since := now, sampledAt := now } else { d with count := n, sampledAt := now }

theorem SafeDi.sampled_g (d : SafeDi) (tF now : Nat) (level : Bool) : (d.sampled tF now level).g = d.g := by
  unfold SafeDi.sampled
  generalize (if level == d.level then 0 else d.count + 1) = n
  simp only []
  split
  · rfl
  · rfl

theorem SafeDi.sampled_eq (d : SafeDi) (tF now : Nat) (level : Bool) : d.sampled tF now level =
    if level = d.level then
      (if tF = 0 then { d with count := 0, since := now, sampledAt := now } else { d with count := 0, sampledAt := now })
    else if tF ≤ d.count + 1 then { d with level := level, count := 0, since := now, sampledAt := now }
    else { d with count := d.count + 1, sampledAt := now } := by
  by_cases h : level = d.level
  · subst h
    simp only [SafeDi.sampled, beq_self_eq_true, if_pos, Nat.le_zero]
  · simp only [SafeDi.sampled, beq_iff_eq, if_neg h]

/-- The entry that stands first for a channel, replaced. -/
theorem find_replaced {l : List SafeDi} {g : Nat} {d d' : SafeDi} (h : l.find? (fun i => i.g == g) = some d) (hg : d'.g = d.g) :
    (l.map (fun i => if i.g = g then d' else i)).find? (fun i => i.g == g) = some d' := by
  have hd : d.g = g := by simpa using List.find?_some h
  induction l with
  | nil => cases h
  | cons x l ih =>
    by_cases hx : x.g = g
    · rw [List.map_cons, if_pos hx, List.find?_cons_of_pos (by simp [hg, hd])]
    · rw [List.find?_cons_of_neg (by simpa using hx)] at h
      rw [List.map_cons, if_neg hx, List.find?_cons_of_neg (by simpa using hx), ih h]

/-- The chip once a Safe-DI has been sampled. -/
def Chip.diSampled (c : Chip) (g : Nat) (d' : SafeDi) : Chip :=
  ((c.setIsle (g / 16) (fun h => { h with ins := h.ins.map (fun i => if i.g = g then d' else i) })).setChan g (fun h => { h with
    base := 1 })).setImage g (b2n d'.level)

theorem diSampled_isle (c : Chip) (g : Nat) (d' : SafeDi) (q : Nat) : (c.diSampled g d').isle q =
    (c.setIsle (g / 16) (fun h => { h with ins := h.ins.map (fun i => if i.g = g then d' else i) })).isle q := by
  refine Chip.isle_congr ?_ q
  obtain ⟨rg, cs, rc, hd⟩ := (Chip.setImage_moves ((c.setIsle (g / 16) (fun h => { h with
    ins := h.ins.map (fun i => if i.g = g then d' else i) })).setChan g (fun h => { h with base := 1 })) g (b2n d'.level)).frame
  rw [Chip.diSampled, hd]
  rfl

theorem safeDiSample_step {g : Fin 128} {mv : BitVec 16} {f : FnCfg} {d : SafeDi} {s : State} (hrun : s.chip.isleRuns (g / 16) = true)
    (hf : s.chip.fnOfDi g = some f) (hd : (s.chip.isle (g / 16)).ins.find? (fun i => i.g == g.val) = some d)
    (htime : 99 * 125 ≤ 100 * (s.chip.now - d.sampledAt)) : exec (.safeDiSample g mv) s =
      .next { s with chip := s.chip.diSampled g (d.sampled f.tF s.chip.now (decide ((if f.flags.testBit 3 then 8000 else 10000) ≤ mv.toInt))) } := by
  refine chipOnly_to s ?_
  have hsamples : s.chip.isleSamples (g.val / 16) = true := by rw [Chip.isleSamples, hrun, Bool.true_or]
  simp only [hsamples, hf, hd]
  rw [if_neg (by omega)]
  simp only [Chip.diSampled, SafeDi.sampled, decide_eq_true_eq]

/-! ### Discrepancies (R351) -/

/-- The chip once a discrepancy has lasted its time. -/
def Chip.discrepant (c : Chip) (r : Nat) (f : FnCfg) : Chip :=
  (c.setFnSt r f.j (fun h => { h with in5 := c.discLate r f })).goFn r f 5 3 (nth 0 (c.discLate r f) 0)

theorem discrepancyTimeout_step {r : Fin 8} {sf : Fin 32} {f : FnCfg} {s : State} (hrun : s.chip.isleRuns r = true)
    (hf : (s.chip.fnsOf r).find? (fun f => f.sf == sf.val) = some f) (hst : [2, 3, 4].contains (s.chip.sfState r f.j) = true)
    (hlate : s.chip.discLate r f ≠ []) : exec (.discrepancyTimeout r sf) s = .next { s with chip := s.chip.discrepant r f } := by
  refine chipOnly_to s ?_
  simp only [hrun, hf]
  refine if_pos ?_
  simp only [List.contains_cons, List.contains_nil, Bool.or_false] at hst
  have hne : (s.chip.discLate r f).isEmpty = false := by simpa using hlate
  rw [hne, Bool.or_assoc, hst]
  rfl

namespace Chip

/-- A function that goes to state 5 from another shows its discrepancy. -/
theorem goFn_disc {c : Chip} {r : Nat} (hr : r < 8) {f : FnCfg} (h : c.sfState r f.j ≠ 5) (cause input : Nat) :
    (c.goFn r f 5 cause input).getI (isleAt r) Isle.disc f.j = 1 := by
  have hj := f.j_lt
  have hgone : (c.fnGone r f 5).getI (isleAt r) Isle.disc f.j = 1 := by
    have htrips : ∀ e : Chip, (e.when (c.sfState r f.j == 4 && 5 == 2) (·.bumpByI (isleAt r) Isle.trips f.j 1)) = e := fun e => by
      rw [show ((5 : Nat) == 2) = false from rfl, Bool.and_false]
      rfl
    unfold fnGone
    rw [htrips _]
    refine (getI_put_other _ (Field.at_ne (by simp only [Isle.disc, Isle.disc_seen, Field.many, Field.one]; omega))).trans
      ((getI_putI_other _ (Field.at_ne (by simp only [Isle.disc, Isle.discs, Field.many]; omega))).trans ?_)
    exact getI_putI_of_lt _ _ _ (by decide) (by decide)
  refine (getI_congr (goFn_words h cause input _ (not_recorder_isle (by omega) ?_))).trans hgone
  simp only [Isle.disc, Field.many]
  omega

/-- What a change of a function leaves of every function. -/
theorem fnSt_setFnSt_kept (c : Chip) (r j q i : Nat) {k : FnSt → FnSt} {α : Type} (p : FnSt → α) (h : ∀ x, p (k x) = p x) :
    p ((c.setFnSt r j k).fnSt q i) = p (c.fnSt q i) := by
  have hq : (c.setFnSt r j k).isle q = if q = r ∧ r < c.safe.slices.length then { c.isle r with fns := upd (c.isle r).fns j k } else c.isle q :=
    nth_upd _ _ _ _ _
  rw [fnSt, fnSt, hq]
  split
  · next hqr =>
    rw [hqr.1]
    show p (nth {} (upd (c.isle r).fns j k) i) = _
    rw [nth_upd]
    split
    · next hij => exact hij.1 ▸ h _
    · rfl
  · rfl

/-- What a function beyond its registers keeps when it goes to a state: the inputs that led to state 5. -/
theorem goFn_in5 (c : Chip) (r : Nat) (f : FnCfg)
    (new cause input : Nat) : ((c.goFn r f new cause input).fnSt r f.j).in5 = (c.fnSt r f.j).in5 := by
  have heach : ∀ (e : Chip) (l : List Nat), (e.each l (fun c g => c.setChan g (fun h => { h with safeRun := new == 4 }))).safe = e.safe := fun e l =>
    each_rel (R := fun a b => b.safe = a.safe) (fun _ => rfl) (fun _ _ _ h k => k.trans h)
      (f := fun c g => c.setChan g (fun h => { h with safeRun := new == 4 })) l (fun _ _ _ => rfl) e
  have hnoted : ∀ e : Chip, ((e.fnNoted c.now r f new).fnSt r f.j).in5 = (e.fnSt r f.j).in5 := fun e => by
    exact (fnSt_setFnSt_kept _ r f.j r f.j (k := (·.gone c.now new)) (·.in5) (fun _ => rfl)).trans
      (by rw [fnSt, isle_congr (heach e _), fnSt])
  have htold : ∀ e : Chip, (e.fnTold c r f new cause input).fnSt r f.j = e.fnSt r f.j := fun e => by
    have hrec : ∀ (d : Chip) (source region severity subject : Nat) (bs ws : List Nat),
        (d.record source region severity subject bs ws).fnSt r f.j = d.fnSt r f.j := fun d _ _ _ _ _ _ => by
      rw [fnSt, isle_congr (((Writes.refl (fun _ => True) d).record _ _ _ _ _ _ (fun _ _ => trivial)).safe), fnSt]
    have hwhen : ∀ (d : Chip) (b : Bool) (source region severity subject : Nat) (bs ws : List Nat),
        (d.when b (·.record source region severity subject bs ws)).fnSt r f.j = d.fnSt r f.j := fun d b _ _ _ _ _ _ => by
      cases b
      · rfl
      · exact hrec _ _ _ _ _ _ _
    unfold fnTold
    simp only []
    split
    · rfl
    · exact (hwhen _ _ _ _ _ _ _ _).trans (hrec _ _ _ _ _ _ _)
  have hgone : (c.fnGone r f new).fnSt r f.j = c.fnSt r f.j := by
    rw [fnSt, isle_congr (fnGone_writes c r f new).safe, fnSt]
  rw [goFn_eq]
  split
  · rfl
  · rw [htold, hnoted, hgone]

end Chip

namespace Chip

theorem discrepant_state (c : Chip) {r : Nat} (hr : r < 8) (f : FnCfg) : (c.discrepant r f).sfState r f.j = 5 :=
  goFn_state (c.setFnSt r f.j (fun h => { h with in5 := c.discLate r f })) hr f (by decide) 3 (nth 0 (c.discLate r f) 0)

theorem discrepant_disc {c : Chip} {r : Nat} (hr : r < 8) {f : FnCfg} (h : c.sfState r f.j ≠ 5) :
    (c.discrepant r f).getI (isleAt r) Isle.disc f.j = 1 :=
  goFn_disc (c := c.setFnSt r f.j (fun h => { h with in5 := c.discLate r f })) hr h 3 (nth 0 (c.discLate r f) 0)

theorem discrepant_in5 {c : Chip} (hs : c.safe.slices.length = 8) {r : Nat} (hr : r < 8) {f : FnCfg} (hf : (c.isle r).fns.length = 8) :
    ((c.discrepant r f).fnSt r f.j).in5 = c.discLate r f := by
  have hisle : (c.setFnSt r f.j (fun h => { h with in5 := c.discLate r f })).isle r =
      { c.isle r with fns := upd (c.isle r).fns f.j (fun h => { h with in5 := c.discLate r f }) } :=
    isle_setIsle_same c _ hs hr
  have hset : ((c.setFnSt r f.j (fun h => { h with in5 := c.discLate r f })).fnSt r f.j).in5 = c.discLate r f := by
    rw [fnSt, hisle]
    have hj : f.j < (c.isle r).fns.length := by rw [hf]; exact f.j_lt
    exact congrArg FnSt.in5 (nth_upd_same _ _ _ _ hj)
  exact (goFn_in5 (c.setFnSt r f.j (fun h => { h with in5 := c.discLate r f })) r f 5 3 (nth 0 (c.discLate r f) 0)).trans hset

end Chip

/-! ### Output tests (R348) -/

/-- A test of a safe output, begun. -/
def SfSt.tested (h : SfSt) (sink run : Bool) (now : Nat) : SfSt :=
  { h with test := some (sink, if run then 3 else 2, now), testAt := if sink then h.testAt else now, pulseAt := now, sinkDue := !sink && run }

/-- The chip once a test of the output of `f` has begun. -/
def Chip.outTested (c : Chip) (sf : Nat) (f : FnCfg) (sink run : Bool) : Chip :=
  (c.setSf sf (fun h => h.tested sink run c.now)).setChan (if sink then f.ls else f.hs) (fun x => { x with
    closed := !run && c.switchFree (if sink then f.ls else f.hs) })

namespace Chip

theorem sfSt_setSf_same (c : Chip) {sf : Nat} (k : SfSt → SfSt) (hs : c.safe.sfs.length = 32) (hsf : sf < 32) :
    (c.setSf sf k).sfSt sf = k (c.sfSt sf) := nth_upd_same _ _ _ _ (by omega)

end Chip

section Tests

variable {sf : Fin 32} {f : FnCfg} {s : State} (hfind : s.chip.safe.fns.find? (fun f => f.sf == sf.val) = some f)

include hfind

/-- The function found is the one asked for. -/
theorem found_sf : f.sf = sf.val := by simpa using List.find?_some hfind

theorem outputTestStart_step (sink : Bool) (hcc : f.outCc < 16) (howns : s.chip.ownsSafe f.owner = true)
    (he : s.chip.isleRuns f.base = true) (ho : s.chip.isleRuns (f.base + 1) = true) (hphase : s.chip.phase = 8)
    (htest : (s.chip.sfSt sf).test = none)
    (hdue : (if sink then (s.chip.sfSt sf).sinkDue && decide ((s.chip.sfSt sf).pulseAt + 10000 ≤ s.chip.now)
      else decide ((s.chip.sfSt sf).testAt + 100000 * f.tTest ≤ s.chip.now)) = true)
    (hsink : (sink && !(s.chip.sfState (f.base + f.outHs % 2) f.j == 4)) = false) :
    exec (.outputTestStart sf sink) s = .next { s with chip := s.chip.outTested sf f sink (s.chip.sfState (f.base + f.outHs % 2) f.j == 4) } := by
  refine chipOnly_to s ?_
  simp only [hfind]
  rw [if_neg (by
    rw [hdue, hsink, howns, he, ho, htest, hphase]
    simp only [decide_eq_true_eq, Bool.or_eq_true, Bool.not_true, Bool.false_eq_true, or_false, Option.isSome_none, bne_self_eq_false]
    omega)]
  rfl

end Tests

/-- The chip once a test of the output of `f` has been judged. -/
def Chip.outJudged (c : Chip) (sf : Nat) (f : FnCfg) (sink : Bool) (test ma : Nat) (bad : Bool) : Chip :=
  (((c.put (chanAt (if sink then f.ls else f.hs)) Dig.load ma).setSf sf (fun h => { h with test := none })).when bad
    (·.failTest f (test == 2 || sink) test (ma / 10))).setSafeOut ((if sink then f.ls else f.hs) / 16) f

/-! ### A test that fails (R348) -/

/-- The faults of both slices and the record of a test that fails. -/
def Chip.testFailed (c : Chip) (f : FnCfg) (sink : Bool) (test ma : Nat) : Chip :=
  ((c.putBit (isleAt f.base) Isle.out_fault f.j true).putBit (isleAt (f.base + 1)) Isle.out_fault f.j true).record 82
    ((if sink then f.ls else f.hs) / 16) 2 f.sf [b2n sink, test] [ma]

namespace Chip

theorem failTest_eq (c : Chip) (f : FnCfg) (sink : Bool) (test ma : Nat) : c.failTest f sink test ma =
    (((c.testFailed f sink test ma).goFn f.base f 6 5 0).goFn (f.base + 1) f 6 5 0).setSf f.sf (fun h => { h with test := none }) := rfl

/-- A test ended leaves none. -/
theorem setSf_ends (c : Chip) (sf : Nat) : ((c.setSf sf (fun h => { h with test := none })).sfSt sf).test = none := by
  have hsf : (c.setSf sf (fun h => { h with test := none })).sfSt sf =
      if sf = sf ∧ sf < c.safe.sfs.length then { c.sfSt sf with test := none } else c.sfSt sf := nth_upd _ _ _ _ _
  rw [hsf]
  split
  · rfl
  · next h =>
    have hout : c.sfSt sf = {} := List.getD_eq_default _ _ (by omega)
    rw [hout]

theorem failTest_test (c : Chip) (f : FnCfg) (sink : Bool) (test ma : Nat) : ((c.failTest f sink test ma).sfSt f.sf).test = none :=
  setSf_ends _ _

/-- Both slices see a function whose test has failed in state 6. -/
theorem failTest_states (c : Chip) {f : FnCfg} (hsf : f.sf < 32) (sink : Bool) (test ma : Nat) :
    (c.failTest f sink test ma).sfState f.base f.j = 6 ∧ (c.failTest f sink test ma).sfState (f.base + 1) f.j = 6 := by
  have hbase : f.base ≤ 6 := by
    rw [FnCfg.base]
    omega
  rw [failTest_eq]
  exact ⟨(goFn_state_other _ (by omega) (by omega) f.j_lt f 6 5 0).trans (goFn_state _ (by omega) f (by decide) 5 0),
    goFn_state _ (by omega) f (by decide) 5 0⟩

end Chip

section Settled

variable {s : State}

/-- A Safe-DI takes a new level once its samples have read it for its time (R343, R344). -/
theorem safeDiSample_takes (hs : Shaped s) {g : Fin 128} {mv : BitVec 16} {f : FnCfg} {d : SafeDi} (hrun : s.chip.isleRuns (g / 16) = true)
    (hf : s.chip.fnOfDi g = some f) (hd : (s.chip.isle (g / 16)).ins.find? (fun i => i.g == g.val) = some d)
    (htime : 99 * 125 ≤ 100 * (s.chip.now - d.sampledAt)) : ∃ t, exec (.safeDiSample g mv) s = .next t ∧
      (t.chip.isle (g / 16)).ins.find? (fun i => i.g == g.val) =
        some (d.sampled f.tF s.chip.now (decide ((if f.flags.testBit 3 then 8000 else 10000) ≤ mv.toInt))) ∧ StoresKept s t ∧
      ∀ q, q ≠ g.val / 16 → t.chip.isle q = s.chip.isle q := by
  refine ⟨_, safeDiSample_step hrun hf hd htime, ?_, .chip s _, fun q hq => ?_⟩
  · show ((s.chip.diSampled g _).isle (g / 16)).ins.find? _ = _
    rw [diSampled_isle, Chip.isle_setIsle_same _ _ hs.sized.isles (by omega)]
    exact find_replaced hd (SafeDi.sampled_g _ _ _ _)
  · exact (diSampled_isle _ _ _ q).trans (Chip.isle_setIsle_other _ _ hq)

/-- A disagreement that has lasted takes its function to state 5 (R351). -/
theorem discrepancyTimeout_takes (hs : Shaped s) {r : Fin 8} {sf : Fin 32} {f : FnCfg} (hrun : s.chip.isleRuns r = true)
    (hf : (s.chip.fnsOf r).find? (fun f => f.sf == sf.val) = some f) (hst : [2, 3, 4].contains (s.chip.sfState r f.j) = true)
    (hlate : s.chip.discLate r f ≠ []) (hfns : (s.chip.isle r).fns.length = 8) : ∃ t, exec (.discrepancyTimeout r sf) s = .next t ∧
      t.chip.sfState r f.j = 5 ∧ t.chip.getI (isleAt r) Isle.disc f.j = 1 ∧
      (t.chip.fnSt r f.j).in5 = s.chip.discLate r f ∧ StoresKept s t := by
  have hne : s.chip.sfState r f.j ≠ 5 := fun h => by rw [h] at hst; exact absurd hst (by decide)
  exact ⟨_, discrepancyTimeout_step hrun hf hst hlate, Chip.discrepant_state _ r.isLt f, Chip.discrepant_disc r.isLt hne,
    Chip.discrepant_in5 hs.sized.isles r.isLt hfns, .chip s _⟩

section Tests

variable {sf : Fin 32} {f : FnCfg} (hfind : s.chip.safe.fns.find? (fun f => f.sf == sf.val) = some f) (hcc : f.outCc < 16)

include hfind hcc

theorem hs_ls_lt : f.hs < 128 ∧ f.ls < 128 := by
  have hsf := found_sf hfind
  have hlt := sf.isLt
  simp only [FnCfg.hs, FnCfg.ls, FnCfg.base]
  omega

variable (howns : s.chip.ownsSafe f.owner = true) (he : s.chip.isleRuns f.base = true) (ho : s.chip.isleRuns (f.base + 1) = true)
  (hphase : s.chip.phase = 8) (htest : (s.chip.sfSt sf).test = none)

include howns he ho hphase htest

/-- A test that is due begins with the high-side switch, open where the function runs, else closed alone (Table 12.4). -/
theorem outputTestStart_high (hs : Shaped s) (hdue : (s.chip.sfSt sf).testAt + 100000 * f.tTest ≤ s.chip.now) :
    ∃ t, exec (.outputTestStart sf false) s = .next t ∧
      (let run := s.chip.sfState (f.base + f.outHs % 2) f.j == 4
       (t.chip.sfSt sf).test = some (false, if run then 3 else 2, s.chip.now) ∧ (t.chip.sfSt sf).sinkDue = run ∧
       (t.chip.chan f.hs).closed = (!run && s.chip.switchFree f.hs)) ∧
      t = { s with chip := { s.chip with safe := t.chip.safe, chans := t.chip.chans } } ∧
      ∀ g, g ≠ f.hs → t.chip.chan g = s.chip.chan g := by
  have hsame : ∀ k : SfSt → SfSt, (s.chip.setSf sf k).sfSt sf = k (s.chip.sfSt sf) := fun k =>
    Chip.sfSt_setSf_same _ k hs.sized.sfs sf.isLt
  have hstep := outputTestStart_step hfind false hcc howns he ho hphase htest (decide_eq_true hdue) rfl
  generalize (s.chip.sfState (f.base + f.outHs % 2) f.j == 4) = run at hstep ⊢
  refine ⟨_, hstep, ⟨congrArg SfSt.test (hsame _), (congrArg SfSt.sinkDue (hsame _)).trans (Bool.true_and run), ?_⟩, rfl, fun g hg => ?_⟩
  · exact congrArg ChanSt.closed (Chip.chan_setChan_self (s.chip.setSf sf _) _ (by rw [show (s.chip.setSf sf _).chans = s.chip.chans from rfl, hs.chans]; exact (hs_ls_lt hfind hcc).1))
  · exact Chip.chan_setChan_other (s.chip.setSf sf _) _ hg

/-- The test of the DO-sink follows while the function runs (Table 12.4). -/
theorem outputTestStart_sink (hs : Shaped s) (hdue : (s.chip.sfSt sf).sinkDue = true) (hpulse : (s.chip.sfSt sf).pulseAt + 10000 ≤ s.chip.now)
    (hstate : s.chip.sfState (f.base + f.outHs % 2) f.j = 4) : ∃ t, exec (.outputTestStart sf true) s = .next t ∧
      (t.chip.sfSt sf).test = some (true, 3, s.chip.now) ∧ (t.chip.sfSt sf).sinkDue = false ∧ (t.chip.chan f.ls).closed = false ∧
      t = { s with chip := { s.chip with safe := t.chip.safe, chans := t.chip.chans } } := by
  have hsame : ∀ k : SfSt → SfSt, (s.chip.setSf sf k).sfSt sf = k (s.chip.sfSt sf) := fun k =>
    Chip.sfSt_setSf_same _ k hs.sized.sfs sf.isLt
  have hstep := outputTestStart_step hfind true hcc howns he ho hphase htest (by rw [if_pos rfl, hdue, decide_eq_true hpulse]; rfl)
    (by rw [hstate]; rfl)
  rw [hstate] at hstep
  refine ⟨_, hstep, congrArg SfSt.test (hsame _), congrArg SfSt.sinkDue (hsame _), ?_, rfl⟩
  exact congrArg ChanSt.closed (Chip.chan_setChan_self (s.chip.setSf sf _) _ (by rw [show (s.chip.setSf sf _).chans = s.chip.chans from rfl, hs.chans]; exact (hs_ls_lt hfind hcc).2))

end Tests

/-- A test is judged by its current (R348). -/
theorem outputTestEnd_judges (hs : Shaped s) {sf : Fin 32} {f : FnCfg} (hfind : s.chip.safe.fns.find? (fun f => f.sf == sf.val) = some f)
    (hcc : f.outCc < 16) {sink : Bool} {test t0 : Nat} (tenthMa : BitVec 16) (htest : (s.chip.sfSt sf).test = some (sink, test, t0))
    (htime : t0 + 300 ≤ s.chip.now) : ∃ t, exec (.outputTestEnd sf tenthMa) s = .next t ∧ (t.chip.sfSt sf).test = none ∧
      (if test = 2 ∧ 50 < tenthMa.toNat ∨ test ≠ 2 ∧ 50 ≤ tenthMa.toNat then
        t.chip.sfState f.base f.j = 6 ∧ t.chip.sfState (f.base + 1) f.j = 6
       else t.chip.sfState f.base f.j = s.chip.sfState f.base f.j ∧
        t.chip.sfState (f.base + 1) f.j = s.chip.sfState (f.base + 1) f.j) ∧ StoresKept s t := by
  have hsf : f.sf = sf.val := found_sf hfind
  have hlt : f.sf < 32 := hsf ▸ sf.isLt
  have hbase : f.base ≤ 6 := by rw [FnCfg.base]; omega
  have hstep : exec (.outputTestEnd sf tenthMa) s =
      .next { s with chip := s.chip.outJudged sf f sink test tenthMa.toNat (if test = 2 then decide (50 < tenthMa.toNat) else decide (50 ≤ tenthMa.toNat)) } := by
    refine chipOnly_to s ?_
    simp only [hfind, htest]
    rw [if_neg (by omega)]
    rfl
  have hbad : (if test = 2 then decide (50 < tenthMa.toNat) else decide (50 ≤ tenthMa.toNat)) =
      decide (test = 2 ∧ 50 < tenthMa.toNat ∨ test ≠ 2 ∧ 50 ≤ tenthMa.toNat) := by
    by_cases h : test = 2
    · simp [h]
    · simp [h]
  rw [hbad] at hstep
  have hset : ∀ e : Chip, e.SetsOut (e.setSafeOut ((if sink then f.ls else f.hs) / 16) f) := fun e =>
    Chip.setSafeOut_sets (r := f.base) e (by omega) (by rw [FnCfg.base]; omega) (.inl hcc) _
  have hstates : ∀ (e : Chip) (q : Nat), q < 8 → (e.setSafeOut ((if sink then f.ls else f.hs) / 16) f).sfState q f.j = e.sfState q f.j :=
    fun e q hq => (hset e).getI (fun h => Chip.not_isleOut_other (r := 8) hq (by omega)
      (by have := f.j_lt; simp only [Isle.state, Field.many]; omega) (.inl h))
  have htests : ∀ e : Chip, (e.setSafeOut ((if sink then f.ls else f.hs) / 16) f).sfSt sf = e.sfSt sf := fun e => by
    rw [Chip.sfSt, (hset e).safe, Chip.sfSt]
  have hloaded : ∀ q, q < 8 → ((s.chip.put (chanAt (if sink then f.ls else f.hs)) Dig.load tenthMa.toNat).setSf sf (fun h => { h with
      test := none })).sfState q f.j = s.chip.sfState q f.j := fun q hq => by
    have hg : (if sink then f.ls else f.hs) / 16 < 8 := by
      obtain ⟨h1, h2⟩ := hs_ls_lt hfind hcc
      split <;> omega
    refine Chip.getI_put_other s.chip (Field.at_ne_of_block _ _ (by decide) (by omega) ?_ (by decide) (.inr (by omega)))
    have := f.j_lt
    simp only [Isle.state, Field.many]
    omega
  by_cases hb : test = 2 ∧ 50 < tenthMa.toNat ∨ test ≠ 2 ∧ 50 ≤ tenthMa.toNat
  · rw [decide_eq_true hb] at hstep
    refine ⟨_, hstep, ?_, ?_, .chip s _⟩
    · exact (congrArg SfSt.test (htests _)).trans (hsf ▸ Chip.failTest_test _ f _ _ _)
    · rw [if_pos hb]
      obtain ⟨h1, h2⟩ := Chip.failTest_states ((s.chip.put (chanAt (if sink then f.ls else f.hs)) Dig.load tenthMa.toNat).setSf sf
        (fun h => { h with test := none })) hlt (test == 2 || sink) test (tenthMa.toNat / 10)
      exact ⟨(hstates _ _ (by omega)).trans h1, (hstates _ _ (by omega)).trans h2⟩
  · rw [decide_eq_false hb] at hstep
    refine ⟨_, hstep, ?_, ?_, .chip s _⟩
    · exact (congrArg SfSt.test (htests _)).trans (congrArg SfSt.test (Chip.sfSt_setSf_same _ _ hs.sized.sfs sf.isLt))
    · rw [if_neg hb]
      exact ⟨(hstates _ _ (by omega)).trans (hloaded _ (by omega)), (hstates _ _ (by omega)).trans (hloaded _ (by omega))⟩

end Settled

/-- Settles O25: inputs and output tests of the island. -/
theorem safetyInputsAndTests : Obligations.SafetyInputsAndTests := by
  intro s hs
  refine ⟨fun g mv f d hrun hf hd htime => ?_, fun r sf f hrun hf hst hlate hfns => discrepancyTimeout_takes hs hrun hf hst hlate hfns,
    fun sf f hfind hcc howns he ho => ⟨fun hphase htest =>
      ⟨outputTestStart_high hfind hcc howns he ho hphase htest hs, outputTestStart_sink hfind hcc howns he ho hphase htest hs⟩,
      fun sink test t0 tenthMa htest htime => outputTestEnd_judges hs hfind hcc tenthMa htest htime⟩⟩
  have htakes := safeDiSample_takes hs (mv := mv) hrun hf hd htime
  rw [SafeDi.sampled_eq] at htakes
  exact htakes

end Sys2Proof.Machine
end

section
/-! SUPPORT. O24: stops, starts and commands of a safety slice. -/

namespace Sys2Proof.Machine

/-! ### Stops (R340) -/

theorem flag_of_value {c : Chip} {b v : Nat} {f : Field} (h : c.get b f = v) : c.flag b f = (v != 0) := by rw [Chip.flag, h]

namespace Chip

/-- The head of a stopped slice's block. -/
theorem stopHead_get (c : Chip) (r : Nat) {cause : Nat} (h : cause < 2 ^ 8) :
    (c.stopHead r cause).get (isleAt r) Isle.running = 0 ∧ (c.stopHead r cause).get (isleAt r) Isle.latched = 1 ∧
    (c.stopHead r cause).get (isleAt r) Isle.stop_cause = cause ∧ (c.stopHead r cause).get (isleAt r) Isle.xlink_ok = 0 := by
  have hparams : ∀ (e : Chip) (b : Bool) (f : Field), Isle.params_ok.clear f = true →
      (e.when b (·.put (isleAt r) Isle.params_ok 0)).get (isleAt r) f = e.get (isleAt r) f := fun e b f hf => by
    cases b
    · rfl
    · exact get_put_clear e _ _ hf
  have hhead : ∀ f, Isle.params_ok.clear f = true → (c.stopHead r cause).get (isleAt r) f =
      ((((c.put (isleAt r) Isle.running 0).put (isleAt r) Isle.latched 1).put (isleAt r) Isle.stop_cause cause).put (isleAt r) Isle.xlink_ok
        0).get (isleAt r) f := fun f hf => hparams _ _ f hf
  rw [hhead _ (by decide), hhead _ (by decide), hhead _ (by decide), hhead _ (by decide)]
  refine ⟨?_, ?_, ?_, get_put_of_lt _ _ (by decide) (by decide)⟩
  · rw [get_put_clear _ _ _ (by decide), get_put_clear _ _ _ (by decide), get_put_clear _ _ _ (by decide), get_put_of_lt _ _ (by decide) (by decide)]
  · rw [get_put_clear _ _ _ (by decide), get_put_clear _ _ _ (by decide), get_put_of_lt _ _ (by decide) (by decide)]
  · rw [get_put_clear _ _ _ (by decide), get_put_of_lt _ _ (by decide) h]

/-- What a slice that has stopped with a cause shows and holds. -/
theorem stopIsle_stopped {c : Chip} {r : Nat} (hrun : c.isleRuns r = true) (hs : c.safe.slices.length = 8) (hr : r < 8)
    (hcc : ∀ f ∈ c.fnsOf r, f.outCc < 16 ∨ f.outCc = 0xFF) {cause : Nat} (h : cause < 2 ^ 8) :
    (c.stopIsle r cause).isleRuns r = false ∧ (c.stopIsle r cause).get (isleAt r) Isle.stop_cause = cause ∧
    (c.stopIsle r cause).flag (isleAt r) Isle.latched = true ∧ (c.stopIsle r cause).flag (isleAt r) Isle.xlink_ok = false ∧
    ((c.stopIsle r cause).isle r).out = none := by
  have hmoves := stopIsle_moves hrun hr hcc cause
  obtain ⟨hrunning, hlatched, hcause, hxlink⟩ := c.stopHead_get r h
  have hget : ∀ f : Field, f.first < 4 → (c.stopIsle r cause).get (isleAt r) f = (c.stopHead r cause).get (isleAt r) f := fun f hf =>
    hmoves.getI (not_isleOut_head hr (.inl hf) (by omega))
  refine ⟨flag_of_value ((hget _ (by decide)).trans hrunning), (hget _ (by decide)).trans hcause, flag_of_value ((hget _ (by decide)).trans hlatched),
    flag_of_value ((hget _ (by decide)).trans hxlink), ?_⟩
  refine (hmoves.isle_kept r (·.out) (fun _ _ => rfl)).trans ?_
  exact congrArg IsleSt.out (isle_setIsle_same (((((c.put (isleAt r) Isle.running 0).put (isleAt r) Isle.latched 1).put (isleAt r) Isle.stop_cause
    cause).put (isleAt r) Isle.xlink_ok 0).when (cause == 4) (·.put (isleAt r) Isle.params_ok 0)) _ (by
      cases (cause == 4)
      · exact hs
      · exact hs) hr)

/-! ### Starts (R341) -/

/-- The words that a start of slice `r` writes behind those it begins with. -/
def startWord (r a : Nat) : Prop :=
  fnWord r a ∨ a = Isle.conn_state.at (isleAt r) 0 ∨ (regionAt r + 17 ≤ a ∧ a < regionAt r + 25) ∨ spaceOf a = 10

/-- The words a slice begins with. -/
def startHead (c : Chip) (r : Nat) : Chip :=
  (((((c.put (isleAt r) Isle.running 1).put (isleAt r) Isle.latched 0).put (isleAt r) Isle.stop_cause 0).put (isleAt r) Isle.xlink_ok 0).put
    (isleAt r) Isle.params_ok 1).put (isleAt r) Isle.cycles 0

theorem nameFns_writes (c : Chip) (r : Nat) : c.Writes (fnWord r) (c.nameFns r) :=
  each_regs (fun e f _ => ((Writes.refl _ e).putI _ (fnWord_many (by decide) (by decide) rfl f.j_lt)).putI _
    (fnWord_many (by decide) (by decide) rfl f.j_lt)) c

theorem armIsle_words (c : Chip) (r : Nat) : c.WordsBut (startWord r) (c.armIsle r) := by
  unfold armIsle
  refine WordsBut.trans (d := c.nameFns r) ((nameFns_writes c r).words.mono (fun _ h => .inl h)) ?_
  exact .put _ _ (.inr (.inl rfl))

theorem startIsle_words (c : Chip) (r : Nat) : (c.startHead r).WordsBut (startWord r) (c.startIsle r) := by
  have hmade : ∀ (e : Chip) (l : List Nat), (e.each l (fun c k => c.setProd k (fun h => { h with seq := 0, left := 0 }))).regs = e.regs := fun e l =>
    each_rel (R := fun a b => b.regs = a.regs) (fun _ => rfl) (fun _ _ _ h k => k.trans h)
      (f := fun c k => c.setProd k (fun h => { h with seq := 0, left := 0 })) l (fun _ _ _ => rfl) e
  have htongs : ∀ e : Chip, e.WordsBut (startWord r) (e.resetTongs (tongsKey r 7 1)) := fun e =>
    (e.resetTongs_words (by decide) (by decide)).mono (fun _ h => .inr (.inr (.inl h)))
  unfold startIsle
  exact (((WordsBut.of_regs (hmade _ _)).trans (htongs _)).trans (armIsle_words _ r)).trans (.record _ _ _ _ _ _ _ (fun _ h => .inr (.inr (.inr h))))

theorem enterFn_moves (c : Chip) (r : Nat) (f : FnCfg) : c.FnMoves (isleOut r) (c.enterFn r f) := by
  have hfirst : ∀ new, c.FnMoves (isleOut r) (if c.sfState r f.j = 0 then c.putI (isleAt r) Isle.state f.j new else c.goFn r f new 9 0) := fun new =>
    .ite (fun _ => (FnMoves.refl _ c).putI _ (.inr (fnWord_many (by decide) (by decide) rfl f.j_lt))) (fun _ => goFn_moves c r f _ _ _)
  unfold enterFn
  exact ((hfirst _).setFnSt _ _ _).when (goFn_moves _ r f _ _ _)

theorem enterPair_words (c : Chip) (e : Nat) : c.WordsBut (fun a => isleOut e a ∨ isleOut (e + 1) a) (c.enterPair e) := by
  have hpair : ∀ (d : Chip) (l : List Nat), (∀ r ∈ l, r = e ∨ r = e + 1) →
      d.FnMoves (fun a => isleOut e a ∨ isleOut (e + 1) a) (d.each l (fun c r => c.each (c.fnsOf r) (fun c f => c.enterFn r f))) := by
    intro d l hl
    refine (FnMoves.refl _ d).each l (fun x r hr => ?_)
    have hone : x.FnMoves (isleOut r) (x.each (x.fnsOf r) (fun c f => c.enterFn r f)) := (FnMoves.refl _ x).each _ (fun y f _ => enterFn_moves y r f)
    rcases hl r hr with rfl | rfl
    · exact hone.mono (fun _ h => .inl h)
    · exact hone.mono (fun _ h => .inr h)
  have hmem : ∀ (d : Chip), ∀ r ∈ [e, e + 1].filter d.isleRuns, r = e ∨ r = e + 1 := fun d r hr => by
    simpa using (List.mem_filter.1 hr).1
  unfold enterPair
  exact (hpair _ _ (hmem _)).words

/-- Heads of slice blocks stand when a slice starts, and when a pair enters its states. -/
theorem startWord_head {r q : Nat} (hr : r < 8) (hq : q < 8) {f : Field} (hf : f.first < 4) : ¬ startWord r (f.at (isleAt q) 0) := by
  have hat : f.at (isleAt q) 0 = isleAt q + f.first := by rw [Field.at_eq]; omega
  rw [hat]
  rintro (h | h | h | h)
  · obtain ⟨h1, h2⟩ := h
    simp only [isleAt, blockAddr] at h1 h2
    omega
  · simp only [Field.at_eq, Isle.conn_state, Field.one, isleAt, blockAddr] at h
    omega
  · simp only [isleAt, regionAt, blockAddr] at h
    omega
  · simp only [isleAt, blockAddr, spaceOf] at h
    omega

theorem startHead_get (c : Chip) (r : Nat) : (c.startHead r).get (isleAt r) Isle.running = 1 ∧ (c.startHead r).get (isleAt r) Isle.cycles = 0 := by
  refine ⟨?_, get_put_of_lt _ _ (by decide) (by decide)⟩
  unfold startHead
  rw [get_put_clear _ _ _ (by decide), get_put_clear _ _ _ (by decide), get_put_clear _ _ _ (by decide), get_put_clear _ _ _ (by decide),
    get_put_clear _ _ _ (by decide), get_put_of_lt _ _ (by decide) (by decide)]

/-- Two slice blocks. -/
theorem isle_at_ne {r q : Nat} (h : r ≠ q) {f g : Field} (hf : f.first < 65536) (hg : g.first < 65536) :
    f.at (isleAt r) 0 ≠ g.at (isleAt q) 0 :=
  Field.at_ne_of_block f g (by decide) (by decide) (by omega) (by omega) (.inl h)

theorem startHead_other (c : Chip) {r q : Nat} (h : q ≠ r) {f : Field} (hf : f.first < 65536) :
    (c.startHead r).get (isleAt q) f = c.get (isleAt q) f := by
  unfold startHead
  have hput : ∀ (e : Chip) (g : Field) (v : Nat), g.first < 65536 → (e.put (isleAt r) g v).get (isleAt q) f = e.get (isleAt q) f := fun e g v hg =>
    get_put_other e (isle_at_ne h hf hg)
  rw [hput _ _ _ (by decide), hput _ _ _ (by decide), hput _ _ _ (by decide), hput _ _ _ (by decide), hput _ _ _ (by decide), hput _ _ _ (by decide)]

/-- The chip once both slices of a pair have started. -/
def pairStarted (c : Chip) (e : Nat) : Chip := ((c.startIsle e).startIsle (e + 1)).enterPair e

theorem pairStarted_get (c : Chip) {e : Nat} (he : e < 7) : (c.pairStarted e).get (isleAt e) Isle.running = 1 ∧
    (c.pairStarted e).get (isleAt (e + 1)) Isle.running = 1 ∧ (c.pairStarted e).get (isleAt e) Isle.cycles = 0 := by
  have hpair : ∀ (q : Nat) (f : Field), q < 8 → f.first < 4 → (c.pairStarted e).get (isleAt q) f =
      ((c.startIsle e).startIsle (e + 1)).get (isleAt q) f := fun q f hq hf =>
    (enterPair_words _ e).get (fun h => h.elim (not_isleOut_head hq (.inl hf) (by omega)) (not_isleOut_head hq (.inl hf) (by omega)))
  have hodd : ∀ (q : Nat) (f : Field), q < 8 → f.first < 4 → ((c.startIsle e).startIsle (e + 1)).get (isleAt q) f =
      ((c.startIsle e).startHead (e + 1)).get (isleAt q) f := fun q f hq hf => (startIsle_words _ _).get (startWord_head (by omega) hq hf)
  have heven : ∀ f : Field, f.first < 4 → (c.pairStarted e).get (isleAt e) f = (c.startHead e).get (isleAt e) f := fun f hf =>
    (hpair e f (by omega) hf).trans ((hodd e f (by omega) hf).trans ((startHead_other _ (by omega) (by omega)).trans
      ((startIsle_words _ _).get (startWord_head (by omega) (by omega) hf))))
  exact ⟨(heven _ (by decide)).trans (c.startHead_get e).1,
    (hpair _ _ (by omega) (by decide)).trans ((hodd _ _ (by omega) (by decide)).trans ((c.startIsle e).startHead_get (e + 1)).1),
    (heven _ (by decide)).trans (c.startHead_get e).2⟩

/-- A result of both slices of a pair. -/
def pairResult (c : Chip) (e v : Nat) : Chip := (c.put (isleAt e) Isle.result v).put (isleAt (e + 1)) Isle.result v

theorem pairResult_get (c : Chip) (e : Nat) {v : Nat} (hv : v < 2 ^ 8) : (c.pairResult e v).get (isleAt e) Isle.result = v ∧
    (c.pairResult e v).get (isleAt (e + 1)) Isle.result = v :=
  ⟨(get_put_other _ (isle_at_ne (by omega) (by decide) (by decide))).trans (get_put_of_lt _ _ (by decide) hv),
    get_put_of_lt _ _ (by decide) hv⟩

theorem pairResult_kept (c : Chip) (e v q : Nat) {f : Field} (hf : f.first < 4) : (c.pairResult e v).get (isleAt q) f = c.get (isleAt q) f := by
  have hput : ∀ (d : Chip) (r : Nat), (d.put (isleAt r) Isle.result v).get (isleAt q) f = d.get (isleAt q) f := fun d r =>
    get_put_other d (by
      simp only [Field.at_eq, Isle.result, Field.one, isleAt, blockAddr]
      omega)
  exact (hput _ _).trans (hput _ _)

/-! ### A start test that fails (R341) -/

/-- Slice `r` after a start test that has failed, stopped with a cause. -/
def startFailed (c : Chip) (r cause : Nat) : Chip := (c.latchIsle r cause).put (isleAt r) Isle.result 4

theorem latchIsle_writes {c : Chip} {r : Nat} (h : c.isleRuns r = false) (cause : Nat) :
    c.Writes (fun a => a = isleAt r ∨ spaceOf a = 10) (c.latchIsle r cause) := by
  have hat : ∀ f : Field, f.first = 0 → f.at (isleAt r) 0 = isleAt r := fun f hf => by rw [Field.at_eq, hf, Nat.zero_mul, Nat.add_zero]
  unfold latchIsle
  rw [if_neg (by rw [h]; decide)]
  exact .ite (fun _ => .refl _ c) (fun _ => (((Writes.refl _ c).put _ (.inl (hat Isle.latched rfl))).put _
    (.inl (hat Isle.stop_cause rfl))).record _ _ _ _ _ _ (fun _ h => .inr h))

theorem latchIsle_get {c : Chip} {r : Nat} (hr : r < 8) (h : c.isleRuns r = false) {cause : Nat} (hcause : cause < 2 ^ 8) :
    (c.latchIsle r cause).get (isleAt r) Isle.stop_cause = cause ∧ (c.latchIsle r cause).isleRuns r = false := by
  unfold latchIsle
  rw [if_neg (by rw [h]; decide)]
  split
  · next hl =>
    simp only [Bool.and_eq_true, beq_iff_eq] at hl
    exact ⟨hl.2, h⟩
  · have hrec : ∀ f : Field, f.first < 65536 → ∀ e : Chip, (e.record 83 r 3 r [cause] []).get (isleAt r) f = e.get (isleAt r) f := fun f hf e =>
      (WordsBut.record (P := recorderWord) e _ _ _ _ _ _ (fun _ h => h)).get (not_recorder_isle (by omega) (by omega))
    refine ⟨(hrec _ (by decide) _).trans (get_put_of_lt _ _ (by decide) hcause), ?_⟩
    rw [isleRuns, flag, hrec _ (by decide), get_put_clear _ _ _ (by decide), get_put_clear _ _ _ (by decide)]
    exact h

theorem startFailed_get {c : Chip} {r : Nat} (hr : r < 8) (h : c.isleRuns r = false) {cause : Nat} (hcause : cause < 2 ^ 8) :
    (c.startFailed r cause).get (isleAt r) Isle.stop_cause = cause ∧ (c.startFailed r cause).get (isleAt r) Isle.result = 4 ∧
    (c.startFailed r cause).isleRuns r = false := by
  obtain ⟨hget, hrun⟩ := latchIsle_get hr h hcause
  refine ⟨(get_put_clear _ _ _ (by decide)).trans hget, get_put_of_lt _ _ (by decide) (by decide), ?_⟩
  rw [isleRuns, flag, startFailed, get_put_clear _ _ _ (by decide)]
  exact hrun

theorem startFailed_other {c : Chip} {r q : Nat} (hq : q < 8) (hqr : q ≠ r) (h : c.isleRuns r = false) (cause : Nat) {f : Field}
    (hf : f.first < 65536) : (c.startFailed r cause).get (isleAt q) f = c.get (isleAt q) f := by
  refine (get_put_other _ (isle_at_ne hqr hf (by decide))).trans ((latchIsle_writes h cause).get ?_)
  have hat : f.at (isleAt q) 0 = isleAt q + f.first := by rw [Field.at_eq]; omega
  rw [hat]
  simp only [isleAt, blockAddr, spaceOf]
  omega

theorem startFailed_safe {c : Chip} {r : Nat} (h : c.isleRuns r = false) (cause : Nat) : (c.startFailed r cause).safe = c.safe :=
  (latchIsle_writes h cause).safe

/-! ### The commands of a slice (R372, R373) -/

/-- The counts of the functions of slice `r`, cleared. -/
def countsCleared (c : Chip) (r : Nat) (l : List Nat) : Chip :=
  c.each l (fun c j => (c.putI (isleAt r) Isle.trips j 0).putI (isleAt r) Isle.discs j 0)

/-- Both counts of function `j` are zero. -/
def noCounts (c : Chip) (r j : Nat) : Prop := c.getI (isleAt r) Isle.trips j = 0 ∧ c.getI (isleAt r) Isle.discs j = 0

theorem clearOne_counts (c : Chip) (r x j : Nat) (h : j = x ∨ c.noCounts r j) :
    ((c.putI (isleAt r) Isle.trips x 0).putI (isleAt r) Isle.discs x 0).noCounts r j := by
  by_cases hj : j = x
  · subst hj
    exact ⟨(getI_putI_bits _ _ _ _ (f := Isle.discs) (g := Isle.trips) (by decide) rfl).trans (getI_putI_of_lt c _ _ (by decide) (by decide)),
      getI_putI_of_lt _ _ _ (by decide) (by decide)⟩
  · obtain ⟨h1, h2⟩ := h.resolve_left hj
    have hne : ∀ (f g : Field), f.first = g.first → f.stride = 1 → g.stride = 1 → f.at (isleAt r) j ≠ g.at (isleAt r) x := fun f g hf hs hs' =>
      Field.at_ne (by rw [hf, hs, hs']; omega)
    exact ⟨(getI_putI_other _ (hne Isle.trips Isle.discs rfl rfl rfl)).trans ((getI_putI_other _ (hne Isle.trips Isle.trips rfl rfl rfl)).trans h1),
      (getI_putI_other _ (hne Isle.discs Isle.discs rfl rfl rfl)).trans ((getI_putI_other _ (hne Isle.discs Isle.trips rfl rfl rfl)).trans h2)⟩

theorem countsCleared_zero (r : Nat) (l : List Nat) (j : Nat) : ∀ c : Chip, j ∈ l ∨ c.noCounts r j → (c.countsCleared r l).noCounts r j := by
  induction l with
  | nil => exact fun c h => h.resolve_left List.not_mem_nil
  | cons x l ih =>
    intro c h
    refine ih _ ?_
    by_cases hl : j ∈ l
    · exact .inl hl
    · refine .inr (clearOne_counts c r x j ?_)
      rcases h with h | h
      · exact .inl ((List.mem_cons.1 h).resolve_right hl)
      · exact .inr h

/-- The chip once the counts of slice `r` have been cleared. -/
def isleCleared (c : Chip) (r : Nat) : Chip :=
  (((((((c.countsCleared r (List.range 8)).put (isleAt r) Isle.xcmp_diff 0).put (isleAt r) Isle.crc_errors 0).put (isleAt r) Isle.seq_errors
    0).put (isleAt r) Isle.timeouts 0).put (isleAt r) Isle.jitter_errors 0).put (isleAt r) Isle.last_cmd 1).put (isleAt r) Isle.result 2

theorem isleCleared_regs (c : Chip) (r : Nat) : c.RegsOnly (c.isleCleared r) := by
  have heach : c.RegsOnly (c.countsCleared r (List.range 8)) :=
    each_rel (R := RegsOnly) RegsOnly.refl (fun a b d ⟨rg, h⟩ ⟨rg', h'⟩ => ⟨rg', by rw [h', h]⟩) _
      (fun e j _ => ((RegsOnly.refl e).putI _ _ _ _).putI _ _ _ _) c
  exact ((((((heach.put _ _ _).put _ _ _).put _ _ _).put _ _ _).put _ _ _).put _ _ _).put _ _ _

theorem isleCleared_get (c : Chip) (r : Nat) :
    (c.isleCleared r).get (isleAt r) Isle.crc_errors = 0 ∧ (c.isleCleared r).get (isleAt r) Isle.seq_errors = 0 ∧
    (c.isleCleared r).get (isleAt r) Isle.timeouts = 0 ∧ (c.isleCleared r).get (isleAt r) Isle.jitter_errors = 0 ∧
    (c.isleCleared r).get (isleAt r) Isle.xcmp_diff = 0 ∧ (c.isleCleared r).get (isleAt r) Isle.result = 2 := by
  have hself : ∀ (e : Chip) (f : Field), f.sound = true → (e.put (isleAt r) f 0).get (isleAt r) f = 0 := fun e f h =>
    get_put_of_lt _ _ h (Nat.two_pow_pos _)
  unfold isleCleared
  generalize c.countsCleared r (List.range 8) = d
  refine ⟨?_, ?_, ?_, ?_, ?_, get_put_of_lt _ _ (by decide) (by decide)⟩
  · rw [get_put_clear _ _ _ (by decide), get_put_clear _ _ _ (by decide), get_put_clear _ _ _ (by decide), get_put_clear _ _ _ (by decide),
      get_put_clear _ _ _ (by decide), hself _ _ (by decide)]
  · rw [get_put_clear _ _ _ (by decide), get_put_clear _ _ _ (by decide), get_put_clear _ _ _ (by decide), get_put_clear _ _ _ (by decide),
      hself _ _ (by decide)]
  · rw [get_put_clear _ _ _ (by decide), get_put_clear _ _ _ (by decide), get_put_clear _ _ _ (by decide), hself _ _ (by decide)]
  · rw [get_put_clear _ _ _ (by decide), get_put_clear _ _ _ (by decide), hself _ _ (by decide)]
  · rw [get_put_clear _ _ _ (by decide), get_put_clear _ _ _ (by decide), get_put_clear _ _ _ (by decide), get_put_clear _ _ _ (by decide),
      get_put_clear _ _ _ (by decide), get_put_clear _ _ _ (by decide), hself _ _ (by decide)]

theorem isleCleared_counts (c : Chip) (r : Nat) {j : Nat} (hj : j < 8) : (c.isleCleared r).noCounts r j := by
  have hput : ∀ (e : Chip) (f : Field) (v : Nat), 0x14 ≤ f.first → e.noCounts r j → (e.put (isleAt r) f v).noCounts r j := fun e f v hf h =>
    ⟨(getI_put_other e (Field.at_ne (by simp only [Isle.trips, Field.many]; omega))).trans h.1,
      (getI_put_other e (Field.at_ne (by simp only [Isle.discs, Field.many]; omega))).trans h.2⟩
  unfold isleCleared
  exact hput _ _ _ (by decide) (hput _ _ _ (by decide) (hput _ _ _ (by decide) (hput _ _ _ (by decide) (hput _ _ _ (by decide)
    (hput _ _ _ (by decide) (hput _ _ _ (by decide) (countsCleared_zero r _ j c (.inl (List.mem_range.2 hj)))))))))

end Chip

section Settled

variable {s : State}

/-- A stop clears running and holds its cause (R340). -/
theorem sliceStopped_stops (hs : Shaped s) {r : Fin 8} {cause : Fin 9} (hrun : s.chip.isleRuns r = true)
    (hcc : ∀ f ∈ s.chip.fnsOf r, f.outCc < 16 ∨ f.outCc = 0xFF) (hcause : cause ≠ 0) :
    ∃ t, exec (.sliceStopped r cause) s = .next t ∧ t.chip.isleRuns r = false ∧ t.chip.get (isleAt r) Isle.stop_cause = cause.val ∧
      t.chip.flag (isleAt r) Isle.latched = true ∧ t.chip.flag (isleAt r) Isle.xlink_ok = false ∧ (t.chip.isle r).out = none ∧
      StoresKept s t := by
  obtain ⟨h1, h2, h3, h4, h5⟩ := Chip.stopIsle_stopped hrun hs.sized.isles r.isLt hcc (cause := cause.val) (by omega)
  have hne : ¬ cause.val = 0 := fun h => hcause (Fin.ext h)
  exact ⟨_, chipOnly_to s (if_neg hne), h1, h2, h3, h4, h5, .chip s _⟩

section StartTest

variable {k : Fin 4} (he : s.chip.fitted (2 * k) = true) (ho : s.chip.fitted (2 * k + 1) = true) (hphase : 3 ≤ s.chip.phase)
  (hre : s.chip.get (isleAt (2 * k)) Isle.result = 1)

include he ho hphase hre

theorem startTest_asked : ¬ (!s.chip.fitted (2 * k) || !s.chip.fitted (2 * k + 1) || decide (s.chip.phase < 3) ||
    !((s.chip.get (isleAt (2 * k)) Isle.result == 1 || s.chip.get (isleAt (2 * k + 1)) Isle.result == 1) ||
      (!s.chip.isleRuns (2 * k) && !s.chip.isleRuns (2 * k + 1) && !s.chip.flag (isleAt (2 * k)) Isle.latched &&
        !s.chip.flag (isleAt (2 * k + 1)) Isle.latched))) = true := by
  rw [he, ho, hre, decide_eq_false (by omega)]
  simp

/-- A start test that both slices pass starts them. -/
theorem startTestDone_passed (hpass : ((true && !s.chip.isleHeld (2 * k)) && (true && !s.chip.isleHeld (2 * k + 1))) = true) :
    exec (.startTestDone k true true) s = .next { s with chip := (s.chip.pairStarted (2 * k)).pairResult (2 * k) 2 } := by
  refine chipOnly_to s ((if_neg (startTest_asked he ho hphase hre)).trans ((if_pos hpass).trans ?_))
  rw [hre]
  rfl

/-- A start test that a slice fails stops both, each with its cause. -/
theorem startTestDone_failed {okEven okOdd : Bool}
    (hfail : ¬ ((okEven && !s.chip.isleHeld (2 * k)) && (okOdd && !s.chip.isleHeld (2 * k + 1))) = true) :
    exec (.startTestDone k okEven okOdd) s =
      .next { s with chip := (s.chip.startFailed (2 * k) (if (okEven && !s.chip.isleHeld (2 * k)) = true then 7 else 2)).startFailed (2 * k + 1) (if (okOdd && !s.chip.isleHeld (2 * k + 1)) = true then 7 else 2) } := by
  refine chipOnly_to s ((if_neg (startTest_asked he ho hphase hre)).trans ((if_neg hfail).trans ?_))
  rw [hre]
  rfl

theorem startTest_starts (hhe : s.chip.isleHeld (2 * k) = false) (hho : s.chip.isleHeld (2 * k + 1) = false) :
    ∃ t, exec (.startTestDone k true true) s = .next t ∧ t.chip.isleRuns (2 * k) = true ∧ t.chip.isleRuns (2 * k + 1) = true ∧
      t.chip.get (isleAt (2 * k)) Isle.result = 2 ∧ t.chip.get (isleAt (2 * k + 1)) Isle.result = 2 ∧
      t.chip.get (isleAt (2 * k)) Isle.cycles = 0 ∧ StoresKept s t := by
  obtain ⟨heven, hodd, hcycles⟩ := s.chip.pairStarted_get (e := 2 * k.val) (by omega)
  obtain ⟨h1, h2⟩ := (s.chip.pairStarted (2 * k)).pairResult_get (2 * k) (v := 2) (by decide)
  have hkept : ∀ (q : Nat) (f : Field), f.first < 4 → ((s.chip.pairStarted (2 * k)).pairResult (2 * k) 2).get (isleAt q) f =
      (s.chip.pairStarted (2 * k)).get (isleAt q) f := fun q f hf => Chip.pairResult_kept _ _ _ _ hf
  exact ⟨_, startTestDone_passed he ho hphase hre (by rw [hhe, hho]; rfl), flag_of_value ((hkept _ _ (by decide)).trans heven),
    flag_of_value ((hkept _ _ (by decide)).trans hodd), h1, h2, (hkept _ _ (by decide)).trans hcycles, .chip s _⟩

variable (hrune : s.chip.isleRuns (2 * k) = false) (hruno : s.chip.isleRuns (2 * k + 1) = false)

include hrune hruno

theorem startTest_stops {okEven okOdd : Bool} (hbad : okEven = false ∨ s.chip.isleHeld (2 * k) = true) :
    ∃ t, exec (.startTestDone k okEven okOdd) s = .next t ∧ t.chip.get (isleAt (2 * k)) Isle.stop_cause = 2 ∧
      t.chip.get (isleAt (2 * k)) Isle.result = 4 ∧ t.chip.get (isleAt (2 * k + 1)) Isle.result = 4 ∧
      t.chip.isleRuns (2 * k) = false ∧ t.chip.isleRuns (2 * k + 1) = false ∧ t.chip.safe = s.chip.safe ∧ StoresKept s t := by
  have hnot : (okEven && !s.chip.isleHeld (2 * k)) = false := by rcases hbad with h | h <;> simp [h]
  have hstep := startTestDone_failed he ho hphase hre (okEven := okEven) (okOdd := okOdd) (by rw [hnot]; simp)
  rw [hnot, if_neg Bool.false_ne_true] at hstep
  have hcause : (if (okOdd && !s.chip.isleHeld (2 * k + 1)) = true then 7 else 2) < 2 ^ 8 := by split <;> decide
  generalize (if (okOdd && !s.chip.isleHeld (2 * k + 1)) = true then 7 else 2) = cause at hstep hcause
  obtain ⟨he1, he2, he3⟩ := Chip.startFailed_get (r := 2 * k.val) (by omega) hrune (cause := 2) (by decide)
  have hruno' : (s.chip.startFailed (2 * k) 2).isleRuns (2 * k + 1) = false := by
    rw [Chip.isleRuns, Chip.flag, Chip.startFailed_other (by omega) (by omega) hrune 2 (by decide)]
    exact hruno
  obtain ⟨ho1, ho2, ho3⟩ := Chip.startFailed_get (r := 2 * k.val + 1) (by omega) hruno' hcause
  have heven : ∀ f : Field, f.first < 65536 → ((s.chip.startFailed (2 * k) 2).startFailed (2 * k + 1) cause).get (isleAt (2 * k)) f =
      (s.chip.startFailed (2 * k) 2).get (isleAt (2 * k)) f := fun f hf => Chip.startFailed_other (by omega) (by omega) hruno' cause hf
  refine ⟨_, hstep, (heven _ (by decide)).trans he1, (heven _ (by decide)).trans he2, ho2, ?_, ho3,
    (Chip.startFailed_safe hruno' cause).trans (Chip.startFailed_safe hrune 2), .chip s _⟩
  rw [Chip.isleRuns, Chip.flag, heven _ (by decide)]
  exact he3

end StartTest

/-! ### Commands -/

theorem mate_pair (r : Nat) : (r = r / 2 * 2 ∧ mate r = r / 2 * 2 + 1) ∨ (r = r / 2 * 2 + 1 ∧ mate r = r / 2 * 2) := by
  unfold mate
  split <;> omega

/-- The words of a pair once a restart has been asked for at slice `r`. -/
def Chip.restartAsked (c : Chip) (r : Nat) : Chip :=
  ((c.put (isleAt (r / 2 * 2)) Isle.result 1).put (isleAt (r / 2 * 2 + 1)) Isle.result 1).put (isleAt r) Isle.last_cmd 0

theorem restartAsked_get (c : Chip) (r : Nat) : (c.restartAsked r).get (isleAt r) Isle.result = 1 ∧
    (c.restartAsked r).get (isleAt (mate r)) Isle.result = 1 ∧ (c.restartAsked r).get (isleAt r) Isle.last_cmd = 0 := by
  have hpair : ∀ q, q = r / 2 * 2 ∨ q = r / 2 * 2 + 1 → (c.restartAsked r).get (isleAt q) Isle.result = 1 := by
    intro q hq
    have hcmd : (c.restartAsked r).get (isleAt q) Isle.result =
        (c.pairResult (r / 2 * 2) 1).get (isleAt q) Isle.result := by
      by_cases hqr : q = r
      · subst hqr
        exact Chip.get_put_clear _ _ _ (by decide)
      · exact Chip.get_put_other _ (Chip.isle_at_ne hqr (by decide) (by decide))
    obtain ⟨h1, h2⟩ := c.pairResult_get (r / 2 * 2) (v := 1) (by decide)
    rw [hcmd]
    rcases hq with rfl | rfl
    · exact h1
    · exact h2
  obtain ⟨h1, h2⟩ | ⟨h1, h2⟩ := mate_pair r
  · exact ⟨hpair r (.inl h1), hpair _ (.inr h2), Chip.get_put_of_lt _ _ (by decide) (by decide)⟩
  · exact ⟨hpair r (.inr h1), hpair _ (.inl h2), Chip.get_put_of_lt _ _ (by decide) (by decide)⟩

theorem sliceRestart_roleless {session : Fin 16} {r : Fin 8} (h : s.chip.roleIn session [3] = false) : exec (.sliceRestart session r) s = .next s :=
  chipOnly_to s (if_neg (by rw [h]; decide))

theorem slice_closed {session : Fin 16} {r : Fin 8} (h : s.chip.opens r = false) :
    exec (.sliceRestart session r) s = .next s ∧ exec (.clearCounts r) s = .next s := by
  have hclosed : (!s.chip.opens r) = true := by rw [h]; rfl
  refine ⟨chipOnly_to s (d := s.chip) ?_, chipOnly_to s (d := s.chip) (if_pos hclosed)⟩
  split
  · exact if_pos hclosed
  · rfl

/-- The restart command asks both slices for a start test (R373). -/
theorem sliceRestart_asks {session : Fin 16} {r : Fin 8} (hrole : s.chip.roleIn session [3] = true) (hopen : s.chip.opens r = true)
    (hres : s.chip.get (isleAt r) Isle.result ≠ 1) : ∃ t, exec (.sliceRestart session r) s = .next t ∧
      t.chip.get (isleAt r) Isle.result = 1 ∧ t.chip.get (isleAt (mate r)) Isle.result = 1 ∧
      t.chip.get (isleAt r) Isle.last_cmd = 0 ∧ StoresKept s t := by
  have hstep : ∃ c : Chip, exec (.sliceRestart session r) s = .next { s with chip := c.restartAsked r } :=
    ⟨_, chipOnly_to s ((if_pos hrole).trans ((if_neg (by rw [hopen]; decide)).trans (if_neg hres)))⟩
  obtain ⟨c, hc⟩ := hstep
  obtain ⟨h1, h2, h3⟩ := restartAsked_get c r
  exact ⟨_, hc, h1, h2, h3, .chip s _⟩

/-- clear_counts clears the counts (R372). -/
theorem clearCounts_clears {r : Fin 8} (hopen : s.chip.opens r = true) (hres : s.chip.get (isleAt r) Isle.result ≠ 1) :
    ∃ t, exec (.clearCounts r) s = .next t ∧
      (∀ j < 8, t.chip.getI (isleAt r) Isle.trips j = 0 ∧ t.chip.getI (isleAt r) Isle.discs j = 0) ∧
      t.chip.get (isleAt r) Isle.crc_errors = 0 ∧ t.chip.get (isleAt r) Isle.seq_errors = 0 ∧
      t.chip.get (isleAt r) Isle.timeouts = 0 ∧ t.chip.get (isleAt r) Isle.jitter_errors = 0 ∧
      t.chip.get (isleAt r) Isle.xcmp_diff = 0 ∧ t.chip.get (isleAt r) Isle.result = 2 ∧
      t = { s with chip := { s.chip with regs := t.chip.regs } } := by
  have hstep : exec (.clearCounts r) s = .next { s with chip := s.chip.isleCleared r } :=
    chipOnly_to s ((if_neg (by rw [hopen]; decide)).trans (if_neg hres))
  obtain ⟨h1, h2, h3, h4, h5, h6⟩ := s.chip.isleCleared_get r
  exact ⟨_, hstep, fun j hj => s.chip.isleCleared_counts r hj, h1, h2, h3, h4, h5, h6, (s.chip.isleCleared_regs r).state⟩

end Settled

/-- Settles O24: stops, starts and commands of a safety slice. -/
theorem sliceStopsAndStarts : Obligations.SliceStopsAndStarts := by
  intro s hs
  refine ⟨fun r cause hrun hcc hcause => sliceStopped_stops hs hrun hcc hcause, fun k he ho hphase hre _ hrune hruno =>
    ⟨startTest_starts he ho hphase hre, fun okEven okOdd hbad => startTest_stops he ho hphase hre hrune hruno hbad⟩,
    fun session r => ⟨sliceRestart_roleless, slice_closed, fun hrole hopen hres _ => sliceRestart_asks hrole hopen hres⟩,
    fun r hopen hres => clearCounts_clears hopen hres⟩

end Sys2Proof.Machine
end

section
/-! SUPPORT. O23: the cycle of a safety slice. -/

namespace Sys2Proof.Machine

/-! ### What leaves the cycle of a slice (R336) -/

/-- What a slice holds of its cycle: the cycles without a message, its start, and whether its outputs and its message are done. -/
def IsleSt.cycle (h : IsleSt) : Nat × Nat × Bool × Bool := (h.miss, h.cycleAt, h.outDone, h.msgDone)

/-- `d` is `c` as far as the running cycle of slice `r` goes. -/
structure Chip.CycleKept (r : Nat) (c d : Chip) : Prop where
  cycles : d.get (isleAt r) Isle.cycles = c.get (isleAt r) Isle.cycles
  cycle : (d.isle r).cycle = (c.isle r).cycle
  fresh : (c.isle r).fresh = false → (d.isle r).fresh = false
  fns : ∀ q, d.fnsOf q = c.fnsOf q

/-- The words that the cycle and the functions of a slice hang on. -/
def cycleWord (r a : Nat) : Prop := a = Isle.cycles.at (isleAt r) 0 ∨ a = Pair.position.at pairAt 0

namespace Chip.CycleKept

variable {r : Nat} {c d e : Chip}

theorem refl (r : Nat) (c : Chip) : c.CycleKept r c := ⟨rfl, rfl, id, fun _ => rfl⟩

theorem trans (h : c.CycleKept r d) (k : d.CycleKept r e) : c.CycleKept r e :=
  ⟨k.cycles.trans h.cycles, k.cycle.trans h.cycle, fun hf => k.fresh (h.fresh hf), fun q => (k.fns q).trans (h.fns q)⟩

theorem of_parts {P : Nat → Prop} (hw : c.WordsBut P d) (hP : ∀ a, cycleWord r a → ¬ P a) (hfns : d.safe.fns = c.safe.fns)
    (hcycle : (d.isle r).cycle = (c.isle r).cycle) (hfresh : (c.isle r).fresh = false → (d.isle r).fresh = false) : c.CycleKept r d :=
  ⟨hw.get (hP _ (.inl rfl)), hcycle, hfresh, fnsOf_congr hfns (hw.get (hP _ (.inr rfl)))⟩

/-- What leaves the safety state and those words. -/
theorem of_safe {P : Nat → Prop} (hw : c.WordsBut P d) (hP : ∀ a, cycleWord r a → ¬ P a) (hs : d.safe = c.safe) : c.CycleKept r d :=
  .of_parts hw hP (by rw [hs]) (by rw [isle_congr hs]) (fun h => by rw [isle_congr hs]; exact h)

theorem of_regs (h : d.regs = c.regs) (hfns : d.safe.fns = c.safe.fns) (hcycle : (d.isle r).cycle = (c.isle r).cycle)
    (hfresh : (c.isle r).fresh = false → (d.isle r).fresh = false) : c.CycleKept r d :=
  .of_parts (P := fun _ => False) (.of_regs h) (fun _ _ h => h) hfns hcycle hfresh

theorem of_fns {P : Nat → Prop} (h : c.FnMoves P d) (hP : ∀ a, cycleWord r a → ¬ P a) : c.CycleKept r d :=
  .of_parts h.words hP h.fns.1 (h.isle_kept r IsleSt.cycle (fun _ _ => rfl)) (fun hf => (h.isle_kept r (·.fresh) (fun _ _ => rfl)).trans hf)

theorem of_writes {P : Nat → Prop} (h : c.Writes P d) (hP : ∀ a, cycleWord r a → ¬ P a) : c.CycleKept r d := .of_safe h.words hP h.safe

theorem setIsle (c : Chip) (r q : Nat) {f : IsleSt → IsleSt} (h : ∀ x, (f x).cycle = x.cycle) (hfresh : ∀ x, x.fresh = false → (f x).fresh = false) :
    c.CycleKept r (c.setIsle q f) := by
  refine .of_regs rfl rfl (isle_setIsle_kept c q r IsleSt.cycle h) (fun hf => ?_)
  show (nth {} (upd c.safe.slices q f) r).fresh = false
  rw [nth_upd]
  split
  · next hq => exact hfresh _ (hq.1 ▸ hf)
  · exact hf

theorem ite {b : Prop} [Decidable b] (h : b → c.CycleKept r d) (k : ¬ b → c.CycleKept r e) : c.CycleKept r (if b then d else e) := by
  split
  · next hb => exact h hb
  · next hb => exact k hb

theorem when {b : Bool} {f : Chip → Chip} (h : c.CycleKept r (f c)) : c.CycleKept r (c.when b f) := ite (fun _ => h) (fun _ => refl r c)

theorem each {α : Type} {f : Chip → α → Chip} (l : List α) (k : ∀ e : Chip, c.CycleKept r e → ∀ x ∈ l, e.CycleKept r (f e x)) :
    c.CycleKept r (c.each l f) := by
  have hall : ∀ (l : List α) (e : Chip), (∀ x ∈ l, ∀ e : Chip, c.CycleKept r e → e.CycleKept r (f e x)) → c.CycleKept r e →
      c.CycleKept r (e.each l f) := by
    intro l
    induction l with
    | nil => exact fun e _ h => h
    | cons x l ih => exact fun e hl h => ih _ (fun y hy => hl y (List.mem_cons_of_mem x hy)) (h.trans (hl x List.mem_cons_self e h))
  exact hall l c (fun x hx e he => k e he x hx) (refl r c)

end Chip.CycleKept

theorem cycleWord_at {r a : Nat} (hr : r < 8) (h : cycleWord r a) : a = isleAt r + 1 ∨ a = pairAt := by
  rcases h with rfl | rfl
  · exact .inl (by rw [Field.at_eq]; rfl)
  · exact .inr rfl

/-- Outputs and functions of any slice leave its cycle. -/
theorem cycleWord_isleOut {r q a : Nat} (hr : r < 8) (hq : q < 8) (h : cycleWord r a) : ¬ isleOut q a := by
  rcases cycleWord_at hr h with rfl | rfl
  · exact fun hi => not_isleOut_head (r := q) hr (f := Isle.cycles) (.inl (by decide)) (by decide) (by rw [Field.at_eq]; exact hi)
  · rintro ((h | h) | ⟨h1, h2⟩)
    · exact absurd h (by decide)
    · exact absurd h.1 (by decide)
    · simp only [isleAt, blockAddr, pairAt] at h1 h2
      omega

/-- The head of a slice block and its counts of connections leave its count of cycles. -/
theorem cycleWord_head {r q a o : Nat} (hr : r < 8) (hq : q < 8) (ho : o ≠ 1) (ho' : o < 65536) (h : cycleWord r a) : a ≠ isleAt q + o := by
  rcases cycleWord_at hr h with rfl | rfl
  · simp only [isleAt, blockAddr]
    omega
  · simp only [isleAt, blockAddr, pairAt]
    omega

theorem cycleWord_recorder {r a : Nat} (hr : r < 8) (h : cycleWord r a) : ¬ recorderWord a := by
  rcases cycleWord_at hr h with rfl | rfl
  · simp only [recorderWord, isleAt, blockAddr, spaceOf]
    omega
  · show ¬ spaceOf pairAt = 10
    decide

namespace Chip

variable {r q : Nat} {c : Chip}

theorem record_cycle (c : Chip) (hr : r < 8) (source region severity subject : Nat) (bs ws : List Nat) :
    c.CycleKept r (c.record source region severity subject bs ws) :=
  .of_writes ((Writes.refl recorderWord c).record _ _ _ _ _ _ (fun _ h => h)) (fun _ h => cycleWord_recorder hr h)

theorem put_cycle (c : Chip) (hr : r < 8) (hq : q < 8) {f : Field} {i : Nat} (v : Nat) (hne : f.first + i * f.stride ≠ 1)
    (hlt : f.first + i * f.stride < 65536) : c.CycleKept r (c.putI (isleAt q) f i v) :=
  .of_writes ((Writes.refl (fun a => a = isleAt q + (f.first + i * f.stride)) c).putI v (f.at_eq _ _)) (fun _ h => cycleWord_head hr hq hne hlt h)

theorem setProd_cycle (c : Chip) (r k : Nat) (f : ProdSt → ProdSt) : c.CycleKept r (c.setProd k f) := .of_regs rfl rfl rfl id

/-- A slice that stops leaves the cycle of every slice. -/
theorem stopIsle_cycle (hr : r < 8) (hq : q < 8) (hcc : ∀ f ∈ c.fnsOf q, f.outCc < 16 ∨ f.outCc = 0xFF) (cause : Nat) :
    c.CycleKept r (c.stopIsle q cause) := by
  cases hrun : c.isleRuns q with
  | false =>
    rw [stopIsle_not hrun]
    exact .refl r c
  | true =>
    have hput : ∀ (e : Chip) (f : Field) (v : Nat), f.first = 0 → e.CycleKept r (e.put (isleAt q) f v) := fun e f v hf =>
      put_cycle e hr hq v (by omega) (by omega)
    have hhead : c.CycleKept r (c.stopHead q cause) :=
      (((((hput _ _ _ rfl).trans (hput _ _ _ rfl)).trans (hput _ _ _ rfl)).trans (hput _ _ _ rfl)).trans (.when (hput _ _ _ rfl))).trans
        (.setIsle _ r q (fun _ => rfl) (fun _ _ => rfl))
    exact hhead.trans (.of_fns (stopIsle_moves hrun hq hcc cause) (fun _ h => cycleWord_isleOut hr hq h))

/-! ### Connections -/

theorem putConn_cycle (c : Chip) (hr : r < 8) (hq : q < 8) (k : Nat) (f : ConnSt → ConnSt) : c.CycleKept r (c.putConn q k f) :=
  (CycleKept.setIsle c r q (f := fun h => { h with conns := upd h.conns k f }) (fun _ => rfl) (fun _ h => h)).trans (put_cycle (f := Isle.conn_state) (i := 0) _ hr hq _ (by decide) (by decide))

theorem connErr_cycle (c : Chip) (hr : r < 8) (hq : q < 8) (k i : Nat) {f : Field} (hf : f.first ≠ 1) (hlt : f.first < 65536) :
    c.CycleKept r (c.connErr q k i f) :=
  (put_cycle c hr hq (i := 0) _ (by omega) (by omega)).trans (.setIsle _ r q (fun _ => rfl) (fun _ h => h))

/-- The producer states change beside the slices. -/
theorem prods_cycle {d : Chip} (r : Nat) (h : c.safe = d.safe) (ps : List ProdSt) : c.CycleKept r { c with safe := { d.safe with prods := ps } } := by
  rw [← h]
  exact .of_regs rfl rfl rfl id

theorem connFault_cycle (c : Chip) (hr : r < 8) (hq : q < 8) (k rule : Nat) : c.CycleKept r (c.connFault q k rule) := by
  have hconn : c.CycleKept r (c.putConn q k (fun h => { h with state := 2, passed := 0, data := [] })) := putConn_cycle c hr hq _ _
  unfold connFault
  exact .ite (fun _ => hconn) (fun _ => (hconn.trans (record_cycle _ hr _ _ _ _ _ _)).trans
    (prods_cycle r ((Writes.refl (fun _ => True) _).record _ _ _ _ _ _ (fun _ _ => trivial)).safe _))

theorem connCycle_cycle (c : Chip) (hr : r < 8) (hq : q < 8) (k : ConnCfg) : c.CycleKept r (c.connCycle q k) := by
  have hfault : c.CycleKept r (if (nth {} (c.isle q).conns k.index).state != 2 &&
      decide ((nth {} (c.isle q).conns k.index).rxAt + 100 * k.tExp < c.now) then
      (c.connErr q k.index 2 Isle.timeouts).connFault q k.index 5 else c) :=
    .ite (fun _ => (connErr_cycle c hr hq _ _ (by decide) (by decide)).trans (connFault_cycle _ hr hq _ _)) (fun _ => .refl r c)
  unfold connCycle
  refine hfault.trans ?_
  simp only []
  exact .ite (fun _ => ((record_cycle _ hr _ _ _ _ _ _).trans (.setIsle _ r q (f := fun x => { x with
    conns := upd x.conns k.index (fun y => { y with errs := [0, 0, 0, 0] }) }) (fun _ => rfl) (fun _ h => h))).trans (setProd_cycle _ r _ _))
    (fun _ => .refl r _)

/-! ### Functions -/

/-- The words of outputs and of the functions of any slice. -/
def anyOut (a : Nat) : Prop := ∃ q < 8, isleOut q a

theorem cycleWord_anyOut {a : Nat} (hr : r < 8) (h : cycleWord r a) : ¬ anyOut a := fun ⟨_, hq, hi⟩ => cycleWord_isleOut hr hq h hi

theorem goFn_any (c : Chip) (hq : q < 8) (f : FnCfg) (new cause input : Nat) : c.FnMoves anyOut (c.goFn q f new cause input) :=
  (goFn_moves c q f new cause input).mono (fun _ h => ⟨q, hq, h⟩)

theorem putFn_any (c : Chip) (hq : q < 8) {f : Field} {i : Nat} (v : Nat) (h1 : 4 ≤ f.first + i * f.stride) (h2 : f.first + i * f.stride < 0x15) :
    c.FnMoves anyOut (c.putI (isleAt q) f i v) := (FnMoves.refl _ c).putI v ⟨q, hq, .inr (fnWord_at h1 h2)⟩

theorem recorder_any {a : Nat} (h : spaceOf a = 10) : anyOut a := ⟨0, by decide, recorder_isleOut h⟩

theorem failTest_any (c : Chip) {f : FnCfg} (hf : f.base ≤ 6) (sink : Bool) (test ma : Nat) : c.FnMoves anyOut (c.failTest f sink test ma) := by
  unfold failTest
  exact (((((putFn_any c (by omega) _ (by decide) (by decide)).trans (putFn_any _ (by omega) _ (by decide) (by decide))).record _ _ _ _ _ _
    (fun _ h => recorder_any h)).trans (goFn_any _ (by omega) _ _ _ _)).trans (goFn_any _ (by omega) _ _ _ _)).setSf _ _

theorem settle_any (hq : q < 8) (f : FnCfg) (n : Nat) : ∀ (c : Chip) (v : FnView), c.FnMoves anyOut (c.settle q f v n) := by
  induction n with
  | zero => exact fun c v => .refl _ c
  | succ n ih =>
    intro c v
    rw [settle]
    cases c.nextState q f v with
    | none => exact .refl _ c
    | some x =>
      have hin5 : c.FnMoves anyOut (c.when (x.1 == 5) (·.setFnSt q f.j (fun h => { h with in5 := c.discLate q f }))) :=
        (FnMoves.refl _ c).when ((FnMoves.refl _ c).setFnSt _ _ _)
      exact (hin5.trans (goFn_any _ hq f _ _ _)).trans (ih _ _)

theorem resetPress_any (c : Chip) (q : Nat) (f : FnCfg) : c.FnMoves anyOut (c.resetPress q f).1 := by
  have hset : ∀ k : FnSt → FnSt, c.FnMoves anyOut (c.setFnSt q f.j k) := fun k => (FnMoves.refl _ c).setFnSt _ _ k
  have hrec : ∀ (e : Chip) (b : Bool) (ms : List Nat), e.FnMoves anyOut (e.when b (·.record 87 q 1 f.sf [] ms)) := fun e b ms =>
    (FnMoves.refl anyOut e).when ((FnMoves.refl anyOut e).record _ _ _ _ _ _ (fun _ h => recorder_any h))
  unfold resetPress
  split
  · exact .refl _ c
  · simp only []
    split
    · exact .refl _ c
    split
    · exact hset _
    split
    · exact hset _
    split
    · exact (hset _).trans (hrec _ _ _)
    · exact hset _

theorem watchOutput_any (c : Chip) (q : Nat) {f : FnCfg} (hf : f.base ≤ 6) : c.FnMoves anyOut (c.watchOutput q f) := by
  unfold watchOutput
  simp only []
  split
  · exact .refl _ c
  split
  · exact (FnMoves.refl _ c).setFnSt _ _ _
  · exact (FnMoves.refl _ c).setFnSt _ _ _
  · exact .ite (fun _ => failTest_any c hf _ _ _) (fun _ => .refl _ c)

theorem evalFn_any (c : Chip) (hq : q < 8) {f : FnCfg} (hf : f.base ≤ 6) : c.FnMoves anyOut (c.evalFn q f) := by
  have hdisc : ∀ (e : Chip) (v : Nat), e.FnMoves anyOut (e.putI (isleAt q) Isle.disc f.j v) := fun e v =>
    putFn_any e hq v (by simp only [Isle.disc, Field.many]; omega) (by have := f.j_lt; simp only [Isle.disc, Field.many]; omega)
  unfold evalFn
  exact ((((((FnMoves.refl _ c).setFnSt _ _ _).trans (resetPress_any _ q f)).trans (watchOutput_any _ q hf)).trans (settle_any hq f _ _ _)).when
    ((FnMoves.refl _ _).setFnSt _ _ _)).trans (hdisc _ _)

/-! ### Produced connections -/

theorem fitted_lt (h : c.fitted r = true) : r < 8 := by
  by_contra hr
  have hlt : c.get identAt Ident.fitted < 2 ^ r :=
    Nat.lt_of_lt_of_le (Nat.mod_lt _ (Nat.two_pow_pos _)) (Nat.pow_le_pow_right (by decide) (by
      show Ident.fitted.hi + 1 - Ident.fitted.lo ≤ r
      have : Ident.fitted.hi + 1 - Ident.fitted.lo = 8 := rfl
      omega))
  rw [fitted, getBit, Nat.testBit_lt_two_pow hlt] at h
  exact Bool.false_ne_true h

theorem tongsRefuse_cycle (c : Chip) (hr : r < 8) (p : Nat) {d : Nat} (hd : d < 8) : c.CycleKept r (c.tongsRefuse p d) := by
  unfold tongsRefuse
  refine .ite (fun h => ?_) (fun _ => .refl r c)
  simp only [tongsDown, usesDomain, Bool.and_eq_true] at h
  have hp : p < 8 := fitted_lt h.1.1.1.1.1
  refine .of_writes ((Writes.refl (fun a => a = regionAt p + (0x11 + d)) c).putI _ (by rw [Field.at_eq]; simp [Cross.refused, Field.many]))
    (fun a h he => ?_)
  rcases cycleWord_at hr h with rfl | rfl
  · simp only [isleAt, regionAt, blockAddr] at he
    omega
  · simp only [pairAt, regionAt, blockAddr] at he
    omega

theorem netSend_cycle (c : Chip) (hr : r < 8) (kind : Nat) (bs : List Nat) : c.CycleKept r (c.netSend kind bs) := by
  have hsends := netSend_sends c kind bs
  refine .of_safe hsends.words (fun a h hn => ?_) ?_
  · rcases cycleWord_at hr h with rfl | rfl
    · rcases hn with ⟨-, hb⟩ | hb | hb
      · rw [isleAt, blockOf_blockAddr (by decide) (by decide)] at hb
        exact absurd hb (by decide)
      · simp only [isleAt, blockAddr, Field.at_eq, regionAt, Cross.refused, Field.many] at hb
        omega
      · simp only [isleAt, blockAddr, Field.at_eq, regionAt, Cross.refused, Field.many] at hb
        omega
    · exact absurd (netWord_space hn) (by decide)
  · obtain ⟨rg, cs, n, x, hd⟩ := hsends.frame
    rw [hd]

theorem release_cycle (c : Chip) (hr : r < 8) (k : ConnCfg) (bs : List Nat) : c.CycleKept r (c.release k bs) := by
  unfold release
  exact .ite (fun _ => netSend_cycle c hr _ _) (fun _ => .ite (fun _ => tongsRefuse_cycle c hr _ (by decide)) (fun _ => .of_regs rfl rfl rfl id))

theorem produce_cycle (c : Chip) (hr : r + 1 < 8) (hcc : ∀ f ∈ c.fnsOf r, f.outCc < 16 ∨ f.outCc = 0xFF)
    (hcc' : ∀ f ∈ c.fnsOf (r + 1), f.outCc < 16 ∨ f.outCc = 0xFF) (k : ConnCfg) : c.CycleKept r (c.produce r k) := by
  unfold produce
  refine .ite (fun _ => .refl r c) (fun _ => .ite (fun _ => setProd_cycle c r _ _) (fun _ => .ite (fun _ => ?_) (fun _ => ?_)))
  · have hstop := stopIsle_cycle (r := r) (c := c) (by omega) (by omega) hcc 3
    exact hstop.trans (stopIsle_cycle (by omega) hr (fun f hf => hcc' f (hstop.fns (r + 1) ▸ hf)) 3)
  · exact (setProd_cycle c r _ _).trans (release_cycle _ (by omega) _ _)

end Chip

/-! ### A cycle (R336) -/

/-- A slice at the start of a cycle. -/
def IsleSt.begun (h : IsleSt) (now : Nat) : IsleSt := { h with cycleAt := now, outDone := false, msgDone := false }

/-- A slice that has taken its partner's message for a cycle. -/
def IsleSt.taken (h : IsleSt) : IsleSt := { h with fresh := false, miss := 0 }

/-- The chip of slice `r` with its cycle counted and begun. -/
def Chip.cycleStamped (c : Chip) (r : Nat) : Chip :=
  (c.put (isleAt r) Isle.cycles ((c.get (isleAt r) Isle.cycles + 1) % 2 ^ 32)).setIsle r (·.begun c.now)

/-- The chip of slice `r` with its cycle begun and its partner's message taken. -/
def Chip.cycleBegun (c : Chip) (r : Nat) : Chip := (c.cycleStamped r).setIsle r IsleSt.taken

/-- The connections that slice `r` judges at a cycle. -/
def Chip.connsJudged (c : Chip) (r : Nat) : List ConnCfg :=
  c.safe.conns.filter (fun k => !k.produce && c.ownsSafe k.owner && (c.fnsOf r).any (fun f => f.connSrc == k.index))

/-- Slice `r` after its evaluation in a cycle. -/
def Chip.cycleEvaluated (c : Chip) (r : Nat) (mine : List ConnCfg) : Chip :=
  (c.each mine (fun c k => c.connCycle r k)).each ((c.each mine (fun c k => c.connCycle r k)).fnsOf r) (fun c f => c.evalFn r f)

/-- Slice `r` after a cycle. -/
def Chip.cycleEnded (c : Chip) (r : Nat) (mine : List ConnCfg) : Chip :=
  if r % 2 = 0 then (c.cycleEvaluated r mine).each (c.cycleEvaluated r mine).safe.conns (fun c k => c.produce r k) else c.cycleEvaluated r mine

namespace Chip

variable {r : Nat} {c : Chip}

theorem cycleBegun_isle (c : Chip) (hs : c.safe.slices.length = 8) (hr : r < 8) : (c.cycleBegun r).isle r = ((c.isle r).begun c.now).taken := by
  have hbegun : (c.cycleStamped r).isle r = (c.isle r).begun c.now :=
    isle_setIsle_same (c.put (isleAt r) Isle.cycles ((c.get (isleAt r) Isle.cycles + 1) % 2 ^ 32)) _ hs hr
  rw [← hbegun]
  exact isle_setIsle_same _ _ (by rw [cycleStamped, setIsle_size]; exact hs) hr

theorem cycleBegun_cycles (c : Chip) (r : Nat) :
    (c.cycleBegun r).get (isleAt r) Isle.cycles = (c.get (isleAt r) Isle.cycles + 1) % 2 ^ 32 :=
  get_put_of_lt c _ (by decide) (Nat.mod_lt _ (by decide))

/-- A cycle whose message is there goes on. -/
theorem partnerCheck_fresh {c : Chip} {r : Nat} (hmate : c.flag (isleAt (mate r)) Isle.latched = false) (hfresh : (c.isle r).fresh = true) :
    c.partnerCheck r = c.setIsle r IsleSt.taken := by
  unfold partnerCheck
  rw [if_neg (by rw [hmate]; simp), if_pos hfresh]
  rfl

theorem cycleEnded_kept (hr : r < 8) (hcc : ∀ f ∈ c.fnsOf r, f.outCc < 16 ∨ f.outCc = 0xFF) (mine : List ConnCfg) :
    c.CycleKept r (c.cycleEnded r mine) := by
  have hconns : c.CycleKept r (c.each mine (fun c k => c.connCycle r k)) := .each _ (fun e _ k _ => connCycle_cycle e hr hr k)
  have heval : c.CycleKept r (c.cycleEvaluated r mine) := by
    refine hconns.trans (.each _ (fun e _ f hf => ?_))
    have hbase : f.base ≤ 6 := by
      rw [FnCfg.base, fnsOf_pair hf]
      omega
    exact .of_fns (evalFn_any e hr hbase) (fun _ h => cycleWord_anyOut hr h)
  unfold cycleEnded
  split
  · next heven =>
    refine heval.trans (.each _ (fun e he k _ => ?_))
    have hfns : ∀ q, e.fnsOf q = c.fnsOf q := (heval.trans he).fns
    have hpair : e.fnsOf (r + 1) = e.fnsOf r := by
      simp only [fnsOf, show (r + 1) / 2 = r / 2 from by omega]
    exact produce_cycle e (by omega) (fun f hf => hcc f (hfns r ▸ hf)) (fun f hf => hcc f (hfns r ▸ (hpair ▸ hf))) k
  · exact heval

end Chip

section Cycle

variable {r : Fin 8} {s : State}

theorem safetyCycle_step (hrun : s.chip.isleRuns r = true) (hfresh : (s.chip.isle r).fresh = true) (hs : Shaped s)
    (htime : s.chip.isleTime r 500 = true) (hmate : s.chip.flag (isleAt (mate r)) Isle.latched = false) :
    exec (.safetyCycle r) s = .next { s with chip := (s.chip.cycleBegun r).cycleEnded r (s.chip.connsJudged r) } := by
  have hne : mate r.val ≠ r.val := by
    unfold mate
    split <;> omega
  have hmate' : (s.chip.cycleStamped r).flag (isleAt (mate r)) Isle.latched = false := by
    have hget : (s.chip.cycleStamped r).get (isleAt (mate r)) Isle.latched = s.chip.get (isleAt (mate r)) Isle.latched :=
      Chip.get_put_other _ (Chip.isle_at_ne hne (by decide) (by decide))
    rw [Chip.flag, hget]
    exact hmate
  have hfresh' : ((s.chip.cycleStamped r).isle r).fresh = true :=
    (Chip.isle_setIsle_kept (s.chip.put (isleAt r) Isle.cycles ((s.chip.get (isleAt r) Isle.cycles + 1) % 2 ^ 32)) r r (f := (·.begun s.chip.now))
      (·.fresh) (fun _ => rfl)).trans hfresh
  have hruns : (s.chip.cycleBegun r).isleRuns r = true := by
    have hget : (s.chip.cycleBegun r).get (isleAt r) Isle.running = s.chip.get (isleAt r) Isle.running :=
      Chip.get_put_clear _ _ _ (by decide)
    rw [Chip.isleRuns, Chip.flag, hget]
    exact hrun
  have hcheck : (s.chip.cycleStamped r).partnerCheck r = s.chip.cycleBegun r := Chip.partnerCheck_fresh hmate' hfresh'
  refine chipOnly_to s ((if_neg (by rw [hrun, htime]; decide)).trans ?_)
  show (if !((s.chip.cycleStamped r).partnerCheck r).isleRuns r then (s.chip.cycleStamped r).partnerCheck r
    else ((s.chip.cycleStamped r).partnerCheck r).cycleEnded r (s.chip.connsJudged r)) = _
  rw [hcheck]
  exact if_neg (by rw [hruns]; decide)

/-- A running slice counts its cycle and goes on with its partner's message there (R336, R337). -/
theorem safetyCycle_counts (hs : Shaped s) (hrun : s.chip.isleRuns r = true) (hcc : ∀ f ∈ s.chip.fnsOf r, f.outCc < 16 ∨ f.outCc = 0xFF)
    (hfresh : (s.chip.isle r).fresh = true) (htime : s.chip.isleTime r 500 = true)
    (hmate : s.chip.flag (isleAt (mate r)) Isle.latched = false) : ∃ t, exec (.safetyCycle r) s = .next t ∧
      t.chip.get (isleAt r) Isle.cycles = (s.chip.get (isleAt r) Isle.cycles + 1) % 2 ^ 32 ∧
      (t.chip.isle r).fresh = false ∧ (t.chip.isle r).miss = 0 ∧ (t.chip.isle r).cycleAt = s.chip.now ∧
      (t.chip.isle r).outDone = false ∧ (t.chip.isle r).msgDone = false ∧ StoresKept s t := by
  have hfns : (s.chip.cycleBegun r).fnsOf r = s.chip.fnsOf r := by
    refine Chip.fnsOf_congr (c := s.chip) (d := s.chip.cycleBegun r) rfl ?_ r
    exact Chip.get_put_other _ (fun h => by
      simp only [Field.at_eq, Pair.position, Isle.cycles, Field.one, pairAt, isleAt, blockAddr] at h
      omega)
  have hkept := Chip.cycleEnded_kept (c := s.chip.cycleBegun r) r.isLt (by rw [hfns]; exact hcc) (s.chip.connsJudged r)
  have hisle := s.chip.cycleBegun_isle hs.sized.isles r.isLt
  have hcycle := hkept.cycle
  rw [hisle] at hcycle
  simp only [IsleSt.cycle, IsleSt.begun, IsleSt.taken, Prod.mk.injEq] at hcycle
  obtain ⟨hmiss, hat, hout, hmsg⟩ := hcycle
  exact ⟨_, safetyCycle_step hrun hfresh hs htime hmate, hkept.cycles.trans (s.chip.cycleBegun_cycles r), hkept.fresh (by rw [hisle]; rfl),
    hmiss, hat, hout, hmsg, .chip s _⟩

/-! ### Outputs and messages of a cycle (R336, R337, R355) -/

theorem safetyOutputSet_cuts (hs : Shaped s) (hrun : s.chip.isleRuns r = true) (hcc : ∀ f ∈ s.chip.fnsOf r, f.outCc < 16 ∨ f.outCc = 0xFF)
    (hdone : (s.chip.isle r).outDone = false) (htime : s.chip.isleTime r 400 = true) : ∃ t, exec (.safetyOutputSet r) s = .next t ∧
      (∀ k < 16, t.chip.sys.cutCh.testBit (16 * r + k) = (s.chip.cutMask r).testBit k) ∧
      (∀ k < 2, t.chip.sys.cutAx.testBit (2 * r + k) = (s.chip.cutMask r).testBit (16 + k)) ∧ StoresKept s t ∧
      (t.chip.isle r).outDone = true ∧ t.chip.safe.sfs = s.chip.safe.sfs ∧ ∀ q, q ≠ r.val → t.chip.isle q = s.chip.isle q := by
  have hset : s.chip.SetsOut (s.chip.setSafeOuts r) := Chip.eachOut_sets r.isLt (fun f hf => ⟨Chip.fnsOf_pair hf, hcc f hf⟩) r s.chip
  have hfns : (s.chip.setSafeOuts r).fnsOf r = s.chip.fnsOf r := Chip.fnsOf_congr (by rw [hset.safe]) (hset.getI (by
    rintro (h | h)
    · exact absurd h (by decide)
    · exact absurd h.1 (by decide))) r
  have hstate : ∀ f : FnCfg, (s.chip.setSafeOuts r).sfState r f.j = s.chip.sfState r f.j := fun f => hset.getI (fun h =>
    Chip.not_isleOut_other (r := 8) r.isLt (by omega) (by have := f.j_lt; simp only [Isle.state, Field.many]; omega) (.inl h))
  have hmask : (s.chip.setSafeOuts r).cutMask r = s.chip.cutMask r := by simp only [Chip.cutMask, hfns, hstate]
  have hcuts := Chip.applyCuts_sets (s.chip.setSafeOuts r) r.isLt
  have hshown := Chip.cutShown_writes (s.chip.setSafeOuts r) r
  have hsys : ((s.chip.setSafeOuts r).applyCuts r).sys = (s.chip.setSafeOuts r).cutSys r := hcuts.sys.trans hshown.sys
  have hsafe : ((s.chip.setSafeOuts r).applyCuts r).safe = s.chip.safe := (hcuts.safe.trans hshown.safe).trans hset.safe
  have hisle : ∀ q, ((s.chip.setSafeOuts r).applyCuts r).isle q = s.chip.isle q := Chip.isle_congr hsafe
  refine ⟨_, chipOnly_to s (if_neg (by rw [hrun, hdone, htime]; decide)), fun k hk => ?_, fun k hk => ?_, .chip s _, ?_, ?_, fun q hq => ?_⟩
  · refine (congrArg (fun y : SysSt => y.cutCh.testBit (16 * r + k)) hsys).trans ((testBit_cutBits _ _ _ hk).trans ?_)
    rw [hmask, Nat.testBit_mod_two_pow, decide_eq_true hk, Bool.true_and]
  · refine (congrArg (fun y : SysSt => y.cutAx.testBit (2 * r + k)) hsys).trans ((testBit_cutBits _ _ _ hk).trans ?_)
    rw [hmask, show (4 : Nat) = 2 ^ 2 from rfl, Nat.testBit_mod_two_pow, decide_eq_true hk, Bool.true_and, Nat.testBit_div_two_pow, Nat.add_comm k 16]
  · exact congrArg IsleSt.outDone (Chip.isle_setIsle_same _ _ (by rw [hsafe]; exact hs.sized.isles) r.isLt)
  · show ((s.chip.setSafeOuts r).applyCuts r).safe.sfs = _
    rw [hsafe]
  · exact (Chip.isle_setIsle_other _ _ hq).trans (hisle q)

theorem sliceMessageSend_sends (hs : Shaped s) (hrun : s.chip.isleRuns r = true) (hdone : (s.chip.isle r).msgDone = false)
    (htime : s.chip.isleTime r 450 = true) : ∃ t, exec (.sliceMessageSend r) s = .next t ∧
      (t.chip.isle r).out = some ⟨(s.chip.isle r).ins.map (fun i => (i.g, i.level, i.since)),
        (List.range 8).map (s.chip.sfState r), s.chip.get (isleAt r) Isle.cycles, false⟩ ∧
      (t.chip.isle r).msgDone = true ∧ t = { s with chip := { s.chip with safe := t.chip.safe } } ∧
      ∀ q, q ≠ r.val → t.chip.isle q = s.chip.isle q := by
  have hsame := Chip.isle_setIsle_same s.chip (r := r) (fun h => { h with out := some (s.chip.isleMsg r), msgDone := true }) hs.sized.isles r.isLt
  exact ⟨_, chipOnly_to s (if_neg (by rw [hrun, hdone, htime]; decide)), congrArg IsleSt.out hsame, congrArg IsleSt.msgDone hsame, rfl,
    fun q hq => Chip.isle_setIsle_other _ _ hq⟩

/-! ### The partner's message (R338, R339) -/

/-- A slice that has its partner's message, with a number of disagreements in a row. -/
def IsleSt.given (h : IsleSt) (m : SliceMsg) (run : Nat) : IsleSt := { h with msg := some m, fresh := true, differ := run }

/-- The chip once slice `r` has its partner's message. -/
def Chip.msgTaken (c : Chip) (r : Nat) (m : SliceMsg) (differ : Bool) : Chip :=
  ((((c.setIsle (mate r) (fun h => { h with out := none })).setIsle r (fun h => { h with msg := some m, fresh := true })).put (isleAt r)
    Isle.xlink_ok 1).when differ (·.bump (isleAt r) Isle.xcmp_diff)).setIsle r (fun h => { h with
      differ := if differ then (c.isle r).differ + 1 else 0 })

/-- Do the states in a message differ from the slice's own? -/
def Chip.msgDiffers (c : Chip) (r : Nat) (m : SliceMsg) : Bool := (c.fnsOf r).any (fun f => c.sfState r f.j != nth 0 m.states f.j)

theorem sliceMessageReceive_step (hrun : s.chip.isleRuns r = true) {m : SliceMsg} (hm : (s.chip.isle (mate r)).out = some m) :
    exec (.sliceMessageReceive r) s = .next { s with chip :=
      if 3 ≤ (if s.chip.msgDiffers r m then (s.chip.isle r).differ + 1 else 0) then (s.chip.msgTaken r m (s.chip.msgDiffers r m)).stopIsle r 3
      else (s.chip.msgTaken r m (s.chip.msgDiffers r m)).clockCompare r m.cycles } := by
  refine chipOnly_to s ?_
  rw [hrun, hm]
  rfl

namespace Chip

variable {c : Chip} {r : Nat}

theorem mate_ne {r : Nat} (hr : r < 8) : mate r ≠ r ∧ mate r < 8 := by
  unfold mate
  split <;> omega

theorem msgTaken_isle (hs : c.safe.slices.length = 8) (hr : r < 8) (m : SliceMsg) (differ : Bool) : (c.msgTaken r m differ).isle r =
    (c.isle r).given m (if differ then (c.isle r).differ + 1 else 0) := by
  have hother : (c.setIsle (mate r) (fun h => { h with out := none })).isle r = c.isle r := isle_setIsle_other c _ (mate_ne hr).1.symm
  have hfirst : ((c.setIsle (mate r) (fun h => { h with out := none })).setIsle r (fun h => { h with msg := some m, fresh := true })).isle r =
      { c.isle r with msg := some m, fresh := true } := by
    rw [isle_setIsle_same _ _ (by rw [setIsle_size]; exact hs) hr, hother]
  have hwords : ((((c.setIsle (mate r) (fun h => { h with out := none })).setIsle r (fun h => { h with msg := some m, fresh := true })).put
      (isleAt r) Isle.xlink_ok 1).when differ (·.bump (isleAt r) Isle.xcmp_diff)).safe =
      ((c.setIsle (mate r) (fun h => { h with out := none })).setIsle r (fun h => { h with msg := some m, fresh := true })).safe := by
    cases differ
    · rfl
    · rfl
  have hsame := isle_setIsle_same ((((c.setIsle (mate r) (fun h => { h with out := none })).setIsle r (fun h => { h with
    msg := some m, fresh := true })).put (isleAt r) Isle.xlink_ok 1).when differ (·.bump (isleAt r) Isle.xcmp_diff)) (r := r) (fun h => { h with
      differ := if differ then (c.isle r).differ + 1 else 0 }) (by rw [hwords, setIsle_size, setIsle_size]; exact hs) hr
  rw [isle_congr hwords, hfirst] at hsame
  exact hsame

theorem msgTaken_mate (hs : c.safe.slices.length = 8) (hr : r < 8) (m : SliceMsg) (differ : Bool) :
    ((c.msgTaken r m differ).isle (mate r)).out = none := by
  obtain ⟨hne, hlt⟩ := mate_ne hr
  have hwords : ((((c.setIsle (mate r) (fun h => { h with out := none })).setIsle r (fun h => { h with msg := some m, fresh := true })).put
      (isleAt r) Isle.xlink_ok 1).when differ (·.bump (isleAt r) Isle.xcmp_diff)).safe =
      ((c.setIsle (mate r) (fun h => { h with out := none })).setIsle r (fun h => { h with msg := some m, fresh := true })).safe := by
    cases differ
    · rfl
    · rfl
  rw [msgTaken, isle_setIsle_other _ _ hne, isle_congr hwords, isle_setIsle_other _ _ hne, isle_setIsle_same _ _ hs hlt]

theorem msgTaken_writes (c : Chip) (r : Nat) (m : SliceMsg) (differ : Bool) :
    ∃ rg sf, c.msgTaken r m differ = { c with regs := rg, safe := { c.safe with slices := sf } } ∧
      c.WordsBut (fun a => a = Isle.xlink_ok.at (isleAt r) 0 ∨ a = Isle.xcmp_diff.at (isleAt r) 0) (c.msgTaken r m differ) := by
  have hx : c.WordsBut (fun a => a = Isle.xlink_ok.at (isleAt r) 0 ∨ a = Isle.xcmp_diff.at (isleAt r) 0) (((c.setIsle (mate r) (fun h => { h with out := none })).setIsle r
      (fun h => { h with msg := some m, fresh := true })).put (isleAt r) Isle.xlink_ok 1) :=
    (WordsBut.of_regs rfl).trans (.put (f := Isle.xlink_ok) _ _ (.inl rfl))
  have hcount : (((c.setIsle (mate r) (fun h => { h with out := none })).setIsle r (fun h => { h with msg := some m, fresh := true })).put
      (isleAt r) Isle.xlink_ok 1).WordsBut (fun a => a = Isle.xlink_ok.at (isleAt r) 0 ∨ a = Isle.xcmp_diff.at (isleAt r) 0) ((((c.setIsle (mate r) (fun h => { h with
        out := none })).setIsle r (fun h => { h with msg := some m, fresh := true })).put (isleAt r) Isle.xlink_ok 1).bump (isleAt r)
          Isle.xcmp_diff) := .put (f := Isle.xcmp_diff) _ _ (.inr rfl)
  cases differ
  · exact ⟨_, _, rfl, hx.trans (.of_regs rfl)⟩
  · exact ⟨_, _, rfl, (hx.trans hcount).trans (.of_regs rfl)⟩

theorem msgTaken_get (c : Chip) (r : Nat) (m : SliceMsg) (differ : Bool) : (c.msgTaken r m differ).get (isleAt r) Isle.xlink_ok = 1 ∧
    (c.msgTaken r m differ).isleRuns r = c.isleRuns r ∧ (c.msgTaken r m differ).get (isleAt r) Isle.cycles = c.get (isleAt r) Isle.cycles := by
  have hbump : ∀ (e : Chip) (f : Field), Isle.xcmp_diff.clear f = true →
      (e.when differ (·.bump (isleAt r) Isle.xcmp_diff)).get (isleAt r) f = e.get (isleAt r) f := fun e f hf => by
    cases differ
    · rfl
    · exact get_bump_clear e _ hf
  have hget : ∀ f, Isle.xcmp_diff.clear f = true → (c.msgTaken r m differ).get (isleAt r) f = (((c.setIsle (mate r) (fun h => { h with
      out := none })).setIsle r (fun h => { h with msg := some m, fresh := true })).put (isleAt r) Isle.xlink_ok 1).get (isleAt r) f :=
    fun f hf => hbump _ f hf
  refine ⟨(hget _ (by decide)).trans (get_put_of_lt _ _ (by decide) (by decide)), ?_, ?_⟩
  · rw [isleRuns, flag, hget _ (by decide), get_put_clear _ _ _ (by decide)]
    rfl
  · rw [hget _ (by decide), get_put_clear _ _ _ (by decide)]
    rfl

/-- The first of a list is in the row that meets a condition, or first behind it. -/
theorem mem_row_first {α : Type} (p : α → Bool) (l : List α) : ∀ e ∈ l.take 1, e ∈ l.takeWhile p ++ (l.dropWhile p).take 1 := by
  intro e he
  cases l with
  | nil => cases he
  | cons x l =>
    obtain rfl : e = x := by simpa using he
    by_cases hx : p e = true
    · rw [List.takeWhile_cons_of_pos hx]
      exact List.mem_append_left _ List.mem_cons_self
    · rw [List.dropWhile_cons_of_neg hx]
      exact List.mem_append_right _ List.mem_cons_self

/-- The differences that the clock comparison still judges. -/
def driftKept (c : Chip) (r : Nat) : List (Nat × Int) :=
  (c.isle r).drift.takeWhile (fun e => decide (tickDiff (c.get (isleAt r) Isle.cycles) e.1 < 1000)) ++
    ((c.isle r).drift.dropWhile (fun e => decide (tickDiff (c.get (isleAt r) Isle.cycles) e.1 < 1000))).take 1

theorem clockCompare_eq (c : Chip) (r theirs : Nat) : c.clockCompare r theirs =
    let d := signed 32 (tickDiff theirs (c.get (isleAt r) Isle.cycles))
    if (c.driftKept r).any (fun e => decide (1 < (d - e.2).natAbs)) then c.stopIsle r 1
    else c.setIsle r (fun h => { h with
      drift := if (c.driftKept r).head?.map (·.2) = some d then c.driftKept r else (c.get (isleAt r) Isle.cycles, d) :: c.driftKept r }) := rfl

theorem driftKept_sub (c : Chip) (r : Nat) : ∀ e ∈ c.driftKept r, e ∈ (c.isle r).drift := by
  intro e he
  rcases List.mem_append.1 he with h | h
  · exact (List.takeWhile_prefix _).subset h
  · exact (List.dropWhile_suffix _).subset (List.mem_of_mem_take h)

theorem driftKept_first (c : Chip) (r : Nat) : ∀ e ∈ (c.isle r).drift.take 1, e ∈ c.driftKept r := mem_row_first _ _

end Chip

end Cycle

section Receive

variable {r : Fin 8} {s : State} (hs : Shaped s) (hrun : s.chip.isleRuns r = true)
  (hcc : ∀ f ∈ s.chip.fnsOf r, f.outCc < 16 ∨ f.outCc = 0xFF) {m : SliceMsg} (hm : (s.chip.isle (mate r)).out = some m)

include hs hrun hcc hm

/-- A slice that stops on its partner's message holds the cause. -/
theorem msgTaken_stops (differ : Bool) {cause : Nat} (hcause : cause < 2 ^ 8) :
    ((s.chip.msgTaken r m differ).stopIsle r cause).isleRuns r = false ∧
    ((s.chip.msgTaken r m differ).stopIsle r cause).get (isleAt r) Isle.stop_cause = cause ∧
    ((s.chip.msgTaken r m differ).stopIsle r cause).flag (isleAt r) Isle.latched = true := by
  obtain ⟨rg, sl, hd, hw⟩ := s.chip.msgTaken_writes r m differ
  have hsize : (s.chip.msgTaken r m differ).safe.slices.length = 8 := by
    unfold Chip.msgTaken
    rw [Chip.setIsle_size]
    cases differ
    · exact (Chip.setIsle_size _ _ _).trans ((Chip.setIsle_size _ _ _).trans hs.sized.isles)
    · exact (Chip.setIsle_size _ _ _).trans ((Chip.setIsle_size _ _ _).trans hs.sized.isles)
  have hfns : (s.chip.msgTaken r m differ).fnsOf r = s.chip.fnsOf r := by
    refine Chip.fnsOf_congr (by rw [hd]) (hw.get (fun h => ?_)) r
    simp only [Field.at_eq, Pair.position, Isle.xlink_ok, Isle.xcmp_diff, Field.one, pairAt, isleAt, blockAddr] at h
    omega
  obtain ⟨h1, h2, h3, -, -⟩ := Chip.stopIsle_stopped ((s.chip.msgTaken_get r m differ).2.1.trans hrun) hsize r.isLt (by rw [hfns]; exact hcc) hcause
  exact ⟨h1, h2, h3⟩

theorem receive_disagrees (hdiff : ∃ f ∈ s.chip.fnsOf r, s.chip.sfState r f.j ≠ nth 0 m.states f.j) (hrow : 2 ≤ (s.chip.isle r).differ) :
    ∃ t, exec (.sliceMessageReceive r) s = .next t ∧ t.chip.isleRuns r = false ∧ t.chip.get (isleAt r) Isle.stop_cause = 3 ∧
      t.chip.flag (isleAt r) Isle.latched = true ∧ StoresKept s t := by
  have hany : s.chip.msgDiffers r m = true := by simpa [Chip.msgDiffers] using hdiff
  have hstep := sliceMessageReceive_step hrun hm
  rw [hany, if_pos rfl, if_pos (by omega)] at hstep
  obtain ⟨h1, h2, h3⟩ := msgTaken_stops hs hrun hcc hm true (cause := 3) (by decide)
  exact ⟨_, hstep, h1, h2, h3, .chip s _⟩

variable {d : Int} (hd : d = signed 32 (tickDiff m.cycles (s.chip.get (isleAt r) Isle.cycles)))
include hd

theorem receive_drifts (hrow : (s.chip.isle r).differ = 0) (hlate : ∃ e ∈ (s.chip.isle r).drift.take 1, 1 < (d - e.2).natAbs) :
    ∃ t, exec (.sliceMessageReceive r) s = .next t ∧ t.chip.isleRuns r = false ∧ t.chip.get (isleAt r) Isle.stop_cause = 1 ∧ StoresKept s t := by
  have hstep := sliceMessageReceive_step hrun hm
  generalize s.chip.msgDiffers r m = differ at hstep
  rw [if_neg (by rw [hrow]; split <;> omega)] at hstep
  have hisle := s.chip.msgTaken_isle hs.sized.isles r.isLt m differ
  obtain ⟨-, -, hcycles⟩ := s.chip.msgTaken_get r m differ
  obtain ⟨e, he, hgap⟩ := hlate
  have hany : ((s.chip.msgTaken r m differ).driftKept r).any (fun e => decide (1 < (d - e.2).natAbs)) = true := by
    refine List.any_eq_true.2 ⟨e, Chip.driftKept_first _ _ e ?_, decide_eq_true hgap⟩
    rw [hisle]
    exact he
  have hstop : (s.chip.msgTaken r m differ).clockCompare r m.cycles = (s.chip.msgTaken r m differ).stopIsle r 1 := by
    rw [Chip.clockCompare_eq, hcycles, ← hd]
    exact if_pos hany
  rw [hstop] at hstep
  obtain ⟨h1, h2, -⟩ := msgTaken_stops hs hrun hcc hm differ (cause := 1) (by decide)
  exact ⟨_, hstep, h1, h2, .chip s _⟩

theorem receive_agrees (hsame : ∀ f ∈ s.chip.fnsOf r, s.chip.sfState r f.j = nth 0 m.states f.j)
    (hnear : ∀ e ∈ (s.chip.isle r).drift, (d - e.2).natAbs ≤ 1) :
    ∃ t, exec (.sliceMessageReceive r) s = .next t ∧ (t.chip.isle r).msg = some m ∧ (t.chip.isle r).fresh = true ∧
      (t.chip.isle r).differ = 0 ∧ (t.chip.isle r).drift.head?.map (·.2) = some d ∧
      (t.chip.isle (mate r)).out = none ∧ t.chip.get (isleAt r) Isle.xlink_ok = 1 ∧
      t = { s with chip := { s.chip with regs := t.chip.regs, safe := t.chip.safe } } := by
  have hnone : s.chip.msgDiffers r m = false := by simpa [Chip.msgDiffers] using hsame
  have hstep := sliceMessageReceive_step hrun hm
  rw [hnone, if_neg Bool.false_ne_true, if_neg (by decide)] at hstep
  have hisle := s.chip.msgTaken_isle hs.sized.isles r.isLt m false
  obtain ⟨hxlink, -, hcycles⟩ := s.chip.msgTaken_get r m false
  have hany : ((s.chip.msgTaken r m false).driftKept r).any (fun e => decide (1 < (d - e.2).natAbs)) = false := by
    refine List.any_eq_false.2 (fun e he => ?_)
    have hmem := Chip.driftKept_sub _ _ e he
    rw [hisle] at hmem
    have := hnear e hmem
    simp only [decide_eq_true_eq]
    omega
  have hgo : (s.chip.msgTaken r m false).clockCompare r m.cycles = (s.chip.msgTaken r m false).setIsle r (fun h => { h with
      drift := if ((s.chip.msgTaken r m false).driftKept r).head?.map (·.2) = some d then (s.chip.msgTaken r m false).driftKept r
        else (s.chip.get (isleAt r) Isle.cycles, d) :: (s.chip.msgTaken r m false).driftKept r }) := by
    rw [Chip.clockCompare_eq, hcycles, ← hd]
    exact if_neg (by rw [hany]; decide)
  rw [hgo] at hstep
  obtain ⟨rg, sl, hframe, -⟩ := s.chip.msgTaken_writes r m false
  have hsize : (s.chip.msgTaken r m false).safe.slices.length = 8 :=
    (Chip.setIsle_size _ _ _).trans ((Chip.setIsle_size _ _ _).trans ((Chip.setIsle_size _ _ _).trans hs.sized.isles))
  have hset := fun k => Chip.isle_setIsle_same (s.chip.msgTaken r m false) (r := r) k hsize r.isLt
  rw [hisle] at hset
  refine ⟨_, hstep, congrArg IsleSt.msg (hset _), congrArg IsleSt.fresh (hset _), congrArg IsleSt.differ (hset _), ?_, ?_, hxlink, ?_⟩
  · refine (congrArg (fun h : IsleSt => h.drift.head?.map (·.2)) (hset _)).trans ?_
    show (if _ then _ else _ : List (Nat × Int)).head?.map (·.2) = some d
    split
    · next h => exact h
    · rfl
  · refine (congrArg IsleSt.out (Chip.isle_setIsle_other _ _ (Chip.mate_ne r.isLt).1)).trans ?_
    exact s.chip.msgTaken_mate hs.sized.isles r.isLt m false
  · rw [hframe]
    rfl

end Receive

/-- Settles O23: the cycle of a safety slice. -/
theorem sliceCycle : Obligations.SliceCycle := by
  intro r s hs hrun hcc
  exact ⟨fun hfresh htime hmate => safetyCycle_counts hs hrun hcc hfresh htime hmate,
    fun hdone htime => safetyOutputSet_cuts hs hrun hcc hdone htime, fun hdone htime => sliceMessageSend_sends hs hrun hdone htime,
    fun m hm => ⟨fun d hd => ⟨receive_agrees hs hrun hcc hm hd, receive_drifts hs hrun hcc hm hd⟩, receive_disagrees hs hrun hcc hm⟩⟩

end Sys2Proof.Machine
end

section
/-! SUPPORT. O12: the cycle of the block engine. -/

namespace Sys2Proof.Machine

/-- The end of a hold, waiting for the boundary, of a channel whose bit (R108) would stand at bit 29 of the pair block's first word. -/
def farHold : Nat × Nat × Bool := (0, 32 * (pairAt - surveyAt - 8) + 29, false)

/-- A shadow alone whose engine runs, with one queued change and that hold waiting for the boundary. -/
def farHeld : State :=
  let c := State.reset.chip
  let c1 := ((c.put engineAt Engine.state 1).put pairAt Pair.lease_state 6).setEng (fun e => { e with phase := 0, queue := [⟨0, 0, none, none⟩] })
  { State.reset with chip := c1.setSys (fun y => { y with oosNext := [farHold] }) }

/-- The length of the queue and the state of `dormant` after a step. -/
def queueAfter : Out → Nat × Bool
  | .next t => (t.chip.eng.queue.length, t.chip.aon.dormant)
  | _ => (0, false)

set_option maxRecDepth 100000 in
theorem farHeld_keeps_queue : queueAfter (exec .cycleBoundary farHeld) = (1, false) := by decide

/-- Refutes O12: the statement bounds no target of `oosNext`. A hold that ends at the boundary on a channel far outside the module clears a
bit of the pair block's lease_state, 6 (alone) becomes 4 (synchronised), and the boundary, which finds no record of the holder, applies
no change of the queue. -/
theorem not_engineCycle : ¬ Obligations.EngineCycle := by
  intro h
  obtain ⟨hboundary, -⟩ := h farHeld (by decide)
  obtain ⟨t, he, hend⟩ := hboundary (by decide) (by decide) (by decide) (by decide)
  have hafter : (t.chip.eng.queue.length, t.chip.aon.dormant) = (1, false) := (congrArg queueAfter he).symm.trans farHeld_keeps_queue
  obtain ⟨hlen, hdormant⟩ := Prod.mk.inj hafter
  rcases hend with ⟨-, hqueue, -⟩ | hd
  · have hempty : t.chip.eng.queue = [] := hqueue
    simp [hempty] at hlen
  · simp [hd] at hdormant

end Sys2Proof.Machine
end

section
/-! SUPPORT. O9: the start phases. -/

namespace Sys2Proof.Machine

/-- An expectation on the routing of a channel outside the module (index 128), whose failure puts it out of service. -/
def farExpect : Expect := { kind := 0, index := 128, quantity := 0x60, outcome := 2, when_ := 1, element := 0, e := 1, tl := 0, tu := 0 }

/-- A module in S5 with no region fitted and that expectation; bits 15 to 8 of the supply block's first word stand at 5. -/
def farExpected : State :=
  let c := State.reset.chip
  let c1 := ((c.put surveyAt Survey.phase 5).put identAt Ident.fitted 0).setNat supplyAt 0x500
  { State.reset with chip := c1.setSys (fun y => { y with expects := [farExpect] }) }

/-- The stored hold-up after a step. -/
def holdupAfter : Out → Nat
  | .next t => t.chip.get supplyAt Supply.holdup_est
  | _ => 0

set_option maxRecDepth 100000 in
theorem farExpected_loses_holdup : holdupAfter (exec (.s5SurveyDone [] 400) farExpected) = 0 := by decide

/-- Refutes O9: the statement bounds no index of an expectation. Channel 128 would have its block where the supply block stands; its routing
fails the expectation, and putting it out of service de-energises it, which clears the word that has just taken the hold-up. -/
theorem not_startPhases : ¬ Obligations.StartPhases := by
  intro h
  obtain ⟨-, -, -, -, hs5, -⟩ := h farExpected
  obtain ⟨t, he, -, -, hholdup, -⟩ := hs5 (by decide) [] 400
  have hafter : holdupAfter (exec (.s5SurveyDone [] 400) farExpected) = 400 := (congrArg holdupAfter he).trans hholdup
  exact nomatch farExpected_loses_holdup.symm.trans hafter

end Sys2Proof.Machine
end

section
/-! SUPPORT. O11: image transfer. -/

namespace Sys2Proof.Machine

/-! ### Reading the image block -/

/-- A record leaves the image block as it is. -/
theorem record_image (c : Chip) (source region severity subject : Nat) (bs ws : List Nat) {f : Field} (h : f.first < 65536) :
    (c.record source region severity subject bs ws).get imageAt f = c.get imageAt f := by
  refine Chip.record_get c _ _ _ _ _ _ ?_
  rw [Field.at_eq, imageAt, spaceOf]
  omega

theorem imageAccept_last (c : Chip) {n : Nat} (k : Nat) (h : n < 256) : (c.imageAccept n k).get imageAt Image.last_cmd = n := by
  rw [Chip.imageAccept, Chip.setXfer_get, Chip.get_put_clear _ _ _ (by decide), Chip.get_put_of_lt _ _ (by decide) h]

theorem imageAccept_result (c : Chip) (n : Nat) {k : Nat} (h : k < 256) : (c.imageAccept n k).get imageAt Image.result = k := by
  rw [Chip.imageAccept, Chip.setXfer_get, Chip.get_put_of_lt _ _ (by decide) h]

theorem xferAbort_open (c : Chip) (h : c.xferOpen = true) :
    c.xferAbort.get imageAt Image.state = 0 ∧ c.xferAbort.get imageAt Image.result = 5 ∧ c.xferAbort.xfer = { writing := c.xfer.writing } := by
  rw [Chip.xferAbort, if_neg (by simp [h])]
  refine ⟨?_, ?_, ?_⟩
  · exact (record_image _ _ _ _ _ _ _ (by decide)).trans ((Chip.get_put_clear _ _ _ (by decide)).trans (Chip.get_put_of_lt _ _ (by decide) (by decide)))
  · exact (record_image _ _ _ _ _ _ _ (by decide)).trans (Chip.get_put_of_lt _ _ (by decide) (by decide))
  · simp [Chip.setXfer]

theorem xferOpen_of_owner {c : Chip} {session : Nat} (h : c.xfer.owner = some session) : c.xferOpen = true := by
  rw [Chip.xferOpen, h]
  exact Bool.or_true _

/-! ### The commands of an image transfer (R141, R143, R452) -/

section
variable {s : State} {session : Fin 16}

/-- A session that may transfer in this phase, with no transfer of another session open. -/
structure State.TransferFree (s : State) (session : Fin 16) : Prop where
  role : s.chip.mayTransfer session = true
  phase : s.chip.transferPhase = true
  idle : s.chip.get imageAt Image.result ≠ 1
  owner : s.chip.xfer.owner = none ∨ s.chip.xfer.owner = some session.val

namespace State.TransferFree

theorem goes (h : s.TransferFree session) :
    ¬ (!s.chip.mayTransfer session || !s.chip.transferPhase || (s.chip.xfer.owner.isSome && !s.chip.ownsTransfer session)) = true := by
  rw [h.role, h.phase, Chip.ownsTransfer]
  rcases h.owner with ho | ho
  · rw [ho]; exact Bool.false_ne_true
  · rw [ho]; simp

/-- A transfer the session owns. -/
theorem owned (_ : s.TransferFree session) (ho : s.chip.xfer.owner = some session.val) : ¬ (!s.chip.ownsTransfer session) = true := by
  rw [Chip.ownsTransfer, ho]
  simp

theorem begin (h : s.TransferFree session) (hx : s.chip.xferOpen = false) :
    exec (.imageBegin session) s = .next (s.imageBegin session) :=
  congrArg Host.Outcome.next ((if_neg h.idle).trans ((if_neg h.goes).trans (if_pos rfl)))

theorem verify (h : s.TransferFree session) (ho : s.chip.xfer.owner = some session.val) (hs : s.chip.get imageAt Image.state ≠ 0) :
    exec (.imageVerify session) s =
      .next { s with chip := (s.chip.imageAccept 1 1).setXfer (fun x => { x with verifying := 1 }) } := by
  have hgo : ¬ (!s.chip.ownsTransfer session || s.chip.get imageAt Image.state = 0) = true := by simpa [hs] using h.owned ho
  exact congrArg Host.Outcome.next ((if_neg h.idle).trans ((if_neg h.goes).trans ((if_neg (by decide)).trans ((if_pos rfl).trans (if_neg hgo)))))

theorem commit (h : s.TransferFree session) (ho : s.chip.xfer.owner = some session.val) (hs : s.chip.get imageAt Image.state = 2) (fb : Bool)
    (ha : s.mayAdopt session (s.chip.get imageAt Image.target) = true) :
    exec (.imageCommit session fb) s = .next (State.selectSlot (s.onChip (fun c => ((c.imageAccept 2 1).put imageAt Image.state 0).setXfer (fun _ => {})))
      (s.chip.get imageAt Image.target) fb 3) := by
  have hgo : ¬ (!s.chip.ownsTransfer session || s.chip.get imageAt Image.state != 2 || !s.mayAdopt session (s.chip.get imageAt Image.target)) = true := by
    simpa [hs, ha] using h.owned ho
  cases fb
  all_goals
    exact congrArg Host.Outcome.next ((if_neg h.idle).trans ((if_neg h.goes).trans ((if_neg (by decide)).trans ((if_neg (by decide)).trans
      ((if_pos rfl).trans (if_neg hgo))))))

theorem abort (h : s.TransferFree session) (ho : s.chip.xfer.owner = some session.val) :
    exec (.imageAbort session) s = .next { s with chip := (s.chip.put imageAt Image.last_cmd 3).xferAbort } :=
  congrArg Host.Outcome.next ((if_neg h.idle).trans ((if_neg h.goes).trans ((if_neg (by decide)).trans ((if_neg (by decide)).trans
    ((if_neg (by decide)).trans ((if_pos rfl).trans (if_neg (h.owned ho))))))))

theorem select_word (h : s.TransferFree session) {w slot : Nat} {fb : Bool} (hb : (List.range 5).filter (Nat.testBit w) = [4])
    (hs : b2n (w.testBit 16) = slot) (hf : w.testBit 18 = fb) (ha : s.mayAdopt session slot = true) :
    s.imageCommand session w = { s with chip := (s.chip.imageAccept 4 1).setXfer (fun x => { x with verifying := 2, fb := fb, slot := slot }) } := by
  have hgo : ¬ (s.chip.checkSlot s.flash slot = 0 && !s.mayAdopt session slot) = true := by simp [ha]
  rw [State.imageCommand, if_neg h.idle, hb, hs, hf]
  exact (if_neg h.goes).trans ((if_neg (by decide)).trans ((if_neg (by decide)).trans ((if_neg (by decide)).trans ((if_neg (by decide)).trans
    (if_neg hgo)))))

theorem select (h : s.TransferFree session) (slot : Fin 2) (fb : Bool) (ha : s.mayAdopt session slot = true) :
    exec (.imageSelect session slot fb) s =
      .next { s with chip := (s.chip.imageAccept 4 1).setXfer (fun x => { x with verifying := 2, fb := fb, slot := slot }) } := by
  have hbits : ∀ (slot : Fin 2) (fb : Bool), (List.range 5).filter (Nat.testBit (16 + 2 ^ 16 * slot.val + 2 ^ 18 * b2n fb)) = [4] ∧
      b2n ((16 + 2 ^ 16 * slot.val + 2 ^ 18 * b2n fb).testBit 16) = slot.val ∧ (16 + 2 ^ 16 * slot.val + 2 ^ 18 * b2n fb).testBit 18 = fb := by decide
  obtain ⟨hb, hs, hf⟩ := hbits slot fb
  exact congrArg Host.Outcome.next (h.select_word hb hs hf ha)

end State.TransferFree

/-! ### What the commands leave -/

/-- The chip of an image transfer that has begun into a slot. -/
def Chip.imageBegun (c : Chip) (session t : Nat) : Chip :=
  ((((c.imageAccept 0 1).put imageAt Image.target t).put imageAt Image.bytes_written 0).setXfer (fun x => { x with
    owner := some session })).record 30 0xFF 0 t [1, 0] [0]

theorem imageBegin_eq (h : s.chip.xferOpen = false) : s.imageBegin session =
    { s with
      chip := s.chip.imageBegun session (1 - s.chip.get imageAt Image.slot)
      flash := { s.flash.eraseSlot (1 - s.chip.get imageAt Image.slot) with target := some (1 - s.chip.get imageAt Image.slot) } } :=
  if_neg (by simp [h])

theorem imageBegun_ends (c : Chip) (n : Nat) {t : Nat} (h : t < 2) :
    (c.imageBegun n t).xfer.owner = some n ∧ (c.imageBegun n t).get imageAt Image.result = 1 ∧ (c.imageBegun n t).get imageAt Image.target = t ∧
      (c.imageBegun n t).get imageAt Image.bytes_written = 0 := by
  rw [Chip.imageBegun]
  refine ⟨?_, ?_, ?_, ?_⟩
  · rw [Chip.record_xfer]; rfl
  · refine (record_image _ _ _ _ _ _ _ (by decide)).trans ?_
    rw [Chip.setXfer_get, Chip.get_put_clear _ _ _ (by decide), Chip.get_put_clear _ _ _ (by decide)]
    exact imageAccept_result _ _ (by decide)
  · refine (record_image _ _ _ _ _ _ _ (by decide)).trans ?_
    rw [Chip.setXfer_get, Chip.get_put_clear _ _ _ (by decide)]
    exact Chip.get_put_of_lt _ _ (by decide) h
  · refine (record_image _ _ _ _ _ _ _ (by decide)).trans ?_
    rw [Chip.setXfer_get]
    exact Chip.get_put_of_lt _ _ (by decide) (by decide)

/-- The registers after the check of a stored image has ended (R142). -/
def Chip.imageChecked (c : Chip) (code : Nat) : Chip :=
  let c1 := (c.put imageAt Image.check code).setXfer (fun x => { x with verifying := 0, at_ := c.now })
  let c2 := (c1.put imageAt Image.state (if code = 0 then 2 else 1)).put imageAt Image.result (if code = 0 then 2 else 6)
  c2.record 30 0xFF 0 (c.get imageAt Image.target) [2, code] [c.get imageAt Image.bytes_written]

theorem imageChecked_ends (c : Chip) (code : Nat) :
    (c.imageChecked code).xfer.verifying = 0 ∧ (c.imageChecked code).get imageAt Image.check = code % 256 ∧
      (c.imageChecked code).get imageAt Image.state = (if code = 0 then 2 else 1) ∧
      (c.imageChecked code).get imageAt Image.result = (if code = 0 then 2 else 6) := by
  rw [Chip.imageChecked]
  refine ⟨?_, ?_, ?_, ?_⟩
  · simp [Chip.setXfer]
  · exact (record_image _ _ _ _ _ _ _ (by decide)).trans ((Chip.get_put_clear _ _ _ (by decide)).trans ((Chip.get_put_clear _ _ _ (by decide)).trans
      (Chip.get_put_self _ _ _ (by decide))))
  · exact (record_image _ _ _ _ _ _ _ (by decide)).trans ((Chip.get_put_clear _ _ _ (by decide)).trans (Chip.get_put_of_lt _ _ (by decide)
      (by split <;> decide)))
  · exact (record_image _ _ _ _ _ _ _ (by decide)).trans (Chip.get_put_of_lt _ _ (by decide) (by split <;> decide))

/-- A slot-select record is begun: its copy is erased, the command is busy. -/
theorem selectSlot_ends (s : State) (slot what : Nat) (fb : Bool) :
    (s.selectSlot slot fb what).flash = s.flash.eraseSelect s.flash.nextSelect.1 ∧
      (s.selectSlot slot fb what).chip.get imageAt Image.result = 1 ∧ (s.selectSlot slot fb what).pending = s.pending ∧
      (s.selectSlot slot fb what).chip.xfer =
        { s.chip.xfer with writing := some (s.flash.nextSelect.1, s.flash.nextSelect.2, slot, fb, what) } :=
  ⟨rfl, Chip.get_put_of_lt _ _ (by decide) (by decide), rfl, rfl⟩

theorem selectSlot_state (s : State) (slot what : Nat) (fb : Bool) :
    (s.selectSlot slot fb what).chip.get imageAt Image.state = s.chip.get imageAt Image.state :=
  (Chip.setXfer_get _ _ _ _).trans (Chip.get_put_clear _ _ _ (by decide))

/-- The flash once the slot-select record is written. -/
def Flash.selected (f : Flash) (copy seq slot what : Nat) (fb : Bool) : Flash :=
  if what = 3 then { f.program (selectAt copy) (selectBytes seq slot fb) with target := none } else f.program (selectAt copy) (selectBytes seq slot fb)

theorem selected_nor (f : Flash) (copy seq slot what : Nat) (fb : Bool) :
    (f.selected copy seq slot what fb).nor = (f.program (selectAt copy) (selectBytes seq slot fb)).nor := by
  rw [Flash.selected]; split <;> rfl

theorem selected_target (f : Flash) (copy seq slot what : Nat) (fb : Bool) :
    (f.selected copy seq slot what fb).target = if what = 3 then none else f.target := by
  rw [Flash.selected]; split <;> rfl

/-- A tick writes the slot-select record that is due (log entry 116). -/
theorem selectTick_ends {copy seq slot what : Nat} {fb : Bool} (hw : s.chip.xfer.writing = some (copy, seq, slot, fb, what)) :
    s.selectTick.chip.get imageAt Image.result = 2 ∧ s.selectTick.chip.xfer.writing = none ∧
      s.selectTick.flash = s.flash.selected copy seq slot what fb := by
  rw [State.selectTick, hw]
  refine ⟨(record_image _ _ _ _ _ _ _ (by decide)).trans ?_, ?_, rfl⟩
  · rw [Chip.setXfer_get]
    exact Chip.get_put_of_lt _ _ (by decide) (by decide)
  · rw [Chip.record_xfer]; rfl

theorem idle_selects {copy seq slot what : Nat} {fb : Bool} (hw : s.chip.xfer.writing = some (copy, seq, slot, fb, what))
    (hr : s.chip.sys.returns = []) :
    s.idle.chip.get imageAt Image.result = 2 ∧ s.idle.chip.xfer.writing = none ∧ s.idle.flash = s.flash.selected copy seq slot what fb := by
  have hreturns : (s.onChip Chip.tickOnce).chip.sys.returns = [] := by simp [hr]
  have hwriting : (s.onChip Chip.tickOnce).chip.xfer.writing = some (copy, seq, slot, fb, what) := by simp [hw]
  rw [State.idle]
  obtain h | h := State.returnsTick_of_nil hreturns <;> rw [h]
  · exact selectTick_ends hwriting
  · exact selectTick_ends (s := (s.onChip Chip.tickOnce).onChip (fun c => c.setSys (fun y => { y with returns := [] }))) hwriting

theorem verify_check (h : s.chip.xfer.verifying = 1) :
    exec .verifyComplete s = .next { s with chip := s.chip.imageChecked (s.chip.checkStored s.flash (s.chip.get imageAt Image.target)) } :=
  (if_neg (by rw [h]; decide)).trans (if_pos h)

/-- The state in which the check before a select has been noted. -/
def State.slotChecked (s : State) : State :=
  s.onChip (fun c => (c.put imageAt Image.check (s.chip.checkSlot s.flash s.chip.xfer.slot)).setXfer (fun x => { x with verifying := 0 }))

theorem verify_select (h : s.chip.xfer.verifying = 2) :
    exec .verifyComplete s = if s.chip.checkSlot s.flash s.chip.xfer.slot = 0 then .next (s.slotChecked.selectSlot s.chip.xfer.slot s.chip.xfer.fb 4)
      else .next (s.slotChecked.onChip (·.put imageAt Image.result 6)) :=
  (if_neg (by rw [h]; decide)).trans (if_neg (by rw [h]; decide))
end

/-- Settles O11: each command of a transfer through the judgement all five share (`State.TransferFree.goes`), what each leaves from the
fields it writes, and the record of a slot selection from the tick that follows. -/
theorem imageTransfer : Obligations.ImageTransfer := by
  unfold Obligations.ImageTransfer
  refine ⟨fun session s hrole hphase hidle => ⟨fun hopen hnone => ?_, fun ho hs => ?_, fun hnone slot fb ha => ?_⟩, fun s => ⟨?_, ?_, ?_, ?_⟩⟩
  · obtain ⟨howner, hresult, htarget, hwritten⟩ := imageBegun_ends s.chip session (t := 1 - s.chip.get imageAt Image.slot) (by omega)
    exact ⟨_, (State.TransferFree.begin ⟨hrole, hphase, hidle, .inl hnone⟩ hopen).trans (congrArg Host.Outcome.next (imageBegin_eq hopen)), howner,
      hresult, htarget, hwritten, rfl, rfl⟩
  · have hfree : s.TransferFree session := ⟨hrole, hphase, hidle, .inr ho⟩
    have hopen := xferOpen_of_owner ho
    refine ⟨⟨_, hfree.verify ho hs, rfl, (Chip.setXfer_get _ _ _ _).trans (imageAccept_result _ _ (by decide)),
        (Chip.setXfer_get _ _ _ _).trans (imageAccept_last _ _ (by decide)), StoresKept.chip s _⟩,
      fun h2 fb ha => ?_, ?_, fun hat => ?_⟩
    · obtain ⟨hflash, hresult, hpending, hxfer⟩ := selectSlot_ends (s.onChip (fun c => ((c.imageAccept 2 1).put imageAt Image.state 0).setXfer
        (fun _ => {}))) (s.chip.get imageAt Image.target) 3 fb
      refine ⟨_, hfree.commit ho h2 fb ha, ?_, congrArg XferSt.owner hxfer, hresult, congrArg XferSt.writing hxfer, hflash, hpending⟩
      exact (selectSlot_state _ _ _ _).trans ((Chip.setXfer_get _ _ _ _).trans (Chip.get_put_of_lt _ _ (by decide) (by decide)))
    · obtain ⟨hstate, hresult, hxfer⟩ := xferAbort_open (s.chip.put imageAt Image.last_cmd 3) (xferOpen_of_owner ho)
      exact ⟨_, hfree.abort ho, hstate, hresult, congrArg XferSt.owner hxfer, StoresKept.chip s _⟩
    · obtain ⟨hstate, hresult, hxfer⟩ := xferAbort_open s.chip hopen
      exact ⟨_, chipOnly_to s (if_neg (by simp [ho]; omega)), hstate, hresult, congrArg XferSt.owner hxfer, StoresKept.chip s _⟩
  · exact ⟨_, State.TransferFree.select ⟨hrole, hphase, hidle, .inl hnone⟩ slot fb ha, rfl, rfl, rfl,
      (Chip.setXfer_get _ _ _ _).trans (imageAccept_result _ _ (by decide)),
      StoresKept.chip s _⟩
  · intro hr hl ho
    exact ⟨_, chipOnly_to s (if_neg (by simp [hr, hl, Option.isNone_iff_eq_none, ho])),
      (Chip.get_put_clear _ _ _ (by decide)).trans (Chip.get_put_of_lt _ _ (by decide) (by decide)),
      Chip.get_put_of_lt _ _ (by decide) (by decide), rfl, StoresKept.chip s _⟩
  · intro hv code hcode
    subst hcode
    obtain ⟨hver, hcheck, hstate, hresult⟩ := imageChecked_ends s.chip (s.chip.checkStored s.flash (s.chip.get imageAt Image.target))
    exact ⟨_, verify_check hv, hver, hcheck, hstate, hresult, StoresKept.chip s _⟩
  · intro hv
    refine ⟨fun hc => ?_, fun hc => ?_⟩
    · obtain ⟨hflash, hresult, -, hxfer⟩ := selectSlot_ends s.slotChecked s.chip.xfer.slot 4 s.chip.xfer.fb
      exact ⟨_, (verify_select hv).trans (if_pos hc), hflash, hresult, congrArg XferSt.writing hxfer⟩
    · exact ⟨_, (verify_select hv).trans (if_neg hc), Chip.get_put_of_lt _ _ (by decide) (by decide), rfl, rfl⟩
  · intro copy seq slot fb what hw hp hr
    obtain ⟨hresult, hwriting, hflash⟩ := idle_selects hw hr
    refine ⟨s.idle, ?_, hresult, hwriting, ?_, ?_⟩
    · rw [step, hp]
    · rw [hflash, selected_nor]
    · rw [hflash, selected_target]

end Sys2Proof.Machine
end

section
/-! SUPPORT. O35: the calendar under PTP. -/

namespace Sys2Proof.Machine

/-! ### Signed fields and the calendar's words -/

/-- A two's complement number in range is read back as it was written. -/
theorem signed_unsigned {k : Nat} {i : Int} (hlo : -(2 ^ k) ≤ i) (hhi : i < 2 ^ k) : signed (k + 1) (unsigned (k + 1) i) = i := by
  have hpow : ((2 : Int) ^ (k + 1)) = 2 * 2 ^ k := pow_succ' 2 k
  have hnat : (2 : Nat) ^ (k + 1) = 2 * 2 ^ k := pow_succ' 2 k
  have hcast : ((2 ^ k : Nat) : Int) = 2 ^ k := by push_cast; rfl
  have hval : ((unsigned (k + 1) i : Nat) : Int) = i % 2 ^ (k + 1) := Int.toNat_of_nonneg (Int.emod_nonneg _ (by positivity))
  have hmod : unsigned (k + 1) i % 2 ^ (k + 1) = unsigned (k + 1) i := Nat.mod_eq_of_lt (unsigned_lt _ _)
  have hem : i % 2 ^ (k + 1) = i ∨ i % 2 ^ (k + 1) = i + 2 ^ (k + 1) := by
    by_cases h : 0 ≤ i
    · exact .inl (Int.emod_eq_of_lt h (by omega))
    · refine .inr ?_
      rw [← Int.add_emod_right]
      exact Int.emod_eq_of_lt (by omega) (by omega)
  simp only [signed, hmod, Nat.add_sub_cancel]
  rcases hem with h | h
  all_goals
    rw [h] at hval
    split <;> omega

theorem clampI_between {lo hi : Int} (h : lo ≤ hi) (i : Int) : lo ≤ clampI lo hi i ∧ clampI lo hi i ≤ hi := by
  rw [clampI]
  omega

theorem clampI_of_between {lo hi i : Int} (h : lo ≤ i) (k : i ≤ hi) : clampI lo hi i = i := by
  rw [clampI]
  omega

/-- A field written as a signed number in its range. -/
theorem getS_put (c : Chip) (b : Nat) {f : Field} {k : Nat} {i : Int} (hf : f.sound = true) (hw : f.hi + 1 - f.lo = k + 1) (hlo : -(2 ^ k) ≤ i)
    (hhi : i < 2 ^ k) : (c.put b f (unsigned (k + 1) i)).getS b f = i := by
  rw [Chip.getS, Chip.get_put_of_lt c b hf (by rw [hw]; exact unsigned_lt _ i), hw]
  exact signed_unsigned hlo hhi

/-- A record leaves the calendar block as it is. -/
theorem calRecord_get (c : Chip) (what : Nat) (o : Int) {f : Field} (h : f.first < 65536) :
    (c.calRecord what o).get calAt f = c.get calAt f := by
  refine Chip.record_get c _ _ _ _ _ _ ?_
  rw [Field.at_eq, calAt, spaceOf]
  omega

/-! ### Locking and unlocking (R441) -/

/-- What the calendar's lock may change: whether it is locked, and words of the calendar block other than a field's. -/
structure Chip.LockMoves (f : Field) (c d : Chip) : Prop where
  word : d.get calAt f = c.get calAt f
  cal : d.calFs = c.calFs
  ptp : d.net.ptp = c.net.ptp

namespace Chip.LockMoves

variable {f : Field} {c d e : Chip}

theorem refl (f : Field) (c : Chip) : c.LockMoves f c := ⟨rfl, rfl, rfl⟩

theorem trans (h : c.LockMoves f d) (k : d.LockMoves f e) : c.LockMoves f e := ⟨k.word.trans h.word, k.cal.trans h.cal, k.ptp.trans h.ptp⟩

theorem put (c : Chip) {g : Field} (v : Nat) (h : g.clear f = true) : c.LockMoves f (c.put calAt g v) := ⟨Chip.get_put_clear _ _ _ h, rfl, rfl⟩

theorem calRecord (c : Chip) (what : Nat) (o : Int) (h : f.first < 65536) : c.LockMoves f (c.calRecord what o) :=
  ⟨calRecord_get c what o h, Chip.record_calFs _ _ _ _ _ _ _, congrArg NetSt.ptp (Chip.record_net _ _ _ _ _ _ _)⟩

end Chip.LockMoves

/-- The fields that neither a lock nor its loss writes. -/
def Field.offLock (f : Field) : Bool := Cal.lock_lost.clear f && Cal.source.clear f && decide (f.first < 65536)

theorem calUnlock_moves {f : Field} (hf : f.offLock = true) (c : Chip) (o : Int) : c.LockMoves f (c.calUnlock o) := by
  simp only [Field.offLock, Bool.and_eq_true, decide_eq_true_eq] at hf
  obtain ⟨⟨hlost, hsource⟩, hfirst⟩ := hf
  rw [Chip.calUnlock]
  split
  · exact ⟨rfl, rfl, rfl⟩
  · exact Chip.LockMoves.trans (.trans (.trans (d := c.setNet (fun n => { n with locked := false, goodRun := 0 })) ⟨rfl, rfl, rfl⟩ (.put _ _ hlost))
      (.put _ _ hsource)) (.calRecord _ _ _ hfirst)

theorem calUnlock_unlocked (c : Chip) (o : Int) : (c.calUnlock o).net.locked = false := by
  rw [Chip.calUnlock]
  split
  · next h => exact Bool.not_eq_true' _ |>.mp h
  · exact congrArg NetSt.locked (Chip.record_net _ _ _ _ _ _ _)

/-! ### A difference of the followed instance (R441) -/

/-- The offset shown. -/
def Chip.offsetSet (c : Chip) (o : Int) : Chip := c.put calAt Cal.offset (unsigned 32 (clampI (-(2 ^ 31)) (2 ^ 31 - 1) o))

/-- The offset and the rate that a difference gives. -/
def Chip.rated (c : Chip) (o : Int) : Chip :=
  ((c.offsetSet o).put calAt Cal.rate_adj (unsigned 32 (clampI (-200000) 200000 (signed 32 (c.offsetSet o).free)))).fresh

theorem offsetSet_getS (c : Chip) {o : Int} (h : o.natAbs ≤ 1000000) : (c.offsetSet o).getS calAt Cal.offset = o := by
  rw [Chip.offsetSet, clampI_of_between (by omega) (by omega)]
  exact getS_put (k := 31) c calAt (by decide) rfl (by omega) (by omega)

theorem rated_words (c : Chip) {o : Int} (h : o.natAbs ≤ 1000000) :
    (c.rated o).getS calAt Cal.offset = o ∧ -200000 ≤ (c.rated o).getS calAt Cal.rate_adj ∧ (c.rated o).getS calAt Cal.rate_adj ≤ 200000 := by
  obtain ⟨hlo, hhi⟩ := clampI_between (lo := -200000) (hi := 200000) (by decide) (signed 32 (c.offsetSet o).free)
  have hrate : (c.rated o).getS calAt Cal.rate_adj = clampI (-200000) 200000 (signed 32 (c.offsetSet o).free) := by
    rw [Chip.rated, Chip.getS, Chip.fresh_get, ← Chip.getS]
    exact getS_put (k := 31) _ calAt (by decide) rfl (by omega) (by omega)
  refine ⟨?_, hrate.symm ▸ hlo, hrate.symm ▸ hhi⟩
  rw [Chip.rated, Chip.getS, Chip.fresh_get, Chip.get_put_clear _ _ _ (by decide), ← Chip.getS, offsetSet_getS c h]

/-- The lock after a difference within 1 ms: it is lost beyond 100 µs, and taken with the sixteenth below 10 µs in a row. -/
def Chip.lockStep (c : Chip) (o : Int) (valid n : Nat) : Chip :=
  if c.net.locked then (if 100000 < o.natAbs then c.calUnlock o else c)
  else if 16 ≤ n then
    (((c.setNet (fun h => { h with locked := true, goodRun := n, everLocked := true })).put calAt Cal.source 2).put supplyAt Supply.cal_valid
      valid).calRecord 2 o
  else c.setNet (fun h => { h with goodRun := n })

/-- The differences below 10 µs in a row. -/
def Chip.goodNow (c : Chip) (o : Int) : Nat := if o.natAbs < 10000 then c.net.goodRun + 1 else 0

theorem calSync_of_near (c : Chip) {o : Int} (h : o.natAbs ≤ 1000000) :
    c.calSync o = (c.rated o).lockStep o (b2n (!c.clkLost 0 1)) ((c.rated o).goodNow o) :=
  if_neg (by omega)

theorem lockStep_moves {f : Field} (hf : f.offLock = true) (c : Chip) (o : Int) (valid n : Nat) : c.LockMoves f (c.lockStep o valid n) := by
  have hparts := hf
  simp only [Field.offLock, Bool.and_eq_true, decide_eq_true_eq] at hparts
  obtain ⟨⟨-, hsource⟩, hfirst⟩ := hparts
  have hsupply (d : Chip) : d.LockMoves f (d.put supplyAt Supply.cal_valid valid) := by
    refine ⟨Chip.get_put_other d ?_, rfl, rfl⟩
    rw [Field.at_eq, Field.at_eq, calAt, supplyAt, Supply.cal_valid, Field.one]
    simp only [Nat.mul_zero]
    omega
  have hnet (d : Chip) (g : NetSt → NetSt) (hg : ∀ n, (g n).ptp = n.ptp) : d.LockMoves f (d.setNet g) := ⟨rfl, rfl, hg _⟩
  rw [Chip.lockStep]
  split
  · split
    · exact calUnlock_moves hf _ _
    · exact .refl _ _
  · split
    · exact .trans (.trans (.trans (hnet _ (fun h => { h with locked := true, goodRun := n, everLocked := true }) (fun _ => rfl)) (.put _ _ hsource))
        (hsupply _)) (.calRecord _ _ _ hfirst)
    · exact hnet _ (fun h => { h with goodRun := n }) (fun _ => rfl)

theorem calSync_near (c : Chip) {o : Int} (h : o.natAbs ≤ 1000000) :
    (c.calSync o).calFs = c.calFs ∧ (c.calSync o).net.ptp = c.net.ptp ∧ (c.calSync o).getS calAt Cal.offset = o ∧
      -200000 ≤ (c.calSync o).getS calAt Cal.rate_adj ∧ (c.calSync o).getS calAt Cal.rate_adj ≤ 200000 := by
  obtain ⟨hoff, hlo, hhi⟩ := rated_words c h
  have hmoves := lockStep_moves (f := Cal.offset) (by decide) (c.rated o) o (b2n (!c.clkLost 0 1)) ((c.rated o).goodNow o)
  have hrate : ((c.rated o).lockStep o (b2n (!c.clkLost 0 1)) ((c.rated o).goodNow o)).getS calAt Cal.rate_adj = (c.rated o).getS calAt Cal.rate_adj := by
    rw [Chip.getS, Chip.getS, (lockStep_moves (f := Cal.rate_adj) (by decide) _ _ _ _).word]
  rw [calSync_of_near c h]
  exact ⟨hmoves.cal, hmoves.ptp, (congrArg (signed (Cal.offset.hi + 1 - Cal.offset.lo)) hmoves.word).trans hoff, by rw [hrate]; exact hlo,
    by rw [hrate]; exact hhi⟩

/-- A difference of more than 1 ms steps the calendar. -/
theorem calSync_far (c : Chip) {o : Int} (h : 1000000 < o.natAbs) :
    (c.calSync o).calFs = ((c.calFs : Int) - o * 10 ^ 6).toNat ∧ (c.calSync o).get calAt Cal.step_seen = 1 ∧
      (c.calSync o).get calAt Cal.steps = min (c.get calAt Cal.steps + 1) Cal.steps.top ∧ (c.calSync o).net.locked = false ∧
      (c.calSync o).net.ptp = c.net.ptp := by
  have hmoves := calUnlock_moves (f := Cal.steps) (by decide) (c.offsetSet o) o
  have hsteps : (c.offsetSet o).get calAt Cal.steps = c.get calAt Cal.steps := Chip.get_put_clear _ _ _ (by decide)
  have heq : c.calSync o = (({ (c.offsetSet o).calUnlock o with
      calFs := ((((c.offsetSet o).calUnlock o).calFs : Int) - o * 10 ^ 6).toNat }.bump calAt Cal.steps).put calAt Cal.step_seen 1).calRecord 1 o := if_pos h
  rw [heq]
  refine ⟨(Chip.record_calFs _ _ _ _ _ _ _).trans ?_, (calRecord_get _ _ _ (by decide)).trans (Chip.get_put_of_lt _ _ (by decide) (by decide)),
    (calRecord_get _ _ _ (by decide)).trans ((Chip.get_put_clear _ _ _ (by decide)).trans ((Chip.bump_get_self _ _ (by decide)).trans ?_)),
    (congrArg NetSt.locked (Chip.record_net _ _ _ _ _ _ _)).trans (calUnlock_unlocked _ _),
    (congrArg NetSt.ptp (Chip.record_net _ _ _ _ _ _ _)).trans hmoves.ptp⟩
  · exact congrArg (fun n : Nat => ((n : Int) - o * 10 ^ 6).toNat) hmoves.cal
  · exact congrArg (fun n => min (n + 1) Cal.steps.top) (hmoves.word.trans hsteps)

/-! ### A Sync (R440) -/

theorem netOne_passes (c : Chip) {p : Nat} (kind : Nat) (bs : List Nat) (hp : p < 2) : c.Passes (c.netOne p kind bs) := by
  rw [Chip.netOne]
  split
  · exact .refl c
  · exact (Chip.Passes.emit c _).trans (.of_count (countPass_only _ _ _ _ _ _ _ (by omega)))

theorem Chip.Passes.calFs {c d : Chip} (h : c.Passes d) : d.calFs = c.calFs := by
  obtain ⟨⟨rg, cs, n, em, hd⟩, -⟩ := h
  rw [hd]

theorem Chip.Passes.calGet {c d : Chip} (h : c.Passes d) {f : Field} (hf : f.first < 65536) : d.get calAt f = c.get calAt f := by
  refine h.getI ?_
  rw [Field.at_eq, calAt, spaceOf]
  omega

/-- The Delay_Req that follows a Sync. -/
def Chip.delayAsked (c : Chip) (p : Nat) : Chip := (c.netOne p 3 [c.get calAt Cal.domain]).setPtp p (fun h => { h with reqNs := some c.calNs })

theorem setPtp_ptp_same (c : Chip) {p : Nat} (f : PtpSt → PtpSt) (h : p < c.net.ptp.length) : (c.setPtp p f).ptp p = f (c.ptp p) :=
  nth_upd_same _ _ _ _ h

theorem setPtp_ptp_other (c : Chip) {p q : Nat} (f : PtpSt → PtpSt) (h : q ≠ p) : (c.setPtp p f).ptp q = c.ptp q := nth_upd_other _ _ _ h

/-- What a Delay_Req leaves. -/
structure Chip.DelayAsked (p : Nat) (c d : Chip) : Prop where
  cal : d.calFs = c.calFs
  asked : (d.ptp p).reqNs = some c.calNs
  diff : (d.ptp p).diff = (c.ptp p).diff
  others : ∀ q, q ≠ p → d.ptp q = c.ptp q
  word : ∀ f : Field, f.first < 65536 → d.get calAt f = c.get calAt f
  locked : d.net.locked = c.net.locked

theorem delayAsked_leaves (c : Chip) {p : Nat} (hp : p < 2) (h : p < c.net.ptp.length) : c.DelayAsked p (c.delayAsked p) := by
  have hpass := netOne_passes c 3 [c.get calAt Cal.domain] hp
  have hptp (q : Nat) : (c.netOne p 3 [c.get calAt Cal.domain]).ptp q = c.ptp q := by rw [Chip.ptp, hpass.net, Chip.ptp]
  have hself := setPtp_ptp_same (c.netOne p 3 [c.get calAt Cal.domain]) (fun h => { h with reqNs := some c.calNs }) (p := p) (by rw [hpass.net]; exact h)
  have hdiff : ((c.netOne p 3 [c.get calAt Cal.domain]).ptp p).diff = (c.ptp p).diff := congrArg PtpSt.diff (hptp p)
  have hlocked : (c.netOne p 3 [c.get calAt Cal.domain]).net.locked = c.net.locked := congrArg NetSt.locked hpass.net
  exact ⟨hpass.calFs, congrArg PtpSt.reqNs hself, (congrArg PtpSt.diff hself).trans hdiff,
    fun q hq => (setPtp_ptp_other _ _ hq).trans (hptp q), fun f hf => hpass.calGet hf, hlocked⟩

/-- The difference of a Sync is taken, and acts where its instance is the one followed. -/
def Chip.synced (c : Chip) (p : Nat) (diff o : Int) : Chip :=
  let c1 := c.setPtp p (fun h => { h with diff := diff })
  if c.get calAt Cal.ptp_port != p + 1 then c1
  else if 1000000 < o.natAbs then (c1.calSync o).ptpStepped o else c1.calSync o

section
variable {s : State} {port : Fin 2} {domain : BitVec 8} {sec : BitVec 48} {ns : BitVec 32} {corr : BitVec 64}

/-- The difference that a Sync gives. -/
def Chip.syncDiff (c : Chip) (p sec ns : Nat) (corr : Int) : Int := (c.calNs : Int) - ptpNs sec ns (c.ptp p).utc - corr / 65536

theorem ptpSync_to (hon : s.chip.ptpOn port domain.toNat = true) (hm : (s.chip.ptp port).master ≠ none) :
    exec (.ptpSync port domain sec ns corr) s = .next { s with chip :=
      (s.chip.synced port (s.chip.syncDiff port sec.toNat ns.toNat corr.toInt)
        (s.chip.syncDiff port sec.toNat ns.toNat corr.toInt - (s.chip.ptp port).delay)).delayAsked port } :=
  chipOnly_to s (if_neg (by simp [hon, Option.isNone_iff_eq_none, hm]))

/-- The mean path delay is taken, and shown where the instance is the one followed. -/
def Chip.delayTaken (c : Chip) (p d : Nat) : Chip :=
  let c1 := c.setPtp p (fun h => { h with delay := d, reqNs := none })
  if c.get calAt Cal.ptp_port = p + 1 then c1.put calAt Cal.path_delay (min d 0xFFFFFFFF) else c1

/-- The mean path delay that a Delay_Resp gives. -/
def Chip.meanDelay (c : Chip) (p sec ns : Nat) (corr : Int) (t3 : Nat) : Nat :=
  (((c.ptp p).diff + (ptpNs sec ns (c.ptp p).utc - corr / 65536 - t3)) / 2).toNat

theorem delayResp_to (hon : s.chip.ptpOn port domain.toNat = true) (hm : (s.chip.ptp port).master ≠ none) {t3 : Nat}
    (ht : (s.chip.ptp port).reqNs = some t3) :
    exec (.delayRespReceive port domain sec ns corr) s =
      .next { s with chip := s.chip.delayTaken port (s.chip.meanDelay port sec.toNat ns.toNat corr.toInt t3) } := by
  refine chipOnly_to s ((if_neg (by simp [hon, Option.isNone_iff_eq_none, hm])).trans ?_)
  rw [ht]
  rfl

theorem delayTaken_ends {c : Chip} {p : Nat} (d : Nat) (h : p < c.net.ptp.length) :
    ((c.delayTaken p d).ptp p).delay = d ∧ ((c.delayTaken p d).ptp p).reqNs = none ∧ (c.delayTaken p d).calFs = c.calFs ∧
      c.delayTaken p d = { c with regs := (c.delayTaken p d).regs, net := (c.delayTaken p d).net } ∧
      c.WordsBut (fun a => a = Cal.path_delay.at calAt 0) (c.delayTaken p d) := by
  have hself := setPtp_ptp_same c (fun h => { h with delay := d, reqNs := none }) h
  rw [Chip.delayTaken]
  split
  · exact ⟨congrArg PtpSt.delay hself, congrArg PtpSt.reqNs hself, rfl, rfl,
      .trans (d := c.setPtp p (fun h => { h with delay := d, reqNs := none })) (.of_regs rfl) (.put _ _ rfl)⟩
  · exact ⟨congrArg PtpSt.delay hself, congrArg PtpSt.reqNs hself, rfl, rfl, .of_regs rfl⟩

/-! ### What a Sync leaves -/

theorem synced_unfollowed {c : Chip} {p : Nat} (diff o : Int) (h : c.get calAt Cal.ptp_port ≠ p + 1) :
    c.synced p diff o = c.setPtp p (fun h => { h with diff := diff }) := if_pos (by simpa using h)

theorem synced_near {c : Chip} {p : Nat} (diff : Int) {o : Int} (h : c.get calAt Cal.ptp_port = p + 1) (ho : o.natAbs ≤ 1000000) :
    c.synced p diff o = (c.setPtp p (fun h => { h with diff := diff })).calSync o :=
  (if_neg (by simp [h])).trans (if_neg (by omega))

theorem synced_far {c : Chip} {p : Nat} (diff : Int) {o : Int} (h : c.get calAt Cal.ptp_port = p + 1) (ho : 1000000 < o.natAbs) :
    c.synced p diff o = ((c.setPtp p (fun h => { h with diff := diff })).calSync o).ptpStepped o :=
  (if_neg (by simp [h])).trans (if_pos ho)

theorem ptp_length_setPtp (c : Chip) (p : Nat) (f : PtpSt → PtpSt) : (c.setPtp p f).net.ptp.length = c.net.ptp.length := upd_length _ _ _

theorem unfollowed_ends {c : Chip} {p : Nat} (diff o : Int) (hp : p < 2) (hlen : p < c.net.ptp.length) (h : c.get calAt Cal.ptp_port ≠ p + 1)
    {d : Chip} (hd : d = (c.synced p diff o).delayAsked p) :
    (d.ptp p).diff = diff ∧ (d.ptp p).reqNs = some c.calNs ∧ d.calFs = c.calFs ∧ ∀ q, q ≠ p → d.ptp q = c.ptp q := by
  subst hd
  rw [synced_unfollowed _ _ h]
  obtain ⟨hcal, hasked, hdiff, hothers, -, -⟩ := delayAsked_leaves (c.setPtp p (fun h => { h with diff := diff })) hp
    (Nat.lt_of_lt_of_eq hlen (ptp_length_setPtp _ _ _).symm)
  exact ⟨hdiff.trans (congrArg PtpSt.diff (setPtp_ptp_same _ _ hlen)), hasked, hcal, fun q hq => (hothers q hq).trans (setPtp_ptp_other _ _ hq)⟩

theorem near_ends {c : Chip} {p : Nat} (diff : Int) {o : Int} (hp : p < 2) (hlen : p < c.net.ptp.length) (h : c.get calAt Cal.ptp_port = p + 1)
    (ho : o.natAbs ≤ 1000000) {d : Chip} (hd : d = (c.synced p diff o).delayAsked p) :
    (d.ptp p).diff = diff ∧ d.calFs = c.calFs ∧ d.getS calAt Cal.offset = o ∧ -200000 ≤ d.getS calAt Cal.rate_adj ∧
      d.getS calAt Cal.rate_adj ≤ 200000 := by
  subst hd
  rw [synced_near _ h ho]
  obtain ⟨hcal, hptp, hoff, hlo, hhi⟩ := calSync_near (c.setPtp p (fun h => { h with diff := diff })) ho
  have hlen1 := (congrArg List.length hptp).trans (ptp_length_setPtp _ _ _)
  obtain ⟨hcal', -, hdiff, -, hword, -⟩ := delayAsked_leaves _ hp (Nat.lt_of_lt_of_eq hlen hlen1.symm)
  refine ⟨hdiff.trans ?_, hcal'.trans hcal, ?_, ?_, ?_⟩
  · rw [Chip.ptp, hptp]
    exact congrArg PtpSt.diff (setPtp_ptp_same _ _ hlen)
  · rw [Chip.getS, hword _ (by decide)]; exact hoff
  · rw [Chip.getS, hword _ (by decide)]; exact hlo
  · rw [Chip.getS, hword _ (by decide)]; exact hhi

theorem far_ends {c : Chip} {p : Nat} (diff : Int) {o : Int} (hp : p < 2) (hlen : p < c.net.ptp.length) (h : c.get calAt Cal.ptp_port = p + 1)
    (ho : 1000000 < o.natAbs) {d : Chip} (hd : d = (c.synced p diff o).delayAsked p) :
    d.calFs = ((c.calFs : Int) - o * 10 ^ 6).toNat ∧ d.get calAt Cal.step_seen = 1 ∧
      d.get calAt Cal.steps = min (c.get calAt Cal.steps + 1) Cal.steps.top ∧ d.net.locked = false := by
  subst hd
  rw [synced_far _ h ho]
  obtain ⟨hcal, hseen, hsteps, hlocked, hptp⟩ := calSync_far (c.setPtp p (fun h => { h with diff := diff })) ho
  have hlen1 : (((c.setPtp p (fun h => { h with diff := diff })).calSync o).ptpStepped o).net.ptp.length = c.net.ptp.length :=
    List.length_map _ |>.trans ((congrArg List.length hptp).trans (ptp_length_setPtp _ _ _))
  obtain ⟨hcal', -, -, -, hword, hlocked'⟩ := delayAsked_leaves _ hp (Nat.lt_of_lt_of_eq hlen hlen1.symm)
  exact ⟨hcal'.trans hcal, (hword _ (by decide)).trans hseen, (hword _ (by decide)).trans hsteps, hlocked'.trans hlocked⟩

end

/-! ### Announce messages and leap seconds (R440 to R442) -/

section
variable {s : State} {port : Fin 2} {domain : BitVec 8} {dataset : List Byte} {utc : BitVec 16} {leap61 leap59 : Bool} {interval : BitVec 32}

/-- The choice of the instance to follow changes only words and what is known of the lock and the leap second. -/
theorem follow_ptp (c : Chip) (k : Option Nat) : (c.follow k).net.ptp = c.net.ptp := by
  cases k with
  | none => exact (calUnlock_moves (f := Cal.steps) (by decide) _ 0).ptp
  | some k => rfl

theorem chooseMaster_ptp (c : Chip) : c.chooseMaster.net.ptp = c.net.ptp := by
  rw [Chip.chooseMaster]
  split
  · exact follow_ptp _ _
  · split
    · rfl
    · exact follow_ptp _ _

/-- The one instance that has a master is followed. -/
theorem chooseMaster_only {c : Chip} {p : Nat} (hp : p < 2) {x : List Nat} (hm : (c.ptp p).master = some x) (ho : (c.ptp (1 - p)).master = none) :
    c.chooseMaster = c.follow (some p) := by
  rw [Chip.chooseMaster]
  interval_cases p
  · rw [hm, ho]
  · rw [hm, ho]

theorem follow_words (c : Chip) {k : Nat} (h : k < 2) :
    (c.follow (some k)).get calAt Cal.ptp_port = k + 1 ∧
      (c.follow (some k)).get calAt Cal.utc_offset = (c.ptp k).utc % (Cal.utc_offset.top + 1) := by
  rw [Chip.follow]
  refine ⟨?_, ?_⟩
  · rw [Chip.setNet_get, Chip.get_put_clear _ _ _ (by decide), Chip.get_put_clear _ _ _ (by decide), Chip.get_putI_other _ (by decide),
      Chip.get_putI_other _ (by decide), Chip.get_put_clear _ _ _ (by decide)]
    exact Chip.get_put_of_lt _ _ (by decide) (by rw [show 2 ^ (Cal.ptp_port.hi + 1 - Cal.ptp_port.lo) = 4 from rfl]; omega)
  · rw [Chip.setNet_get, Chip.get_put_clear _ _ _ (by decide), Chip.get_put_clear _ _ _ (by decide), Chip.get_putI_other _ (by decide),
      Chip.get_putI_other _ (by decide)]
    exact Chip.get_put_self _ _ _ (by decide)

/-- The instance of a port as an Announce message leaves it. -/
def PtpSt.announced (h : PtpSt) (now utc interval : Nat) (leap61 leap59 : Bool) (master : List Nat) : PtpSt :=
  { h with master := some master, seenAt := now, interval := interval, utc := utc, leap61 := leap61, leap59 := leap59 }

theorem announce_to (hon : s.chip.ptpOn port domain.toNat = true) (hm : (s.chip.ptp port).master = none) :
    exec (.announceMessage port domain dataset utc leap61 leap59 interval) s = .next { s with chip :=
      (s.chip.setPtp port (fun h => h.announced s.chip.now utc.toNat interval.toNat leap61 leap59 (dataset.map (·.toNat)))).chooseMaster } := by
  refine chipOnly_to s ((if_neg ?_).trans rfl)
  rw [hon, hm]
  exact Bool.false_ne_true

theorem announce_kept {old : List Nat} (hm : (s.chip.ptp port).master = some old) (hid : bytesAt old 6 8 ≠ bytesAt (dataset.map (·.toNat)) 6 8)
    (hr : ranksBefore (dataset.map (·.toNat)) old = false) :
    exec (.announceMessage port domain dataset utc leap61 leap59 interval) s = .next s := by
  refine chipOnly_to s (d := s.chip) (if_pos ?_)
  rw [hm]
  simp [hid, hr]

theorem announced_ends (hs : Shaped s) (d : Chip) (hd : d = (s.chip.setPtp port (fun h => h.announced s.chip.now utc.toNat interval.toNat leap61 leap59
      (dataset.map (·.toNat)))).chooseMaster) :
    (d.ptp port).master = some (dataset.map (·.toNat)) ∧ (d.ptp port).seenAt = s.chip.now ∧ (d.ptp port).utc = utc.toNat ∧
      (d.ptp port).interval = interval.toNat ∧
      ((s.chip.ptp (1 - port)).master = none → d.get calAt Cal.ptp_port = port.val + 1 ∧
        d.get calAt Cal.utc_offset = utc.toNat % (Cal.utc_offset.top + 1)) := by
  have hlen : port.val < s.chip.net.ptp.length := Nat.lt_of_lt_of_eq port.isLt hs.sized.ptp.symm
  have hself := setPtp_ptp_same s.chip (fun h => h.announced s.chip.now utc.toNat interval.toNat leap61 leap59 (dataset.map (·.toNat))) hlen
  have hport : d.ptp port = (s.chip.ptp port).announced s.chip.now utc.toNat interval.toNat leap61 leap59 (dataset.map (·.toNat)) := by
    rw [hd, Chip.ptp, chooseMaster_ptp]
    exact hself
  refine ⟨congrArg PtpSt.master hport, congrArg PtpSt.seenAt hport, congrArg PtpSt.utc hport, congrArg PtpSt.interval hport, fun hother => ?_⟩
  have hnone : ((s.chip.setPtp port (fun h => h.announced s.chip.now utc.toNat interval.toNat leap61 leap59 (dataset.map (·.toNat)))).ptp
      (1 - port.val)).master = none := by
    rw [setPtp_ptp_other _ _ (by omega)]
    fin_cases port
    · exact hother
    · exact hother
  rw [hd, chooseMaster_only port.isLt (congrArg PtpSt.master hself) hnone]
  obtain ⟨hp, hu⟩ := follow_words (s.chip.setPtp port (fun h => h.announced s.chip.now utc.toNat interval.toNat leap61 leap59
    (dataset.map (·.toNat)))) port.isLt
  exact ⟨hp, hu.trans (congrArg (· % (Cal.utc_offset.top + 1)) (congrArg PtpSt.utc hself))⟩

/-- The instance of a port whose master has gone silent. -/
def Chip.announceLost (c : Chip) (p : Nat) : Chip :=
  let c1 := c.setPtp p (fun h => { h with master := none, reqNs := none })
  (c1.when (c.get calAt Cal.ptp_port == p + 1) (·.calUnlock 0)).chooseMaster

theorem announceLost_ptp (c : Chip) (p : Nat) :
    (c.announceLost p).net.ptp = (c.setPtp p (fun h => { h with master := none, reqNs := none })).net.ptp := by
  rw [Chip.announceLost, chooseMaster_ptp, Chip.when]
  split
  · exact (calUnlock_moves (f := Cal.steps) (by decide) _ 0).ptp
  · rfl

end

/-- Settles O35: a Sync through what `calSync` writes on either side of 1 ms and the Delay_Req that follows it, an Announce message through
the choice it leaves between the two instances. -/
theorem calendar : Obligations.Calendar := by
  unfold Obligations.Calendar
  intro s hs
  have hlen (p : Fin 2) : p.val < s.chip.net.ptp.length := Nat.lt_of_lt_of_eq p.isLt hs.sized.ptp.symm
  refine ⟨fun port domain sec ns corr hon hm => ⟨fun hne => ?_, fun he ho => ?_, fun he ho => ?_, fun t3 ht => ?_⟩,
    fun port domain dataset utc leap61 leap59 interval hon => ⟨fun hm => ?_, fun old hm hid hr => ?_⟩, fun port hm hat => ?_, fun hl hd hf => ?_,
    fun hl hd => ?_⟩
  · obtain ⟨hdiff, hasked, hcal, hothers⟩ := unfollowed_ends (s.chip.syncDiff port sec.toNat ns.toNat corr.toInt) _ port.isLt (hlen port) hne rfl
    exact ⟨_, ptpSync_to hon hm, hdiff, hasked, hcal, hothers, StoresKept.chip s _⟩
  · obtain ⟨hdiff, hcal, hoff, hlo, hhi⟩ := near_ends (s.chip.syncDiff port sec.toNat ns.toNat corr.toInt) port.isLt (hlen port) he ho rfl
    exact ⟨_, ptpSync_to hon hm, hdiff, hcal, hoff, hlo, hhi, StoresKept.chip s _⟩
  · obtain ⟨hcal, hseen, hsteps, hlocked⟩ := far_ends (s.chip.syncDiff port sec.toNat ns.toNat corr.toInt) port.isLt (hlen port) he ho rfl
    exact ⟨_, ptpSync_to hon hm, hcal, hseen, hsteps, hlocked, StoresKept.chip s _⟩
  · obtain ⟨hdelay, hreq, hcal, heq, hwords⟩ := delayTaken_ends (s.chip.meanDelay port sec.toNat ns.toNat corr.toInt t3) (hlen port)
    exact ⟨_, delayResp_to hon hm ht, hdelay, hreq, hcal, congrArg (fun c => { s with chip := c }) heq, hwords.kept⟩
  · obtain ⟨h1, h2, h3, h4, h5⟩ := announced_ends hs _ rfl
    exact ⟨_, announce_to hon hm, h1, h2, h3, h4, h5, StoresKept.chip s _⟩
  · exact announce_kept hm hid hr
  · have hself := setPtp_ptp_same s.chip (fun h => { h with master := none, reqNs := none }) (hlen port)
    have hport : (s.chip.announceLost port).ptp port = { s.chip.ptp port with master := none, reqNs := none } := by
      rw [Chip.ptp, announceLost_ptp]
      exact hself
    refine ⟨_, chipOnly_to s (d := s.chip.announceLost port) (if_neg ?_), congrArg PtpSt.master hport, congrArg PtpSt.reqNs hport, StoresKept.chip s _⟩
    simp [Option.isNone_iff_eq_none, hm, hat]
  · refine ⟨_, chipOnly_to s (if_pos (by simp only [Bool.and_eq_true, decide_eq_true_eq]; exact ⟨⟨hl, hd⟩, hf⟩)), rfl, ?_, ?_, rfl, StoresKept.chip s _⟩
    · exact (Chip.get_put_clear _ _ _ (by decide)).trans (Chip.get_put_of_lt _ _ (by decide) (by decide))
    · exact (Chip.get_put_clear _ _ _ (by decide)).trans ((Chip.get_put_clear _ _ _ (by decide)).trans (Chip.get_put_of_lt _ _ (by decide) (by decide)))
  · refine ⟨_, chipOnly_to s ((if_neg (by simp [hl])).trans (if_pos (by simp only [Bool.and_eq_true, decide_eq_true_eq]; exact ⟨hl, hd⟩))), rfl, ?_, rfl, StoresKept.chip s _⟩
    exact (Chip.get_put_clear _ _ _ (by decide)).trans (Chip.get_put_of_lt _ _ (by decide) (by decide))

end Sys2Proof.Machine
end

section
/-! SUPPORT. O34: the station ports. -/

namespace Sys2Proof.Machine

/-! ### Counts and words -/

theorem Chip.getI_bumpByI_self (c : Chip) (b i k : Nat) {f : Field} (h : f.sound = true) :
    (c.bumpByI b f i k).getI b f i = min (c.getI b f i + k) f.top :=
  Chip.getI_putI_of_lt c b i h (Nat.lt_of_le_of_lt (Nat.min_le_right _ _) (Nat.sub_lt (Nat.two_pow_pos _) (by decide)))

theorem not_recorder_slink {f : Field} (h : f.first < 65536) : spaceOf (f.at slinkAt 0) ≠ 10 := by
  rw [Field.at_eq, slinkAt, spaceOf]
  omega

theorem counterWord_space {a : Nat} (h : counterWord a) : spaceOf a < 8 := h.1

theorem countOnly_getI {c d : Chip} (h : c.CountOnly d) {b i : Nat} {f : Field} (hs : 8 ≤ spaceOf (f.at b i)) : d.getI b f i = c.getI b f i :=
  Chip.getI_congr (h.2 _ (fun hc => absurd hc.1 (Nat.not_lt.2 hs)))

/-! ### The link of a station port (R435) -/

/-- The fields of a station port's speed and of its loss. -/
def speedField (p : Nat) : Field := if p = 0 then SLink.na_speed else SLink.nb_speed
def lostField (p : Nat) : Field := if p = 0 then SLink.na_lost else SLink.nb_lost

theorem linkFields_sound (p : Nat) : (speedField p).sound = true ∧ (lostField p).sound = true ∧ (lostField p).clear (speedField p) = true ∧
    (speedField p).first < 65536 ∧ (lostField p).first < 65536 ∧ (speedField p).hi + 1 - (speedField p).lo = 2 ∧
    (lostField p).hi + 1 - (lostField p).lo = 1 ∧ (lostField p).at slinkAt 0 = SLink.na_lost.at slinkAt 0 := by
  by_cases h : p = 0
  · rw [speedField, lostField, if_pos h, if_pos h]; decide
  · rw [speedField, lostField, if_neg h, if_neg h]; decide

/-- The words that a change of a station port's link may touch. -/
def linkWord (p a : Nat) : Prop := a = (speedField p).at slinkAt 0 ∨ a = SLink.na_lost.at slinkAt 0 ∨ recorderWord a

theorem stationDown_words (c : Chip) (p : Nat) : c.WordsBut (linkWord p) (c.stationDown p) := by
  obtain ⟨-, -, -, -, -, -, -, hat⟩ := linkFields_sound p
  refine .ite (fun _ => .refl _ c) (fun _ => ?_)
  exact .trans (.trans (.put c (f := speedField p) _ (.inl rfl)) (.put _ (f := lostField p) _ (.inr (.inl hat)))) (.record _ _ _ _ _ _ _ (fun _ h => .inr (.inr h)))

theorem stationDown_speed (c : Chip) (p : Nat) : (c.stationDown p).get slinkAt (speedField p) = 0 := by
  obtain ⟨hsound, -, hclear, hfirst, -⟩ := linkFields_sound p
  by_cases h : c.get slinkAt (speedField p) = 0
  · exact (congrArg (Chip.get · slinkAt (speedField p)) (if_pos h : c.stationDown p = c)).trans h
  · refine (congrArg (Chip.get · slinkAt (speedField p)) (if_neg h)).trans ?_
    exact (Chip.record_get _ _ _ _ _ _ _ (not_recorder_slink hfirst)).trans ((Chip.get_put_clear _ _ _ hclear).trans
      (Chip.get_put_of_lt _ _ hsound (Nat.two_pow_pos _)))

theorem stationDown_lost {c : Chip} {p : Nat} (h : c.get slinkAt (speedField p) ≠ 0) : (c.stationDown p).get slinkAt (lostField p) = 1 := by
  obtain ⟨-, hsound, -, -, hfirst, -, hwidth, -⟩ := linkFields_sound p
  refine (congrArg (Chip.get · slinkAt (lostField p)) (if_neg h)).trans ?_
  exact (Chip.record_get _ _ _ _ _ _ _ (not_recorder_slink hfirst)).trans (Chip.get_put_of_lt _ _ (f := lostField p) hsound (by rw [hwidth]; decide))

/-- A link that comes up. -/
def Chip.linkCame (c : Chip) (p v : Nat) : Chip :=
  let c1 := c.put slinkAt (speedField p) v
  if c.get slinkAt (speedField p) = 0 then c1.record 28 p 0 p [0] [v] else c1

theorem linkCame_words (c : Chip) (p v : Nat) : c.WordsBut (linkWord p) (c.linkCame p v) := by
  refine .ite (fun _ => ?_) (fun _ => .put c (f := speedField p) _ (.inl rfl))
  exact .trans (.put c (f := speedField p) _ (.inl rfl)) (.record _ _ _ _ _ _ _ (fun _ h => .inr (.inr h)))

theorem linkCame_speed (c : Chip) (p : Nat) {v : Nat} (h : v < 4) : (c.linkCame p v).get slinkAt (speedField p) = v := by
  obtain ⟨hsound, -, -, hfirst, -, hwidth, -⟩ := linkFields_sound p
  have hput := Chip.get_put_of_lt c slinkAt (v := v) hsound (by rw [hwidth]; exact h)
  rw [Chip.linkCame]
  split
  · exact (Chip.record_get _ _ _ _ _ _ _ (not_recorder_slink hfirst)).trans hput
  · exact hput

section
variable {s : State} {port : Fin 2} {speed : Fin 4} {full : Bool}

theorem stationReady_fitted {c : Chip} {p : Nat} (h : c.stationReady p = true) : c.fitted p = true := by
  simp only [Chip.stationReady, Bool.and_eq_true] at h
  exact h.1.1.1.1

theorem linkLoss_to (h2 : s.chip.panel.s2At ≠ none) (hready : s.chip.stationReady port = true) (ht : s.chip.svyTarget ≠ some (3, port.val)) :
    exec (.stationLinkLoss port speed full) s = .next { s with chip :=
      if (if full then speed.val else 0) = 0 then s.chip.stationDown port else s.chip.linkCame port (if full then speed.val else 0) } := by
  have hgo : ¬ (s.chip.panel.s2At.isNone || !s.chip.fitted port.val ||
      ((if full then speed.val else 0) != 0 && (!s.chip.stationReady port.val || s.chip.svyTarget == some (3, port.val)))) = true := by
    simp [Option.isNone_iff_eq_none, h2, stationReady_fitted hready, hready, ht]
  exact chipOnly_to s (if_neg hgo)

/-- What a report of a station port's link leaves. -/
theorem linkLoss_ends (c : Chip) (p : Nat) {v : Nat} (hv : v < 4) {d : Chip} (hd : d = if v = 0 then c.stationDown p else c.linkCame p v) :
    d.get slinkAt (speedField p) = v ∧ (c.get slinkAt (speedField p) ≠ 0 → v = 0 → d.get slinkAt (lostField p) = 1) ∧ c.WordsBut (linkWord p) d := by
  subst hd
  by_cases h : v = 0
  · rw [if_pos h, h]
    exact ⟨stationDown_speed c p, fun hw _ => stationDown_lost hw, stationDown_words c p⟩
  · rw [if_neg h]
    exact ⟨linkCame_speed c p hv, fun _ h0 => absurd h0 h, linkCame_words c p v⟩
end

/-! ### Publications (R444, R445) -/

theorem pubSend_word (c : Chip) (p : PubSt) : (c.pubSend p).getI pubAt Pub.sent p.pub = min (c.getI pubAt Pub.sent p.pub + 1) Pub.sent.top := by
  have hsends := netSend_sends c 0 (leBytes 4 (c.getI pubAt Pub.dest p.pub) ++ c.datagram 0 p.pub p.seq (p.sent.getD p.data))
  have hspace : 8 ≤ spaceOf (Pub.sent.at pubAt p.pub) := by
    rw [Field.at_eq, pubAt, spaceOf]
    omega
  rw [Chip.pubSend, Chip.setNet_getI, Chip.getI_putI_bits (f := Pub.pseq) (g := Pub.sent) _ _ _ _ (by decide) rfl, Chip.getI_bumpByI_self _ _ _ _ (by decide), hsends.getI hspace]

/-- A replacement of the entry under a key is found under it. -/
theorem find_replaced_pub {l : List PubSt} {k : Nat} {p : PubSt} (f : PubSt → PubSt) (hf : ∀ q, (f q).pub = q.pub)
    (h : l.find? (fun q => q.pub == k) = some p) :
    (l.map (fun q => if q.pub = k then f q else q)).find? (fun q => q.pub == k) = some (f p) := by
  have hkey : ((fun q : PubSt => q.pub == k) ∘ fun q => if q.pub = k then f q else q) = fun q => q.pub == k := by
    funext q
    by_cases hq : q.pub = k
    · simp [hq, hf]
    · simp [hq]
  have hp : p.pub = k := by simpa using List.find?_some h
  rw [List.find?_map, hkey, h, Option.map_some, if_pos hp]

theorem pubSend_found {c : Chip} {p : PubSt} {k : Nat} (h : c.net.pubs.find? (fun q => q.pub == k) = some p) :
    (c.pubSend p).net.pubs.find? (fun q => q.pub == k) = some { p with due := false, sentAt := c.now } := by
  have hsends := netSend_sends c 0 (leBytes 4 (c.getI pubAt Pub.dest p.pub) ++ c.datagram 0 p.pub p.seq (p.sent.getD p.data))
  have hp : p.pub = k := by simpa using List.find?_some h
  have hpubs : (c.netSend 0 (leBytes 4 (c.getI pubAt Pub.dest p.pub) ++ c.datagram 0 p.pub p.seq (p.sent.getD p.data))).net.pubs = c.net.pubs := by
    obtain ⟨⟨rg, cs, n, q, hd⟩, -, -⟩ := hsends
    rw [hd]
  have hfound := find_replaced_pub (fun q => { q with due := false, sentAt := c.now }) (fun _ => rfl) h
  rw [← hpubs, ← hp] at hfound
  rw [← hp]
  exact hfound

theorem pubSend_emitted (c : Chip) (p : PubSt) : (c.pubSend p).emitted = c.emitted ++ c.onStations 0
    (leBytes 4 (c.getI pubAt Pub.dest p.pub) ++ c.datagram 0 p.pub p.seq (p.sent.getD p.data)) :=
  (netSend_sends c 0 _).emitted

theorem publicationSend_to {s : State} {pub : Fin 256} {p : PubSt} (h : s.chip.net.pubs.find? (fun p => p.pub == pub.val) = some p)
    (h8 : s.chip.phase = 8) (hstop : s.chip.sendsStopped = false) (hup : s.chip.anyStation = true) (hdue : p.due = true) :
    exec (.publicationSend pub) s = .next { s with chip := s.chip.pubSend p } := by
  refine chipOnly_to s ?_
  rw [h]
  exact if_neg (by simp [h8, hstop, hup, hdue])

/-! ### Datagrams that come in (R436, R437, R446) -/

/-- The words that a frame taken in may touch before its content is judged. -/
def heardWord (a : Nat) : Prop := counterWord a ∨ a = SLink.unique_a.at slinkAt 0 ∨ a = SLink.wrong_lan_a.at slinkAt 0

/-- What taking a frame in changes before its content is judged: counts, and what is remembered of the senders. -/
structure Chip.Hears (c d : Chip) : Prop where
  frame : ∃ rg cs n w ns, d = { c with regs := rg, ctrs := cs, freeCtr := n, net := { c.net with window := w, nodes := ns } }
  words : c.WordsBut heardWord d

namespace Chip.Hears

variable {c d e : Chip}

theorem refl (c : Chip) : c.Hears c := ⟨⟨c.regs, c.ctrs, c.freeCtr, c.net.window, c.net.nodes, rfl⟩, .refl _ c⟩

theorem trans (h : c.Hears d) (k : d.Hears e) : c.Hears e := by
  obtain ⟨⟨rg, cs, n, w, ns, hd⟩, hw⟩ := h
  obtain ⟨⟨rg', cs', n', w', ns', he⟩, hw'⟩ := k
  exact ⟨⟨rg', cs', n', w', ns', by rw [he, hd]⟩, hw.trans hw'⟩

theorem of_count (h : c.CountOnly d) : c.Hears d := by
  obtain ⟨⟨rg, cs, n, hd⟩, hw⟩ := h
  exact ⟨⟨rg, cs, n, c.net.window, c.net.nodes, hd⟩, fun a ha => hw a (fun hc => ha (.inl hc))⟩

theorem remember (c : Chip) (w : List (Nat × Nat × Nat × Nat)) (ns : List (Nat × Nat)) :
    c.Hears (c.setNet (fun n => { n with window := w, nodes := ns })) := ⟨⟨c.regs, c.ctrs, c.freeCtr, w, ns, rfl⟩, .of_regs rfl⟩

theorem bump (c : Chip) (k : Nat) {f : Field} (h : heardWord (f.at slinkAt 0)) : c.Hears (c.bumpByI slinkAt f 0 k) :=
  ⟨⟨_, c.ctrs, c.freeCtr, c.net.window, c.net.nodes, rfl⟩, .putI c _ h⟩

theorem getI (h : c.Hears d) {b i : Nat} {f : Field} (hn : ¬ heardWord (f.at b i)) : d.getI b f i = c.getI b f i := Chip.getI_congr (h.words _ hn)

theorem now (h : c.Hears d) : d.now = c.now := by
  obtain ⟨⟨rg, cs, n, w, ns, hd⟩, -⟩ := h
  rw [hd]

theorem subs (h : c.Hears d) : d.net.subs = c.net.subs := by
  obtain ⟨⟨rg, cs, n, w, ns, hd⟩, -⟩ := h
  rw [hd]

theorem safe (h : c.Hears d) : d.safe = c.safe := by
  obtain ⟨⟨rg, cs, n, w, ns, hd⟩, -⟩ := h
  rw [hd]

end Chip.Hears

/-- Words of the station link other than the ones a frame taken in may touch. -/
theorem not_heard {a : Nat} (hs : 8 ≤ spaceOf a) (hu : a ≠ SLink.unique_a.at slinkAt 0) (hl : a ≠ SLink.wrong_lan_a.at slinkAt 0) : ¬ heardWord a := by
  rintro (h | h | h)
  · exact absurd h.1 (Nat.not_lt.2 hs)
  · exact hu h
  · exact hl h

theorem prpUnique_hears (c : Chip) (old : List (Nat × Nat × Nat × Nat)) : c.Hears (c.prpUnique old) :=
  (Chip.Hears.bump c _ (.inr (.inl rfl))).trans (.bump _ _ (.inr (.inl rfl)))

theorem prpForget_hears (c : Chip) : c.Hears c.prpForget :=
  (prpUnique_hears c _).trans (.remember _ _ _)

theorem prpForget_window (c : Chip) : c.prpForget.net.window = c.net.window.filter (fun e => !decide (e.2.2.2 + 400000 < c.now)) := rfl

/-- A sender is noted where it is known or there is room. -/
def Chip.nodeSeen (c : Chip) (src : Nat) : Chip :=
  c.prpForget.setNet (fun n => { n with nodes :=
    if (assoc n.nodes src).isSome || n.nodes.length < 512 then assocSet n.nodes src c.now else n.nodes })

theorem nodeSeen_hears (c : Chip) (src : Nat) : c.Hears (c.nodeSeen src) := (prpForget_hears c).trans (.remember _ _ _)

/-- A frame counted where it passes, its sender noted. -/
def Chip.frameSeen (c : Chip) (lan src n : Nat) : Chip := (c.countPass lan 4 8 false 3 0 n).nodeSeen src

theorem frameSeen_hears (c : Chip) {lan : Nat} (src n : Nat) (h : lan < 8) : c.Hears (c.frameSeen lan src n) :=
  (Chip.Hears.of_count (countPass_only c _ _ _ _ _ _ h)).trans (nodeSeen_hears _ _)

section
variable {s : State} {lan : Fin 2} {src : BitVec 48} {payload : List Byte}

theorem datagram_plain (h : s.chip.stationUp lan = true) : exec (.datagramReceive lan src none none false payload) s =
    .next { s with chip := (s.chip.frameSeen lan src.toNat (payload.map (·.toNat)).length).takeDatagram (payload.map (·.toNat)) } := by
  refine chipOnly_to s ((if_neg ?_).trans (if_neg Bool.false_ne_true))
  rw [h]
  exact Bool.false_ne_true

/-- A copy of a frame that has been taken: counted where it names the other LAN, and discarded. -/
def Chip.copyDropped (c : Chip) (lan src q named : Nat) : Chip :=
  let c3 := if named = lan then c else c.bumpByI slinkAt (if lan = 0 then SLink.wrong_lan_a else SLink.wrong_lan_b) 0 1
  (c3.bump slinkAt SLink.dup_discarded).setNet (fun n => { n with window := n.window.map (fun e =>
    if e.1 = src && e.2.1 = q then (src, q, 2, e.2.2.2) else e) })

/-- The count of a frame that names the other LAN. -/
def Chip.lanCounted (c : Chip) (lan named : Nat) : Chip :=
  if named = lan then c else c.bumpByI slinkAt (if lan = 0 then SLink.wrong_lan_a else SLink.wrong_lan_b) 0 1

theorem lanCounted_hears (c : Chip) (lan named : Nat) : c.Hears (c.lanCounted lan named) := by
  rw [Chip.lanCounted]
  split
  · exact .refl c
  · split
    · exact .bump c 1 (.inr (.inr rfl))
    · exact .bump c 1 (.inr (.inr rfl))

theorem lanCounted_window (c : Chip) (lan named : Nat) : (c.lanCounted lan named).net.window = c.net.window := by
  rw [Chip.lanCounted]
  split
  · rfl
  · rfl

theorem copyDropped_eq (c : Chip) (lan src q named : Nat) : c.copyDropped lan src q named =
    ((c.lanCounted lan named).bump slinkAt SLink.dup_discarded).setNet (fun n => { n with window := n.window.map (fun e =>
      if e.1 = src && e.2.1 = q then (src, q, 2, e.2.2.2) else e) }) := rfl

theorem frameSeen_window (c : Chip) {lan : Nat} (src n : Nat) (h : lan < 8) :
    (c.frameSeen lan src n).net.window = c.net.window.filter (fun e => !decide (e.2.2.2 + 400000 < c.now)) := by
  have hcount := Chip.Passes.of_count (countPass_only c (r := lan) 4 8 false 3 0 n h)
  rw [← hcount.net, ← hcount.now]
  rfl

theorem datagram_copy {number : BitVec 16} {named : Fin 2} {first at_ : Nat} (h : s.chip.stationUp lan = true)
    (hw : (src.toNat, number.toNat, first, at_) ∈ s.chip.net.window) (hat : s.chip.now ≤ at_ + 400000) :
    exec (.datagramReceive lan src none (some (number, named)) false payload) s =
      .next { s with chip := (s.chip.frameSeen lan src.toNat (payload.map (·.toNat)).length).copyDropped lan src.toNat number.toNat named } := by
  have hmem : (src.toNat, number.toNat, first, at_) ∈
      ((s.chip.frameSeen lan src.toNat (payload.map (·.toNat)).length).lanCounted lan named).net.window := by
    rw [lanCounted_window, frameSeen_window _ _ _ (by omega)]
    exact List.mem_filter.2 ⟨hw, by simpa using hat⟩
  obtain ⟨e, he⟩ := Option.isSome_iff_exists.1 (List.find?_isSome.2 ⟨_, hmem, show (_ && _) = true by simp⟩ :
    (((s.chip.frameSeen lan src.toNat (payload.map (·.toNat)).length).lanCounted lan named).net.window.find?
      (fun e => e.1 == src.toNat && e.2.1 == number.toNat)).isSome = true)
  have htake : (s.chip.countPass lan 4 8 false 3 0 (payload.map (·.toNat)).length).prpTake lan src.toNat (some (number.toNat, named.val)) =
      ((s.chip.frameSeen lan src.toNat (payload.map (·.toNat)).length).copyDropped lan src.toNat number.toNat named, false) := by
    show (match ((s.chip.frameSeen lan src.toNat (payload.map (·.toNat)).length).lanCounted lan named).net.window.find?
      (fun e => e.1 == src.toNat && e.2.1 == number.toNat) with | some _ => _ | none => _) = _
    rw [he]
    rfl
  refine chipOnly_to s ((if_neg ?_).trans ?_)
  · rw [h]
    exact Bool.false_ne_true
  · simp only [Option.map_some, htake]
    exact if_pos rfl
end

/-! ### What a datagram leaves (R446) -/

theorem bad_takeDatagram (c : Chip) {bs : List Nat} (h : datagramOk bs = false) : c.takeDatagram bs = c.bump slinkAt SLink.bad_datagram := by
  rw [Chip.takeDatagram, h]
  rfl

/-- The partner of a station is found alike in two chips whose phase and partner table agree. -/
theorem partnerOf_hears {c d : Chip} (h : c.Hears d) (station : Nat) : d.partnerOf station = c.partnerOf station := by
  have hphase : d.phase = c.phase := by
    rw [Chip.phase, Chip.phase]
    exact h.getI (not_heard (by decide) (by decide) (by decide))
  have hst (k : Nat) (hk : k < 256) : d.getI partnerAt Partner.station k = c.getI partnerAt Partner.station k := by
    refine h.getI (not_heard ?_ ?_ ?_)
    all_goals
      simp only [Field.at_eq, partnerAt, spaceOf, slinkAt, Partner.station, SLink.unique_a, SLink.wrong_lan_a, Field.many, Field.one]
      omega
  rw [Chip.partnerOf, Chip.partnerOf, hphase]
  split
  · rfl
  · refine List.find?_congr (fun k hk => ?_)
    rw [hst k (List.mem_range.1 hk)]

/-- A subscription that a datagram begins. -/
def Chip.subBegun (c : Chip) (k pub q : Nat) (data : List Nat) : Chip :=
  c.setNet (fun n => { n with subs := n.subs ++ [{ partner := k, pub := pub, data := data, rxAt := c.now, last := some (q, data) }] })

theorem subTake_new {c : Chip} {k pub : Nat} (q : Nat) (data : List Nat) (h : c.net.subs.find? (fun h => h.partner == k && h.pub == pub) = none) :
    c.subTake k pub q data = c.subBegun k pub q data := by
  rw [Chip.subTake, h]
  rfl

/-- The receipt of a partner's datagram is counted and stamped. -/
def Chip.partnerHeard (c : Chip) (k : Nat) : Chip := (c.bumpByI partnerAt Partner.rx k 1).putI partnerAt Partner.rx_tick k c.tick

theorem partnerHeard_rx (c : Chip) (k : Nat) :
    (c.partnerHeard k).getI partnerAt Partner.rx k = min (c.getI partnerAt Partner.rx k + 1) Partner.rx.top :=
  (Chip.getI_putI_bits (f := Partner.rx_tick) (g := Partner.rx) _ _ _ _ (by decide) rfl).trans (Chip.getI_bumpByI_self _ _ _ _ (by decide))

theorem partnerHeard_beside (c : Chip) (k : Nat) : (c.partnerHeard k).net = c.net ∧ (c.partnerHeard k).now = c.now := by
  rw [Chip.partnerHeard, Chip.bumpByI]
  exact ⟨(Chip.putI_net _ _ _ _ _).trans (Chip.putI_net _ _ _ _ _), (Chip.putI_now _ _ _ _ _).trans (Chip.putI_now _ _ _ _ _)⟩

theorem subBegun_subs (c : Chip) (k pub q : Nat) (data : List Nat) : (c.subBegun k pub q data).net.subs =
    c.net.subs ++ [{ partner := k, pub := pub, data := data, rxAt := c.now, last := some (q, data) }] := rfl

theorem takeDatagram_published {c : Chip} {bs : List Nat} {k : Nat} (hok : datagramOk bs = true) (hkind : nth 0 bs 5 = 0)
    (hk : c.partnerOf (numAt bs 8 4) = some k) :
    c.takeDatagram bs = (c.partnerHeard k).subTake k (nth 0 bs 6) (numAt bs 12 2) (bytesAt bs 28 (numAt bs 14 2)) := by
  rw [Chip.takeDatagram, hok, if_pos rfl, hk]
  exact if_pos hkind

theorem takeDatagram_subscribes {c d : Chip} (h : c.Hears d) {bs : List Nat} {k : Nat} (hok : datagramOk bs = true) (hkind : nth 0 bs 5 = 0)
    (hk : c.partnerOf (numAt bs 8 4) = some k) (hnew : c.net.subs.find? (fun h => h.partner == k && h.pub == nth 0 bs 6) = none) :
    (d.takeDatagram bs).net.subs.length = c.net.subs.length + 1 ∧
      ((d.takeDatagram bs).net.subs.find? (fun h => h.partner == k && h.pub == nth 0 bs 6)).map (fun h => (h.data, h.rxAt, h.last)) =
        some (bytesAt bs 28 (numAt bs 14 2), c.now, some (numAt bs 12 2, bytesAt bs 28 (numAt bs 14 2))) ∧
      (d.takeDatagram bs).getI partnerAt Partner.rx k = min (c.getI partnerAt Partner.rx k + 1) Partner.rx.top := by
  have hsubs : (d.partnerHeard k).net.subs = c.net.subs := (congrArg NetSt.subs (partnerHeard_beside d k).1).trans h.subs
  have hk256 : k < 256 := by
    rw [Chip.partnerOf] at hk
    split at hk
    · exact nomatch hk
    · exact List.mem_range.1 (List.mem_of_find?_eq_some hk)
  have hrx : d.getI partnerAt Partner.rx k = c.getI partnerAt Partner.rx k := by
    refine h.getI (not_heard ?_ ?_ ?_)
    all_goals
      simp only [Field.at_eq, partnerAt, spaceOf, slinkAt, Partner.rx, SLink.unique_a, SLink.wrong_lan_a, Field.many, Field.one]
      omega
  rw [takeDatagram_published hok hkind ((partnerOf_hears h _).trans hk), subTake_new _ _ (by rw [hsubs]; exact hnew)]
  refine ⟨?_, ?_, ?_⟩
  · rw [subBegun_subs, hsubs]
    exact List.length_append
  · rw [subBegun_subs, hsubs, List.find?_append, hnew, (partnerHeard_beside d k).2, h.now]
    simp only [Option.none_or, List.find?_singleton, beq_self_eq_true, Bool.and_self, if_true, Option.map_some]
  · rw [Chip.subBegun, Chip.setNet_getI, partnerHeard_rx, hrx]

/-! ### The counters of the station link (R459) -/

theorem stationClear_words (c : Chip) : c.WordsBut (fun a => (slinkAt + 9 ≤ a ∧ a < slinkAt + 14) ∨ a = SLink.result.at slinkAt 0) c.cmdStationClear := by
  have hset (d : Chip) (k : Nat) (h9 : 9 ≤ k) (h14 : k < 14) :
      d.WordsBut (fun a => (slinkAt + 9 ≤ a ∧ a < slinkAt + 14) ∨ a = SLink.result.at slinkAt 0) (d.setNat (slinkAt + k) 0) :=
    .setWord d _ (.inl ⟨Nat.add_le_add_left h9 _, Nat.add_lt_add_left h14 _⟩)
  rw [Chip.cmdStationClear]
  exact .trans (.trans (.trans (.trans (.trans (hset c 9 (by decide) (by decide)) (hset _ 10 (by decide) (by decide))) (hset _ 11 (by decide)
    (by decide))) (hset _ 12 (by decide) (by decide))) (hset _ 13 (by decide) (by decide))) (.put _ _ (.inr rfl))

theorem stationClear_zero (c : Chip) {k : Nat} (h : k < 5) : c.cmdStationClear.nat (slinkAt + 9 + k) = 0 := by
  have hother (d : Chip) {a b : Nat} (hab : b ≠ a) (h0 : d.nat b = 0) : (d.setNat a 0).nat b = 0 := by
    rw [Chip.nat, Chip.word_setNat_other d 0 hab]; exact h0
  have hself (d : Chip) (a : Nat) : (d.setNat a 0).nat a = 0 := Chip.nat_setNat_same d a 0
  have hput (d : Chip) (v : Nat) {a : Nat} (ha : a ≠ SLink.result.at slinkAt 0) (h0 : d.nat a = 0) : (d.put slinkAt SLink.result v).nat a = 0 := by
    rw [Chip.nat, Chip.word_put_other d v ha]; exact h0
  interval_cases k
  · exact hput _ _ (by decide) (hother _ (by decide) (hother _ (by decide) (hother _ (by decide) (hother _ (by decide) (hself _ _)))))
  · exact hput _ _ (by decide) (hother _ (by decide) (hother _ (by decide) (hother _ (by decide) (hself _ _))))
  · exact hput _ _ (by decide) (hother _ (by decide) (hother _ (by decide) (hself _ _)))
  · exact hput _ _ (by decide) (hother _ (by decide) (hself _ _))
  · exact hput _ _ (by decide) (hself _ _)

theorem hears_get {c d : Chip} (h : c.Hears d) {f : Field} (hf : (SLink.unique_a.at slinkAt 0 != f.at slinkAt 0 && SLink.wrong_lan_a.at slinkAt 0 !=
    f.at slinkAt 0 && decide (8 ≤ spaceOf (f.at slinkAt 0))) = true) : d.get slinkAt f = c.get slinkAt f := by
  simp only [Bool.and_eq_true, bne_iff_ne, decide_eq_true_eq] at hf
  obtain ⟨⟨hu, hl⟩, hs⟩ := hf
  exact h.getI (not_heard hs hu.symm hl.symm)

/-- A datagram that fails a check is counted. -/
theorem bad_ends {c d : Chip} (h : c.Hears d) {bs : List Nat} (hbad : datagramOk bs = false) :
    (d.takeDatagram bs).get slinkAt SLink.bad_datagram = min (c.get slinkAt SLink.bad_datagram + 1) SLink.bad_datagram.top ∧
      (d.takeDatagram bs).net.subs = c.net.subs ∧ (d.takeDatagram bs).safe = c.safe := by
  rw [bad_takeDatagram d hbad]
  refine ⟨?_, (congrArg NetSt.subs (Chip.bump_net _ _ _)).trans h.subs, (Chip.bump_safe _ _ _).trans h.safe⟩
  rw [Chip.bump_get_self _ _ (by decide), hears_get h (by decide)]

/-- A copy of a frame is counted and discarded. -/
theorem copy_ends {c d : Chip} (h : c.Hears d) (lan src q named : Nat) :
    (d.copyDropped lan src q named).get slinkAt SLink.dup_discarded = min (c.get slinkAt SLink.dup_discarded + 1) SLink.dup_discarded.top ∧
      (d.copyDropped lan src q named).net.subs = c.net.subs ∧ (d.copyDropped lan src q named).safe = c.safe := by
  have hall := h.trans (lanCounted_hears d lan named)
  rw [copyDropped_eq]
  refine ⟨?_, hall.subs, hall.safe⟩
  rw [Chip.setNet_get, Chip.bump_get_self _ _ (by decide), hears_get hall (by decide)]

/-- Settles O34: the link of a port from the fields a report writes, what is sent from `netSend_sends`, and a frame that comes in from what is
noted of it before its content is judged (`Chip.Hears`). -/
theorem stationPorts : Obligations.StationPorts := by
  unfold Obligations.StationPorts
  intro s hs
  refine ⟨fun port speed full h2 hready ht => ?_, fun h2 hat hup => ?_, fun lan mac ip peer ident number data hup hip => ⟨fun target hne => ⟨?_, ?_⟩,
    fun target he => ⟨?_, ?_, ?_⟩⟩, fun pub p hfind h8 hstop hup hdue => ?_, fun lan src payload hup => ⟨fun hbad => ?_,
    fun number named first at_ hw hat => ?_, fun k hok hkind hk hnew => ?_⟩, ?_⟩
  · have hv : (if full = true then speed.val else 0) < 4 := by split <;> omega
    obtain ⟨hspeed, hlost, hwords⟩ := linkLoss_ends s.chip port.val hv rfl
    have hport : (if port = 0 then SLink.na_speed else SLink.nb_speed) = speedField port.val ∧
        (if port = 0 then SLink.na_lost else SLink.nb_lost) = lostField port.val := by
      fin_cases port
      · exact ⟨rfl, rfl⟩
      · exact ⟨rfl, rfl⟩
    dsimp only
    rw [hport.1, hport.2]
    refine ⟨_, linkLoss_to h2 hready ht, hspeed, fun hwas hnew => hlost hwas ?_, StoresKept.chip s _, hwords.kept⟩
    rcases hnew with hf | h0
    · rw [hf]; rfl
    · rw [h0]; exact ite_self 0
  · have hsends := netSend_sends s.chip 4 (leBytes 4 (s.chip.get slinkAt SLink.mac_lo) ++ leBytes 2 (s.chip.get slinkAt SLink.mac_hi) ++ beBytes 2 s.chip.net.prpSeq)
    have hseq := congrArg NetSt.prpSeq (hsends.net hup)
    exact ⟨_, chipOnly_to s (if_neg (by simp [Option.isNone_iff_eq_none, h2, hat, hup])), congrArg (fun n => (n + 1) % 65536) hseq, rfl, hsends.emitted, StoresKept.chip s _⟩
  · exact chipOnly_to s (d := s.chip) (if_pos (by simp [hne]))
  · exact chipOnly_to s (d := s.chip) (if_pos (by simp [hne]))
  · exact ⟨_, chipOnly_to s (if_neg (by simp [hup, hip, he])), (netSend_sends s.chip 5 _).emitted, StoresKept.chip s _⟩
  · exact ⟨_, chipOnly_to s (if_neg (by simp [hup, hip, he])), (netSend_sends s.chip 6 _).emitted, StoresKept.chip s _⟩
  · exact chipOnly_to s (d := s.chip) (if_pos (Bool.or_true _))
  · have hp : p.pub = pub.val := by simpa using List.find?_some hfind
    have hem := pubSend_emitted s.chip p
    have hword := pubSend_word s.chip p
    rw [hp] at hem hword
    exact ⟨_, publicationSend_to hfind h8 hstop hup hdue, hem, pubSend_found hfind, hword, StoresKept.chip s _⟩
  · obtain ⟨hcount, hsubs, hsafe⟩ := bad_ends (frameSeen_hears s.chip (lan := lan) src.toNat (payload.map (·.toNat)).length (by omega)) hbad
    exact ⟨_, datagram_plain hup, hcount, hsubs, hsafe, StoresKept.chip s _⟩
  · obtain ⟨hcount, hsubs, hsafe⟩ := copy_ends (frameSeen_hears s.chip (lan := lan) src.toNat (payload.map (·.toNat)).length (by omega)) lan src.toNat
      number.toNat named
    exact ⟨_, datagram_copy hup hw hat, hcount, hsubs, hsafe, StoresKept.chip s _⟩
  · obtain ⟨hlen, hfound, hrx⟩ := takeDatagram_subscribes (frameSeen_hears s.chip (lan := lan) src.toNat (payload.map (·.toNat)).length (by omega)) hok
      hkind hk hnew
    exact ⟨_, datagram_plain hup, hlen, hfound, hrx, StoresKept.chip s _⟩
  · exact ⟨_, rfl, fun k hk => stationClear_zero s.chip hk, Chip.get_put_of_lt _ _ (by decide) (by decide), rfl, (stationClear_words s.chip).kept⟩

end Sys2Proof.Machine
end

section
/-! SUPPORT. O10: the commands of the survey block. -/

namespace Sys2Proof.Machine

/-! ### The word of the running command (Table 4.9) -/

/-- The word of the survey block that holds the target and the result is as it was. -/
def Chip.SvyKept (c d : Chip) : Prop := d.word (surveyAt + 3) = c.word (surveyAt + 3)

namespace Chip.SvyKept

variable {c d e : Chip}

theorem refl (c : Chip) : c.SvyKept c := rfl

theorem trans (h : c.SvyKept d) (k : d.SvyKept e) : c.SvyKept e := Eq.trans k h

theorem of_regs (h : d.regs = c.regs) : c.SvyKept d := by rw [SvyKept, Chip.word, h, Chip.word]

theorem setWord (c : Chip) {a : Nat} (v : Word) (h : a ≠ surveyAt + 3) : c.SvyKept (c.setWord a v) := Chip.word_setWord_other c v h.symm

theorem putI (c : Chip) {b i : Nat} {f : Field} (v : Nat) (h : f.at b i ≠ surveyAt + 3) : c.SvyKept (c.putI b f i v) := setWord c _ h

theorem put (c : Chip) {b : Nat} {f : Field} (v : Nat) (h : f.at b 0 ≠ surveyAt + 3) : c.SvyKept (c.put b f v) := setWord c _ h

theorem record (c : Chip) (source region severity subject : Nat) (bs ws : List Nat) : c.SvyKept (c.record source region severity subject bs ws) :=
  Chip.record_word c _ _ _ _ _ _ (by decide)

theorem ite {b : Prop} [Decidable b] (h : b → c.SvyKept d) (k : ¬ b → c.SvyKept e) : c.SvyKept (if b then d else e) := by
  split
  · next hb => exact h hb
  · next hb => exact k hb

theorem each {α : Type} {f : Chip → α → Chip} (l : List α) (h : ∀ c : Chip, ∀ x ∈ l, c.SvyKept (f c x)) (c : Chip) : c.SvyKept (c.each l f) :=
  Chip.each_rel refl (fun _ _ _ => trans) l h c

theorem when (b : Bool) {f : Chip → Chip} (h : ∀ c : Chip, c.SvyKept (f c)) (c : Chip) : c.SvyKept (c.when b f) := ite (fun _ => h c) (fun _ => refl c)

theorem get (h : c.SvyKept d) {f : Field} (hf : f.first = 3) : d.get surveyAt f = c.get surveyAt f :=
  Chip.get_congr (by rw [Field.at_eq, hf, Nat.zero_mul]; exact h)

theorem target (h : c.SvyKept d) : d.svyTarget = c.svyTarget := by rw [svyTarget, svyTarget, h.get rfl, h.get rfl]

/-- A block of another number keeps the word. -/
theorem block_ne {r b o : Nat} (hb : b < 4096) (ho : o < 65536) (h : b ≠ 0x50) : blockAddr r b + o ≠ surveyAt + 3 := fun e =>
  h ((blockOf_blockAddr hb ho).symm.trans (congrArg blockOf e))

theorem of_chan {g : Nat} {ws : List Nat} (h : c.ChanMoves g ws d) (hws : ∀ w ∈ ws, w < 65536) : c.SvyKept d :=
  h.words _ (by decide) (fun w hw => (block_ne (by omega) (hws w hw) (by omega)).symm)

theorem of_axis {x : Nat} (h : c.AxMoves x d) : c.SvyKept d := h.words _ (by decide) (fun hx => by
  have hblock : (0x50 : Nat) = 0x20 + x % 2 := hx.2
  omega)

theorem of_objs {r : Nat} (h : c.Requeues r d) : c.SvyKept d := h.words _ (fun hr => by
  simp only [objWord, portAt, blockAddr, surveyAt] at hr
  omega)

theorem port (c : Chip) (r : Nat) {f : Field} (v : Nat) (h : f.first < 65536) : c.SvyKept (c.put (portAt r) f v) :=
  put c v (by rw [Field.at_eq, Nat.zero_mul, Nat.add_zero]; exact block_ne (by decide) h (by decide))

end Chip.SvyKept

/-! ### What a hold changes (R108, R109) -/

theorem deenergise_moves (c : Chip) (g : Nat) : c.ChanMoves g driveOffs (c.deenergise g) := by
  have hswitch : c.ChanMoves g driveOffs ((c.setChan g (fun h => { h with driven := false, pwmOn := false, alarm := false })).setSwitch g false) :=
    (Chip.ChanMoves.setChan c g _ _).trans ((Chip.setSwitch_moves _ g _).mono (by decide))
  have hcommand := Chip.ChanMoves.ite (b := outMode (c.mode g) = true) (fun _ => hswitch.trans (.put _ g (f := Chan.command) 0 (by decide)))
    (fun _ => hswitch)
  exact .ite (fun _ => hcommand.trans (.put _ g (f := Chan.bellows_mv) 4000 (by decide))) (fun _ => hcommand)

/-- The record of a target stands above the survey block's own words. -/
theorem recAt_above (kind idx : Nat) : surveyAt + 0x100 ≤ recAt kind idx := by
  rw [recAt]
  refine Nat.add_le_add_left ?_ _
  split_ifs <;> omega

theorem recAt_ne (kind idx w : Nat) : recAt kind idx + w ≠ surveyAt + 3 := by
  have h := recAt_above kind idx
  omega

theorem recAt_field (kind idx : Nat) (f : Field) (i : Nat) : f.at (recAt kind idx) i ≠ surveyAt + 3 := by
  rw [Field.at_eq]
  exact recAt_ne kind idx _

theorem oosBit_svy (c : Chip) (kind idx : Nat) (on : Bool) : c.SvyKept (c.oosBit kind idx on) := by
  have hrec : c.SvyKept (c.put (recAt kind idx) SRec.oos (b2n on)) := .put c _ (recAt_field _ _ _ _)
  refine .ite (fun _ => hrec.trans (.setWord _ _ (by omega))) (fun _ => .ite (fun _ => hrec.trans (.put _ _ (by decide))) (fun _ => ?_))
  refine .ite (fun _ => hrec.trans (.put _ _ (by decide))) (fun _ => .ite (fun _ => hrec.trans (.put _ _ (by decide))) (fun _ => ?_))
  exact .ite (fun _ => hrec.trans (.put _ _ (by decide))) (fun _ => hrec)

theorem putStatus_svy (c : Chip) (g : Nat) : c.SvyKept (c.putStatus g) := .of_chan (Chip.putStatus_moves c g) (by decide)

theorem holdChan_svy (c : Chip) (g : Nat) (on : Bool) : c.SvyKept ((if on && outMode ((c.setChan g (fun h => { h with oos := on })).mode g) then
    (c.setChan g (fun h => { h with oos := on })).deenergise g else c.setChan g (fun h => { h with oos := on })).putStatus g) := by
  have hset : c.SvyKept (c.setChan g (fun h => { h with oos := on })) := .of_regs rfl
  exact .trans (.ite (fun _ => hset.trans (.of_chan (deenergise_moves _ g) (by decide))) (fun _ => hset)) (putStatus_svy _ g)

theorem portSync_svy (c : Chip) (r : Nat) : c.SvyKept (c.portSync r) := by
  have hoff : ∀ d : Chip, d.SvyKept (d.put (portAt r) Port.off_reason (c.portCause r)) := fun d => .port d r _ (by decide)
  refine .ite (fun _ => .ite (fun _ => hoff c) (fun _ => ?_)) (fun _ => .ite (fun _ => ?_) (fun _ => .refl c))
  · have hflag (d : Chip) : d.SvyKept (d.pOn r 8) := .setWord d _ (Chip.SvyKept.block_ne (by decide) (by decide) (by decide))
    exact ((((Chip.SvyKept.of_objs (Chip.Requeues.requeue c r)).trans (hoff _)).trans (.port _ r _ (by decide))).trans (hflag _)).trans
      (.record _ _ _ _ _ _ _)
  · have hregs : c.SvyKept (c.restartRegs r) := ((Chip.SvyKept.port c r 0 (by decide)).trans (.port _ r _ (by decide))).trans (.port _ r _ (by decide))
    exact hregs.trans (.of_objs (rejoining_requeues c r false))

theorem stationDown_svy (c : Chip) (p : Nat) : c.SvyKept (c.stationDown p) := by
  refine stationDown_words c p _ ?_
  obtain ⟨-, -, -, hfirst, -⟩ := linkFields_sound p
  rintro (h | h | h)
  · rw [Field.at_eq, slinkAt, surveyAt] at h
    omega
  · exact absurd h (by decide)
  · exact absurd (show spaceOf (surveyAt + 3) = 10 from h) (by decide)

theorem panelRelease_svy (c : Chip) : c.SvyKept c.panelRelease := (panelRelease_moves c).words _ (by decide)

theorem holdTarget_svy (c : Chip) (kind idx : Nat) (on : Bool) : c.SvyKept (c.holdTarget kind idx on) := by
  have hbit := oosBit_svy c kind idx on
  refine .ite (fun _ => hbit.trans (holdChan_svy _ idx on)) (fun _ => .ite (fun _ => hbit.trans (.of_axis ((Chip.AxMoves.refl idx _).stageCause 4 on)))
    (fun _ => .ite (fun _ => hbit.trans (portSync_svy _ idx)) (fun _ => ?_)))
  refine .ite (fun _ => .ite (fun _ => hbit.trans (stationDown_svy _ idx)) (fun _ => hbit)) (fun _ => .ite (fun _ => ?_) (fun _ => hbit))
  exact .ite (fun _ => hbit.trans (panelRelease_svy _)) (fun _ => hbit.trans (.of_regs rfl))

theorem holdLater_svy (c : Chip) (kind idx : Nat) (on : Bool) : c.SvyKept (c.holdLater kind idx on) :=
  .ite (fun _ => .of_regs rfl) (fun _ => holdTarget_svy c kind idx on)

/-! ### What the results of a survey change (R103, R106) -/

theorem putResult_svy (c : Chip) (kind idx q e v : Nat) : c.SvyKept (c.putResult kind idx q e v) := by
  unfold Chip.putResult
  split
  · exact (Chip.SvyKept.setWord c _ (recAt_ne _ _ _)).trans (.put _ _ (recAt_field _ _ _ _))
  · exact .refl c

theorem putLengths_svy (c : Chip) (kind idx : Nat) (qs : List Nat) : c.SvyKept (c.putLengths kind idx qs) :=
  .ite (fun _ => putResult_svy _ _ _ _ _ _) (fun _ => .ite (fun _ => putResult_svy _ _ _ _ _ _) (fun _ => .refl c))

theorem putResults_svy (c : Chip) (kind idx : Nat) (rs : List (Nat × Nat × Nat)) : c.SvyKept (c.putResults kind idx rs) := by
  have hclear : c.SvyKept (c.put (recAt kind idx) SRec.measured 0) := .put c _ (recAt_field _ _ _ _)
  have hall := (hclear.trans (.each (if kind = 0 then c.leadResult idx rs else rs) (fun c r _ => putResult_svy c kind idx r.1 r.2.1 r.2.2) _)).trans
    (putLengths_svy _ kind idx (rs.map (·.1)))
  have hcoil := hall.trans (Chip.SvyKept.when (kind == 1 && coilKnown rs) (f := (·.setAx idx (fun h => { h with coil := true }))) (fun d => .of_regs rfl) _)
  exact .ite (fun _ => hcoil) (fun _ => hcoil.trans (.setWord _ _ (recAt_ne _ _ _)))

theorem foldl_svy {α : Type} {f : Chip → α → Chip} (l : List α) (h : ∀ (c : Chip) (x : α), c.SvyKept (f c x)) (c : Chip) :
    c.SvyKept (l.foldl f c) := Chip.SvyKept.each l (fun c x _ => h c x) c

/-- One expectation of a target, judged. -/
def judgeOne (kind idx : Nat) (r : Chip × Nat × Bool) (x : Expect) : Chip × Nat × Bool :=
  match r.1.failing x with
  | none => r
  | some m =>
    let c1 := r.1.putBit (recAt kind idx) SRec.mismatch (x.quantity - quantityBase kind) true
    let c2 := if x.outcome = 0 then c1 else c1.recordExpect kind idx x.quantity x.element m x.e
    (c2, r.2.1 + 1, r.2.2 || (x.outcome == 2 && decide (kind ≤ 4)))

theorem judgeOne_svy (kind idx : Nat) (r : Chip × Nat × Bool) (x : Expect) : r.1.SvyKept (judgeOne kind idx r x).1 := by
  unfold judgeOne
  split
  · exact .refl _
  · have hbit (i : Nat) : r.1.SvyKept (r.1.putBit (recAt kind idx) SRec.mismatch i true) := .put _ _ (recAt_field _ _ _ _)
    exact .ite (fun _ => hbit _) (fun _ => (hbit _).trans (.record _ _ _ _ _ _ _))

theorem judgeAll_svy (kind idx : Nat) (xs : List Expect) (r : Chip × Nat × Bool) : r.1.SvyKept (xs.foldl (judgeOne kind idx) r).1 := by
  induction xs generalizing r with
  | nil => exact .refl _
  | cons x xs ih => exact (judgeOne_svy kind idx r x).trans (ih _)

theorem judgeTarget_svy (c : Chip) (kind idx when_ : Nat) : c.SvyKept (c.judgeTarget kind idx when_).1 :=
  (foldl_svy (f := fun d q => if d.getBit (recAt kind idx) SRec.measured q then d.putBit (recAt kind idx) SRec.mismatch q false else d) (List.range 8)
    (fun d _ => .ite (fun _ => .put d _ (recAt_field _ _ _ _)) (fun _ => .refl d)) c).trans (judgeAll_svy kind idx _ _)

/-! ### The end of a survey (R106 to R111) -/

/-- The results of a survey stored and judged. -/
def Chip.surveyStored (c : Chip) (kind idx : Nat) (results : List (Fin 256 × Fin 8 × BitVec 32)) : Chip × Nat × Bool :=
  (c.putResults kind idx ((results.map (fun r => (r.1.val, r.2.1.val, r.2.2.toNat))).filter (fun r =>
    (quantitiesOf kind).contains r.1 && c.onDemand kind idx r.1))).judgeTarget kind idx 1

/-- Its failures counted, and the hold that follows from them. -/
def Chip.surveyHeld (c : Chip) (cmd kind idx n : Nat) (hold : Bool) : Chip :=
  let c2 := c.bumpByI surveyAt Survey.mismatch_run 0 n
  let isOos := c2.flag (recAt kind idx) SRec.oos
  if cmd = 2 && n = 0 && isOos then c2.holdLater kind idx false else if hold && !isOos then c2.holdLater kind idx true else c2

theorem surveyHeld_svy (c : Chip) (cmd kind idx n : Nat) (hold : Bool) : c.SvyKept (c.surveyHeld cmd kind idx n hold) := by
  have hcount : c.SvyKept (c.bumpByI surveyAt Survey.mismatch_run 0 n) := .putI c _ (by decide)
  exact .ite (fun _ => hcount.trans (holdLater_svy _ _ _ _)) (fun _ => .ite (fun _ => hcount.trans (holdLater_svy _ _ _ _)) (fun _ => hcount))

/-- A channel that an action releases. -/
def ChanSt.released (h : ChanSt) (now : Nat) : ChanSt :=
  { h with tempering := false, surveyed := false, rampAt := if h.ramp = 0 then h.rampAt else now }

/-- The targets of an ended action are released, and its end recorded. -/
def Chip.svyReleased (c : Chip) (kind idx : Nat) : Chip :=
  if kind = 0 then c.each ((List.range 128).filter c.svyHolds) (fun c' g => (c'.setChan g (·.released c'.now)).putStatus g)
  else if kind = 2 then c.setPort idx (fun p => { p with termOpen := none }) else c

theorem svyReleased_svy (c : Chip) (kind idx : Nat) : c.SvyKept (c.svyReleased kind idx) :=
  .ite (fun _ => .each _ (fun d g _ => .trans (d := d.setChan g (·.released d.now)) (.of_regs rfl) (putStatus_svy _ g)) c)
    (fun _ => .ite (fun _ => .of_regs rfl) (fun _ => .refl c))

/-- The end of an action, in its steps. -/
theorem svyEnd_of_target {c : Chip} {kind idx : Nat} (h : c.svyTarget = some (kind, idx)) (result off gain : Nat) : c.svyEnd result off gain =
    ((c.put surveyAt Survey.result result).svyReleased kind idx).record 13 (svyRegion kind idx) (if result = 5 || result = 6 then 1 else 0)
      (svySubject kind idx) [c.sys.svyCmd, result] [off, gain] := by
  unfold Chip.svyEnd
  rw [h]
  rfl

/-- An ended action holds its result. -/
theorem svyEnd_result {c : Chip} (h : c.svyTarget ≠ none) {result : Nat} (hr : result < 256) (off gain : Nat) :
    (c.svyEnd result off gain).get surveyAt Survey.result = result := by
  obtain ⟨⟨kind, idx⟩, ht⟩ := Option.ne_none_iff_exists'.1 h
  rw [svyEnd_of_target ht, ((svyReleased_svy _ kind idx).trans (.record _ _ _ _ _ _ _)).get rfl]
  exact Chip.get_put_of_lt c _ (by decide) hr

/-- No action runs where the result is not 1. -/
theorem svyTarget_none {c : Chip} (h : c.get surveyAt Survey.result ≠ 1) : c.svyTarget = none := if_neg h

theorem svyTarget_some {c : Chip} (h : c.get surveyAt Survey.result = 1) :
    c.svyTarget = some (c.get surveyAt Survey.target / 256, c.get surveyAt Survey.target % 256) := if_pos h

/-- A survey that runs for a command other than temper ends. -/
theorem surveyComplete_ends (s : State) (results : List (Fin 256 × Fin 8 × BitVec 32)) (ht : s.chip.svyTarget ≠ none) (hcmd : s.chip.sys.svyCmd ≠ 1) :
    ∃ t, exec (.surveyComplete results) s = .next t ∧ t.chip.svyTarget = none ∧
      (t.chip.get surveyAt Survey.result = 2 ∨ t.chip.get surveyAt Survey.result = 6) ∧ StoresKept s t := by
  obtain ⟨⟨kind, idx⟩, htarget⟩ := Option.ne_none_iff_exists'.1 ht
  let r := s.chip.surveyStored kind idx results
  have hrun : exec (.surveyComplete results) s =
      .next { s with chip := (r.1.surveyHeld s.chip.sys.svyCmd kind idx r.2.1 r.2.2).svyEnd (if r.2.1 = 0 then 2 else 6) 0 0 } := by
    refine chipOnly_to s ?_
    rw [htarget]
    exact if_neg hcmd
  have hkept : s.chip.SvyKept (r.1.surveyHeld s.chip.sys.svyCmd kind idx r.2.1 r.2.2) :=
    ((putResults_svy _ _ _ _).trans (judgeTarget_svy _ _ _ _)).trans (surveyHeld_svy _ _ _ _ _ _)
  have hheld := hkept.target ▸ ht
  by_cases hn : r.2.1 = 0
  · have hresult := svyEnd_result hheld (result := 2) (by decide) 0 0
    rw [if_pos hn] at hrun
    exact ⟨_, hrun, svyTarget_none (by rw [hresult]; decide), .inl hresult, .chip s _⟩
  · have hresult := svyEnd_result hheld (result := 6) (by decide) 0 0
    rw [if_neg hn] at hrun
    exact ⟨_, hrun, svyTarget_none (by rw [hresult]; decide), .inr hresult, .chip s _⟩

/-! ### The command word (R110) -/

/-- A command word holds its one bit below the fields of its target. -/
theorem surveyWord_testBit {b : Nat} (hb : b < 3) (kind idx i : Nat) (hi : i < 3) : (surveyWord b kind idx).testBit i = decide (i = b) := by
  have hword : surveyWord b kind idx = 2 ^ 8 * (2 ^ 8 * kind + idx) + 2 ^ b := by
    rw [surveyWord]
    omega
  have hlow : 2 ^ b < 2 ^ 8 := Nat.pow_lt_pow_right (by decide) (by omega)
  rw [hword, Nat.testBit_two_pow_mul_add _ hlow, if_pos (by omega), Nat.testBit_two_pow]
  exact decide_eq_decide.2 eq_comm

theorem surveyWord_bits {b : Nat} (hb : b < 3) (kind idx : Nat) : (List.range 3).filter (surveyWord b kind idx).testBit = [b] := by
  have hbits : (List.range 3).filter (surveyWord b kind idx).testBit = (List.range 3).filter (fun i => decide (i = b)) :=
    List.filter_congr (fun i hi => surveyWord_testBit hb kind idx i (List.mem_range.1 hi))
  rw [hbits]
  interval_cases b <;> rfl

theorem surveyWord_kind {b kind idx : Nat} (hb : b < 3) (hk : kind < 8) (hi : idx < 256) : surveyWord b kind idx / 2 ^ 16 % 8 = kind := by
  have hlow : 2 ^ b < 256 := Nat.pow_lt_pow_right (n := 8) (by decide) (by omega)
  simp only [surveyWord, Nat.reducePow]
  generalize 2 ^ b = bit at hlow ⊢
  omega

theorem surveyWord_index {b kind idx : Nat} (hb : b < 3) (hi : idx < 256) : surveyWord b kind idx / 2 ^ 8 % 256 = idx := by
  have hlow : 2 ^ b < 256 := Nat.pow_lt_pow_right (n := 8) (by decide) (by omega)
  simp only [surveyWord, Nat.reducePow]
  generalize 2 ^ b = bit at hlow ⊢
  omega

/-- May the command of a bit begin on the target (R110 to R112)? -/
def Chip.svyAllowed (c : Chip) (b kind idx : Nat) : Bool :=
  if b = 0 then c.surveyAllowed kind idx else if b = 1 then c.temperAllowed kind idx else decide (kind ≤ 4) && c.surveyAllowed kind idx

/-- A command with no action running is allowed and begins, or answers 3. -/
theorem surveyCommand_word {c : Chip} (hfree : c.get surveyAt Survey.result ≠ 1) {b kind idx : Nat} (hb : b < 3) (hk : kind < 8) (hi : idx < 256) :
    c.surveyCommand (surveyWord b kind idx) =
      if c.svyAllowed b kind idx then c.surveyBegin b kind idx else c.put surveyAt Survey.result 3 := by
  unfold Chip.surveyCommand
  rw [if_neg hfree, surveyWord_bits hb, surveyWord_kind hb hk hi, surveyWord_index hb hi]
  interval_cases b <;> rfl

/-! ### The beginning of an action (R110 to R112) -/

/-- A channel that a temper calibrates. -/
def ChanSt.tempers (h : ChanSt) (command : Nat) : ChanSt := { h with tempering := true, temperCmd := command }

/-- Its target noted, and the result that says that it runs. -/
def Chip.svyNoted (c : Chip) (b kind idx : Nat) : Chip :=
  ((c.put surveyAt Survey.target (256 * kind + idx)).put surveyAt Survey.result 1).setSys (fun s => { s with svyCmd := b, svyOff := [], svyGain := [] })

theorem surveyBegin_eq (c : Chip) (b kind idx : Nat) : c.surveyBegin b kind idx =
    if kind = 0 && b = 1 then (c.svyNoted b kind idx).each ((c.svyNoted b kind idx).svyChans idx) (fun d g =>
      (d.setChan g (·.tempers (d.get (chanAt g) Chan.command))).putStatus g)
    else if kind = 0 && !outMode (c.mode idx) then ((c.svyNoted b kind idx).setChan idx (fun h => { h with surveyed := true })).putStatus idx
    else if kind = 2 then (c.svyNoted b kind idx).setPort idx (fun p => { p with termOpen := some c.now })
    else if kind = 3 then (c.svyNoted b kind idx).stationDown idx
    else c.svyNoted b kind idx := rfl

/-- The running action and its target are as they were. -/
def Chip.SvyRuns (c d : Chip) : Prop := c.SvyKept d ∧ d.sys = c.sys

namespace Chip.SvyRuns

variable {c d e : Chip}

theorem refl (c : Chip) : c.SvyRuns c := ⟨.refl c, rfl⟩

theorem trans (h : c.SvyRuns d) (k : d.SvyRuns e) : c.SvyRuns e := ⟨h.1.trans k.1, k.2.trans h.2⟩

theorem of_chan {g : Nat} {ws : List Nat} (h : c.ChanMoves g ws d) (hws : ∀ w ∈ ws, w < 65536) : c.SvyRuns d := by
  refine ⟨.of_chan h hws, ?_⟩
  obtain ⟨rg, cs, rc, hd⟩ := h.frame
  rw [hd]

end Chip.SvyRuns

theorem stationDown_sys (c : Chip) (p : Nat) : (c.stationDown p).sys = c.sys := by
  unfold Chip.stationDown
  dsimp only
  split_ifs <;> first | rfl | exact Chip.record_sys _ _ _ _ _ _ _

theorem surveyBegin_runs (c : Chip) (b kind idx : Nat) : (c.svyNoted b kind idx).SvyRuns (c.surveyBegin b kind idx) := by
  have hchan (d : Chip) (g : Nat) (f : ChanSt → ChanSt) : d.SvyRuns ((d.setChan g f).putStatus g) :=
    .of_chan ((Chip.ChanMoves.setChan d g _ f).trans (Chip.putStatus_moves _ g)) (by decide)
  rw [surveyBegin_eq]
  split_ifs
  · exact Chip.each_rel Chip.SvyRuns.refl (fun _ _ _ => Chip.SvyRuns.trans) _ (fun d g _ => hchan d g _) _
  · exact hchan _ _ _
  · exact ⟨.of_regs rfl, rfl⟩
  · exact ⟨stationDown_svy _ _, stationDown_sys _ _⟩
  · exact .refl _

/-- An action begins: its target, its command, and no calibration yet. -/
theorem surveyBegin_target (c : Chip) (b : Nat) {kind idx : Nat} (hk : kind < 8) (hi : idx < 256) :
    (c.surveyBegin b kind idx).svyTarget = some (kind, idx) ∧ (c.surveyBegin b kind idx).sys = { c.sys with svyCmd := b, svyOff := [], svyGain := [] } := by
  obtain ⟨hword, hsys⟩ := surveyBegin_runs c b kind idx
  refine ⟨?_, hsys⟩
  have hresult : (c.svyNoted b kind idx).get surveyAt Survey.result = 1 := by
    rw [Chip.svyNoted, Chip.setSys_get, Chip.get_put_of_lt _ _ (by decide) (by decide)]
  have htarget : (c.svyNoted b kind idx).get surveyAt Survey.target = 256 * kind + idx := by
    rw [Chip.svyNoted, Chip.setSys_get, Chip.get_put_clear _ _ _ (by decide),
      Chip.get_put_of_lt _ _ (by decide) (show 256 * kind + idx < 2 ^ 11 by omega)]
  rw [hword.target, svyTarget_some hresult, htarget]
  exact congrArg some (Prod.ext (by simp only []; omega) (by simp only []; omega))

theorem survey_begins (s : State) {b kind idx : Nat} (hfree : s.chip.get surveyAt Survey.result ≠ 1) (hb : b < 3) (hk : kind < 8) (hi : idx < 256)
    (h : s.chip.svyAllowed b kind idx = true) : ∃ t, chipOnly s (·.surveyCommand (surveyWord b kind idx)) = .next t ∧
      t.chip.svyTarget = some (kind, idx) ∧ t.chip.sys.svyCmd = b ∧ t.chip.sys.svyOff = [] ∧ t.chip.sys.svyGain = [] ∧ StoresKept s t := by
  obtain ⟨htarget, hsys⟩ := surveyBegin_target s.chip b hk hi
  refine ⟨_, chipOnly_to s ((surveyCommand_word hfree hb hk hi).trans (if_pos h)), htarget, ?_, ?_, ?_, .chip s _⟩ <;> rw [hsys]

theorem survey_refused (s : State) {b kind idx : Nat} (hfree : s.chip.get surveyAt Survey.result ≠ 1) (hb : b < 3) (hk : kind < 8) (hi : idx < 256)
    (h : s.chip.svyAllowed b kind idx = false) : ∃ t, chipOnly s (·.surveyCommand (surveyWord b kind idx)) = .next t ∧
      t.chip.get surveyAt Survey.result = 3 ∧ t = { s with chip := { s.chip with regs := t.chip.regs } } ∧
      WordsKept (fun a => a = surveyAt + 3) s t :=
  ⟨_, chipOnly_to s ((surveyCommand_word hfree hb hk hi).trans (if_neg (by rw [h]; decide))), Chip.get_put_of_lt _ _ (by decide) (by decide), rfl,
    fun a ha => Chip.word_setWord_other _ _ ha⟩

/-! ### Temper (R241, Table 8.9) -/

/-- The word that holds a channel's calibration is as it was. -/
def Chip.CalKept (c d : Chip) : Prop := ∀ g < 128, d.word (chanAt g + 0x13) = c.word (chanAt g + 0x13)

theorem chanAt_add_ne {q g : Nat} (hq : q < 128) (hg : g < 128) {v w : Nat} (hv : v < 65536) (hw : w < 65536) (h : q ≠ g ∨ v ≠ w) :
    chanAt q + v ≠ chanAt g + w := by
  simp only [chanAt, blockAddr]
  omega

namespace Chip.CalKept

variable {c d e : Chip}

theorem refl (c : Chip) : c.CalKept c := fun _ _ => rfl

theorem trans (h : c.CalKept d) (k : d.CalKept e) : c.CalKept e := fun g hg => (k g hg).trans (h g hg)

theorem of_chan {g : Nat} {ws : List Nat} (h : c.ChanMoves g ws d) (hg : g < 128) (hws : ∀ w ∈ ws, w < 65536 ∧ w ≠ 0x13) : c.CalKept d :=
  fun q hq => h.words _ (by simp only [spaceOf, chanAt, blockAddr]; omega)
    (fun w hw => chanAt_add_ne hq hg (by decide) (hws w hw).1 (.inr (Ne.symm (hws w hw).2)))

theorem record (c : Chip) (source region severity subject : Nat) (bs ws : List Nat) : c.CalKept (c.record source region severity subject bs ws) :=
  fun q hq => Chip.record_word c _ _ _ _ _ _ (by simp only [spaceOf, chanAt, blockAddr]; omega)

theorem getS (h : c.CalKept d) {g : Nat} (hg : g < 128) {f : Field} (hf : f.first = 0x13) : d.getS (chanAt g) f = c.getS (chanAt g) f := by
  have hget : d.get (chanAt g) f = c.get (chanAt g) f := Chip.get_congr (by rw [Field.at_eq, hf, Nat.zero_mul]; exact h g hg)
  rw [Chip.getS, hget, Chip.getS]

end Chip.CalKept

theorem svyEnd_cal (c : Chip) (result off gain : Nat) : c.CalKept (c.svyEnd result off gain) := by
  match ht : c.svyTarget with
  | none =>
    unfold Chip.svyEnd
    rw [ht]
    exact .refl c
  | some (kind, idx) =>
    rw [svyEnd_of_target ht]
    have hput : c.CalKept (c.put surveyAt Survey.result result) := fun g hg =>
      Chip.word_setWord_other c _ (by rw [Field.at_eq]; simp only [chanAt, blockAddr, surveyAt]; omega)
    refine (hput.trans ?_).trans (.record _ _ _ _ _ _ _)
    unfold Chip.svyReleased
    split_ifs
    · refine Chip.each_rel Chip.CalKept.refl (fun _ _ _ => Chip.CalKept.trans) _ (fun d g hg => ?_) _
      exact .of_chan ((Chip.ChanMoves.setChan d g _ _).trans (Chip.putStatus_moves _ g)) (List.mem_range.1 (List.mem_filter.1 hg).1) (by decide)
    · exact fun _ _ => rfl
    · exact .refl _

/-- The corrections of one channel taken whole, with their stamp. -/
def Chip.calTaken (c : Chip) (k : Nat × Int × Int) : Chip :=
  (((c.putS (chanAt k.1) Chan.cal_offset k.2.1).putS (chanAt k.1) Chan.cal_gain k.2.2).put (chanAt k.1) Chan.cal_stamp_lo (c.stamp % 2 ^ 32)).put
    (chanAt k.1) Chan.cal_stamp_hi (c.stamp / 2 ^ 32)

theorem calTaken_moves (c : Chip) (k : Nat × Int × Int) : c.ChanMoves k.1 [0x11, 0x12, 0x13] (c.calTaken k) := by
  have hoff : c.ChanMoves k.1 [0x11, 0x12, 0x13] (c.putS (chanAt k.1) Chan.cal_offset k.2.1) := .put c k.1 (f := Chan.cal_offset) _ (by decide)
  exact ((hoff.trans (.put _ k.1 (f := Chan.cal_gain) _ (by decide))).trans (.put _ k.1 (f := Chan.cal_stamp_lo) _ (by decide))).trans
    (.put _ k.1 (f := Chan.cal_stamp_hi) _ (by decide))

theorem getS_congr {c d : Chip} {b : Nat} {f : Field} (h : d.get b f = c.get b f) : d.getS b f = c.getS b f := by rw [Chip.getS, h, Chip.getS]

/-- A calibration word saturates (log entry 33). -/
theorem getS_putS_cal (c : Chip) (b : Nat) {f : Field} (hf : f.sound = true) (hw : f.hi + 1 - f.lo = 16) (i : Int) :
    (c.putS b f i).getS b f = clampI (-32768) 32767 i := by
  obtain ⟨hlo, hhi⟩ := clampI_between (show (-32768 : Int) ≤ 32767 by decide) i
  rw [Chip.putS, hw]
  exact getS_put c b (k := 15) hf hw (by simpa using hlo) (by have := hhi; simp only [Nat.reduceSub]; norm_num; omega)

theorem calTaken_self (c : Chip) (g : Nat) (off gain : Int) : (c.calTaken (g, off, gain)).getS (chanAt g) Chan.cal_offset = clampI (-32768) 32767 off ∧
    (c.calTaken (g, off, gain)).getS (chanAt g) Chan.cal_gain = clampI (-32768) 32767 gain := by
  constructor
  · refine Eq.trans (getS_congr ?_) (getS_putS_cal c (chanAt g) (f := Chan.cal_offset) (by decide) rfl off)
    exact ((Chip.get_put_clear _ _ _ (by decide)).trans (Chip.get_put_clear _ _ _ (by decide))).trans (Chip.get_put_clear _ _ _ (by decide))
  · refine Eq.trans (getS_congr ?_) (getS_putS_cal (c.putS (chanAt g) Chan.cal_offset off) (chanAt g) (f := Chan.cal_gain) (by decide) rfl gain)
    exact (Chip.get_put_clear _ _ _ (by decide)).trans (Chip.get_put_clear _ _ _ (by decide))

theorem calTaken_other (c : Chip) {k : Nat × Int × Int} (hk : k.1 < 128) {g : Nat} (hg : g < 128) (h : g ≠ k.1) {f : Field} (hf : f.first = 0x13) :
    (c.calTaken k).getS (chanAt g) f = c.getS (chanAt g) f := by
  refine getS_congr (Chip.get_congr ((calTaken_moves c k).words _ ?_ (fun w hw => ?_)))
  · rw [Field.at_eq, hf]
    simp only [spaceOf, chanAt, blockAddr]
    omega
  · rw [Field.at_eq, hf, Nat.zero_mul]
    exact chanAt_add_ne hg hk (by decide) (by fin_cases hw <;> decide) (.inl h)

/-- The calibrations of several channels, each its own. -/
theorem calTaken_each (ks : List (Nat × Int × Int)) (hlt : ∀ k ∈ ks, k.1 < 128) (hnd : (ks.map (·.1)).Nodup) (c : Chip) :
    (∀ k ∈ ks, (c.each ks Chip.calTaken).getS (chanAt k.1) Chan.cal_offset = clampI (-32768) 32767 k.2.1 ∧
      (c.each ks Chip.calTaken).getS (chanAt k.1) Chan.cal_gain = clampI (-32768) 32767 k.2.2) ∧
    ∀ g < 128, g ∉ ks.map (·.1) → ∀ f : Field, f.first = 0x13 → (c.each ks Chip.calTaken).getS (chanAt g) f = c.getS (chanAt g) f := by
  induction ks generalizing c with
  | nil => exact ⟨fun k hk => absurd hk List.not_mem_nil, fun _ _ _ _ _ => rfl⟩
  | cons k ks ih =>
    obtain ⟨hfresh, hrest⟩ := List.nodup_cons.1 hnd
    obtain ⟨hin, hout⟩ := ih (fun k h => hlt k (.tail _ h)) hrest (c.calTaken k)
    have hk := hlt k (.head _)
    refine ⟨List.forall_mem_cons.2 ⟨?_, hin⟩, fun g hg hn f hf => ?_⟩
    · obtain ⟨hoff, hgain⟩ := calTaken_self c k.1 k.2.1 k.2.2
      exact ⟨(hout k.1 hk hfresh _ rfl).trans hoff, (hout k.1 hk hfresh _ rfl).trans hgain⟩
    · obtain ⟨hne, hn⟩ := not_or.1 (fun h => hn (List.mem_cons.2 h))
      exact (hout g hg hn f hf).trans (calTaken_other c hk hg hne hf)

/-- The channels that a temper calibrates, with what it found of each. -/
def Chip.cals (c : Chip) : List (Nat × Int × Int) := c.temperChans.zip (c.sys.svyOff.zip c.sys.svyGain)

theorem mem_cals_iff {c : Chip} {g : Nat} {off gain : Int} :
    (g, off, gain) ∈ c.cals ↔ ∃ i : Nat, c.temperChans[i]? = some g ∧ c.sys.svyOff[i]? = some off ∧ c.sys.svyGain[i]? = some gain := by
  rw [List.mem_iff_getElem?]
  exact exists_congr (fun i => by rw [Chip.cals, List.getElem?_zip_eq_some, List.getElem?_zip_eq_some])

/-- All within 0.5 % of span of the previous calibration. -/
def Chip.calsNear (c : Chip) : Bool := c.cals.all (fun k => c.calNear k.1 k.2.1 k.2.2)

theorem calsNear_iff (c : Chip) : c.calsNear = true ↔ ∀ (i g : Nat) (off gain : Int), c.temperChans[i]? = some g → c.sys.svyOff[i]? = some off →
    c.sys.svyGain[i]? = some gain → (off - c.getS (chanAt g) Chan.cal_offset).natAbs ≤ 50000 ∧
      (gain - c.getS (chanAt g) Chan.cal_gain).natAbs ≤ 50000 := by
  have hnear : ∀ k : Nat × Int × Int, c.calNear k.1 k.2.1 k.2.2 = true ↔ (k.2.1 - c.getS (chanAt k.1) Chan.cal_offset).natAbs ≤ 50000 ∧
      (k.2.2 - c.getS (chanAt k.1) Chan.cal_gain).natAbs ≤ 50000 := fun k => by simp [Chip.calNear]
  rw [Chip.calsNear, List.all_eq_true]
  constructor
  · intro h i g off gain hg ho hn
    exact (hnear (g, off, gain)).1 (h _ (mem_cals_iff.2 ⟨i, hg, ho, hn⟩))
  · rintro h ⟨g, off, gain⟩ hk
    obtain ⟨i, hg, ho, hn⟩ := mem_cals_iff.1 hk
    exact (hnear (g, off, gain)).2 (h i g off gain hg ho hn)

theorem temperChans_nodup (c : Chip) : c.temperChans.Nodup := by
  unfold Chip.temperChans
  split
  · split
    · unfold Chip.svyChans
      split <;> simp
    · exact List.nodup_nil
  · exact List.nodup_nil

theorem svyTarget_of_temper {c : Chip} (h : c.temperChans ≠ []) : c.svyTarget ≠ none := by
  intro ht
  unfold Chip.temperChans at h
  rw [ht] at h
  exact h rfl

theorem cals_map_sublist (c : Chip) : (c.cals.map (·.1)).Sublist c.temperChans := by
  have hzip : ∀ (l : List Nat) (k : List (Int × Int)), ((l.zip k).map (·.1)).Sublist l := fun l => by
    induction l with
    | nil => exact fun _ => .slnil
    | cons x l ih => exact fun
      | [] => List.nil_sublist _
      | _ :: k => (ih k).cons₂ x
  exact hzip _ _

/-- The corrections of a temper that ends, taken or not. -/
def Chip.tempered (c : Chip) : Chip := if !c.calsNear then c else c.each c.cals Chip.calTaken

theorem each_calTaken_svy (ks : List (Nat × Int × Int)) (c : Chip) : c.SvyKept (c.each ks Chip.calTaken) :=
  .each ks (fun d k _ => .of_chan (calTaken_moves d k) (by decide)) c

/-- The end of a temper. -/
def Chip.temperEnded (c : Chip) : Chip :=
  c.tempered.svyEnd (if c.calsNear then 2 else 6) (unsigned 32 (nth 0 c.sys.svyOff 0)) (unsigned 32 (nth 0 c.sys.svyGain 0))

theorem temperEnded_cal (c : Chip) : c.tempered.CalKept c.temperEnded := svyEnd_cal _ _ _ _

theorem temperEnded_result {c : Chip} (h : c.temperChans ≠ []) : c.temperEnded.get surveyAt Survey.result = if c.calsNear then 2 else 6 := by
  have hkept : c.SvyKept c.tempered := .ite (fun _ => .refl _) (fun _ => each_calTaken_svy _ _)
  exact svyEnd_result (hkept.target ▸ svyTarget_of_temper h) (by split <;> decide) _ _

theorem temperComplete_at {s : State} (hne : s.chip.temperChans ≠ []) (hlen : s.chip.temperChans.length ≤ s.chip.sys.svyGain.length) :
    exec .temperComplete s = .next { s with chip := s.chip.temperEnded } := by
  refine chipOnly_to s (f := _) ?_
  refine if_neg ?_
  rw [Bool.or_eq_true, List.isEmpty_iff, decide_eq_true_eq]
  exact not_or.2 ⟨hne, Nat.not_lt.2 hlen⟩

/-- Settles O10: the command word's bit is its command, the block's result word is kept by all that a hold, a judgement or a release writes, and
the channels of a temper are distinct. -/
theorem surveyAndTemper : Obligations.SurveyAndTemper := by
  intro s
  refine ⟨fun kind index hfree => ⟨fun h => ⟨?_, fun hk => ?_⟩, fun h => ?_, fun h => ?_⟩, fun results ht hcmd => ?_, fun offset hlen => ?_,
    fun gain hlen hchans => ?_, fun hne hlt hgain hoff near hnear => ?_⟩
  · obtain ⟨t, he, htarget, hcmd, -, -, hs⟩ := survey_begins s hfree (b := 0) (by decide) kind.isLt index.isLt h
    exact ⟨t, he, htarget, hcmd, hs⟩
  · have hallowed : s.chip.svyAllowed 2 kind index = true := Bool.and_eq_true_iff.2 ⟨decide_eq_true hk, h⟩
    obtain ⟨t, he, htarget, hcmd, -, -, hs⟩ := survey_begins s hfree (b := 2) (by decide) kind.isLt index.isLt hallowed
    exact ⟨t, he, htarget, hcmd, hs⟩
  · have hkind : kind.val = 0 := by
      simp only [Chip.temperAllowed, Bool.and_eq_true, beq_iff_eq] at h
      exact h.1.1.1.1
    obtain ⟨t, he, htarget, hrest⟩ := survey_begins s hfree (b := 1) (by decide) kind.isLt index.isLt h
    exact ⟨t, he, hkind ▸ htarget, hrest⟩
  · exact survey_refused s hfree (b := 0) (by decide) kind.isLt index.isLt h
  · exact surveyComplete_ends s results ht hcmd
  · exact ⟨_, chipOnly_to s (if_pos hlen), rfl, rfl, rfl⟩
  · exact ⟨_, chipOnly_to s (if_pos (lt_min hlen hchans)), rfl, rfl, rfl⟩
  · refine ⟨_, temperComplete_at hne hgain, .chip s _, fun hn => ?_, fun hn => ?_⟩
    · have hok := (calsNear_iff s.chip).2 (hnear.1 hn)
      have htaken : s.chip.tempered = s.chip.each s.chip.cals Chip.calTaken := if_neg (by rw [hok]; decide)
      refine ⟨(temperEnded_result hne).trans (if_pos hok), fun i g off gain hg ho hv => ?_⟩
      have hsub := cals_map_sublist s.chip
      have hall : ∀ k ∈ s.chip.cals, k.1 < 128 := fun k hk => hlt _ (hsub.subset (List.mem_map_of_mem hk))
      obtain ⟨hin, -⟩ := calTaken_each s.chip.cals hall (hsub.nodup (temperChans_nodup _)) s.chip
      obtain ⟨htoff, htgain⟩ := hin _ (mem_cals_iff.2 ⟨i, hg, ho, hv⟩)
      have hg128 := hlt g (List.mem_of_getElem? hg)
      exact ⟨((temperEnded_cal s.chip).getS hg128 rfl).trans (htaken ▸ htoff), ((temperEnded_cal s.chip).getS hg128 rfl).trans (htaken ▸ htgain)⟩
    · have hok : ¬ s.chip.calsNear = true := fun h => hn (hnear.2 ((calsNear_iff s.chip).1 h))
      have hsame : s.chip.tempered = s.chip := if_pos (by rw [Bool.eq_false_iff.2 hok]; rfl)
      have hend := hsame ▸ temperEnded_cal s.chip
      exact ⟨(temperEnded_result hne).trans (if_neg hok), fun g => ⟨hend.getS g.isLt rfl, hend.getS g.isLt rfl⟩⟩

end Sys2Proof.Machine
end

section
/-! SUPPORT. The lanes' frames, and what a change of the lease state changes (R410, R415, R416). -/

namespace Sys2Proof.Machine

/-! ### Frames on the lanes (R410) -/

/-- What a frame of a kind leaves on each live lane. -/
def Chip.onLanes (c : Chip) (kind : Nat) (ws : List Nat) : List Emit :=
  ((List.range 2).filter c.laneLive).map (fun l => .lane l kind (ws ++ [laneCrc kind ws]))

theorem laneEmit_passes (c : Chip) {l : Nat} (hl : l < 8) (kind : Nat) (ws : List Nat) : c.Passes (c.laneEmit l kind ws) :=
  (Chip.Passes.emit c _).trans (.of_count (countPass_only _ _ _ _ _ _ _ hl))

theorem laneEmit_emitted (c : Chip) {l : Nat} (hl : l < 8) (kind : Nat) (ws : List Nat) :
    (c.laneEmit l kind ws).emitted = c.emitted ++ [.lane l kind (ws ++ [laneCrc kind ws])] :=
  countOnly_emitted (countPass_only _ _ _ _ _ _ _ hl)

theorem lanesEmit (kind : Nat) (ws : List Nat) (l : List Nat) (hl : ∀ p ∈ l, p < 8) (c : Chip) :
    c.Passes (c.each l (fun d p => d.laneEmit p kind ws)) ∧
      (c.each l (fun d p => d.laneEmit p kind ws)).emitted = c.emitted ++ l.map (fun p => .lane p kind (ws ++ [laneCrc kind ws])) := by
  induction l generalizing c with
  | nil => exact ⟨.refl c, (List.append_nil _).symm⟩
  | cons p ps ih =>
    have hp := hl p List.mem_cons_self
    obtain ⟨hpass, hem⟩ := ih (fun q hq => hl q (List.mem_cons_of_mem p hq)) (c.laneEmit p kind ws)
    refine ⟨(laneEmit_passes c hp kind ws).trans hpass, hem.trans ?_⟩
    rw [laneEmit_emitted c hp, List.map_cons, List.append_assoc]
    rfl

theorem tongsRefuse_both (c : Chip) : c.Passes ((c.tongsRefuse 0 3).tongsRefuse 1 3) ∧ ((c.tongsRefuse 0 3).tongsRefuse 1 3).emitted = c.emitted :=
  ⟨(tongsRefuse_passes c (by decide)).trans (tongsRefuse_passes _ (by decide)), (tongsRefuse_emitted _ _ _).trans (tongsRefuse_emitted _ _ _)⟩

theorem live_lt (c : Chip) : ∀ l ∈ (List.range 2).filter c.laneLive, l < 8 := fun l hl => by
  have := List.mem_range.1 (List.mem_filter.1 hl).1
  omega

/-- A frame goes out on every live lane. -/
theorem laneSend_sends (c : Chip) (kind : Nat) (ws : List Nat) :
    c.Passes (c.laneSend kind ws) ∧ (c.laneSend kind ws).emitted = c.emitted ++ c.onLanes kind ws := by
  obtain ⟨hpass, hem⟩ := tongsRefuse_both c
  obtain ⟨hp, he⟩ := lanesEmit kind ws _ (live_lt c) ((c.tongsRefuse 0 3).tongsRefuse 1 3)
  exact ⟨hpass.trans hp, he.trans (by rw [hem]; rfl)⟩

/-! ### What a change of the lease state moves (R415, R416) -/

/-- The words of regions, of the recorder and of the panel. -/
def shiftWord (a : Nat) : Prop := spaceOf a < 8 ∨ spaceOf a = 10 ∨ spaceOf a = 11

/-- `d` is `c` once outputs, axes, loops and the panel follow another lease. -/
structure Chip.Shifts (c d : Chip) : Prop where
  frame : ∃ rg cs ax rc lp pn ct n em, d = { c with regs := rg, chans := cs, axes := ax, recd := rc, loops := lp, panel := pn, ctrs := ct, freeCtr := n, emitted := em }
  words : c.WordsBut shiftWord d

namespace Chip.Shifts

variable {c d e : Chip}

theorem refl (c : Chip) : c.Shifts c :=
  ⟨⟨c.regs, c.chans, c.axes, c.recd, c.loops, c.panel, c.ctrs, c.freeCtr, c.emitted, rfl⟩, .refl _ c⟩

theorem trans (h : c.Shifts d) (k : d.Shifts e) : c.Shifts e := by
  obtain ⟨⟨rg, cs, ax, rc, lp, pn, ct, n, em, hd⟩, hw⟩ := h
  obtain ⟨⟨rg', cs', ax', rc', lp', pn', ct', n', em', he⟩, hw'⟩ := k
  exact ⟨⟨rg', cs', ax', rc', lp', pn', ct', n', em', by rw [he, hd]⟩, hw.trans hw'⟩

theorem of_chan {g : Nat} {ws : List Nat} (h : c.ChanMoves g ws d) (hg : g < 128) (hws : ∀ w ∈ ws, w < 65536) : c.Shifts d := by
  obtain ⟨rg, cs, rc, hd⟩ := h.frame
  refine ⟨⟨rg, cs, c.axes, rc, c.loops, c.panel, c.ctrs, c.freeCtr, c.emitted, hd⟩, fun a ha => h.word_of_not_chan hg hws (fun hs => ha (.inr (.inl hs))) ?_⟩
  rintro ⟨hs, -⟩
  exact ha (.inl (by omega))

theorem of_axis {x : Nat} (h : c.AxMoves x d) (hx : x < 16) : c.Shifts d := by
  obtain ⟨rg, ax, rc, hd⟩ := h.frame
  refine ⟨⟨rg, c.chans, ax, rc, c.loops, c.panel, c.ctrs, c.freeCtr, c.emitted, hd⟩, fun a ha => h.words a (fun hs => ha (.inr (.inl hs))) ?_⟩
  rintro ⟨hs, -⟩
  exact ha (.inl (by omega))

theorem of_panel {P : Nat → Prop} (h : c.PanelMoves P d) (hp : ∀ a, P a → spaceOf a = 11) : c.Shifts d := by
  obtain ⟨rg, pn, hd⟩ := h.frame
  exact ⟨⟨rg, c.chans, c.axes, c.recd, c.loops, pn, c.ctrs, c.freeCtr, c.emitted, hd⟩, fun a ha => h.words a (fun hpa => ha (.inr (.inr (hp a hpa))))⟩

theorem of_passes (h : c.Passes d) : c.Shifts d := by
  obtain ⟨rg, ct, n, em, hd⟩ := h.frame
  exact ⟨⟨rg, c.chans, c.axes, c.recd, c.loops, c.panel, ct, n, em, hd⟩, fun a ha => h.words a (fun hn => ha (.inl (netWord_space hn)))⟩

theorem record (c : Chip) (source region severity subject : Nat) (bs ws : List Nat) : c.Shifts (c.record source region severity subject bs ws) := by
  obtain ⟨⟨rg, rc, hd⟩, -⟩ := Chip.record_recOnly c source region severity subject bs ws
  exact ⟨⟨rg, c.chans, c.axes, rc, c.loops, c.panel, c.ctrs, c.freeCtr, c.emitted, hd⟩, fun a ha => Chip.record_word c _ _ _ _ _ _ (fun hs => ha (.inr (.inl hs)))⟩

theorem setChan (c : Chip) (g : Nat) (f : ChanSt → ChanSt) : c.Shifts (c.setChan g f) :=
  ⟨⟨_, _, _, _, _, _, _, _, _, rfl⟩, .of_regs rfl⟩

theorem setPanel (c : Chip) (f : PanelSt → PanelSt) : c.Shifts (c.setPanel f) := ⟨⟨_, _, _, _, _, _, _, _, _, rfl⟩, .of_regs rfl⟩

theorem ite {b : Prop} [Decidable b] (h : b → c.Shifts d) (k : ¬ b → c.Shifts e) : c.Shifts (if b then d else e) := by
  split
  · next hb => exact h hb
  · next hb => exact k hb

theorem each {α : Type} {f : Chip → α → Chip} (l : List α) (k : ∀ e : Chip, ∀ x ∈ l, e.Shifts (f e x)) (c : Chip) :
    c.Shifts (c.each l f) := each_rel refl (fun _ _ _ => trans) l k c

theorem same {α : Type} (h : c.Shifts d) (φ : Chip → α)
    (hφ : ∀ rg cs ax rc lp pn ct n em, φ { c with regs := rg, chans := cs, axes := ax, recd := rc, loops := lp, panel := pn, ctrs := ct, freeCtr := n, emitted := em } = φ c) :
    φ d = φ c := by
  obtain ⟨⟨rg, cs, ax, rc, lp, pn, ct, n, em, hd⟩, -⟩ := h
  rw [hd]
  exact hφ _ _ _ _ _ _ _ _ _

theorem pair (h : c.Shifts d) : d.pair = c.pair := h.same (·.pair) (fun _ _ _ _ _ _ _ _ _ => rfl)
theorem eng (h : c.Shifts d) : d.eng = c.eng := h.same (·.eng) (fun _ _ _ _ _ _ _ _ _ => rfl)
theorem now (h : c.Shifts d) : d.now = c.now := h.same (·.now) (fun _ _ _ _ _ _ _ _ _ => rfl)
theorem sys (h : c.Shifts d) : d.sys = c.sys := h.same (·.sys) (fun _ _ _ _ _ _ _ _ _ => rfl)

theorem getI (h : c.Shifts d) {b i : Nat} {f : Field} (hn : ¬ shiftWord (f.at b i)) : d.getI b f i = c.getI b f i := Chip.getI_congr (h.words _ hn)

theorem get (h : c.Shifts d) {b : Nat} {f : Field} (hn : ¬ shiftWord (f.at b 0)) : d.get b f = c.get b f := h.getI hn

end Chip.Shifts

theorem not_shiftWord_pair {f : Field} (h : f.first < 65536) : ¬ shiftWord (f.at pairAt 0) := by
  rw [Field.at_eq, shiftWord, pairAt, spaceOf]
  omega

theorem sharedChans_lt {c : Chip} {g : Nat} (h : g ∈ c.sharedChans) : g < 128 := List.mem_range.1 (List.mem_filter.1 h).1

theorem shareRamp_shifts (c : Chip) (kind : Nat) : c.Shifts (c.shareRamp kind) := .each _ (fun d g _ => .setChan d g _) c

theorem resolveShared_shifts (c : Chip) : c.Shifts c.resolveShared :=
  .each _ (fun d g hg => .of_chan (Chip.resolve_moves d g) (sharedChans_lt hg) (by decide)) c

theorem axisYield_moves (c : Chip) (x : Nat) : c.AxMoves x (c.axisYield x) := by
  have hset := (Chip.AxMoves.refl x c).setAx (fun h => { h with thenOff := withBit h.thenOff 7 true })
  have hend := (hset.endAct 18).setAx (fun h => { h with mode := 6 })
  exact .ite (fun _ => (Chip.AxMoves.refl x c).stageCause _ _)
    (fun _ => .ite (fun _ => hset) (fun _ => .axSync (.ite (fun _ => hend) (fun _ => hend.brake none))))

theorem axisTake_moves (c : Chip) (x : Nat) : c.AxMoves x (c.axisTake x) := by
  have hend := ((Chip.AxMoves.refl x c).endAct 18).setAx (fun h => { h with
      stops := [], acts := h.acts.map (fun a => if a.busy then { a with busy := false, code := 18 } else a) })
  exact .ite (fun _ => (Chip.AxMoves.refl x c).setAx _)
    (fun _ => .stageCause (.setAx (.atRest (.ite (fun _ => hend) (fun _ => hend.lossInMotion _))) _) _ _)

theorem panelYield_shifts (c : Chip) : c.Shifts c.panelYield := by
  have hmoves := (((Chip.PanelMoves.refl (fun a => spaceOf a = 11) c).panelState 6 (by decide)).nOff nQuenched (by decide)).panelCut (by decide)
  exact .ite (fun _ => .refl c) (fun _ => .of_panel hmoves (fun _ h => h))

/-- What the axes do at a change of the lease state. -/
def Chip.axesFollow (c : Chip) (old new : Nat) (axes : List Nat) : Chip :=
  if holds old && !holds new then c.each axes (fun c x => c.axisYield x)
  else if holds new && !holds old && old != 1 then c.each axes (fun c x => c.axisTake x)
  else if holds new && !holds old then c.each axes (fun c x => c.stageCause x 7 false)
  else if shadows new || new = 7 then c.each axes (fun c x => c.axisYield x) else c

theorem axesFollow_shifts (c : Chip) (old new : Nat) {axes : List Nat} (h : ∀ x ∈ axes, x < 16) : c.Shifts (c.axesFollow old new axes) := by
  have hyield := Chip.Shifts.each axes (fun d x hx => Chip.Shifts.of_axis (axisYield_moves d x) (h x hx)) c
  have htake := Chip.Shifts.each axes (fun d x hx => Chip.Shifts.of_axis (axisTake_moves d x) (h x hx)) c
  have hcause := Chip.Shifts.each axes (fun d x hx => Chip.Shifts.of_axis ((Chip.AxMoves.refl x d).stageCause 7 false) (h x hx)) c
  exact .ite (fun _ => hyield) (fun _ => .ite (fun _ => htake) (fun _ => .ite (fun _ => hcause) (fun _ => .ite (fun _ => hyield) (fun _ => .refl c))))

/-- What the shared outputs, the loops and the panel do then. -/
def Chip.outsFollow (c : Chip) (old new : Nat) (partner : Bool) : Chip :=
  let c4 := if new = 4 && !drives old && partner then c.shareRamp 1 else if old = 4 && new = 3 then c.shareRamp 2 else c
  let c4b := c4.when (!c4.loopsMirror) (fun c => { c with loops := c.loops.map (fun h => { h with mirror := none }) })
  let c5 := if drives new then c4b else c4b.resolveShared
  if !holds new && new != 1 then c5.panelYield
  else if holds new && !holds old then { c5.wantPanel with panel := { c5.wantPanel.panel with asDirty := c5.panel.asDirty || c5.panel.partnerBusy } } else c5

theorem outsFollow_shifts (c : Chip) (old new : Nat) (partner : Bool) : c.Shifts (c.outsFollow old new partner) := by
  let c4 := if new = 4 && !drives old && partner then c.shareRamp 1 else if old = 4 && new = 3 then c.shareRamp 2 else c
  have hramp : c.Shifts c4 :=
    .ite (fun _ => shareRamp_shifts c 1) (fun _ => .ite (fun _ => shareRamp_shifts c 2) (fun _ => .refl c))
  have hloops : c4.Shifts (c4.when (!c4.loopsMirror) (fun c => { c with loops := c.loops.map (fun h => { h with mirror := none }) })) :=
    .ite (fun _ => ⟨⟨_, _, _, _, _, _, _, _, _, rfl⟩, .of_regs rfl⟩) (fun _ => .refl _)
  have houts := Chip.Shifts.ite (b := drives new = true) (fun _ => hramp.trans hloops) (fun _ => (hramp.trans hloops).trans (resolveShared_shifts _))
  exact .ite (fun _ => houts.trans (panelYield_shifts _))
    (fun _ => .ite (fun _ => (houts.trans (.setPanel _ (fun p => { p with want := true }))).trans ⟨⟨_, _, _, _, _, _, _, _, _, rfl⟩, .of_regs rfl⟩) (fun _ => houts))

theorem setLease_eq {c : Chip} {new : Nat} (h : c.lease ≠ new) (severity changed : Nat) : c.setLease new severity changed =
    ((((c.put pairAt Pair.lease_state new).holderSync.record 72 0xFF severity c.pos [c.lease, new]
      [c.get pairAt Pair.lease_epoch, changed]).axesFollow c.lease new
        ((List.range 16).filter c.axUsed)).outsFollow c.lease new (c.flag pairAt Pair.partner)) := if_neg h

theorem setLease_shifts {c : Chip} {new : Nat} (h : c.lease ≠ new) (severity changed : Nat) :
    (c.put pairAt Pair.lease_state new).holderSync.Shifts (c.setLease new severity changed) := by
  rw [setLease_eq h]
  exact ((Chip.Shifts.record _ _ _ _ _ _ _).trans (axesFollow_shifts _ _ _ (fun x hx => List.mem_range.1 (List.mem_filter.1 hx).1))).trans (outsFollow_shifts _ _ _ _)

/-- The lease state after a change to another. -/
theorem setLease_lease (c : Chip) {new : Nat} (hn : new < 16) (severity changed : Nat) : (c.setLease new severity changed).lease = new := by
  by_cases h : c.lease = new
  · rw [show c.setLease new severity changed = c from if_pos h, h]
  · rw [Chip.lease, (setLease_shifts h _ _).get (not_shiftWord_pair (by decide)), Chip.holderSync, Chip.get_put_clear _ _ _ (by decide)]
    exact Chip.get_put_of_lt _ _ (by decide) hn

/-! ### What stays at a change of the lease state -/

/-- The words that a change of the lease state may write. -/
def leaseWord (a : Nat) : Prop := shiftWord a ∨ a = pairAt

/-- A field of the pair block that a change of the lease state leaves. -/
def leaseKept (f : Field) : Bool := Pair.lease_state.clear f && Pair.holder_pos.clear f && decide (f.first < 65536)

/-- `d` is `c` once its lease state may have changed: the pair's and the engine's volatile part are as they were. -/
structure Chip.Leases (c d : Chip) : Prop where
  frame : ∃ rg cs ax rc lp pn ct n em, d = { c with regs := rg, chans := cs, axes := ax, recd := rc, loops := lp, panel := pn, ctrs := ct, freeCtr := n, emitted := em }
  words : c.WordsBut leaseWord d
  fields : ∀ f, leaseKept f = true → d.get pairAt f = c.get pairAt f

theorem leaseKept_iff {f : Field} : leaseKept f = true ↔ Pair.lease_state.clear f = true ∧ Pair.holder_pos.clear f = true ∧ f.first < 65536 := by
  rw [leaseKept, Bool.and_eq_true, Bool.and_eq_true, decide_eq_true_eq, and_assoc]

namespace Chip.Leases

variable {c d e : Chip}

theorem refl (c : Chip) : c.Leases c :=
  ⟨⟨c.regs, c.chans, c.axes, c.recd, c.loops, c.panel, c.ctrs, c.freeCtr, c.emitted, rfl⟩, .refl _ c, fun _ _ => rfl⟩

theorem trans (h : c.Leases d) (k : d.Leases e) : c.Leases e := by
  obtain ⟨⟨rg, cs, ax, rc, lp, pn, ct, n, em, hd⟩, hw, hf⟩ := h
  obtain ⟨⟨rg', cs', ax', rc', lp', pn', ct', n', em', he⟩, hw', hf'⟩ := k
  exact ⟨⟨rg', cs', ax', rc', lp', pn', ct', n', em', by rw [he, hd]⟩, hw.trans hw', fun f h => (hf' f h).trans (hf f h)⟩

theorem of_shifts (h : c.Shifts d) : c.Leases d :=
  ⟨h.frame, fun a ha => h.words a (fun hs => ha (.inl hs)), fun f hf => h.get (not_shiftWord_pair (leaseKept_iff.1 hf).2.2)⟩

theorem put (c : Chip) {f : Field} (v : Nat) (hf : f = Pair.lease_state ∨ f = Pair.holder_pos) : c.Leases (c.put pairAt f v) := by
  refine ⟨⟨_, _, _, _, _, _, _, _, _, rfl⟩, fun a ha => Chip.word_setWord_other c _ (fun he => ha (.inr ?_)), fun g hg => Chip.get_put_clear _ _ _ ?_⟩
  · rcases hf with rfl | rfl <;> exact he
  · obtain ⟨hstate, hpos, -⟩ := leaseKept_iff.1 hg
    rcases hf with rfl | rfl
    · exact hstate
    · exact hpos

theorem ite {b : Prop} [Decidable b] (h : b → c.Leases d) (k : ¬ b → c.Leases e) : c.Leases (if b then d else e) := by
  split
  · next hb => exact h hb
  · next hb => exact k hb

theorem same {α : Type} (h : c.Leases d) (φ : Chip → α)
    (hφ : ∀ rg cs ax rc lp pn ct n em, φ { c with regs := rg, chans := cs, axes := ax, recd := rc, loops := lp, panel := pn, ctrs := ct, freeCtr := n, emitted := em } = φ c) :
    φ d = φ c := by
  obtain ⟨⟨rg, cs, ax, rc, lp, pn, ct, n, em, hd⟩, -⟩ := h
  rw [hd]
  exact hφ _ _ _ _ _ _ _ _ _

theorem pair (h : c.Leases d) : d.pair = c.pair := h.same (·.pair) (fun _ _ _ _ _ _ _ _ _ => rfl)
theorem eng (h : c.Leases d) : d.eng = c.eng := h.same (·.eng) (fun _ _ _ _ _ _ _ _ _ => rfl)
theorem now (h : c.Leases d) : d.now = c.now := h.same (·.now) (fun _ _ _ _ _ _ _ _ _ => rfl)
theorem sys (h : c.Leases d) : d.sys = c.sys := h.same (·.sys) (fun _ _ _ _ _ _ _ _ _ => rfl)

theorem getI (h : c.Leases d) {b i : Nat} {f : Field} (hs : spaceOf (f.at b i) = 8) : d.getI b f i = c.getI b f i :=
  Chip.getI_congr (h.words _ (fun hw => by
    rcases hw with (h | h | h) | h
    · omega
    · omega
    · omega
    · rw [h] at hs
      exact absurd hs (by decide)))

theorem get (h : c.Leases d) {b : Nat} {f : Field} (hs : spaceOf (f.at b 0) = 8) : d.get b f = c.get b f := h.getI hs

end Chip.Leases

theorem holderSync_leases (c : Chip) : c.Leases c.holderSync := .put c _ (.inr rfl)

theorem setLease_leases (c : Chip) (new severity changed : Nat) : c.Leases (c.setLease new severity changed) := by
  by_cases h : c.lease = new
  · rw [show c.setLease new severity changed = c from if_pos h]
    exact .refl c
  · exact ((Chip.Leases.put c new (.inl rfl)).trans (holderSync_leases _)).trans (.of_shifts (setLease_shifts h _ _))

end Sys2Proof.Machine
end

section
/-! SUPPORT. O33: mirroring, the copy and the commands of the pair. -/

namespace Sys2Proof.Machine

/-! ### A shadow out of step (R421, R433) -/

/-- A field of the pair block that neither the lease state nor the count of copies shares its bits with. -/
theorem beginResync_pair (c : Chip) : c.beginResync.pair = { c.pair with copyAt := c.now, records := [] } := by
  unfold Chip.beginResync
  split <;> rfl

theorem beginResync_get (c : Chip) {f : Field} (h : Pair.resyncs.clear f = true) : c.beginResync.get pairAt f = c.get pairAt f := by
  unfold Chip.beginResync
  split
  · exact Chip.get_bump_clear' c pairAt h
  · rfl

/-- A synchronised shadow falls out of step: its records go, and its lease state is 3. -/
theorem desync_ends {c : Chip} (h : c.lease = 4) (cause : Nat) : (c.desync cause).lease = 3 ∧ (c.desync cause).pair.records = [] := by
  have hrun : c.desync cause = (let c2 := if cause = 2 then (c.bump pairAt Pair.divergences).put pairAt Pair.divergence 1 else c
    (if cause = 0 then c2.beginResync else c2.beginResync.record 75 0xFF 1 c.pos [cause] [c.get engineAt Engine.cycle_count, c.get pairAt Pair.sync_ms]).setLease
      3 0 0) := if_neg (by rw [h]; decide)
  rw [hrun]
  refine ⟨setLease_lease _ (by decide) _ _, ?_⟩
  rw [(setLease_leases _ _ _ _).pair, apply_ite Chip.pair, Chip.record_pair, ite_self, beginResync_pair]

/-- A resynchronisation asked for, not found out: no record, and no word but the count of copies and the lease state. -/
theorem desync_asked {c : Chip} (h : c.lease = 4) {f : Field} (hf : leaseKept f = true) (hr : Pair.resyncs.clear f = true) :
    (c.desync 0).get pairAt f = c.get pairAt f := by
  have hrun : c.desync 0 = c.beginResync.setLease 3 0 0 := if_neg (by rw [h]; decide)
  rw [hrun, (setLease_leases _ _ _ _).fields f hf, beginResync_get c hr]

/-! ### Records of the mirror (R419, R420) -/

/-- A record joins those that wait. -/
def Chip.mirrored (c : Chip) (m : MirrorRec) : Chip := c.setPair (fun p => { p with records := p.records ++ [m], lastRec := m.cycle })

/-- The lag shown. -/
def Chip.lagShown (c : Chip) : Chip :=
  (c.put pairAt Pair.lag c.pair.records.length).put pairAt Pair.lag_max (max c.pair.records.length (c.get pairAt Pair.lag_max))

theorem lagShown_lease (c : Chip) : c.lagShown.lease = c.lease := (Chip.get_put_clear _ _ _ (by decide)).trans (Chip.get_put_clear _ _ _ (by decide))

theorem lagShown_lag {c : Chip} (h : c.pair.records.length < 65536) : c.lagShown.get pairAt Pair.lag = c.pair.records.length :=
  (Chip.get_put_clear _ _ _ (by decide)).trans (Chip.get_put_of_lt _ _ (by decide) h)

theorem lagShown_mirrored (c : Chip) (m : MirrorRec) : (c.mirrored m).lagShown =
    { c with regs := (c.mirrored m).lagShown.regs, pair := { c.pair with records := c.pair.records ++ [m], lastRec := m.cycle } } := rfl

theorem lagSync_within {c : Chip} (h : c.pair.records.length ≤ 8) : c.lagSync = c.lagShown := if_neg (Nat.not_lt.2 h)

theorem lagSync_beyond {c : Chip} (h : 8 < c.pair.records.length) : c.lagSync = c.lagShown.desync 1 := if_pos h

theorem mirrored_length (c : Chip) (m : MirrorRec) : (c.mirrored m).pair.records.length = c.pair.records.length + 1 := List.length_append

theorem mirrorRecord_at {s : State} (h : s.chip.lease = 4) (latched ended : List (BitVec 32)) : exec (.mirrorRecord latched ended) s =
    .next { s with chip := (s.chip.mirrored (mirrorOf (latched.map (·.toNat)) (ended.map (·.toNat)))).lagSync } :=
  chipOnly_to s (if_neg (by rw [h]; decide))

/-! ### The copy (R421) -/

/-- The copy applied, its end shown. -/
def Chip.copyDone (c : Chip) (cycle ms : Nat) : Chip :=
  ((((c.put engineAt Engine.cycle_count cycle).put pairAt Pair.sync_ms ms).setEng (fun e => { e with
    phase := 0, done := [], saved := [], reqs := [], first := false, queue := [], edits := [] })).setPair (fun p => { p with
      copied := true, records := [] }))

theorem copyDone_count (c : Chip) {cycle : Nat} (h : cycle < 2 ^ 32) (ms : Nat) : (c.copyDone cycle ms).get engineAt Engine.cycle_count = cycle :=
  (Chip.get_put_other _ (by decide)).trans (Chip.get_put_of_lt _ _ (by decide) h)

/-- A copy that is complete makes the shadow synchronised. -/
theorem resyncComplete_ends {s : State} (hl : s.chip.lease = 3) (hp : s.chip.flag pairAt Pair.partner = true) (cycle : BitVec 32)
    (words : List (BitVec 32 × BitVec 32)) (seqs : List (Fin 3 × BitVec 16 × BitVec 16)) (loops axes : List (List (BitVec 32))) :
    ∃ (c : Chip) (ms pos : Nat), exec (.resyncComplete cycle words seqs loops axes) s =
      .next { s with chip := ((c.copyDone cycle.toNat ms).record 75 0xFF 1 pos [3] [cycle.toNat, ms]).setLease 4 0 0 } := by
  refine ⟨_, _, _, chipOnly_to s (if_neg ?_)⟩
  rw [hl, hp]
  decide

/-! ### The commands of the pair block (R427, R431, R433) -/

/-- The words of the counters that clear_counters ends, and that of the result. -/
def pairClearWord (a : Nat) : Prop := (pairAt + 4 ≤ a ∧ a < pairAt + 9) ∨ a = Pair.result.at pairAt 0

/-- Words written in order from a number on. -/
theorem each_setNat (b : Nat) (l : List Nat) (n : Nat) (c : Chip) :
    (∀ k (h : k < l.length), l[k] < 2 ^ 32 → (c.each (l.zipIdx n) (fun d w => d.setNat (b + w.2) w.1)).nat (b + (n + k)) = l[k]) ∧
      c.WordsBut (fun a => b + n ≤ a ∧ a < b + (n + l.length)) (c.each (l.zipIdx n) (fun d w => d.setNat (b + w.2) w.1)) := by
  induction l generalizing n c with
  | nil => exact ⟨fun k h => absurd h (Nat.not_lt_zero k), .refl _ c⟩
  | cons v l ih =>
    obtain ⟨hin, hout⟩ := ih (n + 1) (c.setNat (b + n) v)
    refine ⟨fun k h hv => ?_, fun a ha => (hout a ?_).trans (Chip.word_setNat_other c v ?_)⟩
    · match k with
      | 0 =>
        refine Eq.trans (congrArg BitVec.toNat (hout (b + n) ?_)) ((Chip.nat_setNat_same c (b + n) v).trans (Nat.mod_eq_of_lt hv))
        omega
      | k + 1 =>
        have hnext := hin k (Nat.lt_of_succ_lt_succ h) hv
        rwa [show n + 1 + k = n + (k + 1) by omega] at hnext
    · rw [List.length_cons] at ha
      omega
    · rw [List.length_cons] at ha
      omega

/-- The counters of the pair block at zero. -/
def Chip.pairZeroed (c : Chip) : Chip := c.each ((List.replicate 5 0).zipIdx 4) (fun d w => d.setNat (pairAt + w.2) w.1)

theorem pairZeroed_eq (c : Chip) : c.pairZeroed = ((((c.setNat (pairAt + 4) 0).setNat (pairAt + 5) 0).setNat (pairAt + 6) 0).setNat (pairAt + 7)
    0).setNat (pairAt + 8) 0 := by
  simp only [Chip.pairZeroed, Chip.each, List.replicate, List.zipIdx_cons, List.zipIdx_nil, List.foldl_cons, List.foldl_nil, Nat.reduceAdd]

theorem pairClear_run {c : Chip} (h : c.get pairAt Pair.result ≠ 1) : c.pairCommand 8 true = c.pairZeroed.pairAccept 3 2 := by
  have hbits : (List.range 4).filter (fun i => (8 : Nat).testBit i) = [3] := by decide
  unfold Chip.pairCommand
  simp only [hbits]
  rw [if_neg h]
  exact congrArg (fun d : Chip => d.pairAccept 3 2) (pairZeroed_eq c).symm

theorem pairSwap_run {c : Chip} (h : c.get pairAt Pair.result ≠ 1) (role : Bool) : c.pairCommand 1 role =
    if !role || c.lease != 2 || c.get pairAt Pair.partner_state != 4 || 1 < c.pair.partnerLag
      || !c.flag pairAt Pair.lane_a || !c.flag pairAt Pair.lane_b || !c.axesStill || c.pair.handAsk then c.put pairAt Pair.result 3
    else (c.pairAccept 0 1).setPair (fun p => { p with swapAsk := true }) := if_neg h

theorem pairHandover_run {c : Chip} (h : c.get pairAt Pair.result ≠ 1) (role : Bool) : c.pairCommand 2 role =
    if !role || c.lease != 5 || c.get pairAt Pair.partner_state != 7 || c.pair.partnerHalted || !c.axesStill then c.put pairAt Pair.result 3
    else (c.pairAccept 1 1).setPair (fun p => { p with handAsk := true }) := if_neg h

theorem pairResync_run {c : Chip} (h : c.get pairAt Pair.result ≠ 1) (role : Bool) : c.pairCommand 4 role =
    if !role || c.lease != 4 then c.put pairAt Pair.result 3 else (c.pairAccept 2 2).desync 0 := if_neg h

theorem pairAccept_result (c : Chip) (b : Nat) {r : Nat} (h : r < 256) : (c.pairAccept b r).get pairAt Pair.result = r :=
  Chip.get_put_of_lt _ _ (by decide) h

theorem pairAccept_cmd (c : Chip) {b : Nat} (h : b < 256) (r : Nat) : (c.pairAccept b r).get pairAt Pair.last_cmd = b :=
  (Chip.get_put_clear _ _ _ (by decide)).trans (Chip.get_put_of_lt _ _ (by decide) h)

theorem pairAccept_words (c : Chip) (b r : Nat) : c.WordsBut (fun a => a = Pair.result.at pairAt 0) (c.pairAccept b r) :=
  .trans (.put _ _ (by decide)) (.put _ _ rfl)

/-- A command that the sender may not ask for answers 3. -/
theorem pair_refused (s : State) {c : Instr} (h : exec c s = .next { s with chip := s.chip.put pairAt Pair.result 3 }) :
    ∃ t, exec c s = .next t ∧ t.chip.get pairAt Pair.result = 3 ∧ t = { s with chip := { s.chip with regs := t.chip.regs } } ∧
      WordsKept (fun a => a = Pair.result.at pairAt 0) s t :=
  ⟨_, h, Chip.get_put_of_lt _ _ (by decide) (by decide), rfl, fun a ha => Chip.word_setWord_other _ _ ha⟩

/-! ### The plug (R406, R407) -/

/-- A reading of the plug noted. -/
def Chip.plugNoted (c : Chip) (ws : List Nat) : Chip := c.setPair (fun p => { p with plugSeen := ws, plugAt := c.now })

/-- The position and the routes that S2 reads. -/
def Chip.plugRouted (c : Chip) (position : Nat) (ws : List Nat) : Chip :=
  ((c.put pairAt Pair.position position).plugNoted ws).each ws.zipIdx (fun d w => d.setNat (pairAt + 0x20 + w.2) w.1)

theorem plugRouted_frame (c : Chip) (position : Nat) (ws : List Nat) :
    c.plugRouted position ws = { c with regs := (c.plugRouted position ws).regs, pair := (c.plugRouted position ws).pair } := by
  obtain ⟨rg, hd⟩ : ((c.put pairAt Pair.position position).plugNoted ws).RegsOnly (c.plugRouted position ws) :=
    Chip.each_rel .refl (fun _ _ _ h k => by
      obtain ⟨rg, rfl⟩ := h
      obtain ⟨rg', rfl⟩ := k
      exact ⟨rg', rfl⟩) _ (fun d w _ => ⟨_, rfl⟩) _
  rw [hd]
  rfl

theorem plugRouted_words (c : Chip) (position : Nat) (ws : List Nat) :
    (c.put pairAt Pair.position position).WordsBut (fun a => pairAt + 0x20 ≤ a ∧ a < pairAt + 0x20 + ws.length) (c.plugRouted position ws) := fun a ha =>
  (each_setNat (pairAt + 0x20) ws 0 ((c.put pairAt Pair.position position).plugNoted ws)).2 a (by rw [Nat.zero_add]; exact ha)

theorem plugRouted_pos (c : Chip) {position : Nat} (h : position < 4) (ws : List Nat) : (c.plugRouted position ws).pos = position := by
  have hword := (plugRouted_words c position ws).get (b := pairAt) (f := Pair.position) (fun h => absurd h.1 (by decide))
  exact hword.trans (Chip.get_put_of_lt _ _ (by decide) h)

theorem plugRouted_route (c : Chip) (position : Nat) {ws : List Nat} (hw : ∀ w ∈ ws, w < 2 ^ 32) (k : Nat) (h : k < ws.length) :
    (c.plugRouted position ws).nat (pairAt + 0x20 + k) = ws[k] := by
  have hk := (each_setNat (pairAt + 0x20) ws 0 ((c.put pairAt Pair.position position).plugNoted ws)).1 k h (hw _ (List.getElem_mem h))
  rwa [Nat.zero_add] at hk

theorem plugRead_first {s : State} (h : s.chip.phase = 2) (position : Fin 3) {words : List (BitVec 32)} (hl : words.length = 9) :
    exec (.plugRead position words) s = .next { s with chip := s.chip.plugRouted position.val (words.map (·.toNat)) } := by
  refine chipOnly_to s ((if_pos h).trans ?_)
  rw [List.take_of_length_le (by rw [List.length_map, hl])]
  rfl

/-- A plug that reads another content than before, reported. -/
def Chip.plugDiffers (c : Chip) (ws : List Nat) : Chip :=
  ((c.put pairAt Pair.route_changed 1).plugNoted ws).record 79 0xFF 1 0 [] [firstDiffers c.pair.plugSeen ws]

theorem plugRead_later {s : State} (h : 2 < s.chip.phase) (ht : s.chip.pair.plugAt + 1000000 ≤ s.chip.now) (position : Fin 3)
    {words : List (BitVec 32)} (hd : s.chip.pair.plugSeen ≠ words.map (·.toNat)) :
    exec (.plugRead position words) s = .next { s with chip := s.chip.plugDiffers (words.map (·.toNat)) } := by
  refine chipOnly_to s ((if_neg (Nat.ne_of_gt h)).trans ((if_neg ?_).trans (if_neg hd)))
  rw [Bool.or_eq_true, decide_eq_true_eq, decide_eq_true_eq]
  omega

/-- Settles O33: a copy's end writes its own words last, and what follows the lease state leaves the engine and the pair's volatile part. -/
theorem mirrorAndPairCommands : Obligations.MirrorAndPairCommands := by
  intro s hsh
  refine ⟨fun latched ended hl => ⟨fun hlen => ?_, fun hlen => ?_⟩, fun cycle words seqs loops axes hl hp => ?_,
    fun hfree => ⟨fun session => ⟨fun hrole hstill => ⟨fun hl hps hlag ha hb hask => ?_, fun hl hps hh => ?_⟩, fun hrole hl => ?_, fun hrole c hc => ?_⟩, ?_⟩,
    fun position words hlen => ⟨fun h => ?_, fun h ht hd => ?_⟩⟩
  · have hm := mirrored_length s.chip (mirrorOf (latched.map (·.toNat)) (ended.map (·.toNat)))
    have hrun := mirrorRecord_at hl latched ended
    rw [lagSync_within (by rw [hm]; omega)] at hrun
    have hframe := lagShown_mirrored s.chip (mirrorOf (latched.map (·.toNat)) (ended.map (·.toNat)))
    refine ⟨_, hrun, congrArg (·.pair.records) hframe, congrArg (·.pair.lastRec) hframe, (lagShown_lease _).trans hl, ?_, ?_⟩
    · exact (lagShown_lag (by rw [hm]; omega)).trans hm
    · exact congrArg (fun c => ({ s with chip := c } : State)) hframe
  · have hm := mirrored_length s.chip (mirrorOf (latched.map (·.toNat)) (ended.map (·.toNat)))
    obtain ⟨hlease, hrecords⟩ := desync_ends ((lagShown_lease (s.chip.mirrored (mirrorOf (latched.map (·.toNat)) (ended.map (·.toNat))))).trans hl) 1
    have hrun := mirrorRecord_at hl latched ended
    rw [lagSync_beyond (by rw [hm]; omega)] at hrun
    exact ⟨_, hrun, hrecords, hlease, .chip s _⟩
  · obtain ⟨c, ms, pos, hrun⟩ := resyncComplete_ends hl hp cycle words seqs loops axes
    have hlease := setLease_leases ((c.copyDone cycle.toNat ms).record 75 0xFF 1 pos [3] [cycle.toNat, ms]) 4 0 0
    refine ⟨_, hrun, setLease_lease _ (by decide) _ _, ?_, ?_, ?_, ?_, ?_, ?_, .chip s _⟩
    · rw [hlease.eng, Chip.record_eng]; rfl
    · rw [hlease.eng, Chip.record_eng]; rfl
    · rw [hlease.eng, Chip.record_eng]; rfl
    · rw [hlease.pair, Chip.record_pair]; rfl
    · rw [hlease.pair, Chip.record_pair]; rfl
    · rw [hlease.get (by decide), Chip.record_get _ _ _ _ _ _ _ (by decide), copyDone_count _ cycle.isLt]
  · have hrun : exec (.swapLease session) s = .next { s with chip := (s.chip.pairAccept 0 1).setPair (fun p => { p with swapAsk := true }) } :=
      chipOnly_to s ((pairSwap_run hfree _).trans (if_neg (by simp [hrole, hl, hps, hlag, ha, hb, hask, hstill])))
    exact ⟨_, hrun, (Chip.setPair_get _ _ _ _).trans (pairAccept_result _ _ (by decide)),
      (Chip.setPair_get _ _ _ _).trans (pairAccept_cmd _ (by decide) _), rfl, rfl, (pairAccept_words _ _ _).kept⟩
  · have hrun : exec (.handover session) s = .next { s with chip := (s.chip.pairAccept 1 1).setPair (fun p => { p with handAsk := true }) } :=
      chipOnly_to s ((pairHandover_run hfree _).trans (if_neg (by simp [hrole, hl, hps, hh, hstill])))
    exact ⟨_, hrun, (Chip.setPair_get _ _ _ _).trans (pairAccept_result _ _ (by decide)),
      (Chip.setPair_get _ _ _ _).trans (pairAccept_cmd _ (by decide) _), rfl, rfl, (pairAccept_words _ _ _).kept⟩
  · have hrun : exec (.resync session) s = .next { s with chip := (s.chip.pairAccept 2 2).desync 0 } :=
      chipOnly_to s ((pairResync_run hfree _).trans (if_neg (by simp [hrole, hl])))
    have hlease : (s.chip.pairAccept 2 2).lease = 4 := ((pairAccept_words s.chip 2 2).get (by decide)).trans hl
    obtain ⟨hends, hrecords⟩ := desync_ends hlease 0
    exact ⟨_, hrun, (desync_asked hlease (by decide) (by decide)).trans (pairAccept_result _ _ (by decide)),
      (desync_asked hlease (by decide) (by decide)).trans (pairAccept_cmd _ (by decide) _), hends, hrecords, .chip s _⟩
  · have hno : ∀ b : Bool, (!s.chip.roleIn session [2, 3] || b) = true := fun b => by rw [hrole]; rfl
    simp only [List.mem_cons, List.not_mem_nil, or_false] at hc
    rcases hc with rfl | rfl | rfl
    · exact pair_refused s (chipOnly_to s ((pairSwap_run hfree _).trans (if_pos (by rw [hrole]; rfl))))
    · exact pair_refused s (chipOnly_to s ((pairHandover_run hfree _).trans (if_pos (by rw [hrole]; rfl))))
    · exact pair_refused s (chipOnly_to s ((pairResync_run hfree _).trans (if_pos (by rw [hrole]; rfl))))
  · obtain ⟨hin, hout⟩ := each_setNat pairAt (List.replicate 5 0) 4 s.chip
    refine ⟨_, chipOnly_to s (pairClear_run hfree), fun k hk => ?_, pairAccept_result _ _ (by decide), pairAccept_cmd _ (by decide) _, ?_, ?_⟩
    · refine Eq.trans (congrArg BitVec.toNat (pairAccept_words _ _ _ _ ?_)) ?_
      · rw [Field.at_eq]
        show pairAt + 4 + k ≠ pairAt + 14 + 0 * 1
        omega
      · have hzero := hin k (by rwa [List.length_replicate]) (by rw [List.getElem_replicate]; decide)
        rw [List.getElem_replicate, ← Nat.add_assoc] at hzero
        exact hzero
    · rw [pairZeroed_eq]
      rfl
    · exact ((hout.mono (fun a ha => .inl (by rw [List.length_replicate] at ha; omega))).trans ((pairAccept_words _ _ _).mono (fun a ha => .inr ha))).kept
  · have hws : ∀ w ∈ words.map (·.toNat), w < 2 ^ 32 := fun w hw => by
      obtain ⟨x, -, rfl⟩ := List.mem_map.1 hw
      exact x.isLt
    refine ⟨_, plugRead_first h position hlen, plugRouted_pos _ (by omega) _, fun k hk => ?_, ?_⟩
    · rw [plugRouted_route s.chip position.val hws k (by rwa [List.length_map]), List.getElem_map]
    · exact congrArg (fun c => ({ s with chip := c } : State)) (plugRouted_frame _ _ _)
  · refine ⟨_, plugRead_later h ht position hd, ?_, ?_, ?_, .chip s _, ?_⟩
    · exact (Chip.record_get _ _ _ _ _ _ _ (by decide)).trans (Chip.get_put_of_lt _ _ (by decide) (by decide))
    · exact (Chip.record_get _ _ _ _ _ _ _ (by decide)).trans (Chip.get_put_clear _ _ _ (by decide))
    · exact congrArg PairSt.plugSeen (Chip.record_pair _ _ _ _ _ _ _)
    · have hput : s.chip.WordsBut (fun a => a = Pair.route_changed.at pairAt 0 ∨ recorderWord a) (s.chip.put pairAt Pair.route_changed 1) := .put _ _ (.inl rfl)
      have hnote : (s.chip.put pairAt Pair.route_changed 1).WordsBut (fun a => a = Pair.route_changed.at pairAt 0 ∨ recorderWord a)
          ((s.chip.put pairAt Pair.route_changed 1).plugNoted (words.map (·.toNat))) := .of_regs rfl
      exact ((hput.trans hnote).trans (.record _ _ _ _ _ _ _ (fun a ha => .inr ha))).kept

end Sys2Proof.Machine
end

section
/-! SUPPORT. O32: the lease. -/

namespace Sys2Proof.Machine

/-! ### Words of the pair block -/

/-- The words of the pair's space are as they were. -/
def Chip.PairWords (c d : Chip) : Prop := c.WordsBut (fun a => spaceOf a ≠ 9) d

namespace Chip.PairWords

variable {c d e : Chip}

theorem refl (c : Chip) : c.PairWords c := Chip.WordsBut.refl _ c

theorem trans (h : c.PairWords d) (k : d.PairWords e) : c.PairWords e := Chip.WordsBut.trans h k

theorem of_regs (h : d.regs = c.regs) : c.PairWords d := Chip.WordsBut.of_regs h

theorem put (c : Chip) {b : Nat} {f : Field} (v : Nat) (h : spaceOf (f.at b 0) ≠ 9) : c.PairWords (c.put b f v) := Chip.WordsBut.put c v h

theorem of_passes (h : c.Passes d) : c.PairWords d := h.words.mono (fun a ha => by
  have := netWord_space ha
  omega)

theorem of_shifts (h : c.Shifts d) : c.PairWords d := h.words.mono (fun a ha => by
  rcases ha with ha | ha | ha <;> omega)

theorem each {α : Type} {f : Chip → α → Chip} (l : List α) (k : ∀ e : Chip, ∀ x ∈ l, e.PairWords (f e x)) (c : Chip) :
    c.PairWords (c.each l f) := each_rel refl (fun _ _ _ => trans) l k c

theorem ite {b : Prop} [Decidable b] (h : b → c.PairWords d) (k : ¬ b → c.PairWords e) : c.PairWords (if b then d else e) := by
  split
  · next hb => exact h hb
  · next hb => exact k hb

theorem get (h : c.PairWords d) {f : Field} (hf : f.first < 65536) : d.get pairAt f = c.get pairAt f :=
  Chip.WordsBut.get h (fun hs => hs (by
    rw [Field.at_eq, pairAt, spaceOf]
    omega))

theorem lease (h : c.PairWords d) : d.lease = c.lease := h.get (by decide)

end Chip.PairWords

theorem reply_pairWords (c : Chip) (i typ seq rid : Nat) (body : List Nat) : c.PairWords (c.reply i typ seq rid body) := by
  obtain ⟨f, -, hs⟩ := reply_eq c i typ seq rid body
  exact Chip.PairWords.trans (d := c.setSess i f) (.of_regs rfl) (hs.words.mono (fun a ha => by
    have := netWord_space ha
    omega))

theorem flushAnswers_pairWords (n : Nat) (c : Chip) (i : Nat) : c.PairWords (c.flushAnswers i n) := by
  induction n generalizing c with
  | zero => exact .refl c
  | succ n ih =>
    unfold Chip.flushAnswers
    split
    · next q rest hq =>
      have hrest : c.PairWords (c.setSess i (fun h => { h with pend := rest })) := .of_regs rfl
      exact .ite (fun _ => (hrest.trans (reply_pairWords _ _ _ _ _ _)).trans (ih _)) (fun _ => .refl c)
    · exact .refl c

theorem answerTo_pairWords (c : Chip) (a : Option AskedBy) (bs : List Nat) : c.PairWords (c.answerTo a bs) := by
  match a with
  | none => exact .refl c
  | some q => exact .trans (d := c.partGiven q bs) (.of_regs rfl) (flushAnswers_pairWords 8 _ _)

theorem changeDone_pairWords (c : Chip) (q : QChange) (reason : Nat) : c.PairWords (c.changeDone q reason) := by
  unfold Chip.changeDone
  refine .trans ?_ (answerTo_pairWords _ _ _)
  split
  · exact .of_regs rfl
  · exact .refl _

theorem refuseChange_pairWords (c : Chip) (q : QChange) (reason : Nat) : c.PairWords (c.refuseChange q reason) := by
  have hcount : c.PairWords ((c.bump changeAt Change.refused).put changeAt Change.last_refusal reason) :=
    (Chip.PairWords.put c _ (by decide)).trans (.put _ _ (by decide))
  exact hcount.trans (changeDone_pairWords _ _ _)

theorem dropToShadow_pairWords (c : Chip) : c.PairWords c.dropToShadow := by
  have hqueue : c.PairWords ((c.setEng (fun e => { e with queue := [], edits := [] })).put changeAt Change.queued 0) :=
    .trans (d := c.setEng (fun e => { e with queue := [], edits := [] })) (.of_regs rfl) (.put _ _ (by decide))
  have hchanges := (hqueue.trans (.each c.eng.queue (fun d q _ => refuseChange_pairWords d q 4) _)).trans
    (.each c.eng.edits
    (fun d e _ => answerTo_pairWords d e.session (statusWords (if e.words.isSome then [0x24, 0, 0] else [0x24, 0]))) _)
  exact .ite (fun _ => hchanges.trans (.put _ _ (by decide))) (fun _ => hchanges)

/-! ### Taking the lease (R416, R417, R431) -/

/-- The chip that takes the lease, but for its state. -/
def Chip.epochRaised (c : Chip) (expired : Bool) : Chip :=
  let c1 := c.put pairAt Pair.lease_epoch ((c.get pairAt Pair.lease_epoch + 1) % 2 ^ 32)
  let c2 := if expired then (c1.put pairAt Pair.expired 1).setPanel (fun p => { p with asDirty := true }) else c1
  c2.setPair (fun p => { p with yieldAt := none, restore := !p.own.isEmpty, records := [] })

theorem takeLease_eq (c : Chip) (expired : Bool) : ∃ changed, c.takeLease expired =
    (c.epochRaised expired).setLease (if c.lease = 6 then 5 else 2) (if expired then 2 else 0) changed := ⟨_, rfl⟩

theorem epochRaised_epoch (c : Chip) (expired : Bool) :
    (c.epochRaised expired).get pairAt Pair.lease_epoch = (c.get pairAt Pair.lease_epoch + 1) % 2 ^ 32 := by
  have hput := Chip.get_put_of_lt c pairAt (f := Pair.lease_epoch) (by decide) (Nat.mod_lt (c.get pairAt Pair.lease_epoch + 1) (by decide))
  cases expired
  · exact hput
  · exact (Chip.get_put_clear (c.put pairAt Pair.lease_epoch _) pairAt 1 (f := Pair.expired) (by decide)).trans hput

theorem epochRaised_expired (c : Chip) : (c.epochRaised true).get pairAt Pair.expired = 1 := Chip.get_put_of_lt _ pairAt (by decide) (by decide)

theorem epochRaised_handOuts (c : Chip) (expired : Bool) : (c.epochRaised expired).pair.handOuts = c.pair.handOuts := by cases expired <;> rfl

/-- The lease taken: its state, the epoch raised by one. -/
theorem takeLease_ends (c : Chip) (expired : Bool) : (c.takeLease expired).lease = (if c.lease = 6 then 5 else 2) ∧
    (c.takeLease expired).get pairAt Pair.lease_epoch = (c.get pairAt Pair.lease_epoch + 1) % 2 ^ 32 := by
  obtain ⟨changed, he⟩ := takeLease_eq c expired
  rw [he]
  exact ⟨setLease_lease _ (by split <;> decide) _ _, ((setLease_leases _ _ _ _).fields _ (by decide)).trans (epochRaised_epoch c expired)⟩

theorem takeLease_expired (c : Chip) : (c.takeLease true).get pairAt Pair.expired = 1 := by
  obtain ⟨changed, he⟩ := takeLease_eq c true
  rw [he]
  exact ((setLease_leases _ _ _ _).fields _ (by decide)).trans (epochRaised_expired c)

theorem takeLease_handOuts (c : Chip) (expired : Bool) : (c.takeLease expired).pair.handOuts = c.pair.handOuts := by
  obtain ⟨changed, he⟩ := takeLease_eq c expired
  rw [he, (setLease_leases _ _ _ _).pair, epochRaised_handOuts]

/-! ### Two holders (R418) -/

/-- The holder found not to be the one, before it yields. -/
def Chip.dualFound (c : Chip) (his : Nat) : Chip :=
  (((c.put pairAt Pair.dual_holding 1).bump pairAt Pair.dual_holdings).record 77 0xFF 2 c.pos [] [c.get pairAt Pair.lease_epoch, his]).beginResync.setPair
    (fun p => { p with renewAt := c.now, yieldAt := none })

theorem dualFound_get (c : Chip) (his : Nat) {f : Field} (hr : Pair.resyncs.clear f = true) (hf : f.first < 65536) :
    (c.dualFound his).get pairAt f = ((c.put pairAt Pair.dual_holding 1).bump pairAt Pair.dual_holdings).get pairAt f :=
  (beginResync_get _ hr).trans (Chip.record_get _ _ _ _ _ _ _ (by
    rw [Field.at_eq, pairAt, spaceOf]
    omega))

theorem yieldLease_get {c : Chip} (h : c.lease = 2 ∨ c.lease = 5) {new : Nat} (hn : new < 16) : (c.yieldLease new).lease = new ∧
    ∀ f, leaseKept f = true → Pair.yielded.clear f = true → (c.yieldLease new).get pairAt f = c.get pairAt f := by
  have hrun : c.yieldLease new =
      ((c.laneSend 4 [c.get engineAt Engine.cycle_count, b2n (new == 4)]).put pairAt Pair.yielded 1).setLease new 0 0 :=
    if_neg (by rcases h with h | h <;> rw [h] <;> decide)
  rw [hrun]
  refine ⟨setLease_lease _ hn _ _, fun f hf hy => ?_⟩
  rw [(setLease_leases _ _ _ _).fields f hf, Chip.get_put_clear _ _ _ hy]
  exact (Chip.PairWords.of_passes (laneSend_sends c _ _).1).get (leaseKept_iff.1 hf).2.2

theorem dualHolding_ends {s : State} (h : s.chip.lease = 2 ∨ s.chip.lease = 5) {partnerEpoch : BitVec 32}
    (hp : partnerEpoch.toNat < s.chip.get pairAt Pair.lease_epoch ∨ (partnerEpoch.toNat = s.chip.get pairAt Pair.lease_epoch ∧ s.chip.pos ≠ 1)) :
    exec (.dualHoldingResolved partnerEpoch) s = .next { s with chip := ((s.chip.dualFound partnerEpoch.toNat).yieldLease 3).dropToShadow } := by
  refine chipOnly_to s (if_neg ?_)
  simp only [Bool.or_eq_true, Bool.and_eq_true, bne_iff_ne, decide_eq_true_eq]
  omega

/-! ### The partner lost (R413) -/

/-- A channel whose partner's state is forgotten. -/
def ChanSt.unshared (h : ChanSt) : ChanSt := { h with partnerOn := false, partnerLoad := 0, partnerExt := false }

/-- The partner's words at its loss. -/
def Chip.partnerGone (c : Chip) : Chip :=
  ((((c.put pairAt Pair.partner 0).put pairAt Pair.partner_state 0).put pairAt Pair.partner_lost 1).putLane 0 false).putLane 1 false

/-- The shared channels at its loss. -/
def Chip.sharesGone (c : Chip) : Chip :=
  c.each c.sharedChans (fun c g =>
    if (c.setChan g (·.unshared)).dNow g dShareLow then
      (((c.setChan g (·.unshared)).dOff g dShareLow).record 44 (g / 16) 0 g [0] [(c.setChan g (·.unshared)).get (chanAt g) Dig.load]).putStatus g
    else c.setChan g (·.unshared))

/-- Its functions there, unknown. -/
def Chip.sfsGone (c : Chip) : Chip := { c with safe := { c.safe with sfs := c.safe.sfs.map (fun h => { h with partner := none }) } }

theorem sfsGone_get (c : Chip) (b : Nat) (f : Field) : c.sfsGone.get b f = c.get b f := rfl

theorem losePartner_eq (c : Chip) : c.losePartner =
    (let c5 := ((c.partnerGone.sfsGone.sharesGone.record 74 0xFF 2 (3 - c.pos) [] [c.pair.partnerCycle]).pairAbort).holderSync
    (if c5.lease = 2 then c5.setLease 5 0 0 else if c5.lease = 4 then c5.setLease 6 0 0 else c5).resolveShared) := rfl

/-- What the loss writes of the pair block beside the lease state. -/
theorem partnerGone_flags (c : Chip) : c.partnerGone.get pairAt Pair.partner = 0 ∧ c.partnerGone.get pairAt Pair.partner_state = 0 ∧ c.partnerGone.lease = c.lease := by
  have hlanes {f : Field} (ha : Pair.lane_a.clear f = true) (hb : Pair.lane_b.clear f = true) (hl : Pair.partner_lost.clear f = true) :
      c.partnerGone.get pairAt f = ((c.put pairAt Pair.partner 0).put pairAt Pair.partner_state 0).get pairAt f :=
    (Chip.get_put_clear _ _ _ hb).trans ((Chip.get_put_clear _ _ _ ha).trans (Chip.get_put_clear _ _ _ hl))
  refine ⟨(hlanes (by decide) (by decide) (by decide)).trans ?_, (hlanes (by decide) (by decide) (by decide)).trans ?_,
    (hlanes (by decide) (by decide) (by decide)).trans ?_⟩
  · exact (Chip.get_put_clear _ _ _ (by decide)).trans (Chip.get_put_of_lt _ _ (by decide) (by decide))
  · exact Chip.get_put_of_lt _ _ (by decide) (by decide)
  · exact (Chip.get_put_clear _ _ _ (by decide)).trans (Chip.get_put_clear _ _ _ (by decide))

theorem sharesGone_shifts (c : Chip) : c.Shifts c.sharesGone :=
  .each _ (fun d g hg => by
    have hset : d.Shifts (d.setChan g (·.unshared)) := .setChan d g _
    have hg128 := sharedChans_lt hg
    refine .ite (fun _ => ?_) (fun _ => hset)
    exact ((hset.trans (.of_chan (Chip.dOff_moves _ g dShareLow) hg128 (by decide))).trans (.record _ _ _ _ _ _ _)).trans
      (.of_chan (Chip.putStatus_moves _ g) hg128 (by decide))) c

theorem pairAbort_get (c : Chip) {f : Field} (h : Pair.result.clear f = true) : c.pairAbort.get pairAt f = c.get pairAt f := by
  unfold Chip.pairAbort
  split
  · exact Chip.get_put_clear _ _ _ h
  · rfl

/-- The partner gone: the pair's words as the loss leaves them, before the lease state follows. -/
theorem lossShown_get (c : Chip) (pos : Nat) (ws : List Nat) {f : Field} (hf : f.first < 65536) (hr : Pair.result.clear f = true) (hp : Pair.holder_pos.clear f = true) :
    (((c.partnerGone.sfsGone.sharesGone.record 74 0xFF 2 pos [] ws).pairAbort).holderSync).get pairAt f = c.partnerGone.get pairAt f := by
  have hgone : c.partnerGone.sfsGone.PairWords (c.partnerGone.sfsGone.sharesGone.record 74 0xFF 2 pos [] ws) :=
    .of_shifts ((sharesGone_shifts _).trans (.record _ _ _ _ _ _ _))
  rw [Chip.holderSync, Chip.get_put_clear _ _ _ hp, pairAbort_get _ hr, hgone.get hf, sfsGone_get]

/-- The lease state that follows the loss, and the shared outputs. -/
def Chip.aloneNow (c : Chip) : Chip :=
  (if c.lease = 2 then c.setLease 5 0 0 else if c.lease = 4 then c.setLease 6 0 0 else c).resolveShared

theorem aloneNow_ends (c : Chip) : c.aloneNow.lease = (if c.lease = 2 then 5 else if c.lease = 4 then 6 else c.lease) ∧
    ∀ f, leaseKept f = true → c.aloneNow.get pairAt f = c.get pairAt f := by
  let d := if c.lease = 2 then c.setLease 5 0 0 else if c.lease = 4 then c.setLease 6 0 0 else c
  have hstate : d.lease = (if c.lease = 2 then 5 else if c.lease = 4 then 6 else c.lease) := by
    rw [apply_ite Chip.lease, apply_ite Chip.lease, setLease_lease _ (by decide), setLease_lease _ (by decide)]
  have hmoves : c.Leases d := .ite (fun _ => setLease_leases _ _ _ _) (fun _ => .ite (fun _ => setLease_leases _ _ _ _) (fun _ => .refl c))
  have hout : d.PairWords c.aloneNow := .of_shifts (resolveShared_shifts d)
  exact ⟨hout.lease.trans hstate, fun f hf => (hout.get (leaseKept_iff.1 hf).2.2).trans (hmoves.fields f hf)⟩

theorem losePartner_ends (c : Chip) : c.losePartner.get pairAt Pair.partner = 0 ∧ c.losePartner.get pairAt Pair.partner_state = 0 ∧
    c.losePartner.lease = (if c.lease = 2 then 5 else if c.lease = 4 then 6 else c.lease) := by
  obtain ⟨hpartner, hstate, hlease⟩ := partnerGone_flags c
  have hrun : c.losePartner =
      (((c.partnerGone.sfsGone.sharesGone.record 74 0xFF 2 (3 - c.pos) [] [c.pair.partnerCycle]).pairAbort).holderSync).aloneNow := losePartner_eq c
  obtain ⟨hend, hkept⟩ := aloneNow_ends
    (((c.partnerGone.sfsGone.sharesGone.record 74 0xFF 2 (3 - c.pos) [] [c.pair.partnerCycle]).pairAbort).holderSync)
  have hwas : (((c.partnerGone.sfsGone.sharesGone.record 74 0xFF 2 (3 - c.pos) [] [c.pair.partnerCycle]).pairAbort).holderSync).lease = c.lease :=
    (lossShown_get c _ _ (by decide) (by decide) (by decide)).trans hlease
  rw [hrun, hend, hwas]
  exact ⟨((hkept _ (by decide)).trans (lossShown_get c _ _ (by decide) (by decide) (by decide))).trans hpartner,
    ((hkept _ (by decide)).trans (lossShown_get c _ _ (by decide) (by decide) (by decide))).trans hstate, rfl⟩

/-! ### The handover order (R431) -/

/-- The numbers that an order gives stand in the port blocks. -/
theorem orderSeqs_lease (c : Chip) (objs : List (Nat × Nat × Nat)) (pubs : List (Nat × Nat)) : (c.orderSeqs objs pubs).lease = c.lease := by
  unfold Chip.orderSeqs
  refine Chip.PairWords.lease (.trans (d := c.each _ _) (.each _ (fun d r hr => ?_) c) (.of_regs rfl))
  have hr8 := List.mem_range.1 (List.mem_filter.1 hr).1
  refine .trans (d := d.each _ _) (.each _ (fun e j hj => ?_) d) (.of_regs rfl)
  have hj := List.mem_range.1 (List.mem_filter.1 hj).1
  refine Chip.WordsBut.putI e _ ?_
  simp only [Field.at_eq, portAt, blockAddr, spaceOf, PWord.ob_pseq, Field.many]
  omega

/-- The chip that takes the lease by an order. -/
def Chip.ordered (c : Chip) (epoch : Nat) (outs : List (Nat × Nat)) (objs : List (Nat × Nat × Nat)) (pubs : List (Nat × Nat)) : Chip :=
  ((c.orderSeqs objs pubs).setPair (fun p => { p with handOuts := outs })).put pairAt Pair.lease_epoch epoch

theorem ordered_lease (c : Chip) (epoch : Nat) (outs : List (Nat × Nat)) (objs : List (Nat × Nat × Nat)) (pubs : List (Nat × Nat)) :
    (c.ordered epoch outs objs pubs).lease = c.lease :=
  (Chip.get_put_clear _ _ _ (by decide)).trans (orderSeqs_lease c objs pubs)

theorem ordered_epoch (c : Chip) {epoch : Nat} (h : epoch < 2 ^ 32) (outs : List (Nat × Nat)) (objs : List (Nat × Nat × Nat)) (pubs : List (Nat × Nat)) :
    (c.ordered epoch outs objs pubs).get pairAt Pair.lease_epoch = epoch := Chip.get_put_of_lt _ _ (by decide) h

theorem ordered_handOuts (c : Chip) (epoch : Nat) (outs : List (Nat × Nat)) (objs : List (Nat × Nat × Nat)) (pubs : List (Nat × Nat)) :
    (c.ordered epoch outs objs pubs).pair.handOuts = outs := rfl

/-! ### Renewals and yields (R416, R417) -/

theorem leaseRenewal_ends {s : State} (h : s.chip.lease = 2 ∨ s.chip.lease = 5) (ht : s.chip.pair.renewSent + s.chip.renewPeriod ≤ s.chip.now) :
    ∃ t, exec .leaseRenewal s = .next t ∧ t.chip.pair.renewSent = s.chip.now ∧ t.chip.lease = s.chip.lease ∧ t.chip.emitted = s.chip.emitted ++
      s.chip.onLanes 3 [s.chip.get pairAt Pair.lease_epoch, s.chip.get pairAt Pair.lease_period] ∧ StoresKept s t := by
  obtain ⟨hpass, hem⟩ := laneSend_sends s.chip 3 [s.chip.get pairAt Pair.lease_epoch, s.chip.get pairAt Pair.lease_period]
  refine ⟨_, chipOnly_to s (if_neg ?_), rfl, (Chip.PairWords.of_passes hpass).lease, hem, .chip s _⟩
  simp only [Bool.or_eq_true, Bool.and_eq_true, bne_iff_ne, decide_eq_true_eq]
  omega

theorem hearYield_takes {c : Chip} {cycle : Nat} (h : c.lease = 3 ∨ (c.lease = 4 ∧ cycle ≤ c.get engineAt Engine.cycle_count)) (swap : Bool) :
    c.hearYield cycle swap = c.takeLease false := by
  refine (if_neg ?_).trans (if_pos ?_)
  · simp only [Bool.and_eq_true, Bool.not_eq_true', decide_eq_true_eq, decide_eq_false_iff_not]
    omega
  · simp only [Bool.or_eq_true, decide_eq_true_eq]
    omega

theorem hearYield_waits {c : Chip} {cycle : Nat} (h : c.lease = 4) (hc : c.get engineAt Engine.cycle_count < cycle) (swap : Bool) :
    c.hearYield cycle swap = c.setPair (fun p => { p with yieldAt := some (cycle, swap) }) :=
  if_pos (by
    simp only [Bool.and_eq_true, Bool.not_eq_true', decide_eq_true_eq, decide_eq_false_iff_not]
    omega)

/-- Settles O32: what follows a change of the lease state leaves the pair block's other words, so the epoch and the flags written before it stand. -/
theorem leaseChanges : Obligations.LeaseChanges := by
  intro s hsh
  refine ⟨fun hl => ⟨fun ht => leaseRenewal_ends hl ht, fun partnerEpoch hp => ?_, fun partnerEpoch hp => ?_⟩, fun hs ht => ?_,
    fun cycle swap => ⟨fun h => ?_, fun hl hc => ?_⟩, fun epoch outs objs pubs hl => ?_, fun hp ht => ?_⟩
  · have hfound : (s.chip.dualFound partnerEpoch.toNat).lease = s.chip.lease :=
      (dualFound_get _ _ (by decide) (by decide)).trans ((Chip.get_bump_clear' _ _ (by decide)).trans (Chip.get_put_clear _ _ _ (by decide)))
    obtain ⟨hlease, hkept⟩ := yieldLease_get (c := s.chip.dualFound partnerEpoch.toNat) (hfound.symm ▸ hl) (new := 3) (by decide)
    have hdrop := dropToShadow_pairWords ((s.chip.dualFound partnerEpoch.toNat).yieldLease 3)
    refine ⟨_, dualHolding_ends hl hp, hdrop.lease.trans hlease, ?_, ?_, .chip s _⟩
    · rw [hdrop.get (by decide), hkept _ (by decide) (by decide), dualFound_get _ _ (by decide) (by decide), Chip.get_bump_clear' _ _ (by decide)]
      exact Chip.get_put_of_lt _ _ (by decide) (by decide)
    · rw [hdrop.get (by decide), hkept _ (by decide) (by decide), dualFound_get _ _ (by decide) (by decide), Chip.bump_get_self _ _ (by decide),
        Chip.get_put_clear _ _ _ (by decide)]
  · refine chipOnly_to s (if_pos ?_)
    simp only [Bool.or_eq_true, Bool.and_eq_true, bne_iff_ne, decide_eq_true_eq]
    omega
  · obtain ⟨hlease, hepoch⟩ := takeLease_ends s.chip true
    refine ⟨_, chipOnly_to s (if_neg ?_), hlease, hepoch, takeLease_expired s.chip, .chip s _⟩
    rw [hs]
    simpa using ht
  · obtain ⟨hlease, hepoch⟩ := takeLease_ends s.chip false
    exact ⟨_, chipOnly_to s (hearYield_takes h swap), hlease.trans (if_neg (by omega)), hepoch, .chip s _⟩
  · exact ⟨_, chipOnly_to s (hearYield_waits hl hc swap), rfl⟩
  · let o := s.chip.ordered epoch.toNat (outs.map (fun o => (o.1.val, o.2.toNat))) (objs.map (fun o => (o.1.val, o.2.1.toNat, o.2.2.toNat)))
      (pubs.map (fun p => (p.1.val, p.2.toNat)))
    obtain ⟨hlease, hepoch⟩ := takeLease_ends o false
    refine ⟨_, chipOnly_to s (d := o.takeLease false) (if_neg (by rw [hl]; decide)), hlease.trans (if_neg ?_), ?_, ?_, .chip s _⟩
    · rw [ordered_lease, hl]
      decide
    · rw [hepoch, ordered_epoch _ epoch.isLt]
    · rw [takeLease_handOuts, ordered_handOuts]
  · obtain ⟨hpartner, hstate, hlease⟩ := losePartner_ends s.chip
    refine ⟨_, chipOnly_to s (if_neg ?_), ?_, hstate, hlease, .chip s _⟩
    · rw [hp]
      simpa using ht
    · rw [Chip.flag, hpartner]
      rfl

end Sys2Proof.Machine
end

section
/-! SUPPORT. O31: the pair lanes. -/

namespace Sys2Proof.Machine

/-! ### What a frame leaves of the times of the lanes (R410, R413) -/

/-- The ticks of the lanes' and the partner's last valid frames are as they were. -/
def Chip.TimesKept (c d : Chip) : Prop := d.pair.laneAt = c.pair.laneAt ∧ d.pair.partnerAt = c.pair.partnerAt

namespace Chip.TimesKept

variable {c d e : Chip}

theorem refl (c : Chip) : c.TimesKept c := ⟨rfl, rfl⟩

theorem trans (h : c.TimesKept d) (k : d.TimesKept e) : c.TimesKept e := ⟨k.1.trans h.1, k.2.trans h.2⟩

theorem of_pair (h : d.pair = c.pair) : c.TimesKept d := ⟨congrArg PairSt.laneAt h, congrArg PairSt.partnerAt h⟩

theorem of_leases (h : c.Leases d) : c.TimesKept d := .of_pair h.pair

theorem of_shifts (h : c.Shifts d) : c.TimesKept d := .of_pair h.pair

theorem put (c : Chip) (b : Nat) (f : Field) (v : Nat) : c.TimesKept (c.put b f v) := ⟨rfl, rfl⟩

theorem ite {b : Prop} [Decidable b] (h : b → c.TimesKept d) (k : ¬ b → c.TimesKept e) : c.TimesKept (if b then d else e) := by
  split
  · next hb => exact h hb
  · next hb => exact k hb

theorem each {α : Type} {f : Chip → α → Chip} (k : ∀ (e : Chip) (x : α), e.TimesKept (f e x)) (l : List α) (c : Chip) :
    c.TimesKept (c.each l f) := each_rel refl (fun _ _ _ => trans) l (fun e x _ => k e x) c

end Chip.TimesKept

theorem setLease_times (c : Chip) (new severity changed : Nat) : c.TimesKept (c.setLease new severity changed) := .of_leases (setLease_leases _ _ _ _)

theorem beginResync_times (c : Chip) : c.TimesKept c.beginResync :=
  ⟨by rw [beginResync_pair], by rw [beginResync_pair]⟩

theorem record_times (c : Chip) (source region severity subject : Nat) (bs ws : List Nat) : c.TimesKept (c.record source region severity subject bs ws) :=
  .of_pair (Chip.record_pair _ _ _ _ _ _ _)

theorem desync_times (c : Chip) (cause : Nat) : c.TimesKept (c.desync cause) := by
  refine .ite (fun _ => .refl c) (fun _ => ?_)
  have hflag : c.TimesKept (if cause = 2 then (c.bump pairAt Pair.divergences).put pairAt Pair.divergence 1 else c) :=
    .ite (fun _ => (Chip.TimesKept.put c _ _ _).trans (.put _ _ _ _)) (fun _ => .refl c)
  have hbegin := hflag.trans (beginResync_times _)
  exact .trans (.ite (fun _ => hbegin) (fun _ => hbegin.trans (record_times _ _ _ _ _ _ _))) (setLease_times _ _ _ _)

theorem takeLease_times (c : Chip) (expired : Bool) : c.TimesKept (c.takeLease expired) := by
  obtain ⟨changed, he⟩ := takeLease_eq c expired
  rw [he]
  exact .trans (d := c.epochRaised expired) (by cases expired <;> exact ⟨rfl, rfl⟩) (setLease_times _ _ _ _)

theorem pairAbort_times (c : Chip) : c.TimesKept c.pairAbort := .ite (fun _ => ⟨rfl, rfl⟩) (fun _ => .refl c)

theorem findPartner_times (c : Chip) : c.TimesKept c.findPartner := by
  refine .ite (fun _ => .refl c) (fun _ => ?_)
  have hput := Chip.TimesKept.put c pairAt Pair.partner 1
  exact .trans (.ite (fun _ => (hput.trans (beginResync_times _)).trans (setLease_times _ _ _ _)) (fun _ => hput)) (.of_shifts (resolveShared_shifts _))

theorem shareRamp_times (c : Chip) (kind : Nat) : c.TimesKept (c.shareRamp kind) := .of_shifts (shareRamp_shifts c kind)

/-- The steps of a partner's new state: the lease held again, the shares, a swap given up, and the hold of a handover at its end. -/
def Chip.holdsAgain (c : Chip) (new : Nat) : Chip := if c.lease = 5 && new = 4 then c.setLease 2 0 0 else c

def Chip.sharesAgain (c : Chip) (old new : Nat) : Chip :=
  if old != new && (new = 4 || (old = 4 && new = 3)) && (c.lease = 2 || c.lease = 5) then c.shareRamp 3 else c

def Chip.swapDropped (c : Chip) (old new : Nat) : Chip := if old = 4 && new != 4 && c.pair.swapAsk then c.pairAbort else c

def Chip.handEnded (c : Chip) (new cycles : Nat) : Chip :=
  if c.pair.handHold && new = 2 && 1 ≤ cycles then ((c.setPair (fun p => { p with handHold := false })).shareRamp 2).resolveShared else c

theorem partnerIs_eq (c : Chip) (new cycles : Nat) : c.partnerIs new cycles =
    (((((c.put pairAt Pair.partner_state new).holderSync).holdsAgain new).sharesAgain (c.get pairAt Pair.partner_state) new).swapDropped
      (c.get pairAt Pair.partner_state) new).handEnded new cycles := rfl

theorem partnerIs_times (c : Chip) (new cycles : Nat) : c.TimesKept (c.partnerIs new cycles) := by
  have hput := (Chip.TimesKept.put c pairAt Pair.partner_state new).trans (.of_leases (holderSync_leases _))
  have hhold (d : Chip) : d.TimesKept (d.holdsAgain new) := .ite (fun _ => setLease_times _ 2 0 0) (fun _ => .refl _)
  have hramp (d : Chip) (old : Nat) : d.TimesKept (d.sharesAgain old new) := .ite (fun _ => shareRamp_times _ 3) (fun _ => .refl _)
  have habort (d : Chip) (old : Nat) : d.TimesKept (d.swapDropped old new) := .ite (fun _ => pairAbort_times _) (fun _ => .refl _)
  have hend (d : Chip) : d.TimesKept (d.handEnded new cycles) :=
    .ite (fun _ => .trans (.trans (d := d.setPair (fun p => { p with handHold := false })) ⟨rfl, rfl⟩ (shareRamp_times _ 2))
      (.of_shifts (resolveShared_shifts _))) (fun _ => .refl _)
  rw [partnerIs_eq]
  exact (((hput.trans (hhold _)).trans (hramp _ _)).trans (habort _ _)).trans (hend _)

theorem hearNeg_times (c : Chip) (ws : List Nat) : c.TimesKept (c.hearNeg ws) := by
  have hfind : c.TimesKept (if decide (c.phase < 7) then c.findPartner
      else c.findPartner.compatSync (negOf ws) ((negOf ws).struct_ == (List.range 8).map (fun k => c.nat (imageAt + 0xC + k)))) :=
    .ite (fun _ => findPartner_times c) (fun _ => (findPartner_times c).trans ⟨rfl, rfl⟩)
  exact hfind.trans (.trans ⟨rfl, rfl⟩ (partnerIs_times _ _ _))

/-- What a heartbeat says of the shared channels and of the functions. -/
def Chip.beatShown (c : Chip) (ws : List Nat) : Chip :=
  let c3 := c.each c.sharedChans (fun c g => c.setChan g (fun h => { h with
    partnerOn := bitIn ((ws.drop 5).take 4) g, partnerExt := bitIn ((ws.drop 9).take 4) g }))
  let c4 := c3.each (ws.drop 45) (fun c e => c.setChan (e / 65536) (fun h => { h with partnerLoad := e % 65536 }))
  c4.each (List.range 32) (fun c sf =>
    let v := nth 0 ((ws.drop 13).take 32) sf
    if v.testBit 4 then c.setSf sf (fun h => { h with partner := some (v % 8, v.testBit 3) }) else c)

theorem beatShown_times (c : Chip) (ws : List Nat) : c.TimesKept (c.beatShown ws) := by
  unfold Chip.beatShown
  refine .trans (.trans (.each (fun d g => ?_) _ _) (.each (fun d e => ?_) _ _)) (.each (fun d sf => ?_) _ _)
  · exact ⟨rfl, rfl⟩
  · exact ⟨rfl, rfl⟩
  · exact .ite (fun _ => ⟨rfl, rfl⟩) (fun _ => .refl d)

theorem hearBeat_times (c : Chip) (ws : List Nat) : c.TimesKept (c.hearBeat ws) := by
  have hfind : c.TimesKept (c.hearPresence (nth 0 ws 0)).findPartner := .trans ⟨rfl, rfl⟩ (findPartner_times _)
  have hcycle : c.TimesKept ((c.hearPresence (nth 0 ws 0)).findPartner.setPair (fun p => { p with
      partnerCycle := nth 0 ws 1, hisDigest := some (nth 0 ws 2, nth 0 ws 3), partnerLag := nth 0 ws 4 })) := hfind.trans ⟨rfl, rfl⟩
  have hstate := (hcycle.trans (beatShown_times _ ws)).trans (partnerIs_times _ (nth 0 ws 0 % 16) (nth 0 ws 1))
  unfold Chip.hearBeat
  dsimp only
  split
  · exact hstate.trans (.ite (fun _ => desync_times _ 2) (fun _ => .refl _))
  · exact hstate

theorem hearYield_times (c : Chip) (cycle : Nat) (swap : Bool) : c.TimesKept (c.hearYield cycle swap) :=
  .ite (fun _ => ⟨rfl, rfl⟩) (fun _ => .ite (fun _ => takeLease_times c false) (fun _ => .refl c))

theorem hearOwned_times (n : Nat) : ∀ (c : Chip) (ws : List Nat), ws.length ≤ n → c.TimesKept (c.hearOwned ws) := by
  induction n with
  | zero =>
    intro c ws h
    rw [List.length_eq_zero_iff.1 (Nat.le_zero.1 h)]
    exact .refl c
  | succ n ih =>
    intro c ws h
    match ws with
    | [] => exact .refl c
    | [_] => exact .refl c
    | [_, _] => exact .refl c
    | g :: st :: v :: ws =>
      rw [Chip.hearOwned]
      simp only [List.length_cons] at h
      exact .trans ⟨rfl, rfl⟩ (ih _ ws (by omega))

theorem hearShares_times (n : Nat) : ∀ (c : Chip) (ws : List Nat), ws.length ≤ n → c.TimesKept (c.hearShares ws) := by
  induction n with
  | zero =>
    intro c ws h
    rw [List.length_eq_zero_iff.1 (Nat.le_zero.1 h)]
    exact .refl c
  | succ n ih =>
    intro c ws h
    match ws with
    | [] => exact .refl c
    | [_] => exact .refl c
    | g :: v :: ws =>
      rw [Chip.hearShares]
      simp only [List.length_cons] at h
      exact .trans ⟨rfl, rfl⟩ (ih _ ws (by omega))

theorem axMoves_times {c d : Chip} {x : Nat} (h : c.AxMoves x d) : c.TimesKept d := by
  obtain ⟨rg, ax, rc, hd⟩ := h.frame
  rw [hd]
  exact ⟨rfl, rfl⟩

theorem hearAxis_times (c : Chip) (ws : List Nat) : c.TimesKept (c.hearAxis ws) := by
  unfold Chip.hearAxis
  refine .ite (fun _ => .refl c) (fun _ => ?_)
  refine .trans ?_ (axMoves_times (((Chip.AxMoves.refl (nth 0 ws 0 % 16) _).setRef (nth 0 ws 0 / 16 % 4)).axSync))
  refine .trans ?_ (.put _ _ _ _)
  refine .trans ?_ (.put _ _ _ _)
  refine .trans ?_ (.put _ _ _ _)
  refine .trans ?_ (.put _ _ _ _)
  exact .trans ⟨rfl, rfl⟩ (.put _ _ _ _)

theorem hearLoop_times (c : Chip) (ws : List Nat) : c.TimesKept (c.hearLoop ws) := by
  unfold Chip.hearLoop
  split
  · exact .ite (fun _ => ⟨rfl, rfl⟩) (fun _ => .refl c)
  · exact .refl c

/-- A frame counted as it is heard. -/
def Chip.frameHeard (c : Chip) (l : Nat) (ws : List Nat) : Chip := (c.laneHeard l).countPass l 4 7 false 4 2 (4 * ws.length)

theorem hearFrame_times (c : Chip) (l kind : Nat) (ws : List Nat) : (c.frameHeard l ws).TimesKept (c.hearFrame l kind ws) := by
  unfold Chip.hearFrame
  dsimp only
  split
  · exact ⟨rfl, rfl⟩
  · exact hearNeg_times _ ws
  · exact hearBeat_times _ ws
  · exact .ite (fun _ => .refl _) (fun _ => ⟨rfl, rfl⟩)
  · exact hearYield_times _ _ _
  · exact hearOwned_times _ _ ws le_rfl
  · exact hearAxis_times _ ws
  · exact hearLoop_times _ ws
  · exact hearShares_times _ _ ws le_rfl
  · exact .refl _

/-- The times of a lane whose frame is heard. -/
theorem frameHeard_times {c : Chip} {l : Nat} (hl : l < 2) (hsize : c.pair.laneAt.length = 2) (ws : List Nat) :
    nth 0 (c.frameHeard l ws).pair.laneAt l = c.now ∧ (c.frameHeard l ws).pair.partnerAt = c.now := by
  have hpair : (c.frameHeard l ws).pair = (c.laneHeard l).pair := by
    obtain ⟨⟨rg, cs, n, hd⟩, -⟩ := countPass_only (c.laneHeard l) 4 7 false 4 2 (4 * ws.length) (show l < 8 by omega)
    rw [Chip.frameHeard, hd]
  have hheard : (c.laneHeard l).pair.laneAt = setAt c.pair.laneAt l c.now ∧ (c.laneHeard l).pair.partnerAt = c.now := by
    unfold Chip.laneHeard
    dsimp only
    split <;> exact ⟨rfl, rfl⟩
  rw [hpair, hheard.1, hheard.2]
  exact ⟨nth_upd_same _ _ _ _ (by omega), rfl⟩

/-! ### Frames sent on one lane (R413, Table 14.4) -/

/-- `d` is `c` once a frame has gone out: the pair's volatile part is as it was but for the lane that is next, and frames have been added. -/
def Chip.Goes (c d : Chip) : Prop := (∃ n, d.pair = { c.pair with laneNext := n }) ∧ ∃ em, d.emitted = c.emitted ++ em

namespace Chip.Goes

variable {c d e : Chip}

theorem trans (h : c.Goes d) (k : d.Goes e) : c.Goes e := by
  obtain ⟨⟨n, hp⟩, em, he⟩ := h
  obtain ⟨⟨n', hp'⟩, em', he'⟩ := k
  exact ⟨⟨n', by rw [hp', hp]⟩, em ++ em', by rw [he', he, List.append_assoc]⟩

theorem of_same (hp : d.pair = c.pair) (he : d.emitted = c.emitted) : c.Goes d := ⟨⟨c.pair.laneNext, hp⟩, [], by rw [he, List.append_nil]⟩

theorem refl (c : Chip) : c.Goes c := of_same rfl rfl

theorem ite {b : Prop} [Decidable b] (h : b → c.Goes d) (k : ¬ b → c.Goes e) : c.Goes (if b then d else e) := by
  split
  · next hb => exact h hb
  · next hb => exact k hb

theorem next (h : c.Goes d) : d.pair = { c.pair with laneNext := d.pair.laneNext } := by
  obtain ⟨⟨n, hp⟩, -⟩ := h
  rw [hp]

end Chip.Goes

theorem counterOver_goes (c : Chip) (r j : Nat) : c.Goes (c.counterOver r j) := by
  unfold Chip.counterOver
  dsimp only
  split_ifs
  · exact .of_same rfl rfl
  · exact .of_same rfl rfl
  · exact .of_same rfl rfl

/-- A count changes the counters alone, whichever block it is. -/
theorem countEvent_goes (c : Chip) (r : Nat) (e : CtrEvent) : c.Goes (c.countEvent r e) :=
  Chip.each_rel .refl (fun _ _ _ => .trans) _ (fun d j _ => .ite (fun _ => .trans (.of_same rfl rfl) (counterOver_goes _ r j)) (fun _ => .of_same rfl rfl)) c

theorem laneEmit_goes (c : Chip) (l kind : Nat) (ws : List Nat) : c.Goes (c.laneEmit l kind ws) :=
  .trans (d := c.emit (.lane l kind (ws ++ [laneCrc kind ws]))) ⟨⟨c.pair.laneNext, rfl⟩, _, rfl⟩ (countEvent_goes _ _ _)

theorem laneOne_goes (c : Chip) (kind : Nat) (ws : List Nat) : c.Goes (c.laneOne kind ws) := by
  have hturn : c.Goes ((c.laneEmit c.pair.laneNext kind ws).setPair (fun p => { p with laneNext := 1 - p.laneNext })) := by
    obtain ⟨⟨n, hp⟩, em, he⟩ := laneEmit_goes c c.pair.laneNext kind ws
    have hset (d : Chip) : (d.setPair (fun p => { p with laneNext := 1 - p.laneNext })).pair = { d.pair with laneNext := 1 - d.pair.laneNext } := rfl
    exact ⟨⟨1 - n, by rw [hset, hp]⟩, em, he⟩
  unfold Chip.laneOne
  dsimp only
  split
  · exact hturn
  · exact laneEmit_goes c _ kind ws
  · exact laneEmit_goes c _ kind ws
  · obtain ⟨hpass, hem⟩ := tongsRefuse_both c
    exact .of_same (Chip.Shifts.of_passes hpass).pair hem

/-! ### Lane faults (R412) -/

theorem lane_lt {l : Nat} (h : l < 2) : l = 0 ∨ l = 1 := by omega

/-- The flag of a lane. -/
def laneField (l : Nat) : Field := if l = 0 then Pair.lane_a else Pair.lane_b

theorem laneField_sound (l : Nat) : (laneField l).sound = true ∧ (laneField l).first = 0 ∧ (laneField l).hi + 1 - (laneField l).lo = 1 := by
  unfold laneField
  split <;> decide

/-- A field of a block's first word stands at the block's address. -/
theorem at_first {f : Field} (h : f.first = 0) (b : Nat) : f.at b 0 = b := by rw [Field.at_eq, h, Nat.zero_mul]; rfl

theorem putLane_flag (c : Chip) (l : Nat) (up : Bool) : (c.putLane l up).get pairAt (laneField l) = b2n up := by
  obtain ⟨hs, -, hw⟩ := laneField_sound l
  exact Chip.get_put_of_lt c pairAt (f := laneField l) hs (by rw [hw]; cases up <;> decide)

/-- A lane that fails, before it is recorded. -/
def Chip.laneFailed (c : Chip) (l : Nat) : Chip :=
  (((c.setPair (fun p => { p with laneBad := setAt p.laneBad l true })).putLane l false).bumpByI pairAt Pair.lane_faults l 1).put pairAt
    (if l = 0 then Pair.lane_fault_a else Pair.lane_fault_b) 1

theorem laneFault_eq {c : Chip} {l : Nat} (h : nth false c.pair.laneBad l = false) : c.laneFault l = (c.laneFailed l).record 73 0xFF 1 l [1] [] :=
  if_neg (by rw [h]; decide)

theorem laneFailed_flag (c : Chip) {l : Nat} (hl : l < 2) : (c.laneFailed l).get pairAt (laneField l) = 0 := by
  have hput : ((c.setPair (fun p => { p with laneBad := setAt p.laneBad l true })).putLane l false).get pairAt (laneField l) = 0 :=
    putLane_flag _ l false
  rw [← hput]
  rcases lane_lt hl with rfl | rfl
  · exact (Chip.get_put_clear _ _ _ (by decide)).trans (Chip.getI_putI_other _ (by decide))
  · exact (Chip.get_put_clear _ _ _ (by decide)).trans (Chip.getI_putI_other _ (by decide))

theorem laneFailed_count (c : Chip) {l : Nat} (hl : l < 2) :
    (c.laneFailed l).getI pairAt Pair.lane_faults l = min (c.getI pairAt Pair.lane_faults l + 1) Pair.lane_faults.top := by
  have hcount (d : Chip) : (d.bumpByI pairAt Pair.lane_faults l 1).getI pairAt Pair.lane_faults l = min (d.getI pairAt Pair.lane_faults l + 1) Pair.lane_faults.top :=
    Chip.getI_bumpByI_self d pairAt l 1 (by decide)
  have hlane (d : Chip) : (d.putLane l false).getI pairAt Pair.lane_faults l = d.getI pairAt Pair.lane_faults l := by
    rcases lane_lt hl with rfl | rfl <;> exact Chip.getI_put_other _ (by decide)
  have hflag (d : Chip) : (d.put pairAt (if l = 0 then Pair.lane_fault_a else Pair.lane_fault_b) 1).getI pairAt Pair.lane_faults l =
      d.getI pairAt Pair.lane_faults l := by
    rcases lane_lt hl with rfl | rfl <;> exact Chip.getI_put_other _ (by decide)
  rw [Chip.laneFailed, hflag, hcount, hlane]
  rfl

theorem laneBad_set (c : Chip) {l : Nat} (h : l < c.pair.laneBad.length) (b : Bool) : nth false (setAt c.pair.laneBad l b) l = b :=
  nth_upd_same _ _ _ _ h

theorem laneFault_ends {s : State} {lane : Fin 2} (hb : s.chip.pair.laneBad.length = 2) (hp : s.chip.flag pairAt Pair.partner = true)
    (ht : nth 0 s.chip.pair.laneAt lane + 3000 ≤ s.chip.now) (ho : s.chip.now ≤ nth 0 s.chip.pair.laneAt (1 - lane) + 3000)
    (hok : nth false s.chip.pair.laneBad lane = false) : ∃ t, exec (.laneFault lane) s = .next t ∧ nth false t.chip.pair.laneBad lane = true ∧
      t.chip.get pairAt (laneField lane) = 0 ∧
      t.chip.getI pairAt Pair.lane_faults lane = min (s.chip.getI pairAt Pair.lane_faults lane + 1) Pair.lane_faults.top ∧ StoresKept s t := by
  have hlane := lane_lt lane.isLt
  refine ⟨_, chipOnly_to s ((if_neg ?_).trans (laneFault_eq hok)), ?_, ?_, ?_, .chip s _⟩
  · rw [hp]
    simp only [Bool.not_true, Bool.false_or, Bool.or_eq_true, decide_eq_true_eq]
    omega
  · rw [Chip.record_pair]
    exact laneBad_set s.chip (by omega) true
  · rw [Chip.record_get _ _ _ _ _ _ _ (by rw [at_first (laneField_sound lane).2.1]; decide)]
    exact laneFailed_flag s.chip lane.isLt
  · rw [Chip.record_getI _ _ _ _ _ _ _ (by rcases hlane with h | h <;> rw [h] <;> decide)]
    exact laneFailed_count s.chip lane.isLt

theorem laneReturn_ends {s : State} {lane : Fin 2} (hb : s.chip.pair.laneBad.length = 2) (hbad : nth false s.chip.pair.laneBad lane = true)
    (hlive : s.chip.laneLive lane = true) (hg : nth 0 s.chip.pair.goodAt lane + 100000 ≤ s.chip.now)
    (ht : s.chip.now ≤ nth 0 s.chip.pair.laneAt lane + 3000) : ∃ t, exec (.laneReturn lane) s = .next t ∧ nth false t.chip.pair.laneBad lane = false ∧
      t.chip.get pairAt (laneField lane) = 1 ∧ StoresKept s t := by
  refine ⟨_, chipOnly_to s (if_neg ?_), ?_, ?_, .chip s _⟩
  · rw [hbad, hlive]
    simp only [Bool.not_true, Bool.false_or, Bool.or_eq_true, decide_eq_true_eq]
    omega
  · rw [Chip.laneBack, Chip.record_pair]
    exact laneBad_set s.chip (by omega) false
  · rw [Chip.laneBack, Chip.record_get _ _ _ _ _ _ _ (by rw [at_first (laneField_sound lane).2.1]; decide)]
    exact putLane_flag _ lane true

/-! ### The end of the wait of negotiation (R414) -/

/-- The outcome of a negotiation noted and recorded. -/
def Chip.negNoted (c : Chip) (cause : Nat) : Chip :=
  (c.put pairAt Pair.neg_cause cause).record 76 0xFF (if cause = 2 || cause = 3 || cause = 5 then 2 else 0) c.pos [cause] []

theorem negNoted_cause (c : Chip) {cause : Nat} (h : cause < 256) : (c.negNoted cause).get pairAt Pair.neg_cause = cause :=
  (Chip.record_get _ _ _ _ _ _ _ (by decide)).trans (Chip.get_put_of_lt _ _ (by decide) h)

theorem negNoted_lease (c : Chip) (cause : Nat) : (c.negNoted cause).lease = c.lease :=
  (Chip.record_get _ _ _ _ _ _ _ (by decide)).trans (Chip.get_put_clear _ _ _ (by decide))

theorem negNoted_survey (c : Chip) (cause : Nat) {f : Field} (h : f.first = 0) : (c.negNoted cause).get surveyAt f = c.get surveyAt f :=
  (Chip.record_get _ _ _ _ _ _ _ (by rw [at_first h]; decide)).trans (Chip.get_put_other _ (by rw [at_first h]; decide))

/-- S7 begins, a copy is due, renewals are counted from now. -/
def Chip.leaseBegun (c : Chip) (now period : Nat) : Chip :=
  (c.put surveyAt Survey.phase 7).setPair (fun p => { p with
    copyAt := now, copied := false, renewAt := now, period := (p.neg.map (·.period)).getD period })

theorem concludeNeg_alone {c : Chip} (hn : c.pair.neg = none) (hpos : c.pos ≠ 0) (hp : c.sys.hasPair = true) :
    c.concludeNeg = ((c.negNoted 1).leaseBegun c.now (c.get pairAt Pair.lease_period)).setLease 5 0 0 := by
  have hneg : c.negotiated = (1, some 5) := by
    unfold Chip.negotiated
    simp [hn, hp, hpos]
  unfold Chip.concludeNeg
  simp only [hneg, hn]
  rfl

theorem concludeNeg_halts {c : Chip} (hn : c.pair.neg = none) (hpair : c.paired = true) (h : c.pos = 0 ∨ c.sys.hasPair = false) :
    c.concludeNeg = (c.negNoted (if c.pos = 0 then 2 else 5)).halt 6 := by
  have hneg : c.negotiated = (if c.pos = 0 then 2 else 5, none) := by
    unfold Chip.negotiated
    by_cases hpos : c.pos = 0
    · have hp : c.sys.hasPair = true := by simpa [Chip.paired, hpos] using hpair
      simp [hn, hp, hpos]
    · have hp : c.sys.hasPair = false := h.resolve_left hpos
      simp [hn, hp, hpos]
  unfold Chip.concludeNeg
  simp only [hneg]
  rfl

/-- A module that halts (R97). -/
theorem halt_ends {c : Chip} (h : c.flag surveyAt Survey.halted = false) {reason : Nat} (hr : reason < 256) : (c.halt reason).flag surveyAt Survey.halted = true ∧
    (c.halt reason).get surveyAt Survey.reason = reason ∧ (c.halt reason).phase = c.phase ∧ c.PairWords (c.halt reason) := by
  have hrun : c.halt reason = ((c.put surveyAt Survey.halted 1).put surveyAt Survey.reason reason).record 1 0xFF 2 c.phase [reason] [] :=
    if_neg (by rw [h]; decide)
  have hget {f : Field} (hf : f.first = 0) : (c.halt reason).get surveyAt f = ((c.put surveyAt Survey.halted 1).put surveyAt Survey.reason reason).get surveyAt f := by
    rw [hrun]
    exact Chip.record_get _ _ _ _ _ _ _ (by rw [at_first hf]; decide)
  refine ⟨?_, ?_, ?_, ?_⟩
  · rw [Chip.flag, hget rfl, Chip.get_put_clear _ _ _ (by decide), Chip.get_put_of_lt _ _ (by decide) (by decide)]
    rfl
  · rw [hget rfl, Chip.get_put_of_lt _ _ (by decide) hr]
  · rw [Chip.phase, hget rfl, Chip.get_put_clear _ _ _ (by decide), Chip.get_put_clear _ _ _ (by decide)]
    rfl
  · rw [hrun]
    exact ((Chip.PairWords.put c _ (by decide)).trans (.put _ _ (by decide))).trans (.of_shifts (.record _ _ _ _ _ _ _))

theorem leaseBegun_pair (c : Chip) (now period : Nat) : (c.leaseBegun now period).get surveyAt Survey.phase = 7 ∧ c.PairWords (c.leaseBegun now period) :=
  ⟨Chip.get_put_of_lt c surveyAt (f := Survey.phase) (by decide) (by decide), .trans (d := c.put surveyAt Survey.phase 7) (.put c _ (by decide)) (.of_regs rfl)⟩

/-- The end of the wait of negotiation without a partner (R414): alone where one may be without it, and a halt otherwise. -/
theorem negWait_concludes {s : State} (h6 : s.chip.phase = 6) (hh : s.chip.flag surveyAt Survey.halted = false) (hp : s.chip.paired = true)
    (hn : s.chip.pair.neg = none) (ht : s.chip.pair.negAt + 1000 * s.chip.get pairAt Pair.neg_wait ≤ s.chip.now) :
    exec .negWaitTimeout s = .next { s with chip := s.chip.concludeNeg } := by
  refine chipOnly_to s (if_neg ?_)
  rw [hp, hn, Chip.inPhase, h6, hh]
  simpa using ht

theorem negWait_alone {s : State} (hrun : exec .negWaitTimeout s = .next { s with chip := s.chip.concludeNeg }) (hn : s.chip.pair.neg = none)
    (hpos : s.chip.pos ≠ 0) (hp : s.chip.sys.hasPair = true) : ∃ t, exec .negWaitTimeout s = .next t ∧ t.chip.phase = 7 ∧
      t.chip.lease = 5 ∧ t.chip.get pairAt Pair.neg_cause = 1 ∧ StoresKept s t := by
  obtain ⟨hphase, hwords⟩ := leaseBegun_pair (s.chip.negNoted 1) s.chip.now (s.chip.get pairAt Pair.lease_period)
  have hlease := setLease_leases ((s.chip.negNoted 1).leaseBegun s.chip.now (s.chip.get pairAt Pair.lease_period)) 5 0 0
  rw [concludeNeg_alone hn hpos hp] at hrun
  refine ⟨_, hrun, (hlease.get (by decide)).trans hphase, setLease_lease _ (by decide) _ _, ?_, .chip s _⟩
  rw [hlease.fields _ (by decide), hwords.get (by decide), negNoted_cause _ (by decide)]

theorem negWait_halts {s : State} (hrun : exec .negWaitTimeout s = .next { s with chip := s.chip.concludeNeg }) (h6 : s.chip.phase = 6)
    (hh : s.chip.flag surveyAt Survey.halted = false) (hpair : s.chip.paired = true) (hn : s.chip.pair.neg = none)
    (h : s.chip.pos = 0 ∨ s.chip.sys.hasPair = false) : ∃ t, exec .negWaitTimeout s = .next t ∧ t.chip.phase = 6 ∧
      t.chip.flag surveyAt Survey.halted = true ∧ t.chip.get surveyAt Survey.reason = 6 ∧
      t.chip.get pairAt Pair.neg_cause = (if s.chip.pos = 0 then 2 else 5) ∧ t.chip.lease = s.chip.lease ∧ StoresKept s t := by
  let cause := if s.chip.pos = 0 then 2 else 5
  have hcause : cause < 256 := by dsimp only [cause]; split <;> decide
  have hok : (s.chip.negNoted cause).flag surveyAt Survey.halted = false := by
    rw [Chip.flag, negNoted_survey _ _ rfl]
    exact hh
  obtain ⟨hhalted, hreason, hphase, hwords⟩ := halt_ends hok (reason := 6) (by decide)
  rw [concludeNeg_halts hn hpair h] at hrun
  refine ⟨_, hrun, hphase.trans ((negNoted_survey _ _ rfl).trans h6), hhalted, hreason, (hwords.get (by decide)).trans (negNoted_cause _ hcause),
    hwords.lease.trans (negNoted_lease _ _), .chip s _⟩

/-! ### Frames in their periods (R411, R413, R493) -/

/-- The frames of the owned images and of the shares. -/
theorem ownedImage_sends {s : State} (hp : s.chip.sys.hasPair = true) (h6 : 6 ≤ s.chip.phase) (ht : s.chip.now % 250 = 0) :
    ∃ ims shares, exec .ownedImageSend s = .next { s with chip := (s.chip.laneSend 5 ims).laneOne 11 shares } := by
  refine ⟨_, _, chipOnly_to s (if_neg ?_)⟩
  rw [hp, ht]
  simpa using h6

theorem codeErrors_words (c : Chip) (l : Nat) : c.WordsBut (fun a => a = Pair.code_errors.at pairAt l) (c.bumpByI pairAt Pair.code_errors l 1) := .putI c _ rfl

theorem lane_ready {c : Chip} {l : Nat} (hlive : c.laneLive l = true) (h2 : 2 ≤ c.phase) : ¬ (!c.laneLive l || decide (c.phase < 2)) = true := by
  rw [hlive, Bool.not_true, Bool.false_or, decide_eq_true_eq]
  omega

theorem laneField_fin (lane : Fin 2) : (if lane = 0 then Pair.lane_a else Pair.lane_b) = laneField lane := by fin_cases lane <;> rfl

/-- Settles O31: what a frame's content does leaves the times of its lane, and a lane fault, its return and the end of the wait each write their own words. -/
theorem pairLanes : Obligations.PairLanes := by
  intro s hsh hat hbad
  refine ⟨fun lane kind words hlive h2 => ⟨fun crc hc => ?_, fun crc hc => ?_⟩, fun hp h6 ht => ?_, fun hpos hs2 h6 ht => ?_, fun hp h6 ht => ?_,
    fun hp h6 ht => ?_, fun lane => laneField_fin lane ▸ ⟨fun hp ht ho hok => laneFault_ends hbad hp ht ho hok, fun hb hl hg ht => laneReturn_ends hbad hb hl hg ht⟩,
    fun h6 hh hp hn ht => ⟨fun hpos hpair => negWait_alone (negWait_concludes h6 hh hp hn ht) hn hpos hpair,
      fun h => negWait_halts (negWait_concludes h6 hh hp hn ht) h6 hh hp hn h⟩⟩
  · have hready := lane_ready hlive h2
    exact ⟨_, chipOnly_to s ((if_neg hready).trans (if_pos (bne_iff_ne.2 hc))), Chip.getI_bumpByI_self _ _ _ _ (by decide), rfl, (codeErrors_words _ _).kept⟩
  · have hready := lane_ready hlive h2
    obtain ⟨hlane, hpartner⟩ := frameHeard_times (c := s.chip) lane.isLt hat (words.map (·.toNat))
    obtain ⟨hlaneAt, hpartnerAt⟩ := hearFrame_times s.chip lane.val kind.val (words.map (·.toNat))
    refine ⟨_, chipOnly_to s ((if_neg hready).trans (if_neg (by rw [bne_iff_ne, not_not]; exact hc))), ?_, hpartnerAt.trans hpartner, .chip s _⟩
    exact (congrArg (fun l => nth 0 l lane.val) hlaneAt).trans hlane
  · refine ⟨_, chipOnly_to s (if_neg ?_), rfl, (laneSend_sends s.chip 2 s.chip.heartbeat).2, .chip s _⟩
    rw [hp]
    simp only [Bool.not_true, Bool.false_or, Bool.or_eq_true, decide_eq_true_eq]
    omega
  · refine ⟨_, chipOnly_to s (if_neg ?_), (laneSend_sends s.chip 0 [s.chip.presence]).2, .chip s _⟩
    rw [Option.isNone_eq_false_iff.2 (Option.ne_none_iff_isSome.1 hs2), ht]
    simpa [hpos] using h6
  · refine ⟨_, chipOnly_to s (if_neg ?_), (laneSend_sends s.chip 1 s.chip.negWords).2, .chip s _⟩
    simp [hp, h6, ht]
  · obtain ⟨ims, shares, hrun⟩ := ownedImage_sends hp h6 ht
    obtain ⟨hpass, hem⟩ := laneSend_sends s.chip 5 ims
    have hone := laneOne_goes (s.chip.laneSend 5 ims) 11 shares
    refine ⟨_, hrun, fun l hl hlive => ?_, ?_, .chip s _⟩
    · obtain ⟨-, em, he⟩ := hone
      refine ⟨ims ++ [laneCrc 5 ims], ?_⟩
      rw [he, hem, List.append_assoc, List.drop_left]
      exact List.mem_append_left _ (List.mem_map.2 ⟨l, List.mem_filter.2 ⟨List.mem_range.2 hl, hlive⟩, rfl⟩)
    · have hpair := hone.next
      rw [(Chip.Shifts.of_passes hpass).pair] at hpair
      exact hpair

end Sys2Proof.Machine
end

section
/-! SUPPORT. O6: domain clocks and count tongs. -/

namespace Sys2Proof.Machine

/-! ### The head of a region's block (Table 2.6) -/

/-- A word of a region's own block. -/
def regionHead (a : Nat) : Prop := spaceOf a < 8 ∧ blockOf a = 0

/-- The words of the regions' own blocks are as they were. -/
def Chip.HeadsKept (c d : Chip) : Prop := c.WordsBut (fun a => ¬ regionHead a) d

namespace Chip.HeadsKept

variable {c d e : Chip}

theorem refl (c : Chip) : c.HeadsKept c := Chip.WordsBut.refl _ c

theorem trans (h : c.HeadsKept d) (k : d.HeadsKept e) : c.HeadsKept e := Chip.WordsBut.trans h k

theorem of_regs (h : d.regs = c.regs) : c.HeadsKept d := Chip.WordsBut.of_regs h

theorem put (c : Chip) {b : Nat} {f : Field} (v : Nat) (h : ¬ regionHead (f.at b 0)) : c.HeadsKept (c.put b f v) := Chip.WordsBut.put c v h

/-- A word of a block of another number is none of them. -/
theorem not_head {r b o : Nat} (hb : 0 < b) (hb' : b < 4096) (ho : o < 65536) : ¬ regionHead (blockAddr r b + o) := fun h => by
  have hblock := blockOf_blockAddr (r := r) hb' ho
  have := h.2
  omega

theorem of_chan {g : Nat} {ws : List Nat} (h : c.ChanMoves g ws d) (hws : ∀ w ∈ ws, w < 65536) : c.HeadsKept d := fun a ha =>
  h.words a (fun hs => ha (fun hh => by have := hh.1; omega)) (fun w hw he => ha (by rw [he]; exact not_head (by omega) (by omega) (hws w hw)))

theorem of_axis {x : Nat} (h : c.AxMoves x d) : c.HeadsKept d := fun a ha =>
  h.words a (fun hs => ha (fun hh => by have := hh.1; omega)) (fun hx => ha (fun hh => by
    have h1 : blockOf a = 0x20 + x % 2 := hx.2
    have h2 := hh.2
    omega))

theorem of_objs {r : Nat} (h : c.Requeues r d) : c.HeadsKept d := fun a ha =>
  h.words a (fun hr => ha (fun hh => by
    have h2 := hh.2
    simp only [objWord, portAt, blockAddr, blockOf] at hr h2
    omega))

theorem record (c : Chip) (source region severity subject : Nat) (bs ws : List Nat) : c.HeadsKept (c.record source region severity subject bs ws) :=
  Chip.WordsBut.record c _ _ _ _ _ _ (fun a ha hh => by have := hh.1; omega)

theorem port (c : Chip) (r : Nat) {f : Field} (v : Nat) (h : f.first < 65536) : c.HeadsKept (c.put (portAt r) f v) :=
  put c v (by rw [Field.at_eq, Nat.zero_mul, Nat.add_zero]; exact not_head (by decide) (by decide) h)

theorem ite {b : Prop} [Decidable b] (h : b → c.HeadsKept d) (k : ¬ b → c.HeadsKept e) : c.HeadsKept (if b then d else e) := by
  split
  · next hb => exact h hb
  · next hb => exact k hb

theorem each {α : Type} {f : Chip → α → Chip} (l : List α) (k : ∀ (e : Chip) (x : α), e.HeadsKept (f e x)) (c : Chip) :
    c.HeadsKept (c.each l f) := each_rel refl (fun _ _ _ => trans) l (fun e x _ => k e x) c

end Chip.HeadsKept

/-- Words of the module, of the pair, of the recorder, of the panel and of the net stand in other spaces. -/
theorem not_head_of_space {a : Nat} (h : 8 ≤ spaceOf a) : ¬ regionHead a := fun hh => by
  have := hh.1
  omega

theorem portSync_heads (c : Chip) (r : Nat) : c.HeadsKept (c.portSync r) := by
  have hoff (d : Chip) : d.HeadsKept (d.put (portAt r) Port.off_reason (c.portCause r)) := .port d r _ (by decide)
  refine .ite (fun _ => .ite (fun _ => hoff c) (fun _ => ?_)) (fun _ => .ite (fun _ => ?_) (fun _ => .refl c))
  · have hflag (d : Chip) : d.HeadsKept (d.pOn r 8) := Chip.WordsBut.setWord d _ (Chip.HeadsKept.not_head (by decide) (by decide) (by decide))
    exact ((((Chip.HeadsKept.of_objs (Chip.Requeues.requeue c r)).trans (hoff _)).trans (.port _ r _ (by decide))).trans (hflag _)).trans
      (.record _ _ _ _ _ _ _)
  · have hregs : c.HeadsKept (c.restartRegs r) := ((Chip.HeadsKept.port c r 0 (by decide)).trans (.port _ r _ (by decide))).trans (.port _ r _ (by decide))
    exact hregs.trans (.of_objs (rejoining_requeues c r false))

theorem pairField_not_head {f : Field} {i : Nat} (h : f.first + i * f.stride < 65536) : ¬ regionHead (f.at pairAt i) := not_head_of_space (by
  rw [Field.at_eq, pairAt, spaceOf]
  omega)

theorem laneFault_heads (c : Chip) {l : Nat} (hl : l < 2) : c.HeadsKept (c.laneFault l) := by
  by_cases h : nth false c.pair.laneBad l = false
  · rw [laneFault_eq h]
    have hset : c.HeadsKept (c.setPair (fun p => { p with laneBad := setAt p.laneBad l true })) := .of_regs rfl
    have hlane (d : Chip) : d.HeadsKept (d.putLane l false) := .put d _ (by split <;> exact pairField_not_head (by decide))
    have hcount (d : Chip) : d.HeadsKept (d.bumpByI pairAt Pair.lane_faults l 1) :=
      Chip.WordsBut.putI d _ (pairField_not_head (by simp only [Pair.lane_faults, Field.many]; omega))
    have hflag (d : Chip) : d.HeadsKept (d.put pairAt (if l = 0 then Pair.lane_fault_a else Pair.lane_fault_b) 1) :=
      .put d _ (by split <;> exact pairField_not_head (by decide))
    exact (((hset.trans (hlane _)).trans (hcount _)).trans (hflag _)).trans (.record _ _ _ _ _ _ _)
  · rw [show c.laneFault l = c from if_pos (Bool.not_eq_false _ ▸ h)]
    exact .refl c

theorem stationDown_heads (c : Chip) {p : Nat} : c.HeadsKept (c.stationDown p) := (stationDown_words c p).mono (fun a ha hh => by
  have hs := hh.1
  rcases ha with rfl | rfl | ha
  · obtain ⟨-, -, -, hfirst, -⟩ := linkFields_sound p
    rw [Field.at_eq, slinkAt, spaceOf] at hs
    omega
  · exact absurd hs (by decide)
  · have : spaceOf a = 10 := ha
    omega)

theorem isleOut_not_head {r a : Nat} (hr : r < 8) (h : isleOut r a) : ¬ regionHead a := fun hh => by
  have hb := hh.2
  have hs := hh.1
  rcases h with (h | ⟨-, h⟩) | ⟨h1, h2⟩
  · omega
  · omega
  · simp only [isleAt, blockAddr] at h1 h2
    simp only [blockOf] at hb
    omega

theorem setSafeOut_heads (c : Chip) (r : Nat) (f : FnCfg) : c.HeadsKept (c.setSafeOut r f) := by
  unfold Chip.setSafeOut
  split
  · exact .refl c
  · next g hg =>
    have hset (v : Nat) : c.HeadsKept ((c.driveWith g v).putStatus g) :=
      (Chip.HeadsKept.of_chan (Chip.driveWith_moves c g v) (by decide)).trans (.of_chan (Chip.putStatus_moves _ g) (by decide))
    exact .ite (fun _ => .refl c) (fun _ => hset _)

theorem stopHead_heads (c : Chip) {r : Nat} (hr : r < 8) (cause : Nat) : c.HeadsKept (c.stopHead r cause) := by
  have hput (d : Chip) (f : Field) (v : Nat) (hf : f.first < 65536) : d.HeadsKept (d.put (isleAt r) f v) :=
    .put d v (by rw [Field.at_eq, Nat.zero_mul, Nat.add_zero]; exact Chip.HeadsKept.not_head (by decide) (by decide) hf)
  have hparams (d : Chip) : d.HeadsKept (d.when (cause == 4) (·.put (isleAt r) Isle.params_ok 0)) := .ite (fun _ => hput _ _ _ (by decide)) (fun _ => .refl d)
  have hflags := (((hput c Isle.running 0 (by decide)).trans (hput _ Isle.latched 1 (by decide))).trans (hput _ Isle.stop_cause cause (by decide))).trans
    (hput _ Isle.xlink_ok 0 (by decide))
  exact (hflags.trans (hparams _)).trans (.of_regs rfl)

theorem stopIsle_heads (c : Chip) {r : Nat} (hr : r < 8) (cause : Nat) : c.HeadsKept (c.stopIsle r cause) := by
  by_cases h : c.isleRuns r = true
  · rw [Chip.stopIsle_eq h]
    have hfns (d : Chip) : d.HeadsKept (d.fnsStopped (c.fnsOf r) r cause) := (Chip.fnsStopped_moves d _ r cause).words.mono (fun _ ha => isleOut_not_head hr ha)
    have houts (d : Chip) : d.HeadsKept (d.each (c.fnsOf r) (fun c f => c.setSafeOut r f)) := .each _ (fun e f => setSafeOut_heads e r f) d
    have hcuts (d : Chip) : d.HeadsKept (d.applyCuts r) := (Chip.cuts_moves d hr).words.mono (fun _ ha => isleOut_not_head hr ha)
    exact ((((stopHead_heads c hr cause).trans (hfns _)).trans (houts _)).trans (hcuts _)).trans (.record _ _ _ _ _ _ _)
  · rw [Chip.stopIsle_not (Bool.not_eq_true _ ▸ h)]
    exact .refl c

theorem startQuench_heads (s : State) (trigger : Nat) : s.chip.HeadsKept (s.startQuench trigger).chip := by
  unfold State.startQuench
  split
  · exact .refl _
  · have hdirty : s.chip.HeadsKept (s.chip.when s.chip.waveRuns (·.put panelAt Panel.dirty 1)) :=
      .ite (fun _ => .put _ _ (not_head_of_space (by decide))) (fun _ => .refl _)
    exact hdirty.trans (.of_regs rfl)

/-! ### The loss of a domain clock (R58, R59, Table 2.2) -/

/-- What a lost clock entails leaves the head of each region's block. -/
theorem clockEffect_heads (s : State) {r d : Nat} (hr : r < 8) (hd : d = 3 → r < 2) : s.chip.HeadsKept (s.clockEffect r d).chip := by
  unfold State.clockEffect
  split_ifs with h1 h2 h3 h4 h5 h6
  · exact .put _ _ (not_head_of_space (by decide))
  · exact portSync_heads _ r
  · exact (laneFault_heads _ (hd h3)).trans (stationDown_heads _)
  · refine .each _ (fun e g => .trans (.ite (fun _ => ?_) (fun _ => .refl e)) (.of_chan (Chip.putStatus_moves _ g) (by decide))) _
    exact .trans (d := e.setChan g _) (.of_regs rfl) (.of_chan (Chip.resolve_moves _ g) (by decide))
  · refine .trans (.trans (.of_axis ((Chip.AxMoves.refl _ _).stageCause 9 true)) (.of_axis ((Chip.AxMoves.refl _ _).stageCause 9 true))) (.each _ (fun e g => ?_) _)
    exact .of_chan ((Chip.ChanMoves.setChan e g _ _).trans (Chip.putStatus_moves _ g)) (by decide)
  · exact startQuench_heads s 4
  · exact stopIsle_heads _ hr 1

theorem clockEffect_steady (s : State) (r d : Nat) : (s.clockEffect r d).chip.steady = s.chip.steady := by
  unfold State.clockEffect
  split_ifs
  · exact Chip.put_steady _ _ _ _
  · exact Chip.portSync_steady _ _
  · exact (Chip.stationDown_steady _ _).trans (Chip.laneFault_steady _ _)
  · exact Chip.each_steady (fun e g => (Chip.putStatus_steady _ g).trans (by rw [Chip.steady_ite, Chip.beginLevel2_steady, ite_self])) _ _
  · exact (Chip.each_steady (fun e g => (Chip.putStatus_steady _ g).trans (Chip.setChan_steady _ _ _)) _ _).trans
      ((Chip.stageCause_steady _ _ _ _).trans (Chip.stageCause_steady _ _ _ _))
  · exact startQuench_steady s 4
  · exact Chip.stopIsle_steady _ _ _

theorem clkLost_steady {c d : Chip} (h : d.steady = c.steady) (r k : Nat) : d.clkLost r k = c.clkLost r k :=
  show (nth 0 d.steady.clkLost r).testBit k = (nth 0 c.steady.clkLost r).testBit k from congrArg (fun y : SysSt => (nth 0 y.clkLost r).testBit k) h

/-- A clock marked lost or present. -/
theorem markClock_lost {c : Chip} {r : Nat} (h : r < c.sys.clkLost.length) (d : Nat) (lost : Bool) : (c.markClock r d lost).clkLost r d = lost ∧
    ∀ r' d', (r' ≠ r ∨ d' ≠ d) → (c.markClock r d lost).clkLost r' d' = c.clkLost r' d' := by
  have hsys : (c.markClock r d lost).sys.clkLost = upd c.sys.clkLost r (withBit · d lost) := by cases lost <;> rfl
  refine ⟨?_, fun r' d' hne => ?_⟩
  · rw [Chip.clkLost, hsys, nth_upd_same _ _ _ _ h, testBit_withBit]
    exact if_pos rfl
  · rw [Chip.clkLost, hsys]
    by_cases hr : r' = r
    · subst hr
      rw [nth_upd_same _ _ _ _ h, testBit_withBit, if_neg (hne.resolve_left (not_not.2 rfl))]
      rfl
    · rw [nth_upd_other _ _ _ hr]
      rfl

theorem clockLost_marks {s : State} {r d : Fin 8} {hz : BitVec 32} (hu : s.chip.usesDomain r d = true) (hd : d ≠ 0) (hl : s.chip.clkLost r d = false)
    (h2 : 2 ≤ s.chip.phase) (hz' : hz = 0 ∨ s.chip.hzWithin r d hz.toNat 10 = false) : exec (.clockLost r d hz) s =
      .next ((s.onChip (fun c => (c.markClock r d true).record 24 r 2 d [1] [hz.toNat])).clockEffect r d) := by
  refine if_neg ?_
  rw [hu, hl]
  have hrate : (hz != 0 && s.chip.hzWithin r d hz.toNat 10) = false := by
    rcases hz' with rfl | h
    · rfl
    · rw [h, Bool.and_false]
  rw [hrate]
  simp only [Bool.not_true, Bool.false_or, Bool.or_false, decide_eq_false hd, decide_eq_true_eq]
  omega

theorem regionAt_head {r w : Nat} (hr : r < 8) (hw : w < 65536) : regionHead (regionAt r + w) :=
  ⟨by rw [regionAt, spaceOf_blockAddr (by decide) hw]; exact hr, blockOf_blockAddr (by decide) hw⟩

theorem usesDomain_region {c : Chip} {r d : Nat} (h : c.usesDomain r d = true) : c.fitted r = true ∧ (d = 3 → r < 2) := by
  simp only [Chip.usesDomain, Bool.and_eq_true, Bool.or_eq_true, bne_iff_ne, decide_eq_true_eq] at h
  obtain ⟨⟨⟨hf, -⟩, h3⟩, -⟩ := h
  exact ⟨hf, fun hd => by omega⟩

/-! ### The return of a domain clock (R58, R68) -/

/-- What the return of a domain clock ends. -/
def Chip.clockBack (c : Chip) (r d : Nat) : Chip :=
  if d = 2 then c.portSync r
  else if d = 4 then c.each (chansOf r) Chip.putStatus
  else if d = 5 then
    ((c.stageCause (2 * r) 9 false).stageCause (2 * r + 1) 9 false).each (chansOf r) (fun c g => (c.pwmReturn g).putStatus g)
  else if d = 6 then c.wantPanel
  else c

theorem pwmReturn_steady (c : Chip) (g : Nat) : (c.pwmReturn g).steady = c.steady := by
  unfold Chip.pwmReturn
  dsimp only
  rw [Chip.steady_ite, Chip.startPwm_steady, ite_self]

theorem clockBack_steady (c : Chip) (r d : Nat) : (c.clockBack r d).steady = c.steady := by
  unfold Chip.clockBack
  split_ifs
  · exact Chip.portSync_steady _ _
  · exact Chip.each_steady (fun e g => Chip.putStatus_steady _ g) _ _
  · exact (Chip.each_steady (fun e g => (Chip.putStatus_steady _ g).trans (pwmReturn_steady e g)) _ _).trans
      ((Chip.stageCause_steady _ _ _ _).trans (Chip.stageCause_steady _ _ _ _))
  · exact Chip.wantPanel_steady _
  · rfl

theorem clockReturn_marks {s : State} {r d : Fin 8} {hz : BitVec 32} (hl : s.chip.clkLost r d = true) (hd : d ≠ 0)
    (hz' : s.chip.hzWithin r d hz.toNat 5 = true) (ht : (assoc s.chip.sys.clkAt (8 * r + d)).getD 0 + clockWindow d ≤ s.chip.now) :
    exec (.clockReturn r d hz) s = .next { s with chip := ((s.chip.markClock r d false).record 24 r 0 d [0] [hz.toNat]).clockBack r d } := by
  refine chipOnly_to s ((if_neg ?_).trans ?_)
  · rw [hl, hz']
    simpa [hd] using ht
  · have hval (k : Fin 8) : (d = k) = (d.val = k.val) := propext Fin.ext_iff
    simp only [hval]
    rfl

/-! ### Counts that cross (R66, R67, R332) -/

theorem putStatus_regs (c : Chip) (g : Nat) : c.RegsOnly (c.putStatus g) := by
  have hput := (Chip.RegsOnly.refl c).put (chanAt g) Chan.status (c.liveStatus g)
  unfold Chip.putStatus
  dsimp only
  split
  · exact hput.putI _ _ _ _
  · exact hput

/-- The chip whose channel has taken over a count. -/
def Chip.countTaken (c : Chip) (g total n : Nat) (short : Bool) : Chip :=
  (((c.setTongs g n false).put (chanAt g) Dig.count total).setChan g (fun h => { h with shorts := h.shorts + b2n short }))

theorem countTransfer_chan {s : State} {src : Fin 130} {gray : BitVec 16} (bad : Bool) (h : s.chip.counting src = true) (hlt : src.val < 128) :
    ∃ total, total = (s.chip.get (chanAt src) Dig.count + (grayValue gray.toNat + 2 ^ 16 - (s.chip.chan src).tongs) % 2 ^ 16) % 2 ^ 32 ∧
      exec (.countTransfer src (gray, bad)) s = .next { s with chip :=
        (if (s.chip.chan src).surveyed then s.chip.countTaken src total (grayValue gray.toNat) (s.chip.chan src).short67
          else (s.chip.countTaken src total (grayValue gray.toNat) (s.chip.chan src).short67).setImage src total) } := by
  have htongs : s.chip.tongsOf src = ((s.chip.chan src).tongs, (s.chip.chan src).short67) := if_pos hlt
  refine ⟨_, rfl, chipOnly_to s ((if_neg (by rw [h]; decide)).trans ?_)⟩
  rw [htongs]
  exact if_pos hlt

/-- A channel whose count has been accepted. -/
def ChanSt.counted (h : ChanSt) (n : Nat) (short : Bool) : ChanSt := { h with tongs := n, short67 := short }

theorem setTongs_chan (c : Chip) {g : Nat} (h : g < 128) (n : Nat) (b : Bool) : c.setTongs g n b = c.setChan g (·.counted n b) := if_pos h

theorem put_chanWords (c : Chip) {g : Nat} (hg : g < 128) {f : Field} (hf : f.off [] = true) (v : Nat) : c.WordsBut (chanWord g) (c.put (chanAt g) f v) :=
  .put c v (chanWord_field hg hf)

theorem setImage_frame (c : Chip) (g v : Nat) : ∃ rg cs, c.setImage g v = { c with regs := rg, chans := cs } := by
  obtain ⟨rg, h⟩ := putStatus_regs
    ((c.setChan g (fun h => { h with img := v, imgTy := nativeTy (c.mode g) })).put (chanAt g) Chan.value (asReal (nativeTy (c.mode g)) v)) g
  exact ⟨rg, (c.setChan g (fun h => { h with img := v, imgTy := nativeTy (c.mode g) })).chans, h⟩

/-- A channel's count taken over: what it leaves. -/
theorem countTaken_ends (c : Chip) {g : Nat} (h : g < 128) (hc : c.chans.length = 128) {total : Nat} (ht : total < 2 ^ 32) (n : Nat) (short : Bool) :
    (c.countTaken g total n short).get (chanAt g) Dig.count = total ∧ ((c.countTaken g total n short).chan g).tongs = n ∧
      (c.countTaken g total n short).chans.length = 128 ∧ (∃ rg cs, c.countTaken g total n short = { c with regs := rg, chans := cs }) ∧
      c.WordsBut (chanWord g) (c.countTaken g total n short) := by
  rw [Chip.countTaken, setTongs_chan c h]
  refine ⟨Chip.get_put_of_lt (c.setChan g (·.counted n false)) (chanAt g) (f := Dig.count) (by decide) ht, ?_, ?_, ⟨_, _, rfl⟩, ?_⟩
  · have hlen : ((c.setChan g (·.counted n false)).put (chanAt g) Dig.count total).chans.length = 128 := (Chip.setChan_chans_length c g _).trans hc
    rw [Chip.chan_setChan _ _ hlen h]
    exact congrArg ChanSt.tongs (Chip.chan_setChan c (·.counted n false) hc h)
  · rw [Chip.setChan_chans_length]
    exact (Chip.setChan_chans_length _ _ _).trans hc
  · exact .trans (.trans (d := c.setChan g (·.counted n false)) (.of_regs rfl)
      (put_chanWords _ h (f := Dig.count) (by decide) total)) (.of_regs rfl)

theorem countTransfer_ends {s : State} (hs : Shaped s) {src : Fin 130} {gray : BitVec 16} (bad : Bool) (h : s.chip.counting src = true) (hlt : src.val < 128) :
    ∃ t, exec (.countTransfer src (gray, bad)) s = .next t ∧
      t.chip.get (chanAt src) Dig.count =
        (s.chip.get (chanAt src) Dig.count + (grayValue gray.toNat + 2 ^ 16 - (s.chip.chan src).tongs) % 2 ^ 16) % 2 ^ 32 ∧
      (t.chip.chan src).tongs = grayValue gray.toNat ∧
      t = { s with chip := { s.chip with regs := t.chip.regs, chans := t.chip.chans } } ∧ WordsKept (chanWord src) s t := by
  obtain ⟨total, ht, hrun⟩ := countTransfer_chan bad h hlt
  have hlen := hs.chans
  obtain ⟨hcount, htongs, hsize, ⟨rg, cs, hframe⟩, hwords⟩ := countTaken_ends s.chip hlt hlen (total := total) (by rw [ht]; exact Nat.mod_lt _ (by decide))
    (grayValue gray.toNat) (s.chip.chan src).short67
  rw [← ht]
  by_cases hsv : (s.chip.chan src).surveyed = true
  · rw [if_pos hsv] at hrun
    exact ⟨_, hrun, hcount, htongs, by rw [hframe], hwords.kept⟩
  · rw [if_neg hsv] at hrun
    refine ⟨_, hrun, ?_, ?_, ?_, (hwords.trans (Chip.setImage_words (fun f hf => chanWord_field hlt hf) _ _)).kept⟩
    · exact ((Chip.setImage_moves _ _ _).get hlt (f := Dig.count) (by decide) (by decide)).trans hcount
    · rw [Chip.chan_setImage _ _ hsize hlt]
      exact htongs
    · obtain ⟨rg', cs', himg⟩ := setImage_frame (s.chip.countTaken src total (grayValue gray.toNat) (s.chip.chan src).short67) src total
      rw [himg, hframe]

/-! ### An encoder's count -/

/-- The chip whose encoder's count has been taken over. -/
def Chip.encTaken (c : Chip) (e n total : Nat) (short bad : Bool) : Chip :=
  (((c.setTongs (128 + e) n false).put (regionAt e) Enc.count total).when short (·.put (regionAt e) Enc.overrun 1)).when bad (·.put (regionAt e) Enc.enc_err 1)

theorem setTongs_enc (c : Chip) (e n : Nat) (b : Bool) : c.setTongs (128 + e) n b = c.setSys (fun s => { s with encs := setAt s.encs e (n, b) }) := by
  rw [Chip.setTongs, if_neg (by omega), Nat.add_sub_cancel_left]

/-- The total of an encoder with a difference added. -/
def Chip.encTotal (c : Chip) (e : Nat) (diff : Int) : Nat :=
  (c.get (regionAt e) Enc.count + unsigned 32 (if c.flag (regionAt e) Enc.invert = true then -diff else diff)) % 2 ^ 32

theorem encTransfer_runs {s : State} {e : Fin 2} {gray : BitVec 16} (bad : Bool) (h : s.chip.counting (128 + e) = true) (diff : Int)
    (hd : diff = signed 16 ((grayValue gray.toNat + 2 ^ 16 - (s.chip.tongsOf (128 + e)).1) % 2 ^ 16)) :
    exec (.countTransfer ⟨128 + e, by omega⟩ (gray, bad)) s =
      .next { s with chip := s.chip.encTaken e (grayValue gray.toNat) (s.chip.encTotal e diff) (s.chip.tongsOf (128 + e)).2 bad } := by
  refine chipOnly_to s ((if_neg (by rw [h]; decide)).trans ?_)
  simp only [show 128 + e.val - 128 = e.val by omega, ← hd]
  exact if_neg (by omega)

theorem encTaken_ends (c : Chip) {e : Nat} (he : e < c.sys.encs.length) (n : Nat) {total : Nat} (ht : total < 2 ^ 32) (short bad : Bool) :
    (c.encTaken e n total short bad).get (regionAt e) Enc.count = total ∧
      (c.encTaken e n total short bad).flag (regionAt e) Enc.enc_err = (bad || c.flag (regionAt e) Enc.enc_err) ∧
      (c.encTaken e n total short bad).tongsOf (128 + e) = (n, false) := by
  let d := (c.setSys (fun s => { s with encs := setAt s.encs e (n, false) })).put (regionAt e) Enc.count total
  let d' := d.when short (·.put (regionAt e) Enc.overrun 1)
  have hd : c.encTaken e n total short bad = d'.when bad (·.put (regionAt e) Enc.enc_err 1) := by rw [Chip.encTaken, setTongs_enc]
  have hshort {f : Field} (hf : Enc.overrun.clear f = true) : d'.get (regionAt e) f = d.get (regionAt e) f :=
    Chip.get_when d short _ (Chip.get_put_clear _ _ _ hf)
  have hsys : d'.sys = { c.sys with encs := setAt c.sys.encs e (n, false) } := by cases short <;> rfl
  rw [hd]
  refine ⟨?_, ?_, ?_⟩
  · rw [Chip.get_when d' bad _ (Chip.get_put_clear _ _ _ (by decide)), hshort (by decide)]
    exact Chip.get_put_of_lt _ _ (by decide) ht
  · cases bad
    · have herr : d'.get (regionAt e) Enc.enc_err = c.get (regionAt e) Enc.enc_err := (hshort (by decide)).trans (Chip.get_put_clear _ _ _ (by decide))
      rw [Bool.false_or, Chip.flag, Chip.flag, ← herr]
      rfl
    · rw [Chip.flag, show d'.when true _ = d'.put (regionAt e) Enc.enc_err 1 from rfl, Chip.get_put_of_lt _ _ (by decide) (by decide)]
      rfl
  · have hlast : (d'.when bad (·.put (regionAt e) Enc.enc_err 1)).sys = d'.sys := by cases bad <;> rfl
    rw [Chip.tongsOf, if_neg (by omega), hlast, hsys, Nat.add_sub_cancel_left]
    exact nth_upd_same _ _ _ _ he

/-! ### Overruns (R67) -/

theorem setTongs_tongsOf {c : Chip} (hc : c.chans.length = 128) (he : c.sys.encs.length = 2) {src : Nat} (hsrc : src < 130) (n : Nat) (b : Bool) :
    (c.setTongs src n b).tongsOf src = (n, b) := by
  by_cases h : src < 128
  · rw [setTongs_chan c h, Chip.tongsOf, if_pos h, Chip.chan_setChan _ _ hc h]
    rfl
  · rw [Chip.setTongs, if_neg h, Chip.tongsOf, if_neg h]
    exact nth_upd_same _ _ _ _ (by omega)

theorem setTongs_regs (c : Chip) (src n : Nat) (b : Bool) : (c.setTongs src n b).regs = c.regs := by
  unfold Chip.setTongs
  split <;> rfl

theorem tongsOf_congr {c d : Chip} (hc : d.chans = c.chans) (hs : d.sys.encs = c.sys.encs) (n : Nat) : d.tongsOf n = c.tongsOf n := by
  rw [Chip.tongsOf, Chip.chan_congr hc, hs, Chip.tongsOf]

/-- An overrun latched, before it is recorded. -/
def Chip.overrunSeen (c : Chip) (src r : Nat) : Chip := (c.setTongs src (c.tongsOf src).1 true).putBit (regionAt r) Cross.overrun 5 true

theorem overrun_at (r : Nat) : Cross.overrun.at (regionAt r) 0 = regionAt r + 16 := by
  rw [Field.at_eq, Nat.zero_mul]
  rfl

theorem countOverrun_ends {s : State} (hs : Shaped s) {src : Fin 130} (hf : s.chip.fitted (srcRegion src) = true) :
    ∃ t, exec (.countOverrun src) s = .next t ∧ t.chip.getBit (regionAt (srcRegion src)) Cross.overrun 5 = true ∧
      t.chip.tongsOf src = ((s.chip.tongsOf src).1, true) ∧
      WordsKept (fun a => a = regionAt (srcRegion src) + 16 ∨ recorderWord a) s t := by
  have hr : srcRegion src < 8 := by
    have := src.isLt
    unfold srcRegion
    split <;> omega
  refine ⟨_, chipOnly_to s (if_neg (by rw [hf]; decide)), ?_, ?_, ?_⟩
  · rw [Chip.getBit, Chip.record_get _ _ _ _ _ _ _ (by rw [overrun_at]; have := (regionAt_head hr (w := 16) (by decide)).1; omega)]
    exact (Chip.getBit_putBit _ _ Cross.overrun 5 5 true (by decide) (by decide) (by decide)).trans (if_pos rfl)
  · have hkept : ∀ d : Chip, (d.record 25 (srcRegion src) 1 5 [] []).tongsOf src = d.tongsOf src := fun d =>
      tongsOf_congr (Chip.record_chans _ _ _ _ _ _ _) (by rw [Chip.record_sys]) src
    rw [hkept]
    exact setTongs_tongsOf hs.chans hs.sized.encs src.isLt _ true
  · have htongs : s.chip.WordsBut (fun a => a = regionAt (srcRegion src) + 16 ∨ recorderWord a) (s.chip.setTongs src (s.chip.tongsOf src).1 true) :=
      .of_regs (setTongs_regs _ _ _ _)
    exact ((htongs.trans (.put _ _ (.inl (overrun_at _)))).trans (.record _ _ _ _ _ _ _ (fun a ha => .inr ha))).kept

/-! ### Tongs that resynchronise (R70, R71) -/

theorem setTongs_size (c : Chip) (src n : Nat) (b : Bool) : (c.setTongs src n b).chans.length = c.chans.length ∧
    (c.setTongs src n b).sys.encs.length = c.sys.encs.length ∧ (c.setTongs src n b).sys.resync = c.sys.resync := by
  unfold Chip.setTongs
  split
  · exact ⟨Chip.setChan_chans_length _ _ _, rfl, rfl⟩
  · exact ⟨rfl, upd_length _ _ _, rfl⟩

theorem setTongs_other (c : Chip) {src m : Nat} (h : m ≠ src) (n : Nat) (b : Bool) : (c.setTongs src n b).tongsOf m = c.tongsOf m := by
  by_cases hs : src < 128
  · rw [setTongs_chan c hs]
    by_cases hm : m < 128
    · rw [Chip.tongsOf, if_pos hm, Chip.tongsOf, if_pos hm, Chip.chan_setChan_other c _ h]
    · rw [Chip.tongsOf, if_neg hm, Chip.tongsOf, if_neg hm]
      rfl
  · rw [Chip.setTongs, if_neg hs]
    by_cases hm : m < 128
    · rw [Chip.tongsOf, if_pos hm, Chip.tongsOf, if_pos hm]
      rfl
    · rw [Chip.tongsOf, if_neg hm, Chip.tongsOf, if_neg hm]
      exact nth_upd_other _ _ _ (by omega)

/-- Count tongs restarted one after the other. -/
theorem each_setTongs (l : List Nat) (hl : ∀ m ∈ l, m < 130) (b : Bool) (c : Chip) (hc : c.chans.length = 128) (he : c.sys.encs.length = 2) :
    (c.each l (fun d m => d.setTongs m 0 b)).regs = c.regs ∧ (c.each l (fun d m => d.setTongs m 0 b)).sys.resync = c.sys.resync ∧
      (∀ m, (m ∈ l ∨ c.tongsOf m = (0, b)) → (c.each l (fun d m => d.setTongs m 0 b)).tongsOf m = (0, b)) := by
  induction l generalizing c with
  | nil => exact ⟨rfl, rfl, fun m hm => hm.resolve_left List.not_mem_nil⟩
  | cons x l ih =>
    have hx := hl x (.head _)
    obtain ⟨hchans, hencs, hresync⟩ := setTongs_size c x 0 b
    obtain ⟨hregs, hres, htongs⟩ := ih (fun m hm => hl m (.tail _ hm)) (c.setTongs x 0 b) (hchans.trans hc) (hencs.trans he)
    refine ⟨hregs.trans (setTongs_regs _ _ _ _), hres.trans hresync, fun m hm => htongs m ?_⟩
    by_cases hmx : m = x
    · subst hmx
      exact .inr (setTongs_tongsOf hc he hx 0 b)
    · rcases hm with hm | hm
      · exact .inl ((List.mem_cons.1 hm).resolve_left hmx)
      · exact .inr ((setTongs_other c hmx 0 b).trans hm)

theorem countSources_lt {r m : Nat} (hr : r < 8) (h : m ∈ countSources r) : m < 130 := by
  rcases List.mem_append.1 h with h | h
  · obtain ⟨k, hk, rfl⟩ := List.mem_map.1 h
    have := List.mem_range.1 hk
    omega
  · split at h
    · rw [List.mem_singleton.1 h]
      omega
    · exact absurd h List.not_mem_nil

/-- A source of a region is its encoder or one of its channels. -/
theorem mem_countSources {r m : Nat} (hm : m < 130) (h : srcRegion m = r) (hc : m < 128 ∨ srcRegion m ≤ 1) : m ∈ countSources r := by
  unfold srcRegion at h hc
  split at h
  · exact List.mem_append_left _ (List.mem_map.2 ⟨m % 16, List.mem_range.2 (Nat.mod_lt _ (by decide)), by omega⟩)
  · next hlt =>
    refine List.mem_append_right _ ?_
    rw [if_pos (by omega)]
    exact List.mem_singleton.2 (by omega)

/-- The tongs of a region restarted: their sources count from zero, and none of them waits. -/
theorem resyncTongs_ends {c : Chip} (hc : c.chans.length = 128) (he : c.sys.encs.length = 2) {r : Nat} (hr : r < 8) (ks : List Nat) :
    (c.resyncTongs r ks true).regs = c.regs ∧ (∀ k ∈ ks, (c.resyncTongs r ks true).tongsWait k = false) ∧
      ∀ m ∈ countSources r, ks.contains (srcTongs m) = true → (c.resyncTongs r ks true).tongsOf m = (0, true) := by
  obtain ⟨hregs, hres, htongs⟩ := each_setTongs ((countSources r).filter (fun n => ks.contains (srcTongs n)))
    (fun m hm => countSources_lt hr (List.mem_filter.1 hm).1) true c hc he
  refine ⟨hregs, fun k hk => ?_, fun m hm hks => (htongs m (.inl (List.mem_filter.2 ⟨hm, hks⟩)))⟩
  have hnot : k ∉ c.sys.resync.filter (fun j => !ks.contains j) := fun h => by
    have := (List.mem_filter.1 h).2
    rw [List.contains_iff_mem.2 hk] at this
    exact absurd this (by decide)
  have hsys : (c.resyncTongs r ks true).sys.resync = c.sys.resync.filter (fun j => !ks.contains j) := congrArg (List.filter (fun j => !ks.contains j)) hres
  rw [Chip.tongsWait, hsys]
  exact Bool.eq_false_iff.2 (fun h => hnot (List.contains_iff_mem.1 h))

/-! #### The counts of a crossing -/

/-- The word that counts the crossings of a domain. -/
def crossWord (r d a : Nat) : Prop := a = regionAt r + 17 + d

theorem cross_at {r d : Nat} {f : Field} (hf : f.first = 0x11) (hs : f.stride = 1) : f.at (regionAt r) d = regionAt r + 17 + d := by
  rw [Field.at_eq, hf, hs, Nat.mul_one, Nat.add_assoc]

/-- A resynchronisation counted, with what it discards. -/
def Chip.resyncCounted (c : Chip) (r d n : Nat) : Chip := (c.bumpByI (regionAt r) Cross.resyncs d 1).bumpByI (regionAt r) Cross.discarded d n

theorem resyncCounted_words (c : Chip) (r d n : Nat) : c.WordsBut (crossWord r d) (c.resyncCounted r d n) :=
  .trans (.putI _ _ (cross_at rfl rfl)) (.putI _ _ (cross_at rfl rfl))

theorem resyncCounted_counts (c : Chip) (r d n : Nat) :
    (c.resyncCounted r d n).getI (regionAt r) Cross.resyncs d = min (c.getI (regionAt r) Cross.resyncs d + 1) 255 ∧
      (c.resyncCounted r d n).getI (regionAt r) Cross.discarded d = min (c.getI (regionAt r) Cross.discarded d + n) 4095 ∧
      (c.resyncCounted r d n).getI (regionAt r) Cross.refused d = c.getI (regionAt r) Cross.refused d := by
  refine ⟨?_, ?_, ?_⟩
  · exact (Chip.getI_putI_bits (f := Cross.discarded) (g := Cross.resyncs) _ _ _ _ (by decide) rfl).trans (Chip.getI_bumpByI_self c _ d 1 (by decide))
  · refine (Chip.getI_bumpByI_self _ _ d n (by decide)).trans ?_
    exact congrArg (fun x => min (x + n) 4095) (Chip.getI_putI_bits (f := Cross.resyncs) (g := Cross.discarded) c _ _ _ (by decide) rfl)
  · exact (Chip.getI_putI_bits (f := Cross.discarded) (g := Cross.refused) _ _ _ _ (by decide) rfl).trans
      (Chip.getI_putI_bits (f := Cross.resyncs) (g := Cross.refused) c _ _ _ (by decide) rfl)

/-! #### Queues emptied -/

theorem dropQueued_filter {k j : Nat} (h : j ≠ k) (es : List Emit) (n : Nat) :
    (dropQueued k n es).filter (fun e => e.tongs == [j]) = es.filter (fun e => e.tongs == [j]) := by
  induction es generalizing n with
  | nil => cases n <;> rfl
  | cons e es ih =>
    cases n with
    | zero => rfl
    | succ n =>
      rw [dropQueued]
      by_cases he : (e.tongs == [k]) = true
      · have hj : ¬ (e.tongs == [j]) = true := fun hj => h (by
          rw [beq_iff_eq] at he hj
          exact (List.cons.inj (hj.symm.trans he)).1)
        rw [if_pos he, ih]
        exact (List.filter_cons_of_neg (p := fun e : Emit => e.tongs == [j]) hj).symm
      · rw [if_neg he, List.filter_cons, List.filter_cons, ih]

/-- The chip whose queue of a key is empty, and whose tongs wait. -/
def Chip.tongsEmptied (c : Chip) (k : Nat) : Chip := { c with
  emitted := dropQueued k 64 c.emitted
  ports := if k / 16 % 8 = 2 then upd c.ports (k / 128) (fun p => { p with handed := [] }) else c.ports
  sys := { c.sys with resync := if c.tongsWait k then c.sys.resync else k :: c.sys.resync } }

theorem resetTongs_eq {c : Chip} {r d u : Nat} (hd : d < 8) (hu : u < 16) (h8 : c.phase = 8) (huse : c.usesDomain r d = true) :
    c.resetTongs (tongsKey r d u) =
      (c.tongsEmptied (tongsKey r d u)).bumpByI (regionAt r) Cross.discarded d (c.queued (tongsKey r d u)).length := by
  have hr : tongsKey r d u / 128 = r := by simp only [tongsKey]; omega
  have hdom : tongsKey r d u / 16 % 8 = d := by simp only [tongsKey]; omega
  have hcond : (decide (c.phase = 8) && c.usesDomain (tongsKey r d u / 128) (tongsKey r d u / 16 % 8)) = true := by
    rw [hr, hdom, huse, h8]
    rfl
  have hrun : c.resetTongs (tongsKey r d u) = (c.tongsEmptied (tongsKey r d u)).bumpByI (regionAt (tongsKey r d u / 128)) Cross.discarded
      (tongsKey r d u / 16 % 8) (c.queued (tongsKey r d u)).length := if_pos hcond
  rw [hrun, hr, hdom]

/-- A chip that differs in what an emptied queue changes: the count of a crossing, the queues and the tongs that wait. -/
structure Chip.Empties (r d : Nat) (c e : Chip) : Prop where
  words : c.WordsBut (crossWord r d) e
  chans : e.chans = c.chans
  encs : e.sys.encs = c.sys.encs
  resyncs : e.getI (regionAt r) Cross.resyncs d = c.getI (regionAt r) Cross.resyncs d
  refused : e.getI (regionAt r) Cross.refused d = c.getI (regionAt r) Cross.refused d

theorem Chip.Empties.refl (r d : Nat) (c : Chip) : c.Empties r d c := ⟨.refl _ c, rfl, rfl, rfl, rfl⟩

theorem Chip.Empties.trans {r d : Nat} {c e f : Chip} (h : c.Empties r d e) (k : e.Empties r d f) : c.Empties r d f :=
  ⟨h.words.trans k.words, k.chans.trans h.chans, k.encs.trans h.encs, k.resyncs.trans h.resyncs, k.refused.trans h.refused⟩

theorem Chip.Empties.ready {r d : Nat} {c e : Chip} (h : c.Empties r d e) (hr : r < 8) (hd : d < 8) :
    e.phase = c.phase ∧ e.usesDomain r d = c.usesDomain r d := by
  have hspace (a : Nat) (ha : 8 ≤ spaceOf a) : ¬ crossWord r d a := fun hc => by
    have hh := (regionAt_head hr (w := 17 + d) (by omega)).1
    rw [crossWord, Nat.add_assoc] at hc
    rw [hc] at ha
    exact Nat.not_lt.2 ha hh
  have hfit : e.fitted r = c.fitted r := by
    rw [Chip.fitted, Chip.getBit, h.words.get (hspace _ (by decide)), Chip.fitted, Chip.getBit]
  exact ⟨h.words.get (hspace _ (by decide)), by rw [Chip.usesDomain, Chip.usesDomain, hfit]⟩

theorem resetTongs_empties {c : Chip} {r d u : Nat} (hd : d < 8) (hu : u < 16) (h8 : c.phase = 8) (huse : c.usesDomain r d = true) :
    c.Empties r d (c.resetTongs (tongsKey r d u)) ∧
      (c.resetTongs (tongsKey r d u)).getI (regionAt r) Cross.discarded d =
        min (c.getI (regionAt r) Cross.discarded d + (c.queued (tongsKey r d u)).length) 4095 ∧
      ∀ v, v ≠ u → (c.resetTongs (tongsKey r d u)).queued (tongsKey r d v) = c.queued (tongsKey r d v) := by
  rw [resetTongs_eq hd hu h8 huse]
  refine ⟨⟨?_, rfl, rfl, ?_, ?_⟩, ?_, fun v hv => ?_⟩
  · exact .trans (d := c.tongsEmptied (tongsKey r d u)) (.of_regs rfl) (.putI _ _ (cross_at rfl rfl))
  · exact Chip.getI_putI_bits (f := Cross.discarded) (g := Cross.resyncs) _ _ _ _ (by decide) rfl
  · exact Chip.getI_putI_bits (f := Cross.discarded) (g := Cross.refused) _ _ _ _ (by decide) rfl
  · exact Chip.getI_bumpByI_self _ _ d _ (by decide)
  · exact congrArg (List.take 64) (dropQueued_filter (by simp only [tongsKey]; omega) c.emitted 64)

theorem min_count (a b n : Nat) : min (min (a + b) 4095 + n) 4095 = min (a + (b + n)) 4095 := by omega

/-- The queues of a domain emptied one after the other. -/
theorem resetAll_empties {r d : Nat} (hr : r < 8) (hd : d < 8) (l : List Nat) (hl : ∀ u ∈ l, u < 16) (hnd : l.Nodup) (c : Chip)
    (hle : c.getI (regionAt r) Cross.discarded d ≤ 4095) (h8 : c.phase = 8) (huse : c.usesDomain r d = true) :
    c.Empties r d (c.each (l.map (tongsKey r d)) Chip.resetTongs) ∧
      (c.each (l.map (tongsKey r d)) Chip.resetTongs).getI (regionAt r) Cross.discarded d =
        min (c.getI (regionAt r) Cross.discarded d + (l.map (fun u => (c.queued (tongsKey r d u)).length)).sum) 4095 := by
  induction l generalizing c with
  | nil => exact ⟨.refl r d c, (Nat.min_eq_left hle).symm⟩
  | cons u l ih =>
    obtain ⟨hnot, hnd⟩ := List.nodup_cons.1 hnd
    obtain ⟨hone, hcount, hqueues⟩ := resetTongs_empties hd (hl u (.head _)) h8 huse
    obtain ⟨hphase, hready⟩ := hone.ready hr hd
    obtain ⟨hrest, hsum⟩ := ih (fun v hv => hl v (.tail _ hv)) hnd (c.resetTongs (tongsKey r d u)) (by rw [hcount]; omega)
      (hphase.trans h8) (hready.trans huse)
    refine ⟨hone.trans hrest, hsum.trans ?_⟩
    have hsame : l.map (fun v => ((c.resetTongs (tongsKey r d u)).queued (tongsKey r d v)).length) = l.map (fun v => (c.queued (tongsKey r d v)).length) :=
      List.map_congr_left (fun v hv => by rw [hqueues v (fun e => hnot (e ▸ hv))])
    rw [hsame, hcount, min_count, List.map_cons, List.sum_cons]

/-! #### The two cases of a resynchronisation -/

/-- The tongs of keys, resynchronised. -/
theorem resynced_ends {s : State} (hs : Shaped s) {r d : Fin 8} {c : Chip} (he : s.chip.Empties r d c) (n : Nat) (ks : List Nat) :
    let t := (c.resyncCounted r d n).resyncTongs r ks true
    t.getI (regionAt r) Cross.resyncs d = min (s.chip.getI (regionAt r) Cross.resyncs d + 1) 255 ∧
      t.getI (regionAt r) Cross.discarded d = min (c.getI (regionAt r) Cross.discarded d + n) 4095 ∧
      t.getI (regionAt r) Cross.refused d = s.chip.getI (regionAt r) Cross.refused d ∧
      (∀ k ∈ ks, t.tongsWait k = false) ∧
      (∀ m ∈ countSources r, ks.contains (srcTongs m) = true → t.tongsOf m = (0, true)) ∧
      WordsKept (fun a => a = regionAt r + 17 + d) s { s with chip := t } := by
  obtain ⟨hregs, hwaits, htongs⟩ := resyncTongs_ends (c := c.resyncCounted r d n) (he.chans ▸ hs.chans) (he.encs ▸ hs.sized.encs) r.isLt ks
  have hget (f : Field) : ((c.resyncCounted r d n).resyncTongs r ks true).getI (regionAt r) f d = (c.resyncCounted r d n).getI (regionAt r) f d := by
    rw [Chip.getI, Chip.word, hregs, Chip.getI, Chip.word]
  obtain ⟨hres, hdis, href⟩ := resyncCounted_counts c r d n
  refine ⟨(hget _).trans (hres.trans (by rw [he.resyncs])), (hget _).trans hdis, (hget _).trans (href.trans he.refused), hwaits, htongs, ?_⟩
  exact ((he.words.trans (resyncCounted_words c r d n)).trans (.of_regs hregs)).kept

theorem tongsResync_waiting {s : State} {r d : Fin 8} {inFlight : BitVec 12} (src : Option (Fin 130)) (hu : s.chip.usesDomain r d = true)
    (hl : s.chip.clkLost r d = false) (h8 : s.chip.phase = 8) {waits : List Nat}
    (hw : waits = s.chip.sys.resync.filter (fun k => k / 16 == 8 * r.val + d.val)) (hne : waits ≠ []) :
    exec (.tongsResync r d inFlight src) s = .next { s with chip := (s.chip.resyncCounted r d inFlight.toNat).resyncTongs r waits true } := by
  refine chipOnly_to s ((if_neg (by rw [hu]; decide)).trans ?_)
  have hemp : waits.isEmpty = false := by rwa [Bool.eq_false_iff, ne_eq, List.isEmpty_iff]
  simp only [← hw, hemp, hl, h8]
  rfl

theorem tongsResync_restart {s : State} {r d : Fin 8} {inFlight : BitVec 12} (hu : s.chip.usesDomain r d = true)
    (hl : s.chip.clkLost r d = false) (h8 : s.chip.phase = 8) (hw : s.chip.sys.resync.filter (fun k => k / 16 == 8 * r.val + d.val) = []) :
    exec (.tongsResync r d inFlight none) s = .next { s with chip :=
      ((s.chip.each ((List.range 16).map (tongsKey r d)) Chip.resetTongs).resyncCounted r d inFlight.toNat).resyncTongs r ((List.range 16).map (tongsKey r d)) true } := by
  refine chipOnly_to s ((if_neg (by rw [hu]; decide)).trans ?_)
  simp only [hw, hl, h8]
  rfl

/-! ### clear_crossings (R74) -/

theorem clearCrossings_eq {c : Chip} {r : Nat} (h : c.opens r = true) : c.cmdClearCrossings r =
    c.each ((List.replicate 8 0).zipIdx 0) (fun d w => d.setNat (regionAt r + 0x11 + w.2) w.1) := if_neg (by rw [h]; decide)

theorem clearCrossings_ends {s : State} {r : Fin 8} (h : s.chip.opens r = true) : ∃ t, exec (.clearCrossings r) s = .next t ∧
    (∀ d < 8, t.chip.nat (regionAt r + 0x11 + d) = 0) ∧ t = { s with chip := { s.chip with regs := t.chip.regs } } ∧
    WordsKept (fun a => regionAt r + 0x11 ≤ a ∧ a < regionAt r + 0x19) s t := by
  obtain ⟨hin, hout⟩ := each_setNat (regionAt r + 0x11) (List.replicate 8 0) 0 s.chip
  refine ⟨_, chipOnly_to s (clearCrossings_eq h), fun d hd => ?_, ?_, ?_⟩
  · have hzero := hin d (by rwa [List.length_replicate]) (by rw [List.getElem_replicate]; decide)
    rwa [List.getElem_replicate, Nat.zero_add] at hzero
  · have hregs : s.chip.RegsOnly (s.chip.each ((List.replicate 8 0).zipIdx 0) (fun d w => d.setNat (regionAt r + 0x11 + w.2) w.1)) :=
      Chip.each_rel .refl (fun _ _ _ h k => by
        obtain ⟨rg, rfl⟩ := h
        obtain ⟨rg', rfl⟩ := k
        exact ⟨rg', rfl⟩) _ (fun d w _ => ⟨_, rfl⟩) _
    exact hregs.state
  · exact (hout.mono (fun a ha => by rw [List.length_replicate] at ha; omega)).kept

/-- A source's tongs are among those of its region's drive domain. -/
theorem srcTongs_mem (n : Nat) : srcTongs n ∈ (List.range 16).map (tongsKey (srcRegion n) 5) := by
  unfold srcTongs srcRegion
  split
  · exact List.mem_map.2 ⟨4 + n % 16 / 4, List.mem_range.2 (by omega), rfl⟩
  · exact List.mem_map.2 ⟨10, by decide, rfl⟩

/-- Settles O6: what a lost clock entails leaves the heads of the region blocks and the marks of the clocks, an emptied queue leaves the queues of
the other tongs, and the three counts of a crossing share a word in bits of their own. -/
theorem clocksAndCountTongs : Obligations.ClocksAndCountTongs := by
  intro s hs
  refine ⟨fun r d hz hu hd hl h2 hz' => ?_, fun r d hz hl hd hz' ht => ?_, fun src gray bad h hlt => countTransfer_ends hs bad h hlt,
    fun e gray bad h diff hdiff => ?_, fun src hf => countOverrun_ends hs hf,
    fun r d inFlight src hu hl h8 => ⟨fun waits hw hne => ?_, fun hw => ?_⟩, fun r => ⟨fun h => ?_, fun h => clearCrossings_ends h⟩⟩
  · have hlen : r.val < s.chip.sys.clkLost.length := by rw [hs.sized.clkLost]; exact r.isLt
    obtain ⟨hlost, hother⟩ := markClock_lost hlen d true
    have hsteady := clockEffect_steady (s.onChip (fun c => (c.markClock r d true).record 24 r 2 d [1] [hz.toNat])) r d
    have hmark : ((s.chip.markClock r d true).record 24 r 2 d [1] [hz.toNat]).steady = (s.chip.markClock r d true).steady := Chip.record_steady _ _ _ _ _ _ _
    refine ⟨_, clockLost_marks hu hd hl h2 hz', (clkLost_steady (hsteady.trans hmark) _ _).trans hlost, ?_,
      fun r' d' hne => (clkLost_steady (hsteady.trans hmark) _ _).trans (hother r' d' hne)⟩
    have hheads := clockEffect_heads (s.onChip (fun c => (c.markClock r d true).record 24 r 2 d [1] [hz.toNat])) r.isLt (d := d) (usesDomain_region hu).2
    have hhead : ¬ ¬ regionHead (Cross.clock_lost.at (regionAt r) 0) := not_not.2 (by
      rw [Field.at_eq, Nat.zero_mul, Nat.add_zero]
      exact regionAt_head r.isLt (by decide))
    rw [Chip.getBit, hheads.get hhead]
    have hrec := (Chip.HeadsKept.record (s.chip.markClock r d true) 24 r 2 d [1] [hz.toNat]).get (f := Cross.clock_lost) hhead
    refine (congrArg (fun x : Nat => x.testBit d) hrec).trans ?_
    exact (Chip.getBit_putBit _ _ Cross.clock_lost d d true (by decide) (by decide) d.isLt).trans (if_pos rfl)
  · have hlen : r.val < s.chip.sys.clkLost.length := by rw [hs.sized.clkLost]; exact r.isLt
    obtain ⟨hback, hother⟩ := markClock_lost hlen d false
    have hmark : (((s.chip.markClock r d false).record 24 r 0 d [0] [hz.toNat]).clockBack r d).steady = (s.chip.markClock r d false).steady :=
      (clockBack_steady _ _ _).trans (Chip.record_steady _ _ _ _ _ _ _)
    exact ⟨_, clockReturn_marks hl hd hz' ht, (clkLost_steady hmark _ _).trans hback, fun r' d' hne => (clkLost_steady hmark _ _).trans (hother r' d' hne),
      .chip s _⟩
  · obtain ⟨hcount, herr, htongs⟩ := encTaken_ends s.chip (e := e) (by rw [hs.sized.encs]; exact e.isLt) (grayValue gray.toNat)
      (total := s.chip.encTotal e diff) (Nat.mod_lt _ (by decide)) (s.chip.tongsOf (128 + e)).2 bad
    exact ⟨_, encTransfer_runs bad h diff hdiff, hcount, herr, htongs⟩
  · obtain ⟨hres, hdis, href, hwaits, htongs, hwords⟩ := resynced_ends hs (.refl r d s.chip) inFlight.toNat waits
    exact ⟨_, tongsResync_waiting src hu hl h8 hw hne, hres, hdis, href, hwaits,
      fun n hn hks hc => htongs n (mem_countSources n.isLt hn hc) hks, .chip s _, hwords⟩
  · have hle : s.chip.getI (regionAt r) Cross.discarded d ≤ 4095 := Nat.le_of_lt_succ (Chip.getI_lt _ _ _ _)
    obtain ⟨hemp, hsum⟩ := resetAll_empties r.isLt d.isLt (List.range 16) (fun u hu => List.mem_range.1 hu) List.nodup_range s.chip hle h8 hu
    obtain ⟨hres, hdis, href, -, htongs, hwords⟩ := resynced_ends hs hemp inFlight.toNat ((List.range 16).map (tongsKey r d))
    refine ⟨_, tongsResync_restart hu hl h8 hw, hres, ?_, href, fun n hn hd => ?_, .chip s _, hwords⟩
    · rw [hdis, hsum, min_count, Nat.add_assoc]
    · refine htongs n (mem_countSources n.isLt hn (by unfold srcRegion; split <;> omega)) (List.contains_iff_mem.2 ?_)
      rw [hd, ← hn]
      exact srcTongs_mem n
  · exact chipOnly_to s (if_pos (by rw [h]; rfl))

end Sys2Proof.Machine
end

section
/-! SUPPORT. O8: the always-on domain. -/

namespace Sys2Proof.Machine

/-! ### The words a comparator, an exhausted supercapacitor and the dormant command write -/

/-- The bits of the comparators in word `0xE` of the supplies. -/
theorem comparator_at : Supply.cmp_now.at supplyAt 0 = supplyAt + 0xE ∧ Supply.cmp_latched.at supplyAt 0 = supplyAt + 0xE := by decide

/-- A comparator that asserts shows, and is latched. -/
def Chip.cmpShown (c : Chip) (k : Nat) : Chip := (c.putBit supplyAt Supply.cmp_now k true).putBit supplyAt Supply.cmp_latched k true

theorem cmpShown_bits (c : Chip) {k : Nat} (hk : k < 4) : (c.cmpShown k).getBit supplyAt Supply.cmp_now k = true ∧
    (c.cmpShown k).getBit supplyAt Supply.cmp_latched k = true := by
  constructor
  · rw [Chip.cmpShown, Chip.putBit, Chip.getBit_put_clear _ _ _ _ (by decide),
      Chip.getBit_putBit _ _ _ _ _ _ (by decide) (by decide) (by exact hk), if_pos rfl]
  · rw [Chip.cmpShown, Chip.getBit_putBit _ _ _ _ _ _ (by decide) (by decide) (by exact hk), if_pos rfl]

/-- What an assertion changes beside the recorder: the comparators' word, and the latch of the always-on domain. -/
structure Chip.Asserts (c : Chip) (k : Nat) (d : Chip) : Prop where
  now : d.getBit supplyAt Supply.cmp_now k = true
  latched : d.getBit supplyAt Supply.cmp_latched k = true
  words : c.WordsBut (fun a => a = supplyAt + 0xE ∨ recorderWord a) d

theorem assertCmp_asserts (c : Chip) {k : Nat} (hk : k < 4) (h : c.getBit supplyAt Supply.cmp_now k = false) : c.Asserts k (c.assertCmp k) := by
  obtain ⟨hnow, hlatched⟩ := cmpShown_bits c hk
  have hwords : c.WordsBut (fun a => a = supplyAt + 0xE ∨ recorderWord a) (c.cmpShown k) :=
    (Chip.WordsBut.put c _ (.inl comparator_at.1)).trans (.put _ _ (.inl comparator_at.2))
  have haon : ∀ a, c.Asserts k { c.cmpShown k with aon := a } := fun a => ⟨hnow, hlatched, hwords⟩
  have hrec : ∀ (d : Chip) (src r sev sub : Nat) (bs ws : List Nat), c.Asserts k d → c.Asserts k (d.record src r sev sub bs ws) :=
    fun d src r sev sub bs ws hd => by
      refine ⟨?_, ?_, hd.words.trans (.record _ _ _ _ _ _ _ (fun a ha => .inr ha))⟩
      · rw [Chip.getBit, Chip.record_get _ _ _ _ _ _ _ (by decide)]
        exact hd.now
      · rw [Chip.getBit, Chip.record_get _ _ _ _ _ _ _ (by decide)]
        exact hd.latched
  rw [Chip.assertCmp, if_neg (by simp [h])]
  simp only []
  split
  · exact hrec _ _ _ _ _ _ _ (haon _)
  · exact haon _

/-- Outside S0 the always-on domain has its supply. -/
theorem aonStopped_of_phase {c : Chip} (h : c.phase ≠ 0) : c.aonStopped = false := by simp [Chip.aonStopped, h]

theorem comparatorAssert_shows {s : State} {k : Fin 4} (hnow : s.chip.getBit supplyAt Supply.cmp_now k = false) (hp : s.chip.phase ≠ 0) :
    exec (.comparatorAssert k) s = .next (s.onChip (·.assertCmp k)) := by
  show execComparatorAssert k s = _
  unfold execComparatorAssert
  simp only []
  rw [if_neg (by simp [hnow, aonStopped_of_phase hp]), if_neg (by simp [hp])]

theorem comparatorAssert_wakes {s : State} {k : Fin 4} (hnow : s.chip.getBit supplyAt Supply.cmp_now k = false) (hp : s.chip.phase = 0)
    (hw : k = 0 ∨ (s.chip.aonStopped = false ∧ s.chip.getBit supplyAt Supply.wake k = true)) :
    exec (.comparatorAssert k) s = .next ((s.onChip (·.assertCmp k)).startS1 (if k = 0 then 1 else 2) (if k = 0 then 0 else k)) := by
  show execComparatorAssert k s = _
  unfold execComparatorAssert
  simp only []
  rcases hw with rfl | ⟨hon, hwake⟩
  · rw [if_neg (by simpa using hnow), if_pos (by simp [hp])]
  · rw [if_neg (by simp [hnow, hon]), if_pos (by simp [hp, hwake])]

theorem comparatorClear_clears (k : Fin 4) (s : State) : ∃ t, exec (.comparatorClear k) s = .next t ∧
    t.chip.getBit supplyAt Supply.cmp_now k = false ∧ t.chip.get supplyAt Supply.cmp_latched = s.chip.get supplyAt Supply.cmp_latched ∧
    t = { s with chip := { s.chip with regs := t.chip.regs } } ∧ WordsKept (fun a => a = supplyAt + 0xE) s t := by
  refine ⟨s.onChip (·.putBit supplyAt Supply.cmp_now k false), rfl, ?_, Chip.get_putBit_clear _ _ _ _ (by decide), rfl,
    fun a ha => Chip.putBit_word_other _ _ (by rw [comparator_at.1]; exact ha)⟩
  show (s.chip.putBit supplyAt Supply.cmp_now k false).getBit supplyAt Supply.cmp_now k = false
  rw [Chip.getBit_putBit _ _ _ _ _ _ (by decide) (by decide) (by exact k.isLt), if_pos rfl]

/-- The words of the always-on domain once its supply is exhausted (R84). -/
def Chip.aonLost (c : Chip) : Chip := ((c.setNat (supplyAt + 0xE) 0).put supplyAt Supply.wake 7).put supplyAt Supply.cal_valid 0

theorem aonLost_calendar (c : Chip) : c.aonLost.get supplyAt Supply.cal_valid = 0 := Chip.get_put_of_lt _ _ (by decide) (by decide)

theorem aonLost_words (c : Chip) : c.WordsBut (fun a => a = supplyAt ∨ a = supplyAt + 0xE ∨ a = supplyAt + 0xF) c.aonLost :=
  ((Chip.WordsBut.setWord c _ (.inr (.inl rfl))).trans (.put _ _ (.inr (.inr (by decide))))).trans (.put _ _ (.inl (by decide)))

/-- A calendar that is not valid gives the stamp 0 (R81). -/
theorem stamp_invalid {c : Chip} (h : c.get supplyAt Supply.cal_valid = 0) : c.stamp = 0 := by
  rw [Chip.stamp, Chip.flag, h]
  rfl

theorem scapExhausted_loses {s : State} (hp : s.chip.phase = 0) (h : s.chip.getBit supplyAt Supply.cmp_now 0 = false) :
    ∃ t, exec .scapExhausted s = .next t ∧ t.chip.get supplyAt Supply.cal_valid = 0 ∧ t.chip.stamp = 0 ∧ t.chip.aon.exhausted = true ∧
      StoresKept s t ∧ WordsKept (fun a => a = supplyAt ∨ a = supplyAt + 0xE ∨ a = supplyAt + 0xF) s t := by
  have hrun : exec .scapExhausted s = .next { s with chip := { s.chip.aonLost with aon := { s.chip.aon with
      cmp := List.replicate 4 none, exhausted := true, dormant := false, bpHot := false } } } := by
    show chipOnly s _ = _
    rw [chipOnly, State.onChip, if_neg (by simp [hp, h])]
    rfl
  exact ⟨_, hrun, aonLost_calendar s.chip, stamp_invalid (aonLost_calendar s.chip), rfl, ⟨rfl, rfl⟩, aonLost_words s.chip⟩

/-! ### The dormant command (R87) -/

theorem dormant_at : Supply.dormant_pending.at supplyAt 0 = supplyAt ∧ Supply.result.at supplyAt 0 = supplyAt + 0x11 := by decide

/-- With no boundary to be dormant at, or one still to come, the command's answer is all. -/
theorem dormant_answers {session : Fin 16} {s : State} (hrole : s.chip.roleIn session [2] = true)
    (h : (s.chip.cmdDormant.flag supplyAt Supply.dormant_pending && s.chip.cmdDormant.get engineAt Engine.state != 1) = false) :
    exec (.dormant session) s = .next { s with chip := s.chip.cmdDormant } := by
  show execDormant session s = _
  unfold execDormant
  rw [if_neg (by simp [hrole])]
  exact if_neg (ne_true_of_eq_false h)

/-- A module that does not hold the lease takes the command, and waits for its boundary. -/
theorem dormant_waits {session : Fin 16} {s : State} (hrole : s.chip.roleIn session [2] = true) (hres : s.chip.get supplyAt Supply.result ≠ 1)
    (hp : s.chip.phase = 8) (h2 : s.chip.get pairAt Pair.lease_state ≠ 2) (h5 : s.chip.get pairAt Pair.lease_state ≠ 5)
    (heng : s.chip.get engineAt Engine.state = 1) :
    exec (.dormant session) s =
      .next (s.onChip (fun c => (c.put supplyAt Supply.dormant_pending 1).put supplyAt Supply.result 1)) := by
  have hcmd : s.chip.cmdDormant = (s.chip.put supplyAt Supply.dormant_pending 1).put supplyAt Supply.result 1 := by
    simp only [Chip.cmdDormant]
    rw [if_neg hres, if_neg (by simp [Chip.lease, h2, h5, hp])]
  have hstate : s.chip.cmdDormant.get engineAt Engine.state = 1 := by
    rw [hcmd, Chip.get_put_other _ (by decide), Chip.get_put_other _ (by decide), heng]
  rw [dormant_answers hrole (by simp [hstate]), hcmd]
  rfl

/-- A holder refuses it. -/
theorem dormant_refused {session : Fin 16} {s : State} (hrole : s.chip.roleIn session [2] = true) (hres : s.chip.get supplyAt Supply.result ≠ 1)
    (h : s.chip.get pairAt Pair.lease_state = 2 ∨ s.chip.get pairAt Pair.lease_state = 5)
    (hnone : s.chip.get supplyAt Supply.dormant_pending = 0) :
    exec (.dormant session) s = .next (s.onChip (·.put supplyAt Supply.result 3)) := by
  have hcmd : s.chip.cmdDormant = s.chip.put supplyAt Supply.result 3 := by
    simp only [Chip.cmdDormant]
    rw [if_neg hres, if_pos (by rcases h with h | h <;> simp [Chip.lease, h])]
  have hpending : s.chip.cmdDormant.flag supplyAt Supply.dormant_pending = false := by
    rw [Chip.flag, hcmd, Chip.get_put_other _ (by decide), hnone]
    rfl
  rw [dormant_answers hrole (by simp [hpending]), hcmd]
  rfl

/-! ### Reset and S1 -/

/-- What a filter drops reads as it does after a reset. -/
theorem Sparse.get_filter_out {α : Type} (d : Nat → α) {p : Nat × α → Bool} {a : Nat} (h : ∀ v, p (a, v) = false) (l : List (Nat × α)) :
    Sparse.get d (l.filter p) a = d a := by
  induction l with
  | nil => rfl
  | cons e t ih =>
    obtain ⟨b, v⟩ := e
    by_cases hp : p (b, v) = true
    · rw [List.filter_cons_of_pos hp, Sparse.get, if_neg (fun e => by rw [← e, h] at hp; exact nomatch hp), ih]
    · rw [List.filter_cons_of_neg hp, ih]

/-- A word that a reset does not keep, outside the supplies' own two, reads as it does after power-up. -/
theorem afterReset_word (c : Chip) {a : Nat} (hk : keptWord a = false) (h0 : a ≠ supplyAt) (hE : a ≠ supplyAt + 0xE) :
    c.afterReset.word a = resetWord a := by
  simp only [Chip.afterReset]
  rw [Chip.word_put_other _ _ (by rw [show Supply.cal_valid.at supplyAt 0 = supplyAt by decide]; exact h0),
    Chip.word_put_other _ _ (by rw [show Supply.gs_off_seen.at supplyAt 0 = supplyAt + 0xE by decide]; exact hE)]
  exact Sparse.get_filter_out resetWord (fun _ => hk) _

/-- The phase after a reset is S0. -/
theorem afterReset_phase (c : Chip) : c.afterReset.phase = 0 := by
  have hword : c.afterReset.word (Survey.phase.at surveyAt 0) = (0 : Word) :=
    (afterReset_word c (by decide) (by decide) (by decide)).trans (by decide)
  simp only [Chip.phase, Chip.get, Chip.getI, hword]
  decide

/-- What a start from reset notes (R532): the phase, the cause and the count of starts; the NOR stays as it is. -/
theorem startS1_notes (s : State) {cause : Nat} (wake : Nat) (hc : cause < 256) : (s.startS1 cause wake).chip.phase = 1 ∧
    (s.startS1 cause wake).chip.get statusAt Status.start_cause = cause ∧
    (s.startS1 cause wake).flash.retained.starts = (s.flash.retained.starts + 1) % 2 ^ 32 ∧
    (s.startS1 cause wake).flash.nor = s.flash.nor := by
  refine ⟨?_, ?_, rfl, rfl⟩
  · simp only [State.startS1, State.onChip, Chip.phase]
    rw [Chip.get_put_other _ (by decide), Chip.get_put_other _ (by decide), Chip.get_put_other _ (by decide),
      Chip.get_put_of_lt _ _ (by decide) (by decide)]
  · simp only [State.startS1, State.onChip]
    rw [Chip.get_put_other _ (by decide), Chip.get_put_clear _ _ _ (by decide), Chip.get_put_of_lt _ _ (by decide) hc]

/-! ### The power fail (R81, R82): what the hold-up sequence leaves of the NOR and of the retained stamp -/

/-- The NOR, and the stamp of the last power fail. -/
def State.stamped (s : State) : List (Nat × Byte) × Nat := (s.flash.nor, s.flash.retained.failStamp)

theorem startQuench_stamped (s : State) (n : Nat) : (s.startQuench n).stamped = s.stamped := by
  cases hd : s.chip.driving with
  | false => rw [startQuench_idle s n hd]
  | true =>
    rw [startQuench_begins s n hd]
    cases hw : s.chip.waveRuns <;> rfl

theorem powerDown_stamped (s : State) : s.powerDown.stamped = s.stamped := (startQuench_stamped _ 1).trans rfl

/-- The hold-up flush takes the erased stripes as they stand: it erases none. -/
theorem enterStripe_stamped {s u : State} {l : Nat} (h : s.enterStripe l .holdup = some u) : u.stamped = s.stamped := by
  have hready : s.readyStripe .holdup = s := if_neg (by simp)
  unfold State.enterStripe at h
  simp only [hready] at h
  split at h
  · cases h; rfl
  · split at h
    · cases h
    · split at h
      · cases h; rfl
      · cases h

theorem writeOne_stamped {s u : State} {e : EvRec} (h : s.writeOne e .holdup = some u) : u.stamped = s.stamped := by
  obtain ⟨v, hv, rfl⟩ := Option.map_eq_some_iff.1 h
  exact Eq.trans (b := v.stamped) rfl (enterStripe_stamped hv)

theorem writeRecords_stamped (s : State) (n : Nat) : (s.writeRecords .holdup n).stamped = s.stamped := by
  induction n generalizing s with
  | zero => rfl
  | succ n ih =>
    unfold State.writeRecords
    split
    · rfl
    · rw [if_neg (by simp)]
      split
      · rfl
      · next u hw => exact (ih _).trans (Eq.trans (b := u.stamped) rfl (writeOne_stamped hw))

theorem flush_stamped (s : State) (n : Nat) : (s.flush .holdup n).stamped = s.stamped := by
  unfold State.flush
  refine Eq.trans (b := State.stamped (if s.chip.recd.mounted && s.chip.get recdAt Recd.state = 1
    then (s.onChip Chip.pairGiveUp).writeRecords .holdup n else s)) rfl ?_
  split
  · exact writeRecords_stamped _ n
  · rfl

/-- The flush of a power fail sets its stamp. -/
theorem stampAndFlush_stamped (s : State) (stamp n : Nat) : (s.stampAndFlush stamp .holdup n).stamped = (s.flash.nor, stamp) :=
  flush_stamped _ n

/-- The state in which the supply is gone: LS asserts nothing, and the module is not dormant. -/
def State.lsGone (s : State) : State :=
  s.onChip (fun c => { (c.putBit supplyAt Supply.cmp_now 0 false) with aon := { c.aon with dormant := false } })

theorem lsGone_keeps (s : State) : s.lsGone.chip.phase = s.chip.phase ∧ s.lsGone.stamped = s.stamped :=
  ⟨Chip.get_put_other _ (by decide), rfl⟩

/-- The module once the hold-up sequence has run, before the reset. -/
def State.heldUp (s : State) (mv : Nat) : State :=
  if s.chip.phase = 8 then
    (s.onChip (fun c => (c.yieldLease 8).record 4 0xFF 3 0 [] [mv, c.get engineAt Engine.cycle_count])).powerDown
  else s.keepRetained s.chip.captureAxes

theorem heldUp_nor (s : State) (mv : Nat) : (s.heldUp mv).flash.nor = s.flash.nor := by
  unfold State.heldUp
  split
  · exact congrArg Prod.fst (powerDown_stamped _)
  · rfl

/-- The module as a power fail leaves it, in S0. -/
def State.powerLost (s : State) (mv : Nat) : State :=
  if s.chip.phase = 0 then s.lsGone else (((s.heldUp mv).stampAndFlush s.chip.stamp .holdup 16384).onChip Chip.afterReset).lsGone

theorem powerFail_to {mv : BitVec 16} (h : mv.toNat < 14000) (back : Bool) (s : State) : exec (.powerFail mv back) s =
    if back then .next (((s.powerLost mv.toNat).onChip (·.assertCmp 0)).startS1 1 0) else .next (s.powerLost mv.toNat) := by
  have hbelow : isBelow 14000 mv.toNat = true := decide_eq_true (by omega)
  show execPowerFail mv back s = _
  unfold execPowerFail
  rw [if_neg (by simp [hbelow])]
  rfl

theorem powerLost_keeps (s : State) (mv : Nat) : (s.powerLost mv).chip.phase = 0 ∧ (s.powerLost mv).flash.nor = s.flash.nor ∧
    (s.chip.phase ≠ 0 → (s.powerLost mv).flash.retained.failStamp = s.chip.stamp) := by
  unfold State.powerLost
  split
  · next hp => exact ⟨(lsGone_keeps s).1.trans hp, rfl, fun h => absurd hp h⟩
  · have hflush := stampAndFlush_stamped (s.heldUp mv) s.chip.stamp 16384
    exact ⟨(lsGone_keeps _).1.trans (afterReset_phase _), (congrArg Prod.fst hflush).trans (heldUp_nor s mv), fun _ => congrArg Prod.snd hflush⟩

theorem powerFail_rests {mv : BitVec 16} {s : State} (h : mv.toNat < 14000) (hp : s.chip.phase ≠ 0) :
    ∃ t, exec (.powerFail mv false) s = .next t ∧ t.chip.phase = 0 ∧ t.flash.retained.failStamp = s.chip.stamp ∧ t.flash.nor = s.flash.nor :=
  have ⟨hphase, hnor, hstamp⟩ := powerLost_keeps s mv.toNat
  ⟨_, powerFail_to h false s, hphase, hstamp hp, hnor⟩

theorem powerFail_starts {mv : BitVec 16} (s : State) (h : mv.toNat < 14000) : ∃ t, exec (.powerFail mv true) s = .next t ∧
    t.chip.phase = 1 ∧ t.chip.get statusAt Status.start_cause = 1 ∧ t.flash.nor = s.flash.nor :=
  have ⟨hphase, hcause, _, hnor⟩ := startS1_notes ((s.powerLost mv.toNat).onChip (·.assertCmp 0)) 0 (show 1 < 256 by decide)
  ⟨_, powerFail_to h true s, hphase, hcause, hnor.trans (powerLost_keeps s mv.toNat).2.1⟩

/-! ### The loss of TB (R60): every fitted region is fenced -/

theorem markClock_steady_fenced (c : Chip) (r d : Nat) (lost : Bool) : (c.markClock r d lost).steady.fenced = c.steady.fenced ∧
    (c.markClock r d lost).steady.faultCause = c.steady.faultCause := by cases lost <;> exact ⟨rfl, rfl⟩

theorem markClock_posted (c : Chip) (r d : Nat) (lost : Bool) : (c.markClock r d lost).posted = c.posted := by
  have hput : ∀ (e : Chip) {f : Field} (v : Nat), 16 ≤ f.first → f.first < 65536 → (e.put (regionAt r) f v).posted = e.posted :=
    fun e f v h h' => Chip.putI_posted e v (unposted_region r (by omega) (by omega))
  simp only [Chip.markClock, Chip.putBit]
  rw [Chip.when_posted (fun e => hput e _ (by decide) (by decide)), hput _ _ (by decide) (by decide), Chip.posted_congr (Chip.setSys_regs _ _)]

/-- Which regions are fitted. -/
def Chip.fittedWord (c : Chip) : Nat := c.get identAt Ident.fitted

theorem fittedWord_of_posted {c d : Chip} (h : d.posted = c.posted) : d.fittedWord = c.fittedWord := congrArg Prod.fst h

theorem put_fittedWord (c : Chip) {b : Nat} {f : Field} (v : Nat) (h : identAt ≠ f.at b 0) : (c.put b f v).fittedWord = c.fittedWord :=
  Chip.get_put_other c h

/-- The words of a region lie below the module's own. -/
theorem region_not_ident {r : Nat} (hr : r < 8) {f : Field} (h : f.first < 65536) : identAt ≠ f.at (regionAt r) 0 := by
  rw [Field.at_eq, regionAt, blockAddr, identAt]
  omega

/-- The chip of a region whose fence has begun, before the region's parts are stopped. -/
def Chip.fenceBegun (c : Chip) (r : Nat) : Chip :=
  let c0 := c.setSys (fun y => { y with fenced := withBit y.fenced r true })
  let c1 := ((c0.put statusAt Status.fenced (c0.sys.fenced ||| c0.sys.declared)).put statusAt Status.region_fence_seen 1).putBit statusAt
    Status.running r false
  (c1.put (regionAt r) Region.running 0).put (regionAt r) Region.beacon_ok 0

theorem fenceBegun_fitted (c : Chip) {r : Nat} (hr : r < 8) : (c.fenceBegun r).fittedWord = c.fittedWord := by
  simp only [Chip.fenceBegun, Chip.putBit]
  rw [put_fittedWord _ _ (region_not_ident hr (by decide)), put_fittedWord _ _ (region_not_ident hr (by decide)),
    put_fittedWord _ _ (by decide), put_fittedWord _ _ (by decide), put_fittedWord _ _ (by decide)]
  rfl

/-- The chip of a region whose parts are stopped. -/
def Chip.fenceStops (c : Chip) (r : Nat) : Chip :=
  let c3 := c.each ((List.range 16).map (fun k => 16 * r + k)) Chip.guardChan
  let c4 := ((c3.stopSlice r 2).stageCause (2 * r) 1 true).stageCause (2 * r + 1) 1 true
  let c5 := ((c4.portSync r).stopIsle r 5).svyAbortRegion r
  let c6 := if r ≤ 1 then (c5.laneFault r).stationDown r else c5
  if r = 1 then c6.stopRecorder else c6

theorem fenceStops_posted (c : Chip) (r : Nat) : (c.fenceStops r).posted = c.posted := by
  have hlane : ∀ d : Chip, (if r ≤ 1 then (d.laneFault r).stationDown r else d).posted = d.posted := fun d => by
    split
    · rw [Chip.stationDown_posted, Chip.laneFault_posted _ (by omega)]
    · rfl
  have hrec : ∀ d : Chip, (if r = 1 then d.stopRecorder else d).posted = d.posted := fun d => by
    split
    · exact d.stopRecorder_posted
    · rfl
  rw [Chip.fenceStops, hrec, hlane, Chip.svyAbortRegion_posted, Chip.stopIsle_posted, Chip.portSync_posted, Chip.stageCause_posted,
    Chip.stageCause_posted, Chip.stopSlice_posted, Chip.each_posted (fun d g => d.guardChan_posted g)]

theorem fenceRegion_fitted (s : State) {r : Nat} (hr : r < 8) : (s.fenceRegion r).chip.fittedWord = s.chip.fittedWord := by
  have hstops : ((s.chip.fenceBegun r).fenceStops r).fittedWord = s.chip.fittedWord :=
    (fittedWord_of_posted (fenceStops_posted _ r)).trans (fenceBegun_fitted _ hr)
  unfold State.fenceRegion
  split
  · rfl
  · refine Eq.trans (b := Chip.fittedWord (State.chip (if r = 0
      then (s.onChip (fun _ => (s.chip.fenceBegun r).fenceStops r)).startQuench 5
      else s.onChip (fun _ => (s.chip.fenceBegun r).fenceStops r)))) rfl ?_
    split
    · exact (fittedWord_of_posted (startQuench_posted _ 5)).trans hstops
    · exact hstops

/-- One region whose guard misses TB. -/
def State.guardLost (s : State) (r : Nat) : State := (s.onChip (·.markClock r 0 true)).fenceRegion r

/-- What the guards' fences bring about: every region of the list is fenced, no fence is undone, and the module's fault stands as it was. -/
structure State.Guards (s : State) (rs : List Nat) (t : State) : Prop where
  stand : FencesStand s t
  fault : t.chip.sys.faultCause = s.chip.sys.faultCause
  fenced : ∀ r ∈ rs, t.chip.regionFenced r = true

theorem guardLost_guards {s : State} {r : Nat} (hfit : s.chip.fitted r = true) : s.Guards [r] (s.guardLost r) := by
  obtain ⟨hfen, hfault⟩ := markClock_steady_fenced s.chip r 0 true
  have hmark : FencesStand s (s.onChip (·.markClock r 0 true)) := .of_eq hfen
  have hfit' : (s.onChip (·.markClock r 0 true)).chip.fitted r = true := (fitted_of_posted (markClock_posted s.chip r 0 true) r).trans hfit
  unfold State.guardLost
  cases hf : (s.onChip (·.markClock r 0 true)).chip.regionFenced r with
  | true =>
    rw [State.fenceRegion, if_pos (by rw [hf, Bool.true_or])]
    exact ⟨hmark, hfault, by simpa using hf⟩
  | false =>
    obtain ⟨hr, hstand⟩ := fenceRegion_fences hf hfit'
    refine ⟨hmark.trans hstand, ?_, by simpa using hr⟩
    exact (congrArg SysSt.faultCause (fenceRegion_steady hf hfit')).trans hfault

theorem guardLost_fitted (s : State) {r : Nat} (hr : r < 8) : (s.guardLost r).chip.fittedWord = s.chip.fittedWord :=
  (fenceRegion_fitted _ hr).trans (fittedWord_of_posted (markClock_posted s.chip r 0 true))

theorem fitted_of_word {c d : Chip} (h : d.fittedWord = c.fittedWord) (q : Nat) : d.fitted q = c.fitted q := congrArg (·.testBit q) h

theorem guardsLost_guards {s : State} {rs : List Nat} (h : ∀ r ∈ rs, r < 8 ∧ s.chip.fitted r = true) :
    s.Guards rs (rs.foldl State.guardLost s) := by
  induction rs generalizing s with
  | nil => exact ⟨fun _ hq => hq, rfl, nofun⟩
  | cons r rs ih =>
    obtain ⟨hr, hfit⟩ := h r (.head _)
    obtain ⟨hstand, hfault, hfen⟩ := guardLost_guards hfit
    have htail := ih (s := s.guardLost r) (fun q hq => ⟨(h q (.tail _ hq)).1,
      (fitted_of_word (guardLost_fitted s hr) q).trans (h q (.tail _ hq)).2⟩)
    refine ⟨hstand.trans htail.stand, htail.fault.trans hfault, fun q hq => ?_⟩
    rcases List.mem_cons.1 hq with rfl | hq
    · exact htail.stand q (hfen q (.head _))
    · exact htail.fenced q hq

theorem moduleFault_cause (c : Chip) (cause r : Nat) :
    (c.moduleFault cause r).sys.faultCause = if c.sys.faultCause = 0 then cause else c.sys.faultCause :=
  congrArg SysSt.faultCause (Chip.moduleFault_steady c cause r)

theorem tbLossFence_fences {s : State} (hp : 2 ≤ s.chip.phase) (h : s.chip.regions.all s.chip.regionFenced = false) :
    ∃ t, exec .tbLossFence s = .next t ∧ (t.chip.sys.faultCause = if s.chip.sys.faultCause = 0 then 1 else s.chip.sys.faultCause) ∧
      (∀ q, s.chip.regionFenced q = true → t.chip.regionFenced q = true) ∧
      ∀ r : Fin 8, s.chip.fitted r = true → t.chip.regionFenced r = true := by
  have hrun : exec .tbLossFence s = .next ((s.chip.regions.foldl State.guardLost s).onChip (·.moduleFault 1 0xFF)) := by
    show execTbLossFence s = _
    unfold execTbLossFence
    rw [if_neg (by simp [h]; omega), if_neg (by omega)]
    rfl
  obtain ⟨hstand, hfault, hfen⟩ := guardsLost_guards (s := s) (rs := s.chip.regions) (fun r hr => by
    obtain ⟨hlt, hfit⟩ := List.mem_filter.1 hr
    exact ⟨List.mem_range.1 hlt, hfit⟩)
  have hlast : FencesStand (s.chip.regions.foldl State.guardLost s) ((s.chip.regions.foldl State.guardLost s).onChip (·.moduleFault 1 0xFF)) :=
    .of_eq (moduleFault_fenced _ 1 0xFF)
  refine ⟨_, hrun, ?_, hstand.trans hlast, fun r hr => hlast r (hfen r (List.mem_filter.2 ⟨List.mem_range.2 r.isLt, hr⟩))⟩
  rw [← hfault]
  exact moduleFault_cause _ 1 0xFF

/-- A core voltage outside its limits is module-level fault 6 (R90). -/
theorem coreVoltageFault_faults {s : State} {mv : BitVec 16} (hp : 2 ≤ s.chip.phase) (h : mv.toNat < 850 ∨ 950 < mv.toNat) :
    ∃ t, exec (.coreVoltageFault mv) s = .next t ∧
      t.chip.sys.faultCause = if s.chip.sys.faultCause = 0 then 6 else s.chip.sys.faultCause := by
  have hrun : exec (.coreVoltageFault mv) s = .next (s.onChip (·.moduleFault 6 0xFF)) := by
    show chipOnly s _ = _
    rw [chipOnly, State.onChip, if_neg (by simp; omega)]
    rfl
  exact ⟨_, hrun, moduleFault_cause _ 6 0xFF⟩

/-- Settles O8, a command at a time: the words that a comparator, an exhausted supercapacitor and the dormant command write, the reset
that ends a power fail, and the fences of the guards. -/
theorem alwaysOnDomain : Obligations.AlwaysOnDomain := by
  intro s
  refine ⟨fun k hnow hp => ?_, fun k hnow hp hw => ?_, fun k => comparatorClear_clears k s, scapExhausted_loses,
    fun mv h hp => powerFail_rests h hp, fun mv h => powerFail_starts s h, fun session hrole hres hp => ⟨fun h2 h5 heng => ?_, fun hl hnone => ?_⟩,
    fun mv hp h => coreVoltageFault_faults hp h, tbLossFence_fences⟩
  · obtain ⟨hshown, hlatched, hwords⟩ := assertCmp_asserts s.chip k.isLt hnow
    exact ⟨_, comparatorAssert_shows hnow hp, hshown, hlatched, ⟨rfl, rfl⟩, hwords⟩
  · obtain ⟨hphase, hcause, hstarts, -⟩ := startS1_notes (s.onChip (·.assertCmp k)) (cause := if k = 0 then 1 else 2) (if k = 0 then 0 else k)
      (by split <;> decide)
    exact ⟨_, comparatorAssert_wakes hnow hp hw, hphase, hcause, hstarts⟩
  · have hres1 : ∀ c : Chip, (c.put supplyAt Supply.result 1).get supplyAt Supply.result = 1 := fun c =>
      Chip.get_put_of_lt c _ (by decide) (by decide)
    have hpending : ∀ c : Chip, ((c.put supplyAt Supply.dormant_pending 1).put supplyAt Supply.result 1).get supplyAt Supply.dormant_pending = 1 :=
      fun c => by rw [Chip.get_put_other _ (by decide), Chip.get_put_of_lt _ _ (by decide) (by decide)]
    exact ⟨_, dormant_waits hrole hres hp h2 h5 heng, hpending _, hres1 _, ⟨rfl, rfl⟩,
      (Chip.WordsBut.put _ _ (.inl dormant_at.1)).trans (.put _ _ (.inr dormant_at.2))⟩
  · have hres3 : ∀ c : Chip, (c.put supplyAt Supply.result 3).get supplyAt Supply.result = 3 := fun c =>
      Chip.get_put_of_lt c _ (by decide) (by decide)
    exact ⟨_, dormant_refused hrole hres hl hnone, hres3 _, Chip.WordsBut.put _ _ dormant_at.2⟩

end Sys2Proof.Machine
end
